-- ==== Sys2Proof/Word.lean ====
section
/-! DEFINITION. The words of the LY4844: bytes and byte strings (R37, R42). -/

namespace Sys2Proof

/-- One byte of a PDU, an object value, a frame or a record. -/
abbrev Byte := BitVec 8

/-- A byte string, the first byte on the wire first (R37). -/
abbrev Bytes := List Byte

end Sys2Proof
end

