-- ==== Sys2Proof/Syntax.lean ====
section
/-! DEFINITION. The commands of the LY4844 as data: one constructor of Instr per row of spec/opcode_table.json.
A command carries what its sender or the surroundings supply (a HAP frame, a measured value, a frame's bytes);
everything the part itself decides is in its meaning. -/

namespace Sys2Proof

/-- A HAP partner (02_management_access.md, Ownership lock and sessions): on CAN the controller (transports 0x00 to 0x03,
address empty, port 0), on UDP the port (0x04 to 0x2F for P00 to P43) with the source address and source port; `mac` and `tag` are the
source MAC address and the tagging (PCP, VID) of the frame, which answers go back to and which do not tell partners apart. -/
structure Partner where
  transport : Nat
  addr : Bytes
  port : Nat
  mac : Bytes := []
  tag : Option (Nat × Nat) := none
  deriving DecidableEq, Repr

/-- R30: a memory error that an access meets: the Pantry bank, and whether it is uncorrectable. -/
structure MemErr where
  bank : Nat
  fatal : Bool
  deriving DecidableEq, Repr

/-- R35, R297: the format of a CAN frame. -/
inductive CanFmt where
  | cc | fd | xl
  deriving DecidableEq, Repr

/-- What the surroundings answer while a HAP request is served: the memory errors of objects by key (R30), whether an
image's VENDOR_SIG verifies under Yehild's key in ROM (R482), what an external PHY answers (R293), the degradations of the ageing
sites in ppm (R540), and whether the VDD_CORE regulator acknowledges (R564). -/
structure HapEnv where
  mem : List (Nat × MemErr)
  vendor : Bool
  mdio : Nat
  degrade : List Int
  acked : Bool
  deriving DecidableEq, Repr

/-- The frame around a HAP request (R38): where it came from, how many PDU bytes were received, and every PDU field
but OPCODE, INDEX, SUB and PAYLOAD, which the command's row supplies. `mac` is empty unless FLAGS[0] is set. -/
structure HapHdr where
  src : Partner
  xl : Bool
  received : Nat
  ver : Nat
  flags : Nat
  txn : Nat
  status : Nat
  length : Nat
  token : Nat
  seq : Nat
  mac : Bytes
  crc : Nat
  env : HapEnv
  deriving DecidableEq, Repr

/-- A whole HAP request: its frame and the fields that a command's row supplies. -/
structure HapReq where
  h : HapHdr
  opcode : Nat
  index : Nat
  sub : Nat
  payload : Bytes
  deriving DecidableEq, Repr

/-- An NTS-KE client's connection to TCP port 4460 (R381): the TLS alert that the handshake fails with for a reason of the client's, if any,
whether TLS 1.3 is offered, the codes of its cipher suites and groups, its ALPN protocol names, the NTS-KE records it sends, and the keys of
RFC 8915 that the session's exporter gives (client to server, server to client). -/
structure TlsClient where
  alert : Option Nat
  tls13 : Bool
  suites : List Nat
  groups : List Nat
  alpn : List Bytes
  records : Bytes
  c2s : Bytes
  s2c : Bytes
  deriving DecidableEq, Repr

/-- What one tracking channel measures at a latch (Table 7-9): the signal's own values, the transmit time modulo the primary code period
and the satellite's predicted range (2^-14 ns), whether the ephemeris received from the air is valid, the transmit time that the decoded
time of week gives (2^-14 ns), and whether the constellation broadcasts its offset to the primary (R194, R208, R209). -/
structure SkyMeas where
  channel : Nat
  code : Bool := false
  carrierLock : Bool := false
  half : Bool := false
  slip : Bool := false
  cn0 : Nat := 0
  lockTime : Nat := 0
  phase : Nat := 0
  range : Nat := 0
  carrier : Int := 0
  doppler : Int := 0
  noise : Nat := 0
  elev : Int := 0
  azim : Nat := 0
  eph : Bool := false
  tow : Option Nat := none
  sysOff : Bool := false
  deriving DecidableEq, Repr

/-- What the signals give the solver at a latch (R208 to R212): for each channel its code measurement as the primary's time of week less MT
(2^-16 ns) at the solution's position, and its combined 1 sigma (ps); the solution's 1 sigma (ps), the broadcast offset to UTC (2^-16 ns), ECEF
position (mm) with 1 sigma and velocity (mm/s), and the GPS week count: whether it is a full one, and its number (modulo 1,024 otherwise). -/
structure SkyFix where
  readings : List (Nat × Int × Nat)
  unc : Nat
  steer : Int
  x : Int
  y : Int
  z : Int
  posUnc : Nat
  vx : Int
  vy : Int
  vz : Int
  week : Option (Bool × Nat)
  deriving DecidableEq, Repr

/-- What a 100 ms burst of the hardware tracker gives the solver (R219, R220): the solution over every satellite, and the one without a satellite
that the checks exclude. -/
structure SkyFixes where
  fix : Option SkyFix
  refit : Option SkyFix
  deriving DecidableEq, Repr

/-- Where an acquisition dwell ran (R191): the search slot, and the tracking channel that a detection is offered. -/
structure AcqPlace where
  slot : Nat
  channel : Nat
  deriving DecidableEq, Repr

/-- What a search knows of its satellite's orbit: the almanac or ephemeris held (0 none, 1 almanac, 2 ephemeris), and for GLONASS the frequency
number k (R190, R192). -/
structure GloSlot where
  orbit : Nat
  freq : Int
  deriving DecidableEq, Repr

/-- What a correlator dump reads (R201 to R203): C/N0 in 0.01 dB-Hz and the I and Q sums of the accumulators. -/
structure DumpReading where
  cn0 : Nat
  acc : List (Int × Int)
  deriving DecidableEq, Repr

/-- When an accepted value takes effect, in ticks after its acceptance (within 1 ms, R86), and the units that are then not ready to latch (R73). -/
structure ApplyAt where
  delay : Nat
  stuck : List (Nat × Nat)
  deriving DecidableEq, Repr

/-- What the pins show at the release of the internal reset: the LO straps (R107) and VDDIO in mV (R563). -/
structure Straps where
  loSel : Nat
  vddio : Nat
  deriving DecidableEq, Repr

/-- What a start finds spoiled in flash: the key slots whose wrap check fails (R475, R477), the copies of the holdover model (R168), of the
configuration (R551) and of the key store (R476) that are not valid, and whether the boot record's CRC fails (R491). -/
structure StoreFaults where
  slots : List Nat
  models : List Nat
  configs : List Nat
  copies : List Nat := []
  boot : Bool := false
  deriving DecidableEq, Repr

/-- The commands of the block: one constructor per row of spec/opcode_table.json, in its order.
Each docstring gives the row's name, its rule and its summary; the operands are what the sender or the surroundings supply (an operand of type
Unit carries nothing). -/
inductive Instr where
  /-- READ (R43): A HAP READ request returns the live or staged value of an object, after the ownership, session and access checks. -/
  | read (h : HapHdr) (opcode index sub : Nat) (payload : Bytes)
  /-- WRITE (R43): A HAP WRITE to an object that has no behaviour of its own stores the value in the live or staged copy after the type and range checks. -/
  | write (h : HapHdr) (index sub : Nat) (payload : Bytes)
  /-- READ_INIT (R59): Starts a segmented read by copying the value into the transfer buffer and returning TOTAL. -/
  | readInit (h : HapHdr) (index sub : Nat) (payload : Bytes)
  /-- READ_SEG (R59): Returns one segment of the copied value, and the segment carrying the last byte ends the transfer. -/
  | readSeg (h : HapHdr) (index sub : Nat) (payload : Bytes)
  /-- WRITE_INIT (R57): Starts a segmented write after checking TOTAL against its range and against the object's type. -/
  | writeInit (h : HapHdr) (index sub : Nat) (payload : Bytes)
  /-- WRITE_SEG (R58): Adds one segment to the transfer buffer, and the final segment checks and writes the whole value. -/
  | writeSeg (h : HapHdr) (index sub : Nat) (payload : Bytes)
  /-- ABORT (R61): The owner aborts the open segmented transfer, which leaves the target object unchanged. -/
  | abort (h : HapHdr) (index sub : Nat) (payload : Bytes)
  /-- XFER_TIMEOUT (R61): HAP_XFER_TIMEOUT expires without the next frame of a transfer arriving, so the transfer is aborted and recorded. -/
  | xferTimeout
  /-- LOCK_ACQUIRE (R46): A write of 1 to LOCK_REQUEST grants the lock with a fresh token from the DRBG, or returns the current token to the owner. -/
  | lockAcquire (hs : List HapHdr)
  /-- LOCK_RELEASE (R50): A write of 0 to LOCK_REQUEST releases the lock, aborts transfers and reverts staged copies that are not frozen. -/
  | lockRelease (h : HapHdr)
  /-- LOCK_IDLE_TIMEOUT (R50): No valid owner frame arrives for LOCK_IDLE_TIMEOUT, so the lock is released. -/
  | lockIdleTimeout
  /-- SESSION_HOST_NONCE (R53): A write of the host nonce draws a device nonce and moves the lock to PENDING, ending any session in force. -/
  | sessionHostNonce (h : HapHdr) (nonce : Bytes)
  /-- SESSION_PROOF (R53): A write of the proof in PENDING establishes SESSION, or fails to OPEN or to a release according to the policy. -/
  | sessionProof (h : HapHdr) (proof : Bytes)
  /-- HANDSHAKE_TIMEOUT (R53): No proof arrives within 1 s of entering PENDING, so the lock goes to OPEN under policy 0 or is released under policy 1. -/
  | handshakeTimeout
  /-- HEARTBEAT (R62): HAP_HB_PERIOD expires and a HEARTBEAT frame is sent on the enabled CAN controllers and to a UDP owner. -/
  | heartbeat
  /-- COMMIT_IMMEDIATE (R70): An immediate COMMIT_REQUEST is checked, accepted and waits for its units to latch ready. -/
  | commitImmediate (h : HapHdr) (groups modeHi slot rsv : Nat) (instant : Bytes)
  /-- COMMIT_SWITCH (R70): Every unit of an accepted immediate commit is ready, so the time-affecting groups switch at one tick and the per-unit groups apply. -/
  | commitSwitch (groups : Nat) (stuck : List (Nat × Nat))
  /-- COMMIT_READY_TIMEOUT (R70): A unit of a time-affecting group is not ready 1 ms after acceptance, so the commit ends with 0x100A and nothing changes. -/
  | commitReadyTimeout (groups : Nat)
  /-- COMMIT_SCHEDULED (R71): A scheduled COMMIT_REQUEST is checked, takes a slot and freezes the staged copies of its groups. -/
  | commitScheduled (h : HapHdr) (groups modeHi slot rsv : Nat) (instant : Bytes)
  /-- COMMIT_DISCARD (R68): Reverts the staged copies of the selected groups to their live values, unless a selected group is frozen. -/
  | commitDiscard (h : HapHdr) (mask : Nat)
  /-- COMMIT_CANCEL (R73): Cancels the scheduled commit or step in a slot before its latch and frees the slot. -/
  | commitCancel (h : HapHdr) (slot : Nat)
  /-- SLOT_LATCH (R73): MT reaches INSTANT minus 500 µs, so a slot latches its staged values or checks its step conditions. -/
  | slotLatch (slot : Nat) (stuck : List (Nat × Nat))
  /-- SLOT_EXECUTE (R93): MT reaches INSTANT, so the latched actions of that tick execute in ascending slot order. -/
  | slotExecute (stuck : List (Nat × Nat))
  /-- MT_SET (R86): A write of MT_SET before the first lock is accepted to replace MT within 1 ms. -/
  | mtSet (h : HapHdr) (value : Bytes)
  /-- MT_SET_APPLY (R86): The accepted MT_SET value replaces MT at its tick, clears the pull and moves T0 to T1. -/
  | mtSetApply (due : ApplyAt)
  /-- MT_STEP_IMMEDIATE (R87): An immediate MT_STEP request is checked and accepted for a step within 1 ms. -/
  | mtStepImmediate (h : HapHdr) (amount : Int) (modeHi slot rsv : Nat) (instant : Bytes)
  /-- MT_STEP_SCHEDULED (R87): A scheduled MT_STEP request is checked and takes a scheduled-action slot. -/
  | mtStepScheduled (h : HapHdr) (amount : Int) (modeHi slot rsv : Nat) (instant : Bytes)
  /-- STEP_APPLY (R88): MT steps by AMOUNT at one tick, with every replica, scale and bound domain, and the step is counted and recorded. -/
  | stepApply (delay : Nat) (stuck : List (Nat × Nat))
  /-- PULL_COMPLETE (R83): The phase pull remainder is used up, so the last tick applies the exact remainder and A returns to 0. -/
  | pullComplete
  /-- DOM_PULL_COMPLETE (R102): The offset pull of a bound domain is used up on its last tick. -/
  | domPullComplete (dom : Nat)
  /-- LEAP_PENDING_BEGIN (R99): MT comes within 86,400 s of a leap entry's instant, so MT_LEAP_PENDING is set. -/
  | leapPendingBegin
  /-- LEAP_INSTANT (R99): MT reaches a leap entry's instant, so MT_UTC_OFFSET takes the new offset and the change is recorded. -/
  | leapInstant
  /-- MT_REPLICA_FAULT (R20): An MT replica fails its integrity check, so the unit marks that tick's stamps invalid and realigns at the next tick. -/
  | mtReplicaFault (unit : Nat)
  /-- RESET_RELEASE (R553): The internal reset is released and the device runs its boot sequence up to the root lock and image verification. -/
  | resetRelease (straps : Straps) (entropy puf : Bool) (found : StoreFaults) (shipped : List (Nat × Bytes)) (vendor : List Bool)
  /-- SUPPLY_RESET (R547): A monitored rail falls below its threshold for more than 2 µs, so the internal reset is asserted. -/
  | supplyReset (vbat torn : Bool)
  /-- RST_N_ASSERT (R547): RST_N is held low for 1 µs or more, so the internal reset is asserted. -/
  | rstNAssert
  /-- OVERTEMP_RESET (R574): The die reaches 140 °C, so the internal reset is held until the die is below 120 °C. -/
  | overtempReset
  /-- DEVICE_WATCHDOG (R556): The cores stay halted, or the configuration load is late, so the device watchdog resets with cause 3. -/
  | deviceWatchdog
  /-- CONFIG_LOAD (R552): After image acceptance, firmware loads the newest valid configuration copy and requests one immediate commit. -/
  | configLoad (stuck : List (Nat × Nat))
  /-- ROOT_LOCK (R114): The phase error stays within ±200 ps for 2 ms, so Hearth declares the root lock. -/
  | rootLock
  /-- ROOT_LOCK_LOST (R115): LO_IN edges stop for 1 µs, or the phase error exceeds ±1 ns on 10 comparisons, so the root becomes UNLOCKED. -/
  | rootLockLost (cause : Nat)
  /-- ROOT_FAULT (R122): The root deviation passes ±200,000 ppb, or the VCO control reaches a rail, so Hearth enters FAULT. -/
  | rootFault (dev : Int) (rail : Bool)
  /-- LO_MEASURE (R109): The 1 s gate ends and the measured LO frequency is published. -/
  | loMeasure (hz : Nat)
  /-- CKO_ALIGN (R123): An aligned clock output starts its first cycle at the next whole MT second. -/
  | ckoAlign (n : Nat)
  /-- DPLL_UPDATE (R151): Once per millisecond the DPLL writes its integral path to D and hands its proportional path to Mantel as phase corrections. -/
  | dpllUpdate
  /-- CANDIDATE_PHASE_MEASUREMENT (R138): A phase measurement of a candidate arrives and passes through the jump and phase monitors. -/
  | candidatePhaseMeasurement (cand : Nat) (stuck : List (Nat × Nat)) (u : Unit)
  /-- FREQ_MONITOR (R136): Every second the regression of each candidate is compared with the prediction, against the accept and reject limits. -/
  | freqMonitor (u : Unit)
  /-- ACTIVITY_TIMEOUT (R135): No on-time edge arrives within 1.5 nominal periods, so the REFIN candidate's activity is absent. -/
  | activityTimeout (refin : Nat)
  /-- HOLDOFF_EXPIRY (R144): THERM_HOLDOFF expires without activity, so the candidate moves to FAILED. -/
  | holdoffExpiry (cand : Nat)
  /-- WTR_EXPIRY (R144): The wait-to-restore timer reaches THERM_WTR, so the candidate becomes QUALIFIED. -/
  | wtrExpiry (cand : Nat)
  /-- SELECTION_EVALUATION (R148): Every millisecond Thermostat ranks the candidates and selects, switches or enters holdover. -/
  | selectionEvaluation (stuck : List (Nat × Nat))
  /-- LOCK_DWELL_EXPIRY (R154): The lock conditions have held for THERM_LOCK_TIME, so lock is declared and MT enters T3. -/
  | lockDwellExpiry
  /-- LEARNING_SAMPLE (R165): Each second a learning sample of the oscillator offset and temperature is taken. -/
  | learningSample
  /-- MODEL_REFIT (R166): Every 60 s the holdover model is refitted and its state may change. -/
  | modelRefit
  /-- MODEL_SAVE (R168): Every hour a VALID holdover model is written to the alternate flash region. -/
  | modelSave
  /-- TEMP_SAMPLE (R163): Every 100 ms θ is taken from the selected temperature source, and faults are detected. -/
  | tempSample (die : Int) (dieOk : Bool) (ohms : Nat)
  /-- TEMP_HOST_TIMEOUT (R164): With source 2, no HO_TEMP_HOST write arrives for 10 s, so a temperature fault begins. -/
  | tempHostTimeout
  /-- BOUND_UPDATE (R171): In holdover the bound is recomputed each second and T4 moves to T5 when it exceeds HO_LIMIT. -/
  | boundUpdate
  /-- COMPAT_TIMER_EXPIRY (R182): The LY2010-compatible countdown expires, so T4 moves to T5. -/
  | compatTimerExpiry
  /-- HO_MODEL_CLEAR (R167): Clears the holdover model to EMPTY and sets k to 1, except during holdover. -/
  | hoModelClear (h : HapHdr) (value : Bytes)
  /-- ACQ_DWELL (R191): An acquisition dwell completes and a detected signal is assigned to a channel for pull-in. -/
  | acqDwell (place : AcqPlace) (signal sv : Nat) (glonass : GloSlot) (detected : Bool) (elev : Int) (azim : Nat)
  /-- PULL_IN_TIMEOUT (R203): No carrier lock within 200 ms of assignment, so the channel becomes FREE. -/
  | pullInTimeout (channel : Nat)
  /-- CORRELATOR_DUMP (R202): A 1 ms correlator dump is read and the tracking loops are closed. -/
  | correlatorDump (channel : Nat) (reading : DumpReading) (locked updated : Bool) (nav : Option (Int × Bytes))
  /-- COAST_TIMEOUT (R203): A channel has been in COAST for 1 s, so it becomes FREE. -/
  | coastTimeout (channel : Nat)
  /-- LOOP_UPDATE_TIMEOUT (R204): No channel receives an NCO update for 20 ms, so the solution is invalid and SKY activity is absent. -/
  | loopUpdateTimeout
  /-- MEAS_LATCH (R205): MT reaches a latch instant, so the channel measurements are latched and a time solution is computed. -/
  | measLatch (meas : List SkyMeas) (fix refit : Option SkyFix)
  /-- ANT_CURRENT_MEASURE (R187): The antenna current measurement moves the supply between NORMAL, OPEN and SHORT. -/
  | antCurrentMeasure (current : Nat)
  /-- ANT_SHORT_RETRY (R187): Once per second a shorted antenna supply is retried for 1 ms. -/
  | antShortRetry (current : Nat)
  /-- AGC_INTERFERENCE (R189): A band's AGC gain drops more than 10 dB below its hourly median, or returns, and the change is recorded. -/
  | agcInterference (l5 : Bool) (gain : Nat) (u : Unit)
  /-- SKY_ORBIT_LOAD (R196): Host navigation pages are checked, and the accepted ones enter the orbit data. -/
  | skyOrbitLoad (h : HapHdr) (pages : Bytes)
  /-- SKY_AID_POS (R198): A position aid is checked and held for acquisition and kind 3 solutions. -/
  | skyAidPos (h : HapHdr) (value : Bytes)
  /-- SKY_PPS (R217): The internal Skylight pulse is placed at a whole GNSS second and its loopback mismatch is reported. -/
  | skyPps (u : Unit)
  /-- PARK_BURST (R219): In Park the hardware tracker runs a 100 ms burst that ends with a latch at the whole MT second. -/
  | parkBurst (meas : List SkyMeas) (fixes : SkyFixes)
  /-- PREDICTION_EXPIRY (R220): The 4 h prediction span of the hardware tracker passes, so SKY activity is absent until the next wake. -/
  | predictionExpiry
  /-- EDGE_INPUT (R226): An input edge is counted, decimated and captured for conversion, or missed. -/
  | edgeInput (ch : Nat) (falling : Bool) (wait fine : Nat)
  /-- STAMP_CONVERSION (R227): A capture is converted to a stamp and passed to the FIFO, the regression, Thermostat, Skylight and the interval logic. -/
  | stampConversion (ch : Nat)
  /-- INTERVAL_TIMEOUT (R239): No stop edge is found by start plus CH_TIMEOUT, so a timeout record is formed. -/
  | intervalTimeout (ch : Nat)
  /-- REG_GATE_END (R245): A regression gate ends and its result is published with a status. -/
  | regGateEnd (ch : Nat)
  /-- TDC_CAL_SWAP (R234): Every second the two interpolators of a channel swap after a code-density calibration. -/
  | tdcCalSwap (ch : Nat) (bins : List Nat) (u : Unit)
  /-- TDC_CAL_COMPLETE (R235): The first calibration after root lock completes, and channels begin delivering stamps. -/
  | tdcCalComplete
  /-- CH_FIFO_READ (R232): Returns the oldest Threshold records and removes them when the response is sent. -/
  | chFifoRead (h : HapHdr) (ch : Nat)
  /-- OUT_EDGE (R260): A scheduled leading edge of an output falls due and is produced, squelched or held under the state's policy. -/
  | outEdge (n : Nat)
  /-- OUT_TRAILING_EDGE (R257): An active pulse ends OUT_WIDTH after its leading edge. -/
  | outTrailingEdge (n : Nat)
  /-- OUT_REARM (R261): Ends HELD on an output so that it resumes at its next scheduled edge. -/
  | outRearm (h : HapHdr) (n : Nat) (value : Bytes)
  /-- FRAME_RECEIVE (R275): A received Ethernet frame is stamped, checked, then delivered locally, forwarded or dropped. -/
  | frameReceive (port wait fine : Nat) (body : Bytes) (err : Nat) (mem : Option MemErr) (env : HapEnv)
  /-- FRAME_RELEASE (R335): Porch's place for a port is free, so Hallway releases the head frame of the highest eligible queue. -/
  | frameRelease (port : Nat)
  /-- FRAME_TRANSMIT (R307): At the commitment tick Porch fixes stamp_tx, performs insertion and checksum update, and transmits the frame. -/
  | frameTransmit (port wait fine : Nat)
  /-- COLLISION (R285): A collision on a 10BASE-T1S port starts a backoff, or drops the frame after 16 attempts or a late collision. -/
  | collision (port : Nat) (late : Bool)
  /-- BACKOFF_EXPIRY (R285): The collision backoff ends and the port defers to carrier to try again. -/
  | backoffExpiry (port : Nat)
  /-- PLCA_BEACON_TIMEOUT (R284): A follower hears no beacon for 130 ms, so PLCA_STATUS falls to 0. -/
  | plcaBeaconTimeout (port : Nat)
  /-- LINK_UP (R279): Training establishes the link, so the port becomes UP. -/
  | linkUp (port : Nat)
  /-- LINK_LOSS (R280): A port loses its link, goes to DOWN or SLEEP_OFF, and the loss is counted and recorded. -/
  | linkLoss (port : Nat)
  /-- TRAINING_RETRY (R279): Failed training is retried every 100 ms. -/
  | trainingRetry (port : Nat)
  /-- GATE_BOUNDARY (R338): MT reaches a gate list entry boundary, so the next entry's gate states take effect. -/
  | gateBoundary (port : Nat)
  /-- FDB_AGEING_EXPIRY (R330): A learned filtering-database entry is not refreshed within HALL_FDB_AGEING and is removed. -/
  | fdbAgeingExpiry
  /-- HALL_FDB_FLUSH (R351): Removes every learned filtering-database entry. -/
  | hallFdbFlush (h : HapHdr) (value : Bytes)
  /-- XPHY_MDIO (R293): Runs one Clause 45 MDIO access to an external PHY and answers when it has completed. -/
  | xphyMdio (h : HapHdr) (value : Bytes)
  /-- PORT_CNT_CLEAR (R301): Zeroes the counters of a port at one tick. -/
  | portCntClear (h : HapHdr) (port : Nat) (value : Bytes)
  /-- STAMP_PROBE_SEND (R323): Queues one 64-byte probe frame on the port. -/
  | stampProbeSend (h : HapHdr) (port : Nat) (value : Bytes)
  /-- CAN_CFG (R297): A CAN_CFG write applies the new settings, and the controller reintegrates after any frame in progress. -/
  | canCfg (h : HapHdr) (can : Nat) (value : Bytes)
  /-- CAN_INTEGRATED (R300): 11 consecutive recessive bits move the CAN controller to ERROR_ACTIVE. -/
  | canIntegrated (can : Nat)
  /-- CAN_FRAME_RECEIVE (R299): A received CAN frame is handed to Foyer as a HAP request, or else acknowledged and discarded. -/
  | canFrameReceive (can ident : Nat) (fmt : CanFmt) (data : Bytes) (env : HapEnv)
  /-- CAN_ERROR (R300): A CAN bus error moves the error counters and the controller between ERROR_ACTIVE, ERROR_PASSIVE and BUS_OFF. -/
  | canError (can : Nat) (tec rec : Int)
  /-- CAN_BUSOFF_RECOVERY (R300): 128 occurrences of 11 recessive bits move a BUS_OFF controller back to INTEGRATING. -/
  | canBusoffRecovery (can : Nat)
  /-- REQUEST_ADMISSION (R361): A classified time request is admitted with a reservation, or refused under the admission checks. -/
  | requestAdmission (wait : Nat) (mem : Option MemErr)
  /-- RESPONSE_HANDOVER (R367): At a reservation's start Parlour hands the response to Hallway, which releases it on that tick. -/
  | responseHandover (mem : Option MemErr)
  /-- TX_STAMP_RETURN (R384): The returned transmit stamp of a response ends the request's flight and updates the ring's latency statistics. -/
  | txStampReturn
  /-- RING_OBS_CLEAR (R384): Zeroes the latency statistics of a ring at one tick. -/
  | ringObsClear (h : HapHdr) (ring : Nat) (value : Bytes)
  /-- NTSKE_CONNECTION (R381): Study runs an NTS-KE exchange on TCP 4460 and returns cookies. -/
  | ntskeConnection (client : TlsClient) (stays : Bool)
  /-- NTSKE_TIMEOUT (R381): An NTS-KE connection is still open after NTSKE_TIMEOUT and is closed. -/
  | ntskeTimeout
  /-- SYNC_SCHEDULE (R397): An instance schedules a Sync on a port at a multiple of its interval, with its reservation and one-step insertion. -/
  | syncSchedule (inst port : Nat)
  /-- ANNOUNCE_SCHEDULE (R400): An instance schedules an Announce on a port carrying its own or its parent's data. -/
  | announceSchedule (inst port : Nat)
  /-- DELAY_REQ_SCHEDULE (R397): An instance originates a Delay_Req or Pdelay_Req at its scheduled interval. -/
  | delayReqSchedule (inst port : Nat)
  /-- PTP_SYNC_RX (R403): A received Sync gives an offset for a candidate or for a free domain's servo. -/
  | ptpSyncRx (u : Unit)
  /-- PTP_FOLLOW_UP_RX (R403): A Follow_Up completes a two-step Sync for the offset. -/
  | ptpFollowUpRx (u : Unit)
  /-- PTP_ANNOUNCE_RX (R406): A received Announce updates the parent data, the QL of the candidate and the BMCA inputs. -/
  | ptpAnnounceRx
  /-- PTP_DELAY_RESP_RX (R402): A Delay_Resp completes an end-to-end path delay sample. -/
  | ptpDelayRespRx
  /-- PTP_PDELAY_RESP_RX (R402): A Pdelay_Resp completes a peer delay sample and sets asCapable. -/
  | ptpPdelayRespRx
  /-- PTP_SIGNALING_RX (R390): A Signaling message requesting message intervals is honoured within range. -/
  | ptpSignalingRx
  /-- BMCA_DECISION (R393): Study runs the BMCA and sets the port states of a role 2 instance. -/
  | bmcaDecision (inst : Nat)
  /-- QUALIFICATION_TIMEOUT (R395): The qualification time ends and a PRE_TIME_TRANSMITTER port becomes TIME_TRANSMITTER. -/
  | qualificationTimeout (inst port : Nat)
  /-- ANNOUNCE_RECEIPT_TIMEOUT (R413): No Announce arrives within the announce receipt timeout, so the parent is dropped or the port becomes UNCALIBRATED. -/
  | announceReceiptTimeout (inst port : Nat)
  /-- SYNC_RECEIPT_TIMEOUT (R413): No usable Sync arrives within the Sync receipt timeout, with the same effect as the announce timeout. -/
  | syncReceiptTimeout (inst port : Nat)
  /-- PDELAY_LOST_RESPONSES (R396): INST_LOST_RESP consecutive Pdelay_Req go unanswered, so asCapable is cleared. -/
  | pdelayLostResponses (inst port : Nat)
  /-- FREE_BOUND_UPDATE (R412): Every millisecond the free-domain bound grows in T4 and T5, and T4 moves to T5 past the limit. -/
  | freeBoundUpdate (inst : Nat)
  /-- BATCH_END (R419): A ledger batch's period ends at E, so it seals or ends unsealed and the next batch opens. -/
  | batchEnd
  /-- ROOT_COMPLETE (R426): The right edge of the tree is hashed, BATCH_SEQ is assigned and the batch moves to SIGNING. -/
  | rootComplete (wait : Nat)
  /-- SIGN_COMPLETE (R426): The booked sign job returns the signature and the verify job starts on the second lane. -/
  | signComplete (wait : Nat)
  /-- VERIFY_COMPLETE (R428): The second lane verifies the batch signature, releasing the batch or failing it. -/
  | verifyComplete (wait : Nat) (sound third : Bool)
  /-- BOOKED_JOB_TIMEOUT (R433): A booked sign or verify job has not completed by the end of its booked time, so the batch fails. -/
  | bookedJobTimeout
  /-- SR_JOB_SUBMIT (R451): An owner job descriptor is checked and queued. -/
  | srJobSubmit (h : HapHdr) (value : Bytes)
  /-- JOB_DISPATCH (R453): A waiting job is dispatched to a lane once the lane and its slots are free. -/
  | jobDispatch
  /-- JOB_CHECK_END (R457): The fixed check time ends, so the job runs or ends REFUSED, KEY_UNUSABLE or NO_ENTROPY. -/
  | jobCheckEnd (lane : Nat) (ecc : Option Nat)
  /-- JOB_YIELD (R455): At a yield point with a higher job waiting, the lane saves the running job and starts the higher one. -/
  | jobYield (lane wait : Nat) (mem : Bool)
  /-- JOB_COMPLETE (R464): An operation completes, and a signature is then sent for verification on another lane. -/
  | jobComplete (lane wait : Nat) (sound third : Bool)
  /-- SR_JOB_ABORT (R459): Aborts the owner job and zeroes its destinations, scratch and context. -/
  | srJobAbort (h : HapHdr) (value : Bytes)
  /-- SR_LANE_RESTORE (R443): Starts the self-test of a quarantined lane. -/
  | srLaneRestore (h : HapHdr) (value : Bytes)
  /-- SELF_TEST_COMPLETE (R443): A lane's known-answer tests finish, so the lane becomes READY or QUARANTINED. -/
  | selfTestComplete (lane wait : Nat) (pass : Bool)
  /-- SR_SLOT_LAYOUT (R446): Sets the lengths of the owner operand slots and zeroes them. -/
  | srSlotLayout (h : HapHdr) (value : Bytes)
  /-- SR_SLOT_DATA (R466): Writes an owner operand slot unless a job uses it. -/
  | srSlotData (h : HapHdr) (slot : Nat) (value : Bytes)
  /-- ENTROPY_HEALTH_FAILURE (R469): An entropy health test fails, so the DRBG stops giving output. -/
  | entropyHealthFailure (test : Nat)
  /-- ENTROPY_RETEST (R469): 1 s after a failure the start-up tests run again and may restore the entropy source. -/
  | entropyRetest (pass : Bool)
  /-- DRBG_RESEED (R468): After 2²⁰ requests or 1 s the DRBG reseeds with 384 bits. -/
  | drbgReseed
  /-- KH_PROVISION (R471): Enrols the PUF, derives K_PUF, creates the DIK and the first NTS master key, and writes the key store. -/
  | khProvision (h : HapHdr) (value : Bytes)
  /-- KH_OWNER_PUB_SET (R471): Validates and installs the owner public key in BLANK. -/
  | khOwnerPubSet (h : HapHdr) (value : Bytes)
  /-- KH_OWNER_KEY_SET (R472): Unwraps K_OWN through ECDH with the DIK and stores it in slot 62. -/
  | khOwnerKeySet (h : HapHdr) (value : Bytes)
  /-- KH_PROV_COMMIT (R471): Blows the lifecycle fuse and makes the device PROVISIONED. -/
  | khProvCommit (h : HapHdr) (value : Bytes)
  /-- KH_OWNER_XFER (R473): Installs a new owner public key signed by the current owner key. -/
  | khOwnerXfer (h : HapHdr) (value : Bytes)
  /-- KH_KEYGEN (R478): Starts the creation of a key in a general slot. -/
  | khKeygen (h : HapHdr) (value : Bytes)
  /-- KEYGEN_COMPLETE (R478): The public key is computed and the store written, so the slot becomes ACTIVE. -/
  | keygenComplete (slot : Nat)
  /-- KH_KEY_DESTROY (R478): Overwrites and empties a key slot that no live setting or open batch still uses. -/
  | khKeyDestroy (h : HapHdr) (value : Bytes)
  /-- KH_NTS_ROTATE (R480): Rotates the NTS master keys at one tick on command. -/
  | khNtsRotate (h : HapHdr) (value : Bytes)
  /-- NTS_ROTATE_PERIOD_EXPIRY (R480): The Run and Trim time since the last rotation reaches KH_NTS_ROTATE_PERIOD, so the master keys rotate. -/
  | ntsRotatePeriodExpiry
  /-- KH_COSIGN_ENABLE (R483): Blows the co-signature fuse for the next boot. -/
  | khCosignEnable (h : HapHdr) (value : Bytes)
  /-- KH_ROLLBACK_COMMIT (R483): Blows anti-rollback fuses up to the running image's SEC_VERSION. -/
  | khRollbackCommit (h : HapHdr) (value : Bytes)
  /-- TAMPER_INPUT (R484): A tamper pin reads high on 4 consecutive samples, so its flag is set and keys may be locked. -/
  | tamperInput (pin : Nat)
  /-- KH_TAMPER_CLEAR (R485): Clears every tamper flag and returns locked slots to ACTIVE. -/
  | khTamperClear (h : HapHdr) (value : Bytes)
  /-- KH_ATTEST_REQ (R486): Starts an attestation report for a nonce and a slot. -/
  | khAttestReq (h : HapHdr) (value : Bytes)
  /-- ATTEST_COMPLETE (R486): The attestation report is signed and verified, so the state reads ready or failed. -/
  | attestComplete
  /-- CORE_WATCHDOG_EXPIRY (R490): A core misses its watchdog, so it resets alone, or is halted after three resets within 60 s. -/
  | coreWatchdogExpiry (core : Nat)
  /-- CORE_RELOAD_COMPLETE (R490): A reset core has reloaded its code and is in RUN again. -/
  | coreReloadComplete (core wait : Nat)
  /-- STUDY_FW_IMAGE (R492): The final segment of an image write is checked by Keyhole and the image is staged for copying. -/
  | studyFwImage (h : HapHdr) (segno : Nat) (data : Bytes)
  /-- FW_COPY_COMPLETE (R492): The staged image has been copied to the non-running location, and the stage state returns to idle. -/
  | fwCopyComplete
  /-- STUDY_NEXT_LOC (R493): Sets the active-image flag in the boot record for the next reset. -/
  | studyNextLoc (h : HapHdr) (value : Bytes)
  /-- MB_SEND (R495): Queues a whole message in a mailbox direction, or refuses it when the direction is full. -/
  | mbSend (h : HapHdr) (n : Nat) (value : Bytes)
  /-- MB_RECV (R496): Removes and returns the oldest message toward the owner. -/
  | mbRecv (h : HapHdr) (n : Nat)
  /-- DB_IRQ_MASK (R497): Sets the mask that decides whether IRQ_N is driven for pending owner messages. -/
  | dbIrqMask (h : HapHdr) (value : Bytes)
  /-- MB8_SERVICE (R498): Firmware reads an MB8 request and queues its ECHO or error reply. -/
  | mb8Service
  /-- RECORD_FORM (R504): A subsystem's event report is formed into a sequenced, chained record in retention and the pending queue. -/
  | recordForm
  /-- FLASH_RECORD_WRITE (R511): Core 3 programs and reads back a pending record in the flash ring. -/
  | flashRecordWrite (outcome : Nat)
  /-- ATTIC_SNAP (R513): Latches the head, tail and MT of the Attic at one tick. -/
  | atticSnap (h : HapHdr) (value : Bytes)
  /-- ATTIC_CLEAR (R517): A clearance token is checked and a clear of records up to UP_TO begins. -/
  | atticClear (h : HapHdr) (value : Bytes)
  /-- ATTIC_CLEAR_COMPLETE (R518): The clear completes, ATTIC_TAIL becomes UP_TO + 1 and record 0x0E01 is formed. -/
  | atticClearComplete
  /-- LATENCY_TOL (R525): A write of the host latency tolerance sets FB_TARGET and may end a sleep state. -/
  | latencyTol (h : HapHdr) (value : Bytes)
  /-- IDLE_TIME_EXPIRY (R527): FB_IDLE_TIME passes without an owner request or wake, so Fusebox begins entry toward its target. -/
  | idleTimeExpiry
  /-- POWER_ENTRY_COMPLETE (R528): Requests, batches and drains have ended, so the ports sleep and the domains switch off. -/
  | powerEntryComplete
  /-- WAKE (R531): An enabled wake source fires in a sleep state, and the device begins its exit to Run. -/
  | wake (source port : Nat)
  /-- WAKE_IN_PIN (R530): A WAKE_IN pin at its active level for 2 samples acts as a wake source. -/
  | wakeInPin (pin : Nat) (level : Bool)
  /-- CELLAR_ALARM (R538): CELLAR_WAKE_AFTER seconds have passed since Park or Deep Off entry, so the Cellar wakes the device. -/
  | cellarAlarm
  /-- SEQUENCER_STEP_START (R533): A queued power-up step starts once the ramp and the step gap allow it. -/
  | sequencerStepStart
  /-- EXIT_COMPLETE (R535): The exit ends once FB_STATE is Run, admission resumes, armed ports are UP and heartbeats resume. -/
  | exitComplete (env : HapEnv)
  /-- MARGIN_REPLAN (R541): A due re-plan measures the ageing sites and applies the AVS floor, TDC_TRIM, ageing prior and lifetime. -/
  | marginReplan (degrade : List Int) (acked : Bool)
  /-- AGE_REPLAN_NOW (R541): Starts a margin re-plan at once. -/
  | ageReplanNow (h : HapHdr) (value : Bytes)
  /-- AVS_WRITE_RETRY (R564): An unacknowledged AVSBus write is repeated every 1 ms. -/
  | avsWriteRetry (acked : Bool)
  /-- CELLAR_MINUTE (R538): A minute of operating time passes and CELLAR_OP_MINUTES increments. -/
  | cellarMinute
  /-- XTAL_OFFSET_MEASURE (R538): Every 100 s the Cellar crystal offset from the root is measured. -/
  | xtalOffsetMeasure
  /-- CELLAR_SNAPSHOT (R550): Each MT second in T3 or T4 the Cellar snapshots MT and its counter for seeding. -/
  | cellarSnapshot
  /-- VBAT_LOW (R539): VBAT falls below 2,500 mV or recovers above 2,600 mV, which sets or ends hold [4]. -/
  | vbatLow (mv : Nat)
  /-- RAIL_FAULT (R539): A rail leaves its operating range for more than 10 µs and the fault is counted and recorded. -/
  | railFault (rail mv : Nat)
  /-- CFG_SAVE (R551): Starts a save of the configuration store on core 3. -/
  | cfgSave (h : HapHdr) (value : Bytes)
  /-- CFG_SAVE_COMPLETE (R551): The configuration copy is written and CFG_STATE returns to idle. -/
  | cfgSaveComplete (wait : Nat)
  /-- CFG_ERASE (R551): Erases both copies of the configuration store. -/
  | cfgErase (h : HapHdr) (value : Bytes)
  /-- PULL_WITHIN_LOCK_THRESH (R80): After a reselection from T4 or T5, the shrinking pull remainder comes within HO_LIMIT or within the lock threshold, so the state moves to T4 or to T3 at that tick. -/
  | pullWithinLockThresh
  /-- PLCA_BEACON (R284): A PLCA beacon is sent as coordinator or heard as follower, so PLCA_STATUS becomes 1 and the beacon-to-beacon cycle is measured against PORT_TX_BOUND. -/
  | plcaBeacon (port wait : Nat)
  /-- FIRST_BATCH_OPEN (R419): MT reaches the first whole second after the first root lock, so the first ledger batch opens FILLING and books its lanes. -/
  | firstBatchOpen
  /-- CRYSTAL_STOPPED (R484): The Cellar crystal stops for more than 1 s, so tamper flag [3] is set, recorded as 0x0C0B and able to wake the device. -/
  | crystalStopped
  /-- TEST_EN_HIGH (R560): The TEST_EN pin goes high, so the internal reset is held while it stays high. -/
  | testEnHigh
  /-- WDT_STARTS_CLEAR (R557): 600 s of CELLAR_COUNT pass without a start of cause 3, so the count of watchdog starts, FB_WDT_STARTS, clears. -/
  | wdtStartsClear
  /-- POWER_UP_GRANT_TIMEOUT (R282): 1 ms after a group 0x08 commit is accepted, the port power-ups that the sequencer has not granted stay staged, and the commit ends with 0x100A. -/
  | powerUpGrantTimeout
  /-- PORT_POWER_RECOMMIT (R552): After the configuration load, firmware commits group 0x08 again every 1 ms until every port power unit has applied. -/
  | portPowerRecommit
  /-- AGGREGATE_STAMP_DEMAND (R253): At the end of each MT second, a stamp demand above 20 million per second is recorded as event 0x0605 and TDC_LOAD_PEAK is updated. -/
  | aggregateStampDemand
  deriving DecidableEq, Repr

end Sys2Proof
end

