-- ==== Sys2Proof/WellFormed.lean ====
section
/-! DEFINITION. Which commands are well formed: every operand fits the field, the unit range or the width that the spec gives it.
The meanings are total: they also answer for a term that is not well formed. -/

namespace Sys2Proof

/-- Does a number fit in n bytes. -/
def fits (n v : Nat) : Bool := v < 256 ^ n

/-- Does an integer fit in n bytes as two's complement (R37). -/
def fitsSigned (n : Nat) (v : Int) : Bool := -(256 ^ n : Int) ≤ 2 * v && 2 * v < (256 ^ n : Int)

/-- Table 2-1: a partner on a controller has no address; on a port it has an IPv4 or IPv6 address and a source port. -/
def Partner.wf (p : Partner) : Bool :=
  p.transport < 48
    && (if p.transport < 4 then p.addr = [] && p.port = 0 && p.mac = [] && p.tag.isNone
      else (p.addr.length = 4 || p.addr.length = 16) && fits 2 p.port && p.mac.length = 6
        && (match p.tag with | some t => t.1 < 8 && t.2 < 4096 | none => true))

/-- Table 2-2: the fields of a PDU; the MAC stands there exactly when FLAGS[0] is set. -/
def HapHdr.wf (h : HapHdr) : Bool :=
  h.src.wf && fits 1 h.ver && fits 1 h.flags && fits 2 h.txn && fits 2 h.status && fits 2 h.length && fits 4 h.token && fits 4 h.seq
    && h.mac.length = (if h.flags % 2 = 1 then 8 else 0) && fits 4 h.crc

/-- A frame with any opcode, object and payload: `length` is the payload's. -/
def wfFrame (h : HapHdr) (index sub : Nat) (payload : Bytes) : Bool := h.wf && fits 2 index && fits 1 sub && fits 2 payload.length

/-- A frame that writes one object. -/
def wfWrite (h : HapHdr) (value : Bytes) : Bool := h.wf && fits 2 value.length

/-- Table 2-13, Table 3-5: what follows the first eight bytes of a commit or step request. -/
def wfSchedule (modeHi slot rsv : Nat) (instant : Bytes) : Bool := modeHi < 128 && fits 1 slot && fits 2 rsv && instant.length = 12

/-- R20: units that do not latch are named by a commit group of Table 2-11 and a unit of it. -/
def wfStuck (stuck : List (Nat × Nat)) : Bool := stuck.all (fun e => 1 ≤ e.1 && e.1 ≤ 16 && e.2 < 44)

/-- Table 7-9: what one channel measures. -/
def SkyMeas.wf (m : SkyMeas) : Bool :=
  m.channel < 128 && fits 2 m.cn0 && fits 4 m.lockTime && fits 8 m.phase && fits 2 m.noise && fits 2 m.azim && fitsSigned 8 m.carrier
    && fitsSigned 4 m.doppler

/-- Is every operand of a command in the range the spec gives it. -/
def Instr.wf : Instr → Bool
  | .read h opcode index sub payload => wfFrame h index sub payload && fits 1 opcode
  | .write h index sub payload => wfFrame h index sub payload
  | .readInit h index sub payload => wfFrame h index sub payload
  | .readSeg h index sub payload => wfFrame h index sub payload
  | .writeInit h index sub payload => wfFrame h index sub payload
  | .writeSeg h index sub payload => wfFrame h index sub payload
  | .abort h index sub payload => wfFrame h index sub payload
  | .xferTimeout => true
  | .lockAcquire hs => hs.all (·.wf)
  | .lockRelease h => h.wf
  | .lockIdleTimeout => true
  | .sessionHostNonce h nonce => wfWrite h nonce
  | .sessionProof h proof => wfWrite h proof
  | .handshakeTimeout => true
  | .heartbeat => true
  | .commitImmediate h groups modeHi slot rsv instant => h.wf && fits 8 groups && wfSchedule modeHi slot rsv instant
  | .commitSwitch groups stuck => fits 8 groups && wfStuck stuck
  | .commitReadyTimeout groups => fits 8 groups
  | .commitScheduled h groups modeHi slot rsv instant => h.wf && fits 8 groups && wfSchedule modeHi slot rsv instant
  | .commitDiscard h mask => h.wf && fits 4 mask
  | .commitCancel h slot => h.wf && fits 1 slot
  | .slotLatch slot stuck => slot < 16 && wfStuck stuck
  | .slotExecute stuck => wfStuck stuck
  | .mtSet h value => wfWrite h value
  | .mtSetApply due => due.delay ≤ 1250000 && wfStuck due.stuck
  | .mtStepImmediate h amount modeHi slot rsv instant => h.wf && fitsSigned 8 amount && wfSchedule modeHi slot rsv instant
  | .mtStepScheduled h amount modeHi slot rsv instant => h.wf && fitsSigned 8 amount && wfSchedule modeHi slot rsv instant
  | .stepApply delay stuck => delay ≤ 1250000 && wfStuck stuck
  | .pullComplete => true
  | .domPullComplete dom => dom < 8
  | .leapPendingBegin => true
  | .leapInstant => true
  | .mtReplicaFault unit => fits 2 unit
  | .resetRelease straps _ _ found shipped vendor =>
    straps.loSel < 4 && fits 2 straps.vddio && found.slots.all (fun b => fits 2 b) && found.models.all (· < 2) && found.configs.all (· < 2) && found.copies.all (· < 2)
      && shipped.all (fun e => e.1 < 2) && vendor.length ≤ 2
  | .supplyReset _ _ => true
  | .rstNAssert => true
  | .overtempReset => true
  | .deviceWatchdog => true
  | .configLoad stuck => wfStuck stuck
  | .rootLock => true
  | .rootLockLost cause => fits 1 cause
  | .rootFault dev _ => fitsSigned 4 dev
  | .loMeasure hz => fits 4 hz
  | .ckoAlign n => n < 4
  | .dpllUpdate => true
  | .candidatePhaseMeasurement cand stuck _ => cand < 9 && wfStuck stuck
  | .freqMonitor _ => true
  | .activityTimeout refin => refin < 4
  | .holdoffExpiry cand => cand < 9
  | .wtrExpiry cand => cand < 9
  | .selectionEvaluation stuck => wfStuck stuck
  | .lockDwellExpiry => true
  | .learningSample => true
  | .modelRefit => true
  | .modelSave => true
  | .tempSample die _ ohms => fitsSigned 4 die && fits 4 ohms
  | .tempHostTimeout => true
  | .boundUpdate => true
  | .compatTimerExpiry => true
  | .hoModelClear h value => wfWrite h value
  | .acqDwell place signal sv glonass _ elev azim =>
    place.slot < 64 && place.channel < 128 && fits 1 signal && fits 1 sv && glonass.orbit < 3 && -7 ≤ glonass.freq && glonass.freq ≤ 6
      && fitsSigned 4 elev && azim < 36000
  | .pullInTimeout channel => channel < 128
  | .correlatorDump channel reading _ _ _ =>
    channel < 128 && fits 2 reading.cn0 && reading.acc.all (fun p => fitsSigned 3 p.1 && fitsSigned 3 p.2)
  | .coastTimeout channel => channel < 128
  | .loopUpdateTimeout => true
  | .measLatch meas _ _ => meas.all (·.wf)
  | .antCurrentMeasure current => fits 2 current
  | .antShortRetry current => fits 2 current
  | .agcInterference _ gain _ => fits 2 gain
  | .skyOrbitLoad h pages => wfWrite h pages
  | .skyAidPos h value => wfWrite h value
  | .skyPps _ => true
  | .parkBurst meas _ => meas.all (·.wf)
  | .predictionExpiry => true
  | .edgeInput ch _ _ fine => ch < 24 && fine < 800
  | .stampConversion ch => ch < 24
  | .intervalTimeout ch => ch < 24
  | .regGateEnd ch => ch < 24
  | .tdcCalSwap ch bins _ => ch < 24 && bins.all (fits 4)
  | .tdcCalComplete => true
  | .chFifoRead h ch => h.wf && ch < 24
  | .outEdge n => n < 16
  | .outTrailingEdge n => n < 16
  | .outRearm h n value => wfWrite h value && n < 16
  | .frameReceive port _ fine body _ _ _ => port < 44 && fine < 800 && fits 2 body.length
  | .frameRelease port => port < 44
  | .frameTransmit port _ fine => port < 44 && fine < 800
  | .collision port _ => port < 44
  | .backoffExpiry port => port < 44
  | .plcaBeaconTimeout port => port < 44
  | .linkUp port => port < 44
  | .linkLoss port => port < 44
  | .trainingRetry port => port < 44
  | .gateBoundary port => port < 44
  | .fdbAgeingExpiry => true
  | .hallFdbFlush h value => wfWrite h value
  | .xphyMdio h value => wfWrite h value
  | .portCntClear h port value => wfWrite h value && port < 44
  | .stampProbeSend h port value => wfWrite h value && port < 44
  | .canCfg h can value => wfWrite h value && can < 4
  | .canIntegrated can => can < 4
  | .canFrameReceive can ident _ data _ => can < 4 && ident < 2 ^ 29 && data.length ≤ 2048
  | .canError can tec rec => can < 4 && -255 ≤ tec && tec ≤ 255 && -255 ≤ rec && rec ≤ 255
  | .canBusoffRecovery can => can < 4
  | .requestAdmission _ _ => true
  | .responseHandover _ => true
  | .txStampReturn => true
  | .ringObsClear h ring value => wfWrite h value && ring < 64
  | .ntskeConnection _ _ => true
  | .ntskeTimeout => true
  | .syncSchedule inst port => inst < 8 && port < 44
  | .announceSchedule inst port => inst < 8 && port < 44
  | .delayReqSchedule inst port => inst < 8 && port < 44
  | .ptpSyncRx _ => true
  | .ptpFollowUpRx _ => true
  | .ptpAnnounceRx => true
  | .ptpDelayRespRx => true
  | .ptpPdelayRespRx => true
  | .ptpSignalingRx => true
  | .bmcaDecision inst => inst < 8
  | .qualificationTimeout inst port => inst < 8 && port < 44
  | .announceReceiptTimeout inst port => inst < 8 && port < 44
  | .syncReceiptTimeout inst port => inst < 8 && port < 44
  | .pdelayLostResponses inst port => inst < 8 && port < 44
  | .freeBoundUpdate inst => inst < 8
  | .batchEnd => true
  | .rootComplete _ => true
  | .signComplete _ => true
  | .verifyComplete _ _ _ => true
  | .bookedJobTimeout => true
  | .srJobSubmit h value => wfWrite h value
  | .jobDispatch => true
  | .jobCheckEnd lane ecc => lane < 4 && (match ecc with | some slot => slot < 64 | none => true)
  | .jobYield lane _ _ => lane < 4
  | .jobComplete lane _ _ _ => lane < 4
  | .srJobAbort h value => wfWrite h value
  | .srLaneRestore h value => wfWrite h value
  | .selfTestComplete lane _ _ => lane < 4
  | .srSlotLayout h value => wfWrite h value
  | .srSlotData h slot value => wfWrite h value && slot < 64
  | .entropyHealthFailure test => fits 1 test
  | .entropyRetest _ => true
  | .drbgReseed => true
  | .khProvision h value => wfWrite h value
  | .khOwnerPubSet h value => wfWrite h value
  | .khOwnerKeySet h value => wfWrite h value
  | .khProvCommit h value => wfWrite h value
  | .khOwnerXfer h value => wfWrite h value
  | .khKeygen h value => wfWrite h value
  | .keygenComplete slot => slot < 64
  | .khKeyDestroy h value => wfWrite h value
  | .khNtsRotate h value => wfWrite h value
  | .ntsRotatePeriodExpiry => true
  | .khCosignEnable h value => wfWrite h value
  | .khRollbackCommit h value => wfWrite h value
  | .tamperInput pin => pin < 4
  | .khTamperClear h value => wfWrite h value
  | .khAttestReq h value => wfWrite h value
  | .attestComplete => true
  | .coreWatchdogExpiry core => core < 4
  | .coreReloadComplete core _ => core < 4
  | .studyFwImage h segno data => h.wf && fits 4 segno && fits 2 data.length
  | .fwCopyComplete => true
  | .studyNextLoc h value => wfWrite h value
  | .mbSend h n value => wfWrite h value && n < 16
  | .mbRecv h n => h.wf && n < 16
  | .dbIrqMask h value => wfWrite h value
  | .mb8Service => true
  | .recordForm => true
  | .flashRecordWrite outcome => outcome < 4
  | .atticSnap h value => wfWrite h value
  | .atticClear h value => wfWrite h value
  | .atticClearComplete => true
  | .latencyTol h value => wfWrite h value
  | .idleTimeExpiry => true
  | .powerEntryComplete => true
  | .wake source port => fits 1 source && fits 1 port
  | .wakeInPin pin _ => pin < 2
  | .cellarAlarm => true
  | .sequencerStepStart => true
  | .exitComplete _ => true
  | .marginReplan degrade _ => degrade.length ≤ 32
  | .ageReplanNow h value => wfWrite h value
  | .avsWriteRetry _ => true
  | .cellarMinute => true
  | .xtalOffsetMeasure => true
  | .cellarSnapshot => true
  | .vbatLow mv => fits 2 mv
  | .railFault rail mv => fits 1 rail && fits 2 mv
  | .cfgSave h value => wfWrite h value
  | .cfgSaveComplete _ => true
  | .cfgErase h value => wfWrite h value
  | .pullWithinLockThresh => true
  | .plcaBeacon port _ => port < 44
  | .firstBatchOpen => true
  | .crystalStopped => true
  | .testEnHigh => true
  | .wdtStartsClear => true
  | .powerUpGrantTimeout => true
  | .portPowerRecommit => true
  | .aggregateStampDemand => true

end Sys2Proof
end

