-- ==== Sys2Proof/Machine/Bits.lean ====
section
/-! DEFINITION. Byte order, fields, two's complement, saturation and the CRCs the spec gives (R12, R37, R42, R503). -/

namespace Sys2Proof.Machine

/-- A byte from a number, modulo 256. -/
def byte (n : Nat) : Byte := BitVec.ofNat 8 n

/-- R37: the number that a byte string spells, most significant byte first. -/
def beNat (bs : Bytes) : Nat := bs.foldl (fun a b => a * 256 + b.toNat) 0

/-- The number that a byte string spells, least significant byte first. -/
def leNat : Bytes → Nat
  | [] => 0
  | b :: bs => b.toNat + 256 * leNat bs

/-- The n low bytes of v, least significant first. -/
def toLE : Nat → Nat → Bytes
  | 0, _ => []
  | n + 1, v => byte v :: toLE n (v / 256)

/-- R37: the n low bytes of v, most significant first. -/
def toBE (n v : Nat) : Bytes := (toLE n v).reverse

/-- R42: the two's complement reading of an n-byte number. -/
def toSigned (n : Nat) (v : Nat) : Int :=
  if v % 256 ^ n < 256 ^ n / 2 then (v % 256 ^ n : Nat) else (v % 256 ^ n : Nat) - (256 ^ n : Nat)

/-- R42: the n-byte two's complement of an integer, as an unsigned number. -/
def ofSigned (n : Nat) (v : Int) : Nat := (v % (256 ^ n : Nat)).toNat

/-- An integer held within bounds. -/
def clamp (lo hi v : Int) : Int := if v < lo then lo else if hi < v then hi else v

/-- Saturated to I32, as the event tables say. -/
def sat32 (v : Int) : Int := clamp (-2147483648) 2147483647 v

/-- The field of `len` bytes that starts at `off`. -/
def field (bs : Bytes) (off len : Nat) : Bytes := (bs.drop off).take len

/-- The unsigned number in the field of `len` bytes at `off`, most significant byte first. -/
def fieldNat (bs : Bytes) (off len : Nat) : Nat := beNat (field bs off len)

/-- R12: bits [hi:lo] of a number. -/
def bits (v hi lo : Nat) : Nat := v / 2 ^ lo % 2 ^ (hi + 1 - lo)

/-- R12: is bit n set. -/
def bit (v n : Nat) : Bool := v / 2 ^ n % 2 = 1

/-- A mask with bit n set or cleared. -/
def setBit (v n : Nat) (b : Bool) : Nat :=
  if bit v n = b then v else if b then v + 2 ^ n else v - 2 ^ n

/-- The bits of one byte shifted through a reflected CRC register. -/
def crcShift (poly : Nat) : Nat → Nat → Nat
  | 0, c => c
  | n + 1, c => crcShift poly n (if c % 2 = 1 then Nat.xor (c / 2) poly else c / 2)

/-- R503: the Castagnoli CRC-32C, reflected, initial value and final XOR all ones. -/
def crc32c (bs : Bytes) : Nat :=
  Nat.xor (bs.foldl (fun c b => crcShift 0x82F63B78 8 (Nat.xor c b.toNat)) 0xFFFFFFFF) 0xFFFFFFFF

/-- The CRC-32 of IEEE 802.3, reflected, initial value and final XOR all ones. -/
def crc32 (bs : Bytes) : Nat :=
  Nat.xor (bs.foldl (fun c b => crcShift 0xEDB88320 8 (Nat.xor c b.toNat)) 0xFFFFFFFF) 0xFFFFFFFF

/-- A byte string padded with zeros, or cut, to n bytes. -/
def padTo (n : Nat) (bs : Bytes) : Bytes := (bs ++ List.replicate (n - bs.length) 0).take n

/-- The byte string of a list of small numbers. -/
def ofNats (ns : List Nat) : Bytes := ns.map byte

/-- The quotient rounded toward positive infinity. -/
def ceilDiv (a b : Nat) : Nat := (a + b - 1) / b

/-- The quotient of integers rounded toward positive infinity. -/
def ceilDivInt (a b : Int) : Int := -((-a) / b)

/-- The quotient of two integers rounded to the nearest. -/
def roundDiv (a b : Int) : Int := (2 * a + b.natAbs * b.sign) / (2 * b)

/-- R136, R243: the sums of a fit of t against n: their count, n, t, n*n, n*t, t*t, about the point listed last. -/
def fitSums (xs : List (Int × Int)) : Int × Int × Int × Int × Int × Int :=
  match xs.getLast? with
  | none => (0, 0, 0, 0, 0, 0)
  | some (n0, t0) => xs.foldl (fun (c, sn, st, snn, snt, stt) (n, t) =>
      let dn := n - n0
      let dt := t - t0
      (c + 1, sn + dn, st + dt, snn + dn * dn, snt + dn * dt, stt + dt * dt)) (0, 0, 0, 0, 0, 0)

/-- The integer square root, by bisection from above with `fuel` rounds. -/
def isqrtIter (n : Nat) : Nat → Nat → Nat
  | 0, x => x
  | fuel + 1, x => let y := (x + n / x) / 2; if y < x then isqrtIter n fuel y else x

/-- The integer square root. -/
def isqrt (n : Nat) : Nat := if n = 0 then 0 else isqrtIter n (n.log2 + 4) (2 ^ (n.log2 / 2 + 1))

/-- A list with the element at n replaced by f of it. -/
def updAt {α : Type} (xs : List α) (n : Nat) (f : α → α) : List α := xs.modify n f

end Sys2Proof.Machine
end

