-- ==== Sys2Proof/Machine/Keys.lean ====
section
/-! DEFINITION. The keys of the object dictionary, one per object of the tables of spec/ (R10, R576): index times 256 plus sub.
An object that exists once per unit takes the unit number u; one that fills a range of subs takes the offset k from its first sub. -/

namespace Sys2Proof.Machine

/-- DEVICE_ID 0x1000:00 (R5). -/
def K.deviceId : Nat := 0x1000 * 256 + 0x00
/-- REVISION 0x1001:00 (R5). -/
def K.revision : Nat := 0x1001 * 256 + 0x00
/-- LOCK_REQUEST 0x1100:01 (R45). -/
def K.lockRequest : Nat := 0x1100 * 256 + 0x01
/-- LOCK_TOKEN 0x1100:02 (R45). -/
def K.lockToken : Nat := 0x1100 * 256 + 0x02
/-- LOCK_STATE 0x1100:03 (R45). -/
def K.lockState : Nat := 0x1100 * 256 + 0x03
/-- LOCK_IDLE_TIMEOUT 0x1100:04 (R45). -/
def K.lockIdleTimeout : Nat := 0x1100 * 256 + 0x04
/-- LOCK_HOLDER 0x1100:05 (R45). -/
def K.lockHolder : Nat := 0x1100 * 256 + 0x05
/-- SESSION_HOST_NONCE 0x1101:01 (R51). -/
def K.sessionHostNonce : Nat := 0x1101 * 256 + 0x01
/-- SESSION_DEV_NONCE 0x1101:02 (R51). -/
def K.sessionDevNonce : Nat := 0x1101 * 256 + 0x02
/-- SESSION_PROOF 0x1101:03 (R51). -/
def K.sessionProof : Nat := 0x1101 * 256 + 0x03
/-- SESSION_AUTH_FAILS 0x1101:04 (R51). -/
def K.sessionAuthFails : Nat := 0x1101 * 256 + 0x04
/-- HAP_HB_PERIOD 0x7000:01 (R64). -/
def K.hapHbPeriod : Nat := 0x7000 * 256 + 0x01
/-- HAP_XFER_TIMEOUT 0x7000:02 (R64). -/
def K.hapXferTimeout : Nat := 0x7000 * 256 + 0x02
/-- HAP_UDP_PORT_MASK 0x7000:03 (R64). -/
def K.hapUdpPortMask : Nat := 0x7000 * 256 + 0x03
/-- HAP_CAN_MASK 0x7000:04 (R64). -/
def K.hapCanMask : Nat := 0x7000 * 256 + 0x04
/-- HAP_CAN_REQ_ID 0x7000:05 (R64). -/
def K.hapCanReqId : Nat := 0x7000 * 256 + 0x05
/-- HAP_CAN_RSP_ID 0x7000:06 (R64). -/
def K.hapCanRspId : Nat := 0x7000 * 256 + 0x06
/-- HAP_CAN_HB_ID 0x7000:07 (R64). -/
def K.hapCanHbId : Nat := 0x7000 * 256 + 0x07
/-- HAP_LOCK_POLICY 0x7000:08 (R64). -/
def K.hapLockPolicy : Nat := 0x7000 * 256 + 0x08
/-- HAP_RX_DISCARDS 0x7000:09 (R64). -/
def K.hapRxDiscards : Nat := 0x7000 * 256 + 0x09
/-- COMMIT_REQUEST 0x7010:01 (R68). -/
def K.commitRequest : Nat := 0x7010 * 256 + 0x01
/-- COMMIT_LAST_STATUS 0x7010:02 (R68). -/
def K.commitLastStatus : Nat := 0x7010 * 256 + 0x02
/-- COMMIT_CONFLICT_OBJ 0x7010:03 (R68). -/
def K.commitConflictObj : Nat := 0x7010 * 256 + 0x03
/-- COMMIT_DISCARD 0x7010:04 (R68). -/
def K.commitDiscard : Nat := 0x7010 * 256 + 0x04
/-- COMMIT_CANCEL 0x7010:05 (R68). -/
def K.commitCancel : Nat := 0x7010 * 256 + 0x05
/-- COMMIT_UNIT_MASK 0x7011:01 to 10 (R68). -/
def K.commitUnitMask (k : Nat) : Nat := 0x7011 * 256 + (0x01 + k)
/-- MT_NOW 0x2500:01 (R77). -/
def K.mtNow : Nat := 0x2500 * 256 + 0x01
/-- MT_NOW_UTC 0x2500:02 (R77). -/
def K.mtNowUtc : Nat := 0x2500 * 256 + 0x02
/-- MT_NOW_GPS 0x2500:03 (R77). -/
def K.mtNowGps : Nat := 0x2500 * 256 + 0x03
/-- MT_STATE 0x2500:04 (R77). -/
def K.mtState : Nat := 0x2500 * 256 + 0x04
/-- MT_STATE_SINCE 0x2500:05 (R77). -/
def K.mtStateSince : Nat := 0x2500 * 256 + 0x05
/-- MT_RATE_ADJ 0x2500:06 (R77). -/
def K.mtRateAdj : Nat := 0x2500 * 256 + 0x06
/-- MT_PULL_REMAIN 0x2500:07 (R77). -/
def K.mtPullRemain : Nat := 0x2500 * 256 + 0x07
/-- MT_UTC_OFFSET 0x2500:08 (R77). -/
def K.mtUtcOffset : Nat := 0x2500 * 256 + 0x08
/-- MT_LEAP_PENDING 0x2500:09 (R77). -/
def K.mtLeapPending : Nat := 0x2500 * 256 + 0x09
/-- MT_SET 0x2500:0A (R77). -/
def K.mtSet : Nat := 0x2500 * 256 + 0x0A
/-- MT_STEP 0x2500:0B (R77). -/
def K.mtStep : Nat := 0x2500 * 256 + 0x0B
/-- MT_STEP_COUNT 0x2500:0C (R77). -/
def K.mtStepCount : Nat := 0x2500 * 256 + 0x0C
/-- MT_LAST_STEP 0x2500:0D (R77). -/
def K.mtLastStep : Nat := 0x2500 * 256 + 0x0D
/-- MT_EVER_LOCKED 0x2500:0E (R77). -/
def K.mtEverLocked : Nat := 0x2500 * 256 + 0x0E
/-- SLOT_STATE 0x2530–0x253F:01 (R90). -/
def K.slotState (u : Nat) : Nat := (0x2530 + u) * 256 + 0x01
/-- SLOT_KIND 0x2530–0x253F:02 (R90). -/
def K.slotKind (u : Nat) : Nat := (0x2530 + u) * 256 + 0x02
/-- SLOT_INSTANT 0x2530–0x253F:03 (R90). -/
def K.slotInstant (u : Nat) : Nat := (0x2530 + u) * 256 + 0x03
/-- SLOT_RESULT 0x2530–0x253F:04 (R90). -/
def K.slotResult (u : Nat) : Nat := (0x2530 + u) * 256 + 0x04
/-- UTC_BASE_OFFSET 0x2510:01 (R97). -/
def K.utcBaseOffset : Nat := 0x2510 * 256 + 0x01
/-- UTC_LEAP_COUNT 0x2510:02 (R97). -/
def K.utcLeapCount : Nat := 0x2510 * 256 + 0x02
/-- UTC_LEAP_ENTRY 0x2511:01 to 20 (R97). -/
def K.utcLeapEntry (k : Nat) : Nat := 0x2511 * 256 + (0x01 + k)
/-- DOM_OFFSET 0x2520–0x2527:01 (R100). -/
def K.domOffset (u : Nat) : Nat := (0x2520 + u) * 256 + 0x01
/-- DOM_RATE 0x2520–0x2527:02 (R100). -/
def K.domRate (u : Nat) : Nat := (0x2520 + u) * 256 + 0x02
/-- DOM_NOW 0x2520–0x2527:03 (R100). -/
def K.domNow (u : Nat) : Nat := (0x2520 + u) * 256 + 0x03
/-- DOM_MODE 0x2520–0x2527:04 (R100). -/
def K.domMode (u : Nat) : Nat := (0x2520 + u) * 256 + 0x04
/-- DOM_STATE 0x2520–0x2527:05 (R100). -/
def K.domState (u : Nat) : Nat := (0x2520 + u) * 256 + 0x05
/-- DOM_STEP_COUNT 0x2520–0x2527:06 (R100). -/
def K.domStepCount (u : Nat) : Nat := (0x2520 + u) * 256 + 0x06
/-- HEARTH_LO_SEL 0x2100:01 (R120). -/
def K.hearthLoSel : Nat := 0x2100 * 256 + 0x01
/-- HEARTH_LOCK 0x2100:02 (R120). -/
def K.hearthLock : Nat := 0x2100 * 256 + 0x02
/-- HEARTH_DCO 0x2100:03 (R120). -/
def K.hearthDco : Nat := 0x2100 * 256 + 0x03
/-- HEARTH_LO_MEAS 0x2100:04 (R120). -/
def K.hearthLoMeas : Nat := 0x2100 * 256 + 0x04
/-- HEARTH_LOCK_LOSSES 0x2100:05 (R120). -/
def K.hearthLockLosses : Nat := 0x2100 * 256 + 0x05
/-- HEARTH_ROOT_DEV 0x2100:06 (R120). -/
def K.hearthRootDev : Nat := 0x2100 * 256 + 0x06
/-- CKO_ENABLE 0x2110–0x2113:01 (R120). -/
def K.ckoEnable (u : Nat) : Nat := (0x2110 + u) * 256 + 0x01
/-- CKO_FREQ 0x2110–0x2113:02 (R120). -/
def K.ckoFreq (u : Nat) : Nat := (0x2110 + u) * 256 + 0x02
/-- CKO_FORMAT 0x2110–0x2113:03 (R120). -/
def K.ckoFormat (u : Nat) : Nat := (0x2110 + u) * 256 + 0x03
/-- CKO_ALIGN 0x2110–0x2113:04 (R120). -/
def K.ckoAlign (u : Nat) : Nat := (0x2110 + u) * 256 + 0x04
/-- CKO_UNLOCK_POLICY 0x2110–0x2113:05 (R120). -/
def K.ckoUnlockPolicy (u : Nat) : Nat := (0x2110 + u) * 256 + 0x05
/-- CKO_STATUS 0x2110–0x2113:06 (R120). -/
def K.ckoStatus (u : Nat) : Nat := (0x2110 + u) * 256 + 0x06
/-- REFIN_FREQ 0x2210–0x2213:01 (R131). -/
def K.refinFreq (u : Nat) : Nat := (0x2210 + u) * 256 + 0x01
/-- REFIN_EDGE 0x2210–0x2213:02 (R131). -/
def K.refinEdge (u : Nat) : Nat := (0x2210 + u) * 256 + 0x02
/-- REFIN_PAIR 0x2210, 0x2212:03 (R131). -/
def K.refinPair (u : Nat) : Nat := (0x2210 + u) * 256 + 0x03
/-- REFIN_ACTIVITY 0x2210–0x2213:04 (R131). -/
def K.refinActivity (u : Nat) : Nat := (0x2210 + u) * 256 + 0x04
/-- THERM_SELECTED 0x2200:01 (R157). -/
def K.thermSelected : Nat := 0x2200 * 256 + 0x01
/-- THERM_SLOPE 0x2200:02 (R157). -/
def K.thermSlope : Nat := 0x2200 * 256 + 0x02
/-- THERM_DPLL_BW 0x2200:03 (R157). -/
def K.thermDpllBw : Nat := 0x2200 * 256 + 0x03
/-- THERM_DPLL_ACQ_BW 0x2200:04 (R157). -/
def K.thermDpllAcqBw : Nat := 0x2200 * 256 + 0x04
/-- THERM_LOCK_THRESH 0x2200:05 (R157). -/
def K.thermLockThresh : Nat := 0x2200 * 256 + 0x05
/-- THERM_LOCK_TIME 0x2200:06 (R157). -/
def K.thermLockTime : Nat := 0x2200 * 256 + 0x06
/-- THERM_STEP_THRESH 0x2200:07 (R157). -/
def K.thermStepThresh : Nat := 0x2200 * 256 + 0x07
/-- THERM_ACCEPT 0x2200:08 (R157). -/
def K.thermAccept : Nat := 0x2200 * 256 + 0x08
/-- THERM_REJECT 0x2200:09 (R157). -/
def K.thermReject : Nat := 0x2200 * 256 + 0x09
/-- THERM_ACQ_LIMIT 0x2200:0A (R157). -/
def K.thermAcqLimit : Nat := 0x2200 * 256 + 0x0A
/-- THERM_FREQ_GATE 0x2200:0B (R157). -/
def K.thermFreqGate : Nat := 0x2200 * 256 + 0x0B
/-- THERM_HOLDOFF 0x2200:0C (R157). -/
def K.thermHoldoff : Nat := 0x2200 * 256 + 0x0C
/-- THERM_WTR 0x2200:0D (R157). -/
def K.thermWtr : Nat := 0x2200 * 256 + 0x0D
/-- THERM_PHASE_QUAL 0x2200:0E (R157). -/
def K.thermPhaseQual : Nat := 0x2200 * 256 + 0x0E
/-- THERM_REVERTIVE 0x2200:0F (R157). -/
def K.thermRevertive : Nat := 0x2200 * 256 + 0x0F
/-- THERM_FORCE 0x2200:10 (R157). -/
def K.thermForce : Nat := 0x2200 * 256 + 0x10
/-- THERM_SWITCH_COUNT 0x2200:11 (R157). -/
def K.thermSwitchCount : Nat := 0x2200 * 256 + 0x11
/-- THERM_PHASE_ERR 0x2200:12 (R157). -/
def K.thermPhaseErr : Nat := 0x2200 * 256 + 0x12
/-- THERM_REF_ENABLE 0x2201–0x2209:01 (R157). -/
def K.thermRefEnable (u : Nat) : Nat := (0x2201 + u) * 256 + 0x01
/-- THERM_REF_STATE 0x2201–0x2209:02 (R157). -/
def K.thermRefState (u : Nat) : Nat := (0x2201 + u) * 256 + 0x02
/-- THERM_REF_PRIO 0x2201–0x2209:03 (R157). -/
def K.thermRefPrio (u : Nat) : Nat := (0x2201 + u) * 256 + 0x03
/-- THERM_REF_QL_OVR 0x2201–0x2209:04 (R157). -/
def K.thermRefQlOvr (u : Nat) : Nat := (0x2201 + u) * 256 + 0x04
/-- THERM_REF_QL 0x2201–0x2209:05 (R157). -/
def K.thermRefQl (u : Nat) : Nat := (0x2201 + u) * 256 + 0x05
/-- THERM_REF_FREQ 0x2201–0x2209:06 (R157). -/
def K.thermRefFreq (u : Nat) : Nat := (0x2201 + u) * 256 + 0x06
/-- THERM_REF_PHASE 0x2201–0x2209:07 (R157). -/
def K.thermRefPhase (u : Nat) : Nat := (0x2201 + u) * 256 + 0x07
/-- THERM_REF_REASON 0x2201–0x2209:08 (R157). -/
def K.thermRefReason (u : Nat) : Nat := (0x2201 + u) * 256 + 0x08
/-- THERM_REF_WTR_REMAIN 0x2201–0x2209:09 (R157). -/
def K.thermRefWtrRemain (u : Nat) : Nat := (0x2201 + u) * 256 + 0x09
/-- THERM_REF_DELAY 0x2201–0x2209:0A (R157). -/
def K.thermRefDelay (u : Nat) : Nat := (0x2201 + u) * 256 + 0x0A
/-- THERM_REF_TIME_CAP 0x2201–0x2209:0B (R157). -/
def K.thermRefTimeCap (u : Nat) : Nat := (0x2201 + u) * 256 + 0x0B
/-- HO_MODEL_STATE 0x2220:01 (R183). -/
def K.hoModelState : Nat := 0x2220 * 256 + 0x01
/-- HO_LIMIT 0x2220:02 (R183). -/
def K.hoLimit : Nat := 0x2220 * 256 + 0x02
/-- HO_BOUND 0x2220:03 (R183). -/
def K.hoBound : Nat := 0x2220 * 256 + 0x03
/-- HO_ELAPSED 0x2220:04 (R183). -/
def K.hoElapsed : Nat := 0x2220 * 256 + 0x04
/-- HO_LEARN_WINDOW 0x2220:05 (R183). -/
def K.hoLearnWindow : Nat := 0x2220 * 256 + 0x05
/-- HO_LEARN_MIN 0x2220:06 (R183). -/
def K.hoLearnMin : Nat := 0x2220 * 256 + 0x06
/-- HO_LEARNED_TIME 0x2220:07 (R183). -/
def K.hoLearnedTime : Nat := 0x2220 * 256 + 0x07
/-- HO_TEMP_SRC 0x2220:08 (R183). -/
def K.hoTempSrc : Nat := 0x2220 * 256 + 0x08
/-- HO_TEMP_NOW 0x2220:09 (R183). -/
def K.hoTempNow : Nat := 0x2220 * 256 + 0x09
/-- HO_TEMP_HOST 0x2220:0A (R183). -/
def K.hoTempHost : Nat := 0x2220 * 256 + 0x0A
/-- HO_NTC_B 0x2220:0B (R183). -/
def K.hoNtcB : Nat := 0x2220 * 256 + 0x0B
/-- HO_UF_DEFAULT 0x2220:0C (R183). -/
def K.hoUfDefault : Nat := 0x2220 * 256 + 0x0C
/-- HO_UNC_SCALE 0x2220:0D (R183). -/
def K.hoUncScale : Nat := 0x2220 * 256 + 0x0D
/-- HO_COMPAT_MODE 0x2220:0E (R183). -/
def K.hoCompatMode : Nat := 0x2220 * 256 + 0x0E
/-- HO_COMPAT_TIMER 0x2220:0F (R183). -/
def K.hoCompatTimer : Nat := 0x2220 * 256 + 0x0F
/-- HO_COMPAT_REMAIN 0x2220:10 (R183). -/
def K.hoCompatRemain : Nat := 0x2220 * 256 + 0x10
/-- HO_BOUND_VIOLATIONS 0x2220:11 (R183). -/
def K.hoBoundViolations : Nat := 0x2220 * 256 + 0x11
/-- HO_RESIDUAL_RMS 0x2220:12 (R183). -/
def K.hoResidualRms : Nat := 0x2220 * 256 + 0x12
/-- HO_MODEL_CLEAR 0x2220:13 (R183). -/
def K.hoModelClear : Nat := 0x2220 * 256 + 0x13
/-- HO_Y0 0x2221:01 (R183). -/
def K.hoY0 : Nat := 0x2221 * 256 + 0x01
/-- HO_T0 0x2221:02 (R183). -/
def K.hoT0 : Nat := 0x2221 * 256 + 0x02
/-- HO_AGEING 0x2221:03 (R183). -/
def K.hoAgeing : Nat := 0x2221 * 256 + 0x03
/-- HO_C1 0x2221:04 (R183). -/
def K.hoC1 : Nat := 0x2221 * 256 + 0x04
/-- HO_C2 0x2221:05 (R183). -/
def K.hoC2 : Nat := 0x2221 * 256 + 0x05
/-- HO_THETA0 0x2221:06 (R183). -/
def K.hoTheta0 : Nat := 0x2221 * 256 + 0x06
/-- HO_UF 0x2221:07 (R183). -/
def K.hoUf : Nat := 0x2221 * 256 + 0x07
/-- HO_UA 0x2221:08 (R183). -/
def K.hoUa : Nat := 0x2221 * 256 + 0x08
/-- HO_UT 0x2221:09 (R183). -/
def K.hoUt : Nat := 0x2221 * 256 + 0x09
/-- HO_AGEING_PRIOR 0x2221:0A (R183). -/
def K.hoAgeingPrior : Nat := 0x2221 * 256 + 0x0A
/-- HO_TEMP_SPAN 0x2221:0B (R183). -/
def K.hoTempSpan : Nat := 0x2221 * 256 + 0x0B
/-- SKY_CONST_ENABLE 0x2300:01 (R221). -/
def K.skyConstEnable : Nat := 0x2300 * 256 + 0x01
/-- SKY_BAND_ENABLE 0x2300:02 (R221). -/
def K.skyBandEnable : Nat := 0x2300 * 256 + 0x02
/-- SKY_TIMESCALE 0x2300:03 (R221). -/
def K.skyTimescale : Nat := 0x2300 * 256 + 0x03
/-- SKY_LATCH_RATE 0x2300:04 (R221). -/
def K.skyLatchRate : Nat := 0x2300 * 256 + 0x04
/-- SKY_ELEV_MASK 0x2300:05 (R221). -/
def K.skyElevMask : Nat := 0x2300 * 256 + 0x05
/-- SKY_CN0_MASK 0x2300:06 (R221). -/
def K.skyCn0Mask : Nat := 0x2300 * 256 + 0x06
/-- SKY_ACQ_NONCOH 0x2300:07 (R221). -/
def K.skyAcqNoncoh : Nat := 0x2300 * 256 + 0x07
/-- SKY_PLL_BW 0x2300:08 (R221). -/
def K.skyPllBw : Nat := 0x2300 * 256 + 0x08
/-- SKY_DLL_BW 0x2300:09 (R221). -/
def K.skyDllBw : Nat := 0x2300 * 256 + 0x09
/-- SKY_EL_SPACING 0x2300:0A (R221). -/
def K.skyElSpacing : Nat := 0x2300 * 256 + 0x0A
/-- SKY_VEVL_SPACING 0x2300:0B (R221). -/
def K.skyVevlSpacing : Nat := 0x2300 * 256 + 0x0B
/-- SKY_UNC_MAX 0x2300:0C (R221). -/
def K.skyUncMax : Nat := 0x2300 * 256 + 0x0C
/-- SKY_SOL_MISS_LIMIT 0x2300:0D (R221). -/
def K.skySolMissLimit : Nat := 0x2300 * 256 + 0x0D
/-- SKY_DATE_FLOOR 0x2300:0E (R221). -/
def K.skyDateFloor : Nat := 0x2300 * 256 + 0x0E
/-- SKY_L5_BIAS 0x2300:0F (R221). -/
def K.skyL5Bias : Nat := 0x2300 * 256 + 0x0F
/-- SKY_SV_EXCLUDE 0x2300:10 (R221). -/
def K.skySvExclude : Nat := 0x2300 * 256 + 0x10
/-- SKY_UTC_STEER 0x2300:11 (R221). -/
def K.skyUtcSteer : Nat := 0x2300 * 256 + 0x11
/-- SKY_ANT_ENABLE 0x2300:12 (R221). -/
def K.skyAntEnable : Nat := 0x2300 * 256 + 0x12
/-- SKY_ANT_OPEN_MA 0x2300:13 (R221). -/
def K.skyAntOpenMa : Nat := 0x2300 * 256 + 0x13
/-- SKY_ANT_SHORT_MA 0x2300:14 (R221). -/
def K.skyAntShortMa : Nat := 0x2300 * 256 + 0x14
/-- SKY_ANT_STATE 0x2300:15 (R221). -/
def K.skyAntState : Nat := 0x2300 * 256 + 0x15
/-- SKY_ANT_CURRENT 0x2300:16 (R221). -/
def K.skyAntCurrent : Nat := 0x2300 * 256 + 0x16
/-- SKY_AGC_L1 0x2300:17 (R221). -/
def K.skyAgcL1 : Nat := 0x2300 * 256 + 0x17
/-- SKY_AGC_L5 0x2300:18 (R221). -/
def K.skyAgcL5 : Nat := 0x2300 * 256 + 0x18
/-- SKY_TRACKER 0x2300:19 (R221). -/
def K.skyTracker : Nat := 0x2300 * 256 + 0x19
/-- SKY_CH_IN_USE 0x2300:1A (R221). -/
def K.skyChInUse : Nat := 0x2300 * 256 + 0x1A
/-- SKY_ORBIT_REJECTS 0x2300:1B (R221). -/
def K.skyOrbitRejects : Nat := 0x2300 * 256 + 0x1B
/-- SKY_PPS_MISMATCH 0x2300:1C (R221). -/
def K.skyPpsMismatch : Nat := 0x2300 * 256 + 0x1C
/-- SKY_AID_MODE 0x2301:01 (R221). -/
def K.skyAidMode : Nat := 0x2301 * 256 + 0x01
/-- SKY_AID_POS 0x2301:02 (R221). -/
def K.skyAidPos : Nat := 0x2301 * 256 + 0x02
/-- SKY_AID_MAX_AGE 0x2301:03 (R221). -/
def K.skyAidMaxAge : Nat := 0x2301 * 256 + 0x03
/-- SKY_AID_UNC_MAX 0x2301:04 (R221). -/
def K.skyAidUncMax : Nat := 0x2301 * 256 + 0x04
/-- SKY_AID_STATUS 0x2301:05 (R221). -/
def K.skyAidStatus : Nat := 0x2301 * 256 + 0x05
/-- SKY_ORBIT_LOAD 0x2301:06 (R221). -/
def K.skyOrbitLoad : Nat := 0x2301 * 256 + 0x06
/-- SKY_TIME_UNC 0x2301:07 (R221). -/
def K.skyTimeUnc : Nat := 0x2301 * 256 + 0x07
/-- SKY_SOL_KIND 0x2302:01 (R221). -/
def K.skySolKind : Nat := 0x2302 * 256 + 0x01
/-- SKY_SOL_NSAT 0x2302:02 (R221). -/
def K.skySolNsat : Nat := 0x2302 * 256 + 0x02
/-- SKY_SOL_TIME 0x2302:03 (R221). -/
def K.skySolTime : Nat := 0x2302 * 256 + 0x03
/-- SKY_SOL_OFFSET 0x2302:04 (R221). -/
def K.skySolOffset : Nat := 0x2302 * 256 + 0x04
/-- SKY_SOL_UNC 0x2302:05 (R221). -/
def K.skySolUnc : Nat := 0x2302 * 256 + 0x05
/-- SKY_SOL_POS 0x2302:06 (R221). -/
def K.skySolPos : Nat := 0x2302 * 256 + 0x06
/-- SKY_SOL_VEL 0x2302:07 (R221). -/
def K.skySolVel : Nat := 0x2302 * 256 + 0x07
/-- SKY_SOL_COUNT 0x2302:08 (R221). -/
def K.skySolCount : Nat := 0x2302 * 256 + 0x08
/-- SKY_SOL_MISSES 0x2302:09 (R221). -/
def K.skySolMisses : Nat := 0x2302 * 256 + 0x09
/-- SKY_UTC_BCAST 0x2302:0A (R221). -/
def K.skyUtcBcast : Nat := 0x2302 * 256 + 0x0A
/-- SKY_LEAP_BCAST 0x2302:0B (R221). -/
def K.skyLeapBcast : Nat := 0x2302 * 256 + 0x0B
/-- SKY_SOL_FLAGS 0x2302:0C (R221). -/
def K.skySolFlags : Nat := 0x2302 * 256 + 0x0C
/-- SKY_MEAS_BLOCK 0x2303:01 (R221). -/
def K.skyMeasBlock : Nat := 0x2303 * 256 + 0x01
/-- SKY_MEAS_COUNT 0x2303:02 (R221). -/
def K.skyMeasCount : Nat := 0x2303 * 256 + 0x02
/-- CH_STATE 0x2380–0x23FF:01 (R221). -/
def K.chState (u : Nat) : Nat := (0x2380 + u) * 256 + 0x01
/-- CH_SIGNAL 0x2380–0x23FF:02 (R221). -/
def K.chSignal (u : Nat) : Nat := (0x2380 + u) * 256 + 0x02
/-- CH_SV 0x2380–0x23FF:03 (R221). -/
def K.chSv (u : Nat) : Nat := (0x2380 + u) * 256 + 0x03
/-- CH_CN0 0x2380–0x23FF:04 (R221). -/
def K.chCn0 (u : Nat) : Nat := (0x2380 + u) * 256 + 0x04
/-- CH_ELEV 0x2380–0x23FF:05 (R221). -/
def K.chElev (u : Nat) : Nat := (0x2380 + u) * 256 + 0x05
/-- CH_AZIM 0x2380–0x23FF:06 (R221). -/
def K.chAzim (u : Nat) : Nat := (0x2380 + u) * 256 + 0x06
/-- TDC_CAL_STATE 0x2400:01 (R251). -/
def K.tdcCalState : Nat := 0x2400 * 256 + 0x01
/-- TDC_CAL_COUNT 0x2400:02 (R251). -/
def K.tdcCalCount : Nat := 0x2400 * 256 + 0x02
/-- TDC_STAMP_RATE 0x2400:03 (R251). -/
def K.tdcStampRate : Nat := 0x2400 * 256 + 0x03
/-- TDC_LOAD_PEAK 0x2400:04 (R251). -/
def K.tdcLoadPeak : Nat := 0x2400 * 256 + 0x04
/-- TDC_TRIM 0x2400:05 (R251). -/
def K.tdcTrim : Nat := 0x2400 * 256 + 0x05
/-- CH_SOURCE 0x2410–0x2427:01 (R251). -/
def K.chSource (u : Nat) : Nat := (0x2410 + u) * 256 + 0x01
/-- CH_MODE 0x2410–0x2427:02 (R251). -/
def K.chMode (u : Nat) : Nat := (0x2410 + u) * 256 + 0x02
/-- CH_EDGE 0x2410–0x2427:03 (R251). -/
def K.chEdge (u : Nat) : Nat := (0x2410 + u) * 256 + 0x03
/-- CH_DECIM 0x2410–0x2427:04 (R251). -/
def K.chDecim (u : Nat) : Nat := (0x2410 + u) * 256 + 0x04
/-- CH_NOM_FREQ 0x2410–0x2427:05 (R251). -/
def K.chNomFreq (u : Nat) : Nat := (0x2410 + u) * 256 + 0x05
/-- CH_DELAY 0x2410–0x2427:06 (R251). -/
def K.chDelay (u : Nat) : Nat := (0x2410 + u) * 256 + 0x06
/-- CH_FIFO_EN 0x2410–0x2427:07 (R251). -/
def K.chFifoEn (u : Nat) : Nat := (0x2410 + u) * 256 + 0x07
/-- CH_STOP_SRC 0x2410–0x2427:08 (R251). -/
def K.chStopSrc (u : Nat) : Nat := (0x2410 + u) * 256 + 0x08
/-- CH_WIN_OPEN 0x2410–0x2427:09 (R251). -/
def K.chWinOpen (u : Nat) : Nat := (0x2410 + u) * 256 + 0x09
/-- CH_WIN_WIDTH 0x2410–0x2427:0A (R251). -/
def K.chWinWidth (u : Nat) : Nat := (0x2410 + u) * 256 + 0x0A
/-- CH_TIMEOUT 0x2410–0x2427:0B (R251). -/
def K.chTimeout (u : Nat) : Nat := (0x2410 + u) * 256 + 0x0B
/-- CH_LOOP_SRC 0x2410–0x2427:0C (R251). -/
def K.chLoopSrc (u : Nat) : Nat := (0x2410 + u) * 256 + 0x0C
/-- REG_ENABLE 0x2410–0x2427:0D (R251). -/
def K.regEnable (u : Nat) : Nat := (0x2410 + u) * 256 + 0x0D
/-- REG_GATE 0x2410–0x2427:0E (R251). -/
def K.regGate (u : Nat) : Nat := (0x2410 + u) * 256 + 0x0E
/-- CH_DECIM_NOW 0x2410–0x2427:0F (R251). -/
def K.chDecimNow (u : Nat) : Nat := (0x2410 + u) * 256 + 0x0F
/-- CH_FIFO_LEVEL 0x2410–0x2427:10 (R251). -/
def K.chFifoLevel (u : Nat) : Nat := (0x2410 + u) * 256 + 0x10
/-- CH_FIFO_READ 0x2410–0x2427:11 (R251). -/
def K.chFifoRead (u : Nat) : Nat := (0x2410 + u) * 256 + 0x11
/-- CH_EDGES 0x2410–0x2427:12 (R251). -/
def K.chEdges (u : Nat) : Nat := (0x2410 + u) * 256 + 0x12
/-- CH_STAMPS 0x2410–0x2427:13 (R251). -/
def K.chStamps (u : Nat) : Nat := (0x2410 + u) * 256 + 0x13
/-- CH_MISSED 0x2410–0x2427:14 (R251). -/
def K.chMissed (u : Nat) : Nat := (0x2410 + u) * 256 + 0x14
/-- CH_OVERFLOW 0x2410–0x2427:15 (R251). -/
def K.chOverflow (u : Nat) : Nat := (0x2410 + u) * 256 + 0x15
/-- CH_START_OVERRUN 0x2410–0x2427:16 (R251). -/
def K.chStartOverrun (u : Nat) : Nat := (0x2410 + u) * 256 + 0x16
/-- REG_FREQ 0x2410–0x2427:17 (R251). -/
def K.regFreq (u : Nat) : Nat := (0x2410 + u) * 256 + 0x17
/-- REG_FREQ_ROOT 0x2410–0x2427:18 (R251). -/
def K.regFreqRoot (u : Nat) : Nat := (0x2410 + u) * 256 + 0x18
/-- REG_RESID 0x2410–0x2427:19 (R251). -/
def K.regResid (u : Nat) : Nat := (0x2410 + u) * 256 + 0x19
/-- REG_COUNT 0x2410–0x2427:1A (R251). -/
def K.regCount (u : Nat) : Nat := (0x2410 + u) * 256 + 0x1A
/-- REG_END 0x2410–0x2427:1B (R251). -/
def K.regEnd (u : Nat) : Nat := (0x2410 + u) * 256 + 0x1B
/-- REG_SEQ 0x2410–0x2427:1C (R251). -/
def K.regSeq (u : Nat) : Nat := (0x2410 + u) * 256 + 0x1C
/-- REG_STATUS 0x2410–0x2427:1D (R251). -/
def K.regStatus (u : Nat) : Nat := (0x2410 + u) * 256 + 0x1D
/-- CH_IN_USE 0x2410–0x2427:1E (R251). -/
def K.chInUse (u : Nat) : Nat := (0x2410 + u) * 256 + 0x1E
/-- OUT_MODE 0x2540–0x254F:01 (R254). -/
def K.outMode (u : Nat) : Nat := (0x2540 + u) * 256 + 0x01
/-- OUT_SCALE 0x2540–0x254F:02 (R254). -/
def K.outScale (u : Nat) : Nat := (0x2540 + u) * 256 + 0x02
/-- OUT_POLARITY 0x2540–0x254F:03 (R254). -/
def K.outPolarity (u : Nat) : Nat := (0x2540 + u) * 256 + 0x03
/-- OUT_START 0x2540–0x254F:04 (R254). -/
def K.outStart (u : Nat) : Nat := (0x2540 + u) * 256 + 0x04
/-- OUT_RATE_NUM 0x2540–0x254F:05 (R254). -/
def K.outRateNum (u : Nat) : Nat := (0x2540 + u) * 256 + 0x05
/-- OUT_RATE_DEN 0x2540–0x254F:06 (R254). -/
def K.outRateDen (u : Nat) : Nat := (0x2540 + u) * 256 + 0x06
/-- OUT_WIDTH 0x2540–0x254F:07 (R254). -/
def K.outWidth (u : Nat) : Nat := (0x2540 + u) * 256 + 0x07
/-- OUT_COUNT 0x2540–0x254F:08 (R254). -/
def K.outCount (u : Nat) : Nat := (0x2540 + u) * 256 + 0x08
/-- OUT_DELAY 0x2540–0x254F:09 (R254). -/
def K.outDelay (u : Nat) : Nat := (0x2540 + u) * 256 + 0x09
/-- OUT_POL_UNSYNC 0x2540–0x254F:0A (R254). -/
def K.outPolUnsync (u : Nat) : Nat := (0x2540 + u) * 256 + 0x0A
/-- OUT_POL_T4 0x2540–0x254F:0B (R254). -/
def K.outPolT4 (u : Nat) : Nat := (0x2540 + u) * 256 + 0x0B
/-- OUT_POL_T5 0x2540–0x254F:0C (R254). -/
def K.outPolT5 (u : Nat) : Nat := (0x2540 + u) * 256 + 0x0C
/-- OUT_REARM 0x2540–0x254F:0D (R254). -/
def K.outRearm (u : Nat) : Nat := (0x2540 + u) * 256 + 0x0D
/-- OUT_STATUS 0x2540–0x254F:0E (R254). -/
def K.outStatus (u : Nat) : Nat := (0x2540 + u) * 256 + 0x0E
/-- OUT_PULSES 0x2540–0x254F:0F (R254). -/
def K.outPulses (u : Nat) : Nat := (0x2540 + u) * 256 + 0x0F
/-- OUT_MISSED 0x2540–0x254F:10 (R254). -/
def K.outMissed (u : Nat) : Nat := (0x2540 + u) * 256 + 0x10
/-- OUT_LAST_EDGE 0x2540–0x254F:11 (R254). -/
def K.outLastEdge (u : Nat) : Nat := (0x2540 + u) * 256 + 0x11
/-- OUT_PLACE_ERR 0x2540–0x254F:12 (R254). -/
def K.outPlaceErr (u : Nat) : Nat := (0x2540 + u) * 256 + 0x12
/-- PORT_POWER 0x3000–0x302B:01 (R301). -/
def K.portPower (u : Nat) : Nat := (0x3000 + u) * 256 + 0x01
/-- PORT_MODE 0x3000–0x302B:02 (R301). -/
def K.portMode (u : Nat) : Nat := (0x3000 + u) * 256 + 0x02
/-- PORT_T1_ROLE 0x3010–0x301F:03 (R301). -/
def K.portT1Role (u : Nat) : Nat := (0x3000 + u) * 256 + 0x03
/-- PORT_FEC 0x3028–0x302B:04 (R301). -/
def K.portFec (u : Nat) : Nat := (0x3000 + u) * 256 + 0x04
/-- PORT_MAX_FRAME 0x3000–0x302B:05 (R301). -/
def K.portMaxFrame (u : Nat) : Nat := (0x3000 + u) * 256 + 0x05
/-- PORT_PEER_FRAME 0x3000–0x300F:06 (R301). -/
def K.portPeerFrame (u : Nat) : Nat := (0x3000 + u) * 256 + 0x06
/-- PLCA_NODE_ID 0x3000–0x300F:07 (R301). -/
def K.plcaNodeId (u : Nat) : Nat := (0x3000 + u) * 256 + 0x07
/-- PLCA_NODE_COUNT 0x3000–0x300F:08 (R301). -/
def K.plcaNodeCount (u : Nat) : Nat := (0x3000 + u) * 256 + 0x08
/-- PLCA_TO_TIMER 0x3000–0x300F:09 (R301). -/
def K.plcaToTimer (u : Nat) : Nat := (0x3000 + u) * 256 + 0x09
/-- PLCA_BURST_COUNT 0x3000–0x300F:0A (R301). -/
def K.plcaBurstCount (u : Nat) : Nat := (0x3000 + u) * 256 + 0x0A
/-- PLCA_BURST_TIMER 0x3000–0x300F:0B (R301). -/
def K.plcaBurstTimer (u : Nat) : Nat := (0x3000 + u) * 256 + 0x0B
/-- PORT_LINK_STATE 0x3000–0x302B:0C (R301). -/
def K.portLinkState (u : Nat) : Nat := (0x3000 + u) * 256 + 0x0C
/-- PORT_SPEED 0x3000–0x302B:0D (R301). -/
def K.portSpeed (u : Nat) : Nat := (0x3000 + u) * 256 + 0x0D
/-- PORT_TX_BOUND 0x3000–0x302B:0E (R301). -/
def K.portTxBound (u : Nat) : Nat := (0x3000 + u) * 256 + 0x0E
/-- PLCA_STATUS 0x3000–0x300F:0F (R301). -/
def K.plcaStatus (u : Nat) : Nat := (0x3000 + u) * 256 + 0x0F
/-- PLCA_CYCLE_OBS 0x3000–0x300F:10 (R301). -/
def K.plcaCycleObs (u : Nat) : Nat := (0x3000 + u) * 256 + 0x10
/-- PORT_RX_FRAMES 0x3000–0x302B:11 (R301). -/
def K.portRxFrames (u : Nat) : Nat := (0x3000 + u) * 256 + 0x11
/-- PORT_TX_FRAMES 0x3000–0x302B:12 (R301). -/
def K.portTxFrames (u : Nat) : Nat := (0x3000 + u) * 256 + 0x12
/-- PORT_RX_OCTETS 0x3000–0x302B:13 (R301). -/
def K.portRxOctets (u : Nat) : Nat := (0x3000 + u) * 256 + 0x13
/-- PORT_TX_OCTETS 0x3000–0x302B:14 (R301). -/
def K.portTxOctets (u : Nat) : Nat := (0x3000 + u) * 256 + 0x14
/-- PORT_RX_FCS_ERR 0x3000–0x302B:15 (R301). -/
def K.portRxFcsErr (u : Nat) : Nat := (0x3000 + u) * 256 + 0x15
/-- PORT_RX_RUNT 0x3000–0x302B:16 (R301). -/
def K.portRxRunt (u : Nat) : Nat := (0x3000 + u) * 256 + 0x16
/-- PORT_RX_OVERSIZE 0x3000–0x302B:17 (R301). -/
def K.portRxOversize (u : Nat) : Nat := (0x3000 + u) * 256 + 0x17
/-- PORT_TX_OVERSIZE 0x3000–0x302B:18 (R301). -/
def K.portTxOversize (u : Nat) : Nat := (0x3000 + u) * 256 + 0x18
/-- PORT_RX_MAC_CTRL 0x3000–0x302B:19 (R301). -/
def K.portRxMacCtrl (u : Nat) : Nat := (0x3000 + u) * 256 + 0x19
/-- PORT_RX_SLEEP 0x3000–0x302B:1A (R301). -/
def K.portRxSleep (u : Nat) : Nat := (0x3000 + u) * 256 + 0x1A
/-- PORT_LINK_DOWNS 0x3000–0x302B:1B (R301). -/
def K.portLinkDowns (u : Nat) : Nat := (0x3000 + u) * 256 + 0x1B
/-- PORT_PHY_SYM_ERR 0x3000–0x302B:1C (R301). -/
def K.portPhySymErr (u : Nat) : Nat := (0x3000 + u) * 256 + 0x1C
/-- PORT_COLLISIONS 0x3000–0x300F:1D (R301). -/
def K.portCollisions (u : Nat) : Nat := (0x3000 + u) * 256 + 0x1D
/-- PORT_EXCESS_COLL 0x3000–0x300F:1E (R301). -/
def K.portExcessColl (u : Nat) : Nat := (0x3000 + u) * 256 + 0x1E
/-- PORT_LATE_COLL 0x3000–0x300F:1F (R301). -/
def K.portLateColl (u : Nat) : Nat := (0x3000 + u) * 256 + 0x1F
/-- WAKE_PAT 0x3000–0x302B:20 to 27 (R301). -/
def K.wakePat (u : Nat) (k : Nat) : Nat := (0x3000 + u) * 256 + (0x20 + k)
/-- WAKE_LAST 0x3000–0x302B:28 (R301). -/
def K.wakeLast (u : Nat) : Nat := (0x3000 + u) * 256 + 0x28
/-- PORT_CNT_CLEAR 0x3000–0x302B:29 (R301). -/
def K.portCntClear (u : Nat) : Nat := (0x3000 + u) * 256 + 0x29
/-- PORT_RX_OVERFLOW 0x3000–0x302B:30 to 37 (R301). -/
def K.portRxOverflow (u : Nat) (k : Nat) : Nat := (0x3000 + u) * 256 + (0x30 + k)
/-- PORT_MAC 0x3000–0x302B:38 (R301). -/
def K.portMac (u : Nat) : Nat := (0x3000 + u) * 256 + 0x38
/-- PORT_IPV4 0x3000–0x302B:39 (R301). -/
def K.portIpv4 (u : Nat) : Nat := (0x3000 + u) * 256 + 0x39
/-- PORT_IPV6 0x3000–0x302B:3A (R301). -/
def K.portIpv6 (u : Nat) : Nat := (0x3000 + u) * 256 + 0x3A
/-- XPHY_MDIO 0x3100:01 (R302). -/
def K.xphyMdio : Nat := 0x3100 * 256 + 0x01
/-- XPHY_RESET 0x3100:02 (R302). -/
def K.xphyReset : Nat := 0x3100 * 256 + 0x02
/-- PORCH_MAC_BASE 0x3100:03 (R302). -/
def K.porchMacBase : Nat := 0x3100 * 256 + 0x03
/-- CAN_CFG 0x3110–0x3113:01 (R302). -/
def K.canCfg (u : Nat) : Nat := (0x3110 + u) * 256 + 0x01
/-- CAN_STATE 0x3110–0x3113:02 (R302). -/
def K.canState (u : Nat) : Nat := (0x3110 + u) * 256 + 0x02
/-- CAN_TEC 0x3110–0x3113:03 (R302). -/
def K.canTec (u : Nat) : Nat := (0x3110 + u) * 256 + 0x03
/-- CAN_REC 0x3110–0x3113:04 (R302). -/
def K.canRec (u : Nat) : Nat := (0x3110 + u) * 256 + 0x04
/-- CAN_BUSOFF_COUNT 0x3110–0x3113:05 (R302). -/
def K.canBusoffCount (u : Nat) : Nat := (0x3110 + u) * 256 + 0x05
/-- CAN_RX_FRAMES 0x3110–0x3113:06 (R302). -/
def K.canRxFrames (u : Nat) : Nat := (0x3110 + u) * 256 + 0x06
/-- CAN_TX_FRAMES 0x3110–0x3113:07 (R302). -/
def K.canTxFrames (u : Nat) : Nat := (0x3110 + u) * 256 + 0x07
/-- CAN_ERR_FRAMES 0x3110–0x3113:08 (R302). -/
def K.canErrFrames (u : Nat) : Nat := (0x3110 + u) * 256 + 0x08
/-- CAN_RX_DISCARD 0x3110–0x3113:09 (R302). -/
def K.canRxDiscard (u : Nat) : Nat := (0x3110 + u) * 256 + 0x09
/-- STAMP_PLANE 0x3020–0x3027:40 (R325). -/
def K.stampPlane (u : Nat) : Nat := (0x3000 + u) * 256 + 0x40
/-- STAMP_RX_CORR 0x3000–0x302B:41 (R325). -/
def K.stampRxCorr (u : Nat) : Nat := (0x3000 + u) * 256 + 0x41
/-- STAMP_TX_CORR 0x3000–0x302B:42 (R325). -/
def K.stampTxCorr (u : Nat) : Nat := (0x3000 + u) * 256 + 0x42
/-- XPHY_RX_LAT 0x3020–0x3027:43 (R325). -/
def K.xphyRxLat (u : Nat) : Nat := (0x3000 + u) * 256 + 0x43
/-- XPHY_TX_LAT 0x3020–0x3027:44 (R325). -/
def K.xphyTxLat (u : Nat) : Nat := (0x3000 + u) * 256 + 0x44
/-- STAMP_RX_LAT_NOW 0x3000–0x302B:45 (R325). -/
def K.stampRxLatNow (u : Nat) : Nat := (0x3000 + u) * 256 + 0x45
/-- STAMP_TX_LAT_NOW 0x3000–0x302B:46 (R325). -/
def K.stampTxLatNow (u : Nat) : Nat := (0x3000 + u) * 256 + 0x46
/-- STAMP_INS_COUNT 0x3000–0x302B:47 (R325). -/
def K.stampInsCount (u : Nat) : Nat := (0x3000 + u) * 256 + 0x47
/-- STAMP_INS_DROP 0x3000–0x302B:48 (R325). -/
def K.stampInsDrop (u : Nat) : Nat := (0x3000 + u) * 256 + 0x48
/-- STAMP_INVALID 0x3000–0x302B:49 (R325). -/
def K.stampInvalid (u : Nat) : Nat := (0x3000 + u) * 256 + 0x49
/-- STAMP_PROBE_ETYPE 0x3000–0x302B:4A (R325). -/
def K.stampProbeEtype (u : Nat) : Nat := (0x3000 + u) * 256 + 0x4A
/-- STAMP_PROBE_SEND 0x3000–0x302B:4B (R325). -/
def K.stampProbeSend (u : Nat) : Nat := (0x3000 + u) * 256 + 0x4B
/-- STAMP_PROBE_RX 0x3000–0x302B:4C (R325). -/
def K.stampProbeRx (u : Nat) : Nat := (0x3000 + u) * 256 + 0x4C
/-- STAMP_PROBE_TX 0x3000–0x302B:4D (R325). -/
def K.stampProbeTx (u : Nat) : Nat := (0x3000 + u) * 256 + 0x4D
/-- STAMP_PROBE_TX_SEQ 0x3000–0x302B:4E (R325). -/
def K.stampProbeTxSeq (u : Nat) : Nat := (0x3000 + u) * 256 + 0x4E
/-- STAMP_PROBE_RX_SEQ 0x3000–0x302B:4F (R325). -/
def K.stampProbeRxSeq (u : Nat) : Nat := (0x3000 + u) * 256 + 0x4F
/-- HALL_FDB_AGEING 0x3400:01 (R351). -/
def K.hallFdbAgeing : Nat := 0x3400 * 256 + 0x01
/-- HALL_LEARN_MASK 0x3400:02 (R351). -/
def K.hallLearnMask : Nat := 0x3400 * 256 + 0x02
/-- HALL_FDB_STATIC 0x3400:03 (R351). -/
def K.hallFdbStatic : Nat := 0x3400 * 256 + 0x03
/-- HALL_VLAN_TABLE 0x3400:04 (R351). -/
def K.hallVlanTable : Nat := 0x3400 * 256 + 0x04
/-- HALL_FDB_FLUSH 0x3400:05 (R351). -/
def K.hallFdbFlush : Nat := 0x3400 * 256 + 0x05
/-- HALL_FDB_COUNT 0x3400:06 (R351). -/
def K.hallFdbCount : Nat := 0x3400 * 256 + 0x06
/-- HALL_FDB_FULL 0x3400:07 (R351). -/
def K.hallFdbFull : Nat := 0x3400 * 256 + 0x07
/-- HALL_IP_RESERVE 0x3400:10 (R351). -/
def K.hallIpReserve : Nat := 0x3400 * 256 + 0x10
/-- HALL_PORT_GUAR 0x3400:11 (R351). -/
def K.hallPortGuar : Nat := 0x3400 * 256 + 0x11
/-- HALL_CELLS_FREE 0x3400:12 (R351). -/
def K.hallCellsFree : Nat := 0x3400 * 256 + 0x12
/-- HALL_CELLS_LOW 0x3400:13 (R351). -/
def K.hallCellsLow : Nat := 0x3400 * 256 + 0x13
/-- HALL_MIRROR_SRC 0x3400:20 (R351). -/
def K.hallMirrorSrc : Nat := 0x3400 * 256 + 0x20
/-- HALL_MIRROR_DIR 0x3400:21 (R351). -/
def K.hallMirrorDir : Nat := 0x3400 * 256 + 0x21
/-- HALL_MIRROR_DEST 0x3400:22 (R351). -/
def K.hallMirrorDest : Nat := 0x3400 * 256 + 0x22
/-- HALL_LOOP_MASK 0x3400:23 (R351). -/
def K.hallLoopMask : Nat := 0x3400 * 256 + 0x23
/-- HALL_VLAN_DROP 0x3400:30 (R351). -/
def K.hallVlanDrop : Nat := 0x3400 * 256 + 0x30
/-- HALL_LOCAL_DISCARD 0x3400:31 (R351). -/
def K.hallLocalDiscard : Nat := 0x3400 * 256 + 0x31
/-- HALL_MIRROR_DROP 0x3400:32 (R351). -/
def K.hallMirrorDrop : Nat := 0x3400 * 256 + 0x32
/-- HALL_LOOP_DISCARD 0x3400:33 (R351). -/
def K.hallLoopDiscard : Nat := 0x3400 * 256 + 0x33
/-- IN_PVID 0x3440–0x346B:01 (R351). -/
def K.inPvid (u : Nat) : Nat := (0x3440 + u) * 256 + 0x01
/-- IN_ACCEPT 0x3440–0x346B:02 (R351). -/
def K.inAccept (u : Nat) : Nat := (0x3440 + u) * 256 + 0x02
/-- IN_PCP_MAP 0x3440–0x346B:03 (R351). -/
def K.inPcpMap (u : Nat) : Nat := (0x3440 + u) * 256 + 0x03
/-- GATE_LIST 0x3500–0x352B:01 (R352). -/
def K.gateList (u : Nat) : Nat := (0x3500 + u) * 256 + 0x01
/-- GATE_BASE 0x3500–0x352B:02 (R352). -/
def K.gateBase (u : Nat) : Nat := (0x3500 + u) * 256 + 0x02
/-- GATE_CYCLE 0x3500–0x352B:03 (R352). -/
def K.gateCycle (u : Nat) : Nat := (0x3500 + u) * 256 + 0x03
/-- GATE_COUNT 0x3500–0x352B:04 (R352). -/
def K.gateCount (u : Nat) : Nat := (0x3500 + u) * 256 + 0x04
/-- GATE_POS 0x3500–0x352B:05 (R352). -/
def K.gatePos (u : Nat) : Nat := (0x3500 + u) * 256 + 0x05
/-- Q_LAUNCH_MASK 0x3500–0x352B:06 (R352). -/
def K.qLaunchMask (u : Nat) : Nat := (0x3500 + u) * 256 + 0x06
/-- LAUNCH_LATE_MAX 0x3500–0x352B:07 (R352). -/
def K.launchLateMax (u : Nat) : Nat := (0x3500 + u) * 256 + 0x07
/-- CBS_SLOPE 0x3500–0x352B:08 to 0F (R352). -/
def K.cbsSlope (u : Nat) (k : Nat) : Nat := (0x3500 + u) * 256 + (0x08 + k)
/-- Q_MAX_CELLS 0x3500–0x352B:10 to 17 (R352). -/
def K.qMaxCells (u : Nat) (k : Nat) : Nat := (0x3500 + u) * 256 + (0x10 + k)
/-- GATE_WAIT 0x3500–0x352B:20 to 27 (R352). -/
def K.gateWait (u : Nat) (k : Nat) : Nat := (0x3500 + u) * 256 + (0x20 + k)
/-- Q_DEPTH 0x3500–0x352B:28 to 2F (R352). -/
def K.qDepth (u : Nat) (k : Nat) : Nat := (0x3500 + u) * 256 + (0x28 + k)
/-- Q_TAILDROP 0x3500–0x352B:30 to 37 (R352). -/
def K.qTaildrop (u : Nat) (k : Nat) : Nat := (0x3500 + u) * 256 + (0x30 + k)
/-- LAUNCH_LATE_DROP 0x3500–0x352B:38 (R352). -/
def K.launchLateDrop (u : Nat) : Nat := (0x3500 + u) * 256 + 0x38
/-- LAUNCH_FAR_DROP 0x3500–0x352B:39 (R352). -/
def K.launchFarDrop (u : Nat) : Nat := (0x3500 + u) * 256 + 0x39
/-- GATE_NEVER_DROP 0x3500–0x352B:3A (R352). -/
def K.gateNeverDrop (u : Nat) : Nat := (0x3500 + u) * 256 + 0x3A
/-- SLEEP_DISCARD 0x3500–0x352B:3B (R352). -/
def K.sleepDiscard (u : Nat) : Nat := (0x3500 + u) * 256 + 0x3B
/-- PAR_QUEUE 0x4000:01 (R385). -/
def K.parQueue : Nat := 0x4000 * 256 + 0x01
/-- PAR_REFUSE_QUEUE 0x4000:02 (R385). -/
def K.parRefuseQueue : Nat := 0x4000 * 256 + 0x02
/-- PAR_CLIENT_IDLE 0x4000:03 (R385). -/
def K.parClientIdle : Nat := 0x4000 * 256 + 0x03
/-- PAR_INFLIGHT 0x4000:04 (R385). -/
def K.parInflight : Nat := 0x4000 * 256 + 0x04
/-- PAR_INFLIGHT_PEAK 0x4000:05 (R385). -/
def K.parInflightPeak : Nat := 0x4000 * 256 + 0x05
/-- PAR_ADMIT_RATE 0x4000:06 (R385). -/
def K.parAdmitRate : Nat := 0x4000 * 256 + 0x06
/-- PAR_REFUSE_NOW 0x4000:07 (R385). -/
def K.parRefuseNow : Nat := 0x4000 * 256 + 0x07
/-- PAR_CLIENTS 0x4000:08 (R385). -/
def K.parClients : Nat := 0x4000 * 256 + 0x08
/-- PAR_UNCLASSIFIED 0x4000:09 (R385). -/
def K.parUnclassified : Nat := 0x4000 * 256 + 0x09
/-- PAR_MALFORMED 0x4000:0A (R385). -/
def K.parMalformed : Nat := 0x4000 * 256 + 0x0A
/-- PAR_ADMIT_STOPPED 0x4000:0B (R385). -/
def K.parAdmitStopped : Nat := 0x4000 * 256 + 0x0B
/-- PAR_CLASSIFIER 0x4010:01 (R385). -/
def K.parClassifier : Nat := 0x4010 * 256 + 0x01
/-- NTSKE_ENABLE 0x4020:01 (R385). -/
def K.ntskeEnable : Nat := 0x4020 * 256 + 0x01
/-- NTSKE_CERT 0x4020:02 (R385). -/
def K.ntskeCert : Nat := 0x4020 * 256 + 0x02
/-- NTSKE_KEY_SLOT 0x4020:03 (R385). -/
def K.ntskeKeySlot : Nat := 0x4020 * 256 + 0x03
/-- NTSKE_MAX_CONN 0x4020:04 (R385). -/
def K.ntskeMaxConn : Nat := 0x4020 * 256 + 0x04
/-- NTSKE_COOKIES 0x4020:05 (R385). -/
def K.ntskeCookies : Nat := 0x4020 * 256 + 0x05
/-- NTSKE_TIMEOUT 0x4020:06 (R385). -/
def K.ntskeTimeout : Nat := 0x4020 * 256 + 0x06
/-- NTSKE_CONN_NOW 0x4020:07 (R385). -/
def K.ntskeConnNow : Nat := 0x4020 * 256 + 0x07
/-- NTSKE_DONE 0x4020:08 (R385). -/
def K.ntskeDone : Nat := 0x4020 * 256 + 0x08
/-- NTSKE_FAILED 0x4020:09 (R385). -/
def K.ntskeFailed : Nat := 0x4020 * 256 + 0x09
/-- NTS_NAK_COUNT 0x4020:0A (R385). -/
def K.ntsNakCount : Nat := 0x4020 * 256 + 0x0A
/-- NTS_AUTH_DROP 0x4020:0B (R385). -/
def K.ntsAuthDrop : Nat := 0x4020 * 256 + 0x0B
/-- RING_CLASS 0x4100–0x413F:01 (R386). -/
def K.ringClass (u : Nat) : Nat := (0x4100 + u) * 256 + 0x01
/-- RING_SIZE 0x4100–0x413F:02 (R386). -/
def K.ringSize (u : Nat) : Nat := (0x4100 + u) * 256 + 0x02
/-- RING_RESERVE 0x4100–0x413F:03 (R386). -/
def K.ringReserve (u : Nat) : Nat := (0x4100 + u) * 256 + 0x03
/-- RING_BOUND 0x4100–0x413F:04 (R386). -/
def K.ringBound (u : Nat) : Nat := (0x4100 + u) * 256 + 0x04
/-- RING_RATE 0x4100–0x413F:05 (R386). -/
def K.ringRate (u : Nat) : Nat := (0x4100 + u) * 256 + 0x05
/-- RING_BURST 0x4100–0x413F:06 (R386). -/
def K.ringBurst (u : Nat) : Nat := (0x4100 + u) * 256 + 0x06
/-- CLIENT_RATE 0x4100–0x413F:07 (R386). -/
def K.clientRate (u : Nat) : Nat := (0x4100 + u) * 256 + 0x07
/-- CLIENT_BURST 0x4100–0x413F:08 (R386). -/
def K.clientBurst (u : Nat) : Nat := (0x4100 + u) * 256 + 0x08
/-- UNTRACKED_RATE 0x4100–0x413F:09 (R386). -/
def K.untrackedRate (u : Nat) : Nat := (0x4100 + u) * 256 + 0x09
/-- REFUSE_RATE 0x4100–0x413F:0A (R386). -/
def K.refuseRate (u : Nat) : Nat := (0x4100 + u) * 256 + 0x0A
/-- RING_ADMITTED 0x4100–0x413F:0B (R386). -/
def K.ringAdmitted (u : Nat) : Nat := (0x4100 + u) * 256 + 0x0B
/-- RING_REFUSED 0x4100–0x413F:0C (R386). -/
def K.ringRefused (u : Nat) : Nat := (0x4100 + u) * 256 + 0x0C
/-- RING_REFUSE_BY 0x4100–0x413F:0D to 13 (R386). -/
def K.ringRefuseBy (u : Nat) (k : Nat) : Nat := (0x4100 + u) * 256 + (0x0D + k)
/-- RING_REFUSE_SILENT 0x4100–0x413F:14 (R386). -/
def K.ringRefuseSilent (u : Nat) : Nat := (0x4100 + u) * 256 + 0x14
/-- RING_OBS_MAX 0x4100–0x413F:15 (R386). -/
def K.ringObsMax (u : Nat) : Nat := (0x4100 + u) * 256 + 0x15
/-- RING_OBS_MIN 0x4100–0x413F:16 (R386). -/
def K.ringObsMin (u : Nat) : Nat := (0x4100 + u) * 256 + 0x16
/-- RING_OBS_SUM 0x4100–0x413F:17 (R386). -/
def K.ringObsSum (u : Nat) : Nat := (0x4100 + u) * 256 + 0x17
/-- RING_OBS_COUNT 0x4100–0x413F:18 (R386). -/
def K.ringObsCount (u : Nat) : Nat := (0x4100 + u) * 256 + 0x18
/-- RING_OBS_HIST 0x4100–0x413F:19 (R386). -/
def K.ringObsHist (u : Nat) : Nat := (0x4100 + u) * 256 + 0x19
/-- RING_MISSES 0x4100–0x413F:1A (R386). -/
def K.ringMisses (u : Nat) : Nat := (0x4100 + u) * 256 + 0x1A
/-- RING_INFLIGHT 0x4100–0x413F:1B (R386). -/
def K.ringInflight (u : Nat) : Nat := (0x4100 + u) * 256 + 0x1B
/-- RING_OBS_CLEAR 0x4100–0x413F:1C (R386). -/
def K.ringObsClear (u : Nat) : Nat := (0x4100 + u) * 256 + 0x1C
/-- RING_OBS_SINCE 0x4100–0x413F:1D (R386). -/
def K.ringObsSince (u : Nat) : Nat := (0x4100 + u) * 256 + 0x1D
/-- RING_STEP_SPANNED 0x4100–0x413F:1E (R386). -/
def K.ringStepSpanned (u : Nat) : Nat := (0x4100 + u) * 256 + 0x1E
/-- RING_INTEGRITY_LOSS 0x4100–0x413F:1F (R386). -/
def K.ringIntegrityLoss (u : Nat) : Nat := (0x4100 + u) * 256 + 0x1F
/-- RING_LINK_DISCARD 0x4100–0x413F:20 (R386). -/
def K.ringLinkDiscard (u : Nat) : Nat := (0x4100 + u) * 256 + 0x20
/-- INST_ENABLE 0x4200–0x4207:01 (R416). -/
def K.instEnable (u : Nat) : Nat := (0x4200 + u) * 256 + 0x01
/-- INST_PROFILE 0x4200–0x4207:02 (R416). -/
def K.instProfile (u : Nat) : Nat := (0x4200 + u) * 256 + 0x02
/-- INST_ROLE 0x4200–0x4207:03 (R416). -/
def K.instRole (u : Nat) : Nat := (0x4200 + u) * 256 + 0x03
/-- INST_DOMAIN_NUM 0x4200–0x4207:04 (R416). -/
def K.instDomainNum (u : Nat) : Nat := (0x4200 + u) * 256 + 0x04
/-- INST_MINOR_SDO 0x4200–0x4207:05 (R416). -/
def K.instMinorSdo (u : Nat) : Nat := (0x4200 + u) * 256 + 0x05
/-- INST_PORT_MASK 0x4200–0x4207:06 (R416). -/
def K.instPortMask (u : Nat) : Nat := (0x4200 + u) * 256 + 0x06
/-- INST_RX_PORT 0x4200–0x4207:07 (R416). -/
def K.instRxPort (u : Nat) : Nat := (0x4200 + u) * 256 + 0x07
/-- INST_TRANSPORT 0x4200–0x4207:08 (R416). -/
def K.instTransport (u : Nat) : Nat := (0x4200 + u) * 256 + 0x08
/-- INST_DOM_MODE 0x4200–0x4207:09 (R416). -/
def K.instDomMode (u : Nat) : Nat := (0x4200 + u) * 256 + 0x09
/-- INST_PTP_TIMESCALE 0x4200–0x4207:0A (R416). -/
def K.instPtpTimescale (u : Nat) : Nat := (0x4200 + u) * 256 + 0x0A
/-- INST_LOG_ANNOUNCE 0x4200–0x4207:0B (R416). -/
def K.instLogAnnounce (u : Nat) : Nat := (0x4200 + u) * 256 + 0x0B
/-- INST_LOG_SYNC 0x4200–0x4207:0C (R416). -/
def K.instLogSync (u : Nat) : Nat := (0x4200 + u) * 256 + 0x0C
/-- INST_LOG_DELAY 0x4200–0x4207:0D (R416). -/
def K.instLogDelay (u : Nat) : Nat := (0x4200 + u) * 256 + 0x0D
/-- INST_ANN_TIMEOUT 0x4200–0x4207:0E (R416). -/
def K.instAnnTimeout (u : Nat) : Nat := (0x4200 + u) * 256 + 0x0E
/-- INST_SYNC_TIMEOUT 0x4200–0x4207:0F (R416). -/
def K.instSyncTimeout (u : Nat) : Nat := (0x4200 + u) * 256 + 0x0F
/-- INST_LOST_RESP 0x4200–0x4207:10 (R416). -/
def K.instLostResp (u : Nat) : Nat := (0x4200 + u) * 256 + 0x10
/-- INST_PRIORITY1 0x4200–0x4207:11 (R416). -/
def K.instPriority1 (u : Nat) : Nat := (0x4200 + u) * 256 + 0x11
/-- INST_PRIORITY2 0x4200–0x4207:12 (R416). -/
def K.instPriority2 (u : Nat) : Nat := (0x4200 + u) * 256 + 0x12
/-- INST_CLOCK_ID 0x4200–0x4207:13 (R416). -/
def K.instClockId (u : Nat) : Nat := (0x4200 + u) * 256 + 0x13
/-- INST_VARIANCE 0x4200–0x4207:14 (R416). -/
def K.instVariance (u : Nat) : Nat := (0x4200 + u) * 256 + 0x14
/-- INST_ASYM 0x4200–0x4207:15 (R416). -/
def K.instAsym (u : Nat) : Nat := (0x4200 + u) * 256 + 0x15
/-- INST_STEP_THRESH 0x4200–0x4207:16 (R416). -/
def K.instStepThresh (u : Nat) : Nat := (0x4200 + u) * 256 + 0x16
/-- INST_LOCK_THRESH 0x4200–0x4207:17 (R416). -/
def K.instLockThresh (u : Nat) : Nat := (0x4200 + u) * 256 + 0x17
/-- INST_SERVO_BW 0x4200–0x4207:18 (R416). -/
def K.instServoBw (u : Nat) : Nat := (0x4200 + u) * 256 + 0x18
/-- INST_FREE_HO_RATE 0x4200–0x4207:19 (R416). -/
def K.instFreeHoRate (u : Nat) : Nat := (0x4200 + u) * 256 + 0x19
/-- INST_FREE_HO_LIMIT 0x4200–0x4207:1A (R416). -/
def K.instFreeHoLimit (u : Nat) : Nat := (0x4200 + u) * 256 + 0x1A
/-- INST_RELAY 0x4200–0x4207:1B (R416). -/
def K.instRelay (u : Nat) : Nat := (0x4200 + u) * 256 + 0x1B
/-- INST_DELAY_FILTER 0x4200–0x4207:1C (R416). -/
def K.instDelayFilter (u : Nat) : Nat := (0x4200 + u) * 256 + 0x1C
/-- INST_P3_ACCURACY 0x4200–0x4207:1D (R416). -/
def K.instP3Accuracy (u : Nat) : Nat := (0x4200 + u) * 256 + 0x1D
/-- INST_PORT_STATE 0x4200–0x4207:20 (R416). -/
def K.instPortState (u : Nat) : Nat := (0x4200 + u) * 256 + 0x20
/-- INST_GM_ID 0x4200–0x4207:21 (R416). -/
def K.instGmId (u : Nat) : Nat := (0x4200 + u) * 256 + 0x21
/-- INST_GM_CLASS 0x4200–0x4207:22 (R416). -/
def K.instGmClass (u : Nat) : Nat := (0x4200 + u) * 256 + 0x22
/-- INST_GM_ACCURACY 0x4200–0x4207:23 (R416). -/
def K.instGmAccuracy (u : Nat) : Nat := (0x4200 + u) * 256 + 0x23
/-- INST_OFFSET 0x4200–0x4207:24 (R416). -/
def K.instOffset (u : Nat) : Nat := (0x4200 + u) * 256 + 0x24
/-- INST_MEAN_DELAY 0x4200–0x4207:25 (R416). -/
def K.instMeanDelay (u : Nat) : Nat := (0x4200 + u) * 256 + 0x25
/-- INST_RATE_RATIO 0x4200–0x4207:26 (R416). -/
def K.instRateRatio (u : Nat) : Nat := (0x4200 + u) * 256 + 0x26
/-- INST_STEPS_REMOVED 0x4200–0x4207:27 (R416). -/
def K.instStepsRemoved (u : Nat) : Nat := (0x4200 + u) * 256 + 0x27
/-- INST_ANN_TIMEOUTS 0x4200–0x4207:28 (R416). -/
def K.instAnnTimeouts (u : Nat) : Nat := (0x4200 + u) * 256 + 0x28
/-- INST_SYNC_TIMEOUTS 0x4200–0x4207:29 (R416). -/
def K.instSyncTimeouts (u : Nat) : Nat := (0x4200 + u) * 256 + 0x29
/-- INST_RX_DISCARD 0x4200–0x4207:2A (R416). -/
def K.instRxDiscard (u : Nat) : Nat := (0x4200 + u) * 256 + 0x2A
/-- INST_FREE_BOUND 0x4200–0x4207:2B (R416). -/
def K.instFreeBound (u : Nat) : Nat := (0x4200 + u) * 256 + 0x2B
/-- INST_TX_SYNC 0x4200–0x4207:2C (R416). -/
def K.instTxSync (u : Nat) : Nat := (0x4200 + u) * 256 + 0x2C
/-- INST_ASCAPABLE 0x4200–0x4207:2D (R416). -/
def K.instAscapable (u : Nat) : Nat := (0x4200 + u) * 256 + 0x2D
/-- LEDGER_PERIOD 0x4300:01 (R440). -/
def K.ledgerPeriod : Nat := 0x4300 * 256 + 0x01
/-- LEDGER_HASH 0x4300:02 (R440). -/
def K.ledgerHash : Nat := 0x4300 * 256 + 0x02
/-- LEDGER_SIG 0x4300:03 (R440). -/
def K.ledgerSig : Nat := 0x4300 * 256 + 0x03
/-- LEDGER_KEY_SLOT 0x4300:04 (R440). -/
def K.ledgerKeySlot : Nat := 0x4300 * 256 + 0x04
/-- LEDGER_MAX_LEAVES 0x4300:05 (R440). -/
def K.ledgerMaxLeaves : Nat := 0x4300 * 256 + 0x05
/-- LEDGER_ROOT_PORT 0x4300:06 (R440). -/
def K.ledgerRootPort : Nat := 0x4300 * 256 + 0x06
/-- LEDGER_ROOT_DEST 0x4300:07 (R440). -/
def K.ledgerRootDest : Nat := 0x4300 * 256 + 0x07
/-- LEDGER_RELEASE_DELAY 0x4300:08 (R440). -/
def K.ledgerReleaseDelay : Nat := 0x4300 * 256 + 0x08
/-- LEDGER_KEY_ID 0x4300:09 (R440). -/
def K.ledgerKeyId : Nat := 0x4300 * 256 + 0x09
/-- LEDGER_PUBKEY 0x4300:0A (R440). -/
def K.ledgerPubkey : Nat := 0x4300 * 256 + 0x0A
/-- LEDGER_BATCH_SEQ 0x4300:0B (R440). -/
def K.ledgerBatchSeq : Nat := 0x4300 * 256 + 0x0B
/-- LEDGER_FILL_LEAVES 0x4300:0C (R440). -/
def K.ledgerFillLeaves : Nat := 0x4300 * 256 + 0x0C
/-- LEDGER_SEAL_STATE 0x4300:0D (R440). -/
def K.ledgerSealState : Nat := 0x4300 * 256 + 0x0D
/-- LEDGER_SLOTS_FREE 0x4300:0E (R440). -/
def K.ledgerSlotsFree : Nat := 0x4300 * 256 + 0x0E
/-- LEDGER_LAST_HDR 0x4300:0F (R440). -/
def K.ledgerLastHdr : Nat := 0x4300 * 256 + 0x0F
/-- LEDGER_LAST_SIG 0x4300:10 (R440). -/
def K.ledgerLastSig : Nat := 0x4300 * 256 + 0x10
/-- LEDGER_BATCHES 0x4300:11 (R440). -/
def K.ledgerBatches : Nat := 0x4300 * 256 + 0x11
/-- LEDGER_LEAVES 0x4300:12 (R440). -/
def K.ledgerLeaves : Nat := 0x4300 * 256 + 0x12
/-- LEDGER_FAILED 0x4300:13 (R440). -/
def K.ledgerFailed : Nat := 0x4300 * 256 + 0x13
/-- LEDGER_FAIL_NOTICES 0x4300:14 (R440). -/
def K.ledgerFailNotices : Nat := 0x4300 * 256 + 0x14
/-- LEDGER_REFUSE_BY 0x4300:15 to 18 (R440). -/
def K.ledgerRefuseBy (k : Nat) : Nat := 0x4300 * 256 + (0x15 + k)
/-- LEDGER_ROOT_DROP 0x4300:19 (R440). -/
def K.ledgerRootDrop : Nat := 0x4300 * 256 + 0x19
/-- LEDGER_SEAL_MAX 0x4300:1A (R440). -/
def K.ledgerSealMax : Nat := 0x4300 * 256 + 0x1A
/-- SR_LANE_STATE 0x5000:01 (R465). -/
def K.srLaneState : Nat := 0x5000 * 256 + 0x01
/-- SR_LANES_IN_SERVICE 0x5000:02 (R465). -/
def K.srLanesInService : Nat := 0x5000 * 256 + 0x02
/-- SR_QUEUE_DEPTH 0x5000:03 (R465). -/
def K.srQueueDepth : Nat := 0x5000 * 256 + 0x03
/-- SR_QUEUE_PEAK 0x5000:04 (R465). -/
def K.srQueuePeak : Nat := 0x5000 * 256 + 0x04
/-- SR_JOBS_DONE 0x5000:05 (R465). -/
def K.srJobsDone : Nat := 0x5000 * 256 + 0x05
/-- SR_REFUSED 0x5000:06 (R465). -/
def K.srRefused : Nat := 0x5000 * 256 + 0x06
/-- SR_ABORTED 0x5000:07 (R465). -/
def K.srAborted : Nat := 0x5000 * 256 + 0x07
/-- SR_SIGN_FAILS 0x5000:08 (R465). -/
def K.srSignFails : Nat := 0x5000 * 256 + 0x08
/-- SR_LANE_RESTORE 0x5000:09 (R465). -/
def K.srLaneRestore : Nat := 0x5000 * 256 + 0x09
/-- SR_LANE_BUSY 0x5000:0A (R465). -/
def K.srLaneBusy : Nat := 0x5000 * 256 + 0x0A
/-- SR_SLOT_LAYOUT 0x5001:01 (R465). -/
def K.srSlotLayout : Nat := 0x5001 * 256 + 0x01
/-- SR_JOB_SUBMIT 0x5010:01 (R465). -/
def K.srJobSubmit : Nat := 0x5010 * 256 + 0x01
/-- SR_JOB_STATE 0x5010:02 (R465). -/
def K.srJobState : Nat := 0x5010 * 256 + 0x02
/-- SR_JOB_RESULT 0x5010:03 (R465). -/
def K.srJobResult : Nat := 0x5010 * 256 + 0x03
/-- SR_JOB_TAG 0x5010:04 (R465). -/
def K.srJobTag : Nat := 0x5010 * 256 + 0x04
/-- SR_JOB_LANE 0x5010:05 (R465). -/
def K.srJobLane : Nat := 0x5010 * 256 + 0x05
/-- SR_JOB_TIME 0x5010:06 (R465). -/
def K.srJobTime : Nat := 0x5010 * 256 + 0x06
/-- SR_JOB_ABORT 0x5010:07 (R465). -/
def K.srJobAbort : Nat := 0x5010 * 256 + 0x07
/-- SR_SLOT_DATA 0x5040–0x507F:01 (R465). -/
def K.srSlotData (u : Nat) : Nat := (0x5040 + u) * 256 + 0x01
/-- KH_LIFECYCLE 0x5100:01 (R487). -/
def K.khLifecycle : Nat := 0x5100 * 256 + 0x01
/-- KH_PROVISION 0x5100:02 (R487). -/
def K.khProvision : Nat := 0x5100 * 256 + 0x02
/-- KH_PROV_COMMIT 0x5100:03 (R487). -/
def K.khProvCommit : Nat := 0x5100 * 256 + 0x03
/-- KH_DIK_PUB 0x5100:04 (R487). -/
def K.khDikPub : Nat := 0x5100 * 256 + 0x04
/-- KH_OWNER_PUB 0x5100:05 (R487). -/
def K.khOwnerPub : Nat := 0x5100 * 256 + 0x05
/-- KH_OWNER_PUB_SET 0x5100:06 (R487). -/
def K.khOwnerPubSet : Nat := 0x5100 * 256 + 0x06
/-- KH_OWNER_KEY_SET 0x5100:07 (R487). -/
def K.khOwnerKeySet : Nat := 0x5100 * 256 + 0x07
/-- KH_OWNER_XFER 0x5100:08 (R487). -/
def K.khOwnerXfer : Nat := 0x5100 * 256 + 0x08
/-- KH_ENTROPY_STATE 0x5100:09 (R487). -/
def K.khEntropyState : Nat := 0x5100 * 256 + 0x09
/-- KH_ENTROPY_FAILS 0x5100:0A (R487). -/
def K.khEntropyFails : Nat := 0x5100 * 256 + 0x0A
/-- KH_RESEEDS 0x5100:0B (R487). -/
def K.khReseeds : Nat := 0x5100 * 256 + 0x0B
/-- KH_KEYSTORE_GEN 0x5100:0C (R487). -/
def K.khKeystoreGen : Nat := 0x5100 * 256 + 0x0C
/-- KH_KEYGEN 0x5100:0D (R487). -/
def K.khKeygen : Nat := 0x5100 * 256 + 0x0D
/-- KH_KEY_DESTROY 0x5100:0E (R487). -/
def K.khKeyDestroy : Nat := 0x5100 * 256 + 0x0E
/-- KH_NTS_ROTATE_PERIOD 0x5100:0F (R487). -/
def K.khNtsRotatePeriod : Nat := 0x5100 * 256 + 0x0F
/-- KH_NTS_ROTATE 0x5100:10 (R487). -/
def K.khNtsRotate : Nat := 0x5100 * 256 + 0x10
/-- KH_BOOT_STATUS 0x5100:11 (R487). -/
def K.khBootStatus : Nat := 0x5100 * 256 + 0x11
/-- KH_FW_HASH 0x5100:12 (R487). -/
def K.khFwHash : Nat := 0x5100 * 256 + 0x12
/-- KH_OWNER_COSIGN 0x5100:13 (R487). -/
def K.khOwnerCosign : Nat := 0x5100 * 256 + 0x13
/-- KH_COSIGN_ENABLE 0x5100:14 (R487). -/
def K.khCosignEnable : Nat := 0x5100 * 256 + 0x14
/-- KH_ROLLBACK_COMMIT 0x5100:15 (R487). -/
def K.khRollbackCommit : Nat := 0x5100 * 256 + 0x15
/-- KH_ATTEST_REQ 0x5100:16 (R487). -/
def K.khAttestReq : Nat := 0x5100 * 256 + 0x16
/-- KH_ATTEST_STATE 0x5100:17 (R487). -/
def K.khAttestState : Nat := 0x5100 * 256 + 0x17
/-- KH_ATTEST_REPORT 0x5100:18 (R487). -/
def K.khAttestReport : Nat := 0x5100 * 256 + 0x18
/-- KH_TAMPER 0x5100:19 (R487). -/
def K.khTamper : Nat := 0x5100 * 256 + 0x19
/-- KH_TAMPER_CFG 0x5100:1A (R487). -/
def K.khTamperCfg : Nat := 0x5100 * 256 + 0x1A
/-- KH_TAMPER_CLEAR 0x5100:1B (R487). -/
def K.khTamperClear : Nat := 0x5100 * 256 + 0x1B
/-- KS_STATE 0x5140–0x517F:01 (R487). -/
def K.ksState (u : Nat) : Nat := (0x5140 + u) * 256 + 0x01
/-- KS_TYPE 0x5140–0x517F:02 (R487). -/
def K.ksType (u : Nat) : Nat := (0x5140 + u) * 256 + 0x02
/-- KS_USE 0x5140–0x517F:03 (R487). -/
def K.ksUse (u : Nat) : Nat := (0x5140 + u) * 256 + 0x03
/-- KS_KEY_ID 0x5140–0x517F:04 (R487). -/
def K.ksKeyId (u : Nat) : Nat := (0x5140 + u) * 256 + 0x04
/-- KS_PUB 0x5140–0x517F:05 (R487). -/
def K.ksPub (u : Nat) : Nat := (0x5140 + u) * 256 + 0x05
/-- DB_IRQ_MASK 0x6100:01 (R500). -/
def K.dbIrqMask : Nat := 0x6100 * 256 + 0x01
/-- DB_IRQ_PEND 0x6100:02 (R500). -/
def K.dbIrqPend : Nat := 0x6100 * 256 + 0x02
/-- DB_NOTICE_DROP 0x6100:03 (R500). -/
def K.dbNoticeDrop : Nat := 0x6100 * 256 + 0x03
/-- MB_LEVEL_IN 0x6110–0x611F:01 (R500). -/
def K.mbLevelIn (u : Nat) : Nat := (0x6110 + u) * 256 + 0x01
/-- MB_LEVEL_OUT 0x6110–0x611F:02 (R500). -/
def K.mbLevelOut (u : Nat) : Nat := (0x6110 + u) * 256 + 0x02
/-- MB_SEND 0x6110–0x611F:03 (R500). -/
def K.mbSend (u : Nat) : Nat := (0x6110 + u) * 256 + 0x03
/-- MB_RECV 0x6110–0x611F:04 (R500). -/
def K.mbRecv (u : Nat) : Nat := (0x6110 + u) * 256 + 0x04
/-- MB_REFUSED 0x6110–0x611F:05 (R500). -/
def K.mbRefused (u : Nat) : Nat := (0x6110 + u) * 256 + 0x05
/-- MB_ENDPOINTS 0x6110–0x611F:06 (R500). -/
def K.mbEndpoints (u : Nat) : Nat := (0x6110 + u) * 256 + 0x06
/-- STUDY_CORE_STATE 0x6200:01 (R500). -/
def K.studyCoreState : Nat := 0x6200 * 256 + 0x01
/-- STUDY_WDT_PERIOD 0x6200:02 (R500). -/
def K.studyWdtPeriod : Nat := 0x6200 * 256 + 0x02
/-- STUDY_WDT_RESETS 0x6200:03 (R500). -/
def K.studyWdtResets : Nat := 0x6200 * 256 + 0x03
/-- STUDY_ACTIVE_LOC 0x6200:04 (R500). -/
def K.studyActiveLoc : Nat := 0x6200 * 256 + 0x04
/-- STUDY_NEXT_LOC 0x6200:05 (R500). -/
def K.studyNextLoc : Nat := 0x6200 * 256 + 0x05
/-- STUDY_STAGE_STATE 0x6200:06 (R500). -/
def K.studyStageState : Nat := 0x6200 * 256 + 0x06
/-- STUDY_STAGE_RESULT 0x6200:07 (R500). -/
def K.studyStageResult : Nat := 0x6200 * 256 + 0x07
/-- STUDY_LOC_INFO 0x6200:08 (R500). -/
def K.studyLocInfo : Nat := 0x6200 * 256 + 0x08
/-- STUDY_FW_IMAGE 0x6201:00 (R500). -/
def K.studyFwImage : Nat := 0x6201 * 256 + 0x00
/-- ATTIC_HEAD 0x6000:01 (R522). -/
def K.atticHead : Nat := 0x6000 * 256 + 0x01
/-- ATTIC_TAIL 0x6000:02 (R522). -/
def K.atticTail : Nat := 0x6000 * 256 + 0x02
/-- ATTIC_SNAP 0x6000:03 (R522). -/
def K.atticSnap : Nat := 0x6000 * 256 + 0x03
/-- ATTIC_SNAP_HEAD 0x6000:04 (R522). -/
def K.atticSnapHead : Nat := 0x6000 * 256 + 0x04
/-- ATTIC_SNAP_TAIL 0x6000:05 (R522). -/
def K.atticSnapTail : Nat := 0x6000 * 256 + 0x05
/-- ATTIC_SNAP_TIME 0x6000:06 (R522). -/
def K.atticSnapTime : Nat := 0x6000 * 256 + 0x06
/-- ATTIC_CURSOR 0x6000:07 (R522). -/
def K.atticCursor : Nat := 0x6000 * 256 + 0x07
/-- ATTIC_WINDOW 0x6000:08 (R522). -/
def K.atticWindow : Nat := 0x6000 * 256 + 0x08
/-- ATTIC_PENDING 0x6000:09 (R522). -/
def K.atticPending : Nat := 0x6000 * 256 + 0x09
/-- ATTIC_LOST 0x6000:0A (R522). -/
def K.atticLost : Nat := 0x6000 * 256 + 0x0A
/-- ATTIC_CLEAR_NONCE 0x6000:0B (R522). -/
def K.atticClearNonce : Nat := 0x6000 * 256 + 0x0B
/-- ATTIC_CLEAR 0x6000:0C (R522). -/
def K.atticClear : Nat := 0x6000 * 256 + 0x0C
/-- ATTIC_CLEAR_STATE 0x6000:0D (R522). -/
def K.atticClearState : Nat := 0x6000 * 256 + 0x0D
/-- ATTIC_FLASH_STATE 0x6000:0E (R522). -/
def K.atticFlashState : Nat := 0x6000 * 256 + 0x0E
/-- ATTIC_BAD_SECTORS 0x6000:0F (R522). -/
def K.atticBadSectors : Nat := 0x6000 * 256 + 0x0F
/-- ATTIC_RETAINED 0x6001:01 (R522). -/
def K.atticRetained : Nat := 0x6001 * 256 + 0x01
/-- CELLAR_COUNT 0x2010:01 (R544). -/
def K.cellarCount : Nat := 0x2010 * 256 + 0x01
/-- CELLAR_OP_MINUTES 0x2010:02 (R544). -/
def K.cellarOpMinutes : Nat := 0x2010 * 256 + 0x02
/-- CELLAR_POWER_CYCLES 0x2010:03 (R544). -/
def K.cellarPowerCycles : Nat := 0x2010 * 256 + 0x03
/-- CELLAR_XTAL_PPB 0x2010:04 (R544). -/
def K.cellarXtalPpb : Nat := 0x2010 * 256 + 0x04
/-- CELLAR_WAKE_AFTER 0x2010:05 (R544). -/
def K.cellarWakeAfter : Nat := 0x2010 * 256 + 0x05
/-- CELLAR_RET_USED 0x2010:06 (R544). -/
def K.cellarRetUsed : Nat := 0x2010 * 256 + 0x06
/-- FB_STATE 0x2000:01 (R544). -/
def K.fbState : Nat := 0x2000 * 256 + 0x01
/-- FB_TARGET 0x2000:02 (R544). -/
def K.fbTarget : Nat := 0x2000 * 256 + 0x02
/-- FB_HOLD 0x2000:03 (R544). -/
def K.fbHold : Nat := 0x2000 * 256 + 0x03
/-- FB_IDLE_TIME 0x2000:04 (R544). -/
def K.fbIdleTime : Nat := 0x2000 * 256 + 0x04
/-- FB_WAKE_MASK 0x2000:05 (R544). -/
def K.fbWakeMask : Nat := 0x2000 * 256 + 0x05
/-- FB_WAKE_IN_CFG 0x2000:06 (R544). -/
def K.fbWakeInCfg : Nat := 0x2000 * 256 + 0x06
/-- FB_WAKE_CAUSE 0x2000:07 (R544). -/
def K.fbWakeCause : Nat := 0x2000 * 256 + 0x07
/-- FB_WAKE_PORT 0x2000:08 (R544). -/
def K.fbWakePort : Nat := 0x2000 * 256 + 0x08
/-- FB_WAKES 0x2000:09 (R544). -/
def K.fbWakes : Nat := 0x2000 * 256 + 0x09
/-- FB_ENTRY_ABORTS 0x2000:0A (R544). -/
def K.fbEntryAborts : Nat := 0x2000 * 256 + 0x0A
/-- LATENCY_TOL 0x2001:00 (R544). -/
def K.latencyTol : Nat := 0x2001 * 256 + 0x00
/-- FB_SLOPE 0x2002:01 (R544). -/
def K.fbSlope : Nat := 0x2002 * 256 + 0x01
/-- FB_STEP_GAP 0x2002:02 (R544). -/
def K.fbStepGap : Nat := 0x2002 * 256 + 0x02
/-- FB_SEQ_QUEUE 0x2002:03 (R544). -/
def K.fbSeqQueue : Nat := 0x2002 * 256 + 0x03
/-- FB_SEQ_PEAK 0x2002:04 (R544). -/
def K.fbSeqPeak : Nat := 0x2002 * 256 + 0x04
/-- FB_SEQ_MAXWAIT 0x2002:05 (R544). -/
def K.fbSeqMaxwait : Nat := 0x2002 * 256 + 0x05
/-- FB_VBAT_MV 0x2003:01 (R544). -/
def K.fbVbatMv : Nat := 0x2003 * 256 + 0x01
/-- FB_VCORE_MV 0x2003:02 (R544). -/
def K.fbVcoreMv : Nat := 0x2003 * 256 + 0x02
/-- FB_DIE_TEMP 0x2003:03 (R544). -/
def K.fbDieTemp : Nat := 0x2003 * 256 + 0x03
/-- FB_RAIL_FAULTS 0x2003:04 (R544). -/
def K.fbRailFaults : Nat := 0x2003 * 256 + 0x04
/-- AGE_REPLAN_DAYS 0x2020:01 (R544). -/
def K.ageReplanDays : Nat := 0x2020 * 256 + 0x01
/-- AGE_REPLAN_NOW 0x2020:02 (R544). -/
def K.ageReplanNow : Nat := 0x2020 * 256 + 0x02
/-- AGE_LAST_REPLAN 0x2020:03 (R544). -/
def K.ageLastReplan : Nat := 0x2020 * 256 + 0x03
/-- AGE_AVS_FLOOR 0x2020:04 (R544). -/
def K.ageAvsFloor : Nat := 0x2020 * 256 + 0x04
/-- AGE_AVS_MARGIN 0x2020:05 (R544). -/
def K.ageAvsMargin : Nat := 0x2020 * 256 + 0x05
/-- AGE_AVS_NOW 0x2020:06 (R544). -/
def K.ageAvsNow : Nat := 0x2020 * 256 + 0x06
/-- AGE_LIFE_USED 0x2020:07 (R544). -/
def K.ageLifeUsed : Nat := 0x2020 * 256 + 0x07
/-- AGE_LIFE_REMAIN 0x2020:08 (R544). -/
def K.ageLifeRemain : Nat := 0x2020 * 256 + 0x08
/-- AGE_WORST_SITE 0x2020:09 (R544). -/
def K.ageWorstSite : Nat := 0x2020 * 256 + 0x09
/-- SITE_KIND 0x2040–0x205F:01 (R544). -/
def K.siteKind (u : Nat) : Nat := (0x2040 + u) * 256 + 0x01
/-- SITE_DEGRADE 0x2040–0x205F:02 (R544). -/
def K.siteDegrade (u : Nat) : Nat := (0x2040 + u) * 256 + 0x02
/-- SITE_LIMIT 0x2040–0x205F:03 (R544). -/
def K.siteLimit (u : Nat) : Nat := (0x2040 + u) * 256 + 0x03
/-- CELLAR_SEED_PPM 0x2010:07 (R550). -/
def K.cellarSeedPpm : Nat := 0x2010 * 256 + 0x07
/-- CELLAR_SEED_MAX 0x2010:08 (R550). -/
def K.cellarSeedMax : Nat := 0x2010 * 256 + 0x08
/-- CELLAR_SEED_UNC 0x2010:09 (R550). -/
def K.cellarSeedUnc : Nat := 0x2010 * 256 + 0x09
/-- CELLAR_SNAP_TIME 0x2010:0A (R550). -/
def K.cellarSnapTime : Nat := 0x2010 * 256 + 0x0A
/-- CELLAR_SNAP_UNC 0x2010:0B (R550). -/
def K.cellarSnapUnc : Nat := 0x2010 * 256 + 0x0B
/-- CFG_SAVE 0x7020:01 (R552). -/
def K.cfgSave : Nat := 0x7020 * 256 + 0x01
/-- CFG_ERASE 0x7020:02 (R552). -/
def K.cfgErase : Nat := 0x7020 * 256 + 0x02
/-- CFG_STATE 0x7020:03 (R552). -/
def K.cfgState : Nat := 0x7020 * 256 + 0x03
/-- CFG_GEN 0x7020:04 (R552). -/
def K.cfgGen : Nat := 0x7020 * 256 + 0x04
/-- CFG_SAVED_AT 0x7020:05 (R552). -/
def K.cfgSavedAt : Nat := 0x7020 * 256 + 0x05
/-- FB_DEV_WDT_DELAY 0x2004:01 (R557). -/
def K.fbDevWdtDelay : Nat := 0x2004 * 256 + 0x01
/-- FB_LAST_RESET 0x2004:02 (R557). -/
def K.fbLastReset : Nat := 0x2004 * 256 + 0x02
/-- FB_SAFE_START 0x2004:03 (R557). -/
def K.fbSafeStart : Nat := 0x2004 * 256 + 0x03
/-- FB_WDT_STARTS 0x2004:04 (R557). -/
def K.fbWdtStarts : Nat := 0x2004 * 256 + 0x04

end Sys2Proof.Machine
end

