-- ==== Sys2Proof/Config.lean ====
section
/-! DEFINITION. What an implementation fixes, and the free values: constants without a body, of which no proof can know a value. -/

namespace Sys2Proof.Config

/-- FREE VALUE: the n-th byte that the Keyhole DRBG gives out (R46, R53, R516; R468 fixes no output). -/
opaque drbgByte : Nat → Byte

/-- FREE VALUE: what a counter reads after it passes the top of its type (key, width in bits); the spec states no such result. -/
opaque counterOver : Nat → Nat → Nat

/-- FREE VALUE: the true offset of the Cellar crystal from 32.768 kHz against CK_TIME, in ppb (R538 measures it, no rule fixes it). -/
opaque xtalPpb : Int

/-- FREE VALUE: what MT reads after a backward step in T0 to T2 that would carry it below 0 s; the spec states no result. -/
opaque mtBelowEpoch : Int → Nat

/-- FREE VALUE: the natural frequency, in 2^-32 rad/s, that a bandwidth (mHz) gives the second-order loop of R151; R152 fixes the damping and
not which bandwidth is meant. -/
opaque dpllOmega : Nat → Nat

/-- FREE VALUE: the share, in 2^-32, of a frequency error by which the integral path moves in one update under a bandwidth (mHz), with a
frequency-only candidate selected (R151). -/
opaque dpllFreqGain : Nat → Nat

/-- FREE VALUE: how many CK_TIME ticks after the handover the boot oscillator stops (R118: within 10 us). -/
opaque bootStop : Nat

/-- FREE VALUE: the error in 0.01 °C of the OSC_TS conversion for a β (K) and a resistance (ohm); R163 keeps it within ±0.5 °C. -/
opaque ntcError : Nat → Nat → Int

/-- FREE VALUE: a result of the weighted least squares fit over the samples (time, y, temperature) with the terms a, c1 and c2 that are held
fixed, the weights not being stated (R166): 0 y0, 1 epoch, 2 ageing, 3 c1, 4 c2, 5 rms residual, and the standard errors of 6 the
frequency at the latest sample, 7 the ageing, 8 c1. -/
opaque fit : List (Nat × Int × Int) → Option Int → Option Int → Option Int → Nat → Int

/-- FREE VALUE: the regression residual u_r of a frequency-only candidate (R173) as a fraction in 2^-48, from the rms residual of its regression
(2^-16 ns) and its gate (s); R173 names it only. -/
opaque freqResidual : Nat → Nat → Nat

/-- FREE VALUE: Skylight's internal RF-to-latch delay in 2^-16 ns (R205); the spec gives no figure. -/
opaque rfLatchDelay : Nat

/-- FREE VALUE: does a navigation page of a signal pass its own parity or CRC (R196); the spec does not give those codes. -/
opaque navPageOk : Nat → Bytes → Bool

/-- FREE VALUE: do the pages loaded for a satellite (constellation, SV; each with the MT second of its load) give an ephemeris that is complete under
its issue-of-data rules and within its broadcast validity at an MT second (R196; the constellations' own documents, which the spec does not give). -/
opaque pagesEphemeris : Nat → Nat → List (Nat × Bytes) → Nat → Bool

/-- FREE VALUE: do those pages give a satellite a valid almanac (R196; the same documents). -/
opaque pagesAlmanac : Nat → Nat → List (Nat × Bytes) → Nat → Bool

/-- FREE VALUE: do a constellation's loaded pages carry its system-time offset to another, at an MT second (R196, R209; the same documents). -/
opaque pagesSysOff : Nat → Nat → List (Nat × Bytes) → Nat → Bool

/-- FREE VALUE: the TAI - UTC, and the announced change in the layout of Table 3-8, that a constellation's loaded pages carry at an MT second, if
they carry them (R196, R215; the same documents). -/
opaque pagesUtc : Nat → List (Nat × Bytes) → Nat → Option (Int × Bytes)

/-- FREE VALUE: the predicted distance (2^-14 ns) to a satellite (signal code, SV) from a position (mm), as loaded at an MT second, at an MT instant
(2^-16 ns) of the 4 h it is valid for (R218; orbit mechanics, which the spec does not give). -/
opaque satRange : Nat → Nat → Nat → Int × Int × Int → Nat → Int

/-- FREE VALUE: the satellite clock's (0) and the broadcast ionospheric (1) delay (2^-14 ns) of a satellite (signal code, SV) at an MT second (R218). -/
opaque satDelay : Nat → Nat → Nat → Nat → Int

/-- FREE VALUE: the code (0) and carrier (1) NCO rates, in 2^-48 turns a sample, with which a signal's channel starts a pull-in (R203). -/
opaque ncoStart : Nat → Nat → Nat

/-- FREE VALUE: the code and carrier NCO rates after a loop update, from the dump's accumulators, the rates, the PLL and DLL bandwidths, the early-late
spacing, and, where the side-peak check of a BOC signal applies, the very early to very late spacing (R202 names the loops, not their laws). -/
opaque ncoNext : List (Int × Int) → Nat × Nat → Nat × Nat → Nat → Option Nat → Nat × Nat

/-- FREE VALUE: what an offset of time that does not fit an I64 of 2^-16 ns reads as (R210; the spec states no such result). -/
opaque wideOffset : Int → Int

/-- FREE VALUE: the low byte of the event code, in the range of the subsystem that lost its provider, by which the entry and the exit of condition
`c` of Table 1-2 are recorded: 0 fewer than two lanes, 1 the ledger key, 2 the NTS master key, 3 a Study core (R17 has each entry and exit recorded;
no event table lists these codes). -/
opaque lossCode : Nat → Nat

/-- FREE VALUE: how many ticks (taken modulo 5 ms) the first calibration of the interpolators takes (R235). -/
opaque calTicks : Nat

/-- FREE VALUE: the bin widths in fs that channel n's interpolator i finds in its first calibration (R235, R236). -/
opaque firstBins : Nat → Nat → List Nat

/-- FREE VALUE: how many ticks (taken modulo 1,700 ns) a running job needs to its next yield point, by the tick, where Table 16-5 puts the points
inside an operation's own phases (R455). -/
opaque yieldWait : Nat → Nat

/-- FREE VALUE: PORCH_MAC_BASE, fused per unit (Table 10-11), as a 48-bit number. -/
opaque macBase : Nat

/-- FREE VALUE: a port's calibrated internal latency in ps, by port, mode, FEC and direction (true for receive); R306 takes it as
calibrated in production, and it lies within 5 % of Table 11-1. -/
opaque stampLat : Nat → Nat → Nat → Bool → Nat

/-- FREE VALUE: the set of the client table that a ring, ingress port and source address hash to under the salt drawn at a reset, here
told apart by the tick of its release (R371). -/
opaque clientSet : Nat → Nat → Nat → Bytes → Nat

/-- FREE VALUE: the free-domain servo's integral term in MT's unit times 2^-48 per tick, from the bandwidth (mHz), the offset
(2^-16 ns) and its last value; R410 names a proportional-integral servo and gives no discrete law. -/
opaque servoIntegral : Nat → Int → Int → Int

/-- FREE VALUE: the free-domain servo's proportional term, in the same unit (R410). -/
opaque servoProportional : Nat → Int → Int

/-- FREE VALUE: the n-th draw of port p's backoff generator (R285), of which the low bits are taken; the spec gives only that it is uniform. -/
opaque backoff : Nat → Nat → Nat

/-- FREE VALUE: IP header fields of frames the part originates that the spec does not name: 0 the type of service, 1 the
identification, 2 the time to live or hop limit, 3 the traffic class and flow label. -/
opaque ipField : Nat → Nat

/-- FREE VALUE: the scope of the IPv6 PTP multicast address FF0x::181 that an instance sends to; the spec names no scope. -/
opaque ptpScope : Nat

/-- FREE VALUE: the VDD_CORE set point (mV) that the AVS loop asks for, by the number of re-plans; R542 names the loop and its
limits, not its law. -/
opaque avsWanted : Nat → Int

/-- SITE_LIMIT of an ageing site in ppm, set in production (R540). -/
opaque siteLimit : Nat → Int

/-- FREE VALUE: TDC_TRIM from the delay-line canary's degradation in ppm (R541); the spec gives no law. -/
opaque tdcTrim : Int → Nat

/-- FREE VALUE: AGE_LIFE_USED (0) and AGE_LIFE_REMAIN (1) from the re-plans' ratios and minutes, where R543 fits n over three or more
re-plans (no method is stated), and AGE_LIFE_REMAIN at a ratio of 0 (t_L has no finite value). -/
opaque lifeFit : List (Nat × Nat) → Nat → Nat

/-- FREE VALUE: what the supply monitors read in mV: 0 VBAT, 1 VDD_CORE, by tick (R539; a physical quantity). -/
opaque supplyMv : Nat → Nat → Nat

/-- FREE VALUE: the two cores that a Doorbell channel joins, as MB_ENDPOINTS codes them (R494, R500 name no cores but MB8's). -/
opaque mbCores : Nat → Nat

end Sys2Proof.Config
end

