-- ==== Sys2Proof/Machine/State.lean ====
section
/-! DEFINITION. The state of the LY4844 as plain data: the live and staged object values, the clocks, the state the chapters
give each subsystem beside its objects, what the part sends out, and the queue of waiting commands.
A field's default here is its value in State.reset. -/

namespace Sys2Proof.Machine

/-! ## Dictionary types (Tables 2-4, 2-5) -/

/-- The data types of Table 2-4 (R42); a width is in bytes. STAMP32 is `uns 4`, RATE48 is `sgn 8`. -/
inductive Ty where
  | bool
  | uns (n : Nat)
  | sgn (n : Nat)
  | time96
  | octets (n : Nat)
  | upTo (n : Nat)
  deriving DecidableEq, Repr

/-- The access kinds of Table 2-5 (R43). -/
inductive Acc where
  | ro | rw | wo | rwc | rws
  deriving DecidableEq, Repr

/-- The default column of an object table; `unit` is the unit number of the range, `mac` PORCH_MAC_BASE plus it (R301, R302),
`clockId` the identity of R392. -/
inductive Dflt where
  | num (v : Int)
  | unit
  | rep (n : Nat) (b : Nat)
  | bytes (bs : List Nat)
  | mac
  | clockId
  deriving DecidableEq, Repr

/-- The range column of an object table. -/
inductive Rng where
  | any
  | span (lo hi : Int)
  | spanOr (lo hi x : Int)
  | oneOf (vs : List Int)
  | mask (m : Nat)
  deriving DecidableEq, Repr

/-- One row of an object table: its indices, its subs, type, access, default, range and commit group (R580). -/
structure ObjRow where
  lo : Nat
  hi : Nat
  subLo : Nat
  subHi : Nat
  ty : Ty
  acc : Acc
  dflt : Dflt
  rng : Rng
  grp : Nat
  deriving DecidableEq, Repr

/-- The value of an object: a number (TIME96 in units of 2^-16 ns) or a byte string. -/
inductive Val where
  | num (v : Int)
  | oct (bs : Bytes)
  deriving DecidableEq, Repr

/-- Values by object key (index times 256 plus sub), keys strictly rising; an unlisted key reads as `Ops` states. -/
abbrev Store := List (Nat × Val)

/-! ## What leaves the part -/

/-- A HAP PDU (R38) without its CRC, which its bytes determine; `mac` is empty unless FLAGS[0] is set. -/
structure HapPdu where
  opcode : Nat
  flags : Nat
  sub : Nat
  index : Nat
  txn : Nat
  status : Nat
  token : Nat
  seq : Nat
  payload : Bytes
  mac : Bytes
  deriving DecidableEq, Repr

/-- What a CAN frame carries around a PDU (R36, R299): its identifier, whether it is a CAN XL frame with which SDT, VCID and AF, and how
many bytes of padding follow the PDU up to a valid CAN FD length (their value is not stated). -/
structure CanHead where
  ident : Nat
  xl : Bool
  sdt : Nat
  vcid : Nat
  af : Nat
  pad : Nat
  deriving DecidableEq, Repr

/-- What the part puts on its pins and links, newest last in `Device.outbox`. The model's own log, not a register. A frame stands with
its FCS. -/
inductive Output where
  | hap (dst : Partner) (head : CanHead) (pdu : HapPdu)   -- on a CAN controller
  | frame (port : Nat) (bytes : Bytes)
  | edge (out : Nat) (ps : Nat) (leading : Bool)
  | ntske (records : Bytes)                               -- what Study answers an NTS-KE client (R381)
  | tlsAlert (code : Nat)                                 -- a TLS alert to an NTS-KE client; 0 is close_notify
  | beacon (port : Nat)                                   -- a PLCA beacon (R283)
  | mdio (write : Bool) (phy mmd reg data : Nat)          -- a Clause 45 access on the MDIO pins (R293)
  deriving DecidableEq, Repr

/-! ## Subsystems -/

/-- The waveform of a clock output (R123, R124): its frequency in 2^-32 Hz, where a free one had a rising edge (root time, ps), and for an
aligned one its lag behind the grid of whole MT seconds (its frequency in whole Hz times the lag, in MT's unit) with the whole second, in
MT's unit, at which it realigns. -/
structure CkoWave where
  freq : Nat
  aligned : Bool
  startPs : Nat
  lag : Nat
  realign : Nat
  deriving DecidableEq, Repr

/-- A clock output beside its objects (R123): MT when it began to wait for a whole second, the waveform it gives, and an earlier one that
completes its cycle or its high phase until a root time (ps). -/
structure CkoUnit where
  since : Nat := 0
  wave : Option CkoWave := none
  tail : Option (CkoWave × Nat) := none
  deriving DecidableEq, Repr

/-- The clocks. MT is exact in units of 1/(5 * 2^48) ns (R75, R76): one CK_TIME tick of 0.8 ns is 4 * 2^48 of them.
`handover` is the tick on which the derived dividers were released, once they have been (R118); `stepAt` the tick of the last step of MT; `dco` is the sum over the ticks of D
(2^-48); `marks` are MT instants at which a gate starts, with the tick and the pulls so far once MT has reached them. `pull`, `domPull` and `pulled` (all pulls so far) are in 2^-48 ns, `stepped` (all steps so far) in 2^-16 ns; a domain is in units of MT's unit times 2^-48 (R101). -/
structure Clock where
  ticks : Nat := 0
  mtRun : Bool := false
  mt : Nat := 0
  pull : Int := 0
  pulled : Int := 0
  stepped : Int := 0
  stepAt : Nat := 0
  dom : List Int := List.replicate 8 0
  domPull : List Int := List.replicate 8 0
  servo : List Int := List.replicate 8 0
  xtal : Nat := 0
  utcOff : Int := 37
  setPending : List (Nat × Nat × Nat) := []
  stepPending : List (Int × Nat × Nat) := []
  replicaBad : List (Nat × Nat) := []
  handover : Option Nat := none
  dco : Int := 0
  marks : List (Nat × Option (Nat × Int)) := []
  cko : List CkoUnit := List.replicate 4 {}
  deriving DecidableEq, Repr

/-- A segmented transfer (R57 to R61): its direction, the data bytes of a read's segment, its object, whole length, the bytes
received or copied, the next SEGNO of a write or the bytes a read has given, the last answer's tick, and how many records had left the FIFO
that is read (R232). -/
structure Xfer where
  writing : Bool
  seg : Nat
  index : Nat
  sub : Nat
  total : Nat
  buf : Bytes
  next : Nat
  since : Nat
  base : Nat := 0
  deriving DecidableEq, Repr

/-- Foyer: the ownership lock, the session and the transfer in progress (R45 to R63), and the CAN and UDP requests retained while the part
wakes (R41, R300). -/
structure Foyer where
  owner : Option Partner := none
  ownerXl : Bool := false
  token : Nat := 0
  lastValid : Nat := 0
  pendingSince : Nat := 0
  hostNonce : Bytes := []
  devNonce : Bytes := []
  key : Bytes := []
  seqIn : Nat := 0
  seqOut : Nat := 0
  fails : Nat := 0
  xfer : Option Xfer := none
  hbCount : Nat := 0
  hbLast : Nat := 0
  cause : Nat := 0xFE
  held : List HapReq := []
  deriving DecidableEq, Repr

/-- An immediate commit that was accepted and has not ended (R70, R579), with the request its answer belongs to. -/
structure ImmCommit where
  groups : Nat
  since : Nat
  src : Partner
  xl : Bool
  opcode : Nat
  txn : Nat
  deriving DecidableEq, Repr

/-- What a scheduled-action slot holds beside its objects of Table 3-6 (R90): the groups or the amount, and the transport that asked. -/
structure Slot where
  groups : Nat := 0
  amount : Int := 0
  src : Nat := 0xFE
  deriving DecidableEq, Repr

/-- A commit whose groups have switched and whose port power-ups wait for the sequencer (R282): the ports, when it was accepted, its
groups, its slot or 0xFF, whether another unit did not apply, the request to answer, and the transport that asked. -/
structure Grant where
  src : Nat
  waiting : List Nat
  since : Nat
  groups : Nat
  slot : Nat
  bad : Bool
  imm : Option ImmCommit
  deriving DecidableEq, Repr

/-- The commit engine (R50, R67 to R74, R282, R579): immediate commits and commits that wait for power-ups, what the slots hold, and
the groups whose revert waits since the release of the lock. -/
structure CommitEngine where
  imm : List ImmCommit := []
  grants : List Grant := []
  slots : List Slot := List.replicate 16 {}
  reverts : List Nat := []
  deriving DecidableEq, Repr

/-- An event report as a subsystem issues it (R504): `time` is MT, or the Cellar's estimate of it, in 2^-16 ns; `tick` the CK_FAB tick
on which it arrives. -/
structure Report where
  code : Nat
  source : Nat
  time : Int
  tick : Nat
  mtRun : Bool
  tstate : Nat
  p : List Int
  deriving DecidableEq, Repr

/-- The Attic (R501 to R522): reports that wait to be formed, when the conditions recorded once were last seen, the Cellar's sequence
counter, the CRC of the last record (0 if cleared or lost), the flash ring as slots with their records (oldest first), the next
slot, a torn slot, the bad sectors, the pending queue, retention RAM (oldest first), the lowest number not yet in flash, the
reports not formed for want of room in the queue and in sleep, the clear in progress with whether a reset cut it. -/
structure Attic where
  reports : List Report := []
  lastSeen : List (Nat × Nat) := []
  next : Nat := 0
  prevCrc : Nat := 0
  flash : List (Nat × Bytes) := []
  pos : Nat := 0
  torn : Option Nat := none
  bad : List Nat := []
  pending : List Bytes := []
  retention : List Bytes := []
  flashed : Nat := 0
  full : Nat := 0
  asleep : Nat := 0
  clearing : Option (Nat × Bool × Nat) := none
  deriving DecidableEq, Repr

/-- An output's own state (R256 to R264): the next edge index, the first MT second whose repetition at a leap insertion is to come, the
pulse in progress and its end in root time (ps), an accepted rearm, the polarity the pin has, the root time (ps) until which it holds
the old inactive level after a change of polarity (R259), and whether the last placement was beyond 100 ps (R268). -/
structure OutUnit where
  next : Nat := 0
  again : Nat := 0
  active : Bool := false
  everPulsed : Bool := false
  trailPs : Nat := 0
  rearmed : Bool := false
  polarity : Nat := 0
  heldTill : Nat := 0
  placeBad : Bool := false
  deriving DecidableEq, Repr

/-- A measurement that enters a candidate's frequency regression (R132, R136): the gate time of its tick, the candidate's count (edges, or its
time in 2^-16 ns) and the time of the unsteered root (2^-16 ns). -/
structure FreqPoint where
  gate : Nat
  count : Int
  free : Int
  deriving DecidableEq, Repr

/-- What Thermostat holds for a candidate (R128 to R149): whether its source is active, and whether it is active for Table 5-5; a REFIN's
last edge (root ps); the last phase (2^-16 ns, steps and pulls removed), its tick and the sum of D then, and MT then (2^-16 ns); the
measurements of its gate, the gate's start, the ticks that gates leave out (R146), whether a reading stands since the gate began, the frequency against the unsteered
root with the regression's residual, the hold-off's origin and end, when activity went and the spread then, since when the gate misses data
(R146), whether no phase has come since the return from a hold-off, the wait-to-restore end, whether reason 4 stands recorded (R140), the
advertised QL, and a change of parent that waits for the root (R147) or for the activity. -/
structure Cand where
  src : Bool := false
  active : Bool := false
  lastEdge : Nat := 0
  lastPhase : Option (Int × Nat × Int) := none
  phaseMt : Nat := 0
  points : List FreqPoint := []
  gateStart : Nat := 0
  gap : Nat := 0
  hasFreq : Bool := false
  freqAbs : Int := 0
  resid : Nat := 0
  holdFrom : Nat := 0
  holdDue : Nat := 0
  activityLost : Nat := 0
  b0 : Nat := 0
  goneSince : Nat := 0
  returned : Bool := false
  wtrDue : Nat := 0
  r4 : Bool := false
  qlAdv : Nat := 15
  parentChanged : Bool := false
  deriving DecidableEq, Repr

/-- A phase measurement on its way to Thermostat's monitors (R134, R138): the candidate, its phase against MT before the delay (2^-16 ns), the
tick, MT (2^-16 ns), the steps and pulls of MT so far (2^-16 ns) and the sum of D then. -/
structure PhaseIn where
  cand : Nat
  raw : Int
  tick : Nat
  mt16 : Nat
  moved : Int
  dco : Int
  deriving DecidableEq, Repr

/-- Thermostat's loop and selection (R148 to R156): measurements that arrive, D asked for, the DPLL's integral path (2^-48, and 2^-80 below
it), whether D stands at a limit, the last update and evaluation, when the lock conditions came to hold, the selection's tick, the candidate selected last. -/
structure Therm where
  cands : List Cand := List.replicate 9 {}
  phases : List PhaseIn := []
  dTarget : Int := 0
  integ : Int := 0
  integLow : Nat := 0
  dLimit : Int := 0
  lastUpdate : Nat := 0
  lastEval : Nat := 0
  lastFreq : Nat := 0
  lockSince : Option Nat := none
  selSince : Nat := 0
  everSelected : Bool := false
  lastSel : Option Nat := none
  rootLostAt : Nat := 0
  deriving DecidableEq, Repr

/-- One learning sample (R165): MT in 2^-16 ns, the offset y in 2^-48, the temperature in 0.001 °C. -/
structure Sample where
  t16 : Nat
  y : Int
  theta : Int
  deriving DecidableEq, Repr

/-- A saved holdover model (R168): its generation, whether its CRC checks, the values of 0x2221:01 to 0B, the samples. -/
structure ModelCopy where
  gen : Nat
  good : Bool
  vals : List Int
  samples : List Sample
  deriving DecidableEq, Repr

/-- The terms of R162: y0, t0 (2^-16 ns), a, c1, c2 and theta0. -/
structure HoModel where
  y0 : Int := 0
  t0 : Int := 0
  a : Int := 0
  c1 : Int := 0
  c2 : Int := 0
  theta0 : Int := 0
  deriving DecidableEq, Repr

/-- Holdover and the model's learning (R162 to R182): the freeze and MT then (2^-16 ns), the prediction and the terms fixed at entry, the segment the
bound grows in with the frequency-only candidate whose residual it takes, the temperature sum, since when a RESTORED model's gate runs (R168), the countdown, the samples and histories, a temperature fault. Bounds are in 2^-16 ns. -/
structure Holdover where
  active : Bool := false
  freeze : Nat := 0
  freezeMt : Nat := 0
  freqOnly : Bool := false
  base : Int := 0
  seg : Nat := 0
  freqCand : Nat := 0
  useModel : Bool := false
  model : HoModel := {}
  meanD : Int := 0
  uf : Int := 0
  ua : Int := 0
  ut : Int := 0
  theta0 : Int := 0
  sum : Nat := 0
  saturated : Bool := false
  compat : Nat := 0
  compatDue : Int := 0
  samples : List Sample := []
  temps : List (Nat × Int) := []
  dHist : List (Nat × Int) := []
  tempFault : Bool := false
  restoreSince : Option Nat := none
  hostAt : Nat := 0
  lastTemp : Nat := 0
  lastSample : Nat := 0
  lastRefit : Nat := 0
  lastSave : Nat := 0
  lastBound : Nat := 0
  rates : List Int := []
  deriving DecidableEq, Repr

/-- An edge at a channel's pin: root time in ps, MT in its unit, the steps of MT (2^-16 ns), its pulls (2^-48 ns) and the sum of D so far, polarity, root and time state then;
for an OUT pin the scheduled MT instant of a leading edge (2^-16 ns) with its OUT_DELAY (ps) and unit (R268). -/
structure PinEdge where
  ps : Nat
  tU : Int
  stepped : Int
  pulled : Int := 0
  dco : Int
  falling : Bool
  rootOk : Bool
  tstate : Nat
  sched : Option (Nat × Int × Nat) := none
  deriving DecidableEq, Repr

/-- A capture that awaits conversion (R226): its edge and the edge counter then. -/
structure Capture extends PinEdge where
  count : Nat
  deriving DecidableEq, Repr

/-- A Threshold channel beside its objects (R224 to R247): edges on the way from the looped OUT pin, the 32-bit edge counter, edges since the
record applied, captures, the last edge, the FIFO and how many records have left it, a discard and the steps since the last record, an open
interval, the regression gate (count, step-corrected time, MT of each stamp, newest first), and the interpolators: which of the two measures,
their bin tables (widths in fs) and trims, tables rejected in a row, the last swap (R234 to R236). -/
structure TdcChannel where
  pad : List PinEdge := []
  count : Nat := 0
  passed : Nat := 0
  lastPs : Option Nat := none
  caps : List Capture := []
  last : Option PinEdge := none
  fifo : List Bytes := []
  removed : Nat := 0
  dropped : Bool := false
  overflowing : Bool := false
  stepsSeen : Nat := 0
  opened : Option Capture := none
  stamps : List (Nat × Int × Int) := []
  gateStart : Nat := 0
  gateRootLost : Bool := false
  mismatch : Bool := false
  measuring : Nat := 0
  tables : List (List Nat) := [[], []]
  trims : List Nat := [0, 0]
  rejects : Nat := 0
  lastSwap : Nat := 0
  deriving DecidableEq, Repr

/-- Threshold (R224 to R253): the channels, the channel the conversion path served last and until when it is busy (root ps), stamps converted
and demanded in this MT second, and the tick at which the first calibration began (R235). -/
structure Tdc where
  chans : List TdcChannel := List.replicate 24 {}
  served : Nat := 23
  pathFree : Nat := 0
  converted : Nat := 0
  demand : Nat := 0
  calFrom : Nat := 0
  deriving DecidableEq, Repr

/-- A tracking channel beside its objects (R201 to R203): when it was assigned, coasting since, its last NCO update, the phases and rates of the
code and carrier NCOs (48 bits) with the tick they were brought up to, the chips of code since the last dump boundary (the code NCO overflows once
a chip, log entry 121), and the I and Q of the last dump: very early, early, prompt, late, very
late, and the data component's prompt. -/
structure SkyChannel where
  assigned : Nat := 0
  coastSince : Nat := 0
  updated : Nat := 0
  codePhase : Nat := 0
  codeRate : Nat := 0
  carrPhase : Nat := 0
  carrRate : Nat := 0
  ncoAt : Nat := 0
  chips : Nat := 0
  acc : List (Int × Int) := []
  deriving DecidableEq, Repr

/-- A range prediction that the hardware tracker holds for a channel (R218): the channel, its signal and satellite, MT (s) at the loading, the position
(mm) it is from, and the satellite's clock and ionospheric delay (2^-14 ns). -/
structure SkyPrediction where
  chan : Nat
  code : Nat
  sv : Nat
  loaded : Nat
  pos : Int × Int × Int
  clock : Int
  iono : Int
  deriving DecidableEq, Repr

/-- Skylight (R185 to R223): channels, the last NCO update and whether its stop stands recorded, the search slots (when each last ended a dwell),
fast-fix latching and its end, the latch rate in force and a change due, the aid, orbit pages with MT at their load (s), the last own position with its uncertainty (mm) and tick, the last
search (code cells, Doppler bins), antenna and AGC monitors with an hour of gains, the hour's exclusions (constellation, SV, hour), broadcast UTC, the PPS check, and what
the hardware tracker was loaded with: range predictions, when, bandwidths, position with its uncertainty, whether its span has passed. -/
structure Sky where
  chans : List SkyChannel := List.replicate 128 {}
  updated : Nat := 0
  stopped : Bool := false
  slots : List Nat := List.replicate 64 0
  active : Bool := false
  fastFix : Bool := true
  fastUntil : Nat := 0
  rate : Nat := 1
  rateAt : Nat := 0
  rateNext : Nat := 1
  aidHeld : Bool := false
  aidRejected : Bool := false
  pages : List (Nat × Bytes) := []
  ownPos : Option ((Int × Int × Int) × Nat) := none
  ownPosAt : Nat := 0
  search : Nat × Nat := (0, 0)
  antLow : Option Nat := none
  antHigh : Option Nat := none
  antRetry : Nat := 0
  agcBad : Bool × Bool := (false, false)
  agcL1 : List (Nat × Nat) := []
  agcL5 : List (Nat × Nat) := []
  excluded : List (Nat × Nat × Nat) := []
  utcDiffers : Bool := true
  ppsBad : Bool := false
  predicted : List SkyPrediction := []
  predictedAt : Nat := 0
  predictedBw : Nat × Nat := (0, 0)
  predictedPos : Option ((Int × Int × Int) × Nat) := none
  expired : Bool := false
  deriving DecidableEq, Repr

/-- Who asked for the transmit stamp of a frame (R314): a probe (R323), an admitted response by its pipeline entry, a PTP
message of an instance: its messageType and its port times 65536 plus its sequence number; a ledger response by its batch
and the leaf's number. `root` marks a root notice, which asks for no stamp and whose drop is counted (R439). -/
inductive Tag where
  | none
  | probe
  | entry (id : Nat)
  | ptp (inst kind seq : Nat)
  | leaf (batch idx : Nat)
  | root
  deriving DecidableEq, Repr

/-- A frame in the data banks and its descriptor (R312, R314, Table 11-3, R345): its bytes as buffered without FCS, where it
entered (port, or 0x100 + k for IPk), its receive stamp word and end instant on MT (2^-16 ns), the insertion fields, LAUNCH and the stamp
asked for.
`id` names the stored frame that the copy shares, `cells` how many cells it takes (R332); a frame with id 0 takes none; `whole` is the
root time (ps) from which it is held whole (R327). -/
structure Frame where
  body : Bytes
  src : Nat
  whole : Nat := 0
  id : Nat := 0
  cells : Nat := 0
  stamp : Bytes := []
  end16 : Int := 0
  insOp : Nat := 0
  insScale : Nat := 0
  insOff : Nat := 0
  corrOff : Nat := 0
  csumOff : Nat := 0
  ref : Bytes := []
  launch : Option Nat := none
  tag : Tag := .none
  deriving DecidableEq, Repr

/-- A port of Porch beside its objects: the released frame that has not started and the queue it came from, the frame being sent, the medium busy until (root ps), the release
of the last frame (ps), collisions on the frame, a backoff's end (tick), the retained wake frame (R292), the cause of the last
departure from UP (Table 10-12), MT_STEP_COUNT at the last stamp, the last beacon's tick, the frames sent in this PLCA cycle (R283), the port's
own answers that wait for the place (R273), and how often its backoff generator has been drawn from (R285; the model's own field). -/
structure PortUnit where
  place : Option Frame := none
  placeQueue : Option Nat := none
  sending : Option Frame := none
  busyPs : Nat := 0
  releasedPs : Nat := 0
  attempts : Nat := 0
  backoff : Option Nat := none
  retained : Option Frame := none
  cause : Nat := 0
  stepsSeen : Nat := 0
  beaconAt : Option Nat := none
  burst : Nat := 0
  own : List Frame := []
  drawn : Nat := 0
  deriving DecidableEq, Repr

/-- A learned entry of the filtering database (R330): address, VID, port, the tick of its last refresh. -/
structure FdbEntry where
  mac : Bytes
  vid : Nat
  port : Nat
  seen : Nat
  deriving DecidableEq, Repr

/-- A queue's credit (R347): in bits times 1,250,000 (one kb/s over one tick), the tick it was brought up to, MT then (gate units),
and until which root time (ps) a frame of the queue is being sent. -/
structure Credit where
  level : Int := 0
  since : Nat := 0
  mtG : Int := 0
  sendEnd : Nat := 0
  deriving DecidableEq, Repr

/-- An egress port of Hallway: its queues Q0 to Q7, head first, and their credits. -/
structure Egress where
  queues : List (List Frame) := List.replicate 8 []
  credits : List Credit := List.replicate 8 {}
  deriving DecidableEq, Repr

/-- Hallway (R327 to R350): the number of the next stored frame, frames of IPs that wait for reserve cells (port, queue), the
learned database, whether the shared part is exhausted, the fewest free shared cells, the MT second of the last 0x0904, and the last frame
that each of IP0 to IP3 received, with its descriptor (R312). -/
structure Hall where
  nextId : Nat := 1
  waiting : List (Nat × Nat × Frame) := []
  fdb : List FdbEntry := []
  egress : List Egress := List.replicate 44 {}
  exhausted : Bool := false
  low : Nat := 46336
  fullSec : Option Nat := none
  taken : List (Option Frame) := List.replicate 4 none
  deriving DecidableEq, Repr

/-- A frame that IP0 received: ingress port, bytes, receive stamp word, receive stamp on MT (2^-16 ns), end instant t_end on MT
(2^-16 ns) and in root time (ps), the root time at which its last bit reached the capture point, the cells it holds and their frame number
(R332), and, in force at the receive stamp's tick (R21, R139, R176), MT_STEP_COUNT, the steps of MT so far (2^-16 ns), HO_BOUND, each domain's
DOM_STATE with its INST_FREE_BOUND, MT_LEAP_PENDING and MT_UTC_OFFSET, the tick, the steps and pulls of MT (2^-16 ns) and the sum of D. -/
structure RxFrame where
  port : Nat
  body : Bytes
  stamp : Bytes
  rx16 : Int
  end16 : Int
  endPs : Int
  capPs : Nat
  steps : Nat
  bound : Nat := 0
  free : List (Nat × Nat) := []
  stepped : Int := 0
  leap : Nat := 0
  utc : Int := 37
  id : Nat := 0
  cells : Nat := 0
  tick : Nat := 0
  moved : Int := 0
  dco : Int := 0
  deriving DecidableEq, Repr

/-- A token bucket (R370): its content in 1/(1000 * 625,000,000) of a token, and the CK_FAB tick it was brought up to. -/
structure Bucket where
  level : Nat := 0
  since : Nat := 0
  deriving DecidableEq, Repr

/-- An entry of the client table (R371), keyed by ring, ingress port and source address. -/
structure Client where
  ring : Nat
  port : Nat
  addr : Bytes
  bucket : Bucket
  last16 : Nat
  deriving DecidableEq, Repr

/-- An egress reservation [start, start + len] (R365) on MT, in gate units (ps times 5 * 2^48): its frame is a pipeline entry's or a PTP message, built already. -/
structure Resv where
  port : Nat
  start : Nat
  len : Nat
  frame : Frame
  deriving DecidableEq, Repr

/-- A request in flight (R362): its pipeline entry number, ring, port, the end instant, bound and step count it is judged by,
whether it took a reserved entry, and for a ledger request the root time (ps) at which its leaf is placed and the entry is free. -/
structure Flight where
  id : Nat
  ring : Nat
  port : Nat
  end16 : Int
  bound : Nat
  steps : Nat
  reserved : Bool
  till : Option Nat := none
  deriving DecidableEq, Repr

/-- A ring's own state: its bucket, its untracked bucket, its refusal bucket. -/
structure Ring where
  bucket : Bucket := {}
  untracked : Bucket := {}
  refusals : Bucket := {}
  deriving DecidableEq, Repr

/-- Parlour (R354 to R388): what IP0 holds, pipeline, reservations, build lanes (free at, root ps), client table, rings, returned
stamps (who asked, stamp word, stamp in 2^-16 ns on MT, MT_STEP_COUNT at it), admissions and refusals of the running and the last MT second, the last
second with an untracked client, the open NTS-KE connections (number, deadline tick). -/
structure Parl where
  rx : List RxFrame := []
  nextId : Nat := 1
  flights : List Flight := []
  resv : List Resv := []
  lanes : List Nat := List.replicate 8 0
  clients : List Client := []
  rings : List Ring := List.replicate 64 {}
  returned : List (Tag × Bytes × Int × Nat) := []
  sec : Nat := 0
  admits : Nat × Nat := (0, 0)
  refusals : Nat × Nat := (0, 0)
  untrackedSec : Option Nat := none
  conns : List (Nat × Nat) := []
  connNext : Nat := 1
  deriving DecidableEq, Repr

/-- What an instance keeps of an Announce (R406, R412, BMCA): sender, grandmaster data, flags, UTC offset, its interval. -/
structure Announce where
  sender : Bytes
  priority1 : Nat
  cls : Nat
  acc : Nat
  variance : Nat
  priority2 : Nat
  gm : Bytes
  steps : Nat
  source : Nat
  flags : Nat
  utcOffset : Int
  logInt : Int
  deriving DecidableEq, Repr

/-- A Sync to be used, or a two-step one that waits for its Follow_Up (R403): sender, sequence, correction (2^-16 ns), receive stamp word, receive
stamp on MT, on MT + DOM_OFFSET and on Dn (2^-16 ns), whether it may give an offset, and the tick, MT's moves and the sum of D then (R139). -/
structure SyncIn where
  sender : Bytes
  seq : Nat
  corr : Int
  word : Bytes
  rx16 : Int
  mt16 : Int
  dom16 : Int
  good : Bool
  tick : Nat := 0
  moved : Int := 0
  dco : Int := 0
  deriving DecidableEq, Repr

/-- A port of an instance: Announces by sender (with tick and how many came), the last Announce's tick and interval and whether its
timeout has run, the last usable Sync's tick, interval and the same, unanswered Pdelay_Req, sequence numbers, the MT instants (its unit) of
the last Sync, Announce and Pdelay_Req scheduled, the outstanding delay request (sequence, transmit stamp in 2^-16 ns on Dn or MT,
MT_STEP_COUNT then), a two-step Pdelay_Resp (sequence, its t2 and correction, t4), the last exchange's t3 and t4, the end of
qualification, the next drawn delay request, and the intervals that a Signaling asked for (link delay, Sync, Announce). -/
structure PtpPort where
  foreign : List (Announce × Nat × Nat) := []
  annSince : Nat := 0
  annLog : Int := 127
  annRun : Bool := false
  syncSince : Nat := 0
  syncLog : Int := 127
  syncRun : Bool := false
  lost : Nat := 0
  syncSeq : Nat := 0
  annSeq : Nat := 0
  delaySeq : Nat := 0
  syncAt : Nat := 0
  annAt : Nat := 0
  delayAt : Nat := 0
  delayOut : Option (Nat × Option (Int × Nat)) := none
  pdelayTwo : Option (Nat × Int × Int) := none
  ratioRef : Option (Int × Int) := none
  qualDue : Option Nat := none
  delayDue : Nat := 0
  asked : Option Int × Option Int × Option Int := (none, none, none)
  deriving DecidableEq, Repr

/-- PTP instance n beside its objects (R389 to R415): its ports, its parent and the last parent's sender, a Sync that waits, the last Sync (t2, t1 plus its
correction, 2^-16 ns), path delay samples (newest first) and MT_STEP_COUNT at the last, offsets in a row within the lock threshold,
a step that is due, the servo's integral, the bound at entry to T4 with its tick and the last update's, whether the receive
port is timed out, the ratio received upstream (2^-48). -/
structure PtpInst where
  ports : List PtpPort := List.replicate 44 {}
  parent : Option Announce := none
  lastSender : Option Bytes := none
  sync : Option SyncIn := none
  lastSync : Option (Int × Int) := none
  samples : List Int := []
  delaySteps : Nat := 0
  streak : Nat := 0
  stepDue : Option Int := none
  integ : Int := 0
  boundBase : Nat := 0
  boundSince : Nat := 0
  boundAt : Nat := 0
  rxTimedOut : Bool := false
  upRatio : Int := 0
  deriving DecidableEq, Repr

/-- A leaf of a batch (R421) with what its response needs: its number in the model, the root time (ps) of its placement and its build lane
(R420), the request as received, its ring, whether the response has left or was discarded, what R369 judges it by, and what R21 had in
force at its receive stamp. -/
structure Leaf where
  id : Nat := 0
  placed : Nat := 0
  lane : Nat := 0
  leap : Nat := 0
  utc : Int := 37
  bytes : Bytes
  req : Bytes
  port : Nat
  ring : Nat
  end16 : Int
  bound : Nat
  steps : Nat
  stamp : Bytes
  free : List (Nat × Nat)
  gone : Bool := false
  deriving DecidableEq, Repr

/-- A ledger batch (R419, R426): its number in the model, its state (0 FILLING, 1 SEALING, 2 SIGNING, 3 VERIFYING, 4 RELEASING,
5 FAILED), MT at its opening and at E (2^-16 ns), the ticks of its opening and E, the settings it opened with, its booking
(signing lane, verifying lane), its leaves, BATCH_SEQ, root, header and signature, and whether its running job has started. -/
structure Batch where
  id : Nat
  state : Nat := 0
  open16 : Nat
  close16 : Nat := 0
  opened : Nat
  ends : Nat
  hash : Nat
  sig : Nat
  keySlot : Nat
  keyId : Nat
  maxLeaves : Nat
  delay : Nat
  rootPort : Nat
  rootDest : Bytes
  lanes : Option (Nat × Nat)
  leaves : List Leaf := []
  seq : Nat := 0
  header : Bytes := []
  signature : Bytes := []
  started : Bool := false
  deriving DecidableEq, Repr

/-- The ledger (R419 to R442): batches that are not DONE, oldest first, the last one FILLING; admitted leaves whose placement lies beyond its
end; the next number, the device-wide bucket, the words of BATCH_SEQ, whether batching has begun since MT restarted. -/
structure Ledger where
  batches : List Batch := []
  ahead : List Leaf := []
  nextId : Nat := 1
  bucket : Bucket := {}
  high : Nat := 0
  low : Nat := 0
  begun : Bool := false
  deriving DecidableEq, Repr

/-- Who submitted a Strongroom job: the owner, Keyhole for a slot's public key or an attestation, or Strongroom itself to verify
the signature of job `id` before release (R460). -/
inductive JobWho where
  | owner
  | keygen (slot : Nat)
  | attest
  | check (id : Nat)
  deriving DecidableEq, Repr

/-- A Strongroom job (R449, R456): number, priority, descriptor fields, state of Table 16-6, its lane and the lane it may only run on,
the tick of its dispatch, the tick by which its phase ends at the latest, the ticks left when it yielded, its result, and the
signature that waits for its verification, and the transport that asked. -/
structure Job where
  id : Nat
  prio : Nat
  op : Nat
  msgLen : Nat := 0
  slots : List Nat := []
  tag : Nat := 0
  who : JobWho
  state : Nat := 1
  lane : Option Nat := none
  only : Option Nat := none
  start : Nat := 0
  due : Nat := 0
  left : Nat := 0
  result : Nat := 0
  buffer : List (Nat × Bytes) := []
  src : Nat := 0xFE
  alone : Bool := false
  deriving DecidableEq, Repr

/-- A lane (R443): its jobs, the running one first and the yielded ones below, whether a booked ledger job runs, the tick its
self-test began, MT (ns) since when it is BUSY and the last stretches it was (R465). -/
structure Lane where
  stack : List Nat := []
  booked : Bool := false
  testing : Nat := 0
  busyFrom : Option Nat := none
  busy : List (Nat × Nat) := []
  deriving DecidableEq, Repr

/-- Strongroom (R443 to R467): its lanes, its jobs in the order of submission, the MT seconds in which jobs ended NO_ENTROPY. -/
structure Strong where
  lanes : List Lane := List.replicate 4 {}
  jobs : List Job := []
  nextId : Nat := 1
  noEntropy : List Nat := []
  deriving DecidableEq, Repr

/-- A copy of the key store in flash (R476): its generation, whether it is valid, key counter, owner public key, and for each slot
its type, use, KEY_ID, public key and sealed key, held here as the key itself. -/
structure KsCopy where
  gen : Nat
  valid : Bool
  counter : Nat
  ownerPub : Bytes
  slots : List (Nat × Nat × Nat × Bytes × Bytes)
  deriving DecidableEq, Repr

/-- Keyhole (R468 to R486): the keys in the slots, the key counter, fuses of the Cellar array (PUF helper, lifecycle, co-signature,
anti-rollback count), the steps of provisioning done since reset, the store's copies and the Cellar's G (none when VBAT was lost),
the tick from which Run and Trim time counts toward a rotation and what it had come to before, when the entropy source failed,
the last reseed and the requests since, the attestation in progress (report, slot, KEY_ID), whether the ROM stayed in recovery,
the running image's SEC_VERSION. -/
structure Keyhole where
  keys : List Bytes := List.replicate 64 []
  counter : Nat := 1
  helper : Bool := false
  provisioned : Bool := false
  cosign : Bool := false
  rollback : Nat := 0
  enrolled : Bool := false
  ownerSet : Bool := false
  ownerKeySet : Bool := false
  copies : List (Option KsCopy) := [none, none]
  cellarGen : Option Nat := some 0
  rotateFrom : Nat := 0
  rotateRan : Nat := 0
  failedAt : Option Nat := none
  reseedAt : Nat := 0
  requests : Nat := 0
  attest : Option (Bytes × Nat × Nat) := none
  recovery : Bool := false
  secVersion : Nat := 0
  deriving DecidableEq, Repr

/-- What the always-on Cellar holds beside its objects (R538, R550, R557): the snapshot's counter and crystal offset, whether tamper
flag [2] or [3] was set since the snapshot, the counts of the last starts of cause 3, and the count at which the alarm's time began. -/
structure Cellar where
  snapHeld : Bool := false
  snapCount : Nat := 0
  snapPpb : Int := 0
  tamperSince : Bool := false
  starts : List Nat := []
  alarmFrom : Option Nat := none
  deriving DecidableEq, Repr

/-- A mailbox channel (R494 to R496): its two directions, oldest message first, and their next SEQ. -/
structure Mailbox where
  toFirmware : List Bytes := []
  toOwner : List Bytes := []
  seqIn : Nat := 0
  seqOut : Nat := 0
  deriving DecidableEq, Repr

/-- A copy of the configuration store (R551): its generation, whether its CRC checks, the values it holds. -/
structure CfgCopy where
  gen : Nat
  good : Bool
  vals : Store
  deriving DecidableEq, Repr

/-- Study and the flash it writes (R489 to R498, R551): the mailboxes, the reply MB8's service holds, the ticks of each core's watchdog
resets and of its halt, the images of the two locations and whether they passed R482 or R492, the image staged, the boot record's flag, the configuration copies, the
tick at which a save began. -/
structure Study where
  mail : List Mailbox := List.replicate 16 {}
  held : Option Bytes := none
  resets : List (List Nat) := List.replicate 4 []
  haltedAt : List (Option Nat) := List.replicate 4 none
  images : List Bytes := [[], []]
  passed : List Bool := [false, false]
  staged : Bytes := []
  flag : Nat := 0
  cfg : List (Option CfgCopy) := [none, none]
  saving : Option Nat := none
  deriving DecidableEq, Repr

/-- A sequencer step that waits (R532, R533): 0 Time, 1 Control, 2 Fabric, 3 Crypto, 4 Radio, 16 + p port p; since when it waits, and
whether it belongs to a state exit. -/
structure SeqStep where
  kind : Nat
  since : Nat
  exit : Bool
  deriving DecidableEq, Repr

/-- Fusebox (R523 to R543, R547 to R557): the start of the idle time, an entry in progress (target and last step completed), whether an
exit is in progress and since when, the sequencer's waiting steps and its last one (start, end of ramp), the ticks at which a
minute and the crystal's measurement began, the crystal's count then, VBAT low, the ratios and minutes of past re-plans, the
first measured delays taken, an AVS write to repeat and the set point in force, why the internal reset is held (0 released) and
the lowest cause since, when the image was accepted, whether the configuration load has ended, whether the part serves, the Pantry errors since reset: corrected,
uncorrectable (R30), whether VDDIO is the 3.3 V rail (R563), and whether the flash runs in 8D-8D-8D mode (R571). -/
structure Power where
  idleFrom : Nat := 0
  entry : Option (Nat × Nat) := none
  waking : Option Nat := none
  steps : List SeqStep := []
  lastStep : Option (Nat × Nat) := none
  minuteAt : Nat := 0
  xtalAt : Nat := 0
  xtalCount : Nat := 0
  vbatLow : Bool := false
  replans : List (Nat × Nat) := []
  avsRetry : Option Nat := none
  avsSet : Nat := 750
  held : Nat := 1
  cause : Nat := 1
  released : Nat := 0
  imageAt : Option Nat := none
  configDone : Bool := false
  serving : Bool := false
  memErrs : Nat × Nat := (0, 0)
  vddio33 : Bool := false
  flash8d : Bool := false
  deriving DecidableEq, Repr

/-- The part, without the queue of commands. -/
structure Device where
  obj : Store := []
  staged : Store := []
  lost : List Nat := []
  draws : Nat := 0
  clock : Clock := {}
  foyer : Foyer := {}
  commit : CommitEngine := {}
  attic : Attic := {}
  cellar : Cellar := {}
  therm : Therm := {}
  hold : Holdover := {}
  tdc : Tdc := {}
  sky : Sky := {}
  ports : List PortUnit := List.replicate 44 {}
  hall : Hall := {}
  parl : Parl := {}
  ptp : List PtpInst := List.replicate 8 {}
  ledger : Ledger := {}
  strong : Strong := {}
  keyhole : Keyhole := {}
  study : Study := {}
  power : Power := {}
  models : List (Option ModelCopy) := [none, none]
  outs : List OutUnit := List.replicate 16 {}
  outbox : List Output := []
  deriving DecidableEq, Repr

/-- The machine: the queue of commands that are waiting, first in, first out, and the part. -/
structure State where
  pending : List Instr
  dev : Device
  deriving DecidableEq, Repr

/-- Why a step would stop the part for good. The spec names no such stop: this type has no constructor. -/
inductive Fault where
  deriving DecidableEq, Repr

/-- Why the model gives a command no meaning. -/
inductive Refusal where
  /-- Raised by an arm of exec whose command the model does not cover yet; safe, the model stops. -/
  | notModelled (mnemonic : String)
  deriving DecidableEq, Repr

/-- The machine as the internal reset holds it at the first power-up (R547, R553): no command waits, every object at
its table's default, nothing running. -/
def State.reset : State := { pending := [], dev := {} }

/-- The state with a function applied to the part; the queue stays. -/
def State.on (s : State) (f : Device → Device) : State := { s with dev := f s.dev }

end Sys2Proof.Machine
end

