-- ==== Sys2Proof/Machine/Dict.lean ====
section
/-! DEFINITION. The object dictionary of spec/23_dictionary_index.md (R576): for every object its index and sub range, type (R42),
access kind (R43), default, range and commit group (R580), row for row from the object tables of the chapters. -/

namespace Sys2Proof.Machine

/-- The rows of one region of the dictionary; `dictRows` picks the region of an index. -/
abbrev DictRows := List ObjRow

/-- Rows of the dictionary below index 0x2000, piece 0. -/
def dictBelow2000part0 : DictRows := [
  ⟨0x1000, 0x1000, 0x00, 0x00, .uns 4, .ro, .num 1280919620, .any, 0x0⟩ /- DEVICE_ID -/,
  ⟨0x1001, 0x1001, 0x00, 0x00, .uns 4, .ro, .num 0x0B00, .any, 0x0⟩ /- REVISION -/,
  ⟨0x1100, 0x1100, 0x01, 0x01, .uns 1, .wo, .num 0, .span 0 1, 0x0⟩ /- LOCK_REQUEST -/,
  ⟨0x1100, 0x1100, 0x02, 0x02, .uns 4, .ro, .num 0, .any, 0x0⟩ /- LOCK_TOKEN -/,
  ⟨0x1100, 0x1100, 0x03, 0x03, .uns 1, .ro, .num 0, .span 0 3, 0x0⟩ /- LOCK_STATE -/,
  ⟨0x1100, 0x1100, 0x04, 0x04, .uns 4, .rw, .num 5000, .span 100 600000, 0x0⟩ /- LOCK_IDLE_TIMEOUT -/,
  ⟨0x1100, 0x1100, 0x05, 0x05, .uns 1, .ro, .num 255, .spanOr 0 47 255, 0x0⟩ /- LOCK_HOLDER -/,
  ⟨0x1101, 0x1101, 0x01, 0x01, .octets 16, .wo, .rep 16 0, .any, 0x0⟩ /- SESSION_HOST_NONCE -/,
  ⟨0x1101, 0x1101, 0x02, 0x02, .octets 16, .ro, .rep 16 0, .any, 0x0⟩ /- SESSION_DEV_NONCE -/,
  ⟨0x1101, 0x1101, 0x03, 0x03, .octets 16, .wo, .rep 16 0, .any, 0x0⟩ /- SESSION_PROOF -/,
  ⟨0x1101, 0x1101, 0x04, 0x04, .uns 4, .ro, .num 0, .any, 0x0⟩ /- SESSION_AUTH_FAILS -/]

/-- Rows of the dictionary below index 0x2100, piece 0. -/
def dictBelow2100part0 : DictRows := [
  ⟨0x2000, 0x2000, 0x01, 0x01, .uns 1, .ro, .num 0, .span 0 4, 0x0⟩ /- FB_STATE -/,
  ⟨0x2000, 0x2000, 0x02, 0x02, .uns 1, .ro, .num 0, .span 0 4, 0x0⟩ /- FB_TARGET -/,
  ⟨0x2000, 0x2000, 0x03, 0x03, .uns 2, .ro, .num 0, .mask 0x7F, 0x0⟩ /- FB_HOLD -/,
  ⟨0x2000, 0x2000, 0x04, 0x04, .uns 4, .rw, .num 1000, .span 10 3600000, 0x0⟩ /- FB_IDLE_TIME -/,
  ⟨0x2000, 0x2000, 0x05, 0x05, .uns 1, .rw, .num 11, .mask 0xF, 0x0⟩ /- FB_WAKE_MASK -/,
  ⟨0x2000, 0x2000, 0x06, 0x06, .uns 1, .rw, .num 0, .mask 0xFF, 0x0⟩ /- FB_WAKE_IN_CFG -/,
  ⟨0x2000, 0x2000, 0x07, 0x07, .uns 1, .ro, .num 0, .mask 0x3F, 0x0⟩ /- FB_WAKE_CAUSE -/,
  ⟨0x2000, 0x2000, 0x08, 0x08, .uns 1, .ro, .num 255, .spanOr 0 47 255, 0x0⟩ /- FB_WAKE_PORT -/,
  ⟨0x2000, 0x2000, 0x09, 0x09, .uns 4, .ro, .num 0, .any, 0x0⟩ /- FB_WAKES -/,
  ⟨0x2000, 0x2000, 0x0A, 0x0A, .uns 4, .ro, .num 0, .any, 0x0⟩ /- FB_ENTRY_ABORTS -/,
  ⟨0x2001, 0x2001, 0x00, 0x00, .uns 4, .rw, .num 0, .span 0 4294967295, 0x0⟩ /- LATENCY_TOL -/,
  ⟨0x2002, 0x2002, 0x01, 0x01, .uns 2, .rwc, .num 500, .span 100 2000, 0xF⟩ /- FB_SLOPE -/,
  ⟨0x2002, 0x2002, 0x02, 0x02, .uns 2, .rwc, .num 20, .span 20 1000, 0xF⟩ /- FB_STEP_GAP -/,
  ⟨0x2002, 0x2002, 0x03, 0x03, .uns 1, .ro, .num 0, .span 0 64, 0x0⟩ /- FB_SEQ_QUEUE -/,
  ⟨0x2002, 0x2002, 0x04, 0x04, .uns 1, .ro, .num 0, .span 0 64, 0x0⟩ /- FB_SEQ_PEAK -/,
  ⟨0x2002, 0x2002, 0x05, 0x05, .uns 4, .ro, .num 0, .any, 0x0⟩ /- FB_SEQ_MAXWAIT -/,
  ⟨0x2003, 0x2003, 0x01, 0x01, .uns 2, .ro, .num 0, .any, 0x0⟩ /- FB_VBAT_MV -/,
  ⟨0x2003, 0x2003, 0x02, 0x02, .uns 2, .ro, .num 0, .any, 0x0⟩ /- FB_VCORE_MV -/,
  ⟨0x2003, 0x2003, 0x03, 0x03, .sgn 4, .ro, .num 0, .any, 0x0⟩ /- FB_DIE_TEMP -/,
  ⟨0x2003, 0x2003, 0x04, 0x04, .uns 4, .ro, .num 0, .any, 0x0⟩ /- FB_RAIL_FAULTS -/,
  ⟨0x2004, 0x2004, 0x01, 0x01, .uns 2, .rw, .num 10, .span 1 600, 0x0⟩ /- FB_DEV_WDT_DELAY -/,
  ⟨0x2004, 0x2004, 0x02, 0x02, .uns 1, .ro, .num 0, .span 1 4, 0x0⟩ /- FB_LAST_RESET -/,
  ⟨0x2004, 0x2004, 0x03, 0x03, .bool, .ro, .num 0, .any, 0x0⟩ /- FB_SAFE_START -/,
  ⟨0x2004, 0x2004, 0x04, 0x04, .uns 1, .ro, .num 0, .span 0 3, 0x0⟩ /- FB_WDT_STARTS -/,
  ⟨0x2010, 0x2010, 0x01, 0x01, .uns 8, .ro, .num 0, .any, 0x0⟩ /- CELLAR_COUNT -/,
  ⟨0x2010, 0x2010, 0x02, 0x02, .uns 4, .ro, .num 0, .any, 0x0⟩ /- CELLAR_OP_MINUTES -/,
  ⟨0x2010, 0x2010, 0x03, 0x03, .uns 4, .ro, .num 0, .any, 0x0⟩ /- CELLAR_POWER_CYCLES -/,
  ⟨0x2010, 0x2010, 0x04, 0x04, .sgn 4, .ro, .num 0, .any, 0x0⟩ /- CELLAR_XTAL_PPB -/,
  ⟨0x2010, 0x2010, 0x05, 0x05, .uns 4, .rw, .num 0, .span 0 31536000, 0x0⟩ /- CELLAR_WAKE_AFTER -/,
  ⟨0x2010, 0x2010, 0x06, 0x06, .uns 1, .ro, .num 0, .span 0 64, 0x0⟩ /- CELLAR_RET_USED -/,
  ⟨0x2010, 0x2010, 0x07, 0x07, .uns 2, .rw, .num 50, .span 1 500, 0x0⟩ /- CELLAR_SEED_PPM -/,
  ⟨0x2010, 0x2010, 0x08, 0x08, .uns 4, .rw, .num 2000000000, .span 1000000 4000000000, 0x0⟩ /- CELLAR_SEED_MAX -/,
  ⟨0x2010, 0x2010, 0x09, 0x09, .uns 4, .ro, .num 4294967295, .any, 0x0⟩ /- CELLAR_SEED_UNC -/,
  ⟨0x2010, 0x2010, 0x0A, 0x0A, .time96, .ro, .num 0, .any, 0x0⟩ /- CELLAR_SNAP_TIME -/,
  ⟨0x2010, 0x2010, 0x0B, 0x0B, .uns 4, .ro, .num 4294967295, .any, 0x0⟩ /- CELLAR_SNAP_UNC -/,
  ⟨0x2020, 0x2020, 0x01, 0x01, .uns 2, .rwc, .num 30, .span 1 365, 0xF⟩ /- AGE_REPLAN_DAYS -/,
  ⟨0x2020, 0x2020, 0x02, 0x02, .uns 1, .wo, .num 0, .span 1 1, 0x0⟩ /- AGE_REPLAN_NOW -/,
  ⟨0x2020, 0x2020, 0x03, 0x03, .uns 4, .ro, .num 0, .any, 0x0⟩ /- AGE_LAST_REPLAN -/,
  ⟨0x2020, 0x2020, 0x04, 0x04, .uns 2, .ro, .num 650, .span 650 850, 0x0⟩ /- AGE_AVS_FLOOR -/,
  ⟨0x2020, 0x2020, 0x05, 0x05, .uns 2, .rwc, .num 10, .span 0 50, 0xF⟩ /- AGE_AVS_MARGIN -/]

/-- Rows of the dictionary below index 0x2100, piece 1. -/
def dictBelow2100part1 : DictRows := [
  ⟨0x2020, 0x2020, 0x06, 0x06, .uns 2, .ro, .num 0, .span 650 850, 0x0⟩ /- AGE_AVS_NOW -/,
  ⟨0x2020, 0x2020, 0x07, 0x07, .uns 1, .ro, .num 0, .span 0 100, 0x0⟩ /- AGE_LIFE_USED -/,
  ⟨0x2020, 0x2020, 0x08, 0x08, .uns 4, .ro, .num 4294967295, .any, 0x0⟩ /- AGE_LIFE_REMAIN -/,
  ⟨0x2020, 0x2020, 0x09, 0x09, .uns 1, .ro, .num 0, .span 0 31, 0x0⟩ /- AGE_WORST_SITE -/,
  ⟨0x2040, 0x205F, 0x01, 0x01, .uns 1, .ro, .num 0, .span 0 1, 0x0⟩ /- SITE_KIND -/,
  ⟨0x2040, 0x205F, 0x02, 0x02, .sgn 4, .ro, .num 0, .any, 0x0⟩ /- SITE_DEGRADE -/,
  ⟨0x2040, 0x205F, 0x03, 0x03, .sgn 4, .ro, .num 0, .any, 0x0⟩ /- SITE_LIMIT -/]

/-- Rows of the dictionary below index 0x2200, piece 0. -/
def dictBelow2200part0 : DictRows := [
  ⟨0x2100, 0x2100, 0x01, 0x01, .uns 1, .ro, .num 0, .span 0 3, 0x0⟩ /- HEARTH_LO_SEL -/,
  ⟨0x2100, 0x2100, 0x02, 0x02, .uns 1, .ro, .num 0, .span 0 3, 0x0⟩ /- HEARTH_LOCK -/,
  ⟨0x2100, 0x2100, 0x03, 0x03, .sgn 8, .ro, .num 0, .span (-68719476736) 68719476736, 0x0⟩ /- HEARTH_DCO -/,
  ⟨0x2100, 0x2100, 0x04, 0x04, .uns 4, .ro, .num 0, .any, 0x0⟩ /- HEARTH_LO_MEAS -/,
  ⟨0x2100, 0x2100, 0x05, 0x05, .uns 4, .ro, .num 0, .any, 0x0⟩ /- HEARTH_LOCK_LOSSES -/,
  ⟨0x2100, 0x2100, 0x06, 0x06, .sgn 4, .ro, .num 0, .any, 0x0⟩ /- HEARTH_ROOT_DEV -/,
  ⟨0x2110, 0x2113, 0x01, 0x01, .bool, .rwc, .num 0, .any, 0x1⟩ /- CKO_ENABLE -/,
  ⟨0x2110, 0x2113, 0x02, 0x02, .uns 8, .rwc, .num 42949672960000000, .span 4294967296 1073741824000000000, 0x1⟩ /- CKO_FREQ -/,
  ⟨0x2110, 0x2113, 0x03, 0x03, .uns 1, .rwc, .num 0, .span 0 2, 0x1⟩ /- CKO_FORMAT -/,
  ⟨0x2110, 0x2113, 0x04, 0x04, .bool, .rwc, .num 1, .any, 0x1⟩ /- CKO_ALIGN -/,
  ⟨0x2110, 0x2113, 0x05, 0x05, .uns 1, .rwc, .num 0, .span 0 1, 0x1⟩ /- CKO_UNLOCK_POLICY -/,
  ⟨0x2110, 0x2113, 0x06, 0x06, .uns 1, .ro, .num 0, .span 0 3, 0x0⟩ /- CKO_STATUS -/]

/-- Rows of the dictionary below index 0x2300, piece 0. -/
def dictBelow2300part0 : DictRows := [
  ⟨0x2200, 0x2200, 0x01, 0x01, .uns 1, .ro, .num 255, .spanOr 0 8 255, 0x0⟩ /- THERM_SELECTED -/,
  ⟨0x2200, 0x2200, 0x02, 0x02, .uns 4, .rwc, .num 10, .span 1 100000, 0x2⟩ /- THERM_SLOPE -/,
  ⟨0x2200, 0x2200, 0x03, 0x03, .uns 4, .rwc, .num 100, .span 1 10000, 0x2⟩ /- THERM_DPLL_BW -/,
  ⟨0x2200, 0x2200, 0x04, 0x04, .uns 4, .rwc, .num 1000, .span 1 10000, 0x2⟩ /- THERM_DPLL_ACQ_BW -/,
  ⟨0x2200, 0x2200, 0x05, 0x05, .uns 4, .rwc, .num 1000, .span 10 100000, 0x2⟩ /- THERM_LOCK_THRESH -/,
  ⟨0x2200, 0x2200, 0x06, 0x06, .uns 2, .rwc, .num 10, .span 1 3600, 0x2⟩ /- THERM_LOCK_TIME -/,
  ⟨0x2200, 0x2200, 0x07, 0x07, .uns 4, .rwc, .num 1000, .span 100 1000000000, 0x2⟩ /- THERM_STEP_THRESH -/,
  ⟨0x2200, 0x2200, 0x08, 0x08, .sgn 8, .rwc, .num 562950, .span 28147 281474977, 0x2⟩ /- THERM_ACCEPT -/,
  ⟨0x2200, 0x2200, 0x09, 0x09, .sgn 8, .rwc, .num 2814750, .span 28147 281474977, 0x2⟩ /- THERM_REJECT -/,
  ⟨0x2200, 0x2200, 0x0A, 0x0A, .sgn 8, .rwc, .num 16888498603, .span 2814750 68719476736, 0x2⟩ /- THERM_ACQ_LIMIT -/,
  ⟨0x2200, 0x2200, 0x0B, 0x0B, .uns 2, .rwc, .num 10, .span 1 1000, 0x2⟩ /- THERM_FREQ_GATE -/,
  ⟨0x2200, 0x2200, 0x0C, 0x0C, .uns 2, .rwc, .num 300, .span 0 10000, 0x2⟩ /- THERM_HOLDOFF -/,
  ⟨0x2200, 0x2200, 0x0D, 0x0D, .uns 2, .rwc, .num 300, .span 10 3600, 0x2⟩ /- THERM_WTR -/,
  ⟨0x2200, 0x2200, 0x0E, 0x0E, .uns 4, .rwc, .num 1000, .span 100 1000000000, 0x2⟩ /- THERM_PHASE_QUAL -/,
  ⟨0x2200, 0x2200, 0x0F, 0x0F, .bool, .rwc, .num 1, .any, 0x2⟩ /- THERM_REVERTIVE -/,
  ⟨0x2200, 0x2200, 0x10, 0x10, .uns 1, .rwc, .num 255, .spanOr 0 8 255, 0x2⟩ /- THERM_FORCE -/,
  ⟨0x2200, 0x2200, 0x11, 0x11, .uns 4, .ro, .num 0, .any, 0x0⟩ /- THERM_SWITCH_COUNT -/,
  ⟨0x2200, 0x2200, 0x12, 0x12, .sgn 8, .ro, .num 0, .any, 0x0⟩ /- THERM_PHASE_ERR -/,
  ⟨0x2201, 0x2201, 0x01, 0x01, .bool, .rwc, .num 1, .any, 0x2⟩ /- THERM_REF_ENABLE -/,
  ⟨0x2201, 0x2209, 0x02, 0x02, .uns 1, .ro, .num 0, .span 0 6, 0x0⟩ /- THERM_REF_STATE -/,
  ⟨0x2201, 0x2209, 0x03, 0x03, .uns 1, .rwc, .num 8, .span 1 15, 0x2⟩ /- THERM_REF_PRIO -/,
  ⟨0x2201, 0x2209, 0x04, 0x04, .uns 1, .rwc, .num 0, .span 0 15, 0x2⟩ /- THERM_REF_QL_OVR -/,
  ⟨0x2201, 0x2209, 0x05, 0x05, .uns 1, .ro, .num 15, .span 1 15, 0x0⟩ /- THERM_REF_QL -/,
  ⟨0x2201, 0x2209, 0x06, 0x06, .sgn 8, .ro, .num 0, .any, 0x0⟩ /- THERM_REF_FREQ -/,
  ⟨0x2201, 0x2209, 0x07, 0x07, .sgn 8, .ro, .num 0, .any, 0x0⟩ /- THERM_REF_PHASE -/,
  ⟨0x2201, 0x2209, 0x08, 0x08, .uns 1, .ro, .num 0, .span 0 5, 0x0⟩ /- THERM_REF_REASON -/,
  ⟨0x2201, 0x2209, 0x09, 0x09, .uns 2, .ro, .num 0, .any, 0x0⟩ /- THERM_REF_WTR_REMAIN -/,
  ⟨0x2201, 0x2209, 0x0A, 0x0A, .sgn 4, .rwc, .num 0, .span (-2000000000) 2000000000, 0x2⟩ /- THERM_REF_DELAY -/,
  ⟨0x2201, 0x2209, 0x0B, 0x0B, .bool, .ro, .num 0, .any, 0x0⟩ /- THERM_REF_TIME_CAP -/,
  ⟨0x2202, 0x2209, 0x01, 0x01, .bool, .rwc, .num 0, .any, 0x2⟩ /- THERM_REF_ENABLE -/,
  ⟨0x2210, 0x2213, 0x01, 0x01, .uns 4, .rwc, .num 10000000, .span 1 100000000, 0x2⟩ /- REFIN_FREQ -/,
  ⟨0x2210, 0x2213, 0x02, 0x02, .uns 1, .rwc, .num 0, .span 0 1, 0x2⟩ /- REFIN_EDGE -/,
  ⟨0x2210, 0x2210, 0x03, 0x03, .bool, .rwc, .num 0, .any, 0x2⟩ /- REFIN_PAIR -/,
  ⟨0x2210, 0x2213, 0x04, 0x04, .uns 1, .ro, .num 0, .span 0 1, 0x0⟩ /- REFIN_ACTIVITY -/,
  ⟨0x2211, 0x2211, 0x03, 0x03, .bool, .rwc, .num 0, .span 0 0, 0x2⟩ /- REFIN_PAIR -/,
  ⟨0x2212, 0x2212, 0x03, 0x03, .bool, .rwc, .num 0, .any, 0x2⟩ /- REFIN_PAIR -/,
  ⟨0x2213, 0x2213, 0x03, 0x03, .bool, .rwc, .num 0, .span 0 0, 0x2⟩ /- REFIN_PAIR -/,
  ⟨0x2220, 0x2220, 0x01, 0x01, .uns 1, .ro, .num 0, .span 0 3, 0x0⟩ /- HO_MODEL_STATE -/,
  ⟨0x2220, 0x2220, 0x02, 0x02, .uns 4, .rwc, .num 1500, .span 100 1000000000, 0x2⟩ /- HO_LIMIT -/,
  ⟨0x2220, 0x2220, 0x03, 0x03, .uns 4, .ro, .num 0, .any, 0x0⟩ /- HO_BOUND -/]

/-- Rows of the dictionary below index 0x2300, piece 1. -/
def dictBelow2300part1 : DictRows := [
  ⟨0x2220, 0x2220, 0x04, 0x04, .uns 4, .ro, .num 0, .any, 0x0⟩ /- HO_ELAPSED -/,
  ⟨0x2220, 0x2220, 0x05, 0x05, .uns 2, .rwc, .num 7, .span 1 90, 0x2⟩ /- HO_LEARN_WINDOW -/,
  ⟨0x2220, 0x2220, 0x06, 0x06, .uns 2, .rwc, .num 3600, .span 600 65535, 0x2⟩ /- HO_LEARN_MIN -/,
  ⟨0x2220, 0x2220, 0x07, 0x07, .uns 4, .ro, .num 0, .any, 0x0⟩ /- HO_LEARNED_TIME -/,
  ⟨0x2220, 0x2220, 0x08, 0x08, .uns 1, .rwc, .num 0, .span 0 2, 0x2⟩ /- HO_TEMP_SRC -/,
  ⟨0x2220, 0x2220, 0x09, 0x09, .sgn 4, .ro, .num 0, .any, 0x0⟩ /- HO_TEMP_NOW -/,
  ⟨0x2220, 0x2220, 0x0A, 0x0A, .sgn 4, .rw, .num 25000, .span (-55000) 125000, 0x0⟩ /- HO_TEMP_HOST -/,
  ⟨0x2220, 0x2220, 0x0B, 0x0B, .uns 2, .rwc, .num 3435, .span 2000 5000, 0x2⟩ /- HO_NTC_B -/,
  ⟨0x2220, 0x2220, 0x0C, 0x0C, .sgn 8, .rwc, .num 2814750, .span 28147 281474977, 0x2⟩ /- HO_UF_DEFAULT -/,
  ⟨0x2220, 0x2220, 0x0D, 0x0D, .uns 1, .rw, .num 1, .span 1 16, 0x0⟩ /- HO_UNC_SCALE -/,
  ⟨0x2220, 0x2220, 0x0E, 0x0E, .uns 1, .rwc, .num 0, .span 0 2, 0x2⟩ /- HO_COMPAT_MODE -/,
  ⟨0x2220, 0x2220, 0x0F, 0x0F, .uns 4, .rwc, .num 14400, .span 60 604800, 0x2⟩ /- HO_COMPAT_TIMER -/,
  ⟨0x2220, 0x2220, 0x10, 0x10, .uns 4, .ro, .num 0, .any, 0x0⟩ /- HO_COMPAT_REMAIN -/,
  ⟨0x2220, 0x2220, 0x11, 0x11, .uns 4, .ro, .num 0, .any, 0x0⟩ /- HO_BOUND_VIOLATIONS -/,
  ⟨0x2220, 0x2220, 0x12, 0x12, .sgn 8, .ro, .num 0, .any, 0x0⟩ /- HO_RESIDUAL_RMS -/,
  ⟨0x2220, 0x2220, 0x13, 0x13, .uns 1, .wo, .num 0, .span 1 1, 0x0⟩ /- HO_MODEL_CLEAR -/,
  ⟨0x2221, 0x2221, 0x01, 0x01, .sgn 8, .ro, .num 0, .any, 0x0⟩ /- HO_Y0 -/,
  ⟨0x2221, 0x2221, 0x02, 0x02, .time96, .ro, .num 0, .any, 0x0⟩ /- HO_T0 -/,
  ⟨0x2221, 0x2221, 0x03, 0x03, .sgn 8, .ro, .num 0, .any, 0x0⟩ /- HO_AGEING -/,
  ⟨0x2221, 0x2221, 0x04, 0x04, .sgn 8, .ro, .num 0, .any, 0x0⟩ /- HO_C1 -/,
  ⟨0x2221, 0x2221, 0x05, 0x05, .sgn 8, .ro, .num 0, .any, 0x0⟩ /- HO_C2 -/,
  ⟨0x2221, 0x2221, 0x06, 0x06, .sgn 4, .ro, .num 0, .any, 0x0⟩ /- HO_THETA0 -/,
  ⟨0x2221, 0x2221, 0x07, 0x07, .sgn 8, .ro, .num 0, .any, 0x0⟩ /- HO_UF -/,
  ⟨0x2221, 0x2221, 0x08, 0x08, .sgn 8, .ro, .num 0, .any, 0x0⟩ /- HO_UA -/,
  ⟨0x2221, 0x2221, 0x09, 0x09, .sgn 8, .ro, .num 0, .any, 0x0⟩ /- HO_UT -/,
  ⟨0x2221, 0x2221, 0x0A, 0x0A, .sgn 8, .ro, .num 0, .any, 0x0⟩ /- HO_AGEING_PRIOR -/,
  ⟨0x2221, 0x2221, 0x0B, 0x0B, .uns 4, .ro, .num 0, .any, 0x0⟩ /- HO_TEMP_SPAN -/]

/-- Rows of the dictionary below index 0x2400, piece 0. -/
def dictBelow2400part0 : DictRows := [
  ⟨0x2300, 0x2300, 0x01, 0x01, .uns 1, .rwc, .num 31, .span 1 31, 0x3⟩ /- SKY_CONST_ENABLE -/,
  ⟨0x2300, 0x2300, 0x02, 0x02, .uns 1, .rwc, .num 3, .span 1 3, 0x3⟩ /- SKY_BAND_ENABLE -/,
  ⟨0x2300, 0x2300, 0x03, 0x03, .uns 1, .rwc, .num 0, .span 0 3, 0x3⟩ /- SKY_TIMESCALE -/,
  ⟨0x2300, 0x2300, 0x04, 0x04, .uns 1, .rwc, .num 1, .oneOf [1, 2, 5, 10], 0x3⟩ /- SKY_LATCH_RATE -/,
  ⟨0x2300, 0x2300, 0x05, 0x05, .uns 1, .rwc, .num 10, .span 0 60, 0x3⟩ /- SKY_ELEV_MASK -/,
  ⟨0x2300, 0x2300, 0x06, 0x06, .uns 2, .rwc, .num 3000, .span 2000 5000, 0x3⟩ /- SKY_CN0_MASK -/,
  ⟨0x2300, 0x2300, 0x07, 0x07, .uns 1, .rwc, .num 20, .span 1 200, 0x3⟩ /- SKY_ACQ_NONCOH -/,
  ⟨0x2300, 0x2300, 0x08, 0x08, .uns 2, .rwc, .num 150, .span 10 1000, 0x3⟩ /- SKY_PLL_BW -/,
  ⟨0x2300, 0x2300, 0x09, 0x09, .uns 2, .rwc, .num 50, .span 1 500, 0x3⟩ /- SKY_DLL_BW -/,
  ⟨0x2300, 0x2300, 0x0A, 0x0A, .uns 1, .rwc, .num 8, .span 2 32, 0x3⟩ /- SKY_EL_SPACING -/,
  ⟨0x2300, 0x2300, 0x0B, 0x0B, .uns 1, .rwc, .num 32, .span 4 64, 0x3⟩ /- SKY_VEVL_SPACING -/,
  ⟨0x2300, 0x2300, 0x0C, 0x0C, .uns 4, .rwc, .num 1000000, .span 1000 10000000, 0x3⟩ /- SKY_UNC_MAX -/,
  ⟨0x2300, 0x2300, 0x0D, 0x0D, .uns 1, .rwc, .num 1, .span 1 10, 0x3⟩ /- SKY_SOL_MISS_LIMIT -/,
  ⟨0x2300, 0x2300, 0x0E, 0x0E, .time96, .rwc, .num 113750156050432000000000, .any, 0x3⟩ /- SKY_DATE_FLOOR -/,
  ⟨0x2300, 0x2300, 0x0F, 0x0F, .sgn 4, .rwc, .num 0, .span (-100000) 100000, 0x3⟩ /- SKY_L5_BIAS -/,
  ⟨0x2300, 0x2300, 0x10, 0x10, .octets 32, .rwc, .rep 32 0, .any, 0x3⟩ /- SKY_SV_EXCLUDE -/,
  ⟨0x2300, 0x2300, 0x11, 0x11, .bool, .rwc, .num 0, .any, 0x3⟩ /- SKY_UTC_STEER -/,
  ⟨0x2300, 0x2300, 0x12, 0x12, .bool, .rwc, .num 1, .any, 0x3⟩ /- SKY_ANT_ENABLE -/,
  ⟨0x2300, 0x2300, 0x13, 0x13, .uns 1, .rwc, .num 2, .span 1 20, 0x3⟩ /- SKY_ANT_OPEN_MA -/,
  ⟨0x2300, 0x2300, 0x14, 0x14, .uns 1, .rwc, .num 60, .span 20 80, 0x3⟩ /- SKY_ANT_SHORT_MA -/,
  ⟨0x2300, 0x2300, 0x15, 0x15, .uns 1, .ro, .num 0, .span 0 3, 0x0⟩ /- SKY_ANT_STATE -/,
  ⟨0x2300, 0x2300, 0x16, 0x16, .uns 2, .ro, .num 0, .any, 0x0⟩ /- SKY_ANT_CURRENT -/,
  ⟨0x2300, 0x2300, 0x17, 0x17, .uns 2, .ro, .num 0, .any, 0x0⟩ /- SKY_AGC_L1 -/,
  ⟨0x2300, 0x2300, 0x18, 0x18, .uns 2, .ro, .num 0, .any, 0x0⟩ /- SKY_AGC_L5 -/,
  ⟨0x2300, 0x2300, 0x19, 0x19, .uns 1, .ro, .num 0, .span 0 2, 0x0⟩ /- SKY_TRACKER -/,
  ⟨0x2300, 0x2300, 0x1A, 0x1A, .uns 1, .ro, .num 0, .span 0 128, 0x0⟩ /- SKY_CH_IN_USE -/,
  ⟨0x2300, 0x2300, 0x1B, 0x1B, .uns 4, .ro, .num 0, .any, 0x0⟩ /- SKY_ORBIT_REJECTS -/,
  ⟨0x2300, 0x2300, 0x1C, 0x1C, .sgn 4, .ro, .num 0, .any, 0x0⟩ /- SKY_PPS_MISMATCH -/,
  ⟨0x2301, 0x2301, 0x01, 0x01, .uns 1, .rwc, .num 0, .span 0 2, 0x3⟩ /- SKY_AID_MODE -/,
  ⟨0x2301, 0x2301, 0x02, 0x02, .octets 64, .rw, .rep 64 0, .any, 0x0⟩ /- SKY_AID_POS -/,
  ⟨0x2301, 0x2301, 0x03, 0x03, .uns 2, .rwc, .num 200, .span 10 10000, 0x3⟩ /- SKY_AID_MAX_AGE -/,
  ⟨0x2301, 0x2301, 0x04, 0x04, .uns 4, .rwc, .num 3000, .span 100 100000, 0x3⟩ /- SKY_AID_UNC_MAX -/,
  ⟨0x2301, 0x2301, 0x05, 0x05, .uns 1, .ro, .num 0, .span 0 3, 0x0⟩ /- SKY_AID_STATUS -/,
  ⟨0x2301, 0x2301, 0x06, 0x06, .upTo 8192, .wo, .rep 8192 0, .any, 0x0⟩ /- SKY_ORBIT_LOAD -/,
  ⟨0x2301, 0x2301, 0x07, 0x07, .uns 4, .ro, .num 4294967295, .any, 0x0⟩ /- SKY_TIME_UNC -/,
  ⟨0x2302, 0x2302, 0x01, 0x01, .uns 1, .ro, .num 0, .span 0 3, 0x0⟩ /- SKY_SOL_KIND -/,
  ⟨0x2302, 0x2302, 0x02, 0x02, .uns 1, .ro, .num 0, .any, 0x0⟩ /- SKY_SOL_NSAT -/,
  ⟨0x2302, 0x2302, 0x03, 0x03, .time96, .ro, .num 0, .any, 0x0⟩ /- SKY_SOL_TIME -/,
  ⟨0x2302, 0x2302, 0x04, 0x04, .sgn 8, .ro, .num 0, .any, 0x0⟩ /- SKY_SOL_OFFSET -/,
  ⟨0x2302, 0x2302, 0x05, 0x05, .uns 4, .ro, .num 0, .any, 0x0⟩ /- SKY_SOL_UNC -/]

/-- Rows of the dictionary below index 0x2400, piece 1. -/
def dictBelow2400part1 : DictRows := [
  ⟨0x2302, 0x2302, 0x06, 0x06, .octets 24, .ro, .rep 24 0, .any, 0x0⟩ /- SKY_SOL_POS -/,
  ⟨0x2302, 0x2302, 0x07, 0x07, .octets 12, .ro, .rep 12 0, .any, 0x0⟩ /- SKY_SOL_VEL -/,
  ⟨0x2302, 0x2302, 0x08, 0x08, .uns 4, .ro, .num 0, .any, 0x0⟩ /- SKY_SOL_COUNT -/,
  ⟨0x2302, 0x2302, 0x09, 0x09, .uns 4, .ro, .num 0, .any, 0x0⟩ /- SKY_SOL_MISSES -/,
  ⟨0x2302, 0x2302, 0x0A, 0x0A, .sgn 4, .ro, .num 0, .any, 0x0⟩ /- SKY_UTC_BCAST -/,
  ⟨0x2302, 0x2302, 0x0B, 0x0B, .octets 8, .ro, .rep 8 0, .any, 0x0⟩ /- SKY_LEAP_BCAST -/,
  ⟨0x2302, 0x2302, 0x0C, 0x0C, .uns 1, .ro, .num 0, .any, 0x0⟩ /- SKY_SOL_FLAGS -/,
  ⟨0x2303, 0x2303, 0x01, 0x01, .upTo 4128, .ro, .bytes [], .any, 0x0⟩ /- SKY_MEAS_BLOCK -/,
  ⟨0x2303, 0x2303, 0x02, 0x02, .uns 4, .ro, .num 0, .any, 0x0⟩ /- SKY_MEAS_COUNT -/,
  ⟨0x2380, 0x23FF, 0x01, 0x01, .uns 1, .ro, .num 0, .span 0 3, 0x0⟩ /- CH_STATE -/,
  ⟨0x2380, 0x23FF, 0x02, 0x02, .uns 1, .ro, .num 0, .any, 0x0⟩ /- CH_SIGNAL -/,
  ⟨0x2380, 0x23FF, 0x03, 0x03, .uns 1, .ro, .num 0, .any, 0x0⟩ /- CH_SV -/,
  ⟨0x2380, 0x23FF, 0x04, 0x04, .uns 2, .ro, .num 0, .any, 0x0⟩ /- CH_CN0 -/,
  ⟨0x2380, 0x23FF, 0x05, 0x05, .sgn 4, .ro, .num 0, .any, 0x0⟩ /- CH_ELEV -/,
  ⟨0x2380, 0x23FF, 0x06, 0x06, .uns 2, .ro, .num 0, .span 0 35999, 0x0⟩ /- CH_AZIM -/]

/-- Rows of the dictionary below index 0x2500, piece 0. -/
def dictBelow2500part0 : DictRows := [
  ⟨0x2400, 0x2400, 0x01, 0x01, .uns 1, .ro, .num 0, .span 0 2, 0x0⟩ /- TDC_CAL_STATE -/,
  ⟨0x2400, 0x2400, 0x02, 0x02, .uns 4, .ro, .num 0, .any, 0x0⟩ /- TDC_CAL_COUNT -/,
  ⟨0x2400, 0x2400, 0x03, 0x03, .uns 4, .ro, .num 0, .any, 0x0⟩ /- TDC_STAMP_RATE -/,
  ⟨0x2400, 0x2400, 0x04, 0x04, .uns 4, .ro, .num 0, .any, 0x0⟩ /- TDC_LOAD_PEAK -/,
  ⟨0x2400, 0x2400, 0x05, 0x05, .uns 2, .ro, .num 0, .any, 0x0⟩ /- TDC_TRIM -/,
  ⟨0x2410, 0x2427, 0x01, 0x01, .uns 1, .ro, .unit, .span 0 23, 0x0⟩ /- CH_SOURCE -/,
  ⟨0x2410, 0x2423, 0x02, 0x02, .uns 1, .rwc, .num 0, .span 0 3, 0x4⟩ /- CH_MODE -/,
  ⟨0x2410, 0x2427, 0x03, 0x03, .uns 1, .rwc, .num 0, .span 0 2, 0x4⟩ /- CH_EDGE -/,
  ⟨0x2410, 0x2427, 0x04, 0x04, .uns 4, .rwc, .num 1, .span 1 16777216, 0x4⟩ /- CH_DECIM -/,
  ⟨0x2410, 0x2427, 0x05, 0x05, .uns 4, .rwc, .num 1, .span 1 125000000, 0x4⟩ /- CH_NOM_FREQ -/,
  ⟨0x2410, 0x2427, 0x06, 0x06, .sgn 4, .rwc, .num 0, .span (-1000000) 1000000, 0x4⟩ /- CH_DELAY -/,
  ⟨0x2410, 0x2427, 0x07, 0x07, .bool, .rwc, .num 0, .any, 0x4⟩ /- CH_FIFO_EN -/,
  ⟨0x2410, 0x2427, 0x08, 0x08, .uns 1, .rwc, .unit, .span 0 23, 0x4⟩ /- CH_STOP_SRC -/,
  ⟨0x2410, 0x2427, 0x09, 0x09, .uns 8, .rwc, .num 0, .span 0 10000000000, 0x4⟩ /- CH_WIN_OPEN -/,
  ⟨0x2410, 0x2427, 0x0A, 0x0A, .uns 8, .rwc, .num 1000000, .span 1 10000000000, 0x4⟩ /- CH_WIN_WIDTH -/,
  ⟨0x2410, 0x2427, 0x0B, 0x0B, .uns 8, .rwc, .num 1000000, .span 1000 10000000000, 0x4⟩ /- CH_TIMEOUT -/,
  ⟨0x2410, 0x2424, 0x0C, 0x0C, .uns 1, .rwc, .num 0xFF, .span 0xFF 0xFF, 0x4⟩ /- CH_LOOP_SRC -/,
  ⟨0x2410, 0x2427, 0x0D, 0x0D, .bool, .rwc, .num 0, .any, 0x4⟩ /- REG_ENABLE -/,
  ⟨0x2410, 0x2427, 0x0E, 0x0E, .uns 4, .rwc, .num 1000, .span 1 1000000, 0x4⟩ /- REG_GATE -/,
  ⟨0x2410, 0x2427, 0x0F, 0x0F, .uns 4, .ro, .num 1, .any, 0x0⟩ /- CH_DECIM_NOW -/,
  ⟨0x2410, 0x2427, 0x10, 0x10, .uns 2, .ro, .num 0, .span 0 256, 0x0⟩ /- CH_FIFO_LEVEL -/,
  ⟨0x2410, 0x2427, 0x11, 0x11, .upTo 384, .ro, .bytes [], .any, 0x0⟩ /- CH_FIFO_READ -/,
  ⟨0x2410, 0x2427, 0x12, 0x12, .uns 8, .ro, .num 0, .any, 0x0⟩ /- CH_EDGES -/,
  ⟨0x2410, 0x2427, 0x13, 0x13, .uns 8, .ro, .num 0, .any, 0x0⟩ /- CH_STAMPS -/,
  ⟨0x2410, 0x2427, 0x14, 0x14, .uns 4, .ro, .num 0, .any, 0x0⟩ /- CH_MISSED -/,
  ⟨0x2410, 0x2427, 0x15, 0x15, .uns 4, .ro, .num 0, .any, 0x0⟩ /- CH_OVERFLOW -/,
  ⟨0x2410, 0x2427, 0x16, 0x16, .uns 4, .ro, .num 0, .any, 0x0⟩ /- CH_START_OVERRUN -/,
  ⟨0x2410, 0x2427, 0x17, 0x17, .sgn 8, .ro, .num 0, .any, 0x0⟩ /- REG_FREQ -/,
  ⟨0x2410, 0x2427, 0x18, 0x18, .sgn 8, .ro, .num 0, .any, 0x0⟩ /- REG_FREQ_ROOT -/,
  ⟨0x2410, 0x2427, 0x19, 0x19, .uns 4, .ro, .num 0, .any, 0x0⟩ /- REG_RESID -/,
  ⟨0x2410, 0x2427, 0x1A, 0x1A, .uns 4, .ro, .num 0, .span 0 16777215, 0x0⟩ /- REG_COUNT -/,
  ⟨0x2410, 0x2427, 0x1B, 0x1B, .time96, .ro, .num 0, .any, 0x0⟩ /- REG_END -/,
  ⟨0x2410, 0x2427, 0x1C, 0x1C, .uns 4, .ro, .num 0, .any, 0x0⟩ /- REG_SEQ -/,
  ⟨0x2410, 0x2427, 0x1D, 0x1D, .uns 1, .ro, .num 0, .span 0 5, 0x0⟩ /- REG_STATUS -/,
  ⟨0x2410, 0x2427, 0x1E, 0x1E, .uns 1, .ro, .num 0, .span 0 2, 0x0⟩ /- CH_IN_USE -/,
  ⟨0x2424, 0x2424, 0x02, 0x02, .uns 1, .rwc, .num 1, .span 1 1, 0x4⟩ /- CH_MODE -/,
  ⟨0x2425, 0x2427, 0x02, 0x02, .uns 1, .rwc, .num 0, .span 0 3, 0x4⟩ /- CH_MODE -/,
  ⟨0x2425, 0x2425, 0x0C, 0x0C, .uns 1, .rwc, .num 0, .span 0 15, 0x4⟩ /- CH_LOOP_SRC -/,
  ⟨0x2426, 0x2426, 0x0C, 0x0C, .uns 1, .rwc, .num 1, .span 0 15, 0x4⟩ /- CH_LOOP_SRC -/,
  ⟨0x2427, 0x2427, 0x0C, 0x0C, .uns 1, .rwc, .num 2, .span 0 15, 0x4⟩ /- CH_LOOP_SRC -/]

/-- Rows of the dictionary below index 0x3000, piece 0. -/
def dictBelow3000part0 : DictRows := [
  ⟨0x2500, 0x2500, 0x01, 0x01, .time96, .ro, .num 0, .any, 0x0⟩ /- MT_NOW -/,
  ⟨0x2500, 0x2500, 0x02, 0x02, .time96, .ro, .num 0, .any, 0x0⟩ /- MT_NOW_UTC -/,
  ⟨0x2500, 0x2500, 0x03, 0x03, .time96, .ro, .num 0, .any, 0x0⟩ /- MT_NOW_GPS -/,
  ⟨0x2500, 0x2500, 0x04, 0x04, .uns 1, .ro, .num 0, .span 0 5, 0x0⟩ /- MT_STATE -/,
  ⟨0x2500, 0x2500, 0x05, 0x05, .time96, .ro, .num 0, .any, 0x0⟩ /- MT_STATE_SINCE -/,
  ⟨0x2500, 0x2500, 0x06, 0x06, .sgn 8, .ro, .num 0, .span (-34359738368) 34359738368, 0x0⟩ /- MT_RATE_ADJ -/,
  ⟨0x2500, 0x2500, 0x07, 0x07, .sgn 8, .ro, .num 0, .any, 0x0⟩ /- MT_PULL_REMAIN -/,
  ⟨0x2500, 0x2500, 0x08, 0x08, .sgn 2, .ro, .num 37, .any, 0x0⟩ /- MT_UTC_OFFSET -/,
  ⟨0x2500, 0x2500, 0x09, 0x09, .uns 1, .ro, .num 0, .span 0 2, 0x0⟩ /- MT_LEAP_PENDING -/,
  ⟨0x2500, 0x2500, 0x0A, 0x0A, .time96, .rws, .num 0, .any, 0x0⟩ /- MT_SET -/,
  ⟨0x2500, 0x2500, 0x0B, 0x0B, .octets 24, .rws, .bytes [], .any, 0x0⟩ /- MT_STEP -/,
  ⟨0x2500, 0x2500, 0x0C, 0x0C, .uns 4, .ro, .num 0, .any, 0x0⟩ /- MT_STEP_COUNT -/,
  ⟨0x2500, 0x2500, 0x0D, 0x0D, .sgn 8, .ro, .num 0, .any, 0x0⟩ /- MT_LAST_STEP -/,
  ⟨0x2500, 0x2500, 0x0E, 0x0E, .bool, .ro, .num 0, .any, 0x0⟩ /- MT_EVER_LOCKED -/,
  ⟨0x2510, 0x2510, 0x01, 0x01, .sgn 2, .rwc, .num 37, .span 0 1000, 0x5⟩ /- UTC_BASE_OFFSET -/,
  ⟨0x2510, 0x2510, 0x02, 0x02, .uns 1, .rwc, .num 0, .span 0 32, 0x5⟩ /- UTC_LEAP_COUNT -/,
  ⟨0x2511, 0x2511, 0x01, 0x20, .octets 8, .rwc, .rep 8 0, .any, 0x5⟩ /- UTC_LEAP_ENTRY -/,
  ⟨0x2520, 0x2527, 0x01, 0x01, .sgn 8, .rwc, .num 0, .span (-4611686018427387904) 4611686018427387904, 0x5⟩ /- DOM_OFFSET -/,
  ⟨0x2520, 0x2527, 0x02, 0x02, .sgn 8, .rwc, .num 0, .span (-68719476736) 68719476736, 0x5⟩ /- DOM_RATE -/,
  ⟨0x2520, 0x2527, 0x03, 0x03, .time96, .ro, .num 0, .any, 0x0⟩ /- DOM_NOW -/,
  ⟨0x2520, 0x2527, 0x04, 0x04, .uns 1, .ro, .num 0, .span 0 1, 0x0⟩ /- DOM_MODE -/,
  ⟨0x2520, 0x2527, 0x05, 0x05, .uns 1, .ro, .num 0, .span 0 5, 0x0⟩ /- DOM_STATE -/,
  ⟨0x2520, 0x2527, 0x06, 0x06, .uns 4, .ro, .num 0, .any, 0x0⟩ /- DOM_STEP_COUNT -/,
  ⟨0x2530, 0x253F, 0x01, 0x01, .uns 1, .ro, .num 0, .span 0 2, 0x0⟩ /- SLOT_STATE -/,
  ⟨0x2530, 0x253F, 0x02, 0x02, .uns 1, .ro, .num 0, .span 0 2, 0x0⟩ /- SLOT_KIND -/,
  ⟨0x2530, 0x253F, 0x03, 0x03, .time96, .ro, .num 0, .any, 0x0⟩ /- SLOT_INSTANT -/,
  ⟨0x2530, 0x253F, 0x04, 0x04, .uns 2, .ro, .num 0, .any, 0x0⟩ /- SLOT_RESULT -/,
  ⟨0x2540, 0x254F, 0x01, 0x01, .uns 1, .rwc, .num 0, .span 0 4, 0x6⟩ /- OUT_MODE -/,
  ⟨0x2540, 0x254F, 0x02, 0x02, .uns 1, .rwc, .num 0, .span 0 10, 0x6⟩ /- OUT_SCALE -/,
  ⟨0x2540, 0x254F, 0x03, 0x03, .uns 1, .rwc, .num 0, .span 0 1, 0x6⟩ /- OUT_POLARITY -/,
  ⟨0x2540, 0x254F, 0x04, 0x04, .time96, .rwc, .num 0, .any, 0x6⟩ /- OUT_START -/,
  ⟨0x2540, 0x254F, 0x05, 0x05, .uns 4, .rwc, .num 1, .span 1 50000000, 0x6⟩ /- OUT_RATE_NUM -/,
  ⟨0x2540, 0x254F, 0x06, 0x06, .uns 2, .rwc, .num 1, .span 1 1000, 0x6⟩ /- OUT_RATE_DEN -/,
  ⟨0x2540, 0x254F, 0x07, 0x07, .uns 8, .rwc, .num 100000000, .span 4000 999999996000000, 0x6⟩ /- OUT_WIDTH -/,
  ⟨0x2540, 0x254F, 0x08, 0x08, .uns 4, .rwc, .num 1, .span 1 4294967295, 0x6⟩ /- OUT_COUNT -/,
  ⟨0x2540, 0x254F, 0x09, 0x09, .sgn 4, .rwc, .num 0, .span (-1000000) 1000000, 0x6⟩ /- OUT_DELAY -/,
  ⟨0x2540, 0x254F, 0x0A, 0x0A, .uns 1, .rwc, .num 1, .span 0 2, 0x6⟩ /- OUT_POL_UNSYNC -/,
  ⟨0x2540, 0x254F, 0x0B, 0x0B, .uns 1, .rwc, .num 0, .span 0 2, 0x6⟩ /- OUT_POL_T4 -/,
  ⟨0x2540, 0x254F, 0x0C, 0x0C, .uns 1, .rwc, .num 1, .span 0 2, 0x6⟩ /- OUT_POL_T5 -/,
  ⟨0x2540, 0x254F, 0x0D, 0x0D, .uns 1, .wo, .num 0, .span 1 1, 0x0⟩ /- OUT_REARM -/]

/-- Rows of the dictionary below index 0x3000, piece 1. -/
def dictBelow3000part1 : DictRows := [
  ⟨0x2540, 0x254F, 0x0E, 0x0E, .uns 1, .ro, .num 0, .span 0 5, 0x0⟩ /- OUT_STATUS -/,
  ⟨0x2540, 0x254F, 0x0F, 0x0F, .uns 8, .ro, .num 0, .any, 0x0⟩ /- OUT_PULSES -/,
  ⟨0x2540, 0x254F, 0x10, 0x10, .uns 4, .ro, .num 0, .any, 0x0⟩ /- OUT_MISSED -/,
  ⟨0x2540, 0x254F, 0x11, 0x11, .time96, .ro, .num 0, .any, 0x0⟩ /- OUT_LAST_EDGE -/,
  ⟨0x2540, 0x254F, 0x12, 0x12, .sgn 4, .ro, .num 0, .any, 0x0⟩ /- OUT_PLACE_ERR -/]

/-- Rows of the dictionary below index 0x3400, piece 0. -/
def dictBelow3400part0 : DictRows := [
  ⟨0x3000, 0x302B, 0x01, 0x01, .uns 1, .rwc, .num 1, .span 0 1, 0x8⟩ /- PORT_POWER -/,
  ⟨0x3000, 0x300F, 0x02, 0x02, .uns 1, .rwc, .num 0, .span 0 1, 0x9⟩ /- PORT_MODE -/,
  ⟨0x3000, 0x300F, 0x05, 0x05, .uns 2, .rwc, .num 1522, .span 1518 1522, 0x9⟩ /- PORT_MAX_FRAME -/,
  ⟨0x3000, 0x300F, 0x06, 0x06, .uns 2, .rwc, .num 1522, .span 64 1522, 0x9⟩ /- PORT_PEER_FRAME -/,
  ⟨0x3000, 0x300F, 0x07, 0x07, .uns 1, .rwc, .num 0, .span 0 254, 0x9⟩ /- PLCA_NODE_ID -/,
  ⟨0x3000, 0x300F, 0x08, 0x08, .uns 1, .rwc, .num 8, .span 1 255, 0x9⟩ /- PLCA_NODE_COUNT -/,
  ⟨0x3000, 0x300F, 0x09, 0x09, .uns 1, .rwc, .num 32, .span 1 255, 0x9⟩ /- PLCA_TO_TIMER -/,
  ⟨0x3000, 0x300F, 0x0A, 0x0A, .uns 1, .rwc, .num 0, .span 0 255, 0x9⟩ /- PLCA_BURST_COUNT -/,
  ⟨0x3000, 0x300F, 0x0B, 0x0B, .uns 1, .rwc, .num 128, .span 1 255, 0x9⟩ /- PLCA_BURST_TIMER -/,
  ⟨0x3000, 0x302B, 0x0C, 0x0C, .uns 1, .ro, .num 0, .span 0 5, 0x0⟩ /- PORT_LINK_STATE -/,
  ⟨0x3000, 0x302B, 0x0D, 0x0D, .uns 4, .ro, .num 0, .any, 0x0⟩ /- PORT_SPEED -/,
  ⟨0x3000, 0x302B, 0x0E, 0x0E, .uns 4, .ro, .num 4294967295, .any, 0x0⟩ /- PORT_TX_BOUND -/,
  ⟨0x3000, 0x300F, 0x0F, 0x0F, .uns 1, .ro, .num 0, .span 0 1, 0x0⟩ /- PLCA_STATUS -/,
  ⟨0x3000, 0x300F, 0x10, 0x10, .uns 4, .ro, .num 0, .any, 0x0⟩ /- PLCA_CYCLE_OBS -/,
  ⟨0x3000, 0x302B, 0x11, 0x11, .uns 8, .ro, .num 0, .any, 0x0⟩ /- PORT_RX_FRAMES -/,
  ⟨0x3000, 0x302B, 0x12, 0x12, .uns 8, .ro, .num 0, .any, 0x0⟩ /- PORT_TX_FRAMES -/,
  ⟨0x3000, 0x302B, 0x13, 0x13, .uns 8, .ro, .num 0, .any, 0x0⟩ /- PORT_RX_OCTETS -/,
  ⟨0x3000, 0x302B, 0x14, 0x14, .uns 8, .ro, .num 0, .any, 0x0⟩ /- PORT_TX_OCTETS -/,
  ⟨0x3000, 0x302B, 0x15, 0x15, .uns 4, .ro, .num 0, .any, 0x0⟩ /- PORT_RX_FCS_ERR -/,
  ⟨0x3000, 0x302B, 0x16, 0x16, .uns 4, .ro, .num 0, .any, 0x0⟩ /- PORT_RX_RUNT -/,
  ⟨0x3000, 0x302B, 0x17, 0x17, .uns 4, .ro, .num 0, .any, 0x0⟩ /- PORT_RX_OVERSIZE -/,
  ⟨0x3000, 0x302B, 0x18, 0x18, .uns 4, .ro, .num 0, .any, 0x0⟩ /- PORT_TX_OVERSIZE -/,
  ⟨0x3000, 0x302B, 0x19, 0x19, .uns 4, .ro, .num 0, .any, 0x0⟩ /- PORT_RX_MAC_CTRL -/,
  ⟨0x3000, 0x302B, 0x1A, 0x1A, .uns 4, .ro, .num 0, .any, 0x0⟩ /- PORT_RX_SLEEP -/,
  ⟨0x3000, 0x302B, 0x1B, 0x1B, .uns 4, .ro, .num 0, .any, 0x0⟩ /- PORT_LINK_DOWNS -/,
  ⟨0x3000, 0x302B, 0x1C, 0x1C, .uns 4, .ro, .num 0, .any, 0x0⟩ /- PORT_PHY_SYM_ERR -/,
  ⟨0x3000, 0x300F, 0x1D, 0x1D, .uns 4, .ro, .num 0, .any, 0x0⟩ /- PORT_COLLISIONS -/,
  ⟨0x3000, 0x300F, 0x1E, 0x1E, .uns 4, .ro, .num 0, .any, 0x0⟩ /- PORT_EXCESS_COLL -/,
  ⟨0x3000, 0x300F, 0x1F, 0x1F, .uns 4, .ro, .num 0, .any, 0x0⟩ /- PORT_LATE_COLL -/,
  ⟨0x3000, 0x302B, 0x20, 0x27, .octets 20, .rwc, .rep 20 0, .any, 0x9⟩ /- WAKE_PAT -/,
  ⟨0x3000, 0x302B, 0x28, 0x28, .uns 1, .ro, .num 255, .spanOr 0 7 255, 0x0⟩ /- WAKE_LAST -/,
  ⟨0x3000, 0x302B, 0x29, 0x29, .uns 1, .wo, .num 0, .span 1 1, 0x0⟩ /- PORT_CNT_CLEAR -/,
  ⟨0x3000, 0x302B, 0x30, 0x37, .uns 8, .ro, .num 0, .any, 0x0⟩ /- PORT_RX_OVERFLOW -/,
  ⟨0x3000, 0x302B, 0x38, 0x38, .octets 6, .rwc, .mac, .any, 0x9⟩ /- PORT_MAC -/,
  ⟨0x3000, 0x302B, 0x39, 0x39, .octets 4, .rwc, .rep 4 0, .any, 0x9⟩ /- PORT_IPV4 -/,
  ⟨0x3000, 0x302B, 0x3A, 0x3A, .octets 16, .rwc, .rep 16 0, .any, 0x9⟩ /- PORT_IPV6 -/,
  ⟨0x3000, 0x302B, 0x41, 0x41, .sgn 4, .rwc, .num 0, .span (-100000) 100000, 0x7⟩ /- STAMP_RX_CORR -/,
  ⟨0x3000, 0x302B, 0x42, 0x42, .sgn 4, .rwc, .num 0, .span (-100000) 100000, 0x7⟩ /- STAMP_TX_CORR -/,
  ⟨0x3000, 0x302B, 0x45, 0x45, .uns 4, .ro, .num 0, .any, 0x0⟩ /- STAMP_RX_LAT_NOW -/,
  ⟨0x3000, 0x302B, 0x46, 0x46, .uns 4, .ro, .num 0, .any, 0x0⟩ /- STAMP_TX_LAT_NOW -/]

/-- Rows of the dictionary below index 0x3400, piece 1. -/
def dictBelow3400part1 : DictRows := [
  ⟨0x3000, 0x302B, 0x47, 0x47, .uns 8, .ro, .num 0, .any, 0x0⟩ /- STAMP_INS_COUNT -/,
  ⟨0x3000, 0x302B, 0x48, 0x48, .uns 4, .ro, .num 0, .any, 0x0⟩ /- STAMP_INS_DROP -/,
  ⟨0x3000, 0x302B, 0x49, 0x49, .uns 4, .ro, .num 0, .any, 0x0⟩ /- STAMP_INVALID -/,
  ⟨0x3000, 0x302B, 0x4A, 0x4A, .uns 2, .rw, .num 0, .spanOr 1536 65535 0, 0x0⟩ /- STAMP_PROBE_ETYPE -/,
  ⟨0x3000, 0x302B, 0x4B, 0x4B, .octets 6, .wo, .rep 6 0, .any, 0x0⟩ /- STAMP_PROBE_SEND -/,
  ⟨0x3000, 0x302B, 0x4C, 0x4C, .time96, .ro, .num 0, .any, 0x0⟩ /- STAMP_PROBE_RX -/,
  ⟨0x3000, 0x302B, 0x4D, 0x4D, .time96, .ro, .num 0, .any, 0x0⟩ /- STAMP_PROBE_TX -/,
  ⟨0x3000, 0x302B, 0x4E, 0x4E, .uns 2, .ro, .num 0, .any, 0x0⟩ /- STAMP_PROBE_TX_SEQ -/,
  ⟨0x3000, 0x302B, 0x4F, 0x4F, .uns 2, .ro, .num 0, .any, 0x0⟩ /- STAMP_PROBE_RX_SEQ -/,
  ⟨0x3010, 0x301F, 0x02, 0x02, .uns 1, .rwc, .num 1, .span 0 1, 0x9⟩ /- PORT_MODE -/,
  ⟨0x3010, 0x301F, 0x03, 0x03, .uns 1, .rwc, .num 1, .span 0 1, 0x9⟩ /- PORT_T1_ROLE -/,
  ⟨0x3010, 0x302B, 0x05, 0x05, .uns 2, .rwc, .num 1522, .span 1518 9216, 0x9⟩ /- PORT_MAX_FRAME -/,
  ⟨0x3020, 0x3027, 0x02, 0x02, .uns 1, .rwc, .num 2, .span 0 2, 0x9⟩ /- PORT_MODE -/,
  ⟨0x3020, 0x3027, 0x40, 0x40, .uns 1, .rwc, .num 0, .span 0 1, 0x7⟩ /- STAMP_PLANE -/,
  ⟨0x3020, 0x3027, 0x43, 0x43, .uns 4, .rwc, .num 0, .span 0 2000000, 0x7⟩ /- XPHY_RX_LAT -/,
  ⟨0x3020, 0x3027, 0x44, 0x44, .uns 4, .rwc, .num 0, .span 0 2000000, 0x7⟩ /- XPHY_TX_LAT -/,
  ⟨0x3028, 0x302B, 0x02, 0x02, .uns 1, .rwc, .num 0, .span 0 1, 0x9⟩ /- PORT_MODE -/,
  ⟨0x3028, 0x302B, 0x04, 0x04, .uns 1, .rwc, .num 0, .span 0 2, 0x9⟩ /- PORT_FEC -/,
  ⟨0x3100, 0x3100, 0x01, 0x01, .octets 8, .rw, .rep 8 0, .any, 0x0⟩ /- XPHY_MDIO -/,
  ⟨0x3100, 0x3100, 0x02, 0x02, .uns 1, .rw, .num 0, .mask 0xFF, 0x0⟩ /- XPHY_RESET -/,
  ⟨0x3100, 0x3100, 0x03, 0x03, .octets 6, .ro, .mac, .any, 0x0⟩ /- PORCH_MAC_BASE -/,
  ⟨0x3110, 0x3113, 0x01, 0x01, .octets 20, .rw, .bytes [3, 1, 2, 79, 20, 20, 1, 7, 2, 2, 8, 0, 0, 0, 0, 0, 0, 0, 0, 0], .any, 0x0⟩ /- CAN_CFG -/,
  ⟨0x3110, 0x3113, 0x02, 0x02, .uns 1, .ro, .num 0, .span 0 4, 0x0⟩ /- CAN_STATE -/,
  ⟨0x3110, 0x3113, 0x03, 0x03, .uns 1, .ro, .num 0, .any, 0x0⟩ /- CAN_TEC -/,
  ⟨0x3110, 0x3113, 0x04, 0x04, .uns 1, .ro, .num 0, .any, 0x0⟩ /- CAN_REC -/,
  ⟨0x3110, 0x3113, 0x05, 0x05, .uns 4, .ro, .num 0, .any, 0x0⟩ /- CAN_BUSOFF_COUNT -/,
  ⟨0x3110, 0x3113, 0x06, 0x06, .uns 4, .ro, .num 0, .any, 0x0⟩ /- CAN_RX_FRAMES -/,
  ⟨0x3110, 0x3113, 0x07, 0x07, .uns 4, .ro, .num 0, .any, 0x0⟩ /- CAN_TX_FRAMES -/,
  ⟨0x3110, 0x3113, 0x08, 0x08, .uns 4, .ro, .num 0, .any, 0x0⟩ /- CAN_ERR_FRAMES -/,
  ⟨0x3110, 0x3113, 0x09, 0x09, .uns 4, .ro, .num 0, .any, 0x0⟩ /- CAN_RX_DISCARD -/]

/-- Rows of the dictionary below index 0x4000, piece 0. -/
def dictBelow4000part0 : DictRows := [
  ⟨0x3400, 0x3400, 0x01, 0x01, .uns 2, .rwc, .num 300, .spanOr 10 65535 0, 0xA⟩ /- HALL_FDB_AGEING -/,
  ⟨0x3400, 0x3400, 0x02, 0x02, .uns 8, .rwc, .num 17592186044415, .mask 0xFFFFFFFFFFF, 0xA⟩ /- HALL_LEARN_MASK -/,
  ⟨0x3400, 0x3400, 0x03, 0x03, .upTo 16384, .rwc, .bytes [], .any, 0xA⟩ /- HALL_FDB_STATIC -/,
  ⟨0x3400, 0x3400, 0x04, 0x04, .upTo 4096, .rwc, .bytes [0, 1, 15, 255, 255, 255, 255, 255, 15, 255, 255, 255, 255, 255, 0, 0], .any, 0xA⟩ /- HALL_VLAN_TABLE -/,
  ⟨0x3400, 0x3400, 0x05, 0x05, .uns 1, .wo, .num 0, .span 1 1, 0x0⟩ /- HALL_FDB_FLUSH -/,
  ⟨0x3400, 0x3400, 0x06, 0x06, .uns 2, .ro, .num 0, .span 0 16384, 0x0⟩ /- HALL_FDB_COUNT -/,
  ⟨0x3400, 0x3400, 0x07, 0x07, .uns 4, .ro, .num 0, .any, 0x0⟩ /- HALL_FDB_FULL -/,
  ⟨0x3400, 0x3400, 0x10, 0x10, .uns 4, .rwc, .num 16384, .span 4096 32768, 0xA⟩ /- HALL_IP_RESERVE -/,
  ⟨0x3400, 0x3400, 0x11, 0x11, .uns 2, .rwc, .num 64, .span 36 256, 0xA⟩ /- HALL_PORT_GUAR -/,
  ⟨0x3400, 0x3400, 0x12, 0x12, .uns 4, .ro, .num 0, .span 0 65536, 0x0⟩ /- HALL_CELLS_FREE -/,
  ⟨0x3400, 0x3400, 0x13, 0x13, .uns 4, .ro, .num 0, .any, 0x0⟩ /- HALL_CELLS_LOW -/,
  ⟨0x3400, 0x3400, 0x20, 0x20, .uns 8, .rwc, .num 0, .mask 0xFFFFFFFFFFF, 0xA⟩ /- HALL_MIRROR_SRC -/,
  ⟨0x3400, 0x3400, 0x21, 0x21, .uns 1, .rwc, .num 0, .span 0 3, 0xA⟩ /- HALL_MIRROR_DIR -/,
  ⟨0x3400, 0x3400, 0x22, 0x22, .uns 1, .rwc, .num 0, .span 0 43, 0xA⟩ /- HALL_MIRROR_DEST -/,
  ⟨0x3400, 0x3400, 0x23, 0x23, .uns 8, .rwc, .num 0, .mask 0xFFFFFFFFFFF, 0xA⟩ /- HALL_LOOP_MASK -/,
  ⟨0x3400, 0x3400, 0x30, 0x30, .uns 4, .ro, .num 0, .any, 0x0⟩ /- HALL_VLAN_DROP -/,
  ⟨0x3400, 0x3400, 0x31, 0x31, .uns 4, .ro, .num 0, .any, 0x0⟩ /- HALL_LOCAL_DISCARD -/,
  ⟨0x3400, 0x3400, 0x32, 0x32, .uns 4, .ro, .num 0, .any, 0x0⟩ /- HALL_MIRROR_DROP -/,
  ⟨0x3400, 0x3400, 0x33, 0x33, .uns 4, .ro, .num 0, .any, 0x0⟩ /- HALL_LOOP_DISCARD -/,
  ⟨0x3440, 0x346B, 0x01, 0x01, .uns 2, .rwc, .num 1, .span 1 4094, 0xA⟩ /- IN_PVID -/,
  ⟨0x3440, 0x346B, 0x02, 0x02, .uns 1, .rwc, .num 0, .span 0 2, 0xA⟩ /- IN_ACCEPT -/,
  ⟨0x3440, 0x346B, 0x03, 0x03, .uns 4, .rwc, .num 1985229328, .mask 0x77777777, 0xA⟩ /- IN_PCP_MAP -/,
  ⟨0x3500, 0x352B, 0x01, 0x01, .upTo 8192, .rwc, .bytes [], .any, 0xB⟩ /- GATE_LIST -/,
  ⟨0x3500, 0x352B, 0x02, 0x02, .time96, .rwc, .num 0, .any, 0xB⟩ /- GATE_BASE -/,
  ⟨0x3500, 0x352B, 0x03, 0x03, .uns 4, .rwc, .num 1000000, .span 1000 1000000000, 0xB⟩ /- GATE_CYCLE -/,
  ⟨0x3500, 0x352B, 0x04, 0x04, .uns 2, .ro, .num 0, .span 0 1024, 0x0⟩ /- GATE_COUNT -/,
  ⟨0x3500, 0x352B, 0x05, 0x05, .uns 2, .ro, .num 65535, .spanOr 0 1023 65535, 0x0⟩ /- GATE_POS -/,
  ⟨0x3500, 0x352B, 0x06, 0x06, .uns 1, .rwc, .num 0, .mask 0xFF, 0xB⟩ /- Q_LAUNCH_MASK -/,
  ⟨0x3500, 0x352B, 0x07, 0x07, .uns 4, .rwc, .num 1000, .span 0 4294967295, 0xB⟩ /- LAUNCH_LATE_MAX -/,
  ⟨0x3500, 0x352B, 0x08, 0x0F, .uns 4, .rwc, .num 0, .span 0 25000000, 0xB⟩ /- CBS_SLOPE -/,
  ⟨0x3500, 0x352B, 0x10, 0x17, .uns 4, .rwc, .num 4096, .span 1 65536, 0xB⟩ /- Q_MAX_CELLS -/,
  ⟨0x3500, 0x352B, 0x20, 0x27, .uns 4, .ro, .num 0, .any, 0x0⟩ /- GATE_WAIT -/,
  ⟨0x3500, 0x352B, 0x28, 0x2F, .uns 4, .ro, .num 0, .any, 0x0⟩ /- Q_DEPTH -/,
  ⟨0x3500, 0x352B, 0x30, 0x37, .uns 4, .ro, .num 0, .any, 0x0⟩ /- Q_TAILDROP -/,
  ⟨0x3500, 0x352B, 0x38, 0x38, .uns 4, .ro, .num 0, .any, 0x0⟩ /- LAUNCH_LATE_DROP -/,
  ⟨0x3500, 0x352B, 0x39, 0x39, .uns 4, .ro, .num 0, .any, 0x0⟩ /- LAUNCH_FAR_DROP -/,
  ⟨0x3500, 0x352B, 0x3A, 0x3A, .uns 4, .ro, .num 0, .any, 0x0⟩ /- GATE_NEVER_DROP -/,
  ⟨0x3500, 0x352B, 0x3B, 0x3B, .uns 4, .ro, .num 0, .any, 0x0⟩ /- SLEEP_DISCARD -/]

/-- Rows of the dictionary below index 0x4200, piece 0. -/
def dictBelow4200part0 : DictRows := [
  ⟨0x4000, 0x4000, 0x01, 0x01, .uns 1, .rwc, .num 7, .span 1 7, 0xC⟩ /- PAR_QUEUE -/,
  ⟨0x4000, 0x4000, 0x02, 0x02, .uns 1, .rwc, .num 5, .span 0 6, 0xC⟩ /- PAR_REFUSE_QUEUE -/,
  ⟨0x4000, 0x4000, 0x03, 0x03, .uns 2, .rwc, .num 64, .span 1 3600, 0xC⟩ /- PAR_CLIENT_IDLE -/,
  ⟨0x4000, 0x4000, 0x04, 0x04, .uns 2, .ro, .num 0, .span 0 1024, 0x0⟩ /- PAR_INFLIGHT -/,
  ⟨0x4000, 0x4000, 0x05, 0x05, .uns 2, .ro, .num 0, .span 0 1024, 0x0⟩ /- PAR_INFLIGHT_PEAK -/,
  ⟨0x4000, 0x4000, 0x06, 0x06, .uns 4, .ro, .num 0, .any, 0x0⟩ /- PAR_ADMIT_RATE -/,
  ⟨0x4000, 0x4000, 0x07, 0x07, .uns 4, .ro, .num 0, .any, 0x0⟩ /- PAR_REFUSE_NOW -/,
  ⟨0x4000, 0x4000, 0x08, 0x08, .uns 4, .ro, .num 0, .span 0 262144, 0x0⟩ /- PAR_CLIENTS -/,
  ⟨0x4000, 0x4000, 0x09, 0x09, .uns 4, .ro, .num 0, .any, 0x0⟩ /- PAR_UNCLASSIFIED -/,
  ⟨0x4000, 0x4000, 0x0A, 0x0A, .uns 4, .ro, .num 0, .any, 0x0⟩ /- PAR_MALFORMED -/,
  ⟨0x4000, 0x4000, 0x0B, 0x0B, .bool, .ro, .num 0, .any, 0x0⟩ /- PAR_ADMIT_STOPPED -/,
  ⟨0x4010, 0x4010, 0x01, 0x01, .upTo 4096, .rwc, .bytes [], .any, 0xC⟩ /- PAR_CLASSIFIER -/,
  ⟨0x4020, 0x4020, 0x01, 0x01, .bool, .rwc, .num 0, .any, 0xC⟩ /- NTSKE_ENABLE -/,
  ⟨0x4020, 0x4020, 0x02, 0x02, .upTo 4096, .rwc, .bytes [], .any, 0xC⟩ /- NTSKE_CERT -/,
  ⟨0x4020, 0x4020, 0x03, 0x03, .uns 1, .rwc, .num 0, .span 0 63, 0xC⟩ /- NTSKE_KEY_SLOT -/,
  ⟨0x4020, 0x4020, 0x04, 0x04, .uns 2, .rwc, .num 64, .span 1 256, 0xC⟩ /- NTSKE_MAX_CONN -/,
  ⟨0x4020, 0x4020, 0x05, 0x05, .uns 1, .rwc, .num 8, .span 1 8, 0xC⟩ /- NTSKE_COOKIES -/,
  ⟨0x4020, 0x4020, 0x06, 0x06, .uns 2, .rwc, .num 10000, .span 1000 60000, 0xC⟩ /- NTSKE_TIMEOUT -/,
  ⟨0x4020, 0x4020, 0x07, 0x07, .uns 2, .ro, .num 0, .any, 0x0⟩ /- NTSKE_CONN_NOW -/,
  ⟨0x4020, 0x4020, 0x08, 0x08, .uns 4, .ro, .num 0, .any, 0x0⟩ /- NTSKE_DONE -/,
  ⟨0x4020, 0x4020, 0x09, 0x09, .uns 4, .ro, .num 0, .any, 0x0⟩ /- NTSKE_FAILED -/,
  ⟨0x4020, 0x4020, 0x0A, 0x0A, .uns 4, .ro, .num 0, .any, 0x0⟩ /- NTS_NAK_COUNT -/,
  ⟨0x4020, 0x4020, 0x0B, 0x0B, .uns 4, .ro, .num 0, .any, 0x0⟩ /- NTS_AUTH_DROP -/,
  ⟨0x4100, 0x413F, 0x01, 0x01, .uns 1, .rwc, .num 0, .span 0 5, 0xC⟩ /- RING_CLASS -/,
  ⟨0x4100, 0x413F, 0x02, 0x02, .uns 2, .rwc, .num 0, .span 0 1024, 0xC⟩ /- RING_SIZE -/,
  ⟨0x4100, 0x413F, 0x03, 0x03, .uns 2, .rwc, .num 0, .span 0 1024, 0xC⟩ /- RING_RESERVE -/,
  ⟨0x4100, 0x413F, 0x04, 0x04, .uns 4, .rwc, .num 2000, .span 2000 100000000, 0xC⟩ /- RING_BOUND -/,
  ⟨0x4100, 0x413F, 0x05, 0x05, .uns 4, .rwc, .num 0, .span 0 30000000, 0xC⟩ /- RING_RATE -/,
  ⟨0x4100, 0x413F, 0x06, 0x06, .uns 4, .rwc, .num 1024, .span 1 65536, 0xC⟩ /- RING_BURST -/,
  ⟨0x4100, 0x413F, 0x07, 0x07, .uns 4, .rwc, .num 0, .span 0 1000000000, 0xC⟩ /- CLIENT_RATE -/,
  ⟨0x4100, 0x413F, 0x08, 0x08, .uns 2, .rwc, .num 8, .span 1 1024, 0xC⟩ /- CLIENT_BURST -/,
  ⟨0x4100, 0x413F, 0x09, 0x09, .uns 4, .rwc, .num 10000, .span 0 30000000, 0xC⟩ /- UNTRACKED_RATE -/,
  ⟨0x4100, 0x413F, 0x0A, 0x0A, .uns 4, .rwc, .num 100000, .span 0 10000000, 0xC⟩ /- REFUSE_RATE -/,
  ⟨0x4100, 0x413F, 0x0B, 0x0B, .uns 8, .ro, .num 0, .any, 0x0⟩ /- RING_ADMITTED -/,
  ⟨0x4100, 0x413F, 0x0C, 0x0C, .uns 8, .ro, .num 0, .any, 0x0⟩ /- RING_REFUSED -/,
  ⟨0x4100, 0x413F, 0x0D, 0x13, .uns 4, .ro, .num 0, .any, 0x0⟩ /- RING_REFUSE_BY -/,
  ⟨0x4100, 0x413F, 0x14, 0x14, .uns 4, .ro, .num 0, .any, 0x0⟩ /- RING_REFUSE_SILENT -/,
  ⟨0x4100, 0x413F, 0x15, 0x15, .uns 4, .ro, .num 0, .any, 0x0⟩ /- RING_OBS_MAX -/,
  ⟨0x4100, 0x413F, 0x16, 0x16, .uns 4, .ro, .num 4294967295, .any, 0x0⟩ /- RING_OBS_MIN -/,
  ⟨0x4100, 0x413F, 0x17, 0x17, .uns 8, .ro, .num 0, .any, 0x0⟩ /- RING_OBS_SUM -/]

/-- Rows of the dictionary below index 0x4200, piece 1. -/
def dictBelow4200part1 : DictRows := [
  ⟨0x4100, 0x413F, 0x18, 0x18, .uns 8, .ro, .num 0, .any, 0x0⟩ /- RING_OBS_COUNT -/,
  ⟨0x4100, 0x413F, 0x19, 0x19, .octets 64, .ro, .rep 64 0, .any, 0x0⟩ /- RING_OBS_HIST -/,
  ⟨0x4100, 0x413F, 0x1A, 0x1A, .uns 4, .ro, .num 0, .any, 0x0⟩ /- RING_MISSES -/,
  ⟨0x4100, 0x413F, 0x1B, 0x1B, .uns 2, .ro, .num 0, .span 0 1024, 0x0⟩ /- RING_INFLIGHT -/,
  ⟨0x4100, 0x413F, 0x1C, 0x1C, .uns 1, .wo, .num 0, .span 1 1, 0x0⟩ /- RING_OBS_CLEAR -/,
  ⟨0x4100, 0x413F, 0x1D, 0x1D, .time96, .ro, .num 0, .any, 0x0⟩ /- RING_OBS_SINCE -/,
  ⟨0x4100, 0x413F, 0x1E, 0x1E, .uns 4, .ro, .num 0, .any, 0x0⟩ /- RING_STEP_SPANNED -/,
  ⟨0x4100, 0x413F, 0x1F, 0x1F, .uns 4, .ro, .num 0, .any, 0x0⟩ /- RING_INTEGRITY_LOSS -/,
  ⟨0x4100, 0x413F, 0x20, 0x20, .uns 4, .ro, .num 0, .any, 0x0⟩ /- RING_LINK_DISCARD -/]

/-- Rows of the dictionary below index 0x5000, piece 0. -/
def dictBelow5000part0 : DictRows := [
  ⟨0x4200, 0x4207, 0x01, 0x01, .bool, .rwc, .num 0, .any, 0xD⟩ /- INST_ENABLE -/,
  ⟨0x4200, 0x4207, 0x02, 0x02, .uns 1, .rwc, .num 0, .span 0 3, 0xD⟩ /- INST_PROFILE -/,
  ⟨0x4200, 0x4207, 0x03, 0x03, .uns 1, .rwc, .num 0, .span 0 2, 0xD⟩ /- INST_ROLE -/,
  ⟨0x4200, 0x4207, 0x04, 0x04, .uns 1, .rwc, .num 0, .span 0 127, 0xD⟩ /- INST_DOMAIN_NUM -/,
  ⟨0x4200, 0x4207, 0x05, 0x05, .uns 1, .rwc, .num 0, .span 0 255, 0xD⟩ /- INST_MINOR_SDO -/,
  ⟨0x4200, 0x4207, 0x06, 0x06, .uns 8, .rwc, .num 0, .mask 0xFFFFFFFFFFF, 0xD⟩ /- INST_PORT_MASK -/,
  ⟨0x4200, 0x4207, 0x07, 0x07, .uns 1, .rwc, .num 255, .spanOr 0 43 255, 0xD⟩ /- INST_RX_PORT -/,
  ⟨0x4200, 0x4207, 0x08, 0x08, .uns 1, .rwc, .num 0, .span 0 2, 0xD⟩ /- INST_TRANSPORT -/,
  ⟨0x4200, 0x4207, 0x09, 0x09, .uns 1, .rwc, .num 0, .span 0 1, 0xD⟩ /- INST_DOM_MODE -/,
  ⟨0x4200, 0x4207, 0x0A, 0x0A, .bool, .rwc, .num 1, .any, 0xD⟩ /- INST_PTP_TIMESCALE -/,
  ⟨0x4200, 0x4207, 0x0B, 0x0B, .sgn 4, .rwc, .num (-3), .span (-3) 4, 0xD⟩ /- INST_LOG_ANNOUNCE -/,
  ⟨0x4200, 0x4207, 0x0C, 0x0C, .sgn 4, .rwc, .num (-3), .span (-7) 4, 0xD⟩ /- INST_LOG_SYNC -/,
  ⟨0x4200, 0x4207, 0x0D, 0x0D, .sgn 4, .rwc, .num 0, .span (-7) 5, 0xD⟩ /- INST_LOG_DELAY -/,
  ⟨0x4200, 0x4207, 0x0E, 0x0E, .uns 1, .rwc, .num 3, .span 2 10, 0xD⟩ /- INST_ANN_TIMEOUT -/,
  ⟨0x4200, 0x4207, 0x0F, 0x0F, .uns 1, .rwc, .num 3, .span 2 10, 0xD⟩ /- INST_SYNC_TIMEOUT -/,
  ⟨0x4200, 0x4207, 0x10, 0x10, .uns 1, .rwc, .num 3, .span 1 10, 0xD⟩ /- INST_LOST_RESP -/,
  ⟨0x4200, 0x4207, 0x11, 0x11, .uns 1, .rwc, .num 128, .span 0 255, 0xD⟩ /- INST_PRIORITY1 -/,
  ⟨0x4200, 0x4207, 0x12, 0x12, .uns 1, .rwc, .num 128, .span 0 255, 0xD⟩ /- INST_PRIORITY2 -/,
  ⟨0x4200, 0x4207, 0x13, 0x13, .octets 8, .ro, .clockId, .any, 0x0⟩ /- INST_CLOCK_ID -/,
  ⟨0x4200, 0x4207, 0x14, 0x14, .uns 2, .rwc, .num 20061, .span 0 65535, 0xD⟩ /- INST_VARIANCE -/,
  ⟨0x4200, 0x4207, 0x15, 0x15, .octets 176, .rwc, .rep 176 0, .any, 0xD⟩ /- INST_ASYM -/,
  ⟨0x4200, 0x4207, 0x16, 0x16, .uns 4, .rwc, .num 1000, .span 100 1000000000, 0xD⟩ /- INST_STEP_THRESH -/,
  ⟨0x4200, 0x4207, 0x17, 0x17, .uns 4, .rwc, .num 100, .span 10 1000000, 0xD⟩ /- INST_LOCK_THRESH -/,
  ⟨0x4200, 0x4207, 0x18, 0x18, .uns 4, .rwc, .num 1000, .span 10 10000, 0xD⟩ /- INST_SERVO_BW -/,
  ⟨0x4200, 0x4207, 0x19, 0x19, .uns 4, .rwc, .num 100, .span 1 100000, 0xD⟩ /- INST_FREE_HO_RATE -/,
  ⟨0x4200, 0x4207, 0x1A, 0x1A, .uns 4, .rwc, .num 10000, .span 100 1000000000, 0xD⟩ /- INST_FREE_HO_LIMIT -/,
  ⟨0x4200, 0x4207, 0x1B, 0x1B, .bool, .rwc, .num 0, .any, 0xD⟩ /- INST_RELAY -/,
  ⟨0x4200, 0x4207, 0x1C, 0x1C, .uns 1, .rwc, .num 8, .span 1 64, 0xD⟩ /- INST_DELAY_FILTER -/,
  ⟨0x4200, 0x4207, 0x1D, 0x1D, .uns 1, .rwc, .num 254, .span 32 254, 0xD⟩ /- INST_P3_ACCURACY -/,
  ⟨0x4200, 0x4207, 0x20, 0x20, .octets 44, .ro, .rep 44 0, .any, 0x0⟩ /- INST_PORT_STATE -/,
  ⟨0x4200, 0x4207, 0x21, 0x21, .octets 8, .ro, .rep 8 0, .any, 0x0⟩ /- INST_GM_ID -/,
  ⟨0x4200, 0x4207, 0x22, 0x22, .uns 1, .ro, .num 255, .any, 0x0⟩ /- INST_GM_CLASS -/,
  ⟨0x4200, 0x4207, 0x23, 0x23, .uns 1, .ro, .num 254, .any, 0x0⟩ /- INST_GM_ACCURACY -/,
  ⟨0x4200, 0x4207, 0x24, 0x24, .sgn 8, .ro, .num 0, .any, 0x0⟩ /- INST_OFFSET -/,
  ⟨0x4200, 0x4207, 0x25, 0x25, .sgn 8, .ro, .num 0, .any, 0x0⟩ /- INST_MEAN_DELAY -/,
  ⟨0x4200, 0x4207, 0x26, 0x26, .sgn 8, .ro, .num 0, .any, 0x0⟩ /- INST_RATE_RATIO -/,
  ⟨0x4200, 0x4207, 0x27, 0x27, .uns 2, .ro, .num 0, .any, 0x0⟩ /- INST_STEPS_REMOVED -/,
  ⟨0x4200, 0x4207, 0x28, 0x28, .uns 4, .ro, .num 0, .any, 0x0⟩ /- INST_ANN_TIMEOUTS -/,
  ⟨0x4200, 0x4207, 0x29, 0x29, .uns 4, .ro, .num 0, .any, 0x0⟩ /- INST_SYNC_TIMEOUTS -/,
  ⟨0x4200, 0x4207, 0x2A, 0x2A, .uns 4, .ro, .num 0, .any, 0x0⟩ /- INST_RX_DISCARD -/]

/-- Rows of the dictionary below index 0x5000, piece 1. -/
def dictBelow5000part1 : DictRows := [
  ⟨0x4200, 0x4207, 0x2B, 0x2B, .uns 4, .ro, .num 4294967295, .any, 0x0⟩ /- INST_FREE_BOUND -/,
  ⟨0x4200, 0x4207, 0x2C, 0x2C, .uns 8, .ro, .num 0, .any, 0x0⟩ /- INST_TX_SYNC -/,
  ⟨0x4200, 0x4207, 0x2D, 0x2D, .uns 8, .ro, .num 0, .mask 0xFFFFFFFFFFF, 0x0⟩ /- INST_ASCAPABLE -/,
  ⟨0x4300, 0x4300, 0x01, 0x01, .uns 4, .rwc, .num 250000, .span 100000 10000000, 0xE⟩ /- LEDGER_PERIOD -/,
  ⟨0x4300, 0x4300, 0x02, 0x02, .uns 1, .rwc, .num 1, .span 1 2, 0xE⟩ /- LEDGER_HASH -/,
  ⟨0x4300, 0x4300, 0x03, 0x03, .uns 1, .rwc, .num 1, .span 1 2, 0xE⟩ /- LEDGER_SIG -/,
  ⟨0x4300, 0x4300, 0x04, 0x04, .uns 1, .rwc, .num 255, .spanOr 0 63 255, 0xE⟩ /- LEDGER_KEY_SLOT -/,
  ⟨0x4300, 0x4300, 0x05, 0x05, .uns 4, .rwc, .num 16384, .span 1 65536, 0xE⟩ /- LEDGER_MAX_LEAVES -/,
  ⟨0x4300, 0x4300, 0x06, 0x06, .uns 1, .rwc, .num 255, .spanOr 0 43 255, 0xE⟩ /- LEDGER_ROOT_PORT -/,
  ⟨0x4300, 0x4300, 0x07, 0x07, .octets 24, .rwc, .rep 24 0, .any, 0xE⟩ /- LEDGER_ROOT_DEST -/,
  ⟨0x4300, 0x4300, 0x08, 0x08, .uns 4, .ro, .num 100000, .any, 0x0⟩ /- LEDGER_RELEASE_DELAY -/,
  ⟨0x4300, 0x4300, 0x09, 0x09, .uns 4, .ro, .num 0, .any, 0x0⟩ /- LEDGER_KEY_ID -/,
  ⟨0x4300, 0x4300, 0x0A, 0x0A, .upTo 65, .ro, .bytes [], .any, 0x0⟩ /- LEDGER_PUBKEY -/,
  ⟨0x4300, 0x4300, 0x0B, 0x0B, .uns 8, .ro, .num 0, .any, 0x0⟩ /- LEDGER_BATCH_SEQ -/,
  ⟨0x4300, 0x4300, 0x0C, 0x0C, .uns 4, .ro, .num 0, .span 0 65536, 0x0⟩ /- LEDGER_FILL_LEAVES -/,
  ⟨0x4300, 0x4300, 0x0D, 0x0D, .uns 1, .ro, .num 0, .span 0 3, 0x0⟩ /- LEDGER_SEAL_STATE -/,
  ⟨0x4300, 0x4300, 0x0E, 0x0E, .uns 4, .ro, .num 0, .span 0 65536, 0x0⟩ /- LEDGER_SLOTS_FREE -/,
  ⟨0x4300, 0x4300, 0x0F, 0x0F, .octets 96, .ro, .rep 96 0, .any, 0x0⟩ /- LEDGER_LAST_HDR -/,
  ⟨0x4300, 0x4300, 0x10, 0x10, .octets 64, .ro, .rep 64 0, .any, 0x0⟩ /- LEDGER_LAST_SIG -/,
  ⟨0x4300, 0x4300, 0x11, 0x11, .uns 8, .ro, .num 0, .any, 0x0⟩ /- LEDGER_BATCHES -/,
  ⟨0x4300, 0x4300, 0x12, 0x12, .uns 8, .ro, .num 0, .any, 0x0⟩ /- LEDGER_LEAVES -/,
  ⟨0x4300, 0x4300, 0x13, 0x13, .uns 4, .ro, .num 0, .any, 0x0⟩ /- LEDGER_FAILED -/,
  ⟨0x4300, 0x4300, 0x14, 0x14, .uns 8, .ro, .num 0, .any, 0x0⟩ /- LEDGER_FAIL_NOTICES -/,
  ⟨0x4300, 0x4300, 0x15, 0x18, .uns 4, .ro, .num 0, .any, 0x0⟩ /- LEDGER_REFUSE_BY -/,
  ⟨0x4300, 0x4300, 0x19, 0x19, .uns 4, .ro, .num 0, .any, 0x0⟩ /- LEDGER_ROOT_DROP -/,
  ⟨0x4300, 0x4300, 0x1A, 0x1A, .uns 4, .ro, .num 0, .any, 0x0⟩ /- LEDGER_SEAL_MAX -/]

/-- Rows of the dictionary below index 0x6000, piece 0. -/
def dictBelow6000part0 : DictRows := [
  ⟨0x5000, 0x5000, 0x01, 0x01, .octets 4, .ro, .rep 4 0, .any, 0x0⟩ /- SR_LANE_STATE -/,
  ⟨0x5000, 0x5000, 0x02, 0x02, .uns 1, .ro, .num 0, .span 0 4, 0x0⟩ /- SR_LANES_IN_SERVICE -/,
  ⟨0x5000, 0x5000, 0x03, 0x03, .uns 1, .ro, .num 0, .span 0 64, 0x0⟩ /- SR_QUEUE_DEPTH -/,
  ⟨0x5000, 0x5000, 0x04, 0x04, .uns 1, .ro, .num 0, .span 0 64, 0x0⟩ /- SR_QUEUE_PEAK -/,
  ⟨0x5000, 0x5000, 0x05, 0x05, .uns 8, .ro, .num 0, .any, 0x0⟩ /- SR_JOBS_DONE -/,
  ⟨0x5000, 0x5000, 0x06, 0x06, .uns 4, .ro, .num 0, .any, 0x0⟩ /- SR_REFUSED -/,
  ⟨0x5000, 0x5000, 0x07, 0x07, .uns 4, .ro, .num 0, .any, 0x0⟩ /- SR_ABORTED -/,
  ⟨0x5000, 0x5000, 0x08, 0x08, .uns 4, .ro, .num 0, .any, 0x0⟩ /- SR_SIGN_FAILS -/,
  ⟨0x5000, 0x5000, 0x09, 0x09, .uns 1, .wo, .num 0, .span 0 3, 0x0⟩ /- SR_LANE_RESTORE -/,
  ⟨0x5000, 0x5000, 0x0A, 0x0A, .octets 4, .ro, .rep 4 0, .any, 0x0⟩ /- SR_LANE_BUSY -/,
  ⟨0x5001, 0x5001, 0x01, 0x01, .octets 64, .rw, .rep 64 0x40, .any, 0x0⟩ /- SR_SLOT_LAYOUT -/,
  ⟨0x5010, 0x5010, 0x01, 0x01, .octets 16, .wo, .rep 16 0, .any, 0x0⟩ /- SR_JOB_SUBMIT -/,
  ⟨0x5010, 0x5010, 0x02, 0x02, .uns 1, .ro, .num 0, .span 0 6, 0x0⟩ /- SR_JOB_STATE -/,
  ⟨0x5010, 0x5010, 0x03, 0x03, .uns 1, .ro, .num 0, .span 0 10, 0x0⟩ /- SR_JOB_RESULT -/,
  ⟨0x5010, 0x5010, 0x04, 0x04, .uns 4, .ro, .num 0, .any, 0x0⟩ /- SR_JOB_TAG -/,
  ⟨0x5010, 0x5010, 0x05, 0x05, .uns 1, .ro, .num 255, .spanOr 0 3 255, 0x0⟩ /- SR_JOB_LANE -/,
  ⟨0x5010, 0x5010, 0x06, 0x06, .uns 4, .ro, .num 0, .any, 0x0⟩ /- SR_JOB_TIME -/,
  ⟨0x5010, 0x5010, 0x07, 0x07, .uns 1, .wo, .num 0, .span 1 1, 0x0⟩ /- SR_JOB_ABORT -/,
  ⟨0x5040, 0x507F, 0x01, 0x01, .upTo 1024, .rw, .rep 1024 0, .any, 0x0⟩ /- SR_SLOT_DATA -/,
  ⟨0x5100, 0x5100, 0x01, 0x01, .uns 1, .ro, .num 0, .span 0 2, 0x0⟩ /- KH_LIFECYCLE -/,
  ⟨0x5100, 0x5100, 0x02, 0x02, .uns 1, .wo, .num 0, .span 1 1, 0x0⟩ /- KH_PROVISION -/,
  ⟨0x5100, 0x5100, 0x03, 0x03, .uns 1, .wo, .num 0, .span 1 1, 0x0⟩ /- KH_PROV_COMMIT -/,
  ⟨0x5100, 0x5100, 0x04, 0x04, .octets 97, .ro, .rep 97 0, .any, 0x0⟩ /- KH_DIK_PUB -/,
  ⟨0x5100, 0x5100, 0x05, 0x05, .octets 97, .ro, .rep 97 0, .any, 0x0⟩ /- KH_OWNER_PUB -/,
  ⟨0x5100, 0x5100, 0x06, 0x06, .octets 97, .wo, .rep 97 0, .any, 0x0⟩ /- KH_OWNER_PUB_SET -/,
  ⟨0x5100, 0x5100, 0x07, 0x07, .octets 137, .wo, .rep 137 0, .any, 0x0⟩ /- KH_OWNER_KEY_SET -/,
  ⟨0x5100, 0x5100, 0x08, 0x08, .octets 193, .rws, .rep 193 0, .any, 0x0⟩ /- KH_OWNER_XFER -/,
  ⟨0x5100, 0x5100, 0x09, 0x09, .uns 1, .ro, .num 0, .span 0 2, 0x0⟩ /- KH_ENTROPY_STATE -/,
  ⟨0x5100, 0x5100, 0x0A, 0x0A, .uns 4, .ro, .num 0, .any, 0x0⟩ /- KH_ENTROPY_FAILS -/,
  ⟨0x5100, 0x5100, 0x0B, 0x0B, .uns 4, .ro, .num 0, .any, 0x0⟩ /- KH_RESEEDS -/,
  ⟨0x5100, 0x5100, 0x0C, 0x0C, .uns 4, .ro, .num 0, .any, 0x0⟩ /- KH_KEYSTORE_GEN -/,
  ⟨0x5100, 0x5100, 0x0D, 0x0D, .octets 4, .rws, .rep 4 0, .any, 0x0⟩ /- KH_KEYGEN -/,
  ⟨0x5100, 0x5100, 0x0E, 0x0E, .uns 1, .rws, .num 255, .span 0 59, 0x0⟩ /- KH_KEY_DESTROY -/,
  ⟨0x5100, 0x5100, 0x0F, 0x0F, .uns 4, .rws, .num 86400, .span 3600 2592000, 0x0⟩ /- KH_NTS_ROTATE_PERIOD -/,
  ⟨0x5100, 0x5100, 0x10, 0x10, .uns 1, .rws, .num 0, .span 1 1, 0x0⟩ /- KH_NTS_ROTATE -/,
  ⟨0x5100, 0x5100, 0x11, 0x11, .octets 8, .ro, .rep 8 0, .any, 0x0⟩ /- KH_BOOT_STATUS -/,
  ⟨0x5100, 0x5100, 0x12, 0x12, .octets 48, .ro, .rep 48 0, .any, 0x0⟩ /- KH_FW_HASH -/,
  ⟨0x5100, 0x5100, 0x13, 0x13, .bool, .ro, .num 0, .any, 0x0⟩ /- KH_OWNER_COSIGN -/,
  ⟨0x5100, 0x5100, 0x14, 0x14, .uns 1, .rws, .num 0, .span 1 1, 0x0⟩ /- KH_COSIGN_ENABLE -/,
  ⟨0x5100, 0x5100, 0x15, 0x15, .uns 1, .rws, .num 0, .span 1 1, 0x0⟩ /- KH_ROLLBACK_COMMIT -/]

/-- Rows of the dictionary below index 0x6000, piece 1. -/
def dictBelow6000part1 : DictRows := [
  ⟨0x5100, 0x5100, 0x16, 0x16, .octets 33, .rw, .rep 33 0, .any, 0x0⟩ /- KH_ATTEST_REQ -/,
  ⟨0x5100, 0x5100, 0x17, 0x17, .uns 1, .ro, .num 0, .span 0 3, 0x0⟩ /- KH_ATTEST_STATE -/,
  ⟨0x5100, 0x5100, 0x18, 0x18, .octets 400, .ro, .rep 400 0, .any, 0x0⟩ /- KH_ATTEST_REPORT -/,
  ⟨0x5100, 0x5100, 0x19, 0x19, .uns 4, .ro, .num 0, .mask 0x1F, 0x0⟩ /- KH_TAMPER -/,
  ⟨0x5100, 0x5100, 0x1A, 0x1A, .uns 1, .rws, .num 3, .mask 0xF, 0x0⟩ /- KH_TAMPER_CFG -/,
  ⟨0x5100, 0x5100, 0x1B, 0x1B, .uns 1, .rws, .num 0, .span 1 1, 0x0⟩ /- KH_TAMPER_CLEAR -/,
  ⟨0x5140, 0x517F, 0x01, 0x01, .uns 1, .ro, .num 0, .span 0 4, 0x0⟩ /- KS_STATE -/,
  ⟨0x5140, 0x517F, 0x02, 0x02, .uns 1, .ro, .num 0, .span 0 5, 0x0⟩ /- KS_TYPE -/,
  ⟨0x5140, 0x517F, 0x03, 0x03, .uns 1, .ro, .num 0, .span 0 5, 0x0⟩ /- KS_USE -/,
  ⟨0x5140, 0x517F, 0x04, 0x04, .uns 4, .ro, .num 0, .any, 0x0⟩ /- KS_KEY_ID -/,
  ⟨0x5140, 0x517F, 0x05, 0x05, .upTo 97, .ro, .bytes [], .any, 0x0⟩ /- KS_PUB -/]

/-- Rows of the dictionary below index 0x7000, piece 0. -/
def dictBelow7000part0 : DictRows := [
  ⟨0x6000, 0x6000, 0x01, 0x01, .uns 4, .ro, .num 0, .any, 0x0⟩ /- ATTIC_HEAD -/,
  ⟨0x6000, 0x6000, 0x02, 0x02, .uns 4, .ro, .num 0, .any, 0x0⟩ /- ATTIC_TAIL -/,
  ⟨0x6000, 0x6000, 0x03, 0x03, .uns 1, .wo, .num 0, .span 1 1, 0x0⟩ /- ATTIC_SNAP -/,
  ⟨0x6000, 0x6000, 0x04, 0x04, .uns 4, .ro, .num 0, .any, 0x0⟩ /- ATTIC_SNAP_HEAD -/,
  ⟨0x6000, 0x6000, 0x05, 0x05, .uns 4, .ro, .num 0, .any, 0x0⟩ /- ATTIC_SNAP_TAIL -/,
  ⟨0x6000, 0x6000, 0x06, 0x06, .time96, .ro, .num 0, .any, 0x0⟩ /- ATTIC_SNAP_TIME -/,
  ⟨0x6000, 0x6000, 0x07, 0x07, .uns 4, .rw, .num 0, .span 0 4294967294, 0x0⟩ /- ATTIC_CURSOR -/,
  ⟨0x6000, 0x6000, 0x08, 0x08, .upTo 512, .ro, .bytes [], .any, 0x0⟩ /- ATTIC_WINDOW -/,
  ⟨0x6000, 0x6000, 0x09, 0x09, .uns 2, .ro, .num 0, .span 0 1024, 0x0⟩ /- ATTIC_PENDING -/,
  ⟨0x6000, 0x6000, 0x0A, 0x0A, .uns 4, .ro, .num 0, .any, 0x0⟩ /- ATTIC_LOST -/,
  ⟨0x6000, 0x6000, 0x0B, 0x0B, .octets 16, .ro, .rep 16 0, .any, 0x0⟩ /- ATTIC_CLEAR_NONCE -/,
  ⟨0x6000, 0x6000, 0x0C, 0x0C, .octets 116, .rws, .rep 116 0, .any, 0x0⟩ /- ATTIC_CLEAR -/,
  ⟨0x6000, 0x6000, 0x0D, 0x0D, .uns 1, .ro, .num 0, .span 0 1, 0x0⟩ /- ATTIC_CLEAR_STATE -/,
  ⟨0x6000, 0x6000, 0x0E, 0x0E, .uns 1, .ro, .num 0, .span 0 2, 0x0⟩ /- ATTIC_FLASH_STATE -/,
  ⟨0x6000, 0x6000, 0x0F, 0x0F, .uns 2, .ro, .num 0, .span 0 256, 0x0⟩ /- ATTIC_BAD_SECTORS -/,
  ⟨0x6001, 0x6001, 0x01, 0x01, .octets 4096, .ro, .rep 4096 0, .any, 0x0⟩ /- ATTIC_RETAINED -/,
  ⟨0x6100, 0x6100, 0x01, 0x01, .uns 1, .rw, .num 0, .mask 0xFF, 0x0⟩ /- DB_IRQ_MASK -/,
  ⟨0x6100, 0x6100, 0x02, 0x02, .uns 1, .ro, .num 0, .mask 0xFF, 0x0⟩ /- DB_IRQ_PEND -/,
  ⟨0x6100, 0x6100, 0x03, 0x03, .uns 4, .ro, .num 0, .any, 0x0⟩ /- DB_NOTICE_DROP -/,
  ⟨0x6110, 0x611F, 0x01, 0x01, .uns 1, .ro, .num 0, .span 0 8, 0x0⟩ /- MB_LEVEL_IN -/,
  ⟨0x6110, 0x611F, 0x02, 0x02, .uns 1, .ro, .num 0, .span 0 8, 0x0⟩ /- MB_LEVEL_OUT -/,
  ⟨0x6118, 0x611F, 0x03, 0x03, .upTo 64, .wo, .rep 64 0, .span 4 64, 0x0⟩ /- MB_SEND -/,
  ⟨0x6118, 0x611F, 0x04, 0x04, .upTo 64, .ro, .bytes [], .any, 0x0⟩ /- MB_RECV -/,
  ⟨0x6110, 0x611F, 0x05, 0x05, .uns 4, .ro, .num 0, .any, 0x0⟩ /- MB_REFUSED -/,
  ⟨0x6110, 0x611F, 0x06, 0x06, .uns 1, .ro, .num 0, .any, 0x0⟩ /- MB_ENDPOINTS -/,
  ⟨0x6200, 0x6200, 0x01, 0x01, .octets 4, .ro, .rep 4 0, .any, 0x0⟩ /- STUDY_CORE_STATE -/,
  ⟨0x6200, 0x6200, 0x02, 0x02, .uns 2, .rw, .num 100, .span 10 10000, 0x0⟩ /- STUDY_WDT_PERIOD -/,
  ⟨0x6200, 0x6200, 0x03, 0x03, .octets 16, .ro, .rep 16 0, .any, 0x0⟩ /- STUDY_WDT_RESETS -/,
  ⟨0x6200, 0x6200, 0x04, 0x04, .uns 1, .ro, .num 0, .span 0 1, 0x0⟩ /- STUDY_ACTIVE_LOC -/,
  ⟨0x6200, 0x6200, 0x05, 0x05, .uns 1, .rws, .num 0, .span 0 1, 0x0⟩ /- STUDY_NEXT_LOC -/,
  ⟨0x6200, 0x6200, 0x06, 0x06, .uns 1, .ro, .num 0, .span 0 2, 0x0⟩ /- STUDY_STAGE_STATE -/,
  ⟨0x6200, 0x6200, 0x07, 0x07, .uns 1, .ro, .num 0, .span 0 5, 0x0⟩ /- STUDY_STAGE_RESULT -/,
  ⟨0x6200, 0x6200, 0x08, 0x08, .octets 16, .ro, .rep 16 0, .any, 0x0⟩ /- STUDY_LOC_INFO -/,
  ⟨0x6201, 0x6201, 0x00, 0x00, .upTo 8388864, .rws, .bytes [], .span 257 8388864, 0x0⟩ /- STUDY_FW_IMAGE -/]

/-- Rows of the dictionary below index 0x10000, piece 0. -/
def dictTopPart0 : DictRows := [
  ⟨0x7000, 0x7000, 0x01, 0x01, .uns 2, .rwc, .num 100, .spanOr 10 10000 0, 0x10⟩ /- HAP_HB_PERIOD -/,
  ⟨0x7000, 0x7000, 0x02, 0x02, .uns 2, .rwc, .num 100, .span 10 10000, 0x10⟩ /- HAP_XFER_TIMEOUT -/,
  ⟨0x7000, 0x7000, 0x03, 0x03, .uns 8, .rwc, .num 17592186044415, .mask 0xFFFFFFFFFFF, 0x10⟩ /- HAP_UDP_PORT_MASK -/,
  ⟨0x7000, 0x7000, 0x04, 0x04, .uns 1, .rwc, .num 15, .mask 0xF, 0x10⟩ /- HAP_CAN_MASK -/,
  ⟨0x7000, 0x7000, 0x05, 0x05, .uns 2, .rwc, .num 1696, .span 0 2047, 0x10⟩ /- HAP_CAN_REQ_ID -/,
  ⟨0x7000, 0x7000, 0x06, 0x06, .uns 2, .rwc, .num 1697, .span 0 2047, 0x10⟩ /- HAP_CAN_RSP_ID -/,
  ⟨0x7000, 0x7000, 0x07, 0x07, .uns 2, .rwc, .num 1698, .span 0 2047, 0x10⟩ /- HAP_CAN_HB_ID -/,
  ⟨0x7000, 0x7000, 0x08, 0x08, .uns 1, .rws, .num 0, .span 0 1, 0x0⟩ /- HAP_LOCK_POLICY -/,
  ⟨0x7000, 0x7000, 0x09, 0x09, .uns 4, .ro, .num 0, .any, 0x0⟩ /- HAP_RX_DISCARDS -/,
  ⟨0x7010, 0x7010, 0x01, 0x01, .octets 24, .wo, .rep 24 0, .any, 0x0⟩ /- COMMIT_REQUEST -/,
  ⟨0x7010, 0x7010, 0x02, 0x02, .uns 2, .ro, .num 0, .any, 0x0⟩ /- COMMIT_LAST_STATUS -/,
  ⟨0x7010, 0x7010, 0x03, 0x03, .uns 4, .ro, .num 0, .any, 0x0⟩ /- COMMIT_CONFLICT_OBJ -/,
  ⟨0x7010, 0x7010, 0x04, 0x04, .uns 4, .wo, .num 0, .mask 0x1FFFE, 0x0⟩ /- COMMIT_DISCARD -/,
  ⟨0x7010, 0x7010, 0x05, 0x05, .uns 1, .wo, .num 0, .span 0 15, 0x0⟩ /- COMMIT_CANCEL -/,
  ⟨0x7011, 0x7011, 0x01, 0x10, .uns 8, .ro, .num 0, .any, 0x0⟩ /- COMMIT_UNIT_MASK -/,
  ⟨0x7020, 0x7020, 0x01, 0x01, .uns 1, .rws, .num 0, .span 1 1, 0x0⟩ /- CFG_SAVE -/,
  ⟨0x7020, 0x7020, 0x02, 0x02, .uns 1, .rws, .num 0, .span 1 1, 0x0⟩ /- CFG_ERASE -/,
  ⟨0x7020, 0x7020, 0x03, 0x03, .uns 1, .ro, .num 0, .span 0 6, 0x0⟩ /- CFG_STATE -/,
  ⟨0x7020, 0x7020, 0x04, 0x04, .uns 4, .ro, .num 0, .any, 0x0⟩ /- CFG_GEN -/,
  ⟨0x7020, 0x7020, 0x05, 0x05, .time96, .ro, .num 0, .any, 0x0⟩ /- CFG_SAVED_AT -/]

/-- The region of the dictionary that can hold an index. -/
def dictRows (idx : Nat) : DictRows :=
  if idx < 0x2000 then dictBelow2000part0 else
  if idx < 0x2100 then dictBelow2100part0 ++ dictBelow2100part1 else
  if idx < 0x2200 then dictBelow2200part0 else
  if idx < 0x2300 then dictBelow2300part0 ++ dictBelow2300part1 else
  if idx < 0x2400 then dictBelow2400part0 ++ dictBelow2400part1 else
  if idx < 0x2500 then dictBelow2500part0 else
  if idx < 0x3000 then dictBelow3000part0 ++ dictBelow3000part1 else
  if idx < 0x3400 then dictBelow3400part0 ++ dictBelow3400part1 else
  if idx < 0x4000 then dictBelow4000part0 else
  if idx < 0x4200 then dictBelow4200part0 ++ dictBelow4200part1 else
  if idx < 0x5000 then dictBelow5000part0 ++ dictBelow5000part1 else
  if idx < 0x6000 then dictBelow6000part0 ++ dictBelow6000part1 else
  if idx < 0x7000 then dictBelow7000part0 else
  dictTopPart0

/-- The whole dictionary. -/
def dictAll : DictRows :=
  dictBelow2000part0 ++
  dictBelow2100part0 ++ dictBelow2100part1 ++
  dictBelow2200part0 ++
  dictBelow2300part0 ++ dictBelow2300part1 ++
  dictBelow2400part0 ++ dictBelow2400part1 ++
  dictBelow2500part0 ++
  dictBelow3000part0 ++ dictBelow3000part1 ++
  dictBelow3400part0 ++ dictBelow3400part1 ++
  dictBelow4000part0 ++
  dictBelow4200part0 ++ dictBelow4200part1 ++
  dictBelow5000part0 ++ dictBelow5000part1 ++
  dictBelow6000part0 ++ dictBelow6000part1 ++
  dictBelow7000part0 ++
  dictTopPart0

/-- R576: the row of an index and sub, if the dictionary holds it. -/
def dictFind (idx sub : Nat) : Option ObjRow :=
  (dictRows idx).find? (fun r => r.lo ≤ idx && idx ≤ r.hi && r.subLo ≤ sub && sub ≤ r.subHi)

/-- R576: does the dictionary hold the index at all. -/
def dictHasIndex (idx : Nat) : Bool :=
  (dictRows idx).any (fun r => r.lo ≤ idx && idx ≤ r.hi)

end Sys2Proof.Machine
end

