-- ==== Sys2Proof/Machine/Ops.lean ====
section
/-! DEFINITION. The named operations every meaning is written in: reading and writing live and staged object values, counters,
the clocks and the passing of time, the time state, event reports and what leaves the part. -/

namespace Sys2Proof.Machine

/-! ## Stores -/

/-- The value a store lists for a key. -/
def Store.find (k : Nat) : Store → Option Val
  | [] => none
  | (j, v) :: t => if j = k then some v else Store.find k t

/-- A store with a key listed at a value. -/
def Store.put (k : Nat) (v : Val) : Store → Store
  | [] => [(k, v)]
  | (j, w) :: t =>
    if k < j then (k, v) :: (j, w) :: t else if j = k then (k, v) :: t else (j, w) :: Store.put k v t

/-- A store with a key unlisted. -/
def Store.del (k : Nat) (st : Store) : Store := st.filter (fun e => e.1 ≠ k)

/-- PORCH_MAC_BASE with n added to its low 24 bits (Table 10-11). -/
def macOf (n : Nat) : Bytes :=
  toBE 3 (Config.macBase / 2 ^ 24 % 2 ^ 24) ++ toBE 3 ((Config.macBase + n) % 2 ^ 24)

/-- R392: the clockIdentity of PTn. -/
def clockIdOf (n : Nat) : Bytes :=
  toBE 3 (Config.macBase / 2 ^ 24 % 2 ^ 24) ++ ofNats [0xFF, 0xFE] ++ toBE 3 ((Config.macBase + 0x40 + n) % 2 ^ 24)

/-- The value of a default column (R10). -/
def Dflt.val (u : Nat) : Dflt → Val
  | .num v => .num v
  | .unit => .num u
  | .rep n b => .oct (List.replicate n (byte b))
  | .bytes bs => .oct (ofNats bs)
  | .mac => .oct (macOf u)
  | .clockId => .oct (clockIdOf u)

/-- The dictionary row of a key (R576). -/
def rowOf (k : Nat) : Option ObjRow := dictFind (k / 256) (k % 256)

/-- The default of a key. -/
def dictDefault (k : Nat) : Val :=
  match rowOf k with
  | some r => r.dflt.val (k / 256 - r.lo)
  | none => .num 0

/-- A store in which a key reads v: listed unless v is what the key reads as when unlisted. -/
def Store.set (base : Val) (k : Nat) (v : Val) (st : Store) : Store :=
  if v = base then st.del k else st.put k v

/-! ## Live values -/

/-- The live value of an object. -/
def Device.val (d : Device) (k : Nat) : Val := (Store.find k d.obj).getD (dictDefault k)

/-- A value as a number; a byte string reads 0. -/
def Val.int : Val → Int
  | .num v => v
  | .oct _ => 0

/-- A value as a byte string; a number reads empty. -/
def Val.bytes : Val → Bytes
  | .num _ => []
  | .oct b => b

/-- The live value of an object, as a number. -/
def Device.num (d : Device) (k : Nat) : Int := (d.val k).int

/-- The live value of an object, as a natural number. -/
def Device.nat (d : Device) (k : Nat) : Nat := (d.num k).toNat

/-- The live value of an object, as a byte string. -/
def Device.oct (d : Device) (k : Nat) : Bytes := (d.val k).bytes

/-- The part with an object at a live value. -/
def Device.setVal (d : Device) (k : Nat) (v : Val) : Device :=
  { d with obj := Store.set (dictDefault k) k v d.obj, lost := d.lost.filter (· ≠ k) }

/-- The part with an object at a number. -/
def Device.setNum (d : Device) (k : Nat) (v : Int) : Device := d.setVal k (.num v)

/-- The part with an object at a byte string. -/
def Device.setOct (d : Device) (k : Nat) (b : Bytes) : Device := d.setVal k (.oct b)

/-- The part with several objects set, in order. -/
def Device.setNums (d : Device) : List (Nat × Int) → Device
  | [] => d
  | (k, v) :: t => (d.setNum k v).setNums t

/-- A counter of `w` bytes raised by n; past its top it reads a free value (the spec states no such result). -/
def Device.bumpBy (d : Device) (w k n : Nat) : Device :=
  d.setNum k (if d.nat k + n < 256 ^ w then (d.nat k + n : Nat) else (Config.counterOver k n % 256 ^ w : Nat))

/-- A U32 counter raised by 1. -/
def Device.bump (d : Device) (k : Nat) : Device := d.bumpBy 4 k 1

/-- A U64 counter raised by 1. -/
def Device.bump64 (d : Device) (k : Nat) : Device := d.bumpBy 8 k 1

/-! ## Staged values -/

/-- The staged value of an object: its live value unless a write staged another. -/
def Device.stagedVal (d : Device) (k : Nat) : Val := (Store.find k d.staged).getD (d.val k)

/-- The part with an object staged at a value. -/
def Device.setStaged (d : Device) (k : Nat) (v : Val) : Device :=
  { d with staged := Store.set (d.val k) k v d.staged }

/-- R580: the commit group of a key, 0 for none. -/
def groupOf (k : Nat) : Nat :=
  match rowOf k with
  | some r => r.grp
  | none => 0

/-- R580: the first index of a group whose units are told by the index; 0 for a group of one unit. -/
def groupBase : Nat → Nat
  | 0x01 => 0x2110
  | 0x04 => 0x2410
  | 0x06 => 0x2540
  | 0x07 => 0x3000
  | 0x08 => 0x3000
  | 0x09 => 0x3000
  | 0x0B => 0x3500
  | 0x0D => 0x4200
  | _ => 0

/-- R580: the unit of a group that a key belongs to. -/
def unitOf (g k : Nat) : Nat := if groupBase g = 0 then 0 else k / 256 - groupBase g

/-- Table 2-11: how many units a group has. -/
def groupUnits : Nat → Nat
  | 0x01 => 4
  | 0x04 => 24
  | 0x06 => 16
  | 0x07 => 44
  | 0x08 => 44
  | 0x09 => 44
  | 0x0B => 44
  | 0x0D => 8
  | _ => 1

/-- R67, Table 2-11: is a group time-affecting. -/
def groupTimed (g : Nat) : Bool := g = 0x05 || g = 0x06 || g = 0x07 || g = 0x0B || g = 0x0D

/-- R69: an object as a commit of `groups` sees it: staged in the selected groups, live in all others. -/
def Device.view (d : Device) (groups k : Nat) : Val :=
  if bit groups (groupOf k) then d.stagedVal k else d.val k

/-- R69: the viewed value as a number. -/
def Device.viewNum (d : Device) (groups k : Nat) : Int := (d.view groups k).int

/-- R69: the viewed value as a natural number. -/
def Device.viewNat (d : Device) (groups k : Nat) : Nat := (d.viewNum groups k).toNat

/-- R69: the viewed value as a byte string. -/
def Device.viewOct (d : Device) (groups k : Nat) : Bytes := (d.view groups k).bytes

/-! ## Time -/

/-- One ns in MT's unit of 1/(5 * 2^48) ns. -/
def nsU : Nat := 5 * 2 ^ 48

/-- One second in MT's unit. -/
def secU : Nat := 1000000000 * nsU

/-- One TIME96 fraction step of 2^-16 ns in MT's unit. -/
def fracU : Nat := 5 * 2 ^ 32

/-- R75: the nominal increment of one CK_TIME tick (0.8 ns) in MT's unit. -/
def tickU : Nat := 4 * 2 ^ 48

/-- CK_TIME ticks in 1 us, 1 ms and 1 s. -/
def usTicks : Nat := 1250
/-- CK_TIME ticks in 1 ms. -/
def msTicks : Nat := 1250000
/-- CK_TIME ticks in 1 s. -/
def sTicks : Nat := 1250000000

/-- One second in units of 2^-16 ns. -/
def sec16 : Nat := 1000000000 * 65536

/-- R76: MT as a TIME96 reading in units of 2^-16 ns, truncated. -/
def Device.mt16 (d : Device) : Nat := d.clock.mt / fracU

/-- MT in whole ns. -/
def Device.mtNs (d : Device) : Nat := d.clock.mt / nsU

/-- R105: STAMP32 at this tick. -/
def Device.stamp32 (d : Device) : Nat := d.mtNs % 2 ^ 32

/-- R83: the magnitude of A for a slope limit of S ns/s: the largest integer that does not exceed S * 0.8e-9 * 2^48. -/
def slopeA (s : Nat) : Nat := s * 8 * 2 ^ 48 / 10000000000

/-- R83: the magnitude of A under the slope limit in force. -/
def Device.aMax (d : Device) : Nat := slopeA (d.nat K.thermSlope)

/-- The sign of an integer times a magnitude. -/
def signed (s : Int) (m : Nat) : Int := if 0 < s then m else if s < 0 then -m else 0

/-- R83: what n ticks apply of a remainder r when each applies at most a. -/
def pullOver (r : Int) (a n : Nat) : Int := signed r (min r.natAbs (n * a))

/-- R75, R83: A at this tick. -/
def Device.rateAdj (d : Device) : Int := signed d.clock.pull (min d.clock.pull.natAbs d.aMax)

/-- R75, R83: what MT gains over n ticks, in MT's unit. -/
def Device.mtGain (d : Device) (n : Nat) : Nat :=
  (n * tickU + 5 * pullOver d.clock.pull d.aMax n).toNat

/-- R101: Dn's rate factor, 2^48 + DOM_RATE. -/
def Device.domFactor (d : Device) (n : Nat) : Int := 2 ^ 48 + d.num (K.domRate n)

/-- R101, R102, R410: a domain after MT gained g over n ticks: MT's increment at its rate, its own pull, its servo. -/
def Device.domAfter (d : Device) (g n u : Nat) (x : Int) : Int :=
  x + g * d.domFactor u + 5 * 2 ^ 48 * pullOver (d.clock.domPull.getD u 0) d.aMax n
    + n * d.clock.servo.getD u 0

/-- What one CK_TIME tick adds to the Cellar crystal's phase, in 1/(1.25 * 10^18) of a crystal period;
the crystal's true rate is a free value. -/
def xtalTick : Nat := (32768 * (1000000000 + Config.xtalPpb)).toNat

/-- One crystal period in that unit. -/
def xtalU : Nat := 1250000000000000000

/-- How many ticks MT needs to reach a target in its unit (R83's three phases of a pull); 0 if it has reached it. -/
def Device.ticksToMt (d : Device) (target : Nat) : Nat :=
  if target ≤ d.clock.mt then 0 else
  let gap := target - d.clock.mt
  let a := d.aMax
  let r := d.clock.pull
  if r = 0 || a = 0 then ceilDiv gap tickU else
  let n1 := r.natAbs / a
  let p1 := ((tickU : Int) + 5 * signed r a).toNat
  if gap ≤ n1 * p1 then ceilDiv gap p1 else
  let gap2 := gap - n1 * p1
  let p2 := ((tickU : Int) + 5 * signed r (r.natAbs % a)).toNat
  if gap2 ≤ p2 then n1 + 1 else n1 + 1 + ceilDiv (gap2 - p2) tickU

/-- Marks after n ticks (R245): an MT instant that is reached gets the tick on which it is and the pulls so far then. -/
def Device.marksAfter (d : Device) (n : Nat) : List (Nat × Option (Nat × Int)) :=
  d.clock.marks.map (fun m =>
    if m.2.isNone && m.1 ≤ d.clock.mt + d.mtGain n then
      (m.1, some (d.clock.ticks + d.ticksToMt m.1, d.clock.pulled + pullOver d.clock.pull d.aMax (d.ticksToMt m.1)))
    else m)

/-- R75, R83, R101, R102, R538: n CK_TIME ticks pass: MT and the domains advance while MT runs, the Cellar's crystal always. -/
def Device.elapse (d : Device) (n : Nat) : Device :=
  let c := d.clock
  let c' := if c.mtRun then
      { c with
        mt := c.mt + d.mtGain n
        pull := c.pull - pullOver c.pull d.aMax n
        pulled := c.pulled + pullOver c.pull d.aMax n
        dom := c.dom.mapIdx (fun u x => d.domAfter (d.mtGain n) n u x)
        domPull := c.domPull.map (fun r => r - pullOver r d.aMax n)
        marks := d.marksAfter n }
    else c
  { d with clock := { c' with ticks := c.ticks + n, dco := c.dco + n * d.num K.hearthDco, xtal := c.xtal + n * xtalTick } }

/-- Time runs until a tick; nothing if it has passed. -/
def Device.runTo (d : Device) (t : Nat) : Device := d.elapse (t - d.clock.ticks)

/-- Time runs until the tick on which MT reaches a target in its unit. -/
def Device.runToMt (d : Device) (target : Nat) : Device := d.elapse (d.ticksToMt target)

/-- R538: CELLAR_COUNT. -/
def Device.cellarCount (d : Device) : Nat := d.clock.xtal / xtalU

/-- R550: the time since the last snapshot by the Cellar's counter, in 2^-16 ns. -/
def Device.sinceSnap (d : Device) : Nat :=
  ((d.cellarCount - d.cellar.snapCount : Nat) * (sec16 * 1000000000 : Nat)
    / (32768 * (1000000000 + d.cellar.snapPpb))).toNat

/-- R550: the estimate's uncertainty in ns. -/
def Device.seedUnc (d : Device) : Nat :=
  d.nat K.cellarSnapUnc + d.sinceSnap * d.nat K.cellarSeedPpm / (65536 * 1000000) + 2000

/-- R550: is the estimate a valid seed. -/
def Device.seedValid (d : Device) : Bool :=
  d.cellar.snapHeld && !d.cellar.tamperSince && d.seedUnc ≤ d.nat K.cellarSeedMax

/-- R502, R550: the time of an event, in 2^-16 ns: MT while it runs, the Cellar's estimate otherwise, 0 if that is not valid. -/
def Device.eventTime (d : Device) : Nat :=
  if d.clock.mtRun then d.mt16
  else if d.seedValid then d.nat K.cellarSnapTime + d.sinceSnap else 0

/-! ## Reports and outputs -/

/-- R504: the CK_FAB tick, every second tick from the handover, on which what comes about at a tick arrives at the Attic. -/
def Device.fabAt (d : Device) (tick : Nat) : Nat := ceilDiv (tick - d.clock.handover.getD 0) 2

/-- R504: a subsystem reports an event with its parameters. -/
def Device.report (d : Device) (code : Nat) (p : List Int) : Device :=
  { d with attic := { d.attic with reports := d.attic.reports ++
      [{ code := code, source := d.foyer.cause, time := d.eventTime, tick := d.fabAt d.clock.ticks, mtRun := d.clock.mtRun,
         tstate := d.nat K.mtState, p := p }] } }

/-- An event that came about at an earlier tick, reported now. -/
def Device.reportAt (d : Device) (tick code : Nat) (p : List Int) : Device :=
  let late : Nat := (d.clock.ticks - tick) * tickU / fracU
  { d with attic := { d.attic with reports := d.attic.reports ++
      [{ code := code, source := d.foyer.cause, time := d.eventTime - late, tick := d.fabAt (min tick d.clock.ticks), mtRun := d.clock.mtRun,
         tstate := d.nat K.mtState, p := p }] } }

/-- R502: a change whose events name the HAP transport `src` as SOURCE. -/
def Device.causedBy (d : Device) (src : Nat) (f : Device → Device) : Device :=
  let d1 := f { d with foyer := { d.foyer with cause := src } }
  { d1 with foyer := { d1.foyer with cause := d.foyer.cause } }

/-- An event that is recorded at its first occurrence and again only after 1 s without one; `key` tells occurrences of a kind. -/
def Device.reportOnce (d : Device) (key code : Nat) (p : List Int) : Device :=
  let seen := d.attic.lastSeen.find? (fun e => e.1 = key)
  let d' := { d with attic := { d.attic with
      lastSeen := (key, d.clock.ticks) :: d.attic.lastSeen.filter (fun e => e.1 ≠ key) } }
  match seen with
  | some e => if e.2 + sTicks ≤ d.clock.ticks then d'.report code p else d'
  | none => d'.report code p

/-- R30, R545: a Pantry memory error is counted, and recorded at the first of its kind in a bank and again only after 1 s without one. -/
def Device.memError (d : Device) (e : MemErr) : Device :=
  let c := d.power.memErrs
  let c' := if e.fatal then (c.1, c.2 + 1) else (c.1 + 1, c.2)
  ({ d with power := { d.power with memErrs := c' } } : Device).reportOnce (0x0208 * 65536 + e.bank * 2 + if e.fatal then 1 else 0) 0x0208
    [if e.fatal then 2 else 1, e.bank, if e.fatal then c'.2 else c'.1]

/-- R30: the memory error that an access meets, if any. -/
def Device.meetError (d : Device) (e : Option MemErr) : Device := (e.map d.memError).getD d

/-- R30: is it uncorrectable. -/
def fatalErr (e : Option MemErr) : Bool := e.any (·.fatal)

/-- The part puts something on a pin or a link. -/
def Device.emit (d : Device) (o : Output) : Device := { d with outbox := d.outbox ++ [o] }

/-! ## Free values -/

/-- R46, R53, R468: n bytes from the Keyhole DRBG, in one request. -/
def Device.drawBytes (d : Device) (n : Nat) : Bytes × Device :=
  ((List.range n).map (fun i => Config.drbgByte (d.draws + i)),
    { d with draws := d.draws + n, keyhole := { d.keyhole with requests := d.keyhole.requests + 1 } })

/-- R489, R553: is Study core c in RUN: the image is accepted, the root has locked since the reset, and the core is not stopped. -/
def Device.coreRuns (d : Device) (c : Nat) : Bool := d.power.imageAt.isSome && d.clock.mtRun && fieldNat (d.oct K.studyCoreState) c 1 = 0

/-- R523: is the part in Doze, Park or Deep Off. -/
def Device.asleep (d : Device) : Bool := 2 ≤ d.nat K.fbState

/-! ## The time state (R79 to R81) -/

/-- R79, R81: MT takes a time state at this tick; a change is timed and recorded, and the first entry to T3 is kept. -/
def Device.setTimeState (d : Device) (t : Nat) : Device :=
  if d.nat K.mtState = t then d else
  let d2 := ((d.setNum K.mtState t).setNum K.mtStateSince d.mt16).report 0x0701 [d.num K.mtState, t]
  if t = 3 then d2.setNum K.mtEverLocked 1 else d2

/-- R81: has MT been in T3 since it restarted. -/
def Device.everLocked (d : Device) : Bool := d.num K.mtEverLocked = 1

end Sys2Proof.Machine
end

