-- ==== Sys2Proof/Machine/Operands.lean ====
section
/-! DEFINITION. The operand forms of the commands: how object values stand on the wire, which lengths a type admits and what a
range holds (02_management_access.md). -/

namespace Sys2Proof.Machine

/-! ## Values on the wire (R37, R42) -/

/-- R14: is the nanoseconds field of a 12-byte TIME96 above 999,999,999. -/
def time96Bad (b : Bytes) : Bool := 999999999 < fieldNat b 6 4

/-- Table 0-4: a 12-byte TIME96 in 2^-16 ns. -/
def time96Of (b : Bytes) : Nat := fieldNat b 0 6 * sec16 + fieldNat b 6 4 * 65536 + fieldNat b 10 2

/-- Table 0-4: 2^-16 ns as a 12-byte TIME96. -/
def time96Bytes (v : Nat) : Bytes :=
  toBE 6 (v / sec16) ++ toBE 4 (v % sec16 / 65536) ++ toBE 2 (v % 65536)

/-- R42: the bytes of a value. -/
def Ty.encode (t : Ty) (v : Val) : Bytes :=
  match t with
  | .bool => toBE 1 v.int.toNat
  | .uns n => toBE n v.int.toNat
  | .sgn n => toBE n (ofSigned n v.int)
  | .time96 => time96Bytes v.int.toNat
  | .octets n => padTo n v.bytes
  | .upTo _ => v.bytes

/-- R42: the value that bytes of the right length spell. -/
def Ty.decode (t : Ty) (b : Bytes) : Val :=
  match t with
  | .bool | .uns _ => .num (beNat b)
  | .sgn n => .num (toSigned n (beNat b))
  | .time96 => .num (time96Of b)
  | .octets _ | .upTo _ => .oct b

/-- R42, R57: is a length one that the type allows. -/
def Ty.allows (t : Ty) (n : Nat) : Bool :=
  match t with
  | .bool => n = 1
  | .uns k | .sgn k | .octets k => n = k
  | .time96 => n = 12
  | .upTo k => n ≤ k

/-- Is a number in a range. -/
def Rng.has (r : Rng) (v : Int) : Bool :=
  match r with
  | .any => true
  | .span lo hi => lo ≤ v && v ≤ hi
  | .spanOr lo hi x => (lo ≤ v && v ≤ hi) || v = x
  | .oneOf vs => vs.contains v
  | .mask m => 0 ≤ v && Nat.land v.toNat m = v.toNat

end Sys2Proof.Machine
end

