-- ==== Sys2Proof/Machine/Crypto.lean ====
section
/-! DEFINITION. The standard algorithms that the spec names: AES, CMAC, SIV, key unwrap and the KDF (R38, R380, R472, R481),
SHA-2 (R424, R502, R482), modular exponentiation, P-256, P-384, Ed25519 and X25519 (R450). Their definitions are those of
FIPS 197, 180-4 and 186-5, SP 800-38B, SP 800-108 and RFC 5297, 3394, 8032 and 7748, on natural numbers. -/

namespace Sys2Proof.Machine

/-- The AES S-box (FIPS 197), entry x in byte x. -/
def aesSboxTable : Nat :=
  (((((0x16bb54b00f2d
    * 16 ^ 100 + 0x99416842e6bf0d89a18cdf2855cee9871e9b948ed9691198f8e19e1dc186b95735610ef6034866b53e708a8bbd4b1f74dde8)
    * 16 ^ 100 + 0xc6b4a61c2e2578ba08ae7a65eaf4566ca94ed58d6d37c8e779e4959162acd3c25c2406490a3a32e0db0b5ede14b8ee468890)
    * 16 ^ 100 + 0x2a22dc4f816073195d643d7ea7c41744975fec130ccdd2f3ff1021dab6bcf5389d928f40a351a89f3c507f02f94585334d43)
    * 16 ^ 100 + 0xfbaaefd0cf584c4a39becb6a5bb1fc20ed00d153842fe329b3d63b52a05a6e1b1a2c830975b227ebe28012079a059618c323)
    * 16 ^ 100 + 0xc7041531d871f1e5a534ccf73f362693fdb7c072a49cafa2d4adf04759fa7dc982ca76abd7fe2b670130c56f6bf27b777c63)

/-- The inverse AES S-box, entry x in byte x. -/
def aesInvTable : Nat :=
  (((((0x7d0c21556314
    * 16 ^ 100 + 0x69e126d677ba7e042b17619953833cbbebc8b0f52aae4d3be0a0ef9cc9939f7ae52d0d4ab519a97f51605fec8027591012b1)
    * 16 ^ 100 + 0x31c7078833a8dd1ff45acd78fec0db9a2079d2c64b3e56fc1bbe18aa0e62b76f89c5291d711af1476edf751ce837f9e28535)
    * 16 ^ 100 + 0xade72274ac9673e6b4f0cecff297eadc674f4111913a6b8a130103bdafc1020f3fca8f1e2cd00645b3b80558e4f70ad3bc8c)
    * 16 ^ 100 + 0x00abd890849d8da75746155edab9edfd5048706c92b6655dcc5ca4d41698688664f6f87225d18b6d49a25b76b224d92866a1)
    * 16 ^ 100 + 0x2e084ec3fa420b954cee3d23c2a632947b54cbe9dec444438e3487ff2f9b8239e37cfbd7f3819ea340bf38a53630d56a0952)

/-- The round constants of SHA-256 (FIPS 180-4), constant t in 32-bit word t. -/
def sha256K : Nat :=
  (((((0xc67178f2bef9
    * 16 ^ 100 + 0xa3f7a4506ceb90befffa8cc7020884c8781478a5636f748f82ee682e6ff35b9cca4f4ed8aa4a391c0cb334b0bcb52748774c)
    * 16 ^ 100 + 0x1e376c0819a4c116106aa070f40e3585d6990624d192e819c76c51a3c24b8b70a81a664ba2bfe8a192722c8581c2c92e766a)
    * 16 ^ 100 + 0x0abb650a735453380d134d2c6dfc2e1b213827b70a851429296706ca6351d5a79147c6e00bf3bf597fc7b00327c8a831c66d)
    * 16 ^ 100 + 0x983e515276f988da5cb0a9dc4a7484aa2de92c6f240ca1cc0fc19dc6efbe4786e49b69c1c19bf1749bdc06a780deb1fe72be)
    * 16 ^ 100 + 0x5d74550c7dc3243185be12835b01d807aa98ab1c5ed5923f82a459f111f13956c25be9b5dba5b5c0fbcf71374491428a2f98)

/-- The round constants of SHA-384 and SHA-512, constant t in 64-bit word t. -/
def sha512K : Nat :=
  ((((((((((((0x6c44198c4a4758175fcb6fab3ad6faec597f299cfc657e2a4cc5d4becb3e42b6431d67c49c100d4c
    * 16 ^ 100 + 0x3c9ebe0a15c9bebc32caab7b40c7249328db77f523047d841b710b35131c471b113f9804bef90dae0a637dc5a2c898a606f0)
    * 16 ^ 100 + 0x67aa72176fbaf57d4f7fee6ed178eada7dd6cde0eb1ed186b8c721c0c207ca273eceea26619cc67178f2e372532bbef9a3f7)
    * 16 ^ 100 + 0xb2c67915a4506cebde82bde990befffa23631e288cc702081a6439ec84c87814a1f0ab7278a5636f43172f60748f82ee5def)
    * 16 ^ 100 + 0xb2fc682e6ff3d6b2b8a35b9cca4f7763e3734ed8aa4ae3418acb391c0cb3c5c95a6334b0bcb5e19b48a82748774cdf8eeb99)
    * 16 ^ 100 + 0x1e376c085141ab5319a4c116b8d2d0c8106aa07032bbd1b8f40e35855771202ad69906245565a910d192e819d6ef5218c76c)
    * 16 ^ 100 + 0x51a30654be30c24b8b70d0f89791a81a664bbc423001a2bfe8a14cf1036492722c851482353b81c2c92e47edaee6766a0abb)
    * 16 ^ 100 + 0x3c77b2a8650a73548baf63de53380d139d95b3df4d2c6dfc5ac42aed2e1b21385c26c92627b70a8546d22ffc142929670a0e)
    * 16 ^ 100 + 0x6e7006ca6351e003826fd5a79147930aa725c6e00bf33da88fc2bf597fc7beef0ee4b00327c898fb213fa831c66d2db43210)
    * 16 ^ 100 + 0x983e5152ee66dfab76f988da831153b55cb0a9dcbd41fbd44a7484aa6ea6e4832de92c6f592b0275240ca1cc77ac9c650fc1)
    * 16 ^ 100 + 0x9dc68b8cd5b5efbe4786384f25e3e49b69c19ef14ad2c19bf174cf6926949bdc06a725c7123580deb1fe3b1696b172be5d74)
    * 16 ^ 100 + 0xf27b896f550c7dc3d5ffb4e2243185be4ee4b28c12835b0145706fbed807aa98a3030242ab1c5ed5da6d8118923f82a4af19)
    * 16 ^ 100 + 0x4f9b59f111f1b605d0193956c25bf348b538e9b5dba58189dbbcb5c0fbcfec4d3b2f7137449123ef65cd428a2f98d728ae22)

/-- The initial hash value of SHA-256. -/
def sha256H : Nat :=
  0x5be0cd191f83d9ab9b05688c510e527fa54ff53a3c6ef372bb67ae856a09e667

/-- The initial hash value of SHA-384. -/
def sha384H : Nat :=
  (0x47b5481dbefa4fa4db0c2e0d64f9
    * 16 ^ 100 + 0x8fa78eb44a876858151167332667ffc00b31152fecd8f70e59399159015a3070dd17629a292a367cd507cbbb9d5dc1059ed8)

/-- The initial hash value of SHA-512. -/
def sha512H : Nat :=
  (0x5be0cd19137e21791f83d9abfb41
    * 16 ^ 100 + 0xbd6b9b05688c2b3e6c1f510e527fade682d1a54ff53a5f1d36f13c6ef372fe94f82bbb67ae8584caa73b6a09e667f3bcc908)

/-! ## AES -/

/-- A byte of a packed table. -/
def tableByte (t i : Nat) : Nat := t >>> (8 * i) &&& 255

/-- The 16 bytes of a 128-bit block, most significant first. -/
def blockBytes (b : Nat) : List Nat := (List.range 16).map (fun i => b >>> (8 * (15 - i)) &&& 255)

/-- Bytes joined to a number, most significant first. -/
def joinBytes (bs : List Nat) : Nat := bs.foldl (fun a b => a * 256 + b) 0

/-- The S-box on every byte of a 32-bit word. -/
def subWord (w : Nat) : Nat :=
  joinBytes ((List.range 4).map (fun i => tableByte aesSboxTable (w >>> (8 * (3 - i)) &&& 255)))

/-- The round constant of round i. -/
def rcon : Nat → Nat
  | 0 => 1
  | n + 1 => let x := 2 * rcon n; if 256 ≤ x then x ^^^ 0x11B else x

/-- Key expansion: the words newest first, `n` more of them, `i` being the number of the next. -/
def aesExpand (nk : Nat) : Nat → Nat → List Nat → List Nat
  | 0, _, ws => ws
  | n + 1, i, ws =>
    let t := ws.headD 0
    let t' := if i % nk = 0 then subWord (t * 256 % 2 ^ 32 + t / 2 ^ 24) ^^^ (rcon (i / nk - 1) * 2 ^ 24)
      else if 6 < nk && i % nk = 4 then subWord t else t
    aesExpand nk n (i + 1) ((ws.getD (nk - 1) 0 ^^^ t') :: ws)

/-- The round keys of a key of 16 or 32 bytes, first to last, as 128-bit numbers. -/
def aesKeys (key : Bytes) : List Nat :=
  let nk := key.length / 4
  let ws := (aesExpand nk (4 * (nk + 7) - nk) nk ((List.range nk).map (fun i => fieldNat key (4 * i) 4)).reverse).reverse
  (List.range (nk + 7)).map (fun r =>
    ((ws.getD (4 * r) 0 * 2 ^ 32 + ws.getD (4 * r + 1) 0) * 2 ^ 32 + ws.getD (4 * r + 2) 0) * 2 ^ 32 + ws.getD (4 * r + 3) 0)

/-- Multiplication by x in AES's field. -/
def xtime (b : Nat) : Nat := if 128 ≤ b then (2 * b) ^^^ 0x11B else 2 * b

/-- Multiplication by a small constant in AES's field. -/
def gmul (c b : Nat) : Nat :=
  (if c % 2 = 1 then b else 0) ^^^ (if c / 2 % 2 = 1 then xtime b else 0) ^^^ (if c / 4 % 2 = 1 then xtime (xtime b) else 0)
    ^^^ (if c / 8 % 2 = 1 then xtime (xtime (xtime b)) else 0)

/-- The columns of a state multiplied by a circulant matrix of first row c0 c1 c2 c3. -/
def mixColumns (c0 c1 c2 c3 : Nat) (s : List Nat) : List Nat :=
  (List.range 16).map (fun i =>
    let k := i / 4 * 4
    let at_ := fun j => s.getD (k + (i + j) % 4) 0
    gmul c0 (at_ 0) ^^^ gmul c1 (at_ 1) ^^^ gmul c2 (at_ 2) ^^^ gmul c3 (at_ 3))

/-- The bytes of a state moved to the places that a stride along the rows gives. -/
def shiftRows (stride : Nat) (s : List Nat) : List Nat := (List.range 16).map (fun i => s.getD (i * stride % 16) 0)

/-- A state with a round key added. -/
def addKey (s : List Nat) (k : Nat) : List Nat := (s.zip (blockBytes k)).map (fun x => x.1 ^^^ x.2)

/-- AES encryption of one block. -/
def aesEncrypt (key : Bytes) (b : Nat) : Nat :=
  let ks := aesKeys key
  let s := (ks.drop 1).dropLast.foldl (fun s k => addKey (mixColumns 2 3 1 1 (shiftRows 5 (s.map (tableByte aesSboxTable)))) k)
    (addKey (blockBytes b) (ks.headD 0))
  joinBytes (addKey (shiftRows 5 (s.map (tableByte aesSboxTable))) (ks.getLastD 0))

/-- AES decryption of one block. -/
def aesDecrypt (key : Bytes) (b : Nat) : Nat :=
  let ks := (aesKeys key).reverse
  let s := (ks.drop 1).dropLast.foldl (fun s k =>
      mixColumns 14 11 13 9 (addKey ((shiftRows 13 s).map (tableByte aesInvTable)) k)) (addKey (blockBytes b) (ks.headD 0))
  joinBytes (addKey ((shiftRows 13 s).map (tableByte aesInvTable)) (ks.getLastD 0))

/-- Doubling in the field of CMAC. -/
def dbl128 (x : Nat) : Nat := if 2 ^ 127 ≤ x then (2 * x % 2 ^ 128) ^^^ 0x87 else 2 * x

/-- A byte string cut into pieces of n bytes. -/
def chunks (n : Nat) (b : Bytes) : List Bytes := (List.range (ceilDiv b.length n)).map (fun i => field b (n * i) n)

/-- AES-CMAC (SP 800-38B), as a 128-bit number. -/
def cmacNat (key : Bytes) (m : Bytes) : Nat :=
  let k1 := dbl128 (aesEncrypt key 0)
  let bs := chunks 16 m
  let last := bs.getLastD []
  let fin := if last.length = 16 then beNat last ^^^ k1 else (beNat (padTo 16 (last ++ [0x80]))) ^^^ dbl128 k1
  aesEncrypt key ((bs.dropLast.foldl (fun c b => aesEncrypt key (c ^^^ beNat b)) 0) ^^^ fin)

/-- AES-CMAC as 16 bytes. -/
def cmac (key m : Bytes) : Bytes := toBE 16 (cmacNat key m)

/-- RFC 5297: S2V over the associated data and the plaintext. -/
def s2v (key : Bytes) (ads : List Bytes) (p : Bytes) : Nat :=
  let d := ads.foldl (fun d a => dbl128 d ^^^ cmacNat key a) (cmacNat key (List.replicate 16 0))
  if 16 ≤ p.length then
    let n := p.length - 16
    cmacNat key (p.take n ++ toBE 16 (beNat (p.drop n) ^^^ d))
  else cmacNat key (toBE 16 (dbl128 d ^^^ beNat (padTo 16 (p ++ [0x80]))))

/-- AES in counter mode from a first counter block. -/
def aesCtr (key : Bytes) (q : Nat) (p : Bytes) : Bytes :=
  ((chunks 16 p).mapIdx (fun i b =>
    toBE b.length (beNat b ^^^ (aesEncrypt key ((q + i) % 2 ^ 128) >>> (8 * (16 - b.length)))))).flatten

/-- RFC 5297: the counter block of a synthetic IV. -/
def sivCounter (v : Nat) : Nat := v &&& 0xFFFFFFFFFFFFFFFF7FFFFFFF7FFFFFFF

/-- RFC 5297: AES-SIV encryption under a double-length key. -/
def sivSeal (key : Bytes) (ads : List Bytes) (p : Bytes) : Bytes :=
  let h := key.length / 2
  let v := s2v (key.take h) ads p
  toBE 16 v ++ aesCtr (key.drop h) (sivCounter v) p

/-- RFC 5297: AES-SIV decryption; none where the synthetic IV does not match. -/
def sivOpen (key : Bytes) (ads : List Bytes) (c : Bytes) : Option Bytes :=
  let h := key.length / 2
  let v := fieldNat c 0 16
  let p := aesCtr (key.drop h) (sivCounter v) (c.drop 16)
  if 16 ≤ c.length && s2v (key.take h) ads p = v then some p else none

/-- RFC 3394: the steps of unwrapping, `t` counting down, over A and the blocks R. -/
def unwrapSteps (kek : Bytes) (n : Nat) : Nat → Nat → List Nat → Nat × List Nat
  | 0, a, r => (a, r)
  | t + 1, a, r =>
    let i := t % n
    let b := aesDecrypt kek ((a ^^^ (t + 1)) * 2 ^ 64 + r.getD i 0)
    unwrapSteps kek n t (b / 2 ^ 64) (r.set i (b % 2 ^ 64))

/-- RFC 3394: a wrapped key opened; none where its integrity check fails. -/
def keyUnwrap (kek c : Bytes) : Option Bytes :=
  let bs := (chunks 8 c).map beNat
  let n := bs.length - 1
  let (a, r) := unwrapSteps kek n (6 * n) (bs.headD 0) (bs.drop 1)
  if a = 0xA6A6A6A6A6A6A6A6 then some (r.map (toBE 8)).flatten else none

/-! ## SHA-2 -/

/-- Rotation to the right in w bits. -/
def rotr (w n x : Nat) : Nat := (x >>> n) ||| (x <<< (w - n)) % 2 ^ w

/-- A variant of SHA-2: word width, rounds, constants, and the rotations of its four functions. -/
structure Sha where
  w : Nat
  rounds : Nat
  k : Nat
  s0 : Nat × Nat × Nat
  s1 : Nat × Nat × Nat
  b0 : Nat × Nat × Nat
  b1 : Nat × Nat × Nat

/-- SHA-256's variant. -/
def sha32 : Sha := { w := 32, rounds := 64, k := sha256K, s0 := (7, 18, 3), s1 := (17, 19, 10), b0 := (2, 13, 22), b1 := (6, 11, 25) }

/-- SHA-384's and SHA-512's variant. -/
def sha64 : Sha := { w := 64, rounds := 80, k := sha512K, s0 := (1, 8, 7), s1 := (19, 61, 6), b0 := (28, 34, 39), b1 := (14, 18, 41) }

/-- A small sigma: two rotations and a shift. -/
def Sha.small (v : Sha) (r : Nat × Nat × Nat) (x : Nat) : Nat := rotr v.w r.1 x ^^^ rotr v.w r.2.1 x ^^^ (x >>> r.2.2)

/-- A big sigma: three rotations. -/
def Sha.big (v : Sha) (r : Nat × Nat × Nat) (x : Nat) : Nat := rotr v.w r.1 x ^^^ rotr v.w r.2.1 x ^^^ rotr v.w r.2.2 x

/-- The rounds of one block: `n` to go, number t next, the schedule's window oldest first, the eight working variables. -/
def Sha.run (v : Sha) : Nat → Nat → List Nat → List Nat → List Nat
  | n + 1, t, ws, [a, b, c, d, e, f, g, h] =>
    let m := 2 ^ v.w
    let w := ws.headD 0
    let t1 := h + v.big v.b1 e + ((e &&& f) ^^^ ((m - 1 - e) &&& g)) + (v.k >>> (v.w * t)) % m + w
    let t2 := v.big v.b0 a + ((a &&& b) ^^^ (a &&& c) ^^^ (b &&& c))
    let nw := (v.small v.s1 (ws.getD 14 0) + ws.getD 9 0 + v.small v.s0 (ws.getD 1 0) + w) % m
    v.run n (t + 1) (ws.drop 1 ++ [nw]) [(t1 + t2) % m, a, b, c, (d + t1) % m, e, f, g]
  | _, _, _, hs => hs

/-- A message padded as FIPS 180-4 says. -/
def Sha.pad (v : Sha) (m : Bytes) : Bytes :=
  let blk := 2 * v.w
  let z := (2 * blk - (m.length + 1 + blk / 8) % blk) % blk
  m ++ [0x80] ++ List.replicate z 0 ++ toBE (blk / 8) (8 * m.length)

/-- The eight hash words of a message. -/
def Sha.words (v : Sha) (h0 : Nat) (m : Bytes) : List Nat :=
  (chunks (2 * v.w) (v.pad m)).foldl (fun hs b =>
    let ws := (chunks (v.w / 8) b).map beNat
    (hs.zip (v.run v.rounds 0 ws hs)).map (fun x => (x.1 + x.2) % 2 ^ v.w))
    ((List.range 8).map (fun i => (h0 >>> (v.w * i)) % 2 ^ v.w))

/-- SHA-256. -/
def sha256 (m : Bytes) : Bytes := ((sha32.words sha256H m).map (toBE 4)).flatten

/-- SHA-384. -/
def sha384 (m : Bytes) : Bytes := (((sha64.words sha384H m).take 6).map (toBE 8)).flatten

/-- SHA-512. -/
def sha512 (m : Bytes) : Bytes := ((sha64.words sha512H m).map (toBE 8)).flatten

/-! ## Modular arithmetic and curves -/

/-- b^e modulo m, by squaring; the fuel is the number of bits of e. -/
def powMod (m : Nat) : Nat → Nat → Nat → Nat
  | 0, _, _ => 1 % m
  | fuel + 1, b, e =>
    if e = 0 then 1 % m else
    let h := powMod m fuel (b * b % m) (e / 2)
    if e % 2 = 1 then h * b % m else h

/-- The inverse modulo a prime. -/
def invMod (p a : Nat) : Nat := powMod p (p.log2 + 1) (a % p) (p - 2)

/-- a less b modulo p. -/
def subMod (p a b : Nat) : Nat := (a + (p - b % p)) % p

/-- A short Weierstrass curve y^2 = x^3 - 3x + b of prime order n, with its base point. -/
structure Curve where
  p : Nat
  b : Nat
  n : Nat
  gx : Nat
  gy : Nat
  bytes : Nat

/-- P-256. -/
def p256 : Curve :=
  { p := 2 ^ 256 - 2 ^ 224 + 2 ^ 192 + 2 ^ 96 - 1
    b := 0x5ac635d8aa3a93e7b3ebbd55769886bc651d06b0cc53b0f63bce3c3e27d2604b
    n := 0xffffffff00000000ffffffffffffffffbce6faada7179e84f3b9cac2fc632551
    gx := 0x6b17d1f2e12c4247f8bce6e563a440f277037d812deb33a0f4a13945d898c296
    gy := 0x4fe342e2fe1a7f9b8ee7eb4a7c0f9e162bce33576b315ececbb6406837bf51f5, bytes := 32 }

/-- P-384. -/
def p384 : Curve :=
  { p := 2 ^ 384 - 2 ^ 128 - 2 ^ 96 + 2 ^ 32 - 1
    b := 0xb3312fa7e23ee7e4988e056be3f82d19181d9c6efe8141120314088f5013875ac656398d8a2ed19d2a85c8edd3ec2aef
    n := 0xffffffffffffffffffffffffffffffffffffffffffffffffc7634d81f4372ddf581a0db248b0a77aecec196accc52973
    gx := 0xaa87ca22be8b05378eb1c71ef320ad746e1d3b628ba79b9859f741e082542a385502f25dbf55296c3a545e3872760ab7
    gy := 0x3617de4a96262c6f5d9e98bf9292dc29f8f41dbd289a147ce9da3113b5f0b8c00a60b1ce1d7e819d7a431d7c90ea0e5f, bytes := 48 }

/-- A point of a Weierstrass curve; none is the identity. -/
abbrev Point := Option (Nat × Nat)

/-- Is (x, y) a point of the curve with reduced coordinates. -/
def Curve.on (c : Curve) (x y : Nat) : Bool :=
  x < c.p && y < c.p && y * y % c.p = (x * x * x + (c.p - 3) * x + c.b) % c.p

/-- The sum of two points. -/
def Curve.add (c : Curve) : Point → Point → Point
  | none, q => q
  | q, none => q
  | some (x1, y1), some (x2, y2) =>
    if x1 = x2 && (y1 + y2) % c.p = 0 then none else
    let l := if x1 = x2 then (3 * x1 * x1 + (c.p - 3)) * invMod c.p (2 * y1) % c.p
      else subMod c.p y2 y1 * invMod c.p (subMod c.p x2 x1) % c.p
    let x3 := subMod c.p (l * l) (x1 + x2)
    some (x3, subMod c.p (l * subMod c.p x1 x3) y1)

/-- A multiple of a point; the fuel is the number of bits of the scalar. -/
def Curve.mul (c : Curve) : Nat → Nat → Point → Point
  | 0, _, _ => none
  | fuel + 1, k, q =>
    if k = 0 then none else
    let h := c.mul fuel (k / 2) (c.add q q)
    if k % 2 = 1 then c.add h q else h

/-- A multiple of the base point. -/
def Curve.base (c : Curve) (k : Nat) : Point := c.mul (c.n.log2 + 2) k (some (c.gx, c.gy))

/-- ECDSA (FIPS 186-5): r and s over the integer e with private key d and nonce k; 0 where the nonce gives none. -/
def Curve.sign (c : Curve) (d e k : Nat) : Nat × Nat :=
  match c.base k with
  | none => (0, 0)
  | some (x, _) => let r := x % c.n; (r, invMod c.n k * ((e + r * d) % c.n) % c.n)

/-- ECDSA verification. -/
def Curve.verify (c : Curve) (qx qy e r s : Nat) : Bool :=
  let w := invMod c.n s
  let f := c.n.log2 + 2
  match c.add (c.base (e * w % c.n)) (c.mul f (r * w % c.n) (some (qx, qy))) with
  | none => false
  | some (x, _) => 0 < r && r < c.n && 0 < s && s < c.n && x % c.n = r

/-- FIPS 186-5: the leftmost bits of a value of `len` bits that a curve's order takes. -/
def Curve.digest (c : Curve) (len v : Nat) : Nat := v >>> (len - (c.n.log2 + 1))

/-- The uncompressed encoding of a point. -/
def Curve.encode (c : Curve) : Point → Bytes
  | some (x, y) => [0x04] ++ toBE c.bytes x ++ toBE c.bytes y
  | none => List.replicate (2 * c.bytes + 1) 0

/-- An uncompressed encoding of a point of the curve, read. -/
def Curve.decode (c : Curve) (b : Bytes) : Option (Nat × Nat) :=
  let x := fieldNat b 1 c.bytes
  let y := fieldNat b (1 + c.bytes) c.bytes
  if b.length = 2 * c.bytes + 1 && fieldNat b 0 1 = 4 && c.on x y then some (x, y) else none

/-- The prime of Curve25519. -/
def p25519 : Nat := 2 ^ 255 - 19

/-- The order of Ed25519's base point. -/
def ed25519L : Nat := 2 ^ 252 + 27742317777372353535851937790883648493

/-- Ed25519's constant d. -/
def ed25519D : Nat := 37095705934669439343138083508754565189542113879843219016388785533085940283555

/-- The sum of two points of Ed25519's curve. -/
def edAdd (a b : Nat × Nat) : Nat × Nat :=
  let p := p25519
  let m := ed25519D * a.1 % p * b.1 % p * a.2 % p * b.2 % p
  ((a.1 * b.2 + a.2 * b.1) % p * invMod p (1 + m) % p, (a.2 * b.2 + a.1 * b.1) % p * invMod p (subMod p 1 m) % p)

/-- A multiple of a point of Ed25519's curve. -/
def edMul : Nat → Nat → Nat × Nat → Nat × Nat
  | 0, _, _ => (0, 1)
  | fuel + 1, k, q =>
    if k = 0 then (0, 1) else
    let h := edMul fuel (k / 2) (edAdd q q)
    if k % 2 = 1 then edAdd h q else h

/-- RFC 8032: a 32-byte encoding read as a point; none where y is not reduced or no x fits. -/
def edDecode (b : Bytes) : Option (Nat × Nat) :=
  let p := p25519
  let v := leNat b
  let y := v % 2 ^ 255
  let u := subMod p (y * y) 1
  let w := (ed25519D * (y * y % p) + 1) % p
  let t := u * powMod p 256 (w * w % p * w % p) 1 % p
  let x0 := t * powMod p 256 (u * (w * w % p * w % p * w % p * w % p * w % p * w % p) % p) ((p - 5) / 8) % p
  let x1 := if w * (x0 * x0 % p) % p = u then some x0
    else if w * (x0 * x0 % p) % p = (p - u) % p then some (x0 * powMod p 256 2 ((p - 1) / 4) % p) else none
  match x1 with
  | none => none
  | some x =>
    let sgn := v / 2 ^ 255
    if p ≤ y || b.length ≠ 32 || (x = 0 && sgn = 1) then none else some (if x % 2 = sgn then x else p - x, y)

/-- RFC 8032: the encoding of a point. -/
def edEncode (q : Nat × Nat) : Bytes := toLE 32 (q.2 + q.1 % 2 * 2 ^ 255)

/-- The base point of Ed25519. -/
def edBase : Nat × Nat :=
  (15112221349535400772501151409588531511454012693041857206046113283949847762202,
   46316835694926478169428394003475163141307993866256225615783033603165251855960)

/-- RFC 8032: the clamped scalar of a seed, and the prefix. -/
def edSecret (seed : Bytes) : Nat × Bytes :=
  let h := sha512 seed
  let a := leNat (h.take 32)
  (a % 2 ^ 254 / 8 * 8 + 2 ^ 254, h.drop 32)

/-- RFC 8032: the public key of a seed. -/
def edPublic (seed : Bytes) : Bytes := edEncode (edMul 256 (edSecret seed).1 edBase)

/-- RFC 8032: an Ed25519 signature. -/
def edSign (seed m : Bytes) : Bytes :=
  let (a, pre) := edSecret seed
  let r := leNat (sha512 (pre ++ m)) % ed25519L
  let rr := edEncode (edMul 256 r edBase)
  let k := leNat (sha512 (rr ++ edPublic seed ++ m)) % ed25519L
  rr ++ toLE 32 ((r + k * a) % ed25519L)

/-- RFC 8032: Ed25519 verification. -/
def edVerify (pub m sig : Bytes) : Bool :=
  let s := leNat (sig.drop 32)
  match edDecode pub, edDecode (sig.take 32) with
  | some a, some r =>
    let k := leNat (sha512 (sig.take 32 ++ pub ++ m)) % ed25519L
    s < ed25519L && edMul 256 s edBase = edAdd r (edMul 256 k a)
  | _, _ => false

/-- Is a point of order 1, 2, 4 or 8. -/
def edSmall (q : Nat × Nat) : Bool := edMul 4 8 q = (0, 1)

/-- RFC 7748: the steps of the Montgomery ladder over the bits of k from bit `n - 1` down. -/
def ladder (k x1 : Nat) : Nat → Nat × Nat × Nat × Nat → Nat × Nat × Nat × Nat
  | 0, s => s
  | n + 1, (x2, z2, x3, z3) =>
    let p := p25519
    let b := k >>> n &&& 1 = 1
    let (a2, c2, a3, c3) := if b then (x3, z3, x2, z2) else (x2, z2, x3, z3)
    let a := (a2 + c2) % p
    let aa := a * a % p
    let m := subMod p a2 c2
    let mm := m * m % p
    let e := subMod p aa mm
    let da := subMod p a3 c3 * a % p
    let cb := (a3 + c3) * m % p
    let y3 := (da + cb) * (da + cb) % p
    let w3 := x1 * (subMod p da cb * subMod p da cb % p) % p
    let y2 := aa * mm % p
    let w2 := e * ((aa + 121665 * e) % p) % p
    ladder k x1 n (if b then (y3, w3, y2, w2) else (y2, w2, y3, w3))

/-- RFC 7748: X25519 on a scalar and a u-coordinate, both as 32 bytes. -/
def x25519 (k u : Bytes) : Bytes :=
  let kk := leNat k % 2 ^ 254 / 8 * 8 + 2 ^ 254
  let x1 := leNat u % 2 ^ 255 % p25519
  let (x2, z2, _, _) := ladder kk x1 255 (1, 0, x1, 1)
  toLE 32 (x2 * invMod p25519 z2 % p25519)

/-- RFC 7748: u-coordinates that give an all-zero output. -/
def x25519Small (u : Nat) : Bool :=
  u = 0 || u = 1 || u = p25519 - 1
    || u = 325606250916557431795983626356110631294008115727848805560023387167927233504
    || u = 39382357235489614581723060781553021112529911719440698176882885853963445705823

/-! ## Key derivation -/

/-- An ASCII string as bytes. -/
def ascii (s : String) : Bytes := s.toList.map (fun c => byte c.toNat)

/-- R481: K_S from K_OWN, the nonces, the token and the holder. -/
def sessionKey (own host dev : Bytes) (token holder : Nat) : Bytes :=
  let k := fun i => cmac own (ofNats [i] ++ ascii "HAP-SESSION" ++ [0] ++ host ++ dev ++ toBE 4 token ++ toBE 1 holder ++ toBE 2 0x0100)
  k 1 ++ k 2

/-- R481: SESSION_PROOF. -/
def sessionProof (ks host dev : Bytes) : Bytes := cmac ks (ascii "HAP-PROOF" ++ host ++ dev)

/-- R481: the MAC of a PDU or a heartbeat. -/
def mac8 (ks m : Bytes) : Bytes := (cmac ks m).take 8

/-- R472: the key-encryption key from the shared secret and the DIK public key. -/
def ownerKek (z : Nat) (dik : Bytes) : Bytes :=
  (sha384 (toBE 4 1 ++ toBE 48 z ++ ascii "LUABRY-KOWN-01" ++ sha384 dik)).take 32

end Sys2Proof.Machine
end

