-- ==== Sys2Proof/Machine/Scales.lean ====
section
/-! DEFINITION. The scales derived from MT: UTC with its leap-second table, GPS time, the domains (R96 to R101), and the ticks
on which a scale reaches a value. -/

namespace Sys2Proof.Machine

/-- R97: entry i (from 0) of the leap-second table as `get` shows it: its TAI second and its new TAI - UTC. -/
def leapEntry (get : Nat → Val) (i : Nat) : Nat × Int :=
  let b := (get (K.utcLeapEntry i)).bytes
  (fieldNat b 0 6, toSigned 2 (fieldNat b 6 2))

/-- R98: the entries in use. -/
def leapTable (get : Nat → Val) : List (Nat × Int) :=
  (List.range (get K.utcLeapCount).int.toNat).map (leapEntry get)

/-- R99: TAI - UTC at an MT instant (in MT's unit): the last entry reached, or the base offset. -/
def utcOffsetOf (base : Int) (tab : List (Nat × Int)) (mt : Nat) : Int :=
  tab.foldl (fun o e => if e.1 * secU ≤ mt then e.2 else o) base

/-- R99: MT_UTC_OFFSET at this tick. -/
def Device.utcOffset (d : Device) : Int :=
  utcOffsetOf (d.num K.utcBaseOffset) (leapTable d.val) d.clock.mt

/-- R99: the first entry whose instant MT has not reached. -/
def Device.nextLeap (d : Device) : Option (Nat × Int) :=
  (leapTable d.val).find? (fun e => d.clock.mt < e.1 * secU)

/-- R99: MT_LEAP_PENDING at this tick. -/
def Device.leapPending (d : Device) : Nat :=
  match d.nextLeap with
  | some e => if e.1 * secU ≤ d.clock.mt + 86400 * secU then
      (if d.utcOffset < e.2 then 1 else if e.2 < d.utcOffset then 2 else 0) else 0
  | none => 0

/-- A scale's reading in MT's unit: 0 MT, 1 UTC, 2 GPS, 3 + n domain Dn (Table 9-1 OUT_SCALE); it may lie before the epoch. -/
def Device.scaleNow (d : Device) (sc : Nat) : Int :=
  if sc = 0 then d.clock.mt
  else if sc = 1 then d.clock.mt - d.utcOffset * secU
  else if sc = 2 then d.clock.mt - 19 * secU
  else d.clock.dom.getD (sc - 3) 0 / 2 ^ 48

/-- R101, R102, R410: Dn's reading at an MT instant (MT's unit), which its rate, its servo and its outstanding pull carry from this tick;
for an instant before this tick as if they had been the same since. -/
def Device.domAt (d : Device) (n : Nat) (t : Int) : Int :=
  let x := d.clock.dom.getD n 0
  let servo := d.clock.servo.getD n 0
  let pull := d.clock.domPull.getD n 0
  let gap := t - d.clock.mt
  let m := d.ticksToMt t.toNat
  let y :=
    if gap ≤ 0 then x + gap * d.domFactor n + gap * (servo + 5 * 2 ^ 48 * pullOver pull d.aMax 1) / tickU
    else
      let before := d.mtGain (m - 1)
      let rest := gap - before
      d.domAfter before (m - 1) n x + rest * d.domFactor n
        + rest * (servo + 5 * 2 ^ 48 * (pullOver pull d.aMax m - pullOver pull d.aMax (m - 1))) / (d.mtGain m - before)
  y / 2 ^ 48

/-- R76, R96: a scale as a TIME96 reading in 2^-16 ns: truncated, and 0 before the epoch. -/
def Device.scale16 (d : Device) (sc : Nat) : Nat := (d.scaleNow sc).toNat / fracU

/-- R264: the first MT instant at which UTC reaches a value, segment by segment of the leap-second table. -/
def utcReach (v : Int) : Int → Nat → List (Nat × Int) → Int
  | off, from_, [] => max (from_ : Int) (v + off * secU)
  | off, from_, (t, o) :: rest =>
    if max (from_ : Int) (v + off * secU) < t * secU then max (from_ : Int) (v + off * secU)
    else utcReach v o (t * secU) rest

/-- R264: the least value of UTC that it has not reached before an MT instant. -/
def utcHigh (y : Int) : Int → List (Nat × Int) → Int
  | off, [] => y - off * secU
  | off, (t, o) :: rest => if t * secU < y then max (t * secU - off * secU) (utcHigh y o rest) else y - off * secU

/-- The least n below hi with p n, or hi, when p stays true once true; the fuel is the number of halvings. -/
def searchTick (p : Nat → Bool) : Nat → Nat → Nat → Nat
  | 0, _, hi => hi
  | fuel + 1, lo, hi =>
    if lo < hi then
      let mid := (lo + hi) / 2
      if p mid then searchTick p fuel lo mid else searchTick p fuel (mid + 1) hi
    else hi

/-- How many ticks until a scale reaches a value (MT's unit); 0 if it has. -/
def Device.ticksToScale (d : Device) (sc : Nat) (v : Int) : Nat :=
  if sc = 0 then d.ticksToMt v.toNat
  else if sc = 1 then d.ticksToMt (utcReach v (d.num K.utcBaseOffset) 0 (leapTable d.val)).toNat
  else if sc = 2 then d.ticksToMt (v + 19 * secU).toNat
  else if v ≤ d.scaleNow sc then 0
  else searchTick (fun n => v ≤ (d.elapse n).scaleNow sc) 64 0 (2 * ((v - d.scaleNow sc).toNat / tickU + 1))

/-- The MT instant at which Dn reaches a value (MT's unit), between two ticks in proportion; for a value it has passed as if it had always run as now. -/
def Device.domReach (d : Device) (n : Nat) (v : Int) : Int :=
  let between (a b : Device) : Int := a.clock.mt + (v - a.scaleNow (3 + n)) * (b.clock.mt - a.clock.mt) / (b.scaleNow (3 + n) - a.scaleNow (3 + n))
  let m := d.ticksToScale (3 + n) v
  if m = 0 then between d (d.elapse 1) else between (d.elapse (m - 1)) (d.elapse m)

/-- The least value of a scale that it has not reached before an MT instant (MT's unit). -/
def Device.scaleFrom (d : Device) (sc : Nat) (y : Int) : Int :=
  if sc = 0 then y
  else if sc = 1 then utcHigh y (d.num K.utcBaseOffset) (leapTable d.val)
  else if sc = 2 then y - 19 * secU
  else d.domAt (sc - 3) y

end Sys2Proof.Machine
end

