-- ==== Sys2Proof/Machine/Frames.lean ====
section
/-! DEFINITION. Ethernet frames as byte strings: reading their headers, Internet checksums, and building frames.
A frame's bytes stand here without preamble, SFD and FCS; R274 counts the four FCS bytes, and they are added as a frame leaves. -/

namespace Sys2Proof.Machine

/-- What the headers of a frame say. `tag` is PCP and VID of an IEEE 802.1Q tag; `ip` is 4 or 6 for UDP, TCP or other IP payloads,
0 otherwise; `pay` is where the UDP or TCP payload begins, `l3` where the EtherType's payload begins. -/
structure Pkt where
  dst : Bytes
  src : Bytes
  tag : Option (Nat × Nat)
  etype : Nat
  l3 : Nat
  ip : Nat
  saddr : Bytes
  daddr : Bytes
  proto : Nat
  sport : Nat
  dport : Nat
  l4 : Nat
  pay : Nat
  deriving DecidableEq, Repr

/-- The headers of a frame. -/
def parseFrame (b : Bytes) : Pkt :=
  let tagged := fieldNat b 12 2 = 0x8100
  let l3 := if tagged then 18 else 14
  let et := fieldNat b (l3 - 2) 2
  let v4 := et = 0x0800 && fieldNat b l3 1 / 16 = 4
  let v6 := et = 0x86DD && fieldNat b l3 1 / 16 = 6
  let l4 := if v4 then l3 + 4 * (fieldNat b l3 1 % 16) else l3 + 40
  let proto := if v4 then fieldNat b (l3 + 9) 1 else if v6 then fieldNat b (l3 + 6) 1 else 0
  let hasPorts := proto = 17 || proto = 6
  { dst := field b 0 6, src := field b 6 6
    tag := if tagged then some (fieldNat b 14 2 / 8192, fieldNat b 14 2 % 4096) else none
    etype := et, l3 := l3, ip := if v4 then 4 else if v6 then 6 else 0
    saddr := if v4 then field b (l3 + 12) 4 else if v6 then field b (l3 + 8) 16 else []
    daddr := if v4 then field b (l3 + 16) 4 else if v6 then field b (l3 + 24) 16 else []
    proto := proto, sport := if hasPorts then fieldNat b l4 2 else 0, dport := if hasPorts then fieldNat b (l4 + 2) 2 else 0
    l4 := l4, pay := if proto = 17 then l4 + 8 else l4 + 4 * (fieldNat b (l4 + 12) 1 / 16) }

/-- Is the frame a UDP datagram. -/
def Pkt.udp (k : Pkt) : Bool := k.ip ≠ 0 && k.proto = 17

/-- R274: a frame's length in bytes, FCS included. -/
def frameLen (b : Bytes) : Nat := b.length + 4

/-- R332: the cells of 256 bytes that a frame occupies. -/
def cellsOf (b : Bytes) : Nat := ceilDiv (frameLen b) 256

/-- R278: a frame shorter than 64 bytes padded to 64. -/
def padFrame (b : Bytes) : Bytes := if b.length < 60 then padTo 60 b else b

/-- R278: a frame with its FCS, which IEEE 802.3 sends least significant byte of the register first. -/
def withFcs (b : Bytes) : Bytes := b ++ toLE 4 (crc32 b)

/-- A UDP datagram's payload. -/
def udpPayload (b : Bytes) : Bytes :=
  let k := parseFrame b
  field b k.pay (fieldNat b (k.l4 + 4) 2 - 8)

/-- The sum of the 16-bit words of a byte string. -/
def wordSum : Bytes → Nat
  | [] => 0
  | [a] => a.toNat * 256
  | a :: b :: t => a.toNat * 256 + b.toNat + wordSum t

/-- A one's complement sum brought to 16 bits. -/
def fold16 (n : Nat) : Nat :=
  let a := n % 65536 + n / 65536
  let b := a % 65536 + a / 65536
  b % 65536 + b / 65536

/-- The Internet checksum of words that sum to n. -/
def inetCsum (n : Nat) : Nat := 0xFFFF - fold16 n

/-- Bytes written over a byte string at an offset. -/
def putBytes (b : Bytes) (off : Nat) (v : Bytes) : Bytes := b.take off ++ v ++ b.drop (off + v.length)

/-- R22: the tag bytes of an answer: the request's VID and PCP, or none. -/
def tagBytes : Option (Nat × Nat) → Bytes
  | some (pcp, vid) => toBE 2 0x8100 ++ toBE 2 (pcp * 8192 + vid)
  | none => []

/-- An Ethernet frame. -/
def etherFrame (dst src : Bytes) (tag : Option (Nat × Nat)) (etype : Nat) (pay : Bytes) : Bytes :=
  dst ++ src ++ tagBytes tag ++ toBE 2 etype ++ pay

/-- A UDP datagram over IPv4 or IPv6 with its checksum; header fields that the spec does not name are free values. -/
def udpFrame (dst src : Bytes) (tag : Option (Nat × Nat)) (saddr daddr : Bytes) (sport dport : Nat) (pay : Bytes) : Bytes :=
  let len := pay.length + 8
  let pseudo := wordSum saddr + wordSum daddr + 17 + len
  let hdr := toBE 2 sport ++ toBE 2 dport ++ toBE 2 len
  let c := inetCsum (pseudo + wordSum hdr + wordSum pay)
  let udp := hdr ++ toBE 2 (if c = 0 then 0xFFFF else c) ++ pay
  if saddr.length = 4 then
    let ip0 := ofNats [0x45, Config.ipField 0] ++ toBE 2 (20 + len) ++ toBE 2 (Config.ipField 1) ++ toBE 2 0
      ++ ofNats [Config.ipField 2, 17]
    let ip := ip0 ++ toBE 2 (inetCsum (wordSum ip0 + wordSum saddr + wordSum daddr)) ++ saddr ++ daddr
    etherFrame dst src tag 0x0800 (ip ++ udp)
  else
    let ip := toBE 4 (0x60000000 + Config.ipField 3 % 2 ^ 28) ++ toBE 2 len ++ ofNats [17, Config.ipField 2] ++ saddr ++ daddr
    etherFrame dst src tag 0x86DD (ip ++ udp)

/-- Where a UDP payload begins in a frame of `udpFrame`. -/
def udpPayAt (tag : Option (Nat × Nat)) (addr : Bytes) : Nat :=
  14 + (if tag.isSome then 4 else 0) + (if addr.length = 4 then 20 else 40) + 8

/-- R22: a datagram that answers a request: addresses and ports exchanged, the request's tagging, PORT_MAC as source. -/
def udpReply (req : Bytes) (mac : Bytes) (pay : Bytes) : Bytes :=
  let k := parseFrame req
  udpFrame k.src mac k.tag k.daddr k.saddr k.dport k.sport pay

/-- R273: the station's answer to an ARP request. -/
def arpReply (req : Bytes) (mac ip : Bytes) : Bytes :=
  let k := parseFrame req
  let sha := field req (k.l3 + 8) 6
  let spa := field req (k.l3 + 14) 4
  etherFrame k.src mac k.tag 0x0806 (toBE 2 1 ++ toBE 2 0x0800 ++ ofNats [6, 4] ++ toBE 2 2 ++ mac ++ ip ++ sha ++ spa)

/-- R273: is the frame an ARP request for the address. -/
def arpFor (b : Bytes) (ip : Bytes) : Bool :=
  let k := parseFrame b
  k.etype = 0x0806 && fieldNat b (k.l3 + 6) 2 = 1 && field b (k.l3 + 24) 4 = ip

/-- R273: is the frame an IPv6 Neighbour Solicitation for the address. -/
def solicitFor (b : Bytes) (ip : Bytes) : Bool :=
  let k := parseFrame b
  k.ip = 6 && k.proto = 58 && fieldNat b k.l4 1 = 135 && field b (k.l4 + 8) 16 = ip

/-- R273: the station's Neighbour Advertisement; to an unspecified source it goes to all nodes, unsolicited. -/
def advertise (req : Bytes) (mac ip : Bytes) : Bytes :=
  let k := parseFrame req
  let anon := k.saddr.all (· = 0)
  let dip := if anon then ofNats [0xFF, 2, 0, 0, 0, 0, 0, 0, 0, 0, 0, 0, 0, 0, 0, 1] else k.saddr
  let dmac := if anon then ofNats [0x33, 0x33, 0, 0, 0, 1] else k.src
  let rest := toBE 4 (if anon then 0x20000000 else 0x60000000) ++ ip ++ ofNats [2, 1] ++ mac
  let c := inetCsum (wordSum ip + wordSum dip + 32 + 58 + 136 * 256 + wordSum rest)
  let icmp := ofNats [136, 0] ++ toBE 2 c ++ rest
  etherFrame dmac mac k.tag 0x86DD (toBE 4 0x60000000 ++ toBE 2 icmp.length ++ ofNats [58, 255] ++ ip ++ dip ++ icmp)

/-- R289: the CRC-16 of wake patterns: polynomial 0x1021, initial value 0xFFFF, most significant bit first. -/
def crc16 (bs : Bytes) : Nat :=
  bs.foldl (fun c b => (List.range 8).foldl (fun c _ => if 32768 ≤ c then Nat.xor (c * 2 % 65536) 0x1021 else c * 2)
    (Nat.xor c (b.toNat * 256))) 0xFFFF

/-- An MT instant's reading on a scale, in MT's unit (R96, R101, R315). -/
def Device.scaleAt (d : Device) (sc : Nat) (t : Int) : Int :=
  if sc = 0 then t
  else if sc = 1 then t - utcOffsetOf (d.num K.utcBaseOffset) (leapTable d.val) t.toNat * secU
  else if sc = 2 then t - 19 * secU
  else d.domAt (sc - 3) t

/-- R76, R315: the same as a TIME96 reading in 2^-16 ns. -/
def Device.scaleAt16 (d : Device) (sc : Nat) (t : Int) : Nat := (d.scaleAt sc t).toNat / fracU

/-- R315: the NTP timestamp of a UTC reading in 2^-16 ns. -/
def ntpStamp (u16 : Nat) : Bytes := toBE 4 ((u16 / sec16 + 2208988800) % 2 ^ 32) ++ toBE 4 (u16 % sec16 * 2 ^ 32 / sec16)

/-- Table 11-2: the stamp word of an instant on MT in 2^-16 ns. -/
def stampWord (t16 : Int) (flags : Nat) : Bytes :=
  toBE 4 (t16 / 65536 % 2 ^ 32).toNat ++ toBE 2 (t16 % 65536).toNat ++ toBE 1 (t16 / 2 ^ 48 % 256).toNat ++ toBE 1 flags

/-- R313: does a stamp word carry FLAGS[3]. -/
def wordInvalid (w : Bytes) : Bool := bit (fieldNat w 7 1) 3

/-- R312: the instant of a stamp word modulo 2^56, in 2^-16 ns. -/
def wordTime (w : Bytes) : Nat := fieldNat w 6 1 * 2 ^ 48 + fieldNat w 0 4 * 65536 + fieldNat w 4 2

/-- R312, R316: the signed difference of an instant and a stamp word, in 2^-16 ns. -/
def wordDiff (t16 : Int) (w : Bytes) : Int := toSigned 7 ((t16 - wordTime w) % 2 ^ 56).toNat

end Sys2Proof.Machine
end

