-- ==== Sys2Proof/Machine/Flags.lean ====
section
/-! DEFINITION. Status codes (Table 2-10) and the flag words the chapters compute. -/

namespace Sys2Proof.Machine

/-- 0x0000 OK. -/
def St.ok : Nat := 0x0000
/-- 0x1001 no such object. -/
def St.noObject : Nat := 0x1001
/-- 0x1002 no such sub. -/
def St.noSub : Nat := 0x1002
/-- 0x1003 access denied. -/
def St.access : Nat := 0x1003
/-- 0x1004 type or length mismatch. -/
def St.length : Nat := 0x1004
/-- 0x1005 value out of range. -/
def St.range : Nat := 0x1005
/-- 0x1006 commit conflict. -/
def St.conflict : Nat := 0x1006
/-- 0x1007 busy, owned by another partner. -/
def St.busy : Nat := 0x1007
/-- 0x1008 session required. -/
def St.session : Nat := 0x1008
/-- 0x1009 resource full. -/
def St.full : Nat := 0x1009
/-- 0x100A state forbids. -/
def St.state : Nat := 0x100A
/-- 0x100B authentication failed. -/
def St.auth : Nat := 0x100B
/-- 0x100C scheduled time already past. -/
def St.past : Nat := 0x100C

/-- The objects that a pairing rule names, if the rule is broken (R69, Table 2-12). -/
def breaks (c : Bool) (ks : List Nat) : List Nat := if c then ks else []

end Sys2Proof.Machine
end

