-- ==== Sys2Proof/Machine/Outputs.lean ====
section
/-! DEFINITION. OUT00 to OUT15 and TIME_VALID (09_pulse_outputs.md): records, edges, pin levels, time-state policies, steps. -/

namespace Sys2Proof.Machine

/-- What the output's record, staged or live, says (Table 9-1): mode, scale, polarity, start (2^-16 ns), rate, width (ps), count, delay
(ps), policies. -/
structure OutRec where
  mode : Nat
  scale : Nat
  polarity : Nat
  start : Nat
  num : Nat
  den : Nat
  width : Nat
  count : Nat
  delay : Int
  polUnsync : Nat
  polT4 : Nat
  polT5 : Nat
  deriving DecidableEq, Repr

/-- R254: the record of OUTn as `get` shows it. -/
def outRec (get : Nat → Val) (n : Nat) : OutRec :=
  { mode := (get (K.outMode n)).int.toNat
    scale := (get (K.outScale n)).int.toNat
    polarity := (get (K.outPolarity n)).int.toNat
    start := (get (K.outStart n)).int.toNat
    num := (get (K.outRateNum n)).int.toNat
    den := (get (K.outRateDen n)).int.toNat
    width := (get (K.outWidth n)).int.toNat
    count := (get (K.outCount n)).int.toNat
    delay := (get (K.outDelay n)).int
    polUnsync := (get (K.outPolUnsync n)).int.toNat
    polT4 := (get (K.outPolT4 n)).int.toNat
    polT5 := (get (K.outPolT5 n)).int.toNat }

/-- OUTn's own state. -/
def Device.out (d : Device) (n : Nat) : OutUnit := d.outs.getD n {}

/-- The part with OUTn's own state changed. -/
def Device.setOut (d : Device) (n : Nat) (f : OutUnit → OutUnit) : Device := { d with outs := updAt d.outs n f }

/-- Picoseconds in MT's unit. -/
def psU (ps : Int) : Int := ps * nsU / 1000

/-- Root time in ps of this tick. -/
def Device.rootPs (d : Device) : Nat := d.clock.ticks * 800

/-! ## Edge instants (R256, R257, R264) -/

/-- R256: the instant of leading edge k on the record's scale, in MT's unit. -/
def OutRec.edge (r : OutRec) (k : Nat) : Int :=
  if r.mode = 1 then (k * secU : Nat)
  else (r.start * fracU + k * r.den * secU / r.num : Nat)

/-- R257: an instant in MT's unit to the nearest 10 ps. -/
def pin10 (x : Int) : Int := (x * 100 + nsU / 2) / nsU * nsU / 100

/-- The first edge index, from `lo` up, whose instant on the scale is at or after x. -/
def OutRec.firstFrom (r : OutRec) (lo : Nat) (x : Int) : Nat :=
  let y := x.toNat
  let guess := if r.mode = 1 then y / secU
    else if r.mode = 2 || r.mode = 4 then (y - r.start * fracU) * r.num / (r.den * secU) else 0
  let g := max lo (guess - 2)
  if x ≤ r.edge g then g else if x ≤ r.edge (g + 1) then g + 1 else if x ≤ r.edge (g + 2) then g + 2
  else if x ≤ r.edge (g + 3) then g + 3 else g + 4

/-- R257, R259: the first edge, from `lo` up, whose pin instant, at the nearest 10 ps, is at or after this tick. -/
def Device.firstDue (d : Device) (r : OutRec) (lo : Nat) : Nat :=
  r.firstFrom lo (d.scaleFrom r.scale (d.clock.mt + psU r.delay - psU 5))

/-- R257: time runs to the tick of a pin instant (MT's unit) and gives the fine delay (ps), a multiple of 10, that is nearest; that of an instant that has
passed is 0. -/
def Device.toPin (d : Device) (pin : Int) : Device × Nat :=
  let d1 := d.elapse (d.ticksToMt (pin + psU 5 + 1).toNat - 1)
  let fine := (pin + psU 5 - d1.clock.mt) * 100 / nsU * 10
  if 800 ≤ fine then (d1.elapse 1, 0) else (d1, fine.toNat)

/-- R256: does the record have an edge k at all. -/
def OutRec.has (r : OutRec) (k : Nat) : Bool :=
  r.mode = 1 || r.mode = 2 || (r.mode = 3 && k = 0) || (r.mode = 4 && k < r.count)

/-- R256: is edge k the last one. -/
def OutRec.last (r : OutRec) (k : Nat) : Bool := r.mode = 3 || (r.mode = 4 && k + 1 ≥ r.count)

/-- The MT instant of a scale's value, in MT's unit: for UTC the first one at which it is reached (R264). -/
def Device.edgeMt (d : Device) (sc : Nat) (x : Int) : Int :=
  if sc = 0 then x
  else if sc = 1 then utcReach x (d.num K.utcBaseOffset) 0 (leapTable d.val)
  else if sc = 2 then x + 19 * secU
  else d.domReach (sc - 3) x

/-- R264: does a deleted second skip this value of UTC. -/
def Device.utcDeleted (d : Device) (x : Int) : Bool :=
  let m := d.edgeMt 1 x
  decide (x + utcOffsetOf (d.num K.utcBaseOffset) (leapTable d.val) m.toNat * secU < m)

/-- R264: the insertions of a table: the MT second at which the inserted second starts and the whole UTC second that comes again. -/
def insertions : Int → List (Nat × Int) → List (Nat × Int)
  | _, [] => []
  | base, (t, o) :: rest => if base < o then (t, t - o) :: insertions o rest else insertions o rest

/-- R264: the edge index of a PPS or PERIODIC record on a whole second of UTC. -/
def OutRec.onSecond (r : OutRec) (v : Int) : Option Nat :=
  let g := r.firstFrom 0 (v * secU)
  if r.scale = 1 && (r.mode = 1 || r.mode = 2) && r.edge g = v * secU then some g else none

/-- R264: the repetitions that OUTn's record has from MT second `lo` on: the MT second and the edge index. -/
def Device.outRepeats (d : Device) (n lo : Nat) : List (Nat × Nat) :=
  let r := outRec d.val n
  ((insertions (d.num K.utcBaseOffset) (leapTable d.val)).filter (fun e => lo ≤ e.1)).filterMap
    (fun e => (r.onSecond e.2).map (fun k => (e.1, k)))

/-- The first MT second whose pin instant under OUTn's record is at or after this tick. -/
def Device.nextSecond (d : Device) (n : Nat) : Nat :=
  (ceilDivInt (d.clock.mt + psU (d.num (K.outDelay n)) - psU 5) secU).toNat

/-- An edge of OUTn that is to come: is it a repetition (with its MT second), its index, its pin instant and its scheduled instant, both on MT in MT's
unit. -/
structure OutDue where
  again : Option Nat
  k : Nat
  pin : Int
  mt : Int
  deriving DecidableEq, Repr

/-- R256, R257, R264: the next edge of OUTn's record, a repetition at an insertion included. -/
def Device.outDue (d : Device) (n : Nat) : Option OutDue :=
  let r := outRec d.val n
  let o := d.out n
  let m := d.edgeMt r.scale (r.edge o.next)
  let own : OutDue := { again := none, k := o.next, mt := m, pin := m - psU r.delay }
  match (d.outRepeats n o.again).head? with
  | some (t, k) =>
    let rep : OutDue := { again := some t, k := k, mt := (t * secU : Nat), pin := (t * secU : Nat) - psU r.delay }
    some (if own.pin < rep.pin then own else rep)
  | none => if r.has o.next then some own else none

/-! ## Policies and pins (R258 to R262, R265 to R267) -/

/-- R260: the policy of the time state in force: 0 CONTINUE, 1 SQUELCH, 2 HOLD; in a Hearth FAULT that of T5 (R122). -/
def Device.outPolicy (d : Device) (n : Nat) : Nat :=
  let t := if d.nat K.hearthLock = 3 then 5 else d.nat K.mtState
  if t = 3 then 0 else if t = 4 then d.nat (K.outPolT4 n) else if t = 5 then d.nat (K.outPolT5 n)
  else d.nat (K.outPolUnsync n)

/-- R262: an output's status changes; entry to and exit from SQUELCHED or HELD are recorded. -/
def Device.setOutStatus (d : Device) (n st : Nat) : Device :=
  let old := d.nat (K.outStatus n)
  if old = st then d else
  let d1 := if old = 3 || old = 4 || st = 3 || st = 4 then d.report 0x0709 [n, old, st, d.num K.mtState] else d
  d1.setNum (K.outStatus n) st

/-- What a pin shows: high-impedance, or driven to a level. -/
inductive Pin where
  | hiZ | low | high
  deriving DecidableEq, Repr

/-- A driven pin. -/
def Pin.of (b : Bool) : Pin := if b then .high else .low

/-- R256, R259, R260, R265: what OUTn shows at root time `ps`: high-impedance in reset, before the first root lock, in Deep Off and in mode
0 once a pulse has completed; the active level in a pulse; for 4 ns after a pulse the inactive level it had; else the inactive level. -/
def Device.outPin (d : Device) (n ps : Nat) : Pin :=
  let o := d.out n
  if !d.clock.mtRun then .hiZ
  else if o.active then Pin.of (o.polarity = 0)
  else if ps < o.heldTill then Pin.of (o.polarity = 0)
  else if d.nat (K.outMode n) = 0 then .hiZ
  else Pin.of (o.polarity = 1)

/-- R267: TIME_VALID, driven from the first root lock, is high exactly in T3 and T4. -/
def Device.timeValid (d : Device) : Bool := d.clock.mtRun && (d.nat K.mtState = 3 || d.nat K.mtState = 4)

/-- R265, R267: what the TIME_VALID pin shows. -/
def Device.timeValidPin (d : Device) : Pin := if d.clock.mtRun then Pin.of d.timeValid else .hiZ

/-- Channel n's own state. -/
def Device.ch (d : Device) (n : Nat) : TdcChannel := d.tdc.chans.getD n {}

/-- The part with channel n's own state changed. -/
def Device.setCh (d : Device) (n : Nat) (f : TdcChannel → TdcChannel) : Device :=
  { d with tdc := { d.tdc with chans := updAt d.tdc.chans n f } }

/-- Table 8-1: an edge at OUTn's pad at root time `ps` goes to the loopback channels that name the pin. -/
def Device.padEdge (d : Device) (n ps : Nat) (falling : Bool) (sched : Option (Nat × Int × Nat)) : Device :=
  let e : PinEdge := { ps := ps, tU := d.clock.mt + psU ((ps : Int) - d.rootPs), stepped := d.clock.stepped, pulled := d.clock.pulled, dco := d.clock.dco, falling := falling
                       rootOk := d.nat K.hearthLock = 1, tstate := d.nat K.mtState, sched := sched }
  [21, 22, 23].foldl (fun d m => if d.nat (K.chLoopSrc m) = n then d.setCh m (fun c => { c with pad := c.pad ++ [e] }) else d) d

/-- A change of OUTn's pad from what it showed, at root time `ps`; high-impedance reads low (R266). -/
def Device.padMoved (d : Device) (n ps : Nat) (was : Pin) : Device :=
  if (was = .high) = (d.outPin n ps = .high) then d else d.padEdge n ps (was = .high) none

/-- R258: would a leading edge at root time `ps` fall in the previous pulse or within 4 ns of its end. -/
def OutUnit.blocked (o : OutUnit) (ps : Nat) : Bool := o.everPulsed && decide (ps < o.trailPs + 4000)

/-- R257, R260, R268: a leading edge leaves the pin at root time `ps`; its scheduled MT instant is in 2^-16 ns. -/
def Device.produceEdge (d : Device) (n ps mt16 : Nat) : Device :=
  let r := outRec d.val n
  let trail := ps + (r.width + 5) / 10 * 10
  let d1 := d.setOut n (fun o => { o with active := true, everPulsed := true, trailPs := trail, polarity := r.polarity, heldTill := 0 })
  let d2 := (d1.setNum (K.outLastEdge n) mt16).bump64 (K.outPulses n)
  (d2.padEdge n ps (r.polarity = 1) (some (mt16, r.delay, n))).emit (.edge n ps true)

/-- R258, R260, R261: scheduled edge k of OUTn falls due at root time `ps`: produced, or counted in OUT_MISSED under the
policy or R258; HELD needs a rearm; the last edge ends the record. -/
def Device.dueEdge (d : Device) (n k ps mt16 : Nat) : Device :=
  let r := outRec d.val n
  let o := d.out n
  let pol := d.outPolicy n
  let held := d.nat (K.outStatus n) = 4 && !(o.rearmed && pol = 0)
  let d0 := d.setOut n (fun o => { o with next := k + 1, rearmed := false })
  let d1 :=
    if held || pol ≠ 0 then
      (d0.setOutStatus n (if held then 4 else if pol = 1 then 3 else 4)).bump (K.outMissed n)
    else if o.blocked ps then (d0.setOutStatus n 2).bump (K.outMissed n)
    else (d0.setOutStatus n 2).produceEdge n ps mt16
  if r.last k then d1.setOutStatus n 5 else d1

/-! ## Steps of a scale (R263, R264) -/

/-- R263: OUTn's repetitions before the tick that has come are past; `count` counts them in OUT_MISSED. -/
def Device.passRepeats (d : Device) (n : Nat) (count : Bool) : Device :=
  let lo := (d.out n).again
  let hi := d.nextSecond n
  let m := ((d.outRepeats n lo).filter (fun e => e.1 < hi)).length
  let d1 := if count && m ≠ 0 then d.bumpBy 4 (K.outMissed n) m else d
  d1.setOut n (fun o => { o with again := hi })

/-- R263: the scale of OUTn has gone forward over its edges before k': they are skipped and counted; a one-shot or a burst's first skipped pulse
is produced late. -/
def Device.outForward (d : Device) (n k' : Nat) : Device :=
  let r := outRec d.val n
  let k := (d.out n).next
  if k' ≤ k || !r.has k then d else
  if r.mode = 1 || r.mode = 2 then
    (d.setOut n (fun o => { o with next := k' })).bumpBy 4 (K.outMissed n) (k' - k)
  else
    let stop := if r.mode = 3 then 1 else min k' r.count
    let late := d.scaleNow r.scale - (r.edge k - psU r.delay)
    let extra := stop - k - 1
    let d1 := d.dueEdge n k d.rootPs ((d.edgeMt r.scale (r.edge k)).toNat / fracU)
    let d2 := if d1.nat (K.outPulses n) = d.nat (K.outPulses n) then d1
      else d1.report 0x070A [n, sat32 (late / nsU), extra]
    let d3 := (d2.bumpBy 4 (K.outMissed n) extra).setOut n (fun o => { o with next := stop })
    if r.last (stop - 1) then d3.setOutStatus n 5 else d3

/-- R263: the scale of OUTn has stepped back: periodic edges continue after its time now, fired edges stay fired. -/
def Device.outBackward (d : Device) (n : Nat) : Device :=
  let r := outRec d.val n
  if r.mode = 1 || r.mode = 2 then d.setOut n (fun o => { o with next := d.firstDue r 0 }) else d

/-- Does OUTn have edges to come. -/
def Device.outRuns (d : Device) (n : Nat) : Bool := d.nat (K.outStatus n) ≠ 0 && d.nat (K.outStatus n) ≠ 5

/-- R263: every live output whose scale `sel` picks follows a step of its scale by `amount`, already made. -/
def Device.outsStepped (d : Device) (sel : Nat → Bool) (amount : Int) : Device :=
  (List.range 16).foldl (fun d n =>
    let sc := d.nat (K.outScale n)
    if sel sc && d.outRuns n then
      (if 0 < amount then d.outForward n (d.firstDue (outRec d.val n) (d.out n).next)
       else if amount < 0 then d.outBackward n else d).passRepeats n (0 < amount)
    else d) d

/-- R264: OUTn, on UTC, skips the edges from its next one on whose values a deleted second has taken away. -/
def Device.skipDeleted (d : Device) (n : Nat) : Device := d.outForward n ((outRec d.val n).firstFrom (d.out n).next (d.scaleNow 1))

/-- R264: UTC has come to the end of a deleted second: the outputs on it skip the values in it; one whose pin has earlier edges to come skips them
after those. -/
def Device.outsDeleted (d : Device) : Device :=
  (List.range 16).foldl (fun d n =>
    let r := outRec d.val n
    if r.scale = 1 && d.outRuns n && d.utcDeleted (r.edge (d.out n).next) then d.skipDeleted n else d) d

/-! ## Edges -/

/-- R264: the next edge of OUTn, whose value a deleted second skips, is counted at its pin instant, or produced late at the leap. -/
def Device.outSkipped (d : Device) (n : Nat) (e : OutDue) : Device :=
  let r := outRec d.val n
  if r.mode = 1 || r.mode = 2 then
    ((d.toPin e.pin).1.setOut n (fun o => { o with next := e.k + 1 })).bump (K.outMissed n)
  else
    (d.runToMt e.mt.toNat).skipDeleted n

/-- R257: an edge of OUTn falls due: time has run to its tick, and the fine delay is `fine` ps. -/
def Device.outFires (d1 : Device) (n : Nat) (e : OutDue) (fine : Nat) : Device :=
  let d2 := d1.dueEdge n e.k (d1.rootPs + fine) (e.mt.toNat / fracU)
  match e.again with
  | some t => d2.setOut n (fun o => { o with next := (d1.out n).next, again := t + 1 })
  | none => d2

/-- OUT_EDGE (R256, R257, R260, R264): time runs to the tick of OUTn's next leading edge and the edge falls due. -/
def Device.outEdge (d : Device) (n : Nat) : Device :=
  if !d.clock.mtRun || !d.outRuns n then d else
  match d.outDue n with
  | none => d
  | some e =>
    let sc := d.nat (K.outScale n)
    if sc = 1 && e.again = none && d.utcDeleted ((outRec d.val n).edge e.k) then d.outSkipped n e
    else (d.toPin e.pin).1.outFires n e (d.toPin e.pin).2

/-- OUT_TRAILING_EDGE (R257, R259): an active pulse ends OUT_WIDTH of root time after its leading edge; where the record now live has another
polarity, the pin holds the old inactive level for 4 ns more. -/
def Device.outTrailing (d : Device) (n : Nat) : Device :=
  let o := d.out n
  if !o.active then d else
  let d1 := d.runTo (ceilDiv o.trailPs 800)
  let now := d1.nat (K.outPolarity n)
  let turned := decide (now ≠ o.polarity)
  let d2 := d1.setOut n (fun o => { o with active := false, polarity := now, heldTill := if turned then o.trailPs + 4000 else 0 })
  let d3 := (d2.padEdge n o.trailPs (o.polarity = 0) none).emit (.edge n o.trailPs false)
  d3.padMoved n (o.trailPs + 4000) (Pin.of (o.polarity = 1))

/-- R261: a write to OUT_REARM of OUTn, answered with its status. -/
def Device.writeOutRearm (d : Device) (n : Nat) : Nat × Device :=
  if d.nat (K.outStatus n) = 4 && d.outPolicy n = 0 then
    (St.ok, d.setOut n (fun o => { o with rearmed := true }))
  else (St.state, d)

/-! ## Records (R255, R259, R262) -/

/-- R255: is the pulse of a periodic or burst output wider than its period less 4 ns. -/
def OutRec.tooWide (r : OutRec) : Bool := (r.mode = 2 || r.mode = 4) && (r.width + 4000) * r.num > r.den * 1000000000000

/-- R255: is the pulse of a PPS output wider than 1 s less 4 ns. -/
def OutRec.tooWidePps (r : OutRec) : Bool := r.mode = 1 && r.width > 999999996000

/-- R255: does a one-shot or burst that differs from the live record `old` have its pin instant (MT's unit) at or before the switch `sw`. -/
def OutRec.startsLate (r old : OutRec) (startPin : Int) (sw : Nat) : Bool :=
  (r.mode = 3 || r.mode = 4) && (r.mode ≠ old.mode || r.start ≠ old.start) && startPin ≤ sw

/-- R259, R262: OUTn switches to the record now live; `old` is the record it had, `was` what its pin showed. -/
def Device.outSwitch (d : Device) (n : Nat) (old : OutRec) (was : Pin) : Device :=
  let r := outRec d.val n
  let same := decide (r = old)
  if same && (r.mode = 2 || r.mode = 3 || r.mode = 4) then d else
  let d1 := (d.setNum (K.outPulses n) 0).setNum (K.outMissed n) 0
  let d2 := d1.setOut n (fun o => { o with
    next := d.firstDue r 0, again := d.nextSecond n, rearmed := false
    polarity := if o.active then o.polarity else r.polarity, heldTill := 0 })
  let pol := d2.outPolicy n
  let d3 := if r.mode = 0 then d2.setOutStatus n 0
    else if !r.has (d.firstDue r 0) then d2.setOutStatus n 5
    else d2.setOutStatus n (if pol = 1 then 3 else if pol = 2 then 4 else 1)
  d3.padMoved n d.rootPs was

/-- R268: a loopback stamp (MT in 2^-16 ns) of OUTn's leading edge is compared with its scheduled instant, less its OUT_DELAY; an error
beyond an I32 saturates (log entry 125). -/
def Device.placement (d : Device) (n : Nat) (stamp16 sched : Int) (delay : Int) : Device :=
  let err := (stamp16 - sched) * 1000 / 65536 + delay
  let bad := decide (100 < err.natAbs)
  let d1 := d.setNum (K.outPlaceErr n) (sat32 err)
  let d2 := if bad ≠ (d.out n).placeBad then d1.report 0x070B [n, if bad then 1 else 0, sat32 err] else d1
  d2.setOut n (fun o => { o with placeBad := bad })

/-- OUT_EDGE. -/
def execOutEdge (n : Nat) (s : State) : Host.Outcome State Fault Refusal := .next (s.on (·.outEdge n))

/-- OUT_TRAILING_EDGE. -/
def execOutTrailingEdge (n : Nat) (s : State) : Host.Outcome State Fault Refusal := .next (s.on (·.outTrailing n))

end Sys2Proof.Machine
end

