-- ==== Sys2Proof/Machine/Gates.lean ====
section
/-! DEFINITION. What MT steps and Hallway share (12_switch_fabric.md): the nominal rates of ports, gate lists and when they let a frame go
(R336 to R344), the egress queues and their credits (R347). Gate lists are reckoned in gate units: one is 1/1000 of MT's unit, so that
ps, ns and MT are whole numbers of them. -/

namespace Sys2Proof.Machine

/-! ## Nominal rates -/

/-- Table 10-1: the nominal rate in Mb/s of a port group's mode. -/
def modeRate (p mode : Nat) : Nat :=
  if p < 16 then 10
  else if p < 32 then (if mode = 0 then 100 else 1000)
  else if p < 40 then (if mode = 0 then 2500 else if mode = 1 then 5000 else 10000)
  else if mode = 0 then 25000 else 10000

/-- The nominal rate of port p in Mb/s. -/
def Device.portRate (d : Device) (p : Nat) : Nat := modeRate p (d.nat (K.portMode p))

/-- One bit time of port p in ps. -/
def Device.bitPs (d : Device) (p : Nat) : Nat := 1000000 / d.portRate p

/-- R338: a frame's transmission time X in ps: 8 * (L + 20) bit times. -/
def Device.frameX (d : Device) (p len : Nat) : Nat := 8 * (len + 20) * d.bitPs p

/-! ## Gate lists (R336 to R344) -/

/-- One ps in gate units. -/
def psG : Nat := nsU

/-- MT in gate units. -/
def Device.mtG (d : Device) : Nat := d.clock.mt * 1000

/-- A frame's transmission time X (R338) in gate units. -/
def Device.frameG (d : Device) (p len : Nat) : Nat := d.frameX p len * psG

/-- A port's schedule in gate units: entries (duration, gates), origin on MT and cycle. -/
structure Sched where
  entries : List (Nat × Nat)
  base : Nat
  cycle : Nat
  deriving DecidableEq, Repr

/-- Table 12-2: the entries of a gate list. -/
def gateEntries (b : Bytes) : List (Nat × Nat) :=
  (List.range (b.length / 8)).map (fun i => (fieldNat b (8 * i) 4 * 1000 * psG, fieldNat b (8 * i + 4) 1))

/-- The schedule of port p as `get` shows it. -/
def schedOf (get : Nat → Val) (p : Nat) : Sched :=
  { entries := gateEntries (get (K.gateList p)).bytes
    base := (get (K.gateBase p)).int.toNat * (1000 * fracU)
    cycle := (get (K.gateCycle p)).int.toNat * 1000 * psG }

/-- R338: the phase of an MT instant. -/
def Sched.phase (s : Sched) (t : Int) : Nat := ((t - s.base) % s.cycle).toNat

/-- The runs of adjoining entries with Qq's gate open, from position `pos` on. -/
def openRuns (q : Nat) : Nat → List (Nat × Nat) → List (Nat × Nat)
  | _, [] => []
  | pos, (dur, m) :: t =>
    if bit m q then
      match openRuns q (pos + dur) t with
      | (s, l) :: r => if s = pos + dur then (pos, dur + l) :: r else (pos, dur) :: (s, l) :: r
      | [] => [(pos, dur)]
    else openRuns q (pos + dur) t

/-- R338: the windows of Qq as (start, length); windows that meet across the end of the cycle are one. -/
def Sched.windows (s : Sched) (q : Nat) : List (Nat × Nat) :=
  match openRuns q 0 s.entries with
  | (0, l) :: r =>
    match r.getLast? with
    | some (x, y) => if x + y = s.cycle then r.dropLast ++ [(x, y + l)] else (0, l) :: r
    | none => [(0, l)]
  | w => w

/-- R338: is Qq's gate open for ever. -/
def Sched.free (s : Sched) (q : Nat) : Bool := s.entries.isEmpty || (s.windows q).any (fun w => s.cycle ≤ w.2)

/-- R338: when in a cycle a frame of transmission time x may be released: where each span of such phases starts, and its length. -/
def Sched.spans (s : Sched) (q x : Nat) : List (Nat × Nat) :=
  ((s.windows q).filter (fun w => x ≤ w.2)).map (fun w => (w.1, w.2 - x))

/-- R338, R343: how long after an MT instant a frame of transmission time x may be released; none if never (R339). -/
def Sched.ready (s : Sched) (q x : Nat) (t : Int) : Option Nat :=
  if s.free q then some 0 else
  let ph := s.phase t
  ((s.spans q x).map (fun w => if (ph + s.cycle - w.1) % s.cycle ≤ w.2 then 0 else (w.1 + s.cycle - ph) % s.cycle)).min?

/-- R343: GATE_WAIT in ns for frames of transmission time x. -/
def Sched.maxWait (s : Sched) (q x : Nat) : Nat :=
  let fits := s.spans q x
  let waits := fits.map (fun w =>
    ((fits.map (fun v => let g := (v.1 + 2 * s.cycle - (w.1 + w.2)) % s.cycle; if g = 0 then s.cycle else g)).min?).getD 0)
  if s.free q then 0 else if fits.isEmpty then 0xFFFFFFFF else ceilDiv (waits.foldl max 0) (1000 * psG)

/-- R338: the entry in force at an MT instant; 0xFFFF for an empty list. -/
def Sched.pos (s : Sched) (t : Int) : Nat :=
  let ph := s.phase t
  if s.entries.isEmpty then 0xFFFF
  else (s.entries.foldl (fun (i, acc) e => if acc + e.1 ≤ ph then (i + 1, acc + e.1) else (i, 2 ^ 200)) (0, 0)).1

/-- R347: for how much of the time up to phase `ph` of a cycle Qq's gate is open. -/
def openBefore (q ph : Nat) : Nat → List (Nat × Nat) → Nat
  | _, [] => 0
  | pos, (dur, m) :: t => (if bit m q then min dur (ph - pos) else 0) + openBefore q ph (pos + dur) t

/-- R347: Qq's open time between two MT instants. -/
def Sched.openTime (s : Sched) (q : Nat) (a b : Int) : Nat :=
  let per := openBefore q s.cycle 0 s.entries
  let f := fun (t : Int) => (t - s.base) / s.cycle * per + openBefore q (s.phase t) 0 s.entries
  if s.entries.isEmpty then (b - a).toNat else (f b - f a).toNat

/-- The least k for which k times `a`, modulo m, lies in [l, r]; none if there is none. It is the continued fraction of a and m, whose length
the fuel bounds. -/
def firstMultiple : Nat → Nat → Nat → Nat → Nat → Option Nat
  | 0, _, _, _, _ => none
  | fuel + 1, a, m, l, r =>
    if l = 0 then some 0 else if a = 0 then none
    else if a * ceilDiv l a ≤ r then some (ceilDiv l a)
    else (firstMultiple fuel (m % a) a ((a - r % a) % a) ((a - l % a) % a)).map (fun j => ceilDiv (l + m * j) a)

/-- R344: how long after an MT instant a span `wa` of schedule `a` starts while a span `wb` of schedule `b` lasts. -/
def Sched.meet (a b : Sched) (t : Int) (wa wb : Nat × Nat) : Option Nat :=
  let n := (wa.1 + a.cycle - a.phase t) % a.cycle
  let p := (b.phase t + n + b.cycle - wb.1) % b.cycle
  if p ≤ wb.2 then some n
  else (firstMultiple 400 (a.cycle % b.cycle) b.cycle (b.cycle - p) (b.cycle - p + wb.2)).map (fun k => n + k * a.cycle)

/-- R344, R365: the earliest wait after which a frame may be released under both schedules. -/
def Sched.readyBoth (a b : Sched) (q x : Nat) (t : Int) : Option Nat :=
  if a.free q then b.ready q x t else if b.free q then a.ready q x t
  else if a.ready q x t = some 0 && b.ready q x t = some 0 then some 0
  else ((a.spans q x).map (fun wa => ((b.spans q x).filterMap (fun wb =>
    [a.meet b t wa wb, b.meet a t wb wa].filterMap id |>.min?)))).flatten.min?

/-- R344, R365: the earliest wait after which a frame may be released under every schedule: the live one, or the live and the staged one. -/
def readyAll (ss : List Sched) (q x : Nat) (t : Int) : Option Nat :=
  match ss with
  | [] => some 0
  | [a] => a.ready q x t
  | a :: b :: _ => a.readyBoth b q x t

/-- The live schedule of port p. -/
def Device.sched (d : Device) (p : Nat) : Sched := schedOf d.val p

/-- R344: the schedules that gate-ready instants answer for: the live one, and the staged one while a commit of group 0x0B waits. -/
def Device.scheds (d : Device) (p : Nat) (pending : Bool) : List Sched :=
  if pending then [d.sched p, schedOf d.stagedVal p] else [d.sched p]

/-! ## Egress queues and credits (R347) -/

/-- Port p of Hallway. -/
def Device.egress (d : Device) (p : Nat) : Egress := d.hall.egress.getD p {}

/-- The part with port p of Hallway changed. -/
def Device.setEgress (d : Device) (p : Nat) (f : Egress → Egress) : Device :=
  { d with hall := { d.hall with egress := updAt d.hall.egress p f } }

/-- Queue q of port p. -/
def Device.queue (d : Device) (p q : Nat) : List Frame := (d.egress p).queues.getD q []

/-- The part with queue q of port p changed. -/
def Device.setQueue (d : Device) (p q : Nat) (f : List Frame → List Frame) : Device :=
  d.setEgress p (fun e => { e with queues := updAt e.queues q f })

/-- R347: queue q's credit brought up to this tick. -/
def Device.creditNow (d : Device) (p q : Nat) : Credit :=
  let c := (d.egress p).credits.getD q {}
  let idle := d.nat (K.cbsSlope p q)
  let now := d.clock.ticks
  let sent := (min now (c.sendEnd / 800)) - c.since
  let opn := ((d.sched p).openTime q c.mtG d.mtG) / (800 * psG) - sent
  let low := c.level + (sent : Int) * ((idle : Int) - d.portRate p * 1000)
  let up := low + (opn : Int) * idle
  let lvl := if (d.queue p q).isEmpty then (if 0 < low then 0 else min 0 up) else up
  { c with level := if idle = 0 then 0 else lvl, since := now, mtG := d.mtG }

/-- R347: every credit of port p is brought up to this tick. -/
def Device.bringCredits (d : Device) (p : Nat) : Device :=
  d.setEgress p (fun e => { e with credits := (List.range 8).map (fun q => d.creditNow p q) })

/-- R347: every credit of the part is brought up to this tick, before a change that bears on them: a switch or a step of MT. -/
def Device.bringAllCredits (d : Device) : Device := (List.range 44).foldl (fun d p => d.bringCredits p) d

/-- R88, R340, R347: MT steps by `du`: the credits have been brought up to the tick, and run on from the post-step MT. -/
def Device.creditsStepped (d : Device) : Device :=
  { d with hall := { d.hall with egress := d.hall.egress.map (fun e => { e with credits := e.credits.map (fun c => { c with mtG := d.mtG }) }) } }

end Sys2Proof.Machine
end

