-- ==== Sys2Proof/Machine/Cko.lean ====
section
/-! DEFINITION. The waveforms of CKO0 to CKO3 (R123, R124): cycles, what the pins show, and how they follow a step of MT. -/

namespace Sys2Proof.Machine

/-- CKOn beside its objects. -/
def Device.cko (d : Device) (n : Nat) : CkoUnit := d.clock.cko.getD n {}

/-- The part with CKOn's own state changed. -/
def Device.setCko (d : Device) (n : Nat) (f : CkoUnit → CkoUnit) : Device :=
  { d with clock := { d.clock with cko := updAt d.clock.cko n f } }

/-- The frequency of an aligned waveform, in whole Hz (R121). -/
def CkoWave.hz (w : CkoWave) : Nat := w.freq / 2 ^ 32

/-- R124: how far an aligned waveform stands behind the grid of whole seconds at an MT instant, in its unit of lag. -/
def CkoWave.lagAt (w : CkoWave) (mt : Nat) : Nat := if w.realign ≤ mt then 0 else w.lag

/-- R124: the last rising edge of an aligned waveform before it realigns, as `hz` times its MT: the last one that leaves a whole cycle, which
the wait for the whole second then stretches. -/
def CkoWave.lastLagged (w : CkoWave) : Nat := (w.realign * w.hz - secU - w.lag) / secU * secU + w.lag

/-- Where in its cycle a waveform is, and the whole cycle, in one unit: an aligned one at an MT instant, a free one at a root time (ps). -/
def CkoWave.pos (w : CkoWave) (mt ps : Nat) : Nat × Nat :=
  if w.aligned then
    let x := mt * w.hz
    if w.lagAt mt = 0 then (x % secU, secU)
    else if w.lastLagged ≤ x then (x - w.lastLagged, secU)
    else ((x + secU - w.lag) % secU, secU)
  else ((ps - w.startPs) * w.freq % (10 ^ 12 * 2 ^ 32), 10 ^ 12 * 2 ^ 32)

/-- Is a waveform in its high phase, the first half of its nominal cycle. -/
def CkoWave.isHigh (w : CkoWave) (mt ps : Nat) : Bool := (w.pos mt ps).1 * 2 < (w.pos mt ps).2

/-- R123: the root time (ps) at which a waveform has gone on by `part` halves of a cycle since its last rising edge. -/
def Device.ckoPhaseEnd (d : Device) (w : CkoWave) (part : Nat) : Nat :=
  let (p, c) := w.pos d.clock.mt d.rootPs
  let left := part * c / 2 - p
  if w.aligned then
    let goal := if part = 2 && w.lagAt d.clock.mt ≠ 0 && w.lastLagged ≤ d.clock.mt * w.hz then w.realign
      else d.clock.mt + ceilDiv left (max 1 w.hz)
    let n := d.ticksToMt goal
    (((d.rootPs + n * 800 : Nat) : Int) - (((d.elapse n).clock.mt : Int) - goal) * 1000 / nsU).toNat
  else d.rootPs + ceilDiv left (max 1 w.freq)

/-- What the pin of CKOn shows: an old waveform while it completes, the one in force, low while the output waits or is squelched, and
high-impedance while it is disabled or the root has not locked. -/
def Device.ckoPin (d : Device) (n : Nat) : Pin :=
  let u := d.cko n
  let show_ := fun (w : CkoWave) => Pin.of (w.isHigh d.clock.mt d.rootPs)
  match u.tail, u.wave with
  | some (w, t), v =>
    if d.rootPs < t then show_ w
    else match v with
      | some w => show_ w
      | none => if d.num (K.ckoStatus n) = 0 || !d.clock.mtRun then .hiZ else .low
  | none, some w => show_ w
  | none, none => if d.num (K.ckoStatus n) = 0 || !d.clock.mtRun then .hiZ else .low

/-- R123: the old waveform that CKOn still completes, with the root time (ps) of its end. -/
def Device.ckoTail (d : Device) (n : Nat) : Option (CkoWave × Nat) := (d.cko n).tail.filter (fun t => d.rootPs < t.2)

/-- R123: CKOn starts over with its settings after its current cycle: waiting for a whole MT second when aligned, running with a full first
cycle otherwise, high-impedance when disabled. -/
def Device.ckoStart (d : Device) (n : Nat) : Device :=
  let tail := match d.ckoTail n with
    | some t => some t
    | none => (d.cko n).wave.map (fun w => (w, d.ckoPhaseEnd w 2))
  let start := (tail.map (·.2)).getD d.rootPs
  let st : Nat := if d.num (K.ckoEnable n) = 0 then 0 else if d.num (K.ckoAlign n) = 1 then 3 else 1
  let free : CkoWave := { freq := d.nat (K.ckoFreq n), aligned := false, startPs := start, lag := 0, realign := 0 }
  (d.setCko n (fun _ => { since := (d.elapse (ceilDiv (start - d.rootPs) 800)).clock.mt, tail := tail, wave := if st = 1 then some free else none })).setNum (K.ckoStatus n) st

/-- R122, R123, R126: CKOn is squelched, in a FAULT whatever its policy, else by CKO_UNLOCK_POLICY 0: its high phase completes. One that is
squelched already stays as it is. -/
def Device.ckoSquelch (d : Device) (fault : Bool) (n : Nat) : Device :=
  if d.num (K.ckoStatus n) ≠ 0 && d.num (K.ckoStatus n) ≠ 2 && (fault || d.num (K.ckoUnlockPolicy n) = 0) then
    let shown := match d.ckoTail n with
      | some t => some t.1
      | none => (d.cko n).wave
    (d.setCko n (fun u => { u with
      wave := none
      tail := shown.map (fun w => (w, if w.isHigh d.clock.mt d.rootPs then d.ckoPhaseEnd w 1 else d.rootPs)) })).setNum (K.ckoStatus n) 2
  else d

/-- R123: when the root is back, a squelched CKOn restarts. -/
def Device.ckoResume (d : Device) (n : Nat) : Device :=
  if d.num (K.ckoStatus n) = 2 then d.ckoStart n else d

/-- R123: does this tick begin a whole MT second after the one in which CKOn began to wait. -/
def Device.ckoDue (d : Device) (n : Nat) : Bool := (d.cko n).since / secU < d.clock.mt / secU && d.clock.mt % secU < tickU

/-- CKO_ALIGN (R123): MT reaches a whole second and a waiting aligned output starts, on the grid of whole seconds. -/
def Device.ckoAligned (d : Device) (n : Nat) : Device :=
  if d.num (K.ckoStatus n) = 3 && d.clock.mtRun && n < 4 then
    let d1 := if d.ckoDue n then d else d.runToMt ((max d.clock.mt (d.cko n).since / secU + 1) * secU)
    let w : CkoWave := { freq := d1.nat (K.ckoFreq n), aligned := true, startPs := 0, lag := 0, realign := 0 }
    (d1.setCko n (fun u => { u with wave := some w })).setNum (K.ckoStatus n) 1
  else d

/-- R124: MT has stepped by `du` (its unit) from `old`: an aligned waveform lags its grid until the next whole second that its present cycle does
not run past, so that no cycle is shortened. -/
def CkoWave.stepped (w : CkoWave) (du : Int) (old now : Nat) : CkoWave :=
  if !w.aligned then w else
  let lag := ((w.lagAt old + du * w.hz) % secU).toNat
  let ends := now + ceilDiv (secU - (now * w.hz + secU - lag) % secU) (max 1 w.hz)
  let next := (now / secU + 1) * secU
  { w with lag := lag, realign := if lag = 0 || ends ≤ next then next else next + secU }

/-- R124: every clock output follows a step of MT by `du`, already made. -/
def Device.ckosStepped (d : Device) (du : Int) (old : Nat) : Device :=
  let f := fun (w : CkoWave) => w.stepped du old d.clock.mt
  { d with clock := { d.clock with cko := d.clock.cko.map (fun u =>
      { u with wave := u.wave.map f, tail := u.tail.map (fun t => (f t.1, t.2)), since := ((u.since : Int) + ((d.clock.mt : Int) - old)).toNat }) } }

/-- CKO_ALIGN. -/
def execCkoAlign (n : Nat) (s : State) : Host.Outcome State Fault Refusal := .next (s.on (·.ckoAligned n))

end Sys2Proof.Machine
end

