-- ==== Sys2Proof/Machine/Slots.lean ====
section
/-! DEFINITION. Scheduled-action slots and frozen groups (R50, R71, R73, R90 to R95, R579), apart from the switching of units. -/

namespace Sys2Proof.Machine

/-- 500 us in MT's unit: how long before its INSTANT an action latches (R73, R91). -/
def latchU : Nat := 500000 * nsU

/-- SLOT_STATE: 0 FREE, 1 PENDING, 2 LATCHED. -/
def Device.slotState (d : Device) (n : Nat) : Nat := d.nat (K.slotState n)

/-- SLOT_INSTANT in MT's unit. -/
def Device.slotInst (d : Device) (n : Nat) : Nat := d.nat (K.slotInstant n) * fracU

/-- What slot n holds beside its objects. -/
def Device.slot (d : Device) (n : Nat) : Slot := d.commit.slots.getD n {}

/-- R71, R579: is a group selected by a pending commit. -/
def Device.frozen (d : Device) (g : Nat) : Bool :=
  d.commit.imm.any (fun c => bit c.groups g) || d.commit.grants.any (fun c => bit c.groups g) ||
  (List.range 16).any (fun n => d.slotState n ≠ 0 && d.nat (K.slotKind n) = 1 && bit (d.slot n).groups g)

/-- R50, R68: the staged copies of a group revert to their live values. -/
def Device.revertGroup (d : Device) (g : Nat) : Device :=
  { d with staged := d.staged.filter (fun e => groupOf e.1 ≠ g) }

/-- The groups of a mask, ascending. -/
def groupsOf (mask : Nat) : List Nat := (List.range 17).filter (fun g => bit mask g)

/-- R50: the lock is released while a group is frozen, so its revert waits. -/
def Device.revertLater (d : Device) (g : Nat) : Device := { d with commit := { d.commit with reverts := g :: d.commit.reverts } }

/-- R50: groups that are freed revert if their revert has waited since a release; an acquisition of the lock ends the wait. -/
def Device.freeGroups (d : Device) (mask : Nat) : Device :=
  let due := (groupsOf mask).filter (fun g => d.commit.reverts.contains g && !d.frozen g)
  let d1 := due.foldl (fun d g => d.revertGroup g) d
  { d1 with commit := { d1.commit with reverts := d1.commit.reverts.filter (fun g => !due.contains g) } }

/-- R71, R91: does slot n hold a commit that has switched and waits for its port power-ups. -/
def Device.executing (d : Device) (n : Nat) : Bool := d.commit.grants.any (fun c => c.slot = n)

/-- R91: an action leaves slot n with an outcome; the slot becomes FREE. -/
def Device.endSlot (d : Device) (n result : Nat) : Device :=
  let d1 := (d.setNum (K.slotState n) 0).setNum (K.slotResult n) result
  if d.nat (K.slotKind n) = 1 then d1.setNum K.commitLastStatus result else d1

/-- R92, R94: the action of slot n is abandoned with a status. -/
def Device.abandonSlot (d : Device) (n st : Nat) : Device :=
  ((d.endSlot n st).report 0x0705 [n, st]).freeGroups (if d.nat (K.slotKind n) = 1 then (d.slot n).groups else 0)

/-- R91: do the conditions of Table 3-4 on state and sign allow a step by `amount` (2^-16 ns) now. -/
def Device.stepAllowed (d : Device) (amount : Int) : Bool :=
  !(amount < 0 && d.everLocked) && d.nat K.mtState ≠ 3

/-- Table 2-12: COMMIT_UNIT_MASK of group g shows the units that applied. -/
def Device.setUnitMask (d : Device) (g : Nat) (us : List Nat) : Device :=
  d.setNum (K.commitUnitMask (g - 1)) (us.foldl (fun m u => m + 2 ^ u) 0 : Nat)

/-- R68, R70, R73: the last commit of the groups of a mask ended with no unit applied. -/
def Device.noneApplied (d : Device) (mask : Nat) : Device := (groupsOf mask).foldl (fun d g => d.setUnitMask g []) d

/-- R73: does a unit of a time-affecting group among `groups` appear in `stuck`. -/
def timedStuck (groups : Nat) (stuck : List (Nat × Nat)) : Bool :=
  stuck.any (fun x => bit groups x.1 && groupTimed x.1)

/-- R73, R91, R92: the action of slot n latches, or fails its latch. -/
def Device.latchSlot (d : Device) (stuck : List (Nat × Nat)) (n : Nat) : Device :=
  if d.nat (K.slotKind n) = 2 then
    (if d.stepAllowed (d.slot n).amount then d.setNum (K.slotState n) 2 else d.abandonSlot n St.state)
  else if timedStuck (d.slot n).groups stuck then
    (((d.endSlot n St.state).noneApplied (d.slot n).groups).causedBy (d.slot n).src (·.report 0x0F04 [((d.slot n).groups % 2 ^ 32 : Nat), n, St.state])).freeGroups (d.slot n).groups
  else d.setNum (K.slotState n) 2

/-- R94: the actions after a step tick on which MT went from `old` to its present value, having read `top` at the most. -/
def Device.slotsStepped (d : Device) (old top : Nat) (stuck : List (Nat × Nat)) : Device :=
  (List.range 16).foldl (fun d n =>
    let i := d.slotInst n
    if d.slotState n = 0 || d.executing n then d
    else if old < i && i ≤ top then d.abandonSlot n St.past
    else if d.slotState n = 1 && i ≤ d.clock.mt + latchU && d.clock.mt < i then d.latchSlot stuck n
    else d) d

/-- The lowest free slot. -/
def Device.freeSlot (d : Device) : Option Nat := (List.range 16).find? (fun n => d.slotState n = 0)

/-- R71, R87: the slot that SLOT picks: the named one if free, 0xFF for the lowest free one. -/
def Device.pickSlot (d : Device) (slot : Nat) : Option Nat :=
  if slot = 0xFF then d.freeSlot else if slot < 16 && d.slotState slot = 0 then some slot else none

/-- R91: slot n takes an action: kind 1 commit or 2 step, due at an MT instant in 2^-16 ns. -/
def Device.fillSlot (d : Device) (n kind inst16 : Nat) (sl : Slot) : Device :=
  let d1 := d.setNums [(K.slotState n, 1), (K.slotKind n, kind), (K.slotInstant n, inst16)]
  { d1 with commit := { d1.commit with slots := updAt d1.commit.slots n (fun _ => { sl with src := d.foyer.cause }) } }

/-- SLOT_LATCH (R73, R91): MT comes to INSTANT minus 500 us of a PENDING action, and it latches. -/
def Device.slotLatch (d : Device) (n : Nat) (stuck : List (Nat × Nat)) : Device :=
  if d.slotState n = 1 && n < 16 then (d.runToMt (d.slotInst n - latchU)).latchSlot stuck n else d

/-- COMMIT_CANCEL (R73, R91): a PENDING action of the slot is cancelled; otherwise 0x100A. -/
def Device.cancelSlot (d : Device) (n : Nat) : Nat × Device :=
  if d.slotState n = 1 then
    let kind := d.nat (K.slotKind n)
    let g := if kind = 1 then (d.slot n).groups else 0
    let d1 := (d.setNum (K.slotState n) 0).setNum (K.slotResult n) 0
    (St.ok, (d1.report 0x0F06 [n, (g % 2 ^ 32 : Nat), kind]).freeGroups g)
  else (St.state, d)

/-- SLOT_LATCH. -/
def execSlotLatch (slot : Nat) (stuck : List (Nat × Nat)) (s : State) : Host.Outcome State Fault Refusal :=
  .next (s.on (·.slotLatch slot stuck))

end Sys2Proof.Machine
end

