-- ==== Sys2Proof/Machine/Mantel.lean ====
section
/-! DEFINITION. Mantel (03_time_model.md): steps of MT, MT_SET, leap seconds, domain offsets, replicas. -/

namespace Sys2Proof.Machine

/-- The high word of an I64. -/
def hi32 (v : Int) : Int := v / 2 ^ 32

/-- The low word of an I64. -/
def lo32 (v : Int) : Int := v % 2 ^ 32

/-- Saturated to I64. -/
def sat64 (v : Int) : Int := clamp (-(2 ^ 63)) (2 ^ 63 - 1) v

/-- Is Dn bound (DOM_MODE 0). -/
def Device.bound (d : Device) (n : Nat) : Bool := d.num (K.domMode n) = 0

/-- R215: event 0x0507 at each change of the inequality between SKY_UTC_BCAST and MT_UTC_OFFSET. -/
def Device.skyUtcCheck (d : Device) : Device :=
  let differs := decide (d.num K.skyUtcBcast ≠ d.utcOffset)
  if differs = d.sky.utcDiffers then d
  else ({ d with sky := { d.sky with utcDiffers := differs } } : Device).report 0x0507
    [d.num K.skyUtcBcast, d.utcOffset, if differs then 1 else 0]

/-- R205, R206: what the whole MT seconds up to this tick have brought Skylight: a rate change in force, a fast-fix second at its end. -/
def Device.skySettle (d : Device) : Device :=
  let tenth := (d.clock.mt / (secU / 10) + 1) * (secU / 10)
  { d with sky := { d.sky with
      rate := if d.sky.rateAt ≤ d.clock.mt then d.sky.rateNext else d.sky.rate
      fastUntil := if d.sky.fastUntil ≤ tenth then 0 else d.sky.fastUntil } }

/-- R198, R205, R206: MT has moved by `du` (its unit): a held aid's INSTANT moves with it, a rate change waits for the next whole MT second,
and a fast-fix second that MT has left is over. -/
def Device.skyFollows (d : Device) (du : Int) : Device :=
  let next := (d.clock.mt / secU + 1) * secU
  let b := d.oct K.skyAidPos
  let d1 : Device := { d with sky := { d.sky with
    rateAt := if d.sky.rate ≠ d.sky.rateNext then next else 0
    fastUntil := if d.sky.fastUntil = next then next else 0 } }
  if d.sky.aidHeld then d1.setOct K.skyAidPos (time96Bytes (time96Of (field b 0 12) + du / fracU).toNat ++ b.drop 12) else d1

/-- R99: the offset in force is compared with the last one recorded; a change is recorded, P2 0 at a table instant, 1 by commit. -/
def Device.syncUtc (d : Device) (cause : Int) : Device :=
  if d.utcOffset = d.clock.utcOff then d
  else
    let d1 := d.report 0x0706 [d.clock.utcOff, d.utcOffset, cause]
    ({ d1 with clock := { d1.clock with utcOff := d.utcOffset } } : Device).skyUtcCheck

/-- R319, R369: MT steps at an instant (2^-16 ns): a transmit stamp whose SFD has yet to cross the plane takes FLAGS[5], and is one
taken after the step. -/
def markStepped (mt16 : Nat) (r : Tag × Bytes × Int × Nat) : Tag × Bytes × Int × Nat :=
  if (mt16 : Int) < r.2.2.1 then
    (r.1, if bit (fieldNat r.2.1 7 1) 5 then r.2.1 else r.2.1.take 7 ++ toBE 1 (fieldNat r.2.1 7 1 + 32), r.2.2.1, r.2.2.2 + 1)
  else r

/-- R133: is REFIN input n the partner of a committed pair. -/
def Device.pairPartner (d : Device) (n : Nat) : Bool := n % 2 = 1 && d.num (K.refinPair (n - 1)) = 1

/-- R129: is candidate n time-capable. -/
def Device.timeCapable (d : Device) (n : Nat) : Bool :=
  n = 0 || 5 ≤ n || d.nat (K.refinFreq (n - 1)) = 1 || d.num (K.refinPair (n - 1)) = 1

/-- R153: the phase of candidate n (2^-16 ns); a REFIN's is that of the nearest second. -/
def nearestPhase (n : Nat) (v : Int) : Int := if 1 ≤ n && n ≤ 4 then (v + sec16 / 2) % sec16 - sec16 / 2 else v

/-- R139, R153: MT has stepped by `a16` (2^-16 ns): the phase that a candidate was last measured at is against MT as it now stands. -/
def Device.phasesStepped (d : Device) (a16 : Int) : Device :=
  (List.range 9).foldl (fun d n =>
    if d.timeCapable n && (d.therm.cands.getD n {}).lastPhase.isSome then
      d.setNum (K.thermRefPhase n) (nearestPhase n (d.num (K.thermRefPhase n) - a16)) else d) d

/-- R88: at this tick MT moves by `du` (its unit): replicas, scales and bound domains with it, the step objects updated. A reservation keeps
its root time (R369). -/
def Device.shiftMt (d : Device) (du : Int) : Device :=
  let mt' := if (d.clock.mt : Int) + du < 0 then Config.mtBelowEpoch (d.clock.mt + du) else (d.clock.mt + du).toNat
  let a16 := sat64 (((mt' : Int) - d.clock.mt) / fracU)
  let c := { d.clock with
    mt := mt'
    stepped := d.clock.stepped + ((mt' : Int) - d.clock.mt) / fracU
    stepAt := d.clock.ticks
    dom := d.clock.dom.mapIdx (fun n x => if d.bound n then x + ((mt' : Int) - d.clock.mt) * 2 ^ 48 else x) }
  let moved := ((mt' : Int) - d.clock.mt) * 1000
  let parl : Parl := { d.parl with
    returned := d.parl.returned.map (markStepped d.mt16)
    resv := d.parl.resv.map (fun r => { r with start := ((r.start : Int) + moved).toNat }) }
  let d1 := (({ d.bringAllCredits with clock := c, parl := parl } : Device).creditsStepped.bump K.mtStepCount).setNum K.mtLastStep a16
  ((List.range 8).foldl (fun d n => if d.bound n then d.bump (K.domStepCount n) else d) d1).phasesStepped (((mt' : Int) - d.clock.mt) / fracU)

/-- R88, R89, R99, R263: on the tick that has come MT moves by `du`; scales and outputs follow. A leap-table instant that a step carries
MT across is one that MT reaches, whatever the direction (0x0706 with P2 0). -/
def Device.moveMt (d0 : Device) (du : Int) (code : Nat) (p : List Int) : Device :=
  let d1 := d0.skySettle
  let off := d1.utcOffset
  let d2 := ((d1.shiftMt du).ckosStepped ((d1.shiftMt du).clock.mt - d1.clock.mt) d1.clock.mt).report code p
  let real := (d2.clock.mt : Int) - d1.clock.mt
  let d4 := d2.outsStepped (fun sc => sc = 0 || sc = 2 || (3 ≤ sc && d2.bound (sc - 3))) real
  let d5 := d4.outsStepped (fun sc => sc = 1) (real - (d4.utcOffset - off) * secU)
  (d5.skyFollows real).syncUtc 0

/-- R88, R89, R94: MT moves by `du` on the tick that has come, and the scheduled actions follow. -/
def Device.stepNow (d1 : Device) (du : Int) (stuck : List (Nat × Nat)) (code : Nat) (p : List Int) : Device :=
  let d2 := d1.moveMt du code p
  d2.slotsStepped d1.clock.mt d2.clock.mt stuck

/-- R88: a step tick: MT gets the increment of R75 plus `du`. -/
def Device.stepTick (d : Device) (du : Int) (stuck : List (Nat × Nat)) (code : Nat) (p : List Int) : Device :=
  (d.elapse 1).stepNow du stuck code p

/-- R85, R88: an automatic step by `amount` (2^-16 ns); the pull remainder becomes 0. -/
def Device.autoStep (d : Device) (amount : Int) (stuck : List (Nat × Nat)) : Device :=
  let d1 := d.stepTick (amount * fracU) stuck 0x0702 [hi32 amount, lo32 amount]
  { d1 with clock := { d1.clock with pull := 0 } }

/-- R87, R88: a commanded step by `amount` (2^-16 ns) from a slot, or 0xFF. -/
def Device.commandedStep (d : Device) (amount : Int) (slot : Nat) (stuck : List (Nat × Nat)) : Device :=
  d.stepTick (amount * fracU) stuck 0x0703 [hi32 amount, lo32 amount, slot]

/-- R86: a write to MT_SET of a valid TIME96 value (2^-16 ns). -/
def Device.writeMtSet (d : Device) (v16 : Nat) : Nat × Device :=
  if d.everLocked then (St.state, d)
  else (St.ok, { (d.setNum K.mtSet v16) with
    clock := { d.clock with setPending := d.clock.setPending ++ [(v16, d.clock.ticks, d.foyer.cause)] } })

/-- Table 3-5: the fields of a step request. -/
structure StepReq where
  amount : Int
  mode : Nat
  slot : Nat
  rsv : Nat
  inst : Nat
  nsBad : Bool
  deriving DecidableEq, Repr

/-- Table 3-5: a 24-byte step request. -/
def stepReq (b : Bytes) : StepReq :=
  { amount := toSigned 8 (fieldNat b 0 8), mode := fieldNat b 8 1, slot := fieldNat b 9 1, rsv := fieldNat b 10 2,
    inst := time96Of (field b 12 12), nsBad := time96Bad (field b 12 12) }

/-- R93: the commanded step of a slot on the tick that has come; the actions that it passes follow once the tick's own have executed. -/
def Device.commandedNow (d : Device) (amount : Int) (slot : Nat) : Device :=
  d.moveMt (amount * fracU) 0x0703 [hi32 amount, lo32 amount, slot]

/-- R87: a write to MT_STEP, checked in the order of Table 3-4. -/
def Device.writeMtStep (d : Device) (b : Bytes) : Nat × Device :=
  let r := stepReq b
  let sched := r.mode % 2 = 1
  if r.amount = 0 || 65536000000000000 < r.amount.natAbs || 2 ≤ r.mode || r.rsv ≠ 0
      || (sched && ((16 ≤ r.slot && r.slot ≠ 0xFF) || r.nsBad)) then (St.range, d)
  else if !d.stepAllowed r.amount then (St.state, d)
  else if !sched then
    (St.ok, { (d.setOct K.mtStep b) with
      clock := { d.clock with stepPending := d.clock.stepPending ++ [(r.amount, d.clock.ticks, d.foyer.cause)] } })
  else match d.pickSlot r.slot with
    | none => (St.full, d)
    | some n =>
      if r.inst * fracU < d.clock.mt + 1000000 * nsU then (St.past, d)
      else (St.ok, (d.setOct K.mtStep b).fillSlot n 2 r.inst { groups := 0, amount := r.amount })

/-- STEP_APPLY (R84, R88): an accepted immediate step applies at a tick within 1 ms of acceptance. One that MT's state has come to
forbid since (Table 3-4) is abandoned as R92 abandons a slot's, with 0xFF for the slot. -/
def Device.stepApply (d : Device) (delay : Nat) (stuck : List (Nat × Nat)) : Device :=
  match d.clock.stepPending with
  | [] => d
  | (a, t, src) :: rest =>
    let d0 := d.runTo (t + min delay (msTicks - 1))
    let d1 := d0.causedBy src (fun d => if d.stepAllowed a then d.commandedStep a 0xFF stuck else d.report 0x0705 [0xFF, St.state])
    { d1 with clock := { d1.clock with stepPending := rest } }

/-- DOM_PULL_COMPLETE (R102): the ticks pass that use up Dn's offset pull. -/
def Device.domPullComplete (d : Device) (n : Nat) : Device :=
  if !d.clock.mtRun || d.aMax = 0 then d else d.elapse (ceilDiv (d.clock.domPull.getD n 0).natAbs d.aMax)

/-- LEAP_PENDING_BEGIN (R99): MT comes within 86,400 s of the next entry's instant. -/
def Device.leapPendingBegin (d : Device) : Device :=
  match d.nextLeap with
  | some e => if d.clock.mtRun then d.runToMt ((e.1 - 86400) * secU) else d
  | none => d

/-- LEAP_INSTANT (R99, R264): MT reaches the next entry's instant. -/
def Device.leapInstant (d : Device) : Device :=
  match d.nextLeap with
  | some e =>
    if !d.clock.mtRun then d else
    let off := d.utcOffset
    let d1 := (d.runToMt (e.1 * secU)).syncUtc 0
    if d1.utcOffset < off then d1.outsDeleted else d1
  | none => d

/-- R104, R263: a step of Dn on its own account by an amount in 2^-16 ns; the event names it in ns. -/
def Device.domStep16 (d : Device) (n : Nat) (a16 : Int) : Device :=
  let c := { d.clock with dom := updAt d.clock.dom n (fun x => x + a16 * fracU * 2 ^ 48) }
  let d1 := (({ d with clock := c }).bump (K.domStepCount n)).report 0x0707 [n, hi32 (a16 / 65536), lo32 (a16 / 65536)]
  d1.outsStepped (fun sc => sc = 3 + n) (a16 * fracU)

/-- R104, R263: a step of Dn on its own account by `ns`. -/
def Device.domStep (d : Device) (n : Nat) (ns : Int) : Device := d.domStep16 n (ns * 65536)

/-- R102: a committed change of DOM_OFFSET by `ns`: a step in a free domain or before the first lock, else a pull. -/
def Device.domOffsetChange (d : Device) (n : Nat) (ns : Int) : Device :=
  if ns = 0 then d
  else if !d.bound n || !d.everLocked then d.domStep n ns
  else { d with clock := { d.clock with domPull := updAt d.clock.domPull n (fun r => r + ns * 2 ^ 48) } }

/-- R102, R103, R409: what Dn reads as a commit with this DOM_OFFSET and mode (true for bound) switches, in MT's unit; with `full` a pull that
the switch begins is taken as applied in full. -/
def Device.domIfApplied (d : Device) (n : Nat) (newOffset : Int) (binds full : Bool) : Int :=
  let now := d.scaleNow (3 + n)
  let moved := now + (newOffset - d.num (K.domOffset n)) * nsU
  if !binds then moved
  else if !d.bound n then (if full || !d.everLocked then d.clock.mt + newOffset * nsU else now)
  else if !d.everLocked then moved
  else if full then moved + 5 * d.clock.domPull.getD n 0 else now

/-- MT_REPLICA_FAULT (R20, R106): the unit's stamps of this tick are invalid; it realigns at the next tick. -/
def Device.replicaFault (d : Device) (u : Nat) : Device :=
  if d.clock.mtRun && (u < 44 || (0x100 ≤ u && u < 0x110)) then
    let others := d.clock.replicaBad.filter (fun e => e.1 ≠ u)
    let d1 := d.report 0x0708 [u]
    { d1 with clock := { d1.clock with replicaBad := (u, d.clock.ticks) :: others } }
  else d

/-- R20: is the unit's replica good at this tick. -/
def Device.replicaOk (d : Device) (u : Nat) : Bool := !d.clock.replicaBad.contains (u, d.clock.ticks)

/-- STEP_APPLY. -/
def execStepApply (delay : Nat) (stuck : List (Nat × Nat)) (s : State) : Host.Outcome State Fault Refusal :=
  .next (s.on (·.stepApply delay stuck))

/-- DOM_PULL_COMPLETE. -/
def execDomPullComplete (dom : Nat) (s : State) : Host.Outcome State Fault Refusal := .next (s.on (·.domPullComplete dom))

/-- LEAP_PENDING_BEGIN. -/
def execLeapPendingBegin (s : State) : Host.Outcome State Fault Refusal := .next (s.on (·.leapPendingBegin))

/-- LEAP_INSTANT. -/
def execLeapInstant (s : State) : Host.Outcome State Fault Refusal := .next (s.on (·.leapInstant))

/-- MT_REPLICA_FAULT. -/
def execMtReplicaFault (unit : Nat) (s : State) : Host.Outcome State Fault Refusal := .next (s.on (·.replicaFault unit))

end Sys2Proof.Machine
end

