-- ==== Sys2Proof/Machine/Holdover.lean ====
section
/-! DEFINITION. The DCO word, the oscillator model and holdover (R110 to R112, 06_holdover.md). -/

namespace Sys2Proof.Machine

/-- Is the root LOCKED (HEARTH_LOCK 1). -/
def Device.rootLocked (d : Device) : Bool := d.nat K.hearthLock = 1

/-- THERM_SELECTED. -/
def Device.selected (d : Device) : Nat := d.nat K.thermSelected

/-- What Thermostat holds for candidate n. -/
def Device.cand (d : Device) (n : Nat) : Cand := d.therm.cands.getD n {}

/-- The part with candidate n's own state changed. -/
def Device.setCandU (d : Device) (n : Nat) (f : Cand → Cand) : Device :=
  { d with therm := { d.therm with cands := updAt d.therm.cands n f } }

/-- The part with Thermostat's loop state changed. -/
def Device.setTherm (d : Device) (f : Therm → Therm) : Device := { d with therm := f d.therm }

/-- The part with the holdover state changed. -/
def Device.setHold (d : Device) (f : Holdover → Holdover) : Device := { d with hold := f d.hold }

/-- Is a time-capable candidate selected. -/
def Device.timeSelected (d : Device) : Bool := d.selected < 9 && d.timeCapable d.selected

/-! ## The DCO word -/

/-- R112: the limit of D. -/
def dLimit : Int := 2 ^ 36

/-- R111, R112: Thermostat asks for D; a value outside ±2^36 is held at the limit and recorded when a limit is reached or left. -/
def Device.requestD (d : Device) (v : Int) : Device :=
  let lim : Int := if dLimit < v then 1 else if v < -dLimit then -1 else 0
  let d1 := if lim = d.therm.dLimit then d else d.report 0x0304 [lim, hi32 v]
  d1.setTherm (fun t => { t with dTarget := clamp (-dLimit) dLimit v, dLimit := lim })

/-- R111: in one millisecond D moves toward the value asked for by at most 2^30. -/
def Device.slewD (d : Device) : Device :=
  d.setNum K.hearthDco (d.num K.hearthDco + clamp (-(2 ^ 30)) (2 ^ 30) (d.therm.dTarget - d.num K.hearthDco))

/-! ## The model -/

/-- R162: the model's terms as its objects report them. -/
def Device.hoModel (d : Device) : HoModel :=
  { y0 := d.num K.hoY0, t0 := d.num K.hoT0, a := d.num K.hoAgeing, c1 := d.num K.hoC1, c2 := d.num K.hoC2, theta0 := d.num K.hoTheta0 }

/-- R162: the model's y at an MT instant (2^-16 ns) and a temperature (0.001 °C), in 2^-48. -/
def HoModel.y (m : HoModel) (t16 : Nat) (theta : Int) : Int :=
  let dt := (t16 : Int) - m.t0
  let th := theta - m.theta0
  m.y0 + m.a * dt / (86400 * sec16) + m.c1 * th / 1000 + m.c2 * th * th / 1000000

/-- R162: a model's frequency now, as the D that would hold the root at 5.000 GHz. -/
def Device.dOf (d : Device) (m : HoModel) : Int := -(m.y d.mt16 (d.num K.hoTempNow))

/-- R136, R162: the model's prediction. -/
def Device.modelD (d : Device) : Int := d.dOf d.hoModel

/-- R167: the model takes a state, for a cause of event 0x0408. -/
def Device.setModel (d : Device) (st : Nat) (cause : Int) : Device :=
  if d.nat K.hoModelState = st then d
  else (d.report 0x0408 [d.num K.hoModelState, st, cause]).setNum K.hoModelState st

/-- The objects a saved model carries (0x2221:01 to 0B). -/
def modelKeys : List Nat :=
  [K.hoY0, K.hoT0, K.hoAgeing, K.hoC1, K.hoC2, K.hoTheta0, K.hoUf, K.hoUa, K.hoUt, K.hoAgeingPrior, K.hoTempSpan]

/-- R167: the model without coefficients and samples. -/
def Device.emptyModel (d : Device) (cause : Int) : Device :=
  let keep := d.num K.hoAgeingPrior
  let d1 := (modelKeys.foldl (fun d k => d.setNum k 0) d).setNum K.hoAgeingPrior keep
  ((d1.setNum K.hoLearnedTime 0).setHold (fun h => { h with samples := [] })).setModel 0 cause

/-- HO_MODEL_CLEAR (Table 6-3): the model becomes EMPTY and k becomes 1; 0x100A during holdover. -/
def Device.writeModelClear (d : Device) : Nat × Device :=
  if d.hold.active then (St.state, d) else (St.ok, (d.emptyModel 1).setNum K.hoUncScale 1)

/-- R165: may a learning sample be taken at this tick. -/
def Device.mayLearn (d : Device) : Bool :=
  d.selected < 9 && d.nat (K.thermRefState d.selected) = 5 && d.rootLocked && !d.hold.tempFault
  && d.therm.selSince + d.nat K.thermFreqGate * sTicks ≤ d.clock.ticks

/-- The mean of a list of integers, 0 for none. -/
def mean (xs : List Int) : Int := if xs.length = 0 then 0 else xs.foldl (· + ·) 0 / xs.length

/-- The values that a history (newest first) holds from a tick on, up to another. -/
def histFrom (t till : Nat) (xs : List (Nat × Int)) : List Int := (xs.filter (fun e => t ≤ e.1 && e.1 ≤ till)).map (·.2)

/-- The samples of the last HO_LEARN_WINDOW days (R166). -/
def Device.windowSamples (d : Device) : List Sample :=
  d.hold.samples.filter (fun x => d.mt16 ≤ x.t16 + d.nat K.hoLearnWindow * 86400 * sec16)

/-- The largest less the smallest temperature of samples. -/
def thetaSpan : List Sample → Int
  | [] => 0
  | x :: xs => (xs.foldl (fun m y => max m y.theta) x.theta) - (xs.foldl (fun m y => min m y.theta) x.theta)

/-- The MT span of samples, in 2^-16 ns. -/
def timeSpan : List Sample → Nat
  | [] => 0
  | x :: xs => (xs.foldl (fun m y => max m y.t16) x.t16) - (xs.foldl (fun m y => min m y.t16) x.t16)

/-- The part with HO_LEARNED_TIME and HO_TEMP_SPAN as the samples in the window give them (Table 6-3). -/
def Device.noteWindow (d : Device) : Device :=
  d.setNums [(K.hoLearnedTime, d.windowSamples.length), (K.hoTempSpan, thetaSpan d.windowSamples)]

/-- LEARNING_SAMPLE (R165): each second y = -D with the mean temperature over the second. The change from EMPTY has cause 0 (log entry 116). -/
def Device.learningSample (d0 : Device) : Device :=
  let d := d0.runTo (d0.hold.lastSample + sTicks)
  let d1 := d.setHold (fun h => { h with lastSample := d.clock.ticks })
  if !d.mayLearn then d1 else
  let smp : Sample := { t16 := d.mt16, y := -(d.num K.hearthDco)
                        theta := mean (histFrom (d.clock.ticks - sTicks) d.clock.ticks d.hold.temps) }
  let d2 := (d1.setHold (fun h => { h with samples := h.samples ++ [smp] })).noteWindow
  if d2.nat K.hoModelState = 0 then d2.setModel 1 0 else d2

/-- R166, R170: u_T of 0.05 ppb/°C, to the nearest 2^-48. -/
def utDefault : Int := 14074

/-- R166, Table 6-1: a fit over the samples, each term fitted where the window supports it and held fixed where not; an uncertainty is three
times its standard error, u_f with the rms residual on top. -/
def Device.fitModel (d : Device) (ss : List Sample) : Device :=
  let span := thetaSpan ss
  let aged := 86400 * sec16 ≤ timeSpan ss
  let prior := d.num K.hoAgeingPrior
  let f := Config.fit (ss.map (fun x => (x.t16, x.y, x.theta))) (if aged then none else some prior)
    (if 1000 ≤ span then none else some (d.num K.hoC1)) (if 4000 ≤ span then none else some (d.num K.hoC2))
  let d1 := d.setNums [(K.hoY0, f 0), (K.hoT0, f 1), (K.hoTheta0, mean (ss.map (·.theta))),
    (K.hoResidualRms, f 5), (K.hoUf, 3 * f 6 + f 5),
    (K.hoAgeing, if aged then f 2 else prior), (K.hoUa, if aged then 3 * f 7 else max prior.natAbs 28147),
    (K.hoUt, if 1000 ≤ span then 3 * f 8 else utDefault)]
  let d2 := if 1000 ≤ span then d1.setNum K.hoC1 (f 3) else d1
  let d3 := if 4000 ≤ span then d2.setNum K.hoC2 (f 4) else d2
  if aged then d3.setHold (fun h => { h with rates := h.rates ++ [f 2] }) else d3

/-- MODEL_REFIT (R166, R167): every 60 s the window is pruned and refitted, and the state may change. -/
def Device.modelRefit (d0 : Device) : Device :=
  let d := d0.runTo (d0.hold.lastRefit + 60 * sTicks)
  let ss := d.windowSamples
  let d1 := (d.setHold (fun h => { h with lastRefit := d.clock.ticks, samples := ss })).noteWindow
  let st := d.nat K.hoModelState
  if st = 0 || st = 3 || ss.length < 600 then d1 else
  let d2 := d1.fitModel ss
  let rms := d2.num K.hoResidualRms
  if st = 1 && d2.nat K.hoLearnMin ≤ ss.length && rms ≤ d2.num K.thermAccept then d2.setModel 2 0
  else if st = 2 && d2.num K.thermReject < rms then d2.setModel 1 0
  else d2

/-- R168: the model is written to the region that does not hold the newest copy. -/
def Device.saveModel (d : Device) : Device :=
  let gen := (d.models.filterMap (fun m => m.map (·.gen))).foldl max 0
  let at_ := if d.models.findIdx (fun m => m.any (fun c => c.gen = gen)) = 0 then 1 else 0
  let copy : ModelCopy := { gen := gen + 1, good := true, vals := modelKeys.map d.num, samples := d.hold.samples }
  { d with models := updAt d.models at_ (fun _ => some copy) }

/-- MODEL_SAVE (R168): once an hour a VALID model is saved by Study core 3. -/
def Device.modelSave (d0 : Device) : Device :=
  let d := d0.runTo (d0.hold.lastSave + 3600 * sTicks)
  let d1 := d.setHold (fun h => { h with lastSave := d.clock.ticks })
  if d.nat K.hoModelState = 2 && d.coreRuns 3 then d1.saveModel else d1

/-- R168: the copies of the model whose CRC-32C fails. -/
def Device.spoilModels (d : Device) (torn : List Nat) : Device :=
  { d with models := d.models.mapIdx (fun i m => if torn.contains i then m.map ({ · with good := false }) else m) }

/-- R168: at an MT restart the newest good copy is loaded and the model becomes RESTORED. -/
def Device.restoreModel (d : Device) : Device :=
  let good := d.models.filterMap (fun m => m.filter (·.good))
  match good.foldl (fun (b : Option ModelCopy) c => if b.all (fun x => x.gen < c.gen) then some c else b) none with
  | some c =>
    (((modelKeys.zip c.vals).foldl (fun d e => d.setNum e.1 e.2) d).setHold (fun h => { h with samples := c.samples })).noteWindow.setModel 3 3
  | none => d

/-! ## Temperature -/

/-- R164: a temperature fault begins or clears. -/
def Device.setTempFault (d : Device) (b : Bool) : Device :=
  if d.hold.tempFault = b then d
  else (d.setHold (fun h => { h with tempFault := b })).report 0x040A [if b then 1 else 0, d.num K.hoTempSrc]

/-- R171: one 100 ms reading enters the sum of the bound's temperature term; during a fault as 10 °C. -/
def Device.accrueTemp (d : Device) : Device :=
  if !d.hold.active || d.hold.freqOnly then d else
  let dev := if d.hold.tempFault then 10000 else (d.num K.hoTempNow - d.hold.theta0).natAbs
  d.setHold (fun h => { h with sum := h.sum + dev })

/-- The natural logarithm of a / b in 2^-32, for a and b above 0: by powers of 2 and the series of artanh. -/
def lnFix (a b : Nat) : Int :=
  let x := a * 2 ^ 64 / b
  let k : Int := (x.log2 : Int) - 64
  let m : Nat := if 0 ≤ k then x / 2 ^ (k.toNat + 32) else x * 2 ^ (-k).toNat / 2 ^ 32
  let z : Int := ((m : Int) - 2 ^ 32) * 2 ^ 32 / (m + 2 ^ 32)
  let (s, _) := (List.range 11).foldl (fun (acc : Int × Int) i => (acc.1 + acc.2 / (2 * i + 1), acc.2 * z / 2 ^ 32 * z / 2 ^ 32)) (0, z)
  k * 2977044472 + 2 * s

/-- R163: the temperature in 0.01 °C that a resistance (ohm) of a 10 kohm thermistor gives under a β (K); the 10 kohm hold at 25 °C. -/
def ntcCenti (beta ohms : Nat) : Int :=
  roundDiv (29815 * beta * 2 ^ 32) (beta * 2 ^ 32 + 29815 * lnFix ohms 10000 / 100) - 27315

/-- R163: what the OSC_TS conversion gives, in 0.001 °C: a resolution of 0.01 °C and an error within ±0.5 °C. -/
def ntcTemp (beta ohms : Nat) : Int := 10 * (ntcCenti beta ohms + clamp (-50) 50 (Config.ntcError beta ohms))

/-- TEMP_SAMPLE (R163, R164): every 100 ms θ is taken from the selected source: the die reading, the thermistor's resistance,
or HO_TEMP_HOST. -/
def Device.tempSample (d0 : Device) (die : Int) (dieOk : Bool) (ohms : Nat) : Device :=
  let d := d0.runTo (d0.hold.lastTemp + sTicks / 10)
  let src := d.nat K.hoTempSrc
  let fault := ohms < 100 || 1000000 < ohms || !dieOk || (src = 2 && d.hold.hostAt + 10 * sTicks ≤ d.clock.ticks)
  let theta := if src = 0 then die else if src = 1 then ntcTemp (d.nat K.hoNtcB) ohms else d.num K.hoTempHost
  let d1 := d.setTempFault fault
  let d2 := if fault then d1 else d1.setNum K.hoTempNow theta
  let d3 := d2.setHold (fun h => { h with
    lastTemp := d.clock.ticks
    temps := (d.clock.ticks, d2.num K.hoTempNow) :: h.temps.filter (fun e => d.clock.ticks ≤ e.1 + 1000 * sTicks) })
  d3.accrueTemp

/-- TEMP_HOST_TIMEOUT (R164): with source 2, 10 s pass without a write of HO_TEMP_HOST. -/
def Device.tempHostTimeout (d : Device) : Device :=
  if d.nat K.hoTempSrc = 2 then (d.runTo (d.hold.hostAt + 10 * sTicks)).setTempFault true else d

/-! ## Holdover -/

/-- MT without its steps, in its unit (R182: a commanded step does not change the timer). -/
def Device.mtSteady (d : Device) : Int := d.clock.mt - d.clock.stepped * fracU

/-- HO_ELAPSED: s since the freeze. -/
def Device.hoElapsed (d : Device) : Nat := if d.hold.active then (d.clock.ticks - d.hold.freeze) / sTicks else 0

/-- HO_COMPAT_REMAIN: what the countdown has left, in s. -/
def Device.compatRemain (d : Device) : Nat :=
  if d.hold.active && d.hold.compat ≠ 0 then ceilDiv (d.hold.compatDue - d.mtSteady).toNat secU else 0

/-- R170, R178: |THERM_PHASE_ERR| + |MT_PULL_REMAIN|, in 2^-16 ns. -/
def Device.phaseSpread (d : Device) : Nat := (d.num K.thermPhaseErr).natAbs + d.clock.pull.natAbs / 2 ^ 32

/-- 2^-16 ns to whole ns, to the nearest. -/
def nearestNs (v : Nat) : Nat := (v + 32768) / 65536

/-- R171, R173: the bound at a tick, in 2^-16 ns; a frequency-only candidate gives its regression's residual as u_f. -/
def Device.boundAt (d : Device) (tick : Nat) : Int :=
  let h := d.hold
  let k := d.num K.hoUncScale
  let tau : Int := ((tick - h.freeze) / sTicks : Nat)
  let td : Int := ((h.seg - h.freeze) / sTicks : Nat)
  let q : Int := k * 1000000000 * 65536
  if h.freqOnly then h.base + q * Config.freqResidual (d.cand h.freqCand).resid (d.nat K.thermFreqGate) * (tau - td) / 2 ^ 48
  else h.base + q * h.uf * (tau - td) / 2 ^ 48 + q * h.ua * (tau * tau - td * td) / (172800 * 2 ^ 48)
    + q * h.ut * h.sum / (10000 * 2 ^ 48)

/-- R171, R173, R178: HO_BOUND in ns. -/
def Device.hoBound (d : Device) : Nat :=
  if d.hold.active then (if d.hold.saturated then 0xFFFFFFFF else d.nat K.hoBound)
  else if d.nat K.mtState = 4 || d.nat K.mtState = 5 then min 0xFFFFFFFF (nearestNs d.phaseSpread) else 0

/-- R172: MT enters T5 for a cause of event 0x0409, whose P1 is HO_BOUND before the change (log entry 115). -/
def Device.enterT5 (d : Device) (cause : Int) : Device :=
  if d.nat K.mtState = 5 then d else (d.setTimeState 5).report 0x0409 [cause, d.hoBound]

/-- R171: the bound is recomputed. -/
def Device.computeBound (d : Device) : Device :=
  d.setNum K.hoBound (min 0xFFFFFFFF (nearestNs (d.boundAt d.clock.ticks).toNat) : Nat)

/-- R172: in T4 without a time-capable candidate selected, a bound over HO_LIMIT moves MT to T5, unless the mode is 2. -/
def Device.boundTest (d : Device) : Device :=
  if d.hold.active && d.nat K.mtState = 4 && !d.timeSelected && d.hold.compat ≠ 2 && d.nat K.hoLimit < d.hoBound
  then d.enterT5 1 else d

/-- BOUND_UPDATE (R171): each second in holdover D follows the model and the bound is recomputed. -/
def Device.boundUpdate (d0 : Device) : Device :=
  if !d0.hold.active then d0 else
  let d := d0.runTo (d0.hold.lastBound + sTicks)
  let d1 := d.setHold (fun h => { h with lastBound := d.clock.ticks })
  let d2 := if d1.rootLocked && !d1.hold.freqOnly then
      d1.requestD (if d1.hold.useModel then d1.dOf d1.hold.model else d1.hold.meanD) else d1
  d2.computeBound.boundTest

/-- R170: holdover begins; `freeze` is the tick at which the DPLL froze and `b0` the spread then; P0 of event 0x0406. -/
def Device.enterHoldover (d : Device) (freeze : Nat) (b0 : Nat) (p0 : Int) : Device :=
  let valid := d.nat K.hoModelState = 2
  let base := max b0 (10 * 65536)
  let from_ := freeze - d.nat K.thermFreqGate * sTicks
  let d1 := d.setHold (fun h => { h with
    active := true, freeze := freeze, freezeMt := (d.clock.mt - (d.clock.ticks - freeze) * tickU) / fracU, seg := freeze, base := base, freqOnly := false, sum := 0, saturated := false
    useModel := valid
    model := d.hoModel
    meanD := (match histFrom from_ freeze h.dHist with | [] => d.therm.integ | ds => mean ds)
    uf := if valid then d.num K.hoUf else d.num K.hoUfDefault
    ua := if valid then d.num K.hoUa else 0
    ut := if valid then d.num K.hoUt else utDefault
    theta0 := if valid then d.num K.hoTheta0 else mean (histFrom from_ freeze h.temps)
    compat := d.nat K.hoCompatMode
    compatDue := d.mtSteady + (d.nat K.hoCompatTimer * secU : Nat)
    lastBound := d.clock.ticks })
  let t := d1.nat K.mtState
  let d2 := (if t = 3 || t = 4 then d1.setTimeState 4 else d1).setNum K.hoBound (nearestNs base)
  d2.report 0x0406 [p0, d2.num K.hoModelState, nearestNs base]

/-- R173: a frequency-only candidate takes over the prediction, or hands it back: the bound goes on from its value now. -/
def Device.holdSegment (d : Device) (freqOnly : Bool) (n : Nat) : Device :=
  let b := d.boundAt d.clock.ticks
  d.setHold (fun h => { h with base := b, seg := d.clock.ticks, freqOnly := freqOnly, freqCand := n, sum := 0 })

/-- R178, R179: holdover ends with a time-capable candidate selected at a measured phase (2^-16 ns). -/
def Device.endHoldover (d0 : Device) (phase : Int) : Device :=
  if !d0.hold.active then d0 else
  let d := if d0.hold.saturated then d0 else d0.computeBound
  let bound := d.hoBound
  let bad := bound * 65536 < phase.natAbs
  let d1 := d.report 0x0407 [d.hoElapsed, bound, sat32 (phase / 65536), if bad then 1 else 0]
  let d2 := d1.setHold (fun h => { h with active := false, saturated := false })
  if !bad then d2 else
  let k := d2.nat K.hoUncScale
  let k' := max k (min 16 (if bound = 0 then 16 else ceilDiv phase.natAbs (bound * 65536)))
  let d3 := d2.bump K.hoBoundViolations
  if k < k' then (d3.setNum K.hoUncScale k').report 0x040B [k, k'] else d3

/-- COMPAT_TIMER_EXPIRY (R182): in modes 1 and 2 the countdown ends; T4 moves to T5. -/
def Device.compatExpiry (d : Device) : Device :=
  if !d.hold.active || d.hold.compat = 0 || !d.clock.mtRun then d else
  let d1 := d.runToMt (d.hold.compatDue + d.clock.stepped * fracU).toNat
  if d1.nat K.mtState = 4 then d1.enterT5 2 else d1

/-- LEARNING_SAMPLE. -/
def execLearningSample (s : State) : Host.Outcome State Fault Refusal := .next (s.on (·.learningSample))
/-- MODEL_REFIT. -/
def execModelRefit (s : State) : Host.Outcome State Fault Refusal := .next (s.on (·.modelRefit))
/-- MODEL_SAVE. -/
def execModelSave (s : State) : Host.Outcome State Fault Refusal := .next (s.on (·.modelSave))
/-- TEMP_SAMPLE; FB_DIE_TEMP shows what the die sensor reads (R539). -/
def execTempSample (die : Int) (dieOk : Bool) (ohms : Nat) (s : State) : Host.Outcome State Fault Refusal :=
  .next (s.on (fun d => let d1 := d.tempSample die dieOk ohms; if dieOk then d1.setNum K.fbDieTemp die else d1))
/-- TEMP_HOST_TIMEOUT. -/
def execTempHostTimeout (s : State) : Host.Outcome State Fault Refusal := .next (s.on (·.tempHostTimeout))

end Sys2Proof.Machine
end

