-- ==== Sys2Proof/Machine/Thermostat.lean ====
section
/-! DEFINITION. Thermostat (05_reference_selection.md): candidates, monitors, selection, the loop and lock.
Candidate 0 is SKY, 1 to 4 REFIN0 to REFIN3, 5 to 8 PTC0 to PTC3 (Table 5-1). -/

namespace Sys2Proof.Machine

/-- THERM_REF_STATE of candidate n (Table 5-5). -/
def Device.refState (d : Device) (n : Nat) : Nat := d.nat (K.thermRefState n)

/-- R140: with QUALIFYING left, a refused phase entry is set and recorded again. -/
def Device.leaveState (d : Device) (n : Nat) : Device := d.setCandU n (fun c => { c with r4 := false })

/-- A candidate takes a state of Table 5-5; a change is recorded. -/
def Device.setRef (d : Device) (n st : Nat) : Device :=
  if d.refState n = st then d
  else
    let d1 := (d.report 0x0401 [n, d.refState n, st, d.num (K.thermRefReason n)]).setNum (K.thermRefState n) st
    if d.refState n = 2 then d1.leaveState n else d1

/-- R146: candidate n's gate time, which leaves out the intervals that hold-offs left out. -/
def Device.gateNow (d : Device) (n : Nat) : Nat := d.clock.ticks - (d.cand n).gap

/-- R136, R138, R159: candidate n's frequency gate restarts, so that its next reading uses later measurements only. -/
def Device.restartGate (d : Device) (n : Nat) : Device :=
  d.setCandU n (fun c => { c with gateStart := d.gateNow n, goneSince := d.clock.ticks, points := [], hasFreq := false })

/-- 2^-48 as 0.001 ppb. -/
def milliPpb (v : Int) : Int := v * 1000000000000 / 2 ^ 48

/-- R137, R138, R141: candidate n is disqualified for a reason, with event 0x0403's P2. -/
def Device.disqualify (d : Device) (n reason : Nat) (p2 : Int) : Device :=
  (((d.setNum (K.thermRefReason n) reason).report 0x0403 [n, reason, p2]).setRef n 2).setCandU n (fun c => { c with r4 := false })

/-- R133, R144: is candidate n configured to be monitored; a PTC needs its instance to be a time receiver. -/
def Device.candEnabled (d : Device) (n : Nat) : Bool :=
  d.num (K.thermRefEnable n) = 1 && !(1 ≤ n && n ≤ 4 && d.pairPartner (n - 1))
  && (n < 5 || (d.num (K.instEnable (n - 5)) = 1 && d.nat (K.instRole (n - 5)) ≠ 0))

/-- R140: the predicted bound B of the phase monitor, in ns. -/
def Device.boundB (d : Device) : Nat := if d.nat K.mtState = 3 then 0 else d.hoBound

/-- R140: does candidate n pass the phase monitor. -/
def Device.phaseOk (d : Device) (n : Nat) : Bool :=
  d.nat K.mtState < 3 || !d.timeCapable n ||
  (d.num (K.thermRefPhase n)).natAbs ≤ (d.nat K.thermPhaseQual + d.boundB) * 65536

/-- R136: is the prediction the free-running root, with THERM_ACQ_LIMIT in place of both limits. -/
def Device.acquiring (d : Device) : Bool := d.nat K.hoModelState ≠ 2 && !d.therm.everSelected

/-- R136, R137: the accept limit in force. -/
def Device.acceptLimit (d : Device) : Nat := if d.acquiring then d.nat K.thermAcqLimit else d.nat K.thermAccept

/-- R136, R137: the reject limit in force. -/
def Device.rejectLimit (d : Device) : Nat := if d.acquiring then d.nat K.thermAcqLimit else d.nat K.thermReject

/-- R136: the prediction, as the D that would hold the root on frequency; with a candidate selected earlier and none now it is where the DPLL
stands (log entry 117). -/
def Device.prediction (d : Device) : Int :=
  if d.nat K.hoModelState = 2 then d.modelD else if d.therm.everSelected then d.therm.integ else 0

/-- R136, R137: does candidate n pass the frequency monitor for entry: its last reading is within the accept limit, and in QUALIFYING a
reading stands since the gate began. -/
def Device.freqOk (d : Device) (n : Nat) : Bool :=
  ((d.cand n).hasFreq || d.refState n = 3) && (d.num (K.thermRefFreq n)).natAbs ≤ d.acceptLimit

/-- R140: reason 4 stands for candidate n, once until the phase monitor passes or QUALIFYING is left. -/
def Device.refusePhase (d : Device) (n : Nat) : Device :=
  if (d.cand n).r4 then d else
  (((d.setNum (K.thermRefReason n) 4).report 0x0403 [n, 4, sat32 (d.num (K.thermRefPhase n) / 65536)])).setCandU n
    (fun c => { c with r4 := true })

/-- R137, R140, R144: candidate n in QUALIFYING or WAIT_RESTORE is held against its monitors; THERM_WTR counts as it is now (log entry 118). -/
def Device.qualify (d0 : Device) (n : Nat) : Device :=
  let d := if d0.phaseOk n then d0.setCandU n (fun c => { c with r4 := false }) else d0
  if d.refState n = 2 then
    if d.freqOk n && d.phaseOk n && (d.cand n).active then
      (if d.everLocked then (d.setRef n 3).setCandU n (fun c => { c with wtrDue := d.clock.ticks + d.nat K.thermWtr * sTicks })
      else d.setRef n 4)
    else if d.freqOk n && !d.phaseOk n then d.refusePhase n else d
  else if d.refState n = 3 then
    if !d.phaseOk n then (d.refusePhase n).setRef n 2
    else if !d.freqOk n then d.setRef n 2 else d
  else d

/-- R144, R146: candidate n's activity is present; its gate goes on without the interval that a hold-off left out. Where the parent has changed
meanwhile, the return is a jump (R406). -/
def Device.activityPresent (d : Device) (n : Nat) : Device :=
  if !d.rootLocked || d.refState n = 0 || (d.cand n).active then d else
  let c := d.cand n
  let d1 := d.setCandU n (fun c => { c with active := true, parentChanged := false })
  if d.refState n = 6 && d.clock.ticks ≤ c.holdDue then
    let d2 := (d1.setCandU n (fun x => { x with gap := x.gap + (d.clock.ticks - c.goneSince), returned := d.timeCapable n }))
    if c.parentChanged then (d2.disqualify n 3 (sat32 (d.num (K.thermRefPhase n) / 65536))).restartGate n else d2.setRef n c.holdFrom
  else if d.refState n = 6 then ((d1.setRef n 1).restartGate n).setRef n 2
  else if d.refState n = 1 then (d1.restartGate n).setRef n 2
  else d1

/-- R144, R145: candidate n's activity is absent; THERM_HOLDOFF counts as it is now (log entry 118). -/
def Device.activityAbsent (d : Device) (n : Nat) : Device :=
  if !d.rootLocked || d.refState n = 0 || !(d.cand n).active then d else
  let st := d.refState n
  let spread := d.phaseSpread
  let d1 := (d.setNum (K.thermRefReason n) 1).setCandU n (fun c => { c with
    active := false, holdFrom := st, activityLost := d.clock.ticks, goneSince := d.clock.ticks, returned := false, b0 := spread
    holdDue := d.clock.ticks + d.nat K.thermHoldoff * msTicks })
  if st = 4 || st = 5 then d1.setRef n (if d.nat K.thermHoldoff = 0 then 1 else 6) else d1.setRef n 1

/-- R135, R147: the activity monitor takes candidate n's activity from its source, unless the root is not LOCKED. -/
def Device.syncActivity (d : Device) (n : Nat) : Device :=
  if (d.cand n).src then d.activityPresent n else d.activityAbsent n

/-- R135: candidate n's source becomes active, or ceases to be. -/
def Device.setSource (d : Device) (n : Nat) (b : Bool) : Device := (d.setCandU n (fun c => { c with src := b })).syncActivity n

/-- R133: the candidate that REFIN input i belongs to: a pair is candidate lead + 1. -/
def Device.refinCand (d : Device) (i : Nat) : Nat := if d.pairPartner i then i else i + 1

/-- R133, R135: is the candidate of REFIN input i active; a pair is with both members. -/
def Device.refinOn (d : Device) (i : Nat) : Bool :=
  let lead := i / 2 * 2
  if d.num (K.refinPair lead) = 1 then d.num (K.refinActivity lead) = 1 && d.num (K.refinActivity (lead + 1)) = 1
  else d.num (K.refinActivity i) = 1

/-- R133, R135: the activity of the candidate of REFIN input i. -/
def Device.refinSource (d : Device) (i : Nat) : Device := d.setSource (d.refinCand i) (d.refinOn i)

/-- ACTIVITY_TIMEOUT (R135, R147): 1.5 nominal periods pass without an on-time edge of REFIN input i; a pair fails with either member. While
the root is not LOCKED the monitor, which its stamps do not reach, stands. -/
def Device.activityTimeout (d : Device) (i : Nat) : Device :=
  if 4 ≤ i || d.num (K.refinActivity i) = 0 || !d.rootLocked then d else
  let due := (d.cand (i + 1)).lastEdge + 1500000000000 / d.nat (K.refinFreq i) + 1
  ((d.runTo (ceilDiv due 800)).setNum (K.refinActivity i) 0).refinSource i

/-- R132, R135, R147: an on-time edge of REFIN input i, at root time `ps`, reaches the activity monitor while the root is LOCKED. -/
def Device.refinEdge (d : Device) (i ps : Nat) : Device :=
  if !d.rootLocked then d else
  ((d.setNum (K.refinActivity i) 1).setCandU (i + 1) (fun c => { c with lastEdge := ps })).refinSource i

/-- R144: candidate n is enabled or disabled as its settings now say; one that is enabled with its source active goes on to QUALIFYING. -/
def Device.refreshEnable (d : Device) (n : Nat) : Device :=
  if d.candEnabled n then (if d.refState n = 0 then (d.setRef n 1).syncActivity n else d)
  else if d.refState n = 0 then d
  else (d.setRef n 0).setCandU n (fun c => { c with active := false, lastPhase := none, points := [], hasFreq := false })

/-! ## Quality -/

/-- R142: the QL of candidate n in force. -/
def Device.qlInForce (d : Device) (n : Nat) : Nat :=
  let o := d.nat (K.thermRefQlOvr n)
  if o ≠ 0 then o else if 1 ≤ n && n ≤ 4 then 8 else (d.cand n).qlAdv

/-- R142: THERM_REF_QL follows; a change is recorded as 0x0404. -/
def Device.refreshQl (d : Device) (n : Nat) : Device :=
  let q := d.qlInForce n
  if d.nat (K.thermRefQl n) = q then d
  else (d.report 0x0404 [n, d.num (K.thermRefQl n), q]).setNum (K.thermRefQl n) q

/-- R142: candidate n advertises a QL. -/
def Device.advertiseQl (d : Device) (n q : Nat) : Device := (d.setCandU n (fun c => { c with qlAdv := q })).refreshQl n

/-- Table 5-4: the QL of a received clockClass and clockAccuracy. -/
def ptcQl (cls acc : Nat) : Nat :=
  if cls = 6 then
    (if 0x17 ≤ acc && acc ≤ 0x20 then 1 else if acc = 0x21 then 2 else if acc = 0x22 || acc = 0x23 then 3
     else if 0x24 ≤ acc && acc ≤ 0xFE then 4 else 15)
  else if cls = 7 then 5
  else if cls = 13 || cls = 14 then 6
  else if cls = 52 || cls = 58 || cls = 187 || cls = 193 then 10
  else if cls = 248 then 12
  else 15

/-! ## Lock -/

/-- R154: the two conditions of a lock. -/
def Device.lockCond (d : Device) : Bool :=
  d.nat K.mtState = 2 && d.timeSelected && d.phaseSpread ≤ d.nat K.thermLockThresh * 65536
  && (d.num (K.thermRefFreq d.selected)).natAbs ≤ d.nat K.thermAccept

/-- R154: since when the conditions hold without a break. -/
def Device.trackLock (d : Device) : Device :=
  if !d.lockCond then d.setTherm (fun t => { t with lockSince := none })
  else if d.therm.lockSince = none then d.setTherm (fun t => { t with lockSince := some d.clock.ticks }) else d

/-- LOCK_DWELL_EXPIRY (R154): the conditions have held for THERM_LOCK_TIME; MT enters T3. -/
def Device.lockDwell (d : Device) : Device :=
  match d.therm.lockSince with
  | some t =>
    let d1 := d.runTo (t + d.nat K.thermLockTime * sTicks)
    if d1.lockCond && d1.rootLocked then
      ((d1.setTherm (fun t => { t with lockSince := none })).report 0x0405
        [d1.selected, sat32 (d1.num K.thermPhaseErr / 65536)]).setTimeState 3
    else d1
  | none => d

/-- R80: with a reference selected again, the state that the pull remainder gives. -/
def Device.followPull (d : Device) : Device :=
  if !(d.nat K.mtState = 4 || d.nat K.mtState = 5) || !d.timeSelected || !d.rootLocked then d else
  let r := d.clock.pull.natAbs
  if r ≤ d.nat K.thermLockThresh * 65536 * 2 ^ 32 then d.setTimeState 3
  else if r ≤ d.nat K.hoLimit * 65536 * 2 ^ 32 then d.setTimeState 4
  else d.enterT5 1

/-- PULL_COMPLETE (R80, R83): the ticks pass that use up the pull remainder. -/
def Device.pullComplete (d : Device) : Device :=
  if !d.clock.mtRun || d.aMax = 0 then d else (d.elapse (ceilDiv d.clock.pull.natAbs d.aMax)).followPull

/-- MT_SET_APPLY (R84, R86): the accepted value replaces MT at a tick within 1 ms of acceptance; T0 becomes T1, and in T2 acquisition starts
again. If MT has locked since, the value is abandoned as R92 abandons a slot's action, with 0xFF for the slot. -/
def Device.mtSetApply (d : Device) (delay : Nat) (stuck : List (Nat × Nat)) : Device :=
  match d.clock.setPending with
  | [] => d
  | (v16, t, src) :: rest =>
    let d0 := d.runTo (t + min delay (msTicks - 1))
    let d1 : Device := { d0 with clock := { d0.clock with setPending := rest } }
    if d1.everLocked then d1.causedBy src (·.report 0x0705 [0xFF, St.state]) else
    let du := ((v16 * fracU : Nat) : Int) - (d1.elapse 1).clock.mt
    let a16 := sat64 (du / fracU)
    let d2 := d1.causedBy src (·.stepTick du stuck 0x0704 [hi32 a16, lo32 a16])
    let d3 : Device := { d2 with clock := { d2.clock with pull := 0 } }
    if d3.nat K.mtState = 0 then d3.causedBy src (·.setTimeState 1)
    else if d3.nat K.mtState = 2 then
      (d3.setTherm (fun th => { th with integ := d3.prediction, integLow := 0, lockSince := none, selSince := d3.clock.ticks })).setNum K.thermPhaseErr 0
    else d3

/-- PULL_WITHIN_LOCK_THRESH (R80): the shrinking remainder comes within HO_LIMIT, or within THERM_LOCK_THRESH. -/
def Device.pullWithin (d : Device) : Device :=
  if !(d.nat K.mtState = 4 || d.nat K.mtState = 5) || !d.timeSelected || !d.rootLocked || d.aMax = 0 then d else
  let goal := if d.nat K.mtState = 5 && d.nat K.thermLockThresh ≤ d.nat K.hoLimit then d.nat K.hoLimit else d.nat K.thermLockThresh
  let excess := d.clock.pull.natAbs - goal * 65536 * 2 ^ 32
  (d.elapse (ceilDiv excess d.aMax)).followPull

/-! ## Selection -/

/-- R130: may candidate n be selected in the time state in force. -/
def Device.selectable (d : Device) (n : Nat) : Bool :=
  let t := d.nat K.mtState
  if t = 0 then n = 0 || 5 ≤ n else if t < 3 then d.timeCapable n else true

/-- R148: does candidate n rank. -/
def Device.ranks (d : Device) (n : Nat) : Bool :=
  let st := d.refState n
  (st = 4 || st = 5 || (st = 6 && n = d.selected)) && d.nat (K.thermRefQl n) < 15 && d.selectable n

/-- R148: the rank of candidate n as one number; lower is better. -/
def Device.rankKey (d : Device) (n : Nat) : Nat :=
  (((if d.timeCapable n then 0 else 1) * 16 + d.nat (K.thermRefQl n)) * 16 + d.nat (K.thermRefPrio n)) * 16 + n

/-- The ranked candidate with the best key. -/
def Device.firstRanked (d : Device) : Option Nat :=
  (List.range 9).foldl (fun b n =>
    if d.ranks n && b.all (fun m => d.rankKey n < d.rankKey m) then some n else b) none

/-- R148: the candidate to be selected: forced, revertive or non-revertive. A candidate in HOLD_OFF is never newly chosen,
which `ranks` sees to (R149). -/
def Device.choose (d : Device) : Option Nat :=
  let f := d.nat K.thermForce
  if f < 9 && d.ranks f then some f
  else if d.num K.thermRevertive = 1 then d.firstRanked
  else
    let s := d.selected
    if s < 9 && d.ranks s then
      match d.firstRanked with
      | some m =>
        if (d.timeCapable m && !d.timeCapable s) || (d.timeCapable m = d.timeCapable s && d.nat (K.thermRefQl m) < d.nat (K.thermRefQl s))
        then some m else some s
      | none => some s
    else d.firstRanked

/-- R83: a phase correction (2^-48 ns) joins the remainder. -/
def Device.addPull (d : Device) (p : Int) : Device := { d with clock := { d.clock with pull := d.clock.pull + p } }

/-- The selected candidate stops being selected (Table 5-5). -/
def Device.deselect (d : Device) : Device :=
  let s := d.selected
  if 9 ≤ s then d
  else if d.refState s = 5 then d.setRef s 4
  else d.setCandU s (fun c => { c with holdFrom := 4 })

/-- R170: the tick and the spread (2^-16 ns) of the freeze: when the lost candidate's activity went, if it is lost in the hold-off or by a jump on
its return, else now. -/
def Device.freezeOf (d : Device) (old : Nat) : Nat × Nat :=
  if old < 9 && (!(d.cand old).active || (d.cand old).returned) then ((d.cand old).activityLost, (d.cand old).b0) else (d.clock.ticks, d.phaseSpread)

/-- R85, R153, R155: candidate n is selected at this evaluation. -/
def Device.select (d0 : Device) (n : Nat) (stuck : List (Nat × Nat)) : Device :=
  let old := d0.selected
  let t := d0.nat K.mtState
  let cap := d0.timeCapable n
  let phase := if cap then d0.num (K.thermRefPhase n) else 0
  let big := decide (d0.nat K.thermStepThresh * 65536 < phase.natAbs)
  let steps := (t = 1 || (t = 2 && big)) && cap
  let pulled := if steps || t = 0 then 0 else phase
  let pred := d0.prediction
  let d1 := (d0.deselect.setRef n 5).report 0x0402 [old, n, sat32 (pulled / 65536)]
  let d2 := ((d1.setNum K.thermSelected n).bump K.thermSwitchCount).setTherm (fun th => { th with
    integ := pred, integLow := 0, everSelected := true, lastSel := some n, selSince := d0.clock.ticks
    lockSince := if t = 2 && !big then th.lockSince else none })
  let d3 := if steps then d2.autoStep phase stuck else d2.addPull (pulled * 2 ^ 32)
  let d4 := d3.setNum K.thermPhaseErr 0
  if t = 1 then d4.setTimeState 2
  else if t = 0 then
    let d5 := d4.setTimeState 2
    if big then d5.autoStep phase stuck else d5.setNum K.thermPhaseErr phase
  else if 3 ≤ t then
    let d4 := d4.setHold (fun h => { h with restoreSince := none })
    (if cap then (d4.endHoldover phase).followPull
     else if d4.hold.active then d4.holdSegment true n
     else (d4.enterHoldover (d0.freezeOf old).1 (d0.freezeOf old).2 1).holdSegment true n)
  else d4

/-- R150: no candidate ranks: holdover in T3 to T5, T1 from T2. -/
def Device.selectNone (d : Device) : Device :=
  let old := d.selected
  let t := d.nat K.mtState
  let d1 := if old < 9 then
      ((d.deselect.report 0x0402 [old, 0xFF, 0]).setNum K.thermSelected 0xFF).setTherm (fun th => { th with lockSince := none })
    else d
  if t = 2 then d1.setTimeState 1
  else if 3 ≤ t then
    if !d1.hold.active then d1.enterHoldover (d.freezeOf old).1 (d.freezeOf old).2 0
    else if d1.hold.freqOnly then d1.holdSegment false 0 else d1
  else d1

/-- R168: may a RESTORED model's gate run: a candidate is selected in T3. -/
def Device.restoreRuns (d : Device) : Bool :=
  d.nat K.hoModelState = 3 && d.nat K.mtState = 3 && d.selected < 9 && d.refState d.selected = 5

/-- R168: since when the gate of a RESTORED model's check runs. -/
def Device.trackRestore (d : Device) : Device :=
  if !d.restoreRuns then d.setHold (fun h => { h with restoreSince := none })
  else if d.hold.restoreSince = none then d.setHold (fun h => { h with restoreSince := some d.clock.ticks }) else d

/-- SELECTION_EVALUATION (R148 to R150): every 1 ms the candidates are ranked and the selection applied; frozen while the root
is not LOCKED (R147). -/
def Device.evaluate (d0 : Device) (stuck : List (Nat × Nat)) : Device :=
  let d := (d0.runTo (d0.therm.lastEval + msTicks))
  let d1 := d.setTherm (fun t => { t with lastEval := d.clock.ticks })
  if !d1.rootLocked || !d1.clock.mtRun then d1 else
  (match d1.choose with
   | none => d1.selectNone
   | some n => if n = d1.selected then d1.followPull else d1.select n stuck).trackLock.trackRestore

/-! ## Measurements -/

/-- R139: the part of a candidate's phase that MT's steps and pulls explain, in 2^-16 ns. -/
def Device.mtMoved (d : Device) : Int := d.clock.stepped + d.clock.pulled / 2 ^ 32

/-- A sum of D over ticks as time in 2^-16 ns. -/
def dco16 (v : Int) : Int := v * 4 * 65536 / (5 * 2 ^ 48)

/-- R136: a measurement enters candidate n's regression; those older than a gate before it leave it. -/
def Device.addPoint (d : Device) (n : Nat) (count free : Int) : Device :=
  let now := d.gateNow n
  d.setCandU n (fun c => { c with
    points := { gate := now, count := count, free := free } ::
      c.points.filter (fun p => now ≤ p.gate + d.nat K.thermFreqGate * sTicks) })

/-- R134, R138: a measurement of a candidate's phase is on its way to the monitors; none is while the root is not LOCKED (R147). -/
def Device.offerPhase (d : Device) (m : PhaseIn) : Device :=
  if !d.rootLocked then d else d.setTherm (fun t => { t with phases := t.phases ++ [m] })

/-- R138, R139: the measurement of candidate n's phase against MT (2^-16 ns, before its delay) at this tick. -/
def Device.phaseHere (d : Device) (n : Nat) (raw : Int) : PhaseIn :=
  { cand := n, raw := raw, tick := d.clock.ticks, mt16 := d.mt16, moved := d.mtMoved, dco := d.clock.dco }

/-- R134, R153: the phase of candidate n that counts: less THERM_REF_DELAY but for a PTC; a REFIN's is that of the nearest second. -/
def Device.phaseOf (d : Device) (n : Nat) (raw : Int) : Int :=
  nearestPhase n (if n < 5 then raw - d.num (K.thermRefDelay n) * 65536 / 1000 else raw)

/-- R138, R139: is the measurement, of steady phase q, a jump from the one before it: beyond what its frequency offset (the predicted one where no reading
stands) explains over the interval, a REFIN's to the nearest second. -/
def Device.isJump (d : Device) (m : PhaseIn) (q : Int) : Bool :=
  match (d.cand m.cand).lastPhase with
  | some (q0, t0, s0) =>
    let f := if (d.cand m.cand).hasFreq then (d.cand m.cand).freqAbs else d.prediction
    let expected := dco16 (f * ((m.tick - t0 : Nat) : Int) - (m.dco - s0))
    decide (d.nat K.thermStepThresh * 65536 < (nearestPhase m.cand (q - q0 - expected)).natAbs)
  | none => false

/-- R138 to R140, R153: a measurement of candidate n's phase passes the jump and phase monitors and, if n is selected, is the DPLL's error. -/
def Device.phaseMeasured (d : Device) (m : PhaseIn) (stuck : List (Nat × Nat)) : Device :=
  let n := m.cand
  if !d.rootLocked || 9 ≤ n || d.refState n = 0 || !(d.cand n).active || !d.timeCapable n then d else
  let q := d.phaseOf n m.raw + m.moved
  let p := nearestPhase n (q - d.mtMoved)
  let jump := d.isJump m q
  let st := d.refState n
  let d1 := (d.setNum (K.thermRefPhase n) p).setCandU n (fun c => { c with lastPhase := some (q, m.tick, m.dco), phaseMt := m.mt16 })
  let d2 := if !jump then d1.setCandU n (fun c => { c with returned := false })
    else (if st = 4 || st = 5 || st = 6 then d1.disqualify n 3 (sat32 (p / 65536)) else if st = 3 then d1.setRef n 2 else d1).restartGate n
  let root16 : Int := (m.tick * 4 * 65536 / 5 : Nat)
  let d3 := (if 1 ≤ n && n ≤ 4 then d2 else d2.addPoint n (root16 + q) (root16 - dco16 m.dco)).qualify n
  if d3.selected ≠ n || d3.refState n ≠ 5 then d3 else
  let err := p - d3.clock.pull / 2 ^ 32
  let d4 := (d3.setNum K.thermPhaseErr err).trackLock
  if d4.nat K.mtState = 2 && d4.nat K.thermStepThresh * 65536 < err.natAbs then
    ((d4.autoStep p stuck).setNum K.thermPhaseErr 0).trackLock
  else d4

/-- CANDIDATE_PHASE_MEASUREMENT (R138): the oldest measurement of candidate n on its way arrives. -/
def Device.phaseArrives (d : Device) (n : Nat) (stuck : List (Nat × Nat)) : Device :=
  match d.therm.phases.find? (fun m => m.cand = n) with
  | some m => (d.setTherm (fun t => { t with phases := t.phases.erase m })).phaseMeasured m stuck
  | none => d

/-- R129, R132, R133, R153: a stamp of REFIN input i, of edge number `count`, goes to its candidate: to its regression, and if the input is at
1 Hz as its phase; a pair takes frequency from its lead and phase from its partner. MT, its steps and pulls and the sum of D are those at the
edge (R139). -/
def Device.refinStamp (d : Device) (i : Nat) (c : Capture) : Device :=
  let n := d.refinCand i
  if !d.rootLocked || d.refState n = 0 || !(d.cand n).active then d else
  let d1 := if d.pairPartner i then d else
    let last : Int := ((d.cand n).points.head?.map (·.count)).getD (c.count : Int)
    d.addPoint n (last + ((c.count : Int) - last) % 2 ^ 32) ((c.ps * 65536 / 1000 : Nat) - dco16 c.dco)
  if d1.nat (K.refinFreq i) = 1 && d1.num (K.refinPair i) = 0 then
    d1.offerPhase { cand := n, raw := -(c.tU / fracU), tick := c.ps / 800, mt16 := c.tU.toNat / fracU, moved := c.stepped + c.pulled / 2 ^ 32, dco := c.dco }
  else d1

/-- R132, R136: candidate n's frequency against the unsteered root by the regression over its last gate, in 2^-48, with the rms residual (2^-16 ns). -/
def Device.regress (d : Device) (n : Nat) : Option (Int × Nat) :=
  let within := (d.cand n).points.filter (fun p => d.gateNow n ≤ p.gate + d.nat K.thermFreqGate * sTicks)
  let (c, sn, st, snn, snt, stt) := fitSums (within.map (fun p => (p.count, p.free)))
  let sxx := c * snn - sn * sn
  let sxy := c * snt - sn * st
  let syy := c * stt - st * st
  let rate : Int := if 1 ≤ n && n ≤ 4 then d.nat (K.refinFreq (n - 1)) else sec16
  if c < 2 || sxx = 0 || sxy ≤ 0 then none
  else some (roundDiv (sec16 * sxx * 2 ^ 48) (rate * sxy) - 2 ^ 48, isqrt ((syy - sxy * sxy / sxx) / (c * c)).toNat)

/-- R136, R137: candidate n's regression over a full gate gives its frequency, which is held against the prediction. -/
def Device.freqReading (d : Device) (n : Nat) : Device :=
  if d.refState n = 0 || !(d.cand n).active || d.gateNow n < (d.cand n).gateStart + d.nat K.thermFreqGate * sTicks then d else
  match d.regress n with
  | none => d
  | some (abs, resid) =>
    let r := abs - d.prediction
    let d1 := (d.setNum (K.thermRefFreq n) r).setCandU n (fun c => { c with hasFreq := true, freqAbs := abs, resid := resid })
    if (d1.refState n = 4 || d1.refState n = 5) && d1.rejectLimit < r.natAbs then d1.disqualify n 2 (sat32 (milliPpb r))
    else d1.qualify n

/-- R168: at a full gate of a selected candidate in T3 a RESTORED model is held against the DPLL; between the limits the next gate begins. The change
to VALID has cause 3 (log entry 116). -/
def Device.checkRestored (d : Device) : Device :=
  match d.hold.restoreSince with
  | none => d
  | some t =>
    if !d.restoreRuns || d.clock.ticks < t + d.nat K.thermFreqGate * sTicks then d else
    let diff := (d.modelD - d.therm.integ).natAbs
    let d1 := d.setHold (fun h => { h with restoreSince := some d.clock.ticks })
    if diff ≤ d.nat K.thermAccept then d1.setModel 2 3
    else if d.nat K.thermReject < diff then d1.emptyModel 2 else d1

/-- FREQ_MONITOR (R136, R137): every 1 s each candidate's regression is held against the prediction. -/
def Device.freqMonitor (d0 : Device) : Device :=
  let d := d0.runTo (d0.therm.lastFreq + sTicks)
  let d1 := d.setTherm (fun t => { t with lastFreq := d.clock.ticks })
  if !d1.rootLocked then d1 else
  ((List.range 9).foldl (fun d n => d.freqReading n) d1).trackRestore.checkRestored.trackLock

/-- HOLDOFF_EXPIRY (R144): THERM_HOLDOFF passes without activity. -/
def Device.holdoffExpiry (d : Device) (n : Nat) : Device :=
  if d.refState n ≠ 6 || !d.rootLocked || 9 ≤ n then d else
  let d1 := d.runTo (d.cand n).holdDue
  d1.setRef n 1

/-- WTR_EXPIRY (R144): the wait-to-restore timer ends. -/
def Device.wtrExpiry (d : Device) (n : Nat) : Device :=
  if d.refState n ≠ 3 || !d.rootLocked || 9 ≤ n then d else
  (d.runTo (d.cand n).wtrDue).setRef n 4

/-- THERM_REF_WTR_REMAIN of candidate n, in s. -/
def Device.wtrRemain (d : Device) (n : Nat) : Nat :=
  if d.refState n = 3 then
    ceilDiv ((d.cand n).wtrDue - (if d.rootLocked then d.clock.ticks else d.therm.rootLostAt)) sTicks else 0

/-- R151, R152: a phase error (2^-16 ns) moves the integral path by this much in 1 ms, in 2^-80: the square of the natural frequency. -/
def dpllStep (bw : Nat) (err : Int) : Int := (Config.dpllOmega bw : Int) ^ 2 * err * 2 ^ 80 / (65536 * 10 ^ 12 * 2 ^ 64)

/-- R151, R152: the proportional path's correction (2^-48 ns) over 1 ms: twice the damping factor of 0.7 times the natural frequency. -/
def dpllCorrection (bw : Nat) (err : Int) : Int := 14 * (Config.dpllOmega bw : Int) * err / 10 ^ 4

/-- R111, R151: the integral path moves by `step` (2^-80), and Thermostat asks for the D it stands at. -/
def Device.moveIntegral (d : Device) (step : Int) : Device :=
  let v := (d.therm.integ * 2 ^ 32 + d.therm.integLow) + step
  let c := clamp (-(dLimit * 2 ^ 32)) (dLimit * 2 ^ 32) v
  (d.setTherm (fun t => { t with integ := c / 2 ^ 32, integLow := (c % 2 ^ 32).toNat })).requestD (v / 2 ^ 32)

/-- DPLL_UPDATE (R80, R111, R112, R141, R145, R151, R152): once per millisecond the loop asks for D and hands over its correction;
D moves toward what was asked. A frequency-only candidate drives the integral path by its frequency less the root's. -/
def Device.dpllUpdate (d0 : Device) : Device :=
  let d := d0.runTo (d0.therm.lastUpdate + msTicks)
  let d1 := d.setTherm (fun t => { t with lastUpdate := d.clock.ticks })
  if !d1.rootLocked || !d1.clock.mtRun then d1 else
  let n := d1.selected
  if 9 ≤ n || d1.refState n ≠ 5 then (if n < 9 then d1 else d1.slewD) else
  let bw := if d1.nat K.mtState = 2 then d1.nat K.thermDpllAcqBw else d1.nat K.thermDpllBw
  let err := d1.num K.thermPhaseErr
  let cap := d1.timeCapable n
  let step := if cap then dpllStep bw err
    else if (d1.cand n).hasFreq then Config.dpllFreqGain bw * ((d1.cand n).freqAbs - d1.num K.hearthDco) else 0
  let corr := if cap then dpllCorrection bw err else 0
  let d2 := (d1.moveIntegral step).slewD
  let d3 := (d2.addPull corr).setNum K.thermPhaseErr (if cap then err - corr / 2 ^ 32 else 0)
  let past := d3.hold.dHist.filter (fun e => d.clock.ticks ≤ e.1 + 1000 * sTicks)
  let d4 := d3.setHold (fun h => { h with dHist := (d.clock.ticks, d3.therm.integ) :: past })
  (if d4.therm.dLimit ≠ 0 then d4.disqualify n 5 0 else d4).followPull

/-- R147: the root leaves LOCKED: every candidate state and timer is frozen, and measurements on their way are not used; a RESTORED model's
gate starts over with the others (R168). -/
def Device.thermFreeze (d : Device) : Device :=
  (d.setTherm (fun t => { t with rootLostAt := d.clock.ticks, lockSince := none, phases := [] })).setHold (fun h => { h with restoreSince := none })

/-- R160, R406: a PTC's parent changed: a candidate that was qualified is disqualified with reason 3, and its gate starts over; while the root is
not LOCKED (R147) or the candidate is in HOLD_OFF this waits. -/
def Device.parentJump (d : Device) (n : Nat) : Device :=
  if !d.rootLocked || d.refState n = 6 then d.setCandU n (fun c => { c with parentChanged := true, lastPhase := none }) else
  let d1 := d.setCandU n (fun c => { c with parentChanged := false, lastPhase := none })
  let st := d1.refState n
  (if st = 4 || st = 5 then d1.disqualify n 3 (sat32 (d1.num (K.thermRefPhase n) / 65536))
   else if st = 3 then d1.setRef n 2 else d1).restartGate n

/-- R147: the root is LOCKED again: every gate restarts, each timer resumes from its frozen value, and the monitors take up what the sources
show by now. -/
def Device.thermResume (d : Device) : Device :=
  let gap := d.clock.ticks - d.therm.rootLostAt
  let d1 := d.setTherm (fun t => { t with cands := t.cands.map (fun c => { c with
    gateStart := d.clock.ticks - c.gap, goneSince := d.clock.ticks, points := [], hasFreq := false, lastPhase := none
    holdDue := c.holdDue + gap, wtrDue := c.wtrDue + gap, lastEdge := c.lastEdge + 800 * gap }) })
  (List.range 9).foldl (fun d n => (if (d.cand n).parentChanged then d.parentJump n else d).syncActivity n) d1

/-- R159: did a committed change touch the settings of candidate n: its delay, and for a REFIN its input's, with the partner's of a pair. -/
def candTouched (changed : Nat → Bool) (paired : Nat → Bool) (n : Nat) : Bool :=
  let i := n - 1
  let input := fun i => changed (K.refinFreq i) || changed (K.refinEdge i) || changed (K.refinPair i)
  changed (K.thermRefDelay n) || (1 ≤ n && n ≤ 4 && (input i || (i % 2 = 0 && (paired i || changed (K.refinPair i)) && input (i + 1))))

/-- R129, R157: a candidate that is frequency-only shows no phase. -/
def Device.clearPhase (d : Device) (n : Nat) : Device :=
  if d.timeCapable n then d else
  let d1 := d.setNum (K.thermRefPhase n) 0
  if d1.selected = n then d1.setNum K.thermPhaseErr 0 else d1

/-- R159, R172: group 0x02 has switched; `old` reads the values it had. -/
def Device.thermCommitted (d0 : Device) (old : Nat → Val) : Device :=
  let changed (k : Nat) : Bool := decide (old k ≠ d0.val k)
  let d1 := (List.range 9).foldl (fun d n =>
    let src := if 1 ≤ n && n ≤ 4 then d.refinOn (n - 1) else (d.cand n).src
    let d := (((d.setCandU n (fun c => { c with src := src })).refreshEnable n).refreshQl n).clearPhase n
    if candTouched changed (fun i => d.num (K.refinPair i) = 1) n && 2 ≤ d.refState n then
      (((d.setRef n (if (d.cand n).active then 2 else 1)).restartGate n).setCandU n (fun c => { c with lastPhase := none })).syncActivity n
    else
      let e := if changed K.thermFreqGate then d.restartGate n else d
      if e.rootLocked then e.qualify n else e) d0
  let d2 := if d1.selected < 9 && d1.refState d1.selected = 0 then
      ((d1.report 0x0402 [d1.num K.thermSelected, 0xFF, 0]).setNum K.thermSelected 0xFF) else d1
  (if d2.num K.hoLimit < (old K.hoLimit).int then d2.boundTest else d2).followPull

/-- R158, R183: the pairing rules of group 0x02 over the viewed values; the offending objects. -/
def refPairs (v : Nat → Int) : List Nat :=
  let force := K.thermRefEnable (v K.thermForce).toNat
  breaks (v K.thermReject ≤ v K.thermAccept) [K.thermAccept, K.thermReject]
  ++ breaks (v K.thermStepThresh ≤ v K.thermLockThresh) [K.thermLockThresh, K.thermStepThresh]
  ++ breaks (v K.thermDpllAcqBw < v K.thermDpllBw) [K.thermDpllBw, K.thermDpllAcqBw]
  ++ breaks (v K.thermForce < 9 && v force = 0) [K.thermForce, force]
  ++ breaks (v K.hoLimit ≤ v K.thermLockThresh) [K.hoLimit, K.thermLockThresh]
  ++ ([0, 2].map (fun i =>
      breaks (v (K.refinPair i) = 1 && v (K.refinFreq i) = 1) [K.refinPair i, K.refinFreq i]
      ++ breaks (v (K.refinPair i) = 1 && v (K.refinFreq (i + 1)) ≠ 1) [K.refinPair i, K.refinFreq (i + 1)]
      ++ breaks (v (K.refinPair i) = 1 && v (K.thermRefEnable (i + 2)) = 1) [K.refinPair i, K.thermRefEnable (i + 2)])).flatten

/-- MT_SET_APPLY. -/
def execMtSetApply (due : ApplyAt) (s : State) : Host.Outcome State Fault Refusal :=
  .next (s.on (·.mtSetApply due.delay due.stuck))
/-- PULL_COMPLETE. -/
def execPullComplete (s : State) : Host.Outcome State Fault Refusal := .next (s.on (·.pullComplete))
/-- DPLL_UPDATE. -/
def execDpllUpdate (s : State) : Host.Outcome State Fault Refusal := .next (s.on (·.dpllUpdate))
/-- CANDIDATE_PHASE_MEASUREMENT. -/
def execCandidatePhaseMeasurement (cand : Nat) (stuck : List (Nat × Nat)) (_ : Unit) (s : State) :
    Host.Outcome State Fault Refusal := .next (s.on (·.phaseArrives cand stuck))
/-- FREQ_MONITOR. -/
def execFreqMonitor (_ : Unit) (s : State) : Host.Outcome State Fault Refusal := .next (s.on (·.freqMonitor))
/-- ACTIVITY_TIMEOUT. -/
def execActivityTimeout (refin : Nat) (s : State) : Host.Outcome State Fault Refusal := .next (s.on (·.activityTimeout refin))
/-- HOLDOFF_EXPIRY. -/
def execHoldoffExpiry (cand : Nat) (s : State) : Host.Outcome State Fault Refusal := .next (s.on (·.holdoffExpiry cand))
/-- WTR_EXPIRY. -/
def execWtrExpiry (cand : Nat) (s : State) : Host.Outcome State Fault Refusal := .next (s.on (·.wtrExpiry cand))
/-- LOCK_DWELL_EXPIRY. -/
def execLockDwellExpiry (s : State) : Host.Outcome State Fault Refusal := .next (s.on (·.lockDwell))
/-- PULL_WITHIN_LOCK_THRESH. -/
def execPullWithinLockThresh (s : State) : Host.Outcome State Fault Refusal := .next (s.on (·.pullWithin))

end Sys2Proof.Machine
end

