-- ==== Sys2Proof/Machine/Hearth.lean ====
section
/-! DEFINITION. Hearth (04_clock_root.md): the LO strap, the root's states and frequency, LO measurement, the boot oscillator and the derived clocks. -/

namespace Sys2Proof.Machine

/-- R121: the pairing rules of group 0x01 for CKOn over the viewed values; the offending objects. -/
def ckoPairs (v : Nat → Int) (n : Nat) : List Nat :=
  breaks (v (K.ckoFormat n) = 2 && 0x0773594000000000 < v (K.ckoFreq n)) [K.ckoFreq n, K.ckoFormat n]
  ++ breaks (v (K.ckoAlign n) = 1 && v (K.ckoFreq n) % 2 ^ 32 ≠ 0) [K.ckoFreq n, K.ckoAlign n]

/-- LO_MEASURE (R109): the 1 s gate ends and the measured LO frequency is published. -/
def Device.loMeasure (d : Device) (hz : Nat) : Device := d.setNum K.hearthLoMeas hz

/-! ## The root and the derived clocks (R107, R110, R117 to R119) -/

/-- Table 4-1: the LO frequency in Hz and the feedback ratio N that a strap selects. -/
def loOf (sel : Nat) : Nat × Nat :=
  if sel = 0 then (10000000, 500) else if sel = 1 then (20000000, 250) else if sel = 2 then (25000000, 200) else (40000000, 125)

/-- R110: the VCO's frequency with the loop locked, in 2^-48 Hz, for an LO of `hz`: f_LO times N times (1 + D * 2^-48). -/
def Device.vco (d : Device) (hz : Nat) : Nat := (hz * (loOf (d.nat K.hearthLoSel)).2 * (2 ^ 48 + d.num K.hearthDco)).toNat

/-- The derived clocks of Table 4-4; CK_CORE has a branch for each lane, and CK_FAB one that Thermostat and the correlators run on (`steer`) beside
the Fabric and Crypto domains' (Table 1-1). -/
inductive DClock where
  | tdc | time | core (lane : Nat) | cpu | fab | steer | line | phy | io
  deriving DecidableEq, Repr

/-- Table 4-4: a clock's divider from the VCO. -/
def DClock.divider : DClock → Nat
  | .tdc => 2
  | .time => 4
  | .core _ => 4
  | .cpu => 5
  | .fab | .steer => 8
  | .line => 32
  | .phy => 40
  | .io => 200

/-- R117: the divider of a branch from the boot oscillator's nominal 200 MHz, for the three that it drives. -/
def DClock.bootDivider : DClock → Option Nat
  | .cpu => some 1
  | .fab => some 2
  | .io => some 8
  | _ => none

/-- Where a clock comes from: it is stopped, or driven by the boot oscillator, or by the root. -/
inductive ClockSource where
  | stopped | boot | root
  deriving DecidableEq, Repr

/-- Table 4-4, Table 1-6: does the gating let a clock run: with its domain, a lane's only while the lane is not idle (SELF_TEST, BUSY), and the SerDes
reference also while a port of P32 to P43 holds its link. -/
def Device.ungated (d : Device) (c : DClock) : Bool :=
  let st := d.nat K.fbState
  match c with
  | .tdc | .time | .steer => st < 4
  | .core l => fieldNat (d.oct K.srLaneState) l 1 = 1 || fieldNat (d.oct K.srLaneState) l 1 = 3
  | .cpu | .fab => st < 2
  | .line => st < 2 || (st < 4 && (List.range 12).any (fun i => d.nat (K.portLinkState (32 + i)) = 4))
  | .phy => st < 4
  | .io => true

/-- R117, R118: what drives a clock at this tick. Until the first lock the boot oscillator drives three branches and no other clock runs; from the
handover on every branch comes from the root. -/
def Device.clockSource (d : Device) (c : DClock) : ClockSource :=
  if d.power.held ≠ 0 then .stopped
  else match d.clock.handover with
    | none => if c.bootDivider.isSome then .boot else .stopped
    | some _ => if d.ungated c then .root else .stopped

/-- R118: does the boot oscillator run: from the release to the first lock, and then on for less than 10 us. -/
def Device.bootRuns (d : Device) : Bool :=
  d.power.held = 0 && d.clock.handover.all (fun t => d.clock.ticks < t + min (10 * usTicks) Config.bootStop)

/-- R119: has a clock of the root a rising edge on the VCO edge `v` of this tick (0 to 3): its divider counts from the common release. -/
def Device.rises (d : Device) (c : DClock) (v : Nat) : Bool :=
  d.clock.handover.any (fun t => ((d.clock.ticks - t) * 4 + v) % c.divider = 0)

/-! ## Loss, fault and relock -/

/-- R115, R126, R174: the root has left LOCKED: Thermostat stands, MT leaves T3 or T4 for T5, and clock outputs are squelched by policy. -/
def Device.rootLeaves (d1 : Device) : Device :=
  let d2 := d1.thermFreeze.setHold (fun h => { h with saturated := h.active })
  let t := d2.nat K.mtState
  let d3 := if t = 3 || t = 4 then d2.enterT5 3 else d2
  (List.range 4).foldl (fun d n => d.ckoSquelch false n) d3

/-- ROOT_LOCK_LOST (R113, R115, R126, R174): cause 1 no LO_IN edges, 2 phase window. -/
def Device.rootLost (d : Device) (cause : Nat) : Device :=
  if !d.rootLocked then d else
  (((d.setNum K.hearthLock 2).bump K.hearthLockLosses).report 0x0302 [cause, hi32 (d.num K.hearthDco)]).rootLeaves

/-- R80, R113, R114, R116, R122, R147: the root locks again after a loss; with a reference still selected the state follows the pull. -/
def Device.rootRelock (d : Device) : Device :=
  let d1 := if d.nat K.hearthLock = 3 then d.report 0x0303 [0, d.num K.hearthRootDev] else d
  let d2 := ((d1.setNum K.hearthLock 1).report 0x0301 [1, d.num K.hearthLoMeas]).thermResume.followPull
  (List.range 4).foldl (fun d n => d.ckoResume n) d2

/-- R113, R122: a deviation (ppb) beyond the limit takes an UNLOCKED root to FAULT, a control voltage at a rail a LOCKED one too, whose loss no
case of R115 counts. -/
def Device.rootFaulted (d : Device) (dev : Int) (rail : Bool) : Device :=
  let d1 := d.setNum K.hearthRootDev dev
  let st := d.nat K.hearthLock
  if (st = 2 && (rail || 200000 < dev.natAbs)) || (st = 1 && rail) then
    let d2 := (d1.setNum K.hearthLock 3).report 0x0303 [1, dev]
    (List.range 4).foldl (fun d n => d.ckoSquelch true n) (if st = 1 then d2.rootLeaves else d2)
  else d1

/-- LO_MEASURE. -/
def execLoMeasure (hz : Nat) (s : State) : Host.Outcome State Fault Refusal := .next (s.on (·.loMeasure hz))

end Sys2Proof.Machine
end

