-- ==== Sys2Proof/Machine/Threshold.lean ====
section
/-! DEFINITION. Threshold (08_edge_measurement.md): edges, captures, stamps, FIFOs, intervals and regressions of 24 channels. -/

namespace Sys2Proof.Machine

/-- R248: is REFIN input i used by Thermostat in the values `v` shows; a pair uses its partner's channel too (R133). -/
def refinUsed (v : Nat → Int) (i : Nat) : Bool :=
  v (K.thermRefEnable (i + 1)) = 1 || (i % 2 = 1 && v (K.refinPair (i - 1)) = 1 && v (K.thermRefEnable i) = 1)

/-- CH_IN_USE of channel n (R248, R249). -/
def Device.chInUse (d : Device) (n : Nat) : Nat :=
  if n = 20 then 2 else if 16 ≤ n && n < 20 && refinUsed d.num (n - 16) then 1 else 0

/-- R248: the decimation Thermostat needs for an input frequency. -/
def thermDecim (f : Nat) : Nat := max 1 (ceilDiv f 10000)

/-- CH_DECIM_NOW: the decimation in force (R248, R249). -/
def Device.chDecim (d : Device) (n : Nat) : Nat :=
  if d.chInUse n = 1 then thermDecim (d.nat (K.refinFreq (n - 16))) else if n = 20 then 1 else d.nat (K.chDecim n)

/-- The mode in force (R225, R248). -/
def Device.chMode (d : Device) (n : Nat) : Nat := if d.chInUse n = 0 then d.nat (K.chMode n) else 1

/-- The polarity in force: 0 rising, 1 falling, 2 both (R248, R249). -/
def Device.chEdge (d : Device) (n : Nat) : Nat :=
  if d.chInUse n = 1 then d.nat (K.refinEdge (n - 16)) else if n = 20 then 0 else d.nat (K.chEdge n)

/-- The nominal frequency in force (R248). -/
def Device.chNominal (d : Device) (n : Nat) : Nat :=
  if d.chInUse n = 1 then d.nat (K.refinFreq (n - 16)) else d.nat (K.chNomFreq n)

/-- Does the detector of channel n select an edge. -/
def Device.selects (d : Device) (n : Nat) (falling : Bool) : Bool :=
  let e := d.chEdge n
  e = 2 || (e = 1 && falling) || (e = 0 && !falling)

/-- R230, R248: the stamp of a capture: CH_DELAY removed unless Thermostat uses the channel, truncated to 2^-16 ns. -/
def Device.stampOf (d : Device) (n : Nat) (c : Capture) : Int :=
  (if d.chInUse n = 1 then c.tU else c.tU - psU (d.num (K.chDelay n))) / fracU

/-- Table 8-2: a record; an edge before 0 s reads 0 (R96). -/
def tdcRecord (edge interval : Int) (seq flags tstate : Nat) : Bytes :=
  time96Bytes edge.toNat ++ toBE 8 (ofSigned 8 interval) ++ toBE 2 (seq % 65536) ++ toBE 1 flags ++ toBE 1 tstate

/-- R230, R231, R233: a record of channel n enters its FIFO, or is discarded when 256 are held. -/
def Device.pushRecord (d : Device) (n : Nat) (c : Capture) (interval : Int) (extra : Nat) : Device :=
  if d.num (K.chFifoEn n) ≠ 1 then d else
  let s := d.ch n
  if 256 ≤ s.fifo.length then
    let d1 := d.bump (K.chOverflow n)
    let d2 := if s.overflowing then d1 else d1.report 0x0601 [n, d1.num (K.chOverflow n)]
    d2.setCh n (fun x => { x with dropped := true, overflowing := true })
  else
    let steps := d.nat K.mtStepCount
    let flags := (if c.rootOk then 0 else 1) + (if s.dropped then 2 else 0) + (if steps ≠ s.stepsSeen then 4 else 0)
      + (if c.falling then 8 else 0) + extra + (if 3 ≤ s.rejects then 128 else 0)
    d.setCh n (fun x => { x with
      fifo := x.fifo ++ [tdcRecord (d.stampOf n c) interval c.count flags c.tstate], dropped := false, stepsSeen := steps })

/-- R231: the FIFO has drained below 128 records, so a further discard is recorded again. -/
def Device.drainFifo (d : Device) (n k : Nat) : Device :=
  d.setCh n (fun x => { x with
    fifo := x.fifo.drop k, removed := x.removed + min k x.fifo.length
    overflowing := x.overflowing && decide (128 ≤ (x.fifo.drop k).length) })

/-! ## Edges, captures and intervals (R226, R228, R238 to R241) -/

/-- R238 to R240: is an edge at root time `ps` the stop edge that channel m's open interval, begun at `st`, waits for. -/
def Device.isStop (d : Device) (m : Nat) (st : Capture) (ps : Nat) : Bool :=
  st.ps + d.nat (K.chWinOpen m) ≤ ps && ps ≤ st.ps + d.nat (K.chTimeout m)

/-- R239: channel m's open interval ends with a stop edge at root time `ps`. -/
def Device.closeInterval (d : Device) (m : Nat) (st : Capture) (ps : Nat) : Device :=
  let late := st.ps + d.nat (K.chWinOpen m) + d.nat (K.chWinWidth m) < ps
  (d.pushRecord m st (((ps : Int) - st.ps) * 65536 / 1000) (16 + if late then 64 else 0)).setCh m (fun x => { x with opened := none })

/-- R238, R239: an edge of channel `src` at root time `ps` is offered as a stop edge to channel m. -/
def Device.offerStop (d : Device) (src ps : Nat) (m : Nat) : Device :=
  match (d.ch m).opened with
  | none => d
  | some st => if d.chMode m = 2 && d.nat (K.chStopSrc m) = src && d.isStop m st ps then d.closeInterval m st ps else d

/-- R228: a passed edge of channel n is missed. -/
def Device.missEdge (d : Device) (n : Nat) : Device :=
  let d1 := d.bump (K.chMissed n)
  d1.reportOnce (0x0602 * 65536 + n) 0x0602 [n, d1.num (K.chMissed n)]

/-- R238, R240: channel n's interval opens at a capture; the stop channel's last edge, not earlier than the start, may be its stop edge. -/
def Device.openInterval (d : Device) (n : Nat) (cap : Capture) : Device :=
  let d1 := d.setCh n (fun x => { x with opened := some cap })
  let src := d.nat (K.chStopSrc n)
  match (d.ch src).last with
  | some e => if src ≠ n && d1.isStop n cap e.ps then d1.closeInterval n cap e.ps else d1
  | none => d1

/-- R226, R228, R238, R240, R241: an edge `e` that channel n's detector selects: counted, offered as a stop edge, and if the decimator
passes it captured, missed, or ignored while an interval is open. -/
def Device.takeEdge (d : Device) (n : Nat) (e : PinEdge) : Device :=
  let s := d.ch n
  let cap : Capture := { e with count := (s.count + 1) % 2 ^ 32 }
  let mode := d.chMode n
  let d1 := (d.bump64 (K.chEdges n)).setCh n (fun x => { x with count := cap.count, passed := x.passed + 1, last := some e })
  let d2 := (List.range 24).foldl (fun d m => d.offerStop n e.ps m) d1
  let selfStop := mode = 2 && d.nat (K.chStopSrc n) = n && s.opened.isSome && (d2.ch n).opened.isNone
  let pass := s.passed % d.chDecim n = 0
  if mode = 0 || !pass || selfStop || d.nat K.tdcCalState ≠ 2 then d2 else
  let d3 := { d2 with tdc := { d2.tdc with demand := d2.tdc.demand + 1 } }
  if mode = 2 && (d3.ch n).opened.isSome then d3.bump (K.chStartOverrun n)
  else if 4 ≤ s.caps.length || s.lastPs.any (fun p => e.ps < p + 50000) then d3.missEdge n
  else
    let d4 := d3.setCh n (fun x => { x with caps := x.caps ++ [cap], lastPs := some e.ps })
    if mode = 2 then d4.openInterval n cap else d4

/-- Table 8-1: an edge at an input pin now, `fine` ps into the tick, to the 2 ps of R237. -/
def Device.inputEdge (d : Device) (falling : Bool) (fine : Nat) : PinEdge :=
  let f := min fine 799 / 2 * 2
  { ps := d.rootPs + f, tU := (d.clock.mt + f * nsU / 1000 : Nat), stepped := d.clock.stepped, pulled := d.clock.pulled
    dco := d.clock.dco, falling := falling
    rootOk := d.rootLocked, tstate := d.nat K.mtState }

/-- Table 8-1: the oldest edge on its way from the pad or from Skylight's pulse to channel n, as measured: `fine` is by how many ps, less 400, it is off. -/
def PinEdge.measured (e : PinEdge) (fine : Nat) : PinEdge :=
  let off : Int := ((min fine 799 : Nat) : Int) - 400
  { e with ps := (e.ps + off).toNat / 2 * 2, tU := e.tU + psU (((e.ps + off).toNat / 2 * 2 : Nat) - (e.ps : Int)) }

/-- R135, R248: the activity monitor sees every on-time edge of a REFIN input in use. -/
def Device.watchEdge (d : Device) (n : Nat) (e : PinEdge) : Device := if d.chInUse n = 1 then d.refinEdge (n - 16) e.ps else d

/-- EDGE_INPUT (R224, R225, R226): after `wait` ticks an edge arrives on channel n, `fine` ps into the tick; on channels 20 to 23 it is the
next one from the Skylight pulse or the looped OUT pin. -/
def Device.edgeInput (d0 : Device) (n : Nat) (falling : Bool) (wait fine : Nat) : Device :=
  if !d0.clock.mtRun || 24 ≤ n then d0.elapse wait
  else if 20 ≤ n then
    match (d0.ch n).pad with
    | [] => d0
    | e :: rest =>
      let d := (d0.runTo (e.ps / 800)).setCh n (fun x => { x with pad := rest })
      if d.selects n e.falling then d.takeEdge n (e.measured fine) else d
  else
    let d := d0.elapse wait
    if d.selects n falling then (d.watchEdge n (d.inputEdge falling fine)).takeEdge n (d.inputEdge falling fine) else d

/-! ## Conversion (R227) -/

/-- R227: the channel that the conversion path serves next: the first with a capture after the one served last. -/
def Device.nextServed (d : Device) : Option Nat :=
  ((List.range 24).map (fun i => (d.tdc.served + 1 + i) % 24)).find? (fun n => (d.ch n).caps ≠ [])

/-- R217: Skylight compares the stamp of its pulse with the intended instant (2^-16 ns). -/
def Device.ppsStamp (d : Device) (tU : Int) (sched : Nat) : Device :=
  let diff := sat32 ((tU - (sched * fracU : Nat)) * 1000 / nsU)
  let bad := decide (50 < diff.natAbs)
  let d1 : Device := { d.setNum K.skyPpsMismatch diff with sky := { d.sky with ppsBad := bad } }
  if bad = d.sky.ppsBad then d1 else d1.report 0x0508 [if bad then 1 else 0, diff]

/-- R227, R230, R243, R246, Table 8-6: a capture of channel n becomes a stamp and goes to its consumers: the FIFO, the regression with the
steps of MT before the edge removed, Thermostat, Skylight and the placement check. -/
def Device.deliverStamp (d : Device) (n : Nat) (c : Capture) : Device :=
  let t := d.stampOf n c
  let mode := d.chMode n
  let d1 := if mode = 1 then d.pushRecord n c 0 0 else d
  let last : Int := ((d1.ch n).stamps.head?.map (·.1)).getD c.count
  let stamp : Nat × Int × Int := ((last + (c.count - last) % 2 ^ 32).toNat, t - c.stepped, c.tU)
  let d2 := if d.num (K.regEnable n) = 1 && ((d1.ch n).gateStart : Int) ≤ c.tU && (d1.ch n).stamps.length < 16777215 then
      d1.setCh n (fun x => { x with stamps := stamp :: x.stamps }) else d1
  let d3 := if d.chInUse n = 1 && c.rootOk then d2.refinStamp (n - 16) c else d2
  match c.sched with
  | some (sched, delay, out) =>
    if n = 20 then d3.ppsStamp c.tU sched
    else if 21 ≤ n && mode = 1 then d3.placement out t sched delay else d3
  | none => d3

/-- R227: the conversion path, free again 50 ns after it began with a capture, or with the capture itself, converts the oldest capture of channel n. -/
def Device.convertOf (d0 : Device) (n : Nat) : Device :=
  match (d0.ch n).caps with
  | [] => d0
  | c :: rest =>
    let d := d0.runTo (ceilDiv d0.tdc.pathFree 800)
    let d1 := (d.bump64 (K.chStamps n)).setCh n (fun x => { x with caps := rest })
    ({ d1 with tdc := { d1.tdc with converted := d1.tdc.converted + 1, served := n, pathFree := max d0.tdc.pathFree c.ps + 50000 } } : Device).deliverStamp n c

/-- STAMP_CONVERSION (R227, R250): channel n is served if its turn has come. -/
def Device.convert (d : Device) (n : Nat) : Device :=
  if d.clock.mtRun && d.nextServed = some n then d.convertOf n else d

/-- R243, R245: the path serves the channels in turn until none of channel n's captures waits; the fuel is all it may hold. -/
def Device.serveAll (n : Nat) : Nat → Device → Device
  | 0, d => d
  | fuel + 1, d =>
    if (d.ch n).caps = [] then d else
    match d.nextServed with
    | some m => Device.serveAll n fuel (d.convertOf m)
    | none => d

/-- INTERVAL_TIMEOUT (R239): no stop edge by start plus CH_TIMEOUT. -/
def Device.intervalTimeout (d : Device) (n : Nat) : Device :=
  match (d.ch n).opened with
  | some st =>
    if !d.clock.mtRun || d.chMode n ≠ 2 then d else
    let d1 := d.runTo (ceilDiv (st.ps + d.nat (K.chTimeout n)) 800)
    (d1.pushRecord n st 0 32).setCh n (fun x => { x with opened := none })
  | none => d

/-! ## Regression (R243 to R247) -/

/-- R244: a gate that starts at an MT instant notes the tick and the pulls at it; the instants of gates that have ended are dropped. -/
def Device.mark (d : Device) (at_ : Nat) (v : Option (Nat × Int)) : Device :=
  let used := d.tdc.chans.map (·.gateStart)
  { d with clock := { d.clock with marks :=
      (at_, v) :: d.clock.marks.filter (fun m => m.1 ≠ at_ && used.contains m.1) } }

/-- R245: channel n's regression starts over: the first gate begins at the next whole MT second. -/
def Device.restartReg (d : Device) (n : Nat) : Device :=
  let g := (d.clock.mt / secU + 1) * secU
  (d.setCh n (fun x => { x with stamps := [], gateStart := g, gateRootLost := !d.rootLocked })).mark g none

/-- R247: status 4 begins or ends on channel n. -/
def Device.setMismatch (d : Device) (n : Nat) (b : Bool) : Device :=
  if (d.ch n).mismatch = b then d
  else (d.report 0x0604 [n, if b then 1 else 0]).setCh n (fun x => { x with mismatch := b })

/-- R251: the record of channel n applies: the decimator starts again, an open interval is abandoned and the regression restarts. -/
def Device.chApplied (d : Device) (n : Nat) : Device :=
  (((d.setCh n (fun x => { x with passed := 0, opened := none })).setNums [(K.regStatus n, 0), (K.regSeq n, 0)]).setMismatch n false).restartReg n

/-- R248: as Thermostat's use of a channel begins, ends or changes at a commit tick, the values in force start afresh. -/
def Device.useChanged (d d0 : Device) : Device :=
  [16, 17, 18, 19].foldl (fun d n =>
    if d.chInUse n = d0.chInUse n && d.chMode n = d0.chMode n && d.chDecim n = d0.chDecim n && d.chEdge n = d0.chEdge n then d
    else d.setCh n (fun x => { x with passed := 0, opened := none })) d

/-- What a gate's fit gives (R243, R247): its stamps, whether the sums are degenerate, y in 2^-48, the rms residual in ps. -/
def regResult (rate : Int) (xs : List (Int × Int)) : Int × Bool × Int × Nat × Bool :=
  let (c, sn, st, snn, snt, stt) := fitSums xs
  let sxx := c * snn - sn * sn
  let sxy := c * snt - sn * st
  let syy := c * stt - st * st
  let y : Int := roundDiv (sec16 * sxx * 2 ^ 48) (rate * sxy) - 2 ^ 48
  (c, sxx = 0, y, isqrt ((syy - sxy * sxy / sxx) * 1000000 / (c * c * 65536 * 65536)).toNat, sxy ≤ 0 || 2 ^ 48 / 1000 < y.natAbs)

/-- REG_GATE_END (R243 to R247): channel n's gate ends on MT; captures of it that wait are converted, and its result is published. -/
def Device.regGateEnd (d0 : Device) (n : Nat) : Device :=
  if d0.num (K.regEnable n) ≠ 1 || 24 ≤ n || !d0.clock.mtRun then d0 else
  let endU := (d0.ch n).gateStart + d0.nat (K.regGate n) * 1000000 * nsU
  let e := d0.runToMt endU
  let d := Device.serveAll n 96 e
  let s := d.ch n
  let inGate := s.stamps.filter (fun x => x.2.2 < (endU : Int))
  let rate : Int := d.chNominal n * (if d.chEdge n = 2 then 2 else 1)
  let (c, flat, y, resid, big) := regResult rate (inGate.map (fun x => ((x.1 : Int), x.2.1)))
  let status : Nat := if s.gateRootLost || !e.rootLocked then 5 else if c < 3 || flat then 2 else if big then 4
    else if 16777215 ≤ c then 3 else 1
  let (tick0, pulled0) := ((e.clock.marks.find? (fun m => m.1 = s.gateStart)).bind (·.2)).getD (e.clock.ticks, e.clock.pulled)
  let dt := (e.clock.ticks - tick0 : Nat)
  let d1 := d.setNums [(K.regStatus n, status), (K.regCount n, c), (K.regEnd n, (endU / fracU : Nat))]
  let d2 := d1.bump (K.regSeq n)
  let d3 := if status = 1 || status = 3 then d2.setNums [(K.regFreq n, y),
      (K.regFreqRoot n, y + (e.clock.pulled - pulled0) * 5 / (4 * dt)), (K.regResid n, resid)] else d2
  let d4 := (d3.setMismatch n (status = 4)).setCh n (fun x => { x with
    stamps := x.stamps.filter (fun x => (endU : Int) ≤ x.2.2), gateStart := endU, gateRootLost := !e.rootLocked })
  d4.mark endU (some (e.clock.ticks, e.clock.pulled))

/-- R247: the root has left LOCKED: every gate in progress is spoiled. -/
def Device.tdcRootLost (d : Device) : Device :=
  { d with tdc := { d.tdc with chans := d.tdc.chans.map (fun c => { c with gateRootLost := true }) } }

/-- R247: the root is LOCKED again: a gate that has not begun is not spoiled. -/
def Device.tdcRelocked (d : Device) : Device :=
  { d with tdc := { d.tdc with chans := d.tdc.chans.map (fun c => { c with gateRootLost := c.gateRootLost && decide (c.gateStart ≤ d.clock.mt) }) } }

/-! ## Calibration (R234 to R236) -/

/-- R236: is a bin table, as widths in fs, rejected: a width outside 0.5 to 3 times the mean, or a line shorter than a CK_TDC period of 400 ps. -/
def tableBad (bins : List Nat) : Bool :=
  let sum := bins.foldl (· + ·) 0
  sum < 400000 || bins.any (fun w => 2 * w * bins.length < sum || 3 * sum < w * bins.length)

/-- TDC_CAL_SWAP (R234, R236): 1 s after channel n's last swap the idle interpolator has calibrated with `bins`; a bad table leaves it the one it
had. The two swap, and TDC_TRIM is applied to the one that is now idle. -/
def Device.calSwap (d0 : Device) (n : Nat) (bins : List Nat) : Device :=
  if d0.nat K.tdcCalState ≠ 2 || 24 ≤ n || !d0.clock.mtRun then d0 else
  let d := d0.runTo ((d0.ch n).lastSwap + sTicks)
  let s := d.ch n
  let idle := 1 - s.measuring
  let bad := tableBad bins
  let d1 := (d.bump K.tdcCalCount).setCh n (fun x => { x with
    lastSwap := d.clock.ticks, rejects := if bad then s.rejects + 1 else 0, measuring := idle
    tables := if bad then x.tables else x.tables.set idle bins, trims := x.trims.set s.measuring (d.nat K.tdcTrim) })
  if bad then d1.report 0x0603 [n, idle, s.rejects + 1] else d1

/-- R236: interpolator i of channel n has calibrated for the first time: its bin table is taken, or rejected and recorded. -/
def Device.firstTable (d : Device) (n i : Nat) : Device :=
  let bins := Config.firstBins n i
  let bad := tableBad bins
  let d1 := d.setCh n (fun x => { x with rejects := if bad then x.rejects + 1 else 0, tables := if bad then x.tables else x.tables.set i bins })
  if bad then d1.report 0x0603 [n, i, (d1.ch n).rejects] else d1

/-- TDC_CAL_COMPLETE (R234 to R236): within 5 ms of the root lock the first calibration completes on both interpolators of every channel, with
TDC_TRIM applied. -/
def Device.calComplete (d0 : Device) : Device :=
  if d0.nat K.tdcCalState ≠ 1 then d0 else
  let d := d0.runTo (d0.tdc.calFrom + Config.calTicks % (5 * msTicks + 1))
  let trim := d.nat K.tdcTrim
  let d1 : Device := { d.setNum K.tdcCalState 2 with tdc := { d.tdc with chans := d.tdc.chans.map (fun c =>
      { c with lastSwap := d.clock.ticks, trims := [trim, trim] }) } }
  (List.range 24).foldl (fun d n => (d.firstTable n 0).firstTable n 1) d1

/-- AGGREGATE_STAMP_DEMAND (R253): an MT second ends; the rate, the peak and a demand above 20 million are published. -/
def Device.stampDemand (d0 : Device) : Device :=
  if !d0.clock.mtRun then d0 else
  let d := d0.runToMt ((d0.clock.mt / secU + 1) * secU)
  let rate := d.tdc.converted
  let d1 := d.setNums [(K.tdcStampRate, rate), (K.tdcLoadPeak, max (d.nat K.tdcLoadPeak) rate)]
  let d2 := if 20000000 < d.tdc.demand then d1.report 0x0605 [d.tdc.demand, d1.num K.tdcLoadPeak] else d1
  { d2 with tdc := { d2.tdc with converted := 0, demand := 0 } }

/-- R252: the pairing rules of group 0x04 for channel n: `v` views staged or live, `l` live values; `used` counts use. -/
def tdcPairs (v l : Nat → Int) (n : Nat) : List Nat :=
  let used := n = 20 || (16 ≤ n && n < 20 && refinUsed v (n - 16))
  let edgeK : Nat := if 16 ≤ n && n < 20 && used then K.refinEdge (n - 16) else K.chEdge n
  let freq := if 16 ≤ n && n < 20 && used then v (K.refinFreq (n - 16)) else v (K.chNomFreq n)
  let decim : Int := if 16 ≤ n && n < 20 && used then thermDecim (v (K.refinFreq (n - 16))).toNat else v (K.chDecim n)
  let rate := freq * (if v edgeK = 2 then 2 else 1)
  breaks (!used && v (K.chMode n) = 2 && v (K.chTimeout n) < v (K.chWinOpen n) + v (K.chWinWidth n))
    [K.chWinOpen n, K.chWinWidth n, K.chTimeout n]
  ++ breaks (v (K.regEnable n) = 1 && 16777215 * 1000 * decim < v (K.regGate n) * rate)
    [K.regGate n, K.chDecim n, K.chNomFreq n]
  ++ (if used then
      [K.chMode n, K.chEdge n, K.chDecim n, K.chNomFreq n, K.chDelay n, K.chStopSrc n, K.chWinOpen n, K.chWinWidth n,
        K.chTimeout n, K.chLoopSrc n].filter (fun k => v k ≠ l k)
    else [])

/-- EDGE_INPUT. -/
def execEdgeInput (ch : Nat) (falling : Bool) (wait fine : Nat) (s : State) : Host.Outcome State Fault Refusal :=
  .next (s.on (·.edgeInput ch falling wait fine))
/-- STAMP_CONVERSION. -/
def execStampConversion (ch : Nat) (s : State) : Host.Outcome State Fault Refusal := .next (s.on (·.convert ch))
/-- INTERVAL_TIMEOUT. -/
def execIntervalTimeout (ch : Nat) (s : State) : Host.Outcome State Fault Refusal := .next (s.on (·.intervalTimeout ch))
/-- REG_GATE_END. -/
def execRegGateEnd (ch : Nat) (s : State) : Host.Outcome State Fault Refusal := .next (s.on (·.regGateEnd ch))
/-- TDC_CAL_SWAP. -/
def execTdcCalSwap (ch : Nat) (bins : List Nat) (_ : Unit) (s : State) : Host.Outcome State Fault Refusal :=
  .next (s.on (·.calSwap ch bins))
/-- TDC_CAL_COMPLETE. -/
def execTdcCalComplete (s : State) : Host.Outcome State Fault Refusal := .next (s.on (·.calComplete))
/-- AGGREGATE_STAMP_DEMAND. -/
def execAggregateStampDemand (s : State) : Host.Outcome State Fault Refusal := .next (s.on (·.stampDemand))

end Sys2Proof.Machine
end

