-- ==== Sys2Proof/Machine/Porch.lean ====
section
/-! DEFINITION. Porch (10_ports.md) and frame time-stamping (11_timestamping.md): links, PLCA, collisions, CAN controllers, MDIO,
wake patterns, stamps and one-step insertion. Frames enter and leave through Hallway. -/

namespace Sys2Proof.Machine

/-! ## Ports -/

/-- R301: a U32 counter of a port that wraps modulo 2^32, raised by n. -/
def Device.wrapBy (d : Device) (k n : Nat) : Device := d.setNum k ((d.nat k + n) % 2 ^ 32 : Nat)

/-- R301: a U32 counter of a port raised by 1. -/
def Device.wrap (d : Device) (k : Nat) : Device := d.wrapBy k 1

/-- Port p's own state. -/
def Device.port (d : Device) (p : Nat) : PortUnit := d.ports.getD p {}

/-- The part with port p's own state changed. -/
def Device.setPort (d : Device) (p : Nat) (f : PortUnit → PortUnit) : Device := { d with ports := updAt d.ports p f }

/-- PORT_LINK_STATE. -/
def Device.link (d : Device) (p : Nat) : Nat := d.nat (K.portLinkState p)

/-- Is port p UP. -/
def Device.portUp (d : Device) (p : Nat) : Bool := d.link p = 3

/-- PORT_SPEED: Mb/s in UP and SLEEP_ARMED, else 0. -/
def Device.portSpeed (d : Device) (p : Nat) : Nat := if d.link p = 3 || d.link p = 4 then d.portRate p else 0

/-- R286: PORT_TX_BOUND in ns; 0xFFFFFFFF is unbounded. -/
def Device.txBound (d : Device) (p : Nat) : Nat :=
  let v :=
    if 16 ≤ p then (if d.portUp p then ceilDiv (d.frameX p (d.nat (K.portMaxFrame p))) 1000 else 0xFFFFFFFF)
    else if d.portUp p && d.nat (K.portMode p) = 0 && d.nat (K.plcaStatus p) = 1 then
      d.nat (K.plcaNodeCount p) * ((1 + d.nat (K.plcaBurstCount p)) * 8 * (d.nat (K.portPeerFrame p) + 20)
        + d.nat (K.plcaToTimer p) + 20) * 100
    else 0xFFFFFFFF
  min v 0xFFFFFFFF

/-- R284: PLCA_STATUS changes; each change is recorded. -/
def Device.setPlca (d : Device) (p v : Nat) : Device :=
  if d.nat (K.plcaStatus p) = v then d else (d.setNum (K.plcaStatus p) v).report 0x0804 [p, v]

/-- Table 10-4, R303: port p takes a link state; causes 0 commanded, 1 link lost, 2 Hearth fault, 3 sleep entry, 4 wake. -/
def Device.setLink (d : Device) (p st cause : Nat) : Device :=
  let old := d.link p
  if old = st then d else
  let d1 := (d.setNum (K.portLinkState p) st).report 0x0801 [p, old, st, cause]
  let d2 := d1.setPort p (fun u => { u with cause := cause })
  if p < 16 && st ≠ 3 then (d2.setPlca p 0).setPort p (fun u => { u with beaconAt := none }) else d2

/-- R280: the frames in port p's transmitter are dropped without a counter. -/
def Device.dropPlace (d : Device) (p : Nat) : Device :=
  d.setPort p (fun u => { u with place := none, placeQueue := none, sending := none, busyPs := 0, attempts := 0, backoff := none, own := [] })

/-- The frame in Porch's place for port p leaves it, sent or dropped. -/
def Device.clearPlace (d : Device) (p : Nat) : Device :=
  d.setPort p (fun u => { u with place := none, placeQueue := none, attempts := 0, backoff := none })

/-- R280: a port that was UP loses its link; SLEEP_ARMED goes to SLEEP_OFF. -/
def Device.linkLost (d : Device) (p cause : Nat) : Device :=
  let d1 := if cause = 1 then d.wrap (K.portLinkDowns p) else d
  if d.link p = 3 then (d1.setLink p 1 cause).dropPlace p
  else if d.link p = 4 then d1.setLink p 5 cause
  else if d.link p = 2 && cause = 2 then d.setLink p 1 cause
  else d

/-- R117, R122: may ports run: the root has locked since the reset and is not in FAULT. -/
def Device.portsServed (d : Device) : Bool := d.clock.mtRun && d.nat K.hearthLock ≠ 3 && d.nat K.fbState < 2

/-- LINK_UP (Table 10-4): training establishes the link, or a powered 10BASE-T1S PHY is ready. -/
def Device.linkUp (d : Device) (p : Nat) : Device :=
  if !d.portsServed || 44 ≤ p then d else
  let c := (d.port p).cause
  if p < 16 then (if d.link p = 1 then d.setLink p 3 c else d)
  else if d.link p = 1 then (d.setLink p 2 c).setLink p 3 c
  else if d.link p = 2 then d.setLink p 3 c else d

/-- TRAINING_RETRY (Table 10-4): a port in DOWN begins training; training that fails goes to DOWN and is retried after 100 ms. -/
def Device.trainingRetry (d : Device) (p : Nat) : Device :=
  if !d.portsServed || p < 16 || 44 ≤ p then d else
  let c := (d.port p).cause
  if d.link p = 1 then d.setLink p 2 c
  else if d.link p = 2 then ((d.setLink p 1 c).elapse (100 * msTicks)).setLink p 2 c
  else d

/-- R282: a unit of group 0x08 applies: power on takes DISABLED to DOWN, power off any state to DISABLED. -/
def Device.applyPower (d : Device) (p : Nat) : Device :=
  if d.nat (K.portPower p) = 1 then (if d.link p = 0 then d.setLink p 1 0 else d) else (d.setLink p 0 0).dropPlace p

/-- R280: a unit of group 0x09 applies; `old` shows the values before. A changed medium or size takes an UP port to DOWN, a changed
PORT_MODE one in TRAINING too (Table 10-4). -/
def Device.applyPortCfg (d : Device) (p : Nat) (old : Nat → Val) : Device :=
  let keys := if d.portUp p then [K.portMode p, K.portT1Role p, K.portFec p, K.portMaxFrame p] else if d.link p = 2 then [K.portMode p] else []
  if keys.any (fun k => d.val k ≠ old k) then
    (d.setLink p 1 0).dropPlace p
  else d

/-! ## PLCA and collisions (R283 to R287) -/

/-- PLCA_BEACON (R283, R284, R287): after `wait` ticks a beacon is sent, by a coordinator, or heard; a cycle beyond the bound is recorded. -/
def Device.plcaBeacon (d0 : Device) (p wait : Nat) : Device :=
  let d := d0.elapse wait
  if 16 ≤ p || !d.portUp p || d.nat (K.portMode p) ≠ 0 then d else
  let now := d.clock.ticks
  let out := if d.nat (K.plcaNodeId p) = 0 then d.emit (.beacon p) else d
  let d1 := (out.setPlca p 1).setPort p (fun u => { u with beaconAt := some now, burst := 0 })
  match (d.port p).beaconAt with
  | some t =>
    let cyc := (now - t) * 800 / 1000
    let d2 := d1.setNum (K.plcaCycleObs p) (max (d.nat (K.plcaCycleObs p)) cyc : Nat)
    if d2.txBound p < cyc then d2.reportOnce (0x0805 * 65536 + p) 0x0805 [p, cyc, d2.txBound p] else d2
  | none => d1

/-- PLCA_BEACON_TIMEOUT (R284): a follower has heard no beacon for 130 ms. -/
def Device.plcaTimeout (d : Device) (p : Nat) : Device :=
  match (d.port p).beaconAt with
  | some t =>
    if p < 16 && d.portUp p && d.nat (K.plcaNodeId p) ≠ 0 then
      ((d.runTo (t + 130 * msTicks)).setPlca p 0).setPort p (fun u => { u with beaconAt := none })
    else d
  | none => d

/-- R303: a drop kind of port p began; `c` is the counter it raised. -/
def Device.portDrop (d : Device) (p kind c q : Nat) : Device :=
  d.reportOnce (0x0803 * 65536 + p * 256 + kind) 0x0803 [p, kind, (d.nat c % 2 ^ 32 : Nat), q]

/-! ## Wake patterns (R288 to R290) -/

/-- R288: the frame bytes that a mask selects, ascending. -/
def maskBytes (mask : Bytes) : List Nat := (List.range 128).filter (fun i => bit (fieldNat mask (i / 8) 1) (i % 8))

/-- R290: does a frame, FCS included (R274), match an enabled pattern. -/
def matchesPattern (body pat : Bytes) : Bool :=
  let sel := maskBytes (field pat 0 16)
  let top := sel.foldl max 0
  bit (fieldNat pat 18 1) 0 && top + 1 ≤ body.length && crc16 (sel.map (fun i => body.getD i 0)) = fieldNat pat 16 2

/-- R290: the lowest-numbered pattern of port p that a frame matches. -/
def Device.wakePattern (d : Device) (p : Nat) (body : Bytes) : Option Nat :=
  (List.range 8).find? (fun k => matchesPattern (withFcs body) (d.oct (K.wakePat p k)))

/-- R291: does a port have an enabled wake pattern. -/
def Device.wakeArmed (d : Device) (p : Nat) : Bool := (List.range 8).any (fun k => bit (fieldNat (d.oct (K.wakePat p k)) 18 1) 0)

/-- R288: is a WAKE_PAT value refused: enabled with an empty mask, or a reserved bit set. -/
def wakePatBad (b : Bytes) : Bool :=
  1 < fieldNat b 18 1 || fieldNat b 19 1 ≠ 0 || (fieldNat b 18 1 = 1 && (field b 0 16).all (· = 0))

/-! ## External PHYs and CAN controllers (R293 to R300) -/

/-- XPHY_MDIO (R293): one Clause 45 access; `answer` is what the PHY gives, 0xFFFF where it does not answer. -/
def Device.writeXphyMdio (d : Device) (b : Bytes) (answer : Nat) : Nat × Device :=
  let op := fieldNat b 0 1
  let port := fieldNat b 1 1
  let mmd := fieldNat b 2 1
  if 1 < op || port < 32 || 39 < port || mmd = 0 || 31 < mmd || fieldNat b 3 1 ≠ 0 then (St.range, d)
  else
    let out := d.emit (.mdio (op = 1) (port - 32) mmd (fieldNat b 4 2) (fieldNat b 6 2))
    (St.ok, out.setOct K.xphyMdio (if op = 0 then field b 0 6 ++ toBE 2 (answer % 65536) else b))

/-- R300: controller n takes a state; every change is recorded. -/
def Device.setCan (d : Device) (n st : Nat) : Device :=
  let old := d.nat (K.canState n)
  if old = st then d else
  let d1 := (d.setNum (K.canState n) st).report 0x0806 [n, old, st, d.num (K.canTec n)]
  if st = 4 then d1.bump (K.canBusoffCount n) else d1

/-- MODE of controller n: 0 off, 1 CC, 2 FD, 3 XL. -/
def Device.canMode (d : Device) (n : Nat) : Nat := fieldNat (d.oct (K.canCfg n)) 0 1 % 4

/-- R300: does controller n send and receive frames. -/
def Device.canActive (d : Device) (n : Nat) : Bool := n < 4 && d.nat K.hearthLock ≠ 3 && (d.nat (K.canState n) = 2 || d.nat (K.canState n) = 3)

/-- R35, R36: does controller n serve HAP. -/
def Device.canHap (d : Device) (n : Nat) : Bool := d.canActive n && 2 ≤ d.canMode n && bit (d.nat K.hapCanMask) n

/-- R298: is a CAN_CFG value out of range. -/
def canCfgBad (b : Bytes) : Bool :=
  let f := fun i => fieldNat b i 1
  let nom := (1 + f 3 + f 4) * f 2 * 10
  let dat := (1 + f 7 + f 8) * f 6 * 10
  3 < f 0 || 1 < f 1 || f 2 = 0 || 32 < f 2 || f 3 < 2 || f 4 = 0 || 128 < f 4 || f 5 = 0 || 128 < f 5
    || f 6 = 0 || 8 < f 6 || f 7 = 0 || 63 < f 7 || f 8 = 0 || 32 < f 8 || f 9 = 0 || 32 < f 9 || 127 < f 10
    || f 13 ≠ 0 || f 18 ≠ 0 || f 19 ≠ 0
    || nom < 1000 || (2 ≤ f 0 && (dat < 100 || nom < dat)) || f 4 < f 5 || f 8 < f 9

/-- CAN_CFG (R297, R298): the new settings apply, and the controller reintegrates; `owner` is the owner's transport, if any. -/
def Device.writeCanCfg (d : Device) (n : Nat) (b : Bytes) (owner : Option Nat) : Nat × Device :=
  if canCfgBad b then (St.range, d)
  else if fieldNat b 0 1 < 2 && owner = some n then (St.state, d)
  else
    let d1 := d.setOct (K.canCfg n) b
    (St.ok, if !d1.clock.mtRun then d1 else d1.setCan n (if fieldNat b 0 1 = 0 then 0 else 1))

/-- Table 10-9: ERROR_ACTIVE or ERROR_PASSIVE by the error counters. -/
def Device.canGrade (d : Device) (n : Nat) : Device :=
  d.setCan n (if d.nat (K.canTec n) < 128 && d.nat (K.canRec n) < 128 then 2 else 3)

/-- CAN_INTEGRATED (R300): 11 consecutive recessive bits end the integration in ERROR_ACTIVE, which a counter of 128 or more leaves at once. -/
def Device.canIntegrated (d : Device) (n : Nat) : Device :=
  if d.nat (K.canState n) = 1 && n < 4 then (d.setCan n 2).canGrade n else d

/-- CAN_ERROR (R300): a bus error moves the counters by the amounts ISO 11898-1 gives it; above 255 the controller is off. -/
def Device.canError (d : Device) (n : Nat) (tec rec : Int) : Device :=
  if !d.canActive n then d else
  let t := d.num (K.canTec n) + tec
  let d1 := ((d.bump (K.canErrFrames n)).setNum (K.canTec n) (clamp 0 255 t)).setNum (K.canRec n) (clamp 0 255 (d.num (K.canRec n) + rec))
  if 255 < t then d1.setCan n 4 else d1.canGrade n

/-- CAN_BUSOFF_RECOVERY (R300): 128 occurrences of 11 recessive bits lead back to INTEGRATING; ISO 11898-1 clears the counters. -/
def Device.canRecover (d : Device) (n : Nat) : Device :=
  if d.nat (K.canState n) = 4 && n < 4 then (d.setNums [(K.canTec n, 0), (K.canRec n, 0)]).setCan n 1 else d

/-- Table 10-9, R295: after the root lock every controller with a mode other than off integrates. -/
def Device.canStart (d : Device) (n : Nat) : Device :=
  if d.nat (K.canState n) = 0 && d.canMode n ≠ 0 then d.setCan n 1 else d

/-- R35, R299, R300: controller n received a frame correctly; is it a HAP request (R36), which a Classical frame is not. -/
def Device.canReceived (d : Device) (n ident : Nat) (cc : Bool) : Bool × Device :=
  let rec0 := d.nat (K.canRec n)
  let d1 := ((d.bump (K.canRxFrames n)).setNum (K.canRec n) (if 127 < rec0 then 127 else rec0 - 1 : Nat)).canGrade n
  if d.canHap n && !cc && ident = d.nat K.hapCanReqId then (true, d1) else (false, d1.bump (K.canRxDiscard n))

/-- A controller sent a frame. -/
def Device.canSent (d : Device) (n : Nat) : Device :=
  ((d.bump (K.canTxFrames n)).setNum (K.canTec n) (d.nat (K.canTec n) - 1 : Nat)).canGrade n

/-! ## Stamps (R304 to R321) -/

/-- Table 11-1: nominal L_rx and L_tx in ps. -/
def nominalLat (p mode fec : Nat) : Nat × Nat :=
  if p < 16 then (1960000, 1240000)
  else if p < 32 then (if mode = 0 then (1360000, 980000) else (3890000, 2140000))
  else if p < 40 then (if mode = 0 then (302400, 252000) else if mode = 1 then (158400, 132000) else (86400, 72000))
  else if mode = 0 then (if fec = 0 then (61400, 47600) else if fec = 1 then (152000, 58200) else (241300, 88700))
  else if fec = 0 then (96000, 62400) else (318000, 105600)

/-- STAMP_RX_LAT_NOW and STAMP_TX_LAT_NOW (R306, R307): the unit's calibrated latency, within 5 % of Table 11-1. -/
def Device.stampLat (d : Device) (p : Nat) (rx : Bool) : Nat :=
  let m := d.nat (K.portMode p)
  let f := if 40 ≤ p then d.nat (K.portFec p) else 0
  let nom := if rx then (nominalLat p m f).1 else (nominalLat p m f).2
  max (ceilDiv (nom * 95) 100) (min (nom * 105 / 100) (Config.stampLat p m f rx))

/-- R304: is the plane of port p the external MDI. -/
def Device.outerPlane (d : Device) (p : Nat) : Bool := 32 ≤ p && p < 40 && d.nat (K.stampPlane p) = 0

/-- R306: from the plane to the capture point, in ps. -/
def Device.rxPath (d : Device) (p : Nat) : Int :=
  d.stampLat p true + (if d.outerPlane p then d.num (K.xphyRxLat p) else 0) + d.num (K.stampRxCorr p)

/-- R307: from commitment to the plane, in ps: 64 bit times, L_tx and the corrections. -/
def Device.txPath (d : Device) (p : Nat) : Int :=
  64 * d.bitPs p + d.stampLat p false + (if d.outerPlane p then d.num (K.xphyTxLat p) else 0) + d.num (K.stampTxCorr p)

/-- Picoseconds of MT's reading at this tick. -/
def Device.mtPs (d : Device) : Nat := d.clock.mt * 1000 / nsU

/-- Table 11-2: the flags of a stamp that port p takes now. -/
def Device.stampFlags (d : Device) (p : Nat) (invalid : Bool) : Nat :=
  d.nat K.mtState + (if invalid then 8 else 0) + (if d.rootLocked then 0 else 16)
    + (if d.nat K.mtStepCount ≠ (d.port p).stepsSeen then 32 else 0)

/-- R306, R309: the receive stamp of a capture `fine` ps into this tick: its word, and its instant on MT in 2^-16 ns. -/
def Device.rxStamp (d : Device) (p fine : Nat) (invalid : Bool) : Bytes × Int × Device :=
  let t16 := ((d.clock.mt : Int) + psU (min fine 799) - psU (d.rxPath p)) / fracU
  let bad := invalid || !d.replicaOk p
  let d1 := if d.replicaOk p then d else d.wrap (K.stampInvalid p)
  (stampWord t16 (d.stampFlags p bad), t16, d1.setPort p (fun u => { u with stepsSeen := d.nat K.mtStepCount }))

/-- R317: the fields that insertion writes: offset and length. -/
def Frame.fields (f : Frame) : List (Nat × Nat) :=
  (if f.insOp = 1 then [(f.insOff, 10)] else if f.insOp = 3 then [(f.insOff, 8)] else if f.insOp = 4 then [(f.insOff, 12)] else [])
    ++ (if f.insOp = 1 || f.insOp = 2 then [(f.corrOff, 8)] else []) ++ (if f.csumOff = 0 then [] else [(f.csumOff, 2)])

/-- Do two fields share a byte. -/
def overlap (a b : Nat × Nat) : Bool := a.1 < b.1 + b.2 && b.1 < a.1 + a.2

/-- Do any two of the fields share a byte. -/
def anyOverlap : List (Nat × Nat) → Bool
  | [] => false
  | a :: t => t.any (overlap a) || anyOverlap t

/-- R317: the first check that fails, by its number in event 0x0808; 0 if none. `t16` is stamp_tx in 2^-16 ns. -/
def Frame.insFault (f : Frame) (len : Nat) (t16 : Int) : Nat :=
  let fs := f.fields
  let diff := wordDiff t16 f.ref
  if 4 < f.insOp || 10 < f.insScale then 3
  else if fs.any (fun x => len < x.1 + x.2) then 1
  else if anyOverlap fs then 2
  else if f.ref ≠ [] && wordInvalid f.ref then 5
  else if f.insOp = 2 && (diff < 0 || 65536000000000 < diff) then 4
  else 0

/-- R316: an amount added to the correctionField at an offset. -/
def addCorr (b : Bytes) (off : Nat) (v : Int) : Bytes :=
  let old := toSigned 8 (fieldNat b off 8)
  let s := old + v
  let top : Int := 2 ^ 63 - 1
  putBytes b off (toBE 8 (ofSigned 8 (if old = top || top < s || s < -(2 ^ 63) then top else s)))

/-- R315, R316: the bytes of a frame after its insertion operation, at stamp_tx = t (MT's unit). -/
def Device.insertTime (d : Device) (f : Frame) (b : Bytes) (t : Int) : Bytes :=
  let v16 := d.scaleAt16 f.insScale t
  if f.insOp = 1 then addCorr (putBytes b f.insOff (field (time96Bytes v16) 0 10)) f.corrOff (v16 % 65536 : Nat)
  else if f.insOp = 2 then addCorr b f.corrOff (wordDiff (t / fracU) f.ref)
  else if f.insOp = 3 then putBytes b f.insOff (ntpStamp (d.scaleAt16 1 t))
  else if f.insOp = 4 then putBytes b f.insOff (time96Bytes v16)
  else b

/-- R320: what the changed 16-bit words add to ~HC, the words taken from offset `i` on. -/
def csumDelta (a b : Bytes) : Nat → Nat → Nat
  | 0, _ => 0
  | n + 1, i =>
    let x := beNat (padTo 2 (field a i 2))
    let y := beNat (padTo 2 (field b i 2))
    (if x = y then 0 else (0xFFFF - x) + y) + csumDelta a b n (i + 2)

/-- R320, R321: the UDP checksum at CSUM_OFFSET updated for what insertion changed. -/
def fixCsum (old new : Bytes) (off : Nat) : Bytes :=
  let hc := fieldNat old off 2
  if off = 0 || hc = 0 then new else
  let i0 := off % 2
  let c := inetCsum ((0xFFFF - hc) + csumDelta old new ((new.length - i0) / 2 + 1) i0)
  putBytes new off (toBE 2 (if c = 0 then 0xFFFF else c))

/-- R314, R319: the transmit stamp of a frame goes to who asked for it. -/
def Device.returnStamp (d : Device) (p : Nat) (tag : Tag) (word : Bytes) (t16 : Int) : Device :=
  match tag with
  | .none => d
  | .ptp _ 0 _ | .ptp _ 11 _ => d
  | .probe => if wordInvalid word then d else d.setNum (K.stampProbeTx p) t16.toNat
  | t => { d with parl := { d.parl with returned := d.parl.returned ++ [(t, word, t16, d.nat K.mtStepCount)] } }

/-- R362: the frame in port p's place is dropped after its collisions, and who asked for its stamp learns that it has none. -/
def Device.dropCollided (d : Device) (p k kind : Nat) (f : Frame) : Device :=
  let d1 := ((d.wrap k).portDrop p kind k 0).clearPlace p
  d1.returnStamp p f.tag (stampWord d.mt16 (d.stampFlags p true)) d.mt16

/-- COLLISION (R285, R308): the attempt on port p's frame collides: late, it is dropped; otherwise a backoff, or 16 attempts. -/
def Device.collision (d : Device) (p : Nat) (late : Bool) : Device :=
  let u := d.port p
  match u.place with
  | none => d
  | some f =>
    if 16 ≤ p || !d.portUp p || u.backoff.isSome || (d.nat (K.portMode p) = 0 && d.nat (K.plcaStatus p) = 1) then d else
    let d1 := d.wrap (K.portCollisions p)
    let n := u.attempts + 1
    if late then d1.dropCollided p (K.portLateColl p) 6 f
    else if 16 ≤ n then d1.dropCollided p (K.portExcessColl p) 5 f
    else d1.setPort p (fun u => { u with
      attempts := n, backoff := some (d.clock.ticks + Config.backoff p u.drawn % 2 ^ (min n 10) * 64000), drawn := u.drawn + 1 })

/-- BACKOFF_EXPIRY (R285): the backoff ends and the port may try again. -/
def Device.backoffExpiry (d : Device) (p : Nat) : Device :=
  match (d.port p).backoff with
  | some t => (d.runTo t).setPort p (fun u => { u with backoff := none })
  | none => d

/-- R283, R286: may the first frame of a PLCA cycle start on port p now: after the beacon's 20 bit times and an opportunity of at least
PLCA_TO_TIMER for each node before it, and on the coordinator, whose opportunity is the first, before that has ended unused. How long the
nodes before a follower take is the segment's. -/
def Device.plcaTurn (d : Device) (p : Nat) : Bool :=
  let timer := d.nat (K.plcaToTimer p)
  let id := d.nat (K.plcaNodeId p)
  (d.port p).beaconAt.any (fun t =>
    t * 800 + (20 + id * timer) * d.bitPs p ≤ d.rootPs && (id ≠ 0 || d.rootPs ≤ t * 800 + (20 + timer) * d.bitPs p))

/-- R283: may port p start a frame now: under PLCA one frame of a cycle's opportunity, then as many as PLCA_BURST_COUNT, each within
PLCA_BURST_TIMER bit times of the end of the previous one, `busy`. -/
def Device.plcaAllows (d : Device) (p busy : Nat) : Bool :=
  let u := d.port p
  16 ≤ p || d.nat (K.portMode p) ≠ 0 || d.nat (K.plcaStatus p) ≠ 1 || (u.burst = 0 && d.plcaTurn p)
    || (u.burst ≠ 0 && u.burst ≤ d.nat (K.plcaBurstCount p) && d.rootPs ≤ busy + d.nat (K.plcaBurstTimer p) * d.bitPs p)

/-- R307, R369: the part on the tick at which port p commits to the frame in its place: on P16 to P43 as soon as the medium is free of the
frame before, within 4 ticks; on P00 to P15 `wait` ticks on, as the segment lets it. -/
def Device.commitTick (d : Device) (p wait : Nat) : Device :=
  let free := ceilDiv (d.port p).busyPs 800
  if p < 16 then (d.elapse wait).runTo free else d.runTo (max (ceilDiv (d.port p).releasedPs 800 + min wait 4) free)

/-- FRAME_TRANSMIT (R278, R283, R307, R317 to R321): port p commits to its frame, `fine` ps into the tick: it is dropped by a check, or
stamped, written and sent. -/
def Device.commitFrame (d0 : Device) (p wait fine : Nat) : Device :=
  match (d0.port p).place with
  | none => d0
  | some f =>
    let d1 := d0.commitTick p wait
    if !d0.portUp p || (d0.port p).backoff.isSome || !d1.plcaAllows p (d0.port p).busyPs then d0 else
    let d := if d1.replicaOk p then d1 else d1.elapse 1
    let t := (d.clock.mt : Int) + psU (min fine 799) + psU (d.txPath p)
    let t16 := t / fracU
    let free := d.clearPlace p
    let b := padFrame f.body
    let bad := f.insFault b.length t16
    if d.nat (K.portMaxFrame p) < frameLen b then
      let d2 := (free.wrap (K.portTxOversize p)).portDrop p 7 (K.portTxOversize p) 0
      d2.returnStamp p f.tag (stampWord t16 (d.stampFlags p true)) t16
    else if f.insOp ≠ 0 && bad ≠ 0 then
      let d2 := free.wrap (K.stampInsDrop p)
      let d3 := d2.reportOnce (0x0808 * 65536 + p) 0x0808 [p, d2.num (K.stampInsDrop p), bad]
      d3.returnStamp p f.tag (stampWord t16 (d.stampFlags p true)) t16
    else
      let out := if f.insOp = 0 then b else fixCsum b (d.insertTime f b t) f.csumOff
      let d2 := (free.bump64 (K.portTxFrames p)).bumpBy 8 (K.portTxOctets p) (frameLen b)
      let d2 := match f.tag with
        | .ptp n 0 _ => d2.bump64 (K.instTxSync n)
        | _ => d2
      let d3 := if f.insOp = 0 then d2 else d2.bump64 (K.stampInsCount p)
      let d4 := d3.setPort p (fun u => { u with
        busyPs := d.rootPs + min fine 799 + d.frameX p (frameLen b), burst := u.burst + 1, stepsSeen := d.nat K.mtStepCount })
      (d4.returnStamp p f.tag (stampWord t16 (d.stampFlags p false)) t16).emit (.frame p (withFcs out))

/-- R273: port p answers an ARP request or a Neighbour Solicitation for its own address. -/
def Device.stationAnswer (d : Device) (p : Nat) (body : Bytes) : Option Bytes :=
  let v4 := d.oct (K.portIpv4 p)
  let v6 := d.oct (K.portIpv6 p)
  let mac := d.oct (K.portMac p)
  if v4.any (· ≠ 0) && arpFor body v4 then some (arpReply body mac v4)
  else if v6.any (· ≠ 0) && solicitFor body v6 then some (advertise body mac v6)
  else none

/-- R273: an answer that Porch itself gives waits for Porch's place of the port (DESIGN CHOICE, log 113); it holds no cells. -/
def Device.sendOwn (d : Device) (p : Nat) (b : Bytes) : Device :=
  d.setPort p (fun u => { u with own := u.own ++ [{ body := b, src := 0x104 }] })

/-- PORT_CNT_CLEAR (R301, R325, R352): every counter of port p is zeroed at one tick. -/
def Device.clearCounters (d : Device) (p : Nat) : Device :=
  let ks := [K.portRxFrames p, K.portTxFrames p, K.portRxOctets p, K.portTxOctets p, K.portRxFcsErr p, K.portRxRunt p,
    K.portRxOversize p, K.portTxOversize p, K.portRxMacCtrl p, K.portRxSleep p, K.portLinkDowns p, K.portPhySymErr p]
    ++ (if p < 16 then [K.portCollisions p, K.portExcessColl p, K.portLateColl p] else [])
    ++ (List.range 8).map (fun q => K.portRxOverflow p q) ++ [K.stampInsCount p, K.stampInsDrop p, K.stampInvalid p]
    ++ (List.range 8).map (fun q => K.qTaildrop p q)
    ++ [K.launchLateDrop p, K.launchFarDrop p, K.gateNeverDrop p, K.sleepDiscard p]
  (d.setNums (ks.map (fun k => (k, (0 : Int))))).report 0x0807 [p]

/-- R281: the pairing rules of groups 0x08 and 0x09 for port p over the viewed values; `owner` is the port that carries the
owner, `l` the live values. -/
def portPairs (v l : Nat → Val) (owner : Option Nat) (p : Nat) : List Nat :=
  let n := fun k => (v k).int
  let own := decide (owner = some p)
  let plca := p < 16 && n (K.portMode p) = 0
  breaks (own && n (K.portPower p) = 0) [K.portPower p]
  ++ (if own then [K.portMode p, K.portMac p, K.portIpv4 p, K.portIpv6 p].filter (fun k => v k ≠ l k) else [])
  ++ breaks (plca && n (K.plcaNodeCount p) ≤ n (K.plcaNodeId p)) [K.plcaNodeId p, K.plcaNodeCount p]
  ++ breaks (plca && n (K.plcaNodeId p) = 0 && n (K.plcaNodeCount p) = 1) [K.plcaNodeId p, K.plcaNodeCount p]
  ++ breaks (40 ≤ p && n (K.portFec p) = 2 && n (K.portMode p) = 1) [K.portFec p, K.portMode p]

/-- PLCA_BEACON. -/
def execPlcaBeacon (port wait : Nat) (s : State) : Host.Outcome State Fault Refusal := .next (s.on (·.plcaBeacon port wait))
/-- PLCA_BEACON_TIMEOUT. -/
def execPlcaBeaconTimeout (port : Nat) (s : State) : Host.Outcome State Fault Refusal := .next (s.on (·.plcaTimeout port))
/-- COLLISION. -/
def execCollision (port : Nat) (late : Bool) (s : State) : Host.Outcome State Fault Refusal := .next (s.on (·.collision port late))
/-- BACKOFF_EXPIRY. -/
def execBackoffExpiry (port : Nat) (s : State) : Host.Outcome State Fault Refusal := .next (s.on (·.backoffExpiry port))
/-- TRAINING_RETRY. -/
def execTrainingRetry (port : Nat) (s : State) : Host.Outcome State Fault Refusal := .next (s.on (·.trainingRetry port))
/-- CAN_INTEGRATED. -/
def execCanIntegrated (can : Nat) (s : State) : Host.Outcome State Fault Refusal := .next (s.on (·.canIntegrated can))
/-- CAN_ERROR. -/
def execCanError (can : Nat) (tec rec : Int) (s : State) : Host.Outcome State Fault Refusal := .next (s.on (·.canError can tec rec))
/-- CAN_BUSOFF_RECOVERY. -/
def execCanBusoffRecovery (can : Nat) (s : State) : Host.Outcome State Fault Refusal := .next (s.on (·.canRecover can))

end Sys2Proof.Machine
end

