-- ==== Sys2Proof/Machine/Hallway.lean ====
section
/-! DEFINITION. Hallway (12_switch_fabric.md): local delivery, forwarding, cells, queues, gate lists, launch times, credits, mirror. -/

namespace Sys2Proof.Machine

/-! ## Gates (R339, R343) -/

/-- GATE_WAIT of Qq of port p (R343, R344). -/
def Device.gateWait (d : Device) (p q : Nat) (pending : Bool) : Nat :=
  let x := d.frameG p (d.nat (K.portMaxFrame p))
  (d.scheds p pending).foldl (fun m s => max m (s.maxWait q x)) 0

/-! ## Cells (R332, R333) -/

/-- Every copy that waits in a queue, in Porch's place or at IP0, or is being sent at a root time (ps). -/
def Device.copiesAt (d : Device) (ps : Nat) : List Frame :=
  (d.hall.egress.map (fun e => e.queues.flatten)).flatten ++ d.ports.filterMap (fun u => u.place)
    ++ d.ports.filterMap (fun u => if ps < u.busyPs then u.sending else none)
    ++ d.parl.rx.map (fun q => { body := [], src := q.port, id := q.id, cells := q.cells })

/-- Every copy that takes cells at this tick. -/
def Device.copies (d : Device) : List Frame := d.copiesAt d.rootPs

/-- One copy of each stored frame. -/
def distinctFrames : List Frame → List Frame
  | [] => []
  | f :: t => if f.id = 0 || t.any (fun g => g.id = f.id) then distinctFrames t else f :: distinctFrames t

/-- The cells of copies that entered where `sel` says. -/
def cellsOfCopies (fs : List Frame) (sel : Nat → Bool) : Nat :=
  ((distinctFrames fs).filter (fun f => sel f.src)).foldl (fun n f => n + f.cells) 0

/-- The cells in use by frames that entered where `sel` says. -/
def Device.cellsBy (d : Device) (sel : Nat → Bool) : Nat := cellsOfCopies d.copies sel

/-- R332, R333: the free cells of the shared part while the copies take theirs; a port's use beyond its guarantee comes out of it. -/
def Device.sharedFree (d : Device) (fs : List Frame) : Nat :=
  let guar := d.nat K.hallPortGuar
  let used := (List.range 44).foldl (fun n p => n + (cellsOfCopies fs (· = p) - guar)) 0
  65536 - d.nat K.hallIpReserve - 44 * guar - used

/-- HALL_CELLS_FREE. -/
def Device.cellsFree (d : Device) : Nat := 65536 - d.cellsBy (fun _ => true)

/-- R333: does a frame of n cells find buffers at ingress port p. -/
def Device.roomFor (d : Device) (p n : Nat) : Bool :=
  let guar := d.nat K.hallPortGuar
  let used := d.cellsBy (· = p)
  (used + n - guar) - (used - guar) ≤ d.sharedFree d.copies

/-- R333: the shared part's exhaustion and recovery, and its low mark, at a root time (ps) that has come. -/
def Device.cellCheckAt (d : Device) (ps : Nat) : Device :=
  let fs := d.copiesAt ps
  let n := d.sharedFree fs
  let free : Nat := 65536 - cellsOfCopies fs (fun _ => true)
  let d1 : Device := { d with hall := { d.hall with low := min d.hall.low n } }
  if n = 0 && !d.hall.exhausted then
    ({ d1 with hall := { d1.hall with exhausted := true } } : Device).reportAt (ceilDiv ps 800) 0x0901 [1, free]
  else if 1024 < n && d.hall.exhausted then
    ({ d1 with hall := { d1.hall with exhausted := false } } : Device).reportAt (ceilDiv ps 800) 0x0901 [0, free]
  else d1

/-- R333: the shared part after the use of cells changed on this tick. -/
def Device.cellCheck (d : Device) : Device := d.cellCheckAt d.rootPs

/-- R332, R333: frames whose sending has ended since have freed their cells, each at its end. -/
def Device.freeEnded (d : Device) : Device :=
  let ends := d.ports.filterMap (fun u => if u.sending.isSome && u.busyPs ≤ d.rootPs then some u.busyPs else none)
  let d1 := (ends.mergeSort (· ≤ ·)).foldl (fun d t => d.cellCheckAt t) d
  { d1 with ports := d1.ports.map (fun u => if u.busyPs ≤ d.rootPs then { u with sending := none } else u) }

/-! ## Egress queues -/

/-- Table 12-6: egress drops of a kind on port p began. -/
def Device.egressDrop (d : Device) (p kind q k : Nat) : Device :=
  let d1 := d.bump k
  d1.reportOnce (0x0903 * 65536 + p * 256 + kind) 0x0903 [p, kind, q, d1.num k]

/-- R345: is LAUNCH in force for a frame of queue q of port p. -/
def Device.launchOf (d : Device) (p q : Nat) (f : Frame) : Option Nat :=
  if bit (d.nat (K.qLaunchMask p)) q then f.launch else none

/-- R345, R346: the stamp_tx (ns) that a frame released now would have, committed once the medium is free of the frame before it, less
LAUNCH, as a signed difference (R15). -/
def Device.launchDiff (d : Device) (p l : Nat) : Int :=
  let commit : Int := (d.clock.mt + d.mtGain (ceilDiv (d.port p).busyPs 800 - d.clock.ticks) : Nat)
  toSigned 4 (((commit + psU (d.txPath p)) / nsU - l) % 2 ^ 32).toNat

/-- R334: the cells that the frames of queue q of port p take. -/
def Device.queueCells (d : Device) (p q : Nat) : Nat := (d.queue p q).foldl (fun n g => n + g.cells) 0

/-- R339: does queue q of port p never let a frame of a body go. -/
def Device.gateNever (d : Device) (p q : Nat) (body : Bytes) : Bool :=
  ((d.sched p).ready q (d.frameG p (frameLen (padFrame body))) d.mtG).isNone

/-- R439, R442: a root notice found its queue full. -/
def Device.rootDropped (d : Device) : Device :=
  let d1 := d.bump K.ledgerRootDrop
  d1.reportOnce (0x0A23 * 65536) 0x0A23 [d1.num K.ledgerRootDrop]

/-- R334, R339, R346, R439: a copy enters queue q of port p, or is dropped. -/
def Device.enqueue (d : Device) (p q : Nat) (f : Frame) : Device :=
  if d.gateNever p q f.body then d.egressDrop p 4 q (K.gateNeverDrop p)
  else if d.nat (K.qMaxCells p q) < d.queueCells p q + f.cells then
    (if f.tag = .root then d.rootDropped else d).egressDrop p 1 q (K.qTaildrop p q)
  else if (d.launchOf p q f).any (fun l => 1000000000 < toSigned 4 ((l + 2 ^ 32 - d.stamp32) % 2 ^ 32)) then
    d.egressDrop p 3 q (K.launchFarDrop p)
  else ((d.bringCredits p).setQueue p q (· ++ [f])).cellCheck

/-- R334: do reserve cells for n more stand free. -/
def Device.reserveRoom (d : Device) (n : Nat) : Bool := d.cellsBy (256 ≤ ·) + n ≤ d.nat K.hallIpReserve

/-- R334: a frame of an internal port enters queue q of port p if the reserve has room and no frame of that internal port waits, or waits. -/
def Device.ipSend (d0 : Device) (p q : Nat) (f : Frame) : Device :=
  let d := d0.freeEnded
  let n := cellsOf f.body
  let g := { f with id := d.hall.nextId, cells := n }
  if d.reserveRoom n && !d.hall.waiting.any (fun w => w.2.2.src = f.src) then
    ({ d with hall := { d.hall with nextId := d.hall.nextId + 1 } } : Device).enqueue p q g
  else { d with hall := { d.hall with waiting := d.hall.waiting ++ [(p, q, f)] } }

/-- R334: frames of internal ports that waited enter as far as the reserve has room again. -/
def Device.ipDrain (d : Device) : Device :=
  let d1 := d.hall.waiting.foldl (fun d w => d.ipSend w.1 w.2.1 w.2.2) ({ d with hall := { d.hall with waiting := [] } } : Device)
  d1.cellCheck

/-! ## Release (R335, R345, R346, R367) -/

/-- MT in gate units at a root time (ps): as its increments and an outstanding pull carry it from this tick. -/
def Device.mtAtPs (d : Device) (ps : Nat) : Nat :=
  let n := (ps - d.rootPs) / 800
  if ps ≤ d.rootPs then d.mtG - (d.rootPs - ps) * psG
  else (d.clock.mt + d.mtGain n) * 1000 + (d.mtGain (n + 1) - d.mtGain n) * 1000 * ((ps - d.rootPs) % 800) / 800

/-- R365: W_p on MT (gate units): when every frame already released to port p has finished, or on P00 to P15 their latest release plus
PORT_TX_BOUND. -/
def Device.wp (d : Device) (p : Nat) : Nat :=
  let u := d.port p
  if 16 ≤ p then
    match u.place with
    | some f => d.mtAtPs (max u.busyPs d.rootPs) + d.frameG p (frameLen (padFrame f.body))
    | none => d.mtAtPs u.busyPs
  else if u.place.isNone && u.releasedPs = 0 then 0 else d.mtAtPs u.releasedPs + d.txBound p * 1000 * psG

/-- R365: Y of a frame of length `len` on port p, in gate units. -/
def Device.spanY (d : Device) (p len : Nat) : Nat := if 16 ≤ p then d.frameG p len else d.txBound p * 1000 * psG

/-- R367: does the guard let a frame without a reservation go now. -/
def Device.guardOk (d : Device) (p len : Nat) : Bool :=
  let starts := (d.parl.resv.filter (fun r => r.port = p)).map (fun r => r.start)
  match starts.min? with
  | some s => max d.mtG (d.wp p) + d.spanY p len ≤ s
  | none => true

/-- R335: is the head frame of queue q eligible but for its launch time. -/
def Device.mayRelease (d : Device) (p q : Nat) (f : Frame) : Bool :=
  let len := frameLen (padFrame f.body)
  f.whole ≤ d.rootPs && (d.sched p).ready q (d.frameG p len) d.mtG = some 0
    && (d.nat (K.cbsSlope p q) = 0 || 0 ≤ (d.creditNow p q).level) && d.guardOk p len

/-- R346: the head frames that are too late for their launch are dropped, queue by queue, with `fuel` drops at most. -/
def Device.dropLate (d : Device) (p : Nat) : Nat → Device
  | 0 => d
  | fuel + 1 =>
    match (List.range 8).find? (fun q => match d.queue p q with
      | f :: _ => d.mayRelease p q f && (d.launchOf p q f).any (fun l =>
          d.nat (K.launchLateMax p) ≠ 0xFFFFFFFF && (d.nat (K.launchLateMax p) : Int) < d.launchDiff p l)
      | [] => false) with
    | some q => ((d.setQueue p q (·.drop 1)).egressDrop p 2 q (K.launchLateDrop p)).dropLate p fuel
    | none => d

/-- R335: the highest-numbered queue whose head frame may be released now. -/
def Device.pickQueue (d : Device) (p : Nat) : Option (Nat × Frame) :=
  ((List.range 8).reverse.filterMap (fun q => match d.queue p q with
    | f :: _ => if d.mayRelease p q f && (d.launchOf p q f).all (fun l => 0 ≤ d.launchDiff p l) then some (q, f) else none
    | [] => none)).head?

/-- R335: the ticks until a head frame that now waits for its gate, its credit, its launch or its own last bit may be eligible. -/
def Device.headWait (d : Device) (p q : Nat) (f : Frame) : Option Nat :=
  let gate := (d.sched p).ready q (d.frameG p (frameLen (padFrame f.body))) d.mtG
  let idle := d.nat (K.cbsSlope p q)
  let credit := if idle = 0 then 0 else ceilDiv (-(d.creditNow p q).level).toNat idle
  let launch := match d.launchOf p q f with
    | some l =>
      let path := psU (d.txPath p)
      if d.launchDiff p l < 0 then d.ticksToMt ((((d.clock.mt : Int) + path) / nsU - d.launchDiff p l) * nsU - path).toNat else 0
    | none => 0
  let whole := ceilDiv (f.whole - d.rootPs) 800
  gate.map (fun g => max (max (d.ticksToMt (ceilDiv (d.mtG + g) 1000)) credit) (max launch whole))

/-- The ticks until the first head frame of port p may be eligible, if one waits for that alone. -/
def Device.releaseWait (d : Device) (p : Nat) : Option Nat :=
  ((List.range 8).filterMap (fun q => match d.queue p q with
    | f :: _ => (d.headWait p q f).bind (fun n => if 0 < n then some n else none)
    | [] => none)).min?

/-- A released frame takes Porch's place for port p; `q` is its queue, if it came from one. -/
def Device.takePlace (d : Device) (p : Nat) (q : Option Nat) (f : Frame) : Device :=
  d.setPort p (fun u => { u with place := some f, placeQueue := q, releasedPs := d.rootPs })

/-- R273: Porch's own answer that may take port p's place now; it keeps to the guard of R367 (DESIGN CHOICE, log 113). -/
def Device.ownRelease (d : Device) (p : Nat) : Option Frame :=
  match (d.port p).own with
  | f :: _ => if d.guardOk p (frameLen (padFrame f.body)) then some f else none
  | [] => none

/-- R335, R346: the part when the next frame may go from port p, and that frame with its queue; Porch's own answers go first, and heads that
are late for their launch are dropped. Time runs until a frame is eligible, in at most `fuel` waits. -/
def Device.nextRelease (p : Nat) : Nat → Device → Option (Option Nat × Frame) × Device
  | 0, d => (none, d)
  | fuel + 1, d0 =>
    let d := (d0.freeEnded.bringCredits p).dropLate p (d0.copies.length + 1)
    match d.ownRelease p, d.pickQueue p with
    | some f, _ => (some (none, f), d.setPort p (fun u => { u with own := u.own.drop 1 }))
    | none, some (q, f) => (some (some q, f), d.setQueue p q (·.drop 1))
    | none, none =>
      match d.releaseWait p with
      | some w => nextRelease p fuel (d.elapse w)
      | none => (none, d)

/-- R338: the next boundary of port p's gate list after this tick, as an MT instant in gate units. -/
def Device.nextBoundary (d : Device) (p : Nat) : Nat :=
  let s := d.sched p
  let ph := s.phase d.mtG
  d.mtG - ph + (s.entries.foldl (fun (x : Nat × Nat) e => (x.1 + e.1, if x.2 ≤ ph then x.1 + e.1 else x.2)) (0, 0)).2

/-- GATE_BOUNDARY (R338): MT reaches the next boundary of port p's gate list. -/
def Device.gateBoundary (d : Device) (p : Nat) : Device :=
  if (d.sched p).entries.isEmpty || !d.clock.mtRun || 44 ≤ p then d else
  (d.bringCredits p).runToMt (ceilDiv (d.nextBoundary p) 1000)

/-! ## Forwarding (R328 to R331) -/

/-- The 16-byte entries of a table object. -/
def table16 (b : Bytes) : List Bytes := (List.range (b.length / 16)).map (fun i => field b (16 * i) 16)

/-- R329: the VLAN table's entry of a VID: member mask and untagged mask. -/
def vlanEntry (tab : Bytes) (vid : Nat) : Option (Nat × Nat) :=
  ((table16 tab).find? (fun e => fieldNat e 0 2 = vid)).map (fun e => (fieldNat e 2 6, fieldNat e 8 6))

/-- R329: the VID of a frame on ingress port p; a priority-tagged frame counts as untagged. -/
def Device.vidOf (d : Device) (p : Nat) (k : Pkt) : Nat :=
  match k.tag with
  | some (_, vid) => if vid = 0 then d.nat (K.inPvid p) else vid
  | none => d.nat (K.inPvid p)

/-- R329: does Hallway drop the frame at ingress. -/
def Device.vlanDrops (d : Device) (p : Nat) (k : Pkt) : Bool :=
  let tagged := k.tag.any (fun t => t.2 ≠ 0)
  (d.nat (K.inAccept p) = 1 && !tagged) || (d.nat (K.inAccept p) = 2 && tagged)
    || !(vlanEntry (d.oct K.hallVlanTable) (d.vidOf p k)).any (fun e => bit e.1 p)

/-- R331: the queue of a frame by IN_PCP_MAP. -/
def Device.pcpQueue (d : Device) (p : Nat) (k : Pkt) : Nat :=
  let pcp := match k.tag with | some t => t.1 | none => 0
  d.nat (K.inPcpMap p) / 16 ^ pcp % 8

/-- R273: is an IP address the station's own, its family being enabled. -/
def Device.ownIp (d : Device) (p : Nat) (a : Bytes) : Bool :=
  a.any (· ≠ 0) && (a = d.oct (K.portIpv4 p) || a = d.oct (K.portIpv6 p))

/-- The PTP multicast addresses of IEEE 1588-2019 Annexes C and D. -/
def ptpMulticast (a : Bytes) : Bool :=
  a = ofNats [224, 0, 1, 129] || a = ofNats [224, 0, 0, 107] ||
  (a.length = 16 && fieldNat a 0 1 = 0xFF && fieldNat a 1 1 < 16 && fieldNat a 2 14 = 0x181) ||
  (a.length = 16 && fieldNat a 0 2 = 0xFF02 && fieldNat a 2 14 = 0x6B)

/-- The family of an IP frame is enabled on port p (R273). -/
def Device.familyOn (d : Device) (p : Nat) (k : Pkt) : Bool :=
  if k.ip = 4 then (d.oct (K.portIpv4 p)).any (· ≠ 0) else (d.oct (K.portIpv6 p)).any (· ≠ 0)

/-- Where Table 12-1 sends a frame. -/
inductive Dest where
  | ip (n : Nat)
  | drop
  | forward
  deriving DecidableEq, Repr

/-- R328: Table 12-1. -/
def Device.localDest (d : Device) (p : Nat) (k : Pkt) : Dest :=
  let mac := d.oct (K.portMac p)
  let own := d.ownIp p k.daddr
  let hapOn := bit (d.nat K.hapUdpPortMask) p
  if k.etype = 0x88F7 && (beNat k.dst = 0x011B19000000 || beNat k.dst = 0x0180C200000E || k.dst = mac) then .ip 0
  else if k.udp && (k.dport = 319 || k.dport = 320) && (own || (ptpMulticast k.daddr && d.familyOn p k)) then .ip 0
  else if k.udp && (k.dport = 123 || k.dport = 4844) && own then .ip 0
  else if k.udp && k.dport = 4845 && own && hapOn then .ip 2
  else if k.ip ≠ 0 && k.proto = 6 && k.dport = 4460 && own then .ip 1
  else if k.dst = mac then .ip 1
  else if beNat k.dst / 16 = 0x0180C200000 then .drop
  else if k.udp && k.dport = 4845 && !hapOn then .drop
  else .forward

/-- R330: the learned entries that the database holds with the static ones. -/
def Device.fdbCount (d : Device) : Nat := (table16 (d.oct K.hallFdbStatic)).length + d.hall.fdb.length

/-- R330: the ports of an address and VID: a static entry's, a learned one's, or none for a miss. -/
def Device.fdbLookup (d : Device) (mac : Bytes) (vid : Nat) : Option Nat :=
  match (table16 (d.oct K.hallFdbStatic)).find? (fun e => field e 0 6 = mac && fieldNat e 6 2 % 4096 = vid) with
  | some e => some (fieldNat e 8 6)
  | none => (d.hall.fdb.find? (fun e => e.mac = mac && e.vid = vid)).map (fun e => 2 ^ e.port)

/-- R330: Hallway learns a source address on port p. -/
def Device.learn (d : Device) (p : Nat) (mac : Bytes) (vid : Nat) : Device :=
  let static := (table16 (d.oct K.hallFdbStatic)).any (fun e => field e 0 6 = mac && fieldNat e 6 2 % 4096 = vid)
  let others := d.hall.fdb.filter (fun e => !(e.mac = mac && e.vid = vid))
  let entry : FdbEntry := { mac := mac, vid := vid, port := p, seen := d.clock.ticks }
  if !bit (d.nat K.hallLearnMask) p || static then d
  else if others.length < d.hall.fdb.length || d.fdbCount < 16384 then { d with hall := { d.hall with fdb := others ++ [entry] } }
  else
    let d1 := d.bump K.hallFdbFull
    let sec := d.clock.mt / secU
    if d.hall.fullSec = some sec then d1
    else ({ d1 with hall := { d1.hall with fullSec := some sec } } : Device).report 0x0904 [d1.num K.hallFdbFull]

/-- FDB_AGEING_EXPIRY (R330): the learned entry that ages out first is removed at its time. -/
def Device.fdbAge (d : Device) : Device :=
  let age := d.nat K.hallFdbAgeing
  match (d.hall.fdb.map (fun e => e.seen)).min? with
  | some t => if age = 0 then d else
    let d1 := d.runTo (t + age * sTicks)
    { d1 with hall := { d1.hall with fdb := d1.hall.fdb.filter (fun e => d1.clock.ticks < e.seen + age * sTicks) } }
  | none => d

/-- R331: the bytes of a forwarded frame on a port: tagged with its VID and PCP, or untagged. -/
def retag (b : Bytes) (pcp vid : Nat) (untag : Bool) : Bytes :=
  let k := parseFrame b
  let rest := b.drop (k.l3 - 2)
  if untag then b.take 12 ++ rest else b.take 12 ++ tagBytes (some (pcp, vid)) ++ rest

/-- R330: static entries that a commit brought leave no room for all of the learned ones: those refreshed longest ago go (DESIGN CHOICE, log
114: the spec does not say which). -/
def Device.fdbFit (d : Device) : Device := { d with hall := { d.hall with fdb := d.hall.fdb.drop (d.fdbCount - 16384) } }

/-- R330, R333: group 0x0A has switched. -/
def Device.fwdSwitched (d : Device) : Device := d.freeEnded.fdbFit.cellCheck

/-- R348: is port p mirrored in a direction (1 received, 2 sent). -/
def Device.mirrored (d : Device) (p dir : Nat) : Bool :=
  bit (d.nat K.hallMirrorSrc) p && (d.nat K.hallMirrorDir / dir) % 2 = 1

/-- R339, R348: a copy goes to Q0 of the mirror's destination, or is dropped: counted in HALL_MIRROR_DROP where Q0 is full. -/
def Device.mirror (d0 : Device) (f : Frame) : Device :=
  let d := d0.freeEnded
  let p := d.nat K.hallMirrorDest
  if d.gateNever p 0 f.body then d.egressDrop p 4 0 (K.gateNeverDrop p)
  else if d.nat (K.qMaxCells p 0) < d.queueCells p 0 + f.cells then d.bump K.hallMirrorDrop
  else ((d.bringCredits p).setQueue p 0 (· ++ [{ f with insOp := 0, tag := .none, launch := none }])).cellCheck

/-- R330, R331: a stored frame is forwarded to its ports. -/
def Device.forward (d : Device) (p : Nat) (f : Frame) : Device :=
  let k := parseFrame f.body
  let vid := d.vidOf p k
  let pcp := match k.tag with | some t => t.1 | none => 0
  match vlanEntry (d.oct K.hallVlanTable) vid with
  | none => d
  | some (members, untagged) =>
    let mask := (d.fdbLookup k.dst vid).getD members
    let q := d.pcpQueue p k
    let d1 := d.learn p k.src vid
    (List.range 44).foldl (fun d o =>
      if o ≠ p && bit mask o && bit members o then d.enqueue o q { f with body := retag f.body pcp vid (bit untagged o) } else d) d1

/-! ## Commits and power -/

/-- R339, R341, R347: the schedules switched; `old` shows the values before, `slot` the slot of the commit or 0xFF. -/
def Device.gatesSwitched (d0 : Device) (old : Nat → Val) (slot : Nat) : Device :=
  let d := (List.range 44).foldl (fun d p =>
    let d1 := d.setNum (K.gateCount p) (gateEntries (d.oct (K.gateList p))).length
    let d2 := d1.setEgress p (fun e => { e with credits := e.credits.mapIdx (fun q c =>
      if d.nat (K.cbsSlope p q) = 0 && (old (K.cbsSlope p q)).int ≠ 0 then { c with level := 0 } else c) })
    (List.range 8).foldl (fun d q =>
      let gone := (d.queue p q).filter (fun f => d.gateNever p q f.body)
      gone.foldl (fun d f => (d.setQueue p q (fun l => l.erase f)).egressDrop p 4 q (K.gateNeverDrop p)) d) d2) d0
  let changed := (List.range 44).filter (fun p => [K.gateList p, K.gateBase p, K.gateCycle p].any (fun k => d.val k ≠ old k))
  let mask := changed.foldl (fun m p => m + 2 ^ p) 0
  (d.report 0x0902 [(mask % 2 ^ 32 : Nat), slot, (mask / 2 ^ 32 : Nat)]).cellCheck

/-- R350, Table 1-6: on entry to Park or Deep Off every queued frame is discarded, and frames that an internal port holds are lost with the data banks. -/
def Device.hallSleep (d0 : Device) : Device :=
  let d := (List.range 44).foldl (fun d p => (List.range 8).foldl (fun d q =>
    (d.queue p q).foldl (fun d _ => (d.setQueue p q (·.drop 1)).egressDrop p 5 q (K.sleepDiscard p)) d) d) d0
  ({ d with hall := { d.hall with waiting := [], taken := List.replicate 4 none }, parl := { d.parl with rx := [] } } : Device).cellCheck

/-- HALL_FDB_FLUSH (R351), and Deep Off (R350): every learned entry goes. -/
def Device.flushFdb (d : Device) : Device := { d with hall := { d.hall with fdb := [] } }

/-- R351: the checks of a HALL_VLAN_TABLE value at its write: VIDs 1 to 4,094, masks of 44 ports, reserved 0. -/
def vlanTableBad (b : Bytes) : Bool :=
  (table16 b).any (fun e => fieldNat e 0 2 = 0 || 4094 < fieldNat e 0 2 || 2 ^ 44 ≤ fieldNat e 2 6 || 2 ^ 44 ≤ fieldNat e 8 6
    || fieldNat e 14 2 ≠ 0)

/-- R351: the checks of a HALL_FDB_STATIC value at its write. -/
def fdbStaticBad (b : Bytes) : Bool :=
  (table16 b).any (fun e => 4096 ≤ fieldNat e 6 2 || 2 ^ 44 ≤ fieldNat e 8 6 || fieldNat e 14 2 ≠ 0)

/-- R337: the checks of a GATE_LIST value at its write, its length being right. -/
def gateListBad (b : Bytes) : Bool :=
  (List.range (b.length / 8)).any (fun i =>
    fieldNat b (8 * i) 4 < 8 || 1000000000 < fieldNat b (8 * i) 4 || fieldNat b (8 * i + 5) 3 ≠ 0)

/-- R342: the rules of groups 0x0B and 0x09 on port p over the viewed values. -/
def gatePairs (v : Nat → Val) (p : Nat) : List Nat :=
  let n := fun k => (v k).int
  let es := gateEntries (v (K.gateList p)).bytes
  let sum : Nat := es.foldl (fun a e => a + e.1) 0
  let slopes := (List.range 8).foldl (fun a q => a + n (K.cbsSlope p q)) 0
  let cells : Int := ceilDiv (n (K.portMaxFrame p)).toNat 256
  breaks (!es.isEmpty && (sum : Int) ≠ n (K.gateCycle p) * (1000 * psG : Nat)) [K.gateList p, K.gateCycle p]
  ++ breaks ((modeRate p (n (K.portMode p)).toNat * 1000 : Int) < slopes)
    (K.portMode p :: ((List.range 8).map (fun q => K.cbsSlope p q)).filter (fun k => n k ≠ 0))
  ++ (if (List.range 8).any (fun q => n (K.qMaxCells p q) < cells) then
      K.portMaxFrame p :: ((List.range 8).filter (fun q => n (K.qMaxCells p q) < cells)).map (fun q => K.qMaxCells p q) else [])

/-- R351: the rules of group 0x0A over the viewed values; `owner` is the port that carries the owner. -/
def fwdPairs (v : Nat → Val) (owner : Option Nat) : List Nat :=
  let n := fun k => (v k).int.toNat
  let tab := (v K.hallVlanTable).bytes
  let vids := (table16 tab).map (fun e => fieldNat e 0 2)
  breaks (vids.eraseDups.length ≠ vids.length) [K.hallVlanTable]
  ++ ((List.range 44).map (fun p => breaks (!(vlanEntry tab (n (K.inPvid p))).any (fun e => bit e.1 p)) [K.hallVlanTable, K.inPvid p])).flatten
  ++ breaks ((table16 (v K.hallFdbStatic).bytes).any (fun e => !vids.contains (fieldNat e 6 2 % 4096))) [K.hallVlanTable, K.hallFdbStatic]
  ++ breaks (bit (n K.hallMirrorSrc) (n K.hallMirrorDest)) [K.hallMirrorSrc, K.hallMirrorDest]
  ++ breaks (owner.any (fun p => bit (n K.hallLoopMask) p)) [K.hallLoopMask]

/-- GATE_BOUNDARY. -/
def execGateBoundary (port : Nat) (s : State) : Host.Outcome State Fault Refusal := .next (s.on (·.gateBoundary port))
/-- FDB_AGEING_EXPIRY. -/
def execFdbAgeingExpiry (s : State) : Host.Outcome State Fault Refusal := .next (s.on (·.fdbAge))

end Sys2Proof.Machine
end

