-- ==== Sys2Proof/Machine/PtpBase.lean ====
section
/-! DEFINITION. PTP messages (14_precision_time.md): their fields, the instance a message belongs to (R394), and building the frames
that carry them. -/

namespace Sys2Proof.Machine

/-- The common header and body of a PTP message (IEEE 1588-2019). -/
structure PtpMsg where
  kind : Nat
  sdo : Nat
  version : Nat
  minor : Nat
  domain : Nat
  minorSdo : Nat
  flags : Nat
  corr : Int
  source : Bytes
  seq : Nat
  logInt : Int
  body : Bytes
  deriving DecidableEq, Repr

/-- A message read from its bytes. -/
def ptpMsg (b : Bytes) : PtpMsg :=
  { kind := fieldNat b 0 1 % 16, sdo := fieldNat b 0 1 / 16, version := fieldNat b 1 1 % 16, minor := fieldNat b 1 1 / 16
    domain := fieldNat b 4 1, minorSdo := fieldNat b 5 1, flags := fieldNat b 6 2, corr := toSigned 8 (fieldNat b 8 8)
    source := field b 20 10, seq := fieldNat b 30 2, logInt := toSigned 1 (fieldNat b 33 1), body := field b 34 (fieldNat b 2 2 - 34) }

/-- The PTP message that a frame carries and its transport (0 IEEE 802.3, 1 UDP IPv4, 2 UDP IPv6), if it carries one. -/
def ptpOf (f : Bytes) : Option (Nat × PtpMsg) :=
  let k := parseFrame f
  if k.etype = 0x88F7 then some (0, ptpMsg (f.drop k.l3))
  else if k.udp && (k.dport = 319 || k.dport = 320) then some (if k.ip = 4 then 1 else 2, ptpMsg (udpPayload f))
  else none

/-- INST_PROFILE of PTn. -/
def Device.profile (d : Device) (n : Nat) : Nat := d.nat (K.instProfile n)

/-- Table 14-1: does PTn measure peer-to-peer. -/
def Device.peerDelay (d : Device) (n : Nat) : Bool := 1 ≤ d.profile n

/-- Table 14-1: is PTn's profile one of IEEE 802.1AS. -/
def Device.gptp (d : Device) (n : Nat) : Bool := 2 ≤ d.profile n

/-- Is PTn enabled. -/
def Device.instOn (d : Device) (n : Nat) : Bool := d.num (K.instEnable n) = 1

/-- Is port p in PTn's mask. -/
def Device.inMask (d : Device) (n p : Nat) : Bool := bit (d.nat (K.instPortMask n)) p

/-- R395: the state of port p of PTn, byte p of INST_PORT_STATE. -/
def Device.ptpState (d : Device) (n p : Nat) : Nat := fieldNat (d.oct (K.instPortState n)) p 1

/-- PTn's own state. -/
def Device.inst (d : Device) (n : Nat) : PtpInst := d.ptp.getD n {}

/-- The part with PTn's own state changed. -/
def Device.setInst (d : Device) (n : Nat) (f : PtpInst → PtpInst) : Device := { d with ptp := updAt d.ptp n f }

/-- Port p of PTn. -/
def Device.ptpPort (d : Device) (n p : Nat) : PtpPort := (d.inst n).ports.getD p {}

/-- The part with port p of PTn changed. -/
def Device.setPtpPort (d : Device) (n p : Nat) (f : PtpPort → PtpPort) : Device :=
  d.setInst n (fun i => { i with ports := updAt i.ports p f })

/-- R395: port p of PTn takes a state; each change is recorded. -/
def Device.setPtpState (d : Device) (n p st : Nat) : Device :=
  let old := d.ptpState n p
  if old = st then d else
  (d.setOct (K.instPortState n) (putBytes (d.oct (K.instPortState n)) p (toBE 1 st))).report 0x0A10 [n, p, old, st]

/-- R394: the enabled instance that a message on port p over a transport belongs to. -/
def Device.instOf (d : Device) (p transport : Nat) (m : PtpMsg) : Option Nat :=
  (List.range 8).find? (fun n => d.instOn n && d.inMask n p && d.nat (K.instTransport n) = transport
    && d.nat (K.instDomainNum n) = m.domain && d.nat (K.instMinorSdo n) = m.minorSdo && m.sdo = (if d.gptp n then 1 else 0)
    && m.version = 2 && m.minor ≤ 1)

/-- R392: portIdentity of port p of PTn. -/
def portIdentity (n p : Nat) : Bytes := clockIdOf n ++ toBE 2 (p + 1)

/-- The TLVs of a PTP message from its bytes after the body that IEEE 1588 fixes: type and value. -/
def ptpTlvs : Nat → Bytes → List (Nat × Bytes)
  | 0, _ => []
  | fuel + 1, b => if b.length < 4 then [] else (fieldNat b 0 2, field b 4 (fieldNat b 2 2)) :: ptpTlvs fuel (b.drop (4 + fieldNat b 2 2))

/-- The TLVs of a message, by the length of its type's body. -/
def PtpMsg.tlvs (m : PtpMsg) : List (Nat × Bytes) :=
  let fixed := if m.kind = 11 then 30 else if m.kind = 13 then 14 else if [2, 3, 9, 10].contains m.kind then 20 else 10
  ptpTlvs m.body.length (m.body.drop fixed)

/-- R390: the message interval request (IEEE 802.1AS) that a message carries. -/
def PtpMsg.intervalRequest (m : PtpMsg) : Option Bytes :=
  (m.tlvs.find? (fun t => t.1 = 3 && 9 ≤ t.2.length && t.2.take 6 = ofNats [0, 0x80, 0xC2, 0, 0, 2])).map (·.2)

/-- R391, R393, R394, R399: does PTn use a message on port p. A time transmitter (role 0) uses none of a better clock's messages; of Signaling
only an interval request in profile 3 is used, and no message with an AUTHENTICATION TLV. -/
def Device.instUses (d : Device) (n p : Nat) (m : PtpMsg) : Bool :=
  let follows := d.nat (K.instRole n) ≠ 0
  !m.tlvs.any (fun t => t.1 = 0x8009) &&
  (if m.kind = 0 || m.kind = 8 then follows
  else if m.kind = 11 then follows && d.profile n ≠ 3
  else if m.kind = 1 then !d.peerDelay n && d.ptpState n p = 6
  else if m.kind = 9 then follows && !d.peerDelay n
  else if m.kind = 2 then d.peerDelay n && d.ptpState n p ≠ 2 && d.ptpState n p ≠ 3
  else if m.kind = 3 || m.kind = 10 then d.peerDelay n
  else m.kind = 12 && d.profile n = 3 && m.intervalRequest.isSome)

/-- The control field that IEEE 1588 gives a message type. -/
def ptpControl (kind : Nat) : Nat :=
  if kind = 0 then 0 else if kind = 1 then 1 else if kind = 8 then 2 else if kind = 9 then 3 else 5

/-- A message that PTn sends on port p (R391, R397 to R400). -/
def Device.buildPtp (d : Device) (n p kind flags : Nat) (corr : Int) (seq : Nat) (logInt : Int) (body : Bytes) : Bytes :=
  ofNats [(if d.gptp n then 16 else 0) + kind, 0x12] ++ toBE 2 (34 + body.length)
    ++ ofNats [d.nat (K.instDomainNum n), d.nat (K.instMinorSdo n)] ++ toBE 2 flags ++ toBE 8 (ofSigned 8 corr) ++ toBE 4 0
    ++ portIdentity n p ++ toBE 2 seq ++ ofNats [ptpControl kind, ofSigned 1 logInt] ++ body

/-- The multicast MAC address of an IP multicast address. -/
def multicastMac (a : Bytes) : Bytes :=
  if a.length = 4 then ofNats [1, 0, 0x5E, fieldNat a 1 1 % 128] ++ field a 2 2 else ofNats [0x33, 0x33] ++ field a 12 4

/-- The multicast address of a transport for peer delay messages or for the others. -/
def ptpGroup (transport : Nat) (peer : Bool) : Bytes :=
  if transport = 0 then toBE 6 (if peer then 0x0180C200000E else 0x011B19000000)
  else if transport = 1 then ofNats (if peer then [224, 0, 0, 107] else [224, 0, 1, 129])
  else if peer then toBE 16 0xFF02000000000000000000000000006B
  else ofNats [0xFF, Config.ptpScope % 16] ++ toBE 14 0x181

/-- A multicast frame with a PTP message, and where the message begins. -/
def Device.ptpFrame (d : Device) (n p : Nat) (m : Bytes) : Bytes × Nat :=
  let kind := fieldNat m 0 1 % 16
  let peer := kind = 2 || kind = 3
  let tr := d.nat (K.instTransport n)
  let mac := d.oct (K.portMac p)
  let grp := ptpGroup tr peer
  let port := if kind < 8 then 319 else 320
  if tr = 0 then (etherFrame grp mac none 0x88F7 m, 14)
  else
    let ip := d.oct (if tr = 1 then K.portIpv4 p else K.portIpv6 p)
    (udpFrame (multicastMac grp) mac none ip grp port port m, udpPayAt none ip)

/-- A frame that answers a PTP request in its own manner: unicast to a unicast request, else to its group (R391, R22). -/
def Device.ptpAnswer (d : Device) (p : Nat) (req m : Bytes) : Bytes × Nat :=
  let k := parseFrame req
  let mac := d.oct (K.portMac p)
  let port := if fieldNat m 0 1 % 16 < 8 then 319 else 320
  let group := fieldNat k.dst 0 1 % 2 = 1
  if k.etype = 0x88F7 then (etherFrame (if group then k.dst else k.src) mac k.tag 0x88F7 m, k.l3)
  else
    let ip := d.oct (if k.ip = 4 then K.portIpv4 p else K.portIpv6 p)
    let dip := if group then k.daddr else k.saddr
    (udpFrame (if group then k.dst else k.src) mac k.tag ip dip port port m, udpPayAt k.tag ip)

/-- R399: the Delay_Resp to a Delay_Req received at an MT instant (2^-16 ns). -/
def Device.delayResp (d : Device) (n p : Nat) (req : Bytes) (rx16 : Int) (m : PtpMsg) : Bytes :=
  let v := d.scaleAt16 (3 + n) (rx16 * fracU)
  let group := fieldNat (parseFrame req).dst 0 1 % 2 = 1
  -- the receive time is t4 less its fraction; IEEE 1588 subtracts the fraction from the correction
  d.buildPtp n p 9 (if group then 0 else 0x0400) (m.corr - (v % 65536 : Nat)) m.seq (if group then d.num (K.instLogDelay n) else 0x7F)
    (field (time96Bytes v) 0 10 ++ m.source)

/-- R399: the Pdelay_Resp to a Pdelay_Req; INS_OP 2 adds the turnaround. -/
def Device.pdelayResp (d : Device) (n p : Nat) (m : PtpMsg) : Bytes :=
  d.buildPtp n p 3 0 m.corr m.seq 0x7F (List.replicate 10 0 ++ m.source)

end Sys2Proof.Machine
end

