-- ==== Sys2Proof/Machine/Parlour.lean ====
section
/-! DEFINITION. Parlour (13_time_service.md): classes, the classifier, buckets, the client table, reservations, responses, refusals,
NTS and the observed latency. The ledger class is decided in Ledger. -/

namespace Sys2Proof.Machine

/-- The part with Parlour's own state changed. -/
def Device.setParl (d : Device) (f : Parl → Parl) : Device := { d with parl := f d.parl }

/-! ## Recognition (R354, R355, R378, R382) -/

/-- An NTP extension field: its type and its body; a list of them read to the end, or none where one is malformed. Each takes 16 bytes or
more, so that a fuel of the payload's length suffices. -/
def extFields : Nat → Bytes → Option (List (Nat × Bytes))
  | 0, _ => none
  | fuel + 1, b =>
    if b.isEmpty then some [] else
    let len := fieldNat b 2 2
    if b.length < 28 && len = b.length || len < 16 || len % 4 ≠ 0 || b.length < len then none
    else (extFields fuel (b.drop len)).map (fun r => (fieldNat b 0 2, field b 4 (len - 4)) :: r)

/-- R378: the parts of an NTS request: Unique Identifier, cookie, placeholders, authenticator. -/
def ntsParts (fs : List (Nat × Bytes)) : Option (Bytes × Bytes × Nat × Bytes) :=
  match fs with
  | (0x0104, u) :: (0x0204, c) :: rest =>
    match rest.getLast? with
    | some (0x0404, a) =>
      let ph := rest.dropLast
      if 32 ≤ u.length && ph.length ≤ 7 && ph.all (fun f => f.1 = 0x0304 && f.2.length = c.length) then some (u, c, ph.length, a)
      else none
    | _ => none
  | _ => none

/-- What a frame at IP0 is: a request of a class of Table 13-1, a malformed request, a PTP message, or nothing known. -/
inductive Arrival where
  | request (cls : Nat)
  | malformed
  | ptp (inst kind : Nat)
  | unknown
  deriving DecidableEq, Repr

/-- R354, R355: recognition of a frame that IP0 received on port p. -/
def Device.recognise (d : Device) (p : Nat) (f : Bytes) : Arrival :=
  let k := parseFrame f
  match ptpOf f with
  | some (tr, m) =>
    match d.instOf p tr m with
    | none => .unknown
    | some n => if m.kind = 2 && d.instUses n p m then .request 2 else if m.kind = 1 && d.instUses n p m then .request 3 else .ptp n m.kind
  | none =>
    let u := udpPayload f
    if k.dport = 123 then
      let mode := fieldNat u 0 1 % 8
      let ver := fieldNat u 0 1 / 8 % 8
      match extFields u.length (u.drop 48) with
      | none => .malformed
      | some fs =>
        let nts := fs.any (fun x => x.1 = 0x0104)
        if u.length < 48 || mode ≠ 3 || (ver ≠ 3 && ver ≠ 4) then .malformed
        else if !nts then .request 0
        else if ver = 4 && (ntsParts fs).isSome && u.length ≤ 1200 then .request 1 else .malformed
    else if k.dport = 4844 then
      let t := fieldNat u 1 1
      if u.length = 64 && fieldNat u 0 1 = 1 && (t = 1 || t = 2) && fieldNat u 2 1 ≤ 10 && fieldNat u 3 1 = 0
        && (field u 28 36).all (· = 0) then .request (if t = 1 then 4 else 5)
      else .malformed
    else .unknown

/-- R354, R394: a frame is delivered to IP0: requests and messages wait there, all else is discarded and counted. -/
def Device.toIp0 (d : Device) (q : RxFrame) : Device :=
  match d.recognise q.port q.body with
  | .request c =>
    if wordInvalid q.stamp then d.wrap (K.stampInvalid q.port) else
    match ptpOf q.body with
    | some (tr, m) =>
      match d.instOf q.port tr m with
      | some n =>
        if (c = 2 || c = 3) && m.source.take 8 = clockIdOf n then d.bump (K.instRxDiscard n)
        else d.setParl (fun a => { a with rx := a.rx ++ [q] })
      | none => d.bump K.parMalformed
    | none => d.setParl (fun a => { a with rx := a.rx ++ [q] })
  | .ptp n k =>
    let m := (ptpOf q.body).map (·.2)
    if m.any (fun m => !d.instUses n q.port m || m.source.take 8 = clockIdOf n) then d.bump (K.instRxDiscard n)
    else if wordInvalid q.stamp && (k = 0 || k = 3) then d.wrap (K.stampInvalid q.port)
    else d.setParl (fun a => { a with rx := a.rx ++ [q] })
  | _ => d.bump K.parMalformed

/-! ## Classifier (R358, R359) -/

/-- Does an address lie in a prefix of `len` bits. -/
def inPrefix (a pre : Bytes) (len : Nat) : Bool :=
  let n := 8 * a.length
  beNat a / 2 ^ (n - len) = beNat (pre.take a.length) / 2 ^ (n - len)

/-- R359: does a classifier rule bind a request of a class. -/
def Device.ruleMatches (d : Device) (r : Bytes) (cls p : Nat) (k : Pkt) : Bool :=
  let fl := fieldNat r 2 1
  let ring := fieldNat r 0 1 % 64
  let len := fieldNat r 3 1
  let vid := fieldNat r 10 2
  bit fl 0 && fieldNat r 1 1 = cls && bit (fieldNat r 4 6) p && (vid = 0 || vid = d.vidOf p k)
    && (len = 0 || (k.ip ≠ 0 && bit fl 1 = (k.ip = 6 : Bool) && inPrefix k.saddr (field r 12 16) len))
    && d.nat (K.ringSize ring) ≠ 0 && d.nat (K.ringClass ring) = cls

/-- R359: the ring that the first matching rule binds a request to. -/
def Device.ringOf (d : Device) (cls p : Nat) (k : Pkt) : Option Nat :=
  let b := d.oct K.parClassifier
  ((List.range (b.length / 32)).map (fun i => field b (32 * i) 32)).find? (fun r => d.ruleMatches r cls p k)
    |>.map (fun r => fieldNat r 0 1 % 64)

/-- R358: is a PAR_CLASSIFIER value of a proper length refused. -/
def classifierBad (b : Bytes) : Bool :=
  (List.range (b.length / 32)).any (fun i =>
    let r := field b (32 * i) 32
    let fl := fieldNat r 2 1
    63 < fieldNat r 0 1 || 5 < fieldNat r 1 1 || 3 < fl || 2 ^ 44 ≤ fieldNat r 4 6 || 4094 < fieldNat r 10 2
      || fieldNat r 28 4 ≠ 0 || (if bit fl 1 then 128 else 32) < fieldNat r 3 1)

/-! ## Buckets and clients (R370 to R373) -/

/-- CK_FAB ticks of 1.6 ns since the reset. -/
def Device.fabTick (d : Device) : Nat := (d.clock.ticks - d.clock.handover.getD 0) / 2

/-- One token in a bucket's unit. -/
def tokenU : Nat := 1000 * 625000000

/-- R370: a bucket of `cap` tokens brought up to a tick at a rate in thousandths of a token per second. -/
def Bucket.now (b : Bucket) (milli cap tick : Nat) : Bucket :=
  { level := min (cap * tokenU) (b.level + milli * (tick - b.since)), since := tick }

/-- R370: does the bucket hold a token. -/
def Bucket.has (b : Bucket) : Bool := tokenU ≤ b.level

/-- A token is taken. -/
def Bucket.take (b : Bucket) : Bucket := { b with level := b.level - tokenU }

/-- A full bucket. -/
def fullBucket (cap tick : Nat) : Bucket := { level := cap * tokenU, since := tick }

/-- Ring g's own state. -/
def Device.ring (d : Device) (g : Nat) : Ring := d.parl.rings.getD g {}

/-- The part with ring g's own state changed. -/
def Device.setRing (d : Device) (g : Nat) (f : Ring → Ring) : Device := d.setParl (fun a => { a with rings := updAt a.rings g f })

/-- The source address of a request (R371): IP, or MAC at Layer 2. -/
def sourceOf (k : Pkt) : Bytes := if k.ip = 0 then k.src else k.saddr

/-- R371: the client table without a key. -/
def Device.otherClients (d : Device) (g p : Nat) (a : Bytes) : List Client :=
  d.parl.clients.filter (fun c => !(c.ring = g && c.port = p && c.addr = a))

/-- R371, R372: a request of a client comes: its entry is found, made or taken over; none if it stays untracked. The entry's last
request is this one. -/
def Device.touchClient (d : Device) (g p : Nat) (a : Bytes) : Option Client × Device :=
  let put := fun (c : Client) (rest : List Client) => (some c, d.setParl (fun x => { x with clients := c :: rest }))
  let others := d.otherClients g p a
  let cap := d.nat (K.clientBurst g)
  match d.parl.clients.find? (fun c => c.ring = g && c.port = p && c.addr = a) with
  | some c => put { c with last16 := d.mt16, bucket := c.bucket.now (d.nat (K.clientRate g)) cap d.fabTick } others
  | none =>
    let fresh : Client := { ring := g, port := p, addr := a, bucket := fullBucket cap d.fabTick, last16 := d.mt16 }
    let set := Config.clientSet d.power.released g p a % 16384
    let inSet := others.filter (fun c => Config.clientSet d.power.released c.ring c.port c.addr % 16384 = set)
    if inSet.length < 16 then put fresh others
    else
      let oldest := (inSet.map (fun c => c.last16)).min?.getD 0
      match inSet.find? (fun c => c.last16 = oldest) with
      | some c => if c.last16 + d.nat K.parClientIdle * sec16 ≤ d.mt16 then put fresh (others.erase c) else (none, d)
      | none => (none, d)

/-- R372: event 0x0A04 at the first untracked request in each MT second. -/
def Device.noteUntracked (d : Device) : Device :=
  let sec := d.clock.mt / secU
  if d.parl.untrackedSec = some sec then d
  else (d.setParl (fun a => { a with untrackedSec := some sec })).report 0x0A04 [d.parl.clients.length]

/-- R370, R372, R374: ring g's buckets at this tick at the rates that `get` shows. -/
def Device.ringNow (d : Device) (g : Nat) (get : Nat → Val) : Ring :=
  let n := fun k => (get k).int.toNat
  let r := d.ring g
  { bucket := r.bucket.now (n (K.ringRate g) * 1000) (n (K.ringBurst g)) d.fabTick
    untracked := r.untracked.now (n (K.untrackedRate g) * 1000) (max 1 (n (K.untrackedRate g) / 1000)) d.fabTick
    refusals := r.refusals.now (n (K.refuseRate g) * 1000) (max 1 (n (K.refuseRate g) / 1000)) d.fabTick }

/-- R370, R373: ring g after a commit; `old` shows the values before. -/
def Device.ringApplied (d : Device) (g : Nat) (old : Nat → Val) : Device :=
  let on := d.nat (K.ringSize g) ≠ 0 && (old (K.ringSize g)).int = 0
  let full : Ring :=
    { bucket := fullBucket (d.nat (K.ringBurst g)) d.fabTick
      untracked := fullBucket (max 1 (d.nat (K.untrackedRate g) / 1000)) d.fabTick
      refusals := fullBucket (max 1 (d.nat (K.refuseRate g) / 1000)) d.fabTick }
  let d1 := d.setRing g (fun _ => if on then full else d.ringNow g old)
  if d.val (K.clientRate g) ≠ old (K.clientRate g) || d.val (K.clientBurst g) ≠ old (K.clientBurst g) then
    d1.setParl (fun a => { a with clients := a.clients.filter (fun c => c.ring ≠ g) })
  else d1

/-! ## Second counts -/

/-- The counts of the running MT second, moved on when a new second has begun. -/
def Device.rollSecond (d : Device) : Device :=
  let sec := d.clock.mt / secU
  d.setParl (fun a =>
    if a.sec = sec then a
    else
      let f := fun (c : Nat × Nat) => if sec = a.sec + 1 then (0, c.1) else (0, 0)
      { a with sec := sec, admits := f a.admits, refusals := f a.refusals })

/-- PAR_ADMIT_RATE and PAR_REFUSE_NOW: the counts of the last MT second. -/
def Device.lastSecond (d : Device) : Nat × Nat :=
  let sec := d.clock.mt / secU
  if d.parl.sec = sec then (d.parl.admits.2, d.parl.refusals.2)
  else if d.parl.sec + 1 = sec then (d.parl.admits.1, d.parl.refusals.1) else (0, 0)

/-! ## Reservations (R364 to R368) -/

/-- Table 13-4: the build cost of a class in ps. -/
def buildCost (cls : Nat) : Nat := if cls = 1 then 2048000 else if cls = 5 then 128000 else 256000

/-- R364: the lane that is free first: its number and when it is free. -/
def Device.firstLane (d : Device) : Nat × Nat :=
  (d.parl.lanes.mapIdx (fun i t => (i, t))).foldl (fun b x => if x.2 < b.2 then x else b) (0, d.parl.lanes.headD 0)

/-- R366: D_p of port p in ps, rounded up to a whole ns. -/
def Device.delayP (d : Device) (p : Nat) : Nat :=
  let v : Int := if 16 ≤ p then d.txPath p + 4000 else d.txBound p * 1000 + d.stampLat p false + d.num (K.stampTxCorr p) + 4000
  ceilDiv v.toNat 1000 * 1000

/-- R365: the first start at or after s on MT (gate units) whose gates are open and that overlaps no reservation; each of at most `fuel`
moves passes a reservation. -/
def Device.slotFrom (d : Device) (ss : List Sched) (p q x y : Nat) : Nat → Nat → Option Nat
  | 0, _ => none
  | fuel + 1, s =>
    match readyAll ss q x s with
    | none => none
    | some w =>
      let s1 := s + w
      match d.parl.resv.find? (fun r => r.port = p && s1 < r.start + r.len && r.start < s1 + y) with
      | some r => d.slotFrom ss p q x y fuel (r.start + r.len)
      | none => some s1

/-- R365, R368: the earliest reservation (gate units) for a frame of `len` bytes that is ready at `ready` (root ps). -/
def Device.findSlot (d : Device) (p len ready : Nat) : Option Nat :=
  d.slotFrom (d.scheds p (d.frozen 0x0B)) p (d.nat K.parQueue) (d.frameG p len) (d.spanY p len) (2 * d.parl.resv.length + 4)
    (max (d.mtAtPs ready) (d.wp p))

/-- A reservation is taken for a frame. -/
def Device.reserve (d : Device) (p s : Nat) (f : Frame) : Device :=
  d.setParl (fun a => { a with resv := a.resv ++ [{ port := p, start := s, len := d.spanY p (frameLen (padFrame f.body)), frame := f }] })

/-- R366: a request's end instant t_end on MT as it reads now (gate units), the steps since the receive stamp apart. -/
def Device.endG (d : Device) (q : RxFrame) : Int := (q.end16 + (d.clock.stepped - q.stepped)) * (1000 * fracU : Nat)

/-- R361, R366: does the predicted latency of a response that starts at s keep ring g's bound. -/
def Device.inBound (d : Device) (q : RxFrame) (g s : Nat) : Bool :=
  (s : Int) + (d.delayP q.port * psG : Nat) - d.endG q ≤ (d.nat (K.ringBound g) * 1000 * psG : Nat)

/-- R366: s + D_p as an MT instant in its unit. -/
def Device.promised (d : Device) (p s : Nat) : Int := ((s + d.delayP p * psG) / 1000 : Nat)

/-! ## Responses (R375 to R383) -/

/-- Table 3-3: leap indicator and stratum of a time state, at a request's receive stamp (R21). -/
def RxFrame.ntpState (q : RxFrame) (st : Nat) : Nat × Nat :=
  if st = 3 || st = 4 then (q.leap, 1) else (3, 16)

/-- R176: the error bound in ns that a response states for MT, in force at its receive stamp; it is unbounded in T0 to T2. -/
def RxFrame.errorBound (q : RxFrame) (st : Nat) : Nat := if st < 3 then 0xFFFFFFFF else min 0xFFFFFFFF q.bound

/-- R176, R376: root dispersion in 2^-16 s; `extra` ns are added. -/
def RxFrame.rootDispersion (q : RxFrame) (extra : Nat) : Nat :=
  if 0xFFFFFFFF ≤ q.bound then 0xFFFFFFFF else min 0xFFFFFFFF (ceilDiv ((q.bound + extra) * 65536) 1000000000)

/-- Table 13-6: the reference ID of the candidate selected last. -/
def Device.referenceId (d : Device) : Nat :=
  match d.therm.lastSel with
  | none => 0
  | some n => if n = 0 then 0x474E5353 else if n < 5 then 0x52454630 + (n - 1) else 0x50545030 + (n - 5)

/-- Table 13-6: the reference timestamp on UTC. -/
def Device.referenceTime (d : Device) : Bytes :=
  match d.therm.lastSel with
  | none => List.replicate 8 0
  | some n =>
    let t := if d.hold.active then d.hold.freezeMt else (d.cand n).phaseMt
    if t = 0 then List.replicate 8 0 else ntpStamp (d.scaleAt16 1 (t * fracU : Nat))

/-- Tables 13-5, 13-6: the 48 bytes of an NTP answer: the request's, LI, stratum, precision, dispersion, ID and timestamps. -/
def ntpHeader (req : Bytes) (li stratum precision dispersion refId : Nat) (refT rxT txT : Bytes) : Bytes :=
  ofNats [li * 64 + fieldNat req 0 1 / 8 % 8 * 8 + 4, stratum] ++ field req 2 1 ++ toBE 1 precision ++ toBE 4 0
    ++ toBE 4 dispersion ++ toBE 4 refId ++ refT ++ field req 40 8 ++ rxT ++ txT

/-- Table 13-6: an NTP answer with a given transmit timestamp. -/
def Device.ntpAnswer (d : Device) (q : RxFrame) (req : Bytes) (extra : Nat) (txT : Bytes) : Bytes :=
  let st := fieldNat q.stamp 7 1 % 8
  let (li, stratum) := q.ntpState st
  ntpHeader req li stratum (256 - 30) (q.rootDispersion extra) d.referenceId d.referenceTime
    (ntpStamp (d.scaleAt16 1 (q.rx16 * fracU))) txT

/-- Table 13-5, R379: a kiss with a reference ID. -/
def kissAnswer (req : Bytes) (refId : Nat) (ext : Bytes) : Bytes :=
  ntpHeader req 3 0 0 0 refId (List.replicate 8 0) (List.replicate 8 0) (List.replicate 8 0) ++ ext

/-- R408: is a scale a free domain in role 1 or 2, with a state of its own. -/
def Device.ownState (d : Device) (sc : Nat) : Bool := 3 ≤ sc && !d.bound (sc - 3) && d.nat (K.instRole (sc - 3)) ≠ 0

/-- R21, R383, R408: the time state of a scale at a request's receive stamp: MT's, or DOM_STATE of a free domain in role 1 or 2. -/
def Device.scaleState (d : Device) (q : RxFrame) (sc st : Nat) : Nat :=
  if d.ownState sc then (q.free.getD (sc - 3) (0, 0)).1 else st

/-- Table 13-9, R412: the error bound of an LTQ answer. -/
def Device.ltqBound (d : Device) (q : RxFrame) (sc st : Nat) : Nat :=
  if d.scaleState q sc st < 3 then 0xFFFFFFFF
  else if d.ownState sc then (q.free.getD (sc - 3) (0, 0)).2
  else q.errorBound (if st < 3 then 3 else st)

/-- Table 13-9: an LTQ plain answer; `busy` makes it the refusal. State, leap bits and UTC_OFFSET are those at the receive stamp (R21). -/
def Device.ltqAnswer (d : Device) (q : RxFrame) (u : Bytes) (ring : Nat) (busy : Bool) : Bytes :=
  let sc := fieldNat u 2 1
  let st := fieldNat q.stamp 7 1 % 8
  let lp := q.leap
  ofNats [1, fieldNat u 1 1 + 0x80, sc, d.scaleState q sc st + (if lp = 1 then 8 else 0) + (if lp = 2 then 16 else 0)]
    ++ toBE 2 (if busy then 1 else 0) ++ toBE 2 (ofSigned 2 q.utc) ++ field u 4 24
    ++ (if busy then List.replicate 12 0 else time96Bytes (d.scaleAt16 sc (q.rx16 * fracU))) ++ List.replicate 12 0
    ++ toBE 4 (if busy then 0 else d.ltqBound q sc st) ++ ofNats [ring, 0, 0, 0]

/-- An NTP extension field, padded to whole words. -/
def extField (typ : Nat) (b : Bytes) : Bytes :=
  let n := ceilDiv b.length 4 * 4
  toBE 2 typ ++ toBE 2 (n + 4) ++ padTo n b

/-- R380: a cookie with new keys under the master key of slot 60. -/
def Device.cookie (d : Device) (c2s s2c : Bytes) : Bytes × Device :=
  let (nonce, d1) := d.drawBytes 16
  let kid := toBE 4 (d.nat (K.ksKeyId 60))
  (kid ++ nonce ++ sivSeal (d.keyhole.keys.getD 60 []) [kid, nonce] (toBE 2 15 ++ c2s ++ s2c) ++ [0, 0], d1)

/-- n cookies. -/
def Device.cookies (d : Device) (c2s s2c : Bytes) : Nat → List Bytes × Device
  | 0 => ([], d)
  | n + 1 => let (c, d1) := d.cookie c2s s2c; let (cs, d2) := d1.cookies c2s s2c n; (c :: cs, d2)

/-- R379: what becomes of an NTS request: the keys to answer with, a NAK with its cause, or nothing. -/
inductive NtsCheck where
  | good (c2s s2c : Bytes)
  | nak (cause : Nat)
  | drop
  deriving DecidableEq, Repr

/-- R379, R469: the cookie is opened and the authenticator checked. `u` is the UDP payload. -/
def Device.ntsCheck (d : Device) (u : Bytes) : NtsCheck :=
  match (extFields u.length (u.drop 48)).bind ntsParts with
  | none => .drop
  | some (_, ck, _, auth) =>
    let kid := fieldNat ck 0 4
    match [60, 61].find? (fun s => d.nat (K.ksState s) ≠ 0 && d.nat (K.ksKeyId s) = kid) with
    | none => .nak 1
    | some s =>
      if d.nat (K.ksState s) ≠ 2 then .nak 3 else
      match if ck.length = 104 then sivOpen (d.keyhole.keys.getD s []) [field ck 0 4, field ck 4 16] (field ck 20 82) else none with
      | none => .nak 2
      | some pt =>
        let c2s := field pt 2 32
        let nl := fieldNat auth 0 2
        let cl := fieldNat auth 2 2
        let aad := u.take (u.length - auth.length - 4)
        if (sivOpen c2s [aad, field auth 4 nl] (field auth (4 + ceilDiv nl 4 * 4) cl)).isNone || d.nat K.khEntropyState ≠ 1 then .drop
        else .good c2s (field pt 34 32)

/-- R379: the extension fields of an NTS answer over its header. -/
def Device.ntsExt (d : Device) (hdr uid c2s s2c : Bytes) (n : Nat) : Bytes × Device :=
  let (cs, d1) := d.cookies c2s s2c n
  let (nonce, d2) := d1.drawBytes 16
  let uidF := extField 0x0104 uid
  let ct := sivSeal s2c [hdr ++ uidF, nonce] (cs.map (extField 0x0204)).flatten
  (uidF ++ extField 0x0404 (toBE 2 16 ++ toBE 2 ct.length ++ nonce ++ ct), d2)

/-- The UDP payload length of an NTS answer to a request with `n` placeholders and an identifier of `k` bytes. -/
def ntsLen (k n : Nat) : Nat := 48 + (4 + ceilDiv k 4 * 4) + (4 + 4 + 16 + 16 + 108 * (n + 1))

/-- The frame that answers an admitted request of a plain class; NTS answers are written by `ntsFrame`. -/
def Device.answerFrame (d : Device) (q : RxFrame) (cls ring id : Nat) : Frame :=
  let mac := d.oct (K.portMac q.port)
  let u := udpPayload q.body
  let k := parseFrame q.body
  let at_ := udpPayAt k.tag k.daddr
  let base : Frame := { body := [], src := 0x100, tag := .entry id }
  if cls = 0 then
    { base with body := udpReply q.body mac (d.ntpAnswer q u 0 (List.replicate 8 0)), insOp := 3, insOff := at_ + 40, csumOff := at_ - 2 }
  else if cls = 4 then
    { base with body := udpReply q.body mac (d.ltqAnswer q u ring false), insOp := 4, insScale := fieldNat u 2 1
                insOff := at_ + 44, csumOff := at_ - 2 }
  else match ptpOf q.body with
  | some (tr, m) =>
    let n := (d.instOf q.port tr m).getD 0
    if cls = 2 then
      let (b, off) := d.ptpAnswer q.port q.body (d.pdelayResp n q.port m)
      { base with body := b, insOp := 2, corrOff := off + 8, csumOff := if tr = 0 then 0 else off - 2, ref := q.stamp }
    else { base with body := (d.ptpAnswer q.port q.body (d.delayResp n q.port q.body q.rx16 m)).1 }
  | none => base

/-- The length on the wire of an admitted request's response. -/
def Device.answerLen (d : Device) (q : RxFrame) (cls : Nat) : Nat :=
  if cls = 1 then
    let u := udpPayload q.body
    let k := parseFrame q.body
    match (extFields u.length (u.drop 48)).bind ntsParts with
    | some (uid, _, n, _) => max 64 (udpPayAt k.tag k.daddr + ntsLen uid.length n + 4)
    | none => 64
  else frameLen (padFrame (d.answerFrame q cls 0 0).body)

/-! ## Admission (R360 to R367) -/

/-- R362: the requests in flight: a ledger request until its leaf is placed. -/
def Device.flying (d : Device) : List Flight := d.parl.flights.filter (fun f => f.till.all (d.rootPs < ·))

/-- PAR_INFLIGHT of one ring. -/
def Device.inflight (d : Device) (g : Nat) : Nat := (d.flying.filter (fun f => f.ring = g)).length

/-- R363: may ring g take a pipeline entry, and is it one of its reserved ones. -/
def Device.entryFor (d : Device) (g : Nat) : Option Bool :=
  let own := (d.flying.filter (fun f => f.ring = g && f.reserved)).length
  let shared := (d.flying.filter (fun f => !f.reserved)).length
  let sum := (List.range 64).foldl (fun n i => n + d.nat (K.ringReserve i)) 0
  if 1024 ≤ d.flying.length then none
  else if own < d.nat (K.ringReserve g) then some true else if shared + sum < 1024 then some false else none

/-- A request whose client and ring are known, with its buckets at this tick. -/
structure Asked where
  cls : Nat
  ring : Nat
  client : Option Client
  bucket : Bucket
  untracked : Bucket
  deriving DecidableEq, Repr

/-- R361: checks 1 to 4 of Table 13-3; the reason of the first that fails, 0 if none. -/
def Device.checks (d : Device) (a : Asked) : Nat :=
  let g := a.ring
  if d.num K.parAdmitStopped = 1 then 1
  else if d.nat (K.ringRate g) ≠ 0 && !a.bucket.has then 2
  else if d.nat (K.clientRate g) ≠ 0 && !(match a.client with | some c => c.bucket.has | none => d.nat (K.untrackedRate g) ≠ 0 && a.untracked.has) then 3
  else if d.nat (K.ringSize g) ≤ d.inflight g || (d.entryFor g).isNone then 4
  else 0

/-- R361: the tokens of checks 2 and 3 are taken. -/
def Device.takeTokens (d : Device) (a : Asked) : Device :=
  let d1 := d.setRing a.ring (fun r => { r with bucket := a.bucket.take })
  if d.nat (K.clientRate a.ring) = 0 then d1
  else match a.client with
  | some c => d1.setParl (fun x => { x with clients := { c with bucket := c.bucket.take } :: d1.otherClients c.ring c.port c.addr })
  | none => d1.setRing a.ring (fun r => { r with untracked := a.untracked.take })

/-- The ring's counters and the in-flight peak after an admission. -/
def Device.countAdmit (d : Device) (g : Nat) : Device :=
  let d1 := (d.bump64 (K.ringAdmitted g)).rollSecond
  let d2 := d1.setParl (fun a => { a with admits := (a.admits.1 + 1, a.admits.2), flights := d1.flying })
  d2.setNum K.parInflightPeak (max (d2.nat K.parInflightPeak) d2.flying.length : Nat)

/-- R374, R375: a refusal for a reason is counted, and sent within the ring's refusal rate. -/
def Device.refuse (d : Device) (q : RxFrame) (cls g reason : Nat) : Device :=
  let d1 := ((d.bump64 (K.ringRefused g)).bump (K.ringRefuseBy g (reason - 1))).rollSecond
  let d2 := d1.setParl (fun a => { a with refusals := (a.refusals.1 + 1, a.refusals.2) })
  let d3 := d2.reportOnce (0x0A02 * 65536 + g * 16 + reason) 0x0A02 [g, reason, (d2.nat (K.ringRefused g) % 2 ^ 32 : Nat)]
  let rate := d.nat (K.refuseRate g)
  let b := (d.ringNow g d.val).refusals
  if cls = 2 || cls = 3 then d3
  else if rate = 0 || !b.has then d3.bump (K.ringRefuseSilent g)
  else
    let u := udpPayload q.body
    let pay := if cls = 0 then kissAnswer u 0x52415445 []
      else if cls = 1 then kissAnswer u 0x52415445 (match (extFields u.length (u.drop 48)).bind ntsParts with
        | some (uid, _) => extField 0x0104 uid | none => [])
      else d.ltqAnswer q u g true
    (d3.setRing g (fun r => { r with refusals := b.take })).ipSend q.port (d.nat K.parRefuseQueue)
      { body := udpReply q.body (d.oct (K.portMac q.port)) pay, src := 0x100 }

/-- R379: the NTS outcome of an admitted request whose response starts at s: a frame, or none for a NAK or a drop. -/
def Device.ntsFrame (d : Device) (q : RxFrame) (id s : Nat) : Option Frame × Device :=
  let u := udpPayload q.body
  let mac := d.oct (K.portMac q.port)
  match d.ntsCheck u, (extFields u.length (u.drop 48)).bind ntsParts with
  | .good c2s s2c, some (uid, _, n, _) =>
    let hdr := d.ntpAnswer q u (if q.port < 16 then d.txBound q.port else 0) (ntpStamp (d.scaleAt16 1 (d.promised q.port s)))
    let (ext, d1) := d.ntsExt hdr uid c2s s2c (n + 1)
    (some { body := udpReply q.body mac (hdr ++ ext), src := 0x100, tag := .entry id }, d1)
  | .nak c, some (uid, _) =>
    let d1 := d.bump K.ntsNakCount
    let d2 := d1.reportOnce (0x0A05 * 65536 + c) 0x0A05 [c]
    (none, d2.ipSend q.port (d.nat K.parRefuseQueue)
      { body := udpReply q.body mac (kissAnswer u 0x4E54534E (extField 0x0104 uid)), src := 0x100 })
  | _, _ => (none, d.bump K.ntsAuthDrop)

/-- R361 to R367: checks 6 and 7 of a request of a class other than the ledger's, its admission, entry, lane and reservation. -/
def Device.admitPlain (d : Device) (q : RxFrame) (a : Asked) : Device :=
  let p := q.port
  let g := a.ring
  let len := d.answerLen q a.cls
  let (lane, free) := d.firstLane
  let c := max d.rootPs free + buildCost a.cls
  if !d.portUp p || d.txBound p = 0xFFFFFFFF then d.refuse q a.cls g 6 else
  match d.findSlot p len (c + 64000) with
  | none => d.refuse q a.cls g 7
  | some s =>
    if !d.inBound q g s then d.refuse q a.cls g 7 else
    let id := d.parl.nextId
    let fl : Flight := { id := id, ring := g, port := p, end16 := q.end16, bound := d.nat (K.ringBound g), steps := q.steps
                         reserved := (d.entryFor g).getD false }
    let d1 := (d.takeTokens a).setParl (fun x => { x with nextId := id + 1, flights := x.flights ++ [fl], lanes := x.lanes.set lane c })
    let d2 := d1.countAdmit g
    if a.cls = 1 then
      match d2.ntsFrame q id s with
      | (some f, d3) => d3.reserve p s f
      | (none, d3) => d3.setParl (fun x => { x with flights := x.flights.filter (fun f => f.id ≠ id) })
    else d2.reserve p s (d2.answerFrame q a.cls g id)

/-! ## Hand-over and returned stamps (R367, R384) -/

/-- R367: the reservation whose start comes first. -/
def Device.nextResv (d : Device) : Option Resv :=
  match (d.parl.resv.map (fun r => r.start)).min? with
  | some s => d.parl.resv.find? (fun r => r.start = s)
  | none => none

/-- R369: port p leaves UP or Hearth enters FAULT: its admitted responses are discarded. -/
def Device.parlLinkLost (d : Device) (p : Nat) : Device :=
  let gone := d.parl.flights.filter (fun f => f.port = p && f.till.isNone)
  let d1 := gone.foldl (fun d f => d.bump (K.ringLinkDiscard f.ring)) d
  d1.setParl (fun a => { a with flights := a.flights.filter (fun f => f.port ≠ p || f.till.isSome), resv := a.resv.filter (fun r => r.port ≠ p) })

/-- R30, R369: an uncorrectable error takes a pipeline entry. -/
def Device.entryLost (d : Device) (id : Nat) : Device :=
  match d.parl.flights.find? (fun f => f.id = id) with
  | none => d
  | some f =>
    let d1 := d.bump (K.ringIntegrityLoss f.ring)
    let d2 := d1.setParl (fun a => { a with
      flights := a.flights.filter (fun x => x.id ≠ id), resv := a.resv.filter (fun r => r.frame.tag ≠ .entry id) })
    d2.report 0x0A07 [f.ring, d2.num (K.ringIntegrityLoss f.ring)]

/-- Bin i of a ring's histogram raised by 1. -/
def raiseBin (b : Bytes) (i : Nat) : Bytes := putBytes b (4 * i) (toBE 4 ((fieldNat b (4 * i) 4 + 1) % 2 ^ 32))

/-- R369, R384: the transmit stamp of an admitted response is back; `steps` is MT_STEP_COUNT as the stamp was taken. -/
def Device.flightDone (d : Device) (f : Flight) (word : Bytes) (t16 : Int) (steps : Nat) : Device :=
  let g := f.ring
  let d1 := d.setParl (fun a => { a with flights := a.flights.filter (fun x => x.id ≠ f.id) })
  if f.steps ≠ steps then d1.bump (K.ringStepSpanned g)
  else if wordInvalid word then d1
  else
    let l := (t16 - f.end16) / 65536
    let d2 := ((d1.setNum (K.ringObsMin g) (min (d1.num (K.ringObsMin g)) l)).setNum (K.ringObsMax g) (max (d1.num (K.ringObsMax g)) l))
    let d3 := (d2.bumpBy 8 (K.ringObsSum g) l.toNat).bump64 (K.ringObsCount g)
    if (f.bound : Int) < l then (d3.bump (K.ringMisses g)).report 0x0A01 [g, l, f.bound, f.port]
    else d3.setOct (K.ringObsHist g) (raiseBin (d3.oct (K.ringObsHist g)) (min 15 (16 * l / f.bound).toNat))

/-- RING_OBS_CLEAR (R384): a ring's statistics are zeroed on one tick. -/
def Device.clearRing (d : Device) (g : Nat) : Device :=
  (d.setNums [(K.ringObsMax g, 0), (K.ringObsMin g, 0xFFFFFFFF), (K.ringObsSum g, 0), (K.ringObsCount g, 0), (K.ringMisses g, 0),
    (K.ringObsSince g, d.mt16)]).setOct (K.ringObsHist g) (List.replicate 64 0)

/-! ## NTS-KE (R381) -/

/-- NTSKE_CONN_NOW and the close of connections: failures are counted and recorded. -/
def Device.ntskeFail (d : Device) (alert : Nat) : Device :=
  let d1 := d.bump K.ntskeFailed
  d1.reportOnce (0x0A06 * 65536) 0x0A06 [alert, d1.num K.ntskeFailed]

/-- R381: the alert that the handshake ends with: the client's own, or what the options that the device allows leave no choice but (RFC 8446:
protocol_version 70, handshake_failure 40, no_application_protocol 120). -/
def tlsFailure (c : TlsClient) : Option Nat :=
  if !c.tls13 then some 70
  else if !c.suites.any (fun x => x = 0x1301 || x = 0x1302) || !c.groups.any (fun x => x = 0x001D || x = 0x0017) then some 40
  else if !c.alpn.contains (ascii "ntske/1") then some 120
  else c.alert

/-- R381, RFC 8915: the records of a byte string: whether each is critical, its type and its body; none where they do not end with End of
Message. -/
def keRecords : Nat → Bytes → Option (List (Bool × Nat × Bytes))
  | 0, _ => none
  | fuel + 1, b =>
    let n := fieldNat b 2 2
    let typ := fieldNat b 0 2 % 32768
    if b.length < 4 + n then none
    else if typ = 0 then (if b.length = 4 then some [] else none)
    else (keRecords fuel (b.drop (4 + n))).map (fun r => (32768 ≤ fieldNat b 0 2, typ, field b 4 n) :: r)

/-- A record of RFC 8915. -/
def keRecord (critical : Bool) (typ : Nat) (body : Bytes) : Bytes :=
  toBE 2 (typ + if critical then 32768 else 0) ++ toBE 2 body.length ++ body

/-- The 16-bit words of a record's body. -/
def words16 (b : Bytes) : List Nat := (List.range (b.length / 2)).map (fun i => fieldNat b (2 * i) 2)

/-- R381, RFC 8915: what Study answers to a client's records: Error 0 to an unrecognised critical record, Error 1 to a request without exactly
one protocol record, protocol 0 and algorithm 15 where the client offers them, and then the cookies. Answers whether cookies went out. -/
def Device.keAnswer (d : Device) (c : TlsClient) : Bytes × Bool × Device :=
  let stop := keRecord true 0 []
  match keRecords (c.records.length + 1) c.records with
  | none => (keRecord true 2 (toBE 2 1) ++ stop, false, d)
  | some rs =>
    let protos := rs.filter (fun r => r.2.1 = 1)
    let takes := fun (typ v : Nat) => rs.any (fun r => r.2.1 = typ && (words16 r.2.2).contains v)
    if rs.any (fun r => r.1 && 7 < r.2.1) then (keRecord true 2 (toBE 2 0) ++ stop, false, d)
    else if protos.length ≠ 1 then (keRecord true 2 (toBE 2 1) ++ stop, false, d)
    else if !takes 1 0 then (keRecord true 1 [] ++ stop, false, d)
    else if !takes 4 15 then (keRecord true 1 (toBE 2 0) ++ keRecord true 4 [] ++ stop, false, d)
    else
      let (cs, d1) := d.cookies c.c2s c.s2c (d.nat K.ntskeCookies)
      (keRecord true 1 (toBE 2 0) ++ keRecord true 4 (toBE 2 15) ++ (cs.map (keRecord false 5)).flatten ++ stop, true, d1)

/-- NTSKE_CONNECTION (R381): a client connects to TCP port 4460; `open_` leaves its connection open with nothing sent yet. A halted core 1, a
disabled service or too many connections refuse it. -/
def Device.ntskeRun (d : Device) (c : TlsClient) (open_ : Bool) : Device :=
  let key := d.nat K.ntskeKeySlot
  if d.num K.ntskeEnable ≠ 1 || d.num K.parAdmitStopped = 1 then d
  else if d.nat K.ntskeMaxConn ≤ d.parl.conns.length || d.nat (K.ksState key) ≠ 2 || d.nat (K.ksUse key) ≠ 2
    || fieldNat (d.oct K.studyCoreState) 1 1 ≠ 0 || d.nat (K.ksState 60) ≠ 2 || d.nat K.khEntropyState ≠ 1 then d.ntskeFail (c.alert.getD 0)
  else if open_ then
    d.setParl (fun a => { a with
      conns := a.conns ++ [(a.connNext, d.clock.ticks + d.nat K.ntskeTimeout * msTicks)], connNext := a.connNext + 1 })
  else match tlsFailure c with
  | some a => (d.emit (.tlsAlert a)).ntskeFail a
  | none =>
    let (out, done, d1) := d.keAnswer c
    let d2 := d1.emit (.ntske out)
    if done then d2.bump K.ntskeDone else d2.ntskeFail 0

/-- R381: every open connection is closed with close_notify. -/
def Device.ntskeClose (d : Device) : Device :=
  { d with outbox := d.outbox ++ d.parl.conns.map (fun _ => .tlsAlert 0), parl := { d.parl with conns := [] } }

/-- NTSKE_TIMEOUT (R381): the connection that has been open longest passes NTSKE_TIMEOUT and is closed. -/
def Device.ntskeExpire (d : Device) : Device :=
  match d.parl.conns with
  | [] => d
  | (_, t) :: rest => (({ d.runTo t with parl := { d.parl with conns := rest } } : Device)).ntskeFail 0

/-! ## Pairing rules (R357, R387) -/

/-- R357: the rules that hold while any ring is enabled, over the viewed values. -/
def queuePairs (v : Nat → Val) : List Nat :=
  let n := fun k => (v k).int.toNat
  let q := n K.parQueue
  if (List.range 64).all (fun g => n (K.ringSize g) = 0) then [] else
  ((List.range 44).map (fun p =>
    breaks ((List.range 8).any (fun i => q ≤ n (K.inPcpMap p) / 16 ^ i % 8)) [K.inPcpMap p, K.parQueue]
    ++ breaks (n (K.cbsSlope p q) ≠ 0) [K.cbsSlope p q, K.parQueue]
    ++ breaks (bit (n (K.qLaunchMask p)) q) [K.qLaunchMask p, K.parQueue])).flatten
  ++ breaks (q ≤ n K.parRefuseQueue) [K.parQueue, K.parRefuseQueue]

/-- Table 13-1: the minimum bound of a class in ns, the ledger's from LEDGER_PERIOD (in ms or us, as `period` ns gives it). -/
def classMin (cls period : Nat) : Nat := if cls = 1 then 4000 else if cls = 5 then period + 300000 else 2000

/-- R387: the rules of group 0x0C over the viewed values; `period` is the batch period in ns. -/
def ringPairs (v : Nat → Val) (period : Nat) : List Nat :=
  let n := fun k => (v k).int.toNat
  let tab := (v K.parClassifier).bytes
  let rings := List.range 64
  (rings.map (fun g =>
    breaks (n (K.ringBound g) < classMin (n (K.ringClass g)) period) [K.ringBound g]
    ++ breaks (n (K.ringSize g) < n (K.ringReserve g)) [K.ringSize g, K.ringReserve g])).flatten
  ++ (if 1024 < rings.foldl (fun s g => s + n (K.ringReserve g)) 0 then
      (rings.map (fun g => K.ringReserve g)).filter (fun k => n k ≠ 0) else [])
  ++ ((List.range (tab.length / 32)).map (fun i =>
      let r := field tab (32 * i) 32
      breaks (bit (fieldNat r 2 1) 0 && n (K.ringClass (fieldNat r 0 1 % 64)) ≠ fieldNat r 1 1)
        [K.parClassifier, K.ringClass (fieldNat r 0 1 % 64)])).flatten
  ++ breaks (n K.ntskeEnable = 1 && (v K.ntskeCert).bytes.isEmpty) [K.ntskeEnable, K.ntskeCert]
  ++ queuePairs v

end Sys2Proof.Machine
end

