-- ==== Sys2Proof/Machine/Strongroom.lean ====
section
/-! DEFINITION. The big-number engine (16_bignum_engine.md): operand slots, what each operation checks and computes, jobs, lanes,
dispatch and abort. What ends a job that another lane verifies, and what a lost lane does to the ledger, stands in Ledger. -/

namespace Sys2Proof.Machine

/-- The part with Strongroom changed. -/
def Device.setStrong (d : Device) (f : Strong → Strong) : Device := { d with strong := f d.strong }

/-! ## Slots (R445 to R447) -/

/-- R446: the length of owner slot i in words. -/
def Device.slotWords (d : Device) (i : Nat) : Nat := fieldNat (d.oct K.srSlotLayout) i 1

/-- The contents of owner slot i, most significant byte first. -/
def Device.slotBytes (d : Device) (i : Nat) : Bytes := padTo (8 * d.slotWords i) (d.oct (K.srSlotData i))

/-- R447: the last n bytes of a slot. -/
def lastBytes (n : Nat) (b : Bytes) : Bytes := b.drop (b.length - n)

/-- Owner slot i takes bytes, right-aligned. -/
def Device.putSlot (d : Device) (i : Nat) (b : Bytes) : Device :=
  let n := 8 * d.slotWords i
  d.setOct (K.srSlotData i) (lastBytes n (List.replicate n 0 ++ b))

/-- R446: is a layout out of range. -/
def layoutBad (b : Bytes) : Bool :=
  b.any (fun x => x.toNat < 4 || 128 < x.toNat) || 4096 < b.foldl (fun s x => s + x.toNat) 0

/-! ## Operations (Table 16-4) -/

/-- Table 16-4: how many source, destination and scratch slots an operation uses, in that order from S0 on. -/
def opShape (op : Nat) : Option (Nat × Nat × Nat) :=
  if op = 0x01 then some (3, 1, 0) else if op = 0x02 then some (3, 1, 1) else if op = 0x03 then some (4, 1, 2)
  else if op = 0x10 || op = 0x18 then some (2, 2, 1) else if op = 0x11 || op = 0x19 then some (5, 0, 0)
  else if op = 0x12 || op = 0x1A then some (3, 1, 1) else if op = 0x13 || op = 0x1B then some (1, 2, 1)
  else if op = 0x20 then some (2, 1, 1) else if op = 0x21 then some (3, 0, 0) else if op = 0x22 then some (1, 1, 1)
  else if op = 0x30 then some (2, 1, 1) else if op = 0x40 || op = 0x41 then some (2, 0, 0)
  else if op = 0x42 || op = 0x43 then some (1, 0, 0) else none

/-- Is the operation one on P-384, and its curve. -/
def opCurve (op : Nat) : Curve := if 0x18 ≤ op && op < 0x20 || op = 0x41 then p384 else p256

/-- Is the operation modular. -/
def opModular (op : Nat) : Bool := op < 0x10

/-- Is the operation a signature. -/
def opSigns (op : Nat) : Bool := op = 0x10 || op = 0x18 || op = 0x20

/-- R458: does the operation work on a secret. -/
def opSecret (op : Nat) : Bool :=
  op = 0x03 || opSigns op || op = 0x12 || op = 0x1A || op = 0x13 || op = 0x1B || op = 0x22 || op = 0x30

/-- Table 16-4: the least length in words of slot field i, given the length of the M slot. -/
def leastWords (op i m : Nat) : Nat :=
  if opModular op then (if 3 ≤ i && !(op = 0x03 && i = 3) then m else 4)
  else if (op = 0x20 || op = 0x21) && i = 2 then 8
  else if 0x18 ≤ op && op < 0x20 || op = 0x41 then 6 else 4

/-- R451: is a descriptor of the owner's refused. -/
def Device.descriptorBad (d : Device) (b : Bytes) : Bool :=
  let op := fieldNat b 0 1
  let s := fun i => fieldNat b (4 + i) 1
  match opShape op with
  | none => true
  | some (a, o, c) =>
    let n := a + o + c
    let used := (List.range n).map s
    fieldNat b 1 1 ≠ 0xFF || used.any (fun x => 64 ≤ x) || (List.range 8).any (fun i => n ≤ i && s i ≠ 0xFF)
    || (List.range n).any (fun i => d.slotWords (s i) < leastWords op i (d.slotWords (s 2)))
    || used.eraseDups.length < n
    || (if op = 0x20 || op = 0x21 then 8 * d.slotWords (s 0) < fieldNat b 2 2 else fieldNat b 2 2 ≠ 0)

/-- The slot number in field i of a job. -/
def Job.s (j : Job) (i : Nat) : Nat := j.slots.getD i 0xFF

/-- R450: an ECDSA digest as an integer mod n, cut to the bits of n as FIPS 186-5 has it. The digest's own length is taken as that of the
integer in whole 64-bit words (DESIGN CHOICE, log 126). -/
def digestOf (c : Curve) (v : Nat) : Nat := v / 2 ^ (64 * ceilDiv (v.log2 + 1) 64 - 8 * c.bytes) % c.n

/-- The slots a job writes: destinations and scratch. -/
def Job.writes (j : Job) : List Nat :=
  match opShape j.op with
  | some (a, o, c) => (j.slots.drop a).take (o + c)
  | none => []

/-- The slots a job uses. -/
def Job.uses (j : Job) : List Nat :=
  match opShape j.op with
  | some (a, o, c) => j.slots.take (a + o + c)
  | none => []

/-- R454: do two jobs conflict. -/
def Job.conflicts (j k : Job) : Bool := j.writes.any (fun s => k.uses.contains s) || k.writes.any (fun s => j.uses.contains s)

/-- A slot of a job as an integer. -/
def Device.slotNat (d : Device) (j : Job) (i : Nat) : Nat := beNat (d.slotBytes (j.s i))

/-- R457, Table 16-8: does a Montgomery coordinate fail its check. -/
def uBad (u : Bytes) : Bool := p25519 ≤ leNat u || x25519Small (leNat u)

/-- R457, Table 16-8: does an Ed25519 encoding fail its check. -/
def edBad (e : Bytes) : Bool :=
  match edDecode e with
  | some q => edSmall q
  | none => true

/-- R457, Table 16-8: does a job's input fail a check of its operation. -/
def Device.inputsBad (d : Device) (j : Job) : Bool :=
  let n := d.slotNat j
  let c := opCurve j.op
  let out := fun (v : Nat) => v = 0 || c.n ≤ v
  let op := j.op
  let key := lastBytes 32 (d.slotBytes (j.s 1))
  if op = 0x01 then n 2 < 3 || n 2 % 2 = 0 || n 0 = 0 || n 2 ≤ n 0 || n 1 = 0 || n 2 ≤ n 1
  else if op = 0x02 || op = 0x03 then n 2 < 3 || n 2 % 2 = 0 || n 0 < 2 || n 2 ≤ n 0 || n 1 = 0 || (op = 0x03 && (n 3 < 2 || n 3 ≤ n 1))
  else if op = 0x10 || op = 0x18 then out (n 1)
  else if op = 0x11 || op = 0x19 then out (n 3) || out (n 4) || !c.on (n 1) (n 2)
  else if op = 0x12 || op = 0x1A then out (n 0) || !c.on (n 1) (n 2)
  else if op = 0x13 || op = 0x1B then out (n 0)
  else if op = 0x20 then key.all (· = 0)
  else if op = 0x21 then
    let sig := lastBytes 64 (d.slotBytes (j.s 2))
    edBad key || edBad (sig.take 32) || ed25519L ≤ leNat (sig.drop 32)
  else if op = 0x22 then (lastBytes 32 (d.slotBytes (j.s 0))).all (· = 0)
  else if op = 0x30 then uBad key
  else if op = 0x40 || op = 0x41 then !c.on (n 0) (n 1)
  else if op = 0x42 then edBad (lastBytes 32 (d.slotBytes (j.s 0)))
  else uBad (lastBytes 32 (d.slotBytes (j.s 0)))

/-- R424, R450: a nonce for ECDSA on a curve, from the Keyhole DRBG. -/
def Device.drawNonce (d : Device) (c : Curve) : Nat × Device :=
  let (b, d1) := d.drawBytes (c.bytes + 8)
  (beNat b % (c.n - 1) + 1, d1)

/-- R458: how many bytes a lane draws to blind an operation on a secret: 8 for the scalar or exponent, 8 for a modular base or a field
element for a point. -/
def blindBytes (op : Nat) : Nat := 8 + if opModular op then 8 else if op < 0x20 then (opCurve op).bytes else 32

/-- A point's coordinates; the identity has none. -/
def Point.xy : Point → Nat × Nat
  | some q => q
  | none => (0, 0)

/-- Table 16-4: what an owner's operation gives: its result (Table 16-7), the slots written with their bytes. -/
def Device.compute (d : Device) (j : Job) : Nat × List (Nat × Bytes) × Device :=
  let n := d.slotNat j
  let c := opCurve j.op
  let f := c.n.log2 + 2
  let num := fun (v : Nat) => toBE 1024 v
  let low := fun (i : Nat) => lastBytes 32 (d.slotBytes (j.s i))
  let msg := (d.slotBytes (j.s 0)).take j.msgLen
  let op := j.op
  let plain := fun (w : List (Nat × Bytes)) => (0, w, d)
  if op = 0x01 then plain [(j.s 3, num (n 0 * n 1 % n 2))]
  else if op = 0x02 then plain [(j.s 3, num (powMod (n 2) ((n 1).log2 + 1) (n 0) (n 1)))]
  else if op = 0x03 then plain [(j.s 4, num (powMod (n 2) ((n 1).log2 + 1) (n 0) (n 1)))]
  else if op = 0x10 || op = 0x18 then
    let (k, d1) := d.drawNonce c
    let (r, s) := c.sign (n 1) (digestOf c (n 0)) k
    (0, [(j.s 2, num r), (j.s 3, num s)], d1)
  else if op = 0x11 || op = 0x19 then (if c.verify (n 1) (n 2) (digestOf c (n 0)) (n 3) (n 4) then 1 else 2, [], d)
  else if op = 0x12 || op = 0x1A then plain [(j.s 3, num (Point.xy (c.mul f (n 0) (some (n 1, n 2)))).1)]
  else if op = 0x13 || op = 0x1B then
    let q := Point.xy (c.base (n 0))
    plain [(j.s 1, num q.1), (j.s 2, num q.2)]
  else if op = 0x20 then plain [(j.s 2, edSign (low 1) msg)]
  else if op = 0x21 then (if edVerify (low 1) msg (lastBytes 64 (d.slotBytes (j.s 2))) then 1 else 2, [], d)
  else if op = 0x22 then plain [(j.s 1, edPublic (low 0))]
  else if op = 0x30 then plain [(j.s 2, x25519 (low 0) (low 1))]
  else (1, [], d)

/-! ## Timing (R455, R457, R464), in CK_TIME ticks of 0.8 ns -/

/-- Table 16-8: the check time. -/
def checkTicks (op : Nat) : Nat :=
  if opModular op then 500 else if op = 0x40 then 1500 else if op = 0x41 then 2500 else if 0x18 ≤ op && op < 0x20 then 2500
  else if op < 0x18 then 1500 else 1250

/-- R464: t_mul at a length of L words. -/
def mulTicks (L : Nat) : Nat := 64 + 2 * L * ceilDiv L 4

/-- How many bits of a number are one, in `n` bits. -/
def ones (v : Nat) : Nat → Nat
  | 0 => 0
  | n + 1 => (if v / 2 ^ n % 2 = 1 then 1 else 0) + ones v n

/-- Table 16-9: the worst-case time of a job from its dispatch. -/
def Device.worstTicks (d : Device) (j : Job) : Nat :=
  let m := mulTicks (d.slotWords (j.s 2))
  let bits := fun (v : Nat) => if v = 0 then 0 else v.log2 + 1
  let e := d.slotNat j 1
  let L := d.slotNat j 3
  let extra := ceilDiv (j.msgLen - 128) 128 * 750
  let op := j.op
  if op = 0x01 then 500 + m
  else if op = 0x02 then 500 + (bits e + ones e (bits e)) * m
  else if op = 0x03 then 500 + ceilDiv ((5 * (bits L + 64) + 64) * m) 4
  else if op = 0x10 then 50000 else if op = 0x18 then 106250
  else if op = 0x11 then 87500 else if op = 0x19 then 187500
  else if op = 0x12 then 47500 else if op = 0x1A then 100000
  else if op = 0x13 then 45000 else if op = 0x1B then 97500
  else if op = 0x20 then 37500 + extra else if op = 0x21 then 70000 + extra
  else if op = 0x22 || op = 0x30 then 31250
  else checkTicks op

/-- Table 16-5: may the job yield while it runs. -/
def Device.yields (d : Device) (j : Job) : Bool := 0x02 ≤ j.op && j.op < 0x40 || (j.op = 0x01 && 64 < d.slotWords (j.s 2))

/-! ## Lanes (R443) -/

/-- SR_LANE_STATE of lane l. -/
def Device.laneState (d : Device) (l : Nat) : Nat := fieldNat (d.oct K.srLaneState) l 1

/-- R443: is lane l in service. -/
def Device.inService (d : Device) (l : Nat) : Bool := d.laneState l = 2 || d.laneState l = 3

/-- R443: the lanes in service, lowest first. -/
def Device.lanesUp (d : Device) : List Nat := (List.range 4).filter d.inService

/-- Lane l. -/
def Device.lane (d : Device) (l : Nat) : Lane := d.strong.lanes.getD l {}

/-- The part with lane l changed. -/
def Device.setLane (d : Device) (l : Nat) (f : Lane → Lane) : Device := d.setStrong (fun s => { s with lanes := updAt s.lanes l f })

/-- Table 16-1: lane l takes a state; SR_LANES_IN_SERVICE follows, and how long it was BUSY is kept. -/
def Device.putLane (d : Device) (l st : Nat) : Device :=
  let d1 := d.setOct K.srLaneState (putBytes (d.oct K.srLaneState) l (toBE 1 st))
  let d2 := d1.setNum K.srLanesInService d1.lanesUp.length
  d2.setLane l (fun x => match x.busyFrom with
    | some t => if st = 3 then x else
        { x with busyFrom := none, busy := (t, d.mtNs) :: x.busy.filter (fun b => d.mtNs < b.2 + 2000000000) }
    | none => if st = 3 then { x with busyFrom := some d.mtNs } else x)

/-- R429, R474: is a slot an ACTIVE ledger key of the algorithm that LEDGER_SIG selects. -/
def Device.ledgerKeyOk (d : Device) (slot sig : Nat) : Bool :=
  slot < 64 && d.nat (K.ksState slot) = 2 && d.nat (K.ksUse slot) = 1 && d.nat (K.ksType slot) = (if sig = 1 then 3 else 1)

/-- Table 1-2: is a provider of Parlour unavailable: fewer than two lanes in service (0), the ledger key selected (1) or the NTS master key (2)
unusable. -/
def Device.providerLost (d : Device) (c : Nat) : Bool :=
  if c = 0 then d.lanesUp.length < 2
  else if c = 1 then d.nat K.ledgerKeySlot < 64 && !d.ledgerKeyOk (d.nat K.ledgerKeySlot) (d.nat K.ledgerSig)
  else d.nat (K.ksState 60) ≠ 2

/-- R17: the event of condition `c`: its number and 1 as it begins, 0 as it ends. -/
def lossReport (c : Nat) (began : Bool) : Nat × List Int := (0x0A00 + Config.lossCode c % 256, [c, if began then 1 else 0])

/-- R17: the conditions that began or ended since `d0`. -/
def Device.lossReports (d0 d : Device) : List (Nat × List Int) :=
  ((List.range 3).filter (fun c => d0.providerLost c != d.providerLost c)).map (fun c => lossReport c (d.providerLost c))

/-- R17: each entry and exit of a condition since `d0` is recorded under Parlour's range. -/
def Device.noteLoss (d d0 : Device) : Device := (d0.lossReports d).foldl (fun e r => e.report r.1 r.2) d

/-- Table 16-12: lane l changes state for a cause of event 0x0B01; READY and BUSY follow each other without a record. -/
def Device.laneTo (d : Device) (l st cause : Nat) : Device := ((d.putLane l st).report 0x0B01 [l, d.laneState l, st, cause]).noteLoss d

/-- READY or BUSY, as lane l has a job or not. -/
def Device.laneFollow (d : Device) (l : Nat) : Device :=
  if !d.inService l then d
  else d.putLane l (if (d.lane l).stack = [] && !(d.lane l).booked then 2 else 3)

/-- SR_LANE_BUSY (Table 16-11): the percentage of the last MT second in which each lane was BUSY. -/
def Device.laneBusy (d : Device) : Bytes :=
  let hi := d.mtNs / 1000000000 * 1000000000
  let lo := hi - 1000000000
  (List.range 4).map (fun l =>
    let x := d.lane l
    let spans := (match x.busyFrom with | some t => [(t, d.mtNs)] | none => []) ++ x.busy
    byte (spans.foldl (fun s b => s + (min b.2 hi - max b.1 lo)) 0 / 10000000))

/-! ## Jobs (R452 to R459) -/

/-- Job `id`. -/
def Device.job (d : Device) (id : Nat) : Option Job := d.strong.jobs.find? (fun j => j.id = id)

/-- The part with a job changed. -/
def Device.setJob (d : Device) (id : Nat) (f : Job → Job) : Device :=
  d.setStrong (fun s => { s with jobs := s.jobs.map (fun j => if j.id = id then f j else j) })

/-- A job takes a state; SR_JOB_STATE follows the owner's. -/
def Device.jobTo (d : Device) (id st : Nat) : Device :=
  match d.job id with
  | none => d
  | some j =>
    let d1 := d.setJob id (fun j => { j with state := st })
    if j.who = .owner then d1.setNum K.srJobState st else d1

/-- SR_QUEUE_DEPTH (Table 16-11): the jobs QUEUED. -/
def Device.queueDepth (d : Device) : Nat := (d.strong.jobs.filter (fun j => j.state = 1)).length

/-- R452: is there a queue entry free at a priority. -/
def Device.queueRoom (d : Device) (prio : Nat) : Bool := d.queueDepth < (if prio = 0 then 64 else 60)

/-- R456, R460: a job is queued; `alone` says that fewer than two lanes are in service as it is submitted. -/
def Device.queueJob (d : Device) (j : Job) : Device :=
  let d1 := d.setStrong (fun s => { s with jobs := s.jobs ++ [{ j with id := s.nextId, state := 1, src := d.foyer.cause, alone := d.lanesUp.length < 2 }], nextId := s.nextId + 1 })
  let d2 := d1.setNum K.srQueueDepth d1.queueDepth
  d2.setNum K.srQueuePeak (max (d2.nat K.srQueuePeak) d1.queueDepth : Nat)

/-- R463: are new jobs of priorities 2 and 3 refused, the lanes being off or about to be. -/
def Device.srStopped (d : Device) : Bool := d.num K.parAdmitStopped = 1 || 2 ≤ d.nat K.fbState

/-- A write to SR_JOB_SUBMIT (R449 to R452, R463): its status and the part. -/
def Device.writeJobSubmit (d : Device) (b : Bytes) : Nat × Device :=
  if d.descriptorBad b then (St.range, d)
  else if !(d.nat K.srJobState = 0 || d.nat K.srJobState = 6) || d.srStopped then (St.state, d)
  else if !d.queueRoom 3 then (St.full, d)
  else
    let slots := (List.range 8).map (fun i => fieldNat b (4 + i) 1)
    let d1 := d.queueJob { id := 0, prio := 3, op := fieldNat b 0 1, msgLen := fieldNat b 2 2, slots := slots, tag := fieldNat b 12 4, who := .owner }
    (St.ok, d1.setNums [(K.srJobState, 1), (K.srJobTag, fieldNat b 12 4), (K.srJobLane, 0xFF)])

/-- A job's destinations and scratch are zeroed. -/
def Device.zeroOuts (d : Device) (j : Job) : Device :=
  if j.who = .owner then j.writes.foldl (fun d s => d.putSlot s []) d else d

/-- R455: the topmost job of lane l runs again 200 ns after the lane is free of higher ones. -/
def Device.resumeTop (d : Device) (l : Nat) : Device :=
  match (d.lane l).stack with
  | [] => d.laneFollow l
  | id :: _ =>
    (match d.job id with
    | some j => if j.state = 4 then
        (d.jobTo id 3).setJob id (fun j => { j with due := d.clock.ticks + 250 + j.left }) else d
    | none => d).laneFollow l

/-- R456: a job ends with a result. The owner's and verifications leave the list; Keyhole's wait to be taken. -/
def Device.endJob (d : Device) (id result : Nat) : Device :=
  match d.job id with
  | none => d
  | some j =>
    let wipe := 1 < j.state && (4 ≤ result && result ≤ 6 || result = 9 || result = 10)
    let d1 := if wipe then d.zeroOuts j else d
    let d2 := if result = 0 || result = 1 then d1.bump64 K.srJobsDone else if result = 3 then d1.bump K.srRefused
      else if result = 4 || result = 5 || result = 9 || result = 10 then d1.bump K.srAborted else d1
    let ns := if j.state = 1 then 0 else (d.clock.ticks - j.start) * 4 / 5
    let d3 := if j.who = .owner then
        d2.setNums [(K.srJobState, 6), (K.srJobResult, result), (K.srJobLane, j.lane.getD 0xFF), (K.srJobTime, (min ns 0xFFFFFFFF : Nat))]
      else d2
    let d4 := if result = 5 || result = 9 then d3.report 0x0B04 [j.prio, j.op, result, j.lane.getD 0xFF] else d3
    let keep := match j.who with
      | .keygen _ | .attest => true
      | _ => false
    let rest := if keep then d4.strong.jobs.map (fun x => if x.id = id then { x with state := 6, result := result } else x)
      else d4.strong.jobs.filter (fun x => x.id ≠ id)
    let d5 := d4.setStrong (fun s => { s with jobs := rest })
    let d6 := d5.setNum K.srQueueDepth d5.queueDepth
    match j.lane with
    | some l => if j.state = 5 then d6 else
        (d6.setLane l (fun x => { x with stack := x.stack.filter (· ≠ id) })).resumeTop l
    | none => d6

/-- R459, R460: the verification of job `id` is given up: it leaves the queue, or the lane that runs it. -/
def Device.dropCheck (d : Device) (id : Nat) : Device :=
  match d.strong.jobs.find? (fun x => x.who = .check id) with
  | none => d
  | some c =>
    let d1 := d.setStrong (fun s => { s with jobs := s.jobs.filter (fun x => x.id ≠ c.id) })
    match c.lane with
    | some l => (d1.setLane l (fun x => { x with stack := x.stack.filter (· ≠ c.id) })).resumeTop l
    | none => d1

/-- A write to SR_JOB_ABORT (R459). -/
def Device.writeJobAbort (d : Device) : Nat × Device :=
  match d.strong.jobs.find? (fun j => j.who = .owner) with
  | none => (St.state, d)
  | some j => (St.ok, (d.dropCheck j.id).endJob j.id 4)

/-- R453, R454: the job that a lane would take: the highest priority first, the oldest within it, none that conflicts. -/
def Device.nextJob (d : Device) (l below : Nat) : Option Job :=
  let live := d.strong.jobs.filter (fun j => 2 ≤ j.state && j.state ≤ 5)
  let ok := d.strong.jobs.filter (fun j => j.state = 1 && j.prio < below && (j.only.all (· = l))
    && !live.any (fun k => j.who = .owner && k.who = .owner && j.conflicts k))
  match (ok.map (·.prio)).min? with
  | some p => ok.find? (fun j => j.prio = p)
  | none => none

/-- R456: job `id` is dispatched on lane l, `wait` ticks from now. -/
def Device.startJob (d : Device) (l : Nat) (j : Job) (wait : Nat) : Device :=
  let t := d.clock.ticks + wait
  let d1 := d.setJob j.id (fun j => { j with lane := some l, start := t, due := t + checkTicks j.op })
  let d2 := ((d1.jobTo j.id 2).setLane l (fun x => { x with stack := j.id :: x.stack })).putLane l 3
  let d3 := d2.setNum K.srQueueDepth d2.queueDepth
  if j.who = .owner then d3.setNum K.srJobLane l else d3

/-- R453, R454: the lowest-numbered READY lane that a waiting job may run on takes it. -/
def Device.dispatch (d : Device) : Device :=
  match ((List.range 4).filter (fun l => d.laneState l = 2)).find? (fun l => (d.nextJob l 4).isSome) with
  | none => d
  | some l =>
    match d.nextJob l 4 with
    | some j => d.startJob l j 0
    | none => d

/-- The running job of lane l yields at this tick (R455). -/
def Device.yieldTop (d : Device) (l : Nat) : Device :=
  match (d.lane l).stack with
  | id :: _ => (d.jobTo id 4).setJob id (fun j => { j with left := j.due - d.clock.ticks })
  | [] => d

/-- R448: does a job read slot s: an owner's names its slots; a job of Keyhole's works in Keyhole's quarter (Table 16-2). -/
def Job.reads (j : Job) (s : Nat) : Bool :=
  match j.who with
  | .owner => j.uses.contains s
  | .check _ => false
  | _ => 192 ≤ s && s < 256

/-- R448, R457, R458, R460: the check time of lane l's job ends; `ecc` names a slot that it read with an uncorrectable error. What blinds
an operation is drawn here; it cancels in every result. -/
def Device.checkEnd (d0 : Device) (l : Nat) (ecc : Option Nat) : Device :=
  match (d0.lane l).stack with
  | [] => d0
  | id :: _ =>
    match d0.job id with
    | none => d0
    | some j =>
      if j.state ≠ 2 then d0 else
      let d := d0.runTo j.due
      let bad := ecc.filter j.reads
      match bad with
      | some s => ((if s < 64 then d.putSlot s [] else d).report 0x0B05 [s, l]).endJob id 10
      | none =>
        if opSecret j.op && d.nat K.khEntropyState ≠ 1 then
          let sec := d.mtNs / 1000000000
          let d1 := d.setStrong (fun s => { s with noEntropy := sec :: s.noEntropy.filter (fun t => sec ≤ t + 1) })
          let n := (d1.strong.noEntropy.filter (fun t => t + 1 = sec)).length
          (d1.reportOnce (0x0B03 * 65536) 0x0B03 [n]).endJob id 8
        else
          let b := if opSecret j.op then (d.drawBytes (blindBytes j.op)).2 else d
          if opSigns j.op && (j.alone || b.lanesUp.length < 2) then b.endJob id 7
          else if j.who = .owner && b.inputsBad j then b.endJob id 3
          else if 0x40 ≤ j.op then b.endJob id 1
          else (b.jobTo id 3).setJob id (fun k => { k with due := k.start + b.worstTicks k })

/-! ## Booked jobs of the ledger (R427, R455) -/

/-- The part with the ledger changed. -/
def Device.setLedger (d : Device) (f : Ledger → Ledger) : Device := { d with ledger := f d.ledger }

/-- The part with batch `id` changed. -/
def Device.setBatch (d : Device) (id : Nat) (f : Batch → Batch) : Device :=
  d.setLedger (fun l => { l with batches := l.batches.map (fun b => if b.id = id then f b else b) })

/-- Batch `id`. -/
def Device.batch (d : Device) (id : Nat) : Option Batch := d.ledger.batches.find? (fun b => b.id = id)

/-- The batch that is FILLING. -/
def Device.filling (d : Device) : Option Batch := d.ledger.batches.find? (fun b => b.state = 0)

/-- The batch in SEALING, SIGNING or VERIFYING. -/
def Device.sealing (d : Device) : Option Batch := d.ledger.batches.find? (fun b => 1 ≤ b.state && b.state ≤ 3)

/-- Table 16-5: how many ticks a running job needs to its next yield point; none if it ends before one. Where the table's points follow
each multiplication they are counted; else the point is free within 1,700 ns (R455). -/
def Device.yieldWait (d : Device) (j : Job) : Option Nat :=
  let left := j.due - d.clock.ticks
  let m := mulTicks (d.slotWords (j.s 2))
  if !d.yields j then none
  else if opModular j.op && d.slotWords (j.s 2) ≤ 64 then (if left ≤ m then none else some (left % m))
  else some (min left (Config.yieldWait d.clock.ticks % 2126))

/-- R455: the job on top of lane l leaves it to a higher one: its checks end, and it yields at its next yield point, its state saved and the
lane free 300 ns later, or completes where no such point is left. -/
def Device.makeWay (d0 : Device) (l : Nat) (ecc : Option Nat) : Device :=
  let topOf := fun (d : Device) => (d.lane l).stack.head?.bind d.job
  let d := if (topOf d0).any (fun j => j.state = 2) then d0.checkEnd l ecc else d0
  match (topOf d).filter (fun j => j.state = 3) with
  | none => d
  | some j =>
    match d.yieldWait j with
    | some w => ((d.elapse w).yieldTop l).elapse 375
    | none =>
      let (r, w, d1) := (d.runTo j.due).compute j
      (w.foldl (fun d x => d.putSlot x.1 x.2) d1).endJob j.id r

/-- R427, R455: a booked job starts on its lane once what runs there has made way. -/
def Device.startBooked (d : Device) (l : Nat) (ecc : Option Nat := none) : Device :=
  ((d.makeWay l ecc).setLane l (fun x => { x with booked := true })).putLane l 3

/-- R427: is lane l the one on which the batch in SIGNING has its sign job booked. -/
def Device.bookedOn (d : Device) (l : Nat) : Bool := (d.sealing.bind (·.lanes)).any (fun x => x.1 = l)

/-- R427: the sign job of the batch in SIGNING starts on its lane at E + 8 us, if a tick that time is to reach is not before that; `ecc` is
what a check that goes on there finds. -/
def Device.bookedStart (d : Device) (t : Nat) (ecc : Option Nat := none) : Device :=
  match d.sealing with
  | none => d
  | some b =>
    match b.lanes with
    | none => d
    | some (x, _) =>
      if b.state = 2 && !b.started && b.ends + 10000 ≤ max t d.clock.ticks then
        ((d.runTo (b.ends + 10000)).startBooked x ecc).setBatch b.id (fun b => { b with started := true })
      else d

/-! ## Lane tests and power (R443, R463) -/

/-- R443, R463: the Crypto domain is on with the root running: every lane that is OFF tests itself; the slots read zero. -/
def Device.lanesOn (d : Device) : Device :=
  let d1 := (List.range 4).foldl (fun d l => if d.laneState l = 0 then
    (d.laneTo l 1 0).setLane l (fun x => { x with testing := d.clock.ticks }) else d) d
  (List.range 64).foldl (fun d s => d.putSlot s []) d1

/-- R463: the Crypto domain is off: no lane is in service. A QUARANTINED lane goes OFF too, and tests itself on the wake, as R463 has it for
every lane; Table 16-1 names SR_LANE_RESTORE and reset alone as its exits (DEDUCED, log 127). -/
def Device.lanesOff (d : Device) : Device :=
  let d1 := (List.range 4).foldl (fun d l => if d.laneState l = 0 then d else d.laneTo l 0 0) d
  let d2 := d1.setStrong (fun s => { s with lanes := s.lanes.map (fun x => { x with stack := [], booked := false }), jobs := [] })
  d2.setNum K.srQueueDepth 0

/-- Is the job the verification of another (R460). -/
def Job.verifies (j : Job) : Bool :=
  match j.who with
  | .check _ => true
  | _ => false

/-- R463: entry to a sleep state aborts every job of priorities 2 and 3, and the verification of one with it. -/
def Device.abortLow (d : Device) : Device :=
  (d.strong.jobs.filter (fun j => 2 ≤ j.prio && j.state < 6 && !j.verifies)).foldl (fun d j => (d.dropCheck j.id).endJob j.id 4) d

/-- A write to SR_LANE_RESTORE (R443). -/
def Device.writeLaneRestore (d : Device) (l : Nat) : Nat × Device :=
  if d.laneState l ≠ 4 then (St.state, d)
  else (St.ok, (d.laneTo l 1 6).setLane l (fun x => { x with testing := d.clock.ticks }))

/-- A write to SR_SLOT_LAYOUT (R446). -/
def Device.writeSlotLayout (d : Device) (b : Bytes) : Nat × Device :=
  if layoutBad b then (St.range, d)
  else if d.strong.jobs.any (fun j => j.who = .owner) then (St.state, d)
  else (St.ok, (List.range 64).foldl (fun d s => d.putSlot s []) (d.setOct K.srSlotLayout b))

/-- A write to SR_SLOT_DATA of owner slot s (R466). -/
def Device.writeSlotData (d : Device) (s : Nat) (b : Bytes) : Nat × Device :=
  if b.length ≠ 8 * d.slotWords s then (St.length, d)
  else if d.strong.jobs.any (fun j => j.who = .owner && j.uses.contains s) then (St.state, d)
  else (St.ok, d.setOct (K.srSlotData s) b)

/-- R466: may owner slot s not be read now. -/
def Device.slotHidden (d : Device) (s : Nat) : Bool :=
  d.strong.jobs.any (fun j => j.who = .owner && 2 ≤ j.state && j.state ≤ 5 && j.writes.contains s)

/-- The job on top of lane l. -/
def Device.topJob (d : Device) (l : Nat) : Option Job := (d.lane l).stack.head?.bind d.job

/-- JOB_DISPATCH, after a booked job whose start has come (R427). -/
def Device.jobDispatch (d : Device) : Device := (d.bookedStart 0).dispatch

/-- JOB_CHECK_END, after a booked job that starts before it (R427), which then lets the check end. -/
def Device.jobCheckEnd (d : Device) (l : Nat) (ecc : Option Nat) : Device :=
  match d.topJob l with
  | some j => if j.state = 2 then (if d.bookedOn l then d.bookedStart j.due ecc else d).checkEnd l ecc else d
  | none => d

/-- JOB_DISPATCH. -/
def execJobDispatch (s : State) : Host.Outcome State Fault Refusal := .next (s.on (·.jobDispatch))
/-- JOB_CHECK_END. -/
def execJobCheckEnd (lane : Nat) (ecc : Option Nat) (s : State) : Host.Outcome State Fault Refusal := .next (s.on (·.jobCheckEnd lane ecc))

end Sys2Proof.Machine
end

