-- ==== Sys2Proof/Machine/Recorder.lean ====
section
/-! DEFINITION. Doorbell's channels and MB8's service (18_mailboxes_firmware.md), and the forming of records out of reports
(19_event_recorder.md). -/

namespace Sys2Proof.Machine

/-- The part with the Attic's own state changed. -/
def Device.setAttic (d : Device) (f : Attic → Attic) : Device := { d with attic := f d.attic }

/-- The part with Study's own state changed. -/
def Device.setStudy (d : Device) (f : Study → Study) : Device := { d with study := f d.study }

/-! ## Mailboxes (R494 to R498) -/

/-- Channel n. -/
def Device.mail (d : Device) (n : Nat) : Mailbox := d.study.mail.getD n {}

/-- The part with channel n changed; its levels and DB_IRQ_PEND follow (R497). -/
def Device.setMail (d : Device) (n : Nat) (f : Mailbox → Mailbox) : Device :=
  let d1 := d.setStudy (fun s => { s with mail := updAt s.mail n f })
  let m := d1.mail n
  let d2 := d1.setNums [(K.mbLevelIn n, m.toFirmware.length), (K.mbLevelOut n, m.toOwner.length)]
  let pend := (List.range 8).foldl (fun v k => v + if (d2.mail (8 + k)).toOwner = [] then 0 else 2 ^ k) 0
  d2.setNum K.dbIrqPend pend

/-- R497: is IRQ_N driven low. -/
def Device.irqLow (d : Device) : Bool := Nat.land (d.nat K.dbIrqPend) (d.nat K.dbIrqMask) ≠ 0

/-- Table 18-3: a message with its SEQ. -/
def message (kind seq : Nat) (pay : Bytes) : Bytes := ofNats [pay.length, kind] ++ toBE 2 seq ++ pay

/-- R495, R501: a send on channel n found its direction full. -/
def Device.mailRefused (d : Device) (n : Nat) : Device :=
  let d1 := d.bump (K.mbRefused n)
  d1.reportOnce (0x0D03 * 65536 + n) 0x0D03 [n, d1.num (K.mbRefused n)]

/-- R495: firmware sends to the owner on channel n: whether it was queued, and the part. -/
def Device.sendOwner (d : Device) (n kind : Nat) (pay : Bytes) : Bool × Device :=
  let m := d.mail n
  if 8 ≤ m.toOwner.length then (false, d.mailRefused n)
  else (true, d.setMail n (fun m => { m with toOwner := m.toOwner ++ [message kind m.seqOut pay], seqOut := (m.seqOut + 1) % 65536 }))

/-- A write to MB_SEND of channel n (R495). Doorbell assigns SEQ whatever the owner wrote there (DESIGN CHOICE, log 129). -/
def Device.writeMbSend (d : Device) (n : Nat) (b : Bytes) : Nat × Device :=
  let len := fieldNat b 0 1
  if b.length < 4 || 60 < len || b.length ≠ 4 + len then (St.length, d)
  else if 8 ≤ (d.mail n).toFirmware.length then (St.full, d.mailRefused n)
  else (St.ok, d.setMail n (fun m => { m with
    toFirmware := m.toFirmware ++ [message (fieldNat b 1 1) m.seqIn (b.drop 4)], seqIn := (m.seqIn + 1) % 65536 }))

/-- A read of MB_RECV of channel n (R496): the oldest message toward the owner, and the part without it. -/
def Device.readMbRecv (d : Device) (n : Nat) : Bytes × Device :=
  match (d.mail n).toOwner with
  | [] => ([], d)
  | b :: t => (b, d.setMail n (fun m => { m with toOwner := t }))

/-- MB8_SERVICE (R498): firmware sends the reply it holds, or reads the oldest request and replies to it. -/
def Device.mb8Service (d : Device) : Device :=
  if !d.coreRuns 3 || d.asleep then d else
  match d.study.held with
  | some r =>
    let (ok, d1) := d.sendOwner 8 (fieldNat r 0 1) (r.drop 1)
    if ok then d1.setStudy (fun s => { s with held := none }) else d
  | none =>
    match (d.mail 8).toFirmware with
    | [] => d
    | b :: t =>
      let d1 := d.setMail 8 (fun m => { m with toFirmware := t })
      let (kind, pay) := if fieldNat b 1 1 = 1 then (0x81, b.drop 4) else (0xFF, field b 2 2)
      let (ok, d2) := d1.sendOwner 8 kind pay
      if ok then d2 else d2.setStudy (fun s => { s with held := some (toBE 1 kind ++ pay) })

/-- R498: a NOTICE of an Attic event goes to the owner, or is dropped. -/
def Device.notice (d : Device) (code seq : Nat) : Device :=
  if !d.coreRuns 3 || d.asleep then d else
  let (ok, d1) := d.sendOwner 8 0x90 (toBE 2 code ++ toBE 4 seq)
  if ok then d1 else d1.bump K.dbNoticeDrop

/-! ## Records (R502 to R508) -/

/-- The SEQ of a record. -/
def recSeq (b : Bytes) : Nat := fieldNat b 0 4

/-- R513: the SEQ of the oldest retained record; the next number if none is held. -/
def Device.oldestSeq (d : Device) : Nat :=
  let a := d.attic
  let fl := if d.nat K.atticFlashState = 2 then [] else a.flash.map (fun x => recSeq x.2)
  ((fl ++ a.pending.map recSeq ++ a.retention.map recSeq).min?).getD a.next

/-- The objects that show what the Attic holds follow. -/
def Device.atticFollow (d : Device) : Device :=
  let a := d.attic
  d.setNums [(K.atticHead, (a.next - 1 : Nat)), (K.atticTail, d.oldestSeq), (K.atticPending, a.pending.length),
    (K.cellarRetUsed, (a.retention.filter (fun r => a.flashed ≤ recSeq r)).length)]

/-- R507: reports that a full pending queue kept from being formed are accounted for as soon as it has room. -/
def Device.noteFull (d : Device) : Device :=
  if d.attic.full = 0 || 1024 ≤ d.attic.pending.length then d
  else (d.report 0x0E02 [1, d.attic.full]).setAttic (fun a => { a with full := 0 })

/-- ATTIC_RETAINED (R515). -/
def Device.retained (d : Device) : Bytes := padTo 4096 d.attic.retention.flatten

/-- ATTIC_WINDOW (R514). -/
def Device.window (d : Device) : Bytes :=
  let a := d.attic
  let c := d.nat K.atticCursor
  let fl := if d.nat K.atticFlashState = 2 then [] else a.flash.map (·.2)
  let all := fl ++ a.pending ++ a.retention
  ((List.range 8).map (fun i => ((all.find? (fun r => recSeq r = c + i)).getD []))).flatten

/-- Table 19-1: the record of a report, with a number. -/
def Device.makeRecord (d : Device) (r : Report) (seq : Nat) : Bytes :=
  let par := fun (i : Nat) => toBE 4 (ofSigned 4 (r.p.getD i 0))
  let flags := (if r.mtRun then 0 else 5) + (if d.asleep then 2 else 0)
  let b := toBE 4 seq ++ toBE 2 r.code ++ ofNats [flags, r.source] ++ time96Bytes r.time.toNat ++ toBE 4 (d.nat K.cellarOpMinutes)
    ++ toBE 4 (d.nat K.cellarPowerCycles) ++ par 0 ++ par 1 ++ par 2 ++ par 3 ++ ofNats [r.tstate + 8 * d.nat K.fbState, 0, 0, 0]
    ++ toBE 4 d.attic.prevCrc ++ List.replicate 8 0
  b ++ toBE 4 (crc32c b)

/-- R504: the report to be formed next: of those of the oldest report's CK_FAB tick the lowest code range, the first within it. -/
def Attic.nextReport (a : Attic) : Option Report :=
  match a.reports with
  | [] => none
  | r :: _ =>
    let same := a.reports.filter (fun x => x.tick = r.tick)
    match (same.map (fun x => x.code / 256)).min? with
    | some c => same.find? (fun x => x.code / 256 = c)
    | none => some r

/-- R505, R507, R508: a record is held in retention and, with the Control domain on, in the pending queue. -/
def Device.holdRecord (d : Device) (b : Bytes) : Device :=
  let failed := d.nat K.atticFlashState = 2
  d.setAttic (fun a => { a with
    next := a.next + 1, prevCrc := fieldNat b 60 4
    retention := (a.retention ++ [b]).drop (a.retention.length + 1 - 64)
    pending := if d.asleep || failed then a.pending else a.pending ++ [b] })

/-- RECORD_FORM (R425, R504 to R508): the next report becomes a record, or is counted where no record can be formed. -/
def Device.formRecord (d : Device) : Device :=
  match d.attic.nextReport with
  | none => d
  | some r =>
    let d1 := d.setAttic (fun a => { a with reports := a.reports.erase r })
    let a := d1.attic
    let failed := d1.nat K.atticFlashState = 2
    let unsaved := (a.retention.filter (fun x => a.flashed ≤ recSeq x)).length
    if 0xFFFFFFFE < a.next then d1.bump K.atticLost
    else if d1.asleep && !failed && 64 ≤ unsaved then (d1.bump K.atticLost).setAttic (fun a => { a with asleep := a.asleep + 1 })
    else if !d1.asleep && !failed && 1024 ≤ a.pending.length then (d1.bump K.atticLost).setAttic (fun a => { a with full := a.full + 1 })
    else
      let d2 := (d1.holdRecord (d1.makeRecord r a.next)).atticFollow
      let d3 : Device := if r.code = 0x0A24 then { d2 with ledger := { d2.ledger with high := a.next } } else d2
      d3.notice r.code a.next

/-- R504: the Attic forms what was reported up to the batch sequence base, which gives BATCH_SEQ its high word (R425). -/
def Device.formBase (d : Device) : Device :=
  d.attic.reports.foldl (fun d _ => if d.attic.reports.any (fun r => r.code = 0x0A24) then d.formRecord else d) d

end Sys2Proof.Machine
end

