-- ==== Sys2Proof/Machine/Ledger.lean ====
section
/-! DEFINITION. The signed time ledger (15_signed_ledger.md) with the part of Strongroom that bears on it: batches, leaves, tree,
header and signature, admission, release, failure, and the end of a job that another lane verifies. -/

namespace Sys2Proof.Machine

/-- Nanoseconds as CK_TIME ticks, rounded up. -/
def nsTicks (ns : Nat) : Nat := ceilDiv (5 * ns) 4

/-! ## Tree (R423) -/

/-- R423: H of a batch. -/
def ledgerHash (alg : Nat) (b : Bytes) : Bytes := if alg = 2 then sha384 b else sha256 b

/-- R423: one level of the tree: neighbours joined, a last odd one carried up. -/
def joinLevel (alg : Nat) : List Bytes → List Bytes
  | a :: b :: t => ledgerHash alg ([0x01] ++ a ++ b) :: joinLevel alg t
  | l => l

/-- R423: the root over a level, in at most `fuel` levels. -/
def treeRoot (alg : Nat) : Nat → List Bytes → Bytes
  | 0, l => l.headD []
  | fuel + 1, l => if l.length ≤ 1 then l.headD [] else treeRoot alg fuel (joinLevel alg l)

/-- R432: the audit path of index i over a level, nearest sibling first. -/
def auditPath (alg : Nat) : Nat → Nat → List Bytes → List Bytes
  | 0, _, _ => []
  | fuel + 1, i, l =>
    if l.length ≤ 1 then [] else
    let sib := if i % 2 = 0 then i + 1 else i - 1
    (if sib < l.length then [l.getD sib []] else []) ++ auditPath alg fuel (i / 2) (joinLevel alg l)

/-- R423: the leaf hashes of a batch. -/
def Batch.hashes (b : Batch) : List Bytes := b.leaves.map (fun x => ledgerHash b.hash ([0x00] ++ x.bytes))

/-- Table 15-2: the header of a batch. -/
def Batch.makeHeader (b : Batch) : Bytes :=
  ofNats [1, b.hash, b.sig, 0] ++ toBE 4 b.keyId ++ toBE 8 b.seq ++ toBE 4 b.leaves.length ++ time96Bytes b.open16
    ++ time96Bytes b.close16 ++ toBE 4 0x4C594844 ++ padTo 48 (treeRoot b.hash 17 b.hashes)

/-- R424: the signed message. -/
def ledgerMessage (header : Bytes) : Bytes := ascii "LUABRY-LEDGER-01" ++ header

/-! ## Booking and opening (R419, R427) -/

/-- R427: a booking: the two lowest-numbered lanes in service, if the queue has room for both jobs. -/
def Device.book (d : Device) : Option (Nat × Nat) :=
  match d.lanesUp with
  | a :: b :: _ => if d.queueDepth + 2 ≤ 64 then some (a, b) else none
  | _ => none

/-- R425: the low word of BATCH_SEQ starts over, and the event is reported whose record gives the high word; the next number stands in
for it where the Attic forms no record. -/
def Device.newSeqBase (d : Device) (cause : Nat) : Device :=
  (d.report 0x0A24 [cause, if cause = 1 then ((d.ledger.low - 1) % 2 ^ 32 : Nat) else d.num K.ledgerBatchSeq % 2 ^ 32]).setLedger (fun l => { l with high := d.attic.next, low := 0 })

/-- R419, R427: the batch that opens at a tick with the live settings, and the leaves that were admitted for it before. -/
def Device.newBatch (d : Device) (tick : Nat) : Batch :=
  let slot := d.nat K.ledgerKeySlot
  let sig := d.nat K.ledgerSig
  { id := d.ledger.nextId, open16 := d.mt16, opened := tick, ends := tick + nsTicks (d.nat K.ledgerPeriod)
    hash := d.nat K.ledgerHash, sig := sig, keySlot := slot, keyId := if slot < 64 then d.nat (K.ksKeyId slot) else 0
    maxLeaves := d.nat K.ledgerMaxLeaves, delay := if sig = 1 then 100000 else 124000, leaves := d.ledger.ahead
    rootPort := d.nat K.ledgerRootPort, rootDest := d.oct K.ledgerRootDest, lanes := d.book }

/-- R419, R427, R441: a batch opens FILLING with the live settings; a new key is recorded. -/
def Device.openBatch (d : Device) : Device :=
  let b := d.newBatch d.clock.ticks
  let d1 := if d.nat K.ledgerKeyId = b.keyId then d else d.report 0x0A22 [d.num K.ledgerKeyId, b.keyId, b.sig]
  let d2 := (d1.setNums [(K.ledgerKeyId, b.keyId), (K.ledgerReleaseDelay, b.delay)]).setOct K.ledgerPubkey
    (if b.keySlot < 64 then d.oct (K.ksPub b.keySlot) else [])
  d2.setLedger (fun l => { l with batches := l.batches ++ [b], ahead := [], nextId := l.nextId + 1 })

/-- FIRST_BATCH_OPEN (R419): at the first whole MT second the first batch opens. -/
def Device.firstBatch (d0 : Device) : Device :=
  if d0.ledger.begun || !d0.clock.mtRun || d0.num K.parAdmitStopped = 1 then d0 else
  let d := d0.runToMt (ceilDiv d0.clock.mt secU * secU)
  (d.setLedger (fun l => { l with begun := true, bucket := fullBucket 1024 d.fabTick })).openBatch

/-- LEDGER_FILL_LEAVES (R420, R438): the leaves of the batch that is FILLING whose placement has come; 0 while none is. -/
def Device.fillLeaves (d : Device) : Nat :=
  match d.filling with
  | some b => (b.leaves.filter (fun x => x.placed ≤ d.rootPs)).length
  | none => 0

/-- BATCH_END (R419, R426, R438): the batch that is FILLING reaches E; the next opens unless admission is stopped, or if a leaf was admitted
for it before the stop. -/
def Device.batchEnd (d0 : Device) : Device :=
  match d0.filling with
  | none => d0
  | some b =>
    let d := d0.runTo b.ends
    let d1 := if b.leaves = [] then d.setLedger (fun l => { l with batches := l.batches.filter (fun x => x.id ≠ b.id) })
      else (d.setBatch b.id (fun b => { b with state := 1, close16 := d.mt16 })).setNum K.ledgerSealState 1
    if d1.num K.parAdmitStopped = 1 && d1.ledger.ahead = [] then d1 else d1.openBatch

/-! ## Admission (R429, R430) -/

/-- R429: the bytes of a leaf slot under a hash. -/
def leafSlot (hash : Nat) : Nat := if hash = 2 then 160 else 128

/-- LEDGER_SLOTS_FREE (R429): free leaf slots of the size of the hash in force. -/
def Device.slotsFree (d : Device) : Nat :=
  let hash := match d.filling with
    | some b => b.hash
    | none => d.nat K.ledgerHash
  let used := d.ledger.batches.foldl (fun n b => n + b.leaves.length * leafSlot b.hash) (d.ledger.ahead.length * leafSlot (d.nat K.ledgerHash))
  min (8388608 / leafSlot hash) ((8388608 - used) / leafSlot hash)

/-- R429: the cause by which check 5 fails, 0 if it passes. -/
def Device.ledgerCheck (d : Device) (b : Batch) (bucket : Bucket) : Nat :=
  if d.lanesUp.length < 2 || !d.ledgerKeyOk b.keySlot b.sig || b.lanes.isNone then 1
  else if b.maxLeaves ≤ b.leaves.length then 2
  else if d.slotsFree = 0 then 3
  else if !bucket.has then 4
  else 0

/-- How many times a number halves, rounded up, before 1: the depth of a tree. -/
def depthOf (n : Nat) : Nat := if n ≤ 1 then 0 else (n - 1).log2 + 1

/-- R430: the length on the wire of the largest response to a request that a batch can produce. -/
def Batch.maxLen (b : Batch) (req : Bytes) : Nat :=
  let k := parseFrame req
  max 64 (udpPayAt k.tag k.daddr + 232 + depthOf b.maxLeaves * (if b.hash = 2 then 48 else 32) + 4)

/-- R429: a refusal by check 5 is counted by cause. -/
def Device.ledgerRefuse (d : Device) (q : RxFrame) (g cause : Nat) : Device :=
  let d1 := d.bump (K.ledgerRefuseBy (cause - 1))
  (d1.reportOnce (0x0A21 * 65536 + cause) 0x0A21 [cause, d1.num (K.ledgerRefuseBy (cause - 1))]).refuse q 5 g 5

/-- R420: a leaf among those of a batch: by placement tick, then by build lane. -/
def insertLeaf (x : Leaf) : List Leaf → List Leaf
  | [] => [x]
  | y :: t =>
    if ceilDiv x.placed 800 < ceilDiv y.placed 800 || (ceilDiv x.placed 800 = ceilDiv y.placed 800 && x.lane < y.lane) then x :: y :: t
    else y :: insertLeaf x t

/-- R421, R422: the leaf that a request becomes on build lane `lane` at placement instant `c`, its reservation starting at s. -/
def Device.leafOf (d : Device) (q : RxFrame) (g id lane c s : Nat) : Leaf :=
  let u := udpPayload q.body
  let tx := time96Bytes (d.scaleAt16 (fieldNat u 2 1) (d.promised q.port s))
  { id := id, placed := c, lane := lane, leap := q.leap, utc := q.utc
    bytes := putBytes (putBytes (d.ltqAnswer q u g false) 1 [0xC2]) 44 tx, req := q.body, port := q.port, ring := g, end16 := q.end16
    bound := d.nat (K.ringBound g), steps := q.steps, stamp := q.stamp, free := q.free }

/-- R427, R430: the batch that is FILLING at the placement instant c (root ps): the one that fills now, booked again if it holds no booking,
or the one that opens at its end. -/
def Device.batchAt (d : Device) (c : Nat) : Option (Batch × Bool) :=
  d.filling.map (fun b =>
    if b.ends * 800 ≤ c then (d.newBatch b.ends, true)
    else (if b.lanes.isNone then { b with lanes := d.book } else b, false))

/-- R420 to R422, R427, R429, R430: checks 5 to 7 of a ledger request and its admission: it is in flight until its leaf is placed at c. -/
def Device.admitLedger (d00 : Device) (q : RxFrame) (a : Asked) : Device :=
  let g := a.ring
  let (lane, idle) := d00.firstLane
  let c := max d00.rootPs idle + 128000
  let bucket := d00.ledger.bucket.now 10000000000 1024 d00.fabTick
  let d0 := d00.setLedger (fun l => { l with bucket := bucket })
  match d0.batchAt c with
  | none => d0.ledgerRefuse q g 1
  | some (b, next) =>
    let d := if next then d0 else d0.setBatch b.id (fun _ => b)
    let cause := d.ledgerCheck b bucket
    let p := q.port
    if cause ≠ 0 then d.ledgerRefuse q g cause
    else if !d.portUp p || d.txBound p = 0xFFFFFFFF then d.refuse q 5 g 6
    else
      let len := b.maxLen q.body
      match d.findSlot p len (max (b.ends * 800 + b.delay * 1000) (c + 64000)) with
      | none => d.refuse q 5 g 7
      | some s =>
        if !d.inBound q g s then d.refuse q 5 g 7 else
        let id := d.parl.nextId
        let fl : Flight := { id := id, ring := g, port := p, end16 := q.end16, bound := d.nat (K.ringBound g), steps := q.steps
                             reserved := (d.entryFor g).getD false, till := some c }
        let r : Resv := { port := p, start := s, len := d.spanY p len, frame := { body := [], src := 0x100, tag := .leaf b.id id } }
        let leaf := d.leafOf q g id lane c s
        let d1 := ((d.takeTokens a).setLedger (fun l => { l with bucket := bucket.take })).setParl
          (fun x => { x with nextId := id + 1, lanes := x.lanes.set lane c, flights := x.flights ++ [fl], resv := x.resv ++ [r] })
        let d2 := if next then d1.setLedger (fun l => { l with ahead := insertLeaf leaf l.ahead })
          else d1.setBatch b.id (fun b => { b with leaves := insertLeaf leaf b.leaves })
        d2.countAdmit g

/-! ## Failure and lost lanes (R426, R433 to R435, R461, R462) -/

/-- R426: a batch whose responses have all gone is DONE: its slots return. -/
def Device.batchDone (d : Device) (id : Nat) : Device :=
  match d.batch id with
  | none => d
  | some b =>
    if b.state < 4 || !b.leaves.all (·.gone) then d else
    let d1 := d.setLedger (fun l => { l with batches := l.batches.filter (fun x => x.id ≠ id) })
    if b.state = 5 then d1 else (d1.bump64 K.ledgerBatches).bumpBy 8 K.ledgerLeaves b.leaves.length

/-- A leaf's response has left or was discarded. -/
def Device.leafGone (d : Device) (id idx : Nat) : Device :=
  (d.setBatch id (fun b => { b with leaves := b.leaves.map (fun x => if x.id = idx then { x with gone := true } else x) })).batchDone id

/-- A booked job leaves its lane. -/
def Device.unbook (d : Device) (l : Nat) : Device := (d.setLane l (fun x => { x with booked := false })).resumeTop l

/-- R433: a batch fails for a cause. -/
def Device.failBatch (d : Device) (b : Batch) (cause : Nat) : Device :=
  let l := b.lanes.getD (0xFF, 0xFF)
  let d1 := (d.setBatch b.id (fun b => { b with state := 5, started := false })).setNum K.ledgerSealState 0
  let d2 := if b.started then (if b.state = 2 then d1.unbook l.1 else d1.unbook l.2) else d1
  ((d2.bump K.ledgerFailed).report 0x0A20 [b.seq % 2 ^ 32, cause, l.1, b.leaves.length]).batchDone b.id

/-- R433, R435: lane l left service: a batch whose booked job runs on it fails; a batch whose job has not started books another
lane that differs from its other one; where it cannot, one in SIGNING fails, and one that is still SEALING fails as its root completes
(Table 15-3 has it fail from SIGNING or VERIFYING only). -/
def Device.ledgerLaneLost (d : Device) (l : Nat) : Device :=
  d.ledger.batches.foldl (fun d b =>
    match b.lanes with
    | none => d
    | some (x, y) =>
      if 4 ≤ b.state || (x ≠ l && y ≠ l) || (x = l && b.state = 3) then d
      else if b.started && ((x = l && b.state = 2) || (y = l && b.state = 3)) then d.failBatch b 2
      else
        let other := if x = l then y else x
        match d.lanesUp.find? (fun z => z ≠ other) with
        | some z => if d.inService other || (x = l && b.state = 3) then
            d.setBatch b.id (fun b => { b with lanes := some (if x = l then (z, y) else (x, z)) })
          else if b.state ≤ 1 then d.setBatch b.id (fun b => { b with lanes := none }) else d.failBatch b 6
        | none => if b.state ≤ 1 then d.setBatch b.id (fun b => { b with lanes := none }) else d.failBatch b 6) d

/-- R459, R461, R462: a lane is quarantined for a cause of event 0x0B01; its jobs, a signature that it holds for another lane's verification
among them, and those that it was to verify end LANE_LOST. -/
def Device.quarantine (d0 : Device) (l cause : Nat) : Device :=
  if !d0.inService l && d0.laneState l ≠ 1 then d0 else
  let d := d0.bookedStart 0
  let mine := d.strong.jobs.filter (fun j => 1 ≤ j.state && j.state ≤ 5 && (if j.state = 1 then j.only = some l else j.lane = some l))
  let d1 := (d.laneTo l 4 cause).setLane l (fun x => { x with stack := [] })
  let d2 := mine.foldl (fun d j => match j.who with
    | .check id => (d.setStrong (fun s => { s with jobs := s.jobs.filter (fun x => x.id ≠ j.id) })).endJob id 5
    | _ => (d.dropCheck j.id).endJob j.id 5) d1
  (d2.setLane l (fun x => { x with stack := [], booked := false })).ledgerLaneLost l

/-- R461: a verification of a device-made signature came out INVALID on lane `v`: a third lane decides which lane is to blame. -/
def Device.blame (d : Device) (signer v prio : Nat) (third : Bool) : Device :=
  let t := d.lanesUp.find? (fun z => z ≠ signer && z ≠ v)
  let d1 := (d.bump K.srSignFails).report 0x0B02 [signer, v, t.getD 0xFF, prio]
  match t with
  | some _ => if third then d1.quarantine v 4 else d1.quarantine signer 3
  | none => (d1.quarantine signer 3).quarantine v 4

/-! ## Batch life (R419, R426 to R428) -/

/-- ROOT_COMPLETE (R425, R426): `wait` ticks on, at most 8 us after E, the tree's root is done: BATCH_SEQ is assigned, its high word's
record being formed by then, and the batch goes to SIGNING. -/
def Device.rootComplete (d0 : Device) (wait : Nat) : Device :=
  match d0.sealing with
  | none => d0
  | some b =>
    if b.state ≠ 1 then d0 else
    let d1 := d0.runTo (min (d0.clock.ticks + wait) (b.ends + 10000))
    let d := (if d1.ledger.low < 2 ^ 32 then d1 else d1.newSeqBase 1).formBase
    let b1 := { b with seq := d.ledger.high * 2 ^ 32 + d.ledger.low, state := 2 }
    let b2 := { b1 with header := b1.makeHeader }
    let d2 := (d.setLedger (fun l => { l with low := l.low + 1 })).setBatch b.id (fun _ => b2)
    if b.lanes.isNone then d2.failBatch b2 6 else d2.setNum K.ledgerSealState 2

/-- R424: the signature over a batch's header by its key. -/
def Device.ledgerSign (d : Device) (b : Batch) : Bytes × Device :=
  let key := d.keyhole.keys.getD b.keySlot []
  let m := ledgerMessage b.header
  if b.sig = 1 then (edSign key m, d)
  else
    let (k, d1) := d.drawNonce p256
    let (r, s) := p256.sign (beNat key) (beNat (sha256 m)) k
    (toBE 32 r ++ toBE 32 s, d1)

/-- R428: does a signature verify under the public key of a batch's slot. -/
def Device.ledgerVerify (d : Device) (b : Batch) : Bool :=
  let m := ledgerMessage b.header
  let pub := d.oct (K.ksPub b.keySlot)
  if b.sig = 1 then edVerify pub m b.signature
  else match p256.decode pub with
  | some (x, y) => p256.verify x y (beNat (sha256 m)) (fieldNat b.signature 0 32) (fieldNat b.signature 32 32)
  | none => false

/-- R427: the tick by which the booked job of a batch must have completed. -/
def Batch.jobDeadline (b : Batch) : Nat :=
  if b.state = 2 then b.ends + 12500 + (if b.sig = 1 then 37500 else 50000) else b.ends + nsTicks (b.delay - 2000)

/-- SIGN_COMPLETE (R426, R433): `wait` ticks after its start the booked sign job returns the signature, and the verify job starts on the
second lane. The key or the entropy may be gone. -/
def Device.signComplete (d00 : Device) (wait : Nat) : Device :=
  match d00.sealing with
  | none => d00
  | some b =>
    match b.state, b.lanes with
    | 2, some (x, y) =>
      let d0 := d00.runTo (b.ends + 10000)
      if !d0.ledgerKeyOk b.keySlot b.sig then d0.failBatch b 5
      else if d0.nat K.khEntropyState ≠ 1 then d0.failBatch b 1
      else
        let d1 := d0.bookedStart 0
        let d2 := d1.runTo (min (d1.clock.ticks + wait) b.jobDeadline)
        if b.jobDeadline < d2.clock.ticks then d2.failBatch { b with started := true } 3
        else if !d2.ledgerKeyOk b.keySlot b.sig then d2.failBatch { b with started := true } 5 else
        let (sig, d3) := d2.ledgerSign b
        let d4 := ((d3.unbook x).setBatch b.id (fun b => { b with state := 3, signature := sig, started := true })).startBooked y
        (d4.bump64 K.srJobsDone).setNum K.ledgerSealState 3
    | _, _ => d00

/-- R439: the root notice of a batch. -/
def Device.rootNotice (d : Device) (b : Batch) : Device :=
  let p := b.rootPort
  if 44 ≤ p then d else
  let v4 := fieldNat b.rootDest 6 1 = 4
  let ip := d.oct (if v4 then K.portIpv4 p else K.portIpv6 p)
  let dst := if v4 then field b.rootDest 8 4 else field b.rootDest 8 16
  let pay := ofNats [1, 0xC3, 0, 0] ++ b.header ++ b.signature
  let f : Frame := { body := udpFrame (field b.rootDest 0 6) (d.oct (K.portMac p)) none ip dst 4844 4844 pay, src := 0x100, tag := .root }
  let q := d.nat K.parRefuseQueue
  d.ipSend p q f

/-- VERIFY_COMPLETE (R426, R428, R433, R461): `wait` ticks on the second lane's verification ends: the batch is released, or fails.
`sound` is false where a lane erred, and `third` is what a third lane finds. -/
def Device.verifyComplete (d0 : Device) (wait : Nat) (sound third : Bool) : Device :=
  match d0.sealing with
  | none => d0
  | some b =>
    match b.state, b.lanes with
    | 3, some (x, y) =>
      let dv := d0.runTo (min (d0.clock.ticks + wait) b.jobDeadline)
      if b.jobDeadline < dv.clock.ticks then dv.failBatch b 3 else
      let d := dv.unbook y
      let b1 := { b with started := false }
      if !(sound && d.ledgerVerify b) then ((d.setBatch b.id (fun _ => b1)).failBatch b1 4).blame x y 0 third else
      let ns := (d.clock.ticks - b.ends) * 4 / 5
      let d1 := (d.setBatch b.id (fun b => { b with state := 4, started := false })).setNums
        [(K.ledgerSealState, 0), (K.ledgerBatchSeq, b.seq), (K.ledgerSealMax, (max (d.nat K.ledgerSealMax) ns : Nat))]
      let d2 := ((d1.setOct K.ledgerLastHdr b.header).setOct K.ledgerLastSig b.signature).bump64 K.srJobsDone
      (d2.rootNotice b).batchDone b.id
    | _, _ => d0

/-- BOOKED_JOB_TIMEOUT (R433): a booked job has not completed by the end of its booked time. -/
def Device.bookedTimeout (d : Device) : Device :=
  match d.sealing with
  | none => d
  | some b => if b.state = 1 then d else (d.runTo b.jobDeadline).failBatch b 3

/-! ## Responses (R431, R432, R434, R436) -/

/-- R432, R434: the frame that goes out at a leaf's reservation; none while its batch is neither released nor failed. -/
def Device.leafFrame (d : Device) (id idx : Nat) : Option Frame :=
  match d.batch id with
  | none => none
  | some b =>
    match b.leaves.find? (fun x => x.id = idx) with
    | none => none
    | some x =>
      let mac := d.oct (K.portMac x.port)
      let out := fun (pay : Bytes) => ({ body := udpReply x.req mac pay, src := 0x100, tag := .leaf id idx } : Frame)
      if b.state = 4 then
        let n := b.leaves.findIdx (fun x => x.id = idx)
        let path := auditPath b.hash 17 n b.hashes
        some (out (x.bytes ++ b.header ++ b.signature ++ toBE 4 n ++ ofNats [path.length, 0, 0, 0] ++ path.flatten))
      else if b.state = 5 then
        let q : RxFrame := { port := x.port, body := x.req, stamp := x.stamp, rx16 := 0, end16 := 0, endPs := 0, capPs := 0, steps := 0, free := x.free
                             leap := x.leap, utc := x.utc }
        some (out (putBytes (d.ltqAnswer q (udpPayload x.req) x.ring true) 4 (toBE 2 2)))
      else none

/-- R436: port p left UP: the responses reserved on it are discarded. -/
def Device.ledgerLinkLost (d : Device) (p : Nat) : Device :=
  let lost := fun (x : Leaf) => x.port = p && !x.gone
  let d1 := d.ledger.batches.foldl (fun d b => b.leaves.foldl (fun d x =>
    if lost x then (d.bump (K.ringLinkDiscard x.ring)).leafGone b.id x.id else d) d) d
  let d2 := d1.ledger.ahead.foldl (fun d x => if lost x then d.bump (K.ringLinkDiscard x.ring) else d) d1
  d2.setLedger (fun l => { l with ahead := l.ahead.map (fun x => if lost x then { x with gone := true } else x) })

/-- R384, R434: the transmit stamp of a ledger response or notice is back. -/
def Device.leafDone (d : Device) (id idx : Nat) (word : Bytes) (t16 : Int) (steps : Nat) : Device :=
  match (d.batch id).bind (fun b => b.leaves.find? (fun x => x.id = idx)) with
  | none => d
  | some x =>
    let f : Flight := { id := 0, ring := x.ring, port := x.port, end16 := x.end16, bound := x.bound, steps := x.steps, reserved := false }
    (d.flightDone f word t16 steps).leafGone id idx

/-- R434: the frame of a leaf is handed over; a notice is counted. -/
def Device.noticeSent (d : Device) (id : Nat) : Device :=
  if (d.batch id).any (fun b => b.state = 5) then d.bump64 K.ledgerFailNotices else d

/-! ## The end of a job (R455, R460, R461) -/

/-- R460: a signature waits in its lane and is to be verified by the lowest-numbered other lane in service. -/
def Device.sendToVerify (d : Device) (j : Job) (l : Nat) : Device :=
  match d.lanesUp.find? (fun z => z ≠ l) with
  | none => d.endJob j.id 5
  | some z =>
    let d1 := (d.jobTo j.id 5).setLane l (fun x => { x with stack := x.stack.filter (· ≠ j.id) })
    (d1.queueJob { id := 0, prio := j.prio, op := j.op + 1, msgLen := j.msgLen, who := .check j.id, only := some z }).resumeTop l

/-- JOB_COMPLETE (R460, R461, R464): the job that runs on lane l completes `wait` ticks on, no later than its worst case, unless a booked
job takes the lane first (R427); a signature is then sent for verification. `sound` is false where the verification of a device-made
signature comes out INVALID. -/
def Device.jobComplete (d00 : Device) (l wait : Nat) (sound third : Bool) : Device :=
  match d00.topJob l with
  | none => d00
  | some j =>
    if j.state ≠ 3 || (d00.lane l).booked then d00 else
    let t := if opModular j.op then j.due else min (d00.clock.ticks + wait) j.due
    let d0 := if d00.bookedOn l then d00.bookedStart t else d00
    if (d0.lane l).booked then d0 else
    let d := d0.runTo t
    match j.who with
    | .check id =>
      let d1 := (d.setStrong (fun s => { s with jobs := s.jobs.filter (fun x => x.id ≠ j.id) })).setLane l
        (fun x => { x with stack := x.stack.filter (· ≠ j.id) })
      let d2 := d1.resumeTop l
      match d2.job id with
      | none => d2
      | some k =>
        if sound then (k.buffer.foldl (fun d w => d.putSlot w.1 w.2) d2).endJob id 0
        else (d2.endJob id 6).blame (k.lane.getD 0xFF) l k.prio third
    | .owner =>
      let (r, w, d1) := d.compute j
      if opSigns j.op then (d1.setJob j.id (fun k => { k with buffer := w })).sendToVerify j l
      else (w.foldl (fun d x => d.putSlot x.1 x.2) d1).endJob j.id r
    | .keygen _ => d.endJob j.id 0
    | .attest => d.sendToVerify j l

/-- JOB_YIELD (R443, R455): within 1,700 ns the running job of lane l comes to a yield point with a higher job waiting, unless a booked
job takes the lane first (R427); `mem` is an uncorrectable error of the lane's context bank or key register. -/
def Device.jobYield (d0 : Device) (l wait : Nat) (mem : Bool) : Device :=
  if mem then (if d0.inService l then d0.quarantine l 5 else d0) else
  match d0.topJob l with
  | none => d0
  | some j =>
    if j.state ≠ 3 || !d0.yields j || (d0.lane l).booked || (d0.nextJob l j.prio).isNone then d0 else
    let d := if d0.bookedOn l then d0.bookedStart (d0.clock.ticks + min wait 2125) else d0
    if (d.lane l).booked then d else
    match d.nextJob l j.prio with
    | none => d
    | some k => ((d.elapse (min wait 2125)).yieldTop l).startJob l k 375

/-- SELF_TEST_COMPLETE (R443): lane l's known-answer tests finish `wait` ticks on, within 300 us of their start. -/
def Device.selfTestEnd (d0 : Device) (l wait : Nat) (pass : Bool) : Device :=
  if 4 ≤ l || d0.laneState l ≠ 1 then d0 else
  let d := d0.runTo (min (d0.clock.ticks + wait) ((d0.lane l).testing + 375000))
  if pass then d.laneTo l 2 1 else d.laneTo l 4 2

/-! ## Pairing rules (R441) -/

/-- R441: the rules of group 0x0E over the viewed values. -/
def Device.ledgerPairs (d : Device) (v : Nat → Val) : List Nat :=
  let nat := fun k => (v k).int.toNat
  let sig := nat K.ledgerSig
  let slot := nat K.ledgerKeySlot
  let port := nat K.ledgerRootPort
  let dst := (v K.ledgerRootDest).bytes
  let fam := fieldNat dst 6 1
  breaks (nat K.ledgerPeriod < (if sig = 1 then 100000 else 124000)) [K.ledgerPeriod, K.ledgerSig]
  ++ breaks (slot < 64 && !(d.nat (K.ksUse slot) = 1 && d.nat (K.ksType slot) = (if sig = 1 then 3 else 1))) [K.ledgerSig, K.ledgerKeySlot]
  ++ breaks (port < 44 && (!(fam = 4 || fam = 6) || fieldNat dst 7 1 ≠ 0
      || (v (if fam = 4 then K.portIpv4 port else K.portIpv6 port)).bytes.all (· = 0))) [K.ledgerRootPort, K.ledgerRootDest]

/-! ## Meanings -/

/-- FIRST_BATCH_OPEN. -/
def execFirstBatchOpen (s : State) : Host.Outcome State Fault Refusal := .next (s.on (·.firstBatch))
/-- BATCH_END. -/
def execBatchEnd (s : State) : Host.Outcome State Fault Refusal := .next (s.on (·.batchEnd))
/-- ROOT_COMPLETE. -/
def execRootComplete (wait : Nat) (s : State) : Host.Outcome State Fault Refusal := .next (s.on (·.rootComplete wait))
/-- SIGN_COMPLETE. -/
def execSignComplete (wait : Nat) (s : State) : Host.Outcome State Fault Refusal := .next (s.on (·.signComplete wait))
/-- VERIFY_COMPLETE. -/
def execVerifyComplete (wait : Nat) (sound third : Bool) (s : State) : Host.Outcome State Fault Refusal :=
  .next (s.on (·.verifyComplete wait sound third))
/-- BOOKED_JOB_TIMEOUT. -/
def execBookedJobTimeout (s : State) : Host.Outcome State Fault Refusal := .next (s.on (·.bookedTimeout))
/-- JOB_YIELD. -/
def execJobYield (lane wait : Nat) (mem : Bool) (s : State) : Host.Outcome State Fault Refusal := .next (s.on (·.jobYield lane wait mem))
/-- JOB_COMPLETE. -/
def execJobComplete (lane wait : Nat) (sound third : Bool) (s : State) : Host.Outcome State Fault Refusal :=
  .next (s.on (·.jobComplete lane wait sound third))
/-- SELF_TEST_COMPLETE. -/
def execSelfTestComplete (lane wait : Nat) (pass : Bool) (s : State) : Host.Outcome State Fault Refusal :=
  .next (s.on (·.selfTestEnd lane wait pass))

end Sys2Proof.Machine
end

