-- ==== Sys2Proof/Machine/Keyhole.lean ====
section
/-! DEFINITION. Keyhole (17_trust_and_keys.md): entropy, lifecycle and provisioning, key slots and their store, rotation of the NTS
master keys, fuses, tamper inputs and attestation. The boot ROM's part stands in Startup. -/

namespace Sys2Proof.Machine

/-- The part with Keyhole's own state changed. -/
def Device.setKeyhole (d : Device) (f : Keyhole → Keyhole) : Device := { d with keyhole := f d.keyhole }

/-- R469: is the DRBG giving output. -/
def Device.entropyOk (d : Device) : Bool := d.nat K.khEntropyState = 1

/-! ## Entropy (R468, R469) -/

/-- ENTROPY_HEALTH_FAILURE (R469): test `kind` of event 0x0C07 fails: the DRBG stops at once. -/
def Device.entropyFailed (d : Device) (kind : Nat) : Device :=
  let d1 := ((d.bump K.khEntropyFails).setNum K.khEntropyState 2).setKeyhole (fun k => { k with failedAt := some d.clock.ticks })
  d1.reportOnce (0x0C07 * 65536) 0x0C07 [kind, d1.num K.khEntropyFails]

/-- R516: a fresh ATTIC_CLEAR_NONCE, while the DRBG gives output. -/
def Device.freshNonce (d : Device) : Device :=
  if !d.entropyOk then d else
  let (n, d1) := d.drawBytes 16
  d1.setOct K.atticClearNonce n

/-- ENTROPY_RETEST (R469, R516): 1 s after a failure the start-up tests run again; a nonce that reset could not draw is drawn now. -/
def Device.entropyRetest (d0 : Device) (pass : Bool) : Device :=
  match d0.keyhole.failedAt with
  | none => d0
  | some t =>
    let d := d0.runTo (t + sTicks)
    if !pass then d.entropyFailed 3 else
    let d1 := (d.setNum K.khEntropyState 1).setKeyhole (fun k => { k with failedAt := none })
    if (d1.oct K.atticClearNonce).all (· = 0) then d1.freshNonce else d1

/-- R468: the DRBG reseeds now. -/
def Device.reseed (d : Device) : Device :=
  (d.bump K.khReseeds).setKeyhole (fun k => { k with reseedAt := d.clock.ticks, requests := 0 })

/-- DRBG_RESEED (R468): after 2^20 requests, or 1 s after the last reseed. -/
def Device.reseedDue (d : Device) : Device :=
  if !d.entropyOk then d
  else if 2 ^ 20 ≤ d.keyhole.requests then d.reseed else (d.runTo (d.keyhole.reseedAt + sTicks)).reseed

/-! ## Slots and store (R474 to R476) -/

/-- R17, R433: key slots have changed since `d0`: a batch whose key became unusable while it was SIGNING fails by cause 5, and a provider's
loss or return is recorded. -/
def Device.keysFollow (d d0 : Device) : Device :=
  (((d.ledger.batches.filter (fun b => b.state = 2)).filter (fun b => d0.ledgerKeyOk b.keySlot b.sig && !d.ledgerKeyOk b.keySlot b.sig)).foldl
    (fun e b => e.failBatch b 5) d).noteLoss d0

/-- A slot takes a state, type, use, KEY_ID and public key. -/
def Device.setSlot (d : Device) (k st typ use id : Nat) (pub : Bytes) : Device :=
  ((d.setNums [(K.ksState k, st), (K.ksType k, typ), (K.ksUse k, use), (K.ksKeyId k, id)]).setOct (K.ksPub k) pub).keysFollow d

/-- The key in a slot. -/
def Device.key (d : Device) (k : Nat) : Bytes := d.keyhole.keys.getD k []

/-- The part with another key in a slot. -/
def Device.setKey (d : Device) (k : Nat) (b : Bytes) : Device := d.setKeyhole (fun x => { x with keys := x.keys.set k b })

/-- R476: the key store is written: the older copy takes the next generation, and then the Cellar's G. -/
def Device.writeStore (d : Device) : Device :=
  let g := d.nat K.khKeystoreGen + 1
  let slots := (List.range 64).map (fun k => (d.nat (K.ksType k), d.nat (K.ksUse k), d.nat (K.ksKeyId k), d.oct (K.ksPub k), d.key k))
  let c : KsCopy := { gen := g, valid := true, counter := d.keyhole.counter, ownerPub := d.oct K.khOwnerPub, slots := slots }
  (d.setNum K.khKeystoreGen g).setKeyhole (fun x => { x with copies := x.copies.set (g % 2) (some c), cellarGen := some g })

/-- R474: the next KEY_ID. -/
def Device.takeKeyId (d : Device) : Nat × Device := (d.keyhole.counter, d.setKeyhole (fun x => { x with counter := x.counter + 1 }))

/-- R485: do the tamper flags lock the slots. -/
def Device.tamperLocks (d : Device) : Bool :=
  let f := d.nat K.khTamper
  let c := d.nat K.khTamperCfg
  (bit f 0 && bit c 2) || (bit f 1 && bit c 3)

/-- R485: slots 0 to 61 follow the tamper lock. -/
def Device.followLock (d0 : Device) : Device :=
  ((List.range 62).foldl (fun d k =>
    if d.tamperLocks then (if d.nat (K.ksState k) = 2 then d.setNum (K.ksState k) 4 else d)
    else if d.nat (K.ksState k) = 4 then d.setNum (K.ksState k) 2 else d) d0).keysFollow d0

/-- A private key on a Weierstrass curve, drawn. -/
def Device.drawScalar (d : Device) (c : Curve) : Bytes × Device :=
  let (k, d1) := d.drawNonce c
  (toBE c.bytes k, d1)

/-- Table 17-3: a new key of a type. -/
def Device.drawKey (d : Device) (typ : Nat) : Bytes × Device :=
  if typ = 1 then d.drawScalar p256 else if typ = 2 then d.drawScalar p384 else if typ = 4 then d.drawBytes 64 else d.drawBytes 32

/-- The public key of a key of a type; AES keys have none. -/
def publicOf (typ : Nat) (key : Bytes) : Bytes :=
  if typ = 1 then p256.encode (p256.base (beNat key)) else if typ = 2 then p384.encode (p384.base (beNat key))
  else if typ = 3 then edPublic key else []

/-! ## Provisioning (R471 to R473) -/

/-- The operation that computes the public key of a type (Table 16-4). -/
def pubOp (typ : Nat) : Nat := if typ = 1 then 0x13 else if typ = 2 then 0x1B else 0x22

/-- A write to KH_PROVISION (R471, Table 17-6): the PUF is enrolled, the DIK and the first NTS master key are drawn, and their slots are
GENERATING while a PUBKEY job runs. -/
def Device.writeProvision (d : Device) : Nat × Device :=
  if d.nat K.khLifecycle ≠ 0 || d.keyhole.enrolled || !d.entropyOk || !d.queueRoom 1 then (St.state, d) else
  let d0 := (d.setKeyhole (fun x => { x with helper := true, enrolled := true })).reseed
  let (dik, d1) := d0.drawScalar p384
  let (nts, d2) := d1.reseed.drawBytes 64
  let d3 := (((d2.setKey 63 dik).setKey 60 nts).setSlot 63 1 2 5 0 []).setSlot 60 1 4 3 0 []
  (St.ok, d3.queueJob { id := 0, prio := 1, op := pubOp 2, who := .keygen 63 })

/-- R471, R474: the DIK's public key has been computed: the keys take two consecutive KEY_IDs, the DIK's first, and the store is written. -/
def Device.provisioned (d : Device) (src : Nat) : Device :=
  let (id1, d1) := d.takeKeyId
  let (id2, d2) := d1.takeKeyId
  let pub := publicOf 2 (d.key 63)
  let d3 := ((d2.setSlot 63 2 2 5 id1 pub).setSlot 60 (if d.tamperLocks then 4 else 2) 4 3 id2 []).setOct K.khDikPub pub
  (d3.causedBy src (fun x => (x.report 0x0C02 [63, 2, 5, id1]).report 0x0C02 [60, 4, 3, id2])).writeStore

/-- A write to KH_OWNER_PUB_SET (R471). -/
def Device.writeOwnerPub (d : Device) (b : Bytes) : Nat × Device :=
  if d.nat K.khLifecycle ≠ 0 then (St.state, d)
  else if (p384.decode b).isNone then (St.range, d)
  else (St.ok, (d.setOct K.khOwnerPub b).setKeyhole (fun x => { x with ownerSet := true }))

/-- A write to KH_OWNER_KEY_SET (R472); `session` tells whether the lock is in SESSION. -/
def Device.writeOwnerKey (d : Device) (b : Bytes) (session : Bool) : Nat × Device :=
  let life := d.nat K.khLifecycle
  if life = 1 && !session then (St.session, d)
  else if life = 2 || d.nat (K.ksState 63) ≠ 2 then (St.state, d)
  else match p384.decode (b.take 97) with
  | none => (St.range, d)
  | some q =>
    let z := (Point.xy (p384.mul 386 (beNat (d.key 63)) (some q))).1
    match keyUnwrap (ownerKek z (d.oct K.khDikPub)) (b.drop 97) with
    | none =>
      let d1 := d.bump K.sessionAuthFails
      (St.auth, d1.report 0x0F02 [3, d1.num K.sessionAuthFails])
    | some k =>
      let (id, d1) := d.takeKeyId
      let d2 := ((d1.setKey 62 k).setSlot 62 2 5 4 id []).setKeyhole (fun x => { x with ownerKeySet := true })
      (St.ok, (if life = 1 then d2.report 0x0C01 [4] else d2).writeStore)

/-- A write to KH_PROV_COMMIT (R471). The store is written only if it does not hold the owner's public key yet (DEDUCED, log 128). -/
def Device.writeProvCommit (d : Device) : Nat × Device :=
  let x := d.keyhole
  if d.nat K.khLifecycle ≠ 0 || !x.enrolled || !x.ownerSet || !x.ownerKeySet then (St.state, d)
  else
    let d1 := ((d.setKeyhole (fun x => { x with provisioned := true })).setNum K.khLifecycle 1).report 0x0C01 [1]
    let held := (x.copies.getD (d.nat K.khKeystoreGen % 2) none).any (fun c => c.ownerPub = d.oct K.khOwnerPub)
    (St.ok, if held then d1 else d1.writeStore)

/-- A write to KH_OWNER_XFER (R473). -/
def Device.writeOwnerXfer (d : Device) (b : Bytes) : Nat × Device :=
  let new := b.take 97
  let e := beNat (sha384 (ascii "LUABRY-OWNXFR-01" ++ sha384 (d.oct K.khDikPub) ++ new))
  let good := match p384.decode (d.oct K.khOwnerPub) with
    | some (x, y) => p384.verify x y e (fieldNat b 97 48) (fieldNat b 145 48)
    | none => false
  if !good then (St.auth, d)
  else if (p384.decode new).isNone then (St.range, d)
  else (St.ok, (((d.setOct K.khOwnerPub new).setOct K.khOwnerXfer b).report 0x0C01 [3]).writeStore)

/-! ## General keys (R478) -/

/-- A write to KH_KEYGEN (R478). -/
def Device.writeKeygen (d : Device) (b : Bytes) : Nat × Device :=
  let slot := fieldNat b 0 1
  let typ := fieldNat b 1 1
  let use := fieldNat b 2 1
  let allowed := (use = 1 && (typ = 1 || typ = 3)) || (use = 2 && 1 ≤ typ && typ ≤ 3)
  if 59 < slot || fieldNat b 3 1 ≠ 0 || !allowed then (St.range, d)
  else if d.nat (K.ksState slot) ≠ 0 || !d.entropyOk || !d.queueRoom 1 then (St.state, d)
  else
    let (key, d1) := d.reseed.drawKey typ
    let d2 := ((d1.setKey slot key).setSlot slot 1 typ use 0 []).setOct K.khKeygen b
    (St.ok, d2.queueJob { id := 0, prio := 1, op := pubOp typ, who := .keygen slot })

/-- KEYGEN_COMPLETE (R471, R478): the public key has been computed: the store is written and the slot is ACTIVE, or EMPTY if the job
failed; provisioning's slot 63 takes slot 60 with it. -/
def Device.keygenComplete (d : Device) (slot : Nat) : Device :=
  match d.strong.jobs.find? (fun j => j.who = .keygen slot && j.state = 6) with
  | none => d
  | some j =>
    let d1 := d.setStrong (fun s => { s with jobs := s.jobs.filter (fun x => x.id ≠ j.id) })
    if j.result ≠ 0 then
      let e := (d1.setKey slot []).setSlot slot 0 0 0 0 []
      if slot = 63 then (e.setKey 60 []).setSlot 60 0 0 0 0 [] else e
    else if slot = 63 then d1.provisioned j.src
    else
      let typ := d.nat (K.ksType slot)
      let use := d.nat (K.ksUse slot)
      let (id, d2) := d1.takeKeyId
      let d3 := d2.setSlot slot (if d.tamperLocks then 4 else 2) typ use id (publicOf typ (d.key slot))
      (d3.causedBy j.src (·.report 0x0C02 [slot, typ, use, id])).writeStore

/-- R459, R475: a key that is being created is destroyed: its job ends KEY_UNUSABLE. -/
def Device.dropKeygen (d : Device) (slot : Nat) : Device :=
  let d1 := (d.strong.jobs.filter (fun j => j.who = .keygen slot && j.state ≠ 6)).foldl (fun d j => d.endJob j.id 9) d
  d1.setStrong (fun s => { s with jobs := s.jobs.filter (fun x => x.who ≠ .keygen slot) })

/-- A write to KH_KEY_DESTROY (R478). -/
def Device.writeKeyDestroy (d : Device) (slot : Nat) : Nat × Device :=
  if d.nat K.ledgerKeySlot = slot || d.ledger.batches.any (fun b => b.keySlot = slot)
    || (d.num K.ntskeEnable = 1 && d.nat K.ntskeKeySlot = slot) then (St.state, d)
  else
    let d1 := d.setNum K.khKeyDestroy slot
    if d.nat (K.ksState slot) = 0 then (St.ok, d1) else
    (St.ok, ((((d1.dropKeygen slot).setKey slot []).setSlot slot 0 0 0 0 []).report 0x0C03 [slot, d.num (K.ksKeyId slot)]).writeStore)

/-! ## NTS master keys (R480) -/

/-- R480: a rotation at this tick. -/
def Device.rotateNts (d : Device) : Device :=
  let old := d.key 60
  let st := d.nat (K.ksState 60)
  let oldId := d.num (K.ksKeyId 60)
  let (key, d1) := d.reseed.drawBytes 64
  let (id, d2) := d1.takeKeyId
  let d3 := ((d2.setKey 61 old).setSlot 61 st (d.nat (K.ksType 60)) (d.nat (K.ksUse 60)) oldId.toNat []).setKey 60 key
  let d4 := (d3.setSlot 60 (if d.tamperLocks then 4 else 2) 4 3 id []).setKeyhole (fun x => { x with rotateFrom := d.clock.ticks, rotateRan := 0 })
  (d4.report 0x0C04 [id, oldId]).writeStore

/-- A write to KH_NTS_ROTATE (R480). -/
def Device.writeRotate (d : Device) : Nat × Device := if d.entropyOk then (St.ok, d.rotateNts) else (St.state, d)

/-- NTS_ROTATE_PERIOD_EXPIRY (R480): the Run and Trim time since the last rotation reaches KH_NTS_ROTATE_PERIOD. -/
def Device.rotateDue (d0 : Device) : Device :=
  if d0.nat K.khLifecycle ≠ 1 || 2 ≤ d0.nat K.fbState || !d0.entropyOk then d0
  else (d0.runTo (d0.keyhole.rotateFrom + (d0.nat K.khNtsRotatePeriod * sTicks - d0.keyhole.rotateRan))).rotateNts

/-! ## Fuses (R483) -/

/-- KH_BOOT_STATUS (Table 17-7) of the running image: only the fuse count changes while it runs. -/
def Device.fuseCount (d : Device) : Device :=
  d.setOct K.khBootStatus (putBytes (d.oct K.khBootStatus) 2 (toBE 1 d.keyhole.rollback))

/-- A write to KH_ROLLBACK_COMMIT (R483). -/
def Device.writeRollback (d : Device) : Nat × Device :=
  let old := d.keyhole.rollback
  let new := d.keyhole.secVersion
  if new ≤ old then (St.ok, d)
  else (St.ok, ((d.setKeyhole (fun x => { x with rollback := new })).fuseCount).report 0x0C06 [old, new])

/-- A write to KH_COSIGN_ENABLE (R483). -/
def Device.writeCosign (d : Device) : Nat × Device := (St.ok, d.setKeyhole (fun x => { x with cosign := true }))

/-! ## Tamper (R484, R485) -/

/-- R484: a tamper flag is set; a newly set one is recorded. Flags [2] and [3] spoil the snapshot (R550). -/
def Device.setTamper (d : Device) (i : Nat) : Device :=
  let f := d.nat K.khTamper
  if bit f i then d else
  let d1 := (d.setNum K.khTamper (setBit f i true : Nat)).report 0x0C0B [(setBit f i true : Nat), i]
  let d2 : Device := if i = 2 || i = 3 then { d1 with cellar := { d1.cellar with tamperSince := true } } else d1
  d2.followLock

/-- TAMPER_INPUT (R484): TAMPi reads high on 4 consecutive samples at 32.768 kHz. -/
def Device.tamperInput (d0 : Device) (i : Nat) : Device :=
  let d := d0.elapse (ceilDiv (4 * xtalU) xtalTick)
  if i < 2 && bit (d.nat K.khTamperCfg) i then d.setTamper i else d

/-- A write to KH_TAMPER_CLEAR (R485). -/
def Device.writeTamperClear (d : Device) : Nat × Device :=
  (St.ok, ((d.report 0x0C0C [d.num K.khTamper]).setNum K.khTamper 0).followLock)

/-! ## Attestation (R486) -/

/-- Table 17-5: a public key as a report holds it. -/
def attestPub (typ : Nat) (pub : Bytes) : Bytes :=
  padTo 65 (if typ = 2 then field pub 1 48 ++ ofNats [fieldNat pub 96 1 % 2] else pub)

/-- Table 17-5: bytes 0 to 303 of a report for a nonce and a slot. -/
def Device.attestBody (d : Device) (nonce : Bytes) (slot : Nat) : Bytes :=
  let live := slot < 64 && d.nat (K.ksState slot) ≠ 0
  let get := fun (k : Nat) => if live then d.nat k else 0
  let tls := d.nat K.ntskeKeySlot
  let tlsPub := if tls < 64 then d.oct (K.ksPub tls) else []
  ofNats [1, d.nat K.khLifecycle, 0, 0] ++ toBE 4 0x4C594844 ++ toBE 4 (d.nat K.revision) ++ nonce ++ time96Bytes d.mt16
    ++ ofNats [d.nat K.mtState, fieldNat (d.oct K.khBootStatus) 3 1, d.keyhole.secVersion, d.keyhole.rollback]
    ++ padTo 48 (d.oct K.khFwHash) ++ sha384 (d.oct K.khOwnerPub) ++ toBE 4 (get (K.ksKeyId slot))
    ++ ofNats [get (K.ksType slot), get (K.ksUse slot), slot,
        (if slot < 64 && d.nat K.ledgerKeySlot = slot then 1 else 0) + (if slot < 64 && tls = slot then 2 else 0)]
    ++ attestPub (get (K.ksType slot)) (if live then d.oct (K.ksPub slot) else []) ++ ofNats [0, 0, 0]
    ++ (if tlsPub = [] then List.replicate 48 0 else sha384 tlsPub) ++ toBE 4 (d.nat K.atticHead) ++ toBE 4 (d.nat K.cellarOpMinutes)
    ++ toBE 4 (d.nat K.cellarPowerCycles) ++ toBE 4 (d.nat K.khTamper) ++ toBE 4 (d.nat K.khKeystoreGen) ++ toBE 4 0

/-- A write to KH_ATTEST_REQ (R486). -/
def Device.writeAttestReq (d : Device) (b : Bytes) : Nat × Device :=
  let s0 := fieldNat b 32 1
  let slot := if s0 = 0xFF then d.nat K.ledgerKeySlot else s0
  let id := if slot < 64 then d.num (K.ksKeyId slot) else 0
  let failed := (d.setNum K.khAttestState 3).report 0x0C09 [slot, id, 1]
  if 64 ≤ s0 && s0 ≠ 0xFF then (St.range, d)
  else if d.nat K.khAttestState = 1 then (St.state, d)
  else if !d.entropyOk then (St.state, failed)
  else
    let d1 := d.setOct K.khAttestReq b
    if d.nat K.khLifecycle = 2 || d.nat (K.ksState 63) ≠ 2 || !d.queueRoom 1 then (St.ok, failed.setOct K.khAttestReq b)
    else (St.ok, ((d1.setNum K.khAttestState 1).setKeyhole (fun x => { x with attest := some (d.attestBody (b.take 32) slot, slot, id.toNat) })).queueJob
      { id := 0, prio := 1, op := 0x18, who := .attest })

/-- ATTEST_COMPLETE (R486): the report is signed and verified, or the job ended otherwise. -/
def Device.attestComplete (d : Device) : Device :=
  match d.strong.jobs.find? (fun j => j.who = .attest && j.state = 6), d.keyhole.attest with
  | some j, some (body, slot, id) =>
    let d1 := (d.setStrong (fun s => { s with jobs := s.jobs.filter (fun x => x.id ≠ j.id) })).setKeyhole (fun x => { x with attest := none })
    if j.result ≠ 0 then (d1.setNum K.khAttestState 3).causedBy j.src (·.report 0x0C09 [slot, id, 1]) else
    let (k, d2) := d1.drawNonce p384
    let (r, s) := p384.sign (beNat (d.key 63)) (beNat (sha384 (ascii "LUABRY-ATTEST-01" ++ body))) k
    ((d2.setOct K.khAttestReport (body ++ toBE 48 r ++ toBE 48 s)).setNum K.khAttestState 2).causedBy j.src (·.report 0x0C09 [slot, id, 0])
  | _, _ => d

/-! ## Meanings -/

/-- ENTROPY_HEALTH_FAILURE. -/
def execEntropyHealthFailure (test : Nat) (s : State) : Host.Outcome State Fault Refusal := .next (s.on (·.entropyFailed test))
/-- ENTROPY_RETEST. -/
def execEntropyRetest (pass : Bool) (s : State) : Host.Outcome State Fault Refusal := .next (s.on (·.entropyRetest pass))
/-- DRBG_RESEED. -/
def execDrbgReseed (s : State) : Host.Outcome State Fault Refusal := .next (s.on (·.reseedDue))
/-- KEYGEN_COMPLETE. -/
def execKeygenComplete (slot : Nat) (s : State) : Host.Outcome State Fault Refusal := .next (s.on (·.keygenComplete slot))
/-- NTS_ROTATE_PERIOD_EXPIRY. -/
def execNtsRotatePeriodExpiry (s : State) : Host.Outcome State Fault Refusal := .next (s.on (·.rotateDue))
/-- ATTEST_COMPLETE. -/
def execAttestComplete (s : State) : Host.Outcome State Fault Refusal := .next (s.on (·.attestComplete))

end Sys2Proof.Machine
end

