-- ==== Sys2Proof/Machine/Attic.lean ====
section
/-! DEFINITION. The event recorder's flash and the Study cores (19_event_recorder.md, 18_mailboxes_firmware.md): the flash ring, waking,
reading, clearing, the scan at start, and the cores' watchdogs. -/

namespace Sys2Proof.Machine

/-! ## Flash ring (R510 to R512) -/

/-- The next good sector after sector s. -/
def Attic.goodAfter (a : Attic) (s : Nat) : Nat :=
  match (List.range 256).find? (fun i => !a.bad.contains ((s + 1 + i) % 256)) with
  | some i => (s + 1 + i) % 256
  | none => s

/-- The sectors from the one after s up to t, in ring order. -/
def ringSpan (s t : Nat) : List Nat := (List.range ((t + 255 - s) % 256 + 1)).map (fun i => (s + 1 + i) % 256)

/-- R512: ATTIC_FLASH_STATE takes a value; a change is recorded. In FAILED the pending queue is discarded. -/
def Device.setFlashState (d : Device) (st : Nat) : Device :=
  let old := d.nat K.atticFlashState
  if old = st then d else
  let d1 := (d.setNum K.atticFlashState st).report 0x0E04 [old, st]
  if st ≠ 2 then d1 else
  let p := d1.attic.pending
  let d2 := d1.setAttic (fun a => { a with pending := [] })
  (match p.head?, p.getLast? with
    | some x, some y => d2.report 0x0E02 [4, recSeq x, recSeq y]
    | _, _ => d2).noteFull.atticFollow

/-- R512: sector s is bad, found by an erase (1) or a read-back (2). -/
def Device.badSector (d : Device) (s how : Nat) : Device :=
  let d1 := d.setAttic (fun a => { a with bad := s :: a.bad })
  let n := d1.attic.bad.length
  ((d1.setNum K.atticBadSectors n).report 0x0E03 [s, how, n]).setFlashState (if 128 < n then 2 else 1)

/-- R510: the writer begins sector s: the next good sector is erased, and its records leave the ring. -/
def Device.eraseAfter (d : Device) (s : Nat) : Device :=
  let gone := ringSpan s (d.attic.goodAfter s)
  d.setAttic (fun a => { a with flash := a.flash.filter (fun x => !gone.contains (x.1 / 64)) })

/-- FLASH_RECORD_WRITE (R507, R510 to R512): core 3 programs the oldest pending record and reads it back. `outcome`: 0 it verifies,
1 the sector erase before it fails first, 2 the read-back differs, 3 the flash does not answer. -/
def Device.flashWrite (d0 : Device) (outcome : Nat) : Device :=
  match d0.attic.pending with
  | [] => d0
  | r :: rest =>
    if !d0.coreRuns 3 || d0.asleep || d0.nat K.atticFlashState = 2 then d0
    else if outcome = 3 then d0.setFlashState 2
    else
      let s := d0.attic.pos / 64
      let begins := d0.attic.pos % 64 = 0
      let d1 := if begins && outcome = 1 then d0.badSector (d0.attic.goodAfter s) 1 else d0
      let d2 := if begins then d1.eraseAfter s else d1
      if d2.nat K.atticFlashState = 2 then d2
      else if outcome = 2 then
        let d3 := d2.badSector s 2
        (d3.setAttic (fun a => { a with pos := a.goodAfter s * 64 })).atticFollow
      else
        let d3 := d2.setAttic (fun a => { a with
          flash := a.flash ++ [(a.pos, r)], pending := rest, flashed := recSeq r + 1
          pos := if a.pos % 64 = 63 then a.goodAfter s * 64 else a.pos + 1 })
        d3.noteFull.atticFollow

/-- R508: on the wake to Run the records that the Cellar formed are queued for flash, and lost ones are accounted for. -/
def Device.atticWake (d : Device) : Device :=
  let a := d.attic
  let held := a.pending.map recSeq
  let more := a.retention.filter (fun r => a.flashed ≤ recSeq r && !held.contains (recSeq r))
  let d1 := if d.nat K.atticFlashState = 2 then d else d.setAttic (fun a => { a with pending := a.pending ++ more })
  (if a.asleep = 0 then d1 else (d1.report 0x0E02 [3, a.asleep]).setAttic (fun a => { a with asleep := 0 })).atticFollow

/-! ## Reading and clearing (R513, R516 to R518) -/

/-- A write to ATTIC_SNAP (R513). -/
def Device.writeAtticSnap (d : Device) : Nat × Device :=
  (St.ok, d.setNums [(K.atticSnapHead, d.num K.atticHead), (K.atticSnapTail, d.num K.atticTail), (K.atticSnapTime, d.mt16)])

/-- R516, R517: an attempt to clear that is refused before its token is looked at is recorded, and draws a fresh nonce. -/
def Device.clearTried (d : Device) (k st : Nat) (b : Bytes) : Device :=
  if k = K.atticClear then d.freshNonce.report 0x0E05 [st, fieldNat b 0 4] else d

/-- A write to ATTIC_CLEAR in a session (R516, R517). -/
def Device.writeAtticClear (d : Device) (b : Bytes) : Nat × Device :=
  let upTo := fieldNat b 0 4
  let e := beNat (sha384 (ascii "LUABRY-ACLEAR-01" ++ sha384 (d.oct K.khDikPub) ++ toBE 4 upTo ++ d.oct K.atticClearNonce))
  let signed := match p384.decode (d.oct K.khOwnerPub) with
    | some (x, y) => p384.verify x y e (fieldNat b 20 48) (fieldNat b 68 48)
    | none => false
  let st := if field b 4 16 ≠ d.oct K.atticClearNonce || !signed then St.auth
    else if d.nat K.atticHead < upTo || upTo < d.nat K.atticTail then St.range
    else if d.attic.clearing.isSome || d.nat K.atticFlashState = 2 || !d.entropyOk then St.state
    else St.ok
  let d1 := d.freshNonce
  if st = St.ok then
    (st, ((d1.setNum K.atticClearState 1).setOct K.atticClear b).setAttic (fun a => { a with clearing := some (upTo, false, d.foyer.cause) }))
  else (st, d1.report 0x0E05 [st, upTo])

/-- ATTIC_CLEAR_COMPLETE (R518): the clear in progress is complete. -/
def Device.clearComplete (d : Device) : Device :=
  match d.attic.clearing with
  | none => d
  | some (upTo, cut, src) =>
    let tail := d.nat K.atticTail
    let keep := fun (r : Bytes) => decide (upTo < recSeq r)
    let a := d.attic
    let all := a.flash.map (·.2) ++ a.pending ++ a.retention
    let gone := ((all.filter (fun r => !keep r)).map recSeq).eraseDups.length
    let d1 := d.setAttic (fun a => { a with
      flash := a.flash.filter (fun x => keep x.2), pending := a.pending.filter keep, retention := a.retention.filter keep
      prevCrc := if a.next ≤ upTo + 1 then 0 else a.prevCrc, flashed := max a.flashed (upTo + 1), clearing := none })
    ((d1.setNum K.atticClearState 0).causedBy src (·.report 0x0E01 [tail, upTo, gone, if cut then 1 else 0])).noteFull.atticFollow

/-! ## Start (R506, R509, R511) -/

/-- R512: the scan at start finds the bad sectors again; no erase or read-back failed now, so none is recorded as 0x0E03 (DEDUCED, log 130). -/
def Device.scanBad (d : Device) : Device :=
  let n := d.attic.bad.length
  if n = 0 then d else (d.setNum K.atticBadSectors n).setFlashState (if 128 < n then 2 else 1)

/-- R506, R508, R509, R511, R512: what the Attic finds at start, the reports that the Cellar could not form in sleep among it; `cold` says that
the Cellar has lost VBAT. -/
def Device.atticStart (d : Device) (cold : Bool) : Device :=
  let best := d.attic.flash.foldl (fun (b : Option Bytes) x => if b.all (fun y => recSeq y < recSeq x.2) then some x.2 else b) none
  let d1 := if !cold then d else
    let d2 := d.setAttic (fun a => { a with next := match best with | some r => recSeq r + 1 | none => 0, retention := [], prevCrc := 0 })
    match best with
    | some r => d2.setNums [(K.cellarOpMinutes, fieldNat r 20 4), (K.cellarPowerCycles, fieldNat r 24 4)]
    | none => d2
  let a := d1.attic
  let flashed := match best with
    | some r => recSeq r + 1
    | none => 0
  let kept := a.retention.filter (fun r => max flashed a.flashed ≤ recSeq r)
  -- numbers after the flash's last that retention does not hold
  let missing := (List.range (a.next - max flashed a.flashed)).map (· + max flashed a.flashed) |>.filter (fun n => !kept.any (fun r => recSeq r = n))
  let d2 := d1.setAttic (fun a => { a with
    pending := kept, full := 0, asleep := 0, reports := []
    prevCrc := if missing.contains (a.next - 1) then 0 else a.prevCrc
    clearing := a.clearing.map (fun c => (c.1, true, c.2.2)) })
  let d3 := match missing.head?, missing.getLast? with
    | some x, some y => d2.report 0x0E02 [2, x, y]
    | _, _ => d2
  let lost := if cold then 0 else d.attic.asleep
  let d3 := if lost = 0 then d3 else d3.report 0x0E02 [3, lost]
  let d4 := match d3.attic.torn with
    | some t => (d3.report 0x0E06 [t]).setAttic (fun a => { a with torn := none, pos := if t % 64 = 63 then a.goodAfter (t / 64) * 64 else t + 1 })
    | none => d3
  (if d4.attic.clearing.isSome then d4.setNum K.atticClearState 1 else d4).scanBad.atticFollow

/-! ## Study cores (R489, R490) -/

/-- STUDY_CORE_STATE of core c takes a value. -/
def Device.setCore (d : Device) (c st : Nat) : Device :=
  d.setOct K.studyCoreState (putBytes (d.oct K.studyCoreState) c (toBE 1 st))

/-- Table 18-1, R17: the event of core c's loss (1) and return (0), under the range of the subsystem that it serves: Skylight, Attic or Parlour. -/
def coreEvent (c : Nat) : Nat := (if c = 0 then 0x0500 else if c = 3 then 0x0E00 else 0x0A00) + Config.lossCode 3 % 256

/-- CORE_WATCHDOG_EXPIRY (R17, R490): core c misses its watchdog: it resets alone, or is halted at the third reset within 60 s. -/
def Device.coreWatchdog (d : Device) (c : Nat) : Device :=
  if 4 ≤ c || !d.coreRuns c || d.asleep then d else
  let now := d.clock.ticks
  let recent := (d.study.resets.getD c []).filter (fun t => now < t + 60 * sTicks)
  let n := fieldNat (d.oct K.studyWdtResets) (4 * c) 4 + 1
  let d1 := (d.setStudy (fun s => { s with resets := updAt s.resets c (fun _ => now :: recent) })).setOct K.studyWdtResets
    (putBytes (d.oct K.studyWdtResets) (4 * c) (toBE 4 (n % 2 ^ 32)))
  let d2 := (d1.report 0x0D01 [c, 1, n]).report (coreEvent c) [c, 1]
  if recent.length < 2 then d2.setCore c 2
  else ((d2.setCore c 3).setStudy (fun s => { s with haltedAt := updAt s.haltedAt c (fun _ => some now) })).report 0x0D01 [c, 2, n]

/-- CORE_RELOAD_COMPLETE (R17, R489, R490): `wait` ticks on, within 50 ms of its reset, a core is in RUN again, or STOPPED with the others while
the part sleeps. -/
def Device.coreReload (d0 : Device) (c wait : Nat) : Device :=
  if 4 ≤ c || fieldNat (d0.oct K.studyCoreState) c 1 ≠ 2 then d0 else
  let t := ((d0.study.resets.getD c []).headD 0) + 50 * msTicks
  ((d0.runTo (min (d0.clock.ticks + wait) t)).setCore c (if d0.asleep then 1 else 0)).report (coreEvent c) [c, 0]

/-! ## Meanings -/

/-- MB8_SERVICE. -/
def execMb8Service (s : State) : Host.Outcome State Fault Refusal := .next (s.on (·.mb8Service))
/-- RECORD_FORM. -/
def execRecordForm (s : State) : Host.Outcome State Fault Refusal := .next (s.on (·.formRecord))
/-- FLASH_RECORD_WRITE. -/
def execFlashRecordWrite (outcome : Nat) (s : State) : Host.Outcome State Fault Refusal := .next (s.on (·.flashWrite outcome))
/-- ATTIC_CLEAR_COMPLETE. -/
def execAtticClearComplete (s : State) : Host.Outcome State Fault Refusal := .next (s.on (·.clearComplete))
/-- CORE_WATCHDOG_EXPIRY. -/
def execCoreWatchdogExpiry (core : Nat) (s : State) : Host.Outcome State Fault Refusal := .next (s.on (·.coreWatchdog core))
/-- CORE_RELOAD_COMPLETE. -/
def execCoreReloadComplete (core wait : Nat) (s : State) : Host.Outcome State Fault Refusal := .next (s.on (·.coreReload core wait))

end Sys2Proof.Machine
end

