-- ==== Sys2Proof/Machine/Foyer.lean ====
section
/-! DEFINITION. Foyer without the requests (02_management_access.md): PDUs and their MAC, the lock and the session, transfers'
timeout, heartbeats. -/

namespace Sys2Proof.Machine

/-- The part with Foyer's own state changed. -/
def Device.setFoyer (d : Device) (f : Foyer → Foyer) : Device := { d with foyer := f d.foyer }

/-! ## PDUs -/

/-- Table 2-2: offsets 0 to 19 + LENGTH of a PDU. -/
def HapPdu.head (p : HapPdu) : Bytes :=
  ofNats [1, p.opcode, p.flags, p.sub] ++ toBE 2 p.index ++ toBE 2 p.txn ++ toBE 2 p.status ++ toBE 2 p.payload.length
    ++ toBE 4 p.token ++ toBE 4 p.seq ++ p.payload

/-- Table 2-2: a PDU as it is sent, with its CRC. -/
def HapPdu.wire (p : HapPdu) : Bytes :=
  p.head ++ p.mac ++ toBE 4 (crc32c (p.head ++ p.mac))

/-- R34, Table 2-1: the maximum PDU of a transport. -/
def maxPdu (src : Partner) (xl : Bool) : Nat := if 4 ≤ src.transport then 1400 else if xl then 2048 else 64

/-- R34, Table 2-1: the maximum payload of a transport, with or without a MAC. -/
def maxPayload (src : Partner) (xl mac : Bool) : Nat := maxPdu src xl - 24 - (if mac then 8 else 0)

/-- R34, R59: the data bytes of one READ_SEG answer: what fits beside SEGNO in the smallest PDU that the partner may be answered with while
the transfer is open, a CAN FD frame on a controller, with the MAC that a session adds (DESIGN CHOICE, log 20: the spec bounds the size
only). -/
def segSize (src : Partner) : Nat := maxPayload src false true - 4

/-- Is a partner the current owner: the transport, the address and the port tell partners apart. -/
def Device.isOwner (d : Device) (src : Partner) : Bool :=
  match d.foyer.owner with
  | some o => o.transport = src.transport && o.addr = src.addr && o.port = src.port
  | none => false

/-- LOCK_STATE: 0 FREE, 1 OPEN, 2 PENDING, 3 SESSION. -/
def Device.lock (d : Device) : Nat := d.nat K.lockState

/-! ## The end of a session and of ownership (R50, R53, R55) -/

/-- R481, Table 2-8: the lock leaves SESSION, or a handshake, for a state other than FREE; K_S is zeroed. -/
def Device.lockTo (d : Device) (st : Nat) : Device :=
  let now := d.clock.ticks
  (d.setFoyer (fun f => { f with key := [], seqIn := 0, seqOut := 0, fails := 0, pendingSince := now })).setNum K.lockState st

/-- R55: the session ends because a SEQ is exhausted; a new session needs the nonces of a new handshake. -/
def Device.seqExhausted (d : Device) : Device :=
  let st := if d.nat K.hapLockPolicy = 0 then 1 else 2
  ((d.lockTo st).setFoyer (fun f => { f with hostNonce := [], devNonce := [] })).causedBy (d.nat K.lockHolder)
    (·.report 0x0F01 [7, d.num K.lockHolder, st])

/-- R61, R492: the open transfer, if any, ends without a write; a firmware image is received no longer. -/
def Device.dropXfer (d : Device) : Device :=
  let d1 := if d.nat K.studyStageState = 1 then d.setNum K.studyStageState 0 else d
  d1.setFoyer (fun f => { f with xfer := none })

/-- R50: the lock is released for a cause of Table 19-6. -/
def Device.releaseLock (d : Device) (cause : Nat) : Device :=
  let holder := d.num K.lockHolder
  let d1 := d.dropXfer.setFoyer (fun f => { f with
    owner := none, ownerXl := false, token := 0, hostNonce := [], devNonce := [], key := [], seqIn := 0, seqOut := 0, fails := 0 })
  let d2 := d1.setNums [(K.lockState, 0), (K.lockHolder, 0xFF), (K.lockToken, 0)]
  let d3 := (List.range 17).foldl (fun d g => if d.frozen g then d.revertLater g else d.revertGroup g) d2
  d3.causedBy holder.toNat (·.report 0x0F01 [cause, holder, 0])

/-- Table 2-8, R50: a handshake fails: to OPEN under policy 0, a release of cause 6 under policy 1. -/
def Device.handshakeFailed (d : Device) : Device :=
  if d.nat K.hapLockPolicy = 0 then d.lockTo 1 else d.releaseLock 6

/-! ## Frames the part sends -/

/-- R34, R36: the UDP frame that carries a PDU to a partner on a port: from the port's own address and UDP port 4845. -/
def Device.hapFrame (d : Device) (dst : Partner) (p : HapPdu) : Bytes :=
  let port := dst.transport - 4
  let own := d.oct (if dst.addr.length = 4 then K.portIpv4 port else K.portIpv6 port)
  udpFrame dst.mac (d.oct (K.portMac port)) dst.tag own dst.addr 4845 dst.port p.wire

/-- R36: the next valid CAN FD data length. -/
def canFdLength (n : Nat) : Nat := ([8, 12, 16, 20, 24, 32, 48].find? (n ≤ ·)).getD 64

/-- R36, R299: what the CAN frame of a PDU carries around it on controller n: a response, whatever its opcode, has FLAGS[1]. -/
def Device.canHead (d : Device) (n : Nat) (xl : Bool) (p : HapPdu) : CanHead :=
  let cfg := d.oct (K.canCfg n)
  { ident := d.nat (if bit p.flags 1 then K.hapCanRspId else K.hapCanHbId), xl := xl
    sdt := if xl then fieldNat cfg 11 1 else 0, vcid := if xl then fieldNat cfg 12 1 else 0, af := if xl then fieldNat cfg 14 4 else 0
    pad := if xl then 0 else canFdLength p.wire.length - p.wire.length }

/-- A PDU leaves on its transport: a CAN controller sends it in an FD or XL frame and counts the frame (R36, R298, R300); on a port its
frame enters queue Q0 through IP2 (R356). -/
def Device.emitHap (d : Device) (dst : Partner) (xl : Bool) (p : HapPdu) : Device :=
  if dst.transport < 4 then (d.canSent dst.transport).emit (.hap dst (d.canHead dst.transport xl p) p)
  else d.ipSend (dst.transport - 4) 0 { body := d.hapFrame dst p, src := 0x102 }

/-- R54, R55: a PDU leaves toward a partner; in SESSION with a MAC and the next device SEQ, unless `plain`. A controller that takes no
part in the bus, or is silent in FAULT, sends nothing (R122, R297, R300). -/
def Device.sendPdu (d : Device) (dst : Partner) (xl : Bool) (p : HapPdu) (plain : Bool) : Device :=
  if dst.transport < 4 && !d.canActive dst.transport then d
  else if d.lock ≠ 3 || plain then d.emitHap dst xl p
  else
    let q := d.foyer.seqOut + 1
    let h : HapPdu := { p with flags := setBit p.flags 0 true, seq := q }
    let d1 := (d.setFoyer (fun f => { f with seqOut := q })).emitHap dst xl { h with mac := mac8 d.foyer.key h.head }
    if q = 0xFFFFFFFF then d1.seqExhausted else d1

/-- R41, R54: the response to a request; the owner's carries the current token, and no MAC of the session leaves for another partner.
FLAGS[2] is clear, also for a read that set it (DESIGN CHOICE, log 110: the spec gives it no meaning in a response). -/
def Device.respond (d : Device) (src : Partner) (xl : Bool) (opcode index sub txn status : Nat) (pay : Bytes) : Device :=
  let own := d.isOwner src
  let p : HapPdu :=
    { opcode := opcode, flags := 2, sub := sub, index := index, txn := txn, status := status, token := if own then d.foyer.token else 0,
      seq := 0, payload := pay, mac := [] }
  d.sendPdu src xl p (!own)

/-- R62: the payload of a heartbeat that names power state `fb`. -/
def Device.hbPayload (d : Device) (fb : Nat) : Bytes :=
  ofNats [d.nat K.mtState, fb, d.lock, 0] ++ toBE 4 d.foyer.hbCount ++ time96Bytes d.mt16

/-- R62, R63: a HEARTBEAT on each enabled CAN controller in the order C0 to C3, then to an owner on UDP. A controller that runs in
CAN CC or does not take part in the bus sends none (R35, R297). On CAN it is a CAN FD frame, which every serving mode carries. The first
one after a reset has count 0. INDEX, SUB, TXN, STATUS and FLAGS[1] are 0 (DESIGN CHOICE, log 111: the spec gives none of them). -/
def Device.sendHeartbeat (d : Device) (fb : Nat) : Device :=
  let cans := (List.range 4).filter (fun c => bit (d.nat K.hapCanMask) c && d.canHap c)
  let dsts := cans.map (fun c => ({ transport := c, addr := [], port := 0 } : Partner)) ++
    (match d.foyer.owner with
      | some o => if 4 ≤ o.transport then [o] else []
      | none => [])
  let p : HapPdu :=
    { opcode := 8, flags := 0, sub := 0, index := 0, txn := 0, status := 0, token := 0, seq := 0, payload := d.hbPayload fb, mac := [] }
  let count := d.foyer.hbCount
  let now := d.clock.ticks
  let d1 := dsts.foldl (fun d o => d.sendPdu o false p false) d
  d1.setFoyer (fun f => { f with hbCount := (count + 1) % 2 ^ 32, hbLast := now })

/-- HEARTBEAT (R62, R63): HAP_HB_PERIOD passes in Run or Trim since the last heartbeat; none follows the final one of an entry. -/
def Device.heartbeat (d : Device) : Device :=
  let per := d.nat K.hapHbPeriod
  if per = 0 || d.asleep || d.power.entry.isSome || !d.power.configDone then d else
  let d1 := d.runTo (d.foyer.hbLast + per * msTicks)
  d1.sendHeartbeat (d1.nat K.fbState)

/-! ## Timeouts -/

/-- LOCK_IDLE_TIMEOUT (R50): no valid owner frame for LOCK_IDLE_TIMEOUT. -/
def Device.lockIdle (d : Device) : Device :=
  if d.lock = 0 then d else (d.runTo (d.foyer.lastValid + d.nat K.lockIdleTimeout * msTicks)).releaseLock 3

/-- HANDSHAKE_TIMEOUT (R53): no proof within 1 s of entering PENDING. -/
def Device.handshakeTimeout (d : Device) : Device :=
  if d.lock ≠ 2 then d else (d.runTo (d.foyer.pendingSince + sTicks)).handshakeFailed

/-- XFER_TIMEOUT (R61): the next frame of the transfer does not arrive in time. -/
def Device.xferTimeout (d : Device) : Device :=
  match d.foyer.xfer with
  | none => d
  | some x =>
    let d1 := (d.runTo (x.since + d.nat K.hapXferTimeout * msTicks)).dropXfer
    d1.causedBy (d1.nat K.lockHolder) (·.report 0x0F03 [x.index, x.sub, if x.writing then x.buf.length else x.next])

/-- HEARTBEAT. -/
def execHeartbeat (s : State) : Host.Outcome State Fault Refusal := .next (s.on (·.heartbeat))
/-- LOCK_IDLE_TIMEOUT. -/
def execLockIdleTimeout (s : State) : Host.Outcome State Fault Refusal := .next (s.on (·.lockIdle))
/-- HANDSHAKE_TIMEOUT. -/
def execHandshakeTimeout (s : State) : Host.Outcome State Fault Refusal := .next (s.on (·.handshakeTimeout))
/-- XFER_TIMEOUT. -/
def execXferTimeout (s : State) : Host.Outcome State Fault Refusal := .next (s.on (·.xferTimeout))

end Sys2Proof.Machine
end

