-- ==== Sys2Proof/Machine/Ptp.lean ====
section
/-! DEFINITION. The PTP instances (14_precision_time.md): port states, the messages an instance originates and relays, offsets and
path delays, the candidate and the free domain they serve, BMCA, timeouts, and what a switch of group 0x0D does. -/

namespace Sys2Proof.Machine

/-! ## Free domains (R408 to R412) -/

/-- R408: is Dn a free domain that follows its instance. -/
def Device.freeFollows (d : Device) (n : Nat) : Bool := !d.bound n && d.nat (K.instRole n) ≠ 0

/-- Table 6-4: the clockAccuracy of a bound in ns. -/
def accuracyOf (ns : Nat) : Nat :=
  if ns ≤ 25 then 0x20 else if ns ≤ 100 then 0x21 else if ns ≤ 250 then 0x22 else if ns ≤ 1000 then 0x23
  else if ns ≤ 2500 then 0x24 else if ns ≤ 10000 then 0x25 else if ns ≤ 25000 then 0x26 else if ns ≤ 100000 then 0x27 else 0xFE

/-- R412: the upper limit in ns that Table 6-4 gives a clockAccuracy. -/
def accuracyLimit (acc : Nat) : Nat :=
  if acc = 0x20 then 25 else if acc = 0x21 then 100 else if acc = 0x22 then 250 else if acc = 0x23 then 1000
  else if acc = 0x24 then 2500 else if acc = 0x25 then 10000 else if acc = 0x26 then 25000 else if acc = 0x27 then 100000
  else 0xFFFFFFFF

/-- R412: INST_FREE_BOUND in T3. -/
def Device.t3Bound (d : Device) (n : Nat) : Nat :=
  let acc := if d.profile n = 3 then d.nat (K.instP3Accuracy n) else match (d.inst n).parent with
    | some a => a.acc
    | none => 0xFE
  min 0xFFFFFFFF (accuracyLimit acc + ceilDiv (d.num (K.instOffset n)).natAbs 65536)

/-- R412: INST_FREE_BOUND follows the state of Dn. -/
def Device.refreshBound (d : Device) (n : Nat) : Device :=
  let st := d.nat (K.domState n)
  let i := d.inst n
  let v := if !d.freeFollows n then 0xFFFFFFFF
    else if st = 3 then d.t3Bound n
    else if st = 4 || st = 5 then
      min 0xFFFFFFFF (i.boundBase + d.nat (K.instFreeHoRate n) * (d.clock.ticks - i.boundSince) / sTicks)
    else 0xFFFFFFFF
  d.setNum (K.instFreeBound n) v

/-- Table 14-5: a free domain takes a state; the change is recorded. -/
def Device.setDomState (d : Device) (n st : Nat) : Device :=
  let old := d.nat (K.domState n)
  if old = st then d else
  let base := if old = 3 then d.t3Bound n else d.nat (K.instFreeBound n)
  let d1 := if st = 4 then d.setInst n (fun i => { i with boundBase := base, boundSince := d.clock.ticks, boundAt := d.clock.ticks }) else d
  let d2 := (d1.setNum (K.domState n) st).setInst n (fun i => { i with streak := 0 })
  let d3 := d2.refreshBound n
  d3.report 0x0A13 [n, old, st, d3.num (K.instFreeBound n)]

/-- FREE_BOUND_UPDATE (R412): each millisecond the bound of a free domain in T4 or T5 grows; past INST_FREE_HO_LIMIT it is T5. -/
def Device.freeBoundUpdate (d0 : Device) (n : Nat) : Device :=
  let st := d0.nat (K.domState n)
  if 8 ≤ n || !d0.freeFollows n || !(st = 4 || st = 5) then d0 else
  let d := d0.runTo ((d0.inst n).boundAt + msTicks)
  let d1 := (d.setInst n (fun i => { i with boundAt := d.clock.ticks })).refreshBound n
  if st = 4 && d1.nat (K.instFreeHoLimit n) < d1.nat (K.instFreeBound n) then d1.setDomState n 5 else d1

/-! ## Port states (Table 14-3) -/

/-- R405: is a port in TIME_RECEIVER, so that PTn may be a candidate. -/
def Device.hasReceiver (d : Device) (n : Nat) : Bool := (List.range 44).any (fun p => d.ptpState n p = 9)

/-- R405, R406: a port of PTn becomes the receiver: its candidate is active with the QL last advertised on it. -/
def Device.receiverUp (d : Device) (n p : Nat) : Device :=
  if 4 ≤ n then d else
  let q := if d.profile n = 3 then 8 else match (d.ptpPort n p).foreign with
    | (a, _, _) :: _ => ptcQl a.cls a.acc
    | [] => 15
  (d.advertiseQl (5 + n) q).setSource (5 + n) true

/-- Table 14-5: a free domain in T3 that lost its time transmitter enters T4. -/
def Device.freeLost (d : Device) (n : Nat) : Device :=
  if d.freeFollows n && d.nat (K.domState n) = 3 then d.setDomState n 4 else d

/-- Table 5-3, Table 14-5: a port of PTn stops being the receiver. In a sleep and its exit a free domain keeps its state (R415). -/
def Device.receiverDown (d : Device) (n : Nat) : Device :=
  let d1 := if d.nat K.fbState < 2 && d.power.waking.isNone then d.freeLost n else d
  if n < 4 then d1.setSource (5 + n) false else d1

/-- Table 5-3: port p is the receiver still and neither of its receipt timeouts stands: a candidate that one made inactive is active again. -/
def Device.receiverBack (d : Device) (n p : Nat) : Device :=
  let u := d.ptpPort n p
  if d.ptpState n p = 9 && !u.annRun && !u.syncRun && n < 4 && !(d.cand (5 + n)).src then d.receiverUp n p else d

/-- A port takes a state of Table 14-3, with what leaving or entering TIME_RECEIVER brings. -/
def Device.movePort (d : Device) (n p st : Nat) : Device :=
  let old := d.ptpState n p
  let d1 := (d.setPtpState n p st).setPtpPort n p (fun u => { u with qualDue := none })
  if old = st then d
  else if old = 9 then d1.receiverDown n
  else if st = 9 then (d1.setPtpPort n p (fun u => { u with syncSince := d.clock.ticks, syncRun := false })).receiverUp n p
  else d1

/-- Table 14-3, R273: is port p UP with an address for PTn's transport. -/
def Device.ptpReady (d : Device) (n p : Nat) : Bool :=
  let t := d.nat (K.instTransport n)
  d.portUp p && (t = 0 || (if t = 1 then d.oct (K.portIpv4 p) else d.oct (K.portIpv6 p)).any (· ≠ 0))

/-- R393, Table 14-3: a port leaves INITIALIZING. -/
def Device.ptpInit (d : Device) (n p : Nat) : Device :=
  let role := d.nat (K.instRole n)
  let d1 := d.setPtpPort n p (fun u => { u with annSince := d.clock.ticks, annRun := false, lost := 0 })
  if !d.ptpReady n p then d1.movePort n p 2
  else if role = 2 then d1.movePort n p 4
  else if role = 1 && p = d.nat (K.instRxPort n) then d1.movePort n p (if (d.inst n).samples = [] then 8 else 9)
  else d1.movePort n p 6

/-- R393, R395, R415: every port of PTn restarts. -/
def Device.ptpRestart (d : Device) (n : Nat) : Device :=
  (List.range 44).foldl (fun d p =>
    if !d.inMask n p then d.movePort n p 0
    else if !d.instOn n then d.movePort n p 3
    else (d.movePort n p 1).ptpInit n p) d

/-- Table 14-8: the objects that show PTn's parent; without one its accuracy is INST_P3_ACCURACY in profile 3. -/
def Device.showParent (d : Device) (n : Nat) (a : Option Announce) : Device :=
  match a with
  | some a => ((d.setOct (K.instGmId n) a.gm).setNum (K.instGmClass n) a.cls).setNum (K.instGmAccuracy n) a.acc
  | none => ((d.setOct (K.instGmId n) (List.replicate 8 0)).setNum (K.instGmClass n) 255).setNum (K.instGmAccuracy n)
      (if d.profile n = 3 then d.num (K.instP3Accuracy n) else 0xFE)

/-- The parent of PTn is dropped or changes (R406): its data are those of the new one. A parent other than the last is a jump of the candidate; one
that is lost takes its activity with it (R414). -/
def Device.setParent (d : Device) (n : Nat) (a : Option Announce) : Device :=
  let i := d.inst n
  let d1 := d.setInst n (fun i => { i with parent := a, lastSender := (a.map (·.sender)).or i.lastSender })
  let d2 := d1.showParent n a
  if d.nat (K.instRole n) ≠ 2 || i.parent.map (·.sender) = a.map (·.sender) then d2 else
  let gm := d2.oct (K.instGmId n)
  let d3 := d2.report 0x0A11 [n, fieldNat gm 0 4, fieldNat gm 4 4]
  if 4 ≤ n || a.all (fun a => i.lastSender = some a.sender) then d3 else d3.parentJump (5 + n)

/-- R395: port p came UP or left UP, or its address changed: every instance that uses it follows. -/
def Device.ptpLink (d : Device) (p : Nat) : Device :=
  (List.range 8).foldl (fun d n =>
    if !d.instOn n || !d.inMask n p then d
    else if d.ptpReady n p then (if d.ptpState n p = 2 then (d.movePort n p 1).ptpInit n p else d)
    else if d.ptpState n p = 3 || d.ptpState n p = 2 then d
    else
      let d1 := d.movePort n p 2
      if d.nat (K.instRole n) = 2 && (d.ptpState n p = 8 || d.ptpState n p = 9) then d1.setParent n none else d1) d

/-! ## Messages sent (R397 to R400) -/

/-- R396: bit p of INST_ASCAPABLE. -/
def Device.asCapable (d : Device) (n p : Nat) : Bool := bit (d.nat (K.instAscapable n)) p

/-- R415: may instances originate messages. -/
def Device.originating (d : Device) : Bool := !d.power.entry.any (fun e => 3 ≤ e.2) && d.nat K.fbState < 2 && d.power.waking.isNone && d.clock.mtRun

/-- The tag of a message: its type, port and sequence number. -/
def ptpTag (n p kind seq : Nat) : Tag := .ptp n kind (p * 65536 + seq % 65536)

/-- R368: a message that an instance originates on port p takes its reservation; nothing leaves where the gates never allow it. `fill`
gives the message from the reservation's start. -/
def Device.ptpSend (d : Device) (p : Nat) (len : Nat) (fill : Nat → Frame) : Device :=
  match d.findSlot p (frameLen (List.replicate (max 60 len) 0)) (d.rootPs + 64000) with
  | some s => d.reserve p s (fill s)
  | none => d

/-- R398, R401: a Sync frame, its insertion operation and correction. -/
def Device.syncFrame (d : Device) (n p op : Nat) (corr : Int) (origin ref tlv : Bytes) : Frame :=
  let u := d.ptpPort n p
  let li := (u.asked.2.1).getD (d.num (K.instLogSync n))
  let m := d.buildPtp n p 0 (if d.num (K.instPtpTimescale n) = 1 then 8 else 0) corr (u.syncSeq % 65536) li (origin ++ tlv)
  let (b, off) := d.ptpFrame n p m
  { body := b, src := 0x100, insOp := op, insScale := 3 + n, insOff := if op = 1 then off + 34 else 0, corrOff := off + 8
    csumOff := if d.nat (K.instTransport n) = 0 then 0 else off - 2, ref := ref, tag := ptpTag n p 0 u.syncSeq }

/-- The Follow_Up information TLV of IEEE 802.1AS with a cumulative rate offset (2^-48); only the 802.1AS profiles send one. -/
def Device.rateTlv (d : Device) (n : Nat) (ratio : Int) : Bytes :=
  if d.gptp n then ofNats [0, 3, 0, 28, 0, 0x80, 0xC2, 0, 0, 1] ++ toBE 4 (ofSigned 4 (ratio / 128)) ++ List.replicate 18 0 else []

/-- R398: PTn sends a Sync of its own on port p. -/
def Device.sendSync (d : Device) (n p : Nat) : Device :=
  let f := d.syncFrame n p 1 0 (List.replicate 10 0) [] (d.rateTlv n 0)
  (d.ptpSend p f.body.length (fun _ => f)).setPtpPort n p (fun u => { u with syncSeq := u.syncSeq + 1 })

/-- R397: the first MT instant at or after this tick that is a multiple of 2^L s plus p times 2 us, after the last one scheduled unless MT stepped back
over that. -/
def Device.nextInstant (d : Device) (p : Nat) (L : Int) (last : Nat) : Nat :=
  let iv := secU * 2 ^ (L + 7).toNat / 128
  let off := p * 2000 * nsU
  let here := d.clock.mt + 1 - (d.mtGain 1)
  let lo := if d.clock.mt < last then here else max (last + 1) here
  off + ceilDiv (lo - off) iv * iv

/-- R397: the MT instant at which port p of PTn next schedules a Sync. -/
def Device.syncDue (d : Device) (n p : Nat) : Nat :=
  let u := d.ptpPort n p
  d.nextInstant p ((u.asked.2.1).getD (d.num (K.instLogSync n))) u.syncAt

/-- R397: the same for an Announce. -/
def Device.announceDue (d : Device) (n p : Nat) : Nat :=
  let u := d.ptpPort n p
  d.nextInstant p ((u.asked.2.2).getD (d.num (K.instLogAnnounce n))) u.annAt

/-- R397: the same for a Pdelay_Req whose interval is not drawn. -/
def Device.pdelayDue (d : Device) (n p : Nat) : Nat :=
  let u := d.ptpPort n p
  d.nextInstant p ((u.asked.1).getD (d.num (K.instLogDelay n))) u.delayAt

/-- R397: does PTn draw the intervals of its delay requests. -/
def Device.drawsDelay (d : Device) (n : Nat) : Bool := !d.peerDelay n || d.nat (K.instRole n) = 1

/-- SYNC_SCHEDULE (R396 to R398, R401): at its instant a TIME_TRANSMITTER port sends a Sync, unless it relays or is not asCapable. -/
def Device.syncSchedule (d0 : Device) (n p : Nat) : Device :=
  if 8 ≤ n || 44 ≤ p || !d0.clock.mtRun then d0 else
  let t := d0.syncDue n p
  let d := (d0.runToMt t).setPtpPort n p (fun u => { u with syncAt := t })
  let relays := d.num (K.instRelay n) = 1 && !(d.inst n).rxTimedOut
  if !d.originating || !d.instOn n || d.ptpState n p ≠ 6 || relays || (d.gptp n && !d.asCapable n p) then d else d.sendSync n p

/-- R126, R400: does PTn advertise its parent's data: a bound one not while the root is not LOCKED, where the selection stands frozen. -/
def Device.usesParent (d : Device) (n : Nat) : Bool :=
  (d.inst n).parent.isSome &&
  ((d.hasReceiver n && n < 4 && d.selected = 5 + n && d.refState (5 + n) = 5 && d.rootLocked) || (d.freeFollows n && d.nat (K.domState n) = 3))

/-- INST_STEPS_REMOVED (Table 14-8). -/
def Device.stepsRemoved (d : Device) (n : Nat) : Nat :=
  match (d.inst n).parent with
  | some a => if d.usesParent n then min 65535 (a.steps + 1) else 0
  | none => 0

/-- The QL of the candidate selected, or of the one selected last. -/
def Device.selectedQl (d : Device) : Nat :=
  match d.therm.lastSel with
  | some c => d.nat (K.thermRefQl c)
  | none => 15

/-- Table 14-4: the data set that PTn advertises as its own. -/
def Device.ownData (d : Device) (n : Nat) : Announce :=
  let free := !d.bound n
  let st := if d.freeFollows n then d.nat (K.domState n) else d.nat K.mtState
  let ql := d.selectedQl
  let cls := if d.num (K.instPtpTimescale n) = 1 then (if st = 3 then 6 else if st = 4 then 7 else if st = 5 then 52 else 248)
    else (if st = 3 then 13 else if st = 4 then 14 else if st = 5 then 58 else 248)
  let acc := if free then (if st = 3 || st = 4 then accuracyOf (if d.freeFollows n then d.nat (K.instFreeBound n) else d.hoBound) else 0xFE)
    else if st = 3 then (if ql = 1 then 0x20 else if ql = 2 then 0x21 else if ql = 3 then 0x23 else 0xFE)
    else if st = 4 then accuracyOf d.hoBound else 0xFE
  let sel := d.selected
  let src := if free then (if d.freeFollows n && (st = 2 || st = 3) then 0x40 else 0xA0)
    else if sel = 0 then 0x20 else if sel < 5 then 0x90 else if sel < 9 then 0x40 else 0xA0
  let trace := if free then (if st = 3 then (match (d.inst n).parent with | some a => a.flags / 16 % 4 * 16 | none => 0) else 0)
    else if (st = 3 || st = 4) && ql ≤ 4 then 0x30 else 0
  let lp := d.leapPending
  let flags := (if lp = 1 then 1 else 0) + (if lp = 2 then 2 else 0) + (if d.everLocked then 4 else 0)
    + (if d.num (K.instPtpTimescale n) = 1 then 8 else 0) + trace
  { sender := [], priority1 := d.nat (K.instPriority1 n), cls := cls, acc := acc
    variance := if st = 3 || st = 4 then d.nat (K.instVariance n) else 0xFFFF
    priority2 := d.nat (K.instPriority2 n), gm := d.oct (K.instClockId n), steps := 0, source := src, flags := flags
    utcOffset := d.utcOffset, logInt := d.num (K.instLogAnnounce n) }

/-- R400: the data set that PTn advertises now. -/
def Device.advertised (d : Device) (n : Nat) : Announce :=
  match (d.inst n).parent with
  | some a => if d.usesParent n then { a with steps := d.stepsRemoved n } else d.ownData n
  | none => d.ownData n

/-- The body of an Announce. -/
def announceBody (a : Announce) : Bytes :=
  List.replicate 10 0 ++ toBE 2 (ofSigned 2 a.utcOffset) ++ ofNats [0, a.priority1, a.cls, a.acc] ++ toBE 2 a.variance
    ++ ofNats [a.priority2] ++ padTo 8 a.gm ++ toBE 2 a.steps ++ ofNats [a.source]

/-- An Announce read from a message. -/
def announceOf (m : PtpMsg) : Announce :=
  let b := m.body
  { sender := m.source, priority1 := fieldNat b 13 1, cls := fieldNat b 14 1, acc := fieldNat b 15 1, variance := fieldNat b 16 2
    priority2 := fieldNat b 18 1, gm := padTo 8 (field b 19 8), steps := fieldNat b 27 2, source := fieldNat b 29 1
    flags := m.flags % 256, utcOffset := toSigned 2 (fieldNat b 10 2), logInt := m.logInt }

/-- ANNOUNCE_SCHEDULE (R397, R400): at its instant a TIME_TRANSMITTER port sends an Announce; profile 3 sends none. -/
def Device.announceSchedule (d0 : Device) (n p : Nat) : Device :=
  if 8 ≤ n || 44 ≤ p || !d0.clock.mtRun then d0 else
  let u := d0.ptpPort n p
  let L := (u.asked.2.2).getD (d0.num (K.instLogAnnounce n))
  let t := d0.announceDue n p
  let d := (d0.runToMt t).setPtpPort n p (fun u => { u with annAt := t })
  if !d.originating || !d.instOn n || d.ptpState n p ≠ 6 || d.profile n = 3 then d else
  let a := d.advertised n
  let d1 := d.setNum (K.instStepsRemoved n) a.steps
  let m := d.buildPtp n p 11 a.flags 0 (u.annSeq % 65536) L (announceBody a)
  let f : Frame := { body := (d.ptpFrame n p m).1, src := 0x100 }
  (d1.ptpSend p f.body.length (fun _ => f)).setPtpPort n p (fun u => { u with annSeq := u.annSeq + 1 })

/-- DELAY_REQ_SCHEDULE (R397, R398): at its instant a receiving port sends a Delay_Req, or a port of a peer-to-peer profile a
Pdelay_Req, whose predecessor counts as unanswered if no answer came. A PRE_TIME_TRANSMITTER port sends nothing, and a PASSIVE one only
answers (Table 14-3). -/
def Device.delaySchedule (d0 : Device) (n p : Nat) : Device :=
  if 8 ≤ n || 44 ≤ p || !d0.clock.mtRun then d0 else
  let u := d0.ptpPort n p
  let L := (u.asked.1).getD (d0.num (K.instLogDelay n))
  let (r, d1) := d0.drawBytes 4
  let d := if d0.drawsDelay n then
      let e := d1.runTo u.delayDue
      e.setPtpPort n p (fun u => { u with delayDue := e.clock.ticks + 2 * sTicks * 2 ^ (L + 7).toNat / 128 * beNat r / 2 ^ 32 })
    else
      let t := d0.pdelayDue n p
      (d0.runToMt t).setPtpPort n p (fun u => { u with delayAt := t })
  let st := d.ptpState n p
  let sends := st = 8 || st = 9 || (d.peerDelay n && (st = 4 || st = 6))
  if !d.originating || !d.instOn n || !sends then d else
  let kind := if d.peerDelay n then 2 else 1
  let m := d.buildPtp n p kind 0 0 (u.delaySeq % 65536) (if kind = 2 then L else 0x7F)
    (List.replicate (if kind = 2 then 20 else 10) 0)
  let f : Frame := { body := (d.ptpFrame n p m).1, src := 0x100, tag := ptpTag n p kind u.delaySeq }
  (d.ptpSend p f.body.length (fun _ => f)).setPtpPort n p (fun u => { u with
    delaySeq := u.delaySeq + 1, delayOut := some (u.delaySeq % 65536, none), pdelayTwo := none
    lost := if kind = 2 && u.delayOut.isSome then u.lost + 1 else u.lost })

/-- R368: what port p of PTn schedules at this very tick. -/
def Device.portMessages (d0 : Device) (n p : Nat) : Device :=
  let d1 := if d0.syncDue n p ≤ d0.clock.mt then d0.syncSchedule n p else d0
  let d2 := if d1.announceDue n p ≤ d1.clock.mt then d1.announceSchedule n p else d1
  if (if d2.drawsDelay n then d2.clock.ticks = (d2.ptpPort n p).delayDue else d2.pdelayDue n p ≤ d2.clock.mt) then d2.delaySchedule n p else d2

/-- R368: the messages that instances schedule at this very tick, which come ahead of its admissions. -/
def Device.dueMessages (d : Device) : Device :=
  if !d.clock.mtRun then d else
  (List.range 8).foldl (fun d n =>
    if d.instOn n then ((List.range 44).filter (fun p => d.inMask n p)).foldl (fun d p => d.portMessages n p) d else d) d

/-- R398: the transmit stamp of a Delay_Req or Pdelay_Req is back; Delay_Req's is read on Dn for a free domain, else on
MT + DOM_OFFSET. -/
def Device.delayStamped (d : Device) (n kind code : Nat) (word : Bytes) (t16 : Int) (steps : Nat) : Device :=
  let p := code / 65536
  let v : Int := if kind = 2 then t16
    else if d.freeFollows n then d.scaleAt16 (3 + n) (t16 * fracU) else t16 + d.num (K.domOffset n) * 65536
  d.setPtpPort n p (fun u => match u.delayOut with
    | some (s, none) => if s = code % 65536 then
        { u with delayOut := if wordInvalid word then none else some (s, some (v, steps)) } else u
    | _ => u)

/-! ## Measuring (R402 to R406, R410) -/

/-- The oldest message of some types that waits at IP0: frame, instance and message, and the part without it. -/
def Device.takePtp (d : Device) (kinds : List Nat) : Option (RxFrame × Nat × PtpMsg × Device) :=
  let mine := fun (q : RxFrame) => match d.recognise q.port q.body with
    | .ptp _ k => kinds.contains k
    | _ => false
  match d.parl.rx.find? mine with
  | none => none
  | some q =>
    match ptpOf q.body with
    | none => none
    | some (tr, m) =>
      match d.instOf q.port tr m with
      | none => none
      | some n => some (q, n, m, d.setParl (fun a => { a with rx := a.rx.eraseP mine }))

/-- A ten-byte PTP timestamp in 2^-16 ns. -/
def ptpTime (b : Bytes) : Int := (fieldNat b 0 6 * sec16 + fieldNat b 6 4 * 65536 : Nat)

/-- R402: a path delay sample; a negative one or one above 1 ms is discarded, the others are averaged. -/
def Device.addDelay (d : Device) (n : Nat) (v : Int) : Device :=
  if v < 0 || 1000000 * 65536 < v then d else
  let k := d.nat (K.instDelayFilter n)
  let ss := (v :: (d.inst n).samples).take k
  (d.setInst n (fun i => { i with samples := ss, delaySteps := d.nat K.mtStepCount })).setNum (K.instMeanDelay n)
    (ss.foldl (· + ·) 0 / ss.length)

/-- R403: delayAsymmetry of port p in 2^-16 ns. -/
def Device.asymmetry (d : Device) (n p : Nat) : Int := toSigned 4 (fieldNat (d.oct (K.instAsym n)) (4 * p) 4) * 65536 / 1000

/-- R401: the ratio that a Sync of PTn relays: the ratio received upstream times the neighbour's (both less 1, 2^-48). -/
def Device.relayRatio (d : Device) (n : Nat) : Int :=
  let a := (d.inst n).upRatio
  let b := d.num (K.instRateRatio n)
  a + b + a * b / 2 ^ 48

/-- R401: a Sync received on the receive port is relayed to every asCapable TIME_TRANSMITTER port. -/
def Device.relaySync (d : Device) (n : Nat) (q : RxFrame) (word origin : Bytes) (corr : Int) (rx16 : Int) : Device :=
  if d.num (K.instRelay n) ≠ 1 || q.port ≠ d.nat (K.instRxPort n) || !d.originating then d else
  let d0 := if (d.inst n).rxTimedOut then (d.setInst n (fun i => { i with rxTimedOut := false })).report 0x0A14 [n, 0] else d
  let r := d0.relayRatio n
  let mean := d0.num (K.instMeanDelay n)
  (List.range 44).foldl (fun d p =>
    if !d.inMask n p || d.ptpState n p ≠ 6 || !d.asCapable n p then d else
    let fill := fun (s : Nat) =>
      let t16 := ((d.clock.mt : Int) + psU ((s : Int) + d.delayP p - d.rootPs)) / fracU
      let c := corr + mean + mean * r / 2 ^ 48 + r * (t16 - rx16) / 2 ^ 48
      d.syncFrame n p 2 c origin word (d.rateTlv n r)
    let len := (fill 0).body.length
    (d.ptpSend p len fill).setPtpPort n p (fun u => { u with syncSeq := u.syncSeq + 1 })) d0

/-- R410, R411: an offset on Dn drives the free domain: its state, its step at the next Sync, or its servo. -/
def Device.driveFree (d : Device) (n : Nat) (off : Int) : Device :=
  let st := d.nat (K.domState n)
  let d1 := if st = 3 || st = 2 then d else d.setDomState n 2
  let ab := off.natAbs
  let big := d1.nat (K.instStepThresh n) * 65536 < ab
  let run := if ab ≤ d1.nat (K.instLockThresh n) * 65536 then (d1.inst n).streak + 1 else 0
  let bw := d1.nat (K.instServoBw n)
  let integ := Config.servoIntegral bw off (d1.inst n).integ
  let lim : Int := tickU * 2 ^ 48 / 2000
  let d2 := if big then d1.setInst n (fun i => { i with stepDue := some (-off), streak := 0 })
    else
      let rate := clamp (-lim) lim (integ + Config.servoProportional bw off)
      let e := d1.setInst n (fun i => { i with integ := integ, streak := run })
      { e with clock := { e.clock with servo := updAt e.clock.servo n (fun _ => rate) } }
  if !big && 8 ≤ run && d2.nat (K.domState n) = 2 then d2.setDomState n 3 else d2.refreshBound n

/-- R403 to R405, R410: a complete Sync gives its offset: `t1c` is t1 plus the correction, in 2^-16 ns. The candidate's phase is that at t2, with
MT, its moves and the sum of D then. -/
def Device.offsetOf (d : Device) (n p : Nat) (s : SyncIn) (t1c : Int) : Device :=
  let free := d.freeFollows n
  let d1 := d.setInst n (fun i => { i with lastSync := some (if free then s.dom16 else s.mt16, t1c) })
  if !s.good || (d1.inst n).samples = [] then d1 else
  let path := d1.num (K.instMeanDelay n) + d1.asymmetry n p
  let d2 := (d1.setNum (K.instOffset n) (s.dom16 - t1c - path)).movePort n p 9
  let m : PhaseIn := { cand := 5 + n, raw := -(s.mt16 - t1c - path), tick := s.tick, mt16 := s.rx16.toNat, moved := s.moved, dco := s.dco }
  let d3 := if n < 4 then d2.offerPhase m else d2
  if free then d3.driveFree n (s.dom16 - t1c - path) else d3

/-- PTP_SYNC_RX (R401, R403 to R405, R410): the oldest Sync that waits is used; a step that is due happens first. -/
def Device.syncRx (d00 : Device) : Device :=
  match d00.takePtp [0] with
  | none => d00
  | some (q, n, m, d0) =>
    let p := q.port
    let st := d0.ptpState n p
    let role := d0.nat (K.instRole n)
    let foreign := role = 2 && (d0.inst n).parent.all (fun a => a.sender ≠ m.source)
    if !(st = 8 || st = 9) || (d0.gptp n && !d0.asCapable n p) || foreign || role = 0 then d0 else
    let d := match (d0.inst n).stepDue with
      | some a => (d0.domStep16 n a).setInst n (fun i => { i with stepDue := none })
      | none => d0
    let mt16 := q.rx16 + d.num (K.domOffset n) * 65536
    let dom16 : Int := d.scaleAt16 (3 + n) (q.rx16 * fracU)
    let good := !bit (fieldNat q.stamp 7 1) 4 && ((d.inst n).samples = [] || (d.inst n).delaySteps = d.nat K.mtStepCount)
    let d1 := if good then
        (d.setPtpPort n p (fun u => { u with syncSince := d.clock.ticks, syncLog := m.logInt, syncRun := false })).receiverBack n p else d
    let ratio := if m.body.length < 24 then 0 else toSigned 4 (fieldNat m.body 20 4) * 128
    let w : SyncIn :=
      { sender := m.source, seq := m.seq, corr := m.corr, word := q.stamp, rx16 := q.rx16, mt16 := mt16, dom16 := dom16, good := good
        tick := q.tick, moved := q.moved, dco := q.dco }
    if bit m.flags 9 then d1.setInst n (fun i => { i with sync := some w })
    else
      let d2 := d1.setInst n (fun i => { i with sync := none, upRatio := ratio })
      (d2.offsetOf n p w (ptpTime m.body + m.corr)).relaySync n q q.stamp (padTo 10 m.body) m.corr q.rx16

/-- PTP_FOLLOW_UP_RX (R403): a Follow_Up completes the two-step Sync of its sender and sequence number. -/
def Device.followUpRx (d0 : Device) : Device :=
  match d0.takePtp [8] with
  | none => d0
  | some (q, n, m, d) =>
    match (d.inst n).sync with
    | none => d
    | some s =>
      if s.sender ≠ m.source || s.seq ≠ m.seq || !(d.ptpState n q.port = 8 || d.ptpState n q.port = 9) then d else
      let ratio := if m.body.length < 24 then 0 else toSigned 4 (fieldNat m.body 20 4) * 128
      let c := s.corr + m.corr
      let d1 := d.setInst n (fun i => { i with sync := none, upRatio := ratio })
      (d1.offsetOf n q.port s (ptpTime m.body + c)).relaySync n q s.word (padTo 10 m.body) c s.rx16

/-- PTP_DELAY_RESP_RX (R402): a Delay_Resp to this port's outstanding Delay_Req completes an end-to-end sample. -/
def Device.delayRespRx (d0 : Device) : Device :=
  match d0.takePtp [9] with
  | none => d0
  | some (q, n, m, d) =>
    let p := q.port
    match (d.ptpPort n p).delayOut, (d.inst n).lastSync with
    | some (s, some (t3, steps)), some (t2, t1c) =>
      if s ≠ m.seq || field m.body 10 10 ≠ portIdentity n p || d.peerDelay n then d else
      let d1 := d.setPtpPort n p (fun u => { u with delayOut := none })
      if steps ≠ d.nat K.mtStepCount then d1
      else d1.addDelay n ((t2 - t1c + (ptpTime m.body - t3 - m.corr)) / 2)
    | _, _ => d

/-- R402: does port p measure the path to PTn's time transmitter: UNCALIBRATED or TIME_RECEIVER. -/
def Device.measuresPath (d : Device) (n p : Nat) : Bool := d.ptpState n p = 8 || d.ptpState n p = 9

/-- R396, R402: a Pdelay exchange has completed with a turnaround: asCapable is set, and a port that receives time takes a sample. -/
def Device.pdelayDone (d : Device) (n p : Nat) (t1 t4 turn : Int) (steps : Nat) : Device :=
  let d1 := d.setPtpPort n p (fun u => { u with delayOut := none, pdelayTwo := none, lost := 0 })
  let d2 := if d.gptp n then d1.setNum (K.instAscapable n) (setBit (d1.nat (K.instAscapable n)) p true : Nat) else d1
  let r := if d.gptp n then d.num (K.instRateRatio n) else 0
  if steps ≠ d.nat K.mtStepCount || !d.measuresPath n p then d2 else d2.addDelay n ((t4 - t1 - (turn + r * turn / 2 ^ 48)) / 2)

/-- PTP_PDELAY_RESP_RX (R396, R402): a one-step Pdelay_Resp, or the Pdelay_Resp_Follow_Up of a two-step one, completes a sample;
a two-step Pdelay_Resp waits for its Follow_Up. -/
def Device.pdelayRespRx (d0 : Device) : Device :=
  match d0.takePtp [3, 10] with
  | none => d0
  | some (q, n, m, d) =>
    let p := q.port
    let u := d.ptpPort n p
    if field m.body 10 10 ≠ portIdentity n p then d else
    match u.delayOut with
    | some (s, some (t1, steps)) =>
      if s ≠ m.seq then d
      else if m.kind = 3 then
        if bit m.flags 9 then d.setPtpPort n p (fun u => { u with pdelayTwo := some (s, ptpTime m.body - m.corr, q.rx16) })
        else d.pdelayDone n p t1 q.rx16 m.corr steps
      else match u.pdelayTwo with
      | some (_, t2, t4) =>
        let t3 := ptpTime m.body + m.corr
        let d1 := match u.ratioRef with
          | some (a, b) => if t4 ≤ b || !d.measuresPath n p then d else
            d.setNum (K.instRateRatio n) (toSigned 8 (ofSigned 8 (((t3 - a) - (t4 - b)) * 2 ^ 48 / (t4 - b))))
          | none => d
        (d1.pdelayDone n p t1 t4 (t3 - t2) steps).setPtpPort n p (fun u => { u with ratioRef := some (t3, t4) })
      | none => d
    | _ => d

/-- PTP_ANNOUNCE_RX (R400, R406): the oldest Announce that waits enters the port's data; a parent's updates the parent and QL. -/
def Device.announceRx (d0 : Device) : Device :=
  match d0.takePtp [11] with
  | none => d0
  | some (q, n, m, d) =>
    let p := q.port
    let a := announceOf m
    let st := d.ptpState n p
    if 255 ≤ a.steps || st < 4 then d else
    let seen := match (d.ptpPort n p).foreign.find? (fun e => e.1.sender = a.sender) with
      | some e => e.2.2 + 1
      | none => 1
    let d1 := d.setPtpPort n p (fun u => { u with
      foreign := (a, d.clock.ticks, seen) :: u.foreign.filter (fun e => e.1.sender ≠ a.sender)
      annSince := d.clock.ticks, annLog := m.logInt, annRun := false })
    let role := d.nat (K.instRole n)
    let mine := (role = 1 && p = d.nat (K.instRxPort n)) || (role = 2 && (d.inst n).parent.any (fun x => x.sender = a.sender))
    if !mine then d1 else
    let d2 := (d1.setParent n (some a)).receiverBack n p
    let d3 := if n < 4 && st = 9 then d2.advertiseQl (5 + n) (ptcQl a.cls a.acc) else d2
    if d3.freeFollows n && d3.nat (K.domState n) = 3 then d3.refreshBound n else d3

/-- PTP_SIGNALING_RX (R390): in profile 3 an interval request within the ranges of Table 14-8 is honoured; −128 keeps an interval
and 127 returns it to its setting. -/
def Device.signalingRx (d0 : Device) : Device :=
  match d0.takePtp [12] with
  | none => d0
  | some (q, n, m, d) =>
    match m.intervalRequest with
    | none => d
    | some b =>
    let take := fun (i : Nat) (lo hi : Int) (old : Option Int) =>
      let v := toSigned 1 (fieldNat b i 1)
      if v = 127 then none else if lo ≤ v && v ≤ hi then some v else old
    d.setPtpPort n q.port (fun u => { u with
      asked := (take 6 (-7) 5 u.asked.1, take 7 (-7) 4 u.asked.2.1, take 8 (-3) 4 u.asked.2.2) })

/-! ## BMCA (R393, R395, R406) -/

/-- IEEE 1588: the order of a data set: grandmaster data first, then steps removed and sender; lower is better. -/
def bmcaKey (a : Announce) : List Nat :=
  [a.priority1, a.cls, a.acc, a.variance, a.priority2, beNat a.gm]

/-- Is a key below another, first difference decides. -/
def keyLess : List Nat → List Nat → Bool
  | a :: s, b :: t => if a < b then true else if b < a then false else keyLess s t
  | _, _ => false

/-- IEEE 1588: is data set a better than b: by the grandmaster, or by topology for the same grandmaster. -/
def better (a b : Announce) : Bool :=
  if a.gm = b.gm then keyLess [a.steps, beNat a.sender] [b.steps, beNat b.sender] else keyLess (bmcaKey a) (bmcaKey b)

/-- IEEE 802.1AS: is priority vector a better than b: the grandmaster's data first, then steps removed and sender. -/
def vectorBetter (a b : Announce) : Bool := keyLess (bmcaKey a ++ [a.steps, beNat a.sender]) (bmcaKey b ++ [b.steps, beNat b.sender])

/-- Table 14-1: is data set a better than b in the BMCA of PTn's profile. -/
def Device.better (d : Device) (n : Nat) (a b : Announce) : Bool := if d.gptp n then vectorBetter a b else Sys2Proof.Machine.better a b

/-- IEEE 1588: is the data set `e` of the same grandmaster better by topology than x, received by the port of identity `own`: as near, or one step nearer
where x's sender is below the receiver. -/
def byTopology (e x : Announce) (own : Nat) : Bool := e.gm = x.gm && (e.steps = x.steps || (e.steps + 1 = x.steps && beNat x.sender < own))

/-- Erbest of a port: the best of its qualified Announces (two from one sender in the default profiles), with its port; IEEE 802.1AS takes none from
a neighbour that is not asCapable. -/
def Device.erbest (d : Device) (n p : Nat) : Option (Announce × Nat) :=
  let u := d.ptpPort n p
  if d.gptp n && !d.asCapable n p then none else
  let ok := u.foreign.filter (fun e => (d.gptp n || 2 ≤ e.2.2 || (d.inst n).parent.any (fun x => x.sender = e.1.sender))
    && d.clock.ticks ≤ e.2.1 + 4 * sTicks * 2 ^ ((if -7 ≤ e.1.logInt && e.1.logInt ≤ 4 then e.1.logInt else d.num (K.instLogAnnounce n)) + 7).toNat / 128)
  ok.foldl (fun b e => match b with
    | none => some (e.1, p)
    | some x => if d.better n e.1 x.1 then some (e.1, p) else b) none

/-- Ebest: the best of the ports. -/
def Device.ebest (d : Device) (n : Nat) : Option (Announce × Nat) :=
  ((List.range 44).filter (fun p => d.inMask n p && 4 ≤ d.ptpState n p)).foldl (fun b p => match d.erbest n p, b with
    | some x, some y => if d.better n x.1 y.1 then some x else b
    | some x, none => some x
    | none, _ => b) none

/-- Table 14-3: port p is to transmit: it waits out its qualification of k Announce intervals. -/
def Device.preTransmit (d : Device) (n p k : Nat) : Device :=
  if d.ptpState n p = 6 || d.ptpState n p = 5 then d else
  (d.movePort n p 5).setPtpPort n p (fun u => { u with
    qualDue := some (d.clock.ticks + k * sTicks * 2 ^ (d.num (K.instLogAnnounce n) + 7).toNat / 128) })

/-- The BMCA's choice between PASSIVE and transmitting on a port that is not the receiver, whose best Announce is `er`, with the parent's data set
`e`. IEEE 1588: PASSIVE where e is better by topology. IEEE 802.1AS: where the port's vector is no worse than the one that would be sent on it. -/
def Device.passiveFor (d : Device) (n p : Nat) (e : Announce) (er : Option Announce) : Bool :=
  let own := portIdentity n p
  er.any (fun x => if d.gptp n then !vectorBetter { e with steps := e.steps + 1, sender := own } x else byTopology e x (beNat own))

/-- BMCA_DECISION (R390, R393, R395, R406): the state decision of the profile's BMCA over the ports of a role 2 instance. In IEEE 1588 an instance of
clockClass below 128 never receives. A new parent is a jump before its port leaves TIME_RECEIVER. A port that starts to receive has no path delay
yet: the samples held are another link's (DEDUCED). -/
def Device.bmca (d0 : Device) (n : Nat) : Device :=
  if 8 ≤ n || !d0.instOn n || d0.nat (K.instRole n) ≠ 2 || !d0.originating || fieldNat (d0.oct K.studyCoreState) 2 1 ≠ 0 then d0 else
  let own := d0.ownData n
  let eb := d0.ebest n
  let ports := (List.range 44).filter (fun p => d0.inMask n p && 4 ≤ d0.ptpState n p)
  let top := own.cls < 128 && !d0.gptp n
  let follow := if top then none else eb.filter (fun e => d0.better n e.1 own)
  let first := match follow with
    | some e => d0.setParent n (some e.1)
    | none => d0
  let d1 := ports.foldl (fun d p =>
    let er := d0.erbest n p
    if er.isNone && d.ptpState n p = 4 && !(d.ptpPort n p).annRun then d
    else if top then
      (if er.all (fun e => d0.better n own e.1) then d.preTransmit n p 0 else d.movePort n p 7)
    else match follow with
      | none => d.preTransmit n p 0
      | some e =>
        if e.2 = p then
          (if (d0.inst n).parent.map (·.sender) = some e.1.sender && (d.ptpState n p = 8 || d.ptpState n p = 9) then d
           else (if d.measuresPath n p then d else d.setInst n (fun i => { i with samples := [] })).movePort n p 8)
        else if d0.passiveFor n p e.1 (er.map (·.1)) then d.movePort n p 7
        else d.preTransmit n p (e.1.steps + 2)) first
  if follow.isNone && (d1.inst n).parent.isSome then d1.setParent n none else d1

/-- QUALIFICATION_TIMEOUT (R395): the qualification time of a PRE_TIME_TRANSMITTER port ends. -/
def Device.qualified (d : Device) (n p : Nat) : Device :=
  match (d.ptpPort n p).qualDue with
  | some t => if 8 ≤ n || 44 ≤ p || d.ptpState n p ≠ 5 then d else (d.runTo t).movePort n p 6
  | none => d

/-! ## Timeouts (R413) -/

/-- R413: 2^L s in ticks, with a setting in place of an interval that is 0x7F or outside −7 to 4. -/
def intervalTicks (L own : Int) : Nat := sTicks * 2 ^ ((if -7 ≤ L && L ≤ 4 then L else own) + 7).toNat / 128

/-- Table 14-6: what a receipt timeout does to its port; while Study core 2 is halted or reloading its role holds (R17), but the candidate is inactive
and a free domain in T4 all the same. -/
def Device.receiptLost (d : Device) (n p : Nat) : Device :=
  if d.nat (K.instRole n) = 2 then
    let d1 := d.setPtpPort n p (fun u => { u with foreign := [], annSince := d.clock.ticks })
    let runs := fieldNat (d.oct K.studyCoreState) 2 1 = 0
    let d2 := if runs && (d.ptpState n p = 8 || d.ptpState n p = 9) then (d1.movePort n p 4).setParent n none
      else if d.ptpState n p = 9 then d1.receiverDown n else d1
    (if d.hasReceiver n && d.ptpState n p ≠ 9 then d2 else d2.freeLost n).bmca n
  else
    let d1 := (d.movePort n p 8).freeLost n
    if d1.num (K.instRelay n) = 1 && !(d1.inst n).rxTimedOut then
      (d1.setInst n (fun i => { i with rxTimedOut := true })).report 0x0A14 [n, 1] else d1

/-- ANNOUNCE_RECEIPT_TIMEOUT (R413). -/
def Device.announceTimeout (d0 : Device) (n p : Nat) : Device :=
  let u := d0.ptpPort n p
  let st := d0.ptpState n p
  if 8 ≤ n || 44 ≤ p || !d0.instOn n || d0.profile n = 3 || u.annRun || !(st = 4 || st = 8 || st = 9) then d0 else
  let d := d0.runTo (u.annSince + d0.nat (K.instAnnTimeout n) * intervalTicks u.annLog (d0.num (K.instLogAnnounce n)))
  let d1 := ((d.setPtpPort n p (fun u => { u with annRun := true })).bump (K.instAnnTimeouts n)).report 0x0A12 [n, p, 1]
  d1.receiptLost n p

/-- SYNC_RECEIPT_TIMEOUT (R413). -/
def Device.syncTimeout (d0 : Device) (n p : Nat) : Device :=
  let u := d0.ptpPort n p
  if 8 ≤ n || 44 ≤ p || !d0.instOn n || d0.ptpState n p ≠ 9 || u.syncRun then d0 else
  let d := d0.runTo (u.syncSince + d0.nat (K.instSyncTimeout n) * intervalTicks u.syncLog (d0.num (K.instLogSync n)))
  let d1 := d.setPtpPort n p (fun u => { u with syncRun := true })
  ((d1.bump (K.instSyncTimeouts n)).report 0x0A12 [n, p, 2]).receiptLost n p

/-- PDELAY_LOST_RESPONSES (R396, R413): INST_LOST_RESP Pdelay_Req in a row went unanswered. -/
def Device.lostResponses (d : Device) (n p : Nat) : Device :=
  if 8 ≤ n || 44 ≤ p || !d.peerDelay n || (d.ptpPort n p).lost < d.nat (K.instLostResp n) then d else
  let d1 := d.setPtpPort n p (fun u => { u with lost := 0 })
  (d1.setNum (K.instAscapable n) (setBit (d1.nat (K.instAscapable n)) p false : Nat)).report 0x0A12 [n, p, 3]

/-! ## Switch of group 0x0D (R389, R408, R409, R416, R417) and wake (R415) -/

/-- R408, R411: Dn has come to follow its instance, or to follow MT again. Following begins in T0 or T1 from the state that DOM_STATE showed, MT's; without
it there is no servo, and INST_FREE_BOUND has no value of its own (R412). -/
def Device.followSwitched (d : Device) (n : Nat) (followed : Bool) : Device :=
  if d.freeFollows n then
    (if followed then d else (d.setNum (K.domState n) (d.num K.mtState)).setDomState n (if d.nat K.mtState = 0 then 0 else 1))
  else
    let e : Device := { d with clock := { d.clock with servo := updAt d.clock.servo n (fun _ => 0) } }
    e.refreshBound n

/-- R408, R409, R411, R416: unit n of group 0x0D has switched; `old` reads its live values before, `changed` tells whether its record did. A pull of
DOM_OFFSET is a bound domain's alone (R102). -/
def Device.instSwitched (d : Device) (n : Nat) (old : Nat → Val) (changed : Bool) : Device :=
  let mode := d.num (K.instDomMode n)
  let was := (old (K.instDomMode n)).int
  let d1 := (d.setNum (K.domMode n) mode).followSwitched n (was = 1 && (old (K.instRole n)).int ≠ 0)
  let d2 : Device := if was = mode then d1
    else if mode = 1 then
      { d1 with clock := { d1.clock with servo := updAt d1.clock.servo n (fun _ => 0), domPull := updAt d1.clock.domPull n (fun _ => 0) } }
    else
      let gap := (d.clock.mt : Int) * 2 ^ 48 + d.num (K.domOffset n) * nsU * 2 ^ 48 - d.clock.dom.getD n 0
      let e : Device := { d1 with clock := { d1.clock with servo := updAt d1.clock.servo n (fun _ => 0) } }
      if e.everLocked then { e with clock := { e.clock with domPull := updAt e.clock.domPull n (fun _ => gap / 5 / 2 ^ 48) } }
      else e.domStep16 n (gap / 2 ^ 48 / fracU)
  if !changed then d2 else
  let fresh := fun (u : PtpPort) => { u with foreign := [], delayOut := none, ratioRef := none, asked := (none, none, none) }
  let d3 := d2.setInst n (fun i => { i with
    sync := none, lastSync := none, samples := [], stepDue := none, streak := 0, rxTimedOut := false, parent := none
    ports := i.ports.map fresh })
  let d4 := ((d3.showParent n none).setNum (K.instAscapable n) 0).ptpRestart n
  if n < 4 then d4.refreshEnable (5 + n) else d4

/-- R417: the rules of group 0x0D for instance n over the viewed values; the offending objects. -/
def instPairs (v : Nat → Val) (n : Nat) : List Nat :=
  let nat := fun k => (v k).int.toNat
  let on := fun n => nat (K.instEnable n) = 1
  let major := fun n => if 2 ≤ nat (K.instProfile n) then 1 else 0
  let prof := nat (K.instProfile n)
  let role := nat (K.instRole n)
  let shares := (List.range 8).any (fun m => m ≠ n && on n && on m
    && (Nat.land (nat (K.instPortMask n)) (nat (K.instPortMask m))) ≠ 0 && nat (K.instTransport n) = nat (K.instTransport m)
    && nat (K.instDomainNum n) = nat (K.instDomainNum m) && major n = major m && nat (K.instMinorSdo n) = nat (K.instMinorSdo m))
  breaks shares [K.instEnable n, K.instTransport n, K.instDomainNum n, K.instMinorSdo n, K.instPortMask n]
  ++ breaks (role = 1 && !bit (nat (K.instPortMask n)) (nat (K.instRxPort n))) [K.instRxPort n, K.instPortMask n, K.instRole n]
  ++ breaks (4 ≤ n && role ≠ 0 && nat (K.instDomMode n) = 0) [K.instDomMode n, K.instRole n]
  ++ breaks (2 ≤ prof && nat (K.instTransport n) ≠ 0) [K.instProfile n, K.instTransport n]
  ++ breaks (prof = 3 && role = 2) [K.instProfile n, K.instRole n]
  ++ breaks (nat (K.instRelay n) = 1 && (prof < 2 || role ≠ 1)) [K.instRelay n, K.instProfile n, K.instRole n]
  ++ breaks (nat (K.instStepThresh n) ≤ nat (K.instLockThresh n)) [K.instLockThresh n, K.instStepThresh n]
  ++ breaks (n < 4 && on n && role ≠ 0 && (v (K.domRate n)).int ≠ 0) [K.domRate n, K.instEnable n, K.instRole n]

/-- R415: on wake every port of every enabled instance restarts. -/
def Device.ptpWake (d : Device) : Device := (List.range 8).foldl (fun d n => if d.instOn n then d.ptpRestart n else d) d

/-! ## Meanings -/

/-- SYNC_SCHEDULE. -/
def execSyncSchedule (inst port : Nat) (s : State) : Host.Outcome State Fault Refusal := .next (s.on (·.syncSchedule inst port))
/-- ANNOUNCE_SCHEDULE. -/
def execAnnounceSchedule (inst port : Nat) (s : State) : Host.Outcome State Fault Refusal := .next (s.on (·.announceSchedule inst port))
/-- DELAY_REQ_SCHEDULE. -/
def execDelayReqSchedule (inst port : Nat) (s : State) : Host.Outcome State Fault Refusal := .next (s.on (·.delaySchedule inst port))
/-- PTP_SYNC_RX. -/
def execPtpSyncRx (_ : Unit) (s : State) : Host.Outcome State Fault Refusal := .next (s.on (·.syncRx))
/-- PTP_FOLLOW_UP_RX. -/
def execPtpFollowUpRx (_ : Unit) (s : State) : Host.Outcome State Fault Refusal := .next (s.on (·.followUpRx))
/-- PTP_ANNOUNCE_RX. -/
def execPtpAnnounceRx (s : State) : Host.Outcome State Fault Refusal := .next (s.on (·.announceRx))
/-- PTP_DELAY_RESP_RX. -/
def execPtpDelayRespRx (s : State) : Host.Outcome State Fault Refusal := .next (s.on (·.delayRespRx))
/-- PTP_PDELAY_RESP_RX. -/
def execPtpPdelayRespRx (s : State) : Host.Outcome State Fault Refusal := .next (s.on (·.pdelayRespRx))
/-- PTP_SIGNALING_RX. -/
def execPtpSignalingRx (s : State) : Host.Outcome State Fault Refusal := .next (s.on (·.signalingRx))
/-- BMCA_DECISION. -/
def execBmcaDecision (inst : Nat) (s : State) : Host.Outcome State Fault Refusal := .next (s.on (·.bmca inst))
/-- QUALIFICATION_TIMEOUT. -/
def execQualificationTimeout (inst port : Nat) (s : State) : Host.Outcome State Fault Refusal := .next (s.on (·.qualified inst port))
/-- ANNOUNCE_RECEIPT_TIMEOUT. -/
def execAnnounceReceiptTimeout (inst port : Nat) (s : State) : Host.Outcome State Fault Refusal :=
  .next (s.on (·.announceTimeout inst port))
/-- SYNC_RECEIPT_TIMEOUT. -/
def execSyncReceiptTimeout (inst port : Nat) (s : State) : Host.Outcome State Fault Refusal := .next (s.on (·.syncTimeout inst port))
/-- PDELAY_LOST_RESPONSES. -/
def execPdelayLostResponses (inst port : Nat) (s : State) : Host.Outcome State Fault Refusal := .next (s.on (·.lostResponses inst port))
/-- FREE_BOUND_UPDATE. -/
def execFreeBoundUpdate (inst : Nat) (s : State) : Host.Outcome State Fault Refusal := .next (s.on (·.freeBoundUpdate inst))

end Sys2Proof.Machine
end

