-- ==== Sys2Proof/Machine/Skylight.lean ====
section
/-! DEFINITION. Skylight (07_satellite_baseband.md): antenna, acquisition sizing, aiding, channels, latches, time solutions, trackers. -/

namespace Sys2Proof.Machine

/-- The part with Skylight's own state changed. -/
def Device.setSky (d : Device) (f : Sky → Sky) : Device := { d with sky := f d.sky }

/-- CH_STATE of channel c: 0 FREE, 1 PULL_IN, 2 TRACK, 3 COAST. -/
def Device.skyCh (d : Device) (c : Nat) : Nat := d.nat (K.chState c)

/-- The part with channel c's own state changed. -/
def Device.setSkyCh (d : Device) (c : Nat) (f : SkyChannel → SkyChannel) : Device :=
  d.setSky (fun s => { s with chans := updAt s.chans c f })

/-- SKY_CH_IN_USE (R202): channels not FREE. -/
def Device.skyInUse (d : Device) : Nat := ((List.range 128).filter (fun c => d.skyCh c ≠ 0)).length

/-! ## Signals (Table 7-2) -/

/-- The constellation of a signal code (R190). -/
def sigConst (code : Nat) : Nat := code / 16

/-- Is a signal in the L5 band. -/
def sigL5 (code : Nat) : Bool := code = 0x02 || code = 0x12 || code = 0x22 || code = 0x42

/-- Table 7-2: is a signal code known, with this SV number. -/
def sigKnown (code sv : Nat) : Bool :=
  ((code = 0x01 || code = 0x02) && 1 ≤ sv && sv ≤ 32) || ((code = 0x11 || code = 0x12) && 1 ≤ sv && sv ≤ 36)
  || ((code = 0x21 || code = 0x22) && 1 ≤ sv && sv ≤ 63) || (code = 0x31 && 1 ≤ sv && sv ≤ 24)
  || ((code = 0x41 || code = 0x42) && 193 ≤ sv && sv ≤ 202)

/-- R221: is a signal enabled by constellation and band. -/
def sigEnabled (v : Nat → Int) (code : Nat) : Bool :=
  bit (v K.skyConstEnable).toNat (sigConst code) && bit (v K.skyBandEnable).toNat (if sigL5 code then 1 else 0)

/-- Table 7-2: the carrier in Hz, the chip rate in chip/s, and the primary code's half-chips of a signal; `k` is a GLONASS frequency channel. -/
def sigData (code : Nat) (k : Int) : Nat × Nat × Nat :=
  if code = 0x31 then ((1602000000 + k * 562500).toNat, 511000, 1022)
  else if sigL5 code then (1176450000, 10230000, 20460)
  else (1575420000, 1023000, if code = 0x11 then 8184 else if code = 0x21 then 20460 else 2046)

/-- Table 7-2: does a signal track a BOC modulation. -/
def sigBoc (code : Nat) : Bool := code = 0x11 || code = 0x21

/-- Table 7-2: a signal's primary code period in ms. -/
def sigPeriod (code : Nat) : Nat := if code = 0x11 then 4 else if code = 0x21 then 10 else 1

/-! ## Search sizing (R192, R193) -/

/-- SKY_TIME_UNC (Table 7-3): U_t in ns, all ones when unknown. -/
def Device.skyTimeUnc (d : Device) : Nat :=
  let t := d.nat K.mtState
  if t = 3 then d.nat K.thermLockThresh else if t = 4 || t = 5 then d.hoBound
  else if t = 2 then d.nat K.thermStepThresh else if t = 1 then d.nat K.cellarSeedUnc else 0xFFFFFFFF

/-- Table 7-6: the aid's INSTANT in 2^-16 ns, which steps of MT move (R198). -/
def Device.aidInstant (d : Device) : Int := time96Of (field (d.oct K.skyAidPos) 0 12)

/-- R199: the aid's age at this tick in 2^-16 ns. -/
def Device.aidAge (d : Device) : Int := d.mt16 - d.aidInstant

/-- R199: the aid's propagated uncertainty in mm; fixed in mode 2. -/
def Device.aidUnc (d : Device) : Nat :=
  let b := d.oct K.skyAidPos
  if d.nat K.skyAidMode = 2 then fieldNat b 48 4 else fieldNat b 48 4 + fieldNat b 52 4 * d.aidAge.natAbs / sec16

/-- R199: one axis of the propagated aid in mm. -/
def Device.aidAxis (d : Device) (i : Nat) : Int :=
  let b := d.oct K.skyAidPos
  let p := toSigned 8 (fieldNat b (12 + 8 * i) 8)
  if d.nat K.skyAidMode = 2 then p else p + toSigned 4 (fieldNat b (36 + 4 * i) 4) * d.aidAge / sec16

/-- SKY_AID_STATUS (R199, R200): 0 none, 1 accepted, 2 expired, 3 rejected. -/
def Device.aidStatus (d : Device) : Nat :=
  if !d.sky.aidHeld || d.nat K.skyAidMode = 0 then 0 else if d.sky.aidRejected then 3
  else if d.nat K.skyAidMode = 1 && (d.nat K.skyAidMaxAge * (sec16 / 1000) : Nat) < d.aidAge then 2 else 1

/-- R199: the propagated position of the aid. -/
def Device.aidPoint (d : Device) : Int × Int × Int := (d.aidAxis 0, d.aidAxis 1, d.aidAxis 2)

/-- R199: does the aid support a kind 3 solution. -/
def Device.aidUsable (d : Device) : Bool := d.aidStatus = 1 && d.aidUnc ≤ d.nat K.skyAidUncMax

/-- Table 7-3: U_p in mm, if known. The last own position starts at no uncertainty of its own, and only grows (DESIGN CHOICE, log entry 120). -/
def Device.skyPosUnc (d : Device) : Option Nat :=
  if d.aidStatus = 1 then some d.aidUnc
  else match d.sky.ownPos with
    | some _ => some (50000 * (d.clock.ticks - d.sky.ownPosAt) / sTicks)
    | none => none

/-- R196: do the loaded pages give a satellite a valid ephemeris. -/
def Device.ephLoaded (d : Device) (con sv : Nat) : Bool :=
  Config.pagesEphemeris con sv (d.sky.pages.filter (fun p => sigConst (fieldNat p.2 0 1) = con && fieldNat p.2 1 1 = sv)) (d.clock.mt / secU)

/-- The pages loaded for a constellation. -/
def Device.pagesOf (d : Device) (con : Nat) : List (Nat × Bytes) := d.sky.pages.filter (fun p => sigConst (fieldNat p.2 0 1) = con)

/-- R196: the orbit data known of a satellite, 0 none, 1 almanac, 2 ephemeris: received from the air, or loaded. -/
def Device.orbitKnown (d : Device) (con sv air : Nat) : Nat :=
  if d.ephLoaded con sv then 2 else max air (if Config.pagesAlmanac con sv (d.pagesOf con) (d.clock.mt / secU) then 1 else 0)

/-- R192, R193: code cells and 500 Hz Doppler bins of a search; `orbit` 0 neither, 1 almanac, 2 ephemeris, `k` a GLONASS frequency channel. -/
def Device.searchSize (d : Device) (code orbit : Nat) (k : Int) : Nat × Nat :=
  let (fc, chip, full) := sigData code k
  let cells := match d.skyPosUnc with
    | some up =>
      let halfPs := d.skyTimeUnc * 1000 + up * 1000000000 / 299792458
      let n := ceilDiv (2 * halfPs * 2 * chip) 1000000000000
      if d.skyTimeUnc = 0xFFFFFFFF || full ≤ n then full else n
    | none => full
  let dsat := if orbit = 2 then 5000 else if orbit = 1 then 100000 else 5000000
  let good := d.nat K.hoModelState = 2 || d.nat K.hoModelState = 3 || (List.range 9).any (fun n => d.refState n = 5)
  let osc := if good then fc / 10000 else fc / 20
  let vel := if d.aidStatus = 1 && d.nat K.skyAidMode = 1 then fieldNat (d.oct K.skyAidPos) 52 4 else 50000
  (cells, ceilDiv (2 * (dsat + osc + vel * fc / 299792458)) 500000)

/-! ## Antenna and AGC -/

/-- R188: the antenna supply takes a state; a change is recorded. -/
def Device.setAnt (d : Device) (st : Nat) : Device :=
  if d.nat K.skyAntState = st then d
  else (d.report 0x0501 [d.num K.skyAntState, st, d.num K.skyAntCurrent]).setNum K.skyAntState st

/-- Table 7-1: is the antenna supply held OFF: by SKY_ANT_ENABLE, in Deep Off and in reset. -/
def Device.antOff (d : Device) : Bool := d.num K.skyAntEnable = 0 || d.nat K.fbState = 4 || d.power.held ≠ 0

/-- ANT_CURRENT_MEASURE (Table 7-1): a current in 0.1 mA. -/
def Device.antMeasure (d0 : Device) (i : Nat) : Device :=
  let st := d0.nat K.skyAntState
  if d0.antOff || st = 3 then d0 else
  let d := d0.setNum K.skyAntCurrent i
  let open_ := decide (i < 10 * d.nat K.skyAntOpenMa)
  let short := decide (10 * d.nat K.skyAntShortMa < i)
  let now := d.clock.ticks
  let low := if open_ then some (d.sky.antLow.getD now) else none
  let high := if open_ then none else some (d.sky.antHigh.getD now)
  let d1 := d.setSky (fun s => { s with antLow := low, antHigh := high })
  if short then (d1.setAnt 3).setSky (fun s => { s with antRetry := now })
  else if st = 0 then d1.setAnt (if open_ then 2 else 1)
  else if st = 1 && low.any (fun t => t + sTicks / 10 ≤ now) then d1.setAnt 2
  else if st = 2 && high.any (fun t => t + sTicks / 10 ≤ now) then d1.setAnt 1
  else d1

/-- ANT_SHORT_RETRY (Table 7-1): once per second a shorted supply is tried for 1 ms; the current in 0.1 mA. -/
def Device.antRetry (d0 : Device) (i : Nat) : Device :=
  if d0.nat K.skyAntState ≠ 3 || d0.antOff then d0 else
  let d := (d0.runTo (d0.sky.antRetry + sTicks)).setNum K.skyAntCurrent i
  let d1 := d.setSky (fun s => { s with antRetry := d.clock.ticks, antLow := none, antHigh := none })
  if 10 * d.nat K.skyAntShortMa ≤ i then d1 else d1.setAnt (if i < 10 * d.nat K.skyAntOpenMa then 2 else 1)

/-- The median of a list of numbers; of an even count the lower of the middle two (DESIGN CHOICE). -/
def median (xs : List Nat) : Nat := (xs.mergeSort (· ≤ ·)).getD ((xs.length - 1) / 2) 0

/-- AGC_INTERFERENCE (R189): a band's gain in 0.1 dB now, against the median of its gains over the preceding hour. -/
def Device.agc (d : Device) (l5 : Bool) (gain : Nat) : Device :=
  if d.nat K.fbState = 4 || d.power.held ≠ 0 then d else
  let now := d.clock.ticks
  let past := (if l5 then d.sky.agcL5 else d.sky.agcL1).filter (fun e => now ≤ e.1 + 3600 * sTicks)
  let m := median (past.map (·.2))
  let bad := decide (past ≠ [] ∧ gain + 100 < m)
  let old := if l5 then d.sky.agcBad.2 else d.sky.agcBad.1
  let d1 := (d.setNum (if l5 then K.skyAgcL5 else K.skyAgcL1) gain).setSky (fun s =>
    if l5 then { s with agcBad := (s.agcBad.1, bad), agcL5 := (now, gain) :: past }
    else { s with agcBad := (bad, s.agcBad.2), agcL1 := (now, gain) :: past })
  if bad = old then d1 else d1.report 0x050A [if l5 then 5 else 1, (m : Int) - gain, if bad then 1 else 0]

/-! ## Aid and orbit data -/

/-- SKY_TIMESCALE as a constellation: 0 GPS, 1 Galileo, 2 BeiDou, 3 QZSS. -/
def primaryConst (t : Nat) : Nat := if t = 3 then 4 else t

/-- R215: the primary constellation's broadcast TAI - UTC and an announcement are decoded. -/
def Device.skyNav (d : Device) (utc : Int) (leap : Bytes) : Device :=
  let fresh := leap.length = 8 && leap ≠ d.oct K.skyLeapBcast && leap ≠ List.replicate 8 0
  let d1 := d.setNum K.skyUtcBcast utc
  let d2 := if leap.length = 8 then d1.setOct K.skyLeapBcast leap else d1
  (if fresh then d2.report 0x0506 [toSigned 2 (fieldNat leap 6 2), hi32 (fieldNat leap 0 6), lo32 (fieldNat leap 0 6)] else d2).skyUtcCheck

/-- R196: a write of SKY_ORBIT_LOAD of valid length: bad pages are discarded and counted, good ones enter the orbit data, and what those of the primary
constellation carry of UTC is taken as broadcast (R215). -/
def Device.orbitLoad (d : Device) (b : Bytes) : Device :=
  let pages := (List.range (b.length / 128)).map (fun i => field b (128 * i) 128)
  let ok (p : Bytes) : Bool := sigKnown (fieldNat p 0 1) (fieldNat p 1 1) && 1 ≤ fieldNat p 2 2 && fieldNat p 2 2 ≤ 992
    && Config.navPageOk (fieldNat p 0 1) p
  let bad := (pages.filter (fun p => !ok p)).length
  let d0 := d.setSky (fun s => { s with pages := s.pages ++ (pages.filter ok).map (fun p => (d.clock.mt / secU, p)) })
  let con := primaryConst (d.nat K.skyTimescale)
  let d1 := match Config.pagesUtc con (d0.pagesOf con) (d.clock.mt / secU) with
    | some (u, l) => if (pages.filter ok).any (fun p => sigConst (fieldNat p 0 1) = con) then d0.skyNav u l else d0
    | none => d0
  if bad = 0 then d1 else (d1.bumpBy 4 K.skyOrbitRejects bad).report 0x0509 [2, bad]

/-- R196: SKY_ORBIT_LOAD, answered with its status. -/
def Device.writeOrbitLoad (d : Device) (b : Bytes) : Nat × Device :=
  if b.length = 0 || b.length % 128 ≠ 0 || 8192 < b.length then (St.length, d) else (St.ok, d.orbitLoad b)

/-- R198: the squared length of the aid's position, in mm. -/
def aidNorm2 (b : Bytes) : Nat :=
  let p (i : Nat) : Nat := (toSigned 8 (fieldNat b (12 + 8 * i) 8)).natAbs
  p 0 * p 0 + p 1 * p 1 + p 2 * p 2

/-- R197, R198: a write of SKY_AID_POS. -/
def Device.writeAidPos (d : Device) (b : Bytes) : Nat × Device :=
  let n2 := aidNorm2 b
  if time96Bad (field b 0 12) || d.mt16 + sec16 / 100 < time96Of (field b 0 12)
      || n2 < 6300000000 * 6300000000 || 6500000000 * 6500000000 < n2 || fieldNat b 48 4 = 0 || fieldNat b 56 8 ≠ 0
  then (St.range, d)
  else if d.nat K.skyAidMode = 0 then (St.state, d)
  else (St.ok, (d.setOct K.skyAidPos b).setSky (fun s => { s with aidHeld := true, aidRejected := false }))

/-! ## Channels -/

/-- Channel c takes a state of Table 7-7. -/
def Device.setSkyState (d : Device) (c st : Nat) : Device :=
  let d1 := d.setNum (K.chState c) st
  if st = 3 then d1.setSkyCh c (fun x => { x with coastSince := d.clock.ticks })
  else if st = 0 then d1.setNums [(K.chSignal c, 0), (K.chSv c, 0), (K.chCn0 c, 0), (K.chElev c, 0), (K.chAzim c, 0)]
  else d1

/-- R204, R218: the loops pass from one tracker to another; the firmware tracker's 20 ms begin as it takes over. -/
def Device.setTracker (d : Device) (t : Nat) : Device :=
  if d.nat K.skyTracker = t then d else
  ((d.report 0x0509 [1, d.num K.skyTracker, t]).setNum K.skyTracker t).setSky (fun s => { s with updated := d.clock.ticks, stopped := false })

/-- R218: does Study run after a wake, so that firmware takes the loops at the next dump. -/
def Device.studyTracks (d : Device) : Bool := d.nat K.fbState < 2 && !d.power.entry.any (fun e => 5 ≤ e.2) && d.power.waking.isNone

/-- Is a signal of a satellite on some channel, in one of some states. -/
def Device.onChannel (d : Device) (code sv : Nat) (sts : List Nat) : Bool :=
  (List.range 128).any (fun c => sts.contains (d.skyCh c) && d.nat (K.chSignal c) = code && d.nat (K.chSv c) = sv)

/-- The L1-band signal of an L5-band signal's satellite (Table 7-2). -/
def sigL1Of (code : Nat) : Nat := code - 1

/-- ACQ_DWELL (R191 to R193, R202, R203): slot `slot` ends a dwell of SKY_ACQ_NONCOH ms; a detected signal above the mask goes to channel c, which
is FREE, or, when none is FREE, the one of lowest elevation. An L5-band signal of a satellite in TRACK on its L1 band is handed over at once. -/
def Device.acqDwell (d0 : Device) (slot c code sv orbit : Nat) (k : Int) (detected : Bool) (elev : Int) (azim : Nat) : Device :=
  if 64 ≤ slot || !d0.clock.mtRun then d0 else
  let handover := sigL5 code && d0.onChannel (sigL1Of code) sv [2]
  let e := if handover then d0 else d0.runTo (d0.sky.slots.getD slot 0 + d0.nat K.skyAcqNoncoh * msTicks)
  let d := if e.studyTracks && e.skyInUse = 0 then e.setTracker 0 else e
  let orb := d.orbitKnown (sigConst code) sv orbit
  let d1 := if handover then d else d.setSky (fun s => { s with search := d.searchSize code orb k, slots := updAt s.slots slot (fun _ => d.clock.ticks) })
  let free := d.skyCh c = 0
  let full := d.skyInUse = 128
  let lowest := (List.range 128).all (fun k => d.num (K.chElev c) ≤ d.num (K.chElev k)) && d.num (K.chElev c) < elev
  if detected && c < 128 && d.nat K.skyTracker = 0 && sigKnown code sv && sigEnabled d.num code && !d.onChannel code sv [1, 2, 3]
      && d.num K.skyElevMask * 100 ≤ elev && (free || (full && lowest)) then
    (d1.setNums [(K.chState c, 1), (K.chSignal c, code), (K.chSv c, sv), (K.chElev c, elev), (K.chAzim c, azim)]).setSkyCh c
      (fun x => { x with
        assigned := d.clock.ticks, updated := d.clock.ticks, ncoAt := d.clock.ticks, chips := 0, acc := []
        codeRate := Config.ncoStart code 0 % 2 ^ 48, carrRate := Config.ncoStart code 1 % 2 ^ 48 })
  else d1

/-- PULL_IN_TIMEOUT (R203): no carrier lock within 200 ms of assignment. -/
def Device.pullInTimeout (d : Device) (c : Nat) : Device :=
  if d.skyCh c = 1 && c < 128 then (d.runTo ((d.sky.chans.getD c {}).assigned + sTicks / 5)).setSkyState c 0 else d

/-- COAST_TIMEOUT (R203): a channel has been in COAST for 1 s. -/
def Device.coastTimeout (d : Device) (c : Nat) : Device :=
  if d.skyCh c = 3 && c < 128 then (d.runTo ((d.sky.chans.getD c {}).coastSince + sTicks)).setSkyState c 0 else d

/-- R204, R213, R220: the solution is lost for a cause of event 0x0503: SKY activity is absent, the kind is 0. -/
def Device.skyLost (d : Device) (cause : Int) : Device :=
  let d1 := d.report 0x0503 [cause, d.num K.skySolMisses]
  let d2 := if d1.nat K.skySolKind = 0 then d1
    else (d1.report 0x0502 [d1.num K.skySolKind, 0, d1.num K.skySolNsat]).setNum K.skySolKind 0
  (d2.setSky (fun s => { s with active := false, fastFix := true })).setSource 0 false

/-- LOOP_UPDATE_TIMEOUT (R204): 20 ms pass without an NCO update under the firmware tracker; each stop is declared once. -/
def Device.loopTimeout (d : Device) : Device :=
  if d.nat K.skyTracker = 0 && !d.sky.stopped && (List.range 128).any (fun c => d.skyCh c = 2 || d.skyCh c = 3) then
    ((d.runTo (d.sky.updated + sTicks / 50)).setSky (fun s => { s with stopped := true })).skyLost 2
  else d

/-- R201: 24-bit two's complement. -/
def acc24 (v : Int) : Int := toSigned 3 (ofSigned 3 v)

/-- R201: the NCOs' phases at tick `now`: their rates over the CK_PHY samples since; each overflow of the code NCO is a chip. -/
def SkyChannel.advance (x : SkyChannel) (now : Nat) : SkyChannel :=
  let n := (now - x.ncoAt) / 10
  let code := x.codePhase + n * x.codeRate
  { x with codePhase := code % 2 ^ 48, chips := x.chips + code / 2 ^ 48, carrPhase := (x.carrPhase + n * x.carrRate) % 2 ^ 48, ncoAt := x.ncoAt + 10 * n }

/-- R201: the chips of code between a signal's dump boundaries. -/
def dumpChips (code : Nat) : Nat := if code = 0x31 then 511 else if sigL5 code then 10230 else 1023

/-- R201: the tick at which the channel's code reaches its next dump boundary, if its code NCO runs. -/
def SkyChannel.dumpTick (x : SkyChannel) (chips : Nat) : Option Nat :=
  if x.codeRate = 0 then none else some (x.ncoAt + 10 * ceilDiv ((chips - x.chips) * 2 ^ 48 - x.codePhase) x.codeRate)

/-- R202, R218: the bandwidths (PLL, DLL) that the loops use: the objects', or those the hardware tracker was loaded with. -/
def Device.loopBw (d : Device) : Nat × Nat :=
  if d.nat K.skyTracker = 0 then (d.nat K.skyPllBw, d.nat K.skyDllBw) else d.sky.predictedBw

/-- R201, R202: channel c's dump is taken; with `updated` the loops are closed and its NCOs get new rates. -/
def Device.takeDump (d : Device) (c : Nat) (acc : List (Int × Int)) (updated : Bool) : Device :=
  let now := d.clock.ticks
  let acc' := (acc.take 6).map (fun p => (acc24 p.1, acc24 p.2))
  let d1 := d.setSkyCh c (fun x => { x.advance now with acc := acc', chips := (x.advance now).chips % dumpChips (d.nat (K.chSignal c)) })
  if !updated then d1 else
  let vevl := if sigBoc (d.nat (K.chSignal c)) then some (d.nat K.skyVevlSpacing) else none
  let r := fun (x : SkyChannel) => Config.ncoNext acc' (x.codeRate, x.carrRate) d.loopBw (d.nat K.skyElSpacing) vevl
  (d1.setSkyCh c (fun x => { x with updated := now, codeRate := (r x).1 % 2 ^ 48, carrRate := (r x).2 % 2 ^ 48 })).setSky
    (fun s => { s with updated := now, stopped := false })

/-- CORRELATOR_DUMP (R201 to R203, R215, R218): channel c's code reaches its next dump boundary, with its accumulators: its C/N0, whether the carrier is locked, whether the
loops were updated, and navigation data if decoded. Under the hardware tracker in Doze its loops take it; firmware takes them at the first dump
after Study runs. -/
def Device.dump (d0 : Device) (c cn0 : Nat) (acc : List (Int × Int)) (locked updated : Bool) (nav : Option (Int × Bytes)) : Device :=
  if 128 ≤ c || d0.skyCh c = 0 || (d0.nat K.skyTracker = 2 && !d0.studyTracks) || d0.nat K.fbState = 4 then d0 else
  match (d0.sky.chans.getD c {}).dumpTick (dumpChips (d0.nat (K.chSignal c))) with
  | none => d0
  | some t =>
  let e := d0.runTo t
  let d := if e.studyTracks then e.setTracker 0 else e
  let now := d.clock.ticks
  let d2 := (d.takeDump c acc updated).setNum (K.chCn0 c) cn0
  let stale := (d2.sky.chans.getD c {}).updated + sTicks / 200 ≤ now
  let st := d2.skyCh c
  let d3 := if locked && (st = 1 || st = 3) then d2.setSkyState c 2
    else if st = 2 && (!locked || cn0 < 2200 || stale) then d2.setSkyState c 3 else d2
  match nav with
  | some (u, l) =>
    if d3.nat K.skyTracker = 0 && sigConst (d3.nat (K.chSignal c)) = primaryConst (d3.nat K.skyTimescale) then d3.skyNav u l else d3
  | none => d3

/-! ## Latch and solution -/

/-- A measurement with its channel's signal and satellite. -/
def Device.measSat (d : Device) (m : SkyMeas) : Nat × Nat := (d.nat (K.chSignal m.channel), d.nat (K.chSv m.channel))

/-- R218: the prediction that the hardware tracker holds for a measurement's channel, if it is in charge. -/
def Device.loadedFor (d : Device) (m : SkyMeas) : Option SkyPrediction :=
  if d.nat K.skyTracker = 0 then none else d.sky.predicted.find? (fun p => p.chan = m.channel)

/-- R218: the range (2^-14 ns) that a prediction gives at an MT instant. -/
def SkyPrediction.range (p : SkyPrediction) (t16 : Nat) : Int := Config.satRange p.code p.sv p.loaded p.pos t16 + p.clock + p.iono

/-- R194, R220: the predicted range of a measurement's satellite: as loaded under the hardware tracker. -/
def Device.rangeOf (d : Device) (t16 : Nat) (m : SkyMeas) : Int :=
  match d.loadedFor m with
  | some p => p.range t16
  | none => m.range

/-- R208: is a satellite's ephemeris valid, as received from the air or as loaded (R196); a prediction stands for it (R218). -/
def Device.ephValid (d : Device) (m : SkyMeas) : Bool :=
  m.eph || d.ephLoaded (sigConst (d.measSat m).1) (d.measSat m).2 || (d.loadedFor m).isSome

/-- R194: is the transmit time taken from MT and the predicted range. -/
def Device.txByMt (d : Device) (m : SkyMeas) : Bool := d.skyTimeUnc ≤ 10000 && d.ephValid m

/-- R208: does a measurement pass every test of the solution. -/
def Device.measGood (d : Device) (m : SkyMeas) : Bool :=
  let (code, sv) := d.measSat m
  let ex := (List.range 16).any (fun i => fieldNat (d.oct K.skySvExclude) (2 * i) 2 = sigConst code * 256 + sv)
  !ex && d.num K.skyElevMask * 100 ≤ m.elev && d.nat K.skyCn0Mask ≤ m.cn0 && d.ephValid m && (m.tow.isSome || d.txByMt m)
  && sigEnabled d.num code

/-- 1 s in 2^-14 ns. -/
def sec14 : Int := 1000000000 * 16384

/-- Table 7-9: what a signal's system time counts within, in 2^-14 ns: the week, or the day for GLONASS. -/
def sysSpan (code : Nat) : Int := (if sigConst code = 3 then 86400 else 604800) * sec14

/-- R194, R210: the system time of a signal's constellation at an MT instant (2^-16 ns), in 2^-14 ns: it stands to TAI as R210 says, and GLONASS time
is UTC + 3 h. -/
def Device.sysTime (d : Device) (t16 code : Nat) : Int :=
  (t16 : Int) / 4 - (if sigConst code = 3 then d.utcOffset * sec14 - 10800 * sec14
    else 315964800 * sec14 + (if sigConst code = 2 then 33 else 19) * sec14)

/-- R194, Table 7-9: TX_TIME of a measurement at the latch instant `t16` (MT in 2^-16 ns), in 2^-14 ns: the value with the measured phase of the
code period that is nearest to what MT and the predicted range, or the decoded time of week, give. -/
def Device.txTime (d : Device) (t16 : Nat) (m : SkyMeas) : Nat :=
  let (code, _) := d.measSat m
  let period := sigPeriod code * 16384000000
  let near (v : Int) : Nat := ((v + ((m.phase : Int) - v + period / 2) % period - period / 2) % sysSpan code).toNat
  if d.txByMt m then near (d.sysTime t16 code - d.rangeOf t16 m) else match m.tow with | some t => near t | none => m.phase % period

/-- R220: GNSS time less MT (2^-16 ns) from one satellite: its predicted range less its measured pseudorange. -/
def Device.rangeOffset (d : Device) (t16 : Nat) (m : SkyMeas) : Int :=
  let code := (d.measSat m).1
  let span := sysSpan code
  4 * (((d.txTime t16 m : Int) - (d.sysTime t16 code - d.rangeOf t16 m) + span / 2) % span - span / 2)

/-- The satellites (constellation, SV) of measurements, each once. -/
def Device.satsOf (d : Device) (ms : List SkyMeas) : List (Nat × Nat) :=
  (ms.map (fun m => (sigConst (d.measSat m).1, (d.measSat m).2))).eraseDups

/-- Does a satellite have both bands among the measurements. -/
def Device.bothBands (d : Device) (ms : List SkyMeas) (s : Nat × Nat) : Bool :=
  let of (l5 : Bool) := ms.any (fun m => sigConst (d.measSat m).1 = s.1 && (d.measSat m).2 = s.2 && sigL5 (d.measSat m).1 = l5)
  of true && of false

/-- R209: the constellations among the satellites whose offset must be estimated. -/
def Device.estimatedConsts (d : Device) (ms : List SkyMeas) (ss : List (Nat × Nat)) : List Nat :=
  let p := primaryConst (d.nat K.skyTimescale)
  ((ss.map (·.1)).eraseDups).filter (fun c => c ≠ p &&
    (c = 3 || !(ms.any (fun m => sigConst (d.measSat m).1 = c && m.sysOff) || Config.pagesSysOff c p (d.pagesOf c) (d.clock.mt / secU))))

/-- R209: how many constellations among the satellites need their offset estimated. -/
def Device.estimated (d : Device) (ms : List SkyMeas) (ss : List (Nat × Nat)) : Nat := (d.estimatedConsts ms ss).length

/-- R209: are there satellites enough for kind 1 or 2, with one among them that ties the solution to the primary's time; where every constellation's
offset is estimated nothing does (log entry 122). -/
def Device.enough (d : Device) (ms : List SkyMeas) (ss : List (Nat × Nat)) : Bool :=
  4 + d.estimated ms ss ≤ ss.length && ss.any (fun s => !(d.estimatedConsts ms ss).contains s.1)

/-- Table 7-10: the kind of a solution from the measurements that pass, and the satellites it uses. Kind 3 leaves GLONASS satellites out of its count
and use (log entry 123). -/
def Device.solKind (d : Device) (ms : List SkyMeas) : Nat × List (Nat × Nat) :=
  let ss := d.satsOf ms
  let dual := ss.filter (d.bothBands ms)
  let few := ss.filter (fun s => s.1 ≠ 3)
  if d.enough ms dual then (1, dual)
  else if d.enough ms ss then (2, ss)
  else if 1 ≤ few.length && few.length ≤ 3 && d.aidUsable then (3, few)
  else (0, [])

/-- R208, R220: the measurements that the hardware tracker solves from: of the loaded channels whose satellites pass the tests, GLONASS apart, the
three of highest C/N0, where a position of enough certainty was loaded. -/
def Device.hwBest (d : Device) (ms : List SkyMeas) : List SkyMeas :=
  let ok := ms.filter (fun m => (d.loadedFor m).isSome && d.measGood m && sigConst (d.measSat m).1 ≠ 3)
  if !d.sky.predictedPos.any (fun p => p.2 ≤ d.nat K.skyAidUncMax) || d.sky.expired then []
  else (ok.mergeSort (fun a b => b.cn0 ≤ a.cn0)).take 3

/-- R209: are the clock terms alone solved, with the static position. -/
def Device.staticFix (d : Device) : Bool := d.nat K.skyAidMode = 2 && d.aidStatus = 1

/-! ## The offsets of the satellites and the integrity tests (R186, R209, R212, R220) -/

/-- R186, Table 7-10: a satellite's offset (2^-16 ns) and 1 sigma (ps): SKY_L5_BIAS leaves the L5 code measurement, and with both bands tracked
the ionosphere-free combination is formed, whose weights are the squares of the carriers (154 and 115 times 10.23 MHz). -/
def Device.satOffset (d : Device) (ms : List SkyMeas) (fix : SkyFix) (s : Nat × Nat) : Option (Int × Nat) :=
  let of (l5 : Bool) : Option (Int × Nat) :=
    (ms.find? (fun m => sigConst (d.measSat m).1 = s.1 && (d.measSat m).2 = s.2 && sigL5 (d.measSat m).1 = l5)).bind
      (fun m => (fix.readings.find? (fun r => r.1 = m.channel)).map (·.2))
  let l5 := (of true).map (fun r => (r.1 + d.num K.skyL5Bias * 65536 / 1000, r.2))
  match of false, l5 with
  | some a, some b => some (roundDiv (23716 * a.1 - 13225 * b.1) 10491, isqrt ((23716 * a.2) ^ 2 + (13225 * b.2) ^ 2) / 10491)
  | some a, none => some a
  | none, b => b

/-- A satellite in a solution: which, its offset (2^-16 ns) and its 1 sigma (ps). -/
structure SatOff where
  sat : Nat × Nat
  off : Int
  sigma : Nat
  deriving DecidableEq, Repr

/-- The offsets of the satellites that a solution uses. -/
def Device.satOffsets (d : Device) (ms : List SkyMeas) (fix : SkyFix) (ss : List (Nat × Nat)) : List SatOff :=
  ss.filterMap (fun s => (d.satOffset ms fix s).map (fun r => { sat := s, off := r.1, sigma := max 1 r.2 }))

/-- Table 7-11: the mean of satellites' offsets, weighted by the inverse squares of their 1 sigma. -/
def weightedMean (xs : List SatOff) : Int :=
  let w (x : SatOff) : Int := (10 ^ 30 / (x.sigma * x.sigma) : Nat)
  let sum := (xs.map w).sum
  if sum = 0 then 0 else roundDiv ((xs.map (fun x => w x * x.off)).sum) sum

/-- A satellite's residual in ps: against the mean of its constellation where that one's offset is estimated, else against the primary's. -/
def residual (est : List Nat) (xs : List SatOff) (x : SatOff) : Int :=
  let ref := if est.contains x.sat.1 then xs.filter (fun y => y.sat.1 = x.sat.1) else xs.filter (fun y => !est.contains y.sat.1)
  (x.off - weightedMean ref) * 1000 / 65536

/-- The 10^-5 points of the chi-square distribution times 1,000, for 1 to 62 degrees of freedom. -/
def chiLow : List Nat :=
  [19511, 23026, 25902, 28473, 30856, 33107, 35259, 37332, 39341, 41296, 43206, 45076, 46912, 48716, 50493, 52245,
   53974, 55683, 57373, 59045, 60700, 62341, 63968, 65581, 67182, 68771, 70349, 71917, 73475, 75023, 76563, 78094,
   79617, 81133, 82640, 84141, 85635, 87123, 88604, 90079, 91548, 93012, 94470, 95924, 97372, 98815, 100253, 101687,
   103117, 104542, 105963, 107380, 108792, 110202, 111607, 113009, 114407, 115802, 117193, 118581, 119966, 121348]

/-- The 10^-5 points of the chi-square distribution times 1,000, for 63 to 124 degrees of freedom. -/
def chiHigh : List Nat :=
  [122727, 124103, 125476, 126846, 128214, 129578, 130941, 132300, 133657, 135011, 136363, 137713, 139060, 140405, 141748, 143089,
   144427, 145764, 147098, 148430, 149760, 151089, 152415, 153739, 155062, 156383, 157702, 159019, 160334, 161648, 162960, 164270,
   165579, 166886, 168192, 169496, 170798, 172099, 173398, 174696, 175993, 177288, 178582, 179874, 181165, 182455, 183743, 185030,
   186315, 187600, 188883, 190165, 191446, 192725, 194003, 195280, 196556, 197831, 199105, 200377, 201649, 202919]

/-- Table 7-11: the normalised residual sum, times 1,000, beyond which the residual test fails with `n` degrees of freedom; the sum is taken as
chi-square distributed (DEDUCED). -/
def chiLimit (n : Nat) : Nat := if n ≤ 62 then chiLow.getD (n - 1) 0 else chiHigh.getD (n - 63) 0

/-- The square of a residual over its 1 sigma, times 1,000. -/
def normSq (est : List Nat) (xs : List SatOff) (x : SatOff) : Nat := (residual est xs x).natAbs ^ 2 * 1000 / x.sigma ^ 2

/-- The satellite of the largest normalised residual. -/
def worstOf (est : List Nat) (xs : List SatOff) : Option SatOff :=
  xs.foldl (fun w x => match w with
    | some y => if normSq est xs y < normSq est xs x then some x else w
    | none => some x) none

/-- What a try at a solution gives: its kind, its satellites, the offset of the primary's time of week (2^-16 ns), whether a test was run, and the
satellite that fails it with its residual (ps). -/
structure SkyTry where
  kind : Nat
  sats : List (Nat × Nat)
  off : Int
  tested : Bool
  worst : Option ((Nat × Nat) × Int)
  deriving DecidableEq, Repr

/-- Table 7-11: a try of the firmware's from the measurements that pass. -/
def Device.skyTry (d : Device) (good : List SkyMeas) (fix : SkyFix) : SkyTry :=
  let (kind, ss) := d.solKind good
  let xs := d.satOffsets good fix ss
  let est := if kind = 3 then [] else d.estimatedConsts good ss
  let n := ss.length
  let fails := if kind ≤ 2 && 5 ≤ n then
      chiLimit (n - est.length - (if d.staticFix then 1 else 4)) < (xs.map (normSq est xs)).sum
    else (n = 2 || n = 3) && xs.any (fun x => 9000 < normSq est xs x)
  { kind := if xs.length = n then kind else 0, sats := ss, off := weightedMean (xs.filter (fun x => !est.contains x.sat.1))
    tested := (kind ≤ 2 && 5 ≤ n) || (kind = 3 && (n = 2 || n = 3))
    worst := if fails && kind ≠ 0 then (worstOf est xs).map (fun x => (x.sat, residual est xs x)) else none }

/-- R220: the hardware tracker's try, a kind 3 solution: each satellite within 100 ns of the median offset; of an even count the mean of the middle two.
A lone satellite left of several is the median itself, which agrees with nothing: the test has failed (log entry 124). -/
def Device.hwTry (d : Device) (t16 : Nat) (ms : List SkyMeas) : SkyTry :=
  let xs := (d.hwBest ms).map (fun m =>
    ({ sat := (sigConst (d.measSat m).1, (d.measSat m).2), off := d.rangeOffset t16 m, sigma := max 1 (m.noise * 33356 / 1000) } : SatOff))
  let sorted := (xs.map (·.off)).mergeSort (· ≤ ·)
  let mid := (sorted.getD ((sorted.length - 1) / 2) 0 + sorted.getD (sorted.length / 2) 0) / 2
  let out := xs.filter (fun x => decide (100 * 65536 < (x.off - mid).natAbs))
  let kept := xs.filter (fun x => !out.contains x)
  { kind := if kept.length < min 2 xs.length || xs = [] then 0 else 3, sats := kept.map (·.sat), off := weightedMean kept, tested := 2 ≤ xs.length
    worst := out.head?.map (fun x => (x.sat, (x.off - mid) * 1000 / 65536)) }

/-! ## Measurement block -/

/-- Table 7-9: one measurement record; `used` is FLAGS [6]. Both locks hold in TRACK (Table 7-7). -/
def Device.measRecord (d : Device) (t16 : Nat) (used : SkyMeas → Bool) (m : SkyMeas) : Bytes :=
  let (code, sv) := d.measSat m
  let f (b : Bool) (v : Nat) : Nat := if b then v else 0
  let track : Bool := d.skyCh m.channel = 2
  let flags := f (track || m.code) 1 + f (track || m.carrierLock) 2 + f (m.tow.isSome || d.txByMt m) 4 + f m.half 8 + f m.slip 16
    + f (d.skyCh m.channel = 3) 32 + f (used m) 64
  toBE 1 m.channel ++ toBE 1 code ++ toBE 1 sv ++ toBE 1 flags ++ toBE 2 m.cn0 ++ toBE 2 (min 65535 m.lockTime)
    ++ toBE 8 (d.txTime t16 m) ++ toBE 8 (ofSigned 8 m.carrier) ++ toBE 4 (ofSigned 4 m.doppler) ++ toBE 2 m.noise ++ toBE 2 0

/-- Table 7-8: the block of a latch. -/
def Device.measBlock (d : Device) (t16 : Nat) (fast : Bool) (used : SkyMeas → Bool) (ms : List SkyMeas) : Bytes :=
  let f (b : Bool) (v : Nat) : Nat := if b then v else 0
  let tr := d.nat K.skyTracker
  time96Bytes t16 ++ toBE 4 (d.nat K.skyMeasCount + 1) ++ toBE 1 ms.length
    ++ toBE 1 (f (!d.rootLocked) 1 + f (tr ≠ 0) 2 + f (tr = 2) 4 + f fast 8) ++ toBE 2 0
    ++ toBE 2 (d.nat K.skyAgcL1) ++ toBE 2 (d.nat K.skyAgcL5) ++ toBE 8 0 ++ (ms.map (d.measRecord t16 used)).flatten

/-- R205, R207: the measurements of a latch: one for every channel in TRACK or COAST, in channel order. -/
def Device.latched (d : Device) (ms : List SkyMeas) : List SkyMeas :=
  ((List.range 128).filter (fun c => d.skyCh c = 2 || d.skyCh c = 3)).map (fun c => (ms.find? (fun m => m.channel = c)).getD { channel := c })

/-- R205, R206, R219: the MT instant (its unit) of the next latch after this tick, and whether it is a fast-fix latch. -/
def Device.nextLatch (d0 : Device) : Nat × Bool :=
  let d := d0.skySettle
  let mt := d.clock.mt
  let next (r : Nat) : Nat := (mt / (secU / r) + 1) * (secU / r)
  if d.nat K.skyTracker = 2 then (next 1, false)
  else if d.nat K.skyTracker = 0 && (d.sky.fastFix || d.sky.fastUntil ≠ 0) then (next 10, true)
  else if d.sky.rate ≠ d.sky.rateNext then (min (next d.sky.rate) d.sky.rateAt, false)
  else (next d.sky.rate, false)

/-- R200: with a kind 1 or 2 position the aid is compared, and rejected beyond 3 times the sum of uncertainties plus 10 m. -/
def Device.aidCheck (d : Device) (fix : SkyFix) : Device :=
  if d.aidStatus ≠ 1 then d else
  let e (i : Nat) (p : Int) : Nat := (p - d.aidAxis i).natAbs
  let d2 := e 0 fix.x * e 0 fix.x + e 1 fix.y * e 1 fix.y + e 2 fix.z * e 2 fix.z
  let lim := 3 * (d.aidUnc + fix.posUnc) + 10000
  if lim * lim < d2 then
    (d.setSky (fun s => { s with aidRejected := true })).report 0x0504 [min 0x7FFFFFFF (isqrt d2 / 1000), d.aidUnc]
  else d

/-- R212: the first exclusion of a satellite in an hour is recorded, with the signal on its lowest channel. -/
def Device.noteExcluded (d : Device) (ms : List SkyMeas) (w : (Nat × Nat) × Int) : Device :=
  let hour := d.clock.ticks / (3600 * sTicks)
  if d.sky.excluded.contains (w.1.1, w.1.2, hour) then d
  else
    let code := ((ms.find? (fun m => (sigConst (d.measSat m).1, (d.measSat m).2) = w.1)).map (fun m => (d.measSat m).1)).getD 0
    (d.setSky (fun s => { s with excluded := (w.1.1, w.1.2, hour) :: s.excluded.filter (fun e => e.2.2 = hour) })).report
      0x0505 [code, w.1.2, sat32 (w.2 / 1000)]

/-- R210: the fixed offset of the primary system time to TAI, in s. -/
def taiOffset (t : Nat) : Int := if t = 2 then 33 else 19

/-- R210, R211: GNSS-derived TAI less MT (2^-16 ns) from the time of week's offset, once the date is resolved: by a full week count, else by the
first 1,024-week cycle that places the time at or after SKY_DATE_FLOOR. -/
def Device.gnssOffset (d : Device) (t16 : Nat) (off : Int) (fix : SkyFix) : Option Int :=
  let cycle : Int := 1024 * 604800 * sec16
  fix.week.map (fun w =>
    let tai := off + (315964800 + 604800 * w.2 + taiOffset (d.nat K.skyTimescale)) * sec16
    let short := d.num K.skyDateFloor - (tai + t16)
    let full := if w.1 || short ≤ 0 then tai else tai + ceilDivInt short cycle * cycle
    let v := full + (if d.num K.skyUtcSteer = 1 then fix.steer else 0)
    if -(2 ^ 63) ≤ v ∧ v < 2 ^ 63 then v else toSigned 8 (ofSigned 8 (Config.wideOffset v)))

/-- Table 7-10, R209, R218: the position that a solution of a kind publishes, in mm. -/
def Device.fixPoint (d : Device) (kind : Nat) (fix : SkyFix) : Int × Int × Int :=
  if kind = 3 && d.nat K.skyTracker ≠ 0 then ((d.sky.predictedPos.map (·.1)).getD (0, 0, 0))
  else if kind = 3 || d.staticFix then d.aidPoint else (fix.x, fix.y, fix.z)

/-- Table 7-10, R209: the velocity that a solution of a kind publishes, in mm/s: the aid's with its position, none with a static one. -/
def Device.fixSpeed (d : Device) (kind : Nat) (fix : SkyFix) : Int × Int × Int :=
  let v (i : Nat) : Int := toSigned 4 (fieldNat (d.oct K.skyAidPos) (36 + 4 * i) 4)
  if d.nat K.skyTracker ≠ 0 then (fix.vx, fix.vy, fix.vz)
  else if d.staticFix then (0, 0, 0) else if kind = 3 then (v 0, v 1, v 2) else (fix.vx, fix.vy, fix.vz)

/-- R213, R214: a valid solution is published and reaches Thermostat as one phase measurement, which ignores it while the root is not LOCKED. -/
def Device.skySolved (d : Device) (kind nsat t16 flags : Nat) (off : Int) (fix : SkyFix) (fastEnd : Nat) : Device :=
  let d1 := if d.nat K.skySolKind = kind then d else d.report 0x0502 [d.num K.skySolKind, kind, nsat]
  let d2 := d1.setNums [(K.skySolKind, kind), (K.skySolNsat, nsat), (K.skySolTime, t16), (K.skySolOffset, off),
    (K.skySolUnc, fix.unc), (K.skySolMisses, 0), (K.skySolFlags, flags)]
  let i64 (v : Int) : Bytes := toBE 8 (ofSigned 8 v)
  let i32 (v : Int) : Bytes := toBE 4 (ofSigned 4 v)
  let p := d.fixPoint kind fix
  let v := d.fixSpeed kind fix
  let d3 := ((d2.setOct K.skySolPos (i64 p.1 ++ i64 p.2.1 ++ i64 p.2.2)).setOct K.skySolVel (i32 v.1 ++ i32 v.2.1 ++ i32 v.2.2)).bump K.skySolCount
  let d4 := d3.setSky (fun s => { s with
    active := true, fastFix := false, fastUntil := if s.fastFix then fastEnd else s.fastUntil
    ownPos := if kind = 3 then s.ownPos else some (p, if d.staticFix then d.aidUnc else fix.posUnc)
    ownPosAt := if kind = 3 then s.ownPosAt else d.clock.ticks })
  let d5 := d4.setSource 0 true
  if d5.rootLocked then (d5.advertiseQl 0 kind).offerPhase (d5.phaseHere 0 off) else d5

/-- R213: a latch has no valid solution: it counts, and at SKY_SOL_MISS_LIMIT the solution is lost. -/
def Device.skyMissed (d : Device) : Device :=
  let d1 := d.bump K.skySolMisses
  if d1.nat K.skySolMisses = d1.nat K.skySolMissLimit || (d1.sky.active && d1.nat K.skySolMissLimit ≤ d1.nat K.skySolMisses)
  then d1.skyLost 1 else d1

/-- R205 to R214, R220: the channels in TRACK or COAST are latched on this tick and a solution is computed; `fix` is what the signals give the
solver, `refit` what they give it without the satellite that fails the integrity test. -/
def Device.latch (d : Device) (fast : Bool) (ms0 : List SkyMeas) (fix refit : Option SkyFix) : Device :=
  let ms := d.latched ms0
  let t16 := d.mt16 - Config.rfLatchDelay
  let good := ms.filter d.measGood
  let hw := d.nat K.skyTracker ≠ 0
  let nothing : SkyTry := { kind := 0, sats := [], off := 0, tested := false, worst := none }
  let first := (fix.map (fun x => if hw then d.hwTry t16 ms else d.skyTry good x)).getD nothing
  let kept := match first.worst with
    | some w => good.filter (fun m => (sigConst (d.measSat m).1, (d.measSat m).2) ≠ w.1)
    | none => good
  let again := !hw && first.worst.isSome
  let last := if again then (refit.map (d.skyTry kept)).getD nothing else first
  let used := if again then refit else fix
  let off := used.bind (fun x => if hw then some (x, last.off + (if d.num K.skyUtcSteer = 1 then x.steer else 0))
    else (d.gnssOffset t16 last.off x).map (fun o => (x, o)))
  let valid := off.filter (fun x => last.kind ≠ 0 && x.1.unc ≤ d.nat K.skyUncMax && (hw || last.worst.isNone))
  let d1 := match first.worst with
    | some w => d.noteExcluded ms w
    | none => d
  let block := d.measBlock t16 fast (fun m => valid.isSome && (if hw then d.hwBest ms else kept).contains m && last.sats.contains (sigConst (d.measSat m).1, (d.measSat m).2)) ms
  let d2 := (d1.setOct K.skyMeasBlock block).bump K.skyMeasCount
  let d3 := ms.foldl (fun d m => d.setNums [(K.chCn0 m.channel, m.cn0), (K.chElev m.channel, m.elev), (K.chAzim m.channel, m.azim)]) d2
  let f (b : Bool) (v : Nat) : Nat := if b then v else 0
  let flags := f (!d.rootLocked) 1 + f hw 2 + f last.tested 4 + f first.worst.isSome 8 + f (last.kind = 3 || d.staticFix) 16
  match valid with
  | some (x, o) =>
    let d4 := if last.kind ≤ 2 then d3.aidCheck x else d3
    d4.skySolved last.kind last.sats.length t16 flags o x ((d.clock.mt / secU + 1) * secU)
  | none => d3.skyMissed

/-- R205: the first CK_FAB edge, on every second tick from the handover, at which MT has reached an instant of a latch. -/
def Device.toFabEdge (d : Device) (t : Nat) : Device :=
  let d1 := d.runToMt t
  if (d1.clock.ticks - d1.clock.handover.getD 0) % 2 = 1 then d1.elapse 1 else d1

/-- MEAS_LATCH (R205 to R214): MT reaches the next latch instant. -/
def Device.measLatch (d0 : Device) (ms : List SkyMeas) (fix refit : Option SkyFix) : Device :=
  if !d0.clock.mtRun || d0.nat K.skyTracker = 2 then d0 else
  let d := d0.skySettle
  let (t, fast) := d.nextLatch
  (d.toFabEdge t).skySettle.latch fast ms fix refit

/-- PARK_BURST (R203, R219, R220): a 100 ms burst ends at the next whole MT second with a latch; afterwards the channels coast,
their timers restarted. -/
def Device.parkBurst (d : Device) (ms : List SkyMeas) (fix refit : Option SkyFix) : Device :=
  if d.nat K.skyTracker ≠ 2 || !d.clock.mtRun || d.nat K.fbState ≠ 3 then d else
  let d1 := d.toFabEdge ((d.clock.mt / secU + 1) * secU)
  let d2 := ms.foldl (fun d m => if d.skyCh m.channel = 3 && m.carrierLock && m.channel < 128 then d.setSkyState m.channel 2 else d) d1
  let d3 := d2.latch false ms fix refit
  (List.range 128).foldl (fun d c => if d.skyCh c = 2 || d.skyCh c = 3 then d.setSkyState c 3 else d) d3

/-- PREDICTION_EXPIRY (R220): the 4 h prediction span has passed. -/
def Device.predictionExpiry (d : Device) : Device :=
  if d.nat K.skyTracker = 0 || d.sky.expired then d else
  ((d.runTo (d.sky.predictedAt + 14400 * sTicks)).skyLost 3).setSky (fun s => { s with expired := true })

/-- R218: Study hands the loops to the hardware tracker (1 continuous, 2 burst) with the loops' bandwidths, a position and up to eight L1-band
channels; the position is the latest own one, or the propagated aid. -/
def Device.handToHardware (d : Device) (t : Nat) : Device :=
  let l1 := ((List.range 128).filter (fun c => (d.skyCh c = 2 || d.skyCh c = 3) && !sigL5 (d.nat (K.chSignal c)))).take 8
  let d1 := (List.range 128).foldl (fun d c => if d.skyCh c ≠ 0 && !l1.contains c then d.setSkyState c 0 else d) d
  let pos := match d.sky.ownPos with
    | some p => some p
    | none => if d.aidStatus = 1 then some (d.aidPoint, d.aidUnc) else none
  let now := d.clock.mt / secU
  let load (c : Nat) : SkyPrediction :=
    let code := d.nat (K.chSignal c)
    let sv := d.nat (K.chSv c)
    { chan := c, code := code, sv := sv, loaded := now, pos := (pos.map (·.1)).getD (0, 0, 0), clock := Config.satDelay 0 code sv now
      iono := Config.satDelay 1 code sv now }
  (d1.setTracker t).setSky (fun s => { s with
    predicted := l1.map load, predictedAt := d.clock.ticks, expired := false, predictedBw := (d.nat K.skyPllBw, d.nat K.skyDllBw)
    predictedPos := pos })

/-- SKY_PPS (R217): while a valid solution exists the internal pulse falls where MT plus SKY_SOL_OFFSET reaches a whole second, to the resolution of
the outputs, and goes to Threshold's channel 20. -/
def Device.skyPps (d : Device) : Device :=
  if !d.sky.active || !d.clock.mtRun then d else
  let off := d.num K.skySolOffset * fracU
  let at_ := ((d.clock.mt + off) / secU + 1) * secU - off
  let (d1, fine) := d.toPin at_
  let e : PinEdge := { ps := d1.rootPs + fine, tU := d1.clock.mt + psU fine, stepped := d1.clock.stepped, pulled := d1.clock.pulled, dco := d1.clock.dco, falling := false
                       rootOk := d1.rootLocked, tstate := d1.nat K.mtState, sched := some (at_.toNat / fracU, 0, 16) }
  d1.setCh 20 (fun c => { c with pad := c.pad ++ [e] })

/-- R205, R221: group 0x03 has switched: disabled signals leave their channels, the antenna supply and the rate follow. -/
def Device.skyCommitted (d0 : Device) : Device :=
  let d1 := (List.range 128).foldl (fun d c =>
    if d.skyCh c ≠ 0 && !sigEnabled d.num (d.nat (K.chSignal c)) then d.setSkyState c 0 else d) d0
  let d2 := if d1.num K.skyAntEnable = 0 then d1.setAnt 0 else d1
  d2.skySettle.setSky (fun s => { s with
    rateNext := d2.nat K.skyLatchRate, rateAt := if s.rate = d2.nat K.skyLatchRate then 0 else (d0.clock.mt / secU + 1) * secU })

/-- R222: the pairing rules of group 0x03. -/
def skyPairs (v : Nat → Int) : List Nat :=
  breaks (!([0x01, 0x02, 0x11, 0x12, 0x21, 0x22, 0x31, 0x41, 0x42].any (sigEnabled v))) [K.skyConstEnable, K.skyBandEnable]
  ++ breaks (!bit (v K.skyConstEnable).toNat (primaryConst (v K.skyTimescale).toNat)) [K.skyConstEnable, K.skyTimescale]
  ++ breaks (v K.skyVevlSpacing ≤ v K.skyElSpacing) [K.skyVevlSpacing, K.skyElSpacing]

/-- ANT_CURRENT_MEASURE. -/
def execAntCurrentMeasure (current : Nat) (s : State) : Host.Outcome State Fault Refusal := .next (s.on (·.antMeasure current))
/-- ANT_SHORT_RETRY. -/
def execAntShortRetry (current : Nat) (s : State) : Host.Outcome State Fault Refusal := .next (s.on (·.antRetry current))
/-- AGC_INTERFERENCE. -/
def execAgcInterference (l5 : Bool) (gain : Nat) (_ : Unit) (s : State) : Host.Outcome State Fault Refusal := .next (s.on (·.agc l5 gain))
/-- ACQ_DWELL. -/
def execAcqDwell (place : AcqPlace) (signal sv : Nat) (glonass : GloSlot) (detected : Bool) (elev : Int) (azim : Nat) (s : State) :
    Host.Outcome State Fault Refusal :=
  .next (s.on (·.acqDwell place.slot place.channel signal sv glonass.orbit glonass.freq detected elev azim))
/-- PULL_IN_TIMEOUT. -/
def execPullInTimeout (channel : Nat) (s : State) : Host.Outcome State Fault Refusal := .next (s.on (·.pullInTimeout channel))
/-- CORRELATOR_DUMP. -/
def execCorrelatorDump (channel : Nat) (reading : DumpReading) (locked updated : Bool) (nav : Option (Int × Bytes)) (s : State) :
    Host.Outcome State Fault Refusal := .next (s.on (·.dump channel reading.cn0 reading.acc locked updated nav))
/-- COAST_TIMEOUT. -/
def execCoastTimeout (channel : Nat) (s : State) : Host.Outcome State Fault Refusal := .next (s.on (·.coastTimeout channel))
/-- LOOP_UPDATE_TIMEOUT. -/
def execLoopUpdateTimeout (s : State) : Host.Outcome State Fault Refusal := .next (s.on (·.loopTimeout))
/-- MEAS_LATCH. -/
def execMeasLatch (meas : List SkyMeas) (fix refit : Option SkyFix) (s : State) : Host.Outcome State Fault Refusal :=
  .next (s.on (·.measLatch meas fix refit))
/-- SKY_PPS. -/
def execSkyPps (_ : Unit) (s : State) : Host.Outcome State Fault Refusal := .next (s.on (·.skyPps))
/-- PARK_BURST. -/
def execParkBurst (meas : List SkyMeas) (fixes : SkyFixes) (s : State) : Host.Outcome State Fault Refusal :=
  .next (s.on (·.parkBurst meas fixes.fix fixes.refit))
/-- PREDICTION_EXPIRY. -/
def execPredictionExpiry (s : State) : Host.Outcome State Fault Refusal := .next (s.on (·.predictionExpiry))

end Sys2Proof.Machine
end

