-- ==== Sys2Proof/Machine/Power.lean ====
section
/-! DEFINITION. Fusebox and the Cellar (20_power_and_ageing.md): power states, entry, wake, the sequencer, exit, the Cellar's counters
and snapshot, supplies, ageing and the margin plan. -/

namespace Sys2Proof.Machine

/-- The part with Fusebox's own state changed. -/
def Device.setPower (d : Device) (f : Power → Power) : Device := { d with power := f d.power }

/-- The part with the Cellar's own state changed. -/
def Device.setCellar (d : Device) (f : Cellar → Cellar) : Device := { d with cellar := f d.cellar }

/-- FB_STATE takes a value; a change is recorded (Table 20-9). -/
def Device.setFbState (d : Device) (st : Nat) : Device :=
  if d.nat K.fbState = st then d else (d.report 0x0201 [d.num K.fbState, st, d.num K.latencyTol]).setNum K.fbState st

/-! ## Choosing a state (R525 to R527) -/

/-- R525: the deepest state whose exit latency a tolerance in us allows. -/
def targetOf (tol : Nat) : Nat := if tol ≤ 1 then 0 else if tol < 150 then 1 else if tol < 40000 then 2 else if tol < 350000 then 3 else 4

/-- R527: the tick at which the idle time is over. -/
def Device.idleEnd (d : Device) : Nat := d.power.idleFrom + d.nat K.fbIdleTime * msTicks

/-- Table 20-3: is a wake source of Deep Off enabled: a WAKE_IN pin, the alarm, or tamper flags. -/
def Device.deepSource (d : Device) : Bool :=
  d.nat K.fbWakeInCfg % 16 ≠ 0 || d.nat K.cellarWakeAfter ≠ 0 || bit (d.nat K.fbWakeMask) 3

/-- Table 20-2: hold [n] as FB_HOLD shows it. -/
def Device.hold? (d : Device) (n : Nat) : Bool :=
  match n with
  | 0 => (List.range 16).any (fun i => d.slotState i ≠ 0)
  | 1 => d.nat K.studyStageState ≠ 0
  | 2 => d.nat K.atticClearState = 1
  | 3 => d.nat K.hearthLock ≠ 1 || d.nat K.tdcCalState ≠ 2
  | 4 => d.power.vbatLow
  | 5 => !d.deepSource
  | 6 => d.clock.ticks < d.idleEnd
  | _ => false

/-- FB_HOLD (R526). -/
def Device.fbHold (d : Device) : Nat := (List.range 7).foldl (fun v n => v + if d.hold? n then 2 ^ n else 0) 0

/-- Table 20-2: the deepest state that the holds allow, the idle time apart. -/
def Device.holdLimit (d : Device) : Nat :=
  if d.hold? 0 || d.hold? 1 || d.hold? 2 || d.hold? 3 then 1 else if d.hold? 4 || d.hold? 5 then 3 else 4

/-- Table 18-1, R523: is the part out of reset and serving. -/
def Device.up (d : Device) : Bool := d.power.held = 0

/-! ## Entry (R528, R529) -/

/-- R527, R529: an entry that has not completed is aborted and its steps are reversed; a hold (cause 3) does not restart the idle time. -/
def Device.abortEntry (d : Device) (cause : Nat) : Device :=
  match d.power.entry with
  | none => d
  | some (target, step) =>
    let d1 := (d.setNum K.parAdmitStopped 0).report 0x0A03 [0, d.num K.fbState]
    let d2 := (d1.setPower (fun p => { p with entry := none, idleFrom := if cause = 3 then p.idleFrom else d.clock.ticks })).setFbState 0
    let d3 := (d2.bump K.fbEntryAborts).report 0x0203 [target, step, cause]
    if d3.ledger.begun && !d3.ledger.batches.any (fun b => b.state = 0) then d3.openBatch else d3

/-- R529: a hold that comes to apply aborts an entry to a state it forbids. -/
def Device.holdCheck (d : Device) : Device :=
  match d.power.entry with
  | some (target, _) => if d.holdLimit < target then d.abortEntry 3 else d
  | none => d

/-- R528: steps 1 and 2 of an entry begin: the final heartbeat, and no more admission; a save of the configuration is abandoned (R551). -/
def Device.beginEntry (d : Device) (target : Nat) : Device :=
  let d1 := if d.nat K.hapHbPeriod = 0 then d else d.sendHeartbeat target
  let d2 := (d1.setNum K.parAdmitStopped 1).report 0x0A03 [1, target]
  let d3 := if d2.study.saving.isSome then (d2.setStudy (fun s => { s with saving := none })).setNum K.cfgState 0 else d2
  d3.setPower (fun p => { p with entry := some (target, 2) })

/-- R528: step 2 has ended, and steps 3 to 6 follow: PTP instances are silent, NTS-KE connections close, low jobs abort, the loops go to the
hardware tracker (R218 names Doze and Park for it), queued frames are discarded; step 7 begins with the save of the holdover model. -/
def Device.entryRest (d : Device) (target : Nat) : Device :=
  let d1 := d.ntskeClose
  let d2 := if target = 4 then d1.abortLow else d1.abortLow.handToHardware (if target = 2 then 1 else 2)
  let d3 := if 3 ≤ target then d2.hallSleep else d2
  let d4 := if target = 4 && d3.nat K.hoModelState = 2 then d3.saveModel else d3
  d4.setPower (fun p => { p with entry := some (target, if target = 4 then 7 else 5) })

/-- IDLE_TIME_EXPIRY (R525 to R527): the idle time ends and Fusebox moves toward FB_TARGET, no deeper than the holds allow. -/
def Device.idleExpiry (d0 : Device) : Device :=
  if !d0.up || d0.asleep || d0.power.entry.isSome || d0.power.waking.isSome then d0 else
  let d := d0.runTo d0.idleEnd
  let st := min (d.nat K.fbTarget) d.holdLimit
  if 2 ≤ st then d.beginEntry st else d.setFbState st

/-- Table 10-4: port p enters its sleep state; one that is not UP goes to SLEEP_OFF, and in Deep Off, where every port is powered down, all do.
Park loses what the data banks hold, the frame in Porch's place with it (Table 1-6). -/
def Device.portSleep (d0 : Device) (p target : Nat) : Device :=
  let d := if target = 2 then d0 else d0.dropPlace p
  if d.link p = 3 && (target = 2 || (target = 3 && d.wakeArmed p)) then d.setLink p 4 3
  else (d.setLink p 5 3).dropPlace p

/-- R550: a snapshot of MT and the Cellar's counter, with the crystal's offset and an uncertainty in ns. -/
def Device.takeSnapshot (d : Device) : Device :=
  let t := d.nat K.mtState
  if t ≠ 3 && t ≠ 4 then d else
  let u := if t = 3 then d.num K.thermLockThresh else d.hoBound
  let d1 := d.setCellar (fun c => { c with
    snapHeld := true, snapCount := d.cellarCount, snapPpb := d.num K.cellarXtalPpb, tamperSince := false })
  (d1.setNum K.cellarSnapTime d.mt16).setNum K.cellarSnapUnc u

/-- R523, R529: the time in Run and Trim that counts toward a rotation of the master keys is kept. -/
def Device.rotatePause (d : Device) : Device :=
  d.setKeyhole (fun k => { k with rotateRan := k.rotateRan + (d.clock.ticks - k.rotateFrom), rotateFrom := d.clock.ticks })

/-- POWER_ENTRY_COMPLETE (R528): with every request and batch ended steps 3 to 8 follow; Deep Off waits in step 7 for the Attic's drain. -/
def Device.entryComplete (d : Device) : Device :=
  match d.power.entry with
  | none => d
  | some (target, step) =>
    if d.flying ≠ [] || d.ledger.batches ≠ [] then d else
    let d1 := if step = 2 then d.entryRest target else d
    if target = 4 && (d1.attic.pending ≠ [] || d1.attic.reports ≠ []) then d1 else
    let d2 := if target = 4 then (((List.range 16).foldl (fun d n => d.outTrailing n) d1.takeSnapshot).setAnt 0).flushFdb else d1
    let d3 := (List.range 44).foldl (fun d p => d.portSleep p target) d2
    let d4 := (List.range 4).foldl (fun d c => if d.coreRuns c then d.setCore c 1 else d) d3.lanesOff
    let d5 := d4.rotatePause.setFbState target
    let d6 := d5.setPower (fun p => { p with entry := none, held := if target = 4 then 4 else p.held })
    let d7 := d6.setCellar (fun c => { c with alarmFrom := if 3 ≤ target then some d6.cellarCount else none })
    if target = 4 then (List.range 4).foldl (fun d c => d.setCan c 0) { d7 with clock := { d7.clock with mtRun := false }, tdc := {} } else d7

/-! ## The sequencer (R532 to R534) -/

/-- Table 20-4: the current step of a kind in mA. -/
def stepMilliamps (kind : Nat) : Nat :=
  if kind = 0 then 600 else if kind = 1 then 1000 else if kind = 2 then 750 else if kind = 3 then 800 else if kind = 4 then 300
  else if kind < 32 then 20 else if kind < 48 then 80 else if kind < 56 then 100 else 250

/-- R532: the ramp of a step in ns at a slope in mA/us. -/
def rampNs (slope kind : Nat) : Nat := ceilDiv (stepMilliamps kind * 1000) slope

/-- R533: a step joins the sequencer's queue. -/
def Device.queueStep (d : Device) (kind : Nat) (exit : Bool) : Device :=
  let d1 := d.setPower (fun p => { p with steps := p.steps ++ [{ kind := kind, since := d.clock.ticks, exit := exit }] })
  let n := d1.power.steps.length
  let d2 := (d1.setNum K.fbSeqQueue n).setNum K.fbSeqPeak (max (d1.num K.fbSeqPeak) n)
  if n = 32 then d2.report 0x0204 [n, d2.num K.fbSeqMaxwait] else d2

/-- R533: the step that starts next: of an exit's steps the one first in the order of domains, else the oldest. -/
def Power.nextStep (p : Power) : Option SeqStep :=
  match ((p.steps.filter (·.exit)).map (·.kind)).min? with
  | some k => p.steps.find? (fun s => s.exit && s.kind = k)
  | none => p.steps.head?

/-- R219, R533: the tick at which the next Park burst switches Radio on, 100 ms before a whole MT second. -/
def Device.burstStart (d : Device) : Nat :=
  let u := secU / 10
  d.clock.ticks + d.ticksToMt ((((d.clock.mt + u) / secU) + 1) * secU - u)

/-- R533: the tick at which a step that waits may start: neither within a gap before a Park burst's Radio step nor within one after it. -/
def Device.stepStart (d : Device) : Nat :=
  let gap := d.nat K.fbStepGap * usTicks
  let t := match d.power.lastStep with
    | some (start, ramp) => max d.clock.ticks (max (start + gap) ramp)
    | none => d.clock.ticks
  if d.nat K.fbState = 3 && d.clock.mtRun then
    let b := d.burstStart
    if t + sTicks < b + gap then b + gap - sTicks else if b < t + gap && t < b + gap then b + gap else t
  else t

/-- SEQUENCER_STEP_START (R533): time runs until the next step may start, and it starts. -/
def Device.startStep (d0 : Device) : Option (SeqStep × Device) :=
  match d0.power.nextStep with
  | none => none
  | some s =>
    let d := d0.runTo d0.stepStart
    let start := d.clock.ticks
    let stop := start + ceilDiv (rampNs (d.nat K.fbSlope) s.kind * 5) 4
    let d1 := d.setPower (fun p => { p with steps := p.steps.erase s, lastStep := some (start, stop) })
    let wait := (start - s.since) / usTicks
    let d2 := (d1.setNum K.fbSeqQueue d1.power.steps.length).setNum K.fbSeqMaxwait (max (d1.num K.fbSeqMaxwait) wait)
    let lanes := s.kind = 3 && s.exit && !d2.power.steps.any (fun x => x.exit && x.kind = 3) && d2.clock.mtRun
    some (s, if lanes then d2.lanesOn else d2)

/-- R535, Table 20-5: the steps of an exit from a state; 0 stands for a start. -/
def exitSteps (st : Nat) : List Nat := if st = 2 then [3, 3] else if st = 3 then [1, 2, 2, 2, 2, 3, 3] else [0, 1, 2, 2, 2, 2, 3, 3, 4]

/-- R534: how long the steps take in ns at a slope and a gap in us. -/
def stepsNs (slope gap : Nat) (ks : List Nat) : Nat :=
  (ks.dropLast.map (fun k => max (gap * 1000) (rampNs slope k))).sum + rampNs slope (ks.getLastD 0)

/-- R534: the added exit time in us. -/
def Device.addedExit (d : Device) (st : Nat) : Nat :=
  (stepsNs (d.nat K.fbSlope) (d.nat K.fbStepGap) (exitSteps st) - stepsNs 500 20 (exitSteps st)) / 1000

/-! ## Wake (R530, R531) -/

/-- Table 20-3: does source [n] of FB_WAKE_CAUSE wake from a state, and is it enabled. A WAKE_IN pin is judged by its caller. -/
def Device.wakeAllowed (d : Device) (src st : Nat) : Bool :=
  let m := d.nat K.fbWakeMask
  match src with
  | 0 => (st = 2 || st = 3) && bit m 0
  | 1 => (st = 2 || st = 3) && bit m 1
  | 2 => true
  | 3 => 3 ≤ st && d.nat K.cellarWakeAfter ≠ 0
  | 4 => (st = 2 || st = 3) && bit m 2
  | 5 => bit m 3
  | _ => false

/-- R531: has no wake begun before the present cycle of the always-on crystal. -/
def Device.freshWake (d : Device) : Bool :=
  match d.power.waking with
  | none => true
  | some t => (d.clock.xtal - (d.clock.ticks - t) * xtalTick) / xtalU = d.clock.xtal / xtalU

/-- R531: a wake begins, or joins the one in progress (FB_WAKE_PORT is the first in the order of R48 of those in one cycle); `src` none is a change of tolerance. In Deep Off the start sequence follows. -/
def Device.wakeBegin (d : Device) (src : Option Nat) (port : Nat) : Device :=
  let add := match src with
    | some n => fun v => setBit v n true
    | none => fun v => v
  if d.power.waking.isSome then
    let d1 := d.setNum K.fbWakeCause (add (d.nat K.fbWakeCause) : Nat)
    if d1.nat K.fbWakePort = 0xFF || (d.freshWake && port < d1.nat K.fbWakePort) then d1.setNum K.fbWakePort port else d1
  else
    let d1 := ((d.setNum K.fbWakeCause (add 0 : Nat)).setNum K.fbWakePort port).bump K.fbWakes
    let d2 := d1.setPower (fun p => { p with waking := some d.clock.ticks, held := if p.held = 4 then 5 else p.held })
    let d3 := d2.setCellar (fun c => { c with alarmFrom := none })
    if d.nat K.fbState = 4 then d3 else (exitSteps (d.nat K.fbState)).foldl (fun d k => d.queueStep k true) d3

/-- R529 to R531: wake source [src] fires: it aborts an entry, or wakes the part from a sleep state that allows it, or joins the wake from
Deep Off during the start. -/
def Device.fbWake (d : Device) (src port : Nat) : Device :=
  match d.power.entry with
  | some (target, _) => if d.wakeAllowed src target then d.abortEntry 1 else d
  | none => if (d.asleep && d.wakeAllowed src (d.nat K.fbState)) || (!d.asleep && d.power.waking.isSome && d.wakeAllowed src 4)
      then d.wakeBegin (some src) port else d

/-- WAKE (R531): an enabled wake source fires; MT in T5 and a set tamper flag are their sources' premises. -/
def Device.wake (d : Device) (src port : Nat) : Device :=
  if (src = 4 && d.nat K.mtState ≠ 5) || (src = 5 && d.nat K.khTamper = 0) || src = 3 || src = 2 then d
  else if (src = 0 && (port < 4 || 48 ≤ port || d.link (port - 4) ≠ 4)) || (src = 1 && !d.canHap port) then d
  else d.fbWake src (if src < 2 then port else 0xFF)

/-- How many ticks until CELLAR_COUNT reaches a value. -/
def Device.ticksToCount (d : Device) (n : Nat) : Nat := ceilDiv (n * xtalU - d.clock.xtal) xtalTick

/-- WAKE_IN_PIN (R530): WAKE_INn holds a level for the next 2 samples, one at each edge of the crystal. -/
def Device.wakeIn (d0 : Device) (pin : Nat) (level : Bool) : Device :=
  let cfg := d0.nat K.fbWakeInCfg
  if 4 ≤ pin || !bit cfg pin || bit cfg (4 + pin) ≠ level then d0
  else (d0.elapse (d0.ticksToCount (d0.cellarCount + 2))).fbWake 2 0xFF

/-- CELLAR_ALARM (R538): CELLAR_WAKE_AFTER seconds of CELLAR_COUNT have passed since the entry to Park or Deep Off. -/
def Device.cellarAlarm (d : Device) : Device :=
  match d.cellar.alarmFrom with
  | some n => if d.nat K.cellarWakeAfter = 0 then d else (d.elapse (d.ticksToCount (n + 32768 * d.nat K.cellarWakeAfter))).fbWake 3 0xFF
  | none => d

/-- R530: MT that went from another state to T5 fires its wake source. -/
def Device.wakeOnT5 (d d0 : Device) : Device :=
  if d0.nat K.mtState ≠ 5 && d.nat K.mtState = 5 then d.fbWake 4 0xFF else d

/-- R484, R530: a tamper flag newly set fires its wake source. -/
def Device.wakeOnTamper (d d0 : Device) : Device :=
  if d0.nat K.khTamper ≠ d.nat K.khTamper then d.fbWake 5 0xFF else d

/-! ## Exit (R535) -/

/-- Table 10-4: port p leaves its sleep state. -/
def Device.portWake (d : Device) (p : Nat) : Device :=
  if d.link p = 4 then d.setLink p 3 4 else if d.link p = 5 then d.setLink p (if d.nat (K.portPower p) = 1 then 1 else 0) 4 else d

/-- R535: the exit ends; retained frames are the caller's. After Deep Off it ends with the start. -/
def Device.exitDone (d0 : Device) : Device :=
  if d0.power.waking.isNone || d0.power.steps.any (·.exit) || !d0.up then d0 else
  let d := d0.runTo (match d0.power.lastStep with | some (_, ramp) => ramp | none => 0)
  let st := d.nat K.fbState
  if st < 2 then
    (if d.power.configDone && d.clock.mtRun then
      (d.report 0x0202 [d.num K.fbWakeCause, d.num K.fbWakePort, d.addedExit 0]).setPower (fun p => { p with waking := none })
    else d)
  else
    let now := d.clock.ticks
    let d1 := (d.setFbState 0).setNum K.parAdmitStopped 0
    let d2 := (d1.report 0x0A03 [0, 0]).setKeyhole (fun k => { k with rotateFrom := now })
    let d3 := (List.range 4).foldl (fun d c => if fieldNat (d.oct K.studyCoreState) c 1 = 1 then d.setCore c 0 else d) d2
    let d4 := ((List.range 44).foldl (fun d p => d.portWake p) d3).ptpWake
    let d5 := if d4.ledger.begun then d4.openBatch else d4
    let d6 := d5.atticWake.report 0x0202 [d.num K.fbWakeCause, d.num K.fbWakePort, d.addedExit st]
    (d6.setPower (fun p => { p with waking := none, idleFrom := now, xtalAt := now })).setFoyer (fun f => { f with hbLast := now })

/-- LATENCY_TOL (R525): a write sets FB_TARGET; a tolerance that forbids the present state ends it as a wake with cause 0. -/
def Device.writeLatencyTol (d : Device) (v : Nat) : Device :=
  let d1 := (d.setNum K.latencyTol v).setNum K.fbTarget (targetOf v)
  let d2 := d1.abortEntry 4
  let st := d2.nat K.fbState
  if 2 ≤ st then (if targetOf v < st then d2.wakeBegin none 0xFF else d2)
  else if targetOf v = 0 then d2.setFbState 0
  else if d2.power.waking.isNone then d2.setFbState 1 else d2

/-- R527, R529: a HAP request from the owner restarts the idle time and aborts an entry. -/
def Device.ownerActive (d : Device) : Device :=
  (d.abortEntry 2).setPower (fun p => { p with idleFrom := d.clock.ticks })

/-! ## The Cellar (R538, R550, R557) -/

/-- CELLAR_MINUTE (R538): a minute of time in Run, Trim, Doze or Park passes. -/
def Device.cellarMinute (d : Device) : Device :=
  if !d.up then d else
  let t := d.power.minuteAt + 60 * sTicks
  ((d.runTo t).bump K.cellarOpMinutes).setPower (fun p => { p with minuteAt := t })

/-- XTAL_OFFSET_MEASURE (R538): 100 s in Run or Trim with the root LOCKED give the crystal's offset from the root; a lock of the root and a
wake begin them anew. -/
def Device.xtalMeasure (d : Device) : Device :=
  if !d.up || d.asleep || d.nat K.hearthLock ≠ 1 then d else
  let t := d.power.xtalAt + 100 * sTicks
  ((d.runTo t).setNum K.cellarXtalPpb Config.xtalPpb).setPower (fun p => { p with xtalAt := max t d.clock.ticks })

/-- CELLAR_SNAPSHOT (R550): in T3 or T4, at the first crystal edge after the next MT second. -/
def Device.cellarSnapshot (d : Device) : Device :=
  if !d.clock.mtRun || (d.nat K.mtState ≠ 3 && d.nat K.mtState ≠ 4) then d else
  let d1 := d.runToMt ((d.clock.mt / secU + 1) * secU)
  (d1.elapse (d1.ticksToCount (d1.cellarCount + 1))).takeSnapshot

/-- WDT_STARTS_CLEAR (R557): 600 s of CELLAR_COUNT pass without a start of cause 3. -/
def Device.wdtClear (d : Device) : Device :=
  match d.cellar.starts.getLast? with
  | none => d
  | some n =>
    ((d.elapse (d.ticksToCount (n + 600 * 32768))).setCellar (fun c => { c with starts := [] })).setNum K.fbWdtStarts 0

/-- CRYSTAL_STOPPED (R484): the crystal has stopped for more than 1 s. -/
def Device.crystalStopped (d : Device) : Device := (d.setTamper 3).wakeOnTamper d

/-! ## Supplies (R539, R564) -/

/-- VBAT_LOW (R539): VBAT at a level in mV: below 2,500 hold [4] begins, above 2,600 it ends. -/
def Device.vbatLevel (d : Device) (mv : Nat) : Device :=
  let d1 := d.setNum K.fbVbatMv mv
  if mv < 2500 && !d.power.vbatLow then ((d1.setPower (fun p => { p with vbatLow := true })).report 0x0102 [1, mv]).holdCheck
  else if 2600 < mv && d.power.vbatLow then (d1.setPower (fun p => { p with vbatLow := false })).report 0x0102 [0, mv]
  else d1

/-- Table 22-3, R563: the operating range of a rail of Table 20-9 in mV; VDD_CORE's is 4 % about the set point in force (R564). -/
def Device.railRange (d : Device) (rail : Nat) : Nat × Nat :=
  match rail with
  | 1 => (ceilDiv (d.power.avsSet * 96) 100, d.power.avsSet * 104 / 100)
  | 2 => (776, 824)
  | 3 => (825, 875)
  | 4 => (970, 1030)
  | 5 => (1710, 1890)
  | 6 => (1164, 1236)
  | _ => if d.power.vddio33 then (3135, 3465) else (1710, 1890)

/-- RAIL_FAULT (R539): rail 1 to 7 of Table 20-9 has been out of its operating range for more than 10 us, at `mv`. -/
def Device.railFault (d : Device) (rail mv : Nat) : Device :=
  let (lo, hi) := d.railRange rail
  if rail = 0 || 7 < rail || (lo ≤ mv && mv ≤ hi) then d else
  (d.bump K.fbRailFaults).report 0x0207 [rail, mv]

/-- R542, R564: the set point that the AVS loop asks for, within the floor and 850 mV. -/
def Device.avsWanted (d : Device) : Nat :=
  (clamp (d.num K.ageAvsFloor) 850 (Config.avsWanted d.power.replans.length)).toNat

/-- R564: the set point moves by steps of at most 10 mV, 100 us apart, each an AVSBus write; an unacknowledged one ends the run. -/
def Device.avsRun (acked : Bool) : Nat → Device → Device
  | 0, d => d
  | fuel + 1, d =>
    let now := d.nat K.ageAvsNow
    let want := d.avsWanted
    if now = want then d else
    let next := if now < want then min want (now + 10) else max want (now - 10)
    let d1 := d.setNum K.ageAvsNow next
    if acked then ((d1.setPower (fun p => { p with avsSet := next, avsRetry := none })).elapse (100 * usTicks)).avsRun acked fuel
    else d1.setPower (fun p => { p with avsRetry := some d.clock.ticks })

/-- AVS_WRITE_RETRY (R564): the unacknowledged write is repeated 1 ms later. -/
def Device.avsWriteRetry (d : Device) (acked : Bool) : Device :=
  match d.power.avsRetry with
  | none => d
  | some t =>
    let d1 := d.runTo (t + msTicks)
    if acked then
      ((d1.setPower (fun p => { p with avsRetry := none, avsSet := d1.nat K.ageAvsNow })).elapse (100 * usTicks)).avsRun true 64
    else d1.setPower (fun p => { p with avsRetry := some d1.clock.ticks })

/-! ## Ageing (R540 to R543) -/

/-- R540: is the ratio of the first pair of degradation and limit below that of the second. -/
def ratioLt (a b : Int × Int) : Bool := decide (a.1 * b.2 < b.1 * a.2)

/-- R540: the site with the largest ratio among sites `from_` on, the lowest if several. -/
def worstSite (deg : List Int) (from_ : Nat) : Nat :=
  ((List.range 32).filter (fun s => from_ ≤ s)).foldl (fun w s =>
    if ratioLt (deg.getD w 0, Config.siteLimit w) (deg.getD s 0, Config.siteLimit s) then s else w) from_

/-- R542: the AVS floor that a plan asks for: 650 + margin + 150 times the ratio, rounded up to 5 mV. -/
def avsFloor (margin : Nat) (deg lim : Int) : Nat :=
  5 * ceilDiv ((650 + margin) * lim.toNat + 150 * deg.toNat) (5 * lim.toNat)

/-- R543: AGE_LIFE_USED with n = 0.25: 100 times the fourth power of the ratio, rounded up, limited to 100. -/
def lifeUsed (deg lim : Int) : Nat := min 100 (ceilDiv (100 * deg.toNat ^ 4) (lim.toNat ^ 4))

/-- R543: AGE_LIFE_REMAIN in days with n = 0.25 after t minutes. -/
def lifeRemain (t : Nat) (deg lim : Int) : Nat := t * (lim.toNat ^ 4 - deg.toNat ^ 4) / (deg.toNat ^ 4 * 1440)

/-- R541 to R543: a re-plan from the degradations measured (ppm), applied at one tick. -/
def Device.replan (d : Device) (measured : List Int) (acked : Bool) : Device :=
  let first := d.power.replans = []
  let deg := (List.range 32).map (fun s => if first then 0 else measured.getD s 0)
  let w := worstSite deg 0
  let c := worstSite deg 24
  let t := d.nat K.cellarOpMinutes
  let dw := deg.getD w 0
  let fit := d.power.replans ++ [((dw * 1000000 / Config.siteLimit w).toNat, t)]
  let late := 3 ≤ fit.length
  let used := if late then Config.lifeFit fit 0 % 101 else lifeUsed dw (Config.siteLimit w)
  let remain := if late || dw ≤ 0 then Config.lifeFit fit 1 % 2 ^ 32 else lifeRemain t dw (Config.siteLimit w)
  let asked := max (d.nat K.ageAvsFloor) (avsFloor (d.nat K.ageAvsMargin) (deg.getD c 0) (Config.siteLimit c))
  let trim := Config.tdcTrim (deg.getD 24 0) % 65536
  let rates := d.hold.rates
  let d1 := (List.range 32).foldl (fun d s => d.setNum (K.siteDegrade s) (deg.getD s 0)) d
  let old := d1.nat K.ageLifeUsed
  let d2 := d1.setNums [(K.ageAvsFloor, min 850 asked), (K.tdcTrim, trim), (K.ageLifeUsed, used), (K.ageLifeRemain, remain),
    (K.ageWorstSite, w), (K.ageLastReplan, t)]
  let d3 := if rates = [] then d2 else d2.setNum K.hoAgeingPrior (rates.sum / rates.length)
  let d4 := (d3.setHold (fun h => { h with rates := [] })).setPower (fun p => { p with replans := fit })
  let d5 := d4.report 0x0205 [min 850 asked, trim, used, w]
  let d6 := if old < 80 && 80 ≤ used then d5.report 0x0206 [1, remain] else d5
  let d7 := if 850 ≤ asked then d6.report 0x0206 [2, remain] else d6
  let d8 := if old < 100 && used = 100 then d7.report 0x0206 [3, remain] else d7
  if d8.clock.mtRun then d8.avsRun acked 64 else d8

/-- MARGIN_REPLAN (R541): a re-plan that is due, in Run or Trim; operating minutes pass until it is. -/
def Device.marginReplan (d : Device) (measured : List Int) (acked : Bool) : Device :=
  if !d.up || d.asleep || d.nat K.cellarOpMinutes < d.nat K.ageLastReplan + d.nat K.ageReplanDays * 1440 then d else d.replan measured acked

/-- R544: the pairing rule of group 0x0F over the viewed values. -/
def healthPairs (v : Nat → Int) : List Nat :=
  breaks (850 < v K.ageAvsFloor + v K.ageAvsMargin) [K.ageAvsFloor, K.ageAvsMargin]

/-! ## Meanings -/

/-- IDLE_TIME_EXPIRY. -/
def execIdleTimeExpiry (s : State) : Host.Outcome State Fault Refusal := .next (s.on (·.idleExpiry))
/-- POWER_ENTRY_COMPLETE. -/
def execPowerEntryComplete (s : State) : Host.Outcome State Fault Refusal := .next (s.on (·.entryComplete))
/-- WAKE. -/
def execWake (source port : Nat) (s : State) : Host.Outcome State Fault Refusal := .next (s.on (·.wake source port))
/-- WAKE_IN_PIN. -/
def execWakeInPin (pin : Nat) (level : Bool) (s : State) : Host.Outcome State Fault Refusal := .next (s.on (·.wakeIn pin level))
/-- CELLAR_ALARM. -/
def execCellarAlarm (s : State) : Host.Outcome State Fault Refusal := .next (s.on (·.cellarAlarm))
/-- MARGIN_REPLAN. -/
def execMarginReplan (degrade : List Int) (acked : Bool) (s : State) : Host.Outcome State Fault Refusal :=
  .next (s.on (·.marginReplan degrade acked))
/-- AVS_WRITE_RETRY. -/
def execAvsWriteRetry (acked : Bool) (s : State) : Host.Outcome State Fault Refusal := .next (s.on (·.avsWriteRetry acked))
/-- CELLAR_MINUTE. -/
def execCellarMinute (s : State) : Host.Outcome State Fault Refusal := .next (s.on (·.cellarMinute))
/-- XTAL_OFFSET_MEASURE. -/
def execXtalOffsetMeasure (s : State) : Host.Outcome State Fault Refusal := .next (s.on (·.xtalMeasure))
/-- CELLAR_SNAPSHOT. -/
def execCellarSnapshot (s : State) : Host.Outcome State Fault Refusal := .next (s.on (·.cellarSnapshot))
/-- VBAT_LOW. -/
def execVbatLow (mv : Nat) (s : State) : Host.Outcome State Fault Refusal := .next (s.on (·.vbatLevel mv))
/-- RAIL_FAULT. -/
def execRailFault (rail mv : Nat) (s : State) : Host.Outcome State Fault Refusal := .next (s.on (·.railFault rail mv))
/-- CRYSTAL_STOPPED. -/
def execCrystalStopped (s : State) : Host.Outcome State Fault Refusal := .next (s.on (·.crystalStopped))
/-- WDT_STARTS_CLEAR. -/
def execWdtStartsClear (s : State) : Host.Outcome State Fault Refusal := .next (s.on (·.wdtClear))
/-- TAMPER_INPUT (R484, R530): the flag may wake the part. -/
def execTamperInput (pin : Nat) (s : State) : Host.Outcome State Fault Refusal :=
  .next (s.on (fun d => (d.tamperInput pin).wakeOnTamper d))
/-- BOUND_UPDATE: T5 may wake the part. -/
def execBoundUpdate (s : State) : Host.Outcome State Fault Refusal := .next (s.on (fun d => d.boundUpdate.wakeOnT5 d))
/-- COMPAT_TIMER_EXPIRY: T5 may wake the part. -/
def execCompatTimerExpiry (s : State) : Host.Outcome State Fault Refusal := .next (s.on (fun d => d.compatExpiry.wakeOnT5 d))
/-- SELECTION_EVALUATION: T5 may wake the part. -/
def execSelectionEvaluation (stuck : List (Nat × Nat)) (s : State) : Host.Outcome State Fault Refusal :=
  .next (s.on (fun d => (d.evaluate stuck).wakeOnT5 d))

end Sys2Proof.Machine
end

