-- ==== Sys2Proof/Machine/Commit.lean ====
section
/-! DEFINITION. The commit engine (02_management_access.md, R67 to R74, R282, R579, R580): checking a request, switching groups and
units, scheduled actions, port power-ups that wait for the sequencer. -/

namespace Sys2Proof.Machine

/-- The part with the commit engine changed. -/
def Device.setCommit (d : Device) (f : CommitEngine → CommitEngine) : Device := { d with commit := f d.commit }

/-- The Ethernet port that carries the owner. -/
def Device.ownerPort (d : Device) : Option Nat := d.foyer.owner.bind (fun o => if 4 ≤ o.transport then some (o.transport - 4) else none)

/-! ## Pairing rules that span chapters (R65, R98, R103, R255, R479) -/

/-- R98: entries 1 to UTC_LEAP_COUNT rise, lie a day apart, and each offset differs by 1 from the one before; an entry at fault is named. -/
def leapPairs (v : Nat → Val) : List Nat :=
  let base := (v K.utcBaseOffset).int
  let tab := leapTable v
  ((List.range tab.length).filter (fun i =>
    let e := tab.getD i (0, 0)
    let p := if i = 0 then none else tab[i - 1]?
    (e.2 - (p.map (·.2)).getD base).natAbs ≠ 1 || p.any (fun q => e.1 < q.1 + 86400))).map (fun i => K.utcLeapEntry i)

/-- R103: the domains that would read earlier than 0 s, the part being as it stands at the commit tick. -/
def Device.domPairs (d : Device) (v : Nat → Val) : List Nat :=
  ((List.range 8).filter (fun n => d.domIfApplied n (v (K.domOffset n)).int ((v (K.instDomMode n)).int = 0) true < 0)).map (fun n => K.domOffset n)

/-- R102, R409: what Dn reads just after the viewed offset and mode have switched at this tick. -/
def Device.domSwitched (d : Device) (v : Nat → Val) (n : Nat) : Int :=
  d.domIfApplied n (v (K.domOffset n)).int ((v (K.instDomMode n)).int = 0) false

/-- R255, R69: a value of a scale as an MT instant, in MT's unit, the part being as it stands at the commit tick and the viewed
leap-second table and domain settings in force. -/
def Device.scaleToMt (d : Device) (v : Nat → Val) (sc : Nat) (x : Int) : Int :=
  if sc = 0 then x
  else if sc = 1 then utcReach x (v K.utcBaseOffset).int 0 (leapTable v)
  else if sc = 2 then x + 19 * secU
  else
    let servo := if (v (K.instDomMode (sc - 3))).int = 0 then 0 else d.clock.servo.getD (sc - 3) 0
    d.clock.mt + (x - d.domSwitched v (sc - 3)) * 2 ^ 48 / (2 ^ 48 + (v (K.domRate (sc - 3))).int + servo / tickU)

/-- R255: the rules of group 0x06 for OUTn, the part being as it stands at the commit tick; the live record is `old`, and the switch is taken at MT
instant `sw` (MT's unit). -/
def Device.outPair (d : Device) (v : Nat → Val) (old : OutRec) (n sw : Nat) : List Nat :=
  let r := outRec v n
  let pin := pin10 (d.scaleToMt v r.scale (r.start * fracU : Nat) - psU r.delay)
  breaks r.tooWide [K.outWidth n, K.outRateDen n, K.outRateNum n] ++ breaks r.tooWidePps [K.outWidth n]
  ++ breaks (r.startsLate old pin sw) [K.outStart n]

/-- R65: the rules of group 0x10. -/
def hapPairs (v : Nat → Int) (owner : Option Partner) : List Nat :=
  (match owner with
    | some o => if 4 ≤ o.transport then breaks (!bit (v K.hapUdpPortMask).toNat (o.transport - 4)) [K.hapUdpPortMask]
      else breaks (!bit (v K.hapCanMask).toNat o.transport) [K.hapCanMask]
    | none => [])
  ++ breaks (v K.hapCanReqId = v K.hapCanRspId) [K.hapCanReqId, K.hapCanRspId]
  ++ breaks (v K.hapCanReqId = v K.hapCanHbId) [K.hapCanReqId, K.hapCanHbId]
  ++ breaks (v K.hapCanRspId = v K.hapCanHbId) [K.hapCanRspId, K.hapCanHbId]

/-- R479: with NTS-KE enabled its key slot is ACTIVE with use TLS_SERVER. -/
def Device.ntskePairs (d : Device) (v : Nat → Int) : List Nat :=
  let k := (v K.ntskeKeySlot).toNat
  breaks (v K.ntskeEnable = 1 && (d.nat (K.ksState k) ≠ 2 || d.nat (K.ksUse k) ≠ 2)) [K.ntskeEnable, K.ntskeKeySlot]

/-- R69, R580: the objects at which a commit of `groups` is found inconsistent; it switches `soon` ticks from now at the earliest (R103), and R255 takes it
at MT instant `sw`; `mem` names the staged copies that fail their group's CRC (R30). -/
def Device.conflicts (d : Device) (groups soon sw : Nat) (mem : List Nat) : List Nat :=
  let v := d.view groups
  let n := fun k => (v k).int
  let sel := fun g => bit groups g
  let own := d.ownerPort
  let one := fun (c : Bool) (r : List Nat) => if c then r else []
  let all := fun (c : Bool) (u : Nat) (f : Nat → List Nat) => if c then ((List.range u).map f).flatten else []
  mem.filter (fun k => groupOf k ≠ 0 && sel (groupOf k))
  ++ all (sel 1) 4 (ckoPairs n) ++ one (sel 2) (refPairs n) ++ one (sel 3) (skyPairs n)
  ++ all (sel 4) 24 (tdcPairs n d.num) ++ one (sel 5) (leapPairs v) ++ one (sel 5) ((d.elapse soon).domPairs v)
  ++ all (sel 6) 16 (fun u => (d.runToMt sw).outPair v (outRec d.val u) u sw) ++ all (sel 8 || sel 9) 44 (portPairs v d.val own)
  ++ one (sel 10) (fwdPairs v own) ++ all (sel 11 || sel 9) 44 (gatePairs v)
  ++ one (sel 10 || sel 11 || sel 12) (queuePairs v) ++ one (sel 12 || sel 14) (ringPairs v (n K.ledgerPeriod).toNat)
  ++ one (sel 12) (d.ntskePairs n) ++ all (sel 13 || sel 5) 8 (instPairs v)
  ++ one (sel 14) (d.ledgerPairs v) ++ one (sel 15) (healthPairs n) ++ one (sel 16) (hapPairs n d.foyer.owner)

/-! ## Requests (R69 to R72) -/

/-- Table 2-13: a commit request. -/
structure CommitReq where
  groups : Nat
  mode : Nat
  slot : Nat
  rsv : Nat
  inst : Nat
  nsBad : Bool
  deriving DecidableEq, Repr

/-- Table 2-13: the fields of the 24 bytes. -/
def commitReq (b : Bytes) : CommitReq :=
  { groups := fieldNat b 0 8, mode := fieldNat b 8 1, slot := fieldNat b 9 1, rsv := fieldNat b 10 2, inst := time96Of (field b 12 12)
    nsBad := time96Bad (field b 12 12) }

/-- R66, R69 to R72: the first failed check of a commit request by rank, with COMMIT_CONFLICT_OBJ for 0x1006. -/
def Device.commitRefused (d : Device) (r : CommitReq) (mem : List Nat) : Option (Nat × Nat) :=
  let sched := r.mode = 1
  let soon := if sched then d.ticksToMt (r.inst * fracU) else 0
  if r.groups = 0 || bit r.groups 0 || 2 ^ 17 ≤ r.groups || 2 ≤ r.mode || r.rsv ≠ 0
    || (sched && ((16 ≤ r.slot && r.slot ≠ 0xFF) || r.nsBad)) then some (St.range, 0)
  else if (groupsOf r.groups).any d.frozen then some (St.state, 0)
  else if sched && (d.pickSlot r.slot).isNone then some (St.full, 0)
  else match (d.conflicts r.groups soon (if sched then r.inst * fracU else d.clock.mt + 1000000 * nsU) mem).min? with
    | some k => some (St.conflict, k * 256 + groupOf k)
    | none => if sched && r.inst * fracU < d.clock.mt + 1000000 * nsU then some (St.past, 0) else none

/-- COMMIT_IMMEDIATE, COMMIT_SCHEDULED (R69 to R72): a write to COMMIT_REQUEST; no status yet for an accepted immediate commit. -/
def Device.writeCommit (d0 : Device) (b : Bytes) (mem : List (Nat × MemErr)) (src : Partner) (xl : Bool) (opcode txn : Nat) : Option Nat × Device :=
  let r := commitReq b
  let met := mem.filter (fun e => groupOf e.1 ≠ 0 && bit r.groups (groupOf e.1))
  let d := met.foldl (fun d e => d.memError e.2) d0
  match d.commitRefused r ((met.filter (·.2.fatal)).map (·.1)) with
  | some (st, obj) =>
    let d1 := if st = St.conflict then d.setNum K.commitConflictObj obj else d
    (some st, d1.report 0x0F05 [(r.groups % 2 ^ 32 : Nat), st, d1.num K.commitConflictObj])
  | none =>
    if r.mode = 1 then match d.pickSlot r.slot with
      | some n => (some St.ok, d.fillSlot n 1 r.inst { groups := r.groups, amount := 0 })
      | none => (some St.full, d)
    else
      let c : ImmCommit := { groups := r.groups, since := d.clock.ticks, src := src, xl := xl, opcode := opcode, txn := txn }
      (none, d.setCommit (fun e => { e with imm := e.imm ++ [c] }))

/-- COMMIT_DISCARD (R68): the staged copies of the selected groups revert, unless one of them is frozen. -/
def Device.writeDiscard (d : Device) (mask : Nat) : Nat × Device :=
  if mask % 2 = 1 || 2 ^ 17 ≤ mask then (St.range, d)
  else if (groupsOf mask).any d.frozen then (St.state, d)
  else (St.ok, (groupsOf mask).foldl (fun d g => d.revertGroup g) d)

/-! ## Switching (R70, R73) -/

/-- R70: unit u of group g takes its staged values. -/
def Device.applyUnit (d : Device) (g u : Nat) : Device :=
  let mine := d.staged.filter (fun e => groupOf e.1 = g && unitOf g e.1 = u)
  let rest := d.staged.filter (fun e => !(groupOf e.1 = g && unitOf g e.1 = u))
  mine.foldl (fun d e => d.setVal e.1 e.2) { d with staged := rest }

/-- R70, R121, R282: can unit u of a per-unit group apply now, the sequencer's grant of a power-up apart. -/
def Device.unitReady (d : Device) (g u : Nat) (stuck : List (Nat × Nat)) : Bool :=
  !stuck.contains (g, u) && !(g = 1 && d.nat K.hearthLock ≠ 1) && !(g = 9 && (d.link u = 4 || d.link u = 5))

/-- R282: does unit u of group 0x08 power its port up. -/
def Device.powersUp (d : Device) (u : Nat) : Bool := (d.stagedVal (K.portPower u)).int = 1 && d.link u = 0

/-- A port's link or address may have changed: PTP follows, and what was reserved on a port that left UP is gone (R369, R395, R436). -/
def Device.portFollow (d : Device) (d0 : Device) (p : Nat) : Device :=
  let d1 := if d0.link p = 3 && d.link p ≠ 3 then (d.parlLinkLost p).ledgerLinkLost p else d
  d1.ptpLink p

/-- The effect of group g's switch on the units `us` that applied; `d0` is the part before, `slot` the commit's slot or 0xFF. -/
def Device.groupHook (d : Device) (d0 : Device) (slot g : Nat) (us : List Nat) : Device :=
  if g = 1 then us.foldl (fun d u => d.ckoStart u) d
  else if g = 2 then (if us = [] then d else (d.thermCommitted d0.val).useChanged d0)
  else if g = 3 then (if us = [] then d else d.skyCommitted)
  else if g = 4 then us.foldl (fun d u => d.chApplied u) d
  else if g = 5 then
    let d1 := (d.syncUtc 1).outsStepped (fun sc => sc = 1) ((d0.utcOffset - d.utcOffset) * secU)
    (List.range 8).foldl (fun d n =>
      if !d0.bound n && d.bound n then d else d.domOffsetChange n (d.num (K.domOffset n) - d0.num (K.domOffset n))) d1
  else if g = 6 then us.foldl (fun d u => d.outSwitch u (outRec d0.val u) (d0.outPin u d.rootPs)) d
  else if g = 8 then us.foldl (fun d u => (d.applyPower u).portFollow d u) d
  else if g = 9 then us.foldl (fun d u => (d.applyPortCfg u d0.val).portFollow d u) d
  else if g = 10 then (if us = [] then d else d.fwdSwitched)
  else if g = 11 then d.gatesSwitched d0.val slot
  else if g = 12 then (if us = [] then d else (List.range 64).foldl (fun d r => d.ringApplied r d0.val) d)
  else if g = 13 then us.foldl (fun d u =>
    d.instSwitched u d0.val ((d0.staged.filter (fun e => groupOf e.1 = 13 && unitOf 13 e.1 = u)) ≠ [])) d
  else if g = 14 then d.noteLoss d0
  else d

/-- R70, R73: the selected groups switch: the time-affecting ones first (0x0D before 0x05, so that an offset committed with a free
domain steps), then the per-unit ones. Answers the ports that wait for a grant and whether a unit did not apply. -/
def Device.switchGroups (d0 : Device) (groups slot : Nat) (stuck : List (Nat × Nat)) : Device × List Nat × Bool :=
  let timed := [7, 6, 11, 13, 5].filter (fun g => bit groups g)
  let d0' := if bit groups 11 then d0.bringAllCredits else d0
  let d1 := timed.foldl (fun d g => (List.range (groupUnits g)).foldl (fun d u => d.applyUnit g u) d) d0'
  let d2 := [13, 5, 7, 6, 11].foldl (fun d g => if bit groups g then
    (d.groupHook d0 slot g (List.range (groupUnits g))).setUnitMask g (List.range (groupUnits g)) else d) d1
  let per := (groupsOf groups).filter (fun g => !groupTimed g)
  let wait := if bit groups 8 then (List.range 44).filter (fun u => d0.powersUp u && !stuck.contains (8, u)) else []
  let ready := fun (d : Device) (g : Nat) => (List.range (groupUnits g)).filter (fun u =>
    d.unitReady g u stuck && !(g = 8 && wait.contains u))
  let d3 := per.foldl (fun d g =>
    let us := ready d g
    let d' := us.foldl (fun d u => d.applyUnit g u) d
    (d'.groupHook d slot g us).setUnitMask g us) d2
  let bad := per.any (fun g => (List.range (groupUnits g)).any (fun u => !(d2.unitReady g u stuck) && !(g = 8 && wait.contains u)))
  (d3, wait, bad)

/-- R50, R70, R74, R91: an accepted commit ends with a status: its slot, if any, becomes FREE with the outcome, and an immediate commit is
answered with the value of COMMIT_LAST_STATUS. -/
def Device.commitEnds (d : Device) (groups slot status : Nat) (imm : Option ImmCommit) : Device :=
  let d1 := if slot < 16 then d.endSlot slot status else d.setNum K.commitLastStatus status
  let d2 := (d1.report 0x0F04 [(groups % 2 ^ 32 : Nat), slot, status]).freeGroups groups
  match imm with
  | some c => if c.opcode = 0 then d2 else d2.respond c.src c.xl c.opcode 0x7010 1 c.txn status []
  | none => d2

/-- R70, R282: the groups switch; the commit ends now, or once the sequencer has granted its power-ups or 1 ms has passed. -/
def Device.runCommit (d : Device) (groups slot since : Nat) (imm : Option ImmCommit) (stuck : List (Nat × Nat)) : Device :=
  let (d1, wait, bad) := d.switchGroups groups slot stuck
  if wait = [] then d1.commitEnds groups slot (if bad then St.state else St.ok) imm
  else
    let d2 := wait.foldl (fun d p => if d.power.steps.any (fun s => s.kind = 16 + p) then d else d.queueStep (16 + p) false) d1
    d2.setCommit (fun e => { e with
      grants := e.grants ++ [{ src := d.foyer.cause, waiting := wait, since := since, groups := groups, slot := slot, bad := bad, imm := imm }] })

/-- COMMIT_SWITCH (R70): every unit of the commit's time-affecting groups is latched ready no later than 1 ms after acceptance; per-unit
groups alone have no such limit. -/
def Device.commitSwitch (d : Device) (groups : Nat) (stuck : List (Nat × Nat)) : Device :=
  match d.commit.imm.find? (fun c => c.groups = groups) with
  | none => d
  | some c =>
    if timedStuck groups stuck || ((groupsOf groups).any groupTimed && c.since + msTicks < d.clock.ticks) then d
    else (d.setCommit (fun e => { e with imm := e.imm.erase c })).causedBy c.src.transport (·.runCommit groups 0xFF c.since (some c) stuck)

/-- COMMIT_READY_TIMEOUT (R70): 1 ms after acceptance a unit of a time-affecting group is not ready: nothing changes. -/
def Device.commitTimeout (d0 : Device) (groups : Nat) : Device :=
  match d0.commit.imm.find? (fun c => c.groups = groups) with
  | none => d0
  | some c =>
    if !(groupsOf groups).any groupTimed then d0 else
    let d := (d0.runTo (c.since + msTicks)).setCommit (fun e => { e with imm := e.imm.erase c })
    (d.noneApplied groups).causedBy c.src.transport (·.commitEnds groups 0xFF St.state (some c))

/-- R92, R93: the action of slot n executes on the tick that has come. -/
def Device.executeSlot (d : Device) (stuck : List (Nat × Nat)) (n : Nat) : Device :=
  d.causedBy (d.slot n).src (fun d =>
    if d.nat (K.slotKind n) = 2 then
      (if d.stepAllowed (d.slot n).amount then (d.endSlot n St.ok).commandedNow (d.slot n).amount n else d.abandonSlot n St.state)
    else d.runCommit (d.slot n).groups n d.clock.ticks none stuck)

/-- SLOT_EXECUTE (R92 to R94): MT reaches the next INSTANT, and the actions latched for that tick execute in slot order; then those that a
step of the tick passes are abandoned or latch (Table 3-7). -/
def Device.slotExecute (d0 : Device) (stuck : List (Nat × Nat)) : Device :=
  let held := (List.range 16).filter (fun n => d0.slotState n = 2 && !d0.executing n)
  match (held.map d0.slotInst).min? with
  | none => d0
  | some t =>
    if !d0.clock.mtRun then d0 else
    let d := d0.runToMt t
    let (d1, top) := (held.filter (fun n => d.slotInst n ≤ d.clock.mt)).foldl (fun x n =>
      let e := x.1.executeSlot stuck n
      (e, max x.2 e.clock.mt)) (d, d.clock.mt)
    d1.slotsStepped d.clock.mt top stuck

/-! ## Port power-ups (R282, R533, R552) -/

/-- R282: the sequencer starts port p's step: its unit applies for a commit that waits, or the port follows its live setting. -/
def Device.grantPort (d : Device) (p : Nat) : Device :=
  match d.commit.grants.find? (fun g => g.waiting.contains p) with
  | none => if d.nat (K.portPower p) = 1 && d.link p = 0 then (d.applyPower p).portFollow d p else d
  | some g =>
    let d1 := d.applyUnit 8 p
    let d2 := (d1.applyPower p).portFollow d1 p
    let d3 := d2.setNum (K.commitUnitMask 7) (setBit (d2.nat (K.commitUnitMask 7)) p true : Nat)
    let rest := g.waiting.filter (· ≠ p)
    if rest = [] then
      (d3.setCommit (fun e => { e with grants := e.grants.erase g })).causedBy g.src
        (·.commitEnds g.groups g.slot (if g.bad then St.state else St.ok) g.imm)
    else d3.setCommit (fun e => { e with grants := e.grants.map (fun x => if x = g then { x with waiting := rest } else x) })

/-- POWER_UP_GRANT_TIMEOUT (R282): 1 ms after acceptance the power-ups that were not granted stay staged, and the commit ends. -/
def Device.grantTimeout (d0 : Device) : Device :=
  match d0.commit.grants with
  | [] => d0
  | g :: rest =>
    let d := d0.runTo (g.since + msTicks)
    let d1 := d.setPower (fun p => { p with steps := p.steps.filter (fun s => !(16 ≤ s.kind && g.waiting.contains (s.kind - 16))) })
    let d2 := (d1.setNum K.fbSeqQueue d1.power.steps.length).setCommit (fun e => { e with grants := rest })
    d2.causedBy g.src (·.commitEnds g.groups g.slot St.state g.imm)

/-- R282, R533: commits whose power-ups would be granted more than 1 ms after acceptance end first, and those ports stay DISABLED. -/
def Device.lateGrants (d : Device) : Device :=
  d.commit.grants.foldl (fun d _ =>
    if d.power.nextStep.isSome && d.commit.grants.head?.any (fun g => g.since + msTicks < max d.clock.ticks d.stepStart) then d.grantTimeout else d) d

/-- SEQUENCER_STEP_START (R282, R533): the next step starts; a port's step powers the port up. -/
def Device.sequencerStep (d0 : Device) : Device :=
  let d := d0.lateGrants
  match d.startStep with
  | none => d
  | some (s, d1) => if 16 ≤ s.kind then d1.grantPort (s.kind - 16) else d1

/-- PORT_POWER_RECOMMIT (R552): after the configuration load firmware commits group 0x08 again, 1 ms later, until every unit applied. -/
def Device.portRecommit (d0 : Device) : Device :=
  if !d0.power.configDone || d0.commit.grants ≠ [] || d0.frozen 8 || !(List.range 44).any (fun p => d0.powersUp p && (Store.find (K.portPower p) d0.staged).isSome)
  then d0 else
  let d := d0.elapse msTicks
  let c : ImmCommit := { groups := 2 ^ 8, since := d.clock.ticks, src := { transport := 0xFE, addr := [], port := 0 }, xl := false, opcode := 0, txn := 0 }
  match d.commitRefused { groups := 2 ^ 8, mode := 0, slot := 0, rsv := 0, inst := 0, nsBad := false } [] with
  | some (st, obj) => (if st = St.conflict then d.setNum K.commitConflictObj obj else d).report 0x0F05 [2 ^ 8, st, obj]
  | none => d.runCommit (2 ^ 8) 0xFF d.clock.ticks (some c) []

/-! ## Meanings -/

/-- COMMIT_SWITCH. -/
def execCommitSwitch (groups : Nat) (stuck : List (Nat × Nat)) (s : State) : Host.Outcome State Fault Refusal :=
  .next (s.on (·.commitSwitch groups stuck))
/-- COMMIT_READY_TIMEOUT. -/
def execCommitReadyTimeout (groups : Nat) (s : State) : Host.Outcome State Fault Refusal := .next (s.on (·.commitTimeout groups))
/-- SLOT_EXECUTE. -/
def execSlotExecute (stuck : List (Nat × Nat)) (s : State) : Host.Outcome State Fault Refusal := .next (s.on (·.slotExecute stuck))
/-- SEQUENCER_STEP_START. -/
def execSequencerStepStart (s : State) : Host.Outcome State Fault Refusal := .next (s.on (·.sequencerStep))
/-- POWER_UP_GRANT_TIMEOUT. -/
def execPowerUpGrantTimeout (s : State) : Host.Outcome State Fault Refusal := .next (s.on (·.grantTimeout))
/-- PORT_POWER_RECOMMIT. -/
def execPortPowerRecommit (s : State) : Host.Outcome State Fault Refusal := .next (s.on (·.portRecommit))

end Sys2Proof.Machine
end

