-- ==== Sys2Proof/Machine/Pins.lean ====
section
/-! DEFINITION. What the pins and links show that the chapters give beside their own state (10_ports.md Table 10-7, 21_startup_and_reset.md
Table 21-5, 22_pins_and_electrical.md): reset, absence, FAULT, the interrupt line, the supply request, the flash port; and the clocks that
Trim gates. OUT and TIME_VALID stand in Outputs, the clock outputs in Cko. -/

namespace Sys2Proof.Machine

/-- R295, R554: is the part absent toward its partners: before the first root lock, in reset, or in Deep Off. -/
def Device.absent (d : Device) : Bool := !d.clock.mtRun

/-- Table 10-7: what the medium of an Ethernet port sees of it. -/
inductive PortFace where
  | highZ | silent | active
  deriving DecidableEq, Repr

/-- Table 10-7, Table 10-4: port p's face: high-impedance or silent when absent, silent in FAULT and in every state in which it does not
send. Training is activity on P16 to P43. -/
def Device.portFace (d : Device) (p : Nat) : PortFace :=
  let idle : PortFace := if p < 16 && (d.absent || d.link p = 0) then .highZ else .silent
  if d.absent || d.nat K.hearthLock = 3 then idle
  else if d.link p = 3 || (16 ≤ p && d.link p = 2) || (16 ≤ p && d.link p = 4) then .active else idle

/-- Table 10-7, Table 10-9: what CANn_TXD shows outside a frame: high-impedance when absent, recessive (high) otherwise; a frame is sent only
by an active controller, never in FAULT (`Device.canActive`). -/
def Device.canTxd (d : Device) : Pin := if d.absent then .hiZ else .high

/-- R294: XPHY_RST_N0 to 7: high-impedance when absent, else low while the bit of XPHY_RESET is set. A FAULT leaves it (Table 10-7). -/
def Device.xphyRstN (d : Device) (n : Nat) : Pin :=
  if d.absent then .hiZ else Pin.of (!bit (d.nat K.xphyReset) n)

/-- Table 21-5, R497: IRQ_N, an open-drain output: low while an unmasked doorbell pends. -/
def Device.irqN (d : Device) : Pin := if d.absent || !d.irqLow then .hiZ else .low

/-- R536: SYS_PWR_EN: low from the end of a Deep Off entry until a wake, else high; VBAT is present (Table 21-5). -/
def Device.sysPwrEn (d : Device) : Pin := Pin.of (d.power.held ≠ 4)

/-- Table 7-1, Table 21-5: does ANT_BIAS carry the antenna's supply: in NORMAL and OPEN; the switch is open in SHORT. -/
def Device.antBiasOn (d : Device) : Bool := d.up && (d.nat K.skyAntState = 1 || d.nat K.skyAntState = 2)

/-- R571: XSPI_RST_N is low while the internal reset is held, Deep Off included. -/
def Device.xspiRstN (d : Device) : Pin := Pin.of d.up

/-- Table 21-5: is the flash port's chip select driven: from the release on, by the ROM. -/
def Device.xspiDriven (d : Device) : Bool := d.up

/-- R571: the flash port's highest rate in MHz: 25 in 1S-1S-1S while the ROM reads SFDP; in 8D-8D-8D by the class of VDDIO. -/
def Device.xspiMHz (d : Device) : Nat := if !d.up then 0 else if !d.power.flash8d then 25 else if d.power.vddio33 then 100 else 200

/-- R524: does Trim gate the clock of port p's MAC. -/
def Device.macGated (d : Device) (p : Nat) : Bool := d.nat K.fbState = 1 && !d.portUp p

/-- R524: does Trim gate the acquisition engine: no dwell has ended within the last 100 ms, so no search is open (DEDUCED). -/
def Device.acqGated (d : Device) : Bool := d.nat K.fbState = 1 && d.sky.slots.all (fun t => t + 100 * msTicks ≤ d.clock.ticks)

/-- R524: does Trim gate the Fabric units' clocks: they hold no frame, request or job. -/
def Device.fabricGated (d : Device) : Bool :=
  d.nat K.fbState = 1 && d.copies.isEmpty && d.parl.rx.isEmpty && d.flying.isEmpty && d.strong.jobs.isEmpty

/-- R524: does Trim gate core c: it is stopped, or it has no runnable work, which its firmware alone knows (`busy`). -/
def Device.coreGated (d : Device) (c : Nat) (busy : Bool) : Bool := d.nat K.fbState = 1 && (!d.coreRuns c || !busy)

end Sys2Proof.Machine
end

