-- ==== Sys2Proof/Machine/Startup.lean ====
section
/-! DEFINITION. Start-up and reset (21_startup_and_reset.md), secure boot (R476, R477, R482), the root's lock and its loss for the
whole part, the configuration store, firmware images (R491 to R493). -/

namespace Sys2Proof.Machine

/-! ## Restart (R547 to R549) -/

/-- Table 21-2, R542: the objects that a restart keeps while VBAT holds. -/
def keptKeys : List Nat :=
  [K.cellarOpMinutes, K.cellarPowerCycles, K.khTamper, K.khTamperCfg, K.cellarSeedPpm, K.cellarSeedMax, K.cellarSnapTime,
    K.cellarSnapUnc, K.ageAvsFloor, K.fbWdtStarts]

/-- R549: the part as a restart leaves it: what Table 21-2 lists, every other object at its default; `cold` says that VBAT was lost. -/
def Device.restart (d : Device) (cause : Nat) (cold : Bool) : Device :=
  let fresh : Device :=
    { draws := d.draws, outbox := d.outbox, models := d.models
      clock := { ticks := d.clock.ticks, xtal := if cold then 0 else d.clock.xtal }
      attic := { d.attic with pending := [], reports := [], lastSeen := [] }
      cellar := if cold then {} else { d.cellar with alarmFrom := none }
      keyhole := { helper := d.keyhole.helper, provisioned := d.keyhole.provisioned, cosign := d.keyhole.cosign, rollback := d.keyhole.rollback,
                   copies := d.keyhole.copies, cellarGen := if cold then none else d.keyhole.cellarGen }
      study := { images := d.study.images, passed := d.study.passed, flag := d.study.flag, cfg := d.study.cfg }
      power := { held := cause, cause := cause, replans := if cold then [] else d.power.replans, vbatLow := d.power.vbatLow } }
  if cold then fresh else keptKeys.foldl (fun f k => f.setVal k (d.val k)) fresh

/-- R547, R548: the internal reset is asserted for a cause; of several causes of one start, in Deep Off too, the lowest stays. -/
def Device.assertReset (d : Device) (cause : Nat) (cold : Bool) : Device :=
  let c := if d.power.held = 0 || d.power.cause = 0 then cause else min cause d.power.cause
  if d.power.held = 0 || 4 ≤ d.power.held || cold then d.restart c cold
  else d.setPower (fun p => { p with held := min p.held cause, cause := min p.cause cause })

/-- SUPPLY_RESET (R547, R536): a monitored rail falls; `vbat` says VBAT is lost with it, `torn` that it cut a record's write in flash
(R511). In Deep Off the board may take the rails: the part stays there, and its start is a power-on. -/
def Device.supplyReset (d : Device) (vbat torn : Bool) : Device :=
  if d.power.held = 4 && !vbat then d.setPower (fun p => { p with cause := 1 })
  else
    let cut := torn && d.coreRuns 3 && !d.asleep && d.attic.pending ≠ []
    (if cut then d.setAttic (fun a => { a with torn := some a.pos }) else d).assertReset 1 vbat

/-- DEVICE_WATCHDOG (R556): the cores have been halted for FB_DEV_WDT_DELAY, or the configuration load is 2 s late. -/
def Device.deviceWatchdog (d : Device) : Device :=
  let halted := (List.range 4).filterMap (fun c => d.study.haltedAt.getD c none)
  let delay := d.nat K.fbDevWdtDelay * sTicks
  let first := halted.min?
  let second := first.bind (fun t => (halted.erase t).min?)
  let due := (second.map (· + delay)).toList ++ ((d.study.haltedAt.getD 3 none).map (· + delay)).toList
    ++ (if d.power.configDone then [] else (d.power.imageAt.map (· + 2 * sTicks)).toList)
  match due.min? with
  | some t => if d.up && !d.keyhole.recovery then (d.runTo t).assertReset 3 false else d
  | none => d

/-! ## The key store at start (R476, R477) -/

/-- R477, R476: the lifecycle becomes FAULT: every slot is UNUSABLE. -/
def Device.lifeFault (d : Device) : Device :=
  ((((List.range 64).foldl (fun d k => d.setNum (K.ksState k) 3) d).keysFollow d).setNum K.khLifecycle 2).report 0x0C01 [2]

/-- R476: the slots of a copy of the key store are taken; a key whose wrap check fails is UNUSABLE. -/
def Device.loadStore (d : Device) (c : KsCopy) (bad : List Nat) : Device :=
  let d1 := (c.slots.mapIdx (fun k x => (k, x))).foldl (fun d e =>
    let (k, typ, use, id, pub, key) := e
    if typ = 0 then d
    else if bad.contains k then (d.setSlot k 3 typ use id pub).report 0x0C08 [k, id]
    else (d.setSlot k 2 typ use id pub).setKey k key) d
  let dik := (c.slots.getD 63 (0, 0, 0, [], [])).2.2.2.1
  let d2 := ((d1.setOct K.khOwnerPub c.ownerPub).setOct K.khDikPub dik).setNums [(K.khKeystoreGen, c.gen), (K.khLifecycle, 1)]
  (d2.setKeyhole (fun k => { k with counter := c.counter, cellarGen := some c.gen })).followLock

/-- KEYSTORE_RECOVERY (R476, R477): K_PUF is regenerated (`puf`), and the highest valid copy at or above G is taken. -/
def Device.recoverStore (d : Device) (puf : Bool) (bad : List Nat) : Device :=
  let d0 := d.setNum K.khOwnerCosign (if d.keyhole.cosign then 1 else 0)
  if !d0.keyhole.provisioned then
    (d0.setNum K.khKeystoreGen (d0.keyhole.cellarGen.getD 0)).setKeyhole (fun k => { k with cellarGen := some (k.cellarGen.getD 0) })
  else if !puf then d0.lifeFault
  else
    let valid := (d0.keyhole.copies.filterMap id).filter (·.valid)
    match (valid.map (·.gen)).max? with
    | none => (d0.setTamper 4).lifeFault
    | some g =>
      if g < d0.keyhole.cellarGen.getD 0 then ((d0.report 0x0C0A [g, d0.keyhole.cellarGen.getD 0]).setTamper 4).lifeFault
      else match valid.find? (fun c => c.gen = g) with
        | some c => d0.loadStore c bad
        | none => d0

/-! ## Images (R482, R492, R493) -/

/-- R482: what the checks of an image answer, in the codes of event 0x0C05; `vendor` is VENDOR_SIG's verdict. -/
def Device.imageCheck (d : Device) (img : Bytes) (vendor : Bool) : Nat :=
  let body := img.drop 256
  let len := fieldNat img 12 4
  let owner := match p384.decode (d.oct K.khOwnerPub) with
    | some (x, y) => p384.verify x y (beNat (sha384 (img.take 64))) (fieldNat img 160 48) (fieldNat img 208 48)
    | none => false
  if fieldNat img 0 4 ≠ 0x4C593438 || 127 < fieldNat img 8 1 || 1 < fieldNat img 9 1 || fieldNat img 10 2 ≠ 0 || len = 0
    || 8388608 < len || body.length ≠ len then 1
  else if fieldNat img 8 1 < d.keyhole.rollback then 2
  else if sha384 body ≠ field img 16 48 then 3
  else if !vendor then 4
  else if d.num K.khOwnerCosign = 1 && !(fieldNat img 9 1 = 1 && owner) then 5
  else 0

/-- STUDY_LOC_INFO (Table 18-6): IMAGE_VERSION, SEC_VERSION and validity of each location. -/
def Device.followLocs (d : Device) : Device :=
  let one := fun (i : Nat) =>
    let img := d.study.images.getD i []
    field (padTo 16 img) 4 4 ++ field (padTo 16 img) 8 1 ++ ofNats [if d.study.passed.getD i false then 1 else 0, 0, 0]
  (d.setOct K.studyLocInfo (one 0 ++ one 1)).setOct K.studyFwImage (d.study.images.getD (1 - d.nat K.studyActiveLoc) [])

/-- R482: the ROM tries one location; an accepted image starts the cores. -/
def Device.tryImage (d : Device) (loc : Nat) (second vendor : Bool) : Device :=
  if d.power.imageAt.isSome then d else
  let img := d.study.images.getD loc []
  let code := d.imageCheck img vendor
  let sec := fieldNat img 8 1
  let d1 := (d.report 0x0C05 [loc, code, sec]).setStudy (fun s => { s with passed := s.passed.set loc (code = 0) })
  if code ≠ 0 then d1 else
  let cosigned : Nat := if d.num K.khOwnerCosign = 1 then 1 else 0
  let flags := cosigned + if second then 2 else 0
  let d2 := (d1.setOct K.khBootStatus (ofNats [loc, sec, d.keyhole.rollback, flags] ++ field img 4 4)).setOct K.khFwHash (field img 16 48)
  let d3 := (d2.setNum K.studyActiveLoc loc).setKeyhole (fun k => { k with secVersion := sec })
  d3.setPower (fun p => { p with imageAt := some d.clock.ticks })

/-- IMAGE_VERIFY (R482, R493): the location that the boot record names, then the other; if neither verifies, ROM recovery. -/
def Device.verifyImages (d : Device) (vendor : List Bool) : Device :=
  let f := d.study.flag
  let d1 := (d.setNum K.studyNextLoc f).tryImage f false (vendor.getD f false)
  let d2 := d1.tryImage (1 - f) true (vendor.getD (1 - f) false)
  let d3 := if d2.power.imageAt.isSome then d2 else d2.setKeyhole (fun k => { k with recovery := true })
  d3.followLocs

/-- STUDY_FW_IMAGE (R492): the whole image has been received; Keyhole checks it, and Study copies it to the other location. -/
def Device.writeFwImage (d : Device) (img : Bytes) (vendor : Bool) : Nat × Device :=
  let code := d.imageCheck img vendor
  let target := 1 - d.nat K.studyActiveLoc
  let d1 := (d.setNum K.studyStageResult code).report 0x0D02 [target, code, fieldNat img 8 1]
  if code = 0 then (St.ok, (d1.setNum K.studyStageState 2).setStudy (fun s => { s with staged := img }))
  else (if code ≤ 2 then St.range else St.auth, d1.setNum K.studyStageState 0)

/-- FW_COPY_COMPLETE (R492): the staged image stands in the location that is not running. -/
def Device.fwCopied (d : Device) : Device :=
  if d.nat K.studyStageState ≠ 2 || !d.coreRuns 3 then d else
  let t := 1 - d.nat K.studyActiveLoc
  let d1 := d.setStudy (fun s => { s with images := s.images.set t s.staged, passed := s.passed.set t true, staged := [] })
  (d1.setNum K.studyStageState 0).followLocs

/-- STUDY_NEXT_LOC (R493): the boot record names a location whose image passed its checks. -/
def Device.writeNextLoc (d : Device) (loc : Nat) : Nat × Device :=
  if !d.study.passed.getD loc false then (St.state, d)
  else (St.ok, ((d.setNum K.studyNextLoc loc).setStudy (fun s => { s with flag := loc })).report 0x0D04 [loc])

/-! ## Release (R553) -/

/-- R557: a start of cause 3 is counted; the third within 600 s of CELLAR_COUNT is a safe start. -/
def Device.countStart (d : Device) : Device :=
  let now := d.cellarCount
  let recent := d.cellar.starts.filter (fun n => now < n + 600 * 32768) ++ [now]
  let d1 := (d.setCellar (fun c => { c with starts := recent })).setNum K.fbWdtStarts (min 3 recent.length)
  if 3 ≤ recent.length then d1.setNum K.fbSafeStart 1 else d1

/-- R551: the copies of the configuration whose CRC-32C fails. -/
def Device.spoilConfigs (d : Device) (torn : List Nat) : Device :=
  d.setStudy (fun s => { s with cfg := s.cfg.mapIdx (fun i c => if torn.contains i then c.map ({ · with good := false }) else c) })

/-- R476, R491, R551, R168: what the start finds spoiled in flash: copies that are not valid, and a boot record whose CRC fails, which names
location 0. -/
def Device.spoilStores (d : Device) (f : StoreFaults) : Device :=
  let d1 := ((d.spoilModels f.models).spoilConfigs f.configs).setStudy (fun s => { s with flag := if f.boot then 0 else s.flag })
  d1.setKeyhole (fun k => { k with copies := k.copies.mapIdx (fun i c => if f.copies.contains i then c.map ({ · with valid := false }) else c) })

/-- RESET_RELEASE (R553): the internal reset is released, or the part wakes from Deep Off: the LO straps are sampled, the Attic and
the key store are recovered, the entropy source starts, the ROM brings the flash into 8D-8D-8D mode and verifies the images. VDDIO, at `vddio`
mV, is classified (R563); below 1,550 mV the reset stays held (R547). `shipped` is what was programmed into image
locations from outside, `vendor` VENDOR_SIG's verdict per location, `found` what the start finds spoiled in flash. -/
def Device.release (d0 : Device) (straps : Straps) (entropy puf : Bool) (found : StoreFaults) (shipped : List (Nat × Bytes))
    (vendor : List Bool) : Device :=
  if d0.power.held = 0 || d0.power.held = 4 || straps.vddio < 1550 then d0 else
  let deep := d0.power.held = 5
  let cause := if deep then min 4 (if d0.power.cause = 0 then 4 else d0.power.cause) else d0.power.cause
  let r := if deep then d0.restart cause false else d0
  let now := r.clock.ticks + msTicks
  let d := r.elapse msTicks
  let cold := d.keyhole.cellarGen.isNone
  let d1 := (if cold then (d.atticStart true).setTamper 2 else d.atticStart false).setPower (fun p => { p with
    held := 0, cause := 0, released := now, minuteAt := now, xtalAt := now, waking := if deep then some now else none
    vddio33 := 2500 < straps.vddio, flash8d := true })
  let d2 := if deep then d1.setNums [(K.fbWakeCause, d0.num K.fbWakeCause), (K.fbWakePort, d0.num K.fbWakePort), (K.fbWakes, 1)] else d1
  let d3 := ((d2.bump K.cellarPowerCycles).setNums [(K.fbLastReset, cause), (K.hearthLoSel, straps.loSel % 4)])
  let d4 := d3.report 0x0101 [cause, d3.num K.cellarPowerCycles]
  let d5 := if cause = 3 then d4.countStart else d4
  let d6 := if entropy then ((d5.setNum K.khEntropyState 1).setKeyhole (fun k => { k with reseedAt := now })).freshNonce else d5.entropyFailed 3
  let d7 := d6.setStudy (fun s => { s with
    images := shipped.foldl (fun l e => l.set e.1 e.2) s.images, passed := shipped.foldl (fun l e => l.set e.1 false) s.passed })
  ((d7.spoilStores found).recoverStore puf found.slots).verifyImages vendor

/-! ## Serving (R552, R553 step 7) -/

/-- R553 step 7: CAN controllers integrate, ports power up through the sequencer, heartbeats begin. -/
def Device.startServing (d : Device) : Device :=
  let now := d.clock.ticks
  let d1 := (List.range 4).foldl (fun d c => d.canStart c) d
  let d2 := (List.range 44).foldl (fun d p =>
    if d.nat (K.portPower p) = 1 && d.link p = 0 && !d.power.steps.any (fun s => s.kind = 16 + p)
      && (Store.find (K.portPower p) d.staged).isNone then d.queueStep (16 + p) false else d) d1
  (d2.setPower (fun p => { p with configDone := true, serving := true, idleFrom := now })).setFoyer (fun f => { f with hbLast := now })

/-- R551: is an object in the configuration store: every RWC object and the RW and RWS objects that R551 lists. -/
def savedKey (k : Nat) : Bool :=
  match rowOf k with
  | some r => r.acc = .rwc || [K.lockIdleTimeout, K.hapLockPolicy, K.fbIdleTime, K.fbWakeMask, K.fbWakeInCfg, K.latencyTol, K.studyWdtPeriod,
      K.dbIrqMask, K.khNtsRotatePeriod, K.fbDevWdtDelay, K.canCfg 0, K.canCfg 1, K.canCfg 2, K.canCfg 3].contains k
  | none => false

/-- R552: the newest valid copy. -/
def Device.newestCfg (d : Device) : Option CfgCopy :=
  (d.study.cfg.filterMap id).foldl (fun b c => if c.good && b.all (fun x => x.gen < c.gen) then some c else b) none

/-- CONFIG_LOAD (R551, R552, R557): firmware loads the newest valid copy and commits groups 0x01 to 0x10; then the part serves. -/
def Device.configLoad (d : Device) (stuck : List (Nat × Nat)) : Device :=
  if !d.up || d.power.imageAt.isNone || !d.clock.mtRun || d.power.configDone then d
  else if d.num K.fbSafeStart = 1 then (d.setNum K.cfgState 6).startServing
  else match d.newestCfg with
  | none => (d.setNum K.cfgState (if d.study.cfg.all (·.isNone) then 3 else 4)).startServing
  | some c =>
    let direct := c.vals.filter (fun e => groupOf e.1 = 0)
    let d1 := direct.foldl (fun d e => d.setVal e.1 e.2) d
    let d2 := (c.vals.filter (fun e => groupOf e.1 ≠ 0)).foldl (fun d e => d.setStaged e.1 e.2) d1
    let all : CommitReq := { groups := 0x1FFFE, mode := 0, slot := 0, rsv := 0, inst := 0, nsBad := false }
    match d2.commitRefused all [] with
    | some (st, obj) =>
      let d3 := if st = St.conflict then d.setNum K.commitConflictObj obj else d
      ((d3.report 0x0F05 [0x1FFFE, st, d3.num K.commitConflictObj]).setNum K.cfgState 5).startServing
    | none =>
      let src : Partner := { transport := 0xFE, addr := [], port := 0 }
      let imm : ImmCommit := { groups := 0x1FFFE, since := d.clock.ticks, src := src, xl := false, opcode := 0, txn := 0 }
      let d3 := (d2.setNums [(K.cfgState, 2), (K.cfgGen, c.gen), (K.fbTarget, targetOf (d2.nat K.latencyTol))])
      if timedStuck 0x1FFFE stuck then
        (((d.runTo (d.clock.ticks + msTicks)).commitEnds 0x1FFFE 0xFF St.state none).setNum K.cfgState 5).startServing
      else (d3.runCommit 0x1FFFE 0xFF d.clock.ticks (some imm) stuck).startServing

/-- CFG_SAVE (R551): a save starts on core 3. -/
def Device.writeCfgSave (d : Device) : Nat × Device :=
  if d.study.saving.isSome || d.nat K.khLifecycle ≠ 1 then (St.state, d)
  else (St.ok, (d.setNum K.cfgState 1).setStudy (fun s => { s with saving := some d.clock.ticks }))

/-- CFG_SAVE_COMPLETE (R551): within 2 s the older copy holds the live values with the next generation. -/
def Device.cfgSaved (d0 : Device) (wait : Nat) : Device :=
  match d0.study.saving with
  | none => d0
  | some t =>
    if !d0.coreRuns 3 then d0 else
    let d := d0.runTo (min (d0.clock.ticks + wait) (t + 2 * sTicks))
    let gen := ((d.study.cfg.filterMap id).map (·.gen)).foldl max 0 + 1
    let best := ((d.study.cfg.filterMap id).filter (·.good)).foldl (fun b c => max b c.gen) 0
    let slot := if d.study.cfg.findIdx (fun c => c.any (fun x => x.good && x.gen = best)) = 0 then 1 else 0
    let copy : CfgCopy := { gen := gen, good := true, vals := d.obj.filter (fun e => savedKey e.1) }
    let d1 := d.setStudy (fun s => { s with saving := none, cfg := s.cfg.set slot (some copy) })
    d1.setNums [(K.cfgState, 0), (K.cfgGen, gen), (K.cfgSavedAt, d.mt16)]

/-- CFG_ERASE (R551): both copies are erased. -/
def Device.writeCfgErase (d : Device) : Nat × Device := (St.ok, d.setStudy (fun s => { s with cfg := [none, none] }))

/-! ## The root (R113 to R118, R122) -/

/-- R78, R550: MT starts from the Cellar's seed in T1, or from 0 s in T0. -/
def Device.mtStart (d : Device) : Device :=
  let valid := d.seedValid
  let start := if valid then (d.nat K.cellarSnapTime + d.sinceSnap) * fracU else 0
  let d1 := d.setNum K.cellarSeedUnc (if valid then (d.seedUnc : Nat) else 0xFFFFFFFF)
  let c := { d1.clock with mtRun := true, mt := start, dom := List.replicate 8 ((start : Int) * 2 ^ 48), utcOff := d.num K.utcBaseOffset }
  let d2 : Device := { d1 with clock := c }
  (if valid then d2.setTimeState 1 else d2).setNum K.mtStateSince d2.mt16

/-- ROOT_LOCK (R114, R116, R118, R127, R168, R553): the first lock hands the clocks over and starts MT, the domains, calibration and the
model's restore; a later one resumes what the loss stopped. P0 of 0x0305 counts from the internal reset's release, also on a wake from Deep
Off, where RST_N is not released (DESIGN CHOICE, log 119). -/
def Device.rootLock (d0 : Device) : Device :=
  if !d0.up || d0.nat K.hearthLock = 1 || d0.nat K.fbState = 4 then d0 else
  let d := d0.elapse (2 * msTicks)
  if d.nat K.hearthLock ≠ 0 then d.rootRelock.tdcRelocked.setPower (fun p => { p with xtalAt := d.clock.ticks }) else
  let d0 : Device := { d with clock := { d.clock with handover := some d.clock.ticks } }
  let d1 := (d0.setNum K.hearthLock 1).report 0x0301 [0, d.num K.hearthLoMeas]
  let d2 := (d1.report 0x0305 [((d.clock.ticks - d.power.released) / usTicks : Nat)]).mtStart
  let d3 := (({ d2 with tdc := { d2.tdc with calFrom := d2.clock.ticks } } : Device).setNums [(K.tdcCalState, 1), (K.ageAvsNow, 750)]).newSeqBase 0
  let d4 := (exitSteps 0).foldl (fun d k => d.queueStep k true) d3
  let now := d.clock.ticks
  let d5 := (d4.restoreModel.setKeyhole (fun k => { k with rotateFrom := now })).setPower (fun p => { p with xtalAt := now })
  let d6 := (d5.thermCommitted d5.val).skyCommitted.avsRun true 64
  if d6.keyhole.recovery then d6.startServing else d6

/-- ROOT_LOCK_LOST (R115, R126, R247): the root becomes UNLOCKED; MT in T5 may wake the part, and hold [3] may end an entry. -/
def Device.rootLockLost (d : Device) (cause : Nat) : Device :=
  if !d.rootLocked then d else (((d.rootLost cause).tdcRootLost).wakeOnT5 d).holdCheck

/-- ROOT_FAULT (R113, R122): Hearth enters FAULT: every port is silent, and what was reserved on one is gone; from LOCKED also what a loss
brings. -/
def Device.rootFault (d : Device) (dev : Int) (rail : Bool) : Device :=
  let d1 := d.rootFaulted dev rail
  if d1.nat K.hearthLock ≠ 3 || d.nat K.hearthLock = 3 then d1 else
  let d2 := (List.range 44).foldl (fun x p => (x.linkLost p 2).portFollow x p) d1
  if d.rootLocked then ((d2.tdcRootLost).wakeOnT5 d).holdCheck else d2

/-! ## Meanings -/

/-- RESET_RELEASE. -/
def execResetRelease (straps : Straps) (entropy puf : Bool) (found : StoreFaults) (shipped : List (Nat × Bytes)) (vendor : List Bool)
    (s : State) : Host.Outcome State Fault Refusal := .next (s.on (·.release straps entropy puf found shipped vendor))
/-- SUPPLY_RESET. -/
def execSupplyReset (vbat torn : Bool) (s : State) : Host.Outcome State Fault Refusal := .next (s.on (·.supplyReset vbat torn))
/-- RST_N_ASSERT: RST_N is low. -/
def execRstNAssert (s : State) : Host.Outcome State Fault Refusal := .next (s.on (·.assertReset 2 false))
/-- OVERTEMP_RESET (R574): the start that follows carries cause 1. -/
def execOvertempReset (s : State) : Host.Outcome State Fault Refusal := .next (s.on (·.assertReset 1 false))
/-- TEST_EN_HIGH (R560): TEST_EN holds the internal reset. -/
def execTestEnHigh (s : State) : Host.Outcome State Fault Refusal := .next (s.on (·.assertReset 2 false))
/-- DEVICE_WATCHDOG. -/
def execDeviceWatchdog (s : State) : Host.Outcome State Fault Refusal := .next (s.on (·.deviceWatchdog))
/-- CONFIG_LOAD. -/
def execConfigLoad (stuck : List (Nat × Nat)) (s : State) : Host.Outcome State Fault Refusal :=
  .next (s.on (·.configLoad stuck))
/-- CFG_SAVE_COMPLETE. -/
def execCfgSaveComplete (wait : Nat) (s : State) : Host.Outcome State Fault Refusal := .next (s.on (·.cfgSaved wait))
/-- FW_COPY_COMPLETE. -/
def execFwCopyComplete (s : State) : Host.Outcome State Fault Refusal := .next (s.on (·.fwCopied))
/-- ROOT_LOCK. -/
def execRootLock (s : State) : Host.Outcome State Fault Refusal := .next (s.on (·.rootLock))
/-- ROOT_LOCK_LOST. -/
def execRootLockLost (cause : Nat) (s : State) : Host.Outcome State Fault Refusal := .next (s.on (·.rootLockLost cause))
/-- ROOT_FAULT. -/
def execRootFault (dev : Int) (rail : Bool) (s : State) : Host.Outcome State Fault Refusal := .next (s.on (·.rootFault dev rail))

end Sys2Proof.Machine
end

