-- ==== Sys2Proof/Machine/Requests.lean ====
section
/-! DEFINITION. Requests of Foyer (02_management_access.md): objects read and written over HAP, transfers, the lock and the session, and the
order of checks. -/

namespace Sys2Proof.Machine

/-! ## Reading (R43, R44, R77, R514, R578) -/

/-- The time state of Dn (R101, R408): MT's for a bound domain and for an instance of role 0. -/
def Device.domStateNow (d : Device) (n : Nat) : Nat :=
  if d.bound n || d.nat (K.instRole n) = 0 then d.nat K.mtState else d.nat (K.domState n)

/-- The state that objects below 0x2500 show at the moment of the read. -/
def Device.derivedLow (d : Device) (idx sub : Nat) : Option Int :=
  let k := idx * 256 + sub
  if k = K.fbHold then some d.fbHold
  else if k = K.fbVbatMv then some (if d.nat k ≠ 0 then d.num k else (Config.supplyMv 0 d.clock.ticks % 65536 : Nat))
  else if k = K.fbVcoreMv then some (Config.supplyMv 1 d.clock.ticks % 65536 : Nat)
  else if k = K.cellarCount then some d.cellarCount
  else if 0x2040 ≤ idx && idx ≤ 0x205F && sub = 1 then some (if idx < 0x2040 + 24 then 0 else 1)
  else if 0x2040 ≤ idx && idx ≤ 0x205F && sub = 3 then some (Config.siteLimit (idx - 0x2040))
  else if 0x2201 ≤ idx && idx ≤ 0x2209 && sub = 9 then some (d.wtrRemain (idx - 0x2201))
  else if 0x2201 ≤ idx && idx ≤ 0x2209 && sub = 0x0B then some (if d.timeCapable (idx - 0x2201) then 1 else 0)
  else if k = K.hoBound then some d.hoBound
  else if k = K.hoElapsed then some d.hoElapsed
  else if k = K.hoCompatRemain then some d.compatRemain
  else if k = K.skyChInUse then some d.skyInUse
  else if k = K.skyAidStatus then some d.aidStatus
  else if k = K.skyTimeUnc then some d.skyTimeUnc
  else if 0x2410 ≤ idx && idx ≤ 0x2427 then
    let n := idx - 0x2410
    if sub = 0x0F then some (d.chDecim n) else if sub = 0x10 then some (d.ch n).fifo.length
    else if sub = 0x1E then some (d.chInUse n) else none
  else none

/-- The state that objects of Mantel and the domains show at the moment of the read (R77). -/
def Device.derivedTime (d : Device) (idx sub : Nat) : Option Int :=
  let k := idx * 256 + sub
  if k = K.mtNow then some d.mt16
  else if k = K.mtNowUtc then some (d.scale16 1)
  else if k = K.mtNowGps then some (d.scale16 2)
  else if k = K.mtRateAdj then some d.rateAdj
  else if k = K.mtPullRemain then some (d.clock.pull / 2 ^ 32)
  else if k = K.mtUtcOffset then some d.utcOffset
  else if k = K.mtLeapPending then some d.leapPending
  else if 0x2520 ≤ idx && idx ≤ 0x2527 && sub = 3 then some (d.scale16 (3 + (idx - 0x2520)))
  else if 0x2520 ≤ idx && idx ≤ 0x2527 && sub = 5 then some (d.domStateNow (idx - 0x2520))
  else none

/-- The state that objects from 0x3000 on show at the moment of the read. -/
def Device.derivedHigh (d : Device) (idx sub : Nat) : Option Int :=
  let k := idx * 256 + sub
  if 0x3000 ≤ idx && idx ≤ 0x302B then
    let p := idx - 0x3000
    if sub = 0x0D then some (d.portSpeed p) else if sub = 0x0E then some (d.txBound p)
    else if sub = 0x45 then some (d.stampLat p true) else if sub = 0x46 then some (d.stampLat p false) else none
  else if k = K.hallFdbCount then some d.fdbCount
  else if k = K.hallCellsFree then some d.cellsFree
  else if k = K.hallCellsLow then some d.hall.low
  else if 0x3500 ≤ idx && idx ≤ 0x352B then
    let p := idx - 0x3500
    if sub = 5 then some ((d.sched p).pos d.mtG)
    else if 0x20 ≤ sub && sub ≤ 0x27 then some (d.gateWait p (sub - 0x20) (d.frozen 0x0B))
    else if 0x28 ≤ sub && sub ≤ 0x2F then some ((d.queue p (sub - 0x28)).foldl (fun n f => n + f.cells) 0)
    else none
  else if k = K.parInflight then some d.flying.length
  else if k = K.parAdmitRate then some d.lastSecond.1
  else if k = K.parRefuseNow then some d.lastSecond.2
  else if k = K.parClients then some d.parl.clients.length
  else if k = K.ntskeConnNow then some d.parl.conns.length
  else if 0x4100 ≤ idx && idx ≤ 0x413F && sub = 0x1B then some (d.inflight (idx - 0x4100))
  else if 0x4200 ≤ idx && idx ≤ 0x4207 then
    let n := idx - 0x4200
    if sub = 0x23 && d.profile n = 3 then some (d.num (K.instP3Accuracy n))
    else if sub = 0x27 then some (d.stepsRemoved n)
    else if sub = 0x2B && !d.bound n && d.nat (K.instRole n) = 0 then some d.hoBound else none
  else if k = K.ledgerSlotsFree then some d.slotsFree
  else if k = K.ledgerFillLeaves then some d.fillLeaves
  else if 0x6110 ≤ idx && idx ≤ 0x611F && sub = 6 then
    let n := idx - 0x6110
    some (if n < 8 then (Config.mbCores n % 16 : Nat) else if n = 8 then 0x83 else (0x80 + Config.mbCores n % 4 : Nat))
  else none

/-- The bytes of a byte string that is made at the moment of the read. -/
def Device.derivedOct (d : Device) (idx sub : Nat) : Option Bytes :=
  let k := idx * 256 + sub
  if k = K.porchMacBase then some (macOf 0)
  else if k = K.srLaneBusy then some d.laneBusy
  else if 0x5040 ≤ idx && idx ≤ 0x507F && sub = 1 then some (d.slotBytes (idx - 0x5040))
  else if k = K.atticWindow then some d.window
  else if k = K.atticRetained then some d.retained
  else if 0x6118 ≤ idx && idx ≤ 0x611F && sub = 4 then some ((d.mail (idx - 0x6110)).toOwner.headD [])
  else if 0x2410 ≤ idx && idx ≤ 0x2427 && sub = 0x11 then some ((d.ch (idx - 0x2410)).fifo.take 16).flatten
  else none

/-- R43, R578: the live value of an object as bytes. -/
def Device.readLive (d : Device) (idx sub : Nat) (t : Ty) : Bytes :=
  match d.derivedOct idx sub with
  | some b => t.encode (.oct b)
  | none =>
    match (if idx < 0x2500 then d.derivedLow idx sub else if idx < 0x3000 then d.derivedTime idx sub else d.derivedHigh idx sub) with
    | some v => t.encode (.num v)
    | none => t.encode (d.val (idx * 256 + sub))

/-- R30, R466, R486: may the value of an object not be read now. -/
def Device.readBarred (d : Device) (k : Nat) : Bool :=
  d.lost.contains k || (0x5040 * 256 ≤ k && k < 0x5080 * 256 && d.slotHidden (k / 256 - 0x5040))
    || (k = K.khAttestReport && d.nat K.khAttestState = 1)

/-- R232: how many records have left the FIFO that an object reads. -/
def Device.fifoOut (d : Device) (idx sub : Nat) : Nat :=
  if 0x2410 ≤ idx && idx ≤ 0x2427 && sub = 0x11 then (d.ch (idx - 0x2410)).removed else 0

/-- R232, R496: what leaves with the response that ends the reading of a value: the Threshold records, or the message, that it holds and
that have not left since it was read, when `base` records had left. -/
def Device.readDone (d : Device) (idx sub : Nat) (v : Bytes) (base : Nat) : Device :=
  if 0x2410 ≤ idx && idx ≤ 0x2427 && sub = 0x11 then d.drainFifo (idx - 0x2410) (v.length / 24 - (d.fifoOut idx sub - base))
  else if 0x6118 ≤ idx && idx ≤ 0x611F && sub = 4 && (d.mail (idx - 0x6110)).toOwner.head? = some v then (d.readMbRecv (idx - 0x6110)).2
  else d

/-! ## Writing: lengths and ranges (R42, and each object's own chapter) -/

/-- R42, R57, R196, R337, R358, R466, R495: does a value have a wrong length for its object. -/
def Device.lengthBad (d : Device) (idx sub : Nat) (t : Ty) (b : Bytes) : Bool :=
  let k := idx * 256 + sub
  !t.allows b.length
    || (0x3500 ≤ idx && idx ≤ 0x352B && sub = 1 && b.length % 8 ≠ 0)
    || (k = K.parClassifier && b.length % 32 ≠ 0)
    || ((k = K.hallVlanTable || k = K.hallFdbStatic) && b.length % 16 ≠ 0)
    || (k = K.skyOrbitLoad && (b.length = 0 || b.length % 128 ≠ 0))
    || (k = K.studyFwImage && b.length < 257)
    || (0x5040 ≤ idx && idx ≤ 0x507F && sub = 1 && b.length ≠ 8 * d.slotWords (idx - 0x5040))
    || (0x6118 ≤ idx && idx ≤ 0x611F && sub = 3 && (b.length < 4 || 60 < fieldNat b 0 1 || b.length ≠ 4 + fieldNat b 0 1))

/-- R301: is a PORT_MAC value refused: a group address, or all zero. -/
def macBad (b : Bytes) : Bool := fieldNat b 0 1 % 2 = 1 || beNat b = 0

/-- Is a byte string of the right length out of range for its object. -/
def octetsBad (k : Nat) (b : Bytes) : Bool :=
  let idx := k / 256
  let sub := k % 256
  if 0x3000 ≤ idx && idx ≤ 0x302B then
    (if sub = 0x38 then macBad b else 0x20 ≤ sub && sub ≤ 0x27 && wakePatBad b)
  else if 0x3500 ≤ idx && idx ≤ 0x352B && sub = 1 then gateListBad b
  else if k = K.skySvExclude then (List.range 16).any (fun i => 4 < fieldNat b (2 * i) 1)
  else if k = K.hallVlanTable then vlanTableBad b
  else if k = K.hallFdbStatic then fdbStaticBad b
  else if k = K.parClassifier then classifierBad b
  else if 0x4200 ≤ idx && idx ≤ 0x4207 && sub = 0x15 then
    (List.range 44).any (fun p => 1000000 < (toSigned 4 (fieldNat b (4 * p) 4)).natAbs)
  else if k = K.ledgerRootDest then fieldNat b 7 1 ≠ 0
  else false

/-- R13, R14, R42: is a value of the right length out of range. -/
def rangeBad (k : Nat) (r : ObjRow) (b : Bytes) : Bool :=
  match r.ty with
  | .bool => 1 < beNat b || !r.rng.has (beNat b)
  | .uns _ => !r.rng.has (beNat b) || (0x3440 * 256 ≤ k && k < 0x346C * 256 && k % 256 = 3 && Nat.land (beNat b) 0x88888888 ≠ 0)
  | .sgn n => !r.rng.has (toSigned n (beNat b))
  | .time96 => time96Bad b
  | .octets _ | .upTo _ => octetsBad k b

/-! ## Replies -/

/-- What serving a request gives: a status (none where the answer comes later), a payload, the part before the response leaves,
and what happens as it leaves. -/
structure Reply where
  status : Option Nat
  pay : Bytes
  dev : Device
  after : Device → Device

/-- A reply with a status alone. -/
def Device.answer (d : Device) (st : Nat) : Reply := { status := some st, pay := [], dev := d, after := id }

/-- A reply with the status that a write gave. -/
def answerOf (r : Nat × Device) : Reply := r.2.answer r.1

/-- A reply to a write that was accepted. -/
def Device.done (d : Device) : Reply := d.answer St.ok

/-! ## The lock and the session (R46 to R55) -/

/-- LOCK_ACQUIRE (R46, R47, R50, R52, R469, R577): a write of 1 to LOCK_REQUEST. -/
def Device.lockAcquire (d : Device) (src : Partner) (xl : Bool) : Reply :=
  if d.lock ≠ 0 then
    (if d.isOwner src then { status := some St.ok, pay := toBE 4 d.foyer.token, dev := d, after := id } else d.answer St.busy)
  else if !d.entropyOk then d.answer St.state
  else
    let (b, d1) := d.drawBytes 4
    let token := beNat b % (2 ^ 32 - 1) + 1
    let st := if d.nat K.hapLockPolicy = 0 then 1 else 2
    let now := d.clock.ticks
    let d2 := d1.setFoyer (fun f => { f with
      owner := some src, ownerXl := xl, token := token, lastValid := now, pendingSince := now, hostNonce := [], devNonce := []
      key := [], seqIn := 0, seqOut := 0, fails := 0 })
    let d2 := d2.setCommit (fun e => { e with reverts := [] })
    let d3 := d2.setNums [(K.lockState, st), (K.lockHolder, src.transport), (K.lockToken, token)]
    { status := some St.ok, pay := toBE 4 token, dev := d3.report 0x0F01 [1, src.transport, st], after := id }

/-- SESSION_HOST_NONCE (R53, R470): a handshake starts from OPEN, PENDING or SESSION; in SESSION the response is its last frame. In
PENDING the nonces are drawn again and the 1 s from entering PENDING runs on (DEDUCED from Table 2-8). -/
def Device.hostNonce (d : Device) (b : Bytes) : Reply :=
  if d.nat K.khLifecycle ≠ 1 || !d.entropyOk then d.answer St.state else
  let (n, d1) := d.drawBytes 16
  let d2 := (d1.setFoyer (fun f => { f with hostNonce := b, devNonce := n })).setOct K.sessionDevNonce n
  if d.lock = 2 then d2.done
  else if d.lock = 1 then (d2.lockTo 2).done
  else { status := some St.ok, pay := [], dev := d2, after := fun x => ((x.setFoyer (fun f => { f with hostNonce := b, devNonce := n })).lockTo 2).report 0x0F01 [8, x.num K.lockHolder, 2] }

/-- SESSION_PROOF (R53, R54, R481): the correct proof establishes SESSION; a wrong one fails the handshake. -/
def Device.proof (d : Device) (b : Bytes) : Reply :=
  if d.lock ≠ 2 then d.answer St.state else
  let f := d.foyer
  let ks := sessionKey (d.key 62) f.hostNonce f.devNonce f.token (d.nat K.lockHolder)
  if f.devNonce ≠ [] && d.nat (K.ksState 62) = 2 && sessionProof ks f.hostNonce f.devNonce = b then
    let d1 := (d.setFoyer (fun f => { f with key := ks, seqIn := 0, seqOut := 0, fails := 0 })).setNum K.lockState 3
    (d1.report 0x0F01 [5, d.num K.lockHolder, 3]).done
  else
    let d1 := d.bump K.sessionAuthFails
    { status := some St.auth, pay := [], dev := d1.report 0x0F02 [2, d1.num K.sessionAuthFails], after := fun x => x.handshakeFailed }

/-! ## Writing one object -/

/-- CAN_CFG (R297, R298): the response leaves with the old settings. -/
def Device.canCfg (d : Device) (n : Nat) (b : Bytes) : Reply :=
  let own := d.foyer.owner.bind (fun o => if o.transport < 4 then some o.transport else none)
  let st := (d.writeCanCfg n b own).1
  { status := some st, pay := [], dev := d, after := fun x => if st = St.ok then (x.writeCanCfg n b own).2 else x }

/-- STAMP_PROBE_SEND (R323): one probe frame is queued on port p. -/
def Device.sendProbe (d : Device) (p : Nat) (dst : Bytes) : Nat × Device :=
  let et := d.nat (K.stampProbeEtype p)
  if et = 0 || !d.portUp p then (St.state, d) else
  let seq := (d.nat (K.stampProbeTxSeq p) + 1) % 65536
  let body := dst ++ d.oct (K.portMac p) ++ toBE 2 et ++ toBE 2 seq ++ List.replicate 44 0
  (St.ok, (d.setNum (K.stampProbeTxSeq p) seq).ipSend p 0 { body := body, src := 0x102, tag := .probe })

/-- PORT_CNT_CLEAR, STAMP_PROBE_SEND: the commands among the objects of port p; none for a setting. -/
def Device.portAction (d : Device) (p sub : Nat) (b : Bytes) : Option Reply :=
  if sub = 0x29 then some (d.clearCounters p).done
  else if sub = 0x4B then some (answerOf (d.sendProbe p b))
  else none

/-- The objects of Keyhole whose write is a command (R471 to R486); none for a setting. -/
def Device.khAction (d : Device) (sub : Nat) (b : Bytes) : Option Reply :=
  if sub = 0x02 then some (answerOf d.writeProvision)
  else if sub = 0x03 then some (answerOf d.writeProvCommit)
  else if sub = 0x06 then some (answerOf (d.writeOwnerPub b))
  else if sub = 0x07 then some (answerOf (d.writeOwnerKey b (d.lock = 3)))
  else if sub = 0x08 then some (answerOf (d.writeOwnerXfer b))
  else if sub = 0x0D then some (answerOf (d.writeKeygen b))
  else if sub = 0x0E then some (answerOf (d.writeKeyDestroy (beNat b)))
  else if sub = 0x10 then some (answerOf d.writeRotate)
  else if sub = 0x14 then some (answerOf d.writeCosign)
  else if sub = 0x15 then some (answerOf d.writeRollback)
  else if sub = 0x16 then some (answerOf (d.writeAttestReq b))
  else if sub = 0x1A then some ((d.setNum K.khTamperCfg (beNat b)).followLock).done
  else if sub = 0x1B then some (answerOf d.writeTamperClear)
  else none

/-- The request as its opcode's own checks see it: who sent it, the frame's surroundings and its transaction. -/
structure Asker where
  src : Partner
  xl : Bool
  txn : Nat
  opcode : Nat
  env : HapEnv

/-- The objects below 0x3000 whose write is a command; none for a setting. -/
def Device.lowAction (d : Device) (a : Asker) (k : Nat) (b : Bytes) : Option Reply :=
  if k = K.lockRequest then
    some (if beNat b = 1 then d.lockAcquire a.src a.xl
      else { status := some St.ok, pay := [], dev := d, after := fun x => x.releaseLock 2 })
  else if k = K.sessionHostNonce then some (d.hostNonce b)
  else if k = K.sessionProof then some (d.proof b)
  else if k = K.latencyTol then some { status := some St.ok, pay := [], dev := d, after := fun x => x.writeLatencyTol (beNat b) }
  else if k = K.ageReplanNow then some (d.replan a.env.degrade a.env.acked).done
  else if k = K.hoTempHost then
    some ((d.setNum k (toSigned 4 (beNat b))).setHold (fun h => { h with hostAt := d.clock.ticks })).done
  else if k = K.hoModelClear then some (answerOf d.writeModelClear)
  else if k = K.skyAidPos then some (answerOf (d.writeAidPos b))
  else if k = K.skyOrbitLoad then some (answerOf (d.writeOrbitLoad b))
  else if k = K.mtSet then some (answerOf (d.writeMtSet (time96Of b)))
  else if k = K.mtStep then some (answerOf (d.writeMtStep b))
  else if 0x2540 * 256 ≤ k && k < 0x2550 * 256 && k % 256 = 0x0D then some (answerOf (d.writeOutRearm (k / 256 - 0x2540)))
  else none

/-- The objects from 0x3000 on whose write is a command; none for a setting. -/
def Device.highAction (d : Device) (a : Asker) (k : Nat) (b : Bytes) : Option Reply :=
  let idx := k / 256
  let sub := k % 256
  if 0x3000 ≤ idx && idx ≤ 0x302B then d.portAction (idx - 0x3000) sub b
  else if k = K.xphyMdio then some (answerOf (d.writeXphyMdio b a.env.mdio))
  else if 0x3110 ≤ idx && idx ≤ 0x3113 then some (d.canCfg (idx - 0x3110) b)
  else if k = K.hallFdbFlush then some d.flushFdb.done
  else if 0x4100 ≤ idx && idx ≤ 0x413F && sub = 0x1C then some (d.clearRing (idx - 0x4100)).done
  else if k = K.srLaneRestore then some (answerOf (d.writeLaneRestore (beNat b)))
  else if k = K.srSlotLayout then some (answerOf (d.writeSlotLayout b))
  else if k = K.srJobSubmit then some (answerOf (d.writeJobSubmit b))
  else if k = K.srJobAbort then some (answerOf d.writeJobAbort)
  else if 0x5040 ≤ idx && idx ≤ 0x507F then some (answerOf (d.writeSlotData (idx - 0x5040) b))
  else if idx = 0x5100 then d.khAction sub b
  else if k = K.atticSnap then some (answerOf d.writeAtticSnap)
  else if k = K.atticClear then some (answerOf (d.writeAtticClear b))
  else if 0x6118 ≤ idx && idx ≤ 0x611F then some (answerOf (d.writeMbSend (idx - 0x6110) b))
  else if k = K.studyNextLoc then some (answerOf (d.writeNextLoc (beNat b)))
  else if k = K.studyFwImage then
    some (if d.nat K.studyStageState = 2 then d.answer St.state else answerOf (d.writeFwImage b a.env.vendor))
  else if k = K.commitRequest then
    let r := d.writeCommit b a.env.mem a.src a.xl a.opcode a.txn
    some { status := r.1, pay := [], dev := r.2, after := id }
  else if k = K.commitDiscard then some (answerOf (d.writeDiscard (beNat b)))
  else if k = K.commitCancel then some (answerOf (d.cancelSlot (beNat b)))
  else if k = K.cfgSave then some (answerOf d.writeCfgSave)
  else if k = K.cfgErase then some (answerOf d.writeCfgErase)
  else none

/-- R43, R58: a whole value of the right length and range is written: staged for RWC, a command, or a live setting. -/
def Device.writeObj (d : Device) (a : Asker) (k : Nat) (r : ObjRow) (b : Bytes) : Reply :=
  if r.acc = .rwc then
    (if d.frozen r.grp then d.answer St.state else (d.setStaged k (r.ty.decode b)).done)
  else match (if k < 0x3000 * 256 then d.lowAction a k b else d.highAction a k b) with
  | some x => x
  | none => (d.setVal k (r.ty.decode b)).done

/-! ## Requests -/

/-- R43, R472: is the object refused with 0x1008 outside a session. -/
def Device.needsSession (d : Device) (k : Nat) (r : ObjRow) (write : Bool) : Bool :=
  d.lock ≠ 3 && (r.acc = .rws || (write && k = K.khOwnerKeySet && d.nat K.khLifecycle = 1))

/-- R66: the lowest failed check of rank 3 to 6 on an object: session, existence of index and sub, access. -/
def Device.accessBad (d : Device) (idx sub : Nat) (write : Bool) : Option Nat :=
  match dictFind idx sub with
  | none => some (if dictHasIndex idx then St.noSub else St.noObject)
  | some r =>
    if d.needsSession (idx * 256 + sub) r write then some St.session
    else if (write && r.acc = .ro) || (!write && r.acc = .wo) then some St.access
    else none

/-- R66: the first status of a list, in rank order, that stands. -/
def firstBad : List (Bool × Nat) → Option Nat
  | [] => none
  | (c, st) :: t => if c then some st else firstBad t

/-- R44, R578: the bytes that a read gives: the staged copy of an RWC object if FLAGS[2] asks for it. -/
def Device.readValue (d : Device) (idx sub : Nat) (staged : Bool) : Bytes :=
  match dictFind idx sub with
  | some r => if staged && r.acc = .rwc then r.ty.encode (d.stagedVal (idx * 256 + sub)) else d.readLive idx sub r.ty
  | none => []

/-- R232: the bytes of an expedited read; CH_FIFO_READ gives as many whole records as fit. -/
def Device.readFit (d : Device) (idx sub : Nat) (staged : Bool) (cap : Nat) : Bytes :=
  let v := d.readValue idx sub staged
  if 0x2410 ≤ idx && idx ≤ 0x2427 && sub = 0x11 then v.take (cap / 24 * 24) else v

/-- R44: does FLAGS[2] ask for the staged copy of the object; it is ignored for an object that is not RWC. -/
def asksStaged (idx sub flags : Nat) : Bool :=
  bit flags 2 && match dictFind idx sub with
    | some r => decide (r.acc = .rwc)
    | none => false

/-- READ (R43, R56, R232, R496). -/
def Device.doRead (d : Device) (idx sub : Nat) (flags cap : Nat) : Reply :=
  match d.accessBad idx sub false with
  | some st => d.answer st
  | none =>
    let staged := asksStaged idx sub flags
    let v := d.readFit idx sub staged cap
    match firstBad [(cap < v.length, St.length), (8 ≤ flags, St.range), (!staged && d.readBarred (idx * 256 + sub), St.state)] with
    | some st => d.answer st
    | none => { status := some St.ok, pay := v, dev := d.readDone idx sub v (d.fifoOut idx sub), after := id }

/-- R69, R74: a write of COMMIT_REQUEST that a check before the commit's own refuses, whatever its status, is recorded as 0x0F05. -/
def Device.refuseWrite (d : Device) (idx sub : Nat) (b : Bytes) (st : Nat) : Reply :=
  (if idx * 256 + sub = K.commitRequest then d.report 0x0F05 [(fieldNat b 0 8 % 2 ^ 32 : Nat), st, d.num K.commitConflictObj] else d).answer st

/-- R74: a request is refused with a status alone. -/
def Device.refuseReq (d : Device) (r : HapReq) (st : Nat) : Reply :=
  if r.opcode = 2 then d.refuseWrite r.index r.sub (r.payload.take r.h.length) st else d.answer st

/-- R66: is a value of the right length refused by its object with 0x100B, which outranks every check after it. -/
def Device.failsAuth (d : Device) (a : Asker) (k : Nat) (r : ObjRow) (b : Bytes) : Bool :=
  [K.sessionProof, K.atticClear, K.khOwnerKeySet, K.khOwnerXfer].contains k && (d.writeObj a k r b).status = some St.auth

/-- WRITE (R42, R43). -/
def Device.doWrite (d : Device) (a : Asker) (idx sub : Nat) (flags : Nat) (b : Bytes) : Reply :=
  match d.accessBad idx sub true, dictFind idx sub with
  | some st, _ => d.refuseWrite idx sub b st
  | none, none => d.answer St.noObject
  | none, some r =>
    let k := idx * 256 + sub
    match firstBad [(d.lengthBad idx sub r.ty b, St.length), ((8 ≤ flags || rangeBad k r b) && !d.failsAuth a k r b, St.range)] with
    | some st => (d.clearTried k st b).refuseWrite idx sub b st
    | none => d.writeObj a k r b

/-- READ_INIT (R59, R60): the length of its segments is fixed now. A payload, where Table 2-3 has none, is ignored (DESIGN CHOICE, log 19). -/
def Device.doReadInit (d : Device) (a : Asker) (idx sub : Nat) (flags : Nat) : Reply :=
  match d.accessBad idx sub false with
  | some st => d.answer st
  | none =>
    let staged := asksStaged idx sub flags
    match firstBad [(8 ≤ flags, St.range), (d.foyer.xfer.isSome || (!staged && d.readBarred (idx * 256 + sub)), St.state)] with
    | some st => d.answer st
    | none =>
      let v := d.readValue idx sub staged
      let x : Xfer := { writing := false, seg := segSize a.src, index := idx, sub := sub, total := v.length, buf := v, next := 0, since := d.clock.ticks
                        base := d.fifoOut idx sub }
      { status := some St.ok, pay := toBE 4 v.length, dev := d.setFoyer (fun f => { f with xfer := some x }), after := id }

/-- WRITE_INIT (R57, R60, R492). -/
def Device.doWriteInit (d : Device) (idx sub : Nat) (flags : Nat) (b : Bytes) : Reply :=
  match d.accessBad idx sub true, dictFind idx sub with
  | some st, _ => d.answer st
  | none, none => d.answer St.noObject
  | none, some r =>
    let total := beNat b
    let outOf := total = 0 || 16777216 < total
    match firstBad [(b.length ≠ 4 || (!outOf && !r.ty.allows total), St.length), (outOf || 8 ≤ flags, St.range),
      (d.foyer.xfer.isSome || d.nat K.studyStageState ≠ 0, St.state)] with
    | some st => d.answer st
    | none =>
      let x : Xfer := { writing := true, seg := 0, index := idx, sub := sub, total := total, buf := [], next := 0, since := d.clock.ticks }
      let d1 := d.setFoyer (fun f => { f with xfer := some x })
      (if idx * 256 + sub = K.studyFwImage then d1.setNum K.studyStageState 1 else d1).done

/-- READ_SEG (R43, R59, R61). -/
def Device.doReadSeg (d : Device) (idx sub : Nat) (flags : Nat) (b : Bytes) : Reply :=
  match d.accessBad idx sub false with
  | some st => d.answer st
  | none =>
    if b.length ≠ 4 then d.answer St.length else
    let n := beNat b
    match d.foyer.xfer with
    | none => d.answer (if 8 ≤ flags then St.range else St.state)
    | some x =>
      let here := !x.writing && x.index = idx && x.sub = sub
      let off := n * x.seg
      match firstBad [(8 ≤ flags || (here && n ≠ 0 && x.total ≤ off), St.range), (!here, St.state)] with
      | some st => d.answer st
      | none =>
        let part := field x.buf off x.seg
        let got := off + part.length
        if x.total ≤ got then
          { status := some St.ok, pay := b ++ part, dev := d.setFoyer (fun f => { f with xfer := none })
            after := fun y => y.readDone idx sub x.buf x.base }
        else
          { status := some St.ok, pay := b ++ part
            dev := d.setFoyer (fun f => { f with xfer := some { x with next := max x.next got } }), after := id }

/-- WRITE_SEG (R43, R57, R58, R61): the final segment checks and writes the whole value, and its answer ends the transfer. A segment
before it that is refused for reserved FLAGS, and any with a payload too short for SEGNO, leaves the transfer open and waiting for the same
SEGNO (DESIGN CHOICE, log 112). -/
def Device.doWriteSeg (d : Device) (a : Asker) (idx sub : Nat) (flags : Nat) (b : Bytes) : Reply :=
  match d.accessBad idx sub true, dictFind idx sub with
  | some st, _ => d.answer st
  | none, none => d.answer St.noObject
  | none, some r =>
    if b.length < 4 then d.answer St.length else
    let n := beNat (b.take 4)
    let data := b.drop 4
    match d.foyer.xfer with
    | none => d.answer (if 8 ≤ flags then St.range else St.state)
    | some x =>
      let here := x.writing && x.index = idx && x.sub = sub
      if !here then d.answer (if 8 ≤ flags then St.range else St.state)
      else if x.total < x.buf.length + data.length then d.dropXfer.answer St.length
      else if n ≠ x.next then d.dropXfer.answer St.range
      else
        let v := x.buf ++ data
        if v.length < x.total then
          (if 8 ≤ flags then d.answer St.range else (d.setFoyer (fun f => { f with xfer := some { x with buf := v, next := n + 1 } })).done)
        else
          let k := idx * 256 + sub
          let d1 := d.setFoyer (fun f => { f with xfer := none })
          match firstBad [(d1.lengthBad idx sub r.ty v, St.length), ((8 ≤ flags || rangeBad k r v) && !d1.failsAuth a k r v, St.range)] with
          | some st => (d.dropXfer.clearTried k st v).refuseWrite idx sub v st
          | none => d1.writeObj a k r v

/-- ABORT (R61). A payload, where Table 2-3 has none, is ignored (DESIGN CHOICE, log 19). -/
def Device.doAbort (d : Device) (idx sub : Nat) (flags : Nat) : Reply :=
  if (dictFind idx sub).isNone then d.answer (if dictHasIndex idx then St.noSub else St.noObject)
  else if 8 ≤ flags then d.answer St.range
  else match d.foyer.xfer with
  | none => d.done
  | some x => if x.index = idx && x.sub = sub then d.dropXfer.done else d.answer St.state

/-- R61: a frame of the open transfer restarts its timeout with the answer that it gets. -/
def Device.touchXfer (d : Device) (idx sub : Nat) (write : Bool) : Device :=
  match d.foyer.xfer with
  | some x => if x.writing = write && x.index = idx && x.sub = sub
      then d.setFoyer (fun f => { f with xfer := some { x with since := d.clock.ticks } }) else d
  | none => d

/-- R40: a request that passed the checks of ranks 1 to 3 on its frame. -/
def Device.doRequest (d : Device) (a : Asker) (idx sub flags cap : Nat) (b : Bytes) : Reply :=
  if a.opcode = 1 then d.doRead idx sub flags cap
  else if a.opcode = 2 then d.doWrite a idx sub flags b
  else if a.opcode = 3 then d.doReadInit a idx sub flags
  else if a.opcode = 4 then (d.touchXfer idx sub false).doReadSeg idx sub flags b
  else if a.opcode = 5 then d.doWriteInit idx sub flags b
  else if a.opcode = 6 then (d.touchXfer idx sub true).doWriteSeg a idx sub flags b
  else if a.opcode = 7 then d.doAbort idx sub flags
  else if (dictFind idx sub).isNone then d.answer (if dictHasIndex idx then St.noSub else St.noObject)
  else d.answer St.range

/-! ## Frames -/

/-- The partner of a frame: on CAN the controller alone. -/
def reqSrc (r : HapReq) : Partner :=
  if r.h.src.transport < 4 then { transport := r.h.src.transport, addr := [], port := 0 } else r.h.src

/-- The payload of a request: LENGTH bytes. -/
def reqPay (r : HapReq) : Bytes := r.payload.take r.h.length

/-- The MAC of a request, if FLAGS[0] says there is one. -/
def reqMac (r : HapReq) : Bytes := if bit r.h.flags 0 then padTo 8 r.h.mac else []

/-- Table 2-2: offsets 0 to 19 + LENGTH of a request. -/
def reqHead (r : HapReq) : Bytes :=
  ofNats [r.h.ver, r.opcode, r.h.flags, r.sub] ++ toBE 2 r.index ++ toBE 2 r.h.txn ++ toBE 2 r.h.status ++ toBE 2 r.h.length
    ++ toBE 4 r.h.token ++ toBE 4 r.h.seq ++ (reqPay r)

/-- R39: is the frame discarded without a reply. -/
def reqDiscarded (r : HapReq) : Bool :=
  let size := 24 + r.h.length + (reqMac r).length
  r.h.ver ≠ 1 || r.h.crc ≠ crc32c ((reqHead r) ++ (reqMac r)) || r.h.received < size || maxPdu (reqSrc r) r.h.xl < size || bit r.h.flags 1

/-- R49: is the request a write of 1 to LOCK_REQUEST. -/
def reqAcquires (r : HapReq) : Bool := r.opcode = 2 && r.index = 0x1100 && r.sub = 1 && (reqPay r) = [1]

/-- R4, R49: is the request a read of an identity object. Only opcode READ counts as one: READ_INIT and READ_SEG would open a transfer of
the owner's (DEDUCED; the spec does not name them). -/
def reqIdentity (r : HapReq) : Bool := r.opcode = 1 && 0x1000 ≤ r.index && r.index ≤ 0x10FF

/-- R577: the answer in ROM recovery. -/
def Device.recoveryReply (d : Device) (r : HapReq) : Reply :=
  let k := r.index * 256 + r.sub
  if r.opcode = 1 && r.h.flags < 8 && [K.deviceId, K.revision, K.khLifecycle, K.khBootStatus].contains k then
    { status := some St.ok, pay := d.readValue r.index r.sub false, dev := d, after := id }
  else d.refuseReq r St.state

/-- R54: what a failed MAC or SEQ check does; the third in a row releases the lock once its answer has left. An accepted frame breaks a
row, also one that its object answers 0x100B; one that 0x1008 answers does not (DEDUCED, log 26). -/
def Device.authFailed (d : Device) (r : HapReq) : Reply :=
  let d1 := (d.bump K.sessionAuthFails).setFoyer (fun f => { f with fails := f.fails + 1 })
  { status := some St.auth, pay := [], dev := ((d1.report 0x0F02 [1, d1.num K.sessionAuthFails]).refuseReq r St.auth).dev
    after := fun x => if 3 ≤ x.foyer.fails then x.releaseLock 4 else x }

/-- R50: a valid frame from the owner restarts the times of R50 and R527 and ends an entry to sleep (R529). -/
def Device.ownerFrame (d : Device) : Device :=
  (d.setFoyer (fun f => { f with lastValid := d.clock.ticks })).ownerActive

/-- R30: an object's live copy is lost to an uncorrectable error until it is rewritten. -/
def Device.loseObject (d : Device) (k : Nat) (b : Bool) : Device := if b && !d.lost.contains k then { d with lost := d.lost ++ [k] } else d

/-- R66: the reply to a request that was not discarded. -/
def Device.replyTo (d : Device) (r : HapReq) : Reply :=
  let src := (reqSrc r)
  let own := d.isOwner src
  let sess := own && d.lock = 3
  let exempt := (reqAcquires r) || (reqIdentity r)
  let tokenOk := r.h.token = d.foyer.token
  if d.keyhole.recovery then d.recoveryReply r
  else if reqAcquires r && d.lock ≠ 0 && !own then d.answer St.busy
  else if !exempt && !(own && tokenOk) then d.refuseReq r St.busy
  else if sess && !bit r.h.flags 0 then d.refuseReq r St.session
  else if sess && (mac8 d.foyer.key (reqHead r) ≠ (reqMac r) || r.h.seq ≤ d.foyer.seqIn) then d.authFailed r
  else
    let d1 := if sess then d.setFoyer (fun f => { f with seqIn := r.h.seq, fails := 0 }) else d
    let d2 := if own && (tokenOk || (reqAcquires r)) then d1.ownerFrame else d1
    let k := r.index * 256 + r.sub
    let e := (r.h.env.mem.find? (fun x => x.1 = k)).map (·.2)
    let d3 : Device := d2.meetError e |>.loseObject k (fatalErr e)
    if own && d.lock = 2 && r.index ≠ 0x1100 && r.index ≠ 0x1101 && !(reqIdentity r) then
      d3.refuseReq r St.session
    else d3.doRequest { src := src, xl := r.h.xl, txn := r.h.txn, opcode := r.opcode, env := r.h.env }
      r.index r.sub r.h.flags (maxPayload src r.h.xl sess) (reqPay r)

/-- R41, R55: the reply to a request leaves, and what its response brings about happens; `sess` says whether the request was an owner
frame of a session. -/
def Device.finish (r : HapReq) (sess : Bool) (x : Reply) : Device :=
  let d1 := match x.status with
    | some st => x.dev.respond (reqSrc r) r.h.xl r.opcode r.index r.sub r.h.txn st x.pay
    | none => x.dev
  let d2 := x.after d1
  if sess && d2.lock = 3 && d2.foyer.seqIn = 0xFFFFFFFF then d2.seqExhausted else d2

/-- R41: a request is served. -/
def Device.serveNow (d : Device) (r : HapReq) : Device := Device.finish r (d.isOwner (reqSrc r) && d.lock = 3) (d.replyTo r)

/-- R39, R41: Foyer takes a frame: it is discarded and counted, or served with its transport as SOURCE of the events it causes. -/
def Device.takeHap (d : Device) (r : HapReq) : Device :=
  if (reqDiscarded r) then d.bump K.hapRxDiscards else d.causedBy (reqSrc r).transport (·.serveNow r)

/-- R41, R300: a HAP frame that arrives in a sleep state or during the exit is retained if it wakes, or joins, the wake. -/
def Device.holdHap (d : Device) (r : HapReq) (source port : Nat) : Device :=
  let d1 := d.fbWake source port
  if d1.power.waking.isSome && d.wakeAllowed source (d.nat K.fbState) then d1.setFoyer (fun f => { f with held := f.held ++ [r] }) else d1

end Sys2Proof.Machine
end

