-- ==== Sys2Proof/Machine/Arrival.lean ====
section
/-! DEFINITION. Frames that arrive (10_ports.md, 12_switch_fabric.md): the checks of Porch, what Hallway does with a frame, frames that wake
the part, and HAP requests on their transports. -/

namespace Sys2Proof.Machine

/-! ## HAP frames as bytes (R36, R38) -/

/-- R38: the request that the bytes of a HAP frame spell; missing bytes read 0, and R39 discards the frame for its size. -/
def hapOfBytes (src : Partner) (xl : Bool) (b : Bytes) (env : HapEnv) : HapReq :=
  let n := fieldNat b 10 2
  let flags := fieldNat b 2 1
  let m := if bit flags 0 then 8 else 0
  let h : HapHdr :=
    { src := src, xl := xl, received := b.length, ver := fieldNat b 0 1, flags := flags, txn := fieldNat b 6 2, status := fieldNat b 8 2
      length := n, token := fieldNat b 12 4, seq := fieldNat b 16 4, mac := field b (20 + n) m, crc := fieldNat b (20 + n + m) 4, env := env }
  { h := h, opcode := fieldNat b 1 1, index := fieldNat b 4 2, sub := fieldNat b 3 1, payload := field b 20 n }

/-- The HAP request in a UDP frame that arrived on port p. -/
def hapOfFrame (p : Nat) (body : Bytes) (env : HapEnv) : HapReq :=
  let k := parseFrame body
  hapOfBytes { transport := p + 4, addr := k.saddr, port := k.sport, mac := k.src, tag := k.tag } false (udpPayload body) env

/-! ## Frames that arrive (R275 to R277, R291, R305, R312, R322, R328 to R331, R348, R349) -/

/-- A frame delivered to IP0 (R312): its stamp, its end instant on MT and in root time, when its last bit was captured, and what R21 has in
force at its receive stamp. -/
def Device.rxFrame (d : Device) (p fine : Nat) (f : Frame) (t16 : Int) : RxFrame :=
  let span := 8 * frameLen f.body * d.bitPs p
  let then_ : Device := { d with clock := { d.clock with mt := t16.toNat * fracU } }
  { port := p, body := f.body, stamp := f.stamp, rx16 := t16, end16 := f.end16
    endPs := ((d.rootPs + fine + span : Nat) : Int) - d.rxPath p, capPs := d.rootPs + fine + span, steps := d.nat K.mtStepCount
    bound := d.hoBound, free := (List.range 8).map (fun n => (d.nat (K.domState n), d.nat (K.instFreeBound n)))
    stepped := d.clock.stepped, leap := then_.leapPending, utc := then_.utcOffset, id := f.id, cells := f.cells
    tick := d.clock.ticks, moved := d.mtMoved, dco := d.clock.dco }

/-- R312: IPk receives a frame with its descriptor. -/
def Device.ipTakes (d : Device) (k : Nat) (f : Frame) : Device :=
  { d with hall := { d.hall with taken := updAt d.hall.taken k (fun _ => some f) } }

/-- R328: a frame that Hallway took from port p goes where Table 12-1 sends it; `req` is the HAP request it carries, if it is one. -/
def Device.hallTake (d : Device) (p fine : Nat) (f : Frame) (t16 : Int) (req : HapReq) : Device :=
  let k := parseFrame f.body
  let d1 := if d.mirrored p 1 then d.ipTakes 3 f |>.mirror f else d
  if d1.vlanDrops p k then d1.bump K.hallVlanDrop
  else match d1.localDest p k with
  | .ip 0 => ((d1.ipTakes 0 f).toIp0 (d1.rxFrame p fine f t16)).cellCheck
  | .ip 2 => if d1.power.serving then (d1.ipTakes 2 f).takeHap req else d1
  | .ip n => d1.ipTakes n f
  | .drop => d1.bump K.hallLocalDiscard
  | .forward => d1.forward p f

/-- R312, R327: the frame and descriptor that Hallway gets of a frame whose SFD passed port p's capture point `fine` ps into this tick. -/
def Device.storedFrame (d : Device) (p fine : Nat) (body word : Bytes) (t16 : Int) : Frame :=
  let span := 8 * frameLen body * d.bitPs p
  { body := body, src := p, whole := d.rootPs + fine + span, id := d.hall.nextId, cells := cellsOf body, stamp := word
    end16 := t16 + (span * 65536 / 1000 : Nat) }

/-- R275, Table 10-3 row 7: a frame is counted as delivered. -/
def Device.countRx (d : Device) (p : Nat) (body : Bytes) : Device :=
  (d.bump64 (K.portRxFrames p)).bumpBy 8 (K.portRxOctets p) (frameLen body)

/-- A frame takes the next number of stored frames. -/
def Device.numberFrame (d : Device) : Device := { d with hall := { d.hall with nextId := d.hall.nextId + 1 } }

/-- R275: a frame that passed checks 1 to 5 on port p: check 6, and its delivery; `mem` is a memory error of its descriptor. -/
def Device.deliver (d0 : Device) (p fine : Nat) (body word : Bytes) (t16 : Int) (mem : Option MemErr) (req : HapReq) : Device :=
  let d := d0.freeEnded
  let k := parseFrame body
  let q := d.pcpQueue p k
  if !d.roomFor p (cellsOf body) then (d.bump64 (K.portRxOverflow p q)).portDrop p 4 (K.portRxOverflow p q) q else
  let counted := d.countRx p body
  let et := d.nat (K.stampProbeEtype p)
  if et ≠ 0 && k.etype = et then
    (counted.setNum (K.stampProbeRx p) t16.toNat).setNum (K.stampProbeRxSeq p) (fieldNat body 14 2)
  else match d.stationAnswer p body with
  | some b => counted.sendOwn p b
  | none =>
    let met := counted.meetError mem
    if fatalErr mem then met else
    met.numberFrame.hallTake p fine (met.storedFrame p fine body word t16) t16 req

/-- R290, R291: the pattern by which a frame that passed checks 1 to 3 wakes the part from port p, 0xFF in Doze; none if it does not. -/
def Device.wakesBy (d : Device) (p : Nat) (body : Bytes) : Option Nat :=
  let st := d.nat K.fbState
  if d.link p ≠ 4 || !d.wakeAllowed 0 st || !d.freshWake then none
  else if st = 2 then some 0xFF else d.wakePattern p body

/-- R291, R292: a waking frame is recorded, and the first one of the port is retained. -/
def Device.wakeFrame (d : Device) (p pat : Nat) (f : Frame) : Device :=
  let d1 := (d.setNum (K.wakeLast p) pat).report 0x0802 [p, pat, d.num K.fbState]
  (d1.setPort p (fun u => { u with retained := some (u.retained.getD f) })).fbWake 0 (p + 4)

/-- R275: the checks of Table 10-3 on a frame at port p, captured `fine` ps into this tick; `err` is 1 for a wrong FCS, 2 for a
receive error that the PHY signalled; `loop` marks a frame that re-enters its port (R349). -/
def Device.ingress (d00 : Device) (p fine : Nat) (body : Bytes) (err : Nat) (mem : Option MemErr) (req : HapReq) (loop : Bool) : Device :=
  let d0 := if err = 2 then d00.wrap (K.portPhySymErr p) else d00
  let (word, t16, d) := if d0.portUp p then d0.rxStamp p fine loop else ([], 0, d0)
  let len := frameLen body
  if len < 64 then (d.wrap (K.portRxRunt p)).portDrop p 1 (K.portRxRunt p) 0
  else if d.nat (K.portMaxFrame p) < len then (d.wrap (K.portRxOversize p)).portDrop p 2 (K.portRxOversize p) 0
  else if err ≠ 0 then (d.wrap (K.portRxFcsErr p)).portDrop p 3 (K.portRxFcsErr p) 0
  else
    let f : Frame := { body := body, src := p }
    let pat := if d.asleep || d.power.waking.isSome then d.wakesBy p body else none
    if (parseFrame body).etype = 0x8808 then
      (match pat with
        | some n => (d.setNum (K.wakeLast p) n).report 0x0802 [p, n, d.num K.fbState] |>.fbWake 0 (p + 4)
        | none => d).wrap (K.portRxMacCtrl p)
    else if d.asleep || d.power.waking.isSome then
      match pat with
      | some n => if (d.port p).retained.isNone then d.wakeFrame p n f else (d.wakeFrame p n f).wrap (K.portRxSleep p)
      | none => d.wrap (K.portRxSleep p)
    else d.deliver p fine body word t16 mem req

/-- R275, R305, R349: the SFD of a frame from the medium passes the capture point of a port that is UP or SLEEP_ARMED, `fine` ps into this
tick. -/
def Device.receive (d : Device) (p fine : Nat) (body : Bytes) (err : Nat) (mem : Option MemErr) (req : HapReq) : Device :=
  if 44 ≤ p || (d.link p ≠ 3 && d.link p ≠ 4) || !d.clock.mtRun then d
  else if bit (d.nat K.hallLoopMask) p then d.bump K.hallLoopDiscard
  else d.ingress p (min fine 799) body err mem req false

/-- FRAME_RECEIVE: `wait` ticks on, a frame arrives. -/
def Device.frameReceive (d0 : Device) (p wait fine : Nat) (body : Bytes) (err : Nat) (mem : Option MemErr) (env : HapEnv) : Device :=
  (d0.elapse wait).receive p fine body err mem (hapOfFrame p body env)

/-! ## HAP requests as they arrive (R34 to R36, R41, R292) -/

/-- The bytes of a request's PDU as received. -/
def reqWire (r : HapReq) : Bytes := padTo r.h.received (reqHead r ++ reqMac r ++ toBE 4 r.h.crc)

/-- R34, R36: the frame that carries a HAP request over UDP to port p. -/
def Device.hapBody (d : Device) (p : Nat) (r : HapReq) : Bytes :=
  let own := d.oct (if r.h.src.addr.length = 4 then K.portIpv4 p else K.portIpv6 p)
  padFrame (udpFrame (d.oct (K.portMac p)) r.h.src.mac r.h.src.tag r.h.src.addr own r.h.src.port 4845 (reqWire r))

/-- R34 to R36: a HAP request arrives whole on its transport: on a controller that serves HAP, or as a frame to the station address of a
port, which the checks of Porch and Hallway then pass to Foyer. -/
def Device.hapServe (d : Device) (r : HapReq) : Device :=
  let t := r.h.src.transport
  if 48 ≤ t then d
  else if t < 4 then
    (if !d.power.serving || !d.canHap t || (r.h.xl && d.canMode t ≠ 3) then d else
    let d1 := (d.canReceived t (d.nat K.hapCanReqId) false).2
    if d1.asleep then d1.holdHap r 1 t else d1.takeHap r)
  else d.receive (t - 4) 0 (d.hapBody (t - 4) r) 0 none r

/-- R292: what port p retained goes to Hallway if it is a HAP frame to its station address, else it is dropped and counted. It was not
stamped (R305). -/
def Device.serveRetained (d : Device) (p : Nat) (env : HapEnv) : Device :=
  match (d.port p).retained with
  | none => d
  | some f =>
    let k := parseFrame f.body
    let d1 := d.setPort p (fun u => { u with retained := none })
    if k.udp && k.dport = 4845 && d1.ownIp p k.daddr && bit (d1.nat K.hapUdpPortMask) p then
      d1.deliver p 0 f.body (stampWord 0 8) 0 none (hapOfFrame p f.body env)
    else d1.wrap (K.portRxSleep p)

end Sys2Proof.Machine
end

