-- ==== Sys2Proof/Machine/Hap.lean ====
section
/-! DEFINITION. The meanings of the commands that are HAP requests (02_management_access.md): a frame by its opcode, and the writes and reads
that a row of the table names by their object. -/

namespace Sys2Proof.Machine

/-- A command whose frame carries a fixed opcode, object and payload. -/
def State.hap (s : State) (h : HapHdr) (opcode index sub : Nat) (payload : Bytes) : State :=
  s.on (·.hapServe { h := h, opcode := opcode, index := index, sub := sub, payload := payload })

/-- A WRITE of an object. -/
def State.hapWrite (s : State) (h : HapHdr) (key : Nat) (payload : Bytes) : State := s.hap h 2 (key / 256) (key % 256) payload

/-! ## Meanings: frames by opcode -/

/-- READ; the opcode operand admits the codes that Table 2-3 does not list (R40). -/
def execRead (h : HapHdr) (opcode index sub : Nat) (payload : Bytes) (s : State) : Host.Outcome State Fault Refusal :=
  .next (s.hap h (if opcode = 0 || 7 < opcode then opcode else 1) index sub payload)
/-- WRITE. -/
def execWrite (h : HapHdr) (index sub : Nat) (payload : Bytes) (s : State) : Host.Outcome State Fault Refusal :=
  .next (s.hap h 2 index sub payload)
/-- READ_INIT. -/
def execReadInit (h : HapHdr) (index sub : Nat) (payload : Bytes) (s : State) : Host.Outcome State Fault Refusal :=
  .next (s.hap h 3 index sub payload)
/-- READ_SEG. -/
def execReadSeg (h : HapHdr) (index sub : Nat) (payload : Bytes) (s : State) : Host.Outcome State Fault Refusal :=
  .next (s.hap h 4 index sub payload)
/-- WRITE_INIT. -/
def execWriteInit (h : HapHdr) (index sub : Nat) (payload : Bytes) (s : State) : Host.Outcome State Fault Refusal :=
  .next (s.hap h 5 index sub payload)
/-- WRITE_SEG. -/
def execWriteSeg (h : HapHdr) (index sub : Nat) (payload : Bytes) (s : State) : Host.Outcome State Fault Refusal :=
  .next (s.hap h 6 index sub payload)
/-- ABORT. -/
def execAbort (h : HapHdr) (index sub : Nat) (payload : Bytes) (s : State) : Host.Outcome State Fault Refusal :=
  .next (s.hap h 7 index sub payload)

/-! ## Meanings: the lock, the session and commits -/

/-- R48: requests of one arbitration cycle in the order C0 to C3, P00 upward. -/
def byTransport (hs : List HapHdr) : List HapHdr :=
  ((List.range 48).map (fun t => hs.filter (fun h => h.src.transport = t))).flatten

/-- LOCK_ACQUIRE: writes of 1 to LOCK_REQUEST that fall in one arbitration cycle. -/
def execLockAcquire (hs : List HapHdr) (s : State) : Host.Outcome State Fault Refusal :=
  .next ((byTransport hs).foldl (fun s h => s.hapWrite h K.lockRequest [1]) s)
/-- LOCK_RELEASE. -/
def execLockRelease (h : HapHdr) (s : State) : Host.Outcome State Fault Refusal := .next (s.hapWrite h K.lockRequest [0])
/-- SESSION_HOST_NONCE. -/
def execSessionHostNonce (h : HapHdr) (nonce : Bytes) (s : State) : Host.Outcome State Fault Refusal :=
  .next (s.hapWrite h K.sessionHostNonce nonce)
/-- SESSION_PROOF. -/
def execSessionProof (h : HapHdr) (proof : Bytes) (s : State) : Host.Outcome State Fault Refusal := .next (s.hapWrite h K.sessionProof proof)

/-- Table 2-13: the 24 bytes of a commit request. -/
def commitBytes (groups mode slot rsv : Nat) (instant : Bytes) : Bytes :=
  toBE 8 groups ++ ofNats [mode, slot] ++ toBE 2 rsv ++ padTo 12 instant

/-- COMMIT_IMMEDIATE: MODE[0] is 0. -/
def execCommitImmediate (h : HapHdr) (groups modeHi slot rsv : Nat) (instant : Bytes) (s : State) : Host.Outcome State Fault Refusal :=
  .next (s.hapWrite h K.commitRequest (commitBytes groups (2 * modeHi) slot rsv instant))
/-- COMMIT_SCHEDULED: MODE[0] is 1. -/
def execCommitScheduled (h : HapHdr) (groups modeHi slot rsv : Nat) (instant : Bytes) (s : State) : Host.Outcome State Fault Refusal :=
  .next (s.hapWrite h K.commitRequest (commitBytes groups (2 * modeHi + 1) slot rsv instant))
/-- COMMIT_DISCARD. -/
def execCommitDiscard (h : HapHdr) (mask : Nat) (s : State) : Host.Outcome State Fault Refusal := .next (s.hapWrite h K.commitDiscard (toBE 4 mask))
/-- COMMIT_CANCEL. -/
def execCommitCancel (h : HapHdr) (slot : Nat) (s : State) : Host.Outcome State Fault Refusal := .next (s.hapWrite h K.commitCancel (toBE 1 slot))

/-- Table 3-5: the 24 bytes of a step request. -/
def stepBytes (amount : Int) (mode slot rsv : Nat) (instant : Bytes) : Bytes :=
  toBE 8 (ofSigned 8 amount) ++ ofNats [mode, slot] ++ toBE 2 rsv ++ padTo 12 instant

/-- MT_SET. -/
def execMtSet (h : HapHdr) (value : Bytes) (s : State) : Host.Outcome State Fault Refusal := .next (s.hapWrite h K.mtSet value)
/-- MT_STEP_IMMEDIATE: MODE[0] is 0. -/
def execMtStepImmediate (h : HapHdr) (amount : Int) (modeHi slot rsv : Nat) (instant : Bytes) (s : State) : Host.Outcome State Fault Refusal :=
  .next (s.hapWrite h K.mtStep (stepBytes amount (2 * modeHi) slot rsv instant))
/-- MT_STEP_SCHEDULED: MODE[0] is 1. -/
def execMtStepScheduled (h : HapHdr) (amount : Int) (modeHi slot rsv : Nat) (instant : Bytes) (s : State) : Host.Outcome State Fault Refusal :=
  .next (s.hapWrite h K.mtStep (stepBytes amount (2 * modeHi + 1) slot rsv instant))

/-! ## Meanings: writes of one object -/

/-- HO_MODEL_CLEAR. -/
def execHoModelClear (h : HapHdr) (value : Bytes) (s : State) : Host.Outcome State Fault Refusal := .next (s.hapWrite h K.hoModelClear value)
/-- SKY_ORBIT_LOAD in one frame; longer loads are segmented. -/
def execSkyOrbitLoad (h : HapHdr) (pages : Bytes) (s : State) : Host.Outcome State Fault Refusal := .next (s.hapWrite h K.skyOrbitLoad pages)
/-- SKY_AID_POS. -/
def execSkyAidPos (h : HapHdr) (value : Bytes) (s : State) : Host.Outcome State Fault Refusal := .next (s.hapWrite h K.skyAidPos value)
/-- CH_FIFO_READ: an expedited read of a channel's FIFO. -/
def execChFifoRead (h : HapHdr) (ch : Nat) (s : State) : Host.Outcome State Fault Refusal := .next (s.hap h 1 (0x2410 + ch % 24) 0x11 [])
/-- OUT_REARM. -/
def execOutRearm (h : HapHdr) (n : Nat) (value : Bytes) (s : State) : Host.Outcome State Fault Refusal :=
  .next (s.hap h 2 (0x2540 + n % 16) 0x0D value)
/-- HALL_FDB_FLUSH. -/
def execHallFdbFlush (h : HapHdr) (value : Bytes) (s : State) : Host.Outcome State Fault Refusal := .next (s.hapWrite h K.hallFdbFlush value)
/-- XPHY_MDIO. -/
def execXphyMdio (h : HapHdr) (value : Bytes) (s : State) : Host.Outcome State Fault Refusal := .next (s.hapWrite h K.xphyMdio value)
/-- PORT_CNT_CLEAR. -/
def execPortCntClear (h : HapHdr) (port : Nat) (value : Bytes) (s : State) : Host.Outcome State Fault Refusal :=
  .next (s.hap h 2 (0x3000 + port % 44) 0x29 value)
/-- STAMP_PROBE_SEND. -/
def execStampProbeSend (h : HapHdr) (port : Nat) (value : Bytes) (s : State) : Host.Outcome State Fault Refusal :=
  .next (s.hap h 2 (0x3000 + port % 44) 0x4B value)
/-- CAN_CFG. -/
def execCanCfg (h : HapHdr) (can : Nat) (value : Bytes) (s : State) : Host.Outcome State Fault Refusal :=
  .next (s.hap h 2 (0x3110 + can % 4) 0x01 value)
/-- RING_OBS_CLEAR. -/
def execRingObsClear (h : HapHdr) (ring : Nat) (value : Bytes) (s : State) : Host.Outcome State Fault Refusal :=
  .next (s.hap h 2 (0x4100 + ring % 64) 0x1C value)
/-- SR_JOB_SUBMIT. -/
def execSrJobSubmit (h : HapHdr) (value : Bytes) (s : State) : Host.Outcome State Fault Refusal := .next (s.hapWrite h K.srJobSubmit value)
/-- SR_JOB_ABORT. -/
def execSrJobAbort (h : HapHdr) (value : Bytes) (s : State) : Host.Outcome State Fault Refusal := .next (s.hapWrite h K.srJobAbort value)
/-- SR_LANE_RESTORE. -/
def execSrLaneRestore (h : HapHdr) (value : Bytes) (s : State) : Host.Outcome State Fault Refusal := .next (s.hapWrite h K.srLaneRestore value)
/-- SR_SLOT_LAYOUT. -/
def execSrSlotLayout (h : HapHdr) (value : Bytes) (s : State) : Host.Outcome State Fault Refusal := .next (s.hapWrite h K.srSlotLayout value)
/-- SR_SLOT_DATA. -/
def execSrSlotData (h : HapHdr) (slot : Nat) (value : Bytes) (s : State) : Host.Outcome State Fault Refusal :=
  .next (s.hap h 2 (0x5040 + slot % 64) 0x01 value)
/-- KH_PROVISION. -/
def execKhProvision (h : HapHdr) (value : Bytes) (s : State) : Host.Outcome State Fault Refusal := .next (s.hapWrite h K.khProvision value)
/-- KH_OWNER_PUB_SET. -/
def execKhOwnerPubSet (h : HapHdr) (value : Bytes) (s : State) : Host.Outcome State Fault Refusal := .next (s.hapWrite h K.khOwnerPubSet value)
/-- KH_OWNER_KEY_SET. -/
def execKhOwnerKeySet (h : HapHdr) (value : Bytes) (s : State) : Host.Outcome State Fault Refusal := .next (s.hapWrite h K.khOwnerKeySet value)
/-- KH_PROV_COMMIT. -/
def execKhProvCommit (h : HapHdr) (value : Bytes) (s : State) : Host.Outcome State Fault Refusal := .next (s.hapWrite h K.khProvCommit value)
/-- KH_OWNER_XFER. -/
def execKhOwnerXfer (h : HapHdr) (value : Bytes) (s : State) : Host.Outcome State Fault Refusal := .next (s.hapWrite h K.khOwnerXfer value)
/-- KH_KEYGEN. -/
def execKhKeygen (h : HapHdr) (value : Bytes) (s : State) : Host.Outcome State Fault Refusal := .next (s.hapWrite h K.khKeygen value)
/-- KH_KEY_DESTROY. -/
def execKhKeyDestroy (h : HapHdr) (value : Bytes) (s : State) : Host.Outcome State Fault Refusal := .next (s.hapWrite h K.khKeyDestroy value)
/-- KH_NTS_ROTATE. -/
def execKhNtsRotate (h : HapHdr) (value : Bytes) (s : State) : Host.Outcome State Fault Refusal := .next (s.hapWrite h K.khNtsRotate value)
/-- KH_COSIGN_ENABLE. -/
def execKhCosignEnable (h : HapHdr) (value : Bytes) (s : State) : Host.Outcome State Fault Refusal := .next (s.hapWrite h K.khCosignEnable value)
/-- KH_ROLLBACK_COMMIT. -/
def execKhRollbackCommit (h : HapHdr) (value : Bytes) (s : State) : Host.Outcome State Fault Refusal :=
  .next (s.hapWrite h K.khRollbackCommit value)
/-- KH_TAMPER_CLEAR. -/
def execKhTamperClear (h : HapHdr) (value : Bytes) (s : State) : Host.Outcome State Fault Refusal := .next (s.hapWrite h K.khTamperClear value)
/-- KH_ATTEST_REQ. -/
def execKhAttestReq (h : HapHdr) (value : Bytes) (s : State) : Host.Outcome State Fault Refusal := .next (s.hapWrite h K.khAttestReq value)
/-- STUDY_FW_IMAGE: the final WRITE_SEG of the image, number `segno`. -/
def execStudyFwImage (h : HapHdr) (segno : Nat) (data : Bytes) (s : State) : Host.Outcome State Fault Refusal :=
  .next (s.hap h 6 (K.studyFwImage / 256) (K.studyFwImage % 256) (toBE 4 segno ++ data))
/-- STUDY_NEXT_LOC. -/
def execStudyNextLoc (h : HapHdr) (value : Bytes) (s : State) : Host.Outcome State Fault Refusal := .next (s.hapWrite h K.studyNextLoc value)
/-- MB_SEND: a message of the owner on channel MBn, 8 to 15. -/
def execMbSend (h : HapHdr) (n : Nat) (value : Bytes) (s : State) : Host.Outcome State Fault Refusal :=
  .next (s.hap h 2 (0x6110 + n % 16) 0x03 value)
/-- MB_RECV: an expedited read of the oldest message of channel MBn toward the owner. -/
def execMbRecv (h : HapHdr) (n : Nat) (s : State) : Host.Outcome State Fault Refusal := .next (s.hap h 1 (0x6110 + n % 16) 0x04 [])
/-- DB_IRQ_MASK. -/
def execDbIrqMask (h : HapHdr) (value : Bytes) (s : State) : Host.Outcome State Fault Refusal := .next (s.hapWrite h K.dbIrqMask value)
/-- ATTIC_SNAP. -/
def execAtticSnap (h : HapHdr) (value : Bytes) (s : State) : Host.Outcome State Fault Refusal := .next (s.hapWrite h K.atticSnap value)
/-- ATTIC_CLEAR. -/
def execAtticClear (h : HapHdr) (value : Bytes) (s : State) : Host.Outcome State Fault Refusal := .next (s.hapWrite h K.atticClear value)
/-- LATENCY_TOL. -/
def execLatencyTol (h : HapHdr) (value : Bytes) (s : State) : Host.Outcome State Fault Refusal := .next (s.hapWrite h K.latencyTol value)
/-- AGE_REPLAN_NOW. -/
def execAgeReplanNow (h : HapHdr) (value : Bytes) (s : State) : Host.Outcome State Fault Refusal := .next (s.hapWrite h K.ageReplanNow value)
/-- CFG_SAVE. -/
def execCfgSave (h : HapHdr) (value : Bytes) (s : State) : Host.Outcome State Fault Refusal := .next (s.hapWrite h K.cfgSave value)
/-- CFG_ERASE. -/
def execCfgErase (h : HapHdr) (value : Bytes) (s : State) : Host.Outcome State Fault Refusal := .next (s.hapWrite h K.cfgErase value)

end Sys2Proof.Machine
end

