-- ==== Sys2Proof/Machine/Crossing.lean ====
section
/-! DEFINITION. What crosses the blocks: frames that arrive, are released and are sent, requests that are admitted and answered, CAN
frames, links that come and go, and the end of an exit (10_ports.md, 12_switch_fabric.md, 13_time_service.md). -/

namespace Sys2Proof.Machine

/-! ## Frames that leave (R335, R345 to R349) -/

/-- The surroundings of a frame that never left the part. -/
def innerEnv : HapEnv := { mem := [], vendor := false, mdio := 0xFFFF, degrade := [], acked := true }

/-- R349: a frame released to a port in HALL_LOOP_MASK re-enters that port; its transmit stamp is invalid. -/
def Device.loopBack (d : Device) (p : Nat) (f : Frame) : Device :=
  let t16 := ((d.clock.mt : Int) + psU (d.txPath p)) / fracU
  (d.returnStamp p f.tag (stampWord t16 (d.stampFlags p true)) t16).ingress p 0 (padFrame f.body) 0 none
    (hapOfFrame p (padFrame f.body) innerEnv) true

/-- R335, R349: a frame is released to port p. -/
def Device.releaseTo (d : Device) (p : Nat) (q : Option Nat) (f : Frame) : Device :=
  if bit (d.nat K.hallLoopMask) p then d.loopBack p f else d.takePlace p q f

/-- FRAME_RELEASE (R335): Porch's place for port p is free; time runs until a head frame is eligible, and it is released. -/
def Device.frameRelease (d : Device) (p : Nat) : Device :=
  if 44 ≤ p || !d.portUp p || (d.port p).place.isSome then d else
  match Device.nextRelease p 16 d with
  | (some (q, f), d1) => (d1.releaseTo p q f).ipDrain
  | (none, d1) => d1.ipDrain

/-- R347: the queue of the frame that port p began to send loses credit until its end. -/
def Device.sendCredit (d : Device) (p : Nat) (q : Option Nat) : Device :=
  match q with
  | none => d
  | some q => (d.bringCredits p).setEgress p (fun e => { e with
      credits := updAt e.credits q (fun c => { c with sendEnd := (d.port p).busyPs }) })

/-- FRAME_TRANSMIT (R307, R348): port p commits to its frame; one that is sent holds its cells until its end and may be mirrored. -/
def Device.frameTransmit (d : Device) (p wait fine : Nat) : Device :=
  match (d.port p).place with
  | none => d
  | some f =>
    let q := (d.port p).placeQueue
    let d1 := d.freeEnded.commitFrame p wait fine
    if (d1.port p).place.isSome then d1
    else if d1.outbox.length = d.outbox.length then d1.ipDrain
    else
      let d2 := (d1.setPort p (fun u => { u with sending := some f })).sendCredit p q
      (if d2.mirrored p 2 then d2.mirror f else d2).ipDrain

/-! ## Links (R279, R280, R369, R395, R436) -/

/-- LINK_UP. -/
def Device.linkRises (d : Device) (p : Nat) : Device := (d.linkUp p).portFollow d p

/-- LINK_LOSS. -/
def Device.linkFalls (d : Device) (p : Nat) : Device := if 44 ≤ p then d else ((d.linkLost p 1).portFollow d p).cellCheck

/-! ## Requests (R359 to R375) -/

/-- Does a frame at IP0 ask for a time. -/
def Device.isRequest (d : Device) (q : RxFrame) : Bool :=
  match d.recognise q.port q.body with
  | .request _ => true
  | _ => false

/-- R361, R370 to R375: a request of a class and ring is admitted or refused. -/
def Device.decide (d0 : Device) (q : RxFrame) (cls g : Nat) : Device :=
  let d := d0.setRing g (fun _ => d0.ringNow g d0.val)
  let (c, d1) := d.touchClient g q.port (sourceOf (parseFrame q.body))
  let d2 := if c.isNone then d1.noteUntracked else d1
  let r := d2.ring g
  let a : Asked := { cls := cls, ring := g, client := c, bucket := r.bucket, untracked := r.untracked }
  let why := d2.checks a
  if why ≠ 0 then d2.refuse q cls g why
  else if cls = 5 then d2.admitLedger q a
  else d2.admitPlain q a

/-- R30: the client table entry of a request is reset. -/
def Device.resetClient (d : Device) (g : Nat) (q : RxFrame) : Device :=
  d.setParl (fun a => { a with clients := d.otherClients g q.port (sourceOf (parseFrame q.body)) })

/-- R369: a request whose last bit has come: a step of MT that came before its end instant is not one that its response spans. -/
def RxFrame.settle (q : RxFrame) (d : Device) : RxFrame :=
  if (d.clock.stepAt * 800 : Int) ≤ q.endPs then { q with steps := d.nat K.mtStepCount } else q

/-- REQUEST_ADMISSION (R359 to R361): the request at IP0 whose last bit came first is decided `wait` ticks, at most 320 ns, after its last bit was
captured, after what the instances send at that tick (R368); `mem` is a memory error of its client's entry. -/
def Device.admission (d0 : Device) (wait : Nat) (mem : Option MemErr) : Device :=
  let asks := d0.parl.rx.filter (fun q => d0.isRequest q)
  match asks.find? (fun q => asks.all (fun x => q.capPs ≤ x.capPs)) with
  | none => d0
  | some q0 =>
    let q := q0.settle d0
    let d := ((d0.runTo (ceilDiv q.capPs 800 + min wait 400)).dueMessages.setParl (fun a => { a with rx := a.rx.erase q0 })).meetError mem
    match d.recognise q.port q.body with
    | .request cls =>
      (match d.ringOf cls q.port (parseFrame q.body) with
      | none => d.bump K.parUnclassified
      | some g => (if fatalErr mem then d.resetClient g q else d).decide q cls g)
    | _ => d

/-- R334, R367: a frame that Parlour hands over takes reserve cells and is released, or waits for them; behind a frame in Porch's place it
heads the service queue, unless that is full. -/
def Device.handFrame (d0 : Device) (r : Resv) (f : Frame) : Device :=
  let d := d0.freeEnded
  let p := r.port
  let q := d.nat K.parQueue
  let g := { f with id := d.hall.nextId, cells := cellsOf f.body }
  let d1 := d.numberFrame
  if !d.reserveRoom (cellsOf f.body) then { d with hall := { d.hall with waiting := d.hall.waiting ++ [(p, q, f)] } }
  else if (d.port p).place.isNone then (d1.releaseTo p (some q) g).cellCheck
  else if d.nat (K.qMaxCells p q) < d.queueCells p q + g.cells then d1.egressDrop p 1 q (K.qTaildrop p q)
  else ((d1.bringCredits p).setQueue p q (fun l => g :: l)).cellCheck

/-- RESPONSE_HANDOVER (R30, R367, R431): time runs until the first reservation's start and its frame goes; `mem` is a memory
error of its pipeline entry. -/
def Device.handover (d0 : Device) (mem : Option MemErr) : Device :=
  match d0.nextResv with
  | none => d0
  | some r =>
    let frame := match r.frame.tag with
      | .leaf id idx => d0.leafFrame id idx
      | _ => some r.frame
    match frame with
    | none => d0
    | some f =>
      let d := ((d0.runToMt (ceilDiv r.start 1000)).setParl (fun a => { a with resv := a.resv.erase r })).meetError mem
      match r.frame.tag, fatalErr mem with
      | .entry id, true => d.entryLost id
      | .leaf id _, _ => (d.noticeSent id).handFrame r f
      | _, _ => d.handFrame r f

/-- TX_STAMP_RETURN (R314, R384): the oldest stamp that Porch returned reaches who asked for it. -/
def Device.stampBack (d0 : Device) : Device :=
  match d0.parl.returned with
  | [] => d0
  | (tag, word, t16, steps) :: rest =>
    let d := d0.setParl (fun a => { a with returned := rest })
    match tag with
    | .entry id =>
      (match d.parl.flights.find? (fun f => f.id = id) with
      | some f => d.flightDone f word t16 steps
      | none => d)
    | .ptp n kind code => d.delayStamped n kind code word t16 steps
    | .leaf id idx => d.leafDone id idx word t16 steps
    | _ => d

/-! ## CAN (R299, R300) -/

/-- CAN_FRAME_RECEIVE (R35, R299): controller n received a frame of a format correctly; a HAP request goes to Foyer, or wakes the part. -/
def Device.canFrame (d : Device) (n ident : Nat) (fmt : CanFmt) (data : Bytes) (env : HapEnv) : Device :=
  if !d.canActive n || (fmt = .xl && d.canMode n ≠ 3) || (fmt = .fd && d.canMode n < 2) then d else
  match d.canReceived n ident (fmt = .cc) with
  | (false, d1) => d1
  | (true, d1) =>
    let r := hapOfBytes { transport := n, addr := [], port := 0 } (fmt = .xl) data env
    if d1.asleep then d1.holdHap r 1 n else if d1.power.serving then d1.takeHap r else d1

/-! ## The end of an exit (R41, R292, R535) -/

/-- EXIT_COMPLETE: the exit ends, and the requests that woke the part are served in the order of R48. -/
def Device.exitComplete (d0 : Device) (env : HapEnv) : Device :=
  let d := d0.exitDone
  if d.power.waking.isSome || d0.power.waking.isNone then d else
  let held := d.foyer.held
  let d1 := held.foldl (fun d r => d.takeHap r) (d.setFoyer (fun f => { f with held := [] }))
  (List.range 44).foldl (fun d p => d.serveRetained p env) d1

/-! ## Meanings -/

/-- FRAME_RECEIVE. -/
def execFrameReceive (port wait fine : Nat) (body : Bytes) (err : Nat) (mem : Option MemErr) (env : HapEnv) (s : State) :
    Host.Outcome State Fault Refusal := .next (s.on (·.frameReceive port wait fine body err mem env))
/-- FRAME_RELEASE. -/
def execFrameRelease (port : Nat) (s : State) : Host.Outcome State Fault Refusal := .next (s.on (·.frameRelease port))
/-- FRAME_TRANSMIT. -/
def execFrameTransmit (port wait fine : Nat) (s : State) : Host.Outcome State Fault Refusal :=
  .next (s.on (·.frameTransmit port wait fine))
/-- LINK_UP. -/
def execLinkUp (port : Nat) (s : State) : Host.Outcome State Fault Refusal := .next (s.on (·.linkRises port))
/-- LINK_LOSS. -/
def execLinkLoss (port : Nat) (s : State) : Host.Outcome State Fault Refusal := .next (s.on (·.linkFalls port))
/-- REQUEST_ADMISSION. -/
def execRequestAdmission (wait : Nat) (mem : Option MemErr) (s : State) : Host.Outcome State Fault Refusal := .next (s.on (·.admission wait mem))
/-- RESPONSE_HANDOVER. -/
def execResponseHandover (mem : Option MemErr) (s : State) : Host.Outcome State Fault Refusal := .next (s.on (·.handover mem))
/-- TX_STAMP_RETURN. -/
def execTxStampReturn (s : State) : Host.Outcome State Fault Refusal := .next (s.on (·.stampBack))
/-- NTSKE_CONNECTION. -/
def execNtskeConnection (client : TlsClient) (stays : Bool) (s : State) : Host.Outcome State Fault Refusal :=
  .next (s.on (·.ntskeRun client stays))
/-- NTSKE_TIMEOUT. -/
def execNtskeTimeout (s : State) : Host.Outcome State Fault Refusal := .next (s.on (·.ntskeExpire))
/-- CAN_FRAME_RECEIVE. -/
def execCanFrameReceive (can ident : Nat) (fmt : CanFmt) (data : Bytes) (env : HapEnv) (s : State) : Host.Outcome State Fault Refusal :=
  .next (s.on (·.canFrame can ident fmt data env))
/-- EXIT_COMPLETE. -/
def execExitComplete (env : HapEnv) (s : State) : Host.Outcome State Fault Refusal := .next (s.on (·.exitComplete env))

end Sys2Proof.Machine
end

