-- ==== Sys2Proof/Machine/Dispatch.lean ====
section
/-! DEFINITION. The dispatch of the commands to their meanings: one arm per row of spec/opcode_table.json. -/

namespace Sys2Proof.Machine

def exec (i : Instr) (s : State) : Host.Outcome State Fault Refusal :=
  match i with
  | .read h opcode index sub payload => Sys2Proof.Machine.execRead h opcode index sub payload s
  | .write h index sub payload => Sys2Proof.Machine.execWrite h index sub payload s
  | .readInit h index sub payload => Sys2Proof.Machine.execReadInit h index sub payload s
  | .readSeg h index sub payload => Sys2Proof.Machine.execReadSeg h index sub payload s
  | .writeInit h index sub payload => Sys2Proof.Machine.execWriteInit h index sub payload s
  | .writeSeg h index sub payload => Sys2Proof.Machine.execWriteSeg h index sub payload s
  | .abort h index sub payload => Sys2Proof.Machine.execAbort h index sub payload s
  | .xferTimeout => Sys2Proof.Machine.execXferTimeout s
  | .lockAcquire hs => Sys2Proof.Machine.execLockAcquire hs s
  | .lockRelease h => Sys2Proof.Machine.execLockRelease h s
  | .lockIdleTimeout => Sys2Proof.Machine.execLockIdleTimeout s
  | .sessionHostNonce h nonce => Sys2Proof.Machine.execSessionHostNonce h nonce s
  | .sessionProof h proof => Sys2Proof.Machine.execSessionProof h proof s
  | .handshakeTimeout => Sys2Proof.Machine.execHandshakeTimeout s
  | .heartbeat => Sys2Proof.Machine.execHeartbeat s
  | .commitImmediate h groups modeHi slot rsv instant => Sys2Proof.Machine.execCommitImmediate h groups modeHi slot rsv instant s
  | .commitSwitch groups stuck => Sys2Proof.Machine.execCommitSwitch groups stuck s
  | .commitReadyTimeout groups => Sys2Proof.Machine.execCommitReadyTimeout groups s
  | .commitScheduled h groups modeHi slot rsv instant => Sys2Proof.Machine.execCommitScheduled h groups modeHi slot rsv instant s
  | .commitDiscard h mask => Sys2Proof.Machine.execCommitDiscard h mask s
  | .commitCancel h slot => Sys2Proof.Machine.execCommitCancel h slot s
  | .slotLatch slot stuck => Sys2Proof.Machine.execSlotLatch slot stuck s
  | .slotExecute stuck => Sys2Proof.Machine.execSlotExecute stuck s
  | .mtSet h value => Sys2Proof.Machine.execMtSet h value s
  | .mtSetApply due => Sys2Proof.Machine.execMtSetApply due s
  | .mtStepImmediate h amount modeHi slot rsv instant => Sys2Proof.Machine.execMtStepImmediate h amount modeHi slot rsv instant s
  | .mtStepScheduled h amount modeHi slot rsv instant => Sys2Proof.Machine.execMtStepScheduled h amount modeHi slot rsv instant s
  | .stepApply delay stuck => Sys2Proof.Machine.execStepApply delay stuck s
  | .pullComplete => Sys2Proof.Machine.execPullComplete s
  | .domPullComplete dom => Sys2Proof.Machine.execDomPullComplete dom s
  | .leapPendingBegin => Sys2Proof.Machine.execLeapPendingBegin s
  | .leapInstant => Sys2Proof.Machine.execLeapInstant s
  | .mtReplicaFault unit => Sys2Proof.Machine.execMtReplicaFault unit s
  | .resetRelease straps entropy puf found shipped vendor => Sys2Proof.Machine.execResetRelease straps entropy puf found shipped vendor s
  | .supplyReset vbat torn => Sys2Proof.Machine.execSupplyReset vbat torn s
  | .rstNAssert => Sys2Proof.Machine.execRstNAssert s
  | .overtempReset => Sys2Proof.Machine.execOvertempReset s
  | .deviceWatchdog => Sys2Proof.Machine.execDeviceWatchdog s
  | .configLoad stuck => Sys2Proof.Machine.execConfigLoad stuck s
  | .rootLock => Sys2Proof.Machine.execRootLock s
  | .rootLockLost cause => Sys2Proof.Machine.execRootLockLost cause s
  | .rootFault dev rail => Sys2Proof.Machine.execRootFault dev rail s
  | .loMeasure hz => Sys2Proof.Machine.execLoMeasure hz s
  | .ckoAlign n => Sys2Proof.Machine.execCkoAlign n s
  | .dpllUpdate => Sys2Proof.Machine.execDpllUpdate s
  | .candidatePhaseMeasurement cand stuck u => Sys2Proof.Machine.execCandidatePhaseMeasurement cand stuck u s
  | .freqMonitor u => Sys2Proof.Machine.execFreqMonitor u s
  | .activityTimeout refin => Sys2Proof.Machine.execActivityTimeout refin s
  | .holdoffExpiry cand => Sys2Proof.Machine.execHoldoffExpiry cand s
  | .wtrExpiry cand => Sys2Proof.Machine.execWtrExpiry cand s
  | .selectionEvaluation stuck => Sys2Proof.Machine.execSelectionEvaluation stuck s
  | .lockDwellExpiry => Sys2Proof.Machine.execLockDwellExpiry s
  | .learningSample => Sys2Proof.Machine.execLearningSample s
  | .modelRefit => Sys2Proof.Machine.execModelRefit s
  | .modelSave => Sys2Proof.Machine.execModelSave s
  | .tempSample die dieOk ohms => Sys2Proof.Machine.execTempSample die dieOk ohms s
  | .tempHostTimeout => Sys2Proof.Machine.execTempHostTimeout s
  | .boundUpdate => Sys2Proof.Machine.execBoundUpdate s
  | .compatTimerExpiry => Sys2Proof.Machine.execCompatTimerExpiry s
  | .hoModelClear h value => Sys2Proof.Machine.execHoModelClear h value s
  | .acqDwell place signal sv glonass detected elev azim => Sys2Proof.Machine.execAcqDwell place signal sv glonass detected elev azim s
  | .pullInTimeout channel => Sys2Proof.Machine.execPullInTimeout channel s
  | .correlatorDump channel reading locked updated nav => Sys2Proof.Machine.execCorrelatorDump channel reading locked updated nav s
  | .coastTimeout channel => Sys2Proof.Machine.execCoastTimeout channel s
  | .loopUpdateTimeout => Sys2Proof.Machine.execLoopUpdateTimeout s
  | .measLatch meas fix refit => Sys2Proof.Machine.execMeasLatch meas fix refit s
  | .antCurrentMeasure current => Sys2Proof.Machine.execAntCurrentMeasure current s
  | .antShortRetry current => Sys2Proof.Machine.execAntShortRetry current s
  | .agcInterference l5 gain u => Sys2Proof.Machine.execAgcInterference l5 gain u s
  | .skyOrbitLoad h pages => Sys2Proof.Machine.execSkyOrbitLoad h pages s
  | .skyAidPos h value => Sys2Proof.Machine.execSkyAidPos h value s
  | .skyPps u => Sys2Proof.Machine.execSkyPps u s
  | .parkBurst meas fixes => Sys2Proof.Machine.execParkBurst meas fixes s
  | .predictionExpiry => Sys2Proof.Machine.execPredictionExpiry s
  | .edgeInput ch falling wait fine => Sys2Proof.Machine.execEdgeInput ch falling wait fine s
  | .stampConversion ch => Sys2Proof.Machine.execStampConversion ch s
  | .intervalTimeout ch => Sys2Proof.Machine.execIntervalTimeout ch s
  | .regGateEnd ch => Sys2Proof.Machine.execRegGateEnd ch s
  | .tdcCalSwap ch bins u => Sys2Proof.Machine.execTdcCalSwap ch bins u s
  | .tdcCalComplete => Sys2Proof.Machine.execTdcCalComplete s
  | .chFifoRead h ch => Sys2Proof.Machine.execChFifoRead h ch s
  | .outEdge n => Sys2Proof.Machine.execOutEdge n s
  | .outTrailingEdge n => Sys2Proof.Machine.execOutTrailingEdge n s
  | .outRearm h n value => Sys2Proof.Machine.execOutRearm h n value s
  | .frameReceive port wait fine body err mem env => Sys2Proof.Machine.execFrameReceive port wait fine body err mem env s
  | .frameRelease port => Sys2Proof.Machine.execFrameRelease port s
  | .frameTransmit port wait fine => Sys2Proof.Machine.execFrameTransmit port wait fine s
  | .collision port late => Sys2Proof.Machine.execCollision port late s
  | .backoffExpiry port => Sys2Proof.Machine.execBackoffExpiry port s
  | .plcaBeaconTimeout port => Sys2Proof.Machine.execPlcaBeaconTimeout port s
  | .linkUp port => Sys2Proof.Machine.execLinkUp port s
  | .linkLoss port => Sys2Proof.Machine.execLinkLoss port s
  | .trainingRetry port => Sys2Proof.Machine.execTrainingRetry port s
  | .gateBoundary port => Sys2Proof.Machine.execGateBoundary port s
  | .fdbAgeingExpiry => Sys2Proof.Machine.execFdbAgeingExpiry s
  | .hallFdbFlush h value => Sys2Proof.Machine.execHallFdbFlush h value s
  | .xphyMdio h value => Sys2Proof.Machine.execXphyMdio h value s
  | .portCntClear h port value => Sys2Proof.Machine.execPortCntClear h port value s
  | .stampProbeSend h port value => Sys2Proof.Machine.execStampProbeSend h port value s
  | .canCfg h can value => Sys2Proof.Machine.execCanCfg h can value s
  | .canIntegrated can => Sys2Proof.Machine.execCanIntegrated can s
  | .canFrameReceive can ident fmt data env => Sys2Proof.Machine.execCanFrameReceive can ident fmt data env s
  | .canError can tec rec => Sys2Proof.Machine.execCanError can tec rec s
  | .canBusoffRecovery can => Sys2Proof.Machine.execCanBusoffRecovery can s
  | .requestAdmission wait mem => Sys2Proof.Machine.execRequestAdmission wait mem s
  | .responseHandover mem => Sys2Proof.Machine.execResponseHandover mem s
  | .txStampReturn => Sys2Proof.Machine.execTxStampReturn s
  | .ringObsClear h ring value => Sys2Proof.Machine.execRingObsClear h ring value s
  | .ntskeConnection alert stays => Sys2Proof.Machine.execNtskeConnection alert stays s
  | .ntskeTimeout => Sys2Proof.Machine.execNtskeTimeout s
  | .syncSchedule inst port => Sys2Proof.Machine.execSyncSchedule inst port s
  | .announceSchedule inst port => Sys2Proof.Machine.execAnnounceSchedule inst port s
  | .delayReqSchedule inst port => Sys2Proof.Machine.execDelayReqSchedule inst port s
  | .ptpSyncRx u => Sys2Proof.Machine.execPtpSyncRx u s
  | .ptpFollowUpRx u => Sys2Proof.Machine.execPtpFollowUpRx u s
  | .ptpAnnounceRx => Sys2Proof.Machine.execPtpAnnounceRx s
  | .ptpDelayRespRx => Sys2Proof.Machine.execPtpDelayRespRx s
  | .ptpPdelayRespRx => Sys2Proof.Machine.execPtpPdelayRespRx s
  | .ptpSignalingRx => Sys2Proof.Machine.execPtpSignalingRx s
  | .bmcaDecision inst => Sys2Proof.Machine.execBmcaDecision inst s
  | .qualificationTimeout inst port => Sys2Proof.Machine.execQualificationTimeout inst port s
  | .announceReceiptTimeout inst port => Sys2Proof.Machine.execAnnounceReceiptTimeout inst port s
  | .syncReceiptTimeout inst port => Sys2Proof.Machine.execSyncReceiptTimeout inst port s
  | .pdelayLostResponses inst port => Sys2Proof.Machine.execPdelayLostResponses inst port s
  | .freeBoundUpdate inst => Sys2Proof.Machine.execFreeBoundUpdate inst s
  | .batchEnd => Sys2Proof.Machine.execBatchEnd s
  | .rootComplete wait => Sys2Proof.Machine.execRootComplete wait s
  | .signComplete wait => Sys2Proof.Machine.execSignComplete wait s
  | .verifyComplete wait sound third => Sys2Proof.Machine.execVerifyComplete wait sound third s
  | .bookedJobTimeout => Sys2Proof.Machine.execBookedJobTimeout s
  | .srJobSubmit h value => Sys2Proof.Machine.execSrJobSubmit h value s
  | .jobDispatch => Sys2Proof.Machine.execJobDispatch s
  | .jobCheckEnd lane ecc => Sys2Proof.Machine.execJobCheckEnd lane ecc s
  | .jobYield lane wait mem => Sys2Proof.Machine.execJobYield lane wait mem s
  | .jobComplete lane wait sound third => Sys2Proof.Machine.execJobComplete lane wait sound third s
  | .srJobAbort h value => Sys2Proof.Machine.execSrJobAbort h value s
  | .srLaneRestore h value => Sys2Proof.Machine.execSrLaneRestore h value s
  | .selfTestComplete lane wait pass => Sys2Proof.Machine.execSelfTestComplete lane wait pass s
  | .srSlotLayout h value => Sys2Proof.Machine.execSrSlotLayout h value s
  | .srSlotData h slot value => Sys2Proof.Machine.execSrSlotData h slot value s
  | .entropyHealthFailure test => Sys2Proof.Machine.execEntropyHealthFailure test s
  | .entropyRetest pass => Sys2Proof.Machine.execEntropyRetest pass s
  | .drbgReseed => Sys2Proof.Machine.execDrbgReseed s
  | .khProvision h value => Sys2Proof.Machine.execKhProvision h value s
  | .khOwnerPubSet h value => Sys2Proof.Machine.execKhOwnerPubSet h value s
  | .khOwnerKeySet h value => Sys2Proof.Machine.execKhOwnerKeySet h value s
  | .khProvCommit h value => Sys2Proof.Machine.execKhProvCommit h value s
  | .khOwnerXfer h value => Sys2Proof.Machine.execKhOwnerXfer h value s
  | .khKeygen h value => Sys2Proof.Machine.execKhKeygen h value s
  | .keygenComplete slot => Sys2Proof.Machine.execKeygenComplete slot s
  | .khKeyDestroy h value => Sys2Proof.Machine.execKhKeyDestroy h value s
  | .khNtsRotate h value => Sys2Proof.Machine.execKhNtsRotate h value s
  | .ntsRotatePeriodExpiry => Sys2Proof.Machine.execNtsRotatePeriodExpiry s
  | .khCosignEnable h value => Sys2Proof.Machine.execKhCosignEnable h value s
  | .khRollbackCommit h value => Sys2Proof.Machine.execKhRollbackCommit h value s
  | .tamperInput pin => Sys2Proof.Machine.execTamperInput pin s
  | .khTamperClear h value => Sys2Proof.Machine.execKhTamperClear h value s
  | .khAttestReq h value => Sys2Proof.Machine.execKhAttestReq h value s
  | .attestComplete => Sys2Proof.Machine.execAttestComplete s
  | .coreWatchdogExpiry core => Sys2Proof.Machine.execCoreWatchdogExpiry core s
  | .coreReloadComplete core wait => Sys2Proof.Machine.execCoreReloadComplete core wait s
  | .studyFwImage h segno data => Sys2Proof.Machine.execStudyFwImage h segno data s
  | .fwCopyComplete => Sys2Proof.Machine.execFwCopyComplete s
  | .studyNextLoc h value => Sys2Proof.Machine.execStudyNextLoc h value s
  | .mbSend h n value => Sys2Proof.Machine.execMbSend h n value s
  | .mbRecv h n => Sys2Proof.Machine.execMbRecv h n s
  | .dbIrqMask h value => Sys2Proof.Machine.execDbIrqMask h value s
  | .mb8Service => Sys2Proof.Machine.execMb8Service s
  | .recordForm => Sys2Proof.Machine.execRecordForm s
  | .flashRecordWrite outcome => Sys2Proof.Machine.execFlashRecordWrite outcome s
  | .atticSnap h value => Sys2Proof.Machine.execAtticSnap h value s
  | .atticClear h value => Sys2Proof.Machine.execAtticClear h value s
  | .atticClearComplete => Sys2Proof.Machine.execAtticClearComplete s
  | .latencyTol h value => Sys2Proof.Machine.execLatencyTol h value s
  | .idleTimeExpiry => Sys2Proof.Machine.execIdleTimeExpiry s
  | .powerEntryComplete => Sys2Proof.Machine.execPowerEntryComplete s
  | .wake source port => Sys2Proof.Machine.execWake source port s
  | .wakeInPin pin level => Sys2Proof.Machine.execWakeInPin pin level s
  | .cellarAlarm => Sys2Proof.Machine.execCellarAlarm s
  | .sequencerStepStart => Sys2Proof.Machine.execSequencerStepStart s
  | .exitComplete env => Sys2Proof.Machine.execExitComplete env s
  | .marginReplan degrade acked => Sys2Proof.Machine.execMarginReplan degrade acked s
  | .ageReplanNow h value => Sys2Proof.Machine.execAgeReplanNow h value s
  | .avsWriteRetry acked => Sys2Proof.Machine.execAvsWriteRetry acked s
  | .cellarMinute => Sys2Proof.Machine.execCellarMinute s
  | .xtalOffsetMeasure => Sys2Proof.Machine.execXtalOffsetMeasure s
  | .cellarSnapshot => Sys2Proof.Machine.execCellarSnapshot s
  | .vbatLow mv => Sys2Proof.Machine.execVbatLow mv s
  | .railFault rail mv => Sys2Proof.Machine.execRailFault rail mv s
  | .cfgSave h value => Sys2Proof.Machine.execCfgSave h value s
  | .cfgSaveComplete wait => Sys2Proof.Machine.execCfgSaveComplete wait s
  | .cfgErase h value => Sys2Proof.Machine.execCfgErase h value s
  | .pullWithinLockThresh => Sys2Proof.Machine.execPullWithinLockThresh s
  | .plcaBeacon port wait => Sys2Proof.Machine.execPlcaBeacon port wait s
  | .firstBatchOpen => Sys2Proof.Machine.execFirstBatchOpen s
  | .crystalStopped => Sys2Proof.Machine.execCrystalStopped s
  | .testEnHigh => Sys2Proof.Machine.execTestEnHigh s
  | .wdtStartsClear => Sys2Proof.Machine.execWdtStartsClear s
  | .powerUpGrantTimeout => Sys2Proof.Machine.execPowerUpGrantTimeout s
  | .portPowerRecommit => Sys2Proof.Machine.execPortPowerRecommit s
  | .aggregateStampDemand => Sys2Proof.Machine.execAggregateStampDemand s

end Sys2Proof.Machine
end

