-- ==== Sys2Proof/Machine/Step.lean ====
section
/-! DEFINITION. One step of the block: the command at the front of the queue, or one tick of CK_TIME when none waits. -/

namespace Sys2Proof.Machine

/-- With no command waiting one CK_TIME tick of 0.8 ns passes (R75; DESIGN CHOICE, log entry 1). -/
def State.idle (s : State) : State := s.on (·.elapse 1)

/-- Take the command at the front of the queue and run it on the part with the queue's rest; idle on an empty queue. -/
def step (s : State) : Host.Outcome State Fault Refusal :=
  match s.pending with
  | [] => .next s.idle
  | c :: rest => exec c { s with pending := rest }

/-- The state with the command that a word spells put at the front of the queue; unchanged where it spells none. -/
def State.withFetchWord (s : State) (nbits w : Nat) : State :=
  match decodeTableWord nbits w with
  | some c => { s with pending := c :: s.pending }
  | none => s

end Sys2Proof.Machine
end

