-- ==== Sys2Proof/Safety.lean ====
section
/-! DEFINITION. The terms the statements are written in: HAP requests as the part hears, grants and answers them, the canonical form
of a store, how a report stands, and running the queue. The spec names no stop: no step of a run is unsafe. -/

namespace Sys2Proof.Machine

/-! ## HAP requests -/

/-- The request of a command that reads or writes one object. -/
def hapReq (h : HapHdr) (opcode key : Nat) (b : Bytes) : HapReq :=
  { h := h, opcode := opcode, index := key / 256, sub := key % 256, payload := b }

/-- R275, R305, R312, R348: the frame that carries a HAP request over UDP to port p as Hallway stores it, with the part that has stamped, counted,
numbered and mirrored it. -/
def Device.hapStored (d : Device) (p : Nat) (r : HapReq) : Device × Frame :=
  let b := d.hapBody p r
  let s := d.rxStamp p 0 false
  let c := s.2.2.freeEnded.countRx p b
  let f := c.storedFrame p 0 b s.1 s.2.1
  (if c.numberFrame.mirrored p 1 then (c.numberFrame.ipTakes 3 f).mirror f else c.numberFrame, f)

/-- R275: does the frame that carries a HAP request over UDP pass the checks of Porch on port p, the part being awake. -/
def Device.hapPasses (d : Device) (p : Nat) (r : HapReq) : Prop :=
  let b := d.hapBody p r
  let e := (d.rxStamp p 0 false).2.2
  d.portUp p = true ∧ d.clock.mtRun = true ∧ bit (d.nat K.hallLoopMask) p = false ∧ 64 ≤ frameLen b ∧ frameLen b ≤ e.nat (K.portMaxFrame p)
    ∧ (parseFrame b).etype ≠ 0x8808 ∧ e.asleep = false ∧ e.power.waking = none ∧ e.freeEnded.roomFor p (cellsOf b) = true
    ∧ (e.freeEnded.nat (K.stampProbeEtype p) = 0 ∨ (parseFrame b).etype ≠ e.freeEnded.nat (K.stampProbeEtype p))
    ∧ e.freeEnded.stationAnswer p b = none

/-- R34 to R36, R41, R275, R328: does a frame reach Foyer at once: over CAN while the part serves and is awake, on a controller that carries HAP; over
UDP where Porch passes it and Hallway gives it to IP2. -/
def Device.hears (d : Device) (r : HapReq) : Prop :=
  let t := r.h.src.transport
  (t < 4 ∧ d.power.serving = true ∧ (d.canReceived t (d.nat K.hapCanReqId) false).2.asleep = false ∧ d.canHap t = true
      ∧ (r.h.xl = true → d.canMode t = 3)) ∨
    (4 ≤ t ∧ t < 48 ∧ d.hapPasses (t - 4) r ∧
      let x := (d.hapStored (t - 4) r).1
      let k := parseFrame (d.hapBody (t - 4) r)
      x.vlanDrops (t - 4) k = false ∧ x.localDest (t - 4) k = .ip 2 ∧ x.power.serving = true)

/-- The part as the frame reaches Foyer: counted where its transport counts it (R298, R300), or as Hallway gives it to IP2 (R275, R312). -/
def Device.heard (d : Device) (r : HapReq) : Device :=
  if r.h.src.transport < 4 then (d.canReceived r.h.src.transport (d.nat K.hapCanReqId) false).2
  else (d.hapStored (r.h.src.transport - 4) r).1.ipTakes 2 (d.hapStored (r.h.src.transport - 4) r).2

/-- R39, R49, R54, Table 2-8: a frame that is not discarded comes from the owner with the current token, in OPEN, in PENDING for an object
of the handshake, or, with a sound MAC and SEQ, in SESSION; no object loses its live copy with it. -/
def Device.grants (d : Device) (r : HapReq) : Prop :=
  reqDiscarded r = false ∧ d.keyhole.recovery = false ∧ d.isOwner (reqSrc r) = true ∧ r.h.token = d.foyer.token ∧ r.h.env.mem = [] ∧
    (d.lock = 1 ∨ (d.lock = 2 ∧ (r.index = 0x1100 ∨ r.index = 0x1101)) ∨ (d.lock = 3 ∧ bit r.h.flags 0 = true ∧ mac8 d.foyer.key (reqHead r) = reqMac r ∧ d.foyer.seqIn < r.h.seq))

/-- The part as a granted request finds it: the session's SEQ taken, the owner's idle time restarted (R50, R527, R529). -/
def Device.granted (d : Device) (r : HapReq) : Device :=
  (if d.lock = 3 then d.setFoyer (fun f => { f with seqIn := r.h.seq, fails := 0 }) else d).ownerFrame

/-- A frame that is heard and granted. -/
def State.grants (s : State) (r : HapReq) : Prop := s.dev.hears r ∧ (s.dev.heard r).grants r

/-- The part as the object of a granted request finds it; SOURCE of what it reports is the transport (R502). -/
def State.asked (s : State) (r : HapReq) : Device :=
  let d := s.dev.heard r
  ({ d with foyer := { d.foyer with cause := (reqSrc r).transport } } : Device).granted r

/-- The state once the reply to a granted request has left (R41, R54). -/
def State.answered (s : State) (r : HapReq) (x : Reply) : State :=
  let d := Device.finish r ((s.dev.heard r).lock = 3) x
  { s with dev := { d with foyer := { d.foyer with cause := (s.dev.heard r).foyer.cause } } }

/-- A WRITE of one object that is heard and granted, with no reserved flag set. -/
def State.writes (s : State) (h : HapHdr) (key : Nat) (v : Bytes) : Prop :=
  s.grants (hapReq h 2 key v) ∧ h.flags < 8 ∧ h.length = v.length

/-- The part as such a WRITE finds it. -/
def State.asWritten (s : State) (h : HapHdr) (key : Nat) (v : Bytes) : Device := s.asked (hapReq h 2 key v)

/-- The state once the reply to such a WRITE has left. -/
def State.wrote (s : State) (h : HapHdr) (key : Nat) (v : Bytes) (x : Reply) : State := s.answered (hapReq h 2 key v) x

/-! ## Stores -/

/-- The canonical form of the live values: keys strictly rising, and none listed at what it reads when unlisted. -/
def Store.Canonical : Store → Prop
  | [] => True
  | (k, v) :: t => v ≠ dictDefault k ∧ (∀ e ∈ t, k < e.1) ∧ Store.Canonical t

/-- Keys strictly rising: no key is listed twice. -/
def Store.Rising : Store → Prop
  | [] => True
  | (k, _) :: t => (∀ e ∈ t, k < e.1) ∧ Store.Rising t

/-- The stores of a part in order: the live values canonical, the staged keys rising. -/
def Device.Stored (d : Device) : Prop := d.obj.Canonical ∧ d.staged.Rising

/-! ## Reports -/

/-- The reports that stand after `d'` and did not before `d`, oldest first, as code and parameters. -/
def newReports (d d' : Device) : List (Nat × List Int) :=
  (d'.attic.reports.drop d.attic.reports.length).map (fun r => (r.code, r.p))

/-! ## Runs -/

/-- Commands run one after the other on the part, whatever waits behind them. -/
def runAll : List Instr → State → Host.Outcome State Fault Refusal
  | [], s => .next s
  | c :: cs, s =>
    match exec c s with
    | .next t => runAll cs t
    | .fault r => .fault r
    | .refused r => .refused r

end Sys2Proof.Machine
end

