-- ==== Sys2Proof/Certificates/Slice0/Obligations.lean ====
section
/-! DEFINITION. The statements for the provers: what the commands of each family do, from the spec's numbered rules, in chapter order. -/

open Sys2Proof Sys2Proof.Machine

/-- A step takes the command at the front of the queue and runs it with the queue's rest (the model's queue; log entry 1). -/
def Obligations.StepRunsFrontCommand : Prop :=
  ∀ (c : Instr) (rest : List Instr) (s : State), step { s with pending := c :: rest } = exec c { s with pending := rest }

/-- The steps of a queue are its commands in order: the result and the outcome do not depend on what waits behind them, and no command
reads or changes the queue (the model's queue; log entry 1). -/
def Obligations.QueueIsFirstInFirstOut : Prop :=
  ∀ (cs q : List Instr) (d : Device),
    (∀ d', runAll cs { pending := [], dev := d } = .next { pending := [], dev := d' } →
      Host.Core.run core cs.length { pending := cs ++ q, dev := d } = .next { pending := q, dev := d' }) ∧
    ∃ d', runAll cs { pending := [], dev := d } = .next { pending := [], dev := d' }

/-- Every step keeps the live store canonical and the staged keys rising (the model's own form of the dictionary; log entry 3). -/
def Obligations.StoresStayCanonical : Prop :=
  ∀ s t : State, s.dev.Stored → step s = .next t → t.dev.Stored

/-- The internal reset: every object at its default, the lock FREE, MT stopped, no command waiting. -/
def Obligations.ResetIsCanonical : Prop :=
  State.reset.dev.Stored ∧ (∀ k, State.reset.dev.val k = dictDefault k) ∧ State.reset.dev.lock = 0
    ∧ State.reset.dev.num K.lockHolder = 0xFF ∧ State.reset.dev.foyer.owner = none ∧ State.reset.dev.clock.mtRun = false
    ∧ State.reset.pending = []

/-- READ (R43, R44, R56, R232, R496): the answer carries the live value, or the staged copy of an RWC object if FLAGS[2] asks for it; and
what any answer outside a session puts on a CAN bus (R41). -/
def Obligations.ReadGivesValue : Prop :=
  (∀ (s : State) (h : HapHdr) (key : Nat) (row : ObjRow),
    let r := hapReq h 1 key []
    let d := s.asked r
    let staged := bit h.flags 2 && decide (row.acc = .rwc)
    let cap := maxPayload (reqSrc r) h.xl ((s.dev.heard r).lock = 3)
    let v := d.readFit (key / 256) (key % 256) staged cap
    let fifo := 0x2410 * 256 ≤ key ∧ key < 0x2428 * 256 ∧ key % 256 = 0x11
    s.grants r → h.flags < 8 → dictFind (key / 256) (key % 256) = some row → row.acc ≠ .wo → d.needsSession key row false = false →
    v.length ≤ cap → (staged = false → d.readBarred key = false) →
    exec (.read h 1 (key / 256) (key % 256) []) s = .next (s.answered r
      { status := some 0, pay := v, dev := d.readDone (key / 256) (key % 256) v (d.fifoOut (key / 256) (key % 256)), after := id })
    ∧ (¬ fifo → v = if staged then row.ty.encode (d.stagedVal key) else d.readLive (key / 256) (key % 256) row.ty)
    ∧ (fifo → v = (d.readLive (key / 256) (key % 256) row.ty).take (cap / 24 * 24))) ∧
  (∀ (d : Device) (src : Partner) (xl : Bool) (opcode index sub txn status : Nat) (pay : Bytes),
    d.canActive src.transport = true → d.lock ≠ 3 →
    ∃ c, (d.respond src xl opcode index sub txn status pay).outbox = d.outbox ++ [.hap src c
      { opcode := opcode, flags := 2, sub := sub, index := index, txn := txn, status := status,
        token := if d.isOwner src = true then d.foyer.token else 0, seq := 0, payload := pay, mac := [] }]
      ∧ c.xl = xl ∧ c.ident = d.nat K.hapCanRspId)

/-- WRITE (R42, R43, R71): RWC writes the staged copy only; RW takes effect with the response. -/
def Obligations.WriteStagesOrSets : Prop :=
  ∀ (s : State) (h : HapHdr) (key : Nat) (row : ObjRow) (v : Bytes),
    let d := s.asWritten h key v
    s.writes h key v → dictFind (key / 256) (key % 256) = some row → row.acc ≠ .ro → d.needsSession key row true = false →
    d.lengthBad (key / 256) (key % 256) row.ty v = false → rangeBad key row v = false →
    (row.acc = .rwc → d.frozen row.grp = false →
      exec (.write h (key / 256) (key % 256) v) s = .next (s.wrote h key v (d.setStaged key (row.ty.decode v)).done)
      ∧ (d.setStaged key (row.ty.decode v)).stagedVal key = row.ty.decode v
      ∧ (∀ j, j ≠ key → (d.setStaged key (row.ty.decode v)).stagedVal j = d.stagedVal j)
      ∧ (d.setStaged key (row.ty.decode v)).obj = d.obj) ∧
    (row.acc = .rwc → d.frozen row.grp = true →
      exec (.write h (key / 256) (key % 256) v) s = .next (s.wrote h key v (d.answer 0x100A))) ∧
    (row.acc ≠ .rwc → (∀ a, (if key < 0x3000 * 256 then d.lowAction a key v else d.highAction a key v) = none) →
      exec (.write h (key / 256) (key % 256) v) s = .next (s.wrote h key v (d.setVal key (row.ty.decode v)).done)
      ∧ (d.setVal key (row.ty.decode v)).val key = row.ty.decode v
      ∧ (∀ j, j ≠ key → (d.setVal key (row.ty.decode v)).val j = d.val j)
      ∧ (d.setVal key (row.ty.decode v)).staged = d.staged)

/-- READ_INIT, READ_SEG, ABORT (R59 to R61); the segment size is the model's choice (log entry 20). -/
def Obligations.SegmentedReadFromCopy : Prop :=
  ∀ (s : State) (h : HapHdr) (key : Nat) (row : ObjRow) (b : Bytes), h.flags < 8 → dictFind (key / 256) (key % 256) = some row →
    (let r := hapReq h 3 key []
      let d := s.asked r
      let staged := bit h.flags 2 && decide (row.acc = .rwc)
      let v := d.readValue (key / 256) (key % 256) staged
      let x : Xfer := { writing := false, seg := segSize (reqSrc r), index := key / 256,
                         sub := key % 256, total := v.length, buf := v, next := 0, since := d.clock.ticks,
                         base := d.fifoOut (key / 256) (key % 256) }
      s.grants r → row.acc ≠ .wo → d.needsSession key row false = false → d.foyer.xfer = none →
      (staged = false → d.readBarred key = false) →
      exec (.readInit h (key / 256) (key % 256) []) s = .next (s.answered r
        { status := some 0, pay := toBE 4 v.length, after := id,
          dev := d.setFoyer (fun f => { f with xfer := some x }) })) ∧
    (let r := hapReq h 4 key b
      let d := s.asked r
      s.grants r → row.acc ≠ .wo → d.needsSession key row false = false → b.length = 4 → h.length = 4 →
      ∀ x, d.foyer.xfer = some x → x.writing = false → x.index = key / 256 → x.sub = key % 256 →
      (beNat b = 0 ∨ beNat b * x.seg < x.total) →
      let part := field x.buf (beNat b * x.seg) x.seg
      let got := beNat b * x.seg + part.length
      (x.total ≤ got → exec (.readSeg h (key / 256) (key % 256) b) s = .next (s.answered r
        { status := some 0, pay := b ++ part, dev := d.setFoyer (fun f => { f with xfer := none }),
          after := fun y => y.readDone (key / 256) (key % 256) x.buf x.base })) ∧
      (got < x.total → exec (.readSeg h (key / 256) (key % 256) b) s = .next (s.answered r
        { status := some 0, pay := b ++ part, after := id,
          dev := d.setFoyer (fun f => { f with xfer := some { x with next := max x.next got, since := d.clock.ticks } }) }))) ∧
    (let r := hapReq h 7 key b
      let d := s.asked r
      s.grants r → ∀ x, d.foyer.xfer = some x → x.index = key / 256 → x.sub = key % 256 →
      exec (.abort h (key / 256) (key % 256) b) s = .next (s.answered r d.dropXfer.done)
      ∧ d.dropXfer.foyer.xfer = none ∧ d.dropXfer.staged = d.staged
      ∧ (∀ j, j ≠ K.studyStageState → d.dropXfer.val j = d.val j))

/-- WRITE_INIT, WRITE_SEG (R57, R58). -/
def Obligations.SegmentedWriteAtTotal : Prop :=
  ∀ (s : State) (h : HapHdr) (key : Nat) (row : ObjRow) (b : Bytes), h.flags < 8 → h.length = b.length →
    dictFind (key / 256) (key % 256) = some row →
    (let r := hapReq h 5 key b
      let d := s.asked r
      let x : Xfer := { writing := true, seg := 0, index := key / 256, sub := key % 256, total := beNat b, buf := [], next := 0,
                         since := d.clock.ticks }
      s.grants r → row.acc ≠ .ro → d.needsSession key row true = false → d.foyer.xfer = none → d.nat K.studyStageState = 0 →
      b.length = 4 → 1 ≤ beNat b → beNat b ≤ 16777216 → row.ty.allows (beNat b) = true → key ≠ K.studyFwImage →
      exec (.writeInit h (key / 256) (key % 256) b) s = .next (s.answered r (d.setFoyer (fun f => { f with xfer := some x })).done)) ∧
    (let r := hapReq h 6 key b
      let d := s.asked r
      let data := b.drop 4
      s.grants r → row.acc ≠ .ro → d.needsSession key row true = false → 4 ≤ b.length →
      ∀ x, d.foyer.xfer = some x → x.writing = true → x.index = key / 256 → x.sub = key % 256 → beNat (b.take 4) = x.next →
      (x.buf.length + data.length < x.total →
        exec (.writeSeg h (key / 256) (key % 256) b) s = .next (s.answered r
          (d.setFoyer (fun f => { f with xfer := some { x with buf := x.buf ++ data, next := x.next + 1, since := d.clock.ticks } })).done)) ∧
      (x.buf.length + data.length = x.total →
        d.lengthBad (key / 256) (key % 256) row.ty (x.buf ++ data) = false → rangeBad key row (x.buf ++ data) = false →
        exec (.writeSeg h (key / 256) (key % 256) b) s = .next (s.answered r
          ((d.setFoyer (fun f => { f with xfer := none })).writeObj
            { src := reqSrc r, xl := h.xl, txn := h.txn, opcode := 6, env := h.env } key row (x.buf ++ data)))))

/-- XFER_TIMEOUT (R61). -/
def Obligations.TransferTimesOut : Prop :=
  ∀ (s : State) (x : Xfer), s.dev.foyer.xfer = some x →
    ∃ t, exec .xferTimeout s = .next t ∧ t.pending = s.pending ∧ t.dev.foyer.xfer = none
      ∧ newReports s.dev t.dev = [(0x0F03, ([x.index, x.sub, (if x.writing then x.buf.length else x.next : Nat)] : List Int))]
      ∧ t.dev.clock = (s.dev.runTo (x.since + s.dev.nat K.hapXferTimeout * msTicks)).clock
      ∧ (∀ k, k ≠ K.studyStageState → t.dev.val k = s.dev.val k)
      ∧ t.dev.nat K.studyStageState = (if s.dev.nat K.studyStageState = 1 then 0 else s.dev.nat K.studyStageState)
      ∧ t.dev.staged = s.dev.staged ∧ t.dev.commit = s.dev.commit ∧ t.dev.foyer = { s.dev.foyer with xfer := none }

/-- LOCK_ACQUIRE (R46, R47, R52), and the order of one arbitration cycle (R48). -/
def Obligations.LockGrantedOnce : Prop :=
  (∀ (s : State) (h : HapHdr),
    let r := hapReq h 2 K.lockRequest [1]
    let d := s.dev.heard r
    let token := beNat ((List.range 4).map (fun i => Config.drbgByte (d.draws + i))) % (2 ^ 32 - 1) + 1
    let st := if d.nat K.hapLockPolicy = 0 then 1 else 2
    s.dev.hears r → reqDiscarded r = false → d.keyhole.recovery = false → d.lock = 0 → d.isOwner (reqSrc r) = false →
    d.entropyOk = true → h.flags < 8 → h.length = 1 → h.env.mem = [] →
    ∃ e : Device, exec (.lockAcquire [h]) s = .next (s.answered r { status := some 0, pay := toBE 4 token, dev := e, after := id })
      ∧ e.foyer.owner = some (reqSrc r) ∧ e.foyer.token = token ∧ token ≠ 0
      ∧ e.lock = st ∧ e.nat K.lockHolder = (reqSrc r).transport ∧ e.nat K.lockToken = token
      ∧ newReports d e = [(0x0F01, [1, ((reqSrc r).transport : Int), (st : Nat)])]
      ∧ e.staged = s.dev.staged ∧ e.clock = s.dev.clock) ∧
  (∀ (s : State) (h : HapHdr),
    let r := hapReq h 2 K.lockRequest [1]
    let d := s.dev.heard r
    s.dev.hears r → reqDiscarded r = false → d.keyhole.recovery = false → d.lock ≠ 0 → d.isOwner (reqSrc r) = false → h.length = 1 →
    exec (.lockAcquire [h]) s = .next (s.answered r
      (({ d with foyer := { d.foyer with cause := (reqSrc r).transport } } : Device).answer 0x1007))) ∧
  (∀ (s : State) (hs : List HapHdr),
    exec (.lockAcquire hs) s = .next ((byTransport hs).foldl (fun s h => s.hapWrite h K.lockRequest [1]) s)
    ∧ (byTransport hs).Pairwise (fun a b => a.src.transport ≤ b.src.transport)
    ∧ ∀ h, h ∈ byTransport hs ↔ h ∈ hs ∧ h.src.transport < 48)

/-- R50, R61: what a release does, whatever its cause. -/
def Obligations.ReleaseFreesTheLock : Prop :=
  ∀ (d : Device) (c : Nat),
    let t := d.releaseLock c
    t.lock = 0 ∧ t.num K.lockHolder = 0xFF ∧ t.num K.lockToken = 0 ∧ t.foyer.owner = none ∧ t.foyer.token = 0
    ∧ t.foyer.hostNonce = [] ∧ t.foyer.devNonce = [] ∧ t.foyer.key = [] ∧ t.foyer.xfer = none
    ∧ newReports d t = [(0x0F01, [(c : Int), d.num K.lockHolder, 0])]
    ∧ (∀ k, groupOf k < 17 → d.frozen (groupOf k) = false → t.stagedVal k = t.val k)
    ∧ (∀ k, d.frozen (groupOf k) = true → Store.find k t.staged = Store.find k d.staged)
    ∧ (∀ g, g < 17 → (g ∈ t.commit.reverts ↔ g ∈ d.commit.reverts ∨ d.frozen g = true))
    ∧ t.commit = { d.commit with reverts := t.commit.reverts }
    ∧ (∀ k, k ≠ K.lockState → k ≠ K.lockHolder → k ≠ K.lockToken → k ≠ K.studyStageState → t.val k = d.val k)
    ∧ t.clock = d.clock ∧ t.outbox = d.outbox

/-- LOCK_RELEASE, LOCK_IDLE_TIMEOUT, HANDSHAKE_TIMEOUT (R50, R53). -/
def Obligations.LockEndsByOwnerOrTime : Prop :=
  (∀ (s : State) (h : HapHdr), s.writes h K.lockRequest [0] →
    exec (.lockRelease h) s = .next (s.wrote h K.lockRequest [0]
      { status := some 0, pay := [], dev := s.asWritten h K.lockRequest [0], after := (·.releaseLock 2) })) ∧
  (∀ s : State, s.dev.lock ≠ 0 → exec .lockIdleTimeout s
    = .next (s.on (fun d => (d.runTo (d.foyer.lastValid + d.nat K.lockIdleTimeout * msTicks)).releaseLock 3))) ∧
  (∀ s : State, s.dev.lock = 2 → s.dev.nat K.hapLockPolicy ≠ 0 → exec .handshakeTimeout s
    = .next (s.on (fun d => (d.runTo (d.foyer.pendingSince + sTicks)).releaseLock 6))) ∧
  (∀ s : State, s.dev.lock = 2 → s.dev.nat K.hapLockPolicy = 0 →
    ∃ t, exec .handshakeTimeout s = .next t ∧ t.pending = s.pending ∧ t.dev.lock = 1
      ∧ t.dev.clock = (s.dev.runTo (s.dev.foyer.pendingSince + sTicks)).clock
      ∧ t.dev.foyer.token = s.dev.foyer.token ∧ t.dev.foyer.owner = s.dev.foyer.owner ∧ t.dev.foyer.xfer = s.dev.foyer.xfer
      ∧ t.dev.foyer.key = [] ∧ t.dev.staged = s.dev.staged ∧ (∀ k, k ≠ K.lockState → t.dev.val k = s.dev.val k)
      ∧ t.dev.attic = s.dev.attic ∧ t.dev.outbox = s.dev.outbox)

/-- SESSION_HOST_NONCE and SESSION_PROOF (R53, R54, R481). -/
def Obligations.SessionHandshake : Prop :=
  (∀ (s : State) (h : HapHdr) (v : Bytes),
    let d := s.asWritten h K.sessionHostNonce v
    let n := (List.range 16).map (fun i => Config.drbgByte (d.draws + i))
    let e := ((d.drawBytes 16).2.setFoyer (fun f => { f with hostNonce := v, devNonce := n })).setOct K.sessionDevNonce n
    s.writes h K.sessionHostNonce v → v.length = 16 → d.nat K.khLifecycle = 1 → d.entropyOk = true →
    (d.lock = 1 → exec (.sessionHostNonce h v) s = .next (s.wrote h K.sessionHostNonce v ((e.setFoyer
      (fun f => { f with key := [], seqIn := 0, seqOut := 0, fails := 0, pendingSince := d.clock.ticks })).setNum K.lockState 2).done)) ∧
    (d.lock = 2 → exec (.sessionHostNonce h v) s = .next (s.wrote h K.sessionHostNonce v e.done)) ∧
    (d.lock = 3 → exec (.sessionHostNonce h v) s = .next (s.wrote h K.sessionHostNonce v 
      { status := some 0, pay := [], dev := e, after := fun x =>
        ((((x.setFoyer (fun f => { f with hostNonce := v, devNonce := n })).setFoyer
        (fun f => { f with key := [], seqIn := 0, seqOut := 0, fails := 0, pendingSince := x.clock.ticks })).setNum K.lockState 2).report
        0x0F01 [8, x.num K.lockHolder, 2]) }))) ∧
  (∀ (s : State) (h : HapHdr) (v : Bytes),
    let d := s.asWritten h K.sessionProof v
    let ks := sessionKey (d.key 62) d.foyer.hostNonce d.foyer.devNonce d.foyer.token (d.nat K.lockHolder)
    let right := d.foyer.devNonce ≠ [] ∧ d.nat (K.ksState 62) = 2 ∧ v = sessionProof ks d.foyer.hostNonce d.foyer.devNonce
    s.writes h K.sessionProof v → v.length = 16 → d.lock = 2 →
    (right → exec (.sessionProof h v) s = .next (s.wrote h K.sessionProof v ((((d.setFoyer
      (fun f => { f with key := ks, seqIn := 0, seqOut := 0, fails := 0 })).setNum K.lockState 3).report 0x0F01
        [5, d.num K.lockHolder, 3]).done))) ∧
    (¬ right → exec (.sessionProof h v) s = .next (s.wrote h K.sessionProof v
      { status := some 0x100B, pay := [], dev := (d.bump K.sessionAuthFails).report 0x0F02 [2, (d.bump K.sessionAuthFails).num K.sessionAuthFails]
        after := (·.handshakeFailed) })))

/-- HEARTBEAT (R62, R63). -/
def Obligations.HeartbeatNamesTheState : Prop :=
  (∀ s : State, s.dev.nat K.hapHbPeriod ≠ 0 → s.dev.asleep = false → s.dev.power.entry = none → s.dev.power.configDone = true →
    exec .heartbeat s = .next (s.on (fun d =>
      (d.runTo (d.foyer.hbLast + d.nat K.hapHbPeriod * msTicks)).sendHeartbeat (d.nat K.fbState)))) ∧
  (∀ (d : Device) (fb : Nat), d.hbPayload fb = [byte (d.nat K.mtState), byte fb, byte (d.nat K.lockState), byte 0]
    ++ toBE 4 d.foyer.hbCount ++ time96Bytes d.mt16 ∧ (d.hbPayload fb).length = 20
    ∧ (d.sendHeartbeat fb).foyer.hbCount = (d.foyer.hbCount + 1) % 2 ^ 32 ∧ (d.sendHeartbeat fb).foyer.hbLast = d.clock.ticks) ∧
  (∀ s : State, s.dev.nat K.hapHbPeriod = 0 ∨ s.dev.asleep = true ∨ s.dev.power.entry.isSome ∨ s.dev.power.configDone = false →
    exec .heartbeat s = .next s)

/-- COMMIT_IMMEDIATE, COMMIT_SCHEDULED (R69 to R72). -/
def Obligations.CommitAcceptedThenSwitched : Prop :=
  ∀ (s : State) (h : HapHdr) (groups modeHi slot rsv : Nat) (instant : Bytes), groups < 2 ^ 64 → modeHi < 128 → slot < 256 → rsv < 65536 →
    instant.length = 12 → h.env.mem = [] →
    (let v := commitBytes groups (2 * modeHi) slot rsv instant
      let d := s.asWritten h K.commitRequest v
      let c : ImmCommit := { groups := groups, since := d.clock.ticks, src := reqSrc (hapReq h 2 K.commitRequest v), xl := h.xl, opcode := 2,
                             txn := h.txn }
      s.writes h K.commitRequest v → d.commitRefused (commitReq v) [] = none →
      exec (.commitImmediate h groups modeHi slot rsv instant) s = .next (s.wrote h K.commitRequest v
        { status := none, pay := [], dev := d.setCommit (fun e => { e with imm := e.imm ++ [c] }), after := id })
      ∧ (∀ g, bit groups g = true → (d.setCommit (fun e => { e with imm := e.imm ++ [c] })).frozen g = true)) ∧
    (let v := commitBytes groups (2 * modeHi + 1) slot rsv instant
      let d := s.asWritten h K.commitRequest v
      s.writes h K.commitRequest v → d.commitRefused (commitReq v) [] = none → modeHi = 0 →
      ∃ n, n < 16 ∧ d.slotState n = 0 ∧ (slot ≠ 0xFF → n = slot) ∧ exec (.commitScheduled h groups modeHi slot rsv instant) s
        = .next (s.wrote h K.commitRequest v (d.fillSlot n 1 (time96Of instant) { groups := groups, amount := 0 }).done)) ∧
    (∀ mode, let v := commitBytes groups mode slot rsv instant
      let d := s.asWritten h K.commitRequest v
      s.writes h K.commitRequest v → mode < 256 → ∀ st o, d.commitRefused (commitReq v) [] = some (st, o) →
      let d1 := if st = 0x1006 then d.setNum K.commitConflictObj o else d
      s.hapWrite h K.commitRequest v = s.wrote h K.commitRequest v
        ((d1.report 0x0F05 [((groups % 2 ^ 32 : Nat) : Int), (st : Int), d1.num K.commitConflictObj]).answer st))

/-- COMMIT_SWITCH and COMMIT_READY_TIMEOUT (R70). -/
def Obligations.CommitSwitchAppliesGroups : Prop :=
  (∀ (s : State) (groups : Nat) (stuck : List (Nat × Nat)) (c : ImmCommit),
    s.dev.commit.imm.find? (fun c => c.groups = groups) = some c → timedStuck groups stuck = false →
    ((groupsOf groups).any groupTimed = true → s.dev.clock.ticks ≤ c.since + msTicks) →
    exec (.commitSwitch groups stuck) s = .next (s.on (fun d =>
      (d.setCommit (fun e => { e with imm := e.imm.erase c })).causedBy c.src.transport (·.runCommit groups 0xFF c.since (some c) stuck)))) ∧
  (∀ (d : Device) (groups slot since : Nat) (imm : Option ImmCommit) (stuck : List (Nat × Nat)), bit groups 8 = false →
    d.runCommit groups slot since imm stuck = (d.switchGroups groups slot stuck).1.commitEnds groups slot
      (if (d.switchGroups groups slot stuck).2.2 then 0x100A else 0) imm) ∧
  (∀ (s : State) (groups : Nat) (c : ImmCommit),
    s.dev.commit.imm.find? (fun c => c.groups = groups) = some c → (groupsOf groups).any groupTimed = true →
    exec (.commitReadyTimeout groups) s = .next (s.on (fun d =>
      (((d.runTo (c.since + msTicks)).setCommit (fun e => { e with imm := e.imm.erase c })).noneApplied groups).causedBy c.src.transport
        (·.commitEnds groups 0xFF 0x100A (some c))))
    ∧ (s.dev.lock ≠ 3 → ∀ t, exec (.commitReadyTimeout groups) s = .next t → t.dev.nat K.commitLastStatus = 0x100A
        ∧ ∀ k, k < 0x3110 * 256 → t.dev.val k = s.dev.val k))

/-- R70, R580: what one unit's switch does. -/
def Obligations.SwitchedUnitsTakeStagedValues : Prop :=
  ∀ (d : Device) (g u k : Nat), d.staged.Rising →
    let t := d.applyUnit g u
    (groupOf k = g ∧ unitOf g k = u → t.val k = d.stagedVal k ∧ t.stagedVal k = t.val k) ∧
    (¬ (groupOf k = g ∧ unitOf g k = u) → t.val k = d.val k ∧ Store.find k t.staged = Store.find k d.staged) ∧
    t.clock = d.clock ∧ t.foyer = d.foyer ∧ t.attic = d.attic ∧ t.outbox = d.outbox

/-- COMMIT_DISCARD and COMMIT_CANCEL (R68, R73). -/
def Obligations.DiscardAndCancel : Prop :=
  (∀ (s : State) (h : HapHdr) (mask : Nat),
    let v := toBE 4 mask
    let d := s.asWritten h K.commitDiscard v
    s.writes h K.commitDiscard v → mask < 2 ^ 17 → mask % 2 = 0 →
    ((groupsOf mask).any d.frozen = false →
      exec (.commitDiscard h mask) s = .next (s.wrote h K.commitDiscard v ((groupsOf mask).foldl (fun d g => d.revertGroup g) d).done)
      ∧ ∀ k, groupOf k < 17 → Store.find k ((groupsOf mask).foldl (fun d g => d.revertGroup g) d).staged
          = if bit mask (groupOf k) = true then none else Store.find k d.staged) ∧
    ((groupsOf mask).any d.frozen = true → exec (.commitDiscard h mask) s = .next (s.wrote h K.commitDiscard v (d.answer 0x100A)))) ∧
  (∀ (s : State) (h : HapHdr) (n : Nat),
    let v := toBE 1 n
    let d := s.asWritten h K.commitCancel v
    let g := if d.nat (K.slotKind n) = 1 then (d.slot n).groups else 0
    s.writes h K.commitCancel v → n < 16 →
    (d.slotState n = 1 → exec (.commitCancel h n) s = .next (s.wrote h K.commitCancel v
      (((((d.setNum (K.slotState n) 0).setNum (K.slotResult n) 0).report 0x0F06
        [(n : Int), ((g % 2 ^ 32 : Nat) : Int), (d.nat (K.slotKind n) : Int)]).freeGroups g).done))) ∧
    (d.slotState n ≠ 1 → exec (.commitCancel h n) s = .next (s.wrote h K.commitCancel v (d.answer 0x100A))))

/-- SLOT_LATCH and SLOT_EXECUTE (R73, R91 to R94). -/
def Obligations.SlotsLatchThenExecute : Prop :=
  (∀ (s : State) (n : Nat) (stuck : List (Nat × Nat)), n < 16 → s.dev.slotState n = 1 →
    let d := s.dev.runToMt (s.dev.slotInst n - latchU)
    (s.dev.nat (K.slotKind n) ≠ 2 → timedStuck (s.dev.slot n).groups stuck = false →
      exec (.slotLatch n stuck) s = .next { s with dev := d.setNum (K.slotState n) 2 }) ∧
    (s.dev.nat (K.slotKind n) = 2 → s.dev.stepAllowed (s.dev.slot n).amount = true →
      exec (.slotLatch n stuck) s = .next { s with dev := d.setNum (K.slotState n) 2 })) ∧
  (∀ (s : State) (n : Nat) (stuck : List (Nat × Nat)), n < 16 → s.dev.slotState n = 2 → s.dev.executing n = false →
    (∀ m, m < 16 → m ≠ n → s.dev.slotState m ≠ 2) → s.dev.clock.mtRun = true →
    s.dev.slotInst n ≤ (s.dev.runToMt (s.dev.slotInst n)).clock.mt →
    let d := s.dev.runToMt (s.dev.slotInst n)
    (s.dev.nat (K.slotKind n) ≠ 2 →
      let e := d.causedBy (d.slot n).src (fun d => d.runCommit (d.slot n).groups n d.clock.ticks none stuck)
      exec (.slotExecute stuck) s = .next { s with dev := e.slotsStepped d.clock.mt (max d.clock.mt e.clock.mt) stuck }) ∧
    (s.dev.nat (K.slotKind n) = 2 → s.dev.stepAllowed (s.dev.slot n).amount = true →
      let e := d.causedBy (d.slot n).src (fun d => (d.endSlot n 0).commandedNow (d.slot n).amount n)
      exec (.slotExecute stuck) s = .next { s with dev := e.slotsStepped d.clock.mt (max d.clock.mt e.clock.mt) stuck }))

/-- R75 on one tick; that an empty queue lets one tick pass is the model's choice (log entry 1). -/
def Obligations.MtCountsEveryTick : Prop :=
  ∀ s : State, s.pending = [] →
    ∃ t, step s = .next t ∧ t.pending = [] ∧ t.dev = { s.dev with clock := t.dev.clock } ∧ t.dev.clock.ticks = s.dev.clock.ticks + 1
      ∧ (s.dev.clock.mtRun = true →
          t.dev.clock.mt = s.dev.clock.mt + (4 * 2 ^ 48 + 5 * s.dev.rateAdj).toNat ∧ t.dev.clock.pull = s.dev.clock.pull - s.dev.rateAdj
          ∧ s.dev.rateAdj.natAbs = min s.dev.clock.pull.natAbs (s.dev.nat K.thermSlope * 8 * 2 ^ 48 / 10000000000)
          ∧ s.dev.derivedTime 0x2500 6 = some s.dev.rateAdj
          ∧ (0 ≤ s.dev.clock.pull → 0 ≤ s.dev.rateAdj) ∧ (s.dev.clock.pull ≤ 0 → s.dev.rateAdj ≤ 0))
      ∧ (s.dev.clock.mtRun = false → t.dev.clock.mt = s.dev.clock.mt ∧ t.dev.clock.pull = s.dev.clock.pull)

/-- MT_SET, MT_SET_APPLY (R84, R86); dropping a value that a lock has overtaken is the model's choice (log entry 22). -/
def Obligations.MtSetAcceptedThenApplied : Prop :=
  (∀ (s : State) (h : HapHdr) (v : Bytes),
    let d := s.asWritten h K.mtSet v
    s.writes h K.mtSet v → v.length = 12 → time96Bad v = false → d.lock = 3 →
    (d.everLocked = false → exec (.mtSet h v) s = .next (s.wrote h K.mtSet v
      ({ d.setNum K.mtSet (time96Of v) with clock := { d.clock with
           setPending := d.clock.setPending ++ [(time96Of v, d.clock.ticks, d.foyer.cause)] } } : Device).done)) ∧
    (d.everLocked = true → exec (.mtSet h v) s = .next (s.wrote h K.mtSet v (d.answer 0x100A)))) ∧
  (∀ (s : State) (delay v16 at0 src : Nat) (stuck : List (Nat × Nat)) (rest : List (Nat × Nat × Nat)),
    s.dev.clock.setPending = (v16, at0, src) :: rest →
    (s.dev.everLocked = false →
      ∃ t, exec (.mtSetApply ⟨delay, stuck⟩) s = .next t ∧ t.pending = s.pending ∧ t.dev.clock.mt = v16 * fracU ∧ t.dev.clock.pull = 0
        ∧ t.dev.clock.setPending = rest
        ∧ t.dev.clock.ticks = max s.dev.clock.ticks (at0 + min delay (msTicks - 1)) + 1
        ∧ (s.dev.nat K.mtState = 0 → t.dev.nat K.mtState = 1)
        ∧ (s.dev.nat K.mtState = 2 → t.dev.therm.lockSince = none ∧ t.dev.therm.selSince = t.dev.clock.ticks
            ∧ t.dev.num K.thermPhaseErr = 0)
        ∧ (s.dev.nat K.mtState ≠ 2 → t.dev.therm = s.dev.therm)) ∧
    (s.dev.everLocked = true → exec (.mtSetApply ⟨delay, stuck⟩) s = .next (s.on (fun d =>
      let e := d.runTo (at0 + min delay (msTicks - 1))
      ({ e with clock := { e.clock with setPending := rest } } : Device).causedBy src (·.report 0x0705 [0xFF, 0x100A])))))

/-- MT_STEP_IMMEDIATE, MT_STEP_SCHEDULED (R87). -/
def Obligations.StepRequestsTableThreeFour : Prop :=
  ∀ (s : State) (h : HapHdr) (amount : Int) (modeHi slot rsv : Nat) (instant : Bytes), -(2 ^ 63) ≤ amount → amount < 2 ^ 63 →
    modeHi < 128 → slot < 256 → rsv < 65536 → instant.length = 12 →
    (let v := stepBytes amount (2 * modeHi) slot rsv instant
      let d := s.asWritten h K.mtStep v
      s.writes h K.mtStep v → d.lock = 3 →
      (amount = 0 ∨ 65536000000000000 < amount.natAbs ∨ modeHi ≠ 0 ∨ rsv ≠ 0 →
        exec (.mtStepImmediate h amount modeHi slot rsv instant) s = .next (s.wrote h K.mtStep v (d.answer 0x1005))) ∧
      (amount ≠ 0 → amount.natAbs ≤ 65536000000000000 → modeHi = 0 → rsv = 0 →
        ((amount < 0 ∧ d.everLocked = true) ∨ d.nat K.mtState = 3 →
          exec (.mtStepImmediate h amount modeHi slot rsv instant) s = .next (s.wrote h K.mtStep v (d.answer 0x100A))) ∧
        ((0 < amount ∨ d.everLocked = false) → d.nat K.mtState ≠ 3 →
          exec (.mtStepImmediate h amount modeHi slot rsv instant) s = .next (s.wrote h K.mtStep v
            ({ d.setOct K.mtStep v with clock := { d.clock with
                 stepPending := d.clock.stepPending ++ [(amount, d.clock.ticks, d.foyer.cause)] } } : Device).done)))) ∧
    (let v := stepBytes amount (2 * modeHi + 1) slot rsv instant
      let d := s.asWritten h K.mtStep v
      s.writes h K.mtStep v → d.lock = 3 → amount ≠ 0 → amount.natAbs ≤ 65536000000000000 → modeHi = 0 → rsv = 0 →
      (16 ≤ slot → slot ≠ 0xFF → exec (.mtStepScheduled h amount modeHi slot rsv instant) s = .next (s.wrote h K.mtStep v (d.answer 0x1005))) ∧
      (slot < 16 ∨ slot = 0xFF → time96Bad instant = false → (0 < amount ∨ d.everLocked = false) → d.nat K.mtState ≠ 3 →
        (d.pickSlot slot = none → exec (.mtStepScheduled h amount modeHi slot rsv instant) s = .next (s.wrote h K.mtStep v (d.answer 0x1009))) ∧
        (∀ n, d.pickSlot slot = some n →
          (time96Of instant * fracU < d.clock.mt + 1000000 * nsU →
            exec (.mtStepScheduled h amount modeHi slot rsv instant) s = .next (s.wrote h K.mtStep v (d.answer 0x100C))) ∧
          (d.clock.mt + 1000000 * nsU ≤ time96Of instant * fracU →
            exec (.mtStepScheduled h amount modeHi slot rsv instant) s = .next (s.wrote h K.mtStep v
              ((d.setOct K.mtStep v).fillSlot n 2 (time96Of instant) { groups := 0, amount := amount }).done)))))

/-- STEP_APPLY (R84, R88, R104); dropping a step that the state has come to forbid is the model's choice (log entry 22). -/
def Obligations.StepAddsAmountOnce : Prop :=
  ∀ (s : State) (delay at0 src : Nat) (stuck : List (Nat × Nat)) (amount : Int) (rest : List (Int × Nat × Nat)),
    s.dev.clock.stepPending = (amount, at0, src) :: rest →
    let d0 := s.dev.runTo (at0 + min delay (msTicks - 1))
    let d := d0.elapse 1
    (s.dev.stepAllowed amount = true → 0 ≤ (d.clock.mt : Int) + amount * fracU →
      ∃ t, exec (.stepApply delay stuck) s = .next t ∧ t.pending = s.pending
        ∧ (t.dev.clock.mt : Int) = d.clock.mt + amount * fracU ∧ t.dev.clock.ticks = d.clock.ticks ∧ t.dev.clock.pull = d.clock.pull
        ∧ t.dev.clock.stepPending = rest
        ∧ t.dev.clock.dom = d.clock.dom.mapIdx (fun n x => if d.bound n then x + amount * fracU * 2 ^ 48 else x)
        ∧ t.dev.therm = s.dev.therm ∧ t.dev.ports = s.dev.ports) ∧
    (s.dev.stepAllowed amount = false →
      let e := d0.causedBy src (·.report 0x0705 [0xFF, 0x100A])
      exec (.stepApply delay stuck) s = .next { s with dev := { e with clock := { e.clock with stepPending := rest } } })

/-- PULL_COMPLETE, DOM_PULL_COMPLETE, PULL_WITHIN_LOCK_THRESH (R80, R83, R102). -/
def Obligations.PullsEndExactly : Prop :=
  (∀ s : State, s.dev.clock.mtRun = true → s.dev.aMax ≠ 0 →
    let d := s.dev.elapse (ceilDiv s.dev.clock.pull.natAbs s.dev.aMax)
    exec .pullComplete s = .next { s with dev := d.followPull } ∧ d.clock.pull = 0 ∧ d = { s.dev with clock := d.clock }
    ∧ ((s.dev.nat K.mtState = 4 ∨ s.dev.nat K.mtState = 5) → s.dev.timeSelected = true → s.dev.rootLocked = true →
        d.followPull = d.setTimeState 3)
    ∧ (s.dev.nat K.mtState ≠ 4 → s.dev.nat K.mtState ≠ 5 → d.followPull = d)) ∧
  (∀ (s : State) (n : Nat), n < 8 → s.dev.clock.domPull.length = 8 → s.dev.clock.mtRun = true → s.dev.aMax ≠ 0 →
    let d := s.dev.elapse (ceilDiv (s.dev.clock.domPull.getD n 0).natAbs s.dev.aMax)
    exec (.domPullComplete n) s = .next { s with dev := d }
    ∧ d.clock.domPull.getD n 0 = 0 ∧ d = { s.dev with clock := d.clock }) ∧
  (∀ s : State, (s.dev.nat K.mtState = 4 ∨ s.dev.nat K.mtState = 5) → s.dev.timeSelected = true → s.dev.rootLocked = true →
    s.dev.aMax ≠ 0 →
    let goal := if s.dev.nat K.mtState = 5 ∧ s.dev.nat K.thermLockThresh ≤ s.dev.nat K.hoLimit then s.dev.nat K.hoLimit
      else s.dev.nat K.thermLockThresh
    exec .pullWithinLockThresh s = .next (s.on (fun d =>
      (d.elapse (ceilDiv (d.clock.pull.natAbs - goal * 65536 * 2 ^ 32) d.aMax)).followPull)))

/-- LEAP_PENDING_BEGIN, LEAP_INSTANT (R99), MT_REPLICA_FAULT (R20, R106). -/
def Obligations.LeapSecondsAndReplicaFaults : Prop :=
  (∀ (s : State) (e : Nat × Int), s.dev.nextLeap = some e → s.dev.clock.mtRun = true →
    let d := s.dev.runToMt ((e.1 - 86400) * secU)
    let f := s.dev.runToMt (e.1 * secU)
    exec .leapPendingBegin s = .next { s with dev := d } ∧ d = { s.dev with clock := d.clock } ∧
    (e.1 * secU ≤ d.clock.mt + 86400 * secU → d.clock.mt < e.1 * secU → s.dev.clock.mt ≤ d.clock.mt →
      d.derivedTime 0x2500 9 = some (if d.utcOffset < e.2 then 1 else if e.2 < d.utcOffset then 2 else 0)) ∧
    ∃ t, exec .leapInstant s = .next t ∧ t.pending = s.pending
      ∧ t.dev.clock = { f.clock with utcOff := f.utcOffset }
      ∧ t.dev.staged = s.dev.staged ∧ t.dev.therm = s.dev.therm ∧ t.dev.foyer = s.dev.foyer
      ∧ (f.utcOffset ≠ s.dev.clock.utcOff → ∃ r ∈ t.dev.attic.reports, r.code = 0x0706 ∧ r.p = [s.dev.clock.utcOff, f.utcOffset, 0])) ∧
  (∀ (s : State) (u : Nat), s.dev.clock.mtRun = true → (u < 44 ∨ (0x100 ≤ u ∧ u < 0x110)) →
    ∃ t, exec (.mtReplicaFault u) s = .next t ∧ t.pending = s.pending ∧ newReports s.dev t.dev = [(0x0708, [(u : Int)])]
      ∧ t.dev.replicaOk u = false ∧ (∀ n, 0 < n → (t.dev.elapse n).replicaOk u = true)
      ∧ (∀ w, w ≠ u → t.dev.replicaOk w = s.dev.replicaOk w)
      ∧ t.dev.obj = s.dev.obj ∧ t.dev.staged = s.dev.staged ∧ t.dev.clock = { s.dev.clock with replicaBad := t.dev.clock.replicaBad })

/-- ROOT_LOCK_LOST, ROOT_FAULT (R79, R113, R115, R122, R126). -/
def Obligations.RootLossFreezesAndSetsT5 : Prop :=
  (∀ (s : State) (cause : Nat), s.dev.nat K.hearthLock = 1 → s.dev.nat K.hearthLockLosses < 2 ^ 32 - 1 →
    ∃ t, exec (.rootLockLost cause) s = .next t ∧ t.pending = s.pending ∧ t.dev.nat K.hearthLock = 2
      ∧ t.dev.nat K.hearthLockLosses = s.dev.nat K.hearthLockLosses + 1 ∧ t.dev.num K.hearthDco = s.dev.num K.hearthDco
      ∧ t.dev.clock = { s.dev.clock with cko := t.dev.clock.cko } ∧ t.dev.staged = s.dev.staged
      ∧ t.dev.nat K.mtState = (if s.dev.nat K.mtState = 3 ∨ s.dev.nat K.mtState = 4 then 5 else s.dev.nat K.mtState)
      ∧ ∀ n, n < 4 → t.dev.nat (K.ckoStatus n) =
          if s.dev.num (K.ckoStatus n) ≠ 0 ∧ s.dev.num (K.ckoUnlockPolicy n) = 0 then 2
          else s.dev.nat (K.ckoStatus n)) ∧
  (∀ (s : State) (cause : Nat), s.dev.nat K.hearthLock ≠ 1 → exec (.rootLockLost cause) s = .next s) ∧
  (∀ (s : State) (dev : Int) (rail : Bool),
    let faults := (s.dev.nat K.hearthLock = 2 ∧ (rail = true ∨ 200000 < dev.natAbs)) ∨ (s.dev.nat K.hearthLock = 1 ∧ rail = true)
    (¬ faults → exec (.rootFault dev rail) s = .next (s.on (·.setNum K.hearthRootDev dev))) ∧
    (faults → ∃ t, exec (.rootFault dev rail) s = .next t ∧ t.pending = s.pending ∧ t.dev.nat K.hearthLock = 3
      ∧ t.dev.num K.hearthRootDev = dev ∧ t.dev.num K.hearthLockLosses = s.dev.num K.hearthLockLosses
      ∧ (newReports s.dev t.dev).head? = some (0x0303, [1, dev]) ∧ t.dev.clock.ticks = s.dev.clock.ticks ∧ t.dev.clock.mt = s.dev.clock.mt
      ∧ t.dev.staged = s.dev.staged ∧ (∀ n, n < 4 → s.dev.num (K.ckoStatus n) ≠ 0 → t.dev.nat (K.ckoStatus n) = 2)
      ∧ (∀ p, p < 44 → t.dev.link p = if s.dev.link p = 2 ∨ s.dev.link p = 3 then 1 else if s.dev.link p = 4 then 5 else s.dev.link p)
      ∧ (s.dev.nat K.hearthLock = 2 → ∀ k, k < 0x2200 * 256 → k ≠ K.hearthLock → k ≠ K.hearthRootDev →
          (∀ n, n < 4 → k ≠ K.ckoStatus n) → t.dev.val k = s.dev.val k)))

/-- R256, R258, R260 to R262: what happens when an edge falls due. -/
def Obligations.EdgesFollowTheirPolicy : Prop :=
  ∀ (d : Device) (n k ps mt16 : Nat), n < 16 → d.outs.length = 16 →
    let t := d.dueEdge n k ps mt16
    let held := d.nat (K.outStatus n) = 4 ∧ ¬ ((d.out n).rearmed = true ∧ d.outPolicy n = 0)
    let ends (st : Nat) : Nat := if (outRec d.val n).last k = true then 5 else st
    (t.out n).next = k + 1 ∧ (t.out n).rearmed = false ∧ t.clock = d.clock ∧ t.staged = d.staged ∧ (∀ m, m ≠ n → t.out m = d.out m) ∧
    (d.outPolicy n = 0 → ¬ held → (d.out n).blocked ps = false →
      t.outbox = d.outbox ++ [.edge n ps true] ∧ t.nat (K.outStatus n) = ends 2 ∧ t.nat (K.outLastEdge n) = mt16
      ∧ t.nat (K.outMissed n) = d.nat (K.outMissed n)
      ∧ (d.nat (K.outPulses n) < 2 ^ 64 - 1 → t.nat (K.outPulses n) = d.nat (K.outPulses n) + 1)) ∧
    (¬ (d.outPolicy n = 0 ∧ ¬ held ∧ (d.out n).blocked ps = false) →
      t.outbox = d.outbox ∧ t.nat (K.outPulses n) = d.nat (K.outPulses n)
      ∧ t.nat (K.outStatus n) = ends (if held then 4 else if d.outPolicy n = 0 then 2 else if d.outPolicy n = 1 then 3 else 4)
      ∧ (d.nat (K.outMissed n) < 2 ^ 32 - 1 → t.nat (K.outMissed n) = d.nat (K.outMissed n) + 1))

/-- LO_MEASURE, CKO_ALIGN, OUT_EDGE, OUT_TRAILING_EDGE, OUT_REARM (R109, R123, R256, R257, R261, R264). -/
def Obligations.ClockAndPulseOutputsRun : Prop :=
  (∀ (s : State) (hz : Nat), exec (.loMeasure hz) s = .next (s.on (·.setNum K.hearthLoMeas hz))
    ∧ (s.dev.setNum K.hearthLoMeas hz).nat K.hearthLoMeas = hz) ∧
  (∀ (s : State) (n : Nat), n < 4 → s.dev.num (K.ckoStatus n) = 3 → s.dev.clock.mtRun = true →
    exec (.ckoAlign n) s = .next (s.on (fun d =>
      let d1 := if d.ckoDue n then d else d.runToMt ((max d.clock.mt (d.cko n).since / secU + 1) * secU)
      let w : CkoWave := { freq := d1.nat (K.ckoFreq n), aligned := true, startPs := 0, lag := 0, realign := 0 }
      (d1.setCko n (fun u => { u with wave := some w })).setNum (K.ckoStatus n) 1))) ∧
  (∀ (s : State) (n : Nat) (e : OutDue), n < 16 → s.dev.clock.mtRun = true → s.dev.nat (K.outStatus n) ≠ 0 → s.dev.nat (K.outStatus n) ≠ 5 →
    s.dev.outDue n = some e →
    let r := outRec s.dev.val n
    let d := (s.dev.toPin e.pin).1
    let ps := d.rootPs + (s.dev.toPin e.pin).2
    let skipped := r.scale = 1 ∧ e.again = none ∧ s.dev.utcDeleted (r.edge e.k) = true
    (skipped → exec (.outEdge n) s = .next (s.on (·.outSkipped n e))) ∧
    (¬ skipped → d = { s.dev with clock := d.clock } ∧ ps < d.rootPs + 800 ∧
      (e.again = none → exec (.outEdge n) s = .next { s with dev := d.dueEdge n e.k ps (e.mt.toNat / fracU) }) ∧
      (∀ u, e.again = some u →
        let f := d.dueEdge n e.k ps (e.mt.toNat / fracU)
        exec (.outEdge n) s = .next { s with dev := f.setOut n (fun o => { o with next := (d.out n).next, again := u + 1 }) })) ∧
    (r.scale ≠ 1 → e.again = none ∧ e.k = (s.dev.out n).next ∧ r.has e.k = true)) ∧
  (∀ (s : State) (n : Nat), (s.dev.out n).active = true →
    ∃ t, exec (.outTrailingEdge n) s = .next t ∧ t.pending = s.pending
      ∧ t.dev.clock = (s.dev.runTo (ceilDiv (s.dev.out n).trailPs 800)).clock
      ∧ t.dev.outbox = s.dev.outbox ++ [.edge n (s.dev.out n).trailPs false]
      ∧ (t.dev.out n).active = false ∧ (t.dev.out n).polarity = s.dev.nat (K.outPolarity n) ∧ ∀ k, t.dev.val k = s.dev.val k) ∧
  (∀ (s : State) (h : HapHdr) (n : Nat), n < 16 →
    let key := K.outRearm n
    let d := s.asWritten h key [1]
    s.writes h key [1] →
    (d.nat (K.outStatus n) = 4 → d.outPolicy n = 0 →
      exec (.outRearm h n [1]) s = .next (s.wrote h key [1] (d.setOut n (fun o => { o with rearmed := true })).done)) ∧
    (¬ (d.nat (K.outStatus n) = 4 ∧ d.outPolicy n = 0) → exec (.outRearm h n [1]) s = .next (s.wrote h key [1] (d.answer 0x100A))))

/-- DPLL_UPDATE (R111, R112, R141, R145, R147, R151, R152); the natural frequency of a bandwidth and the gain of a frequency error are free. -/
def Obligations.DpllUpdateFeedsTheRoot : Prop :=
  ∀ s : State,
    let d := s.dev.runTo (s.dev.therm.lastUpdate + msTicks)
    let n := d.selected
    let bw := if d.nat K.mtState = 2 then d.nat K.thermDpllAcqBw else d.nat K.thermDpllBw
    let err := d.num K.thermPhaseErr
    let step := if d.timeCapable n then dpllStep bw err
      else if (d.cand n).hasFreq then Config.dpllFreqGain bw * ((d.cand n).freqAbs - d.num K.hearthDco) else 0
    let corr := if d.timeCapable n then dpllCorrection bw err else 0
    let path := d.therm.integ * 2 ^ 32 + d.therm.integLow + step
    let ask := path / 2 ^ 32
    let slewed (target : Int) := d.num K.hearthDco + clamp (-(2 ^ 30)) (2 ^ 30) (target - d.num K.hearthDco)
    ∃ t, exec .dpllUpdate s = .next t ∧ t.pending = s.pending ∧ t.dev.therm.lastUpdate = d.clock.ticks
      ∧ { t.dev.clock with pull := 0 } = { d.clock with pull := 0 } ∧ t.dev.staged = d.staged ∧ t.dev.tdc = d.tdc ∧ t.dev.outs = d.outs
      ∧ (¬ (d.rootLocked = true ∧ d.clock.mtRun = true) ∨ (n < 9 ∧ d.refState n ≠ 5) →
          t.dev.num K.hearthDco = d.num K.hearthDco ∧ t.dev.clock.pull = d.clock.pull ∧ t.dev.therm.integ = d.therm.integ)
      ∧ (d.rootLocked = true → d.clock.mtRun = true → 9 ≤ n →
          t.dev.num K.hearthDco = slewed d.therm.dTarget ∧ t.dev.clock.pull = d.clock.pull)
      ∧ (d.rootLocked = true → d.clock.mtRun = true → n < 9 → d.refState n = 5 →
          t.dev.therm.integ = clamp (-(2 ^ 68)) (2 ^ 68) path / 2 ^ 32 ∧ t.dev.num K.hearthDco = slewed (clamp (-(2 ^ 36)) (2 ^ 36) ask)
          ∧ t.dev.clock.pull = d.clock.pull + corr ∧ (d.timeCapable n = true → t.dev.num K.thermPhaseErr = err - corr / 2 ^ 32)
          ∧ t.dev.refState n = (if ask < -(2 ^ 36) ∨ 2 ^ 36 < ask then 2 else 5)
          ∧ (ask < -(2 ^ 36) ∨ 2 ^ 36 < ask → t.dev.nat (K.thermRefReason n) = 5))

/-- HOLDOFF_EXPIRY, WTR_EXPIRY, ACTIVITY_TIMEOUT, LOCK_DWELL_EXPIRY (R79, R81, R133, R135, R144, R145, R147, R154). -/
def Obligations.TimersMoveCandidatesAndDeclareLock : Prop :=
  (∀ (s : State) (n : Nat), n < 9 →
    (s.dev.refState n = 6 → s.dev.rootLocked = true →
      ∃ t, exec (.holdoffExpiry n) s = .next t ∧ t.pending = s.pending ∧ t.dev.refState n = 1
        ∧ t.dev.clock = (s.dev.runTo (s.dev.cand n).holdDue).clock ∧ newReports s.dev t.dev = [(0x0401, [(n : Int), 6, 1, s.dev.num (K.thermRefReason n)])]
        ∧ ∀ k, k ≠ K.thermRefState n → t.dev.val k = s.dev.val k) ∧
    (s.dev.refState n = 3 → s.dev.rootLocked = true →
      ∃ t, exec (.wtrExpiry n) s = .next t ∧ t.pending = s.pending ∧ t.dev.refState n = 4
        ∧ t.dev.clock = (s.dev.runTo (s.dev.cand n).wtrDue).clock ∧ newReports s.dev t.dev = [(0x0401, [(n : Int), 3, 4, s.dev.num (K.thermRefReason n)])]
        ∧ ∀ k, k ≠ K.thermRefState n → t.dev.val k = s.dev.val k) ∧
    (s.dev.rootLocked = false → exec (.holdoffExpiry n) s = .next s ∧ exec (.wtrExpiry n) s = .next s
      ∧ exec (.activityTimeout n) s = .next s)) ∧
  (∀ (s : State) (i : Nat), i < 4 → s.dev.num (K.refinActivity i) ≠ 0 → s.dev.rootLocked = true →
    let n := s.dev.refinCand i
    let d := s.dev.runTo (ceilDiv ((s.dev.cand (i + 1)).lastEdge + 1500000000000 / s.dev.nat (K.refinFreq i) + 1) 800)
    ∃ t, exec (.activityTimeout i) s = .next t ∧ t.pending = s.pending ∧ t.dev.clock = d.clock ∧ t.dev.num (K.refinActivity i) = 0
      ∧ (s.dev.therm.cands.length = 9 → (s.dev.cand n).active = true → s.dev.refState n ≠ 0 →
          t.dev.nat (K.thermRefReason n) = 1 ∧ (t.dev.cand n).active = false
          ∧ t.dev.refState n = (if (s.dev.refState n = 4 ∨ s.dev.refState n = 5) ∧ s.dev.nat K.thermHoldoff ≠ 0 then 6 else 1)
          ∧ ∀ m, m ≠ n → t.dev.refState m = s.dev.refState m)) ∧
  (∀ s : State, s.dev.therm.lockSince = none → exec .lockDwellExpiry s = .next s) ∧
  (∀ (s : State) (since : Nat), s.dev.therm.lockSince = some since →
    let d := s.dev.runTo (since + s.dev.nat K.thermLockTime * sTicks)
    let held := d.nat K.mtState = 2 ∧ d.timeSelected = true
      ∧ (d.num K.thermPhaseErr).natAbs + d.clock.pull.natAbs / 2 ^ 32 ≤ d.nat K.thermLockThresh * 65536
      ∧ (d.num (K.thermRefFreq d.selected)).natAbs ≤ d.nat K.thermAccept ∧ d.rootLocked = true
    (¬ held → exec .lockDwellExpiry s = .next { s with dev := d }) ∧
    (held → ∃ t, exec .lockDwellExpiry s = .next t ∧ t.pending = s.pending ∧ t.dev.clock = d.clock ∧ t.dev.nat K.mtState = 3
      ∧ t.dev.everLocked = true ∧ t.dev.nat K.mtStateSince = d.mt16 ∧ t.dev.therm = { d.therm with lockSince := none }
      ∧ newReports s.dev t.dev = [(0x0405, [(d.selected : Int), sat32 (d.num K.thermPhaseErr / 65536)]), (0x0701, [d.num K.mtState, 3])]
      ∧ ∀ k, k ≠ K.mtState → k ≠ K.mtStateSince → k ≠ K.mtEverLocked → t.dev.val k = s.dev.val k))

/-- CANDIDATE_PHASE_MEASUREMENT, FREQ_MONITOR (R134, R136 to R138, R140, R147). -/
def Obligations.MonitorsGateEntryAndExit : Prop :=
  (∀ s : State,
    let d := s.dev.runTo (s.dev.therm.lastFreq + sTicks)
    let d1 : Device := { d with therm := { d.therm with lastFreq := d.clock.ticks } }
    (s.dev.rootLocked = false → exec (.freqMonitor ()) s = .next { s with dev := d1 }) ∧
    (s.dev.rootLocked = true → exec (.freqMonitor ()) s
      = .next { s with dev := ((List.range 9).foldl (fun e n => e.freqReading n) d1).trackRestore.checkRestored.trackLock })) ∧
  (∀ (d : Device) (n resid : Nat) (abs : Int), n < 9 → d.therm.cands.length = 9 → d.refState n ≠ 0 → (d.cand n).active = true →
    (d.cand n).gateStart + d.nat K.thermFreqGate * sTicks ≤ d.gateNow n → d.regress n = some (abs, resid) →
    let r := abs - d.prediction
    let t := d.freqReading n
    t.clock = d.clock ∧ t.num (K.thermRefFreq n) = r
    ∧ (∀ k, k ≠ K.thermRefFreq n → k ≠ K.thermRefState n → k ≠ K.thermRefReason n → t.val k = d.val k)
    ∧ (d.refState n = 4 ∨ d.refState n = 5 → t.refState n = (if d.rejectLimit < r.natAbs then 2 else d.refState n)
        ∧ (d.rejectLimit < r.natAbs → t.nat (K.thermRefReason n) = 2
            ∧ newReports d t = [(0x0403, [(n : Int), 2, sat32 (milliPpb r)]), (0x0401, [(n : Int), d.refState n, 2, 2])]))
    ∧ (d.refState n = 2 → d.phaseOk n = true →
        t.refState n = (if r.natAbs ≤ d.acceptLimit then (if d.everLocked then 3 else 4) else 2))) ∧
  (∀ (s : State) (n : Nat) (m : PhaseIn) (stuck : List (Nat × Nat)), s.dev.therm.phases.find? (fun m => m.cand = n) = some m →
    (s.dev.rootLocked = false → exec (.candidatePhaseMeasurement n stuck ()) s
      = .next (s.on (fun d => { d with therm := { d.therm with phases := d.therm.phases.erase m } }))) ∧
    (n < 9 → s.dev.therm.cands.length = 9 → s.dev.rootLocked = true → s.dev.refState n = 4 → (s.dev.cand n).active = true →
      s.dev.timeCapable n = true → s.dev.selected ≠ n →
      let q := s.dev.phaseOf n m.raw + m.moved
      let jump := s.dev.isJump m q
      ∃ t, exec (.candidatePhaseMeasurement n stuck ()) s = .next t ∧ t.pending = s.pending ∧ t.dev.clock = s.dev.clock
        ∧ t.dev.num (K.thermRefPhase n) = nearestPhase n (q - s.dev.mtMoved) ∧ t.dev.therm.phases = s.dev.therm.phases.erase m
        ∧ (jump = false → t.dev.refState n = 4 ∧ t.dev.attic = s.dev.attic)
        ∧ (jump = true → t.dev.nat (K.thermRefReason n) = 3 ∧ t.dev.refState n = 2 ∧ (t.dev.cand n).hasFreq = false
            ∧ (t.dev.cand n).gateStart = s.dev.gateNow n)))

/-- SELECTION_EVALUATION (R147 to R149, R155). -/
def Obligations.SelectionFollowsRank : Prop :=
  (∀ (d : Device) (n : Nat), d.choose = some n → n < 9 ∧ d.ranks n = true
    ∧ (d.ranks (d.nat K.thermForce) = true → d.nat K.thermForce < 9 → n = d.nat K.thermForce)
    ∧ (¬ (d.nat K.thermForce < 9 ∧ d.ranks (d.nat K.thermForce) = true) → d.num K.thermRevertive = 1 →
        ∀ m, m < 9 → d.ranks m = true → d.rankKey n ≤ d.rankKey m)) ∧
  (∀ (d : Device), d.choose = none → ∀ m, m < 9 → d.ranks m = false) ∧
  (∀ (s : State) (stuck : List (Nat × Nat)),
    let d1 := s.dev.runTo (s.dev.therm.lastEval + msTicks)
    let d : Device := { d1 with therm := { d1.therm with lastEval := d1.clock.ticks } }
    (¬ (d.rootLocked = true ∧ d.clock.mtRun = true) → exec (.selectionEvaluation stuck) s = .next { s with dev := d }) ∧
    (d.rootLocked = true → d.clock.mtRun = true → d.choose = none → 9 ≤ d.selected → d.nat K.mtState < 2 →
      exec (.selectionEvaluation stuck) s = .next { s with dev :=
        { d with therm := { d.therm with lockSince := none }, hold := { d.hold with restoreSince := none } } }) ∧
    (∀ n, d.rootLocked = true → d.clock.mtRun = true → d.choose = some n → n ≠ d.selected → d.timeCapable n = true →
      (d.nat K.mtState = 3 ∨ d.nat K.mtState = 4 ∨ d.nat K.mtState = 5) → d.hold.active = false → d.nat K.thermSwitchCount < 2 ^ 32 - 1 →
      ∃ t, exec (.selectionEvaluation stuck) s = .next t ∧ t.pending = s.pending ∧ t.dev.selected = n ∧ t.dev.refState n = 5
        ∧ t.dev.clock = { d.clock with pull := d.clock.pull + d.num (K.thermRefPhase n) * 2 ^ 32 }
        ∧ t.dev.nat K.thermSwitchCount = d.nat K.thermSwitchCount + 1 ∧ t.dev.therm.integ = d.prediction ∧ t.dev.num K.thermPhaseErr = 0
        ∧ t.dev.num K.hearthDco = d.num K.hearthDco ∧ (d.nat K.mtState = 3 → t.dev.nat K.mtState = 3)))

/-- BOUND_UPDATE, COMPAT_TIMER_EXPIRY (R171, R172, R174, R181, R182). -/
def Obligations.HoldoverBoundFollowsTheModel : Prop :=
  (∀ (d : Device) (tick : Nat), d.hold.freqOnly = false → d.hold.seg = d.hold.freeze →
    let tau : Int := ((tick - d.hold.freeze) / 1250000000 : Nat)
    let q : Int := d.num K.hoUncScale * 1000000000 * 65536
    d.boundAt tick = d.hold.base + q * d.hold.uf * tau / 2 ^ 48 + q * d.hold.ua * (tau * tau) / (172800 * 2 ^ 48)
      + q * d.hold.ut * d.hold.sum / (10000 * 2 ^ 48)) ∧
  (∀ s : State, s.dev.hold.active = false → exec .boundUpdate s = .next s ∧ exec .compatTimerExpiry s = .next s) ∧
  (∀ s : State, s.dev.hold.active = true →
    let d := s.dev.runTo (s.dev.hold.lastBound + sTicks)
    let b := if d.hold.saturated then 0xFFFFFFFF else min 0xFFFFFFFF (nearestNs (d.boundAt d.clock.ticks).toNat)
    let tooFar := d.nat K.mtState = 4 ∧ d.timeSelected = false ∧ d.hold.compat ≠ 2 ∧ d.nat K.hoLimit < b
    ∃ t, exec .boundUpdate s = .next t ∧ t.pending = s.pending ∧ t.dev.clock = d.clock ∧ t.dev.hoBound = b
      ∧ t.dev.hold = { d.hold with lastBound := d.clock.ticks }
      ∧ (tooFar → t.dev.nat K.mtState = 5 ∧ ∃ r ∈ t.dev.attic.reports, r.code = 0x0409 ∧ r.p = [1, (b : Int)])
      ∧ (¬ tooFar → t.dev.nat K.mtState = d.nat K.mtState)
      ∧ (d.rootLocked = true → d.hold.freqOnly = false → t.dev.therm.dTarget =
          clamp (-(2 ^ 36)) (2 ^ 36) (if d.hold.useModel then d.dOf d.hold.model else d.hold.meanD))
      ∧ (¬ (d.rootLocked = true ∧ d.hold.freqOnly = false) → t.dev.therm = d.therm)
      ∧ t.dev.num K.hearthDco = d.num K.hearthDco ∧ t.dev.staged = d.staged) ∧
  (∀ s : State, s.dev.hold.active = true → s.dev.hold.compat ≠ 0 → s.dev.clock.mtRun = true →
    let d := s.dev.runToMt (s.dev.hold.compatDue + s.dev.clock.stepped * fracU).toNat
    ∃ t, exec .compatTimerExpiry s = .next t ∧ t.pending = s.pending ∧ t.dev.clock = d.clock ∧ t.dev.hold = d.hold
      ∧ (d.nat K.mtState = 4 → t.dev.nat K.mtState = 5 ∧ (newReports d t.dev).take 2 = [(0x0701, [d.num K.mtState, 5]), (0x0409, [2, (d.hoBound : Int)])])
      ∧ (d.nat K.mtState ≠ 4 → t.dev = d))

/-- LEARNING_SAMPLE, MODEL_REFIT, MODEL_SAVE, HO_MODEL_CLEAR (R165 to R168, Table 6-3). -/
def Obligations.ModelIsLearnedSavedCleared : Prop :=
  (∀ s : State,
    let d := s.dev.runTo (s.dev.hold.lastSample + sTicks)
    ∃ t, exec .learningSample s = .next t ∧ t.pending = s.pending ∧ t.dev.clock = d.clock ∧ t.dev.hold.lastSample = d.clock.ticks
      ∧ t.dev.therm = d.therm ∧ t.dev.staged = d.staged
      ∧ (d.mayLearn = false → t.dev.hold.samples = d.hold.samples ∧ ∀ k, t.dev.val k = d.val k)
      ∧ (d.mayLearn = true → (∃ theta, t.dev.hold.samples = d.hold.samples ++ [{ t16 := d.mt16, y := -(d.num K.hearthDco), theta := theta }])
          ∧ t.dev.nat K.hoModelState = (if d.nat K.hoModelState = 0 then 1 else d.nat K.hoModelState))
      ∧ (d.mayLearn = true ↔ (d.selected < 9 ∧ d.nat (K.thermRefState d.selected) = 5 ∧ d.rootLocked = true ∧ d.hold.tempFault = false
          ∧ d.therm.selSince + d.nat K.thermFreqGate * sTicks ≤ d.clock.ticks))) ∧
  (∀ s : State,
    let d := s.dev.runTo (s.dev.hold.lastRefit + 60 * sTicks)
    let n := d.windowSamples.length
    ∃ t, exec .modelRefit s = .next t ∧ t.pending = s.pending ∧ t.dev.clock = d.clock ∧ t.dev.hold.samples = d.windowSamples
      ∧ t.dev.therm = d.therm ∧ t.dev.models = d.models
      ∧ (n < 600 → t.dev.nat K.hoModelState = d.nat K.hoModelState ∧ t.dev.num K.hoY0 = d.num K.hoY0 ∧ t.dev.num K.hoAgeing = d.num K.hoAgeing)
      ∧ (600 ≤ n → d.nat K.hoModelState = 1 → t.dev.nat K.hoModelState =
          if d.nat K.hoLearnMin ≤ n ∧ t.dev.num K.hoResidualRms ≤ d.num K.thermAccept then 2 else 1)
      ∧ (600 ≤ n → d.nat K.hoModelState = 2 → t.dev.nat K.hoModelState = if d.num K.thermReject < t.dev.num K.hoResidualRms then 1 else 2)) ∧
  (∀ s : State, s.dev.models.length = 2 →
    let d := s.dev.runTo (s.dev.hold.lastSave + 3600 * sTicks)
    ∃ t, exec .modelSave s = .next t ∧ t.pending = s.pending ∧ t.dev.clock = d.clock ∧ (∀ k, t.dev.val k = s.dev.val k)
      ∧ (d.nat K.hoModelState = 2 → d.coreRuns 3 = true →
          ∃ c, some c ∈ t.dev.models ∧ c.good = true ∧ c.vals = modelKeys.map d.num ∧ c.samples = d.hold.samples
            ∧ (∀ m, some m ∈ d.models → m.gen < c.gen) ∧ (∀ m, some m ∈ d.models → (∀ o, some o ∈ d.models → o.gen ≤ m.gen) → some m ∈ t.dev.models
                ∨ ∃ o, some o ∈ d.models ∧ o ≠ m ∧ o.gen = m.gen))
      ∧ (¬ (d.nat K.hoModelState = 2 ∧ d.coreRuns 3 = true) → t.dev.models = d.models)) ∧
  (∀ (s : State) (h : HapHdr),
    let d := s.asWritten h K.hoModelClear [1]
    s.writes h K.hoModelClear [1] →
    (d.hold.active = true → exec (.hoModelClear h [1]) s = .next (s.wrote h K.hoModelClear [1] (d.answer 0x100A))) ∧
    (d.hold.active = false → exec (.hoModelClear h [1]) s = .next (s.wrote h K.hoModelClear [1]
      (((d.emptyModel 1).setNum K.hoUncScale 1).done)) ∧ ((d.emptyModel 1).setNum K.hoUncScale 1).nat K.hoModelState = 0
      ∧ ((d.emptyModel 1).setNum K.hoUncScale 1).hold.samples = []))

/-- TEMP_SAMPLE, TEMP_HOST_TIMEOUT (R163, R164, R171). -/
def Obligations.TemperatureReadingsAndFaults : Prop :=
  (∀ (s : State) (die : Int) (dieOk : Bool) (ohms : Nat),
    let d := s.dev.runTo (s.dev.hold.lastTemp + sTicks / 10)
    let src := d.nat K.hoTempSrc
    let fault := ohms < 100 ∨ 1000000 < ohms ∨ dieOk = false ∨ (src = 2 ∧ d.hold.hostAt + 10 * sTicks ≤ d.clock.ticks)
    ∃ t, exec (.tempSample die dieOk ohms) s = .next t ∧ t.pending = s.pending ∧ t.dev.clock = d.clock ∧ t.dev.therm = d.therm
      ∧ (fault → t.dev.num K.hoTempNow = d.num K.hoTempNow ∧ t.dev.hold.tempFault = true)
      ∧ (¬ fault → t.dev.hold.tempFault = false ∧ t.dev.num K.hoTempNow =
          if src = 0 then die else if src = 1 then ntcTemp (d.nat K.hoNtcB) ohms else d.num K.hoTempHost)
      ∧ (dieOk = true → t.dev.num K.fbDieTemp = die)
      ∧ newReports d t.dev = (if d.hold.tempFault = t.dev.hold.tempFault then []
          else [(0x040A, [if t.dev.hold.tempFault then 1 else 0, d.num K.hoTempSrc])])
      ∧ t.dev.hold.sum = d.hold.sum + (if d.hold.active = true ∧ d.hold.freqOnly = false then
          (if t.dev.hold.tempFault then 10000 else (t.dev.num K.hoTempNow - d.hold.theta0).natAbs) else 0)) ∧
  (∀ s : State, (s.dev.nat K.hoTempSrc ≠ 2 → exec .tempHostTimeout s = .next s) ∧
    (s.dev.nat K.hoTempSrc = 2 → ∃ t, exec .tempHostTimeout s = .next t ∧ t.pending = s.pending
      ∧ t.dev.clock = (s.dev.runTo (s.dev.hold.hostAt + 10 * sTicks)).clock ∧ t.dev.hold = { s.dev.hold with tempFault := true }
      ∧ ∀ k, t.dev.val k = s.dev.val k))

/-- ANT_CURRENT_MEASURE, ANT_SHORT_RETRY, AGC_INTERFERENCE, SKY_AID_POS, SKY_ORBIT_LOAD (R187 to R189, R196 to R198). -/
def Obligations.SkylightSupplyAidAndPages : Prop :=
  (∀ (s : State) (i : Nat), s.dev.nat K.skyAntState < 4 →
    (s.dev.antOff = true ∨ s.dev.nat K.skyAntState = 3 → exec (.antCurrentMeasure i) s = .next s) ∧
    (s.dev.antOff = false → s.dev.nat K.skyAntState ≠ 3 →
      ∃ t, exec (.antCurrentMeasure i) s = .next t ∧ t.pending = s.pending ∧ t.dev.clock = s.dev.clock ∧ t.dev.nat K.skyAntCurrent = i
        ∧ (10 * s.dev.nat K.skyAntShortMa < i → t.dev.nat K.skyAntState = 3)
        ∧ (i ≤ 10 * s.dev.nat K.skyAntShortMa → s.dev.nat K.skyAntState = 0 →
            t.dev.nat K.skyAntState = if i < 10 * s.dev.nat K.skyAntOpenMa then 2 else 1)
        ∧ (i ≤ 10 * s.dev.nat K.skyAntShortMa → s.dev.nat K.skyAntState = 1 → ∀ since, s.dev.sky.antLow = some since →
            t.dev.nat K.skyAntState = if i < 10 * s.dev.nat K.skyAntOpenMa ∧ since + 125000000 ≤ s.dev.clock.ticks then 2 else 1)
        ∧ newReports s.dev t.dev = (if t.dev.nat K.skyAntState = s.dev.nat K.skyAntState then []
            else [(0x0501, [s.dev.num K.skyAntState, t.dev.num K.skyAntState, (i : Int)])])
        ∧ ∀ k, k ≠ K.skyAntCurrent → k ≠ K.skyAntState → t.dev.val k = s.dev.val k)) ∧
  (∀ (s : State) (i : Nat), (s.dev.nat K.skyAntState ≠ 3 ∨ s.dev.antOff = true → exec (.antShortRetry i) s = .next s) ∧
    (s.dev.nat K.skyAntState = 3 → s.dev.antOff = false → ∃ t, exec (.antShortRetry i) s = .next t ∧ t.pending = s.pending
      ∧ t.dev.clock = (s.dev.runTo (s.dev.sky.antRetry + sTicks)).clock ∧ t.dev.nat K.skyAntCurrent = i
      ∧ t.dev.nat K.skyAntState = (if 10 * s.dev.nat K.skyAntShortMa ≤ i then 3 else if i < 10 * s.dev.nat K.skyAntOpenMa then 2 else 1)
      ∧ ∀ k, k ≠ K.skyAntCurrent → k ≠ K.skyAntState → t.dev.val k = s.dev.val k)) ∧
  (∀ (s : State) (l5 : Bool) (gain : Nat),
    let past := (if l5 then s.dev.sky.agcL5 else s.dev.sky.agcL1).filter (fun e => s.dev.clock.ticks ≤ e.1 + 3600 * sTicks)
    let m := median (past.map (·.2))
    let bad := decide (past ≠ [] ∧ gain + 100 < m)
    let old := if l5 then s.dev.sky.agcBad.2 else s.dev.sky.agcBad.1
    (s.dev.nat K.fbState = 4 ∨ s.dev.power.held ≠ 0 → exec (.agcInterference l5 gain ()) s = .next s) ∧
    (s.dev.nat K.fbState ≠ 4 → s.dev.power.held = 0 →
      ∃ t, exec (.agcInterference l5 gain ()) s = .next t ∧ t.pending = s.pending ∧ t.dev.clock = s.dev.clock
        ∧ t.dev.nat (if l5 then K.skyAgcL5 else K.skyAgcL1) = gain
        ∧ (if l5 then t.dev.sky.agcL5 else t.dev.sky.agcL1) = (s.dev.clock.ticks, gain) :: past
        ∧ newReports s.dev t.dev = (if bad = old then [] else [(0x050A, [if l5 then 5 else 1, (m : Int) - gain, if bad then 1 else 0])])
        ∧ ∀ k, k ≠ (if l5 then K.skyAgcL5 else K.skyAgcL1) → t.dev.val k = s.dev.val k)) ∧
  (∀ (s : State) (h : HapHdr) (v : Bytes), v.length = 64 →
    let d := s.asWritten h K.skyAidPos v
    let refused := time96Bad (v.take 12) = true ∨ d.mt16 + 655360000000 < time96Of (v.take 12) ∨ aidNorm2 v < 6300000000 ^ 2
      ∨ 6500000000 ^ 2 < aidNorm2 v ∨ fieldNat v 48 4 = 0 ∨ fieldNat v 56 8 ≠ 0
    s.writes h K.skyAidPos v →
    (refused → exec (.skyAidPos h v) s = .next (s.wrote h K.skyAidPos v (d.answer 0x1005))) ∧
    (¬ refused → d.nat K.skyAidMode = 0 → exec (.skyAidPos h v) s = .next (s.wrote h K.skyAidPos v (d.answer 0x100A))) ∧
    (¬ refused → d.nat K.skyAidMode ≠ 0 → exec (.skyAidPos h v) s = .next (s.wrote h K.skyAidPos v
      ({ d.setOct K.skyAidPos v with sky := { d.sky with aidHeld := true, aidRejected := false } } : Device).done))) ∧
  (∀ (s : State) (h : HapHdr) (v : Bytes), v.length < 65536 →
    let d := s.asWritten h K.skyOrbitLoad v
    s.writes h K.skyOrbitLoad v →
    (v.length = 0 ∨ 8192 < v.length ∨ v.length % 128 ≠ 0 →
      exec (.skyOrbitLoad h v) s = .next (s.wrote h K.skyOrbitLoad v (d.answer 0x1004))) ∧
    (v.length ≠ 0 → v.length ≤ 8192 → v.length % 128 = 0 →
      exec (.skyOrbitLoad h v) s = .next (s.wrote h K.skyOrbitLoad v (d.orbitLoad v).done)
      ∧ ∃ bad, (d.orbitLoad v).sky.pages.length + bad = d.sky.pages.length + v.length / 128
        ∧ (d.nat K.skyOrbitRejects + bad < 2 ^ 32 → (d.orbitLoad v).nat K.skyOrbitRejects = d.nat K.skyOrbitRejects + bad)
        ∧ (newReports d (d.orbitLoad v)).filter (fun r => r.1 = 0x0509) = (if bad = 0 then [] else [(0x0509, [2, (bad : Int)])])))

/-- ACQ_DWELL, PULL_IN_TIMEOUT, COAST_TIMEOUT, CORRELATOR_DUMP, LOOP_UPDATE_TIMEOUT (R191, R202 to R204, R218). -/
def Obligations.TrackingChannelsFollowTheirTable : Prop :=
  (∀ (s : State) (slot c code sv orbit azim : Nat) (k elev : Int) (detected : Bool),
    let d := s.dev.runTo (s.dev.sky.slots.getD slot 0 + s.dev.nat K.skyAcqNoncoh * msTicks)
    (64 ≤ slot ∨ s.dev.clock.mtRun = false → exec (.acqDwell ⟨slot, c⟩ code sv ⟨orbit, k⟩ detected elev azim) s = .next s) ∧
    (slot < 64 → s.dev.clock.mtRun = true → ¬ (sigL5 code = true ∧ s.dev.onChannel (sigL1Of code) sv [2] = true) →
      (∃ t, exec (.acqDwell ⟨slot, c⟩ code sv ⟨orbit, k⟩ false elev azim) s = .next t ∧ t.pending = s.pending ∧ t.dev.clock = d.clock
        ∧ t.dev.sky.chans = s.dev.sky.chans ∧ ∀ j, j ≠ K.skyTracker → t.dev.val j = s.dev.val j) ∧
      (c < 128 → s.dev.sky.chans.length = 128 → s.dev.skyCh c = 0 → s.dev.nat K.skyTracker = 0 → sigKnown code sv = true →
        sigEnabled s.dev.num code = true → s.dev.onChannel code sv [1, 2, 3] = false → s.dev.num K.skyElevMask * 100 ≤ elev →
        ∃ t, exec (.acqDwell ⟨slot, c⟩ code sv ⟨orbit, k⟩ true elev azim) s = .next t ∧ t.pending = s.pending ∧ t.dev.clock = d.clock
          ∧ t.dev.skyCh c = 1 ∧ t.dev.nat (K.chSignal c) = code ∧ t.dev.nat (K.chSv c) = sv ∧ t.dev.num (K.chElev c) = elev
          ∧ t.dev.nat (K.chAzim c) = azim ∧ (t.dev.sky.chans.getD c {}).assigned = t.dev.clock.ticks
          ∧ ∀ m, m ≠ c → m < 128 → t.dev.skyCh m = s.dev.skyCh m))) ∧
  (∀ (s : State) (c : Nat), c < 128 →
    (s.dev.skyCh c ≠ 1 → exec (.pullInTimeout c) s = .next s) ∧ (s.dev.skyCh c ≠ 3 → exec (.coastTimeout c) s = .next s) ∧
    (s.dev.skyCh c = 1 → ∃ t, exec (.pullInTimeout c) s = .next t ∧ t.pending = s.pending ∧ t.dev.skyCh c = 0
      ∧ t.dev.nat (K.chSignal c) = 0 ∧ t.dev.clock = (s.dev.runTo ((s.dev.sky.chans.getD c {}).assigned + 250000000)).clock
      ∧ ∀ m, m ≠ c → m < 128 → t.dev.skyCh m = s.dev.skyCh m) ∧
    (s.dev.skyCh c = 3 → ∃ t, exec (.coastTimeout c) s = .next t ∧ t.pending = s.pending ∧ t.dev.skyCh c = 0
      ∧ t.dev.nat (K.chSignal c) = 0 ∧ t.dev.clock = (s.dev.runTo ((s.dev.sky.chans.getD c {}).coastSince + 1250000000)).clock
      ∧ ∀ m, m ≠ c → m < 128 → t.dev.skyCh m = s.dev.skyCh m)) ∧
  (∀ (s : State) (c cn0 : Nat) (acc : List (Int × Int)) (locked updated : Bool) (nav : Option (Int × Bytes)),
    let st := s.dev.skyCh c
    let shut := 128 ≤ c ∨ st = 0 ∨ (s.dev.nat K.skyTracker = 2 ∧ s.dev.studyTracks = false) ∨ s.dev.nat K.fbState = 4
    let boundary := (s.dev.sky.chans.getD c {}).dumpTick (dumpChips (s.dev.nat (K.chSignal c)))
    (shut ∨ boundary = none → exec (.correlatorDump c ⟨cn0, acc⟩ locked updated nav) s = .next s) ∧
    (∀ tick, ¬ shut → s.dev.sky.chans.length = 128 → boundary = some tick →
      let d := s.dev.runTo tick
      let stale := updated = false ∧ (s.dev.sky.chans.getD c {}).updated + 6250000 ≤ d.clock.ticks
      ∃ t, exec (.correlatorDump c ⟨cn0, acc⟩ locked updated nav) s = .next t ∧ t.pending = s.pending ∧ t.dev.clock = d.clock
        ∧ t.dev.nat (K.chCn0 c) = cn0 ∧ (t.dev.sky.chans.getD c {}).acc = (acc.take 6).map (fun p => (acc24 p.1, acc24 p.2))
        ∧ t.dev.nat K.skyTracker = (if s.dev.studyTracks then 0 else s.dev.nat K.skyTracker)
        ∧ (locked = true → (st = 1 ∨ st = 3) → t.dev.skyCh c = 2)
        ∧ (st = 2 → (locked = false ∨ cn0 < 2200 ∨ stale) → t.dev.skyCh c = 3)
        ∧ (st = 2 → locked = true → 2200 ≤ cn0 → ¬ stale → t.dev.skyCh c = 2)
        ∧ (st = 1 ∨ st = 3 → locked = false → t.dev.skyCh c = st)
        ∧ (t.dev.sky.chans.getD c {}).chips < dumpChips (s.dev.nat (K.chSignal c))
        ∧ (updated = true → t.dev.sky.updated = d.clock.ticks)
        ∧ (∀ k, k ≠ K.chState c → k ≠ K.chCn0 c → k ≠ K.skyTracker → k ≠ K.skyUtcBcast → k ≠ K.skyLeapBcast → t.dev.val k = s.dev.val k)
        ∧ (nav = none → t.dev.val K.skyUtcBcast = s.dev.val K.skyUtcBcast ∧ t.dev.val K.skyLeapBcast = s.dev.val K.skyLeapBcast))) ∧
  (∀ s : State,
    let loops := s.dev.nat K.skyTracker = 0 ∧ s.dev.sky.stopped = false ∧ ∃ c, c < 128 ∧ (s.dev.skyCh c = 2 ∨ s.dev.skyCh c = 3)
    let d := s.dev.runTo (s.dev.sky.updated + 25000000)
    (¬ loops → exec .loopUpdateTimeout s = .next s) ∧
    (loops → ∃ t, exec .loopUpdateTimeout s = .next t ∧ t.pending = s.pending ∧ t.dev.clock.ticks = d.clock.ticks
      ∧ t.dev.sky.active = false ∧ t.dev.nat K.skySolKind = 0 ∧ t.dev.sky.stopped = true
      ∧ t.dev.sky.fastFix = true ∧ (newReports s.dev t.dev).head? = some (0x0503, [2, s.dev.num K.skySolMisses])))

/-- MEAS_LATCH, PARK_BURST, SKY_PPS, PREDICTION_EXPIRY (R205 to R207, R213, R217, R219, R220). -/
def Obligations.LatchesAndSolutions : Prop :=
  (∀ (s : State) (ms : List SkyMeas) (fix refit : Option SkyFix), s.dev.clock.mtRun = false ∨ s.dev.nat K.skyTracker = 2 →
    exec (.measLatch ms fix refit) s = .next s) ∧
  (∀ (s : State) (ms : List SkyMeas) (fix refit : Option SkyFix), s.dev.clock.mtRun = true → s.dev.nat K.skyTracker ≠ 2 →
    s.dev.nat K.skyMeasCount < 2 ^ 32 - 1 → s.dev.nat K.skySolMisses < 2 ^ 32 - 1 →
    let d := (s.dev.skySettle.toFabEdge s.dev.skySettle.nextLatch.1).skySettle
    let n := d.nat K.skySolMisses + 1
    let lost := n = d.nat K.skySolMissLimit ∨ (d.sky.active = true ∧ d.nat K.skySolMissLimit ≤ n)
    let t16 := d.mt16 - Config.rfLatchDelay
    ∃ t, exec (.measLatch ms fix refit) s = .next t ∧ t.pending = s.pending
      ∧ t.dev.nat K.skyMeasCount = d.nat K.skyMeasCount + 1
      ∧ fieldNat (t.dev.oct K.skyMeasBlock) 12 4 = t.dev.nat K.skyMeasCount
      ∧ field (t.dev.oct K.skyMeasBlock) 0 12 = time96Bytes t16
      ∧ fieldNat (t.dev.oct K.skyMeasBlock) 16 1 = ((List.range 128).filter (fun c => d.skyCh c = 2 || d.skyCh c = 3)).length
      ∧ (fix = none → t.dev.clock.ticks = d.clock.ticks ∧ (d.clock.ticks - d.clock.handover.getD 0) % 2 = 0
          ∧ t.dev.nat K.skySolMisses = n ∧ t.dev.nat K.skySolCount = d.nat K.skySolCount ∧ t.dev.num K.skySolOffset = d.num K.skySolOffset
          ∧ (∀ p ∈ t.dev.therm.phases, p ∈ d.therm.phases)
          ∧ (lost → t.dev.sky.active = false ∧ t.dev.nat K.skySolKind = 0 ∧ ∃ r ∈ t.dev.attic.reports, r.code = 0x0503 ∧ r.p = [1, (n : Int)])
          ∧ (¬ lost → t.dev.sky.active = d.sky.active ∧ newReports d t.dev = []))
      ∧ (∀ x o, fix = some x → d.nat K.skyTracker = 0 →
          let y := d.skyTry ((d.latched ms).filter d.measGood) x
          y.kind ≠ 0 → y.worst = none → d.gnssOffset t16 y.off x = some o → x.unc ≤ d.nat K.skyUncMax →
          t.dev.nat K.skySolKind = y.kind ∧ t.dev.nat K.skySolNsat = y.sats.length ∧ t.dev.num K.skySolOffset = o
            ∧ t.dev.nat K.skySolUnc = x.unc ∧ t.dev.nat K.skySolMisses = 0 ∧ t.dev.sky.active = true ∧ t.dev.sky.fastFix = false
            ∧ (d.nat K.skySolCount < 2 ^ 32 - 1 → t.dev.nat K.skySolCount = d.nat K.skySolCount + 1))) ∧
  (∀ (s : State) (ms : List SkyMeas) (fix refit : Option SkyFix),
    let shut := s.dev.nat K.skyTracker ≠ 2 ∨ s.dev.clock.mtRun = false ∨ s.dev.nat K.fbState ≠ 3
    (shut → exec (.parkBurst ms ⟨fix, refit⟩) s = .next s) ∧
    (¬ shut →
      ∃ t, exec (.parkBurst ms ⟨fix, refit⟩) s = .next t ∧ t.pending = s.pending ∧ (∀ c, c < 128 → t.dev.skyCh c ≠ 2)
        ∧ (s.dev.nat K.skyMeasCount < 2 ^ 32 - 1 → t.dev.nat K.skyMeasCount = s.dev.nat K.skyMeasCount + 1)
        ∧ (fix = none → t.dev.clock.ticks = (s.dev.toFabEdge ((s.dev.clock.mt / secU + 1) * secU)).clock.ticks))) ∧
  (∀ s : State,
    (s.dev.sky.active = false ∨ s.dev.clock.mtRun = false → exec (.skyPps ()) s = .next s) ∧
    (s.dev.sky.active = true → s.dev.clock.mtRun = true → s.dev.tdc.chans.length = 24 →
      let off := s.dev.num K.skySolOffset * fracU
      let due : Int := ((s.dev.clock.mt + off) / secU + 1) * secU - off
      ∃ t e, exec (.skyPps ()) s = .next t ∧ t.pending = s.pending ∧ (t.dev.ch 20).pad = (s.dev.ch 20).pad ++ [e]
        ∧ e.sched = some (due.toNat / fracU, 0, 16) ∧ e.falling = false
        ∧ e.ps = (s.dev.toPin due).1.rootPs + (s.dev.toPin due).2 ∧ t.dev.clock = (s.dev.toPin due).1.clock ∧ (∀ k, t.dev.val k = s.dev.val k)
        ∧ newReports s.dev t.dev = [] ∧ ∀ m, m ≠ 20 → t.dev.ch m = s.dev.ch m)) ∧
  (∀ s : State,
    (s.dev.nat K.skyTracker = 0 ∨ s.dev.sky.expired = true → exec .predictionExpiry s = .next s) ∧
    (s.dev.nat K.skyTracker ≠ 0 → s.dev.sky.expired = false →
      ∃ t, exec .predictionExpiry s = .next t ∧ t.pending = s.pending ∧ t.dev.sky.expired = true ∧ t.dev.sky.active = false
        ∧ t.dev.nat K.skySolKind = 0
        ∧ t.dev.clock.ticks = (s.dev.runTo (s.dev.sky.predictedAt + 14400 * sTicks)).clock.ticks
        ∧ (newReports s.dev t.dev).head? = some (0x0503, [3, s.dev.num K.skySolMisses])))

/-- EDGE_INPUT, STAMP_CONVERSION, TDC_CAL_SWAP, TDC_CAL_COMPLETE, AGGREGATE_STAMP_DEMAND. -/
def Obligations.EdgesBecomeStamps : Prop :=
  (∀ (s : State) (n : Nat) (falling : Bool) (wait fine : Nat),
    let d := s.dev.elapse wait
    let e := d.inputEdge falling fine
    (s.dev.clock.mtRun = false ∨ 24 ≤ n → exec (.edgeInput n falling wait fine) s = .next { s with dev := d }) ∧
    (s.dev.clock.mtRun = true → n < 20 → 
      exec (.edgeInput n falling wait fine) s = .next { s with dev := (if d.selects n falling then (d.watchEdge n e).takeEdge n e else d) }
      ∧ e.ps = d.rootPs + min fine 799 / 2 * 2 ∧ e.tU = (d.clock.mt + min fine 799 / 2 * 2 * nsU / 1000 : Nat) ∧ e.falling = falling
      ∧ e.rootOk = d.rootLocked ∧ e.tstate = d.nat K.mtState) ∧
    (s.dev.clock.mtRun = true → 20 ≤ n → n < 24 → (s.dev.ch n).pad = [] → exec (.edgeInput n falling wait fine) s = .next s) ∧
    (∀ e0 rest, s.dev.clock.mtRun = true → 20 ≤ n → n < 24 → (s.dev.ch n).pad = e0 :: rest →
      let x := (s.dev.runTo (e0.ps / 800)).setCh n (fun c => { c with pad := rest })
      exec (.edgeInput n falling wait fine) s =
        .next { s with dev := (if x.selects n e0.falling then x.takeEdge n (e0.measured fine) else x) })) ∧
  (∀ (d : Device) (n : Nat) (e : PinEdge), n < 24 → d.tdc.chans.length = 24 → (∀ m, m < 24 → (d.ch m).opened = none) →
    d.chMode n = 1 ∨ d.chMode n = 3 →
    let t := d.takeEdge n e
    let passed := (d.ch n).passed % d.chDecim n = 0 ∧ d.nat K.tdcCalState = 2
    let tight := 4 ≤ (d.ch n).caps.length ∨ ∃ p, (d.ch n).lastPs = some p ∧ e.ps < p + 50000
    t.clock = d.clock
      ∧ (d.nat (K.chEdges n) < 2 ^ 64 - 1 → t.nat (K.chEdges n) = d.nat (K.chEdges n) + 1)
      ∧ (¬ passed → (t.ch n).caps = (d.ch n).caps ∧ t.nat (K.chMissed n) = d.nat (K.chMissed n))
      ∧ (passed → tight → (t.ch n).caps = (d.ch n).caps
          ∧ (d.nat (K.chMissed n) < 2 ^ 32 - 1 → t.nat (K.chMissed n) = d.nat (K.chMissed n) + 1))
      ∧ (passed → ¬ tight → t.nat (K.chMissed n) = d.nat (K.chMissed n)
          ∧ (t.ch n).caps = (d.ch n).caps ++ [({ e with count := ((d.ch n).count + 1) % 2 ^ 32 } : Capture)])
      ∧ ∀ m, m ≠ n → t.ch m = d.ch m) ∧
  (∀ (s : State) (n : Nat), n < 24 → s.dev.tdc.chans.length = 24 →
    (s.dev.clock.mtRun = false ∨ s.dev.nextServed ≠ some n → exec (.stampConversion n) s = .next s) ∧
    (∀ c rest, s.dev.clock.mtRun = true → s.dev.nextServed = some n → (s.dev.ch n).caps = c :: rest →
      let d := s.dev.runTo (ceilDiv s.dev.tdc.pathFree 800)
      ∃ t, exec (.stampConversion n) s = .next t ∧ t.pending = s.pending ∧ t.dev.clock = d.clock ∧ (t.dev.ch n).caps = rest
        ∧ t.dev.tdc.served = n ∧ t.dev.tdc.pathFree = max s.dev.tdc.pathFree c.ps + 50000
        ∧ (s.dev.nat (K.chStamps n) < 2 ^ 64 - 1 → t.dev.nat (K.chStamps n) = s.dev.nat (K.chStamps n) + 1)
        ∧ (s.dev.chMode n = 1 → s.dev.num (K.chFifoEn n) = 1 →
          ((s.dev.ch n).fifo.length < 256 → ∃ flags, (t.dev.ch n).fifo = (s.dev.ch n).fifo
            ++ [tdcRecord (s.dev.stampOf n c) 0 c.count flags c.tstate]
            ∧ bit flags 0 = !c.rootOk ∧ bit flags 1 = (s.dev.ch n).dropped ∧ bit flags 3 = c.falling)
          ∧ (256 ≤ (s.dev.ch n).fifo.length → (t.dev.ch n).fifo = (s.dev.ch n).fifo ∧ (t.dev.ch n).dropped = true
            ∧ (s.dev.nat (K.chOverflow n) < 2 ^ 32 - 1 → t.dev.nat (K.chOverflow n) = s.dev.nat (K.chOverflow n) + 1))))) ∧
  (∀ (s : State) (n : Nat) (bins : List Nat), n < 24 → s.dev.tdc.chans.length = 24 →
    (s.dev.nat K.tdcCalState ≠ 2 ∨ s.dev.clock.mtRun = false → exec (.tdcCalSwap n bins ()) s = .next s) ∧
    (s.dev.nat K.tdcCalState = 2 → s.dev.clock.mtRun = true → s.dev.nat K.tdcCalCount < 2 ^ 32 - 1 →
      let idle := 1 - (s.dev.ch n).measuring
      let bad := tableBad bins
      ∃ t, exec (.tdcCalSwap n bins ()) s = .next t ∧ t.pending = s.pending ∧ t.dev.clock = (s.dev.runTo ((s.dev.ch n).lastSwap + sTicks)).clock
        ∧ t.dev.nat K.tdcCalCount = s.dev.nat K.tdcCalCount + 1 ∧ (t.dev.ch n).measuring = idle
        ∧ (t.dev.ch n).rejects = (if bad then (s.dev.ch n).rejects + 1 else 0)
        ∧ (t.dev.ch n).tables = (if bad then (s.dev.ch n).tables else (s.dev.ch n).tables.set idle bins)
        ∧ newReports s.dev t.dev = (if bad then [(0x0603, [(n : Int), (idle : Int), ((s.dev.ch n).rejects + 1 : Nat)])] else [])
        ∧ ∀ k, k ≠ K.tdcCalCount → t.dev.val k = s.dev.val k)) ∧
  (∀ s : State, (s.dev.nat K.tdcCalState ≠ 1 → exec .tdcCalComplete s = .next s) ∧
    (s.dev.nat K.tdcCalState = 1 → s.dev.tdc.chans.length = 24 →
      let d := s.dev.runTo (s.dev.tdc.calFrom + Config.calTicks % (5 * msTicks + 1))
      let first (n i : Nat) (tables : List (List Nat)) : List (List Nat) :=
        if tableBad (Config.firstBins n i) then tables else tables.set i (Config.firstBins n i)
      ∃ t, exec .tdcCalComplete s = .next t ∧ t.pending = s.pending ∧ t.dev.clock = d.clock ∧ t.dev.nat K.tdcCalState = 2
        ∧ (∀ k, k ≠ K.tdcCalState → t.dev.val k = s.dev.val k)
        ∧ ∀ n, n < 24 → t.dev.ch n = { s.dev.ch n with
            lastSwap := d.clock.ticks, trims := [s.dev.nat K.tdcTrim, s.dev.nat K.tdcTrim]
            tables := first n 1 (first n 0 (s.dev.ch n).tables), rejects := (t.dev.ch n).rejects }
          ∧ ∀ i, i < 2 → tableBad (Config.firstBins n i) = true → ∃ r ∈ t.dev.attic.reports, r.code = 0x0603 ∧ r.p.take 2 = [(n : Int), (i : Int)])) ∧
  (∀ s : State, (s.dev.clock.mtRun = false → exec .aggregateStampDemand s = .next s) ∧
    (s.dev.clock.mtRun = true → ∃ t, exec .aggregateStampDemand s = .next t ∧ t.pending = s.pending
      ∧ t.dev.clock = (s.dev.runToMt ((s.dev.clock.mt / secU + 1) * secU)).clock
      ∧ t.dev.nat K.tdcStampRate = s.dev.tdc.converted ∧ t.dev.nat K.tdcLoadPeak = max (s.dev.nat K.tdcLoadPeak) s.dev.tdc.converted
      ∧ t.dev.tdc = { s.dev.tdc with converted := 0, demand := 0 }
      ∧ newReports s.dev t.dev = (if 20000000 < s.dev.tdc.demand
          then [(0x0605, [(s.dev.tdc.demand : Int), (max (s.dev.nat K.tdcLoadPeak) s.dev.tdc.converted : Nat)])] else [])))

/-- R232, R238, R239, R243 to R247: INTERVAL_TIMEOUT, REG_GATE_END, CH_FIFO_READ and the stop of an interval. -/
def Obligations.IntervalsGatesAndFifoReads : Prop :=
  (∀ (d : Device) (src m ps : Nat) (st : Capture), d.tdc.chans.length = 24 → m < 24 → (d.ch m).opened = some st → d.chMode m = 2 →
    d.nat (K.chStopSrc m) = src → d.num (K.chFifoEn m) = 1 → (d.ch m).fifo.length < 256 →
    let lo := st.ps + d.nat (K.chWinOpen m)
    let t := d.offerStop src ps m
    (ps < lo ∨ st.ps + d.nat (K.chTimeout m) < ps → t = d) ∧
    (lo ≤ ps → ps ≤ st.ps + d.nat (K.chTimeout m) → (t.ch m).opened = none ∧ ∃ flags,
      (t.ch m).fifo = (d.ch m).fifo ++ [tdcRecord (d.stampOf m st) (((ps : Int) - st.ps) * 65536 / 1000) st.count flags st.tstate]
      ∧ bit flags 4 = true ∧ bit flags 5 = false ∧ (bit flags 6 = true ↔ lo + d.nat (K.chWinWidth m) < ps))) ∧
  (∀ (s : State) (n : Nat), n < 24 → s.dev.tdc.chans.length = 24 →
    ((s.dev.ch n).opened = none ∨ s.dev.clock.mtRun = false ∨ s.dev.chMode n ≠ 2 → exec (.intervalTimeout n) s = .next s) ∧
    (∀ st, (s.dev.ch n).opened = some st → s.dev.clock.mtRun = true → s.dev.chMode n = 2 →
      ∃ t, exec (.intervalTimeout n) s = .next t ∧ t.pending = s.pending
      ∧ t.dev.clock = (s.dev.runTo (ceilDiv (st.ps + s.dev.nat (K.chTimeout n)) 800)).clock ∧ (t.dev.ch n).opened = none
      ∧ (s.dev.num (K.chFifoEn n) = 1 → (s.dev.ch n).fifo.length < 256 → ∃ flags, (t.dev.ch n).fifo = (s.dev.ch n).fifo
          ++ [tdcRecord (s.dev.stampOf n st) 0 st.count flags st.tstate] ∧ bit flags 5 = true ∧ bit flags 4 = false)
      ∧ ∀ m, m ≠ n → t.dev.ch m = s.dev.ch m)) ∧
  (∀ (s : State) (n : Nat), s.dev.tdc.chans.length = 24 →
    (s.dev.num (K.regEnable n) ≠ 1 ∨ 24 ≤ n ∨ s.dev.clock.mtRun = false → exec (.regGateEnd n) s = .next s) ∧
    (s.dev.num (K.regEnable n) = 1 → n < 24 → s.dev.clock.mtRun = true → s.dev.nat (K.regSeq n) < 2 ^ 32 - 1 →
      let endU := (s.dev.ch n).gateStart + s.dev.nat (K.regGate n) * 1000000 * nsU
      let d := Device.serveAll n 96 (s.dev.runToMt endU)
      let inGate := (d.ch n).stamps.filter (fun x => decide (x.2.2 < (endU : Int)))
      let lost := (s.dev.ch n).gateRootLost = true ∨ s.dev.rootLocked = false
      ∃ t, exec (.regGateEnd n) s = .next t ∧ t.pending = s.pending ∧ t.dev.clock.ticks = d.clock.ticks
        ∧ t.dev.nat (K.regSeq n) = s.dev.nat (K.regSeq n) + 1 ∧ t.dev.num (K.regEnd n) = (endU / (5 * 2 ^ 32) : Nat)
        ∧ t.dev.num (K.regCount n) = inGate.length
        ∧ (t.dev.ch n).gateStart = endU ∧ (t.dev.ch n).stamps = (d.ch n).stamps.filter (fun x => decide ((endU : Int) ≤ x.2.2))
        ∧ (lost → t.dev.nat (K.regStatus n) = 5)
        ∧ (¬ lost → inGate.length < 3 → t.dev.nat (K.regStatus n) = 2)
        ∧ (t.dev.nat (K.regStatus n) ≠ 1 → t.dev.nat (K.regStatus n) ≠ 3 → t.dev.num (K.regFreq n) = s.dev.num (K.regFreq n)
            ∧ t.dev.num (K.regFreqRoot n) = s.dev.num (K.regFreqRoot n) ∧ t.dev.num (K.regResid n) = s.dev.num (K.regResid n)))) ∧
  (∀ (s : State) (h : HapHdr) (n : Nat), n < 24 →
    let r := hapReq h 1 (K.chFifoRead n) []
    let d := s.asked r
    let cap := maxPayload (reqSrc r) h.xl ((s.dev.heard r).lock = 3)
    let v := ((d.ch n).fifo.take 16).flatten.take (cap / 24 * 24)
    s.grants r → h.flags < 8 → (∀ x ∈ (d.ch n).fifo, x.length = 24) → (K.chFifoRead n) ∉ d.lost →
    exec (.chFifoRead h n) s = .next (s.answered r { status := some 0, pay := v, dev := d.drainFifo n (v.length / 24), after := id })
    ∧ ((d.drainFifo n (v.length / 24)).tdc.chans.length = 24 → ((d.drainFifo n (v.length / 24)).ch n).fifo = (d.ch n).fifo.drop (v.length / 24)))

/-- FRAME_RECEIVE (R275, R329, R333, R349). -/
def Obligations.FramesPassTheChecksInOrder : Prop :=
  ∀ (s : State) (p wait fine err : Nat) (body : Bytes) (mem : Option MemErr) (env : HapEnv), p < 44 →
    let d := s.dev.elapse wait
    let len := frameLen body
    let counted (t : State) (k : Nat) := t.dev.nat k = (d.nat k + 1) % 2 ^ 32 ∧ t.dev.nat (K.portRxFrames p) = d.nat (K.portRxFrames p)
    ((d.link p ≠ 3 ∧ d.link p ≠ 4) ∨ d.clock.mtRun = false →
      exec (.frameReceive p wait fine body err mem env) s = .next { s with dev := d }) ∧
    ((d.link p = 3 ∨ d.link p = 4) → d.clock.mtRun = true → bit (d.nat K.hallLoopMask) p = true → d.nat K.hallLoopDiscard < 2 ^ 32 - 1 →
      ∃ t, exec (.frameReceive p wait fine body err mem env) s = .next t ∧ t.pending = s.pending ∧ t.dev.clock = d.clock
        ∧ t.dev.nat K.hallLoopDiscard = d.nat K.hallLoopDiscard + 1 ∧ ∀ k, k ≠ K.hallLoopDiscard → t.dev.val k = d.val k) ∧
    (d.link p = 3 → d.clock.mtRun = true → bit (d.nat K.hallLoopMask) p = false → d.asleep = false → d.power.waking = none →
      ∃ t, exec (.frameReceive p wait fine body err mem env) s = .next t ∧ t.pending = s.pending
        ∧ (len < 64 → counted t (K.portRxRunt p))
        ∧ (64 ≤ len → d.nat (K.portMaxFrame p) < len → counted t (K.portRxOversize p))
        ∧ (64 ≤ len → len ≤ d.nat (K.portMaxFrame p) → err ≠ 0 → counted t (K.portRxFcsErr p))
        ∧ (64 ≤ len → len ≤ d.nat (K.portMaxFrame p) → err = 0 → (parseFrame body).etype = 0x8808 → counted t (K.portRxMacCtrl p))
        ∧ (64 ≤ len → len ≤ d.nat (K.portMaxFrame p) → err = 0 → (parseFrame body).etype ≠ 0x8808 →
            let q := d.pcpQueue p (parseFrame body)
            (d.roomFor p (cellsOf body) = false → d.nat (K.portRxOverflow p q) < 2 ^ 64 - 1 →
              t.dev.nat (K.portRxOverflow p q) = d.nat (K.portRxOverflow p q) + 1 ∧ t.dev.nat (K.portRxFrames p) = d.nat (K.portRxFrames p)) ∧
            (d.roomFor p (cellsOf body) = true → mem = none → d.nat (K.stampProbeEtype p) = 0 → d.stationAnswer p body = none →
              d.mirrored p 1 = false → d.vlanDrops p (parseFrame body) = true → d.nat (K.portRxFrames p) < 2 ^ 64 - 1 →
              d.nat K.hallVlanDrop < 2 ^ 32 - 1 →
              t.dev.nat (K.portRxFrames p) = d.nat (K.portRxFrames p) + 1 ∧ t.dev.nat K.hallVlanDrop = d.nat K.hallVlanDrop + 1) ∧
            (∀ o members untagged, o < 44 → o ≠ p → d.roomFor p (cellsOf body) = true → mem = none → d.nat (K.stampProbeEtype p) = 0 →
              d.stationAnswer p body = none → d.mirrored p 1 = false → d.vlanDrops p (parseFrame body) = false →
              d.localDest p (parseFrame body) = .forward → d.nat (K.portRxFrames p) < 2 ^ 64 - 1 →
              let vid := d.vidOf p (parseFrame body)
              vlanEntry (d.oct K.hallVlanTable) vid = some (members, untagged) → bit members o = true →
              d.fdbLookup (parseFrame body).dst vid = some (2 ^ o) → (d.sched o).entries = [] → d.hall.egress.length = 44 →
              (d.egress o).queues.length = 8 → ((d.queue o q).foldl (fun n g => n + g.cells) 0) + cellsOf body ≤ d.nat (K.qMaxCells o q) →
              t.dev.nat (K.portRxFrames p) = d.nat (K.portRxFrames p) + 1 ∧ ∃ f, t.dev.queue o q = d.queue o q ++ [f] ∧ f.src = p
                ∧ f.body = retag body (match (parseFrame body).tag with | some x => x.1 | none => 0) vid (bit untagged o))))

/-- FRAME_RELEASE, FRAME_TRANSMIT, COLLISION, BACKOFF_EXPIRY, GATE_BOUNDARY and FDB_AGEING_EXPIRY each complete with their own effect on the
states named here (R285, R307, R330, R335, R338, R348), and the order in which queues are served (R335, R345, R367). -/
def Obligations.FramesLeaveByPriorityAndAge : Prop :=
  (∀ (d : Device) (p q : Nat) (f : Frame), d.pickQueue p = some (q, f) → q < 8 ∧ (d.queue p q).head? = some f ∧ d.mayRelease p q f = true
    ∧ ∀ r g, q < r → r < 8 → (d.queue p r).head? = some g → d.mayRelease p r g = true → d.launchOf p r g ≠ none) ∧
  (∀ (s : State) (p q : Nat) (f : Frame) (rest : List Frame), p < 44 → q < 8 → s.dev.ports.length = 44 → s.dev.hall.egress.length = 44 →
    (s.dev.egress p).queues.length = 8 → s.dev.portUp p = true → (s.dev.port p).place = none → (s.dev.port p).own = [] →
    s.dev.queue p q = f :: rest → (∀ r, r < 8 → q < r → s.dev.queue p r = []) → f.whole ≤ s.dev.rootPs →
    (s.dev.sched p).entries = [] → s.dev.nat (K.cbsSlope p q) = 0 → s.dev.nat (K.qLaunchMask p) = 0 →
    (∀ r ∈ s.dev.parl.resv, r.port ≠ p) → s.dev.nat K.hallLoopMask = 0 → s.dev.hall.waiting = [] →
    ∃ t, exec (.frameRelease p) s = .next t ∧ t.pending = s.pending ∧ (t.dev.port p).place = some f ∧ (t.dev.port p).placeQueue = some q
      ∧ (t.dev.port p).releasedPs = s.dev.rootPs ∧ t.dev.queue p q = rest
      ∧ (∀ o r, o ≠ p ∨ r ≠ q → t.dev.queue o r = s.dev.queue o r)
      ∧ t.dev.clock = s.dev.clock ∧ t.dev.outbox = s.dev.outbox ∧ ∀ k, t.dev.val k = s.dev.val k) ∧
  (∀ (s : State) (p : Nat), p < 44 →
    (s.dev.portUp p = false ∨ (s.dev.port p).place ≠ none → exec (.frameRelease p) s = .next s) ∧
    (∀ q f d1, p < d1.ports.length → s.dev.portUp p = true → (s.dev.port p).place = none → Device.nextRelease p 16 s.dev = (some (q, f), d1) →
      bit (d1.nat K.hallLoopMask) p = false →
      ∃ t, exec (.frameRelease p) s = .next t ∧ t.pending = s.pending ∧ t.dev.clock = d1.clock ∧ (t.dev.port p).place = some f
        ∧ (t.dev.port p).placeQueue = q ∧ (t.dev.port p).releasedPs = d1.rootPs ∧ t.dev.outbox = d1.outbox)) ∧
  (∀ (s : State) (p wait fine : Nat) (f : Frame), p < 44 → s.dev.ports.length = 44 → (s.dev.port p).place = some f →
    let b := padFrame f.body
    (s.dev.portUp p = false ∨ (s.dev.port p).backoff ≠ none →
      ∃ t, exec (.frameTransmit p wait fine) s = .next t ∧ (t.dev.port p).place = some f ∧ t.dev.outbox = s.dev.outbox) ∧
    (s.dev.portUp p = true → (s.dev.port p).backoff = none →
      16 ≤ p ∨ s.dev.nat (K.portMode p) ≠ 0 ∨ s.dev.nat (K.plcaStatus p) ≠ 1
        ∨ (s.dev.commitTick p wait).plcaAllows p (s.dev.port p).busyPs = true →
      f.insOp = 0 → f.tag = .none → s.dev.nat (K.portTxFrames p) < 2 ^ 64 - 1 →
      ∃ t, exec (.frameTransmit p wait fine) s = .next t ∧ t.pending = s.pending ∧ (t.dev.port p).place = none
        ∧ (frameLen b ≤ s.dev.nat (K.portMaxFrame p) → t.dev.outbox = s.dev.outbox ++ [.frame p (withFcs b)]
            ∧ t.dev.nat (K.portTxFrames p) = s.dev.nat (K.portTxFrames p) + 1)
        ∧ (s.dev.nat (K.portMaxFrame p) < frameLen b → t.dev.outbox = s.dev.outbox
            ∧ t.dev.nat (K.portTxFrames p) = s.dev.nat (K.portTxFrames p)
            ∧ t.dev.nat (K.portTxOversize p) = (s.dev.nat (K.portTxOversize p) + 1) % 2 ^ 32))) ∧
  (∀ (s : State) (p : Nat) (late : Bool), p < 16 → s.dev.ports.length = 44 → s.dev.portUp p = true → (s.dev.port p).place ≠ none →
    (s.dev.port p).backoff = none → ¬ (s.dev.nat (K.portMode p) = 0 ∧ s.dev.nat (K.plcaStatus p) = 1) →
    let n := (s.dev.port p).attempts + 1
    ∃ t, exec (.collision p late) s = .next t ∧ t.pending = s.pending ∧ t.dev.clock = s.dev.clock ∧ t.dev.outbox = s.dev.outbox
      ∧ t.dev.nat (K.portCollisions p) = (s.dev.nat (K.portCollisions p) + 1) % 2 ^ 32
      ∧ t.dev.keyhole = s.dev.keyhole ∧ (∀ o, o ≠ p → t.dev.port o = s.dev.port o)
      ∧ (late = true → (t.dev.port p).place = none ∧ t.dev.nat (K.portLateColl p) = (s.dev.nat (K.portLateColl p) + 1) % 2 ^ 32)
      ∧ (late = false → 16 ≤ n → (t.dev.port p).place = none
          ∧ t.dev.nat (K.portExcessColl p) = (s.dev.nat (K.portExcessColl p) + 1) % 2 ^ 32)
      ∧ (late = false → n < 16 → (t.dev.port p).place = (s.dev.port p).place ∧ (t.dev.port p).attempts = n
          ∧ ∃ k, k < 2 ^ min n 10 ∧ (t.dev.port p).backoff = some (s.dev.clock.ticks + k * 64000))) ∧
  (∀ (s : State) (p t0 : Nat), p < 44 → s.dev.ports.length = 44 → (s.dev.port p).backoff = some t0 →
    ∃ t, exec (.backoffExpiry p) s = .next t ∧ t.pending = s.pending ∧ t.dev.clock = (s.dev.runTo t0).clock ∧ (t.dev.port p).backoff = none
      ∧ (t.dev.port p).place = (s.dev.port p).place ∧ (t.dev.port p).attempts = (s.dev.port p).attempts
      ∧ (∀ o, o ≠ p → t.dev.port o = s.dev.port o) ∧ ∀ k, t.dev.val k = s.dev.val k) ∧
  (∀ (s : State) (p : Nat), p < 44 → (s.dev.sched p).entries ≠ [] → s.dev.clock.mtRun = true →
    ∃ t, exec (.gateBoundary p) s = .next t ∧ t.pending = s.pending
      ∧ t.dev.clock = (s.dev.runToMt (ceilDiv (s.dev.nextBoundary p) 1000)).clock
      ∧ (∀ o q, t.dev.queue o q = s.dev.queue o q) ∧ t.dev.ports = s.dev.ports ∧ t.dev.outbox = s.dev.outbox
      ∧ ∀ k, t.dev.val k = s.dev.val k) ∧
  (∀ (s : State) (p : Nat), (s.dev.sched p).entries = [] ∨ s.dev.clock.mtRun = false → exec (.gateBoundary p) s = .next s) ∧
  (∀ (s : State) (t0 : Nat), s.dev.nat K.hallFdbAgeing ≠ 0 → (s.dev.hall.fdb.map (fun e => e.seen)).min? = some t0 →
    let life := s.dev.nat K.hallFdbAgeing * sTicks
    ∃ t, exec .fdbAgeingExpiry s = .next t ∧ t.pending = s.pending ∧ t.dev.clock = (s.dev.runTo (t0 + life)).clock
      ∧ (∀ e, e ∈ t.dev.hall.fdb ↔ e ∈ s.dev.hall.fdb ∧ t.dev.clock.ticks < e.seen + life) ∧ ∀ k, t.dev.val k = s.dev.val k)

/-- LINK_UP, LINK_LOSS, TRAINING_RETRY, PLCA_BEACON, PLCA_BEACON_TIMEOUT. -/
def Obligations.LinksAndPlcaFollowTheirTables : Prop :=
  (∀ (s : State) (p : Nat), p < 44 → s.dev.ports.length = 44 →
    let c := (s.dev.port p).cause
    let up := s.dev.linkUp p
    let down := s.dev.linkLost p 1
    exec (.linkUp p) s = .next (s.on (fun d => (d.linkUp p).portFollow d p)) ∧
    exec (.linkLoss p) s = .next (s.on (fun d => ((d.linkLost p 1).portFollow d p).cellCheck)) ∧
    (s.dev.portsServed = false → up = s.dev) ∧
    (s.dev.portsServed = true → s.dev.link p = 1 → up.link p = 3 ∧ up.clock = s.dev.clock ∧ newReports s.dev up =
      (if p < 16 then [(0x0801, [(p : Int), 1, 3, (c : Int)])] else [(0x0801, [(p : Int), 1, 2, (c : Int)]), (0x0801, [(p : Int), 2, 3, (c : Int)])])) ∧
    (s.dev.portsServed = true → 16 ≤ p → s.dev.link p = 2 → up.link p = 3) ∧
    (s.dev.portsServed = true → s.dev.link p = 0 ∨ 3 ≤ s.dev.link p → up = s.dev) ∧
    down.nat (K.portLinkDowns p) = (if s.dev.link p = 3 ∨ s.dev.link p = 4 then (s.dev.nat (K.portLinkDowns p) + 1) % 2 ^ 32
      else s.dev.nat (K.portLinkDowns p)) ∧ down.clock = s.dev.clock ∧
    down.link p = (if s.dev.link p = 3 then 1 else if s.dev.link p = 4 then 5 else s.dev.link p) ∧
    (s.dev.link p = 3 → (down.port p).place = none)) ∧
  (∀ (s : State) (p : Nat), 16 ≤ p → p < 44 → s.dev.portsServed = true →
    ∃ t, exec (.trainingRetry p) s = .next t ∧ t.pending = s.pending
      ∧ t.dev.link p = (if s.dev.link p = 1 then 2 else s.dev.link p)
      ∧ t.dev.clock = (if s.dev.link p = 2 then (s.dev.elapse 125000000).clock else s.dev.clock)
      ∧ ∀ k, k ≠ K.portLinkState p → t.dev.val k = s.dev.val k) ∧
  (∀ (s : State) (p wait : Nat), p < 16 → s.dev.ports.length = 44 →
    let d := s.dev.elapse wait
    (¬ (d.portUp p = true ∧ d.nat (K.portMode p) = 0) → exec (.plcaBeacon p wait) s = .next { s with dev := d }) ∧
    (d.portUp p = true → d.nat (K.portMode p) = 0 →
      ∃ t, exec (.plcaBeacon p wait) s = .next t ∧ t.pending = s.pending ∧ t.dev.clock = d.clock ∧ t.dev.nat (K.plcaStatus p) = 1
        ∧ (t.dev.port p).beaconAt = some d.clock.ticks ∧ (t.dev.port p).burst = 0
        ∧ t.dev.outbox = d.outbox ++ (if d.nat (K.plcaNodeId p) = 0 then [.beacon p] else [])
        ∧ t.dev.nat (K.plcaCycleObs p) = (match (d.port p).beaconAt with
            | some b => max (d.nat (K.plcaCycleObs p)) ((d.clock.ticks - b) * 800 / 1000)
            | none => d.nat (K.plcaCycleObs p)))) ∧
  (∀ (s : State) (p b : Nat), p < 16 → s.dev.ports.length = 44 → (s.dev.port p).beaconAt = some b → s.dev.portUp p = true →
    s.dev.nat (K.plcaNodeId p) ≠ 0 →
    ∃ t, exec (.plcaBeaconTimeout p) s = .next t ∧ t.pending = s.pending ∧ t.dev.clock = (s.dev.runTo (b + 162500000)).clock
      ∧ t.dev.nat (K.plcaStatus p) = 0 ∧ (t.dev.port p).beaconAt = none ∧ ∀ k, k ≠ K.plcaStatus p → t.dev.val k = s.dev.val k)

/-- PORT_CNT_CLEAR, HALL_FDB_FLUSH, XPHY_MDIO, STAMP_PROBE_SEND (R293, R301, R323, R351). -/
def Obligations.PortAndSwitchRequestsActAtOnce : Prop :=
  (∀ (s : State) (h : HapHdr) (p : Nat), p < 44 →
    let d := s.asWritten h (K.portCntClear p) [1]
    s.writes h (K.portCntClear p) [1] →
    exec (.portCntClear h p [1]) s = .next (s.wrote h (K.portCntClear p) [1] (d.clearCounters p).done)
    ∧ (∀ k ∈ [K.portRxFrames p, K.portTxFrames p, K.portRxOctets p, K.portTxOctets p, K.portRxFcsErr p, K.portRxRunt p, K.portRxOversize p,
        K.portTxOversize p, K.portRxMacCtrl p, K.portRxSleep p, K.portLinkDowns p, K.portPhySymErr p, K.stampInsCount p, K.stampInsDrop p,
        K.stampInvalid p, K.launchLateDrop p, K.launchFarDrop p, K.gateNeverDrop p, K.sleepDiscard p], (d.clearCounters p).nat k = 0)
    ∧ (∀ q, q < 8 → (d.clearCounters p).nat (K.portRxOverflow p q) = 0 ∧ (d.clearCounters p).nat (K.qTaildrop p q) = 0)
    ∧ newReports d (d.clearCounters p) = [(0x0807, [(p : Int)])]
    ∧ ∀ k, k / 256 ≠ 0x3000 + p → k / 256 ≠ 0x3500 + p → (d.clearCounters p).val k = d.val k) ∧
  (∀ (s : State) (h : HapHdr),
    let d := s.asWritten h K.hallFdbFlush [1]
    s.writes h K.hallFdbFlush [1] →
    exec (.hallFdbFlush h [1]) s = .next (s.wrote h K.hallFdbFlush [1] ({ d with hall := { d.hall with fdb := [] } } : Device).done)) ∧
  (∀ (s : State) (h : HapHdr) (v : Bytes), v.length = 8 →
    let d := s.asWritten h K.xphyMdio v
    let f (i : Nat) : Nat := fieldNat v i 1
    let good := f 0 < 2 ∧ 32 ≤ f 1 ∧ f 1 ≤ 39 ∧ 1 ≤ f 2 ∧ f 2 ≤ 31 ∧ f 3 = 0
    s.writes h K.xphyMdio v →
    (¬ good → exec (.xphyMdio h v) s = .next (s.wrote h K.xphyMdio v (d.answer 0x1005))) ∧
    (good → exec (.xphyMdio h v) s = .next (s.wrote h K.xphyMdio v
      ((d.emit (.mdio (decide (f 0 = 1)) (f 1 - 32) (f 2) (fieldNat v 4 2) (fieldNat v 6 2))).setOct K.xphyMdio (if f 0 = 0 then v.take 6 ++ toBE 2 (h.env.mdio % 65536) else v)).done))) ∧
  (∀ (s : State) (h : HapHdr) (p : Nat) (v : Bytes), p < 44 → v.length = 6 →
    let d := s.asWritten h (K.stampProbeSend p) v
    let et := d.nat (K.stampProbeEtype p)
    let seq := (d.nat (K.stampProbeTxSeq p) + 1) % 65536
    s.writes h (K.stampProbeSend p) v →
    (et = 0 ∨ d.portUp p = false →
      exec (.stampProbeSend h p v) s = .next (s.wrote h (K.stampProbeSend p) v (d.answer 0x100A))) ∧
    (et ≠ 0 → d.portUp p = true →
      exec (.stampProbeSend h p v) s = .next (s.wrote h (K.stampProbeSend p) v
        ((d.setNum (K.stampProbeTxSeq p) seq).ipSend p 0
          { body := v ++ d.oct (K.portMac p) ++ toBE 2 et ++ toBE 2 seq ++ List.replicate 44 0, src := 0x102, tag := .probe }).done)))

/-- CAN_INTEGRATED, CAN_ERROR, CAN_BUSOFF_RECOVERY, CAN_FRAME_RECEIVE, CAN_CFG (R297 to R300). -/
def Obligations.CanControllersFollowTheirStates : Prop :=
  (∀ (s : State) (n : Nat), n < 4 →
    (s.dev.nat (K.canState n) ≠ 1 → exec (.canIntegrated n) s = .next s) ∧
    (s.dev.nat (K.canState n) = 1 → ∃ t, exec (.canIntegrated n) s = .next t ∧ t.pending = s.pending ∧ t.dev.clock = s.dev.clock
      ∧ t.dev.nat (K.canState n) = (if s.dev.nat (K.canTec n) < 128 ∧ s.dev.nat (K.canRec n) < 128 then 2 else 3)
      ∧ (newReports s.dev t.dev).head? = some (0x0806, [(n : Int), 1, 2, s.dev.num (K.canTec n)])
      ∧ ∀ k, k ≠ K.canState n → t.dev.val k = s.dev.val k) ∧
    (s.dev.nat (K.canState n) ≠ 4 → exec (.canBusoffRecovery n) s = .next s) ∧
    (s.dev.nat (K.canState n) = 4 → ∃ t, exec (.canBusoffRecovery n) s = .next t ∧ t.pending = s.pending ∧ t.dev.nat (K.canState n) = 1
      ∧ t.dev.nat (K.canTec n) = 0 ∧ t.dev.nat (K.canRec n) = 0 ∧ newReports s.dev t.dev = [(0x0806, [(n : Int), 4, 1, 0])])) ∧
  (∀ (s : State) (n : Nat) (tec rec : Int),
    (s.dev.canActive n = false → exec (.canError n tec rec) s = .next s) ∧
    (s.dev.canActive n = true → s.dev.nat (K.canErrFrames n) < 2 ^ 32 - 1 → s.dev.nat (K.canBusoffCount n) < 2 ^ 32 - 1 →
      let t1 := s.dev.num (K.canTec n) + tec
      ∃ t, exec (.canError n tec rec) s = .next t ∧ t.pending = s.pending ∧ t.dev.clock = s.dev.clock
        ∧ t.dev.nat (K.canErrFrames n) = s.dev.nat (K.canErrFrames n) + 1 ∧ t.dev.num (K.canTec n) = clamp 0 255 t1
        ∧ t.dev.num (K.canRec n) = clamp 0 255 (s.dev.num (K.canRec n) + rec)
        ∧ (255 < t1 → t.dev.nat (K.canState n) = 4 ∧ t.dev.nat (K.canBusoffCount n) = s.dev.nat (K.canBusoffCount n) + 1)
        ∧ (t1 ≤ 255 → t.dev.nat (K.canState n) = (if t.dev.nat (K.canTec n) < 128 ∧ t.dev.nat (K.canRec n) < 128 then 2 else 3)))) ∧
  (∀ (s : State) (n ident : Nat) (fmt : CanFmt) (data : Bytes) (env : HapEnv),
    let carried := (fmt = .xl → s.dev.canMode n = 3) ∧ (fmt = .fd → 2 ≤ s.dev.canMode n)
    let request := s.dev.canHap n = true ∧ fmt ≠ .cc ∧ ident = s.dev.nat K.hapCanReqId
    (s.dev.canActive n = false ∨ ¬ carried → exec (.canFrameReceive n ident fmt data env) s = .next s) ∧
    (s.dev.canActive n = true → carried → ¬ request →
      s.dev.nat (K.canRxFrames n) < 2 ^ 32 - 1 → s.dev.nat (K.canRxDiscard n) < 2 ^ 32 - 1 →
      ∃ t, exec (.canFrameReceive n ident fmt data env) s = .next t ∧ t.pending = s.pending ∧ t.dev.clock = s.dev.clock
        ∧ t.dev.nat (K.canRxFrames n) = s.dev.nat (K.canRxFrames n) + 1 ∧ t.dev.nat (K.canRxDiscard n) = s.dev.nat (K.canRxDiscard n) + 1
        ∧ t.dev.foyer = s.dev.foyer ∧ t.dev.outbox = s.dev.outbox) ∧
    (s.dev.canActive n = true → carried → request → s.dev.asleep = false → s.dev.power.serving = true →
      exec (.canFrameReceive n ident fmt data env) s = .next (s.on (fun d =>
        (d.canReceived n ident false).2.takeHap (hapOfBytes { transport := n, addr := [], port := 0 } (decide (fmt = .xl)) data env))))) ∧
  (∀ (s : State) (h : HapHdr) (n : Nat) (v : Bytes), n < 4 → v.length = 20 →
    let d := s.asWritten h (K.canCfg n) v
    let mine := ∃ o, d.foyer.owner = some o ∧ o.transport = n
    s.writes h (K.canCfg n) v →
    (canCfgBad v = true → exec (.canCfg h n v) s = .next (s.wrote h (K.canCfg n) v (d.answer 0x1005))) ∧
    (canCfgBad v = false → fieldNat v 0 1 < 2 → mine → exec (.canCfg h n v) s = .next (s.wrote h (K.canCfg n) v (d.answer 0x100A))) ∧
    (canCfgBad v = false → ¬ (fieldNat v 0 1 < 2 ∧ mine) → d.clock.mtRun = true →
      ∃ x : Reply, exec (.canCfg h n v) s = .next (s.wrote h (K.canCfg n) v x) ∧ x.status = some 0 ∧ x.pay = [] ∧ x.dev = d
        ∧ ∀ y : Device, y.clock.mtRun = true → x.after y = (y.setOct (K.canCfg n) v).setCan n (if fieldNat v 0 1 = 0 then 0 else 1)))

/-- REQUEST_ADMISSION (R359 to R366, R374) for NTP, LTQ and PTP delay requests. -/
def Obligations.AdmissionGuaranteesTheBound : Prop :=
  (∀ (s : State) (wait : Nat) (mem : Option MemErr),
    (s.dev.parl.rx.find? (fun q => s.dev.isRequest q) = none → exec (.requestAdmission wait mem) s = .next s) ∧
    (∀ q0 cls, (let asks := s.dev.parl.rx.filter (fun q => s.dev.isRequest q)
        asks.find? (fun q => asks.all (fun x => decide (q.capPs ≤ x.capPs)))) = some q0 →
      let q := q0.settle s.dev
      let d1 := (s.dev.runTo (ceilDiv q.capPs 800 + min wait 400)).dueMessages
      let d := ({ d1 with parl := { d1.parl with rx := d1.parl.rx.erase q0 } } : Device).meetError mem
      d.recognise q.port q.body = .request cls →
      (d.ringOf cls q.port (parseFrame q.body) = none → exec (.requestAdmission wait mem) s = .next { s with dev := d.bump K.parUnclassified }
        ∧ (s.dev.nat K.parUnclassified < 2 ^ 32 - 1 → (d.bump K.parUnclassified).nat K.parUnclassified = s.dev.nat K.parUnclassified + 1)) ∧
      (∀ g, d.ringOf cls q.port (parseFrame q.body) = some g →
        exec (.requestAdmission wait mem) s = .next { s with dev := (if fatalErr mem then d.resetClient g q else d).decide q cls g }))) ∧
  (∀ (d : Device) (q : RxFrame) (cls g : Nat), (cls = 0 ∨ cls = 2 ∨ cls = 3 ∨ cls = 4) → g < 64 → q.port < 44 →
    d.nat (K.ringRefused g) < 2 ^ 64 - 1 → d.nat (K.ringAdmitted g) < 2 ^ 64 - 1 →
    let t := d.decide q cls g
    let refused := t.nat (K.ringRefused g) = d.nat (K.ringRefused g) + 1 ∧ t.nat (K.ringAdmitted g) = d.nat (K.ringAdmitted g)
      ∧ t.parl.flights = d.parl.flights ∧ t.parl.resv = d.parl.resv
    let admitted := t.nat (K.ringAdmitted g) = d.nat (K.ringAdmitted g) + 1 ∧ t.nat (K.ringRefused g) = d.nat (K.ringRefused g)
      ∧ d.num K.parAdmitStopped ≠ 1 ∧ d.portUp q.port = true ∧ d.inflight g < d.nat (K.ringSize g)
      ∧ ∃ (fl : Flight) (r : Resv), t.parl.flights = d.flying ++ [fl] ∧ t.parl.resv = d.parl.resv ++ [r] ∧ fl.ring = g ∧ fl.port = q.port
          ∧ fl.bound = d.nat (K.ringBound g) ∧ fl.end16 = q.end16 ∧ r.port = q.port
          ∧ (r.start : Int) + (d.delayP q.port * psG : Nat) - d.endG q ≤ (d.nat (K.ringBound g) * 1000 * psG : Nat)
    t.clock = d.clock ∧ (refused ∨ admitted) ∧ (d.num K.parAdmitStopped = 1 → refused))

/-- RESPONSE_HANDOVER, TX_STAMP_RETURN, RING_OBS_CLEAR, NTSKE_CONNECTION, NTSKE_TIMEOUT. -/
def Obligations.ResponsesLeaveAndAreMeasured : Prop :=
  (∀ (s : State) (mem : Option MemErr), (s.dev.nextResv = none → exec (.responseHandover mem) s = .next s) ∧
    (∀ r f0, s.dev.nextResv = some r → (∀ id i, r.frame.tag ≠ .leaf id i) → mem = none → (s.dev.port r.port).place = some f0 →
      let q := s.dev.nat K.parQueue
      let d := s.dev.runToMt (ceilDiv r.start 1000)
      let n := cellsOf r.frame.body
      ∃ t, exec (.responseHandover mem) s = .next t ∧ t.pending = s.pending ∧ t.dev.clock = d.clock
        ∧ t.dev.parl = { s.dev.parl with resv := s.dev.parl.resv.erase r }
        ∧ (d.reserveRoom n = true → d.queueCells r.port q + n ≤ d.nat (K.qMaxCells r.port q) →
            r.port < s.dev.hall.egress.length → q < (s.dev.egress r.port).queues.length →
            ∃ f, t.dev.queue r.port q = f :: s.dev.queue r.port q ∧ f.body = r.frame.body ∧ f.tag = r.frame.tag)
        ∧ (d.reserveRoom n = true → d.nat (K.qMaxCells r.port q) < d.queueCells r.port q + n → t.dev.queue r.port q = s.dev.queue r.port q
            ∧ (d.nat (K.qTaildrop r.port q) < 2 ^ 32 - 1 → t.dev.nat (K.qTaildrop r.port q) = d.nat (K.qTaildrop r.port q) + 1))
        ∧ (d.reserveRoom n = false → t.dev.hall.waiting = s.dev.hall.waiting ++ [(r.port, q, r.frame)])) ∧
    (∀ r, s.dev.nextResv = some r → r.port < s.dev.ports.length → (∀ id i, r.frame.tag ≠ .leaf id i) → mem = none →
      (s.dev.port r.port).place = none → bit (s.dev.nat K.hallLoopMask) r.port = false →
      (s.dev.runToMt (ceilDiv r.start 1000)).reserveRoom (cellsOf r.frame.body) = true →
      ∃ t, exec (.responseHandover mem) s = .next t ∧ t.pending = s.pending ∧ t.dev.clock = (s.dev.runToMt (ceilDiv r.start 1000)).clock
        ∧ t.dev.parl = { s.dev.parl with resv := s.dev.parl.resv.erase r }
        ∧ ∃ f, (t.dev.port r.port).place = some f ∧ f.body = r.frame.body ∧ f.tag = r.frame.tag ∧ f.insOp = r.frame.insOp) ∧
    (∀ r id f, s.dev.nextResv = some r → r.frame.tag = .entry id → fatalErr mem = true → f.ring < 64 →
      s.dev.parl.flights.find? (fun x => x.id = id) = some f → s.dev.nat (K.ringIntegrityLoss f.ring) < 2 ^ 32 - 1 →
      ∃ t, exec (.responseHandover mem) s = .next t ∧ t.pending = s.pending ∧ (∀ x ∈ t.dev.parl.flights, x.id ≠ id)
        ∧ t.dev.nat (K.ringIntegrityLoss f.ring) = s.dev.nat (K.ringIntegrityLoss f.ring) + 1
        ∧ (∀ x ∈ t.dev.parl.resv, x.frame.tag ≠ .entry id) ∧ t.dev.outbox = s.dev.outbox)) ∧
  (∀ s : State, (s.dev.parl.returned = [] → exec .txStampReturn s = .next s) ∧
    (∀ id word t16 steps rest f, s.dev.parl.returned = (.entry id, word, t16, steps) :: rest → s.dev.parl.flights.find? (fun x => x.id = id) = some f →
      f.ring < 64 → s.dev.nat (K.ringObsCount f.ring) < 2 ^ 64 - 1 → s.dev.nat (K.ringMisses f.ring) < 2 ^ 32 - 1 →
      s.dev.nat (K.ringStepSpanned f.ring) < 2 ^ 32 - 1 →
      let l := (t16 - f.end16) / 65536
      let g := f.ring
      ∃ t, exec .txStampReturn s = .next t ∧ t.pending = s.pending ∧ t.dev.clock = s.dev.clock ∧ t.dev.parl.returned = rest
        ∧ t.dev.parl.flights = s.dev.parl.flights.filter (fun x => x.id ≠ id)
        ∧ (f.steps = steps → wordInvalid word = false →
            t.dev.nat (K.ringObsCount g) = s.dev.nat (K.ringObsCount g) + 1
            ∧ t.dev.num (K.ringObsMax g) = max (s.dev.num (K.ringObsMax g)) l ∧ t.dev.num (K.ringObsMin g) = min (s.dev.num (K.ringObsMin g)) l
            ∧ t.dev.nat (K.ringMisses g) = s.dev.nat (K.ringMisses g) + (if (f.bound : Int) < l then 1 else 0)
            ∧ ((f.bound : Int) < l → newReports s.dev t.dev = [(0x0A01, [(g : Int), l, (f.bound : Int), (f.port : Int)])]))
        ∧ (f.steps ≠ steps → t.dev.nat (K.ringStepSpanned g) = s.dev.nat (K.ringStepSpanned g) + 1)
        ∧ (f.steps ≠ steps ∨ wordInvalid word = true →
            t.dev.num (K.ringObsCount g) = s.dev.num (K.ringObsCount g) ∧ t.dev.num (K.ringMisses g) = s.dev.num (K.ringMisses g)))) ∧
  (∀ (s : State) (h : HapHdr) (g : Nat), g < 64 →
    let d := s.asWritten h (K.ringObsClear g) [1]
    let t := d.clearRing g
    s.writes h (K.ringObsClear g) [1] →
    exec (.ringObsClear h g [1]) s = .next (s.wrote h (K.ringObsClear g) [1] t.done)
    ∧ t.nat (K.ringObsMax g) = 0 ∧ t.nat (K.ringObsMin g) = 2 ^ 32 - 1 ∧ t.nat (K.ringObsSum g) = 0 ∧ t.nat (K.ringObsCount g) = 0
    ∧ t.nat (K.ringMisses g) = 0 ∧ t.nat (K.ringObsSince g) = d.mt16 ∧ t.oct (K.ringObsHist g) = List.replicate 64 0 ∧ t.parl = d.parl) ∧
  (∀ (d : Device) (c : TlsClient) (rs : List (Bool × Nat × Bytes)), keRecords (c.records.length + 1) c.records = some rs →
    (∃ r ∈ rs, r.1 = true ∧ 7 < r.2.1) → d.keAnswer c = (keRecord true 2 (toBE 2 0) ++ keRecord true 0 [], false, d)) ∧
  (∀ (s : State) (client : TlsClient) (stays : Bool),
    (s.dev.num K.ntskeEnable ≠ 1 ∨ s.dev.num K.parAdmitStopped = 1 → exec (.ntskeConnection client stays) s = .next s) ∧
    (s.dev.num K.ntskeEnable = 1 → s.dev.num K.parAdmitStopped ≠ 1 → s.dev.nat K.ntskeMaxConn ≤ s.dev.parl.conns.length →
      s.dev.nat K.ntskeFailed < 2 ^ 32 - 1 →
      ∃ t, exec (.ntskeConnection client stays) s = .next t ∧ t.pending = s.pending ∧ t.dev.nat K.ntskeFailed = s.dev.nat K.ntskeFailed + 1
        ∧ t.dev.parl = s.dev.parl ∧ t.dev.clock = s.dev.clock) ∧
    (∀ key, key = s.dev.nat K.ntskeKeySlot →
      s.dev.num K.ntskeEnable = 1 → s.dev.num K.parAdmitStopped ≠ 1 → s.dev.parl.conns.length < s.dev.nat K.ntskeMaxConn →
      s.dev.nat (K.ksState key) = 2 → s.dev.nat (K.ksUse key) = 2 → fieldNat (s.dev.oct K.studyCoreState) 1 1 = 0 →
      s.dev.nat (K.ksState 60) = 2 → s.dev.nat K.khEntropyState = 1 → s.dev.nat K.ntskeDone < 2 ^ 32 - 1 → s.dev.nat K.ntskeFailed < 2 ^ 32 - 1 →
      ∃ t, exec (.ntskeConnection client stays) s = .next t ∧ t.pending = s.pending ∧ t.dev.clock = s.dev.clock
        ∧ (stays = true → t.dev.parl.conns = s.dev.parl.conns
            ++ [(s.dev.parl.connNext, s.dev.clock.ticks + s.dev.nat K.ntskeTimeout * 1250000)] ∧ t.dev.obj = s.dev.obj)
        ∧ (∀ a, stays = false → tlsFailure client = some a → t.dev.outbox = s.dev.outbox ++ [.tlsAlert a]
            ∧ t.dev.nat K.ntskeFailed = s.dev.nat K.ntskeFailed + 1 ∧ t.dev.parl = s.dev.parl)
        ∧ (stays = false → tlsFailure client = none → t.dev.outbox = s.dev.outbox ++ [.ntske (s.dev.keAnswer client).1] ∧ t.dev.parl = s.dev.parl
            ∧ t.dev.nat K.ntskeDone = s.dev.nat K.ntskeDone + (if (s.dev.keAnswer client).2.1 then 1 else 0)
            ∧ t.dev.nat K.ntskeFailed = s.dev.nat K.ntskeFailed + (if (s.dev.keAnswer client).2.1 then 0 else 1)))) ∧
  (∀ s : State, (s.dev.parl.conns = [] → exec .ntskeTimeout s = .next s) ∧
    (∀ c due rest, s.dev.parl.conns = (c, due) :: rest → s.dev.nat K.ntskeFailed < 2 ^ 32 - 1 →
      ∃ t, exec .ntskeTimeout s = .next t ∧ t.pending = s.pending ∧ t.dev.clock = (s.dev.runTo due).clock
        ∧ t.dev.parl = { s.dev.parl with conns := rest } ∧ t.dev.nat K.ntskeFailed = s.dev.nat K.ntskeFailed + 1))

/-- SYNC_SCHEDULE, ANNOUNCE_SCHEDULE, DELAY_REQ_SCHEDULE, BMCA_DECISION, QUALIFICATION_TIMEOUT, ANNOUNCE_RECEIPT_TIMEOUT,
SYNC_RECEIPT_TIMEOUT, PDELAY_LOST_RESPONSES, FREE_BOUND_UPDATE. Each timed command lets time run to its instant (log entries 1 and 2). -/
def Obligations.InstancesScheduleAndTimeOut : Prop :=
  (∀ (s : State) (n p : Nat), s.dev.clock.mtRun = false →
    exec (.syncSchedule n p) s = .next s ∧ exec (.announceSchedule n p) s = .next s ∧ exec (.delayReqSchedule n p) s = .next s) ∧
  (∀ (s : State) (n p : Nat), n < 8 → p < 44 → s.dev.ptp.length = 8 → (s.dev.inst n).ports.length = 44 → s.dev.clock.mtRun = true →
    let u := s.dev.ptpPort n p
    let grid (L : Int) (last at_ : Nat) : Prop := s.dev.clock.mt < at_ + s.dev.mtGain 1 ∧ (last ≤ s.dev.clock.mt → last < at_) ∧ ∃ k, at_ = p * 2000 * nsU + k * (secU * 2 ^ (L + 7).toNat / 128)
    (∀ L t0, L = (u.asked.2.1).getD (s.dev.num (K.instLogSync n)) → t0 = s.dev.nextInstant p L u.syncAt →
      grid L u.syncAt t0 ∧
      ∃ t, exec (.syncSchedule n p) s = .next t ∧ t.pending = s.pending ∧ t.dev.clock = (s.dev.runToMt t0).clock
        ∧ (t.dev.ptpPort n p).syncAt = t0 ∧ t.dev.obj = s.dev.obj
        ∧ (s.dev.ptpState n p ≠ 6 → t.dev.parl = s.dev.parl ∧ (t.dev.ptpPort n p).syncSeq = u.syncSeq)
        ∧ (s.dev.ptpState n p = 6 → s.dev.instOn n = true → s.dev.originating = true → s.dev.num (K.instRelay n) = 0 → s.dev.gptp n = false →
            (t.dev.ptpPort n p).syncSeq = u.syncSeq + 1
            ∧ (t.dev.parl = s.dev.parl ∨ ∃ r, t.dev.parl = { s.dev.parl with resv := s.dev.parl.resv ++ [r] } ∧ r.port = p
                ∧ r.frame.insOp = 1 ∧ r.frame.insScale = 3 + n ∧ r.frame.tag = .ptp n 0 (p * 65536 + u.syncSeq % 65536)))) ∧
    (∀ L t0, L = (u.asked.2.2).getD (s.dev.num (K.instLogAnnounce n)) → t0 = s.dev.nextInstant p L u.annAt →
      grid L u.annAt t0 ∧
      ∃ t, exec (.announceSchedule n p) s = .next t ∧ t.pending = s.pending ∧ t.dev.clock = (s.dev.runToMt t0).clock
        ∧ (t.dev.ptpPort n p).annAt = t0
        ∧ (s.dev.ptpState n p ≠ 6 ∨ s.dev.profile n = 3 → t.dev.parl = s.dev.parl ∧ (t.dev.ptpPort n p).annSeq = u.annSeq)
        ∧ (s.dev.ptpState n p = 6 → s.dev.instOn n = true → s.dev.originating = true → s.dev.profile n ≠ 3 →
            (t.dev.ptpPort n p).annSeq = u.annSeq + 1
            ∧ (t.dev.parl = s.dev.parl ∨ ∃ r, t.dev.parl = { s.dev.parl with resv := s.dev.parl.resv ++ [r] } ∧ r.port = p ∧ r.frame.insOp = 0))) ∧
    (s.dev.peerDelay n = false → s.dev.instOn n = true → s.dev.originating = true → s.dev.ptpState n p = 8 ∨ s.dev.ptpState n p = 9 →
      ∃ t, exec (.delayReqSchedule n p) s = .next t ∧ t.pending = s.pending ∧ t.dev.clock = (s.dev.runTo u.delayDue).clock
        ∧ (t.dev.ptpPort n p).delayOut = some (u.delaySeq % 65536, none) ∧ (t.dev.ptpPort n p).delaySeq = u.delaySeq + 1
        ∧ t.dev.obj = s.dev.obj ∧ (t.dev.ptpPort n p).delayDue < t.dev.clock.ticks + max 1 (2 * sTicks * 2 ^ ((u.asked.1).getD (s.dev.num (K.instLogDelay n)) + 7).toNat / 128))) ∧
  (∀ (s : State) (n p : Nat), n < 8 → p < 44 →
    (s.dev.nat (K.instRole n) ≠ 2 → exec (.bmcaDecision n) s = .next s) ∧
    (s.dev.nat (K.instRole n) = 2 → s.dev.instOn n = true → s.dev.originating = true → fieldNat (s.dev.oct K.studyCoreState) 2 1 = 0 →
      (List.range 44).filter (fun p => s.dev.inMask n p && 4 ≤ s.dev.ptpState n p) = [p] → 128 ≤ (s.dev.ownData n).cls →
      (∀ a, s.dev.ebest n = some (a, p) → s.dev.better n a (s.dev.ownData n) = true → (s.dev.inst n).parent.map (·.sender) ≠ some a.sender →
        let f := s.dev.setParent n (some a)
        exec (.bmcaDecision n) s = .next { s with dev :=
          (if f.measuresPath n p then f else f.setInst n (fun i => { i with samples := [] })).movePort n p 8 }) ∧
      (s.dev.ebest n = none → s.dev.ptpState n p ≠ 4 ∨ (s.dev.ptpPort n p).annRun = true → (s.dev.inst n).parent = none →
        exec (.bmcaDecision n) s = .next { s with dev := s.dev.preTransmit n p 0 }))) ∧
  (∀ (s : State) (n p due : Nat), n < 8 → p < 44 → (s.dev.oct (K.instPortState n)).length = 44 → (s.dev.ptpPort n p).qualDue = some due →
    (s.dev.ptpState n p ≠ 5 → exec (.qualificationTimeout n p) s = .next s) ∧
    (s.dev.ptpState n p = 5 →
      ∃ t, exec (.qualificationTimeout n p) s = .next t ∧ t.pending = s.pending ∧ t.dev.clock = (s.dev.runTo due).clock
        ∧ t.dev.ptpState n p = 6 ∧ newReports s.dev t.dev = [(0x0A10, [(n : Int), (p : Int), 5, 6])]
        ∧ ∀ k, k ≠ K.instPortState n → t.dev.val k = s.dev.val k)) ∧
  (∀ (s : State) (n p : Nat), n < 8 → p < 44 → s.dev.instOn n = true →
    let u := s.dev.ptpPort n p
    (s.dev.profile n ≠ 3 → u.annRun = false → (s.dev.ptpState n p = 4 ∨ s.dev.ptpState n p = 8 ∨ s.dev.ptpState n p = 9) →
      s.dev.nat (K.instAnnTimeouts n) < 2 ^ 32 - 1 →
      ∃ x : Device, exec (.announceReceiptTimeout n p) s = .next { s with dev := x.receiptLost n p }
        ∧ x.clock = (s.dev.runTo (u.annSince + s.dev.nat (K.instAnnTimeout n) * intervalTicks u.annLog (s.dev.num (K.instLogAnnounce n)))).clock
        ∧ x.nat (K.instAnnTimeouts n) = s.dev.nat (K.instAnnTimeouts n) + 1 ∧ newReports s.dev x = [(0x0A12, [(n : Int), (p : Int), 1])]
        ∧ ∀ k, k ≠ K.instAnnTimeouts n → x.val k = s.dev.val k) ∧
    (s.dev.ptpState n p ≠ 9 ∨ u.syncRun = true → exec (.syncReceiptTimeout n p) s = .next s) ∧
    (s.dev.ptpState n p = 9 → u.syncRun = false → s.dev.nat (K.instSyncTimeouts n) < 2 ^ 32 - 1 →
      ∃ x : Device, exec (.syncReceiptTimeout n p) s = .next { s with dev := x.receiptLost n p }
        ∧ x.clock = (s.dev.runTo (u.syncSince + s.dev.nat (K.instSyncTimeout n) * intervalTicks u.syncLog (s.dev.num (K.instLogSync n)))).clock
        ∧ x.nat (K.instSyncTimeouts n) = s.dev.nat (K.instSyncTimeouts n) + 1 ∧ newReports s.dev x = [(0x0A12, [(n : Int), (p : Int), 2])]
        ∧ ∀ k, k ≠ K.instSyncTimeouts n → x.val k = s.dev.val k)) ∧
  (∀ (d : Device) (n p : Nat), n < 8 → p < 44 → (d.oct (K.instPortState n)).length = 44 → d.ptp.length = 8 → (d.inst n).ports.length = 44 →
    (d.nat (K.instRole n) = 1 → (d.receiptLost n p).ptpState n p = 8) ∧
    (d.nat (K.instRole n) = 2 → fieldNat (d.oct K.studyCoreState) 2 1 ≠ 0 → (d.receiptLost n p).ptpState n p = d.ptpState n p) ∧
    (d.nat (K.instRole n) = 2 → fieldNat (d.oct K.studyCoreState) 2 1 = 0 → (d.ptpState n p = 8 ∨ d.ptpState n p = 9) →
      ∃ e : Device, d.receiptLost n p = e.bmca n ∧ e.ptpState n p = 4 ∧ (e.inst n).parent = none)) ∧
  (∀ (s : State) (n p : Nat), n < 8 → p < 44 → s.dev.ptp.length = 8 → (s.dev.inst n).ports.length = 44 →
    ((s.dev.ptpPort n p).lost < s.dev.nat (K.instLostResp n) → exec (.pdelayLostResponses n p) s = .next s) ∧
    (s.dev.nat (K.instLostResp n) ≤ (s.dev.ptpPort n p).lost → s.dev.peerDelay n = true →
      ∃ t, exec (.pdelayLostResponses n p) s = .next t ∧ t.pending = s.pending ∧ t.dev.clock = s.dev.clock
        ∧ (∀ j, t.dev.asCapable n j = (if j = p then false else s.dev.asCapable n j)) ∧ (t.dev.ptpPort n p).lost = 0
        ∧ newReports s.dev t.dev = [(0x0A12, [(n : Int), (p : Int), 3])] ∧ ∀ k, k ≠ K.instAscapable n → t.dev.val k = s.dev.val k)) ∧
  (∀ (s : State) (n : Nat), n < 8 → s.dev.ptp.length = 8 →
    let i := s.dev.inst n
    let st := s.dev.nat (K.domState n)
    (s.dev.freeFollows n = false ∨ (st ≠ 4 ∧ st ≠ 5) → exec (.freeBoundUpdate n) s = .next s) ∧
    (∀ b, s.dev.freeFollows n = true → (st = 4 ∨ st = 5) →
      b = min 0xFFFFFFFF (i.boundBase + s.dev.nat (K.instFreeHoRate n) * ((s.dev.runTo (i.boundAt + msTicks)).clock.ticks - i.boundSince) / sTicks) →
      ∃ t, exec (.freeBoundUpdate n) s = .next t ∧ t.pending = s.pending ∧ t.dev.clock = (s.dev.runTo (i.boundAt + msTicks)).clock
        ∧ t.dev.nat (K.instFreeBound n) = b
        ∧ (st = 5 ∨ b ≤ s.dev.nat (K.instFreeHoLimit n) → t.dev.nat (K.domState n) = st ∧ newReports s.dev t.dev = [])
        ∧ (st = 4 → s.dev.nat (K.instFreeHoLimit n) < b → t.dev.nat (K.domState n) = 5 ∧ newReports s.dev t.dev = [(0x0A13, [(n : Int), 4, 5, (b : Int)])])
        ∧ ∀ k, k ≠ K.instFreeBound n → k ≠ K.domState n → t.dev.val k = s.dev.val k))

/-- PTP_SYNC_RX, PTP_FOLLOW_UP_RX, PTP_ANNOUNCE_RX, PTP_DELAY_RESP_RX, PTP_PDELAY_RESP_RX, PTP_SIGNALING_RX. -/
def Obligations.ReceivedMessagesMeasureTheTransmitter : Prop :=
  (∀ (s : State),
    (s.dev.takePtp [0] = none → exec (.ptpSyncRx ()) s = .next s) ∧ (s.dev.takePtp [8] = none → exec (.ptpFollowUpRx ()) s = .next s) ∧
    (s.dev.takePtp [11] = none → exec .ptpAnnounceRx s = .next s) ∧ (s.dev.takePtp [9] = none → exec .ptpDelayRespRx s = .next s) ∧
    (s.dev.takePtp [3, 10] = none → exec .ptpPdelayRespRx s = .next s) ∧ (s.dev.takePtp [12] = none → exec .ptpSignalingRx s = .next s)) ∧
  (∀ (s : State) (q : RxFrame) (n : Nat) (m : PtpMsg) (d : Device),
    s.dev.takePtp [0] = some (q, n, m, d) → q.port < 44 → d.ptp.length = 8 → (d.inst n).ports.length = 44 →
    (d.ptpState n q.port = 8 ∨ d.ptpState n q.port = 9) → d.gptp n = false → d.nat (K.instRole n) = 1 → (d.inst n).stepDue = none →
    bit (fieldNat q.stamp 7 1) 4 = false → (d.inst n).samples ≠ [] → (d.inst n).delaySteps = d.nat K.mtStepCount →
    (4 ≤ n ∨ d.ptpState n q.port = 8 ∨ (d.cand (5 + n)).src = true) →
    let w : SyncIn :=
      { sender := m.source, seq := m.seq, corr := m.corr, word := q.stamp, rx16 := q.rx16, mt16 := q.rx16 + d.num (K.domOffset n) * 65536
        dom16 := d.scaleAt16 (3 + n) (q.rx16 * fracU), good := true, tick := q.tick, moved := q.moved, dco := q.dco }
    (bit m.flags 9 = false → ∃ e t : Device, exec (.ptpSyncRx ()) s = .next { s with dev := t }
      ∧ t = (e.offsetOf n q.port w (ptpTime m.body + m.corr)).relaySync n q q.stamp (padTo 10 m.body) m.corr q.rx16
      ∧ e.obj = d.obj ∧ e.clock = d.clock ∧ (e.ptpPort n q.port).syncSince = d.clock.ticks ∧ (e.inst n).samples = (d.inst n).samples) ∧
    (bit m.flags 9 = true → ∃ t, exec (.ptpSyncRx ()) s = .next t ∧ t.pending = s.pending ∧ (t.dev.inst n).sync = some w
      ∧ t.dev.obj = d.obj ∧ t.dev.clock = d.clock)) ∧
  (∀ (d : Device) (n p : Nat) (w : SyncIn) (t1c : Int), w.good = true → 4 ≤ n → n < 8 → p < 44 → d.ptp.length = 8 →
    (d.oct (K.instPortState n)).length = 44 → (d.inst n).samples ≠ [] → d.freeFollows n = true →
    let off := w.dom16 - t1c - (d.num (K.instMeanDelay n) + d.asymmetry n p)
    let t := d.offsetOf n p w t1c
    let big := d.nat (K.instStepThresh n) * 65536 < off.natAbs
    t.num (K.instOffset n) = off ∧ t.ptpState n p = 9
    ∧ (big → (t.inst n).stepDue = some (-off) ∧ t.clock = d.clock)
    ∧ (¬ big → (t.inst n).stepDue = (d.inst n).stepDue ∧ t.clock.mt = d.clock.mt ∧ t.clock.dom = d.clock.dom)
    ∧ (t.nat (K.domState n) = 2 ∨ t.nat (K.domState n) = 3)) ∧
  (∀ (s : State) (q : RxFrame) (n : Nat) (m : PtpMsg) (d : Device) (w : SyncIn),
    s.dev.takePtp [8] = some (q, n, m, d) → d.ptp.length = 8 → (d.inst n).sync = some w →
    (w.sender ≠ m.source ∨ w.seq ≠ m.seq → exec (.ptpFollowUpRx ()) s = .next { s with dev := d }) ∧
    (w.sender = m.source → w.seq = m.seq → (d.ptpState n q.port = 8 ∨ d.ptpState n q.port = 9) → ∃ e t : Device, exec (.ptpFollowUpRx ()) s = .next { s with dev := t }
      ∧ t = (e.offsetOf n q.port w (ptpTime m.body + (w.corr + m.corr))).relaySync n q w.word (padTo 10 m.body) (w.corr + m.corr) w.rx16
      ∧ e.obj = d.obj ∧ e.clock = d.clock ∧ (e.inst n).sync = none ∧ (e.inst n).samples = (d.inst n).samples)) ∧
  (∀ (d : Device) (n : Nat) (v : Int), n < 8 → d.ptp.length = 8 →
    (v < 0 ∨ 1000000 * 65536 < v → d.addDelay n v = d) ∧
    (0 ≤ v → v ≤ 1000000 * 65536 → 0 < d.nat (K.instDelayFilter n) →
      let ss := (v :: (d.inst n).samples).take (d.nat (K.instDelayFilter n))
      ((d.addDelay n v).inst n).samples = ss ∧ ss.length * (d.addDelay n v).num (K.instMeanDelay n) ≤ ss.sum
      ∧ ss.sum < ss.length * ((d.addDelay n v).num (K.instMeanDelay n) + 1) ∧ ∀ k, k ≠ K.instMeanDelay n → (d.addDelay n v).val k = d.val k)) ∧
  (∀ (s : State) (q : RxFrame) (n : Nat) (m : PtpMsg) (d : Device) (t3 t2 t1c : Int) (steps : Nat),
    s.dev.takePtp [9] = some (q, n, m, d) → q.port < 44 → d.ptp.length = 8 → (d.inst n).ports.length = 44 →
    (d.ptpPort n q.port).delayOut = some (m.seq, some (t3, steps)) → (d.inst n).lastSync = some (t2, t1c) →
    field m.body 10 10 = portIdentity n q.port → d.peerDelay n = false → steps = d.nat K.mtStepCount →
    ∃ e : Device, exec .ptpDelayRespRx s = .next { s with dev := e.addDelay n ((t2 - t1c + (ptpTime m.body - t3 - m.corr)) / 2) }
      ∧ e.obj = d.obj ∧ e.clock = d.clock ∧ (e.ptpPort n q.port).delayOut = none ∧ (e.inst n).samples = (d.inst n).samples) ∧
  (∀ (s : State) (q : RxFrame) (n : Nat) (m : PtpMsg) (d : Device) (t1 : Int) (steps : Nat),
    s.dev.takePtp [3, 10] = some (q, n, m, d) → q.port < 44 → d.ptp.length = 8 → (d.inst n).ports.length = 44 →
    (d.ptpPort n q.port).delayOut = some (m.seq, some (t1, steps)) → field m.body 10 10 = portIdentity n q.port → m.kind = 3 →
    (bit m.flags 9 = true → ∃ t, exec .ptpPdelayRespRx s = .next t ∧ t.pending = s.pending ∧ t.dev.obj = d.obj
      ∧ (t.dev.ptpPort n q.port).pdelayTwo = some (m.seq, ptpTime m.body - m.corr, q.rx16)) ∧
    (bit m.flags 9 = false → steps = d.nat K.mtStepCount → ∃ (e : Device) (v : Int),
      exec .ptpPdelayRespRx s = .next { s with dev := (if d.measuresPath n q.port then e.addDelay n v else e) }
      ∧ v = (q.rx16 - t1 - (m.corr + (if d.gptp n then d.num (K.instRateRatio n) else 0) * m.corr / 2 ^ 48)) / 2
      ∧ (e.ptpPort n q.port).delayOut = none ∧ (e.ptpPort n q.port).lost = 0
      ∧ (∀ j, e.asCapable n j = (if j = q.port ∧ d.gptp n = true then true else d.asCapable n j))
      ∧ ∀ k, k ≠ K.instAscapable n → e.val k = d.val k)) ∧
  (∀ (s : State) (q : RxFrame) (n : Nat) (m : PtpMsg) (d : Device),
    s.dev.takePtp [11] = some (q, n, m, d) → q.port < 44 → d.ptp.length = 8 → (d.inst n).ports.length = 44 →
    d.nat (K.instRole n) = 1 → q.port = d.nat (K.instRxPort n) → 4 ≤ d.ptpState n q.port → (announceOf m).steps < 255 →
    ∃ t, exec .ptpAnnounceRx s = .next t ∧ t.pending = s.pending ∧ t.dev.clock = d.clock ∧ (t.dev.inst n).parent = some (announceOf m)
      ∧ t.dev.oct (K.instGmId n) = (announceOf m).gm ∧ t.dev.nat (K.instGmClass n) = (announceOf m).cls
      ∧ t.dev.nat (K.instGmAccuracy n) = (announceOf m).acc ∧ (t.dev.ptpPort n q.port).annSince = d.clock.ticks
      ∧ (t.dev.ptpPort n q.port).annLog = m.logInt) ∧
  (∀ (s : State) (q : RxFrame) (n : Nat) (m : PtpMsg) (d : Device) (i : Int),
    s.dev.takePtp [12] = some (q, n, m, d) → q.port < 44 → d.ptp.length = 8 → (d.inst n).ports.length = 44 →
    ∀ b, m.intervalRequest = some b → i = toSigned 1 (fieldNat b 7 1) →
    ∃ t, exec .ptpSignalingRx s = .next t ∧ t.pending = s.pending ∧ t.dev.obj = d.obj ∧ t.dev.clock = d.clock
      ∧ (t.dev.ptpPort n q.port).asked.2.1
          = (if i = 127 then none else if -7 ≤ i ∧ i ≤ 4 then some i else (d.ptpPort n q.port).asked.2.1))

/-- FIRST_BATCH_OPEN, BATCH_END, ROOT_COMPLETE, SIGN_COMPLETE, VERIFY_COMPLETE, BOOKED_JOB_TIMEOUT. The waits and the verdict of a lane
are operands (log entry 2). -/
def Obligations.LedgerBatchesFollowTheirStates : Prop :=
  let fresh (d : Device) (ahead : List Leaf) (b : Batch) : Prop := b.state = 0 ∧ b.leaves = ahead ∧ d.ledger.ahead = [] ∧ b.open16 = d.mt16 ∧ b.hash = d.nat K.ledgerHash ∧ b.sig = d.nat K.ledgerSig
    ∧ b.keySlot = d.nat K.ledgerKeySlot ∧ b.maxLeaves = d.nat K.ledgerMaxLeaves ∧ b.delay = (if d.nat K.ledgerSig = 1 then 100000 else 124000)
    ∧ b.opened = d.clock.ticks ∧ b.ends = d.clock.ticks + (5 * d.nat K.ledgerPeriod + 3) / 4
  (∀ s : State,
    (s.dev.ledger.begun = true ∨ s.dev.clock.mtRun = false ∨ s.dev.num K.parAdmitStopped = 1 → exec .firstBatchOpen s = .next s) ∧
    (s.dev.ledger.begun = false → s.dev.clock.mtRun = true → s.dev.num K.parAdmitStopped ≠ 1 →
      ∃ t b, exec .firstBatchOpen s = .next t ∧ t.pending = s.pending
        ∧ t.dev.clock = (s.dev.runToMt ((s.dev.clock.mt + secU - 1) / secU * secU)).clock ∧ t.dev.ledger.begun = true
        ∧ t.dev.ledger.batches = s.dev.ledger.batches ++ [b] ∧ fresh t.dev s.dev.ledger.ahead b ∧ t.dev.nat K.ledgerReleaseDelay = b.delay)) ∧
  (∀ s : State, (s.dev.filling = none → exec .batchEnd s = .next s) ∧
    (∀ b, s.dev.filling = some b →
      let d := s.dev.runTo b.ends
      let rest := s.dev.ledger.batches.filter (fun x => x.id ≠ b.id)
      let sealed := s.dev.ledger.batches.map (fun x => if x.id = b.id then { x with state := 1, close16 := d.mt16 } else x)
      ∃ t, exec .batchEnd s = .next t ∧ t.pending = s.pending ∧ t.dev.clock = d.clock
        ∧ (b.leaves ≠ [] → t.dev.nat K.ledgerSealState = 1)
        ∧ (s.dev.num K.parAdmitStopped = 1 → s.dev.ledger.ahead = [] → t.dev.ledger.batches = (if b.leaves = [] then rest else sealed))
        ∧ (s.dev.num K.parAdmitStopped ≠ 1 ∨ s.dev.ledger.ahead ≠ [] →
          ∃ n, t.dev.ledger.batches = (if b.leaves = [] then rest else sealed) ++ [n] ∧ fresh t.dev s.dev.ledger.ahead n))) ∧
  (∀ (s : State) (wait : Nat), (s.dev.sealing = none → exec (.rootComplete wait) s = .next s) ∧
    (∀ b, s.dev.sealing = some b → b.state = 1 → b.lanes ≠ none → s.dev.ledger.low < 2 ^ 32 →
      let d := s.dev.runTo (min (s.dev.clock.ticks + wait) (b.ends + 10000))
      ∃ t x, exec (.rootComplete wait) s = .next t ∧ t.pending = s.pending ∧ t.dev.batch b.id = some x
        ∧ t.dev.clock = d.clock ∧ t.dev.ledger.high = d.formBase.ledger.high
        ∧ x.state = 2 ∧ x.seq = t.dev.ledger.high * 2 ^ 32 + s.dev.ledger.low ∧ x.leaves = b.leaves ∧ t.dev.ledger.low = s.dev.ledger.low + 1
        ∧ x.header = ofNats [1, b.hash, b.sig, 0] ++ toBE 4 b.keyId ++ toBE 8 x.seq ++ toBE 4 b.leaves.length ++ time96Bytes b.open16
            ++ time96Bytes b.close16 ++ toBE 4 0x4C594844 ++ padTo 48 (treeRoot b.hash 17 (b.leaves.map (fun y => ledgerHash b.hash (0x00 :: y.bytes))))
        ∧ t.dev.nat K.ledgerSealState = 2)) ∧
  (∀ (s : State) (wait : Nat), (s.dev.sealing = none → exec (.signComplete wait) s = .next s) ∧
    (∀ b x y, s.dev.sealing = some b → s.dev.batch b.id = some b → b.state = 2 → b.lanes = some (x, y) →
      let d := s.dev.runTo (b.ends + 10000)
      (s.dev.ledgerKeyOk b.keySlot b.sig = false → exec (.signComplete wait) s = .next { s with dev := d.failBatch b 5 }) ∧
      (s.dev.ledgerKeyOk b.keySlot b.sig = true → s.dev.nat K.khEntropyState ≠ 1 →
        exec (.signComplete wait) s = .next { s with dev := d.failBatch b 1 }) ∧
      (s.dev.ledgerKeyOk b.keySlot b.sig = true → s.dev.nat K.khEntropyState = 1 → b.started = true → b.jobDeadline < s.dev.clock.ticks →
        exec (.signComplete wait) s = .next { s with dev := s.dev.failBatch b 3 }) ∧
      (s.dev.ledgerKeyOk b.keySlot b.sig = true → s.dev.nat K.khEntropyState = 1 → (b.started = true ∨ (s.dev.lane x).stack = []) →
        s.dev.clock.ticks ≤ b.jobDeadline →
        ∃ t z, exec (.signComplete wait) s = .next t ∧ t.pending = s.pending ∧ t.dev.batch b.id = some z ∧ z.state = 3 ∧ z.header = b.header
          ∧ (b.sig = 1 → z.signature = edSign (s.dev.keyhole.keys.getD b.keySlot []) (ascii "LUABRY-LEDGER-01" ++ b.header))
          ∧ t.dev.nat K.ledgerSealState = 3))) ∧
  (∀ (s : State) (wait : Nat) (sound third : Bool), (s.dev.sealing = none → exec (.verifyComplete wait sound third) s = .next s) ∧
    (∀ b x y, s.dev.sealing = some b → b.state = 3 → b.lanes = some (x, y) →
      let d := (s.dev.runTo (min (s.dev.clock.ticks + wait) (b.ends + (5 * (b.delay - 2000) + 3) / 4))).unbook y
      (b.jobDeadline < s.dev.clock.ticks → exec (.verifyComplete wait sound third) s = .next { s with dev := s.dev.failBatch b 3 }) ∧
      (s.dev.clock.ticks ≤ b.jobDeadline → sound = true → d.ledgerVerify b = true →
        ∃ e t : Device, exec (.verifyComplete wait sound third) s = .next { s with dev := t } ∧ t = (e.rootNotice b).batchDone b.id
          ∧ e.clock = d.clock ∧ e.nat K.ledgerSealState = 0 ∧ e.nat K.ledgerBatchSeq = b.seq ∧ e.oct K.ledgerLastHdr = b.header
          ∧ e.oct K.ledgerLastSig = b.signature ∧ (∀ z ∈ e.ledger.batches, z.id = b.id → z.state = 4)
          ∧ e.nat K.ledgerSealMax = max (d.nat K.ledgerSealMax) ((d.clock.ticks - b.ends) * 4 / 5)) ∧
      (s.dev.clock.ticks ≤ b.jobDeadline → sound = false ∨ d.ledgerVerify b = false →
        ∃ e t : Device, exec (.verifyComplete wait sound third) s = .next { s with dev := t }
          ∧ t = (e.failBatch { b with started := false } 4).blame x y 0 third ∧ e.clock = d.clock ∧ e.obj = d.obj))) ∧
  (∀ s : State, (s.dev.sealing = none → exec .bookedJobTimeout s = .next s) ∧
    (∀ b, s.dev.sealing = some b → (b.state = 1 → exec .bookedJobTimeout s = .next s) ∧
      (b.state = 2 ∨ b.state = 3 → exec .bookedJobTimeout s = .next { s with dev := (s.dev.runTo b.jobDeadline).failBatch b 3 }))) ∧
  (∀ (d : Device) (b : Batch) (cause : Nat), d.nat K.ledgerFailed < 2 ^ 32 - 1 →
    let t := d.failBatch b cause
    t.nat K.ledgerFailed = d.nat K.ledgerFailed + 1 ∧ t.nat K.ledgerSealState = 0 ∧ t.clock = d.clock
    ∧ (∀ z ∈ t.ledger.batches, z.id = b.id → z.state = 5)
    ∧ (0x0A20, [((b.seq % 2 ^ 32 : Nat) : Int), (cause : Int), ((b.lanes.getD (0xFF, 0xFF)).1 : Int), (b.leaves.length : Int)]) ∈ newReports d t)

/-- SR_JOB_SUBMIT, JOB_DISPATCH, JOB_CHECK_END, JOB_YIELD, JOB_COMPLETE, SR_JOB_ABORT, SR_LANE_RESTORE, SELF_TEST_COMPLETE, SR_SLOT_LAYOUT,
SR_SLOT_DATA. Waits below the worst case and a lane's verdict are operands (log entry 2). -/
def Obligations.JobsRunOnTheLanes : Prop :=
  (∀ (s : State) (h : HapHdr) (v : Bytes), v.length = 16 →
    let d := s.asWritten h K.srJobSubmit v
    let out (x : Reply) : Prop := exec (.srJobSubmit h v) s = .next (s.wrote h K.srJobSubmit v x)
    let busy : Prop := ¬ (d.nat K.srJobState = 0 ∨ d.nat K.srJobState = 6) ∨ d.srStopped = true
    s.writes h K.srJobSubmit v →
    (d.descriptorBad v = true → out (d.answer 0x1005)) ∧ (d.descriptorBad v = false → busy → out (d.answer 0x100A)) ∧
    (d.descriptorBad v = false → ¬ busy → 60 ≤ d.queueDepth → out (d.answer 0x1009)) ∧
    (d.descriptorBad v = false → ¬ busy → d.queueDepth < 60 →
      ∃ (e : Device) (j : Job), out e.done ∧ e.strong.jobs = d.strong.jobs ++ [j] ∧ j.state = 1 ∧ j.prio = 3 ∧ j.who = .owner ∧ j.op = fieldNat v 0 1
        ∧ j.slots = (field v 4 8).map (·.toNat) ∧ e.nat K.srJobState = 1 ∧ e.nat K.srJobTag = fieldNat v 12 4 ∧ e.clock = d.clock)) ∧
  (∀ s : State,
    let d := s.dev.bookedStart 0
    ((∀ l, l < 4 → d.laneState l = 2 → d.nextJob l 4 = none) → exec .jobDispatch s = .next { s with dev := d }) ∧
    (∀ l j, l < 4 → d.strong.lanes.length = 4 → (d.oct K.srLaneState).length = 4 → d.laneState l = 2 → d.nextJob l 4 = some j →
      (∀ m, m < l → d.laneState m = 2 → d.nextJob m 4 = none) → d.job j.id = some j →
      ∃ t k, exec .jobDispatch s = .next t ∧ t.pending = s.pending ∧ t.dev.clock = d.clock ∧ t.dev.job j.id = some k ∧ t.dev.laneState l = 3
        ∧ k.state = 2 ∧ k.lane = some l ∧ k.start = d.clock.ticks ∧ k.due = d.clock.ticks + checkTicks j.op
        ∧ (t.dev.lane l).stack = j.id :: (d.lane l).stack ∧ (j.who = .owner → t.dev.nat K.srJobState = 2 ∧ t.dev.nat K.srJobLane = l)
        ∧ (∀ i ∈ d.strong.jobs, i.state = 1 → i.only = none → i.who ≠ .owner → j.prio ≤ i.prio ∨ 4 ≤ i.prio))) ∧
  (∀ d : Device, d.sealing = none → ∀ t, d.bookedStart t = d) ∧
  (∀ (s : State) (l id : Nat) (rest : List Nat) (j : Job), (s.dev.lane l).stack = id :: rest → s.dev.job id = some j →
    let e := (s.dev.bookedStart j.due).runTo j.due
    let d := if opSecret j.op then (e.drawBytes (blindBytes j.op)).2 else e
    (j.state ≠ 2 → exec (.jobCheckEnd l none) s = .next s) ∧
    (j.state = 2 → s.dev.bookedStart j.due = s.dev → j.who = .owner → (opSecret j.op = true → s.dev.nat K.khEntropyState = 1) → (opSigns j.op = true → j.alone = false ∧ 2 ≤ s.dev.lanesUp.length) →
      (s.dev.inputsBad j = true → exec (.jobCheckEnd l none) s = .next { s with dev := d.endJob id 3 }) ∧
      (s.dev.inputsBad j = false → 0x40 ≤ j.op → exec (.jobCheckEnd l none) s = .next { s with dev := d.endJob id 1 }) ∧
      (s.dev.inputsBad j = false → j.op < 0x40 →
        ∃ t k, exec (.jobCheckEnd l none) s = .next t ∧ t.pending = s.pending ∧ t.dev.clock = d.clock ∧ t.dev.job id = some k ∧ k.state = 3
          ∧ k.due = j.start + s.dev.worstTicks j ∧ t.dev.nat K.srJobState = 3))) ∧
  (∀ (s : State) (l wait id : Nat) (rest : List Nat) (j k : Job), l < 4 → s.dev.strong.lanes.length = 4 → (s.dev.lane l).stack = id :: rest →
    s.dev.job id = some j → j.state = 3 → s.dev.yields j = true → (s.dev.lane l).booked = false →
    (s.dev.nextJob l j.prio = none → exec (.jobYield l wait false) s = .next s) ∧
    (s.dev.inService l = true → exec (.jobYield l wait true) s = .next { s with dev := s.dev.quarantine l 5 }) ∧
    (s.dev.bookedStart (s.dev.clock.ticks + min wait 2125) = s.dev → s.dev.nextJob l j.prio = some k → s.dev.job k.id = some k →
      ∃ t a b, exec (.jobYield l wait false) s = .next t ∧ t.pending = s.pending ∧ t.dev.clock = (s.dev.elapse (min wait 2125)).clock
        ∧ t.dev.job id = some a ∧ a.state = 4 ∧ a.left = j.due - t.dev.clock.ticks ∧ t.dev.job k.id = some b ∧ b.state = 2 ∧ b.lane = some l
        ∧ b.start = t.dev.clock.ticks + 375 ∧ k.prio < j.prio ∧ (t.dev.lane l).stack = k.id :: id :: rest)) ∧
  (∀ (s : State) (l wait id : Nat) (sound third : Bool) (rest : List Nat) (j : Job), (s.dev.lane l).stack = id :: rest → s.dev.job id = some j →
    let stop := if j.op < 0x10 then j.due else min (s.dev.clock.ticks + wait) j.due
    let d := s.dev.runTo stop
    (j.state ≠ 3 ∨ (s.dev.lane l).booked = true → exec (.jobComplete l wait sound third) s = .next s) ∧
    (j.state = 3 → (s.dev.lane l).booked = false → s.dev.bookedStart stop = s.dev → j.who = .owner → opSigns j.op = false →
      ∀ r w e, d.compute j = (r, w, e) →
        exec (.jobComplete l wait sound third) s = .next { s with dev := (w.foldl (fun d x => d.putSlot x.1 x.2) e).endJob id r }) ∧
    (j.state = 3 → (s.dev.lane l).booked = false → s.dev.bookedStart stop = s.dev → j.who = .owner → opSigns j.op = true → ∀ z, s.dev.lanesUp.find? (fun z => z ≠ l) = some z →
      (∀ k ∈ s.dev.strong.jobs, k.id < s.dev.strong.nextId ∧ (k.who = .owner → k.id = id)) →
      ∃ t a b, exec (.jobComplete l wait sound third) s = .next t ∧ t.pending = s.pending ∧ t.dev.clock = d.clock ∧ t.dev.job id = some a ∧ a.state = 5
        ∧ b ∈ t.dev.strong.jobs ∧ b.who = .check id ∧ b.only = some z ∧ b.state = 1 ∧ b.prio = j.prio ∧ z ≠ l ∧ t.dev.nat K.srJobState = 5)) ∧
  (∀ (d : Device) (j : Job), j.op = 0x01 → d.compute j = (0, [(j.s 3, toBE 1024 (d.slotNat j 0 * d.slotNat j 1 % d.slotNat j 2))], d)) ∧
  (∀ (d : Device) (id r : Nat) (j : Job), d.job id = some j → j.who = .owner → (∀ k ∈ d.strong.jobs, k.who = .owner → k.id = id) →
    let t := d.endJob id r
    t.nat K.srJobState = 6 ∧ t.nat K.srJobResult = r ∧ t.job id = none ∧ t.clock = d.clock
    ∧ (j.state ≠ 1 → t.nat K.srJobTime = min ((d.clock.ticks - j.start) * 4 / 5) 0xFFFFFFFF)) ∧
  (∀ (s : State) (h : HapHdr),
    let d := s.asWritten h K.srJobAbort [1]
    let out (x : Reply) : Prop := exec (.srJobAbort h [1]) s = .next (s.wrote h K.srJobAbort [1] x)
    s.writes h K.srJobAbort [1] →
    (d.strong.jobs.find? (fun j => j.who = .owner) = none → out (d.answer 0x100A)) ∧
    (∀ j, d.strong.jobs.find? (fun j => j.who = .owner) = some j → out ((d.dropCheck j.id).endJob j.id 4).done)) ∧
  (∀ (d : Device) (id : Nat), (d.dropCheck id).clock = d.clock ∧
    ((∀ x ∈ d.strong.jobs, x.who ≠ .check id) → d.dropCheck id = d) ∧
    (∀ c, d.strong.jobs.find? (fun x => x.who = .check id) = some c → ∀ x ∈ (d.dropCheck id).strong.jobs, x.id ≠ c.id)) ∧
  (∀ (s : State) (h : HapHdr) (l : Nat), l < 4 →
    let v : Bytes := [byte l]
    let d := s.asWritten h K.srLaneRestore v
    let out (x : Reply) : Prop := exec (.srLaneRestore h v) s = .next (s.wrote h K.srLaneRestore v x)
    s.writes h K.srLaneRestore v → (d.oct K.srLaneState).length = 4 →
    (d.laneState l ≠ 4 → out (d.answer 0x100A)) ∧
    (d.laneState l = 4 → ∃ e : Device, out e.done ∧ e.laneState l = 1 ∧ newReports d e = [(0x0B01, [(l : Int), 4, 1, 6])] ∧ e.clock = d.clock
      ∧ ∀ k, k ≠ K.srLaneState → k ≠ K.srLanesInService → e.val k = d.val k)) ∧
  (∀ (s : State) (l wait : Nat) (pass : Bool), l < 4 → (s.dev.oct K.srLaneState).length = 4 →
    (s.dev.laneState l ≠ 1 → exec (.selfTestComplete l wait pass) s = .next s) ∧
    (s.dev.laneState l = 1 → ∃ t, exec (.selfTestComplete l wait pass) s = .next t ∧ t.pending = s.pending
      ∧ t.dev.clock = (s.dev.runTo (min (s.dev.clock.ticks + wait) ((s.dev.lane l).testing + 375000))).clock
      ∧ t.dev.laneState l = (if pass then 2 else 4)
      ∧ newReports s.dev t.dev = (0x0B01, if pass then [(l : Int), 1, 2, 1] else [(l : Int), 1, 4, 2]) :: s.dev.lossReports t.dev
      ∧ t.dev.nat K.srLanesInService = t.dev.lanesUp.length)) ∧
  (∀ (s : State) (h : HapHdr) (v : Bytes), v.length = 64 →
    let d := s.asWritten h K.srSlotLayout v
    let bad : Prop := (∃ x ∈ v, x.toNat < 4 ∨ 128 < x.toNat) ∨ 4096 < (v.map (·.toNat)).sum
    let busy : Prop := ∃ j ∈ d.strong.jobs, j.who = .owner
    s.writes h K.srSlotLayout v →
    (bad → exec (.srSlotLayout h v) s = .next (s.wrote h K.srSlotLayout v (d.answer 0x1005))) ∧
    (¬ bad → busy → exec (.srSlotLayout h v) s = .next (s.wrote h K.srSlotLayout v (d.answer 0x100A))) ∧
    (¬ bad → ¬ busy → ∃ e : Device, exec (.srSlotLayout h v) s = .next (s.wrote h K.srSlotLayout v e.done) ∧ e.oct K.srSlotLayout = v
      ∧ (∀ i, i < 64 → ∀ x ∈ e.slotBytes i, x = 0) ∧ e.strong = d.strong ∧ e.clock = d.clock)) ∧
  (∀ (s : State) (h : HapHdr) (i : Nat) (v : Bytes), i < 64 → v.length ≤ 1024 →
    let d := s.asWritten h (K.srSlotData i) v
    let used : Prop := ∃ j ∈ d.strong.jobs, j.who = .owner ∧ i ∈ j.uses
    let out (x : Reply) : Prop := exec (.srSlotData h i v) s = .next (s.wrote h (K.srSlotData i) v x)
    s.writes h (K.srSlotData i) v →
    (v.length ≠ 8 * d.slotWords i → out (d.answer 0x1004)) ∧ (v.length = 8 * d.slotWords i → used → out (d.answer 0x100A)) ∧
    (v.length = 8 * d.slotWords i → ¬ used → out (d.setOct (K.srSlotData i) v).done))

/-- ENTROPY_HEALTH_FAILURE, ENTROPY_RETEST, DRBG_RESEED, KH_PROVISION, KH_OWNER_PUB_SET, KH_OWNER_KEY_SET, KH_PROV_COMMIT, KH_OWNER_XFER. -/
def Obligations.EntropyAndProvisioning : Prop :=
  (∀ (s : State) (kind : Nat), s.dev.nat K.khEntropyFails < 2 ^ 32 - 1 →
    ∃ t, exec (.entropyHealthFailure kind) s = .next t ∧ t.pending = s.pending ∧ t.dev.clock = s.dev.clock ∧ t.dev.nat K.khEntropyState = 2
      ∧ t.dev.nat K.khEntropyFails = s.dev.nat K.khEntropyFails + 1 ∧ t.dev.keyhole.failedAt = some s.dev.clock.ticks
      ∧ (s.dev.attic.lastSeen.find? (fun e => e.1 = 0x0C07 * 65536) = none →
          newReports s.dev t.dev = [(0x0C07, [(kind : Int), (s.dev.nat K.khEntropyFails : Int) + 1])])
      ∧ ∀ k, k ≠ K.khEntropyState → k ≠ K.khEntropyFails → t.dev.val k = s.dev.val k) ∧
  (∀ (s : State) (pass : Bool), (s.dev.keyhole.failedAt = none → exec (.entropyRetest pass) s = .next s) ∧
    (∀ t0, s.dev.keyhole.failedAt = some t0 → ∃ t, exec (.entropyRetest pass) s = .next t ∧ t.pending = s.pending
      ∧ t.dev.clock = (s.dev.runTo (t0 + sTicks)).clock ∧ t.dev.nat K.khEntropyState = (if pass then 1 else 2)
      ∧ t.dev.keyhole.failedAt = (if pass then none else some t.dev.clock.ticks)
      ∧ (pass = true → ((s.dev.oct K.atticClearNonce).all (· = 0) = false → t.dev.oct K.atticClearNonce = s.dev.oct K.atticClearNonce)
        ∧ ((s.dev.oct K.atticClearNonce).all (· = 0) = true → (t.dev.oct K.atticClearNonce).length = 16)))) ∧
  (∀ s : State, (s.dev.nat K.khEntropyState ≠ 1 → exec .drbgReseed s = .next s) ∧
    (s.dev.nat K.khEntropyState = 1 → s.dev.nat K.khReseeds < 2 ^ 32 - 1 →
      ∃ t, exec .drbgReseed s = .next t ∧ t.pending = s.pending
        ∧ t.dev.clock = (if 2 ^ 20 ≤ s.dev.keyhole.requests then s.dev.clock else (s.dev.runTo (s.dev.keyhole.reseedAt + sTicks)).clock)
        ∧ t.dev.nat K.khReseeds = s.dev.nat K.khReseeds + 1 ∧ t.dev.keyhole.requests = 0 ∧ t.dev.keyhole.reseedAt = t.dev.clock.ticks
        ∧ ∀ k, k ≠ K.khReseeds → t.dev.val k = s.dev.val k)) ∧
  (∀ (s : State) (h : HapHdr),
    let d := s.asWritten h K.khProvision [1]
    let out (x : Reply) : Prop := exec (.khProvision h [1]) s = .next (s.wrote h K.khProvision [1] x)
    let bad : Prop := d.nat K.khLifecycle ≠ 0 ∨ d.keyhole.enrolled = true ∨ d.nat K.khEntropyState ≠ 1 ∨ 60 ≤ d.queueDepth
    s.writes h K.khProvision [1] →
    (bad → out (d.answer 0x100A)) ∧
    (¬ bad → d.keyhole.keys.length = 64 → ∃ (e : Device) (j : Job), out e.done ∧ e.keyhole.enrolled = true ∧ e.keyhole.helper = true
      ∧ e.nat (K.ksState 63) = 1 ∧ e.nat (K.ksType 63) = 2 ∧ e.nat (K.ksUse 63) = 5
      ∧ e.nat (K.ksState 60) = 1 ∧ e.nat (K.ksType 60) = 4 ∧ e.nat (K.ksUse 60) = 3
      ∧ (e.key 60).length = 64 ∧ (e.key 63).length = 48 ∧ j ∈ e.strong.jobs ∧ j.who = .keygen 63 ∧ j.op = 0x1B ∧ j.prio = 1
      ∧ j.state = 1 ∧ e.clock = d.clock
      ∧ (d.nat (K.ksState 60) = 0 → d.nat (K.ksState 63) = 0 → e.strong.jobs = d.strong.jobs ++ [j] ∧ newReports d e = []))) ∧
  (∀ (s : State) (h : HapHdr) (v : Bytes), v.length = 97 →
    let d := s.asWritten h K.khOwnerPubSet v
    let out (x : Reply) : Prop := exec (.khOwnerPubSet h v) s = .next (s.wrote h K.khOwnerPubSet v x)
    s.writes h K.khOwnerPubSet v →
    (d.nat K.khLifecycle ≠ 0 → out (d.answer 0x100A)) ∧ (d.nat K.khLifecycle = 0 → p384.decode v = none → out (d.answer 0x1005)) ∧
    (d.nat K.khLifecycle = 0 → p384.decode v ≠ none → ∃ e : Device, out e.done ∧ e.oct K.khOwnerPub = v ∧ e.keyhole.ownerSet = true
      ∧ ∀ k, k ≠ K.khOwnerPub → e.val k = d.val k)) ∧
  (∀ (s : State) (h : HapHdr) (v : Bytes), v.length = 137 →
    let d := s.asWritten h K.khOwnerKeySet v
    let out (x : Reply) : Prop := exec (.khOwnerKeySet h v) s = .next (s.wrote h K.khOwnerKeySet v x)
    let life := d.nat K.khLifecycle
    s.writes h K.khOwnerKeySet v →
    (life = 1 → d.lock ≠ 3 → out (d.answer 0x1008)) ∧
    ((life = 1 → d.lock = 3) → (life = 2 ∨ d.nat (K.ksState 63) ≠ 2) → out (d.answer 0x100A)) ∧
    ((life = 1 → d.lock = 3) → life ≠ 2 → d.nat (K.ksState 63) = 2 → p384.decode (v.take 97) = none → out (d.answer 0x1005)) ∧
    (∀ q, (life = 1 → d.lock = 3) → life ≠ 2 → d.nat (K.ksState 63) = 2 → p384.decode (v.take 97) = some q →
      let kek := ownerKek (Point.xy (p384.mul 386 (beNat (d.key 63)) (some q))).1 (d.oct K.khDikPub)
      (keyUnwrap kek (v.drop 97) = none → d.nat K.sessionAuthFails < 2 ^ 32 - 1 → ∃ e : Device, out (e.answer 0x100B)
        ∧ e.nat K.sessionAuthFails = d.nat K.sessionAuthFails + 1 ∧ ∀ k, k ≠ K.sessionAuthFails → e.val k = d.val k) ∧
      (∀ own, keyUnwrap kek (v.drop 97) = some own → d.keyhole.keys.length = 64 → ∃ e : Device, out e.done ∧ e.key 62 = own
        ∧ e.nat (K.ksState 62) = 2 ∧ e.nat (K.ksType 62) = 5 ∧ e.nat (K.ksUse 62) = 4 ∧ e.nat (K.ksKeyId 62) = d.keyhole.counter
        ∧ e.keyhole.ownerKeySet = true ∧ e.nat K.khKeystoreGen = d.nat K.khKeystoreGen + 1
        ∧ (newReports d e).filter (fun r => r.1 = 0x0C01) = (if life = 1 then [(0x0C01, [4])] else [])))) ∧
  (∀ (s : State) (h : HapHdr),
    let d := s.asWritten h K.khProvCommit [1]
    let out (x : Reply) : Prop := exec (.khProvCommit h [1]) s = .next (s.wrote h K.khProvCommit [1] x)
    let ready : Prop := d.nat K.khLifecycle = 0 ∧ d.keyhole.enrolled = true ∧ d.keyhole.ownerSet = true ∧ d.keyhole.ownerKeySet = true
    s.writes h K.khProvCommit [1] → (¬ ready → out (d.answer 0x100A)) ∧
    (ready → ∃ e : Device, out e.done ∧ e.nat K.khLifecycle = 1 ∧ e.keyhole.provisioned = true ∧ newReports d e = [(0x0C01, [1])]
      ∧ ∀ k, k ≠ K.khLifecycle → k ≠ K.khKeystoreGen → e.val k = d.val k)) ∧
  (∀ (s : State) (h : HapHdr) (v : Bytes), v.length = 193 →
    let d := s.asWritten h K.khOwnerXfer v
    let out (x : Reply) : Prop := exec (.khOwnerXfer h v) s = .next (s.wrote h K.khOwnerXfer v x)
    let digest := beNat (sha384 (ascii "LUABRY-OWNXFR-01" ++ sha384 (d.oct K.khDikPub) ++ v.take 97))
    s.writes h K.khOwnerXfer v → d.lock = 3 →
    (∀ x y, p384.decode (d.oct K.khOwnerPub) = some (x, y) →
      let signed := p384.verify x y digest (fieldNat v 97 48) (fieldNat v 145 48) = true
      (¬ signed → out (d.answer 0x100B)) ∧ (signed → p384.decode (v.take 97) = none → out (d.answer 0x1005)) ∧
      (signed → p384.decode (v.take 97) ≠ none → ∃ e : Device, out e.done ∧ e.oct K.khOwnerPub = v.take 97 ∧ e.oct K.khOwnerXfer = v
        ∧ newReports d e = [(0x0C01, [3])])))

/-- KH_KEYGEN, KEYGEN_COMPLETE, KH_KEY_DESTROY, KH_NTS_ROTATE, NTS_ROTATE_PERIOD_EXPIRY, KH_COSIGN_ENABLE, KH_ROLLBACK_COMMIT, TAMPER_INPUT,
KH_TAMPER_CLEAR, KH_ATTEST_REQ, ATTEST_COMPLETE; and R17: what a change of a slot or lane reports when a provider of Parlour is lost or
returns, under a code that the spec leaves open (log entry 33). -/
def Obligations.KeysAreMadeRotatedLockedAttested : Prop :=
  (∀ (s : State) (h : HapHdr) (v : Bytes), v.length = 4 →
    let d := s.asWritten h K.khKeygen v
    let out (x : Reply) : Prop := exec (.khKeygen h v) s = .next (s.wrote h K.khKeygen v x)
    let slot := fieldNat v 0 1
    let typ := fieldNat v 1 1
    let use := fieldNat v 2 1
    let good : Prop := slot < 60 ∧ fieldNat v 3 1 = 0 ∧ ((use = 1 ∧ (typ = 1 ∨ typ = 3)) ∨ (use = 2 ∧ (typ = 1 ∨ typ = 2 ∨ typ = 3)))
    let free : Prop := d.nat (K.ksState slot) = 0 ∧ d.nat K.khEntropyState = 1 ∧ d.queueDepth < 60
    s.writes h K.khKeygen v → d.lock = 3 → (¬ good → out (d.answer 0x1005)) ∧ (good → ¬ free → out (d.answer 0x100A)) ∧
    (good → free → ∃ (e : Device) (j : Job), out e.done ∧ e.nat (K.ksState slot) = 1 ∧ e.nat (K.ksType slot) = typ ∧ e.nat (K.ksUse slot) = use
      ∧ e.oct K.khKeygen = v ∧ e.strong.jobs = d.strong.jobs ++ [j] ∧ j.who = .keygen slot ∧ j.prio = 1 ∧ j.state = 1 ∧ e.clock = d.clock)) ∧
  (∀ (s : State) (slot : Nat), slot < 60 →
    (s.dev.strong.jobs.find? (fun j => j.who = .keygen slot && j.state = 6) = none → exec (.keygenComplete slot) s = .next s) ∧
    (∀ j, s.dev.strong.jobs.find? (fun j => j.who = .keygen slot && j.state = 6) = some j → s.dev.keyhole.keys.length = 64 →
      ∃ t, exec (.keygenComplete slot) s = .next t ∧ t.pending = s.pending ∧ t.dev.clock = s.dev.clock
        ∧ (j.result ≠ 0 → t.dev.nat (K.ksState slot) = 0 ∧ t.dev.key slot = [] ∧ ∀ r ∈ newReports s.dev t.dev, r.1 ≠ 0x0C02)
        ∧ (j.result = 0 → t.dev.nat (K.ksState slot) = (if s.dev.tamperLocks then 4 else 2) ∧ t.dev.nat (K.ksKeyId slot) = s.dev.keyhole.counter
            ∧ t.dev.keyhole.counter = s.dev.keyhole.counter + 1 ∧ t.dev.oct (K.ksPub slot) = publicOf (s.dev.nat (K.ksType slot)) (s.dev.key slot)
            ∧ t.dev.key slot = s.dev.key slot ∧ t.dev.nat K.khKeystoreGen = s.dev.nat K.khKeystoreGen + 1
            ∧ (newReports s.dev t.dev).filter (fun r => r.1 = 0x0C02) = [(0x0C02, [(slot : Int), (s.dev.nat (K.ksType slot) : Int), (s.dev.nat (K.ksUse slot) : Int), (s.dev.keyhole.counter : Int)])]))) ∧
  (∀ (s : State) (j : Job), s.dev.strong.jobs.find? (fun j => j.who = .keygen 63 && j.state = 6) = some j → j.result = 0 →
    s.dev.keyhole.keys.length = 64 →
    let c := s.dev.keyhole.counter
    ∃ t, exec (.keygenComplete 63) s = .next t ∧ t.pending = s.pending ∧ t.dev.clock = s.dev.clock
      ∧ t.dev.nat (K.ksState 63) = 2 ∧ t.dev.nat (K.ksKeyId 63) = c ∧ t.dev.nat (K.ksState 60) = (if s.dev.tamperLocks then 4 else 2)
      ∧ t.dev.nat (K.ksKeyId 60) = c + 1 ∧ t.dev.keyhole.counter = c + 2 ∧ t.dev.oct K.khDikPub = publicOf 2 (s.dev.key 63)
      ∧ t.dev.nat K.khKeystoreGen = s.dev.nat K.khKeystoreGen + 1 ∧ t.dev.keyhole.cellarGen = some (s.dev.nat K.khKeystoreGen + 1)
      ∧ (newReports s.dev t.dev).filter (fun r => r.1 = 0x0C02) = [(0x0C02, [63, 2, 5, (c : Int)]), (0x0C02, [60, 4, 3, (c : Int) + 1])]) ∧
  (∀ (s : State) (h : HapHdr) (slot : Nat), slot < 60 →
    let v : Bytes := [byte slot]
    let d := s.asWritten h K.khKeyDestroy v
    let out (x : Reply) : Prop := exec (.khKeyDestroy h v) s = .next (s.wrote h K.khKeyDestroy v x)
    let used : Prop := d.nat K.ledgerKeySlot = slot ∨ (∃ b ∈ d.ledger.batches, b.keySlot = slot) ∨ (d.num K.ntskeEnable = 1 ∧ d.nat K.ntskeKeySlot = slot)
    s.writes h K.khKeyDestroy v → d.lock = 3 → (used → out (d.answer 0x100A)) ∧
    (¬ used → d.nat (K.ksState slot) = 0 → out (d.setNum K.khKeyDestroy slot).done) ∧
    (¬ used → d.nat (K.ksState slot) ≠ 0 → d.keyhole.keys.length = 64 → ∃ e : Device, out e.done ∧ e.nat (K.ksState slot) = 0 ∧ e.key slot = []
      ∧ e.nat (K.ksType slot) = 0 ∧ e.nat (K.ksKeyId slot) = 0 ∧ e.oct (K.ksPub slot) = [] ∧ e.nat K.khKeyDestroy = slot
      ∧ e.nat K.khKeystoreGen = d.nat K.khKeystoreGen + 1 ∧ (0x0C03, [(slot : Int), d.num (K.ksKeyId slot)]) ∈ newReports d e
      ∧ ∀ j ∈ e.strong.jobs, j.who ≠ .keygen slot)) ∧
  (∀ d : Device, d.keyhole.keys.length = 64 →
    let t := d.rotateNts
    t.key 61 = d.key 60 ∧ t.num (K.ksKeyId 61) = ((d.nat (K.ksKeyId 60) : Nat) : Int) ∧ t.nat (K.ksState 61) = d.nat (K.ksState 60)
    ∧ (t.key 60).length = 64 ∧ t.nat (K.ksKeyId 60) = d.keyhole.counter ∧ t.nat (K.ksState 60) = (if d.tamperLocks then 4 else 2)
    ∧ t.keyhole.counter = d.keyhole.counter + 1 ∧ t.keyhole.rotateFrom = d.clock.ticks ∧ t.keyhole.rotateRan = 0 ∧ t.clock = d.clock
    ∧ t.nat K.khKeystoreGen = d.nat K.khKeystoreGen + 1 ∧ (newReports d t).filter (fun r => r.1 = 0x0C04) = [(0x0C04, [(d.keyhole.counter : Int), d.num (K.ksKeyId 60)])]) ∧
  (∀ (s : State) (h : HapHdr),
    let d := s.asWritten h K.khNtsRotate [1]
    s.writes h K.khNtsRotate [1] → d.lock = 3 →
    exec (.khNtsRotate h [1]) s = .next (s.wrote h K.khNtsRotate [1] (if d.nat K.khEntropyState = 1 then d.rotateNts.done else d.answer 0x100A))) ∧
  (∀ s : State,
    (s.dev.nat K.khLifecycle ≠ 1 ∨ 2 ≤ s.dev.nat K.fbState ∨ s.dev.nat K.khEntropyState ≠ 1 → exec .ntsRotatePeriodExpiry s = .next s) ∧
    (s.dev.nat K.khLifecycle = 1 → s.dev.nat K.fbState < 2 → s.dev.nat K.khEntropyState = 1 →
      exec .ntsRotatePeriodExpiry s = .next { s with dev :=
        (s.dev.runTo (s.dev.keyhole.rotateFrom + (s.dev.nat K.khNtsRotatePeriod * sTicks - s.dev.keyhole.rotateRan))).rotateNts })) ∧
  (∀ (s : State) (h : HapHdr),
    let d := s.asWritten h K.khCosignEnable [1]
    s.writes h K.khCosignEnable [1] → d.lock = 3 → ∃ e : Device,
      exec (.khCosignEnable h [1]) s = .next (s.wrote h K.khCosignEnable [1] e.done) ∧ e.keyhole.cosign = true ∧ e.obj = d.obj) ∧
  (∀ (s : State) (h : HapHdr),
    let d := s.asWritten h K.khRollbackCommit [1]
    let out (x : Reply) : Prop := exec (.khRollbackCommit h [1]) s = .next (s.wrote h K.khRollbackCommit [1] x)
    s.writes h K.khRollbackCommit [1] → d.lock = 3 → (d.keyhole.secVersion ≤ d.keyhole.rollback → out d.done) ∧
    (d.keyhole.rollback < d.keyhole.secVersion → ∃ e : Device, out e.done ∧ e.keyhole.rollback = d.keyhole.secVersion
      ∧ newReports d e = [(0x0C06, [(d.keyhole.rollback : Int), (d.keyhole.secVersion : Int)])] ∧ ∀ k, k ≠ K.khBootStatus → e.val k = d.val k)) ∧
  (∀ (s : State) (pin : Nat), pin < 2 →
    let d := s.dev.elapse ((4 * xtalU + xtalTick - 1) / xtalTick)
    (bit (s.dev.nat K.khTamperCfg) pin = false ∨ bit (s.dev.nat K.khTamper) pin = true → exec (.tamperInput pin) s = .next { s with dev := d }) ∧
    (bit (s.dev.nat K.khTamperCfg) pin = true → bit (s.dev.nat K.khTamper) pin = false →
      ∃ t, exec (.tamperInput pin) s = .next t ∧ t.pending = s.pending ∧ t.dev.clock.ticks = d.clock.ticks
        ∧ t.dev.nat K.khTamper = s.dev.nat K.khTamper + 2 ^ pin
        ∧ (newReports s.dev t.dev).head? = some (0x0C0B, [(s.dev.nat K.khTamper + 2 ^ pin : Int), (pin : Int)])
        ∧ (bit (s.dev.nat K.khTamperCfg) (pin + 2) = true → ∀ k, k < 62 → t.dev.nat (K.ksState k) ≠ 2))) ∧
  (∀ (s : State) (h : HapHdr),
    let d := s.asWritten h K.khTamperClear [1]
    s.writes h K.khTamperClear [1] → d.lock = 3 → ∃ e : Device, exec (.khTamperClear h [1]) s = .next (s.wrote h K.khTamperClear [1] e.done)
      ∧ e.nat K.khTamper = 0 ∧ (newReports d e).head? = some (0x0C0C, [d.num K.khTamper])
      ∧ ∀ k, k < 62 → e.nat (K.ksState k) = (if d.nat (K.ksState k) = 4 then 2 else d.nat (K.ksState k))) ∧
  (∀ (s : State) (h : HapHdr) (v : Bytes), v.length = 33 →
    let d := s.asWritten h K.khAttestReq v
    let out (x : Reply) : Prop := exec (.khAttestReq h v) s = .next (s.wrote h K.khAttestReq v x)
    let s0 := fieldNat v 32 1
    let slot := if s0 = 0xFF then d.nat K.ledgerKeySlot else s0
    s.writes h K.khAttestReq v → (64 ≤ s0 → s0 ≠ 0xFF → out (d.answer 0x1005)) ∧
    (s0 < 64 ∨ s0 = 0xFF → d.nat K.khAttestState = 1 → out (d.answer 0x100A)) ∧
    (s0 < 64 ∨ s0 = 0xFF → d.nat K.khAttestState ≠ 1 → d.nat K.khEntropyState ≠ 1 → ∃ e : Device, out (e.answer 0x100A) ∧ e.nat K.khAttestState = 3) ∧
    (s0 < 64 ∨ s0 = 0xFF → d.nat K.khAttestState ≠ 1 → d.nat K.khEntropyState = 1 → d.nat K.khLifecycle ≠ 2 → d.nat (K.ksState 63) = 2 →
      d.queueDepth < 60 → ∃ (e : Device) (j : Job) (id : Nat), out e.done ∧ e.nat K.khAttestState = 1 ∧ e.oct K.khAttestReq = v
        ∧ e.keyhole.attest = some (d.attestBody (v.take 32) slot, slot, id) ∧ e.strong.jobs = d.strong.jobs ++ [j] ∧ j.who = .attest ∧ j.op = 0x18)) ∧
  (∀ s : State, (s.dev.keyhole.attest = none → exec .attestComplete s = .next s) ∧
    (∀ j body slot id, s.dev.strong.jobs.find? (fun j => j.who = .attest && j.state = 6) = some j → s.dev.keyhole.attest = some (body, slot, id) →
      ∃ t, exec .attestComplete s = .next t ∧ t.pending = s.pending ∧ t.dev.clock = s.dev.clock ∧ t.dev.keyhole.attest = none
        ∧ (j.result ≠ 0 → t.dev.nat K.khAttestState = 3 ∧ newReports s.dev t.dev = [(0x0C09, [(slot : Int), (id : Int), 1])])
        ∧ (j.result = 0 → t.dev.nat K.khAttestState = 2 ∧ newReports s.dev t.dev = [(0x0C09, [(slot : Int), (id : Int), 0])]
            ∧ ∃ k, t.dev.oct K.khAttestReport = body ++
              (let rs := p384.sign (beNat (s.dev.key 63)) (beNat (sha384 (ascii "LUABRY-ATTEST-01" ++ body))) k
               toBE 48 rs.1 ++ toBE 48 rs.2)))) ∧
  (∀ d0 d : Device, newReports d (d.noteLoss d0) = d0.lossReports d ∧ (d.noteLoss d0).obj = d.obj ∧ (d.noteLoss d0).clock = d.clock) ∧
  (∀ (d0 d : Device) (c : Nat), c < 3 → (lossReport c (d.providerLost c) ∈ d0.lossReports d ↔ d0.providerLost c ≠ d.providerLost c))

/-- MB_SEND, MB_RECV, DB_IRQ_MASK, MB8_SERVICE. -/
def Obligations.MessagesAreWholeOrRefused : Prop :=
  let pends (d : Device) (n : Nat) : Prop := bit (d.nat K.dbIrqPend) (n - 8) = decide ((d.mail n).toOwner ≠ [])
  (∀ (s : State) (h : HapHdr) (n : Nat) (v : Bytes), 8 ≤ n → n < 16 → v.length ≤ 64 →
    let key := (0x6110 + n) * 256 + 3
    let d := s.asWritten h key v
    let out (x : Reply) : Prop := exec (.mbSend h n v) s = .next (s.wrote h key v x)
    let good : Prop := 4 ≤ v.length ∧ fieldNat v 0 1 ≤ 60 ∧ v.length = 4 + fieldNat v 0 1
    s.writes h key v → d.study.mail.length = 16 → (¬ good → out (d.answer 0x1004)) ∧
    (good → 8 ≤ (d.mail n).toFirmware.length → d.nat (K.mbRefused n) < 2 ^ 32 - 1 → ∃ e : Device, out (e.answer 0x1009)
      ∧ e.nat (K.mbRefused n) = d.nat (K.mbRefused n) + 1 ∧ e.study = d.study ∧ ∀ k, k ≠ K.mbRefused n → e.val k = d.val k) ∧
    (good → (d.mail n).toFirmware.length < 8 → ∃ e : Device, out e.done ∧ (e.mail n).toOwner = (d.mail n).toOwner
      ∧ (e.mail n).toFirmware = (d.mail n).toFirmware
          ++ [byte (fieldNat v 0 1) :: byte (fieldNat v 1 1) :: (toBE 2 (d.mail n).seqIn ++ v.drop 4)]
      ∧ (e.mail n).seqIn = ((d.mail n).seqIn + 1) % 2 ^ 16 ∧ e.nat (K.mbLevelIn n) = (d.mail n).toFirmware.length + 1 ∧ pends e n
      ∧ (∀ m, m ≠ n → e.mail m = d.mail m))) ∧
  (∀ (s : State) (h : HapHdr) (n : Nat), 8 ≤ n → n < 16 →
    let r := hapReq h 1 ((0x6110 + n) * 256 + 4) []
    let d := s.asked r
    s.grants r → h.flags < 8 → d.study.mail.length = 16 → d.lost = [] →
    ((d.mail n).toOwner = [] → exec (.mbRecv h n) s = .next (s.answered r { status := some 0, pay := [], dev := d, after := id })) ∧
    (∀ b rest, (d.mail n).toOwner = b :: rest → b ≠ [] → b.length ≤ maxPayload (reqSrc r) h.xl ((s.dev.heard r).lock = 3) →
      ∃ e : Device, exec (.mbRecv h n) s = .next (s.answered r { status := some 0, pay := b, dev := e, after := id })
        ∧ (e.mail n).toOwner = rest ∧ (e.mail n).toFirmware = (d.mail n).toFirmware ∧ e.nat (K.mbLevelOut n) = rest.length ∧ pends e n
        ∧ ∀ m, m ≠ n → e.mail m = d.mail m)) ∧
  (∀ (s : State) (h : HapHdr) (m : Nat), m < 256 →
    let v : Bytes := [byte m]
    let d := s.asWritten h K.dbIrqMask v
    s.writes h K.dbIrqMask v → exec (.dbIrqMask h v) s = .next (s.wrote h K.dbIrqMask v (d.setNum K.dbIrqMask m).done)
      ∧ ((d.setNum K.dbIrqMask m).irqLow = true ↔ Nat.land (d.nat K.dbIrqPend) m ≠ 0)) ∧
  (∀ s : State, s.dev.study.mail.length = 16 →
    let m := s.dev.mail 8
    (s.dev.coreRuns 3 = false ∨ s.dev.asleep = true ∨ (s.dev.study.held = none ∧ m.toFirmware = []) → exec .mb8Service s = .next s) ∧
    (s.dev.coreRuns 3 = true → s.dev.asleep = false →
      (∀ b rest, s.dev.study.held = none → m.toFirmware = b :: rest →
        let kind := if fieldNat b 1 1 = 1 then 0x81 else 0xFF
        let pay := if fieldNat b 1 1 = 1 then b.drop 4 else field b 2 2
        ∃ t, exec .mb8Service s = .next t ∧ t.pending = s.pending ∧ t.dev.clock = s.dev.clock ∧ (t.dev.mail 8).toFirmware = rest
          ∧ (m.toOwner.length < 8 → (t.dev.mail 8).toOwner = m.toOwner ++ [message kind m.seqOut pay] ∧ t.dev.study.held = none ∧ pends t.dev 8)
          ∧ (8 ≤ m.toOwner.length → (t.dev.mail 8).toOwner = m.toOwner ∧ t.dev.study.held = some (byte kind :: pay))) ∧
      (∀ r, s.dev.study.held = some r → m.toOwner.length < 8 →
        ∃ t, exec .mb8Service s = .next t ∧ t.pending = s.pending ∧ t.dev.study.held = none ∧ (t.dev.mail 8).toFirmware = m.toFirmware
          ∧ (t.dev.mail 8).toOwner = m.toOwner ++ [message (fieldNat r 0 1) m.seqOut (r.drop 1)]) ∧
      (∀ r, s.dev.study.held = some r → 8 ≤ m.toOwner.length → exec .mb8Service s = .next s)))

/-- CORE_WATCHDOG_EXPIRY, CORE_RELOAD_COMPLETE, STUDY_FW_IMAGE, FW_COPY_COMPLETE, STUDY_NEXT_LOC. The code under which R17's loss and
return of a core are recorded is open (log entry 33). -/
def Obligations.CoresAndImagesRecover : Prop :=
  (∀ (s : State) (c : Nat), c < 4 → (s.dev.oct K.studyCoreState).length = 4 → (s.dev.oct K.studyWdtResets).length = 16 → s.dev.study.resets.length = 4 →
    let n := fieldNat (s.dev.oct K.studyWdtResets) (4 * c) 4
    let recent := (s.dev.study.resets.getD c []).filter (fun t => s.dev.clock.ticks < t + 60 * sTicks)
    (s.dev.coreRuns c = false ∨ s.dev.asleep = true → exec (.coreWatchdogExpiry c) s = .next s) ∧
    (s.dev.coreRuns c = true → s.dev.asleep = false → n < 2 ^ 32 - 1 →
      ∃ t, exec (.coreWatchdogExpiry c) s = .next t ∧ t.pending = s.pending ∧ t.dev.clock = s.dev.clock
        ∧ fieldNat (t.dev.oct K.studyWdtResets) (4 * c) 4 = n + 1
        ∧ fieldNat (t.dev.oct K.studyCoreState) c 1 = (if recent.length < 2 then 2 else 3)
        ∧ (∀ b, b < 4 → b ≠ c → fieldNat (t.dev.oct K.studyCoreState) b 1 = fieldNat (s.dev.oct K.studyCoreState) b 1)
        ∧ newReports s.dev t.dev = (0x0D01, [(c : Int), 1, (n : Int) + 1]) :: (coreEvent c, [(c : Int), 1]) ::
            (if recent.length < 2 then [] else [(0x0D01, [(c : Int), 2, (n : Int) + 1])])
        ∧ ∀ k, k ≠ K.studyCoreState → k ≠ K.studyWdtResets → t.dev.val k = s.dev.val k)) ∧
  (∀ (s : State) (c wait : Nat), c < 4 → (s.dev.oct K.studyCoreState).length = 4 →
    (fieldNat (s.dev.oct K.studyCoreState) c 1 ≠ 2 → exec (.coreReloadComplete c wait) s = .next s) ∧
    (fieldNat (s.dev.oct K.studyCoreState) c 1 = 2 → ∃ t, exec (.coreReloadComplete c wait) s = .next t ∧ t.pending = s.pending
      ∧ t.dev.clock = (s.dev.runTo (min (s.dev.clock.ticks + wait) ((s.dev.study.resets.getD c []).headD 0 + 50 * msTicks))).clock
      ∧ fieldNat (t.dev.oct K.studyCoreState) c 1 = (if s.dev.asleep = true then 1 else 0)
      ∧ newReports s.dev t.dev = [(coreEvent c, [(c : Int), 0])]
      ∧ ∀ k, k ≠ K.studyCoreState → t.dev.val k = s.dev.val k)) ∧
  (∀ (s : State) (h : HapHdr) (segno : Nat) (data : Bytes) (x : Xfer),
    let r := hapReq h 6 K.studyFwImage (toBE 4 segno ++ data)
    let d := s.asked r
    let v := x.buf ++ data
    let code := d.imageCheck v h.env.vendor
    s.grants r → d.lock = 3 → h.flags < 8 → h.length = 4 + data.length → segno < 2 ^ 32 → d.foyer.xfer = some x → x.writing = true →
    x.index = 0x6201 → x.sub = 0 → x.next = segno → v.length = x.total → 257 ≤ v.length → v.length ≤ 8388864 → d.nat K.studyStageState ≠ 2 →
    ∃ e : Device, exec (.studyFwImage h segno data) s = .next (s.answered r (e.answer (if code = 0 then 0 else if code ≤ 2 then 0x1005 else 0x100B)))
      ∧ e.foyer.xfer = none ∧ e.nat K.studyStageResult = code ∧ e.nat K.studyStageState = (if code = 0 then 2 else 0)
      ∧ e.study.images = d.study.images ∧ (code = 0 → e.study.staged = v)
      ∧ newReports d e = [(0x0D02, [((1 - d.nat K.studyActiveLoc : Nat) : Int), (code : Int), (fieldNat v 8 1 : Int)])]) ∧
  (∀ s : State, s.dev.study.images.length = 2 → s.dev.study.passed.length = 2 →
    (s.dev.nat K.studyStageState ≠ 2 ∨ s.dev.coreRuns 3 = false → exec .fwCopyComplete s = .next s) ∧
    (s.dev.nat K.studyStageState = 2 → s.dev.coreRuns 3 = true →
      let other := 1 - s.dev.nat K.studyActiveLoc
      ∃ t, exec .fwCopyComplete s = .next t ∧ t.pending = s.pending ∧ t.dev.clock = s.dev.clock
        ∧ t.dev.study.images = s.dev.study.images.set other s.dev.study.staged ∧ t.dev.study.passed.getD other false = true
        ∧ t.dev.nat K.studyStageState = 0 ∧ t.dev.oct K.studyFwImage = s.dev.study.staged)) ∧
  (∀ (s : State) (h : HapHdr) (loc : Nat), loc < 2 →
    let v : Bytes := [byte loc]
    let d := s.asWritten h K.studyNextLoc v
    let out (x : Reply) : Prop := exec (.studyNextLoc h v) s = .next (s.wrote h K.studyNextLoc v x)
    s.writes h K.studyNextLoc v → d.lock = 3 → (d.study.passed.getD loc false = false → out (d.answer 0x100A)) ∧
    (d.study.passed.getD loc false = true → ∃ e : Device, out e.done ∧ e.nat K.studyNextLoc = loc ∧ e.study.flag = loc
      ∧ newReports d e = [(0x0D04, [(loc : Int)])] ∧ ∀ k, k ≠ K.studyNextLoc → e.val k = d.val k))

/-- RECORD_FORM, FLASH_RECORD_WRITE, ATTIC_SNAP, ATTIC_CLEAR, ATTIC_CLEAR_COMPLETE. -/
def Obligations.RecordsAreFormedStoredAndCleared : Prop :=
  (∀ s : State, (s.dev.attic.reports = [] → exec .recordForm s = .next s) ∧
    (∀ r, s.dev.attic.nextReport = some r → s.dev.nat K.atticLost < 2 ^ 32 - 1 →
      let a := s.dev.attic
      ∃ t, exec .recordForm s = .next t ∧ t.pending = s.pending ∧ t.dev.clock = s.dev.clock
        ∧ (0xFFFFFFFE < a.next → t.dev.nat K.atticLost = s.dev.nat K.atticLost + 1 ∧ t.dev.attic = { a with reports := a.reports.erase r }) ∧
        (a.next ≤ 0xFFFFFFFE → s.dev.asleep = false → s.dev.nat K.atticFlashState ≠ 2 → 1024 ≤ a.pending.length →
          t.dev.nat K.atticLost = s.dev.nat K.atticLost + 1 ∧ t.dev.attic.next = a.next ∧ t.dev.attic.retention = a.retention
            ∧ t.dev.attic.full = a.full + 1) ∧
        (a.next ≤ 0xFFFFFFFE → s.dev.asleep = false → s.dev.nat K.atticFlashState ≠ 2 → a.pending.length < 1024 →
          ∃ head : Bytes, head.length = 60 ∧ field head 0 4 = toBE 4 a.next ∧ field head 4 2 = toBE 2 r.code ∧ field head 7 1 = [byte r.source]
            ∧ field head 8 12 = time96Bytes r.time.toNat ∧ field head 28 4 = toBE 4 (ofSigned 4 (r.p.getD 0 0))
            ∧ field head 48 4 = toBE 4 a.prevCrc
            ∧ t.dev.attic.pending = a.pending ++ [head ++ toBE 4 (crc32c head)]
            ∧ t.dev.attic.retention = (a.retention ++ [head ++ toBE 4 (crc32c head)]).drop (a.retention.length + 1 - 64)
            ∧ t.dev.attic.next = a.next + 1 ∧ t.dev.attic.prevCrc = crc32c head % 2 ^ 32 ∧ t.dev.attic.flash = a.flash
            ∧ t.dev.nat K.atticPending = a.pending.length + 1 ∧ t.dev.nat K.atticHead = a.next))) ∧
  (∀ (s : State) (outcome : Nat),
    (s.dev.attic.pending = [] ∨ s.dev.coreRuns 3 = false ∨ s.dev.asleep = true ∨ s.dev.nat K.atticFlashState = 2 →
      exec (.flashRecordWrite outcome) s = .next s) ∧
    (∀ r rest, s.dev.attic.pending = r :: rest → s.dev.coreRuns 3 = true → s.dev.asleep = false → s.dev.nat K.atticFlashState ≠ 2 →
      let a := s.dev.attic
      let begins := a.pos % 64 = 0
      let gone := ringSpan (a.pos / 64) (a.goodAfter (a.pos / 64))
      let left := if begins then a.flash.filter (fun x => !gone.contains (x.1 / 64)) else a.flash
      ∃ t, exec (.flashRecordWrite outcome) s = .next t ∧ t.pending = s.pending ∧ t.dev.clock = s.dev.clock
        ∧ (outcome = 0 → t.dev.attic.flash = left ++ [(a.pos, r)] ∧ t.dev.attic.pending = rest ∧ t.dev.attic.flashed = recSeq r + 1
            ∧ t.dev.attic.pos = (if a.pos % 64 = 63 then a.goodAfter (a.pos / 64) * 64 else a.pos + 1) ∧ t.dev.nat K.atticPending = rest.length
            ∧ newReports s.dev t.dev = (if a.full = 0 ∨ 1024 ≤ rest.length then [] else [(0x0E02, [1, (a.full : Int)])]))
        ∧ (outcome = 2 → a.bad.length < 128 → s.dev.nat K.atticFlashState = 1 → t.dev.attic.bad = a.pos / 64 :: a.bad ∧ t.dev.attic.pending = r :: rest
            ∧ t.dev.nat K.atticBadSectors = a.bad.length + 1 ∧ t.dev.attic.flash = left
            ∧ newReports s.dev t.dev = [(0x0E03, [((a.pos / 64 : Nat) : Int), 2, (a.bad.length : Int) + 1])])
        ∧ (outcome = 3 → t.dev.nat K.atticFlashState = 2 ∧ t.dev.attic.pending = [] ∧ t.dev.attic.retention = a.retention
            ∧ newReports s.dev t.dev = (0x0E04, [(s.dev.nat K.atticFlashState : Int), 2]) ::
                (0x0E02, [4, (recSeq r : Int), (recSeq ((r :: rest).getLast (List.cons_ne_nil r rest)) : Int)]) ::
                (if a.full = 0 then [] else [(0x0E02, [1, (a.full : Int)])])))) ∧
  (∀ (s : State) (h : HapHdr),
    let d := s.asWritten h K.atticSnap [1]
    s.writes h K.atticSnap [1] → ∃ e : Device, exec (.atticSnap h [1]) s = .next (s.wrote h K.atticSnap [1] e.done)
      ∧ e.num K.atticSnapHead = d.num K.atticHead ∧ e.num K.atticSnapTail = d.num K.atticTail ∧ e.nat K.atticSnapTime = d.mt16
      ∧ ∀ k, k ≠ K.atticSnapHead → k ≠ K.atticSnapTail → k ≠ K.atticSnapTime → e.val k = d.val k) ∧
  (∀ (s : State) (h : HapHdr) (v : Bytes), v.length = 116 →
    let d := s.asWritten h K.atticClear v
    let upTo := fieldNat v 0 4
    let digest := beNat (sha384 (ascii "LUABRY-ACLEAR-01" ++ sha384 (d.oct K.khDikPub) ++ toBE 4 upTo ++ d.oct K.atticClearNonce))
    let signed : Prop := field v 4 16 = d.oct K.atticClearNonce ∧
      ∃ x y, p384.decode (d.oct K.khOwnerPub) = some (x, y) ∧ p384.verify x y digest (fieldNat v 20 48) (fieldNat v 68 48) = true
    let inRange : Prop := d.nat K.atticTail ≤ upTo ∧ upTo ≤ d.nat K.atticHead
    let idle : Prop := d.attic.clearing = none ∧ d.nat K.atticFlashState ≠ 2 ∧ d.nat K.khEntropyState = 1
    let refuses (st : Nat) : Prop := ∃ e : Device, exec (.atticClear h v) s = .next (s.wrote h K.atticClear v (e.answer st))
      ∧ newReports d e = [(0x0E05, [(st : Int), (upTo : Int)])] ∧ e.attic.clearing = d.attic.clearing ∧ e.attic.flash = d.attic.flash
    s.writes h K.atticClear v → d.lock = 3 → (¬ signed → refuses 0x100B) ∧ (signed → ¬ inRange → refuses 0x1005) ∧
    (signed → inRange → ¬ idle → refuses 0x100A) ∧
    (signed → inRange → idle → ∃ (e : Device) (src : Nat), exec (.atticClear h v) s = .next (s.wrote h K.atticClear v e.done)
      ∧ e.nat K.atticClearState = 1 ∧ e.oct K.atticClear = v ∧ e.attic = { d.attic with clearing := some (upTo, false, src) })) ∧
  (∀ s : State, (s.dev.attic.clearing = none → exec .atticClearComplete s = .next s) ∧
    (∀ upTo cut src, s.dev.attic.clearing = some (upTo, cut, src) →
      let a := s.dev.attic
      let keep := fun (r : Bytes) => decide (upTo < recSeq r)
      ∃ t, exec .atticClearComplete s = .next t ∧ t.pending = s.pending ∧ t.dev.clock = s.dev.clock ∧ t.dev.nat K.atticClearState = 0
        ∧ t.dev.attic.clearing = none ∧ t.dev.attic.flash = a.flash.filter (fun x => keep x.2) ∧ t.dev.attic.pending = a.pending.filter keep
        ∧ t.dev.attic.retention = a.retention.filter keep ∧ t.dev.attic.next = a.next
        ∧ ∃ gone : Nat, newReports s.dev t.dev = (0x0E01, [(s.dev.nat K.atticTail : Int), (upTo : Int), (gone : Int), if cut then 1 else 0]) ::
            (if a.full = 0 ∨ 1024 ≤ (a.pending.filter keep).length then [] else [(0x0E02, [1, (a.full : Int)])])))

/-- LATENCY_TOL, IDLE_TIME_EXPIRY, POWER_ENTRY_COMPLETE, WAKE, WAKE_IN_PIN, CELLAR_ALARM, EXIT_COMPLETE (log entries 1 and 2). -/
def Obligations.PowerStatesFollowTheTolerance : Prop :=
  (∀ (s : State) (h : HapHdr) (n : Nat), n < 2 ^ 32 →
    let v := toBE 4 n
    let d := s.asWritten h K.latencyTol v
    s.writes h K.latencyTol v → ∃ f : Device → Device,
      exec (.latencyTol h v) s = .next (s.wrote h K.latencyTol v { status := some 0, pay := [], dev := d, after := f })
      ∧ ∀ x : Device, x.power.waking = none → x.power.entry = none → x.asleep = false →
        (f x).nat K.latencyTol = n
        ∧ (f x).nat K.fbTarget = (if n < 2 then 0 else if n < 150 then 1 else if n < 40000 then 2 else if n < 350000 then 3 else 4)
        ∧ ((f x).nat K.fbState = if n < 2 then 0 else 1) ∧ (f x).power = x.power ∧ (f x).clock = x.clock
        ∧ ∀ k, k ≠ K.latencyTol → k ≠ K.fbTarget → k ≠ K.fbState → (f x).val k = x.val k) ∧
  (∀ s : State,
    (s.dev.power.held ≠ 0 ∨ s.dev.asleep = true ∨ s.dev.power.entry ≠ none ∨ s.dev.power.waking ≠ none → exec .idleTimeExpiry s = .next s) ∧
    (s.dev.power.held = 0 → s.dev.asleep = false → s.dev.power.entry = none → s.dev.power.waking = none →
      let d := s.dev.runTo (s.dev.power.idleFrom + s.dev.nat K.fbIdleTime * msTicks)
      let busy : Prop := (∃ i, i < 16 ∧ d.slotState i ≠ 0) ∨ d.nat K.studyStageState ≠ 0 ∨ d.nat K.atticClearState = 1 ∨ d.nat K.hearthLock ≠ 1
        ∨ d.nat K.tdcCalState ≠ 2
      ∃ t, exec .idleTimeExpiry s = .next t ∧ t.pending = s.pending ∧ t.dev.clock.ticks = d.clock.ticks ∧ t.dev.clock.mt = d.clock.mt
        ∧ (busy ∨ d.nat K.fbTarget < 2 → t.dev.power.entry = none ∧ t.dev.nat K.fbState = min 1 (d.nat K.fbTarget)
            ∧ ∀ k, k ≠ K.fbState → t.dev.val k = s.dev.val k)
        ∧ (¬ busy → 2 ≤ d.nat K.fbTarget → d.nat K.fbTarget ≤ 4 →
            t.dev.power.entry = some (if d.power.vbatLow = true ∨ d.deepSource = false then min 3 (d.nat K.fbTarget) else d.nat K.fbTarget, 2)
            ∧ t.dev.nat K.fbState = s.dev.nat K.fbState ∧ t.dev.nat K.parAdmitStopped = 1))) ∧
  (∀ s : State,
    (s.dev.power.entry = none ∨ s.dev.flying ≠ [] ∨ s.dev.ledger.batches ≠ [] → exec .powerEntryComplete s = .next s) ∧
    (∀ target x, s.dev.power.entry = some (target, x) → 2 ≤ target → target ≤ 4 → s.dev.asleep = false → s.dev.flying = [] →
      s.dev.ledger.batches = [] → (target = 4 → x = 7 ∧ s.dev.attic.pending = [] ∧ s.dev.attic.reports = []) →
      ∃ t, exec .powerEntryComplete s = .next t ∧ t.pending = s.pending ∧ t.dev.nat K.fbState = target ∧ t.dev.power.entry = none
        ∧ t.dev.power.held = (if target = 4 then 4 else s.dev.power.held) ∧ (target < 4 → t.dev.clock = s.dev.clock)
        ∧ (target = 4 → t.dev.clock.mtRun = false ∧ ((∀ n, n < 16 → (s.dev.out n).active = false) → t.dev.clock.ticks = s.dev.clock.ticks))
        ∧ t.dev.cellar.alarmFrom = (if target = 2 then none else some t.dev.cellarCount)
        ∧ ∀ p, p < 44 → t.dev.link p = if s.dev.link p = 3 ∧ (target = 2 ∨ (target = 3 ∧ s.dev.wakeArmed p = true)) then 4 else 5)) ∧
  (∀ (s : State) (src port : Nat),
    let fires : Prop := ((src = 0 ∧ 4 ≤ port ∧ port < 48 ∧ s.dev.link (port - 4) = 4) ∨ (src = 1 ∧ s.dev.canHap port = true)
      ∨ (src = 4 ∧ s.dev.nat K.mtState = 5) ∨ (src = 5 ∧ s.dev.nat K.khTamper ≠ 0))
    let enabled := bit (s.dev.nat K.fbWakeMask) (if src = 4 then 2 else if src = 5 then 3 else src)
    (¬ fires ∨ enabled = false → exec (.wake src port) s = .next s) ∧
    (fires → enabled = true → s.dev.power.entry = none → (s.dev.nat K.fbState = 2 ∨ s.dev.nat K.fbState = 3) → s.dev.power.waking = none →
      s.dev.nat K.fbWakes < 2 ^ 32 - 1 →
      ∃ t, exec (.wake src port) s = .next t ∧ t.pending = s.pending ∧ t.dev.clock = s.dev.clock ∧ t.dev.nat K.fbWakeCause = 2 ^ src
        ∧ t.dev.nat K.fbWakePort = (if src < 2 then port else 0xFF) ∧ t.dev.nat K.fbWakes = s.dev.nat K.fbWakes + 1
        ∧ t.dev.nat K.fbState = s.dev.nat K.fbState ∧ t.dev.power.waking = some s.dev.clock.ticks
        ∧ t.dev.power.steps.map (·.kind) = s.dev.power.steps.map (·.kind)
            ++ (if s.dev.nat K.fbState = 2 then [3, 3] else [1, 2, 2, 2, 2, 3, 3])) ∧
    (fires → enabled = true → ∀ target x, s.dev.power.entry = some (target, x) → (target = 2 ∨ target = 3) →
      s.dev.nat K.fbEntryAborts < 2 ^ 32 - 1 →
      ∃ t, exec (.wake src port) s = .next t ∧ t.pending = s.pending ∧ t.dev.power.entry = none ∧ t.dev.nat K.fbState = 0
        ∧ t.dev.nat K.parAdmitStopped = 0 ∧ t.dev.nat K.fbEntryAborts = s.dev.nat K.fbEntryAborts + 1
        ∧ t.dev.power.idleFrom = s.dev.clock.ticks ∧ (0x0203, [(target : Int), (x : Int), 1]) ∈ newReports s.dev t.dev)) ∧
  (∀ (s : State) (pin : Nat) (level : Bool),
    (4 ≤ pin ∨ bit (s.dev.nat K.fbWakeInCfg) pin = false ∨ bit (s.dev.nat K.fbWakeInCfg) (4 + pin) ≠ level →
      exec (.wakeInPin pin level) s = .next s) ∧
    (pin < 4 → bit (s.dev.nat K.fbWakeInCfg) pin = true → bit (s.dev.nat K.fbWakeInCfg) (4 + pin) = level → s.dev.power.entry = none →
      s.dev.asleep = true → s.dev.power.waking = none →
      ∃ t, exec (.wakeInPin pin level) s = .next t ∧ t.pending = s.pending ∧ t.dev.clock = (s.dev.elapse (s.dev.ticksToCount (s.dev.cellarCount + 2))).clock
        ∧ t.dev.nat K.fbWakeCause = 4 ∧ t.dev.nat K.fbWakePort = 0xFF ∧ t.dev.power.waking = some t.dev.clock.ticks
        ∧ t.dev.power.held = (if s.dev.power.held = 4 then 5 else s.dev.power.held) ∧ t.dev.nat K.fbState = s.dev.nat K.fbState)) ∧
  (∀ s : State, (s.dev.cellar.alarmFrom = none ∨ s.dev.nat K.cellarWakeAfter = 0 → exec .cellarAlarm s = .next s) ∧
    (∀ n, s.dev.cellar.alarmFrom = some n → s.dev.nat K.cellarWakeAfter ≠ 0 → s.dev.power.entry = none →
      (s.dev.nat K.fbState = 3 ∨ s.dev.nat K.fbState = 4) → s.dev.power.waking = none →
      ∃ t, exec .cellarAlarm s = .next t ∧ t.pending = s.pending ∧ t.dev.nat K.fbWakeCause = 8 ∧ t.dev.nat K.fbWakePort = 0xFF
        ∧ t.dev.power.waking = some t.dev.clock.ticks ∧ t.dev.cellar.alarmFrom = none
        ∧ (0 < xtalTick → n + 32768 * s.dev.nat K.cellarWakeAfter ≤ t.dev.cellarCount))) ∧
  (∀ (s : State) (env : HapEnv),
    (s.dev.power.waking = none ∨ (∃ x ∈ s.dev.power.steps, x.exit = true) ∨ s.dev.power.held ≠ 0 → exec (.exitComplete env) s = .next s) ∧
    (∀ w, s.dev.power.waking = some w → (∀ x ∈ s.dev.power.steps, x.exit = false) → s.dev.power.held = 0 →
      (s.dev.nat K.fbState = 2 ∨ s.dev.nat K.fbState = 3) → s.dev.foyer.held = [] → (∀ p, p < 44 → (s.dev.port p).retained = none) →
      ∃ t, exec (.exitComplete env) s = .next t ∧ t.pending = s.pending ∧ t.dev.nat K.fbState = 0 ∧ t.dev.nat K.parAdmitStopped = 0
        ∧ t.dev.power.waking = none ∧ t.dev.power.idleFrom = t.dev.clock.ticks ∧ t.dev.foyer.hbLast = t.dev.clock.ticks
        ∧ (∀ start ramp, s.dev.power.lastStep = some (start, ramp) → t.dev.clock.ticks = max s.dev.clock.ticks ramp)
        ∧ ∀ p, p < 44 → t.dev.link p = if s.dev.link p = 4 then 3
            else if s.dev.link p = 5 then (if s.dev.nat (K.portPower p) = 1 then 1 else 0) else s.dev.link p))

/-- SEQUENCER_STEP_START, POWER_UP_GRANT_TIMEOUT, PORT_POWER_RECOMMIT, MARGIN_REPLAN, AGE_REPLAN_NOW, AVS_WRITE_RETRY, VBAT_LOW,
RAIL_FAULT. That the first re-plan measures 0 and the lowest of equal sites is the worst are the model's choices (NOTES.md). -/
def Obligations.StepsSuppliesAndMargins : Prop :=
  (∀ s : State, (s.dev.power.steps = [] → exec .sequencerStepStart s = .next s) ∧
    (∀ g rest, s.dev.commit.grants = g :: rest → s.dev.power.steps ≠ [] → g.since + msTicks < max s.dev.clock.ticks s.dev.stepStart →
      16 ≤ g.slot → s.dev.commit.reverts = [] → exec .sequencerStepStart s = exec .sequencerStepStart (s.on (·.grantTimeout))) ∧
    (∀ x, s.dev.power.nextStep = some x → (∀ g ∈ s.dev.commit.grants.head?, max s.dev.clock.ticks s.dev.stepStart ≤ g.since + msTicks) →
      (∀ y ∈ s.dev.power.steps, y.exit = true → x.exit = true ∧ x.kind ≤ y.kind) ∧
      ∃ t, exec .sequencerStepStart s = .next t ∧ t.pending = s.pending ∧ t.dev.power.steps = s.dev.power.steps.erase x
        ∧ t.dev.nat K.fbSeqQueue = (s.dev.power.steps.erase x).length ∧ t.dev.clock.ticks = max s.dev.clock.ticks s.dev.stepStart
        ∧ (∀ start ramp, s.dev.power.lastStep = some (start, ramp) →
            start + s.dev.nat K.fbStepGap * usTicks ≤ t.dev.clock.ticks ∧ ramp ≤ t.dev.clock.ticks)
        ∧ t.dev.num K.fbSeqMaxwait = max (s.dev.num K.fbSeqMaxwait) (((t.dev.clock.ticks - x.since) / usTicks : Nat) : Int)
        ∧ (∀ p, x.kind = 16 + p → p < 44 → s.dev.commit.grants = [] → s.dev.nat (K.portPower p) = 1 → s.dev.link p = 0 → t.dev.link p = 1))) ∧
  (∀ s : State, (s.dev.commit.grants = [] → exec .powerUpGrantTimeout s = .next s) ∧
    (∀ g rest, s.dev.commit.grants = g :: rest → 16 ≤ g.slot → s.dev.commit.reverts = [] →
      ∃ t, exec .powerUpGrantTimeout s = .next t ∧ t.pending = s.pending ∧ t.dev.clock = (s.dev.runTo (g.since + msTicks)).clock
        ∧ t.dev.commit = { s.dev.commit with grants := rest } ∧ t.dev.staged = s.dev.staged ∧ t.dev.nat K.commitLastStatus = 0x100A
        ∧ (newReports s.dev t.dev).head? = some (0x0F04, [((g.groups % 2 ^ 32 : Nat) : Int), (g.slot : Int), 0x100A])
        ∧ (∀ x ∈ t.dev.power.steps, x ∈ s.dev.power.steps ∧ ¬ (16 ≤ x.kind ∧ x.kind - 16 ∈ g.waiting))
        ∧ ((∀ c, g.imm = some c → c.opcode = 0) → ∀ k, k ≠ K.commitLastStatus → k ≠ K.fbSeqQueue → t.dev.val k = s.dev.val k))) ∧
  (∀ s : State,
    let left (d : Device) (p : Nat) : Prop := p < 44 ∧ d.powersUp p = true ∧ Store.find (K.portPower p) d.staged ≠ none
    ((s.dev.power.configDone = false ∨ s.dev.commit.grants ≠ [] ∨ s.dev.frozen 8 = true ∨ ¬ ∃ p, left s.dev p) →
      exec .portPowerRecommit s = .next s) ∧
    (s.dev.power.configDone = true → s.dev.commit.grants = [] → s.dev.frozen 8 = false → (∃ p, left s.dev p) →
      ((s.dev.elapse msTicks).commitRefused { groups := 2 ^ 8, mode := 0, slot := 0, rsv := 0, inst := 0, nsBad := false } [] = none →
        ∃ t g, exec .portPowerRecommit s = .next t ∧ t.pending = s.pending ∧ t.dev.clock.ticks = s.dev.clock.ticks + msTicks
          ∧ t.dev.commit.grants = [g] ∧ g.groups = 2 ^ 8 ∧ g.since = t.dev.clock.ticks
          ∧ ∀ p, left s.dev p → p ∈ g.waiting ∧ ∃ x ∈ t.dev.power.steps, x.kind = 16 + p))) ∧
  (∀ (d : Device) (m : List Int) (acked : Bool),
    let first := d.power.replans = []
    let deg := fun (i : Nat) => if first then (0 : Int) else m.getD i 0
    let t := d.replan m acked
    (∀ i, i < 32 → t.num (K.siteDegrade i) = deg i) ∧ t.nat K.ageLastReplan = d.nat K.cellarOpMinutes ∧ (d.clock.mtRun = false → t.clock = d.clock)
      ∧ t.nat K.ageWorstSite < 32
      ∧ ((∀ i, i < 32 → 0 < Config.siteLimit i) → ∀ i, i < 32 →
          deg i * Config.siteLimit (t.nat K.ageWorstSite) ≤ deg (t.nat K.ageWorstSite) * Config.siteLimit i)
      ∧ (d.nat K.ageAvsFloor ≤ 850 → d.nat K.ageAvsFloor ≤ t.nat K.ageAvsFloor ∧ t.nat K.ageAvsFloor ≤ 850
          ∧ ((∀ i, i < 32 → 0 < Config.siteLimit i) → ∀ i, 24 ≤ i → i < 32 → 0 ≤ deg i → t.nat K.ageAvsFloor < 850 →
              (650 + d.nat K.ageAvsMargin) * Config.siteLimit i + 150 * deg i ≤ t.nat K.ageAvsFloor * Config.siteLimit i))
      ∧ (∃ r ∈ newReports d t, r.1 = 0x0205 ∧ r.2.take 1 = [t.num K.ageAvsFloor] ∧ r.2.drop 3 = [t.num K.ageWorstSite])) ∧
  (∀ (s : State) (m : List Int) (acked : Bool),
    (s.dev.up = false ∨ s.dev.asleep = true ∨ s.dev.nat K.cellarOpMinutes < s.dev.nat K.ageLastReplan + s.dev.nat K.ageReplanDays * 1440 →
      exec (.marginReplan m acked) s = .next s) ∧
    (s.dev.up = true → s.dev.asleep = false → s.dev.nat K.ageLastReplan + s.dev.nat K.ageReplanDays * 1440 ≤ s.dev.nat K.cellarOpMinutes →
      exec (.marginReplan m acked) s = .next (s.on (·.replan m acked)))) ∧
  (∀ (s : State) (h : HapHdr), s.writes h K.ageReplanNow [1] →
    exec (.ageReplanNow h [1]) s = .next (s.wrote h K.ageReplanNow [1]
      ((s.asWritten h K.ageReplanNow [1]).replan h.env.degrade h.env.acked).done)) ∧
  (∀ s : State, (s.dev.power.avsRetry = none → ∀ acked, exec (.avsWriteRetry acked) s = .next s) ∧
    (∀ t0, s.dev.power.avsRetry = some t0 →
      let d := s.dev.runTo (t0 + msTicks)
      exec (.avsWriteRetry false) s = .next { s with dev := d.setPower (fun p => { p with avsRetry := some d.clock.ticks }) } ∧
      (650 ≤ s.dev.nat K.ageAvsNow → s.dev.nat K.ageAvsNow ≤ 850 → 650 ≤ s.dev.nat K.ageAvsFloor → s.dev.nat K.ageAvsFloor ≤ 850 →
        ∃ t, exec (.avsWriteRetry true) s = .next t ∧ t.pending = s.pending ∧ t.dev.nat K.ageAvsNow = s.dev.avsWanted
          ∧ t.dev.power.avsSet = s.dev.avsWanted ∧ t.dev.power.avsRetry = none
          ∧ t.dev.clock.ticks = d.clock.ticks
              + 100 * usTicks * (1 + ceilDiv ((s.dev.avsWanted : Int) - s.dev.nat K.ageAvsNow).natAbs 10)
          ∧ ∀ k, k ≠ K.ageAvsNow → t.dev.val k = s.dev.val k))) ∧
  (∀ (s : State) (mv : Nat), s.dev.power.entry = none →
    ∃ t, exec (.vbatLow mv) s = .next t ∧ t.pending = s.pending ∧ t.dev.clock = s.dev.clock ∧ t.dev.nat K.fbVbatMv = mv
      ∧ t.dev.power.vbatLow = (if mv < 2500 then true else if 2600 < mv then false else s.dev.power.vbatLow)
      ∧ newReports s.dev t.dev = (if mv < 2500 ∧ s.dev.power.vbatLow = false then [(0x0102, [1, (mv : Int)])]
          else if 2600 < mv ∧ s.dev.power.vbatLow = true then [(0x0102, [0, (mv : Int)])] else [])
      ∧ ∀ k, k ≠ K.fbVbatMv → t.dev.val k = s.dev.val k) ∧
  (∀ (s : State) (rail mv : Nat),
    let within : Prop := (s.dev.railRange rail).1 ≤ mv ∧ mv ≤ (s.dev.railRange rail).2
    (rail = 0 ∨ 7 < rail ∨ within → exec (.railFault rail mv) s = .next s) ∧
    (1 ≤ rail → rail ≤ 7 → ¬ within → s.dev.nat K.fbRailFaults < 2 ^ 32 - 1 →
      ∃ t, exec (.railFault rail mv) s = .next t ∧ t.pending = s.pending ∧ t.dev.clock = s.dev.clock
        ∧ t.dev.nat K.fbRailFaults = s.dev.nat K.fbRailFaults + 1 ∧ newReports s.dev t.dev = [(0x0207, [(rail : Int), (mv : Int)])]
        ∧ ∀ k, k ≠ K.fbRailFaults → t.dev.val k = s.dev.val k))

/-- R557: RESET_RELEASE, CONFIG_LOAD and WDT_STARTS_CLEAR; that the clearing lets time run until it is due is the model's choice
(log entry 2). -/
def Obligations.ThirdWatchdogStartIsSafe : Prop :=
  (∀ (s : State) (straps : Straps) (entropy puf : Bool) (found : StoreFaults) (shipped : List (Nat × Bytes)) (vendor : List Bool),
    1550 ≤ straps.vddio → 1 ≤ s.dev.power.held → s.dev.power.held ≤ 3 → s.dev.keyhole.cellarGen ≠ none → s.dev.num K.fbSafeStart = 0 →
    let now := (s.dev.elapse msTicks).cellarCount
    let recent := s.dev.cellar.starts.filter (fun n => now < n + 600 * 32768)
    ∃ t, exec (.resetRelease straps entropy puf found shipped vendor) s = .next t ∧ t.pending = s.pending ∧ t.dev.cellarCount = now
      ∧ (s.dev.power.cause = 3 → t.dev.cellar.starts = recent ++ [now] ∧ t.dev.nat K.fbWdtStarts = min 3 (recent.length + 1)
          ∧ (t.dev.num K.fbSafeStart = 1 ↔ 2 ≤ recent.length) ∧ (t.dev.num K.fbSafeStart = 0 ∨ t.dev.num K.fbSafeStart = 1))
      ∧ (s.dev.power.cause ≠ 3 → t.dev.cellar.starts = s.dev.cellar.starts ∧ t.dev.num K.fbSafeStart = 0
          ∧ t.dev.val K.fbWdtStarts = s.dev.val K.fbWdtStarts)) ∧
  (∀ (s : State) (stuck : List (Nat × Nat)), s.dev.power.held = 0 → s.dev.power.imageAt ≠ none → s.dev.clock.mtRun = true →
    s.dev.power.configDone = false → s.dev.num K.fbSafeStart = 1 →
    ∃ t, exec (.configLoad stuck) s = .next t ∧ t.pending = s.pending ∧ t.dev.clock = s.dev.clock ∧ t.dev.nat K.cfgState = 6
      ∧ t.dev.num K.fbSafeStart = 1 ∧ t.dev.staged = s.dev.staged ∧ t.dev.power.configDone = true
      ∧ (∀ k, groupOf k ≠ 0 → t.dev.val k = s.dev.val k)) ∧
  (∀ s : State, (s.dev.cellar.starts = [] → exec .wdtStartsClear s = .next s) ∧
    (∀ l n, s.dev.cellar.starts = l ++ [n] →
      ∃ t, exec .wdtStartsClear s = .next t ∧ t.pending = s.pending
        ∧ t.dev.clock = (s.dev.elapse (s.dev.ticksToCount (n + 600 * 32768))).clock
        ∧ (0 < xtalTick → n + 600 * 32768 ≤ t.dev.cellarCount) ∧ t.dev.cellar = { s.dev.cellar with starts := [] }
        ∧ t.dev.nat K.fbWdtStarts = 0 ∧ ∀ k, k ≠ K.fbWdtStarts → t.dev.val k = s.dev.val k))

/-- The commands of Start-Up, Reset and Absence, CELLAR_MINUTE, XTAL_OFFSET_MEASURE, CELLAR_SNAPSHOT, CRYSTAL_STOPPED. That TEST_EN counts
as cause 2, that the floor and FB_WDT_STARTS survive, and that commands let time run until they are due are the model's choices
(log entries 1 and 2, NOTES.md). -/
def Obligations.ResetsStartsCellarAndStore : Prop :=
  let kept (d t : Device) : Prop := t.clock.mtRun = false ∧ t.clock.ticks = d.clock.ticks ∧ t.lock = 0 ∧ t.staged = []
    ∧ t.attic.pending = [] ∧ t.attic.flash = d.attic.flash ∧ t.attic.next = d.attic.next ∧ t.models = d.models
    ∧ t.study.images = d.study.images ∧ t.study.cfg = d.study.cfg ∧ t.study.flag = d.study.flag ∧ t.keyhole.copies = d.keyhole.copies
    ∧ t.keyhole.provisioned = d.keyhole.provisioned ∧ t.keyhole.cosign = d.keyhole.cosign ∧ t.keyhole.rollback = d.keyhole.rollback
  let warm (d t : Device) (cause : Nat) : Prop := kept d t ∧ t.power.held = cause ∧ t.power.cause = cause ∧ t.clock.xtal = d.clock.xtal
    ∧ t.attic.retention = d.attic.retention ∧ t.keyhole.cellarGen = d.keyhole.cellarGen ∧ t.cellar = { d.cellar with alarmFrom := none }
    ∧ ∀ k, t.val k = if k ∈ keptKeys then d.val k else dictDefault k
  (∀ s : State, (s.dev.power.held = 0 ∨ 4 ≤ s.dev.power.held →
      let two := if s.dev.power.held = 0 ∨ s.dev.power.cause = 0 then 2 else min 2 s.dev.power.cause
      (∃ t, exec .rstNAssert s = .next t ∧ t.pending = s.pending ∧ warm s.dev t.dev two) ∧
      (∃ t, exec .testEnHigh s = .next t ∧ t.pending = s.pending ∧ warm s.dev t.dev two) ∧
      (∃ t, exec .overtempReset s = .next t ∧ t.pending = s.pending ∧ warm s.dev t.dev 1)) ∧
    (∀ torn, s.dev.power.held = 0 → (∃ t, exec (.supplyReset false torn) s = .next t ∧ t.pending = s.pending ∧ warm s.dev t.dev 1)) ∧
    (∀ torn, s.dev.power.held = 4 → exec (.supplyReset false torn) s = .next (s.on (fun d => d.setPower (fun p => { p with cause := 1 })))) ∧
    (∀ torn, ∃ t, exec (.supplyReset true torn) s = .next t ∧ t.pending = s.pending ∧ kept s.dev t.dev ∧ t.dev.cellar = {} ∧ t.dev.clock.xtal = 0
      ∧ t.dev.keyhole.cellarGen = none ∧ ∀ k, t.dev.val k = dictDefault k)) ∧
  (∀ s : State,
    let p := s.dev.power
    let delay := s.dev.nat K.fbDevWdtDelay * sTicks
    let resetAt (at_ : Nat) : Prop := ∃ t, exec .deviceWatchdog s = .next t ∧ t.pending = s.pending ∧ warm (s.dev.runTo at_) t.dev 3
    (p.held ≠ 0 ∨ s.dev.keyhole.recovery = true ∨ (s.dev.study.haltedAt = [none, none, none, none] ∧ (p.configDone = true ∨ p.imageAt = none)) →
      exec .deviceWatchdog s = .next s) ∧
    (p.held = 0 → s.dev.keyhole.recovery = false →
      (∀ c, p.configDone = true → s.dev.study.haltedAt = [none, none, none, some c] → resetAt (c + delay)) ∧
      (∀ a b, p.configDone = true → s.dev.study.haltedAt = [some a, some b, none, none] → resetAt (max a b + delay)) ∧
      (∀ i, p.configDone = false → p.imageAt = some i → s.dev.study.haltedAt = [none, none, none, none] → resetAt (i + 2 * sTicks)))) ∧
  (∀ (s : State) (straps : Straps) (entropy puf : Bool) (found : StoreFaults) (vendor : List Bool),
    (s.dev.power.held = 0 ∨ s.dev.power.held = 4 ∨ straps.vddio < 1550 → ∀ shipped,
      exec (.resetRelease straps entropy puf found shipped vendor) s = .next s) ∧
    (1550 ≤ straps.vddio → 1 ≤ s.dev.power.held → s.dev.power.held ≤ 3 → s.dev.keyhole.cellarGen ≠ none → s.dev.keyhole.provisioned = false →
      s.dev.keyhole.recovery = false → s.dev.power.imageAt = none → s.dev.study.flag < 2 → s.dev.attic.reports = [] →
      s.dev.nat K.cellarPowerCycles < 2 ^ 32 - 1 →
      ∃ t, exec (.resetRelease straps entropy puf found [] vendor) s = .next t ∧ t.pending = s.pending
        ∧ t.dev.clock = (s.dev.elapse msTicks).clock ∧ t.dev.power.held = 0 ∧ t.dev.nat K.fbLastReset = s.dev.power.cause
        ∧ t.dev.nat K.cellarPowerCycles = s.dev.nat K.cellarPowerCycles + 1 ∧ t.dev.nat K.hearthLoSel = straps.loSel % 4
        ∧ t.dev.nat K.khEntropyState = (if entropy then 1 else 2) ∧ t.dev.power.vddio33 = decide (2500 < straps.vddio)
        ∧ (∀ i m, t.dev.models.getD i none = some m → m.good = true → i ∉ found.models)
        ∧ (∀ i x, t.dev.study.cfg.getD i none = some x → x.good = true → i ∉ found.configs)
        ∧ (∃ r ∈ newReports s.dev t.dev, r = (0x0101, [(s.dev.power.cause : Int), (s.dev.nat K.cellarPowerCycles : Int) + 1]))
        ∧ (let f := if found.boot = true then 0 else s.dev.study.flag
          let passes (l : Nat) : Prop := t.dev.imageCheck (s.dev.study.images.getD l []) (vendor.getD l false) = 0
          (passes f → t.dev.nat K.studyActiveLoc = f ∧ t.dev.power.imageAt = some t.dev.clock.ticks ∧ t.dev.keyhole.recovery = false) ∧
          (¬ passes f → passes (1 - f) → t.dev.nat K.studyActiveLoc = 1 - f ∧ t.dev.power.imageAt = some t.dev.clock.ticks
            ∧ t.dev.keyhole.recovery = false) ∧
          (¬ passes f → ¬ passes (1 - f) → t.dev.power.imageAt = none ∧ t.dev.keyhole.recovery = true)))) ∧
  (∀ s : State,
    (s.dev.power.held ≠ 0 ∨ s.dev.nat K.hearthLock = 1 ∨ s.dev.nat K.fbState = 4 → exec .rootLock s = .next s) ∧
    (s.dev.power.held = 0 → s.dev.nat K.hearthLock = 0 → s.dev.nat K.fbState ≠ 4 → s.dev.nat K.mtState = 0 → 650 ≤ s.dev.nat K.ageAvsFloor →
      s.dev.nat K.ageAvsFloor ≤ 850 →
      let d := s.dev.elapse (2 * msTicks)
      ∃ t, exec .rootLock s = .next t ∧ t.pending = s.pending ∧ t.dev.nat K.hearthLock = 1 ∧ t.dev.clock.mtRun = true
        ∧ t.dev.nat K.tdcCalState = 1
        ∧ t.dev.clock.ticks = s.dev.clock.ticks + 2 * msTicks + 100 * usTicks * ceilDiv ((s.dev.avsWanted : Int) - 750).natAbs 10
        ∧ (d.seedValid = true → t.dev.nat K.mtState = 1 ∧ (d.nat K.cellarSnapTime + d.sinceSnap) * fracU ≤ t.dev.clock.mt
            ∧ t.dev.nat K.cellarSeedUnc = d.nat K.cellarSnapUnc + d.sinceSnap * d.nat K.cellarSeedPpm / (65536 * 1000000) + 2000)
        ∧ (d.seedValid = false → t.dev.nat K.mtState = 0 ∧ t.dev.nat K.cellarSeedUnc = 0xFFFFFFFF)) ∧
    (s.dev.power.held = 0 → 2 ≤ s.dev.nat K.hearthLock → s.dev.nat K.fbState ≠ 4 →
      ∃ t, exec .rootLock s = .next t ∧ t.pending = s.pending ∧ t.dev.nat K.hearthLock = 1
        ∧ t.dev.clock.ticks = s.dev.clock.ticks + 2 * msTicks)) ∧
  (∀ s : State, (s.dev.up = false → exec .cellarMinute s = .next s ∧ exec .xtalOffsetMeasure s = .next s) ∧
    (s.dev.up = true → s.dev.nat K.cellarOpMinutes < 2 ^ 32 - 1 →
      ∃ t, exec .cellarMinute s = .next t ∧ t.pending = s.pending ∧ t.dev.clock = (s.dev.runTo (s.dev.power.minuteAt + 60 * sTicks)).clock
        ∧ t.dev.nat K.cellarOpMinutes = s.dev.nat K.cellarOpMinutes + 1 ∧ t.dev.power.minuteAt = s.dev.power.minuteAt + 60 * sTicks
        ∧ ∀ k, k ≠ K.cellarOpMinutes → t.dev.val k = s.dev.val k) ∧
    (s.dev.up = true → s.dev.asleep = false → s.dev.nat K.hearthLock = 1 →
      ∃ t, exec .xtalOffsetMeasure s = .next t ∧ t.pending = s.pending
        ∧ t.dev.clock = (s.dev.runTo (s.dev.power.xtalAt + 100 * sTicks)).clock ∧ t.dev.num K.cellarXtalPpb = Config.xtalPpb
        ∧ ∀ k, k ≠ K.cellarXtalPpb → t.dev.val k = s.dev.val k) ∧
    (s.dev.clock.mtRun = false ∨ (s.dev.nat K.mtState ≠ 3 ∧ s.dev.nat K.mtState ≠ 4) → exec .cellarSnapshot s = .next s) ∧
    (s.dev.clock.mtRun = true → (s.dev.nat K.mtState = 3 ∨ s.dev.nat K.mtState = 4) →
      ∃ t, exec .cellarSnapshot s = .next t ∧ t.pending = s.pending ∧ t.dev.cellar.snapHeld = true ∧ t.dev.cellar.tamperSince = false
        ∧ t.dev.cellar.snapCount = t.dev.cellarCount ∧ t.dev.cellar.snapPpb = s.dev.num K.cellarXtalPpb
        ∧ t.dev.nat K.cellarSnapTime = t.dev.mt16
        ∧ (s.dev.nat K.mtState = 3 → t.dev.num K.cellarSnapUnc = s.dev.num K.thermLockThresh)
        ∧ ∀ k, k ≠ K.cellarSnapTime → k ≠ K.cellarSnapUnc → t.dev.val k = s.dev.val k) ∧
    (bit (s.dev.nat K.khTamper) 3 = true → exec .crystalStopped s = .next s) ∧
    (bit (s.dev.nat K.khTamper) 3 = false → s.dev.asleep = false → s.dev.power.entry = none →
      ∃ t, exec .crystalStopped s = .next t ∧ t.pending = s.pending ∧ t.dev.clock = s.dev.clock ∧ bit (t.dev.nat K.khTamper) 3 = true
        ∧ t.dev.cellar = { s.dev.cellar with tamperSince := true }
        ∧ (newReports s.dev t.dev).head? = some (0x0C0B, [t.dev.num K.khTamper, 3]))) ∧
  (∀ (s : State) (h : HapHdr),
    let d := s.asWritten h K.cfgSave [1]
    let e := s.asWritten h K.cfgErase [1]
    (s.writes h K.cfgSave [1] → d.lock = 3 →
      (d.study.saving ≠ none ∨ d.nat K.khLifecycle ≠ 1 → exec (.cfgSave h [1]) s = .next (s.wrote h K.cfgSave [1] (d.answer 0x100A))) ∧
      (d.study.saving = none → d.nat K.khLifecycle = 1 → exec (.cfgSave h [1]) s = .next (s.wrote h K.cfgSave [1]
        ((d.setNum K.cfgState 1).setStudy (fun x => { x with saving := some d.clock.ticks })).done))) ∧
    (s.writes h K.cfgErase [1] → e.lock = 3 → exec (.cfgErase h [1]) s = .next (s.wrote h K.cfgErase [1]
      (e.setStudy (fun x => { x with cfg := [none, none] })).done))) ∧
  (∀ (s : State) (wait : Nat), (s.dev.study.saving = none ∨ s.dev.coreRuns 3 = false → exec (.cfgSaveComplete wait) s = .next s) ∧
    (∀ t0, s.dev.study.saving = some t0 → s.dev.coreRuns 3 = true → s.dev.study.cfg.length = 2 →
      ∃ (t : State) (i : Nat) (c : CfgCopy), exec (.cfgSaveComplete wait) s = .next t ∧ t.pending = s.pending ∧ i < 2
        ∧ t.dev.clock = (s.dev.runTo (min (s.dev.clock.ticks + wait) (t0 + 2 * sTicks))).clock
        ∧ t.dev.study.saving = none ∧ t.dev.study.cfg = s.dev.study.cfg.set i (some c) ∧ c.good = true
        ∧ c.vals = s.dev.obj.filter (fun x => savedKey x.1) ∧ t.dev.nat K.cfgGen = c.gen ∧ t.dev.nat K.cfgState = 0
        ∧ (∀ x : CfgCopy, some x ∈ s.dev.study.cfg → x.gen < c.gen) ∧ t.dev.nat K.cfgSavedAt = t.dev.mt16
        ∧ (∀ x y : CfgCopy, s.dev.study.cfg = [some x, some y] → x.good = true → y.good = true → x.gen ≠ y.gen →
            (i = 0 ↔ x.gen < y.gen)))) ∧
  (∀ (s : State) (stuck : List (Nat × Nat)),
    let d := s.dev
    (s.dev.power.held ≠ 0 ∨ s.dev.power.imageAt = none ∨ s.dev.clock.mtRun = false ∨ s.dev.power.configDone = true →
      exec (.configLoad stuck) s = .next s) ∧
    (s.dev.power.held = 0 → s.dev.power.imageAt ≠ none → s.dev.clock.mtRun = true → s.dev.power.configDone = false →
      s.dev.num K.fbSafeStart ≠ 1 →
      (d.newestCfg = none → ∃ t, exec (.configLoad stuck) s = .next t ∧ t.pending = s.pending ∧ t.dev.clock = s.dev.clock
        ∧ t.dev.nat K.cfgState = (if d.study.cfg.all (·.isNone) then 3 else 4) ∧ t.dev.power.serving = true
        ∧ t.dev.power.configDone = true ∧ ∀ k, groupOf k ≠ 0 → t.dev.val k = s.dev.val k) ∧
      (∀ c, d.newestCfg = some c →
        ∃ t, exec (.configLoad stuck) s = .next t ∧ t.pending = s.pending ∧ t.dev.power.serving = true ∧ t.dev.power.configDone = true
          ∧ (t.dev.nat K.cfgState = 5 ∨ (t.dev.nat K.cfgState = 2 ∧ t.dev.nat K.cfgGen = c.gen))
          ∧ (t.dev.nat K.cfgState = 5 → ∀ k, groupOf k ≠ 0 → t.dev.val k = s.dev.val k))))
end

