-- ==== Sys2Proof/Laws/Bits.lean ====
section
/-! SUPPORT. Byte strings and the numbers they spell. -/

namespace Sys2Proof.Machine

@[simp] theorem length_toLE (n v : Nat) : (toLE n v).length = n := by
  induction n generalizing v with
  | zero => rfl
  | succ n ih => simp [toLE, ih]

@[simp] theorem length_toBE (n v : Nat) : (toBE n v).length = n := by simp [toBE]

@[simp] theorem toNat_byte (n : Nat) : (byte n).toNat = n % 256 := by simp [byte]

theorem beNat_append_one (bs : Bytes) (b : Byte) : beNat (bs ++ [b]) = beNat bs * 256 + b.toNat := by simp [beNat]

theorem beNat_reverse_toLE (n v : Nat) : beNat (toLE n v).reverse = v % 256 ^ n := by
  induction n generalizing v with
  | zero => simp [toLE, beNat, Nat.mod_one]
  | succ n ih =>
    simp only [toLE, List.reverse_cons, beNat_append_one, ih, toNat_byte]
    rw [Nat.pow_succ', Nat.mod_mul]
    ring

/-- R37: the n low bytes of v spell v modulo 256^n. -/
@[simp] theorem beNat_toBE (n v : Nat) : beNat (toBE n v) = v % 256 ^ n := beNat_reverse_toLE n v

@[simp] theorem length_ofNats (ns : List Nat) : (ofNats ns).length = ns.length := by simp [ofNats]

theorem padTo_of_length {n : Nat} {bs : Bytes} (h : bs.length = n) : padTo n bs = bs := by subst h; simp [padTo]

/-- A field that lies at the front. -/
theorem field_front (a b : Bytes) : field (a ++ b) 0 a.length = a := by simp [field]

/-- A field that lies behind a front. -/
theorem field_behind (a b : Bytes) (off len : Nat) : field (a ++ b) (a.length + off) len = field b off len := by
  simp [field]

end Sys2Proof.Machine
end

