-- ==== Sys2Proof/Laws/State.lean ====
section
/-! SUPPORT. The small lemmas of the shared operations on the part: one per field per update, and what an object reads after each
(none of them needs an invariant of the store). -/

namespace Sys2Proof.Machine

/-! ## Stores -/

@[simp] theorem Store.find_nil (k : Nat) : Store.find k [] = none := rfl

theorem Store.find_cons (k j : Nat) (v : Val) (t : Store) :
    Store.find k ((j, v) :: t) = if j = k then some v else Store.find k t := rfl

theorem Store.find_put (k j : Nat) (v : Val) (st : Store) :
    Store.find j (Store.put k v st) = if j = k then some v else Store.find j st := by
  induction st with
  | nil => simp only [Store.put, Store.find, eq_comm]
  | cons e t ih =>
    obtain ⟨i, w⟩ := e
    simp only [Store.put]
    split
    · simp only [Store.find, eq_comm]
    · split
      · subst i; simp only [Store.find, eq_comm]; split <;> rfl
      · simp only [Store.find, ih]
        by_cases hij : i = j
        · subst hij; simp [*]
        · simp [hij]

theorem Store.find_del (k j : Nat) (st : Store) :
    Store.find j (Store.del k st) = if j = k then none else Store.find j st := by
  induction st with
  | nil => simp [Store.del]
  | cons e t ih =>
    obtain ⟨i, w⟩ := e
    simp only [Store.del] at ih ⊢
    by_cases hik : i = k
    · subst hik; simp only [ne_eq, not_true_eq_false, decide_false, Bool.false_eq_true, not_false_eq_true,
        List.filter_cons_of_neg, ih, Store.find]
      by_cases hj : j = i
      · simp [hj]
      · simp [hj, Ne.symm hj]
    · rw [List.filter_cons_of_pos (by simpa using hik)]
      simp only [Store.find, ih]
      by_cases hij : i = j
      · subst hij; simp [hik]
      · simp [hij]

theorem Store.find_set (base v : Val) (k j : Nat) (st : Store) :
    (Store.find j (Store.set base k v st)).getD (if j = k then base else dictDefault j)
      = if j = k then v else (Store.find j st).getD (dictDefault j) := by
  unfold Store.set
  by_cases hv : v = base
  · simp only [hv, if_true, Store.find_del]
    by_cases hj : j = k <;> simp [hj]
  · simp only [hv, if_false, Store.find_put]
    by_cases hj : j = k <;> simp [hj]

/-! ## What an object reads -/

/-- Read after write of a live value. -/
theorem Device.val_setVal (d : Device) (k j : Nat) (v : Val) : (d.setVal k v).val j = if j = k then v else d.val j := by
  have h := Store.find_set (dictDefault k) v k j d.obj
  by_cases hj : j = k
  · subst hj; simpa [Device.val, Device.setVal] using h
  · simpa [Device.val, Device.setVal, hj] using h

@[simp] theorem Device.val_setVal_self (d : Device) (k : Nat) (v : Val) : (d.setVal k v).val k = v := by simp [Device.val_setVal]

theorem Device.val_setVal_ne (d : Device) {k j : Nat} (v : Val) (h : j ≠ k) : (d.setVal k v).val j = d.val j := by
  simp [Device.val_setVal, h]

theorem Device.num_setNum (d : Device) (k j : Nat) (v : Int) : (d.setNum k v).num j = if j = k then v else d.num j := by
  simp only [Device.num, Device.setNum, Device.val_setVal]; split <;> rfl

@[simp] theorem Device.num_setNum_self (d : Device) (k : Nat) (v : Int) : (d.setNum k v).num k = v := by simp [Device.num_setNum]

theorem Device.nat_setNum (d : Device) (k j : Nat) (v : Int) : (d.setNum k v).nat j = if j = k then v.toNat else d.nat j := by
  simp only [Device.nat, Device.num_setNum]; split <;> rfl

@[simp] theorem Device.nat_setNum_self (d : Device) (k : Nat) (v : Int) : (d.setNum k v).nat k = v.toNat := by simp [Device.nat_setNum]

theorem Device.oct_setNum (d : Device) (k j : Nat) (v : Int) : (d.setNum k v).oct j = if j = k then [] else d.oct j := by
  simp only [Device.oct, Device.setNum, Device.val_setVal]; split <;> rfl

theorem Device.num_setOct (d : Device) (k j : Nat) (v : Bytes) : (d.setOct k v).num j = if j = k then 0 else d.num j := by
  simp only [Device.num, Device.setOct, Device.val_setVal]; split <;> rfl

theorem Device.nat_setOct (d : Device) (k j : Nat) (v : Bytes) : (d.setOct k v).nat j = if j = k then 0 else d.nat j := by
  simp only [Device.nat, Device.num_setOct]; split <;> rfl

theorem Device.oct_setOct (d : Device) (k j : Nat) (v : Bytes) : (d.setOct k v).oct j = if j = k then v else d.oct j := by
  simp only [Device.oct, Device.setOct, Device.val_setVal]; split <;> rfl

@[simp] theorem Device.oct_setOct_self (d : Device) (k : Nat) (v : Bytes) : (d.setOct k v).oct k = v := by simp [Device.oct_setOct]

/-- A counter that has room counts up by n. -/
theorem Device.nat_bumpBy (d : Device) (w k n : Nat) (h : d.nat k + n < 256 ^ w) : (d.bumpBy w k n).nat k = d.nat k + n := by
  simp only [Device.bumpBy, h, if_true, Device.nat_setNum_self]; omega

theorem Device.nat_bumpBy_ne (d : Device) (w n : Nat) {k j : Nat} (h : j ≠ k) : (d.bumpBy w k n).nat j = d.nat j := by
  simp [Device.bumpBy, Device.nat_setNum, h]

theorem Device.num_bumpBy_ne (d : Device) (w n : Nat) {k j : Nat} (h : j ≠ k) : (d.bumpBy w k n).num j = d.num j := by
  simp [Device.bumpBy, Device.num_setNum, h]

/-- A staged value reads as it was staged. -/
theorem Device.stagedVal_setStaged (d : Device) (k : Nat) (v : Val) : (d.setStaged k v).stagedVal k = v := by
  unfold Device.stagedVal Device.setStaged Store.set
  by_cases hv : v = d.val k
  · simp only [hv, if_true, Store.find_del]; rfl
  · simp only [hv, if_false, Store.find_put]; rfl

/-- Staging one object leaves the staged value of every other. -/
theorem Device.stagedVal_setStaged_ne (d : Device) {k j : Nat} (v : Val) (h : j ≠ k) : (d.setStaged k v).stagedVal j = d.stagedVal j := by
  unfold Device.stagedVal Device.setStaged Store.set
  by_cases hv : v = d.val k
  · simp only [hv, if_true, Store.find_del, h, if_false]; rfl
  · simp only [hv, if_false, Store.find_put, h]; rfl

/-! ## Frames of the shared operations -/

@[simp] theorem Device.setVal_staged (d : Device) (k : Nat) (v : Val) : (d.setVal k v).staged = d.staged := (rfl)
@[simp] theorem Device.setVal_draws (d : Device) (k : Nat) (v : Val) : (d.setVal k v).draws = d.draws := (rfl)
@[simp] theorem Device.setVal_clock (d : Device) (k : Nat) (v : Val) : (d.setVal k v).clock = d.clock := (rfl)
@[simp] theorem Device.setVal_foyer (d : Device) (k : Nat) (v : Val) : (d.setVal k v).foyer = d.foyer := (rfl)
@[simp] theorem Device.setVal_commit (d : Device) (k : Nat) (v : Val) : (d.setVal k v).commit = d.commit := (rfl)
@[simp] theorem Device.setVal_attic (d : Device) (k : Nat) (v : Val) : (d.setVal k v).attic = d.attic := (rfl)
@[simp] theorem Device.setVal_cellar (d : Device) (k : Nat) (v : Val) : (d.setVal k v).cellar = d.cellar := (rfl)
@[simp] theorem Device.setVal_therm (d : Device) (k : Nat) (v : Val) : (d.setVal k v).therm = d.therm := (rfl)
@[simp] theorem Device.setVal_hold (d : Device) (k : Nat) (v : Val) : (d.setVal k v).hold = d.hold := (rfl)
@[simp] theorem Device.setVal_tdc (d : Device) (k : Nat) (v : Val) : (d.setVal k v).tdc = d.tdc := (rfl)
@[simp] theorem Device.setVal_sky (d : Device) (k : Nat) (v : Val) : (d.setVal k v).sky = d.sky := (rfl)
@[simp] theorem Device.setVal_ports (d : Device) (k : Nat) (v : Val) : (d.setVal k v).ports = d.ports := (rfl)
@[simp] theorem Device.setVal_hall (d : Device) (k : Nat) (v : Val) : (d.setVal k v).hall = d.hall := (rfl)
@[simp] theorem Device.setVal_parl (d : Device) (k : Nat) (v : Val) : (d.setVal k v).parl = d.parl := (rfl)
@[simp] theorem Device.setVal_ptp (d : Device) (k : Nat) (v : Val) : (d.setVal k v).ptp = d.ptp := (rfl)
@[simp] theorem Device.setVal_ledger (d : Device) (k : Nat) (v : Val) : (d.setVal k v).ledger = d.ledger := (rfl)
@[simp] theorem Device.setVal_strong (d : Device) (k : Nat) (v : Val) : (d.setVal k v).strong = d.strong := (rfl)
@[simp] theorem Device.setVal_keyhole (d : Device) (k : Nat) (v : Val) : (d.setVal k v).keyhole = d.keyhole := (rfl)
@[simp] theorem Device.setVal_study (d : Device) (k : Nat) (v : Val) : (d.setVal k v).study = d.study := (rfl)
@[simp] theorem Device.setVal_power (d : Device) (k : Nat) (v : Val) : (d.setVal k v).power = d.power := (rfl)
@[simp] theorem Device.setVal_models (d : Device) (k : Nat) (v : Val) : (d.setVal k v).models = d.models := (rfl)
@[simp] theorem Device.setVal_outs (d : Device) (k : Nat) (v : Val) : (d.setVal k v).outs = d.outs := (rfl)
@[simp] theorem Device.setVal_outbox (d : Device) (k : Nat) (v : Val) : (d.setVal k v).outbox = d.outbox := (rfl)

@[simp] theorem Device.setNum_staged (d : Device) (k : Nat) (v : Int) : (d.setNum k v).staged = d.staged := (rfl)
@[simp] theorem Device.setNum_draws (d : Device) (k : Nat) (v : Int) : (d.setNum k v).draws = d.draws := (rfl)
@[simp] theorem Device.setNum_clock (d : Device) (k : Nat) (v : Int) : (d.setNum k v).clock = d.clock := (rfl)
@[simp] theorem Device.setNum_foyer (d : Device) (k : Nat) (v : Int) : (d.setNum k v).foyer = d.foyer := (rfl)
@[simp] theorem Device.setNum_commit (d : Device) (k : Nat) (v : Int) : (d.setNum k v).commit = d.commit := (rfl)
@[simp] theorem Device.setNum_attic (d : Device) (k : Nat) (v : Int) : (d.setNum k v).attic = d.attic := (rfl)
@[simp] theorem Device.setNum_cellar (d : Device) (k : Nat) (v : Int) : (d.setNum k v).cellar = d.cellar := (rfl)
@[simp] theorem Device.setNum_therm (d : Device) (k : Nat) (v : Int) : (d.setNum k v).therm = d.therm := (rfl)
@[simp] theorem Device.setNum_hold (d : Device) (k : Nat) (v : Int) : (d.setNum k v).hold = d.hold := (rfl)
@[simp] theorem Device.setNum_tdc (d : Device) (k : Nat) (v : Int) : (d.setNum k v).tdc = d.tdc := (rfl)
@[simp] theorem Device.setNum_sky (d : Device) (k : Nat) (v : Int) : (d.setNum k v).sky = d.sky := (rfl)
@[simp] theorem Device.setNum_ports (d : Device) (k : Nat) (v : Int) : (d.setNum k v).ports = d.ports := (rfl)
@[simp] theorem Device.setNum_hall (d : Device) (k : Nat) (v : Int) : (d.setNum k v).hall = d.hall := (rfl)
@[simp] theorem Device.setNum_parl (d : Device) (k : Nat) (v : Int) : (d.setNum k v).parl = d.parl := (rfl)
@[simp] theorem Device.setNum_ptp (d : Device) (k : Nat) (v : Int) : (d.setNum k v).ptp = d.ptp := (rfl)
@[simp] theorem Device.setNum_ledger (d : Device) (k : Nat) (v : Int) : (d.setNum k v).ledger = d.ledger := (rfl)
@[simp] theorem Device.setNum_strong (d : Device) (k : Nat) (v : Int) : (d.setNum k v).strong = d.strong := (rfl)
@[simp] theorem Device.setNum_keyhole (d : Device) (k : Nat) (v : Int) : (d.setNum k v).keyhole = d.keyhole := (rfl)
@[simp] theorem Device.setNum_study (d : Device) (k : Nat) (v : Int) : (d.setNum k v).study = d.study := (rfl)
@[simp] theorem Device.setNum_power (d : Device) (k : Nat) (v : Int) : (d.setNum k v).power = d.power := (rfl)
@[simp] theorem Device.setNum_models (d : Device) (k : Nat) (v : Int) : (d.setNum k v).models = d.models := (rfl)
@[simp] theorem Device.setNum_outs (d : Device) (k : Nat) (v : Int) : (d.setNum k v).outs = d.outs := (rfl)
@[simp] theorem Device.setNum_outbox (d : Device) (k : Nat) (v : Int) : (d.setNum k v).outbox = d.outbox := (rfl)

@[simp] theorem Device.setOct_staged (d : Device) (k : Nat) (v : Bytes) : (d.setOct k v).staged = d.staged := (rfl)
@[simp] theorem Device.setOct_draws (d : Device) (k : Nat) (v : Bytes) : (d.setOct k v).draws = d.draws := (rfl)
@[simp] theorem Device.setOct_clock (d : Device) (k : Nat) (v : Bytes) : (d.setOct k v).clock = d.clock := (rfl)
@[simp] theorem Device.setOct_foyer (d : Device) (k : Nat) (v : Bytes) : (d.setOct k v).foyer = d.foyer := (rfl)
@[simp] theorem Device.setOct_commit (d : Device) (k : Nat) (v : Bytes) : (d.setOct k v).commit = d.commit := (rfl)
@[simp] theorem Device.setOct_attic (d : Device) (k : Nat) (v : Bytes) : (d.setOct k v).attic = d.attic := (rfl)
@[simp] theorem Device.setOct_cellar (d : Device) (k : Nat) (v : Bytes) : (d.setOct k v).cellar = d.cellar := (rfl)
@[simp] theorem Device.setOct_therm (d : Device) (k : Nat) (v : Bytes) : (d.setOct k v).therm = d.therm := (rfl)
@[simp] theorem Device.setOct_hold (d : Device) (k : Nat) (v : Bytes) : (d.setOct k v).hold = d.hold := (rfl)
@[simp] theorem Device.setOct_tdc (d : Device) (k : Nat) (v : Bytes) : (d.setOct k v).tdc = d.tdc := (rfl)
@[simp] theorem Device.setOct_sky (d : Device) (k : Nat) (v : Bytes) : (d.setOct k v).sky = d.sky := (rfl)
@[simp] theorem Device.setOct_ports (d : Device) (k : Nat) (v : Bytes) : (d.setOct k v).ports = d.ports := (rfl)
@[simp] theorem Device.setOct_hall (d : Device) (k : Nat) (v : Bytes) : (d.setOct k v).hall = d.hall := (rfl)
@[simp] theorem Device.setOct_parl (d : Device) (k : Nat) (v : Bytes) : (d.setOct k v).parl = d.parl := (rfl)
@[simp] theorem Device.setOct_ptp (d : Device) (k : Nat) (v : Bytes) : (d.setOct k v).ptp = d.ptp := (rfl)
@[simp] theorem Device.setOct_ledger (d : Device) (k : Nat) (v : Bytes) : (d.setOct k v).ledger = d.ledger := (rfl)
@[simp] theorem Device.setOct_strong (d : Device) (k : Nat) (v : Bytes) : (d.setOct k v).strong = d.strong := (rfl)
@[simp] theorem Device.setOct_keyhole (d : Device) (k : Nat) (v : Bytes) : (d.setOct k v).keyhole = d.keyhole := (rfl)
@[simp] theorem Device.setOct_study (d : Device) (k : Nat) (v : Bytes) : (d.setOct k v).study = d.study := (rfl)
@[simp] theorem Device.setOct_power (d : Device) (k : Nat) (v : Bytes) : (d.setOct k v).power = d.power := (rfl)
@[simp] theorem Device.setOct_models (d : Device) (k : Nat) (v : Bytes) : (d.setOct k v).models = d.models := (rfl)
@[simp] theorem Device.setOct_outs (d : Device) (k : Nat) (v : Bytes) : (d.setOct k v).outs = d.outs := (rfl)
@[simp] theorem Device.setOct_outbox (d : Device) (k : Nat) (v : Bytes) : (d.setOct k v).outbox = d.outbox := (rfl)

@[simp] theorem Device.bumpBy_staged (d : Device) (w k n : Nat) : (d.bumpBy w k n).staged = d.staged := (rfl)
@[simp] theorem Device.bumpBy_draws (d : Device) (w k n : Nat) : (d.bumpBy w k n).draws = d.draws := (rfl)
@[simp] theorem Device.bumpBy_clock (d : Device) (w k n : Nat) : (d.bumpBy w k n).clock = d.clock := (rfl)
@[simp] theorem Device.bumpBy_foyer (d : Device) (w k n : Nat) : (d.bumpBy w k n).foyer = d.foyer := (rfl)
@[simp] theorem Device.bumpBy_commit (d : Device) (w k n : Nat) : (d.bumpBy w k n).commit = d.commit := (rfl)
@[simp] theorem Device.bumpBy_attic (d : Device) (w k n : Nat) : (d.bumpBy w k n).attic = d.attic := (rfl)
@[simp] theorem Device.bumpBy_cellar (d : Device) (w k n : Nat) : (d.bumpBy w k n).cellar = d.cellar := (rfl)
@[simp] theorem Device.bumpBy_therm (d : Device) (w k n : Nat) : (d.bumpBy w k n).therm = d.therm := (rfl)
@[simp] theorem Device.bumpBy_hold (d : Device) (w k n : Nat) : (d.bumpBy w k n).hold = d.hold := (rfl)
@[simp] theorem Device.bumpBy_tdc (d : Device) (w k n : Nat) : (d.bumpBy w k n).tdc = d.tdc := (rfl)
@[simp] theorem Device.bumpBy_sky (d : Device) (w k n : Nat) : (d.bumpBy w k n).sky = d.sky := (rfl)
@[simp] theorem Device.bumpBy_ports (d : Device) (w k n : Nat) : (d.bumpBy w k n).ports = d.ports := (rfl)
@[simp] theorem Device.bumpBy_hall (d : Device) (w k n : Nat) : (d.bumpBy w k n).hall = d.hall := (rfl)
@[simp] theorem Device.bumpBy_parl (d : Device) (w k n : Nat) : (d.bumpBy w k n).parl = d.parl := (rfl)
@[simp] theorem Device.bumpBy_ptp (d : Device) (w k n : Nat) : (d.bumpBy w k n).ptp = d.ptp := (rfl)
@[simp] theorem Device.bumpBy_ledger (d : Device) (w k n : Nat) : (d.bumpBy w k n).ledger = d.ledger := (rfl)
@[simp] theorem Device.bumpBy_strong (d : Device) (w k n : Nat) : (d.bumpBy w k n).strong = d.strong := (rfl)
@[simp] theorem Device.bumpBy_keyhole (d : Device) (w k n : Nat) : (d.bumpBy w k n).keyhole = d.keyhole := (rfl)
@[simp] theorem Device.bumpBy_study (d : Device) (w k n : Nat) : (d.bumpBy w k n).study = d.study := (rfl)
@[simp] theorem Device.bumpBy_power (d : Device) (w k n : Nat) : (d.bumpBy w k n).power = d.power := (rfl)
@[simp] theorem Device.bumpBy_models (d : Device) (w k n : Nat) : (d.bumpBy w k n).models = d.models := (rfl)
@[simp] theorem Device.bumpBy_outs (d : Device) (w k n : Nat) : (d.bumpBy w k n).outs = d.outs := (rfl)
@[simp] theorem Device.bumpBy_outbox (d : Device) (w k n : Nat) : (d.bumpBy w k n).outbox = d.outbox := (rfl)

@[simp] theorem Device.bump_staged (d : Device) (k : Nat) : (d.bump k).staged = d.staged := (rfl)
@[simp] theorem Device.bump_draws (d : Device) (k : Nat) : (d.bump k).draws = d.draws := (rfl)
@[simp] theorem Device.bump_clock (d : Device) (k : Nat) : (d.bump k).clock = d.clock := (rfl)
@[simp] theorem Device.bump_foyer (d : Device) (k : Nat) : (d.bump k).foyer = d.foyer := (rfl)
@[simp] theorem Device.bump_commit (d : Device) (k : Nat) : (d.bump k).commit = d.commit := (rfl)
@[simp] theorem Device.bump_attic (d : Device) (k : Nat) : (d.bump k).attic = d.attic := (rfl)
@[simp] theorem Device.bump_cellar (d : Device) (k : Nat) : (d.bump k).cellar = d.cellar := (rfl)
@[simp] theorem Device.bump_therm (d : Device) (k : Nat) : (d.bump k).therm = d.therm := (rfl)
@[simp] theorem Device.bump_hold (d : Device) (k : Nat) : (d.bump k).hold = d.hold := (rfl)
@[simp] theorem Device.bump_tdc (d : Device) (k : Nat) : (d.bump k).tdc = d.tdc := (rfl)
@[simp] theorem Device.bump_sky (d : Device) (k : Nat) : (d.bump k).sky = d.sky := (rfl)
@[simp] theorem Device.bump_ports (d : Device) (k : Nat) : (d.bump k).ports = d.ports := (rfl)
@[simp] theorem Device.bump_hall (d : Device) (k : Nat) : (d.bump k).hall = d.hall := (rfl)
@[simp] theorem Device.bump_parl (d : Device) (k : Nat) : (d.bump k).parl = d.parl := (rfl)
@[simp] theorem Device.bump_ptp (d : Device) (k : Nat) : (d.bump k).ptp = d.ptp := (rfl)
@[simp] theorem Device.bump_ledger (d : Device) (k : Nat) : (d.bump k).ledger = d.ledger := (rfl)
@[simp] theorem Device.bump_strong (d : Device) (k : Nat) : (d.bump k).strong = d.strong := (rfl)
@[simp] theorem Device.bump_keyhole (d : Device) (k : Nat) : (d.bump k).keyhole = d.keyhole := (rfl)
@[simp] theorem Device.bump_study (d : Device) (k : Nat) : (d.bump k).study = d.study := (rfl)
@[simp] theorem Device.bump_power (d : Device) (k : Nat) : (d.bump k).power = d.power := (rfl)
@[simp] theorem Device.bump_models (d : Device) (k : Nat) : (d.bump k).models = d.models := (rfl)
@[simp] theorem Device.bump_outs (d : Device) (k : Nat) : (d.bump k).outs = d.outs := (rfl)
@[simp] theorem Device.bump_outbox (d : Device) (k : Nat) : (d.bump k).outbox = d.outbox := (rfl)

@[simp] theorem Device.bump64_staged (d : Device) (k : Nat) : (d.bump64 k).staged = d.staged := (rfl)
@[simp] theorem Device.bump64_draws (d : Device) (k : Nat) : (d.bump64 k).draws = d.draws := (rfl)
@[simp] theorem Device.bump64_clock (d : Device) (k : Nat) : (d.bump64 k).clock = d.clock := (rfl)
@[simp] theorem Device.bump64_foyer (d : Device) (k : Nat) : (d.bump64 k).foyer = d.foyer := (rfl)
@[simp] theorem Device.bump64_commit (d : Device) (k : Nat) : (d.bump64 k).commit = d.commit := (rfl)
@[simp] theorem Device.bump64_attic (d : Device) (k : Nat) : (d.bump64 k).attic = d.attic := (rfl)
@[simp] theorem Device.bump64_cellar (d : Device) (k : Nat) : (d.bump64 k).cellar = d.cellar := (rfl)
@[simp] theorem Device.bump64_therm (d : Device) (k : Nat) : (d.bump64 k).therm = d.therm := (rfl)
@[simp] theorem Device.bump64_hold (d : Device) (k : Nat) : (d.bump64 k).hold = d.hold := (rfl)
@[simp] theorem Device.bump64_tdc (d : Device) (k : Nat) : (d.bump64 k).tdc = d.tdc := (rfl)
@[simp] theorem Device.bump64_sky (d : Device) (k : Nat) : (d.bump64 k).sky = d.sky := (rfl)
@[simp] theorem Device.bump64_ports (d : Device) (k : Nat) : (d.bump64 k).ports = d.ports := (rfl)
@[simp] theorem Device.bump64_hall (d : Device) (k : Nat) : (d.bump64 k).hall = d.hall := (rfl)
@[simp] theorem Device.bump64_parl (d : Device) (k : Nat) : (d.bump64 k).parl = d.parl := (rfl)
@[simp] theorem Device.bump64_ptp (d : Device) (k : Nat) : (d.bump64 k).ptp = d.ptp := (rfl)
@[simp] theorem Device.bump64_ledger (d : Device) (k : Nat) : (d.bump64 k).ledger = d.ledger := (rfl)
@[simp] theorem Device.bump64_strong (d : Device) (k : Nat) : (d.bump64 k).strong = d.strong := (rfl)
@[simp] theorem Device.bump64_keyhole (d : Device) (k : Nat) : (d.bump64 k).keyhole = d.keyhole := (rfl)
@[simp] theorem Device.bump64_study (d : Device) (k : Nat) : (d.bump64 k).study = d.study := (rfl)
@[simp] theorem Device.bump64_power (d : Device) (k : Nat) : (d.bump64 k).power = d.power := (rfl)
@[simp] theorem Device.bump64_models (d : Device) (k : Nat) : (d.bump64 k).models = d.models := (rfl)
@[simp] theorem Device.bump64_outs (d : Device) (k : Nat) : (d.bump64 k).outs = d.outs := (rfl)
@[simp] theorem Device.bump64_outbox (d : Device) (k : Nat) : (d.bump64 k).outbox = d.outbox := (rfl)

@[simp] theorem Device.setStaged_obj (d : Device) (k : Nat) (v : Val) : (d.setStaged k v).obj = d.obj := (rfl)
@[simp] theorem Device.setStaged_lost (d : Device) (k : Nat) (v : Val) : (d.setStaged k v).lost = d.lost := (rfl)
@[simp] theorem Device.setStaged_draws (d : Device) (k : Nat) (v : Val) : (d.setStaged k v).draws = d.draws := (rfl)
@[simp] theorem Device.setStaged_clock (d : Device) (k : Nat) (v : Val) : (d.setStaged k v).clock = d.clock := (rfl)
@[simp] theorem Device.setStaged_foyer (d : Device) (k : Nat) (v : Val) : (d.setStaged k v).foyer = d.foyer := (rfl)
@[simp] theorem Device.setStaged_commit (d : Device) (k : Nat) (v : Val) : (d.setStaged k v).commit = d.commit := (rfl)
@[simp] theorem Device.setStaged_attic (d : Device) (k : Nat) (v : Val) : (d.setStaged k v).attic = d.attic := (rfl)
@[simp] theorem Device.setStaged_cellar (d : Device) (k : Nat) (v : Val) : (d.setStaged k v).cellar = d.cellar := (rfl)
@[simp] theorem Device.setStaged_therm (d : Device) (k : Nat) (v : Val) : (d.setStaged k v).therm = d.therm := (rfl)
@[simp] theorem Device.setStaged_hold (d : Device) (k : Nat) (v : Val) : (d.setStaged k v).hold = d.hold := (rfl)
@[simp] theorem Device.setStaged_tdc (d : Device) (k : Nat) (v : Val) : (d.setStaged k v).tdc = d.tdc := (rfl)
@[simp] theorem Device.setStaged_sky (d : Device) (k : Nat) (v : Val) : (d.setStaged k v).sky = d.sky := (rfl)
@[simp] theorem Device.setStaged_ports (d : Device) (k : Nat) (v : Val) : (d.setStaged k v).ports = d.ports := (rfl)
@[simp] theorem Device.setStaged_hall (d : Device) (k : Nat) (v : Val) : (d.setStaged k v).hall = d.hall := (rfl)
@[simp] theorem Device.setStaged_parl (d : Device) (k : Nat) (v : Val) : (d.setStaged k v).parl = d.parl := (rfl)
@[simp] theorem Device.setStaged_ptp (d : Device) (k : Nat) (v : Val) : (d.setStaged k v).ptp = d.ptp := (rfl)
@[simp] theorem Device.setStaged_ledger (d : Device) (k : Nat) (v : Val) : (d.setStaged k v).ledger = d.ledger := (rfl)
@[simp] theorem Device.setStaged_strong (d : Device) (k : Nat) (v : Val) : (d.setStaged k v).strong = d.strong := (rfl)
@[simp] theorem Device.setStaged_keyhole (d : Device) (k : Nat) (v : Val) : (d.setStaged k v).keyhole = d.keyhole := (rfl)
@[simp] theorem Device.setStaged_study (d : Device) (k : Nat) (v : Val) : (d.setStaged k v).study = d.study := (rfl)
@[simp] theorem Device.setStaged_power (d : Device) (k : Nat) (v : Val) : (d.setStaged k v).power = d.power := (rfl)
@[simp] theorem Device.setStaged_models (d : Device) (k : Nat) (v : Val) : (d.setStaged k v).models = d.models := (rfl)
@[simp] theorem Device.setStaged_outs (d : Device) (k : Nat) (v : Val) : (d.setStaged k v).outs = d.outs := (rfl)
@[simp] theorem Device.setStaged_outbox (d : Device) (k : Nat) (v : Val) : (d.setStaged k v).outbox = d.outbox := (rfl)
@[simp] theorem Device.setStaged_val (d : Device) (k : Nat) (v : Val) (j : Nat) : (d.setStaged k v).val j = d.val j := (rfl)
@[simp] theorem Device.setStaged_num (d : Device) (k : Nat) (v : Val) (j : Nat) : (d.setStaged k v).num j = d.num j := (rfl)
@[simp] theorem Device.setStaged_nat (d : Device) (k : Nat) (v : Val) (j : Nat) : (d.setStaged k v).nat j = d.nat j := (rfl)
@[simp] theorem Device.setStaged_oct (d : Device) (k : Nat) (v : Val) (j : Nat) : (d.setStaged k v).oct j = d.oct j := (rfl)

@[simp] theorem Device.elapse_obj (d : Device) (n : Nat) : (d.elapse n).obj = d.obj := (rfl)
@[simp] theorem Device.elapse_staged (d : Device) (n : Nat) : (d.elapse n).staged = d.staged := (rfl)
@[simp] theorem Device.elapse_lost (d : Device) (n : Nat) : (d.elapse n).lost = d.lost := (rfl)
@[simp] theorem Device.elapse_draws (d : Device) (n : Nat) : (d.elapse n).draws = d.draws := (rfl)
@[simp] theorem Device.elapse_foyer (d : Device) (n : Nat) : (d.elapse n).foyer = d.foyer := (rfl)
@[simp] theorem Device.elapse_commit (d : Device) (n : Nat) : (d.elapse n).commit = d.commit := (rfl)
@[simp] theorem Device.elapse_attic (d : Device) (n : Nat) : (d.elapse n).attic = d.attic := (rfl)
@[simp] theorem Device.elapse_cellar (d : Device) (n : Nat) : (d.elapse n).cellar = d.cellar := (rfl)
@[simp] theorem Device.elapse_therm (d : Device) (n : Nat) : (d.elapse n).therm = d.therm := (rfl)
@[simp] theorem Device.elapse_hold (d : Device) (n : Nat) : (d.elapse n).hold = d.hold := (rfl)
@[simp] theorem Device.elapse_tdc (d : Device) (n : Nat) : (d.elapse n).tdc = d.tdc := (rfl)
@[simp] theorem Device.elapse_sky (d : Device) (n : Nat) : (d.elapse n).sky = d.sky := (rfl)
@[simp] theorem Device.elapse_ports (d : Device) (n : Nat) : (d.elapse n).ports = d.ports := (rfl)
@[simp] theorem Device.elapse_hall (d : Device) (n : Nat) : (d.elapse n).hall = d.hall := (rfl)
@[simp] theorem Device.elapse_parl (d : Device) (n : Nat) : (d.elapse n).parl = d.parl := (rfl)
@[simp] theorem Device.elapse_ptp (d : Device) (n : Nat) : (d.elapse n).ptp = d.ptp := (rfl)
@[simp] theorem Device.elapse_ledger (d : Device) (n : Nat) : (d.elapse n).ledger = d.ledger := (rfl)
@[simp] theorem Device.elapse_strong (d : Device) (n : Nat) : (d.elapse n).strong = d.strong := (rfl)
@[simp] theorem Device.elapse_keyhole (d : Device) (n : Nat) : (d.elapse n).keyhole = d.keyhole := (rfl)
@[simp] theorem Device.elapse_study (d : Device) (n : Nat) : (d.elapse n).study = d.study := (rfl)
@[simp] theorem Device.elapse_power (d : Device) (n : Nat) : (d.elapse n).power = d.power := (rfl)
@[simp] theorem Device.elapse_models (d : Device) (n : Nat) : (d.elapse n).models = d.models := (rfl)
@[simp] theorem Device.elapse_outs (d : Device) (n : Nat) : (d.elapse n).outs = d.outs := (rfl)
@[simp] theorem Device.elapse_outbox (d : Device) (n : Nat) : (d.elapse n).outbox = d.outbox := (rfl)
@[simp] theorem Device.elapse_val (d : Device) (n : Nat) (j : Nat) : (d.elapse n).val j = d.val j := (rfl)
@[simp] theorem Device.elapse_num (d : Device) (n : Nat) (j : Nat) : (d.elapse n).num j = d.num j := (rfl)
@[simp] theorem Device.elapse_nat (d : Device) (n : Nat) (j : Nat) : (d.elapse n).nat j = d.nat j := (rfl)
@[simp] theorem Device.elapse_oct (d : Device) (n : Nat) (j : Nat) : (d.elapse n).oct j = d.oct j := (rfl)

@[simp] theorem Device.runTo_obj (d : Device) (n : Nat) : (d.runTo n).obj = d.obj := (rfl)
@[simp] theorem Device.runTo_staged (d : Device) (n : Nat) : (d.runTo n).staged = d.staged := (rfl)
@[simp] theorem Device.runTo_lost (d : Device) (n : Nat) : (d.runTo n).lost = d.lost := (rfl)
@[simp] theorem Device.runTo_draws (d : Device) (n : Nat) : (d.runTo n).draws = d.draws := (rfl)
@[simp] theorem Device.runTo_foyer (d : Device) (n : Nat) : (d.runTo n).foyer = d.foyer := (rfl)
@[simp] theorem Device.runTo_commit (d : Device) (n : Nat) : (d.runTo n).commit = d.commit := (rfl)
@[simp] theorem Device.runTo_attic (d : Device) (n : Nat) : (d.runTo n).attic = d.attic := (rfl)
@[simp] theorem Device.runTo_cellar (d : Device) (n : Nat) : (d.runTo n).cellar = d.cellar := (rfl)
@[simp] theorem Device.runTo_therm (d : Device) (n : Nat) : (d.runTo n).therm = d.therm := (rfl)
@[simp] theorem Device.runTo_hold (d : Device) (n : Nat) : (d.runTo n).hold = d.hold := (rfl)
@[simp] theorem Device.runTo_tdc (d : Device) (n : Nat) : (d.runTo n).tdc = d.tdc := (rfl)
@[simp] theorem Device.runTo_sky (d : Device) (n : Nat) : (d.runTo n).sky = d.sky := (rfl)
@[simp] theorem Device.runTo_ports (d : Device) (n : Nat) : (d.runTo n).ports = d.ports := (rfl)
@[simp] theorem Device.runTo_hall (d : Device) (n : Nat) : (d.runTo n).hall = d.hall := (rfl)
@[simp] theorem Device.runTo_parl (d : Device) (n : Nat) : (d.runTo n).parl = d.parl := (rfl)
@[simp] theorem Device.runTo_ptp (d : Device) (n : Nat) : (d.runTo n).ptp = d.ptp := (rfl)
@[simp] theorem Device.runTo_ledger (d : Device) (n : Nat) : (d.runTo n).ledger = d.ledger := (rfl)
@[simp] theorem Device.runTo_strong (d : Device) (n : Nat) : (d.runTo n).strong = d.strong := (rfl)
@[simp] theorem Device.runTo_keyhole (d : Device) (n : Nat) : (d.runTo n).keyhole = d.keyhole := (rfl)
@[simp] theorem Device.runTo_study (d : Device) (n : Nat) : (d.runTo n).study = d.study := (rfl)
@[simp] theorem Device.runTo_power (d : Device) (n : Nat) : (d.runTo n).power = d.power := (rfl)
@[simp] theorem Device.runTo_models (d : Device) (n : Nat) : (d.runTo n).models = d.models := (rfl)
@[simp] theorem Device.runTo_outs (d : Device) (n : Nat) : (d.runTo n).outs = d.outs := (rfl)
@[simp] theorem Device.runTo_outbox (d : Device) (n : Nat) : (d.runTo n).outbox = d.outbox := (rfl)
@[simp] theorem Device.runTo_val (d : Device) (n : Nat) (j : Nat) : (d.runTo n).val j = d.val j := (rfl)
@[simp] theorem Device.runTo_num (d : Device) (n : Nat) (j : Nat) : (d.runTo n).num j = d.num j := (rfl)
@[simp] theorem Device.runTo_nat (d : Device) (n : Nat) (j : Nat) : (d.runTo n).nat j = d.nat j := (rfl)
@[simp] theorem Device.runTo_oct (d : Device) (n : Nat) (j : Nat) : (d.runTo n).oct j = d.oct j := (rfl)

@[simp] theorem Device.runToMt_obj (d : Device) (n : Nat) : (d.runToMt n).obj = d.obj := (rfl)
@[simp] theorem Device.runToMt_staged (d : Device) (n : Nat) : (d.runToMt n).staged = d.staged := (rfl)
@[simp] theorem Device.runToMt_lost (d : Device) (n : Nat) : (d.runToMt n).lost = d.lost := (rfl)
@[simp] theorem Device.runToMt_draws (d : Device) (n : Nat) : (d.runToMt n).draws = d.draws := (rfl)
@[simp] theorem Device.runToMt_foyer (d : Device) (n : Nat) : (d.runToMt n).foyer = d.foyer := (rfl)
@[simp] theorem Device.runToMt_commit (d : Device) (n : Nat) : (d.runToMt n).commit = d.commit := (rfl)
@[simp] theorem Device.runToMt_attic (d : Device) (n : Nat) : (d.runToMt n).attic = d.attic := (rfl)
@[simp] theorem Device.runToMt_cellar (d : Device) (n : Nat) : (d.runToMt n).cellar = d.cellar := (rfl)
@[simp] theorem Device.runToMt_therm (d : Device) (n : Nat) : (d.runToMt n).therm = d.therm := (rfl)
@[simp] theorem Device.runToMt_hold (d : Device) (n : Nat) : (d.runToMt n).hold = d.hold := (rfl)
@[simp] theorem Device.runToMt_tdc (d : Device) (n : Nat) : (d.runToMt n).tdc = d.tdc := (rfl)
@[simp] theorem Device.runToMt_sky (d : Device) (n : Nat) : (d.runToMt n).sky = d.sky := (rfl)
@[simp] theorem Device.runToMt_ports (d : Device) (n : Nat) : (d.runToMt n).ports = d.ports := (rfl)
@[simp] theorem Device.runToMt_hall (d : Device) (n : Nat) : (d.runToMt n).hall = d.hall := (rfl)
@[simp] theorem Device.runToMt_parl (d : Device) (n : Nat) : (d.runToMt n).parl = d.parl := (rfl)
@[simp] theorem Device.runToMt_ptp (d : Device) (n : Nat) : (d.runToMt n).ptp = d.ptp := (rfl)
@[simp] theorem Device.runToMt_ledger (d : Device) (n : Nat) : (d.runToMt n).ledger = d.ledger := (rfl)
@[simp] theorem Device.runToMt_strong (d : Device) (n : Nat) : (d.runToMt n).strong = d.strong := (rfl)
@[simp] theorem Device.runToMt_keyhole (d : Device) (n : Nat) : (d.runToMt n).keyhole = d.keyhole := (rfl)
@[simp] theorem Device.runToMt_study (d : Device) (n : Nat) : (d.runToMt n).study = d.study := (rfl)
@[simp] theorem Device.runToMt_power (d : Device) (n : Nat) : (d.runToMt n).power = d.power := (rfl)
@[simp] theorem Device.runToMt_models (d : Device) (n : Nat) : (d.runToMt n).models = d.models := (rfl)
@[simp] theorem Device.runToMt_outs (d : Device) (n : Nat) : (d.runToMt n).outs = d.outs := (rfl)
@[simp] theorem Device.runToMt_outbox (d : Device) (n : Nat) : (d.runToMt n).outbox = d.outbox := (rfl)
@[simp] theorem Device.runToMt_val (d : Device) (n : Nat) (j : Nat) : (d.runToMt n).val j = d.val j := (rfl)
@[simp] theorem Device.runToMt_num (d : Device) (n : Nat) (j : Nat) : (d.runToMt n).num j = d.num j := (rfl)
@[simp] theorem Device.runToMt_nat (d : Device) (n : Nat) (j : Nat) : (d.runToMt n).nat j = d.nat j := (rfl)
@[simp] theorem Device.runToMt_oct (d : Device) (n : Nat) (j : Nat) : (d.runToMt n).oct j = d.oct j := (rfl)

@[simp] theorem Device.report_obj (d : Device) (code : Nat) (p : List Int) : (d.report code p).obj = d.obj := (rfl)
@[simp] theorem Device.report_staged (d : Device) (code : Nat) (p : List Int) : (d.report code p).staged = d.staged := (rfl)
@[simp] theorem Device.report_lost (d : Device) (code : Nat) (p : List Int) : (d.report code p).lost = d.lost := (rfl)
@[simp] theorem Device.report_draws (d : Device) (code : Nat) (p : List Int) : (d.report code p).draws = d.draws := (rfl)
@[simp] theorem Device.report_clock (d : Device) (code : Nat) (p : List Int) : (d.report code p).clock = d.clock := (rfl)
@[simp] theorem Device.report_foyer (d : Device) (code : Nat) (p : List Int) : (d.report code p).foyer = d.foyer := (rfl)
@[simp] theorem Device.report_commit (d : Device) (code : Nat) (p : List Int) : (d.report code p).commit = d.commit := (rfl)
@[simp] theorem Device.report_cellar (d : Device) (code : Nat) (p : List Int) : (d.report code p).cellar = d.cellar := (rfl)
@[simp] theorem Device.report_therm (d : Device) (code : Nat) (p : List Int) : (d.report code p).therm = d.therm := (rfl)
@[simp] theorem Device.report_hold (d : Device) (code : Nat) (p : List Int) : (d.report code p).hold = d.hold := (rfl)
@[simp] theorem Device.report_tdc (d : Device) (code : Nat) (p : List Int) : (d.report code p).tdc = d.tdc := (rfl)
@[simp] theorem Device.report_sky (d : Device) (code : Nat) (p : List Int) : (d.report code p).sky = d.sky := (rfl)
@[simp] theorem Device.report_ports (d : Device) (code : Nat) (p : List Int) : (d.report code p).ports = d.ports := (rfl)
@[simp] theorem Device.report_hall (d : Device) (code : Nat) (p : List Int) : (d.report code p).hall = d.hall := (rfl)
@[simp] theorem Device.report_parl (d : Device) (code : Nat) (p : List Int) : (d.report code p).parl = d.parl := (rfl)
@[simp] theorem Device.report_ptp (d : Device) (code : Nat) (p : List Int) : (d.report code p).ptp = d.ptp := (rfl)
@[simp] theorem Device.report_ledger (d : Device) (code : Nat) (p : List Int) : (d.report code p).ledger = d.ledger := (rfl)
@[simp] theorem Device.report_strong (d : Device) (code : Nat) (p : List Int) : (d.report code p).strong = d.strong := (rfl)
@[simp] theorem Device.report_keyhole (d : Device) (code : Nat) (p : List Int) : (d.report code p).keyhole = d.keyhole := (rfl)
@[simp] theorem Device.report_study (d : Device) (code : Nat) (p : List Int) : (d.report code p).study = d.study := (rfl)
@[simp] theorem Device.report_power (d : Device) (code : Nat) (p : List Int) : (d.report code p).power = d.power := (rfl)
@[simp] theorem Device.report_models (d : Device) (code : Nat) (p : List Int) : (d.report code p).models = d.models := (rfl)
@[simp] theorem Device.report_outs (d : Device) (code : Nat) (p : List Int) : (d.report code p).outs = d.outs := (rfl)
@[simp] theorem Device.report_outbox (d : Device) (code : Nat) (p : List Int) : (d.report code p).outbox = d.outbox := (rfl)
@[simp] theorem Device.report_val (d : Device) (code : Nat) (p : List Int) (j : Nat) : (d.report code p).val j = d.val j := (rfl)
@[simp] theorem Device.report_num (d : Device) (code : Nat) (p : List Int) (j : Nat) : (d.report code p).num j = d.num j := (rfl)
@[simp] theorem Device.report_nat (d : Device) (code : Nat) (p : List Int) (j : Nat) : (d.report code p).nat j = d.nat j := (rfl)
@[simp] theorem Device.report_oct (d : Device) (code : Nat) (p : List Int) (j : Nat) : (d.report code p).oct j = d.oct j := (rfl)

@[simp] theorem Device.emit_obj (d : Device) (o : Output) : (d.emit o).obj = d.obj := (rfl)
@[simp] theorem Device.emit_staged (d : Device) (o : Output) : (d.emit o).staged = d.staged := (rfl)
@[simp] theorem Device.emit_lost (d : Device) (o : Output) : (d.emit o).lost = d.lost := (rfl)
@[simp] theorem Device.emit_draws (d : Device) (o : Output) : (d.emit o).draws = d.draws := (rfl)
@[simp] theorem Device.emit_clock (d : Device) (o : Output) : (d.emit o).clock = d.clock := (rfl)
@[simp] theorem Device.emit_foyer (d : Device) (o : Output) : (d.emit o).foyer = d.foyer := (rfl)
@[simp] theorem Device.emit_commit (d : Device) (o : Output) : (d.emit o).commit = d.commit := (rfl)
@[simp] theorem Device.emit_attic (d : Device) (o : Output) : (d.emit o).attic = d.attic := (rfl)
@[simp] theorem Device.emit_cellar (d : Device) (o : Output) : (d.emit o).cellar = d.cellar := (rfl)
@[simp] theorem Device.emit_therm (d : Device) (o : Output) : (d.emit o).therm = d.therm := (rfl)
@[simp] theorem Device.emit_hold (d : Device) (o : Output) : (d.emit o).hold = d.hold := (rfl)
@[simp] theorem Device.emit_tdc (d : Device) (o : Output) : (d.emit o).tdc = d.tdc := (rfl)
@[simp] theorem Device.emit_sky (d : Device) (o : Output) : (d.emit o).sky = d.sky := (rfl)
@[simp] theorem Device.emit_ports (d : Device) (o : Output) : (d.emit o).ports = d.ports := (rfl)
@[simp] theorem Device.emit_hall (d : Device) (o : Output) : (d.emit o).hall = d.hall := (rfl)
@[simp] theorem Device.emit_parl (d : Device) (o : Output) : (d.emit o).parl = d.parl := (rfl)
@[simp] theorem Device.emit_ptp (d : Device) (o : Output) : (d.emit o).ptp = d.ptp := (rfl)
@[simp] theorem Device.emit_ledger (d : Device) (o : Output) : (d.emit o).ledger = d.ledger := (rfl)
@[simp] theorem Device.emit_strong (d : Device) (o : Output) : (d.emit o).strong = d.strong := (rfl)
@[simp] theorem Device.emit_keyhole (d : Device) (o : Output) : (d.emit o).keyhole = d.keyhole := (rfl)
@[simp] theorem Device.emit_study (d : Device) (o : Output) : (d.emit o).study = d.study := (rfl)
@[simp] theorem Device.emit_power (d : Device) (o : Output) : (d.emit o).power = d.power := (rfl)
@[simp] theorem Device.emit_models (d : Device) (o : Output) : (d.emit o).models = d.models := (rfl)
@[simp] theorem Device.emit_outs (d : Device) (o : Output) : (d.emit o).outs = d.outs := (rfl)
@[simp] theorem Device.emit_val (d : Device) (o : Output) (j : Nat) : (d.emit o).val j = d.val j := (rfl)
@[simp] theorem Device.emit_num (d : Device) (o : Output) (j : Nat) : (d.emit o).num j = d.num j := (rfl)
@[simp] theorem Device.emit_nat (d : Device) (o : Output) (j : Nat) : (d.emit o).nat j = d.nat j := (rfl)
@[simp] theorem Device.emit_oct (d : Device) (o : Output) (j : Nat) : (d.emit o).oct j = d.oct j := (rfl)

@[simp] theorem Device.reportOnce_obj (d : Device) (key code : Nat) (p : List Int) : (d.reportOnce key code p).obj = d.obj := by
  unfold Device.reportOnce; dsimp only; split
  · split <;> rfl
  · rfl
@[simp] theorem Device.reportOnce_staged (d : Device) (key code : Nat) (p : List Int) : (d.reportOnce key code p).staged = d.staged := by
  unfold Device.reportOnce; dsimp only; split
  · split <;> rfl
  · rfl
@[simp] theorem Device.reportOnce_lost (d : Device) (key code : Nat) (p : List Int) : (d.reportOnce key code p).lost = d.lost := by
  unfold Device.reportOnce; dsimp only; split
  · split <;> rfl
  · rfl
@[simp] theorem Device.reportOnce_draws (d : Device) (key code : Nat) (p : List Int) : (d.reportOnce key code p).draws = d.draws := by
  unfold Device.reportOnce; dsimp only; split
  · split <;> rfl
  · rfl
@[simp] theorem Device.reportOnce_clock (d : Device) (key code : Nat) (p : List Int) : (d.reportOnce key code p).clock = d.clock := by
  unfold Device.reportOnce; dsimp only; split
  · split <;> rfl
  · rfl
@[simp] theorem Device.reportOnce_foyer (d : Device) (key code : Nat) (p : List Int) : (d.reportOnce key code p).foyer = d.foyer := by
  unfold Device.reportOnce; dsimp only; split
  · split <;> rfl
  · rfl
@[simp] theorem Device.reportOnce_commit (d : Device) (key code : Nat) (p : List Int) : (d.reportOnce key code p).commit = d.commit := by
  unfold Device.reportOnce; dsimp only; split
  · split <;> rfl
  · rfl
@[simp] theorem Device.reportOnce_cellar (d : Device) (key code : Nat) (p : List Int) : (d.reportOnce key code p).cellar = d.cellar := by
  unfold Device.reportOnce; dsimp only; split
  · split <;> rfl
  · rfl
@[simp] theorem Device.reportOnce_therm (d : Device) (key code : Nat) (p : List Int) : (d.reportOnce key code p).therm = d.therm := by
  unfold Device.reportOnce; dsimp only; split
  · split <;> rfl
  · rfl
@[simp] theorem Device.reportOnce_hold (d : Device) (key code : Nat) (p : List Int) : (d.reportOnce key code p).hold = d.hold := by
  unfold Device.reportOnce; dsimp only; split
  · split <;> rfl
  · rfl
@[simp] theorem Device.reportOnce_tdc (d : Device) (key code : Nat) (p : List Int) : (d.reportOnce key code p).tdc = d.tdc := by
  unfold Device.reportOnce; dsimp only; split
  · split <;> rfl
  · rfl
@[simp] theorem Device.reportOnce_sky (d : Device) (key code : Nat) (p : List Int) : (d.reportOnce key code p).sky = d.sky := by
  unfold Device.reportOnce; dsimp only; split
  · split <;> rfl
  · rfl
@[simp] theorem Device.reportOnce_ports (d : Device) (key code : Nat) (p : List Int) : (d.reportOnce key code p).ports = d.ports := by
  unfold Device.reportOnce; dsimp only; split
  · split <;> rfl
  · rfl
@[simp] theorem Device.reportOnce_hall (d : Device) (key code : Nat) (p : List Int) : (d.reportOnce key code p).hall = d.hall := by
  unfold Device.reportOnce; dsimp only; split
  · split <;> rfl
  · rfl
@[simp] theorem Device.reportOnce_parl (d : Device) (key code : Nat) (p : List Int) : (d.reportOnce key code p).parl = d.parl := by
  unfold Device.reportOnce; dsimp only; split
  · split <;> rfl
  · rfl
@[simp] theorem Device.reportOnce_ptp (d : Device) (key code : Nat) (p : List Int) : (d.reportOnce key code p).ptp = d.ptp := by
  unfold Device.reportOnce; dsimp only; split
  · split <;> rfl
  · rfl
@[simp] theorem Device.reportOnce_ledger (d : Device) (key code : Nat) (p : List Int) : (d.reportOnce key code p).ledger = d.ledger := by
  unfold Device.reportOnce; dsimp only; split
  · split <;> rfl
  · rfl
@[simp] theorem Device.reportOnce_strong (d : Device) (key code : Nat) (p : List Int) : (d.reportOnce key code p).strong = d.strong := by
  unfold Device.reportOnce; dsimp only; split
  · split <;> rfl
  · rfl
@[simp] theorem Device.reportOnce_keyhole (d : Device) (key code : Nat) (p : List Int) : (d.reportOnce key code p).keyhole = d.keyhole := by
  unfold Device.reportOnce; dsimp only; split
  · split <;> rfl
  · rfl
@[simp] theorem Device.reportOnce_study (d : Device) (key code : Nat) (p : List Int) : (d.reportOnce key code p).study = d.study := by
  unfold Device.reportOnce; dsimp only; split
  · split <;> rfl
  · rfl
@[simp] theorem Device.reportOnce_power (d : Device) (key code : Nat) (p : List Int) : (d.reportOnce key code p).power = d.power := by
  unfold Device.reportOnce; dsimp only; split
  · split <;> rfl
  · rfl
@[simp] theorem Device.reportOnce_models (d : Device) (key code : Nat) (p : List Int) : (d.reportOnce key code p).models = d.models := by
  unfold Device.reportOnce; dsimp only; split
  · split <;> rfl
  · rfl
@[simp] theorem Device.reportOnce_outs (d : Device) (key code : Nat) (p : List Int) : (d.reportOnce key code p).outs = d.outs := by
  unfold Device.reportOnce; dsimp only; split
  · split <;> rfl
  · rfl
@[simp] theorem Device.reportOnce_outbox (d : Device) (key code : Nat) (p : List Int) : (d.reportOnce key code p).outbox = d.outbox := by
  unfold Device.reportOnce; dsimp only; split
  · split <;> rfl
  · rfl

@[simp] theorem Device.setTimeState_staged (d : Device) (t : Nat) : (d.setTimeState t).staged = d.staged := by
  unfold Device.setTimeState; split
  · rfl
  · dsimp only; split <;> rfl
@[simp] theorem Device.setTimeState_draws (d : Device) (t : Nat) : (d.setTimeState t).draws = d.draws := by
  unfold Device.setTimeState; split
  · rfl
  · dsimp only; split <;> rfl
@[simp] theorem Device.setTimeState_clock (d : Device) (t : Nat) : (d.setTimeState t).clock = d.clock := by
  unfold Device.setTimeState; split
  · rfl
  · dsimp only; split <;> rfl
@[simp] theorem Device.setTimeState_foyer (d : Device) (t : Nat) : (d.setTimeState t).foyer = d.foyer := by
  unfold Device.setTimeState; split
  · rfl
  · dsimp only; split <;> rfl
@[simp] theorem Device.setTimeState_commit (d : Device) (t : Nat) : (d.setTimeState t).commit = d.commit := by
  unfold Device.setTimeState; split
  · rfl
  · dsimp only; split <;> rfl
@[simp] theorem Device.setTimeState_cellar (d : Device) (t : Nat) : (d.setTimeState t).cellar = d.cellar := by
  unfold Device.setTimeState; split
  · rfl
  · dsimp only; split <;> rfl
@[simp] theorem Device.setTimeState_therm (d : Device) (t : Nat) : (d.setTimeState t).therm = d.therm := by
  unfold Device.setTimeState; split
  · rfl
  · dsimp only; split <;> rfl
@[simp] theorem Device.setTimeState_hold (d : Device) (t : Nat) : (d.setTimeState t).hold = d.hold := by
  unfold Device.setTimeState; split
  · rfl
  · dsimp only; split <;> rfl
@[simp] theorem Device.setTimeState_tdc (d : Device) (t : Nat) : (d.setTimeState t).tdc = d.tdc := by
  unfold Device.setTimeState; split
  · rfl
  · dsimp only; split <;> rfl
@[simp] theorem Device.setTimeState_sky (d : Device) (t : Nat) : (d.setTimeState t).sky = d.sky := by
  unfold Device.setTimeState; split
  · rfl
  · dsimp only; split <;> rfl
@[simp] theorem Device.setTimeState_ports (d : Device) (t : Nat) : (d.setTimeState t).ports = d.ports := by
  unfold Device.setTimeState; split
  · rfl
  · dsimp only; split <;> rfl
@[simp] theorem Device.setTimeState_hall (d : Device) (t : Nat) : (d.setTimeState t).hall = d.hall := by
  unfold Device.setTimeState; split
  · rfl
  · dsimp only; split <;> rfl
@[simp] theorem Device.setTimeState_parl (d : Device) (t : Nat) : (d.setTimeState t).parl = d.parl := by
  unfold Device.setTimeState; split
  · rfl
  · dsimp only; split <;> rfl
@[simp] theorem Device.setTimeState_ptp (d : Device) (t : Nat) : (d.setTimeState t).ptp = d.ptp := by
  unfold Device.setTimeState; split
  · rfl
  · dsimp only; split <;> rfl
@[simp] theorem Device.setTimeState_ledger (d : Device) (t : Nat) : (d.setTimeState t).ledger = d.ledger := by
  unfold Device.setTimeState; split
  · rfl
  · dsimp only; split <;> rfl
@[simp] theorem Device.setTimeState_strong (d : Device) (t : Nat) : (d.setTimeState t).strong = d.strong := by
  unfold Device.setTimeState; split
  · rfl
  · dsimp only; split <;> rfl
@[simp] theorem Device.setTimeState_keyhole (d : Device) (t : Nat) : (d.setTimeState t).keyhole = d.keyhole := by
  unfold Device.setTimeState; split
  · rfl
  · dsimp only; split <;> rfl
@[simp] theorem Device.setTimeState_study (d : Device) (t : Nat) : (d.setTimeState t).study = d.study := by
  unfold Device.setTimeState; split
  · rfl
  · dsimp only; split <;> rfl
@[simp] theorem Device.setTimeState_power (d : Device) (t : Nat) : (d.setTimeState t).power = d.power := by
  unfold Device.setTimeState; split
  · rfl
  · dsimp only; split <;> rfl
@[simp] theorem Device.setTimeState_models (d : Device) (t : Nat) : (d.setTimeState t).models = d.models := by
  unfold Device.setTimeState; split
  · rfl
  · dsimp only; split <;> rfl
@[simp] theorem Device.setTimeState_outs (d : Device) (t : Nat) : (d.setTimeState t).outs = d.outs := by
  unfold Device.setTimeState; split
  · rfl
  · dsimp only; split <;> rfl
@[simp] theorem Device.setTimeState_outbox (d : Device) (t : Nat) : (d.setTimeState t).outbox = d.outbox := by
  unfold Device.setTimeState; split
  · rfl
  · dsimp only; split <;> rfl

@[simp] theorem State.on_pending (s : State) (f : Device → Device) : (s.on f).pending = s.pending := rfl
@[simp] theorem State.on_dev (s : State) (f : Device → Device) : (s.on f).dev = f s.dev := rfl

end Sys2Proof.Machine
end

