-- ==== Sys2Proof/Laws/Hap.lean ====
section
/-! SUPPORT. What serving a HAP request can do: a frame that is heard and granted reaches its object, and its reply leaves. -/

namespace Sys2Proof.Machine

/-! ## CAN controllers -/

theorem Device.setCan_other (d : Device) (n st : Nat) {k : Nat} (h1 : k ≠ K.canState n) (h2 : k ≠ K.canBusoffCount n) :
    (d.setCan n st).nat k = d.nat k := by
  unfold Device.setCan
  dsimp only
  split
  · rfl
  · split <;> simp [Device.bump, Device.nat_bumpBy_ne, Device.nat_setNum, h1, h2]

theorem Device.setCan_foyer (d : Device) (n st : Nat) : (d.setCan n st).foyer = d.foyer := by
  unfold Device.setCan; dsimp only; split
  · rfl
  · split <;> simp

theorem Device.setCan_keyhole (d : Device) (n st : Nat) : (d.setCan n st).keyhole = d.keyhole := by
  unfold Device.setCan; dsimp only; split
  · rfl
  · split <;> simp

/-- A controller that receives a HAP frame changes its own counters and state only. -/
theorem Device.canReceived_other (d : Device) (n i : Nat) (cc : Bool) {k : Nat} (h1 : k ≠ K.canState n) (h2 : k ≠ K.canBusoffCount n)
    (h3 : k ≠ K.canRxFrames n) (h4 : k ≠ K.canRec n) (h5 : k ≠ K.canRxDiscard n) : (d.canReceived n i cc).2.nat k = d.nat k := by
  unfold Device.canReceived Device.canGrade
  dsimp only
  split <;> simp [Device.bump, Device.nat_bumpBy_ne, Device.nat_setNum, Device.setCan_other, h1, h2, h3, h4, h5]

theorem Device.canReceived_foyer (d : Device) (n i : Nat) (cc : Bool) : (d.canReceived n i cc).2.foyer = d.foyer := by
  unfold Device.canReceived Device.canGrade
  dsimp only
  split <;> simp [Device.setCan_foyer]

theorem Device.heard_foyer (d : Device) (r : HapReq) (ht : r.h.src.transport < 4) : (d.heard r).foyer = d.foyer := by
  rw [Device.heard, if_pos ht]
  exact Device.canReceived_foyer ..

/-- An object below the ports reads after the frame was counted as before. -/
theorem Device.heard_nat (d : Device) (r : HapReq) {k : Nat} (ht : r.h.src.transport < 4) (h : k < 0x3000 * 256) :
    (d.heard r).nat k = d.nat k := by
  rw [Device.heard, if_pos ht]
  refine Device.canReceived_other d _ _ _ ?_ ?_ ?_ ?_ ?_ <;>
    simp only [K.canState, K.canBusoffCount, K.canRxFrames, K.canRec, K.canRxDiscard] <;> omega

/-! ## Requests -/

/-- An access that meets no memory error leaves the part as it is (R30). -/
@[simp] theorem Device.meetError_none (d : Device) : d.meetError none = d := rfl

@[simp] theorem Device.loseObject_none (d : Device) (k : Nat) : d.loseObject k (fatalErr none) = d := rfl

/-- A granted request passes the checks of ranks 1 to 3 and reaches its object. -/
theorem Device.replyTo_granted (d : Device) (r : HapReq) (h : d.grants r) :
    d.replyTo r = (d.granted r).doRequest { src := reqSrc r, xl := r.h.xl, txn := r.h.txn, opcode := r.opcode, env := r.h.env }
      r.index r.sub r.h.flags (maxPayload (reqSrc r) r.h.xl (Decidable.decide (d.lock = 3))) (reqPay r) := by
  obtain ⟨-, hrec, hown, htok, hmem, hlock⟩ := h
  rcases hlock with hl | ⟨hl, hi⟩ | ⟨hl, hf, hm, hs⟩
  · simp [Device.replyTo, Device.granted, hrec, hown, htok, hmem, hl]
  · rcases hi with hi | hi <;> simp [Device.replyTo, Device.granted, hrec, hown, htok, hmem, hl, hi]
  · have hs' : ¬ r.h.seq ≤ d.foyer.seqIn := by omega
    simp [Device.replyTo, Device.granted, hrec, hown, htok, hmem, hl, hf, hm, hs']

@[simp] theorem Device.storedFrame_body (d : Device) (p fine : Nat) (b w : Bytes) (t : Int) : (d.storedFrame p fine b w t).body = b := rfl

/-- A HAP frame over UDP that Porch passes and Hallway gives to IP2 is served. -/
theorem Device.receive_hap (d : Device) (p : Nat) (r : HapReq) (hp44 : p < 44) (hp : d.hapPasses p r)
    (hv : (d.hapStored p r).1.vlanDrops p (parseFrame (d.hapBody p r)) = false)
    (hl : (d.hapStored p r).1.localDest p (parseFrame (d.hapBody p r)) = .ip 2) (hs : (d.hapStored p r).1.power.serving = true) :
    d.receive p 0 (d.hapBody p r) 0 none r = ((d.hapStored p r).1.ipTakes 2 (d.hapStored p r).2).takeHap r := by
  obtain ⟨hup, hmt, hloop, h64, hmax, het, has, hwk, hroom, hprobe, hst⟩ := hp
  have hlink : d.link p = 3 := by simpa [Device.portUp] using hup
  have h64' : ¬ frameLen (d.hapBody p r) < 64 := by omega
  have hmax' : ¬ (d.rxStamp p 0 false).2.2.nat (K.portMaxFrame p) < frameLen (d.hapBody p r) := by omega
  have h44 : ¬ 44 ≤ p := by omega
  simp only [Device.hapStored] at hv hl hs ⊢
  unfold Device.receive Device.ingress Device.deliver Device.hallTake
  rcases hprobe with hq | hq <;>
    simp [h44, hlink, hmt, hloop, hup, h64', hmax', het, has, hwk, hroom, hst, hv, hl, hs, hq, fatalErr]

/-- A frame that is heard is served at once. -/
theorem Device.hapServe_hears (d : Device) (r : HapReq) (h : d.hears r) : d.hapServe r = (d.heard r).takeHap r := by
  rcases h with ⟨ht, hs, ha, hc, hx⟩ | ⟨h4, h48, hp, hv, hl, hs⟩
  · have h48 : ¬ 48 ≤ r.h.src.transport := by omega
    cases hxl : r.h.xl <;> simp_all [Device.hapServe, Device.heard]
  · have h1 : ¬ 48 ≤ r.h.src.transport := by omega
    have h2 : ¬ r.h.src.transport < 4 := by omega
    rw [Device.hapServe, if_neg h1, if_neg h2, Device.heard, if_neg h2]
    generalize hpp : r.h.src.transport - 4 = p at hp hv hl hs ⊢
    exact Device.receive_hap d p r (by omega) hp hv hl hs

/-- A request that is heard and granted is answered as its object answers it. -/
theorem State.hap_granted (s : State) (h : HapHdr) (opcode index sub : Nat) (b : Bytes)
    (hg : s.grants { h := h, opcode := opcode, index := index, sub := sub, payload := b }) :
    let r : HapReq := { h := h, opcode := opcode, index := index, sub := sub, payload := b }
    s.hap h opcode index sub b = s.answered r ((s.asked r).doRequest
      { src := reqSrc r, xl := h.xl, txn := h.txn, opcode := opcode, env := h.env }
      index sub h.flags (maxPayload (reqSrc r) h.xl (Decidable.decide ((s.dev.heard r).lock = 3))) (reqPay r)) := by
  intro r
  obtain ⟨hh, hgr⟩ := hg
  have hd : reqDiscarded r = false := hgr.1
  have h2 : ({ s.dev.heard r with foyer := { (s.dev.heard r).foyer with cause := (reqSrc r).transport } } : Device).grants r := hgr
  have h3 := Device.replyTo_granted _ r h2
  have hown : (s.dev.heard r).isOwner (reqSrc r) = true := hgr.2.2.1
  have hown2 : ({ s.dev.heard r with foyer := { (s.dev.heard r).foyer with cause := (reqSrc r).transport } } : Device).isOwner
      (reqSrc r) = true := hown
  show s.on (·.hapServe r) = _
  simp only [State.on, Device.hapServe_hears s.dev r hh, Device.takeHap, hd, Bool.false_eq_true, if_false, Device.causedBy,
    Device.serveNow, h3, hown2, Bool.true_and]
  rfl

/-- The asker of a request, as the objects see it. -/
theorem State.request_granted (s : State) (h : HapHdr) (opcode key : Nat) (b : Bytes) (hg : s.grants (hapReq h opcode key b)) :
    s.hap h opcode (key / 256) (key % 256) b = s.answered (hapReq h opcode key b) ((s.asked (hapReq h opcode key b)).doRequest
      { src := reqSrc (hapReq h opcode key b), xl := h.xl, txn := h.txn, opcode := opcode, env := h.env } (key / 256) (key % 256) h.flags
      (maxPayload (reqSrc (hapReq h opcode key b)) h.xl (Decidable.decide ((s.dev.heard (hapReq h opcode key b)).lock = 3)))
      (reqPay (hapReq h opcode key b))) :=
  State.hap_granted s h opcode (key / 256) (key % 256) b hg

theorem key_split (key : Nat) : key / 256 * 256 + key % 256 = key := by omega

theorem reqPay_hapReq (h : HapHdr) (opcode key : Nat) (b : Bytes) (hl : h.length = b.length) : reqPay (hapReq h opcode key b) = b := by
  simp [reqPay, hapReq, hl]

theorem Device.accessBad_ok (d : Device) (key : Nat) (row : ObjRow) (w : Bool) (hrow : dictFind (key / 256) (key % 256) = some row)
    (hses : d.needsSession key row w = false) (hacc : row.acc ≠ (if w then .ro else .wo)) :
    d.accessBad (key / 256) (key % 256) w = none := by
  cases w <;> simp_all [Device.accessBad, key_split]

/-- A READ of an object that may be read and whose value fits. -/
theorem Device.doRead_ok (d : Device) (key flags cap : Nat) (h : d.accessBad (key / 256) (key % 256) false = none)
    (hlen : (d.readFit (key / 256) (key % 256) (asksStaged (key / 256) (key % 256) flags) cap).length ≤ cap) (hf : flags < 8)
    (hbar : asksStaged (key / 256) (key % 256) flags = false → d.readBarred key = false) :
    d.doRead (key / 256) (key % 256) flags cap =
      { status := some 0, pay := d.readFit (key / 256) (key % 256) (asksStaged (key / 256) (key % 256) flags) cap,
        dev := d.readDone (key / 256) (key % 256) (d.readFit (key / 256) (key % 256) (asksStaged (key / 256) (key % 256) flags) cap)
          (d.fifoOut (key / 256) (key % 256)), after := id } := by
  have h8 : ¬ 8 ≤ flags := by omega
  have hl : ¬ cap < (d.readFit (key / 256) (key % 256) (asksStaged (key / 256) (key % 256) flags) cap).length := by omega
  cases hb : asksStaged (key / 256) (key % 256) flags
  · rw [hb] at hl
    simp [Device.doRead, h, firstBad, h8, hl, hb, key_split, hbar hb, St.ok]
  · rw [hb] at hl
    simp [Device.doRead, h, firstBad, h8, hl, hb, St.ok]

/-- A READ_INIT of an object that may be read, with no transfer open. -/
theorem Device.doReadInit_ok (d : Device) (a : Asker) (key flags : Nat) (h : d.accessBad (key / 256) (key % 256) false = none)
    (hx : d.foyer.xfer = none) (hf : flags < 8)
    (hbar : asksStaged (key / 256) (key % 256) flags = false → d.readBarred key = false) :
    d.doReadInit a (key / 256) (key % 256) flags =
      { status := some 0, pay := toBE 4 (d.readValue (key / 256) (key % 256) (asksStaged (key / 256) (key % 256) flags)).length, after := id,
        dev := d.setFoyer (fun f => { f with
          xfer := some { writing := false, seg := segSize a.src, index := key / 256, sub := key % 256,
                         total := (d.readValue (key / 256) (key % 256) (asksStaged (key / 256) (key % 256) flags)).length,
                         buf := d.readValue (key / 256) (key % 256) (asksStaged (key / 256) (key % 256) flags), next := 0,
                         since := d.clock.ticks, base := d.fifoOut (key / 256) (key % 256) } }) } := by
  have h8 : ¬ 8 ≤ flags := by omega
  cases hb : asksStaged (key / 256) (key % 256) flags
  · simp [Device.doReadInit, h, firstBad, h8, hx, hb, key_split, hbar hb, St.ok]
  · simp [Device.doReadInit, h, firstBad, h8, hx, hb, St.ok]

/-- A WRITE_INIT of an object that may be written, with no transfer open, whose TOTAL the type allows. -/
theorem Device.doWriteInit_ok (d : Device) (key flags : Nat) (b : Bytes) (row : ObjRow)
    (hrow : dictFind (key / 256) (key % 256) = some row) (h : d.accessBad (key / 256) (key % 256) true = none) (hf : flags < 8)
    (hx : d.foyer.xfer = none) (hst : d.nat K.studyStageState = 0) (hb : b.length = 4) (h1 : 1 ≤ beNat b) (h2 : beNat b ≤ 16777216)
    (hal : row.ty.allows (beNat b) = true) (hk : key ≠ K.studyFwImage) :
    d.doWriteInit (key / 256) (key % 256) flags b = (d.setFoyer (fun f => { f with
      xfer := some { writing := true, seg := 0, index := key / 256, sub := key % 256, total := beNat b, buf := [], next := 0,
                     since := d.clock.ticks } })).done := by
  have h8 : ¬ 8 ≤ flags := by omega
  have h10 : ¬ beNat b = 0 := by omega
  have h20 : ¬ 16777216 < beNat b := by omega
  simp [Device.doWriteInit, h, hrow, firstBad, h8, hx, hst, hb, h10, h20, hal, key_split, hk]

/-- R61: a frame of the open transfer starts its time anew. -/
theorem Device.touchXfer_own (d : Device) (idx sub : Nat) (w : Bool) (x : Xfer) (hx : d.foyer.xfer = some x) (hw : x.writing = w)
    (hi : x.index = idx) (hs : x.sub = sub) :
    d.touchXfer idx sub w = d.setFoyer (fun f => { f with xfer := some { x with since := d.clock.ticks } }) := by
  simp [Device.touchXfer, hx, hw, hi, hs]

/-- A READ_SEG within the open read of its object. -/
theorem Device.doReadSeg_ok (d : Device) (key flags : Nat) (b : Bytes) (x : Xfer)
    (h : d.accessBad (key / 256) (key % 256) false = none) (hf : flags < 8) (hb : b.length = 4) (hx : d.foyer.xfer = some x)
    (hw : x.writing = false) (hi : x.index = key / 256) (hs : x.sub = key % 256) (hn : beNat b = 0 ∨ beNat b * x.seg < x.total) :
    d.doReadSeg (key / 256) (key % 256) flags b =
      if x.total ≤ beNat b * x.seg + (field x.buf (beNat b * x.seg) x.seg).length then
        { status := some 0, pay := b ++ field x.buf (beNat b * x.seg) x.seg, dev := d.setFoyer (fun f => { f with xfer := none }),
          after := fun y => y.readDone (key / 256) (key % 256) x.buf x.base }
      else
        { status := some 0, pay := b ++ field x.buf (beNat b * x.seg) x.seg, after := id,
          dev := d.setFoyer (fun f => { f with
            xfer := some { x with next := max x.next (beNat b * x.seg + (field x.buf (beNat b * x.seg) x.seg).length) } }) } := by
  have h8 : ¬ 8 ≤ flags := by omega
  have hn' : ¬ (¬ beNat b = 0 ∧ x.total ≤ beNat b * x.seg) := by omega
  simp [Device.doReadSeg, h, hb, hx, hw, hi, hs, firstBad, h8, hn', St.ok]

/-- A WRITE_SEG of the next number of the open write of its object, within TOTAL. -/
theorem Device.doWriteSeg_ok (d : Device) (a : Asker) (key flags : Nat) (b : Bytes) (row : ObjRow) (x : Xfer)
    (hrow : dictFind (key / 256) (key % 256) = some row) (hac : d.accessBad (key / 256) (key % 256) true = none) (hf : flags < 8)
    (hb : 4 ≤ b.length) (hx : d.foyer.xfer = some x)
    (hw : x.writing = true) (hi : x.index = key / 256) (hs : x.sub = key % 256) (hn : beNat (b.take 4) = x.next) :
    (x.buf.length + (b.drop 4).length < x.total → d.doWriteSeg a (key / 256) (key % 256) flags b =
      (d.setFoyer (fun f => { f with xfer := some { x with buf := x.buf ++ b.drop 4, next := x.next + 1 } })).done) ∧
    (x.buf.length + (b.drop 4).length = x.total →
      (d.setFoyer (fun f => { f with xfer := none })).lengthBad (key / 256) (key % 256) row.ty (x.buf ++ b.drop 4) = false →
      rangeBad key row (x.buf ++ b.drop 4) = false →
      d.doWriteSeg a (key / 256) (key % 256) flags b =
        (d.setFoyer (fun f => { f with xfer := none })).writeObj a key row (x.buf ++ b.drop 4)) := by
  have h8 : ¬ 8 ≤ flags := by omega
  have hb' : ¬ b.length < 4 := by omega
  constructor
  · intro h
    have h1 : ¬ x.total < x.buf.length + (b.length - 4) := by simp only [List.length_drop] at h; omega
    have h2 : x.buf.length + (b.length - 4) < x.total := by simpa only [List.length_drop] using h
    simp [Device.doWriteSeg, hrow, hac, hb', hx, hw, hi, hs, hn, h8, h1, h2]
  · intro h hlen hrng
    have h1 : ¬ x.total < x.buf.length + (b.length - 4) := by simp only [List.length_drop] at h; omega
    have h2 : ¬ x.buf.length + (b.length - 4) < x.total := by simp only [List.length_drop] at h; omega
    simp [Device.doWriteSeg, hrow, hb', hx, hw, hi, hs, hn, h8, h1, h2, hac, hlen, key_split, hrng, firstBad]

/-- An ABORT that names the open transfer. -/
theorem Device.doAbort_ok (d : Device) (key flags : Nat) (row : ObjRow) (x : Xfer) (hrow : dictFind (key / 256) (key % 256) = some row)
    (hf : flags < 8) (hx : d.foyer.xfer = some x) (hi : x.index = key / 256) (hs : x.sub = key % 256) :
    d.doAbort (key / 256) (key % 256) flags = d.dropXfer.done := by
  have h8 : ¬ 8 ≤ flags := by omega
  simp [Device.doAbort, hrow, h8, hx, hi, hs]

/-- A WRITE of a value that passes its object's own checks reaches that object. -/
theorem Device.doWrite_ok (d : Device) (a : Asker) (key flags : Nat) (v : Bytes) (row : ObjRow)
    (hrow : dictFind (key / 256) (key % 256) = some row) (hses : d.needsSession key row true = false) (hacc : row.acc ≠ .ro)
    (hlen : d.lengthBad (key / 256) (key % 256) row.ty v = false) (hrng : rangeBad key row v = false) (hf : flags < 8) :
    d.doWrite a (key / 256) (key % 256) flags v = d.writeObj a key row v := by
  have hk : key / 256 * 256 + key % 256 = key := by omega
  have h8 : ¬ 8 ≤ flags := by omega
  simp [Device.doWrite, Device.accessBad, hrow, hk, hses, hacc, hlen, hrng, firstBad, h8]

/-- A WRITE that is heard and granted, of a value that passes its object's own checks, reaches that object. -/
theorem State.write_granted (s : State) (h : HapHdr) (key : Nat) (v : Bytes) (row : ObjRow) (hw : s.writes h key v)
    (hrow : dictFind (key / 256) (key % 256) = some row)
    (hses : (s.asWritten h key v).needsSession key row true = false) (hacc : row.acc ≠ .ro)
    (hlen : (s.asWritten h key v).lengthBad (key / 256) (key % 256) row.ty v = false) (hrng : rangeBad key row v = false) :
    s.hapWrite h key v = s.wrote h key v ((s.asWritten h key v).writeObj
      { src := reqSrc (hapReq h 2 key v), xl := h.xl, txn := h.txn, opcode := 2, env := h.env } key row v) := by
  obtain ⟨hg, hf, hl⟩ := hw
  have hp : reqPay (hapReq h 2 key v) = v := by simp [reqPay, hapReq, hl]
  have := State.hap_granted s h 2 (key / 256) (key % 256) v hg
  rw [State.hapWrite, this]
  exact congrArg (s.answered (hapReq h 2 key v)) (by
    rw [← Device.doWrite_ok (s.asWritten h key v) _ key h.flags v row hrow hses hacc hlen hrng hf]
    show (s.asWritten h key v).doWrite _ _ _ _ (reqPay (hapReq h 2 key v)) = _
    rw [hp]; rfl)

/-- A WRITE that is heard and granted to a WO object whose write is a command does what the command answers. -/
theorem State.action_granted (s : State) (h : HapHdr) (key : Nat) (v : Bytes) (row : ObjRow) (x : Reply) (hw : s.writes h key v)
    (hrow : dictFind (key / 256) (key % 256) = some row) (hacc : row.acc ≠ .ro ∧ row.acc ≠ .rwc)
    (hses : (s.asWritten h key v).needsSession key row true = false)
    (hlen : (s.asWritten h key v).lengthBad (key / 256) (key % 256) row.ty v = false) (hrng : rangeBad key row v = false)
    (hact : ∀ a : Asker, a.src = reqSrc (hapReq h 2 key v) → a.env = h.env → a.xl = h.xl → a.txn = h.txn → a.opcode = 2 →
      (if key < 0x3000 * 256 then (s.asWritten h key v).lowAction a key v else (s.asWritten h key v).highAction a key v) = some x) :
    s.hapWrite h key v = s.wrote h key v x := by
  rw [State.write_granted s h key v row hw hrow hses hacc.1 hlen hrng]
  refine congrArg (s.wrote h key v) ?_
  unfold Device.writeObj
  rw [if_neg hacc.2, hact _ rfl rfl rfl rfl rfl]

/-- The objects whose write has a length check of its own (R57, R196, R337, R358, R466, R492, R495). -/
def lengthRuled (key : Nat) : Bool :=
  (0x3500 ≤ key / 256 && key / 256 ≤ 0x352B && key % 256 = 1) || key = K.parClassifier || key = K.hallVlanTable || key = K.hallFdbStatic
    || key = K.skyOrbitLoad || key = K.studyFwImage || (0x5040 ≤ key / 256 && key / 256 ≤ 0x507F && key % 256 = 1)
    || (0x6118 ≤ key / 256 && key / 256 ≤ 0x611F && key % 256 = 3)

/-- Every other object admits the lengths of its type. -/
theorem Device.lengthBad_plain (d : Device) (key : Nat) (t : Ty) (b : Bytes) (hk : lengthRuled key = false) (ha : t.allows b.length = true) :
    d.lengthBad (key / 256) (key % 256) t b = false := by
  simp only [lengthRuled, Bool.or_eq_false_iff] at hk
  obtain ⟨⟨⟨⟨⟨⟨⟨h1, h2⟩, h3⟩, h4⟩, h5⟩, h6⟩, h7⟩, h8⟩ := hk
  simp only [Device.lengthBad, key_split, ha, h1, h2, h3, h4, h5, h6, h7, h8, Bool.not_true, Bool.false_and, Bool.or_false]

end Sys2Proof.Machine
end

