-- ==== Sys2Proof/Laws/Emit.lean ====
section
/-! SUPPORT. What leaving PDUs and frames change: the counters of the controller or the queue, the reports, the queues and the outbox;
never an object below the CAN controllers, the staged copies, the clocks, the commits or Foyer. -/

namespace Sys2Proof.Machine

/-- Two parts that agree on what sending a PDU leaves alone. -/
structure Device.SameBut (d e : Device) : Prop where
  val : ∀ k, k < 0x3110 * 256 → e.val k = d.val k
  staged : e.staged = d.staged
  clock : e.clock = d.clock
  commit : e.commit = d.commit
  foyer : e.foyer = d.foyer
  keyhole : e.keyhole = d.keyhole
  power : e.power = d.power

theorem Device.SameBut.refl (d : Device) : d.SameBut d := ⟨fun _ _ => rfl, rfl, rfl, rfl, rfl, rfl, rfl⟩

theorem Device.SameBut.trans {a b c : Device} (h : a.SameBut b) (g : b.SameBut c) : a.SameBut c :=
  ⟨fun k hk => (g.val k hk).trans (h.val k hk), g.staged.trans h.staged, g.clock.trans h.clock, g.commit.trans h.commit,
    g.foyer.trans h.foyer, g.keyhole.trans h.keyhole, g.power.trans h.power⟩

theorem Device.SameBut.num {a b : Device} (h : a.SameBut b) {k : Nat} (hk : k < 0x3110 * 256) : b.num k = a.num k := by
  simp [Device.num, h.val k hk]

theorem Device.SameBut.nat {a b : Device} (h : a.SameBut b) {k : Nat} (hk : k < 0x3110 * 256) : b.nat k = a.nat k := by
  simp [Device.nat, h.num hk]

theorem Device.sameBut_setNum (d : Device) (k : Nat) (v : Int) (h : 0x3110 * 256 ≤ k) : d.SameBut (d.setNum k v) :=
  ⟨fun j hj => Device.val_setVal_ne d _ (by omega), rfl, rfl, rfl, rfl, rfl, rfl⟩

theorem Device.sameBut_bump (d : Device) (k : Nat) (h : 0x3110 * 256 ≤ k) : d.SameBut (d.bump k) := Device.sameBut_setNum d k _ h

theorem Device.sameBut_report (d : Device) (c : Nat) (p : List Int) : d.SameBut (d.report c p) :=
  ⟨fun _ _ => rfl, rfl, rfl, rfl, rfl, rfl, rfl⟩

theorem Device.sameBut_reportOnce (d : Device) (i c : Nat) (p : List Int) : d.SameBut (d.reportOnce i c p) := by
  constructor <;> intros <;> simp [Device.val]

theorem Device.sameBut_emit (d : Device) (o : Output) : d.SameBut (d.emit o) := ⟨fun _ _ => rfl, rfl, rfl, rfl, rfl, rfl, rfl⟩

theorem Device.sameBut_setCan (d : Device) (n st : Nat) : d.SameBut (d.setCan n st) := by
  unfold Device.setCan
  dsimp only
  have h : d.SameBut ((d.setNum (K.canState n) st).report 0x0806 [(n : Int), (d.nat (K.canState n) : Nat), st, d.num (K.canTec n)]) :=
    (Device.sameBut_setNum d _ _ (by simp only [K.canState]; omega)).trans (Device.sameBut_report ..)
  split
  · exact .refl d
  · split
    · exact h.trans (Device.sameBut_bump _ _ (by simp only [K.canBusoffCount]; omega))
    · exact h

theorem Device.sameBut_canSent (d : Device) (n : Nat) : d.SameBut (d.canSent n) :=
  ((Device.sameBut_bump d _ (by simp only [K.canTxFrames]; omega)).trans
    (Device.sameBut_setNum _ _ _ (by simp only [K.canTec]; omega))).trans (Device.sameBut_setCan ..)

theorem Device.sameBut_egressDrop (d : Device) (p kind q k : Nat) (h : 0x3110 * 256 ≤ k) : d.SameBut (d.egressDrop p kind q k) :=
  (Device.sameBut_bump d k h).trans (Device.sameBut_reportOnce ..)

theorem Device.sameBut_cellCheckAt (d : Device) (ps : Nat) : d.SameBut (d.cellCheckAt ps) := by
  unfold Device.cellCheckAt
  dsimp only
  split
  · exact ⟨fun _ _ => rfl, rfl, rfl, rfl, rfl, rfl, rfl⟩
  · split <;> exact ⟨fun _ _ => rfl, rfl, rfl, rfl, rfl, rfl, rfl⟩

theorem Device.sameBut_cellCheck (d : Device) : d.SameBut d.cellCheck := Device.sameBut_cellCheckAt d _

theorem Device.sameBut_cellChecks (ts : List Nat) (d : Device) : d.SameBut (ts.foldl (fun d t => d.cellCheckAt t) d) := by
  induction ts generalizing d with
  | nil => exact .refl d
  | cons t ts ih => exact (Device.sameBut_cellCheckAt d t).trans (ih _)

theorem Device.sameBut_freeEnded (d : Device) : d.SameBut d.freeEnded :=
  (Device.sameBut_cellChecks _ d).trans ⟨fun _ _ => rfl, rfl, rfl, rfl, rfl, rfl, rfl⟩

theorem Device.sameBut_rootDropped (d : Device) : d.SameBut d.rootDropped :=
  (Device.sameBut_bump d _ (by simp only [K.ledgerRootDrop]; omega)).trans (Device.sameBut_reportOnce ..)

theorem Device.sameBut_enqueue (d : Device) (p q : Nat) (f : Frame) : d.SameBut (d.enqueue p q f) := by
  unfold Device.enqueue
  split
  · exact Device.sameBut_egressDrop _ _ _ _ _ (by simp only [K.gateNeverDrop]; omega)
  · split
    · refine Device.SameBut.trans ?_ (Device.sameBut_egressDrop _ _ _ _ _ (by simp only [K.qTaildrop]; omega))
      split
      · exact Device.sameBut_rootDropped d
      · exact .refl d
    · split
      · exact Device.sameBut_egressDrop _ _ _ _ _ (by simp only [K.launchFarDrop]; omega)
      · refine Device.SameBut.trans ?_ (Device.sameBut_cellCheck _)
        exact ⟨fun _ _ => rfl, rfl, rfl, rfl, rfl, rfl, rfl⟩

theorem Device.sameBut_ipSend (d : Device) (p q : Nat) (f : Frame) : d.SameBut (d.ipSend p q f) := by
  unfold Device.ipSend
  dsimp only
  refine (Device.sameBut_freeEnded d).trans ?_
  generalize d.freeEnded = e
  split
  · refine Device.SameBut.trans ?_ (Device.sameBut_enqueue _ _ _ _)
    exact ⟨fun _ _ => rfl, rfl, rfl, rfl, rfl, rfl, rfl⟩
  · exact ⟨fun _ _ => rfl, rfl, rfl, rfl, rfl, rfl, rfl⟩

/-- A PDU that leaves changes counters, reports, queues and the outbox only. -/
theorem Device.sameBut_emitHap (d : Device) (dst : Partner) (xl : Bool) (p : HapPdu) : d.SameBut (d.emitHap dst xl p) := by
  unfold Device.emitHap
  split
  · exact (Device.sameBut_canSent ..).trans (Device.sameBut_emit ..)
  · exact Device.sameBut_ipSend ..

/-- Outside a session a response changes no more than its PDU does. -/
theorem Device.sameBut_respond (d : Device) (src : Partner) (xl : Bool) (opcode index sub txn status : Nat) (pay : Bytes) (h : d.lock ≠ 3) :
    d.SameBut (d.respond src xl opcode index sub txn status pay) := by
  simp only [Device.respond, Device.sendPdu, h, ne_eq, not_false_eq_true, decide_true, Bool.true_or, if_true]
  split
  · exact .refl d
  · exact Device.sameBut_emitHap ..

end Sys2Proof.Machine
end

