-- ==== Sys2Proof/Laws/Exec.lean ====
section
/-! SUPPORT. What running a command can do at all: it changes the part, by a function of the part alone, and leaves the queue. -/

namespace Sys2Proof.Machine

/-- Writes to LOCK_REQUEST one after the other change the part alone. -/
theorem lockWrites_on (l : List HapHdr) :
    ∃ f : Device → Device, ∀ s : State, l.foldl (fun s h => s.hapWrite h K.lockRequest [1]) s = s.on f := by
  induction l with
  | nil => exact ⟨id, fun s => rfl⟩
  | cons h t ih =>
    obtain ⟨f, hf⟩ := ih
    exact ⟨fun d => f (d.hapServe (hapReq h 2 K.lockRequest [1])), fun s => hf _⟩

theorem hapWrite_on (h : HapHdr) (key : Nat) (b : Bytes) :
    ∃ f : Device → Device, ∀ s : State, (.next (s.hapWrite h key b) : Host.Outcome State Fault Refusal) = .next (s.on f) :=
  ⟨fun d => d.hapServe (hapReq h 2 key b), fun _ => rfl⟩

/-- Every command answers a next state; what it does to the part does not depend on the queue, which it leaves. -/
theorem exec_on (c : Instr) : ∃ f : Device → Device, ∀ s : State, exec c s = .next (s.on f) := by
  cases c
  case lockAcquire hs =>
    obtain ⟨f, hf⟩ := lockWrites_on (byTransport hs)
    exact ⟨f, fun s => congrArg _ (hf s)⟩
  all_goals first | exact ⟨_, fun s => rfl⟩ | exact hapWrite_on _ _ _

end Sys2Proof.Machine
end

