-- ==== Sys2Proof/Laws/Setters.lean ====
section
/-! SUPPORT. The laws of the updates that touch one subsystem: its own field as the update says, every object value and every
other field as before. -/

namespace Sys2Proof.Machine

@[simp] theorem Device.setCommit_commit (d : Device) (f : CommitEngine → CommitEngine) : (d.setCommit f).commit = f d.commit := (rfl)
@[simp] theorem Device.setCommit_val (d : Device) (f : CommitEngine → CommitEngine) (k : Nat) : (d.setCommit f).val k = d.val k := (rfl)
@[simp] theorem Device.setCommit_num (d : Device) (f : CommitEngine → CommitEngine) (k : Nat) : (d.setCommit f).num k = d.num k := (rfl)
@[simp] theorem Device.setCommit_nat (d : Device) (f : CommitEngine → CommitEngine) (k : Nat) : (d.setCommit f).nat k = d.nat k := (rfl)
@[simp] theorem Device.setCommit_oct (d : Device) (f : CommitEngine → CommitEngine) (k : Nat) : (d.setCommit f).oct k = d.oct k := (rfl)
@[simp] theorem Device.setCommit_obj (d : Device) (f : CommitEngine → CommitEngine) : (d.setCommit f).obj = d.obj := (rfl)
@[simp] theorem Device.setCommit_staged (d : Device) (f : CommitEngine → CommitEngine) : (d.setCommit f).staged = d.staged := (rfl)
@[simp] theorem Device.setCommit_lost (d : Device) (f : CommitEngine → CommitEngine) : (d.setCommit f).lost = d.lost := (rfl)
@[simp] theorem Device.setCommit_draws (d : Device) (f : CommitEngine → CommitEngine) : (d.setCommit f).draws = d.draws := (rfl)
@[simp] theorem Device.setCommit_clock (d : Device) (f : CommitEngine → CommitEngine) : (d.setCommit f).clock = d.clock := (rfl)
@[simp] theorem Device.setCommit_foyer (d : Device) (f : CommitEngine → CommitEngine) : (d.setCommit f).foyer = d.foyer := (rfl)
@[simp] theorem Device.setCommit_attic (d : Device) (f : CommitEngine → CommitEngine) : (d.setCommit f).attic = d.attic := (rfl)
@[simp] theorem Device.setCommit_cellar (d : Device) (f : CommitEngine → CommitEngine) : (d.setCommit f).cellar = d.cellar := (rfl)
@[simp] theorem Device.setCommit_therm (d : Device) (f : CommitEngine → CommitEngine) : (d.setCommit f).therm = d.therm := (rfl)
@[simp] theorem Device.setCommit_hold (d : Device) (f : CommitEngine → CommitEngine) : (d.setCommit f).hold = d.hold := (rfl)
@[simp] theorem Device.setCommit_tdc (d : Device) (f : CommitEngine → CommitEngine) : (d.setCommit f).tdc = d.tdc := (rfl)
@[simp] theorem Device.setCommit_sky (d : Device) (f : CommitEngine → CommitEngine) : (d.setCommit f).sky = d.sky := (rfl)
@[simp] theorem Device.setCommit_ports (d : Device) (f : CommitEngine → CommitEngine) : (d.setCommit f).ports = d.ports := (rfl)
@[simp] theorem Device.setCommit_hall (d : Device) (f : CommitEngine → CommitEngine) : (d.setCommit f).hall = d.hall := (rfl)
@[simp] theorem Device.setCommit_parl (d : Device) (f : CommitEngine → CommitEngine) : (d.setCommit f).parl = d.parl := (rfl)
@[simp] theorem Device.setCommit_ptp (d : Device) (f : CommitEngine → CommitEngine) : (d.setCommit f).ptp = d.ptp := (rfl)
@[simp] theorem Device.setCommit_ledger (d : Device) (f : CommitEngine → CommitEngine) : (d.setCommit f).ledger = d.ledger := (rfl)
@[simp] theorem Device.setCommit_strong (d : Device) (f : CommitEngine → CommitEngine) : (d.setCommit f).strong = d.strong := (rfl)
@[simp] theorem Device.setCommit_keyhole (d : Device) (f : CommitEngine → CommitEngine) : (d.setCommit f).keyhole = d.keyhole := (rfl)
@[simp] theorem Device.setCommit_study (d : Device) (f : CommitEngine → CommitEngine) : (d.setCommit f).study = d.study := (rfl)
@[simp] theorem Device.setCommit_power (d : Device) (f : CommitEngine → CommitEngine) : (d.setCommit f).power = d.power := (rfl)
@[simp] theorem Device.setCommit_models (d : Device) (f : CommitEngine → CommitEngine) : (d.setCommit f).models = d.models := (rfl)
@[simp] theorem Device.setCommit_outs (d : Device) (f : CommitEngine → CommitEngine) : (d.setCommit f).outs = d.outs := (rfl)
@[simp] theorem Device.setCommit_outbox (d : Device) (f : CommitEngine → CommitEngine) : (d.setCommit f).outbox = d.outbox := (rfl)

@[simp] theorem Device.setTherm_therm (d : Device) (f : Therm → Therm) : (d.setTherm f).therm = f d.therm := (rfl)
@[simp] theorem Device.setTherm_val (d : Device) (f : Therm → Therm) (k : Nat) : (d.setTherm f).val k = d.val k := (rfl)
@[simp] theorem Device.setTherm_num (d : Device) (f : Therm → Therm) (k : Nat) : (d.setTherm f).num k = d.num k := (rfl)
@[simp] theorem Device.setTherm_nat (d : Device) (f : Therm → Therm) (k : Nat) : (d.setTherm f).nat k = d.nat k := (rfl)
@[simp] theorem Device.setTherm_oct (d : Device) (f : Therm → Therm) (k : Nat) : (d.setTherm f).oct k = d.oct k := (rfl)
@[simp] theorem Device.setTherm_obj (d : Device) (f : Therm → Therm) : (d.setTherm f).obj = d.obj := (rfl)
@[simp] theorem Device.setTherm_staged (d : Device) (f : Therm → Therm) : (d.setTherm f).staged = d.staged := (rfl)
@[simp] theorem Device.setTherm_lost (d : Device) (f : Therm → Therm) : (d.setTherm f).lost = d.lost := (rfl)
@[simp] theorem Device.setTherm_draws (d : Device) (f : Therm → Therm) : (d.setTherm f).draws = d.draws := (rfl)
@[simp] theorem Device.setTherm_clock (d : Device) (f : Therm → Therm) : (d.setTherm f).clock = d.clock := (rfl)
@[simp] theorem Device.setTherm_foyer (d : Device) (f : Therm → Therm) : (d.setTherm f).foyer = d.foyer := (rfl)
@[simp] theorem Device.setTherm_commit (d : Device) (f : Therm → Therm) : (d.setTherm f).commit = d.commit := (rfl)
@[simp] theorem Device.setTherm_attic (d : Device) (f : Therm → Therm) : (d.setTherm f).attic = d.attic := (rfl)
@[simp] theorem Device.setTherm_cellar (d : Device) (f : Therm → Therm) : (d.setTherm f).cellar = d.cellar := (rfl)
@[simp] theorem Device.setTherm_hold (d : Device) (f : Therm → Therm) : (d.setTherm f).hold = d.hold := (rfl)
@[simp] theorem Device.setTherm_tdc (d : Device) (f : Therm → Therm) : (d.setTherm f).tdc = d.tdc := (rfl)
@[simp] theorem Device.setTherm_sky (d : Device) (f : Therm → Therm) : (d.setTherm f).sky = d.sky := (rfl)
@[simp] theorem Device.setTherm_ports (d : Device) (f : Therm → Therm) : (d.setTherm f).ports = d.ports := (rfl)
@[simp] theorem Device.setTherm_hall (d : Device) (f : Therm → Therm) : (d.setTherm f).hall = d.hall := (rfl)
@[simp] theorem Device.setTherm_parl (d : Device) (f : Therm → Therm) : (d.setTherm f).parl = d.parl := (rfl)
@[simp] theorem Device.setTherm_ptp (d : Device) (f : Therm → Therm) : (d.setTherm f).ptp = d.ptp := (rfl)
@[simp] theorem Device.setTherm_ledger (d : Device) (f : Therm → Therm) : (d.setTherm f).ledger = d.ledger := (rfl)
@[simp] theorem Device.setTherm_strong (d : Device) (f : Therm → Therm) : (d.setTherm f).strong = d.strong := (rfl)
@[simp] theorem Device.setTherm_keyhole (d : Device) (f : Therm → Therm) : (d.setTherm f).keyhole = d.keyhole := (rfl)
@[simp] theorem Device.setTherm_study (d : Device) (f : Therm → Therm) : (d.setTherm f).study = d.study := (rfl)
@[simp] theorem Device.setTherm_power (d : Device) (f : Therm → Therm) : (d.setTherm f).power = d.power := (rfl)
@[simp] theorem Device.setTherm_models (d : Device) (f : Therm → Therm) : (d.setTherm f).models = d.models := (rfl)
@[simp] theorem Device.setTherm_outs (d : Device) (f : Therm → Therm) : (d.setTherm f).outs = d.outs := (rfl)
@[simp] theorem Device.setTherm_outbox (d : Device) (f : Therm → Therm) : (d.setTherm f).outbox = d.outbox := (rfl)

@[simp] theorem Device.setHold_hold (d : Device) (f : Holdover → Holdover) : (d.setHold f).hold = f d.hold := (rfl)
@[simp] theorem Device.setHold_val (d : Device) (f : Holdover → Holdover) (k : Nat) : (d.setHold f).val k = d.val k := (rfl)
@[simp] theorem Device.setHold_num (d : Device) (f : Holdover → Holdover) (k : Nat) : (d.setHold f).num k = d.num k := (rfl)
@[simp] theorem Device.setHold_nat (d : Device) (f : Holdover → Holdover) (k : Nat) : (d.setHold f).nat k = d.nat k := (rfl)
@[simp] theorem Device.setHold_oct (d : Device) (f : Holdover → Holdover) (k : Nat) : (d.setHold f).oct k = d.oct k := (rfl)
@[simp] theorem Device.setHold_obj (d : Device) (f : Holdover → Holdover) : (d.setHold f).obj = d.obj := (rfl)
@[simp] theorem Device.setHold_staged (d : Device) (f : Holdover → Holdover) : (d.setHold f).staged = d.staged := (rfl)
@[simp] theorem Device.setHold_lost (d : Device) (f : Holdover → Holdover) : (d.setHold f).lost = d.lost := (rfl)
@[simp] theorem Device.setHold_draws (d : Device) (f : Holdover → Holdover) : (d.setHold f).draws = d.draws := (rfl)
@[simp] theorem Device.setHold_clock (d : Device) (f : Holdover → Holdover) : (d.setHold f).clock = d.clock := (rfl)
@[simp] theorem Device.setHold_foyer (d : Device) (f : Holdover → Holdover) : (d.setHold f).foyer = d.foyer := (rfl)
@[simp] theorem Device.setHold_commit (d : Device) (f : Holdover → Holdover) : (d.setHold f).commit = d.commit := (rfl)
@[simp] theorem Device.setHold_attic (d : Device) (f : Holdover → Holdover) : (d.setHold f).attic = d.attic := (rfl)
@[simp] theorem Device.setHold_cellar (d : Device) (f : Holdover → Holdover) : (d.setHold f).cellar = d.cellar := (rfl)
@[simp] theorem Device.setHold_therm (d : Device) (f : Holdover → Holdover) : (d.setHold f).therm = d.therm := (rfl)
@[simp] theorem Device.setHold_tdc (d : Device) (f : Holdover → Holdover) : (d.setHold f).tdc = d.tdc := (rfl)
@[simp] theorem Device.setHold_sky (d : Device) (f : Holdover → Holdover) : (d.setHold f).sky = d.sky := (rfl)
@[simp] theorem Device.setHold_ports (d : Device) (f : Holdover → Holdover) : (d.setHold f).ports = d.ports := (rfl)
@[simp] theorem Device.setHold_hall (d : Device) (f : Holdover → Holdover) : (d.setHold f).hall = d.hall := (rfl)
@[simp] theorem Device.setHold_parl (d : Device) (f : Holdover → Holdover) : (d.setHold f).parl = d.parl := (rfl)
@[simp] theorem Device.setHold_ptp (d : Device) (f : Holdover → Holdover) : (d.setHold f).ptp = d.ptp := (rfl)
@[simp] theorem Device.setHold_ledger (d : Device) (f : Holdover → Holdover) : (d.setHold f).ledger = d.ledger := (rfl)
@[simp] theorem Device.setHold_strong (d : Device) (f : Holdover → Holdover) : (d.setHold f).strong = d.strong := (rfl)
@[simp] theorem Device.setHold_keyhole (d : Device) (f : Holdover → Holdover) : (d.setHold f).keyhole = d.keyhole := (rfl)
@[simp] theorem Device.setHold_study (d : Device) (f : Holdover → Holdover) : (d.setHold f).study = d.study := (rfl)
@[simp] theorem Device.setHold_power (d : Device) (f : Holdover → Holdover) : (d.setHold f).power = d.power := (rfl)
@[simp] theorem Device.setHold_models (d : Device) (f : Holdover → Holdover) : (d.setHold f).models = d.models := (rfl)
@[simp] theorem Device.setHold_outs (d : Device) (f : Holdover → Holdover) : (d.setHold f).outs = d.outs := (rfl)
@[simp] theorem Device.setHold_outbox (d : Device) (f : Holdover → Holdover) : (d.setHold f).outbox = d.outbox := (rfl)

@[simp] theorem Device.setCandU_val (d : Device) (n : Nat) (f : Cand → Cand) (k : Nat) : (d.setCandU n f).val k = d.val k := (rfl)
@[simp] theorem Device.setCandU_num (d : Device) (n : Nat) (f : Cand → Cand) (k : Nat) : (d.setCandU n f).num k = d.num k := (rfl)
@[simp] theorem Device.setCandU_nat (d : Device) (n : Nat) (f : Cand → Cand) (k : Nat) : (d.setCandU n f).nat k = d.nat k := (rfl)
@[simp] theorem Device.setCandU_oct (d : Device) (n : Nat) (f : Cand → Cand) (k : Nat) : (d.setCandU n f).oct k = d.oct k := (rfl)
@[simp] theorem Device.setCandU_obj (d : Device) (n : Nat) (f : Cand → Cand) : (d.setCandU n f).obj = d.obj := (rfl)
@[simp] theorem Device.setCandU_staged (d : Device) (n : Nat) (f : Cand → Cand) : (d.setCandU n f).staged = d.staged := (rfl)
@[simp] theorem Device.setCandU_lost (d : Device) (n : Nat) (f : Cand → Cand) : (d.setCandU n f).lost = d.lost := (rfl)
@[simp] theorem Device.setCandU_draws (d : Device) (n : Nat) (f : Cand → Cand) : (d.setCandU n f).draws = d.draws := (rfl)
@[simp] theorem Device.setCandU_clock (d : Device) (n : Nat) (f : Cand → Cand) : (d.setCandU n f).clock = d.clock := (rfl)
@[simp] theorem Device.setCandU_foyer (d : Device) (n : Nat) (f : Cand → Cand) : (d.setCandU n f).foyer = d.foyer := (rfl)
@[simp] theorem Device.setCandU_commit (d : Device) (n : Nat) (f : Cand → Cand) : (d.setCandU n f).commit = d.commit := (rfl)
@[simp] theorem Device.setCandU_attic (d : Device) (n : Nat) (f : Cand → Cand) : (d.setCandU n f).attic = d.attic := (rfl)
@[simp] theorem Device.setCandU_cellar (d : Device) (n : Nat) (f : Cand → Cand) : (d.setCandU n f).cellar = d.cellar := (rfl)
@[simp] theorem Device.setCandU_hold (d : Device) (n : Nat) (f : Cand → Cand) : (d.setCandU n f).hold = d.hold := (rfl)
@[simp] theorem Device.setCandU_tdc (d : Device) (n : Nat) (f : Cand → Cand) : (d.setCandU n f).tdc = d.tdc := (rfl)
@[simp] theorem Device.setCandU_sky (d : Device) (n : Nat) (f : Cand → Cand) : (d.setCandU n f).sky = d.sky := (rfl)
@[simp] theorem Device.setCandU_ports (d : Device) (n : Nat) (f : Cand → Cand) : (d.setCandU n f).ports = d.ports := (rfl)
@[simp] theorem Device.setCandU_hall (d : Device) (n : Nat) (f : Cand → Cand) : (d.setCandU n f).hall = d.hall := (rfl)
@[simp] theorem Device.setCandU_parl (d : Device) (n : Nat) (f : Cand → Cand) : (d.setCandU n f).parl = d.parl := (rfl)
@[simp] theorem Device.setCandU_ptp (d : Device) (n : Nat) (f : Cand → Cand) : (d.setCandU n f).ptp = d.ptp := (rfl)
@[simp] theorem Device.setCandU_ledger (d : Device) (n : Nat) (f : Cand → Cand) : (d.setCandU n f).ledger = d.ledger := (rfl)
@[simp] theorem Device.setCandU_strong (d : Device) (n : Nat) (f : Cand → Cand) : (d.setCandU n f).strong = d.strong := (rfl)
@[simp] theorem Device.setCandU_keyhole (d : Device) (n : Nat) (f : Cand → Cand) : (d.setCandU n f).keyhole = d.keyhole := (rfl)
@[simp] theorem Device.setCandU_study (d : Device) (n : Nat) (f : Cand → Cand) : (d.setCandU n f).study = d.study := (rfl)
@[simp] theorem Device.setCandU_power (d : Device) (n : Nat) (f : Cand → Cand) : (d.setCandU n f).power = d.power := (rfl)
@[simp] theorem Device.setCandU_models (d : Device) (n : Nat) (f : Cand → Cand) : (d.setCandU n f).models = d.models := (rfl)
@[simp] theorem Device.setCandU_outs (d : Device) (n : Nat) (f : Cand → Cand) : (d.setCandU n f).outs = d.outs := (rfl)
@[simp] theorem Device.setCandU_outbox (d : Device) (n : Nat) (f : Cand → Cand) : (d.setCandU n f).outbox = d.outbox := (rfl)

@[simp] theorem Device.setPower_power (d : Device) (f : Power → Power) : (d.setPower f).power = f d.power := (rfl)
@[simp] theorem Device.setPower_val (d : Device) (f : Power → Power) (k : Nat) : (d.setPower f).val k = d.val k := (rfl)
@[simp] theorem Device.setPower_num (d : Device) (f : Power → Power) (k : Nat) : (d.setPower f).num k = d.num k := (rfl)
@[simp] theorem Device.setPower_nat (d : Device) (f : Power → Power) (k : Nat) : (d.setPower f).nat k = d.nat k := (rfl)
@[simp] theorem Device.setPower_oct (d : Device) (f : Power → Power) (k : Nat) : (d.setPower f).oct k = d.oct k := (rfl)
@[simp] theorem Device.setPower_obj (d : Device) (f : Power → Power) : (d.setPower f).obj = d.obj := (rfl)
@[simp] theorem Device.setPower_staged (d : Device) (f : Power → Power) : (d.setPower f).staged = d.staged := (rfl)
@[simp] theorem Device.setPower_lost (d : Device) (f : Power → Power) : (d.setPower f).lost = d.lost := (rfl)
@[simp] theorem Device.setPower_draws (d : Device) (f : Power → Power) : (d.setPower f).draws = d.draws := (rfl)
@[simp] theorem Device.setPower_clock (d : Device) (f : Power → Power) : (d.setPower f).clock = d.clock := (rfl)
@[simp] theorem Device.setPower_foyer (d : Device) (f : Power → Power) : (d.setPower f).foyer = d.foyer := (rfl)
@[simp] theorem Device.setPower_commit (d : Device) (f : Power → Power) : (d.setPower f).commit = d.commit := (rfl)
@[simp] theorem Device.setPower_attic (d : Device) (f : Power → Power) : (d.setPower f).attic = d.attic := (rfl)
@[simp] theorem Device.setPower_cellar (d : Device) (f : Power → Power) : (d.setPower f).cellar = d.cellar := (rfl)
@[simp] theorem Device.setPower_therm (d : Device) (f : Power → Power) : (d.setPower f).therm = d.therm := (rfl)
@[simp] theorem Device.setPower_hold (d : Device) (f : Power → Power) : (d.setPower f).hold = d.hold := (rfl)
@[simp] theorem Device.setPower_tdc (d : Device) (f : Power → Power) : (d.setPower f).tdc = d.tdc := (rfl)
@[simp] theorem Device.setPower_sky (d : Device) (f : Power → Power) : (d.setPower f).sky = d.sky := (rfl)
@[simp] theorem Device.setPower_ports (d : Device) (f : Power → Power) : (d.setPower f).ports = d.ports := (rfl)
@[simp] theorem Device.setPower_hall (d : Device) (f : Power → Power) : (d.setPower f).hall = d.hall := (rfl)
@[simp] theorem Device.setPower_parl (d : Device) (f : Power → Power) : (d.setPower f).parl = d.parl := (rfl)
@[simp] theorem Device.setPower_ptp (d : Device) (f : Power → Power) : (d.setPower f).ptp = d.ptp := (rfl)
@[simp] theorem Device.setPower_ledger (d : Device) (f : Power → Power) : (d.setPower f).ledger = d.ledger := (rfl)
@[simp] theorem Device.setPower_strong (d : Device) (f : Power → Power) : (d.setPower f).strong = d.strong := (rfl)
@[simp] theorem Device.setPower_keyhole (d : Device) (f : Power → Power) : (d.setPower f).keyhole = d.keyhole := (rfl)
@[simp] theorem Device.setPower_study (d : Device) (f : Power → Power) : (d.setPower f).study = d.study := (rfl)
@[simp] theorem Device.setPower_models (d : Device) (f : Power → Power) : (d.setPower f).models = d.models := (rfl)
@[simp] theorem Device.setPower_outs (d : Device) (f : Power → Power) : (d.setPower f).outs = d.outs := (rfl)
@[simp] theorem Device.setPower_outbox (d : Device) (f : Power → Power) : (d.setPower f).outbox = d.outbox := (rfl)

@[simp] theorem Device.setCellar_cellar (d : Device) (f : Cellar → Cellar) : (d.setCellar f).cellar = f d.cellar := (rfl)
@[simp] theorem Device.setCellar_val (d : Device) (f : Cellar → Cellar) (k : Nat) : (d.setCellar f).val k = d.val k := (rfl)
@[simp] theorem Device.setCellar_num (d : Device) (f : Cellar → Cellar) (k : Nat) : (d.setCellar f).num k = d.num k := (rfl)
@[simp] theorem Device.setCellar_nat (d : Device) (f : Cellar → Cellar) (k : Nat) : (d.setCellar f).nat k = d.nat k := (rfl)
@[simp] theorem Device.setCellar_oct (d : Device) (f : Cellar → Cellar) (k : Nat) : (d.setCellar f).oct k = d.oct k := (rfl)
@[simp] theorem Device.setCellar_obj (d : Device) (f : Cellar → Cellar) : (d.setCellar f).obj = d.obj := (rfl)
@[simp] theorem Device.setCellar_staged (d : Device) (f : Cellar → Cellar) : (d.setCellar f).staged = d.staged := (rfl)
@[simp] theorem Device.setCellar_lost (d : Device) (f : Cellar → Cellar) : (d.setCellar f).lost = d.lost := (rfl)
@[simp] theorem Device.setCellar_draws (d : Device) (f : Cellar → Cellar) : (d.setCellar f).draws = d.draws := (rfl)
@[simp] theorem Device.setCellar_clock (d : Device) (f : Cellar → Cellar) : (d.setCellar f).clock = d.clock := (rfl)
@[simp] theorem Device.setCellar_foyer (d : Device) (f : Cellar → Cellar) : (d.setCellar f).foyer = d.foyer := (rfl)
@[simp] theorem Device.setCellar_commit (d : Device) (f : Cellar → Cellar) : (d.setCellar f).commit = d.commit := (rfl)
@[simp] theorem Device.setCellar_attic (d : Device) (f : Cellar → Cellar) : (d.setCellar f).attic = d.attic := (rfl)
@[simp] theorem Device.setCellar_therm (d : Device) (f : Cellar → Cellar) : (d.setCellar f).therm = d.therm := (rfl)
@[simp] theorem Device.setCellar_hold (d : Device) (f : Cellar → Cellar) : (d.setCellar f).hold = d.hold := (rfl)
@[simp] theorem Device.setCellar_tdc (d : Device) (f : Cellar → Cellar) : (d.setCellar f).tdc = d.tdc := (rfl)
@[simp] theorem Device.setCellar_sky (d : Device) (f : Cellar → Cellar) : (d.setCellar f).sky = d.sky := (rfl)
@[simp] theorem Device.setCellar_ports (d : Device) (f : Cellar → Cellar) : (d.setCellar f).ports = d.ports := (rfl)
@[simp] theorem Device.setCellar_hall (d : Device) (f : Cellar → Cellar) : (d.setCellar f).hall = d.hall := (rfl)
@[simp] theorem Device.setCellar_parl (d : Device) (f : Cellar → Cellar) : (d.setCellar f).parl = d.parl := (rfl)
@[simp] theorem Device.setCellar_ptp (d : Device) (f : Cellar → Cellar) : (d.setCellar f).ptp = d.ptp := (rfl)
@[simp] theorem Device.setCellar_ledger (d : Device) (f : Cellar → Cellar) : (d.setCellar f).ledger = d.ledger := (rfl)
@[simp] theorem Device.setCellar_strong (d : Device) (f : Cellar → Cellar) : (d.setCellar f).strong = d.strong := (rfl)
@[simp] theorem Device.setCellar_keyhole (d : Device) (f : Cellar → Cellar) : (d.setCellar f).keyhole = d.keyhole := (rfl)
@[simp] theorem Device.setCellar_study (d : Device) (f : Cellar → Cellar) : (d.setCellar f).study = d.study := (rfl)
@[simp] theorem Device.setCellar_power (d : Device) (f : Cellar → Cellar) : (d.setCellar f).power = d.power := (rfl)
@[simp] theorem Device.setCellar_models (d : Device) (f : Cellar → Cellar) : (d.setCellar f).models = d.models := (rfl)
@[simp] theorem Device.setCellar_outs (d : Device) (f : Cellar → Cellar) : (d.setCellar f).outs = d.outs := (rfl)
@[simp] theorem Device.setCellar_outbox (d : Device) (f : Cellar → Cellar) : (d.setCellar f).outbox = d.outbox := (rfl)

@[simp] theorem Device.setOut_val (d : Device) (n : Nat) (f : OutUnit → OutUnit) (k : Nat) : (d.setOut n f).val k = d.val k := (rfl)
@[simp] theorem Device.setOut_num (d : Device) (n : Nat) (f : OutUnit → OutUnit) (k : Nat) : (d.setOut n f).num k = d.num k := (rfl)
@[simp] theorem Device.setOut_nat (d : Device) (n : Nat) (f : OutUnit → OutUnit) (k : Nat) : (d.setOut n f).nat k = d.nat k := (rfl)
@[simp] theorem Device.setOut_oct (d : Device) (n : Nat) (f : OutUnit → OutUnit) (k : Nat) : (d.setOut n f).oct k = d.oct k := (rfl)
@[simp] theorem Device.setOut_obj (d : Device) (n : Nat) (f : OutUnit → OutUnit) : (d.setOut n f).obj = d.obj := (rfl)
@[simp] theorem Device.setOut_staged (d : Device) (n : Nat) (f : OutUnit → OutUnit) : (d.setOut n f).staged = d.staged := (rfl)
@[simp] theorem Device.setOut_lost (d : Device) (n : Nat) (f : OutUnit → OutUnit) : (d.setOut n f).lost = d.lost := (rfl)
@[simp] theorem Device.setOut_draws (d : Device) (n : Nat) (f : OutUnit → OutUnit) : (d.setOut n f).draws = d.draws := (rfl)
@[simp] theorem Device.setOut_clock (d : Device) (n : Nat) (f : OutUnit → OutUnit) : (d.setOut n f).clock = d.clock := (rfl)
@[simp] theorem Device.setOut_foyer (d : Device) (n : Nat) (f : OutUnit → OutUnit) : (d.setOut n f).foyer = d.foyer := (rfl)
@[simp] theorem Device.setOut_commit (d : Device) (n : Nat) (f : OutUnit → OutUnit) : (d.setOut n f).commit = d.commit := (rfl)
@[simp] theorem Device.setOut_attic (d : Device) (n : Nat) (f : OutUnit → OutUnit) : (d.setOut n f).attic = d.attic := (rfl)
@[simp] theorem Device.setOut_cellar (d : Device) (n : Nat) (f : OutUnit → OutUnit) : (d.setOut n f).cellar = d.cellar := (rfl)
@[simp] theorem Device.setOut_therm (d : Device) (n : Nat) (f : OutUnit → OutUnit) : (d.setOut n f).therm = d.therm := (rfl)
@[simp] theorem Device.setOut_hold (d : Device) (n : Nat) (f : OutUnit → OutUnit) : (d.setOut n f).hold = d.hold := (rfl)
@[simp] theorem Device.setOut_tdc (d : Device) (n : Nat) (f : OutUnit → OutUnit) : (d.setOut n f).tdc = d.tdc := (rfl)
@[simp] theorem Device.setOut_sky (d : Device) (n : Nat) (f : OutUnit → OutUnit) : (d.setOut n f).sky = d.sky := (rfl)
@[simp] theorem Device.setOut_ports (d : Device) (n : Nat) (f : OutUnit → OutUnit) : (d.setOut n f).ports = d.ports := (rfl)
@[simp] theorem Device.setOut_hall (d : Device) (n : Nat) (f : OutUnit → OutUnit) : (d.setOut n f).hall = d.hall := (rfl)
@[simp] theorem Device.setOut_parl (d : Device) (n : Nat) (f : OutUnit → OutUnit) : (d.setOut n f).parl = d.parl := (rfl)
@[simp] theorem Device.setOut_ptp (d : Device) (n : Nat) (f : OutUnit → OutUnit) : (d.setOut n f).ptp = d.ptp := (rfl)
@[simp] theorem Device.setOut_ledger (d : Device) (n : Nat) (f : OutUnit → OutUnit) : (d.setOut n f).ledger = d.ledger := (rfl)
@[simp] theorem Device.setOut_strong (d : Device) (n : Nat) (f : OutUnit → OutUnit) : (d.setOut n f).strong = d.strong := (rfl)
@[simp] theorem Device.setOut_keyhole (d : Device) (n : Nat) (f : OutUnit → OutUnit) : (d.setOut n f).keyhole = d.keyhole := (rfl)
@[simp] theorem Device.setOut_study (d : Device) (n : Nat) (f : OutUnit → OutUnit) : (d.setOut n f).study = d.study := (rfl)
@[simp] theorem Device.setOut_power (d : Device) (n : Nat) (f : OutUnit → OutUnit) : (d.setOut n f).power = d.power := (rfl)
@[simp] theorem Device.setOut_models (d : Device) (n : Nat) (f : OutUnit → OutUnit) : (d.setOut n f).models = d.models := (rfl)
@[simp] theorem Device.setOut_outbox (d : Device) (n : Nat) (f : OutUnit → OutUnit) : (d.setOut n f).outbox = d.outbox := (rfl)

@[simp] theorem Device.setInst_val (d : Device) (n : Nat) (f : PtpInst → PtpInst) (k : Nat) : (d.setInst n f).val k = d.val k := (rfl)
@[simp] theorem Device.setInst_num (d : Device) (n : Nat) (f : PtpInst → PtpInst) (k : Nat) : (d.setInst n f).num k = d.num k := (rfl)
@[simp] theorem Device.setInst_nat (d : Device) (n : Nat) (f : PtpInst → PtpInst) (k : Nat) : (d.setInst n f).nat k = d.nat k := (rfl)
@[simp] theorem Device.setInst_oct (d : Device) (n : Nat) (f : PtpInst → PtpInst) (k : Nat) : (d.setInst n f).oct k = d.oct k := (rfl)
@[simp] theorem Device.setInst_obj (d : Device) (n : Nat) (f : PtpInst → PtpInst) : (d.setInst n f).obj = d.obj := (rfl)
@[simp] theorem Device.setInst_staged (d : Device) (n : Nat) (f : PtpInst → PtpInst) : (d.setInst n f).staged = d.staged := (rfl)
@[simp] theorem Device.setInst_lost (d : Device) (n : Nat) (f : PtpInst → PtpInst) : (d.setInst n f).lost = d.lost := (rfl)
@[simp] theorem Device.setInst_draws (d : Device) (n : Nat) (f : PtpInst → PtpInst) : (d.setInst n f).draws = d.draws := (rfl)
@[simp] theorem Device.setInst_clock (d : Device) (n : Nat) (f : PtpInst → PtpInst) : (d.setInst n f).clock = d.clock := (rfl)
@[simp] theorem Device.setInst_foyer (d : Device) (n : Nat) (f : PtpInst → PtpInst) : (d.setInst n f).foyer = d.foyer := (rfl)
@[simp] theorem Device.setInst_commit (d : Device) (n : Nat) (f : PtpInst → PtpInst) : (d.setInst n f).commit = d.commit := (rfl)
@[simp] theorem Device.setInst_attic (d : Device) (n : Nat) (f : PtpInst → PtpInst) : (d.setInst n f).attic = d.attic := (rfl)
@[simp] theorem Device.setInst_cellar (d : Device) (n : Nat) (f : PtpInst → PtpInst) : (d.setInst n f).cellar = d.cellar := (rfl)
@[simp] theorem Device.setInst_therm (d : Device) (n : Nat) (f : PtpInst → PtpInst) : (d.setInst n f).therm = d.therm := (rfl)
@[simp] theorem Device.setInst_hold (d : Device) (n : Nat) (f : PtpInst → PtpInst) : (d.setInst n f).hold = d.hold := (rfl)
@[simp] theorem Device.setInst_tdc (d : Device) (n : Nat) (f : PtpInst → PtpInst) : (d.setInst n f).tdc = d.tdc := (rfl)
@[simp] theorem Device.setInst_sky (d : Device) (n : Nat) (f : PtpInst → PtpInst) : (d.setInst n f).sky = d.sky := (rfl)
@[simp] theorem Device.setInst_ports (d : Device) (n : Nat) (f : PtpInst → PtpInst) : (d.setInst n f).ports = d.ports := (rfl)
@[simp] theorem Device.setInst_hall (d : Device) (n : Nat) (f : PtpInst → PtpInst) : (d.setInst n f).hall = d.hall := (rfl)
@[simp] theorem Device.setInst_parl (d : Device) (n : Nat) (f : PtpInst → PtpInst) : (d.setInst n f).parl = d.parl := (rfl)
@[simp] theorem Device.setInst_ledger (d : Device) (n : Nat) (f : PtpInst → PtpInst) : (d.setInst n f).ledger = d.ledger := (rfl)
@[simp] theorem Device.setInst_strong (d : Device) (n : Nat) (f : PtpInst → PtpInst) : (d.setInst n f).strong = d.strong := (rfl)
@[simp] theorem Device.setInst_keyhole (d : Device) (n : Nat) (f : PtpInst → PtpInst) : (d.setInst n f).keyhole = d.keyhole := (rfl)
@[simp] theorem Device.setInst_study (d : Device) (n : Nat) (f : PtpInst → PtpInst) : (d.setInst n f).study = d.study := (rfl)
@[simp] theorem Device.setInst_power (d : Device) (n : Nat) (f : PtpInst → PtpInst) : (d.setInst n f).power = d.power := (rfl)
@[simp] theorem Device.setInst_models (d : Device) (n : Nat) (f : PtpInst → PtpInst) : (d.setInst n f).models = d.models := (rfl)
@[simp] theorem Device.setInst_outs (d : Device) (n : Nat) (f : PtpInst → PtpInst) : (d.setInst n f).outs = d.outs := (rfl)
@[simp] theorem Device.setInst_outbox (d : Device) (n : Nat) (f : PtpInst → PtpInst) : (d.setInst n f).outbox = d.outbox := (rfl)

@[simp] theorem Device.setParl_parl (d : Device) (f : Parl → Parl) : (d.setParl f).parl = f d.parl := (rfl)
@[simp] theorem Device.setParl_val (d : Device) (f : Parl → Parl) (k : Nat) : (d.setParl f).val k = d.val k := (rfl)
@[simp] theorem Device.setParl_num (d : Device) (f : Parl → Parl) (k : Nat) : (d.setParl f).num k = d.num k := (rfl)
@[simp] theorem Device.setParl_nat (d : Device) (f : Parl → Parl) (k : Nat) : (d.setParl f).nat k = d.nat k := (rfl)
@[simp] theorem Device.setParl_oct (d : Device) (f : Parl → Parl) (k : Nat) : (d.setParl f).oct k = d.oct k := (rfl)
@[simp] theorem Device.setParl_obj (d : Device) (f : Parl → Parl) : (d.setParl f).obj = d.obj := (rfl)
@[simp] theorem Device.setParl_staged (d : Device) (f : Parl → Parl) : (d.setParl f).staged = d.staged := (rfl)
@[simp] theorem Device.setParl_lost (d : Device) (f : Parl → Parl) : (d.setParl f).lost = d.lost := (rfl)
@[simp] theorem Device.setParl_draws (d : Device) (f : Parl → Parl) : (d.setParl f).draws = d.draws := (rfl)
@[simp] theorem Device.setParl_clock (d : Device) (f : Parl → Parl) : (d.setParl f).clock = d.clock := (rfl)
@[simp] theorem Device.setParl_foyer (d : Device) (f : Parl → Parl) : (d.setParl f).foyer = d.foyer := (rfl)
@[simp] theorem Device.setParl_commit (d : Device) (f : Parl → Parl) : (d.setParl f).commit = d.commit := (rfl)
@[simp] theorem Device.setParl_attic (d : Device) (f : Parl → Parl) : (d.setParl f).attic = d.attic := (rfl)
@[simp] theorem Device.setParl_cellar (d : Device) (f : Parl → Parl) : (d.setParl f).cellar = d.cellar := (rfl)
@[simp] theorem Device.setParl_therm (d : Device) (f : Parl → Parl) : (d.setParl f).therm = d.therm := (rfl)
@[simp] theorem Device.setParl_hold (d : Device) (f : Parl → Parl) : (d.setParl f).hold = d.hold := (rfl)
@[simp] theorem Device.setParl_tdc (d : Device) (f : Parl → Parl) : (d.setParl f).tdc = d.tdc := (rfl)
@[simp] theorem Device.setParl_sky (d : Device) (f : Parl → Parl) : (d.setParl f).sky = d.sky := (rfl)
@[simp] theorem Device.setParl_ports (d : Device) (f : Parl → Parl) : (d.setParl f).ports = d.ports := (rfl)
@[simp] theorem Device.setParl_hall (d : Device) (f : Parl → Parl) : (d.setParl f).hall = d.hall := (rfl)
@[simp] theorem Device.setParl_ptp (d : Device) (f : Parl → Parl) : (d.setParl f).ptp = d.ptp := (rfl)
@[simp] theorem Device.setParl_ledger (d : Device) (f : Parl → Parl) : (d.setParl f).ledger = d.ledger := (rfl)
@[simp] theorem Device.setParl_strong (d : Device) (f : Parl → Parl) : (d.setParl f).strong = d.strong := (rfl)
@[simp] theorem Device.setParl_keyhole (d : Device) (f : Parl → Parl) : (d.setParl f).keyhole = d.keyhole := (rfl)
@[simp] theorem Device.setParl_study (d : Device) (f : Parl → Parl) : (d.setParl f).study = d.study := (rfl)
@[simp] theorem Device.setParl_power (d : Device) (f : Parl → Parl) : (d.setParl f).power = d.power := (rfl)
@[simp] theorem Device.setParl_models (d : Device) (f : Parl → Parl) : (d.setParl f).models = d.models := (rfl)
@[simp] theorem Device.setParl_outs (d : Device) (f : Parl → Parl) : (d.setParl f).outs = d.outs := (rfl)
@[simp] theorem Device.setParl_outbox (d : Device) (f : Parl → Parl) : (d.setParl f).outbox = d.outbox := (rfl)

@[simp] theorem Device.setSky_sky (d : Device) (f : Sky → Sky) : (d.setSky f).sky = f d.sky := (rfl)
@[simp] theorem Device.setSky_val (d : Device) (f : Sky → Sky) (k : Nat) : (d.setSky f).val k = d.val k := (rfl)
@[simp] theorem Device.setSky_num (d : Device) (f : Sky → Sky) (k : Nat) : (d.setSky f).num k = d.num k := (rfl)
@[simp] theorem Device.setSky_nat (d : Device) (f : Sky → Sky) (k : Nat) : (d.setSky f).nat k = d.nat k := (rfl)
@[simp] theorem Device.setSky_oct (d : Device) (f : Sky → Sky) (k : Nat) : (d.setSky f).oct k = d.oct k := (rfl)
@[simp] theorem Device.setSky_obj (d : Device) (f : Sky → Sky) : (d.setSky f).obj = d.obj := (rfl)
@[simp] theorem Device.setSky_staged (d : Device) (f : Sky → Sky) : (d.setSky f).staged = d.staged := (rfl)
@[simp] theorem Device.setSky_lost (d : Device) (f : Sky → Sky) : (d.setSky f).lost = d.lost := (rfl)
@[simp] theorem Device.setSky_draws (d : Device) (f : Sky → Sky) : (d.setSky f).draws = d.draws := (rfl)
@[simp] theorem Device.setSky_clock (d : Device) (f : Sky → Sky) : (d.setSky f).clock = d.clock := (rfl)
@[simp] theorem Device.setSky_foyer (d : Device) (f : Sky → Sky) : (d.setSky f).foyer = d.foyer := (rfl)
@[simp] theorem Device.setSky_commit (d : Device) (f : Sky → Sky) : (d.setSky f).commit = d.commit := (rfl)
@[simp] theorem Device.setSky_attic (d : Device) (f : Sky → Sky) : (d.setSky f).attic = d.attic := (rfl)
@[simp] theorem Device.setSky_cellar (d : Device) (f : Sky → Sky) : (d.setSky f).cellar = d.cellar := (rfl)
@[simp] theorem Device.setSky_therm (d : Device) (f : Sky → Sky) : (d.setSky f).therm = d.therm := (rfl)
@[simp] theorem Device.setSky_hold (d : Device) (f : Sky → Sky) : (d.setSky f).hold = d.hold := (rfl)
@[simp] theorem Device.setSky_tdc (d : Device) (f : Sky → Sky) : (d.setSky f).tdc = d.tdc := (rfl)
@[simp] theorem Device.setSky_ports (d : Device) (f : Sky → Sky) : (d.setSky f).ports = d.ports := (rfl)
@[simp] theorem Device.setSky_hall (d : Device) (f : Sky → Sky) : (d.setSky f).hall = d.hall := (rfl)
@[simp] theorem Device.setSky_parl (d : Device) (f : Sky → Sky) : (d.setSky f).parl = d.parl := (rfl)
@[simp] theorem Device.setSky_ptp (d : Device) (f : Sky → Sky) : (d.setSky f).ptp = d.ptp := (rfl)
@[simp] theorem Device.setSky_ledger (d : Device) (f : Sky → Sky) : (d.setSky f).ledger = d.ledger := (rfl)
@[simp] theorem Device.setSky_strong (d : Device) (f : Sky → Sky) : (d.setSky f).strong = d.strong := (rfl)
@[simp] theorem Device.setSky_keyhole (d : Device) (f : Sky → Sky) : (d.setSky f).keyhole = d.keyhole := (rfl)
@[simp] theorem Device.setSky_study (d : Device) (f : Sky → Sky) : (d.setSky f).study = d.study := (rfl)
@[simp] theorem Device.setSky_power (d : Device) (f : Sky → Sky) : (d.setSky f).power = d.power := (rfl)
@[simp] theorem Device.setSky_models (d : Device) (f : Sky → Sky) : (d.setSky f).models = d.models := (rfl)
@[simp] theorem Device.setSky_outs (d : Device) (f : Sky → Sky) : (d.setSky f).outs = d.outs := (rfl)
@[simp] theorem Device.setSky_outbox (d : Device) (f : Sky → Sky) : (d.setSky f).outbox = d.outbox := (rfl)

@[simp] theorem Device.setStrong_strong (d : Device) (f : Strong → Strong) : (d.setStrong f).strong = f d.strong := (rfl)
@[simp] theorem Device.setStrong_val (d : Device) (f : Strong → Strong) (k : Nat) : (d.setStrong f).val k = d.val k := (rfl)
@[simp] theorem Device.setStrong_num (d : Device) (f : Strong → Strong) (k : Nat) : (d.setStrong f).num k = d.num k := (rfl)
@[simp] theorem Device.setStrong_nat (d : Device) (f : Strong → Strong) (k : Nat) : (d.setStrong f).nat k = d.nat k := (rfl)
@[simp] theorem Device.setStrong_oct (d : Device) (f : Strong → Strong) (k : Nat) : (d.setStrong f).oct k = d.oct k := (rfl)
@[simp] theorem Device.setStrong_obj (d : Device) (f : Strong → Strong) : (d.setStrong f).obj = d.obj := (rfl)
@[simp] theorem Device.setStrong_staged (d : Device) (f : Strong → Strong) : (d.setStrong f).staged = d.staged := (rfl)
@[simp] theorem Device.setStrong_lost (d : Device) (f : Strong → Strong) : (d.setStrong f).lost = d.lost := (rfl)
@[simp] theorem Device.setStrong_draws (d : Device) (f : Strong → Strong) : (d.setStrong f).draws = d.draws := (rfl)
@[simp] theorem Device.setStrong_clock (d : Device) (f : Strong → Strong) : (d.setStrong f).clock = d.clock := (rfl)
@[simp] theorem Device.setStrong_foyer (d : Device) (f : Strong → Strong) : (d.setStrong f).foyer = d.foyer := (rfl)
@[simp] theorem Device.setStrong_commit (d : Device) (f : Strong → Strong) : (d.setStrong f).commit = d.commit := (rfl)
@[simp] theorem Device.setStrong_attic (d : Device) (f : Strong → Strong) : (d.setStrong f).attic = d.attic := (rfl)
@[simp] theorem Device.setStrong_cellar (d : Device) (f : Strong → Strong) : (d.setStrong f).cellar = d.cellar := (rfl)
@[simp] theorem Device.setStrong_therm (d : Device) (f : Strong → Strong) : (d.setStrong f).therm = d.therm := (rfl)
@[simp] theorem Device.setStrong_hold (d : Device) (f : Strong → Strong) : (d.setStrong f).hold = d.hold := (rfl)
@[simp] theorem Device.setStrong_tdc (d : Device) (f : Strong → Strong) : (d.setStrong f).tdc = d.tdc := (rfl)
@[simp] theorem Device.setStrong_sky (d : Device) (f : Strong → Strong) : (d.setStrong f).sky = d.sky := (rfl)
@[simp] theorem Device.setStrong_ports (d : Device) (f : Strong → Strong) : (d.setStrong f).ports = d.ports := (rfl)
@[simp] theorem Device.setStrong_hall (d : Device) (f : Strong → Strong) : (d.setStrong f).hall = d.hall := (rfl)
@[simp] theorem Device.setStrong_parl (d : Device) (f : Strong → Strong) : (d.setStrong f).parl = d.parl := (rfl)
@[simp] theorem Device.setStrong_ptp (d : Device) (f : Strong → Strong) : (d.setStrong f).ptp = d.ptp := (rfl)
@[simp] theorem Device.setStrong_ledger (d : Device) (f : Strong → Strong) : (d.setStrong f).ledger = d.ledger := (rfl)
@[simp] theorem Device.setStrong_keyhole (d : Device) (f : Strong → Strong) : (d.setStrong f).keyhole = d.keyhole := (rfl)
@[simp] theorem Device.setStrong_study (d : Device) (f : Strong → Strong) : (d.setStrong f).study = d.study := (rfl)
@[simp] theorem Device.setStrong_power (d : Device) (f : Strong → Strong) : (d.setStrong f).power = d.power := (rfl)
@[simp] theorem Device.setStrong_models (d : Device) (f : Strong → Strong) : (d.setStrong f).models = d.models := (rfl)
@[simp] theorem Device.setStrong_outs (d : Device) (f : Strong → Strong) : (d.setStrong f).outs = d.outs := (rfl)
@[simp] theorem Device.setStrong_outbox (d : Device) (f : Strong → Strong) : (d.setStrong f).outbox = d.outbox := (rfl)

@[simp] theorem Device.setKeyhole_keyhole (d : Device) (f : Keyhole → Keyhole) : (d.setKeyhole f).keyhole = f d.keyhole := (rfl)
@[simp] theorem Device.setKeyhole_val (d : Device) (f : Keyhole → Keyhole) (k : Nat) : (d.setKeyhole f).val k = d.val k := (rfl)
@[simp] theorem Device.setKeyhole_num (d : Device) (f : Keyhole → Keyhole) (k : Nat) : (d.setKeyhole f).num k = d.num k := (rfl)
@[simp] theorem Device.setKeyhole_nat (d : Device) (f : Keyhole → Keyhole) (k : Nat) : (d.setKeyhole f).nat k = d.nat k := (rfl)
@[simp] theorem Device.setKeyhole_oct (d : Device) (f : Keyhole → Keyhole) (k : Nat) : (d.setKeyhole f).oct k = d.oct k := (rfl)
@[simp] theorem Device.setKeyhole_obj (d : Device) (f : Keyhole → Keyhole) : (d.setKeyhole f).obj = d.obj := (rfl)
@[simp] theorem Device.setKeyhole_staged (d : Device) (f : Keyhole → Keyhole) : (d.setKeyhole f).staged = d.staged := (rfl)
@[simp] theorem Device.setKeyhole_lost (d : Device) (f : Keyhole → Keyhole) : (d.setKeyhole f).lost = d.lost := (rfl)
@[simp] theorem Device.setKeyhole_draws (d : Device) (f : Keyhole → Keyhole) : (d.setKeyhole f).draws = d.draws := (rfl)
@[simp] theorem Device.setKeyhole_clock (d : Device) (f : Keyhole → Keyhole) : (d.setKeyhole f).clock = d.clock := (rfl)
@[simp] theorem Device.setKeyhole_foyer (d : Device) (f : Keyhole → Keyhole) : (d.setKeyhole f).foyer = d.foyer := (rfl)
@[simp] theorem Device.setKeyhole_commit (d : Device) (f : Keyhole → Keyhole) : (d.setKeyhole f).commit = d.commit := (rfl)
@[simp] theorem Device.setKeyhole_attic (d : Device) (f : Keyhole → Keyhole) : (d.setKeyhole f).attic = d.attic := (rfl)
@[simp] theorem Device.setKeyhole_cellar (d : Device) (f : Keyhole → Keyhole) : (d.setKeyhole f).cellar = d.cellar := (rfl)
@[simp] theorem Device.setKeyhole_therm (d : Device) (f : Keyhole → Keyhole) : (d.setKeyhole f).therm = d.therm := (rfl)
@[simp] theorem Device.setKeyhole_hold (d : Device) (f : Keyhole → Keyhole) : (d.setKeyhole f).hold = d.hold := (rfl)
@[simp] theorem Device.setKeyhole_tdc (d : Device) (f : Keyhole → Keyhole) : (d.setKeyhole f).tdc = d.tdc := (rfl)
@[simp] theorem Device.setKeyhole_sky (d : Device) (f : Keyhole → Keyhole) : (d.setKeyhole f).sky = d.sky := (rfl)
@[simp] theorem Device.setKeyhole_ports (d : Device) (f : Keyhole → Keyhole) : (d.setKeyhole f).ports = d.ports := (rfl)
@[simp] theorem Device.setKeyhole_hall (d : Device) (f : Keyhole → Keyhole) : (d.setKeyhole f).hall = d.hall := (rfl)
@[simp] theorem Device.setKeyhole_parl (d : Device) (f : Keyhole → Keyhole) : (d.setKeyhole f).parl = d.parl := (rfl)
@[simp] theorem Device.setKeyhole_ptp (d : Device) (f : Keyhole → Keyhole) : (d.setKeyhole f).ptp = d.ptp := (rfl)
@[simp] theorem Device.setKeyhole_ledger (d : Device) (f : Keyhole → Keyhole) : (d.setKeyhole f).ledger = d.ledger := (rfl)
@[simp] theorem Device.setKeyhole_strong (d : Device) (f : Keyhole → Keyhole) : (d.setKeyhole f).strong = d.strong := (rfl)
@[simp] theorem Device.setKeyhole_study (d : Device) (f : Keyhole → Keyhole) : (d.setKeyhole f).study = d.study := (rfl)
@[simp] theorem Device.setKeyhole_power (d : Device) (f : Keyhole → Keyhole) : (d.setKeyhole f).power = d.power := (rfl)
@[simp] theorem Device.setKeyhole_models (d : Device) (f : Keyhole → Keyhole) : (d.setKeyhole f).models = d.models := (rfl)
@[simp] theorem Device.setKeyhole_outs (d : Device) (f : Keyhole → Keyhole) : (d.setKeyhole f).outs = d.outs := (rfl)
@[simp] theorem Device.setKeyhole_outbox (d : Device) (f : Keyhole → Keyhole) : (d.setKeyhole f).outbox = d.outbox := (rfl)

@[simp] theorem Device.setFoyer_foyer (d : Device) (f : Foyer → Foyer) : (d.setFoyer f).foyer = f d.foyer := (rfl)
@[simp] theorem Device.setFoyer_val (d : Device) (f : Foyer → Foyer) (k : Nat) : (d.setFoyer f).val k = d.val k := (rfl)
@[simp] theorem Device.setFoyer_num (d : Device) (f : Foyer → Foyer) (k : Nat) : (d.setFoyer f).num k = d.num k := (rfl)
@[simp] theorem Device.setFoyer_nat (d : Device) (f : Foyer → Foyer) (k : Nat) : (d.setFoyer f).nat k = d.nat k := (rfl)
@[simp] theorem Device.setFoyer_oct (d : Device) (f : Foyer → Foyer) (k : Nat) : (d.setFoyer f).oct k = d.oct k := (rfl)
@[simp] theorem Device.setFoyer_obj (d : Device) (f : Foyer → Foyer) : (d.setFoyer f).obj = d.obj := (rfl)
@[simp] theorem Device.setFoyer_staged (d : Device) (f : Foyer → Foyer) : (d.setFoyer f).staged = d.staged := (rfl)
@[simp] theorem Device.setFoyer_lost (d : Device) (f : Foyer → Foyer) : (d.setFoyer f).lost = d.lost := (rfl)
@[simp] theorem Device.setFoyer_draws (d : Device) (f : Foyer → Foyer) : (d.setFoyer f).draws = d.draws := (rfl)
@[simp] theorem Device.setFoyer_clock (d : Device) (f : Foyer → Foyer) : (d.setFoyer f).clock = d.clock := (rfl)
@[simp] theorem Device.setFoyer_commit (d : Device) (f : Foyer → Foyer) : (d.setFoyer f).commit = d.commit := (rfl)
@[simp] theorem Device.setFoyer_attic (d : Device) (f : Foyer → Foyer) : (d.setFoyer f).attic = d.attic := (rfl)
@[simp] theorem Device.setFoyer_cellar (d : Device) (f : Foyer → Foyer) : (d.setFoyer f).cellar = d.cellar := (rfl)
@[simp] theorem Device.setFoyer_therm (d : Device) (f : Foyer → Foyer) : (d.setFoyer f).therm = d.therm := (rfl)
@[simp] theorem Device.setFoyer_hold (d : Device) (f : Foyer → Foyer) : (d.setFoyer f).hold = d.hold := (rfl)
@[simp] theorem Device.setFoyer_tdc (d : Device) (f : Foyer → Foyer) : (d.setFoyer f).tdc = d.tdc := (rfl)
@[simp] theorem Device.setFoyer_sky (d : Device) (f : Foyer → Foyer) : (d.setFoyer f).sky = d.sky := (rfl)
@[simp] theorem Device.setFoyer_ports (d : Device) (f : Foyer → Foyer) : (d.setFoyer f).ports = d.ports := (rfl)
@[simp] theorem Device.setFoyer_hall (d : Device) (f : Foyer → Foyer) : (d.setFoyer f).hall = d.hall := (rfl)
@[simp] theorem Device.setFoyer_parl (d : Device) (f : Foyer → Foyer) : (d.setFoyer f).parl = d.parl := (rfl)
@[simp] theorem Device.setFoyer_ptp (d : Device) (f : Foyer → Foyer) : (d.setFoyer f).ptp = d.ptp := (rfl)
@[simp] theorem Device.setFoyer_ledger (d : Device) (f : Foyer → Foyer) : (d.setFoyer f).ledger = d.ledger := (rfl)
@[simp] theorem Device.setFoyer_strong (d : Device) (f : Foyer → Foyer) : (d.setFoyer f).strong = d.strong := (rfl)
@[simp] theorem Device.setFoyer_keyhole (d : Device) (f : Foyer → Foyer) : (d.setFoyer f).keyhole = d.keyhole := (rfl)
@[simp] theorem Device.setFoyer_study (d : Device) (f : Foyer → Foyer) : (d.setFoyer f).study = d.study := (rfl)
@[simp] theorem Device.setFoyer_power (d : Device) (f : Foyer → Foyer) : (d.setFoyer f).power = d.power := (rfl)
@[simp] theorem Device.setFoyer_models (d : Device) (f : Foyer → Foyer) : (d.setFoyer f).models = d.models := (rfl)
@[simp] theorem Device.setFoyer_outs (d : Device) (f : Foyer → Foyer) : (d.setFoyer f).outs = d.outs := (rfl)
@[simp] theorem Device.setFoyer_outbox (d : Device) (f : Foyer → Foyer) : (d.setFoyer f).outbox = d.outbox := (rfl)

@[simp] theorem Device.setAttic_attic (d : Device) (f : Attic → Attic) : (d.setAttic f).attic = f d.attic := (rfl)
@[simp] theorem Device.setAttic_val (d : Device) (f : Attic → Attic) (k : Nat) : (d.setAttic f).val k = d.val k := (rfl)
@[simp] theorem Device.setAttic_num (d : Device) (f : Attic → Attic) (k : Nat) : (d.setAttic f).num k = d.num k := (rfl)
@[simp] theorem Device.setAttic_nat (d : Device) (f : Attic → Attic) (k : Nat) : (d.setAttic f).nat k = d.nat k := (rfl)
@[simp] theorem Device.setAttic_oct (d : Device) (f : Attic → Attic) (k : Nat) : (d.setAttic f).oct k = d.oct k := (rfl)
@[simp] theorem Device.setAttic_obj (d : Device) (f : Attic → Attic) : (d.setAttic f).obj = d.obj := (rfl)
@[simp] theorem Device.setAttic_staged (d : Device) (f : Attic → Attic) : (d.setAttic f).staged = d.staged := (rfl)
@[simp] theorem Device.setAttic_lost (d : Device) (f : Attic → Attic) : (d.setAttic f).lost = d.lost := (rfl)
@[simp] theorem Device.setAttic_draws (d : Device) (f : Attic → Attic) : (d.setAttic f).draws = d.draws := (rfl)
@[simp] theorem Device.setAttic_clock (d : Device) (f : Attic → Attic) : (d.setAttic f).clock = d.clock := (rfl)
@[simp] theorem Device.setAttic_foyer (d : Device) (f : Attic → Attic) : (d.setAttic f).foyer = d.foyer := (rfl)
@[simp] theorem Device.setAttic_commit (d : Device) (f : Attic → Attic) : (d.setAttic f).commit = d.commit := (rfl)
@[simp] theorem Device.setAttic_cellar (d : Device) (f : Attic → Attic) : (d.setAttic f).cellar = d.cellar := (rfl)
@[simp] theorem Device.setAttic_therm (d : Device) (f : Attic → Attic) : (d.setAttic f).therm = d.therm := (rfl)
@[simp] theorem Device.setAttic_hold (d : Device) (f : Attic → Attic) : (d.setAttic f).hold = d.hold := (rfl)
@[simp] theorem Device.setAttic_tdc (d : Device) (f : Attic → Attic) : (d.setAttic f).tdc = d.tdc := (rfl)
@[simp] theorem Device.setAttic_sky (d : Device) (f : Attic → Attic) : (d.setAttic f).sky = d.sky := (rfl)
@[simp] theorem Device.setAttic_ports (d : Device) (f : Attic → Attic) : (d.setAttic f).ports = d.ports := (rfl)
@[simp] theorem Device.setAttic_hall (d : Device) (f : Attic → Attic) : (d.setAttic f).hall = d.hall := (rfl)
@[simp] theorem Device.setAttic_parl (d : Device) (f : Attic → Attic) : (d.setAttic f).parl = d.parl := (rfl)
@[simp] theorem Device.setAttic_ptp (d : Device) (f : Attic → Attic) : (d.setAttic f).ptp = d.ptp := (rfl)
@[simp] theorem Device.setAttic_ledger (d : Device) (f : Attic → Attic) : (d.setAttic f).ledger = d.ledger := (rfl)
@[simp] theorem Device.setAttic_strong (d : Device) (f : Attic → Attic) : (d.setAttic f).strong = d.strong := (rfl)
@[simp] theorem Device.setAttic_keyhole (d : Device) (f : Attic → Attic) : (d.setAttic f).keyhole = d.keyhole := (rfl)
@[simp] theorem Device.setAttic_study (d : Device) (f : Attic → Attic) : (d.setAttic f).study = d.study := (rfl)
@[simp] theorem Device.setAttic_power (d : Device) (f : Attic → Attic) : (d.setAttic f).power = d.power := (rfl)
@[simp] theorem Device.setAttic_models (d : Device) (f : Attic → Attic) : (d.setAttic f).models = d.models := (rfl)
@[simp] theorem Device.setAttic_outs (d : Device) (f : Attic → Attic) : (d.setAttic f).outs = d.outs := (rfl)
@[simp] theorem Device.setAttic_outbox (d : Device) (f : Attic → Attic) : (d.setAttic f).outbox = d.outbox := (rfl)

@[simp] theorem Device.setStudy_study (d : Device) (f : Study → Study) : (d.setStudy f).study = f d.study := (rfl)
@[simp] theorem Device.setStudy_val (d : Device) (f : Study → Study) (k : Nat) : (d.setStudy f).val k = d.val k := (rfl)
@[simp] theorem Device.setStudy_num (d : Device) (f : Study → Study) (k : Nat) : (d.setStudy f).num k = d.num k := (rfl)
@[simp] theorem Device.setStudy_nat (d : Device) (f : Study → Study) (k : Nat) : (d.setStudy f).nat k = d.nat k := (rfl)
@[simp] theorem Device.setStudy_oct (d : Device) (f : Study → Study) (k : Nat) : (d.setStudy f).oct k = d.oct k := (rfl)
@[simp] theorem Device.setStudy_obj (d : Device) (f : Study → Study) : (d.setStudy f).obj = d.obj := (rfl)
@[simp] theorem Device.setStudy_staged (d : Device) (f : Study → Study) : (d.setStudy f).staged = d.staged := (rfl)
@[simp] theorem Device.setStudy_lost (d : Device) (f : Study → Study) : (d.setStudy f).lost = d.lost := (rfl)
@[simp] theorem Device.setStudy_draws (d : Device) (f : Study → Study) : (d.setStudy f).draws = d.draws := (rfl)
@[simp] theorem Device.setStudy_clock (d : Device) (f : Study → Study) : (d.setStudy f).clock = d.clock := (rfl)
@[simp] theorem Device.setStudy_foyer (d : Device) (f : Study → Study) : (d.setStudy f).foyer = d.foyer := (rfl)
@[simp] theorem Device.setStudy_commit (d : Device) (f : Study → Study) : (d.setStudy f).commit = d.commit := (rfl)
@[simp] theorem Device.setStudy_attic (d : Device) (f : Study → Study) : (d.setStudy f).attic = d.attic := (rfl)
@[simp] theorem Device.setStudy_cellar (d : Device) (f : Study → Study) : (d.setStudy f).cellar = d.cellar := (rfl)
@[simp] theorem Device.setStudy_therm (d : Device) (f : Study → Study) : (d.setStudy f).therm = d.therm := (rfl)
@[simp] theorem Device.setStudy_hold (d : Device) (f : Study → Study) : (d.setStudy f).hold = d.hold := (rfl)
@[simp] theorem Device.setStudy_tdc (d : Device) (f : Study → Study) : (d.setStudy f).tdc = d.tdc := (rfl)
@[simp] theorem Device.setStudy_sky (d : Device) (f : Study → Study) : (d.setStudy f).sky = d.sky := (rfl)
@[simp] theorem Device.setStudy_ports (d : Device) (f : Study → Study) : (d.setStudy f).ports = d.ports := (rfl)
@[simp] theorem Device.setStudy_hall (d : Device) (f : Study → Study) : (d.setStudy f).hall = d.hall := (rfl)
@[simp] theorem Device.setStudy_parl (d : Device) (f : Study → Study) : (d.setStudy f).parl = d.parl := (rfl)
@[simp] theorem Device.setStudy_ptp (d : Device) (f : Study → Study) : (d.setStudy f).ptp = d.ptp := (rfl)
@[simp] theorem Device.setStudy_ledger (d : Device) (f : Study → Study) : (d.setStudy f).ledger = d.ledger := (rfl)
@[simp] theorem Device.setStudy_strong (d : Device) (f : Study → Study) : (d.setStudy f).strong = d.strong := (rfl)
@[simp] theorem Device.setStudy_keyhole (d : Device) (f : Study → Study) : (d.setStudy f).keyhole = d.keyhole := (rfl)
@[simp] theorem Device.setStudy_power (d : Device) (f : Study → Study) : (d.setStudy f).power = d.power := (rfl)
@[simp] theorem Device.setStudy_models (d : Device) (f : Study → Study) : (d.setStudy f).models = d.models := (rfl)
@[simp] theorem Device.setStudy_outs (d : Device) (f : Study → Study) : (d.setStudy f).outs = d.outs := (rfl)
@[simp] theorem Device.setStudy_outbox (d : Device) (f : Study → Study) : (d.setStudy f).outbox = d.outbox := (rfl)

@[simp] theorem Device.setPort_val (d : Device) (n : Nat) (f : PortUnit → PortUnit) (k : Nat) : (d.setPort n f).val k = d.val k := (rfl)
@[simp] theorem Device.setPort_num (d : Device) (n : Nat) (f : PortUnit → PortUnit) (k : Nat) : (d.setPort n f).num k = d.num k := (rfl)
@[simp] theorem Device.setPort_nat (d : Device) (n : Nat) (f : PortUnit → PortUnit) (k : Nat) : (d.setPort n f).nat k = d.nat k := (rfl)
@[simp] theorem Device.setPort_oct (d : Device) (n : Nat) (f : PortUnit → PortUnit) (k : Nat) : (d.setPort n f).oct k = d.oct k := (rfl)
@[simp] theorem Device.setPort_obj (d : Device) (n : Nat) (f : PortUnit → PortUnit) : (d.setPort n f).obj = d.obj := (rfl)
@[simp] theorem Device.setPort_staged (d : Device) (n : Nat) (f : PortUnit → PortUnit) : (d.setPort n f).staged = d.staged := (rfl)
@[simp] theorem Device.setPort_lost (d : Device) (n : Nat) (f : PortUnit → PortUnit) : (d.setPort n f).lost = d.lost := (rfl)
@[simp] theorem Device.setPort_draws (d : Device) (n : Nat) (f : PortUnit → PortUnit) : (d.setPort n f).draws = d.draws := (rfl)
@[simp] theorem Device.setPort_clock (d : Device) (n : Nat) (f : PortUnit → PortUnit) : (d.setPort n f).clock = d.clock := (rfl)
@[simp] theorem Device.setPort_foyer (d : Device) (n : Nat) (f : PortUnit → PortUnit) : (d.setPort n f).foyer = d.foyer := (rfl)
@[simp] theorem Device.setPort_commit (d : Device) (n : Nat) (f : PortUnit → PortUnit) : (d.setPort n f).commit = d.commit := (rfl)
@[simp] theorem Device.setPort_attic (d : Device) (n : Nat) (f : PortUnit → PortUnit) : (d.setPort n f).attic = d.attic := (rfl)
@[simp] theorem Device.setPort_cellar (d : Device) (n : Nat) (f : PortUnit → PortUnit) : (d.setPort n f).cellar = d.cellar := (rfl)
@[simp] theorem Device.setPort_therm (d : Device) (n : Nat) (f : PortUnit → PortUnit) : (d.setPort n f).therm = d.therm := (rfl)
@[simp] theorem Device.setPort_hold (d : Device) (n : Nat) (f : PortUnit → PortUnit) : (d.setPort n f).hold = d.hold := (rfl)
@[simp] theorem Device.setPort_tdc (d : Device) (n : Nat) (f : PortUnit → PortUnit) : (d.setPort n f).tdc = d.tdc := (rfl)
@[simp] theorem Device.setPort_sky (d : Device) (n : Nat) (f : PortUnit → PortUnit) : (d.setPort n f).sky = d.sky := (rfl)
@[simp] theorem Device.setPort_hall (d : Device) (n : Nat) (f : PortUnit → PortUnit) : (d.setPort n f).hall = d.hall := (rfl)
@[simp] theorem Device.setPort_parl (d : Device) (n : Nat) (f : PortUnit → PortUnit) : (d.setPort n f).parl = d.parl := (rfl)
@[simp] theorem Device.setPort_ptp (d : Device) (n : Nat) (f : PortUnit → PortUnit) : (d.setPort n f).ptp = d.ptp := (rfl)
@[simp] theorem Device.setPort_ledger (d : Device) (n : Nat) (f : PortUnit → PortUnit) : (d.setPort n f).ledger = d.ledger := (rfl)
@[simp] theorem Device.setPort_strong (d : Device) (n : Nat) (f : PortUnit → PortUnit) : (d.setPort n f).strong = d.strong := (rfl)
@[simp] theorem Device.setPort_keyhole (d : Device) (n : Nat) (f : PortUnit → PortUnit) : (d.setPort n f).keyhole = d.keyhole := (rfl)
@[simp] theorem Device.setPort_study (d : Device) (n : Nat) (f : PortUnit → PortUnit) : (d.setPort n f).study = d.study := (rfl)
@[simp] theorem Device.setPort_power (d : Device) (n : Nat) (f : PortUnit → PortUnit) : (d.setPort n f).power = d.power := (rfl)
@[simp] theorem Device.setPort_models (d : Device) (n : Nat) (f : PortUnit → PortUnit) : (d.setPort n f).models = d.models := (rfl)
@[simp] theorem Device.setPort_outs (d : Device) (n : Nat) (f : PortUnit → PortUnit) : (d.setPort n f).outs = d.outs := (rfl)
@[simp] theorem Device.setPort_outbox (d : Device) (n : Nat) (f : PortUnit → PortUnit) : (d.setPort n f).outbox = d.outbox := (rfl)

@[simp] theorem Device.setLedger_ledger (d : Device) (f : Ledger → Ledger) : (d.setLedger f).ledger = f d.ledger := (rfl)
@[simp] theorem Device.setLedger_val (d : Device) (f : Ledger → Ledger) (k : Nat) : (d.setLedger f).val k = d.val k := (rfl)
@[simp] theorem Device.setLedger_num (d : Device) (f : Ledger → Ledger) (k : Nat) : (d.setLedger f).num k = d.num k := (rfl)
@[simp] theorem Device.setLedger_nat (d : Device) (f : Ledger → Ledger) (k : Nat) : (d.setLedger f).nat k = d.nat k := (rfl)
@[simp] theorem Device.setLedger_oct (d : Device) (f : Ledger → Ledger) (k : Nat) : (d.setLedger f).oct k = d.oct k := (rfl)
@[simp] theorem Device.setLedger_obj (d : Device) (f : Ledger → Ledger) : (d.setLedger f).obj = d.obj := (rfl)
@[simp] theorem Device.setLedger_staged (d : Device) (f : Ledger → Ledger) : (d.setLedger f).staged = d.staged := (rfl)
@[simp] theorem Device.setLedger_lost (d : Device) (f : Ledger → Ledger) : (d.setLedger f).lost = d.lost := (rfl)
@[simp] theorem Device.setLedger_draws (d : Device) (f : Ledger → Ledger) : (d.setLedger f).draws = d.draws := (rfl)
@[simp] theorem Device.setLedger_clock (d : Device) (f : Ledger → Ledger) : (d.setLedger f).clock = d.clock := (rfl)
@[simp] theorem Device.setLedger_foyer (d : Device) (f : Ledger → Ledger) : (d.setLedger f).foyer = d.foyer := (rfl)
@[simp] theorem Device.setLedger_commit (d : Device) (f : Ledger → Ledger) : (d.setLedger f).commit = d.commit := (rfl)
@[simp] theorem Device.setLedger_attic (d : Device) (f : Ledger → Ledger) : (d.setLedger f).attic = d.attic := (rfl)
@[simp] theorem Device.setLedger_cellar (d : Device) (f : Ledger → Ledger) : (d.setLedger f).cellar = d.cellar := (rfl)
@[simp] theorem Device.setLedger_therm (d : Device) (f : Ledger → Ledger) : (d.setLedger f).therm = d.therm := (rfl)
@[simp] theorem Device.setLedger_hold (d : Device) (f : Ledger → Ledger) : (d.setLedger f).hold = d.hold := (rfl)
@[simp] theorem Device.setLedger_tdc (d : Device) (f : Ledger → Ledger) : (d.setLedger f).tdc = d.tdc := (rfl)
@[simp] theorem Device.setLedger_sky (d : Device) (f : Ledger → Ledger) : (d.setLedger f).sky = d.sky := (rfl)
@[simp] theorem Device.setLedger_ports (d : Device) (f : Ledger → Ledger) : (d.setLedger f).ports = d.ports := (rfl)
@[simp] theorem Device.setLedger_hall (d : Device) (f : Ledger → Ledger) : (d.setLedger f).hall = d.hall := (rfl)
@[simp] theorem Device.setLedger_parl (d : Device) (f : Ledger → Ledger) : (d.setLedger f).parl = d.parl := (rfl)
@[simp] theorem Device.setLedger_ptp (d : Device) (f : Ledger → Ledger) : (d.setLedger f).ptp = d.ptp := (rfl)
@[simp] theorem Device.setLedger_strong (d : Device) (f : Ledger → Ledger) : (d.setLedger f).strong = d.strong := (rfl)
@[simp] theorem Device.setLedger_keyhole (d : Device) (f : Ledger → Ledger) : (d.setLedger f).keyhole = d.keyhole := (rfl)
@[simp] theorem Device.setLedger_study (d : Device) (f : Ledger → Ledger) : (d.setLedger f).study = d.study := (rfl)
@[simp] theorem Device.setLedger_power (d : Device) (f : Ledger → Ledger) : (d.setLedger f).power = d.power := (rfl)
@[simp] theorem Device.setLedger_models (d : Device) (f : Ledger → Ledger) : (d.setLedger f).models = d.models := (rfl)
@[simp] theorem Device.setLedger_outs (d : Device) (f : Ledger → Ledger) : (d.setLedger f).outs = d.outs := (rfl)
@[simp] theorem Device.setLedger_outbox (d : Device) (f : Ledger → Ledger) : (d.setLedger f).outbox = d.outbox := (rfl)

@[simp] theorem Device.setCh_val (d : Device) (n : Nat) (f : TdcChannel → TdcChannel) (k : Nat) : (d.setCh n f).val k = d.val k := (rfl)
@[simp] theorem Device.setCh_num (d : Device) (n : Nat) (f : TdcChannel → TdcChannel) (k : Nat) : (d.setCh n f).num k = d.num k := (rfl)
@[simp] theorem Device.setCh_nat (d : Device) (n : Nat) (f : TdcChannel → TdcChannel) (k : Nat) : (d.setCh n f).nat k = d.nat k := (rfl)
@[simp] theorem Device.setCh_oct (d : Device) (n : Nat) (f : TdcChannel → TdcChannel) (k : Nat) : (d.setCh n f).oct k = d.oct k := (rfl)
@[simp] theorem Device.setCh_obj (d : Device) (n : Nat) (f : TdcChannel → TdcChannel) : (d.setCh n f).obj = d.obj := (rfl)
@[simp] theorem Device.setCh_staged (d : Device) (n : Nat) (f : TdcChannel → TdcChannel) : (d.setCh n f).staged = d.staged := (rfl)
@[simp] theorem Device.setCh_lost (d : Device) (n : Nat) (f : TdcChannel → TdcChannel) : (d.setCh n f).lost = d.lost := (rfl)
@[simp] theorem Device.setCh_draws (d : Device) (n : Nat) (f : TdcChannel → TdcChannel) : (d.setCh n f).draws = d.draws := (rfl)
@[simp] theorem Device.setCh_clock (d : Device) (n : Nat) (f : TdcChannel → TdcChannel) : (d.setCh n f).clock = d.clock := (rfl)
@[simp] theorem Device.setCh_foyer (d : Device) (n : Nat) (f : TdcChannel → TdcChannel) : (d.setCh n f).foyer = d.foyer := (rfl)
@[simp] theorem Device.setCh_commit (d : Device) (n : Nat) (f : TdcChannel → TdcChannel) : (d.setCh n f).commit = d.commit := (rfl)
@[simp] theorem Device.setCh_attic (d : Device) (n : Nat) (f : TdcChannel → TdcChannel) : (d.setCh n f).attic = d.attic := (rfl)
@[simp] theorem Device.setCh_cellar (d : Device) (n : Nat) (f : TdcChannel → TdcChannel) : (d.setCh n f).cellar = d.cellar := (rfl)
@[simp] theorem Device.setCh_therm (d : Device) (n : Nat) (f : TdcChannel → TdcChannel) : (d.setCh n f).therm = d.therm := (rfl)
@[simp] theorem Device.setCh_hold (d : Device) (n : Nat) (f : TdcChannel → TdcChannel) : (d.setCh n f).hold = d.hold := (rfl)
@[simp] theorem Device.setCh_sky (d : Device) (n : Nat) (f : TdcChannel → TdcChannel) : (d.setCh n f).sky = d.sky := (rfl)
@[simp] theorem Device.setCh_ports (d : Device) (n : Nat) (f : TdcChannel → TdcChannel) : (d.setCh n f).ports = d.ports := (rfl)
@[simp] theorem Device.setCh_hall (d : Device) (n : Nat) (f : TdcChannel → TdcChannel) : (d.setCh n f).hall = d.hall := (rfl)
@[simp] theorem Device.setCh_parl (d : Device) (n : Nat) (f : TdcChannel → TdcChannel) : (d.setCh n f).parl = d.parl := (rfl)
@[simp] theorem Device.setCh_ptp (d : Device) (n : Nat) (f : TdcChannel → TdcChannel) : (d.setCh n f).ptp = d.ptp := (rfl)
@[simp] theorem Device.setCh_ledger (d : Device) (n : Nat) (f : TdcChannel → TdcChannel) : (d.setCh n f).ledger = d.ledger := (rfl)
@[simp] theorem Device.setCh_strong (d : Device) (n : Nat) (f : TdcChannel → TdcChannel) : (d.setCh n f).strong = d.strong := (rfl)
@[simp] theorem Device.setCh_keyhole (d : Device) (n : Nat) (f : TdcChannel → TdcChannel) : (d.setCh n f).keyhole = d.keyhole := (rfl)
@[simp] theorem Device.setCh_study (d : Device) (n : Nat) (f : TdcChannel → TdcChannel) : (d.setCh n f).study = d.study := (rfl)
@[simp] theorem Device.setCh_power (d : Device) (n : Nat) (f : TdcChannel → TdcChannel) : (d.setCh n f).power = d.power := (rfl)
@[simp] theorem Device.setCh_models (d : Device) (n : Nat) (f : TdcChannel → TdcChannel) : (d.setCh n f).models = d.models := (rfl)
@[simp] theorem Device.setCh_outs (d : Device) (n : Nat) (f : TdcChannel → TdcChannel) : (d.setCh n f).outs = d.outs := (rfl)
@[simp] theorem Device.setCh_outbox (d : Device) (n : Nat) (f : TdcChannel → TdcChannel) : (d.setCh n f).outbox = d.outbox := (rfl)

@[simp] theorem Device.setEgress_val (d : Device) (n : Nat) (f : Egress → Egress) (k : Nat) : (d.setEgress n f).val k = d.val k := (rfl)
@[simp] theorem Device.setEgress_num (d : Device) (n : Nat) (f : Egress → Egress) (k : Nat) : (d.setEgress n f).num k = d.num k := (rfl)
@[simp] theorem Device.setEgress_nat (d : Device) (n : Nat) (f : Egress → Egress) (k : Nat) : (d.setEgress n f).nat k = d.nat k := (rfl)
@[simp] theorem Device.setEgress_oct (d : Device) (n : Nat) (f : Egress → Egress) (k : Nat) : (d.setEgress n f).oct k = d.oct k := (rfl)
@[simp] theorem Device.setEgress_obj (d : Device) (n : Nat) (f : Egress → Egress) : (d.setEgress n f).obj = d.obj := (rfl)
@[simp] theorem Device.setEgress_staged (d : Device) (n : Nat) (f : Egress → Egress) : (d.setEgress n f).staged = d.staged := (rfl)
@[simp] theorem Device.setEgress_lost (d : Device) (n : Nat) (f : Egress → Egress) : (d.setEgress n f).lost = d.lost := (rfl)
@[simp] theorem Device.setEgress_draws (d : Device) (n : Nat) (f : Egress → Egress) : (d.setEgress n f).draws = d.draws := (rfl)
@[simp] theorem Device.setEgress_clock (d : Device) (n : Nat) (f : Egress → Egress) : (d.setEgress n f).clock = d.clock := (rfl)
@[simp] theorem Device.setEgress_foyer (d : Device) (n : Nat) (f : Egress → Egress) : (d.setEgress n f).foyer = d.foyer := (rfl)
@[simp] theorem Device.setEgress_commit (d : Device) (n : Nat) (f : Egress → Egress) : (d.setEgress n f).commit = d.commit := (rfl)
@[simp] theorem Device.setEgress_attic (d : Device) (n : Nat) (f : Egress → Egress) : (d.setEgress n f).attic = d.attic := (rfl)
@[simp] theorem Device.setEgress_cellar (d : Device) (n : Nat) (f : Egress → Egress) : (d.setEgress n f).cellar = d.cellar := (rfl)
@[simp] theorem Device.setEgress_therm (d : Device) (n : Nat) (f : Egress → Egress) : (d.setEgress n f).therm = d.therm := (rfl)
@[simp] theorem Device.setEgress_hold (d : Device) (n : Nat) (f : Egress → Egress) : (d.setEgress n f).hold = d.hold := (rfl)
@[simp] theorem Device.setEgress_tdc (d : Device) (n : Nat) (f : Egress → Egress) : (d.setEgress n f).tdc = d.tdc := (rfl)
@[simp] theorem Device.setEgress_sky (d : Device) (n : Nat) (f : Egress → Egress) : (d.setEgress n f).sky = d.sky := (rfl)
@[simp] theorem Device.setEgress_ports (d : Device) (n : Nat) (f : Egress → Egress) : (d.setEgress n f).ports = d.ports := (rfl)
@[simp] theorem Device.setEgress_parl (d : Device) (n : Nat) (f : Egress → Egress) : (d.setEgress n f).parl = d.parl := (rfl)
@[simp] theorem Device.setEgress_ptp (d : Device) (n : Nat) (f : Egress → Egress) : (d.setEgress n f).ptp = d.ptp := (rfl)
@[simp] theorem Device.setEgress_ledger (d : Device) (n : Nat) (f : Egress → Egress) : (d.setEgress n f).ledger = d.ledger := (rfl)
@[simp] theorem Device.setEgress_strong (d : Device) (n : Nat) (f : Egress → Egress) : (d.setEgress n f).strong = d.strong := (rfl)
@[simp] theorem Device.setEgress_keyhole (d : Device) (n : Nat) (f : Egress → Egress) : (d.setEgress n f).keyhole = d.keyhole := (rfl)
@[simp] theorem Device.setEgress_study (d : Device) (n : Nat) (f : Egress → Egress) : (d.setEgress n f).study = d.study := (rfl)
@[simp] theorem Device.setEgress_power (d : Device) (n : Nat) (f : Egress → Egress) : (d.setEgress n f).power = d.power := (rfl)
@[simp] theorem Device.setEgress_models (d : Device) (n : Nat) (f : Egress → Egress) : (d.setEgress n f).models = d.models := (rfl)
@[simp] theorem Device.setEgress_outs (d : Device) (n : Nat) (f : Egress → Egress) : (d.setEgress n f).outs = d.outs := (rfl)
@[simp] theorem Device.setEgress_outbox (d : Device) (n : Nat) (f : Egress → Egress) : (d.setEgress n f).outbox = d.outbox := (rfl)

end Sys2Proof.Machine
end

