-- ==== Sys2Proof/Tests/Slice0.lean ====
section
/-! SUPPORT. Tests: ill-formed terms that WellFormed refuses, worked examples of the spec, and for every statement with hypotheses
witnesses that meet them, one conjunct for a clause. -/

namespace Sys2Proof.Tests

set_option autoImplicit false
set_option Elab.async false

open Sys2Proof.Machine

/-! ## Small states -/

/-- A HAP partner on P00. -/
def tHost : Partner := { transport := 4, addr := [10, 0, 0, 2], port := 4000, mac := [2, 0, 0, 0, 0, 1] }

/-- The owner: the partner on C0. -/
def tOwner : Partner := { transport := 0, addr := [], port := 0 }

/-- A store that lists the given numbers. -/
def tObj (l : List (Nat × Int)) : Store := l.foldl (fun st e => Store.put e.1 (.num e.2) st) []

/-- A part that runs and serves, MT running, P00 UP, owned by `tOwner`, whose CAN XL controller takes part in the bus, with the lock in state
`lock`; `l` lists further objects, `f` changes it. -/
def tDev (lock : Int) (l : List (Nat × Int)) (f : Device → Device) : Device :=
  f { obj := Store.put (K.canCfg 0) (.oct [3]) (tObj ([(K.lockState, lock), (K.lockHolder, 0), (K.canState 0, 2), (K.portLinkState 0, 3)] ++ l))
      power := { held := 0, cause := 0, serving := true, configDone := true, imageAt := some 0 }
      clock := { ticks := 1000, mtRun := true, mt := 5 * 10 ^ 9 * nsU }
      foyer := { owner := some tOwner, token := 9 } }

/-- That part as a state with nothing waiting. -/
def tState (lock : Int) (l : List (Nat × Int)) (f : Device → Device) : State := { pending := [], dev := tDev lock l f }

/-- The header of the owner's sound frame with an opcode, an object and a payload; in a session with its MAC and SEQ 1. -/
def tHdr (sess : Bool) (opcode key : Nat) (v : Bytes) : HapHdr :=
  let h0 : HapHdr := { src := tOwner, xl := true, received := 1400, ver := 1, flags := if sess then 1 else 0, txn := 7, status := 0
                       length := v.length, token := 9, seq := if sess then 1 else 0, mac := [], crc := 0
                       env := { mem := [], vendor := true, mdio := 0, degrade := [], acked := true } }
  let h1 : HapHdr := { h0 with mac := if sess then mac8 [] (reqHead (hapReq h0 opcode key v)) else [] }
  { h1 with crc := crc32c (reqHead (hapReq h1 opcode key v) ++ reqMac (hapReq h1 opcode key v)) }

/-- Does the part serve the owner's frame of a session, or of an OPEN lock, or in PENDING for an object of the handshake. -/
def tReady (sess : Bool) (key : Nat) (d : Device) : Bool :=
  d.power.serving && !(d.canReceived 0 (d.nat K.hapCanReqId) false).2.asleep && d.canHap 0 && decide (d.canMode 0 = 3) && !d.keyhole.recovery && d.isOwner tOwner
    && decide (d.foyer.token = 9) && (decide (d.lock = if sess then 3 else 1) || (!sess && decide (d.lock = 2) && (decide (key / 256 = 0x1100) || decide (key / 256 = 0x1101)))) && decide (d.foyer.key = []) && decide (d.foyer.seqIn = 0)

theorem tMac_length (k b : Bytes) : (mac8 k b).length = 8 := by
  simp [mac8, cmac]

theorem tReceived_keyhole (d : Device) (n i : Nat) (cc : Bool) : (d.canReceived n i cc).2.keyhole = d.keyhole := by
  unfold Device.canReceived Device.canGrade
  dsimp only
  split <;> simp [Device.setCan_keyhole]

/-- The owner's sound frame is heard and granted by such a part. -/
theorem tGrants (sess : Bool) (opcode key : Nat) (v : Bytes) (d : Device) (hd : tReady sess key d = true) (hv : v.length ≤ 1300) :
    State.grants { pending := [], dev := d } (hapReq (tHdr sess opcode key v) opcode key v) := by
  simp only [tReady, Bool.and_eq_true, Bool.or_eq_true, Bool.not_eq_true', decide_eq_true_eq] at hd
  obtain ⟨⟨⟨⟨⟨⟨⟨⟨⟨h1, h2⟩, h3⟩, h4⟩, h5⟩, h6⟩, h7⟩, h8⟩, h9⟩, h10⟩ := hd
  have ht : (hapReq (tHdr sess opcode key v) opcode key v).h.src.transport < 4 := Nat.zero_lt_succ 3
  have e1 : (d.heard (hapReq (tHdr sess opcode key v) opcode key v)).foyer = d.foyer := Device.heard_foyer d _ ht
  have e2 : (d.heard (hapReq (tHdr sess opcode key v) opcode key v)).lock = d.lock := Device.heard_nat d _ ht (by decide)
  have e3 : (d.heard (hapReq (tHdr sess opcode key v) opcode key v)).keyhole = d.keyhole := by
    rw [Device.heard, if_pos ht]; exact tReceived_keyhole ..
  have h6 : (d.heard (hapReq (tHdr sess opcode key v) opcode key v)).isOwner tOwner = true := by
    simp only [Device.isOwner, e1]; exact h6
  refine ⟨Or.inl ⟨ht, h1, h2, h3, fun _ => h4⟩, ?_⟩
  simp only [Device.grants, e1, e2, e3]
  cases sess
  · refine ⟨?_, h5, h6, h7.symm, rfl, h8.imp id (fun x => Or.inl ⟨x.1.2, x.2⟩)⟩
    simp [reqDiscarded, reqMac, reqPay, tHdr, hapReq, bit, maxPdu, reqSrc, tOwner, reqHead]
    omega
  · have h8 : d.lock = 3 := h8.elim id (fun x => absurd x.1.1 (by decide))
    refine ⟨?_, h5, h6, h7.symm, rfl, Or.inr (Or.inr ⟨h8, by simp [hapReq, tHdr, bit], ?_, ?_⟩)⟩
    · simp [reqDiscarded, reqMac, reqPay, tHdr, hapReq, bit, maxPdu, reqSrc, tOwner, reqHead, padTo, tMac_length]
      omega
    · rw [h9]
      simp [reqMac, reqPay, tHdr, hapReq, bit, reqHead, padTo, tMac_length]
    · rw [h10]; exact Nat.zero_lt_one

theorem tWrites (sess : Bool) (key : Nat) (v : Bytes) (d : Device) (hd : tReady sess key d = true) (hv : v.length ≤ 1300) :
    State.writes { pending := [], dev := d } (tHdr sess 2 key v) key v :=
  ⟨tGrants sess 2 key v d hd hv, by cases sess <;> simp [tHdr], rfl⟩

/-- The row of an object. -/
def tRow (key : Nat) : ObjRow := (rowOf key).getD ⟨0, 0, 0, 0, .bool, .ro, .num 0, .any, 0⟩

/-- OPEN, and SESSION. -/
def w1 : State := tState 1 [] id
def w3 : State := tState 3 [] id
/-- An open read of LATENCY_TOL's four bytes by two; an open write of them. -/
def wRead : State := tState 1 [] (·.setFoyer (fun f => { f with
  xfer := some { writing := false, seg := 2, index := 0x2001, sub := 0, total := 4, buf := [1, 2, 3, 4], next := 0, since := 0 } }))
def wSeg : State := tState 1 [] (·.setFoyer (fun f => { f with
  xfer := some { writing := true, seg := 0, index := 0x2001, sub := 0, total := 4, buf := [1, 2], next := 1, since := 0 } }))
/-- FREE; PENDING under policy 0 and 1; an immediate commit of group 0x0F; of groups 0x05 and 0x0F. -/
def wFree : State := tState 0 [(K.lockHolder, 0xFF), (K.khEntropyState, 1)] (·.setFoyer (fun f => { f with owner := none, token := 0 }))
def wPend (policy : Int) : State := tState 2 [(K.hapLockPolicy, policy)] id
def tImm (groups : Nat) : ImmCommit := { groups := groups, since := 500, src := tHost, xl := false, opcode := 2, txn := 7 }
def wComm (groups : Nat) : State := tState 1 [] (·.setCommit (fun e => { e with imm := [tImm groups] }))
/-- Slot 3 in a state, of a kind, at 6 s. -/
def wSlot (st kind : Int) : State := tState 1 [(K.slotState 3, st), (K.slotKind 3, kind), (K.slotInstant 3, 6 * (10 ^ 9 * 65536))]
  (·.setCommit (fun e => { e with slots := e.slots.set 3 { groups := 2 ^ 5, amount := 65536 } }))

/-- A locked root, with further objects and a change of the part. -/
def wL (l : List (Nat × Int)) (f : Device → Device) : State := tState 1 ((K.hearthLock, 1) :: l) f
/-- Candidate 1 (REFIN0 as 1 PPS, active) in a state, with further objects and Thermostat's state changed. -/
def wRef (st : Int) (l : List (Nat × Int)) (g : Therm → Therm) : State :=
  wL ([(K.thermRefState 1, st), (K.refinFreq 0, 1), (K.refinActivity 0, 1), (K.thermRefQl 1, 2)] ++ l) (fun d =>
    { d with therm := g { d.therm with cands := d.therm.cands.set 1 { active := true, lastEdge := 900, holdDue := 5000, wtrDue := 5000 } } })
/-- MT with a pull remainder; with accepted steps and settings. -/
def wPull (r : Int) : State := wL [] (fun d => { d with clock := { d.clock with pull := r, domPull := d.clock.domPull.set 7 (-r) } })
def wWait : State := wL [] (fun d => { d with clock := { d.clock with setPending := [(65536, 900, 4)], stepPending := [(-65536, 900, 4)] } })
def wStop : State := wL [] (fun d => { d with clock := { d.clock with mtRun := false, pull := 7 } })
def wLeap : State := wL [] (fun d =>
  ({ d with clock := { d.clock with mt := 100000 * secU } } : Device).setNum K.utcLeapCount 1 |>.setOct (K.utcLeapEntry 0) (toBE 6 200000 ++ toBE 2 38))
/-- OUT15 with a pulse active. -/
def wOut : State := wL [] (·.setOut 15 (fun u => { u with active := true, trailPs := 9000000 }))
/-- MT just after a whole second. -/
def wAfter : State := wL [(K.ckoStatus 2, 3)] (fun d => { d with clock := { d.clock with mt := 5 * secU + 2 * tickU, cko := [{}, {}, { since := 5 * secU }, {}] } })
def wTarget : State := wL [(K.thermSelected, 0xFF), (K.hearthDco, 5)] (fun d => { d with therm := { d.therm with dTarget := 2 ^ 33 } })
def tLate (t : Therm) : Therm := { t with lastFreq := 20 * sTicks }
def tHeld (t : Therm) : Therm := { t with lockSince := some 800 }
def tJump (t : Therm) : Therm := { t with cands := t.cands.set 1 { active := true, lastPhase := some (0, 900, 0), hasFreq := true } }
/-- OUT0 at 1 Hz in service, and the edge it falls due with. -/
def wDue : State := wL [(K.outStatus 0, 2), (K.outMode 0, 1), (K.mtState, 3)] id
def tDue : OutDue := (wDue.dev.outDue 0).getD { k := 0, mt := 0, pin := 0, again := none }
/-- Candidate 1 in a state at the end of a full gate with two measurements; what they give. -/
def wGate (st : Int) : Device := ((wRef st [(K.thermFreqGate, 10)] (fun t => { t with cands := t.cands.set 1 { active := true, points :=
  [⟨10 * sTicks, 0, 0⟩, ⟨20 * sTicks, 10, 10 * sec16 + 7⟩] } })).on (fun d => { d with clock := { d.clock with ticks := 20 * sTicks } })).dev
def tRg (st : Int) : Int × Nat := ((wGate st).regress 1).getD (0, 0)
/-- A phase measurement of candidate 1, and that candidate with it. -/
def tPhase (raw : Int) : PhaseIn := { cand := 1, raw := raw, tick := 950, mt16 := 0, moved := 0, dco := 0 }
def wPhase (st : Int) (g : Therm → Therm) : State := wRef st [(K.thermSelected, 0xFF)] (fun t => { g t with phases := [tPhase 5, tPhase (2 ^ 40)] })
def wJump : State := wRef 4 [(K.thermSelected, 0xFF)] (fun t => { tJump t with phases := [tPhase (2 ^ 40)] })

/-- In holdover on a locked root, since tick 0, in a time state. -/
def wH (st : Int) (l : List (Nat × Int)) (g : Holdover → Holdover) : State :=
  wL ([(K.mtState, st), (K.thermSelected, 0xFF), (K.hearthDco, 77)] ++ l) (·.setHold (fun h => g { h with
    active := true, base := 4000000, uf := 900, ua := 50000, ut := 70000, meanD := 5, sum := 3, compatDue := 6 * 10 ^ 9 * fracU }))
def hFree (h : Holdover) : Holdover := { h with freqOnly := true, saturated := true }
def hCompat (m : Nat) (h : Holdover) : Holdover := { h with compat := m }
/-- Learning from candidate 1, with n samples a second apart. -/
def wLearn (n : Nat) (l : List (Nat × Int)) : State :=
  wRef 5 ([(K.thermSelected, 1), (K.hearthDco, 300)] ++ l) id |>.on (·.setHold (fun h => { h with
    samples := (List.range n).map (fun i => { t16 := (5 * 10 ^ 9 - 1000 * i) * 65536, y := 3 * i, theta := 20000 + i }) }))
def wSave : State := w1.on (fun d => { d.setNum K.hoModelState 2 with
  models := [some { gen := 3, good := true, vals := [1], samples := [] }, some { gen := 2, good := true, vals := [2], samples := [] }] })
def wFault : State := wH 4 [(K.hoTempNow, 20000)] (fun h => { h with tempFault := true })

/-- Skylight with its antenna supply on, in a state. -/
def wAnt (st : Int) (low : Option Nat) : State := w1.on (fun d => ((d.setNums [(K.skyAntEnable, 1), (K.skyAntState, st)]).setSky (fun s => { s with antLow := low })))
def tAid (x unc rest : Nat) : Bytes := toBE 12 0 ++ toBE 8 x ++ List.replicate 28 0 ++ toBE 4 unc ++ toBE 4 5 ++ toBE 8 rest
/-- Channel 5 in a state, updated at tick 100, with a valid solution or none. -/
def wCh (st : Int) (sol : Bool) : State := w1.on (fun d => ((d.setNums [(K.chState 5, st), (K.chSignal 5, 1), (K.chSv 5, 3), (K.skySolKind, if sol then 2 else 0)]).setSky (fun s => { s with
  active := sol, updated := 100, chans := s.chans.set 5 { assigned := 50, coastSince := 60, updated := 100, codeRate := 1023 * 2 ^ 48 / 125000 } })))
/-- The tick of channel 5's next dump. -/
def tDump (s : State) : Nat := ((s.dev.sky.chans.getD 5 {}).dumpTick (dumpChips (s.dev.nat (K.chSignal 5)))).getD 0
def wLate : State := (wCh 2 true).on (fun d => { d with clock := { d.clock with ticks := 6250100 } })
def wSol (tracker limit : Int) : State := (wCh 2 true).on (fun d => d.setNums [(K.skyTracker, tracker), (K.skySolMissLimit, limit)])
def tMeas : SkyMeas := { channel := 5, code := true, carrierLock := true, half := false, slip := false, cn0 := 4000, lockTime := 5, phase := 6, range := 100, carrier := -7
                         doppler := 8, noise := 9, elev := 4000, azim := 10, eph := true, tow := some 6, sysOff := true }
/-- Channel 5 in TRACK with a usable static aid; a fix whose offset the full week count dates. -/
def wFix : State := (wCh 2 false).on (fun d => { (d.setNum K.skyAidMode 2).setOct K.skyAidPos (tAid 6378137000 1 0) with sky := { d.sky with aidHeld := true } })
def tFix : SkyFix := { readings := [(5, 1000, 20)], unc := 9, steer := 0, x := 1, y := 2, z := 3, posUnc := 4, vx := 0, vy := 0, vz := 0, week := some (true, 2300) }
def tFixOff : Int := let d := (wFix.dev.skySettle.toFabEdge wFix.dev.skySettle.nextLatch.1).skySettle
  (d.gnssOffset 0 (d.skyTry ((d.latched [tMeas]).filter d.measGood) tFix).off tFix).getD 0
/-- Burst mode in Park. -/
def wPark : State := (wSol 2 1).on (·.setNum K.fbState 3)

/-- Channel n's state changed, with objects, on a locked root. -/
def wT (n : Nat) (l : List (Nat × Int)) (g : TdcChannel → TdcChannel) : State := wL ([(K.chMode n, 1), (K.chEdge n, 0), (K.chFifoEn n, 1), (K.tdcCalState, 2), (K.regSeq n, 4)] ++ l)
  (fun d => { d with tdc := { d.tdc with chans := d.tdc.chans.set n (g { count := 7, gateStart := 4 * 10 ^ 9 * nsU }), converted := 9, demand := 20000001 } })
def tCap (ps : Nat) : Capture := { ps := ps, tU := 5 * 10 ^ 9 * nsU, stepped := 0, dco := 0, count := 7, falling := true, rootOk := false, tstate := 4 }
def cLast (x : TdcChannel) : TdcChannel := { x with lastPs := some 790000 }
def cCaps (n : Nat) (x : TdcChannel) : TdcChannel := { x with caps := (List.range n).map tCap }
def cFull (x : TdcChannel) : TdcChannel := { x with caps := [tCap 5, tCap 6], fifo := List.replicate 256 (List.replicate 24 7) }
def cRej (n : Nat) (x : TdcChannel) : TdcChannel := { x with rejects := n }
def cOpen (x : TdcChannel) : TdcChannel := { x with opened := some (tCap 1000), fifo := [List.replicate 24 9] }
def cStamps (n : Nat) (x : TdcChannel) : TdcChannel := { x with stamps := (List.range n).map (fun i => (1000 + 10 * i, (1000 + 10 * i) * 65536)) }
def cOdd (x : TdcChannel) : TdcChannel := { x with passed := 1 }

/-- A falling edge at 800,000 ps, in a pad; the FIFO. -/
def tEdge : PinEdge := { ps := 800000, tU := 5 * 10 ^ 9 * nsU, stepped := 0, dco := 0, falling := true, rootOk := true, tstate := 4 }
def cPad (x : TdcChannel) : TdcChannel := { x with pad := [tEdge] }

def tMac (n : Nat) : Bytes := [2, 0, 0, 0, 7, n]
def tEnv : HapEnv := { mem := [], vendor := true, mdio := 0x1234, degrade := [], acked := true }
/-- A frame to station n without FCS: `n` bytes of payload after its EtherType. -/
def tFrame (dst : Bytes) (etype n : Nat) : Bytes := dst ++ tMac 9 ++ toBE 2 etype ++ (List.replicate n 7 : Bytes)
/-- P00, P01 and P20 UP, the addresses of stations 1 and 20 learned, a queue of P01 with two frames. -/
def wN (l : List (Nat × Int)) (f : Device → Device) : State := wL ([(K.portLinkState 1, 3), (K.portLinkState 20, 3), (K.portLinkState 3, 4), (K.portLinkState 17, 2), (K.qTaildrop 0 3, 6), (K.portRxRunt 0, 4)] ++ l) (fun d =>
  f { d with hall := { d.hall with fdb := [⟨tMac 1, 1, 1, 100⟩, ⟨tMac 20, 1, 20, 5000⟩] } })
def tPkt (n : Nat) (q : Nat) : Frame := { body := tFrame (tMac 1) 0x9999 n, src := 0, id := 0, cells := 0, launch := if q = 9 then some 5 else none }
def wQueued (l : List (Nat × Int)) : State := wN l (fun d => (d.setQueue 1 2 (fun _ => [tPkt 100 0, tPkt 200 0])).setQueue 1 6 (fun _ => [tPkt 60 0]))
def wPlace (n : Nat) (l : List (Nat × Int)) (g : PortUnit → PortUnit) : State := wN l (·.setPort 1 (fun u => g { u with place := some (tPkt n 0), placeQueue := some 2, attempts := 3, beaconAt := some 200 }))
def pBack (u : PortUnit) : PortUnit := { u with backoff := some 64500 }
def pTry (n : Nat) (u : PortUnit) : PortUnit := { u with attempts := n }
def pNone (u : PortUnit) : PortUnit := { u with beaconAt := none }
def pCause (u : PortUnit) : PortUnit := { u with cause := 3 }
def tCan (m : Nat) : Bytes := ([m, 0, 4, 31, 8, 8, 1, 31, 8, 8] : Bytes) ++ (List.replicate 10 0 : Bytes)
/-- P00 with a MAC of its own, whatever its shipped one is. -/
def wMac : State := (wN [] id).on (fun d => { d with obj := d.obj.filter (·.1 < K.portMac 0) ++ [(K.portMac 0, .oct (tMac 0))] ++ d.obj.filter (K.portMac 0 < ·.1) })
/-- P01 with a gate list of two windows. -/
def wGates : State := (wN [(K.gateCycle 1, 1000)] id).on (·.setOct (K.gateList 1) (toBE 4 500 ++ ([255, 0, 0, 0] : Bytes) ++ toBE 4 500 ++ ([1, 0, 0, 0] : Bytes)))

/-- An LTQ request of a type as a frame; as IP0 holds it. -/
def tLtq (typ : Nat) : Bytes := tMac 1 ++ tMac 9 ++ toBE 2 0x0800 ++ ([0x45, 0, 0, 92, 0, 0, 0, 0, 64, 17, 0, 0, 10, 0, 0, 9, 10, 0, 0, 1] : Bytes)
  ++ toBE 2 5000 ++ toBE 2 4844 ++ toBE 2 72 ++ toBE 2 0 ++ ([1, typ, 0, 0] : Bytes) ++ (List.replicate 24 5 : Bytes) ++ (List.replicate 36 0 : Bytes)
def tRx (typ : Nat) : RxFrame := { port := 20, body := tLtq typ, stamp := List.replicate 8 0, rx16 := 5 * sec16 - 70000, end16 := 5 * sec16 - 65536, endPs := 700000, capPs := 800000, steps := 0 }
/-- A classifier rule of a class for a ring. -/
def tRule (ring cls : Nat) : Bytes := ([ring, cls, 1, 0] : Bytes) ++ toBE 6 (2 ^ 44 - 1) ++ (List.replicate 22 0 : Bytes)
/-- A request of class 4 at IP0, ring 2 that takes it, one reservation and entries in flight. -/
def wP (typ : Nat) (l : List (Nat × Int)) (g : Parl → Parl) : State := wN ([(K.ringSize 2, 8), (K.ringClass 2, if typ = 1 then 4 else 5), (K.ringBound 2, 5000000), (K.ringRefused 2, 3), (K.ringAdmitted 2, 4), (K.ringObsMin 2, 5), (K.ringObsMax 2, 7), (K.ringObsCount 2, 8)] ++ l)
  (fun d => { d.setOct K.parClassifier (tRule 2 (if typ = 1 then 4 else 5)) with parl := g { d.parl with rx := [tRx typ], nextId := 9, rings := d.parl.rings.set 2 { bucket := { level := 4 * tokenU, since := 400 } } } })
def tFlight (id : Nat) : Flight := { id := id, ring := 2, port := 20, end16 := 5 * sec16, bound := 3000, steps := 0, reserved := false }
def tResv (id start : Nat) : Resv := { port := 20, start := start, len := 100000, frame := { body := tFrame (tMac 9) 0x9999 80, src := 0x100, tag := .entry id } }
def pBusy (a : Parl) : Parl := { a with flights := [tFlight 3, tFlight 4], resv := [tResv 4 9000000, tResv 3 8000000] }
def pMany (a : Parl) : Parl := { a with flights := List.replicate 8 (tFlight 3) }
def pBack2 (l : Int) (w : Bytes) (n : Nat) (a : Parl) : Parl := { a with flights := [tFlight 3, tFlight 4], returned := [(.entry 3, w, 5 * sec16 + l * 65536, n), (.entry 4, w, 5 * sec16, 0)] }
def pConn (n : Nat) (a : Parl) : Parl := { a with conns := (List.range n).map (fun i => (i, 5000 + i)), connNext := n }
def wKe (l : List (Nat × Int)) (n : Nat) : State := wP 1 ([(K.ntskeEnable, 1), (K.ksState 60, 2), (K.ksState 5, 2), (K.ksUse 5, 2), (K.ntskeKeySlot, 5), (K.khEntropyState, 1)] ++ l) (pConn n)
def wNoRule : State := (wP 1 [] id).on (·.setOct K.parClassifier [])
def wPlaced : State := (wP 1 [] pBusy).on (fun d => d.setPort 20 (fun u => { u with place := some (tPkt 60 0) }))
/-- A client of NTS-KE: it offers what R381 asks, and its records are `recs`. -/
def tClient (alert : Option Nat) (recs : Bytes) : TlsClient :=
  { alert, tls13 := true, suites := [0x1301], groups := [0x001D], alpn := [ascii "ntske/1"], records := recs, c2s := List.replicate 32 1, s2c := List.replicate 32 2 }
/-- A critical record of a type, then End of Message. -/
def tRecords (typ : Nat) (body : Bytes) : Bytes := keRecord true typ body ++ keRecord true 0 []
/-- NTS next protocol NTPv4 and AEAD 15, then End of Message. -/
def tAsk : Bytes := keRecord true 1 (toBE 2 0) ++ keRecord true 4 (toBE 2 15) ++ keRecord true 0 []

/-- A PTP message of a kind over Ethernet, as IP0 holds it from P20. -/
def tPtp (kind sdo flags : Nat) (corr : Nat) (seq : Nat) (log : Nat) (body : Bytes) : RxFrame :=
  { port := 20, stamp := List.replicate 8 0, rx16 := 5 * sec16 - 70000 - 6553600, end16 := 5 * sec16 - 65536, endPs := 700000, capPs := 700000, steps := 0
    body := ([1, 0x1B, 0x19, 0, 0, 0] : Bytes) ++ tMac 9 ++ toBE 2 0x88F7 ++ ([sdo * 16 + kind, 2] : Bytes) ++ toBE 2 (34 + body.length) ++ ([3, 0] : Bytes) ++ toBE 2 flags
      ++ toBE 8 corr ++ toBE 4 0 ++ ([9, 9, 9, 9, 9, 9, 9, 9, 0, 1] : Bytes) ++ toBE 2 seq ++ ([0, log] : Bytes) ++ body }
/-- PT5 on P20 with its port in a state, with MT running, a free domain and further objects. -/
def wI (st : Nat) (l : List (Nat × Int)) (g : PtpInst → PtpInst) (rx : List RxFrame) : State := wN ([(K.instEnable 5, 1), (K.instPortMask 5, 2 ^ 20), (K.instDomainNum 5, 3), (K.instRxPort 5, 20),
    (K.domMode 5, 1), (K.domState 5, 3), (K.instRole 5, 1), (K.instMeanDelay 5, 655360)] ++ l)
  (fun d => { (d.setOct (K.instPortState 5) (putBytes (List.replicate 44 0) 20 (toBE 1 st))).setInst 5 g with parl := { d.parl with rx := rx } })
def iPort (f : PtpPort → PtpPort) (i : PtpInst) : PtpInst := { i with ports := i.ports.set 20 (f { syncAt := 4 * 10 ^ 9 * nsU, syncSeq := 65535, annSeq := 7, delaySeq := 70000, delayDue := 5000 }) }
def uQual (u : PtpPort) : PtpPort := { u with qualDue := some 9000, delayOut := some (5, some (5 * sec16 - 20000000, 0)) }
def uLost (n : Nat) (u : PtpPort) : PtpPort := { u with lost := n }
def iSamp (i : PtpInst) : PtpInst := { i with samples := [655360], lastSync := some (4 * sec16 + 9, 4 * sec16), boundBase := 50, boundAt := 900, boundSince := 600 }
def tAnnounce (steps : Nat) : Bytes := toBE 10 0 ++ toBE 2 37 ++ ([0, 128, 6, 0x20, 0x4E, 0x5D, 128, 7, 7, 7, 7, 7, 7, 7, 7] : Bytes) ++ toBE 2 steps ++ ([0x20] : Bytes)
def uForeign (u : PtpPort) : PtpPort := { u with foreign := [({ announceOf (ptpMsg ((tPtp 11 0 0 0 5 0 (tAnnounce 0)).body.drop 14)) with priority1 := 1 }, 900, 2)], annRun := true }
def wIn (kind sdo flags : Nat) (body : Bytes) (st : Nat) (l : List (Nat × Int)) (g : PtpInst → PtpInst) : State := wI st l g [tPtp kind sdo flags 65536 5 0 body]
def tTook (kinds : List Nat) (s : State) := ((s.dev.takePtp kinds).getD (tPtp 0 0 0 0 0 0 [], 9, ptpMsg [], s.dev))
def iWait (seq : Nat) (i : PtpInst) : PtpInst := iSamp { i with sync := some { sender := [9, 9, 9, 9, 9, 9, 9, 9, 0, 1], seq := seq, corr := 7, word := List.replicate 8 0, rx16 := 5 * sec16, mt16 := 5 * sec16, dom16 := 5 * sec16 + 9, good := true } }
/-! Further states. -/
def sSync := wIn 0 0 0 (time96Bytes (5 * sec16) |>.take 10) 8 [] iSamp
def sSync2 := wIn 0 0 0x0200 (List.replicate 10 0) 9 [] iSamp
def sFup (seq st : Nat) := wIn 8 0 0 (time96Bytes (5 * sec16) |>.take 10) st [] (iWait seq)
def sDr := wIn 9 0 0 ((time96Bytes (5 * sec16) |>.take 10) ++ portIdentity 5 20) 8 [] (fun i => iSamp (iPort uQual i))
def sPd (sdo flags : Nat) := wIn 3 sdo flags ((time96Bytes (5 * sec16) |>.take 10) ++ portIdentity 5 20) 8 [(K.instProfile 5, if sdo = 1 then 2 else 1)] (fun i => iSamp (iPort uQual i))
def sAnn := wIn 11 0 0 (tAnnounce 3) 8 [] (fun i => iSamp (iPort uQual i))
def sSig (i : Nat) := wIn 12 1 0 (portIdentity 5 20 ++ toBE 2 3 ++ toBE 2 12 ++ ([0, 0x80, 0xC2, 0, 0, 2, 127, i, 127, 0, 0, 0] : Bytes)) 8 [(K.instProfile 5, 3)] (fun i => iSamp (iPort uQual i))
def tW : SyncIn := { sender := [9, 9, 9, 9, 9, 9, 9, 9, 0, 1], seq := 5, corr := 7, word := List.replicate 8 0, rx16 := 5 * sec16 + 2000000, mt16 := 5 * sec16 + 2000000, dom16 := 5 * sec16 + 2000000, good := true }

/-- A batch with `n` leaves in a state. -/
def tLeaf : Leaf := { bytes := List.replicate 20 3, req := [], port := 20, ring := 2, end16 := 9, bound := 100, steps := 0, stamp := List.replicate 8 0, free := [] }
def tBatch (id st n : Nat) (g : Batch → Batch) : Batch := g { id := id, state := st, open16 := 4 * sec16, close16 := 5 * sec16, opened := 500, ends := 1200, hash := 1, sig := 1, keySlot := 5, keyId := 44, maxLeaves := 8, delay := 100000, rootPort := 44, rootDest := [], lanes := some (1, 2), leaves := List.replicate n tLeaf, seq := 7 }
/-- A ledger with batches, the lanes in service and a key in slot 5. -/
def wB (bs : List Batch) (l : List (Nat × Int)) : State := wN ([(K.ksState 5, 2), (K.ksUse 5, 1), (K.ksType 5, 3), (K.ledgerKeySlot, 5), (K.khEntropyState, 1), (K.srLanesInService, 4)] ++ l)
  (fun d => { (d.setOct K.srLaneState [2, 2, 2, 2]) with ledger := { d.ledger with batches := bs, nextId := 50, begun := !bs.isEmpty, high := 3, low := 8 } })
def bStarted (b : Batch) : Batch := { b with started := true, header := List.replicate 112 1, signature := List.replicate 64 0 }
/-- A signature that verifies: the identity as public key and as R, S zero. -/
def tOne : Bytes := ([1] : Bytes) ++ (List.replicate 31 0 : Bytes)
def bSound (b : Batch) : Batch := { b with started := true, header := List.replicate 112 1, signature := tOne ++ (List.replicate 32 0 : Bytes) }
def wSound : State := (wB [tBatch 4 3 2 bSound] []).on (·.setOct (K.ksPub 5) tOne)
def wTardy (st n : Nat) : State := (wB [tBatch 4 st n bStarted] []).on (fun d => { d with clock := { d.clock with ticks := 200000 } })

/-- A job with slots 1 to 4. -/
def tJob (id prio op st : Nat) (g : Job → Job) : Job := g { id := id, prio := prio, op := op, slots := [1, 2, 3, 4, 5, 0xFF, 0xFF, 0xFF], who := .owner, state := st, start := 900, due := 1500 }
def jKey (id : Nat) : Job := tJob id 2 0x10 1 (fun j => { j with who := .keygen 7 })
def jFor (j : Job) : Job := { j with who := .check 3 }
/-- Lanes in states, lane 0 with the given stack, slots of 8 words that hold 3, 5 and 7. -/
def wJ (lanes : Bytes) (st : List Nat) (js : List Job) (l : List (Nat × Int)) : State := wN ([(K.khEntropyState, 1), (K.ledgerKeySlot, 0xFF)] ++ l)
  (fun d => { (((((d.setOct K.srLaneState lanes).setOct K.srSlotLayout (List.replicate 64 8)).setOct (K.srSlotData 1) (toBE 64 3)).setOct (K.srSlotData 2) (toBE 64 5)).setOct (K.srSlotData 3) (toBE 64 7)) with
    strong := { d.strong with jobs := js, nextId := 60, lanes := d.strong.lanes.set 0 { stack := st, testing := 800 } } })
def tDesc (op : Nat) : Bytes := ([op, 255, 0, 0, 1, 2, 3, 4, 255, 255, 255, 255] : Bytes) ++ toBE 4 77
def lUp : Bytes := [2, 2, 2, 2]
def lRun : Bytes := [3, 2, 2, 4]
def sVal : State := (wJ lRun [5] [tJob 5 3 0x40 2 id] []).on (fun d => (d.setOct (K.srSlotData 1) (toBE 64 p256.gx)).setOct (K.srSlotData 2) (toBE 64 p256.gy))
def jFor5 (j : Job) : Job := { j with who := .check 5, only := some 1 }

/-- An owner key Qx, a new key and its signature (r = s = the digest), where both multiples of the verification are 1. -/
def tXferPub : Bytes := ([4] : Bytes) ++ toBE 48 0x160d721b3b52ba75152e51d713962683c398af54f9e344e52806ca56039379c8c14d560fe20777e81cc29d9b576c3e6a ++ toBE 48 0x5b65c2cf9e2e2ba8b67be962a3b5384994ad7c265e758b73a7bbe75b86ff5960653240f84a01ebbb5e06f021e83ab07f
def tXferNew : Bytes := ([4] : Bytes) ++ toBE 48 0xaa87ca22be8b05378eb1c71ef320ad746e1d3b628ba79b9859f741e082542a385502f25dbf55296c3a545e3872760ab7 ++ toBE 48 0x3617de4a96262c6f5d9e98bf9292dc29f8f41dbd289a147ce9da3113b5f0b8c00a60b1ce1d7e819d7a431d7c90ea0e5f
def tXferSig : Bytes := toBE 48 0xcb53d0f68780e8b713734cb9077e0dfa524111377b124dc9e6f089e8b076ccbc0d8ac642c8c3e9f04b9668a39318a37d ++ toBE 48 0xcb53d0f68780e8b713734cb9077e0dfa524111377b124dc9e6f089e8b076ccbc0d8ac642c8c3e9f04b9668a39318a37d
def tXferPub2 : Bytes := ([4] : Bytes) ++ toBE 48 0x6733a8526fbc0b508327056acda06ac23a9e2a3fe7682f0d4bbf2107a7ced960f467de343127ab4c4fe1ca19485476fc ++ toBE 48 0xb2af63ba97d85fc247ccaceac585a2e469d7a5cce7b3bdfef37a481979961ffd85b7b6e9edd9282fcf4137d42e50d862
def tXferNew2 : Bytes := (List.replicate 96 0 : Bytes) ++ ([5] : Bytes)
def tXferSig2 : Bytes := toBE 48 0xe14c7cf44b75c68eae0dedc866a92c6f6dd9c95ea5889789314dbe39d09bd3c68cec40cc790232f56c288a977839d55b ++ toBE 48 0xe14c7cf44b75c68eae0dedc866a92c6f6dd9c95ea5889789314dbe39d09bd3c68cec40cc790232f56c288a977839d55b
def tWrap : Bytes := toBE 8 9122890668611647957 ++ toBE 8 4501706275879534444 ++ toBE 8 17610352880005515559 ++ toBE 8 13718563766537698771 ++ toBE 8 3260231448022641355
def tG : Bytes := ([4] : Bytes) ++ toBE 48 p384.gx ++ toBE 48 p384.gy
/-- Keyhole in a life cycle state in a session (3) or open, with its own state changed. -/
def wK (lock life : Int) (l : List (Nat × Int)) (g : Keyhole → Keyhole) : State := tState lock ([(K.khLifecycle, life), (K.khEntropyState, 1), (K.hearthLock, 1)] ++ l) (fun d =>
  { (d.setOct K.srLaneState [2, 2, 2, 2]) with keyhole := g { d.keyhole with counter := 7, keys := (d.keyhole.keys.set 63 (toBE 48 1)).set 60 (List.replicate 64 6), requests := 3 } })
def kFailed (x : Keyhole) : Keyhole := { x with failedAt := some 700 }
def kMany (x : Keyhole) : Keyhole := { x with requests := 2 ^ 20 }
def kReady (x : Keyhole) : Keyhole := { x with enrolled := true, ownerSet := true, ownerKeySet := true }
def kSec (x : Keyhole) : Keyhole := { x with secVersion := 9, rollback := 4 }
def kAttest (x : Keyhole) : Keyhole := { x with attest := some ([1, 2, 3], 5, 44) }
def wX (pub : Bytes) : State := (wK 3 1 [] id).on (·.setOct K.khOwnerPub pub)
def wQ (jobs : List Job) (l : List (Nat × Int)) (g : Keyhole → Keyhole) : State := (wK 3 1 l g).on (fun d => { d with strong := { d.strong with jobs := jobs, nextId := 60 } })
def jMade (r : Nat) : Job := { id := 9, prio := 1, op := 0x10, who := .keygen 7, state := 6, result := r }
def jSign (r : Nat) : Job := { id := 9, prio := 1, op := 0x18, who := .attest, state := 6, result := r }
def tN1 : Bytes := List.replicate 16 1
/-- PENDING with both nonces. -/
def wHand : State := tState 2 [(K.ksState 62, 2)] (·.setFoyer (fun f => { f with hostNonce := tN1, devNonce := tN1 }))
def tProof : Bytes := sessionProof (sessionKey [] tN1 tN1 9 0) tN1 tN1
/-- The owner of a CAN controller in a classic mode's write of CAN_CFG 1. -/
def tCanHost : Partner := { transport := 1, addr := [], port := 0 }
def wCanOwner : State := (wL [(K.canState 1, 2), (K.lockHolder, 1)] (fun d => (d.setOct (K.canCfg 1) (tCan 2)).setFoyer (fun f => { f with owner := some tCanHost })))
def hCan : HapHdr := { tHdr false 2 (K.canCfg 1) (tCan 0) with src := tCanHost, xl := false }

/-- MB9 and MB8 with `i` messages toward the firmware and `o` toward the owner, a held reply. -/
def tMsg (kind n : Nat) : Bytes := ([2, kind, 0, n, 5, 6] : Bytes)
def wM (i o : Nat) (held : Option Bytes) (g : Study → Study) : State := (wL [(K.dbIrqPend, if o = 0 then 0 else 3)] id).on (fun d => { d with study := g { d.study with held := held, mail :=
  ((d.study.mail.set 8 { toFirmware := (List.range i).map (tMsg 1), toOwner := (List.range o).map (tMsg 9), seqIn := 65535, seqOut := 4 }).set 9
    { toFirmware := (List.range i).map (tMsg 2), toOwner := (List.range o).map (tMsg 9), seqIn := 65535, seqOut := 4 }) } })
def wCore (st : Bytes) (l : List (Nat × Int)) (g : Study → Study) : State := (tState 3 ([(K.hearthLock, 1)] ++ l) id).on (fun d => { (d.setOct K.studyCoreState st) with study := g d.study })
def gResets (n : Nat) (x : Study) : Study := { x with resets := x.resets.set 1 (List.replicate n 900) }
def gStaged (x : Study) : Study := { x with staged := [7, 7], passed := [true, false] }
def tImage (len : Nat) : Bytes := (toBE 4 0x4C593438 ++ toBE 4 5 ++ ([2, 0, 0, 0] : Bytes) ++ toBE 4 len ++ sha384 (List.replicate len 7) ++ (List.replicate 192 0 : Bytes) ++ (List.replicate len 7 : Bytes))
def wUp (len : Nat) : State := (wCore [0, 0, 0, 0] [(K.studyStageState, 1)] id).on (·.setFoyer (fun f => { f with xfer := some { writing := true, seg := 0, index := 0x6201, sub := 0, total := 256 + len, buf := (tImage len).take 200, next := 1, since := 0 } }))

/-- A clear up to record 5 and the owner key under which it is signed, as for the ownership transfer; the nonce is zero. -/
def tClearUp : Nat := 5
def tClearPub : Bytes := ([4] : Bytes) ++ toBE 48 0xcfcd6ee1825b52e35d4b3ddcc5b43802fd35a3dd74070a7d7a24dfd30e76cbecffd8b57b968ed533d6e249896d083f7a ++ toBE 48 0xd1a4690e6ad1025ca6b0eaae901792d42f919e36c27daf47ac6cb1155fcb57ce1d8a2b45dc6bd5dc4f97867752a30b4c
def tClear : Bytes := toBE 4 tClearUp ++ (List.replicate 16 0 : Bytes) ++ toBE 48 0x6782ef1834730da3ddfc302f3cf17bc8c7e5dbcfc3bb8f89b74a8949268a9c32a874324e43a6950b08ff7ac98fffdb48 ++ toBE 48 0x6782ef1834730da3ddfc302f3cf17bc8c7e5dbcfc3bb8f89b74a8949268a9c32a874324e43a6950b08ff7ac98fffdb48
def tRec (n : Nat) : Bytes := toBE 4 n ++ (List.replicate 60 1 : Bytes)
def tReport (code : Nat) : Report := { code := code, source := 4, time := 3 * sec16, tick := 800, mtRun := true, tstate := 4, p := [5, -6] }
/-- The Attic changed, in a session. -/
def wAt (l : List (Nat × Int)) (g : Attic → Attic) : State := (tState 3 ([(K.hearthLock, 1), (K.khEntropyState, 1), (K.atticFlashState, 1)] ++ l) id).on (fun d => { d with attic := g { d.attic with
  reports := [tReport 0x0701, tReport 0x0702], next := 9, prevCrc := 77, retention := [tRec 7, tRec 8], pending := [tRec 7, tRec 8], flash := [(4, tRec 5), (5, tRec 6)], pos := 6 } })
def aNone (a : Attic) : Attic := { a with reports := [], pending := [] }
def aUsed (a : Attic) : Attic := { a with next := 0xFFFFFFFF }
def aFull (a : Attic) : Attic := { a with pending := List.replicate 1024 (tRec 7) }
def aPos (n : Nat) (a : Attic) : Attic := { a with pos := n, full := 3, bad := [9], reports := [] }
def aClear (a : Attic) : Attic := { a with clearing := some (6, true, 4), reports := [] }
/-! Further states. -/
def sCl (l : List (Nat × Int)) (g : Attic → Attic) := (wAt l g).on (·.setOct K.khOwnerPub tClearPub)

/-- A serving part in a power state. -/
def wF (st : Int) (l : List (Nat × Int)) (g : Power → Power) : State := wN ([(K.fbState, st), (K.fbTarget, st), (K.tdcCalState, 2), (K.cellarOpMinutes, 900000)] ++ l) (·.setPower g)
def fEntry (t : Nat) (p : Power) : Power := { p with entry := some (t, 2) }
def fDeep (p : Power) : Power := { p with entry := some (4, 7) }
def fWake (p : Power) : Power := { p with waking := some 900, lastStep := some (800, 90000) }
def fSteps (p : Power) : Power := { p with steps := [⟨21, 100, false⟩, ⟨3, 200, true⟩, ⟨2, 300, true⟩], lastStep := some (800, 90000) }
def fPort (p : Power) : Power := { p with steps := [⟨21, 100, false⟩], lastStep := some (800, 90000) }
def fPorts (p : Power) : Power := { p with steps := [⟨21, 100, false⟩, ⟨23, 100, false⟩] }
def fRetry (p : Power) : Power := { p with avsRetry := some 700, avsSet := 700 }
def fLow (p : Power) : Power := { p with vbatLow := true }
def fPast (p : Power) : Power := { p with replans := [(9, 100), (5, 50)] }
def tGrant (waiting : List Nat) : Grant := { src := 4, waiting := waiting, since := 500, groups := 256, slot := 0xFF, bad := false, imm := none }
def wG (l : List (Nat × Int)) (g : Power → Power) : State := (wF 0 l g).on (·.setCommit (fun c => { c with grants := [tGrant [5, 6]] }))
def wLeft : State := (wF 0 [(K.portLinkState 5, 0)] id).on (fun d => { d.setFoyer (fun f => { f with owner := none }) with staged := [(K.portPower 5, .num 1)] })
def wOld : State := (wG [] fPorts).on (fun d => { d with clock := { d.clock with ticks := 3000000 } })

/-- A part held in reset for a cause with `n` earlier starts of cause 3. -/
def wR (cause n : Nat) : State := w1.on (fun d => { d with power := { held := cause, cause := cause }, clock := { ticks := 1000, xtal := 700 * 32768 * xtalU }, study := { d.study with images := [[1], [2]] }
                                                           foyer := {}, obj := tObj [(K.cellarPowerCycles, 5), (K.fbWdtStarts, 1)]
                                                           cellar := { d.cellar with starts := (List.range n).map (fun i => (300 + i) * 32768) } })
/-- A part that runs, but has not loaded its configuration. -/
def wC (l : List (Nat × Int)) (f : Device → Device) : State := (wN l f).on (fun d => { d with power := { d.power with serving := false, configDone := false }, staged := [(K.portPower 5, .num 9)] })
def tCfg (gen : Nat) (good : Bool) : CfgCopy := { gen := gen, good := good, vals := tObj [(K.inPvid 3, 5)] }
def wNoLock (l : List (Nat × Int)) (f : Device → Device) : State := (tState 1 l f).on (fun d => { d with clock := { d.clock with mtRun := false, mt := 0 } })
def tSnap (d : Device) : Device := { d with cellar := { d.cellar with snapHeld := true, snapCount := 0 }, clock := { d.clock with xtal := 9 * 32768 * xtalU } }
def wHalt (h : List (Option Nat)) (f : Power → Power) : State := (wN [] (·.setPower f)).on (fun d => { d with study := { d.study with haltedAt := h } })
def fNoCfg (p : Power) : Power := { p with configDone := false, imageAt := some 700 }
def fHeld (n : Nat) (p : Power) : Power := { p with held := n }
def wSaved (cs : List (Option CfgCopy)) : State := (wN [(K.khLifecycle, 1)] id).on (fun d => { d with study := { d.study with cfg := cs, saving := some 400 } })
/-! Further states. -/
def sImg (a b : Bytes) : State := (wR 2 0).on (fun d => { d with study := { d.study with images := [a, b], flag := 0 } })
def sCfg (cs : List (Option CfgCopy)) := (wC [(K.inPvid 2, 9)] id).on (fun d => { d with study := { d.study with cfg := cs } })

theorem tCanGrants : wCanOwner.grants (hapReq hCan 2 (K.canCfg 1) (tCan 0)) := by
  unfold State.grants Device.grants
  exact ⟨Or.inl ⟨by decide +kernel, by decide +kernel, by decide +kernel, by decide +kernel, by decide +kernel⟩, by decide +kernel⟩
theorem tBetter : (wI 4 [(K.instRole 5, 2), (K.domState 5, 0)] (iPort uForeign) []).dev.better 5 { announceOf (ptpMsg (List.drop 14 (tPtp 11 0 0 0 5 0 (tAnnounce 0)).body)) with priority1 := 1 }
    ((wI 4 [(K.instRole 5, 2), (K.domState 5, 0)] (iPort uForeign) []).dev.ownData 5) = true := by
  unfold Device.better
  rw [if_neg (by decide +kernel)]
  unfold Sys2Proof.Machine.better
  rw [if_neg (fun h => absurd (congrArg (fun l : Bytes => l.getD 3 0) h) (by decide +kernel))]
  rfl
theorem tOffset : (wFix.dev.skySettle.toFabEdge wFix.dev.skySettle.nextLatch.1).skySettle.gnssOffset
    ((wFix.dev.skySettle.toFabEdge wFix.dev.skySettle.nextLatch.1).skySettle.mt16 - Config.rfLatchDelay)
    ((wFix.dev.skySettle.toFabEdge wFix.dev.skySettle.nextLatch.1).skySettle.skyTry
      (((wFix.dev.skySettle.toFabEdge wFix.dev.skySettle.nextLatch.1).skySettle.latched [tMeas]).filter
        (wFix.dev.skySettle.toFabEdge wFix.dev.skySettle.nextLatch.1).skySettle.measGood) tFix).off tFix = some tFixOff := by
  simp only [tFixOff, Device.gnssOffset, tFix, Option.map_some, Option.getD_some, Bool.true_or, if_true]
/-- The snapshot's time as a seed, whatever the crystal's rate: with CELLAR_SEED_PPM 0 its uncertainty is 3,000 ns. -/
theorem tSeedOf (d : Device) (h1 : d.cellar.snapHeld = true) (h2 : d.cellar.tamperSince = false) (h3 : d.nat K.cellarSnapUnc = 1000)
    (h4 : d.nat K.cellarSeedPpm = 0) (h5 : 3000 ≤ d.nat K.cellarSeedMax) : d.seedValid = true := by
  simp [Device.seedValid, Device.seedUnc, h1, h2, h3, h4, h5]
theorem tSeed : ((wNoLock [(K.ageAvsFloor, 760), (K.ageAvsNow, 750), (K.cellarSeedPpm, 0), (K.cellarSnapUnc, 1000)] tSnap).dev.elapse (2 * msTicks)).seedValid = true :=
  tSeedOf _ (by decide +kernel) (by decide +kernel) (by decide +kernel) (by decide +kernel) (by decide +kernel)

/-! ## Well-formedness: an ill-formed term for each check, which the check refuses -/

def tHdr0 : HapHdr := tHdr false 2 0 []
def tOdd (p : Partner) : HapHdr := { tHdr0 with src := p }

theorem smoke_wf : [Instr.write tHdr0 0x2001 0 [1], .commitImmediate tHdr0 1 0 0 0 (List.replicate 12 0), .xferTimeout, .canError 0 255 (-255),
    .frameReceive 43 0 799 [] 0 none tEnv, .read (tOdd { transport := 3, addr := [], port := 0 }) 1 0x1000 0 []].all (·.wf) = true := by
  decide +kernel

/-- Partners (Table 2-1): transport, address, port, MAC and tag. -/
theorem smoke_partner : [tOdd { tHost with transport := 48 }, tOdd { tHost with addr := [1, 2, 3] }, tOdd { tHost with port := 65536 },
    tOdd { tHost with mac := [1] }, tOdd { tHost with tag := some (8, 0) }, tOdd { tHost with tag := some (7, 4096) }, tOdd { tHost with transport := 0 },
    tOdd { transport := 0, addr := [], port := 1 }, tOdd { transport := 0, addr := [], port := 0, mac := [1] },
    tOdd { transport := 0, addr := [], port := 0, tag := some (0, 1) }].all (fun h => !(Instr.lockRelease h).wf) = true := by decide +kernel

/-- PDU fields (Table 2-2). -/
theorem smoke_header : [{ tHdr0 with ver := 256 }, { tHdr0 with flags := 256 }, { tHdr0 with txn := 65536 }, { tHdr0 with status := 65536 },
    { tHdr0 with length := 65536 }, { tHdr0 with token := 2 ^ 32 }, { tHdr0 with seq := 2 ^ 32 }, { tHdr0 with mac := [1] }, { tHdr0 with flags := 1 },
    { tHdr0 with crc := 2 ^ 32 }].all (fun h => !(Instr.lockRelease h).wf && !(Instr.mtSet h []).wf && !(Instr.lockAcquire [h]).wf) = true := by
  decide +kernel

/-- Frames, schedules and units. -/
theorem smoke_frame : [Instr.write tHdr0 65536 0 [], .write tHdr0 0 256 [], .read tHdr0 256 0 0 [], .readInit tHdr0 65536 0 [], .readSeg tHdr0 0 256 [],
    .writeInit tHdr0 65536 0 [], .writeSeg tHdr0 0 256 [], .abort tHdr0 65536 0 [], .commitImmediate tHdr0 (2 ^ 64) 0 0 0 (List.replicate 12 0),
    .commitScheduled tHdr0 1 128 0 0 (List.replicate 12 0), .commitScheduled tHdr0 1 0 256 0 (List.replicate 12 0),
    .mtStepImmediate tHdr0 0 0 0 65536 (List.replicate 12 0), .mtStepScheduled tHdr0 0 0 0 0 [], .mtStepImmediate tHdr0 (2 ^ 63) 0 0 0 (List.replicate 12 0),
    .commitSwitch 1 [(0, 0)], .slotExecute [(17, 0)], .slotLatch 0 [(6, 44)], .commitSwitch (2 ^ 64) [], .commitReadyTimeout (2 ^ 64), .commitDiscard tHdr0 (2 ^ 32),
    .commitCancel tHdr0 256, .slotLatch 16 [], .mtSetApply ⟨1250001, []⟩, .stepApply 1250001 []].all (fun i => !i.wf) = true := by decide +kernel

/-- Units, channels, ports and measured values: root, references, holdover, start-up and power. -/
theorem smoke_root : [Instr.domPullComplete 8, .mtReplicaFault 65536, .resetRelease ⟨4, 1800⟩ true true ⟨[], [], [], [], false⟩ [] [], .resetRelease ⟨0, 65536⟩ true true ⟨[], [], [], [], false⟩ [] [],
    .resetRelease ⟨0, 1800⟩ true true ⟨[65536], [], [], [], false⟩ [] [], .resetRelease ⟨0, 1800⟩ true true ⟨[], [], [], [], false⟩ [(2, [])] [], .resetRelease ⟨0, 1800⟩ true true ⟨[], [], [], [], false⟩ [] [true, true, true],
    .resetRelease ⟨0, 1800⟩ true true ⟨[], [2], [], [], false⟩ [] [], .resetRelease ⟨0, 1800⟩ true true ⟨[], [], [2], [], false⟩ [] [], .resetRelease ⟨0, 1800⟩ true true ⟨[], [], [], [2], false⟩ [] [],
    .configLoad [(0, 0)], .rootLockLost 256, .rootFault (2 ^ 31) false, .loMeasure (2 ^ 32), .ckoAlign 4,
    .candidatePhaseMeasurement 9 [] (), .activityTimeout 4, .holdoffExpiry 9, .wtrExpiry 9, .selectionEvaluation [(1, 44)], .tempSample (2 ^ 31) true 0,
    .tempSample 0 true (2 ^ 32), .coreWatchdogExpiry 4, .coreReloadComplete 4 0, .studyFwImage tHdr0 (2 ^ 32) [], .mbSend tHdr0 16 [], .mbRecv tHdr0 16,
    .flashRecordWrite 4, .wake 256 0, .wake 0 256, .wakeInPin 2 true, .marginReplan (List.replicate 33 0) true, .vbatLow 65536, .railFault 256 0,
    .railFault 1 65536].all (fun i => !i.wf) = true := by decide +kernel

/-- Skylight, Threshold and the outputs. -/
theorem smoke_edges : [Instr.acqDwell ⟨64, 0⟩ 0 0 ⟨0, 0⟩ true 0 0, .acqDwell ⟨0, 128⟩ 0 0 ⟨0, 0⟩ true 0 0, .acqDwell ⟨0, 0⟩ 256 0 ⟨0, 0⟩ true 0 0, .acqDwell ⟨0, 0⟩ 0 256 ⟨0, 0⟩ true 0 0,
    .acqDwell ⟨0, 0⟩ 0 0 ⟨3, 0⟩ true 0 0, .acqDwell ⟨0, 0⟩ 0 0 ⟨0, 7⟩ true 0 0, .acqDwell ⟨0, 0⟩ 0 0 ⟨0, 0⟩ true (2 ^ 31) 0, .acqDwell ⟨0, 0⟩ 0 0 ⟨0, 0⟩ true 0 36000,
    .pullInTimeout 128, .coastTimeout 128, .correlatorDump 128 ⟨0, []⟩ false false none, .correlatorDump 0 ⟨65536, []⟩ false false none,
    .correlatorDump 0 ⟨0, [(2 ^ 23, 0)]⟩ false false none, .measLatch [{ channel := 128 }] none none, .measLatch [{ channel := 0, cn0 := 65536 }] none none,
    .parkBurst [{ channel := 0, carrier := 2 ^ 63 }] ⟨none, none⟩, .parkBurst [{ channel := 0, doppler := 2 ^ 31 }] ⟨none, none⟩, .antCurrentMeasure 65536,
    .antShortRetry 65536, .agcInterference true 65536 (), .edgeInput 24 false 0 0, .edgeInput 0 false 0 800, .stampConversion 24, .intervalTimeout 24,
    .regGateEnd 24, .tdcCalSwap 24 [] (), .tdcCalSwap 0 [2 ^ 32] (), .chFifoRead tHdr0 24, .outEdge 16, .outTrailingEdge 16, .outRearm tHdr0 16 []].all
    (fun i => !i.wf) = true := by decide +kernel

/-- Ports, switch, CAN, time service, ledger, Strongroom and keys. -/
theorem smoke_ports : [Instr.frameReceive 44 0 0 [] 0 none tEnv, .frameReceive 0 0 800 [] 0 none tEnv, .frameRelease 44, .frameTransmit 44 0 0, .frameTransmit 0 0 800,
    .collision 44 false, .backoffExpiry 44, .plcaBeacon 44 0, .plcaBeaconTimeout 44, .linkUp 44, .linkLoss 44, .trainingRetry 44, .gateBoundary 44,
    .portCntClear tHdr0 44 [1], .stampProbeSend tHdr0 44 [], .canCfg tHdr0 4 [], .canIntegrated 4, .canFrameReceive 4 0 .fd [] tEnv,
    .canFrameReceive 0 (2 ^ 29) .fd [] tEnv, .canFrameReceive 0 0 .fd (List.replicate 2049 0) tEnv, .canError 4 0 0, .canError 0 256 0, .canError 0 0 (-256),
    .canBusoffRecovery 4, .ringObsClear tHdr0 64 [1], .syncSchedule 8 0, .syncSchedule 0 44, .announceSchedule 8 0, .delayReqSchedule 0 44, .bmcaDecision 8,
    .qualificationTimeout 8 0, .announceReceiptTimeout 0 44, .syncReceiptTimeout 8 0, .pdelayLostResponses 0 44, .freeBoundUpdate 8, .jobCheckEnd 4 none,
    .jobCheckEnd 0 (some 64), .jobYield 4 0 false, .jobComplete 4 0 true true, .selfTestComplete 4 0 true, .srSlotData tHdr0 64 [],
    .entropyHealthFailure 256, .keygenComplete 64, .tamperInput 4].all (fun i => !i.wf) = true := by decide +kernel

/-! ## Worked examples of the spec -/

/-- R105's example: MT = 1,790,000,001 s gives STAMP32 0x5F8D_CA00. -/
theorem test_stamp32 : (w1.on (fun d => { d with clock := { d.clock with mt := 1790000001 * (10 ^ 9 * nsU) } })).dev.stamp32 = 0x5F8DCA00 := by
  decide +kernel

/-- R503's check value. -/
theorem test_crc32c : crc32c [0x31, 0x32, 0x33, 0x34, 0x35, 0x36, 0x37, 0x38, 0x39] = 0xE3069283 := by decide +kernel

/-- The ledger's example: five leaves have depth 3. -/
theorem test_ledger_depth : depthOf 5 = 3 := by decide +kernel

/-- Table 23-4: each address exists; 0x3014:40 does not. -/
theorem test_addresses : [(0x3514, 1), (0x3514, 0x27), (0x3014, 0x37), (0x3454, 1), (0x7011, 0x0B), (0x410A, 0x13), (0x2420, 1), (0x23E4, 1), (0x517E, 1),
    (0x5045, 1), (0x6118, 3), (0x3112, 1)].all (fun e => (dictFind e.1 e.2).isSome) = true ∧ dictFind 0x3014 0x40 = none := by decide +kernel

/-- R6's example: revision B0, stepping 0, reads 0x0000_0B00. -/
theorem test_revision : dictDefault K.revision = .num 0xB00 := by decide +kernel

/-- An empty queue: the tick counts one 0.8 ns period (log entry 1). -/
def outOf (o : Host.Outcome State Fault Refusal) : State := match o with | .next t => t | _ => w1
theorem test_idle : (outOf (step State.reset)).dev.clock.ticks = 1 := by decide +kernel

/-- A client whose last message would be a fatal alert, and one without. -/
theorem witness_tlsFailure : tlsFailure (tClient (some 40) tAsk) = some 40 ∧ tlsFailure (tClient none tAsk) = none := by decide +kernel

/-- No word spells a command: no row of the table has bits. -/
theorem test_no_bits : decodeTableWord 16 0x1234 = none := rfl

/-! ## Witnesses: for each statement with hypotheses, states and operands that meet them; one conjunct for a clause -/

theorem witness_StoresStayCanonical : let s : State := { w1 with pending := [.fdbAgeingExpiry], dev := { w1.dev with obj := [(K.fbSlope, .num 300)], staged := [(K.fbStepGap, .num 30)] } }
    s.dev.Stored ∧ ∃ t, step s = .next t := by
  refine ⟨?_, ?_⟩
  · exact ⟨by simp [Store.Canonical]; decide +kernel, by simp [Store.Rising]⟩
  · exact ⟨_, rfl⟩

theorem witness_ReadGivesValue :
    let c := tHdr false 1 K.latencyTol []
    let b := w1.asked (hapReq c 1 K.latencyTol [])
    let a := w1.dev.heard (hapReq c 1 K.latencyTol [])
    w1.grants (hapReq c 1 K.latencyTol []) ∧ c.flags < 8 ∧ dictFind (K.latencyTol / 256) (K.latencyTol % 256) = some (tRow K.latencyTol) ∧
    (tRow K.latencyTol).acc ≠ Acc.wo ∧ b.needsSession K.latencyTol (tRow K.latencyTol) false = false ∧
    List.length (b.readFit (K.latencyTol / 256) (K.latencyTol % 256) (bit c.flags 2 && decide ((tRow K.latencyTol).acc = Acc.rwc)) (maxPayload (reqSrc (hapReq c 1 K.latencyTol [])) c.xl (decide (a.lock = 3)))) ≤ maxPayload (reqSrc (hapReq c 1 K.latencyTol [])) c.xl (decide (a.lock = 3)) ∧
    ((bit c.flags 2 && decide ((tRow K.latencyTol).acc = Acc.rwc)) = false → b.readBarred K.latencyTol = false) ∧
    (¬(9232 * 256 ≤ K.latencyTol ∧ K.latencyTol < 9256 * 256 ∧ K.latencyTol % 256 = 17)) :=
  ⟨(tGrants _ _ _ _ _ (by decide +kernel) (by decide +kernel)), by decide +kernel⟩

theorem witness_WriteStagesOrSets :
    (let b := tHdr false 2 K.fbSlope (toBE 2 300)
     let a := w1.asWritten b K.fbSlope (toBE 2 300)
     w1.writes b K.fbSlope (toBE 2 300) ∧ dictFind (K.fbSlope / 256) (K.fbSlope % 256) = some (tRow K.fbSlope) ∧ (tRow K.fbSlope).acc ≠ Acc.ro ∧
     a.needsSession K.fbSlope (tRow K.fbSlope) true = false ∧
     a.lengthBad (K.fbSlope / 256) (K.fbSlope % 256) (tRow K.fbSlope).ty (toBE 2 300) = false ∧
     rangeBad K.fbSlope (tRow K.fbSlope) (toBE 2 300) = false ∧ (tRow K.fbSlope).acc = Acc.rwc ∧ a.frozen (tRow K.fbSlope).grp = false) ∧
    (let b := tHdr false 2 K.fbSlope (toBE 2 300)
     let a := (wComm 32768).asWritten b K.fbSlope (toBE 2 300)
     (wComm 32768).writes b K.fbSlope (toBE 2 300) ∧ dictFind (K.fbSlope / 256) (K.fbSlope % 256) = some (tRow K.fbSlope) ∧
     (tRow K.fbSlope).acc ≠ Acc.ro ∧ a.needsSession K.fbSlope (tRow K.fbSlope) true = false ∧
     a.lengthBad (K.fbSlope / 256) (K.fbSlope % 256) (tRow K.fbSlope).ty (toBE 2 300) = false ∧
     rangeBad K.fbSlope (tRow K.fbSlope) (toBE 2 300) = false ∧ (tRow K.fbSlope).acc = Acc.rwc ∧ a.frozen (tRow K.fbSlope).grp = true) ∧
    (let b := tHdr false 2 K.dbIrqMask [7]
     let a := w1.asWritten b K.dbIrqMask [7]
     w1.writes b K.dbIrqMask [7] ∧ dictFind (K.dbIrqMask / 256) (K.dbIrqMask % 256) = some (tRow K.dbIrqMask) ∧
     (tRow K.dbIrqMask).acc ≠ Acc.ro ∧ a.needsSession K.dbIrqMask (tRow K.dbIrqMask) true = false ∧
     a.lengthBad (K.dbIrqMask / 256) (K.dbIrqMask % 256) (tRow K.dbIrqMask).ty [7] = false ∧
     rangeBad K.dbIrqMask (tRow K.dbIrqMask) [7] = false ∧ (tRow K.dbIrqMask).acc ≠ Acc.rwc) :=
  ⟨⟨(tWrites _ _ _ _ (by decide +kernel) (by decide +kernel)), by decide +kernel⟩, ⟨(tWrites _ _ _ _ (by decide +kernel) (by decide +kernel)),
   by decide +kernel⟩, ⟨(tWrites _ _ _ _ (by decide +kernel) (by decide +kernel)), by decide +kernel⟩⟩

theorem witness_SegmentedReadFromCopy :
    (let b := tHdr false 3 K.latencyTol []
     let a := w1.asked (hapReq b 3 K.latencyTol [])
     w1.grants (hapReq b 3 K.latencyTol []) ∧ b.flags < 8 ∧ dictFind (K.latencyTol / 256) (K.latencyTol % 256) = some (tRow K.latencyTol) ∧
     (tRow K.latencyTol).acc ≠ Acc.wo ∧ a.needsSession K.latencyTol (tRow K.latencyTol) false = false ∧ a.foyer.xfer = none ∧
     ((bit b.flags 2 && decide ((tRow K.latencyTol).acc = Acc.rwc)) = false → a.readBarred K.latencyTol = false)) ∧
    (let a := tHdr false 4 K.latencyTol [0, 0, 0, 1]
     wRead.grants (hapReq a 4 K.latencyTol [0, 0, 0, 1]) ∧ a.flags < 8 ∧
     dictFind (K.latencyTol / 256) (K.latencyTol % 256) = some (tRow K.latencyTol) ∧ (tRow K.latencyTol).acc ≠ Acc.wo ∧
     (wRead.asked (hapReq a 4 K.latencyTol [0, 0, 0, 1])).needsSession K.latencyTol (tRow K.latencyTol) false = false ∧
     [0, 0, 0, 1].length = 4 ∧ a.length = 4 ∧
     ({ writing := false, seg := 2, index := 8193, sub := 0, total := 4, buf := [1, 2, 3, 4], next := 0, since := 0 } : Xfer).writing = false ∧
     ({ writing := false, seg := 2, index := 8193, sub := 0, total := 4, buf := [1, 2, 3, 4], next := 0, since := 0 } : Xfer).index = K.latencyTol / 256 ∧
     ({ writing := false, seg := 2, index := 8193, sub := 0, total := 4, buf := [1, 2, 3, 4], next := 0, since := 0 } : Xfer).sub = K.latencyTol % 256 ∧
     (beNat [0, 0, 0, 1] = 0 ∨ beNat [0, 0, 0, 1] * ({ writing := false, seg := 2, index := 8193, sub := 0, total := 4, buf := [1, 2, 3, 4], next := 0, since := 0 } : Xfer).seg < ({ writing := false, seg := 2, index := 8193, sub := 0, total := 4, buf := [1, 2, 3, 4], next := 0, since := 0 } : Xfer).total) ∧
     ({ writing := false, seg := 2, index := 8193, sub := 0, total := 4, buf := [1, 2, 3, 4], next := 0, since := 0 } : Xfer).total ≤ beNat [0, 0, 0, 1] * ({ writing := false, seg := 2, index := 8193, sub := 0, total := 4, buf := [1, 2, 3, 4], next := 0, since := 0 } : Xfer).seg + List.length (field ({ writing := false, seg := 2, index := 8193, sub := 0, total := 4, buf := [1, 2, 3, 4], next := 0, since := 0 } : Xfer).buf (beNat [0, 0, 0, 1] * ({ writing := false, seg := 2, index := 8193, sub := 0, total := 4, buf := [1, 2, 3, 4], next := 0, since := 0 } : Xfer).seg) ({ writing := false, seg := 2, index := 8193, sub := 0, total := 4, buf := [1, 2, 3, 4], next := 0, since := 0 } : Xfer).seg)) ∧
    (let a := tHdr false 4 K.latencyTol [0, 0, 0, 0]
     wRead.grants (hapReq a 4 K.latencyTol [0, 0, 0, 0]) ∧ a.flags < 8 ∧
     dictFind (K.latencyTol / 256) (K.latencyTol % 256) = some (tRow K.latencyTol) ∧ (tRow K.latencyTol).acc ≠ Acc.wo ∧
     (wRead.asked (hapReq a 4 K.latencyTol [0, 0, 0, 0])).needsSession K.latencyTol (tRow K.latencyTol) false = false ∧
     [0, 0, 0, 0].length = 4 ∧ a.length = 4 ∧
     ({ writing := false, seg := 2, index := 8193, sub := 0, total := 4, buf := [1, 2, 3, 4], next := 0, since := 0 } : Xfer).writing = false ∧
     ({ writing := false, seg := 2, index := 8193, sub := 0, total := 4, buf := [1, 2, 3, 4], next := 0, since := 0 } : Xfer).index = K.latencyTol / 256 ∧
     ({ writing := false, seg := 2, index := 8193, sub := 0, total := 4, buf := [1, 2, 3, 4], next := 0, since := 0 } : Xfer).sub = K.latencyTol % 256 ∧
     (beNat [0, 0, 0, 0] = 0 ∨ beNat [0, 0, 0, 0] * ({ writing := false, seg := 2, index := 8193, sub := 0, total := 4, buf := [1, 2, 3, 4], next := 0, since := 0 } : Xfer).seg < ({ writing := false, seg := 2, index := 8193, sub := 0, total := 4, buf := [1, 2, 3, 4], next := 0, since := 0 } : Xfer).total) ∧
     beNat [0, 0, 0, 0] * ({ writing := false, seg := 2, index := 8193, sub := 0, total := 4, buf := [1, 2, 3, 4], next := 0, since := 0 } : Xfer).seg + List.length (field ({ writing := false, seg := 2, index := 8193, sub := 0, total := 4, buf := [1, 2, 3, 4], next := 0, since := 0 } : Xfer).buf (beNat [0, 0, 0, 0] * ({ writing := false, seg := 2, index := 8193, sub := 0, total := 4, buf := [1, 2, 3, 4], next := 0, since := 0 } : Xfer).seg) ({ writing := false, seg := 2, index := 8193, sub := 0, total := 4, buf := [1, 2, 3, 4], next := 0, since := 0 } : Xfer).seg) < ({ writing := false, seg := 2, index := 8193, sub := 0, total := 4, buf := [1, 2, 3, 4], next := 0, since := 0 } : Xfer).total) ∧
    (let a := tHdr false 7 K.latencyTol []
     wRead.grants (hapReq a 7 K.latencyTol []) ∧ a.flags < 8 ∧ dictFind (K.latencyTol / 256) (K.latencyTol % 256) = some (tRow K.latencyTol) ∧
     ({ writing := false, seg := 2, index := 8193, sub := 0, total := 4, buf := [1, 2, 3, 4], next := 0, since := 0 } : Xfer).index = K.latencyTol / 256 ∧
     ({ writing := false, seg := 2, index := 8193, sub := 0, total := 4, buf := [1, 2, 3, 4], next := 0, since := 0 } : Xfer).sub = K.latencyTol % 256) :=
  ⟨⟨(tGrants _ _ _ _ _ (by decide +kernel) (by decide +kernel)), by decide +kernel⟩,
   ⟨(tGrants _ _ _ _ _ (by decide +kernel) (by decide +kernel)), by decide +kernel⟩,
   ⟨(tGrants _ _ _ _ _ (by decide +kernel) (by decide +kernel)), by decide +kernel⟩,
   ⟨(tGrants _ _ _ _ _ (by decide +kernel) (by decide +kernel)), by decide +kernel⟩⟩

theorem witness_SegmentedWriteAtTotal :
    (let b := tHdr false 5 K.latencyTol [0, 0, 0, 4]
     let a := w1.asked (hapReq b 5 K.latencyTol [0, 0, 0, 4])
     w1.grants (hapReq b 5 K.latencyTol [0, 0, 0, 4]) ∧ b.flags < 8 ∧ b.length = [0, 0, 0, 4].length ∧
     dictFind (K.latencyTol / 256) (K.latencyTol % 256) = some (tRow K.latencyTol) ∧ (tRow K.latencyTol).acc ≠ Acc.ro ∧
     a.needsSession K.latencyTol (tRow K.latencyTol) true = false ∧ a.foyer.xfer = none ∧ a.nat K.studyStageState = 0 ∧
     [0, 0, 0, 4].length = 4 ∧ 1 ≤ beNat [0, 0, 0, 4] ∧ beNat [0, 0, 0, 4] ≤ 16777216 ∧
     (tRow K.latencyTol).ty.allows (beNat [0, 0, 0, 4]) = true ∧ K.latencyTol ≠ K.studyFwImage) ∧
    (let a := tHdr false 6 K.latencyTol [0, 0, 0, 1, 9]
     wSeg.grants (hapReq a 6 K.latencyTol [0, 0, 0, 1, 9]) ∧ a.flags < 8 ∧ a.length = [0, 0, 0, 1, 9].length ∧
     dictFind (K.latencyTol / 256) (K.latencyTol % 256) = some (tRow K.latencyTol) ∧ (tRow K.latencyTol).acc ≠ Acc.ro ∧
     (wSeg.asked (hapReq a 6 K.latencyTol [0, 0, 0, 1, 9])).needsSession K.latencyTol (tRow K.latencyTol) true = false ∧
     4 ≤ [0, 0, 0, 1, 9].length ∧
     ({ writing := true, seg := 0, index := 8193, sub := 0, total := 4, buf := [1, 2], next := 1, since := 0 } : Xfer).writing = true ∧
     ({ writing := true, seg := 0, index := 8193, sub := 0, total := 4, buf := [1, 2], next := 1, since := 0 } : Xfer).index = K.latencyTol / 256 ∧
     ({ writing := true, seg := 0, index := 8193, sub := 0, total := 4, buf := [1, 2], next := 1, since := 0 } : Xfer).sub = K.latencyTol % 256 ∧
     beNat (List.take 4 [0, 0, 0, 1, 9]) = ({ writing := true, seg := 0, index := 8193, sub := 0, total := 4, buf := [1, 2], next := 1, since := 0 } : Xfer).next ∧
     List.length ({ writing := true, seg := 0, index := 8193, sub := 0, total := 4, buf := [1, 2], next := 1, since := 0 } : Xfer).buf + (List.drop 4 [0, 0, 0, 1, 9]).length < ({ writing := true, seg := 0, index := 8193, sub := 0, total := 4, buf := [1, 2], next := 1, since := 0 } : Xfer).total) ∧
    (let b := tHdr false 6 K.latencyTol [0, 0, 0, 1, 9, 9]
     let a := wSeg.asked (hapReq b 6 K.latencyTol [0, 0, 0, 1, 9, 9])
     wSeg.grants (hapReq b 6 K.latencyTol [0, 0, 0, 1, 9, 9]) ∧ b.flags < 8 ∧ b.length = [0, 0, 0, 1, 9, 9].length ∧
     dictFind (K.latencyTol / 256) (K.latencyTol % 256) = some (tRow K.latencyTol) ∧ (tRow K.latencyTol).acc ≠ Acc.ro ∧
     a.needsSession K.latencyTol (tRow K.latencyTol) true = false ∧ 4 ≤ [0, 0, 0, 1, 9, 9].length ∧
     ({ writing := true, seg := 0, index := 8193, sub := 0, total := 4, buf := [1, 2], next := 1, since := 0 } : Xfer).writing = true ∧
     ({ writing := true, seg := 0, index := 8193, sub := 0, total := 4, buf := [1, 2], next := 1, since := 0 } : Xfer).index = K.latencyTol / 256 ∧
     ({ writing := true, seg := 0, index := 8193, sub := 0, total := 4, buf := [1, 2], next := 1, since := 0 } : Xfer).sub = K.latencyTol % 256 ∧
     beNat (List.take 4 [0, 0, 0, 1, 9, 9]) = ({ writing := true, seg := 0, index := 8193, sub := 0, total := 4, buf := [1, 2], next := 1, since := 0 } : Xfer).next ∧
     List.length ({ writing := true, seg := 0, index := 8193, sub := 0, total := 4, buf := [1, 2], next := 1, since := 0 } : Xfer).buf + (List.drop 4 [0, 0, 0, 1, 9, 9]).length = ({ writing := true, seg := 0, index := 8193, sub := 0, total := 4, buf := [1, 2], next := 1, since := 0 } : Xfer).total ∧
     a.lengthBad (K.latencyTol / 256) (K.latencyTol % 256) (tRow K.latencyTol).ty (({ writing := true, seg := 0, index := 8193, sub := 0, total := 4, buf := [1, 2], next := 1, since := 0 } : Xfer).buf ++ List.drop 4 [0, 0, 0, 1, 9, 9]) = false ∧
     rangeBad K.latencyTol (tRow K.latencyTol) (({ writing := true, seg := 0, index := 8193, sub := 0, total := 4, buf := [1, 2], next := 1, since := 0 } : Xfer).buf ++ List.drop 4 [0, 0, 0, 1, 9, 9]) = false) :=
  ⟨⟨(tGrants _ _ _ _ _ (by decide +kernel) (by decide +kernel)), by decide +kernel⟩,
   ⟨(tGrants _ _ _ _ _ (by decide +kernel) (by decide +kernel)), by decide +kernel⟩,
   ⟨(tGrants _ _ _ _ _ (by decide +kernel) (by decide +kernel)), by decide +kernel⟩⟩

theorem witness_LockGrantedOnce :
    (let b := tHdr false 2 K.lockRequest [1]
     let a := wFree.dev.heard (hapReq b 2 K.lockRequest [1])
     wFree.dev.hears (hapReq b 2 K.lockRequest [1]) ∧ reqDiscarded (hapReq b 2 K.lockRequest [1]) = false ∧ a.keyhole.recovery = false ∧
     a.lock = 0 ∧ a.isOwner (reqSrc (hapReq b 2 K.lockRequest [1])) = false ∧ a.entropyOk = true ∧ b.flags < 8 ∧ b.length = 1 ∧ b.env.mem = []) ∧
    (let b := tHdr false 2 K.lockRequest [1]
     let a := (tState 1 [] fun x => x.setFoyer fun f => { f with owner := some { tHost with transport := 5 } }).dev.heard (hapReq b 2 K.lockRequest [1])
     (tState 1 [] fun x => x.setFoyer fun f => { f with owner := some { tHost with transport := 5 } }).dev.hears (hapReq b 2 K.lockRequest [1]) ∧
     reqDiscarded (hapReq b 2 K.lockRequest [1]) = false ∧ a.keyhole.recovery = false ∧ a.lock ≠ 0 ∧
     a.isOwner (reqSrc (hapReq b 2 K.lockRequest [1])) = false ∧ b.length = 1) :=
  ⟨⟨(Or.inl ⟨by decide +kernel, by decide +kernel, by decide +kernel, by decide +kernel, by decide +kernel⟩), by decide +kernel⟩,
   ⟨(Or.inl ⟨by decide +kernel, by decide +kernel, by decide +kernel, by decide +kernel, by decide +kernel⟩), by decide +kernel⟩⟩

theorem witness_LockEndsByOwnerOrTime :
    (w1.writes (tHdr false 2 K.lockRequest [0]) K.lockRequest [0]) ∧
    (w1.dev.lock ≠ 0) ∧
    ((wPend 1).dev.lock = 2 ∧ (wPend 1).dev.nat K.hapLockPolicy ≠ 0) ∧
    ((wPend 0).dev.lock = 2 ∧ (wPend 0).dev.nat K.hapLockPolicy = 0) :=
  ⟨(tWrites _ _ _ _ (by decide +kernel) (by decide +kernel)), by decide +kernel, by decide +kernel, by decide +kernel⟩

theorem witness_HeartbeatNamesTheState :
    (w1.dev.nat K.hapHbPeriod ≠ 0 ∧ w1.dev.asleep = false ∧ w1.dev.power.entry = none ∧ w1.dev.power.configDone = true) ∧
    (let a := tState 1 [(K.hapHbPeriod, 0)] id
     (a.dev.nat K.hapHbPeriod = 0 ∨ a.dev.asleep = true ∨ a.dev.power.entry.isSome = true ∨ a.dev.power.configDone = false)) :=
  ⟨by decide +kernel, by decide +kernel⟩

theorem witness_CommitAcceptedThenSwitched :
    (let a := tHdr false 2 K.commitRequest (commitBytes 32768 0 255 0 (List.replicate 12 0))
     w1.writes a K.commitRequest (commitBytes 32768 (2 * 0) 255 0 (List.replicate 12 0)) ∧ (List.replicate 12 0).length = 12 ∧ a.env.mem = [] ∧
     (w1.asWritten a K.commitRequest (commitBytes 32768 (2 * 0) 255 0 (List.replicate 12 0))).commitRefused (commitReq (commitBytes 32768 (2 * 0) 255 0 (List.replicate 12 0))) [] = none) ∧
    (let a := tHdr false 2 K.commitRequest (commitBytes 32768 1 255 0 (time96Bytes (6 * sec16)))
     w1.writes a K.commitRequest (commitBytes 32768 (2 * 0 + 1) 255 0 (time96Bytes (6 * sec16))) ∧ List.length (time96Bytes (6 * sec16)) = 12 ∧
     a.env.mem = [] ∧
     (w1.asWritten a K.commitRequest (commitBytes 32768 (2 * 0 + 1) 255 0 (time96Bytes (6 * sec16)))).commitRefused (commitReq (commitBytes 32768 (2 * 0 + 1) 255 0 (time96Bytes (6 * sec16)))) [] = none) ∧
    (let a := tHdr false 2 K.commitRequest (commitBytes 0 0 255 0 (List.replicate 12 0))
     w1.writes a K.commitRequest (commitBytes 0 0 255 0 (List.replicate 12 0)) ∧ (List.replicate 12 0).length = 12 ∧ a.env.mem = [] ∧
     (w1.asWritten a K.commitRequest (commitBytes 0 0 255 0 (List.replicate 12 0))).commitRefused (commitReq (commitBytes 0 0 255 0 (List.replicate 12 0))) [] = some (4101, 0)) :=
  ⟨⟨(tWrites _ _ _ _ (by decide +kernel) (by decide +kernel)), by decide +kernel⟩, ⟨(tWrites _ _ _ _ (by decide +kernel) (by decide +kernel)),
   by decide +kernel⟩, ⟨(tWrites _ _ _ _ (by decide +kernel) (by decide +kernel)), by decide +kernel⟩⟩

theorem witness_CommitSwitchAppliesGroups :
    (List.find? (fun c => decide (c.groups = 32)) (wComm 32).dev.commit.imm = some (tImm 32) ∧ timedStuck 32 [] = false ∧
     ((groupsOf 32).any groupTimed = true → (wComm 32).dev.clock.ticks ≤ (tImm 32).since + msTicks)) ∧
    (List.find? (fun c => decide (c.groups = 32)) (wComm 32).dev.commit.imm = some (tImm 32) ∧ (groupsOf 32).any groupTimed = true) :=
  ⟨by decide +kernel, by decide +kernel⟩

theorem witness_SwitchedUnitsTakeStagedValues :
    { w1.dev with staged := [(K.fbSlope, Val.num 300)] }.staged.Rising ∧ (groupOf K.fbSlope = 15 ∧ unitOf 15 K.fbSlope = 0) :=
  ⟨(by simp [Store.Rising]), by decide +kernel⟩

theorem witness_DiscardAndCancel :
    (let a := tHdr false 2 K.commitDiscard (toBE 4 131070)
     w1.writes a K.commitDiscard (toBE 4 131070) ∧ (groupsOf 131070).any (w1.asWritten a K.commitDiscard (toBE 4 131070)).frozen = false) ∧
    (let a := tHdr false 2 K.commitDiscard (toBE 4 32)
     (wComm 32).writes a K.commitDiscard (toBE 4 32) ∧ (groupsOf 32).any ((wComm 32).asWritten a K.commitDiscard (toBE 4 32)).frozen = true) ∧
    (let a := tHdr false 2 K.commitCancel [3]
     (wSlot 1 1).writes a K.commitCancel (toBE 1 3) ∧ ((wSlot 1 1).asWritten a K.commitCancel (toBE 1 3)).slotState 3 = 1) ∧
    (let a := tHdr false 2 K.commitCancel [3]
     (wSlot 2 1).writes a K.commitCancel (toBE 1 3) ∧ ((wSlot 2 1).asWritten a K.commitCancel (toBE 1 3)).slotState 3 ≠ 1) :=
  ⟨⟨(tWrites _ _ _ _ (by decide +kernel) (by decide +kernel)), by decide +kernel⟩, ⟨(tWrites _ _ _ _ (by decide +kernel) (by decide +kernel)),
   by decide +kernel⟩, ⟨(tWrites _ _ _ _ (by decide +kernel) (by decide +kernel)), by decide +kernel⟩,
   ⟨(tWrites _ _ _ _ (by decide +kernel) (by decide +kernel)), by decide +kernel⟩⟩

theorem witness_SlotsLatchThenExecute :
    ((wSlot 1 1).dev.slotState 3 = 1 ∧ (wSlot 1 1).dev.nat (K.slotKind 3) ≠ 2 ∧ timedStuck ((wSlot 1 1).dev.slot 3).groups [] = false) ∧
    ((wSlot 1 2).dev.slotState 3 = 1 ∧ (wSlot 1 2).dev.nat (K.slotKind 3) = 2 ∧
     (wSlot 1 2).dev.stepAllowed ((wSlot 1 2).dev.slot 3).amount = true) ∧
    ((wSlot 2 1).dev.slotState 3 = 2 ∧ (wSlot 2 1).dev.executing 3 = false ∧ (∀ m < 16, m ≠ 3 → (wSlot 2 1).dev.slotState m ≠ 2) ∧
     (wSlot 2 1).dev.clock.mtRun = true ∧ (wSlot 2 1).dev.slotInst 3 ≤ ((wSlot 2 1).dev.runToMt ((wSlot 2 1).dev.slotInst 3)).clock.mt ∧
     (wSlot 2 1).dev.nat (K.slotKind 3) ≠ 2) ∧
    ((wSlot 2 2).dev.slotState 3 = 2 ∧ (wSlot 2 2).dev.executing 3 = false ∧ (∀ m < 16, m ≠ 3 → (wSlot 2 2).dev.slotState m ≠ 2) ∧
     (wSlot 2 2).dev.clock.mtRun = true ∧ (wSlot 2 2).dev.slotInst 3 ≤ ((wSlot 2 2).dev.runToMt ((wSlot 2 2).dev.slotInst 3)).clock.mt ∧
     (wSlot 2 2).dev.nat (K.slotKind 3) = 2 ∧ (wSlot 2 2).dev.stepAllowed ((wSlot 2 2).dev.slot 3).amount = true) :=
  ⟨by decide +kernel, by decide +kernel, by decide +kernel, by decide +kernel⟩

theorem witness_MtCountsEveryTick :
    ((wPull 7).pending = [] ∧ (wPull 7).dev.clock.mtRun = true ∧ 0 ≤ (wPull 7).dev.clock.pull) ∧
    (let a := wPull (-10000000000)
     a.pending = [] ∧ a.dev.clock.mtRun = true ∧ a.dev.clock.pull ≤ 0) ∧
    (wStop.pending = [] ∧ wStop.dev.clock.mtRun = false) :=
  ⟨by decide +kernel, by decide +kernel, by decide +kernel⟩

theorem witness_MtSetAcceptedThenApplied :
    (let a := tHdr true 2 K.mtSet (time96Bytes 65536)
     w3.writes a K.mtSet (time96Bytes 65536) ∧ List.length (time96Bytes 65536) = 12 ∧ time96Bad (time96Bytes 65536) = false ∧
     (w3.asWritten a K.mtSet (time96Bytes 65536)).lock = 3 ∧ (w3.asWritten a K.mtSet (time96Bytes 65536)).everLocked = false) ∧
    (let c := tState 3 [(K.mtEverLocked, 1)] id
     let b := tHdr true 2 K.mtSet (time96Bytes 65536)
     let a := c.asWritten b K.mtSet (time96Bytes 65536)
     c.writes b K.mtSet (time96Bytes 65536) ∧ List.length (time96Bytes 65536) = 12 ∧ time96Bad (time96Bytes 65536) = false ∧ a.lock = 3 ∧
     a.everLocked = true) ∧
    (wWait.dev.everLocked = false ∧ wWait.dev.nat K.mtState = 0 ∧ wWait.dev.nat K.mtState ≠ 2) ∧
    ((wWait.on fun x => x.setNum K.mtEverLocked 1).dev.everLocked = true) :=
  ⟨⟨(tWrites _ _ _ _ (by decide +kernel) (by decide +kernel)), by decide +kernel⟩, ⟨(tWrites _ _ _ _ (by decide +kernel) (by decide +kernel)),
   by decide +kernel⟩, by decide +kernel, by decide +kernel⟩

theorem witness_StepRequestsTableThreeFour_a :
    (let a := tHdr true 2 K.mtStep (stepBytes 0 0 0 0 (List.replicate 12 0))
     w3.writes a K.mtStep (stepBytes 0 (2 * 0) 0 0 (List.replicate 12 0)) ∧ (List.replicate 12 0).length = 12 ∧
     (w3.asWritten a K.mtStep (stepBytes 0 (2 * 0) 0 0 (List.replicate 12 0))).lock = 3 ∧
     (0 = 0 ∨ 65536000000000000 < Int.natAbs 0 ∨ 0 ≠ 0 ∨ 0 ≠ 0)) ∧
    (let a := tHdr true 2 K.mtStep (stepBytes 65536000000000000 0 0 0 (List.replicate 12 0))
     w3.writes a K.mtStep (stepBytes 65536000000000000 (2 * 0) 0 0 (List.replicate 12 0)) ∧ (List.replicate 12 0).length = 12 ∧
     (w3.asWritten a K.mtStep (stepBytes 65536000000000000 (2 * 0) 0 0 (List.replicate 12 0))).lock = 3 ∧
     Int.natAbs 65536000000000000 ≤ 65536000000000000 ∧
     (0 < 65536000000000000 ∨ (w3.asWritten a K.mtStep (stepBytes 65536000000000000 (2 * 0) 0 0 (List.replicate 12 0))).everLocked = false) ∧
     (w3.asWritten a K.mtStep (stepBytes 65536000000000000 (2 * 0) 0 0 (List.replicate 12 0))).nat K.mtState ≠ 3) ∧
    (let c := tState 3 [(K.mtState, 3)] id
     let b := tHdr true 2 K.mtStep (stepBytes 1 0 0 0 (List.replicate 12 0))
     let a := c.asWritten b K.mtStep (stepBytes 1 (2 * 0) 0 0 (List.replicate 12 0))
     c.writes b K.mtStep (stepBytes 1 (2 * 0) 0 0 (List.replicate 12 0)) ∧ (List.replicate 12 0).length = 12 ∧ a.lock = 3 ∧
     Int.natAbs 1 ≤ 65536000000000000 ∧ (1 < 0 ∧ a.everLocked = true ∨ a.nat K.mtState = 3)) ∧
    (let a := tHdr true 2 K.mtStep (stepBytes 1 1 16 0 (time96Bytes (6 * sec16)))
     w3.writes a K.mtStep (stepBytes 1 (2 * 0 + 1) 16 0 (time96Bytes (6 * sec16))) ∧ List.length (time96Bytes (6 * sec16)) = 12 ∧
     (w3.asWritten a K.mtStep (stepBytes 1 (2 * 0 + 1) 16 0 (time96Bytes (6 * sec16)))).lock = 3 ∧ Int.natAbs 1 ≤ 65536000000000000) ∧
    (let a := tHdr true 2 K.mtStep (stepBytes 1 1 15 0 (time96Bytes (6 * sec16)))
     w3.writes a K.mtStep (stepBytes 1 (2 * 0 + 1) 15 0 (time96Bytes (6 * sec16))) ∧ List.length (time96Bytes (6 * sec16)) = 12 ∧
     (w3.asWritten a K.mtStep (stepBytes 1 (2 * 0 + 1) 15 0 (time96Bytes (6 * sec16)))).lock = 3 ∧ Int.natAbs 1 ≤ 65536000000000000 ∧
     time96Bad (time96Bytes (6 * sec16)) = false ∧
     (0 < 1 ∨ (w3.asWritten a K.mtStep (stepBytes 1 (2 * 0 + 1) 15 0 (time96Bytes (6 * sec16)))).everLocked = false) ∧
     (w3.asWritten a K.mtStep (stepBytes 1 (2 * 0 + 1) 15 0 (time96Bytes (6 * sec16)))).nat K.mtState ≠ 3 ∧
     (w3.asWritten a K.mtStep (stepBytes 1 (2 * 0 + 1) 15 0 (time96Bytes (6 * sec16)))).pickSlot 15 = some 15 ∧
     (w3.asWritten a K.mtStep (stepBytes 1 (2 * 0 + 1) 15 0 (time96Bytes (6 * sec16)))).clock.mt + 1000000 * nsU ≤ time96Of (time96Bytes (6 * sec16)) * fracU) ∧
    (let a := tHdr true 2 K.mtStep (stepBytes 1 1 15 0 (time96Bytes (5 * sec16)))
     w3.writes a K.mtStep (stepBytes 1 (2 * 0 + 1) 15 0 (time96Bytes (5 * sec16))) ∧ List.length (time96Bytes (5 * sec16)) = 12 ∧
     (w3.asWritten a K.mtStep (stepBytes 1 (2 * 0 + 1) 15 0 (time96Bytes (5 * sec16)))).lock = 3 ∧ Int.natAbs 1 ≤ 65536000000000000 ∧
     time96Bad (time96Bytes (5 * sec16)) = false ∧
     (0 < 1 ∨ (w3.asWritten a K.mtStep (stepBytes 1 (2 * 0 + 1) 15 0 (time96Bytes (5 * sec16)))).everLocked = false) ∧
     (w3.asWritten a K.mtStep (stepBytes 1 (2 * 0 + 1) 15 0 (time96Bytes (5 * sec16)))).nat K.mtState ≠ 3 ∧
     (w3.asWritten a K.mtStep (stepBytes 1 (2 * 0 + 1) 15 0 (time96Bytes (5 * sec16)))).pickSlot 15 = some 15 ∧
     time96Of (time96Bytes (5 * sec16)) * fracU < (w3.asWritten a K.mtStep (stepBytes 1 (2 * 0 + 1) 15 0 (time96Bytes (5 * sec16)))).clock.mt + 1000000 * nsU) :=
  ⟨⟨(tWrites _ _ _ _ (by decide +kernel) (by decide +kernel)), by decide +kernel⟩, ⟨(tWrites _ _ _ _ (by decide +kernel) (by decide +kernel)),
   by decide +kernel⟩, ⟨(tWrites _ _ _ _ (by decide +kernel) (by decide +kernel)), by decide +kernel⟩,
   ⟨(tWrites _ _ _ _ (by decide +kernel) (by decide +kernel)), by decide +kernel⟩, ⟨(tWrites _ _ _ _ (by decide +kernel) (by decide +kernel)),
   by decide +kernel⟩, ⟨(tWrites _ _ _ _ (by decide +kernel) (by decide +kernel)), by decide +kernel⟩⟩

theorem witness_StepRequestsTableThreeFour_b :
    let c := tState 3 [(K.slotState 15, 1)] id
    let b := tHdr true 2 K.mtStep (stepBytes 1 1 15 0 (time96Bytes (6 * sec16)))
    let a := c.asWritten b K.mtStep (stepBytes 1 (2 * 0 + 1) 15 0 (time96Bytes (6 * sec16)))
    c.writes b K.mtStep (stepBytes 1 (2 * 0 + 1) 15 0 (time96Bytes (6 * sec16))) ∧ List.length (time96Bytes (6 * sec16)) = 12 ∧ a.lock = 3 ∧
    Int.natAbs 1 ≤ 65536000000000000 ∧ time96Bad (time96Bytes (6 * sec16)) = false ∧ (0 < 1 ∨ a.everLocked = false) ∧ a.nat K.mtState ≠ 3 ∧
    a.pickSlot 15 = none :=
  ⟨(tWrites _ _ _ _ (by decide +kernel) (by decide +kernel)), by decide +kernel⟩

theorem witness_StepAddsAmountOnce :
    (wWait.dev.stepAllowed (-65536) = true ∧
     0 ≤ ↑((wWait.dev.runTo (900 + min 5 (msTicks - 1))).elapse 1).clock.mt + -65536 * ((fracU : Nat) : Int)) ∧
    ((wWait.on fun x => x.setNum K.mtState 3).dev.stepAllowed (-65536) = false) :=
  ⟨by decide +kernel, by decide +kernel⟩

theorem witness_PullsEndExactly :
    ((wPull 10000000000).dev.clock.mtRun = true ∧ (wPull 10000000000).dev.aMax ≠ 0 ∧ (wPull 10000000000).dev.nat K.mtState ≠ 4 ∧
     (wPull 10000000000).dev.nat K.mtState ≠ 5) ∧
    ((wPull 10000000000).dev.clock.domPull.length = 8 ∧ (wPull 10000000000).dev.clock.mtRun = true ∧ (wPull 10000000000).dev.aMax ≠ 0) ∧
    (let a := wRef 5 [(K.mtState, 4), (K.thermSelected, 1)] id
     (a.dev.nat K.mtState = 4 ∨ a.dev.nat K.mtState = 5) ∧ a.dev.timeSelected = true ∧ a.dev.rootLocked = true ∧ a.dev.aMax ≠ 0) :=
  ⟨by decide +kernel, by decide +kernel, by decide +kernel⟩

theorem witness_LeapSecondsAndReplicaFaults :
    (let a := wLeap.dev.runToMt (((200000, 38).1 - 86400) * secU)
     wLeap.dev.nextLeap = some (200000, 38) ∧ wLeap.dev.clock.mtRun = true ∧ (200000, 38).1 * secU ≤ a.clock.mt + 86400 * secU ∧
     a.clock.mt < (200000, 38).1 * secU ∧ wLeap.dev.clock.mt ≤ a.clock.mt ∧
     (wLeap.dev.runToMt ((200000, 38).1 * secU)).utcOffset ≠ wLeap.dev.clock.utcOff) ∧
    (w1.dev.clock.mtRun = true) :=
  ⟨by decide +kernel, by decide +kernel⟩

theorem witness_RootLossFreezesAndSetsT5 :
    (let a := wL [(K.mtState, 3), (K.ckoStatus 0, 1), (K.ckoStatus 1, 1), (K.ckoUnlockPolicy 1, 1)] id
     a.dev.nat K.hearthLock = 1 ∧ a.dev.nat K.hearthLockLosses < 2 ^ 32 - 1) ∧
    (w1.dev.nat K.hearthLock ≠ 1) ∧
    (let a := tState 1 [(K.hearthLock, 2)] id
     (¬(a.dev.nat K.hearthLock = 2 ∧ (false = true ∨ 200000 < Int.natAbs 200000) ∨ a.dev.nat K.hearthLock = 1 ∧ false = true))) ∧
    (let a := tState 1 [(K.hearthLock, 2), (K.ckoStatus 3, 1)] id
     (a.dev.nat K.hearthLock = 2 ∧ (false = true ∨ 200000 < (-200001).natAbs) ∨ a.dev.nat K.hearthLock = 1 ∧ false = true) ∧
     a.dev.nat K.hearthLock = 2) ∧
    (((wL [] id).dev.nat K.hearthLock = 2 ∧ (true = true ∨ 200000 < Int.natAbs 0) ∨ (wL [] id).dev.nat K.hearthLock = 1 ∧ true = true)) :=
  ⟨by decide +kernel, by decide +kernel, by decide +kernel, by decide +kernel, by decide +kernel⟩

theorem witness_EdgesFollowTheirPolicy :
    (let b := wL [(K.mtState, 3), (K.outStatus 0, 2)] id
     let a := b.dev.out 0
     b.dev.outs.length = 16 ∧ b.dev.outPolicy 0 = 0 ∧ (¬(b.dev.nat (K.outStatus 0) = 4 ∧ ¬(a.rearmed = true ∧ b.dev.outPolicy 0 = 0))) ∧
     a.blocked 5000 = false ∧ b.dev.nat (K.outPulses 0) < 2 ^ 64 - 1) ∧
    (let b := wL [(K.mtState, 0), (K.outStatus 0, 2), (K.outPolUnsync 0, 1)] id
     let a := b.dev.out 0
     b.dev.outs.length = 16 ∧
     (¬(b.dev.outPolicy 0 = 0 ∧ ¬(b.dev.nat (K.outStatus 0) = 4 ∧ ¬(a.rearmed = true ∧ b.dev.outPolicy 0 = 0)) ∧ a.blocked 5000 = false)) ∧
     b.dev.nat (K.outMissed 0) < 2 ^ 32 - 1) :=
  ⟨by decide +kernel, by decide +kernel⟩

theorem witness_ClockAndPulseOutputsRun :
    (wAfter.dev.num (K.ckoStatus 2) = 3 ∧ wAfter.dev.clock.mtRun = true) ∧
    (wDue.dev.clock.mtRun = true ∧ wDue.dev.nat (K.outStatus 0) ≠ 0 ∧ wDue.dev.nat (K.outStatus 0) ≠ 5 ∧ wDue.dev.outDue 0 = some tDue ∧
     (¬((outRec wDue.dev.val 0).scale = 1 ∧ tDue.again = none ∧ wDue.dev.utcDeleted ((outRec wDue.dev.val 0).edge tDue.k) = true)) ∧
     tDue.again = none ∧ (outRec wDue.dev.val 0).scale ≠ 1) ∧
    ((wOut.dev.out 15).active = true) ∧
    (let c := tHdr false 2 (K.outRearm 15) [1]
     let b := wL [(K.outStatus 15, 4), (K.mtState, 3)] id
     let a := b.asWritten c (K.outRearm 15) [1]
     b.writes c (K.outRearm 15) [1] ∧ a.nat (K.outStatus 15) = 4 ∧ a.outPolicy 15 = 0) ∧
    (let b := tHdr false 2 (K.outRearm 15) [1]
     let a := w1.asWritten b (K.outRearm 15) [1]
     w1.writes b (K.outRearm 15) [1] ∧ (¬(a.nat (K.outStatus 15) = 4 ∧ a.outPolicy 15 = 0))) :=
  ⟨by decide +kernel, by decide +kernel, by decide +kernel, ⟨(tWrites _ _ _ _ (by decide +kernel) (by decide +kernel)), by decide +kernel⟩,
   ⟨(tWrites _ _ _ _ (by decide +kernel) (by decide +kernel)), by decide +kernel⟩⟩

theorem witness_DpllUpdateFeedsTheRoot :
    (let b := wRef 5 [(K.thermSelected, 1), (K.thermPhaseErr, 655360)] id
     let a := b.dev.runTo (b.dev.therm.lastUpdate + msTicks)
     a.rootLocked = true ∧ a.clock.mtRun = true ∧ a.selected < 9 ∧ a.refState a.selected = 5 ∧ a.timeCapable a.selected = true) ∧
    (let b := wRef 6 [(K.thermSelected, 1)] id
     let a := b.dev.runTo (b.dev.therm.lastUpdate + msTicks)
     (¬(a.rootLocked = true ∧ a.clock.mtRun = true) ∨ a.selected < 9 ∧ a.refState a.selected ≠ 5) ∧ a.rootLocked = true ∧ a.clock.mtRun = true ∧
     a.selected < 9) ∧
    (let a := wTarget.dev.runTo (wTarget.dev.therm.lastUpdate + msTicks)
     a.rootLocked = true ∧ a.clock.mtRun = true ∧ 9 ≤ a.selected) ∧
    (let a := w1.dev.runTo (w1.dev.therm.lastUpdate + msTicks)
     (¬(a.rootLocked = true ∧ a.clock.mtRun = true) ∨ a.selected < 9 ∧ a.refState a.selected ≠ 5)) :=
  ⟨by decide +kernel, by decide +kernel, by decide +kernel, by decide +kernel⟩

theorem witness_TimersMoveCandidatesAndDeclareLock_a :
    ((wRef 6 [] id).dev.refState 1 = 6 ∧ (wRef 6 [] id).dev.rootLocked = true) ∧
    ((wRef 3 [] id).dev.refState 1 = 3 ∧ (wRef 3 [] id).dev.rootLocked = true) ∧
    (w1.dev.rootLocked = false) ∧
    (let b := wRef 5 [(K.thermHoldoff, 0), (K.thermSelected, 1)] id
     let a := b.dev.refinCand 0
     b.dev.num (K.refinActivity 0) ≠ 0 ∧ b.dev.rootLocked = true ∧ b.dev.therm.cands.length = 9 ∧ (b.dev.cand a).active = true ∧
     b.dev.refState a ≠ 0) ∧
    (let b := wRef 4 [(K.thermHoldoff, 100)] id
     let a := b.dev.refinCand 0
     b.dev.num (K.refinActivity 0) ≠ 0 ∧ b.dev.rootLocked = true ∧ b.dev.therm.cands.length = 9 ∧ (b.dev.cand a).active = true ∧
     b.dev.refState a ≠ 0) ∧
    (let b := wRef 2 [(K.thermHoldoff, 100)] id
     let a := b.dev.refinCand 0
     b.dev.num (K.refinActivity 0) ≠ 0 ∧ b.dev.rootLocked = true ∧ b.dev.therm.cands.length = 9 ∧ (b.dev.cand a).active = true ∧
     b.dev.refState a ≠ 0) :=
  ⟨by decide +kernel, by decide +kernel, by decide +kernel, by decide +kernel, by decide +kernel, by decide +kernel⟩

theorem witness_TimersMoveCandidatesAndDeclareLock_b :
    (w1.dev.therm.lockSince = none) ∧
    (let b := wRef 5 [(K.thermSelected, 1), (K.mtState, 2)] tHeld
     let a := b.dev.runTo (800 + b.dev.nat K.thermLockTime * sTicks)
     b.dev.therm.lockSince = some 800 ∧
     (a.nat K.mtState = 2 ∧ a.timeSelected = true ∧ (a.num K.thermPhaseErr).natAbs + a.clock.pull.natAbs / 2 ^ 32 ≤ a.nat K.thermLockThresh * 65536 ∧ (a.num (K.thermRefFreq a.selected)).natAbs ≤ a.nat K.thermAccept ∧ a.rootLocked = true)) ∧
    (let b := wRef 5 [(K.thermSelected, 1), (K.mtState, 1)] tHeld
     let a := b.dev.runTo (800 + b.dev.nat K.thermLockTime * sTicks)
     b.dev.therm.lockSince = some 800 ∧
     (¬(a.nat K.mtState = 2 ∧ a.timeSelected = true ∧ (a.num K.thermPhaseErr).natAbs + a.clock.pull.natAbs / 2 ^ 32 ≤ a.nat K.thermLockThresh * 65536 ∧ (a.num (K.thermRefFreq a.selected)).natAbs ≤ a.nat K.thermAccept ∧ a.rootLocked = true))) :=
  ⟨by decide +kernel, by decide +kernel, by decide +kernel⟩

theorem witness_SelectionFollowsRank_a :
    (let a := wRef 4 [(K.mtState, 1)] id
     a.dev.choose = some 1 ∧ (¬(a.dev.nat K.thermForce < 9 ∧ a.dev.ranks (a.dev.nat K.thermForce) = true)) ∧ a.dev.num K.thermRevertive = 1) ∧
    (w1.dev.choose = none) ∧
    (let a := w1.dev.runTo (w1.dev.therm.lastEval + msTicks)
     (¬({ a with therm := { a.therm with lastEval := a.clock.ticks } }.rootLocked = true ∧ { a with therm := { a.therm with lastEval := a.clock.ticks } }.clock.mtRun = true))) ∧
    (let b := wL [(K.thermSelected, 255)] id
     let a := b.dev.runTo (b.dev.therm.lastEval + msTicks)
     { a with therm := { a.therm with lastEval := a.clock.ticks } }.rootLocked = true ∧
     { a with therm := { a.therm with lastEval := a.clock.ticks } }.clock.mtRun = true ∧
     { a with therm := { a.therm with lastEval := a.clock.ticks } }.choose = none ∧
     9 ≤ { a with therm := { a.therm with lastEval := a.clock.ticks } }.selected ∧
     { a with therm := { a.therm with lastEval := a.clock.ticks } }.nat K.mtState < 2) :=
  ⟨by decide +kernel, by decide +kernel, by decide +kernel, by decide +kernel⟩

theorem witness_SelectionFollowsRank_b :
    let b := wRef 4 [(K.thermSelected, 255), (K.mtState, 3), (K.thermRefPhase 1, 100)] id
    let a := b.dev.runTo (b.dev.therm.lastEval + msTicks)
    { a with therm := { a.therm with lastEval := a.clock.ticks } }.rootLocked = true ∧
    { a with therm := { a.therm with lastEval := a.clock.ticks } }.clock.mtRun = true ∧
    { a with therm := { a.therm with lastEval := a.clock.ticks } }.choose = some 1 ∧
    1 ≠ { a with therm := { a.therm with lastEval := a.clock.ticks } }.selected ∧
    { a with therm := { a.therm with lastEval := a.clock.ticks } }.timeCapable 1 = true ∧
    ({ a with therm := { a.therm with lastEval := a.clock.ticks } }.nat K.mtState = 3 ∨ { a with therm := { a.therm with lastEval := a.clock.ticks } }.nat K.mtState = 4 ∨ { a with therm := { a.therm with lastEval := a.clock.ticks } }.nat K.mtState = 5) ∧
    { a with therm := { a.therm with lastEval := a.clock.ticks } }.hold.active = false ∧
    { a with therm := { a.therm with lastEval := a.clock.ticks } }.nat K.thermSwitchCount < 2 ^ 32 - 1 ∧
    { a with therm := { a.therm with lastEval := a.clock.ticks } }.nat K.mtState = 3 :=
  by decide +kernel

theorem witness_MonitorsGateEntryAndExit_a :
    ((wRef 4 [] id).dev.rootLocked = true) ∧
    (w1.dev.rootLocked = false) ∧
    ((wGate 5).therm.cands.length = 9 ∧ (wGate 5).refState 1 ≠ 0 ∧ ((wGate 5).cand 1).active = true ∧
     ((wGate 5).cand 1).gateStart + (wGate 5).nat K.thermFreqGate * sTicks ≤ (wGate 5).gateNow 1 ∧
     (wGate 5).regress 1 = some ((tRg 5).1, (tRg 5).2) ∧ ((wGate 5).refState 1 = 4 ∨ (wGate 5).refState 1 = 5)) ∧
    ((wGate 2).therm.cands.length = 9 ∧ (wGate 2).refState 1 ≠ 0 ∧ ((wGate 2).cand 1).active = true ∧
     ((wGate 2).cand 1).gateStart + (wGate 2).nat K.thermFreqGate * sTicks ≤ (wGate 2).gateNow 1 ∧
     (wGate 2).regress 1 = some ((tRg 2).1, (tRg 2).2) ∧ (wGate 2).refState 1 = 2 ∧ (wGate 2).phaseOk 1 = true) ∧
    (List.find? (fun m => decide (m.cand = 1)) (wPhase 4 id).dev.therm.phases = some (tPhase 5) ∧ (wPhase 4 id).dev.therm.cands.length = 9 ∧
     (wPhase 4 id).dev.rootLocked = true ∧ (wPhase 4 id).dev.refState 1 = 4 ∧ ((wPhase 4 id).dev.cand 1).active = true ∧
     (wPhase 4 id).dev.timeCapable 1 = true ∧ (wPhase 4 id).dev.selected ≠ 1 ∧
     (wPhase 4 id).dev.isJump (tPhase 5) ((wPhase 4 id).dev.phaseOf 1 (tPhase 5).raw + (tPhase 5).moved) = false) ∧
    (List.find? (fun m => decide (m.cand = 1)) wJump.dev.therm.phases = some (tPhase (2 ^ 40)) ∧ wJump.dev.therm.cands.length = 9 ∧
     wJump.dev.rootLocked = true ∧ wJump.dev.refState 1 = 4 ∧ (wJump.dev.cand 1).active = true ∧ wJump.dev.timeCapable 1 = true ∧
     wJump.dev.selected ≠ 1 ∧ wJump.dev.isJump (tPhase (2 ^ 40)) (wJump.dev.phaseOf 1 (tPhase (2 ^ 40)).raw + (tPhase (2 ^ 40)).moved) = true) :=
  ⟨by decide +kernel, by decide +kernel, by decide +kernel, by decide +kernel, by decide +kernel, by decide +kernel⟩

theorem witness_MonitorsGateEntryAndExit_b :
    List.find? (fun m => decide (m.cand = 1)) ((wPhase 4 id).on fun x => x.setNum K.hearthLock 2).dev.therm.phases = some (tPhase 5) ∧
    ((wPhase 4 id).on fun x => x.setNum K.hearthLock 2).dev.rootLocked = false :=
  by decide +kernel

theorem witness_HoldoverBoundFollowsTheModel_a :
    ((wH 4 [] id).dev.hold.freqOnly = false ∧ (wH 4 [] id).dev.hold.seg = (wH 4 [] id).dev.hold.freeze) ∧
    (w1.dev.hold.active = false) ∧
    (let a := (wH 4 [] id).dev.runTo ((wH 4 [] id).dev.hold.lastBound + sTicks)
     (wH 4 [] id).dev.hold.active = true ∧
     (¬(a.nat K.mtState = 4 ∧ a.timeSelected = false ∧ a.hold.compat ≠ 2 ∧ a.nat K.hoLimit < if a.hold.saturated = true then 4294967295 else min 4294967295 (nearestNs (a.boundAt a.clock.ticks).toNat))) ∧
     a.rootLocked = true ∧ a.hold.freqOnly = false) ∧
    (let b := wH 4 [(K.hoLimit, 10)] id
     let a := b.dev.runTo (b.dev.hold.lastBound + sTicks)
     b.dev.hold.active = true ∧
     (a.nat K.mtState = 4 ∧ a.timeSelected = false ∧ a.hold.compat ≠ 2 ∧ a.nat K.hoLimit < if a.hold.saturated = true then 4294967295 else min 4294967295 (nearestNs (a.boundAt a.clock.ticks).toNat)) ∧
     a.rootLocked = true ∧ a.hold.freqOnly = false) ∧
    (let b := wH 4 [(K.hoLimit, 10)] hFree
     let a := b.dev.runTo (b.dev.hold.lastBound + sTicks)
     b.dev.hold.active = true ∧
     (a.nat K.mtState = 4 ∧ a.timeSelected = false ∧ a.hold.compat ≠ 2 ∧ a.nat K.hoLimit < if a.hold.saturated = true then 4294967295 else min 4294967295 (nearestNs (a.boundAt a.clock.ticks).toNat)) ∧
     a.rootLocked = true ∧ (¬(a.rootLocked = true ∧ a.hold.freqOnly = false))) ∧
    (let b := wH 5 [(K.hoLimit, 10)] (hCompat 2)
     let a := b.dev.runTo (b.dev.hold.lastBound + sTicks)
     b.dev.hold.active = true ∧
     (¬(a.nat K.mtState = 4 ∧ a.timeSelected = false ∧ a.hold.compat ≠ 2 ∧ a.nat K.hoLimit < if a.hold.saturated = true then 4294967295 else min 4294967295 (nearestNs (a.boundAt a.clock.ticks).toNat))) ∧
     a.rootLocked = true ∧ a.hold.freqOnly = false) :=
  ⟨by decide +kernel, by decide +kernel, by decide +kernel, by decide +kernel, by decide +kernel, by decide +kernel⟩

theorem witness_HoldoverBoundFollowsTheModel_b :
    ((wH 4 [] (hCompat 1)).dev.hold.active = true ∧ (wH 4 [] (hCompat 1)).dev.hold.compat ≠ 0 ∧ (wH 4 [] (hCompat 1)).dev.clock.mtRun = true ∧
     ((wH 4 [] (hCompat 1)).dev.runToMt ((wH 4 [] (hCompat 1)).dev.hold.compatDue + (wH 4 [] (hCompat 1)).dev.clock.stepped * ((fracU : Nat) : Int)).toNat).nat K.mtState = 4) ∧
    ((wH 5 [] (hCompat 2)).dev.hold.active = true ∧ (wH 5 [] (hCompat 2)).dev.hold.compat ≠ 0 ∧ (wH 5 [] (hCompat 2)).dev.clock.mtRun = true ∧
     ((wH 5 [] (hCompat 2)).dev.runToMt ((wH 5 [] (hCompat 2)).dev.hold.compatDue + (wH 5 [] (hCompat 2)).dev.clock.stepped * ((fracU : Nat) : Int)).toNat).nat K.mtState ≠ 4) :=
  ⟨by decide +kernel, by decide +kernel⟩

theorem witness_ModelIsLearnedSavedCleared_a :
    (let a := wLearn 0 [(K.thermFreqGate, 1)]
     (a.dev.runTo (a.dev.hold.lastSample + sTicks)).mayLearn = true) ∧
    (let a := wLearn 3 [(K.thermFreqGate, 1), (K.hoModelState, 2)]
     (a.dev.runTo (a.dev.hold.lastSample + sTicks)).mayLearn = true) ∧
    ((w1.dev.runTo (w1.dev.hold.lastSample + sTicks)).mayLearn = false) ∧
    (let a := wLearn 599 [(K.hoModelState, 1)]
     (a.dev.runTo (a.dev.hold.lastRefit + 60 * sTicks)).windowSamples.length < 600) ∧
    (let b := wLearn 600 [(K.hoModelState, 1), (K.hoLearnMin, 600)]
     let a := b.dev.runTo (b.dev.hold.lastRefit + 60 * sTicks)
     600 ≤ a.windowSamples.length ∧ a.nat K.hoModelState = 1) ∧
    (let b := wLearn 600 [(K.hoModelState, 1), (K.hoLearnMin, 601)]
     let a := b.dev.runTo (b.dev.hold.lastRefit + 60 * sTicks)
     600 ≤ a.windowSamples.length ∧ a.nat K.hoModelState = 1) :=
  ⟨by decide +kernel, by decide +kernel, by decide +kernel, by decide +kernel, by decide +kernel, by decide +kernel⟩

theorem witness_ModelIsLearnedSavedCleared_b :
    (let b := wLearn 600 [(K.hoModelState, 2), (K.thermReject, -1)]
     let a := b.dev.runTo (b.dev.hold.lastRefit + 60 * sTicks)
     600 ≤ a.windowSamples.length ∧ a.nat K.hoModelState = 2) ∧
    (let a := wSave.dev.runTo (wSave.dev.hold.lastSave + 3600 * sTicks)
     wSave.dev.models.length = 2 ∧ a.nat K.hoModelState = 2 ∧ a.coreRuns 3 = true) ∧
    (let a := w1.dev.runTo (w1.dev.hold.lastSave + 3600 * sTicks)
     w1.dev.models.length = 2 ∧ (¬(a.nat K.hoModelState = 2 ∧ a.coreRuns 3 = true))) ∧
    (let a := tHdr false 2 K.hoModelClear [1]
     (wH 4 [] id).writes a K.hoModelClear [1] ∧ ((wH 4 [] id).asWritten a K.hoModelClear [1]).hold.active = true) ∧
    (let b := wLearn 9 [(K.hoModelState, 2)]
     let a := tHdr false 2 K.hoModelClear [1]
     b.writes a K.hoModelClear [1] ∧ (b.asWritten a K.hoModelClear [1]).hold.active = false) :=
  ⟨by decide +kernel, by decide +kernel, by decide +kernel, ⟨(tWrites _ _ _ _ (by decide +kernel) (by decide +kernel)), by decide +kernel⟩,
   ⟨(tWrites _ _ _ _ (by decide +kernel) (by decide +kernel)), by decide +kernel⟩⟩

theorem witness_TemperatureReadingsAndFaults_a :
    (let a := (wH 4 [] id).dev.runTo ((wH 4 [] id).dev.hold.lastTemp + sTicks / 10)
     (¬(10000 < 100 ∨ 1000000 < 10000 ∨ true = false ∨ a.nat K.hoTempSrc = 2 ∧ a.hold.hostAt + 10 * sTicks ≤ a.clock.ticks))) ∧
    (let a := wFault.dev.runTo (wFault.dev.hold.lastTemp + sTicks / 10)
     (¬(10000 < 100 ∨ 1000000 < 10000 ∨ true = false ∨ a.nat K.hoTempSrc = 2 ∧ a.hold.hostAt + 10 * sTicks ≤ a.clock.ticks))) ∧
    (let a := wFault.dev.runTo (wFault.dev.hold.lastTemp + sTicks / 10)
     (10000 < 100 ∨ 1000000 < 10000 ∨ false = false ∨ a.nat K.hoTempSrc = 2 ∧ a.hold.hostAt + 10 * sTicks ≤ a.clock.ticks)) ∧
    (let b := wH 4 [(K.hoTempSrc, 1)] id
     let a := b.dev.runTo (b.dev.hold.lastTemp + sTicks / 10)
     (¬(1000000 < 100 ∨ 1000000 < 1000000 ∨ true = false ∨ a.nat K.hoTempSrc = 2 ∧ a.hold.hostAt + 10 * sTicks ≤ a.clock.ticks))) ∧
    (let b := wH 4 [(K.hoTempSrc, 1)] id
     let a := b.dev.runTo (b.dev.hold.lastTemp + sTicks / 10)
     (1000001 < 100 ∨ 1000000 < 1000001 ∨ true = false ∨ a.nat K.hoTempSrc = 2 ∧ a.hold.hostAt + 10 * sTicks ≤ a.clock.ticks)) ∧
    (let b := wH 4 [(K.hoTempSrc, 2), (K.hoTempHost, 1234)] id
     let a := b.dev.runTo (b.dev.hold.lastTemp + sTicks / 10)
     (¬(100 < 100 ∨ 1000000 < 100 ∨ true = false ∨ a.nat K.hoTempSrc = 2 ∧ a.hold.hostAt + 10 * sTicks ≤ a.clock.ticks))) :=
  ⟨by decide +kernel, by decide +kernel, by decide +kernel, by decide +kernel, by decide +kernel, by decide +kernel⟩

theorem witness_TemperatureReadingsAndFaults_b :
    (let a := w1.dev.runTo (w1.dev.hold.lastTemp + sTicks / 10)
     (99 < 100 ∨ 1000000 < 99 ∨ true = false ∨ a.nat K.hoTempSrc = 2 ∧ a.hold.hostAt + 10 * sTicks ≤ a.clock.ticks)) ∧
    (w1.dev.nat K.hoTempSrc ≠ 2) ∧
    ((wH 4 [(K.hoTempSrc, 2)] id).dev.nat K.hoTempSrc = 2) :=
  ⟨by decide +kernel, by decide +kernel, by decide +kernel⟩

theorem witness_SkylightSupplyAidAndPages_a :
    (let a := wL [(K.skyAntEnable, 0)] id
     a.dev.nat K.skyAntState < 4 ∧ (a.dev.antOff = true ∨ a.dev.nat K.skyAntState = 3)) ∧
    ((wAnt 0 none).dev.nat K.skyAntState < 4 ∧ (wAnt 0 none).dev.antOff = false ∧ (wAnt 0 none).dev.nat K.skyAntState ≠ 3 ∧
     30 ≤ 10 * (wAnt 0 none).dev.nat K.skyAntShortMa ∧ (wAnt 0 none).dev.nat K.skyAntState = 0) ∧
    ((wAnt 0 none).dev.nat K.skyAntState < 4 ∧ (wAnt 0 none).dev.antOff = false ∧ (wAnt 0 none).dev.nat K.skyAntState ≠ 3 ∧
     300 ≤ 10 * (wAnt 0 none).dev.nat K.skyAntShortMa ∧ (wAnt 0 none).dev.nat K.skyAntState = 0) ∧
    ((wAnt 0 none).dev.nat K.skyAntState < 4 ∧ (wAnt 0 none).dev.antOff = false ∧ (wAnt 0 none).dev.nat K.skyAntState ≠ 3 ∧
     10 * (wAnt 0 none).dev.nat K.skyAntShortMa < 3000) ∧
    ((wAnt 1 (some 900)).dev.nat K.skyAntState < 4 ∧ (wAnt 1 (some 900)).dev.antOff = false ∧ (wAnt 1 (some 900)).dev.nat K.skyAntState ≠ 3 ∧
     30 ≤ 10 * (wAnt 1 (some 900)).dev.nat K.skyAntShortMa ∧ (wAnt 1 (some 900)).dev.nat K.skyAntState = 1) ∧
    (((wAnt 1 (some 900)).on fun d => { d with clock := { d.clock with ticks := 125000900 } }).dev.nat K.skyAntState < 4 ∧
     ((wAnt 1 (some 900)).on fun d => { d with clock := { d.clock with ticks := 125000900 } }).dev.antOff = false ∧
     ((wAnt 1 (some 900)).on fun d => { d with clock := { d.clock with ticks := 125000900 } }).dev.nat K.skyAntState ≠ 3 ∧
     30 ≤ 10 * ((wAnt 1 (some 900)).on fun d => { d with clock := { d.clock with ticks := 125000900 } }).dev.nat K.skyAntShortMa ∧
     ((wAnt 1 (some 900)).on fun d => { d with clock := { d.clock with ticks := 125000900 } }).dev.nat K.skyAntState = 1) :=
  ⟨by decide +kernel, by decide +kernel, by decide +kernel, by decide +kernel, by decide +kernel, by decide +kernel⟩

theorem witness_SkylightSupplyAidAndPages_b :
    ((w1.dev.nat K.skyAntState ≠ 3 ∨ w1.dev.antOff = true)) ∧
    ((wAnt 3 none).dev.nat K.skyAntState = 3 ∧ (wAnt 3 none).dev.antOff = false) ∧
    (w1.dev.nat K.fbState ≠ 4 ∧ w1.dev.power.held = 0) ∧
    (let a := wL [(K.fbState, 4)] id
     (a.dev.nat K.fbState = 4 ∨ a.dev.power.held ≠ 0)) ∧
    (let a := tHdr false 2 K.skyAidPos (tAid 0 1 0)
     w1.writes a K.skyAidPos (tAid 0 1 0) ∧ List.length (tAid 0 1 0) = 64 ∧
     (time96Bad (List.take 12 (tAid 0 1 0)) = true ∨ (w1.asWritten a K.skyAidPos (tAid 0 1 0)).mt16 + 655360000000 < time96Of (List.take 12 (tAid 0 1 0)) ∨ aidNorm2 (tAid 0 1 0) < 6300000000 ^ 2 ∨ 6500000000 ^ 2 < aidNorm2 (tAid 0 1 0) ∨ fieldNat (tAid 0 1 0) 48 4 = 0 ∨ fieldNat (tAid 0 1 0) 56 8 ≠ 0)) ∧
    (let b := tHdr false 2 K.skyAidPos (tAid 6378137000 1 0)
     let a := w1.asWritten b K.skyAidPos (tAid 6378137000 1 0)
     w1.writes b K.skyAidPos (tAid 6378137000 1 0) ∧ List.length (tAid 6378137000 1 0) = 64 ∧
     (¬(time96Bad (List.take 12 (tAid 6378137000 1 0)) = true ∨ a.mt16 + 655360000000 < time96Of (List.take 12 (tAid 6378137000 1 0)) ∨ aidNorm2 (tAid 6378137000 1 0) < 6300000000 ^ 2 ∨ 6500000000 ^ 2 < aidNorm2 (tAid 6378137000 1 0) ∨ fieldNat (tAid 6378137000 1 0) 48 4 = 0 ∨ fieldNat (tAid 6378137000 1 0) 56 8 ≠ 0)) ∧
     a.nat K.skyAidMode = 0) :=
  ⟨by decide +kernel, by decide +kernel, by decide +kernel, by decide +kernel, ⟨(tWrites _ _ _ _ (by decide +kernel) (by decide +kernel)),
   by decide +kernel⟩, ⟨(tWrites _ _ _ _ (by decide +kernel) (by decide +kernel)), by decide +kernel⟩⟩

theorem witness_SkylightSupplyAidAndPages_c :
    (let c := wL [(K.skyAidMode, 1)] id
     let b := tHdr false 2 K.skyAidPos (tAid 6378137000 1 0)
     let a := c.asWritten b K.skyAidPos (tAid 6378137000 1 0)
     c.writes b K.skyAidPos (tAid 6378137000 1 0) ∧ List.length (tAid 6378137000 1 0) = 64 ∧
     (¬(time96Bad (List.take 12 (tAid 6378137000 1 0)) = true ∨ a.mt16 + 655360000000 < time96Of (List.take 12 (tAid 6378137000 1 0)) ∨ aidNorm2 (tAid 6378137000 1 0) < 6300000000 ^ 2 ∨ 6500000000 ^ 2 < aidNorm2 (tAid 6378137000 1 0) ∨ fieldNat (tAid 6378137000 1 0) 48 4 = 0 ∨ fieldNat (tAid 6378137000 1 0) 56 8 ≠ 0)) ∧
     a.nat K.skyAidMode ≠ 0) ∧
    (w1.writes (tHdr false 2 K.skyOrbitLoad (List.replicate 127 0)) K.skyOrbitLoad (List.replicate 127 0) ∧
     (List.replicate 127 0).length < 65536 ∧
     ((List.replicate 127 0).length = 0 ∨ 8192 < (List.replicate 127 0).length ∨ (List.replicate 127 0).length % 128 ≠ 0)) ∧
    (w1.writes (tHdr false 2 K.skyOrbitLoad (List.replicate 128 0)) K.skyOrbitLoad (List.replicate 128 0) ∧
     (List.replicate 128 0).length < 65536 ∧ (List.replicate 128 0).length ≠ 0 ∧ (List.replicate 128 0).length ≤ 8192 ∧
     (List.replicate 128 0).length % 128 = 0) ∧
    (w1.writes (tHdr false 2 K.skyOrbitLoad ([1, 3, 0, 5] ++ List.replicate 252 0)) K.skyOrbitLoad ([1, 3, 0, 5] ++ List.replicate 252 0) ∧
     List.length ([1, 3, 0, 5] ++ List.replicate 252 0) < 65536 ∧ List.length ([1, 3, 0, 5] ++ List.replicate 252 0) ≠ 0 ∧
     List.length ([1, 3, 0, 5] ++ List.replicate 252 0) ≤ 8192 ∧ List.length ([1, 3, 0, 5] ++ List.replicate 252 0) % 128 = 0) :=
  ⟨⟨(tWrites _ _ _ _ (by decide +kernel) (by decide +kernel)), by decide +kernel⟩, ⟨(tWrites _ _ _ _ (by decide +kernel) (by decide +kernel)),
   by decide +kernel⟩, ⟨(tWrites _ _ _ _ (by decide +kernel) (by decide +kernel)), by decide +kernel⟩,
   ⟨(tWrites _ _ _ _ (by decide +kernel) (by decide +kernel)), by decide +kernel⟩⟩

theorem witness_TrackingChannelsFollowTheirTable_a :
    ((64 ≤ 64 ∨ w1.dev.clock.mtRun = false)) ∧
    (w1.dev.clock.mtRun = true ∧ (¬(sigL5 1 = true ∧ w1.dev.onChannel (sigL1Of 1) 3 [2] = true)) ∧ w1.dev.sky.chans.length = 128 ∧
     w1.dev.skyCh 127 = 0 ∧ w1.dev.nat K.skyTracker = 0 ∧ sigKnown 1 3 = true ∧ sigEnabled w1.dev.num 1 = true ∧
     w1.dev.onChannel 1 3 [1, 2, 3] = false ∧ w1.dev.num K.skyElevMask * 100 ≤ 9000) ∧
    (w1.dev.skyCh 5 ≠ 1) ∧
    (w1.dev.skyCh 5 ≠ 3) ∧
    ((wCh 1 false).dev.skyCh 5 = 1) ∧
    ((wCh 3 false).dev.skyCh 5 = 3) :=
  ⟨by decide +kernel, by decide +kernel, by decide +kernel, by decide +kernel, by decide +kernel, by decide +kernel⟩

theorem witness_TrackingChannelsFollowTheirTable_b :
    ((¬(128 ≤ 5 ∨ (wCh 1 false).dev.skyCh 5 = 0 ∨ (wCh 1 false).dev.nat K.skyTracker = 2 ∧ (wCh 1 false).dev.studyTracks = false ∨ (wCh 1 false).dev.nat K.fbState = 4)) ∧
     (wCh 1 false).dev.sky.chans.length = 128 ∧
     ((wCh 1 false).dev.sky.chans.getD 5 { }).dumpTick (dumpChips ((wCh 1 false).dev.nat (K.chSignal 5))) = some (tDump (wCh 1 false)) ∧
     ((wCh 1 false).dev.skyCh 5 = 1 ∨ (wCh 1 false).dev.skyCh 5 = 3)) ∧
    (let a := (wCh 2 false).dev.sky.chans.getD 5 { }
     (¬(128 ≤ 5 ∨ (wCh 2 false).dev.skyCh 5 = 0 ∨ (wCh 2 false).dev.nat K.skyTracker = 2 ∧ (wCh 2 false).dev.studyTracks = false ∨ (wCh 2 false).dev.nat K.fbState = 4)) ∧
     (wCh 2 false).dev.sky.chans.length = 128 ∧ a.dumpTick (dumpChips ((wCh 2 false).dev.nat (K.chSignal 5))) = some (tDump (wCh 2 false)) ∧
     (wCh 2 false).dev.skyCh 5 = 2 ∧
     (true = false ∨ 2100 < 2200 ∨ true = false ∧ a.updated + 6250000 ≤ ((wCh 2 false).dev.runTo (tDump (wCh 2 false))).clock.ticks)) ∧
    (let a := (wCh 2 false).dev.sky.chans.getD 5 { }
     (¬(128 ≤ 5 ∨ (wCh 2 false).dev.skyCh 5 = 0 ∨ (wCh 2 false).dev.nat K.skyTracker = 2 ∧ (wCh 2 false).dev.studyTracks = false ∨ (wCh 2 false).dev.nat K.fbState = 4)) ∧
     (wCh 2 false).dev.sky.chans.length = 128 ∧ a.dumpTick (dumpChips ((wCh 2 false).dev.nat (K.chSignal 5))) = some (tDump (wCh 2 false)) ∧
     (wCh 2 false).dev.skyCh 5 = 2 ∧ (¬(true = false ∧ a.updated + 6250000 ≤ ((wCh 2 false).dev.runTo (tDump (wCh 2 false))).clock.ticks))) ∧
    (let a := (wCh 2 false).dev.sky.chans.getD 5 { }
     (¬(128 ≤ 5 ∨ (wCh 2 false).dev.skyCh 5 = 0 ∨ (wCh 2 false).dev.nat K.skyTracker = 2 ∧ (wCh 2 false).dev.studyTracks = false ∨ (wCh 2 false).dev.nat K.fbState = 4)) ∧
     (wCh 2 false).dev.sky.chans.length = 128 ∧ a.dumpTick (dumpChips ((wCh 2 false).dev.nat (K.chSignal 5))) = some (tDump (wCh 2 false)) ∧
     (wCh 2 false).dev.skyCh 5 = 2 ∧
     (false = false ∨ 2200 < 2200 ∨ true = false ∧ a.updated + 6250000 ≤ ((wCh 2 false).dev.runTo (tDump (wCh 2 false))).clock.ticks)) ∧
    (let a := wLate.dev.sky.chans.getD 5 { }
     (¬(128 ≤ 5 ∨ wLate.dev.skyCh 5 = 0 ∨ wLate.dev.nat K.skyTracker = 2 ∧ wLate.dev.studyTracks = false ∨ wLate.dev.nat K.fbState = 4)) ∧
     wLate.dev.sky.chans.length = 128 ∧ a.dumpTick (dumpChips (wLate.dev.nat (K.chSignal 5))) = some (tDump wLate) ∧ wLate.dev.skyCh 5 = 2 ∧
     (true = false ∨ 2200 < 2200 ∨ false = false ∧ a.updated + 6250000 ≤ (wLate.dev.runTo (tDump wLate)).clock.ticks)) ∧
    ((¬(128 ≤ 5 ∨ (wCh 3 false).dev.skyCh 5 = 0 ∨ (wCh 3 false).dev.nat K.skyTracker = 2 ∧ (wCh 3 false).dev.studyTracks = false ∨ (wCh 3 false).dev.nat K.fbState = 4)) ∧
     (wCh 3 false).dev.sky.chans.length = 128 ∧
     ((wCh 3 false).dev.sky.chans.getD 5 { }).dumpTick (dumpChips ((wCh 3 false).dev.nat (K.chSignal 5))) = some (tDump (wCh 3 false)) ∧
     ((wCh 3 false).dev.skyCh 5 = 1 ∨ (wCh 3 false).dev.skyCh 5 = 3)) :=
  ⟨by decide +kernel, by decide +kernel, by decide +kernel, by decide +kernel, by decide +kernel, by decide +kernel⟩

theorem witness_TrackingChannelsFollowTheirTable_c :
    (((128 ≤ 128 ∨ w1.dev.skyCh 128 = 0 ∨ w1.dev.nat K.skyTracker = 2 ∧ w1.dev.studyTracks = false ∨ w1.dev.nat K.fbState = 4) ∨ (w1.dev.sky.chans.getD 128 { }).dumpTick (dumpChips (w1.dev.nat (K.chSignal 128))) = none)) ∧
    ((¬(w1.dev.nat K.skyTracker = 0 ∧ w1.dev.sky.stopped = false ∧ ∃ c < 128, w1.dev.skyCh c = 2 ∨ w1.dev.skyCh c = 3))) ∧
    (((wCh 3 true).dev.nat K.skyTracker = 0 ∧ (wCh 3 true).dev.sky.stopped = false ∧ ∃ c < 128, (wCh 3 true).dev.skyCh c = 2 ∨ (wCh 3 true).dev.skyCh c = 3)) :=
  ⟨by decide +kernel, by decide +kernel, by decide +kernel⟩

theorem witness_LatchesAndSolutions_a :
    (((wSol 2 5).dev.clock.mtRun = false ∨ (wSol 2 5).dev.nat K.skyTracker = 2)) ∧
    (let a := (wSol 1 5).dev.skySettle.toFabEdge (wSol 1 5).dev.skySettle.nextLatch.1
     (wSol 1 5).dev.clock.mtRun = true ∧ (wSol 1 5).dev.nat K.skyTracker ≠ 2 ∧ (wSol 1 5).dev.nat K.skyMeasCount < 2 ^ 32 - 1 ∧
     (wSol 1 5).dev.nat K.skySolMisses < 2 ^ 32 - 1 ∧
     (¬(a.skySettle.nat K.skySolMisses + 1 = a.skySettle.nat K.skySolMissLimit ∨ a.skySettle.sky.active = true ∧ a.skySettle.nat K.skySolMissLimit ≤ a.skySettle.nat K.skySolMisses + 1))) ∧
    (let a := (wSol 0 1).dev.skySettle.toFabEdge (wSol 0 1).dev.skySettle.nextLatch.1
     (wSol 0 1).dev.clock.mtRun = true ∧ (wSol 0 1).dev.nat K.skyTracker ≠ 2 ∧ (wSol 0 1).dev.nat K.skyMeasCount < 2 ^ 32 - 1 ∧
     (wSol 0 1).dev.nat K.skySolMisses < 2 ^ 32 - 1 ∧
     (a.skySettle.nat K.skySolMisses + 1 = a.skySettle.nat K.skySolMissLimit ∨ a.skySettle.sky.active = true ∧ a.skySettle.nat K.skySolMissLimit ≤ a.skySettle.nat K.skySolMisses + 1) ∧
     a.skySettle.nat K.skyTracker = 0 ∧ a.skySettle.nat K.skySolCount < 2 ^ 32 - 1) ∧
    (let b := wFix.dev.skySettle.toFabEdge wFix.dev.skySettle.nextLatch.1
     let a := b.skySettle.skyTry (List.filter b.skySettle.measGood (b.skySettle.latched [tMeas])) tFix
     b.skySettle.gnssOffset (b.skySettle.mt16 - Config.rfLatchDelay) a.off tFix = some tFixOff ∧ wFix.dev.clock.mtRun = true ∧
     wFix.dev.nat K.skyTracker ≠ 2 ∧ wFix.dev.nat K.skyMeasCount < 2 ^ 32 - 1 ∧ wFix.dev.nat K.skySolMisses < 2 ^ 32 - 1 ∧
     some tFix = some tFix ∧ b.skySettle.nat K.skyTracker = 0 ∧ a.kind ≠ 0 ∧ a.worst = none ∧ tFix.unc ≤ b.skySettle.nat K.skyUncMax ∧
     b.skySettle.nat K.skySolCount < 2 ^ 32 - 1) ∧
    (((wSol 0 1).dev.nat K.skyTracker ≠ 2 ∨ (wSol 0 1).dev.clock.mtRun = false ∨ (wSol 0 1).dev.nat K.fbState ≠ 3)) ∧
    ((¬(wPark.dev.nat K.skyTracker ≠ 2 ∨ wPark.dev.clock.mtRun = false ∨ wPark.dev.nat K.fbState ≠ 3)) ∧
     wPark.dev.nat K.skyMeasCount < 2 ^ 32 - 1) :=
  ⟨by decide +kernel, by decide +kernel, by decide +kernel, ⟨tOffset, by decide +kernel⟩, by decide +kernel, by decide +kernel⟩

theorem witness_LatchesAndSolutions_b :
    ((w1.dev.sky.active = false ∨ w1.dev.clock.mtRun = false)) ∧
    ((wCh 2 true).dev.sky.active = true ∧ (wCh 2 true).dev.clock.mtRun = true ∧ (wCh 2 true).dev.tdc.chans.length = 24) ∧
    (((wSol 0 5).dev.nat K.skyTracker = 0 ∨ (wSol 0 5).dev.sky.expired = true)) ∧
    ((wSol 2 5).dev.nat K.skyTracker ≠ 0 ∧ (wSol 2 5).dev.sky.expired = false) :=
  ⟨by decide +kernel, by decide +kernel, by decide +kernel, by decide +kernel⟩

theorem witness_EdgesBecomeStamps_a :
    ((wStop.dev.clock.mtRun = false ∨ 24 ≤ 3)) ∧
    ((wT 3 [] id).dev.clock.mtRun = true) ∧
    ((wT 3 [] id).dev.clock.mtRun = true ∧ ((wT 3 [] id).dev.ch 20).pad = []) ∧
    ((wT 23 [] cPad).dev.clock.mtRun = true ∧ ((wT 23 [] cPad).dev.ch 23).pad = [tEdge]) ∧
    (let a := wT 3 [(K.chDecim 3, 2)] cOdd
     a.dev.tdc.chans.length = 24 ∧ (∀ m < 24, (a.dev.ch m).opened = none) ∧ (a.dev.chMode 3 = 1 ∨ a.dev.chMode 3 = 3) ∧
     a.dev.nat (K.chEdges 3) < 2 ^ 64 - 1 ∧ (¬((a.dev.ch 3).passed % a.dev.chDecim 3 = 0 ∧ a.dev.nat K.tdcCalState = 2))) ∧
    (let a := (wT 3 [] cLast).dev.ch 3
     (wT 3 [] cLast).dev.tdc.chans.length = 24 ∧ (∀ m < 24, ((wT 3 [] cLast).dev.ch m).opened = none) ∧
     ((wT 3 [] cLast).dev.chMode 3 = 1 ∨ (wT 3 [] cLast).dev.chMode 3 = 3) ∧ (wT 3 [] cLast).dev.nat (K.chEdges 3) < 2 ^ 64 - 1 ∧
     (a.passed % (wT 3 [] cLast).dev.chDecim 3 = 0 ∧ (wT 3 [] cLast).dev.nat K.tdcCalState = 2) ∧
     (4 ≤ a.caps.length ∨ ∃ p, a.lastPs = some p ∧ tEdge.ps < p + 50000) ∧ (wT 3 [] cLast).dev.nat (K.chMissed 3) < 2 ^ 32 - 1) :=
  ⟨by decide +kernel, by decide +kernel, by decide +kernel, by decide +kernel, by decide +kernel, by decide +kernel⟩

theorem witness_EdgesBecomeStamps_b :
    (let a := (wT 3 [] (cCaps 4)).dev.ch 3
     (wT 3 [] (cCaps 4)).dev.tdc.chans.length = 24 ∧ (∀ m < 24, ((wT 3 [] (cCaps 4)).dev.ch m).opened = none) ∧
     ((wT 3 [] (cCaps 4)).dev.chMode 3 = 1 ∨ (wT 3 [] (cCaps 4)).dev.chMode 3 = 3) ∧ (wT 3 [] (cCaps 4)).dev.nat (K.chEdges 3) < 2 ^ 64 - 1 ∧
     (a.passed % (wT 3 [] (cCaps 4)).dev.chDecim 3 = 0 ∧ (wT 3 [] (cCaps 4)).dev.nat K.tdcCalState = 2) ∧
     (4 ≤ a.caps.length ∨ ∃ p, a.lastPs = some p ∧ tEdge.ps < p + 50000) ∧ (wT 3 [] (cCaps 4)).dev.nat (K.chMissed 3) < 2 ^ 32 - 1) ∧
    (let a := (wT 3 [] (cCaps 3)).dev.ch 3
     (wT 3 [] (cCaps 3)).dev.tdc.chans.length = 24 ∧ (∀ m < 24, ((wT 3 [] (cCaps 3)).dev.ch m).opened = none) ∧
     ((wT 3 [] (cCaps 3)).dev.chMode 3 = 1 ∨ (wT 3 [] (cCaps 3)).dev.chMode 3 = 3) ∧ (wT 3 [] (cCaps 3)).dev.nat (K.chEdges 3) < 2 ^ 64 - 1 ∧
     (a.passed % (wT 3 [] (cCaps 3)).dev.chDecim 3 = 0 ∧ (wT 3 [] (cCaps 3)).dev.nat K.tdcCalState = 2) ∧
     (¬(4 ≤ a.caps.length ∨ ∃ p, a.lastPs = some p ∧ tEdge.ps < p + 50000))) ∧
    ((wT 3 [] id).dev.tdc.chans.length = 24 ∧ ((wT 3 [] id).dev.clock.mtRun = false ∨ (wT 3 [] id).dev.nextServed ≠ some 3)) ∧
    (let a := (wT 3 [] (cCaps 2)).dev.ch 3
     (wT 3 [] (cCaps 2)).dev.tdc.chans.length = 24 ∧ (wT 3 [] (cCaps 2)).dev.clock.mtRun = true ∧ (wT 3 [] (cCaps 2)).dev.nextServed = some 3 ∧
     a.caps = [tCap 0, tCap 1] ∧ (wT 3 [] (cCaps 2)).dev.nat (K.chStamps 3) < 2 ^ 64 - 1 ∧ (wT 3 [] (cCaps 2)).dev.chMode 3 = 1 ∧
     (wT 3 [] (cCaps 2)).dev.num (K.chFifoEn 3) = 1 ∧ a.fifo.length < 256) ∧
    (let a := (wT 3 [] cFull).dev.ch 3
     (wT 3 [] cFull).dev.tdc.chans.length = 24 ∧ (wT 3 [] cFull).dev.clock.mtRun = true ∧ (wT 3 [] cFull).dev.nextServed = some 3 ∧
     a.caps = [tCap 5, tCap 6] ∧ (wT 3 [] cFull).dev.nat (K.chStamps 3) < 2 ^ 64 - 1 ∧ (wT 3 [] cFull).dev.chMode 3 = 1 ∧
     (wT 3 [] cFull).dev.num (K.chFifoEn 3) = 1 ∧ 256 ≤ a.fifo.length ∧ (wT 3 [] cFull).dev.nat (K.chOverflow 3) < 2 ^ 32 - 1) ∧
    (let a := wT 3 [(K.tdcCalState, 1)] id
     a.dev.tdc.chans.length = 24 ∧ (a.dev.nat K.tdcCalState ≠ 2 ∨ a.dev.clock.mtRun = false)) :=
  ⟨by decide +kernel, by decide +kernel, by decide +kernel, by decide +kernel, by decide +kernel, by decide +kernel⟩

theorem witness_EdgesBecomeStamps_c :
    ((wT 3 [] (cRej 2)).dev.tdc.chans.length = 24 ∧ (wT 3 [] (cRej 2)).dev.nat K.tdcCalState = 2 ∧ (wT 3 [] (cRej 2)).dev.clock.mtRun = true ∧
     (wT 3 [] (cRej 2)).dev.nat K.tdcCalCount < 2 ^ 32 - 1) ∧
    ((wT 3 [] id).dev.nat K.tdcCalState ≠ 1) ∧
    (let a := wT 3 [(K.tdcCalState, 1)] id
     a.dev.nat K.tdcCalState = 1 ∧ a.dev.tdc.chans.length = 24) ∧
    (wStop.dev.clock.mtRun = false) ∧
    ((wT 3 [(K.tdcLoadPeak, 4)] id).dev.clock.mtRun = true) :=
  ⟨by decide +kernel, by decide +kernel, by decide +kernel, by decide +kernel, by decide +kernel⟩

theorem witness_IntervalsGatesAndFifoReads_a :
    (let b := wT 3 [(K.chMode 3, 2), (K.chStopSrc 3, 6), (K.chWinOpen 3, 100), (K.chWinWidth 3, 50), (K.chTimeout 3, 500)] cOpen
     let a := b.dev.ch 3
     b.dev.tdc.chans.length = 24 ∧ a.opened = some (tCap 1000) ∧ b.dev.chMode 3 = 2 ∧ b.dev.nat (K.chStopSrc 3) = 6 ∧
     b.dev.num (K.chFifoEn 3) = 1 ∧ a.fifo.length < 256 ∧
     (1099 < (tCap 1000).ps + b.dev.nat (K.chWinOpen 3) ∨ (tCap 1000).ps + b.dev.nat (K.chTimeout 3) < 1099)) ∧
    (let b := wT 3 [(K.chMode 3, 2), (K.chStopSrc 3, 6), (K.chWinOpen 3, 100), (K.chWinWidth 3, 50), (K.chTimeout 3, 500)] cOpen
     let a := b.dev.ch 3
     b.dev.tdc.chans.length = 24 ∧ a.opened = some (tCap 1000) ∧ b.dev.chMode 3 = 2 ∧ b.dev.nat (K.chStopSrc 3) = 6 ∧
     b.dev.num (K.chFifoEn 3) = 1 ∧ a.fifo.length < 256 ∧
     (1501 < (tCap 1000).ps + b.dev.nat (K.chWinOpen 3) ∨ (tCap 1000).ps + b.dev.nat (K.chTimeout 3) < 1501)) ∧
    (let b := wT 3 [(K.chMode 3, 2), (K.chStopSrc 3, 6), (K.chWinOpen 3, 100), (K.chWinWidth 3, 50), (K.chTimeout 3, 500)] cOpen
     let a := b.dev.ch 3
     b.dev.tdc.chans.length = 24 ∧ a.opened = some (tCap 1000) ∧ b.dev.chMode 3 = 2 ∧ b.dev.nat (K.chStopSrc 3) = 6 ∧
     b.dev.num (K.chFifoEn 3) = 1 ∧ a.fifo.length < 256 ∧ (tCap 1000).ps + b.dev.nat (K.chWinOpen 3) ≤ 1500 ∧
     1500 ≤ (tCap 1000).ps + b.dev.nat (K.chTimeout 3)) ∧
    (let b := wT 3 [(K.chMode 3, 2), (K.chStopSrc 3, 6), (K.chWinOpen 3, 100), (K.chWinWidth 3, 50), (K.chTimeout 3, 500)] cOpen
     let a := b.dev.ch 3
     b.dev.tdc.chans.length = 24 ∧ a.opened = some (tCap 1000) ∧ b.dev.chMode 3 = 2 ∧ b.dev.nat (K.chStopSrc 3) = 6 ∧
     b.dev.num (K.chFifoEn 3) = 1 ∧ a.fifo.length < 256 ∧ (tCap 1000).ps + b.dev.nat (K.chWinOpen 3) ≤ 1150 ∧
     1150 ≤ (tCap 1000).ps + b.dev.nat (K.chTimeout 3)) ∧
    ((wT 3 [] id).dev.tdc.chans.length = 24 ∧
     (((wT 3 [] id).dev.ch 3).opened = none ∨ (wT 3 [] id).dev.clock.mtRun = false ∨ (wT 3 [] id).dev.chMode 3 ≠ 2)) ∧
    (let b := wT 3 [(K.chMode 3, 2), (K.chTimeout 3, 900000)] cOpen
     let a := b.dev.ch 3
     b.dev.tdc.chans.length = 24 ∧ a.opened = some (tCap 1000) ∧ b.dev.clock.mtRun = true ∧ b.dev.chMode 3 = 2 ∧ b.dev.num (K.chFifoEn 3) = 1 ∧
     a.fifo.length < 256) :=
  ⟨by decide +kernel, by decide +kernel, by decide +kernel, by decide +kernel, by decide +kernel, by decide +kernel⟩

theorem witness_IntervalsGatesAndFifoReads_b :
    ((wT 3 [] id).dev.tdc.chans.length = 24 ∧ ((wT 3 [] id).dev.num (K.regEnable 3) ≠ 1 ∨ 24 ≤ 3 ∨ (wT 3 [] id).dev.clock.mtRun = false)) ∧
    (let b := wT 3 [(K.regEnable 3, 1), (K.regGate 3, 2000), (K.regFreq 3, 77)] (cStamps 2)
     let a := b.dev.ch 3
     b.dev.tdc.chans.length = 24 ∧ b.dev.num (K.regEnable 3) = 1 ∧ b.dev.clock.mtRun = true ∧ b.dev.nat (K.regSeq 3) < 2 ^ 32 - 1 ∧
     (¬(a.gateRootLost = true ∨ b.dev.rootLocked = false)) ∧
     (List.filter (fun x => decide (x.2.2 < ↑(a.gateStart + b.dev.nat (K.regGate 3) * 1000000 * nsU))) ((Device.serveAll 3 96 (b.dev.runToMt (a.gateStart + b.dev.nat (K.regGate 3) * 1000000 * nsU))).ch 3).stamps).length < 3) ∧
    (let a := wT 3 [(K.regEnable 3, 1), (K.regGate 3, 2000), (K.regFreq 3, 77)] (cStamps 40)
     a.dev.tdc.chans.length = 24 ∧ a.dev.num (K.regEnable 3) = 1 ∧ a.dev.clock.mtRun = true ∧ a.dev.nat (K.regSeq 3) < 2 ^ 32 - 1 ∧
     (¬((a.dev.ch 3).gateRootLost = true ∨ a.dev.rootLocked = false))) ∧
    (let a := wT 3 [(K.regEnable 3, 1), (K.regGate 3, 2000), (K.hearthLock, 0)] (cStamps 40)
     a.dev.tdc.chans.length = 24 ∧ a.dev.num (K.regEnable 3) = 1 ∧ a.dev.clock.mtRun = true ∧ a.dev.nat (K.regSeq 3) < 2 ^ 32 - 1 ∧
     ((a.dev.ch 3).gateRootLost = true ∨ a.dev.rootLocked = false)) ∧
    ((wT 3 [] cFull).grants (hapReq (tHdr false 1 (K.chFifoRead 3) []) 1 (K.chFifoRead 3) []) ∧ (tHdr false 1 (K.chFifoRead 3) []).flags < 8 ∧
     (∀ x ∈ (((wT 3 [] cFull).asked (hapReq (tHdr false 1 (K.chFifoRead 3) []) 1 (K.chFifoRead 3) [])).ch 3).fifo, List.length x = 24) ∧
     K.chFifoRead 3 ∉ ((wT 3 [] cFull).asked (hapReq (tHdr false 1 (K.chFifoRead 3) []) 1 (K.chFifoRead 3) [])).lost ∧
     (((wT 3 [] cFull).asked (hapReq (tHdr false 1 (K.chFifoRead 3) []) 1 (K.chFifoRead 3) [])).drainFifo 3 ((List.take (maxPayload (reqSrc (hapReq (tHdr false 1 (K.chFifoRead 3) []) 1 (K.chFifoRead 3) [])) (tHdr false 1 (K.chFifoRead 3) []).xl (decide (((wT 3 [] cFull).dev.heard (hapReq (tHdr false 1 (K.chFifoRead 3) []) 1 (K.chFifoRead 3) [])).lock = 3)) / 24 * 24) (List.take 16 (((wT 3 [] cFull).asked (hapReq (tHdr false 1 (K.chFifoRead 3) []) 1 (K.chFifoRead 3) [])).ch 3).fifo).flatten).length / 24)).tdc.chans.length = 24) ∧
    ((wT 3 [] cOpen).grants (hapReq (tHdr false 1 (K.chFifoRead 3) []) 1 (K.chFifoRead 3) []) ∧ (tHdr false 1 (K.chFifoRead 3) []).flags < 8 ∧
     (∀ x ∈ (((wT 3 [] cOpen).asked (hapReq (tHdr false 1 (K.chFifoRead 3) []) 1 (K.chFifoRead 3) [])).ch 3).fifo, List.length x = 24) ∧
     K.chFifoRead 3 ∉ ((wT 3 [] cOpen).asked (hapReq (tHdr false 1 (K.chFifoRead 3) []) 1 (K.chFifoRead 3) [])).lost ∧
     (((wT 3 [] cOpen).asked (hapReq (tHdr false 1 (K.chFifoRead 3) []) 1 (K.chFifoRead 3) [])).drainFifo 3 ((List.take (maxPayload (reqSrc (hapReq (tHdr false 1 (K.chFifoRead 3) []) 1 (K.chFifoRead 3) [])) (tHdr false 1 (K.chFifoRead 3) []).xl (decide (((wT 3 [] cOpen).dev.heard (hapReq (tHdr false 1 (K.chFifoRead 3) []) 1 (K.chFifoRead 3) [])).lock = 3)) / 24 * 24) (List.take 16 (((wT 3 [] cOpen).asked (hapReq (tHdr false 1 (K.chFifoRead 3) []) 1 (K.chFifoRead 3) [])).ch 3).fifo).flatten).length / 24)).tdc.chans.length = 24) :=
  ⟨by decide +kernel, by decide +kernel, by decide +kernel, by decide +kernel, ⟨(tGrants _ _ _ _ _ (by decide +kernel) (by decide +kernel)),
   by decide +kernel⟩, ⟨(tGrants _ _ _ _ _ (by decide +kernel) (by decide +kernel)), by decide +kernel⟩⟩

theorem witness_FramesPassTheChecksInOrder_a :
    (let a := (wN [] id).dev.elapse 9
     (a.link 5 ≠ 3 ∧ a.link 5 ≠ 4 ∨ a.clock.mtRun = false)) ∧
    (let a := (wN [(K.hallLoopMask, 1)] id).dev.elapse 9
     (a.link 0 = 3 ∨ a.link 0 = 4) ∧ a.clock.mtRun = true ∧ bit (a.nat K.hallLoopMask) 0 = true ∧ a.nat K.hallLoopDiscard < 2 ^ 32 - 1) ∧
    (let a := (wN [(K.hallLoopMask, 8)] id).dev.elapse 9
     (a.link 3 = 3 ∨ a.link 3 = 4) ∧ a.clock.mtRun = true ∧ bit (a.nat K.hallLoopMask) 3 = true ∧ a.nat K.hallLoopDiscard < 2 ^ 32 - 1) ∧
    (let a := (wN [] id).dev.elapse 9
     a.link 0 = 3 ∧ a.clock.mtRun = true ∧ bit (a.nat K.hallLoopMask) 0 = false ∧ a.asleep = false ∧ a.power.waking = none ∧
     frameLen (tFrame (tMac 1) 39321 45) < 64) ∧
    (let b := (wN [] id).dev.elapse 9
     let a := tFrame (tMac 1) 39321 1600
     b.link 0 = 3 ∧ b.clock.mtRun = true ∧ bit (b.nat K.hallLoopMask) 0 = false ∧ b.asleep = false ∧ b.power.waking = none ∧ 64 ≤ frameLen a ∧
     b.nat (K.portMaxFrame 0) < frameLen a) ∧
    (let b := (wN [] id).dev.elapse 9
     let a := tFrame (tMac 1) 39321 46
     b.link 0 = 3 ∧ b.clock.mtRun = true ∧ bit (b.nat K.hallLoopMask) 0 = false ∧ b.asleep = false ∧ b.power.waking = none ∧ 64 ≤ frameLen a ∧
     frameLen a ≤ b.nat (K.portMaxFrame 0)) :=
  ⟨by decide +kernel, by decide +kernel, by decide +kernel, by decide +kernel, by decide +kernel, by decide +kernel⟩

theorem witness_FramesPassTheChecksInOrder_b :
    (let b := (wN [] id).dev.elapse 9
     let a := tFrame (tMac 1) 34824 46
     b.link 0 = 3 ∧ b.clock.mtRun = true ∧ bit (b.nat K.hallLoopMask) 0 = false ∧ b.asleep = false ∧ b.power.waking = none ∧ 64 ≤ frameLen a ∧
     frameLen a ≤ b.nat (K.portMaxFrame 0) ∧ (parseFrame a).etype = 34824) ∧
    (let c := tFrame (tMac 1) 39321 46
     let b := (wMac.dev.elapse 9).vidOf 0 (parseFrame c)
     let a := (wMac.dev.elapse 9).pcpQueue 0 (parseFrame c)
     (wMac.dev.elapse 9).link 0 = 3 ∧ (wMac.dev.elapse 9).clock.mtRun = true ∧ bit ((wMac.dev.elapse 9).nat K.hallLoopMask) 0 = false ∧
     (wMac.dev.elapse 9).asleep = false ∧ (wMac.dev.elapse 9).power.waking = none ∧ 64 ≤ frameLen c ∧
     frameLen c ≤ (wMac.dev.elapse 9).nat (K.portMaxFrame 0) ∧ (parseFrame c).etype ≠ 34824 ∧ (wMac.dev.elapse 9).roomFor 0 (cellsOf c) = true ∧
     (wMac.dev.elapse 9).nat (K.stampProbeEtype 0) = 0 ∧ (wMac.dev.elapse 9).stationAnswer 0 c = none ∧
     (wMac.dev.elapse 9).mirrored 0 1 = false ∧ (wMac.dev.elapse 9).vlanDrops 0 (parseFrame c) = false ∧
     (wMac.dev.elapse 9).localDest 0 (parseFrame c) = Dest.forward ∧ (wMac.dev.elapse 9).nat (K.portRxFrames 0) < 2 ^ 64 - 1 ∧
     vlanEntry ((wMac.dev.elapse 9).oct K.hallVlanTable) b = some (2 ^ 44 - 1, 2 ^ 44 - 1) ∧ bit (2 ^ 44 - 1) 1 = true ∧
     (wMac.dev.elapse 9).fdbLookup (parseFrame c).dst b = some (2 ^ 1) ∧ ((wMac.dev.elapse 9).sched 1).entries = [] ∧
     (wMac.dev.elapse 9).hall.egress.length = 44 ∧ ((wMac.dev.elapse 9).egress 1).queues.length = 8 ∧
     List.foldl (fun n g => n + g.cells) 0 ((wMac.dev.elapse 9).queue 1 a) + cellsOf c ≤ (wMac.dev.elapse 9).nat (K.qMaxCells 1 a)) ∧
    (let b := tFrame (tMac 1) 39321 46
     let a := (wN [(K.inAccept 0, 1)] id).dev.elapse 9
     a.link 0 = 3 ∧ a.clock.mtRun = true ∧ bit (a.nat K.hallLoopMask) 0 = false ∧ a.asleep = false ∧ a.power.waking = none ∧ 64 ≤ frameLen b ∧
     frameLen b ≤ a.nat (K.portMaxFrame 0) ∧ (parseFrame b).etype ≠ 34824 ∧ a.roomFor 0 (cellsOf b) = true ∧ a.nat (K.stampProbeEtype 0) = 0 ∧
     a.stationAnswer 0 b = none ∧ a.mirrored 0 1 = false ∧ a.vlanDrops 0 (parseFrame b) = true ∧ a.nat (K.portRxFrames 0) < 2 ^ 64 - 1 ∧
     a.nat K.hallVlanDrop < 2 ^ 32 - 1) ∧
    (let b := tFrame (tMac 1) 39321 46
     let a := (wN [(K.hallPortGuar, 0), (K.hallIpReserve, 65536)] id).dev.elapse 9
     a.link 0 = 3 ∧ a.clock.mtRun = true ∧ bit (a.nat K.hallLoopMask) 0 = false ∧ a.asleep = false ∧ a.power.waking = none ∧ 64 ≤ frameLen b ∧
     frameLen b ≤ a.nat (K.portMaxFrame 0) ∧ (parseFrame b).etype ≠ 34824 ∧ a.roomFor 0 (cellsOf b) = false ∧
     a.nat (K.portRxOverflow 0 (a.pcpQueue 0 (parseFrame b))) < 2 ^ 64 - 1) :=
  ⟨by decide +kernel, by decide +kernel, by decide +kernel, by decide +kernel⟩

theorem witness_FramesLeaveByPriorityAndAge_a :
    ((wQueued []).dev.pickQueue 1 = some (6, tPkt 60 0)) ∧
    ((wQueued []).dev.ports.length = 44 ∧ (wQueued []).dev.hall.egress.length = 44 ∧ ((wQueued []).dev.egress 1).queues.length = 8 ∧
     (wQueued []).dev.portUp 1 = true ∧ ((wQueued []).dev.port 1).place = none ∧ ((wQueued []).dev.port 1).own = [] ∧
     (wQueued []).dev.queue 1 6 = [tPkt 60 0] ∧ (∀ r < 8, 6 < r → (wQueued []).dev.queue 1 r = []) ∧
     (tPkt 60 0).whole ≤ (wQueued []).dev.rootPs ∧ ((wQueued []).dev.sched 1).entries = [] ∧ (wQueued []).dev.nat (K.cbsSlope 1 6) = 0 ∧
     (wQueued []).dev.nat (K.qLaunchMask 1) = 0 ∧ (∀ r ∈ (wQueued []).dev.parl.resv, r.port ≠ 1) ∧ (wQueued []).dev.nat K.hallLoopMask = 0 ∧
     (wQueued []).dev.hall.waiting = []) ∧
    ((w1.dev.portUp 1 = false ∨ (w1.dev.port 1).place ≠ none)) ∧
    (1 < (Device.nextRelease 1 16 (wQueued []).dev).2.ports.length ∧ (wQueued []).dev.portUp 1 = true ∧ ((wQueued []).dev.port 1).place = none ∧
     Device.nextRelease 1 16 (wQueued []).dev = (some (some 6, tPkt 60 0), (Device.nextRelease 1 16 (wQueued []).dev).2) ∧
     bit ((Device.nextRelease 1 16 (wQueued []).dev).2.nat K.hallLoopMask) 1 = false) ∧
    (let a := (wPlace 60 [] pBack).dev.port 1
     (wPlace 60 [] pBack).dev.ports.length = 44 ∧ a.place = some (tPkt 60 0) ∧ ((wPlace 60 [] pBack).dev.portUp 1 = false ∨ a.backoff ≠ none)) ∧
    (let a := (wPlace 60 [] id).dev.port 1
     (wPlace 60 [] id).dev.ports.length = 44 ∧ a.place = some (tPkt 60 0) ∧ (wPlace 60 [] id).dev.portUp 1 = true ∧ a.backoff = none ∧
     (16 ≤ 1 ∨ (wPlace 60 [] id).dev.nat (K.portMode 1) ≠ 0 ∨ (wPlace 60 [] id).dev.nat (K.plcaStatus 1) ≠ 1 ∨ ((wPlace 60 [] id).dev.commitTick 1 9).plcaAllows 1 a.busyPs = true) ∧
     (tPkt 60 0).insOp = 0 ∧ (tPkt 60 0).tag = Tag.none ∧ (wPlace 60 [] id).dev.nat (K.portTxFrames 1) < 2 ^ 64 - 1 ∧
     frameLen (padFrame (tPkt 60 0).body) ≤ (wPlace 60 [] id).dev.nat (K.portMaxFrame 1)) :=
  ⟨by decide +kernel, by decide +kernel, by decide +kernel, by decide +kernel, by decide +kernel, by decide +kernel⟩

theorem witness_FramesLeaveByPriorityAndAge_b :
    (let a := (wPlace 3 [] id).dev.port 1
     (wPlace 3 [] id).dev.ports.length = 44 ∧ a.place = some (tPkt 3 0) ∧ (wPlace 3 [] id).dev.portUp 1 = true ∧ a.backoff = none ∧
     (16 ≤ 1 ∨ (wPlace 3 [] id).dev.nat (K.portMode 1) ≠ 0 ∨ (wPlace 3 [] id).dev.nat (K.plcaStatus 1) ≠ 1 ∨ ((wPlace 3 [] id).dev.commitTick 1 9).plcaAllows 1 a.busyPs = true) ∧
     (tPkt 3 0).insOp = 0 ∧ (tPkt 3 0).tag = Tag.none ∧ (wPlace 3 [] id).dev.nat (K.portTxFrames 1) < 2 ^ 64 - 1 ∧
     frameLen (padFrame (tPkt 3 0).body) ≤ (wPlace 3 [] id).dev.nat (K.portMaxFrame 1)) ∧
    (let a := (wPlace 1700 [] id).dev.port 1
     (wPlace 1700 [] id).dev.ports.length = 44 ∧ a.place = some (tPkt 1700 0) ∧ (wPlace 1700 [] id).dev.portUp 1 = true ∧ a.backoff = none ∧
     (16 ≤ 1 ∨ (wPlace 1700 [] id).dev.nat (K.portMode 1) ≠ 0 ∨ (wPlace 1700 [] id).dev.nat (K.plcaStatus 1) ≠ 1 ∨ ((wPlace 1700 [] id).dev.commitTick 1 9).plcaAllows 1 a.busyPs = true) ∧
     (tPkt 1700 0).insOp = 0 ∧ (tPkt 1700 0).tag = Tag.none ∧ (wPlace 1700 [] id).dev.nat (K.portTxFrames 1) < 2 ^ 64 - 1 ∧
     (wPlace 1700 [] id).dev.nat (K.portMaxFrame 1) < frameLen (padFrame (tPkt 1700 0).body)) ∧
    (let a := (wPlace 60 [] id).dev.port 1
     (wPlace 60 [] id).dev.ports.length = 44 ∧ (wPlace 60 [] id).dev.portUp 1 = true ∧ a.place ≠ none ∧ a.backoff = none ∧
     (¬((wPlace 60 [] id).dev.nat (K.portMode 1) = 0 ∧ (wPlace 60 [] id).dev.nat (K.plcaStatus 1) = 1))) ∧
    (let b := wPlace 60 [] (pTry 15)
     let a := b.dev.port 1
     b.dev.ports.length = 44 ∧ b.dev.portUp 1 = true ∧ a.place ≠ none ∧ a.backoff = none ∧
     (¬(b.dev.nat (K.portMode 1) = 0 ∧ b.dev.nat (K.plcaStatus 1) = 1)) ∧ 16 ≤ a.attempts + 1) ∧
    (let b := wPlace 60 [] (pTry 14)
     let a := b.dev.port 1
     b.dev.ports.length = 44 ∧ b.dev.portUp 1 = true ∧ a.place ≠ none ∧ a.backoff = none ∧
     (¬(b.dev.nat (K.portMode 1) = 0 ∧ b.dev.nat (K.plcaStatus 1) = 1)) ∧ a.attempts + 1 < 16) ∧
    ((wPlace 60 [] pBack).dev.ports.length = 44 ∧ ((wPlace 60 [] pBack).dev.port 1).backoff = some 64500) :=
  ⟨by decide +kernel, by decide +kernel, by decide +kernel, by decide +kernel, by decide +kernel, by decide +kernel⟩

theorem witness_FramesLeaveByPriorityAndAge_c :
    ((wGates.dev.sched 1).entries ≠ [] ∧ wGates.dev.clock.mtRun = true) ∧
    ((((wPlace 60 [] id).dev.sched 1).entries = [] ∨ (wPlace 60 [] id).dev.clock.mtRun = false)) ∧
    ((wN [] id).dev.nat K.hallFdbAgeing ≠ 0 ∧ (List.map (fun e => e.seen) (wN [] id).dev.hall.fdb).min? = some 100) ∧
    (let a := wN [(K.hallFdbAgeing, 20)] id
     a.dev.nat K.hallFdbAgeing ≠ 0 ∧ (List.map (fun e => e.seen) a.dev.hall.fdb).min? = some 100) :=
  ⟨by decide +kernel, by decide +kernel, by decide +kernel, by decide +kernel⟩

theorem witness_LinksAndPlcaFollowTheirTables_a :
    ((wN [(K.portLinkState 20, 1)] fun x => x.setPort 20 pCause).dev.ports.length = 44 ∧
     (wN [(K.portLinkState 20, 1)] fun x => x.setPort 20 pCause).dev.portsServed = true ∧
     (wN [(K.portLinkState 20, 1)] fun x => x.setPort 20 pCause).dev.link 20 = 1) ∧
    (let a := wN [(K.portLinkState 2, 1)] id
     a.dev.ports.length = 44 ∧ a.dev.portsServed = true ∧ a.dev.link 2 = 1) ∧
    ((wN [] id).dev.ports.length = 44 ∧ (wN [] id).dev.portsServed = true ∧ (wN [] id).dev.link 17 = 2) ∧
    ((wPlace 60 [] id).dev.ports.length = 44 ∧ (wPlace 60 [] id).dev.portsServed = true ∧
     ((wPlace 60 [] id).dev.link 1 = 0 ∨ 3 ≤ (wPlace 60 [] id).dev.link 1) ∧ (wPlace 60 [] id).dev.link 1 = 3) ∧
    ((wN [] id).dev.ports.length = 44 ∧ (wN [] id).dev.portsServed = true ∧ ((wN [] id).dev.link 3 = 0 ∨ 3 ≤ (wN [] id).dev.link 3)) ∧
    ((wN [] id).dev.ports.length = 44 ∧ (wN [] id).dev.portsServed = true ∧ ((wN [] id).dev.link 0 = 0 ∨ 3 ≤ (wN [] id).dev.link 0) ∧
     (wN [] id).dev.link 0 = 3) :=
  ⟨by decide +kernel, by decide +kernel, by decide +kernel, by decide +kernel, by decide +kernel, by decide +kernel⟩

theorem witness_LinksAndPlcaFollowTheirTables_b :
    ((wN [] id).dev.ports.length = 44 ∧ (wN [] id).dev.portsServed = true ∧ ((wN [] id).dev.link 20 = 0 ∨ 3 ≤ (wN [] id).dev.link 20) ∧
     (wN [] id).dev.link 20 = 3) ∧
    ((wN [] id).dev.ports.length = 44 ∧ (wN [] id).dev.portsServed = true ∧ ((wN [] id).dev.link 5 = 0 ∨ 3 ≤ (wN [] id).dev.link 5)) ∧
    (let a := wN [(K.fbState, 2)] id
     a.dev.ports.length = 44 ∧ a.dev.portsServed = false ∧ a.dev.link 20 = 3) ∧
    ((wN [] id).dev.portsServed = true) ∧
    ((wN [(K.portLinkState 17, 1)] id).dev.portsServed = true) ∧
    (let b := wPlace 60 [(K.portMode 1, 1)] id
     let a := b.dev.elapse 90
     b.dev.ports.length = 44 ∧ (¬(a.portUp 1 = true ∧ a.nat (K.portMode 1) = 0))) :=
  ⟨by decide +kernel, by decide +kernel, by decide +kernel, by decide +kernel, by decide +kernel, by decide +kernel⟩

theorem witness_LinksAndPlcaFollowTheirTables_c :
    (let b := wPlace 60 [(K.plcaCycleObs 1, 2)] id
     let a := b.dev.elapse 90000
     b.dev.ports.length = 44 ∧ a.portUp 1 = true ∧ a.nat (K.portMode 1) = 0) ∧
    (let b := wPlace 60 [(K.plcaCycleObs 1, 2)] pNone
     let a := b.dev.elapse 90000
     b.dev.ports.length = 44 ∧ a.portUp 1 = true ∧ a.nat (K.portMode 1) = 0) ∧
    (let a := wPlace 60 [(K.plcaStatus 1, 1), (K.plcaNodeId 1, 3)] id
     a.dev.ports.length = 44 ∧ (a.dev.port 1).beaconAt = some 200 ∧ a.dev.portUp 1 = true ∧ a.dev.nat (K.plcaNodeId 1) ≠ 0) :=
  ⟨by decide +kernel, by decide +kernel, by decide +kernel⟩

theorem witness_PortAndSwitchRequestsActAtOnce_a :
    ((wN [] id).writes (tHdr false 2 (K.portCntClear 0) [1]) (K.portCntClear 0) [1]) ∧
    ((wN [(K.portLinkDowns 20, 9)] id).writes (tHdr false 2 (K.portCntClear 20) [1]) (K.portCntClear 20) [1]) ∧
    ((wN [] id).writes (tHdr false 2 K.hallFdbFlush [1]) K.hallFdbFlush [1]) ∧
    ((wN [] id).writes (tHdr false 2 K.xphyMdio [0, 31, 1, 0, 0, 0, 0, 0]) K.xphyMdio [0, 31, 1, 0, 0, 0, 0, 0] ∧
     [0, 31, 1, 0, 0, 0, 0, 0].length = 8 ∧
     (¬(fieldNat [0, 31, 1, 0, 0, 0, 0, 0] 0 1 < 2 ∧ 32 ≤ fieldNat [0, 31, 1, 0, 0, 0, 0, 0] 1 1 ∧ fieldNat [0, 31, 1, 0, 0, 0, 0, 0] 1 1 ≤ 39 ∧ 1 ≤ fieldNat [0, 31, 1, 0, 0, 0, 0, 0] 2 1 ∧ fieldNat [0, 31, 1, 0, 0, 0, 0, 0] 2 1 ≤ 31 ∧ fieldNat [0, 31, 1, 0, 0, 0, 0, 0] 3 1 = 0))) ∧
    ((wN [] id).writes (tHdr false 2 K.xphyMdio [0, 32, 1, 0, 9, 9, 8, 7]) K.xphyMdio [0, 32, 1, 0, 9, 9, 8, 7] ∧
     [0, 32, 1, 0, 9, 9, 8, 7].length = 8 ∧
     (fieldNat [0, 32, 1, 0, 9, 9, 8, 7] 0 1 < 2 ∧ 32 ≤ fieldNat [0, 32, 1, 0, 9, 9, 8, 7] 1 1 ∧ fieldNat [0, 32, 1, 0, 9, 9, 8, 7] 1 1 ≤ 39 ∧ 1 ≤ fieldNat [0, 32, 1, 0, 9, 9, 8, 7] 2 1 ∧ fieldNat [0, 32, 1, 0, 9, 9, 8, 7] 2 1 ≤ 31 ∧ fieldNat [0, 32, 1, 0, 9, 9, 8, 7] 3 1 = 0)) ∧
    ((wN [] id).writes (tHdr false 2 K.xphyMdio [1, 39, 31, 0, 9, 9, 8, 7]) K.xphyMdio [1, 39, 31, 0, 9, 9, 8, 7] ∧
     [1, 39, 31, 0, 9, 9, 8, 7].length = 8 ∧
     (fieldNat [1, 39, 31, 0, 9, 9, 8, 7] 0 1 < 2 ∧ 32 ≤ fieldNat [1, 39, 31, 0, 9, 9, 8, 7] 1 1 ∧ fieldNat [1, 39, 31, 0, 9, 9, 8, 7] 1 1 ≤ 39 ∧ 1 ≤ fieldNat [1, 39, 31, 0, 9, 9, 8, 7] 2 1 ∧ fieldNat [1, 39, 31, 0, 9, 9, 8, 7] 2 1 ≤ 31 ∧ fieldNat [1, 39, 31, 0, 9, 9, 8, 7] 3 1 = 0)) :=
  ⟨(tWrites _ _ _ _ (by decide +kernel) (by decide +kernel)), (tWrites _ _ _ _ (by decide +kernel) (by decide +kernel)),
   (tWrites _ _ _ _ (by decide +kernel) (by decide +kernel)), ⟨(tWrites _ _ _ _ (by decide +kernel) (by decide +kernel)), by decide +kernel⟩,
   ⟨(tWrites _ _ _ _ (by decide +kernel) (by decide +kernel)), by decide +kernel⟩, ⟨(tWrites _ _ _ _ (by decide +kernel) (by decide +kernel)),
   by decide +kernel⟩⟩

theorem witness_PortAndSwitchRequestsActAtOnce_b :
    (let b := tHdr false 2 (K.stampProbeSend 1) (tMac 5)
     let a := (wN [] id).asWritten b (K.stampProbeSend 1) (tMac 5)
     (wN [] id).writes b (K.stampProbeSend 1) (tMac 5) ∧ List.length (tMac 5) = 6 ∧ (a.nat (K.stampProbeEtype 1) = 0 ∨ a.portUp 1 = false)) ∧
    (let c := tHdr false 2 (K.stampProbeSend 1) (tMac 5)
     let b := wN [(K.stampProbeEtype 1, 34997), (K.stampProbeTxSeq 1, 65535)] id
     let a := b.asWritten c (K.stampProbeSend 1) (tMac 5)
     b.writes c (K.stampProbeSend 1) (tMac 5) ∧ List.length (tMac 5) = 6 ∧ a.nat (K.stampProbeEtype 1) ≠ 0 ∧ a.portUp 1 = true) :=
  ⟨⟨(tWrites _ _ _ _ (by decide +kernel) (by decide +kernel)), by decide +kernel⟩, ⟨(tWrites _ _ _ _ (by decide +kernel) (by decide +kernel)),
   by decide +kernel⟩⟩

theorem witness_CanControllersFollowTheirStates_a :
    (w1.dev.nat (K.canState 1) ≠ 1) ∧
    (w1.dev.nat (K.canState 1) ≠ 4) ∧
    ((wL [(K.canState 1, 1)] id).dev.nat (K.canState 1) = 1) ∧
    ((wL [(K.canState 1, 1), (K.canRec 1, 128)] id).dev.nat (K.canState 1) = 1) ∧
    ((wL [(K.canState 1, 4), (K.canRec 1, 128)] id).dev.nat (K.canState 1) = 4) ∧
    (w1.dev.canActive 1 = false) :=
  ⟨by decide +kernel, by decide +kernel, by decide +kernel, by decide +kernel, by decide +kernel, by decide +kernel⟩

theorem witness_CanControllersFollowTheirStates_b :
    (let a := wL [(K.canState 1, 2), (K.canTec 1, 250)] id
     a.dev.canActive 1 = true ∧ a.dev.nat (K.canErrFrames 1) < 2 ^ 32 - 1 ∧ a.dev.nat (K.canBusoffCount 1) < 2 ^ 32 - 1 ∧
     255 < a.dev.num (K.canTec 1) + 8) ∧
    (let a := wL [(K.canState 1, 2), (K.canTec 1, 120)] id
     a.dev.canActive 1 = true ∧ a.dev.nat (K.canErrFrames 1) < 2 ^ 32 - 1 ∧ a.dev.nat (K.canBusoffCount 1) < 2 ^ 32 - 1 ∧
     a.dev.num (K.canTec 1) + 8 ≤ 255) ∧
    (let a := wL [(K.canState 1, 3), (K.canTec 1, 120)] id
     a.dev.canActive 1 = true ∧ a.dev.nat (K.canErrFrames 1) < 2 ^ 32 - 1 ∧ a.dev.nat (K.canBusoffCount 1) < 2 ^ 32 - 1 ∧
     a.dev.num (K.canTec 1) + -1 ≤ 255) ∧
    ((w1.dev.canActive 1 = false ∨ ¬((CanFmt.fd = CanFmt.xl → w1.dev.canMode 1 = 3) ∧ (CanFmt.fd = CanFmt.fd → 2 ≤ w1.dev.canMode 1)))) ∧
    ((wL [(K.canState 1, 2)] fun x => x.setOct (K.canCfg 1) (tCan 3)).dev.canActive 1 = true ∧
     ((CanFmt.xl = CanFmt.xl → (wL [(K.canState 1, 2)] fun x => x.setOct (K.canCfg 1) (tCan 3)).dev.canMode 1 = 3) ∧ (CanFmt.xl = CanFmt.fd → 2 ≤ (wL [(K.canState 1, 2)] fun x => x.setOct (K.canCfg 1) (tCan 3)).dev.canMode 1)) ∧
     (¬((wL [(K.canState 1, 2)] fun x => x.setOct (K.canCfg 1) (tCan 3)).dev.canHap 1 = true ∧ CanFmt.xl ≠ CanFmt.cc ∧ 5 = (wL [(K.canState 1, 2)] fun x => x.setOct (K.canCfg 1) (tCan 3)).dev.nat K.hapCanReqId)) ∧
     (wL [(K.canState 1, 2)] fun x => x.setOct (K.canCfg 1) (tCan 3)).dev.nat (K.canRxFrames 1) < 2 ^ 32 - 1 ∧
     (wL [(K.canState 1, 2)] fun x => x.setOct (K.canCfg 1) (tCan 3)).dev.nat (K.canRxDiscard 1) < 2 ^ 32 - 1) ∧
    ((wL [(K.canState 1, 2)] fun x => x.setOct (K.canCfg 1) (tCan 2)).dev.canActive 1 = true ∧
     ((CanFmt.cc = CanFmt.xl → (wL [(K.canState 1, 2)] fun x => x.setOct (K.canCfg 1) (tCan 2)).dev.canMode 1 = 3) ∧ (CanFmt.cc = CanFmt.fd → 2 ≤ (wL [(K.canState 1, 2)] fun x => x.setOct (K.canCfg 1) (tCan 2)).dev.canMode 1)) ∧
     (¬((wL [(K.canState 1, 2)] fun x => x.setOct (K.canCfg 1) (tCan 2)).dev.canHap 1 = true ∧ CanFmt.cc ≠ CanFmt.cc ∧ 5 = (wL [(K.canState 1, 2)] fun x => x.setOct (K.canCfg 1) (tCan 2)).dev.nat K.hapCanReqId)) ∧
     (wL [(K.canState 1, 2)] fun x => x.setOct (K.canCfg 1) (tCan 2)).dev.nat (K.canRxFrames 1) < 2 ^ 32 - 1 ∧
     (wL [(K.canState 1, 2)] fun x => x.setOct (K.canCfg 1) (tCan 2)).dev.nat (K.canRxDiscard 1) < 2 ^ 32 - 1) :=
  ⟨by decide +kernel, by decide +kernel, by decide +kernel, by decide +kernel, by decide +kernel, by decide +kernel⟩

theorem witness_CanControllersFollowTheirStates_c :
    (((wL [(K.canState 1, 2)] fun x => x.setOct (K.canCfg 1) (tCan 2)).dev.canActive 1 = false ∨ ¬((CanFmt.xl = CanFmt.xl → (wL [(K.canState 1, 2)] fun x => x.setOct (K.canCfg 1) (tCan 2)).dev.canMode 1 = 3) ∧ (CanFmt.xl = CanFmt.fd → 2 ≤ (wL [(K.canState 1, 2)] fun x => x.setOct (K.canCfg 1) (tCan 2)).dev.canMode 1)))) ∧
    ((wL [(K.canState 1, 2), (K.hapCanMask, 2)] fun x => x.setOct (K.canCfg 1) (tCan 2)).dev.canActive 1 = true ∧
     ((CanFmt.fd = CanFmt.xl → (wL [(K.canState 1, 2), (K.hapCanMask, 2)] fun x => x.setOct (K.canCfg 1) (tCan 2)).dev.canMode 1 = 3) ∧ (CanFmt.fd = CanFmt.fd → 2 ≤ (wL [(K.canState 1, 2), (K.hapCanMask, 2)] fun x => x.setOct (K.canCfg 1) (tCan 2)).dev.canMode 1)) ∧
     ((wL [(K.canState 1, 2), (K.hapCanMask, 2)] fun x => x.setOct (K.canCfg 1) (tCan 2)).dev.canHap 1 = true ∧ CanFmt.fd ≠ CanFmt.cc ∧ 1696 = (wL [(K.canState 1, 2), (K.hapCanMask, 2)] fun x => x.setOct (K.canCfg 1) (tCan 2)).dev.nat K.hapCanReqId) ∧
     (wL [(K.canState 1, 2), (K.hapCanMask, 2)] fun x => x.setOct (K.canCfg 1) (tCan 2)).dev.asleep = false ∧
     (wL [(K.canState 1, 2), (K.hapCanMask, 2)] fun x => x.setOct (K.canCfg 1) (tCan 2)).dev.power.serving = true) ∧
    (w1.writes (tHdr false 2 (K.canCfg 1) (tCan 7)) (K.canCfg 1) (tCan 7) ∧ List.length (tCan 7) = 20 ∧ canCfgBad (tCan 7) = true) ∧
    (let b := tHdr false 2 (K.canCfg 1) (tCan 0)
     let a := w1.asWritten b (K.canCfg 1) (tCan 0)
     w1.writes b (K.canCfg 1) (tCan 0) ∧ List.length (tCan 0) = 20 ∧ canCfgBad (tCan 0) = false ∧
     (¬(fieldNat (tCan 0) 0 1 < 2 ∧ ∃ o, a.foyer.owner = some o ∧ o.transport = 1)) ∧ a.clock.mtRun = true) ∧
    (wCanOwner.writes hCan (K.canCfg 1) (tCan 0) ∧ List.length (tCan 0) = 20 ∧ canCfgBad (tCan 0) = false ∧ fieldNat (tCan 0) 0 1 < 2 ∧
     (wCanOwner.asWritten hCan (K.canCfg 1) (tCan 0)).foyer.owner = some tCanHost ∧ tCanHost.transport = 1) :=
  ⟨by decide +kernel, by decide +kernel, ⟨(tWrites _ _ _ _ (by decide +kernel) (by decide +kernel)), by decide +kernel⟩,
   ⟨(tWrites _ _ _ _ (by decide +kernel) (by decide +kernel)), by decide +kernel⟩, ⟨⟨tCanGrants, by decide +kernel, by decide +kernel⟩,
   by decide +kernel⟩⟩

theorem witness_AdmissionGuaranteesTheBound_a :
    (List.find? (fun q => w1.dev.isRequest q) w1.dev.parl.rx = none) ∧
    (let b := (tRx 1).settle wNoRule.dev
     let a := wNoRule.dev.runTo (ceilDiv b.capPs 800 + min 5 400)
     List.find? (fun q => (List.filter (fun q => wNoRule.dev.isRequest q) wNoRule.dev.parl.rx).all fun x => decide (q.capPs ≤ x.capPs)) (List.filter (fun q => wNoRule.dev.isRequest q) wNoRule.dev.parl.rx) = some (tRx 1) ∧
     ({ a.dueMessages with parl := { a.dueMessages.parl with rx := a.dueMessages.parl.rx.erase (tRx 1) } }.meetError none).recognise b.port b.body = Arrival.request 4 ∧
     ({ a.dueMessages with parl := { a.dueMessages.parl with rx := a.dueMessages.parl.rx.erase (tRx 1) } }.meetError none).ringOf 4 b.port (parseFrame b.body) = none ∧
     wNoRule.dev.nat K.parUnclassified < 2 ^ 32 - 1) ∧
    (let b := (tRx 1).settle (wP 1 [] id).dev
     let a := (wP 1 [] id).dev.runTo (ceilDiv b.capPs 800 + min 500 400)
     List.find? (fun q => (List.filter (fun q => (wP 1 [] id).dev.isRequest q) (wP 1 [] id).dev.parl.rx).all fun x => decide (q.capPs ≤ x.capPs)) (List.filter (fun q => (wP 1 [] id).dev.isRequest q) (wP 1 [] id).dev.parl.rx) = some (tRx 1) ∧
     ({ a.dueMessages with parl := { a.dueMessages.parl with rx := a.dueMessages.parl.rx.erase (tRx 1) } }.meetError none).recognise b.port b.body = Arrival.request 4 ∧
     ({ a.dueMessages with parl := { a.dueMessages.parl with rx := a.dueMessages.parl.rx.erase (tRx 1) } }.meetError none).ringOf 4 b.port (parseFrame b.body) = some 2) ∧
    ((tRx 1).port < 44 ∧ (wP 1 [] id).dev.nat (K.ringRefused 2) < 2 ^ 64 - 1 ∧ (wP 1 [] id).dev.nat (K.ringAdmitted 2) < 2 ^ 64 - 1) ∧
    ((tRx 1).port < 44 ∧ (wP 1 [] pBusy).dev.nat (K.ringRefused 2) < 2 ^ 64 - 1 ∧ (wP 1 [] pBusy).dev.nat (K.ringAdmitted 2) < 2 ^ 64 - 1) ∧
    ((tRx 1).port < 44 ∧ (wP 1 [] pMany).dev.nat (K.ringRefused 2) < 2 ^ 64 - 1 ∧ (wP 1 [] pMany).dev.nat (K.ringAdmitted 2) < 2 ^ 64 - 1) :=
  ⟨by decide +kernel, by decide +kernel, by decide +kernel, by decide +kernel, by decide +kernel, by decide +kernel⟩

theorem witness_AdmissionGuaranteesTheBound_b :
    (let a := wP 1 [(K.ringBound 2, 300)] id
     (tRx 1).port < 44 ∧ a.dev.nat (K.ringRefused 2) < 2 ^ 64 - 1 ∧ a.dev.nat (K.ringAdmitted 2) < 2 ^ 64 - 1) ∧
    (let a := wP 1 [(K.parAdmitStopped, 1)] id
     (tRx 1).port < 44 ∧ a.dev.nat (K.ringRefused 2) < 2 ^ 64 - 1 ∧ a.dev.nat (K.ringAdmitted 2) < 2 ^ 64 - 1 ∧ a.dev.num K.parAdmitStopped = 1) :=
  ⟨by decide +kernel, by decide +kernel⟩

theorem witness_ResponsesLeaveAndAreMeasured_a :
    ((wP 1 [] id).dev.nextResv = none) ∧
    (let b := wPlaced.dev.nat K.parQueue
     let a := wPlaced.dev.runToMt (ceilDiv (tResv 3 8000000).start 1000)
     wPlaced.dev.nextResv = some (tResv 3 8000000) ∧ (wPlaced.dev.port (tResv 3 8000000).port).place = some (tPkt 60 0) ∧
     a.reserveRoom (cellsOf (tResv 3 8000000).frame.body) = true ∧
     a.queueCells (tResv 3 8000000).port b + cellsOf (tResv 3 8000000).frame.body ≤ a.nat (K.qMaxCells (tResv 3 8000000).port b) ∧
     (tResv 3 8000000).port < wPlaced.dev.hall.egress.length ∧
     wPlaced.dev.nat K.parQueue < (wPlaced.dev.egress (tResv 3 8000000).port).queues.length) ∧
    ((wP 1 [] pBusy).dev.nextResv = some (tResv 3 8000000) ∧ (tResv 3 8000000).port < (wP 1 [] pBusy).dev.ports.length ∧
     ((wP 1 [] pBusy).dev.port (tResv 3 8000000).port).place = none ∧
     bit ((wP 1 [] pBusy).dev.nat K.hallLoopMask) (tResv 3 8000000).port = false ∧
     ((wP 1 [] pBusy).dev.runToMt (ceilDiv (tResv 3 8000000).start 1000)).reserveRoom (cellsOf (tResv 3 8000000).frame.body) = true) ∧
    ((wP 1 [] pBusy).dev.nextResv = some (tResv 3 8000000) ∧ (tResv 3 8000000).frame.tag = Tag.entry 3 ∧
     fatalErr (some { bank := 3, fatal := true }) = true ∧ (tFlight 3).ring < 64 ∧
     List.find? (fun x => decide (x.id = 3)) (wP 1 [] pBusy).dev.parl.flights = some (tFlight 3) ∧
     (wP 1 [] pBusy).dev.nat (K.ringIntegrityLoss (tFlight 3).ring) < 2 ^ 32 - 1) ∧
    ((wP 1 [] pBusy).dev.parl.returned = []) ∧
    (let a := wP 1 [] (pBack2 3001 (List.replicate 8 0) 0)
     a.dev.parl.returned = [(Tag.entry 3, List.replicate 8 0, 5 * ((sec16 : Nat) : Int) + 3001 * 65536, 0), (Tag.entry 4, List.replicate 8 0, 5 * ((sec16 : Nat) : Int), 0)] ∧
     List.find? (fun x => decide (x.id = 3)) a.dev.parl.flights = some (tFlight 3) ∧ (tFlight 3).ring < 64 ∧
     a.dev.nat (K.ringObsCount (tFlight 3).ring) < 2 ^ 64 - 1 ∧ a.dev.nat (K.ringMisses (tFlight 3).ring) < 2 ^ 32 - 1 ∧
     a.dev.nat (K.ringStepSpanned (tFlight 3).ring) < 2 ^ 32 - 1 ∧ (tFlight 3).steps = 0 ∧ wordInvalid (List.replicate 8 0) = false ∧
     ↑(tFlight 3).bound < (5 * ((sec16 : Nat) : Int) + 3001 * 65536 - (tFlight 3).end16) / 65536) :=
  ⟨by decide +kernel, by decide +kernel, by decide +kernel, by decide +kernel, by decide +kernel, by decide +kernel⟩

theorem witness_ResponsesLeaveAndAreMeasured_b :
    (let a := wP 1 [] (pBack2 3000 (List.replicate 8 0) 0)
     a.dev.parl.returned = [(Tag.entry 3, List.replicate 8 0, 5 * ((sec16 : Nat) : Int) + 3000 * 65536, 0), (Tag.entry 4, List.replicate 8 0, 5 * ((sec16 : Nat) : Int), 0)] ∧
     List.find? (fun x => decide (x.id = 3)) a.dev.parl.flights = some (tFlight 3) ∧ (tFlight 3).ring < 64 ∧
     a.dev.nat (K.ringObsCount (tFlight 3).ring) < 2 ^ 64 - 1 ∧ a.dev.nat (K.ringMisses (tFlight 3).ring) < 2 ^ 32 - 1 ∧
     a.dev.nat (K.ringStepSpanned (tFlight 3).ring) < 2 ^ 32 - 1 ∧ (tFlight 3).steps = 0 ∧ wordInvalid (List.replicate 8 0) = false) ∧
    (let a := wP 1 [] (pBack2 3000 (List.replicate 8 0) 1)
     a.dev.parl.returned = [(Tag.entry 3, List.replicate 8 0, 5 * ((sec16 : Nat) : Int) + 3000 * 65536, 1), (Tag.entry 4, List.replicate 8 0, 5 * ((sec16 : Nat) : Int), 0)] ∧
     List.find? (fun x => decide (x.id = 3)) a.dev.parl.flights = some (tFlight 3) ∧ (tFlight 3).ring < 64 ∧
     a.dev.nat (K.ringObsCount (tFlight 3).ring) < 2 ^ 64 - 1 ∧ a.dev.nat (K.ringMisses (tFlight 3).ring) < 2 ^ 32 - 1 ∧
     a.dev.nat (K.ringStepSpanned (tFlight 3).ring) < 2 ^ 32 - 1 ∧ (tFlight 3).steps ≠ 1 ∧
     ((tFlight 3).steps ≠ 1 ∨ wordInvalid (List.replicate 8 0) = true)) ∧
    (let a := wP 1 [] (pBack2 3000 (List.replicate 8 255) 0)
     a.dev.parl.returned = [(Tag.entry 3, List.replicate 8 255, 5 * ((sec16 : Nat) : Int) + 3000 * 65536, 0), (Tag.entry 4, List.replicate 8 255, 5 * ((sec16 : Nat) : Int), 0)] ∧
     List.find? (fun x => decide (x.id = 3)) a.dev.parl.flights = some (tFlight 3) ∧ (tFlight 3).ring < 64 ∧
     a.dev.nat (K.ringObsCount (tFlight 3).ring) < 2 ^ 64 - 1 ∧ a.dev.nat (K.ringMisses (tFlight 3).ring) < 2 ^ 32 - 1 ∧
     a.dev.nat (K.ringStepSpanned (tFlight 3).ring) < 2 ^ 32 - 1 ∧ (tFlight 3).steps = 0 ∧
     ((tFlight 3).steps ≠ 0 ∨ wordInvalid (List.replicate 8 255) = true)) ∧
    ((wP 1 [] pBusy).writes (tHdr false 2 (K.ringObsClear 2) [1]) (K.ringObsClear 2) [1]) ∧
    (let a := tClient none (tRecords 9 [1])
     keRecords (List.length a.records + 1) a.records = some [(true, 9, [1])] ∧ (∃ r ∈ [(true, 9, [1])], r.1 = true ∧ 7 < r.2.1)) ∧
    ((w1.dev.num K.ntskeEnable ≠ 1 ∨ w1.dev.num K.parAdmitStopped = 1)) :=
  ⟨by decide +kernel, by decide +kernel, by decide +kernel, (tWrites _ _ _ _ (by decide +kernel) (by decide +kernel)), by decide +kernel,
   by decide +kernel⟩

theorem witness_ResponsesLeaveAndAreMeasured_c :
    ((wKe [] 64).dev.num K.ntskeEnable = 1 ∧ (wKe [] 64).dev.num K.parAdmitStopped ≠ 1 ∧
     (wKe [] 64).dev.nat K.ntskeMaxConn ≤ (wKe [] 64).dev.parl.conns.length ∧ (wKe [] 64).dev.nat K.ntskeFailed < 2 ^ 32 - 1) ∧
    (5 = (wKe [] 2).dev.nat K.ntskeKeySlot ∧ (wKe [] 2).dev.num K.ntskeEnable = 1 ∧ (wKe [] 2).dev.num K.parAdmitStopped ≠ 1 ∧
     (wKe [] 2).dev.parl.conns.length < (wKe [] 2).dev.nat K.ntskeMaxConn ∧ (wKe [] 2).dev.nat (K.ksState 5) = 2 ∧
     (wKe [] 2).dev.nat (K.ksUse 5) = 2 ∧ fieldNat ((wKe [] 2).dev.oct K.studyCoreState) 1 1 = 0 ∧ (wKe [] 2).dev.nat (K.ksState 60) = 2 ∧
     (wKe [] 2).dev.nat K.khEntropyState = 1 ∧ (wKe [] 2).dev.nat K.ntskeDone < 2 ^ 32 - 1 ∧ (wKe [] 2).dev.nat K.ntskeFailed < 2 ^ 32 - 1) ∧
    (5 = (wKe [] 2).dev.nat K.ntskeKeySlot ∧ (wKe [] 2).dev.num K.ntskeEnable = 1 ∧ (wKe [] 2).dev.num K.parAdmitStopped ≠ 1 ∧
     (wKe [] 2).dev.parl.conns.length < (wKe [] 2).dev.nat K.ntskeMaxConn ∧ (wKe [] 2).dev.nat (K.ksState 5) = 2 ∧
     (wKe [] 2).dev.nat (K.ksUse 5) = 2 ∧ fieldNat ((wKe [] 2).dev.oct K.studyCoreState) 1 1 = 0 ∧ (wKe [] 2).dev.nat (K.ksState 60) = 2 ∧
     (wKe [] 2).dev.nat K.khEntropyState = 1 ∧ (wKe [] 2).dev.nat K.ntskeDone < 2 ^ 32 - 1 ∧ (wKe [] 2).dev.nat K.ntskeFailed < 2 ^ 32 - 1 ∧
     tlsFailure (tClient none tAsk) = none) ∧
    (w1.dev.parl.conns = []) ∧
    ((wKe [] 2).dev.parl.conns = [(0, 5000), (1, 5001)] ∧ (wKe [] 2).dev.nat K.ntskeFailed < 2 ^ 32 - 1) :=
  ⟨by decide +kernel, by decide +kernel, by decide +kernel, by decide +kernel, by decide +kernel⟩

theorem witness_InstancesScheduleAndTimeOut_a :
    (wStop.dev.clock.mtRun = false) ∧
    (let b := wI 6 [(K.instLogSync 5, 0)] (iPort id) []
     let a := b.dev.ptpPort 5 20
     b.dev.ptp.length = 8 ∧ (b.dev.inst 5).ports.length = 44 ∧ b.dev.clock.mtRun = true ∧ 0 = a.asked.2.1.getD (b.dev.num (K.instLogSync 5)) ∧
     (wI 6 [] (iPort id) []).dev.nextInstant 20 0 (4 * 10 ^ 9 * nsU) = b.dev.nextInstant 20 0 a.syncAt ∧ a.syncAt ≤ b.dev.clock.mt ∧
     b.dev.ptpState 5 20 = 6 ∧ b.dev.instOn 5 = true ∧ b.dev.originating = true ∧ b.dev.num (K.instRelay 5) = 0 ∧ b.dev.gptp 5 = false) ∧
    (let b := wI 8 [(K.instLogSync 5, -3)] (iPort id) []
     let a := b.dev.ptpPort 5 20
     b.dev.ptp.length = 8 ∧ (b.dev.inst 5).ports.length = 44 ∧ b.dev.clock.mtRun = true ∧ -3 = a.asked.2.1.getD (b.dev.num (K.instLogSync 5)) ∧
     (wI 6 [] (iPort id) []).dev.nextInstant 20 (-3) (4 * 10 ^ 9 * nsU) = b.dev.nextInstant 20 (-3) a.syncAt ∧ a.syncAt ≤ b.dev.clock.mt ∧
     b.dev.ptpState 5 20 ≠ 6) ∧
    (let b := wI 6 [] (iPort id) []
     let a := b.dev.ptpPort 5 20
     b.dev.ptp.length = 8 ∧ (b.dev.inst 5).ports.length = 44 ∧ b.dev.clock.mtRun = true ∧
     -3 = a.asked.2.2.getD (b.dev.num (K.instLogAnnounce 5)) ∧ b.dev.nextInstant 20 (-3) 0 = b.dev.nextInstant 20 (-3) a.annAt ∧
     a.annAt ≤ b.dev.clock.mt ∧ b.dev.ptpState 5 20 = 6 ∧ b.dev.instOn 5 = true ∧ b.dev.originating = true ∧ b.dev.profile 5 ≠ 3) ∧
    (let b := wI 8 [] (iPort id) []
     let a := b.dev.ptpPort 5 20
     b.dev.ptp.length = 8 ∧ (b.dev.inst 5).ports.length = 44 ∧ b.dev.clock.mtRun = true ∧
     -3 = a.asked.2.2.getD (b.dev.num (K.instLogAnnounce 5)) ∧
     (wI 6 [] (iPort id) []).dev.nextInstant 20 (-3) 0 = b.dev.nextInstant 20 (-3) a.annAt ∧ a.annAt ≤ b.dev.clock.mt ∧
     (b.dev.ptpState 5 20 ≠ 6 ∨ b.dev.profile 5 = 3)) ∧
    (let a := wI 8 [] (iPort id) []
     a.dev.ptp.length = 8 ∧ (a.dev.inst 5).ports.length = 44 ∧ a.dev.clock.mtRun = true ∧ a.dev.peerDelay 5 = false ∧ a.dev.instOn 5 = true ∧
     a.dev.originating = true ∧ (a.dev.ptpState 5 20 = 8 ∨ a.dev.ptpState 5 20 = 9)) :=
  ⟨by decide +kernel, by decide +kernel, by decide +kernel, by decide +kernel, by decide +kernel, by decide +kernel⟩

theorem witness_InstancesScheduleAndTimeOut_b :
    (let a := wI 9 [] (iPort id) []
     a.dev.ptp.length = 8 ∧ (a.dev.inst 5).ports.length = 44 ∧ a.dev.clock.mtRun = true ∧ a.dev.peerDelay 5 = false ∧ a.dev.instOn 5 = true ∧
     a.dev.originating = true ∧ (a.dev.ptpState 5 20 = 8 ∨ a.dev.ptpState 5 20 = 9)) ∧
    ((wI 9 [] (iPort id) []).dev.nat (K.instRole 5) ≠ 2) ∧
    (let c := tPtp 11 0 0 0 5 0 (tAnnounce 0)
     let b := wI 4 [(K.instRole 5, 2), (K.domState 5, 0)] (iPort uForeign) []
     let a := b.dev.ownData 5
     b.dev.better 5 { (announceOf (ptpMsg (List.drop 14 c.body))) with priority1 := 1 } a = true ∧ b.dev.nat (K.instRole 5) = 2 ∧
     b.dev.instOn 5 = true ∧ b.dev.originating = true ∧ fieldNat (b.dev.oct K.studyCoreState) 2 1 = 0 ∧
     List.filter (fun p => b.dev.inMask 5 p && decide (4 ≤ b.dev.ptpState 5 p)) (List.range 44) = [20] ∧ 128 ≤ a.cls ∧
     b.dev.ebest 5 = some ({ (announceOf (ptpMsg (List.drop 14 c.body))) with priority1 := 1 }, 20) ∧
     Option.map (fun x => x.sender) (b.dev.inst 5).parent ≠ some { (announceOf (ptpMsg (List.drop 14 c.body))) with priority1 := 1 }.sender) ∧
    (let a := wI 8 [(K.instRole 5, 2), (K.domState 5, 0)] (iPort id) []
     a.dev.nat (K.instRole 5) = 2 ∧ a.dev.instOn 5 = true ∧ a.dev.originating = true ∧ fieldNat (a.dev.oct K.studyCoreState) 2 1 = 0 ∧
     List.filter (fun p => a.dev.inMask 5 p && decide (4 ≤ a.dev.ptpState 5 p)) (List.range 44) = [20] ∧ 128 ≤ (a.dev.ownData 5).cls ∧
     a.dev.ebest 5 = none ∧ (a.dev.ptpState 5 20 ≠ 4 ∨ (a.dev.ptpPort 5 20).annRun = true) ∧ (a.dev.inst 5).parent = none) ∧
    (let a := wI 5 [] (iPort uQual) []
     List.length (a.dev.oct (K.instPortState 5)) = 44 ∧ (a.dev.ptpPort 5 20).qualDue = some 9000 ∧ a.dev.ptpState 5 20 = 5) ∧
    (let a := wI 6 [] (iPort uQual) []
     List.length (a.dev.oct (K.instPortState 5)) = 44 ∧ (a.dev.ptpPort 5 20).qualDue = some 9000 ∧ a.dev.ptpState 5 20 ≠ 5) :=
  ⟨by decide +kernel, by decide +kernel, ⟨tBetter, by decide +kernel⟩, by decide +kernel, by decide +kernel, by decide +kernel⟩

theorem witness_InstancesScheduleAndTimeOut_c :
    (let a := wI 9 [] (iPort uQual) []
     a.dev.instOn 5 = true ∧ a.dev.profile 5 ≠ 3 ∧ (a.dev.ptpPort 5 20).annRun = false ∧
     (a.dev.ptpState 5 20 = 4 ∨ a.dev.ptpState 5 20 = 8 ∨ a.dev.ptpState 5 20 = 9) ∧ a.dev.nat (K.instAnnTimeouts 5) < 2 ^ 32 - 1) ∧
    (let a := wI 9 [] (iPort uQual) []
     a.dev.instOn 5 = true ∧ a.dev.ptpState 5 20 = 9 ∧ (a.dev.ptpPort 5 20).syncRun = false ∧ a.dev.nat (K.instSyncTimeouts 5) < 2 ^ 32 - 1) ∧
    (let a := wI 9 [] (iPort fun u => { u with syncRun := true }) []
     a.dev.instOn 5 = true ∧ (a.dev.ptpState 5 20 ≠ 9 ∨ (a.dev.ptpPort 5 20).syncRun = true)) ∧
    (let a := wI 9 [] (iPort uQual) []
     List.length (a.dev.oct (K.instPortState 5)) = 44 ∧ a.dev.ptp.length = 8 ∧ (a.dev.inst 5).ports.length = 44 ∧ a.dev.nat (K.instRole 5) = 1) ∧
    (let a := wI 9 [(K.instRole 5, 2)] (iPort uQual) []
     List.length (a.dev.oct (K.instPortState 5)) = 44 ∧ a.dev.ptp.length = 8 ∧ (a.dev.inst 5).ports.length = 44 ∧ a.dev.nat (K.instRole 5) = 2 ∧
     fieldNat (a.dev.oct K.studyCoreState) 2 1 = 0 ∧ (a.dev.ptpState 5 20 = 8 ∨ a.dev.ptpState 5 20 = 9)) ∧
    (let a := (wI 9 [(K.instRole 5, 2)] (iPort uQual) []).dev.setOct K.studyCoreState [0, 0, 1, 0]
     List.length (a.oct (K.instPortState 5)) = 44 ∧ a.ptp.length = 8 ∧ (a.inst 5).ports.length = 44 ∧ a.nat (K.instRole 5) = 2 ∧
     fieldNat (a.oct K.studyCoreState) 2 1 ≠ 0) :=
  ⟨by decide +kernel, by decide +kernel, by decide +kernel, by decide +kernel, by decide +kernel, by decide +kernel⟩

theorem witness_InstancesScheduleAndTimeOut_d :
    (let a := wI 9 [(K.instProfile 5, 1)] (iPort (uLost 2)) []
     a.dev.ptp.length = 8 ∧ (a.dev.inst 5).ports.length = 44 ∧ (a.dev.ptpPort 5 20).lost < a.dev.nat (K.instLostResp 5)) ∧
    (let a := wI 9 [(K.instProfile 5, 1), (K.instAscapable 5, 2 ^ 20 + 2 ^ 7)] (iPort (uLost 3)) []
     a.dev.ptp.length = 8 ∧ (a.dev.inst 5).ports.length = 44 ∧ a.dev.nat (K.instLostResp 5) ≤ (a.dev.ptpPort 5 20).lost ∧
     a.dev.peerDelay 5 = true) ∧
    (w1.dev.ptp.length = 8 ∧ (w1.dev.freeFollows 5 = false ∨ w1.dev.nat (K.domState 5) ≠ 4 ∧ w1.dev.nat (K.domState 5) ≠ 5)) ∧
    (let b := wI 8 [(K.domState 5, 4), (K.instFreeHoLimit 5, 60), (K.instFreeHoRate 5, 100000)] iSamp []
     let a := b.dev.inst 5
     b.dev.ptp.length = 8 ∧ b.dev.freeFollows 5 = true ∧ (b.dev.nat (K.domState 5) = 4 ∨ b.dev.nat (K.domState 5) = 5) ∧
     150 = min 4294967295 (a.boundBase + b.dev.nat (K.instFreeHoRate 5) * ((b.dev.runTo (a.boundAt + msTicks)).clock.ticks - a.boundSince) / sTicks) ∧
     b.dev.nat (K.domState 5) = 4 ∧ b.dev.nat (K.instFreeHoLimit 5) < 150) ∧
    (let b := wI 8 [(K.domState 5, 4), (K.instFreeHoLimit 5, 600), (K.instFreeHoRate 5, 100000)] iSamp []
     let a := b.dev.inst 5
     b.dev.ptp.length = 8 ∧ b.dev.freeFollows 5 = true ∧ (b.dev.nat (K.domState 5) = 4 ∨ b.dev.nat (K.domState 5) = 5) ∧
     150 = min 4294967295 (a.boundBase + b.dev.nat (K.instFreeHoRate 5) * ((b.dev.runTo (a.boundAt + msTicks)).clock.ticks - a.boundSince) / sTicks) ∧
     (b.dev.nat (K.domState 5) = 5 ∨ 150 ≤ b.dev.nat (K.instFreeHoLimit 5)) ∧ b.dev.nat (K.domState 5) = 4) ∧
    (let b := wI 8 [(K.domState 5, 5), (K.instFreeHoLimit 5, 60), (K.instFreeHoRate 5, 100000)] iSamp []
     let a := b.dev.inst 5
     b.dev.ptp.length = 8 ∧ b.dev.freeFollows 5 = true ∧ (b.dev.nat (K.domState 5) = 4 ∨ b.dev.nat (K.domState 5) = 5) ∧
     150 = min 4294967295 (a.boundBase + b.dev.nat (K.instFreeHoRate 5) * ((b.dev.runTo (a.boundAt + msTicks)).clock.ticks - a.boundSince) / sTicks) ∧
     (b.dev.nat (K.domState 5) = 5 ∨ 150 ≤ b.dev.nat (K.instFreeHoLimit 5))) :=
  ⟨by decide +kernel, by decide +kernel, by decide +kernel, by decide +kernel, by decide +kernel, by decide +kernel⟩

theorem witness_ReceivedMessagesMeasureTheTransmitter_a :
    (w1.dev.takePtp [0] = none) ∧
    (let a := (tTook [0] sSync).2.2.2.inst 5
     sSync.dev.takePtp [0] = some ((tTook [0] sSync).1, 5, (tTook [0] sSync).2.2.1, (tTook [0] sSync).2.2.2) ∧ (tTook [0] sSync).1.port < 44 ∧
     (tTook [0] sSync).2.2.2.ptp.length = 8 ∧ a.ports.length = 44 ∧
     ((tTook [0] sSync).2.2.2.ptpState 5 (tTook [0] sSync).1.port = 8 ∨ (tTook [0] sSync).2.2.2.ptpState 5 (tTook [0] sSync).1.port = 9) ∧
     (tTook [0] sSync).2.2.2.gptp 5 = false ∧ (tTook [0] sSync).2.2.2.nat (K.instRole 5) = 1 ∧ a.stepDue = none ∧
     bit (fieldNat (tTook [0] sSync).1.stamp 7 1) 4 = false ∧ a.samples ≠ [] ∧ a.delaySteps = (tTook [0] sSync).2.2.2.nat K.mtStepCount ∧
     (4 ≤ 5 ∨ (tTook [0] sSync).2.2.2.ptpState 5 (tTook [0] sSync).1.port = 8 ∨ ((tTook [0] sSync).2.2.2.cand (5 + 5)).src = true) ∧
     bit (tTook [0] sSync).2.2.1.flags 9 = false) ∧
    (let a := (tTook [0] sSync2).2.2.2.inst 5
     sSync2.dev.takePtp [0] = some ((tTook [0] sSync2).1, 5, (tTook [0] sSync2).2.2.1, (tTook [0] sSync2).2.2.2) ∧
     (tTook [0] sSync2).1.port < 44 ∧ (tTook [0] sSync2).2.2.2.ptp.length = 8 ∧ a.ports.length = 44 ∧
     ((tTook [0] sSync2).2.2.2.ptpState 5 (tTook [0] sSync2).1.port = 8 ∨ (tTook [0] sSync2).2.2.2.ptpState 5 (tTook [0] sSync2).1.port = 9) ∧
     (tTook [0] sSync2).2.2.2.gptp 5 = false ∧ (tTook [0] sSync2).2.2.2.nat (K.instRole 5) = 1 ∧ a.stepDue = none ∧
     bit (fieldNat (tTook [0] sSync2).1.stamp 7 1) 4 = false ∧ a.samples ≠ [] ∧ a.delaySteps = (tTook [0] sSync2).2.2.2.nat K.mtStepCount ∧
     (4 ≤ 5 ∨ (tTook [0] sSync2).2.2.2.ptpState 5 (tTook [0] sSync2).1.port = 8 ∨ ((tTook [0] sSync2).2.2.2.cand (5 + 5)).src = true) ∧
     bit (tTook [0] sSync2).2.2.1.flags 9 = true) ∧
    (tW.good = true ∧ (wI 8 [] iSamp []).dev.ptp.length = 8 ∧ List.length ((wI 8 [] iSamp []).dev.oct (K.instPortState 5)) = 44 ∧
     ((wI 8 [] iSamp []).dev.inst 5).samples ≠ [] ∧ (wI 8 [] iSamp []).dev.freeFollows 5 = true ∧
     (¬(wI 8 [] iSamp []).dev.nat (K.instStepThresh 5) * 65536 < (tW.dom16 - 5 * ((sec16 : Nat) : Int) - ((wI 8 [] iSamp []).dev.num (K.instMeanDelay 5) + (wI 8 [] iSamp []).dev.asymmetry 5 20)).natAbs)) ∧
    (let a := wI 8 [(K.domState 5, 0), (K.instStepThresh 5, 5)] iSamp []
     tW.good = true ∧ a.dev.ptp.length = 8 ∧ List.length (a.dev.oct (K.instPortState 5)) = 44 ∧ (a.dev.inst 5).samples ≠ [] ∧
     a.dev.freeFollows 5 = true ∧
     a.dev.nat (K.instStepThresh 5) * 65536 < (tW.dom16 - 5 * ((sec16 : Nat) : Int) - (a.dev.num (K.instMeanDelay 5) + a.dev.asymmetry 5 20)).natAbs) ∧
    (let c := tTook [8] (sFup 6 8)
     let b := c.2.2.2.inst 5
     let a := b.sync.getD tW
     (sFup 6 8).dev.takePtp [8] = some (c.1, 5, c.2.2.1, c.2.2.2) ∧ c.2.2.2.ptp.length = 8 ∧ b.sync = some a ∧
     (a.sender ≠ c.2.2.1.source ∨ a.seq ≠ c.2.2.1.seq)) :=
  ⟨by rfl, ⟨(by rfl), by decide +kernel⟩, ⟨(by rfl), by decide +kernel⟩, by decide +kernel, by decide +kernel, ⟨(by rfl), by decide +kernel⟩⟩

theorem witness_ReceivedMessagesMeasureTheTransmitter_b :
    (let c := tTook [8] (sFup 5 8)
     let b := c.2.2.2.inst 5
     let a := b.sync.getD tW
     (sFup 5 8).dev.takePtp [8] = some (c.1, 5, c.2.2.1, c.2.2.2) ∧ c.2.2.2.ptp.length = 8 ∧ b.sync = some a ∧ a.sender = c.2.2.1.source ∧
     a.seq = c.2.2.1.seq ∧ (c.2.2.2.ptpState 5 c.1.port = 8 ∨ c.2.2.2.ptpState 5 c.1.port = 9)) ∧
    ((wI 8 [] iSamp []).dev.ptp.length = 8) ∧
    (let a := wI 8 [(K.instDelayFilter 5, 8)] iSamp []
     a.dev.ptp.length = 8 ∧ 0 < a.dev.nat (K.instDelayFilter 5)) ∧
    (let a := wI 8 [(K.instDelayFilter 5, 1)] iSamp []
     a.dev.ptp.length = 8 ∧ 0 < a.dev.nat (K.instDelayFilter 5)) ∧
    (let a := (tTook [9] sDr).2.2.2.inst 5
     sDr.dev.takePtp [9] = some ((tTook [9] sDr).1, 5, (tTook [9] sDr).2.2.1, (tTook [9] sDr).2.2.2) ∧
     field (tTook [9] sDr).2.2.1.body 10 10 = portIdentity 5 (tTook [9] sDr).1.port ∧ (tTook [9] sDr).1.port < 44 ∧
     (tTook [9] sDr).2.2.2.ptp.length = 8 ∧ a.ports.length = 44 ∧
     ((tTook [9] sDr).2.2.2.ptpPort 5 (tTook [9] sDr).1.port).delayOut = some ((tTook [9] sDr).2.2.1.seq, some (5 * ((sec16 : Nat) : Int) - 20000000, 0)) ∧
     a.lastSync = some (4 * ((sec16 : Nat) : Int) + 9, 4 * ((sec16 : Nat) : Int)) ∧ (tTook [9] sDr).2.2.2.peerDelay 5 = false ∧
     0 = (tTook [9] sDr).2.2.2.nat K.mtStepCount) ∧
    (let a := tTook [3, 10] (sPd 1 0)
     (sPd 1 0).dev.takePtp [3, 10] = some (a.1, 5, a.2.2.1, a.2.2.2) ∧ field a.2.2.1.body 10 10 = portIdentity 5 a.1.port ∧ a.1.port < 44 ∧
     a.2.2.2.ptp.length = 8 ∧ (a.2.2.2.inst 5).ports.length = 44 ∧
     (a.2.2.2.ptpPort 5 a.1.port).delayOut = some (a.2.2.1.seq, some (5 * ((sec16 : Nat) : Int) - 20000000, 0)) ∧ a.2.2.1.kind = 3 ∧
     bit a.2.2.1.flags 9 = false ∧ 0 = a.2.2.2.nat K.mtStepCount) :=
  ⟨⟨(by rfl), by decide +kernel⟩, by decide +kernel, by decide +kernel, by decide +kernel, ⟨(by rfl), (by rfl), by decide +kernel⟩, ⟨(by rfl),
   (by rfl), by decide +kernel⟩⟩

theorem witness_ReceivedMessagesMeasureTheTransmitter_c :
    (let a := tTook [3, 10] (sPd 0 512)
     (sPd 0 512).dev.takePtp [3, 10] = some (a.1, 5, a.2.2.1, a.2.2.2) ∧ field a.2.2.1.body 10 10 = portIdentity 5 a.1.port ∧ a.1.port < 44 ∧
     a.2.2.2.ptp.length = 8 ∧ (a.2.2.2.inst 5).ports.length = 44 ∧
     (a.2.2.2.ptpPort 5 a.1.port).delayOut = some (a.2.2.1.seq, some (5 * ((sec16 : Nat) : Int) - 20000000, 0)) ∧ a.2.2.1.kind = 3 ∧
     bit a.2.2.1.flags 9 = true) ∧
    (sAnn.dev.takePtp [11] = some ((tTook [11] sAnn).1, 5, (tTook [11] sAnn).2.2.1, (tTook [11] sAnn).2.2.2) ∧ (tTook [11] sAnn).1.port < 44 ∧
     (tTook [11] sAnn).2.2.2.ptp.length = 8 ∧ ((tTook [11] sAnn).2.2.2.inst 5).ports.length = 44 ∧
     (tTook [11] sAnn).2.2.2.nat (K.instRole 5) = 1 ∧ (tTook [11] sAnn).1.port = (tTook [11] sAnn).2.2.2.nat (K.instRxPort 5) ∧
     4 ≤ (tTook [11] sAnn).2.2.2.ptpState 5 (tTook [11] sAnn).1.port ∧ (announceOf (tTook [11] sAnn).2.2.1).steps < 255) ∧
    (let b := tTook [12] (sSig 253)
     let a := b.2.2.1.intervalRequest.getD []
     (sSig 253).dev.takePtp [12] = some (b.1, 5, b.2.2.1, b.2.2.2) ∧ b.1.port < 44 ∧ b.2.2.2.ptp.length = 8 ∧
     (b.2.2.2.inst 5).ports.length = 44 ∧ b.2.2.1.intervalRequest = some a ∧ -3 = toSigned 1 (fieldNat a 7 1)) ∧
    (let b := tTook [12] (sSig 127)
     let a := b.2.2.1.intervalRequest.getD []
     (sSig 127).dev.takePtp [12] = some (b.1, 5, b.2.2.1, b.2.2.2) ∧ b.1.port < 44 ∧ b.2.2.2.ptp.length = 8 ∧
     (b.2.2.2.inst 5).ports.length = 44 ∧ b.2.2.1.intervalRequest = some a ∧ 127 = toSigned 1 (fieldNat a 7 1)) :=
  ⟨⟨(by rfl), (by rfl), by decide +kernel⟩, ⟨(by rfl), by decide +kernel⟩, ⟨(by rfl), by decide +kernel⟩, ⟨(by rfl), by decide +kernel⟩⟩

theorem witness_LedgerBatchesFollowTheirStates_a :
    (let a := wB [tBatch 4 0 0 id] []
     (a.dev.ledger.begun = true ∨ a.dev.clock.mtRun = false ∨ a.dev.num K.parAdmitStopped = 1)) ∧
    ((wB [] []).dev.ledger.begun = false ∧ (wB [] []).dev.clock.mtRun = true ∧ (wB [] []).dev.num K.parAdmitStopped ≠ 1) ∧
    ((wB [] []).dev.filling = none) ∧
    (let a := wB [tBatch 3 4 1 id, tBatch 4 0 0 id] []
     a.dev.filling = some (tBatch 4 0 0 id) ∧ (a.dev.num K.parAdmitStopped ≠ 1 ∨ a.dev.ledger.ahead ≠ [])) ∧
    (let a := wB [tBatch 3 4 1 id, tBatch 4 0 3 id] []
     a.dev.filling = some (tBatch 4 0 3 id) ∧ (tBatch 4 0 3 id).leaves ≠ [] ∧ (a.dev.num K.parAdmitStopped ≠ 1 ∨ a.dev.ledger.ahead ≠ [])) ∧
    (let a := wB [tBatch 3 4 1 id, tBatch 4 0 3 id] [(K.parAdmitStopped, 1)]
     a.dev.filling = some (tBatch 4 0 3 id) ∧ (tBatch 4 0 3 id).leaves ≠ [] ∧ a.dev.num K.parAdmitStopped = 1 ∧ a.dev.ledger.ahead = []) :=
  ⟨by decide +kernel, by decide +kernel, by decide +kernel, by decide +kernel, by decide +kernel, by decide +kernel⟩

theorem witness_LedgerBatchesFollowTheirStates_b :
    ((wB [] []).dev.sealing = none) ∧
    (let a := wB [tBatch 4 1 3 id, tBatch 5 0 2 id] []
     a.dev.sealing = some (tBatch 4 1 3 id) ∧ (tBatch 4 1 3 id).state = 1 ∧ (tBatch 4 1 3 id).lanes ≠ none ∧ a.dev.ledger.low < 2 ^ 32) ∧
    (let a := wB [tBatch 4 2 3 id, tBatch 5 0 2 id] []
     a.dev.sealing = some (tBatch 4 2 3 id) ∧ a.dev.batch (tBatch 4 2 3 id).id = some (tBatch 4 2 3 id) ∧ (tBatch 4 2 3 id).state = 2 ∧
     (tBatch 4 2 3 id).lanes = some (1, 2) ∧ a.dev.ledgerKeyOk (tBatch 4 2 3 id).keySlot (tBatch 4 2 3 id).sig = true ∧
     a.dev.nat K.khEntropyState = 1 ∧ ((tBatch 4 2 3 id).started = true ∨ (a.dev.lane 1).stack = []) ∧
     a.dev.clock.ticks ≤ (tBatch 4 2 3 id).jobDeadline ∧ (tBatch 4 2 3 id).sig = 1) ∧
    (let b := tBatch 4 2 3 bStarted
     let a := wB [tBatch 4 2 3 bStarted, tBatch 5 0 2 id] []
     a.dev.sealing = some b ∧ a.dev.batch b.id = some b ∧ b.state = 2 ∧ b.lanes = some (1, 2) ∧ a.dev.ledgerKeyOk b.keySlot b.sig = true ∧
     a.dev.nat K.khEntropyState = 1 ∧ (b.started = true ∨ (a.dev.lane 1).stack = []) ∧ a.dev.clock.ticks ≤ b.jobDeadline ∧ b.sig = 1) ∧
    (let a := tBatch 4 2 3 bStarted
     (wTardy 2 3).dev.sealing = some a ∧ (wTardy 2 3).dev.batch a.id = some a ∧ a.state = 2 ∧ a.lanes = some (1, 2) ∧
     (wTardy 2 3).dev.ledgerKeyOk a.keySlot a.sig = true ∧ (wTardy 2 3).dev.nat K.khEntropyState = 1 ∧ a.started = true ∧
     a.jobDeadline < (wTardy 2 3).dev.clock.ticks) ∧
    (let a := wB [tBatch 4 2 3 id, tBatch 5 0 2 id] [(K.khEntropyState, 2)]
     a.dev.sealing = some (tBatch 4 2 3 id) ∧ a.dev.batch (tBatch 4 2 3 id).id = some (tBatch 4 2 3 id) ∧ (tBatch 4 2 3 id).state = 2 ∧
     (tBatch 4 2 3 id).lanes = some (1, 2) ∧ a.dev.ledgerKeyOk (tBatch 4 2 3 id).keySlot (tBatch 4 2 3 id).sig = true ∧
     a.dev.nat K.khEntropyState ≠ 1) :=
  ⟨by decide +kernel, by decide +kernel, by decide +kernel, by decide +kernel, by decide +kernel, by decide +kernel⟩

theorem witness_LedgerBatchesFollowTheirStates_c :
    (let a := wB [tBatch 4 2 3 id, tBatch 5 0 2 id] [(K.ksUse 5, 2)]
     a.dev.sealing = some (tBatch 4 2 3 id) ∧ a.dev.batch (tBatch 4 2 3 id).id = some (tBatch 4 2 3 id) ∧ (tBatch 4 2 3 id).state = 2 ∧
     (tBatch 4 2 3 id).lanes = some (1, 2) ∧ a.dev.ledgerKeyOk (tBatch 4 2 3 id).keySlot (tBatch 4 2 3 id).sig = false) ∧
    (let b := tBatch 4 3 2 bStarted
     let a := wB [tBatch 4 3 2 bStarted] []
     a.dev.sealing = some b ∧ b.state = 3 ∧ b.lanes = some (1, 2) ∧ a.dev.clock.ticks ≤ b.jobDeadline ∧
     (false = false ∨ ((a.dev.runTo (min (a.dev.clock.ticks + 5) (b.ends + (5 * (b.delay - 2000) + 3) / 4))).unbook 2).ledgerVerify b = false)) ∧
    (let a := tBatch 4 3 2 bStarted
     (wTardy 3 2).dev.sealing = some a ∧ a.state = 3 ∧ a.lanes = some (1, 2) ∧ a.jobDeadline < (wTardy 3 2).dev.clock.ticks) ∧
    (wSound.dev.sealing = some (tBatch 4 3 2 bSound) ∧ (tBatch 4 3 2 bSound).state = 3 ∧ (tBatch 4 3 2 bSound).lanes = some (1, 2) ∧
     wSound.dev.clock.ticks ≤ (tBatch 4 3 2 bSound).jobDeadline ∧
     ((wSound.dev.runTo (min (wSound.dev.clock.ticks + 5) ((tBatch 4 3 2 bSound).ends + (5 * ((tBatch 4 3 2 bSound).delay - 2000) + 3) / 4))).unbook 2).ledgerVerify (tBatch 4 3 2 bSound) = true) ∧
    ((wB [tBatch 4 1 2 id] []).dev.sealing = some (tBatch 4 1 2 id) ∧ (tBatch 4 1 2 id).state = 1) ∧
    (let a := tBatch 4 3 2 bStarted
     (wB [tBatch 4 3 2 bStarted] []).dev.sealing = some a ∧ (a.state = 2 ∨ a.state = 3)) :=
  ⟨by decide +kernel, by decide +kernel, by decide +kernel, by decide +kernel, by decide +kernel, by decide +kernel⟩

theorem witness_LedgerBatchesFollowTheirStates_d :
    ((wB [tBatch 4 3 2 bStarted, tBatch 4 2 1 id] [(K.ledgerFailed, 4)]).dev.nat K.ledgerFailed < 2 ^ 32 - 1) ∧
    ((wB [tBatch 4 3 0 id] [(K.ledgerFailed, 4)]).dev.nat K.ledgerFailed < 2 ^ 32 - 1) :=
  ⟨by decide +kernel, by decide +kernel⟩

theorem witness_JobsRunOnTheLanes_a :
    (let a := tHdr false 2 K.srJobSubmit (tDesc 255)
     (wJ lUp [] [] []).writes a K.srJobSubmit (tDesc 255) ∧ List.length (tDesc 255) = 16 ∧
     ((wJ lUp [] [] []).asWritten a K.srJobSubmit (tDesc 255)).descriptorBad (tDesc 255) = true) ∧
    (let c := wJ lUp [] [] [(K.srJobState, 3)]
     let b := tHdr false 2 K.srJobSubmit (tDesc 1)
     let a := c.asWritten b K.srJobSubmit (tDesc 1)
     c.writes b K.srJobSubmit (tDesc 1) ∧ List.length (tDesc 1) = 16 ∧ a.descriptorBad (tDesc 1) = false ∧
     (¬(a.nat K.srJobState = 0 ∨ a.nat K.srJobState = 6) ∨ a.srStopped = true)) ∧
    (let c := tHdr false 2 K.srJobSubmit (tDesc 1)
     let b := wJ lUp [] (List.replicate 60 (jKey 3)) []
     let a := b.asWritten c K.srJobSubmit (tDesc 1)
     b.writes c K.srJobSubmit (tDesc 1) ∧ List.length (tDesc 1) = 16 ∧ a.descriptorBad (tDesc 1) = false ∧ 60 ≤ a.queueDepth) ∧
    (let c := wJ lUp [] [] [(K.srJobState, 6)]
     let b := tHdr false 2 K.srJobSubmit (tDesc 1)
     let a := c.asWritten b K.srJobSubmit (tDesc 1)
     c.writes b K.srJobSubmit (tDesc 1) ∧ List.length (tDesc 1) = 16 ∧ a.descriptorBad (tDesc 1) = false ∧ a.queueDepth < 60) ∧
    (let a := (wJ lRun [] [tJob 5 3 1 1 id, jKey 7] []).dev.bookedStart 0
     a.strong.lanes.length = 4 ∧ List.length (a.oct K.srLaneState) = 4 ∧ a.laneState 1 = 2 ∧ a.nextJob 1 4 = some (jKey 7) ∧
     a.job (jKey 7).id = some (jKey 7)) ∧
    (let a := (wJ lUp [] [tJob 5 3 1 1 id] []).dev.bookedStart 0
     a.strong.lanes.length = 4 ∧ List.length (a.oct K.srLaneState) = 4 ∧ a.laneState 0 = 2 ∧ a.nextJob 0 4 = some (tJob 5 3 1 1 id) ∧
     a.job (tJob 5 3 1 1 id).id = some (tJob 5 3 1 1 id) ∧ (tJob 5 3 1 1 id).who = JobWho.owner) :=
  ⟨⟨(tWrites _ _ _ _ (by decide +kernel) (by decide +kernel)), by decide +kernel⟩, ⟨(tWrites _ _ _ _ (by decide +kernel) (by decide +kernel)),
   by decide +kernel⟩, ⟨(tWrites _ _ _ _ (by decide +kernel) (by decide +kernel)), by decide +kernel⟩,
   ⟨(tWrites _ _ _ _ (by decide +kernel) (by decide +kernel)), by decide +kernel⟩, by decide +kernel, by decide +kernel⟩

theorem witness_JobsRunOnTheLanes_b :
    (let a := wJ lRun [5] [tJob 5 3 1 3 id] []
     (a.dev.lane 0).stack = [5] ∧ a.dev.job 5 = some (tJob 5 3 1 3 id) ∧ (tJob 5 3 1 3 id).state ≠ 2) ∧
    (let a := wJ lRun [5] [tJob 5 3 1 2 id] []
     (a.dev.lane 0).stack = [5] ∧ a.dev.job 5 = some (tJob 5 3 1 2 id) ∧ (tJob 5 3 1 2 id).state = 2 ∧
     a.dev.bookedStart (tJob 5 3 1 2 id).due = a.dev ∧ (tJob 5 3 1 2 id).who = JobWho.owner ∧
     (opSecret (tJob 5 3 1 2 id).op = true → a.dev.nat K.khEntropyState = 1) ∧
     (opSigns (tJob 5 3 1 2 id).op = true → (tJob 5 3 1 2 id).alone = false ∧ 2 ≤ a.dev.lanesUp.length) ∧
     a.dev.inputsBad (tJob 5 3 1 2 id) = false ∧ (tJob 5 3 1 2 id).op < 64) ∧
    (let a := wJ lRun [5] [tJob 5 3 1 2 id] []
     ((a.on fun x => x.setOct (K.srSlotData 3) (toBE 64 8)).dev.lane 0).stack = [5] ∧
     (a.on fun x => x.setOct (K.srSlotData 3) (toBE 64 8)).dev.job 5 = some (tJob 5 3 1 2 id) ∧ (tJob 5 3 1 2 id).state = 2 ∧
     (a.on fun x => x.setOct (K.srSlotData 3) (toBE 64 8)).dev.bookedStart (tJob 5 3 1 2 id).due = (a.on fun x => x.setOct (K.srSlotData 3) (toBE 64 8)).dev ∧
     (tJob 5 3 1 2 id).who = JobWho.owner ∧
     (opSecret (tJob 5 3 1 2 id).op = true → (a.on fun x => x.setOct (K.srSlotData 3) (toBE 64 8)).dev.nat K.khEntropyState = 1) ∧
     (opSigns (tJob 5 3 1 2 id).op = true → (tJob 5 3 1 2 id).alone = false ∧ 2 ≤ (a.on fun x => x.setOct (K.srSlotData 3) (toBE 64 8)).dev.lanesUp.length) ∧
     (a.on fun x => x.setOct (K.srSlotData 3) (toBE 64 8)).dev.inputsBad (tJob 5 3 1 2 id) = true) ∧
    (let a := wJ lRun [5] [tJob 5 3 64 2 id] []
     (a.dev.lane 0).stack = [5] ∧ a.dev.job 5 = some (tJob 5 3 64 2 id) ∧ (tJob 5 3 64 2 id).state = 2 ∧
     a.dev.bookedStart (tJob 5 3 64 2 id).due = a.dev ∧ (tJob 5 3 64 2 id).who = JobWho.owner ∧
     (opSecret (tJob 5 3 64 2 id).op = true → a.dev.nat K.khEntropyState = 1) ∧
     (opSigns (tJob 5 3 64 2 id).op = true → (tJob 5 3 64 2 id).alone = false ∧ 2 ≤ a.dev.lanesUp.length) ∧
     a.dev.inputsBad (tJob 5 3 64 2 id) = true) ∧
    ((sVal.dev.lane 0).stack = [5] ∧ sVal.dev.job 5 = some (tJob 5 3 64 2 id) ∧ (tJob 5 3 64 2 id).state = 2 ∧
     sVal.dev.bookedStart (tJob 5 3 64 2 id).due = sVal.dev ∧ (tJob 5 3 64 2 id).who = JobWho.owner ∧
     (opSecret (tJob 5 3 64 2 id).op = true → sVal.dev.nat K.khEntropyState = 1) ∧
     (opSigns (tJob 5 3 64 2 id).op = true → (tJob 5 3 64 2 id).alone = false ∧ 2 ≤ sVal.dev.lanesUp.length) ∧
     sVal.dev.inputsBad (tJob 5 3 64 2 id) = false ∧ 64 ≤ (tJob 5 3 64 2 id).op) ∧
    (let b := wJ lRun [5] [tJob 5 3 2 3 id] []
     let a := b.dev.lane 0
     b.dev.strong.lanes.length = 4 ∧ a.stack = [5] ∧ b.dev.job 5 = some (tJob 5 3 2 3 id) ∧ (tJob 5 3 2 3 id).state = 3 ∧
     b.dev.yields (tJob 5 3 2 3 id) = true ∧ a.booked = false ∧ b.dev.nextJob 0 (tJob 5 3 2 3 id).prio = none) :=
  ⟨by decide +kernel, by decide +kernel, by decide +kernel, by decide +kernel, by decide +kernel, by decide +kernel⟩

theorem witness_JobsRunOnTheLanes_c :
    (let b := wJ lRun [5] [tJob 5 3 2 3 id] []
     let a := b.dev.lane 0
     b.dev.strong.lanes.length = 4 ∧ a.stack = [5] ∧ b.dev.job 5 = some (tJob 5 3 2 3 id) ∧ (tJob 5 3 2 3 id).state = 3 ∧
     b.dev.yields (tJob 5 3 2 3 id) = true ∧ a.booked = false ∧ b.dev.inService 0 = true) ∧
    (let b := wJ lRun [5] [tJob 5 3 2 3 id, jKey 9] []
     let a := b.dev.lane 0
     b.dev.strong.lanes.length = 4 ∧ a.stack = [5] ∧ b.dev.job 5 = some (tJob 5 3 2 3 id) ∧ (tJob 5 3 2 3 id).state = 3 ∧
     b.dev.yields (tJob 5 3 2 3 id) = true ∧ a.booked = false ∧ b.dev.bookedStart (b.dev.clock.ticks + min 99 2125) = b.dev ∧
     b.dev.nextJob 0 (tJob 5 3 2 3 id).prio = some (jKey 9) ∧ b.dev.job (jKey 9).id = some (jKey 9)) ∧
    (let b := wJ lRun [5] [tJob 5 3 2 2 id] []
     let a := b.dev.lane 0
     a.stack = [5] ∧ b.dev.job 5 = some (tJob 5 3 2 2 id) ∧ ((tJob 5 3 2 2 id).state ≠ 3 ∨ a.booked = true)) ∧
    (let b := wJ lRun [5] [tJob 5 3 1 3 id] []
     let a := b.dev.lane 0
     a.stack = [5] ∧ b.dev.job 5 = some (tJob 5 3 1 3 id) ∧ (tJob 5 3 1 3 id).state = 3 ∧ a.booked = false ∧
     b.dev.bookedStart (if (tJob 5 3 1 3 id).op < 16 then (tJob 5 3 1 3 id).due else min (b.dev.clock.ticks + 99) (tJob 5 3 1 3 id).due) = b.dev ∧
     (tJob 5 3 1 3 id).who = JobWho.owner ∧ opSigns (tJob 5 3 1 3 id).op = false) ∧
    (let b := wJ lRun [5] [tJob 5 3 19 3 id] []
     let a := b.dev.lane 0
     a.stack = [5] ∧ b.dev.job 5 = some (tJob 5 3 19 3 id) ∧ (tJob 5 3 19 3 id).state = 3 ∧ a.booked = false ∧
     b.dev.bookedStart (if (tJob 5 3 19 3 id).op < 16 then (tJob 5 3 19 3 id).due else min (b.dev.clock.ticks + 9999) (tJob 5 3 19 3 id).due) = b.dev ∧
     (tJob 5 3 19 3 id).who = JobWho.owner ∧ opSigns (tJob 5 3 19 3 id).op = false) ∧
    (let b := wJ lRun [5] [tJob 5 3 32 3 id, jKey 9] []
     let a := b.dev.lane 0
     a.stack = [5] ∧ b.dev.job 5 = some (tJob 5 3 32 3 id) ∧ (tJob 5 3 32 3 id).state = 3 ∧ a.booked = false ∧
     b.dev.bookedStart (if (tJob 5 3 32 3 id).op < 16 then (tJob 5 3 32 3 id).due else min (b.dev.clock.ticks + 99) (tJob 5 3 32 3 id).due) = b.dev ∧
     (tJob 5 3 32 3 id).who = JobWho.owner ∧ opSigns (tJob 5 3 32 3 id).op = true ∧ List.find? (fun z => decide (z ≠ 0)) b.dev.lanesUp = some 1) :=
  ⟨by decide +kernel, by decide +kernel, by decide +kernel, by decide +kernel, by decide +kernel, by decide +kernel⟩

theorem witness_JobsRunOnTheLanes_d :
    ((tJob 5 3 1 3 id).op = 1) ∧
    ((wJ lRun [5] [tJob 5 3 1 3 id, jKey 9] []).dev.job 5 = some (tJob 5 3 1 3 id) ∧ (tJob 5 3 1 3 id).who = JobWho.owner ∧
     (tJob 5 3 1 3 id).state ≠ 1) ∧
    (let b := wJ lRun [] [jKey 9] []
     let a := tHdr false 2 K.srJobAbort [1]
     b.writes a K.srJobAbort [1] ∧ List.find? (fun j => decide (j.who = JobWho.owner)) (b.asWritten a K.srJobAbort [1]).strong.jobs = none) ∧
    (let b := tHdr false 2 K.srJobAbort [1]
     let a := wJ lRun [5] [tJob 5 3 1 3 id, jKey 9] []
     a.writes b K.srJobAbort [1] ∧
     List.find? (fun j => decide (j.who = JobWho.owner)) (a.asWritten b K.srJobAbort [1]).strong.jobs = some (tJob 5 3 1 3 id)) ∧
    ((∀ x ∈ (wJ lRun [5] [tJob 5 3 1 3 id, jKey 9] []).dev.strong.jobs, x.who ≠ JobWho.check 5)) ∧
    (List.find? (fun x => decide (x.who = JobWho.check 5)) (wJ lRun [5] [tJob 5 3 32 5 id, tJob 8 3 32 1 jFor5] []).dev.strong.jobs = some (tJob 8 3 32 1 jFor5)) :=
  ⟨by decide +kernel, by decide +kernel, ⟨(tWrites _ _ _ _ (by decide +kernel) (by decide +kernel)), by decide +kernel⟩,
   ⟨(tWrites _ _ _ _ (by decide +kernel) (by decide +kernel)), by decide +kernel⟩, by decide +kernel, by decide +kernel⟩

theorem witness_JobsRunOnTheLanes_e :
    (let b := tHdr false 2 K.srLaneRestore [byte 3]
     let a := (wJ lRun [] [] []).asWritten b K.srLaneRestore [byte 3]
     (wJ lRun [] [] []).writes b K.srLaneRestore [byte 3] ∧ List.length (a.oct K.srLaneState) = 4 ∧ a.laneState 3 = 4) ∧
    (let b := tHdr false 2 K.srLaneRestore [byte 2]
     let a := (wJ lRun [] [] []).asWritten b K.srLaneRestore [byte 2]
     (wJ lRun [] [] []).writes b K.srLaneRestore [byte 2] ∧ List.length (a.oct K.srLaneState) = 4 ∧ a.laneState 2 ≠ 4) ∧
    (List.length ((wJ lRun [] [] []).dev.oct K.srLaneState) = 4 ∧ (wJ lRun [] [] []).dev.laneState 0 ≠ 1) ∧
    (let a := wJ [1, 2, 2, 4] [] [jKey 9] []
     List.length (a.dev.oct K.srLaneState) = 4 ∧ a.dev.laneState 0 = 1) ∧
    ((wJ lUp [] [jKey 9] []).writes (tHdr false 2 K.srSlotLayout (List.replicate 64 129)) K.srSlotLayout (List.replicate 64 129) ∧
     (List.replicate 64 129).length = 64) ∧
    ((wJ lUp [] [tJob 5 3 1 3 id] []).writes (tHdr false 2 K.srSlotLayout (List.replicate 64 64)) K.srSlotLayout (List.replicate 64 64) ∧
     (List.replicate 64 64).length = 64) :=
  ⟨⟨(tWrites _ _ _ _ (by decide +kernel) (by decide +kernel)), by decide +kernel⟩, ⟨(tWrites _ _ _ _ (by decide +kernel) (by decide +kernel)),
   by decide +kernel⟩, by decide +kernel, by decide +kernel, ⟨(tWrites _ _ _ _ (by decide +kernel) (by decide +kernel)), by decide +kernel⟩,
   ⟨(tWrites _ _ _ _ (by decide +kernel) (by decide +kernel)), by decide +kernel⟩⟩

theorem witness_JobsRunOnTheLanes_f :
    ((wJ lUp [] [jKey 9] []).writes (tHdr false 2 K.srSlotLayout (List.replicate 64 64)) K.srSlotLayout (List.replicate 64 64) ∧
     (List.replicate 64 64).length = 64) ∧
    (let b := wJ lUp [] [jKey 9] []
     let a := tHdr false 2 (K.srSlotData 3) (List.replicate 63 64)
     b.writes a (K.srSlotData 3) (List.replicate 63 64) ∧ (List.replicate 63 64).length ≤ 1024 ∧
     (List.replicate 63 64).length ≠ 8 * (b.asWritten a (K.srSlotData 3) (List.replicate 63 64)).slotWords 3) ∧
    (let b := wJ lUp [] [tJob 5 3 1 3 id] []
     let a := tHdr false 2 (K.srSlotData 3) (List.replicate 64 64)
     b.writes a (K.srSlotData 3) (List.replicate 64 64) ∧ (List.replicate 64 64).length ≤ 1024 ∧
     (List.replicate 64 64).length = 8 * (b.asWritten a (K.srSlotData 3) (List.replicate 64 64)).slotWords 3) ∧
    (let b := wJ lUp [] [tJob 5 3 1 3 id] []
     let a := tHdr false 2 (K.srSlotData 6) (List.replicate 64 64)
     b.writes a (K.srSlotData 6) (List.replicate 64 64) ∧ (List.replicate 64 64).length ≤ 1024 ∧
     (List.replicate 64 64).length = 8 * (b.asWritten a (K.srSlotData 6) (List.replicate 64 64)).slotWords 6) :=
  ⟨⟨(tWrites _ _ _ _ (by decide +kernel) (by decide +kernel)), by decide +kernel⟩, ⟨(tWrites _ _ _ _ (by decide +kernel) (by decide +kernel)),
   by decide +kernel⟩, ⟨(tWrites _ _ _ _ (by decide +kernel) (by decide +kernel)), by decide +kernel⟩,
   ⟨(tWrites _ _ _ _ (by decide +kernel) (by decide +kernel)), by decide +kernel⟩⟩

theorem witness_EntropyAndProvisioning_a :
    (w1.dev.nat K.khEntropyFails < 2 ^ 32 - 1 ∧ List.find? (fun e => decide (e.1 = 3079 * 65536)) w1.dev.attic.lastSeen = none) ∧
    (w1.dev.keyhole.failedAt = none) :=
  ⟨by decide +kernel, by decide +kernel⟩

theorem witness_EntropyAndProvisioning_b :
    (let a := wK 1 0 [(K.khEntropyState, 2)] kFailed
     a.dev.keyhole.failedAt = some 700 ∧ (List.all (a.dev.oct K.atticClearNonce) fun x => decide (x = 0)) = true) ∧
    ((wK 1 0 [(K.khEntropyState, 2)] kFailed).dev.keyhole.failedAt = some 700) :=
  ⟨by decide +kernel, by decide +kernel⟩

theorem witness_EntropyAndProvisioning_c :
    ((wK 1 0 [(K.khEntropyState, 2)] kFailed).dev.nat K.khEntropyState ≠ 1) ∧
    ((wK 1 0 [] id).dev.nat K.khEntropyState = 1 ∧ (wK 1 0 [] id).dev.nat K.khReseeds < 2 ^ 32 - 1) :=
  ⟨by decide +kernel, by decide +kernel⟩

theorem witness_EntropyAndProvisioning_d :
    ((wK 1 0 [] kMany).dev.nat K.khEntropyState = 1 ∧ (wK 1 0 [] kMany).dev.nat K.khReseeds < 2 ^ 32 - 1) ∧
    ((wK 1 1 [] id).writes (tHdr false 2 K.khProvision [1]) K.khProvision [1]) :=
  ⟨by decide +kernel, (tWrites _ _ _ _ (by decide +kernel) (by decide +kernel))⟩

theorem witness_EntropyAndProvisioning_e :
    (let b := tHdr false 2 K.khProvision [1]
     let a := (wK 1 0 [] id).asWritten b K.khProvision [1]
     (wK 1 0 [] id).writes b K.khProvision [1] ∧ a.keyhole.keys.length = 64 ∧ a.nat (K.ksState 60) = 0 ∧ a.nat (K.ksState 63) = 0) ∧
    (let a := tHdr true 2 K.khOwnerPubSet tG
     (wK 3 1 [] id).writes a K.khOwnerPubSet tG ∧ List.length tG = 97 ∧ ((wK 3 1 [] id).asWritten a K.khOwnerPubSet tG).nat K.khLifecycle ≠ 0) :=
  ⟨⟨(tWrites _ _ _ _ (by decide +kernel) (by decide +kernel)), by decide +kernel⟩, ⟨(tWrites _ _ _ _ (by decide +kernel) (by decide +kernel)),
   by decide +kernel⟩⟩

theorem witness_EntropyAndProvisioning_f :
    (let a := tHdr false 2 K.khOwnerPubSet (List.replicate 97 4)
     (wK 1 0 [] id).writes a K.khOwnerPubSet (List.replicate 97 4) ∧ (List.replicate 97 4).length = 97 ∧
     ((wK 1 0 [] id).asWritten a K.khOwnerPubSet (List.replicate 97 4)).nat K.khLifecycle = 0 ∧ p384.decode (List.replicate 97 4) = none) ∧
    (let a := tHdr false 2 K.khOwnerPubSet tG
     (wK 1 0 [] id).writes a K.khOwnerPubSet tG ∧ List.length tG = 97 ∧ ((wK 1 0 [] id).asWritten a K.khOwnerPubSet tG).nat K.khLifecycle = 0 ∧
     p384.decode tG ≠ none) :=
  ⟨⟨(tWrites _ _ _ _ (by decide +kernel) (by decide +kernel)), by decide +kernel⟩, ⟨(tWrites _ _ _ _ (by decide +kernel) (by decide +kernel)),
   by decide +kernel⟩⟩

theorem witness_EntropyAndProvisioning_g :
    (let b := tHdr false 2 K.khOwnerKeySet (tG ++ tWrap)
     let a := (wK 1 1 [] id).asWritten b K.khOwnerKeySet (tG ++ tWrap)
     (wK 1 1 [] id).writes b K.khOwnerKeySet (tG ++ tWrap) ∧ List.length (tG ++ tWrap) = 137 ∧ a.nat K.khLifecycle = 1 ∧ a.lock ≠ 3) ∧
    (let b := tHdr false 2 K.khOwnerKeySet (tG ++ tWrap)
     let a := (wK 1 2 [] id).asWritten b K.khOwnerKeySet (tG ++ tWrap)
     (wK 1 2 [] id).writes b K.khOwnerKeySet (tG ++ tWrap) ∧ List.length (tG ++ tWrap) = 137 ∧
     (a.nat K.khLifecycle = 2 ∨ a.nat (K.ksState 63) ≠ 2)) :=
  ⟨⟨(tWrites _ _ _ _ (by decide +kernel) (by decide +kernel)), by decide +kernel⟩, ⟨(tWrites _ _ _ _ (by decide +kernel) (by decide +kernel)),
   by decide +kernel⟩⟩

theorem witness_EntropyAndProvisioning_h :
    (let c := wK 1 0 [(K.ksState 63, 2)] id
     let b := tHdr false 2 K.khOwnerKeySet (List.replicate 137 4)
     let a := c.asWritten b K.khOwnerKeySet (List.replicate 137 4)
     c.writes b K.khOwnerKeySet (List.replicate 137 4) ∧ (List.replicate 137 4).length = 137 ∧ a.nat K.khLifecycle ≠ 2 ∧
     a.nat (K.ksState 63) = 2 ∧ p384.decode (List.take 97 (List.replicate 137 4)) = none) ∧
    (let c := wK 1 0 [(K.ksState 63, 2)] id
     let b := tHdr false 2 K.khOwnerKeySet (tG ++ tWrap)
     let a := c.asWritten b K.khOwnerKeySet (tG ++ tWrap)
     c.writes b K.khOwnerKeySet (tG ++ tWrap) ∧ List.length (tG ++ tWrap) = 137 ∧ a.nat K.khLifecycle ≠ 2 ∧ a.nat (K.ksState 63) = 2 ∧
     p384.decode (List.take 97 (tG ++ tWrap)) = some (p384.gx, p384.gy) ∧
     keyUnwrap (ownerKek (p384.mul 386 (beNat (a.key 63)) (some (p384.gx, p384.gy))).xy.1 (a.oct K.khDikPub)) (List.drop 97 (tG ++ tWrap)) = some (toBE 8 1 ++ toBE 8 2 ++ toBE 8 3 ++ toBE 8 4) ∧
     a.keyhole.keys.length = 64) :=
  ⟨⟨(tWrites _ _ _ _ (by decide +kernel) (by decide +kernel)), by decide +kernel⟩, ⟨(tWrites _ _ _ _ (by decide +kernel) (by decide +kernel)),
   by decide +kernel⟩⟩

theorem witness_EntropyAndProvisioning_i :
    (let c := wK 1 0 [(K.ksState 63, 2)] id
     let b := tHdr false 2 K.khOwnerKeySet (tG ++ List.replicate 40 9)
     let a := c.asWritten b K.khOwnerKeySet (tG ++ List.replicate 40 9)
     c.writes b K.khOwnerKeySet (tG ++ List.replicate 40 9) ∧ List.length (tG ++ List.replicate 40 9) = 137 ∧ a.nat K.khLifecycle ≠ 2 ∧
     a.nat (K.ksState 63) = 2 ∧ p384.decode (List.take 97 (tG ++ List.replicate 40 9)) = some (p384.gx, p384.gy) ∧
     keyUnwrap (ownerKek (p384.mul 386 (beNat (a.key 63)) (some (p384.gx, p384.gy))).xy.1 (a.oct K.khDikPub)) (List.drop 97 (tG ++ List.replicate 40 9)) = none ∧
     a.nat K.sessionAuthFails < 2 ^ 32 - 1) ∧
    ((wK 1 0 [] id).writes (tHdr false 2 K.khProvCommit [1]) K.khProvCommit [1]) :=
  ⟨⟨(tWrites _ _ _ _ (by decide +kernel) (by decide +kernel)), by decide +kernel⟩, (tWrites _ _ _ _ (by decide +kernel) (by decide +kernel))⟩

theorem witness_EntropyAndProvisioning_j :
    ((wK 1 0 [] kReady).writes (tHdr false 2 K.khProvCommit [1]) K.khProvCommit [1]) ∧
    (let b := tHdr true 2 K.khOwnerXfer (tXferNew ++ tXferSig)
     let a := (wX tXferPub2).asWritten b K.khOwnerXfer (tXferNew ++ tXferSig)
     (wX tXferPub2).writes b K.khOwnerXfer (tXferNew ++ tXferSig) ∧ List.length (tXferNew ++ tXferSig) = 193 ∧ a.lock = 3 ∧
     p384.decode (a.oct K.khOwnerPub) = some (fieldNat tXferPub2 1 48, fieldNat tXferPub2 49 48) ∧
     (¬p384.verify (fieldNat tXferPub2 1 48) (fieldNat tXferPub2 49 48) (beNat (sha384 (ascii "LUABRY-OWNXFR-01" ++ sha384 (a.oct K.khDikPub) ++ List.take 97 (tXferNew ++ tXferSig)))) (fieldNat (tXferNew ++ tXferSig) 97 48) (fieldNat (tXferNew ++ tXferSig) 145 48) = true)) :=
  ⟨(tWrites _ _ _ _ (by decide +kernel) (by decide +kernel)), ⟨(tWrites _ _ _ _ (by decide +kernel) (by decide +kernel)), by decide +kernel⟩⟩

theorem witness_EntropyAndProvisioning_k :
    (let b := tHdr true 2 K.khOwnerXfer (tXferNew2 ++ tXferSig2)
     let a := (wX tXferPub2).asWritten b K.khOwnerXfer (tXferNew2 ++ tXferSig2)
     (wX tXferPub2).writes b K.khOwnerXfer (tXferNew2 ++ tXferSig2) ∧ List.length (tXferNew2 ++ tXferSig2) = 193 ∧ a.lock = 3 ∧
     p384.decode (a.oct K.khOwnerPub) = some (fieldNat tXferPub2 1 48, fieldNat tXferPub2 49 48) ∧
     p384.verify (fieldNat tXferPub2 1 48) (fieldNat tXferPub2 49 48) (beNat (sha384 (ascii "LUABRY-OWNXFR-01" ++ sha384 (a.oct K.khDikPub) ++ List.take 97 (tXferNew2 ++ tXferSig2)))) (fieldNat (tXferNew2 ++ tXferSig2) 97 48) (fieldNat (tXferNew2 ++ tXferSig2) 145 48) = true ∧
     p384.decode (List.take 97 (tXferNew2 ++ tXferSig2)) = none) ∧
    (let b := tHdr true 2 K.khOwnerXfer (tXferNew ++ tXferSig)
     let a := (wX tXferPub).asWritten b K.khOwnerXfer (tXferNew ++ tXferSig)
     (wX tXferPub).writes b K.khOwnerXfer (tXferNew ++ tXferSig) ∧ List.length (tXferNew ++ tXferSig) = 193 ∧ a.lock = 3 ∧
     p384.decode (a.oct K.khOwnerPub) = some (fieldNat tXferPub 1 48, fieldNat tXferPub 49 48) ∧
     p384.verify (fieldNat tXferPub 1 48) (fieldNat tXferPub 49 48) (beNat (sha384 (ascii "LUABRY-OWNXFR-01" ++ sha384 (a.oct K.khDikPub) ++ List.take 97 (tXferNew ++ tXferSig)))) (fieldNat (tXferNew ++ tXferSig) 97 48) (fieldNat (tXferNew ++ tXferSig) 145 48) = true ∧
     p384.decode (List.take 97 (tXferNew ++ tXferSig)) ≠ none) :=
  ⟨⟨(tWrites _ _ _ _ (by decide +kernel) (by decide +kernel)), by decide +kernel⟩, ⟨(tWrites _ _ _ _ (by decide +kernel) (by decide +kernel)),
   by decide +kernel⟩⟩

theorem witness_KeysAreMadeRotatedLockedAttested_a :
    (let a := tHdr true 2 K.khKeygen [60, 1, 1, 0]
     (wK 3 1 [] id).writes a K.khKeygen [60, 1, 1, 0] ∧ [60, 1, 1, 0].length = 4 ∧
     ((wK 3 1 [] id).asWritten a K.khKeygen [60, 1, 1, 0]).lock = 3 ∧
     (¬(fieldNat [60, 1, 1, 0] 0 1 < 60 ∧ fieldNat [60, 1, 1, 0] 3 1 = 0 ∧ (fieldNat [60, 1, 1, 0] 2 1 = 1 ∧ (fieldNat [60, 1, 1, 0] 1 1 = 1 ∨ fieldNat [60, 1, 1, 0] 1 1 = 3) ∨ fieldNat [60, 1, 1, 0] 2 1 = 2 ∧ (fieldNat [60, 1, 1, 0] 1 1 = 1 ∨ fieldNat [60, 1, 1, 0] 1 1 = 2 ∨ fieldNat [60, 1, 1, 0] 1 1 = 3))))) ∧
    (let c := wK 3 1 [(K.ksState 7, 2)] id
     let b := tHdr true 2 K.khKeygen [7, 1, 1, 0]
     let a := c.asWritten b K.khKeygen [7, 1, 1, 0]
     c.writes b K.khKeygen [7, 1, 1, 0] ∧ [7, 1, 1, 0].length = 4 ∧ a.lock = 3 ∧
     (fieldNat [7, 1, 1, 0] 0 1 < 60 ∧ fieldNat [7, 1, 1, 0] 3 1 = 0 ∧ (fieldNat [7, 1, 1, 0] 2 1 = 1 ∧ (fieldNat [7, 1, 1, 0] 1 1 = 1 ∨ fieldNat [7, 1, 1, 0] 1 1 = 3) ∨ fieldNat [7, 1, 1, 0] 2 1 = 2 ∧ (fieldNat [7, 1, 1, 0] 1 1 = 1 ∨ fieldNat [7, 1, 1, 0] 1 1 = 2 ∨ fieldNat [7, 1, 1, 0] 1 1 = 3))) ∧
     (¬(a.nat (K.ksState (fieldNat [7, 1, 1, 0] 0 1)) = 0 ∧ a.nat K.khEntropyState = 1 ∧ a.queueDepth < 60))) :=
  ⟨⟨(tWrites _ _ _ _ (by decide +kernel) (by decide +kernel)), by decide +kernel⟩, ⟨(tWrites _ _ _ _ (by decide +kernel) (by decide +kernel)),
   by decide +kernel⟩⟩

theorem witness_KeysAreMadeRotatedLockedAttested_b :
    (let b := tHdr true 2 K.khKeygen [7, 3, 1, 0]
     let a := (wK 3 1 [] id).asWritten b K.khKeygen [7, 3, 1, 0]
     (wK 3 1 [] id).writes b K.khKeygen [7, 3, 1, 0] ∧ [7, 3, 1, 0].length = 4 ∧ a.lock = 3 ∧
     (fieldNat [7, 3, 1, 0] 0 1 < 60 ∧ fieldNat [7, 3, 1, 0] 3 1 = 0 ∧ (fieldNat [7, 3, 1, 0] 2 1 = 1 ∧ (fieldNat [7, 3, 1, 0] 1 1 = 1 ∨ fieldNat [7, 3, 1, 0] 1 1 = 3) ∨ fieldNat [7, 3, 1, 0] 2 1 = 2 ∧ (fieldNat [7, 3, 1, 0] 1 1 = 1 ∨ fieldNat [7, 3, 1, 0] 1 1 = 2 ∨ fieldNat [7, 3, 1, 0] 1 1 = 3))) ∧
     (a.nat (K.ksState (fieldNat [7, 3, 1, 0] 0 1)) = 0 ∧ a.nat K.khEntropyState = 1 ∧ a.queueDepth < 60)) ∧
    (List.find? (fun j => decide (j.who = JobWho.keygen 7) && decide (j.state = 6)) (wQ [] [] id).dev.strong.jobs = none) :=
  ⟨⟨(tWrites _ _ _ _ (by decide +kernel) (by decide +kernel)), by decide +kernel⟩, by decide +kernel⟩

theorem witness_KeysAreMadeRotatedLockedAttested_c :
    (let a := wQ [jMade 0] [(K.ksState 7, 1), (K.ksType 7, 3), (K.ksUse 7, 1)] id
     List.find? (fun j => decide (j.who = JobWho.keygen 7) && decide (j.state = 6)) a.dev.strong.jobs = some (jMade 0) ∧
     a.dev.keyhole.keys.length = 64 ∧ (jMade 0).result = 0) ∧
    (let a := wQ [jMade 0] [(K.ksState 7, 1), (K.ksType 7, 3), (K.ksUse 7, 1), (K.khTamper, 1), (K.khTamperCfg, 15)] id
     List.find? (fun j => decide (j.who = JobWho.keygen 7) && decide (j.state = 6)) a.dev.strong.jobs = some (jMade 0) ∧
     a.dev.keyhole.keys.length = 64 ∧ (jMade 0).result = 0) :=
  ⟨by decide +kernel, by decide +kernel⟩

theorem witness_KeysAreMadeRotatedLockedAttested_d :
    (let a := wQ [jMade 5] [(K.ksState 7, 1), (K.ksType 7, 3), (K.ksUse 7, 1)] id
     List.find? (fun j => decide (j.who = JobWho.keygen 7) && decide (j.state = 6)) a.dev.strong.jobs = some (jMade 5) ∧
     a.dev.keyhole.keys.length = 64 ∧ (jMade 5).result ≠ 0) ∧
    (let a := wQ [{ (jMade 0) with who := JobWho.keygen 63 }] [(K.ksState 63, 1), (K.ksType 63, 2), (K.ksUse 63, 5), (K.ksState 60, 1), (K.ksType 60, 4), (K.ksUse 60, 3)] id
     List.find? (fun j => decide (j.who = JobWho.keygen 63) && decide (j.state = 6)) a.dev.strong.jobs = some { (jMade 0) with who := JobWho.keygen 63 } ∧
     { (jMade 0) with who := JobWho.keygen 63 }.result = 0 ∧ a.dev.keyhole.keys.length = 64) :=
  ⟨by decide +kernel, by decide +kernel⟩

theorem witness_KeysAreMadeRotatedLockedAttested_e :
    (let b := tHdr true 2 K.khKeyDestroy [byte 7]
     let a := wQ [] [(K.ledgerKeySlot, 7), (K.ksState 7, 2)] id
     a.writes b K.khKeyDestroy [byte 7] ∧ (a.asWritten b K.khKeyDestroy [byte 7]).lock = 3) ∧
    (let b := tHdr true 2 K.khKeyDestroy [byte 7]
     let a := (wQ [] [] id).asWritten b K.khKeyDestroy [byte 7]
     (wQ [] [] id).writes b K.khKeyDestroy [byte 7] ∧ a.lock = 3 ∧ a.nat (K.ksState 7) = 0) :=
  ⟨⟨(tWrites _ _ _ _ (by decide +kernel) (by decide +kernel)), by decide +kernel⟩, ⟨(tWrites _ _ _ _ (by decide +kernel) (by decide +kernel)),
   by decide +kernel⟩⟩

theorem witness_KeysAreMadeRotatedLockedAttested_f :
    (let c := tHdr true 2 K.khKeyDestroy [byte 7]
     let b := wQ [{ (jMade 0) with  }] [(K.ksState 7, 1), (K.ksKeyId 7, 4)] id
     let a := b.asWritten c K.khKeyDestroy [byte 7]
     b.writes c K.khKeyDestroy [byte 7] ∧ a.lock = 3 ∧ a.nat (K.ksState 7) ≠ 0 ∧ a.keyhole.keys.length = 64) ∧
    ((wQ [] [(K.ksState 60, 2), (K.ksKeyId 60, 4)] id).dev.keyhole.keys.length = 64) :=
  ⟨⟨(tWrites _ _ _ _ (by decide +kernel) (by decide +kernel)), by decide +kernel⟩, by decide +kernel⟩

theorem witness_KeysAreMadeRotatedLockedAttested_g :
    (let b := tHdr true 2 K.khNtsRotate [1]
     let a := wQ [] [(K.ksState 60, 2), (K.ksKeyId 60, 4)] id
     a.writes b K.khNtsRotate [1] ∧ (a.asWritten b K.khNtsRotate [1]).lock = 3) ∧
    (let b := tHdr true 2 K.khNtsRotate [1]
     let a := wQ [] [(K.khEntropyState, 2), (K.ksKeyId 60, 4)] id
     a.writes b K.khNtsRotate [1] ∧ (a.asWritten b K.khNtsRotate [1]).lock = 3) :=
  ⟨⟨(tWrites _ _ _ _ (by decide +kernel) (by decide +kernel)), by decide +kernel⟩, ⟨(tWrites _ _ _ _ (by decide +kernel) (by decide +kernel)),
   by decide +kernel⟩⟩

theorem witness_KeysAreMadeRotatedLockedAttested_h :
    (((wK 3 0 [] id).dev.nat K.khLifecycle ≠ 1 ∨ 2 ≤ (wK 3 0 [] id).dev.nat K.fbState ∨ (wK 3 0 [] id).dev.nat K.khEntropyState ≠ 1)) ∧
    (let a := wQ [] [(K.ksState 60, 2), (K.ksKeyId 60, 4)] id
     a.dev.nat K.khLifecycle = 1 ∧ a.dev.nat K.fbState < 2 ∧ a.dev.nat K.khEntropyState = 1) :=
  ⟨by decide +kernel, by decide +kernel⟩

theorem witness_KeysAreMadeRotatedLockedAttested_i :
    (let a := tHdr true 2 K.khCosignEnable [1]
     (wQ [] [] id).writes a K.khCosignEnable [1] ∧ ((wQ [] [] id).asWritten a K.khCosignEnable [1]).lock = 3) ∧
    (let b := tHdr true 2 K.khRollbackCommit [1]
     let a := (wQ [] [] id).asWritten b K.khRollbackCommit [1]
     (wQ [] [] id).writes b K.khRollbackCommit [1] ∧ a.lock = 3 ∧ a.keyhole.secVersion ≤ a.keyhole.rollback) :=
  ⟨⟨(tWrites _ _ _ _ (by decide +kernel) (by decide +kernel)), by decide +kernel⟩, ⟨(tWrites _ _ _ _ (by decide +kernel) (by decide +kernel)),
   by decide +kernel⟩⟩

theorem witness_KeysAreMadeRotatedLockedAttested_j :
    (let b := tHdr true 2 K.khRollbackCommit [1]
     let a := (wQ [] [] kSec).asWritten b K.khRollbackCommit [1]
     (wQ [] [] kSec).writes b K.khRollbackCommit [1] ∧ a.lock = 3 ∧ a.keyhole.rollback < a.keyhole.secVersion) ∧
    (let a := wQ [] [(K.khTamperCfg, 2)] id
     (bit (a.dev.nat K.khTamperCfg) 0 = false ∨ bit (a.dev.nat K.khTamper) 0 = true)) :=
  ⟨⟨(tWrites _ _ _ _ (by decide +kernel) (by decide +kernel)), by decide +kernel⟩, by decide +kernel⟩

theorem witness_KeysAreMadeRotatedLockedAttested_k :
    (let b := wQ [] [(K.khTamperCfg, 10), (K.ksState 7, 2), (K.ksState 60, 2), (K.ksState 63, 2)] id
     let a := b.dev.nat K.khTamperCfg
     bit a 1 = true ∧ bit (b.dev.nat K.khTamper) 1 = false ∧ bit a (1 + 2) = true) ∧
    (let a := wQ [] [(K.khTamperCfg, 2), (K.ksState 7, 2)] id
     bit (a.dev.nat K.khTamperCfg) 1 = true ∧ bit (a.dev.nat K.khTamper) 1 = false) :=
  ⟨by decide +kernel, by decide +kernel⟩

theorem witness_KeysAreMadeRotatedLockedAttested_l :
    (let b := tHdr true 2 K.khTamperClear [1]
     let a := wQ [] [(K.khTamper, 2), (K.ksState 7, 4), (K.ksState 60, 4), (K.ksState 8, 2)] id
     a.writes b K.khTamperClear [1] ∧ (a.asWritten b K.khTamperClear [1]).lock = 3) ∧
    ((wQ [] [] id).writes (tHdr true 2 K.khAttestReq (List.replicate 33 64)) K.khAttestReq (List.replicate 33 64) ∧
     (List.replicate 33 64).length = 33 ∧ 64 ≤ fieldNat (List.replicate 33 64) 32 1 ∧ fieldNat (List.replicate 33 64) 32 1 ≠ 255) :=
  ⟨⟨(tWrites _ _ _ _ (by decide +kernel) (by decide +kernel)), by decide +kernel⟩, ⟨(tWrites _ _ _ _ (by decide +kernel) (by decide +kernel)),
   by decide +kernel⟩⟩

theorem witness_KeysAreMadeRotatedLockedAttested_m :
    (let b := wQ [] [(K.khAttestState, 1)] id
     let a := tHdr true 2 K.khAttestReq (List.replicate 33 5)
     b.writes a K.khAttestReq (List.replicate 33 5) ∧ (List.replicate 33 5).length = 33 ∧
     (fieldNat (List.replicate 33 5) 32 1 < 64 ∨ fieldNat (List.replicate 33 5) 32 1 = 255) ∧
     (b.asWritten a K.khAttestReq (List.replicate 33 5)).nat K.khAttestState = 1) ∧
    (let c := wQ [] [(K.khEntropyState, 2)] id
     let b := tHdr true 2 K.khAttestReq (List.replicate 33 5)
     let a := c.asWritten b K.khAttestReq (List.replicate 33 5)
     c.writes b K.khAttestReq (List.replicate 33 5) ∧ (List.replicate 33 5).length = 33 ∧
     (fieldNat (List.replicate 33 5) 32 1 < 64 ∨ fieldNat (List.replicate 33 5) 32 1 = 255) ∧ a.nat K.khAttestState ≠ 1 ∧
     a.nat K.khEntropyState ≠ 1) :=
  ⟨⟨(tWrites _ _ _ _ (by decide +kernel) (by decide +kernel)), by decide +kernel⟩, ⟨(tWrites _ _ _ _ (by decide +kernel) (by decide +kernel)),
   by decide +kernel⟩⟩

theorem witness_KeysAreMadeRotatedLockedAttested_n :
    (let c := wQ [] [(K.ksState 63, 2)] id
     let b := tHdr true 2 K.khAttestReq (List.replicate 33 255)
     let a := c.asWritten b K.khAttestReq (List.replicate 33 255)
     c.writes b K.khAttestReq (List.replicate 33 255) ∧ (List.replicate 33 255).length = 33 ∧
     (fieldNat (List.replicate 33 255) 32 1 < 64 ∨ fieldNat (List.replicate 33 255) 32 1 = 255) ∧ a.nat K.khAttestState ≠ 1 ∧
     a.nat K.khEntropyState = 1 ∧ a.nat K.khLifecycle ≠ 2 ∧ a.nat (K.ksState 63) = 2 ∧ a.queueDepth < 60) ∧
    ((wQ [] [] id).dev.keyhole.attest = none) :=
  ⟨⟨(tWrites _ _ _ _ (by decide +kernel) (by decide +kernel)), by decide +kernel⟩, by decide +kernel⟩

theorem witness_KeysAreMadeRotatedLockedAttested_o :
    (let a := wQ [jSign 0] [] kAttest
     List.find? (fun j => decide (j.who = JobWho.attest) && decide (j.state = 6)) a.dev.strong.jobs = some (jSign 0) ∧
     a.dev.keyhole.attest = some ([1, 2, 3], 5, 44) ∧ (jSign 0).result = 0) ∧
    (let a := wQ [jSign 3] [] kAttest
     List.find? (fun j => decide (j.who = JobWho.attest) && decide (j.state = 6)) a.dev.strong.jobs = some (jSign 3) ∧
     a.dev.keyhole.attest = some ([1, 2, 3], 5, 44) ∧ (jSign 3).result ≠ 0) :=
  ⟨by decide +kernel, by decide +kernel⟩

theorem witness_SessionHandshake :
    (let b := tHdr false 2 K.sessionHostNonce tN1
     let a := (wK 1 1 [] id).asWritten b K.sessionHostNonce tN1
     (wK 1 1 [] id).writes b K.sessionHostNonce tN1 ∧ List.length tN1 = 16 ∧ a.nat K.khLifecycle = 1 ∧ a.entropyOk = true ∧ a.lock = 1) ∧
    (let b := tHdr false 2 K.sessionHostNonce tN1
     let a := (wK 2 1 [] id).asWritten b K.sessionHostNonce tN1
     (wK 2 1 [] id).writes b K.sessionHostNonce tN1 ∧ List.length tN1 = 16 ∧ a.nat K.khLifecycle = 1 ∧ a.entropyOk = true ∧ a.lock = 2) ∧
    (let b := tHdr true 2 K.sessionHostNonce tN1
     let a := (wK 3 1 [] id).asWritten b K.sessionHostNonce tN1
     (wK 3 1 [] id).writes b K.sessionHostNonce tN1 ∧ List.length tN1 = 16 ∧ a.nat K.khLifecycle = 1 ∧ a.entropyOk = true ∧ a.lock = 3) ∧
    (let b := tHdr false 2 K.sessionProof tProof
     let a := wHand.asWritten b K.sessionProof tProof
     wHand.writes b K.sessionProof tProof ∧ List.length tProof = 16 ∧ a.lock = 2 ∧
     (a.foyer.devNonce ≠ [] ∧ a.nat (K.ksState 62) = 2 ∧ tProof = sessionProof (sessionKey (a.key 62) a.foyer.hostNonce a.foyer.devNonce a.foyer.token (a.nat K.lockHolder)) a.foyer.hostNonce a.foyer.devNonce)) ∧
    (let b := tHdr false 2 K.sessionProof tN1
     let a := wHand.asWritten b K.sessionProof tN1
     wHand.writes b K.sessionProof tN1 ∧ List.length tN1 = 16 ∧ a.lock = 2 ∧
     (¬(a.foyer.devNonce ≠ [] ∧ a.nat (K.ksState 62) = 2 ∧ tN1 = sessionProof (sessionKey (a.key 62) a.foyer.hostNonce a.foyer.devNonce a.foyer.token (a.nat K.lockHolder)) a.foyer.hostNonce a.foyer.devNonce))) :=
  ⟨⟨(tWrites _ _ _ _ (by decide +kernel) (by decide +kernel)), by decide +kernel⟩, ⟨(tWrites _ _ _ _ (by decide +kernel) (by decide +kernel)),
   by decide +kernel⟩, ⟨(tWrites _ _ _ _ (by decide +kernel) (by decide +kernel)), by decide +kernel⟩,
   ⟨(tWrites _ _ _ _ (by decide +kernel) (by decide +kernel)), by decide +kernel⟩, ⟨(tWrites _ _ _ _ (by decide +kernel) (by decide +kernel)),
   by decide +kernel⟩⟩

theorem witness_MessagesAreWholeOrRefused_a :
    (let a := tHdr false 2 ((24848 + 9) * 256 + 3) [2, 1, 0, 0, 5]
     (wM 3 0 none id).writes a ((24848 + 9) * 256 + 3) [2, 1, 0, 0, 5] ∧ [2, 1, 0, 0, 5].length ≤ 64 ∧
     ((wM 3 0 none id).asWritten a ((24848 + 9) * 256 + 3) [2, 1, 0, 0, 5]).study.mail.length = 16 ∧
     (¬(4 ≤ [2, 1, 0, 0, 5].length ∧ fieldNat [2, 1, 0, 0, 5] 0 1 ≤ 60 ∧ [2, 1, 0, 0, 5].length = 4 + fieldNat [2, 1, 0, 0, 5] 0 1))) ∧
    (let b := tHdr false 2 ((24848 + 9) * 256 + 3) [1, 1, 0, 0, 5]
     let a := (wM 8 0 none id).asWritten b ((24848 + 9) * 256 + 3) [1, 1, 0, 0, 5]
     (wM 8 0 none id).writes b ((24848 + 9) * 256 + 3) [1, 1, 0, 0, 5] ∧ [1, 1, 0, 0, 5].length ≤ 64 ∧ a.study.mail.length = 16 ∧
     (4 ≤ [1, 1, 0, 0, 5].length ∧ fieldNat [1, 1, 0, 0, 5] 0 1 ≤ 60 ∧ [1, 1, 0, 0, 5].length = 4 + fieldNat [1, 1, 0, 0, 5] 0 1) ∧
     8 ≤ (a.mail 9).toFirmware.length ∧ a.nat (K.mbRefused 9) < 2 ^ 32 - 1) ∧
    (let b := tHdr false 2 ((24848 + 9) * 256 + 3) [1, 1, 0, 0, 5]
     let a := (wM 7 2 none id).asWritten b ((24848 + 9) * 256 + 3) [1, 1, 0, 0, 5]
     (wM 7 2 none id).writes b ((24848 + 9) * 256 + 3) [1, 1, 0, 0, 5] ∧ [1, 1, 0, 0, 5].length ≤ 64 ∧ a.study.mail.length = 16 ∧
     (4 ≤ [1, 1, 0, 0, 5].length ∧ fieldNat [1, 1, 0, 0, 5] 0 1 ≤ 60 ∧ [1, 1, 0, 0, 5].length = 4 + fieldNat [1, 1, 0, 0, 5] 0 1) ∧
     (a.mail 9).toFirmware.length < 8) ∧
    (let b := tHdr false 1 ((24848 + 9) * 256 + 4) []
     let a := (wM 7 0 none id).asked (hapReq b 1 ((24848 + 9) * 256 + 4) [])
     (wM 7 0 none id).grants (hapReq b 1 ((24848 + 9) * 256 + 4) []) ∧ b.flags < 8 ∧ a.study.mail.length = 16 ∧ a.lost = [] ∧
     (a.mail 9).toOwner = []) ∧
    (let b := tHdr false 1 ((24848 + 9) * 256 + 4) []
     let a := (wM 7 1 none id).asked (hapReq b 1 ((24848 + 9) * 256 + 4) [])
     (wM 7 1 none id).grants (hapReq b 1 ((24848 + 9) * 256 + 4) []) ∧ b.flags < 8 ∧ a.study.mail.length = 16 ∧ a.lost = [] ∧
     (a.mail 9).toOwner = [tMsg 9 0] ∧ tMsg 9 0 ≠ [] ∧
     List.length (tMsg 9 0) ≤ maxPayload (reqSrc (hapReq b 1 ((24848 + 9) * 256 + 4) [])) b.xl (decide (((wM 7 1 none id).dev.heard (hapReq b 1 ((24848 + 9) * 256 + 4) [])).lock = 3))) ∧
    (let b := tHdr false 1 ((24848 + 9) * 256 + 4) []
     let a := (wM 7 2 none id).asked (hapReq b 1 ((24848 + 9) * 256 + 4) [])
     (wM 7 2 none id).grants (hapReq b 1 ((24848 + 9) * 256 + 4) []) ∧ b.flags < 8 ∧ a.study.mail.length = 16 ∧ a.lost = [] ∧
     (a.mail 9).toOwner = [tMsg 9 0, tMsg 9 1] ∧ tMsg 9 0 ≠ [] ∧
     List.length (tMsg 9 0) ≤ maxPayload (reqSrc (hapReq b 1 ((24848 + 9) * 256 + 4) [])) b.xl (decide (((wM 7 2 none id).dev.heard (hapReq b 1 ((24848 + 9) * 256 + 4) [])).lock = 3))) :=
  ⟨⟨(tWrites _ _ _ _ (by decide +kernel) (by decide +kernel)), by decide +kernel⟩, ⟨(tWrites _ _ _ _ (by decide +kernel) (by decide +kernel)),
   by decide +kernel⟩, ⟨(tWrites _ _ _ _ (by decide +kernel) (by decide +kernel)), by decide +kernel⟩,
   ⟨(tGrants _ _ _ _ _ (by decide +kernel) (by decide +kernel)), by decide +kernel⟩,
   ⟨(tGrants _ _ _ _ _ (by decide +kernel) (by decide +kernel)), by decide +kernel⟩,
   ⟨(tGrants _ _ _ _ _ (by decide +kernel) (by decide +kernel)), by decide +kernel⟩⟩

theorem witness_MessagesAreWholeOrRefused_b :
    ((wM 7 2 none id).writes (tHdr false 2 K.dbIrqMask [byte 2]) K.dbIrqMask [byte 2]) ∧
    ((wM 7 0 none id).writes (tHdr false 2 K.dbIrqMask [byte 2]) K.dbIrqMask [byte 2]) ∧
    ((wM 0 2 none id).dev.study.mail.length = 16 ∧
     ((wM 0 2 none id).dev.coreRuns 3 = false ∨ (wM 0 2 none id).dev.asleep = true ∨ (wM 0 2 none id).dev.study.held = none ∧ ((wM 0 2 none id).dev.mail 8).toFirmware = [])) ∧
    (let a := (wM 3 2 none id).dev.mail 8
     (wM 3 2 none id).dev.study.mail.length = 16 ∧ (wM 3 2 none id).dev.coreRuns 3 = true ∧ (wM 3 2 none id).dev.asleep = false ∧
     (wM 3 2 none id).dev.study.held = none ∧ a.toFirmware = [tMsg 1 0, tMsg 1 1, tMsg 1 2] ∧ a.toOwner.length < 8) ∧
    (let a := (wM 3 8 none id).dev.mail 8
     (wM 3 8 none id).dev.study.mail.length = 16 ∧ (wM 3 8 none id).dev.coreRuns 3 = true ∧ (wM 3 8 none id).dev.asleep = false ∧
     (wM 3 8 none id).dev.study.held = none ∧ a.toFirmware = [tMsg 1 0, tMsg 1 1, tMsg 1 2] ∧ 8 ≤ a.toOwner.length) ∧
    (let a := wM 3 2 (some [7, 8]) id
     a.dev.study.mail.length = 16 ∧ a.dev.coreRuns 3 = true ∧ a.dev.asleep = false ∧ a.dev.study.held = some [7, 8] ∧
     (a.dev.mail 8).toOwner.length < 8) :=
  ⟨(tWrites _ _ _ _ (by decide +kernel) (by decide +kernel)), (tWrites _ _ _ _ (by decide +kernel) (by decide +kernel)), by decide +kernel,
   by decide +kernel, by decide +kernel, by decide +kernel⟩

theorem witness_MessagesAreWholeOrRefused_c :
    let a := wM 3 8 (some [7, 8]) id
    a.dev.study.mail.length = 16 ∧ a.dev.coreRuns 3 = true ∧ a.dev.asleep = false ∧ a.dev.study.held = some [7, 8] ∧
    8 ≤ (a.dev.mail 8).toOwner.length :=
  by decide +kernel

theorem witness_CoresAndImagesRecover_a :
    (let a := wCore [0, 3, 0, 0] [] id
     List.length (a.dev.oct K.studyCoreState) = 4 ∧ List.length (a.dev.oct K.studyWdtResets) = 16 ∧ a.dev.study.resets.length = 4 ∧
     (a.dev.coreRuns 1 = false ∨ a.dev.asleep = true)) ∧
    (let b := wCore [0, 0, 0, 0] [] (gResets 1)
     let a := b.dev.oct K.studyWdtResets
     List.length (b.dev.oct K.studyCoreState) = 4 ∧ List.length a = 16 ∧ b.dev.study.resets.length = 4 ∧ b.dev.coreRuns 1 = true ∧
     b.dev.asleep = false ∧ fieldNat a (4 * 1) 4 < 2 ^ 32 - 1) ∧
    (let b := wCore [0, 0, 0, 0] [] (gResets 2)
     let a := b.dev.oct K.studyWdtResets
     List.length (b.dev.oct K.studyCoreState) = 4 ∧ List.length a = 16 ∧ b.dev.study.resets.length = 4 ∧ b.dev.coreRuns 1 = true ∧
     b.dev.asleep = false ∧ fieldNat a (4 * 1) 4 < 2 ^ 32 - 1) ∧
    (let a := (wCore [0, 0, 0, 0] [] (gResets 2)).dev.oct K.studyCoreState
     List.length a = 4 ∧ fieldNat a 1 1 ≠ 2) ∧
    (let a := (wCore [0, 2, 0, 0] [] (gResets 2)).dev.oct K.studyCoreState
     List.length a = 4 ∧ fieldNat a 1 1 = 2) ∧
    (let a := (wCore [0, 2, 0, 0] [(K.fbState, 2)] (gResets 2)).dev.oct K.studyCoreState
     List.length a = 4 ∧ fieldNat a 1 1 = 2) :=
  ⟨by decide +kernel, by decide +kernel, by decide +kernel, by decide +kernel, by decide +kernel, by decide +kernel⟩

theorem witness_CoresAndImagesRecover_b :
    (let b := tHdr true 6 K.studyFwImage (toBE 4 1 ++ List.drop 200 (tImage 5))
     let a := (wUp 5).asked (hapReq b 6 K.studyFwImage (toBE 4 1 ++ List.drop 200 (tImage 5)))
     (wUp 5).grants (hapReq b 6 K.studyFwImage (toBE 4 1 ++ List.drop 200 (tImage 5))) ∧ a.lock = 3 ∧ b.flags < 8 ∧
     b.length = 4 + (List.drop 200 (tImage 5)).length ∧
     a.foyer.xfer = some { writing := true, seg := 0, index := 25089, sub := 0, total := 261, buf := List.take 200 (tImage 5), next := 1, since := 0 } ∧
     ({ writing := true, seg := 0, index := 25089, sub := 0, total := 261, buf := List.take 200 (tImage 5), next := 1, since := 0 } : Xfer).writing = true ∧
     ({ writing := true, seg := 0, index := 25089, sub := 0, total := 261, buf := List.take 200 (tImage 5), next := 1, since := 0 } : Xfer).index = 25089 ∧
     ({ writing := true, seg := 0, index := 25089, sub := 0, total := 261, buf := List.take 200 (tImage 5), next := 1, since := 0 } : Xfer).sub = 0 ∧
     ({ writing := true, seg := 0, index := 25089, sub := 0, total := 261, buf := List.take 200 (tImage 5), next := 1, since := 0 } : Xfer).next = 1 ∧
     List.length (({ writing := true, seg := 0, index := 25089, sub := 0, total := 261, buf := List.take 200 (tImage 5), next := 1, since := 0 } : Xfer).buf ++ List.drop 200 (tImage 5)) = ({ writing := true, seg := 0, index := 25089, sub := 0, total := 261, buf := List.take 200 (tImage 5), next := 1, since := 0 } : Xfer).total ∧
     257 ≤ List.length (({ writing := true, seg := 0, index := 25089, sub := 0, total := 261, buf := List.take 200 (tImage 5), next := 1, since := 0 } : Xfer).buf ++ List.drop 200 (tImage 5)) ∧
     List.length (({ writing := true, seg := 0, index := 25089, sub := 0, total := 261, buf := List.take 200 (tImage 5), next := 1, since := 0 } : Xfer).buf ++ List.drop 200 (tImage 5)) ≤ 8388864 ∧
     a.nat K.studyStageState ≠ 2 ∧
     a.imageCheck (({ writing := true, seg := 0, index := 25089, sub := 0, total := 261, buf := List.take 200 (tImage 5), next := 1, since := 0 } : Xfer).buf ++ List.drop 200 (tImage 5)) b.env.vendor = 0) ∧
    (let a := wCore [0, 2, 0, 0] [] (gResets 2)
     a.dev.study.images.length = 2 ∧ a.dev.study.passed.length = 2 ∧ (a.dev.nat K.studyStageState ≠ 2 ∨ a.dev.coreRuns 3 = false)) ∧
    (let a := wCore [0, 2, 0, 0] [(K.studyStageState, 2)] gStaged
     a.dev.study.images.length = 2 ∧ a.dev.study.passed.length = 2 ∧ a.dev.nat K.studyStageState = 2 ∧ a.dev.coreRuns 3 = true) ∧
    (let c := tHdr true 2 K.studyNextLoc [byte 1]
     let b := wCore [0, 2, 0, 0] [(K.studyStageState, 2)] gStaged
     let a := b.asWritten c K.studyNextLoc [byte 1]
     b.writes c K.studyNextLoc [byte 1] ∧ a.lock = 3 ∧ a.study.passed.getD 1 false = false) ∧
    (let c := tHdr true 2 K.studyNextLoc [byte 0]
     let b := wCore [0, 2, 0, 0] [(K.studyStageState, 2)] gStaged
     let a := b.asWritten c K.studyNextLoc [byte 0]
     b.writes c K.studyNextLoc [byte 0] ∧ a.lock = 3 ∧ a.study.passed.getD 0 false = true) :=
  ⟨⟨(tGrants _ _ _ _ _ (by decide +kernel) (by decide +kernel)), by decide +kernel⟩, by decide +kernel, by decide +kernel,
   ⟨(tWrites _ _ _ _ (by decide +kernel) (by decide +kernel)), by decide +kernel⟩, ⟨(tWrites _ _ _ _ (by decide +kernel) (by decide +kernel)),
   by decide +kernel⟩⟩

theorem witness_RecordsAreFormedStoredAndCleared_a :
    ((wAt [] aNone).dev.attic.reports = []) ∧
    ((wAt [] aUsed).dev.attic.nextReport = some (tReport 1793) ∧ (wAt [] aUsed).dev.nat K.atticLost < 2 ^ 32 - 1 ∧
     4294967294 < (wAt [] aUsed).dev.attic.next) ∧
    ((wAt [] aFull).dev.attic.nextReport = some (tReport 1793) ∧ (wAt [] aFull).dev.nat K.atticLost < 2 ^ 32 - 1 ∧
     (wAt [] aFull).dev.attic.next ≤ 4294967294 ∧ (wAt [] aFull).dev.asleep = false ∧ (wAt [] aFull).dev.nat K.atticFlashState ≠ 2 ∧
     1024 ≤ (wAt [] aFull).dev.attic.pending.length) ∧
    ((wAt [] id).dev.attic.nextReport = some (tReport 1793) ∧ (wAt [] id).dev.nat K.atticLost < 2 ^ 32 - 1 ∧
     (wAt [] id).dev.attic.next ≤ 4294967294 ∧ (wAt [] id).dev.asleep = false ∧ (wAt [] id).dev.nat K.atticFlashState ≠ 2 ∧
     (wAt [] id).dev.attic.pending.length < 1024) ∧
    (((wAt [] aNone).dev.attic.pending = [] ∨ (wAt [] aNone).dev.coreRuns 3 = false ∨ (wAt [] aNone).dev.asleep = true ∨ (wAt [] aNone).dev.nat K.atticFlashState = 2)) ∧
    ((wAt [] id).dev.attic.pending = [tRec 7, tRec 8] ∧ (wAt [] id).dev.coreRuns 3 = true ∧ (wAt [] id).dev.asleep = false ∧
     (wAt [] id).dev.nat K.atticFlashState ≠ 2) :=
  ⟨by decide +kernel, by decide +kernel, by decide +kernel, by decide +kernel, by decide +kernel, by decide +kernel⟩

theorem witness_RecordsAreFormedStoredAndCleared_b :
    ((wAt [] (aPos 63)).dev.attic.pending = [tRec 7, tRec 8] ∧ (wAt [] (aPos 63)).dev.coreRuns 3 = true ∧
     (wAt [] (aPos 63)).dev.asleep = false ∧ (wAt [] (aPos 63)).dev.nat K.atticFlashState ≠ 2) ∧
    ((wAt [] (aPos 64)).dev.attic.pending = [tRec 7, tRec 8] ∧ (wAt [] (aPos 64)).dev.coreRuns 3 = true ∧
     (wAt [] (aPos 64)).dev.asleep = false ∧ (wAt [] (aPos 64)).dev.nat K.atticFlashState ≠ 2) ∧
    ((wAt [] (aPos 64)).dev.attic.pending = [tRec 7, tRec 8] ∧ (wAt [] (aPos 64)).dev.coreRuns 3 = true ∧
     (wAt [] (aPos 64)).dev.asleep = false ∧ (wAt [] (aPos 64)).dev.nat K.atticFlashState ≠ 2 ∧ (wAt [] (aPos 64)).dev.attic.bad.length < 128 ∧
     (wAt [] (aPos 64)).dev.nat K.atticFlashState = 1) ∧
    ((wAt [(K.atticHead, 8), (K.atticTail, 5)] id).writes (tHdr true 2 K.atticSnap [1]) K.atticSnap [1]) ∧
    (let b := wAt [(K.atticHead, 8), (K.atticTail, 5)] aNone
     let a := tHdr true 2 K.atticClear (List.replicate 116 1)
     b.writes a K.atticClear (List.replicate 116 1) ∧ (List.replicate 116 1).length = 116 ∧
     (b.asWritten a K.atticClear (List.replicate 116 1)).lock = 3) ∧
    (let c := tHdr true 2 K.atticClear tClear
     let b := sCl [(K.atticHead, 4), (K.atticTail, 5)] aNone
     let a := b.asWritten c K.atticClear tClear
     b.writes c K.atticClear tClear ∧
     (field tClear 4 16 = a.oct K.atticClearNonce ∧ ∃ x y, p384.decode (a.oct K.khOwnerPub) = some (x, y) ∧ p384.verify x y (beNat (sha384 (ascii "LUABRY-ACLEAR-01" ++ sha384 (a.oct K.khDikPub) ++ toBE 4 (fieldNat tClear 0 4) ++ a.oct K.atticClearNonce))) (fieldNat tClear 20 48) (fieldNat tClear 68 48) = true) ∧
     List.length tClear = 116 ∧ a.lock = 3) :=
  ⟨by decide +kernel, by decide +kernel, by decide +kernel, (tWrites _ _ _ _ (by decide +kernel) (by decide +kernel)),
   ⟨(tWrites _ _ _ _ (by decide +kernel) (by decide +kernel)), by decide +kernel⟩, ⟨(tWrites _ _ _ _ (by decide +kernel) (by decide +kernel)),
   ⟨by decide +kernel, fieldNat tClearPub 1 48, fieldNat tClearPub 49 48, by decide +kernel, by decide +kernel⟩, by decide +kernel⟩⟩

theorem witness_RecordsAreFormedStoredAndCleared_c :
    (let c := tHdr true 2 K.atticClear tClear
     let b := sCl [(K.atticHead, 200), (K.atticTail, 5)] aClear
     let a := b.asWritten c K.atticClear tClear
     b.writes c K.atticClear tClear ∧
     (field tClear 4 16 = a.oct K.atticClearNonce ∧ ∃ x y, p384.decode (a.oct K.khOwnerPub) = some (x, y) ∧ p384.verify x y (beNat (sha384 (ascii "LUABRY-ACLEAR-01" ++ sha384 (a.oct K.khDikPub) ++ toBE 4 (fieldNat tClear 0 4) ++ a.oct K.atticClearNonce))) (fieldNat tClear 20 48) (fieldNat tClear 68 48) = true) ∧
     List.length tClear = 116 ∧ a.lock = 3) ∧
    (let c := tHdr true 2 K.atticClear tClear
     let b := sCl [(K.atticHead, 200), (K.atticTail, 5)] aNone
     let a := b.asWritten c K.atticClear tClear
     b.writes c K.atticClear tClear ∧
     (field tClear 4 16 = a.oct K.atticClearNonce ∧ ∃ x y, p384.decode (a.oct K.khOwnerPub) = some (x, y) ∧ p384.verify x y (beNat (sha384 (ascii "LUABRY-ACLEAR-01" ++ sha384 (a.oct K.khDikPub) ++ toBE 4 (fieldNat tClear 0 4) ++ a.oct K.atticClearNonce))) (fieldNat tClear 20 48) (fieldNat tClear 68 48) = true) ∧
     List.length tClear = 116 ∧ a.lock = 3) ∧
    ((wAt [] id).dev.attic.clearing = none) ∧
    ((wAt [(K.atticTail, 5)] aClear).dev.attic.clearing = some (6, true, 4)) :=
  ⟨⟨(tWrites _ _ _ _ (by decide +kernel) (by decide +kernel)), ⟨by decide +kernel, fieldNat tClearPub 1 48, fieldNat tClearPub 49 48,
   by decide +kernel, by decide +kernel⟩, by decide +kernel⟩, ⟨(tWrites _ _ _ _ (by decide +kernel) (by decide +kernel)), ⟨by decide +kernel,
   fieldNat tClearPub 1 48, fieldNat tClearPub 49 48, by decide +kernel, by decide +kernel⟩, by decide +kernel⟩, by decide +kernel,
   by decide +kernel⟩

theorem witness_PowerStatesFollowTheTolerance_a :
    ((wF 0 [] id).writes (tHdr false 2 K.latencyTol (toBE 4 1)) K.latencyTol (toBE 4 1)) ∧
    ((wF 0 [] id).writes (tHdr false 2 K.latencyTol (toBE 4 2)) K.latencyTol (toBE 4 2)) ∧
    ((wF 1 [] (fEntry 3)).writes (tHdr false 2 K.latencyTol (toBE 4 350000)) K.latencyTol (toBE 4 350000)) ∧
    (((wF 2 [] id).dev.power.held ≠ 0 ∨ (wF 2 [] id).dev.asleep = true ∨ (wF 2 [] id).dev.power.entry ≠ none ∨ (wF 2 [] id).dev.power.waking ≠ none)) ∧
    (let b := wF 1 [(K.fbTarget, 3)] id
     let a := b.dev.runTo (b.dev.power.idleFrom + b.dev.nat K.fbIdleTime * msTicks)
     b.dev.power.held = 0 ∧ b.dev.asleep = false ∧ b.dev.power.entry = none ∧ b.dev.power.waking = none ∧
     (¬((∃ i < 16, a.slotState i ≠ 0) ∨ a.nat K.studyStageState ≠ 0 ∨ a.nat K.atticClearState = 1 ∨ a.nat K.hearthLock ≠ 1 ∨ a.nat K.tdcCalState ≠ 2)) ∧
     2 ≤ a.nat K.fbTarget ∧ a.nat K.fbTarget ≤ 4) ∧
    (let b := wF 0 [(K.fbTarget, 4), (K.cellarWakeAfter, 9)] id
     let a := b.dev.runTo (b.dev.power.idleFrom + b.dev.nat K.fbIdleTime * msTicks)
     b.dev.power.held = 0 ∧ b.dev.asleep = false ∧ b.dev.power.entry = none ∧ b.dev.power.waking = none ∧
     (¬((∃ i < 16, a.slotState i ≠ 0) ∨ a.nat K.studyStageState ≠ 0 ∨ a.nat K.atticClearState = 1 ∨ a.nat K.hearthLock ≠ 1 ∨ a.nat K.tdcCalState ≠ 2)) ∧
     2 ≤ a.nat K.fbTarget ∧ a.nat K.fbTarget ≤ 4) :=
  ⟨(tWrites _ _ _ _ (by decide +kernel) (by decide +kernel)), (tWrites _ _ _ _ (by decide +kernel) (by decide +kernel)),
   (tWrites _ _ _ _ (by decide +kernel) (by decide +kernel)), by decide +kernel, by decide +kernel, by decide +kernel⟩

theorem witness_PowerStatesFollowTheTolerance_b :
    (let b := wF 0 [(K.fbTarget, 4), (K.cellarWakeAfter, 9), (K.tdcCalState, 1)] id
     let a := b.dev.runTo (b.dev.power.idleFrom + b.dev.nat K.fbIdleTime * msTicks)
     b.dev.power.held = 0 ∧ b.dev.asleep = false ∧ b.dev.power.entry = none ∧ b.dev.power.waking = none ∧
     (((∃ i < 16, a.slotState i ≠ 0) ∨ a.nat K.studyStageState ≠ 0 ∨ a.nat K.atticClearState = 1 ∨ a.nat K.hearthLock ≠ 1 ∨ a.nat K.tdcCalState ≠ 2) ∨ a.nat K.fbTarget < 2)) ∧
    (let b := wF 0 [(K.fbTarget, 1)] id
     let a := b.dev.runTo (b.dev.power.idleFrom + b.dev.nat K.fbIdleTime * msTicks)
     b.dev.power.held = 0 ∧ b.dev.asleep = false ∧ b.dev.power.entry = none ∧ b.dev.power.waking = none ∧
     (((∃ i < 16, a.slotState i ≠ 0) ∨ a.nat K.studyStageState ≠ 0 ∨ a.nat K.atticClearState = 1 ∨ a.nat K.hearthLock ≠ 1 ∨ a.nat K.tdcCalState ≠ 2) ∨ a.nat K.fbTarget < 2) ∧
     (¬((∃ i < 16, a.slotState i ≠ 0) ∨ a.nat K.studyStageState ≠ 0 ∨ a.nat K.atticClearState = 1 ∨ a.nat K.hearthLock ≠ 1 ∨ a.nat K.tdcCalState ≠ 2))) ∧
    (((wF 1 [] id).dev.power.entry = none ∨ (wF 1 [] id).dev.flying ≠ [] ∨ (wF 1 [] id).dev.ledger.batches ≠ [])) ∧
    ((wF 1 [] (fEntry 2)).dev.power.entry = some (2, 2) ∧ (wF 1 [] (fEntry 2)).dev.asleep = false ∧ (wF 1 [] (fEntry 2)).dev.flying = [] ∧
     (wF 1 [] (fEntry 2)).dev.ledger.batches = [] ∧
     (2 = 4 → 2 = 7 ∧ (wF 1 [] (fEntry 2)).dev.attic.pending = [] ∧ (wF 1 [] (fEntry 2)).dev.attic.reports = [])) ∧
    ((wF 1 [] (fEntry 3)).dev.power.entry = some (3, 2) ∧ (wF 1 [] (fEntry 3)).dev.asleep = false ∧ (wF 1 [] (fEntry 3)).dev.flying = [] ∧
     (wF 1 [] (fEntry 3)).dev.ledger.batches = [] ∧
     (3 = 4 → 2 = 7 ∧ (wF 1 [] (fEntry 3)).dev.attic.pending = [] ∧ (wF 1 [] (fEntry 3)).dev.attic.reports = [])) ∧
    ((wF 1 [] fDeep).dev.power.entry = some (4, 7) ∧ (wF 1 [] fDeep).dev.asleep = false ∧ (wF 1 [] fDeep).dev.flying = [] ∧
     (wF 1 [] fDeep).dev.ledger.batches = [] ∧
     (4 = 4 → 7 = 7 ∧ (wF 1 [] fDeep).dev.attic.pending = [] ∧ (wF 1 [] fDeep).dev.attic.reports = []) ∧
     (∀ n < 16, ((wF 1 [] fDeep).dev.out n).active = false)) :=
  ⟨by decide +kernel, by decide +kernel, by decide +kernel, by decide +kernel, by decide +kernel, by decide +kernel⟩

theorem witness_PowerStatesFollowTheTolerance_c :
    (bit ((wF 2 [] id).dev.nat K.fbWakeMask) (if 0 = 4 then 2 else if 0 = 5 then 3 else 0) = true ∧ (wF 2 [] id).dev.power.entry = none ∧
     ((wF 2 [] id).dev.nat K.fbState = 2 ∨ (wF 2 [] id).dev.nat K.fbState = 3) ∧ (wF 2 [] id).dev.power.waking = none ∧
     (wF 2 [] id).dev.nat K.fbWakes < 2 ^ 32 - 1) ∧
    (let a := wF 3 [(K.mtState, 5), (K.fbWakeMask, 15)] id
     bit (a.dev.nat K.fbWakeMask) (if 4 = 4 then 2 else if 4 = 5 then 3 else 4) = true ∧ a.dev.power.entry = none ∧
     (a.dev.nat K.fbState = 2 ∨ a.dev.nat K.fbState = 3) ∧ a.dev.power.waking = none ∧ a.dev.nat K.fbWakes < 2 ^ 32 - 1) ∧
    (let a := wF 1 [(K.mtState, 5), (K.fbWakeMask, 15), (K.parAdmitStopped, 1)] (fEntry 3)
     bit (a.dev.nat K.fbWakeMask) (if 4 = 4 then 2 else if 4 = 5 then 3 else 4) = true ∧ a.dev.power.entry = some (3, 2) ∧
     a.dev.nat K.fbEntryAborts < 2 ^ 32 - 1) ∧
    (let a := (wF 2 [(K.fbWakeInCfg, 34)] id).dev.nat K.fbWakeInCfg
     (4 ≤ 1 ∨ bit a 1 = false ∨ bit a (4 + 1) ≠ false)) ∧
    (let b := wF 2 [(K.fbWakeInCfg, 34)] id
     let a := b.dev.nat K.fbWakeInCfg
     bit a 1 = true ∧ bit a (4 + 1) = true ∧ b.dev.power.entry = none ∧ b.dev.asleep = true ∧ b.dev.power.waking = none) ∧
    (let a := wF 2 [(K.fbWakeInCfg, 34)] id
     (a.dev.cellar.alarmFrom = none ∨ a.dev.nat K.cellarWakeAfter = 0)) :=
  ⟨by decide +kernel, by decide +kernel, by decide +kernel, by decide +kernel, by decide +kernel, by decide +kernel⟩

theorem witness_PowerStatesFollowTheTolerance_d :
    (let a := wF 3 [(K.cellarWakeAfter, 2)] id
     (a.on fun d => { d with cellar := { d.cellar with alarmFrom := some 5 } }).dev.cellar.alarmFrom = some 5 ∧
     (a.on fun d => { d with cellar := { d.cellar with alarmFrom := some 5 } }).dev.nat K.cellarWakeAfter ≠ 0 ∧
     (a.on fun d => { d with cellar := { d.cellar with alarmFrom := some 5 } }).dev.power.entry = none ∧
     ((a.on fun d => { d with cellar := { d.cellar with alarmFrom := some 5 } }).dev.nat K.fbState = 3 ∨ (a.on fun d => { d with cellar := { d.cellar with alarmFrom := some 5 } }).dev.nat K.fbState = 4) ∧
     (a.on fun d => { d with cellar := { d.cellar with alarmFrom := some 5 } }).dev.power.waking = none) ∧
    (let a := wF 2 [(K.parAdmitStopped, 1)] fWake
     a.dev.power.waking = some 900 ∧ a.dev.power.held = 0 ∧ (a.dev.nat K.fbState = 2 ∨ a.dev.nat K.fbState = 3) ∧ a.dev.foyer.held = []) ∧
    (let a := wF 3 [(K.parAdmitStopped, 1), (K.portLinkState 20, 5)] fWake
     a.dev.power.waking = some 900 ∧ a.dev.power.held = 0 ∧ (a.dev.nat K.fbState = 2 ∨ a.dev.nat K.fbState = 3) ∧ a.dev.foyer.held = []) :=
  ⟨by decide +kernel, by decide +kernel, by decide +kernel⟩

theorem witness_StepsSuppliesAndMargins_a :
    ((wF 0 [] id).dev.power.steps = []) ∧
    (wOld.dev.commit.grants = [tGrant [5, 6]] ∧ wOld.dev.power.steps ≠ [] ∧
     (tGrant [5, 6]).since + msTicks < max wOld.dev.clock.ticks wOld.dev.stepStart ∧ 16 ≤ (tGrant [5, 6]).slot ∧ wOld.dev.commit.reverts = []) ∧
    ((wF 2 [] fSteps).dev.power.nextStep = some { kind := 2, since := 300, exit := true } ∧
     (∀ g ∈ (wF 2 [] fSteps).dev.commit.grants.head?, max (wF 2 [] fSteps).dev.clock.ticks (wF 2 [] fSteps).dev.stepStart ≤ g.since + msTicks) ∧
     (wF 2 [] fSteps).dev.commit.grants = []) ∧
    ((wF 0 [(K.portPower 5, 1), (K.portLinkState 5, 0)] fPort).dev.power.nextStep = some { kind := 21, since := 100, exit := false } ∧
     (∀ g ∈ (wF 0 [(K.portPower 5, 1), (K.portLinkState 5, 0)] fPort).dev.commit.grants.head?, max (wF 0 [(K.portPower 5, 1), (K.portLinkState 5, 0)] fPort).dev.clock.ticks (wF 0 [(K.portPower 5, 1), (K.portLinkState 5, 0)] fPort).dev.stepStart ≤ g.since + msTicks) ∧
     (wF 0 [(K.portPower 5, 1), (K.portLinkState 5, 0)] fPort).dev.commit.grants = []) ∧
    ((wF 3 [(K.portPower 5, 1), (K.portLinkState 5, 0)] fPort).dev.power.nextStep = some { kind := 21, since := 100, exit := false } ∧
     (∀ g ∈ (wF 3 [(K.portPower 5, 1), (K.portLinkState 5, 0)] fPort).dev.commit.grants.head?, max (wF 3 [(K.portPower 5, 1), (K.portLinkState 5, 0)] fPort).dev.clock.ticks (wF 3 [(K.portPower 5, 1), (K.portLinkState 5, 0)] fPort).dev.stepStart ≤ g.since + msTicks) ∧
     (wF 3 [(K.portPower 5, 1), (K.portLinkState 5, 0)] fPort).dev.commit.grants = []) ∧
    ((wF 0 [] id).dev.commit.grants = []) :=
  ⟨by decide +kernel, by decide +kernel, by decide +kernel, by decide +kernel, by decide +kernel, by decide +kernel⟩

theorem witness_StepsSuppliesAndMargins_b :
    ((wG [] fPorts).dev.commit.grants = [tGrant [5, 6]] ∧ 16 ≤ (tGrant [5, 6]).slot ∧ (wG [] fPorts).dev.commit.reverts = [] ∧
     (∀ (c : ImmCommit), (tGrant [5, 6]).imm = some c → c.opcode = 0)) ∧
    ((wG [] fPorts).dev.commit.grants ≠ []) ∧
    (wLeft.dev.power.configDone = true ∧ wLeft.dev.commit.grants = [] ∧ wLeft.dev.frozen 8 = false ∧
     (5 < 44 ∧ wLeft.dev.powersUp 5 = true ∧ Store.find (K.portPower 5) wLeft.dev.staged ≠ none) ∧
     (wLeft.dev.elapse msTicks).commitRefused { groups := 2 ^ 8, mode := 0, slot := 0, rsv := 0, inst := 0, nsBad := false } [] = none) ∧
    (wStop.dev.clock.mtRun = false ∧ wStop.dev.nat K.ageAvsFloor ≤ 850) ∧
    ((wStop.on fun x => x.setPower fPast).dev.clock.mtRun = false ∧ (wStop.on fun x => x.setPower fPast).dev.nat K.ageAvsFloor ≤ 850) ∧
    (((wF 2 [] id).dev.up = false ∨ (wF 2 [] id).dev.asleep = true ∨ (wF 2 [] id).dev.nat K.cellarOpMinutes < (wF 2 [] id).dev.nat K.ageLastReplan + (wF 2 [] id).dev.nat K.ageReplanDays * 1440)) :=
  ⟨by decide +kernel, by decide +kernel, by decide +kernel, by decide +kernel, by decide +kernel, by decide +kernel⟩

theorem witness_StepsSuppliesAndMargins_c :
    ((wF 0 [] id).dev.up = true ∧ (wF 0 [] id).dev.asleep = false ∧
     (wF 0 [] id).dev.nat K.ageLastReplan + (wF 0 [] id).dev.nat K.ageReplanDays * 1440 ≤ (wF 0 [] id).dev.nat K.cellarOpMinutes) ∧
    ((wF 0 [] id).writes (tHdr false 2 K.ageReplanNow [1]) K.ageReplanNow [1]) ∧
    ((wF 0 [] id).dev.power.avsRetry = none) ∧
    ((wF 0 [(K.ageAvsNow, 700), (K.ageAvsFloor, 655)] fRetry).dev.power.avsRetry = some 700) ∧
    (let a := wF 0 [(K.ageAvsNow, 700), (K.ageAvsFloor, 655)] fRetry
     a.dev.power.avsRetry = some 700 ∧ 650 ≤ a.dev.nat K.ageAvsNow ∧ a.dev.nat K.ageAvsNow ≤ 850 ∧ 650 ≤ a.dev.nat K.ageAvsFloor ∧
     a.dev.nat K.ageAvsFloor ≤ 850) ∧
    ((wF 0 [] id).dev.power.entry = none) :=
  ⟨by decide +kernel, (tWrites _ _ _ _ (by decide +kernel) (by decide +kernel)), by decide +kernel, by decide +kernel, by decide +kernel,
   by decide +kernel⟩

theorem witness_StepsSuppliesAndMargins_d :
    ((wF 0 [] fLow).dev.power.entry = none) ∧
    (let a := (wF 0 [] fLow).dev.railRange 8
     (8 = 0 ∨ 7 < 8 ∨ a.1 ≤ 2600 ∧ 2600 ≤ a.2)) ∧
    (let a := (wF 0 [] fLow).dev.railRange 7
     (¬(a.1 ≤ 2600 ∧ 2600 ≤ a.2)) ∧ (wF 0 [] fLow).dev.nat K.fbRailFaults < 2 ^ 32 - 1) :=
  ⟨by decide +kernel, by decide +kernel, by decide +kernel⟩

theorem witness_ThirdWatchdogStartIsSafe :
    (1550 ≤ ({ loSel := 1, vddio := 3300 } : Straps).vddio ∧ 1 ≤ (wR 3 2).dev.power.held ∧ (wR 3 2).dev.power.held ≤ 3 ∧
     (wR 3 2).dev.keyhole.cellarGen ≠ none ∧ (wR 3 2).dev.num K.fbSafeStart = 0 ∧ (wR 3 2).dev.power.cause = 3) ∧
    (1550 ≤ ({ loSel := 1, vddio := 3300 } : Straps).vddio ∧ 1 ≤ (wR 3 1).dev.power.held ∧ (wR 3 1).dev.power.held ≤ 3 ∧
     (wR 3 1).dev.keyhole.cellarGen ≠ none ∧ (wR 3 1).dev.num K.fbSafeStart = 0 ∧ (wR 3 1).dev.power.cause = 3) ∧
    (1550 ≤ ({ loSel := 1, vddio := 3300 } : Straps).vddio ∧ 1 ≤ (wR 2 2).dev.power.held ∧ (wR 2 2).dev.power.held ≤ 3 ∧
     (wR 2 2).dev.keyhole.cellarGen ≠ none ∧ (wR 2 2).dev.num K.fbSafeStart = 0 ∧ (wR 2 2).dev.power.cause ≠ 3) ∧
    (let a := wC [(K.fbSafeStart, 1), (K.inPvid 3, 5)] id
     a.dev.power.held = 0 ∧ a.dev.power.imageAt ≠ none ∧ a.dev.clock.mtRun = true ∧ a.dev.power.configDone = false ∧ a.dev.num K.fbSafeStart = 1) ∧
    (w1.dev.cellar.starts = []) ∧
    ((wR 1 2).dev.cellar.starts = [300 * 32768] ++ [301 * 32768]) :=
  ⟨by decide +kernel, by decide +kernel, by decide +kernel, by decide +kernel, by decide +kernel, by decide +kernel⟩

theorem witness_ResetsStartsCellarAndStore_a :
    (let a := wN [(K.cellarOpMinutes, 7), (K.inPvid 3, 5)] id
     (a.dev.power.held = 0 ∨ 4 ≤ a.dev.power.held)) ∧
    ((wN [(K.cellarOpMinutes, 7), (K.inPvid 3, 5)] id).dev.power.held = 0) ∧
    ((wN [] fun x => x.setPower (fHeld 4)).dev.power.held = 4) ∧
    (((wN [(K.cellarOpMinutes, 7)] fun x => x.setPower (fHeld 4)).dev.power.held = 0 ∨ 4 ≤ (wN [(K.cellarOpMinutes, 7)] fun x => x.setPower (fHeld 4)).dev.power.held)) ∧
    (((wN [(K.cellarOpMinutes, 7)] fun x => x.setPower fun p => { p with held := 4 }).dev.power.held = 0 ∨ 4 ≤ (wN [(K.cellarOpMinutes, 7)] fun x => x.setPower fun p => { p with held := 4 }).dev.power.held)) ∧
    ((w1.dev.power.held ≠ 0 ∨ w1.dev.keyhole.recovery = true ∨ w1.dev.study.haltedAt = [none, none, none, none] ∧ (w1.dev.power.configDone = true ∨ w1.dev.power.imageAt = none))) :=
  ⟨by decide +kernel, by decide +kernel, by decide +kernel, by decide +kernel, by decide +kernel, by decide +kernel⟩

theorem witness_ResetsStartsCellarAndStore_b :
    (let a := wHalt [none, none, none, some 700] id
     a.dev.power.held = 0 ∧ a.dev.keyhole.recovery = false ∧ a.dev.power.configDone = true ∧ a.dev.study.haltedAt = [none, none, none, some 700]) ∧
    (let a := wHalt [some 800, some 700, none, none] id
     a.dev.power.held = 0 ∧ a.dev.keyhole.recovery = false ∧ a.dev.power.configDone = true ∧
     a.dev.study.haltedAt = [some 800, some 700, none, none]) ∧
    (let a := wHalt [none, none, none, none] fNoCfg
     a.dev.power.held = 0 ∧ a.dev.keyhole.recovery = false ∧ a.dev.power.configDone = false ∧ a.dev.power.imageAt = some 700 ∧
     a.dev.study.haltedAt = [none, none, none, none]) ∧
    (1550 ≤ ({ loSel := 1, vddio := 3300 } : Straps).vddio ∧ 1 ≤ (wR 1 0).dev.power.held ∧ (wR 1 0).dev.power.held ≤ 3 ∧
     (wR 1 0).dev.keyhole.cellarGen ≠ none ∧ (wR 1 0).dev.keyhole.provisioned = false ∧ (wR 1 0).dev.keyhole.recovery = false ∧
     (wR 1 0).dev.power.imageAt = none ∧ (wR 1 0).dev.study.flag < 2 ∧ (wR 1 0).dev.attic.reports = [] ∧
     (wR 1 0).dev.nat K.cellarPowerCycles < 2 ^ 32 - 1) ∧
    (1550 ≤ ({ loSel := 1, vddio := 3300 } : Straps).vddio ∧ 1 ≤ (sImg (tImage 5) [1]).dev.power.held ∧
     (sImg (tImage 5) [1]).dev.power.held ≤ 3 ∧ (sImg (tImage 5) [1]).dev.keyhole.cellarGen ≠ none ∧
     (sImg (tImage 5) [1]).dev.keyhole.provisioned = false ∧ (sImg (tImage 5) [1]).dev.keyhole.recovery = false ∧
     (sImg (tImage 5) [1]).dev.power.imageAt = none ∧ (sImg (tImage 5) [1]).dev.study.flag < 2 ∧ (sImg (tImage 5) [1]).dev.attic.reports = [] ∧
     (sImg (tImage 5) [1]).dev.nat K.cellarPowerCycles < 2 ^ 32 - 1) ∧
    (1550 ≤ ({ loSel := 1, vddio := 3300 } : Straps).vddio ∧ 1 ≤ (sImg [1] (tImage 5)).dev.power.held ∧
     (sImg [1] (tImage 5)).dev.power.held ≤ 3 ∧ (sImg [1] (tImage 5)).dev.keyhole.cellarGen ≠ none ∧
     (sImg [1] (tImage 5)).dev.keyhole.provisioned = false ∧ (sImg [1] (tImage 5)).dev.keyhole.recovery = false ∧
     (sImg [1] (tImage 5)).dev.power.imageAt = none ∧ (sImg [1] (tImage 5)).dev.study.flag < 2 ∧ (sImg [1] (tImage 5)).dev.attic.reports = [] ∧
     (sImg [1] (tImage 5)).dev.nat K.cellarPowerCycles < 2 ^ 32 - 1) :=
  ⟨by decide +kernel, by decide +kernel, by decide +kernel, by decide +kernel, by decide +kernel, by decide +kernel⟩

theorem witness_ResetsStartsCellarAndStore_c :
    (let a := sImg (tImage 6) (tImage 5)
     1550 ≤ ({ loSel := 1, vddio := 1800 } : Straps).vddio ∧ 1 ≤ a.dev.power.held ∧ a.dev.power.held ≤ 3 ∧ a.dev.keyhole.cellarGen ≠ none ∧
     a.dev.keyhole.provisioned = false ∧ a.dev.keyhole.recovery = false ∧ a.dev.power.imageAt = none ∧ a.dev.study.flag < 2 ∧
     a.dev.attic.reports = [] ∧ a.dev.nat K.cellarPowerCycles < 2 ^ 32 - 1) ∧
    ((w1.dev.power.held = 0 ∨ w1.dev.power.held = 4 ∨ ({ loSel := 1, vddio := 3300 } : Straps).vddio < 1550)) ∧
    (((wL [] id).dev.power.held ≠ 0 ∨ (wL [] id).dev.nat K.hearthLock = 1 ∨ (wL [] id).dev.nat K.fbState = 4)) ∧
    (let a := wNoLock [(K.ageAvsFloor, 650)] id
     a.dev.power.held = 0 ∧ a.dev.nat K.hearthLock = 0 ∧ a.dev.nat K.fbState ≠ 4 ∧ a.dev.nat K.mtState = 0 ∧ 650 ≤ a.dev.nat K.ageAvsFloor ∧
     a.dev.nat K.ageAvsFloor ≤ 850 ∧ (a.dev.elapse (2 * msTicks)).seedValid = false) ∧
    (let a := wNoLock [(K.ageAvsFloor, 760), (K.ageAvsNow, 750), (K.cellarSeedPpm, 0), (K.cellarSnapUnc, 1000)] tSnap
     (a.dev.elapse (2 * msTicks)).seedValid = true ∧ a.dev.power.held = 0 ∧ a.dev.nat K.hearthLock = 0 ∧ a.dev.nat K.fbState ≠ 4 ∧
     a.dev.nat K.mtState = 0 ∧ 650 ≤ a.dev.nat K.ageAvsFloor ∧ a.dev.nat K.ageAvsFloor ≤ 850) ∧
    (let a := wN [(K.hearthLock, 2)] id
     a.dev.power.held = 0 ∧ 2 ≤ a.dev.nat K.hearthLock ∧ a.dev.nat K.fbState ≠ 4) :=
  ⟨by decide +kernel, by decide +kernel, by decide +kernel, by decide +kernel, ⟨tSeed, by decide +kernel⟩, by decide +kernel⟩

theorem witness_ResetsStartsCellarAndStore_d :
    ((wR 1 0).dev.up = false) ∧
    ((wN [] id).dev.up = true ∧ (wN [] id).dev.nat K.cellarOpMinutes < 2 ^ 32 - 1) ∧
    ((wN [] id).dev.up = true ∧ (wN [] id).dev.asleep = false ∧ (wN [] id).dev.nat K.hearthLock = 1) ∧
    (((wN [] id).dev.clock.mtRun = false ∨ (wN [] id).dev.nat K.mtState ≠ 3 ∧ (wN [] id).dev.nat K.mtState ≠ 4)) ∧
    (let a := wN [(K.mtState, 3)] id
     a.dev.clock.mtRun = true ∧ (a.dev.nat K.mtState = 3 ∨ a.dev.nat K.mtState = 4) ∧ a.dev.nat K.mtState = 3) ∧
    (bit ((wN [(K.khTamper, 8)] id).dev.nat K.khTamper) 3 = true) :=
  ⟨by decide +kernel, by decide +kernel, by decide +kernel, by decide +kernel, by decide +kernel, by decide +kernel⟩

theorem witness_ResetsStartsCellarAndStore_e :
    (let a := wN [(K.khTamper, 1)] id
     bit (a.dev.nat K.khTamper) 3 = false ∧ a.dev.asleep = false ∧ a.dev.power.entry = none) ∧
    (let b := tHdr true 2 K.cfgSave [1]
     let a := (wK 3 1 [] id).asWritten b K.cfgSave [1]
     (wK 3 1 [] id).writes b K.cfgSave [1] ∧ a.lock = 3 ∧ a.study.saving = none ∧ a.nat K.khLifecycle = 1) ∧
    (let b := tHdr true 2 K.cfgSave [1]
     let a := (wK 3 2 [] id).asWritten b K.cfgSave [1]
     (wK 3 2 [] id).writes b K.cfgSave [1] ∧ a.lock = 3 ∧ (a.study.saving ≠ none ∨ a.nat K.khLifecycle ≠ 1)) ∧
    (let a := tHdr true 2 K.cfgErase [1]
     (wK 3 1 [] id).writes a K.cfgErase [1] ∧ ((wK 3 1 [] id).asWritten a K.cfgErase [1]).lock = 3) ∧
    ((w1.dev.study.saving = none ∨ w1.dev.coreRuns 3 = false)) ∧
    ((wSaved [none, none]).dev.study.saving = some 400 ∧ (wSaved [none, none]).dev.coreRuns 3 = true ∧
     (wSaved [none, none]).dev.study.cfg.length = 2) :=
  ⟨by decide +kernel, ⟨(tWrites _ _ _ _ (by decide +kernel) (by decide +kernel)), by decide +kernel⟩,
   ⟨(tWrites _ _ _ _ (by decide +kernel) (by decide +kernel)), by decide +kernel⟩, ⟨(tWrites _ _ _ _ (by decide +kernel) (by decide +kernel)),
   by decide +kernel⟩, by decide +kernel, by decide +kernel⟩

theorem witness_ResetsStartsCellarAndStore_f :
    (let a := wSaved [some (tCfg 4 true), some (tCfg 9 true)]
     a.dev.study.saving = some 400 ∧ a.dev.coreRuns 3 = true ∧ a.dev.study.cfg.length = 2) ∧
    ((w1.dev.power.held ≠ 0 ∨ w1.dev.power.imageAt = none ∨ w1.dev.clock.mtRun = false ∨ w1.dev.power.configDone = true)) ∧
    ((wC [] id).dev.power.held = 0 ∧ (wC [] id).dev.power.imageAt ≠ none ∧ (wC [] id).dev.clock.mtRun = true ∧
     (wC [] id).dev.power.configDone = false ∧ (wC [] id).dev.num K.fbSafeStart ≠ 1 ∧ (wC [] id).dev.newestCfg = none) ∧
    (let a := sCfg [some (tCfg 4 false), none]
     a.dev.power.held = 0 ∧ a.dev.power.imageAt ≠ none ∧ a.dev.clock.mtRun = true ∧ a.dev.power.configDone = false ∧
     a.dev.num K.fbSafeStart ≠ 1 ∧ a.dev.newestCfg = none) ∧
    (let a := sCfg [some (tCfg 4 false), some (tCfg 3 true)]
     a.dev.power.held = 0 ∧ a.dev.power.imageAt ≠ none ∧ a.dev.clock.mtRun = true ∧ a.dev.power.configDone = false ∧
     a.dev.num K.fbSafeStart ≠ 1 ∧ a.dev.newestCfg = some (tCfg 3 true)) ∧
    (let a := sCfg [some (tCfg 4 false), some { (tCfg 3 true) with vals := tObj [(K.fbIdleTime, 5), (K.fbStepGap, 60)] }]
     a.dev.power.held = 0 ∧ a.dev.power.imageAt ≠ none ∧ a.dev.clock.mtRun = true ∧ a.dev.power.configDone = false ∧
     a.dev.num K.fbSafeStart ≠ 1 ∧ a.dev.newestCfg = some { (tCfg 3 true) with vals := tObj [(K.fbIdleTime, 5), (K.fbStepGap, 60)] }) :=
  ⟨by decide +kernel, by decide +kernel, by decide +kernel, by decide +kernel, by decide +kernel, by decide +kernel⟩

end Sys2Proof.Tests
end

section
/-! Chapter 3, the count of MT. First what `signed`, the passage of ticks and an idle step do, each said once; then O20. -/

namespace Sys2Proof.Machine

/-! ## A sign times a magnitude -/

/-- The remainder 0 has no sign, so a magnitude taken from it must be 0 as well. -/
theorem natAbs_signed {r : Int} {m : Nat} (h : m ≤ r.natAbs) : (signed r m).natAbs = m := by
  unfold signed
  split_ifs <;> omega

theorem signed_nonneg {r : Int} (h : 0 ≤ r) (m : Nat) : 0 ≤ signed r m := by
  unfold signed
  split_ifs <;> omega

theorem signed_nonpos {r : Int} (h : r ≤ 0) (m : Nat) : signed r m ≤ 0 := by
  unfold signed
  split_ifs <;> omega

/-! ## A of one tick (R75, R83) -/

theorem Device.natAbs_rateAdj (d : Device) : d.rateAdj.natAbs = min d.clock.pull.natAbs d.aMax :=
  natAbs_signed (Nat.min_le_left _ _)

/-- What one tick applies of MT's remainder is the A that a read shows. -/
@[simp] theorem Device.pullOver_one (d : Device) : pullOver d.clock.pull d.aMax 1 = d.rateAdj := by
  simp only [pullOver, Device.rateAdj, Nat.one_mul]

@[simp] theorem Device.mtGain_one (d : Device) : d.mtGain 1 = (4 * 2 ^ 48 + 5 * d.rateAdj).toNat := by
  simp only [Device.mtGain, Device.pullOver_one, tickU]
  norm_num

/-- MT_RATE_ADJ lies behind the three readings of time in 0x2500 (R77). -/
theorem Device.derivedTime_mtRateAdj (d : Device) : d.derivedTime 0x2500 6 = some d.rateAdj := by
  simp [Device.derivedTime, K.mtNow, K.mtNowUtc, K.mtNowGps, K.mtRateAdj]

/-! ## What n ticks do to the clocks -/

section Elapse
variable (d : Device) (n : Nat)

/-- The passage of time touches the clocks alone. -/
theorem Device.elapse_frame : d.elapse n = { d with clock := (d.elapse n).clock } := rfl

@[simp] theorem Device.elapse_ticks : (d.elapse n).clock.ticks = d.clock.ticks + n := rfl

variable {d}

theorem Device.elapse_mt_of_run (h : d.clock.mtRun = true) : (d.elapse n).clock.mt = d.clock.mt + d.mtGain n := by
  simp [Device.elapse, h]

theorem Device.elapse_pull_of_run (h : d.clock.mtRun = true) :
    (d.elapse n).clock.pull = d.clock.pull - pullOver d.clock.pull d.aMax n := by
  simp [Device.elapse, h]

theorem Device.elapse_mt_of_stopped (h : d.clock.mtRun = false) : (d.elapse n).clock.mt = d.clock.mt := by
  simp [Device.elapse, h]

theorem Device.elapse_pull_of_stopped (h : d.clock.mtRun = false) : (d.elapse n).clock.pull = d.clock.pull := by
  simp [Device.elapse, h]

end Elapse

/-! ## The step with no command waiting -/

theorem step_of_pending_nil {s : State} (h : s.pending = []) : step s = .next (s.on (·.elapse 1)) := by
  unfold step
  rw [h]
  rfl

/-- R75 and R83 on one tick of a running MT: its gain, what the remainder loses, and the A that both share. -/
theorem Device.elapse_one_of_run {d : Device} (h : d.clock.mtRun = true) :
    (d.elapse 1).clock.mt = d.clock.mt + (4 * 2 ^ 48 + 5 * d.rateAdj).toNat ∧ (d.elapse 1).clock.pull = d.clock.pull - d.rateAdj :=
  ⟨by rw [Device.elapse_mt_of_run 1 h, Device.mtGain_one], by rw [Device.elapse_pull_of_run 1 h, Device.pullOver_one]⟩

/-- Settles O20: an idle step is one tick, and A is the pull remainder's sign times the lesser of it and the slope limit's adjustment. -/
theorem mtCountsEveryTick : Obligations.MtCountsEveryTick := by
  intro s hs
  refine ⟨s.on (·.elapse 1), step_of_pending_nil hs, hs, s.dev.elapse_frame 1, s.dev.elapse_ticks 1, fun hrun => ?running, fun hstop => ?stopped⟩
  case running =>
    obtain ⟨hmt, hpull⟩ := Device.elapse_one_of_run hrun
    exact ⟨hmt, hpull, s.dev.natAbs_rateAdj, s.dev.derivedTime_mtRateAdj,
      fun h => signed_nonneg h _, fun h => signed_nonpos h _⟩
  case stopped => exact ⟨Device.elapse_mt_of_stopped 1 hstop, Device.elapse_pull_of_stopped 1 hstop⟩

end Sys2Proof.Machine
end

section
/-! Chapter 21, the starts of cause 3 (R557). The count of them rests on CELLAR_COUNT, the Cellar's list and two objects, and a start runs
through the Attic, the key store and the images, none of which touches those. So first what a run of operations leaves alone is said once, as
an equation of two views of the part; then O59. -/

namespace Sys2Proof.Machine

/-! ## What a run of operations leaves alone -/

/-- What is watched of a part: the clocks, the staged values, the starts of cause 3 and the live values of some objects. -/
structure Watched (W : Nat → Bool) where
  clock : Clock
  staged : Store
  starts : List Nat
  val : { k // W k = true } → Val

/-- The part, as far as it is watched. -/
def Device.watch (W : Nat → Bool) (d : Device) : Watched W := ⟨d.clock, d.staged, d.cellar.starts, fun k => d.val k⟩

section Watch
variable {W : Nat → Bool} {d e : Device}

theorem clock_of_watch (h : e.watch W = d.watch W) : e.clock = d.clock := congrArg Watched.clock h
theorem staged_of_watch (h : e.watch W = d.watch W) : e.staged = d.staged := congrArg Watched.staged h
theorem starts_of_watch (h : e.watch W = d.watch W) : e.cellar.starts = d.cellar.starts := congrArg Watched.starts h
theorem val_of_watch (h : e.watch W = d.watch W) {k : Nat} (hk : W k = true) : e.val k = d.val k := congrFun (congrArg Watched.val h) ⟨k, hk⟩

theorem cellarCount_of_clock (h : e.clock = d.clock) : e.cellarCount = d.cellarCount := by
  rw [Device.cellarCount, h, Device.cellarCount]

theorem cellarCount_of_watch (h : e.watch W = d.watch W) : e.cellarCount = d.cellarCount := cellarCount_of_clock (clock_of_watch h)

theorem num_of_watch (h : e.watch W = d.watch W) {k : Nat} (hk : W k = true) : e.num k = d.num k := congrArg Val.int (val_of_watch h hk)
theorem nat_of_watch (h : e.watch W = d.watch W) {k : Nat} (hk : W k = true) : e.nat k = d.nat k := congrArg Int.toNat (num_of_watch h hk)

variable (d)

@[simp] theorem Device.watch_report (code : Nat) (p : List Int) : (d.report code p).watch W = d.watch W := (rfl)
@[simp] theorem Device.watch_setPower (f : Power → Power) : (d.setPower f).watch W = d.watch W := (rfl)
@[simp] theorem Device.watch_setAttic (f : Attic → Attic) : (d.setAttic f).watch W = d.watch W := (rfl)
@[simp] theorem Device.watch_setStudy (f : Study → Study) : (d.setStudy f).watch W = d.watch W := (rfl)
@[simp] theorem Device.watch_setKeyhole (f : Keyhole → Keyhole) : (d.setKeyhole f).watch W = d.watch W := (rfl)
@[simp] theorem Device.watch_setFoyer (f : Foyer → Foyer) : (d.setFoyer f).watch W = d.watch W := (rfl)
@[simp] theorem Device.watch_setLedger (f : Ledger → Ledger) : (d.setLedger f).watch W = d.watch W := (rfl)
@[simp] theorem Device.watch_setBatch (id : Nat) (f : Batch → Batch) : (d.setBatch id f).watch W = d.watch W := (rfl)
@[simp] theorem Device.watch_setLane (l : Nat) (f : Lane → Lane) : (d.setLane l f).watch W = d.watch W := (rfl)
@[simp] theorem Device.watch_setJob (id : Nat) (f : Job → Job) : (d.setJob id f).watch W = d.watch W := (rfl)
@[simp] theorem Device.watch_setKey (k : Nat) (b : Bytes) : (d.setKey k b).watch W = d.watch W := (rfl)
@[simp] theorem Device.watch_drawBytes (n : Nat) : (d.drawBytes n).2.watch W = d.watch W := (rfl)
@[simp] theorem Device.watch_spoilStores (f : StoreFaults) : (d.spoilStores f).watch W = d.watch W := (rfl)

theorem Device.watch_setCellar (f : Cellar → Cellar) (h : (f d.cellar).starts = d.cellar.starts) : (d.setCellar f).watch W = d.watch W := by
  simp only [Device.watch, Device.setCellar_cellar, h]
  rfl

@[simp] theorem Device.watch_reportOnce (key code : Nat) (p : List Int) : (d.reportOnce key code p).watch W = d.watch W := by
  unfold Device.reportOnce
  dsimp only
  split
  · split <;> rfl
  · rfl

variable {k : Nat}

@[simp] theorem Device.watch_setVal (v : Val) (h : W k = false) : (d.setVal k v).watch W = d.watch W := by
  have hval : ∀ j : { k // W k = true }, (d.setVal k v).val j = d.val j := fun j =>
    d.val_setVal_ne v fun hj => Bool.false_ne_true (h.symm.trans (hj ▸ j.2))
  simp only [Device.watch, hval, Device.setVal_clock, Device.setVal_staged, Device.setVal_cellar]

@[simp] theorem Device.watch_setNum (v : Int) (h : W k = false) : (d.setNum k v).watch W = d.watch W := d.watch_setVal _ h
@[simp] theorem Device.watch_setOct (b : Bytes) (h : W k = false) : (d.setOct k b).watch W = d.watch W := d.watch_setVal _ h
@[simp] theorem Device.watch_bumpBy (w n : Nat) (h : W k = false) : (d.bumpBy w k n).watch W = d.watch W := d.watch_setNum _ h
@[simp] theorem Device.watch_bump (h : W k = false) : (d.bump k).watch W = d.watch W := d.watch_setNum _ h
@[simp] theorem Device.watch_bump64 (h : W k = false) : (d.bump64 k).watch W = d.watch W := d.watch_setNum _ h

theorem Device.watch_setNums (l : List (Nat × Int)) (h : ∀ x ∈ l, W x.1 = false) : (d.setNums l).watch W = d.watch W := by
  induction l generalizing d with
  | nil => rfl
  | cons x l ih =>
    obtain ⟨hx, hl⟩ := List.forall_mem_cons.mp h
    exact (ih _ hl).trans (d.watch_setNum _ hx)

/-- A fold of operations that leave what is watched alone. -/
theorem Device.watch_foldl {α : Type} {f : Device → α → Device} (l : List α) (h : ∀ e, ∀ a ∈ l, (f e a).watch W = e.watch W) :
    (l.foldl f d).watch W = d.watch W := by
  induction l generalizing d with
  | nil => rfl
  | cons a l ih =>
    exact (ih _ fun e b hb => h e b (List.mem_cons_of_mem a hb)).trans (h d a List.mem_cons_self)

end Watch

/-! ## The starts of cause 3 (R557) -/

/-- The two objects that tell of the starts of cause 3. -/
def startKey (k : Nat) : Bool := k = K.fbSafeStart || k = K.fbWdtStarts

/-- Their index lies below Keyhole's. -/
theorem startKey_of_le {k : Nat} (h : 0x5100 * 256 ≤ k) : startKey k = false := by
  have hne : k ≠ K.fbSafeStart ∧ k ≠ K.fbWdtStarts := by
    simp only [K.fbSafeStart, K.fbWdtStarts]
    omega
  simp [startKey, hne]

section Starts
variable (d : Device)

theorem Device.jobTo_keepsStarts (id st : Nat) : (d.jobTo id st).watch startKey = d.watch startKey := by
  unfold Device.jobTo
  split
  · rfl
  · dsimp only
    split <;> simp (disch := decide)

theorem Device.putLane_keepsStarts (l st : Nat) : (d.putLane l st).watch startKey = d.watch startKey := by
  simp (disch := decide) [Device.putLane]

theorem Device.laneFollow_keepsStarts (l : Nat) : (d.laneFollow l).watch startKey = d.watch startKey := by
  unfold Device.laneFollow
  split
  · rfl
  · exact d.putLane_keepsStarts ..

theorem Device.resumeTop_keepsStarts (l : Nat) : (d.resumeTop l).watch startKey = d.watch startKey := by
  unfold Device.resumeTop
  split
  · exact d.laneFollow_keepsStarts l
  · rw [Device.laneFollow_keepsStarts]
    split
    · split
      · rw [Device.watch_setJob, Device.jobTo_keepsStarts]
      · rfl
    · rfl

theorem Device.unbook_keepsStarts (l : Nat) : (d.unbook l).watch startKey = d.watch startKey :=
  (Device.resumeTop_keepsStarts _ l).trans (d.watch_setLane l _)

theorem Device.batchDone_keepsStarts (id : Nat) : (d.batchDone id).watch startKey = d.watch startKey := by
  unfold Device.batchDone
  split
  · rfl
  · dsimp only
    split
    · rfl
    · split <;> simp (disch := decide)

theorem Device.failBatch_keepsStarts (b : Batch) (cause : Nat) : (d.failBatch b cause).watch startKey = d.watch startKey := by
  unfold Device.failBatch
  dsimp only
  rw [Device.batchDone_keepsStarts, Device.watch_report, Device.watch_bump _ (by decide)]
  split
  · split <;> simp (disch := decide) [Device.unbook_keepsStarts]
  · simp (disch := decide)

theorem Device.noteLoss_keepsStarts (d0 : Device) : (d.noteLoss d0).watch startKey = d.watch startKey :=
  d.watch_foldl _ fun e r _ => e.watch_report r.1 r.2

theorem Device.keysFollow_keepsStarts (d0 : Device) : (d.keysFollow d0).watch startKey = d.watch startKey :=
  (Device.noteLoss_keepsStarts _ d0).trans (d.watch_foldl _ fun e b _ => e.failBatch_keepsStarts b 5)

/-! ### The key store -/

theorem Device.setSlot_keepsStarts (k st typ use id : Nat) (pub : Bytes) :
    (d.setSlot k st typ use id pub).watch startKey = d.watch startKey := by
  have hk : ∀ j : Nat, startKey ((0x5140 + k) * 256 + j) = false := fun j => startKey_of_le (by omega)
  exact (Device.keysFollow_keepsStarts _ d).trans <| (Device.watch_setOct _ _ (hk 5)).trans <| d.watch_setNums _ <| by
    simp [K.ksState, K.ksType, K.ksUse, K.ksKeyId, hk]

theorem Device.setKsState_keepsStarts (k : Nat) (st : Int) : (d.setNum (K.ksState k) st).watch startKey = d.watch startKey :=
  d.watch_setNum st (startKey_of_le (by simp only [K.ksState]; omega))

theorem Device.followLock_keepsStarts : d.followLock.watch startKey = d.watch startKey := by
  refine (Device.keysFollow_keepsStarts _ d).trans (d.watch_foldl _ fun e k _ => ?_)
  split
  · split
    · exact e.setKsState_keepsStarts k _
    · rfl
  · split
    · exact e.setKsState_keepsStarts k _
    · rfl

theorem Device.setTamper_keepsStarts (i : Nat) : (d.setTamper i).watch startKey = d.watch startKey := by
  unfold Device.setTamper
  dsimp only
  split
  · rfl
  · rw [Device.followLock_keepsStarts]
    split
    · refine (Device.watch_setCellar _ (fun c => { c with tamperSince := true }) rfl).trans ?_
      exact (Device.watch_report ..).trans (d.watch_setNum _ (by decide))
    · exact (Device.watch_report ..).trans (d.watch_setNum _ (by decide))

theorem Device.lifeFault_keepsStarts : d.lifeFault.watch startKey = d.watch startKey := by
  rw [Device.lifeFault, Device.watch_report, Device.watch_setNum _ _ (by decide), Device.keysFollow_keepsStarts]
  exact d.watch_foldl _ fun e k _ => e.setKsState_keepsStarts k 3

theorem Device.loadStore_keepsStarts (c : KsCopy) (bad : List Nat) : (d.loadStore c bad).watch startKey = d.watch startKey := by
  unfold Device.loadStore
  dsimp only
  rw [Device.followLock_keepsStarts]
  simp (disch := decide) only [Device.setNums, Device.watch_setKeyhole, Device.watch_setNum, Device.watch_setOct]
  refine d.watch_foldl _ fun e x _ => ?_
  split
  · rfl
  · split
    · exact (Device.watch_report ..).trans (e.setSlot_keepsStarts ..)
    · exact (Device.watch_setKey ..).trans (e.setSlot_keepsStarts ..)

theorem Device.recoverStore_keepsStarts (puf : Bool) (bad : List Nat) : (d.recoverStore puf bad).watch startKey = d.watch startKey := by
  unfold Device.recoverStore
  generalize hd0 : d.setNum K.khOwnerCosign _ = d0
  have h0 : d0.watch startKey = d.watch startKey := hd0 ▸ d.watch_setNum _ (by decide)
  rw [← h0]
  dsimp only
  split
  · simp (disch := decide)
  · split
    · exact d0.lifeFault_keepsStarts
    · split
      · exact (Device.lifeFault_keepsStarts _).trans (d0.setTamper_keepsStarts 4)
      · split
        · exact (Device.lifeFault_keepsStarts _).trans ((Device.setTamper_keepsStarts _ 4).trans (d0.watch_report ..))
        · split
          · exact d0.loadStore_keepsStarts _ bad
          · rfl

/-! ### The images -/

theorem Device.tryImage_keepsStarts (loc : Nat) (second vendor : Bool) : (d.tryImage loc second vendor).watch startKey = d.watch startKey := by
  unfold Device.tryImage
  split
  · rfl
  · dsimp only
    split <;> simp (disch := decide)

theorem Device.followLocs_keepsStarts : d.followLocs.watch startKey = d.watch startKey := by
  simp (disch := decide) [Device.followLocs]

theorem Device.verifyImages_keepsStarts (vendor : List Bool) : (d.verifyImages vendor).watch startKey = d.watch startKey := by
  unfold Device.verifyImages
  dsimp only
  rw [Device.followLocs_keepsStarts]
  split
  all_goals simp (disch := decide) [Device.tryImage_keepsStarts]

/-! ### The Attic and the entropy source -/

theorem Device.atticFollow_keepsStarts : d.atticFollow.watch startKey = d.watch startKey := by
  simp (disch := decide) [Device.atticFollow, Device.setNums]

theorem Device.noteFull_keepsStarts : d.noteFull.watch startKey = d.watch startKey := by
  unfold Device.noteFull
  split <;> simp

theorem Device.setFlashState_keepsStarts (st : Nat) : (d.setFlashState st).watch startKey = d.watch startKey := by
  unfold Device.setFlashState
  dsimp only
  split
  · rfl
  · split
    · simp (disch := decide)
    · rw [Device.atticFollow_keepsStarts, Device.noteFull_keepsStarts]
      split <;> simp (disch := decide)

theorem Device.scanBad_keepsStarts : d.scanBad.watch startKey = d.watch startKey := by
  unfold Device.scanBad
  dsimp only
  split
  · rfl
  · rw [Device.setFlashState_keepsStarts, Device.watch_setNum _ _ (by decide)]

/-- What the Attic finds at a start that VBAT outlived. -/
theorem Device.atticStart_keepsStarts : (d.atticStart false).watch startKey = d.watch startKey := by
  unfold Device.atticStart
  extract_lets best cleared d1 a flashed kept missing d2 d3 lost d4 d5
  have h3 : d3.watch startKey = d2.watch startKey := by
    simp only [d3]
    split <;> rfl
  have h4 : d4.watch startKey = d3.watch startKey := by
    simp only [d4]
    split <;> rfl
  have h5 : d5.watch startKey = d4.watch startKey := by
    simp only [d5]
    split <;> rfl
  have h2 : d5.watch startKey = d.watch startKey := h5.trans (h4.trans h3)
  rw [Device.atticFollow_keepsStarts, Device.scanBad_keepsStarts, ← h2]
  split
  · exact d5.watch_setNum _ (by decide)
  · rfl

theorem Device.entropyFailed_keepsStarts (kind : Nat) : (d.entropyFailed kind).watch startKey = d.watch startKey := by
  simp (disch := decide) [Device.entropyFailed]

theorem Device.freshNonce_keepsStarts : d.freshNonce.watch startKey = d.watch startKey := by
  unfold Device.freshNonce
  split
  · rfl
  · exact (Device.watch_setOct _ _ (by decide)).trans (d.watch_drawBytes 16)

end Starts

section Release
variable {d : Device} {straps : Straps} (entropy puf : Bool) (found : StoreFaults) (shipped : List (Nat × Bytes)) (vendor : List Bool)

/-- R553 with VBAT kept: 1 ms passes, a start of cause 3 is counted (R557), and nothing else of the start bears on the count. -/
theorem Device.release_counts (hv : 1550 ≤ straps.vddio) (hlo : 1 ≤ d.power.held) (hhi : d.power.held ≤ 3) (hg : d.keyhole.cellarGen ≠ none) :
    ∃ e : Device, e.watch startKey = (d.elapse msTicks).watch startKey ∧
      (d.release straps entropy puf found shipped vendor).watch startKey =
        (if d.power.cause = 3 then e.countStart else e).watch startKey := by
  have hrun : ¬ (d.power.held = 0 ∨ d.power.held = 4 ∨ straps.vddio < 1550) := by omega
  have hdeep : d.power.held ≠ 5 := by omega
  unfold Device.release
  rw [if_neg (by simpa [or_assoc] using hrun)]
  extract_lets deep cause r now e cold e1 e2 e3 e4 e5 e6 e7
  have hnd : deep = False := eq_false hdeep
  have hr : r = d := by simp [r, hnd]
  have hc : cause = d.power.cause := by simp [cause, hnd]
  have hcold : cold = false := by simpa [cold, e, hr] using Option.isSome_iff_ne_none.mpr hg
  have h1 : e1.watch startKey = e.watch startKey := by
    simp [e1, hcold, Device.atticStart_keepsStarts]
  have h2 : e2 = e1 := by simp [e2, hnd]
  have h4 : e4.watch startKey = e.watch startKey := by
    simp (disch := decide) [e4, e3, h2, h1, Device.setNums]
  have h6 : e6.watch startKey = e5.watch startKey := by
    simp only [e6]
    split
    · rw [Device.freshNonce_keepsStarts, Device.watch_setKeyhole, Device.watch_setNum _ _ (by decide)]
    · exact e5.entropyFailed_keepsStarts 3
  refine ⟨e4, by rw [h4]; simp [e, hr], ?_⟩
  rw [Device.verifyImages_keepsStarts, Device.recoverStore_keepsStarts, Device.watch_spoilStores]
  rw [show e7.watch startKey = e6.watch startKey from rfl, h6, ← hc]

end Release

/-! ## Counting a start -/

section Count
variable {d e : Device}

/-- The starts of the last 600 s of CELLAR_COUNT. -/
def Device.recentStarts (d : Device) : List Nat := d.cellar.starts.filter (fun n => d.cellarCount < n + 600 * 32768)

theorem recentStarts_of_watch {W : Nat → Bool} (h : e.watch W = d.watch W) : e.recentStarts = d.recentStarts := by
  rw [Device.recentStarts, starts_of_watch h, cellarCount_of_watch h, Device.recentStarts]

theorem Device.countStart_clock (d : Device) : d.countStart.clock = d.clock := by
  unfold Device.countStart
  dsimp only
  split <;> rfl

theorem Device.countStart_starts (d : Device) : d.countStart.cellar.starts = d.recentStarts ++ [d.cellarCount] := by
  unfold Device.countStart
  dsimp only
  split <;> rfl

theorem Device.countStart_wdtStarts (d : Device) : d.countStart.nat K.fbWdtStarts = min 3 (d.recentStarts.length + 1) := by
  have hne : K.fbWdtStarts ≠ K.fbSafeStart := by decide
  unfold Device.countStart
  dsimp only
  split <;> simp [Device.nat_setNum, hne, Device.recentStarts] <;> omega

theorem Device.countStart_safeStart (d : Device) :
    d.countStart.num K.fbSafeStart = if 2 ≤ d.recentStarts.length then 1 else d.num K.fbSafeStart := by
  have hne : K.fbSafeStart ≠ K.fbWdtStarts := by decide
  have h3 : 3 ≤ (d.recentStarts ++ [d.cellarCount]).length ↔ 2 ≤ d.recentStarts.length := by simp
  rw [Device.recentStarts] at h3 ⊢
  unfold Device.countStart
  simp only [h3]
  split <;> simp [Device.num_setNum, hne]

end Count

/-! ## A safe start -/

/-- The objects that a safe start is not to change while it begins to serve: those of a commit group, CFG_STATE and FB_SAFE_START. -/
def safeKey (k : Nat) : Bool := groupOf k ≠ 0 || k = K.cfgState || k = K.fbSafeStart

theorem safeKey_canState {n : Nat} (h : n < 4) : safeKey (K.canState n) = false := by
  decide +revert

theorem safeKey_canBusoffCount {n : Nat} (h : n < 4) : safeKey (K.canBusoffCount n) = false := by
  decide +revert

section Serve
variable (d : Device)

theorem Device.setCan_keepsSafe (st : Nat) {n : Nat} (h : n < 4) : (d.setCan n st).watch safeKey = d.watch safeKey := by
  unfold Device.setCan
  dsimp only
  split
  · rfl
  · split
    · rw [Device.watch_bump _ (safeKey_canBusoffCount h), Device.watch_report, Device.watch_setNum _ _ (safeKey_canState h)]
    · rw [Device.watch_report, Device.watch_setNum _ _ (safeKey_canState h)]

theorem Device.canStart_keepsSafe {n : Nat} (h : n < 4) : (d.canStart n).watch safeKey = d.watch safeKey := by
  unfold Device.canStart
  split
  · exact d.setCan_keepsSafe 1 h
  · rfl

theorem Device.queueStep_keepsSafe (kind : Nat) (exit : Bool) : (d.queueStep kind exit).watch safeKey = d.watch safeKey := by
  unfold Device.queueStep
  dsimp only
  split <;> simp (disch := decide)

/-- R553 step 7: where the part begins to serve it loads nothing. -/
theorem Device.startServing_keepsSafe : d.startServing.watch safeKey = d.watch safeKey := by
  unfold Device.startServing
  dsimp only
  rw [Device.watch_setFoyer, Device.watch_setPower]
  refine (Device.watch_foldl _ _ fun e p _ => ?port).trans (d.watch_foldl _ fun e c hc => e.canStart_keepsSafe (List.mem_range.mp hc))
  case port =>
    split
    · exact e.queueStep_keepsSafe ..
    · rfl

theorem Device.startServing_configDone : d.startServing.power.configDone = true := rfl

variable {d}

/-- R552, R557: in a safe start CONFIG_LOAD shows it and serves. -/
theorem Device.configLoad_safe (stuck : List (Nat × Nat)) (hup : d.power.held = 0) (himg : d.power.imageAt ≠ none) (hmt : d.clock.mtRun = true)
    (hcfg : d.power.configDone = false) (hsafe : d.num K.fbSafeStart = 1) : d.configLoad stuck = (d.setNum K.cfgState 6).startServing := by
  simp [Device.configLoad, Device.up, hup, himg, hmt, hcfg, hsafe]

end Serve

/-! ## The count clears -/

theorem le_ceilDiv_mul {a b : Nat} (h : 0 < b) : a ≤ ceilDiv a b * b := by
  have := Nat.lt_div_mul_add (a := a + b - 1) h
  rw [ceilDiv]
  omega

/-- Time that runs until CELLAR_COUNT reads n takes it there. -/
theorem Device.le_cellarCount_elapse (d : Device) {n : Nat} (h : 0 < xtalTick) : n ≤ (d.elapse (d.ticksToCount n)).cellarCount := by
  have hx : (d.elapse (d.ticksToCount n)).clock.xtal = d.clock.xtal + d.ticksToCount n * xtalTick := by
    unfold Device.elapse
    dsimp only
  have hle : n * xtalU - d.clock.xtal ≤ d.ticksToCount n * xtalTick := le_ceilDiv_mul h
  rw [Device.cellarCount, hx, Nat.le_div_iff_mul_le (by decide)]
  omega

theorem Device.wdtClear_of_no_start {d : Device} (h : d.cellar.starts = []) : d.wdtClear = d := by
  simp [Device.wdtClear, h]

theorem Device.wdtClear_of_last_start {d : Device} {l : List Nat} {n : Nat} (h : d.cellar.starts = l ++ [n]) :
    d.wdtClear = ((d.elapse (d.ticksToCount (n + 600 * 32768))).setCellar (fun c => { c with starts := [] })).setNum K.fbWdtStarts 0 := by
  simp [Device.wdtClear, h]

theorem Device.wdtClear_clock {d : Device} {l : List Nat} {n : Nat} (h : d.cellar.starts = l ++ [n]) :
    d.wdtClear.clock = (d.elapse (d.ticksToCount (n + 600 * 32768))).clock := by
  rw [Device.wdtClear_of_last_start h, Device.setNum_clock, Device.setCellar_clock]

/-! ## The three commands -/

theorem exec_resetRelease_dev (straps : Straps) (entropy puf : Bool) (found : StoreFaults) (shipped : List (Nat × Bytes)) (vendor : List Bool)
    (s : State) : exec (.resetRelease straps entropy puf found shipped vendor) s =
      .next (s.on (·.release straps entropy puf found shipped vendor)) := rfl

theorem exec_configLoad_dev (stuck : List (Nat × Nat)) (s : State) : exec (.configLoad stuck) s = .next (s.on (·.configLoad stuck)) := rfl

theorem exec_wdtStartsClear_dev (s : State) : exec .wdtStartsClear s = .next (s.on (·.wdtClear)) := rfl

section Release
variable {d : Device} {straps : Straps} (entropy puf : Bool) (found : StoreFaults) (shipped : List (Nat × Bytes)) (vendor : List Bool)

/-- R557 for a start of cause 3 with VBAT kept. -/
theorem Device.release_of_cause_three (hv : 1550 ≤ straps.vddio) (hlo : 1 ≤ d.power.held) (hhi : d.power.held ≤ 3)
    (hg : d.keyhole.cellarGen ≠ none) (h0 : d.num K.fbSafeStart = 0) (hc : d.power.cause = 3) :
    let e := d.elapse msTicks
    let t := d.release straps entropy puf found shipped vendor
    t.cellarCount = e.cellarCount ∧ t.cellar.starts = e.recentStarts ++ [e.cellarCount] ∧
      t.nat K.fbWdtStarts = min 3 (e.recentStarts.length + 1) ∧ t.num K.fbSafeStart = if 2 ≤ e.recentStarts.length then 1 else 0 := by
  obtain ⟨f, hf, ht⟩ := Device.release_counts entropy puf found shipped vendor hv hlo hhi hg
  rw [if_pos hc] at ht
  have hf0 : f.num K.fbSafeStart = 0 := (num_of_watch hf (by decide)).trans h0
  dsimp only
  rw [← recentStarts_of_watch hf, ← cellarCount_of_watch hf]
  exact ⟨(cellarCount_of_watch ht).trans (cellarCount_of_clock f.countStart_clock), (starts_of_watch ht).trans f.countStart_starts,
    (nat_of_watch ht (by decide)).trans f.countStart_wdtStarts, by rw [num_of_watch ht (by decide), f.countStart_safeStart, hf0]⟩

/-- A start of another cause with VBAT kept. -/
theorem Device.release_of_other_cause (hv : 1550 ≤ straps.vddio) (hlo : 1 ≤ d.power.held) (hhi : d.power.held ≤ 3)
    (hg : d.keyhole.cellarGen ≠ none) (hc : d.power.cause ≠ 3) :
    (d.release straps entropy puf found shipped vendor).watch startKey = (d.elapse msTicks).watch startKey := by
  obtain ⟨f, hf, ht⟩ := Device.release_counts entropy puf found shipped vendor hv hlo hhi hg
  rw [ht, if_neg hc, hf]

end Release

/-- Settles O59: of all that a start does, the count alone bears on a safe start. -/
theorem thirdWatchdogStartIsSafe : Obligations.ThirdWatchdogStartIsSafe := by
  refine ⟨fun s straps entropy puf found shipped vendor hv hlo hhi hg h0 => ?release, fun s stuck hup himg hmt hcfg hsafe => ?load,
    fun s => ⟨fun h => ?noStart, fun l n h => ?lastStart⟩⟩
  case release =>
    refine ⟨_, exec_resetRelease_dev .., rfl, ?_⟩
    rw [State.on_dev]
    by_cases hc : s.dev.power.cause = 3
    · obtain ⟨hcount, hstarts, hwdt, hsafe⟩ := Device.release_of_cause_three entropy puf found shipped vendor hv hlo hhi hg h0 hc
      refine ⟨hcount, fun _ => ⟨hstarts, hwdt, ?_, ?_⟩, fun hn => absurd hc hn⟩
      · rw [hsafe]
        simp [Device.recentStarts, Nat.succ_le_iff]
      · rw [hsafe]
        exact (ite_eq_or_eq _ _ _).symm
    · have h := Device.release_of_other_cause entropy puf found shipped vendor hv hlo hhi hg hc
      exact ⟨cellarCount_of_watch h, fun hc3 => absurd hc3 hc,
        fun _ => ⟨(starts_of_watch h).trans (congrArg Cellar.starts (s.dev.elapse_cellar msTicks)), (num_of_watch h (by decide)).trans h0,
          (val_of_watch h (by decide)).trans (s.dev.elapse_val ..)⟩⟩
  case load =>
    have hw := Device.startServing_keepsSafe (s.dev.setNum K.cfgState 6)
    refine ⟨_, exec_configLoad_dev .., rfl, ?_⟩
    rw [State.on_dev, Device.configLoad_safe stuck hup himg hmt hcfg hsafe]
    refine ⟨(clock_of_watch hw).trans (Device.setNum_clock ..), ?_, ?_, (staged_of_watch hw).trans (Device.setNum_staged ..),
      Device.startServing_configDone _, fun k hk => ?_⟩
    · rw [nat_of_watch hw (by decide), Device.nat_setNum_self]
      rfl
    · rw [num_of_watch hw (by decide), Device.num_setNum, if_neg (by decide), hsafe]
    · have hne : k ≠ K.cfgState := fun h => hk (h ▸ by decide)
      rw [val_of_watch hw (by simp [safeKey, hk]), Device.setNum, Device.val_setVal_ne _ _ hne]
  case noStart =>
    rw [exec_wdtStartsClear_dev, State.on, Device.wdtClear_of_no_start h]
  case lastStart =>
    refine ⟨_, exec_wdtStartsClear_dev s, rfl, ?_⟩
    have hclock := Device.wdtClear_clock h
    refine ⟨hclock, fun hx => (s.dev.le_cellarCount_elapse hx).trans_eq (cellarCount_of_clock hclock).symm, ?_⟩
    rw [State.on_dev, Device.wdtClear_of_last_start h]
    refine ⟨?_, Device.nat_setNum_self .., fun k hk => ?_⟩
    · rw [Device.setNum_cellar, Device.setCellar_cellar, Device.elapse_cellar]
    · rw [Device.setNum, Device.val_setVal_ne _ _ hk, Device.setCellar_val, Device.elapse_val]

end Sys2Proof.Machine
end

section
/-! Chapter 0, the queue: a run of waiting commands is the commands in order; then the part at reset. -/

namespace Sys2Proof.Machine

/-! ## The queue -/

/-- A run takes its first step, then the others. -/
theorem run_succ (M : Host.Core) {s t : M.State} (h : M.step s = .next t) (k : Nat) : M.run (k + 1) s = M.run k t := by
  rw [Host.Core.run, h]

/-- Running commands in order ends in a state of its own, and the queue's steps reach the same part with the later queue untouched. -/
theorem run_pending_eq_runAll (cs q : List Instr) (d : Device) :
    ∃ d', runAll cs { pending := [], dev := d } = .next { pending := [], dev := d' } ∧
      Host.Core.run core cs.length { pending := cs ++ q, dev := d } = .next { pending := q, dev := d' } := by
  induction cs generalizing d with
  | nil => exact ⟨d, rfl, rfl⟩
  | cons c cs ih =>
    obtain ⟨f, hf⟩ := exec_on c
    obtain ⟨d', hall, hrun⟩ := ih (f d)
    refine ⟨d', ?_, ?_⟩
    · rw [runAll, hf]
      exact hall
    · have hstep : core.step { pending := c :: (cs ++ q), dev := d } = .next { pending := cs ++ q, dev := f d } := hf _
      exact (run_succ core hstep cs.length).trans hrun

/-- Settles O1: the front of the queue is what the step looks at. -/
theorem stepRunsFrontCommand : Obligations.StepRunsFrontCommand := fun _ _ _ => rfl

/-- Settles O2, by induction on the waiting commands. -/
theorem queueIsFirstInFirstOut : Obligations.QueueIsFirstInFirstOut := by
  intro cs q d
  obtain ⟨d', hall, hrun⟩ := run_pending_eq_runAll cs q d
  refine ⟨fun e he => ?_, d', hall⟩
  obtain rfl : d' = e := by simpa using hall.symm.trans he
  exact hrun

/-! ## Reset -/

/-- Settles O4: at reset no store lists a key, so every object reads its default. -/
theorem resetIsCanonical : Obligations.ResetIsCanonical :=
  ⟨⟨trivial, trivial⟩, fun _ => rfl, by decide +kernel, by decide +kernel, rfl, rfl, rfl⟩

end Sys2Proof.Machine
end

section
/-! Chapter 2, requests: what a granted READ, WRITE or segment gives, each out of the laws of serving a request. -/

namespace Sys2Proof.Machine

/-! ## Reading (R43, R44, R232) -/

theorem asksStaged_of_row {key flags : Nat} {row : ObjRow} (hrow : dictFind (key / 256) (key % 256) = some row) :
    asksStaged (key / 256) (key % 256) flags = (bit flags 2 && decide (row.acc = .rwc)) := by
  simp [asksStaged, hrow]

/-- R44: the bytes of a dictionary object, staged or live. -/
theorem Device.readValue_of_row (d : Device) {key : Nat} {row : ObjRow} (hrow : dictFind (key / 256) (key % 256) = some row) (staged : Bool) :
    d.readValue (key / 256) (key % 256) staged =
      if staged && Decidable.decide (row.acc = .rwc) then row.ty.encode (d.stagedVal key) else d.readLive (key / 256) (key % 256) row.ty := by
  simp [Device.readValue, hrow, key_split]

/-- The capture FIFOs are read-only objects, which nothing stages. -/
theorem fifo_not_rwc : ∀ n < 24, (dictFind (0x2410 + n) 0x11).all (fun r => decide (r.acc ≠ .rwc)) = true := by decide +kernel

theorem not_rwc_of_fifo {key : Nat} {row : ObjRow} (hrow : dictFind (key / 256) (key % 256) = some row)
    (h : 0x2410 * 256 ≤ key ∧ key < 0x2428 * 256 ∧ key % 256 = 0x11) : row.acc ≠ .rwc := by
  have := fifo_not_rwc (key / 256 - 0x2410) (by omega)
  rw [Nat.add_sub_cancel' (by omega : 0x2410 ≤ key / 256), ← h.2.2, hrow] at this
  simpa using this

/-- R232: outside the FIFOs a READ gives the whole value. -/
theorem Device.readFit_of_not_fifo (d : Device) {key : Nat} (staged : Bool) (cap : Nat)
    (h : ¬ (0x2410 * 256 ≤ key ∧ key < 0x2428 * 256 ∧ key % 256 = 0x11)) :
    d.readFit (key / 256) (key % 256) staged cap = d.readValue (key / 256) (key % 256) staged := by
  have : ¬ (0x2410 ≤ key / 256 ∧ key / 256 ≤ 0x2427 ∧ key % 256 = 0x11) := by omega
  simp [Device.readFit, ← and_assoc] at this ⊢
  omega

/-- R232: a FIFO gives the whole records that fit. -/
theorem Device.readFit_of_fifo (d : Device) {key : Nat} (staged : Bool) (cap : Nat)
    (h : 0x2410 * 256 ≤ key ∧ key < 0x2428 * 256 ∧ key % 256 = 0x11) :
    d.readFit (key / 256) (key % 256) staged cap = (d.readValue (key / 256) (key % 256) staged).take (cap / 24 * 24) := by
  obtain ⟨h1, h2, h3⟩ := h
  have h1' : 0x2410 ≤ key / 256 := by omega
  have h2' : key / 256 ≤ 0x2427 := by omega
  simp [Device.readFit, h1', h2', h3]

theorem Device.setCan_outbox (d : Device) (n st : Nat) : (d.setCan n st).outbox = d.outbox := by
  unfold Device.setCan
  dsimp only
  split
  · rfl
  · split <;> rfl

theorem Device.canSent_outbox (d : Device) (n : Nat) : (d.canSent n).outbox = d.outbox := Device.setCan_outbox ..

/-- R41: outside a session an answer on a controller that takes part in the bus is one PDU. -/
theorem Device.respond_outbox (d : Device) (src : Partner) (xl : Bool) (opcode index sub txn status : Nat) (pay : Bytes)
    (hact : d.canActive src.transport = true) (hlock : d.lock ≠ 3) :
    ∃ c, (d.respond src xl opcode index sub txn status pay).outbox = d.outbox ++ [.hap src c
      { opcode := opcode, flags := 2, sub := sub, index := index, txn := txn, status := status,
        token := if d.isOwner src = true then d.foyer.token else 0, seq := 0, payload := pay, mac := [] }]
      ∧ c.xl = xl ∧ c.ident = d.nat K.hapCanRspId := by
  have ht : src.transport < 4 := by
    simp only [Device.canActive, Bool.and_eq_true, decide_eq_true_eq] at hact
    exact hact.1.1
  simp only [Device.respond, Device.sendPdu, hact, Bool.not_true, Bool.and_false, Bool.false_eq_true, if_false, hlock, ne_eq,
    not_false_eq_true, decide_true, Bool.true_or, if_true, Device.emitHap, ht, Device.emit, d.canSent_outbox]
  exact ⟨_, rfl, rfl, by simp [Device.canHead, bit]⟩

/-- Settles O5: the reply of a granted READ, its value by the row's access, and what an answer puts on a CAN bus. -/
theorem readGivesValue : Obligations.ReadGivesValue := by
  refine ⟨fun s h key row => ?_, fun d src xl opcode index sub txn status pay hact hlock =>
    d.respond_outbox src xl opcode index sub txn status pay hact hlock⟩
  intro r d staged cap v fifo hg hf hrow hacc hses hlen hbar
  have hst : asksStaged (key / 256) (key % 256) h.flags = staged := asksStaged_of_row hrow
  refine ⟨?_, fun hn => ?_, fun hfifo => ?_⟩
  · have hok := Device.doRead_ok d key h.flags cap (d.accessBad_ok key row false hrow hses hacc) (by rw [hst]; exact hlen) hf
      (by rw [hst]; exact hbar)
    rw [hst] at hok
    exact congrArg _ ((State.request_granted s h 1 key [] hg).trans (congrArg _ hok))
  · have hv : v = d.readValue (key / 256) (key % 256) staged := d.readFit_of_not_fifo staged cap hn
    rw [hv, Device.readValue_of_row d hrow]
    simp [staged]
  · have hacc' := not_rwc_of_fifo hrow hfifo
    have hv : v = (d.readValue (key / 256) (key % 256) staged).take (cap / 24 * 24) := d.readFit_of_fifo staged cap hfifo
    rw [hv, Device.readValue_of_row d hrow]
    simp [hacc']

/-! ## Writing (R42, R43, R71) -/

/-- Settles O6: each kind of object takes the branch of writeObj that its access names. -/
theorem writeStagesOrSets : Obligations.WriteStagesOrSets := by
  intro s h key row v d hw hrow hacc hses hlen hrng
  have hx (x : Reply) (hx : d.writeObj
      { src := reqSrc (hapReq h 2 key v), xl := h.xl, txn := h.txn, opcode := 2, env := h.env } key row v = x) :
      exec (.write h (key / 256) (key % 256) v) s = .next (s.wrote h key v x) :=
    congrArg _ ((State.write_granted s h key v row hw hrow hses hacc hlen hrng).trans (congrArg _ hx))
  refine ⟨fun hc hfr => ⟨hx _ ?_, ?_, fun j hj => ?_, rfl⟩, fun hc hfr => hx _ ?_, fun hc hact => ⟨hx _ ?_, ?_, fun j hj => ?_, rfl⟩⟩
  · simp [Device.writeObj, hc, hfr]
  · exact d.stagedVal_setStaged key _
  · exact d.stagedVal_setStaged_ne _ hj
  · simp [Device.writeObj, hc, hfr, St.state]
  · simp [Device.writeObj, hc, hact]
  · exact d.val_setVal_self key _
  · exact d.val_setVal_ne _ hj

/-! ## Segmented transfers (R57 to R61) -/

theorem Device.dropXfer_staged (d : Device) : d.dropXfer.staged = d.staged := by
  unfold Device.dropXfer; dsimp only; split <;> rfl

theorem Device.dropXfer_clock (d : Device) : d.dropXfer.clock = d.clock := by
  unfold Device.dropXfer; dsimp only; split <;> rfl

theorem Device.dropXfer_commit (d : Device) : d.dropXfer.commit = d.commit := by
  unfold Device.dropXfer; dsimp only; split <;> rfl

theorem Device.dropXfer_attic (d : Device) : d.dropXfer.attic = d.attic := by
  unfold Device.dropXfer; dsimp only; split <;> rfl

theorem Device.dropXfer_outbox (d : Device) : d.dropXfer.outbox = d.outbox := by
  unfold Device.dropXfer; dsimp only; split <;> rfl

theorem Device.dropXfer_foyer (d : Device) : d.dropXfer.foyer = { d.foyer with xfer := none } := by
  unfold Device.dropXfer; dsimp only; split <;> rfl

/-- R492: an image that was being received is received no longer. -/
theorem Device.dropXfer_val (d : Device) {k : Nat} (h : k ≠ K.studyStageState) : d.dropXfer.val k = d.val k := by
  unfold Device.dropXfer
  dsimp only
  split
  · exact Device.val_setVal_ne d (.num 0) h
  · rfl

theorem Device.dropXfer_stage (d : Device) :
    d.dropXfer.nat K.studyStageState = if d.nat K.studyStageState = 1 then 0 else d.nat K.studyStageState := by
  unfold Device.dropXfer
  dsimp only
  split <;> simp

/-- Settles O7: READ_INIT, READ_SEG and ABORT reach the object, whose laws give the answer. -/
theorem segmentedReadFromCopy : Obligations.SegmentedReadFromCopy := by
  intro s h key row b hf hrow
  refine ⟨?_, ?_, ?_⟩
  · intro r d staged v x hg hacc hses hx hbar
    have hst : asksStaged (key / 256) (key % 256) h.flags = staged := asksStaged_of_row hrow
    have hok := Device.doReadInit_ok d { src := reqSrc r, xl := h.xl, txn := h.txn, opcode := 3, env := h.env } key h.flags
      (d.accessBad_ok key row false hrow hses hacc) hx hf (by rw [hst]; exact hbar)
    rw [hst] at hok
    exact congrArg _ ((State.request_granted s h 3 key [] hg).trans (congrArg _ hok))
  · intro r d hg hacc hses hb hl x hx hw hi hs hn part got
    have hpay : reqPay r = b := reqPay_hapReq h 4 key b (by omega)
    have htouch := d.touchXfer_own (key / 256) (key % 256) false x hx hw hi hs
    have hok := Device.doReadSeg_ok (d.touchXfer (key / 256) (key % 256) false) key h.flags b { x with since := d.clock.ticks }
      (by rw [htouch]; exact d.accessBad_ok key row false hrow hses hacc) hf hb (by rw [htouch]; rfl) hw hi hs hn
    rw [htouch] at hok
    have hex : exec (.readSeg h (key / 256) (key % 256) b) s = .next (s.answered r
        ((d.touchXfer (key / 256) (key % 256) false).doReadSeg (key / 256) (key % 256) h.flags (reqPay r))) :=
      congrArg _ (State.request_granted s h 4 key b hg)
    rw [hpay, htouch, hok] at hex
    refine ⟨fun hge => ?_, fun hlt => ?_⟩
    · rw [hex, if_pos hge]; rfl
    · rw [hex, if_neg (Nat.not_le.2 hlt)]; rfl
  · intro r d hg x hx hi hs
    refine ⟨?_, ?_, d.dropXfer_staged, fun j hj => d.dropXfer_val hj⟩
    · exact congrArg _ ((State.request_granted s h 7 key b hg).trans (congrArg _ (d.doAbort_ok key h.flags row x hrow hf hx hi hs)))
    · rw [d.dropXfer_foyer]

theorem Device.setFoyer_lengthBad (d : Device) (f : Foyer → Foyer) (idx sub : Nat) (t : Ty) (b : Bytes) :
    (d.setFoyer f).lengthBad idx sub t b = d.lengthBad idx sub t b := by
  have h : (d.setFoyer f).slotWords (idx - 0x5040) = d.slotWords (idx - 0x5040) := rfl
  rw [Device.lengthBad, h]
  rfl

/-- Settles O8: WRITE_INIT and the segments of a write, the last of which writes the whole value. -/
theorem segmentedWriteAtTotal : Obligations.SegmentedWriteAtTotal := by
  intro s h key row b hf hl hrow
  refine ⟨?_, ?_⟩
  · intro r d x hg hacc hses hx hst hb h1 h2 hal hk
    have hpay : reqPay r = b := reqPay_hapReq h 5 key b hl
    have hok := Device.doWriteInit_ok d key h.flags b row hrow (d.accessBad_ok key row true hrow hses hacc) hf hx hst hb h1 h2 hal hk
    rw [← hpay] at hok
    refine congrArg _ ((State.request_granted s h 5 key b hg).trans (congrArg _ (hok.trans ?_)))
    rw [hpay]
  · intro r d data hg hacc hses hb x hx hw hi hs hn
    have hpay : reqPay r = b := reqPay_hapReq h 6 key b hl
    have htouch := d.touchXfer_own (key / 256) (key % 256) true x hx hw hi hs
    obtain ⟨hmid, hend⟩ := Device.doWriteSeg_ok (d.touchXfer (key / 256) (key % 256) true)
      { src := reqSrc r, xl := h.xl, txn := h.txn, opcode := 6, env := h.env } key h.flags b row { x with since := d.clock.ticks } hrow
      (by rw [htouch]; exact d.accessBad_ok key row true hrow hses hacc) hf hb (by rw [htouch]; rfl) hw hi hs hn
    rw [htouch] at hmid hend
    have hex : exec (.writeSeg h (key / 256) (key % 256) b) s = .next (s.answered r
        ((d.touchXfer (key / 256) (key % 256) true).doWriteSeg
          { src := reqSrc r, xl := h.xl, txn := h.txn, opcode := 6, env := h.env } (key / 256) (key % 256) h.flags (reqPay r))) :=
      congrArg _ (State.request_granted s h 6 key b hg)
    rw [hpay, htouch] at hex
    refine ⟨fun hlt => ?_, fun heq hlen hrng => ?_⟩
    · rw [hex, hmid hlt]; rfl
    · rw [hex, hend heq (by rw [Device.setFoyer_lengthBad, Device.setFoyer_lengthBad]; exact hlen) hrng]; rfl

/-! ## A report that names its SOURCE (R502) -/

section Caused

variable (d : Device) (src code : Nat) (p : List Int)

@[simp] theorem Device.causedBy_report_val (k : Nat) : (d.causedBy src (·.report code p)).val k = d.val k := rfl
@[simp] theorem Device.causedBy_report_num (k : Nat) : (d.causedBy src (·.report code p)).num k = d.num k := rfl
@[simp] theorem Device.causedBy_report_nat (k : Nat) : (d.causedBy src (·.report code p)).nat k = d.nat k := rfl
@[simp] theorem Device.causedBy_report_staged : (d.causedBy src (·.report code p)).staged = d.staged := rfl
@[simp] theorem Device.causedBy_report_clock : (d.causedBy src (·.report code p)).clock = d.clock := rfl
@[simp] theorem Device.causedBy_report_commit : (d.causedBy src (·.report code p)).commit = d.commit := rfl
@[simp] theorem Device.causedBy_report_foyer : (d.causedBy src (·.report code p)).foyer = d.foyer := rfl
@[simp] theorem Device.causedBy_report_outbox : (d.causedBy src (·.report code p)).outbox = d.outbox := rfl

/-- What stands anew is the report, where no other was added. -/
theorem newReports_causedBy_report {d0 : Device} (h : d.attic = d0.attic) :
    newReports d0 (d.causedBy src (·.report code p)) = [(code, p)] := by
  simp [newReports, Device.causedBy, Device.report, h]

end Caused

/-- XFER_TIMEOUT with a transfer open. -/
theorem Device.xferTimeout_open (d : Device) {x : Xfer} (hx : d.foyer.xfer = some x) :
    d.xferTimeout = (d.runTo (x.since + d.nat K.hapXferTimeout * msTicks)).dropXfer.causedBy
      ((d.runTo (x.since + d.nat K.hapXferTimeout * msTicks)).dropXfer.nat K.lockHolder)
      (·.report 0x0F03 [x.index, x.sub, (if x.writing then x.buf.length else x.next : Nat)]) := by
  simp only [Device.xferTimeout, hx, Nat.cast_ite]

theorem exec_xferTimeout (s : State) : exec .xferTimeout s = .next (s.on (·.xferTimeout)) := rfl

/-- Settles O9: the open transfer is dropped at its time and reported. -/
theorem transferTimesOut : Obligations.TransferTimesOut := by
  intro s x hx
  refine ⟨_, exec_xferTimeout s, State.on_pending .., ?_⟩
  rw [State.on_dev, s.dev.xferTimeout_open hx]
  generalize hd : s.dev.runTo (x.since + s.dev.nat K.hapXferTimeout * msTicks) = d
  have hval (k : Nat) : d.val k = s.dev.val k := by rw [← hd, Device.runTo_val]
  have hstage : d.nat K.studyStageState = s.dev.nat K.studyStageState := by rw [← hd, Device.runTo_nat]
  have hattic : d.dropXfer.attic = s.dev.attic := by rw [Device.dropXfer_attic, ← hd, Device.runTo_attic]
  simp only [Device.causedBy_report_foyer, Device.causedBy_report_clock, Device.causedBy_report_val, Device.causedBy_report_nat,
    Device.causedBy_report_staged, Device.causedBy_report_commit]
  refine ⟨?_, newReports_causedBy_report _ _ _ _ hattic, d.dropXfer_clock, fun k hk => (d.dropXfer_val hk).trans (hval k), ?_, ?_, ?_, ?_⟩
  · rw [Device.dropXfer_foyer]
  · rw [Device.dropXfer_stage, hstage]
  · rw [Device.dropXfer_staged, ← hd, Device.runTo_staged]
  · rw [Device.dropXfer_commit, ← hd, Device.runTo_commit]
  · rw [Device.dropXfer_foyer, ← hd, Device.runTo_foyer]

end Sys2Proof.Machine
end

section
/-! Chapter 2, the lock: its acquisition, its releases and the handshake of a session. -/

namespace Sys2Proof.Machine

/-! ## A frame that is heard -/

theorem Device.hears_transport {d : Device} {r : HapReq} (h : d.hears r) : r.h.src.transport < 48 := by
  rcases h with ⟨h4, -⟩ | ⟨-, h48, -⟩ <;> omega

/-- A frame that is heard and not discarded is replied to; only an owner's frame of a session may end it by its SEQ (R55). -/
theorem State.hapWrite_heard (s : State) (h : HapHdr) (key : Nat) (b : Bytes) (d : Device) (hh : s.dev.hears (hapReq h 2 key b))
    (hd : reqDiscarded (hapReq h 2 key b) = false)
    (hasked : ({ s.dev.heard (hapReq h 2 key b) with foyer := { (s.dev.heard (hapReq h 2 key b)).foyer with
      cause := (reqSrc (hapReq h 2 key b)).transport } } : Device) = d) :
    (s.hapWrite h key b).dev.lock =
      (Device.finish (hapReq h 2 key b) (d.isOwner (reqSrc (hapReq h 2 key b)) && d.lock = 3) (d.replyTo (hapReq h 2 key b))).lock := by
  show (s.dev.hapServe (hapReq h 2 key b)).lock = _
  simp only [Device.hapServe_hears s.dev _ hh, Device.takeHap, hd, Bool.false_eq_true, if_false, Device.causedBy, hasked, Device.serveNow]
  rfl

/-! ## Acquisition (R46 to R49) -/

theorem byTransport_single {h : HapHdr} (ht : h.src.transport < 48) : byTransport [h] = [h] := by
  have hsum : ∀ n, ((List.range n).map (fun i => [h].filter (fun g => g.src.transport = i))).flatten =
      if h.src.transport < n then [h] else [] := by
    intro n
    induction n with
    | zero => rfl
    | succ n ih =>
      rw [List.range_succ, List.map_append, List.flatten_append, ih]
      by_cases hn : h.src.transport = n
      · simp [hn]
      · rcases Nat.lt_or_gt_of_ne hn with hlt | hgt
        · simp [hlt, hn, Nat.lt_succ_of_lt hlt]
        · simp [hn, Nat.not_lt.2 hgt.le, Nat.not_lt.2 (Nat.succ_le_of_lt hgt)]
  rw [byTransport, hsum, if_pos ht]

/-- R48: lists of one transport each, in the order of the transports. -/
theorem byTransport_pairwise (hs : List HapHdr) : (byTransport hs).Pairwise (fun a b => a.src.transport ≤ b.src.transport) := by
  unfold byTransport
  rw [List.pairwise_flatten]
  constructor
  · intro l hl
    obtain ⟨t, -, rfl⟩ := List.mem_map.1 hl
    refine List.Pairwise.imp_of_mem ?_ (List.pairwise_of_forall (R := fun _ _ => True) fun _ _ => trivial)
    intro a b ha hb _
    simp only [List.mem_filter, decide_eq_true_eq] at ha hb
    omega
  · rw [List.pairwise_map]
    refine List.pairwise_lt_range.imp fun {t u} htu a ha b hb => ?_
    simp only [List.mem_filter, decide_eq_true_eq] at ha hb
    omega

theorem mem_byTransport {hs : List HapHdr} {h : HapHdr} : h ∈ byTransport hs ↔ h ∈ hs ∧ h.src.transport < 48 := by
  simp only [byTransport, List.mem_flatten, List.mem_map, List.mem_range]
  constructor
  · rintro ⟨l, ⟨t, ht, rfl⟩, hm⟩
    simp only [List.mem_filter, decide_eq_true_eq] at hm
    exact ⟨hm.1, by omega⟩
  · rintro ⟨hm, ht⟩
    exact ⟨_, ⟨_, ht, rfl⟩, by simp [hm]⟩

/-- R47, R49: an acquisition of a lock that another partner holds is refused. -/
theorem Device.replyTo_acquire_held (d : Device) (r : HapReq) (hacq : reqAcquires r = true) (hrec : d.keyhole.recovery = false)
    (hl : d.lock ≠ 0) (hown : d.isOwner (reqSrc r) = false) : d.replyTo r = d.answer 0x1007 := by
  simp [Device.replyTo, hrec, hacq, hl, hown, St.busy]

/-- R54: an answer to a partner that does not own the lock leaves without the session, which goes on. -/
theorem Device.sameBut_respond_other (d : Device) (src : Partner) (xl : Bool) (opcode index sub txn status : Nat) (pay : Bytes)
    (h : d.isOwner src = false) : d.SameBut (d.respond src xl opcode index sub txn status pay) := by
  simp only [Device.respond, Device.sendPdu, h, Bool.not_false, Bool.or_true, if_true]
  split
  · exact .refl d
  · exact Device.sameBut_emitHap ..

/-- R55: a session whose SEQ is used up is one no more. -/
theorem Device.seqExhausted_lock_ne (d : Device) : d.seqExhausted.lock ≠ 3 := by
  show (d.setNum K.lockState _).nat K.lockState ≠ 3
  rw [Device.nat_setNum_self]
  split <;> decide

/-- The answer to another partner within a session leaves it in force; `Device.finish` ends it if it takes the frame for the owner's and the
owner's SEQ is used up. -/
theorem Device.finish_busy_lock (d : Device) (r : HapReq) (hl : d.lock = 3) (hown : d.isOwner (reqSrc r) = false) :
    (Device.finish r false (d.answer 0x1007)).lock = 3 ∧
      (d.foyer.seqIn = 0xFFFFFFFF → (Device.finish r true (d.answer 0x1007)).lock ≠ 3) := by
  have hs := d.sameBut_respond_other (reqSrc r) r.h.xl r.opcode r.index r.sub r.h.txn 0x1007 [] hown
  have hl' : (d.respond (reqSrc r) r.h.xl r.opcode r.index r.sub r.h.txn 0x1007 []).lock = 3 := (hs.nat (by decide)).trans hl
  refine ⟨?_, fun hq => ?_⟩
  · simpa [Device.finish, Device.answer] using hl'
  · have hq' := (congrArg Foyer.seqIn hs.foyer).trans hq
    simpa [Device.finish, Device.answer, hl', hq'] using Device.seqExhausted_lock_ne _

/-- A part that serves, its XL controller C0 on the bus; C1's partner is in a session whose SEQ is used up. -/
def usedUpSession : State :=
  { pending := [], dev := {
      obj := Store.put (K.canCfg 0) (.oct [3]) (Store.put K.lockState (.num 3) (Store.put (K.canState 0) (.num 2) []))
      power := { serving := true }
      foyer := { owner := some { transport := 1, addr := [], port := 0 }, seqIn := 0xFFFFFFFF } } }

/-- The header, without its CRC, of a write of 1 to LOCK_REQUEST by the partner on C0. -/
def otherAcquire : HapHdr :=
  { src := { transport := 0, addr := [], port := 0 }, xl := true, received := 100, ver := 1, flags := 0, txn := 0, status := 0, length := 1
    token := 0, seq := 0, mac := [], crc := 0, env := { mem := [], vendor := true, mdio := 0, degrade := [], acked := true } }

/-- Within a session `answered` takes every answer for the owner's. -/
theorem State.answered_lock (s : State) (r : HapReq) (x : Reply) (hl : (s.dev.heard r).lock = 3) :
    (s.answered r x).dev.lock = (Device.finish r true x).lock := by
  simp only [State.answered, hl, decide_true]
  rfl

/-- Refutes O10: the second clause lets a refused acquisition be answered as the owner's frame is, so that a session of another partner
whose SEQ is used up (SEQ 0xFFFFFFFF accepted) would end with it; the part leaves that session alone. -/
theorem not_lockGrantedOnce : ¬ Obligations.LockGrantedOnce := by
  intro hall
  obtain ⟨-, hheld, horder⟩ := hall
  let h : HapHdr := { otherAcquire with crc := crc32c (reqHead (hapReq otherAcquire 2 K.lockRequest [1])) }
  have hears : usedUpSession.dev.hears (hapReq h 2 K.lockRequest [1]) :=
    .inl ⟨by decide, rfl, by decide +kernel, by decide +kernel, fun _ => by decide +kernel⟩
  have hd : reqDiscarded (hapReq h 2 K.lockRequest [1]) = false := by decide +kernel
  have hb : byTransport [h] = [h] := byTransport_single (Device.hears_transport hears)
  generalize hasked : ({ usedUpSession.dev.heard (hapReq h 2 K.lockRequest [1]) with
    foyer := { (usedUpSession.dev.heard (hapReq h 2 K.lockRequest [1])).foyer with
      cause := (reqSrc (hapReq h 2 K.lockRequest [1])).transport } } : Device) = d
  have hl : d.lock = 3 := by rw [← hasked]; decide +kernel
  have hown : d.isOwner (reqSrc (hapReq h 2 K.lockRequest [1])) = false := by rw [← hasked]; decide +kernel
  have hrec : d.keyhole.recovery = false := by rw [← hasked]; decide +kernel
  have hseq : d.foyer.seqIn = 0xFFFFFFFF := by rw [← hasked]; decide +kernel
  obtain ⟨hstay, hend⟩ := d.finish_busy_lock (hapReq h 2 K.lockRequest [1]) hl hown
  have hdev := usedUpSession.hapWrite_heard h K.lockRequest [1] d hears hd hasked
  rw [hown, Device.replyTo_acquire_held d _ (by decide) hrec (by rw [hl]; decide) hown, Bool.false_and, hstay] at hdev
  have hclaim := hheld usedUpSession h hears hd (by decide +kernel) (by decide +kernel) (by decide +kernel) rfl
  rw [(horder usedUpSession [h]).1, hb] at hclaim
  have hsame : (usedUpSession.hapWrite h K.lockRequest [1]).dev.lock =
      (usedUpSession.answered (hapReq h 2 K.lockRequest [1]) (d.answer 0x1007)).dev.lock := by
    rw [← hasked]
    exact congrArg (fun t => State.dev t |>.lock) (Host.Outcome.next.inj hclaim)
  refine hend hseq (Eq.trans ?_ (hsame.symm.trans hdev))
  have hl' : (usedUpSession.dev.heard (hapReq h 2 K.lockRequest [1])).lock = 3 := by decide +kernel
  exact (usedUpSession.answered_lock _ _ hl').symm

end Sys2Proof.Machine
end

section
/-! Chapter 2, the end of a lock and the handshake of a session. -/

namespace Sys2Proof.Machine

/-! ## Filtered stores -/

/-- What a store lists for a key after entries have gone by their keys. -/
theorem Store.find_filter (p : Nat → Bool) (k : Nat) (st : Store) :
    Store.find k (st.filter (fun e => p e.1)) = if p k then Store.find k st else none := by
  induction st with
  | nil => simp
  | cons e t ih =>
    obtain ⟨j, v⟩ := e
    by_cases hp : p j = true
    · simp only [List.filter_cons, hp, if_true, Store.find_cons, ih]
      by_cases hj : j = k
      · subst hj; simp [hp]
      · simp [hj]
    · simp only [List.filter_cons, hp, Bool.false_eq_true, if_false, ih, Store.find_cons]
      by_cases hj : j = k
      · subst hj; simp [hp]
      · simp [hj]

/-! ## The release (R50) -/

/-- A group is frozen by what the commit engine and the slots hold. -/
theorem Device.frozen_congr {d e : Device} (g : Nat) (himm : e.commit.imm = d.commit.imm) (hgr : e.commit.grants = d.commit.grants)
    (hsl : e.commit.slots = d.commit.slots)
    (hv : ∀ n < 16, e.nat (K.slotState n) = d.nat (K.slotState n) ∧ e.nat (K.slotKind n) = d.nat (K.slotKind n)) :
    e.frozen g = d.frozen g := by
  unfold Device.frozen
  rw [himm, hgr]
  congr 1
  rw [Bool.eq_iff_iff, List.any_eq_true, List.any_eq_true]
  refine exists_congr fun n => and_congr_right fun hn => ?_
  obtain ⟨h1, h2⟩ := hv n (List.mem_range.1 hn)
  rw [show e.slotState n = d.slotState n from h1, h2, Device.slot, hsl, Device.slot]

/-- R50: the groups of a list revert, a frozen one later. -/
def Device.revertAll (d : Device) (l : List Nat) : Device := l.foldl (fun d g => if d.frozen g then d.revertLater g else d.revertGroup g) d

/-- What reverting a list of groups leaves: the staged copies of the frozen ones, which wait. -/
theorem Device.revertAll_eq (d : Device) (l : List Nat) : d.revertAll l =
    { d with staged := d.staged.filter (fun e => !(l.contains (groupOf e.1) && !d.frozen (groupOf e.1)))
             commit := { d.commit with reverts := (l.filter d.frozen).reverse ++ d.commit.reverts } } := by
  unfold Device.revertAll
  induction l generalizing d with
  | nil => simp
  | cons g l ih =>
    rw [List.foldl_cons, ih]
    by_cases hg : d.frozen g = true
    · have hf : (d.revertLater g).frozen = d.frozen := rfl
      have hs : ∀ e : Nat × Val, (!((g :: l).contains (groupOf e.1) && !d.frozen (groupOf e.1))) =
          !(l.contains (groupOf e.1) && !d.frozen (groupOf e.1)) := fun e => by
        by_cases he : groupOf e.1 = g <;> simp [he, hg]
      rw [if_pos hg, hf]
      simp only [hs, List.filter_cons, hg, if_true, List.reverse_cons, List.append_assoc, List.singleton_append, Device.revertLater]
    · have hf : (d.revertGroup g).frozen = d.frozen := rfl
      have hs : ∀ e : Nat × Val, (!((g :: l).contains (groupOf e.1) && !d.frozen (groupOf e.1))) =
          (!(l.contains (groupOf e.1) && !d.frozen (groupOf e.1)) && Decidable.decide (groupOf e.1 ≠ g)) := fun e => by
        by_cases he : groupOf e.1 = g <;> simp [he, hg]
      rw [if_neg hg, hf]
      simp only [hs, List.filter_cons, hg, Bool.false_eq_true, if_false, Device.revertGroup, List.filter_filter]

/-- The part that a release leaves before the groups revert and the report. -/
def Device.unowned (d : Device) : Device :=
  (d.dropXfer.setFoyer (fun f => { f with
    owner := none, ownerXl := false, token := 0, hostNonce := [], devNonce := [], key := [], seqIn := 0, seqOut := 0, fails := 0 })).setNums
      [(K.lockState, 0), (K.lockHolder, 0xFF), (K.lockToken, 0)]

theorem Device.releaseLock_eq (d : Device) (cause : Nat) : d.releaseLock cause =
    (d.unowned.revertAll (List.range 17)).causedBy (d.num K.lockHolder).toNat (·.report 0x0F01 [cause, d.num K.lockHolder, 0]) := rfl

theorem Device.unowned_val (d : Device) (k : Nat) : d.unowned.val k =
    if k = K.lockToken then .num 0 else if k = K.lockHolder then .num 0xFF else if k = K.lockState then .num 0 else d.dropXfer.val k := by
  simp only [Device.unowned, Device.setNums, Device.setNum, Device.val_setVal, Device.setFoyer_val]

theorem Device.unowned_val_other (d : Device) {k : Nat} (h1 : k ≠ K.lockState) (h2 : k ≠ K.lockHolder) (h3 : k ≠ K.lockToken)
    (h4 : k ≠ K.studyStageState) : d.unowned.val k = d.val k := by
  rw [Device.unowned_val, if_neg h3, if_neg h2, if_neg h1, Device.dropXfer_val d h4]

theorem Device.unowned_staged (d : Device) : d.unowned.staged = d.staged := by
  simp [Device.unowned, Device.setNums, d.dropXfer_staged]

theorem Device.unowned_commit (d : Device) : d.unowned.commit = d.commit := by
  simp [Device.unowned, Device.setNums, d.dropXfer_commit]

theorem Device.unowned_clock (d : Device) : d.unowned.clock = d.clock := by
  simp [Device.unowned, Device.setNums, d.dropXfer_clock]

theorem Device.unowned_attic (d : Device) : d.unowned.attic = d.attic := by
  simp [Device.unowned, Device.setNums, d.dropXfer_attic]

theorem Device.unowned_outbox (d : Device) : d.unowned.outbox = d.outbox := by
  simp [Device.unowned, Device.setNums, d.dropXfer_outbox]

theorem Device.unowned_frozen (d : Device) (g : Nat) : d.unowned.frozen g = d.frozen g := by
  refine Device.frozen_congr g (by rw [d.unowned_commit]) (by rw [d.unowned_commit]) (by rw [d.unowned_commit]) fun n hn => ?_
  have hval : ∀ k, 0x2530 * 256 ≤ k → k < 0x2540 * 256 → d.unowned.nat k = d.nat k := fun k h1 h2 => by
    have := d.unowned_val_other (k := k) (by simp only [K.lockState]; omega) (by simp only [K.lockHolder]; omega)
      (by simp only [K.lockToken]; omega) (by simp only [K.studyStageState]; omega)
    simp only [Device.nat, Device.num, this]
  exact ⟨hval _ (by simp only [K.slotState]; omega) (by simp only [K.slotState]; omega),
    hval _ (by simp only [K.slotKind]; omega) (by simp only [K.slotKind]; omega)⟩

/-- What a release makes of Foyer's own state. -/
theorem Device.unowned_foyer (d : Device) : d.unowned.foyer = { d.foyer with
    owner := none, ownerXl := false, token := 0, hostNonce := [], devNonce := [], key := [], seqIn := 0, seqOut := 0, fails := 0
    xfer := none } := by
  simp [Device.unowned, Device.setNums, d.dropXfer_foyer]

/-- Settles O11: the groups' reverts in closed form, over the part that no partner owns. -/
theorem releaseFreesTheLock : Obligations.ReleaseFreesTheLock := by
  intro d c t
  have hfr : d.unowned.frozen = d.frozen := funext d.unowned_frozen
  have hdone := d.unowned.revertAll_eq (List.range 17)
  rw [hfr] at hdone
  have ht : t = (d.unowned.revertAll (List.range 17)).causedBy (d.num K.lockHolder).toNat
      (·.report 0x0F01 [c, d.num K.lockHolder, 0]) := d.releaseLock_eq c
  have hval (k : Nat) : t.val k = d.unowned.val k := by rw [ht, Device.causedBy_report_val, hdone]; rfl
  have hfoyer : t.foyer = d.unowned.foyer := by rw [ht, Device.causedBy_report_foyer, hdone]
  have hfind (k : Nat) : Store.find k t.staged =
      if groupOf k < 17 ∧ d.frozen (groupOf k) = false then none else Store.find k d.staged := by
    rw [ht, Device.causedBy_report_staged, hdone, d.unowned_staged,
      Store.find_filter (fun k => !((List.range 17).contains (groupOf k) && !d.frozen (groupOf k)))]
    by_cases h1 : groupOf k < 17 <;> by_cases h2 : d.frozen (groupOf k) = false <;> simp [h1, h2]
  have hcommit : t.commit = { d.commit with reverts := ((List.range 17).filter d.frozen).reverse ++ d.commit.reverts } := by
    rw [ht, Device.causedBy_report_commit, hdone, d.unowned_commit]
  have hattic : (d.unowned.revertAll (List.range 17)).attic = d.attic := by rw [hdone]; exact d.unowned_attic
  rw [d.unowned_foyer] at hfoyer
  have hnum (k : Nat) : t.num k = (d.unowned.val k).int := congrArg Val.int (hval k)
  refine ⟨?_, ?_, ?_, ?_, ?_, ?_, ?_, ?_, ?_, ?_, fun k hk hf => ?_, fun k hf => ?_, fun g hg => ?_, ?_, fun k h1 h2 h3 h4 => ?_, ?_, ?_⟩
  · rw [Device.lock, Device.nat, hnum, d.unowned_val, if_neg (by decide), if_neg (by decide), if_pos rfl]; rfl
  · rw [hnum, d.unowned_val, if_neg (by decide), if_pos rfl]; rfl
  · rw [hnum, d.unowned_val, if_pos rfl]; rfl
  · rw [hfoyer]
  · rw [hfoyer]
  · rw [hfoyer]
  · rw [hfoyer]
  · rw [hfoyer]
  · rw [hfoyer]
  · rw [ht, newReports_causedBy_report _ _ _ _ hattic]
  · rw [Device.stagedVal, hfind, if_pos ⟨hk, hf⟩, Option.getD_none]
  · rw [hfind, if_neg (by simp [hf])]
  · rw [hcommit]
    simp [hg, or_comm]
  · rw [hcommit]
  · rw [hval, d.unowned_val_other h1 h2 h3 h4]
  · rw [ht, Device.causedBy_report_clock, hdone]; exact d.unowned_clock
  · rw [ht, Device.causedBy_report_outbox, hdone]; exact d.unowned_outbox

end Sys2Proof.Machine
end

section
/-! Chapter 2, the writes that are commands: the end of the lock, the handshake of a session, COMMIT_DISCARD and COMMIT_CANCEL. -/

namespace Sys2Proof.Machine

/-! ## A write that is a command -/

/-- An object that is WO and not KH_OWNER_KEY_SET is written in every lock state. -/
theorem Device.needsSession_wo (d : Device) {key : Nat} {row : ObjRow} (hacc : row.acc = .wo) (hk : key ≠ K.khOwnerKeySet) :
    d.needsSession key row true = false := by
  simp [Device.needsSession, hacc, hk]

/-- Within a session no object asks for one. -/
theorem Device.needsSession_session (d : Device) {key : Nat} {row : ObjRow} {w : Bool} (hl : d.lock = 3) :
    d.needsSession key row w = false := by
  simp [Device.needsSession, hl]

/-- A granted write of a WO command object below 0x3000, of a length its type allows, answers what the command answers. -/
theorem State.lowCommand_written (s : State) (h : HapHdr) {key : Nat} {v : Bytes} {row : ObjRow} {x : Reply} (hw : s.writes h key v)
    (hrow : dictFind (key / 256) (key % 256) = some row) (hacc : row.acc = .wo) (hkey : key < 0x3000 * 256) (hlr : lengthRuled key = false)
    (hal : row.ty.allows v.length = true) (hrng : rangeBad key row v = false)
    (hact : ∀ a : Asker, a.src = reqSrc (hapReq h 2 key v) → a.env = h.env → (s.asWritten h key v).lowAction a key v = some x) :
    s.hapWrite h key v = s.wrote h key v x :=
  s.action_granted h key v row x hw hrow (by rw [hacc]; exact ⟨by decide, by decide⟩)
    (Device.needsSession_wo _ hacc (fun hk => absurd (hk ▸ hkey) (by decide))) (Device.lengthBad_plain _ _ _ _ hlr hal) hrng
    fun a h1 h2 _ _ _ => by rw [if_pos hkey]; exact hact a h1 h2

/-- A granted write of a WO command object from 0x3000 on. -/
theorem State.highCommand_written (s : State) (h : HapHdr) {key : Nat} {v : Bytes} {row : ObjRow} {x : Reply} (hw : s.writes h key v)
    (hrow : dictFind (key / 256) (key % 256) = some row) (hacc : row.acc = .wo) (hkey : 0x3000 * 256 ≤ key) (hk : key ≠ K.khOwnerKeySet)
    (hlr : lengthRuled key = false) (hal : row.ty.allows v.length = true) (hrng : rangeBad key row v = false)
    (hact : ∀ a : Asker, a.src = reqSrc (hapReq h 2 key v) → a.env = h.env → a.xl = h.xl → a.txn = h.txn → a.opcode = 2 →
      (s.asWritten h key v).highAction a key v = some x) :
    s.hapWrite h key v = s.wrote h key v x :=
  s.action_granted h key v row x hw hrow (by rw [hacc]; exact ⟨by decide, by decide⟩)
    (Device.needsSession_wo _ hacc hk) (Device.lengthBad_plain _ _ _ _ hlr hal) hrng
    fun a h1 h2 h3 h4 h5 => by rw [if_neg (Nat.not_lt.2 hkey)]; exact hact a h1 h2 h3 h4 h5

/-! ## The end of the lock (R50, R53) -/

theorem lockRequest_row : dictFind (K.lockRequest / 256) (K.lockRequest % 256)
    = some ⟨0x1100, 0x1100, 0x01, 0x01, .uns 1, .wo, .num 0, .span 0 1, 0⟩ := rfl

theorem Device.lowAction_lockRequest (d : Device) (a : Asker) (b : Bytes) : d.lowAction a K.lockRequest b =
    some (if beNat b = 1 then d.lockAcquire a.src a.xl
      else { status := some St.ok, pay := [], dev := d, after := fun x => x.releaseLock 2 }) := by
  rw [Device.lowAction, if_pos rfl]

theorem exec_lockIdleTimeout (s : State) : exec .lockIdleTimeout s = .next (s.on (·.lockIdle)) := rfl
theorem exec_handshakeTimeout (s : State) : exec .handshakeTimeout s = .next (s.on (·.handshakeTimeout)) := rfl

theorem Device.lockTo_val (d : Device) (st : Nat) {k : Nat} (hk : k ≠ K.lockState) : (d.lockTo st).val k = d.val k := by
  simp only [Device.lockTo, Device.setNum, Device.val_setVal_ne _ _ hk, Device.setFoyer_val]

theorem Device.lockTo_foyer (d : Device) (st : Nat) : (d.lockTo st).foyer = { d.foyer with
    key := [], seqIn := 0, seqOut := 0, fails := 0, pendingSince := d.clock.ticks } := rfl
theorem Device.lockTo_clock (d : Device) (st : Nat) : (d.lockTo st).clock = d.clock := rfl
theorem Device.lockTo_staged (d : Device) (st : Nat) : (d.lockTo st).staged = d.staged := rfl
theorem Device.lockTo_attic (d : Device) (st : Nat) : (d.lockTo st).attic = d.attic := rfl
theorem Device.lockTo_outbox (d : Device) (st : Nat) : (d.lockTo st).outbox = d.outbox := rfl

theorem Device.lockTo_lock (d : Device) (st : Nat) : (d.lockTo st).lock = st := by
  simp [Device.lockTo, Device.lock]

/-- Settles O12: the write's command, the idle time and the handshake's time under each policy. -/
theorem lockEndsByOwnerOrTime : Obligations.LockEndsByOwnerOrTime := by
  refine ⟨fun s h hw => congrArg Host.Outcome.next ?_, fun s hl => ?_, fun s hl hp => ?_, fun s hl hp => ?_⟩
  · refine s.lowCommand_written h hw lockRequest_row rfl (by decide) (by decide) (by decide) (by decide) fun a _ _ => ?_
    rw [Device.lowAction_lockRequest, if_neg (by decide)]; rfl
  · rw [exec_lockIdleTimeout, State.on, Device.lockIdle, if_neg hl]; rfl
  · rw [exec_handshakeTimeout, State.on, Device.handshakeTimeout, if_neg (not_not_intro hl), Device.handshakeFailed, Device.runTo_nat,
      if_neg hp]; rfl
  · refine ⟨_, exec_handshakeTimeout s, rfl, ?_⟩
    rw [State.on_dev, Device.handshakeTimeout, if_neg (not_not_intro hl), Device.handshakeFailed, Device.runTo_nat, if_pos hp]
    generalize hd : s.dev.runTo (s.dev.foyer.pendingSince + sTicks) = d
    have hf : d.foyer = s.dev.foyer := by rw [← hd, Device.runTo_foyer]
    refine ⟨d.lockTo_lock 1, d.lockTo_clock 1, ?_, ?_, ?_, ?_, ?_, fun k hk => ?_, ?_, ?_⟩
    · rw [d.lockTo_foyer, hf]
    · rw [d.lockTo_foyer, hf]
    · rw [d.lockTo_foyer, hf]
    · rw [d.lockTo_foyer]
    · rw [d.lockTo_staged, ← hd, Device.runTo_staged]
    · rw [d.lockTo_val 1 hk, ← hd, Device.runTo_val]
    · rw [d.lockTo_attic, ← hd, Device.runTo_attic]
    · rw [d.lockTo_outbox, ← hd, Device.runTo_outbox]

/-! ## The handshake of a session (R53, R54) -/

theorem sessionHostNonce_row : dictFind (K.sessionHostNonce / 256) (K.sessionHostNonce % 256)
    = some ⟨0x1101, 0x1101, 0x01, 0x01, .octets 16, .wo, .rep 16 0, .any, 0⟩ := rfl

theorem sessionProof_row : dictFind (K.sessionProof / 256) (K.sessionProof % 256)
    = some ⟨0x1101, 0x1101, 0x03, 0x03, .octets 16, .wo, .rep 16 0, .any, 0⟩ := rfl

theorem Device.lowAction_hostNonce (d : Device) (a : Asker) (b : Bytes) : d.lowAction a K.sessionHostNonce b = some (d.hostNonce b) := by
  rw [Device.lowAction, if_neg (by decide), if_pos rfl]

theorem Device.lowAction_proof (d : Device) (a : Asker) (b : Bytes) : d.lowAction a K.sessionProof b = some (d.proof b) := by
  rw [Device.lowAction, if_neg (by decide), if_neg (by decide), if_pos rfl]

/-- A granted write of the host's nonce does what R53 says of it. -/
theorem State.hostNonce_written (s : State) (h : HapHdr) {v : Bytes} {x : Reply} (hw : s.writes h K.sessionHostNonce v) (hv : v.length = 16)
    (hx : (s.asWritten h K.sessionHostNonce v).hostNonce v = x) :
    exec (.sessionHostNonce h v) s = .next (s.wrote h K.sessionHostNonce v x) :=
  congrArg _ (s.lowCommand_written h hw sessionHostNonce_row rfl (by decide) (by decide) (by simp [Ty.allows, hv]) rfl
    fun a _ _ => by rw [Device.lowAction_hostNonce, hx])

/-- A granted write of the proof does what R53 says of it. -/
theorem State.proof_written (s : State) (h : HapHdr) {v : Bytes} {x : Reply} (hw : s.writes h K.sessionProof v) (hv : v.length = 16)
    (hx : (s.asWritten h K.sessionProof v).proof v = x) :
    exec (.sessionProof h v) s = .next (s.wrote h K.sessionProof v x) :=
  congrArg _ (s.lowCommand_written h hw sessionProof_row rfl (by decide) (by decide) (by simp [Ty.allows, hv]) rfl
    fun a _ _ => by rw [Device.lowAction_proof, hx])

/-- Settles O13: the branches of the nonce by the lock's state, and those of the proof. -/
theorem sessionHandshake : Obligations.SessionHandshake := by
  constructor
  · intro s h v d n e hw hv hlife hent
    have hn : d.hostNonce v = if d.lock = 2 then e.done else if d.lock = 1 then (e.lockTo 2).done
        else { status := some St.ok, pay := [], dev := e, after := fun x =>
          ((x.setFoyer (fun f => { f with hostNonce := v, devNonce := n })).lockTo 2).report 0x0F01 [8, x.num K.lockHolder, 2] } := by
      simp only [Device.hostNonce, hlife, hent, ne_eq, not_true_eq_false, decide_false, Bool.not_true, Bool.or_false, Bool.false_eq_true,
        if_false]
      rfl
    refine ⟨fun hl => s.hostNonce_written h hw hv ?_, fun hl => s.hostNonce_written h hw hv ?_, fun hl => s.hostNonce_written h hw hv ?_⟩
    · exact hn.trans (by rw [if_neg (by rw [hl]; decide), if_pos hl]; rfl)
    · exact hn.trans (by rw [if_pos hl])
    · exact hn.trans (by rw [if_neg (by rw [hl]; decide), if_neg (by rw [hl]; decide)]; rfl)
  · intro s h v d ks right hw hv hl
    have hcond : (d.foyer.devNonce ≠ [] && Decidable.decide (d.nat (K.ksState 62) = 2)
        && Decidable.decide (sessionProof ks d.foyer.hostNonce d.foyer.devNonce = v)) = true ↔ right := by
      simp only [right, Bool.and_eq_true, decide_eq_true_eq, and_assoc, eq_comm (a := v)]
    refine ⟨fun hr => s.proof_written h hw hv ?_, fun hr => s.proof_written h hw hv ?_⟩
    · rw [Device.proof, if_neg (not_not_intro hl)]
      exact if_pos (hcond.2 hr)
    · rw [Device.proof, if_neg (not_not_intro hl)]
      exact if_neg fun hc => hr (hcond.1 hc)

/-! ## COMMIT_DISCARD and COMMIT_CANCEL (R68, R73) -/

theorem commitDiscard_row : dictFind (K.commitDiscard / 256) (K.commitDiscard % 256)
    = some ⟨0x7010, 0x7010, 0x04, 0x04, .uns 4, .wo, .num 0, .mask 0x1FFFE, 0⟩ := rfl

theorem commitCancel_row : dictFind (K.commitCancel / 256) (K.commitCancel % 256)
    = some ⟨0x7010, 0x7010, 0x05, 0x05, .uns 1, .wo, .num 0, .span 0 15, 0⟩ := rfl

theorem Device.highAction_commitDiscard (d : Device) (a : Asker) (b : Bytes) :
    d.highAction a K.commitDiscard b = some (answerOf (d.writeDiscard (beNat b))) := rfl

theorem Device.highAction_commitCancel (d : Device) (a : Asker) (b : Bytes) :
    d.highAction a K.commitCancel b = some (answerOf (d.cancelSlot (beNat b))) := rfl

theorem mem_groupsOf {mask g : Nat} : g ∈ groupsOf mask ↔ g < 17 ∧ bit mask g = true := by
  simp [groupsOf]

/-- R68: reverting a list of groups unlists exactly their staged copies. -/
theorem Device.find_revertGroups (l : List Nat) (d : Device) (k : Nat) :
    Store.find k (l.foldl (fun d g => d.revertGroup g) d).staged = if groupOf k ∈ l then none else Store.find k d.staged := by
  induction l generalizing d with
  | nil => simp
  | cons g l ih =>
    rw [List.foldl_cons, ih, Device.revertGroup, Store.find_filter (fun k => Decidable.decide (groupOf k ≠ g))]
    by_cases h1 : groupOf k = g <;> by_cases h2 : groupOf k ∈ l <;> simp [h1, h2]

/-- The groups 1 to 16 are what the range of COMMIT_DISCARD admits. -/
theorem land_groupMask {mask : Nat} (h : mask < 2 ^ 17) (h2 : mask % 2 = 0) : Nat.land mask 0x1FFFE = mask := by
  obtain ⟨q, rfl⟩ : ∃ q, mask = q <<< 1 := ⟨mask / 2, by rw [Nat.shiftLeft_eq]; omega⟩
  rw [Nat.shiftLeft_eq] at h
  show q <<< 1 &&& 0xFFFF <<< 1 = _
  rw [← Nat.shiftLeft_and_distrib, Nat.and_two_pow_sub_one_eq_mod q 16, Nat.mod_eq_of_lt (by omega)]

/-- A granted COMMIT_DISCARD of groups 1 to 16. -/
theorem State.commitDiscard_written (s : State) (h : HapHdr) {mask : Nat} {x : Reply} (hw : s.writes h K.commitDiscard (toBE 4 mask))
    (hm : mask < 2 ^ 17) (h2 : mask % 2 = 0) (hx : answerOf ((s.asWritten h K.commitDiscard (toBE 4 mask)).writeDiscard mask) = x) :
    exec (.commitDiscard h mask) s = .next (s.wrote h K.commitDiscard (toBE 4 mask) x) := by
  have hb : beNat (toBE 4 mask) = mask := by rw [beNat_toBE, Nat.mod_eq_of_lt (by omega)]
  refine congrArg Host.Outcome.next (s.highCommand_written h hw commitDiscard_row rfl (by decide) (by decide) (by decide)
    (by simp [Ty.allows]) ?_ fun a _ _ _ _ _ => ?_)
  · simpa [rangeBad, hb, Rng.has, K.commitDiscard] using land_groupMask hm h2
  · rw [Device.highAction_commitDiscard, hb, hx]

/-- A granted COMMIT_CANCEL of one of the 16 slots. -/
theorem State.commitCancel_written (s : State) (h : HapHdr) {n : Nat} {x : Reply} (hw : s.writes h K.commitCancel (toBE 1 n)) (hn : n < 16)
    (hx : answerOf ((s.asWritten h K.commitCancel (toBE 1 n)).cancelSlot n) = x) :
    exec (.commitCancel h n) s = .next (s.wrote h K.commitCancel (toBE 1 n) x) := by
  have hb : beNat (toBE 1 n) = n := by rw [beNat_toBE, Nat.mod_eq_of_lt (by omega)]
  refine congrArg Host.Outcome.next (s.highCommand_written h hw commitCancel_row rfl (by decide) (by decide) (by decide)
    (by simp [Ty.allows]) ?_ fun a _ _ _ _ _ => ?_)
  · have : (n : Int) ≤ 15 := by omega
    simp [rangeBad, hb, Rng.has, K.commitCancel, this]
  · rw [Device.highAction_commitCancel, hb, hx]

/-- Settles O18: what is dropped are the staged copies of the mask's groups; a PENDING slot alone is cancelled. -/
theorem discardAndCancel : Obligations.DiscardAndCancel := by
  constructor
  · intro s h mask v d hw hm h2
    have hrange : (Decidable.decide (mask % 2 = 1) || Decidable.decide (2 ^ 17 ≤ mask)) = false := by
      rw [h2, decide_eq_false (by omega : ¬ 2 ^ 17 ≤ mask)]; rfl
    refine ⟨fun hf => ⟨s.commitDiscard_written h hw hm h2 ?_, fun k hk => ?_⟩, fun hf => s.commitDiscard_written h hw hm h2 ?_⟩
    · rw [Device.writeDiscard, hrange, if_neg Bool.false_ne_true]
      exact congrArg answerOf (if_neg (by rw [hf]; exact Bool.false_ne_true))
    · rw [Device.find_revertGroups]
      simp only [mem_groupsOf, hk, true_and]
    · rw [Device.writeDiscard, hrange, if_neg Bool.false_ne_true]
      exact congrArg answerOf (if_pos hf)
  · intro s h n v d g hw hn
    refine ⟨fun hst => s.commitCancel_written h hw hn ?_, fun hst => s.commitCancel_written h hw hn ?_⟩
    · rw [Device.cancelSlot]
      exact congrArg answerOf (if_pos hst)
    · rw [Device.cancelSlot]
      exact congrArg answerOf (if_neg hst)

end Sys2Proof.Machine
end

section
/-! Chapter 2, commits: what a request freezes, what a switch applies, when a slot latches and executes. -/

namespace Sys2Proof.Machine

/-! ## The bytes of a request (Table 2-13) -/

theorem field_of_front {a : Bytes} {n : Nat} (ha : a.length = n) (b : Bytes) : field (a ++ b) 0 n = a := by subst ha; exact field_front a b

theorem field_of_behind {a : Bytes} {n : Nat} (ha : a.length = n) (b : Bytes) (off len : Nat) :
    field (a ++ b) (n + off) len = field b off len := by subst ha; exact field_behind a b off len

/-- A request reads back the fields it was made of. -/
theorem commitReq_commitBytes {groups mode slot rsv : Nat} {instant : Bytes} (hg : groups < 2 ^ 64) (hm : mode < 256) (hs : slot < 256)
    (hr : rsv < 65536) (hi : instant.length = 12) : commitReq (commitBytes groups mode slot rsv instant) =
      { groups := groups, mode := mode, slot := slot, rsv := rsv, inst := time96Of instant, nsBad := time96Bad instant } := by
  have hv : commitBytes groups mode slot rsv instant = toBE 8 groups ++ (ofNats [mode, slot] ++ (toBE 2 rsv ++ instant)) := by
    simp [commitBytes, padTo_of_length hi]
  have hbehind := field_of_behind (length_toBE 8 groups) (ofNats [mode, slot] ++ (toBE 2 rsv ++ instant))
  have hlast := field_of_behind (length_ofNats [mode, slot]) (toBE 2 rsv ++ instant)
  have hmode : field (ofNats [mode, slot] ++ (toBE 2 rsv ++ instant)) 0 1 = ofNats [mode] := rfl
  have hslot : field (ofNats [mode, slot] ++ (toBE 2 rsv ++ instant)) 1 1 = ofNats [slot] := rfl
  have hrsv : field (ofNats [mode, slot] ++ (toBE 2 rsv ++ instant)) 2 2 = toBE 2 rsv :=
    (hlast 0 2).trans (field_of_front (length_toBE 2 rsv) instant)
  have hinst : field (ofNats [mode, slot] ++ (toBE 2 rsv ++ instant)) 4 12 = instant :=
    ((hlast 2 12).trans (field_of_behind (length_toBE 2 rsv) instant 0 12)).trans (List.take_of_length_le hi.le)
  simp only [hv, commitReq, fieldNat, field_of_front (length_toBE 8 groups), hbehind 0 1, hbehind 1 1, hbehind 2 2, hbehind 4 12, hmode, hslot,
    hrsv, hinst, beNat_toBE]
  simpa [ofNats, beNat, byte, Nat.mod_eq_of_lt hm, Nat.mod_eq_of_lt hs, Nat.mod_eq_of_lt hr] using hg

theorem length_commitBytes (groups mode slot rsv : Nat) {instant : Bytes} (hi : instant.length = 12) :
    (commitBytes groups mode slot rsv instant).length = 24 := by
  simp [commitBytes, padTo_of_length hi, hi]

/-! ## Acceptance and refusal (R69 to R72) -/

theorem commitRequest_row : dictFind (K.commitRequest / 256) (K.commitRequest % 256)
    = some ⟨0x7010, 0x7010, 0x01, 0x01, .octets 24, .wo, .rep 24 0, .any, 0⟩ := rfl

theorem Device.highAction_commitRequest (d : Device) (a : Asker) (b : Bytes) : d.highAction a K.commitRequest b =
    some { status := (d.writeCommit b a.env.mem a.src a.xl a.opcode a.txn).1, pay := []
           dev := (d.writeCommit b a.env.mem a.src a.xl a.opcode a.txn).2, after := id } := rfl

/-- A granted write of a commit request that meets no memory error. -/
theorem State.commit_written (s : State) (h : HapHdr) {v : Bytes} (hw : s.writes h K.commitRequest v) (hv : v.length = 24)
    (hmem : h.env.mem = []) {r : Option Nat × Device}
    (hr : (s.asWritten h K.commitRequest v).writeCommit v [] (reqSrc (hapReq h 2 K.commitRequest v)) h.xl 2 h.txn = r) :
    s.hapWrite h K.commitRequest v = s.wrote h K.commitRequest v { status := r.1, pay := [], dev := r.2, after := id } :=
  s.highCommand_written h hw commitRequest_row rfl (by decide) (by decide) (by decide) (by simp [Ty.allows, hv]) rfl
    fun a h1 h2 h3 h4 h5 => by rw [Device.highAction_commitRequest, h1, h2, h3, h4, h5, hmem, hr]

/-- What a request that meets no memory error comes to. -/
theorem Device.writeCommit_eq (d : Device) (b : Bytes) (src : Partner) (xl : Bool) (opcode txn : Nat) :
    d.writeCommit b [] src xl opcode txn = match d.commitRefused (commitReq b) [] with
      | some (st, obj) => (some st, (if st = St.conflict then d.setNum K.commitConflictObj obj else d).report 0x0F05
          [((commitReq b).groups % 2 ^ 32 : Nat), st, (if st = St.conflict then d.setNum K.commitConflictObj obj else d).num K.commitConflictObj])
      | none =>
        if (commitReq b).mode = 1 then match d.pickSlot (commitReq b).slot with
          | some n => (some St.ok, d.fillSlot n 1 (commitReq b).inst { groups := (commitReq b).groups, amount := 0 })
          | none => (some St.full, d)
        else (none, d.setCommit (fun e => { e with imm := e.imm ++ [{ groups := (commitReq b).groups, since := d.clock.ticks, src := src
                                                                      xl := xl, opcode := opcode, txn := txn }] })) := rfl

/-- R71: the slot picked is FREE, and the one that SLOT names. -/
theorem Device.pickSlot_free (d : Device) {slot n : Nat} (h : d.pickSlot slot = some n) :
    n < 16 ∧ d.slotState n = 0 ∧ (slot ≠ 0xFF → n = slot) := by
  unfold Device.pickSlot Device.freeSlot at h
  split at h
  · obtain ⟨hn, hmem⟩ := And.intro (List.find?_some h) (List.mem_of_find?_eq_some h)
    exact ⟨List.mem_range.1 hmem, by simpa using hn, fun hne => absurd ‹_› hne⟩
  · split at h
    · obtain rfl : slot = n := by simpa using h
      simp_all
    · simp at h

/-- R71: an accepted scheduled request finds a slot. -/
theorem Device.commitRefused_pickSlot (d : Device) (r : CommitReq) (hm : r.mode = 1) (h : d.commitRefused r [] = none) :
    ∃ n, d.pickSlot r.slot = some n := by
  rw [← Option.isSome_iff_exists]
  by_contra hc
  rw [Device.commitRefused] at h
  split at h
  · simp at h
  · split at h
    · simp at h
    · rw [if_pos (by simpa [hm] using hc)] at h
      simp at h

/-- R71: a group of an immediate commit that waits is frozen. -/
theorem Device.frozen_of_imm (d : Device) {c : ImmCommit} (hc : c ∈ d.commit.imm) {g : Nat} (hg : bit c.groups g = true) :
    d.frozen g = true := by
  have : d.commit.imm.any (fun c => bit c.groups g) = true := List.any_eq_true.2 ⟨c, hc, hg⟩
  simp [Device.frozen, this]

theorem exec_commitImmediate (h : HapHdr) (groups modeHi slot rsv : Nat) (instant : Bytes) (s : State) :
    exec (.commitImmediate h groups modeHi slot rsv instant) s =
      .next (s.hapWrite h K.commitRequest (commitBytes groups (2 * modeHi) slot rsv instant)) := rfl

theorem exec_commitScheduled (h : HapHdr) (groups modeHi slot rsv : Nat) (instant : Bytes) (s : State) :
    exec (.commitScheduled h groups modeHi slot rsv instant) s =
      .next (s.hapWrite h K.commitRequest (commitBytes groups (2 * modeHi + 1) slot rsv instant)) := rfl

/-- Settles O15: acceptance and refusal as writeCommit gives them for the fields of the request. -/
theorem commitAcceptedThenSwitched : Obligations.CommitAcceptedThenSwitched := by
  intro s h groups modeHi slot rsv instant hg hm hs hr hi hmem
  refine ⟨?_, ?_, ?_⟩
  · intro v d c hw hno
    have hreq := commitReq_commitBytes hg (by omega : 2 * modeHi < 256) hs hr hi
    have hwc : d.writeCommit v [] (reqSrc (hapReq h 2 K.commitRequest v)) h.xl 2 h.txn =
        (none, d.setCommit (fun e => { e with imm := e.imm ++ [c] })) := by
      rw [Device.writeCommit_eq, hno]
      dsimp only
      rw [hreq, if_neg (by show ¬ 2 * modeHi = 1; omega)]
    refine ⟨?_, fun g hgb => ?_⟩
    · rw [exec_commitImmediate, s.commit_written h hw (length_commitBytes _ _ _ _ hi) hmem hwc]
    · exact Device.frozen_of_imm _ (List.mem_append_right _ (List.mem_singleton_self c)) hgb
  · intro v d hw hno hm0
    subst hm0
    have hreq := commitReq_commitBytes hg (by omega : 2 * 0 + 1 < 256) hs hr hi
    obtain ⟨n, hn⟩ := d.commitRefused_pickSlot _ (by rw [hreq]) hno
    rw [hreq] at hn
    obtain ⟨hlt, hfree, hslot⟩ := d.pickSlot_free hn
    have hwc : d.writeCommit v [] (reqSrc (hapReq h 2 K.commitRequest v)) h.xl 2 h.txn =
        (some 0, d.fillSlot n 1 (time96Of instant) { groups := groups, amount := 0 }) := by
      rw [Device.writeCommit_eq, hno]
      dsimp only
      rw [hreq, if_pos rfl, hn]
      rfl
    refine ⟨n, hlt, hfree, hslot, ?_⟩
    rw [exec_commitScheduled, s.commit_written h hw (length_commitBytes _ _ _ _ hi) hmem hwc]
    rfl
  · intro mode v d hw hmode st o hst d1
    have hreq := commitReq_commitBytes hg hmode hs hr hi
    have hwc : d.writeCommit v [] (reqSrc (hapReq h 2 K.commitRequest v)) h.xl 2 h.txn =
        (some st, d1.report 0x0F05 [((groups % 2 ^ 32 : Nat) : Int), (st : Int), d1.num K.commitConflictObj]) := by
      rw [Device.writeCommit_eq, hst]
      dsimp only
      rw [hreq]
      rfl
    rw [s.commit_written h hw (length_commitBytes _ _ _ _ hi) hmem hwc]
    rfl

/-! ## What a unit's switch does (R70, R580) -/

theorem Store.rising_iff_pairwise (st : Store) : st.Rising ↔ st.Pairwise (fun a b => a.1 < b.1) := by
  induction st with
  | nil => simp [Store.Rising]
  | cons e t ih =>
    obtain ⟨k, v⟩ := e
    simp only [Store.Rising, List.pairwise_cons, ih]

theorem Store.Rising.filter {st : Store} (h : st.Rising) (p : Nat × Val → Bool) : Store.Rising (st.filter p) :=
  (Store.rising_iff_pairwise _).2 (((Store.rising_iff_pairwise _).1 h).filter p)

/-- Below its first key a store lists nothing. -/
theorem Store.find_eq_none {st : Store} {k : Nat} (h : ∀ e ∈ st, k ≠ e.1) : Store.find k st = none := by
  induction st with
  | nil => rfl
  | cons e t ih =>
    obtain ⟨hk, ht⟩ := List.forall_mem_cons.1 h
    rw [Store.find_cons, if_neg (Ne.symm hk), ih ht]

/-- Writing the entries of a store with rising keys gives each its value and every other object its old one. -/
theorem Device.val_setEntries (l : Store) (hl : l.Rising) (d : Device) (k : Nat) :
    (l.foldl (fun d e => d.setVal e.1 e.2) d).val k = (Store.find k l).getD (d.val k) := by
  induction l generalizing d with
  | nil => rfl
  | cons e t ih =>
    obtain ⟨j, v⟩ := e
    obtain ⟨hlt, ht⟩ := hl
    rw [List.foldl_cons, ih ht, Device.val_setVal, Store.find_cons]
    by_cases hj : j = k
    · subst hj
      rw [Store.find_eq_none fun e he => (hlt e he).ne, if_pos rfl, if_pos rfl]
      rfl
    · rw [if_neg (Ne.symm hj), if_neg hj]

/-- Writing live values keeps what one of them keeps. -/
theorem Device.setEntries_keeps {α : Type} (π : Device → α) (hπ : ∀ d k v, π (Device.setVal d k v) = π d) (l : Store) (d : Device) :
    π (l.foldl (fun d e => d.setVal e.1 e.2) d) = π d := by
  induction l generalizing d with
  | nil => rfl
  | cons e t ih => rw [List.foldl_cons, ih, hπ]

theorem Device.applyUnit_staged (d : Device) (g u : Nat) :
    (d.applyUnit g u).staged = d.staged.filter (fun e => !(groupOf e.1 = g && unitOf g e.1 = u)) :=
  Device.setEntries_keeps Device.staged Device.setVal_staged _ _

/-- Settles O17: the unit's staged entries become live and leave the staged store. -/
theorem switchedUnitsTakeStagedValues : Obligations.SwitchedUnitsTakeStagedValues := by
  intro d g u k hrise t
  have hmine (j : Nat) : Store.find j (d.staged.filter (fun e => groupOf e.1 = g && unitOf g e.1 = u)) =
      if groupOf j = g ∧ unitOf g j = u then Store.find j d.staged else none := by
    rw [Store.find_filter (fun j => groupOf j = g && unitOf g j = u)]
    simp only [Bool.and_eq_true, decide_eq_true_eq]
  have hrest (j : Nat) : Store.find j t.staged = if groupOf j = g ∧ unitOf g j = u then none else Store.find j d.staged := by
    rw [show t.staged = _ from d.applyUnit_staged g u, Store.find_filter (fun j => !(groupOf j = g && unitOf g j = u))]
    by_cases hj : groupOf j = g ∧ unitOf g j = u
    · simp [hj]
    · rw [if_neg hj, if_pos (by rw [Bool.not_eq_true', ← Bool.not_eq_true]; simpa using hj)]
  have hval : t.val k = if groupOf k = g ∧ unitOf g k = u then d.stagedVal k else d.val k := by
    refine (Device.val_setEntries _ (hrise.filter _) _ k).trans ?_
    rw [hmine]
    split <;> rfl
  refine ⟨fun hk => ⟨?_, ?_⟩, fun hk => ⟨?_, ?_⟩, ?_⟩
  · rw [hval, if_pos hk]
  · rw [Device.stagedVal, hrest, if_pos hk, Option.getD_none]
  · rw [hval, if_neg hk]
  · rw [hrest, if_neg hk]
  · exact ⟨Device.setEntries_keeps Device.clock Device.setVal_clock _ _, Device.setEntries_keeps Device.foyer Device.setVal_foyer _ _,
      Device.setEntries_keeps Device.attic Device.setVal_attic _ _, Device.setEntries_keeps Device.outbox Device.setVal_outbox _ _⟩

/-! ## What an answer leaves of the objects of the commit engine -/

section Watch
variable {W : Nat → Bool} (d : Device)

theorem Device.watch_setCan (n st : Nat) (h1 : W (K.canState n) = false) (h2 : W (K.canBusoffCount n) = false) :
    (d.setCan n st).watch W = d.watch W := by
  unfold Device.setCan
  dsimp only
  split
  · rfl
  · split
    · rw [Device.watch_bump _ h2, Device.watch_report, Device.watch_setNum _ _ h1]
    · rw [Device.watch_report, Device.watch_setNum _ _ h1]

theorem Device.watch_cellCheckAt (ps : Nat) : (d.cellCheckAt ps).watch W = d.watch W := by
  unfold Device.cellCheckAt
  dsimp only
  split
  · rfl
  · split <;> rfl

theorem Device.watch_freeEnded : d.freeEnded.watch W = d.watch W := Device.watch_foldl d _ fun e t _ => e.watch_cellCheckAt t

theorem Device.watch_egressDrop (p kind q k : Nat) (h : W k = false) : (d.egressDrop p kind q k).watch W = d.watch W := by
  rw [Device.egressDrop, Device.watch_reportOnce, Device.watch_bump _ h]

theorem Device.watch_rootDropped (h : W K.ledgerRootDrop = false) : d.rootDropped.watch W = d.watch W := by
  rw [Device.rootDropped, Device.watch_reportOnce, Device.watch_bump _ h]

theorem Device.watch_enqueue (p q : Nat) (f : Frame) (h1 : W (K.gateNeverDrop p) = false) (h2 : W (K.qTaildrop p q) = false)
    (h3 : W (K.launchFarDrop p) = false) (h4 : W K.ledgerRootDrop = false) : (d.enqueue p q f).watch W = d.watch W := by
  unfold Device.enqueue
  split
  · exact d.watch_egressDrop _ _ _ _ h1
  · split
    · rw [Device.watch_egressDrop _ _ _ _ _ h2]
      split
      · exact d.watch_rootDropped h4
      · rfl
    · split
      · exact d.watch_egressDrop _ _ _ _ h3
      · exact Device.watch_cellCheckAt _ _

theorem Device.watch_ipSend (p q : Nat) (f : Frame) (h1 : W (K.gateNeverDrop p) = false) (h2 : W (K.qTaildrop p q) = false)
    (h3 : W (K.launchFarDrop p) = false) (h4 : W K.ledgerRootDrop = false) : (d.ipSend p q f).watch W = d.watch W := by
  rw [← d.watch_freeEnded]
  unfold Device.ipSend
  dsimp only
  split
  · rw [Device.watch_enqueue _ _ _ _ h1 h2 h3 h4]; rfl
  · rfl

end Watch

/-- COMMIT_LAST_STATUS is none of the counters and states that a PDU's way out changes. -/
def lastStatusKey (k : Nat) : Bool := k = K.commitLastStatus

theorem Device.respond_lastStatus (d : Device) (src : Partner) (xl : Bool) (opcode index sub txn status : Nat) (pay : Bytes) (h : d.lock ≠ 3) :
    (d.respond src xl opcode index sub txn status pay).nat K.commitLastStatus = d.nat K.commitLastStatus := by
  have hoff {k : Nat} (hk : k ≠ K.commitLastStatus) : lastStatusKey k = false := decide_eq_false hk
  have hemit (dst : Partner) (p : HapPdu) : (d.emitHap dst xl p).watch lastStatusKey = d.watch lastStatusKey := by
    unfold Device.emitHap
    split
    · rename_i ht
      refine Eq.trans (b := (d.canSent dst.transport).watch lastStatusKey) rfl ?_
      rw [Device.canSent, Device.canGrade, Device.watch_setCan, Device.watch_setNum, Device.watch_bump] <;>
        exact hoff (by simp only [K.canTxFrames, K.canTec, K.canState, K.canBusoffCount, K.commitLastStatus]; omega)
    · refine d.watch_ipSend _ _ _ ?_ ?_ ?_ ?_ <;>
        exact hoff (by simp only [K.gateNeverDrop, K.qTaildrop, K.launchFarDrop, K.ledgerRootDrop, K.commitLastStatus]; omega)
  simp only [Device.respond, Device.sendPdu, h, ne_eq, not_false_eq_true, decide_true, Bool.true_or, if_true]
  split
  · rfl
  · exact nat_of_watch (hemit _ _) (decide_eq_true rfl)

/-! ## The switch (R70) -/

theorem exec_commitSwitch (groups : Nat) (stuck : List (Nat × Nat)) (s : State) :
    exec (.commitSwitch groups stuck) s = .next (s.on (·.commitSwitch groups stuck)) := rfl

theorem exec_commitReadyTimeout (groups : Nat) (s : State) :
    exec (.commitReadyTimeout groups) s = .next (s.on (·.commitTimeout groups)) := rfl

/-- Without group 0x08 no port waits for a grant. -/
theorem Device.switchGroups_wait (d : Device) (groups slot : Nat) (stuck : List (Nat × Nat)) (h : bit groups 8 = false) :
    (d.switchGroups groups slot stuck).2.1 = [] := by
  simp only [Device.switchGroups, h, Bool.false_eq_true, if_false]

theorem Device.setUnitMask_val (d : Device) (g : Nat) (us : List Nat) {k : Nat} (hk : k < 0x7000 * 256) : (d.setUnitMask g us).val k = d.val k :=
  Device.val_setVal_ne _ _ (by simp only [K.commitUnitMask]; omega)

theorem Device.noneApplied_val (d : Device) (mask : Nat) {k : Nat} (hk : k < 0x7000 * 256) : (d.noneApplied mask).val k = d.val k := by
  unfold Device.noneApplied
  induction groupsOf mask generalizing d with
  | nil => rfl
  | cons g l ih => rw [List.foldl_cons, ih, d.setUnitMask_val g [] hk]

/-- Freeing groups reverts staged copies only. -/
theorem Device.freeGroups_val (d : Device) (mask k : Nat) : (d.freeGroups mask).val k = d.val k := by
  unfold Device.freeGroups
  dsimp only
  generalize (groupsOf mask).filter _ = l
  show (l.foldl (fun d g => d.revertGroup g) d).val k = d.val k
  induction l generalizing d with
  | nil => rfl
  | cons g l ih => exact (ih (d.revertGroup g)).trans rfl

end Sys2Proof.Machine
end

section
/-! Chapter 2, the switch of an immediate commit, and the slots. -/

namespace Sys2Proof.Machine

/-- Between commands the cause of what happens bears on no object and no lock. -/
theorem Device.causedBy_val (d : Device) (src : Nat) (f : Device → Device) (k : Nat) :
    (d.causedBy src f).val k = (f { d with foyer := { d.foyer with cause := src } }).val k := rfl

/-- R50, R70: outside a session an immediate commit that ends shows its status in COMMIT_LAST_STATUS; the objects below Porch's stay. -/
theorem Device.commitEnds_immediate (d : Device) (groups status : Nat) (c : ImmCommit) (hl : d.lock ≠ 3) :
    (d.commitEnds groups 0xFF status (some c)).nat K.commitLastStatus = status ∧
      ∀ k, k < 0x3110 * 256 → (d.commitEnds groups 0xFF status (some c)).val k = d.val k := by
  let e := ((d.setNum K.commitLastStatus status).report 0x0F04 [(groups % 2 ^ 32 : Nat), 0xFF, status]).freeGroups groups
  have he (k : Nat) : e.val k = (d.setNum K.commitLastStatus status).val k := (Device.freeGroups_val _ _ _).trans rfl
  have hlow (k : Nat) (hk : k < 0x3110 * 256) : e.val k = d.val k :=
    (he k).trans (Device.val_setVal_ne d _ (by simp only [K.commitLastStatus]; omega))
  have hlast : e.nat K.commitLastStatus = status := by
    rw [Device.nat, Device.num, he]
    exact (congrArg Int.toNat (d.num_setNum_self K.commitLastStatus status)).trans (Int.toNat_natCast status)
  have hlock : e.lock ≠ 3 := by
    rw [Device.lock, Device.nat, Device.num, hlow _ (by decide)]
    exact hl
  have hends : d.commitEnds groups 0xFF status (some c) =
      if c.opcode = 0 then e else e.respond c.src c.xl c.opcode 0x7010 1 c.txn status [] := rfl
  rw [hends]
  split
  · exact ⟨hlast, hlow⟩
  · exact ⟨(e.respond_lastStatus _ _ _ _ _ _ _ _ hlock).trans hlast,
      fun k hk => ((e.sameBut_respond _ _ _ _ _ _ _ _ hlock).val k hk).trans (hlow k hk)⟩

/-- COMMIT_READY_TIMEOUT of a waiting commit with a time-affecting group. -/
theorem Device.commitTimeout_eq (d : Device) {groups : Nat} {c : ImmCommit} (hc : d.commit.imm.find? (fun c => c.groups = groups) = some c)
    (ht : (groupsOf groups).any groupTimed = true) : d.commitTimeout groups =
      (((d.runTo (c.since + msTicks)).setCommit (fun e => { e with imm := e.imm.erase c })).noneApplied groups).causedBy c.src.transport
        (·.commitEnds groups 0xFF 0x100A (some c)) := by
  rw [Device.commitTimeout, hc]
  simp only [ht, Bool.not_true, Bool.false_eq_true, if_false]
  rfl

/-- Settles O16: the switch runs the commit; without group 0x08 nothing waits for a grant; the time-out ends it with nothing applied. -/
theorem commitSwitchAppliesGroups : Obligations.CommitSwitchAppliesGroups := by
  refine ⟨fun s groups stuck c hc hst htime => ?_, fun d groups slot since imm stuck h8 => ?_, fun s groups c hc ht => ⟨?_, ?_⟩⟩
  · have hlate : (timedStuck groups stuck || ((groupsOf groups).any groupTimed && Decidable.decide (c.since + msTicks < s.dev.clock.ticks)))
        = false := by
      rw [hst, Bool.false_or, Bool.and_eq_false_iff, decide_eq_false_iff_not, Nat.not_lt]
      by_cases ha : (groupsOf groups).any groupTimed = true
      · exact .inr (htime ha)
      · exact .inl (by simpa using ha)
    have hsw : s.dev.commitSwitch groups stuck = (s.dev.setCommit (fun e => { e with imm := e.imm.erase c })).causedBy c.src.transport
        (·.runCommit groups 0xFF c.since (some c) stuck) := by
      rw [Device.commitSwitch, hc]
      exact if_neg (by rw [hlate]; exact Bool.false_ne_true)
    rw [exec_commitSwitch, State.on, hsw, State.on]
  · rw [Device.runCommit]
    rcases hsw : d.switchGroups groups slot stuck with ⟨e, wait, bad⟩
    obtain rfl : wait = [] := by
      have := d.switchGroups_wait groups slot stuck h8
      rwa [hsw] at this
    exact if_pos rfl
  · rw [exec_commitReadyTimeout, State.on, s.dev.commitTimeout_eq hc ht, State.on]
  · intro hl t hex
    rw [exec_commitReadyTimeout] at hex
    obtain rfl := Host.Outcome.next.inj hex
    rw [State.on_dev, s.dev.commitTimeout_eq hc ht]
    generalize hd : ((s.dev.runTo (c.since + msTicks)).setCommit (fun e => { e with imm := e.imm.erase c })).noneApplied groups = d
    have hval (k : Nat) (hk : k < 0x7000 * 256) : d.val k = s.dev.val k := by
      rw [← hd, Device.noneApplied_val _ _ hk, Device.setCommit_val, Device.runTo_val]
    have hdl : ({ d with foyer := { d.foyer with cause := c.src.transport } } : Device).lock ≠ 3 := by
      show (d.val K.lockState).int.toNat ≠ 3
      rw [hval _ (by decide)]
      exact hl
    obtain ⟨hlast, hlow⟩ := Device.commitEnds_immediate _ groups 0x100A c hdl
    refine ⟨hlast, fun k hk => ?_⟩
    rw [Device.causedBy_val, hlow k hk]
    exact hval k (by omega)

/-! ## Slots (R73, R91 to R94) -/

theorem exec_slotLatch (n : Nat) (stuck : List (Nat × Nat)) (s : State) : exec (.slotLatch n stuck) s = .next (s.on (·.slotLatch n stuck)) := rfl

theorem exec_slotExecute (stuck : List (Nat × Nat)) (s : State) : exec (.slotExecute stuck) s = .next (s.on (·.slotExecute stuck)) := rfl

/-- A list of distinct numbers filtered by what holds of one of them alone. -/
theorem filter_eq_single {l : List Nat} (hl : l.Nodup) {p : Nat → Bool} {n : Nat} (hn : n ∈ l) (hp : ∀ m ∈ l, p m = true ↔ m = n) :
    l.filter p = [n] := by
  rw [List.filter_congr (q := fun m => m == n) fun m hm => by rw [Bool.eq_iff_iff, hp m hm, beq_iff_eq], List.filter_beq,
    List.count_eq_one_of_mem hl hn]
  rfl

theorem filter_one {p : Nat → Bool} {n : Nat} (h : p n = true) : [n].filter p = [n] := by
  rw [List.filter_cons_of_pos h, List.filter_nil]

/-! Time that runs changes no slot. -/

theorem Device.runToMt_slotInst (d : Device) (t n : Nat) : (d.runToMt t).slotInst n = d.slotInst n := by
  rw [Device.slotInst, Device.runToMt_nat, Device.slotInst]

theorem Device.runToMt_slot (d : Device) (t n : Nat) : (d.runToMt t).slot n = d.slot n := by
  rw [Device.slot, Device.runToMt_commit, Device.slot]

theorem Device.runToMt_stepAllowed (d : Device) (t : Nat) (a : Int) : (d.runToMt t).stepAllowed a = d.stepAllowed a := by
  rw [Device.stepAllowed, Device.everLocked, Device.runToMt_num, Device.runToMt_nat, Device.stepAllowed, Device.everLocked]

/-- Does slot n hold an action that is latched and has not switched yet (R92). -/
def Device.slotHeld (d : Device) (n : Nat) : Bool := d.slotState n = 2 && !d.executing n

/-- R92: the one latched action is due at its INSTANT. -/
theorem Device.latched_single (d : Device) {n : Nat} (hn : n < 16) (hst : d.slotState n = 2) (hex : d.executing n = false)
    (hone : ∀ m, m < 16 → m ≠ n → d.slotState m ≠ 2) : (List.range 16).filter d.slotHeld = [n] := by
  refine filter_eq_single List.nodup_range (List.mem_range.2 hn) fun m hm => ?_
  simp only [Device.slotHeld, Bool.and_eq_true, decide_eq_true_eq]
  refine ⟨fun h => by_contra fun hne => hone m (List.mem_range.1 hm) hne h.1, fun h => ?_⟩
  subst h
  exact ⟨hst, by rw [hex]; rfl⟩

/-- R92 to R94: the tick on which the action of the one latched slot executes. -/
theorem Device.slotExecute_of_latched (d0 : Device) (stuck : List (Nat × Nat)) {n : Nat} (hheld : (List.range 16).filter d0.slotHeld = [n])
    (hrun : d0.clock.mtRun = true) {d : Device} (hd : d0.runToMt (d0.slotInst n) = d) (hreach : d.slotInst n ≤ d.clock.mt) :
    d0.slotExecute stuck = (d.executeSlot stuck n).slotsStepped d.clock.mt (max d.clock.mt (d.executeSlot stuck n).clock.mt) stuck := by
  have hmin : ([n].map d0.slotInst).min? = some (d0.slotInst n) := by rw [List.map_cons, List.map_nil, List.min?_singleton]
  have hdue : [n].filter (fun m => Decidable.decide (d.slotInst m ≤ d.clock.mt)) = [n] := filter_one (decide_eq_true hreach)
  have hall : (List.range 16).filter (fun n => d0.slotState n = 2 && !d0.executing n) = [n] := hheld
  simp only [Device.slotExecute, hall, hmin, hrun, Bool.not_true, Bool.false_eq_true, if_false, hd, hdue, List.foldl_cons, List.foldl_nil]

theorem Device.executeSlot_commit (d : Device) (stuck : List (Nat × Nat)) {n : Nat} (hk : d.nat (K.slotKind n) ≠ 2) :
    d.executeSlot stuck n = d.causedBy (d.slot n).src (fun d => d.runCommit (d.slot n).groups n d.clock.ticks none stuck) := by
  simp only [Device.executeSlot, Device.causedBy]
  rw [if_neg (by exact hk)]

theorem Device.executeSlot_step (d : Device) (stuck : List (Nat × Nat)) {n : Nat} (hk : d.nat (K.slotKind n) = 2)
    (ha : d.stepAllowed (d.slot n).amount = true) :
    d.executeSlot stuck n = d.causedBy (d.slot n).src (fun d => (d.endSlot n 0).commandedNow (d.slot n).amount n) := by
  simp only [Device.executeSlot, Device.causedBy, St.ok]
  rw [if_pos (by exact hk), if_pos (by exact ha)]

/-- Settles O19: a latch after time has run to 500 us before INSTANT; the one action latched executes as MT reaches it. -/
theorem slotsLatchThenExecute : Obligations.SlotsLatchThenExecute := by
  constructor
  · intro s n stuck hn hst d
    have hlatch : s.dev.slotLatch n stuck = d.latchSlot stuck n := by
      rw [Device.slotLatch]
      exact if_pos (by simp [hst, hn])
    refine ⟨fun hk hts => ?_, fun hk ha => ?_⟩ <;> rw [exec_slotLatch, State.on, hlatch, Device.latchSlot]
    · rw [Device.runToMt_nat, Device.runToMt_slot, if_neg hk, if_neg (by rw [hts]; exact Bool.false_ne_true)]
    · rw [Device.runToMt_nat, Device.runToMt_slot, Device.runToMt_stepAllowed, if_pos hk, if_pos ha]
  · intro s n stuck hn hst hex hone hrun hreach d
    have hsl := s.dev.slotExecute_of_latched stuck (s.dev.latched_single hn hst hex hone) hrun rfl
      (by rw [Device.runToMt_slotInst]; exact hreach)
    refine ⟨fun hk => ?_, fun hk ha => ?_⟩ <;> rw [exec_slotExecute, State.on, hsl]
    · rw [Device.executeSlot_commit _ _ (by rw [Device.runToMt_nat]; exact hk)]
    · rw [Device.executeSlot_step _ _ (by rw [Device.runToMt_nat]; exact hk)
        (by rw [Device.runToMt_slot, Device.runToMt_stepAllowed]; exact ha)]

end Sys2Proof.Machine
end

section
/-! Chapter 9: what the pulse outputs can change, and what a due edge does. -/

namespace Sys2Proof.Machine

/-- The objects of the pulse outputs, whatever their number. -/
def outKey (k : Nat) : Bool := 0x2540 * 256 ≤ k && k < 0x2550 * 256

/-- The part without what the pulse outputs can change: their objects and their own state, the edges looped back to the channels, reports and pins. -/
def Device.besideOuts (d : Device) : Device × (Nat → Option Val) :=
  ({ d with obj := [], lost := [], tdc := {}, attic := {}, outs := [], outbox := [] }, fun k => if outKey k then none else some (d.val k))

section
variable {d e : Device}

theorem clock_of_besideOuts (h : e.besideOuts = d.besideOuts) : e.clock = d.clock := congrArg (fun x => x.1.clock) h
theorem staged_of_besideOuts (h : e.besideOuts = d.besideOuts) : e.staged = d.staged := congrArg (fun x => x.1.staged) h
theorem foyer_of_besideOuts (h : e.besideOuts = d.besideOuts) : e.foyer = d.foyer := congrArg (fun x => x.1.foyer) h
theorem therm_of_besideOuts (h : e.besideOuts = d.besideOuts) : e.therm = d.therm := congrArg (fun x => x.1.therm) h
theorem ports_of_besideOuts (h : e.besideOuts = d.besideOuts) : e.ports = d.ports := congrArg (fun x => x.1.ports) h

theorem val_of_besideOuts (h : e.besideOuts = d.besideOuts) {k : Nat} (hk : outKey k = false) : e.val k = d.val k := by
  have := congrFun (congrArg Prod.snd h) k
  simpa [Device.besideOuts, hk] using this

variable (d)

@[simp] theorem Device.besideOuts_report (code : Nat) (p : List Int) : (d.report code p).besideOuts = d.besideOuts := (rfl)
@[simp] theorem Device.besideOuts_setOut (n : Nat) (f : OutUnit → OutUnit) : (d.setOut n f).besideOuts = d.besideOuts := (rfl)
@[simp] theorem Device.besideOuts_setCh (n : Nat) (f : TdcChannel → TdcChannel) : (d.setCh n f).besideOuts = d.besideOuts := (rfl)
@[simp] theorem Device.besideOuts_emit (o : Output) : (d.emit o).besideOuts = d.besideOuts := (rfl)

theorem Device.besideOuts_setNum {k : Nat} (v : Int) (h : outKey k = true) : (d.setNum k v).besideOuts = d.besideOuts := by
  refine Prod.ext rfl (funext fun j => ?_)
  by_cases hj : j = k
  · simp [Device.besideOuts, hj, h]
  · exact congrArg (fun v => if outKey j then none else some v) (d.val_setVal_ne _ hj)

theorem Device.besideOuts_bumpBy {k : Nat} (w n : Nat) (h : outKey k = true) : (d.bumpBy w k n).besideOuts = d.besideOuts :=
  d.besideOuts_setNum _ h

/-- A fold of operations that leave what is beside the pulse outputs alone. -/
theorem Device.besideOuts_foldl {α : Type} {f : Device → α → Device} (l : List α) (h : ∀ e, ∀ a ∈ l, (f e a).besideOuts = e.besideOuts) :
    (l.foldl f d).besideOuts = d.besideOuts := by
  induction l generalizing d with
  | nil => rfl
  | cons a l ih => exact (ih _ fun e b hb => h e b (List.mem_cons_of_mem a hb)).trans (h d a List.mem_cons_self)

end

theorem outKey_of_unit {n c : Nat} (h : n < 16) (hc : c < 256) : outKey ((0x2540 + n) * 256 + c) = true := by
  refine Bool.and_eq_true_iff.mpr ⟨decide_eq_true ?_, decide_eq_true ?_⟩ <;> omega

theorem outKey_outStatus {n : Nat} (h : n < 16) : outKey (K.outStatus n) = true := outKey_of_unit h (by decide)
theorem outKey_outMissed {n : Nat} (h : n < 16) : outKey (K.outMissed n) = true := outKey_of_unit h (by decide)
theorem outKey_outPulses {n : Nat} (h : n < 16) : outKey (K.outPulses n) = true := outKey_of_unit h (by decide)
theorem outKey_outLastEdge {n : Nat} (h : n < 16) : outKey (K.outLastEdge n) = true := outKey_of_unit h (by decide)

section
variable (d : Device) {n : Nat}

@[simp] theorem Device.besideOuts_padEdge (n ps : Nat) (falling : Bool) (sched : Option (Nat × Int × Nat)) :
    (d.padEdge n ps falling sched).besideOuts = d.besideOuts :=
  d.besideOuts_foldl _ fun e m _ => by
    split
    · exact e.besideOuts_setCh _ _
    · rfl

theorem Device.besideOuts_setOutStatus (st : Nat) (h : n < 16) : (d.setOutStatus n st).besideOuts = d.besideOuts := by
  unfold Device.setOutStatus
  dsimp only
  split
  · rfl
  · rw [Device.besideOuts_setNum _ _ (outKey_outStatus h)]
    split <;> simp

theorem Device.besideOuts_produceEdge (ps mt16 : Nat) (h : n < 16) : (d.produceEdge n ps mt16).besideOuts = d.besideOuts := by
  simp [Device.produceEdge, Device.bump64, Device.besideOuts_bumpBy, Device.besideOuts_setNum, outKey_outPulses h, outKey_outLastEdge h]

theorem Device.besideOuts_bumpMissed (w m : Nat) (h : n < 16) : (d.bumpBy w (K.outMissed n) m).besideOuts = d.besideOuts :=
  d.besideOuts_setNum _ (outKey_outMissed h)

theorem Device.besideOuts_dueEdge (k ps mt16 : Nat) (h : n < 16) : (d.dueEdge n k ps mt16).besideOuts = d.besideOuts := by
  unfold Device.dueEdge
  dsimp only
  simp only [apply_ite Device.besideOuts, Device.besideOuts_setOutStatus _ _ h, Device.besideOuts_produceEdge _ _ _ h, Device.bump,
    Device.besideOuts_bumpMissed _ _ _ h, Device.besideOuts_setOut, ite_self]

theorem Device.besideOuts_passRepeats (count : Bool) (h : n < 16) : (d.passRepeats n count).besideOuts = d.besideOuts := by
  unfold Device.passRepeats
  dsimp only
  split <;> simp only [Device.besideOuts_bumpMissed _ _ _ h, Device.besideOuts_setOut]

theorem Device.besideOuts_outForward (k : Nat) (h : n < 16) : (d.outForward n k).besideOuts = d.besideOuts := by
  have hdue (k ps m : Nat) := d.besideOuts_dueEdge k ps m h
  unfold Device.outForward
  dsimp only
  split
  · rfl
  · split
    · rw [Device.besideOuts_bumpMissed _ _ _ h, Device.besideOuts_setOut]
    · simp only [apply_ite Device.besideOuts, Device.besideOuts_setOutStatus _ _ h, Device.besideOuts_bumpMissed _ _ _ h, Device.besideOuts_setOut,
        Device.besideOuts_report, hdue, ite_self]

theorem Device.besideOuts_outBackward : (d.outBackward n).besideOuts = d.besideOuts := by
  unfold Device.outBackward
  dsimp only
  split
  · rw [Device.besideOuts_setOut]
  · rfl

@[simp] theorem Device.besideOuts_outsStepped (sel : Nat → Bool) (amount : Int) : (d.outsStepped sel amount).besideOuts = d.besideOuts :=
  d.besideOuts_foldl _ fun e n hn => by
    have h : n < 16 := List.mem_range.mp hn
    dsimp only
    split
    · rw [Device.besideOuts_passRepeats _ _ h]
      split
      · exact e.besideOuts_outForward _ h
      · split
        · exact e.besideOuts_outBackward
        · rfl
    · rfl

@[simp] theorem Device.besideOuts_outsDeleted : d.outsDeleted.besideOuts = d.besideOuts :=
  d.besideOuts_foldl _ fun e n hn => by
    dsimp only
    split
    · exact e.besideOuts_outForward _ (List.mem_range.mp hn)
    · rfl

end

end Sys2Proof.Machine
end

section
/-! Chapter 9: what a due edge does. -/

namespace Sys2Proof.Machine

section
variable (d : Device) (n : Nat)

theorem Device.val_setOutStatus_ne (st : Nat) {k : Nat} (h : k ≠ K.outStatus n) : (d.setOutStatus n st).val k = d.val k := by
  simp only [Device.setOutStatus, Device.setNum, apply_ite (Device.val · k), Device.val_setVal_ne _ _ h, Device.report_val, ite_self]

theorem Device.nat_setOutStatus_ne (st : Nat) {k : Nat} (h : k ≠ K.outStatus n) : (d.setOutStatus n st).nat k = d.nat k :=
  congrArg (fun v => v.int.toNat) (d.val_setOutStatus_ne n st h)

@[simp] theorem Device.nat_setOutStatus_self (st : Nat) : (d.setOutStatus n st).nat (K.outStatus n) = st := by
  unfold Device.setOutStatus
  dsimp only
  split
  · assumption
  · exact (Device.nat_setNum_self _ _ _).trans (Int.toNat_natCast st)

@[simp] theorem Device.setOutStatus_outs (st : Nat) : (d.setOutStatus n st).outs = d.outs := by
  simp only [Device.setOutStatus, apply_ite Device.outs, Device.setNum_outs, Device.report_outs, ite_self]

@[simp] theorem Device.setOutStatus_outbox (st : Nat) : (d.setOutStatus n st).outbox = d.outbox := by
  simp only [Device.setOutStatus, apply_ite Device.outbox, Device.setNum_outbox, Device.report_outbox, ite_self]

@[simp] theorem Device.padEdge_outs (ps : Nat) (falling : Bool) (sched : Option (Nat × Int × Nat)) : (d.padEdge n ps falling sched).outs = d.outs := by
  simp only [Device.padEdge, List.foldl, apply_ite Device.outs, Device.setCh_outs, ite_self]

@[simp] theorem Device.padEdge_outbox (ps : Nat) (falling : Bool) (sched : Option (Nat × Int × Nat)) :
    (d.padEdge n ps falling sched).outbox = d.outbox := by
  simp only [Device.padEdge, List.foldl, apply_ite Device.outbox, Device.setCh_outbox, ite_self]

@[simp] theorem Device.padEdge_val (ps : Nat) (falling : Bool) (sched : Option (Nat × Int × Nat)) (k : Nat) :
    (d.padEdge n ps falling sched).val k = d.val k := by
  simp only [Device.padEdge, List.foldl, apply_ite (Device.val · k), Device.setCh_val, ite_self]

/-- What an output has of its own, next to what `setOut` made of it. -/
theorem Device.out_setOut_self (f : OutUnit → OutUnit) (h : n < d.outs.length) : (d.setOut n f).out n = f (d.out n) := by
  simp [Device.out, Device.setOut, updAt, List.getD_eq_getElem?_getD, h]

theorem Device.out_setOut_ne (f : OutUnit → OutUnit) {m : Nat} (h : m ≠ n) : (d.setOut n f).out m = d.out m := by
  simp [Device.out, Device.setOut, updAt, List.getD_eq_getElem?_getD, h.symm]

theorem Device.out_congr {d e : Device} (h : e.outs = d.outs) (n : Nat) : e.out n = d.out n := congrArg (·.getD n {}) h

/-- R257, R268: an edge that is produced leaves the pin. -/
theorem Device.produceEdge_outbox (ps mt16 : Nat) : (d.produceEdge n ps mt16).outbox = d.outbox ++ [.edge n ps true] := by
  rw [Device.produceEdge]
  refine congrArg (· ++ [Output.edge n ps true]) ?_
  rw [Device.padEdge_outbox]
  rfl

/-- R268: it is no matter of any object but OUT_LAST_EDGE and OUT_PULSES. -/
theorem Device.produceEdge_val (ps mt16 : Nat) {k : Nat} (hl : k ≠ K.outLastEdge n) (hp : k ≠ K.outPulses n) :
    (d.produceEdge n ps mt16).val k = d.val k := by
  rw [Device.produceEdge, Device.emit_val, Device.padEdge_val]
  exact (Device.val_setVal_ne _ _ hp).trans (Device.val_setVal_ne _ _ hl)

theorem Device.produceEdge_outLastEdge (ps mt16 : Nat) : (d.produceEdge n ps mt16).nat (K.outLastEdge n) = mt16 := by
  rw [Device.produceEdge, Device.nat, Device.num, Device.emit_val, Device.padEdge_val]
  exact (Device.nat_bumpBy_ne _ 8 1 (by simp only [K.outLastEdge, K.outPulses]; omega)).trans
    ((Device.nat_setNum_self _ _ _).trans (Int.toNat_natCast _))

theorem Device.produceEdge_outPulses (ps mt16 : Nat) (h : d.nat (K.outPulses n) < 2 ^ 64 - 1) :
    (d.produceEdge n ps mt16).nat (K.outPulses n) = d.nat (K.outPulses n) + 1 := by
  have hne : K.outPulses n ≠ K.outLastEdge n := by simp only [K.outLastEdge, K.outPulses]; omega
  rw [Device.produceEdge, Device.nat, Device.num, Device.emit_val, Device.padEdge_val]
  refine (Device.nat_bumpBy _ 8 _ 1 ?_).trans ?_ <;> rw [Device.nat_setNum, if_neg hne, Device.setOut_nat]
  omega

/-- R257: what the pulse makes of the output's own state. -/
def Device.pulsed (d : Device) (n ps : Nat) (o : OutUnit) : OutUnit :=
  { o with active := true, everPulsed := true, trailPs := ps + ((outRec d.val n).width + 5) / 10 * 10, polarity := (outRec d.val n).polarity, heldTill := 0 }

theorem Device.produceEdge_outs (ps mt16 : Nat) : (d.produceEdge n ps mt16).outs = (d.setOut n (d.pulsed n ps)).outs := by
  rw [Device.produceEdge, Device.emit_outs, Device.padEdge_outs, Device.bump64_outs, Device.setNum_outs]
  rfl

theorem Device.produceEdge_out_ne (ps mt16 : Nat) {m : Nat} (h : m ≠ n) : (d.produceEdge n ps mt16).out m = d.out m :=
  (Device.out_congr (d.produceEdge_outs n ps mt16) m).trans (d.out_setOut_ne n _ h)

theorem Device.produceEdge_out (ps mt16 : Nat) (h : n < d.outs.length) : (d.produceEdge n ps mt16).out n = d.pulsed n ps (d.out n) :=
  (Device.out_congr (d.produceEdge_outs n ps mt16) n).trans (d.out_setOut_self n _ h)

end

/-- R256: the edge that ends a record leaves its output DONE. -/
def Device.endedIf (d : Device) (n : Nat) (last : Bool) : Device := if last then d.setOutStatus n 5 else d

section
variable (d : Device) (n : Nat) (last : Bool)

@[simp] theorem Device.endedIf_outs : (d.endedIf n last).outs = d.outs := by
  simp only [Device.endedIf, apply_ite Device.outs, Device.setOutStatus_outs, ite_self]

@[simp] theorem Device.endedIf_outbox : (d.endedIf n last).outbox = d.outbox := by
  simp only [Device.endedIf, apply_ite Device.outbox, Device.setOutStatus_outbox, ite_self]

theorem Device.endedIf_nat_ne {k : Nat} (h : k ≠ K.outStatus n) : (d.endedIf n last).nat k = d.nat k := by
  simp only [Device.endedIf, apply_ite (Device.nat · k), Device.nat_setOutStatus_ne _ _ _ h, ite_self]

theorem Device.endedIf_outStatus : (d.endedIf n last).nat (K.outStatus n) = if last then 5 else d.nat (K.outStatus n) := by
  simp only [Device.endedIf, apply_ite (Device.nat · (K.outStatus n)), Device.nat_setOutStatus_self]

/-- R260, R261: no edge leaves the pin of an output that is HELD without a rearm. -/
def Device.heldBack (d : Device) (n : Nat) : Bool := d.nat (K.outStatus n) = 4 && !((d.out n).rearmed && d.outPolicy n = 0)

theorem Device.heldBack_iff : d.heldBack n = true ↔ d.nat (K.outStatus n) = 4 ∧ ¬ ((d.out n).rearmed = true ∧ d.outPolicy n = 0) := by
  simp [Device.heldBack, imp_iff_not_or]

/-- R258, R260, R261: does a due edge leave the pin. -/
def Device.produces (d : Device) (n ps : Nat) : Bool := !d.heldBack n && d.outPolicy n = 0 && !(d.out n).blocked ps

theorem Device.produces_iff (ps : Nat) : d.produces n ps = true ↔
    d.outPolicy n = 0 ∧ ¬ (d.nat (K.outStatus n) = 4 ∧ ¬ ((d.out n).rearmed = true ∧ d.outPolicy n = 0)) ∧ (d.out n).blocked ps = false := by
  rw [← Device.heldBack_iff]
  simp only [Device.produces, Bool.and_eq_true, Bool.not_eq_true', decide_eq_true_eq, Bool.not_eq_true]
  tauto

/-- The output after a due edge reads this, but for the edge that ends the record. -/
def Device.dueStatus (d : Device) (n : Nat) : Nat :=
  if d.heldBack n then 4 else if d.outPolicy n = 0 then 2 else if d.outPolicy n = 1 then 3 else 4

/-- The output's own state as an edge falls due: the next edge is the following one, a rearm is used up. -/
def Device.pastEdge (d : Device) (n k : Nat) : Device := d.setOut n (fun o => { o with next := k + 1, rearmed := false })

theorem Device.dueEdge_of_produces {k ps mt16 : Nat} (h : d.produces n ps = true) :
    d.dueEdge n k ps mt16 = (((d.pastEdge n k).setOutStatus n 2).produceEdge n ps mt16).endedIf n ((outRec d.val n).last k) := by
  simp only [Device.produces, Bool.and_eq_true, Bool.not_eq_true', decide_eq_true_eq] at h
  obtain ⟨⟨hh, hp⟩, hb⟩ := h
  have hcond : (d.heldBack n || Decidable.decide (d.outPolicy n ≠ 0)) = false := by simp [hh, hp]
  simp only [Device.heldBack] at hcond
  rw [Device.dueEdge]
  simp only [hcond, hb, Bool.false_eq_true, if_false]
  rfl

theorem Device.dueEdge_of_not_produces {k ps mt16 : Nat} (h : d.produces n ps = false) :
    d.dueEdge n k ps mt16 = (((d.pastEdge n k).setOutStatus n (d.dueStatus n)).bump (K.outMissed n)).endedIf n ((outRec d.val n).last k) := by
  rw [Device.dueEdge]
  rcases hh : d.heldBack n with _ | _ <;> have hheld := hh <;> rw [Device.heldBack] at hh
  · by_cases hp : d.outPolicy n = 0
    · have hb : (d.out n).blocked ps = true := by simpa [Device.produces, hheld, hp] using h
      rw [hh]
      simp only [hb, hp, Device.dueStatus, hheld, Bool.false_eq_true, if_false, if_true, ne_eq, not_true_eq_false, decide_false, Bool.or_false]
      rfl
    · rw [hh]
      simp only [hp, Device.dueStatus, hheld, Bool.false_eq_true, if_false, if_true, ne_eq, not_false_eq_true, decide_true, Bool.or_true]
      rfl
  · rw [hh]
    simp only [Device.dueStatus, hheld, Bool.true_or, if_true]
    rfl

end

section
variable (d : Device) {n k ps mt16 : Nat}

/-- The own state of the outputs after a due edge. -/
theorem Device.dueEdge_out (hn : n < d.outs.length) : ((d.dueEdge n k ps mt16).out n).next = k + 1 ∧
    ((d.dueEdge n k ps mt16).out n).rearmed = false ∧ ∀ m, m ≠ n → (d.dueEdge n k ps mt16).out m = d.out m := by
  have hself : (d.pastEdge n k).out n = { d.out n with next := k + 1, rearmed := false } := d.out_setOut_self n _ hn
  have hne (m : Nat) (hm : m ≠ n) : (d.pastEdge n k).out m = d.out m := d.out_setOut_ne n _ hm
  have hlen : n < ((d.pastEdge n k).setOutStatus n 2).outs.length := by
    rw [Device.setOutStatus_outs, Device.pastEdge, Device.setOut, updAt, List.length_modify]
    exact hn
  cases hp : d.produces n ps with
  | true =>
    have hout (m : Nat) := Device.out_congr (Device.endedIf_outs (((d.pastEdge n k).setOutStatus n 2).produceEdge n ps mt16) n ((outRec d.val n).last k)) m
    have hst (m : Nat) := Device.out_congr ((d.pastEdge n k).setOutStatus_outs n 2) m
    rw [d.dueEdge_of_produces n hp, hout, Device.produceEdge_out _ _ _ _ hlen, hst, hself]
    exact ⟨rfl, rfl, fun m hm => by rw [hout, Device.produceEdge_out_ne _ _ _ _ hm, hst, hne m hm]⟩
  | false =>
    have hout (m : Nat) : (d.dueEdge n k ps mt16).out m = (d.pastEdge n k).out m := by
      rw [d.dueEdge_of_not_produces n hp]
      exact Device.out_congr (by rw [Device.endedIf_outs, Device.bump_outs, Device.setOutStatus_outs]) m
    rw [hout, hself]
    exact ⟨rfl, rfl, fun m hm => (hout m).trans (hne m hm)⟩

end

theorem Device.pastEdge_nat (d : Device) (n k j : Nat) : (d.pastEdge n k).nat j = d.nat j := rfl

/-- Settles O27: an edge that the policy, the rearm and the last pulse let leave is produced, every other one is counted as missed. -/
theorem edgesFollowTheirPolicy : Obligations.EdgesFollowTheirPolicy := by
  intro d n k ps mt16 hn hlen
  have hb := d.besideOuts_dueEdge k ps mt16 hn
  obtain ⟨hnext, hrearm, hother⟩ := d.dueEdge_out (k := k) (ps := ps) (mt16 := mt16) (hlen.symm ▸ hn : n < d.outs.length)
  have hms : K.outMissed n ≠ K.outStatus n := by simp only [K.outMissed, K.outStatus]; omega
  have hps : K.outPulses n ≠ K.outStatus n := by simp only [K.outPulses, K.outStatus]; omega
  have hes : K.outLastEdge n ≠ K.outStatus n := by simp only [K.outLastEdge, K.outStatus]; omega
  have hsp : K.outStatus n ≠ K.outPulses n := hps.symm
  have hse : K.outStatus n ≠ K.outLastEdge n := hes.symm
  have hmp : K.outMissed n ≠ K.outPulses n := by simp only [K.outMissed, K.outPulses]; omega
  have hme : K.outMissed n ≠ K.outLastEdge n := by simp only [K.outMissed, K.outLastEdge]; omega
  refine ⟨hnext, hrearm, clock_of_besideOuts hb, staged_of_besideOuts hb, hother, fun hpol hheld hbl => ?_, fun hno => ?_⟩
  · have hp : d.produces n ps = true := (d.produces_iff n ps).mpr ⟨hpol, hheld, hbl⟩
    rw [d.dueEdge_of_produces n hp]
    have hpe {j : Nat} (he : j ≠ K.outLastEdge n) (hp : j ≠ K.outPulses n) :=
      congrArg (fun v => v.int.toNat) (((d.pastEdge n k).setOutStatus n 2).produceEdge_val n ps mt16 he hp)
    refine ⟨?_, ?_, ?_, ?_, fun hroom => ?_⟩
    · rw [Device.endedIf_outbox, Device.produceEdge_outbox, Device.setOutStatus_outbox]
      rfl
    · rw [Device.endedIf_outStatus]
      refine if_congr Iff.rfl rfl ((hpe hse hsp).trans ?_)
      exact Device.nat_setOutStatus_self _ _ _
    · rw [Device.endedIf_nat_ne _ _ _ hes, Device.produceEdge_outLastEdge]
    · rw [Device.endedIf_nat_ne _ _ _ hms]
      exact (hpe hme hmp).trans ((Device.nat_setOutStatus_ne _ _ _ hms).trans rfl)
    · have h2 : ((d.pastEdge n k).setOutStatus n 2).nat (K.outPulses n) = d.nat (K.outPulses n) := Device.nat_setOutStatus_ne _ _ _ hps
      rw [Device.endedIf_nat_ne _ _ _ hps, Device.produceEdge_outPulses _ _ _ _ (h2 ▸ hroom), h2]
  · have hp : d.produces n ps = false := Bool.eq_false_iff.mpr (mt (d.produces_iff n ps).mp hno)
    rw [d.dueEdge_of_not_produces n hp]
    refine ⟨?_, ?_, ?_, fun hroom => ?_⟩
    · rw [Device.endedIf_outbox, Device.bump_outbox, Device.setOutStatus_outbox]
      rfl
    · rw [Device.endedIf_nat_ne _ _ _ hps]
      exact (Device.nat_bumpBy_ne _ 4 1 hmp.symm).trans ((Device.nat_setOutStatus_ne _ _ _ hps).trans rfl)
    · rw [Device.endedIf_outStatus]
      refine if_congr Iff.rfl rfl ?_
      refine (Device.nat_bumpBy_ne _ 4 1 hms.symm).trans ((Device.nat_setOutStatus_self _ _ _).trans ?_)
      exact if_congr (d.heldBack_iff n) rfl rfl
    · have h2 : ((d.pastEdge n k).setOutStatus n (d.dueStatus n)).nat (K.outMissed n) = d.nat (K.outMissed n) := Device.nat_setOutStatus_ne _ _ _ hms
      rw [Device.endedIf_nat_ne _ _ _ hms]
      exact (Device.nat_bumpBy _ 4 _ 1 (by rw [h2]; omega)).trans (by rw [h2])

end Sys2Proof.Machine
end

section
/-! Chapter 3: what a step of MT moves. -/

namespace Sys2Proof.Machine

/-- What steps of MT are about: MT, its ticks and pull, the domains, what waits to apply, Thermostat, the ports, the staged values and the time state. -/
structure StepView where
  mt : Nat
  ticks : Nat
  pull : Int
  dom : List Int
  setPending : List (Nat × Nat × Nat)
  stepPending : List (Int × Nat × Nat)
  therm : Therm
  ports : List PortUnit
  state : Val

/-- The part, as far as steps of MT are about it. -/
def Device.stepView (d : Device) : StepView :=
  ⟨d.clock.mt, d.clock.ticks, d.clock.pull, d.clock.dom, d.clock.setPending, d.clock.stepPending, d.therm, d.ports, d.val K.mtState⟩

section
variable {d e : Device}

theorem nat_mtState_of_stepView (h : e.stepView = d.stepView) : e.nat K.mtState = d.nat K.mtState :=
  congrArg (fun v => v.state.int.toNat) h

theorem therm_of_stepView (h : e.stepView = d.stepView) : e.therm = d.therm := congrArg StepView.therm h
theorem ports_of_stepView (h : e.stepView = d.stepView) : e.ports = d.ports := congrArg StepView.ports h
theorem mtState_of_stepView (h : e.stepView = d.stepView) : e.val K.mtState = d.val K.mtState := congrArg StepView.state h

theorem stepView_of_besideOuts (h : e.besideOuts = d.besideOuts) : e.stepView = d.stepView := by
  rw [Device.stepView, clock_of_besideOuts h, therm_of_besideOuts h, ports_of_besideOuts h, val_of_besideOuts h (by decide), Device.stepView]

variable (d)

@[simp] theorem Device.stepView_report (code : Nat) (p : List Int) : (d.report code p).stepView = d.stepView := (rfl)
@[simp] theorem Device.stepView_outsStepped (sel : Nat → Bool) (amount : Int) : (d.outsStepped sel amount).stepView = d.stepView :=
  stepView_of_besideOuts (d.besideOuts_outsStepped sel amount)
@[simp] theorem Device.stepView_ckosStepped (du : Int) (old : Nat) : (d.ckosStepped du old).stepView = d.stepView := (rfl)
@[simp] theorem Device.stepView_skySettle : d.skySettle.stepView = d.stepView := (rfl)
@[simp] theorem Device.stepView_freeGroups (m : Nat) : (d.freeGroups m).stepView = d.stepView := by
  have h (l : List Nat) (e : Device) : (l.foldl (fun d g => d.revertGroup g) e).stepView = e.stepView := by
    induction l generalizing e with
    | nil => rfl
    | cons g l ih => exact ih _
  exact h _ d

theorem Device.stepView_setVal {k : Nat} (v : Val) (h : K.mtState ≠ k) : (d.setVal k v).stepView = d.stepView := by
  rw [Device.stepView, Device.val_setVal_ne _ _ h]
  rfl

theorem Device.stepView_setNum {k : Nat} (v : Int) (h : K.mtState ≠ k) : (d.setNum k v).stepView = d.stepView := d.stepView_setVal _ h
theorem Device.stepView_setOct {k : Nat} (v : Bytes) (h : K.mtState ≠ k) : (d.setOct k v).stepView = d.stepView := d.stepView_setVal _ h
theorem Device.stepView_bump {k : Nat} (h : K.mtState ≠ k) : (d.bump k).stepView = d.stepView := d.stepView_setVal _ h

/-- A fold of operations that no step is about. -/
theorem Device.stepView_foldl {α : Type} {f : Device → α → Device} (l : List α) (h : ∀ e, ∀ a ∈ l, (f e a).stepView = e.stepView) :
    (l.foldl f d).stepView = d.stepView := by
  induction l generalizing d with
  | nil => rfl
  | cons a l ih => exact (ih _ fun e b hb => h e b (List.mem_cons_of_mem a hb)).trans (h d a List.mem_cons_self)

@[simp] theorem Device.stepView_phasesStepped (a16 : Int) : (d.phasesStepped a16).stepView = d.stepView :=
  d.stepView_foldl _ fun e n _ => by
    simp only [apply_ite Device.stepView]
    rw [Device.stepView_setNum _ _ (by simp only [K.mtState, K.thermRefPhase]; omega), ite_self]

theorem Device.stepView_syncUtc (cause : Int) : (d.syncUtc cause).stepView = d.stepView := by
  simp only [Device.syncUtc, Device.skyUtcCheck, apply_ite Device.stepView, Device.stepView_report]
  split
  · rfl
  · exact ite_self _

theorem Device.stepView_skyFollows (du : Int) : (d.skyFollows du).stepView = d.stepView := by
  simp only [Device.skyFollows, apply_ite Device.stepView]
  rw [Device.stepView_setOct _ _ (by decide)]
  exact ite_self _

theorem Device.stepView_endSlot {n : Nat} (hn : n < 16) (st : Nat) : (d.endSlot n st).stepView = d.stepView := by
  have h1 : K.mtState ≠ K.slotState n := by simp only [K.mtState, K.slotState]; omega
  have h2 : K.mtState ≠ K.slotResult n := by simp only [K.mtState, K.slotResult]; omega
  simp only [Device.endSlot, apply_ite Device.stepView]
  rw [Device.stepView_setNum _ _ (by decide), Device.stepView_setNum _ _ h2, Device.stepView_setNum _ _ h1, ite_self]

theorem Device.stepView_abandonSlot {n : Nat} (hn : n < 16) (st : Nat) : (d.abandonSlot n st).stepView = d.stepView := by
  rw [Device.abandonSlot, Device.stepView_freeGroups, Device.stepView_report, d.stepView_endSlot hn]

@[simp] theorem Device.stepView_noneApplied (mask : Nat) : (d.noneApplied mask).stepView = d.stepView :=
  d.stepView_foldl _ fun e g hg => e.stepView_setNum _ (by
    have := List.mem_range.mp (List.mem_filter.mp hg).1
    simp only [K.mtState, K.commitUnitMask]; omega)

theorem Device.stepView_causedBy (src : Nat) (f : Device → Device) :
    (d.causedBy src f).stepView = (f { d with foyer := { d.foyer with cause := src } }).stepView := (rfl)

theorem Device.stepView_latchSlot {n : Nat} (hn : n < 16) (stuck : List (Nat × Nat)) : (d.latchSlot stuck n).stepView = d.stepView := by
  have h1 : K.mtState ≠ K.slotState n := by simp only [K.mtState, K.slotState]; omega
  simp only [Device.latchSlot, apply_ite Device.stepView, Device.stepView_setNum _ _ h1, d.stepView_abandonSlot hn, Device.stepView_freeGroups,
    Device.stepView_causedBy, Device.stepView_report]
  split
  · exact ite_self _
  · split
    · exact (Device.stepView_noneApplied _ _).trans (d.stepView_endSlot hn _)
    · rfl

@[simp] theorem Device.stepView_slotsStepped (old top : Nat) (stuck : List (Nat × Nat)) : (d.slotsStepped old top stuck).stepView = d.stepView :=
  d.stepView_foldl _ fun e n hn => by
    have h := List.mem_range.mp hn
    simp only [apply_ite Device.stepView, e.stepView_abandonSlot h, e.stepView_latchSlot h, ite_self]

/-- R88: a step by `du`: MT and the bound domains move by it, all else that steps are about stays. -/
def StepView.moved (v : StepView) (bound : Nat → Bool) (du : Int) : StepView :=
  { v with mt := (v.mt + du).toNat, dom := v.dom.mapIdx (fun n x => if bound n then x + du * 2 ^ 48 else x) }

theorem Device.stepView_bumpDoms (l : List Nat) (h : ∀ n ∈ l, n < 8) :
    (l.foldl (fun d n => if d.bound n then d.bump (K.domStepCount n) else d) d).stepView = d.stepView :=
  d.stepView_foldl l fun e n hn => by
    have hk : K.mtState ≠ K.domStepCount n := by have := h n hn; simp only [K.mtState, K.domStepCount]; omega
    simp only [apply_ite Device.stepView, e.stepView_bump hk, ite_self]

theorem Device.stepView_setEgress (p : Nat) (f : Egress → Egress) : (d.setEgress p f).stepView = d.stepView := (rfl)

theorem Device.stepView_bringCredits (p : Nat) : (d.bringCredits p).stepView = d.stepView := by
  rw [Device.bringCredits, Device.stepView_setEgress]

@[simp] theorem Device.stepView_bringAllCredits : d.bringAllCredits.stepView = d.stepView := by
  rw [Device.bringAllCredits]
  exact d.stepView_foldl _ fun e p _ => e.stepView_bringCredits p

theorem Device.stepView_shiftMt {du : Int} (h : 0 ≤ (d.clock.mt : Int) + du) : (d.shiftMt du).stepView = d.stepView.moved d.bound du := by
  have hmt : (if (d.clock.mt : Int) + du < 0 then Config.mtBelowEpoch (d.clock.mt + du) else (d.clock.mt + du).toNat) = (d.clock.mt + du).toNat :=
    if_neg (Int.not_lt.mpr h)
  have hdu : (((d.clock.mt + du).toNat : Nat) : Int) - d.clock.mt = du := by omega
  have hb := d.stepView_bringAllCredits
  simp only [Device.shiftMt, hmt, hdu]
  rw [Device.stepView_phasesStepped, Device.stepView_bumpDoms _ _ fun n hn => List.mem_range.mp hn, Device.stepView_setNum _ _ (by decide),
    Device.stepView_bump _ (by decide)]
  generalize d.bringAllCredits = e at hb ⊢
  have htherm : e.therm = d.therm := therm_of_stepView hb
  have hports : e.ports = d.ports := ports_of_stepView hb
  have hstate : e.val K.mtState = d.val K.mtState := mtState_of_stepView hb
  simp only [StepView.moved, Device.stepView]
  rw [← htherm, ← hports, ← hstate]
  rfl

theorem Device.stepView_moveMt {du : Int} (code : Nat) (p : List Int) (h : 0 ≤ (d.clock.mt : Int) + du) :
    (d.moveMt du code p).stepView = d.stepView.moved d.bound du := by
  rw [Device.moveMt]
  simp only [Device.stepView_syncUtc, Device.stepView_skyFollows, Device.stepView_outsStepped, Device.stepView_report, Device.stepView_ckosStepped]
  exact d.skySettle.stepView_shiftMt h

theorem Device.stepView_stepTick {du : Int} (stuck : List (Nat × Nat)) (code : Nat) (p : List Int) (h : 0 ≤ ((d.elapse 1).clock.mt : Int) + du) :
    (d.stepTick du stuck code p).stepView = (d.elapse 1).stepView.moved d.bound du := by
  rw [Device.stepTick, Device.stepNow]
  rw [Device.stepView_slotsStepped]
  exact (d.elapse 1).stepView_moveMt code p h

end

/-! ## MT_SET -/

theorem mtSet_row : dictFind (K.mtSet / 256) (K.mtSet % 256) = some ⟨0x2500, 0x2500, 0x0A, 0x0A, .time96, .rws, .num 0, .any, 0⟩ := rfl

theorem Device.lowAction_mtSet (d : Device) (a : Asker) (b : Bytes) :
    d.lowAction a K.mtSet b = some (answerOf (d.writeMtSet (time96Of b))) := rfl

theorem exec_mtSet (s : State) (h : HapHdr) (v : Bytes) : exec (.mtSet h v) s = .next (s.hapWrite h K.mtSet v) := rfl

/-- A granted write of MT_SET in a session. -/
theorem State.mtSet_written (s : State) (h : HapHdr) {v : Bytes} (hw : s.writes h K.mtSet v) (hv : v.length = 12) (hbad : time96Bad v = false)
    (hl : (s.asWritten h K.mtSet v).lock = 3) :
    s.hapWrite h K.mtSet v = s.wrote h K.mtSet v (answerOf ((s.asWritten h K.mtSet v).writeMtSet (time96Of v))) :=
  s.action_granted h K.mtSet v _ _ hw mtSet_row ⟨by decide, by decide⟩ (Device.needsSession_session _ hl)
    (Device.lengthBad_plain _ _ _ _ (by decide) (by simp [Ty.allows, hv])) hbad fun a _ _ _ _ _ => by
    rw [if_pos (by decide), Device.lowAction_mtSet]

end Sys2Proof.Machine
end

section
/-! Chapter 3: MT_SET and steps as they apply. -/

namespace Sys2Proof.Machine

theorem exec_mtSetApply (s : State) (delay : Nat) (stuck : List (Nat × Nat)) :
    exec (.mtSetApply ⟨delay, stuck⟩) s = .next (s.on (·.mtSetApply delay stuck)) := rfl
theorem exec_stepApply (s : State) (delay : Nat) (stuck : List (Nat × Nat)) : exec (.stepApply delay stuck) s = .next (s.on (·.stepApply delay stuck)) := rfl

section
variable (d : Device)

@[simp] theorem Device.elapse_setPending (n : Nat) : (d.elapse n).clock.setPending = d.clock.setPending := by
  cases h : d.clock.mtRun <;> simp [Device.elapse, h]

@[simp] theorem Device.elapse_stepPending (n : Nat) : (d.elapse n).clock.stepPending = d.clock.stepPending := by
  cases h : d.clock.mtRun <;> simp [Device.elapse, h]

theorem Device.runTo_ticks (t : Nat) : (d.runTo t).clock.ticks = max d.clock.ticks t := by
  rw [Device.runTo, Device.elapse_ticks]
  omega

/-- R88, R502: a step tick that a partner causes is the same step. -/
theorem Device.stepView_causedBy_stepTick {du : Int} (src : Nat) (stuck : List (Nat × Nat)) (code : Nat) (p : List Int)
    (h : 0 ≤ ((d.elapse 1).clock.mt : Int) + du) :
    (d.causedBy src (·.stepTick du stuck code p)).stepView = (d.elapse 1).stepView.moved d.bound du := by
  rw [Device.stepView_causedBy]
  exact Device.stepView_stepTick ({ d with foyer := { d.foyer with cause := src } }) stuck code p h

theorem Device.nat_setTimeState (t : Nat) : (d.setTimeState t).nat K.mtState = t := by
  unfold Device.setTimeState
  split
  · assumption
  · dsimp only
    split
    · rw [Device.nat_setNum, if_neg (by decide)]
      simp [Device.nat_setNum, K.mtState, K.mtStateSince]
    · simp [Device.nat_setNum, K.mtState, K.mtStateSince]

/-- R86: the value that applies, as a step of MT: the part after the tick, the pull still to be cleared. -/
def Device.setApplied (d : Device) (v16 src : Nat) (stuck : List (Nat × Nat)) : Device :=
  let du := ((v16 * fracU : Nat) : Int) - (d.elapse 1).clock.mt
  d.causedBy src (·.stepTick du stuck 0x0704 [hi32 (sat64 (du / fracU)), lo32 (sat64 (du / fracU))])

theorem Device.setApplied_stepView (v16 src : Nat) (stuck : List (Nat × Nat)) : (d.setApplied v16 src stuck).stepView =
    (d.elapse 1).stepView.moved d.bound (((v16 * fracU : Nat) : Int) - (d.elapse 1).clock.mt) :=
  d.stepView_causedBy_stepTick src stuck _ _ (by rw [add_sub_cancel]; exact Int.natCast_nonneg _)

theorem Device.setApplied_mt (v16 src : Nat) (stuck : List (Nat × Nat)) : (d.setApplied v16 src stuck).clock.mt = v16 * fracU := by
  have h := congrArg StepView.mt (d.setApplied_stepView v16 src stuck)
  rw [StepView.moved, Device.stepView, Device.stepView] at h
  dsimp only at h
  rw [h, add_sub_cancel, Int.toNat_natCast]

theorem Device.setApplied_rest (v16 src : Nat) (stuck : List (Nat × Nat)) :
    (d.setApplied v16 src stuck).clock.ticks = d.clock.ticks + 1 ∧ (d.setApplied v16 src stuck).clock.setPending = d.clock.setPending ∧
      (d.setApplied v16 src stuck).therm = d.therm ∧ (d.setApplied v16 src stuck).nat K.mtState = d.nat K.mtState := by
  have h := d.setApplied_stepView v16 src stuck
  rw [StepView.moved, Device.stepView, Device.stepView] at h
  injection h with _ hticks _ _ hset _ htherm _ hstate
  exact ⟨hticks, hset.trans (d.elapse_setPending 1), htherm, congrArg (fun v => v.int.toNat) hstate⟩

/-- R86: what the time state makes of an MT that has been set: T0 becomes T1, in T2 acquisition starts again. -/
def Device.mtIsSet (d : Device) (src : Nat) : Device :=
  if d.nat K.mtState = 0 then d.causedBy src (·.setTimeState 1)
  else if d.nat K.mtState = 2 then
    (d.setTherm (fun th => { th with integ := d.prediction, integLow := 0, lockSince := none, selSince := d.clock.ticks })).setNum K.thermPhaseErr 0
  else d

/-- R86: the pull remainder is given up. -/
def Device.noPull (d : Device) : Device := { d with clock := { d.clock with pull := 0 } }

/-- R86: the oldest accepted value is no longer waiting. -/
def Device.setTaken (d : Device) (rest : List (Nat × Nat × Nat)) : Device := { d with clock := { d.clock with setPending := rest } }

theorem Device.mtSetApply_eq {v16 at0 src : Nat} {rest : List (Nat × Nat × Nat)} (delay : Nat) (stuck : List (Nat × Nat))
    (h : d.clock.setPending = (v16, at0, src) :: rest) (hl : d.everLocked = false) : d.mtSetApply delay stuck =
      ((((d.runTo (at0 + min delay (msTicks - 1))).setTaken rest).setApplied v16 src stuck).noPull).mtIsSet src := by
  rw [Device.mtSetApply, h]
  have hd : ((d.runTo (at0 + min delay (msTicks - 1))).setTaken rest).everLocked = false := hl
  simp -zeta only
  extract_lets d0 c1 d1 du a16 d2 c2 d3
  change (if d1.everLocked = true then _ else _) = ((d1.setApplied v16 src stuck).noPull).mtIsSet src
  replace hd : d1.everLocked = false := hd
  clear_value d1
  rw [if_neg (by simp [hd])]
  have h2 : d2 = d1.setApplied v16 src stuck := rfl
  have h3 : d3 = d2.noPull := rfl
  rw [← h2, ← h3]
  rfl

theorem Device.mtIsSet_clock (src : Nat) : (d.mtIsSet src).clock = d.clock := by
  unfold Device.mtIsSet
  split
  · exact Device.setTimeState_clock _ 1
  · split <;> rfl

theorem Device.mtSetApply_dropped {v16 at0 src : Nat} {rest : List (Nat × Nat × Nat)} (delay : Nat) (stuck : List (Nat × Nat))
    (h : d.clock.setPending = (v16, at0, src) :: rest) (hl : d.everLocked = true) : d.mtSetApply delay stuck =
      ((d.runTo (at0 + min delay (msTicks - 1))).setTaken rest).causedBy src (·.report 0x0705 [0xFF, 0x100A]) := by
  have hl' : ({ d.runTo (at0 + min delay (msTicks - 1)) with
      clock := { (d.runTo (at0 + min delay (msTicks - 1))).clock with setPending := rest } } : Device).everLocked = true := hl
  rw [Device.mtSetApply, h]
  simp only [hl', if_true]
  rfl

end

/-- Settles O21: before the first lock the write waits, and as it applies it is a step of MT to the value; after it the write and the wait end. -/
theorem mtSetAcceptedThenApplied : Obligations.MtSetAcceptedThenApplied := by
  refine ⟨fun s h v hw hv hbad hl => ⟨fun hev => ?_, fun hev => ?_⟩, fun s delay v16 at0 src stuck rest hp => ⟨fun hev => ?_, fun hev => ?_⟩⟩
  · rw [exec_mtSet, s.mtSet_written h hw hv hbad hl, Device.writeMtSet, if_neg (by simp [hev])]
    rfl
  · rw [exec_mtSet, s.mtSet_written h hw hv hbad hl, Device.writeMtSet, if_pos hev]
    rfl
  · refine ⟨_, exec_mtSetApply s delay stuck, rfl, ?_⟩
    rw [show (s.on (·.mtSetApply delay stuck)).dev = s.dev.mtSetApply delay stuck from rfl, s.dev.mtSetApply_eq delay stuck hp hev]
    let d1 := (s.dev.runTo (at0 + min delay (msTicks - 1))).setTaken rest
    have hmt := d1.setApplied_mt v16 src stuck
    obtain ⟨htk, hpend, htherm, hst⟩ := d1.setApplied_rest v16 src stuck
    have hticks : d1.clock.ticks = max s.dev.clock.ticks (at0 + min delay (msTicks - 1)) := s.dev.runTo_ticks _
    have hrest : d1.clock.setPending = rest := rfl
    have htherm' : d1.therm = s.dev.therm := rfl
    have hst1 : d1.nat K.mtState = s.dev.nat K.mtState := rfl
    rw [hticks] at htk
    rw [hrest] at hpend
    rw [htherm'] at htherm
    rw [hst1] at hst
    show _ ∧ _
    generalize d1.setApplied v16 src stuck = e at hst hmt htk hpend htherm
    have hst' : e.noPull.nat K.mtState = s.dev.nat K.mtState := hst
    refine ⟨(congrArg Clock.mt (Device.mtIsSet_clock _ _)).trans hmt, congrArg Clock.pull (Device.mtIsSet_clock _ _),
      (congrArg Clock.setPending (Device.mtIsSet_clock _ _)).trans hpend, (congrArg Clock.ticks (Device.mtIsSet_clock _ _)).trans htk,
      fun h0 => ?_, fun h2 => ?_, fun h2 => ?_⟩ <;> rw [Device.mtIsSet, hst']
    · rw [if_pos h0]
      exact Device.nat_setTimeState _ 1
    · rw [if_neg (by omega), if_pos h2]
      exact ⟨rfl, rfl, Device.num_setNum_self _ _ _⟩
    · rw [if_neg h2]
      split
      · exact (Device.setTimeState_therm _ 1).trans htherm
      · exact htherm
  · rw [exec_mtSetApply, State.on, s.dev.mtSetApply_dropped delay stuck hp hev]
    rfl

end Sys2Proof.Machine
end

section
/-! Chapter 3: an immediate step as it applies, pulls, leap seconds and replicas. -/

namespace Sys2Proof.Machine

section
variable (d : Device)

theorem Device.causedBy_stepView_step {amount : Int} (src : Nat) (stuck : List (Nat × Nat))
    (h : 0 ≤ ((d.elapse 1).clock.mt : Int) + amount * fracU) :
    (d.causedBy src (·.commandedStep amount 0xFF stuck)).stepView = (d.elapse 1).stepView.moved d.bound (amount * fracU) :=
  d.stepView_causedBy_stepTick src stuck _ _ h

/-- R87, R88: the oldest accepted step is no longer waiting. -/
def Device.stepTaken (d : Device) (rest : List (Int × Nat × Nat)) : Device := { d with clock := { d.clock with stepPending := rest } }

theorem Device.stepApply_eq {amount : Int} {at0 src : Nat} {rest : List (Int × Nat × Nat)} (delay : Nat) (stuck : List (Nat × Nat))
    (h : d.clock.stepPending = (amount, at0, src) :: rest) : d.stepApply delay stuck =
      ((d.runTo (at0 + min delay (msTicks - 1))).causedBy src (fun d =>
        if d.stepAllowed amount then d.commandedStep amount 0xFF stuck else d.report 0x0705 [0xFF, St.state])).stepTaken rest := by
  rw [Device.stepApply, h]
  rfl

theorem Device.causedBy_congr {src : Nat} {f g : Device → Device}
    (h : f { d with foyer := { d.foyer with cause := src } } = g { d with foyer := { d.foyer with cause := src } }) :
    d.causedBy src f = d.causedBy src g := by
  rw [Device.causedBy, h, Device.causedBy]

theorem Device.stepAllowed_congr {e : Device} (h : e.obj = d.obj) (amount : Int) : e.stepAllowed amount = d.stepAllowed amount := by
  have hv (k : Nat) : e.val k = d.val k := by rw [Device.val, h, Device.val]
  simp only [Device.stepAllowed, Device.everLocked, Device.nat, Device.num, hv]
  rfl

section
variable {d} {amount : Int} {at0 src : Nat} {rest : List (Int × Nat × Nat)} (delay : Nat) (stuck : List (Nat × Nat))
  (h : d.clock.stepPending = (amount, at0, src) :: rest)
include h

theorem Device.stepApply_allowed (ha : d.stepAllowed amount = true) : d.stepApply delay stuck =
    ((d.runTo (at0 + min delay (msTicks - 1))).causedBy src (·.commandedStep amount 0xFF stuck)).stepTaken rest := by
  rw [d.stepApply_eq delay stuck h]
  refine congrArg (Device.stepTaken · rest) (Device.causedBy_congr _ ?_)
  exact if_pos ((Device.stepAllowed_congr d rfl amount).trans ha)

theorem Device.stepApply_forbidden (ha : d.stepAllowed amount = false) : d.stepApply delay stuck =
    ((d.runTo (at0 + min delay (msTicks - 1))).causedBy src (·.report 0x0705 [0xFF, St.state])).stepTaken rest := by
  rw [d.stepApply_eq delay stuck h]
  refine congrArg (Device.stepTaken · rest) (Device.causedBy_congr _ ?_)
  exact if_neg (Bool.eq_false_iff.mp ((Device.stepAllowed_congr d rfl amount).trans ha))

end

end

/-- Settles O23: the step tick is R75's tick, the amount on top; a step that the state forbids by then is dropped. -/
theorem stepAddsAmountOnce : Obligations.StepAddsAmountOnce := by
  intro s delay at0 src stuck amount rest hp d0 d
  refine ⟨fun ha h => ?_, fun ha => ?_⟩
  · have hv := d0.causedBy_stepView_step src stuck h
    refine ⟨_, exec_stepApply s delay stuck, rfl, ?_⟩
    rw [show (s.on (·.stepApply delay stuck)).dev = s.dev.stepApply delay stuck from rfl, Device.stepApply_allowed delay stuck hp ha]
    generalize d0.causedBy src (·.commandedStep amount 0xFF stuck) = x at hv ⊢
    rw [StepView.moved, Device.stepView, Device.stepView] at hv
    injection hv with hmt hticks hpull hdom _ _ htherm hports _
    exact ⟨(congrArg Int.ofNat hmt).trans (Int.toNat_of_nonneg h), hticks, hpull, rfl, hdom, htherm, hports⟩
  · intro e
    rw [exec_stepApply, State.on, Device.stepApply_forbidden delay stuck hp ha]
    rfl

/-! ## Pulls (R80, R83, R102) -/

theorem exec_pullComplete (s : State) : exec .pullComplete s = .next (s.on (·.pullComplete)) := rfl
theorem exec_domPullComplete (s : State) (n : Nat) : exec (.domPullComplete n) s = .next (s.on (·.domPullComplete n)) := rfl
theorem exec_pullWithinLockThresh (s : State) : exec .pullWithinLockThresh s = .next (s.on (·.pullWithin)) := rfl

/-- Ticks enough to apply a whole remainder apply it exactly. -/
theorem pullOver_ceilDiv (r : Int) {a : Nat} (ha : a ≠ 0) : pullOver r a (ceilDiv r.natAbs a) = r := by
  have hle : r.natAbs ≤ ceilDiv r.natAbs a * a := by
    have hdiv := Nat.div_add_mod (r.natAbs + a - 1) a
    have hmod := Nat.mod_lt (r.natAbs + a - 1) (Nat.pos_of_ne_zero ha)
    rw [ceilDiv, Nat.mul_comm]
    omega
  rw [pullOver, Nat.min_eq_left hle, signed]
  split
  · omega
  · split <;> omega

theorem Device.elapse_domPull_of_run {d : Device} (n : Nat) (h : d.clock.mtRun = true) :
    (d.elapse n).clock.domPull = d.clock.domPull.map (fun r => r - pullOver r d.aMax n) := by
  simp [Device.elapse, h]

theorem Device.elapse_timeSelected (d : Device) (n : Nat) : (d.elapse n).timeSelected = d.timeSelected := rfl
theorem Device.elapse_rootLocked (d : Device) (n : Nat) : (d.elapse n).rootLocked = d.rootLocked := rfl

theorem Device.followPull_of_other (d : Device) (h4 : d.nat K.mtState ≠ 4) (h5 : d.nat K.mtState ≠ 5) : d.followPull = d :=
  if_pos (by simp [h4, h5])

/-- R80: with the remainder used up, a time-capable reference on a locked root makes T3. -/
theorem Device.followPull_of_zero (d : Device) (hst : d.nat K.mtState = 4 ∨ d.nat K.mtState = 5) (hsel : d.timeSelected = true)
    (hroot : d.rootLocked = true) (hpull : d.clock.pull = 0) : d.followPull = d.setTimeState 3 := by
  have hc : (!(Decidable.decide (d.nat K.mtState = 4) || Decidable.decide (d.nat K.mtState = 5)) || !d.timeSelected || !d.rootLocked) = false := by
    rw [hsel, hroot]
    rcases hst with h | h <;> simp [h]
  have hle : d.clock.pull.natAbs ≤ d.nat K.thermLockThresh * 65536 * 2 ^ 32 := by rw [hpull]; exact Nat.zero_le _
  rw [Device.followPull, if_neg (Bool.eq_false_iff.mp hc)]
  exact if_pos hle

theorem Device.pullComplete_eq (d : Device) (hrun : d.clock.mtRun = true) (ha : d.aMax ≠ 0) :
    d.pullComplete = (d.elapse (ceilDiv d.clock.pull.natAbs d.aMax)).followPull :=
  if_neg (by simp [hrun, ha])

theorem Device.domPullComplete_eq (d : Device) (n : Nat) (hrun : d.clock.mtRun = true) (ha : d.aMax ≠ 0) :
    d.domPullComplete n = d.elapse (ceilDiv (d.clock.domPull.getD n 0).natAbs d.aMax) :=
  if_neg (by simp [hrun, ha])

theorem Device.pullWithin_eq (d : Device) (hst : d.nat K.mtState = 4 ∨ d.nat K.mtState = 5) (hsel : d.timeSelected = true)
    (hroot : d.rootLocked = true) (ha : d.aMax ≠ 0) : d.pullWithin =
      (d.elapse (ceilDiv (d.clock.pull.natAbs - (if d.nat K.mtState = 5 ∧ d.nat K.thermLockThresh ≤ d.nat K.hoLimit then d.nat K.hoLimit
        else d.nat K.thermLockThresh) * 65536 * 2 ^ 32) d.aMax)).followPull := by
  have hc : (!(Decidable.decide (d.nat K.mtState = 4) || Decidable.decide (d.nat K.mtState = 5)) || !d.timeSelected || !d.rootLocked
      || Decidable.decide (d.aMax = 0)) = false := by
    rw [hsel, hroot]
    rcases hst with h | h <;> simp [h, ha]
  rw [Device.pullWithin, if_neg (Bool.eq_false_iff.mp hc)]
  simp only [Bool.and_eq_true, decide_eq_true_eq]

/-- Settles O24: the ticks that use a remainder up use it up exactly, and T4 or T5 follows. -/
theorem pullsEndExactly : Obligations.PullsEndExactly := by
  refine ⟨fun s hrun ha => ?_, fun s n hn hlen hrun ha => ?_, fun s hst hsel hroot ha => ?_⟩
  · intro d
    have hpull : d.clock.pull = 0 := (Device.elapse_pull_of_run _ hrun).trans (by rw [pullOver_ceilDiv _ ha, Int.sub_self])
    refine ⟨?_, hpull, s.dev.elapse_frame _, ?_, ?_⟩
    · rw [exec_pullComplete, State.on, s.dev.pullComplete_eq hrun ha]
    · exact fun hst hsel hroot => d.followPull_of_zero (by rwa [Device.elapse_nat]) (by rwa [Device.elapse_timeSelected])
        (by rwa [Device.elapse_rootLocked]) hpull
    · exact fun h4 h5 => d.followPull_of_other (by rwa [Device.elapse_nat]) (by rwa [Device.elapse_nat])
  · intro d
    have hget : d.clock.domPull.getD n 0 = 0 := by
      rw [Device.elapse_domPull_of_run _ hrun, List.getD_eq_getElem?_getD, List.getElem?_map]
      have hx : s.dev.clock.domPull[n]? = some (s.dev.clock.domPull.getD n 0) := by
        rw [List.getD_eq_getElem?_getD, List.getElem?_eq_getElem (by omega)]
        rfl
      rw [hx]
      simp only [Option.map_some, Option.getD_some]
      rw [pullOver_ceilDiv _ ha, Int.sub_self]
    refine ⟨?_, hget, s.dev.elapse_frame _⟩
    rw [exec_domPullComplete, State.on, s.dev.domPullComplete_eq n hrun ha]
  · intro goal
    simp only [exec_pullWithinLockThresh, State.on, s.dev.pullWithin_eq hst hsel hroot ha, goal]

end Sys2Proof.Machine
end

section
/-! Chapter 3: leap seconds and replica faults; chapter 9: deleted seconds keep what has been reported. -/

namespace Sys2Proof.Machine

/-- What has been reported stays reported. -/
def Device.Reported (d e : Device) : Prop := ∀ r ∈ d.attic.reports, r ∈ e.attic.reports

section
variable {d e f : Device}

theorem Device.Reported.trans (h : d.Reported e) (h' : e.Reported f) : d.Reported f := fun r hr => h' r (h r hr)

theorem Device.reported_of_attic (h : e.attic = d.attic) : d.Reported e := fun r hr => by rw [h]; exact hr

theorem Device.reported_ite {c : Prop} [Decidable c] (h : c → d.Reported e) (h' : ¬ c → d.Reported f) : d.Reported (if c then e else f) := by
  split
  · exact h ‹_›
  · exact h' ‹_›

variable (d)

theorem Device.reported_refl : d.Reported d := fun _ h => h
theorem Device.reported_report (code : Nat) (p : List Int) : d.Reported (d.report code p) := fun _ h => List.mem_append_left _ h

theorem Device.reported_setOutStatus (n st : Nat) : d.Reported (d.setOutStatus n st) :=
  Device.reported_ite (fun _ => d.reported_refl) fun _ =>
    (Device.reported_ite (fun _ => d.reported_report _ _) fun _ => d.reported_refl).trans (Device.reported_of_attic rfl)

theorem Device.reported_produceEdge (n ps mt16 : Nat) : d.Reported (d.produceEdge n ps mt16) := by
  refine Device.reported_of_attic ?_
  rw [Device.produceEdge, Device.emit_attic, Device.padEdge]
  simp only [List.foldl, apply_ite Device.attic, Device.setCh_attic, ite_self, Device.bump64_attic, Device.setNum_attic, Device.setOut_attic]

theorem Device.reported_endedIf (n : Nat) (last : Bool) : d.Reported (d.endedIf n last) :=
  Device.reported_ite (fun _ => d.reported_setOutStatus n 5) fun _ => d.reported_refl

theorem Device.reported_dueEdge (n k ps mt16 : Nat) : d.Reported (d.dueEdge n k ps mt16) := by
  have h0 : d.Reported (d.pastEdge n k) := Device.reported_of_attic rfl
  cases h : d.produces n ps with
  | true =>
    rw [d.dueEdge_of_produces n h]
    exact ((h0.trans (Device.reported_setOutStatus _ n 2)).trans (Device.reported_produceEdge _ n ps mt16)).trans (Device.reported_endedIf _ n _)
  | false =>
    rw [d.dueEdge_of_not_produces n h]
    exact ((h0.trans (Device.reported_setOutStatus _ n _)).trans (Device.reported_of_attic (Device.bump_attic _ _))).trans (Device.reported_endedIf _ n _)

theorem Device.reported_outForward (n k' : Nat) : d.Reported (d.outForward n k') := by
  unfold Device.outForward
  refine Device.reported_ite (fun _ => d.reported_refl) fun _ => Device.reported_ite (fun _ => Device.reported_of_attic rfl) fun _ => ?_
  have h1 := d.reported_dueEdge n (d.out n).next d.rootPs ((d.edgeMt (outRec d.val n).scale ((outRec d.val n).edge (d.out n).next)).toNat / fracU)
  have h2 {x : Device} (hx : d.Reported x) (m stop : Nat) :
      d.Reported ((x.bumpBy 4 (K.outMissed n) m).setOut n (fun o => { o with next := stop })) := hx.trans (Device.reported_of_attic rfl)
  refine Device.reported_ite (fun _ => (h2 ?_ _ _).trans (Device.reported_setOutStatus _ n 5)) fun _ => h2 ?_ _ _ <;>
    exact Device.reported_ite (fun _ => h1) fun _ => h1.trans (Device.reported_report _ _ _)

theorem Device.reported_foldl {α : Type} {f : Device → α → Device} (l : List α) (h : ∀ (e : Device) (a : α), e.Reported (f e a)) : d.Reported (l.foldl f d) := by
  induction l generalizing d with
  | nil => exact d.reported_refl
  | cons a l ih => exact (h d a).trans (ih _)

theorem Device.reported_outsDeleted : d.Reported d.outsDeleted :=
  d.reported_foldl _ fun e n => by
    refine Device.reported_ite (fun _ => ?_) fun _ => e.reported_refl
    exact e.reported_outForward n _

end

/-! ## Leap seconds (R99) -/

theorem exec_leapPendingBegin (s : State) : exec .leapPendingBegin s = .next (s.on (·.leapPendingBegin)) := rfl
theorem exec_leapInstant (s : State) : exec .leapInstant s = .next (s.on (·.leapInstant)) := rfl
theorem exec_mtReplicaFault (s : State) (u : Nat) : exec (.mtReplicaFault u) s = .next (s.on (·.replicaFault u)) := rfl

/-- MT_LEAP_PENDING lies behind the readings of time in 0x2500. -/
theorem Device.derivedTime_mtLeapPending (d : Device) : d.derivedTime 0x2500 9 = some (d.leapPending : Int) := by
  simp [Device.derivedTime, K.mtNow, K.mtNowUtc, K.mtNowGps, K.mtRateAdj, K.mtPullRemain, K.mtUtcOffset, K.mtLeapPending]

/-- The first entry that MT has not reached stays the first until MT reaches it. -/
theorem Device.nextLeap_of_later {d e : Device} {x : Nat × Int} (h : d.nextLeap = some x) (hv : ∀ k, e.val k = d.val k)
    (hmt : d.clock.mt ≤ e.clock.mt) (hx : e.clock.mt < x.1 * secU) : e.nextLeap = some x := by
  rw [Device.nextLeap, List.find?_eq_some_iff_append] at h ⊢
  rw [show e.val = d.val from funext hv]
  obtain ⟨_, as, bs, happ, has⟩ := h
  refine ⟨decide_eq_true hx, as, bs, happ, fun a ha => ?_⟩
  have hpast : ¬ d.clock.mt < a.1 * secU := by simpa using has a ha
  simp only [Bool.not_eq_true', decide_eq_false_iff_not]
  exact fun hlt => hpast (Nat.lt_of_le_of_lt hmt hlt)

theorem Device.leapPendingBegin_eq (d : Device) {x : Nat × Int} (h : d.nextLeap = some x) (hrun : d.clock.mtRun = true) :
    d.leapPendingBegin = d.runToMt ((x.1 - 86400) * secU) := by
  rw [Device.leapPendingBegin, h]
  exact if_pos hrun

theorem Device.leapPending_eq (d : Device) {x : Nat × Int} (h : d.nextLeap = some x) (hnear : x.1 * secU ≤ d.clock.mt + 86400 * secU) :
    d.leapPending = if d.utcOffset < x.2 then 1 else if x.2 < d.utcOffset then 2 else 0 := by
  rw [Device.leapPending, h]
  exact if_pos hnear

/-- R99: the leap's deleted second, if it takes one away, is passed over by the outputs. -/
theorem Device.leapInstant_eq (d : Device) {x : Nat × Int} (h : d.nextLeap = some x) (hrun : d.clock.mtRun = true) :
    d.leapInstant = if ((d.runToMt (x.1 * secU)).syncUtc 0).utcOffset < d.utcOffset then ((d.runToMt (x.1 * secU)).syncUtc 0).outsDeleted
      else (d.runToMt (x.1 * secU)).syncUtc 0 := by
  rw [Device.leapInstant, h]
  simp only [hrun, Bool.not_true, Bool.false_eq_true, if_false]

section
variable (d : Device) (cause : Int)

theorem Device.skyUtcCheck_frame : d.skyUtcCheck.clock = d.clock ∧ d.skyUtcCheck.staged = d.staged ∧ d.skyUtcCheck.therm = d.therm ∧
    d.skyUtcCheck.foyer = d.foyer ∧ d.Reported d.skyUtcCheck := by
  unfold Device.skyUtcCheck
  dsimp only
  split
  · exact ⟨rfl, rfl, rfl, rfl, d.reported_refl⟩
  · exact ⟨rfl, rfl, rfl, rfl, fun _ h => List.mem_append_left _ h⟩

/-- R99: the offset now in force is the one last recorded, and nothing but reports tells of it. -/
theorem Device.syncUtc_frame : (d.syncUtc cause).clock = { d.clock with utcOff := d.utcOffset } ∧ (d.syncUtc cause).staged = d.staged ∧
    (d.syncUtc cause).therm = d.therm ∧ (d.syncUtc cause).foyer = d.foyer ∧
    (d.utcOffset ≠ d.clock.utcOff → ∃ r ∈ (d.syncUtc cause).attic.reports, r.code = 0x0706 ∧ r.p = [d.clock.utcOff, d.utcOffset, cause]) := by
  unfold Device.syncUtc
  split
  · exact ⟨by rw [‹d.utcOffset = d.clock.utcOff›], rfl, rfl, rfl, fun h => absurd ‹_› h⟩
  · obtain ⟨hc, hs, ht, hf, hr⟩ := Device.skyUtcCheck_frame { d.report 0x0706 [d.clock.utcOff, d.utcOffset, cause] with
      clock := { (d.report 0x0706 [d.clock.utcOff, d.utcOffset, cause]).clock with utcOff := d.utcOffset } }
    exact ⟨hc, hs, ht, hf, fun _ => ⟨_, hr _ (List.mem_append_right _ List.mem_cons_self), rfl, rfl⟩⟩

end

/-! ## Replicas (R20, R106) -/

theorem Device.replicaFault_eq (d : Device) {u : Nat} (hrun : d.clock.mtRun = true) (hu : u < 44 ∨ (0x100 ≤ u ∧ u < 0x110)) :
    d.replicaFault u = { d.report 0x0708 [u] with
      clock := { d.clock with replicaBad := (u, d.clock.ticks) :: d.clock.replicaBad.filter (fun e => e.1 ≠ u) } } := by
  have hc : (d.clock.mtRun && (Decidable.decide (u < 44) || (Decidable.decide (0x100 ≤ u) && Decidable.decide (u < 0x110)))) = true := by
    rw [hrun]
    simpa using hu
  rw [Device.replicaFault, if_pos hc]
  rfl

/-- What LEAP_INSTANT leaves: the clocks of the instant with the offset then in force, and the report of a change. -/
theorem Device.leapInstant_frame (d : Device) {x : Nat × Int} (h : d.nextLeap = some x) (hrun : d.clock.mtRun = true) :
    d.leapInstant.clock = { (d.runToMt (x.1 * secU)).clock with utcOff := (d.runToMt (x.1 * secU)).utcOffset } ∧
      d.leapInstant.staged = d.staged ∧ d.leapInstant.therm = d.therm ∧ d.leapInstant.foyer = d.foyer ∧
      ((d.runToMt (x.1 * secU)).utcOffset ≠ d.clock.utcOff → ∃ r ∈ d.leapInstant.attic.reports, r.code = 0x0706 ∧
        r.p = [d.clock.utcOff, (d.runToMt (x.1 * secU)).utcOffset, 0]) := by
  have hoff : (d.runToMt (x.1 * secU)).clock.utcOff = d.clock.utcOff := by simp [Device.runToMt, Device.elapse, hrun]
  obtain ⟨hc, hs, ht, hf, hr⟩ := (d.runToMt (x.1 * secU)).syncUtc_frame 0
  rw [Device.runToMt_staged] at hs
  rw [Device.runToMt_therm] at ht
  rw [Device.runToMt_foyer] at hf
  rw [hoff] at hr
  rw [d.leapInstant_eq h hrun]
  generalize (d.runToMt (x.1 * secU)).syncUtc 0 = e at hc hs ht hf hr
  split
  · have hb := e.besideOuts_outsDeleted
    refine ⟨(clock_of_besideOuts hb).trans hc, (staged_of_besideOuts hb).trans hs, (therm_of_besideOuts hb).trans ht,
      (foyer_of_besideOuts hb).trans hf, fun hne => ?_⟩
    obtain ⟨r, hmem, hr⟩ := hr hne
    exact ⟨r, e.reported_outsDeleted r hmem, hr⟩
  · exact ⟨hc, hs, ht, hf, hr⟩

theorem Device.elapse_replicaBad (d : Device) (n : Nat) : (d.elapse n).clock.replicaBad = d.clock.replicaBad := by
  cases h : d.clock.mtRun <;> simp [Device.elapse, h]

/-- Settles O25: a leap is announced 86,400 s ahead and recorded at its instant; a replica fault spoils its tick alone. -/
theorem leapSecondsAndReplicaFaults : Obligations.LeapSecondsAndReplicaFaults := by
  refine ⟨fun s e hleap hrun => ?_, fun s u hrun hu => ?_⟩
  · intro d f
    have hbegin : s.dev.leapPendingBegin = d := s.dev.leapPendingBegin_eq hleap hrun
    refine ⟨by rw [exec_leapPendingBegin, State.on, hbegin], s.dev.elapse_frame _, fun hnear hbefore hle => ?_, ?_⟩
    · have hnext : d.nextLeap = some e := Device.nextLeap_of_later hleap (s.dev.runToMt_val _) hle hbefore
      rw [d.derivedTime_mtLeapPending, d.leapPending_eq hnext hnear]
      split
      · rfl
      · split <;> rfl
    · exact ⟨_, exec_leapInstant s, rfl, s.dev.leapInstant_frame hleap hrun⟩
  · refine ⟨_, exec_mtReplicaFault s u, rfl, ?_⟩
    rw [show (s.on (·.replicaFault u)).dev = s.dev.replicaFault u from rfl, s.dev.replicaFault_eq hrun hu]
    have hbad (w t : Nat) : (((u, s.dev.clock.ticks) :: s.dev.clock.replicaBad.filter (fun e => e.1 ≠ u)).contains (w, t) = true) ↔
        (w = u ∧ t = s.dev.clock.ticks) ∨ (w ≠ u ∧ s.dev.clock.replicaBad.contains (w, t) = true) := by
      simp only [List.contains_eq_mem, decide_eq_true_eq, List.mem_cons, Prod.mk.injEq, List.mem_filter, ne_eq, decide_not, Bool.not_eq_true',
        decide_eq_false_iff_not]
      tauto
    refine ⟨?_, ?_, fun n hn => ?_, fun w hw => ?_, rfl, rfl, rfl⟩
    · simp [newReports, Device.report]
    · simp [Device.replicaOk]
    · rw [Device.replicaOk, Device.elapse_replicaBad, Device.elapse_ticks, Bool.not_eq_true', Bool.eq_false_iff]
      intro hc
      rcases (hbad _ _).mp hc with ⟨_, ht⟩ | ⟨hu, _⟩
      · dsimp only at ht
        omega
      · exact hu rfl
    · rw [Device.replicaOk, Device.replicaOk]
      refine congrArg (fun b => !b) (Bool.eq_iff_iff.mpr ((hbad w s.dev.clock.ticks).trans ?_))
      exact ⟨fun h => h.elim (fun h => absurd h.1 hw) And.right, fun h => .inr ⟨hw, h⟩⟩

end Sys2Proof.Machine
end

section
/-! Chapters 4 and 9: clock outputs and pulse outputs as they run. -/

namespace Sys2Proof.Machine

theorem exec_loMeasure (s : State) (hz : Nat) : exec (.loMeasure hz) s = .next (s.on (·.setNum K.hearthLoMeas hz)) := rfl
theorem exec_ckoAlign (s : State) (n : Nat) : exec (.ckoAlign n) s = .next (s.on (·.ckoAligned n)) := rfl
theorem exec_outEdge (s : State) (n : Nat) : exec (.outEdge n) s = .next (s.on (·.outEdge n)) := rfl
theorem exec_outTrailingEdge (s : State) (n : Nat) : exec (.outTrailingEdge n) s = .next (s.on (·.outTrailing n)) := rfl

theorem exec_outRearm (s : State) (h : HapHdr) {n : Nat} (hn : n < 16) (b : Bytes) :
    exec (.outRearm h n b) s = .next (s.hapWrite h (K.outRearm n) b) := by
  have hi : K.outRearm n / 256 = 0x2540 + n := by rw [K.outRearm]; omega
  have hs : K.outRearm n % 256 = 0x0D := by rw [K.outRearm]; omega
  rw [State.hapWrite, hi, hs]
  exact congrArg (fun m => Host.Outcome.next (s.hap h 2 (0x2540 + m) 0x0D b)) (Nat.mod_eq_of_lt hn)

theorem Device.ckoAligned_eq (d : Device) {n : Nat} (hn : n < 4) (hst : d.num (K.ckoStatus n) = 3) (hrun : d.clock.mtRun = true) :
    d.ckoAligned n =
      let d1 := if d.ckoDue n then d else d.runToMt ((max d.clock.mt (d.cko n).since / secU + 1) * secU)
      let w : CkoWave := { freq := d1.nat (K.ckoFreq n), aligned := true, startPs := 0, lag := 0, realign := 0 }
      (d1.setCko n (fun u => { u with wave := some w })).setNum (K.ckoStatus n) 1 := by
  rw [Device.ckoAligned, if_pos (by simp [hn, hst, hrun])]

/-! ## Due edges (R256, R257, R264) -/

section
variable (d : Device)

/-- R257: the passage to a pin instant is the passage of time, and the fine delay lies within the tick. -/
theorem Device.toPin_frame (pin : Int) : (d.toPin pin).1 = { d with clock := (d.toPin pin).1.clock } ∧ (d.toPin pin).2 < 800 := by
  rw [Device.toPin]
  generalize d.ticksToMt (pin + psU 5 + 1).toNat - 1 = m
  generalize (pin + psU 5 - (d.elapse m).clock.mt) * 100 / nsU * 10 = fine
  split
  · exact ⟨rfl, Nat.zero_lt_succ 799⟩
  · exact ⟨rfl, by dsimp only; omega⟩

theorem Device.outEdge_eq {n : Nat} {e : OutDue} (hrun : d.clock.mtRun = true) (hlive : d.outRuns n = true) (hdue : d.outDue n = some e) :
    d.outEdge n = if d.nat (K.outScale n) = 1 ∧ e.again = none ∧ d.utcDeleted ((outRec d.val n).edge e.k) = true then d.outSkipped n e
      else (d.toPin e.pin).1.outFires n e (d.toPin e.pin).2 := by
  rw [Device.outEdge, if_neg (by simp [hrun, hlive]), hdue]
  simp only [Bool.and_eq_true, decide_eq_true_eq, and_assoc]

/-- R264: off the UTC scale no second comes twice. -/
theorem Device.outRepeats_of_scale {n : Nat} (h : (outRec d.val n).scale ≠ 1) (lo : Nat) : d.outRepeats n lo = [] := by
  refine List.filterMap_eq_nil_iff.mpr fun e _ => ?_
  simp [OutRec.onSecond, h]

theorem Device.outDue_of_scale {n : Nat} {e : OutDue} (h : (outRec d.val n).scale ≠ 1) (hdue : d.outDue n = some e) :
    e.again = none ∧ e.k = (d.out n).next ∧ (outRec d.val n).has e.k = true := by
  rw [Device.outDue, d.outRepeats_of_scale h] at hdue
  dsimp only [List.head?] at hdue
  split at hdue
  · obtain rfl := Option.some.inj hdue
    exact ⟨rfl, rfl, ‹_›⟩
  · exact absurd hdue (by simp)

/-! ## The trailing edge (R257, R259) -/

theorem Device.padMoved_frame (n ps : Nat) (was : Pin) : (d.padMoved n ps was).outs = d.outs ∧ (d.padMoved n ps was).outbox = d.outbox ∧
    (d.padMoved n ps was).clock = d.clock ∧ ∀ k, (d.padMoved n ps was).val k = d.val k := by
  unfold Device.padMoved
  split
  · exact ⟨rfl, rfl, rfl, fun _ => rfl⟩
  · exact ⟨d.padEdge_outs .., d.padEdge_outbox .., clock_of_besideOuts (d.besideOuts_padEdge ..), fun k => d.padEdge_val n ps _ none k⟩

/-- The own state of an output as its pulse ends: the polarity of the record now live, and till when the pin holds the old one's level. -/
def OutUnit.ended (o : OutUnit) (now : Nat) (turned : Bool) : OutUnit :=
  { o with active := false, polarity := now, heldTill := if turned then o.trailPs + 4000 else 0 }

theorem Device.outTrailing_eq {n : Nat} (h : (d.out n).active = true) : ∃ turned, d.outTrailing n =
    ((((d.runTo (ceilDiv (d.out n).trailPs 800)).setOut n (·.ended (d.nat (K.outPolarity n)) turned)).padEdge n (d.out n).trailPs
        ((d.out n).polarity = 0) none).emit (.edge n (d.out n).trailPs false)).padMoved n ((d.out n).trailPs + 4000)
          (Pin.of ((d.out n).polarity = 1)) := by
  refine ⟨Decidable.decide (d.nat (K.outPolarity n) ≠ (d.out n).polarity), ?_⟩
  rw [Device.outTrailing]
  simp only [h, Bool.not_true, Bool.false_eq_true, if_false, Device.runTo_nat, OutUnit.ended]

theorem Device.out_active_lt {n : Nat} (h : (d.out n).active = true) : n < d.outs.length := by
  by_contra hn
  rw [Device.out, List.getD_eq_getElem?_getD, List.getElem?_eq_none (by omega)] at h
  exact Bool.false_ne_true h

theorem Device.outTrailing_frame {n : Nat} (h : (d.out n).active = true) :
    (d.outTrailing n).clock = (d.runTo (ceilDiv (d.out n).trailPs 800)).clock ∧
      (d.outTrailing n).outbox = d.outbox ++ [.edge n (d.out n).trailPs false] ∧ ((d.outTrailing n).out n).active = false ∧
      ((d.outTrailing n).out n).polarity = d.nat (K.outPolarity n) ∧ ∀ k, (d.outTrailing n).val k = d.val k := by
  obtain ⟨turned, heq⟩ := d.outTrailing_eq h
  rw [heq]
  generalize hx : (d.runTo (ceilDiv (d.out n).trailPs 800)).setOut n (·.ended (d.nat (K.outPolarity n)) turned) = x
  obtain ⟨houts, hbox, hclock, hval⟩ := ((x.padEdge n (d.out n).trailPs ((d.out n).polarity = 0) none).emit
    (.edge n (d.out n).trailPs false)).padMoved_frame n ((d.out n).trailPs + 4000) (Pin.of ((d.out n).polarity = 1))
  have hout := Device.out_congr (houts.trans ((Device.emit_outs _ _).trans (x.padEdge_outs ..))) n
  have hself : x.out n = (d.out n).ended (d.nat (K.outPolarity n)) turned := by
    rw [← hx]
    exact Device.out_setOut_self (d.runTo (ceilDiv (d.out n).trailPs 800)) n _ (d.out_active_lt h)
  rw [hout, hself]
  refine ⟨?_, ?_, rfl, rfl, fun k => ?_⟩
  · rw [hclock, Device.emit_clock, clock_of_besideOuts (x.besideOuts_padEdge ..), ← hx]
    rfl
  · rw [hbox]
    refine congrArg (· ++ [Output.edge n (d.out n).trailPs false]) ?_
    rw [Device.padEdge_outbox, ← hx]
    rfl
  · rw [hval, Device.emit_val, Device.padEdge_val, ← hx]
    rfl

end

/-! ## OUT_REARM (R261) -/

theorem outRearm_row : ∀ n < 16, dictFind (K.outRearm n / 256) (K.outRearm n % 256)
    = some ⟨0x2540, 0x254F, 0x0D, 0x0D, .uns 1, .wo, .num 0, .span 1 1, 0⟩ := by decide +kernel

theorem outRearm_range : ∀ n < 16, rangeBad (K.outRearm n) ⟨0x2540, 0x254F, 0x0D, 0x0D, .uns 1, .wo, .num 0, .span 1 1, 0⟩ [1] = false := by decide

theorem Device.lowAction_outRearm (d : Device) (a : Asker) {n : Nat} (hn : n < 16) (b : Bytes) :
    d.lowAction a (K.outRearm n) b = some (answerOf (d.writeOutRearm n)) := by
  have h : ∀ n < 16, K.outRearm n / 256 - 0x2540 = n ∧ Decidable.decide (0x2540 * 256 ≤ K.outRearm n) = true ∧
      Decidable.decide (K.outRearm n < 0x2550 * 256) = true ∧ Decidable.decide (K.outRearm n % 256 = 0x0D) = true ∧
      ∀ k ∈ [K.lockRequest, K.sessionHostNonce, K.sessionProof, K.latencyTol, K.ageReplanNow, K.hoTempHost, K.hoModelClear, K.skyAidPos,
        K.skyOrbitLoad, K.mtSet, K.mtStep], K.outRearm n ≠ k := by decide
  obtain ⟨hidx, hlo, hhi, hsub, hne⟩ := h n hn
  simp only [List.forall_mem_cons] at hne
  obtain ⟨h1, h2, h3, h4, h5, h6, h7, h8, h9, h10, h11, _⟩ := hne
  rw [Device.lowAction, if_neg h1, if_neg h2, if_neg h3, if_neg h4, if_neg h5, if_neg h6, if_neg h7, if_neg h8, if_neg h9, if_neg h10, if_neg h11,
    hlo, hhi, hsub, hidx]
  rfl

theorem State.outRearm_written (s : State) (h : HapHdr) {n : Nat} (hn : n < 16) (hw : s.writes h (K.outRearm n) [1]) :
    s.hapWrite h (K.outRearm n) [1] = s.wrote h (K.outRearm n) [1] (answerOf ((s.asWritten h (K.outRearm n) [1]).writeOutRearm n)) :=
  s.lowCommand_written h hw (outRearm_row n hn) rfl (by rw [K.outRearm]; omega) (by
      have : ∀ n < 16, lengthRuled (K.outRearm n) = false := by decide
      exact this n hn) rfl (outRearm_range n hn)
    fun a _ _ => Device.lowAction_outRearm _ a hn _

/-- Settles O28: an aligned clock starts on a whole second, a due edge falls due at its pin instant, a pulse ends, a HELD output rearms. -/
theorem clockAndPulseOutputsRun : Obligations.ClockAndPulseOutputsRun := by
  refine ⟨fun s hz => ⟨exec_loMeasure s hz, (Device.nat_setNum_self _ _ _).trans (Int.toNat_natCast hz)⟩, fun s n hn hst hrun => ?_,
    fun s n e hn hrun hst0 hst5 hdue => ?_, fun s n ha => ⟨_, exec_outTrailingEdge s n, rfl, s.dev.outTrailing_frame ha⟩, fun s h n hn => ?_⟩
  · rw [exec_ckoAlign, State.on, s.dev.ckoAligned_eq hn hst hrun]
    rfl
  · intro r d ps skipped
    obtain ⟨hframe, hfine⟩ := s.dev.toPin_frame e.pin
    have hlive : s.dev.outRuns n = true := by simp [Device.outRuns, hst0, hst5]
    have heq : s.dev.outEdge n = if skipped then s.dev.outSkipped n e else d.outFires n e (s.dev.toPin e.pin).2 :=
      s.dev.outEdge_eq hrun hlive hdue
    have hdev : (s.on (·.outEdge n)) = { s with dev := s.dev.outEdge n } := rfl
    refine ⟨fun hs => ?_, fun hs => ⟨hframe, Nat.add_lt_add_left hfine _, fun ha => ?_, fun u ha => ?_⟩, fun hsc => s.dev.outDue_of_scale hsc hdue⟩
    · rw [exec_outEdge, hdev, heq, if_pos hs, State.on]
    · rw [exec_outEdge, hdev, heq, if_neg hs, Device.outFires, ha]
    · rw [exec_outEdge, hdev, heq, if_neg hs, Device.outFires, ha]
  · intro key d hw
    rw [exec_outRearm s h hn, s.outRearm_written h hn hw, Device.writeOutRearm]
    have hc : (Decidable.decide (d.nat (K.outStatus n) = 4) && Decidable.decide (d.outPolicy n = 0)) = true ↔
        d.nat (K.outStatus n) = 4 ∧ d.outPolicy n = 0 := by simp
    refine ⟨fun h4 h0 => ?_, fun hno => ?_⟩
    · rw [if_pos (hc.mpr ⟨h4, h0⟩)]
      rfl
    · rw [if_neg (mt hc.mp hno)]
      rfl

end Sys2Proof.Machine
end

section
/-! What a run of operations leaves alone: the parts of the machine that it does not touch, and the objects outside a set. -/

namespace Sys2Proof.Machine

/-- A choice of the parts of the machine that an operation may touch, as the function that blanks them; live values are among them. -/
structure Blank where
  clear : Device → Device
  clear_setVal : ∀ (d : Device) (k : Nat) (v : Val), clear (d.setVal k v) = clear d

/-- The part beside what `B` blanks, with the live values of the objects that `C` does not pick. -/
def Device.beside (B : Blank) (C : Nat → Bool) (d : Device) : Device × (Nat → Option Val) :=
  (B.clear d, fun k => if C k then none else some (d.val k))

section
variable {B B' : Blank} {C C' : Nat → Bool} {d e : Device}

theorem clear_of_beside (h : e.beside B C = d.beside B C) : B.clear e = B.clear d := congrArg Prod.fst h

theorem val_of_beside (h : e.beside B C = d.beside B C) {k : Nat} (hk : C k = false) : e.val k = d.val k := by
  have := congrFun (congrArg Prod.snd h) k
  simpa [Device.beside, hk] using this

theorem num_of_beside (h : e.beside B C = d.beside B C) {k : Nat} (hk : C k = false) : e.num k = d.num k := congrArg Val.int (val_of_beside h hk)
theorem nat_of_beside (h : e.beside B C = d.beside B C) {k : Nat} (hk : C k = false) : e.nat k = d.nat k := congrArg Int.toNat (num_of_beside h hk)

/-- Equal stores read equal. -/
theorem val_of_obj (h : e.obj = d.obj) (k : Nat) : e.val k = d.val k := by rw [Device.val, h, Device.val]
theorem num_of_obj (h : e.obj = d.obj) (k : Nat) : e.num k = d.num k := congrArg Val.int (val_of_obj h k)
theorem nat_of_obj (h : e.obj = d.obj) (k : Nat) : e.nat k = d.nat k := congrArg Int.toNat (num_of_obj h k)

/-- An operation that touches no live value, and of the rest what `B` blanks. -/
theorem beside_of_clear (hB : B.clear e = B.clear d) (hv : ∀ k, e.val k = d.val k) : e.beside B C = d.beside B C := by
  refine Prod.ext hB (funext fun k => ?_)
  exact congrArg (fun v => if C k then none else some v) (hv k)

/-- What leaves more alone leaves less alone. -/
theorem beside_mono (h : e.beside B C = d.beside B C) (hB : B.clear e = B.clear d → B'.clear e = B'.clear d) (hC : ∀ k, C k = true → C' k = true) :
    e.beside B' C' = d.beside B' C' := by
  refine Prod.ext (hB (clear_of_beside h)) (funext fun k => ?_)
  show (if C' k then none else some (e.val k)) = if C' k then none else some (d.val k)
  split
  · rfl
  · rw [val_of_beside h (Bool.eq_false_iff.mpr (mt (hC k) ‹_›))]

variable (d) {k : Nat}

theorem Device.beside_setVal (v : Val) (h : C k = true) : (d.setVal k v).beside B C = d.beside B C := by
  refine Prod.ext (B.clear_setVal d k v) (funext fun j => ?_)
  by_cases hj : j = k
  · simp [Device.beside, hj, h]
  · exact congrArg (fun v => if C j then none else some v) (d.val_setVal_ne _ hj)

theorem Device.beside_setNum (v : Int) (h : C k = true) : (d.setNum k v).beside B C = d.beside B C := d.beside_setVal _ h
theorem Device.beside_setOct (v : Bytes) (h : C k = true) : (d.setOct k v).beside B C = d.beside B C := d.beside_setVal _ h
theorem Device.beside_bumpBy (w m : Nat) (h : C k = true) : (d.bumpBy w k m).beside B C = d.beside B C := d.beside_setVal _ h
theorem Device.beside_bump (h : C k = true) : (d.bump k).beside B C = d.beside B C := d.beside_setVal _ h
theorem Device.beside_bump64 (h : C k = true) : (d.bump64 k).beside B C = d.beside B C := d.beside_setVal _ h

theorem Device.beside_setNums (l : List (Nat × Int)) (h : ∀ x ∈ l, C x.1 = true) : (d.setNums l).beside B C = d.beside B C := by
  induction l generalizing d with
  | nil => rfl
  | cons x l ih =>
    obtain ⟨hx, hl⟩ := List.forall_mem_cons.mp h
    exact (ih _ hl).trans (d.beside_setNum _ hx)

/-- A fold of operations that each leave it alone. -/
theorem Device.beside_foldl {α : Type} {f : Device → α → Device} (l : List α) (h : ∀ e, ∀ a ∈ l, (f e a).beside B C = e.beside B C) :
    (l.foldl f d).beside B C = d.beside B C := by
  induction l generalizing d with
  | nil => rfl
  | cons a l ih => exact (ih _ fun e b hb => h e b (List.mem_cons_of_mem a hb)).trans (h d a List.mem_cons_self)

end

end Sys2Proof.Machine
end

section
/-! Chapters 3, 5 and 6: what Thermostat's operations can change. -/

namespace Sys2Proof.Machine

/-- What Thermostat can change: live values, its own state, the holdover state and reports. -/
def thermBlank : Blank :=
  { clear := fun d => { d with obj := [], lost := [], attic := {}, therm := {}, hold := {} }, clear_setVal := fun _ _ _ => rfl }

section
variable {C : Nat → Bool} {d e : Device}

theorem therm_clock (h : e.beside thermBlank C = d.beside thermBlank C) : e.clock = d.clock := congrArg (fun x => x.1.clock) h
theorem therm_staged (h : e.beside thermBlank C = d.beside thermBlank C) : e.staged = d.staged := congrArg (fun x => x.1.staged) h
theorem therm_tdc (h : e.beside thermBlank C = d.beside thermBlank C) : e.tdc = d.tdc := congrArg (fun x => x.1.tdc) h
theorem therm_outs (h : e.beside thermBlank C = d.beside thermBlank C) : e.outs = d.outs := congrArg (fun x => x.1.outs) h
theorem therm_models (h : e.beside thermBlank C = d.beside thermBlank C) : e.models = d.models := congrArg (fun x => x.1.models) h

variable (d) {n : Nat}

@[simp] theorem Device.therm_report (code : Nat) (p : List Int) : (d.report code p).beside thermBlank C = d.beside thermBlank C := (rfl)
@[simp] theorem Device.therm_setCandU (n : Nat) (f : Cand → Cand) : (d.setCandU n f).beside thermBlank C = d.beside thermBlank C := (rfl)
@[simp] theorem Device.therm_setTherm (f : Therm → Therm) : (d.setTherm f).beside thermBlank C = d.beside thermBlank C := (rfl)
@[simp] theorem Device.therm_setHold (f : Holdover → Holdover) : (d.setHold f).beside thermBlank C = d.beside thermBlank C := (rfl)
@[simp] theorem Device.therm_leaveState (n : Nat) : (d.leaveState n).beside thermBlank C = d.beside thermBlank C := (rfl)
@[simp] theorem Device.therm_restartGate (n : Nat) : (d.restartGate n).beside thermBlank C = d.beside thermBlank C := (rfl)

/-! ## The candidates -/

theorem Device.therm_setRef (st : Nat) (h : C (K.thermRefState n) = true) : (d.setRef n st).beside thermBlank C = d.beside thermBlank C := by
  simp only [Device.setRef, apply_ite (Device.beside thermBlank C), Device.therm_leaveState, Device.beside_setNum _ _ h, Device.therm_report, ite_self]

theorem Device.therm_disqualify (reason : Nat) (p2 : Int) (hs : C (K.thermRefState n) = true) (hr : C (K.thermRefReason n) = true) :
    (d.disqualify n reason p2).beside thermBlank C = d.beside thermBlank C := by
  simp only [Device.disqualify, Device.therm_setCandU, Device.therm_setRef _ _ hs, Device.therm_report, Device.beside_setNum _ _ hr]

theorem Device.therm_refusePhase (hr : C (K.thermRefReason n) = true) : (d.refusePhase n).beside thermBlank C = d.beside thermBlank C := by
  simp only [Device.refusePhase, apply_ite (Device.beside thermBlank C), Device.therm_setCandU, Device.therm_report, Device.beside_setNum _ _ hr, ite_self]

theorem Device.therm_qualify (hs : C (K.thermRefState n) = true) (hr : C (K.thermRefReason n) = true) :
    (d.qualify n).beside thermBlank C = d.beside thermBlank C := by
  simp only [Device.qualify, apply_ite (Device.beside thermBlank C), Device.therm_setCandU, Device.therm_setRef _ _ hs, Device.therm_refusePhase _ hr,
    ite_self]

theorem Device.therm_activityAbsent (hs : C (K.thermRefState n) = true) (hr : C (K.thermRefReason n) = true) :
    (d.activityAbsent n).beside thermBlank C = d.beside thermBlank C := by
  simp only [Device.activityAbsent, apply_ite (Device.beside thermBlank C), Device.therm_setCandU, Device.therm_setRef _ _ hs,
    Device.beside_setNum _ _ hr, ite_self]

/-! ## The time state -/

/-- The objects of the time state. -/
def timeKey (k : Nat) : Bool := k = K.mtState || k = K.mtStateSince || k = K.mtEverLocked

/-- `C` picks the objects of the time state. -/
def picksTime (C : Nat → Bool) : Prop := C K.mtState = true ∧ C K.mtStateSince = true ∧ C K.mtEverLocked = true

theorem picksTime_timeKey : picksTime timeKey := ⟨by decide, by decide, by decide⟩

theorem Device.therm_setTimeState (t : Nat) (h : picksTime C) : (d.setTimeState t).beside thermBlank C = d.beside thermBlank C := by
  obtain ⟨h1, h2, h3⟩ := h
  simp only [Device.setTimeState, apply_ite (Device.beside thermBlank C), Device.beside_setNum _ _ h1, Device.beside_setNum _ _ h2,
    Device.beside_setNum _ _ h3, Device.therm_report, ite_self]

theorem Device.therm_enterT5 (cause : Int) (h : picksTime C) : (d.enterT5 cause).beside thermBlank C = d.beside thermBlank C := by
  simp only [Device.enterT5, apply_ite (Device.beside thermBlank C), Device.therm_report, Device.therm_setTimeState _ _ h, ite_self]

theorem Device.therm_followPull (h : picksTime C) : d.followPull.beside thermBlank C = d.beside thermBlank C := by
  simp only [Device.followPull, apply_ite (Device.beside thermBlank C), Device.therm_enterT5 _ _ h, Device.therm_setTimeState _ _ h, ite_self]

@[simp] theorem Device.therm_trackLock : d.trackLock.beside thermBlank C = d.beside thermBlank C := by
  simp only [Device.trackLock, apply_ite (Device.beside thermBlank C), Device.therm_setTherm, ite_self]

@[simp] theorem Device.therm_trackRestore : d.trackRestore.beside thermBlank C = d.beside thermBlank C := by
  simp only [Device.trackRestore, apply_ite (Device.beside thermBlank C), Device.therm_setHold, ite_self]

/-! ## The loop -/

@[simp] theorem Device.therm_requestD (v : Int) : (d.requestD v).beside thermBlank C = d.beside thermBlank C := by
  simp only [Device.requestD, Device.therm_setTherm]
  rw [apply_ite (Device.beside thermBlank C), Device.therm_report, ite_self]

@[simp] theorem Device.therm_moveIntegral (v : Int) : (d.moveIntegral v).beside thermBlank C = d.beside thermBlank C := by
  simp only [Device.moveIntegral, Device.therm_requestD, Device.therm_setTherm]

theorem Device.therm_slewD (h : C K.hearthDco = true) : d.slewD.beside thermBlank C = d.beside thermBlank C := d.beside_setNum _ h

/-! ## The pull -/

@[simp] theorem Device.addPull_val (p : Int) (k : Nat) : (d.addPull p).val k = d.val k := (rfl)
@[simp] theorem Device.addPull_num (p : Int) (k : Nat) : (d.addPull p).num k = d.num k := (rfl)
@[simp] theorem Device.addPull_nat (p : Int) (k : Nat) : (d.addPull p).nat k = d.nat k := (rfl)
@[simp] theorem Device.addPull_clock (p : Int) : (d.addPull p).clock = { d.clock with pull := d.clock.pull + p } := (rfl)
@[simp] theorem Device.addPull_staged (p : Int) : (d.addPull p).staged = d.staged := (rfl)
@[simp] theorem Device.addPull_therm (p : Int) : (d.addPull p).therm = d.therm := (rfl)
@[simp] theorem Device.addPull_hold (p : Int) : (d.addPull p).hold = d.hold := (rfl)
@[simp] theorem Device.addPull_tdc (p : Int) : (d.addPull p).tdc = d.tdc := (rfl)
@[simp] theorem Device.addPull_outs (p : Int) : (d.addPull p).outs = d.outs := (rfl)

/-! ## The time state and Thermostat's own state -/

theorem Device.enterT5_therm (cause : Int) : (d.enterT5 cause).therm = d.therm := by
  simp only [Device.enterT5, apply_ite Device.therm, Device.report_therm, Device.setTimeState_therm, ite_self]

theorem Device.enterT5_hold (cause : Int) : (d.enterT5 cause).hold = d.hold := by
  simp only [Device.enterT5, apply_ite Device.hold, Device.report_hold, Device.setTimeState_hold, ite_self]

theorem Device.followPull_therm : d.followPull.therm = d.therm := by
  simp only [Device.followPull, apply_ite Device.therm, Device.enterT5_therm, Device.setTimeState_therm, ite_self]

theorem Device.followPull_hold : d.followPull.hold = d.hold := by
  simp only [Device.followPull, apply_ite Device.hold, Device.enterT5_hold, Device.setTimeState_hold, ite_self]

/-! ## Candidate states -/

theorem Device.refState_setRef_self (n st : Nat) : (d.setRef n st).refState n = st := by
  unfold Device.setRef
  split
  · assumption
  · have h : ((d.report 0x0401 [n, d.refState n, st, d.num (K.thermRefReason n)]).setNum (K.thermRefState n) st).refState n = st :=
      (Device.nat_setNum_self _ _ _).trans (Int.toNat_natCast st)
    dsimp only
    split
    · exact h
    · exact h

theorem Device.val_setRef_ne (n st : Nat) {k : Nat} (h : k ≠ K.thermRefState n) : (d.setRef n st).val k = d.val k :=
  val_of_beside (C := fun j => j = K.thermRefState n) (d.therm_setRef st (decide_eq_true rfl)) (decide_eq_false h)

theorem Device.num_setRef_ne (n st : Nat) {k : Nat} (h : k ≠ K.thermRefState n) : (d.setRef n st).num k = d.num k :=
  congrArg Val.int (d.val_setRef_ne n st h)

theorem Device.nat_setRef_ne (n st : Nat) {k : Nat} (h : k ≠ K.thermRefState n) : (d.setRef n st).nat k = d.nat k :=
  congrArg Int.toNat (d.num_setRef_ne n st h)

theorem thermRefState_ne {m n : Nat} (h : m ≠ n) : K.thermRefState m ≠ K.thermRefState n := by
  simp only [K.thermRefState]
  omega

end

end Sys2Proof.Machine
end

section
/-! Chapter 20: what a wake and the end of an entry can change. -/

namespace Sys2Proof.Machine

/-- What a wake, or an entry that is aborted, can change: live values, reports, Fusebox's and the Cellar's own state, and the batches. -/
def wakeBlank : Blank :=
  { clear := fun d => { d with obj := [], lost := [], attic := {}, power := {}, cellar := {}, ledger := {} }, clear_setVal := fun _ _ _ => rfl }

/-- The objects that a wake, or an entry that is aborted, can change. -/
def wakeKeys : List Nat := [K.parAdmitStopped, K.fbState, K.fbEntryAborts, K.ledgerKeyId, K.ledgerReleaseDelay, K.ledgerPubkey, K.fbWakeCause,
  K.fbWakePort, K.fbWakes, K.fbSeqQueue, K.fbSeqPeak]

/-- Is an object among them. -/
def wakeKey (k : Nat) : Bool := k ∈ wakeKeys

section
variable {d e : Device}

theorem wake_clock (h : e.beside wakeBlank wakeKey = d.beside wakeBlank wakeKey) : e.clock = d.clock := congrArg (fun x => x.1.clock) h
theorem wake_staged (h : e.beside wakeBlank wakeKey = d.beside wakeBlank wakeKey) : e.staged = d.staged := congrArg (fun x => x.1.staged) h
theorem wake_therm (h : e.beside wakeBlank wakeKey = d.beside wakeBlank wakeKey) : e.therm = d.therm := congrArg (fun x => x.1.therm) h
theorem wake_hold (h : e.beside wakeBlank wakeKey = d.beside wakeBlank wakeKey) : e.hold = d.hold := congrArg (fun x => x.1.hold) h

variable (d)

@[simp] theorem Device.wake_report (code : Nat) (p : List Int) : (d.report code p).beside wakeBlank wakeKey = d.beside wakeBlank wakeKey := (rfl)
@[simp] theorem Device.wake_setPower (f : Power → Power) : (d.setPower f).beside wakeBlank wakeKey = d.beside wakeBlank wakeKey := (rfl)
@[simp] theorem Device.wake_setCellar (f : Cellar → Cellar) : (d.setCellar f).beside wakeBlank wakeKey = d.beside wakeBlank wakeKey := (rfl)
@[simp] theorem Device.wake_setLedger (f : Ledger → Ledger) : (d.setLedger f).beside wakeBlank wakeKey = d.beside wakeBlank wakeKey := (rfl)

theorem Device.wake_openBatch : d.openBatch.beside wakeBlank wakeKey = d.beside wakeBlank wakeKey := by
  rw [Device.openBatch]
  simp only [Device.wake_setLedger]
  rw [Device.beside_setOct _ _ (by decide), Device.beside_setNums _ _ (by simp only [List.forall_mem_cons]; exact ⟨by decide, by decide, by simp⟩),
    apply_ite (Device.beside wakeBlank wakeKey), Device.wake_report, ite_self]

theorem Device.wake_setFbState (st : Nat) : (d.setFbState st).beside wakeBlank wakeKey = d.beside wakeBlank wakeKey := by
  rw [Device.setFbState, apply_ite (Device.beside wakeBlank wakeKey), Device.beside_setNum _ _ (by decide), Device.wake_report, ite_self]

theorem Device.wake_abortEntry (cause : Nat) : (d.abortEntry cause).beside wakeBlank wakeKey = d.beside wakeBlank wakeKey := by
  unfold Device.abortEntry
  split
  · rfl
  · simp only [apply_ite (Device.beside wakeBlank wakeKey), Device.wake_openBatch, ite_self, Device.wake_report]
    rw [Device.beside_bump _ (by decide), Device.wake_setFbState, Device.wake_setPower, Device.wake_report, Device.beside_setNum _ _ (by decide)]

theorem Device.wake_queueStep (kind : Nat) (exit : Bool) : (d.queueStep kind exit).beside wakeBlank wakeKey = d.beside wakeBlank wakeKey := by
  rw [Device.queueStep]
  simp only [apply_ite (Device.beside wakeBlank wakeKey), Device.wake_report, ite_self]
  rw [Device.beside_setNum _ _ (by decide), Device.beside_setNum _ _ (by decide), Device.wake_setPower]

theorem Device.wake_wakeBegin (src : Option Nat) (port : Nat) : (d.wakeBegin src port).beside wakeBlank wakeKey = d.beside wakeBlank wakeKey := by
  have hsteps (l : List Nat) (x : Device) : (l.foldl (fun d k => d.queueStep k true) x).beside wakeBlank wakeKey = x.beside wakeBlank wakeKey :=
    x.beside_foldl l fun y k _ => y.wake_queueStep k true
  have hcause (x : Device) (v : Int) : (x.setNum K.fbWakeCause v).beside wakeBlank wakeKey = x.beside wakeBlank wakeKey := x.beside_setNum v (by decide)
  have hport (x : Device) (v : Int) : (x.setNum K.fbWakePort v).beside wakeBlank wakeKey = x.beside wakeBlank wakeKey := x.beside_setNum v (by decide)
  have hcount (x : Device) : (x.bump K.fbWakes).beside wakeBlank wakeKey = x.beside wakeBlank wakeKey := x.beside_bump (by decide)
  simp only [Device.wakeBegin, apply_ite (Device.beside wakeBlank wakeKey), hsteps, hcause, hport, hcount, Device.wake_setCellar, Device.wake_setPower,
    ite_self]

theorem Device.wake_fbWake (src port : Nat) : (d.fbWake src port).beside wakeBlank wakeKey = d.beside wakeBlank wakeKey := by
  unfold Device.fbWake
  split
  · rw [apply_ite (Device.beside wakeBlank wakeKey), Device.wake_abortEntry, ite_self]
  · rw [apply_ite (Device.beside wakeBlank wakeKey), Device.wake_wakeBegin, ite_self]

theorem Device.wake_wakeOnT5 (d0 : Device) : (d.wakeOnT5 d0).beside wakeBlank wakeKey = d.beside wakeBlank wakeKey := by
  rw [Device.wakeOnT5, apply_ite (Device.beside wakeBlank wakeKey), Device.wake_fbWake, ite_self]

theorem Device.wake_holdCheck : d.holdCheck.beside wakeBlank wakeKey = d.beside wakeBlank wakeKey := by
  unfold Device.holdCheck
  split
  · rw [apply_ite (Device.beside wakeBlank wakeKey), Device.wake_abortEntry, ite_self]
  · rfl

/-- R530: MT that was in T5 before, or is not now, fires no wake source. -/
theorem Device.wakeOnT5_of_same {d0 : Device} (h : d.nat K.mtState = d0.nat K.mtState) : d.wakeOnT5 d0 = d :=
  if_neg (by simp only [h, Bool.and_eq_true, decide_eq_true_eq]; tauto)

end

end Sys2Proof.Machine
end

section
/-! Chapter 5: the rank, the choice and the selection (R147 to R149, R155). -/

namespace Sys2Proof.Machine

theorem exec_selectionEvaluation (s : State) (stuck : List (Nat × Nat)) :
    exec (.selectionEvaluation stuck) s = .next (s.on (fun d => (d.evaluate stuck).wakeOnT5 d)) := rfl

/-! ## The first rank (R148) -/

/-- Is b the ranked one of the first candidates with the lowest key, or are none of them ranked. -/
def Device.bestOf (d : Device) (l : List Nat) : Option Nat → Prop
  | none => ∀ m ∈ l, d.ranks m = false
  | some n => n ∈ l ∧ d.ranks n = true ∧ ∀ m ∈ l, d.ranks m = true → d.rankKey n ≤ d.rankKey m

section
variable (d : Device)

/-- One step of the search for the first rank. -/
def Device.preferRanked (d : Device) (b : Option Nat) (n : Nat) : Option Nat :=
  if d.ranks n && b.all (fun m => d.rankKey n < d.rankKey m) then some n else b

theorem Device.bestOf_preferRanked {l : List Nat} {b : Option Nat} {n : Nat} (h : d.bestOf l b) : d.bestOf (l ++ [n]) (d.preferRanked b n) := by
  unfold Device.preferRanked
  cases hr : d.ranks n with
  | false =>
    cases b with
    | none => simpa [Device.bestOf, or_imp, forall_and, hr] using h
    | some m =>
      obtain ⟨hm, hmr, hmin⟩ := h
      refine ⟨List.mem_append_left _ hm, hmr, fun x hx hxr => ?_⟩
      rcases List.mem_append.mp hx with hx | hx
      · exact hmin x hx hxr
      · obtain rfl := List.mem_singleton.mp hx
        exact absurd hxr (by simp [hr])
  | true =>
    cases b with
    | none =>
      refine ⟨List.mem_append_right _ List.mem_cons_self, hr, fun x hx hxr => ?_⟩
      rcases List.mem_append.mp hx with hx | hx
      · exact absurd hxr (by simp [h x hx])
      · rw [List.mem_singleton.mp hx]
    | some m =>
      obtain ⟨hm, hmr, hmin⟩ := h
      simp only [Bool.true_and, Option.all_some, decide_eq_true_eq]
      split
      · refine ⟨List.mem_append_right _ List.mem_cons_self, hr, fun x hx hxr => ?_⟩
        rcases List.mem_append.mp hx with hx | hx
        · exact Nat.le_trans (Nat.le_of_lt ‹_›) (hmin x hx hxr)
        · rw [List.mem_singleton.mp hx]
      · refine ⟨List.mem_append_left _ hm, hmr, fun x hx hxr => ?_⟩
        rcases List.mem_append.mp hx with hx | hx
        · exact hmin x hx hxr
        · rw [List.mem_singleton.mp hx]
          omega

theorem Device.bestOf_foldl (l0 l : List Nat) {b : Option Nat} (h : d.bestOf l0 b) : d.bestOf (l0 ++ l) (l.foldl d.preferRanked b) := by
  induction l generalizing l0 b with
  | nil => simpa using h
  | cons n l ih =>
    have := ih (l0 ++ [n]) (d.bestOf_preferRanked h)
    rwa [List.append_assoc] at this

theorem Device.bestOf_firstRanked : d.bestOf (List.range 9) d.firstRanked :=
  d.bestOf_foldl [] (List.range 9) (b := none) (fun _ h => absurd h (List.not_mem_nil))

theorem Device.firstRanked_some {n : Nat} (h : d.firstRanked = some n) :
    n < 9 ∧ d.ranks n = true ∧ ∀ m, m < 9 → d.ranks m = true → d.rankKey n ≤ d.rankKey m := by
  have hb := d.bestOf_firstRanked
  rw [h] at hb
  obtain ⟨hn, hr, hmin⟩ := hb
  exact ⟨List.mem_range.mp hn, hr, fun m hm => hmin m (List.mem_range.mpr hm)⟩

theorem Device.firstRanked_none (h : d.firstRanked = none) {m : Nat} (hm : m < 9) : d.ranks m = false := by
  have hb := d.bestOf_firstRanked
  rw [h] at hb
  exact hb m (List.mem_range.mpr hm)

theorem Device.choose_forced (hf : d.nat K.thermForce < 9) (hr : d.ranks (d.nat K.thermForce) = true) : d.choose = some (d.nat K.thermForce) :=
  if_pos (by simp [hf, hr])

theorem Device.choose_revertive (hf : ¬ (d.nat K.thermForce < 9 ∧ d.ranks (d.nat K.thermForce) = true)) (hrev : d.num K.thermRevertive = 1) :
    d.choose = d.firstRanked := by
  rw [Device.choose, if_neg (by simpa using hf), if_pos hrev]

/-- The choice is one that ranks, and none is chosen only where none ranks. -/
theorem Device.choose_ranks : (∀ n, d.choose = some n → n < 9 ∧ d.ranks n = true) ∧ (d.choose = none → ∀ m, m < 9 → d.ranks m = false) := by
  have hfirst : (∀ n, d.firstRanked = some n → n < 9 ∧ d.ranks n = true) ∧ (d.firstRanked = none → ∀ m, m < 9 → d.ranks m = false) :=
    ⟨fun n h => ⟨(d.firstRanked_some h).1, (d.firstRanked_some h).2.1⟩, fun h m hm => d.firstRanked_none h hm⟩
  have hone {m : Nat} (hm : m < 9 ∧ d.ranks m = true) :
      (∀ n, some m = some n → n < 9 ∧ d.ranks n = true) ∧ (some m = none → ∀ m, m < 9 → d.ranks m = false) :=
    ⟨fun n h => Option.some.inj h ▸ hm, fun h => absurd h (by simp)⟩
  unfold Device.choose
  dsimp only
  split
  case isTrue hf => exact hone (by simpa using hf)
  case isFalse =>
    split
    · exact hfirst
    · split
      · rename_i hs
        have hs : d.selected < 9 ∧ d.ranks d.selected = true := by simpa using hs
        cases hm : d.firstRanked with
        | none => exact hone hs
        | some m =>
          dsimp only
          split
          · exact hone (hfirst.1 m hm)
          · exact hone hs
      · exact hfirst

end

/-! ## The evaluation (R147, R149, R153, R155) -/

/-- The part at an evaluation at tick t. -/
def Device.evalAt (d : Device) (t : Nat) : Device := { d.runTo t with therm := { (d.runTo t).therm with lastEval := (d.runTo t).clock.ticks } }

theorem Device.evalAt_nat (d : Device) (t k : Nat) : (d.evalAt t).nat k = d.nat k := rfl

/-- The part at an evaluation: time has run to 1 ms after the last one. -/
def Device.atEval (d : Device) : Device := d.evalAt (d.therm.lastEval + msTicks)

section
variable (d : Device)

theorem Device.atEval_nat (k : Nat) : d.atEval.nat k = d.nat k := by
  rw [Device.atEval, Device.evalAt_nat]

theorem Device.evaluate_frozen (stuck : List (Nat × Nat)) (h : ¬ (d.atEval.rootLocked = true ∧ d.atEval.clock.mtRun = true)) :
    d.evaluate stuck = d.atEval :=
  if_pos (by
    show (!d.atEval.rootLocked || !d.atEval.clock.mtRun) = true
    simpa [imp_iff_not_or] using h)

theorem Device.evaluate_runs (stuck : List (Nat × Nat)) (hr : d.atEval.rootLocked = true) (hm : d.atEval.clock.mtRun = true) :
    d.evaluate stuck = (match d.atEval.choose with
      | none => d.atEval.selectNone
      | some n => if n = d.atEval.selected then d.atEval.followPull else d.atEval.select n stuck).trackLock.trackRestore :=
  if_neg (by
    show ¬ (!d.atEval.rootLocked || !d.atEval.clock.mtRun) = true
    simp [hr, hm])

theorem Device.selectNone_idle (hsel : 9 ≤ d.selected) (hst : d.nat K.mtState < 2) : d.selectNone = d := by
  rw [Device.selectNone]
  simp only [if_neg (Nat.not_lt.mpr hsel), if_neg (Nat.ne_of_lt hst), if_neg (Nat.not_le.mpr (Nat.lt_succ_of_lt hst))]

theorem Device.trackLock_of_state (h : d.nat K.mtState ≠ 2) : d.trackLock = d.setTherm (fun t => { t with lockSince := none }) :=
  if_pos (by simp [Device.lockCond, h])

theorem Device.trackRestore_of_state (h : d.nat K.mtState ≠ 3) : d.trackRestore = d.setHold (fun t => { t with restoreSince := none }) :=
  if_pos (by simp [Device.restoreRuns, h])

/-! A switch outside holdover: the new phase joins the pull, and the loop starts from the prediction. -/

/-- The loop's own state as candidate n is selected from T3 on. -/
def Device.switchedTherm (d : Device) (n : Nat) (th : Therm) : Therm :=
  { th with integ := d.prediction, integLow := 0, everSelected := true, lastSel := some n, selSince := d.clock.ticks, lockSince := none }

/-- The part as candidate n is selected from T3 on, before the time state follows. -/
def Device.switchedTo (d : Device) (n : Nat) : Device :=
  ((((((d.deselect.setRef n 5).report 0x0402 [d.selected, n, sat32 (d.num (K.thermRefPhase n) / 65536)]).setNum K.thermSelected n).bump
    K.thermSwitchCount).setTherm (d.switchedTherm n)).addPull (d.num (K.thermRefPhase n) * 2 ^ 32)).setNum K.thermPhaseErr 0

theorem Device.setRef_hold (n st : Nat) : (d.setRef n st).hold = d.hold := by
  simp only [Device.setRef, Device.leaveState, apply_ite Device.hold, Device.setCandU_hold, Device.setNum_hold, Device.report_hold, ite_self]

theorem Device.deselect_hold : d.deselect.hold = d.hold := by
  simp only [Device.deselect, apply_ite Device.hold, Device.setRef_hold, Device.setCandU_hold, ite_self]

theorem Device.switchedTo_hold (n : Nat) : (d.switchedTo n).hold = d.hold := by
  rw [Device.switchedTo, Device.setNum_hold, Device.addPull_hold, Device.setTherm_hold, Device.bump_hold, Device.setNum_hold, Device.report_hold,
    Device.setRef_hold, Device.deselect_hold]

theorem Device.select_of_switch {n : Nat} (stuck : List (Nat × Nat)) (hcap : d.timeCapable n = true) (ht : 3 ≤ d.nat K.mtState)
    (hh : d.hold.active = false) :
    d.select n stuck = ((d.switchedTo n).setHold (fun h => { h with restoreSince := none })).followPull := by
  have h0 : d.nat K.mtState ≠ 0 := by omega
  have h1 : d.nat K.mtState ≠ 1 := by omega
  have h2 : d.nat K.mtState ≠ 2 := by omega
  have hend : ((d.switchedTo n).setHold (fun h => { h with restoreSince := none })).endHoldover (d.num (K.thermRefPhase n)) =
      (d.switchedTo n).setHold (fun h => { h with restoreSince := none }) := by
    refine if_pos ?_
    rw [Device.setHold_hold]
    simp [d.switchedTo_hold n, hh]
  rw [Device.select]
  simp only [hcap, h0, h1, h2, ht, decide_false, Bool.false_and, Bool.or_false, if_true, if_false, Bool.false_eq_true]
  exact congrArg Device.followPull hend

/-- The objects that leaving one candidate for another can change. -/
def refStateKey (k : Nat) : Bool := 0x2201 * 256 ≤ k && k < 0x2210 * 256 && k % 256 = 0x02

theorem refStateKey_thermRefState {n : Nat} (h : n < 9) : refStateKey (K.thermRefState n) = true := by
  have : ∀ n < 9, refStateKey (K.thermRefState n) = true := by decide
  exact this n h

theorem Device.deselect_setRef_frame {n : Nat} (hn : n < 9) :
    (d.deselect.setRef n 5).beside thermBlank refStateKey = d.beside thermBlank refStateKey := by
  rw [Device.therm_setRef _ _ (refStateKey_thermRefState hn)]
  unfold Device.deselect
  dsimp only
  split
  · rfl
  · rename_i hs
    rw [apply_ite (Device.beside thermBlank refStateKey), Device.therm_setCandU, Device.therm_setRef _ _ (refStateKey_thermRefState (by omega)), ite_self]

/-- What the switch to candidate n makes of the part. -/
theorem Device.switchedTo_frame {n : Nat} (hn : n < 9) :
    (d.switchedTo n).selected = n ∧ (d.switchedTo n).refState n = 5
      ∧ (d.switchedTo n).clock = { d.clock with pull := d.clock.pull + d.num (K.thermRefPhase n) * 2 ^ 32 }
      ∧ (d.nat K.thermSwitchCount < 2 ^ 32 - 1 → (d.switchedTo n).nat K.thermSwitchCount = d.nat K.thermSwitchCount + 1)
      ∧ (d.switchedTo n).therm.integ = d.prediction ∧ (d.switchedTo n).num K.thermPhaseErr = 0
      ∧ (d.switchedTo n).num K.hearthDco = d.num K.hearthDco ∧ (d.switchedTo n).nat K.mtState = d.nat K.mtState := by
  have hx := d.deselect_setRef_frame hn
  have hst := d.deselect.refState_setRef_self n 5
  rw [Device.switchedTo]
  generalize d.deselect.setRef n 5 = x at hx hst
  have hp : K.thermRefState n ≠ K.thermPhaseErr := by simp only [K.thermRefState, K.thermPhaseErr]; omega
  have hc : K.thermRefState n ≠ K.thermSwitchCount := by simp only [K.thermRefState, K.thermSwitchCount]; omega
  have hs : K.thermRefState n ≠ K.thermSelected := by simp only [K.thermRefState, K.thermSelected]; omega
  refine ⟨?_, ?_, ?_, fun hroom => ?_, rfl, Device.num_setNum_self _ _ _, ?_, ?_⟩
  · rw [Device.selected, Device.nat_setNum, if_neg (by decide), Device.addPull_nat, Device.setTherm_nat, Device.bump,
      Device.nat_bumpBy_ne _ _ _ (by decide), Device.nat_setNum_self, Int.toNat_natCast]
  · rw [Device.refState, Device.nat_setNum, if_neg hp, Device.addPull_nat, Device.setTherm_nat, Device.bump, Device.nat_bumpBy_ne _ _ _ hc,
      Device.nat_setNum, if_neg hs, Device.report_nat]
    exact hst
  · rw [Device.setNum_clock, Device.addPull_clock, Device.setTherm_clock, Device.bump_clock, Device.setNum_clock, Device.report_clock, therm_clock hx]
  · have hcount : ((x.report 0x0402 [d.selected, n, sat32 (d.num (K.thermRefPhase n) / 65536)]).setNum K.thermSelected n).nat K.thermSwitchCount
        = d.nat K.thermSwitchCount := by
      rw [Device.nat_setNum, if_neg (by decide), Device.report_nat, nat_of_beside hx (by decide)]
    rw [Device.nat_setNum, if_neg (by decide), Device.addPull_nat, Device.setTherm_nat, Device.bump, Device.nat_bumpBy _ _ _ _ (by omega), hcount]
  · rw [Device.num_setNum, if_neg (by decide), Device.addPull_num, Device.setTherm_num, Device.bump, Device.num_bumpBy_ne _ _ _ (by decide),
      Device.num_setNum, if_neg (by decide), Device.report_num, num_of_beside hx (by decide)]
  · rw [Device.nat_setNum, if_neg (by decide), Device.addPull_nat, Device.setTherm_nat, Device.bump, Device.nat_bumpBy_ne _ _ _ (by decide),
      Device.nat_setNum, if_neg (by decide), Device.report_nat, nat_of_beside hx (by decide)]

theorem Device.evaluate_idle (stuck : List (Nat × Nat)) (hr : d.atEval.rootLocked = true) (hm : d.atEval.clock.mtRun = true)
    (hnone : d.atEval.choose = none) (hsel : 9 ≤ d.atEval.selected) (hst : d.atEval.nat K.mtState < 2) : d.evaluate stuck =
      (d.atEval.setTherm (fun t => { t with lockSince := none })).setHold (fun h => { h with restoreSince := none }) := by
  rw [d.evaluate_runs stuck hr hm, hnone]
  dsimp only
  rw [Device.selectNone_idle _ hsel hst, Device.trackLock_of_state _ (by omega), Device.trackRestore_of_state _ (by rw [Device.setTherm_nat]; omega)]

/-- The state that no lock dwell and no gate of a RESTORED model runs in. -/
def Device.notTracked (d : Device) : Device :=
  { d with therm := { d.therm with lockSince := none }, hold := { d.hold with restoreSince := none } }

theorem Device.setHold_setTherm_notTracked :
    (d.setTherm (fun t => { t with lockSince := none })).setHold (fun h => { h with restoreSince := none }) = d.notTracked := rfl

theorem Device.evaluate_idle_wake (stuck : List (Nat × Nat)) (hr : d.atEval.rootLocked = true) (hm : d.atEval.clock.mtRun = true)
    (hnone : d.atEval.choose = none) (hsel : 9 ≤ d.atEval.selected) (hst : d.atEval.nat K.mtState < 2) :
    (d.evaluate stuck).wakeOnT5 d = d.atEval.notTracked := by
  rw [d.evaluate_idle stuck hr hm hnone hsel hst, Device.wakeOnT5_of_same, Device.setHold_setTherm_notTracked]
  rw [Device.setHold_nat, Device.setTherm_nat, d.atEval_nat]

theorem Device.evaluate_switch (stuck : List (Nat × Nat)) {n : Nat} (hr : d.atEval.rootLocked = true) (hm : d.atEval.clock.mtRun = true)
    (hsome : d.atEval.choose = some n) (hne : n ≠ d.atEval.selected) (hcap : d.atEval.timeCapable n = true) (hst : 3 ≤ d.atEval.nat K.mtState)
    (hh : d.atEval.hold.active = false) : d.evaluate stuck =
      (((d.atEval.switchedTo n).setHold (fun h => { h with restoreSince := none })).followPull).trackLock.trackRestore := by
  rw [d.evaluate_runs stuck hr hm, hsome]
  dsimp only
  rw [if_neg hne, Device.select_of_switch _ stuck hcap hst hh]

theorem Device.trackLock_integ : d.trackLock.therm.integ = d.therm.integ := by
  simp only [Device.trackLock, apply_ite Device.therm, apply_ite Therm.integ, Device.setTherm_therm, ite_self]

theorem Device.trackRestore_therm : d.trackRestore.therm = d.therm := by
  simp only [Device.trackRestore, apply_ite Device.therm, Device.setHold_therm, ite_self]

/-- What follows a switch touches the time state and what a wake touches, and leaves T3 as it is. -/
theorem Device.afterSwitch_frame (x d0 : Device) :
    let t := ((x.setHold (fun h => { h with restoreSince := none })).followPull.trackLock.trackRestore).wakeOnT5 d0
    (∀ k, (timeKey k || wakeKey k) = false → t.val k = x.val k) ∧ t.clock = x.clock ∧ t.therm.integ = x.therm.integ
      ∧ (x.nat K.mtState = 3 → t.nat K.mtState = 3) := by
  intro t
  let y := x.setHold (fun h => { h with restoreSince := none })
  have hb : y.followPull.trackLock.trackRestore.beside thermBlank timeKey = y.beside thermBlank timeKey := by
    rw [Device.therm_trackRestore, Device.therm_trackLock, y.therm_followPull picksTime_timeKey]
  have hw := y.followPull.trackLock.trackRestore.wake_wakeOnT5 d0
  refine ⟨fun k hk => ?_, (wake_clock hw).trans (therm_clock hb), ?_, fun h3 => ?_⟩
  · obtain ⟨ht, hk⟩ := Bool.or_eq_false_iff.mp hk
    exact (val_of_beside hw hk).trans (val_of_beside hb ht)
  · rw [wake_therm hw, Device.trackRestore_therm, Device.trackLock_integ, Device.followPull_therm]
    rfl
  · have hy : y.nat K.mtState = 3 := h3
    rw [nat_of_beside hw (by decide), nat_of_beside (C := fun _ => false) (Device.therm_trackRestore _) rfl,
      nat_of_beside (C := fun _ => false) (Device.therm_trackLock _) rfl, y.followPull_of_other (by omega) (by omega), hy]

end

/-- Settles O32: the first rank is chosen, forced before it; a switch outside holdover hands its phase to the pull and keeps D. -/
theorem selectionFollowsRank : Obligations.SelectionFollowsRank := by
  refine ⟨fun d n h => ⟨(d.choose_ranks.1 n h).1, (d.choose_ranks.1 n h).2, fun hr hf => ?_, fun hf hrev m hm hr => ?_⟩,
    fun d h => d.choose_ranks.2 h, fun s stuck => ?_⟩
  · exact Option.some.inj (h.symm.trans (d.choose_forced hf hr))
  · rw [d.choose_revertive hf hrev] at h
    exact (d.firstRanked_some h).2.2 m hm hr
  · intro d1 d
    obtain hd : s.dev.atEval = d := rfl
    clear_value d
    subst hd
    rw [exec_selectionEvaluation, State.on]
    refine ⟨fun h => ?_, fun hroot hrun hnone hsel hst => ?_, fun n hroot hrun hsome hne hcap hst hhold hroom => ?_⟩
    · rw [s.dev.evaluate_frozen stuck h, Device.wakeOnT5_of_same]
      · exact s.dev.atEval_nat _
    · rw [s.dev.evaluate_idle_wake stuck hroot hrun hnone hsel hst, Device.notTracked]
    · obtain ⟨hsel, href, hclock, hcount, hinteg, herr, hdco, hmt⟩ := s.dev.atEval.switchedTo_frame (s.dev.atEval.choose_ranks.1 n hsome).1
      have hx := s.dev.evaluate_switch stuck hroot hrun hsome hne hcap (by omega) hhold
      obtain ⟨hx1, hx2, hx3, hx4⟩ := (s.dev.atEval.switchedTo n).afterSwitch_frame s.dev
      refine ⟨_, rfl, rfl, ?_⟩
      dsimp only
      rw [hx]
      have hnat {k : Nat} (hk : (timeKey k || wakeKey k) = false) := congrArg (fun v => v.int.toNat) (hx1 k hk)
      refine ⟨(hnat (by decide)).trans hsel, ?_, hx2.trans hclock, (hnat (by decide)).trans (hcount hroom), hx3.trans hinteg,
        (congrArg Val.int (hx1 _ (by decide))).trans herr, (congrArg Val.int (hx1 _ (by decide))).trans hdco, fun h3 => hx4 (hmt.trans h3)⟩
      have hk : ∀ n < 9, (timeKey (K.thermRefState n) || wakeKey (K.thermRefState n)) = false := by decide
      exact (hnat (hk n (s.dev.atEval.choose_ranks.1 n hsome).1)).trans href

end Sys2Proof.Machine
end

section
/-! Chapter 4: the loop's update (R111, R112, R141, R145, R151, R152). -/

namespace Sys2Proof.Machine

theorem exec_dpllUpdate (s : State) : exec .dpllUpdate s = .next (s.on (·.dpllUpdate)) := rfl

section
variable (d : Device)

/-- The part as an update begins: the loop notes its tick. -/
def Device.dpllNoted (d : Device) : Device := d.setTherm (fun t => { t with lastUpdate := d.clock.ticks })

theorem Device.dpllNoted_num (k : Nat) : d.dpllNoted.num k = d.num k := rfl

theorem Device.dpllNoted_frame : d.dpllNoted.therm.lastUpdate = d.clock.ticks ∧ d.dpllNoted.clock = d.clock ∧ d.dpllNoted.staged = d.staged ∧
    d.dpllNoted.tdc = d.tdc ∧ d.dpllNoted.outs = d.outs ∧ d.dpllNoted.therm.integ = d.therm.integ := ⟨rfl, rfl, rfl, rfl, rfl, rfl⟩

/-- R141, R151: what the integral path moves by with candidate n SELECTED, in 2^-80. -/
def Device.dpllMove (d : Device) (n : Nat) : Int :=
  if d.timeCapable n then dpllStep (if d.nat K.mtState = 2 then d.nat K.thermDpllAcqBw else d.nat K.thermDpllBw) (d.num K.thermPhaseErr)
  else if (d.cand n).hasFreq then
    Config.dpllFreqGain (if d.nat K.mtState = 2 then d.nat K.thermDpllAcqBw else d.nat K.thermDpllBw) * ((d.cand n).freqAbs - d.num K.hearthDco)
  else 0

/-- R151, R152: the correction handed to the pull with candidate n SELECTED, in 2^-48 ns. -/
def Device.dpllCorr (d : Device) (n : Nat) : Int :=
  if d.timeCapable n then dpllCorrection (if d.nat K.mtState = 2 then d.nat K.thermDpllAcqBw else d.nat K.thermDpllBw) (d.num K.thermPhaseErr) else 0

/-- The part once D and the pull have moved with candidate n SELECTED, the history noted. -/
def Device.dpllMoved (d : Device) (n : Nat) : Device :=
  let x := (((d.moveIntegral (d.dpllMove n)).slewD).addPull (d.dpllCorr n)).setNum K.thermPhaseErr
    (if d.timeCapable n then d.num K.thermPhaseErr - d.dpllCorr n / 2 ^ 32 else 0)
  x.setHold (fun h => { h with dHist := (d.clock.ticks, x.therm.integ) :: x.hold.dHist.filter (fun e => d.clock.ticks ≤ e.1 + 1000 * sTicks) })

/-- R151: a path beyond its limit disqualifies candidate n. -/
def Device.dpllJudged (d : Device) (n : Nat) : Device := if d.therm.dLimit ≠ 0 then d.disqualify n 5 0 else d

/-- One update at this tick. -/
def Device.dpllNow (d : Device) : Device :=
  let e := d.dpllNoted
  if !e.rootLocked || !e.clock.mtRun then e
  else if 9 ≤ e.selected || e.refState e.selected ≠ 5 then (if e.selected < 9 then e else e.slewD)
  else ((e.dpllMoved e.selected).dpllJudged e.selected).followPull

theorem Device.dpllUpdate_eq : d.dpllUpdate = (d.runTo (d.therm.lastUpdate + msTicks)).dpllNow := rfl

/-- R112: which limit a value asked for is beyond: 1 the upper, -1 the lower, 0 none. -/
def limitOf (v : Int) : Int := if dLimit < v then 1 else if v < -dLimit then -1 else 0

theorem limitOf_ne_zero (v : Int) : limitOf v ≠ 0 ↔ v < -(2 ^ 36) ∨ 2 ^ 36 < v := by
  unfold limitOf dLimit
  split
  · exact ⟨fun _ => .inr ‹_›, fun _ => by decide⟩
  · split
    · exact ⟨fun _ => .inl ‹_›, fun _ => by decide⟩
    · simp only [ne_eq, not_true_eq_false, false_iff]
      omega

theorem Device.requestD_therm (v : Int) :
    (d.requestD v).therm = { d.therm with dTarget := clamp (-dLimit) dLimit v, dLimit := limitOf v } := by
  rw [Device.requestD, Device.setTherm_therm, apply_ite Device.therm, Device.report_therm, ite_self]
  rfl

/-- R112, R151: where the integral path stands after a move. -/
theorem Device.moveIntegral_therm (step : Int) : ∃ low, (d.moveIntegral step).therm = { d.therm with
    integ := clamp (-(dLimit * 2 ^ 32)) (dLimit * 2 ^ 32) (d.therm.integ * 2 ^ 32 + d.therm.integLow + step) / 2 ^ 32
    integLow := low
    dTarget := clamp (-dLimit) dLimit ((d.therm.integ * 2 ^ 32 + d.therm.integLow + step) / 2 ^ 32)
    dLimit := limitOf ((d.therm.integ * 2 ^ 32 + d.therm.integLow + step) / 2 ^ 32) } :=
  ⟨_, by rw [Device.moveIntegral, Device.requestD_therm, Device.setTherm_therm]⟩

theorem Device.moveIntegral_num (step : Int) (k : Nat) : (d.moveIntegral step).num k = d.num k :=
  num_of_beside (C := fun _ => false) (d.therm_moveIntegral step) rfl

theorem Device.moveIntegral_val (step : Int) (k : Nat) : (d.moveIntegral step).val k = d.val k :=
  val_of_beside (C := fun _ => false) (d.therm_moveIntegral step) rfl

theorem Device.setRef_therm_loop (n st : Nat) : (d.setRef n st).therm = { d.therm with cands := (d.setRef n st).therm.cands } := by
  unfold Device.setRef
  split
  · rfl
  · dsimp only
    split <;> rfl

theorem Device.disqualify_therm_loop (n reason : Nat) (p2 : Int) :
    (d.disqualify n reason p2).therm = { d.therm with cands := (d.disqualify n reason p2).therm.cands } := by
  rw [Device.disqualify]
  have h := ((d.setNum (K.thermRefReason n) reason).report 0x0403 [n, reason, p2]).setRef_therm_loop n 2
  generalize ((d.setNum (K.thermRefReason n) reason).report 0x0403 [n, reason, p2]).setRef n 2 = x at h
  rw [Device.setCandU]
  dsimp only
  rw [h]
  rfl

theorem Device.disqualify_refState (n reason : Nat) (p2 : Int) : (d.disqualify n reason p2).refState n = 2 := by
  rw [Device.disqualify, Device.refState, Device.setCandU_nat]
  exact Device.refState_setRef_self _ n 2

theorem Device.disqualify_reason (n reason : Nat) (p2 : Int) : (d.disqualify n reason p2).nat (K.thermRefReason n) = reason := by
  have hne : K.thermRefReason n ≠ K.thermRefState n := by simp only [K.thermRefReason, K.thermRefState]; omega
  rw [Device.disqualify, Device.setCandU_nat, Device.nat_setRef_ne _ _ _ hne, Device.report_nat, Device.nat_setNum_self, Int.toNat_natCast]

end

/-- The objects that an update with candidate n SELECTED can change, apart from D and the phase error. -/
def updateKey (n : Nat) (k : Nat) : Bool := k = K.thermRefState n || k = K.thermRefReason n || timeKey k

theorem picksTime_updateKey (n : Nat) : picksTime (updateKey n) := by
  refine ⟨?_, ?_, ?_⟩ <;> exact Bool.or_eq_true_iff.mpr (.inr (by decide))

section
variable (d : Device) {n : Nat}

/-- What follows the moves touches the candidate's state and reason and the time state. -/
theorem Device.therm_judged : ((d.dpllJudged n).followPull).beside thermBlank (updateKey n) = d.beside thermBlank (updateKey n) := by
  have hs : updateKey n (K.thermRefState n) = true := by simp [updateKey]
  have hr : updateKey n (K.thermRefReason n) = true := by simp [updateKey]
  rw [Device.therm_followPull _ (picksTime_updateKey n), Device.dpllJudged, apply_ite (Device.beside thermBlank (updateKey n)),
    Device.therm_disqualify _ _ _ hs hr, ite_self]

theorem Device.judged_loop : ((d.dpllJudged n).followPull).therm = { d.therm with cands := ((d.dpllJudged n).followPull).therm.cands } := by
  rw [Device.followPull_therm, Device.dpllJudged]
  split
  · exact d.disqualify_therm_loop n 5 0
  · rfl

theorem timeKey_thermRef (h : n < 9) : timeKey (K.thermRefState n) = false ∧ timeKey (K.thermRefReason n) = false := by
  have : ∀ n < 9, timeKey (K.thermRefState n) = false ∧ timeKey (K.thermRefReason n) = false := by decide
  exact this n h

theorem Device.judged_refState (hn : n < 9) (h5 : d.refState n = 5) :
    ((d.dpllJudged n).followPull).refState n = (if d.therm.dLimit ≠ 0 then 2 else 5) ∧
      (d.therm.dLimit ≠ 0 → ((d.dpllJudged n).followPull).nat (K.thermRefReason n) = 5) := by
  have hb (x : Device) := x.therm_followPull picksTime_timeKey
  rw [Device.refState, nat_of_beside (hb _) (timeKey_thermRef hn).1, nat_of_beside (hb _) (timeKey_thermRef hn).2, Device.dpllJudged]
  by_cases hl : d.therm.dLimit ≠ 0
  · simp only [if_pos hl]
    exact ⟨d.disqualify_refState n 5 0, fun _ => d.disqualify_reason n 5 0⟩
  · simp only [if_neg hl]
    exact ⟨h5, fun h => absurd h hl⟩

end

section
variable (d : Device) (n : Nat)

theorem Device.slewD_num_self : d.slewD.num K.hearthDco =
    d.num K.hearthDco + clamp (-(2 ^ 30)) (2 ^ 30) (d.therm.dTarget - d.num K.hearthDco) := Device.num_setNum_self _ _ _

theorem Device.slewD_frame : d.slewD.therm = d.therm ∧ d.slewD.clock = d.clock ∧ d.slewD.staged = d.staged ∧ d.slewD.tdc = d.tdc ∧ d.slewD.outs = d.outs :=
  ⟨d.setNum_therm _ _, d.setNum_clock _ _, d.setNum_staged _ _, d.setNum_tdc _ _, d.setNum_outs _ _⟩

theorem Device.slewD_val_ne {k : Nat} (h : k ≠ K.hearthDco) : d.slewD.val k = d.val k := Device.val_setVal_ne _ _ h

/-- What the moves of an update leave alone, next to D, the phase error and the pull. -/
theorem Device.dpllMoved_frame : (d.dpllMoved n).clock = { d.clock with pull := d.clock.pull + d.dpllCorr n } ∧ (d.dpllMoved n).staged = d.staged ∧
    (d.dpllMoved n).tdc = d.tdc ∧ (d.dpllMoved n).outs = d.outs ∧ (d.dpllMoved n).therm = (d.moveIntegral (d.dpllMove n)).therm := by
  have hx : ((d.moveIntegral (d.dpllMove n)).slewD).beside thermBlank (fun _ => true) = d.beside thermBlank (fun _ => true) :=
    (Device.therm_slewD _ rfl).trans (Device.therm_moveIntegral _ _)
  have ht : ((d.moveIntegral (d.dpllMove n)).slewD).therm = (d.moveIntegral (d.dpllMove n)).therm := Device.setNum_therm _ _ _
  rw [Device.dpllMoved, ← ht]
  generalize (d.moveIntegral (d.dpllMove n)).slewD = x at hx
  simp only [Device.setHold_clock, Device.setHold_staged, Device.setHold_tdc, Device.setHold_outs, Device.setHold_therm, Device.setNum_clock,
    Device.setNum_staged, Device.setNum_tdc, Device.setNum_outs, Device.setNum_therm, Device.addPull_clock, Device.addPull_staged, Device.addPull_tdc,
    Device.addPull_outs, Device.addPull_therm, therm_clock hx, therm_staged hx, therm_tdc hx, therm_outs hx, and_self]

theorem Device.dpllMoved_thermPhaseErr : (d.dpllMoved n).num K.thermPhaseErr =
    if d.timeCapable n then d.num K.thermPhaseErr - d.dpllCorr n / 2 ^ 32 else 0 := by
  rw [Device.dpllMoved, Device.setHold_num, Device.num_setNum_self]

theorem Device.dpllMoved_hearthDco : (d.dpllMoved n).num K.hearthDco = d.num K.hearthDco +
    clamp (-(2 ^ 30)) (2 ^ 30) ((d.moveIntegral (d.dpllMove n)).therm.dTarget - d.num K.hearthDco) := by
  rw [Device.dpllMoved, Device.setHold_num, Device.num_setNum, if_neg (by decide), Device.addPull_num, Device.slewD_num_self, Device.moveIntegral_num]

theorem Device.dpllMoved_val_ne {k : Nat} (hd : k ≠ K.hearthDco) (he : k ≠ K.thermPhaseErr) : (d.dpllMoved n).val k = d.val k := by
  rw [Device.dpllMoved, Device.setHold_val]
  exact (Device.val_setVal_ne _ _ he).trans ((Device.slewD_val_ne _ hd).trans (d.moveIntegral_val _ k))

/-- An update with no candidate SELECTED. -/
theorem Device.dpllNow_stands (h : ¬ (d.rootLocked = true ∧ d.clock.mtRun = true) ∨ (d.selected < 9 ∧ d.refState d.selected ≠ 5)) :
    d.dpllNow = d.dpllNoted := by
  have hroot : d.dpllNoted.rootLocked = d.rootLocked := rfl
  have hrun : d.dpllNoted.clock = d.clock := rfl
  have hsel : d.dpllNoted.selected = d.selected := rfl
  have href : d.dpllNoted.refState d.selected = d.refState d.selected := rfl
  rw [Device.dpllNow]
  simp only [hroot, hrun, hsel, href]
  rcases h with h | ⟨h9, h5⟩
  · exact if_pos (by simpa [imp_iff_not_or] using h)
  · simp [h9, h5]

theorem Device.dpllNow_slews (hr : d.rootLocked = true) (hm : d.clock.mtRun = true) (h : 9 ≤ d.selected) : d.dpllNow = d.dpllNoted.slewD := by
  have hroot : d.dpllNoted.rootLocked = true := hr
  have hrun : d.dpllNoted.clock.mtRun = true := hm
  have hsel : d.dpllNoted.selected = d.selected := rfl
  rw [Device.dpllNow]
  simp [hroot, hrun, hsel, h, Nat.not_lt.mpr h]

theorem Device.dpllNow_steers (hr : d.rootLocked = true) (hm : d.clock.mtRun = true) (hn : d.selected < 9) (h5 : d.refState d.selected = 5) :
    d.dpllNow = ((d.dpllNoted.dpllMoved d.selected).dpllJudged d.selected).followPull := by
  have hroot : d.dpllNoted.rootLocked = true := hr
  have hrun : d.dpllNoted.clock.mtRun = true := hm
  have hsel : d.dpllNoted.selected = d.selected := rfl
  have href : d.dpllNoted.refState d.selected = 5 := h5
  rw [Device.dpllNow]
  simp [hroot, hrun, hsel, href, Nat.not_le.mpr hn]

/-- An update with a candidate SELECTED: the path, D, the pull, the phase error, and the candidate's fate. -/
theorem Device.dpllNow_frame_of_selected (hr : d.rootLocked = true) (hm : d.clock.mtRun = true) (hn : d.selected < 9) (h5 : d.refState d.selected = 5)
    {path corr : Int} (hpath : d.therm.integ * 2 ^ 32 + d.therm.integLow + d.dpllMove d.selected = path) (hcorr : d.dpllCorr d.selected = corr) :
    d.dpllNow.therm.lastUpdate = d.clock.ticks ∧ d.dpllNow.clock = { d.clock with pull := d.clock.pull + corr }
      ∧ d.dpllNow.staged = d.staged ∧ d.dpllNow.tdc = d.tdc ∧ d.dpllNow.outs = d.outs
      ∧ d.dpllNow.therm.integ = clamp (-(2 ^ 68)) (2 ^ 68) path / 2 ^ 32
      ∧ d.dpllNow.num K.hearthDco = d.num K.hearthDco +
          clamp (-(2 ^ 30)) (2 ^ 30) (clamp (-(2 ^ 36)) (2 ^ 36) (path / 2 ^ 32) - d.num K.hearthDco)
      ∧ (d.timeCapable d.selected = true → d.dpllNow.num K.thermPhaseErr = d.num K.thermPhaseErr - corr / 2 ^ 32)
      ∧ d.dpllNow.refState d.selected = (if path / 2 ^ 32 < -(2 ^ 36) ∨ 2 ^ 36 < path / 2 ^ 32 then 2 else 5)
      ∧ (path / 2 ^ 32 < -(2 ^ 36) ∨ 2 ^ 36 < path / 2 ^ 32 → d.dpllNow.nat (K.thermRefReason d.selected) = 5) := by
  subst hpath hcorr
  obtain ⟨low, hmove⟩ := d.dpllNoted.moveIntegral_therm (d.dpllMove d.selected)
  obtain ⟨hclock, hstaged, htdc, houts, htherm⟩ := d.dpllNoted.dpllMoved_frame d.selected
  have hm' : d.dpllNoted.dpllMove d.selected = d.dpllMove d.selected := rfl
  rw [hm', hmove] at htherm
  have hdco := d.dpllNoted.dpllMoved_hearthDco d.selected
  rw [hm', hmove] at hdco
  have herr := d.dpllNoted.dpllMoved_thermPhaseErr d.selected
  have hne : K.thermRefState d.selected ≠ K.hearthDco ∧ K.thermRefState d.selected ≠ K.thermPhaseErr := by
    have : ∀ n < 9, K.thermRefState n ≠ K.hearthDco ∧ K.thermRefState n ≠ K.thermPhaseErr := by decide
    exact this _ hn
  have hfree : ∀ n < 9, updateKey n K.hearthDco = false ∧ updateKey n K.thermPhaseErr = false := by decide
  have hst : (d.dpllNoted.dpllMoved d.selected).refState d.selected = 5 :=
    (congrArg (fun v => v.int.toNat) (d.dpllNoted.dpllMoved_val_ne d.selected hne.1 hne.2)).trans h5
  rw [d.dpllNow_steers hr hm hn h5]
  generalize d.dpllNoted.dpllMoved d.selected = x at hclock hstaged htdc houts htherm hdco herr hst
  have hb := x.therm_judged (n := d.selected)
  have hloop := x.judged_loop (n := d.selected)
  obtain ⟨hjudge, hreason⟩ := x.judged_refState hn hst
  have hlim : x.therm.dLimit ≠ 0 ↔ (d.therm.integ * 2 ^ 32 + d.therm.integLow + d.dpllMove d.selected) / 2 ^ 32 < -(2 ^ 36) ∨
      2 ^ 36 < (d.therm.integ * 2 ^ 32 + d.therm.integLow + d.dpllMove d.selected) / 2 ^ 32 := by
    rw [htherm]
    exact limitOf_ne_zero _
  refine ⟨?_, ?_, ?_, ?_, ?_, ?_, ?_, fun hcap => ?_, ?_, fun hlimit => hreason (hlim.mpr hlimit)⟩
  · rw [hloop, htherm]
    rfl
  · rw [therm_clock hb, hclock]
    rfl
  · rw [therm_staged hb, hstaged]
    rfl
  · rw [therm_tdc hb, htdc]
    rfl
  · rw [therm_outs hb, houts]
    rfl
  · rw [hloop, htherm]
    have h68 : dLimit * 2 ^ 32 = 2 ^ 68 := by decide
    simp only [h68]
    rfl
  · rw [num_of_beside hb (hfree _ hn).1, hdco]
    rfl
  · rw [num_of_beside hb (hfree _ hn).2, herr]
    exact if_pos hcap
  · rw [hjudge]
    exact if_congr hlim rfl rfl

end

/-- An update that only notes its tick. -/
theorem Device.dpllNow_frame_of_stands (d : Device) (h : ¬ (d.rootLocked = true ∧ d.clock.mtRun = true) ∨ (d.selected < 9 ∧ d.refState d.selected ≠ 5)) :
    d.dpllNow.therm.lastUpdate = d.clock.ticks ∧ d.dpllNow.clock = d.clock ∧ d.dpllNow.staged = d.staged ∧ d.dpllNow.tdc = d.tdc ∧
      d.dpllNow.outs = d.outs ∧ d.dpllNow.num K.hearthDco = d.num K.hearthDco ∧ d.dpllNow.therm.integ = d.therm.integ := by
  obtain ⟨hlast, hclock, hstaged, htdc, houts, hinteg⟩ := d.dpllNoted_frame
  have hnum := d.dpllNoted_num K.hearthDco
  rw [d.dpllNow_stands h]
  exact ⟨hlast, hclock, hstaged, htdc, houts, hnum, hinteg⟩

/-- An update with nothing selected. -/
theorem Device.dpllNow_frame_of_slews (d : Device) (hr : d.rootLocked = true) (hm : d.clock.mtRun = true) (h : 9 ≤ d.selected) :
    d.dpllNow.therm.lastUpdate = d.clock.ticks ∧ d.dpllNow.clock = d.clock ∧ d.dpllNow.staged = d.staged ∧ d.dpllNow.tdc = d.tdc ∧
      d.dpllNow.outs = d.outs ∧ d.dpllNow.num K.hearthDco = d.num K.hearthDco +
        clamp (-(2 ^ 30)) (2 ^ 30) (d.therm.dTarget - d.num K.hearthDco) := by
  obtain ⟨hlast, hclock, hstaged, htdc, houts, -⟩ := d.dpllNoted_frame
  have htarget : d.dpllNoted.therm.dTarget = d.therm.dTarget := rfl
  have hnum := d.dpllNoted_num K.hearthDco
  rw [d.dpllNow_slews hr hm h]
  obtain ⟨htherm, hclock', hstaged', htdc', houts'⟩ := d.dpllNoted.slewD_frame
  have hself := d.dpllNoted.slewD_num_self
  rw [htarget, hnum] at hself
  exact ⟨(congrArg Therm.lastUpdate htherm).trans hlast, hclock'.trans hclock, hstaged'.trans hstaged, htdc'.trans htdc, houts'.trans houts, hself⟩

theorem pull_aside {c c' : Clock} {p : Int} (h : c' = { c with pull := p }) : { c' with pull := 0 } = { c with pull := 0 } ∧ c'.pull = p :=
  ⟨by rw [h], congrArg Clock.pull h⟩

/-- Settles O29: one update holds D and the pull, slews D, or moves the path, D, the pull and the candidate by the loop's law. -/
theorem dpllUpdateFeedsTheRoot : Obligations.DpllUpdateFeedsTheRoot := by
  intro s d n bw err step corr path ask slewed
  have hexec : exec .dpllUpdate s = .next { s with dev := d.dpllNow } := by
    rw [exec_dpllUpdate, State.on, s.dev.dpllUpdate_eq]
  refine ⟨_, hexec, rfl, ?_⟩
  clear_value d
  have habsurd {p : Prop} (h : ¬ (d.rootLocked = true ∧ d.clock.mtRun = true) ∨ (d.selected < 9 ∧ d.refState d.selected ≠ 5)) (hr : d.rootLocked = true)
      (hm : d.clock.mtRun = true) (hn : ¬ (d.selected < 9 ∧ d.refState d.selected ≠ 5)) : p := h.elim (absurd ⟨hr, hm⟩) (absurd · hn)
  by_cases hstand : ¬ (d.rootLocked = true ∧ d.clock.mtRun = true) ∨ (d.selected < 9 ∧ d.refState d.selected ≠ 5)
  · obtain ⟨hlast, hclock, hstaged, htdc, houts, hdco, hinteg⟩ := d.dpllNow_frame_of_stands hstand
    generalize d.dpllNow = t at *
    exact ⟨hlast, (pull_aside hclock).1, hstaged, htdc, houts, fun _ => ⟨hdco, congrArg Clock.pull hclock, hinteg⟩,
      fun hr hm h9 => habsurd hstand hr hm fun h => absurd h.1 (Nat.not_lt.mpr h9), fun hr hm _ h5 => habsurd hstand hr hm fun h => h.2 h5⟩
  obtain ⟨⟨hr, hm⟩, hsel⟩ := not_or.mp hstand |>.imp_left not_not.mp
  by_cases hn : d.selected < 9
  · have h5 : d.refState d.selected = 5 := not_not.mp fun h => hsel ⟨hn, h⟩
    obtain ⟨hlast, hclock, hstaged, htdc, houts, hinteg, hdco, herr, href, hreason⟩ := d.dpllNow_frame_of_selected hr hm hn h5 (path := path) (corr := corr) rfl rfl
    clear_value corr path
    generalize d.dpllNow = t at *
    exact ⟨hlast, (pull_aside hclock).1, hstaged, htdc, houts, fun h => absurd h hstand, fun _ _ h9 => absurd hn (Nat.not_lt.mpr h9),
      fun _ _ _ _ => ⟨hinteg, hdco, (pull_aside hclock).2, herr, href, hreason⟩⟩
  · obtain ⟨hlast, hclock, hstaged, htdc, houts, hdco⟩ := d.dpllNow_frame_of_slews hr hm (Nat.not_lt.mp hn)
    generalize d.dpllNow = t at *
    exact ⟨hlast, (pull_aside hclock).1, hstaged, htdc, houts, fun h => absurd h hstand, fun _ _ _ => ⟨hdco, congrArg Clock.pull hclock⟩,
      fun _ _ h => absurd h hn⟩

end Sys2Proof.Machine
end

section
/-! The reports that stand, as the statements list them (R500). -/

namespace Sys2Proof.Machine

/-- The reports that stand, as code and parameters. -/
def Device.entries (d : Device) : List (Nat × List Int) := d.attic.reports.map (fun r => (r.code, r.p))

/-- What is added behind the reports that stood is what `newReports` lists. -/
theorem newReports_of_entries {d t : Device} {l : List (Nat × List Int)} (h : t.entries = d.entries ++ l) : newReports d t = l := by
  have hlen : d.attic.reports.length = d.entries.length := (List.length_map _).symm
  rw [newReports, List.map_drop, hlen]
  exact (congrArg _ h).trans List.drop_left

theorem Device.entries_of_attic {d e : Device} (h : e.attic = d.attic) : e.entries = d.entries := by rw [Device.entries, h, Device.entries]

section
variable (d : Device)

@[simp] theorem Device.entries_report (code : Nat) (p : List Int) : (d.report code p).entries = d.entries ++ [(code, p)] := List.map_append
@[simp] theorem Device.entries_setNum (k : Nat) (v : Int) : (d.setNum k v).entries = d.entries := (rfl)
@[simp] theorem Device.entries_setOct (k : Nat) (v : Bytes) : (d.setOct k v).entries = d.entries := (rfl)
@[simp] theorem Device.entries_bumpBy (w k m : Nat) : (d.bumpBy w k m).entries = d.entries := (rfl)
@[simp] theorem Device.entries_bump (k : Nat) : (d.bump k).entries = d.entries := (rfl)
@[simp] theorem Device.entries_elapse (n : Nat) : (d.elapse n).entries = d.entries := (rfl)
@[simp] theorem Device.entries_runTo (t : Nat) : (d.runTo t).entries = d.entries := (rfl)
@[simp] theorem Device.entries_setCandU (n : Nat) (f : Cand → Cand) : (d.setCandU n f).entries = d.entries := (rfl)
@[simp] theorem Device.entries_leaveState (n : Nat) : (d.leaveState n).entries = d.entries := (rfl)
@[simp] theorem Device.entries_setTherm (f : Therm → Therm) : (d.setTherm f).entries = d.entries := (rfl)
@[simp] theorem Device.entries_setHold (f : Holdover → Holdover) : (d.setHold f).entries = d.entries := (rfl)

end

end Sys2Proof.Machine
end

section
/-! Chapters 3 and 5: hold-off, wait-to-restore, activity and the lock dwell (R133, R135, R144, R145, R154). -/

namespace Sys2Proof.Machine

theorem exec_holdoffExpiry (s : State) (n : Nat) : exec (.holdoffExpiry n) s = .next (s.on (·.holdoffExpiry n)) := rfl
theorem exec_wtrExpiry (s : State) (n : Nat) : exec (.wtrExpiry n) s = .next (s.on (·.wtrExpiry n)) := rfl
theorem exec_activityTimeout (s : State) (i : Nat) : exec (.activityTimeout i) s = .next (s.on (·.activityTimeout i)) := rfl
theorem exec_lockDwellExpiry (s : State) : exec .lockDwellExpiry s = .next (s.on (·.lockDwell)) := rfl

section
variable (d : Device) {n : Nat}

theorem Device.runTo_refState (t n : Nat) : (d.runTo t).refState n = d.refState n := rfl

/-- Read after write of a candidate's own state. -/
theorem Device.cand_setCandU (f : Cand → Cand) (h : n < d.therm.cands.length) : (d.setCandU n f).cand n = f (d.cand n) := by
  rw [Device.setCandU, Device.cand, updAt, Device.cand, List.getD_eq_getElem _ _ (by simpa using h), List.getD_eq_getElem _ _ h,
    List.getElem_modify, if_pos rfl]

theorem Device.cand_setCandU_ne (f : Cand → Cand) {m : Nat} (h : m ≠ n) : (d.setCandU n f).cand m = d.cand m := by
  rw [Device.setCandU, Device.cand, updAt, Device.cand, List.getD_eq_getElem?_getD, List.getElem?_modify]
  simp [h.symm]

/-- A candidate outside the list reads as one that never was. -/
theorem Device.cand_of_le (h : d.therm.cands.length ≤ n) : d.cand n = {} := List.getD_eq_default _ _ h

theorem Device.setRef_clock (n st : Nat) : (d.setRef n st).clock = d.clock := therm_clock (C := fun _ => true) (d.therm_setRef st rfl)

/-- A change of a candidate's state is reported once (R147). -/
theorem Device.setRef_entries {st : Nat} (h : d.refState n ≠ st) :
    (d.setRef n st).entries = d.entries ++ [(0x0401, [(n : Int), d.refState n, st, d.num (K.thermRefReason n)])] := by
  rw [Device.setRef, if_neg h]
  simp only [apply_ite Device.entries, Device.entries_leaveState, Device.entries_setNum, Device.entries_report, ite_self]

/-- What a change of a candidate's own state keeps of each candidate's, where it keeps that part of any. -/
theorem Device.cand_keeps {α : Type} {p : Cand → α} {f : Cand → Cand} (h : ∀ c, p (f c) = p c) (n m : Nat) : p ((d.setCandU n f).cand m) = p (d.cand m) := by
  by_cases hm : m = n
  · subst hm
    rcases Nat.lt_or_ge m d.therm.cands.length with hlt | hge
    · rw [d.cand_setCandU _ hlt, h]
    · rw [d.cand_of_le hge, Device.cand_of_le _ (by simpa [Device.setCandU, updAt] using hge)]
  · rw [d.cand_setCandU_ne _ hm]

/-- A candidate's state changes of its own only the mark of a refused entry. -/
theorem Device.setRef_cand {α : Type} {p : Cand → α} (h : ∀ c, p { c with r4 := false } = p c) (n st m : Nat) : p ((d.setRef n st).cand m) = p (d.cand m) := by
  have hset (e : Device) (k : Nat) (v : Int) : ((e.setNum k v).cand m) = e.cand m := rfl
  unfold Device.setRef
  dsimp only
  split
  · rfl
  · split
    · rw [Device.leaveState, Device.cand_keeps _ h, hset]
      rfl
    · rfl

theorem Device.holdoffExpiry_eq (h6 : d.refState n = 6) (hr : d.rootLocked = true) (hn : n < 9) :
    d.holdoffExpiry n = (d.runTo (d.cand n).holdDue).setRef n 1 :=
  if_neg (by simp [h6, hr, hn])

theorem Device.wtrExpiry_eq (h3 : d.refState n = 3) (hr : d.rootLocked = true) (hn : n < 9) :
    d.wtrExpiry n = (d.runTo (d.cand n).wtrDue).setRef n 4 :=
  if_neg (by simp [h3, hr, hn])

/-! ## Activity -/

theorem thermRefReason_ne_state (m n : Nat) : K.thermRefReason m ≠ K.thermRefState n := by
  simp only [K.thermRefReason, K.thermRefState]
  omega

/-- R144, R145: what the loss of a candidate's activity makes of it. -/
theorem Device.activityAbsent_frame (hr : d.rootLocked = true) (h0 : d.refState n ≠ 0) (ha : (d.cand n).active = true) (hn : n < d.therm.cands.length) :
    let t := d.activityAbsent n
    t.nat (K.thermRefReason n) = 1 ∧ (t.cand n).active = false
      ∧ t.refState n = (if (d.refState n = 4 ∨ d.refState n = 5) ∧ d.nat K.thermHoldoff ≠ 0 then 6 else 1)
      ∧ ∀ m, m ≠ n → t.refState m = d.refState m := by
  intro t
  have ht : ∃ x : Device, x.nat (K.thermRefReason n) = 1 ∧ (x.cand n).active = false ∧ (∀ m, x.refState m = d.refState m) ∧
      t = x.setRef n (if (d.refState n = 4 ∨ d.refState n = 5) ∧ d.nat K.thermHoldoff ≠ 0 then 6 else 1) := by
    refine ⟨(d.setNum (K.thermRefReason n) 1).setCandU n (fun c => { c with
      active := false, holdFrom := d.refState n, activityLost := d.clock.ticks, goneSince := d.clock.ticks, returned := false, b0 := d.phaseSpread
      holdDue := d.clock.ticks + d.nat K.thermHoldoff * msTicks }), ?_, ?_, fun m => ?_, ?_⟩
    · rw [Device.setCandU_nat, Device.nat_setNum_self]
      rfl
    · rw [Device.cand_setCandU _ _ (by rwa [Device.setNum_therm])]
    · rw [Device.refState, Device.setCandU_nat, Device.nat_setNum, if_neg (thermRefReason_ne_state n m).symm]
      rfl
    · show d.activityAbsent n = _
      rw [Device.activityAbsent, if_neg (by simp [hr, h0, ha])]
      dsimp only
      generalize (d.setNum (K.thermRefReason n) 1).setCandU n _ = x
      by_cases h45 : d.refState n = 4 ∨ d.refState n = 5
      · rw [if_pos (by simpa using h45)]
        by_cases hz : d.nat K.thermHoldoff = 0 <;> simp [hz, h45]
      · rw [if_neg (by simpa using h45), if_neg (fun h => h45 h.1)]
  obtain ⟨x, hreason, hactive, hstate, hx⟩ := ht
  rw [hx]
  refine ⟨?_, ?_, x.refState_setRef_self n _, fun m hm => ?_⟩
  · rw [x.nat_setRef_ne _ _ (thermRefReason_ne_state n n), hreason]
  · rw [x.setRef_cand (p := Cand.active) fun _ => rfl, hactive]
  · rw [Device.refState, x.nat_setRef_ne _ _ (thermRefState_ne hm)]
    exact hstate m

/-- The activity monitor reads a source that is not active. -/
theorem Device.setSource_false : d.setSource n false = (d.setCandU n (fun c => { c with src := false })).activityAbsent n := by
  have h : ((d.setCandU n (fun c => { c with src := false })).cand n).src = false := by
    rcases Nat.lt_or_ge n d.therm.cands.length with hn | hn
    · rw [d.cand_setCandU _ hn]
    · rw [Device.cand_of_le _ (by simpa [Device.setCandU, updAt] using hn)]
  rw [Device.setSource, Device.syncActivity, h]
  rfl

/-- R133, R135: an input with no activity leaves its candidate, a pair's for either member, with none. -/
theorem Device.refinOn_of_quiet {i : Nat} (h : d.num (K.refinActivity i) = 0) : d.refinOn i = false := by
  rw [Device.refinOn]
  split
  · rcases Nat.mod_two_eq_zero_or_one i with hi | hi
    · rw [show i / 2 * 2 = i by omega, h]
      rfl
    · rw [show i / 2 * 2 + 1 = i by omega, h]
      exact Bool.and_false _
  · rw [h]
    rfl

theorem refinActivity_ne {i : Nat} (hi : i < 4) (n : Nat) (hn : n ≤ 4) :
    K.refinActivity i ≠ K.thermRefState n ∧ K.refinActivity i ≠ K.thermRefReason n ∧ K.refinActivity i ≠ K.thermHoldoff ∧ K.refinActivity i ≠ K.hearthLock := by
  have : ∀ i < 4, ∀ n ≤ 4, K.refinActivity i ≠ K.thermRefState n ∧ K.refinActivity i ≠ K.thermRefReason n ∧ K.refinActivity i ≠ K.thermHoldoff ∧
    K.refinActivity i ≠ K.hearthLock := by decide
  exact this i hi n hn

theorem Device.refinCand_le {i : Nat} (hi : i < 4) : d.refinCand i ≤ 4 := by
  rw [Device.refinCand]
  split <;> omega

/-- The part as input i's activity has ended, and its candidate's source with it. -/
def Device.quieted (d : Device) (i : Nat) : Device :=
  (d.setNum (K.refinActivity i) 0).setCandU (d.refinCand i) (fun c => { c with src := false })

theorem refinPair_ne (i j : Nat) (hi : i < 4) (hj : j < 4) : K.refinPair j ≠ K.refinActivity i := by
  have : ∀ i < 4, ∀ j < 4, K.refinPair j ≠ K.refinActivity i := by decide
  exact this i hi j hj

theorem Device.refinSource_of_quiet {i : Nat} (hi : i < 4) :
    (d.setNum (K.refinActivity i) 0).refinSource i = (d.quieted i).activityAbsent (d.refinCand i) := by
  have hcand : (d.setNum (K.refinActivity i) 0).refinCand i = d.refinCand i := by
    rw [Device.refinCand, Device.pairPartner, Device.num_setNum, if_neg (refinPair_ne i (i - 1) hi (by omega))]
    rfl
  rw [Device.refinSource, Device.refinOn_of_quiet _ (Device.num_setNum_self _ _ _), Device.setSource_false, hcand]
  rfl

theorem Device.activityTimeout_eq {i : Nat} (hi : i < 4) (ha : d.num (K.refinActivity i) ≠ 0) (hr : d.rootLocked = true) :
    d.activityTimeout i = (let x := d.runTo (ceilDiv ((d.cand (i + 1)).lastEdge + 1500000000000 / d.nat (K.refinFreq i) + 1) 800)
      (x.quieted i).activityAbsent (x.refinCand i)) := by
  rw [Device.activityTimeout, if_neg (by simp [ha, hr, hi])]
  exact Device.refinSource_of_quiet _ hi

theorem Device.quieted_nat_ne {i k : Nat} (h : k ≠ K.refinActivity i) : (d.quieted i).nat k = d.nat k := by
  rw [Device.quieted, Device.setCandU_nat, Device.nat_setNum, if_neg h]

theorem Device.quieted_cand {i : Nat} (m : Nat) : ((d.quieted i).cand m).active = (d.cand m).active := by
  exact Device.cand_keeps (p := Cand.active) (f := fun c => { c with src := false }) (d.setNum (K.refinActivity i) 0) (fun _ => rfl) _ m

theorem Device.quieted_therm_length {i : Nat} : (d.quieted i).therm.cands.length = d.therm.cands.length := by
  simp [Device.quieted, Device.setCandU, updAt]

/-- The end of an input's activity. -/
theorem Device.quieted_absent {i : Nat} (hi : i < 4) (hr : d.rootLocked = true) :
    let n := d.refinCand i
    let t := (d.quieted i).activityAbsent n
    t.clock = d.clock ∧ t.num (K.refinActivity i) = 0 ∧ (d.therm.cands.length = 9 → (d.cand n).active = true → d.refState n ≠ 0 →
      t.nat (K.thermRefReason n) = 1 ∧ (t.cand n).active = false
        ∧ t.refState n = (if (d.refState n = 4 ∨ d.refState n = 5) ∧ d.nat K.thermHoldoff ≠ 0 then 6 else 1)
        ∧ ∀ m, m ≠ n → t.refState m = d.refState m) := by
  intro n t
  obtain ⟨hs, hre, hho, hlk⟩ := refinActivity_ne hi n (d.refinCand_le hi)
  have hb : t.beside thermBlank (fun k => k = K.thermRefState n || k = K.thermRefReason n) =
      (d.quieted i).beside thermBlank (fun k => k = K.thermRefState n || k = K.thermRefReason n) :=
    Device.therm_activityAbsent _ (by simp) (by simp)
  have hstate (m : Nat) : (d.quieted i).refState m = d.refState m := by
    refine d.quieted_nat_ne ?_
    simp only [K.thermRefState, K.refinActivity]
    omega
  refine ⟨(therm_clock hb).trans rfl, (num_of_beside hb (by simp [hs, hre])).trans (Device.num_setNum_self _ _ _), fun hlen ha h0 => ?_⟩
  have hlocked : (d.quieted i).rootLocked = true := by
    rw [Device.rootLocked, d.quieted_nat_ne hlk.symm]
    exact hr
  have h := (d.quieted i).activityAbsent_frame (n := n) hlocked (by rwa [hstate]) (by rwa [d.quieted_cand])
    (by rw [d.quieted_therm_length, hlen]; exact Nat.lt_of_le_of_lt (d.refinCand_le hi) (by decide))
  simp only [hstate, d.quieted_nat_ne hho.symm] at h
  exact h

/-! ## The lock dwell -/

theorem Device.lockCond_iff : (d.lockCond && d.rootLocked) = true ↔ d.nat K.mtState = 2 ∧ d.timeSelected = true
    ∧ (d.num K.thermPhaseErr).natAbs + d.clock.pull.natAbs / 2 ^ 32 ≤ d.nat K.thermLockThresh * 65536
    ∧ (d.num (K.thermRefFreq d.selected)).natAbs ≤ d.nat K.thermAccept ∧ d.rootLocked = true := by
  simp only [Device.lockCond, Bool.and_eq_true, decide_eq_true_eq, and_assoc]
  rfl

/-- The part as the lock is declared. -/
def Device.lockDeclared (d : Device) : Device :=
  ((d.setTherm (fun t => { t with lockSince := none })).report 0x0405 [d.selected, sat32 (d.num K.thermPhaseErr / 65536)]).setTimeState 3

/-- The dwell's end at this tick. -/
def Device.lockJudged (d : Device) : Device := if d.lockCond && d.rootLocked then d.lockDeclared else d

theorem Device.lockDwell_of_some {since : Nat} (h : d.therm.lockSince = some since) :
    d.lockDwell = (d.runTo (since + d.nat K.thermLockTime * sTicks)).lockJudged := by
  rw [Device.lockDwell, h]
  rfl

theorem Device.setTimeState_three (h : d.nat K.mtState ≠ 3) : d.setTimeState 3 =
    (((d.setNum K.mtState 3).setNum K.mtStateSince d.mt16).report 0x0701 [d.num K.mtState, 3]).setNum K.mtEverLocked 1 := by
  rw [Device.setTimeState, if_neg h]
  rfl

/-- R79, R81, R154: MT enters T3 for the first time, or again. -/
theorem Device.lockDeclared_frame (h : d.nat K.mtState = 2) :
    d.lockDeclared.clock = d.clock ∧ d.lockDeclared.nat K.mtState = 3 ∧ d.lockDeclared.everLocked = true ∧ d.lockDeclared.nat K.mtStateSince = d.mt16 ∧
      d.lockDeclared.therm = { d.therm with lockSince := none } ∧
      d.lockDeclared.entries = d.entries ++ [(0x0405, [(d.selected : Int), sat32 (d.num K.thermPhaseErr / 65536)]), (0x0701, [d.num K.mtState, 3])] ∧
      ∀ k, k ≠ K.mtState → k ≠ K.mtStateSince → k ≠ K.mtEverLocked → d.lockDeclared.val k = d.val k := by
  rw [Device.lockDeclared]
  have hx : ((d.setTherm (fun t => { t with lockSince := none })).report 0x0405 [d.selected, sat32 (d.num K.thermPhaseErr / 65536)]).entries =
    d.entries ++ [(0x0405, [(d.selected : Int), sat32 (d.num K.thermPhaseErr / 65536)])] := by simp
  have hval (k : Nat) : ((d.setTherm (fun t => { t with lockSince := none })).report 0x0405
    [d.selected, sat32 (d.num K.thermPhaseErr / 65536)]).val k = d.val k := rfl
  have hth : ((d.setTherm (fun t => { t with lockSince := none })).report 0x0405 [d.selected, sat32 (d.num K.thermPhaseErr / 65536)]).therm =
    { d.therm with lockSince := none } := rfl
  have hcl : ((d.setTherm (fun t => { t with lockSince := none })).report 0x0405 [d.selected, sat32 (d.num K.thermPhaseErr / 65536)]).clock =
    d.clock := rfl
  generalize (d.setTherm (fun t => { t with lockSince := none })).report 0x0405 [d.selected, sat32 (d.num K.thermPhaseErr / 65536)] = x at *
  have hnum (k : Nat) : x.num k = d.num k := congrArg Val.int (hval k)
  have hmt : x.mt16 = d.mt16 := congrArg (fun c => c.mt / fracU) hcl
  rw [x.setTimeState_three (by rw [Device.nat, hnum]; exact fun h3 => absurd (h.symm.trans h3) (by decide)), hnum, hmt]
  refine ⟨hcl, ?_, ?_, ?_, hth, ?_, fun k h1 h2 h3 => ?_⟩
  · rw [Device.nat_setNum, if_neg (by decide), Device.report_nat, Device.nat_setNum, if_neg (by decide), Device.nat_setNum_self]
    rfl
  · rw [Device.everLocked, Device.num_setNum_self]
    rfl
  · rw [Device.nat_setNum, if_neg (by decide), Device.report_nat, Device.nat_setNum_self, Int.toNat_natCast]
  · rw [Device.entries_setNum, Device.entries_report, Device.entries_setNum, Device.entries_setNum, hx, List.append_assoc]
    rfl
  · rw [Device.setNum, Device.val_setVal_ne _ _ h3, Device.report_val, Device.setNum, Device.val_setVal_ne _ _ h2, Device.setNum,
      Device.val_setVal_ne _ _ h1, hval]

end

/-- Settles O30: each timer moves its candidate, or MT, by one change of state, or lets time pass alone. -/
theorem timersMoveCandidatesAndDeclareLock : Obligations.TimersMoveCandidatesAndDeclareLock := by
  refine ⟨fun s n hn => ⟨fun h6 hr => ?_, fun h3 hr => ?_, fun hr => ?_⟩, fun s i hi ha hr => ?_, fun s h => ?_, fun s since h => ?_⟩
  · rw [exec_holdoffExpiry, State.on, s.dev.holdoffExpiry_eq h6 hr hn]
    have hst := s.dev.runTo_refState (s.dev.cand n).holdDue n
    refine ⟨_, rfl, rfl, Device.refState_setRef_self _ _ _, Device.setRef_clock _ _ _, newReports_of_entries ?_, fun k hk => Device.val_setRef_ne _ _ _ hk⟩
    rw [Device.setRef_entries _ (by rw [hst, h6]; decide), hst, h6, Device.entries_runTo, Device.runTo_num]
    rfl
  · rw [exec_wtrExpiry, State.on, s.dev.wtrExpiry_eq h3 hr hn]
    have hst := s.dev.runTo_refState (s.dev.cand n).wtrDue n
    refine ⟨_, rfl, rfl, Device.refState_setRef_self _ _ _, Device.setRef_clock _ _ _, newReports_of_entries ?_, fun k hk => Device.val_setRef_ne _ _ _ hk⟩
    rw [Device.setRef_entries _ (by rw [hst, h3]; decide), hst, h3, Device.entries_runTo, Device.runTo_num]
    rfl
  · rw [exec_holdoffExpiry, exec_wtrExpiry, exec_activityTimeout, State.on, State.on, State.on, Device.holdoffExpiry, Device.wtrExpiry,
      Device.activityTimeout, if_pos (by simp [hr]), if_pos (by simp [hr]), if_pos (by simp [hr])]
    exact ⟨rfl, rfl, rfl⟩
  · intro n d
    rw [exec_activityTimeout, State.on, s.dev.activityTimeout_eq hi ha hr]
    obtain ⟨hclock, hact, hcand⟩ := d.quieted_absent hi hr
    exact ⟨_, rfl, rfl, hclock, hact, hcand⟩
  · rw [exec_lockDwellExpiry, State.on, Device.lockDwell, h]
  · intro d held
    rw [exec_lockDwellExpiry, State.on, s.dev.lockDwell_of_some h]
    have hd : d.entries = s.dev.entries ∧ ∀ k, d.val k = s.dev.val k := ⟨Device.entries_runTo _ _, Device.runTo_val _ _⟩
    show (¬ held → Host.Outcome.next { s with dev := d.lockJudged } = _) ∧ (held → ∃ t, Host.Outcome.next { s with dev := d.lockJudged } = _ ∧ _)
    clear_value d
    refine ⟨fun hno => ?_, fun hyes => ?_⟩
    · rw [Device.lockJudged, if_neg (mt d.lockCond_iff.mp hno)]
    · obtain ⟨hclock, hstate, hever, hsince, htherm, hentries, hval⟩ := d.lockDeclared_frame hyes.1
      rw [hd.1] at hentries
      simp only [hd.2] at hval
      rw [Device.lockJudged, if_pos (d.lockCond_iff.mpr hyes)]
      exact ⟨_, rfl, rfl, hclock, hstate, hever, hsince, htherm, newReports_of_entries hentries, hval⟩

end Sys2Proof.Machine
end

section
/-! Chapter 5: the frequency monitor and the phase monitor (R134, R136 to R140, R147). -/

namespace Sys2Proof.Machine

theorem exec_freqMonitor (s : State) : exec (.freqMonitor ()) s = .next (s.on (·.freqMonitor)) := rfl
theorem exec_candidatePhaseMeasurement (s : State) (n : Nat) (stuck : List (Nat × Nat)) :
    exec (.candidatePhaseMeasurement n stuck ()) s = .next (s.on (·.phaseArrives n stuck)) := rfl

section
variable (d : Device) {n : Nat}

/-! ## The entry of a candidate -/

/-- The part once the phase monitor has looked at candidate n: a pass ends a refused entry. -/
def Device.looked (d : Device) (n : Nat) : Device := if d.phaseOk n then d.setCandU n (fun c => { c with r4 := false }) else d

/-- A look changes of each candidate's own state only the mark of a refused entry. -/
theorem Device.looked_cand {α : Type} {p : Cand → α} (h : ∀ c, p { c with r4 := false } = p c) (m : Nat) : p ((d.looked n).cand m) = p (d.cand m) := by
  rw [Device.looked]
  split
  · exact d.cand_keeps h n m
  · rfl

theorem Device.looked_frame : (d.looked n).obj = d.obj ∧ (d.looked n).attic = d.attic ∧ (d.looked n).clock = d.clock ∧ (d.looked n).hold = d.hold ∧
    (d.looked n).therm = { d.therm with cands := (d.looked n).therm.cands } := by
  rw [Device.looked]
  split <;> exact ⟨rfl, rfl, rfl, rfl, rfl⟩

theorem Device.looked_refState (m : Nat) : (d.looked n).refState m = d.refState m := nat_of_obj d.looked_frame.1 _

theorem Device.looked_phaseOk : (d.looked n).phaseOk n = d.phaseOk n := by
  rw [Device.looked]
  split <;> rfl

theorem Device.looked_acceptLimit : (d.looked n).acceptLimit = d.acceptLimit := by
  rw [Device.looked]
  split <;> rfl

theorem Device.looked_everLocked : (d.looked n).everLocked = d.everLocked := by
  rw [Device.looked]
  split <;> rfl

theorem Device.looked_freqOk : (d.looked n).freqOk n = d.freqOk n := by
  rw [Device.freqOk, Device.freqOk, d.looked_acceptLimit, d.looked_refState, d.looked_cand (p := Cand.hasFreq) fun _ => rfl,
    num_of_obj d.looked_frame.1]

/-- A candidate beyond its entry is only looked at. -/
theorem Device.qualify_of_entered (h2 : d.refState n ≠ 2) (h3 : d.refState n ≠ 3) : d.qualify n = d.looked n := by
  have hq : d.qualify n = if (d.looked n).refState n = 2 then _ else if (d.looked n).refState n = 3 then _ else d.looked n := rfl
  rw [hq, if_neg (by rwa [d.looked_refState]), if_neg (by rwa [d.looked_refState])]

/-- A candidate in QUALIFYING that the frequency monitor does not pass stays. -/
theorem Device.qualify_of_freq_refused (h2 : d.refState n = 2) (hf : d.freqOk n = false) : d.qualify n = d.looked n := by
  have hq : d.qualify n = if (d.looked n).refState n = 2 then
      (if (d.looked n).freqOk n && (d.looked n).phaseOk n && ((d.looked n).cand n).active then _
      else if (d.looked n).freqOk n && !(d.looked n).phaseOk n then _ else d.looked n) else _ := rfl
  rw [hq, if_pos (by rwa [d.looked_refState]), if_neg (by simp [d.looked_freqOk, hf]), if_neg (by simp [d.looked_freqOk, hf])]

/-- One that both monitors pass goes on. -/
theorem Device.qualify_refState (h2 : d.refState n = 2) (hf : d.freqOk n = true) (hp : d.phaseOk n = true) (ha : (d.cand n).active = true) :
    (d.qualify n).refState n = if d.everLocked then 3 else 4 := by
  have hq : d.qualify n = if (d.looked n).refState n = 2 then
      (if (d.looked n).freqOk n && (d.looked n).phaseOk n && ((d.looked n).cand n).active then
        (if (d.looked n).everLocked then ((d.looked n).setRef n 3).setCandU n (fun c => { c with
          wtrDue := (d.looked n).clock.ticks + (d.looked n).nat K.thermWtr * sTicks })
        else (d.looked n).setRef n 4) else _) else _ := rfl
  rw [hq, if_pos (by rwa [d.looked_refState]),
    if_pos (by rw [d.looked_freqOk, d.looked_phaseOk, d.looked_cand (p := Cand.active) fun _ => rfl, hf, hp, ha]; rfl), d.looked_everLocked]
  split
  · exact Device.refState_setRef_self _ n 3
  · exact Device.refState_setRef_self _ n 4

/-! ## A full gate -/

theorem thermRefFreq_ne (m : Nat) : K.thermRefFreq n ≠ K.thermRefState m ∧ K.thermRefFreq n ≠ K.thermRefReason m := by
  simp only [K.thermRefFreq, K.thermRefState, K.thermRefReason]
  omega

/-- The part as candidate n's frequency is published. -/
def Device.freqRead (d : Device) (n : Nat) (abs : Int) (resid : Nat) : Device :=
  (d.setNum (K.thermRefFreq n) (abs - d.prediction)).setCandU n (fun c => { c with hasFreq := true, freqAbs := abs, resid := resid })

/-- R137, R140: candidate n's published frequency, at offset r from the prediction, is held against the limits. -/
def Device.freqJudged (d : Device) (n : Nat) (r : Int) : Device :=
  if (d.refState n = 4 || d.refState n = 5) && d.rejectLimit < r.natAbs then d.disqualify n 2 (sat32 (milliPpb r)) else d.qualify n

theorem Device.freqReading_eq {abs : Int} {resid : Nat} (h0 : d.refState n ≠ 0) (ha : (d.cand n).active = true)
    (hg : (d.cand n).gateStart + d.nat K.thermFreqGate * sTicks ≤ d.gateNow n) (hr : d.regress n = some (abs, resid)) :
    d.freqReading n = (d.freqRead n abs resid).freqJudged n (abs - d.prediction) := by
  rw [Device.freqReading, if_neg (by simp [h0, ha, hg]), hr]
  rfl

section
variable (abs : Int) (resid : Nat)

theorem Device.freqRead_nat {k : Nat} (h : k ≠ K.thermRefFreq n) : (d.freqRead n abs resid).nat k = d.nat k := by
  rw [Device.freqRead, Device.setCandU_nat, Device.nat_setNum, if_neg h]

theorem Device.freqRead_num {k : Nat} (h : k ≠ K.thermRefFreq n) : (d.freqRead n abs resid).num k = d.num k := by
  rw [Device.freqRead, Device.setCandU_num, Device.num_setNum, if_neg h]

theorem Device.freqRead_refState (m : Nat) : (d.freqRead n abs resid).refState m = d.refState m := d.freqRead_nat _ _ (thermRefFreq_ne m).1.symm

theorem Device.freqRead_frame : (d.freqRead n abs resid).clock = d.clock ∧ (d.freqRead n abs resid).hold = d.hold ∧
    (d.freqRead n abs resid).therm.everSelected = d.therm.everSelected ∧ (d.freqRead n abs resid).entries = d.entries ∧
    (d.freqRead n abs resid).num (K.thermRefFreq n) = abs - d.prediction :=
  ⟨rfl, rfl, rfl, rfl, by rw [Device.freqRead, Device.setCandU_num, Device.num_setNum_self]⟩

/-- The settings and states that the monitors read besides a candidate's frequency. -/
def monitorKeys : List Nat := [K.hoModelState, K.thermAcqLimit, K.thermAccept, K.thermReject, K.mtState, K.thermPhaseQual, K.hoBound,
  K.thermPhaseErr, K.mtEverLocked]

theorem monitorKeys_ne {k : Nat} (hn : n < 9) (h : k ∈ monitorKeys) : k ≠ K.thermRefFreq n := by
  have : ∀ n < 9, ∀ k ∈ monitorKeys, k ≠ K.thermRefFreq n := by decide
  exact this n hn k h

theorem Device.freqRead_limits (hn : n < 9) : (d.freqRead n abs resid).acceptLimit = d.acceptLimit ∧ (d.freqRead n abs resid).rejectLimit = d.rejectLimit := by
  have hk {k : Nat} (h : k ∈ monitorKeys) := d.freqRead_nat abs resid (monitorKeys_ne hn h)
  have he := (d.freqRead_frame (n := n) abs resid).2.2.1
  simp only [Device.acceptLimit, Device.rejectLimit, Device.acquiring, he, hk (k := K.hoModelState) (by decide), hk (k := K.thermAcqLimit) (by decide),
    hk (k := K.thermAccept) (by decide), hk (k := K.thermReject) (by decide)]
  exact ⟨rfl, rfl⟩

theorem Device.freqRead_everLocked (hn : n < 9) : (d.freqRead n abs resid).everLocked = d.everLocked := by
  rw [Device.everLocked, d.freqRead_num _ _ (monitorKeys_ne hn (by decide)), Device.everLocked]

theorem Device.freqRead_timeCapable : (d.freqRead n abs resid).timeCapable n = d.timeCapable n := by
  have h1 : K.refinFreq (n - 1) ≠ K.thermRefFreq n := by simp only [K.refinFreq, K.thermRefFreq]; omega
  have h2 : K.refinPair (n - 1) ≠ K.thermRefFreq n := by simp only [K.refinPair, K.thermRefFreq]; omega
  rw [Device.timeCapable, d.freqRead_nat _ _ h1, d.freqRead_num _ _ h2, Device.timeCapable]

theorem Device.freqRead_phaseOk (hn : n < 9) : (d.freqRead n abs resid).phaseOk n = d.phaseOk n := by
  have hk {k : Nat} (h : k ∈ monitorKeys) := d.freqRead_nat abs resid (monitorKeys_ne hn h)
  have hi {k : Nat} (h : k ∈ monitorKeys) := d.freqRead_num abs resid (monitorKeys_ne hn h)
  have hp : K.thermRefPhase n ≠ K.thermRefFreq n := by simp only [K.thermRefPhase, K.thermRefFreq]; omega
  obtain ⟨hclock, hhold, -, -, -⟩ := d.freqRead_frame (n := n) abs resid
  have hspread : (d.freqRead n abs resid).phaseSpread = d.phaseSpread := by
    rw [Device.phaseSpread, hi (by decide), hclock, Device.phaseSpread]
  have hbound : (d.freqRead n abs resid).boundB = d.boundB := by
    rw [Device.boundB, Device.hoBound, hspread, hhold, hk (by decide), hk (by decide), Device.boundB, Device.hoBound]
  rw [Device.phaseOk, hbound, d.freqRead_timeCapable, d.freqRead_num _ _ hp, hk (by decide), hk (by decide), Device.phaseOk]

end

/-- The objects that a reading of candidate n's frequency can change. -/
def readingKey (n k : Nat) : Bool := k = K.thermRefState n || k = K.thermRefReason n

theorem readingKey_false {k : Nat} (hs : k ≠ K.thermRefState n) (hr : k ≠ K.thermRefReason n) : readingKey n k = false := by simp [readingKey, hs, hr]

theorem readingKey_true : readingKey n (K.thermRefState n) = true ∧ readingKey n (K.thermRefReason n) = true := by simp [readingKey]

theorem Device.freqJudged_beside (r : Int) : (d.freqJudged n r).beside thermBlank (readingKey n) = d.beside thermBlank (readingKey n) := by
  rw [Device.freqJudged, apply_ite (Device.beside thermBlank (readingKey n)), Device.therm_disqualify _ _ _ readingKey_true.1 readingKey_true.2,
    Device.therm_qualify _ readingKey_true.1 readingKey_true.2, ite_self]

theorem Device.freqJudged_of_beyond {r : Int} (h : (d.refState n = 4 ∨ d.refState n = 5) ∧ d.rejectLimit < r.natAbs) :
    d.freqJudged n r = d.disqualify n 2 (sat32 (milliPpb r)) := if_pos (by simpa using h)

theorem Device.freqJudged_of_within {r : Int} (h : ¬ ((d.refState n = 4 ∨ d.refState n = 5) ∧ d.rejectLimit < r.natAbs)) :
    d.freqJudged n r = d.qualify n := if_neg (by simpa using h)

/-- A disqualified candidate's reports (R137). -/
theorem Device.disqualify_entries (reason : Nat) (p2 : Int) (h : d.refState n ≠ 2) : (d.disqualify n reason p2).entries =
    d.entries ++ [(0x0403, [(n : Int), reason, p2]), (0x0401, [(n : Int), d.refState n, 2, reason])] := by
  have hst : ((d.setNum (K.thermRefReason n) reason).report 0x0403 [n, reason, p2]).refState n = d.refState n := by
    rw [Device.refState, Device.report_nat, Device.nat_setNum, if_neg (thermRefReason_ne_state n n).symm]
    rfl
  rw [Device.disqualify, Device.entries_setCandU, Device.setRef_entries _ (by rwa [hst]), hst, Device.report_num, Device.num_setNum_self,
    Device.entries_report, Device.entries_setNum, List.append_assoc]
  rfl

/-- R136, R137: a reading over a full gate. -/
theorem Device.freqReading_frame {abs : Int} {resid : Nat} (hn : n < 9) (hlen : d.therm.cands.length = 9) (h0 : d.refState n ≠ 0)
    (ha : (d.cand n).active = true) (hg : (d.cand n).gateStart + d.nat K.thermFreqGate * sTicks ≤ d.gateNow n) (hr : d.regress n = some (abs, resid)) :
    let r := abs - d.prediction
    let t := d.freqReading n
    t.clock = d.clock ∧ t.num (K.thermRefFreq n) = r
      ∧ (∀ k, k ≠ K.thermRefFreq n → k ≠ K.thermRefState n → k ≠ K.thermRefReason n → t.val k = d.val k)
      ∧ (d.refState n = 4 ∨ d.refState n = 5 → t.refState n = (if d.rejectLimit < r.natAbs then 2 else d.refState n)
          ∧ (d.rejectLimit < r.natAbs → t.nat (K.thermRefReason n) = 2
              ∧ newReports d t = [(0x0403, [(n : Int), 2, sat32 (milliPpb r)]), (0x0401, [(n : Int), d.refState n, 2, 2])]))
      ∧ (d.refState n = 2 → d.phaseOk n = true → t.refState n = (if r.natAbs ≤ d.acceptLimit then (if d.everLocked then 3 else 4) else 2)) := by
  intro r t
  have hactive : ((d.freqRead n abs resid).cand n).active = true := (Device.cand_keeps (p := Cand.active)
    (f := fun c => { c with hasFreq := true, freqAbs := abs, resid := resid }) (d.setNum (K.thermRefFreq n) r) (fun _ => rfl) n n).trans ha
  have hhas : ((d.freqRead n abs resid).cand n).hasFreq = true := by
    rw [Device.freqRead, Device.cand_setCandU _ _ (by rw [Device.setNum_therm, hlen]; exact hn)]
  have hval {k : Nat} (h : k ≠ K.thermRefFreq n) : (d.freqRead n abs resid).val k = d.val k := Device.val_setVal_ne _ _ h
  have hst := d.freqRead_refState (n := n) abs resid n
  obtain ⟨hacc, hrej⟩ := d.freqRead_limits abs resid hn
  have hever := d.freqRead_everLocked abs resid hn
  have hphase := d.freqRead_phaseOk abs resid hn
  obtain ⟨hclock, -, -, hentries, hfreq⟩ := d.freqRead_frame (n := n) abs resid
  replace hfreq : (d.freqRead n abs resid).num (K.thermRefFreq n) = r := hfreq
  have ht : t = (d.freqRead n abs resid).freqJudged n r := d.freqReading_eq h0 ha hg hr
  rw [ht]
  clear_value t r
  generalize d.freqRead n abs resid = x at *
  have hb := x.freqJudged_beside (n := n) r
  refine ⟨(therm_clock hb).trans hclock, (num_of_beside hb (readingKey_false (thermRefFreq_ne n).1 (thermRefFreq_ne n).2)).trans hfreq,
    fun k h1 h2 h3 => (val_of_beside hb (readingKey_false h2 h3)).trans (hval h1), fun h45 => ?_, fun h2 hp => ?_⟩
  · have h2 : x.refState n ≠ 2 := by rw [hst]; omega
    have h3 : x.refState n ≠ 3 := by rw [hst]; omega
    by_cases hbig : d.rejectLimit < r.natAbs
    · rw [x.freqJudged_of_beyond (by rw [hst, hrej]; exact ⟨h45, hbig⟩), if_pos hbig, x.disqualify_refState]
      refine ⟨rfl, fun _ => ⟨x.disqualify_reason n 2 _, newReports_of_entries ?_⟩⟩
      rw [x.disqualify_entries 2 _ h2, hentries, hst]
      rfl
    · rw [x.freqJudged_of_within (by rw [hrej]; exact fun h => hbig h.2), if_neg hbig, x.qualify_of_entered h2 h3, x.looked_refState, hst]
      exact ⟨rfl, fun h => absurd h hbig⟩
  · rw [x.freqJudged_of_within (by rw [hst, h2]; simp)]
    have hok : x.freqOk n = Decidable.decide (r.natAbs ≤ d.acceptLimit) := by
      rw [Device.freqOk, hhas, hfreq, hacc]
      rfl
    by_cases hsmall : r.natAbs ≤ d.acceptLimit
    · rw [x.qualify_refState (hst.trans h2) (by rw [hok]; exact decide_eq_true hsmall) (hphase.trans hp) hactive, hever, if_pos hsmall]
    · rw [x.qualify_of_freq_refused (hst.trans h2) (by rw [hok]; exact decide_eq_false hsmall), x.looked_refState, hst, if_neg hsmall, h2]

/-! ## A phase measurement -/

/-- The part as a measurement of candidate n of steady phase q is kept. -/
def Device.phaseKept (d : Device) (n : Nat) (m : PhaseIn) (q : Int) : Device :=
  (d.setNum (K.thermRefPhase n) (nearestPhase n (q - d.mtMoved))).setCandU n (fun c => { c with lastPhase := some (q, m.tick, m.dco), phaseMt := m.mt16 })

/-- R138: the phase of candidate n in state st, published as p, jumps or does not. -/
def Device.jumpJudged (d : Device) (n st : Nat) (p : Int) (jump : Bool) : Device :=
  if !jump then d.setCandU n (fun c => { c with returned := false })
  else (if st = 4 || st = 5 || st = 6 then d.disqualify n 3 (sat32 (p / 65536)) else if st = 3 then d.setRef n 2 else d).restartGate n

/-- A candidate's regression takes a phase as a measurement, but a REFIN's takes its own. -/
def Device.phasePoint (d : Device) (n : Nat) (m : PhaseIn) (q : Int) : Device :=
  if 1 ≤ n && n ≤ 4 then d else d.addPoint n ((m.tick * 4 * 65536 / 5 : Nat) + q) ((m.tick * 4 * 65536 / 5 : Nat) - dco16 m.dco)

/-- The part as a measurement of candidate n of steady phase q has passed its monitors. -/
def Device.phasePassed (d : Device) (n : Nat) (m : PhaseIn) (q : Int) : Device :=
  (((d.phaseKept n m q).jumpJudged n (d.refState n) (nearestPhase n (q - d.mtMoved)) (d.isJump m q)).phasePoint n m q).qualify n

/-- R138 to R140: a measurement of a candidate that is not selected ends with its monitors. -/
theorem Device.phaseMeasured_eq (m : PhaseIn) (stuck : List (Nat × Nat)) (hm : m.cand = n) (hn : n < 9) (hr : d.rootLocked = true) (h0 : d.refState n ≠ 0)
    (ha : (d.cand n).active = true) (hcap : d.timeCapable n = true) (hsel : (d.phasePassed n m (d.phaseOf n m.raw + m.moved)).selected ≠ n) :
    d.phaseMeasured m stuck = d.phasePassed n m (d.phaseOf n m.raw + m.moved) := by
  subst hm
  rw [Device.phaseMeasured, if_neg (by simp [hr, hn, h0, ha, hcap])]
  exact if_pos (Bool.or_eq_true_iff.mpr (.inl (decide_eq_true hsel)))

/-! ### What a measurement leaves alone -/

/-- The objects that a measurement of candidate n's phase can change. -/
def phaseKey (n k : Nat) : Bool := k = K.thermRefPhase n || readingKey n k

theorem phaseKey_true : phaseKey n (K.thermRefPhase n) = true ∧ phaseKey n (K.thermRefState n) = true ∧ phaseKey n (K.thermRefReason n) = true := by
  simp [phaseKey, readingKey]

theorem thermRefPhase_ne (m : Nat) : K.thermRefPhase n ≠ K.thermRefState m ∧ K.thermRefPhase n ≠ K.thermRefReason m := by
  simp only [K.thermRefPhase, K.thermRefState, K.thermRefReason]
  omega

theorem Device.therm_jumpJudged {C : Nat → Bool} (hs : C (K.thermRefState n) = true) (hr : C (K.thermRefReason n) = true) (st : Nat) (p : Int) (jump : Bool) :
    (d.jumpJudged n st p jump).beside thermBlank C = d.beside thermBlank C := by
  simp only [Device.jumpJudged, apply_ite (Device.beside thermBlank C), Device.therm_restartGate, Device.therm_setCandU, Device.therm_setRef _ _ hs,
    Device.therm_disqualify _ _ _ hs hr, ite_self, apply_ite (fun x : Device => (x.restartGate n).beside thermBlank C)]

theorem Device.therm_phasePoint {C : Nat → Bool} (m : PhaseIn) (q : Int) : (d.phasePoint n m q).beside thermBlank C = d.beside thermBlank C := by
  rw [Device.phasePoint]
  split <;> rfl

theorem Device.therm_judged_phase {C : Nat → Bool} (hs : C (K.thermRefState n) = true) (hr : C (K.thermRefReason n) = true) (m : PhaseIn) (q : Int) :
    (d.phasePassed n m q).beside thermBlank C = (d.phaseKept n m q).beside thermBlank C := by
  rw [Device.phasePassed, Device.therm_qualify _ hs hr, Device.therm_phasePoint, Device.therm_jumpJudged _ hs hr]

theorem Device.therm_phasePassed (m : PhaseIn) (q : Int) : (d.phasePassed n m q).beside thermBlank (phaseKey n) = d.beside thermBlank (phaseKey n) := by
  obtain ⟨hp, hs, hr⟩ := phaseKey_true (n := n)
  rw [Device.therm_judged_phase _ hs hr, Device.phaseKept, Device.therm_setCandU, Device.beside_setNum _ _ hp]

theorem Device.phasePassed_selected (hn : n < 9) (m : PhaseIn) (q : Int) : (d.phasePassed n m q).selected = d.selected := by
  have : ∀ n < 9, phaseKey n K.thermSelected = false := by decide
  exact nat_of_beside (d.therm_phasePassed m q) (this n hn)

theorem Device.phasePassed_phase (m : PhaseIn) (q : Int) : (d.phasePassed n m q).num (K.thermRefPhase n) = nearestPhase n (q - d.mtMoved) := by
  rw [num_of_beside (d.therm_judged_phase readingKey_true.1 readingKey_true.2 m q) (readingKey_false (thermRefPhase_ne n).1 (thermRefPhase_ne n).2),
    Device.phaseKept, Device.setCandU_num, Device.num_setNum_self]

/-! ### A QUALIFIED candidate's measurement -/

theorem Device.phaseKept_refState (m : PhaseIn) (q : Int) : (d.phaseKept n m q).refState n = d.refState n := by
  rw [Device.refState, Device.phaseKept, Device.setCandU_nat, Device.nat_setNum, if_neg (thermRefPhase_ne n).1.symm]
  rfl

theorem Device.phasePoint_frame (m : PhaseIn) (q : Int) : (d.phasePoint n m q).obj = d.obj ∧ (d.phasePoint n m q).attic = d.attic ∧
    (d.phasePoint n m q).therm.phases = d.therm.phases ∧ ((d.phasePoint n m q).cand n).hasFreq = (d.cand n).hasFreq ∧
    ((d.phasePoint n m q).cand n).gateStart = (d.cand n).gateStart := by
  rw [Device.phasePoint]
  split
  · exact ⟨rfl, rfl, rfl, rfl, rfl⟩
  · rw [Device.addPoint]
    exact ⟨rfl, rfl, rfl, d.cand_keeps (p := Cand.hasFreq) (by intro; rfl) n n, d.cand_keeps (p := Cand.gateStart) (by intro; rfl) n n⟩

theorem Device.looked_phases : (d.looked n).therm.phases = d.therm.phases := by
  have h := congrArg Therm.phases (d.looked_frame (n := n)).2.2.2.2
  exact h

/-- R138: no jump leaves a QUALIFIED candidate as it is. -/
theorem Device.phasePassed_of_steady (m : PhaseIn) (q : Int) (h4 : d.refState n = 4) (hj : d.isJump m q = false) :
    (d.phasePassed n m q).refState n = 4 ∧ (d.phasePassed n m q).attic = d.attic ∧ (d.phasePassed n m q).therm.phases = d.therm.phases := by
  obtain ⟨hobj, hattic, hphases, -, -⟩ := ((d.phaseKept n m q).setCandU n (fun c => { c with returned := false })).phasePoint_frame (n := n) m q
  rw [Device.phasePassed, hj]
  have hsteady : (d.phaseKept n m q).jumpJudged n (d.refState n) (nearestPhase n (q - d.mtMoved)) false =
    (d.phaseKept n m q).setCandU n (fun c => { c with returned := false }) := rfl
  rw [hsteady]
  have hst : (((d.phaseKept n m q).setCandU n (fun c => { c with returned := false })).phasePoint n m q).refState n = 4 :=
    (nat_of_obj hobj _).trans ((d.phaseKept_refState m q).trans h4)
  generalize ((d.phaseKept n m q).setCandU n (fun c => { c with returned := false })).phasePoint n m q = x at *
  rw [x.qualify_of_entered (by omega) (by omega), x.looked_refState, x.looked_frame.2.1, x.looked_phases]
  exact ⟨hst, hattic, hphases⟩

/-- A candidate's disqualification and its gate's restart. -/
theorem Device.disqualify_restart (reason : Nat) (p2 : Int) (hn : n < d.therm.cands.length) :
    let x := (d.disqualify n reason p2).restartGate n
    x.nat (K.thermRefReason n) = reason ∧ x.refState n = 2 ∧ (x.cand n).hasFreq = false ∧ (x.cand n).gateStart = d.gateNow n
      ∧ x.therm.phases = d.therm.phases := by
  have hlen : (d.disqualify n reason p2).therm.cands.length = d.therm.cands.length := by
    simp only [Device.disqualify, Device.setRef, Device.leaveState, Device.setCandU, updAt, List.length_modify]
    split
    · rfl
    · rfl
  have hclock : (d.disqualify n reason p2).clock = d.clock := therm_clock (C := fun _ => true) (d.therm_disqualify reason p2 rfl rfl)
  have hgap : ((d.disqualify n reason p2).cand n).gap = (d.cand n).gap := by
    rw [Device.disqualify, Device.cand_keeps (p := Cand.gap) (f := fun c => { c with r4 := false }) _ (fun _ => rfl),
      Device.setRef_cand (p := Cand.gap) _ fun _ => rfl]
    rfl
  have hgate : (d.disqualify n reason p2).gateNow n = d.gateNow n := by rw [Device.gateNow, hclock, hgap, Device.gateNow]
  have hphases : (d.disqualify n reason p2).therm.phases = d.therm.phases := by
    have h := congrArg Therm.phases (d.disqualify_therm_loop n reason p2)
    exact h
  have hst := d.disqualify_refState n reason p2
  have hre := d.disqualify_reason n reason p2
  generalize d.disqualify n reason p2 = x at *
  have hcand : (x.restartGate n).cand n = { x.cand n with gateStart := x.gateNow n, goneSince := x.clock.ticks, points := [], hasFreq := false } :=
    x.cand_setCandU _ (by omega)
  intro y
  exact ⟨hre, hst, by rw [hcand], by rw [hcand, hgate], hphases⟩

/-- R138: a jump takes a QUALIFIED candidate to QUALIFYING with its gate restarted. -/
theorem Device.phasePassed_of_jump (m : PhaseIn) (q : Int) (hn : n < d.therm.cands.length) (h4 : d.refState n = 4) (hj : d.isJump m q = true) :
    (d.phasePassed n m q).nat (K.thermRefReason n) = 3 ∧ (d.phasePassed n m q).refState n = 2 ∧ ((d.phasePassed n m q).cand n).hasFreq = false ∧
      ((d.phasePassed n m q).cand n).gateStart = d.gateNow n ∧ (d.phasePassed n m q).therm.phases = d.therm.phases := by
  have hlen : (d.phaseKept n m q).therm.cands.length = d.therm.cands.length := List.length_modify ..
  have hgate : (d.phaseKept n m q).gateNow n = d.gateNow n :=
    congrArg (d.clock.ticks - ·) ((d.setNum (K.thermRefPhase n) (nearestPhase n (q - d.mtMoved))).cand_keeps (p := Cand.gap)
      (f := fun c => { c with lastPhase := some (q, m.tick, m.dco), phaseMt := m.mt16 }) (fun _ => rfl) n n)
  have hkept : (d.phaseKept n m q).therm.phases = d.therm.phases := rfl
  have hjump (e : Device) (p : Int) : e.jumpJudged n 4 p true = (e.disqualify n 3 (sat32 (p / 65536))).restartGate n := rfl
  rw [Device.phasePassed, hj, h4, hjump]
  obtain ⟨hre, hst, hhas, hstart, hphases⟩ := (d.phaseKept n m q).disqualify_restart 3 (sat32 (nearestPhase n (q - d.mtMoved) / 65536)) (hlen ▸ hn)
  rw [hgate] at hstart
  rw [hkept] at hphases
  generalize ((d.phaseKept n m q).disqualify n 3 (sat32 (nearestPhase n (q - d.mtMoved) / 65536))).restartGate n = x at *
  obtain ⟨hobj, -, hphases', hhas', hstart'⟩ := x.phasePoint_frame (n := n) m q
  have hst' : (x.phasePoint n m q).refState n = 2 := (nat_of_obj hobj _).trans hst
  have hre' := (nat_of_obj hobj (K.thermRefReason n)).trans hre
  rw [hhas] at hhas'
  rw [hstart] at hstart'
  rw [hphases] at hphases'
  generalize x.phasePoint n m q = y at *
  have hno : y.freqOk n = false := by
    rw [Device.freqOk, hhas', hst']
    rfl
  rw [y.qualify_of_freq_refused hst' hno, y.looked_refState, nat_of_obj y.looked_frame.1, y.looked_cand (p := Cand.hasFreq) fun _ => rfl,
    y.looked_cand (p := Cand.gateStart) fun _ => rfl, y.looked_phases]
  exact ⟨hre', hst', hhas', hstart', hphases'⟩

theorem Device.phaseArrives_eq (n : Nat) (m : PhaseIn) (stuck : List (Nat × Nat)) (h : d.therm.phases.find? (fun m => m.cand = n) = some m) :
    d.phaseArrives n stuck = (d.setTherm (fun t => { t with phases := t.phases.erase m })).phaseMeasured m stuck := by
  rw [Device.phaseArrives, h]

/-- R136: the part as the frequency monitor runs at this tick. -/
def Device.freqNoted (d : Device) : Device := { d with therm := { d.therm with lastFreq := d.clock.ticks } }

/-- R136, R147: the frequency monitor at this tick. -/
def Device.freqRun (d : Device) : Device :=
  if !d.freqNoted.rootLocked then d.freqNoted else
  ((List.range 9).foldl (fun d n => d.freqReading n) d.freqNoted).trackRestore.checkRestored.trackLock

theorem Device.freqMonitor_eq : d.freqMonitor = (d.runTo (d.therm.lastFreq + sTicks)).freqRun := rfl

theorem Device.freqRun_of_unlocked (h : d.rootLocked = false) : d.freqRun = d.freqNoted := if_pos (congrArg (!·) h)

theorem Device.freqRun_of_locked (h : d.rootLocked = true) :
    d.freqRun = ((List.range 9).foldl (fun e n => e.freqReading n) d.freqNoted).trackRestore.checkRestored.trackLock :=
  if_neg (by
    show ¬ (!d.rootLocked) = true
    rw [h]
    exact Bool.false_ne_true)

theorem Device.freqNoted_rootLocked : d.freqNoted.rootLocked = d.rootLocked := rfl
theorem Device.runTo_rootLocked (t : Nat) : (d.runTo t).rootLocked = d.rootLocked := rfl

end

/-- Settles O31: a full gate's frequency moves its candidate, a jump of phase takes one back, and nothing moves while the root is not LOCKED. -/
theorem monitorsGateEntryAndExit : Obligations.MonitorsGateEntryAndExit := by
  refine ⟨fun s => ?_, fun d n resid abs hn hlen h0 ha hg hr => d.freqReading_frame hn hlen h0 ha hg hr, fun s n m stuck hm => ⟨fun hr => ?_, fun hn hlen hr h4 ha hcap hsel => ?_⟩⟩
  · intro d d1
    have hroot : d.rootLocked = s.dev.rootLocked := Device.runTo_rootLocked _ _
    have hd1 : d1 = d.freqNoted := rfl
    rw [exec_freqMonitor, State.on, s.dev.freqMonitor_eq, hd1, ← hroot]
    have hd : s.dev.runTo (s.dev.therm.lastFreq + sTicks) = d := rfl
    rw [hd]
    clear_value d1 d
    exact ⟨fun h => by rw [d.freqRun_of_unlocked h], fun h => by rw [d.freqRun_of_locked h]⟩
  · rw [exec_candidatePhaseMeasurement, State.on, s.dev.phaseArrives_eq n m stuck hm, Device.phaseMeasured, if_pos]
    · rfl
    · show (!s.dev.rootLocked || _ || _ || _ || _) = true
      rw [hr]
      rfl
  · intro q jump
    have hcand : m.cand = n := by simpa using List.find?_some hm
    let x := s.dev.setTherm (fun t => { t with phases := t.phases.erase m })
    have hx := x.phaseMeasured_eq (n := n) m stuck hcand hn hr (by show s.dev.refState n ≠ 0; omega) ha hcap
      (by rw [Device.phasePassed_selected _ hn]; exact hsel)
    rw [exec_candidatePhaseMeasurement, State.on, s.dev.phaseArrives_eq n m stuck hm, hx]
    have hclock := therm_clock (x.therm_phasePassed (n := n) m q)
    have hphase := x.phasePassed_phase (n := n) m q
    have hsteady := x.phasePassed_of_steady (n := n) m q h4
    have hjump := x.phasePassed_of_jump (n := n) m q (Nat.lt_of_lt_of_eq hn hlen.symm) h4
    have hphases : (x.phasePassed n m q).therm.phases = x.therm.phases := by
      cases hj : x.isJump m q
      · exact (hsteady hj).2.2
      · exact (hjump hj).2.2.2.2
    refine ⟨_, rfl, rfl, hclock, hphase, hphases, fun h => ⟨(hsteady h).1, (hsteady h).2.1⟩, fun h => ?_⟩
    obtain ⟨hre, hst, hhas, hstart, -⟩ := hjump h
    exact ⟨hre, hst, hhas, hstart⟩

end Sys2Proof.Machine
end

section
/-! Reports are only added while events come about (R500). -/

namespace Sys2Proof.Machine

/-- The reports that stand stay first, in their order. -/
def Device.Adds (d e : Device) : Prop := d.entries <+: e.entries

section
variable {d e f : Device}

theorem Device.Adds.trans (h : d.Adds e) (h' : e.Adds f) : d.Adds f := List.IsPrefix.trans h h'
theorem Device.adds_of_attic (h : e.attic = d.attic) : d.Adds e := by rw [Device.Adds, Device.entries_of_attic h]

theorem Device.adds_ite {c : Prop} [Decidable c] (h : d.Adds e) (h' : d.Adds f) : d.Adds (if c then e else f) := by
  split
  · exact h
  · exact h'

/-- An added report stands in the queue. -/
theorem Device.Adds.mem {code : Nat} {p : List Int} (h : d.Adds e) (hd : (code, p) ∈ d.entries) : ∃ r ∈ e.attic.reports, r.code = code ∧ r.p = p := by
  obtain ⟨r, hr, heq⟩ := List.mem_map.mp (h.subset hd)
  exact ⟨r, hr, congrArg Prod.fst heq, congrArg Prod.snd heq⟩

/-- Two reports that came first are the first of the new ones. -/
theorem Device.Adds.take_two {x y : Nat × List Int} (h : e.entries = d.entries ++ [x, y]) (he : e.Adds f) : (newReports d f).take 2 = [x, y] := by
  obtain ⟨l, hl⟩ := he
  rw [newReports_of_entries (l := [x, y] ++ l) (by rw [← hl, h, List.append_assoc])]
  rfl

variable (d)

theorem Device.adds_refl : d.Adds d := List.prefix_rfl
theorem Device.adds_report (code : Nat) (p : List Int) : d.Adds (d.report code p) := by
  rw [Device.Adds, Device.entries_report]
  exact List.prefix_append _ _

theorem Device.adds_foldl {α : Type} {f : Device → α → Device} (l : List α) (h : ∀ (e : Device) (a : α), e.Adds (f e a)) : d.Adds (l.foldl f d) := by
  induction l generalizing d with
  | nil => exact d.adds_refl
  | cons a l ih => exact (h d a).trans (ih _)

theorem Device.setNums_attic (l : List (Nat × Int)) : (d.setNums l).attic = d.attic := by
  induction l generalizing d with
  | nil => rfl
  | cons x l ih => exact ih _

/-! ## A wake and the end of an entry -/

theorem Device.adds_openBatch : d.Adds d.openBatch := by
  have h : d.Adds (if d.nat K.ledgerKeyId = (d.newBatch d.clock.ticks).keyId then d else
      d.report 0x0A22 [d.num K.ledgerKeyId, (d.newBatch d.clock.ticks).keyId, (d.newBatch d.clock.ticks).sig]) :=
    Device.adds_ite d.adds_refl (d.adds_report _ _)
  refine h.trans (Device.adds_of_attic ?_)
  rw [Device.openBatch, Device.setLedger_attic, Device.setOct_attic, Device.setNums_attic]

theorem Device.adds_setFbState (st : Nat) : d.Adds (d.setFbState st) :=
  Device.adds_ite d.adds_refl ((d.adds_report _ _).trans (Device.adds_of_attic rfl))

theorem Device.adds_abortEntry (cause : Nat) : d.Adds (d.abortEntry cause) := by
  unfold Device.abortEntry
  split
  · exact d.adds_refl
  · refine Device.Adds.trans ?_ (Device.adds_ite (Device.adds_openBatch _) (Device.adds_refl _))
    refine Device.Adds.trans ?_ (Device.adds_report _ _ _)
    refine Device.Adds.trans ?_ (Device.adds_of_attic (Device.bump_attic _ _))
    refine Device.Adds.trans ?_ (Device.adds_setFbState _ _)
    refine Device.Adds.trans ?_ (Device.adds_of_attic (Device.setPower_attic _ _))
    exact (Device.adds_of_attic (Device.setNum_attic _ _ _)).trans (Device.adds_report _ _ _)

theorem Device.adds_queueStep (kind : Nat) (exit : Bool) : d.Adds (d.queueStep kind exit) := by
  rw [Device.queueStep]
  refine Device.Adds.trans ?_ (Device.adds_ite (Device.adds_report _ _ _) (Device.adds_refl _))
  exact Device.adds_of_attic rfl

theorem Device.adds_wakeBegin (src : Option Nat) (port : Nat) : d.Adds (d.wakeBegin src port) := by
  unfold Device.wakeBegin
  refine Device.adds_ite (Device.adds_ite (Device.adds_of_attic rfl) (Device.adds_of_attic rfl)) (Device.adds_ite (Device.adds_of_attic rfl) ?_)
  refine Device.Adds.trans ?_ (Device.adds_foldl _ _ fun e k => e.adds_queueStep k true)
  exact Device.adds_of_attic rfl

theorem Device.adds_fbWake (src port : Nat) : d.Adds (d.fbWake src port) := by
  unfold Device.fbWake
  split
  · exact Device.adds_ite (d.adds_abortEntry 1) d.adds_refl
  · exact Device.adds_ite (d.adds_wakeBegin _ _) d.adds_refl

theorem Device.adds_wakeOnT5 (d0 : Device) : d.Adds (d.wakeOnT5 d0) := Device.adds_ite (d.adds_fbWake 4 0xFF) d.adds_refl

end

end Sys2Proof.Machine
end

section
/-! Chapter 6: the bound and the countdown of holdover (R171, R172, R182). -/

namespace Sys2Proof.Machine

theorem exec_boundUpdate (s : State) : exec .boundUpdate s = .next (s.on (fun d => d.boundUpdate.wakeOnT5 d)) := rfl
theorem exec_compatTimerExpiry (s : State) : exec .compatTimerExpiry s = .next (s.on (fun d => d.compatExpiry.wakeOnT5 d)) := rfl

section
variable (d : Device)

/-- R171: the bound without a frequency-only candidate. -/
theorem Device.boundAt_of_model (tick : Nat) (hf : d.hold.freqOnly = false) (hseg : d.hold.seg = d.hold.freeze) :
    d.boundAt tick = d.hold.base + d.num K.hoUncScale * 1000000000 * 65536 * d.hold.uf * ((tick - d.hold.freeze) / sTicks : Nat) / 2 ^ 48
      + d.num K.hoUncScale * 1000000000 * 65536 * d.hold.ua * (((tick - d.hold.freeze) / sTicks : Nat) * ((tick - d.hold.freeze) / sTicks : Nat)) / (172800 * 2 ^ 48)
      + d.num K.hoUncScale * 1000000000 * 65536 * d.hold.ut * d.hold.sum / (10000 * 2 ^ 48) := by
  have hno : ¬ d.hold.freqOnly = true := by rw [hf]; exact Bool.false_ne_true
  have hz : (((d.hold.seg - d.hold.freeze) / sTicks : Nat) : Int) = 0 := by rw [hseg, Nat.sub_self, Nat.zero_div]; rfl
  rw [Device.boundAt]
  simp only [if_neg hno, hz, Int.mul_zero, Int.sub_zero]

/-- The bound as published at this tick. -/
def Device.boundNow (d : Device) : Nat := if d.hold.saturated then 0xFFFFFFFF else min 0xFFFFFFFF (nearestNs (d.boundAt d.clock.ticks).toNat)

/-- The part as a second of holdover begins: the second noted. -/
def Device.boundNoted (d : Device) : Device := d.setHold (fun h => { h with lastBound := d.clock.ticks })

/-- R171: D follows the prediction that was fixed at entry. -/
def Device.boundAsked (d : Device) : Device :=
  if d.rootLocked && !d.hold.freqOnly then d.requestD (if d.hold.useModel then d.dOf d.hold.model else d.hold.meanD) else d

/-- The bound's update at this tick. -/
def Device.boundTaken (d : Device) : Device := d.boundNoted.boundAsked.computeBound.boundTest

theorem Device.boundUpdate_eq (h : d.hold.active = true) : d.boundUpdate = (d.runTo (d.hold.lastBound + sTicks)).boundTaken := by
  rw [Device.boundUpdate, if_neg (by simp [h])]
  rfl

theorem Device.boundAsked_beside (C : Nat → Bool) : d.boundAsked.beside thermBlank C = d.beside thermBlank C := by
  rw [Device.boundAsked, apply_ite (Device.beside thermBlank C), Device.therm_requestD, ite_self]

theorem Device.requestD_hold (v : Int) : (d.requestD v).hold = d.hold := by
  rw [Device.requestD, Device.setTherm_hold, apply_ite Device.hold, Device.report_hold, ite_self]

theorem Device.boundAsked_hold : d.boundAsked.hold = d.hold := by
  rw [Device.boundAsked, apply_ite Device.hold, Device.requestD_hold, ite_self]

theorem Device.boundAsked_cand (n : Nat) : d.boundAsked.cand n = d.cand n := by
  rw [Device.boundAsked]
  split
  · rw [Device.cand, Device.requestD_therm, Device.cand]
  · rfl

/-- The bound is the same before and after D is asked for. -/
theorem Device.boundNow_boundAsked : d.boundNoted.boundAsked.boundNow = d.boundNow := by
  have hb := d.boundNoted.boundAsked_beside (fun _ => false)
  have hh : d.boundNoted.boundAsked.hold = { d.hold with lastBound := d.clock.ticks } := d.boundNoted.boundAsked_hold
  have hc : d.boundNoted.boundAsked.clock = d.clock := therm_clock hb
  have hcand : d.boundNoted.boundAsked.cand d.hold.freqCand = d.cand d.hold.freqCand := d.boundNoted.boundAsked_cand _
  have hk : d.boundNoted.boundAsked.num K.hoUncScale = d.num K.hoUncScale := num_of_beside hb rfl
  have hg : d.boundNoted.boundAsked.nat K.thermFreqGate = d.nat K.thermFreqGate := nat_of_beside hb rfl
  generalize d.boundNoted.boundAsked = x at *
  have hat : x.boundAt d.clock.ticks = d.boundAt d.clock.ticks := by
    rw [Device.boundAt, hh, hk, hg]
    dsimp only
    rw [hcand, Device.boundAt]
  rw [Device.boundNow, hh, hc, hat, Device.boundNow]

/-- HO_BOUND in holdover, once recomputed. -/
theorem Device.hoBound_computeBound (h : d.hold.active = true) : d.computeBound.hoBound = d.boundNow := by
  have hhold : d.computeBound.hold = d.hold := rfl
  rw [Device.hoBound, hhold, h, if_pos rfl, Device.computeBound, Device.nat_setNum_self, Int.toNat_natCast, Device.boundNow]

/-- R172: does the bound take MT to T5. -/
def Device.tooFar (d : Device) (b : Nat) : Prop := d.nat K.mtState = 4 ∧ d.timeSelected = false ∧ d.hold.compat ≠ 2 ∧ d.nat K.hoLimit < b

theorem Device.boundTest_of_tooFar (h : d.hold.active = true) (hfar : d.tooFar d.hoBound) : d.boundTest = d.enterT5 1 := by
  obtain ⟨h4, hsel, hmode, hlimit⟩ := hfar
  exact if_pos (by simp [h, h4, hsel, hmode, hlimit])

theorem Device.boundTest_of_near (hfar : ¬ d.tooFar d.hoBound) : d.boundTest = d :=
  if_neg fun h => hfar (by
    simp only [Bool.and_eq_true, decide_eq_true_eq, Bool.not_eq_true', and_assoc] at h
    exact h.2)

/-- MT's move to T5 and its reports (R81, R172). -/
theorem Device.enterT5_frame (cause : Int) (h : d.nat K.mtState ≠ 5) : (d.enterT5 cause).nat K.mtState = 5 ∧
    (d.enterT5 cause).entries = d.entries ++ [(0x0701, [d.num K.mtState, 5]), (0x0409, [cause, (d.hoBound : Int)])] := by
  rw [Device.enterT5, if_neg h]
  refine ⟨by rw [Device.report_nat, Device.nat_setTimeState], ?_⟩
  rw [Device.entries_report, Device.setTimeState, if_neg h, if_neg (by decide), Device.entries_report, Device.entries_setNum, Device.entries_setNum,
    List.append_assoc]
  rfl

/-- The part as the bound is recomputed, before it is tested. -/
def Device.boundSet (d : Device) : Device := d.boundNoted.boundAsked.computeBound

/-- The object that the bound is published in. -/
def boundKey (k : Nat) : Bool := k = K.hoBound

theorem Device.boundSet_beside : d.boundSet.beside thermBlank boundKey = d.beside thermBlank boundKey := by
  rw [Device.boundSet, Device.computeBound, Device.beside_setNum _ _ (by decide), Device.boundAsked_beside]
  rfl

theorem Device.boundSet_hold : d.boundSet.hold = { d.hold with lastBound := d.clock.ticks } := d.boundNoted.boundAsked_hold

theorem Device.boundSet_therm : d.boundSet.therm = d.boundNoted.boundAsked.therm := rfl

theorem Device.boundSet_hoBound (h : d.hold.active = true) : d.boundSet.hoBound = d.boundNow := by
  have hact : d.boundNoted.boundAsked.hold.active = true := by
    rw [d.boundNoted.boundAsked_hold]
    exact h
  rw [Device.boundSet, Device.hoBound_computeBound _ hact, d.boundNow_boundAsked]

theorem Device.boundSet_tooFar (b : Nat) : d.boundSet.tooFar b ↔ d.tooFar b := by
  have hk {k : Nat} (h : boundKey k = false) := nat_of_beside d.boundSet_beside h
  have hfreq : ∀ n < 9, boundKey (K.refinFreq (n - 1)) = false ∧ boundKey (K.refinPair (n - 1)) = false := by decide
  have hsel : d.boundSet.selected = d.selected := hk (by decide)
  have hcap : d.boundSet.timeSelected = d.timeSelected := by
    rw [Device.timeSelected, hsel, Device.timeSelected]
    by_cases hn : d.selected < 9
    · rw [Device.timeCapable, hk (hfreq _ hn).1, num_of_beside d.boundSet_beside (hfreq _ hn).2, Device.timeCapable]
    · simp [hn]
  rw [Device.tooFar, hk (by decide), hcap, d.boundSet_hold, hk (by decide), Device.tooFar]

theorem Device.boundTaken_beside : d.boundTaken.beside thermBlank (fun k => timeKey k || boundKey k) = d.beside thermBlank (fun k => timeKey k || boundKey k) := by
  have hx : d.boundTaken.beside thermBlank (fun k => timeKey k || boundKey k) = d.boundSet.beside thermBlank (fun k => timeKey k || boundKey k) := by
    have ht : picksTime (fun k => timeKey k || boundKey k) := ⟨by decide, by decide, by decide⟩
    rw [Device.boundTaken, Device.boundTest, apply_ite (Device.beside thermBlank _), Device.therm_enterT5 _ _ ht, ite_self, Device.boundSet]
  exact hx.trans (beside_mono d.boundSet_beside id fun k h => by simp [h])

/-- A second of holdover (R171, R172). -/
theorem Device.boundTaken_frame (h : d.hold.active = true) : let t := d.boundTaken
    t.hoBound = d.boundNow ∧ t.hold = { d.hold with lastBound := d.clock.ticks }
      ∧ (d.tooFar d.boundNow → t.nat K.mtState = 5 ∧ (0x0409, [1, (d.boundNow : Int)]) ∈ t.entries)
      ∧ (¬ d.tooFar d.boundNow → t.nat K.mtState = d.nat K.mtState)
      ∧ (d.rootLocked = true → d.hold.freqOnly = false → t.therm.dTarget =
          clamp (-(2 ^ 36)) (2 ^ 36) (if d.hold.useModel then d.dOf d.hold.model else d.hold.meanD))
      ∧ (¬ (d.rootLocked = true ∧ d.hold.freqOnly = false) → t.therm = d.therm) := by
  intro t
  have hb := d.boundSet_hoBound h
  have hhold := d.boundSet_hold
  have hact : d.boundSet.hold.active = true := by rw [hhold]; exact h
  have ht : t = d.boundSet.boundTest := rfl
  have htherm : t.therm = d.boundSet.therm := by
    rw [ht, Device.boundTest, apply_ite Device.therm, Device.enterT5_therm, ite_self]
  have hthold : t.hold = d.boundSet.hold := by
    rw [ht, Device.boundTest, apply_ite Device.hold, Device.enterT5_hold, ite_self]
  have hbnat : t.nat K.hoBound = d.boundSet.nat K.hoBound := by
    rw [ht, Device.boundTest]
    split
    · exact nat_of_beside (Device.therm_enterT5 _ 1 picksTime_timeKey) (by decide)
    · rfl
  have hbound : t.hoBound = d.boundSet.hoBound := by
    rw [Device.hoBound, hthold, hact, if_pos rfl, hbnat, Device.hoBound, hact, if_pos rfl]
  refine ⟨hbound.trans hb, hthold.trans hhold, fun hfar => ?_, fun hnear => ?_, fun hr hf => ?_, fun hno => ?_⟩
  · rw [ht, d.boundSet.boundTest_of_tooFar hact (by rw [hb]; exact (d.boundSet_tooFar _).mpr hfar)]
    have h4 : d.boundSet.nat K.mtState = 4 := ((d.boundSet_tooFar _).mpr hfar).1
    obtain ⟨h5, he⟩ := d.boundSet.enterT5_frame 1 (by rw [h4]; decide)
    refine ⟨h5, ?_⟩
    rw [he, hb]
    simp
  · rw [ht, d.boundSet.boundTest_of_near (by rw [hb]; exact mt (d.boundSet_tooFar _).mp hnear)]
    exact nat_of_beside d.boundSet_beside (by decide)
  · rw [htherm, Device.boundSet_therm, Device.boundAsked, if_pos, Device.requestD_therm]
    · rfl
    · show (d.rootLocked && !d.hold.freqOnly) = true
      rw [hr, hf]
      rfl
  · rw [htherm, Device.boundSet_therm, Device.boundAsked, if_neg]
    · rfl
    · show ¬ (d.rootLocked && !d.hold.freqOnly) = true
      simpa using fun hr hf => hno ⟨hr, hf⟩

theorem Device.compatExpiry_eq (h : d.hold.active = true) (hc : d.hold.compat ≠ 0) (hrun : d.clock.mtRun = true) :
    d.compatExpiry = (let x := d.runToMt (d.hold.compatDue + d.clock.stepped * fracU).toNat
      if x.nat K.mtState = 4 then x.enterT5 2 else x) := by
  rw [Device.compatExpiry, if_neg (by simp [h, hc, hrun])]

theorem Device.runToMt_mtState (t : Nat) : (d.runToMt t).nat K.mtState = d.nat K.mtState := Device.elapse_nat _ _ _

/-- A second of holdover, and the wake that it may bring about. -/
theorem Device.boundTaken_obeys (h : d.hold.active = true) (d0 : Device) : let t := d.boundTaken.wakeOnT5 d0
    t.clock = d.clock ∧ t.hoBound = d.boundNow ∧ t.hold = { d.hold with lastBound := d.clock.ticks }
      ∧ (d.tooFar d.boundNow → t.nat K.mtState = 5 ∧ ∃ r ∈ t.attic.reports, r.code = 0x0409 ∧ r.p = [1, (d.boundNow : Int)])
      ∧ (¬ d.tooFar d.boundNow → t.nat K.mtState = d.nat K.mtState)
      ∧ (d.rootLocked = true → d.hold.freqOnly = false → t.therm.dTarget =
          clamp (-(2 ^ 36)) (2 ^ 36) (if d.hold.useModel then d.dOf d.hold.model else d.hold.meanD))
      ∧ (¬ (d.rootLocked = true ∧ d.hold.freqOnly = false) → t.therm = d.therm)
      ∧ t.num K.hearthDco = d.num K.hearthDco ∧ t.staged = d.staged := by
  obtain ⟨hbound, hhold, hfar, hnear, hask, hkeep⟩ := d.boundTaken_frame h
  have hbeside := d.boundTaken_beside
  generalize d.boundTaken = x at *
  have hw := x.wake_wakeOnT5 d0
  have hadds := x.adds_wakeOnT5 d0
  intro t
  have hthold : t.hold = x.hold := wake_hold hw
  have hmt : t.nat K.mtState = x.nat K.mtState := nat_of_beside hw (by decide)
  have hxact : x.hold.active = true := by rw [hhold]; exact h
  have hb : t.nat K.hoBound = x.nat K.hoBound := nat_of_beside hw (by decide)
  refine ⟨(wake_clock hw).trans (therm_clock hbeside), ?_, hthold.trans hhold, fun hp => ⟨hmt.trans (hfar hp).1, hadds.mem (hfar hp).2⟩,
    fun hp => hmt.trans (hnear hp), fun hr hf => (congrArg Therm.dTarget (wake_therm hw)).trans (hask hr hf),
    fun hp => (wake_therm hw).trans (hkeep hp), ?_, (wake_staged hw).trans (therm_staged hbeside)⟩
  · rw [← hbound, Device.hoBound, hthold, hxact, if_pos rfl, hb, Device.hoBound, hxact, if_pos rfl]
  · exact (num_of_beside hw (by decide)).trans (num_of_beside hbeside (by decide))

end

/-- Settles O33: a second of holdover moves the bound, D's target and, past the limit, MT to T5; the countdown moves T4 to T5 alone. -/
theorem holdoverBoundFollowsTheModel : Obligations.HoldoverBoundFollowsTheModel := by
  refine ⟨fun d tick hf hseg => d.boundAt_of_model tick hf hseg, fun s h => ?_, fun s h => ?_, fun s h hc hrun => ?_⟩
  · have hno : (!s.dev.hold.active) = true := by rw [h]; rfl
    have hb : s.dev.boundUpdate = s.dev := if_pos hno
    have hx : s.dev.compatExpiry = s.dev := if_pos (by rw [hno]; rfl)
    rw [exec_boundUpdate, exec_compatTimerExpiry, State.on, State.on, hb, hx, Device.wakeOnT5_of_same _ rfl]
    exact ⟨rfl, rfl⟩
  · intro d b tooFar
    have hexec : exec .boundUpdate s = .next { s with dev := d.boundTaken.wakeOnT5 s.dev } := by
      rw [exec_boundUpdate, State.on, s.dev.boundUpdate_eq h]
    have hact : d.hold.active = true := (congrArg Holdover.active (Device.runTo_hold _ _)).trans h
    clear_value d
    exact ⟨_, hexec, rfl, d.boundTaken_obeys hact s.dev⟩
  · intro d
    have hmt0 : d.nat K.mtState = s.dev.nat K.mtState := Device.runToMt_mtState _ _
    rw [exec_compatTimerExpiry, State.on, s.dev.compatExpiry_eq h hc hrun]
    have hd : s.dev.runToMt (s.dev.hold.compatDue + s.dev.clock.stepped * fracU).toNat = d := rfl
    rw [hd]
    clear_value d
    dsimp only
    by_cases h4 : d.nat K.mtState = 4
    · rw [if_pos h4]
      obtain ⟨h5, hentries⟩ := d.enterT5_frame 2 (by rw [h4]; decide)
      have hb := d.therm_enterT5 2 picksTime_timeKey
      have hh := d.enterT5_hold 2
      generalize d.enterT5 2 = x at *
      have hw := x.wake_wakeOnT5 s.dev
      have hadds := x.adds_wakeOnT5 s.dev
      refine ⟨_, rfl, rfl, (wake_clock hw).trans (therm_clock hb), (wake_hold hw).trans hh,
        fun _ => ⟨(nat_of_beside hw (by decide)).trans h5, Device.Adds.take_two hentries hadds⟩, fun hno => absurd h4 hno⟩
    · rw [if_neg h4, Device.wakeOnT5_of_same _ hmt0]
      exact ⟨_, rfl, rfl, rfl, rfl, fun h => absurd h h4, fun _ => rfl⟩

end Sys2Proof.Machine
end

section
/-! Chapter 6: samples, refits, saves and the clear of the oscillator model (R165 to R168). -/

namespace Sys2Proof.Machine

theorem exec_learningSample (s : State) : exec .learningSample s = .next (s.on (·.learningSample)) := rfl
theorem exec_modelRefit (s : State) : exec .modelRefit s = .next (s.on (·.modelRefit)) := rfl
theorem exec_modelSave (s : State) : exec .modelSave s = .next (s.on (·.modelSave)) := rfl
theorem exec_hoModelClear (s : State) (h : HapHdr) (v : Bytes) : exec (.hoModelClear h v) s = .next (s.hapWrite h K.hoModelClear v) := rfl

section
variable (d : Device)

/-! ## The model's state and the window -/

theorem Device.setModel_frame (st : Nat) (cause : Int) : (d.setModel st cause).clock = d.clock ∧ (d.setModel st cause).therm = d.therm ∧
    (d.setModel st cause).hold = d.hold ∧ (d.setModel st cause).staged = d.staged ∧ (d.setModel st cause).models = d.models := by
  unfold Device.setModel
  split <;> exact ⟨rfl, rfl, rfl, rfl, rfl⟩

theorem Device.nat_setModel_self (st : Nat) (cause : Int) : (d.setModel st cause).nat K.hoModelState = st := by
  unfold Device.setModel
  split
  · assumption
  · rw [Device.nat_setNum_self, Int.toNat_natCast]

theorem Device.num_setModel_ne (st : Nat) (cause : Int) {k : Nat} (h : k ≠ K.hoModelState) : (d.setModel st cause).num k = d.num k := by
  unfold Device.setModel
  split
  · rfl
  · rw [Device.num_setNum, if_neg h, Device.report_num]

theorem Device.noteWindow_frame : d.noteWindow.clock = d.clock ∧ d.noteWindow.therm = d.therm ∧ d.noteWindow.hold = d.hold ∧
    d.noteWindow.staged = d.staged ∧ d.noteWindow.models = d.models := ⟨rfl, rfl, rfl, rfl, rfl⟩

/-- The objects that show the window. -/
def windowKey (k : Nat) : Bool := k = K.hoLearnedTime || k = K.hoTempSpan

theorem Device.noteWindow_beside : d.noteWindow.beside thermBlank windowKey = d.beside thermBlank windowKey :=
  d.beside_setNums _ (by simp only [List.forall_mem_cons]; exact ⟨by decide, by decide, by simp⟩)

theorem Device.noteWindow_num {k : Nat} (h : windowKey k = false) : d.noteWindow.num k = d.num k := num_of_beside d.noteWindow_beside h
theorem Device.noteWindow_nat {k : Nat} (h : windowKey k = false) : d.noteWindow.nat k = d.nat k := nat_of_beside d.noteWindow_beside h

/-! ## Samples -/

/-- The part as a second's sample is looked at. -/
def Device.sampleNoted (d : Device) : Device := d.setHold (fun h => { h with lastSample := d.clock.ticks })

/-- R165: the sample that this second gives. -/
def Device.secondSample (d : Device) : Sample where
  t16 := d.mt16
  y := -(d.num K.hearthDco)
  theta := mean (histFrom (d.clock.ticks - sTicks) d.clock.ticks d.hold.temps)

/-- R165: the part with the second's sample in the window. -/
def Device.sampled (d : Device) : Device := (d.sampleNoted.setHold (fun h => { h with samples := h.samples ++ [d.secondSample] })).noteWindow

theorem Device.sampled_modelState : d.sampled.nat K.hoModelState = d.nat K.hoModelState := by
  rw [Device.sampled, Device.noteWindow_nat _ (by decide)]
  rfl

/-- R165: the sample at this tick. -/
def Device.learnNow (d : Device) : Device :=
  if !d.mayLearn then d.sampleNoted else if d.sampled.nat K.hoModelState = 0 then d.sampled.setModel 1 0 else d.sampled

theorem Device.learningSample_eq : d.learningSample = (d.runTo (d.hold.lastSample + sTicks)).learnNow := rfl

theorem Device.sampleNoted_val (k : Nat) : d.sampleNoted.val k = d.val k := rfl

theorem Device.mayLearn_iff : d.mayLearn = true ↔ (d.selected < 9 ∧ d.nat (K.thermRefState d.selected) = 5 ∧ d.rootLocked = true ∧ d.hold.tempFault = false
    ∧ d.therm.selSince + d.nat K.thermFreqGate * sTicks ≤ d.clock.ticks) := by
  simp only [Device.mayLearn, Bool.and_eq_true, decide_eq_true_eq, Bool.not_eq_true', and_assoc]

theorem Device.learnNow_of_learning (h : d.mayLearn = true) : ∃ st c, (d.learnNow = d.sampled.setModel st c ∧ d.nat K.hoModelState = 0 ∧ st = 1) ∨
    (d.learnNow = d.sampled ∧ d.nat K.hoModelState ≠ 0) := by
  have hst := d.sampled_modelState
  rw [Device.learnNow, h, hst]
  by_cases h0 : d.nat K.hoModelState = 0
  · exact ⟨1, 0, .inl ⟨if_pos h0, h0, rfl⟩⟩
  · exact ⟨1, 0, .inr ⟨if_neg h0, h0⟩⟩

/-- A sample is taken where it may be, and leaves the loop alone. -/
theorem Device.learnNow_frame : let t := d.learnNow
    t.clock = d.clock ∧ t.hold.lastSample = d.clock.ticks ∧ t.therm = d.therm ∧ t.staged = d.staged
      ∧ (d.mayLearn = false → t.hold.samples = d.hold.samples ∧ ∀ k, t.val k = d.val k)
      ∧ (d.mayLearn = true → (∃ theta, t.hold.samples = d.hold.samples ++ [{ t16 := d.mt16, y := -(d.num K.hearthDco), theta := theta }])
          ∧ t.nat K.hoModelState = (if d.nat K.hoModelState = 0 then 1 else d.nat K.hoModelState)) := by
  intro t
  have hs : d.sampled.hold = { d.hold with lastSample := d.clock.ticks, samples := d.hold.samples ++ [d.secondSample] } := rfl
  have hc : d.sampled.clock = d.clock := rfl
  have hth : d.sampled.therm = d.therm := rfl
  have hsd : d.sampled.staged = d.staged := rfl
  have hst := d.sampled_modelState
  cases hl : d.mayLearn with
  | false =>
    have ht : t = d.sampleNoted := if_pos (by rw [hl]; rfl)
    rw [ht]
    exact ⟨rfl, rfl, rfl, rfl, fun _ => ⟨rfl, d.sampleNoted_val⟩, fun h => absurd h Bool.false_ne_true⟩
  | true =>
    obtain ⟨st, c, ⟨ht, h0, rfl⟩ | ⟨ht, h0⟩⟩ := d.learnNow_of_learning hl
    · obtain ⟨hc', hth', hh', hsd', -⟩ := d.sampled.setModel_frame 1 c
      have hm := d.sampled.nat_setModel_self 1 c
      have ht : t = d.sampled.setModel 1 c := ht
      rw [ht, hc', hth', hh', hsd', hs, hm, if_pos h0]
      exact ⟨hc, rfl, hth, hsd, fun h => absurd h.symm Bool.false_ne_true, fun _ => ⟨⟨_, rfl⟩, rfl⟩⟩
    · have ht : t = d.sampled := ht
      rw [ht, hs, hst, if_neg h0]
      exact ⟨hc, rfl, hth, hsd, fun h => absurd h.symm Bool.false_ne_true, fun _ => ⟨⟨_, rfl⟩, rfl⟩⟩

/-! ## Refits -/

/-- The part with its window pruned. -/
def Device.pruned (d : Device) : Device := (d.setHold (fun h => { h with lastRefit := d.clock.ticks, samples := d.windowSamples })).noteWindow

/-- R167: the state that a refit leads to. -/
def Device.refitJudged (d : Device) (st n : Nat) : Device :=
  if st = 1 && d.nat K.hoLearnMin ≤ n && d.num K.hoResidualRms ≤ d.num K.thermAccept then d.setModel 2 0
  else if st = 2 && d.num K.thermReject < d.num K.hoResidualRms then d.setModel 1 0
  else d

/-- R166, R167: the refit at this tick. -/
def Device.refitNow (d : Device) : Device :=
  if d.nat K.hoModelState = 0 || d.nat K.hoModelState = 3 || d.windowSamples.length < 600 then d.pruned
  else (d.pruned.fitModel d.windowSamples).refitJudged (d.nat K.hoModelState) d.windowSamples.length

theorem Device.modelRefit_eq : d.modelRefit = (d.runTo (d.hold.lastRefit + 60 * sTicks)).refitNow := rfl

/-- The objects that every fit publishes. -/
def fitKeys : List Nat := [K.hoY0, K.hoT0, K.hoTheta0, K.hoResidualRms, K.hoUf, K.hoAgeing, K.hoUa, K.hoUt]

/-- The objects that a fit may publish. -/
def fitKey (k : Nat) : Bool := k ∈ fitKeys ++ [K.hoC1, K.hoC2]

theorem fitKey_of_keys {l : List (Nat × Int)} (h : l.map Prod.fst = fitKeys) (e : Nat × Int) (he : e ∈ l) : fitKey e.1 = true :=
  decide_eq_true (List.mem_append_left _ (h ▸ List.mem_map_of_mem he))

theorem Device.setNums_therm (l : List (Nat × Int)) : (d.setNums l).therm = d.therm := by
  induction l generalizing d with
  | nil => rfl
  | cons e l ih => exact ih _

theorem Device.setNums_hold (l : List (Nat × Int)) : (d.setNums l).hold = d.hold := by
  induction l generalizing d with
  | nil => rfl
  | cons e l ih => exact ih _

theorem Device.fitModel_frame (ss : List Sample) : (d.fitModel ss).beside thermBlank fitKey = d.beside thermBlank fitKey ∧
    (d.fitModel ss).therm = d.therm ∧ (d.fitModel ss).hold.samples = d.hold.samples := by
  have hnum (x : Device) {k : Nat} (v : Int) (hk : fitKey k = true) : (x.setNum k v).beside thermBlank fitKey = x.beside thermBlank fitKey := x.beside_setNum v hk
  have h1 (x : Device) (v : Int) := hnum x (k := K.hoC1) v (by decide)
  have h2 (x : Device) (v : Int) := hnum x (k := K.hoC2) v (by decide)
  refine ⟨?_, ?_, ?_⟩
  · simp only [Device.fitModel, apply_ite (Device.beside thermBlank fitKey), Device.therm_setHold, h1, h2, ite_self]
    exact d.beside_setNums _ (fitKey_of_keys rfl)
  · simp only [Device.fitModel, apply_ite Device.therm, Device.setHold_therm, Device.setNum_therm, ite_self, Device.setNums_therm]
  · simp only [Device.fitModel, apply_ite Device.hold, apply_ite Holdover.samples, Device.setHold_hold, Device.setNum_hold, ite_self, Device.setNums_hold]

theorem Device.refitJudged_frame (st n : Nat) : (d.refitJudged st n).clock = d.clock ∧ (d.refitJudged st n).therm = d.therm ∧
    (d.refitJudged st n).hold = d.hold ∧ (d.refitJudged st n).staged = d.staged ∧ (d.refitJudged st n).models = d.models ∧
    ∀ k, k ≠ K.hoModelState → (d.refitJudged st n).num k = d.num k := by
  unfold Device.refitJudged
  split
  · obtain ⟨h1, h2, h3, h4, h5⟩ := d.setModel_frame 2 0
    exact ⟨h1, h2, h3, h4, h5, fun k => d.num_setModel_ne 2 0⟩
  · split
    · obtain ⟨h1, h2, h3, h4, h5⟩ := d.setModel_frame 1 0
      exact ⟨h1, h2, h3, h4, h5, fun k => d.num_setModel_ne 1 0⟩
    · exact ⟨rfl, rfl, rfl, rfl, rfl, fun _ _ => rfl⟩

theorem Device.refitJudged_of_learning (n : Nat) (h : d.nat K.hoModelState = 1) : (d.refitJudged 1 n).nat K.hoModelState =
    if d.nat K.hoLearnMin ≤ n ∧ d.num K.hoResidualRms ≤ d.num K.thermAccept then 2 else 1 := by
  rw [Device.refitJudged]
  by_cases hc : d.nat K.hoLearnMin ≤ n ∧ d.num K.hoResidualRms ≤ d.num K.thermAccept
  · rw [if_pos (by simpa using hc), if_pos hc, Device.nat_setModel_self]
  · rw [if_neg (by simpa using hc), if_neg hc, if_neg (by simp), h]

theorem Device.refitJudged_of_valid (n : Nat) (h : d.nat K.hoModelState = 2) : (d.refitJudged 2 n).nat K.hoModelState =
    if d.num K.thermReject < d.num K.hoResidualRms then 1 else 2 := by
  rw [Device.refitJudged, if_neg (by simp)]
  by_cases hc : d.num K.thermReject < d.num K.hoResidualRms
  · rw [if_pos (by simpa using hc), if_pos hc, Device.nat_setModel_self]
  · rw [if_neg (by simpa using hc), if_neg hc, h]

theorem Device.refitNow_of_few (h : d.windowSamples.length < 600) : d.refitNow = d.pruned := if_pos (by simp [h])

theorem Device.refitNow_of_many (h : 600 ≤ d.windowSamples.length) {st : Nat} (hst : d.nat K.hoModelState = st) (h12 : st = 1 ∨ st = 2) :
    d.refitNow = (d.pruned.fitModel d.windowSamples).refitJudged st d.windowSamples.length := by
  rw [Device.refitNow, hst, if_neg]
  simp only [Bool.or_eq_true, decide_eq_true_eq]
  omega

/-- What a refit publishes and keeps (R166, R167). -/
theorem Device.refitNow_frame : let t := d.refitNow
    let n := d.windowSamples.length
    t.clock = d.clock ∧ t.hold.samples = d.windowSamples ∧ t.therm = d.therm ∧ t.models = d.models
      ∧ (n < 600 → t.nat K.hoModelState = d.nat K.hoModelState ∧ t.num K.hoY0 = d.num K.hoY0 ∧ t.num K.hoAgeing = d.num K.hoAgeing)
      ∧ (600 ≤ n → d.nat K.hoModelState = 1 → t.nat K.hoModelState =
          if d.nat K.hoLearnMin ≤ n ∧ t.num K.hoResidualRms ≤ d.num K.thermAccept then 2 else 1)
      ∧ (600 ≤ n → d.nat K.hoModelState = 2 → t.nat K.hoModelState = if d.num K.thermReject < t.num K.hoResidualRms then 1 else 2) := by
  intro t n
  have hp : d.pruned.clock = d.clock ∧ d.pruned.hold.samples = d.windowSamples ∧ d.pruned.therm = d.therm ∧ d.pruned.models = d.models := ⟨rfl, rfl, rfl, rfl⟩
  have hpn {k : Nat} (h : windowKey k = false) : d.pruned.num k = d.num k := Device.noteWindow_num _ h
  obtain ⟨hpc, hps, hpt, hpm⟩ := hp
  obtain ⟨hfb, hft, hfs⟩ := d.pruned.fitModel_frame d.windowSamples
  have hfn {k : Nat} (h : windowKey k = false) (h' : fitKey k = false) : (d.pruned.fitModel d.windowSamples).num k = d.num k :=
    (num_of_beside hfb h').trans (hpn h)
  have hmany {st : Nat} (hst : d.nat K.hoModelState = st) (h12 : st = 1 ∨ st = 2) (hn : 600 ≤ n) :
      t = (d.pruned.fitModel d.windowSamples).refitJudged st n := d.refitNow_of_many hn hst h12
  have hcommon : t.clock = d.clock ∧ t.hold.samples = d.windowSamples ∧ t.therm = d.therm ∧ t.models = d.models := by
    show d.refitNow.clock = _ ∧ d.refitNow.hold.samples = _ ∧ d.refitNow.therm = _ ∧ d.refitNow.models = _
    unfold Device.refitNow
    split
    · exact ⟨hpc, hps, hpt, hpm⟩
    · obtain ⟨h1, h2, h3, -, h5, -⟩ := (d.pruned.fitModel d.windowSamples).refitJudged_frame (d.nat K.hoModelState) d.windowSamples.length
      rw [h1, h2, h3, h5]
      exact ⟨(therm_clock hfb).trans hpc, hfs.trans hps, hft.trans hpt, (therm_models hfb).trans hpm⟩
  obtain ⟨h1, h2, h3, h4⟩ := hcommon
  refine ⟨h1, h2, h3, h4, fun hn => ?_, fun hn hst => ?_, fun hn hst => ?_⟩
  · have ht : t = d.pruned := d.refitNow_of_few hn
    rw [ht]
    exact ⟨congrArg Int.toNat (hpn (by decide)), hpn (by decide), hpn (by decide)⟩
  · rw [hmany hst (.inl rfl) hn]
    obtain ⟨-, -, -, -, -, hnum⟩ := (d.pruned.fitModel d.windowSamples).refitJudged_frame 1 n
    rw [Device.refitJudged_of_learning _ _ ((congrArg Int.toNat (hfn (by decide) (by decide))).trans hst), hnum _ (by decide), hfn (k := K.thermAccept) (by decide) (by decide),
      Device.nat, hfn (k := K.hoLearnMin) (by decide) (by decide)]
    rfl
  · rw [hmany hst (.inr rfl) hn]
    obtain ⟨-, -, -, -, -, hnum⟩ := (d.pruned.fitModel d.windowSamples).refitJudged_frame 2 n
    rw [Device.refitJudged_of_valid _ _ ((congrArg Int.toNat (hfn (by decide) (by decide))).trans hst), hnum _ (by decide), hfn (k := K.thermReject) (by decide) (by decide)]

/-! ## Saves -/

/-- The newest number of a list of copies. -/
def newestGen (l : List (Option ModelCopy)) : Nat := (l.filterMap (fun m => m.map (·.gen))).foldl max 0

/-- The region that a save goes to: the one that does not hold the newest copy. -/
def saveRegion (l : List (Option ModelCopy)) : Nat := if l.findIdx (fun m => m.any (fun c => c.gen = newestGen l)) = 0 then 1 else 0

theorem le_foldl_max (l : List Nat) (n : Nat) : n ≤ l.foldl max n ∧ ∀ x ∈ l, x ≤ l.foldl max n := by
  induction l generalizing n with
  | nil => exact ⟨le_rfl, fun _ h => absurd h List.not_mem_nil⟩
  | cons a l ih =>
    obtain ⟨hn, hl⟩ := ih (max n a)
    refine ⟨(le_max_left n a).trans hn, fun x hx => ?_⟩
    rcases List.mem_cons.mp hx with rfl | hx
    · exact (le_max_right n x).trans hn
    · exact hl x hx

theorem le_newestGen {l : List (Option ModelCopy)} {m : ModelCopy} (h : some m ∈ l) : m.gen ≤ newestGen l :=
  (le_foldl_max _ 0).2 _ (List.mem_filterMap.mpr ⟨some m, h, rfl⟩)

/-- The copy that a save writes. -/
def Device.modelCopy (d : Device) : ModelCopy :=
  { gen := newestGen d.models + 1, good := true, vals := modelKeys.map d.num, samples := d.hold.samples }

theorem Device.saveModel_eq : d.saveModel = { d with models := d.models.modify (saveRegion d.models) (fun _ => some d.modelCopy) } := rfl

theorem newestGen_of_max {l : List (Option ModelCopy)} {m : ModelCopy} (hm : some m ∈ l) (hmax : ∀ o, some o ∈ l → o.gen ≤ m.gen) :
    newestGen l = m.gen := by
  refine le_antisymm ?_ (le_newestGen hm)
  have h : ∀ (l' : List Nat) (n : Nat), n ≤ m.gen → (∀ x ∈ l', x ≤ m.gen) → l'.foldl max n ≤ m.gen := by
    intro l'
    induction l' with
    | nil => exact fun n hn _ => hn
    | cons a l' ih => exact fun n hn hl => ih _ (max_le hn (hl a List.mem_cons_self)) fun x hx => hl x (List.mem_cons_of_mem a hx)
  refine h _ 0 (Nat.zero_le _) fun x hx => ?_
  obtain ⟨o, ho, hx⟩ := List.mem_filterMap.mp hx
  cases o with
  | none => exact absurd hx (by simp)
  | some o => exact Option.some.inj hx ▸ hmax o ho

/-- Of two regions one keeps the newest copy as the other is written. -/
theorem saveRegion_keeps {l : List (Option ModelCopy)} (hl : l.length = 2) (c : ModelCopy) {m : ModelCopy} (hm : some m ∈ l)
    (hmax : ∀ o, some o ∈ l → o.gen ≤ m.gen) :
    some m ∈ l.modify (saveRegion l) (fun _ => some c) ∨ ∃ o, some o ∈ l ∧ o ≠ m ∧ o.gen = m.gen := by
  have hgen := newestGen_of_max hm hmax
  obtain ⟨a, b, rfl⟩ := List.length_eq_two.mp hl
  by_cases hfirst : a.any (fun c => c.gen = newestGen [a, b]) = true
  · have hregion : saveRegion [a, b] = 1 := by simp [saveRegion, List.findIdx_cons, hfirst]
    rw [hregion]
    cases a with
    | none => exact absurd hfirst (by simp)
    | some o =>
      have ho : o.gen = m.gen := by simpa [hgen] using hfirst
      by_cases heq : o = m
      · exact .inl (by simp [heq])
      · exact .inr ⟨o, List.mem_cons_self, heq, ho⟩
  · have hregion : saveRegion [a, b] = 0 := by simp [saveRegion, List.findIdx_cons, hfirst]
    rw [hregion]
    refine .inl ?_
    rcases List.mem_cons.mp hm with rfl | hb
    · exact absurd (by simp [hgen]) hfirst
    · exact List.mem_cons_of_mem _ hb

theorem saveRegion_lt (l : List (Option ModelCopy)) : saveRegion l < 2 := by
  rw [saveRegion]
  split <;> decide

/-- R168: the save at this tick. -/
def Device.saveNow (d : Device) : Device :=
  let d1 := d.setHold (fun h => { h with lastSave := d.clock.ticks })
  if d.nat K.hoModelState = 2 && d.coreRuns 3 then d1.saveModel else d1

theorem Device.modelSave_eq : d.modelSave = (d.runTo (d.hold.lastSave + 3600 * sTicks)).saveNow := rfl

/-- R168: a VALID model is saved over a region that does not hold the newest copy. -/
theorem Device.saveNow_frame (hl : d.models.length = 2) : let t := d.saveNow
    t.clock = d.clock ∧ (∀ k, t.val k = d.val k)
      ∧ (d.nat K.hoModelState = 2 → d.coreRuns 3 = true →
          ∃ c, some c ∈ t.models ∧ c.good = true ∧ c.vals = modelKeys.map d.num ∧ c.samples = d.hold.samples
            ∧ (∀ m, some m ∈ d.models → m.gen < c.gen) ∧ (∀ m, some m ∈ d.models → (∀ o, some o ∈ d.models → o.gen ≤ m.gen) → some m ∈ t.models
                ∨ ∃ o, some o ∈ d.models ∧ o ≠ m ∧ o.gen = m.gen))
      ∧ (¬ (d.nat K.hoModelState = 2 ∧ d.coreRuns 3 = true) → t.models = d.models) := by
  have hval (f : Holdover → Holdover) (k : Nat) : (d.setHold f).val k = d.val k ∧ (d.setHold f).saveModel.val k = d.val k := ⟨rfl, rfl⟩
  by_cases h : d.nat K.hoModelState = 2 ∧ d.coreRuns 3 = true
  · have ht : d.saveNow = (d.setHold (fun h => { h with lastSave := d.clock.ticks })).saveModel := if_pos (by simpa using h)
    rw [ht]
    refine ⟨rfl, fun k => (hval _ k).2, fun _ _ => ⟨d.modelCopy, ?_, rfl, rfl, rfl, fun m hm => Nat.lt_succ_of_le (le_newestGen hm),
      fun m hm hmax => saveRegion_keeps hl _ hm hmax⟩, fun hno => absurd h hno⟩
    have hlt := saveRegion_lt d.models
    rw [Device.saveModel_eq]
    refine List.mem_iff_getElem.mpr ⟨saveRegion d.models, ?_, ?_⟩
    · show _ < (d.models.modify (saveRegion d.models) _).length
      rw [List.length_modify, hl]
      exact hlt
    · exact (List.getElem_modify ..).trans (if_pos rfl)
  · have ht : d.saveNow = d.setHold (fun h => { h with lastSave := d.clock.ticks }) := if_neg (by simpa using h)
    rw [ht]
    exact ⟨rfl, fun k => (hval _ k).1, fun h1 h2 => absurd ⟨h1, h2⟩ h, fun _ => rfl⟩

/-! ## HO_MODEL_CLEAR (Table 6-3) -/

theorem hoModelClear_row : dictFind (K.hoModelClear / 256) (K.hoModelClear % 256)
    = some ⟨0x2220, 0x2220, 0x13, 0x13, .uns 1, .wo, .num 0, .span 1 1, 0⟩ := rfl

theorem Device.lowAction_hoModelClear (a : Asker) (b : Bytes) : d.lowAction a K.hoModelClear b = some (answerOf d.writeModelClear) := by
  rw [Device.lowAction, if_neg (by decide), if_neg (by decide), if_neg (by decide), if_neg (by decide), if_neg (by decide), if_neg (by decide), if_pos rfl]

theorem State.hoModelClear_written (s : State) (h : HapHdr) (hw : s.writes h K.hoModelClear [1]) :
    exec (.hoModelClear h [1]) s = .next (s.wrote h K.hoModelClear [1] (answerOf (s.asWritten h K.hoModelClear [1]).writeModelClear)) :=
  congrArg Host.Outcome.next (s.lowCommand_written h hw hoModelClear_row rfl (by decide) (by decide) rfl (by decide)
    fun a _ _ => Device.lowAction_hoModelClear _ a _)

/-- A cleared model is EMPTY, its window gone. -/
theorem Device.emptyModel_clear : ((d.emptyModel 1).setNum K.hoUncScale 1).nat K.hoModelState = 0 ∧ ((d.emptyModel 1).setNum K.hoUncScale 1).hold.samples = [] := by
  rw [Device.nat_setNum, if_neg (by decide), Device.setNum_hold, Device.emptyModel, Device.nat_setModel_self, (Device.setModel_frame _ _ _).2.2.1]
  exact ⟨rfl, rfl⟩

end

/-- Settles O34: a sample, a refit, a save and a clear, each by what its one tick does. -/
theorem modelIsLearnedSavedCleared : Obligations.ModelIsLearnedSavedCleared := by
  refine ⟨fun s => ?_, fun s => ?_, fun s hl => ?_, fun s h => ?_⟩
  · intro d
    have hexec : exec .learningSample s = .next { s with dev := d.learnNow } := by rw [exec_learningSample, State.on, s.dev.learningSample_eq]
    clear_value d
    obtain ⟨h1, h2, h3, h4, h5, h6⟩ := d.learnNow_frame
    exact ⟨_, hexec, rfl, h1, h2, h3, h4, h5, h6, d.mayLearn_iff⟩
  · intro d n
    have hexec : exec .modelRefit s = .next { s with dev := d.refitNow } := by rw [exec_modelRefit, State.on, s.dev.modelRefit_eq]
    clear_value d
    exact ⟨_, hexec, rfl, d.refitNow_frame⟩
  · intro d
    have hexec : exec .modelSave s = .next { s with dev := d.saveNow } := by rw [exec_modelSave, State.on, s.dev.modelSave_eq]
    have hval (k : Nat) : d.val k = s.dev.val k := Device.runTo_val _ _ _
    have hlen : d.models.length = 2 := (congrArg List.length (s.dev.runTo_models _)).trans hl
    clear_value d
    obtain ⟨h1, h2, h3, h4⟩ := d.saveNow_frame hlen
    exact ⟨_, hexec, rfl, h1, fun k => (h2 k).trans (hval k), h3, h4⟩
  · intro d hw
    refine ⟨fun ha => ?_, fun ha => ⟨?_, d.emptyModel_clear⟩⟩
    · rw [s.hoModelClear_written h hw, Device.writeModelClear, if_pos ha]
      rfl
    · rw [s.hoModelClear_written h hw, Device.writeModelClear, if_neg (by rw [ha]; exact Bool.false_ne_true)]
      rfl

end Sys2Proof.Machine
end

section
/-! Chapter 6: temperature readings and their faults (R163, R164, R171). -/

namespace Sys2Proof.Machine

section
variable (d : Device)

theorem Device.setTempFault_frame (b : Bool) : (d.setTempFault b).clock = d.clock ∧ (d.setTempFault b).therm = d.therm ∧
    (d.setTempFault b).hold = { d.hold with tempFault := b } ∧ (∀ k, (d.setTempFault b).val k = d.val k) ∧
    (d.setTempFault b).entries = d.entries ++ (if d.hold.tempFault = b then [] else [(0x040A, [if b then 1 else 0, d.num K.hoTempSrc])]) := by
  unfold Device.setTempFault
  split
  · rename_i h
    subst h
    exact ⟨rfl, rfl, rfl, fun _ => rfl, (List.append_nil _).symm⟩
  · exact ⟨rfl, rfl, rfl, fun _ => rfl, Device.entries_report _ _ _⟩

/-- R163: does a conversion count as a fault. -/
def Device.tempBad (d : Device) (dieOk : Bool) (ohms : Nat) : Bool :=
  ohms < 100 || 1000000 < ohms || !dieOk || (d.nat K.hoTempSrc = 2 && d.hold.hostAt + 10 * sTicks ≤ d.clock.ticks)

/-- R163: what the selected source reads. -/
def Device.tempRead (d : Device) (die : Int) (ohms : Nat) : Int :=
  if d.nat K.hoTempSrc = 0 then die else if d.nat K.hoTempSrc = 1 then ntcTemp (d.nat K.hoNtcB) ohms else d.num K.hoTempHost

/-- The part with a reading published, which a fault keeps back. -/
def Device.tempTaken (d : Device) (fault : Bool) (theta : Int) : Device :=
  if fault then d.setTempFault fault else (d.setTempFault fault).setNum K.hoTempNow theta

/-- The part with the reading published entered into the history. -/
def Device.tempKept (d : Device) (tick : Nat) : Device :=
  d.setHold (fun h => { h with
    lastTemp := tick
    temps := (tick, d.num K.hoTempNow) :: h.temps.filter (fun e => tick ≤ e.1 + 1000 * sTicks) })

/-- The sample at this tick; FB_DIE_TEMP shows what a sound die sensor reads (R539). -/
def Device.tempNow (d : Device) (die : Int) (dieOk : Bool) (ohms : Nat) : Device :=
  let x := ((d.tempTaken (d.tempBad dieOk ohms) (d.tempRead die ohms)).tempKept d.clock.ticks).accrueTemp
  if dieOk then x.setNum K.fbDieTemp die else x

theorem exec_tempSample (s : State) (die : Int) (dieOk : Bool) (ohms : Nat) : exec (.tempSample die dieOk ohms) s =
    .next (s.on (fun d => (d.runTo (d.hold.lastTemp + sTicks / 10)).tempNow die dieOk ohms)) := rfl

theorem exec_tempHostTimeout (s : State) : exec .tempHostTimeout s = .next (s.on (·.tempHostTimeout)) := rfl

theorem Device.tempBad_iff (dieOk : Bool) (ohms : Nat) : d.tempBad dieOk ohms = true ↔ (ohms < 100 ∨ 1000000 < ohms ∨ dieOk = false ∨
    (d.nat K.hoTempSrc = 2 ∧ d.hold.hostAt + 10 * sTicks ≤ d.clock.ticks)) := by
  simp only [Device.tempBad, Bool.or_eq_true, Bool.and_eq_true, decide_eq_true_eq, Bool.not_eq_true', or_assoc]

theorem Device.tempTaken_frame (fault : Bool) (theta : Int) : let t := d.tempTaken fault theta
    t.clock = d.clock ∧ t.therm = d.therm ∧ t.hold = { d.hold with tempFault := fault } ∧ t.num K.hoTempNow = (if fault then d.num K.hoTempNow else theta)
      ∧ t.entries = d.entries ++ (if d.hold.tempFault = fault then [] else [(0x040A, [if fault then 1 else 0, d.num K.hoTempSrc])]) := by
  obtain ⟨hc, ht, hh, hv, he⟩ := d.setTempFault_frame fault
  intro t
  show (d.tempTaken fault theta).clock = _ ∧ (d.tempTaken fault theta).therm = _ ∧ (d.tempTaken fault theta).hold = _ ∧
    (d.tempTaken fault theta).num K.hoTempNow = _ ∧ (d.tempTaken fault theta).entries = _
  cases fault with
  | true => exact ⟨hc, ht, hh, congrArg Val.int (hv _), he⟩
  | false => exact ⟨hc, ht, hh, Device.num_setNum_self _ _ _, he⟩

/-- R171: the bound's sum grows by the reading's distance. -/
theorem Device.accrueTemp_frame : d.accrueTemp.clock = d.clock ∧ d.accrueTemp.therm = d.therm ∧ d.accrueTemp.obj = d.obj ∧ d.accrueTemp.attic = d.attic ∧
    d.accrueTemp.hold = { d.hold with sum := d.hold.sum + (if d.hold.active = true ∧ d.hold.freqOnly = false then
      (if d.hold.tempFault then 10000 else (d.num K.hoTempNow - d.hold.theta0).natAbs) else 0) } := by
  unfold Device.accrueTemp
  by_cases h : d.hold.active = true ∧ d.hold.freqOnly = false
  · rw [if_neg (by simp [h.1, h.2]), if_pos h]
    exact ⟨rfl, rfl, rfl, rfl, rfl⟩
  · rw [if_pos (by simpa [imp_iff_not_or] using h), if_neg h]
    exact ⟨rfl, rfl, rfl, rfl, rfl⟩

/-- The reading, the fault and the bound's sum at this tick. -/
theorem Device.tempNow_frame (die : Int) (dieOk : Bool) (ohms : Nat) : let t := d.tempNow die dieOk ohms
    t.clock = d.clock ∧ t.therm = d.therm ∧ t.hold.tempFault = d.tempBad dieOk ohms
      ∧ t.num K.hoTempNow = (if d.tempBad dieOk ohms then d.num K.hoTempNow else d.tempRead die ohms)
      ∧ (dieOk = true → t.num K.fbDieTemp = die)
      ∧ t.entries = d.entries ++ (if d.hold.tempFault = t.hold.tempFault then [] else [(0x040A, [if t.hold.tempFault then 1 else 0, d.num K.hoTempSrc])])
      ∧ t.hold.sum = d.hold.sum + (if d.hold.active = true ∧ d.hold.freqOnly = false then
          (if t.hold.tempFault then 10000 else (t.num K.hoTempNow - d.hold.theta0).natAbs) else 0) := by
  obtain ⟨hc, ht, hh, hn, he⟩ := d.tempTaken_frame (d.tempBad dieOk ohms) (d.tempRead die ohms)
  intro t
  have htt : t = (if dieOk then (((d.tempTaken (d.tempBad dieOk ohms) (d.tempRead die ohms)).tempKept d.clock.ticks).accrueTemp).setNum K.fbDieTemp die
    else ((d.tempTaken (d.tempBad dieOk ohms) (d.tempRead die ohms)).tempKept d.clock.ticks).accrueTemp) := rfl
  generalize d.tempTaken (d.tempBad dieOk ohms) (d.tempRead die ohms) = x at *
  have hkept : (x.tempKept d.clock.ticks).clock = x.clock ∧ (x.tempKept d.clock.ticks).therm = x.therm ∧ (x.tempKept d.clock.ticks).obj = x.obj ∧
      (x.tempKept d.clock.ticks).attic = x.attic ∧ (x.tempKept d.clock.ticks).hold.tempFault = x.hold.tempFault ∧
      (x.tempKept d.clock.ticks).hold.sum = x.hold.sum ∧ (x.tempKept d.clock.ticks).hold.active = x.hold.active ∧
      (x.tempKept d.clock.ticks).hold.freqOnly = x.hold.freqOnly ∧ (x.tempKept d.clock.ticks).hold.theta0 = x.hold.theta0 :=
    ⟨rfl, rfl, rfl, rfl, rfl, rfl, rfl, rfl, rfl⟩
  generalize x.tempKept d.clock.ticks = y at *
  obtain ⟨yc, yt, yo, ya, yf, ys, yact, yfo, yth⟩ := hkept
  obtain ⟨zc, zt, zo, za, zh⟩ := y.accrueTemp_frame
  generalize y.accrueTemp = z at *
  have hyn : y.num K.hoTempNow = x.num K.hoTempNow := num_of_obj yo _
  have hzn : z.num K.hoTempNow = x.num K.hoTempNow := (num_of_obj zo _).trans hyn
  have hfault : z.hold.tempFault = d.tempBad dieOk ohms := by
    rw [zh]
    exact yf.trans (congrArg Holdover.tempFault hh)
  have hsum : z.hold.sum = d.hold.sum + (if d.hold.active = true ∧ d.hold.freqOnly = false then
      (if z.hold.tempFault then 10000 else (z.num K.hoTempNow - d.hold.theta0).natAbs) else 0) := by
    rw [hfault, zh]
    dsimp only
    rw [ys, yact, yfo, yf, yth, hyn, hzn, hh]
  have hent : z.entries = d.entries ++ (if d.hold.tempFault = z.hold.tempFault then [] else [(0x040A, [if z.hold.tempFault then 1 else 0, d.num K.hoTempSrc])]) := by
    rw [hfault, Device.entries_of_attic (za.trans ya), he]
  have hset : (z.setNum K.fbDieTemp die).num K.hoTempNow = z.num K.hoTempNow := by rw [Device.num_setNum, if_neg (by decide)]
  have hclock := zc.trans (yc.trans hc)
  have htherm := zt.trans (yt.trans ht)
  have hnow := hzn.trans hn
  rw [htt]
  cases dieOk with
  | false => exact ⟨hclock, htherm, hfault, hnow, fun h => absurd h Bool.false_ne_true, hent, hsum⟩
  | true =>
    rw [if_pos rfl, hset]
    exact ⟨hclock, htherm, hfault, hnow, fun _ => Device.num_setNum_self _ _ _, hent, hsum⟩

end

/-- Settles O35: a sound reading is published and ends the fault, a fault keeps the last one and counts as 10 °C. -/
theorem temperatureReadingsAndFaults : Obligations.TemperatureReadingsAndFaults := by
  refine ⟨fun s die dieOk ohms => ?_, fun s => ⟨fun h => ?_, fun h => ?_⟩⟩
  · intro d src fault
    have hexec : exec (.tempSample die dieOk ohms) s = .next { s with dev := d.tempNow die dieOk ohms } := by rw [exec_tempSample, State.on]
    have hfault : fault ↔ d.tempBad dieOk ohms = true := (d.tempBad_iff dieOk ohms).symm
    have hread : d.tempRead die ohms = if src = 0 then die else if src = 1 then ntcTemp (d.nat K.hoNtcB) ohms else d.num K.hoTempHost := rfl
    clear_value fault src d
    obtain ⟨h1, h2, h3, h4, h5, h6, h7⟩ := d.tempNow_frame die dieOk ohms
    refine ⟨_, hexec, rfl, h1, h2, fun hf => ?_, fun hf => ?_, h5, newReports_of_entries h6, h7⟩
    · have hb := hfault.mp hf
      rw [hb] at h3 h4
      exact ⟨h4, h3⟩
    · have hb : d.tempBad dieOk ohms = false := Bool.eq_false_iff.mpr (mt hfault.mpr hf)
      rw [hb] at h3 h4
      exact ⟨h3, h4.trans hread⟩
  · rw [exec_tempHostTimeout, State.on, Device.tempHostTimeout, if_neg h]
  · rw [exec_tempHostTimeout, State.on, Device.tempHostTimeout, if_pos h]
    obtain ⟨hc, -, hh, hv, -⟩ := (s.dev.runTo (s.dev.hold.hostAt + 10 * sTicks)).setTempFault_frame true
    exact ⟨_, rfl, rfl, hc, hh.trans (by rw [Device.runTo_hold]), fun k => (hv k).trans (Device.runTo_val _ _ _)⟩

end Sys2Proof.Machine
end

section
/-! What a port's loss of its link, and what follows of it, can change (R117, R280, R369, R395, R434). -/

namespace Sys2Proof.Machine

/-- What follows of a link's change may touch: live values, reports, Thermostat, and the state of ports, Parlour, PTP and the Ledger. -/
def linkBlank : Blank :=
  { clear := fun d => { d with obj := [], lost := [], attic := {}, therm := {}, ports := [], parl := {}, ptp := [], ledger := {} },
    clear_setVal := fun _ _ _ => rfl }

/-- The objects that what follows of a link's change may touch: none below Thermostat's, and none of a port's own. -/
def followKey (k : Nat) : Bool := (0x2200 * 256 ≤ k && k < 0x3000 * 256) || 0x302C * 256 ≤ k

theorem followKey_cand (n : Nat) (h : n < 16) : followKey (K.thermRefState n) = true ∧ followKey (K.thermRefReason n) = true ∧
    followKey (K.thermRefQl n) = true := by
  have : ∀ n < 16, followKey (K.thermRefState n) = true ∧ followKey (K.thermRefReason n) = true ∧ followKey (K.thermRefQl n) = true := by decide
  exact this n h

theorem followKey_inst (n : Nat) (h : n < 8) : followKey (K.domState n) = true ∧ followKey (K.instFreeBound n) = true ∧
    followKey (K.instPortState n) = true ∧ followKey (K.instGmId n) = true ∧ followKey (K.instGmClass n) = true ∧ followKey (K.instGmAccuracy n) = true := by
  have : ∀ n < 8, followKey (K.domState n) = true ∧ followKey (K.instFreeBound n) = true ∧
    followKey (K.instPortState n) = true ∧ followKey (K.instGmId n) = true ∧ followKey (K.instGmClass n) = true ∧ followKey (K.instGmAccuracy n) = true := by
    decide
  exact this n h

theorem followKey_ring (g : Nat) : followKey (K.ringLinkDiscard g) = true := by
  refine Bool.or_eq_true_iff.mpr (.inr (decide_eq_true ?_))
  simp only [K.ringLinkDiscard]
  omega

section
variable {d e : Device}

theorem link_clock {C : Nat → Bool} (h : e.beside linkBlank C = d.beside linkBlank C) : e.clock = d.clock := congrArg (fun x => x.1.clock) h
theorem link_staged {C : Nat → Bool} (h : e.beside linkBlank C = d.beside linkBlank C) : e.staged = d.staged := congrArg (fun x => x.1.staged) h
theorem link_hold {C : Nat → Bool} (h : e.beside linkBlank C = d.beside linkBlank C) : e.hold = d.hold := congrArg (fun x => x.1.hold) h

variable (d) {C : Nat → Bool}

@[simp] theorem Device.link_report (code : Nat) (p : List Int) : (d.report code p).beside linkBlank C = d.beside linkBlank C := (rfl)
@[simp] theorem Device.link_setCandU (n : Nat) (f : Cand → Cand) : (d.setCandU n f).beside linkBlank C = d.beside linkBlank C := (rfl)
@[simp] theorem Device.link_leaveState (n : Nat) : (d.leaveState n).beside linkBlank C = d.beside linkBlank C := (rfl)
@[simp] theorem Device.link_restartGate (n : Nat) : (d.restartGate n).beside linkBlank C = d.beside linkBlank C := (rfl)
@[simp] theorem Device.link_setPort (p : Nat) (f : PortUnit → PortUnit) : (d.setPort p f).beside linkBlank C = d.beside linkBlank C := (rfl)
@[simp] theorem Device.link_setParl (f : Parl → Parl) : (d.setParl f).beside linkBlank C = d.beside linkBlank C := (rfl)
@[simp] theorem Device.link_setInst (n : Nat) (f : PtpInst → PtpInst) : (d.setInst n f).beside linkBlank C = d.beside linkBlank C := (rfl)
@[simp] theorem Device.link_setPtpPort (n p : Nat) (f : PtpPort → PtpPort) : (d.setPtpPort n p f).beside linkBlank C = d.beside linkBlank C := (rfl)
@[simp] theorem Device.link_setLedger (f : Ledger → Ledger) : (d.setLedger f).beside linkBlank C = d.beside linkBlank C := (rfl)
@[simp] theorem Device.link_setBatch (id : Nat) (f : Batch → Batch) : (d.setBatch id f).beside linkBlank C = d.beside linkBlank C := (rfl)

/-! ## Candidates of PTP instances -/

section
variable {n : Nat} (hs : C (K.thermRefState n) = true) (hr : C (K.thermRefReason n) = true)

include hs in
theorem Device.link_setRef (st : Nat) : (d.setRef n st).beside linkBlank C = d.beside linkBlank C := by
  simp only [Device.setRef, apply_ite (Device.beside linkBlank C), Device.link_leaveState, Device.beside_setNum _ _ hs, Device.link_report, ite_self]

include hs hr in
theorem Device.link_disqualify (reason : Nat) (p2 : Int) : (d.disqualify n reason p2).beside linkBlank C = d.beside linkBlank C := by
  simp only [Device.disqualify, Device.link_setCandU, Device.link_setRef _ hs, Device.link_report, Device.beside_setNum _ _ hr]

include hs hr in
theorem Device.link_setSource (b : Bool) : (d.setSource n b).beside linkBlank C = d.beside linkBlank C := by
  have hpresent (x : Device) : (x.activityPresent n).beside linkBlank C = x.beside linkBlank C := by
    unfold Device.activityPresent
    simp only [apply_ite (Device.beside linkBlank C), Device.link_restartGate, Device.link_disqualify _ hs hr, Device.link_setRef _ hs, Device.link_setCandU,
      ite_self]
  have habsent (x : Device) : (x.activityAbsent n).beside linkBlank C = x.beside linkBlank C := by
    simp only [Device.activityAbsent, apply_ite (Device.beside linkBlank C), Device.link_setCandU, Device.link_setRef _ hs, Device.beside_setNum _ _ hr,
      ite_self]
  simp only [Device.setSource, Device.syncActivity, apply_ite (Device.beside linkBlank C), hpresent, habsent, Device.link_setCandU, ite_self]

include hs hr in
theorem Device.link_parentJump : (d.parentJump n).beside linkBlank C = d.beside linkBlank C := by
  simp only [Device.parentJump, apply_ite (Device.beside linkBlank C), Device.link_restartGate, Device.link_disqualify _ hs hr, Device.link_setRef _ hs,
    Device.link_setCandU, ite_self]

theorem Device.link_advertiseQl (q : Nat) (hq : C (K.thermRefQl n) = true) : (d.advertiseQl n q).beside linkBlank C = d.beside linkBlank C := by
  simp only [Device.advertiseQl, Device.refreshQl, apply_ite (Device.beside linkBlank C), Device.beside_setNum _ _ hq, Device.link_report,
    Device.link_setCandU, ite_self]

end

/-! ## PTP instances -/

section
variable {n : Nat} (hn : n < 8)
include hn

theorem Device.link_setDomState (st : Nat) : (d.setDomState n st).beside linkBlank followKey = d.beside linkBlank followKey := by
  obtain ⟨hd, hb, -⟩ := followKey_inst n hn
  simp only [Device.setDomState, Device.refreshBound, apply_ite (Device.beside linkBlank followKey), Device.link_report, Device.beside_setNum _ _ hb,
    Device.link_setInst, Device.beside_setNum _ _ hd, ite_self]

theorem Device.link_receiverUp (p : Nat) : (d.receiverUp n p).beside linkBlank followKey = d.beside linkBlank followKey := by
  obtain ⟨hs, hr, hq⟩ := followKey_cand (5 + n) (by omega)
  unfold Device.receiverUp
  split
  · rfl
  · rw [Device.link_setSource _ hs hr, Device.link_advertiseQl _ _ hq]

theorem Device.link_receiverDown : (d.receiverDown n).beside linkBlank followKey = d.beside linkBlank followKey := by
  obtain ⟨hs, hr, -⟩ := followKey_cand (5 + n) (by omega)
  simp only [Device.receiverDown, Device.freeLost, apply_ite (Device.beside linkBlank followKey), Device.link_setSource _ hs hr,
    Device.link_setDomState _ hn, ite_self]

theorem Device.link_movePort (p st : Nat) : (d.movePort n p st).beside linkBlank followKey = d.beside linkBlank followKey := by
  obtain ⟨-, -, hp, -⟩ := followKey_inst n hn
  simp only [Device.movePort, Device.setPtpState, apply_ite (Device.beside linkBlank followKey), Device.link_receiverUp _ hn, Device.link_receiverDown _ hn,
    Device.link_setPtpPort, Device.link_report, Device.beside_setOct _ _ hp, ite_self]

theorem Device.link_ptpInit (p : Nat) : (d.ptpInit n p).beside linkBlank followKey = d.beside linkBlank followKey := by
  simp only [Device.ptpInit, apply_ite (Device.beside linkBlank followKey), Device.link_movePort _ hn, Device.link_setPtpPort, ite_self]

theorem Device.link_setParent (a : Option Announce) : (d.setParent n a).beside linkBlank followKey = d.beside linkBlank followKey := by
  obtain ⟨hs, hr, -⟩ := followKey_cand (5 + n) (by omega)
  obtain ⟨-, -, -, hid, hcls, hacc⟩ := followKey_inst n hn
  have hshow (x : Device) : (x.showParent n a).beside linkBlank followKey = x.beside linkBlank followKey := by
    cases a <;> simp only [Device.showParent, Device.beside_setNum _ _ hacc, Device.beside_setNum _ _ hcls, Device.beside_setOct _ _ hid]
  simp only [Device.setParent, apply_ite (Device.beside linkBlank followKey), Device.link_parentJump _ hs hr, Device.link_report, hshow, Device.link_setInst,
    ite_self]

end

theorem Device.link_ptpLink (p : Nat) : (d.ptpLink p).beside linkBlank followKey = d.beside linkBlank followKey := by
  refine d.beside_foldl _ fun x n hn => ?_
  have hn := List.mem_range.mp hn
  simp only [apply_ite (Device.beside linkBlank followKey), Device.link_ptpInit _ hn, Device.link_movePort _ hn, Device.link_setParent _ hn, ite_self]

/-! ## Parlour and the Ledger -/

theorem Device.link_parlLinkLost (p : Nat) : (d.parlLinkLost p).beside linkBlank followKey = d.beside linkBlank followKey := by
  rw [Device.parlLinkLost, Device.link_setParl]
  exact d.beside_foldl _ fun x f _ => x.beside_bump (followKey_ring f.ring)

theorem Device.link_batchDone (id : Nat) : (d.batchDone id).beside linkBlank followKey = d.beside linkBlank followKey := by
  unfold Device.batchDone
  split
  · rfl
  · rw [apply_ite (Device.beside linkBlank followKey), apply_ite (Device.beside linkBlank followKey), Device.beside_bumpBy _ _ _ (by decide),
      Device.beside_bump64 _ (by decide), Device.link_setLedger, ite_self, ite_self]

theorem Device.link_leafGone (id idx : Nat) : (d.leafGone id idx).beside linkBlank followKey = d.beside linkBlank followKey := by
  rw [Device.leafGone, Device.link_batchDone, Device.link_setBatch]

theorem Device.link_ledgerLinkLost (p : Nat) : (d.ledgerLinkLost p).beside linkBlank followKey = d.beside linkBlank followKey := by
  rw [Device.ledgerLinkLost, Device.link_setLedger]
  have hbump (x : Device) (g : Nat) : (x.bump (K.ringLinkDiscard g)).beside linkBlank followKey = x.beside linkBlank followKey :=
    x.beside_bump (followKey_ring g)
  refine (Device.beside_foldl _ _ fun x l _ => ?_).trans (d.beside_foldl _ fun x b _ => x.beside_foldl _ fun y l _ => ?_)
  · rw [apply_ite (Device.beside linkBlank followKey), hbump, ite_self]
  · rw [apply_ite (Device.beside linkBlank followKey), Device.link_leafGone, hbump, ite_self]

/-- What follows of a port's link. -/
theorem Device.link_portFollow (d0 : Device) (p : Nat) : (d.portFollow d0 p).beside linkBlank followKey = d.beside linkBlank followKey := by
  simp only [Device.portFollow, Device.link_ptpLink, apply_ite (Device.beside linkBlank followKey), Device.link_ledgerLinkLost, Device.link_parlLinkLost,
    ite_self]

end

end Sys2Proof.Machine
end

section
/-! Reports of what follows of a link's loss are added behind those that stand. -/

namespace Sys2Proof.Machine

section
variable {d e f : Device} (h : d.Adds e)
include h

/-! ## One operation more -/

theorem Device.Adds.of_attic (he : f.attic = e.attic) : d.Adds f := h.trans (Device.adds_of_attic he)
theorem Device.Adds.report (code : Nat) (p : List Int) : d.Adds (e.report code p) := h.trans (e.adds_report code p)
theorem Device.Adds.setNum (k : Nat) (v : Int) : d.Adds (e.setNum k v) := h.of_attic (e.setNum_attic k v)
theorem Device.Adds.setOct (k : Nat) (v : Bytes) : d.Adds (e.setOct k v) := h.of_attic (e.setOct_attic k v)
theorem Device.Adds.bump (k : Nat) : d.Adds (e.bump k) := h.of_attic (e.bump_attic k)
theorem Device.Adds.setCandU (n : Nat) (g : Cand → Cand) : d.Adds (e.setCandU n g) := h.of_attic (e.setCandU_attic n g)
theorem Device.Adds.leaveState (n : Nat) : d.Adds (e.leaveState n) := h.setCandU n _
theorem Device.Adds.restartGate (n : Nat) : d.Adds (e.restartGate n) := h.setCandU n _
theorem Device.Adds.setInst (n : Nat) (g : PtpInst → PtpInst) : d.Adds (e.setInst n g) := h.of_attic (e.setInst_attic n g)
theorem Device.Adds.setPtpPort (n p : Nat) (g : PtpPort → PtpPort) : d.Adds (e.setPtpPort n p g) := h.setInst n _
theorem Device.Adds.setPort (p : Nat) (g : PortUnit → PortUnit) : d.Adds (e.setPort p g) := h.of_attic (e.setPort_attic p g)

/-! ## Candidates of PTP instances -/

theorem Device.Adds.setRef (n st : Nat) : d.Adds (e.setRef n st) := by
  unfold Device.setRef
  exact Device.adds_ite h (Device.adds_ite (((h.report _ _).setNum _ _).leaveState _) ((h.report _ _).setNum _ _))

theorem Device.Adds.disqualify (n reason : Nat) (p2 : Int) : d.Adds (e.disqualify n reason p2) := by
  unfold Device.disqualify
  exact (((h.setNum _ _).report _ _).setRef n 2).setCandU _ _

theorem Device.Adds.activityPresent (n : Nat) : d.Adds (e.activityPresent n) := by
  unfold Device.activityPresent
  have h1 := h.setCandU n (fun c => { c with active := true, parentChanged := false })
  exact Device.adds_ite h (Device.adds_ite (Device.adds_ite (((h1.setCandU _ _).disqualify _ _ _).restartGate _) ((h1.setCandU _ _).setRef _ _))
    (Device.adds_ite (((h1.setRef _ _).restartGate _).setRef _ _) (Device.adds_ite ((h1.restartGate _).setRef _ _) h1)))

theorem Device.Adds.activityAbsent (n : Nat) : d.Adds (e.activityAbsent n) := by
  unfold Device.activityAbsent
  have h1 := (h.setNum (K.thermRefReason n) 1).setCandU n
  exact Device.adds_ite h (Device.adds_ite ((h1 _).setRef _ _) ((h1 _).setRef _ _))

theorem Device.Adds.setSource (n : Nat) (b : Bool) : d.Adds (e.setSource n b) := by
  unfold Device.setSource Device.syncActivity
  exact Device.adds_ite ((h.setCandU _ _).activityPresent _) ((h.setCandU _ _).activityAbsent _)

theorem Device.Adds.advertiseQl (n q : Nat) : d.Adds (e.advertiseQl n q) := by
  unfold Device.advertiseQl Device.refreshQl
  exact Device.adds_ite (h.setCandU _ _) (((h.setCandU _ _).report _ _).setNum _ _)

theorem Device.Adds.parentJump (n : Nat) : d.Adds (e.parentJump n) := by
  unfold Device.parentJump
  have h1 := h.setCandU n (fun c => { c with parentChanged := false, lastPhase := none })
  have h2 (c c' : Prop) [Decidable c] [Decidable c'] (p : Int) :=
    Device.adds_ite (c := c) (h1.disqualify n 3 p) (Device.adds_ite (c := c') (h1.setRef n 2) h1)
  exact Device.adds_ite (h.setCandU _ _) ((h2 _ _ _).restartGate _)

/-! ## PTP instances -/

theorem Device.Adds.setDomState (n st : Nat) : d.Adds (e.setDomState n st) := by
  unfold Device.setDomState Device.refreshBound
  have h1 (c : Prop) [Decidable c] (g : PtpInst → PtpInst) := Device.adds_ite (c := c) (h.setInst n g) h
  exact Device.adds_ite h (((((h1 _ _).setNum _ _).setInst _ _).setNum _ _).report _ _)

theorem Device.Adds.receiverUp (n p : Nat) : d.Adds (e.receiverUp n p) := by
  unfold Device.receiverUp
  exact Device.adds_ite h ((h.advertiseQl _ _).setSource _ _)

theorem Device.Adds.receiverDown (n : Nat) : d.Adds (e.receiverDown n) := by
  unfold Device.receiverDown Device.freeLost
  have h1 (c c' : Prop) [Decidable c] [Decidable c'] := Device.adds_ite (c := c) (Device.adds_ite (c := c') (h.setDomState n 4) h) h
  exact Device.adds_ite ((h1 _ _).setSource _ _) (h1 _ _)

theorem Device.Adds.movePort (n p st : Nat) : d.Adds (e.movePort n p st) := by
  have hs : d.Adds (e.setPtpState n p st) := by
    unfold Device.setPtpState
    exact Device.adds_ite h ((h.setOct _ _).report _ _)
  unfold Device.movePort
  have h1 := hs.setPtpPort n p (fun u => { u with qualDue := none })
  exact Device.adds_ite h (Device.adds_ite (h1.receiverDown _) (Device.adds_ite ((h1.setPtpPort _ _ _).receiverUp _ _) h1))

theorem Device.Adds.ptpInit (n p : Nat) : d.Adds (e.ptpInit n p) := by
  unfold Device.ptpInit
  have h1 := h.setPtpPort n p (fun u => { u with annSince := e.clock.ticks, annRun := false, lost := 0 })
  exact Device.adds_ite (h1.movePort _ _ _) (Device.adds_ite (h1.movePort _ _ _) (Device.adds_ite (h1.movePort _ _ _) (h1.movePort _ _ _)))

theorem Device.Adds.setParent (n : Nat) (a : Option Announce) : d.Adds (e.setParent n a) := by
  have hshow {x : Device} (hx : d.Adds x) : d.Adds (x.showParent n a) := by
    cases a with
    | none => exact ((hx.setOct _ _).setNum _ _).setNum _ _
    | some a => exact ((hx.setOct _ _).setNum _ _).setNum _ _
  unfold Device.setParent
  have h2 := hshow (h.setInst n (fun i => { i with parent := a, lastSender := (a.map (·.sender)).or i.lastSender }))
  exact Device.adds_ite h2 (Device.adds_ite (h2.report _ _) ((h2.report _ _).parentJump _))

end

section
variable {d e : Device} (h : d.Adds e)

theorem Device.Adds.foldl {α : Type} {f : Device → α → Device} (l : List α) (hf : ∀ (x : Device) (a : α), d.Adds x → d.Adds (f x a)) (h : d.Adds e) :
    d.Adds (l.foldl f e) := by
  induction l generalizing e with
  | nil => exact h
  | cons a l ih => exact ih (hf _ a h)

include h

theorem Device.Adds.ptpLink (p : Nat) : d.Adds (e.ptpLink p) := by
  refine h.foldl _ fun x n hx => ?_
  exact Device.adds_ite hx (Device.adds_ite (Device.adds_ite ((hx.movePort _ _ _).ptpInit _ _) hx) (Device.adds_ite hx
    (Device.adds_ite ((hx.movePort _ _ _).setParent _ _) (hx.movePort _ _ _))))

/-! ## Parlour, the Ledger and the port -/

theorem Device.Adds.parlLinkLost (p : Nat) : d.Adds (e.parlLinkLost p) := by
  unfold Device.parlLinkLost
  exact (h.foldl _ fun x _ hx => hx.bump _).of_attic rfl

theorem Device.Adds.leafGone (id idx : Nat) : d.Adds (e.leafGone id idx) := by
  have h1 : d.Adds (e.setBatch id (fun b => { b with leaves := b.leaves.map (fun x => if x.id = idx then { x with gone := true } else x) })) :=
    h.of_attic rfl
  unfold Device.leafGone Device.batchDone
  split
  · exact h1
  · exact Device.adds_ite h1 (Device.adds_ite (h1.of_attic rfl) (h1.of_attic rfl))

theorem Device.Adds.ledgerLinkLost (p : Nat) : d.Adds (e.ledgerLinkLost p) := by
  unfold Device.ledgerLinkLost
  refine Device.Adds.of_attic (Device.Adds.foldl _ (fun x l hx => ?_) (h.foldl _ fun x b hx => hx.foldl _ fun y l hy => ?_)) rfl
  · exact Device.adds_ite (hx.bump _) hx
  · exact Device.adds_ite ((hy.bump _).leafGone _ _) hy

theorem Device.Adds.portFollow (d0 : Device) (p : Nat) : d.Adds (e.portFollow d0 p) := by
  unfold Device.portFollow
  exact (Device.adds_ite ((h.parlLinkLost p).ledgerLinkLost p) h).ptpLink p

theorem Device.Adds.setLink (p st cause : Nat) : d.Adds (e.setLink p st cause) := by
  have hplca {x : Device} (hx : d.Adds x) (v : Nat) : d.Adds (x.setPlca p v) := by
    unfold Device.setPlca
    exact Device.adds_ite hx ((hx.setNum _ _).report _ _)
  unfold Device.setLink
  have h2 := ((h.setNum (K.portLinkState p) st).report 0x0801 [p, e.link p, st, cause]).setPort p (fun u => { u with cause := cause })
  exact Device.adds_ite h (Device.adds_ite ((hplca h2 0).setPort _ _) h2)

/-- A fault of the root silences a port (R117). -/
theorem Device.Adds.linkLost_fault (p : Nat) : d.Adds (e.linkLost p 2) :=
  Device.adds_ite ((h.setLink p 1 2).setPort _ _) (Device.adds_ite (h.setLink p 5 2) (Device.adds_ite (h.setLink p 1 2) h))

theorem Device.Adds.wakeOnT5 (d0 : Device) : d.Adds (e.wakeOnT5 d0) := h.trans (e.adds_wakeOnT5 d0)

theorem Device.Adds.holdCheck : d.Adds e.holdCheck := by
  unfold Device.holdCheck
  split
  · exact Device.adds_ite (h.trans (e.adds_abortEntry 3)) h
  · exact h

end

end Sys2Proof.Machine
end

section
/-! Chapters 4 and 10: the root's loss and its fault (R113, R115 to R117, R122, R174). -/

namespace Sys2Proof.Machine

theorem exec_rootLockLost (s : State) (cause : Nat) : exec (.rootLockLost cause) s = .next (s.on (·.rootLockLost cause)) := rfl
theorem exec_rootFault (s : State) (dev : Int) (rail : Bool) : exec (.rootFault dev rail) s = .next (s.on (·.rootFault dev rail)) := rfl

/-- What the root's loss touches: live values, reports, Thermostat, holdover, and the waveforms of the clock outputs. -/
def rootBlank : Blank :=
  { clear := fun d => { d with obj := [], lost := [], attic := {}, therm := {}, hold := {}, clock := { d.clock with cko := [] } },
    clear_setVal := fun _ _ _ => rfl }

/-- The states of the clock outputs. -/
def ckoKey (k : Nat) : Bool := k ∈ (List.range 4).map K.ckoStatus

section
variable {d e : Device} {C : Nat → Bool}

theorem root_staged (h : e.beside rootBlank C = d.beside rootBlank C) : e.staged = d.staged := congrArg (fun x => x.1.staged) h
theorem root_clock (h : e.beside rootBlank C = d.beside rootBlank C) : e.clock = { d.clock with cko := e.clock.cko } :=
  congrArg (fun x => { x.1.clock with cko := e.clock.cko }) h

variable (d)

theorem ckoStatus_inj {m n : Nat} : K.ckoStatus m = K.ckoStatus n ↔ m = n := by
  simp only [K.ckoStatus]
  omega

theorem ckoPolicy_ne (m n : Nat) : K.ckoUnlockPolicy m ≠ K.ckoStatus n := by
  simp only [K.ckoUnlockPolicy, K.ckoStatus]
  omega

theorem Device.root_ckoSquelch (fault : Bool) {n : Nat} (hn : C (K.ckoStatus n) = true) :
    (d.ckoSquelch fault n).beside rootBlank C = d.beside rootBlank C := by
  unfold Device.ckoSquelch
  split
  · dsimp only
    rw [Device.beside_setNum _ _ hn]
    rfl
  · rfl

theorem Device.ckoSquelch_num_ne (fault : Bool) (n : Nat) {k : Nat} (h : k ≠ K.ckoStatus n) : (d.ckoSquelch fault n).num k = d.num k :=
  num_of_beside (C := fun j => j = K.ckoStatus n) (d.root_ckoSquelch fault (decide_eq_true rfl)) (decide_eq_false h)

/-- R116, R123: does a squelch take CKOn. -/
def Device.squelches (d : Device) (fault : Bool) (n : Nat) : Prop := d.num (K.ckoStatus n) ≠ 0 ∧ (fault = true ∨ d.num (K.ckoUnlockPolicy n) = 0)

theorem Device.ckoSquelch_self (fault : Bool) (n : Nat) : (d.squelches fault n → (d.ckoSquelch fault n).nat (K.ckoStatus n) = 2) ∧
    (¬ d.squelches fault n → (d.ckoSquelch fault n).nat (K.ckoStatus n) = d.nat (K.ckoStatus n)) := by
  by_cases hc : (d.num (K.ckoStatus n) ≠ 0 && d.num (K.ckoStatus n) ≠ 2 && (fault || d.num (K.ckoUnlockPolicy n) = 0)) = true
  · have hyes : (d.ckoSquelch fault n).nat (K.ckoStatus n) = 2 := by
      rw [Device.ckoSquelch, if_pos hc, Device.nat_setNum_self]
      rfl
    simp only [Bool.and_eq_true, Bool.or_eq_true, decide_eq_true_eq] at hc
    exact ⟨fun _ => hyes, fun h => absurd ⟨hc.1.1, hc.2⟩ h⟩
  · have hno : d.ckoSquelch fault n = d := if_neg hc
    rw [hno]
    refine ⟨fun h => ?_, fun _ => rfl⟩
    simp only [Bool.and_eq_true, Bool.or_eq_true, decide_eq_true_eq, not_and] at hc
    have h2 : d.num (K.ckoStatus n) = 2 := by
      by_contra hne
      exact hc ⟨h.1, hne⟩ h.2
    rw [Device.nat, h2]
    rfl

/-- A squelch leaves an output that drives on. -/
theorem Device.ckoSquelch_on (fault : Bool) (m : Nat) {n : Nat} (h : d.num (K.ckoStatus n) ≠ 0) : (d.ckoSquelch fault m).num (K.ckoStatus n) ≠ 0 := by
  unfold Device.ckoSquelch
  split
  · dsimp only
    rw [Device.num_setNum]
    split
    · decide
    · exact h
  · exact h

/-- R116: the squelch of several clock outputs. -/
theorem Device.ckoSquelch_fold (fault : Bool) (l : List Nat) (hnd : l.Nodup) (n : Nat) : let t := l.foldl (fun d n => d.ckoSquelch fault n) d
    (n ∈ l → d.squelches fault n → t.nat (K.ckoStatus n) = 2) ∧ (¬ (n ∈ l ∧ d.squelches fault n) → t.nat (K.ckoStatus n) = d.nat (K.ckoStatus n)) := by
  induction l generalizing d with
  | nil => exact ⟨fun h => absurd h List.not_mem_nil, fun _ => rfl⟩
  | cons a l ih =>
    obtain ⟨ha, hl⟩ := List.nodup_cons.mp hnd
    obtain ⟨hyes, hno⟩ := ih (d.ckoSquelch fault a) hl
    rw [List.foldl_cons]
    by_cases hna : n = a
    · subst hna
      obtain ⟨hs, hs'⟩ := d.ckoSquelch_self fault n
      have hkeep := hno fun h => ha h.1
      exact ⟨fun _ h => hkeep.trans (hs h), fun h => hkeep.trans (hs' fun h' => h ⟨List.mem_cons_self, h'⟩)⟩
    · have hstatus : (d.ckoSquelch fault a).num (K.ckoStatus n) = d.num (K.ckoStatus n) := d.ckoSquelch_num_ne fault a (mt ckoStatus_inj.mp hna)
      have hpolicy : (d.ckoSquelch fault a).num (K.ckoUnlockPolicy n) = d.num (K.ckoUnlockPolicy n) := d.ckoSquelch_num_ne fault a (ckoPolicy_ne n a)
      have hsq : (d.ckoSquelch fault a).squelches fault n ↔ d.squelches fault n := by rw [Device.squelches, hstatus, hpolicy, Device.squelches]
      have hnat : (d.ckoSquelch fault a).nat (K.ckoStatus n) = d.nat (K.ckoStatus n) := congrArg Int.toNat hstatus
      rw [hsq, hnat] at hno
      exact ⟨fun hm h => hyes ((List.mem_cons.mp hm).resolve_left hna) (hsq.mpr h), fun h => hno fun h' => h ⟨List.mem_cons_of_mem a h'.1, h'.2⟩⟩

/-! ## The root leaves LOCKED (R115, R126, R174) -/

/-- The part as Thermostat freezes and MT goes to T5. -/
def Device.lossNoted (d : Device) : Device :=
  let d2 := d.thermFreeze.setHold (fun h => { h with saturated := h.active })
  if d2.nat K.mtState = 3 || d2.nat K.mtState = 4 then d2.enterT5 3 else d2

theorem Device.rootLeaves_eq : d.rootLeaves = (List.range 4).foldl (fun d n => d.ckoSquelch false n) d.lossNoted := rfl

theorem Device.therm_lossNoted : d.lossNoted.beside thermBlank timeKey = d.beside thermBlank timeKey := by
  rw [Device.lossNoted, apply_ite (Device.beside thermBlank timeKey), Device.therm_enterT5 _ _ picksTime_timeKey, ite_self]
  rfl

theorem Device.lossNoted_mtState : d.lossNoted.nat K.mtState = if d.nat K.mtState = 3 ∨ d.nat K.mtState = 4 then 5 else d.nat K.mtState := by
  have h2 : (d.thermFreeze.setHold (fun h => { h with saturated := h.active })).nat K.mtState = d.nat K.mtState := by
    rw [Device.setHold_nat, Device.thermFreeze, Device.setHold_nat, Device.setTherm_nat]
  rw [Device.lossNoted]
  generalize d.thermFreeze.setHold (fun h => { h with saturated := h.active }) = x at h2
  by_cases h : d.nat K.mtState = 3 ∨ d.nat K.mtState = 4
  · rw [if_pos h, if_pos (by simpa [h2] using h)]
    exact (x.enterT5_frame 3 (by omega)).1
  · rw [if_neg h, if_neg (by simpa [h2] using h), h2]

theorem Device.ckoKey_status {n : Nat} (hn : n < 4) : ckoKey (K.ckoStatus n) = true := decide_eq_true (List.mem_map_of_mem (List.mem_range.mpr hn))

theorem Device.root_squelch (fault : Bool) :
    ((List.range 4).foldl (fun d n => d.ckoSquelch fault n) d).beside rootBlank ckoKey = d.beside rootBlank ckoKey :=
  d.beside_foldl _ fun x _ hn => x.root_ckoSquelch fault (Device.ckoKey_status (List.mem_range.mp hn))

/-- The objects that the root's loss can change. -/
def lossKey (k : Nat) : Bool := timeKey k || ckoKey k

theorem Device.root_rootLeaves : d.rootLeaves.beside rootBlank lossKey = d.beside rootBlank lossKey := by
  have h1 : d.rootLeaves.beside rootBlank lossKey = d.lossNoted.beside rootBlank lossKey :=
    beside_mono (d.lossNoted.root_squelch false) id fun k hk => Bool.or_eq_true_iff.mpr (.inr hk)
  refine h1.trans (beside_mono d.therm_lossNoted (fun h => ?_) fun k hk => Bool.or_eq_true_iff.mpr (.inl hk))
  exact congrArg (fun x : Device => { x with hold := {}, clock := { x.clock with cko := [] } }) h

theorem Device.adds_squelch {d e : Device} (h : d.Adds e) (fault : Bool) : d.Adds ((List.range 4).foldl (fun d n => d.ckoSquelch fault n) e) := by
  refine h.foldl _ fun x n hx => ?_
  unfold Device.ckoSquelch
  exact Device.adds_ite (hx.of_attic rfl) hx

theorem Device.adds_rootLeaves {d e : Device} (h : d.Adds e) : d.Adds e.rootLeaves := by
  have h1 : d.Adds e.lossNoted := by
    have h2 : d.Adds (e.thermFreeze.setHold (fun h => { h with saturated := h.active })) := h.of_attic rfl
    unfold Device.lossNoted
    refine Device.adds_ite (Device.adds_ite h2 (Device.Adds.report ?_ _ _)) h2
    unfold Device.setTimeState
    exact Device.adds_ite h2 (Device.adds_ite ((((h2.setNum _ _).setNum _ _).report _ _).setNum _ _) (((h2.setNum _ _).setNum _ _).report _ _))
  exact Device.adds_squelch h1 false

/-! ## The loss -/

/-- The part as the loss is counted and reported. -/
def Device.lossCounted (d : Device) (cause : Nat) : Device :=
  ((d.setNum K.hearthLock 2).bump K.hearthLockLosses).report 0x0302 [cause, hi32 (d.num K.hearthDco)]

theorem Device.rootLockLost_eq (cause : Nat) (h : d.rootLocked = true) :
    d.rootLockLost cause = (((d.lossCounted cause).rootLeaves.tdcRootLost).wakeOnT5 d).holdCheck := by
  rw [Device.rootLockLost, h, Device.rootLost, h]
  rfl

theorem Device.lossCounted_frame (cause : Nat) : (d.lossCounted cause).clock = d.clock ∧ (d.lossCounted cause).staged = d.staged ∧
    (d.lossCounted cause).nat K.hearthLock = 2 ∧
    (d.nat K.hearthLockLosses < 2 ^ 32 - 1 → (d.lossCounted cause).nat K.hearthLockLosses = d.nat K.hearthLockLosses + 1) ∧
    ∀ k, k ≠ K.hearthLock → k ≠ K.hearthLockLosses → (d.lossCounted cause).num k = d.num k := by
  refine ⟨rfl, rfl, ?_, fun hroom => ?_, fun k h1 h2 => ?_⟩
  · rw [Device.lossCounted, Device.report_nat, Device.bump, Device.nat_bumpBy_ne _ _ _ (by decide), Device.nat_setNum_self]
    rfl
  · have hx : (d.setNum K.hearthLock 2).nat K.hearthLockLosses = d.nat K.hearthLockLosses := by rw [Device.nat_setNum, if_neg (by decide)]
    rw [Device.lossCounted, Device.report_nat, Device.bump, Device.nat_bumpBy _ _ _ _ (by omega), hx]
  · rw [Device.lossCounted, Device.report_num, Device.bump, Device.num_bumpBy_ne _ _ _ h2, Device.num_setNum, if_neg h1]

/-- What follows of a loss, or of an end of hold, touches no object of the root, of MT's state or of a port's link. -/
theorem Device.wake_lossFollows (d0 : Device) : ((d.tdcRootLost.wakeOnT5 d0).holdCheck).clock = d.clock ∧
    ((d.tdcRootLost.wakeOnT5 d0).holdCheck).staged = d.staged ∧
    ∀ k, wakeKey k = false → ((d.tdcRootLost.wakeOnT5 d0).holdCheck).val k = d.val k := by
  have hw := (Device.wake_holdCheck (d.tdcRootLost.wakeOnT5 d0)).trans (d.tdcRootLost.wake_wakeOnT5 d0)
  have ht : d.tdcRootLost.clock = d.clock ∧ d.tdcRootLost.staged = d.staged ∧ ∀ k, d.tdcRootLost.val k = d.val k := ⟨rfl, rfl, fun _ => rfl⟩
  generalize d.tdcRootLost = x at *
  exact ⟨(wake_clock hw).trans ht.1, (wake_staged hw).trans ht.2.1, fun k hk => (val_of_beside hw hk).trans (ht.2.2 k)⟩

/-- R115, R126, R174: what the loss of a LOCKED root makes of the part. -/
theorem Device.rootLockLost_frame (cause : Nat) (hl : d.nat K.hearthLock = 1) (hroom : d.nat K.hearthLockLosses < 2 ^ 32 - 1) : let t := d.rootLockLost cause
    t.nat K.hearthLock = 2 ∧ t.nat K.hearthLockLosses = d.nat K.hearthLockLosses + 1 ∧ t.num K.hearthDco = d.num K.hearthDco
      ∧ t.clock = { d.clock with cko := t.clock.cko } ∧ t.staged = d.staged
      ∧ t.nat K.mtState = (if d.nat K.mtState = 3 ∨ d.nat K.mtState = 4 then 5 else d.nat K.mtState)
      ∧ ∀ n, n < 4 → t.nat (K.ckoStatus n) =
          if d.num (K.ckoStatus n) ≠ 0 ∧ d.num (K.ckoUnlockPolicy n) = 0 then 2 else d.nat (K.ckoStatus n) := by
  intro t
  have ht : t = (((d.lossCounted cause).rootLeaves.tdcRootLost).wakeOnT5 d).holdCheck := d.rootLockLost_eq cause (decide_eq_true hl)
  obtain ⟨hxc, hxs, hxl, hxn, hxk⟩ := d.lossCounted_frame cause
  have hxnat {k : Nat} (h1 : k ≠ K.hearthLock) (h2 : k ≠ K.hearthLockLosses) := congrArg Int.toNat (hxk k h1 h2)
  have hcount := hxn hroom
  generalize d.lossCounted cause = x at *
  have hr := x.root_rootLeaves
  have hmt : x.rootLeaves.nat K.mtState = if x.nat K.mtState = 3 ∨ x.nat K.mtState = 4 then 5 else x.nat K.mtState := by
    rw [x.rootLeaves_eq, nat_of_beside (x.lossNoted.root_squelch false) (by decide), x.lossNoted_mtState]
  have hcko (n : Nat) (hn : n < 4) : x.rootLeaves.nat (K.ckoStatus n) =
      if x.num (K.ckoStatus n) ≠ 0 ∧ x.num (K.ckoUnlockPolicy n) = 0 then 2 else x.nat (K.ckoStatus n) := by
    have hfree : ∀ n < 4, timeKey (K.ckoStatus n) = false ∧ timeKey (K.ckoUnlockPolicy n) = false := by decide
    have h1 : x.lossNoted.num (K.ckoStatus n) = x.num (K.ckoStatus n) := num_of_beside x.therm_lossNoted (hfree n hn).1
    have h2 : x.lossNoted.num (K.ckoUnlockPolicy n) = x.num (K.ckoUnlockPolicy n) := num_of_beside x.therm_lossNoted (hfree n hn).2
    have hsq : x.lossNoted.squelches false n ↔ x.num (K.ckoStatus n) ≠ 0 ∧ x.num (K.ckoUnlockPolicy n) = 0 := by
      rw [Device.squelches, h1, h2]
      simp
    obtain ⟨hyes, hno⟩ := x.lossNoted.ckoSquelch_fold false (List.range 4) List.nodup_range n
    rw [x.rootLeaves_eq]
    by_cases hs : x.num (K.ckoStatus n) ≠ 0 ∧ x.num (K.ckoUnlockPolicy n) = 0
    · rw [if_pos hs, hyes (List.mem_range.mpr hn) (hsq.mpr hs)]
    · rw [if_neg hs, hno fun h => hs (hsq.mp h.2), Device.nat, h1]
      rfl
  generalize x.rootLeaves = y at *
  obtain ⟨hc, hs, hv⟩ := y.wake_lossFollows d
  rw [← ht] at hc hs hv
  clear_value t
  have hnat {k : Nat} (hk : wakeKey k = false) : t.nat k = y.nat k := congrArg (fun v => v.int.toNat) (hv k hk)
  refine ⟨(hnat (by decide)).trans ((nat_of_beside hr (by decide)).trans hxl), (hnat (by decide)).trans ((nat_of_beside hr (by decide)).trans hcount),
    (congrArg Val.int (hv _ (by decide))).trans ((num_of_beside hr (by decide)).trans (hxk _ (by decide) (by decide))), ?_,
    hs.trans ((root_staged hr).trans hxs), ?_, fun n hn => ?_⟩
  · rw [hc, root_clock hr, hxc]
  · have hmt0 : x.nat K.mtState = d.nat K.mtState := hxnat (by decide) (by decide)
    rw [hnat (by decide), hmt, hmt0]
  · have hfree : ∀ n < 4, wakeKey (K.ckoStatus n) = false ∧ K.ckoStatus n ≠ K.hearthLock ∧ K.ckoStatus n ≠ K.hearthLockLosses ∧
      K.ckoUnlockPolicy n ≠ K.hearthLock ∧ K.ckoUnlockPolicy n ≠ K.hearthLockLosses := by decide
    obtain ⟨h1, h2, h3, h4, h5⟩ := hfree n hn
    have hst0 : x.nat (K.ckoStatus n) = d.nat (K.ckoStatus n) := hxnat h2 h3
    rw [hnat h1, hcko n hn, hxk _ h2 h3, hxk _ h4 h5, hst0]

/-! ## The fault -/

/-- R117: the link state that a fault of the root leaves a port in. -/
def faultLink (st : Nat) : Nat := if st = 2 ∨ st = 3 then 1 else if st = 4 then 5 else st

/-- The objects of a port's link that its loss can change. -/
def linkKey (p k : Nat) : Bool := k = K.portLinkState p || k = K.plcaStatus p

theorem Device.link_setLink (p st cause : Nat) : (d.setLink p st cause).beside linkBlank (linkKey p) = d.beside linkBlank (linkKey p) := by
  have h1 (x : Device) (v : Int) : (x.setNum (K.portLinkState p) v).beside linkBlank (linkKey p) = x.beside linkBlank (linkKey p) :=
    x.beside_setNum v (by simp [linkKey])
  have h2 (x : Device) (v : Int) : (x.setNum (K.plcaStatus p) v).beside linkBlank (linkKey p) = x.beside linkBlank (linkKey p) :=
    x.beside_setNum v (by simp [linkKey])
  simp only [Device.setLink, Device.setPlca, apply_ite (Device.beside linkBlank (linkKey p)), Device.link_setPort, Device.link_report, h1, h2, ite_self]

theorem Device.link_linkLost_fault (p : Nat) : (d.linkLost p 2).beside linkBlank (linkKey p) = d.beside linkBlank (linkKey p) := by
  unfold Device.linkLost Device.dropPlace
  simp only [apply_ite (Device.beside linkBlank (linkKey p)), Device.link_setPort, Device.link_setLink, ite_self]
  simp

theorem plcaStatus_ne (p q : Nat) : K.plcaStatus p ≠ K.portLinkState q := by
  simp only [K.plcaStatus, K.portLinkState]
  omega

/-- A port takes the link state that it is led to. -/
theorem Device.setLink_link (p st cause : Nat) : (d.setLink p st cause).link p = st := by
  have hset : ((d.setNum (K.portLinkState p) st).report 0x0801 [p, d.link p, st, cause]).link p = st := by
    rw [Device.link, Device.report_nat, Device.nat_setNum_self, Int.toNat_natCast]
  have hplca (x : Device) : (x.setPlca p 0).link p = x.link p := by
    unfold Device.setPlca
    split
    · rfl
    · rw [Device.link, Device.report_nat, Device.nat_setNum, if_neg (plcaStatus_ne p p).symm]
      rfl
  have hport (x : Device) (f : PortUnit → PortUnit) : (x.setPort p f).link p = x.link p := rfl
  unfold Device.setLink
  dsimp only
  split
  · assumption
  · split
    · rw [hport, hplca, hport, hset]
    · rw [hport, hset]

theorem Device.linkLost_fault_link (p : Nat) : (d.linkLost p 2).link p = faultLink (d.link p) := by
  have hdrop (x : Device) : (x.dropPlace p).link p = x.link p := rfl
  unfold Device.linkLost faultLink
  simp only [show ¬ (2 : Nat) = 1 from by decide, if_false]
  by_cases h3 : d.link p = 3
  · rw [if_pos h3, hdrop, d.setLink_link, if_pos (.inr h3)]
  · rw [if_neg h3]
    by_cases h4 : d.link p = 4
    · rw [if_pos h4, d.setLink_link, if_neg (by omega), if_pos h4]
    · rw [if_neg h4]
      by_cases h2 : d.link p = 2
      · rw [if_pos (by simp [h2]), d.setLink_link, if_pos (.inl h2)]
      · rw [if_neg (by simp [h2]), if_neg (by omega), if_neg h4]

/-- The part as port p falls silent, with what follows. -/
def Device.silence (d : Device) (p : Nat) : Device := (d.linkLost p 2).portFollow d p

theorem followKey_link (p : Nat) (hp : p < 44) : followKey (K.portLinkState p) = false := by
  have : ∀ p < 44, followKey (K.portLinkState p) = false := by decide
  exact this p hp

theorem Device.silence_link {p q : Nat} (hq : q < 44) : (d.silence p).link q = if q = p then faultLink (d.link p) else d.link q := by
  have h1 : (d.silence p).link q = (d.linkLost p 2).link q := nat_of_beside (Device.link_portFollow _ d p) (followKey_link q hq)
  rw [h1]
  by_cases hqp : q = p
  · rw [if_pos hqp, hqp, d.linkLost_fault_link]
  · rw [if_neg hqp]
    refine nat_of_beside (d.link_linkLost_fault p) (Bool.or_eq_false_iff.mpr ⟨decide_eq_false ?_, decide_eq_false (plcaStatus_ne p q).symm⟩)
    simp only [K.portLinkState]
    omega

/-- Every port that served falls silent (R117). -/
theorem Device.silence_fold (l : List Nat) (hnd : l.Nodup) {q : Nat} (hq : q < 44) :
    (l.foldl Device.silence d).link q = if q ∈ l then faultLink (d.link q) else d.link q := by
  induction l generalizing d with
  | nil => rfl
  | cons p l ih =>
    obtain ⟨hp, hl⟩ := List.nodup_cons.mp hnd
    rw [List.foldl_cons, ih _ hl, d.silence_link hq]
    by_cases hqp : q = p
    · subst hqp
      simp [hp]
    · simp [hqp]

/-- The objects that the silence of the ports can change. -/
def silentKey (k : Nat) : Bool := 0x2200 * 256 ≤ k

theorem Device.link_silence_fold (l : List Nat) : (l.foldl Device.silence d).beside linkBlank silentKey = d.beside linkBlank silentKey := by
  refine d.beside_foldl _ fun x p _ => ?_
  have h1 := beside_mono (C' := silentKey) ((x.linkLost p 2).link_portFollow x p) id fun k hk => by
    simp only [followKey, silentKey, Bool.or_eq_true, Bool.and_eq_true, decide_eq_true_eq] at hk ⊢
    omega
  have h2 := beside_mono (C' := silentKey) (x.link_linkLost_fault p) id fun k hk => by
    have hk : k = K.portLinkState p ∨ k = K.plcaStatus p := (Bool.or_eq_true_iff.mp hk).imp of_decide_eq_true of_decide_eq_true
    simp only [K.portLinkState, K.plcaStatus] at hk
    exact decide_eq_true (by omega)
  exact h1.trans h2

theorem Device.adds_silence_fold {d e : Device} (h : d.Adds e) (l : List Nat) : d.Adds (l.foldl Device.silence e) :=
  h.foldl _ fun x p hx => (hx.linkLost_fault p).portFollow x p

/-- The part as the fault is reported. -/
def Device.faultNoted (d : Device) (dev : Int) : Device := ((d.setNum K.hearthRootDev dev).setNum K.hearthLock 3).report 0x0303 [1, dev]

/-- The root in FAULT, its clock outputs squelched; from LOCKED also with what a loss brings. -/
def Device.faultSet (d : Device) (dev : Int) : Device :=
  (List.range 4).foldl (fun d n => d.ckoSquelch true n) (if d.nat K.hearthLock = 1 then (d.faultNoted dev).rootLeaves else d.faultNoted dev)

theorem Device.faultNoted_frame (dev : Int) : (d.faultNoted dev).clock = d.clock ∧ (d.faultNoted dev).staged = d.staged ∧
    (d.faultNoted dev).nat K.hearthLock = 3 ∧ (d.faultNoted dev).num K.hearthRootDev = dev ∧
    (d.faultNoted dev).entries = d.entries ++ [(0x0303, [1, dev])] ∧
    ∀ k, k ≠ K.hearthLock → k ≠ K.hearthRootDev → (d.faultNoted dev).val k = d.val k := by
  refine ⟨rfl, rfl, ?_, ?_, ?_, fun k h1 h2 => ?_⟩
  · rw [Device.faultNoted, Device.report_nat, Device.nat_setNum_self]
    rfl
  · rw [Device.faultNoted, Device.report_num, Device.num_setNum, if_neg (by decide), Device.num_setNum_self]
  · rw [Device.faultNoted, Device.entries_report, Device.entries_setNum, Device.entries_setNum]
  · rw [Device.faultNoted, Device.report_val]
    exact (Device.val_setVal_ne _ _ h1).trans (Device.val_setVal_ne _ _ h2)

theorem Device.root_faultSet (dev : Int) : (d.faultSet dev).beside rootBlank lossKey = (d.faultNoted dev).beside rootBlank lossKey := by
  have h1 (x : Device) := beside_mono (C' := lossKey) (x.root_squelch true) id fun k hk => Bool.or_eq_true_iff.mpr (.inr hk)
  rw [Device.faultSet, h1, apply_ite (Device.beside rootBlank lossKey), Device.root_rootLeaves, ite_self]

theorem Device.faultSet_of_unlocked (dev : Int) (h : d.nat K.hearthLock ≠ 1) : (d.faultSet dev).beside rootBlank ckoKey = (d.faultNoted dev).beside rootBlank ckoKey := by
  rw [Device.faultSet, if_neg h, Device.root_squelch]

theorem Device.adds_faultSet (dev : Int) : (d.faultNoted dev).Adds (d.faultSet dev) :=
  Device.adds_squelch (Device.adds_ite (Device.adds_rootLeaves (Device.adds_refl _)) (Device.adds_refl _)) true

/-- A fault squelches every clock output that drives (R116). -/
theorem Device.faultSet_cko (dev : Int) {n : Nat} (hn : n < 4) (hs : d.num (K.ckoStatus n) ≠ 0) : (d.faultSet dev).nat (K.ckoStatus n) = 2 := by
  have hfree : ∀ n < 4, K.ckoStatus n ≠ K.hearthLock ∧ K.ckoStatus n ≠ K.hearthRootDev ∧ timeKey (K.ckoStatus n) = false := by decide
  obtain ⟨h1, h2, h3⟩ := hfree n hn
  have hx : (d.faultNoted dev).num (K.ckoStatus n) ≠ 0 := by
    rw [Device.num, (d.faultNoted_frame dev).2.2.2.2.2 _ h1 h2]
    exact hs
  have hleaves : (d.faultNoted dev).rootLeaves.num (K.ckoStatus n) ≠ 0 := by
    rw [Device.rootLeaves_eq]
    refine List.foldlRecOn (motive := fun x : Device => x.num (K.ckoStatus n) ≠ 0) _ _ ?_ fun (x : Device) h m _ => x.ckoSquelch_on false m h
    rw [num_of_beside (Device.therm_lossNoted _) h3]
    exact hx
  rw [Device.faultSet]
  refine (Device.ckoSquelch_fold _ true (List.range 4) List.nodup_range n).1 (List.mem_range.mpr hn) ⟨?_, .inl rfl⟩
  split
  · exact hleaves
  · exact hx

theorem Device.rootLocked_iff : d.rootLocked = true ↔ d.nat K.hearthLock = 1 := by rw [Device.rootLocked, decide_eq_true_eq]

/-- Does a deviation, or a control voltage at a rail, take the root to FAULT. -/
def Device.faults (d : Device) (dev : Int) (rail : Bool) : Prop :=
  (d.nat K.hearthLock = 2 ∧ (rail = true ∨ 200000 < dev.natAbs)) ∨ (d.nat K.hearthLock = 1 ∧ rail = true)

theorem Device.rootFault_of_sound (dev : Int) (rail : Bool) (h : ¬ d.faults dev rail) : d.rootFault dev rail = d.setNum K.hearthRootDev dev := by
  have hx : d.rootFaulted dev rail = d.setNum K.hearthRootDev dev := if_neg (by simpa [Device.faults] using h)
  have hl : (d.setNum K.hearthRootDev dev).nat K.hearthLock = d.nat K.hearthLock := by rw [Device.nat_setNum, if_neg (by decide)]
  rw [Device.rootFault, hx, hl]
  exact if_pos (by simp)

/-- What follows of a fault once the ports are silent: from LOCKED, what a loss brings. -/
def Device.faultFollows (d d0 : Device) : Device := if d0.rootLocked then (d.tdcRootLost.wakeOnT5 d0).holdCheck else d

theorem Device.faultFollows_frame (d0 : Device) {a : Device} (h : a.Adds d) : let t := d.faultFollows d0
    t.clock = d.clock ∧ t.staged = d.staged ∧ (∀ k, wakeKey k = false → t.val k = d.val k) ∧ (d0.nat K.hearthLock = 2 → t = d) ∧ a.Adds t := by
  intro t
  by_cases hl : d0.rootLocked = true
  · have ht : t = (d.tdcRootLost.wakeOnT5 d0).holdCheck := if_pos hl
    obtain ⟨h1, h2, h3⟩ := d.wake_lossFollows d0
    have h4 : a.Adds d.tdcRootLost := h.of_attic rfl
    rw [ht]
    exact ⟨h1, h2, h3, fun h2 => absurd (d0.rootLocked_iff.mp hl) (by rw [h2]; decide), (h4.wakeOnT5 d0).holdCheck⟩
  · have ht : t = d := if_neg hl
    rw [ht]
    exact ⟨rfl, rfl, fun _ _ => rfl, fun _ => rfl, h⟩

theorem Device.rootFault_of_faults (dev : Int) (rail : Bool) (h : d.faults dev rail) : d.rootFault dev rail =
    ((List.range 44).foldl Device.silence (d.faultSet dev)).faultFollows d := by
  have hx : d.rootFaulted dev rail = d.faultSet dev := by
    rw [Device.rootFaulted]
    simp only [if_pos (show ((d.nat K.hearthLock = 2 && (rail || 200000 < dev.natAbs)) || (d.nat K.hearthLock = 1 && rail)) = true by
      simpa [Device.faults] using h)]
    rfl
  have h3 : (d.faultSet dev).nat K.hearthLock = 3 := (nat_of_beside (d.root_faultSet dev) (by decide)).trans (d.faultNoted_frame dev).2.2.1
  have hno : d.nat K.hearthLock ≠ 3 := by
    rcases h with ⟨h, -⟩ | ⟨h, -⟩ <;> omega
  rw [Device.rootFault, hx]
  exact if_neg (by simp [h3, hno])

/-- R113, R116, R117, R122: what a fault of the root makes of the part. -/
theorem Device.rootFault_frame (dev : Int) (rail : Bool) (h : d.faults dev rail) : let t := d.rootFault dev rail
    t.nat K.hearthLock = 3 ∧ t.num K.hearthRootDev = dev ∧ t.num K.hearthLockLosses = d.num K.hearthLockLosses
      ∧ (newReports d t).head? = some (0x0303, [1, dev]) ∧ t.clock.ticks = d.clock.ticks ∧ t.clock.mt = d.clock.mt ∧ t.staged = d.staged
      ∧ (∀ n, n < 4 → d.num (K.ckoStatus n) ≠ 0 → t.nat (K.ckoStatus n) = 2)
      ∧ (∀ p, p < 44 → t.link p = faultLink (d.link p))
      ∧ (d.nat K.hearthLock = 2 → ∀ k, k < 0x2200 * 256 → k ≠ K.hearthLock → k ≠ K.hearthRootDev → (∀ n, n < 4 → k ≠ K.ckoStatus n) → t.val k = d.val k) := by
  intro t
  have ht : t = ((List.range 44).foldl Device.silence (d.faultSet dev)).faultFollows d := d.rootFault_of_faults dev rail h
  obtain ⟨nc, ns, nl, nd, ne, nv⟩ := d.faultNoted_frame dev
  have hr := d.root_faultSet dev
  have hru := d.faultSet_of_unlocked dev
  have hadds := d.adds_faultSet dev
  have hcko (n : Nat) (hn : n < 4) := d.faultSet_cko (n := n) dev hn
  generalize d.faultNoted dev = a at *
  generalize d.faultSet dev = b at *
  have hs := b.link_silence_fold (List.range 44)
  have hlink (p : Nat) (hp : p < 44) := b.silence_fold (List.range 44) List.nodup_range hp
  have hadds := Device.adds_silence_fold hadds (List.range 44)
  generalize (List.range 44).foldl Device.silence b = x at *
  have hw := x.faultFollows_frame d (a := a) hadds
  rw [← ht] at hw
  obtain ⟨wc, ws, wv, wx, wa⟩ := hw
  clear_value t
  have hbclock := root_clock hr
  have hnat {k : Nat} (hk : wakeKey k = false) (hk' : silentKey k = false) (hk'' : lossKey k = false) : t.num k = a.num k :=
    (congrArg Val.int (wv k hk)).trans ((num_of_beside hs hk').trans (num_of_beside hr hk''))
  refine ⟨(congrArg Int.toNat (hnat (by decide) (by decide) (by decide))).trans nl, (hnat (by decide) (by decide) (by decide)).trans nd,
    (hnat (by decide) (by decide) (by decide)).trans (congrArg Val.int (nv _ (by decide) (by decide))), ?_, ?_, ?_, ?_, fun n hn hon => ?_, fun p hp => ?_,
    fun hl k hk h1 h2 h3 => ?_⟩
  · obtain ⟨l, hl⟩ := wa
    rw [newReports_of_entries (l := (0x0303, [1, dev]) :: l) (by rw [← hl, ne, List.append_assoc]; rfl)]
    rfl
  · rw [wc, link_clock hs, hbclock, nc]
  · rw [wc, link_clock hs, hbclock, nc]
  · rw [ws, link_staged hs, root_staged hr, ns]
  · have hfree : ∀ n < 4, wakeKey (K.ckoStatus n) = false ∧ silentKey (K.ckoStatus n) = false := by decide
    obtain ⟨h1, h2⟩ := hfree n hn
    exact (congrArg (fun v => v.int.toNat) (wv _ h1)).trans ((nat_of_beside hs h2).trans (hcko n hn hon))
  · have hfree : ∀ p < 44, wakeKey (K.portLinkState p) = false ∧ lossKey (K.portLinkState p) = false ∧ K.portLinkState p ≠ K.hearthLock ∧
      K.portLinkState p ≠ K.hearthRootDev := by decide
    obtain ⟨h1, h2, h3, h4⟩ := hfree p hp
    have hb : b.link p = d.link p := (nat_of_beside hr h2).trans (congrArg (fun v => v.int.toNat) (nv _ h3 h4))
    refine (congrArg (fun v => v.int.toNat) (wv _ h1)).trans ((hlink p hp).trans ?_)
    rw [if_pos (List.mem_range.mpr hp), hb]
  · rw [wx hl, val_of_beside hs (decide_eq_false (Nat.not_le.mpr hk)), val_of_beside (hru (by omega)) ?_, nv k h1 h2]
    refine decide_eq_false fun hmem => ?_
    obtain ⟨n, hn, rfl⟩ := List.mem_map.mp hmem
    exact h3 n (List.mem_range.mp hn) rfl

end

/-- Settles O26: the loss freezes D and moves MT's state alone; a fault squelches the clock outputs and silences the ports. -/
theorem rootLossFreezesAndSetsT5 : Obligations.RootLossFreezesAndSetsT5 := by
  refine ⟨fun s cause hl hroom => ⟨_, exec_rootLockLost s cause, rfl, s.dev.rootLockLost_frame cause hl hroom⟩, fun s cause hl => ?_, fun s dev rail => ?_⟩
  · rw [exec_rootLockLost, State.on, Device.rootLockLost, if_pos]
    rw [Device.rootLocked, decide_eq_false hl]
    rfl
  · intro faults
    refine ⟨fun hno => ?_, fun hyes => ⟨_, exec_rootFault s dev rail, rfl, s.dev.rootFault_frame dev rail hyes⟩⟩
    rw [exec_rootFault, State.on, s.dev.rootFault_of_sound dev rail hno, State.on]

end Sys2Proof.Machine
end

section
/-! Chapter 7: the antenna supply and the gain monitor (R188, R189). -/

namespace Sys2Proof.Machine

theorem exec_antCurrentMeasure (s : State) (i : Nat) : exec (.antCurrentMeasure i) s = .next (s.on (·.antMeasure i)) := rfl
theorem exec_antShortRetry (s : State) (i : Nat) : exec (.antShortRetry i) s = .next (s.on (·.antRetry i)) := rfl
theorem exec_agcInterference (s : State) (l5 : Bool) (gain : Nat) : exec (.agcInterference l5 gain ()) s = .next (s.on (·.agc l5 gain)) := rfl

section
variable (d : Device)

theorem Device.setSky_id : d.setSky id = d := rfl
@[simp] theorem Device.entries_setSky (f : Sky → Sky) : (d.setSky f).entries = d.entries := (rfl)

/-! ## The supply's state (Table 7-1) -/

/-- A change of the supply's state is recorded, and nothing else changes. -/
theorem Device.setAnt_frame (st : Nat) : (d.setAnt st).clock = d.clock ∧ (d.setAnt st).sky = d.sky ∧ (d.setAnt st).nat K.skyAntState = st ∧
    (∀ k, k ≠ K.skyAntState → (d.setAnt st).val k = d.val k) ∧
    (d.setAnt st).entries = d.entries ++ (if st = d.nat K.skyAntState then []
      else [(0x0501, [d.num K.skyAntState, (d.setAnt st).num K.skyAntState, d.num K.skyAntCurrent])]) := by
  unfold Device.setAnt
  by_cases h : d.nat K.skyAntState = st
  · rw [if_pos h, if_pos h.symm, List.append_nil]
    exact ⟨rfl, rfl, h, fun _ _ => rfl, rfl⟩
  · rw [if_neg h, if_neg (Ne.symm h), Device.entries_setNum, Device.entries_report, Device.num_setNum_self]
    exact ⟨rfl, rfl, Device.nat_setNum_self _ _ _, fun k hk => Device.val_setVal_ne _ _ hk, rfl⟩

/-- A supply that is in a state already does not take it. -/
theorem Device.setAnt_of_state {st : Nat} (h : d.nat K.skyAntState = st) : d.setAnt st = d := if_pos h

/-- The tick since which the current has been below the open threshold, and the one since which it has not. -/
def Device.antLowSince (i : Nat) : Option Nat := if i < 10 * d.nat K.skyAntOpenMa then some (d.sky.antLow.getD d.clock.ticks) else none
def Device.antHighSince (i : Nat) : Option Nat := if i < 10 * d.nat K.skyAntOpenMa then none else some (d.sky.antHigh.getD d.clock.ticks)

/-- The part with a current published and these ticks kept. -/
def Device.antTimed (i : Nat) : Device :=
  (d.setNum K.skyAntCurrent i).setSky (fun s => { s with antLow := d.antLowSince i, antHigh := d.antHighSince i })

/-- Have 100 ms passed since a tick. -/
def Device.tenthSince (o : Option Nat) : Bool := o.any (fun t => t + sTicks / 10 ≤ d.clock.ticks)

/-- Table 7-1: the state that a current leads to from another than SHORT. -/
def Device.antNext (i : Nat) : Nat :=
  if 10 * d.nat K.skyAntShortMa < i then 3
  else if d.nat K.skyAntState = 0 then (if i < 10 * d.nat K.skyAntOpenMa then 2 else 1)
  else if (Decidable.decide (d.nat K.skyAntState = 1) && d.tenthSince (d.antLowSince i)) = true then 2
  else if (Decidable.decide (d.nat K.skyAntState = 2) && d.tenthSince (d.antHighSince i)) = true then 1
  else d.nat K.skyAntState

/-- The same, from the part with the current published. -/
theorem Device.antMeasure_def (i : Nat) (hoff : d.antOff = false) (h3 : d.nat K.skyAntState ≠ 3) : d.antMeasure i =
    let short := 10 * (d.setNum K.skyAntCurrent i).nat K.skyAntShortMa
    let thr := 10 * (d.setNum K.skyAntCurrent i).nat K.skyAntOpenMa
    let low := if Decidable.decide (i < thr) = true then some (d.sky.antLow.getD d.clock.ticks) else none
    let high := if Decidable.decide (i < thr) = true then none else some (d.sky.antHigh.getD d.clock.ticks)
    let x := (d.setNum K.skyAntCurrent i).setSky (fun s => { s with antLow := low, antHigh := high })
    if Decidable.decide (short < i) = true then (x.setAnt 3).setSky (fun s => { s with antRetry := d.clock.ticks })
    else if d.nat K.skyAntState = 0 then x.setAnt (if Decidable.decide (i < thr) = true then 2 else 1)
    else if (Decidable.decide (d.nat K.skyAntState = 1) && d.tenthSince low) = true then x.setAnt 2
    else if (Decidable.decide (d.nat K.skyAntState = 2) && d.tenthSince high) = true then x.setAnt 1
    else x := by
  have : ¬ ((d.antOff || Decidable.decide (d.nat K.skyAntState = 3)) = true) := by simp [hoff, h3]
  exact if_neg this

theorem Device.antTimed_nat (i : Nat) {k : Nat} (h : k ≠ K.skyAntCurrent) : (d.antTimed i).nat k = d.nat k := by
  rw [Device.antTimed, Device.setSky_nat, Device.nat_setNum, if_neg h]

theorem Device.antMeasure_idle (i : Nat) (h : d.antOff = true ∨ d.nat K.skyAntState = 3) : d.antMeasure i = d := if_pos (by simpa using h)

theorem Device.antMeasure_eq (i : Nat) (hoff : d.antOff = false) (h3 : d.nat K.skyAntState ≠ 3) :
    ∃ f : Sky → Sky, d.antMeasure i = ((d.antTimed i).setAnt (d.antNext i)).setSky f := by
  have hn : (d.antTimed i).nat K.skyAntState = d.nat K.skyAntState := d.antTimed_nat i (by decide)
  have ho : (d.setNum K.skyAntCurrent i).nat K.skyAntOpenMa = d.nat K.skyAntOpenMa := by rw [Device.nat_setNum, if_neg (by decide)]
  have hs : (d.setNum K.skyAntCurrent i).nat K.skyAntShortMa = d.nat K.skyAntShortMa := by rw [Device.nat_setNum, if_neg (by decide)]
  have hsame := Device.setAnt_of_state _ hn
  rw [d.antMeasure_def i hoff h3, Device.antNext, ho, hs]
  simp only [decide_eq_true_eq]
  rw [Device.antTimed, Device.antLowSince, Device.antHighSince] at hsame ⊢
  by_cases h1 : 10 * d.nat K.skyAntShortMa < i
  · rw [if_pos h1, if_pos h1]
    exact ⟨fun s => { s with antRetry := d.clock.ticks }, rfl⟩
  rw [if_neg h1, if_neg h1]
  refine ⟨id, ?_⟩
  simp only [Device.setSky_id, apply_ite (Device.setAnt _), hsame]

/-- R188: a NORMAL supply opens when its current has been low for 100 ms. -/
theorem Device.antNext_normal {i since : Nat} (h : i ≤ 10 * d.nat K.skyAntShortMa) (h1 : d.nat K.skyAntState = 1) (hs : d.sky.antLow = some since) :
    d.antNext i = if i < 10 * d.nat K.skyAntOpenMa ∧ since + 125000000 ≤ d.clock.ticks then 2 else 1 := by
  have hlow : d.tenthSince (d.antLowSince i) = Decidable.decide (i < 10 * d.nat K.skyAntOpenMa ∧ since + 125000000 ≤ d.clock.ticks) := by
    rw [Device.antLowSince, hs, Option.getD_some, Bool.eq_iff_iff, decide_eq_true_iff]
    have hsec : sTicks / 10 = 125000000 := rfl
    by_cases ho : i < 10 * d.nat K.skyAntOpenMa
    · rw [if_pos ho, Device.tenthSince, Option.any_some, decide_eq_true_iff, hsec, and_iff_right ho]
    · rw [if_neg ho, Device.tenthSince, Option.any_none]
      simp [ho]
  rw [Device.antNext, if_neg (Nat.not_lt.2 h), h1, hlow]
  simp

/-- R188: what a measured current does to a supply that is neither held OFF nor in SHORT. -/
theorem Device.antMeasure_obeys (i : Nat) (hoff : d.antOff = false) (h3 : d.nat K.skyAntState ≠ 3) : let t := d.antMeasure i
    t.clock = d.clock ∧ t.nat K.skyAntCurrent = i ∧ (10 * d.nat K.skyAntShortMa < i → t.nat K.skyAntState = 3)
      ∧ (i ≤ 10 * d.nat K.skyAntShortMa → d.nat K.skyAntState = 0 → t.nat K.skyAntState = if i < 10 * d.nat K.skyAntOpenMa then 2 else 1)
      ∧ (i ≤ 10 * d.nat K.skyAntShortMa → d.nat K.skyAntState = 1 → ∀ since, d.sky.antLow = some since →
          t.nat K.skyAntState = if i < 10 * d.nat K.skyAntOpenMa ∧ since + 125000000 ≤ d.clock.ticks then 2 else 1)
      ∧ newReports d t = (if t.nat K.skyAntState = d.nat K.skyAntState then []
          else [(0x0501, [d.num K.skyAntState, t.num K.skyAntState, (i : Int)])])
      ∧ ∀ k, k ≠ K.skyAntCurrent → k ≠ K.skyAntState → t.val k = d.val k := by
  intro t
  obtain ⟨f, ht⟩ := d.antMeasure_eq i hoff h3
  obtain ⟨hc, -, hn, hv, he⟩ := (d.antTimed i).setAnt_frame (d.antNext i)
  have htt : t = ((d.antTimed i).setAnt (d.antNext i)).setSky f := ht
  have hstate : t.nat K.skyAntState = d.antNext i := by rw [htt, Device.setSky_nat, hn]
  have hcur : (d.antTimed i).num K.skyAntCurrent = i := d.num_setNum_self _ _
  have hold : (d.antTimed i).num K.skyAntState = d.num K.skyAntState := (d.num_setNum _ _ _).trans (if_neg (by decide))
  refine ⟨?_, ?_, fun h => ?_, fun h h0 => ?_, fun h h1 since hs => ?_, ?_, fun k hk hk' => ?_⟩
  · rw [htt, Device.setSky_clock, hc]
    rfl
  · have := congrArg Val.int (hv K.skyAntCurrent (by decide))
    rw [htt, Device.setSky_nat]
    exact (congrArg Int.toNat (this.trans hcur)).trans (Int.toNat_natCast i)
  · rw [hstate, Device.antNext, if_pos h]
  · rw [hstate, Device.antNext, if_neg (Nat.not_lt.2 h), if_pos h0]
  · rw [hstate, d.antNext_normal h h1 hs]
  · have hr := newReports_of_entries (d := d) (t := t) (l := if d.antNext i = d.nat K.skyAntState then []
        else [(0x0501, [d.num K.skyAntState, t.num K.skyAntState, (i : Int)])]) (by
      rw [htt, Device.entries_setSky, he, hcur, hold, d.antTimed_nat i (by decide : K.skyAntState ≠ K.skyAntCurrent), Device.setSky_num]
      rfl)
    rw [hr, hstate]
  · rw [htt, Device.setSky_val, hv k hk']
    exact d.val_setVal_ne _ hk

/-- The part when a shorted supply has been tried with a current. -/
def Device.antTried (i : Nat) : Device :=
  (d.setNum K.skyAntCurrent i).setSky (fun s => { s with antRetry := d.clock.ticks, antLow := none, antHigh := none })

/-- Table 7-1: what a try of a shorted supply leads to at this tick. -/
def Device.antRetryNow (i : Nat) : Device :=
  if 10 * d.nat K.skyAntShortMa ≤ i then d.antTried i else (d.antTried i).setAnt (if i < 10 * d.nat K.skyAntOpenMa then 2 else 1)

theorem Device.antRetry_idle (i : Nat) (h : d.nat K.skyAntState ≠ 3 ∨ d.antOff = true) : d.antRetry i = d := if_pos (by simpa using h)

theorem Device.antRetry_eq (i : Nat) (h3 : d.nat K.skyAntState = 3) (hoff : d.antOff = false) :
    d.antRetry i = (d.runTo (d.sky.antRetry + sTicks)).antRetryNow i := by
  unfold Device.antRetry
  rw [if_neg (by simp [hoff, h3])]
  generalize d.runTo (d.sky.antRetry + sTicks) = e
  have ho : (e.setNum K.skyAntCurrent i).nat K.skyAntOpenMa = e.nat K.skyAntOpenMa := by rw [Device.nat_setNum, if_neg (by decide)]
  have hs : (e.setNum K.skyAntCurrent i).nat K.skyAntShortMa = e.nat K.skyAntShortMa := by rw [Device.nat_setNum, if_neg (by decide)]
  unfold Device.antRetryNow Device.antTried
  simp only [ho, hs]
  rfl

theorem Device.antRetryNow_obeys (i : Nat) (h3 : d.nat K.skyAntState = 3) : let t := d.antRetryNow i
    t.clock = d.clock ∧ t.nat K.skyAntCurrent = i
      ∧ t.nat K.skyAntState = (if 10 * d.nat K.skyAntShortMa ≤ i then 3 else if i < 10 * d.nat K.skyAntOpenMa then 2 else 1)
      ∧ ∀ k, k ≠ K.skyAntCurrent → k ≠ K.skyAntState → t.val k = d.val k := by
  intro t
  have hcur : (d.antTried i).val K.skyAntCurrent = .num (i : Int) := d.val_setVal_self _ _
  have hstate : (d.antTried i).nat K.skyAntState = 3 := ((d.nat_setNum _ _ _).trans (if_neg (by decide))).trans h3
  have hval : ∀ k, k ≠ K.skyAntCurrent → (d.antTried i).val k = d.val k := fun k hk => d.val_setVal_ne _ hk
  by_cases hs : 10 * d.nat K.skyAntShortMa ≤ i
  · have ht : t = d.antTried i := if_pos hs
    rw [ht, if_pos hs]
    exact ⟨rfl, congrArg (fun v => v.int.toNat) hcur, hstate, fun k hk _ => hval k hk⟩
  · have ht : t = (d.antTried i).setAnt (if i < 10 * d.nat K.skyAntOpenMa then 2 else 1) := if_neg hs
    obtain ⟨hc, -, hn, hv, -⟩ := (d.antTried i).setAnt_frame (if i < 10 * d.nat K.skyAntOpenMa then 2 else 1)
    rw [ht, if_neg hs]
    exact ⟨hc, congrArg (fun v => v.int.toNat) ((hv _ (by decide)).trans hcur), hn, fun k hk hk' => (hv k hk').trans (hval k hk)⟩

/-! ## The gain monitor (R189) -/

/-- The gains of the hour before this tick. -/
def Device.agcPast (l5 : Bool) : List (Nat × Nat) :=
  (if l5 then d.sky.agcL5 else d.sky.agcL1).filter (fun e => d.clock.ticks ≤ e.1 + 3600 * sTicks)

/-- Their median. -/
def Device.agcMedian (l5 : Bool) : Nat := median ((d.agcPast l5).map (·.2))

/-- R189: is a gain more than 10 dB under the median. -/
def Device.agcDropped (l5 : Bool) (gain : Nat) : Bool := Decidable.decide (d.agcPast l5 ≠ [] ∧ gain + 100 < d.agcMedian l5)

/-- The part with a gain published and kept. -/
def Device.agcTaken (l5 : Bool) (gain : Nat) : Device :=
  (d.setNum (if l5 then K.skyAgcL5 else K.skyAgcL1) gain).setSky (fun s =>
    if l5 then { s with agcBad := (s.agcBad.1, d.agcDropped l5 gain), agcL5 := (d.clock.ticks, gain) :: d.agcPast l5 }
    else { s with agcBad := (d.agcDropped l5 gain, s.agcBad.2), agcL1 := (d.clock.ticks, gain) :: d.agcPast l5 })

theorem Device.agc_idle (l5 : Bool) (gain : Nat) (h : d.nat K.fbState = 4 ∨ d.power.held ≠ 0) : d.agc l5 gain = d := if_pos (by simpa using h)

theorem Device.agc_eq (l5 : Bool) (gain : Nat) (h4 : d.nat K.fbState ≠ 4) (h0 : d.power.held = 0) : d.agc l5 gain =
    if d.agcDropped l5 gain = (if l5 then d.sky.agcBad.2 else d.sky.agcBad.1) then d.agcTaken l5 gain
    else (d.agcTaken l5 gain).report 0x050A [if l5 then 5 else 1, (d.agcMedian l5 : Int) - gain, if d.agcDropped l5 gain then 1 else 0] := by
  have : ¬ ((Decidable.decide (d.nat K.fbState = 4) || Decidable.decide (d.power.held ≠ 0)) = true) := by simp [h4, h0]
  exact if_neg this

theorem Device.agcTaken_frame (l5 : Bool) (gain : Nat) : let t := d.agcTaken l5 gain
    t.clock = d.clock ∧ t.nat (if l5 then K.skyAgcL5 else K.skyAgcL1) = gain
      ∧ (if l5 then t.sky.agcL5 else t.sky.agcL1) = (d.clock.ticks, gain) :: d.agcPast l5 ∧ t.entries = d.entries
      ∧ ∀ k, k ≠ (if l5 then K.skyAgcL5 else K.skyAgcL1) → t.val k = d.val k := by
  refine ⟨rfl, (Device.nat_setNum_self d _ _).trans (Int.toNat_natCast _), ?_, rfl, fun k hk => d.val_setVal_ne _ hk⟩
  cases l5 <;> rfl

/-- R189: a gain is published and kept; a drop that begins or ends is recorded. -/
theorem Device.agc_obeys (l5 : Bool) (gain : Nat) (h4 : d.nat K.fbState ≠ 4) (h0 : d.power.held = 0) : let t := d.agc l5 gain
    t.clock = d.clock ∧ t.nat (if l5 then K.skyAgcL5 else K.skyAgcL1) = gain
      ∧ (if l5 then t.sky.agcL5 else t.sky.agcL1) = (d.clock.ticks, gain) :: d.agcPast l5
      ∧ newReports d t = (if d.agcDropped l5 gain = (if l5 then d.sky.agcBad.2 else d.sky.agcBad.1) then []
          else [(0x050A, [if l5 then 5 else 1, (d.agcMedian l5 : Int) - gain, if d.agcDropped l5 gain then 1 else 0])])
      ∧ ∀ k, k ≠ (if l5 then K.skyAgcL5 else K.skyAgcL1) → t.val k = d.val k := by
  intro t
  have ht := d.agc_eq l5 gain h4 h0
  obtain ⟨hc, hg, hl, he, hv⟩ := d.agcTaken_frame l5 gain
  by_cases hb : d.agcDropped l5 gain = (if l5 then d.sky.agcBad.2 else d.sky.agcBad.1)
  · rw [if_pos hb] at ht ⊢
    have htt : t = d.agcTaken l5 gain := ht
    rw [htt]
    exact ⟨hc, hg, hl, newReports_of_entries (he.trans (List.append_nil _).symm), hv⟩
  · rw [if_neg hb] at ht ⊢
    have htt : t = _ := ht
    rw [htt, Device.report_sky]
    exact ⟨hc, hg, hl, newReports_of_entries (by rw [Device.entries_report, he]), hv⟩

end

end Sys2Proof.Machine
end

section
/-! Chapter 7: aids and orbit pages (R196 to R198). -/

namespace Sys2Proof.Machine

theorem exec_skyAidPos (s : State) (h : HapHdr) (v : Bytes) : exec (.skyAidPos h v) s = .next (s.hapWrite h K.skyAidPos v) := rfl
theorem exec_skyOrbitLoad (s : State) (h : HapHdr) (v : Bytes) : exec (.skyOrbitLoad h v) s = .next (s.hapWrite h K.skyOrbitLoad v) := rfl

/-! ## Byte strings without a rule of their own -/

/-- The objects whose byte string has a range check of its own. -/
def octetsRuled (k : Nat) : Bool :=
  (0x3000 ≤ k / 256 && k / 256 ≤ 0x302B) || (0x3500 ≤ k / 256 && k / 256 ≤ 0x352B && k % 256 = 1) || k = K.skySvExclude || k = K.hallVlanTable
    || k = K.hallFdbStatic || k = K.parClassifier || (0x4200 ≤ k / 256 && k / 256 ≤ 0x4207 && k % 256 = 0x15) || k = K.ledgerRootDest

theorem octetsBad_plain {k : Nat} (b : Bytes) (h : octetsRuled k = false) : octetsBad k b = false := by
  simp only [octetsRuled, Bool.or_eq_false_iff] at h
  obtain ⟨⟨⟨⟨⟨⟨⟨h1, h2⟩, h3⟩, h4⟩, h5⟩, h6⟩, h7⟩, h8⟩ := h
  simp only [octetsBad, h1, h2, Bool.false_eq_true, if_false, of_decide_eq_false h3, of_decide_eq_false h4, of_decide_eq_false h5, of_decide_eq_false h6,
    h7, of_decide_eq_false h8]

/-- A byte string of such an object is never out of range. -/
theorem rangeBad_plain {k : Nat} {row : ObjRow} (b : Bytes) (hty : (∃ n, row.ty = .octets n) ∨ ∃ n, row.ty = .upTo n) (h : octetsRuled k = false) :
    rangeBad k row b = false := by
  obtain ⟨n, hty⟩ | ⟨n, hty⟩ := hty <;> simp only [rangeBad, hty, octetsBad_plain b h]

/-- An RW object needs no session. -/
theorem Device.needsSession_rw (d : Device) {key : Nat} {row : ObjRow} (hacc : row.acc = .rw) (hk : key ≠ K.khOwnerKeySet) :
    d.needsSession key row true = false := by
  simp [Device.needsSession, hacc, hk]

/-! ## The aid (R197, R198) -/

theorem skyAidPos_row : dictFind (K.skyAidPos / 256) (K.skyAidPos % 256) = some ⟨0x2301, 0x2301, 0x02, 0x02, .octets 64, .rw, .rep 64 0, .any, 0⟩ := by
  decide +kernel

theorem Device.lowAction_skyAidPos (d : Device) (a : Asker) (b : Bytes) : d.lowAction a K.skyAidPos b = some (answerOf (d.writeAidPos b)) := rfl

theorem State.skyAidPos_written (s : State) (h : HapHdr) {v : Bytes} (hv : v.length = 64) (hw : s.writes h K.skyAidPos v) :
    exec (.skyAidPos h v) s = .next (s.wrote h K.skyAidPos v (answerOf ((s.asWritten h K.skyAidPos v).writeAidPos v))) :=
  congrArg Host.Outcome.next (s.action_granted h _ v _ _ hw skyAidPos_row ⟨by decide, by decide⟩ (Device.needsSession_rw _ rfl (by decide))
    (Device.lengthBad_plain _ _ _ _ (by decide) (by simp [Ty.allows, hv])) (rangeBad_plain v (.inl ⟨64, rfl⟩) (by decide))
    fun a _ _ _ _ _ => by rw [if_pos (by decide), Device.lowAction_skyAidPos])

section
variable (d : Device)

/-- R198: is an aid refused, whatever the mode. -/
def Device.aidRefused (b : Bytes) : Prop :=
  time96Bad (b.take 12) = true ∨ d.mt16 + 655360000000 < time96Of (b.take 12) ∨ aidNorm2 b < 6300000000 ^ 2 ∨ 6500000000 ^ 2 < aidNorm2 b
    ∨ fieldNat b 48 4 = 0 ∨ fieldNat b 56 8 ≠ 0

theorem Device.aidRefused_iff (b : Bytes) : (time96Bad (field b 0 12) || Decidable.decide (d.mt16 + sec16 / 100 < time96Of (field b 0 12))
      || Decidable.decide (aidNorm2 b < 6300000000 * 6300000000) || Decidable.decide (6500000000 * 6500000000 < aidNorm2 b)
      || Decidable.decide (fieldNat b 48 4 = 0) || Decidable.decide (fieldNat b 56 8 ≠ 0)) = true ↔ d.aidRefused b := by
  have hf : field b 0 12 = b.take 12 := rfl
  have hsec : sec16 / 100 = 655360000000 := by decide
  simp only [Device.aidRefused, hf, hsec, Bool.or_eq_true, decide_eq_true_eq, or_assoc, sq]

theorem Device.writeAidPos_refused {b : Bytes} (h : d.aidRefused b) : d.writeAidPos b = (St.range, d) := if_pos ((d.aidRefused_iff b).2 h)

theorem Device.writeAidPos_off {b : Bytes} (h : ¬ d.aidRefused b) (h0 : d.nat K.skyAidMode = 0) : d.writeAidPos b = (St.state, d) :=
  (if_neg (mt (d.aidRefused_iff b).1 h)).trans (if_pos h0)

theorem Device.writeAidPos_held {b : Bytes} (h : ¬ d.aidRefused b) (h0 : d.nat K.skyAidMode ≠ 0) :
    d.writeAidPos b = (St.ok, (d.setOct K.skyAidPos b).setSky (fun s => { s with aidHeld := true, aidRejected := false })) :=
  (if_neg (mt (d.aidRefused_iff b).1 h)).trans (if_neg h0)

/-! ## Orbit pages (R196) -/

theorem skyOrbitLoad_row : dictFind (K.skyOrbitLoad / 256) (K.skyOrbitLoad % 256)
    = some ⟨0x2301, 0x2301, 0x06, 0x06, .upTo 8192, .wo, .rep 8192 0, .any, 0⟩ := rfl

theorem Device.lowAction_skyOrbitLoad (a : Asker) (b : Bytes) : d.lowAction a K.skyOrbitLoad b = some (answerOf (d.writeOrbitLoad b)) := rfl

theorem Device.lengthBad_skyOrbitLoad (b : Bytes) : d.lengthBad (K.skyOrbitLoad / 256) (K.skyOrbitLoad % 256) (.upTo 8192) b =
    Decidable.decide (b.length = 0 ∨ 8192 < b.length ∨ b.length % 128 ≠ 0) := by
  have h1 : (K.skyOrbitLoad / 256, K.skyOrbitLoad % 256) = (0x2301, 6) := by decide
  obtain ⟨hi, hs⟩ := Prod.mk.inj h1
  obtain ⟨ha, hb, hc, hd, he⟩ : ¬ 2294022 = K.parClassifier ∧ ¬ 2294022 = K.hallVlanTable ∧ ¬ 2294022 = K.hallFdbStatic ∧
    2294022 = K.skyOrbitLoad ∧ ¬ 2294022 = K.studyFwImage := by decide
  rw [hi, hs, Bool.eq_iff_iff]
  simp [Device.lengthBad, Ty.allows, ha, hb, hc, hd, he]
  tauto
end

/-- A WRITE that is heard and granted to an object of another kind than RO, of a length that its type does not allow, is answered 0x1004. -/
theorem State.length_refused (s : State) (h : HapHdr) {key : Nat} {v : Bytes} {row : ObjRow} (hw : s.writes h key v)
    (hrow : dictFind (key / 256) (key % 256) = some row) (hses : (s.asWritten h key v).needsSession key row true = false) (hacc : row.acc ≠ .ro)
    (hk : key ≠ K.commitRequest ∧ key ≠ K.atticClear) (hlen : (s.asWritten h key v).lengthBad (key / 256) (key % 256) row.ty v = true) :
    s.hapWrite h key v = s.wrote h key v ((s.asWritten h key v).answer St.length) := by
  obtain ⟨hg, hf, hl⟩ := hw
  have hp : reqPay (hapReq h 2 key v) = v := by simp [reqPay, hapReq, hl]
  rw [State.hapWrite, State.hap_granted s h 2 (key / 256) (key % 256) v hg]
  refine congrArg (s.answered (hapReq h 2 key v)) ?_
  show (s.asWritten h key v).doWrite _ _ _ _ (reqPay (hapReq h 2 key v)) = _
  rw [hp]
  have hsplit : key / 256 * 256 + key % 256 = key := by omega
  simp [Device.doWrite, Device.accessBad, hrow, hsplit, hses, hacc, hlen, firstBad, Device.clearTried, Device.refuseWrite, hk.1, hk.2]

theorem State.skyOrbitLoad_refused (s : State) (h : HapHdr) {v : Bytes} (hw : s.writes h K.skyOrbitLoad v)
    (hb : v.length = 0 ∨ 8192 < v.length ∨ v.length % 128 ≠ 0) :
    exec (.skyOrbitLoad h v) s = .next (s.wrote h K.skyOrbitLoad v ((s.asWritten h K.skyOrbitLoad v).answer 0x1004)) :=
  congrArg Host.Outcome.next (s.length_refused h hw skyOrbitLoad_row (Device.needsSession_wo _ rfl (by decide)) (by decide) ⟨by decide, by decide⟩
    ((Device.lengthBad_skyOrbitLoad _ v).trans (decide_eq_true hb)))

theorem State.skyOrbitLoad_written (s : State) (h : HapHdr) {v : Bytes} (hw : s.writes h K.skyOrbitLoad v)
    (h0 : v.length ≠ 0) (h1 : v.length ≤ 8192) (h2 : v.length % 128 = 0) :
    exec (.skyOrbitLoad h v) s = .next (s.wrote h K.skyOrbitLoad v ((s.asWritten h K.skyOrbitLoad v).orbitLoad v).done) := by
  have hw' : ∀ d : Device, d.writeOrbitLoad v = (St.ok, d.orbitLoad v) := fun d => if_neg (by simp [h0, h1, h2])
  exact congrArg Host.Outcome.next (s.action_granted h _ v _ _ hw skyOrbitLoad_row ⟨by decide, by decide⟩ (Device.needsSession_wo _ rfl (by decide))
    ((Device.lengthBad_skyOrbitLoad _ v).trans (decide_eq_false (by omega))) (rangeBad_plain v (.inr ⟨8192, rfl⟩) (by decide))
    fun a _ _ _ _ _ => by
      rw [if_pos (by decide), Device.lowAction_skyOrbitLoad, hw']
      rfl)

section
variable (d : Device)

/-- An operation of Skylight that keeps the loaded pages and their counter, and records no refused page. -/
def Device.KeepsPages (d t : Device) : Prop :=
  t.sky.pages = d.sky.pages ∧ t.nat K.skyOrbitRejects = d.nat K.skyOrbitRejects ∧
    ∃ l, t.entries = d.entries ++ l ∧ l.filter (fun r => Decidable.decide (r.1 = 0x0509)) = []

variable {d} in
theorem Device.KeepsPages.trans {e t : Device} (h1 : d.KeepsPages e) (h2 : e.KeepsPages t) : d.KeepsPages t := by
  obtain ⟨p1, n1, l1, e1, f1⟩ := h1
  obtain ⟨p2, n2, l2, e2, f2⟩ := h2
  exact ⟨p2.trans p1, n2.trans n1, l1 ++ l2, by rw [e2, e1, List.append_assoc], by rw [List.filter_append, f1, f2]; rfl⟩

theorem Device.keepsPages_refl : d.KeepsPages d := ⟨rfl, rfl, [], (List.append_nil _).symm, rfl⟩

theorem Device.keepsPages_report {code : Nat} (p : List Int) (h : code ≠ 0x0509) : d.KeepsPages (d.report code p) :=
  ⟨rfl, rfl, [(code, p)], d.entries_report _ _, by simp [h]⟩

theorem Device.keepsPages_setVal {k : Nat} (v : Val) (h : K.skyOrbitRejects ≠ k) : d.KeepsPages (d.setVal k v) :=
  ⟨rfl, congrArg (fun v => v.int.toNat) (d.val_setVal_ne v h), [], (List.append_nil _).symm, rfl⟩

theorem Device.keepsPages_skyUtcCheck : d.KeepsPages d.skyUtcCheck := by
  unfold Device.skyUtcCheck
  dsimp only
  split
  · exact d.keepsPages_refl
  · exact Device.keepsPages_report (d := { d with sky := _ }) _ (by decide)

theorem Device.keepsPages_skyNav (utc : Int) (leap : Bytes) : d.KeepsPages (d.skyNav utc leap) := by
  unfold Device.skyNav
  have h1 := d.keepsPages_setVal (.num utc) (by decide : K.skyOrbitRejects ≠ K.skyUtcBcast)
  refine .trans ?_ (Device.keepsPages_skyUtcCheck _)
  have h2 : d.KeepsPages (if leap.length = 8 then (d.setNum K.skyUtcBcast utc).setOct K.skyLeapBcast leap else d.setNum K.skyUtcBcast utc) := by
    split
    · exact h1.trans (Device.keepsPages_setVal _ _ (by decide))
    · exact h1
  split
  · exact h2.trans (Device.keepsPages_report _ _ (by decide))
  · exact h2

/-- R196: is a page good. -/
def pageGood (p : Bytes) : Bool := sigKnown (fieldNat p 0 1) (fieldNat p 1 1) && 1 ≤ fieldNat p 2 2 && fieldNat p 2 2 ≤ 992
  && Config.navPageOk (fieldNat p 0 1) p

/-- The pages of a load. -/
def orbitPages (b : Bytes) : List Bytes := (List.range (b.length / 128)).map (fun i => field b (128 * i) 128)

/-- The part with the good pages of a load kept. -/
def Device.pagesKept (b : Bytes) : Device :=
  d.setSky (fun s => { s with pages := s.pages ++ ((orbitPages b).filter pageGood).map (fun p => (d.clock.mt / secU, p)) })

/-- The number of refused pages. -/
def pagesBad (b : Bytes) : Nat := ((orbitPages b).filter (fun p => !pageGood p)).length

theorem Device.orbitLoad_eq (b : Bytes) : ∃ t, (d.pagesKept b).KeepsPages t ∧
    d.orbitLoad b = if pagesBad b = 0 then t else (t.bumpBy 4 K.skyOrbitRejects (pagesBad b)).report 0x0509 [2, pagesBad b] := by
  refine ⟨_, ?_, rfl⟩
  show (d.pagesKept b).KeepsPages (match Config.pagesUtc _ ((d.pagesKept b).pagesOf _) _ with | some (u, l) => _ | none => d.pagesKept b)
  split
  · split
    · exact Device.keepsPages_skyNav _ _ _
    · exact Device.keepsPages_refl _
  · exact Device.keepsPages_refl _

/-- R196: every page is kept or counted, and the count is recorded. -/
theorem Device.orbitLoad_obeys (b : Bytes) : ∃ bad, (d.orbitLoad b).sky.pages.length + bad = d.sky.pages.length + b.length / 128
    ∧ (d.nat K.skyOrbitRejects + bad < 2 ^ 32 → (d.orbitLoad b).nat K.skyOrbitRejects = d.nat K.skyOrbitRejects + bad)
    ∧ (newReports d (d.orbitLoad b)).filter (fun r => r.1 = 0x0509) = (if bad = 0 then [] else [(0x0509, [2, (bad : Int)])]) := by
  obtain ⟨t, ⟨hp, hn, l, he, hl⟩, ho⟩ := d.orbitLoad_eq b
  have hlen : t.sky.pages.length + pagesBad b = d.sky.pages.length + b.length / 128 := by
    have hsum := List.length_eq_length_filter_add (l := orbitPages b) pageGood
    have hall : (orbitPages b).length = b.length / 128 := by simp [orbitPages]
    rw [hp, Device.pagesKept, Device.setSky_sky, List.length_append, List.length_map, pagesBad]
    omega
  have hn' : t.nat K.skyOrbitRejects = d.nat K.skyOrbitRejects := hn
  have he' : t.entries = d.entries ++ l := he
  refine ⟨pagesBad b, ?_⟩
  rw [ho]
  by_cases h0 : pagesBad b = 0
  · rw [if_pos h0, if_pos h0, newReports_of_entries he', hl]
    exact ⟨hlen, fun _ => by rw [h0, hn', Nat.add_zero], rfl⟩
  · rw [if_neg h0, if_neg h0, Device.report_sky, Device.bumpBy_sky, Device.report_nat, newReports_of_entries (l := l ++ [(0x0509, [2, (pagesBad b : Int)])])
      (by rw [Device.entries_report, Device.entries_bumpBy, he', List.append_assoc]), List.filter_append, hl]
    exact ⟨hlen, fun h => by rw [Device.nat_bumpBy _ _ _ _ (by rw [hn']; exact h), hn'], rfl⟩

end

/-- Settles O36: the supply and the gain by their frames, an aid and a load of pages by what their writes answer. -/
theorem skylightSupplyAidAndPages : Obligations.SkylightSupplyAidAndPages := by
  refine ⟨fun s i hst => ⟨fun h => ?_, fun hoff h3 => ?_⟩, fun s i => ⟨fun h => ?_, fun h3 hoff => ?_⟩, fun s l5 gain => ⟨fun h => ?_, fun h4 h0 => ?_⟩,
    fun s h v hv hw => ⟨fun hr => ?_, fun hr h0 => ?_, fun hr h0 => ?_⟩, fun s h v hv hw => ⟨fun hb => ?_, fun h0 h1 h2 => ⟨?_, ?_⟩⟩⟩
  · rw [exec_antCurrentMeasure, State.on, s.dev.antMeasure_idle i h]
  · exact ⟨_, exec_antCurrentMeasure s i, rfl, s.dev.antMeasure_obeys i hoff h3⟩
  · rw [exec_antShortRetry, State.on, s.dev.antRetry_idle i h]
  · have hexec := exec_antShortRetry s i
    rw [State.on, s.dev.antRetry_eq i h3 hoff] at hexec
    have h := (s.dev.runTo (s.dev.sky.antRetry + sTicks)).antRetryNow_obeys i ((Device.runTo_nat _ _ _).trans h3)
    simp only [Device.runTo_nat, Device.runTo_val] at h
    exact ⟨_, hexec, rfl, h⟩
  · rw [exec_agcInterference, State.on, s.dev.agc_idle l5 gain h]
  · exact ⟨_, exec_agcInterference s l5 gain, rfl, s.dev.agc_obeys l5 gain h4 h0⟩
  · rw [s.skyAidPos_written h hv hw, Device.writeAidPos_refused _ hr]
    rfl
  · rw [s.skyAidPos_written h hv hw, Device.writeAidPos_off _ hr h0]
    rfl
  · rw [s.skyAidPos_written h hv hw, Device.writeAidPos_held _ hr h0]
    rfl
  · exact s.skyOrbitLoad_refused h hw hb
  · exact s.skyOrbitLoad_written h hw h0 h1 h2
  · exact (s.asWritten h K.skyOrbitLoad v).orbitLoad_obeys v

end Sys2Proof.Machine
end

section
/-! Chapter 7: searches, channels and their loops (R191 to R204, R218). -/

namespace Sys2Proof.Machine

theorem exec_acqDwell (s : State) (slot c code sv orbit : Nat) (k : Int) (detected : Bool) (elev : Int) (azim : Nat) :
    exec (.acqDwell ⟨slot, c⟩ code sv ⟨orbit, k⟩ detected elev azim) s = .next (s.on (·.acqDwell slot c code sv orbit k detected elev azim)) := rfl
theorem exec_pullInTimeout (s : State) (c : Nat) : exec (.pullInTimeout c) s = .next (s.on (·.pullInTimeout c)) := rfl
theorem exec_coastTimeout (s : State) (c : Nat) : exec (.coastTimeout c) s = .next (s.on (·.coastTimeout c)) := rfl
theorem exec_correlatorDump (s : State) (c cn0 : Nat) (acc : List (Int × Int)) (locked updated : Bool) (nav : Option (Int × Bytes)) :
    exec (.correlatorDump c ⟨cn0, acc⟩ locked updated nav) s = .next (s.on (·.dump c cn0 acc locked updated nav)) := rfl
theorem exec_loopUpdateTimeout (s : State) : exec .loopUpdateTimeout s = .next (s.on (·.loopTimeout)) := rfl

/-- The element that a change at its place makes. -/
theorem getD_updAt {α : Type} {l : List α} {n : Nat} (f : α → α) (x : α) (h : n < l.length) : (updAt l n f).getD n x = f (l.getD n x) := by
  simp [updAt, List.getD_eq_getElem?_getD, List.getElem?_modify_eq, List.getElem?_eq_getElem h]

theorem length_updAt {α : Type} (l : List α) (n : Nat) (f : α → α) : (updAt l n f).length = l.length := List.length_modify ..

/-! ## The objects of a channel -/

section
variable {c m : Nat}

/-- The objects of a channel, CH_STATE to CH_AZIM. -/
def chanKey (c k : Nat) : Bool := K.chState c ≤ k && k ≤ K.chAzim c

/-- No two channels share an object. -/
theorem chanKey_chState (h : m ≠ c) : chanKey c (K.chState m) = false := by
  rw [Bool.eq_false_iff]
  simp [chanKey, K.chState, K.chAzim]
  omega

variable (d : Device)

/-- The objects that a channel's state leaves alone. -/
def skyBlank : Blank := { clear := fun d => { d with obj := [], lost := [], attic := {}, sky := {} }, clear_setVal := fun _ _ _ => rfl }

variable {C : Nat → Bool}

theorem sky_clock {e : Device} (h : e.beside skyBlank C = d.beside skyBlank C) : e.clock = d.clock := congrArg (fun x => x.1.clock) h

theorem Device.sky_setSky (f : Sky → Sky) : (d.setSky f).beside skyBlank C = d.beside skyBlank C := rfl
theorem Device.sky_report (code : Nat) (p : List Int) : (d.report code p).beside skyBlank C = d.beside skyBlank C := rfl
theorem Device.sky_setSkyCh (f : SkyChannel → SkyChannel) : (d.setSkyCh c f).beside skyBlank C = d.beside skyBlank C := rfl

theorem Device.sky_setTracker (t : Nat) (h : C K.skyTracker = true) : (d.setTracker t).beside skyBlank C = d.beside skyBlank C := by
  simp only [Device.setTracker, apply_ite (Device.beside skyBlank C), Device.sky_setSky, Device.beside_setNum _ _ h, Device.sky_report, ite_self]

theorem Device.setTracker_chans (t : Nat) : (d.setTracker t).sky.chans = d.sky.chans := by
  unfold Device.setTracker
  split <;> rfl

theorem Device.setTracker_of_tracker {t : Nat} (h : d.nat K.skyTracker = t) : d.setTracker t = d := if_pos h

theorem Device.setTracker_tracker (t : Nat) : (d.setTracker t).nat K.skyTracker = t := by
  unfold Device.setTracker
  split
  · assumption
  · rw [Device.setSky_nat, Device.nat_setNum_self, Int.toNat_natCast]

theorem Device.setTracker_val (t : Nat) {k : Nat} (h : k ≠ K.skyTracker) : (d.setTracker t).val k = d.val k :=
  val_of_beside (C := fun k => Decidable.decide (k = K.skyTracker)) (d.sky_setTracker t (by simp)) (by simp [h])

/-! ## Searches -/

/-- R218: a search begins with the firmware tracker where Study runs and no channel is in use. -/
def Device.dwellStart : Device := if (d.studyTracks && Decidable.decide (d.skyInUse = 0)) = true then d.setTracker 0 else d

/-- The part with a slot's dwell ended. -/
def Device.dwellLooked (slot code orb : Nat) (k : Int) : Device :=
  d.setSky (fun s => { s with search := d.searchSize code orb k, slots := updAt s.slots slot (fun _ => d.clock.ticks) })

/-- Channel c takes a detected signal. -/
def Device.assignChannel (now c code sv : Nat) (elev : Int) (azim : Nat) : Device :=
  (d.setNums [(K.chState c, 1), (K.chSignal c, code), (K.chSv c, sv), (K.chElev c, elev), (K.chAzim c, azim)]).setSkyCh c
    (fun x => { x with
      assigned := now, updated := now, ncoAt := now, chips := 0, acc := []
      codeRate := Config.ncoStart code 0 % 2 ^ 48, carrRate := Config.ncoStart code 1 % 2 ^ 48 })

theorem Device.dwellStart_frame : d.dwellStart.clock = d.clock ∧ d.dwellStart.sky.chans = d.sky.chans ∧ ∀ j, j ≠ K.skyTracker → d.dwellStart.val j = d.val j := by
  unfold Device.dwellStart
  split
  · exact ⟨sky_clock _ (d.sky_setTracker 0 (C := fun _ => true) rfl), d.setTracker_chans 0, fun j hj => d.setTracker_val 0 hj⟩
  · exact ⟨rfl, rfl, fun _ _ => rfl⟩

theorem Device.dwellStart_of_tracker (h : d.nat K.skyTracker = 0) : d.dwellStart = d := by rw [Device.dwellStart, d.setTracker_of_tracker h, ite_self]

theorem Device.acqDwell_idle (slot c code sv orbit : Nat) (k : Int) (detected : Bool) (elev : Int) (azim : Nat)
    (h : 64 ≤ slot ∨ d.clock.mtRun = false) : d.acqDwell slot c code sv orbit k detected elev azim = d := if_pos (by simpa using h)

/-- A dwell that detects nothing. -/
theorem Device.acqDwell_missed {slot code sv : Nat} (c orbit : Nat) (k elev : Int) (azim : Nat) (hs : slot < 64) (hr : d.clock.mtRun = true)
    (hh : ¬ (sigL5 code = true ∧ d.onChannel (sigL1Of code) sv [2] = true)) : ∃ orb, d.acqDwell slot c code sv orbit k false elev azim =
      (d.runTo (d.sky.slots.getD slot 0 + d.nat K.skyAcqNoncoh * msTicks)).dwellStart.dwellLooked slot code orb k := by
  have hho : (sigL5 code && d.onChannel (sigL1Of code) sv [2]) = false := by simpa using hh
  unfold Device.acqDwell
  rw [if_neg (by simp [hr]; omega), hho]
  exact ⟨_, rfl⟩

/-- The conditions on a detected signal under which it goes to channel c, which is FREE. -/
def Device.assignable (c code sv : Nat) (elev : Int) : Prop :=
  c < 128 ∧ d.skyCh c = 0 ∧ sigKnown code sv = true ∧ sigEnabled d.num code = true ∧ d.onChannel code sv [1, 2, 3] = false ∧
    d.num K.skyElevMask * 100 ≤ elev

/-- What a dwell does with a detected signal. -/
def Device.dwellDetected (d1 : Device) (c code sv : Nat) (elev : Int) (azim : Nat) : Device :=
  let lowest := (List.range 128).all (fun k => d.num (K.chElev c) ≤ d.num (K.chElev k)) && Decidable.decide (d.num (K.chElev c) < elev)
  if (Decidable.decide (c < 128) && Decidable.decide (d.nat K.skyTracker = 0) && sigKnown code sv && sigEnabled d.num code && !d.onChannel code sv [1, 2, 3]
      && Decidable.decide (d.num K.skyElevMask * 100 ≤ elev)
      && (Decidable.decide (d.skyCh c = 0) || (Decidable.decide (d.skyInUse = 128) && lowest))) = true then
    d1.assignChannel d.clock.ticks c code sv elev azim
  else d1

theorem Device.dwellDetected_of_assignable {d1 : Device} {code sv : Nat} {elev : Int} (azim : Nat) (h : d.assignable c code sv elev)
    (ht : d.nat K.skyTracker = 0) : d.dwellDetected d1 c code sv elev azim = d1.assignChannel d.clock.ticks c code sv elev azim := by
  obtain ⟨h1, h2, h3, h4, h5, h6⟩ := h
  exact if_pos (by simp only [h1, h2, h3, h4, h5, h6, ht, decide_true, Bool.and_self, Bool.true_or, Bool.not_false])

theorem Device.acqDwell_detected {slot code sv : Nat} (c orbit : Nat) (k elev : Int) (azim : Nat) (hs : slot < 64) (hr : d.clock.mtRun = true)
    (hh : ¬ (sigL5 code = true ∧ d.onChannel (sigL1Of code) sv [2] = true)) : ∃ orb, d.acqDwell slot c code sv orbit k true elev azim =
      let e := (d.runTo (d.sky.slots.getD slot 0 + d.nat K.skyAcqNoncoh * msTicks)).dwellStart
      e.dwellDetected (e.dwellLooked slot code orb k) c code sv elev azim := by
  have hho : (sigL5 code && d.onChannel (sigL1Of code) sv [2]) = false := by simpa using hh
  unfold Device.acqDwell
  rw [if_neg (by simp [hr]; omega), hho]
  exact ⟨_, rfl⟩

theorem Device.assignable_runTo {t : Nat} {code sv : Nat} {elev : Int} (h : d.assignable c code sv elev) : (d.runTo t).assignable c code sv elev := by
  have hn : (d.runTo t).num = d.num := funext fun k => Device.runTo_num d t k
  have hst : ∀ m, (d.runTo t).skyCh m = d.skyCh m := fun m => Device.runTo_nat d t _
  have hon : ∀ sts, (d.runTo t).onChannel code sv sts = d.onChannel code sv sts := fun sts => by simp only [Device.onChannel, hst, Device.runTo_nat]
  simpa only [Device.assignable, hn, hst, hon] using h

theorem Device.assignChannel_chan (now code sv : Nat) (elev : Int) (azim : Nat) (hlen : c < d.sky.chans.length) :
    ((d.assignChannel now c code sv elev azim).sky.chans.getD c {}).assigned = now :=
  congrArg SkyChannel.assigned (getD_updAt _ _ (by exact hlen))

theorem Device.assignChannel_frame (now c code sv : Nat) (elev : Int) (azim : Nat) :
    (d.assignChannel now c code sv elev azim).beside skyBlank (chanKey c) = d.beside skyBlank (chanKey c) :=
  (Device.sky_setSkyCh _ _).trans (d.beside_setNums (C := chanKey c) [(K.chState c, 1), (K.chSignal c, (code : Int)), (K.chSv c, (sv : Int)), (K.chElev c, elev), (K.chAzim c, (azim : Int))]
    (by simp [chanKey, K.chState, K.chSignal, K.chSv, K.chElev, K.chAzim]))

theorem Device.num_assignChannel (now c code sv : Nat) (elev : Int) (azim k : Nat) : (d.assignChannel now c code sv elev azim).num k =
    if k = K.chAzim c then (azim : Int) else if k = K.chElev c then elev else if k = K.chSv c then (sv : Int) else if k = K.chSignal c then (code : Int)
    else if k = K.chState c then 1 else d.num k := by
  simp only [Device.assignChannel, Device.setSkyCh, Device.setSky_num, Device.setNums, Device.num_setNum]

theorem Device.assignChannel_obj (now c code sv : Nat) (elev : Int) (azim : Nat) : let t := d.assignChannel now c code sv elev azim
    t.skyCh c = 1 ∧ t.nat (K.chSignal c) = code ∧ t.nat (K.chSv c) = sv ∧ t.num (K.chElev c) = elev ∧ t.nat (K.chAzim c) = azim := by
  have hnum := d.num_assignChannel now c code sv elev azim
  simp only [Device.skyCh, Device.nat, hnum]
  refine ⟨?_, ?_, ?_, ?_, ?_⟩
  · repeat rw [if_neg (by simp only [K.chState, K.chSignal, K.chSv, K.chElev, K.chAzim]; omega)]
    rw [if_pos trivial]; rfl
  · repeat rw [if_neg (by simp only [K.chState, K.chSignal, K.chSv, K.chElev, K.chAzim]; omega)]
    rw [if_pos trivial]; rfl
  · repeat rw [if_neg (by simp only [K.chState, K.chSignal, K.chSv, K.chElev, K.chAzim]; omega)]
    rw [if_pos trivial]; rfl
  · repeat rw [if_neg (by simp only [K.chState, K.chSignal, K.chSv, K.chElev, K.chAzim]; omega)]
    rw [if_pos trivial]
  · rw [if_pos trivial]; rfl

end

end Sys2Proof.Machine
end

section
/-! Chapter 7: the states of a channel, its dumps, and stopped loops (R201 to R204, R218). -/

namespace Sys2Proof.Machine

section
variable (d : Device) {c : Nat}

/-! ## Channel states -/

theorem Device.setSkyState_frame (st : Nat) : (d.setSkyState c st).beside skyBlank (chanKey c) = d.beside skyBlank (chanKey c) := by
  have hstate : chanKey c (K.chState c) = true := by simp [chanKey, K.chState, K.chAzim]
  have hnums : ∀ e : Device, (e.setNums [(K.chSignal c, 0), (K.chSv c, 0), (K.chCn0 c, 0), (K.chElev c, 0), (K.chAzim c, 0)]).beside skyBlank (chanKey c)
      = e.beside skyBlank (chanKey c) := fun e => e.beside_setNums _ (by simp [chanKey, K.chState, K.chSignal, K.chSv, K.chCn0, K.chElev, K.chAzim])
  simp only [Device.setSkyState, apply_ite (Device.beside skyBlank (chanKey c)), Device.sky_setSkyCh, hnums, Device.beside_setNum _ _ hstate, ite_self]

theorem Device.num_setSkyState_zero (k : Nat) : (d.setSkyState c 0).num k =
    if k = K.chAzim c then 0 else if k = K.chElev c then 0 else if k = K.chCn0 c then 0 else if k = K.chSv c then 0 else if k = K.chSignal c then 0
    else if k = K.chState c then ((0 : Nat) : Int) else d.num k := by
  simp only [Device.setSkyState, OfNat.ofNat_ne_zero, OfNat.zero_ne_ofNat, if_false, if_true, Device.setNums, Device.num_setNum]

/-- A channel that is freed names no signal. -/
theorem Device.setSkyState_zero : (d.setSkyState c 0).skyCh c = 0 ∧ (d.setSkyState c 0).nat (K.chSignal c) = 0 := by
  constructor
  · rw [Device.skyCh, Device.nat, Device.num_setSkyState_zero]
    simp
  · rw [Device.nat, Device.num_setSkyState_zero]
    simp

theorem Device.setSkyState_self {st : Nat} (h : st ≠ 0) : (d.setSkyState c st).skyCh c = st := by
  unfold Device.setSkyState Device.skyCh
  dsimp only
  rw [if_neg h]
  split
  · rw [Device.setSkyCh, Device.setSky_nat, Device.nat_setNum_self, Int.toNat_natCast]
  · rw [Device.nat_setNum_self, Int.toNat_natCast]

theorem Device.setSkyState_val {st : Nat} (h : st ≠ 0) {k : Nat} (hk : k ≠ K.chState c) : (d.setSkyState c st).val k = d.val k := by
  unfold Device.setSkyState
  dsimp only
  rw [if_neg h]
  split
  · rw [Device.setSkyCh, Device.setSky_val]
    exact d.val_setVal_ne _ hk
  · exact d.val_setVal_ne _ hk

/-- R203: a channel that is freed, and no other. -/
theorem Device.freed_frame : let t := d.setSkyState c 0
    t.skyCh c = 0 ∧ t.nat (K.chSignal c) = 0 ∧ t.clock = d.clock ∧ ∀ m, m ≠ c → m < 128 → t.skyCh m = d.skyCh m := by
  obtain ⟨h1, h2⟩ := d.setSkyState_zero (c := c)
  exact ⟨h1, h2, sky_clock _ (d.setSkyState_frame 0), fun m hm _ => nat_of_beside (d.setSkyState_frame 0) (chanKey_chState hm)⟩

theorem Device.pullInTimeout_idle (h : d.skyCh c ≠ 1) : d.pullInTimeout c = d := if_neg (by simp [h])
theorem Device.coastTimeout_idle (h : d.skyCh c ≠ 3) : d.coastTimeout c = d := if_neg (by simp [h])

theorem Device.pullInTimeout_eq (h : d.skyCh c = 1) (hc : c < 128) :
    d.pullInTimeout c = (d.runTo ((d.sky.chans.getD c {}).assigned + sTicks / 5)).setSkyState c 0 := if_pos (by simp [h, hc])
theorem Device.coastTimeout_eq (h : d.skyCh c = 3) (hc : c < 128) :
    d.coastTimeout c = (d.runTo ((d.sky.chans.getD c {}).coastSince + sTicks)).setSkyState c 0 := if_pos (by simp [h, hc])

/-! ## Dumps -/

/-- R218: firmware takes the loops at the first dump after Study runs. -/
def Device.dumpTracked (d : Device) : Device := if d.studyTracks then d.setTracker 0 else d

/-- The part with the dump taken and its C/N0 published. -/
def Device.dumpTaken (d : Device) (c cn0 : Nat) (acc : List (Int × Int)) (updated : Bool) : Device :=
  (d.dumpTracked.takeDump c acc updated).setNum (K.chCn0 c) cn0

/-- Table 7-7: the channel moves as the dump says. -/
def Device.dumpMoved (d : Device) (c cn0 : Nat) (locked : Bool) (now : Nat) : Device :=
  let stale := Decidable.decide ((d.sky.chans.getD c {}).updated + sTicks / 200 ≤ now)
  if (locked && (Decidable.decide (d.skyCh c = 1) || Decidable.decide (d.skyCh c = 3))) = true then d.setSkyState c 2
  else if (Decidable.decide (d.skyCh c = 2) && (!locked || Decidable.decide (cn0 < 2200) || stale)) = true then d.setSkyState c 3 else d

/-- R215: navigation data of the primary constellation are taken. -/
def Device.dumpNav (d : Device) (c : Nat) : Option (Int × Bytes) → Device
  | some (u, l) => if d.nat K.skyTracker = 0 && sigConst (d.nat (K.chSignal c)) = primaryConst (d.nat K.skyTimescale) then d.skyNav u l else d
  | none => d

/-- The dump at this tick. -/
def Device.dumpNow (d : Device) (c cn0 : Nat) (acc : List (Int × Int)) (locked updated : Bool) (nav : Option (Int × Bytes)) : Device :=
  ((d.dumpTaken c cn0 acc updated).dumpMoved c cn0 locked d.dumpTracked.clock.ticks).dumpNav c nav

/-- The states of the part in which a channel has no dump. -/
def Device.dumpShut (d : Device) (c : Nat) : Prop :=
  128 ≤ c ∨ d.skyCh c = 0 ∨ (d.nat K.skyTracker = 2 ∧ d.studyTracks = false) ∨ d.nat K.fbState = 4

theorem Device.dumpShut_iff : (Decidable.decide (128 ≤ c) || Decidable.decide (d.skyCh c = 0) || (Decidable.decide (d.nat K.skyTracker = 2) && !d.studyTracks)
    || Decidable.decide (d.nat K.fbState = 4)) = true ↔ d.dumpShut c := by
  simp only [Device.dumpShut, Bool.or_eq_true, Bool.and_eq_true, decide_eq_true_eq, Bool.not_eq_true', or_assoc]

theorem Device.dump_shut (cn0 : Nat) (acc : List (Int × Int)) (locked updated : Bool) (nav : Option (Int × Bytes)) (h : d.dumpShut c) :
    d.dump c cn0 acc locked updated nav = d := if_pos (d.dumpShut_iff.2 h)

theorem Device.dump_none (cn0 : Nat) (acc : List (Int × Int)) (locked updated : Bool) (nav : Option (Int × Bytes))
    (h : (d.sky.chans.getD c {}).dumpTick (dumpChips (d.nat (K.chSignal c))) = none) : d.dump c cn0 acc locked updated nav = d := by
  unfold Device.dump
  split
  · rfl
  · rw [h]

theorem Device.dump_eq (cn0 : Nat) (acc : List (Int × Int)) (locked updated : Bool) (nav : Option (Int × Bytes)) {tick : Nat} (hs : ¬ d.dumpShut c)
    (h : (d.sky.chans.getD c {}).dumpTick (dumpChips (d.nat (K.chSignal c))) = some tick) :
    d.dump c cn0 acc locked updated nav = (d.runTo tick).dumpNow c cn0 acc locked updated nav := by
  unfold Device.dump
  rw [if_neg (mt d.dumpShut_iff.1 hs), h]
  unfold Device.dumpNow Device.dumpNav
  cases nav <;> rfl

theorem dumpChips_pos (code : Nat) : 0 < dumpChips code := by
  unfold dumpChips
  split
  · decide
  · split <;> decide

theorem Device.dumpTracked_frame : d.dumpTracked.clock = d.clock ∧ d.dumpTracked.sky.chans = d.sky.chans ∧
    (∀ k, k ≠ K.skyTracker → d.dumpTracked.val k = d.val k) ∧ d.dumpTracked.nat K.skyTracker = (if d.studyTracks then 0 else d.nat K.skyTracker) := by
  unfold Device.dumpTracked
  cases h : d.studyTracks with
  | true => exact ⟨sky_clock _ (d.sky_setTracker 0 (C := fun _ => true) rfl), d.setTracker_chans 0, fun k hk => d.setTracker_val 0 hk, d.setTracker_tracker 0⟩
  | false => exact ⟨rfl, rfl, fun _ _ => rfl, rfl⟩

/-- The channel after its own state has changed. -/
theorem Device.chan_setSkyCh (f : SkyChannel → SkyChannel) (hc : c < d.sky.chans.length) :
    (d.setSkyCh c f).sky.chans.getD c {} = f (d.sky.chans.getD c {}) := getD_updAt f {} hc

theorem Device.length_setSkyCh (f : SkyChannel → SkyChannel) : (d.setSkyCh c f).sky.chans.length = d.sky.chans.length := length_updAt _ _ _

/-- R201: a channel whose dump is taken at a tick. -/
def SkyChannel.dumped (x : SkyChannel) (now : Nat) (acc : List (Int × Int)) (chips : Nat) : SkyChannel :=
  { x.advance now with acc := acc, chips := (x.advance now).chips % chips }

theorem Device.takeDump_eq (acc : List (Int × Int)) (updated : Bool) : ∃ r : SkyChannel → Nat × Nat,
    let now := d.clock.ticks
    let d1 := d.setSkyCh c (fun x => x.dumped now ((acc.take 6).map (fun p => (acc24 p.1, acc24 p.2))) (dumpChips (d.nat (K.chSignal c))))
    d.takeDump c acc updated = if !updated then d1 else
      (d1.setSkyCh c (fun x => { x with updated := now, codeRate := (r x).1 % 2 ^ 48, carrRate := (r x).2 % 2 ^ 48 })).setSky
        (fun s => { s with updated := now, stopped := false }) := ⟨_, rfl⟩

/-- R201: the accumulators and NCOs of a channel as its dump leaves them. -/
theorem Device.takeDump_frame (acc : List (Int × Int)) (updated : Bool) (hc : c < d.sky.chans.length) : let t := d.takeDump c acc updated
    let x := t.sky.chans.getD c {}
    t.clock = d.clock ∧ (∀ k, t.val k = d.val k) ∧ t.sky.chans.length = d.sky.chans.length ∧ x.acc = (acc.take 6).map (fun p => (acc24 p.1, acc24 p.2))
      ∧ x.chips < dumpChips (d.nat (K.chSignal c)) ∧ x.updated = (if updated then d.clock.ticks else (d.sky.chans.getD c {}).updated)
      ∧ (updated = true → t.sky.updated = d.clock.ticks) := by
  have hmod := Nat.mod_lt (((d.sky.chans.getD c {}).advance d.clock.ticks).chips) (dumpChips_pos (d.nat (K.chSignal c)))
  obtain ⟨r, h⟩ := d.takeDump_eq (c := c) acc updated
  cases updated with
  | false =>
    rw [h.trans (if_pos rfl)]
    dsimp only
    rw [Device.chan_setSkyCh _ _ hc, Device.length_setSkyCh]
    exact ⟨rfl, fun _ => rfl, rfl, rfl, hmod, rfl, fun h => absurd h Bool.false_ne_true⟩
  | true =>
    rw [h.trans (if_neg Bool.false_ne_true)]
    simp only [Device.setSky_sky]
    rw [Device.chan_setSkyCh _ _ (by rw [Device.length_setSkyCh]; exact hc), Device.chan_setSkyCh _ _ hc, Device.length_setSkyCh, Device.length_setSkyCh]
    exact ⟨rfl, fun _ => rfl, rfl, rfl, hmod, rfl, fun _ => trivial⟩

theorem Device.setSkyState_chan {st : Nat} (h : st ≠ 0) (hc : c < d.sky.chans.length) : let x := (d.setSkyState c st).sky.chans.getD c {}
    x.acc = (d.sky.chans.getD c {}).acc ∧ x.chips = (d.sky.chans.getD c {}).chips ∧ (d.setSkyState c st).sky.updated = d.sky.updated := by
  unfold Device.setSkyState
  dsimp only
  rw [if_neg h]
  split
  · rw [Device.chan_setSkyCh _ _ (by exact hc)]
    exact ⟨rfl, rfl, rfl⟩
  · exact ⟨rfl, rfl, rfl⟩

/-- Navigation data change only what they carry of UTC. -/
theorem Device.skyNav_frame (u : Int) (l : Bytes) : (d.skyNav u l).clock = d.clock ∧ (d.skyNav u l).sky.chans = d.sky.chans ∧
    (d.skyNav u l).sky.updated = d.sky.updated ∧ ∀ k, k ≠ K.skyUtcBcast → k ≠ K.skyLeapBcast → (d.skyNav u l).val k = d.val k := by
  have hcheck : ∀ e : Device, e.skyUtcCheck.clock = e.clock ∧ e.skyUtcCheck.sky.chans = e.sky.chans ∧ e.skyUtcCheck.sky.updated = e.sky.updated ∧
      ∀ k, e.skyUtcCheck.val k = e.val k := fun e => by
    unfold Device.skyUtcCheck
    dsimp only
    split <;> exact ⟨rfl, rfl, rfl, fun _ => rfl⟩
  unfold Device.skyNav
  dsimp only
  obtain ⟨h1, h2, h3, h4⟩ := hcheck (if (Decidable.decide (l.length = 8) && Decidable.decide (l ≠ d.oct K.skyLeapBcast) && Decidable.decide (l ≠ List.replicate 8 0)) = true then
    (if l.length = 8 then (d.setNum K.skyUtcBcast u).setOct K.skyLeapBcast l else d.setNum K.skyUtcBcast u).report 0x0506
      [toSigned 2 (fieldNat l 6 2), hi32 (fieldNat l 0 6), lo32 (fieldNat l 0 6)]
    else (if l.length = 8 then (d.setNum K.skyUtcBcast u).setOct K.skyLeapBcast l else d.setNum K.skyUtcBcast u))
  rw [h1, h2, h3]
  have hval : ∀ k, k ≠ K.skyUtcBcast → k ≠ K.skyLeapBcast →
      (if l.length = 8 then (d.setNum K.skyUtcBcast u).setOct K.skyLeapBcast l else d.setNum K.skyUtcBcast u).val k = d.val k := fun k hk hk' => by
    split
    · exact (Device.val_setVal_ne _ _ hk').trans (d.val_setVal_ne _ hk)
    · exact d.val_setVal_ne _ hk
  refine ⟨?_, ?_, ?_, fun k hk hk' => (h4 k).trans ?_⟩
  · split <;> split <;> rfl
  · split <;> split <;> rfl
  · split <;> split <;> rfl
  · split
    · exact hval k hk hk'
    · exact hval k hk hk'

theorem Device.dumpNav_frame (nav : Option (Int × Bytes)) : let t := d.dumpNav c nav
    t.clock = d.clock ∧ t.sky.chans = d.sky.chans ∧ t.sky.updated = d.sky.updated ∧
      (∀ k, k ≠ K.skyUtcBcast → k ≠ K.skyLeapBcast → t.val k = d.val k) ∧ (nav = none → t = d) := by
  rcases nav with _ | ⟨u, l⟩
  · exact ⟨rfl, rfl, rfl, fun _ _ _ => rfl, fun _ => rfl⟩
  · have h : (d.dumpNav c (some (u, l))) = if (Decidable.decide (d.nat K.skyTracker = 0) &&
        Decidable.decide (sigConst (d.nat (K.chSignal c)) = primaryConst (d.nat K.skyTimescale))) = true then d.skyNav u l else d := rfl
    intro t
    have ht : t = _ := h
    rw [ht]
    split
    · obtain ⟨h1, h2, h3, h4⟩ := d.skyNav_frame u l
      exact ⟨h1, h2, h3, h4, fun h => nomatch h⟩
    · exact ⟨rfl, rfl, rfl, fun _ _ _ => rfl, fun h => nomatch h⟩

/-- Table 7-7: the state that a dump leads to. -/
def dumpNext (st cn0 : Nat) (locked stale : Bool) : Nat :=
  if (locked && (Decidable.decide (st = 1) || Decidable.decide (st = 3))) = true then 2
  else if (Decidable.decide (st = 2) && (!locked || Decidable.decide (cn0 < 2200) || stale)) = true then 3 else st

theorem Device.dumpMoved_frame (cn0 : Nat) (locked : Bool) (now : Nat) (hc : c < d.sky.chans.length) : let t := d.dumpMoved c cn0 locked now
    t.clock = d.clock ∧ (∀ k, k ≠ K.chState c → t.val k = d.val k)
      ∧ t.skyCh c = dumpNext (d.skyCh c) cn0 locked (Decidable.decide ((d.sky.chans.getD c {}).updated + sTicks / 200 ≤ now))
      ∧ (t.sky.chans.getD c {}).acc = (d.sky.chans.getD c {}).acc ∧ (t.sky.chans.getD c {}).chips = (d.sky.chans.getD c {}).chips
      ∧ t.sky.updated = d.sky.updated := by
  unfold Device.dumpMoved dumpNext
  dsimp only
  have hmove : ∀ st, st ≠ 0 → (d.setSkyState c st).clock = d.clock ∧ (∀ k, k ≠ K.chState c → (d.setSkyState c st).val k = d.val k)
      ∧ (d.setSkyState c st).skyCh c = st ∧ ((d.setSkyState c st).sky.chans.getD c {}).acc = (d.sky.chans.getD c {}).acc
      ∧ ((d.setSkyState c st).sky.chans.getD c {}).chips = (d.sky.chans.getD c {}).chips ∧ (d.setSkyState c st).sky.updated = d.sky.updated := fun st h => by
    obtain ⟨ha, hb, hu⟩ := d.setSkyState_chan h hc
    exact ⟨sky_clock _ (d.setSkyState_frame st), fun k hk => d.setSkyState_val h hk, d.setSkyState_self h, ha, hb, hu⟩
  split
  · exact hmove 2 (by decide)
  · split
    · exact hmove 3 (by decide)
    · exact ⟨rfl, fun _ _ => rfl, rfl, rfl, rfl, rfl⟩

end

end Sys2Proof.Machine
end

section
/-! Chapter 7: what a dump and a stop of the loops give, and the obligation on the channels. -/

namespace Sys2Proof.Machine

section
variable (d : Device) {c : Nat}

/-- R201 to R203: what a dump at this tick gives. -/
theorem Device.dumpNow_obeys (cn0 : Nat) (acc : List (Int × Int)) (locked updated : Bool) (nav : Option (Int × Bytes)) (hc : c < d.sky.chans.length) :
    let t := d.dumpNow c cn0 acc locked updated nav
    let stale := updated = false ∧ (d.sky.chans.getD c {}).updated + 6250000 ≤ d.clock.ticks
    t.clock = d.clock ∧ t.nat (K.chCn0 c) = cn0 ∧ (t.sky.chans.getD c {}).acc = (acc.take 6).map (fun p => (acc24 p.1, acc24 p.2))
      ∧ t.nat K.skyTracker = (if d.studyTracks then 0 else d.nat K.skyTracker)
      ∧ (∃ st, (st = true ↔ stale) ∧ t.skyCh c = dumpNext (d.skyCh c) cn0 locked st)
      ∧ (t.sky.chans.getD c {}).chips < dumpChips (d.nat (K.chSignal c)) ∧ (updated = true → t.sky.updated = d.clock.ticks)
      ∧ (∀ k, k ≠ K.chState c → k ≠ K.chCn0 c → k ≠ K.skyTracker → k ≠ K.skyUtcBcast → k ≠ K.skyLeapBcast → t.val k = d.val k)
      ∧ (nav = none → t.val K.skyUtcBcast = d.val K.skyUtcBcast ∧ t.val K.skyLeapBcast = d.val K.skyLeapBcast) := by
  intro t stale
  obtain ⟨hc1, hl1, hv1, ht1⟩ := d.dumpTracked_frame
  obtain ⟨hc2, hv2, hl2, ha2, hp2, hu2, hs2⟩ := d.dumpTracked.takeDump_frame acc updated (hl1 ▸ hc)
  have hc3 : (d.dumpTaken c cn0 acc updated).clock = d.clock := hc2.trans hc1
  have hv3 : ∀ k, k ≠ K.chCn0 c → (d.dumpTaken c cn0 acc updated).val k = d.dumpTracked.val k := fun k hk => (Device.val_setVal_ne _ _ hk).trans (hv2 k)
  obtain ⟨hc4, hv4, hst4, ha4, hp4, hu4⟩ := (d.dumpTaken c cn0 acc updated).dumpMoved_frame cn0 locked d.dumpTracked.clock.ticks
    (show c < (d.dumpTracked.takeDump c acc updated).sky.chans.length by rw [hl2, hl1]; exact hc)
  obtain ⟨hc5, hl5, hu5, hv5, hn5⟩ := ((d.dumpTaken c cn0 acc updated).dumpMoved c cn0 locked d.dumpTracked.clock.ticks).dumpNav_frame (c := c) nav
  have hl5 : t.sky.chans = _ := hl5
  have hu5 : t.sky.updated = _ := hu5
  have hne : K.chCn0 c ≠ K.chState c ∧ K.chCn0 c ≠ K.skyUtcBcast ∧ K.chCn0 c ≠ K.skyLeapBcast ∧ K.chState c ≠ K.chCn0 c ∧ K.chState c ≠ K.skyTracker
      ∧ K.chState c ≠ K.skyUtcBcast ∧ K.chState c ≠ K.skyLeapBcast ∧ K.skyTracker ≠ K.chCn0 c ∧ K.skyTracker ≠ K.chState c
      ∧ K.skyUtcBcast ≠ K.chCn0 c ∧ K.skyUtcBcast ≠ K.chState c ∧ K.skyLeapBcast ≠ K.chCn0 c ∧ K.skyLeapBcast ≠ K.chState c ∧ K.chSignal c ≠ K.skyTracker := by
    simp only [K.chCn0, K.chState, K.chSignal, K.skyTracker, K.skyUtcBcast, K.skyLeapBcast]
    omega
  obtain ⟨n1, n2, n3, n4, n5, n6, n7, n8, n9, n10, n11, n12, n13, n14⟩ := hne
  have hval : ∀ k, k ≠ K.chState c → k ≠ K.chCn0 c → k ≠ K.skyUtcBcast → k ≠ K.skyLeapBcast → t.val k = d.dumpTracked.val k := fun k h1 h2 h3 h4 =>
    (hv5 k h3 h4).trans ((hv4 k h1).trans (hv3 k h2))
  have htrack : d.dumpTracked.clock.ticks = d.clock.ticks := congrArg Clock.ticks hc1
  refine ⟨hc5.trans (hc4.trans hc3), ?_, ?_, ?_,
    ⟨Decidable.decide (((d.dumpTracked.takeDump c acc updated).sky.chans.getD c {}).updated + sTicks / 200 ≤ d.dumpTracked.clock.ticks), ?_, ?_⟩, ?_, fun h => ?_, fun k h1 h2 h3 h4 h5 => (hval k h1 h2 h4 h5).trans (hv1 k h3), fun h => ?_⟩
  · have h := congrArg (fun v => v.int.toNat) (((hv5 _ n2 n3).trans (hv4 _ n1)).trans (Device.val_setVal_self _ _ _))
    exact h
  · rw [hl5, ha4]
    exact ha2
  · exact (congrArg (fun v => v.int.toNat) (hval _ n9 n8 (by decide) (by decide))).trans ht1
  · rw [decide_eq_true_iff, hu2, hl1, htrack]
    have hsec : sTicks / 200 = 6250000 := rfl
    rw [hsec]
    cases updated with
    | true => simp [stale]
    | false => simp [stale]
  · have hstate : (d.dumpTaken c cn0 acc updated).skyCh c = d.skyCh c :=
      congrArg (fun v => v.int.toNat) ((hv3 _ n4).trans (hv1 _ n5))
    rw [← hstate]
    exact (congrArg (fun v => v.int.toNat) (hv5 _ n6 n7)).trans hst4
  · rw [hl5, hp4]
    have hsig : d.dumpTracked.nat (K.chSignal c) = d.nat (K.chSignal c) := congrArg (fun v => v.int.toNat) (hv1 _ n14)
    rw [← hsig]
    exact hp2
  · rw [hu5, hu4, ← htrack]
    exact hs2 h
  · rw [show t = _ from hn5 h]
    exact ⟨(hv4 _ n11).trans ((hv3 _ n10).trans (hv1 _ (by decide))), (hv4 _ n13).trans ((hv3 _ n12).trans (hv1 _ (by decide)))⟩

theorem dumpNext_locked {st cn0 : Nat} {stale : Bool} (h : st = 1 ∨ st = 3) : dumpNext st cn0 true stale = 2 := if_pos (by simpa using h)

theorem dumpNext_lost {st cn0 : Nat} {locked stale : Bool} (h : st = 2) (hl : locked = false ∨ cn0 < 2200 ∨ stale = true) : dumpNext st cn0 locked stale = 3 := by
  subst h
  exact (if_neg (by simp)).trans (if_pos (by simpa [or_assoc] using hl))

theorem dumpNext_kept {cn0 : Nat} (h : 2200 ≤ cn0) : dumpNext 2 cn0 true false = 2 := (if_neg (by simp)).trans (if_neg (by simpa using h))

theorem dumpNext_unlocked {st cn0 : Nat} {stale : Bool} (h : st = 1 ∨ st = 3) : dumpNext st cn0 false stale = st := by
  obtain rfl | rfl := h <;> rfl

/-! ## Stopped loops (R204) -/

/-- R204: do loops run whose stop has not been declared. -/
def Device.loopsRun (d : Device) : Prop := d.nat K.skyTracker = 0 ∧ d.sky.stopped = false ∧ ∃ c, c < 128 ∧ (d.skyCh c = 2 ∨ d.skyCh c = 3)

theorem Device.loopsRun_iff : (Decidable.decide (d.nat K.skyTracker = 0) && !d.sky.stopped &&
    (List.range 128).any (fun c => Decidable.decide (d.skyCh c = 2) || Decidable.decide (d.skyCh c = 3))) = true ↔ d.loopsRun := by
  simp only [Device.loopsRun, Bool.and_eq_true, decide_eq_true_eq, Bool.not_eq_true', List.any_eq_true, List.mem_range, Bool.or_eq_true, and_assoc]

/-- R204: the stop declared at this tick. -/
def Device.loopsStopped (d : Device) : Device := (d.setSky (fun s => { s with stopped := true })).skyLost 2

theorem Device.loopTimeout_idle (h : ¬ d.loopsRun) : d.loopTimeout = d := if_neg (mt d.loopsRun_iff.1 h)
theorem Device.loopTimeout_eq (h : d.loopsRun) : d.loopTimeout = (d.runTo (d.sky.updated + sTicks / 50)).loopsStopped := if_pos (d.loopsRun_iff.2 h)

/-- What leaves only Thermostat's own state behind a source's activity. -/
def sourceKey (n k : Nat) : Bool := k = K.thermRefState n || k = K.thermRefReason n

theorem Device.setSource_zero_frame (b : Bool) : (d.setSource 0 b).clock = d.clock ∧ (d.setSource 0 b).sky = d.sky ∧
    ∀ k, sourceKey 0 k = false → (d.setSource 0 b).val k = d.val k := by
  have h := d.link_setSource (n := 0) (C := sourceKey 0) (by decide) (by decide) b
  exact ⟨link_clock h, congrArg (fun x => x.1.sky) h, fun k hk => val_of_beside h hk⟩

/-- The part once the solution of kind `kind` has ended. -/
def Device.kindEnded (d : Device) : Device :=
  if d.nat K.skySolKind = 0 then d else (d.report 0x0502 [d.num K.skySolKind, 0, d.num K.skySolNsat]).setNum K.skySolKind 0

theorem Device.kindEnded_frame : d.kindEnded.clock = d.clock ∧ d.kindEnded.sky = d.sky ∧ d.kindEnded.nat K.skySolKind = 0 ∧ d.Adds d.kindEnded ∧
    ∀ k, k ≠ K.skySolKind → d.kindEnded.val k = d.val k := by
  unfold Device.kindEnded
  split
  · exact ⟨rfl, rfl, ‹_›, d.adds_refl, fun _ _ => rfl⟩
  · exact ⟨rfl, rfl, Device.nat_setNum_self _ _ _, (d.adds_report _ _).setNum _ _, fun k hk => Device.val_setVal_ne _ _ hk⟩

/-- The part once a lost solution has been reported and has ended. -/
def Device.skyEnded (d : Device) (cause : Int) : Device :=
  (d.report 0x0503 [cause, d.num K.skySolMisses]).kindEnded.setSky (fun s => { s with active := false, fastFix := true })

theorem Device.skyLost_eq (cause : Int) : d.skyLost cause = (d.skyEnded cause).setSource 0 false := rfl

theorem Device.skyEnded_frame (cause : Int) : let t := d.skyEnded cause
    t.clock = d.clock ∧ t.sky = { d.sky with active := false, fastFix := true } ∧ t.nat K.skySolKind = 0
      ∧ (d.report 0x0503 [cause, d.num K.skySolMisses]).Adds t ∧ ∀ k, k ≠ K.skySolKind → t.val k = d.val k := by
  intro t
  obtain ⟨hc, hs, hk, ha, hv⟩ := (d.report 0x0503 [cause, d.num K.skySolMisses]).kindEnded_frame
  have ht : t = (d.report 0x0503 [cause, d.num K.skySolMisses]).kindEnded.setSky (fun s => { s with active := false, fastFix := true }) := rfl
  rw [ht, Device.setSky_sky, Device.setSky_clock, Device.setSky_nat, hs, hc]
  exact ⟨rfl, rfl, hk, ha.of_attic (Device.setSky_attic _ _), hv⟩

/-- R204, R213, R220: a lost solution reports its cause first, and leaves kind 0. -/
theorem Device.skyLost_frame (cause : Int) : let t := d.skyLost cause
    t.clock = d.clock ∧ t.sky = { d.sky with active := false, fastFix := true } ∧ t.nat K.skySolKind = 0
      ∧ (d.report 0x0503 [cause, d.num K.skySolMisses]).Adds t
      ∧ ∀ k, k ≠ K.skySolKind → sourceKey 0 k = false → t.val k = d.val k := by
  intro t
  obtain ⟨hc, hs, hk, ha, hv⟩ := d.skyEnded_frame cause
  obtain ⟨hc', hs', hv'⟩ := (d.skyEnded cause).setSource_zero_frame false
  have ht : t = (d.skyEnded cause).setSource 0 false := d.skyLost_eq cause
  have hkind : t.val K.skySolKind = (d.skyEnded cause).val K.skySolKind := by rw [ht, hv' _ (by decide)]
  refine ⟨?_, ?_, ?_, ?_, fun k h1 h2 => ?_⟩
  · rw [ht, hc', hc]
  · rw [ht, hs', hs]
  · rw [Device.nat, Device.num, hkind]
    exact hk
  · rw [ht]
    exact ha.setSource 0 false
  · rw [ht, hv' k h2, hv k h1]

/-- R204: the stop is declared and ends the solution. -/
theorem Device.loopsStopped_obeys : let t := d.loopsStopped
    t.clock = d.clock ∧ t.sky.active = false ∧ t.nat K.skySolKind = 0 ∧ t.sky.stopped = true ∧ t.sky.fastFix = true
      ∧ (newReports d t).head? = some (0x0503, [2, d.num K.skySolMisses]) := by
  intro t
  obtain ⟨hc, hs, hk, ⟨l, hl⟩, -⟩ := (d.setSky (fun s => { s with stopped := true })).skyLost_frame 2
  have hs' : t.sky = _ := hs
  have he : t.entries = d.entries ++ ((0x0503, [2, d.num K.skySolMisses]) :: l) := by
    rw [Device.entries_report] at hl
    exact hl.symm.trans (List.append_assoc _ _ _)
  rw [hs', newReports_of_entries he]
  exact ⟨hc, rfl, hk, rfl, rfl, rfl⟩

/-- Time alone reports nothing. -/
theorem newReports_runTo (n : Nat) (t : Device) : newReports (d.runTo n) t = newReports d t := by rw [newReports, newReports, Device.runTo_attic]

/-- R191: a dwell that detects nothing changes no channel. -/
theorem Device.dwellMissed_frame (slot code orb : Nat) (k : Int) : let t := d.dwellStart.dwellLooked slot code orb k
    t.clock = d.clock ∧ t.sky.chans = d.sky.chans ∧ ∀ j, j ≠ K.skyTracker → t.val j = d.val j := by
  intro t
  obtain ⟨h1, h2, h3⟩ := d.dwellStart_frame
  have ht : t = d.dwellStart.dwellLooked slot code orb k := rfl
  rw [ht, Device.dwellLooked, Device.setSky_clock, Device.setSky_sky]
  exact ⟨h1, h2, h3⟩

/-- R191, R203: the channel that a detected signal goes to. -/
theorem Device.dwellAssigned_frame (slot code orb : Nat) (k : Int) (sv : Nat) (elev : Int) (azim : Nat) (hc : c < d.sky.chans.length) :
    let t := (d.dwellLooked slot code orb k).assignChannel d.clock.ticks c code sv elev azim
    t.clock = d.clock ∧ t.skyCh c = 1 ∧ t.nat (K.chSignal c) = code ∧ t.nat (K.chSv c) = sv ∧ t.num (K.chElev c) = elev
      ∧ (t.nat (K.chAzim c) = azim ∧ (t.sky.chans.getD c {}).assigned = t.clock.ticks) ∧ ∀ m, m ≠ c → t.skyCh m = d.skyCh m := by
  intro t
  obtain ⟨o1, o2, o3, o4, o5⟩ := (d.dwellLooked slot code orb k).assignChannel_obj (c := c) d.clock.ticks code sv elev azim
  have hfr := (d.dwellLooked slot code orb k).assignChannel_frame (c := c) d.clock.ticks code sv elev azim
  have hclk : t.clock = d.clock := sky_clock _ hfr
  refine ⟨hclk, o1, o2, o3, o4, ⟨o5, ?_⟩, fun m hm => nat_of_beside hfr (chanKey_chState hm)⟩
  rw [hclk]
  exact (d.dwellLooked slot code orb k).assignChannel_chan d.clock.ticks code sv elev azim hc

end

/-- Settles O37: a dwell, a timeout, a dump and a stop, each by what its one tick does. -/
theorem trackingChannelsFollowTheirTable : Obligations.TrackingChannelsFollowTheirTable := by
  refine ⟨fun s slot c code sv orbit azim k elev detected => ?_, fun s c hc => ⟨fun h => ?_, fun h => ?_, fun h => ?_, fun h => ?_⟩,
    fun s c cn0 acc locked updated nav => ?_, fun s => ?_⟩
  · intro d
    refine ⟨fun h => ?_, fun hs hr hh => ⟨?_, fun hc hlen h0 ht hk he ho hel => ?_⟩⟩
    · rw [exec_acqDwell, State.on, Device.acqDwell_idle _ _ _ _ _ _ _ _ _ _ h]
    · obtain ⟨orb, ho⟩ := s.dev.acqDwell_missed c orbit k elev azim hs hr hh
      obtain ⟨h1, h2, h3⟩ := d.dwellMissed_frame slot code orb k
      rw [Device.runTo_sky] at h2
      have hexec := exec_acqDwell s slot c code sv orbit k false elev azim
      rw [State.on, ho] at hexec
      exact ⟨_, hexec, rfl, h1, h2, fun j hj => (h3 j hj).trans (Device.runTo_val _ _ _)⟩
    · obtain ⟨orb, hd⟩ := s.dev.acqDwell_detected c orbit k elev azim hs hr hh
      have hd : s.dev.acqDwell slot c code sv orbit k true elev azim = d.dwellStart.dwellDetected (d.dwellStart.dwellLooked slot code orb k) c code sv
        elev azim := hd
      have htr : d.nat K.skyTracker = 0 := (Device.runTo_nat _ _ _).trans ht
      have hass : d.assignable c code sv elev := Device.assignable_runTo _ ⟨hc, h0, hk, he, ho, hel⟩
      have hsky : d.sky = s.dev.sky := Device.runTo_sky _ _
      have hst : ∀ m, d.skyCh m = s.dev.skyCh m := fun m => Device.runTo_nat _ _ _
      clear_value d
      have hexec := exec_acqDwell s slot c code sv orbit k true elev azim
      rw [State.on, hd, d.dwellStart_of_tracker htr, d.dwellDetected_of_assignable _ hass htr] at hexec
      obtain ⟨o1, o2, o3, o4, o5, o6, o7⟩ := d.dwellAssigned_frame (c := c) slot code orb k sv elev azim (by rw [hsky]; omega)
      exact ⟨_, hexec, rfl, o1, o2, o3, o4, o5, o6.1, o6.2, fun m hm _ => (o7 m hm).trans (hst m)⟩
  · rw [exec_pullInTimeout, State.on, s.dev.pullInTimeout_idle h]
  · rw [exec_coastTimeout, State.on, s.dev.coastTimeout_idle h]
  · have hexec := exec_pullInTimeout s c
    rw [State.on, s.dev.pullInTimeout_eq h hc] at hexec
    rw [show sTicks / 5 = 250000000 from rfl] at hexec
    obtain ⟨h1, h2, h3, h4⟩ := (s.dev.runTo ((s.dev.sky.chans.getD c {}).assigned + 250000000)).freed_frame (c := c)
    exact ⟨_, hexec, rfl, h1, h2, h3, fun m hm hm' => (h4 m hm hm').trans (Device.runTo_nat _ _ _)⟩
  · have hexec := exec_coastTimeout s c
    rw [State.on, s.dev.coastTimeout_eq h hc] at hexec
    rw [show sTicks = 1250000000 from rfl] at hexec
    obtain ⟨h1, h2, h3, h4⟩ := (s.dev.runTo ((s.dev.sky.chans.getD c {}).coastSince + 1250000000)).freed_frame (c := c)
    exact ⟨_, hexec, rfl, h1, h2, h3, fun m hm hm' => (h4 m hm hm').trans (Device.runTo_nat _ _ _)⟩
  · intro st shut boundary
    refine ⟨fun h => ?_, fun tick hs hlen hb => ?_⟩
    · rw [exec_correlatorDump, State.on]
      obtain h | h := h
      · rw [s.dev.dump_shut _ _ _ _ _ h]
      · rw [s.dev.dump_none _ _ _ _ _ h]
    · intro d stale
      have hexec := exec_correlatorDump s c cn0 acc locked updated nav
      rw [State.on, s.dev.dump_eq cn0 acc locked updated nav hs hb] at hexec
      have hc : c < s.dev.sky.chans.length := by
        rw [hlen]
        exact Nat.lt_of_not_le fun h => hs (.inl h)
      obtain ⟨h1, h2, h3, h4, ⟨b, hb', h5⟩, h6, h7, h8, h9⟩ := d.dumpNow_obeys cn0 acc locked updated nav (c := c) hc
      have hst : d.skyCh c = st := Device.runTo_nat _ _ _
      rw [hst] at h5
      have htr : d.nat K.skyTracker = s.dev.nat K.skyTracker := Device.runTo_nat _ _ _
      have hstudy : d.studyTracks = s.dev.studyTracks := by simp only [Device.studyTracks, d, Device.runTo_nat, Device.runTo_power]
      have hsig : d.nat (K.chSignal c) = s.dev.nat (K.chSignal c) := Device.runTo_nat _ _ _
      rw [htr, hstudy] at h4
      rw [hsig] at h6
      refine ⟨_, hexec, rfl, h1, h2, h3, h4, fun hl h => ?_, fun h hl => ?_, fun h hl hcn hns => ?_, fun h hl => ?_, h6, h7,
        fun k k1 k2 k3 k4 k5 => (h8 k k1 k2 k3 k4 k5).trans (Device.runTo_val _ _ _), fun h => ?_⟩
      · rw [h5, hl, dumpNext_locked h]
      · rw [h5, dumpNext_lost h (hl.imp_right (Or.imp_right hb'.2))]
      · rw [h5, h, hl, Bool.eq_false_iff.mpr (mt hb'.1 hns), dumpNext_kept hcn]
      · rw [h5, hl, dumpNext_unlocked h]
      · exact ⟨(h9 h).1.trans (Device.runTo_val _ _ _), (h9 h).2.trans (Device.runTo_val _ _ _)⟩
  · intro loops d
    refine ⟨fun h => ?_, fun h => ?_⟩
    · rw [exec_loopUpdateTimeout, State.on, s.dev.loopTimeout_idle h]
    · have hexec := exec_loopUpdateTimeout s
      rw [State.on, s.dev.loopTimeout_eq h, show sTicks / 50 = 25000000 from rfl] at hexec
      obtain ⟨h1, h2, h3, h4, h5, h6⟩ := d.loopsStopped_obeys
      have hm : d.num K.skySolMisses = s.dev.num K.skySolMisses := Device.runTo_num _ _ _
      rw [hm, newReports_runTo] at h6
      exact ⟨_, hexec, rfl, congrArg Clock.ticks h1, h2, h3, h4, h5, h6⟩

end Sys2Proof.Machine
end

section
/-! Chapter 7: latches, solutions and their loss (R205 to R214, R219, R220). -/

namespace Sys2Proof.Machine

theorem exec_measLatch (s : State) (ms : List SkyMeas) (fix refit : Option SkyFix) : exec (.measLatch ms fix refit) s =
    .next (s.on (·.measLatch ms fix refit)) := rfl
theorem exec_parkBurst (s : State) (ms : List SkyMeas) (fix refit : Option SkyFix) : exec (.parkBurst ms ⟨fix, refit⟩) s =
    .next (s.on (·.parkBurst ms fix refit)) := rfl
theorem exec_skyPps (s : State) : exec (.skyPps ()) s = .next (s.on (·.skyPps)) := rfl
theorem exec_predictionExpiry (s : State) : exec .predictionExpiry s = .next (s.on (·.predictionExpiry)) := rfl

section
variable (d : Device)

/-! ## What a latch publishes before its solution -/

/-- The part with a latch's block published and counted. -/
def Device.blockKept (d : Device) (block : Bytes) : Device := (d.setOct K.skyMeasBlock block).bump K.skyMeasCount

/-- The part with the channels of a latch shown. -/
def Device.chansShown (d : Device) (ms : List SkyMeas) : Device :=
  ms.foldl (fun d m => d.setNums [(K.chCn0 m.channel, m.cn0), (K.chElev m.channel, m.elev), (K.chAzim m.channel, m.azim)]) d

/-- Nothing but live values. -/
def objBlank : Blank := { clear := fun d => { d with obj := [], lost := [] }, clear_setVal := fun _ _ _ => rfl }

/-- The objects of the channels. -/
def anyChanKey (k : Nat) : Bool := K.chState 0 ≤ k

theorem Device.chansShown_frame (ms : List SkyMeas) : (d.chansShown ms).beside objBlank anyChanKey = d.beside objBlank anyChanKey :=
  d.beside_foldl ms fun e m _ => e.beside_setNums [(K.chCn0 m.channel, (m.cn0 : Int)), (K.chElev m.channel, m.elev), (K.chAzim m.channel, (m.azim : Int))]
    (by simp [anyChanKey, K.chState, K.chCn0, K.chElev, K.chAzim]; omega)

theorem Device.blockKept_frame (block : Bytes) : (d.blockKept block).beside objBlank (fun k => Decidable.decide (k = K.skyMeasBlock ∨ k = K.skyMeasCount)) =
    d.beside objBlank (fun k => Decidable.decide (k = K.skyMeasBlock ∨ k = K.skyMeasCount)) := by
  rw [Device.blockKept, Device.beside_bump _ (by simp), Device.beside_setOct _ _ (by simp)]

theorem Device.blockKept_block (block : Bytes) : (d.blockKept block).oct K.skyMeasBlock = block := by
  rw [Device.blockKept, Device.bump, Device.bumpBy, Device.oct_setNum, if_neg (by decide), Device.oct_setOct_self]

theorem Device.blockKept_count (block : Bytes) (h : d.nat K.skyMeasCount < 2 ^ 32 - 1) :
    (d.blockKept block).nat K.skyMeasCount = d.nat K.skyMeasCount + 1 := by
  have hn : (d.setOct K.skyMeasBlock block).nat K.skyMeasCount = d.nat K.skyMeasCount := by rw [Device.nat_setOct, if_neg (by decide)]
  rw [Device.blockKept, Device.bump, Device.nat_bumpBy _ _ _ _ (by rw [hn]; omega), hn]

/-- The part as a latch's solution finds it, published from the part `d1`. -/
def Device.latchShown (d d1 : Device) (fast : Bool) (used : SkyMeas → Bool) (ms : List SkyMeas) : Device :=
  (d1.blockKept (d.measBlock (d.mt16 - Config.rfLatchDelay) fast used ms)).chansShown ms

/-- The part with an exclusion that a latch found noted. -/
def Device.latchNoted (d : Device) (ms : List SkyMeas) : Option ((Nat × Nat) × Int) → Device
  | some w => d.noteExcluded ms w
  | none => d

/-- The measurements of a latch that pass the tests of the solution. -/
def Device.latchGood (d : Device) (ms0 : List SkyMeas) : List SkyMeas := (d.latched ms0).filter d.measGood

/-- A latch's first try at a solution. -/
def Device.latchFirst (d : Device) (ms0 : List SkyMeas) (fix : Option SkyFix) : SkyTry :=
  (fix.map (fun x => if d.nat K.skyTracker ≠ 0 then d.hwTry (d.mt16 - Config.rfLatchDelay) (d.latched ms0)
    else d.skyTry (d.latchGood ms0) x)).getD { kind := 0, sats := [], off := 0, tested := false, worst := none }

/-- The measurements without the satellite that fails the integrity test. -/
def Device.latchKept (d : Device) (ms0 : List SkyMeas) (fix : Option SkyFix) : List SkyMeas :=
  match (d.latchFirst ms0 fix).worst with
  | some w => (d.latchGood ms0).filter (fun m => (sigConst (d.measSat m).1, (d.measSat m).2) ≠ w.1)
  | none => d.latchGood ms0

/-- R212: does firmware try again without a satellite. -/
def Device.latchAgain (d : Device) (ms0 : List SkyMeas) (fix : Option SkyFix) : Bool :=
  !Decidable.decide (d.nat K.skyTracker ≠ 0) && (d.latchFirst ms0 fix).worst.isSome

/-- A latch's last try. -/
def Device.latchLast (d : Device) (ms0 : List SkyMeas) (fix refit : Option SkyFix) : SkyTry :=
  if d.latchAgain ms0 fix then (refit.map (d.skyTry (d.latchKept ms0 fix))).getD { kind := 0, sats := [], off := 0, tested := false, worst := none }
  else d.latchFirst ms0 fix

/-- The valid solution of a latch, with its offset. -/
def Device.latchValid (d : Device) (ms0 : List SkyMeas) (fix refit : Option SkyFix) : Option (SkyFix × Int) :=
  ((if d.latchAgain ms0 fix then refit else fix).bind (fun x =>
    if d.nat K.skyTracker ≠ 0 then
      some (x, (d.latchLast ms0 fix refit).off + (if d.num K.skyUtcSteer = 1 then x.steer else 0))
    else (d.gnssOffset (d.mt16 - Config.rfLatchDelay) (d.latchLast ms0 fix refit).off x).map (fun o => (x, o)))).filter
    (fun x => Decidable.decide ((d.latchLast ms0 fix refit).kind ≠ 0) && Decidable.decide (x.1.unc ≤ d.nat K.skyUncMax)
      && (Decidable.decide (d.nat K.skyTracker ≠ 0) || (d.latchLast ms0 fix refit).worst.isNone))

/-- What a valid solution, or none, does to the part with the block published. -/
def Device.latchSolved (d d3 : Device) (last : SkyTry) (flags : Nat) : Option (SkyFix × Int) → Device
  | some (x, o) => (if last.kind ≤ 2 then d3.aidCheck x else d3).skySolved last.kind last.sats.length (d.mt16 - Config.rfLatchDelay) flags o x
      ((d.clock.mt / secU + 1) * secU)
  | none => d3.skyMissed

/-- A latch publishes its block, then a solution or a miss. -/
theorem Device.latch_eq (fast : Bool) (ms0 : List SkyMeas) (fix refit : Option SkyFix) : ∃ used flags,
    d.latch fast ms0 fix refit = d.latchSolved (d.latchShown (d.latchNoted (d.latched ms0) (d.latchFirst ms0 fix).worst) fast used (d.latched ms0))
      (d.latchLast ms0 fix refit) flags (d.latchValid ms0 fix refit) := by
  refine ⟨fun m => (d.latchValid ms0 fix refit).isSome
      && (if d.nat K.skyTracker ≠ 0 then d.hwBest (d.latched ms0) else d.latchKept ms0 fix).contains m
      && (d.latchLast ms0 fix refit).sats.contains (sigConst (d.measSat m).1, (d.measSat m).2),
    (if (!d.rootLocked) = true then 1 else 0) + (if Decidable.decide (d.nat K.skyTracker ≠ 0) = true then 2 else 0)
      + (if (d.latchLast ms0 fix refit).tested = true then 4 else 0) + (if (d.latchFirst ms0 fix).worst.isSome = true then 8 else 0)
      + (if (Decidable.decide ((d.latchLast ms0 fix refit).kind = 3) || d.staticFix) = true then 16 else 0), ?_⟩
  unfold Device.latchSolved Device.latchNoted Device.latchShown Device.latchValid Device.latchLast Device.latchAgain Device.latchKept Device.latchFirst
    Device.latchGood
  rfl

/-- Without a fix there is no solution, and nothing to exclude. -/
theorem Device.latchValid_none (ms0 : List SkyMeas) (refit : Option SkyFix) :
    (d.latchFirst ms0 none).worst = none ∧ d.latchValid ms0 none refit = none := by
  have h : (d.latchFirst ms0 none).worst = none := rfl
  refine ⟨h, ?_⟩
  have ha : d.latchAgain ms0 none = false := by rw [Device.latchAgain, h]; exact Bool.and_false _
  rw [Device.latchValid, ha]
  rfl

/-- A fix under the firmware tracker that excludes nothing is the solution. -/
theorem Device.latchValid_some (ms0 : List SkyMeas) {x : SkyFix} {o : Int} (refit : Option SkyFix) (ht : d.nat K.skyTracker = 0)
    (hk : (d.skyTry (d.latchGood ms0) x).kind ≠ 0) (hw : (d.skyTry (d.latchGood ms0) x).worst = none)
    (ho : d.gnssOffset (d.mt16 - Config.rfLatchDelay) (d.skyTry (d.latchGood ms0) x).off x = some o) (hu : x.unc ≤ d.nat K.skyUncMax) :
    (d.latchFirst ms0 (some x)).worst = none ∧ d.latchLast ms0 (some x) refit = d.skyTry (d.latchGood ms0) x ∧
      d.latchValid ms0 (some x) refit = some (x, o) := by
  have hf : d.latchFirst ms0 (some x) = d.skyTry (d.latchGood ms0) x := by
    rw [Device.latchFirst, Option.map_some, Option.getD_some, if_neg (by simp [ht])]
  have ha : d.latchAgain ms0 (some x) = false := by rw [Device.latchAgain, hf, hw]; exact Bool.and_false _
  have hl : d.latchLast ms0 (some x) refit = d.skyTry (d.latchGood ms0) x := by rw [Device.latchLast, ha, if_neg Bool.false_ne_true, hf]
  refine ⟨by rw [hf, hw], hl, ?_⟩
  rw [Device.latchValid, ha, hl, if_neg Bool.false_ne_true, Option.bind_some, if_neg (by simp [ht]), ho, Option.map_some]
  simp [Option.filter, hk, hu, hw]

/-! ## A miss (R213) -/

/-- R213: does a missed latch lose the solution. -/
def Device.missLoses (d : Device) (n : Nat) : Prop := n = d.nat K.skySolMissLimit ∨ (d.sky.active = true ∧ d.nat K.skySolMissLimit ≤ n)

theorem Device.setSource_phases (n : Nat) : (d.setSource n false).therm.phases = d.therm.phases := by
  have hset : ∀ (e : Device) st, (e.setRef n st).therm.phases = e.therm.phases := fun e st => by rw [e.setRef_therm_loop n st]
  rw [Device.setSource_false, Device.activityAbsent]
  split
  · rfl
  · dsimp only
    split
    · rw [hset]; rfl
    · rw [hset]; rfl

/-- A miss changes only the solution's kind and its count of misses. -/
theorem Device.skyMissed_val : d.skyMissed.clock = d.clock ∧ ∀ k, k ≠ K.skySolMisses → k ≠ K.skySolKind → sourceKey 0 k = false → d.skyMissed.val k = d.val k := by
  have hval : ∀ k, k ≠ K.skySolMisses → (d.bump K.skySolMisses).val k = d.val k := fun k hk => d.val_setVal_ne _ hk
  obtain ⟨h1, -, -, -, h5⟩ := (d.bump K.skySolMisses).skyLost_frame 1
  unfold Device.skyMissed
  dsimp only
  split
  · exact ⟨h1, fun k k1 k2 k3 => (h5 k k2 k3).trans (hval k k1)⟩
  · exact ⟨rfl, fun k k1 _ _ => hval k k1⟩

/-- R213: a miss counts, and at the limit it loses the solution. -/
theorem Device.skyMissed_frame (h : d.nat K.skySolMisses < 2 ^ 32 - 1) : let t := d.skyMissed
    let n := d.nat K.skySolMisses + 1
    t.clock = d.clock ∧ t.nat K.skySolMisses = n ∧ t.therm.phases = d.therm.phases
      ∧ (d.missLoses n → t.sky.active = false ∧ t.nat K.skySolKind = 0 ∧ ∃ r ∈ t.attic.reports, r.code = 0x0503 ∧ r.p = [1, (n : Int)])
      ∧ (¬ d.missLoses n → t.sky.active = d.sky.active ∧ t.entries = d.entries)
      ∧ ∀ k, k ≠ K.skySolMisses → k ≠ K.skySolKind → sourceKey 0 k = false → t.val k = d.val k := by
  intro t n
  have hb : (d.bump K.skySolMisses).nat K.skySolMisses = n := by rw [Device.bump, Device.nat_bumpBy _ _ _ _ (by omega)]
  have hbn : (d.bump K.skySolMisses).num K.skySolMisses = (n : Int) := by
    rw [Device.bump, Device.bumpBy, if_pos (by omega), Device.num_setNum_self]
  have hlim : (d.bump K.skySolMisses).nat K.skySolMissLimit = d.nat K.skySolMissLimit := by rw [Device.bump, Device.nat_bumpBy_ne _ _ _ (by decide)]
  have hval : ∀ k, k ≠ K.skySolMisses → (d.bump K.skySolMisses).val k = d.val k := fun k hk => d.val_setVal_ne _ hk
  have ht : t = if n = d.nat K.skySolMissLimit ∨ (d.sky.active = true ∧ d.nat K.skySolMissLimit ≤ n) then (d.bump K.skySolMisses).skyLost 1 else d.bump K.skySolMisses := by
    refine if_congr ?_ rfl rfl
    rw [hb, hlim]
    simp [n]
  by_cases hl : d.missLoses n
  · have ht := ht.trans (if_pos hl)
    obtain ⟨h1, h2, h3, h4, h5⟩ := (d.bump K.skySolMisses).skyLost_frame 1
    rw [hbn] at h4
    rw [ht, h2]
    refine ⟨h1, ?_, ?_, fun _ => ⟨rfl, h3, h4.mem ?_⟩, fun h => absurd hl h, fun k k1 k2 k3 => (h5 k k2 k3).trans (hval k k1)⟩
    · have := h5 K.skySolMisses (by decide) (by decide)
      rw [Device.nat, Device.num, this]
      exact hb
    · rw [Device.skyLost_eq, Device.setSource_phases, Device.skyEnded, Device.setSky_therm, Device.kindEnded]
      split <;> rfl
    · rw [Device.entries_report]
      exact List.mem_append_right _ List.mem_cons_self
  · have ht := ht.trans (if_neg hl)
    rw [ht]
    exact ⟨rfl, hb, rfl, fun h => absurd h hl, fun _ => ⟨rfl, rfl⟩, fun k k1 _ _ => hval k k1⟩

end

end Sys2Proof.Machine
end

section
/-! Chapter 7: a published solution, what a latch leaves, the pulse of a solution, and the obligation on the latches. -/

namespace Sys2Proof.Machine

section
variable (d : Device)

/-! ## A solution (R213, R214) -/

/-- The numbers of a published solution. -/
def Device.solvedNums (d : Device) (kind nsat t16 flags : Nat) (off : Int) (unc : Nat) : Device :=
  d.setNums [(K.skySolKind, kind), (K.skySolNsat, nsat), (K.skySolTime, t16), (K.skySolOffset, off), (K.skySolUnc, unc), (K.skySolMisses, 0),
    (K.skySolFlags, flags)]

/-- The part with a solution published, its counter raised and its position and velocity shown. -/
def Device.solvedShown (d : Device) (pos vel : Bytes) : Device := ((d.setOct K.skySolPos pos).setOct K.skySolVel vel).bump K.skySolCount

/-- R214: the solution reaches Thermostat. -/
def Device.solvedOffered (d : Device) (kind : Nat) (off : Int) : Device :=
  if (d.setSource 0 true).rootLocked then ((d.setSource 0 true).advertiseQl 0 kind).offerPhase ((d.setSource 0 true).phaseHere 0 off) else d.setSource 0 true

/-- The objects through which a solution reaches Thermostat. -/
def offerKey (k : Nat) : Bool := sourceKey 0 k || k = K.thermRefQl 0

theorem Device.solvedOffered_frame (kind : Nat) (off : Int) : (d.solvedOffered kind off).beside linkBlank offerKey = d.beside linkBlank offerKey := by
  have hsrc : ∀ b, (d.setSource 0 b).beside linkBlank offerKey = d.beside linkBlank offerKey := d.link_setSource (by decide) (by decide)
  unfold Device.solvedOffered Device.offerPhase
  split
  · split
    · rw [Device.link_advertiseQl _ _ (by decide), hsrc]
    · exact (Device.link_advertiseQl (C := offerKey) _ _ (by decide)).trans (hsrc true)
  · exact hsrc true

theorem Device.skySolved_eq (kind nsat t16 flags : Nat) (off : Int) (fix : SkyFix) (fastEnd : Nat) : ∃ pos vel g,
    (∀ s : Sky, (g s : Sky).active = true ∧ (g s).fastFix = false) ∧ d.skySolved kind nsat t16 flags off fix fastEnd =
      (((((if d.nat K.skySolKind = kind then d else d.report 0x0502 [d.num K.skySolKind, kind, nsat]).solvedNums kind nsat t16 flags off fix.unc).solvedShown
        pos vel).setSky g).solvedOffered kind off) := by
  refine ⟨_, _, _, ?_, rfl⟩
  exact fun _ => ⟨rfl, rfl⟩

theorem Device.num_solvedNums (kind nsat t16 flags : Nat) (off : Int) (unc k : Nat) : (d.solvedNums kind nsat t16 flags off unc).num k =
    if k = K.skySolFlags then (flags : Int) else if k = K.skySolMisses then 0 else if k = K.skySolUnc then (unc : Int) else if k = K.skySolOffset then off
    else if k = K.skySolTime then (t16 : Int) else if k = K.skySolNsat then (nsat : Int) else if k = K.skySolKind then (kind : Int) else d.num k := by
  simp only [Device.solvedNums, Device.setNums, Device.num_setNum]

/-- The objects that a published solution shows. -/
def solvedKey (k : Nat) : Bool := K.skySolKind ≤ k && k ≤ K.skySolFlags

theorem Device.solvedNums_frame (kind nsat t16 flags : Nat) (off : Int) (unc : Nat) :
    (d.solvedNums kind nsat t16 flags off unc).beside objBlank solvedKey = d.beside objBlank solvedKey := by
  have hk : solvedKey K.skySolKind = true ∧ solvedKey K.skySolNsat = true ∧ solvedKey K.skySolTime = true ∧ solvedKey K.skySolOffset = true ∧
      solvedKey K.skySolUnc = true ∧ solvedKey K.skySolMisses = true ∧ solvedKey K.skySolFlags = true := by decide
  obtain ⟨h1, h2, h3, h4, h5, h6, h7⟩ := hk
  exact d.beside_setNums _ (by simp only [List.forall_mem_cons]; exact ⟨h1, h2, h3, h4, h5, h6, h7, by simp⟩)

theorem Device.solvedShown_frame (pos vel : Bytes) : (d.solvedShown pos vel).beside objBlank solvedKey = d.beside objBlank solvedKey := by
  rw [Device.solvedShown, Device.beside_bump _ (by decide), Device.beside_setOct _ _ (by decide), Device.beside_setOct _ _ (by decide)]

theorem Device.num_solvedShown (pos vel : Bytes) {k : Nat} (h : k ≠ K.skySolPos ∧ k ≠ K.skySolVel ∧ k ≠ K.skySolCount) :
    (d.solvedShown pos vel).num k = d.num k := by
  rw [Device.solvedShown, Device.bump, Device.num_bumpBy_ne _ _ _ h.2.2, Device.num_setOct, if_neg h.2.1, Device.num_setOct, if_neg h.1]

theorem Device.count_solvedShown (pos vel : Bytes) (h : d.nat K.skySolCount < 2 ^ 32 - 1) :
    (d.solvedShown pos vel).nat K.skySolCount = d.nat K.skySolCount + 1 := by
  have hn : ((d.setOct K.skySolPos pos).setOct K.skySolVel vel).nat K.skySolCount = d.nat K.skySolCount := by
    rw [Device.nat_setOct, if_neg (by decide), Device.nat_setOct, if_neg (by decide)]
  rw [Device.solvedShown, Device.bump, Device.nat_bumpBy _ _ _ _ (by rw [hn]; omega), hn]

/-- R213, R214: what a published solution shows. -/
theorem Device.skySolved_frame (kind nsat t16 flags : Nat) (off : Int) (fix : SkyFix) (fastEnd : Nat) : let t := d.skySolved kind nsat t16 flags off fix fastEnd
    (t.nat K.skySolKind = kind ∧ t.nat K.skySolNsat = nsat ∧ t.num K.skySolOffset = off ∧ t.nat K.skySolUnc = fix.unc ∧ t.nat K.skySolMisses = 0
      ∧ t.sky.active = true ∧ t.sky.fastFix = false ∧ (d.nat K.skySolCount < 2 ^ 32 - 1 → t.nat K.skySolCount = d.nat K.skySolCount + 1))
      ∧ ∀ k, solvedKey k = false → offerKey k = false → t.val k = d.val k := by
  intro t
  obtain ⟨pos, vel, g, hg, heq⟩ := d.skySolved_eq kind nsat t16 flags off fix fastEnd
  have ht : t = _ := heq
  clear_value t
  have hd1 : ∀ k, (if d.nat K.skySolKind = kind then d else d.report 0x0502 [d.num K.skySolKind, kind, nsat]).val k = d.val k := fun k => by split <;> rfl
  generalize (if d.nat K.skySolKind = kind then d else d.report 0x0502 [d.num K.skySolKind, kind, nsat]) = d1 at ht hd1
  have hoff := ((((d1.solvedNums kind nsat t16 flags off fix.unc).solvedShown pos vel).setSky g).solvedOffered_frame kind off)
  rw [← ht] at hoff
  have hnum : ∀ k, offerKey k = false → t.num k = ((d1.solvedNums kind nsat t16 flags off fix.unc).solvedShown pos vel).num k := fun k hk => num_of_beside hoff hk
  have hshown : ∀ k, offerKey k = false → (k ≠ K.skySolPos ∧ k ≠ K.skySolVel ∧ k ≠ K.skySolCount) →
      t.num k = (d1.solvedNums kind nsat t16 flags off fix.unc).num k := fun k hk hk' => (hnum k hk).trans (Device.num_solvedShown _ _ _ hk')
  have hsky : t.sky = g d1.sky := by
    have h1 : t.sky = g ((d1.solvedNums kind nsat t16 flags off fix.unc).solvedShown pos vel).sky := congrArg (fun x => x.1.sky) hoff
    have h2 : ((d1.solvedNums kind nsat t16 flags off fix.unc).solvedShown pos vel).sky = (d1.solvedNums kind nsat t16 flags off fix.unc).sky :=
      congrArg (fun x => x.1.sky) (Device.solvedShown_frame _ pos vel)
    have h3 : (d1.solvedNums kind nsat t16 flags off fix.unc).sky = d1.sky := congrArg (fun x => x.1.sky) (d1.solvedNums_frame kind nsat t16 flags off fix.unc)
    rw [h1, h2, h3]
  refine ⟨⟨?_, ?_, ?_, ?_, ?_, ?_, ?_, fun h => ?_⟩, fun k h1 h2 => ?_⟩
  · rw [Device.nat, hshown _ (by decide) (by decide), Device.num_solvedNums]
    repeat rw [if_neg (by decide)]
    rw [if_pos rfl, Int.toNat_natCast]
  · rw [Device.nat, hshown _ (by decide) (by decide), Device.num_solvedNums]
    repeat rw [if_neg (by decide)]
    rw [if_pos rfl, Int.toNat_natCast]
  · rw [hshown _ (by decide) (by decide), Device.num_solvedNums]
    repeat rw [if_neg (by decide)]
    rw [if_pos rfl]
  · rw [Device.nat, hshown _ (by decide) (by decide), Device.num_solvedNums]
    repeat rw [if_neg (by decide)]
    rw [if_pos rfl, Int.toNat_natCast]
  · rw [Device.nat, hshown _ (by decide) (by decide), Device.num_solvedNums]
    repeat rw [if_neg (by decide)]
    rw [if_pos rfl]
    rfl
  · rw [hsky]
    exact (hg _).1
  · rw [hsky]
    exact (hg _).2
  · have h0 : (d1.solvedNums kind nsat t16 flags off fix.unc).nat K.skySolCount = d.nat K.skySolCount := by
      rw [Device.nat, Device.num_solvedNums]
      repeat rw [if_neg (by decide)]
      rw [Device.num, hd1]
      rfl
    have h1 : t.nat K.skySolCount = ((d1.solvedNums kind nsat t16 flags off fix.unc).solvedShown pos vel).nat K.skySolCount :=
      congrArg Int.toNat (hnum _ (by decide))
    rw [h1, Device.count_solvedShown _ _ _ (by rw [h0]; exact h), h0]
  · have h3 : t.val k = ((d1.solvedNums kind nsat t16 flags off fix.unc).solvedShown pos vel).val k := val_of_beside hoff h2
    rw [h3, val_of_beside (Device.solvedShown_frame _ pos vel) h1, val_of_beside (d1.solvedNums_frame kind nsat t16 flags off fix.unc) h1, hd1]

end

end Sys2Proof.Machine
end

section
/-! Chapter 7: what a latch leaves, the burst, the pulse of a solution, and the obligation on the latches. -/

namespace Sys2Proof.Machine

section
variable (d : Device)

/-! ## The block (Table 7-8) -/

theorem length_time96Bytes (v : Nat) : (time96Bytes v).length = 12 := by simp [time96Bytes]

/-- Table 7-8: the instant, the count and the number of measurements of a block. -/
theorem Device.measBlock_fields (t16 : Nat) (fast : Bool) (used : SkyMeas → Bool) (ms : List SkyMeas) :
    field (d.measBlock t16 fast used ms) 0 12 = time96Bytes t16
      ∧ fieldNat (d.measBlock t16 fast used ms) 12 4 = (d.nat K.skyMeasCount + 1) % 2 ^ 32
      ∧ fieldNat (d.measBlock t16 fast used ms) 16 1 = ms.length % 256 := by
  simp only [Device.measBlock, List.append_assoc, fieldNat]
  have h12 := fun (b : Bytes) off len => field_of_behind (length_time96Bytes t16) b off len
  have h4 := fun (b : Bytes) off len => field_of_behind (length_toBE 4 (d.nat K.skyMeasCount + 1)) b off len
  refine ⟨field_of_front (length_time96Bytes t16) _, ?_, ?_⟩
  · have h256 : (256 : Nat) ^ 4 = 2 ^ 32 := by decide
    rw [show (12 : Nat) = 12 + 0 from rfl, h12, field_of_front (length_toBE 4 _), beNat_toBE, h256]
  · rw [show (16 : Nat) = 12 + (4 + 0) from rfl, h12, h4, field_of_front (length_toBE 1 _), beNat_toBE]
    rfl

theorem Device.length_latched (ms : List SkyMeas) : (d.latched ms).length = ((List.range 128).filter (fun c => d.skyCh c = 2 || d.skyCh c = 3)).length ∧
    (d.latched ms).length < 256 := by
  have h := List.length_filter_le (fun c => Decidable.decide (d.skyCh c = 2) || Decidable.decide (d.skyCh c = 3)) (List.range 128)
  rw [List.length_range] at h
  exact ⟨List.length_map _, (List.length_map _).trans_lt (Nat.lt_of_le_of_lt h (by decide))⟩

/-! ## The part that a latch shows -/

theorem Device.latchNoted_val (ms : List SkyMeas) (w : Option ((Nat × Nat) × Int)) (k : Nat) : (d.latchNoted ms w).val k = d.val k := by
  rcases w with _ | w
  · rfl
  · show (d.noteExcluded ms w).val k = d.val k
    unfold Device.noteExcluded
    dsimp only
    split <;> rfl

theorem Device.latchNoted_clock (ms : List SkyMeas) (w : Option ((Nat × Nat) × Int)) : (d.latchNoted ms w).clock = d.clock := by
  rcases w with _ | w
  · rfl
  · show (d.noteExcluded ms w).clock = d.clock
    unfold Device.noteExcluded
    dsimp only
    split <;> rfl

/-- What a latch shows: its block and count, and the channels. -/
theorem Device.latchShown_frame (d1 : Device) (fast : Bool) (used : SkyMeas → Bool) (ms : List SkyMeas) : let t := d.latchShown d1 fast used ms
    (t.clock = d1.clock ∧ t.sky = d1.sky ∧ t.therm = d1.therm ∧ t.attic = d1.attic)
      ∧ t.oct K.skyMeasBlock = d.measBlock (d.mt16 - Config.rfLatchDelay) fast used ms
      ∧ (d1.nat K.skyMeasCount < 2 ^ 32 - 1 → t.nat K.skyMeasCount = d1.nat K.skyMeasCount + 1)
      ∧ ∀ k, k < K.chState 0 → k ≠ K.skyMeasBlock → k ≠ K.skyMeasCount → t.val k = d1.val k := by
  intro t
  have ht : t = (d1.blockKept (d.measBlock (d.mt16 - Config.rfLatchDelay) fast used ms)).chansShown ms := rfl
  generalize d.measBlock (d.mt16 - Config.rfLatchDelay) fast used ms = block at ht ⊢
  have h1 := (d1.blockKept block).chansShown_frame ms
  have h2 := d1.blockKept_frame block
  rw [← ht] at h1
  have hlow : ∀ k, k < K.chState 0 → t.val k = (d1.blockKept block).val k := fun k hk =>
    val_of_beside h1 (decide_eq_false (Nat.not_le.2 hk))
  have hclear : t.clock = d1.clock ∧ t.sky = d1.sky ∧ t.therm = d1.therm ∧ t.attic = d1.attic :=
    ⟨(congrArg (fun x => x.1.clock) h1).trans (congrArg (fun x => x.1.clock) h2), (congrArg (fun x => x.1.sky) h1).trans (congrArg (fun x => x.1.sky) h2),
      (congrArg (fun x => x.1.therm) h1).trans (congrArg (fun x => x.1.therm) h2), (congrArg (fun x => x.1.attic) h1).trans (congrArg (fun x => x.1.attic) h2)⟩
  refine ⟨hclear, ?_, fun h => ?_, fun k hk k1 k2 => (hlow k hk).trans (val_of_beside h2 (by simp [k1, k2]))⟩
  · rw [Device.oct, hlow _ (by decide)]
    exact d1.blockKept_block block
  · rw [Device.nat, Device.num, hlow _ (by decide)]
    exact d1.blockKept_count block h

/-- The part as a latch's solution finds it. -/
def Device.latchReady (d : Device) (fast : Bool) (ms0 : List SkyMeas) (w : Option ((Nat × Nat) × Int)) (used : SkyMeas → Bool) : Device :=
  d.latchShown (d.latchNoted (d.latched ms0) w) fast used (d.latched ms0)

theorem Device.latchReady_frame (fast : Bool) (ms0 : List SkyMeas) (w : Option ((Nat × Nat) × Int)) (used : SkyMeas → Bool) :
    let t := d.latchReady fast ms0 w used
    t.clock = d.clock ∧ t.oct K.skyMeasBlock = d.measBlock (d.mt16 - Config.rfLatchDelay) fast used (d.latched ms0)
      ∧ (d.nat K.skyMeasCount < 2 ^ 32 - 1 → t.nat K.skyMeasCount = d.nat K.skyMeasCount + 1)
      ∧ (∀ k, k < K.chState 0 → k ≠ K.skyMeasBlock → k ≠ K.skyMeasCount → t.val k = d.val k)
      ∧ (w = none → t.sky = d.sky ∧ t.therm = d.therm ∧ t.attic = d.attic) := by
  intro t
  obtain ⟨⟨hc, hs, ht, ha⟩, hb, hn, hv⟩ := d.latchShown_frame (d.latchNoted (d.latched ms0) w) fast used (d.latched ms0)
  have hval := d.latchNoted_val (d.latched ms0) w
  have hnat : (d.latchNoted (d.latched ms0) w).nat K.skyMeasCount = d.nat K.skyMeasCount := congrArg (fun v => v.int.toNat) (hval _)
  rw [hnat] at hn
  exact ⟨hc.trans (d.latchNoted_clock _ w), hb, hn, fun k h1 h2 h3 => (hv k h1 h2 h3).trans (hval k), fun h => by subst h; exact ⟨hs, ht, ha⟩⟩

/-- What a latch's end, with a solution or without, leaves: the block and its count. -/
theorem Device.latchSolved_val (d3 : Device) (last : SkyTry) (flags : Nat) (valid : Option (SkyFix × Int)) {k : Nat}
    (h1 : solvedKey k = false) (h2 : offerKey k = false) : (d.latchSolved d3 last flags valid).val k = d3.val k := by
  obtain ⟨hsrc, -⟩ := Bool.or_eq_false_iff.1 h2
  have hk : k ≠ K.skySolMisses ∧ k ≠ K.skySolKind := by
    constructor
    · rintro rfl
      exact absurd h1 (by decide)
    · rintro rfl
      exact absurd h1 (by decide)
  rcases valid with _ | ⟨x, o⟩
  · exact d3.skyMissed_val.2 k hk.1 hk.2 hsrc
  · have haid : (if last.kind ≤ 2 then d3.aidCheck x else d3).val k = d3.val k := by
      unfold Device.aidCheck
      dsimp only
      split
      · split
        · rfl
        · split <;> rfl
      · rfl
    refine Eq.trans ?_ haid
    exact ((if last.kind ≤ 2 then d3.aidCheck x else d3).skySolved_frame _ _ _ _ _ _ _).2 k h1 h2

/-- R205, R207: every latch makes a block, counted. -/
theorem Device.latch_block (fast : Bool) (ms0 : List SkyMeas) (fix refit : Option SkyFix) (h : d.nat K.skyMeasCount < 2 ^ 32 - 1) :
    let t := d.latch fast ms0 fix refit
    t.nat K.skyMeasCount = d.nat K.skyMeasCount + 1 ∧ fieldNat (t.oct K.skyMeasBlock) 12 4 = t.nat K.skyMeasCount
      ∧ field (t.oct K.skyMeasBlock) 0 12 = time96Bytes (d.mt16 - Config.rfLatchDelay)
      ∧ fieldNat (t.oct K.skyMeasBlock) 16 1 = ((List.range 128).filter (fun c => d.skyCh c = 2 || d.skyCh c = 3)).length := by
  intro t
  obtain ⟨used, flags, ht⟩ := d.latch_eq fast ms0 fix refit
  obtain ⟨-, hb, hn, -, -⟩ := d.latchReady_frame fast ms0 (d.latchFirst ms0 fix).worst used
  have hval : ∀ k, solvedKey k = false → offerKey k = false → t.val k = (d.latchReady fast ms0 (d.latchFirst ms0 fix).worst used).val k := fun k h1 h2 => by
    rw [show t = _ from ht]
    exact d.latchSolved_val _ _ _ _ h1 h2
  have hcount : t.nat K.skyMeasCount = d.nat K.skyMeasCount + 1 := by
    rw [Device.nat, Device.num, hval _ (by decide) (by decide)]
    exact hn h
  have hblock : t.oct K.skyMeasBlock = d.measBlock (d.mt16 - Config.rfLatchDelay) fast used (d.latched ms0) := by
    rw [Device.oct, hval _ (by decide) (by decide)]
    exact hb
  obtain ⟨f1, f2, f3⟩ := d.measBlock_fields (d.mt16 - Config.rfLatchDelay) fast used (d.latched ms0)
  obtain ⟨l1, l2⟩ := d.length_latched ms0
  rw [hblock, hcount, f1, f2, f3, Nat.mod_eq_of_lt l2, l1]
  exact ⟨rfl, Nat.mod_eq_of_lt (by omega), rfl, rfl⟩

/-- R213: a latch without a fix is a miss. -/
theorem Device.latch_missed (fast : Bool) (ms0 : List SkyMeas) (refit : Option SkyFix) : ∃ used,
    d.latch fast ms0 none refit = (d.latchReady fast ms0 none used).skyMissed := by
  obtain ⟨used, flags, ht⟩ := d.latch_eq fast ms0 none refit
  obtain ⟨hw, hv⟩ := d.latchValid_none ms0 refit
  rw [hw, hv] at ht
  exact ⟨used, ht⟩

theorem Device.latch_missed_clock (fast : Bool) (ms0 : List SkyMeas) (refit : Option SkyFix) : (d.latch fast ms0 none refit).clock = d.clock := by
  obtain ⟨used, h⟩ := d.latch_missed fast ms0 refit
  rw [h, (Device.skyMissed_val _).1, (d.latchReady_frame fast ms0 none used).1]

/-- R213: what a miss leaves. -/
theorem Device.latch_missed_obeys (fast : Bool) (ms0 : List SkyMeas) (refit : Option SkyFix) (h : d.nat K.skySolMisses < 2 ^ 32 - 1) :
    let t := d.latch fast ms0 none refit
    let n := d.nat K.skySolMisses + 1
    t.nat K.skySolMisses = n ∧ t.nat K.skySolCount = d.nat K.skySolCount ∧ t.num K.skySolOffset = d.num K.skySolOffset
      ∧ (∀ p ∈ t.therm.phases, p ∈ d.therm.phases)
      ∧ (d.missLoses n → t.sky.active = false ∧ t.nat K.skySolKind = 0 ∧ ∃ r ∈ t.attic.reports, r.code = 0x0503 ∧ r.p = [1, (n : Int)])
      ∧ (¬ d.missLoses n → t.sky.active = d.sky.active ∧ newReports d t = []) := by
  intro t n
  obtain ⟨used, ht⟩ := d.latch_missed fast ms0 refit
  obtain ⟨-, -, -, hv, hr⟩ := d.latchReady_frame fast ms0 none used
  obtain ⟨hs, hth, ha⟩ := hr rfl
  have hnat : ∀ k, k < K.chState 0 → k ≠ K.skyMeasBlock → k ≠ K.skyMeasCount → (d.latchReady fast ms0 none used).nat k = d.nat k :=
    fun k h1 h2 h3 => congrArg (fun v => v.int.toNat) (hv k h1 h2 h3)
  have hm : (d.latchReady fast ms0 none used).nat K.skySolMisses = d.nat K.skySolMisses := hnat _ (by decide) (by decide) (by decide)
  have hl : (d.latchReady fast ms0 none used).missLoses n ↔ d.missLoses n := by
    simp only [Device.missLoses, hs, hnat K.skySolMissLimit (by decide) (by decide) (by decide)]
  obtain ⟨-, h2, h3, h4, h5, h6⟩ := (d.latchReady fast ms0 none used).skyMissed_frame (by rw [hm]; exact h)
  rw [hm] at h2 h4 h5
  rw [← ht] at h2 h3 h4 h5 h6
  refine ⟨h2, ?_, ?_, ?_, fun hlost => h4 (hl.2 hlost), fun hkept => ?_⟩
  · rw [Device.nat, Device.num, h6 _ (by decide) (by decide) (by decide)]
    exact hnat _ (by decide) (by decide) (by decide)
  · rw [Device.num, h6 _ (by decide) (by decide) (by decide), hv _ (by decide) (by decide) (by decide)]
    rfl
  · rw [show t.therm.phases = _ from h3, hth]
    exact fun p hp => hp
  · obtain ⟨h7, h8⟩ := h5 (mt hl.1 hkept)
    refine ⟨h7.trans (by rw [hs]), newReports_of_entries ?_⟩
    rw [List.append_nil]
    exact h8.trans (Device.entries_of_attic ha)

/-- R213, R214: what a solution publishes. -/
theorem Device.latch_solved_obeys (fast : Bool) (ms0 : List SkyMeas) {x : SkyFix} {o : Int} (refit : Option SkyFix) (ht0 : d.nat K.skyTracker = 0)
    (hk : (d.skyTry (d.latchGood ms0) x).kind ≠ 0) (hw : (d.skyTry (d.latchGood ms0) x).worst = none)
    (ho : d.gnssOffset (d.mt16 - Config.rfLatchDelay) (d.skyTry (d.latchGood ms0) x).off x = some o) (hu : x.unc ≤ d.nat K.skyUncMax) :
    let t := d.latch fast ms0 (some x) refit
    let y := d.skyTry (d.latchGood ms0) x
    t.nat K.skySolKind = y.kind ∧ t.nat K.skySolNsat = y.sats.length ∧ t.num K.skySolOffset = o
      ∧ t.nat K.skySolUnc = x.unc ∧ t.nat K.skySolMisses = 0 ∧ t.sky.active = true ∧ t.sky.fastFix = false
      ∧ (d.nat K.skySolCount < 2 ^ 32 - 1 → t.nat K.skySolCount = d.nat K.skySolCount + 1) := by
  intro t y
  obtain ⟨used, flags, ht⟩ := d.latch_eq fast ms0 (some x) refit
  obtain ⟨h1, h2, h3⟩ := d.latchValid_some ms0 refit ht0 hk hw ho hu
  rw [h1, h2, h3] at ht
  obtain ⟨-, -, -, hv, -⟩ := d.latchReady_frame fast ms0 none used
  have hcount : ∀ e : Device, (e = d.latchReady fast ms0 none used ∨ e = (d.latchReady fast ms0 none used).aidCheck x) →
      e.nat K.skySolCount = d.nat K.skySolCount := by
    have h : (d.latchReady fast ms0 none used).nat K.skySolCount = d.nat K.skySolCount :=
      congrArg (fun v => v.int.toNat) (hv _ (by decide) (by decide) (by decide))
    rintro e (rfl | rfl)
    · exact h
    · refine Eq.trans ?_ h
      unfold Device.aidCheck
      dsimp only
      split
      · rfl
      · split <;> rfl
  have ht : t = (if y.kind ≤ 2 then (d.latchReady fast ms0 none used).aidCheck x else d.latchReady fast ms0 none used).skySolved y.kind y.sats.length
      (d.mt16 - Config.rfLatchDelay) flags o x ((d.clock.mt / secU + 1) * secU) := ht
  generalize he : (if y.kind ≤ 2 then (d.latchReady fast ms0 none used).aidCheck x else d.latchReady fast ms0 none used) = e at ht
  have hc := hcount e (by
    rw [← he]
    split
    · exact .inr rfl
    · exact .inl rfl)
  obtain ⟨h, -⟩ := e.skySolved_frame y.kind y.sats.length (d.mt16 - Config.rfLatchDelay) flags o x ((d.clock.mt / secU + 1) * secU)
  rw [← ht, hc] at h
  exact h

end

end Sys2Proof.Machine
end

section
/-! Chapter 7: the burst, the pulse of a solution, an expired prediction, and the obligation on the latches. -/

namespace Sys2Proof.Machine

section
variable (d : Device)

/-! ## The latch on its edge (R205) -/

theorem Device.elapse_handover (n : Nat) : (d.elapse n).clock.handover = d.clock.handover := by
  unfold Device.elapse
  dsimp only
  split <;> rfl

theorem Device.toFabEdge_frame (t : Nat) : (∀ k, (d.toFabEdge t).val k = d.val k) ∧
    ((d.toFabEdge t).clock.ticks - (d.toFabEdge t).clock.handover.getD 0) % 2 = 0 := by
  unfold Device.toFabEdge
  dsimp only
  split
  · rename_i h
    refine ⟨fun _ => rfl, ?_⟩
    have ht : ((d.runToMt t).elapse 1).clock.ticks = (d.runToMt t).clock.ticks + 1 := rfl
    have hh : ((d.runToMt t).elapse 1).clock.handover = (d.runToMt t).clock.handover := Device.elapse_handover _ 1
    rw [ht, hh]
    omega
  · exact ⟨fun _ => rfl, by omega⟩

theorem Device.measLatch_idle (ms : List SkyMeas) (fix refit : Option SkyFix) (h : d.clock.mtRun = false ∨ d.nat K.skyTracker = 2) :
    d.measLatch ms fix refit = d := if_pos (by simpa using h)

theorem Device.measLatch_eq (ms : List SkyMeas) (fix refit : Option SkyFix) (hr : d.clock.mtRun = true) (h2 : d.nat K.skyTracker ≠ 2) :
    d.measLatch ms fix refit = (d.skySettle.toFabEdge d.skySettle.nextLatch.1).skySettle.latch d.skySettle.nextLatch.2 ms fix refit := by
  unfold Device.measLatch
  rw [if_neg (by simp [hr, h2])]

/-! ## The burst (R219) -/

/-- R203: the channels that a burst has locked again. -/
def Device.burstTracked (d : Device) (ms : List SkyMeas) : Device :=
  ms.foldl (fun d m => if d.skyCh m.channel = 3 && m.carrierLock && m.channel < 128 then d.setSkyState m.channel 2 else d) d

/-- R219: a channel coasts after a burst. -/
def Device.coast (d : Device) (c : Nat) : Device := if d.skyCh c = 2 || d.skyCh c = 3 then d.setSkyState c 3 else d

/-- R219: the channels coast after a burst. -/
def Device.coasted (d : Device) : Device := (List.range 128).foldl Device.coast d

/-- The states of the part in which no burst is due. -/
def Device.burstShut (d : Device) : Prop := d.nat K.skyTracker ≠ 2 ∨ d.clock.mtRun = false ∨ d.nat K.fbState ≠ 3

theorem Device.parkBurst_idle (ms : List SkyMeas) (fix refit : Option SkyFix) (h : d.burstShut) : d.parkBurst ms fix refit = d :=
  if_pos (by simpa [Device.burstShut, or_assoc] using h)

theorem Device.parkBurst_eq (ms : List SkyMeas) (fix refit : Option SkyFix) (h : ¬ d.burstShut) : d.parkBurst ms fix refit =
    (((d.toFabEdge ((d.clock.mt / secU + 1) * secU)).burstTracked ms).latch false ms fix refit).coasted :=
  if_neg (by simpa [Device.burstShut, or_assoc] using h)

theorem Device.setSkyState_anyChan (c st : Nat) : (d.setSkyState c st).beside skyBlank anyChanKey = d.beside skyBlank anyChanKey :=
  beside_mono (d.setSkyState_frame st) id fun k hk => by
    simp [chanKey, anyChanKey, K.chState, K.chAzim] at hk ⊢
    omega

theorem Device.burstTracked_frame (ms : List SkyMeas) : (d.burstTracked ms).beside skyBlank anyChanKey = d.beside skyBlank anyChanKey :=
  d.beside_foldl ms fun e m _ => by simp only [apply_ite (Device.beside skyBlank anyChanKey), Device.setSkyState_anyChan, ite_self]

theorem Device.coasted_frame : d.coasted.beside skyBlank anyChanKey = d.beside skyBlank anyChanKey :=
  d.beside_foldl _ fun e m _ => by simp only [Device.coast, apply_ite (Device.beside skyBlank anyChanKey), Device.setSkyState_anyChan, ite_self]

/-- A channel that coasts is not in TRACK, and leaves no other there. -/
theorem Device.coast_self (c : Nat) : (d.coast c).skyCh c ≠ 2 := by
  unfold Device.coast
  split
  · rw [Device.setSkyState_self _ (by decide)]
    decide
  · rename_i h
    simp only [Bool.or_eq_true, decide_eq_true_eq, not_or] at h
    exact h.1

theorem Device.coast_keeps {c m : Nat} (h : d.skyCh m ≠ 2) : (d.coast c).skyCh m ≠ 2 := by
  by_cases hm : m = c
  · subst hm
    exact d.coast_self m
  · unfold Device.coast
    split
    · rwa [show (d.setSkyState c 3).skyCh m = d.skyCh m from nat_of_beside (d.setSkyState_frame 3) (chanKey_chState hm)]
    · exact h

theorem Device.coast_foldl (l : List Nat) {m : Nat} (h : d.skyCh m ≠ 2 ∨ m ∈ l) : (l.foldl Device.coast d).skyCh m ≠ 2 := by
  induction l generalizing d with
  | nil => exact h.resolve_right List.not_mem_nil
  | cons c l ih =>
    refine ih (d.coast c) ?_
    obtain h | h := h
    · exact .inl (d.coast_keeps h)
    · obtain rfl | h := List.mem_cons.1 h
      · exact .inl (d.coast_self m)
      · exact .inr h

/-- R203, R219: a burst on its edge ends with a latch, and its channels coast. -/
theorem Device.burst_obeys (ms : List SkyMeas) (fix refit : Option SkyFix) : let t := ((d.burstTracked ms).latch false ms fix refit).coasted
    (∀ c, c < 128 → t.skyCh c ≠ 2) ∧ (d.nat K.skyMeasCount < 2 ^ 32 - 1 → t.nat K.skyMeasCount = d.nat K.skyMeasCount + 1)
      ∧ (fix = none → t.clock = d.clock) := by
  intro t
  have hb := d.burstTracked_frame ms
  have hc := ((d.burstTracked ms).latch false ms fix refit).coasted_frame
  have hm : (d.burstTracked ms).nat K.skyMeasCount = d.nat K.skyMeasCount := nat_of_beside hb (by decide)
  refine ⟨fun c hc => Device.coast_foldl _ _ (.inr (List.mem_range.2 hc)), fun h => ?_, fun h => ?_⟩
  · rw [show t.nat K.skyMeasCount = _ from nat_of_beside hc (by decide), ((d.burstTracked ms).latch_block false ms fix refit (by rw [hm]; exact h)).1, hm]
  · subst h
    rw [show t.clock = _ from sky_clock _ hc, Device.latch_missed_clock]
    exact sky_clock _ hb

/-! ## The pulse of a solution (R217) -/

/-- R217: the pulse's edge at a pin instant. -/
def Device.ppsEdge (d1 : Device) (fine : Nat) (due : Int) : PinEdge :=
  { ps := d1.rootPs + fine, tU := d1.clock.mt + psU fine, stepped := d1.clock.stepped, pulled := d1.clock.pulled, dco := d1.clock.dco, falling := false
    rootOk := d1.rootLocked, tstate := d1.nat K.mtState, sched := some (due.toNat / fracU, 0, 16) }

/-- R217: the part with the pulse's edge at channel 20. -/
def Device.ppsSent (d : Device) (due : Int) : Device :=
  (d.toPin due).1.setCh 20 (fun c => { c with pad := c.pad ++ [(d.toPin due).1.ppsEdge (d.toPin due).2 due] })

/-- R217: the pin instant at which MT plus SKY_SOL_OFFSET reaches a whole second. -/
def Device.ppsDue (d : Device) : Int :=
  ((d.clock.mt + d.num K.skySolOffset * fracU) / secU + 1) * secU - d.num K.skySolOffset * fracU

theorem Device.skyPps_idle (h : d.sky.active = false ∨ d.clock.mtRun = false) : d.skyPps = d := if_pos (by simpa using h)

theorem Device.skyPps_eq (ha : d.sky.active = true) (hr : d.clock.mtRun = true) : d.skyPps = d.ppsSent d.ppsDue := by
  unfold Device.skyPps
  rw [if_neg (by simp [ha, hr])]
  rfl

theorem getD_updAt_ne {α : Type} {l : List α} {n m : Nat} (f : α → α) (x : α) (h : m ≠ n) : (updAt l n f).getD m x = l.getD m x := by
  simp [updAt, List.getD_eq_getElem?_getD, h.symm]

theorem Device.ch_setCh (n : Nat) (f : TdcChannel → TdcChannel) (h : n < d.tdc.chans.length) : (d.setCh n f).ch n = f (d.ch n) := getD_updAt f {} h
theorem Device.ch_setCh_ne {n m : Nat} (f : TdcChannel → TdcChannel) (h : m ≠ n) : (d.setCh n f).ch m = d.ch m := getD_updAt_ne f {} h

/-- R217: an edge goes to channel 20, and nothing else changes but the time. -/
theorem Device.ppsSent_frame (due : Int) (hl : d.tdc.chans.length = 24) : let t := d.ppsSent due
    (t.ch 20).pad = (d.ch 20).pad ++ [(d.toPin due).1.ppsEdge (d.toPin due).2 due] ∧ t.clock = (d.toPin due).1.clock ∧ (∀ k, t.val k = d.val k)
      ∧ newReports d t = [] ∧ ∀ m, m ≠ 20 → t.ch m = d.ch m := by
  have hf := (d.toPin_frame due).1
  unfold Device.ppsSent
  generalize (d.toPin due).2 = fine
  generalize (d.toPin due).1 = e at hf
  have hobj : e.obj = d.obj := by rw [hf]
  have htdc : e.tdc = d.tdc := by rw [hf]
  have hat : e.attic = d.attic := by rw [hf]
  have hch : ∀ m, e.ch m = d.ch m := fun m => by rw [Device.ch, htdc, Device.ch]
  generalize e.ppsEdge fine due = x
  intro t
  refine ⟨?_, rfl, val_of_obj hobj, ?_, fun m hm => (e.ch_setCh_ne _ hm).trans (hch m)⟩
  · have h := e.ch_setCh 20 (fun c => { c with pad := c.pad ++ [x] }) (by rw [htdc, hl]; decide)
    rw [show t.ch 20 = _ from h, hch]
  · have he : t.entries = d.entries ++ [] := (Device.entries_of_attic (show t.attic = d.attic from hat)).trans (List.append_nil _).symm
    exact newReports_of_entries he

/-! ## An expired prediction (R220) -/

/-- R220: the end of the prediction span at this tick. -/
def Device.predictionEnded (d : Device) : Device := (d.skyLost 3).setSky (fun s => { s with expired := true })

theorem Device.predictionExpiry_idle (h : d.nat K.skyTracker = 0 ∨ d.sky.expired = true) : d.predictionExpiry = d := if_pos (by simpa using h)

theorem Device.predictionExpiry_eq (ht : d.nat K.skyTracker ≠ 0) (he : d.sky.expired = false) :
    d.predictionExpiry = (d.runTo (d.sky.predictedAt + 14400 * sTicks)).predictionEnded := if_neg (by simp [ht, he])

theorem Device.predictionEnded_obeys : let t := d.predictionEnded
    t.sky.expired = true ∧ t.sky.active = false ∧ t.nat K.skySolKind = 0 ∧ t.clock = d.clock
      ∧ (newReports d t).head? = some (0x0503, [3, d.num K.skySolMisses]) := by
  intro t
  obtain ⟨hc, hs, hk, ⟨l, hl⟩, -⟩ := d.skyLost_frame 3
  have ht : t = (d.skyLost 3).setSky (fun s => { s with expired := true }) := rfl
  have he : t.entries = d.entries ++ ((0x0503, [3, d.num K.skySolMisses]) :: l) := by
    rw [ht, Device.entries_setSky, ← hl, Device.entries_report, List.append_assoc]
    rfl
  rw [newReports_of_entries he, ht, Device.setSky_sky, hs, Device.setSky_nat, hk, Device.setSky_clock, hc]
  exact ⟨rfl, rfl, rfl, rfl, rfl⟩

/-- R205 to R214: what a latch on its edge obeys. -/
theorem Device.latch_obeys (fast : Bool) (ms : List SkyMeas) (fix refit : Option SkyFix) (hm : d.nat K.skyMeasCount < 2 ^ 32 - 1)
    (hn : d.nat K.skySolMisses < 2 ^ 32 - 1) (he : (d.clock.ticks - d.clock.handover.getD 0) % 2 = 0) :
    let t := d.latch fast ms fix refit
    let n := d.nat K.skySolMisses + 1
    let lost := n = d.nat K.skySolMissLimit ∨ (d.sky.active = true ∧ d.nat K.skySolMissLimit ≤ n)
    let t16 := d.mt16 - Config.rfLatchDelay
    t.nat K.skyMeasCount = d.nat K.skyMeasCount + 1 ∧ fieldNat (t.oct K.skyMeasBlock) 12 4 = t.nat K.skyMeasCount
      ∧ field (t.oct K.skyMeasBlock) 0 12 = time96Bytes t16
      ∧ fieldNat (t.oct K.skyMeasBlock) 16 1 = ((List.range 128).filter (fun c => d.skyCh c = 2 || d.skyCh c = 3)).length
      ∧ (fix = none → t.clock.ticks = d.clock.ticks ∧ (d.clock.ticks - d.clock.handover.getD 0) % 2 = 0
          ∧ t.nat K.skySolMisses = n ∧ t.nat K.skySolCount = d.nat K.skySolCount ∧ t.num K.skySolOffset = d.num K.skySolOffset
          ∧ (∀ p ∈ t.therm.phases, p ∈ d.therm.phases)
          ∧ (lost → t.sky.active = false ∧ t.nat K.skySolKind = 0 ∧ ∃ r ∈ t.attic.reports, r.code = 0x0503 ∧ r.p = [1, (n : Int)])
          ∧ (¬ lost → t.sky.active = d.sky.active ∧ newReports d t = []))
      ∧ (∀ x o, fix = some x → d.nat K.skyTracker = 0 →
          let y := d.skyTry ((d.latched ms).filter d.measGood) x
          y.kind ≠ 0 → y.worst = none → d.gnssOffset t16 y.off x = some o → x.unc ≤ d.nat K.skyUncMax →
          t.nat K.skySolKind = y.kind ∧ t.nat K.skySolNsat = y.sats.length ∧ t.num K.skySolOffset = o
            ∧ t.nat K.skySolUnc = x.unc ∧ t.nat K.skySolMisses = 0 ∧ t.sky.active = true ∧ t.sky.fastFix = false
            ∧ (d.nat K.skySolCount < 2 ^ 32 - 1 → t.nat K.skySolCount = d.nat K.skySolCount + 1)) := by
  intro t n lost t16
  obtain ⟨h1, h2, h3, h4⟩ := d.latch_block fast ms fix refit hm
  refine ⟨h1, h2, h3, h4, fun hf => ?_, fun x o hx ht => ?_⟩
  · subst hf
    exact ⟨congrArg Clock.ticks (d.latch_missed_clock fast ms refit), he, d.latch_missed_obeys fast ms refit hn⟩
  · subst hx
    intro y hk hw ho hu
    exact d.latch_solved_obeys fast ms refit ht hk hw ho hu

end

/-- Settles O38: a latch, a burst, a pulse and an expiry, each by what it leaves at its edge. -/
theorem latchesAndSolutions : Obligations.LatchesAndSolutions := by
  refine ⟨fun s ms fix refit h => ?_, fun s ms fix refit hr h2 hm hn => ?_, fun s ms fix refit => ⟨fun h => ?_, fun h => ?_⟩,
    fun s => ⟨fun h => ?_, fun ha hr hl => ?_⟩, fun s => ⟨fun h => ?_, fun ht he => ?_⟩⟩
  · rw [exec_measLatch, State.on, s.dev.measLatch_idle ms fix refit h]
  · intro d
    have hexec := exec_measLatch s ms fix refit
    rw [State.on, s.dev.measLatch_eq ms fix refit hr h2] at hexec
    obtain ⟨hv, hedge⟩ := s.dev.skySettle.toFabEdge_frame s.dev.skySettle.nextLatch.1
    have hnat : ∀ k, d.nat k = s.dev.nat k := fun k => congrArg (fun v => v.int.toNat) (hv k)
    have hfab : (d.clock.ticks - d.clock.handover.getD 0) % 2 = 0 := hedge
    have hdef : d = (s.dev.skySettle.toFabEdge s.dev.skySettle.nextLatch.1).skySettle := rfl
    rw [← hdef] at hexec
    clear_value d
    exact ⟨_, hexec, rfl, d.latch_obeys _ ms fix refit (by rw [hnat]; exact hm) (by rw [hnat]; exact hn) hfab⟩
  · rw [exec_parkBurst, State.on, s.dev.parkBurst_idle ms fix refit h]
  · have hexec := exec_parkBurst s ms fix refit
    rw [State.on, s.dev.parkBurst_eq ms fix refit h] at hexec
    have hv := (s.dev.toFabEdge_frame ((s.dev.clock.mt / secU + 1) * secU)).1
    generalize s.dev.toFabEdge ((s.dev.clock.mt / secU + 1) * secU) = e at hexec hv ⊢
    obtain ⟨h1, h2, h3⟩ := e.burst_obeys ms fix refit
    have hnat : e.nat K.skyMeasCount = s.dev.nat K.skyMeasCount := congrArg (fun v => v.int.toNat) (hv _)
    rw [hnat] at h2
    generalize ((e.burstTracked ms).latch false ms fix refit).coasted = t at hexec h1 h2 h3
    exact ⟨_, hexec, rfl, h1, h2, fun hf => congrArg Clock.ticks (h3 hf)⟩
  · rw [exec_skyPps, State.on, s.dev.skyPps_idle h]
  · have hexec := exec_skyPps s
    rw [State.on, s.dev.skyPps_eq ha hr] at hexec
    intro off due
    have hdue : due = s.dev.ppsDue := rfl
    clear_value due
    rw [← hdue] at hexec
    obtain ⟨h1, h2, h3, h4, h5⟩ := s.dev.ppsSent_frame due hl
    exact ⟨_, _, hexec, rfl, h1, rfl, rfl, rfl, h2, h3, h4, h5⟩
  · rw [exec_predictionExpiry, State.on, s.dev.predictionExpiry_idle h]
  · have hexec := exec_predictionExpiry s
    rw [State.on, s.dev.predictionExpiry_eq ht he] at hexec
    generalize s.dev.sky.predictedAt + 14400 * sTicks = tick at hexec ⊢
    obtain ⟨h1, h2, h3, h4, h5⟩ := (s.dev.runTo tick).predictionEnded_obeys
    have hm := Device.runTo_num s.dev tick K.skySolMisses
    rw [newReports_runTo, hm] at h5
    exact ⟨_, hexec, rfl, h1, h2, h3, congrArg Clock.ticks h4, h5⟩

end Sys2Proof.Machine
end

section
/-! Chapter 8: edges and captures (R224 to R228). -/

namespace Sys2Proof.Machine

theorem exec_edgeInput (s : State) (n : Nat) (falling : Bool) (wait fine : Nat) : exec (.edgeInput n falling wait fine) s =
    .next (s.on (·.edgeInput n falling wait fine)) := rfl
theorem exec_stampConversion (s : State) (n : Nat) : exec (.stampConversion n) s = .next (s.on (·.convert n)) := rfl
theorem exec_tdcCalSwap (s : State) (n : Nat) (bins : List Nat) : exec (.tdcCalSwap n bins ()) s = .next (s.on (·.calSwap n bins)) := rfl
theorem exec_tdcCalComplete (s : State) : exec .tdcCalComplete s = .next (s.on (·.calComplete)) := rfl
theorem exec_aggregateStampDemand (s : State) : exec .aggregateStampDemand s = .next (s.on (·.stampDemand)) := rfl

section
variable (d : Device) {n : Nat}

/-! ## Edges (R224, R225) -/

theorem Device.edgeInput_idle (falling : Bool) (wait fine : Nat) (h : d.clock.mtRun = false ∨ 24 ≤ n) : d.edgeInput n falling wait fine = d.elapse wait :=
  if_pos (by simpa using h)

/-- An edge at the pin of channels 0 to 19 at this tick. -/
def Device.pinEdge (d : Device) (n : Nat) (falling : Bool) (fine : Nat) : Device :=
  if d.selects n falling then (d.watchEdge n (d.inputEdge falling fine)).takeEdge n (d.inputEdge falling fine) else d

theorem Device.edgeInput_pin (falling : Bool) (wait fine : Nat) (hr : d.clock.mtRun = true) (hn : n < 20) :
    d.edgeInput n falling wait fine = (d.elapse wait).pinEdge n falling fine := by
  unfold Device.edgeInput
  rw [if_neg (by simp [hr]; omega), if_neg (by omega)]
  rfl

theorem Device.edgeInput_noPad (falling : Bool) (wait fine : Nat) (hr : d.clock.mtRun = true) (hn : 20 ≤ n) (hn' : n < 24) (hp : (d.ch n).pad = []) :
    d.edgeInput n falling wait fine = d := by
  unfold Device.edgeInput
  rw [if_neg (by simp [hr]; omega), if_pos hn, hp]

theorem Device.edgeInput_pad (falling : Bool) (wait fine : Nat) {e : PinEdge} {rest : List PinEdge} (hr : d.clock.mtRun = true) (hn : 20 ≤ n) (hn' : n < 24)
    (hp : (d.ch n).pad = e :: rest) : d.edgeInput n falling wait fine =
      let x := (d.runTo (e.ps / 800)).setCh n (fun c => { c with pad := rest })
      if x.selects n e.falling then x.takeEdge n (e.measured fine) else x := by
  unfold Device.edgeInput
  rw [if_neg (by simp [hr]; omega), if_pos hn, hp]

/-! ## Captures (R226, R228) -/

/-- The objects of the measurement channels. -/
theorem chKeys_ne (n : Nat) : K.chEdges n ≠ K.chMissed n ∧ K.chMissed n ≠ K.chEdges n := by
  simp only [K.chEdges, K.chMissed]
  omega

/-- Channel n with an edge counted. -/
def Device.edgeCounted (d : Device) (n : Nat) (e : PinEdge) : Device :=
  (d.bump64 (K.chEdges n)).setCh n (fun x => { x with count := ((d.ch n).count + 1) % 2 ^ 32, passed := x.passed + 1, last := some e })

/-- The part with an edge demanded of the conversion path. -/
def Device.demanded (d : Device) : Device := { d with tdc := { d.tdc with demand := d.tdc.demand + 1 } }

/-- What a passed edge outside interval mode does. -/
def Device.passEdge (d3 : Device) (n : Nat) (s : TdcChannel) (e : PinEdge) : Device :=
  if 4 ≤ s.caps.length || s.lastPs.any (fun p => e.ps < p + 50000) then d3.missEdge n
  else d3.setCh n (fun x => { x with caps := x.caps ++ [({ e with count := (s.count + 1) % 2 ^ 32 } : Capture)], lastPs := some e.ps })

theorem Device.edgeCounted_ch (e : PinEdge) (h : n < d.tdc.chans.length) : (d.edgeCounted n e).ch n =
    { d.ch n with count := ((d.ch n).count + 1) % 2 ^ 32, passed := (d.ch n).passed + 1, last := some e } :=
  (d.bump64 (K.chEdges n)).ch_setCh n _ h

theorem Device.edgeCounted_ch_ne (e : PinEdge) {m : Nat} (h : m ≠ n) : (d.edgeCounted n e).ch m = d.ch m := (d.bump64 (K.chEdges n)).ch_setCh_ne _ h

/-- With no interval open an edge stops none. -/
theorem Device.offerStop_foldl {src ps : Nat} (l : List Nat) (h : ∀ m ∈ l, (d.ch m).opened = none) : l.foldl (fun d m => d.offerStop src ps m) d = d := by
  induction l with
  | nil => rfl
  | cons m l ih =>
    rw [List.foldl_cons]
    have hm : d.offerStop src ps m = d := by rw [Device.offerStop, h m List.mem_cons_self]
    rw [hm]
    exact ih fun x hx => h x (List.mem_cons_of_mem m hx)

theorem Device.takeEdge_eq (e : PinEdge) (hn : n < d.tdc.chans.length) (ho : ∀ m, m < 24 → (d.ch m).opened = none) (hm : d.chMode n = 1 ∨ d.chMode n = 3) :
    d.takeEdge n e = if (d.ch n).passed % d.chDecim n = 0 ∧ d.nat K.tdcCalState = 2 then (d.edgeCounted n e).demanded.passEdge n (d.ch n) e
      else d.edgeCounted n e := by
  have hopen : ∀ m ∈ List.range 24, ((d.edgeCounted n e).ch m).opened = none := fun m hmem => by
    by_cases h : m = n
    · subst h
      rw [d.edgeCounted_ch e hn]
      exact ho m (List.mem_range.1 hmem)
    · rw [d.edgeCounted_ch_ne e h]
      exact ho m (List.mem_range.1 hmem)
  have hfold := (d.edgeCounted n e).offerStop_foldl (src := n) (ps := e.ps) _ hopen
  have h2 : d.chMode n ≠ 2 := by omega
  have h0 : d.chMode n ≠ 0 := by omega
  unfold Device.takeEdge
  dsimp only
  rw [show ((d.bump64 (K.chEdges n)).setCh n (fun x => { x with count := ((d.ch n).count + 1) % 2 ^ 32, passed := x.passed + 1, last := some e }))
    = d.edgeCounted n e from rfl, hfold]
  simp only [h0, h2, decide_false, Bool.false_or, Bool.false_and, Bool.or_false, if_false, Bool.false_eq_true]
  by_cases hp : (d.ch n).passed % d.chDecim n = 0 ∧ d.nat K.tdcCalState = 2
  · rw [if_pos hp, if_neg (by simp [hp.1, hp.2])]
    rfl
  · rw [if_neg hp, if_pos (by simpa [imp_iff_not_or] using hp)]

theorem Device.missEdge_frame : (d.missEdge n).clock = d.clock ∧ (∀ m, (d.missEdge n).ch m = d.ch m) ∧
    (∀ k, k ≠ K.chMissed n → (d.missEdge n).val k = d.val k) ∧
    (d.nat (K.chMissed n) < 2 ^ 32 - 1 → (d.missEdge n).nat (K.chMissed n) = d.nat (K.chMissed n) + 1) := by
  have hval : ∀ k, (d.missEdge n).val k = (d.bump (K.chMissed n)).val k := val_of_obj (Device.reportOnce_obj ..)
  refine ⟨Device.reportOnce_clock .., fun m => ?_, fun k hk => (hval k).trans (d.val_setVal_ne _ hk), fun h => ?_⟩
  · have : (d.missEdge n).tdc = d.tdc := Device.reportOnce_tdc ..
    rw [Device.ch, this, Device.ch]
  · rw [Device.nat, Device.num, hval]
    exact d.nat_bumpBy 4 _ 1 (by omega)

/-- R226, R228: what an edge does to its channel outside interval mode, and to no other. -/
theorem Device.takeEdge_obeys (e : PinEdge) (hn : n < 24) (hl : d.tdc.chans.length = 24) (ho : ∀ m, m < 24 → (d.ch m).opened = none)
    (hm : d.chMode n = 1 ∨ d.chMode n = 3) : let t := d.takeEdge n e
    let passed := (d.ch n).passed % d.chDecim n = 0 ∧ d.nat K.tdcCalState = 2
    let tight := 4 ≤ (d.ch n).caps.length ∨ ∃ p, (d.ch n).lastPs = some p ∧ e.ps < p + 50000
    t.clock = d.clock
      ∧ (d.nat (K.chEdges n) < 2 ^ 64 - 1 → t.nat (K.chEdges n) = d.nat (K.chEdges n) + 1)
      ∧ (¬ passed → (t.ch n).caps = (d.ch n).caps ∧ t.nat (K.chMissed n) = d.nat (K.chMissed n))
      ∧ (passed → tight → (t.ch n).caps = (d.ch n).caps
          ∧ (d.nat (K.chMissed n) < 2 ^ 32 - 1 → t.nat (K.chMissed n) = d.nat (K.chMissed n) + 1))
      ∧ (passed → ¬ tight → t.nat (K.chMissed n) = d.nat (K.chMissed n)
          ∧ (t.ch n).caps = (d.ch n).caps ++ [({ e with count := ((d.ch n).count + 1) % 2 ^ 32 } : Capture)])
      ∧ ∀ m, m ≠ n → t.ch m = d.ch m := by
  intro t passed tight
  have hn' : n < d.tdc.chans.length := by omega
  have ht : t = if passed then (d.edgeCounted n e).demanded.passEdge n (d.ch n) e else d.edgeCounted n e := d.takeEdge_eq e hn' ho hm
  have hedges : d.nat (K.chEdges n) < 2 ^ 64 - 1 → (d.edgeCounted n e).nat (K.chEdges n) = d.nat (K.chEdges n) + 1 := fun h =>
    d.nat_bumpBy 8 _ 1 (by omega)
  have hmissed : (d.edgeCounted n e).nat (K.chMissed n) = d.nat (K.chMissed n) := d.nat_bumpBy_ne 8 1 (chKeys_ne n).2
  have hcaps : ((d.edgeCounted n e).ch n).caps = (d.ch n).caps := by rw [d.edgeCounted_ch e hn']
  by_cases hp : passed
  · rw [if_pos hp] at ht
    have htight : (Decidable.decide (4 ≤ (d.ch n).caps.length) || (d.ch n).lastPs.any (fun p => e.ps < p + 50000)) = true ↔ tight := by
      simp [tight, Option.any_eq_true]
    by_cases hti : tight
    · have ht : t = (d.edgeCounted n e).demanded.missEdge n := ht.trans (if_pos (htight.2 hti))
      obtain ⟨h1, h2, h3, h4⟩ := (d.edgeCounted n e).demanded.missEdge_frame (n := n)
      rw [ht]
      refine ⟨h1, fun h => ?_, fun h => absurd hp h, fun _ _ => ⟨?_, fun h => ?_⟩, fun _ h => absurd hti h, fun m hm => ?_⟩
      · rw [Device.nat, Device.num, h3 _ (chKeys_ne n).1]
        exact hedges h
      · rw [h2]
        exact hcaps
      · exact (h4 (by rw [show (d.edgeCounted n e).demanded.nat (K.chMissed n) = _ from hmissed]; exact h)).trans (congrArg (· + 1) hmissed)
      · rw [h2]
        exact d.edgeCounted_ch_ne e hm
    · have ht : t = (d.edgeCounted n e).demanded.setCh n (fun x => { x with
          caps := x.caps ++ [({ e with count := ((d.ch n).count + 1) % 2 ^ 32 } : Capture)], lastPs := some e.ps }) := ht.trans (if_neg (mt htight.1 hti))
      rw [ht]
      refine ⟨rfl, hedges, fun h => absurd hp h, fun _ h => absurd h hti, fun _ _ => ⟨hmissed, ?_⟩, fun m hm => ?_⟩
      · rw [Device.ch_setCh _ _ _ (by show n < (updAt d.tdc.chans n _).length; rw [length_updAt]; exact hn')]
        exact congrArg (· ++ _) hcaps
      · rw [Device.ch_setCh_ne _ _ hm]
        exact d.edgeCounted_ch_ne e hm
  · rw [if_neg hp] at ht
    rw [ht]
    exact ⟨rfl, hedges, fun _ => ⟨hcaps, hmissed⟩, fun h => absurd h hp, fun h => absurd h hp, fun m hm => d.edgeCounted_ch_ne e hm⟩

end

end Sys2Proof.Machine
end

section
/-! Chapter 8: conversions, calibration and the second's demand, and the obligation on edges (R227, R230, R234 to R236, R253). -/

namespace Sys2Proof.Machine

section
variable (d : Device) {n : Nat}

/-! ## Records (R230, R231) -/

/-- Three flags of a record (Table 8-2). -/
theorem recordFlags (p q r : Prop) [Decidable p] [Decidable q] [Decidable r] (s x : Prop) [Decidable s] [Decidable x] :
    let flags := (if p then 0 else 1) + (if q then 2 else 0) + (if s then 4 else 0) + (if r then 8 else 0) + 0 + (if x then 128 else 0)
    bit flags 0 = !decide p ∧ bit flags 1 = decide q ∧ bit flags 3 = decide r := by
  by_cases hp : p <;> by_cases hq : q <;> by_cases hr : r <;> by_cases hs : s <;> by_cases hx : x <;> simp [hp, hq, hr, hs, hx, bit]

/-- What taking a record leaves: the time, the captures, the path and every object but the count of discards. -/
theorem Device.pushRecord_frame (c : Capture) (interval : Int) (extra : Nat) (h : n < d.tdc.chans.length) : let t := d.pushRecord n c interval extra
    t.clock = d.clock ∧ (t.ch n).caps = (d.ch n).caps ∧ t.tdc.served = d.tdc.served ∧ t.tdc.pathFree = d.tdc.pathFree
      ∧ t.tdc.chans.length = d.tdc.chans.length ∧ ∀ k, k ≠ K.chOverflow n → t.val k = d.val k := by
  unfold Device.pushRecord
  split
  · exact ⟨rfl, rfl, rfl, rfl, rfl, fun _ _ => rfl⟩
  · dsimp only
    split
    · split
      · rw [Device.ch_setCh _ _ _ (by exact h)]
        exact ⟨rfl, rfl, rfl, rfl, length_updAt _ _ _, fun k hk => d.val_setVal_ne _ hk⟩
      · rw [Device.ch_setCh _ _ _ (by exact h)]
        exact ⟨rfl, rfl, rfl, rfl, length_updAt _ _ _, fun k hk => d.val_setVal_ne _ hk⟩
    · rw [Device.ch_setCh _ _ _ (by exact h)]
      exact ⟨rfl, rfl, rfl, rfl, length_updAt _ _ _, fun k hk => rfl⟩

/-- R231, Table 8-2: an open FIFO with room takes the record of a stamp. -/
theorem Device.pushRecord_room (c : Capture) (hf : d.num (K.chFifoEn n) = 1) (hr : (d.ch n).fifo.length < 256) (h : n < d.tdc.chans.length) :
    ∃ flags, ((d.pushRecord n c 0 0).ch n).fifo = (d.ch n).fifo ++ [tdcRecord (d.stampOf n c) 0 c.count flags c.tstate]
      ∧ bit flags 0 = !c.rootOk ∧ bit flags 1 = (d.ch n).dropped ∧ bit flags 3 = c.falling := by
  unfold Device.pushRecord
  dsimp only
  rw [if_neg (not_not.2 hf), if_neg (Nat.not_le.2 hr), Device.ch_setCh _ _ _ (by exact h)]
  have hb := recordFlags (c.rootOk = true) ((d.ch n).dropped = true) (c.falling = true) (d.nat K.mtStepCount ≠ (d.ch n).stepsSeen) (3 ≤ (d.ch n).rejects)
  simp only [Bool.decide_eq_true] at hb
  exact ⟨_, rfl, hb⟩

/-- R231: a full FIFO discards the record, and counts it. -/
theorem Device.pushRecord_full (c : Capture) (hf : d.num (K.chFifoEn n) = 1) (hr : 256 ≤ (d.ch n).fifo.length) (h : n < d.tdc.chans.length) :
    ((d.pushRecord n c 0 0).ch n).fifo = (d.ch n).fifo ∧ ((d.pushRecord n c 0 0).ch n).dropped = true ∧
      (d.nat (K.chOverflow n) < 2 ^ 32 - 1 → (d.pushRecord n c 0 0).nat (K.chOverflow n) = d.nat (K.chOverflow n) + 1) := by
  have hb : d.nat (K.chOverflow n) < 2 ^ 32 - 1 → (d.bump (K.chOverflow n)).nat (K.chOverflow n) = d.nat (K.chOverflow n) + 1 := fun h => by
    rw [Device.bump, d.nat_bumpBy 4 _ 1 (by omega)]
  unfold Device.pushRecord
  dsimp only
  rw [if_neg (not_not.2 hf), if_pos hr]
  split
  · rw [Device.ch_setCh _ _ _ (by exact h)]
    exact ⟨rfl, rfl, hb⟩
  · rw [Device.ch_setCh _ _ _ (by exact h)]
    exact ⟨rfl, rfl, hb⟩

/-! ## Conversion (R227) -/

/-- What a stamp's consumers beside the channel can change: live values, reports, and the states of Thermostat, Skylight and the outputs. -/
def stampBlank : Blank :=
  { clear := fun d => { d with obj := [], lost := [], attic := {}, therm := {}, sky := {}, outs := [] }, clear_setVal := fun _ _ _ => rfl }

/-- The objects that they may touch: none of a measurement channel. -/
def stampKey (k : Nat) : Bool := k = K.skyPpsMismatch || K.outPlaceErr 0 ≤ k

theorem Device.stamp_refinStamp (i : Nat) (c : Capture) : (d.refinStamp i c).beside stampBlank stampKey = d.beside stampBlank stampKey := by
  have hpoint : ∀ m a b, (d.addPoint m a b).beside stampBlank stampKey = d.beside stampBlank stampKey := fun _ _ _ => rfl
  have hoffer : ∀ (e : Device) m, (e.offerPhase m).beside stampBlank stampKey = e.beside stampBlank stampKey := fun e m => by
    unfold Device.offerPhase
    split <;> rfl
  simp only [Device.refinStamp, apply_ite (Device.beside stampBlank stampKey), hpoint, hoffer, ite_self]

theorem Device.stamp_ppsStamp (tU : Int) (sched : Nat) : (d.ppsStamp tU sched).beside stampBlank stampKey = d.beside stampBlank stampKey := by
  have h : ∀ (e : Device) (f : Sky) , ({ e with sky := f } : Device).beside stampBlank stampKey = e.beside stampBlank stampKey := fun _ _ => rfl
  have hr : ∀ (e : Device) (c : Nat) (p : List Int), (e.report c p).beside stampBlank stampKey = e.beside stampBlank stampKey := fun _ _ _ => rfl
  simp only [Device.ppsStamp, apply_ite (Device.beside stampBlank stampKey), h, hr, Device.beside_setNum _ _ (show stampKey K.skyPpsMismatch = true by decide),
    ite_self]

theorem Device.stamp_placement (m : Nat) (a b c : Int) : (d.placement m a b c).beside stampBlank stampKey = d.beside stampBlank stampKey := by
  have hk : stampKey (K.outPlaceErr m) = true := by simp [stampKey, K.outPlaceErr]; omega
  have h : ∀ (e : Device) (f : OutUnit → OutUnit) , (e.setOut m f).beside stampBlank stampKey = e.beside stampBlank stampKey := fun _ _ => rfl
  have hr : ∀ (e : Device) (c : Nat) (p : List Int), (e.report c p).beside stampBlank stampKey = e.beside stampBlank stampKey := fun _ _ _ => rfl
  simp only [Device.placement, h, apply_ite (Device.beside stampBlank stampKey), hr, Device.beside_setNum _ _ hk, ite_self]

/-- R243: the part with a stamp in the regression's gate. -/
def Device.stampGated (d1 d : Device) (n : Nat) (c : Capture) : Device :=
  let last : Int := ((d1.ch n).stamps.head?.map (·.1)).getD c.count
  let stamp : Nat × Int × Int := ((last + (c.count - last) % 2 ^ 32).toNat, d.stampOf n c - c.stepped, c.tU)
  if d.num (K.regEnable n) = 1 && ((d1.ch n).gateStart : Int) ≤ c.tU && (d1.ch n).stamps.length < 16777215 then
    d1.setCh n (fun x => { x with stamps := stamp :: x.stamps }) else d1

/-- R217, R246, R268: a stamp goes to Thermostat, Skylight and the placement check. -/
def Device.stampSent (d2 d : Device) (n : Nat) (c : Capture) : Device :=
  let d3 := if d.chInUse n = 1 && c.rootOk then d2.refinStamp (n - 16) c else d2
  match c.sched with
  | some (sched, delay, out) =>
    if n = 20 then d3.ppsStamp c.tU sched
    else if 21 ≤ n && d.chMode n = 1 then d3.placement out (d.stampOf n c) sched delay else d3
  | none => d3

theorem Device.deliverStamp_eq (c : Capture) : d.deliverStamp n c =
    ((if d.chMode n = 1 then d.pushRecord n c 0 0 else d).stampGated d n c).stampSent d n c := rfl

theorem Device.stampSent_frame (d2 : Device) (c : Capture) : (d2.stampSent d n c).beside stampBlank stampKey = d2.beside stampBlank stampKey := by
  have h3 : (if (d.chInUse n = 1 && c.rootOk) = true then d2.refinStamp (n - 16) c else d2).beside stampBlank stampKey = d2.beside stampBlank stampKey := by
    simp only [apply_ite (Device.beside stampBlank stampKey), Device.stamp_refinStamp, ite_self]
  unfold Device.stampSent
  dsimp only
  split
  · simp only [apply_ite (Device.beside stampBlank stampKey), Device.stamp_ppsStamp, Device.stamp_placement, Device.stamp_refinStamp, ite_self]
  · exact h3

theorem Device.stampGated_frame (d1 : Device) (c : Capture) (h : n < d1.tdc.chans.length) : let t := d1.stampGated d n c
    t.clock = d1.clock ∧ (t.ch n).caps = (d1.ch n).caps ∧ (t.ch n).fifo = (d1.ch n).fifo ∧ (t.ch n).dropped = (d1.ch n).dropped
      ∧ t.tdc.served = d1.tdc.served ∧ t.tdc.pathFree = d1.tdc.pathFree ∧ ∀ k, t.val k = d1.val k := by
  unfold Device.stampGated
  dsimp only
  split
  · rw [Device.ch_setCh _ _ _ (by exact h)]
    exact ⟨rfl, rfl, rfl, rfl, rfl, rfl, fun _ => rfl⟩
  · exact ⟨rfl, rfl, rfl, rfl, rfl, rfl, fun _ => rfl⟩

/-- R230, R231: what a stamp leaves of its channel, and what its FIFO takes. -/
theorem Device.deliverStamp_obeys (c : Capture) (hn : n < 24) (h : n < d.tdc.chans.length) : let t := d.deliverStamp n c
    t.clock = d.clock ∧ (t.ch n).caps = (d.ch n).caps ∧ t.tdc.served = d.tdc.served ∧ t.tdc.pathFree = d.tdc.pathFree
      ∧ t.nat (K.chStamps n) = d.nat (K.chStamps n)
      ∧ (d.chMode n = 1 → d.num (K.chFifoEn n) = 1 →
          ((d.ch n).fifo.length < 256 → ∃ flags, (t.ch n).fifo = (d.ch n).fifo ++ [tdcRecord (d.stampOf n c) 0 c.count flags c.tstate]
            ∧ bit flags 0 = !c.rootOk ∧ bit flags 1 = (d.ch n).dropped ∧ bit flags 3 = c.falling)
          ∧ (256 ≤ (d.ch n).fifo.length → (t.ch n).fifo = (d.ch n).fifo ∧ (t.ch n).dropped = true
            ∧ (d.nat (K.chOverflow n) < 2 ^ 32 - 1 → t.nat (K.chOverflow n) = d.nat (K.chOverflow n) + 1))) := by
  intro t
  have ht : t = _ := d.deliverStamp_eq c
  clear_value t
  generalize hd1 : (if d.chMode n = 1 then d.pushRecord n c 0 0 else d) = d1 at ht
  obtain ⟨p1, p2, p3, p4, p5, p6⟩ : d1.clock = d.clock ∧ (d1.ch n).caps = (d.ch n).caps ∧ d1.tdc.served = d.tdc.served ∧ d1.tdc.pathFree = d.tdc.pathFree
      ∧ d1.tdc.chans.length = d.tdc.chans.length ∧ ∀ k, k ≠ K.chOverflow n → d1.val k = d.val k := by
    rw [← hd1]
    split
    · exact d.pushRecord_frame c 0 0 h
    · exact ⟨rfl, rfl, rfl, rfl, rfl, fun _ _ => rfl⟩
  obtain ⟨g1, g2, g3, g4, g5, g6, g7⟩ := d.stampGated_frame d1 c (n := n) (by rw [p5]; exact h)
  have hs := d.stampSent_frame (n := n) (d1.stampGated d n c) c
  rw [← ht] at hs
  have htdc : t.tdc = (d1.stampGated d n c).tdc := congrArg (fun x => x.1.tdc) hs
  have hch : t.ch n = (d1.stampGated d n c).ch n := by rw [Device.ch, htdc, Device.ch]
  have hkeys : stampKey (K.chStamps n) = false ∧ stampKey (K.chOverflow n) = false ∧ K.chStamps n ≠ K.chOverflow n := by
    simp [stampKey, K.chStamps, K.chOverflow, K.skyPpsMismatch, K.outPlaceErr]
    omega
  obtain ⟨k1, k2, k3⟩ := hkeys
  have hnat : ∀ k, stampKey k = false → t.nat k = d1.nat k := fun k hk => congrArg (fun v => v.int.toNat) ((val_of_beside hs hk).trans (g7 k))
  refine ⟨((congrArg (fun x => x.1.clock) hs).trans g1).trans p1, by rw [hch, g2, p2], by rw [htdc, g5, p3], by rw [htdc, g6, p4],
    (hnat _ k1).trans (congrArg (fun v => v.int.toNat) (p6 _ k3)), fun hmode hf => ⟨fun hroom => ?_, fun hfull => ?_⟩⟩
  · rw [if_pos hmode] at hd1
    rw [hch, g3, ← hd1]
    exact d.pushRecord_room c hf hroom h
  · rw [if_pos hmode] at hd1
    rw [hch, g3, g4, hnat _ k2, ← hd1]
    exact d.pushRecord_full c hf hfull h

/-- R227: channel n's oldest capture has been taken from its queue, with its conversion begun. -/
def Device.captureTaken (d : Device) (n free : Nat) (rest : List Capture) : Device :=
  let d1 := (d.bump64 (K.chStamps n)).setCh n (fun x => { x with caps := rest })
  { d1 with tdc := { d1.tdc with converted := d1.tdc.converted + 1, served := n, pathFree := free } }

theorem Device.convert_idle (h : d.clock.mtRun = false ∨ d.nextServed ≠ some n) : d.convert n = d :=
  if_neg (by
    simp only [Bool.and_eq_true, decide_eq_true_eq, not_and]
    obtain h | h := h
    · exact fun h' => absurd (h ▸ h') Bool.false_ne_true
    · exact fun _ => h)

theorem Device.convert_eq {c : Capture} {rest : List Capture} (hr : d.clock.mtRun = true) (hs : d.nextServed = some n) (hc : (d.ch n).caps = c :: rest) :
    d.convert n = ((d.runTo (ceilDiv d.tdc.pathFree 800)).captureTaken n (max d.tdc.pathFree c.ps + 50000) rest).deliverStamp n c := by
  unfold Device.convert
  rw [if_pos (by simp [hr, hs]), Device.convertOf, hc]
  rfl

/-- The capture's taking changes of the objects only the count of stamps. -/
theorem Device.captureTaken_frame (free : Nat) (rest : List Capture) (h : n < d.tdc.chans.length) : let t := d.captureTaken n free rest
    t.clock = d.clock ∧ t.ch n = { d.ch n with caps := rest } ∧ t.tdc.served = n ∧ t.tdc.pathFree = free ∧ t.tdc.chans.length = d.tdc.chans.length
      ∧ (d.nat (K.chStamps n) < 2 ^ 64 - 1 → t.nat (K.chStamps n) = d.nat (K.chStamps n) + 1) ∧ ∀ k, k ≠ K.chStamps n → t.val k = d.val k :=
  ⟨rfl, (d.bump64 (K.chStamps n)).ch_setCh n _ h, rfl, rfl, length_updAt _ _ _, fun h => d.nat_bumpBy 8 _ 1 (by omega), fun k hk => d.val_setVal_ne _ hk⟩

/-- The channel's use, mode and stamp are those that its settings give. -/
theorem channel_of_nums {d e : Device} (c : Capture) (h : ∀ k, k ≠ K.chStamps n → e.val k = d.val k) (hn : n < 24) :
    e.chMode n = d.chMode n ∧ e.num (K.chFifoEn n) = d.num (K.chFifoEn n) ∧ e.stampOf n c = d.stampOf n c ∧ e.nat (K.chOverflow n) = d.nat (K.chOverflow n) := by
  have hnum : ∀ k, k ≠ K.chStamps n → e.num k = d.num k := fun k hk => congrArg Val.int (h k hk)
  have hnat : ∀ k, k ≠ K.chStamps n → e.nat k = d.nat k := fun k hk => congrArg Int.toNat (hnum k hk)
  have hlow : ∀ k, k < K.chStamps 0 → k ≠ K.chStamps n := fun k hk => by
    simp only [K.chStamps] at hk ⊢
    omega
  have huse : e.chInUse n = d.chInUse n := by
    have hrefin : ∀ i, i < 4 → refinUsed e.num i = refinUsed d.num i := fun i hi => by
      have hk : ∀ j < 5, K.thermRefEnable j < K.chStamps 0 ∧ K.refinPair j < K.chStamps 0 := by decide
      simp only [refinUsed, hnum _ (hlow _ (hk (i + 1) (by omega)).1), hnum _ (hlow _ (hk (i - 1) (by omega)).2), hnum _ (hlow _ (hk i (by omega)).1)]
    unfold Device.chInUse
    split
    · rfl
    · by_cases hb : 16 ≤ n ∧ n < 20
      · rw [hrefin (n - 16) (by omega)]
      · have : (Decidable.decide (16 ≤ n) && Decidable.decide (n < 20)) = false := by simpa using hb
        rw [this]
        rfl
  have hkeys : K.chMode n ≠ K.chStamps n ∧ K.chFifoEn n ≠ K.chStamps n ∧ K.chDelay n ≠ K.chStamps n ∧ K.chOverflow n ≠ K.chStamps n := by
    simp only [K.chMode, K.chFifoEn, K.chDelay, K.chOverflow, K.chStamps]
    omega
  obtain ⟨k1, k2, k3, k4⟩ := hkeys
  refine ⟨?_, hnum _ k2, ?_, hnat _ k4⟩
  · rw [Device.chMode, huse, hnat _ k1, Device.chMode]
  · rw [Device.stampOf, huse, hnum _ k3, Device.stampOf]

/-- R227, R230: what the conversion of a capture at this tick leaves. -/
theorem Device.conversion_obeys (free : Nat) (c : Capture) (rest : List Capture) (hn : n < 24) (h : n < d.tdc.chans.length) :
    let t := (d.captureTaken n free rest).deliverStamp n c
    t.clock = d.clock ∧ (t.ch n).caps = rest ∧ t.tdc.served = n ∧ t.tdc.pathFree = free
      ∧ (d.nat (K.chStamps n) < 2 ^ 64 - 1 → t.nat (K.chStamps n) = d.nat (K.chStamps n) + 1)
      ∧ (d.chMode n = 1 → d.num (K.chFifoEn n) = 1 →
          ((d.ch n).fifo.length < 256 → ∃ flags, (t.ch n).fifo = (d.ch n).fifo ++ [tdcRecord (d.stampOf n c) 0 c.count flags c.tstate]
            ∧ bit flags 0 = !c.rootOk ∧ bit flags 1 = (d.ch n).dropped ∧ bit flags 3 = c.falling)
          ∧ (256 ≤ (d.ch n).fifo.length → (t.ch n).fifo = (d.ch n).fifo ∧ (t.ch n).dropped = true
            ∧ (d.nat (K.chOverflow n) < 2 ^ 32 - 1 → t.nat (K.chOverflow n) = d.nat (K.chOverflow n) + 1))) := by
  intro t
  obtain ⟨h1, h2, h3, h4, h5, h6, h7⟩ := d.captureTaken_frame free rest h
  obtain ⟨c1, c2, c3, c4⟩ := channel_of_nums c h7 hn
  obtain ⟨t1, t2, t3, t4, t5, t6⟩ := (d.captureTaken n free rest).deliverStamp_obeys c hn (by rw [h5]; exact h)
  rw [h2, c1, c2, c3, c4] at t6
  rw [h2] at t2
  exact ⟨t1.trans h1, t2, t3.trans h3, t4.trans h4, fun h => t5.trans (h6 h), t6⟩

end

end Sys2Proof.Machine
end

section
/-! Chapter 8: calibration and the second's demand, and the obligation on edges (R234 to R236, R253). -/

namespace Sys2Proof.Machine

section
variable (d : Device) {n : Nat}

@[simp] theorem Device.entries_setCh (n : Nat) (f : TdcChannel → TdcChannel) : (d.setCh n f).entries = d.entries := (rfl)

/-! ## Swaps (R234, R236) -/

/-- R234, R236: the idle interpolator of channel n swaps in with its table kept or rejected. -/
def Device.swapTaken (d : Device) (n : Nat) (bins : List Nat) : Device :=
  (d.bump K.tdcCalCount).setCh n (fun x => { x with
    lastSwap := d.clock.ticks, rejects := if tableBad bins then (d.ch n).rejects + 1 else 0, measuring := 1 - (d.ch n).measuring
    tables := if tableBad bins then x.tables else x.tables.set (1 - (d.ch n).measuring) bins
    trims := x.trims.set (d.ch n).measuring (d.nat K.tdcTrim) })

/-- The swap at this tick. -/
def Device.swapNow (d : Device) (n : Nat) (bins : List Nat) : Device :=
  if tableBad bins then (d.swapTaken n bins).report 0x0603 [n, (1 - (d.ch n).measuring : Nat), (d.ch n).rejects + 1] else d.swapTaken n bins

theorem Device.calSwap_idle (bins : List Nat) (h : d.nat K.tdcCalState ≠ 2 ∨ d.clock.mtRun = false) : d.calSwap n bins = d := by
  refine if_pos ?_
  simp only [Bool.or_eq_true, decide_eq_true_eq, Bool.not_eq_true']
  exact h.elim (fun h => .inl (.inl h)) .inr

theorem Device.calSwap_eq (bins : List Nat) (h2 : d.nat K.tdcCalState = 2) (hn : n < 24) (hr : d.clock.mtRun = true) :
    d.calSwap n bins = (d.runTo ((d.ch n).lastSwap + sTicks)).swapNow n bins := by
  refine if_neg ?_
  simp only [Bool.or_eq_true, decide_eq_true_eq, Bool.not_eq_true', h2, hr, not_true, not_false_eq_true, ne_eq, Bool.true_eq_false, or_false, false_or]
  omega

theorem Device.swapNow_obeys (bins : List Nat) (h : n < d.tdc.chans.length) (hc : d.nat K.tdcCalCount < 2 ^ 32 - 1) : let t := d.swapNow n bins
    let idle := 1 - (d.ch n).measuring
    let bad := tableBad bins
    t.clock = d.clock ∧ t.nat K.tdcCalCount = d.nat K.tdcCalCount + 1 ∧ (t.ch n).measuring = idle
      ∧ (t.ch n).rejects = (if bad then (d.ch n).rejects + 1 else 0)
      ∧ (t.ch n).tables = (if bad then (d.ch n).tables else (d.ch n).tables.set idle bins)
      ∧ newReports d t = (if bad then [(0x0603, [(n : Int), (idle : Int), ((d.ch n).rejects + 1 : Nat)])] else [])
      ∧ ∀ k, k ≠ K.tdcCalCount → t.val k = d.val k := by
  intro t idle bad
  have hch : (d.swapTaken n bins).ch n = _ := (d.bump K.tdcCalCount).ch_setCh n _ h
  have hcount : (d.swapTaken n bins).nat K.tdcCalCount = d.nat K.tdcCalCount + 1 := d.nat_bumpBy 4 _ 1 (by omega)
  have hval : ∀ k, k ≠ K.tdcCalCount → (d.swapTaken n bins).val k = d.val k := fun k hk => d.val_setVal_ne _ hk
  have he : (d.swapTaken n bins).entries = d.entries := rfl
  have hclock : (d.swapTaken n bins).clock = d.clock := rfl
  by_cases hb : tableBad bins = true
  · have ht : t = (d.swapTaken n bins).report 0x0603 [n, (1 - (d.ch n).measuring : Nat), (d.ch n).rejects + 1] := if_pos hb
    have hch' : t.ch n = (d.swapTaken n bins).ch n := by rw [ht]; rfl
    have hent : t.entries = d.entries ++ [(0x0603, [(n : Int), (idle : Int), ((d.ch n).rejects + 1 : Nat)])] := by
      rw [ht, Device.entries_report, he]
      rfl
    rw [hch', hch, newReports_of_entries hent, ht]
    exact ⟨hclock, hcount, rfl, rfl, rfl, (if_pos hb).symm, hval⟩
  · have ht : t = d.swapTaken n bins := if_neg hb
    rw [ht, hch, newReports_of_entries (he.trans (List.append_nil _).symm)]
    exact ⟨hclock, hcount, rfl, rfl, rfl, (if_neg hb).symm, hval⟩

/-! ## The first calibration (R235, R236) -/

/-- R236: the tables of an interpolator after its first calibration. -/
def firstTables (n i : Nat) (tables : List (List Nat)) : List (List Nat) :=
  if tableBad (Config.firstBins n i) then tables else tables.set i (Config.firstBins n i)

/-- R236: channel n after the first calibration of its interpolator i. -/
def TdcChannel.firstCalibrated (x : TdcChannel) (n i : Nat) : TdcChannel :=
  { x with rejects := if tableBad (Config.firstBins n i) then x.rejects + 1 else 0, tables := firstTables n i x.tables }

/-- R236: channel n of a first calibration at a tick, with its trims and tables. -/
def TdcChannel.calibrated (x : TdcChannel) (n tick trim rejects : Nat) : TdcChannel :=
  { x with lastSwap := tick, trims := [trim, trim], tables := firstTables n 1 (firstTables n 0 x.tables), rejects := rejects }

theorem Device.firstTable_frame (i : Nat) (h : n < d.tdc.chans.length) : let t := d.firstTable n i
    t.clock = d.clock ∧ t.tdc.chans.length = d.tdc.chans.length ∧ (∀ k, t.val k = d.val k)
      ∧ t.ch n = { d.ch n with tables := firstTables n i (d.ch n).tables, rejects := (t.ch n).rejects } ∧ (∀ m, m ≠ n → t.ch m = d.ch m) ∧ d.Adds t
      ∧ (tableBad (Config.firstBins n i) = true → ∃ r ∈ t.attic.reports, r.code = 0x0603 ∧ r.p.take 2 = [(n : Int), (i : Int)]) := by
  intro t
  generalize hd1 : d.setCh n (fun x => x.firstCalibrated n i) = d1
  have ht : t = if tableBad (Config.firstBins n i) then d1.report 0x0603 [n, i, (d1.ch n).rejects] else d1 := by rw [← hd1]; rfl
  have hch : d1.ch n = { d.ch n with tables := firstTables n i (d.ch n).tables, rejects := (d1.ch n).rejects } := by
    rw [← hd1, Device.ch_setCh _ _ _ h]
    rfl
  have hne : ∀ m, m ≠ n → d1.ch m = d.ch m := fun m hm => by rw [← hd1, Device.ch_setCh_ne _ _ hm]
  have hlen : d1.tdc.chans.length = d.tdc.chans.length := by rw [← hd1]; exact length_updAt _ _ _
  have hval : ∀ k, d1.val k = d.val k := fun k => by rw [← hd1]; rfl
  have hclock : d1.clock = d.clock := by rw [← hd1]; rfl
  have hadds : d.Adds d1 := Device.adds_of_attic (by rw [← hd1]; rfl)
  by_cases hb : tableBad (Config.firstBins n i) = true
  · have ht : t = d1.report 0x0603 [n, i, (d1.ch n).rejects] := ht.trans (if_pos hb)
    have hcht : ∀ m, t.ch m = d1.ch m := fun m => by rw [ht]; rfl
    refine ⟨by rw [ht]; exact hclock, by rw [ht]; exact hlen, fun k => by rw [ht]; exact hval k, by rw [hcht]; exact hch, fun m hm => by rw [hcht]; exact hne m hm,
      by rw [ht]; exact hadds.report _ _, fun _ => ?_⟩
    obtain ⟨r, hr, hcode, hp⟩ := (Device.adds_refl t).mem (code := 0x0603) (p := [n, i, (d1.ch n).rejects]) (by
      rw [ht, Device.entries_report]
      exact List.mem_append_right _ List.mem_cons_self)
    exact ⟨r, hr, hcode, by rw [hp]; rfl⟩
  · have ht : t = d1 := ht.trans (if_neg hb)
    rw [ht]
    exact ⟨hclock, hlen, hval, hch, hne, hadds, fun h => absurd h hb⟩

/-- Both interpolators of channel n have calibrated. -/
def Device.calChannel (d : Device) (n : Nat) : Device := (d.firstTable n 0).firstTable n 1

theorem Device.calChannel_frame (h : n < d.tdc.chans.length) : let t := d.calChannel n
    t.clock = d.clock ∧ t.tdc.chans.length = d.tdc.chans.length ∧ (∀ k, t.val k = d.val k)
      ∧ t.ch n = { d.ch n with tables := firstTables n 1 (firstTables n 0 (d.ch n).tables), rejects := (t.ch n).rejects } ∧ (∀ m, m ≠ n → t.ch m = d.ch m)
      ∧ d.Adds t ∧ ∀ i, i < 2 → tableBad (Config.firstBins n i) = true → ∃ r ∈ t.attic.reports, r.code = 0x0603 ∧ r.p.take 2 = [(n : Int), (i : Int)] := by
  intro t
  obtain ⟨a1, a2, a3, a4, a5, a6, a7⟩ := d.firstTable_frame 0 h
  obtain ⟨b1, b2, b3, b4, b5, b6, b7⟩ := (d.firstTable n 0).firstTable_frame 1 (n := n) (by rw [a2]; exact h)
  refine ⟨b1.trans a1, b2.trans a2, fun k => (b3 k).trans (a3 k), ?_, fun m hm => (b5 m hm).trans (a5 m hm), a6.trans b6, fun i hi hb => ?_⟩
  · have ht : t.ch n = _ := b4
    rw [a4] at ht
    exact ht
  · obtain rfl | rfl : i = 0 ∨ i = 1 := by omega
    · obtain ⟨r, hr, hcode, hp⟩ := a7 hb
      have hmem : (r.code, r.p) ∈ (d.firstTable n 0).entries := List.mem_map_of_mem hr
      obtain ⟨r', hr', hcode', hp'⟩ := b6.mem hmem
      exact ⟨r', hr', hcode'.trans hcode, by rw [hp', hp]⟩
    · exact b7 hb

/-- The channels of a list have calibrated: each as `calChannel` says, the others as they were. -/
theorem Device.calChannels_frame (l : List Nat) (hl : l.Nodup) (hlt : ∀ m ∈ l, m < d.tdc.chans.length) : let t := l.foldl Device.calChannel d
    t.clock = d.clock ∧ (∀ k, t.val k = d.val k) ∧ d.Adds t ∧ (∀ m, m ∉ l → t.ch m = d.ch m)
      ∧ (∀ m ∈ l, t.ch m = { d.ch m with tables := firstTables m 1 (firstTables m 0 (d.ch m).tables), rejects := (t.ch m).rejects })
      ∧ (∀ m ∈ l, ∀ i, i < 2 → tableBad (Config.firstBins m i) = true → ∃ r ∈ t.attic.reports, r.code = 0x0603 ∧ r.p.take 2 = [(m : Int), (i : Int)]) := by
  induction l generalizing d with
  | nil => exact ⟨rfl, fun _ => rfl, d.adds_refl, fun _ _ => rfl, fun _ h => absurd h List.not_mem_nil, fun _ h => absurd h List.not_mem_nil⟩
  | cons c l ih =>
    obtain ⟨hc, hl⟩ := List.nodup_cons.1 hl
    obtain ⟨a1, a2, a3, a4, a5, a6, a7⟩ := d.calChannel_frame (hlt c List.mem_cons_self)
    obtain ⟨b1, b2, b3, b4, b5, b6⟩ := ih (d.calChannel c) hl fun m hm => by
      rw [a2]
      exact hlt m (List.mem_cons_of_mem c hm)
    intro t
    refine ⟨b1.trans a1, fun k => (b2 k).trans (a3 k), a6.trans b3, fun m hm => ?_, fun m hm => ?_, fun m hm i hi hb => ?_⟩
    · obtain ⟨h1, h2⟩ := not_or.1 (mt List.mem_cons.2 hm)
      exact (b4 m h2).trans (a5 m h1)
    · obtain rfl | hm := List.mem_cons.1 hm
      · have ht : t.ch m = (d.calChannel m).ch m := b4 m hc
        rw [ht]
        exact a4
      · have hne : m ≠ c := fun h => hc (h ▸ hm)
        have h := b5 m hm
        rw [a5 m hne] at h
        exact h
    · obtain rfl | hm := List.mem_cons.1 hm
      · obtain ⟨r, hr, hcode, hp⟩ := a7 i hi hb
        have hmem : (r.code, r.p) ∈ (d.calChannel m).entries := List.mem_map_of_mem hr
        obtain ⟨r', hr', hcode', hp'⟩ := b3.mem hmem
        exact ⟨r', hr', hcode'.trans hcode, by rw [hp', hp]⟩
      · exact b6 m hm i hi hb

/-- R235: the swaps of every channel begin, trimmed. -/
def Device.calBegun (d : Device) : Device :=
  { d.setNum K.tdcCalState 2 with tdc := { d.tdc with chans := d.tdc.chans.map (fun c =>
      { c with lastSwap := d.clock.ticks, trims := [d.nat K.tdcTrim, d.nat K.tdcTrim] }) } }

theorem Device.calComplete_idle (h : d.nat K.tdcCalState ≠ 1) : d.calComplete = d := if_pos h
theorem Device.calComplete_eq (h : d.nat K.tdcCalState = 1) :
    d.calComplete = (List.range 24).foldl Device.calChannel (d.runTo (d.tdc.calFrom + Config.calTicks % (5 * msTicks + 1))).calBegun := if_neg (not_not.2 h)

theorem Device.calBegun_val (k : Nat) : d.calBegun.val k = (d.setNum K.tdcCalState 2).val k := rfl

theorem Device.calBegun_ch (h : n < d.tdc.chans.length) : d.calBegun.ch n =
    { d.ch n with lastSwap := d.clock.ticks, trims := [d.nat K.tdcTrim, d.nat K.tdcTrim] } := by
  simp [Device.ch, Device.calBegun, List.getD_eq_getElem?_getD, List.getElem?_eq_getElem h]

/-- R234 to R236: the first calibration at this tick. -/
theorem Device.calBegun_obeys (hl : d.tdc.chans.length = 24) : let t := (List.range 24).foldl Device.calChannel d.calBegun
    t.clock = d.clock ∧ t.nat K.tdcCalState = 2 ∧ (∀ k, k ≠ K.tdcCalState → t.val k = d.val k)
      ∧ ∀ n, n < 24 → t.ch n = (d.ch n).calibrated n d.clock.ticks (d.nat K.tdcTrim) (t.ch n).rejects
          ∧ ∀ i, i < 2 → tableBad (Config.firstBins n i) = true → ∃ r ∈ t.attic.reports, r.code = 0x0603 ∧ r.p.take 2 = [(n : Int), (i : Int)] := by
  have hlen : d.calBegun.tdc.chans.length = 24 := (List.length_map _).trans hl
  obtain ⟨h1, h2, h3, h4, h5, h6⟩ := d.calBegun.calChannels_frame (List.range 24) List.nodup_range fun m hm => by
    rw [hlen]
    exact List.mem_range.1 hm
  intro t
  refine ⟨h1, ?_, fun k hk => (h2 k).trans ((d.calBegun_val k).trans (d.val_setVal_ne _ hk)), fun n hn => ⟨?_, h6 n (List.mem_range.2 hn)⟩⟩
  · rw [Device.nat, Device.num, show t.val K.tdcCalState = _ from h2 _, d.calBegun_val]
    exact d.nat_setNum_self _ _
  · have h := h5 n (List.mem_range.2 hn)
    rw [d.calBegun_ch (by omega)] at h
    exact h

/-! ## The second's demand (R253) -/

/-- R253: the rate and its peak published. -/
def Device.demandShown (d : Device) : Device :=
  d.setNums [(K.tdcStampRate, d.tdc.converted), (K.tdcLoadPeak, max (d.nat K.tdcLoadPeak : Int) d.tdc.converted)]

/-- The end of an MT second's demand at this tick. -/
def Device.demandNow (d : Device) : Device :=
  let d2 := if 20000000 < d.tdc.demand then d.demandShown.report 0x0605 [d.tdc.demand, d.demandShown.num K.tdcLoadPeak] else d.demandShown
  { d2 with tdc := { d2.tdc with converted := 0, demand := 0 } }

theorem Device.stampDemand_idle (h : d.clock.mtRun = false) : d.stampDemand = d := if_pos (by simp [h])
theorem Device.stampDemand_eq (h : d.clock.mtRun = true) : d.stampDemand = (d.runToMt ((d.clock.mt / secU + 1) * secU)).demandNow := by
  unfold Device.stampDemand
  rw [if_neg (by simp [h])]
  rfl

theorem Device.demandNow_obeys : let t := d.demandNow
    t.clock = d.clock ∧ t.nat K.tdcStampRate = d.tdc.converted ∧ t.nat K.tdcLoadPeak = max (d.nat K.tdcLoadPeak) d.tdc.converted
      ∧ t.tdc = { d.tdc with converted := 0, demand := 0 }
      ∧ newReports d t = (if 20000000 < d.tdc.demand
          then [(0x0605, [(d.tdc.demand : Int), (max (d.nat K.tdcLoadPeak) d.tdc.converted : Nat)])] else []) := by
  have hrate : d.demandShown.nat K.tdcStampRate = d.tdc.converted := by
    rw [Device.demandShown, Device.setNums, Device.setNums, Device.setNums, Device.nat_setNum, if_neg (by decide), Device.nat_setNum_self, Int.toNat_natCast]
  have hpeak : d.demandShown.num K.tdcLoadPeak = (max (d.nat K.tdcLoadPeak) d.tdc.converted : Nat) := by
    rw [Device.demandShown, Device.setNums, Device.setNums, Device.setNums, Device.num_setNum_self, Nat.cast_max]
  have hpeakn : d.demandShown.nat K.tdcLoadPeak = max (d.nat K.tdcLoadPeak) d.tdc.converted := by rw [Device.nat, hpeak, Int.toNat_natCast]
  intro t
  have hobj : t.obj = d.demandShown.obj := by
    show (Device.demandNow d).obj = _
    unfold Device.demandNow
    dsimp only
    split <;> rfl
  have htdc : t.tdc = { d.tdc with converted := 0, demand := 0 } := by
    show (Device.demandNow d).tdc = _
    unfold Device.demandNow
    dsimp only
    split <;> rfl
  have hclock : t.clock = d.clock := by
    show (Device.demandNow d).clock = _
    unfold Device.demandNow
    dsimp only
    split <;> rfl
  refine ⟨hclock, (nat_of_obj hobj _).trans hrate, (nat_of_obj hobj _).trans hpeakn, htdc, ?_⟩
  by_cases hd : 20000000 < d.tdc.demand
  · rw [if_pos hd]
    refine newReports_of_entries ?_
    have hent : t.entries = (if 20000000 < d.tdc.demand then d.demandShown.report 0x0605 [d.tdc.demand, d.demandShown.num K.tdcLoadPeak]
      else d.demandShown).entries := rfl
    rw [hent, if_pos hd, Device.entries_report, hpeak]
    rfl
  · rw [if_neg hd]
    refine newReports_of_entries ?_
    have hent : t.entries = (if 20000000 < d.tdc.demand then d.demandShown.report 0x0605 [d.tdc.demand, d.demandShown.num K.tdcLoadPeak]
      else d.demandShown).entries := rfl
    rw [hent, if_neg hd]
    exact (List.append_nil _).symm

end

/-- Settles O39: an edge by its channel's frame, a conversion, a swap, the first calibration and a second's demand by what each does at its tick. -/
theorem edgesBecomeStamps : Obligations.EdgesBecomeStamps := by
  refine ⟨fun s n falling wait fine => ?_, fun d n e hn hl ho hm => d.takeEdge_obeys e hn hl ho hm, fun s n hn hl => ⟨fun h => ?_, fun c rest hr hs hc => ?_⟩,
    fun s n bins hn hl => ⟨fun h => ?_, fun h2 hr hc => ?_⟩, fun s => ⟨fun h => ?_, fun h1 hl => ?_⟩, fun s => ⟨fun h => ?_, fun hr => ?_⟩⟩
  · intro d e
    refine ⟨fun h => ?_, fun hr hn => ⟨?_, rfl, rfl, rfl, rfl, rfl⟩, fun hr hn hn' hp => ?_, fun e0 rest hr hn hn' hp => ?_⟩
    · rw [exec_edgeInput, State.on, s.dev.edgeInput_idle falling wait fine h]
    · rw [exec_edgeInput, State.on, s.dev.edgeInput_pin falling wait fine hr hn]
      rfl
    · rw [exec_edgeInput, State.on, s.dev.edgeInput_noPad falling wait fine hr hn hn' hp]
    · rw [exec_edgeInput, State.on, s.dev.edgeInput_pad falling wait fine hr hn hn' hp]
  · rw [exec_stampConversion, State.on, s.dev.convert_idle h]
  · intro d
    have hexec := exec_stampConversion s n
    rw [State.on, s.dev.convert_eq hr hs hc] at hexec
    have hval : ∀ k, d.val k = s.dev.val k := Device.runTo_val _ _
    have htdc : d.tdc = s.dev.tdc := Device.runTo_tdc _ _
    have hd : d = s.dev.runTo (ceilDiv s.dev.tdc.pathFree 800) := rfl
    rw [← hd] at hexec
    clear_value d
    have hch : d.ch n = s.dev.ch n := by rw [Device.ch, htdc, Device.ch]
    have hnat : d.nat (K.chStamps n) = s.dev.nat (K.chStamps n) := congrArg (fun v => v.int.toNat) (hval _)
    obtain ⟨c1, c2, c3, c4⟩ := channel_of_nums c (fun k _ => hval k) hn
    obtain ⟨t1, t2, t3, t4, t5, t6⟩ := d.conversion_obeys (max s.dev.tdc.pathFree c.ps + 50000) c rest hn (by rw [htdc]; omega)
    rw [hch, c1, c2, c3, c4] at t6
    rw [hnat] at t5
    exact ⟨_, hexec, rfl, t1, t2, t3, t4, t5, t6⟩
  · rw [exec_tdcCalSwap, State.on, s.dev.calSwap_idle bins h]
  · intro idle bad
    have hexec := exec_tdcCalSwap s n bins
    rw [State.on, s.dev.calSwap_eq bins h2 hn hr] at hexec
    generalize (s.dev.ch n).lastSwap + sTicks = tick at hexec ⊢
    have htdc : (s.dev.runTo tick).tdc = s.dev.tdc := Device.runTo_tdc _ _
    have hch : (s.dev.runTo tick).ch n = s.dev.ch n := by rw [Device.ch, htdc, Device.ch]
    have hnat : (s.dev.runTo tick).nat K.tdcCalCount = s.dev.nat K.tdcCalCount := Device.runTo_nat _ _ _
    have hval : ∀ k, (s.dev.runTo tick).val k = s.dev.val k := Device.runTo_val _ _
    have hrep : ∀ t, newReports (s.dev.runTo tick) t = newReports s.dev t := newReports_runTo _ _
    generalize s.dev.runTo tick = e at hexec htdc hch hnat hval hrep ⊢
    obtain ⟨t1, t2, t3, t4, t5, t6, t7⟩ := e.swapNow_obeys bins (n := n) (by rw [htdc]; omega) (by rw [hnat]; exact hc)
    rw [hch] at t3 t4 t5 t6
    rw [hnat] at t2
    rw [hrep] at t6
    exact ⟨_, hexec, rfl, t1, t2, t3, t4, t5, t6, fun k hk => (t7 k hk).trans (hval k)⟩
  · rw [exec_tdcCalComplete, State.on, s.dev.calComplete_idle h]
  · intro d first
    have hexec := exec_tdcCalComplete s
    rw [State.on, s.dev.calComplete_eq h1] at hexec
    have hd : d = s.dev.runTo (s.dev.tdc.calFrom + Config.calTicks % (5 * msTicks + 1)) := rfl
    have hval : ∀ k, d.val k = s.dev.val k := Device.runTo_val _ _
    have htdc : d.tdc = s.dev.tdc := Device.runTo_tdc _ _
    rw [← hd] at hexec
    clear_value d
    have hch : ∀ n, d.ch n = s.dev.ch n := fun n => by rw [Device.ch, htdc, Device.ch]
    have hnat : d.nat K.tdcTrim = s.dev.nat K.tdcTrim := congrArg (fun v => v.int.toNat) (hval _)
    obtain ⟨t1, t2, t3, t4⟩ := d.calBegun_obeys (by rw [htdc]; exact hl)
    generalize (List.range 24).foldl Device.calChannel d.calBegun = t at hexec t1 t2 t3 t4
    simp only [hch, hnat] at t4
    exact ⟨_, hexec, rfl, t1, t2, fun k hk => (t3 k hk).trans (hval k), t4⟩
  · rw [exec_aggregateStampDemand, State.on, s.dev.stampDemand_idle h]
  · have hexec := exec_aggregateStampDemand s
    rw [State.on, s.dev.stampDemand_eq hr] at hexec
    generalize (s.dev.clock.mt / secU + 1) * secU = target at hexec ⊢
    have hnat : (s.dev.runToMt target).nat K.tdcLoadPeak = s.dev.nat K.tdcLoadPeak := Device.runToMt_nat _ _ _
    have htdc : (s.dev.runToMt target).tdc = s.dev.tdc := Device.runToMt_tdc _ _
    have hrep : ∀ t, newReports (s.dev.runToMt target) t = newReports s.dev t := fun t => by rw [newReports, newReports, Device.runToMt_attic]
    generalize s.dev.runToMt target = e at hexec hnat htdc hrep ⊢
    obtain ⟨t1, t2, t3, t4, t5⟩ := e.demandNow_obeys
    rw [htdc] at t2 t3 t4 t5
    rw [hnat] at t3 t5
    rw [hrep] at t5
    exact ⟨_, hexec, rfl, t1, t2, t3, t4, t5⟩

end Sys2Proof.Machine
end

section
/-! Chapter 8: stop edges, interval timeouts, regression gates and FIFO reads, and the obligation on them (R232, R238, R239, R243 to R247). -/

namespace Sys2Proof.Machine

section
variable (d : Device) {n : Nat}

/-! ## Intervals (R238, R239) -/

/-- The flags of an interval's record (Table 8-2) are those that it adds. -/
theorem recordFlags_extra (p q r s x : Prop) [Decidable p] [Decidable q] [Decidable r] [Decidable s] [Decidable x] {extra : Nat}
    (he : extra = 16 ∨ extra = 80 ∨ extra = 32) :
    let flags := (if p then 0 else 1) + (if q then 2 else 0) + (if s then 4 else 0) + (if r then 8 else 0) + extra + (if x then 128 else 0)
    bit flags 4 = bit extra 4 ∧ bit flags 5 = bit extra 5 ∧ bit flags 6 = bit extra 6 := by
  have hlow : (if p then 0 else 1) + (if q then 2 else 0) + (if s then 4 else 0) + (if r then 8 else 0) < 16 := by
    split <;> split <;> split <;> split <;> omega
  have hhigh : (if x then 128 else 0) = 0 ∨ (if x then 128 else 0) = 128 := by
    split <;> omega
  generalize (if p then 0 else 1) + (if q then 2 else 0) + (if s then 4 else 0) + (if r then 8 else 0) = low at hlow ⊢
  generalize (if x then 128 else 0) = high at hhigh ⊢
  obtain rfl | rfl | rfl := he <;> obtain rfl | rfl := hhigh <;> simp [bit] <;> omega

/-- R230, R239: an open FIFO with room takes the record of an interval, with the flags it adds. -/
theorem Device.pushRecord_interval (c : Capture) (interval : Int) {extra : Nat} (he : extra = 16 ∨ extra = 80 ∨ extra = 32)
    (hf : d.num (K.chFifoEn n) = 1) (hr : (d.ch n).fifo.length < 256) (h : n < d.tdc.chans.length) :
    ∃ flags, ((d.pushRecord n c interval extra).ch n).fifo = (d.ch n).fifo ++ [tdcRecord (d.stampOf n c) interval c.count flags c.tstate]
      ∧ bit flags 4 = bit extra 4 ∧ bit flags 5 = bit extra 5 ∧ bit flags 6 = bit extra 6 := by
  unfold Device.pushRecord
  dsimp only
  rw [if_neg (not_not.2 hf), if_neg (Nat.not_le.2 hr), Device.ch_setCh _ _ _ (by exact h)]
  exact ⟨_, rfl, recordFlags_extra (c.rootOk = true) ((d.ch n).dropped = true) (c.falling = true) (d.nat K.mtStepCount ≠ (d.ch n).stepsSeen)
    (3 ≤ (d.ch n).rejects) he⟩

/-- A record of a channel leaves every other channel. -/
theorem Device.pushRecord_ch_ne (c : Capture) (interval : Int) (extra : Nat) {m : Nat} (h : m ≠ n) : (d.pushRecord n c interval extra).ch m = d.ch m := by
  unfold Device.pushRecord
  split
  · rfl
  · dsimp only
    split
    · split
      · exact Device.ch_setCh_ne _ _ h
      · exact Device.ch_setCh_ne _ _ h
    · exact Device.ch_setCh_ne _ _ h

/-- R239: the interval of channel n ends with a record. -/
def Device.intervalEnded (d : Device) (n : Nat) (st : Capture) (interval : Int) (extra : Nat) : Device :=
  (d.pushRecord n st interval extra).setCh n (fun x => { x with opened := none })

theorem Device.intervalEnded_obeys (st : Capture) (interval : Int) {extra : Nat} (he : extra = 16 ∨ extra = 80 ∨ extra = 32) (h : n < d.tdc.chans.length) :
    let t := d.intervalEnded n st interval extra
    t.clock = d.clock ∧ (t.ch n).opened = none
      ∧ (d.num (K.chFifoEn n) = 1 → (d.ch n).fifo.length < 256 → ∃ flags,
          (t.ch n).fifo = (d.ch n).fifo ++ [tdcRecord (d.stampOf n st) interval st.count flags st.tstate]
          ∧ bit flags 4 = bit extra 4 ∧ bit flags 5 = bit extra 5 ∧ bit flags 6 = bit extra 6)
      ∧ ∀ m, m ≠ n → t.ch m = d.ch m := by
  obtain ⟨h1, _, _, _, h5, _⟩ := d.pushRecord_frame st interval extra h
  have hch : (d.intervalEnded n st interval extra).ch n = { (d.pushRecord n st interval extra).ch n with opened := none } :=
    Device.ch_setCh _ _ _ (by rw [h5]; exact h)
  dsimp only
  rw [hch]
  exact ⟨h1, rfl, fun hf hr => d.pushRecord_interval st interval he hf hr h,
    fun m hm => ((d.pushRecord n st interval extra).ch_setCh_ne _ hm).trans (d.pushRecord_ch_ne st interval extra hm)⟩

/-- R238: whether the edge at root time `ps` comes after the window of the interval that `st` began. -/
def Device.windowPast (d : Device) (m : Nat) (st : Capture) (ps : Nat) : Prop := st.ps + d.nat (K.chWinOpen m) + d.nat (K.chWinWidth m) < ps

theorem Device.offerStop_late {m src ps : Nat} {st : Capture} (ho : (d.ch m).opened = some st)
    (h : ps < st.ps + d.nat (K.chWinOpen m) ∨ st.ps + d.nat (K.chTimeout m) < ps) : d.offerStop src ps m = d := by
  have hs : d.isStop m st ps = false := by
    simp only [Device.isStop, Bool.and_eq_false_iff, decide_eq_false_iff_not]
    omega
  rw [Device.offerStop, ho]
  simp [hs]

theorem Device.offerStop_in {m src ps : Nat} {st : Capture} (ho : (d.ch m).opened = some st) (hm : d.chMode m = 2) (hsrc : d.nat (K.chStopSrc m) = src)
    (h1 : st.ps + d.nat (K.chWinOpen m) ≤ ps) (h2 : ps ≤ st.ps + d.nat (K.chTimeout m)) :
    d.offerStop src ps m = d.intervalEnded m st (((ps : Int) - st.ps) * 65536 / 1000)
      (16 + if st.ps + d.nat (K.chWinOpen m) + d.nat (K.chWinWidth m) < ps then 64 else 0) := by
  have hs : d.isStop m st ps = true := by
    simp only [Device.isStop, Bool.and_eq_true, decide_eq_true_eq]
    exact ⟨h1, h2⟩
  rw [Device.offerStop, ho]
  simp only [hm, hsrc, hs, decide_true, Bool.and_self, if_true]
  rfl

/-- R238, R239: what a stop edge leaves of the interval. -/
theorem Device.offerStop_obeys {m src ps : Nat} {st : Capture} (ho : (d.ch m).opened = some st) (hm : d.chMode m = 2) (hsrc : d.nat (K.chStopSrc m) = src)
    (hf : d.num (K.chFifoEn m) = 1) (hr : (d.ch m).fifo.length < 256) (hl : m < d.tdc.chans.length)
    (h1 : st.ps + d.nat (K.chWinOpen m) ≤ ps) (h2 : ps ≤ st.ps + d.nat (K.chTimeout m)) :
    ((d.offerStop src ps m).ch m).opened = none ∧ ∃ flags, ((d.offerStop src ps m).ch m).fifo = (d.ch m).fifo ++
        [tdcRecord (d.stampOf m st) (((ps : Int) - st.ps) * 65536 / 1000) st.count flags st.tstate]
      ∧ bit flags 4 = true ∧ bit flags 5 = false
      ∧ (bit flags 6 = true ↔ st.ps + d.nat (K.chWinOpen m) + d.nat (K.chWinWidth m) < ps) := by
  rw [d.offerStop_in ho hm hsrc h1 h2]
  by_cases hw : st.ps + d.nat (K.chWinOpen m) + d.nat (K.chWinWidth m) < ps
  · rw [if_pos hw]
    obtain ⟨_, e2, e3, _⟩ := d.intervalEnded_obeys (n := m) st (((ps : Int) - st.ps) * 65536 / 1000) (extra := 16 + 64) (Or.inr (Or.inl rfl)) hl
    obtain ⟨flags, f1, f4, f5, f6⟩ := e3 hf hr
    exact ⟨e2, flags, f1, f4, f5, by rw [f6]; simp [bit, hw]⟩
  · rw [if_neg hw]
    obtain ⟨_, e2, e3, _⟩ := d.intervalEnded_obeys (n := m) st (((ps : Int) - st.ps) * 65536 / 1000) (extra := 16 + 0) (Or.inl rfl) hl
    obtain ⟨flags, f1, f4, f5, f6⟩ := e3 hf hr
    exact ⟨e2, flags, f1, f4, f5, by rw [f6]; simp [bit, hw]⟩

theorem Device.intervalTimeout_idle (h : (d.ch n).opened = none ∨ d.clock.mtRun = false ∨ d.chMode n ≠ 2) : d.intervalTimeout n = d := by
  unfold Device.intervalTimeout
  cases ho : (d.ch n).opened with
  | none => rfl
  | some st =>
    refine if_pos ?_
    obtain h | h | h := h
    · rw [ho] at h
      exact absurd h (by simp)
    · simp [h]
    · simp [h]

theorem Device.intervalTimeout_eq {st : Capture} (ho : (d.ch n).opened = some st) (hr : d.clock.mtRun = true) (hm : d.chMode n = 2) :
    d.intervalTimeout n = (d.runTo (ceilDiv (st.ps + d.nat (K.chTimeout n)) 800)).intervalEnded n st 0 32 := by
  rw [Device.intervalTimeout, ho]
  simp only [hr, hm, Bool.not_true, ne_eq, not_true_eq_false, decide_false, Bool.or_self, Bool.false_eq_true, if_false]
  rfl

/-! ## What serving the conversion path leaves (R227, R243) -/

/-- The objects that conversions may change: the counts of stamps and of discards, and those of the stamps' consumers. -/
def pathKey (k : Nat) : Bool := (0x2410 * 256 ≤ k && (k % 256 = 0x13 || k % 256 = 0x15)) || stampKey k

/-- A part after conversions: the same objects but the path's, the same channels, their gates as they were. -/
def Device.Served (d t : Device) : Prop :=
  t.tdc.chans.length = d.tdc.chans.length ∧ (∀ k, pathKey k = false → t.val k = d.val k)
    ∧ ∀ m, (t.ch m).gateStart = (d.ch m).gateStart ∧ (t.ch m).gateRootLost = (d.ch m).gateRootLost

theorem Device.Served.trans {d e t : Device} (h1 : d.Served e) (h2 : e.Served t) : d.Served t :=
  ⟨h2.1.trans h1.1, fun k hk => (h2.2.1 k hk).trans (h1.2.1 k hk),
    fun m => ⟨(h2.2.2 m).1.trans (h1.2.2 m).1, (h2.2.2 m).2.trans (h1.2.2 m).2⟩⟩

theorem Device.served_refl : d.Served d := ⟨rfl, fun _ _ => rfl, fun _ => ⟨rfl, rfl⟩⟩

theorem Device.served_of_tdc {d t : Device} (h : t.tdc.chans = d.tdc.chans) (hv : ∀ k, pathKey k = false → t.val k = d.val k) : d.Served t := by
  have hch : ∀ m, t.ch m = d.ch m := fun m => by rw [Device.ch, h, Device.ch]
  exact ⟨by rw [h], hv, fun m => by rw [hch]; exact ⟨rfl, rfl⟩⟩

theorem Device.served_setCh (f : TdcChannel → TdcChannel) (hf : ∀ x, (f x).gateStart = x.gateStart ∧ (f x).gateRootLost = x.gateRootLost) :
    d.Served (d.setCh n f) := by
  refine ⟨length_updAt _ _ _, fun _ _ => rfl, fun m => ?_⟩
  by_cases hm : m = n
  · subst hm
    by_cases hl : m < d.tdc.chans.length
    · rw [d.ch_setCh m f hl]
      exact hf _
    · have h1 : (d.setCh m f).ch m = {} := List.getD_eq_default _ _ (by rw [Device.setCh, length_updAt]; omega)
      have h2 : d.ch m = {} := List.getD_eq_default _ _ (by omega)
      rw [h1, h2]
      exact ⟨rfl, rfl⟩
  · rw [d.ch_setCh_ne f hm]
    exact ⟨rfl, rfl⟩

theorem pathKey_chStamps : pathKey (K.chStamps n) = true := by
  simp [pathKey, K.chStamps]
  omega

theorem pathKey_chOverflow : pathKey (K.chOverflow n) = true := by
  simp [pathKey, K.chOverflow]
  omega

theorem Device.served_bump {k : Nat} (h : pathKey k = true) (w : Nat) (c : Nat) : d.Served (d.bumpBy w k c) :=
  Device.served_of_tdc rfl (fun j hj => d.val_setVal_ne _ (fun hjk => absurd (hjk ▸ h) (by rw [hj]; exact Bool.false_ne_true)))

theorem Device.served_pushRecord (c : Capture) (interval : Int) (extra : Nat) : d.Served (d.pushRecord n c interval extra) := by
  have hb : d.Served (d.bump (K.chOverflow n)) := d.served_bump pathKey_chOverflow 4 1
  unfold Device.pushRecord
  split
  · exact d.served_refl
  · dsimp only
    split
    · split
      · exact hb.trans (Device.served_setCh _ _ (fun _ => ⟨rfl, rfl⟩))
      · exact (hb.trans (Device.served_of_tdc rfl (fun _ _ => rfl))).trans (Device.served_setCh _ _ (fun _ => ⟨rfl, rfl⟩))
    · exact d.served_setCh _ (fun _ => ⟨rfl, rfl⟩)

theorem Device.served_deliverStamp (c : Capture) : d.Served (d.deliverStamp n c) := by
  have h1 : d.Served (if d.chMode n = 1 then d.pushRecord n c 0 0 else d) := by
    split
    · exact d.served_pushRecord c 0 0
    · exact d.served_refl
  rw [d.deliverStamp_eq c]
  generalize (if d.chMode n = 1 then d.pushRecord n c 0 0 else d) = d1 at h1 ⊢
  have h2 : d1.Served (d1.stampGated d n c) := by
    unfold Device.stampGated
    dsimp only
    split
    · exact d1.served_setCh _ (fun _ => ⟨rfl, rfl⟩)
    · exact d1.served_refl
  have hs := d.stampSent_frame (n := n) (d1.stampGated d n c) c
  refine (h1.trans h2).trans (Device.served_of_tdc (congrArg (fun x => x.1.tdc.chans) hs) (fun k hk => val_of_beside hs ?_))
  rw [pathKey, Bool.or_eq_false_iff] at hk
  exact hk.2

theorem Device.served_runTo (tick : Nat) : d.Served (d.runTo tick) :=
  Device.served_of_tdc (congrArg Tdc.chans (d.runTo_tdc tick)) (fun k _ => d.runTo_val tick k)

theorem Device.served_captureTaken (free : Nat) (rest : List Capture) : d.Served (d.captureTaken n free rest) := by
  have h1 := (d.served_bump (pathKey_chStamps (n := n)) 8 1).trans (Device.served_setCh _ (n := n) (fun x => { x with caps := rest }) (fun _ => ⟨rfl, rfl⟩))
  exact h1.trans (Device.served_of_tdc rfl (fun _ _ => rfl))

theorem Device.served_convertOf (m : Nat) : d.Served (d.convertOf m) := by
  unfold Device.convertOf
  split
  · exact d.served_refl
  · next c rest hc =>
    exact ((d.served_runTo _).trans (Device.served_captureTaken _ _ rest)).trans (Device.served_deliverStamp _ c)

theorem Device.served_serveAll (n fuel : Nat) : ∀ d : Device, d.Served (Device.serveAll n fuel d) := by
  induction fuel with
  | zero => exact Device.served_refl
  | succ fuel ih =>
    intro d
    rw [Device.serveAll]
    split
    · exact d.served_refl
    · split
      · exact (d.served_convertOf _).trans (ih _)
      · exact d.served_refl

end

end Sys2Proof.Machine
end

section
/-! Chapter 8: the gates of the regressions and the reads of the FIFOs, and the obligation on intervals, gates and reads (R232, R243 to R247). -/

namespace Sys2Proof.Machine

section
variable (d : Device) {n : Nat}

/-! ## What a gate's fit gives (R243, R247) -/

/-- The fit counts its points. -/
theorem fitSums_count (xs : List (Int × Int)) : (fitSums xs).1 = xs.length := by
  have hfold : ∀ (n0 t0 : Int) (l : List (Int × Int)) (a : Int × Int × Int × Int × Int × Int),
      (l.foldl (fun (x : Int × Int × Int × Int × Int × Int) (p : Int × Int) =>
        (x.1 + 1, x.2.1 + (p.1 - n0), x.2.2.1 + (p.2 - t0), x.2.2.2.1 + (p.1 - n0) * (p.1 - n0), x.2.2.2.2.1 + (p.1 - n0) * (p.2 - t0),
          x.2.2.2.2.2 + (p.2 - t0) * (p.2 - t0))) a).1 = a.1 + l.length := by
    intro n0 t0 l
    induction l with
    | nil => exact fun a => (Int.add_zero _).symm
    | cons p l ih =>
      intro a
      rw [List.foldl_cons, ih, List.length_cons]
      push_cast
      ring
  unfold fitSums
  cases h : xs.getLast? with
  | none => simp [List.getLast?_eq_none_iff.1 h]
  | some p => exact (hfold p.1 p.2 xs (0, 0, 0, 0, 0, 0)).trans (Int.zero_add _)

theorem regResult_count (rate : Int) (xs : List (Int × Int)) : (regResult rate xs).1 = xs.length := fitSums_count xs

/-! ## The end of a gate (R243 to R247) -/

/-- R247: REG_STATUS of a gate, by the root, the fit and its size. -/
def gateStatus (lost : Bool) (r : Int × Bool × Int × Nat × Bool) : Nat :=
  if lost then 5 else if r.1 < 3 || r.2.1 then 2 else if r.2.2.2.2 then 4 else if 16777215 ≤ r.1 then 3 else 1

/-- R245, R246: the results of a gate of channel n that ended at `endU` are published; `freq` and `root` are its frequencies. -/
def Device.gatePublished (d : Device) (n endU status : Nat) (count freq root : Int) (resid : Nat) : Device :=
  let d1 := d.setNums [(K.regStatus n, status), (K.regCount n, count), (K.regEnd n, (endU / fracU : Nat))]
  let d2 := d1.bump (K.regSeq n)
  if status = 1 || status = 3 then d2.setNums [(K.regFreq n, freq), (K.regFreqRoot n, root), (K.regResid n, resid)] else d2

/-- R244, R247: the next gate of channel n starts at `endU`. -/
def Device.gateRestarted (d : Device) (n endU : Nat) (mismatch unlocked : Bool) (v : Option (Nat × Int)) : Device :=
  ((d.setMismatch n mismatch).setCh n (fun x => { x with
    stamps := x.stamps.filter (fun x => (endU : Int) ≤ x.2.2), gateStart := endU, gateRootLost := unlocked })).mark endU v

/-- The fit of the stamps of channel n before `endU`. -/
def Device.gateFit (d : Device) (n endU : Nat) : Int × Bool × Int × Nat × Bool :=
  regResult (d.chNominal n * (if d.chEdge n = 2 then 2 else 1))
    (((d.ch n).stamps.filter (fun x => x.2.2 < (endU : Int))).map (fun x => ((x.1 : Int), x.2.1)))

theorem Device.gateFit_count (endU : Nat) : (d.gateFit n endU).1 = ((d.ch n).stamps.filter (fun x => Decidable.decide (x.2.2 < (endU : Int)))).length := by
  rw [Device.gateFit, regResult_count, List.length_map]

theorem Device.regGateEnd_idle (h : d.num (K.regEnable n) ≠ 1 ∨ 24 ≤ n ∨ d.clock.mtRun = false) : d.regGateEnd n = d := by
  refine if_pos ?_
  obtain h | h | h := h
  · simp [h]
  · simp [h]
  · simp [h]

theorem Device.regGateEnd_eq (he : d.num (K.regEnable n) = 1) (hn : n < 24) (hr : d.clock.mtRun = true) :
    ∃ freq root : Int, ∃ resid : Nat, ∃ v, d.regGateEnd n =
      let endU := (d.ch n).gateStart + d.nat (K.regGate n) * 1000000 * nsU
      let e := d.runToMt endU
      let t := Device.serveAll n 96 e
      let status := gateStatus ((t.ch n).gateRootLost || !e.rootLocked) (t.gateFit n endU)
      (t.gatePublished n endU status (t.gateFit n endU).1 freq root resid).gateRestarted n endU (status = 4) (!e.rootLocked) v := by
  have hc : ¬ (Decidable.decide (d.num (K.regEnable n) ≠ 1) || Decidable.decide (24 ≤ n) || !d.clock.mtRun) = true := by
    simp [he, hr]
    omega
  unfold Device.regGateEnd
  rw [if_neg hc]
  exact ⟨_, _, _, _, rfl⟩

/-- Three objects set at once. -/
theorem Device.num_setNums_three {a b c : Nat} (x y z : Int) (hab : a ≠ b) (hac : a ≠ c) (hbc : b ≠ c) : let t := d.setNums [(a, x), (b, y), (c, z)]
    t.tdc = d.tdc ∧ t.clock = d.clock ∧ t.num a = x ∧ t.num b = y ∧ t.num c = z ∧ ∀ k, k ≠ a → k ≠ b → k ≠ c → t.num k = d.num k := by
  have hne : ∀ (e : Device) (k j : Nat) (v : Int), j ≠ k → (e.setNum k v).num j = e.num j := fun e k j v h => by rw [Device.num_setNum, if_neg h]
  refine ⟨rfl, rfl, ?_, ?_, Device.num_setNum_self _ _ _, fun k h1 h2 h3 => ?_⟩
  · exact (hne _ _ _ _ hac).trans ((hne _ _ _ _ hab).trans (Device.num_setNum_self _ _ _))
  · exact (hne _ _ _ _ hbc).trans (Device.num_setNum_self _ _ _)
  · exact (hne _ _ _ _ h3).trans ((hne _ _ _ _ h2).trans (hne _ _ _ _ h1))

/-- R245, R246: the published results, a fit's frequencies only with a status that has them, and what stays. -/
theorem Device.gatePublished_obeys (endU status : Nat) (count freq root : Int) (resid : Nat) (hs : d.nat (K.regSeq n) < 2 ^ 32 - 1) :
    let t := d.gatePublished n endU status count freq root resid
    t.tdc = d.tdc ∧ t.clock = d.clock ∧ t.nat (K.regSeq n) = d.nat (K.regSeq n) + 1 ∧ t.num (K.regEnd n) = (endU / fracU : Nat)
      ∧ t.num (K.regCount n) = count ∧ t.nat (K.regStatus n) = status
      ∧ (status ≠ 1 → status ≠ 3 → t.num (K.regFreq n) = d.num (K.regFreq n) ∧ t.num (K.regFreqRoot n) = d.num (K.regFreqRoot n)
          ∧ t.num (K.regResid n) = d.num (K.regResid n)) := by
  have hshown : K.regStatus n ≠ K.regCount n ∧ K.regStatus n ≠ K.regEnd n ∧ K.regCount n ≠ K.regEnd n := by
    simp only [K.regStatus, K.regCount, K.regEnd]
    omega
  have hfit : K.regFreq n ≠ K.regFreqRoot n ∧ K.regFreq n ≠ K.regResid n ∧ K.regFreqRoot n ≠ K.regResid n := by
    simp only [K.regFreq, K.regFreqRoot, K.regResid]
    omega
  have happart : ∀ k j, k = K.regSeq n ∨ k = K.regFreq n ∨ k = K.regFreqRoot n ∨ k = K.regResid n →
      j = K.regStatus n ∨ j = K.regCount n ∨ j = K.regEnd n ∨ (j = K.regSeq n ∧ k ≠ K.regSeq n) → k ≠ j := by
    intro k j hk hj
    simp only [K.regSeq, K.regEnd, K.regCount, K.regStatus, K.regFreq, K.regFreqRoot, K.regResid] at hk hj ⊢
    omega
  obtain ⟨a1, a2, a3, a4, a5, a6⟩ := d.num_setNums_three (status : Int) count ((endU / fracU : Nat) : Int) hshown.1 hshown.2.1 hshown.2.2
  have hd1 : d.gatePublished n endU status count freq root resid = if (Decidable.decide (status = 1) || Decidable.decide (status = 3)) = true then
      ((d.setNums [(K.regStatus n, (status : Int)), (K.regCount n, count), (K.regEnd n, ((endU / fracU : Nat) : Int))]).bump (K.regSeq n)).setNums
        [(K.regFreq n, freq), (K.regFreqRoot n, root), (K.regResid n, (resid : Int))]
      else (d.setNums [(K.regStatus n, (status : Int)), (K.regCount n, count), (K.regEnd n, ((endU / fracU : Nat) : Int))]).bump (K.regSeq n) := rfl
  generalize d.setNums [(K.regStatus n, (status : Int)), (K.regCount n, count), (K.regEnd n, ((endU / fracU : Nat) : Int))] = d1 at a1 a2 a3 a4 a5 a6 hd1
  generalize endU / fracU = ended at a5 ⊢
  have hother : ∀ k, k = K.regSeq n ∨ k = K.regFreq n ∨ k = K.regFreqRoot n ∨ k = K.regResid n → d1.num k = d.num k := fun k hk =>
    a6 k (happart k _ hk (by simp)) (happart k _ hk (by simp)) (happart k _ hk (by simp))
  have hseq : d1.nat (K.regSeq n) = d.nat (K.regSeq n) := congrArg Int.toNat (hother _ (Or.inl rfl))
  have b1 : (d1.bump (K.regSeq n)).nat (K.regSeq n) = d.nat (K.regSeq n) + 1 := by
    rw [Device.bump, d1.nat_bumpBy 4 _ 1 (by omega), hseq]
  have b2 : ∀ k, k ≠ K.regSeq n → (d1.bump (K.regSeq n)).num k = d1.num k := fun k hk => congrArg Val.int (d1.val_setVal_ne _ hk)
  have b3 : (d1.bump (K.regSeq n)).tdc = d1.tdc ∧ (d1.bump (K.regSeq n)).clock = d1.clock := ⟨rfl, rfl⟩
  generalize d1.bump (K.regSeq n) = d2 at b1 b2 b3 hd1
  obtain ⟨c1, c2, _, _, _, c6⟩ := d2.num_setNums_three freq root (resid : Int) hfit.1 hfit.2.1 hfit.2.2
  intro t
  have ht : t = _ := hd1
  clear_value t
  clear hd1
  have htc : t.tdc = d2.tdc ∧ t.clock = d2.clock := by
    rw [ht]
    split
    · exact ⟨c1, c2⟩
    · exact ⟨rfl, rfl⟩
  have hkept : ∀ k, k = K.regSeq n ∨ k = K.regStatus n ∨ k = K.regCount n ∨ k = K.regEnd n → t.num k = d2.num k := by
    intro k hk
    have : k ≠ K.regFreq n ∧ k ≠ K.regFreqRoot n ∧ k ≠ K.regResid n := by
      simp only [K.regSeq, K.regEnd, K.regCount, K.regStatus, K.regFreq, K.regFreqRoot, K.regResid] at hk ⊢
      omega
    rw [ht]
    split
    · exact c6 k this.1 this.2.1 this.2.2
    · rfl
  have hne : K.regStatus n ≠ K.regSeq n ∧ K.regCount n ≠ K.regSeq n ∧ K.regEnd n ≠ K.regSeq n := by
    simp only [K.regSeq, K.regEnd, K.regCount, K.regStatus]
    omega
  refine ⟨htc.1.trans (b3.1.trans a1), htc.2.trans (b3.2.trans a2), (congrArg Int.toNat (hkept _ (by simp))).trans b1,
    (hkept _ (by simp)).trans ((b2 _ hne.2.2).trans a5), (hkept _ (by simp)).trans ((b2 _ hne.2.1).trans a4),
    congrArg Int.toNat ((hkept _ (by simp)).trans ((b2 _ hne.1).trans a3)), fun h1 h3 => ?_⟩
  have hoff : t = d2 := ht.trans (if_neg (by simp [h1, h3]))
  have hk : ∀ k, k = K.regFreq n ∨ k = K.regFreqRoot n ∨ k = K.regResid n → t.num k = d.num k := fun k hk => by
    have hs : k ≠ K.regSeq n := by
      simp only [K.regSeq, K.regFreq, K.regFreqRoot, K.regResid] at hk ⊢
      omega
    rw [hoff, b2 k hs, hother k (Or.inr hk)]
  exact ⟨hk _ (by simp), hk _ (by simp), hk _ (by simp)⟩

theorem Device.gateRestarted_obeys (endU : Nat) (mismatch unlocked : Bool) (v : Option (Nat × Int)) (h : n < d.tdc.chans.length) :
    let t := d.gateRestarted n endU mismatch unlocked v
    t.obj = d.obj ∧ t.clock.ticks = d.clock.ticks ∧ (t.ch n).gateStart = endU
      ∧ (t.ch n).stamps = (d.ch n).stamps.filter (fun x => Decidable.decide ((endU : Int) ≤ x.2.2)) := by
  have hm : (d.setMismatch n mismatch).obj = d.obj ∧ (d.setMismatch n mismatch).clock = d.clock ∧ (d.setMismatch n mismatch).tdc.chans.length = d.tdc.chans.length
      ∧ ((d.setMismatch n mismatch).ch n).stamps = (d.ch n).stamps := by
    unfold Device.setMismatch
    split
    · exact ⟨rfl, rfl, rfl, rfl⟩
    · rw [Device.ch_setCh _ _ _ (by exact h)]
      exact ⟨rfl, rfl, length_updAt _ _ _, rfl⟩
  obtain ⟨m1, m2, m3, m4⟩ := hm
  have hch : (d.gateRestarted n endU mismatch unlocked v).ch n = _ := (d.setMismatch n mismatch).ch_setCh n _ (by rw [m3]; exact h)
  dsimp only
  rw [hch]
  have hticks : (d.setMismatch n mismatch).clock.ticks = d.clock.ticks := by rw [m2]
  exact ⟨m1, hticks, rfl, congrArg _ m4⟩

/-- The objects of a regression are none that the path changes. -/
theorem pathKey_reg (hn : n < 24) : pathKey (K.regSeq n) = false ∧ pathKey (K.regFreq n) = false ∧ pathKey (K.regFreqRoot n) = false
    ∧ pathKey (K.regResid n) = false := by
  simp [pathKey, stampKey, K.regSeq, K.regFreq, K.regFreqRoot, K.regResid, K.outPlaceErr, K.skyPpsMismatch]
  omega

/-! ## Reading a FIFO (R232) -/

theorem chFifoRead_row : ∀ n < 24, dictFind (K.chFifoRead n / 256) (K.chFifoRead n % 256) =
    some ⟨0x2410, 0x2427, 0x11, 0x11, .upTo 384, .ro, .bytes [], .any, 0⟩ := by decide +kernel

theorem Device.readLive_fifo (hn : n < 24) : d.readLive (K.chFifoRead n / 256) (K.chFifoRead n % 256) (.upTo 384) = ((d.ch n).fifo.take 16).flatten := by
  have h1 : K.chFifoRead n / 256 = 0x2410 + n := by rw [K.chFifoRead]; omega
  have h2 : K.chFifoRead n % 256 = 0x11 := by rw [K.chFifoRead]; omega
  have hd : d.derivedOct (0x2410 + n) 0x11 = some ((d.ch n).fifo.take 16).flatten := by
    unfold Device.derivedOct
    dsimp only
    rw [if_neg (by simp [K.porchMacBase]; omega), if_neg (by simp [K.srLaneBusy]; omega), if_neg (by simp), if_neg (by simp [K.atticWindow]; omega),
      if_neg (by simp [K.atticRetained]; omega), if_neg (by simp), if_pos (by simp; omega), Nat.add_sub_cancel_left]
  rw [h1, h2, Device.readLive, hd]
  rfl

end

theorem exec_intervalTimeout (s : State) (n : Nat) : exec (.intervalTimeout n) s = .next (s.on (·.intervalTimeout n)) := rfl
theorem exec_regGateEnd (s : State) (n : Nat) : exec (.regGateEnd n) s = .next (s.on (·.regGateEnd n)) := rfl

/-- R232: the reply of a granted READ of a capture FIFO. -/
theorem State.chFifoRead_granted (s : State) (h : HapHdr) {n : Nat} (hn : n < 24) :
    let r := hapReq h 1 (K.chFifoRead n) []
    let d := s.asked r
    let cap := maxPayload (reqSrc r) h.xl ((s.dev.heard r).lock = 3)
    let v := ((d.ch n).fifo.take 16).flatten.take (cap / 24 * 24)
    s.grants r → h.flags < 8 → (K.chFifoRead n) ∉ d.lost →
    exec (.chFifoRead h n) s = .next (s.answered r { status := some 0, pay := v, dev := d.drainFifo n (v.length / 24), after := id }) := by
  intro r d cap v hg hf hlost
  have hrow := chFifoRead_row n hn
  have hidx : K.chFifoRead n / 256 = 0x2410 + n ∧ K.chFifoRead n % 256 = 0x11 := by
    rw [K.chFifoRead]
    omega
  have hfifo : 0x2410 * 256 ≤ K.chFifoRead n ∧ K.chFifoRead n < 0x2428 * 256 ∧ K.chFifoRead n % 256 = 0x11 := by
    rw [K.chFifoRead]
    omega
  have hst : asksStaged (K.chFifoRead n / 256) (K.chFifoRead n % 256) h.flags = false := by
    rw [asksStaged_of_row hrow]
    simp
  have hv : d.readFit (K.chFifoRead n / 256) (K.chFifoRead n % 256) false cap = v := by
    rw [d.readFit_of_fifo false cap hfifo, d.readValue_of_row hrow, Bool.false_and, if_neg Bool.false_ne_true, d.readLive_fifo hn]
  have hbar : d.readBarred (K.chFifoRead n) = false := by
    have hc : d.lost.contains (K.chFifoRead n) = false := by
      rw [List.contains_eq_mem]
      exact decide_eq_false hlost
    have hk : K.chFifoRead n < 0x2428 * 256 := hfifo.2.1
    have h1 : ¬ 0x5040 * 256 ≤ K.chFifoRead n := by omega
    have h2 : K.chFifoRead n ≠ K.khAttestReport := fun he => by
      rw [he] at hk
      exact absurd hk (by decide)
    rw [Device.readBarred, hc, decide_eq_false h1, decide_eq_false h2]
    rfl
  have hok := Device.doRead_ok d (K.chFifoRead n) h.flags cap (d.accessBad_ok _ _ false hrow (by simp [Device.needsSession]) (by simp))
    (by
      rw [hst, hv, List.length_take]
      exact (min_le_left _ _).trans (Nat.div_mul_le_self cap 24)) hf (fun _ => hbar)
  rw [hst, hv] at hok
  have hdone : d.readDone (K.chFifoRead n / 256) (K.chFifoRead n % 256) v (d.fifoOut (K.chFifoRead n / 256) (K.chFifoRead n % 256)) =
      d.drainFifo n (v.length / 24) := by
    rw [Device.readDone, Nat.sub_self, Nat.sub_zero, hidx.1, hidx.2, Nat.add_sub_cancel_left]
    exact if_pos (by simp; omega)
  rw [hdone] at hok
  have hexec : exec (.chFifoRead h n) s = .next (s.hap h 1 (K.chFifoRead n / 256) (K.chFifoRead n % 256) []) := by
    rw [hidx.1, hidx.2]
    exact congrArg (fun i => Host.Outcome.next (s.hap h 1 (0x2410 + i) 0x11 [])) (Nat.mod_eq_of_lt hn)
  exact hexec.trans (congrArg _ ((State.request_granted s h 1 (K.chFifoRead n) [] hg).trans (congrArg _ hok)))

/-- R243 to R247: what the end of a gate leaves, `e` being the part as the gate ends. -/
theorem Device.gateEnd_obeys (e : Device) {n : Nat} (hn : n < 24) (hl : e.tdc.chans.length = 24) (hs : e.nat (K.regSeq n) < 2 ^ 32 - 1) (endU : Nat)
    (freq root : Int) (resid : Nat) (v : Option (Nat × Int)) :
    let d := Device.serveAll n 96 e
    let status := gateStatus ((d.ch n).gateRootLost || !e.rootLocked) (d.gateFit n endU)
    let t := (d.gatePublished n endU status (d.gateFit n endU).1 freq root resid).gateRestarted n endU (status = 4) (!e.rootLocked) v
    let inGate := (d.ch n).stamps.filter (fun x => Decidable.decide (x.2.2 < (endU : Int)))
    let lost := (e.ch n).gateRootLost = true ∨ e.rootLocked = false
    t.clock.ticks = d.clock.ticks ∧ t.nat (K.regSeq n) = e.nat (K.regSeq n) + 1 ∧ t.num (K.regEnd n) = (endU / fracU : Nat)
      ∧ t.num (K.regCount n) = inGate.length ∧ (t.ch n).gateStart = endU
      ∧ (t.ch n).stamps = (d.ch n).stamps.filter (fun x => Decidable.decide ((endU : Int) ≤ x.2.2))
      ∧ (lost → t.nat (K.regStatus n) = 5)
      ∧ (¬ lost → inGate.length < 3 → t.nat (K.regStatus n) = 2)
      ∧ (t.nat (K.regStatus n) ≠ 1 → t.nat (K.regStatus n) ≠ 3 → t.num (K.regFreq n) = e.num (K.regFreq n)
          ∧ t.num (K.regFreqRoot n) = e.num (K.regFreqRoot n) ∧ t.num (K.regResid n) = e.num (K.regResid n)) := by
  intro d status t inGate lost
  obtain ⟨v1, v2, v3⟩ : e.Served d := Device.served_serveAll n 96 e
  obtain ⟨q1, q2, q3, q4⟩ := pathKey_reg hn
  have hnum : ∀ k, pathKey k = false → d.num k = e.num k := fun k hk => congrArg Val.int (v2 k hk)
  have hseq : d.nat (K.regSeq n) = e.nat (K.regSeq n) := congrArg Int.toNat (hnum _ q1)
  obtain ⟨p1, p2, p3, p4, p5, p6, p7⟩ := d.gatePublished_obeys endU status (d.gateFit n endU).1 freq root resid (n := n) (by rw [hseq]; exact hs)
  obtain ⟨r1, r2, r3, r4⟩ := (d.gatePublished n endU status (d.gateFit n endU).1 freq root resid).gateRestarted_obeys endU (Decidable.decide (status = 4))
    (!e.rootLocked) v (n := n) (by rw [p1, v1]; omega)
  have htn : ∀ k, t.num k = (d.gatePublished n endU status (d.gateFit n endU).1 freq root resid).num k := num_of_obj r1
  have hstatus : t.nat (K.regStatus n) = status := (congrArg Int.toNat (htn _)).trans p6
  have hcount : (d.gateFit n endU).1 = inGate.length := d.gateFit_count endU
  have hlost : ((d.ch n).gateRootLost || !e.rootLocked) = true ↔ lost := by
    rw [(v3 n).2, Bool.or_eq_true, Bool.not_eq_true']
  refine ⟨r2.trans (congrArg Clock.ticks p2), ((congrArg Int.toNat (htn _)).trans p3).trans (congrArg (· + 1) hseq), (htn _).trans p4,
    ((htn _).trans p5).trans hcount, r3, r4.trans (by rw [Device.ch, p1, ← Device.ch]), fun h => ?_, fun h hc => ?_, fun h1 h3 => ?_⟩
  · rw [hstatus]
    exact if_pos (hlost.2 h)
  · rw [hstatus]
    have h3 : (d.gateFit n endU).1 < 3 := by
      rw [hcount]
      exact_mod_cast hc
    exact (if_neg (fun h' => h (hlost.1 h'))).trans (if_pos (by simp [h3]))
  · rw [hstatus] at h1 h3
    obtain ⟨f1, f2, f3⟩ := p7 h1 h3
    exact ⟨((htn _).trans f1).trans (hnum _ q2), ((htn _).trans f2).trans (hnum _ q3), ((htn _).trans f3).trans (hnum _ q4)⟩

/-- Settles O40: stop edges, timeouts and gate ends at their ticks, and the reply of a read of a FIFO. -/
theorem intervalsGatesAndFifoReads : Obligations.IntervalsGatesAndFifoReads := by
  refine ⟨fun d src m ps st hl hm ho hmode hsrc hf hr => ?_, fun s n hn hl => ⟨fun h => ?_, fun st ho hr hm => ?_⟩,
    fun s n hl => ⟨fun h => ?_, fun he hn hr hs => ?_⟩, fun s h n hn => ?_⟩
  · intro lo t
    exact ⟨fun h => d.offerStop_late ho h, fun h1 h2 => d.offerStop_obeys ho hmode hsrc hf hr (by omega) h1 h2⟩
  · rw [exec_intervalTimeout, State.on, s.dev.intervalTimeout_idle h]
  · have hexec := exec_intervalTimeout s n
    rw [State.on, s.dev.intervalTimeout_eq ho hr hm] at hexec
    generalize ceilDiv (st.ps + s.dev.nat (K.chTimeout n)) 800 = tick at hexec ⊢
    have htdc : (s.dev.runTo tick).tdc = s.dev.tdc := Device.runTo_tdc _ _
    have hval : ∀ k, (s.dev.runTo tick).val k = s.dev.val k := Device.runTo_val _ _
    generalize s.dev.runTo tick = e at hexec htdc hval ⊢
    have hch : ∀ m, e.ch m = s.dev.ch m := fun m => by rw [Device.ch, htdc, Device.ch]
    obtain ⟨c1, c2, c3, c4⟩ := channel_of_nums st (fun k _ => hval k) hn
    obtain ⟨t1, t2, t3, t4⟩ := e.intervalEnded_obeys (n := n) st 0 (extra := 32) (Or.inr (Or.inr rfl)) (by rw [htdc]; omega)
    refine ⟨_, hexec, rfl, t1, t2, fun hf hroom => ?_, fun m hm => (t4 m hm).trans (hch m)⟩
    obtain ⟨flags, f1, f4, f5, _⟩ := t3 (c2.trans hf) (by rw [hch]; exact hroom)
    rw [hch, c3] at f1
    exact ⟨flags, f1, f5, f4⟩
  · rw [exec_regGateEnd, State.on, s.dev.regGateEnd_idle h]
  · intro endU d inGate lost
    obtain ⟨freq, root, resid, v, hx⟩ := s.dev.regGateEnd_eq he hn hr
    have hexec := exec_regGateEnd s n
    rw [State.on, hx] at hexec
    have htdc : (s.dev.runToMt endU).tdc = s.dev.tdc := Device.runToMt_tdc _ _
    have hnum : ∀ k, (s.dev.runToMt endU).num k = s.dev.num k := Device.runToMt_num _ _
    have hlock : (s.dev.runToMt endU).rootLocked = s.dev.rootLocked := by rw [Device.rootLocked, Device.nat, hnum, ← Device.nat, ← Device.rootLocked]
    have hch : (s.dev.runToMt endU).ch n = s.dev.ch n := by rw [Device.ch, htdc, Device.ch]
    have hd : d = Device.serveAll n 96 (s.dev.runToMt endU) := rfl
    have hfrac : endU / (5 * 2 ^ 32) = endU / fracU := rfl
    have hend : endU = (s.dev.ch n).gateStart + s.dev.nat (K.regGate n) * 1000000 * nsU := rfl
    rw [← hend] at hexec
    dsimp only at hexec
    rw [hfrac]
    clear_value d endU
    generalize s.dev.runToMt endU = e at hexec htdc hnum hlock hch hd
    subst hd
    have hseq : e.nat (K.regSeq n) = s.dev.nat (K.regSeq n) := congrArg Int.toNat (hnum _)
    have hobey := e.gateEnd_obeys hn (by rw [htdc]; exact hl) (by rw [hseq]; exact hs) endU freq root resid v
    rw [hlock] at hexec
    rw [hseq, hch, hlock, hnum, hnum, hnum] at hobey
    exact ⟨_, hexec, rfl, hobey⟩
  · intro r d cap v hg hf _ hlost
    exact ⟨s.chFifoRead_granted h hn hg hf hlost, fun hl => congrArg TdcChannel.fifo (d.ch_setCh n _ (by
      rw [Device.drainFifo, Device.setCh, length_updAt] at hl
      omega))⟩

end Sys2Proof.Machine
end

section
/-! Chapters 10 and 12: what the checks of Table 10-3 leave alone, and the decisions of Porch and Hallway that depend on what they leave
(R275, R329 to R333). -/

namespace Sys2Proof.Machine

/-- The objects that the reception of a frame counts in, before its check decides. -/
def rxKey (k : Nat) : Bool :=
  (0x3000 * 256 ≤ k && k < 0x302C * 256 && (k % 256 = 0x11 || k % 256 = 0x13 || k % 256 = 0x1C || k % 256 = 0x49)) || k = K.hallFdbFull

/-- A part that has taken in a frame: the same time, power state, queues and copies, and the same objects but those counts. -/
structure Device.Received (d t : Device) : Prop where
  vals : ∀ k, rxKey k = false → t.val k = d.val k
  clock : t.clock = d.clock
  power : t.power = d.power
  egress : t.hall.egress = d.hall.egress
  fdb : t.hall.fdb = d.hall.fdb
  copies : t.copies = d.copies

namespace Device.Received
variable {d e t : Device}

theorem refl (d : Device) : d.Received d := ⟨fun _ _ => rfl, rfl, rfl, rfl, rfl, rfl⟩

theorem trans (h1 : d.Received e) (h2 : e.Received t) : d.Received t :=
  ⟨fun k hk => (h2.vals k hk).trans (h1.vals k hk), h2.clock.trans h1.clock, h2.power.trans h1.power, h2.egress.trans h1.egress,
    h2.fdb.trans h1.fdb, h2.copies.trans h1.copies⟩

theorem num (h : d.Received t) {k : Nat} (hk : rxKey k = false) : t.num k = d.num k := congrArg Val.int (h.vals k hk)
theorem nat (h : d.Received t) {k : Nat} (hk : rxKey k = false) : t.nat k = d.nat k := congrArg Int.toNat (h.num hk)
theorem oct (h : d.Received t) {k : Nat} (hk : rxKey k = false) : t.oct k = d.oct k := congrArg Val.bytes (h.vals k hk)

end Device.Received

section
variable (d : Device) {p : Nat}

/-! ## Steps of a reception -/

theorem Device.received_setNum {k : Nat} (v : Int) (h : rxKey k = true) : d.Received (d.setNum k v) :=
  ⟨fun j hj => d.val_setVal_ne _ (fun hjk => absurd (hjk ▸ h) (by rw [hj]; exact Bool.false_ne_true)), rfl, rfl, rfl, rfl, rfl⟩

theorem rxKey_port {j : Nat} (hp : p < 44) (hj : j = 0x11 ∨ j = 0x13 ∨ j = 0x1C ∨ j = 0x49) : rxKey ((0x3000 + p) * 256 + j) = true := by
  have h1 : ((0x3000 + p) * 256 + j) % 256 = j := by omega
  have h2 : 0x3000 * 256 ≤ (0x3000 + p) * 256 + j ∧ (0x3000 + p) * 256 + j < 0x302C * 256 := by omega
  rw [rxKey, h1]
  obtain rfl | rfl | rfl | rfl := hj <;> simp [h2.1, h2.2]

/-- No other object of a port is counted in. -/
theorem rxKey_port_not {j : Nat} (hj : j < 256) (h : j ≠ 0x11 ∧ j ≠ 0x13 ∧ j ≠ 0x1C ∧ j ≠ 0x49) (hp : p < 44) : rxKey ((0x3000 + p) * 256 + j) = false := by
  have h1 : ((0x3000 + p) * 256 + j) % 256 = j := by omega
  have h2 : (0x3000 + p) * 256 + j ≠ K.hallFdbFull := by
    simp only [K.hallFdbFull]
    omega
  rw [rxKey, h1]
  simp [h.1, h.2.1, h.2.2.1, h.2.2.2, h2]

/-- Nor one beyond the ports' objects but Hallway's count of learning misses. -/
theorem rxKey_high {k : Nat} (h : 0x302C * 256 ≤ k) (hk : k ≠ K.hallFdbFull) : rxKey k = false := by
  simp [rxKey, hk]
  omega

theorem Device.copiesAt_setPort (f : PortUnit → PortUnit) (hf : ∀ u, (f u).place = u.place ∧ (f u).sending = u.sending ∧ (f u).busyPs = u.busyPs) (ps : Nat) :
    (d.setPort p f).copiesAt ps = d.copiesAt ps := by
  have hmod : ∀ (l : List PortUnit) (n : Nat), (updAt l n f).filterMap (fun u => u.place) = l.filterMap (fun u => u.place)
      ∧ (updAt l n f).filterMap (fun u => if ps < u.busyPs then u.sending else none) = l.filterMap (fun u => if ps < u.busyPs then u.sending else none) := by
    intro l
    induction l with
    | nil => exact fun n => by simp [updAt]
    | cons u l ih =>
      intro n
      obtain ⟨h1, h2, h3⟩ := hf u
      cases n with
      | zero => simp [updAt, List.filterMap_cons, h1, h2, h3]
      | succ n =>
        obtain ⟨i1, i2⟩ := ih n
        rw [updAt] at i1 i2
        simp only [updAt, List.modify_succ_cons, List.filterMap_cons, i1, i2, and_self]
  obtain ⟨h1, h2⟩ := hmod d.ports p
  simp only [Device.copiesAt, Device.setPort, h1, h2]

theorem Device.received_rxStamp (hp : p < 44) (fine : Nat) (loop : Bool) : d.Received (d.rxStamp p fine loop).2.2 := by
  have h1 : d.Received (if d.replicaOk p then d else d.wrap (K.stampInvalid p)) := by
    split
    · exact .refl d
    · exact d.received_setNum _ (rxKey_port hp (by simp))
  exact h1.trans ⟨fun _ _ => rfl, rfl, rfl, rfl, rfl,
    Device.copiesAt_setPort (p := p) _ (fun u => { u with stepsSeen := d.nat K.mtStepCount }) (fun _ => ⟨rfl, rfl, rfl⟩) _⟩

theorem Device.received_cellCheckAt (ps : Nat) : d.Received (d.cellCheckAt ps) := by
  unfold Device.cellCheckAt
  dsimp only
  split
  · exact ⟨fun _ _ => rfl, rfl, rfl, rfl, rfl, rfl⟩
  · split
    · exact ⟨fun _ _ => rfl, rfl, rfl, rfl, rfl, rfl⟩
    · exact ⟨fun _ _ => rfl, rfl, rfl, rfl, rfl, rfl⟩

/-- R332: the copies at this tick do not count a frame whose sending has ended, so freeing its cells changes nothing. -/
theorem Device.copies_freed (ports : List PortUnit) (root ps : Nat) (h : root ≤ ps) :
    (ports.map (fun u => if u.busyPs ≤ root then { u with sending := none } else u)).filterMap (fun u => u.place) = ports.filterMap (fun u => u.place)
      ∧ (ports.map (fun u => if u.busyPs ≤ root then { u with sending := none } else u)).filterMap (fun u => if ps < u.busyPs then u.sending else none) =
        ports.filterMap (fun u => if ps < u.busyPs then u.sending else none) := by
  rw [List.filterMap_map, List.filterMap_map]
  constructor
  · refine congrArg (List.filterMap · ports) (funext fun u => ?_)
    dsimp only [Function.comp]
    split <;> rfl
  · refine congrArg (List.filterMap · ports) (funext fun u => ?_)
    dsimp only [Function.comp]
    split
    · rw [if_neg (by dsimp only; omega), if_neg (by omega)]
    · rfl

theorem Device.received_freeEnded : d.Received d.freeEnded := by
  have hfold : ∀ (l : List Nat) (e : Device), e.Received (l.foldl (fun d t => d.cellCheckAt t) e) := by
    intro l
    induction l with
    | nil => exact .refl
    | cons t l ih => exact fun e => (e.received_cellCheckAt t).trans (ih _)
  unfold Device.freeEnded
  dsimp only
  have h1 := hfold ((d.ports.filterMap (fun u => if u.sending.isSome && u.busyPs ≤ d.rootPs then some u.busyPs else none)).mergeSort (· ≤ ·)) d
  generalize List.foldl (fun d t => d.cellCheckAt t) d _ = e at h1 ⊢
  refine h1.trans ⟨fun _ _ => rfl, rfl, rfl, rfl, rfl, ?_⟩
  have hroot : e.rootPs = d.rootPs := by rw [Device.rootPs, h1.clock, Device.rootPs]
  obtain ⟨c1, c2⟩ := Device.copies_freed e.ports d.rootPs e.rootPs hroot.ge
  simp only [Device.copies, Device.copiesAt, c1]
  exact congrArg (fun l => _ ++ _ ++ l ++ _) c2

theorem Device.received_countRx (hp : p < 44) (body : Bytes) : d.Received (d.countRx p body) :=
  (d.received_setNum _ (rxKey_port hp (by simp))).trans (Device.received_setNum _ _ (rxKey_port hp (by simp)))

/-! ## The decisions that a reception's own steps leave as they were -/

section
variable {d} {t : Device} (h : d.Received t)
include h

theorem Device.Received.rootPs : t.rootPs = d.rootPs := by rw [Device.rootPs, h.clock, Device.rootPs]

theorem Device.Received.roomFor (n : Nat) : t.roomFor p n = d.roomFor p n := by
  have hcells : ∀ f, t.cellsBy f = d.cellsBy f := fun f => by rw [Device.cellsBy, h.copies, Device.cellsBy]
  rw [Device.roomFor, Device.sharedFree, hcells, h.copies, h.nat (show rxKey K.hallPortGuar = false by decide),
    h.nat (show rxKey K.hallIpReserve = false by decide), Device.roomFor, Device.sharedFree]

theorem Device.Received.asleep : t.asleep = d.asleep := by rw [Device.asleep, h.nat (by decide), Device.asleep]

theorem Device.Received.pcpQueue (k : Pkt) : t.pcpQueue p k = d.pcpQueue p k := by
  have hk : rxKey (K.inPcpMap p) = false := rxKey_high (by simp only [K.inPcpMap]; omega) (by simp only [K.inPcpMap, K.hallFdbFull]; omega)
  simp only [Device.pcpQueue, h.nat hk]

theorem Device.Received.vidOf (k : Pkt) : t.vidOf p k = d.vidOf p k := by
  have hk : rxKey (K.inPvid p) = false := rxKey_high (by simp only [K.inPvid]; omega) (by simp only [K.inPvid, K.hallFdbFull]; omega)
  simp only [Device.vidOf, h.nat hk]

theorem Device.Received.vlanDrops (k : Pkt) : t.vlanDrops p k = d.vlanDrops p k := by
  have hk : rxKey (K.inAccept p) = false := rxKey_high (by simp only [K.inAccept]; omega) (by simp only [K.inAccept, K.hallFdbFull]; omega)
  simp only [Device.vlanDrops, h.nat hk, h.oct (show rxKey K.hallVlanTable = false by decide), h.vidOf]

theorem Device.Received.mirrored (dir : Nat) : t.mirrored p dir = d.mirrored p dir := by
  rw [Device.mirrored, h.nat (by decide), h.nat (by decide), Device.mirrored]

theorem Device.Received.fdbLookup (mac : Bytes) (vid : Nat) : t.fdbLookup mac vid = d.fdbLookup mac vid := by
  rw [Device.fdbLookup, h.oct (by decide), h.fdb, Device.fdbLookup]

theorem Device.Received.portIp (hp : p < 44) : t.oct (K.portIpv4 p) = d.oct (K.portIpv4 p) ∧ t.oct (K.portIpv6 p) = d.oct (K.portIpv6 p)
    ∧ t.oct (K.portMac p) = d.oct (K.portMac p) :=
  ⟨h.oct (rxKey_port_not (by omega) (by decide) hp), h.oct (rxKey_port_not (by omega) (by decide) hp), h.oct (rxKey_port_not (by omega) (by decide) hp)⟩

theorem Device.Received.stationAnswer (hp : p < 44) (body : Bytes) : t.stationAnswer p body = d.stationAnswer p body := by
  obtain ⟨h4, h6, hm⟩ := h.portIp hp
  rw [Device.stationAnswer, h4, h6, hm, Device.stationAnswer]

theorem Device.Received.localDest (hp : p < 44) (k : Pkt) : t.localDest p k = d.localDest p k := by
  obtain ⟨h4, h6, hm⟩ := h.portIp hp
  unfold Device.localDest Device.ownIp Device.familyOn
  rw [h4, h6, hm, h.nat (show rxKey K.hapUdpPortMask = false by decide)]

theorem Device.Received.queue (o q : Nat) : t.queue o q = d.queue o q := by
  rw [Device.queue, Device.egress, h.egress, Device.queue, Device.egress]

theorem Device.Received.sched {o : Nat} : t.sched o = d.sched o := by
  have hk : ∀ k, 0x3500 * 256 ≤ k → rxKey k = false := fun k hk => rxKey_high (by omega) (by simp only [K.hallFdbFull]; omega)
  rw [Device.sched, schedOf, h.vals _ (hk _ (by simp only [K.gateList]; omega)), h.vals _ (hk _ (by simp only [K.gateBase]; omega)),
    h.vals _ (hk _ (by simp only [K.gateCycle]; omega)), Device.sched, schedOf]

end

end

end Sys2Proof.Machine
end

section
/-! Chapters 10 and 12: the branches of Table 10-3, and the obligation on received frames (R275, R329 to R334, R349). -/

namespace Sys2Proof.Machine

section
variable (d : Device) {p : Nat}

/-! ## Checks 1 to 5 (R275) -/

/-- The checks of Table 10-3 on a frame at an awake part that has stamped it. -/
def Device.checked (d : Device) (p fine : Nat) (body word : Bytes) (t16 : Int) (err : Nat) (mem : Option MemErr) (req : HapReq) : Device :=
  if frameLen body < 64 then (d.wrap (K.portRxRunt p)).portDrop p 1 (K.portRxRunt p) 0
  else if d.nat (K.portMaxFrame p) < frameLen body then (d.wrap (K.portRxOversize p)).portDrop p 2 (K.portRxOversize p) 0
  else if err ≠ 0 then (d.wrap (K.portRxFcsErr p)).portDrop p 3 (K.portRxFcsErr p) 0
  else if (parseFrame body).etype = 0x8808 then d.wrap (K.portRxMacCtrl p)
  else d.deliver p fine body word t16 mem req

/-- What stamping a frame leaves of the count of frames. -/
theorem Device.rxStamp_frames (hp : p < 44) (fine : Nat) (loop : Bool) : (d.rxStamp p fine loop).2.2.nat (K.portRxFrames p) = d.nat (K.portRxFrames p) := by
  have hk : K.portRxFrames p ≠ K.stampInvalid p := by
    simp only [K.portRxFrames, K.stampInvalid]
    omega
  have h1 : (if d.replicaOk p then d else d.wrap (K.stampInvalid p)).nat (K.portRxFrames p) = d.nat (K.portRxFrames p) := by
    split
    · rfl
    · exact congrArg (fun v => v.int.toNat) (d.val_setVal_ne _ hk)
  exact h1

theorem Device.ingress_eq (hp : p < 44) (hl : d.portUp p = true) (ha : d.asleep = false) (hw : d.power.waking = none) (fine : Nat) (body : Bytes) (err : Nat)
    (mem : Option MemErr) (req : HapReq) : ∃ e word t16, d.Received e ∧ e.nat (K.portRxFrames p) = d.nat (K.portRxFrames p)
      ∧ d.ingress p fine body err mem req false = e.checked p fine body word t16 err mem req := by
  generalize hd0 : (if err = 2 then d.wrap (K.portPhySymErr p) else d) = d0
  have h0 : d.Received d0 ∧ d0.nat (K.portRxFrames p) = d.nat (K.portRxFrames p) := by
    rw [← hd0]
    split
    · exact ⟨d.received_setNum _ (rxKey_port hp (by simp)), congrArg (fun v => v.int.toNat) (d.val_setVal_ne _ (by
        simp only [K.portRxFrames, K.portPhySymErr]
        omega))⟩
    · exact ⟨.refl d, rfl⟩
  have hup : d0.portUp p = true := by
    rw [Device.portUp, Device.link, h0.1.nat (k := K.portLinkState p) (rxKey_port_not (by omega) (by decide) hp), ← Device.link, ← Device.portUp]
    exact hl
  have h1 := h0.1.trans (d0.received_rxStamp hp fine false)
  refine ⟨(d0.rxStamp p fine false).2.2, (d0.rxStamp p fine false).1, (d0.rxStamp p fine false).2.1, h1,
    (d0.rxStamp_frames hp fine false).trans h0.2, ?_⟩
  have hsleep : ((d0.rxStamp p fine false).2.2.asleep || (d0.rxStamp p fine false).2.2.power.waking.isSome) = false := by
    rw [h1.asleep, h1.power, ha, hw]
    rfl
  unfold Device.ingress
  rw [hd0]
  simp only [hup, if_true]
  rw [hsleep]
  rfl

/-- A frame that a check drops is counted once, by the check's counter. -/
theorem Device.counted_drop {e : Device} (he : d.Received e) (hf : e.nat (K.portRxFrames p) = d.nat (K.portRxFrames p)) (k kind : Nat) (hk : rxKey k = false)
    (hp : p < 44) :
    ((e.wrap k).portDrop p kind k 0).nat k = (d.nat k + 1) % 2 ^ 32
      ∧ ((e.wrap k).portDrop p kind k 0).nat (K.portRxFrames p) = d.nat (K.portRxFrames p) := by
  have hobj : ((e.wrap k).portDrop p kind k 0).obj = (e.wrap k).obj := by rw [Device.portDrop, Device.reportOnce_obj]
  have hne : K.portRxFrames p ≠ k := fun h => by
    rw [← h] at hk
    exact absurd ((rxKey_port hp (j := 0x11) (by simp)).symm.trans hk) (by decide)
  rw [nat_of_obj hobj, nat_of_obj hobj, Device.wrap, Device.wrapBy, Device.nat_setNum_self, Device.nat_setNum, if_neg hne, he.nat hk, Int.toNat_natCast]
  exact ⟨rfl, hf⟩

theorem Device.counted_wrap {e : Device} (he : d.Received e) (hf : e.nat (K.portRxFrames p) = d.nat (K.portRxFrames p)) (k : Nat) (hk : rxKey k = false)
    (hp : p < 44) : (e.wrap k).nat k = (d.nat k + 1) % 2 ^ 32 ∧ (e.wrap k).nat (K.portRxFrames p) = d.nat (K.portRxFrames p) := by
  have hne : K.portRxFrames p ≠ k := fun h => by
    rw [← h] at hk
    exact absurd ((rxKey_port hp (j := 0x11) (by simp)).symm.trans hk) (by decide)
  rw [Device.wrap, Device.wrapBy, Device.nat_setNum_self, Device.nat_setNum, if_neg hne, he.nat hk, Int.toNat_natCast]
  exact ⟨rfl, hf⟩

/-! ## Check 6 and delivery (R275, R328, R333) -/

/-- The part with the frame's reception counted, of a part that has freed what ended. -/
theorem Device.countRx_frames {e : Device} (body : Bytes) (hc : e.nat (K.portRxFrames p) < 2 ^ 64 - 1) :
    (e.countRx p body).nat (K.portRxFrames p) = e.nat (K.portRxFrames p) + 1 := by
  have hne : K.portRxFrames p ≠ K.portRxOctets p := by
    simp only [K.portRxFrames, K.portRxOctets]
    omega
  rw [Device.countRx, Device.nat_bumpBy_ne _ _ _ hne]
  exact e.nat_bumpBy 8 _ 1 (by omega)

theorem Device.freeEnded_frames (e : Device) : e.freeEnded.nat (K.portRxFrames p) = e.nat (K.portRxFrames p) := by
  have hfold : ∀ (l : List Nat) (e : Device), (l.foldl (fun d t => d.cellCheckAt t) e).obj = e.obj := by
    intro l
    induction l with
    | nil => exact fun _ => rfl
    | cons t l ih =>
      intro e
      refine (ih _).trans ?_
      unfold Device.cellCheckAt
      dsimp only
      split
      · rfl
      · split <;> rfl
  exact nat_of_obj (hfold _ e) _

/-- R275, check 6: a frame without room is counted as an overflow of its queue. -/
theorem Device.deliver_full {e : Device} (he : d.Received e) (hf : e.nat (K.portRxFrames p) = d.nat (K.portRxFrames p)) (hp : p < 44) (fine : Nat)
    (body word : Bytes) (t16 : Int) (mem : Option MemErr) (req : HapReq) (hr : d.roomFor p (cellsOf body) = false)
    (hc : d.nat (K.portRxOverflow p (d.pcpQueue p (parseFrame body))) < 2 ^ 64 - 1) :
    (e.deliver p fine body word t16 mem req).nat (K.portRxOverflow p (d.pcpQueue p (parseFrame body))) =
        d.nat (K.portRxOverflow p (d.pcpQueue p (parseFrame body))) + 1
      ∧ (e.deliver p fine body word t16 mem req).nat (K.portRxFrames p) = d.nat (K.portRxFrames p) := by
  have h1 := he.trans e.received_freeEnded
  have hframes := (e.freeEnded_frames (p := p)).trans hf
  unfold Device.deliver
  dsimp only
  generalize e.freeEnded = c at h1 hframes ⊢
  rw [h1.roomFor, hr, h1.pcpQueue, Bool.not_false, if_pos rfl]
  have hq : d.pcpQueue p (parseFrame body) < 8 := Nat.mod_lt _ (by decide)
  generalize d.pcpQueue p (parseFrame body) = q at hq hc ⊢
  have hk : c.nat (K.portRxOverflow p q) = d.nat (K.portRxOverflow p q) := h1.nat (rxKey_port_not (by omega) (by omega) hp)
  have hne : K.portRxFrames p ≠ K.portRxOverflow p q := by
    simp only [K.portRxFrames, K.portRxOverflow]
    omega
  have hobj : ((c.bump64 (K.portRxOverflow p q)).portDrop p 4 (K.portRxOverflow p q) q).obj = (c.bump64 (K.portRxOverflow p q)).obj := by
    rw [Device.portDrop, Device.reportOnce_obj]
  rw [nat_of_obj hobj, nat_of_obj hobj, Device.bump64, Device.nat_bumpBy_ne _ _ _ hne, c.nat_bumpBy 8 _ 1 (by omega), hk]
  exact ⟨rfl, hframes⟩

/-- R275: a frame with room that no probe, answer of Porch or memory error concerns goes to Hallway, counted and numbered. -/
theorem Device.deliver_taken {e : Device} (he : d.Received e) (hf : e.nat (K.portRxFrames p) = d.nat (K.portRxFrames p)) (hp : p < 44) (fine : Nat)
    (body word : Bytes) (t16 : Int) (req : HapReq) (hr : d.roomFor p (cellsOf body) = true) (hprobe : d.nat (K.stampProbeEtype p) = 0)
    (hst : d.stationAnswer p body = none) (hc : d.nat (K.portRxFrames p) < 2 ^ 64 - 1) :
    ∃ c f, d.Received c ∧ c.nat (K.portRxFrames p) = d.nat (K.portRxFrames p) + 1 ∧ f.body = body ∧ f.src = p ∧ f.cells = cellsOf body ∧ f.launch = none
      ∧ e.deliver p fine body word t16 none req = c.hallTake p fine f t16 req := by
  have h1 := he.trans e.received_freeEnded
  have hframes := (e.freeEnded_frames (p := p)).trans hf
  have h2 := h1.trans (e.freeEnded.received_countRx hp body)
  have hprobe' : e.freeEnded.nat (K.stampProbeEtype p) = 0 := (h1.nat (rxKey_port_not (by omega) (by decide) hp)).trans hprobe
  have hst' : e.freeEnded.stationAnswer p body = none := (h1.stationAnswer hp body).trans hst
  refine ⟨(e.freeEnded.countRx p body).numberFrame, (e.freeEnded.countRx p body).storedFrame p fine body word t16,
    h2.trans ⟨fun _ _ => rfl, rfl, rfl, rfl, rfl, rfl⟩,
    (Device.countRx_frames (e := e.freeEnded) body (by rw [hframes]; exact hc)).trans (congrArg (· + 1) hframes), rfl, rfl, rfl, rfl, ?_⟩
  unfold Device.deliver
  dsimp only
  rw [h1.roomFor, hr, Bool.not_true, if_neg Bool.false_ne_true, hprobe', hst']
  rfl

/-- R329: a frame that the VLAN rules drop is counted. -/
theorem Device.hallTake_dropped (fine : Nat) (f : Frame) (t16 : Int) (req : HapReq) (hm : d.mirrored p 1 = false)
    (hv : d.vlanDrops p (parseFrame f.body) = true) : d.hallTake p fine f t16 req = d.bump K.hallVlanDrop := by
  unfold Device.hallTake
  rw [hm]
  dsimp only
  rw [if_neg Bool.false_ne_true, hv, if_pos rfl]

theorem Device.hallTake_forward (fine : Nat) (f : Frame) (t16 : Int) (req : HapReq) (hm : d.mirrored p 1 = false)
    (hv : d.vlanDrops p (parseFrame f.body) = false) (hl : d.localDest p (parseFrame f.body) = .forward) :
    d.hallTake p fine f t16 req = d.forward p f := by
  unfold Device.hallTake
  rw [hm]
  dsimp only
  rw [if_neg Bool.false_ne_true, hv, if_neg Bool.false_ne_true, hl]

/-! ## Forwarding (R330, R331, R334) -/

/-- A fold that acts on one member of a list only. -/
theorem foldl_one {o : Nat} (f : Device → Nat → Device) {l : List Nat} (hl : l.Nodup) (ho : o ∈ l) (hf : ∀ e, ∀ x ∈ l, x ≠ o → f e x = e) :
    l.foldl f d = f d o := by
  have hskip : ∀ (l : List Nat), (∀ e, ∀ x ∈ l, f e x = e) → ∀ e, l.foldl f e = e := by
    intro l
    induction l with
    | nil => exact fun _ e => rfl
    | cons x l ih => exact fun h e => (ih (fun e y hy => h e y (List.mem_cons_of_mem x hy)) _).trans (h e x List.mem_cons_self)
  induction l generalizing d with
  | nil => exact absurd ho (List.not_mem_nil)
  | cons x l ih =>
    obtain ⟨hx, hn⟩ := List.nodup_cons.1 hl
    rw [List.foldl_cons]
    by_cases hxo : x = o
    · subst hxo
      exact hskip l (fun e y hy => hf e y (List.mem_cons_of_mem x hy) (fun h => hx (h ▸ hy))) _
    · rw [hf d x List.mem_cons_self hxo]
      exact ih d hn ((List.mem_cons.1 ho).resolve_left (Ne.symm hxo)) (fun e y hy => hf e y (List.mem_cons_of_mem x hy))

/-- A mask of one port has that port's bit only. -/
theorem bit_two_pow (o x : Nat) : bit (2 ^ o) x = decide (x = o) := by
  rw [bit, ← Nat.testBit_eq_decide_div_mod_eq, Nat.testBit_two_pow]
  exact decide_eq_decide.2 eq_comm

/-- R330: learning changes the database and its count of misses, and no queue. -/
theorem Device.learn_frame (mac : Bytes) (vid : Nat) : let t := d.learn p mac vid
    (∀ k, k ≠ K.hallFdbFull → t.val k = d.val k) ∧ t.hall.egress = d.hall.egress := by
  unfold Device.learn
  dsimp only
  split
  · exact ⟨fun _ _ => rfl, rfl⟩
  · split
    · exact ⟨fun _ _ => rfl, rfl⟩
    · split
      · exact ⟨fun _ hk => d.val_setVal_ne _ hk, rfl⟩
      · exact ⟨fun _ hk => d.val_setVal_ne _ hk, rfl⟩

/-- R334, R339: a frame without a launch time that an ungated port has room for becomes the last of its queue. -/
theorem Device.enqueue_room {o q : Nat} {f : Frame} (hs : (d.sched o).entries = []) (hl : f.launch = none) (he : o < d.hall.egress.length)
    (hq : q < (d.egress o).queues.length) (hc : (d.queue o q).foldl (fun n g => n + g.cells) 0 + f.cells ≤ d.nat (K.qMaxCells o q)) :
    (d.enqueue o q f).queue o q = d.queue o q ++ [f] ∧ ∀ k, (d.enqueue o q f).val k = d.val k := by
  have hfree : (d.sched o).free q = true := by rw [Sched.free, hs]; rfl
  have hnever : d.gateNever o q f.body = false := by
    rw [Device.gateNever, Sched.ready, if_pos hfree]
    rfl
  have hlaunch : d.launchOf o q f = none := by
    rw [Device.launchOf, hl, ite_self]
  have hx : d.enqueue o q f = ((d.bringCredits o).setQueue o q (· ++ [f])).cellCheck := by
    unfold Device.enqueue
    rw [hnever, if_neg Bool.false_ne_true, if_neg (by rw [Device.queueCells]; omega), hlaunch]
    rfl
  have hcell := ((d.bringCredits o).setQueue o q (· ++ [f])).received_cellCheckAt ((d.bringCredits o).setQueue o q (· ++ [f])).rootPs
  have hegress : ((d.bringCredits o).setQueue o q (· ++ [f])).egress o =
      { d.egress o with credits := (List.range 8).map (fun q => d.creditNow o q), queues := updAt (d.egress o).queues q (· ++ [f]) } := by
    have h1 : (d.bringCredits o).egress o = { d.egress o with credits := (List.range 8).map (fun q => d.creditNow o q) } :=
      getD_updAt (fun e : Egress => { e with credits := (List.range 8).map (fun q => d.creditNow o q) }) {} he
    have h2 : o < (d.bringCredits o).hall.egress.length := by
      show o < (updAt _ _ _).length
      rw [length_updAt]
      exact he
    refine (getD_updAt _ {} h2).trans ?_
    rw [← Device.egress, h1]
  have hval : ∀ k, (d.enqueue o q f).val k = d.val k := fun k => by
    rw [hx, Device.cellCheck]
    unfold Device.cellCheckAt
    dsimp only
    split
    · rfl
    · split <;> rfl
  refine ⟨?_, hval⟩
  rw [hx, Device.cellCheck, hcell.queue, Device.queue, hegress]
  exact getD_updAt _ [] hq

/-- R331: a frame that the database sends to one port of its VLAN goes there alone. -/
theorem Device.forward_one {o members untagged : Nat} {f : Frame} (ho : o < 44) (hop : o ≠ p)
    (hv : vlanEntry (d.oct K.hallVlanTable) (d.vidOf p (parseFrame f.body)) = some (members, untagged)) (hm : bit members o = true)
    (hfdb : d.fdbLookup (parseFrame f.body).dst (d.vidOf p (parseFrame f.body)) = some (2 ^ o)) :
    d.forward p f = (d.learn p (parseFrame f.body).src (d.vidOf p (parseFrame f.body))).enqueue o (d.pcpQueue p (parseFrame f.body))
      { f with body := retag f.body (match (parseFrame f.body).tag with | some x => x.1 | none => 0) (d.vidOf p (parseFrame f.body)) (bit untagged o) } := by
  unfold Device.forward
  dsimp only
  rw [hv]
  dsimp only
  rw [hfdb, Option.getD_some, foldl_one _ _ List.nodup_range (List.mem_range.2 ho)]
  · exact if_pos (by rw [bit_two_pow, hm]; simp [hop])
  · intro e x _ hx
    rw [bit_two_pow]
    exact if_neg (by simp [hx])

end

theorem exec_frameReceive (s : State) (p wait fine : Nat) (body : Bytes) (err : Nat) (mem : Option MemErr) (env : HapEnv) :
    exec (.frameReceive p wait fine body err mem env) s = .next (s.on (fun d => (d.elapse wait).receive p fine body err mem (hapOfFrame p body env))) := rfl

theorem exec_frameReceive_of {s : State} {p wait fine : Nat} {body : Bytes} {err : Nat} {mem : Option MemErr} {env : HapEnv} {t : Device}
    (h : (s.dev.elapse wait).receive p fine body err mem (hapOfFrame p body env) = t) :
    exec (.frameReceive p wait fine body err mem env) s = .next { s with dev := t } := by
  rw [exec_frameReceive, State.on, h]

/-- R275: what an awake part does with a frame from the medium on a port that is UP. -/
theorem Device.receive_up (d : Device) {p : Nat} (hp : p < 44) (hl : d.link p = 3) (hr : d.clock.mtRun = true) (hb : bit (d.nat K.hallLoopMask) p = false)
    (ha : d.asleep = false) (hw : d.power.waking = none) (fine : Nat) (body : Bytes) (err : Nat) (mem : Option MemErr) (req : HapReq) :
    ∃ e word t16, d.Received e ∧ e.nat (K.portRxFrames p) = d.nat (K.portRxFrames p)
      ∧ d.receive p fine body err mem req = e.checked p (min fine 799) body word t16 err mem req := by
  have hx : d.receive p fine body err mem req = d.ingress p (min fine 799) body err mem req false := by
    have hnot : ¬ 44 ≤ p := by omega
    simp [Device.receive, hl, hr, hb, hnot]
  rw [hx]
  exact d.ingress_eq hp (by rw [Device.portUp, hl]; rfl) ha hw _ body err mem req

/-- Settles O41: the checks in Table 10-3's order, each on the part that has stamped the frame, and the forwarding of a frame to one port. -/
theorem framesPassTheChecksInOrder : Obligations.FramesPassTheChecksInOrder := by
  intro s p wait fine err body mem env hp d len counted
  refine ⟨fun h => ?_, fun hl hr hb hc => ?_, fun hl hr hb ha hw => ?_⟩
  · have hidle : d.receive p fine body err mem (hapOfFrame p body env) = d := if_pos (by
      obtain ⟨h3, h4⟩ | h := h
      · simp [h3, h4]
      · simp [h])
    exact exec_frameReceive_of hidle
  · have hx : d.receive p fine body err mem (hapOfFrame p body env) = d.bump K.hallLoopDiscard := by
      have hnot : ¬ 44 ≤ p := by omega
      unfold Device.receive
      rw [if_neg (by
        obtain h | h := hl
        · simp [h, hr, hnot]
        · simp [h, hr, hnot]), if_pos hb]
    refine ⟨_, exec_frameReceive_of hx, rfl, rfl, ?_, fun k hk => d.val_setVal_ne _ hk⟩
    exact d.nat_bumpBy 4 _ 1 (by omega)
  · obtain ⟨e, word, t16, he, hf, hx⟩ := d.receive_up hp hl hr hb ha hw fine body err mem (hapOfFrame p body env)
    refine ⟨_, exec_frameReceive_of hx, rfl, fun h1 => ?_, fun h1 h2 => ?_, fun h1 h2 h3 => ?_, fun h1 h2 h3 h4 => ?_,
      fun h1 h2 h3 h4 => ?_⟩
    all_goals have hmax : e.nat (K.portMaxFrame p) = d.nat (K.portMaxFrame p) := he.nat (rxKey_port_not (by omega) (by decide) hp)
    · dsimp only [counted]
      rw [Device.checked, if_pos h1]
      exact d.counted_drop he hf _ 1 (rxKey_port_not (by omega) (by decide) hp) hp
    · dsimp only [counted]
      rw [Device.checked, if_neg (Nat.not_lt.2 h1), hmax, if_pos h2]
      exact d.counted_drop he hf _ 2 (rxKey_port_not (by omega) (by decide) hp) hp
    · dsimp only [counted]
      rw [Device.checked, if_neg (Nat.not_lt.2 h1), hmax, if_neg (Nat.not_lt.2 h2), if_pos h3]
      exact d.counted_drop he hf _ 3 (rxKey_port_not (by omega) (by decide) hp) hp
    · dsimp only [counted]
      rw [Device.checked, if_neg (Nat.not_lt.2 h1), hmax, if_neg (Nat.not_lt.2 h2), if_neg (not_not.2 h3), if_pos h4]
      exact d.counted_wrap he hf _ (rxKey_port_not (by omega) (by decide) hp) hp
    · intro q
      dsimp only
      rw [Device.checked, if_neg (Nat.not_lt.2 h1), hmax, if_neg (Nat.not_lt.2 h2), if_neg (not_not.2 h3), if_neg h4]
      refine ⟨fun hroom hc => d.deliver_full he hf hp _ body word t16 mem _ hroom hc, fun hroom hmem hprobe hst hm hv hc hd => ?_,
        fun o members untagged ho hop hroom hmem hprobe hst hm hv hdest hc hvlan hbit hfdb hs hlen hqs hcells => ?_⟩
      all_goals subst hmem
      all_goals obtain ⟨c, f, r1, r2, rfl, r4, r5, r6, r7⟩ := d.deliver_taken he hf hp (min fine 799) body word t16 (hapOfFrame p body env) hroom hprobe hst hc
      all_goals rw [r7]
      · rw [c.hallTake_dropped _ f t16 _ ((r1.mirrored 1).trans hm) ((r1.vlanDrops _).trans hv)]
        have hdrop : c.nat K.hallVlanDrop = d.nat K.hallVlanDrop := r1.nat (by decide)
        have hne : K.portRxFrames p ≠ K.hallVlanDrop := by
          simp only [K.portRxFrames, K.hallVlanDrop]
          omega
        exact ⟨(Device.nat_bumpBy_ne _ _ _ hne).trans r2,
          (c.nat_bumpBy 4 K.hallVlanDrop 1 (by omega)).trans (congrArg (· + 1) hdrop)⟩
      · have hvid : c.vidOf p (parseFrame f.body) = d.vidOf p (parseFrame f.body) := r1.vidOf _
        generalize d.vidOf p (parseFrame f.body) = vid at hvid hvlan hfdb ⊢
        have hq : c.pcpQueue p (parseFrame f.body) = q := r1.pcpQueue _
        have hq8 : q < 8 := Nat.mod_lt _ (by decide)
        rw [c.hallTake_forward _ f t16 _ ((r1.mirrored 1).trans hm) ((r1.vlanDrops _).trans hv) ((r1.localDest hp _).trans hdest),
          c.forward_one (o := o) (members := members) (untagged := untagged) ho hop
            (by rw [hvid, r1.oct (show rxKey K.hallVlanTable = false by decide)]; exact hvlan) hbit (by rw [hvid, r1.fdbLookup]; exact hfdb), hvid, hq]
        obtain ⟨l1, l2⟩ := c.learn_frame (p := p) (parseFrame f.body).src vid
        generalize c.learn p (parseFrame f.body).src vid = g at l1 l2 ⊢
        have hegress : g.egress o = d.egress o := by rw [Device.egress, l2, r1.egress, Device.egress]
        have hqueue : g.queue o q = d.queue o q := by rw [Device.queue, hegress, Device.queue]
        have hkey : ∀ k, 0x3500 * 256 ≤ k → g.val k = d.val k := fun k hk =>
          (l1 k (by simp only [K.hallFdbFull]; omega)).trans (r1.vals k (rxKey_high (by omega) (by simp only [K.hallFdbFull]; omega)))
        have hsched : g.sched o = d.sched o := by
          rw [Device.sched, schedOf, hkey _ (by simp only [K.gateList]; omega), hkey _ (by simp only [K.gateBase]; omega),
            hkey _ (by simp only [K.gateCycle]; omega), Device.sched, schedOf]
        have hmaxc : g.nat (K.qMaxCells o q) = d.nat (K.qMaxCells o q) :=
          congrArg (fun v => v.int.toNat) (hkey _ (by simp only [K.qMaxCells]; omega))
        obtain ⟨t1, t2⟩ := g.enqueue_room (o := o) (q := q) (f := { f with
            body := retag f.body (match (parseFrame f.body).tag with | some x => x.1 | none => 0) vid (bit untagged o) })
          (by rw [hsched]; exact hs) r6 (by rw [l2, r1.egress, hlen]; exact ho) (by rw [hegress, hqs]; exact hq8)
          (by rw [hqueue, hmaxc, r5]; exact hcells)
        refine ⟨?_, _, t1.trans (congrArg (· ++ _) hqueue), r4, rfl⟩
        refine (congrArg (fun v : Val => v.int.toNat) ((t2 _).trans (l1 _ ?_))).trans r2
        simp only [K.portRxFrames, K.hallFdbFull]
        omega

end Sys2Proof.Machine
end

section
/-! Chapter 10: links and PLCA, and the obligation on them (R275 to R287, Table 10-4). -/

namespace Sys2Proof.Machine

section
variable (d : Device) {p : Nat}

/-! ## Link states (Table 10-4) -/

/-- Port p's state outside what a link change resets. -/
theorem Device.setLink_obeys (st cause : Nat) : let t := d.setLink p st cause
    t.link p = st ∧ t.clock = d.clock ∧ t.ports.length = d.ports.length ∧ (∀ k, linkKey p k = false → t.val k = d.val k)
      ∧ (16 ≤ p → ∀ k, k ≠ K.portLinkState p → t.val k = d.val k) := by
  intro t
  have hb : t.beside linkBlank (linkKey p) = d.beside linkBlank (linkKey p) := d.link_setLink p st cause
  have hplca : ∀ e : Device, (e.setPlca p 0).link p = e.link p ∧ (e.setPlca p 0).ports = e.ports := fun e => by
    unfold Device.setPlca
    split
    · exact ⟨rfl, rfl⟩
    · refine ⟨?_, rfl⟩
      exact congrArg (fun v => v.int.toNat) (e.val_setVal_ne (k := K.plcaStatus p) (j := K.portLinkState p) _ (by simp only [K.portLinkState, K.plcaStatus]; omega))
  by_cases hl : d.link p = st
  · have ht : t = d := if_pos hl
    rw [ht]
    exact ⟨hl, rfl, rfl, fun _ _ => rfl, fun _ _ _ => rfl⟩
  · have ht : t = _ := if_neg hl
    have hset : (((d.setNum (K.portLinkState p) st).report 0x0801 [p, d.link p, st, cause]).setPort p (fun u => { u with cause := cause })).link p = st := by
      exact (d.nat_setNum_self (K.portLinkState p) st).trans (Int.toNat_natCast st)
    refine ⟨?_, link_clock hb, ?_, fun k hk => val_of_beside hb hk, fun hp k hk => ?_⟩
    · rw [ht]
      split
      · exact (hplca _).1.trans hset
      · exact hset
    · rw [ht]
      split
      · refine (length_updAt _ _ _).trans ?_
        rw [(hplca _).2]
        exact length_updAt _ _ _
      · exact length_updAt _ _ _
    · rw [ht, if_neg (by simp; omega)]
      exact d.val_setVal_ne _ hk

/-- A port whose link does not change is left alone, and a change to UP, or of a port without PLCA, is the one record that it makes. -/
theorem Device.entries_setLink {st cause : Nat} (hl : d.link p ≠ st) (h : 16 ≤ p ∨ st = 3) :
    (d.setLink p st cause).entries = d.entries ++ [(0x0801, [(p : Int), (d.link p : Int), (st : Int), (cause : Int)])] := by
  have ht : d.setLink p st cause = ((d.setNum (K.portLinkState p) st).report 0x0801 [p, d.link p, st, cause]).setPort p (fun u => { u with cause := cause }) := by
    unfold Device.setLink
    dsimp only
    rw [if_neg hl, if_neg (by simp; omega)]
  rw [ht]
  exact Device.entries_report _ _ _

/-- R280, Table 10-4: what the loss of a link leaves. -/
theorem Device.linkLost_obeys (hl : d.ports.length = 44) (hp : p < 44) : let t := d.linkLost p 1
    t.nat (K.portLinkDowns p) = (if d.link p = 3 ∨ d.link p = 4 then (d.nat (K.portLinkDowns p) + 1) % 2 ^ 32 else d.nat (K.portLinkDowns p))
      ∧ t.clock = d.clock ∧ t.link p = (if d.link p = 3 then 1 else if d.link p = 4 then 5 else d.link p)
      ∧ (d.link p = 3 → (t.port p).place = none) := by
  have hne : K.portLinkDowns p ≠ K.portLinkState p ∧ K.portLinkDowns p ≠ K.plcaStatus p := by
    simp only [K.portLinkDowns, K.portLinkState, K.plcaStatus]
    omega
  have hkey : linkKey p (K.portLinkDowns p) = false := by
    simp [linkKey, hne.1, hne.2]
  have hw : (d.wrap (K.portLinkDowns p)).nat (K.portLinkDowns p) = (d.nat (K.portLinkDowns p) + 1) % 2 ^ 32 := by
    rw [Device.wrap, Device.wrapBy, Device.nat_setNum_self, Int.toNat_natCast]
  have hlost : ∀ st, ((d.wrap (K.portLinkDowns p)).setLink p st 1).nat (K.portLinkDowns p) = (d.nat (K.portLinkDowns p) + 1) % 2 ^ 32 := fun st =>
    (congrArg (fun v => v.int.toNat) (((d.wrap (K.portLinkDowns p)).setLink_obeys (p := p) st 1).2.2.2.1 _ hkey)).trans hw
  unfold Device.linkLost
  dsimp only
  rw [if_pos (rfl : (1 : Nat) = 1)]
  by_cases h3 : d.link p = 3
  · obtain ⟨s1, s2, s3, s4, _⟩ := (d.wrap (K.portLinkDowns p)).setLink_obeys (p := p) 1 1
    rw [if_pos h3, if_pos (Or.inl h3), if_pos h3]
    exact ⟨hlost 1, s2, s1, fun _ => congrArg PortUnit.place (getD_updAt (fun u : PortUnit => { u with
      place := none, placeQueue := none, sending := none, busyPs := 0, attempts := 0, backoff := none, own := [] }) {} (by
        rw [s3]
        show p < d.ports.length
        omega))⟩
  · rw [if_neg h3]
    by_cases h4 : d.link p = 4
    · obtain ⟨s1, s2, _⟩ := (d.wrap (K.portLinkDowns p)).setLink_obeys (p := p) 5 1
      rw [if_pos h4, if_pos (Or.inr h4), if_neg h3, if_pos h4]
      exact ⟨hlost 5, s2, s1, fun h => absurd h h3⟩
    · have hkept : ∀ e : Device, (if d.link p = 4 then e else if (Decidable.decide (d.link p = 2) && Decidable.decide (1 = 2)) = true then d.setLink p 1 1
          else d) = d := fun e => by simp [h4]
      rw [hkept, if_neg h3, if_neg h4, if_neg (by omega)]
      exact ⟨rfl, rfl, rfl, fun h => absurd h h3⟩

/-! ## Time under an object that no clock reads -/

/-- Time passes alike in two parts that differ in the link state of a port alone. -/
theorem Device.elapse_clock_of_link {e : Device} (hc : e.clock = d.clock) (hv : ∀ k, k ≠ K.portLinkState p → e.val k = d.val k) (n : Nat) :
    (e.elapse n).clock = (d.elapse n).clock := by
  have hnum : ∀ k, k % 256 ≠ 0x0C → e.num k = d.num k := fun k hk => congrArg Val.int (hv k (fun h => hk (by
    rw [h]
    simp only [K.portLinkState]
    omega)))
  have ha : e.aMax = d.aMax := by rw [Device.aMax, Device.nat, hnum _ (by decide), ← Device.nat, Device.aMax]
  have hg : e.mtGain = d.mtGain := funext fun n => by rw [Device.mtGain, hc, ha, Device.mtGain]
  have hticks : e.ticksToMt = d.ticksToMt := funext fun t => by
    unfold Device.ticksToMt
    rw [hc, ha]
  have hm : e.marksAfter n = d.marksAfter n := by rw [Device.marksAfter, hc, ha, hg, hticks, Device.marksAfter]
  have hd : ∀ g u x, e.domAfter g n u x = d.domAfter g n u x := fun g u x => by
    rw [Device.domAfter, Device.domFactor, hc, ha, hnum (K.domRate u) (by simp only [K.domRate]; omega), Device.domAfter, Device.domFactor]
  have hdco : e.num K.hearthDco = d.num K.hearthDco := hnum _ (by decide)
  unfold Device.elapse
  dsimp only
  rw [hc, ha, hg, hm, hdco]
  simp only [hd]

/-! ## PLCA (R283, R284) -/

theorem Device.setPlca_obeys (v : Nat) : let t := d.setPlca p v
    t.nat (K.plcaStatus p) = v ∧ t.clock = d.clock ∧ t.ports = d.ports ∧ t.outbox = d.outbox ∧ ∀ k, k ≠ K.plcaStatus p → t.val k = d.val k := by
  unfold Device.setPlca
  dsimp only
  split
  · next h => exact ⟨h, rfl, rfl, rfl, fun _ _ => rfl⟩
  · exact ⟨(d.nat_setNum_self (K.plcaStatus p) v).trans (Int.toNat_natCast v), rfl, rfl, rfl, fun k hk => d.val_setVal_ne _ hk⟩

/-- R283: the beacon of a cycle on a port at this tick. -/
def Device.beaconSeen (d : Device) (p : Nat) : Device :=
  ((if d.nat (K.plcaNodeId p) = 0 then d.emit (.beacon p) else d).setPlca p 1).setPort p (fun u => { u with beaconAt := some d.clock.ticks, burst := 0 })

/-- R287: the longest cycle, of one that took `cyc` ns. -/
def Device.cycleSeen (d1 : Device) (p longest cyc : Nat) : Device :=
  let d2 := d1.setNum (K.plcaCycleObs p) (max longest cyc : Nat)
  if d2.txBound p < cyc then d2.reportOnce (0x0805 * 65536 + p) 0x0805 [p, cyc, d2.txBound p] else d2

theorem Device.cycleSeen_obeys (longest cyc : Nat) : let t := d.cycleSeen p longest cyc
    t.clock = d.clock ∧ t.ports = d.ports ∧ t.outbox = d.outbox ∧ t.nat (K.plcaCycleObs p) = max longest cyc
      ∧ ∀ k, k ≠ K.plcaCycleObs p → t.val k = d.val k := by
  have hset : (d.setNum (K.plcaCycleObs p) (max longest cyc : Nat)).nat (K.plcaCycleObs p) = max longest cyc := by
    rw [Device.nat_setNum_self, Int.toNat_natCast]
  have hrep : ∀ (e : Device) (key code : Nat) (l : List Int), (e.reportOnce key code l).clock = e.clock ∧ (e.reportOnce key code l).ports = e.ports
      ∧ (e.reportOnce key code l).outbox = e.outbox ∧ (e.reportOnce key code l).obj = e.obj := fun e key code l => by simp
  unfold Device.cycleSeen
  dsimp only
  split
  · obtain ⟨r1, r2, r3, r4⟩ := hrep (d.setNum (K.plcaCycleObs p) (max longest cyc : Nat)) (0x0805 * 65536 + p) 0x0805
      [p, cyc, (d.setNum (K.plcaCycleObs p) (max longest cyc : Nat)).txBound p]
    exact ⟨r1, r2, r3, (nat_of_obj r4 _).trans hset, fun k hk => (val_of_obj r4 k).trans (d.val_setVal_ne _ hk)⟩
  · exact ⟨rfl, rfl, rfl, hset, fun k hk => d.val_setVal_ne _ hk⟩

theorem Device.beaconSeen_obeys (hp : p < d.ports.length) : let t := d.beaconSeen p
    t.clock = d.clock ∧ t.nat (K.plcaStatus p) = 1 ∧ (t.port p).beaconAt = some d.clock.ticks ∧ (t.port p).burst = 0
      ∧ t.outbox = d.outbox ++ (if d.nat (K.plcaNodeId p) = 0 then [.beacon p] else [])
      ∧ ∀ k, k ≠ K.plcaStatus p → t.val k = d.val k := by
  generalize hout : (if d.nat (K.plcaNodeId p) = 0 then d.emit (.beacon p) else d) = out
  have ho : out.clock = d.clock ∧ out.ports = d.ports ∧ (∀ k, out.val k = d.val k)
      ∧ out.outbox = d.outbox ++ (if d.nat (K.plcaNodeId p) = 0 then [.beacon p] else []) := by
    rw [← hout]
    split
    · exact ⟨rfl, rfl, fun _ => rfl, rfl⟩
    · exact ⟨rfl, rfl, fun _ => rfl, (List.append_nil _).symm⟩
  obtain ⟨o1, o2, o3, o4⟩ := ho
  obtain ⟨s1, s2, s3, s4, s5⟩ := out.setPlca_obeys (p := p) 1
  unfold Device.beaconSeen
  rw [hout]
  have hport : ((out.setPlca p 1).setPort p (fun u => { u with beaconAt := some d.clock.ticks, burst := 0 })).port p =
      { (out.setPlca p 1).port p with beaconAt := some d.clock.ticks, burst := 0 } :=
    getD_updAt (fun u : PortUnit => { u with beaconAt := some d.clock.ticks, burst := 0 }) {} (by rw [s3, o2]; exact hp)
  dsimp only
  rw [hport]
  exact ⟨s2.trans o1, s1, rfl, rfl, s4.trans o4, fun k hk => (s5 k hk).trans (o3 k)⟩

theorem Device.plcaBeacon_eq (hp : p < 16) (wait : Nat) (hu : (d.elapse wait).portUp p = true) (hm : (d.elapse wait).nat (K.portMode p) = 0) :
    d.plcaBeacon p wait = match ((d.elapse wait).port p).beaconAt with
      | some b => ((d.elapse wait).beaconSeen p).cycleSeen p ((d.elapse wait).nat (K.plcaCycleObs p)) (((d.elapse wait).clock.ticks - b) * 800 / 1000)
      | none => (d.elapse wait).beaconSeen p := by
  have hnot : ¬ 16 ≤ p := by omega
  unfold Device.plcaBeacon
  dsimp only
  rw [if_neg (by simp [hu, hm, hnot])]
  rfl

end

theorem exec_linkUp (s : State) (p : Nat) : exec (.linkUp p) s = .next (s.on (fun d => (d.linkUp p).portFollow d p)) := rfl
theorem exec_linkLoss (s : State) (p : Nat) : exec (.linkLoss p) s = .next (s.on (·.linkFalls p)) := rfl
theorem exec_trainingRetry (s : State) (p : Nat) : exec (.trainingRetry p) s = .next (s.on (·.trainingRetry p)) := rfl
theorem exec_plcaBeacon (s : State) (p wait : Nat) : exec (.plcaBeacon p wait) s = .next (s.on (·.plcaBeacon p wait)) := rfl
theorem exec_plcaBeaconTimeout (s : State) (p : Nat) : exec (.plcaBeaconTimeout p) s = .next (s.on (·.plcaTimeout p)) := rfl

section
variable (d : Device) {p : Nat}

/-- Table 10-4: a port in DOWN comes UP, one beyond the T1S ports through TRAINING. -/
theorem Device.linkUp_down (hp : p < 44) (hs : d.portsServed = true) (h1 : d.link p = 1) : let t := d.linkUp p
    t.link p = 3 ∧ t.clock = d.clock ∧ newReports d t =
      (if p < 16 then [(0x0801, [(p : Int), 1, 3, ((d.port p).cause : Int)])]
        else [(0x0801, [(p : Int), 1, 2, ((d.port p).cause : Int)]), (0x0801, [(p : Int), 2, 3, ((d.port p).cause : Int)])]) := by
  generalize hc : (d.port p).cause = c
  have hidle : ¬ ((!d.portsServed || Decidable.decide (44 ≤ p)) = true) := by
    simp [hs]
    omega
  by_cases h16 : p < 16
  · have hx : d.linkUp p = d.setLink p 3 c := by
      unfold Device.linkUp
      dsimp only
      rw [if_neg hidle, if_pos h16, if_pos h1, hc]
    obtain ⟨s1, s2, _⟩ := d.setLink_obeys (p := p) 3 c
    dsimp only
    rw [hx, if_pos h16]
    refine ⟨s1, s2, newReports_of_entries ?_⟩
    rw [d.entries_setLink (by omega) (Or.inr rfl), h1]
    rfl
  · have hx : d.linkUp p = (d.setLink p 2 c).setLink p 3 c := by
      unfold Device.linkUp
      dsimp only
      rw [if_neg hidle, if_neg h16, if_pos h1, hc]
    obtain ⟨r1, r2, _⟩ := d.setLink_obeys (p := p) 2 c
    obtain ⟨s1, s2, _⟩ := (d.setLink p 2 c).setLink_obeys (p := p) 3 c
    dsimp only
    rw [hx, if_neg h16]
    refine ⟨s1, s2.trans r2, newReports_of_entries ?_⟩
    rw [Device.entries_setLink _ (by rw [r1]; decide) (Or.inr rfl), d.entries_setLink (by omega) (Or.inl (by omega)), h1, r1, List.append_assoc]
    rfl

/-- Table 10-4: training of a port that serves, retried after 100 ms. -/
theorem Device.trainingRetry_obeys (h16 : 16 ≤ p) (hp : p < 44) (hs : d.portsServed = true) : let t := d.trainingRetry p
    t.link p = (if d.link p = 1 then 2 else d.link p) ∧ t.clock = (if d.link p = 2 then (d.elapse 125000000).clock else d.clock)
      ∧ ∀ k, k ≠ K.portLinkState p → t.val k = d.val k := by
  have hidle : ¬ ((!d.portsServed || Decidable.decide (p < 16) || Decidable.decide (44 ≤ p)) = true) := by
    simp [hs]
    omega
  have hms : 100 * msTicks = 125000000 := rfl
  unfold Device.trainingRetry
  dsimp only
  rw [if_neg hidle, hms]
  generalize (d.port p).cause = c
  obtain ⟨s1, s2, _, _, s5⟩ := d.setLink_obeys (p := p) 2 c
  by_cases h1 : d.link p = 1
  · rw [if_pos h1, if_pos h1, if_neg (by omega)]
    exact ⟨s1, s2, s5 h16⟩
  · rw [if_neg h1, if_neg h1]
    by_cases h2 : d.link p = 2
    · obtain ⟨r1, r2, _, _, r5⟩ := d.setLink_obeys (p := p) 1 c
      have hclock := d.elapse_clock_of_link (p := p) r2 (r5 h16) 125000000
      have hval : ∀ k, ((d.setLink p 1 c).elapse 125000000).val k = (d.setLink p 1 c).val k := Device.elapse_val _ _
      generalize (d.setLink p 1 c).elapse 125000000 = e at hclock hval ⊢
      obtain ⟨t1, t2, _, _, t5⟩ := e.setLink_obeys (p := p) 2 c
      rw [if_pos h2, if_pos h2]
      exact ⟨t1.trans h2.symm, t2.trans hclock, fun k hk => (t5 h16 k hk).trans ((hval k).trans (r5 h16 k hk))⟩
    · rw [if_neg h2, if_neg h2]
      exact ⟨rfl, rfl, fun _ _ => rfl⟩

/-- R283, R284, R287: a beacon on a PLCA port that is UP. -/
theorem Device.plcaBeacon_obeys (hp : p < 16) (hl : d.ports.length = 44) (wait : Nat) (hu : (d.elapse wait).portUp p = true)
    (hm : (d.elapse wait).nat (K.portMode p) = 0) : let e := d.elapse wait
    let t := d.plcaBeacon p wait
    t.clock = e.clock ∧ t.nat (K.plcaStatus p) = 1 ∧ (t.port p).beaconAt = some e.clock.ticks ∧ (t.port p).burst = 0
      ∧ t.outbox = e.outbox ++ (if e.nat (K.plcaNodeId p) = 0 then [.beacon p] else [])
      ∧ t.nat (K.plcaCycleObs p) = (match (e.port p).beaconAt with
          | some b => max (e.nat (K.plcaCycleObs p)) ((e.clock.ticks - b) * 800 / 1000)
          | none => e.nat (K.plcaCycleObs p)) := by
  have hx := d.plcaBeacon_eq hp wait hu hm
  have hlen : (d.elapse wait).ports.length = 44 := hl
  generalize d.elapse wait = e at hx hlen
  have hne : K.plcaStatus p ≠ K.plcaCycleObs p := by
    simp only [K.plcaStatus, K.plcaCycleObs]
    omega
  obtain ⟨b1, b2, b3, b4, b5, b6⟩ := e.beaconSeen_obeys (p := p) (by omega)
  dsimp only
  rw [hx]
  cases hb : (e.port p).beaconAt with
  | none => exact ⟨b1, b2, b3, b4, b5, congrArg (fun v => v.int.toNat) (b6 _ (Ne.symm hne))⟩
  | some b =>
    obtain ⟨c1, c2, c3, c4, c5⟩ := (e.beaconSeen p).cycleSeen_obeys (p := p) (e.nat (K.plcaCycleObs p)) ((e.clock.ticks - b) * 800 / 1000)
    have hport : ((e.beaconSeen p).cycleSeen p (e.nat (K.plcaCycleObs p)) ((e.clock.ticks - b) * 800 / 1000)).port p = (e.beaconSeen p).port p := by
      rw [Device.port, c2, Device.port]
    dsimp only
    rw [hport]
    exact ⟨c1.trans b1, (congrArg (fun v => v.int.toNat) (c5 _ hne)).trans b2, b3, b4, c3.trans b5, c4⟩

end

/-- Settles O43: each change of a link by its one step of Table 10-4, and PLCA by what a beacon and its absence leave. -/
theorem linksAndPlcaFollowTheirTables : Obligations.LinksAndPlcaFollowTheirTables := by
  refine ⟨fun s p hp hl => ?_, fun s p h16 hp hs => ?_, fun s p wait hp hl => ⟨fun h => ?_, fun hu hm => ?_⟩, fun s p b hp hl hb hu hn => ?_⟩
  · intro c up down
    have hnot : ¬ 44 ≤ p := by omega
    obtain ⟨l1, l2, l3, l4⟩ := s.dev.linkLost_obeys hl hp
    refine ⟨exec_linkUp s p, ?_, fun h => ?_, fun h h1 => s.dev.linkUp_down hp h h1, fun h h16 h2 => ?_, fun h hn => ?_, l1, l2, l3, l4⟩
    · rw [exec_linkLoss]
      exact congrArg (fun d => Host.Outcome.next { s with dev := d }) (if_neg hnot)
    · exact if_pos (by simp [h])
    · have hx : up = s.dev.setLink p 3 c := by
        show s.dev.linkUp p = _
        unfold Device.linkUp
        dsimp only
        rw [if_neg (by simp [h, hnot]), if_neg (by omega), if_neg (by omega), if_pos h2]
      rw [hx]
      exact (s.dev.setLink_obeys (p := p) 3 c).1
    · show s.dev.linkUp p = s.dev
      unfold Device.linkUp
      dsimp only
      have h1 : s.dev.link p ≠ 1 := by omega
      have h2 : s.dev.link p ≠ 2 := by omega
      rw [if_neg (by simp [h, hnot]), if_neg h1, if_neg h1, if_neg h2, ite_self]
  · exact ⟨_, exec_trainingRetry s p, rfl, s.dev.trainingRetry_obeys h16 hp hs⟩
  · have hx : s.dev.plcaBeacon p wait = s.dev.elapse wait := if_pos (by
      rw [Bool.or_eq_true, Bool.or_eq_true, decide_eq_true_eq, decide_eq_true_eq, Bool.not_eq_true']
      by_cases hu : (s.dev.elapse wait).portUp p = true
      · exact Or.inr (fun hm => h ⟨hu, hm⟩)
      · exact Or.inl (Or.inr (Bool.eq_false_iff.2 hu)))
    rw [exec_plcaBeacon, State.on, hx]
  · exact ⟨_, exec_plcaBeacon s p wait, rfl, s.dev.plcaBeacon_obeys hp hl wait hu hm⟩
  · have hx : s.dev.plcaTimeout p = ((s.dev.runTo (b + 162500000)).setPlca p 0).setPort p (fun u => { u with beaconAt := none }) := by
      unfold Device.plcaTimeout
      have hms : 130 * msTicks = 162500000 := rfl
      rw [hb]
      dsimp only
      rw [if_pos (by simp [hp, hu, hn]), hms]
    have hexec := exec_plcaBeaconTimeout s p
    rw [State.on, hx] at hexec
    clear hx
    generalize b + 162500000 = tick at hexec ⊢
    have hval : ∀ k, (s.dev.runTo tick).val k = s.dev.val k := Device.runTo_val _ _
    have hports : (s.dev.runTo tick).ports = s.dev.ports := Device.runTo_ports _ _
    generalize s.dev.runTo tick = e at hexec hval hports ⊢
    obtain ⟨t1, t2, t3, _, t5⟩ := e.setPlca_obeys (p := p) 0
    exact ⟨_, hexec, rfl, t2, t1, congrArg PortUnit.beaconAt (getD_updAt (fun u : PortUnit => { u with beaconAt := none }) {} (by
      rw [t3, hports]
      omega)), fun k hk => (t5 k hk).trans (hval k)⟩

end Sys2Proof.Machine
end

section
/-! Chapters 10 to 12: the requests of ports and of Hallway, and the obligation on them (R293, R301, R323, R351). -/

namespace Sys2Proof.Machine

section
variable (d : Device) {p : Nat}

/-! ## Objects set to 0 at once (R301) -/

theorem Device.num_setZeros (ks : List Nat) (k : Nat) : (d.setNums (ks.map (fun k => (k, (0 : Int))))).num k = if k ∈ ks then 0 else d.num k := by
  induction ks generalizing d with
  | nil => rfl
  | cons j ks ih =>
    have hstep : d.setNums ((j :: ks).map (fun k => (k, (0 : Int)))) = (d.setNum j 0).setNums (ks.map (fun k => (k, (0 : Int)))) := rfl
    rw [hstep, ih, Device.num_setNum]
    by_cases hk : k ∈ ks
    · rw [if_pos hk, if_pos (List.mem_cons_of_mem j hk)]
    · rw [if_neg hk]
      by_cases hj : k = j
      · rw [if_pos hj, if_pos (by rw [hj]; exact List.mem_cons_self)]
      · rw [if_neg hj, if_neg (fun h => (List.mem_cons.1 h).elim hj hk)]

/-- The counters of port p's receiver and transmitter, of its stamps, and of its egress record's drops. -/
def portCounts (p : Nat) : List Nat :=
  [K.portRxFrames p, K.portTxFrames p, K.portRxOctets p, K.portTxOctets p, K.portRxFcsErr p, K.portRxRunt p,
    K.portRxOversize p, K.portTxOversize p, K.portRxMacCtrl p, K.portRxSleep p, K.portLinkDowns p, K.portPhySymErr p]
def stampCounts (p : Nat) : List Nat := [K.stampInsCount p, K.stampInsDrop p, K.stampInvalid p]
def egressCounts (p : Nat) : List Nat := [K.launchLateDrop p, K.launchFarDrop p, K.gateNeverDrop p, K.sleepDiscard p]

/-- The counters of port p. -/
def portCounters (p : Nat) : List Nat :=
  portCounts p ++ (if p < 16 then [K.portCollisions p, K.portExcessColl p, K.portLateColl p] else [])
    ++ (List.range 8).map (fun q => K.portRxOverflow p q) ++ stampCounts p ++ (List.range 8).map (fun q => K.qTaildrop p q) ++ egressCounts p

theorem mem_portCounters {k : Nat} : k ∈ portCounters p ↔ k ∈ portCounts p
    ∨ k ∈ (if p < 16 then [K.portCollisions p, K.portExcessColl p, K.portLateColl p] else [])
    ∨ k ∈ (List.range 8).map (fun q => K.portRxOverflow p q) ∨ k ∈ stampCounts p ∨ k ∈ (List.range 8).map (fun q => K.qTaildrop p q)
    ∨ k ∈ egressCounts p := by
  simp only [portCounters, List.mem_append, or_assoc]

theorem Device.clearCounters_eq : d.clearCounters p = (d.setNums ((portCounters p).map (fun k => (k, (0 : Int))))).report 0x0807 [p] := rfl

/-- Every counter of a port is one of the port's own objects or of its egress record's. -/
theorem portCounters_index {k : Nat} (h : k ∈ portCounters p) : k / 256 = 0x3000 + p ∨ k / 256 = 0x3500 + p := by
  obtain h | h | h | h | h | h := mem_portCounters.1 h
  · simp only [portCounts, List.mem_cons, List.not_mem_nil, or_false, K.portRxFrames, K.portTxFrames, K.portRxOctets, K.portTxOctets, K.portRxFcsErr,
      K.portRxRunt, K.portRxOversize, K.portTxOversize, K.portRxMacCtrl, K.portRxSleep, K.portLinkDowns, K.portPhySymErr] at h
    omega
  · split at h
    · simp only [List.mem_cons, List.not_mem_nil, or_false, K.portCollisions, K.portExcessColl, K.portLateColl] at h
      omega
    · exact absurd h List.not_mem_nil
  · obtain ⟨q, hq, rfl⟩ := List.mem_map.1 h
    rw [List.mem_range] at hq
    simp only [K.portRxOverflow]
    omega
  · simp only [stampCounts, List.mem_cons, List.not_mem_nil, or_false, K.stampInsCount, K.stampInsDrop, K.stampInvalid] at h
    omega
  · obtain ⟨q, hq, rfl⟩ := List.mem_map.1 h
    rw [List.mem_range] at hq
    simp only [K.qTaildrop]
    omega
  · simp only [egressCounts, List.mem_cons, List.not_mem_nil, or_false, K.launchLateDrop, K.launchFarDrop, K.gateNeverDrop, K.sleepDiscard] at h
    omega

theorem Device.clearCounters_nat {k : Nat} (h : k ∈ portCounters p) : (d.clearCounters p).nat k = 0 := by
  have hnum : (d.clearCounters p).num k = 0 := by
    rw [d.clearCounters_eq, Device.report_num, d.num_setZeros, if_pos h]
  rw [Device.nat, hnum]
  rfl

theorem Device.setNums_val_ne (l : List (Nat × Int)) {k : Nat} (h : ∀ x ∈ l, k ≠ x.1) : (d.setNums l).val k = d.val k := by
  induction l generalizing d with
  | nil => rfl
  | cons x l ih =>
    obtain ⟨hx, hl⟩ := List.forall_mem_cons.1 h
    exact (ih _ hl).trans (d.val_setVal_ne _ hx)

/-- R301: what PORT_CNT_CLEAR leaves. -/
theorem Device.clearCounters_obeys : let t := d.clearCounters p
    (∀ k ∈ [K.portRxFrames p, K.portTxFrames p, K.portRxOctets p, K.portTxOctets p, K.portRxFcsErr p, K.portRxRunt p, K.portRxOversize p,
        K.portTxOversize p, K.portRxMacCtrl p, K.portRxSleep p, K.portLinkDowns p, K.portPhySymErr p, K.stampInsCount p, K.stampInsDrop p,
        K.stampInvalid p, K.launchLateDrop p, K.launchFarDrop p, K.gateNeverDrop p, K.sleepDiscard p], t.nat k = 0)
    ∧ (∀ q, q < 8 → t.nat (K.portRxOverflow p q) = 0 ∧ t.nat (K.qTaildrop p q) = 0)
    ∧ newReports d t = [(0x0807, [(p : Int)])]
    ∧ ∀ k, k / 256 ≠ 0x3000 + p → k / 256 ≠ 0x3500 + p → t.val k = d.val k := by
  refine ⟨fun k hk => d.clearCounters_nat (mem_portCounters.2 ?_), fun q hq => ⟨d.clearCounters_nat (mem_portCounters.2 ?_),
    d.clearCounters_nat (mem_portCounters.2 ?_)⟩, newReports_of_entries ?_, fun k h1 h2 => ?_⟩
  · have hk : k ∈ portCounts p ++ stampCounts p ++ egressCounts p := hk
    rw [List.mem_append, List.mem_append] at hk
    obtain (hk | hk) | hk := hk
    · exact Or.inl hk
    · exact Or.inr (Or.inr (Or.inr (Or.inl hk)))
    · exact Or.inr (Or.inr (Or.inr (Or.inr (Or.inr hk))))
  · exact Or.inr (Or.inr (Or.inl (List.mem_map.2 ⟨q, List.mem_range.2 hq, rfl⟩)))
  · exact Or.inr (Or.inr (Or.inr (Or.inr (Or.inl (List.mem_map.2 ⟨q, List.mem_range.2 hq, rfl⟩)))))
  · rw [d.clearCounters_eq, Device.entries_report, entries_of_attic (d.setNums_attic _)]
  · rw [d.clearCounters_eq]
    refine (Device.report_val _ _ _ _).trans (d.setNums_val_ne _ (fun x hx => ?_))
    obtain ⟨j, hj, rfl⟩ := List.mem_map.1 hx
    intro hkj
    obtain h | h := portCounters_index hj
    · exact h1 (by rw [hkj]; exact h)
    · exact h2 (by rw [hkj]; exact h)

end

/-! ## The requests -/

theorem portCntClear_row : ∀ p < 44, dictFind (K.portCntClear p / 256) (K.portCntClear p % 256)
    = some ⟨0x3000, 0x302B, 0x29, 0x29, .uns 1, .wo, .num 0, .span 1 1, 0⟩ := by decide +kernel

theorem stampProbeSend_row : ∀ p < 44, dictFind (K.stampProbeSend p / 256) (K.stampProbeSend p % 256)
    = some ⟨0x3000, 0x302B, 0x4B, 0x4B, .octets 6, .wo, .rep 6 0, .any, 0⟩ := by decide +kernel

theorem hallFdbFlush_row : dictFind (K.hallFdbFlush / 256) (K.hallFdbFlush % 256)
    = some ⟨0x3400, 0x3400, 0x05, 0x05, .uns 1, .wo, .num 0, .span 1 1, 0⟩ := rfl

theorem xphyMdio_row : dictFind (K.xphyMdio / 256) (K.xphyMdio % 256)
    = some ⟨0x3100, 0x3100, 0x01, 0x01, .octets 8, .rw, .rep 8 0, .any, 0⟩ := rfl

/-- The index and sub of an object of port p. -/
theorem portObject_split (p j : Nat) (hj : j < 256) : ((0x3000 + p) * 256 + j) / 256 = 0x3000 + p ∧ ((0x3000 + p) * 256 + j) % 256 = j := by omega

/-- An object of a port is a command by the port's own table. -/
theorem Device.highAction_port (d : Device) (a : Asker) {p j : Nat} (hp : p < 44) (hj : j < 256) (b : Bytes) :
    d.highAction a ((0x3000 + p) * 256 + j) b = d.portAction p j b := by
  obtain ⟨h1, h2⟩ := portObject_split p j hj
  unfold Device.highAction
  dsimp only
  rw [h1, h2, if_pos (by simp; omega), Nat.add_sub_cancel_left]

theorem State.portCntClear_written (s : State) (h : HapHdr) {p : Nat} (hp : p < 44) (hw : s.writes h (K.portCntClear p) [1]) :
    exec (.portCntClear h p [1]) s = .next (s.wrote h (K.portCntClear p) [1] ((s.asWritten h (K.portCntClear p) [1]).clearCounters p).done) := by
  have hexec : exec (.portCntClear h p [1]) s = .next (s.hapWrite h (K.portCntClear p) [1]) := by
    obtain ⟨h1, h2⟩ := portObject_split p 0x29 (by decide)
    rw [State.hapWrite, K.portCntClear, h1, h2]
    exact congrArg (fun i => Host.Outcome.next (s.hap h 2 (0x3000 + i) 0x29 [1])) (Nat.mod_eq_of_lt hp)
  have hruled : ∀ p < 44, lengthRuled (K.portCntClear p) = false := by decide
  have hrange : ∀ p < 44, rangeBad (K.portCntClear p) ⟨0x3000, 0x302B, 0x29, 0x29, .uns 1, .wo, .num 0, .span 1 1, 0⟩ [1] = false := by decide
  have hlow : 0x3000 * 256 ≤ K.portCntClear p ∧ K.portCntClear p ≠ K.khOwnerKeySet := by
    simp only [K.portCntClear, K.khOwnerKeySet]
    omega
  exact hexec.trans (congrArg _ (s.highCommand_written h hw (portCntClear_row p hp) rfl hlow.1 hlow.2 (hruled p hp) rfl (hrange p hp)
    fun a _ _ _ _ _ => Device.highAction_port _ a hp (by decide) _))

theorem State.stampProbeSend_written (s : State) (h : HapHdr) {p : Nat} {v : Bytes} (hp : p < 44) (hv : v.length = 6)
    (hw : s.writes h (K.stampProbeSend p) v) :
    exec (.stampProbeSend h p v) s = .next (s.wrote h (K.stampProbeSend p) v (answerOf ((s.asWritten h (K.stampProbeSend p) v).sendProbe p v))) := by
  obtain ⟨h1, h2⟩ := portObject_split p 0x4B (by decide)
  have hexec : exec (.stampProbeSend h p v) s = .next (s.hapWrite h (K.stampProbeSend p) v) := by
    rw [State.hapWrite, K.stampProbeSend, h1, h2]
    exact congrArg (fun i => Host.Outcome.next (s.hap h 2 (0x3000 + i) 0x4B v)) (Nat.mod_eq_of_lt hp)
  have hruled : ∀ p < 44, lengthRuled (K.stampProbeSend p) = false := by decide
  have hrange : rangeBad (K.stampProbeSend p) ⟨0x3000, 0x302B, 0x4B, 0x4B, .octets 6, .wo, .rep 6 0, .any, 0⟩ v = false := by
    have hbad : octetsBad (K.stampProbeSend p) v = false := by
      unfold octetsBad
      rw [K.stampProbeSend, h1, h2]
      dsimp only
      rw [if_pos (by simp; omega), if_neg (by decide)]
      simp
    exact hbad
  have hlow : 0x3000 * 256 ≤ K.stampProbeSend p ∧ K.stampProbeSend p ≠ K.khOwnerKeySet := by
    simp only [K.stampProbeSend, K.khOwnerKeySet]
    omega
  exact hexec.trans (congrArg _ (s.highCommand_written h hw (stampProbeSend_row p hp) rfl hlow.1 hlow.2 (hruled p hp) (by simp [Ty.allows, hv]) hrange
    fun a _ _ _ _ _ => Device.highAction_port _ a hp (by decide) _))

theorem State.hallFdbFlush_written (s : State) (h : HapHdr) (hw : s.writes h K.hallFdbFlush [1]) :
    exec (.hallFdbFlush h [1]) s = .next (s.wrote h K.hallFdbFlush [1] (s.asWritten h K.hallFdbFlush [1]).flushFdb.done) :=
  congrArg Host.Outcome.next (s.highCommand_written h hw hallFdbFlush_row rfl (by decide) (by decide) (by decide) rfl (by decide)
    fun _ _ _ _ _ _ => rfl)

theorem State.xphyMdio_written (s : State) (h : HapHdr) {v : Bytes} (hv : v.length = 8) (hw : s.writes h K.xphyMdio v) :
    exec (.xphyMdio h v) s = .next (s.wrote h K.xphyMdio v (answerOf ((s.asWritten h K.xphyMdio v).writeXphyMdio v h.env.mdio))) :=
  congrArg Host.Outcome.next (s.action_granted h _ v _ _ hw xphyMdio_row ⟨by decide, by decide⟩ (Device.needsSession_rw _ rfl (by decide))
    (Device.lengthBad_plain _ _ _ _ (by decide) (by simp [Ty.allows, hv])) (rangeBad_plain v (.inl ⟨8, rfl⟩) (by decide))
    fun a _ henv _ _ _ => by
      rw [if_neg (by decide), ← henv]
      rfl)

/-- R293: the checks of an XPHY_MDIO value. -/
theorem mdioBad_iff (v : Bytes) :
    (Decidable.decide (1 < fieldNat v 0 1) || Decidable.decide (fieldNat v 1 1 < 32) || Decidable.decide (39 < fieldNat v 1 1)
      || Decidable.decide (fieldNat v 2 1 = 0) || Decidable.decide (31 < fieldNat v 2 1) || Decidable.decide (fieldNat v 3 1 ≠ 0)) = true ↔
    ¬ (fieldNat v 0 1 < 2 ∧ 32 ≤ fieldNat v 1 1 ∧ fieldNat v 1 1 ≤ 39 ∧ 1 ≤ fieldNat v 2 1 ∧ fieldNat v 2 1 ≤ 31 ∧ fieldNat v 3 1 = 0) := by
  simp only [Bool.or_eq_true, decide_eq_true_eq]
  omega

theorem Device.writeXphyMdio_bad (d : Device) {v : Bytes} (answer : Nat)
    (h : ¬ (fieldNat v 0 1 < 2 ∧ 32 ≤ fieldNat v 1 1 ∧ fieldNat v 1 1 ≤ 39 ∧ 1 ≤ fieldNat v 2 1 ∧ fieldNat v 2 1 ≤ 31 ∧ fieldNat v 3 1 = 0)) :
    d.writeXphyMdio v answer = (St.range, d) := if_pos ((mdioBad_iff v).2 h)

theorem Device.writeXphyMdio_good (d : Device) {v : Bytes} (answer : Nat)
    (h : fieldNat v 0 1 < 2 ∧ 32 ≤ fieldNat v 1 1 ∧ fieldNat v 1 1 ≤ 39 ∧ 1 ≤ fieldNat v 2 1 ∧ fieldNat v 2 1 ≤ 31 ∧ fieldNat v 3 1 = 0) :
    d.writeXphyMdio v answer = (St.ok, (d.emit (.mdio (Decidable.decide (fieldNat v 0 1 = 1)) (fieldNat v 1 1 - 32) (fieldNat v 2 1) (fieldNat v 4 2)
      (fieldNat v 6 2))).setOct K.xphyMdio (if fieldNat v 0 1 = 0 then v.take 6 ++ toBE 2 (answer % 65536) else v)) :=
  if_neg (fun hb => (mdioBad_iff v).1 hb h)

theorem Device.sendProbe_off (d : Device) {p : Nat} {v : Bytes} (h : d.nat (K.stampProbeEtype p) = 0 ∨ d.portUp p = false) :
    d.sendProbe p v = (St.state, d) :=
  if_pos (by rw [Bool.or_eq_true, decide_eq_true_eq, Bool.not_eq_true']; exact h)

theorem Device.sendProbe_on (d : Device) {p : Nat} {v : Bytes} (he : d.nat (K.stampProbeEtype p) ≠ 0) (hu : d.portUp p = true) :
    let seq := (d.nat (K.stampProbeTxSeq p) + 1) % 65536
    d.sendProbe p v = (St.ok, (d.setNum (K.stampProbeTxSeq p) seq).ipSend p 0
      { body := v ++ d.oct (K.portMac p) ++ toBE 2 (d.nat (K.stampProbeEtype p)) ++ toBE 2 seq ++ List.replicate 44 0, src := 0x102, tag := .probe }) :=
  if_neg (by rw [Bool.or_eq_true, decide_eq_true_eq, Bool.not_eq_true', not_or]; exact ⟨he, by rw [hu]; decide⟩)

/-- Settles O44: each request by the command that its write is. -/
theorem portAndSwitchRequestsActAtOnce : Obligations.PortAndSwitchRequestsActAtOnce := by
  refine ⟨fun s h p hp => ?_, fun s h => ?_, fun s h v hv => ?_, fun s h p v hp hv => ?_⟩
  · intro d hw
    exact ⟨s.portCntClear_written h hp hw, d.clearCounters_obeys⟩
  · intro d hw
    exact s.hallFdbFlush_written h hw
  · intro d f good hw
    have hx := s.xphyMdio_written h hv hw
    refine ⟨fun hbad => ?_, fun hgood => ?_⟩
    · rw [hx, Device.writeXphyMdio_bad _ _ hbad]
      rfl
    · rw [hx, Device.writeXphyMdio_good _ _ hgood]
      rfl
  · intro d et seq hw
    have hx := s.stampProbeSend_written h hp hv hw
    refine ⟨fun hoff => ?_, fun het hup => ?_⟩
    · rw [hx, Device.sendProbe_off _ hoff]
      rfl
    · rw [hx, Device.sendProbe_on _ het hup]
      rfl

end Sys2Proof.Machine
end

section
/-! Chapter 10: the CAN controllers, and the obligation on them (R297 to R300). -/

namespace Sys2Proof.Machine

section
variable (d : Device) {n : Nat}

/-! ## States of a controller (Table 10-9) -/

/-- What a change of state that is not to BUS_OFF leaves. -/
theorem Device.setCan_obeys {st : Nat} (h4 : st ≠ 4) : let t := d.setCan n st
    t.nat (K.canState n) = st ∧ t.clock = d.clock ∧ t.foyer = d.foyer ∧ t.outbox = d.outbox ∧ t.power = d.power
      ∧ (∀ k, k ≠ K.canState n → t.val k = d.val k)
      ∧ t.entries = d.entries ++ (if d.nat (K.canState n) = st then [] else
          [(0x0806, [(n : Int), (d.nat (K.canState n) : Int), (st : Int), d.num (K.canTec n)])]) := by
  intro t
  by_cases hs : d.nat (K.canState n) = st
  · have ht : t = d := if_pos hs
    rw [ht, if_pos hs]
    exact ⟨hs, rfl, rfl, rfl, rfl, fun _ _ => rfl, (List.append_nil _).symm⟩
  · have ht : t = (d.setNum (K.canState n) st).report 0x0806 [(n : Int), (d.nat (K.canState n) : Nat), st, d.num (K.canTec n)] :=
      (if_neg hs).trans (if_neg h4)
    rw [ht, if_neg hs]
    exact ⟨(d.nat_setNum_self (K.canState n) st).trans (Int.toNat_natCast st), rfl, rfl, rfl, rfl, fun k hk => d.val_setVal_ne _ hk,
      Device.entries_report _ _ _⟩

/-- A controller that goes off the bus is counted. -/
theorem Device.setCan_off (hs : d.nat (K.canState n) ≠ 4) (hc : d.nat (K.canBusoffCount n) < 2 ^ 32 - 1) : let t := d.setCan n 4
    t.nat (K.canState n) = 4 ∧ t.nat (K.canBusoffCount n) = d.nat (K.canBusoffCount n) + 1 ∧ t.clock = d.clock
      ∧ ∀ k, k ≠ K.canState n → k ≠ K.canBusoffCount n → t.val k = d.val k := by
  have hne : K.canBusoffCount n ≠ K.canState n := by
    simp only [K.canBusoffCount, K.canState]
    omega
  have ht : d.setCan n 4 = ((d.setNum (K.canState n) (4 : Nat)).report 0x0806 [(n : Int), (d.nat (K.canState n) : Nat), (4 : Nat), d.num (K.canTec n)]).bump
      (K.canBusoffCount n) := (if_neg hs).trans (if_pos rfl)
  have hset : ((d.setNum (K.canState n) (4 : Nat)).report 0x0806 [(n : Int), (d.nat (K.canState n) : Nat), (4 : Nat), d.num (K.canTec n)]).nat (K.canState n)
      = 4 := d.nat_setNum_self (K.canState n) (4 : Nat)
  have hval : ∀ k, k ≠ K.canState n →
      ((d.setNum (K.canState n) (4 : Nat)).report 0x0806 [(n : Int), (d.nat (K.canState n) : Nat), (4 : Nat), d.num (K.canTec n)]).val k = d.val k :=
    fun k hk => d.val_setVal_ne _ hk
  dsimp only
  rw [ht]
  generalize hd1 : (d.setNum (K.canState n) (4 : Nat)).report 0x0806 [(n : Int), (d.nat (K.canState n) : Nat), (4 : Nat), d.num (K.canTec n)] = d1
    at hset hval ⊢
  have hclock : d1.clock = d.clock := by
    rw [← hd1]
    rfl
  have hcount : d1.nat (K.canBusoffCount n) = d.nat (K.canBusoffCount n) := congrArg (fun v => v.int.toNat) (hval _ hne)
  refine ⟨(d1.nat_bumpBy_ne 4 1 (Ne.symm hne)).trans hset, (d1.nat_bumpBy 4 _ 1 (by omega)).trans (congrArg (· + 1) hcount), hclock,
    fun k h1 h2 => (d1.val_setVal_ne _ h2).trans (hval k h1)⟩

/-- Table 10-9: the state that the error counters give. -/
def Device.canGraded (d : Device) (n : Nat) : Nat := if d.nat (K.canTec n) < 128 ∧ d.nat (K.canRec n) < 128 then 2 else 3

theorem Device.canGraded_ne : d.canGraded n ≠ 4 := by
  unfold Device.canGraded
  split <;> decide

theorem Device.canGrade_eq : d.canGrade n = d.setCan n (d.canGraded n) := by
  unfold Device.canGrade Device.canGraded
  simp only [Bool.and_eq_true, decide_eq_true_eq]

theorem canKeys (n : Nat) : K.canTec n ≠ K.canState n ∧ K.canRec n ≠ K.canState n ∧ K.canErrFrames n ≠ K.canState n ∧ K.canRec n ≠ K.canTec n
    ∧ K.canErrFrames n ≠ K.canTec n ∧ K.canErrFrames n ≠ K.canRec n ∧ K.canTec n ≠ K.canBusoffCount n ∧ K.canRec n ≠ K.canBusoffCount n
    ∧ K.canErrFrames n ≠ K.canBusoffCount n ∧ K.canRxFrames n ≠ K.canRec n ∧ K.canRxFrames n ≠ K.canState n ∧ K.canRxDiscard n ≠ K.canRec n
    ∧ K.canRxDiscard n ≠ K.canState n ∧ K.canRxDiscard n ≠ K.canRxFrames n := by
  simp only [K.canTec, K.canState, K.canRec, K.canErrFrames, K.canBusoffCount, K.canRxFrames, K.canRxDiscard]
  omega

theorem Device.canIntegrated_obeys (hn : n < 4) (h1 : d.nat (K.canState n) = 1) : let t := d.canIntegrated n
    t.clock = d.clock ∧ t.nat (K.canState n) = d.canGraded n
      ∧ (newReports d t).head? = some (0x0806, [(n : Int), 1, 2, d.num (K.canTec n)]) ∧ ∀ k, k ≠ K.canState n → t.val k = d.val k := by
  obtain ⟨k1, k2, _⟩ := canKeys n
  have ht : d.canIntegrated n = (d.setCan n 2).canGrade n := if_pos (by simp [h1, hn])
  dsimp only
  rw [ht, Device.canGrade_eq]
  obtain ⟨a1, a2, _, _, _, a6, a7⟩ := d.setCan_obeys (n := n) (st := 2) (by decide)
  obtain ⟨b1, b2, _, _, _, b6, b7⟩ := (d.setCan n 2).setCan_obeys (n := n) (d.setCan n 2).canGraded_ne
  have hgrade : (d.setCan n 2).canGraded n = d.canGraded n := by
    have ht : (d.setCan n 2).nat (K.canTec n) = d.nat (K.canTec n) := congrArg (fun v => v.int.toNat) (a6 _ k1)
    have hr : (d.setCan n 2).nat (K.canRec n) = d.nat (K.canRec n) := congrArg (fun v => v.int.toNat) (a6 _ k2)
    rw [Device.canGraded, ht, hr, Device.canGraded]
  rw [h1, if_neg (by decide)] at a7
  refine ⟨b2.trans a2, b1.trans hgrade, ?_, fun k hk => (b6 k hk).trans (a6 k hk)⟩
  rw [newReports_of_entries (b7.trans (by rw [a7, List.append_assoc]))]
  rfl

theorem Device.canRecover_obeys (hn : n < 4) (h4 : d.nat (K.canState n) = 4) : let t := d.canRecover n
    t.nat (K.canState n) = 1 ∧ t.nat (K.canTec n) = 0 ∧ t.nat (K.canRec n) = 0 ∧ newReports d t = [(0x0806, [(n : Int), 4, 1, 0])] := by
  obtain ⟨k1, k2, _, k4, _⟩ := canKeys n
  have ht : d.canRecover n = (d.setNums [(K.canTec n, 0), (K.canRec n, 0)]).setCan n 1 := if_pos (by simp [h4, hn])
  have hval : ∀ k, (d.setNums [(K.canTec n, 0), (K.canRec n, 0)]).num k = if k = K.canRec n then 0 else if k = K.canTec n then 0 else d.num k := fun k =>
    (Device.num_setNum _ _ _ _).trans (congrArg (fun v => if k = K.canRec n then (0 : Int) else v) (d.num_setNum _ _ _))
  have hent : (d.setNums [(K.canTec n, 0), (K.canRec n, 0)]).entries = d.entries := entries_of_attic (d.setNums_attic _)
  dsimp only
  rw [ht]
  generalize d.setNums [(K.canTec n, 0), (K.canRec n, 0)] = e at hval hent ⊢
  have htec : e.num (K.canTec n) = 0 := by rw [hval, if_neg (Ne.symm k4), if_pos rfl]
  have hrec : e.num (K.canRec n) = 0 := by rw [hval, if_pos rfl]
  have hst : e.nat (K.canState n) = 4 := by rw [Device.nat, hval, if_neg (Ne.symm k2), if_neg (Ne.symm k1), ← Device.nat, h4]
  obtain ⟨a1, _, _, _, _, a6, a7⟩ := e.setCan_obeys (n := n) (st := 1) (by decide)
  rw [hst, htec, if_neg (by decide), hent] at a7
  refine ⟨a1, ?_, ?_, newReports_of_entries a7⟩
  · rw [Device.nat, Device.num, a6 _ k1, ← Device.num, htec]
    rfl
  · rw [Device.nat, Device.num, a6 _ k2, ← Device.num, hrec]
    rfl

/-! ## Errors (R300) -/

/-- R300: the part with a bus error of controller n counted. -/
def Device.canHurt (d : Device) (n : Nat) (tec rec : Int) : Device :=
  ((d.bump (K.canErrFrames n)).setNum (K.canTec n) (clamp 0 255 (d.num (K.canTec n) + tec))).setNum (K.canRec n) (clamp 0 255 (d.num (K.canRec n) + rec))

theorem Device.canHurt_obeys (tec rec : Int) (hc : d.nat (K.canErrFrames n) < 2 ^ 32 - 1) : let t := d.canHurt n tec rec
    t.clock = d.clock ∧ t.nat (K.canErrFrames n) = d.nat (K.canErrFrames n) + 1 ∧ t.num (K.canTec n) = clamp 0 255 (d.num (K.canTec n) + tec)
      ∧ t.num (K.canRec n) = clamp 0 255 (d.num (K.canRec n) + rec)
      ∧ ∀ k, k ≠ K.canErrFrames n → k ≠ K.canTec n → k ≠ K.canRec n → t.num k = d.num k := by
  obtain ⟨_, _, _, k4, k5, k6, _⟩ := canKeys n
  have hnum : ∀ k, (d.canHurt n tec rec).num k = if k = K.canRec n then clamp 0 255 (d.num (K.canRec n) + rec)
      else if k = K.canTec n then clamp 0 255 (d.num (K.canTec n) + tec) else (d.bump (K.canErrFrames n)).num k := fun k =>
    (Device.num_setNum _ _ _ _).trans (congrArg (fun v => if k = K.canRec n then clamp 0 255 (d.num (K.canRec n) + rec) else v) (Device.num_setNum _ _ _ _))
  have hbump := d.nat_bumpBy 4 (K.canErrFrames n) 1 (by omega)
  refine ⟨rfl, ?_, ?_, ?_, fun k h1 h2 h3 => ?_⟩
  · rw [Device.nat, hnum, if_neg k6, if_neg k5]
    exact hbump
  · rw [hnum, if_neg (Ne.symm k4), if_pos rfl]
  · rw [hnum, if_pos rfl]
  · rw [hnum, if_neg h3, if_neg h2]
    exact congrArg Val.int (d.val_setVal_ne _ h1)

theorem Device.canError_obeys (tec rec : Int) (ha : d.canActive n = true) (h1 : d.nat (K.canErrFrames n) < 2 ^ 32 - 1)
    (h2 : d.nat (K.canBusoffCount n) < 2 ^ 32 - 1) : let t1 := d.num (K.canTec n) + tec
    let t := d.canError n tec rec
    t.clock = d.clock ∧ t.nat (K.canErrFrames n) = d.nat (K.canErrFrames n) + 1 ∧ t.num (K.canTec n) = clamp 0 255 t1
      ∧ t.num (K.canRec n) = clamp 0 255 (d.num (K.canRec n) + rec)
      ∧ (255 < t1 → t.nat (K.canState n) = 4 ∧ t.nat (K.canBusoffCount n) = d.nat (K.canBusoffCount n) + 1)
      ∧ (t1 ≤ 255 → t.nat (K.canState n) = (if t.nat (K.canTec n) < 128 ∧ t.nat (K.canRec n) < 128 then 2 else 3)) := by
  obtain ⟨k1, k2, k3, k4, k5, k6, k7, k8, k9, _⟩ := canKeys n
  have hst : d.nat (K.canState n) ≠ 4 := by
    simp only [Device.canActive, Bool.and_eq_true, Bool.or_eq_true, decide_eq_true_eq] at ha
    omega
  have ht : d.canError n tec rec = if 255 < d.num (K.canTec n) + tec then (d.canHurt n tec rec).setCan n 4 else (d.canHurt n tec rec).canGrade n :=
    if_neg (by simp [ha])
  obtain ⟨e1, e2, e3, e4, e5⟩ := d.canHurt_obeys (n := n) tec rec h1
  have hbus : K.canBusoffCount n ≠ K.canErrFrames n ∧ K.canBusoffCount n ≠ K.canTec n ∧ K.canBusoffCount n ≠ K.canRec n := ⟨Ne.symm k9, Ne.symm k7, Ne.symm k8⟩
  have hcount : (d.canHurt n tec rec).nat (K.canBusoffCount n) = d.nat (K.canBusoffCount n) := congrArg Int.toNat (e5 _ hbus.1 hbus.2.1 hbus.2.2)
  have hstate : (d.canHurt n tec rec).nat (K.canState n) = d.nat (K.canState n) := congrArg Int.toNat (e5 _ (Ne.symm k3) (Ne.symm k1) (Ne.symm k2))
  generalize d.canHurt n tec rec = e at e1 e2 e3 e4 e5 ht hcount hstate
  intro t1 t
  have ht' : t = _ := ht
  by_cases hover : 255 < t1
  · rw [ht', if_pos hover]
    obtain ⟨s1, s2, s3, s4⟩ := e.setCan_off (n := n) (by rw [hstate]; exact hst) (by rw [hcount]; exact h2)
    exact ⟨s3.trans e1, (congrArg (fun v => v.int.toNat) (s4 _ k3 k9)).trans e2, (congrArg Val.int (s4 _ k1 k7)).trans e3,
      (congrArg Val.int (s4 _ k2 k8)).trans e4, fun _ => ⟨s1, s2.trans (congrArg (· + 1) hcount)⟩, fun h => absurd h (by omega)⟩
  · rw [ht', if_neg hover, Device.canGrade_eq]
    obtain ⟨s1, s2, _, _, _, s6, _⟩ := e.setCan_obeys (n := n) e.canGraded_ne
    refine ⟨s2.trans e1, (congrArg (fun v => v.int.toNat) (s6 _ k3)).trans e2, (congrArg Val.int (s6 _ k1)).trans e3,
      (congrArg Val.int (s6 _ k2)).trans e4, fun h => absurd h hover, fun _ => s1.trans ?_⟩
    have ht : (e.setCan n (e.canGraded n)).nat (K.canTec n) = e.nat (K.canTec n) := congrArg (fun v => v.int.toNat) (s6 _ k1)
    have hr : (e.setCan n (e.canGraded n)).nat (K.canRec n) = e.nat (K.canRec n) := congrArg (fun v => v.int.toNat) (s6 _ k2)
    rw [ht, hr]
    rfl

/-! ## Frames (R299) -/

/-- R299: the part with a frame that controller n received. -/
def Device.canHeard (d : Device) (n : Nat) : Device :=
  ((d.bump (K.canRxFrames n)).setNum (K.canRec n) (if 127 < d.nat (K.canRec n) then 127 else d.nat (K.canRec n) - 1 : Nat)).canGrade n

theorem Device.canReceived_eq (ident : Nat) (cc : Bool) : d.canReceived n ident cc =
    if (d.canHap n && !cc && Decidable.decide (ident = d.nat K.hapCanReqId)) = true then (true, d.canHeard n)
    else (false, (d.canHeard n).bump (K.canRxDiscard n)) := rfl

theorem Device.canHeard_obeys (hc : d.nat (K.canRxFrames n) < 2 ^ 32 - 1) : let t := d.canHeard n
    t.clock = d.clock ∧ t.nat (K.canRxFrames n) = d.nat (K.canRxFrames n) + 1 ∧ t.nat (K.canRxDiscard n) = d.nat (K.canRxDiscard n)
      ∧ t.foyer = d.foyer ∧ t.outbox = d.outbox := by
  obtain ⟨_, _, _, _, _, _, _, _, _, k10, k11, k12, k13, k14⟩ := canKeys n
  have hbump := d.nat_bumpBy 4 (K.canRxFrames n) 1 (by omega)
  unfold Device.canHeard
  generalize ((if 127 < d.nat (K.canRec n) then 127 else d.nat (K.canRec n) - 1 : Nat) : Int) = r
  dsimp only
  have h1 : ((d.bump (K.canRxFrames n)).setNum (K.canRec n) r).nat (K.canRxFrames n) = d.nat (K.canRxFrames n) + 1 := by
    rw [Device.nat_setNum, if_neg k10]
    exact hbump
  have h2 : ((d.bump (K.canRxFrames n)).setNum (K.canRec n) r).nat (K.canRxDiscard n) = d.nat (K.canRxDiscard n) := by
    rw [Device.nat_setNum, if_neg k12]
    exact d.nat_bumpBy_ne 4 1 k14
  have h3 : ((d.bump (K.canRxFrames n)).setNum (K.canRec n) r).clock = d.clock ∧ ((d.bump (K.canRxFrames n)).setNum (K.canRec n) r).foyer = d.foyer
      ∧ ((d.bump (K.canRxFrames n)).setNum (K.canRec n) r).outbox = d.outbox := ⟨rfl, rfl, rfl⟩
  generalize (d.bump (K.canRxFrames n)).setNum (K.canRec n) r = e at h1 h2 h3 ⊢
  rw [Device.canGrade_eq]
  obtain ⟨s1, s2, s3, s4, _, s6, _⟩ := e.setCan_obeys (n := n) e.canGraded_ne
  exact ⟨s2.trans h3.1, (congrArg (fun v => v.int.toNat) (s6 _ k11)).trans h1, (congrArg (fun v => v.int.toNat) (s6 _ k13)).trans h2, s3.trans h3.2.1,
    s4.trans h3.2.2⟩

/-- A received frame leaves the power state and FB_STATE. -/
theorem Device.canHeard_power : (d.canHeard n).power = d.power ∧ (d.canHeard n).asleep = d.asleep := by
  unfold Device.canHeard
  generalize ((if 127 < d.nat (K.canRec n) then 127 else d.nat (K.canRec n) - 1 : Nat) : Int) = r
  rw [Device.canGrade_eq]
  obtain ⟨_, _, _, _, s5, s6, _⟩ := ((d.bump (K.canRxFrames n)).setNum (K.canRec n) r).setCan_obeys (n := n)
    ((d.bump (K.canRxFrames n)).setNum (K.canRec n) r).canGraded_ne
  have hkeys : K.fbState ≠ K.canState n ∧ K.fbState ≠ K.canRec n ∧ K.fbState ≠ K.canRxFrames n := by
    simp only [K.fbState, K.canState, K.canRec, K.canRxFrames]
    omega
  refine ⟨s5, ?_⟩
  have hfb : ((d.bump (K.canRxFrames n)).setNum (K.canRec n) r).val K.fbState = d.val K.fbState :=
    (Device.val_setVal_ne _ _ hkeys.2.1).trans (d.val_setVal_ne _ hkeys.2.2)
  rw [Device.asleep, Device.nat, Device.num, s6 _ hkeys.1, hfb, ← Device.num, ← Device.nat, ← Device.asleep]

end

/-! ## CAN_CFG (R297, R298) -/

theorem canCfg_row : ∀ n < 4, dictFind (K.canCfg n / 256) (K.canCfg n % 256)
    = some ⟨0x3110, 0x3113, 0x01, 0x01, .octets 20, .rw, .bytes [3, 1, 2, 79, 20, 20, 1, 7, 2, 2, 8, 0, 0, 0, 0, 0, 0, 0, 0, 0], .any, 0⟩ := by
  decide +kernel

theorem Device.highAction_canCfg (d : Device) (a : Asker) {n : Nat} (hn : n < 4) (b : Bytes) : d.highAction a (K.canCfg n) b = some (d.canCfg n b) := by
  have h1 : K.canCfg n / 256 = 0x3110 + n := by rw [K.canCfg]; omega
  have h2 : K.canCfg n ≠ K.xphyMdio := by simp only [K.canCfg, K.xphyMdio]; omega
  unfold Device.highAction
  dsimp only
  rw [h1, if_neg (by simp; omega), if_neg h2, if_pos (by simp; omega), Nat.add_sub_cancel_left]

theorem State.canCfg_written (s : State) (h : HapHdr) {n : Nat} {v : Bytes} (hn : n < 4) (hv : v.length = 20) (hw : s.writes h (K.canCfg n) v) :
    exec (.canCfg h n v) s = .next (s.wrote h (K.canCfg n) v ((s.asWritten h (K.canCfg n) v).canCfg n v)) := by
  have hexec : exec (.canCfg h n v) s = .next (s.hapWrite h (K.canCfg n) v) := by
    have h1 : K.canCfg n / 256 = 0x3110 + n := by rw [K.canCfg]; omega
    have h2 : K.canCfg n % 256 = 0x01 := by rw [K.canCfg]; omega
    rw [State.hapWrite, h1, h2]
    exact congrArg (fun i => Host.Outcome.next (s.hap h 2 (0x3110 + i) 0x01 v)) (Nat.mod_eq_of_lt hn)
  have hruled : ∀ n < 4, lengthRuled (K.canCfg n) = false ∧ octetsRuled (K.canCfg n) = false := by decide
  have hlow : 0x3000 * 256 ≤ K.canCfg n ∧ K.canCfg n ≠ K.khOwnerKeySet := by
    simp only [K.canCfg, K.khOwnerKeySet]
    omega
  exact hexec.trans (congrArg _ (s.action_granted h _ v _ _ hw (canCfg_row n hn) ⟨by decide, by decide⟩ (Device.needsSession_rw _ rfl hlow.2)
    (Device.lengthBad_plain _ _ _ _ (hruled n hn).1 (by simp [Ty.allows, hv])) (rangeBad_plain v (.inl ⟨20, rfl⟩) (hruled n hn).2)
    fun a _ _ _ _ _ => by rw [if_neg (Nat.not_lt.2 hlow.1), Device.highAction_canCfg _ a hn]))

section
variable (d : Device) {n : Nat} {v : Bytes}

/-- The transport of the owner that a controller may not take from under it. -/
def Device.canOwner (d : Device) : Option Nat := d.foyer.owner.bind (fun o => if o.transport < 4 then some o.transport else none)

theorem Device.canOwner_iff (hn : n < 4) : d.canOwner = some n ↔ ∃ o, d.foyer.owner = some o ∧ o.transport = n := by
  unfold Device.canOwner
  cases d.foyer.owner with
  | none => simp
  | some o =>
    simp only [Option.bind_some, Option.some.injEq, exists_eq_left']
    constructor
    · intro h
      split at h
      · exact Option.some.inj h
      · exact absurd h (by simp)
    · intro h
      rw [if_pos (by omega), h]

/-- The reply of CAN_CFG whose checks gave `st`. -/
def Device.canReply (d : Device) (n : Nat) (v : Bytes) (st : Nat) : Reply :=
  { status := some st, pay := [], dev := d, after := fun x => if st = St.ok then (x.writeCanCfg n v d.canOwner).2 else x }

theorem Device.canCfg_eq : d.canCfg n v = d.canReply n v (d.writeCanCfg n v d.canOwner).1 := rfl

theorem Device.canCfg_refused {st : Nat} (hst : st ≠ St.ok) (h : (d.writeCanCfg n v d.canOwner).1 = st) : d.canCfg n v = d.answer st := by
  have hid : (fun x : Device => if st = St.ok then (x.writeCanCfg n v d.canOwner).2 else x) = id := funext fun x => if_neg hst
  rw [d.canCfg_eq, h, Device.canReply, hid]
  rfl

theorem Device.writeCanCfg_range (owner : Option Nat) (hb : canCfgBad v = true) : d.writeCanCfg n v owner = (St.range, d) := if_pos hb

theorem Device.writeCanCfg_state (owner : Option Nat) (hb : canCfgBad v = false) (h : fieldNat v 0 1 < 2 ∧ owner = some n) :
    d.writeCanCfg n v owner = (St.state, d) := by
  unfold Device.writeCanCfg
  rw [hb, if_neg Bool.false_ne_true]
  exact if_pos (by simp [h.1, h.2])

theorem Device.writeCanCfg_ok (owner : Option Nat) (hb : canCfgBad v = false) (h : ¬ (fieldNat v 0 1 < 2 ∧ owner = some n)) (hr : d.clock.mtRun = true) :
    d.writeCanCfg n v owner = (St.ok, (d.setOct (K.canCfg n) v).setCan n (if fieldNat v 0 1 = 0 then 0 else 1)) := by
  unfold Device.writeCanCfg
  rw [hb, if_neg Bool.false_ne_true, if_neg (by simpa using h)]
  dsimp only
  rw [if_neg (by simp [Device.setOct, hr])]

/-- R297, R298: an accepted CAN_CFG takes effect as its answer leaves. -/
theorem Device.canCfg_taken (hb : canCfgBad v = false) (h : ¬ (fieldNat v 0 1 < 2 ∧ d.canOwner = some n)) (hr : d.clock.mtRun = true) :
    (d.canCfg n v).status = some 0 ∧ (d.canCfg n v).pay = [] ∧ (d.canCfg n v).dev = d
      ∧ ∀ y : Device, y.clock.mtRun = true → (d.canCfg n v).after y = (y.setOct (K.canCfg n) v).setCan n (if fieldNat v 0 1 = 0 then 0 else 1) := by
  have hok : (d.writeCanCfg n v d.canOwner).1 = St.ok := by rw [d.writeCanCfg_ok _ hb h hr]
  refine ⟨congrArg some hok, rfl, rfl, fun y hy => ?_⟩
  have hx : (d.canCfg n v).after y = if (d.writeCanCfg n v d.canOwner).1 = St.ok then (y.writeCanCfg n v d.canOwner).2 else y := rfl
  rw [hx, if_pos hok, y.writeCanCfg_ok _ hb h hy]

end

theorem exec_canIntegrated (s : State) (n : Nat) : exec (.canIntegrated n) s = .next (s.on (·.canIntegrated n)) := rfl
theorem exec_canBusoffRecovery (s : State) (n : Nat) : exec (.canBusoffRecovery n) s = .next (s.on (·.canRecover n)) := rfl
theorem exec_canError (s : State) (n : Nat) (tec rec : Int) : exec (.canError n tec rec) s = .next (s.on (·.canError n tec rec)) := rfl
theorem exec_canFrameReceive (s : State) (n ident : Nat) (fmt : CanFmt) (data : Bytes) (env : HapEnv) :
    exec (.canFrameReceive n ident fmt data env) s = .next (s.on (·.canFrame n ident fmt data env)) := rfl

/-- R299: a frame that the controller does not take part in receiving. -/
theorem Device.canFrame_idle (d : Device) {n ident : Nat} {fmt : CanFmt} {data : Bytes} {env : HapEnv}
    (h : d.canActive n = false ∨ ¬ ((fmt = .xl → d.canMode n = 3) ∧ (fmt = .fd → 2 ≤ d.canMode n))) : d.canFrame n ident fmt data env = d :=
  if_pos (by
    simp only [Bool.or_eq_true, Bool.and_eq_true, Bool.not_eq_true', decide_eq_true_eq]
    obtain h | h := h
    · exact Or.inl (Or.inl h)
    · by_cases hx : fmt = .xl → d.canMode n = 3
      · rw [not_and] at h
        have := h hx
        rw [Classical.not_imp] at this
        exact Or.inr ⟨this.1, by omega⟩
      · rw [Classical.not_imp] at hx
        exact Or.inl (Or.inr hx))

theorem Device.canFrame_eq (d : Device) {n ident : Nat} {fmt : CanFmt} {data : Bytes} {env : HapEnv} (ha : d.canActive n = true)
    (hc : (fmt = .xl → d.canMode n = 3) ∧ (fmt = .fd → 2 ≤ d.canMode n)) : d.canFrame n ident fmt data env =
      match d.canReceived n ident (fmt = .cc) with
      | (false, d1) => d1
      | (true, d1) =>
        let r := hapOfBytes { transport := n, addr := [], port := 0 } (fmt = .xl) data env
        if d1.asleep then d1.holdHap r 1 n else if d1.power.serving then d1.takeHap r else d1 :=
  if_neg (by
    simp only [Bool.or_eq_true, Bool.and_eq_true, Bool.not_eq_true', decide_eq_true_eq, ha, Bool.true_eq_false, false_or, not_or, not_and]
    exact ⟨fun hx => not_not.2 (hc.1 hx), fun hf => Nat.not_lt.2 (hc.2 hf)⟩)

/-- R35, R36: the frames of a controller that are HAP requests. -/
theorem Device.canRequest_iff (d : Device) {n ident : Nat} {fmt : CanFmt} :
    (d.canHap n && !(Decidable.decide (fmt = .cc)) && Decidable.decide (ident = d.nat K.hapCanReqId)) = true ↔
      d.canHap n = true ∧ fmt ≠ .cc ∧ ident = d.nat K.hapCanReqId := by
  simp only [Bool.and_eq_true, Bool.not_eq_true', decide_eq_true_eq, decide_eq_false_iff_not, and_assoc]

/-- Settles O45: integration, errors, recovery, received frames and CAN_CFG by what each leaves of its controller. -/
theorem canControllersFollowTheirStates : Obligations.CanControllersFollowTheirStates := by
  refine ⟨fun s n hn => ⟨fun h => ?_, fun h => ⟨_, exec_canIntegrated s n, rfl, s.dev.canIntegrated_obeys hn h⟩, fun h => ?_,
      fun h => ⟨_, exec_canBusoffRecovery s n, rfl, s.dev.canRecover_obeys hn h⟩⟩,
    fun s n tec rec => ⟨fun h => ?_, fun ha h1 h2 => ⟨_, exec_canError s n tec rec, rfl, s.dev.canError_obeys tec rec ha h1 h2⟩⟩,
    fun s n ident fmt data env => ?_, fun s h n v hn hv => ?_⟩
  · have hx : s.dev.canIntegrated n = s.dev := if_neg (by simp [h])
    rw [exec_canIntegrated, State.on, hx]
  · have hx : s.dev.canRecover n = s.dev := if_neg (by simp [h])
    rw [exec_canBusoffRecovery, State.on, hx]
  · have hx : s.dev.canError n tec rec = s.dev := if_pos (by simp [h])
    rw [exec_canError, State.on, hx]
  · intro carried request
    refine ⟨fun h => ?_, fun ha hc hr h1 h2 => ?_, fun ha hc hr hs hv => ?_⟩
    · rw [exec_canFrameReceive, State.on, s.dev.canFrame_idle h]
    · have hx := s.dev.canFrame_eq (ident := ident) (data := data) (env := env) ha hc
      rw [Device.canReceived_eq, if_neg (mt s.dev.canRequest_iff.1 hr)] at hx
      have hexec := exec_canFrameReceive s n ident fmt data env
      rw [State.on, hx] at hexec
      obtain ⟨t1, t2, t3, t4, t5⟩ := s.dev.canHeard_obeys (n := n) h1
      generalize s.dev.canHeard n = e at hexec t1 t2 t3 t4 t5
      obtain ⟨_, _, _, _, _, _, _, _, _, _, _, _, _, k14⟩ := canKeys n
      exact ⟨_, hexec, rfl, t1, (e.nat_bumpBy_ne 4 1 (Ne.symm k14)).trans t2,
        (e.nat_bumpBy 4 (K.canRxDiscard n) 1 (by omega)).trans (congrArg (· + 1) t3), t4, t5⟩
    · obtain ⟨p1, p2⟩ := s.dev.canHeard_power (n := n)
      have hcc : Decidable.decide (fmt = .cc) = false := decide_eq_false hr.2.1
      have hcond : (s.dev.canHap n && !false && Decidable.decide (ident = s.dev.nat K.hapCanReqId)) = true := by
        rw [← hcc]
        exact s.dev.canRequest_iff.2 hr
      have hx := s.dev.canFrame_eq (ident := ident) (data := data) (env := env) ha hc
      rw [hcc, Device.canReceived_eq, if_pos hcond] at hx
      dsimp only at hx
      rw [p2, hs, if_neg Bool.false_ne_true, p1, hv, if_pos rfl] at hx
      rw [exec_canFrameReceive, State.on, State.on, hx, Device.canReceived_eq, if_pos hcond]
  · intro d mine hw
    have hx := s.canCfg_written h hn hv hw
    refine ⟨fun hb => ?_, fun hb hf hm => ?_, fun hb hnot hr => ?_⟩
    · rw [hx, Device.canCfg_refused _ (st := St.range) (by decide) (by rw [Device.writeCanCfg_range _ _ hb])]
      rfl
    · rw [hx, Device.canCfg_refused _ (st := St.state) (by decide)
        (by rw [Device.writeCanCfg_state _ _ hb ⟨hf, (Device.canOwner_iff _ hn).2 hm⟩])]
      rfl
    · exact ⟨_, hx, d.canCfg_taken hb (fun hc => hnot ⟨hc.1, (d.canOwner_iff hn).1 hc.2⟩) hr⟩

end Sys2Proof.Machine
end

section
/-! Chapter 13: the obligation on admission, which a part with a queue number out of its range does not keep (R374, R334). -/

namespace Sys2Proof.Machine

/-- A part that admits no request and answers refusals of ring 0 on queue 786,396, a number that PAR_REFUSE_QUEUE may not have: the tail-drop
counter that such a number names on port 0 is RING_REFUSED of ring 0. -/
def misqueuedPart : Device :=
  { obj := [(K.parRefuseQueue, .num 786396), (K.parAdmitStopped, .num 1), (K.refuseRate 0, .num 1)], clock := { ticks := 1250000000 } }

/-- A request at port 0. -/
def misqueuedRequest : RxFrame := { port := 0, body := [], stamp := [], rx16 := 0, end16 := 0, endPs := 0, capPs := 0, steps := 0 }

theorem misqueued_refused : (misqueuedPart.decide misqueuedRequest 0 0).nat (K.ringRefused 0) = 2 := by decide +kernel
theorem misqueued_admitted : (misqueuedPart.decide misqueuedRequest 0 0).nat (K.ringAdmitted 0) = 0 := by decide +kernel

/-- Refutes O46: where PAR_REFUSE_QUEUE is out of its range, the refusal's own tail drop raises RING_REFUSED a second time, so that the request is
neither refused with one count nor admitted. -/
theorem not_admissionGuaranteesTheBound : ¬ Obligations.AdmissionGuaranteesTheBound := by
  intro h
  obtain ⟨_, hdecide⟩ := h
  have hcounts : misqueuedPart.nat (K.ringRefused 0) = 0 ∧ misqueuedPart.nat (K.ringAdmitted 0) = 0 := by decide +kernel
  obtain ⟨_, hor, _⟩ := hdecide misqueuedPart misqueuedRequest 0 0 (Or.inl rfl) (by decide) (by decide)
    (by rw [hcounts.1]; decide) (by rw [hcounts.2]; decide)
  rw [misqueued_refused, misqueued_admitted, hcounts.1, hcounts.2] at hor
  obtain ⟨h1, _⟩ | ⟨h1, _⟩ := hor
  · exact absurd h1 (by decide)
  · exact absurd h1 (by decide)

end Sys2Proof.Machine
end

section
/-! Chapter 13: responses on their way out and their returned stamps (R367, R369, R384). -/

namespace Sys2Proof.Machine

theorem exec_responseHandover (s : State) (mem : Option MemErr) : exec (.responseHandover mem) s = .next (s.on (·.handover mem)) := rfl
theorem exec_txStampReturn (s : State) : exec .txStampReturn s = .next (s.on (·.stampBack)) := rfl

section
variable (d : Device) {p q : Nat}

/-! ## Freed cells (R332, R333) -/

theorem Device.cellCheckAt_frame (ps : Nat) : (d.cellCheckAt ps).parl = d.parl ∧ (d.cellCheckAt ps).hall.waiting = d.hall.waiting
    ∧ (d.cellCheckAt ps).ports = d.ports ∧ (d.cellCheckAt ps).obj = d.obj ∧ (d.cellCheckAt ps).outbox = d.outbox := by
  unfold Device.cellCheckAt
  dsimp only
  split
  · exact ⟨rfl, rfl, rfl, rfl, rfl⟩
  · split
    · exact ⟨rfl, rfl, rfl, rfl, rfl⟩
    · exact ⟨rfl, rfl, rfl, rfl, rfl⟩

theorem Device.freeEnded_frame : d.freeEnded.parl = d.parl ∧ d.freeEnded.hall.waiting = d.hall.waiting ∧ d.freeEnded.ports.length = d.ports.length
    ∧ d.freeEnded.obj = d.obj ∧ d.freeEnded.outbox = d.outbox ∧ ∀ p, (d.freeEnded.port p).place = (d.port p).place := by
  have hfold : ∀ (l : List Nat) (e : Device), let t := l.foldl (fun d t => d.cellCheckAt t) e
      t.parl = e.parl ∧ t.hall.waiting = e.hall.waiting ∧ t.ports = e.ports ∧ t.obj = e.obj ∧ t.outbox = e.outbox := by
    intro l
    induction l with
    | nil => exact fun e => ⟨rfl, rfl, rfl, rfl, rfl⟩
    | cons x l ih =>
      intro e
      obtain ⟨i1, i2, i3, i4, i5⟩ := ih (e.cellCheckAt x)
      obtain ⟨c1, c2, c3, c4, c5⟩ := e.cellCheckAt_frame x
      exact ⟨i1.trans c1, i2.trans c2, i3.trans c3, i4.trans c4, i5.trans c5⟩
  unfold Device.freeEnded
  dsimp only
  obtain ⟨f1, f2, f3, f4, f5⟩ := hfold
    ((d.ports.filterMap (fun u => if u.sending.isSome && u.busyPs ≤ d.rootPs then some u.busyPs else none)).mergeSort (· ≤ ·)) d
  generalize List.foldl (fun d t => d.cellCheckAt t) d _ = e at f1 f2 f3 f4 f5 ⊢
  refine ⟨f1, f2, by rw [List.length_map, f3], f4, f5, fun p => ?_⟩
  rw [Device.port, Device.port, f3, List.getD_eq_getElem?_getD, List.getD_eq_getElem?_getD, List.getElem?_map]
  cases d.ports[p]? with
  | none => rfl
  | some u =>
    dsimp only [Option.map_some, Option.getD_some]
    split <;> rfl

/-! ## Hand-over (R334, R367) -/

theorem Device.Received.reserveRoom {d t : Device} (h : d.Received t) (n : Nat) : t.reserveRoom n = d.reserveRoom n := by
  rw [Device.reserveRoom, Device.cellsBy, h.copies, h.nat (by decide), Device.reserveRoom, Device.cellsBy]

/-- The frame as Hallway stores it when Parlour hands it over. -/
def Device.handed (d : Device) (f : Frame) : Frame := { f with id := d.freeEnded.hall.nextId, cells := cellsOf f.body }

/-- R334: without reserve cells the frame waits for them. -/
theorem Device.handFrame_waits (r : Resv) (f : Frame) (h : d.reserveRoom (cellsOf f.body) = false) : let t := d.handFrame r f
    t.parl = d.parl ∧ t.clock = d.clock ∧ t.hall.waiting = d.hall.waiting ++ [(r.port, d.nat K.parQueue, f)] := by
  obtain ⟨f1, f2, _, f4, _, _⟩ := d.freeEnded_frame
  have hx : d.handFrame r f = { d.freeEnded with hall := { d.freeEnded.hall with
      waiting := d.freeEnded.hall.waiting ++ [(r.port, d.freeEnded.nat K.parQueue, f)] } } :=
    if_pos (by rw [d.received_freeEnded.reserveRoom, h]; rfl)
  dsimp only
  rw [hx]
  exact ⟨f1, d.received_freeEnded.clock, by rw [f2, nat_of_obj f4]⟩

/-- R367: behind a frame in Porch's place the frame heads the service queue, unless that is full. -/
theorem Device.handFrame_queued (r : Resv) (f : Frame) {f0 : Frame} (h : d.reserveRoom (cellsOf f.body) = true)
    (hp : (d.port r.port).place = some f0) : let t := d.handFrame r f
    let q := d.nat K.parQueue
    t.parl = d.parl ∧ t.clock = d.clock
      ∧ (d.queueCells r.port q + cellsOf f.body ≤ d.nat (K.qMaxCells r.port q) → r.port < d.hall.egress.length → q < (d.egress r.port).queues.length →
          ∃ g, t.queue r.port q = g :: d.queue r.port q ∧ g.body = f.body ∧ g.tag = f.tag)
      ∧ (d.nat (K.qMaxCells r.port q) < d.queueCells r.port q + cellsOf f.body → t.queue r.port q = d.queue r.port q
          ∧ (d.nat (K.qTaildrop r.port q) < 2 ^ 32 - 1 → t.nat (K.qTaildrop r.port q) = d.nat (K.qTaildrop r.port q) + 1)) := by
  intro t q
  obtain ⟨f1, _, _, f4, _, f6⟩ := d.freeEnded_frame
  have hrec := d.received_freeEnded
  have hqueue : d.freeEnded.queue r.port q = d.queue r.port q := hrec.queue _ _
  have hcells : d.freeEnded.queueCells r.port q = d.queueCells r.port q := by rw [Device.queueCells, hqueue, Device.queueCells]
  have hnat : ∀ k, d.freeEnded.nat k = d.nat k := nat_of_obj f4
  have hq : d.freeEnded.nat K.parQueue = q := hnat _
  have hplace : (d.freeEnded.port r.port).place.isNone = false := by rw [f6, hp]; rfl
  have hx : t = if d.nat (K.qMaxCells r.port q) < d.queueCells r.port q + cellsOf f.body
      then d.freeEnded.numberFrame.egressDrop r.port 1 q (K.qTaildrop r.port q)
      else ((d.freeEnded.numberFrame.bringCredits r.port).setQueue r.port q (fun l => d.handed f :: l)).cellCheck := by
    show d.handFrame r f = _
    unfold Device.handFrame
    dsimp only
    rw [hrec.reserveRoom, h, Bool.not_true, if_neg Bool.false_ne_true, hplace, if_neg Bool.false_ne_true, hq, hnat, hcells]
    rfl
  clear_value t q
  by_cases hfull : d.nat (K.qMaxCells r.port q) < d.queueCells r.port q + cellsOf f.body
  · rw [if_pos hfull] at hx
    have hdrop : t.parl = d.freeEnded.parl ∧ t.clock = d.freeEnded.clock ∧ t.hall = d.freeEnded.numberFrame.hall
        ∧ t.obj = (d.freeEnded.bump (K.qTaildrop r.port q)).obj := by
      rw [hx, Device.egressDrop]
      simp [Device.numberFrame]
      rfl
    obtain ⟨t1, t2, t3, t4⟩ := hdrop
    refine ⟨t1.trans f1, t2.trans hrec.clock, fun h => absurd h (by omega), fun _ => ⟨?_, fun hc => ?_⟩⟩
    · rw [Device.queue, Device.egress, t3]
      exact hqueue
    · rw [nat_of_obj t4, Device.bump, d.freeEnded.nat_bumpBy 4 _ 1 (by rw [hnat]; omega), hnat]
  · rw [if_neg hfull] at hx
    generalize hy : (d.freeEnded.numberFrame.bringCredits r.port).setQueue r.port q (fun l => d.handed f :: l) = y at hx
    have hy1 : y.parl = d.freeEnded.parl ∧ y.clock = d.freeEnded.clock := by
      rw [← hy]
      exact ⟨rfl, rfl⟩
    obtain ⟨c1, _⟩ := y.cellCheckAt_frame y.rootPs
    have hcr := y.received_cellCheckAt y.rootPs
    rw [hx]
    refine ⟨(c1.trans hy1.1).trans f1, (hcr.clock.trans hy1.2).trans hrec.clock, fun _ hl hlq => ⟨d.handed f, ?_, rfl, rfl⟩, fun h => absurd h hfull⟩
    have hegr : d.freeEnded.numberFrame.hall.egress = d.hall.egress := hrec.egress
    have hegress : y.egress r.port = { d.egress r.port with
        credits := (List.range 8).map (fun q => d.freeEnded.numberFrame.creditNow r.port q),
        queues := updAt (d.egress r.port).queues q (fun l => d.handed f :: l) } := by
      have h1 : (d.freeEnded.numberFrame.bringCredits r.port).egress r.port =
          { d.egress r.port with credits := (List.range 8).map (fun q => d.freeEnded.numberFrame.creditNow r.port q) } := by
        refine (getD_updAt (fun e : Egress => { e with credits := (List.range 8).map (fun q => d.freeEnded.numberFrame.creditNow r.port q) }) {}
          (by rw [hegr]; exact hl)).trans ?_
        rw [hegr]
        rfl
      have h2 : r.port < (d.freeEnded.numberFrame.bringCredits r.port).hall.egress.length := by
        show r.port < (updAt _ _ _).length
        rw [length_updAt, hegr]
        exact hl
      rw [← hy]
      refine (getD_updAt (fun e : Egress => { e with queues := updAt e.queues q (fun l => d.handed f :: l) }) {} h2).trans ?_
      rw [← Device.egress, h1]
    rw [Device.cellCheck, hcr.queue, Device.queue, hegress]
    exact getD_updAt _ [] hlq

/-- R367: with Porch's place free the frame takes it. -/
theorem Device.handFrame_taken (r : Resv) (f : Frame) (h : d.reserveRoom (cellsOf f.body) = true) (hp : (d.port r.port).place = none)
    (hl : r.port < d.ports.length) (hm : bit (d.nat K.hallLoopMask) r.port = false) : let t := d.handFrame r f
    t.parl = d.parl ∧ t.clock = d.clock ∧ (t.port r.port).place = some (d.handed f) := by
  obtain ⟨f1, _, f3, f4, _, f6⟩ := d.freeEnded_frame
  have hrec := d.received_freeEnded
  have hplace : (d.freeEnded.port r.port).place.isNone = true := by rw [f6, hp]; rfl
  have hmask : bit (d.freeEnded.numberFrame.nat K.hallLoopMask) r.port = false := by
    show bit (d.freeEnded.nat K.hallLoopMask) r.port = false
    rw [nat_of_obj f4]
    exact hm
  have hx : d.handFrame r f = (d.freeEnded.numberFrame.takePlace r.port (some (d.freeEnded.nat K.parQueue)) (d.handed f)).cellCheck := by
    unfold Device.handFrame
    dsimp only
    rw [hrec.reserveRoom, h, Bool.not_true, if_neg Bool.false_ne_true, hplace, if_pos rfl, Device.releaseTo, hmask, if_neg Bool.false_ne_true]
    rfl
  dsimp only
  rw [hx]
  generalize hy : d.freeEnded.numberFrame.takePlace r.port (some (d.freeEnded.nat K.parQueue)) (d.handed f) = y
  have hy1 : y.parl = d.freeEnded.parl ∧ y.clock = d.freeEnded.clock ∧ (y.port r.port).place = some (d.handed f) := by
    rw [← hy]
    exact ⟨rfl, rfl, congrArg PortUnit.place (getD_updAt (fun u : PortUnit => { u with
      place := some (d.handed f), placeQueue := some (d.freeEnded.nat K.parQueue), releasedPs := d.freeEnded.numberFrame.rootPs }) {} (by
        show r.port < d.freeEnded.ports.length
        rw [f3]
        exact hl))⟩
  obtain ⟨c1, _, c3, _⟩ := y.cellCheckAt_frame y.rootPs
  have hport : (y.cellCheck).port r.port = y.port r.port := by rw [Device.port, Device.cellCheck, c3, Device.port]
  rw [hport]
  exact ⟨(c1.trans hy1.1).trans f1, ((y.received_cellCheckAt y.rootPs).clock.trans hy1.2.1).trans hrec.clock, hy1.2.2⟩

/-! ## The first reservation (R367, R369) -/

theorem Device.handover_none (mem : Option MemErr) (h : d.nextResv = none) : d.handover mem = d := by
  rw [Device.handover, h]

/-- The part as a reservation's start comes. -/
def Device.resvDue (d : Device) (r : Resv) : Device := (d.runToMt (ceilDiv r.start 1000)).setParl (fun a => { a with resv := a.resv.erase r })

theorem Device.handover_plain {r : Resv} (h : d.nextResv = some r) (ht : ∀ id i, r.frame.tag ≠ .leaf id i) :
    d.handover none = (d.resvDue r).handFrame r r.frame := by
  rw [Device.handover, h]
  dsimp only
  cases hr : r.frame.tag with
  | leaf id i => exact absurd hr (ht id i)
  | none => rfl
  | probe => rfl
  | entry id => rfl
  | ptp n k c => rfl
  | root => rfl

theorem Device.handover_lost {r : Resv} {id : Nat} {mem : Option MemErr} (h : d.nextResv = some r) (ht : r.frame.tag = .entry id)
    (hm : fatalErr mem = true) : d.handover mem = ((d.resvDue r).meetError mem).entryLost id := by
  rw [Device.handover, h]
  dsimp only
  rw [ht]
  dsimp only
  rw [hm]
  rfl

/-- R30: counting a memory error touches no object, reservation or output. -/
theorem Device.meetError_frame (mem : Option MemErr) : (d.meetError mem).parl = d.parl ∧ (d.meetError mem).obj = d.obj
    ∧ (d.meetError mem).outbox = d.outbox := by
  cases mem with
  | none => exact ⟨rfl, rfl, rfl⟩
  | some e =>
    refine ⟨?_, ?_, ?_⟩
    · exact Device.reportOnce_parl _ _ _ _
    · exact Device.reportOnce_obj _ _ _ _
    · exact Device.reportOnce_outbox _ _ _ _

theorem Device.entryLost_obeys {id : Nat} {f : Flight} (hf : d.parl.flights.find? (fun x => x.id = id) = some f)
    (hc : d.nat (K.ringIntegrityLoss f.ring) < 2 ^ 32 - 1) : let t := d.entryLost id
    (∀ x ∈ t.parl.flights, x.id ≠ id) ∧ t.nat (K.ringIntegrityLoss f.ring) = d.nat (K.ringIntegrityLoss f.ring) + 1
      ∧ (∀ x ∈ t.parl.resv, x.frame.tag ≠ .entry id) ∧ t.outbox = d.outbox := by
  have hx : d.entryLost id = ((d.bump (K.ringIntegrityLoss f.ring)).setParl (fun a => { a with
      flights := a.flights.filter (fun x => x.id ≠ id), resv := a.resv.filter (fun r => r.frame.tag ≠ .entry id) })).report 0x0A07
        [f.ring, (d.bump (K.ringIntegrityLoss f.ring)).num (K.ringIntegrityLoss f.ring)] := by
    rw [Device.entryLost, hf]
    rfl
  dsimp only
  rw [hx]
  exact ⟨fun x hx => of_decide_eq_true (List.mem_filter.1 hx).2, d.nat_bumpBy 4 _ 1 (by omega),
    fun x hx => of_decide_eq_true (List.mem_filter.1 hx).2, rfl⟩

/-! ## Returned stamps (R369, R384) -/

theorem ringKeys (g : Nat) : K.ringObsMin g ≠ K.ringObsMax g ∧ K.ringObsSum g ≠ K.ringObsMax g ∧ K.ringObsSum g ≠ K.ringObsMin g
    ∧ K.ringObsCount g ≠ K.ringObsMax g ∧ K.ringObsCount g ≠ K.ringObsMin g ∧ K.ringObsCount g ≠ K.ringObsSum g
    ∧ K.ringMisses g ≠ K.ringObsMax g ∧ K.ringMisses g ≠ K.ringObsMin g ∧ K.ringMisses g ≠ K.ringObsSum g ∧ K.ringMisses g ≠ K.ringObsCount g
    ∧ K.ringObsHist g ≠ K.ringObsMax g ∧ K.ringObsHist g ≠ K.ringObsMin g ∧ K.ringObsHist g ≠ K.ringObsCount g ∧ K.ringObsHist g ≠ K.ringMisses g
    ∧ K.ringStepSpanned g ≠ K.ringObsCount g ∧ K.ringStepSpanned g ≠ K.ringMisses g := by
  simp only [K.ringObsMin, K.ringObsMax, K.ringObsSum, K.ringObsCount, K.ringMisses, K.ringObsHist, K.ringStepSpanned]
  omega

/-- R384: the statistics of ring g with a latency of `l` ns. -/
def Device.latencySeen (d : Device) (g : Nat) (l : Int) : Device :=
  (((d.setNum (K.ringObsMin g) (min (d.num (K.ringObsMin g)) l)).setNum (K.ringObsMax g) (max (d.num (K.ringObsMax g)) l)).bumpBy 8 (K.ringObsSum g)
    l.toNat).bump64 (K.ringObsCount g)

theorem Device.latencySeen_obeys {g : Nat} (l : Int) (hc : d.nat (K.ringObsCount g) < 2 ^ 64 - 1) : let t := d.latencySeen g l
    t.parl = d.parl ∧ t.clock = d.clock ∧ t.attic = d.attic ∧ t.nat (K.ringObsCount g) = d.nat (K.ringObsCount g) + 1
      ∧ t.num (K.ringObsMax g) = max (d.num (K.ringObsMax g)) l ∧ t.num (K.ringObsMin g) = min (d.num (K.ringObsMin g)) l
      ∧ t.num (K.ringMisses g) = d.num (K.ringMisses g) := by
  obtain ⟨k1, k2, k3, k4, k5, k6, k7, k8, k9, k10, _⟩ := ringKeys g
  have hlow : ∀ k, k ≠ K.ringObsCount g → k ≠ K.ringObsSum g → (d.latencySeen g l).num k =
      ((d.setNum (K.ringObsMin g) (min (d.num (K.ringObsMin g)) l)).setNum (K.ringObsMax g) (max (d.num (K.ringObsMax g)) l)).num k := fun k h1 h2 =>
    congrArg Val.int ((Device.val_setVal_ne _ _ h1).trans (Device.val_setVal_ne _ _ h2))
  have hbase : (((d.setNum (K.ringObsMin g) (min (d.num (K.ringObsMin g)) l)).setNum (K.ringObsMax g) (max (d.num (K.ringObsMax g)) l)).bumpBy 8
      (K.ringObsSum g) l.toNat).nat (K.ringObsCount g) = d.nat (K.ringObsCount g) := by
    rw [Device.nat_bumpBy_ne _ _ _ k6, Device.nat_setNum, if_neg k4, Device.nat_setNum, if_neg k5]
  refine ⟨rfl, rfl, rfl, ?_, ?_, ?_, ?_⟩
  · rw [Device.latencySeen, Device.bump64, Device.nat_bumpBy _ 8 _ 1 (by rw [hbase]; omega), hbase]
  · rw [hlow _ (Ne.symm k4) (Ne.symm k2), Device.num_setNum_self]
  · rw [hlow _ (Ne.symm k5) (Ne.symm k3), Device.num_setNum, if_neg k1, Device.num_setNum_self]
  · rw [hlow _ k10 k9, Device.num_setNum, if_neg k7, Device.num_setNum, if_neg k8]

end

end Sys2Proof.Machine
end

section
/-! Chapter 13: the ring's statistics, NTS-KE, and what settles O47 (R367, R369, R381, R384). -/

namespace Sys2Proof.Machine

theorem exec_ntskeConnection (s : State) (c : TlsClient) (stays : Bool) : exec (.ntskeConnection c stays) s = .next (s.on (·.ntskeRun c stays)) := rfl
theorem exec_ntskeTimeout (s : State) : exec .ntskeTimeout s = .next (s.on (·.ntskeExpire)) := rfl

section
variable (d : Device)

theorem Device.flightDone_obeys {f : Flight} {word : Bytes} {t16 : Int} {steps : Nat} (hc : d.nat (K.ringObsCount f.ring) < 2 ^ 64 - 1)
    (hm : d.nat (K.ringMisses f.ring) < 2 ^ 32 - 1) (hs : d.nat (K.ringStepSpanned f.ring) < 2 ^ 32 - 1) :
    let l := (t16 - f.end16) / 65536
    let g := f.ring
    let t := d.flightDone f word t16 steps
    t.clock = d.clock ∧ t.parl.returned = d.parl.returned ∧ t.parl.flights = d.parl.flights.filter (fun x => x.id ≠ f.id)
      ∧ (f.steps = steps → wordInvalid word = false → t.nat (K.ringObsCount g) = d.nat (K.ringObsCount g) + 1
        ∧ t.num (K.ringObsMax g) = max (d.num (K.ringObsMax g)) l ∧ t.num (K.ringObsMin g) = min (d.num (K.ringObsMin g)) l
        ∧ t.nat (K.ringMisses g) = d.nat (K.ringMisses g) + (if (f.bound : Int) < l then 1 else 0)
        ∧ ((f.bound : Int) < l → t.entries = d.entries ++ [(0x0A01, [(g : Int), l, (f.bound : Int), (f.port : Int)])]))
      ∧ (f.steps ≠ steps → t.nat (K.ringStepSpanned g) = d.nat (K.ringStepSpanned g) + 1)
      ∧ (f.steps ≠ steps ∨ wordInvalid word = true →
        t.num (K.ringObsCount g) = d.num (K.ringObsCount g) ∧ t.num (K.ringMisses g) = d.num (K.ringMisses g)) := by
  intro l g t
  obtain ⟨_, _, _, _, _, _, _, _, _, m4, h1, h2, h3, h4, p1, p2⟩ := ringKeys g
  obtain ⟨m1, m2, m3, _⟩ : K.ringMisses g ≠ K.ringObsMax g ∧ K.ringMisses g ≠ K.ringObsMin g ∧ K.ringMisses g ≠ K.ringObsSum g ∧ True := by
    obtain ⟨_, _, _, _, _, _, m1, m2, m3, _⟩ := ringKeys g
    exact ⟨m1, m2, m3, trivial⟩
  have hx : t = if f.steps ≠ steps then (d.setParl (fun a => { a with flights := a.flights.filter (fun x => x.id ≠ f.id) })).bump (K.ringStepSpanned g)
      else if wordInvalid word then d.setParl (fun a => { a with flights := a.flights.filter (fun x => x.id ≠ f.id) })
      else if (f.bound : Int) < l then
        (((d.setParl (fun a => { a with flights := a.flights.filter (fun x => x.id ≠ f.id) })).latencySeen g l).bump (K.ringMisses g)).report 0x0A01
          [g, l, f.bound, f.port]
      else ((d.setParl (fun a => { a with flights := a.flights.filter (fun x => x.id ≠ f.id) })).latencySeen g l).setOct (K.ringObsHist g)
        (raiseBin (((d.setParl (fun a => { a with flights := a.flights.filter (fun x => x.id ≠ f.id) })).latencySeen g l).oct (K.ringObsHist g))
          (min 15 (16 * l / f.bound).toNat)) := rfl
  clear_value t
  generalize hd1 : d.setParl (fun a => { a with flights := a.flights.filter (fun x => x.id ≠ f.id) }) = d1 at hx
  have e1 : d1.obj = d.obj ∧ d1.clock = d.clock ∧ d1.attic = d.attic ∧ d1.parl.returned = d.parl.returned
      ∧ d1.parl.flights = d.parl.flights.filter (fun x => x.id ≠ f.id) := by
    rw [← hd1]
    exact ⟨rfl, rfl, rfl, rfl, rfl⟩
  obtain ⟨ho, hcl, hat, hret, hfl⟩ := e1
  have hnat : ∀ k, d1.nat k = d.nat k := nat_of_obj ho
  have hnum : ∀ k, d1.num k = d.num k := num_of_obj ho
  by_cases hst : f.steps ≠ steps
  · rw [if_pos hst] at hx
    subst hx
    exact ⟨hcl, hret, hfl, fun h => absurd h hst,
      fun _ => by rw [Device.bump, Device.nat_bumpBy _ 4 _ 1 (by rw [hnat]; exact Nat.add_lt_of_lt_sub hs), hnat],
      fun _ => ⟨(congrArg Val.int (Device.val_setVal_ne _ _ p1.symm)).trans (hnum _), (congrArg Val.int (Device.val_setVal_ne _ _ p2.symm)).trans (hnum _)⟩⟩
  rw [if_neg hst] at hx
  by_cases hw : wordInvalid word = true
  · rw [if_pos hw] at hx
    subst hx
    exact ⟨hcl, hret, hfl, fun _ h => absurd (hw.symm.trans h) (by decide), fun h => absurd h hst, fun _ => ⟨hnum _, hnum _⟩⟩
  rw [if_neg hw] at hx
  obtain ⟨s1, s2, s3, s4, s5, s6, s7⟩ := d1.latencySeen_obeys (g := g) l (by rw [hnat]; exact hc)
  generalize d1.latencySeen g l = d3 at s1 s2 s3 s4 s5 s6 s7 hx
  rw [hnat] at s4
  rw [hnum] at s5 s6 s7
  have hmiss : d3.nat (K.ringMisses g) = d.nat (K.ringMisses g) := congrArg Int.toNat s7
  have hno : ¬ (f.steps ≠ steps ∨ wordInvalid word = true) := by
    rintro (h | h)
    · exact hst h
    · exact hw h
  by_cases hb : (f.bound : Int) < l
  · rw [if_pos hb] at hx ⊢
    subst hx
    refine ⟨s2.trans hcl, (congrArg Parl.returned s1).trans hret, (congrArg Parl.flights s1).trans hfl, fun _ _ => ⟨?_, ?_, ?_, ?_, fun _ => ?_⟩,
      fun h => absurd h hst, fun h => absurd h hno⟩
    · exact (congrArg (fun v : Val => v.int.toNat) (Device.val_setVal_ne _ _ m4.symm)).trans s4
    · exact (congrArg Val.int (Device.val_setVal_ne _ _ m1.symm)).trans s5
    · exact (congrArg Val.int (Device.val_setVal_ne _ _ m2.symm)).trans s6
    · have hbump := Device.nat_bumpBy d3 4 (K.ringMisses g) 1 (by rw [hmiss]; exact Nat.add_lt_of_lt_sub hm)
      rw [hmiss] at hbump
      exact hbump
    · rw [Device.entries_report]
      show d3.entries ++ _ = _
      rw [entries_of_attic (s3.trans hat)]
  · rw [if_neg hb] at hx ⊢
    subst hx
    exact ⟨s2.trans hcl, (congrArg Parl.returned s1).trans hret, (congrArg Parl.flights s1).trans hfl,
      fun _ _ => ⟨(congrArg (fun v : Val => v.int.toNat) (Device.val_setVal_ne _ _ h3.symm)).trans s4,
        (congrArg Val.int (Device.val_setVal_ne _ _ h1.symm)).trans s5, (congrArg Val.int (Device.val_setVal_ne _ _ h2.symm)).trans s6,
        (congrArg (fun v : Val => v.int.toNat) (Device.val_setVal_ne _ _ h4.symm)).trans hmiss, fun h => absurd h hb⟩,
      fun h => absurd h hst, fun h => absurd h hno⟩

theorem Device.stampBack_none (h : d.parl.returned = []) : d.stampBack = d := by
  rw [Device.stampBack, h]

theorem Device.stampBack_entry {id : Nat} {word : Bytes} {t16 : Int} {steps : Nat} {rest : List (Tag × Bytes × Int × Nat)} {f : Flight}
    (h : d.parl.returned = (.entry id, word, t16, steps) :: rest) (hf : d.parl.flights.find? (fun x => x.id = id) = some f) :
    d.stampBack = (d.setParl (fun a => { a with returned := rest })).flightDone f word t16 steps := by
  rw [Device.stampBack, h]
  dsimp only
  rw [show (d.setParl (fun a => { a with returned := rest })).parl.flights = d.parl.flights from rfl, hf]

/-! ## RING_OBS_CLEAR (R384) -/

/-- What a list of settings under different keys leaves under each of them. -/
theorem Device.num_setNums_of_mem {l : List (Nat × Int)} (hn : (l.map Prod.fst).Nodup) {k : Nat} {v : Int} (h : (k, v) ∈ l) :
    (d.setNums l).num k = v := by
  induction l generalizing d with
  | nil => exact absurd h List.not_mem_nil
  | cons x l ih =>
    rw [List.map_cons, List.nodup_cons] at hn
    obtain ⟨hx, hl⟩ := hn
    rcases List.mem_cons.1 h with rfl | h
    · refine (congrArg Val.int (Device.setNums_val_ne _ l fun y hy hk => hx ?_)).trans (Device.num_setNum_self _ _ _)
      exact List.mem_map.2 ⟨y, hy, hk.symm⟩
    · exact ih (d.setNum x.1 x.2) hl h

/-- The numbers that RING_OBS_CLEAR sets. -/
def ringCleared (g : Nat) (now : Int) : List (Nat × Int) :=
  [(K.ringObsMax g, 0), (K.ringObsMin g, 0xFFFFFFFF), (K.ringObsSum g, 0), (K.ringObsCount g, 0), (K.ringMisses g, 0), (K.ringObsSince g, now)]

theorem ringCleared_keys (g : Nat) (now : Int) : ((ringCleared g now).map Prod.fst).Nodup ∧ ∀ x ∈ ringCleared g now, x.1 ≠ K.ringObsHist g := by
  simp only [ringCleared, List.map_cons, List.map_nil, List.nodup_cons, List.mem_cons, List.not_mem_nil, K.ringObsMin, K.ringObsMax, K.ringObsSum,
    K.ringObsCount, K.ringMisses, K.ringObsHist, K.ringObsSince]
  refine ⟨by simp, ?_⟩
  rintro x (rfl | rfl | rfl | rfl | rfl | rfl | h)
  all_goals first | exact absurd h not_false | (dsimp only; omega)

theorem Device.clearRing_obeys (g : Nat) : let t := d.clearRing g
    t.nat (K.ringObsMax g) = 0 ∧ t.nat (K.ringObsMin g) = 2 ^ 32 - 1 ∧ t.nat (K.ringObsSum g) = 0 ∧ t.nat (K.ringObsCount g) = 0
      ∧ t.nat (K.ringMisses g) = 0 ∧ t.nat (K.ringObsSince g) = d.mt16 ∧ t.oct (K.ringObsHist g) = List.replicate 64 0 ∧ t.parl = d.parl := by
  obtain ⟨hn, hh⟩ := ringCleared_keys g d.mt16
  have hnat : ∀ k v, (k, v) ∈ ringCleared g d.mt16 → (d.clearRing g).nat k = v.toNat := fun k v hm =>
    (congrArg (fun v : Val => v.int.toNat) (Device.val_setVal_ne _ _ (hh _ hm))).trans (congrArg Int.toNat (d.num_setNums_of_mem hn hm))
  have hparl : ∀ (l : List (Nat × Int)) (e : Device), (e.setNums l).parl = e.parl := by
    intro l
    induction l with
    | nil => exact fun _ => rfl
    | cons x l ih => exact fun e => ih (e.setNum x.1 x.2)
  refine ⟨hnat _ 0 (.head _), hnat _ 0xFFFFFFFF (.tail _ (.head _)), hnat _ 0 (.tail _ (.tail _ (.head _))),
    hnat _ 0 (.tail _ (.tail _ (.tail _ (.head _)))), hnat _ 0 (.tail _ (.tail _ (.tail _ (.tail _ (.head _))))),
    hnat _ (d.mt16 : Int) (.tail _ (.tail _ (.tail _ (.tail _ (.tail _ (.head _)))))), Device.oct_setOct_self _ _ _, ?_⟩
  rw [Device.clearRing, ← ringCleared]
  generalize ringCleared g d.mt16 = l
  exact hparl l d

theorem ringObsClear_row : ∀ g < 64, dictFind (K.ringObsClear g / 256) (K.ringObsClear g % 256)
    = some ⟨0x4100, 0x413F, 0x1C, 0x1C, .uns 1, .wo, .num 0, .span 1 1, 0⟩ := by decide +kernel

/-- RING_OBS_CLEAR of ring g is its command. -/
theorem Device.highAction_ringObsClear (a : Asker) {g : Nat} (hg : g < 64) (b : Bytes) :
    d.highAction a (K.ringObsClear g) b = some (d.clearRing g).done := by
  obtain ⟨h1, h2⟩ : K.ringObsClear g / 256 = 0x4100 + g ∧ K.ringObsClear g % 256 = 0x1C := by
    rw [K.ringObsClear]
    omega
  have hne : K.ringObsClear g ≠ K.xphyMdio ∧ K.ringObsClear g ≠ K.hallFdbFlush := by
    simp only [K.ringObsClear, K.xphyMdio, K.hallFdbFlush]
    omega
  unfold Device.highAction
  dsimp only
  rw [h1, h2, if_neg (by simp; omega), if_neg hne.1, if_neg (by simp; omega), if_neg hne.2, if_pos (by simp; omega), Nat.add_sub_cancel_left]

theorem State.ringObsClear_written (s : State) (h : HapHdr) {g : Nat} (hg : g < 64) (hw : s.writes h (K.ringObsClear g) [1]) :
    exec (.ringObsClear h g [1]) s = .next (s.wrote h (K.ringObsClear g) [1] ((s.asWritten h (K.ringObsClear g) [1]).clearRing g).done) := by
  have hexec : exec (.ringObsClear h g [1]) s = .next (s.hapWrite h (K.ringObsClear g) [1]) := by
    obtain ⟨h1, h2⟩ : K.ringObsClear g / 256 = 0x4100 + g ∧ K.ringObsClear g % 256 = 0x1C := by
      rw [K.ringObsClear]
      omega
    rw [State.hapWrite, h1, h2]
    exact congrArg (fun i => Host.Outcome.next (s.hap h 2 (0x4100 + i) 0x1C [1])) (Nat.mod_eq_of_lt hg)
  have hruled : ∀ g < 64, lengthRuled (K.ringObsClear g) = false := by decide
  have hrange : ∀ g < 64, rangeBad (K.ringObsClear g) ⟨0x4100, 0x413F, 0x1C, 0x1C, .uns 1, .wo, .num 0, .span 1 1, 0⟩ [1] = false := by decide
  have hlow : 0x3000 * 256 ≤ K.ringObsClear g ∧ K.ringObsClear g ≠ K.khOwnerKeySet := by
    simp only [K.ringObsClear, K.khOwnerKeySet]
    omega
  exact hexec.trans (congrArg _ (s.highCommand_written h hw (ringObsClear_row g hg) rfl hlow.1 hlow.2 (hruled g hg) rfl (hrange g hg)
    fun a _ _ _ _ _ => Device.highAction_ringObsClear _ a hg _))

/-! ## NTS-KE (R381) -/

theorem Device.keAnswer_critical {c : TlsClient} {rs : List (Bool × Nat × Bytes)} (h : keRecords (c.records.length + 1) c.records = some rs)
    (hr : ∃ r ∈ rs, r.1 = true ∧ 7 < r.2.1) : d.keAnswer c = (keRecord true 2 (toBE 2 0) ++ keRecord true 0 [], false, d) := by
  obtain ⟨r, hmem, hcrit, htyp⟩ := hr
  have hany : rs.any (fun r => r.1 && 7 < r.2.1) = true := List.any_eq_true.2 ⟨r, hmem, by rw [hcrit, Bool.true_and]; exact decide_eq_true htyp⟩
  rw [Device.keAnswer, h]
  dsimp only
  rw [hany, if_pos rfl]

theorem Device.cookies_frame (c2s s2c : Bytes) (n : Nat) : let t := (d.cookies c2s s2c n).2
    t.obj = d.obj ∧ t.parl = d.parl ∧ t.clock = d.clock ∧ t.outbox = d.outbox := by
  induction n generalizing d with
  | zero => exact ⟨rfl, rfl, rfl, rfl⟩
  | succ n ih => exact ih (d.cookie c2s s2c).2

theorem Device.keAnswer_frame (c : TlsClient) : let t := (d.keAnswer c).2.2
    t.obj = d.obj ∧ t.parl = d.parl ∧ t.clock = d.clock ∧ t.outbox = d.outbox := by
  have same : d.obj = d.obj ∧ d.parl = d.parl ∧ d.clock = d.clock ∧ d.outbox = d.outbox := ⟨rfl, rfl, rfl, rfl⟩
  unfold Device.keAnswer
  dsimp only
  split
  · exact same
  · split
    · exact same
    · split
      · exact same
      · split
        · exact same
        · split
          · exact same
          · exact d.cookies_frame c.c2s c.s2c _

/-- A failed connection is counted once. -/
theorem Device.ntskeFail_frame (a : Nat) (hf : d.nat K.ntskeFailed < 2 ^ 32 - 1) : let t := d.ntskeFail a
    t.nat K.ntskeFailed = d.nat K.ntskeFailed + 1 ∧ t.parl = d.parl ∧ t.clock = d.clock ∧ t.outbox = d.outbox ∧ t.nat K.ntskeDone = d.nat K.ntskeDone := by
  dsimp only
  rw [Device.ntskeFail]
  refine ⟨(nat_of_obj (Device.reportOnce_obj _ _ _ _) _).trans (d.nat_bumpBy 4 _ 1 (Nat.add_lt_of_lt_sub hf)), Device.reportOnce_parl _ _ _ _,
    Device.reportOnce_clock _ _ _ _, Device.reportOnce_outbox _ _ _ _, (nat_of_obj (Device.reportOnce_obj _ _ _ _) _).trans ?_⟩
  exact Device.nat_bumpBy_ne _ _ _ (by decide)

theorem Device.ntskeRun_idle (c : TlsClient) (o : Bool) (h : d.num K.ntskeEnable ≠ 1 ∨ d.num K.parAdmitStopped = 1) : d.ntskeRun c o = d :=
  if_pos (by rw [Bool.or_eq_true]; exact h.imp decide_eq_true decide_eq_true)

theorem Device.ntskeRun_many (c : TlsClient) (o : Bool) (he : d.num K.ntskeEnable = 1) (ha : d.num K.parAdmitStopped ≠ 1)
    (hm : d.nat K.ntskeMaxConn ≤ d.parl.conns.length) : d.ntskeRun c o = d.ntskeFail (c.alert.getD 0) := by
  unfold Device.ntskeRun
  dsimp only
  rw [if_neg (by simp [he, ha]), if_pos (by simp [hm])]

/-- R381: service is on, keys and entropy are there and a connection is free. -/
structure Device.KeServes (d : Device) : Prop where
  on : d.num K.ntskeEnable = 1
  admits : d.num K.parAdmitStopped ≠ 1
  room : d.parl.conns.length < d.nat K.ntskeMaxConn
  keyState : d.nat (K.ksState (d.nat K.ntskeKeySlot)) = 2
  keyUse : d.nat (K.ksUse (d.nat K.ntskeKeySlot)) = 2
  core : fieldNat (d.oct K.studyCoreState) 1 1 = 0
  master : d.nat (K.ksState 60) = 2
  entropy : d.nat K.khEntropyState = 1

theorem Device.ntskeRun_served (c : TlsClient) (o : Bool) (h : d.KeServes) : d.ntskeRun c o =
    if o then d.setParl (fun a => { a with
      conns := a.conns ++ [(a.connNext, d.clock.ticks + d.nat K.ntskeTimeout * msTicks)], connNext := a.connNext + 1 })
    else match tlsFailure c with
    | some a => (d.emit (.tlsAlert a)).ntskeFail a
    | none => if (d.keAnswer c).2.1 then ((d.keAnswer c).2.2.emit (.ntske (d.keAnswer c).1)).bump K.ntskeDone
        else ((d.keAnswer c).2.2.emit (.ntske (d.keAnswer c).1)).ntskeFail 0 := by
  obtain ⟨h1, h2, h3, h4, h5, h6, h7, h8⟩ := h
  unfold Device.ntskeRun
  dsimp only
  refine (if_neg (by simp [h1, h2])).trans ((if_neg (by simp [h3, h4, h5, h6, h7, h8])).trans ?_)
  cases tlsFailure c <;> rfl

theorem Device.ntskeExpire_none (h : d.parl.conns = []) : d.ntskeExpire = d := by
  rw [Device.ntskeExpire, h]

theorem Device.ntskeExpire_cons {c due : Nat} {rest : List (Nat × Nat)} (h : d.parl.conns = (c, due) :: rest) :
    d.ntskeExpire = ({ d.runTo due with parl := { d.parl with conns := rest } } : Device).ntskeFail 0 := by
  rw [Device.ntskeExpire, h]

/-- R381: a connection that stays, a failed handshake and an answered one. -/
theorem Device.ntskeRun_obeys (c : TlsClient) (o : Bool) (h : d.KeServes) (hd : d.nat K.ntskeDone < 2 ^ 32 - 1) (hf : d.nat K.ntskeFailed < 2 ^ 32 - 1) :
    let t := d.ntskeRun c o
    t.clock = d.clock
      ∧ (o = true → t.parl.conns = d.parl.conns ++ [(d.parl.connNext, d.clock.ticks + d.nat K.ntskeTimeout * 1250000)] ∧ t.obj = d.obj)
      ∧ (∀ a, o = false → tlsFailure c = some a → t.outbox = d.outbox ++ [.tlsAlert a] ∧ t.nat K.ntskeFailed = d.nat K.ntskeFailed + 1 ∧ t.parl = d.parl)
      ∧ (o = false → tlsFailure c = none → t.outbox = d.outbox ++ [.ntske (d.keAnswer c).1] ∧ t.parl = d.parl
        ∧ t.nat K.ntskeDone = d.nat K.ntskeDone + (if (d.keAnswer c).2.1 then 1 else 0)
        ∧ t.nat K.ntskeFailed = d.nat K.ntskeFailed + (if (d.keAnswer c).2.1 then 0 else 1)) := by
  dsimp only
  rw [d.ntskeRun_served c o h]
  cases o with
  | true => exact ⟨rfl, fun _ => ⟨rfl, rfl⟩, fun _ h => absurd h (by decide), fun h => absurd h (by decide)⟩
  | false =>
    rw [if_neg Bool.false_ne_true]
    cases hfail : tlsFailure c with
    | some a =>
      dsimp only
      obtain ⟨f1, f2, f3, f4, _⟩ := (d.emit (.tlsAlert a)).ntskeFail_frame a hf
      exact ⟨f3, fun h => absurd h (by decide), fun b _ hb => Option.some.inj hb ▸ ⟨f4, f1, f2⟩, fun _ h => absurd h (by simp)⟩
    | none =>
      dsimp only
      obtain ⟨a1, a2, a3, a4⟩ := d.keAnswer_frame c
      generalize d.keAnswer c = r at a1 a2 a3 a4 ⊢
      obtain ⟨out, done, e⟩ := r
      dsimp only at a1 a2 a3 a4 ⊢
      have hed : e.nat K.ntskeDone = d.nat K.ntskeDone := nat_of_obj a1 _
      have hef : e.nat K.ntskeFailed = d.nat K.ntskeFailed := nat_of_obj a1 _
      have hout : (e.emit (.ntske out)).outbox = d.outbox ++ [.ntske out] := congrArg (· ++ [_]) a4
      cases done with
      | true =>
        rw [if_pos rfl, if_pos rfl, if_pos rfl]
        refine ⟨a3, fun h => absurd h (by decide), fun _ _ h => absurd h (by simp), fun _ _ => ⟨hout, a2, ?_, ?_⟩⟩
        · exact (Device.nat_bumpBy _ 4 _ 1 (by rw [← hed] at hd; exact Nat.add_lt_of_lt_sub hd)).trans (congrArg (· + 1) hed)
        · exact (Device.nat_bumpBy_ne _ _ _ (by decide)).trans hef
      | false =>
        rw [if_neg Bool.false_ne_true, if_neg Bool.false_ne_true, if_neg Bool.false_ne_true]
        obtain ⟨f1, f2, f3, f4, f5⟩ := (e.emit (.ntske out)).ntskeFail_frame 0 (by rw [← hef] at hf; exact hf)
        exact ⟨f3.trans a3, fun h => absurd h (by decide), fun _ _ h => absurd h (by simp),
          fun _ _ => ⟨f4.trans hout, f2.trans a2, f5.trans hed, f1.trans (congrArg (· + 1) hef)⟩⟩

/-! ## The hand-over's cases -/

theorem Device.handover_queued_obeys {r : Resv} {f0 : Frame} (hr : d.nextResv = some r) (ht : ∀ id i, r.frame.tag ≠ .leaf id i)
    (hp : (d.port r.port).place = some f0) : let q := d.nat K.parQueue
    let e := d.runToMt (ceilDiv r.start 1000)
    let n := cellsOf r.frame.body
    let t := d.handover none
    t.clock = e.clock ∧ t.parl = { d.parl with resv := d.parl.resv.erase r }
      ∧ (e.reserveRoom n = true → e.queueCells r.port q + n ≤ e.nat (K.qMaxCells r.port q) → r.port < d.hall.egress.length →
          q < (d.egress r.port).queues.length → ∃ f, t.queue r.port q = f :: d.queue r.port q ∧ f.body = r.frame.body ∧ f.tag = r.frame.tag)
      ∧ (e.reserveRoom n = true → e.nat (K.qMaxCells r.port q) < e.queueCells r.port q + n → t.queue r.port q = d.queue r.port q
          ∧ (e.nat (K.qTaildrop r.port q) < 2 ^ 32 - 1 → t.nat (K.qTaildrop r.port q) = e.nat (K.qTaildrop r.port q) + 1))
      ∧ (e.reserveRoom n = false → t.hall.waiting = d.hall.waiting ++ [(r.port, q, r.frame)]) := by
  dsimp only
  rw [d.handover_plain hr ht]
  have hroom : ∀ n, (d.resvDue r).reserveRoom n = (d.runToMt (ceilDiv r.start 1000)).reserveRoom n := fun _ => rfl
  have hparl : (d.resvDue r).parl = { d.parl with resv := d.parl.resv.erase r } := rfl
  cases hroomy : (d.runToMt (ceilDiv r.start 1000)).reserveRoom (cellsOf r.frame.body) with
  | true =>
    obtain ⟨h1, h2, h3, h4⟩ := (d.resvDue r).handFrame_queued r r.frame ((hroom _).trans hroomy) hp
    exact ⟨h2, h1.trans hparl, fun _ => h3, fun _ => h4, fun h => absurd h (by decide)⟩
  | false =>
    obtain ⟨h1, h2, h3⟩ := (d.resvDue r).handFrame_waits r r.frame ((hroom _).trans hroomy)
    exact ⟨h2, h1.trans hparl, fun h => absurd h (by decide), fun h => absurd h (by decide), fun _ => h3⟩

theorem Device.handover_taken_obeys {r : Resv} (hr : d.nextResv = some r) (hl : r.port < d.ports.length) (ht : ∀ id i, r.frame.tag ≠ .leaf id i)
    (hp : (d.port r.port).place = none) (hm : bit (d.nat K.hallLoopMask) r.port = false)
    (hroom : (d.runToMt (ceilDiv r.start 1000)).reserveRoom (cellsOf r.frame.body) = true) : let t := d.handover none
    t.clock = (d.runToMt (ceilDiv r.start 1000)).clock ∧ t.parl = { d.parl with resv := d.parl.resv.erase r }
      ∧ (t.port r.port).place = some ((d.resvDue r).handed r.frame) := by
  dsimp only
  rw [d.handover_plain hr ht]
  obtain ⟨h1, h2, h3⟩ := (d.resvDue r).handFrame_taken r r.frame hroom hp hl hm
  exact ⟨h2, h1, h3⟩

theorem Device.handover_lost_obeys {r : Resv} {id : Nat} {f : Flight} {mem : Option MemErr} (hr : d.nextResv = some r) (ht : r.frame.tag = .entry id)
    (hm : fatalErr mem = true) (hf : d.parl.flights.find? (fun x => x.id = id) = some f) (hc : d.nat (K.ringIntegrityLoss f.ring) < 2 ^ 32 - 1) :
    let t := d.handover mem
    (∀ x ∈ t.parl.flights, x.id ≠ id) ∧ t.nat (K.ringIntegrityLoss f.ring) = d.nat (K.ringIntegrityLoss f.ring) + 1
      ∧ (∀ x ∈ t.parl.resv, x.frame.tag ≠ .entry id) ∧ t.outbox = d.outbox := by
  dsimp only
  rw [d.handover_lost hr ht hm]
  obtain ⟨m1, m2, m3⟩ := (d.resvDue r).meetError_frame mem
  generalize (d.resvDue r).meetError mem = e at m1 m2 m3 ⊢
  have hnat : e.nat (K.ringIntegrityLoss f.ring) = d.nat (K.ringIntegrityLoss f.ring) := nat_of_obj (m2.trans (d.runToMt_obj (ceilDiv r.start 1000))) _
  obtain ⟨l1, l2, l3, l4⟩ := e.entryLost_obeys (id := id) (f := f) (by rw [m1]; exact hf) (by rw [hnat]; exact hc)
  exact ⟨l1, l2.trans (congrArg (· + 1) hnat), l3, l4.trans m3⟩

end

/-- Settles O47: hand-over, returned stamps, RING_OBS_CLEAR and NTS-KE, each by the lemma of its case. -/
theorem responsesLeaveAndAreMeasured : Obligations.ResponsesLeaveAndAreMeasured := by
  refine ⟨fun s mem => ⟨fun h => ?_, fun r f0 hr ht hmem hp => ?_, fun r hr hl ht hmem hp hm hroom => ?_, fun r id f hr ht hm _ hf hc => ?_⟩,
    fun s => ⟨fun h => ?_, fun id word t16 steps rest f h hf _ hc hm hs => ?_⟩, fun s h g hg => ?_, fun d c rs h hr => d.keAnswer_critical h hr,
    fun s c o => ⟨fun h => ?_, fun he ha hm hf => ?_, fun key hkey he ha hroom hks hku hcore hmaster hent hd hf => ?_⟩,
    fun s => ⟨fun h => ?_, fun c due rest h hf => ?_⟩⟩
  · rw [exec_responseHandover, State.on, s.dev.handover_none mem h]
  · subst hmem
    intro q d n
    exact ⟨_, exec_responseHandover s none, rfl, s.dev.handover_queued_obeys hr ht hp⟩
  · subst hmem
    obtain ⟨h1, h2, h3⟩ := s.dev.handover_taken_obeys hr hl ht hp hm hroom
    exact ⟨_, exec_responseHandover s none, rfl, h1, h2, _, h3, rfl, rfl, rfl⟩
  · exact ⟨_, exec_responseHandover s mem, rfl, s.dev.handover_lost_obeys hr ht hm hf hc⟩
  · rw [exec_txStampReturn, State.on, s.dev.stampBack_none h]
  · have hexec := exec_txStampReturn s
    obtain ⟨h1, h2, h3, h4, h5, h6⟩ := (s.dev.setParl (fun a => { a with returned := rest })).flightDone_obeys (f := f) (word := word) (t16 := t16)
      (steps := steps) hc hm hs
    have hid : f.id = id := by simpa using List.find?_some hf
    rw [State.on, s.dev.stampBack_entry h hf] at hexec
    refine ⟨_, hexec, rfl, h1, h2, by rw [← hid]; exact h3, fun hst hw => ?_, h5, h6⟩
    obtain ⟨a1, a2, a3, a4, a5⟩ := h4 hst hw
    exact ⟨a1, a2, a3, a4, fun hb => newReports_of_entries (a5 hb)⟩
  · intro d t hw
    exact ⟨s.ringObsClear_written h hg hw, d.clearRing_obeys g⟩
  · rw [exec_ntskeConnection, State.on, s.dev.ntskeRun_idle c o h]
  · have hexec := exec_ntskeConnection s c o
    rw [State.on, s.dev.ntskeRun_many c o he ha hm] at hexec
    obtain ⟨f1, f2, f3, _⟩ := s.dev.ntskeFail_frame (c.alert.getD 0) hf
    exact ⟨_, hexec, rfl, f1, f2, f3⟩
  · subst hkey
    exact ⟨_, exec_ntskeConnection s c o, rfl, s.dev.ntskeRun_obeys c o ⟨he, ha, hroom, hks, hku, hcore, hmaster, hent⟩ hd hf⟩
  · rw [exec_ntskeTimeout, State.on, s.dev.ntskeExpire_none h]
  · have hexec := exec_ntskeTimeout s
    rw [State.on, s.dev.ntskeExpire_cons h] at hexec
    obtain ⟨f1, f2, f3, _⟩ := ({ s.dev.runTo due with parl := { s.dev.parl with conns := rest } } : Device).ntskeFail_frame 0 hf
    exact ⟨_, hexec, rfl, f3, f2, f1⟩

end Sys2Proof.Machine
end

section
/-! Chapter 18: the mailboxes and MB8's service, and what settles O54 (R494 to R498). -/

namespace Sys2Proof.Machine

theorem exec_mb8Service (s : State) : exec .mb8Service s = .next (s.on (·.mb8Service)) := rfl

/-! ## A channel changed -/

/-- The bits that tell which of eight channels hold a message toward the owner. -/
def pendBits (q : Nat → List Bytes) : Int := (List.range 8).foldl (fun v k => v + if q k = [] then 0 else 2 ^ k) 0

/-- Eight flags as bits of a number. -/
def eightBits (b : Nat → Bool) : Nat :=
  (if b 0 then 1 else 0) + (if b 1 then 2 else 0) + (if b 2 then 4 else 0) + (if b 3 then 8 else 0) + (if b 4 then 16 else 0)
    + (if b 5 then 32 else 0) + (if b 6 then 64 else 0) + (if b 7 then 128 else 0)

theorem bit_eightBits (b : Nat → Bool) {k : Nat} (hk : k < 8) : bit (eightBits b) k = b k := by
  have hall : ∀ b0 b1 b2 b3 b4 b5 b6 b7 : Bool, let v := (if b0 then 1 else 0) + (if b1 then 2 else 0) + (if b2 then 4 else 0) + (if b3 then 8 else 0)
      + (if b4 then 16 else 0) + (if b5 then 32 else 0) + (if b6 then 64 else 0) + (if b7 then 128 else 0)
      bit v 0 = b0 ∧ bit v 1 = b1 ∧ bit v 2 = b2 ∧ bit v 3 = b3 ∧ bit v 4 = b4 ∧ bit v 5 = b5 ∧ bit v 6 = b6 ∧ bit v 7 = b7 := by decide
  obtain ⟨h0, h1, h2, h3, h4, h5, h6, h7⟩ := hall (b 0) (b 1) (b 2) (b 3) (b 4) (b 5) (b 6) (b 7)
  rw [eightBits]
  match k, hk with
  | 0, _ => exact h0
  | 1, _ => exact h1
  | 2, _ => exact h2
  | 3, _ => exact h3
  | 4, _ => exact h4
  | 5, _ => exact h5
  | 6, _ => exact h6
  | 7, _ => exact h7

theorem pendBits_eq (q : Nat → List Bytes) : pendBits q = (eightBits (fun j => decide (q j ≠ [])) : Nat) := by
  have hone : ∀ j (v : Nat), (if q j = [] then (0 : Int) else v) = ((if (decide (q j ≠ []) : Bool) then v else 0 : Nat) : Int) := fun j v => by
    by_cases h : q j = [] <;> simp [h]
  rw [eightBits, pendBits]
  push_cast [← hone]
  simp only [List.range, List.range.loop, List.foldl_cons, List.foldl_nil, zero_add]
  rfl

theorem bit_pendBits (q : Nat → List Bytes) {k : Nat} (hk : k < 8) : bit (pendBits q).toNat k = decide (q k ≠ []) := by
  rw [pendBits_eq, Int.toNat_natCast, bit_eightBits _ hk]

section
variable (d : Device) {n : Nat}

/-- The part with channel n changed and nothing that follows it. -/
def Device.setMailbox (d : Device) (n : Nat) (f : Mailbox → Mailbox) : Device := d.setStudy (fun s => { s with mail := updAt s.mail n f })

/-- R497: what a changed channel leaves. -/
theorem Device.setMail_frame (f : Mailbox → Mailbox) (hl : n < d.study.mail.length) (hn : n < 16) : let t := d.setMail n f
    t.mail n = f (d.mail n) ∧ (∀ m, m ≠ n → t.mail m = d.mail m) ∧ t.study.held = d.study.held ∧ t.study.mail.length = d.study.mail.length
      ∧ t.clock = d.clock ∧ t.attic = d.attic
      ∧ t.nat (K.mbLevelIn n) = (f (d.mail n)).toFirmware.length ∧ t.nat (K.mbLevelOut n) = (f (d.mail n)).toOwner.length
      ∧ (8 ≤ n → bit (t.nat K.dbIrqPend) (n - 8) = Decidable.decide ((t.mail n).toOwner ≠ [])) := by
  have hself : (d.setMail n f).mail n = f (d.mail n) := getD_updAt f {} hl
  have hx : d.setMail n f = (((d.setMailbox n f).setNum (K.mbLevelIn n) ((d.setMailbox n f).mail n).toFirmware.length).setNum
      (K.mbLevelOut n) ((d.setMailbox n f).mail n).toOwner.length).setNum K.dbIrqPend (pendBits (fun k => ((d.setMailbox n f).mail (8 + k)).toOwner)) := rfl
  have hmail : ∀ m, (d.setMail n f).mail m = (d.setMailbox n f).mail m := fun _ => rfl
  have hkeys : K.mbLevelIn n ≠ K.dbIrqPend ∧ K.mbLevelOut n ≠ K.dbIrqPend ∧ K.mbLevelIn n ≠ K.mbLevelOut n := by
    simp only [K.mbLevelIn, K.mbLevelOut, K.dbIrqPend]
    omega
  obtain ⟨k1, k2, k3⟩ := hkeys
  refine ⟨hself, fun m hm => getD_updAt_ne f {} hm, rfl, length_updAt _ _ _, rfl, rfl, ?_, ?_, fun h8 => ?_⟩
  · rw [hx, Device.nat_setNum, if_neg k1, Device.nat_setNum, if_neg k3, Device.nat_setNum, if_pos rfl, ← hmail, hself]
    rfl
  · rw [hx, Device.nat_setNum, if_neg k2, Device.nat_setNum, if_pos rfl, ← hmail, hself]
    rfl
  · have hpend : (d.setMail n f).nat K.dbIrqPend = (pendBits (fun k => ((d.setMail n f).mail (8 + k)).toOwner)).toNat := by
      rw [hx, Device.nat_setNum, if_pos rfl]
      rfl
    rw [hpend, bit_pendBits _ (by omega)]
    congr 3
    rw [show 8 + (n - 8) = n by omega]

/-- R495: a refused message is counted and changes nothing else. -/
theorem Device.mailRefused_frame (hc : d.nat (K.mbRefused n) < 2 ^ 32 - 1) : let t := d.mailRefused n
    t.nat (K.mbRefused n) = d.nat (K.mbRefused n) + 1 ∧ t.study = d.study ∧ t.clock = d.clock ∧ ∀ k, k ≠ K.mbRefused n → t.val k = d.val k := by
  have hobj : (d.mailRefused n).obj = (d.bump (K.mbRefused n)).obj := Device.reportOnce_obj _ _ _ _
  refine ⟨(nat_of_obj hobj _).trans (d.nat_bumpBy 4 _ 1 (Nat.add_lt_of_lt_sub hc)), Device.reportOnce_study _ _ _ _, Device.reportOnce_clock _ _ _ _,
    fun k hk => ?_⟩
  rw [Device.val, hobj]
  exact Device.val_setVal_ne _ _ hk

theorem Device.mailRefused_study (n : Nat) : (d.mailRefused n).study = d.study ∧ (d.mailRefused n).clock = d.clock :=
  ⟨Device.reportOnce_study _ _ _ _, Device.reportOnce_clock _ _ _ _⟩

/-! ## MB_SEND and MB_RECV (R495, R496) -/

/-- R495: does LENGTH agree with the message's length. -/
def MessageWhole (v : Bytes) : Prop := 4 ≤ v.length ∧ fieldNat v 0 1 ≤ 60 ∧ v.length = 4 + fieldNat v 0 1

theorem mbSend_row : ∀ n < 16, 8 ≤ n → dictFind (K.mbSend n / 256) (K.mbSend n % 256)
    = some ⟨0x6118, 0x611F, 0x03, 0x03, .upTo 64, .wo, .rep 64 0, .span 4 64, 0⟩ := by decide +kernel

theorem mbRecv_row : ∀ n < 16, 8 ≤ n → dictFind (K.mbRecv n / 256) (K.mbRecv n % 256)
    = some ⟨0x6118, 0x611F, 0x04, 0x04, .upTo 64, .ro, .bytes [], .any, 0⟩ := by decide +kernel

theorem Device.lengthBad_mbSend (hn : n < 16) (h8 : 8 ≤ n) {v : Bytes} (hv : v.length ≤ 64) :
    d.lengthBad (K.mbSend n / 256) (K.mbSend n % 256) (.upTo 64) v = true ↔ ¬ MessageWhole v := by
  obtain ⟨h1, h2⟩ : K.mbSend n / 256 = 0x6110 + n ∧ K.mbSend n % 256 = 3 := by
    rw [K.mbSend]
    omega
  rw [h1, h2, Device.lengthBad, MessageWhole]
  have hk : (0x6110 + n) * 256 + 3 ≠ K.parClassifier ∧ (0x6110 + n) * 256 + 3 ≠ K.hallVlanTable ∧ (0x6110 + n) * 256 + 3 ≠ K.hallFdbStatic
      ∧ (0x6110 + n) * 256 + 3 ≠ K.skyOrbitLoad ∧ (0x6110 + n) * 256 + 3 ≠ K.studyFwImage := by
    simp only [K.parClassifier, K.hallVlanTable, K.hallFdbStatic, K.skyOrbitLoad, K.studyFwImage]
    omega
  obtain ⟨k1, k2, k3, k4, k5⟩ := hk
  simp [k1, k2, k3, k4, k5, Ty.allows, hv]
  omega

theorem Device.highAction_mbSend (a : Asker) (hn : n < 16) (h8 : 8 ≤ n) (b : Bytes) :
    d.highAction a (K.mbSend n) b = some (answerOf (d.writeMbSend n b)) := by
  obtain ⟨h1, h2⟩ : K.mbSend n / 256 = 0x6110 + n ∧ K.mbSend n % 256 = 3 := by
    rw [K.mbSend]
    omega
  have hk : K.atticClear < K.mbSend n := by
    simp only [K.mbSend, K.atticClear]
    omega
  have hne : ∀ k ≤ K.atticClear, K.mbSend n ≠ k := fun k hle => Nat.ne_of_gt (Nat.lt_of_le_of_lt hle hk)
  unfold Device.highAction
  dsimp only
  rw [h1, h2, if_neg (by simp; omega), if_neg (hne _ (by decide)), if_neg (by simp; omega), if_neg (hne _ (by decide)), if_neg (by simp),
    if_neg (hne _ (by decide)), if_neg (hne _ (by decide)), if_neg (hne _ (by decide)), if_neg (hne _ (by decide)), if_neg (by simp; omega),
    if_neg (by omega), if_neg (hne _ (by decide)), if_neg (hne _ (by decide)), if_pos (by simp; omega), Nat.add_sub_cancel_left]

theorem Device.writeMbSend_full {v : Bytes} (hv : MessageWhole v) (hf : 8 ≤ (d.mail n).toFirmware.length) :
    d.writeMbSend n v = (St.full, d.mailRefused n) := by
  obtain ⟨h1, h2, h3⟩ := hv
  unfold Device.writeMbSend
  dsimp only
  rw [if_neg (by simp; omega), if_pos hf]

/-- R495: a whole message ends a direction that has room. -/
theorem Device.writeMbSend_room {v : Bytes} (hv : MessageWhole v) (hf : (d.mail n).toFirmware.length < 8) (hl : d.study.mail.length = 16) (hn : n < 16)
    (h8 : 8 ≤ n) : ∃ e : Device, d.writeMbSend n v = (St.ok, e) ∧ (e.mail n).toOwner = (d.mail n).toOwner
      ∧ (e.mail n).toFirmware = (d.mail n).toFirmware ++ [byte (fieldNat v 0 1) :: byte (fieldNat v 1 1) :: (toBE 2 (d.mail n).seqIn ++ v.drop 4)]
      ∧ (e.mail n).seqIn = ((d.mail n).seqIn + 1) % 2 ^ 16 ∧ e.nat (K.mbLevelIn n) = (d.mail n).toFirmware.length + 1
      ∧ bit (e.nat K.dbIrqPend) (n - 8) = Decidable.decide ((e.mail n).toOwner ≠ []) ∧ ∀ m, m ≠ n → e.mail m = d.mail m := by
  obtain ⟨h1, h2, h3⟩ := hv
  have hpay : (v.drop 4).length = fieldNat v 0 1 := by
    rw [List.length_drop]
    omega
  have hx : d.writeMbSend n v = (St.ok, d.setMail n (fun m => { m with
      toFirmware := m.toFirmware ++ [message (fieldNat v 1 1) m.seqIn (v.drop 4)], seqIn := (m.seqIn + 1) % 65536 })) := by
    unfold Device.writeMbSend
    dsimp only
    rw [if_neg (by simp; omega), if_neg (by omega)]
  obtain ⟨f1, f2, _, _, _, _, f7, _, f9⟩ := d.setMail_frame (n := n) (fun m => { m with
    toFirmware := m.toFirmware ++ [message (fieldNat v 1 1) m.seqIn (v.drop 4)], seqIn := (m.seqIn + 1) % 65536 }) (by omega) hn
  refine ⟨_, hx, by rw [f1], ?_, congrArg Mailbox.seqIn f1, ?_, f9 h8, f2⟩
  · rw [f1, message, hpay]
    rfl
  · rw [f7, List.length_append]
    rfl

/-- R496: reading gives the oldest message and leaves the channel without it. -/
theorem Device.readMbRecv_cons {b : Bytes} {rest : List Bytes} (h : (d.mail n).toOwner = b :: rest) :
    d.readMbRecv n = (b, d.setMail n (fun m => { m with toOwner := rest })) := by
  rw [Device.readMbRecv, h]

/-- R496: what a read of the oldest message answers and leaves. -/
theorem Device.oldest_nil (h : (d.mail n).toOwner = []) : (d.mail n).toOwner.headD [] = []
    ∧ (if (d.mail n).toOwner.head? = some [] then (d.readMbRecv n).2 else d) = d := by
  rw [h]
  exact ⟨rfl, if_neg (by simp)⟩

theorem Device.oldest_cons {b : Bytes} {rest : List Bytes} (h : (d.mail n).toOwner = b :: rest) : (d.mail n).toOwner.headD [] = b
    ∧ (if (d.mail n).toOwner.head? = some b then (d.readMbRecv n).2 else d) = d.setMail n (fun m => { m with toOwner := rest }) := by
  refine ⟨by rw [h]; rfl, ?_⟩
  rw [d.readMbRecv_cons h, h]
  exact if_pos rfl

/-! ## MB8 (R498) -/

/-- R498: what MB8 answers to a request: its kind and payload. -/
def mb8Reply (b : Bytes) : Nat × Bytes := if fieldNat b 1 1 = 1 then (0x81, b.drop 4) else (0xFF, field b 2 2)

theorem Device.sendOwner_room {kind : Nat} {pay : Bytes} (h : (d.mail n).toOwner.length < 8) :
    d.sendOwner n kind pay = (true, d.setMail n (fun m => { m with
      toOwner := m.toOwner ++ [message kind m.seqOut pay], seqOut := (m.seqOut + 1) % 65536 })) := by
  rw [Device.sendOwner, if_neg (by omega)]

theorem Device.sendOwner_full {kind : Nat} {pay : Bytes} (h : 8 ≤ (d.mail n).toOwner.length) :
    d.sendOwner n kind pay = (false, d.mailRefused n) := if_pos h

/-- R498: what MB8's service does in its turn, the core running. -/
theorem Device.mb8Service_idle (h : d.coreRuns 3 = false ∨ d.asleep = true ∨ (d.study.held = none ∧ (d.mail 8).toFirmware = [])) :
    d.mb8Service = d := by
  rw [Device.mb8Service]
  obtain h | h | ⟨h1, h2⟩ := h
  · rw [h]
    rfl
  · rw [h, Bool.or_true, if_pos rfl]
  · split
    · rfl
    · rw [h1]
      dsimp only
      rw [h2]

theorem Device.mb8Service_request (hr : d.coreRuns 3 = true) (ha : d.asleep = false) {b : Bytes} {rest : List Bytes} (hh : d.study.held = none)
    (hq : (d.mail 8).toFirmware = b :: rest) : let e := d.setMail 8 (fun m => { m with toFirmware := rest })
    let r := e.sendOwner 8 (mb8Reply b).1 (mb8Reply b).2
    d.mb8Service = if r.1 then r.2 else r.2.setStudy (fun s => { s with held := some (toBE 1 (mb8Reply b).1 ++ (mb8Reply b).2) }) := by
  unfold Device.mb8Service
  rw [hr, ha, if_neg (by decide), hh]
  dsimp only
  rw [hq]
  rfl

theorem Device.mb8Service_held (hr : d.coreRuns 3 = true) (ha : d.asleep = false) {r : Bytes} (hh : d.study.held = some r) :
    d.mb8Service = if (d.sendOwner 8 (fieldNat r 0 1) (r.drop 1)).1
      then (d.sendOwner 8 (fieldNat r 0 1) (r.drop 1)).2.setStudy (fun s => { s with held := none }) else d := by
  unfold Device.mb8Service
  rw [hr, ha, if_neg (by decide), hh]

/-- R498: a request that MB8 answers. -/
theorem Device.mb8Service_request_obeys (hr : d.coreRuns 3 = true) (ha : d.asleep = false) (hl : d.study.mail.length = 16) {b : Bytes}
    {rest : List Bytes} (hh : d.study.held = none) (hq : (d.mail 8).toFirmware = b :: rest) : let m := d.mail 8
    let t := d.mb8Service
    t.clock = d.clock ∧ (t.mail 8).toFirmware = rest
      ∧ (m.toOwner.length < 8 → (t.mail 8).toOwner = m.toOwner ++ [message (mb8Reply b).1 m.seqOut (mb8Reply b).2] ∧ t.study.held = none
        ∧ bit (t.nat K.dbIrqPend) (8 - 8) = Decidable.decide ((t.mail 8).toOwner ≠ []))
      ∧ (8 ≤ m.toOwner.length → (t.mail 8).toOwner = m.toOwner ∧ t.study.held = some (byte (mb8Reply b).1 :: (mb8Reply b).2)) := by
  intro m t
  obtain ⟨e1, _, e3, e4, e5, _⟩ := d.setMail_frame (n := 8) (fun m => { m with toFirmware := rest }) (by omega) (by omega)
  have hx : t = _ := d.mb8Service_request hr ha hh hq
  clear_value t
  generalize d.setMail 8 (fun m => { m with toFirmware := rest }) = e at e1 e3 e4 e5 hx
  have hown : (e.mail 8).toOwner = m.toOwner := by rw [e1]
  have hseq : (e.mail 8).seqOut = m.seqOut := by rw [e1]
  have hfw : (e.mail 8).toFirmware = rest := by rw [e1]
  by_cases hroom : m.toOwner.length < 8
  · rw [e.sendOwner_room (by rw [hown]; exact hroom), if_pos rfl] at hx
    obtain ⟨f1, _, f3, _, f5, _, _, _, f9⟩ := e.setMail_frame (n := 8) (fun x => { x with
      toOwner := x.toOwner ++ [message (mb8Reply b).1 x.seqOut (mb8Reply b).2], seqOut := (x.seqOut + 1) % 65536 }) (by omega) (by omega)
    subst hx
    refine ⟨f5.trans e5, (congrArg Mailbox.toFirmware f1).trans hfw, fun _ => ⟨?_, f3.trans (e3.trans hh), f9 (by omega)⟩, fun h => absurd h (by omega)⟩
    rw [f1, hown, hseq]
  · rw [e.sendOwner_full (by rw [hown]; omega), if_neg Bool.false_ne_true] at hx
    obtain ⟨f1, f2⟩ := e.mailRefused_study 8
    have hmail : t.mail 8 = e.mail 8 := by
      rw [hx]
      show (e.mailRefused 8).study.mail.getD 8 {} = _
      rw [f1, Device.mail]
    refine ⟨by rw [hx]; exact f2.trans e5, (congrArg Mailbox.toFirmware hmail).trans hfw, fun h => absurd h hroom,
      fun _ => ⟨(congrArg Mailbox.toOwner hmail).trans hown, by rw [hx]; rfl⟩⟩

/-- R498: a held reply goes as soon as the owner's direction has room. -/
theorem Device.mb8Service_held_obeys (hr : d.coreRuns 3 = true) (ha : d.asleep = false) (hl : d.study.mail.length = 16) {r : Bytes}
    (hh : d.study.held = some r) (hroom : (d.mail 8).toOwner.length < 8) : let t := d.mb8Service
    t.study.held = none ∧ (t.mail 8).toFirmware = (d.mail 8).toFirmware
      ∧ (t.mail 8).toOwner = (d.mail 8).toOwner ++ [message (fieldNat r 0 1) (d.mail 8).seqOut (r.drop 1)] := by
  dsimp only
  obtain ⟨f1, _, _⟩ := d.setMail_frame (n := 8) (fun x => { x with
      toOwner := x.toOwner ++ [message (fieldNat r 0 1) x.seqOut (r.drop 1)], seqOut := (x.seqOut + 1) % 65536 }) (by omega) (by omega)
  have hx := d.mb8Service_held hr ha hh
  rw [d.sendOwner_room hroom, if_pos rfl] at hx
  have hmail : d.mb8Service.mail 8 = _ := (congrArg (·.mail 8) hx).trans f1
  exact ⟨by rw [hx]; rfl, by rw [hmail], by rw [hmail]⟩

theorem Device.mb8Service_full (hr : d.coreRuns 3 = true) (ha : d.asleep = false) {r : Bytes} (hh : d.study.held = some r)
    (hfull : 8 ≤ (d.mail 8).toOwner.length) : d.mb8Service = d := by
  rw [d.mb8Service_held hr ha hh, d.sendOwner_full hfull, if_neg Bool.false_ne_true]

theorem Device.readLive_mbRecv (hn : n < 16) (h8 : 8 ≤ n) :
    d.readLive (K.mbRecv n / 256) (K.mbRecv n % 256) (.upTo 64) = (d.mail n).toOwner.headD [] := by
  obtain ⟨h1, h2⟩ : K.mbRecv n / 256 = 0x6110 + n ∧ K.mbRecv n % 256 = 4 := by
    rw [K.mbRecv]
    omega
  have hd : d.derivedOct (0x6110 + n) 4 = some ((d.mail n).toOwner.headD []) := by
    unfold Device.derivedOct
    dsimp only
    rw [if_neg (by simp [K.porchMacBase]; omega), if_neg (by simp [K.srLaneBusy]; omega), if_neg (by simp), if_neg (by simp [K.atticWindow]; omega),
      if_neg (by simp [K.atticRetained]; omega), if_pos (by simp; omega), Nat.add_sub_cancel_left]
  rw [h1, h2, Device.readLive, hd]
  rfl

end

/-- R496: the reply of a granted READ of a channel's oldest message, or of none. -/
theorem State.mbRecv_granted (s : State) (h : HapHdr) {n : Nat} (hn : n < 16) (h8 : 8 ≤ n) {v : Bytes} {e : Device} :
    let r := hapReq h 1 (K.mbRecv n) []
    let d := s.asked r
    s.grants r → h.flags < 8 → d.lost = [] → (d.mail n).toOwner.headD [] = v → (if (d.mail n).toOwner.head? = some v then (d.readMbRecv n).2 else d) = e →
    v.length ≤ maxPayload (reqSrc r) h.xl ((s.dev.heard r).lock = 3) →
    exec (.mbRecv h n) s = .next (s.answered r { status := some 0, pay := v, dev := e, after := id }) := by
  intro r d hg hf hlost hval he hcap
  have hrow := mbRecv_row n hn h8
  obtain ⟨h1, h2⟩ : K.mbRecv n / 256 = 0x6110 + n ∧ K.mbRecv n % 256 = 4 := by
    rw [K.mbRecv]
    omega
  have hst : asksStaged (K.mbRecv n / 256) (K.mbRecv n % 256) h.flags = false := by
    rw [asksStaged_of_row hrow]
    simp
  have hv : d.readFit (K.mbRecv n / 256) (K.mbRecv n % 256) false (maxPayload (reqSrc r) h.xl ((s.dev.heard r).lock = 3)) = v := by
    rw [d.readFit_of_not_fifo false _ (by simp only [K.mbRecv]; omega), d.readValue_of_row hrow, Bool.false_and, if_neg Bool.false_ne_true,
      d.readLive_mbRecv hn h8, hval]
  have hbar : d.readBarred (K.mbRecv n) = false := by
    have hk : 0x5080 * 256 ≤ K.mbRecv n ∧ K.mbRecv n ≠ K.khAttestReport := by
      simp only [K.mbRecv, K.khAttestReport]
      omega
    have hlow : ¬ K.mbRecv n < 0x5080 * 256 := Nat.not_lt.2 hk.1
    rw [Device.readBarred, hlost, decide_eq_false hlow, decide_eq_false hk.2]
    simp
  have hok := Device.doRead_ok d (K.mbRecv n) h.flags _ (d.accessBad_ok _ _ false hrow (by simp [Device.needsSession]) (by simp))
    (by rw [hst, hv]; exact hcap) hf (fun _ => hbar)
  rw [hst, hv] at hok
  have hdone : d.readDone (K.mbRecv n / 256) (K.mbRecv n % 256) v (d.fifoOut (K.mbRecv n / 256) (K.mbRecv n % 256)) = e := by
    have hin : (Decidable.decide (0x6118 ≤ 0x6110 + n) && Decidable.decide (0x6110 + n ≤ 0x611F) && Decidable.decide ((4 : Nat) = 4)) = true := by
      simp
      omega
    rw [Device.readDone, h1, h2, if_neg (by simp), Nat.add_sub_cancel_left, hin, Bool.true_and, ← he]
    by_cases hh : (d.mail n).toOwner.head? = some v
    · rw [if_pos hh, if_pos (decide_eq_true hh)]
    · rw [if_neg hh, if_neg (by simpa using hh)]
  rw [hdone] at hok
  have hexec : exec (.mbRecv h n) s = .next (s.hap h 1 (K.mbRecv n / 256) (K.mbRecv n % 256) []) := by
    rw [h1, h2]
    exact congrArg (fun i => Host.Outcome.next (s.hap h 1 (0x6110 + i) 0x04 [])) (Nat.mod_eq_of_lt hn)
  exact hexec.trans (congrArg _ ((State.request_granted s h 1 (K.mbRecv n) [] hg).trans (congrArg _ hok)))

theorem exec_mbSend (s : State) (h : HapHdr) {n : Nat} (hn : n < 16) (v : Bytes) : exec (.mbSend h n v) s = .next (s.hapWrite h (K.mbSend n) v) := by
  obtain ⟨h1, h2⟩ : K.mbSend n / 256 = 0x6110 + n ∧ K.mbSend n % 256 = 3 := by
    rw [K.mbSend]
    omega
  rw [State.hapWrite, h1, h2]
  exact congrArg (fun i => Host.Outcome.next (s.hap h 2 (0x6110 + i) 0x03 v)) (Nat.mod_eq_of_lt hn)

theorem State.mbSend_refused (s : State) (h : HapHdr) {n : Nat} (hn : n < 16) (h8 : 8 ≤ n) {v : Bytes} (hv : v.length ≤ 64)
    (hw : s.writes h (K.mbSend n) v) (hb : ¬ MessageWhole v) :
    exec (.mbSend h n v) s = .next (s.wrote h (K.mbSend n) v ((s.asWritten h (K.mbSend n) v).answer St.length)) := by
  have hk : K.mbSend n ≠ K.commitRequest ∧ K.mbSend n ≠ K.atticClear ∧ K.mbSend n ≠ K.khOwnerKeySet := by
    simp only [K.mbSend, K.commitRequest, K.atticClear, K.khOwnerKeySet]
    omega
  exact (exec_mbSend s h hn v).trans (congrArg _ (s.length_refused h hw (mbSend_row n hn h8) (Device.needsSession_wo _ rfl hk.2.2) (by decide)
    ⟨hk.1, hk.2.1⟩ ((Device.lengthBad_mbSend _ hn h8 hv).2 hb)))

theorem State.mbSend_written (s : State) (h : HapHdr) {n : Nat} (hn : n < 16) (h8 : 8 ≤ n) {v : Bytes} (hv : v.length ≤ 64)
    (hw : s.writes h (K.mbSend n) v) (hb : MessageWhole v) :
    exec (.mbSend h n v) s = .next (s.wrote h (K.mbSend n) v (answerOf ((s.asWritten h (K.mbSend n) v).writeMbSend n v))) := by
  have hk : K.mbSend n ≠ K.khOwnerKeySet ∧ ¬ K.mbSend n < 0x3000 * 256 := by
    simp only [K.mbSend, K.khOwnerKeySet]
    omega
  have hrange : ∀ n < 16, octetsBad (K.mbSend n) v = false := fun n hn => by
    obtain ⟨h1, h2⟩ : K.mbSend n / 256 = 0x6110 + n ∧ K.mbSend n % 256 = 3 := by
      rw [K.mbSend]
      omega
    have hne : K.ledgerRootDest < K.mbSend n := by
      simp only [K.mbSend, K.ledgerRootDest]
      omega
    have hn' : ∀ k ≤ K.ledgerRootDest, K.mbSend n ≠ k := fun k hle => Nat.ne_of_gt (Nat.lt_of_le_of_lt hle hne)
    unfold octetsBad
    dsimp only
    rw [h1, h2, if_neg (by simp; omega), if_neg (by simp), if_neg (hn' _ (by decide)), if_neg (hn' _ (by decide)), if_neg (hn' _ (by decide)),
      if_neg (hn' _ (by decide)), if_neg (by simp), if_neg (hn' _ (by decide))]
  refine (exec_mbSend s h hn v).trans (congrArg _ (s.action_granted h _ v _ _ hw (mbSend_row n hn h8) ⟨by decide, by decide⟩
    (Device.needsSession_wo _ rfl hk.1) ?_ (hrange n hn) fun a _ _ _ _ _ => ?_))
  · exact Bool.eq_false_iff.2 fun hbad => (Device.lengthBad_mbSend _ hn h8 hv).1 hbad hb
  · rw [if_neg hk.2, Device.highAction_mbSend _ a hn h8]

theorem dbIrqMask_row : dictFind (K.dbIrqMask / 256) (K.dbIrqMask % 256)
    = some ⟨0x6100, 0x6100, 0x01, 0x01, .uns 1, .rw, .num 0, .mask 0xFF, 0⟩ := rfl

/-- R497: DB_IRQ_MASK is a plain setting. -/
theorem State.dbIrqMask_written (s : State) (h : HapHdr) {m : Nat} (hm : m < 256) (hw : s.writes h K.dbIrqMask [byte m]) :
    exec (.dbIrqMask h [byte m]) s = .next (s.wrote h K.dbIrqMask [byte m] ((s.asWritten h K.dbIrqMask [byte m]).setNum K.dbIrqMask m).done) := by
  have hrange : ∀ m < 256, rangeBad K.dbIrqMask ⟨0x6100, 0x6100, 0x01, 0x01, .uns 1, .rw, .num 0, .mask 0xFF, 0⟩ [byte m] = false := by decide +kernel
  have hval : beNat [byte m] = m := by
    simp [beNat, byte]
    omega
  refine congrArg Host.Outcome.next ((s.write_granted h _ _ _ hw dbIrqMask_row (Device.needsSession_rw _ rfl (by decide)) (by decide)
    (Device.lengthBad_plain _ _ _ _ (by decide) rfl) (hrange m hm)).trans (congrArg _ ?_))
  unfold Device.writeObj
  rw [if_neg (by decide), if_neg (by decide)]
  show ((s.asWritten h K.dbIrqMask [byte m]).setVal K.dbIrqMask (.num (beNat [byte m]))).done = _
  rw [hval]
  rfl

/-- Settles O54: each case by the equation of its request, and what a changed channel leaves. -/
theorem messagesAreWholeOrRefused : Obligations.MessagesAreWholeOrRefused := by
  unfold Obligations.MessagesAreWholeOrRefused
  intro pends
  refine ⟨fun s h n v h8 hn hv => ?_, fun s h n h8 hn => ?_, fun s h m hm => ?_, fun s hl => ?_⟩
  · intro key d out good hw hl
    refine ⟨fun hb => s.mbSend_refused h hn h8 hv hw hb, fun hg hfull hc => ?_, fun hg hroom => ?_⟩
    · have hx := s.mbSend_written h hn h8 hv hw hg
      rw [Device.writeMbSend_full (s.asWritten h (K.mbSend n) v) hg hfull] at hx
      obtain ⟨r1, r2, _, r4⟩ := d.mailRefused_frame hc
      exact ⟨_, hx, r1, r2, r4⟩
    · have hx := s.mbSend_written h hn h8 hv hw hg
      obtain ⟨e, he, hobeys⟩ := Device.writeMbSend_room (s.asWritten h (K.mbSend n) v) hg hroom hl hn h8
      rw [he] at hx
      exact ⟨e, hx, hobeys⟩
  · intro r d hg hf hl hlost
    refine ⟨fun hnil => ?_, fun b rest hcons hb hcap => ?_⟩
    · obtain ⟨o1, o2⟩ := d.oldest_nil hnil
      exact s.mbRecv_granted h hn h8 hg hf hlost o1 o2 (Nat.zero_le _)
    · obtain ⟨o1, o2⟩ := d.oldest_cons hcons
      have hx := s.mbRecv_granted h hn h8 hg hf hlost o1 o2 hcap
      obtain ⟨f1, f2, _, _, _, _, _, f8, f9⟩ := d.setMail_frame (n := n) (fun m => { m with toOwner := rest }) (by omega) hn
      exact ⟨_, hx, by rw [f1], by rw [f1], f8, f9 h8, f2⟩
  · intro v d hw
    refine ⟨s.dbIrqMask_written h hm hw, ?_⟩
    rw [Device.irqLow, Device.nat_setNum, if_neg (by decide), Device.nat_setNum, if_pos rfl, decide_eq_true_iff]
    rfl
  · intro m
    refine ⟨fun hidle => ?_, fun hr ha => ⟨fun b rest hh hq => ?_, fun r hh hroom => ?_, fun r hh hfull => ?_⟩⟩
    · rw [exec_mb8Service, State.on, s.dev.mb8Service_idle hidle]
    · intro kind pay
      have hreply : mb8Reply b = (kind, pay) := by
        by_cases hk : fieldNat b 1 1 = 1
        · simp only [mb8Reply, kind, pay, if_pos hk]
        · simp only [mb8Reply, kind, pay, if_neg hk]
      have hx := s.dev.mb8Service_request_obeys hr ha hl hh hq
      rw [hreply] at hx
      exact ⟨_, exec_mb8Service s, rfl, hx⟩
    · exact ⟨_, exec_mb8Service s, rfl, s.dev.mb8Service_held_obeys hr ha hl hh hroom⟩
    · rw [exec_mb8Service, State.on, s.dev.mb8Service_full hr ha hh hfull]

end Sys2Proof.Machine
end

section
/-! Chapter 18: the Study cores and the firmware images, and what settles O55 (R489 to R493). -/

namespace Sys2Proof.Machine

theorem exec_coreWatchdog (s : State) (c : Nat) : exec (.coreWatchdogExpiry c) s = .next (s.on (·.coreWatchdog c)) := rfl
theorem exec_coreReload (s : State) (c wait : Nat) : exec (.coreReloadComplete c wait) s = .next (s.on (·.coreReload c wait)) := rfl
theorem exec_fwCopy (s : State) : exec .fwCopyComplete s = .next (s.on (·.fwCopied)) := rfl

/-! ## Fields of a byte string with some bytes replaced -/

theorem length_putBytes {b v : Bytes} {off : Nat} (h : off + v.length ≤ b.length) : (putBytes b off v).length = b.length := by
  simp [putBytes]
  omega

theorem field_putBytes_self {b v : Bytes} {off : Nat} (h : off + v.length ≤ b.length) : field (putBytes b off v) off v.length = v := by
  have hlen : (b.take off).length = off := List.length_take_of_le (by omega)
  rw [putBytes, List.append_assoc]
  have := field_of_behind hlen (v ++ b.drop (off + v.length)) 0 v.length
  rw [Nat.add_zero] at this
  rw [this, field_front]

theorem fieldNat_putBytes_self {b : Bytes} {off n : Nat} (w : Nat) (h : off + n ≤ b.length) : fieldNat (putBytes b off (toBE n w)) off n = w % 256 ^ n := by
  have hf := field_putBytes_self (b := b) (v := toBE n w) (off := off) (by rw [length_toBE]; exact h)
  rw [length_toBE] at hf
  rw [fieldNat, hf, beNat_toBE]

/-- Bytes put elsewhere leave a field alone. -/
theorem field_putBytes_ne {b v : Bytes} {off i n : Nat} (h : off + v.length ≤ b.length) (hd : i + n ≤ off ∨ off + v.length ≤ i) :
    field (putBytes b off v) i n = field b i n := by
  have hlen : (b.take off).length = off := List.length_take_of_le (by omega)
  obtain hd | hd := hd
  · rw [putBytes, List.append_assoc, field, List.drop_append_of_le_length (by rw [hlen]; omega),
      List.take_append_of_le_length (by rw [List.length_drop, hlen]; omega), List.drop_take, List.take_take, field]
    congr 1
    omega
  · have hpre : (b.take off ++ v).length = off + v.length := by rw [List.length_append, hlen]
    obtain ⟨k, rfl⟩ := Nat.exists_eq_add_of_le hd
    rw [putBytes, field_of_behind hpre, field, List.drop_drop, field]

theorem fieldNat_putBytes_ne {b v : Bytes} {off i n : Nat} (h : off + v.length ≤ b.length) (hd : i + n ≤ off ∨ off + v.length ≤ i) :
    fieldNat (putBytes b off v) i n = fieldNat b i n := congrArg beNat (field_putBytes_ne h hd)

theorem getD_set_self {α : Type} (l : List α) (x y : α) {n : Nat} (h : n < l.length) : (l.set n x).getD n y = x := by
  rw [List.getD_eq_getElem?_getD, List.getElem?_set_self h]
  rfl

/-- A granted write in SESSION of a command object from 0x3000 on, of a length and range its type allows, answers what the command answers. -/
theorem State.sessionCommand_written (s : State) (h : HapHdr) {key : Nat} {v : Bytes} {row : ObjRow} {x : Reply} (hw : s.writes h key v)
    (hl : (s.asWritten h key v).lock = 3) (hrow : dictFind (key / 256) (key % 256) = some row) (hacc : row.acc ≠ .ro ∧ row.acc ≠ .rwc)
    (hkey : 0x3000 * 256 ≤ key) (hlr : lengthRuled key = false) (hal : row.ty.allows v.length = true) (hrng : rangeBad key row v = false)
    (hact : ∀ a : Asker, a.src = reqSrc (hapReq h 2 key v) → a.env = h.env → a.xl = h.xl → a.txn = h.txn → a.opcode = 2 →
      (s.asWritten h key v).highAction a key v = some x) :
    s.hapWrite h key v = s.wrote h key v x :=
  s.action_granted h key v row x hw hrow hacc (Device.needsSession_session _ hl) (Device.lengthBad_plain _ _ _ _ hlr hal) hrng
    fun a h1 h2 h3 h4 h5 => by rw [if_neg (Nat.not_lt.2 hkey)]; exact hact a h1 h2 h3 h4 h5

section
variable (d : Device) {c : Nat}

/-! ## Watchdogs and reloads (R17, R490) -/

/-- The ticks of core c's resets in the last 60 s. -/
def Device.recentResets (d : Device) (c : Nat) : List Nat := (d.study.resets.getD c []).filter (fun t => d.clock.ticks < t + 60 * sTicks)

/-- The part once core c's reset is counted and reported. -/
def Device.resetCounted (d : Device) (c : Nat) : Device :=
  let n := fieldNat (d.oct K.studyWdtResets) (4 * c) 4 + 1
  (((d.setStudy (fun s => { s with resets := updAt s.resets c (fun _ => d.clock.ticks :: d.recentResets c) })).setOct K.studyWdtResets
    (putBytes (d.oct K.studyWdtResets) (4 * c) (toBE 4 (n % 2 ^ 32)))).report 0x0D01 [c, 1, n]).report (coreEvent c) [c, 1]

theorem Device.coreWatchdog_idle (h : d.coreRuns c = false ∨ d.asleep = true) : d.coreWatchdog c = d := by
  refine if_pos ?_
  obtain h | h := h <;> simp [h]

theorem Device.coreWatchdog_eq (hc : c < 4) (hr : d.coreRuns c = true) (ha : d.asleep = false) :
    d.coreWatchdog c = if (d.recentResets c).length < 2 then (d.resetCounted c).setCore c 2
      else (((d.resetCounted c).setCore c 3).setStudy (fun s => { s with haltedAt := updAt s.haltedAt c (fun _ => some d.clock.ticks) })).report 0x0D01
        [c, 2, fieldNat (d.oct K.studyWdtResets) (4 * c) 4 + 1] := by
  unfold Device.coreWatchdog
  rw [if_neg (by simp [hr, ha]; omega)]
  rfl

theorem Device.setCore_obeys (hc : c < 4) (hl : (d.oct K.studyCoreState).length = 4) (st : Nat) (hst : st < 256) : let t := d.setCore c st
    fieldNat (t.oct K.studyCoreState) c 1 = st ∧ (∀ b, b < 4 → b ≠ c → fieldNat (t.oct K.studyCoreState) b 1 = fieldNat (d.oct K.studyCoreState) b 1)
      ∧ t.clock = d.clock ∧ t.attic = d.attic ∧ ∀ k, k ≠ K.studyCoreState → t.val k = d.val k := by
  have hoct : (d.setCore c st).oct K.studyCoreState = putBytes (d.oct K.studyCoreState) c (toBE 1 st) := Device.oct_setOct_self _ _ _
  refine ⟨?_, fun b hb hne => ?_, rfl, rfl, fun k hk => Device.val_setVal_ne _ _ hk⟩
  · rw [hoct, fieldNat_putBytes_self _ (by omega)]
    omega
  · rw [hoct, fieldNat_putBytes_ne (by rw [length_toBE]; omega) (by rw [length_toBE]; omega)]

theorem Device.coreWatchdog_obeys (hc : c < 4) (hl : (d.oct K.studyCoreState).length = 4) (hw : (d.oct K.studyWdtResets).length = 16)
    (hr : d.coreRuns c = true) (ha : d.asleep = false) {n : Nat} (hn : n = fieldNat (d.oct K.studyWdtResets) (4 * c) 4) (hlt : n < 2 ^ 32 - 1) :
    let t := d.coreWatchdog c
    let few := (d.recentResets c).length < 2
    t.clock = d.clock ∧ fieldNat (t.oct K.studyWdtResets) (4 * c) 4 = n + 1 ∧ fieldNat (t.oct K.studyCoreState) c 1 = (if few then 2 else 3)
      ∧ (∀ b, b < 4 → b ≠ c → fieldNat (t.oct K.studyCoreState) b 1 = fieldNat (d.oct K.studyCoreState) b 1)
      ∧ t.entries = d.entries ++ ((0x0D01, [(c : Int), 1, (n : Int) + 1]) :: (coreEvent c, [(c : Int), 1]) ::
          (if few then [] else [(0x0D01, [(c : Int), 2, (n : Int) + 1])]))
      ∧ ∀ k, k ≠ K.studyCoreState → k ≠ K.studyWdtResets → t.val k = d.val k := by
  intro t few
  have hx : t = _ := d.coreWatchdog_eq hc hr ha
  rw [← hn] at hx
  have e1 : (d.resetCounted c).clock = d.clock ∧ (d.resetCounted c).oct K.studyCoreState = d.oct K.studyCoreState
      ∧ (d.resetCounted c).entries = d.entries ++ [(0x0D01, [(c : Int), 1, (n : Int) + 1]), (coreEvent c, [(c : Int), 1])]
      ∧ (∀ k, k ≠ K.studyWdtResets → (d.resetCounted c).val k = d.val k)
      ∧ fieldNat ((d.resetCounted c).oct K.studyWdtResets) (4 * c) 4 = n + 1 := by
    refine ⟨rfl, congrArg Val.bytes (Device.val_setVal_ne _ _ (by decide)), ?_, fun k hk => Device.val_setVal_ne _ _ hk, ?_⟩
    · rw [Device.resetCounted, Device.entries_report, Device.entries_report, ← hn, List.append_assoc]
      rfl
    · have hoct : (d.resetCounted c).oct K.studyWdtResets = putBytes (d.oct K.studyWdtResets) (4 * c) (toBE 4 ((n + 1) % 2 ^ 32)) := by
        rw [hn]
        exact Device.oct_setOct_self _ _ _
      rw [hoct, fieldNat_putBytes_self _ (by omega)]
      omega
  obtain ⟨c1, c2, c3, c4, c5⟩ := e1
  generalize d.resetCounted c = e at hx c1 c2 c3 c4 c5
  clear_value t
  have hle : (e.oct K.studyCoreState).length = 4 := by rw [c2, hl]
  by_cases hfew : few
  · rw [if_pos hfew] at hx
    obtain ⟨s1, s2, s3, s4, s5⟩ := e.setCore_obeys hc hle 2 (by decide)
    subst hx
    rw [if_pos hfew, if_pos hfew]
    refine ⟨s3.trans c1, ?_, s1, fun b hb hne => (s2 b hb hne).trans (by rw [c2]), ?_, fun k h1 h2 => (s5 k h1).trans (c4 k h2)⟩
    · rw [← c5]
      exact congrArg (fun v : Val => fieldNat v.bytes (4 * c) 4) (s5 _ (by decide))
    · rw [entries_of_attic s4, c3]
  · rw [if_neg hfew] at hx
    obtain ⟨s1, s2, s3, s4, s5⟩ := e.setCore_obeys hc hle 3 (by decide)
    subst hx
    rw [if_neg hfew, if_neg hfew]
    refine ⟨s3.trans c1, ?_, s1, fun b hb hne => (s2 b hb hne).trans (by rw [c2]), ?_, fun k h1 h2 => (s5 k h1).trans (c4 k h2)⟩
    · rw [← c5]
      exact congrArg (fun v : Val => fieldNat v.bytes (4 * c) 4) (s5 _ (by decide))
    · rw [Device.entries_report]
      show (e.setCore c 3).entries ++ _ = _
      rw [entries_of_attic s4, c3, List.append_assoc]
      rfl

theorem Device.coreReload_idle (wait : Nat) (h : fieldNat (d.oct K.studyCoreState) c 1 ≠ 2) : d.coreReload c wait = d :=
  if_pos (by simp [h])

theorem Device.coreReload_obeys (wait : Nat) (hc : c < 4) (hl : (d.oct K.studyCoreState).length = 4) (h : fieldNat (d.oct K.studyCoreState) c 1 = 2) :
    let e := d.runTo (min (d.clock.ticks + wait) ((d.study.resets.getD c []).headD 0 + 50 * msTicks))
    let t := d.coreReload c wait
    t.clock = e.clock ∧ fieldNat (t.oct K.studyCoreState) c 1 = (if d.asleep = true then 1 else 0)
      ∧ t.entries = d.entries ++ [(coreEvent c, [(c : Int), 0])] ∧ ∀ k, k ≠ K.studyCoreState → t.val k = d.val k := by
  intro e t
  have hx : t = (e.setCore c (if d.asleep then 1 else 0)).report (coreEvent c) [c, 0] := if_neg (by simp [h]; omega)
  obtain ⟨s1, _, s3, s4, s5⟩ := e.setCore_obeys hc (by rw [Device.runTo_oct]; exact hl) (if d.asleep then 1 else 0) (by split <;> decide)
  clear_value t
  subst hx
  refine ⟨s3, s1, ?_, fun k hk => (s5 k hk).trans (Device.runTo_val _ _ _)⟩
  rw [Device.entries_report, entries_of_attic (s4.trans (Device.runTo_attic _ _))]

/-! ## Images (R482, R492, R493) -/

theorem studyFwImage_row : dictFind (K.studyFwImage / 256) (K.studyFwImage % 256)
    = some ⟨0x6201, 0x6201, 0x00, 0x00, .upTo 8388864, .rws, .bytes [], .span 257 8388864, 0⟩ := rfl

theorem studyNextLoc_row : dictFind (K.studyNextLoc / 256) (K.studyNextLoc % 256)
    = some ⟨0x6200, 0x6200, 0x05, 0x05, .uns 1, .rws, .num 0, .span 0 1, 0⟩ := rfl

theorem Device.highAction_studyFwImage (a : Asker) (b : Bytes) (h : d.nat K.studyStageState ≠ 2) :
    d.highAction a K.studyFwImage b = some (answerOf (d.writeFwImage b a.env.vendor)) :=
  congrArg some (if_neg h)

/-- R492: the part with an image's check published and reported. -/
def Device.imageTold (d : Device) (img : Bytes) (code : Nat) : Device :=
  (d.setNum K.studyStageResult code).report 0x0D02 [(1 - d.nat K.studyActiveLoc : Nat), code, fieldNat img 8 1]

theorem Device.imageTold_obeys (img : Bytes) (code : Nat) (st : Int) : let t := (d.imageTold img code).setNum K.studyStageState st
    t.foyer = d.foyer ∧ t.nat K.studyStageResult = code ∧ t.nat K.studyStageState = st.toNat ∧ t.study = d.study
      ∧ t.entries = d.entries ++ [(0x0D02, [((1 - d.nat K.studyActiveLoc : Nat) : Int), (code : Int), (fieldNat img 8 1 : Int)])] := by
  refine ⟨rfl, ?_, ?_, rfl, Device.entries_report _ _ _⟩
  · rw [Device.nat_setNum, if_neg (by decide), Device.imageTold, Device.report_nat, Device.nat_setNum, if_pos rfl, Int.toNat_natCast]
  · rw [Device.nat_setNum, if_pos rfl]

/-- R492: what a checked image leaves. -/
theorem Device.writeFwImage_obeys (img : Bytes) (vendor : Bool) {code : Nat} (h : d.imageCheck img vendor = code) : let t := (d.writeFwImage img vendor).2
    (d.writeFwImage img vendor).1 = (if code = 0 then 0 else if code ≤ 2 then 0x1005 else 0x100B)
      ∧ t.foyer = d.foyer ∧ t.nat K.studyStageResult = code ∧ t.nat K.studyStageState = (if code = 0 then 2 else 0)
      ∧ t.study.images = d.study.images ∧ (code = 0 → t.study.staged = img)
      ∧ t.entries = d.entries ++ [(0x0D02, [((1 - d.nat K.studyActiveLoc : Nat) : Int), (code : Int), (fieldNat img 8 1 : Int)])] := by
  have hx : d.writeFwImage img vendor =
      if code = 0 then (St.ok, ((d.imageTold img code).setNum K.studyStageState 2).setStudy (fun s => { s with staged := img }))
      else (if code ≤ 2 then St.range else St.auth, (d.imageTold img code).setNum K.studyStageState 0) := by
    rw [← h]
    rfl
  dsimp only
  rw [hx]
  by_cases hc : code = 0
  · obtain ⟨i1, i2, i3, i4, i5⟩ := d.imageTold_obeys img code 2
    rw [if_pos hc, if_pos hc, if_pos hc]
    exact ⟨rfl, i1, i2, i3, rfl, fun _ => rfl, i5⟩
  · obtain ⟨i1, i2, i3, i4, i5⟩ := d.imageTold_obeys img code 0
    rw [if_neg hc, if_neg hc, if_neg hc]
    exact ⟨rfl, i1, i2, i3, congrArg Study.images i4, fun h => absurd h hc, i5⟩

theorem Device.fwCopied_idle (h : d.nat K.studyStageState ≠ 2 ∨ d.coreRuns 3 = false) : d.fwCopied = d := by
  refine if_pos ?_
  obtain h | h := h <;> simp [h]

theorem Device.fwCopied_obeys (h : d.nat K.studyStageState = 2) (hr : d.coreRuns 3 = true) (hi : d.study.images.length = 2)
    (hp : d.study.passed.length = 2) : let other := 1 - d.nat K.studyActiveLoc
    let t := d.fwCopied
    t.clock = d.clock ∧ t.study.images = d.study.images.set other d.study.staged ∧ t.study.passed.getD other false = true
      ∧ t.nat K.studyStageState = 0 ∧ t.oct K.studyFwImage = d.study.staged := by
  intro other t
  have hlt : other < 2 := by
    show 1 - d.nat K.studyActiveLoc < 2
    omega
  have hx : t = ((d.setStudy (fun s => { s with images := s.images.set other s.staged, passed := s.passed.set other true, staged := [] })).setNum
      K.studyStageState 0).followLocs := if_neg (by simp [h, hr])
  have hact : ((d.setStudy (fun s => { s with images := s.images.set other s.staged, passed := s.passed.set other true, staged := [] })).setNum
      K.studyStageState 0).nat K.studyActiveLoc = d.nat K.studyActiveLoc := by
    rw [Device.nat_setNum, if_neg (by decide)]
    rfl
  generalize hd : (d.setStudy (fun s => { s with images := s.images.set other s.staged, passed := s.passed.set other true, staged := [] })).setNum
      K.studyStageState 0 = e at hx hact
  have hstudy : e.study.images = d.study.images.set other d.study.staged ∧ e.study.passed = d.study.passed.set other true ∧ e.clock = d.clock
      ∧ e.nat K.studyStageState = 0 := by
    rw [← hd]
    exact ⟨rfl, rfl, rfl, by rw [Device.nat_setNum, if_pos rfl]; rfl⟩
  obtain ⟨s1, s2, s3, s4⟩ := hstudy
  clear_value t
  subst hx
  refine ⟨s3, s1, ?_, ?_, ?_⟩
  · show e.study.passed.getD other false = true
    rw [s2]
    exact getD_set_self _ _ _ (by omega)
  · rw [← s4]
    exact (congrArg (fun v : Val => v.int.toNat) ((Device.val_setVal_ne _ _ (by decide)).trans (Device.val_setVal_ne _ _ (by decide))))
  · rw [Device.followLocs, Device.oct_setOct_self, hact, s1]
    exact getD_set_self _ _ _ (by omega)

end

/-- R492: the reply to the segment that completes an image. -/
theorem State.studyFwImage_completed (s : State) (h : HapHdr) {segno : Nat} {data : Bytes} {x : Xfer} :
    let r := hapReq h 6 K.studyFwImage (toBE 4 segno ++ data)
    let d := s.asked r
    s.grants r → d.lock = 3 → h.flags < 8 → h.length = 4 + data.length → segno < 2 ^ 32 → d.foyer.xfer = some x → x.writing = true →
    x.index = 0x6201 → x.sub = 0 → x.next = segno → (x.buf ++ data).length = x.total → 257 ≤ (x.buf ++ data).length →
    (x.buf ++ data).length ≤ 8388864 → d.nat K.studyStageState ≠ 2 →
    exec (.studyFwImage h segno data) s = .next (s.answered r (answerOf
      ((d.setFoyer (fun f => { f with xfer := none })).writeFwImage (x.buf ++ data) h.env.vendor))) := by
  intro r d hg hlock hf hlen hseg hx hw hi hs hn htot hmin hmax hst
  have hfour : (toBE 4 segno).length = 4 := length_toBE 4 segno
  have hdata : (toBE 4 segno ++ data).drop 4 = data := by
    rw [List.drop_append_of_le_length (by omega), List.drop_of_length_le (by omega), List.nil_append]
  have hnum : beNat ((toBE 4 segno ++ data).take 4) = x.next := by
    rw [List.take_append_of_le_length (by omega), List.take_of_length_le (by omega), beNat_toBE, hn]
    omega
  have hbad : d.lengthBad (K.studyFwImage / 256) (K.studyFwImage % 256) (.upTo 8388864) (x.buf ++ data) = false := by
    have h1 : Decidable.decide ((x.buf ++ data).length < 257) = false := decide_eq_false (by omega)
    have h2 : Ty.allows (.upTo 8388864) (x.buf ++ data).length = true := decide_eq_true hmax
    unfold Device.lengthBad
    rw [h1, h2]
    rfl
  obtain ⟨_, hseg⟩ := segmentedWriteAtTotal s h K.studyFwImage _ (toBE 4 segno ++ data) hf (by rw [List.length_append, hfour, hlen]) studyFwImage_row
  obtain ⟨_, hend⟩ := hseg hg (by decide) (Device.needsSession_session _ hlock) (by rw [List.length_append]; omega) x hx hw hi hs hnum
  rw [hdata] at hend
  have hx := hend (by rw [← List.length_append]; exact htot) hbad rfl
  have hact : ∀ a : Asker, a.env = h.env → (d.setFoyer (fun f => { f with xfer := none })).writeObj a K.studyFwImage
      ⟨0x6201, 0x6201, 0x00, 0x00, .upTo 8388864, .rws, .bytes [], .span 257 8388864, 0⟩ (x.buf ++ data)
        = answerOf ((d.setFoyer (fun f => { f with xfer := none })).writeFwImage (x.buf ++ data) h.env.vendor) := fun a ha => by
    unfold Device.writeObj
    rw [if_neg (by decide), if_neg (by decide), Device.highAction_studyFwImage (d.setFoyer (fun f => { f with xfer := none })) a _ hst, ha]
  rw [hact _ rfl] at hx
  exact hx

/-- Settles O55: cores by their watchdog and reload, images by the segment that completes them, the copy and the boot record. -/
theorem coresAndImagesRecover : Obligations.CoresAndImagesRecover := by
  refine ⟨fun s c hc hl hw hres => ?_, fun s c wait hc hl => ?_, fun s h segno data x => ?_, fun s hi hp => ?_, fun s h loc hloc => ?_⟩
  · intro n recent
    refine ⟨fun h => ?_, fun hr ha hn => ?_⟩
    · rw [exec_coreWatchdog, State.on, s.dev.coreWatchdog_idle h]
    · obtain ⟨w1, w2, w3, w4, w5, w6⟩ := s.dev.coreWatchdog_obeys hc hl hw hr ha (n := n) rfl hn
      exact ⟨_, exec_coreWatchdog s c, rfl, w1, w2, w3, w4, newReports_of_entries w5, w6⟩
  · refine ⟨fun h => ?_, fun h => ?_⟩
    · rw [exec_coreReload, State.on, s.dev.coreReload_idle wait h]
    · obtain ⟨w1, w2, w3, w4⟩ := s.dev.coreReload_obeys wait hc hl h
      exact ⟨_, exec_coreReload s c wait, rfl, w1, w2, newReports_of_entries w3, w4⟩
  · intro r d v code hg hlock hf hlen hseg hx hw hi hs hn htot hmin hmax hst
    have hexec := s.studyFwImage_completed h hg hlock hf hlen hseg hx hw hi hs hn htot hmin hmax hst
    obtain ⟨i1, i2, i3, i4, i5, i6, i7⟩ := (d.setFoyer (fun f => { f with xfer := none })).writeFwImage_obeys v h.env.vendor (code := code) rfl
    refine ⟨_, hexec.trans ?_, ?_, i3, i4, i5, i6, newReports_of_entries i7⟩
    · rw [answerOf, i1]
    · rw [i2]
      rfl
  · refine ⟨fun h => ?_, fun h hr => ?_⟩
    · rw [exec_fwCopy, State.on, s.dev.fwCopied_idle h]
    · exact ⟨_, exec_fwCopy s, rfl, s.dev.fwCopied_obeys h hr hi hp⟩
  · intro v d out hw hlock
    have hrange : ∀ loc < 2, rangeBad K.studyNextLoc ⟨0x6200, 0x6200, 0x05, 0x05, .uns 1, .rws, .num 0, .span 0 1, 0⟩ [byte loc] = false := by decide
    have hval : beNat v = loc := by
      show beNat [byte loc] = loc
      simp [beNat, byte]
      omega
    have hx := s.sessionCommand_written h hw hlock studyNextLoc_row (by decide) (by decide) (by decide) rfl (hrange loc hloc)
      (x := answerOf (d.writeNextLoc (beNat v))) (fun _ _ _ _ _ _ => rfl)
    rw [hval] at hx
    refine ⟨fun hp => ?_, fun hp => ?_⟩
    · refine (congrArg Host.Outcome.next hx).trans ?_
      rw [Device.writeNextLoc, hp]
      rfl
    · have hwr : d.writeNextLoc loc = (St.ok, ((d.setNum K.studyNextLoc loc).setStudy (fun s => { s with flag := loc })).report 0x0D04 [loc]) := by
        rw [Device.writeNextLoc, hp]
        rfl
      rw [hwr] at hx
      refine ⟨_, congrArg Host.Outcome.next hx, ?_, rfl, newReports_of_entries (Device.entries_report _ _ _), fun k hk => Device.val_setVal_ne _ _ hk⟩
      rw [Device.report_nat]
      show (d.setNum K.studyNextLoc loc).nat K.studyNextLoc = loc
      rw [Device.nat_setNum, if_pos rfl, Int.toNat_natCast]

end Sys2Proof.Machine
end

section
/-! Chapters 15 to 17: what follows in Strongroom and in the Ledger of a change of the key slots (R17, R433, R474). -/

namespace Sys2Proof.Machine

/-- What a change of a lane, a job or a key slot may touch beside live values and reports: Strongroom and the Ledger. -/
def laneBlank : Blank :=
  { clear := fun d => { d with obj := [], lost := [], attic := {}, strong := {}, ledger := {} }, clear_setVal := fun _ _ _ => rfl }

/-- The objects that follow the lanes' states, a batch's end and the owner's job. -/
def laneKeys : List Nat := [K.srLaneState, K.srLanesInService, K.srJobState, K.ledgerSealState, K.ledgerFailed, K.ledgerBatches, K.ledgerLeaves]

def laneKey (k : Nat) : Bool := k ∈ laneKeys

/-- `t` is `d` but for what lanes, jobs and batches do on their own: every job stays with who asked for it, and what is reported is Parlour's. -/
structure Device.LanesFollow (d t : Device) : Prop where
  rest : t.beside laneBlank laneKey = d.beside laneBlank laneKey
  who : t.strong.jobs.map Job.who = d.strong.jobs.map Job.who
  told : ∃ l, t.entries = d.entries ++ l ∧ ∀ r ∈ l, r.1 / 256 = 0x0A

section
variable {d e f : Device}

theorem Device.LanesFollow.refl (d : Device) : d.LanesFollow d := ⟨rfl, rfl, [], (List.append_nil _).symm, by simp⟩

theorem Device.LanesFollow.trans (h : d.LanesFollow e) (h' : e.LanesFollow f) : d.LanesFollow f := by
  obtain ⟨l, hl, hc⟩ := h.told
  obtain ⟨l', hl', hc'⟩ := h'.told
  refine ⟨h'.rest.trans h.rest, h'.who.trans h.who, l ++ l', by rw [hl', hl, List.append_assoc], fun r hr => ?_⟩
  exact (List.mem_append.mp hr).elim (hc r) (hc' r)

/-- An operation on those parts that reports nothing. -/
theorem Device.LanesFollow.of_silent (hr : e.beside laneBlank laneKey = d.beside laneBlank laneKey) (hw : e.strong.jobs.map Job.who = d.strong.jobs.map Job.who)
    (ha : e.attic = d.attic) : d.LanesFollow e := ⟨hr, hw, [], by rw [Device.entries_of_attic ha, List.append_nil], by simp⟩

theorem Device.LanesFollow.of_report {code : Nat} (p : List Int) (h : code / 256 = 0x0A) (d : Device) : d.LanesFollow (d.report code p) :=
  ⟨rfl, rfl, [(code, p)], d.entries_report code p, by simpa using h⟩

theorem Device.LanesFollow.foldl {α : Type} {g : Device → α → Device} (l : List α) (h : ∀ x a, a ∈ l → Device.LanesFollow x (g x a)) (d : Device) :
    d.LanesFollow (l.foldl g d) := by
  induction l generalizing d with
  | nil => exact .refl d
  | cons a l ih => exact (h d a List.mem_cons_self).trans (ih (fun x b hb => h x b (List.mem_cons_of_mem a hb)) _)

theorem Device.LanesFollow.ite {c : Prop} [Decidable c] (h : d.LanesFollow e) (h' : d.LanesFollow f) : d.LanesFollow (if c then e else f) := by
  split <;> assumption

section
variable (h : d.LanesFollow e)
include h

theorem Device.LanesFollow.clear : laneBlank.clear e = laneBlank.clear d := clear_of_beside h.rest
theorem Device.LanesFollow.val {k : Nat} (hk : laneKey k = false) : e.val k = d.val k := val_of_beside h.rest hk
theorem Device.LanesFollow.num {k : Nat} (hk : laneKey k = false) : e.num k = d.num k := num_of_beside h.rest hk
theorem Device.LanesFollow.nat {k : Nat} (hk : laneKey k = false) : e.nat k = d.nat k := nat_of_beside h.rest hk
theorem Device.LanesFollow.oct {k : Nat} (hk : laneKey k = false) : e.oct k = d.oct k := congrArg Val.bytes (h.val hk)
theorem Device.LanesFollow.keyhole : e.keyhole = d.keyhole := congrArg (fun x => x.keyhole) h.clear
theorem Device.LanesFollow.clock : e.clock = d.clock := congrArg (fun x => x.clock) h.clear
theorem Device.LanesFollow.foyer : e.foyer = d.foyer := congrArg (fun x => x.foyer) h.clear
theorem Device.LanesFollow.staged : e.staged = d.staged := congrArg (fun x => x.staged) h.clear
theorem Device.LanesFollow.adds : d.Adds e := by
  obtain ⟨l, hl, -⟩ := h.told
  exact ⟨l, hl.symm⟩

end

/-! ## Lanes and jobs -/

variable (d)

theorem Device.follows_setLane (l : Nat) (g : Lane → Lane) : d.LanesFollow (d.setLane l g) := .of_silent rfl rfl rfl
theorem Device.follows_setLedger (g : Ledger → Ledger) : d.LanesFollow (d.setLedger g) := .of_silent rfl rfl rfl
theorem Device.follows_setBatch (id : Nat) (g : Batch → Batch) : d.LanesFollow (d.setBatch id g) := d.follows_setLedger _

theorem Device.follows_setNum {k : Nat} (v : Int) (h : laneKey k = true) : d.LanesFollow (d.setNum k v) := .of_silent (d.beside_setNum v h) rfl rfl
theorem Device.follows_setOct {k : Nat} (v : Bytes) (h : laneKey k = true) : d.LanesFollow (d.setOct k v) := .of_silent (d.beside_setOct v h) rfl rfl
theorem Device.follows_bumpBy {k : Nat} (w m : Nat) (h : laneKey k = true) : d.LanesFollow (d.bumpBy w k m) := .of_silent (d.beside_bumpBy w m h) rfl rfl

theorem Device.follows_putLane (l st : Nat) : d.LanesFollow (d.putLane l st) :=
  ((d.follows_setOct _ (by decide)).trans (Device.follows_setNum _ _ (by decide))).trans (Device.follows_setLane _ _ _)

theorem Device.follows_laneFollow (l : Nat) : d.LanesFollow (d.laneFollow l) := .ite (.refl d) (d.follows_putLane l _)

/-- A job changed keeps who asked for it. -/
theorem Device.follows_setJob (id : Nat) {g : Job → Job} (h : ∀ j, (g j).who = j.who) : d.LanesFollow (d.setJob id g) := by
  refine .of_silent rfl ?_ rfl
  show (d.strong.jobs.map _).map Job.who = _
  rw [List.map_map]
  refine List.map_congr_left fun j _ => ?_
  simp only [Function.comp_apply]
  split
  · exact h j
  · rfl

theorem Device.follows_jobTo (id st : Nat) : d.LanesFollow (d.jobTo id st) := by
  unfold Device.jobTo
  split
  · exact .refl d
  · have h : d.LanesFollow (d.setJob id (fun j => { j with state := st })) := d.follows_setJob id fun _ => rfl
    exact .ite (h.trans (Device.follows_setNum _ _ (by decide))) h

theorem Device.follows_resumeTop (l : Nat) : d.LanesFollow (d.resumeTop l) := by
  unfold Device.resumeTop
  split
  · exact d.follows_laneFollow l
  · refine Device.LanesFollow.trans ?_ (Device.follows_laneFollow _ l)
    split
    · exact .ite ((d.follows_jobTo _ _).trans (Device.follows_setJob _ _ fun _ => rfl)) (.refl d)
    · exact .refl d

/-! ## Batches -/

theorem Device.follows_unbook (l : Nat) : d.LanesFollow (d.unbook l) := (d.follows_setLane l _).trans (Device.follows_resumeTop _ l)

theorem Device.follows_batchDone (id : Nat) : d.LanesFollow (d.batchDone id) := by
  unfold Device.batchDone
  split
  · exact .refl d
  · refine .ite (.refl d) (.ite (d.follows_setLedger _) ?_)
    exact ((d.follows_setLedger _).trans (Device.follows_bumpBy _ 8 1 (by decide))).trans (Device.follows_bumpBy _ _ _ (by decide))

theorem Device.follows_failBatch (b : Batch) (cause : Nat) : d.LanesFollow (d.failBatch b cause) := by
  have h1 : d.LanesFollow ((d.setBatch b.id (fun b => { b with state := 5, started := false })).setNum K.ledgerSealState 0) :=
    (d.follows_setBatch _ _).trans (Device.follows_setNum _ _ (by decide))
  refine Device.LanesFollow.trans ?_ (Device.follows_batchDone _ _)
  refine Device.LanesFollow.trans ?_ (.of_report _ (by decide) _)
  refine Device.LanesFollow.trans ?_ (Device.follows_bumpBy _ _ _ (by decide))
  exact .ite (.ite (h1.trans (Device.follows_unbook _ _)) (h1.trans (Device.follows_unbook _ _))) h1

/-! ## Losses of Parlour's providers (R17) -/

variable (d0 : Device)

theorem Device.noteLoss_eq (l : List (Nat × List Int)) : (l.foldl (fun e r => e.report r.1 r.2) d).entries = d.entries ++ l := by
  induction l generalizing d with
  | nil => exact (List.append_nil _).symm
  | cons r l ih => rw [List.foldl_cons, ih, Device.entries_report, List.append_assoc]; rfl

theorem Device.entries_noteLoss : (d.noteLoss d0).entries = d.entries ++ d0.lossReports d := d.noteLoss_eq _

/-- A fold of reports touches the Attic alone. -/
theorem Device.reports_frame (l : List (Nat × List Int)) : ∃ a, l.foldl (fun e r => e.report r.1 r.2) d = { d with attic := a } := by
  induction l generalizing d with
  | nil => exact ⟨d.attic, rfl⟩
  | cons r l ih =>
    obtain ⟨a, ha⟩ := ih (d.report r.1 r.2)
    exact ⟨a, ha⟩

theorem Device.noteLoss_frame : ∃ a, d.noteLoss d0 = { d with attic := a } := d.reports_frame _

theorem Device.noteLoss_same : (d.noteLoss d0).obj = d.obj ∧ (d.noteLoss d0).clock = d.clock ∧ (d.noteLoss d0).strong = d.strong ∧
    laneBlank.clear (d.noteLoss d0) = laneBlank.clear d := by
  obtain ⟨a, ha⟩ := d.noteLoss_frame d0
  rw [ha]
  exact ⟨rfl, rfl, rfl, rfl⟩

theorem lossReport_code (c : Nat) (began : Bool) : (lossReport c began).1 / 256 = 0x0A := by
  show (0x0A00 + Config.lossCode c % 256) / 256 = 0x0A
  omega

theorem Device.follows_noteLoss : d.LanesFollow (d.noteLoss d0) := by
  obtain ⟨hobj, -, hs, hB⟩ := d.noteLoss_same d0
  refine ⟨beside_of_clear hB (val_of_obj hobj), by rw [hs], _, d.entries_noteLoss d0, fun r hr => ?_⟩
  obtain ⟨c, -, rfl⟩ := List.mem_map.mp hr
  exact lossReport_code c _

/-- What a change of a condition reports says which condition it is. -/
theorem Device.lossReport_mem {c : Nat} (hc : c < 3) :
    lossReport c (d.providerLost c) ∈ d0.lossReports d ↔ d0.providerLost c ≠ d.providerLost c := by
  simp only [Device.lossReports, List.mem_map, List.mem_filter, List.mem_range, bne_iff_ne]
  constructor
  · rintro ⟨c', ⟨-, hne⟩, heq⟩
    have hcc : c' = c := by
      have := congrArg (fun r => r.2.headD 0) heq
      simpa [lossReport] using this
    exact hcc ▸ hne
  · exact fun hne => ⟨c, ⟨hc, hne⟩, rfl⟩

/-! ## Key slots (R474) -/

theorem Device.follows_keysFollow : d.LanesFollow (d.keysFollow d0) :=
  (Device.LanesFollow.foldl _ (fun x b _ => x.follows_failBatch b 5) d).trans (Device.follows_noteLoss _ d0)

/-- Where no batch in SIGNING loses its key, a change of the slots is only recorded. -/
theorem Device.keysFollow_of_sound (h : ∀ b ∈ d.ledger.batches, d0.ledgerKeyOk b.keySlot b.sig = true → d.ledgerKeyOk b.keySlot b.sig = true) :
    d.keysFollow d0 = d.noteLoss d0 := by
  have hnil : (d.ledger.batches.filter (fun b => b.state = 2)).filter (fun b => d0.ledgerKeyOk b.keySlot b.sig && !d.ledgerKeyOk b.keySlot b.sig) = [] := by
    rw [List.filter_eq_nil_iff]
    intro b hb hbad
    simp only [Bool.and_eq_true, Bool.not_eq_true'] at hbad
    rw [h b (List.mem_of_mem_filter hb) hbad.1] at hbad
    exact absurd hbad.2 (by decide)
  rw [Device.keysFollow, hnil, List.foldl_nil]

/-- The slot itself as setSlot gives it, before what follows of it. -/
def Device.slotPut (d : Device) (k st typ use id : Nat) (pub : Bytes) : Device :=
  (d.setNums [(K.ksState k, st), (K.ksType k, typ), (K.ksUse k, use), (K.ksKeyId k, id)]).setOct (K.ksPub k) pub

theorem Device.setSlot_eq (k st typ use id : Nat) (pub : Bytes) : d.setSlot k st typ use id pub = (d.slotPut k st typ use id pub).keysFollow d := rfl

/-- The objects of key slot k. -/
def slotKey (k : Nat) : Nat → Bool := fun x => 0x514001 + 256 * k ≤ x && x ≤ 0x514005 + 256 * k

theorem slotKey_key (k : Nat) : slotKey k (K.ksState k) = true ∧ slotKey k (K.ksType k) = true ∧ slotKey k (K.ksUse k) = true ∧
    slotKey k (K.ksKeyId k) = true ∧ slotKey k (K.ksPub k) = true := by
  refine ⟨?_, ?_, ?_, ?_, ?_⟩ <;> refine Bool.and_eq_true_iff.mpr ⟨decide_eq_true ?_, decide_eq_true ?_⟩ <;>
    simp only [K.ksState, K.ksType, K.ksUse, K.ksKeyId, K.ksPub] <;> omega

theorem laneKey_of_slot {k x : Nat} (h : slotKey k x = true) : laneKey x = false := by
  simp only [slotKey, Bool.and_eq_true, decide_eq_true_eq] at h
  rw [laneKey, decide_eq_false_iff_not]
  intro hx
  have : ∀ y ∈ laneKeys, y < 0x510000 := by decide
  have := this x hx
  omega

section
variable (k st typ use id : Nat) (pub : Bytes)

theorem Device.slotPut_beside (B : Blank) : (d.slotPut k st typ use id pub).beside B (slotKey k) = d.beside B (slotKey k) := by
  obtain ⟨h1, h2, h3, h4, h5⟩ := slotKey_key k
  refine (Device.beside_setOct _ _ h5).trans (d.beside_setNums _ ?_)
  simp [h1, h2, h3, h4]

theorem Device.slotPut_self : let t := d.slotPut k st typ use id pub
    t.nat (K.ksState k) = st ∧ t.nat (K.ksType k) = typ ∧ t.nat (K.ksUse k) = use ∧ t.nat (K.ksKeyId k) = id ∧ t.oct (K.ksPub k) = pub := by
  have hne : ∀ i < 4, (0x5140 + k) * 256 + (i + 1) ≠ K.ksPub k := by intro i hi; simp only [K.ksPub]; omega
  have hn (i : Nat) (hi : i < 4) {v : Nat} (hv : (d.setNums [(K.ksState k, (st : Int)), (K.ksType k, typ), (K.ksUse k, use), (K.ksKeyId k, id)]).num
      ((0x5140 + k) * 256 + (i + 1)) = (v : Int)) : (d.slotPut k st typ use id pub).nat ((0x5140 + k) * 256 + (i + 1)) = v := by
    rw [Device.nat, Device.num, Device.slotPut, Device.setOct, Device.val_setVal_ne _ _ (hne i hi)]
    exact congrArg Int.toNat hv
  have hnd : ([(K.ksState k, (st : Int)), (K.ksType k, (typ : Int)), (K.ksUse k, (use : Int)), (K.ksKeyId k, (id : Int))].map Prod.fst).Nodup := by
    simp [K.ksState, K.ksType, K.ksUse, K.ksKeyId]
  have hm := fun k v hx => d.num_setNums_of_mem (k := k) (v := v) hnd hx
  refine ⟨hn 0 (by decide) (hm (K.ksState k) st (by simp)), hn 1 (by decide) (hm (K.ksType k) typ (by simp)),
    hn 2 (by decide) (hm (K.ksUse k) use (by simp)), hn 3 (by decide) (hm (K.ksKeyId k) id (by simp)), Device.oct_setOct_self _ _ _⟩

end

end

end Sys2Proof.Machine
end

section
/-! Chapter 17: Keyhole's slots, store, draws and queued jobs (R468 to R476). -/

namespace Sys2Proof.Machine

/-- What is reported from `d` to `e` under Keyhole's range. -/
def Device.Records (d e : Device) (l : List (Nat × List Int)) : Prop :=
  ∃ m, e.entries = d.entries ++ m ∧ m.filter (fun r => r.1 / 256 = 0x0C) = l

section
variable {d e f : Device} {l m : List (Nat × List Int)}

theorem Device.Records.trans (h : d.Records e l) (h' : e.Records f m) : d.Records f (l ++ m) := by
  obtain ⟨a, ha, hl⟩ := h
  obtain ⟨b, hb, hm⟩ := h'
  exact ⟨a ++ b, by rw [hb, ha, List.append_assoc], by rw [List.filter_append, hl, hm]⟩

theorem Device.Records.of_attic (h : e.attic = d.attic) : d.Records e [] := ⟨[], by rw [Device.entries_of_attic h, List.append_nil], rfl⟩

theorem Device.Records.of_report (d : Device) {code : Nat} (p : List Int) (h : code / 256 = 0x0C) : d.Records (d.report code p) [(code, p)] :=
  ⟨[(code, p)], d.entries_report code p, by simp [h]⟩

theorem Device.Records.of_follows (h : d.LanesFollow e) : d.Records e [] := by
  obtain ⟨l, hl, hc⟩ := h.told
  refine ⟨l, hl, List.filter_eq_nil_iff.mpr fun r hr => ?_⟩
  simp [hc r hr]

/-- The reports of one code of Keyhole's range. -/
theorem Device.Records.filter (h : d.Records e l) {code : Nat} (hc : code / 256 = 0x0C) :
    (newReports d e).filter (fun r => r.1 = code) = l.filter (fun r => r.1 = code) := by
  obtain ⟨m, hm, rfl⟩ := h
  rw [newReports_of_entries hm, List.filter_filter]
  refine List.filter_congr fun r _ => ?_
  by_cases hr : r.1 = code
  · simp [hr, hc]
  · simp [hr]

theorem Device.Records.mem (h : d.Records e l) {r : Nat × List Int} (hr : r ∈ l) : r ∈ newReports d e := by
  obtain ⟨m, hm, rfl⟩ := h
  rw [newReports_of_entries hm]
  exact List.mem_of_mem_filter hr

theorem Device.Records.none_of (h : d.Records e []) {code : Nat} (hc : code / 256 = 0x0C) : ∀ r ∈ newReports d e, r.1 ≠ code := by
  intro r hr hcode
  have := h.filter hc
  rw [List.filter_nil, List.filter_eq_nil_iff] at this
  exact this r hr (by simpa using hcode)

end

section
variable (d : Device)

/-! ## A slot set (R474) -/

section
variable (k st typ use id : Nat) (pub : Bytes)

theorem Device.setSlot_follows : (d.slotPut k st typ use id pub).LanesFollow (d.setSlot k st typ use id pub) := Device.follows_keysFollow _ _

theorem Device.slotPut_frame : let t := d.slotPut k st typ use id pub
    t.attic = d.attic ∧ t.keyhole = d.keyhole ∧ t.clock = d.clock ∧ t.foyer = d.foyer ∧ t.strong = d.strong ∧ t.ledger = d.ledger := ⟨rfl, rfl, rfl, rfl, rfl, rfl⟩

theorem Device.setSlot_self : let t := d.setSlot k st typ use id pub
    t.nat (K.ksState k) = st ∧ t.nat (K.ksType k) = typ ∧ t.nat (K.ksUse k) = use ∧ t.nat (K.ksKeyId k) = id ∧ t.oct (K.ksPub k) = pub := by
  have hf := d.setSlot_follows k st typ use id pub
  obtain ⟨h1, h2, h3, h4, h5⟩ := slotKey_key k
  obtain ⟨e1, e2, e3, e4, e5⟩ := d.slotPut_self k st typ use id pub
  exact ⟨(hf.nat (laneKey_of_slot h1)).trans e1, (hf.nat (laneKey_of_slot h2)).trans e2, (hf.nat (laneKey_of_slot h3)).trans e3,
    (hf.nat (laneKey_of_slot h4)).trans e4, (hf.oct (laneKey_of_slot h5)).trans e5⟩

theorem Device.setSlot_val_ne {x : Nat} (hl : laneKey x = false) (hs : slotKey k x = false) : (d.setSlot k st typ use id pub).val x = d.val x :=
  ((d.setSlot_follows k st typ use id pub).val hl).trans (val_of_beside (d.slotPut_beside k st typ use id pub laneBlank) hs)

theorem Device.setSlot_nat_ne {x : Nat} (hl : laneKey x = false) (hs : slotKey k x = false) : (d.setSlot k st typ use id pub).nat x = d.nat x :=
  congrArg (fun v => v.int.toNat) (d.setSlot_val_ne k st typ use id pub hl hs)

theorem Device.setSlot_frame : let t := d.setSlot k st typ use id pub
    t.keyhole = d.keyhole ∧ t.clock = d.clock ∧ t.foyer = d.foyer ∧ t.strong.jobs.map Job.who = d.strong.jobs.map Job.who ∧ d.Records t [] := by
  have hf := d.setSlot_follows k st typ use id pub
  exact ⟨hf.keyhole, hf.clock, hf.foyer, hf.who, (Device.Records.of_attic (e := d.slotPut k st typ use id pub) rfl).trans (.of_follows hf)⟩

theorem slotKey_ne {i j x : Nat} (h : i ≠ j) (hx : slotKey j x = true) : slotKey i x = false := by
  simp only [slotKey, Bool.and_eq_true, decide_eq_true_eq] at hx
  rw [Bool.eq_false_iff]
  simp only [slotKey, ne_eq, Bool.and_eq_true, decide_eq_true_eq]
  omega

theorem Device.ledgerKeyOk_congr {d e : Device} {k : Nat} (h1 : e.nat (K.ksState k) = d.nat (K.ksState k)) (h2 : e.nat (K.ksUse k) = d.nat (K.ksUse k))
    (h3 : e.nat (K.ksType k) = d.nat (K.ksType k)) (sig : Nat) : e.ledgerKeyOk k sig = d.ledgerKeyOk k sig := by
  rw [Device.ledgerKeyOk, h1, h2, h3, Device.ledgerKeyOk]

/-- A slot that was not ACTIVE is set: no batch had its key there, and only Parlour's conditions may be reported. -/
theorem Device.setSlot_of_fresh (h : d.nat (K.ksState k) ≠ 2) :
    d.setSlot k st typ use id pub = (d.slotPut k st typ use id pub).noteLoss d := by
  refine Device.keysFollow_of_sound (d.slotPut k st typ use id pub) d fun b _ hok => ?_
  have hk : b.keySlot ≠ k := by
    rintro rfl
    simp [Device.ledgerKeyOk, h] at hok
  have hne (x : Nat) (hx : slotKey b.keySlot x = true) : (d.slotPut k st typ use id pub).nat x = d.nat x :=
    nat_of_beside (d.slotPut_beside k st typ use id pub laneBlank) (slotKey_ne (Ne.symm hk) hx)
  obtain ⟨h1, h2, h3, -, -⟩ := slotKey_key b.keySlot
  exact (Device.ledgerKeyOk_congr (hne _ h1) (hne _ h3) (hne _ h2) b.sig).trans hok

theorem Device.setSlot_strong (h : d.nat (K.ksState k) ≠ 2) : (d.setSlot k st typ use id pub).strong = d.strong := by
  rw [d.setSlot_of_fresh k st typ use id pub h]
  exact (Device.noteLoss_same _ d).2.2.1

/-- Keyhole's own objects stand beside the slots'. -/
theorem slotKey_low {x : Nat} (h : x < 0x514001) : slotKey k x = false := by
  rw [Bool.eq_false_iff]
  simp only [slotKey, ne_eq, Bool.and_eq_true, decide_eq_true_eq]
  omega

end

/-! ## Keys, draws and the store -/

theorem Device.key_setKey {k : Nat} (b : Bytes) (h : k < d.keyhole.keys.length) : (d.setKey k b).key k = b := by
  show (d.keyhole.keys.set k b).getD k [] = b
  exact getD_set_self _ _ _ h

theorem Device.key_setKey_ne {j k : Nat} (b : Bytes) (h : j ≠ k) : (d.setKey k b).key j = d.key j := by
  show (d.keyhole.keys.set k b).getD j [] = d.keyhole.keys.getD j []
  rw [List.getD_eq_getElem?_getD, List.getElem?_set_ne (Ne.symm h), ← List.getD_eq_getElem?_getD]

theorem Device.length_setKey (k : Nat) (b : Bytes) : (d.setKey k b).keyhole.keys.length = d.keyhole.keys.length := List.length_set

/-- What a draw may change: the DRBG's place and the requests since its last reseed. -/
def Device.Draws (d e : Device) : Prop := ∃ n r, e = { d with draws := n, keyhole := { d.keyhole with requests := r } }

theorem Device.drawBytes_draws (n : Nat) : d.Draws (d.drawBytes n).2 := ⟨_, _, rfl⟩

theorem Device.length_drawBytes (n : Nat) : (d.drawBytes n).1.length = n := by
  show ((List.range n).map _).length = n
  rw [List.length_map, List.length_range]

theorem Device.drawScalar_draws (c : Curve) : d.Draws (d.drawScalar c).2 := ⟨_, _, rfl⟩

theorem Device.length_drawScalar (c : Curve) : (d.drawScalar c).1.length = c.bytes := length_toBE _ _

theorem Device.drawKey_draws (typ : Nat) : d.Draws (d.drawKey typ).2 := by
  unfold Device.drawKey
  repeat' split
  · exact d.drawScalar_draws _
  · exact d.drawScalar_draws _
  · exact d.drawBytes_draws _
  · exact d.drawBytes_draws _

theorem Device.reseed_frame : d.reseed.strong = d.strong ∧ d.reseed.clock = d.clock ∧ d.reseed.keyhole.keys = d.keyhole.keys ∧
    d.reseed.keyhole.counter = d.keyhole.counter ∧ d.reseed.attic = d.attic ∧ d.reseed.foyer = d.foyer := ⟨rfl, rfl, rfl, rfl, rfl, rfl⟩

theorem Device.reseed_val {k : Nat} (h : k ≠ K.khReseeds) : d.reseed.val k = d.val k := Device.val_setVal_ne _ _ h

theorem Device.reseed_nat {k : Nat} (h : k ≠ K.khReseeds) : d.reseed.nat k = d.nat k := congrArg (fun v => v.int.toNat) (d.reseed_val h)

theorem Device.writeStore_obj : d.writeStore.obj = (d.setNum K.khKeystoreGen ((d.nat K.khKeystoreGen + 1 : Nat) : Int)).obj := rfl

theorem Device.writeStore_val {k : Nat} (h : k ≠ K.khKeystoreGen) : d.writeStore.val k = d.val k :=
  (val_of_obj d.writeStore_obj k).trans (d.val_setVal_ne _ h)
theorem Device.writeStore_nat {k : Nat} (h : k ≠ K.khKeystoreGen) : d.writeStore.nat k = d.nat k := congrArg (fun v => v.int.toNat) (d.writeStore_val h)
theorem Device.writeStore_oct {k : Nat} (h : k ≠ K.khKeystoreGen) : d.writeStore.oct k = d.oct k := congrArg Val.bytes (d.writeStore_val h)
theorem Device.writeStore_gen : d.writeStore.nat K.khKeystoreGen = d.nat K.khKeystoreGen + 1 := by
  rw [nat_of_obj d.writeStore_obj, Device.nat_setNum, if_pos rfl, Int.toNat_natCast]

theorem Device.writeStore_frame : d.writeStore.clock = d.clock ∧ d.writeStore.attic = d.attic ∧ d.writeStore.strong = d.strong ∧
    d.writeStore.keyhole.keys = d.keyhole.keys ∧ d.writeStore.keyhole.counter = d.keyhole.counter ∧
    d.writeStore.keyhole.cellarGen = some (d.nat K.khKeystoreGen + 1) := ⟨rfl, rfl, rfl, rfl, rfl, rfl⟩

theorem Device.Records.writeStore {e : Device} {l : List (Nat × List Int)} (h : d.Records e l) : d.Records e.writeStore l := by
  have := h.trans (.of_attic (e := e.writeStore) rfl)
  rwa [List.append_nil] at this

/-! ## A job queued (R452) -/

/-- The job as the queue takes it. -/
def Device.queued (d : Device) (j : Job) : Job :=
  { j with id := d.strong.nextId, state := 1, src := d.foyer.cause, alone := d.lanesUp.length < 2 }

theorem Device.queueJob_jobs (j : Job) : (d.queueJob j).strong.jobs = d.strong.jobs ++ [d.queued j] := rfl

theorem Device.queueJob_frame (j : Job) : let t := d.queueJob j
    t.clock = d.clock ∧ t.attic = d.attic ∧ t.keyhole = d.keyhole := ⟨rfl, rfl, rfl⟩

theorem Device.queueJob_val (j : Job) {k : Nat} (h : k ≠ K.srQueueDepth) (h' : k ≠ K.srQueuePeak) : (d.queueJob j).val k = d.val k :=
  (Device.val_setVal_ne _ _ h').trans (Device.val_setVal_ne _ _ h)

theorem Device.queueJob_nat (j : Job) {k : Nat} (h : k ≠ K.srQueueDepth) (h' : k ≠ K.srQueuePeak) : (d.queueJob j).nat k = d.nat k :=
  congrArg (fun v => v.int.toNat) (d.queueJob_val j h h')

theorem Device.queueRoom_low {p : Nat} (h : p ≠ 0) : (!d.queueRoom p) = true ↔ 60 ≤ d.queueDepth := by
  simp [Device.queueRoom, h]

end

end Sys2Proof.Machine
end

section
/-! Chapter 17: keys made, destroyed and rotated, fuses, tamper flags and attestation (R474 to R486). -/

namespace Sys2Proof.Machine

section
variable (d : Device)

/-! ## Keys made (R478) -/

/-- R478: does a request name a slot, type and use that go together. -/
def keygenGood (b : Bytes) : Prop :=
  fieldNat b 0 1 < 60 ∧ fieldNat b 3 1 = 0 ∧ ((fieldNat b 2 1 = 1 ∧ (fieldNat b 1 1 = 1 ∨ fieldNat b 1 1 = 3)) ∨
    (fieldNat b 2 1 = 2 ∧ (fieldNat b 1 1 = 1 ∨ fieldNat b 1 1 = 2 ∨ fieldNat b 1 1 = 3)))

/-- R478: may the slot take a new key now. -/
def Device.keygenFree (d : Device) (slot : Nat) : Prop := d.nat (K.ksState slot) = 0 ∧ d.nat K.khEntropyState = 1 ∧ d.queueDepth < 60

theorem Device.writeKeygen_range {b : Bytes} (h : ¬ keygenGood b) : d.writeKeygen b = (St.range, d) := by
  unfold keygenGood at h
  refine if_pos ?_
  simp only [Bool.or_eq_true, Bool.not_eq_true', Bool.or_eq_false_iff, Bool.and_eq_false_iff, decide_eq_true_eq, decide_eq_false_iff_not]
  omega

theorem Device.writeKeygen_state {b : Bytes} (h : keygenGood b) (hf : ¬ d.keygenFree (fieldNat b 0 1)) : d.writeKeygen b = (St.state, d) := by
  unfold keygenGood at h
  unfold Device.keygenFree at hf
  refine (if_neg ?_).trans (if_pos ?_)
  · simp only [Bool.or_eq_true, Bool.not_eq_true', Bool.or_eq_false_iff, Bool.and_eq_false_iff, decide_eq_true_eq, decide_eq_false_iff_not]
    omega
  · simp only [Bool.or_eq_true, d.queueRoom_low one_ne_zero, Device.entropyOk, Bool.not_eq_true', decide_eq_true_eq, decide_eq_false_iff_not]
    omega

/-- The slot GENERATING, its job yet to be queued. -/
def Device.keygenSet (d : Device) (b : Bytes) : Device :=
  (((d.reseed.drawKey (fieldNat b 1 1)).2.setKey (fieldNat b 0 1) (d.reseed.drawKey (fieldNat b 1 1)).1).setSlot (fieldNat b 0 1) 1 (fieldNat b 1 1)
    (fieldNat b 2 1) 0 []).setOct K.khKeygen b

theorem Device.writeKeygen_made {b : Bytes} (h : keygenGood b) (hf : d.keygenFree (fieldNat b 0 1)) :
    d.writeKeygen b = (St.ok, (d.keygenSet b).queueJob { id := 0, prio := 1, op := pubOp (fieldNat b 1 1), who := .keygen (fieldNat b 0 1) }) := by
  unfold keygenGood at h
  unfold Device.keygenFree at hf
  refine (if_neg ?_).trans (if_neg ?_)
  · simp only [Bool.or_eq_true, Bool.not_eq_true', Bool.or_eq_false_iff, Bool.and_eq_false_iff, decide_eq_true_eq, decide_eq_false_iff_not]
    omega
  · simp only [Bool.or_eq_true, d.queueRoom_low one_ne_zero, Device.entropyOk, Bool.not_eq_true', decide_eq_true_eq, decide_eq_false_iff_not]
    omega

theorem Device.keygenSet_frame {b : Bytes} (h0 : d.nat (K.ksState (fieldNat b 0 1)) = 0) : let t := d.keygenSet b
    t.nat (K.ksState (fieldNat b 0 1)) = 1 ∧ t.nat (K.ksType (fieldNat b 0 1)) = fieldNat b 1 1 ∧ t.nat (K.ksUse (fieldNat b 0 1)) = fieldNat b 2 1 ∧
    t.oct K.khKeygen = b ∧ t.strong.jobs = d.strong.jobs ∧ t.clock = d.clock := by
  obtain ⟨n, r, hd⟩ := d.reseed.drawKey_draws (fieldNat b 1 1)
  unfold Device.keygenSet
  generalize (d.reseed.drawKey (fieldNat b 1 1)).1 = key
  generalize (d.reseed.drawKey (fieldNat b 1 1)).2 = d1 at hd ⊢
  generalize hs : fieldNat b 0 1 = slot at h0 ⊢
  obtain ⟨k1, k2, k3, -, -⟩ := slotKey_key slot
  have hne {x : Nat} (hx : slotKey slot x = true) : x ≠ K.khKeygen := by
    rintro rfl
    rw [slotKey_low slot (by decide)] at hx
    exact absurd hx (by decide)
  have hre {x : Nat} (hx : slotKey slot x = true) : x ≠ K.khReseeds := by
    rintro rfl
    rw [slotKey_low slot (by decide)] at hx
    exact absurd hx (by decide)
  have hst : (d1.setKey slot key).nat (K.ksState slot) ≠ 2 := by
    have : (d1.setKey slot key).nat (K.ksState slot) = d.reseed.nat (K.ksState slot) := by rw [hd]; rfl
    rw [this, d.reseed_nat (hre k1), h0]
    decide
  obtain ⟨e1, e2, e3, -, -⟩ := (d1.setKey slot key).setSlot_self slot 1 (fieldNat b 1 1) (fieldNat b 2 1) 0 []
  obtain ⟨-, hclk, -, -, -⟩ := (d1.setKey slot key).setSlot_frame slot 1 (fieldNat b 1 1) (fieldNat b 2 1) 0 []
  have hstr := (d1.setKey slot key).setSlot_strong slot 1 (fieldNat b 1 1) (fieldNat b 2 1) 0 [] hst
  have hj : d1.strong = d.strong ∧ d1.clock = d.clock := by rw [hd]; exact ⟨rfl, rfl⟩
  obtain ⟨hj, hc⟩ := hj
  generalize (d1.setKey slot key).setSlot slot 1 (fieldNat b 1 1) (fieldNat b 2 1) 0 [] = t at e1 e2 e3 hclk hstr ⊢
  have hn {x : Nat} (hx : slotKey slot x = true) : (t.setOct K.khKeygen b).nat x = t.nat x :=
    congrArg (fun v => v.int.toNat) (t.val_setVal_ne _ (hne hx))
  refine ⟨(hn k1).trans e1, (hn k2).trans e2, (hn k3).trans e3, t.oct_setOct_self _ _, ?_, hclk.trans hc⟩
  show t.strong.jobs = _
  rw [hstr]
  exact congrArg Strong.jobs hj

/-! ## Keys completed (R471, R478) -/

theorem Device.Records.of_causedBy (src : Nat) {code : Nat} (p : List Int) (h : code / 256 = 0x0C) :
    d.Records (d.causedBy src (·.report code p)) [(code, p)] := by
  refine ⟨[(code, p)], ?_, by simp [h]⟩
  rw [show (d.causedBy src (·.report code p)).entries = (({ d with foyer := { d.foyer with cause := src } } : Device).report code p).entries from rfl]
  exact Device.entries_report _ code p

theorem Device.Records.of_causedBy_two (src : Nat) (p q : List Int) :
    d.Records (d.causedBy src (fun x => (x.report 0x0C02 p).report 0x0C02 q)) [(0x0C02, p), (0x0C02, q)] := by
  refine ⟨[(0x0C02, p), (0x0C02, q)], ?_, by simp⟩
  rw [show (d.causedBy src (fun x => (x.report 0x0C02 p).report 0x0C02 q)).entries
    = (((({ d with foyer := { d.foyer with cause := src } } : Device).report 0x0C02 p).report 0x0C02 q)).entries from rfl]
  rw [Device.entries_report, Device.entries_report, List.append_assoc]
  rfl

theorem Device.keygenComplete_none {slot : Nat} (h : d.strong.jobs.find? (fun j => j.who = .keygen slot && j.state = 6) = none) :
    d.keygenComplete slot = d := by
  unfold Device.keygenComplete
  rw [h]

/-- A job that Keyhole has taken. -/
def Device.jobTaken (d : Device) (id : Nat) : Device := d.setStrong (fun s => { s with jobs := s.jobs.filter (fun x => x.id ≠ id) })

variable {d} {slot : Nat} {j : Job}

section
variable (hj : d.strong.jobs.find? (fun j => j.who = .keygen slot && j.state = 6) = some j)
include hj

theorem Device.keygenComplete_failed (hs : slot ≠ 63) (hr : j.result ≠ 0) :
    d.keygenComplete slot = ((d.jobTaken j.id).setKey slot []).setSlot slot 0 0 0 0 [] := by
  unfold Device.keygenComplete
  rw [hj]
  exact (if_pos hr).trans (if_neg hs)

theorem Device.keygenComplete_made (hs : slot ≠ 63) (hr : j.result = 0) : d.keygenComplete slot =
    (((d.jobTaken j.id).takeKeyId.2.setSlot slot (if d.tamperLocks then 4 else 2) (d.nat (K.ksType slot)) (d.nat (K.ksUse slot)) d.keyhole.counter
      (publicOf (d.nat (K.ksType slot)) (d.key slot))).causedBy j.src
        (·.report 0x0C02 [slot, d.nat (K.ksType slot), d.nat (K.ksUse slot), d.keyhole.counter])).writeStore := by
  unfold Device.keygenComplete
  rw [hj]
  exact (if_neg (not_not.mpr hr)).trans (if_neg hs)

theorem Device.keygenComplete_failed_frame (hs : slot < 60) (hr : j.result ≠ 0) (hk : d.keyhole.keys.length = 64) : let t := d.keygenComplete slot
    t.clock = d.clock ∧ t.nat (K.ksState slot) = 0 ∧ t.key slot = [] ∧ ∀ r ∈ newReports d t, r.1 ≠ 0x0C02 := by
  have hkey : ((d.jobTaken j.id).setKey slot []).key slot = [] := (d.jobTaken j.id).key_setKey [] (hk.symm ▸ Nat.lt_trans hs (by decide))
  rw [Device.keygenComplete_failed hj (by omega) hr]
  obtain ⟨h0, -, -, -, -⟩ := ((d.jobTaken j.id).setKey slot []).setSlot_self slot 0 0 0 0 []
  obtain ⟨hkh, hc, -, -, hrec⟩ := ((d.jobTaken j.id).setKey slot []).setSlot_frame slot 0 0 0 0 []
  have hrec' : d.Records ((d.jobTaken j.id).setKey slot []) [] := .of_attic rfl
  generalize ((d.jobTaken j.id).setKey slot []).setSlot slot 0 0 0 0 [] = t at h0 hkh hc hrec ⊢
  refine ⟨hc, h0, ?_, (hrec'.trans hrec).none_of (by decide)⟩
  rw [Device.key, hkh]
  exact hkey

theorem Device.keygenComplete_made_frame (hs : slot < 60) (hr : j.result = 0) : let t := d.keygenComplete slot
    t.clock = d.clock ∧ t.nat (K.ksState slot) = (if d.tamperLocks then 4 else 2) ∧ t.nat (K.ksKeyId slot) = d.keyhole.counter ∧
    t.keyhole.counter = d.keyhole.counter + 1 ∧ t.oct (K.ksPub slot) = publicOf (d.nat (K.ksType slot)) (d.key slot) ∧ t.key slot = d.key slot ∧
    t.nat K.khKeystoreGen = d.nat K.khKeystoreGen + 1 ∧ (newReports d t).filter (fun r => r.1 = 0x0C02) =
      [(0x0C02, [(slot : Int), (d.nat (K.ksType slot) : Int), (d.nat (K.ksUse slot) : Int), (d.keyhole.counter : Int)])] := by
  rw [Device.keygenComplete_made hj (by omega) hr]
  generalize hst : (if d.tamperLocks then 4 else 2) = st
  generalize publicOf (d.nat (K.ksType slot)) (d.key slot) = pub
  generalize htyp : d.nat (K.ksType slot) = typ
  generalize huse : d.nat (K.ksUse slot) = use
  obtain ⟨h1, -, -, h4, h5⟩ := (d.jobTaken j.id).takeKeyId.2.setSlot_self slot st typ use d.keyhole.counter pub
  obtain ⟨hkh, hc, -, -, hrec⟩ := (d.jobTaken j.id).takeKeyId.2.setSlot_frame slot st typ use d.keyhole.counter pub
  have hgen := (d.jobTaken j.id).takeKeyId.2.setSlot_nat_ne slot st typ use d.keyhole.counter pub (x := K.khKeystoreGen) (by decide)
    (slotKey_low slot (by decide))
  have hrec' : d.Records (d.jobTaken j.id).takeKeyId.2 [] := .of_attic rfl
  have hkh' : (d.jobTaken j.id).takeKeyId.2.keyhole = { d.keyhole with counter := d.keyhole.counter + 1 } := rfl
  have hgen' : (d.jobTaken j.id).takeKeyId.2.nat K.khKeystoreGen = d.nat K.khKeystoreGen := rfl
  have hc' : (d.jobTaken j.id).takeKeyId.2.clock = d.clock := rfl
  generalize (d.jobTaken j.id).takeKeyId.2 = d2 at hrec' hkh' hgen' hc' h1 h4 h5 hkh hc hrec hgen ⊢
  generalize d2.setSlot slot st typ use d.keyhole.counter pub = t at h1 h4 h5 hkh hc hrec hgen ⊢
  have hrc := Device.Records.of_causedBy t j.src (code := 0x0C02) [(slot : Int), typ, use, d.keyhole.counter] (by decide)
  have hobj : (t.causedBy j.src (·.report 0x0C02 [(slot : Int), typ, use, d.keyhole.counter])).obj = t.obj := rfl
  have hck : (t.causedBy j.src (·.report 0x0C02 [(slot : Int), typ, use, d.keyhole.counter])).clock = t.clock ∧
    (t.causedBy j.src (·.report 0x0C02 [(slot : Int), typ, use, d.keyhole.counter])).keyhole = t.keyhole := ⟨rfl, rfl⟩
  obtain ⟨hck1, hck2⟩ := hck
  generalize t.causedBy j.src (·.report 0x0C02 [(slot : Int), typ, use, d.keyhole.counter]) = c at hrc hobj hck1 hck2 ⊢
  obtain ⟨w1, -, -, w4, w5, -⟩ := c.writeStore_frame
  have hne {x : Nat} (hx : slotKey slot x = true) : x ≠ K.khKeystoreGen := by
    rintro rfl
    rw [slotKey_low slot (by decide)] at hx
    exact absurd hx (by decide)
  obtain ⟨k1, -, -, k4, k5⟩ := slotKey_key slot
  refine ⟨by rw [w1, hck1, hc, hc'], ?_, ?_, by rw [w5, hck2, hkh, hkh'], ?_, ?_, ?_, ?_⟩
  · rw [c.writeStore_nat (hne k1), nat_of_obj hobj, h1]
  · rw [c.writeStore_nat (hne k4), nat_of_obj hobj, h4]
  · rw [c.writeStore_oct (hne k5)]
    exact (congrArg Val.bytes (val_of_obj hobj _)).trans h5
  · rw [Device.key, w4, hck2, hkh, hkh', Device.key]
  · rw [c.writeStore_gen, nat_of_obj hobj, hgen, hgen']
  · rw [((hrec'.trans (hrec.trans hrc)).writeStore).filter (by decide)]
    simp

end

/-- Provisioning's two keys in their slots, before they are reported. -/
def Device.provisionSet (d : Device) : Device :=
  ((d.takeKeyId.2.takeKeyId.2.setSlot 63 2 2 5 d.keyhole.counter (publicOf 2 (d.key 63))).setSlot 60 (if d.tamperLocks then 4 else 2) 4 3
    (d.keyhole.counter + 1) []).setOct K.khDikPub (publicOf 2 (d.key 63))

theorem Device.provisioned_eq (d : Device) (src : Nat) : d.provisioned src =
    (d.provisionSet.causedBy src (fun x => (x.report 0x0C02 [63, 2, 5, (d.keyhole.counter : Nat)]).report 0x0C02
      [60, 4, 3, (d.keyhole.counter + 1 : Nat)])).writeStore := rfl

theorem slotKey_not_low {k x y : Nat} (hx : slotKey k x = true) (hy : y < 0x514001) : x ≠ y := by
  rintro rfl
  rw [slotKey_low k hy] at hx
  exact absurd hx (by decide)

theorem Device.provisionSet_frame (d : Device) : let t := d.provisionSet
    t.clock = d.clock ∧ t.nat (K.ksState 63) = 2 ∧ t.nat (K.ksKeyId 63) = d.keyhole.counter ∧ t.nat (K.ksState 60) = (if d.tamperLocks then 4 else 2) ∧
    t.nat (K.ksKeyId 60) = d.keyhole.counter + 1 ∧ t.keyhole.counter = d.keyhole.counter + 2 ∧ t.oct K.khDikPub = publicOf 2 (d.key 63) ∧
    t.nat K.khKeystoreGen = d.nat K.khKeystoreGen ∧ d.Records t [] := by
  unfold Device.provisionSet
  generalize (if d.tamperLocks then 4 else 2) = st
  generalize publicOf 2 (d.key 63) = pub
  generalize hc : d.keyhole.counter = c
  have h2 : d.takeKeyId.2.takeKeyId.2.clock = d.clock ∧ d.takeKeyId.2.takeKeyId.2.nat K.khKeystoreGen = d.nat K.khKeystoreGen ∧
    d.takeKeyId.2.takeKeyId.2.keyhole.counter = d.keyhole.counter + 2 ∧ d.Records d.takeKeyId.2.takeKeyId.2 [] := ⟨rfl, rfl, rfl, .of_attic rfl⟩
  obtain ⟨i1, i2, i3, i4⟩ := h2
  generalize d.takeKeyId.2.takeKeyId.2 = d2 at i1 i2 i3 i4 ⊢
  obtain ⟨a1, -, -, a4, -⟩ := d2.setSlot_self 63 2 2 5 c pub
  obtain ⟨akh, ac, -, -, ar⟩ := d2.setSlot_frame 63 2 2 5 c pub
  have ag := d2.setSlot_nat_ne 63 2 2 5 c pub (x := K.khKeystoreGen) (by decide) (slotKey_low _ (by decide))
  generalize d2.setSlot 63 2 2 5 c pub = e at a1 a4 akh ac ar ag ⊢
  obtain ⟨b1, -, -, b4, -⟩ := e.setSlot_self 60 st 4 3 (c + 1) []
  obtain ⟨bkh, bc, -, -, br⟩ := e.setSlot_frame 60 st 4 3 (c + 1) []
  obtain ⟨k1, -, -, k4, -⟩ := slotKey_key 63
  obtain ⟨m1, -, -, m4, -⟩ := slotKey_key 60
  have b63 {x : Nat} (hx : slotKey 63 x = true) := e.setSlot_nat_ne 60 st 4 3 (c + 1) [] (laneKey_of_slot hx) (slotKey_ne (by decide) hx)
  have bg := e.setSlot_nat_ne 60 st 4 3 (c + 1) [] (x := K.khKeystoreGen) (by decide) (slotKey_low _ (by decide))
  have b63s := (b63 k1).trans a1
  have b63i := (b63 k4).trans a4
  clear b63
  generalize e.setSlot 60 st 4 3 (c + 1) [] = f at b1 b4 bkh bc br bg b63s b63i ⊢
  have hf {x : Nat} (hx : x ≠ K.khDikPub) : (f.setOct K.khDikPub pub).nat x = f.nat x := congrArg (fun v => v.int.toNat) (f.val_setVal_ne _ hx)
  refine ⟨?_, (hf (slotKey_not_low k1 (by decide))).trans b63s, (hf (slotKey_not_low k4 (by decide))).trans b63i,
    (hf (slotKey_not_low m1 (by decide))).trans b1, (hf (slotKey_not_low m4 (by decide))).trans b4, ?_, f.oct_setOct_self _ _,
    (hf (by decide)).trans (bg.trans (ag.trans i2)), ?_⟩
  · exact bc.trans (ac.trans i1)
  · show f.keyhole.counter = _
    rw [bkh, akh, i3, hc]
  · exact (i4.trans (ar.trans br)).trans (.of_attic (e := f.setOct K.khDikPub pub) rfl)

theorem Device.keygenComplete_provisioned_frame (hj : d.strong.jobs.find? (fun j => j.who = .keygen 63 && j.state = 6) = some j) (hr : j.result = 0) :
    let c := d.keyhole.counter
    let t := d.keygenComplete 63
    t.clock = d.clock ∧ t.nat (K.ksState 63) = 2 ∧ t.nat (K.ksKeyId 63) = c ∧ t.nat (K.ksState 60) = (if d.tamperLocks then 4 else 2) ∧
    t.nat (K.ksKeyId 60) = c + 1 ∧ t.keyhole.counter = c + 2 ∧ t.oct K.khDikPub = publicOf 2 (d.key 63) ∧
    t.nat K.khKeystoreGen = d.nat K.khKeystoreGen + 1 ∧ t.keyhole.cellarGen = some (d.nat K.khKeystoreGen + 1) ∧
    (newReports d t).filter (fun r => r.1 = 0x0C02) = [(0x0C02, [63, 2, 5, (c : Int)]), (0x0C02, [60, 4, 3, (c : Int) + 1])] := by
  intro c t
  have ht : t = (d.jobTaken j.id).provisioned j.src := by
    show d.keygenComplete 63 = _
    unfold Device.keygenComplete
    rw [hj]
    exact (if_neg (not_not.mpr hr)).trans (if_pos rfl)
  rw [ht, Device.provisioned_eq]
  obtain ⟨h1, h2, h3, h4, h5, h6, h7, h8, h9⟩ := (d.jobTaken j.id).provisionSet_frame
  have h0 : (d.jobTaken j.id).clock = d.clock ∧ (d.jobTaken j.id).keyhole = d.keyhole ∧ (d.jobTaken j.id).nat K.khKeystoreGen = d.nat K.khKeystoreGen ∧
    (d.jobTaken j.id).tamperLocks = d.tamperLocks ∧ (d.jobTaken j.id).key 63 = d.key 63 ∧ d.Records (d.jobTaken j.id) [] :=
    ⟨rfl, rfl, rfl, rfl, rfl, .of_attic rfl⟩
  obtain ⟨i1, i2, i3, i4, i5, i6⟩ := h0
  generalize d.jobTaken j.id = x at *
  rw [i1] at h1
  rw [i2] at h3 h5 h6
  rw [i4] at h4
  rw [i5] at h7
  rw [i3] at h8
  rw [i2]
  generalize x.provisionSet = p at *
  have hrc := Device.Records.of_causedBy_two p j.src [63, 2, 5, (c : Int)] [60, 4, 3, ((c + 1 : Nat) : Int)]
  have hq : (p.causedBy j.src (fun y => (y.report 0x0C02 [63, 2, 5, (c : Int)]).report 0x0C02 [60, 4, 3, ((c + 1 : Nat) : Int)])).obj = p.obj ∧
    (p.causedBy j.src (fun y => (y.report 0x0C02 [63, 2, 5, (c : Int)]).report 0x0C02 [60, 4, 3, ((c + 1 : Nat) : Int)])).clock = p.clock ∧
    (p.causedBy j.src (fun y => (y.report 0x0C02 [63, 2, 5, (c : Int)]).report 0x0C02 [60, 4, 3, ((c + 1 : Nat) : Int)])).keyhole = p.keyhole := ⟨rfl, rfl, rfl⟩
  obtain ⟨q1, q2, q3⟩ := hq
  generalize p.causedBy j.src (fun y => (y.report 0x0C02 [63, 2, 5, (c : Int)]).report 0x0C02 [60, 4, 3, ((c + 1 : Nat) : Int)]) = q at *
  obtain ⟨w1, -, -, -, w5, w6⟩ := q.writeStore_frame
  refine ⟨by rw [w1, q2, h1], ?_, ?_, ?_, ?_, by rw [w5, q3, h6], ?_, ?_, ?_, ?_⟩
  · rw [q.writeStore_nat (by decide), nat_of_obj q1, h2]
  · rw [q.writeStore_nat (by decide), nat_of_obj q1, h3]
  · rw [q.writeStore_nat (by decide), nat_of_obj q1, h4]
  · rw [q.writeStore_nat (by decide), nat_of_obj q1, h5]
  · rw [q.writeStore_oct (by decide)]
    exact (congrArg Val.bytes (val_of_obj q1 _)).trans h7
  · rw [q.writeStore_gen, nat_of_obj q1, h8]
  · rw [w6, nat_of_obj q1, h8]
  · rw [((i6.trans (h9.trans hrc)).writeStore).filter (by decide)]
    simp

/-! ## Jobs ended (R456) -/

/-- The objects that jobs may touch: those that follow the lanes, and Strongroom's; a slot's place is not bounded here, its sub-index is 1. -/
def jobKey (k : Nat) : Bool := laneKey k || (0x5000 * 256 ≤ k && k < 0x5040 * 256) || (0x5040 * 256 ≤ k && k % 256 = 1)

/-- `e` is `d` but for what jobs do as they end; nothing of Keyhole's range is reported. -/
structure Device.JobsFollow (d e : Device) : Prop where
  rest : e.beside laneBlank jobKey = d.beside laneBlank jobKey
  told : d.Records e []

theorem Device.JobsFollow.refl (d : Device) : d.JobsFollow d := ⟨rfl, .of_attic rfl⟩
theorem Device.JobsFollow.trans {e f : Device} (h : d.JobsFollow e) (h' : e.JobsFollow f) : d.JobsFollow f := ⟨h'.rest.trans h.rest, h.told.trans h'.told⟩
theorem Device.JobsFollow.of_lanes {e : Device} (h : d.LanesFollow e) : d.JobsFollow e :=
  ⟨beside_mono h.rest id fun k hk => by rw [jobKey, hk, Bool.true_or, Bool.true_or], .of_follows h⟩
theorem Device.JobsFollow.of_silent {e : Device} (hr : e.beside laneBlank jobKey = d.beside laneBlank jobKey) (ha : e.attic = d.attic) : d.JobsFollow e :=
  ⟨hr, .of_attic ha⟩

theorem Device.JobsFollow.ite {e f : Device} {c : Prop} [Decidable c] (h : d.JobsFollow e) (h' : d.JobsFollow f) : d.JobsFollow (if c then e else f) := by
  split <;> assumption

theorem Device.JobsFollow.foldl {α : Type} {g : Device → α → Device} (l : List α) (h : ∀ x a, Device.JobsFollow x (g x a)) (d : Device) :
    d.JobsFollow (l.foldl g d) := by
  induction l generalizing d with
  | nil => exact .refl d
  | cons a l ih => exact (h d a).trans (ih _)

theorem Device.jobs_setStrong (d : Device) (g : Strong → Strong) : d.JobsFollow (d.setStrong g) := .of_silent rfl rfl

theorem Device.jobs_putSlot (d : Device) (i : Nat) (b : Bytes) : d.JobsFollow (d.putSlot i b) := by
  refine .of_silent (d.beside_setOct _ (Bool.or_eq_true_iff.mpr (.inr ?_))) rfl
  refine Bool.and_eq_true_iff.mpr ⟨decide_eq_true ?_, decide_eq_true ?_⟩ <;> simp only [K.srSlotData] <;> omega

theorem Device.jobs_setNum (d : Device) {k : Nat} (v : Int) (h : jobKey k = true) : d.JobsFollow (d.setNum k v) := .of_silent (d.beside_setNum v h) rfl
theorem Device.jobs_bumpBy (d : Device) {k : Nat} (w m : Nat) (h : jobKey k = true) : d.JobsFollow (d.bumpBy w k m) := .of_silent (d.beside_bumpBy w m h) rfl

theorem Device.jobs_zeroOuts (d : Device) (j : Job) : d.JobsFollow (d.zeroOuts j) :=
  .ite (.foldl _ (fun x s => x.jobs_putSlot s []) d) (.refl d)

/-! The steps of a job's end, in their order. -/

/-- A job that was aborted past its queue leaves zeros. -/
def Device.endWiped (d : Device) (j : Job) (r : Nat) : Device :=
  if 1 < j.state && (4 ≤ r && r ≤ 6 || r = 9 || r = 10) then d.zeroOuts j else d

/-- The end is counted. -/
def Device.endCounted (d : Device) (r : Nat) : Device :=
  if r = 0 || r = 1 then d.bump64 K.srJobsDone else if r = 3 then d.bump K.srRefused
  else if r = 4 || r = 5 || r = 9 || r = 10 then d.bump K.srAborted else d

/-- The owner sees the end of its job, which took `ns`. -/
def Device.endShown (d : Device) (j : Job) (r ns : Nat) : Device :=
  if j.who = .owner then
    d.setNums [(K.srJobState, 6), (K.srJobResult, r), (K.srJobLane, j.lane.getD 0xFF), (K.srJobTime, (min ns 0xFFFFFFFF : Nat))]
  else d

/-- The end is reported. -/
def Device.endRecorded (d : Device) (j : Job) (r : Nat) : Device :=
  if r = 5 || r = 9 then d.report 0x0B04 [j.prio, j.op, r, j.lane.getD 0xFF] else d

/-- Does a job of this kind stay in the list until Keyhole takes it. -/
def JobWho.waits (w : JobWho) : Bool :=
  match w with
  | .keygen _ | .attest => true
  | _ => false

/-- The job leaves the list, or waits there to be taken. -/
def Device.endListed (d : Device) (id : Nat) (j : Job) (r : Nat) : Device :=
  let rest := if j.who.waits then d.strong.jobs.map (fun x => if x.id = id then { x with state := 6, result := r } else x)
    else d.strong.jobs.filter (fun x => x.id ≠ id)
  let d1 := d.setStrong (fun s => { s with jobs := rest })
  d1.setNum K.srQueueDepth d1.queueDepth

/-- The job's lane is free of it. -/
def Device.endFreed (d : Device) (id : Nat) (j : Job) : Device :=
  match j.lane with
  | some l => if j.state = 5 then d else (d.setLane l (fun x => { x with stack := x.stack.filter (· ≠ id) })).resumeTop l
  | none => d

/-- How long a job ran, in ns; none in the queue. -/
def Device.jobTime (d : Device) (j : Job) : Nat := if j.state = 1 then 0 else (d.clock.ticks - j.start) * 4 / 5

theorem Device.endJob_none (d : Device) {id : Nat} (r : Nat) (h : d.job id = none) : d.endJob id r = d := by
  unfold Device.endJob
  rw [h]

theorem Device.endJob_some (d : Device) {id : Nat} {j : Job} (r : Nat) (h : d.job id = some j) : d.endJob id r =
    ((((((d.endWiped j r).endCounted r).endShown j r (d.jobTime j)).endRecorded j r).endListed id j r).endFreed id j) := by
  unfold Device.endJob
  rw [h]
  exact rfl

theorem Device.jobs_setNums (d : Device) (l : List (Nat × Int)) (h : ∀ x ∈ l, jobKey x.1 = true) : d.JobsFollow (d.setNums l) :=
  .of_silent (d.beside_setNums l h) (d.setNums_attic l)

theorem Device.jobs_endWiped (d : Device) (j : Job) (r : Nat) : d.JobsFollow (d.endWiped j r) := .ite (d.jobs_zeroOuts j) (.refl d)

theorem Device.jobs_endCounted (d : Device) (r : Nat) : d.JobsFollow (d.endCounted r) :=
  .ite (d.jobs_bumpBy 8 1 (by decide)) (.ite (d.jobs_bumpBy 4 1 (by decide)) (.ite (d.jobs_bumpBy 4 1 (by decide)) (.refl d)))

theorem Device.jobs_endShown (d : Device) (j : Job) (r ns : Nat) : d.JobsFollow (d.endShown j r ns) :=
  .ite (d.jobs_setNums _ (by
    simp only [List.forall_mem_cons, List.not_mem_nil, false_imp_iff, implies_true, and_true]
    exact ⟨by decide, by decide, by decide, by decide⟩)) (.refl d)

theorem Device.jobs_endRecorded (d : Device) (j : Job) (r : Nat) : d.JobsFollow (d.endRecorded j r) :=
  .ite ⟨rfl, [_], d.entries_report _ _, by simp⟩ (.refl d)

theorem Device.jobs_endListed (d : Device) (id : Nat) (j : Job) (r : Nat) : d.JobsFollow (d.endListed id j r) :=
  (d.jobs_setStrong _).trans (Device.jobs_setNum _ _ (by decide))

theorem Device.jobs_endFreed (d : Device) (id : Nat) (j : Job) : d.JobsFollow (d.endFreed id j) := by
  unfold Device.endFreed
  split
  · exact .ite (.refl d) ((Device.JobsFollow.of_lanes (d.follows_setLane _ _)).trans (.of_lanes (Device.follows_resumeTop _ _)))
  · exact .refl d

theorem Device.jobs_endJob (d : Device) (id r : Nat) : d.JobsFollow (d.endJob id r) := by
  cases h : d.job id with
  | none => rw [d.endJob_none r h]; exact .refl d
  | some j =>
    rw [d.endJob_some r h]
    exact (((((d.jobs_endWiped j r).trans (Device.jobs_endCounted _ r)).trans (Device.jobs_endShown _ j r _)).trans (Device.jobs_endRecorded _ j r)).trans
      (Device.jobs_endListed _ id j r)).trans (Device.jobs_endFreed _ id j)

/-! ## Keys destroyed (R475, R478) -/

theorem Device.jobs_dropKeygen (d : Device) (slot : Nat) : d.JobsFollow (d.dropKeygen slot) := by
  unfold Device.dropKeygen
  exact (Device.JobsFollow.foldl _ (fun x (j : Job) => x.jobs_endJob j.id 9) d).trans (Device.jobs_setStrong _ _)

theorem Device.dropKeygen_who (d : Device) (slot : Nat) : JobWho.keygen slot ∉ (d.dropKeygen slot).strong.jobs.map Job.who := by
  intro h
  obtain ⟨j, hj, hw⟩ := List.mem_map.mp h
  have := (List.mem_filter.mp (show j ∈ List.filter _ _ from hj)).2
  simp [hw] at this

/-- R475: is a slot's key in use. -/
def Device.keyUsed (d : Device) (slot : Nat) : Prop :=
  d.nat K.ledgerKeySlot = slot ∨ (∃ b ∈ d.ledger.batches, b.keySlot = slot) ∨ (d.num K.ntskeEnable = 1 ∧ d.nat K.ntskeKeySlot = slot)

theorem Device.keyUsed_iff (d : Device) (slot : Nat) : (d.nat K.ledgerKeySlot = slot || d.ledger.batches.any (fun b => b.keySlot = slot)
    || (d.num K.ntskeEnable = 1 && d.nat K.ntskeKeySlot = slot)) = true ↔ d.keyUsed slot := by
  simp only [Bool.or_eq_true, Bool.and_eq_true, decide_eq_true_eq, List.any_eq_true, Device.keyUsed, or_assoc]

theorem Device.writeKeyDestroy_used (d : Device) {slot : Nat} (h : d.keyUsed slot) : d.writeKeyDestroy slot = (St.state, d) :=
  if_pos ((d.keyUsed_iff slot).mpr h)

theorem Device.writeKeyDestroy_empty (d : Device) {slot : Nat} (h : ¬ d.keyUsed slot) (h0 : d.nat (K.ksState slot) = 0) :
    d.writeKeyDestroy slot = (St.ok, d.setNum K.khKeyDestroy slot) :=
  (if_neg (mt (d.keyUsed_iff slot).mp h)).trans (if_pos h0)

theorem Device.writeKeyDestroy_held (d : Device) {slot : Nat} (h : ¬ d.keyUsed slot) (h0 : d.nat (K.ksState slot) ≠ 0) : d.writeKeyDestroy slot =
    (St.ok, ((((((d.setNum K.khKeyDestroy slot).dropKeygen slot).setKey slot []).setSlot slot 0 0 0 0 []).report 0x0C03 [slot, d.num (K.ksKeyId slot)]).writeStore)) :=
  (if_neg (mt (d.keyUsed_iff slot).mp h)).trans (if_neg h0)

theorem Device.writeKeyDestroy_frame (d : Device) {slot : Nat} (hs : slot < 60) (hk : d.keyhole.keys.length = 64) :
    let t := ((((((d.setNum K.khKeyDestroy slot).dropKeygen slot).setKey slot []).setSlot slot 0 0 0 0 []).report 0x0C03 [slot, d.num (K.ksKeyId slot)]).writeStore)
    t.nat (K.ksState slot) = 0 ∧ t.key slot = [] ∧ t.nat (K.ksType slot) = 0 ∧ t.nat (K.ksKeyId slot) = 0 ∧ t.oct (K.ksPub slot) = [] ∧
    t.nat K.khKeyDestroy = slot ∧ t.nat K.khKeystoreGen = d.nat K.khKeystoreGen + 1 ∧ (0x0C03, [(slot : Int), d.num (K.ksKeyId slot)]) ∈ newReports d t ∧
    ∀ j ∈ t.strong.jobs, j.who ≠ .keygen slot := by
  have hdest : (d.setNum K.khKeyDestroy slot).nat K.khKeyDestroy = slot := by rw [Device.nat_setNum, if_pos rfl, Int.toNat_natCast]
  have hgen0 : (d.setNum K.khKeyDestroy slot).nat K.khKeystoreGen = d.nat K.khKeystoreGen := by rw [Device.nat_setNum, if_neg (by decide)]
  have hr0 : d.Records (d.setNum K.khKeyDestroy slot) [] := .of_attic rfl
  have hk0 : (d.setNum K.khKeyDestroy slot).keyhole = d.keyhole := rfl
  generalize d.setNum K.khKeyDestroy slot = a at *
  have hj := a.jobs_dropKeygen slot
  have hw := a.dropKeygen_who slot
  have hdest1 := nat_of_beside hj.rest (k := K.khKeyDestroy) (by decide)
  have hgen1 := nat_of_beside hj.rest (k := K.khKeystoreGen) (by decide)
  have hk1 : (a.dropKeygen slot).keyhole = a.keyhole := congrArg (fun x => x.1.keyhole) hj.rest
  have hr1 := hj.told
  generalize a.dropKeygen slot = b at *
  have hkey : (b.setKey slot []).key slot = [] := b.key_setKey [] (by rw [hk1, hk0, hk]; omega)
  have hb : (b.setKey slot []).strong = b.strong ∧ b.Records (b.setKey slot []) [] ∧ (b.setKey slot []).obj = b.obj := ⟨rfl, .of_attic rfl, rfl⟩
  obtain ⟨hb1, hb2, hb3⟩ := hb
  generalize b.setKey slot [] = c at *
  obtain ⟨e1, e2, -, e4, e5⟩ := c.setSlot_self slot 0 0 0 0 []
  obtain ⟨ekh, -, -, ew, er⟩ := c.setSlot_frame slot 0 0 0 0 []
  have edest := c.setSlot_nat_ne slot 0 0 0 0 [] (x := K.khKeyDestroy) (by decide) (slotKey_low _ (by decide))
  have egen := c.setSlot_nat_ne slot 0 0 0 0 [] (x := K.khKeystoreGen) (by decide) (slotKey_low _ (by decide))
  generalize c.setSlot slot 0 0 0 0 [] = e at *
  have hrep := Device.Records.of_report e (code := 0x0C03) [(slot : Int), d.num (K.ksKeyId slot)] (by decide)
  have hf : (e.report 0x0C03 [(slot : Int), d.num (K.ksKeyId slot)]).obj = e.obj ∧ (e.report 0x0C03 [(slot : Int), d.num (K.ksKeyId slot)]).keyhole = e.keyhole ∧
    (e.report 0x0C03 [(slot : Int), d.num (K.ksKeyId slot)]).strong = e.strong := ⟨rfl, rfl, rfl⟩
  obtain ⟨f1, f2, f3⟩ := hf
  generalize e.report 0x0C03 [(slot : Int), d.num (K.ksKeyId slot)] = f at *
  obtain ⟨-, -, w3, w4, -, -⟩ := f.writeStore_frame
  obtain ⟨k1, k2, -, k4, k5⟩ := slotKey_key slot
  have hn {x v : Nat} (hx : slotKey slot x = true) (hv : e.nat x = v) : f.writeStore.nat x = v :=
    (f.writeStore_nat (slotKey_not_low hx (by decide))).trans ((nat_of_obj f1 x).trans hv)
  refine ⟨hn k1 e1, ?_, hn k2 e2, hn k4 e4, ?_, ?_, ?_, ?_, ?_⟩
  · rw [Device.key, w4, f2, ekh]
    exact hkey
  · rw [f.writeStore_oct (slotKey_not_low k5 (by decide))]
    exact (congrArg Val.bytes (val_of_obj f1 _)).trans e5
  · rw [f.writeStore_nat (by decide), nat_of_obj f1, edest, nat_of_obj hb3, hdest1, hdest]
  · rw [f.writeStore_gen, nat_of_obj f1, egen, nat_of_obj hb3, hgen1, hgen0]
  · exact ((hr0.trans (hr1.trans (hb2.trans (er.trans hrep)))).writeStore).mem (by simp)
  · intro j hj' hjw
    rw [w3, f3] at hj'
    refine hw ?_
    rw [← hb1, ← ew, ← hjw]
    exact List.mem_map_of_mem hj'

end

end Sys2Proof.Machine
end

section
/-! Chapter 17: rotation, fuses, tamper flags and attestation (R480 to R486). -/

namespace Sys2Proof.Machine

section
variable (d : Device)

/-! ## NTS master keys (R480) -/

theorem Device.slotPut_num_id (k st typ use id : Nat) (pub : Bytes) : (d.slotPut k st typ use id pub).num (K.ksKeyId k) = (id : Int) := by
  have hnd : ([(K.ksState k, (st : Int)), (K.ksType k, (typ : Int)), (K.ksUse k, (use : Int)), (K.ksKeyId k, (id : Int))].map Prod.fst).Nodup := by
    simp [K.ksState, K.ksType, K.ksUse, K.ksKeyId]
  have hne : K.ksKeyId k ≠ K.ksPub k := by simp only [K.ksKeyId, K.ksPub]; omega
  rw [Device.slotPut, Device.num, Device.setOct, Device.val_setVal_ne _ _ hne]
  exact d.num_setNums_of_mem hnd (by simp)

theorem Device.setSlot_num_id (k st typ use id : Nat) (pub : Bytes) : (d.setSlot k st typ use id pub).num (K.ksKeyId k) = (id : Int) := by
  obtain ⟨-, -, -, k4, -⟩ := slotKey_key k
  exact ((d.setSlot_follows k st typ use id pub).num (laneKey_of_slot k4)).trans (d.slotPut_num_id k st typ use id pub)

/-- The DRBG's draw of a new master key, with its KEY_ID taken. -/
def Device.rotateDrawn (d : Device) : Device := (d.reseed.drawBytes 64).2.takeKeyId.2

/-- Slots 61 and 60 after a rotation. -/
def Device.rotateSet (d : Device) : Device :=
  ((((d.rotateDrawn.setKey 61 (d.key 60)).setSlot 61 (d.nat (K.ksState 60)) (d.nat (K.ksType 60)) (d.nat (K.ksUse 60)) (d.nat (K.ksKeyId 60)) []).setKey
    60 (d.reseed.drawBytes 64).1).setSlot 60 (if d.tamperLocks then 4 else 2) 4 3 d.keyhole.counter []).setKeyhole
      (fun x => { x with rotateFrom := d.clock.ticks, rotateRan := 0 })

theorem Device.rotateNts_eq : d.rotateNts = (d.rotateSet.report 0x0C04 [(d.keyhole.counter : Int), d.num (K.ksKeyId 60)]).writeStore := rfl

theorem Device.rotateSet_frame (hk : d.keyhole.keys.length = 64) : let t := d.rotateSet
    t.key 61 = d.key 60 ∧ t.num (K.ksKeyId 61) = ((d.nat (K.ksKeyId 60) : Nat) : Int) ∧ t.nat (K.ksState 61) = d.nat (K.ksState 60) ∧
    (t.key 60).length = 64 ∧ t.nat (K.ksKeyId 60) = d.keyhole.counter ∧ t.nat (K.ksState 60) = (if d.tamperLocks then 4 else 2) ∧
    t.keyhole.counter = d.keyhole.counter + 1 ∧ t.keyhole.rotateFrom = d.clock.ticks ∧ t.keyhole.rotateRan = 0 ∧ t.clock = d.clock ∧
    t.nat K.khKeystoreGen = d.nat K.khKeystoreGen ∧ d.Records t [] := by
  unfold Device.rotateSet
  generalize (if d.tamperLocks then 4 else 2) = st
  generalize d.nat (K.ksState 60) = st0
  generalize d.nat (K.ksType 60) = ty0
  generalize d.nat (K.ksUse 60) = us0
  generalize d.nat (K.ksKeyId 60) = id0
  generalize d.key 60 = old
  have hlen := d.reseed.length_drawBytes 64
  generalize (d.reseed.drawBytes 64).1 = key at hlen ⊢
  have h0 : d.rotateDrawn.keyhole.keys = d.keyhole.keys ∧ d.rotateDrawn.keyhole.counter = d.keyhole.counter + 1 ∧ d.rotateDrawn.clock = d.clock ∧
    d.rotateDrawn.obj = d.reseed.obj ∧ d.Records d.rotateDrawn [] := ⟨rfl, rfl, rfl, rfl, .of_attic rfl⟩
  obtain ⟨z1, z2, z3, z4, z5⟩ := h0
  have zg : d.rotateDrawn.nat K.khKeystoreGen = d.nat K.khKeystoreGen := (nat_of_obj z4 _).trans (d.reseed_nat (by decide))
  generalize d.rotateDrawn = a at *
  have hka : (a.setKey 61 old).key 61 = old := a.key_setKey old (by rw [z1, hk]; decide)
  have hla : (a.setKey 61 old).keyhole.keys.length = 64 := (a.length_setKey 61 old).trans (by rw [z1, hk])
  have hb0 : (a.setKey 61 old).keyhole.counter = a.keyhole.counter ∧ (a.setKey 61 old).clock = a.clock ∧
    (a.setKey 61 old).nat K.khKeystoreGen = a.nat K.khKeystoreGen ∧ a.Records (a.setKey 61 old) [] := ⟨rfl, rfl, rfl, .of_attic rfl⟩
  obtain ⟨b1, b2, b3, b4⟩ := hb0
  generalize a.setKey 61 old = b at *
  obtain ⟨c1, -, -, -, -⟩ := b.setSlot_self 61 st0 ty0 us0 id0 []
  have cid := b.setSlot_num_id 61 st0 ty0 us0 id0 []
  obtain ⟨ckh, cc, -, -, cr⟩ := b.setSlot_frame 61 st0 ty0 us0 id0 []
  have cg := b.setSlot_nat_ne 61 st0 ty0 us0 id0 [] (x := K.khKeystoreGen) (by decide) (slotKey_low _ (by decide))
  generalize b.setSlot 61 st0 ty0 us0 id0 [] = c at *
  have hk60 : (c.setKey 60 key).key 60 = key := c.key_setKey key (by rw [ckh, hla]; decide)
  have hk61 : (c.setKey 60 key).key 61 = old := (c.key_setKey_ne key (by decide)).trans ((congrArg (fun x => x.keys.getD 61 []) ckh).trans hka)
  have hd0 : (c.setKey 60 key).keyhole.counter = c.keyhole.counter ∧ (c.setKey 60 key).clock = c.clock ∧ (c.setKey 60 key).obj = c.obj ∧
    c.Records (c.setKey 60 key) [] := ⟨rfl, rfl, rfl, .of_attic rfl⟩
  obtain ⟨d1, d2, d3, d4⟩ := hd0
  generalize c.setKey 60 key = e at *
  obtain ⟨f1, -, -, f4, -⟩ := e.setSlot_self 60 st 4 3 d.keyhole.counter []
  obtain ⟨fkh, fc, -, -, fr⟩ := e.setSlot_frame 60 st 4 3 d.keyhole.counter []
  have fv {x : Nat} (hx : slotKey 61 x = true) := e.setSlot_val_ne 60 st 4 3 d.keyhole.counter [] (laneKey_of_slot hx) (slotKey_ne (by decide) hx)
  have fg := e.setSlot_nat_ne 60 st 4 3 d.keyhole.counter [] (x := K.khKeystoreGen) (by decide) (slotKey_low _ (by decide))
  obtain ⟨k1, -, -, k4, -⟩ := slotKey_key 61
  have fs := fv k1
  have fi := fv k4
  clear fv
  generalize e.setSlot 60 st 4 3 d.keyhole.counter [] = f at *
  have hq : (f.setKeyhole (fun x => { x with rotateFrom := d.clock.ticks, rotateRan := 0 })).obj = f.obj := rfl
  refine ⟨?_, ?_, ?_, ?_, (nat_of_obj hq _).trans f4, (nat_of_obj hq _).trans f1, ?_, rfl, rfl, ?_, ?_, ?_⟩
  · exact (congrArg (fun x => x.keys.getD 61 []) fkh).trans hk61
  · refine (num_of_obj hq _).trans ((congrArg Val.int fi).trans ?_)
    exact (num_of_obj d3 _).trans cid
  · refine (nat_of_obj hq _).trans ((congrArg (fun v => v.int.toNat) fs).trans ?_)
    exact (nat_of_obj d3 _).trans c1
  · have : (f.setKeyhole (fun x => { x with rotateFrom := d.clock.ticks, rotateRan := 0 })).key 60 = key :=
      (congrArg (fun x => x.keys.getD 60 []) fkh).trans hk60
    rw [this, hlen]
  · show f.keyhole.counter = _
    rw [fkh, d1, ckh, b1, z2]
  · show f.clock = _
    rw [fc, d2, cc, b2, z3]
  · rw [nat_of_obj hq, fg, nat_of_obj d3, cg, b3, zg]
  · exact z5.trans (b4.trans (cr.trans (d4.trans (fr.trans (.of_attic rfl)))))

theorem Device.rotateNts_frame (hk : d.keyhole.keys.length = 64) : let t := d.rotateNts
    t.key 61 = d.key 60 ∧ t.num (K.ksKeyId 61) = ((d.nat (K.ksKeyId 60) : Nat) : Int) ∧ t.nat (K.ksState 61) = d.nat (K.ksState 60) ∧
    (t.key 60).length = 64 ∧ t.nat (K.ksKeyId 60) = d.keyhole.counter ∧ t.nat (K.ksState 60) = (if d.tamperLocks then 4 else 2) ∧
    t.keyhole.counter = d.keyhole.counter + 1 ∧ t.keyhole.rotateFrom = d.clock.ticks ∧ t.keyhole.rotateRan = 0 ∧ t.clock = d.clock ∧
    t.nat K.khKeystoreGen = d.nat K.khKeystoreGen + 1 ∧
    (newReports d t).filter (fun r => r.1 = 0x0C04) = [(0x0C04, [(d.keyhole.counter : Int), d.num (K.ksKeyId 60)])] := by
  rw [d.rotateNts_eq]
  obtain ⟨h1, h2, h3, h4, h5, h6, h7, h8, h9, h10, h11, h12⟩ := d.rotateSet_frame hk
  generalize (if d.tamperLocks then 4 else 2) = st at *
  generalize d.num (K.ksKeyId 60) = oldId
  generalize d.rotateSet = e at *
  have hrep := Device.Records.of_report e (code := 0x0C04) [(d.keyhole.counter : Int), oldId] (by decide)
  have hf : (e.report 0x0C04 [(d.keyhole.counter : Int), oldId]).obj = e.obj ∧ (e.report 0x0C04 [(d.keyhole.counter : Int), oldId]).keyhole = e.keyhole ∧
    (e.report 0x0C04 [(d.keyhole.counter : Int), oldId]).clock = e.clock := ⟨rfl, rfl, rfl⟩
  obtain ⟨f1, f2, f3⟩ := hf
  generalize e.report 0x0C04 [(d.keyhole.counter : Int), oldId] = f at *
  obtain ⟨w1, -, -, w4, w5, -⟩ := f.writeStore_frame
  have hn {k x : Nat} (hx : slotKey k x = true) : f.writeStore.num x = e.num x :=
    (congrArg Val.int (f.writeStore_val (slotKey_not_low hx (by decide)))).trans (num_of_obj f1 x)
  have hn' {k x : Nat} (hx : slotKey k x = true) : f.writeStore.nat x = e.nat x := congrArg Int.toNat (hn hx)
  obtain ⟨k1, -, -, k4, -⟩ := slotKey_key 61
  obtain ⟨m1, -, -, m4, -⟩ := slotKey_key 60
  have hkey (k : Nat) : f.writeStore.key k = e.key k := by rw [Device.key, w4, f2, Device.key]
  have hro : f.writeStore.keyhole.rotateFrom = e.keyhole.rotateFrom ∧ f.writeStore.keyhole.rotateRan = e.keyhole.rotateRan :=
    ⟨(show f.writeStore.keyhole.rotateFrom = f.keyhole.rotateFrom from rfl).trans (by rw [f2]),
      (show f.writeStore.keyhole.rotateRan = f.keyhole.rotateRan from rfl).trans (by rw [f2])⟩
  refine ⟨(hkey 61).trans h1, (hn k4).trans h2, (hn' k1).trans h3, ?_, (hn' m4).trans h5, (hn' m1).trans h6, ?_, hro.1.trans h8, hro.2.trans h9, ?_, ?_, ?_⟩
  · rw [hkey 60, h4]
  · rw [w5, f2, h7]
  · rw [w1, f3, h10]
  · rw [f.writeStore_gen, nat_of_obj f1, h11]
  · rw [((h12.trans hrep).writeStore).filter (by decide)]
    simp

/-! ## Fuses (R483) -/

theorem Device.writeRollback_held (h : d.keyhole.secVersion ≤ d.keyhole.rollback) : d.writeRollback = (St.ok, d) := if_pos h

theorem Device.writeRollback_raised (h : d.keyhole.rollback < d.keyhole.secVersion) : ∃ e, d.writeRollback = (St.ok, e) ∧
    e.keyhole.rollback = d.keyhole.secVersion ∧ newReports d e = [(0x0C06, [(d.keyhole.rollback : Int), (d.keyhole.secVersion : Int)])] ∧
    ∀ k, k ≠ K.khBootStatus → e.val k = d.val k := by
  refine ⟨_, if_neg (Nat.not_le.mpr h), rfl, newReports_of_entries (Device.entries_report _ _ _), fun k hk => ?_⟩
  exact Device.val_setVal_ne _ _ hk

/-! ## The tamper lock (R484, R485) -/

/-- The state of a slot under the tamper lock, or without it. -/
def lockedState (lock : Bool) (st : Nat) : Nat := if lock then (if st = 2 then 4 else st) else if st = 4 then 2 else st

/-- One slot follows the tamper lock. -/
def Device.lockStep (d : Device) (k : Nat) : Device :=
  if d.tamperLocks then (if d.nat (K.ksState k) = 2 then d.setNum (K.ksState k) 4 else d)
  else if d.nat (K.ksState k) = 4 then d.setNum (K.ksState k) 2 else d

theorem Device.followLock_eq : d.followLock = ((List.range 62).foldl Device.lockStep d).keysFollow d := rfl

/-- The objects that begin a key slot or follow it. -/
def lockKey (k : Nat) : Bool := 0x514001 ≤ k

theorem Device.lockStep_beside (B : Blank) (k : Nat) : (d.lockStep k).beside B lockKey = d.beside B lockKey := by
  have hk : lockKey (K.ksState k) = true := decide_eq_true (by simp only [K.ksState]; omega)
  have h4 := d.beside_setNum (B := B) 4 hk
  have h2 := d.beside_setNum (B := B) 2 hk
  unfold Device.lockStep
  split <;> split
  · exact h4
  · rfl
  · exact h2
  · rfl

theorem Device.lockStep_attic (k : Nat) : (d.lockStep k).attic = d.attic := by
  unfold Device.lockStep
  split <;> split <;> rfl

theorem ksState_inj {j k : Nat} (h : K.ksState j = K.ksState k) : j = k := by
  simp only [K.ksState] at h
  omega

theorem Device.lockStep_state (j k : Nat) : (d.lockStep k).nat (K.ksState j) =
    if j = k then lockedState d.tamperLocks (d.nat (K.ksState j)) else d.nat (K.ksState j) := by
  have hset (v : Nat) : (d.setNum (K.ksState k) (v : Int)).nat (K.ksState j) = if j = k then v else d.nat (K.ksState j) := by
    rw [Device.nat_setNum]
    by_cases h : j = k
    · rw [if_pos (by rw [h]), if_pos h, Int.toNat_natCast]
    · rw [if_neg (mt ksState_inj h), if_neg h]
  have h4 := hset 4
  have h2 := hset 2
  unfold Device.lockStep lockedState
  by_cases h : j = k
  · subst h
    split <;> split <;> simp_all
  · split <;> split <;> simp_all

theorem Device.tamperLocks_congr {d e : Device} (h : e.nat K.khTamper = d.nat K.khTamper) (h' : e.nat K.khTamperCfg = d.nat K.khTamperCfg) :
    e.tamperLocks = d.tamperLocks := by
  unfold Device.tamperLocks
  rw [h, h']

theorem Device.lockStep_locks (k : Nat) : (d.lockStep k).tamperLocks = d.tamperLocks :=
  Device.tamperLocks_congr (nat_of_beside (d.lockStep_beside laneBlank k) (by decide)) (nat_of_beside (d.lockStep_beside laneBlank k) (by decide))

theorem Device.lockFold_state (l : List Nat) (hn : l.Nodup) (j : Nat) : (l.foldl Device.lockStep d).nat (K.ksState j) =
    if j ∈ l then lockedState d.tamperLocks (d.nat (K.ksState j)) else d.nat (K.ksState j) := by
  induction l generalizing d with
  | nil => rw [if_neg List.not_mem_nil]; rfl
  | cons k l ih =>
    obtain ⟨hk, hl⟩ := List.nodup_cons.mp hn
    rw [List.foldl_cons, ih _ hl, d.lockStep_locks, d.lockStep_state]
    by_cases hj : j = k
    · subst hj
      rw [if_neg hk, if_pos rfl, if_pos List.mem_cons_self]
    · rw [if_neg hj]
      simp only [List.mem_cons, hj, false_or]

theorem Device.lockFold_attic (l : List Nat) : (l.foldl Device.lockStep d).attic = d.attic := by
  induction l generalizing d with
  | nil => rfl
  | cons k l ih => exact (ih _).trans (d.lockStep_attic k)

theorem Device.followLock_frame : let t := d.followLock
    t.clock = d.clock ∧ (∀ k < 62, t.nat (K.ksState k) = lockedState d.tamperLocks (d.nat (K.ksState k))) ∧ t.nat K.khTamper = d.nat K.khTamper ∧
    d.Adds t := by
  rw [d.followLock_eq]
  have hb : ((List.range 62).foldl Device.lockStep d).beside laneBlank lockKey = d.beside laneBlank lockKey :=
    d.beside_foldl _ fun x k _ => x.lockStep_beside laneBlank k
  have hs := fun j => d.lockFold_state (List.range 62) List.nodup_range j
  have ha := d.lockFold_attic (List.range 62)
  generalize (List.range 62).foldl Device.lockStep d = e at hb hs ha ⊢
  have hf := e.follows_keysFollow d
  refine ⟨hf.clock.trans (congrArg (fun x => x.1.clock) hb), fun k hk => ?_, (hf.nat (by decide)).trans (nat_of_beside hb (by decide)),
    (Device.adds_of_attic ha).trans hf.adds⟩
  rw [hf.nat (laneKey_of_slot (slotKey_key k).1), hs, if_pos (List.mem_range.mpr hk)]

theorem lockedState_locked (st : Nat) : lockedState true st ≠ 2 := by
  simp only [lockedState, if_true]
  split <;> omega

theorem lockedState_free (st : Nat) : lockedState false st = if st = 4 then 2 else st := if_neg (by decide)

theorem bit_setBit_self {v n : Nat} (h : bit v n = false) : setBit v n true = v + 2 ^ n := by
  rw [setBit, if_neg (by rw [h]; decide), if_pos rfl]

theorem bit_add_self {v n : Nat} (h : bit v n = false) : bit (v + 2 ^ n) n = true := by
  simp only [bit, decide_eq_false_iff_not, decide_eq_true_eq] at *
  rw [Nat.add_div_right _ (Nat.two_pow_pos n)]
  omega

theorem Device.tamperInput_idle (i : Nat) (h : i < 2) (hb : bit (d.nat K.khTamperCfg) i = false ∨ bit (d.nat K.khTamper) i = true) :
    d.tamperInput i = d.elapse (ceilDiv (4 * xtalU) xtalTick) := by
  unfold Device.tamperInput
  generalize ceilDiv (4 * xtalU) xtalTick = n
  have h1 : (d.elapse n).nat K.khTamperCfg = d.nat K.khTamperCfg := Device.elapse_nat _ _ _
  have h2 : (d.elapse n).nat K.khTamper = d.nat K.khTamper := Device.elapse_nat _ _ _
  obtain hb | hb := hb
  · exact if_neg (by simp [h1, hb])
  · dsimp only
    rw [Device.setTamper, h2, if_pos hb, ite_self]

/-- The flag of tamper pin i newly set. -/
def Device.tamperSet (d : Device) (i : Nat) : Device :=
  (d.setNum K.khTamper (d.nat K.khTamper + 2 ^ i : Nat)).report 0x0C0B [(d.nat K.khTamper + 2 ^ i : Nat), (i : Nat)]

theorem Device.tamperInput_set (i : Nat) (h : i < 2) (hc : bit (d.nat K.khTamperCfg) i = true) (hb : bit (d.nat K.khTamper) i = false) :
    d.tamperInput i = ((d.elapse (ceilDiv (4 * xtalU) xtalTick)).tamperSet i).followLock := by
  unfold Device.tamperInput
  generalize ceilDiv (4 * xtalU) xtalTick = n
  have h1 : (d.elapse n).nat K.khTamperCfg = d.nat K.khTamperCfg := Device.elapse_nat _ _ _
  have h2 : (d.elapse n).nat K.khTamper = d.nat K.khTamper := Device.elapse_nat _ _ _
  dsimp only
  rw [if_pos (by simp [h1, hc, h]), Device.setTamper, h2, if_neg (by simp [hb])]
  dsimp only
  rw [bit_setBit_self hb, if_neg (by simp; omega), Device.tamperSet, h2]

theorem newReports_of_same {d e : Device} (h : d.entries = e.entries) (f : Device) : newReports d f = newReports e f := by
  have hl := congrArg List.length h
  simp only [Device.entries, List.length_map] at hl
  simp only [newReports, hl]

theorem head_of_adds {d e f : Device} {r : Nat × List Int} (h : e.entries = d.entries ++ [r]) (h' : e.Adds f) : (newReports d f).head? = some r := by
  obtain ⟨l, hl⟩ := h'
  rw [newReports_of_entries (l := r :: l) (by rw [← hl, h, List.append_assoc]; rfl)]
  rfl

theorem head_of_newReports {d e f : Device} {r : Nat × List Int} (hd : d.Adds e) (h : (newReports d e).head? = some r) (h' : e.Adds f) :
    (newReports d f).head? = some r := by
  obtain ⟨l, hl⟩ := hd
  rw [newReports_of_entries hl.symm] at h
  obtain ⟨m, hm⟩ := h'
  rw [newReports_of_entries (l := l ++ m) (by rw [← hm, ← hl, List.append_assoc]), List.head?_append, h]
  rfl

theorem Device.tamperSet_frame (i : Nat) (h2 : i < 2) (hb : bit (d.nat K.khTamper) i = false) : let t := (d.tamperSet i).followLock
    t.clock = d.clock ∧ t.nat K.khTamper = d.nat K.khTamper + 2 ^ i ∧
    (newReports d t).head? = some (0x0C0B, [((d.nat K.khTamper + 2 ^ i : Nat) : Int), (i : Int)]) ∧
    (bit (d.nat K.khTamperCfg) (i + 2) = true → ∀ k, k < 62 → t.nat (K.ksState k) ≠ 2) ∧ d.Adds t := by
  have h0 : (d.tamperSet i).clock = d.clock ∧ (d.tamperSet i).entries = d.entries ++ [(0x0C0B, [((d.nat K.khTamper + 2 ^ i : Nat) : Int), (i : Int)])] ∧
    (d.tamperSet i).obj = (d.setNum K.khTamper (d.nat K.khTamper + 2 ^ i : Nat)).obj := ⟨rfl, Device.entries_report _ _ _, rfl⟩
  obtain ⟨h1, hent, h3⟩ := h0
  have ht : (d.tamperSet i).nat K.khTamper = d.nat K.khTamper + 2 ^ i := by rw [nat_of_obj h3, Device.nat_setNum, if_pos rfl, Int.toNat_natCast]
  have hc : (d.tamperSet i).nat K.khTamperCfg = d.nat K.khTamperCfg := by rw [nat_of_obj h3, Device.nat_setNum, if_neg (by decide)]
  generalize d.tamperSet i = e at *
  obtain ⟨f1, f2, f3, f4⟩ := e.followLock_frame
  refine ⟨f1.trans h1, f3.trans ht, head_of_adds hent f4, fun hlock k hk => ?_, Device.Adds.trans ⟨_, hent.symm⟩ f4⟩
  have hl : e.tamperLocks = true := by
    have hbit := bit_add_self hb
    unfold Device.tamperLocks
    rw [ht, hc]
    obtain rfl | rfl : i = 0 ∨ i = 1 := by omega
    · simp only [hbit, hlock, Bool.and_self, Bool.true_or]
    · simp only [hbit, hlock, Bool.and_self, Bool.or_true]
  rw [f2 k hk, hl]
  exact lockedState_locked _

theorem Device.writeTamperClear_frame : ∃ e, d.writeTamperClear = (St.ok, e) ∧ e.nat K.khTamper = 0 ∧
    (newReports d e).head? = some (0x0C0C, [d.num K.khTamper]) ∧
    ∀ k, k < 62 → e.nat (K.ksState k) = (if d.nat (K.ksState k) = 4 then 2 else d.nat (K.ksState k)) := by
  refine ⟨_, rfl, ?_⟩
  have hent : ((d.report 0x0C0C [d.num K.khTamper]).setNum K.khTamper 0).entries = d.entries ++ [(0x0C0C, [d.num K.khTamper])] := d.entries_report _ _
  have ht : ((d.report 0x0C0C [d.num K.khTamper]).setNum K.khTamper 0).nat K.khTamper = 0 := by rw [Device.nat_setNum, if_pos rfl]; rfl
  have hs (k : Nat) : ((d.report 0x0C0C [d.num K.khTamper]).setNum K.khTamper 0).nat (K.ksState k) = d.nat (K.ksState k) := by
    rw [Device.nat_setNum, if_neg (slotKey_not_low (slotKey_key k).1 (by decide))]
    rfl
  generalize (d.report 0x0C0C [d.num K.khTamper]).setNum K.khTamper 0 = e at *
  obtain ⟨-, f2, f3, f4⟩ := e.followLock_frame
  refine ⟨f3.trans ht, head_of_adds hent f4, fun k hk => ?_⟩
  have hl : e.tamperLocks = false := by
    unfold Device.tamperLocks
    rw [ht]
    simp [bit]
  rw [f2 k hk, hl, lockedState_free, hs]

/-! ## Attestation (R486) -/

/-- The slot that an attestation names. -/
def Device.attestSlot (d : Device) (b : Bytes) : Nat := if fieldNat b 32 1 = 0xFF then d.nat K.ledgerKeySlot else fieldNat b 32 1

section
variable {d} {b : Bytes}

theorem Device.writeAttestReq_range (h : 64 ≤ fieldNat b 32 1) (h' : fieldNat b 32 1 ≠ 0xFF) : d.writeAttestReq b = (St.range, d) :=
  if_pos (by simp [h, h'])

/-- What an attestation that does not come about shows. -/
theorem Device.attestFailed_state (d : Device) (p : List Int) : ((d.setNum K.khAttestState 3).report 0x0C09 p).nat K.khAttestState = 3 := by
  show (d.setNum K.khAttestState 3).nat K.khAttestState = 3
  rw [Device.nat_setNum, if_pos rfl]
  rfl

theorem Device.setKeyhole_obj_attest (d : Device) (b : Bytes) (f : Keyhole → Keyhole) :
    (((d.setOct K.khAttestReq b).setNum K.khAttestState 1).setKeyhole f).obj = ((d.setOct K.khAttestReq b).setNum K.khAttestState 1).obj := rfl

section
variable (h : fieldNat b 32 1 < 64 ∨ fieldNat b 32 1 = 0xFF)
include h

theorem Device.writeAttestReq_busy (h1 : d.nat K.khAttestState = 1) : d.writeAttestReq b = (St.state, d) :=
  (if_neg (by simp; omega)).trans (if_pos h1)

theorem Device.writeAttestReq_dry (h1 : d.nat K.khAttestState ≠ 1) (h2 : d.nat K.khEntropyState ≠ 1) : ∃ e, d.writeAttestReq b = (St.state, e) ∧
    e.nat K.khAttestState = 3 :=
  ⟨_, (if_neg (by simp; omega)).trans ((if_neg h1).trans (if_pos (by simp [Device.entropyOk, h2]))), d.attestFailed_state _⟩

theorem Device.writeAttestReq_begun (h1 : d.nat K.khAttestState ≠ 1) (h2 : d.nat K.khEntropyState = 1) (h3 : d.nat K.khLifecycle ≠ 2)
    (h4 : d.nat (K.ksState 63) = 2) (h5 : d.queueDepth < 60) : ∃ (e : Device) (j : Job) (id : Nat), d.writeAttestReq b = (St.ok, e) ∧
    e.nat K.khAttestState = 1 ∧ e.oct K.khAttestReq = b ∧ e.keyhole.attest = some (d.attestBody (b.take 32) (d.attestSlot b), d.attestSlot b, id) ∧
    e.strong.jobs = d.strong.jobs ++ [j] ∧ j.who = .attest ∧ j.op = 0x18 := by
  have hroom : ¬ (!d.queueRoom 1) = true := by
    rw [d.queueRoom_low one_ne_zero]
    omega
  refine ⟨_, _, _, (if_neg (by simp; omega)).trans ((if_neg h1).trans ((if_neg (by simp [Device.entropyOk, h2])).trans
    (if_neg (by simpa [h3, h4] using hroom)))), ?_, ?_, rfl, Device.queueJob_jobs _ _, rfl, rfl⟩
  · rw [Device.queueJob_nat _ _ (by decide) (by decide)]
    exact (nat_of_obj (d.setKeyhole_obj_attest b _) _).trans (((d.setOct K.khAttestReq b).nat_setNum K.khAttestState K.khAttestState 1).trans (if_pos rfl))
  · refine (congrArg Val.bytes (Device.queueJob_val _ _ (by decide) (by decide))).trans ?_
    refine (congrArg Val.bytes ((val_of_obj (d.setKeyhole_obj_attest b _) _).trans
      ((d.setOct K.khAttestReq b).val_setVal_ne (j := K.khAttestReq) (k := K.khAttestState) _ (by decide)))).trans ?_
    exact d.oct_setOct_self _ _

end

theorem Device.attestComplete_none (h : d.keyhole.attest = none) : d.attestComplete = d := by
  unfold Device.attestComplete
  rw [h]
  split <;> simp_all

/-- The attestation's job is taken, and no other stands. -/
def Device.attestTaken (d : Device) (id : Nat) : Device := (d.jobTaken id).setKeyhole (fun x => { x with attest := none })

/-- The report of an attestation over its 304 bytes, signed with nonce k. -/
def Device.attestReport (d : Device) (body : Bytes) (k : Nat) : Bytes :=
  body ++ (let rs := p384.sign (beNat (d.key 63)) (beNat (sha384 (ascii "LUABRY-ATTEST-01" ++ body))) k
    toBE 48 rs.1 ++ toBE 48 rs.2)

section
variable {j : Job} {body : Bytes} {slot id : Nat}
  (hj : d.strong.jobs.find? (fun j => j.who = .attest && j.state = 6) = some j) (ha : d.keyhole.attest = some (body, slot, id))
include hj ha

theorem Device.attestComplete_failed (hr : j.result ≠ 0) : d.attestComplete =
    ((d.attestTaken j.id).setNum K.khAttestState 3).causedBy j.src (·.report 0x0C09 [slot, id, 1]) := by
  unfold Device.attestComplete
  rw [hj, ha]
  exact if_pos hr

theorem Device.attestComplete_issued (hr : j.result = 0) : d.attestComplete =
    ((((d.attestTaken j.id).drawNonce p384).2.setOct K.khAttestReport (d.attestReport body ((d.attestTaken j.id).drawNonce p384).1)).setNum
      K.khAttestState 2).causedBy j.src (·.report 0x0C09 [slot, id, 0]) := by
  unfold Device.attestComplete
  rw [hj, ha]
  refine (if_neg (not_not.mpr hr)).trans ?_
  simp only [Device.attestReport, List.append_assoc]
  rfl

theorem Device.attestComplete_frame : let t := d.attestComplete
    t.clock = d.clock ∧ t.keyhole.attest = none ∧
    (j.result ≠ 0 → t.nat K.khAttestState = 3 ∧ newReports d t = [(0x0C09, [(slot : Int), (id : Int), 1])]) ∧
    (j.result = 0 → t.nat K.khAttestState = 2 ∧ newReports d t = [(0x0C09, [(slot : Int), (id : Int), 0])] ∧
      ∃ k, t.oct K.khAttestReport = d.attestReport body k) := by
  by_cases hr : j.result = 0
  · rw [Device.attestComplete_issued hj ha hr]
    have h0 : ((d.attestTaken j.id).drawNonce p384).2.clock = d.clock ∧ ((d.attestTaken j.id).drawNonce p384).2.keyhole.attest = none ∧
      ((d.attestTaken j.id).drawNonce p384).2.attic = d.attic := ⟨rfl, rfl, rfl⟩
    generalize ((d.attestTaken j.id).drawNonce p384).2 = e at h0 ⊢
    generalize ((d.attestTaken j.id).drawNonce p384).1 = k
    obtain ⟨h1, h2, h3⟩ := h0
    refine ⟨h1, h2, fun h => absurd hr h, fun _ => ⟨?_, newReports_causedBy_report _ _ _ _ h3, k, ?_⟩⟩
    · rw [Device.causedBy_report_nat, Device.nat_setNum, if_pos rfl]
      rfl
    · generalize d.attestReport body k = rep
      refine (congrArg Val.bytes ((Device.causedBy_report_val _ _ _ _ _).trans (Device.val_setVal_ne _ _ (by decide)))).trans ?_
      exact e.oct_setOct_self _ _
  · rw [Device.attestComplete_failed hj ha hr]
    have h0 : (d.attestTaken j.id).clock = d.clock ∧ (d.attestTaken j.id).keyhole.attest = none ∧ (d.attestTaken j.id).attic = d.attic := ⟨rfl, rfl, rfl⟩
    generalize d.attestTaken j.id = e at h0 ⊢
    obtain ⟨h1, h2, h3⟩ := h0
    refine ⟨h1, h2, fun _ => ⟨?_, newReports_causedBy_report _ _ _ _ h3⟩, fun h => absurd h hr⟩
    rw [Device.causedBy_report_nat, Device.nat_setNum, if_pos rfl]
    rfl

end

end

end

end Sys2Proof.Machine
end

section
/-! Chapter 17: what settles O53 (R474 to R486, R17). -/

namespace Sys2Proof.Machine

theorem exec_keygenComplete (s : State) (slot : Nat) : exec (.keygenComplete slot) s = .next (s.on (·.keygenComplete slot)) := rfl
theorem exec_ntsRotatePeriodExpiry (s : State) : exec .ntsRotatePeriodExpiry s = .next (s.on (·.rotateDue)) := rfl
theorem exec_tamperInput (s : State) (pin : Nat) : exec (.tamperInput pin) s = .next (s.on (fun d => (d.tamperInput pin).wakeOnTamper d)) := rfl
theorem exec_attestComplete (s : State) : exec .attestComplete s = .next (s.on (·.attestComplete)) := rfl

section
variable (d : Device)

theorem Device.writeKeygen_frame {b : Bytes} (h : keygenGood b) (hf : d.keygenFree (fieldNat b 0 1)) : ∃ (e : Device) (j : Job),
    d.writeKeygen b = (St.ok, e) ∧ e.nat (K.ksState (fieldNat b 0 1)) = 1 ∧ e.nat (K.ksType (fieldNat b 0 1)) = fieldNat b 1 1 ∧
    e.nat (K.ksUse (fieldNat b 0 1)) = fieldNat b 2 1 ∧ e.oct K.khKeygen = b ∧ e.strong.jobs = d.strong.jobs ++ [j] ∧
    j.who = .keygen (fieldNat b 0 1) ∧ j.prio = 1 ∧ j.state = 1 ∧ e.clock = d.clock := by
  obtain ⟨h1, h2, h3, h4, h5, h6⟩ := d.keygenSet_frame hf.1
  obtain ⟨k1, k2, k3, -, -⟩ := slotKey_key (fieldNat b 0 1)
  refine ⟨_, (d.keygenSet b).queued { id := 0, prio := 1, op := pubOp (fieldNat b 1 1), who := .keygen (fieldNat b 0 1) },
    d.writeKeygen_made h hf, ?_⟩
  generalize d.keygenSet b = e at *
  generalize hjob : ({ id := 0, prio := 1, op := pubOp (fieldNat b 1 1), who := .keygen (fieldNat b 0 1) } : Job) = job
  have hj : job.prio = 1 ∧ job.who = .keygen (fieldNat b 0 1) := by rw [← hjob]; exact ⟨rfl, rfl⟩
  generalize fieldNat b 0 1 = slot at *
  have hn {x : Nat} (hx : slotKey slot x = true) := e.queueJob_nat job (slotKey_not_low hx (by decide)) (slotKey_not_low hx (by decide))
  obtain ⟨hc, -, -⟩ := e.queueJob_frame job
  exact ⟨(hn k1).trans h1, (hn k2).trans h2, (hn k3).trans h3, (congrArg Val.bytes (e.queueJob_val job (by decide) (by decide))).trans h4,
    (e.queueJob_jobs job).trans (by rw [h5]), hj.2, hj.1, rfl, hc.trans h6⟩

/-- A tamper flag newly set, with what follows in the slots and what wakes of it. -/
theorem Device.tamperWoken_frame (d0 : Device) (i : Nat) (h2 : i < 2) (hb : bit (d.nat K.khTamper) i = false) :
    let t := (d.tamperSet i).followLock.wakeOnTamper d0
    t.clock = d.clock ∧ t.nat K.khTamper = d.nat K.khTamper + 2 ^ i ∧
    (newReports d t).head? = some (0x0C0B, [((d.nat K.khTamper + 2 ^ i : Nat) : Int), (i : Int)]) ∧
    (bit (d.nat K.khTamperCfg) (i + 2) = true → ∀ k, k < 62 → t.nat (K.ksState k) ≠ 2) := by
  obtain ⟨h1, h2, h3, h4, h5⟩ := d.tamperSet_frame i h2 hb
  generalize (d.tamperSet i).followLock = e at *
  have hw : (e.wakeOnTamper d0).beside wakeBlank wakeKey = e.beside wakeBlank wakeKey := by
    rw [Device.wakeOnTamper, apply_ite (Device.beside wakeBlank wakeKey), Device.wake_fbWake, ite_self]
  have ha : e.Adds (e.wakeOnTamper d0) := Device.adds_ite (e.adds_fbWake 5 0xFF) e.adds_refl
  generalize e.wakeOnTamper d0 = f at *
  have hkey : ∀ k < 62, wakeKey (K.ksState k) = false := by decide
  refine ⟨(wake_clock hw).trans h1, (nat_of_beside hw (by decide)).trans h2, head_of_newReports h5 h3 ha, fun hl k hk => ?_⟩
  rw [nat_of_beside hw (hkey k hk)]
  exact h4 hl k hk

end

theorem Device.answerOf_writeRotate (d : Device) :
    answerOf d.writeRotate = if d.nat K.khEntropyState = 1 then d.rotateNts.done else d.answer 0x100A := by
  unfold Device.writeRotate Device.entropyOk
  generalize d.rotateNts = e
  by_cases he : d.nat K.khEntropyState = 1
  · rw [if_pos he, if_pos (decide_eq_true he)]
    rfl
  · rw [if_neg he, if_neg (by simpa using he)]
    rfl

theorem Device.tamperInput_obeys (d : Device) {i : Nat} (hi : i < 2) (hc : bit (d.nat K.khTamperCfg) i = true) (hb : bit (d.nat K.khTamper) i = false) :
    let t := (d.tamperInput i).wakeOnTamper d
    t.clock.ticks = (d.elapse ((4 * xtalU + xtalTick - 1) / xtalTick)).clock.ticks ∧ t.nat K.khTamper = d.nat K.khTamper + 2 ^ i ∧
    (newReports d t).head? = some (0x0C0B, [(d.nat K.khTamper + 2 ^ i : Int), (i : Int)]) ∧
    (bit (d.nat K.khTamperCfg) (i + 2) = true → ∀ k, k < 62 → t.nat (K.ksState k) ≠ 2) := by
  rw [d.tamperInput_set i hi hc hb, ceilDiv]
  generalize (4 * xtalU + xtalTick - 1) / xtalTick = n
  have h1 : (d.elapse n).nat K.khTamper = d.nat K.khTamper := Device.elapse_nat _ _ _
  have h2 : (d.elapse n).nat K.khTamperCfg = d.nat K.khTamperCfg := Device.elapse_nat _ _ _
  have h3 : (d.elapse n).entries = d.entries := rfl
  generalize d.elapse n = e at *
  obtain ⟨f1, f2, f3, f4⟩ := e.tamperWoken_frame d i hi (h1.symm ▸ hb)
  rw [h1] at f2 f3
  rw [h2] at f4
  have hnew : newReports d ((e.tamperSet i).followLock.wakeOnTamper d) = newReports e ((e.tamperSet i).followLock.wakeOnTamper d) :=
    newReports_of_same h3.symm _
  generalize (e.tamperSet i).followLock.wakeOnTamper d = t at *
  refine ⟨congrArg Clock.ticks f1, f2, ?_, f4⟩
  rw [hnew, f3, Nat.cast_add, Nat.cast_pow, Nat.cast_ofNat]

theorem Device.tamperInput_quiet (d : Device) {i : Nat} (hi : i < 2) (h : bit (d.nat K.khTamperCfg) i = false ∨ bit (d.nat K.khTamper) i = true) :
    (d.tamperInput i).wakeOnTamper d = d.elapse ((4 * xtalU + xtalTick - 1) / xtalTick) := by
  rw [d.tamperInput_idle i hi h, ceilDiv]
  generalize (4 * xtalU + xtalTick - 1) / xtalTick = n
  exact if_neg (not_not.mpr (Device.elapse_nat _ _ _).symm)

/-- The objects of Keyhole that are written by commands answer what those answer. -/
theorem Device.highAction_keyhole (d : Device) (a : Asker) {k : Nat} (b : Bytes) (hk : k / 256 = 0x5100) : d.highAction a k b = d.khAction (k % 256) b := by
  have hlt : ∀ c, c / 256 ≠ 0x5100 → k ≠ c := by
    rintro c hc rfl
    exact hc hk
  simp only [Device.highAction, hk, hlt K.xphyMdio (by decide), hlt K.hallFdbFlush (by decide), hlt K.srLaneRestore (by decide),
    hlt K.srSlotLayout (by decide), hlt K.srJobSubmit (by decide), hlt K.srJobAbort (by decide), if_false, if_true]
  simp

theorem khKeygen_row : dictFind (K.khKeygen / 256) (K.khKeygen % 256)
    = some ⟨0x5100, 0x5100, 0x0D, 0x0D, .octets 4, .rws, .rep 4 0, .any, 0⟩ := rfl
theorem khKeyDestroy_row : dictFind (K.khKeyDestroy / 256) (K.khKeyDestroy % 256)
    = some ⟨0x5100, 0x5100, 0x0E, 0x0E, .uns 1, .rws, .num 255, .span 0 59, 0⟩ := rfl
theorem khNtsRotate_row : dictFind (K.khNtsRotate / 256) (K.khNtsRotate % 256)
    = some ⟨0x5100, 0x5100, 0x10, 0x10, .uns 1, .rws, .num 0, .span 1 1, 0⟩ := rfl
theorem khCosignEnable_row : dictFind (K.khCosignEnable / 256) (K.khCosignEnable % 256)
    = some ⟨0x5100, 0x5100, 0x14, 0x14, .uns 1, .rws, .num 0, .span 1 1, 0⟩ := rfl
theorem khRollbackCommit_row : dictFind (K.khRollbackCommit / 256) (K.khRollbackCommit % 256)
    = some ⟨0x5100, 0x5100, 0x15, 0x15, .uns 1, .rws, .num 0, .span 1 1, 0⟩ := rfl
theorem khAttestReq_row : dictFind (K.khAttestReq / 256) (K.khAttestReq % 256)
    = some ⟨0x5100, 0x5100, 0x16, 0x16, .octets 33, .rw, .rep 33 0, .any, 0⟩ := rfl
theorem khTamperClear_row : dictFind (K.khTamperClear / 256) (K.khTamperClear % 256)
    = some ⟨0x5100, 0x5100, 0x1B, 0x1B, .uns 1, .rws, .num 0, .span 1 1, 0⟩ := rfl

section
variable (s : State) (h : HapHdr)

theorem State.khKeygen_written {v : Bytes} (hv : v.length = 4) (hw : s.writes h K.khKeygen v) (hl : (s.asWritten h K.khKeygen v).lock = 3) :
    exec (.khKeygen h v) s = .next (s.wrote h K.khKeygen v (answerOf ((s.asWritten h K.khKeygen v).writeKeygen v))) :=
  congrArg Host.Outcome.next (s.sessionCommand_written h hw hl khKeygen_row ⟨by decide, by decide⟩ (by decide) (by decide)
    (by simp [Ty.allows, hv]) (rangeBad_plain v (.inl ⟨4, rfl⟩) (by decide)) fun a _ _ _ _ _ => Device.highAction_keyhole _ a v (by decide))

theorem State.khKeyDestroy_written {slot : Nat} (hs : slot < 60) (hw : s.writes h K.khKeyDestroy [byte slot])
    (hl : (s.asWritten h K.khKeyDestroy [byte slot]).lock = 3) :
    exec (.khKeyDestroy h [byte slot]) s = .next (s.wrote h K.khKeyDestroy [byte slot]
      (answerOf ((s.asWritten h K.khKeyDestroy [byte slot]).writeKeyDestroy slot))) := by
  have hrange : ∀ slot < 60, rangeBad K.khKeyDestroy ⟨0x5100, 0x5100, 0x0E, 0x0E, .uns 1, .rws, .num 255, .span 0 59, 0⟩ [byte slot] = false ∧
    beNat [byte slot] = slot := by decide +kernel
  refine congrArg Host.Outcome.next (s.sessionCommand_written h hw hl khKeyDestroy_row ⟨by decide, by decide⟩ (by decide) (by decide)
    rfl (hrange slot hs).1 fun a _ _ _ _ _ => (Device.highAction_keyhole _ a _ (by decide)).trans ?_)
  have : ∀ d : Device, d.khAction (K.khKeyDestroy % 256) [byte slot] = some (answerOf (d.writeKeyDestroy (beNat [byte slot]))) := fun _ => rfl
  rw [this, (hrange slot hs).2]

theorem State.khNtsRotate_written (hw : s.writes h K.khNtsRotate [1]) (hl : (s.asWritten h K.khNtsRotate [1]).lock = 3) :
    exec (.khNtsRotate h [1]) s = .next (s.wrote h K.khNtsRotate [1] (answerOf (s.asWritten h K.khNtsRotate [1]).writeRotate)) :=
  congrArg Host.Outcome.next (s.sessionCommand_written h hw hl khNtsRotate_row ⟨by decide, by decide⟩ (by decide) (by decide)
    rfl (by decide) fun a _ _ _ _ _ => Device.highAction_keyhole _ a _ (by decide))

theorem State.khCosignEnable_written (hw : s.writes h K.khCosignEnable [1]) (hl : (s.asWritten h K.khCosignEnable [1]).lock = 3) :
    exec (.khCosignEnable h [1]) s = .next (s.wrote h K.khCosignEnable [1] (answerOf (s.asWritten h K.khCosignEnable [1]).writeCosign)) :=
  congrArg Host.Outcome.next (s.sessionCommand_written h hw hl khCosignEnable_row ⟨by decide, by decide⟩ (by decide) (by decide)
    rfl (by decide) fun a _ _ _ _ _ => Device.highAction_keyhole _ a _ (by decide))

theorem State.khRollbackCommit_written (hw : s.writes h K.khRollbackCommit [1]) (hl : (s.asWritten h K.khRollbackCommit [1]).lock = 3) :
    exec (.khRollbackCommit h [1]) s = .next (s.wrote h K.khRollbackCommit [1] (answerOf (s.asWritten h K.khRollbackCommit [1]).writeRollback)) :=
  congrArg Host.Outcome.next (s.sessionCommand_written h hw hl khRollbackCommit_row ⟨by decide, by decide⟩ (by decide) (by decide)
    rfl (by decide) fun a _ _ _ _ _ => Device.highAction_keyhole _ a _ (by decide))

theorem State.khTamperClear_written (hw : s.writes h K.khTamperClear [1]) (hl : (s.asWritten h K.khTamperClear [1]).lock = 3) :
    exec (.khTamperClear h [1]) s = .next (s.wrote h K.khTamperClear [1] (answerOf (s.asWritten h K.khTamperClear [1]).writeTamperClear)) :=
  congrArg Host.Outcome.next (s.sessionCommand_written h hw hl khTamperClear_row ⟨by decide, by decide⟩ (by decide) (by decide)
    rfl (by decide) fun a _ _ _ _ _ => Device.highAction_keyhole _ a _ (by decide))

theorem State.khAttestReq_written {v : Bytes} (hv : v.length = 33) (hw : s.writes h K.khAttestReq v) :
    exec (.khAttestReq h v) s = .next (s.wrote h K.khAttestReq v (answerOf ((s.asWritten h K.khAttestReq v).writeAttestReq v))) :=
  congrArg Host.Outcome.next (s.action_granted h _ v _ _ hw khAttestReq_row ⟨by decide, by decide⟩ (Device.needsSession_rw _ rfl (by decide))
    (Device.lengthBad_plain _ _ _ _ (by decide) (by simp [Ty.allows, hv])) (rangeBad_plain v (.inl ⟨33, rfl⟩) (by decide))
    fun a _ _ _ _ _ => by rw [if_neg (by decide)]; exact Device.highAction_keyhole _ a v (by decide))

end

/-- Settles O53: a slot set keeps everything but its own five objects and what follows of it in Strongroom and the Ledger
(`Device.setSlot_follows`), so that each step of a key's life shows through; tamper locks are a fold over the slots (`Device.lockFold_state`). -/
theorem keysAreMadeRotatedLockedAttested : Obligations.KeysAreMadeRotatedLockedAttested := by
  unfold Obligations.KeysAreMadeRotatedLockedAttested
  refine ⟨?_, ?_, ?_, ?_, ?_, ?_, ?_, ?_, ?_, ?_, ?_, ?_, ?_, ?_, ?_⟩
  · intro s h v hv d out slot typ use good free hw hl
    have hx := s.khKeygen_written h hv hw hl
    refine ⟨fun hg => ?_, fun hg hf => ?_, fun hg hf => ?_⟩
    · rw [Device.writeKeygen_range _ (b := v) hg] at hx
      exact hx
    · rw [Device.writeKeygen_state _ (b := v) hg hf] at hx
      exact hx
    · obtain ⟨e, j, he, hr⟩ := d.writeKeygen_frame (b := v) hg hf
      rw [show (s.asWritten h K.khKeygen v).writeKeygen v = (St.ok, e) from he] at hx
      exact ⟨e, j, hx, hr⟩
  · intro s slot hs
    refine ⟨fun hn => ?_, fun j hj hk => ⟨_, exec_keygenComplete s slot, rfl, ?_⟩⟩
    · rw [exec_keygenComplete, State.on, Device.keygenComplete_none _ hn]
    · refine (and_assoc.mp ⟨⟨?_, fun hr => ?_⟩, fun hr => ?_⟩)
      · by_cases hr : j.result = 0
        · exact (Device.keygenComplete_made_frame hj hs hr).1
        · exact (Device.keygenComplete_failed_frame hj hs hr hk).1
      · exact (Device.keygenComplete_failed_frame hj hs hr hk).2
      · exact (Device.keygenComplete_made_frame hj hs hr).2
  · intro s j hj hr _ c
    exact ⟨_, exec_keygenComplete s 63, rfl, Device.keygenComplete_provisioned_frame hj hr⟩
  · intro s h slot hs v d out used hw hl
    have hx := s.khKeyDestroy_written h hs hw hl
    refine ⟨fun hu => ?_, fun hu h0 => ?_, fun hu h0 hk => ?_⟩
    · rw [Device.writeKeyDestroy_used _ (slot := slot) hu] at hx
      exact hx
    · rw [Device.writeKeyDestroy_empty _ (slot := slot) hu h0] at hx
      exact hx
    · rw [Device.writeKeyDestroy_held _ (slot := slot) hu h0] at hx
      exact ⟨_, hx, Device.writeKeyDestroy_frame _ hs hk⟩
  · intro d hk
    exact d.rotateNts_frame hk
  · intro s h d hw hl
    have hx := s.khNtsRotate_written h hw hl
    rw [Device.answerOf_writeRotate] at hx
    exact hx
  · intro s
    refine ⟨fun hn => ?_, fun h1 h2 h3 => ?_⟩
    · rw [exec_ntsRotatePeriodExpiry, State.on, Device.rotateDue, if_pos (by simpa [Device.entropyOk, or_assoc] using hn)]
    · rw [exec_ntsRotatePeriodExpiry, State.on, Device.rotateDue, if_neg (by simp [Device.entropyOk, h1, h2, h3])]
  · intro s h d hw hl
    exact ⟨_, s.khCosignEnable_written h hw hl, rfl, rfl⟩
  · intro s h d out hw hl
    have hx := s.khRollbackCommit_written h hw hl
    refine ⟨fun hle => ?_, fun hlt => ?_⟩
    · rw [Device.writeRollback_held _ hle] at hx
      exact hx
    · obtain ⟨e, he, h1⟩ := Device.writeRollback_raised d hlt
      rw [show (s.asWritten h K.khRollbackCommit [1]).writeRollback = (St.ok, e) from he] at hx
      exact ⟨e, hx, h1⟩
  · intro s pin hp d
    have hx := exec_tamperInput s pin
    refine ⟨fun hi => ?_, fun hc hb => ?_⟩
    · rw [hx, State.on, Device.tamperInput_quiet _ hp hi]
    · have hobeys := s.dev.tamperInput_obeys hp hc hb
      rw [State.on] at hx
      generalize (s.dev.tamperInput pin).wakeOnTamper s.dev = t at hx hobeys
      exact ⟨_, hx, rfl, hobeys⟩
  · intro s h d hw hl
    have hx := s.khTamperClear_written h hw hl
    obtain ⟨e, he, h1⟩ := Device.writeTamperClear_frame d
    rw [show (s.asWritten h K.khTamperClear [1]).writeTamperClear = (St.ok, e) from he] at hx
    exact ⟨e, hx, h1⟩
  · intro s h v hv d out s0 slot hw
    have hx := s.khAttestReq_written h hv hw
    refine ⟨fun h1 h2 => ?_, fun h1 h2 => ?_, fun h1 h2 h3 => ?_, fun h1 h2 h3 h4 h5 h6 => ?_⟩
    · rw [Device.writeAttestReq_range h1 h2] at hx
      exact hx
    · rw [Device.writeAttestReq_busy h1 h2] at hx
      exact hx
    · obtain ⟨e, he, hst⟩ := Device.writeAttestReq_dry (d := d) h1 h2 h3
      rw [show (s.asWritten h K.khAttestReq v).writeAttestReq v = (St.state, e) from he] at hx
      exact ⟨e, hx, hst⟩
    · obtain ⟨e, j, id, he, hr⟩ := Device.writeAttestReq_begun (d := d) h1 h2 h3 h4 h5 h6
      rw [show (s.asWritten h K.khAttestReq v).writeAttestReq v = (St.ok, e) from he] at hx
      exact ⟨e, j, id, hx, hr⟩
  · intro s
    refine ⟨fun hn => ?_, fun j body slot id hj ha => ?_⟩
    · rw [exec_attestComplete, State.on, Device.attestComplete_none hn]
    · exact ⟨_, exec_attestComplete s, rfl, Device.attestComplete_frame hj ha⟩
  · intro d0 d
    exact ⟨newReports_of_entries (d.entries_noteLoss d0), (d.noteLoss_same d0).1, (d.noteLoss_same d0).2.1⟩
  · intro d0 d c hc
    exact d.lossReport_mem d0 hc

end Sys2Proof.Machine
end

section
/-! Chapter 17: entropy and provisioning, and what settles O52 (R468 to R473). -/

namespace Sys2Proof.Machine

theorem exec_entropyHealthFailure (s : State) (kind : Nat) : exec (.entropyHealthFailure kind) s = .next (s.on (·.entropyFailed kind)) := rfl
theorem exec_entropyRetest (s : State) (pass : Bool) : exec (.entropyRetest pass) s = .next (s.on (·.entropyRetest pass)) := rfl
theorem exec_drbgReseed (s : State) : exec .drbgReseed s = .next (s.on (·.reseedDue)) := rfl

section
variable (d : Device)

/-! ## Entropy (R468, R469) -/

/-- The DRBG stopped, before it is reported. -/
def Device.entropyStopped (d : Device) : Device :=
  ((d.bump K.khEntropyFails).setNum K.khEntropyState 2).setKeyhole (fun k => { k with failedAt := some d.clock.ticks })

theorem Device.entropyFailed_eq (kind : Nat) :
    d.entropyFailed kind = d.entropyStopped.reportOnce (0x0C07 * 65536) 0x0C07 [kind, d.entropyStopped.num K.khEntropyFails] := rfl

theorem Device.entropyStopped_frame : let t := d.entropyStopped
    t.clock = d.clock ∧ t.nat K.khEntropyState = 2 ∧ t.keyhole.failedAt = some d.clock.ticks ∧ t.attic = d.attic ∧
    (d.nat K.khEntropyFails < 2 ^ 32 - 1 → t.num K.khEntropyFails = (d.nat K.khEntropyFails : Int) + 1) ∧
    ∀ k, k ≠ K.khEntropyState → k ≠ K.khEntropyFails → t.val k = d.val k := by
  have hobj : d.entropyStopped.obj = ((d.bump K.khEntropyFails).setNum K.khEntropyState 2).obj := rfl
  refine ⟨rfl, ?_, rfl, rfl, fun h => ?_, fun k h1 h2 => ?_⟩
  · rw [nat_of_obj hobj, Device.nat_setNum, if_pos rfl]
    rfl
  · rw [num_of_obj hobj, Device.num_setNum, if_neg (by decide), Device.bump, Device.bumpBy, if_pos (by omega), Device.num_setNum_self]
    rfl
  · rw [val_of_obj hobj]
    exact (Device.val_setVal_ne _ _ h1).trans (Device.val_setVal_ne _ _ h2)

theorem Device.reportOnce_first (key code : Nat) (p : List Int) (h : d.attic.lastSeen.find? (fun e => e.1 = key) = none) :
    newReports d (d.reportOnce key code p) = [(code, p)] := by
  refine newReports_of_entries ?_
  unfold Device.reportOnce
  rw [h]
  exact Device.entries_report _ _ _

theorem Device.entropyFailed_frame (kind : Nat) : let t := d.entropyFailed kind
    t.clock = d.clock ∧ t.nat K.khEntropyState = 2 ∧ t.keyhole.failedAt = some d.clock.ticks ∧
    (d.nat K.khEntropyFails < 2 ^ 32 - 1 → t.nat K.khEntropyFails = d.nat K.khEntropyFails + 1 ∧
      (d.attic.lastSeen.find? (fun e => e.1 = 0x0C07 * 65536) = none →
        newReports d t = [(0x0C07, [(kind : Int), (d.nat K.khEntropyFails : Int) + 1])])) ∧
    ∀ k, k ≠ K.khEntropyState → k ≠ K.khEntropyFails → t.val k = d.val k := by
  rw [d.entropyFailed_eq]
  obtain ⟨h1, h2, h3, h4, h5, h6⟩ := d.entropyStopped_frame
  generalize d.entropyStopped = e at *
  have hobj := e.reportOnce_obj (0x0C07 * 65536) 0x0C07 [(kind : Int), e.num K.khEntropyFails]
  refine ⟨(e.reportOnce_clock _ _ _).trans h1, (nat_of_obj hobj _).trans h2, ?_, fun hlt => ⟨?_, fun hn => ?_⟩, fun k hk hk' => (val_of_obj hobj k).trans (h6 k hk hk')⟩
  · rw [e.reportOnce_keyhole, h3]
  · rw [nat_of_obj hobj, Device.nat, h5 hlt]
    omega
  · rw [← h5 hlt, newReports_of_same (Device.entries_of_attic h4).symm]
    exact e.reportOnce_first _ _ _ (h4 ▸ hn)

theorem Device.freshNonce_frame (h : d.nat K.khEntropyState = 1) : let t := d.freshNonce
    t.clock = d.clock ∧ t.nat K.khEntropyState = 1 ∧ t.keyhole.failedAt = d.keyhole.failedAt ∧ (t.oct K.atticClearNonce).length = 16 := by
  have heq : d.freshNonce = (d.drawBytes 16).2.setOct K.atticClearNonce (d.drawBytes 16).1 := if_neg (by simp [Device.entropyOk, h])
  rw [heq]
  have hlen := d.length_drawBytes 16
  obtain ⟨n, r, hd⟩ := d.drawBytes_draws 16
  generalize (d.drawBytes 16).1 = b at *
  generalize (d.drawBytes 16).2 = e at *
  subst hd
  refine ⟨rfl, ?_, rfl, ?_⟩
  · exact (congrArg (fun v => v.int.toNat) (Device.val_setVal_ne _ (k := K.atticClearNonce) (j := K.khEntropyState) _ (by decide))).trans h
  · rw [Device.oct_setOct_self, hlen]

/-- The DRBG up again, its nonce as it was. -/
def Device.entropyUp (d : Device) : Device := (d.setNum K.khEntropyState 1).setKeyhole (fun k => { k with failedAt := none })

theorem Device.entropyRetest_none (pass : Bool) (h : d.keyhole.failedAt = none) : d.entropyRetest pass = d := by
  unfold Device.entropyRetest
  rw [h]

theorem Device.entropyRetest_some (pass : Bool) {t0 : Nat} (h : d.keyhole.failedAt = some t0) : d.entropyRetest pass =
    if !pass then (d.runTo (t0 + sTicks)).entropyFailed 3
    else if ((d.runTo (t0 + sTicks)).entropyUp.oct K.atticClearNonce).all (· = 0) then (d.runTo (t0 + sTicks)).entropyUp.freshNonce
    else (d.runTo (t0 + sTicks)).entropyUp := by
  unfold Device.entropyRetest
  rw [h]
  rfl

theorem Device.entropyUp_frame : d.entropyUp.clock = d.clock ∧ d.entropyUp.nat K.khEntropyState = 1 ∧ d.entropyUp.keyhole.failedAt = none ∧
    d.entropyUp.oct K.atticClearNonce = d.oct K.atticClearNonce := by
  have hobj : d.entropyUp.obj = (d.setNum K.khEntropyState 1).obj := rfl
  refine ⟨rfl, ?_, rfl, ?_⟩
  · rw [nat_of_obj hobj, Device.nat_setNum, if_pos rfl]
    rfl
  · exact congrArg Val.bytes ((val_of_obj hobj _).trans (d.val_setVal_ne _ (by decide)))

theorem Device.entropyRetest_frame (pass : Bool) {t0 : Nat} (h : d.keyhole.failedAt = some t0) : let t := d.entropyRetest pass
    t.clock = (d.runTo (t0 + sTicks)).clock ∧ t.nat K.khEntropyState = (if pass then 1 else 2) ∧
    t.keyhole.failedAt = (if pass then none else some t.clock.ticks) ∧
    (pass = true → ((d.oct K.atticClearNonce).all (· = 0) = false → t.oct K.atticClearNonce = d.oct K.atticClearNonce) ∧
      ((d.oct K.atticClearNonce).all (· = 0) = true → (t.oct K.atticClearNonce).length = 16)) := by
  rw [d.entropyRetest_some pass h]
  have hoct : (d.runTo (t0 + sTicks)).oct K.atticClearNonce = d.oct K.atticClearNonce := Device.runTo_oct _ _ _
  generalize d.runTo (t0 + sTicks) = e at *
  rw [← hoct]
  cases pass with
  | false =>
    obtain ⟨h1, h2, h3, -, -⟩ := e.entropyFailed_frame 3
    rw [if_pos (by decide)]
    generalize e.entropyFailed 3 = t at *
    exact ⟨h1, h2, by rw [h1]; exact h3, fun hf => absurd hf (by decide)⟩
  | true =>
    obtain ⟨h1, h2, h3, h4⟩ := e.entropyUp_frame
    rw [if_neg (by decide)]
    generalize e.entropyUp = u at *
    rw [h4]
    by_cases hz : (e.oct K.atticClearNonce).all (· = 0) = true
    · obtain ⟨f1, f2, f3, f4⟩ := u.freshNonce_frame h2
      rw [if_pos hz]
      exact ⟨f1.trans h1, f2, f3.trans h3, fun _ => ⟨fun hn => absurd hz (by rw [hn]; decide), fun _ => f4⟩⟩
    · rw [if_neg hz]
      exact ⟨h1, h2, h3, fun _ => ⟨fun _ => h4, fun hp => absurd hp hz⟩⟩

theorem Device.reseed_obeys (h : d.nat K.khReseeds < 2 ^ 32 - 1) : d.reseed.clock = d.clock ∧ d.reseed.nat K.khReseeds = d.nat K.khReseeds + 1 ∧
    d.reseed.keyhole.requests = 0 ∧ d.reseed.keyhole.reseedAt = d.reseed.clock.ticks ∧ ∀ k, k ≠ K.khReseeds → d.reseed.val k = d.val k := by
  have hobj : d.reseed.obj = (d.bump K.khReseeds).obj := rfl
  refine ⟨rfl, ?_, rfl, rfl, fun k hk => d.reseed_val hk⟩
  rw [nat_of_obj hobj]
  exact d.nat_bumpBy 4 _ 1 (by omega)

theorem Device.reseedDue_frame (he : d.nat K.khEntropyState = 1) (hr : d.nat K.khReseeds < 2 ^ 32 - 1) : let t := d.reseedDue
    t.clock = (if 2 ^ 20 ≤ d.keyhole.requests then d.clock else (d.runTo (d.keyhole.reseedAt + sTicks)).clock) ∧
    t.nat K.khReseeds = d.nat K.khReseeds + 1 ∧ t.keyhole.requests = 0 ∧ t.keyhole.reseedAt = t.clock.ticks ∧ ∀ k, k ≠ K.khReseeds → t.val k = d.val k := by
  have heq : d.reseedDue = if 2 ^ 20 ≤ d.keyhole.requests then d.reseed else (d.runTo (d.keyhole.reseedAt + sTicks)).reseed :=
    if_neg (by simp [Device.entropyOk, he])
  rw [heq]
  by_cases hq : 2 ^ 20 ≤ d.keyhole.requests
  · rw [if_pos hq, if_pos hq]
    exact d.reseed_obeys hr
  · rw [if_neg hq, if_neg hq]
    have hv (k : Nat) : (d.runTo (d.keyhole.reseedAt + sTicks)).val k = d.val k := Device.runTo_val _ _ _
    have hn : (d.runTo (d.keyhole.reseedAt + sTicks)).nat K.khReseeds = d.nat K.khReseeds := Device.runTo_nat _ _ _
    generalize d.runTo (d.keyhole.reseedAt + sTicks) = e at *
    obtain ⟨h1, h2, h3, h4, h5⟩ := e.reseed_obeys (hn ▸ hr)
    exact ⟨h1, h2.trans (by rw [hn]), h3, h4, fun k hk => (h5 k hk).trans (hv k)⟩

/-! ## Provisioning (R471) -/

/-- R471: is a provisioning refused. -/
def Device.provisionBad (d : Device) : Prop :=
  d.nat K.khLifecycle ≠ 0 ∨ d.keyhole.enrolled = true ∨ d.nat K.khEntropyState ≠ 1 ∨ 60 ≤ d.queueDepth

theorem Device.provisionBad_iff : (d.nat K.khLifecycle ≠ 0 || d.keyhole.enrolled || !d.entropyOk || !d.queueRoom 1) = true ↔ d.provisionBad := by
  rw [Bool.or_eq_true, d.queueRoom_low one_ne_zero]
  simp [Device.provisionBad, Device.entropyOk, or_assoc]

/-- The part with the PUF enrolled and both keys drawn into their slots' places. -/
def Device.enrolled (d : Device) : Device :=
  let d0 := (d.setKeyhole (fun x => { x with helper := true, enrolled := true })).reseed
  let d1 := (d0.drawScalar p384).2.reseed
  ((d1.drawBytes 64).2.setKey 63 (d0.drawScalar p384).1).setKey 60 (d1.drawBytes 64).1

theorem Device.writeProvision_bad (h : d.provisionBad) : d.writeProvision = (St.state, d) := if_pos (d.provisionBad_iff.mpr h)

theorem Device.writeProvision_made (h : ¬ d.provisionBad) : d.writeProvision =
    (St.ok, ((d.enrolled.setSlot 63 1 2 5 0 []).setSlot 60 1 4 3 0 []).queueJob { id := 0, prio := 1, op := pubOp 2, who := .keygen 63 }) :=
  if_neg (mt d.provisionBad_iff.mp h)

theorem Device.enrolled_frame (hk : d.keyhole.keys.length = 64) : let t := d.enrolled
    t.keyhole.enrolled = true ∧ t.keyhole.helper = true ∧ (t.key 60).length = 64 ∧ (t.key 63).length = 48 ∧ t.clock = d.clock ∧
    t.strong = d.strong ∧ t.attic = d.attic ∧ ∀ k, k ≠ K.khReseeds → t.val k = d.val k := by
  unfold Device.enrolled
  dsimp only
  have ha : (d.setKeyhole (fun x => { x with helper := true, enrolled := true })).obj = d.obj := rfl
  generalize hx : d.setKeyhole (fun x => { x with helper := true, enrolled := true }) = a at *
  have hlen1 := a.reseed.length_drawScalar p384
  obtain ⟨n1, r1, hb⟩ := a.reseed.drawScalar_draws p384
  generalize (a.reseed.drawScalar p384).1 = dik at *
  generalize (a.reseed.drawScalar p384).2 = b at *
  have hlen2 := b.reseed.length_drawBytes 64
  obtain ⟨n2, r2, hc⟩ := b.reseed.drawBytes_draws 64
  generalize (b.reseed.drawBytes 64).1 = nts at *
  generalize (b.reseed.drawBytes 64).2 = c at *
  have hf : c.keyhole.enrolled = true ∧ c.keyhole.helper = true ∧ c.clock = d.clock ∧ c.strong = d.strong ∧ c.attic = d.attic ∧
      c.keyhole.keys = d.keyhole.keys ∧ c.obj = b.reseed.obj ∧ b.obj = a.reseed.obj := by
    rw [hc, hb, ← hx]
    exact ⟨rfl, rfl, rfl, rfl, rfl, rfl, rfl, rfl⟩
  obtain ⟨f1, f2, f3, f4, f5, f6, f7, f8⟩ := hf
  have hkey : (c.setKey 63 dik).key 63 = dik := c.key_setKey dik (by rw [f6, hk]; decide)
  have hl : (c.setKey 63 dik).keyhole.keys.length = 64 := (c.length_setKey _ _).trans (by rw [f6, hk])
  have hkey' := ((c.setKey 63 dik).key_setKey_ne nts (show 63 ≠ 60 by decide)).trans hkey
  have hkey2 := (c.setKey 63 dik).key_setKey (k := 60) nts (by rw [hl]; decide)
  refine ⟨f1, f2, by rw [hkey2, hlen2], by rw [hkey', hlen1]; rfl, f3, f4, f5, fun k hk => ?_⟩
  show c.val k = d.val k
  rw [val_of_obj f7, b.reseed_val hk, val_of_obj f8, a.reseed_val hk, val_of_obj ha]

theorem Device.lossReports_nil {d0 : Device} (h : ∀ c < 3, d0.providerLost c = d.providerLost c) : d0.lossReports d = [] := by
  rw [Device.lossReports, List.filter_eq_nil_iff.mpr fun c hc => ?_, List.map_nil]
  rw [h c (List.mem_range.mp hc)]
  simp

/-- A slot that is ACTIVE neither before nor after its change makes no provider come or go. -/
theorem Device.slotPut_lossless {k st : Nat} (typ use id : Nat) (pub : Bytes) (h : d.nat (K.ksState k) ≠ 2) (hst : st ≠ 2) :
    d.lossReports (d.slotPut k st typ use id pub) = [] := by
  have hb := d.slotPut_beside k st typ use id pub laneBlank
  obtain ⟨hs, -, -, -, -⟩ := d.slotPut_self k st typ use id pub
  generalize d.slotPut k st typ use id pub = e at *
  have hlow {x : Nat} (hx : x < 0x514001) : e.val x = d.val x := val_of_beside hb (slotKey_low k hx)
  have hnat {x : Nat} (hx : x < 0x514001) : e.nat x = d.nat x := congrArg (fun v => v.int.toNat) (hlow hx)
  have hoct : e.oct K.srLaneState = d.oct K.srLaneState := congrArg Val.bytes (hlow (by decide))
  have hup : e.lanesUp = d.lanesUp := by
    unfold Device.lanesUp Device.inService Device.laneState
    rw [hoct]
  have hne {j x : Nat} (hj : j ≠ k) (hx : slotKey j x = true) : e.nat x = d.nat x := nat_of_beside hb (slotKey_ne (Ne.symm hj) hx)
  have hok (j sig : Nat) : e.ledgerKeyOk j sig = d.ledgerKeyOk j sig := by
    by_cases hj : j = k
    · subst hj
      simp [Device.ledgerKeyOk, hs, h, hst]
    · obtain ⟨k1, k2, k3, -, -⟩ := slotKey_key j
      exact Device.ledgerKeyOk_congr (hne hj k1) (hne hj k3) (hne hj k2) sig
  refine e.lossReports_nil fun c hc => ?_
  unfold Device.providerLost
  rw [hup, hnat (x := K.ledgerKeySlot) (by decide), hnat (x := K.ledgerSig) (by decide), hok]
  have h60 : Decidable.decide (d.nat (K.ksState 60) ≠ 2) = Decidable.decide (e.nat (K.ksState 60) ≠ 2) := by
    by_cases hk : 60 = k
    · subst hk
      rw [hs, decide_eq_true h, decide_eq_true hst]
    · rw [hne hk (slotKey_key 60).1]
  rw [h60]

theorem Device.setSlot_inert {k st : Nat} (typ use id : Nat) (pub : Bytes) (h : d.nat (K.ksState k) ≠ 2) (hst : st ≠ 2) :
    d.setSlot k st typ use id pub = d.slotPut k st typ use id pub := by
  rw [d.setSlot_of_fresh _ _ _ _ _ _ h, Device.noteLoss, d.slotPut_lossless typ use id pub h hst]
  rfl

theorem Device.writeProvision_frame (h : ¬ d.provisionBad) (hk : d.keyhole.keys.length = 64) : ∃ (e : Device) (j : Job), d.writeProvision = (St.ok, e) ∧
    e.keyhole.enrolled = true ∧ e.keyhole.helper = true ∧ e.nat (K.ksState 63) = 1 ∧ e.nat (K.ksType 63) = 2 ∧ e.nat (K.ksUse 63) = 5 ∧
    e.nat (K.ksState 60) = 1 ∧ e.nat (K.ksType 60) = 4 ∧ e.nat (K.ksUse 60) = 3 ∧ (e.key 60).length = 64 ∧ (e.key 63).length = 48 ∧
    j ∈ e.strong.jobs ∧ j.who = .keygen 63 ∧ j.op = 0x1B ∧ j.prio = 1 ∧ j.state = 1 ∧ e.clock = d.clock ∧
    (d.nat (K.ksState 60) = 0 → d.nat (K.ksState 63) = 0 → e.strong.jobs = d.strong.jobs ++ [j] ∧ newReports d e = []) := by
  obtain ⟨h1, h2, h3, h4, h5, h6, h7, h8⟩ := d.enrolled_frame hk
  refine ⟨_, ((d.enrolled.setSlot 63 1 2 5 0 []).setSlot 60 1 4 3 0 []).queued { id := 0, prio := 1, op := pubOp 2, who := .keygen 63 },
    d.writeProvision_made h, ?_⟩
  generalize hjob : ({ id := 0, prio := 1, op := pubOp 2, who := .keygen 63 } : Job) = job
  have hj : job.who = .keygen 63 ∧ job.op = 0x1B ∧ job.prio = 1 := by rw [← hjob]; exact ⟨rfl, rfl, rfl⟩
  generalize d.enrolled = a at *
  have hinert (h60 : d.nat (K.ksState 60) = 0) (h63 : d.nat (K.ksState 63) = 0) :
      ((a.setSlot 63 1 2 5 0 []).setSlot 60 1 4 3 0 []).strong = a.strong ∧ ((a.setSlot 63 1 2 5 0 []).setSlot 60 1 4 3 0 []).attic = a.attic := by
    have hn {x : Nat} (hx : x ≠ K.khReseeds) : a.nat x = d.nat x := congrArg (fun v => v.int.toNat) (h8 x hx)
    have g63 : a.nat (K.ksState 63) ≠ 2 := by rw [hn (by decide), h63]; decide
    have g60 : (a.setSlot 63 1 2 5 0 []).nat (K.ksState 60) ≠ 2 := by
      rw [a.setSlot_nat_ne 63 1 2 5 0 [] (by decide) (by decide), hn (by decide), h60]
      decide
    rw [Device.setSlot_inert _ 4 3 0 [] g60 (by decide), a.setSlot_inert 2 5 0 [] g63 (by decide)]
    exact ⟨rfl, rfl⟩
  obtain ⟨b1, b2, b3, -, -⟩ := a.setSlot_self 63 1 2 5 0 []
  obtain ⟨bkh, bc, -, -, -⟩ := a.setSlot_frame 63 1 2 5 0 []
  generalize a.setSlot 63 1 2 5 0 [] = b at *
  obtain ⟨c1, c2, c3, -, -⟩ := b.setSlot_self 60 1 4 3 0 []
  obtain ⟨ckh, cc, -, -, -⟩ := b.setSlot_frame 60 1 4 3 0 []
  obtain ⟨k1, k2, k3, -, -⟩ := slotKey_key 63
  obtain ⟨m1, m2, m3, -, -⟩ := slotKey_key 60
  have hs {x : Nat} (hx : slotKey 63 x = true) := b.setSlot_nat_ne 60 1 4 3 0 [] (laneKey_of_slot hx) (slotKey_ne (by decide) hx)
  have hs1 := (hs k1).trans b1
  have hs2 := (hs k2).trans b2
  have hs3 := (hs k3).trans b3
  clear hs
  generalize b.setSlot 60 1 4 3 0 [] = c at *
  have hn {k x : Nat} (hx : slotKey k x = true) := c.queueJob_nat job (slotKey_not_low hx (by decide)) (slotKey_not_low hx (by decide))
  obtain ⟨q1, q2, q3⟩ := c.queueJob_frame job
  have hkh : (c.queueJob job).keyhole = a.keyhole := by rw [q3, ckh, bkh]
  refine ⟨by rw [hkh, h1], by rw [hkh, h2], (hn k1).trans hs1, (hn k2).trans hs2, (hn k3).trans hs3, (hn m1).trans c1, (hn m2).trans c2,
    (hn m3).trans c3, ?_, ?_, ?_, hj.1, hj.2.1, hj.2.2, rfl, by rw [q1, cc, bc, h5], fun h60 h63 => ⟨?_, ?_⟩⟩
  · rw [Device.key, hkh]
    exact h3
  · rw [Device.key, hkh]
    exact h4
  · rw [c.queueJob_jobs]
    exact List.mem_append_right _ (List.mem_singleton.mpr rfl)
  · rw [c.queueJob_jobs, (hinert h60 h63).1, h6]
  · exact newReports_of_entries (by rw [Device.entries_of_attic (q2.trans ((hinert h60 h63).2.trans h7)), List.append_nil])

/-! ## The owner's keys (R471 to R473) -/

section
variable {d} {b : Bytes}

theorem Device.writeOwnerPub_late (h : d.nat K.khLifecycle ≠ 0) : d.writeOwnerPub b = (St.state, d) := if_pos h

theorem Device.writeOwnerPub_bad (h : d.nat K.khLifecycle = 0) (hp : p384.decode b = none) : d.writeOwnerPub b = (St.range, d) :=
  (if_neg (not_not.mpr h)).trans (if_pos (by rw [hp]; rfl))

theorem Device.writeOwnerPub_set (h : d.nat K.khLifecycle = 0) (hp : p384.decode b ≠ none) : ∃ e, d.writeOwnerPub b = (St.ok, e) ∧
    e.oct K.khOwnerPub = b ∧ e.keyhole.ownerSet = true ∧ ∀ k, k ≠ K.khOwnerPub → e.val k = d.val k := by
  refine ⟨_, (if_neg (not_not.mpr h)).trans (if_neg (by simpa [Option.isNone_iff_eq_none] using hp)), ?_, rfl, fun k hk => ?_⟩
  · exact d.oct_setOct_self _ _
  · exact d.val_setVal_ne _ hk

theorem Device.writeOwnerKey_session (h : d.nat K.khLifecycle = 1) : d.writeOwnerKey b false = (St.session, d) := if_pos (by simp [h])

section
variable {o : Bool} (ho : d.nat K.khLifecycle = 1 → o = true)
include ho

theorem Device.ownerKey_open : ¬ (d.nat K.khLifecycle = 1 && !o) = true := by
  cases o
  · simpa using ho
  · simp

theorem Device.writeOwnerKey_state (h : d.nat K.khLifecycle = 2 ∨ d.nat (K.ksState 63) ≠ 2) : d.writeOwnerKey b o = (St.state, d) :=
  (if_neg (Device.ownerKey_open ho)).trans (if_pos (by simpa using h))

section
variable (h2 : d.nat K.khLifecycle ≠ 2) (hs : d.nat (K.ksState 63) = 2)
include h2 hs

theorem Device.writeOwnerKey_range (hp : p384.decode (b.take 97) = none) : d.writeOwnerKey b o = (St.range, d) := by
  unfold Device.writeOwnerKey
  dsimp only
  rw [if_neg (Device.ownerKey_open ho), if_neg (by simp [h2, hs]), hp]

theorem Device.writeOwnerKey_some {q : Nat × Nat} (hp : p384.decode (b.take 97) = some q) : d.writeOwnerKey b o =
    match keyUnwrap (ownerKek (Point.xy (p384.mul 386 (beNat (d.key 63)) (some q))).1 (d.oct K.khDikPub)) (b.drop 97) with
    | none => (St.auth, (d.bump K.sessionAuthFails).report 0x0F02 [3, (d.bump K.sessionAuthFails).num K.sessionAuthFails])
    | some k => (St.ok, (if d.nat K.khLifecycle = 1 then (((d.takeKeyId.2.setKey 62 k).setSlot 62 2 5 4 d.keyhole.counter []).setKeyhole
        (fun x => { x with ownerKeySet := true })).report 0x0C01 [4] else ((d.takeKeyId.2.setKey 62 k).setSlot 62 2 5 4 d.keyhole.counter []).setKeyhole
        (fun x => { x with ownerKeySet := true })).writeStore) := by
  unfold Device.writeOwnerKey
  dsimp only
  rw [if_neg (Device.ownerKey_open ho), if_neg (by simp [h2, hs]), hp]
  rfl

end

end

theorem Device.ownerRefused_frame (h : d.nat K.sessionAuthFails < 2 ^ 32 - 1) (p : List Int) :
    let e := (d.bump K.sessionAuthFails).report 0x0F02 p
    e.nat K.sessionAuthFails = d.nat K.sessionAuthFails + 1 ∧ ∀ k, k ≠ K.sessionAuthFails → e.val k = d.val k :=
  ⟨d.nat_bumpBy 4 _ 1 (by omega), fun _ hk => d.val_setVal_ne _ hk⟩

/-- The owner's key in slot 62. -/
def Device.ownerKeyed (d : Device) (k : Bytes) : Device :=
  ((d.takeKeyId.2.setKey 62 k).setSlot 62 2 5 4 d.keyhole.counter []).setKeyhole (fun x => { x with ownerKeySet := true })

theorem Device.ownerKeyed_frame (k : Bytes) (hk : d.keyhole.keys.length = 64) : let t := d.ownerKeyed k
    t.key 62 = k ∧ t.nat (K.ksState 62) = 2 ∧ t.nat (K.ksType 62) = 5 ∧ t.nat (K.ksUse 62) = 4 ∧ t.nat (K.ksKeyId 62) = d.keyhole.counter ∧
    t.keyhole.ownerKeySet = true ∧ t.nat K.khKeystoreGen = d.nat K.khKeystoreGen ∧ d.Records t [] := by
  unfold Device.ownerKeyed
  have hkey : (d.takeKeyId.2.setKey 62 k).key 62 = k := d.takeKeyId.2.key_setKey k (by show 62 < d.keyhole.keys.length; rw [hk]; decide)
  have h0 : (d.takeKeyId.2.setKey 62 k).nat K.khKeystoreGen = d.nat K.khKeystoreGen ∧ d.Records (d.takeKeyId.2.setKey 62 k) [] := ⟨rfl, .of_attic rfl⟩
  obtain ⟨h1, h2⟩ := h0
  generalize d.takeKeyId.2.setKey 62 k = a at *
  obtain ⟨s1, s2, s3, s4, -⟩ := a.setSlot_self 62 2 5 4 d.keyhole.counter []
  obtain ⟨skh, -, -, -, sr⟩ := a.setSlot_frame 62 2 5 4 d.keyhole.counter []
  have sg := a.setSlot_nat_ne 62 2 5 4 d.keyhole.counter [] (x := K.khKeystoreGen) (by decide) (by decide)
  generalize a.setSlot 62 2 5 4 d.keyhole.counter [] = c at *
  have hobj : (c.setKeyhole (fun x => { x with ownerKeySet := true })).obj = c.obj := rfl
  refine ⟨?_, (nat_of_obj hobj _).trans s1, (nat_of_obj hobj _).trans s2, (nat_of_obj hobj _).trans s3, (nat_of_obj hobj _).trans s4, rfl,
    (nat_of_obj hobj _).trans (sg.trans h1), h2.trans (sr.trans (.of_attic rfl))⟩
  exact (congrArg (fun x => x.keys.getD 62 []) skh).trans hkey

theorem Device.ownerStored_frame (k : Bytes) (hk : d.keyhole.keys.length = 64) :
    let t := (if d.nat K.khLifecycle = 1 then (d.ownerKeyed k).report 0x0C01 [4] else d.ownerKeyed k).writeStore
    t.key 62 = k ∧ t.nat (K.ksState 62) = 2 ∧ t.nat (K.ksType 62) = 5 ∧ t.nat (K.ksUse 62) = 4 ∧ t.nat (K.ksKeyId 62) = d.keyhole.counter ∧
    t.keyhole.ownerKeySet = true ∧ t.nat K.khKeystoreGen = d.nat K.khKeystoreGen + 1 ∧
    (newReports d t).filter (fun r => r.1 = 0x0C01) = (if d.nat K.khLifecycle = 1 then [(0x0C01, [4])] else []) := by
  obtain ⟨h1, h2, h3, h4, h5, h6, h7, h8⟩ := d.ownerKeyed_frame k hk
  generalize d.ownerKeyed k = a at *
  have hx : ∃ x, (if d.nat K.khLifecycle = 1 then a.report 0x0C01 [4] else a) = x ∧ x.obj = a.obj ∧ x.keyhole = a.keyhole ∧
      d.Records x (if d.nat K.khLifecycle = 1 then [(0x0C01, [4])] else []) := by
    split
    · exact ⟨_, rfl, rfl, rfl, h8.trans (.of_report a [4] (by decide))⟩
    · exact ⟨_, rfl, rfl, rfl, h8⟩
  obtain ⟨x, hx, hobj, hkh, hrec⟩ := hx
  rw [hx]
  obtain ⟨-, -, -, w4, -, -⟩ := x.writeStore_frame
  have hn {y : Nat} (hy : slotKey 62 y = true) : x.writeStore.nat y = a.nat y :=
    (x.writeStore_nat (slotKey_not_low hy (by decide))).trans (nat_of_obj hobj y)
  obtain ⟨k1, k2, k3, k4, -⟩ := slotKey_key 62
  refine ⟨?_, (hn k1).trans h2, (hn k2).trans h3, (hn k3).trans h4, (hn k4).trans h5, ?_, ?_, ?_⟩
  · rw [Device.key, w4, hkh]
    exact h1
  · exact (show x.writeStore.keyhole.ownerKeySet = x.keyhole.ownerKeySet from rfl).trans (by rw [hkh, h6])
  · rw [x.writeStore_gen, nat_of_obj hobj, h7]
  · rw [hrec.writeStore.filter (by decide)]
    split <;> rfl

/-- R471: are provisioning's steps all done. -/
def Device.provisionReady (d : Device) : Prop :=
  d.nat K.khLifecycle = 0 ∧ d.keyhole.enrolled = true ∧ d.keyhole.ownerSet = true ∧ d.keyhole.ownerKeySet = true

theorem Device.provisionReady_iff : (d.nat K.khLifecycle ≠ 0 || !d.keyhole.enrolled || !d.keyhole.ownerSet || !d.keyhole.ownerKeySet) = true ↔
    ¬ d.provisionReady := by
  simp [Device.provisionReady, or_assoc, imp_iff_not_or]

theorem Device.writeProvCommit_early (h : ¬ d.provisionReady) : d.writeProvCommit = (St.state, d) := if_pos (Device.provisionReady_iff.mpr h)

theorem Device.writeProvCommit_done (h : d.provisionReady) : ∃ e, d.writeProvCommit = (St.ok, e) ∧ e.nat K.khLifecycle = 1 ∧
    e.keyhole.provisioned = true ∧ newReports d e = [(0x0C01, [1])] ∧ ∀ k, k ≠ K.khLifecycle → k ≠ K.khKeystoreGen → e.val k = d.val k := by
  refine ⟨_, if_neg (mt Device.provisionReady_iff.mp (not_not.mpr h)), ?_⟩
  generalize ((d.keyhole.copies.getD (d.nat K.khKeystoreGen % 2) none).any (fun c => c.ownerPub = d.oct K.khOwnerPub)) = held
  have h1 : (((d.setKeyhole (fun x => { x with provisioned := true })).setNum K.khLifecycle 1).report 0x0C01 [1]).obj = (d.setNum K.khLifecycle 1).obj := rfl
  have h2 : (((d.setKeyhole (fun x => { x with provisioned := true })).setNum K.khLifecycle 1).report 0x0C01 [1]).entries = d.entries ++ [(0x0C01, [1])] :=
    Device.entries_report _ _ _
  have h3 : (((d.setKeyhole (fun x => { x with provisioned := true })).setNum K.khLifecycle 1).report 0x0C01 [1]).keyhole.provisioned = true := rfl
  have hl : (d.setNum K.khLifecycle 1).nat K.khLifecycle = 1 := by rw [Device.nat_setNum, if_pos rfl]; rfl
  generalize ((d.setKeyhole (fun x => { x with provisioned := true })).setNum K.khLifecycle 1).report 0x0C01 [1] = a at *
  cases held with
  | true =>
    rw [if_pos rfl]
    exact ⟨(nat_of_obj h1 _).trans hl, h3, newReports_of_entries h2, fun k hk _ => (val_of_obj h1 k).trans (d.val_setVal_ne _ hk)⟩
  | false =>
    rw [if_neg (by decide)]
    exact ⟨(a.writeStore_nat (by decide)).trans ((nat_of_obj h1 _).trans hl), h3, newReports_of_entries h2,
      fun k hk hk' => (a.writeStore_val hk').trans ((val_of_obj h1 k).trans (d.val_setVal_ne _ hk))⟩

/-- R473: is a transfer of ownership signed by the owner whose key is (x, y). -/
def Device.xferSigned (d : Device) (b : Bytes) (x y : Nat) : Prop :=
  p384.verify x y (beNat (sha384 (ascii "LUABRY-OWNXFR-01" ++ sha384 (d.oct K.khDikPub) ++ b.take 97))) (fieldNat b 97 48) (fieldNat b 145 48) = true

section
variable {x y : Nat} (hx : p384.decode (d.oct K.khOwnerPub) = some (x, y))
include hx

theorem Device.writeOwnerXfer_eq : d.writeOwnerXfer b =
    if !p384.verify x y (beNat (sha384 (ascii "LUABRY-OWNXFR-01" ++ sha384 (d.oct K.khDikPub) ++ b.take 97))) (fieldNat b 97 48) (fieldNat b 145 48)
    then (St.auth, d) else if (p384.decode (b.take 97)).isNone then (St.range, d)
    else (St.ok, (((d.setOct K.khOwnerPub (b.take 97)).setOct K.khOwnerXfer b).report 0x0C01 [3]).writeStore) := by
  unfold Device.writeOwnerXfer
  dsimp only
  rw [hx]

theorem Device.writeOwnerXfer_unsigned (h : ¬ d.xferSigned b x y) : d.writeOwnerXfer b = (St.auth, d) := by
  rw [Device.writeOwnerXfer_eq hx]
  exact if_pos (by simpa [Device.xferSigned] using h)

theorem Device.writeOwnerXfer_range (h : d.xferSigned b x y) (hp : p384.decode (b.take 97) = none) : d.writeOwnerXfer b = (St.range, d) := by
  rw [Device.writeOwnerXfer_eq hx]
  exact (if_neg (by simpa [Device.xferSigned] using h)).trans (if_pos (by rw [hp]; rfl))

theorem Device.writeOwnerXfer_done (h : d.xferSigned b x y) (hp : p384.decode (b.take 97) ≠ none) : ∃ e, d.writeOwnerXfer b = (St.ok, e) ∧
    e.oct K.khOwnerPub = b.take 97 ∧ e.oct K.khOwnerXfer = b ∧ newReports d e = [(0x0C01, [3])] := by
  rw [Device.writeOwnerXfer_eq hx]
  refine ⟨_, (if_neg (by simpa [Device.xferSigned] using h)).trans (if_neg (by simpa [Option.isNone_iff_eq_none] using hp)), ?_, ?_, ?_⟩
  · rw [Device.writeStore_oct _ (by decide)]
    refine (congrArg Val.bytes ((d.setOct K.khOwnerPub (b.take 97)).val_setVal_ne (k := K.khOwnerXfer) (j := K.khOwnerPub) (.oct b) (by decide))).trans ?_
    exact d.oct_setOct_self _ _
  · rw [Device.writeStore_oct _ (by decide)]
    exact Device.oct_setOct_self _ _ _
  · exact newReports_of_entries (Device.entries_report _ _ _)

end

end

end

end Sys2Proof.Machine
end

section
/-! Chapter 17: what settles O52 (R468 to R473). -/

namespace Sys2Proof.Machine

theorem khProvision_row : dictFind (K.khProvision / 256) (K.khProvision % 256)
    = some ⟨0x5100, 0x5100, 0x02, 0x02, .uns 1, .wo, .num 0, .span 1 1, 0⟩ := rfl
theorem khProvCommit_row : dictFind (K.khProvCommit / 256) (K.khProvCommit % 256)
    = some ⟨0x5100, 0x5100, 0x03, 0x03, .uns 1, .wo, .num 0, .span 1 1, 0⟩ := rfl
theorem khOwnerPubSet_row : dictFind (K.khOwnerPubSet / 256) (K.khOwnerPubSet % 256)
    = some ⟨0x5100, 0x5100, 0x06, 0x06, .octets 97, .wo, .rep 97 0, .any, 0⟩ := rfl
theorem khOwnerKeySet_row : dictFind (K.khOwnerKeySet / 256) (K.khOwnerKeySet % 256)
    = some ⟨0x5100, 0x5100, 0x07, 0x07, .octets 137, .wo, .rep 137 0, .any, 0⟩ := rfl
theorem khOwnerXfer_row : dictFind (K.khOwnerXfer / 256) (K.khOwnerXfer % 256)
    = some ⟨0x5100, 0x5100, 0x08, 0x08, .octets 193, .rws, .rep 193 0, .any, 0⟩ := rfl

section
variable (s : State) (h : HapHdr)

/-- A WRITE that is heard and granted to an object that asks for a session then is answered 0x1008. -/
theorem State.session_refused {key : Nat} {v : Bytes} {row : ObjRow} (hw : s.writes h key v)
    (hrow : dictFind (key / 256) (key % 256) = some row) (hses : (s.asWritten h key v).needsSession key row true = true) (hk : key ≠ K.commitRequest) :
    s.hapWrite h key v = s.wrote h key v ((s.asWritten h key v).answer St.session) := by
  obtain ⟨hg, hf, hl⟩ := hw
  rw [State.hapWrite, State.hap_granted s h 2 (key / 256) (key % 256) v hg]
  refine congrArg (s.answered (hapReq h 2 key v)) ?_
  show (s.asWritten h key v).doWrite _ _ _ _ (reqPay (hapReq h 2 key v)) = _
  have hsplit : key / 256 * 256 + key % 256 = key := by omega
  simp [Device.doWrite, Device.accessBad, hrow, hsplit, hses, Device.refuseWrite, hk]

theorem State.khProvision_written (hw : s.writes h K.khProvision [1]) :
    exec (.khProvision h [1]) s = .next (s.wrote h K.khProvision [1] (answerOf (s.asWritten h K.khProvision [1]).writeProvision)) :=
  congrArg Host.Outcome.next (s.highCommand_written h hw khProvision_row rfl (by decide) (by decide) (by decide) rfl (by decide)
    fun a _ _ _ _ _ => Device.highAction_keyhole _ a _ (by decide))

theorem State.khProvCommit_written (hw : s.writes h K.khProvCommit [1]) :
    exec (.khProvCommit h [1]) s = .next (s.wrote h K.khProvCommit [1] (answerOf (s.asWritten h K.khProvCommit [1]).writeProvCommit)) :=
  congrArg Host.Outcome.next (s.highCommand_written h hw khProvCommit_row rfl (by decide) (by decide) (by decide) rfl (by decide)
    fun a _ _ _ _ _ => Device.highAction_keyhole _ a _ (by decide))

theorem State.khOwnerPubSet_written {v : Bytes} (hv : v.length = 97) (hw : s.writes h K.khOwnerPubSet v) :
    exec (.khOwnerPubSet h v) s = .next (s.wrote h K.khOwnerPubSet v (answerOf ((s.asWritten h K.khOwnerPubSet v).writeOwnerPub v))) :=
  congrArg Host.Outcome.next (s.highCommand_written h hw khOwnerPubSet_row rfl (by decide) (by decide) (by decide) (by simp [Ty.allows, hv])
    (rangeBad_plain v (.inl ⟨97, rfl⟩) (by decide)) fun a _ _ _ _ _ => Device.highAction_keyhole _ a _ (by decide))

theorem State.khOwnerXfer_written {v : Bytes} (hv : v.length = 193) (hw : s.writes h K.khOwnerXfer v) (hl : (s.asWritten h K.khOwnerXfer v).lock = 3) :
    exec (.khOwnerXfer h v) s = .next (s.wrote h K.khOwnerXfer v (answerOf ((s.asWritten h K.khOwnerXfer v).writeOwnerXfer v))) :=
  congrArg Host.Outcome.next (s.sessionCommand_written h hw hl khOwnerXfer_row ⟨by decide, by decide⟩ (by decide) (by decide)
    (by simp [Ty.allows, hv]) (rangeBad_plain v (.inl ⟨193, rfl⟩) (by decide)) fun a _ _ _ _ _ => Device.highAction_keyhole _ a v (by decide))

/-- R472: does KH_OWNER_KEY_SET ask for a session now. -/
theorem Device.needsSession_ownerKey (d : Device) : d.needsSession K.khOwnerKeySet ⟨0x5100, 0x5100, 0x07, 0x07, .octets 137, .wo, .rep 137 0, .any, 0⟩ true =
    (Decidable.decide (d.lock ≠ 3) && Decidable.decide (d.nat K.khLifecycle = 1)) := by
  simp [Device.needsSession]

theorem State.khOwnerKeySet_refused {v : Bytes} (hw : s.writes h K.khOwnerKeySet v) (hlife : (s.asWritten h K.khOwnerKeySet v).nat K.khLifecycle = 1)
    (hl : (s.asWritten h K.khOwnerKeySet v).lock ≠ 3) :
    exec (.khOwnerKeySet h v) s = .next (s.wrote h K.khOwnerKeySet v ((s.asWritten h K.khOwnerKeySet v).answer 0x1008)) :=
  congrArg Host.Outcome.next (s.session_refused h hw khOwnerKeySet_row
    ((Device.needsSession_ownerKey _).trans (by rw [decide_eq_true hl, decide_eq_true hlife]; rfl)) (by decide))

theorem State.khOwnerKeySet_written {v : Bytes} (hv : v.length = 137) (hw : s.writes h K.khOwnerKeySet v)
    (hs : (s.asWritten h K.khOwnerKeySet v).nat K.khLifecycle = 1 → (s.asWritten h K.khOwnerKeySet v).lock = 3) :
    exec (.khOwnerKeySet h v) s = .next (s.wrote h K.khOwnerKeySet v (answerOf ((s.asWritten h K.khOwnerKeySet v).writeOwnerKey v
      (decide ((s.asWritten h K.khOwnerKeySet v).lock = 3))))) := by
  have hses := Device.needsSession_ownerKey (s.asWritten h K.khOwnerKeySet v)
  have hno : (decide ((s.asWritten h K.khOwnerKeySet v).lock ≠ 3) && decide ((s.asWritten h K.khOwnerKeySet v).nat K.khLifecycle = 1)) = false := by
    by_cases hl : (s.asWritten h K.khOwnerKeySet v).nat K.khLifecycle = 1
    · rw [decide_eq_false (not_not.mpr (hs hl)), Bool.false_and]
    · rw [decide_eq_false hl, Bool.and_false]
  exact congrArg Host.Outcome.next (s.action_granted h _ v _ _ hw khOwnerKeySet_row ⟨by decide, by decide⟩ (hses.trans hno)
    (Device.lengthBad_plain _ _ _ _ (by decide) (by simp [Ty.allows, hv])) (rangeBad_plain v (.inl ⟨137, rfl⟩) (by decide))
    fun a _ _ _ _ _ => by rw [if_neg (by decide)]; exact Device.highAction_keyhole _ a v (by decide))

end

/-- Settles O52: each write of Keyhole's is the answer of its own function, whose cases are the clauses; a slot that is set while it is ACTIVE neither
before nor after makes no provider of Parlour come or go (`Device.setSlot_inert`), so that provisioning of empty slots reports nothing. -/
theorem entropyAndProvisioning : Obligations.EntropyAndProvisioning := by
  unfold Obligations.EntropyAndProvisioning
  refine ⟨?_, ?_, ?_, ?_, ?_, ?_, ?_, ?_⟩
  · intro s kind hlt
    obtain ⟨h1, h2, h3, h4, h5⟩ := s.dev.entropyFailed_frame kind
    exact ⟨_, exec_entropyHealthFailure s kind, rfl, h1, h2, (h4 hlt).1, h3, (h4 hlt).2, h5⟩
  · intro s pass
    refine ⟨fun hn => ?_, fun t0 ht => ⟨_, exec_entropyRetest s pass, rfl, s.dev.entropyRetest_frame pass ht⟩⟩
    rw [exec_entropyRetest, State.on, Device.entropyRetest_none _ pass hn]
  · intro s
    refine ⟨fun hn => ?_, fun he hr => ⟨_, exec_drbgReseed s, rfl, s.dev.reseedDue_frame he hr⟩⟩
    rw [exec_drbgReseed, State.on, Device.reseedDue, if_pos (by simp [Device.entropyOk, hn])]
  · intro s h d out bad hw
    have hx := s.khProvision_written h hw
    refine ⟨fun hb => ?_, fun hb hk => ?_⟩
    · rw [Device.writeProvision_bad _ hb] at hx
      exact hx
    · obtain ⟨e, j, he, hr⟩ := d.writeProvision_frame hb hk
      rw [show (s.asWritten h K.khProvision [1]).writeProvision = (St.ok, e) from he] at hx
      exact ⟨e, j, hx, hr⟩
  · intro s h v hv d out hw
    have hx := s.khOwnerPubSet_written h hv hw
    refine ⟨fun hl => ?_, fun hl hp => ?_, fun hl hp => ?_⟩
    · rw [Device.writeOwnerPub_late hl] at hx
      exact hx
    · rw [Device.writeOwnerPub_bad hl hp] at hx
      exact hx
    · obtain ⟨e, he, hr⟩ := Device.writeOwnerPub_set (d := d) hl hp
      rw [show (s.asWritten h K.khOwnerPubSet v).writeOwnerPub v = (St.ok, e) from he] at hx
      exact ⟨e, hx, hr⟩
  · intro s h v hv d out life hw
    refine ⟨fun hl hs => s.khOwnerKeySet_refused h hw hl hs, fun hs hst => ?_, fun hs h2 h63 hp => ?_, fun q hs h2 h63 hp => ?_⟩
    · have hx := s.khOwnerKeySet_written h hv hw hs
      rw [Device.writeOwnerKey_state (fun hl => decide_eq_true (hs hl)) hst] at hx
      exact hx
    · have hx := s.khOwnerKeySet_written h hv hw hs
      rw [Device.writeOwnerKey_range (fun hl => decide_eq_true (hs hl)) h2 h63 hp] at hx
      exact hx
    · have hx := s.khOwnerKeySet_written h hv hw hs
      rw [Device.writeOwnerKey_some (fun hl => decide_eq_true (hs hl)) h2 h63 hp] at hx
      intro kek
      refine ⟨fun hu hlt => ?_, fun own hu hk => ?_⟩
      · rw [hu] at hx
        exact ⟨_, hx, Device.ownerRefused_frame (d := d) hlt _⟩
      · rw [hu] at hx
        exact ⟨_, hx, Device.ownerStored_frame (d := d) own hk⟩
  · intro s h d out ready hw
    have hx := s.khProvCommit_written h hw
    refine ⟨fun hr => ?_, fun hr => ?_⟩
    · rw [Device.writeProvCommit_early hr] at hx
      exact hx
    · obtain ⟨e, he, hr⟩ := Device.writeProvCommit_done (d := d) hr
      rw [show (s.asWritten h K.khProvCommit [1]).writeProvCommit = (St.ok, e) from he] at hx
      exact ⟨e, hx, hr⟩
  · intro s h v hv d out digest hw hl x y hxy
    have hx := s.khOwnerXfer_written h hv hw hl
    refine ⟨fun hs => ?_, fun hs hp => ?_, fun hs hp => ?_⟩
    · rw [Device.writeOwnerXfer_unsigned hxy hs] at hx
      exact hx
    · rw [Device.writeOwnerXfer_range hxy hs hp] at hx
      exact hx
    · obtain ⟨e, he, hr⟩ := Device.writeOwnerXfer_done (d := d) hxy hs hp
      rw [show (s.asWritten h K.khOwnerXfer v).writeOwnerXfer v = (St.ok, e) from he] at hx
      exact ⟨e, hx, hr⟩

end Sys2Proof.Machine
end

section
/-! Chapter 15: what refutes O50 (R433): a tick that has passed is no tick to run to, but a mark that MT has reached is dated all the same. -/

namespace Sys2Proof.Machine

/-- A batch in VERIFYING whose booked time ended at tick 0. -/
def overdueBatch : Batch :=
  { id := 1, state := 3, open16 := 0, opened := 0, ends := 0, hash := 1, sig := 1, keySlot := 0, keyId := 0, maxLeaves := 1, delay := 0, rootPort := 255,
    rootDest := [], lanes := some (0, 1) }

/-- A part at tick 10 that verifies that batch, with a mark at an instant that MT has reached and that no tick has dated yet. -/
def overduePart : Device :=
  { clock := { ticks := 10, mtRun := true, marks := [(0, none)] }, ledger := { batches := [overdueBatch] } }

/-- Where the deadline has passed, the batch fails on the part as time to no later tick leaves it. -/
theorem Device.verifyComplete_late (d : Device) {b : Batch} {x y : Nat} (wait : Nat) (sound third : Bool) (h : d.sealing = some b) (hs : b.state = 3)
    (hl : b.lanes = some (x, y)) (hd : b.jobDeadline < (d.runTo (min (d.clock.ticks + wait) b.jobDeadline)).clock.ticks) :
    d.verifyComplete wait sound third = (d.runTo (min (d.clock.ticks + wait) b.jobDeadline)).failBatch b 3 := by
  unfold Device.verifyComplete
  rw [h]
  dsimp only
  rw [hs, hl]
  exact if_pos hd

theorem overdue_dated : (overduePart.runTo (min (overduePart.clock.ticks + 0) overdueBatch.jobDeadline)).clock.marks = [(0, some (10, 0))] := by
  decide +kernel

/-- Refutes O50: VERIFY_COMPLETE past the deadline of a batch fails it, but first lets time run to a tick that has passed; no tick goes by, yet the mark
that MT has reached takes this tick, so that the part is not the one that failed at once. -/
theorem not_ledgerBatchesFollowTheirStates : ¬ Obligations.LedgerBatchesFollowTheirStates := by
  intro h
  obtain ⟨_, _, _, _, hverify, _, _⟩ := h
  obtain ⟨hlate, _, _⟩ := (hverify ⟨[], overduePart⟩ 0 true true).2 overdueBatch 0 1 (by decide +kernel) rfl rfl
  have hexec := hlate (by decide +kernel)
  have hmodel : exec (.verifyComplete 0 true true) ⟨[], overduePart⟩ = .next (State.on ⟨[], overduePart⟩ (·.verifyComplete 0 true true)) := rfl
  rw [hmodel, State.on, overduePart.verifyComplete_late (b := overdueBatch) 0 true true (by decide +kernel) rfl rfl (by decide +kernel)] at hexec
  have hmarks := congrArg (fun t : State => t.dev.clock.marks) (Host.Outcome.next.inj hexec)
  have hfail (d : Device) : (d.failBatch overdueBatch 3).clock.marks = d.clock.marks := by rw [(d.follows_failBatch overdueBatch 3).clock]
  simp only [hfail] at hmarks
  rw [overdue_dated] at hmarks
  exact absurd hmarks (by decide)

end Sys2Proof.Machine
end

section
/-! Chapter 19: the forming of records and their way to flash (R502 to R512). -/

namespace Sys2Proof.Machine

theorem exec_recordForm (s : State) : exec .recordForm s = .next (s.on (·.formRecord)) := rfl
theorem exec_flashRecordWrite (s : State) (outcome : Nat) : exec (.flashRecordWrite outcome) s = .next (s.on (·.flashWrite outcome)) := rfl
theorem exec_atticClearComplete (s : State) : exec .atticClearComplete s = .next (s.on (·.clearComplete)) := rfl

section
variable (d : Device)

/-! ## The notice of a record (R498) -/

/-- What a notice to the owner may touch: live values, reports, and Doorbell's channels. -/
def noticeBlank : Blank :=
  { clear := fun d => { d with obj := [], lost := [], attic := { d.attic with reports := [], lastSeen := [] }, study := { d.study with mail := [] } },
    clear_setVal := fun _ _ _ => rfl }

/-- The objects that a notice may touch. -/
def noticeKey (k : Nat) : Bool := k ∈ [K.mbLevelIn 8, K.mbLevelOut 8, K.dbIrqPend, K.mbRefused 8, K.dbNoticeDrop]

theorem Device.reportOnce_beside (key code : Nat) (p : List Int) (C : Nat → Bool) :
    (d.reportOnce key code p).beside noticeBlank C = d.beside noticeBlank C := by
  refine beside_of_clear ?_ (val_of_obj (d.reportOnce_obj key code p))
  unfold Device.reportOnce
  dsimp only
  split
  · split
    · rfl
    · rfl
  · rfl

theorem Device.setMail_beside (f : Mailbox → Mailbox) : (d.setMail 8 f).beside noticeBlank noticeKey = d.beside noticeBlank noticeKey := by
  have hmail : (d.setMailbox 8 f).beside noticeBlank noticeKey = d.beside noticeBlank noticeKey := beside_of_clear rfl fun _ => rfl
  exact (Device.beside_setNum _ _ (by decide)).trans <| (Device.beside_setNums _ _ (by
    intro x hx
    obtain rfl | rfl := List.mem_pair.mp hx
    · exact show noticeKey (K.mbLevelIn 8) = true by decide
    · exact show noticeKey (K.mbLevelOut 8) = true by decide)).trans hmail

theorem Device.sendOwner_beside (kind : Nat) (pay : Bytes) :
    (d.sendOwner 8 kind pay).2.beside noticeBlank noticeKey = d.beside noticeBlank noticeKey := by
  by_cases hf : 8 ≤ (d.mail 8).toOwner.length
  · rw [d.sendOwner_full hf]
    exact (Device.reportOnce_beside _ _ _ _ _).trans (d.beside_bump (by decide))
  · rw [d.sendOwner_room (Nat.not_le.1 hf)]
    exact d.setMail_beside _

theorem Device.notice_beside (code seq : Nat) : (d.notice code seq).beside noticeBlank noticeKey = d.beside noticeBlank noticeKey := by
  have hs := d.sendOwner_beside 0x90 (toBE 2 code ++ toBE 4 seq)
  unfold Device.notice
  split
  · rfl
  · generalize d.sendOwner 8 0x90 (toBE 2 code ++ toBE 4 seq) = x at *
    obtain ⟨ok, e⟩ := x
    cases ok
    · exact (Device.beside_bump e (by decide)).trans hs
    · exact hs

/-- What a notice leaves as it is. -/
theorem Device.notice_frame (code seq : Nat) : let t := d.notice code seq
    t.clock = d.clock ∧ t.attic.next = d.attic.next ∧ t.attic.prevCrc = d.attic.prevCrc ∧ t.attic.pending = d.attic.pending ∧
      t.attic.retention = d.attic.retention ∧ t.attic.flash = d.attic.flash ∧ t.nat K.atticPending = d.nat K.atticPending ∧ t.nat K.atticHead = d.nat K.atticHead := by
  have h := d.notice_beside code seq
  exact ⟨congrArg (fun x => x.1.clock) h, congrArg (fun x => x.1.attic.next) h, congrArg (fun x => x.1.attic.prevCrc) h, congrArg (fun x => x.1.attic.pending) h,
    congrArg (fun x => x.1.attic.retention) h, congrArg (fun x => x.1.attic.flash) h, nat_of_beside h (by decide), nat_of_beside h (by decide)⟩

/-! ## The record of a report (R502) -/

/-- The 60 bytes of a record before its CRC. -/
def Device.recordHead (d : Device) (r : Report) (seq : Nat) : Bytes :=
  toBE 4 seq ++ toBE 2 r.code ++ ofNats [(if r.mtRun then 0 else 5) + (if d.asleep then 2 else 0), r.source] ++ time96Bytes r.time.toNat
    ++ toBE 4 (d.nat K.cellarOpMinutes) ++ toBE 4 (d.nat K.cellarPowerCycles) ++ toBE 4 (ofSigned 4 (r.p.getD 0 0)) ++ toBE 4 (ofSigned 4 (r.p.getD 1 0))
    ++ toBE 4 (ofSigned 4 (r.p.getD 2 0)) ++ toBE 4 (ofSigned 4 (r.p.getD 3 0)) ++ ofNats [r.tstate + 8 * d.nat K.fbState, 0, 0, 0]
    ++ toBE 4 d.attic.prevCrc ++ List.replicate 8 0

theorem Device.makeRecord_eq (r : Report) (seq : Nat) : d.makeRecord r seq = d.recordHead r seq ++ toBE 4 (crc32c (d.recordHead r seq)) := rfl

theorem Device.length_recordHead (r : Report) (seq : Nat) : (d.recordHead r seq).length = 60 := by
  simp [Device.recordHead, length_time96Bytes]

/-- A field of a text of two parts, within the second. -/
theorem field_skip {a : Bytes} {n : Nat} (ha : a.length = n) (b : Bytes) {off len : Nat} (h : n ≤ off) : field (a ++ b) off len = field b (off - n) len := by
  rw [← field_of_behind ha b, Nat.add_sub_cancel' h]

/-- Table 19-1: the fields of a record that the report gives. -/
theorem Device.recordHead_fields (r : Report) (seq : Nat) : let h := d.recordHead r seq
    field h 0 4 = toBE 4 seq ∧ field h 4 2 = toBE 2 r.code ∧ field h 7 1 = [byte r.source] ∧ field h 8 12 = time96Bytes r.time.toNat ∧
      field h 28 4 = toBE 4 (ofSigned 4 (r.p.getD 0 0)) ∧ field h 48 4 = toBE 4 d.attic.prevCrc := by
  have l4 (v : Nat) : (toBE 4 v).length = 4 := length_toBE 4 v
  have l2 (v : Nat) : (toBE 2 v).length = 2 := length_toBE 2 v
  have l12 (v : Nat) : (time96Bytes v).length = 12 := length_time96Bytes v
  have lo (x y : Nat) : (ofNats [x, y]).length = 2 := rfl
  have lo4 (x : Nat) : (ofNats [x, 0, 0, 0]).length = 4 := rfl
  simp only [Device.recordHead, List.append_assoc]
  refine ⟨field_of_front (l4 _) _, ?_, ?_, ?_, ?_, ?_⟩
  · rw [field_skip (l4 _) _ (by decide)]
    exact field_of_front (l2 _) _
  · rw [field_skip (l4 _) _ (by decide), field_skip (l2 _) _ (by decide)]
    rfl
  · rw [field_skip (l4 _) _ (by decide), field_skip (l2 _) _ (by decide), field_skip (lo _ _) _ (by decide)]
    exact field_of_front (l12 _) _
  · rw [field_skip (l4 _) _ (by decide), field_skip (l2 _) _ (by decide), field_skip (lo _ _) _ (by decide), field_skip (l12 _) _ (by decide),
      field_skip (l4 _) _ (by decide), field_skip (l4 _) _ (by decide)]
    exact field_of_front (l4 _) _
  · rw [field_skip (l4 _) _ (by decide), field_skip (l2 _) _ (by decide), field_skip (lo _ _) _ (by decide), field_skip (l12 _) _ (by decide),
      field_skip (l4 _) _ (by decide), field_skip (l4 _) _ (by decide), field_skip (l4 _) _ (by decide), field_skip (l4 _) _ (by decide),
      field_skip (l4 _) _ (by decide), field_skip (l4 _) _ (by decide), field_skip (lo4 _) _ (by decide)]
    exact field_of_front (l4 _) _

theorem Device.makeRecord_crc (r : Report) (seq : Nat) : fieldNat (d.makeRecord r seq) 60 4 = crc32c (d.recordHead r seq) % 2 ^ 32 := by
  rw [fieldNat, d.makeRecord_eq, field_skip (d.length_recordHead r seq) _ (Nat.le_refl _), Nat.sub_self]
  have hall : field (toBE 4 (crc32c (d.recordHead r seq))) 0 4 = _ := List.append_nil (toBE 4 _) ▸ field_of_front (length_toBE 4 _) []
  exact (congrArg beNat hall).trans (beNat_toBE 4 _)

end

end Sys2Proof.Machine
end

section
/-! Chapter 19: what records, the flash writer and the clear obey (R504 to R518). -/

namespace Sys2Proof.Machine

section
variable (d : Device)

/-! ## RECORD_FORM (R504 to R508) -/

/-- What the Attic shows beside its other objects. -/
def atticShown (k : Nat) : Bool := k ∈ [K.atticHead, K.atticTail, K.atticPending, K.cellarRetUsed]

theorem Device.atticFollow_frame : let t := d.atticFollow
    t.clock = d.clock ∧ t.attic = d.attic ∧ t.nat K.atticPending = d.attic.pending.length ∧ t.nat K.atticHead = d.attic.next - 1 ∧
      ∀ k, atticShown k = false → t.val k = d.val k := by
  have hmem {k : Nat} {v : Int} (h : (k, v) ∈ [(K.atticHead, ((d.attic.next - 1 : Nat) : Int)), (K.atticTail, (d.oldestSeq : Int)),
      (K.atticPending, (d.attic.pending.length : Int)),
      (K.cellarRetUsed, ((d.attic.retention.filter (fun r => d.attic.flashed ≤ recSeq r)).length : Int))]) : d.atticFollow.num k = v :=
    Device.num_setNums_of_mem _ (by simp only [List.map_cons, List.map_nil]; decide) h
  refine ⟨rfl, Device.setNums_attic _ _, ?_, ?_, fun k hk => Device.setNums_val_ne _ _ fun x hx => ?_⟩
  · exact congrArg Int.toNat (hmem (k := K.atticPending) (v := d.attic.pending.length) (by simp))
  · exact congrArg Int.toNat (hmem (k := K.atticHead) (v := (d.attic.next - 1 : Nat)) (by simp))
  · rintro rfl
    have hshown : ∀ k ∈ [K.atticHead, K.atticTail, K.atticPending, K.cellarRetUsed], atticShown k = true := by decide
    exact Bool.false_ne_true (hk.symm.trans (hshown x.1 (List.mem_map_of_mem (f := Prod.fst) hx)))

/-- The part once the report that is formed next has left the queue. -/
def Device.reportTaken (d : Device) (r : Report) : Device := d.setAttic (fun a => { a with reports := a.reports.erase r })

theorem Device.formRecord_idle (h : d.attic.reports = []) : d.formRecord = d := by
  unfold Device.formRecord Attic.nextReport
  rw [h]

section
variable {r : Report} (hr : d.attic.nextReport = some r)
include hr

theorem Device.formRecord_spent (hn : 0xFFFFFFFE < d.attic.next) : d.formRecord = (d.reportTaken r).bump K.atticLost := by
  unfold Device.formRecord
  rw [hr]
  exact if_pos hn

variable (hn : d.attic.next ≤ 0xFFFFFFFE) (ha : d.asleep = false) (hf : d.nat K.atticFlashState ≠ 2)
include hn ha hf

theorem Device.formRecord_awake : d.formRecord =
    if 1024 ≤ d.attic.pending.length then ((d.reportTaken r).bump K.atticLost).setAttic (fun a => { a with full := a.full + 1 })
    else
      let x := ((d.reportTaken r).holdRecord ((d.reportTaken r).makeRecord r d.attic.next)).atticFollow
      (if r.code = 0x0A24 then { x with ledger := { x.ledger with high := d.attic.next } } else x).notice r.code d.attic.next := by
  have hasleep : (d.reportTaken r).asleep = false := ha
  have hstate : (d.reportTaken r).nat K.atticFlashState = d.nat K.atticFlashState := rfl
  unfold Device.formRecord
  rw [hr]
  refine (if_neg (Nat.not_lt.2 hn)).trans ?_
  change (if (d.reportTaken r).asleep && _ && _ then _ else if !(d.reportTaken r).asleep && !Decidable.decide ((d.reportTaken r).nat K.atticFlashState = 2) &&
    Decidable.decide (1024 ≤ d.attic.pending.length) then _ else _) = _
  rw [hasleep, hstate]
  simp only [Bool.false_and, Bool.false_eq_true, if_false, Bool.not_false, Bool.true_and, hf, decide_false, decide_eq_true_eq]
  rfl

/-- R505: the record of a report is held in retention and in the queue that waits for flash. -/
theorem Device.formRecord_held (hp : d.attic.pending.length < 1024) : let t := d.formRecord
    let b := (d.reportTaken r).makeRecord r d.attic.next
    t.clock = d.clock ∧ t.attic.pending = d.attic.pending ++ [b] ∧ t.attic.retention = (d.attic.retention ++ [b]).drop (d.attic.retention.length + 1 - 64) ∧
      t.attic.next = d.attic.next + 1 ∧ t.attic.prevCrc = fieldNat b 60 4 ∧ t.attic.flash = d.attic.flash ∧
      t.nat K.atticPending = d.attic.pending.length + 1 ∧ t.nat K.atticHead = d.attic.next := by
  have hx := d.formRecord_awake hr hn ha hf
  rw [if_neg (Nat.not_le.2 hp)] at hx
  have hstate : (d.reportTaken r).nat K.atticFlashState ≠ 2 := hf
  generalize hb : (d.reportTaken r).makeRecord r d.attic.next = b at hx
  obtain ⟨y, hy⟩ : ∃ y, (d.reportTaken r).holdRecord b = y := ⟨_, rfl⟩
  have hq : y.attic.pending = d.attic.pending ++ [b] := by
    subst hy
    refine if_neg ?_
    rw [Bool.or_eq_true, show (d.reportTaken r).asleep = false from ha, decide_eq_true_eq]
    exact not_or.2 ⟨Bool.false_ne_true, hstate⟩
  have hnext : y.attic.next = d.attic.next + 1 := hy ▸ rfl
  have hret : y.attic.retention = (d.attic.retention ++ [b]).drop (d.attic.retention.length + 1 - 64) := hy ▸ rfl
  have hcrc : y.attic.prevCrc = fieldNat b 60 4 := hy ▸ rfl
  have hflash : y.attic.flash = d.attic.flash := hy ▸ rfl
  have hclock : y.clock = d.clock := hy ▸ rfl
  obtain ⟨gclock, gattic, gpending, ghead, -⟩ := y.atticFollow_frame
  dsimp only at hx
  rw [hy] at hx
  obtain ⟨z, hz⟩ : ∃ z, (if r.code = 0x0A24 then { y.atticFollow with ledger := { y.atticFollow.ledger with high := d.attic.next } } else y.atticFollow) = z := ⟨_, rfl⟩
  have hzc : z.clock = y.atticFollow.clock ∧ z.attic = y.atticFollow.attic ∧ z.obj = y.atticFollow.obj := by
    subst hz
    split
    · exact ⟨rfl, rfl, rfl⟩
    · exact ⟨rfl, rfl, rfl⟩
  obtain ⟨zclock, zattic, zobj⟩ := hzc
  rw [hz] at hx
  obtain ⟨nclock, nnext, ncrc, npend, nret, nflash, nlen, nhead⟩ := z.notice_frame r.code d.attic.next
  rw [gattic] at zattic
  rw [zattic] at nnext ncrc npend nret nflash
  simp only [hx]
  refine ⟨nclock.trans (zclock.trans (gclock.trans hclock)), npend.trans hq, nret.trans hret, nnext.trans hnext, ncrc.trans hcrc, nflash.trans hflash, ?_, ?_⟩
  · rw [nlen, nat_of_obj zobj, gpending, hq, List.length_append, List.length_singleton]
  · rw [nhead, nat_of_obj zobj, ghead, hnext, Nat.add_sub_cancel]

end

/-! ## FLASH_RECORD_WRITE (R507, R510 to R512) -/

/-- What accounting for a full queue reports. -/
def fullReport (full pending : Nat) : List (Nat × List Int) := if full = 0 ∨ 1024 ≤ pending then [] else [(0x0E02, [1, (full : Int)])]

theorem Device.noteFull_frame : let t := d.noteFull
    t.clock = d.clock ∧ t.obj = d.obj ∧ t.entries = d.entries ++ fullReport d.attic.full d.attic.pending.length ∧
      t.attic.flash = d.attic.flash ∧ t.attic.pending = d.attic.pending ∧ t.attic.flashed = d.attic.flashed ∧ t.attic.pos = d.attic.pos ∧
      t.attic.retention = d.attic.retention ∧ t.attic.next = d.attic.next ∧ t.attic.clearing = d.attic.clearing := by
  by_cases h : d.attic.full = 0 ∨ 1024 ≤ d.attic.pending.length
  · have heq : d.noteFull = d := if_pos (by simpa using h)
    rw [heq, fullReport, if_pos h, List.append_nil]
    exact ⟨rfl, rfl, rfl, rfl, rfl, rfl, rfl, rfl, rfl, rfl⟩
  · have heq : d.noteFull = (d.report 0x0E02 [1, d.attic.full]).setAttic (fun a => { a with full := 0 }) := if_neg (by simpa using h)
    rw [heq, fullReport, if_neg h]
    exact ⟨rfl, rfl, d.entries_report _ _, rfl, rfl, rfl, rfl, rfl, rfl, rfl⟩

theorem Device.atticFollow_entries : d.atticFollow.entries = d.entries := Device.entries_of_attic d.atticFollow_frame.2.1

theorem Device.flashWrite_idle (outcome : Nat)
    (h : d.attic.pending = [] ∨ d.coreRuns 3 = false ∨ d.asleep = true ∨ d.nat K.atticFlashState = 2) : d.flashWrite outcome = d := by
  unfold Device.flashWrite
  split
  · rfl
  next r rest hp =>
    refine if_pos ?_
    obtain h | h | h | h := h
    · rw [hp] at h
      exact absurd h (List.cons_ne_nil r rest)
    · simp [h]
    · simp [h]
    · simp [h]

/-- The part as the writer finds it, the sector after the one it begins erased. -/
def Device.erased (d : Device) : Device := if d.attic.pos % 64 = 0 then d.eraseAfter (d.attic.pos / 64) else d

/-- The records in flash that the erase leaves. -/
def Attic.leftFlash (a : Attic) : List (Nat × Bytes) :=
  if a.pos % 64 = 0 then a.flash.filter (fun x => !(ringSpan (a.pos / 64) (a.goodAfter (a.pos / 64))).contains (x.1 / 64)) else a.flash

theorem Device.erased_frame : d.erased.obj = d.obj ∧ d.erased.clock = d.clock ∧ d.erased.attic = { d.attic with flash := d.attic.leftFlash } := by
  unfold Device.erased Attic.leftFlash
  split
  · exact ⟨rfl, rfl, rfl⟩
  · exact ⟨rfl, rfl, rfl⟩

theorem Device.setFlashState_same {st : Nat} (h : d.nat K.atticFlashState = st) : d.setFlashState st = d := if_pos h

section
variable {r : Bytes} {rest : List Bytes} (hp : d.attic.pending = r :: rest) (hr : d.coreRuns 3 = true) (ha : d.asleep = false)
  (hf : d.nat K.atticFlashState ≠ 2)
include hp hr ha hf

theorem Device.flashWrite_runs (outcome : Nat) : d.flashWrite outcome =
    if outcome = 3 then d.setFlashState 2 else
      let s := d.attic.pos / 64
      let begins := d.attic.pos % 64 = 0
      let d1 := if begins && outcome = 1 then d.badSector (d.attic.goodAfter s) 1 else d
      let d2 := if begins then d1.eraseAfter s else d1
      if d2.nat K.atticFlashState = 2 then d2
      else if outcome = 2 then ((d2.badSector s 2).setAttic (fun a => { a with pos := a.goodAfter s * 64 })).atticFollow
      else (d2.setAttic (fun a => { a with
          flash := a.flash ++ [(a.pos, r)], pending := rest, flashed := recSeq r + 1
          pos := if a.pos % 64 = 63 then a.goodAfter s * 64 else a.pos + 1 })).noteFull.atticFollow := by
  unfold Device.flashWrite
  rw [hp]
  exact if_neg (by simp [hr, ha, hf])

/-- Where no erase fails, the writer goes on from the erased sector. -/
theorem Device.flashWrite_sound {outcome : Nat} (h1 : outcome ≠ 1) (h3 : outcome ≠ 3) : d.flashWrite outcome =
    if outcome = 2 then ((d.erased.badSector (d.attic.pos / 64) 2).setAttic (fun a => { a with pos := a.goodAfter (d.attic.pos / 64) * 64 })).atticFollow
    else (d.erased.setAttic (fun a => { a with
        flash := a.flash ++ [(a.pos, r)], pending := rest, flashed := recSeq r + 1
        pos := if a.pos % 64 = 63 then a.goodAfter (d.attic.pos / 64) * 64 else a.pos + 1 })).noteFull.atticFollow := by
  rw [d.flashWrite_runs hp hr ha hf, if_neg h3]
  have hd1 : (if (Decidable.decide (d.attic.pos % 64 = 0) && Decidable.decide (outcome = 1)) = true then d.badSector (d.attic.goodAfter (d.attic.pos / 64)) 1 else d) = d :=
    if_neg (by simp [h1])
  dsimp only
  rw [hd1]
  have hstate : d.erased.nat K.atticFlashState ≠ 2 := nat_of_obj d.erased_frame.1 K.atticFlashState ▸ hf
  exact if_neg hstate

theorem Device.flashWrite_verified : let t := d.flashWrite 0
    let a := d.attic
    t.clock = d.clock ∧ t.attic.flash = a.leftFlash ++ [(a.pos, r)] ∧ t.attic.pending = rest ∧ t.attic.flashed = recSeq r + 1 ∧
      t.attic.pos = (if a.pos % 64 = 63 then a.goodAfter (a.pos / 64) * 64 else a.pos + 1) ∧ t.nat K.atticPending = rest.length ∧
      t.entries = d.entries ++ fullReport a.full rest.length := by
  have hx := d.flashWrite_sound hp hr ha hf (outcome := 0) (by decide) (by decide)
  rw [if_neg (by decide)] at hx
  obtain ⟨-, eclock, eattic⟩ := d.erased_frame
  obtain ⟨y, hy⟩ : ∃ y, d.erased.setAttic (fun a => { a with
        flash := a.flash ++ [(a.pos, r)], pending := rest, flashed := recSeq r + 1
        pos := (if a.pos % 64 = 63 then a.goodAfter (d.attic.pos / 64) * 64 else a.pos + 1) }) = y := ⟨_, rfl⟩
  rw [hy] at hx
  have hya : y.attic = { d.erased.attic with flash := d.erased.attic.flash ++ [(d.erased.attic.pos, r)], pending := rest, flashed := recSeq r + 1
                                             pos := if d.erased.attic.pos % 64 = 63 then d.erased.attic.goodAfter (d.attic.pos / 64) * 64
                                                else d.erased.attic.pos + 1 } := hy ▸ rfl
  have hyc : y.clock = d.clock := hy ▸ eclock
  obtain ⟨nclock, -, nentries, nflash, npend, nflashed, npos, -⟩ := y.noteFull_frame
  obtain ⟨gclock, gattic, gpending, -⟩ := y.noteFull.atticFollow_frame
  have hpos : d.erased.attic.pos = d.attic.pos := by rw [eattic]
  have hgood : d.erased.attic.goodAfter (d.attic.pos / 64) = d.attic.goodAfter (d.attic.pos / 64) := by rw [eattic]; rfl
  have hent : y.entries = d.entries := by
    rw [Device.entries, hya, eattic]
    rfl
  have hfull : y.attic.full = d.attic.full := by rw [hya, eattic]
  simp only [hx, gattic]
  refine ⟨gclock.trans (nclock.trans hyc), ?_, ?_, ?_, ?_, ?_, ?_⟩
  · rw [nflash, hya, hpos, eattic]
  · rw [npend, hya]
  · rw [nflashed, hya]
  · rw [npos, hya, hpos, hgood]
  · rw [gpending, npend, hya]
  · rw [Device.atticFollow_entries, nentries, hent, hfull, hya]

theorem Device.flashWrite_differs (hs : d.nat K.atticFlashState = 1) (hb : d.attic.bad.length < 128) : let t := d.flashWrite 2
    let s := d.attic.pos / 64
    t.clock = d.clock ∧ t.attic.bad = s :: d.attic.bad ∧ t.attic.pending = r :: rest ∧ t.nat K.atticBadSectors = d.attic.bad.length + 1 ∧
      t.attic.flash = d.attic.leftFlash ∧ t.entries = d.entries ++ [(0x0E03, [((s : Nat) : Int), 2, (d.attic.bad.length : Int) + 1])] := by
  have hx := d.flashWrite_sound hp hr ha hf (outcome := 2) (by decide) (by decide)
  rw [if_pos rfl] at hx
  obtain ⟨eobj, eclock, eattic⟩ := d.erased_frame
  have hstate := nat_of_obj eobj K.atticFlashState
  generalize d.erased = e at *
  obtain ⟨y, hy⟩ : ∃ y, (((e.setAttic (fun a => { a with bad := d.attic.pos / 64 :: a.bad })).setNum K.atticBadSectors
    ((d.attic.bad.length + 1 : Nat) : Int)).report 0x0E03 [((d.attic.pos / 64 : Nat) : Int), 2, ((d.attic.bad.length + 1 : Nat) : Int)]) = y := ⟨_, rfl⟩
  have hlen : (e.setAttic (fun a => { a with bad := d.attic.pos / 64 :: a.bad })).attic.bad.length = d.attic.bad.length + 1 := by
    show (d.attic.pos / 64 :: e.attic.bad).length = _
    rw [eattic]
    rfl
  have hbad : e.badSector (d.attic.pos / 64) 2 = y := by
    have hone : (if 128 < d.attic.bad.length + 1 then 2 else 1) = 1 := if_neg (by omega)
    unfold Device.badSector
    dsimp only
    rw [hlen, hone, ← hy]
    refine Device.setFlashState_same _ ?_
    refine Eq.trans (b := e.nat K.atticFlashState) ?_ (hstate.trans hs)
    exact congrArg (fun v => v.int.toNat) (Device.val_setVal_ne (e.setAttic _) (k := K.atticBadSectors) (j := K.atticFlashState)
      (.num ((d.attic.bad.length + 1 : Nat) : Int)) (by decide))
  rw [hbad] at hx
  have hattic : y.attic.bad = d.attic.pos / 64 :: d.attic.bad ∧ y.attic.pending = r :: rest ∧ y.attic.flash = d.attic.leftFlash := by
    subst hy
    show d.attic.pos / 64 :: e.attic.bad = _ ∧ e.attic.pending = _ ∧ e.attic.flash = _
    rw [eattic]
    exact ⟨rfl, hp, rfl⟩
  have hent : y.entries = d.entries ++ [(0x0E03, [((d.attic.pos / 64 : Nat) : Int), 2, (d.attic.bad.length : Int) + 1])] := by
    subst hy
    rw [Device.entries_report]
    refine congrArg (· ++ _) ?_
    show List.map _ e.attic.reports = _
    rw [eattic]
    rfl
  have hnum : y.nat K.atticBadSectors = d.attic.bad.length + 1 := by
    subst hy
    exact congrArg Int.toNat (Device.num_setNum_self (Device.setAttic e _) K.atticBadSectors ((d.attic.bad.length + 1 : Nat) : Int))
  have hclock : y.clock = d.clock := hy ▸ eclock
  obtain ⟨z, hz⟩ : ∃ z, y.setAttic (fun a => { a with pos := a.goodAfter (d.attic.pos / 64) * 64 }) = z := ⟨_, rfl⟩
  rw [hz] at hx
  obtain ⟨gclock, gattic, -, -, gval⟩ := z.atticFollow_frame
  have hza : z.attic.bad = y.attic.bad ∧ z.attic.pending = y.attic.pending ∧ z.attic.flash = y.attic.flash ∧ z.clock = y.clock ∧ z.obj = y.obj ∧
      z.entries = y.entries := hz ▸ ⟨rfl, rfl, rfl, rfl, rfl, rfl⟩
  obtain ⟨z1, z2, z3, z4, z5, z6⟩ := hza
  simp only [hx, gattic, z1, z2, z3, hattic.1, hattic.2.1, hattic.2.2, Device.atticFollow_entries, z6, hent]
  refine ⟨gclock.trans (z4.trans hclock), trivial, trivial, ?_, trivial, trivial⟩
  exact (congrArg (fun v => v.int.toNat) (gval K.atticBadSectors (by decide))).trans ((nat_of_obj z5 _).trans hnum)

theorem Device.flashWrite_silent : let t := d.flashWrite 3
    t.clock = d.clock ∧ t.nat K.atticFlashState = 2 ∧ t.attic.pending = [] ∧ t.attic.retention = d.attic.retention ∧
      t.entries = d.entries ++ ((0x0E04, [(d.nat K.atticFlashState : Int), 2]) ::
        (0x0E02, [4, (recSeq r : Int), (recSeq ((r :: rest).getLast (List.cons_ne_nil r rest)) : Int)]) ::
          fullReport d.attic.full 0) := by
  have hx := (d.flashWrite_runs hp hr ha hf 3).trans (if_pos rfl)
  obtain ⟨y, hy⟩ : ∃ y, (((d.setNum K.atticFlashState (2 : Nat)).report 0x0E04 [d.nat K.atticFlashState, (2 : Nat)]).setAttic
    (fun a => { a with pending := [] })).report 0x0E02 [4, recSeq r, recSeq ((r :: rest).getLast (List.cons_ne_nil r rest))] = y := ⟨_, rfl⟩
  have hset : d.setFlashState 2 = y.noteFull.atticFollow := by
    refine (if_neg hf).trans ((if_neg (by decide)).trans ?_)
    rw [show ((d.setNum K.atticFlashState (2 : Nat)).report 0x0E04 [d.nat K.atticFlashState, (2 : Nat)]).attic.pending = r :: rest from hp]
    dsimp only
    rw [List.head?_cons, List.getLast?_eq_some_getLast (List.cons_ne_nil r rest)]
    exact congrArg (fun x : Device => x.noteFull.atticFollow) hy
  rw [hset] at hx
  obtain ⟨nclock, nobj, nentries, -, npend, -, -, nret, -⟩ := y.noteFull_frame
  obtain ⟨gclock, gattic, -, -, gval⟩ := y.noteFull.atticFollow_frame
  have hya : y.clock = d.clock ∧ y.attic.pending = [] ∧ y.attic.retention = d.attic.retention ∧ y.attic.full = d.attic.full := hy ▸ ⟨rfl, rfl, rfl, rfl⟩
  obtain ⟨y1, y2, y3, y4⟩ := hya
  have hent : y.entries = d.entries ++ [(0x0E04, [(d.nat K.atticFlashState : Int), 2]),
      (0x0E02, [4, (recSeq r : Int), (recSeq ((r :: rest).getLast (List.cons_ne_nil r rest)) : Int)])] := by
    subst hy
    rw [Device.entries_report]
    exact (congrArg (· ++ _) (Device.entries_report (d.setNum K.atticFlashState (2 : Nat)) _ _)).trans (List.append_assoc _ _ _)
  have hnum : y.nat K.atticFlashState = 2 := by
    subst hy
    exact congrArg Int.toNat (d.num_setNum_self K.atticFlashState (2 : Nat))
  simp only [hx, gattic, Device.atticFollow_entries, nentries, hent, npend, nret, y2, y3, y4, List.length_nil, List.append_assoc]
  refine ⟨gclock.trans (nclock.trans y1), ?_, trivial, trivial, rfl⟩
  exact (congrArg (fun v => v.int.toNat) (gval K.atticFlashState (by decide))).trans ((nat_of_obj nobj _).trans hnum)

end

end

end Sys2Proof.Machine
end

section
/-! Chapter 19: latching and clearing (R513 to R518), and O56. -/

namespace Sys2Proof.Machine

theorem Device.formRecord_clock (d : Device) : d.formRecord.clock = d.clock := by
  unfold Device.formRecord
  split
  · rfl
  · next r _ =>
    dsimp only
    split
    · rfl
    split
    · rfl
    split
    · rfl
    · refine (Device.notice_frame _ _ _).1.trans ?_
      split
      · rfl
      · rfl

/-! ## ATTIC_SNAP (R513) -/

theorem atticSnap_row : dictFind (K.atticSnap / 256) (K.atticSnap % 256)
    = some ⟨0x6000, 0x6000, 0x03, 0x03, .uns 1, .wo, .num 0, .span 1 1, 0⟩ := rfl
theorem atticClear_row : dictFind (K.atticClear / 256) (K.atticClear % 256)
    = some ⟨0x6000, 0x6000, 0x0C, 0x0C, .octets 116, .rws, .rep 116 0, .any, 0⟩ := rfl

section
variable (d : Device)

theorem Device.highAction_attic (a : Asker) (b : Bytes) :
    d.highAction a K.atticSnap b = some (answerOf d.writeAtticSnap) ∧ d.highAction a K.atticClear b = some (answerOf (d.writeAtticClear b)) := by
  constructor
  · simp only [Device.highAction, show K.atticSnap / 256 = 0x6000 from rfl, show K.atticSnap % 256 = 0x03 from rfl, show K.atticSnap ≠ K.xphyMdio by decide,
      show K.atticSnap ≠ K.hallFdbFlush by decide, show K.atticSnap ≠ K.srLaneRestore by decide, show K.atticSnap ≠ K.srSlotLayout by decide,
      show K.atticSnap ≠ K.srJobSubmit by decide, show K.atticSnap ≠ K.srJobAbort by decide, if_false, if_true]
    simp
  · simp only [Device.highAction, show K.atticClear / 256 = 0x6000 from rfl, show K.atticClear % 256 = 0x0C from rfl, show K.atticClear ≠ K.xphyMdio by decide,
      show K.atticClear ≠ K.hallFdbFlush by decide, show K.atticClear ≠ K.srLaneRestore by decide, show K.atticClear ≠ K.srSlotLayout by decide,
      show K.atticClear ≠ K.srJobSubmit by decide, show K.atticClear ≠ K.srJobAbort by decide, show K.atticClear ≠ K.atticSnap by decide, if_false, if_true]
    simp

theorem Device.writeAtticSnap_obeys : ∃ e, d.writeAtticSnap = (St.ok, e) ∧ e.num K.atticSnapHead = d.num K.atticHead ∧
    e.num K.atticSnapTail = d.num K.atticTail ∧ e.nat K.atticSnapTime = d.mt16 ∧
    ∀ k, k ≠ K.atticSnapHead → k ≠ K.atticSnapTail → k ≠ K.atticSnapTime → e.val k = d.val k := by
  have hmem {k : Nat} {v : Int} (h : (k, v) ∈ [(K.atticSnapHead, d.num K.atticHead), (K.atticSnapTail, d.num K.atticTail),
      (K.atticSnapTime, (d.mt16 : Int))]) : (d.setNums _).num k = v :=
    Device.num_setNums_of_mem _ (by simp only [List.map_cons, List.map_nil]; decide) h
  refine ⟨_, rfl, hmem (by simp), hmem (by simp), congrArg Int.toNat (hmem (k := K.atticSnapTime) (v := (d.mt16 : Int)) (by simp)), fun k h1 h2 h3 => ?_⟩
  exact Device.setNums_val_ne _ _ (by simp [h1, h2, h3])

theorem Device.setFlashState_clock (st : Nat) : (d.setFlashState st).clock = d.clock := by
  unfold Device.setFlashState
  dsimp only
  split
  · rfl
  split
  · rfl
  · refine (Device.noteFull _).atticFollow_frame.1.trans ((Device.noteFull_frame _).1.trans ?_)
    split
    · rfl
    · rfl

theorem Device.badSector_clock (s how : Nat) : (d.badSector s how).clock = d.clock := Device.setFlashState_clock _ _

theorem Device.flashWrite_clock (outcome : Nat) : (d.flashWrite outcome).clock = d.clock := by
  unfold Device.flashWrite
  split
  · rfl
  dsimp only
  split
  · rfl
  split
  · exact d.setFlashState_clock 2
  have h1 : (if (Decidable.decide (d.attic.pos % 64 = 0) && Decidable.decide (outcome = 1)) = true then d.badSector (d.attic.goodAfter (d.attic.pos / 64)) 1
      else d).clock = d.clock := by
    split
    · exact d.badSector_clock _ _
    · rfl
  generalize (if (Decidable.decide (d.attic.pos % 64 = 0) && Decidable.decide (outcome = 1)) = true then d.badSector (d.attic.goodAfter (d.attic.pos / 64)) 1
      else d) = e at h1
  have h2 : (if d.attic.pos % 64 = 0 then e.eraseAfter (d.attic.pos / 64) else e).clock = d.clock := by
    split
    · exact h1
    · exact h1
  generalize (if d.attic.pos % 64 = 0 then e.eraseAfter (d.attic.pos / 64) else e) = f at h2
  split
  · exact h2
  split
  · exact (f.badSector_clock _ _).trans h2
  · exact (Device.noteFull_frame _).1.trans h2

/-! ## ATTIC_CLEAR (R516, R517) -/

/-- R517: does a clearance token hold this nonce and the owner's signature. -/
def Device.clearSigned (b : Bytes) : Prop :=
  field b 4 16 = d.oct K.atticClearNonce ∧
    ∃ x y, p384.decode (d.oct K.khOwnerPub) = some (x, y) ∧
      p384.verify x y (beNat (sha384 (ascii "LUABRY-ACLEAR-01" ++ sha384 (d.oct K.khDikPub) ++ toBE 4 (fieldNat b 0 4) ++ d.oct K.atticClearNonce)))
        (fieldNat b 20 48) (fieldNat b 68 48) = true

/-- The verdict on the signature of a clearance token. -/
def Device.clearVerdict (b : Bytes) : Bool :=
  match p384.decode (d.oct K.khOwnerPub) with
  | some (x, y) => p384.verify x y (beNat (sha384 (ascii "LUABRY-ACLEAR-01" ++ sha384 (d.oct K.khDikPub) ++ toBE 4 (fieldNat b 0 4) ++ d.oct K.atticClearNonce)))
      (fieldNat b 20 48) (fieldNat b 68 48)
  | none => false

theorem Device.clearSigned_iff (b : Bytes) : ¬ (field b 4 16 ≠ d.oct K.atticClearNonce || !d.clearVerdict b) = true ↔ d.clearSigned b := by
  unfold Device.clearVerdict Device.clearSigned
  rcases hdec : p384.decode (d.oct K.khOwnerPub) with - | ⟨x, y⟩
  · simp
  · simp

/-- R517: the status that ATTIC_CLEAR is answered with. -/
def Device.clearStatus (b : Bytes) : Nat :=
  if field b 4 16 ≠ d.oct K.atticClearNonce || !d.clearVerdict b then St.auth
  else if d.nat K.atticHead < fieldNat b 0 4 || fieldNat b 0 4 < d.nat K.atticTail then St.range
  else if d.attic.clearing.isSome || d.nat K.atticFlashState = 2 || !d.entropyOk then St.state
  else St.ok

theorem Device.writeAtticClear_eq (b : Bytes) : d.writeAtticClear b =
    if d.clearStatus b = St.ok then
      (d.clearStatus b, ((d.freshNonce.setNum K.atticClearState 1).setOct K.atticClear b).setAttic
        (fun a => { a with clearing := some (fieldNat b 0 4, false, d.foyer.cause) }))
    else (d.clearStatus b, d.freshNonce.report 0x0E05 [d.clearStatus b, fieldNat b 0 4]) := rfl

theorem Device.freshNonce_attic : d.freshNonce.attic = d.attic := by
  unfold Device.freshNonce
  split
  · rfl
  · rfl

theorem Device.writeAtticClear_refused {b : Bytes} {st : Nat} (h : d.clearStatus b = st) (hst : st ≠ St.ok) : ∃ e, d.writeAtticClear b = (st, e) ∧
    newReports d e = [(0x0E05, [(st : Int), (fieldNat b 0 4 : Int)])] ∧ e.attic.clearing = d.attic.clearing ∧ e.attic.flash = d.attic.flash := by
  have hx := d.writeAtticClear_eq b
  rw [h, if_neg hst] at hx
  have hattic := d.freshNonce_attic
  generalize d.freshNonce = x at hx hattic
  refine ⟨_, hx, newReports_of_entries ?_, congrArg (·.clearing) hattic, congrArg (·.flash) hattic⟩
  rw [Device.entries_report, Device.entries_of_attic hattic]

theorem Device.writeAtticClear_begun {b : Bytes} (h : d.clearStatus b = St.ok) : ∃ e, d.writeAtticClear b = (St.ok, e) ∧
    e.nat K.atticClearState = 1 ∧ e.oct K.atticClear = b ∧ e.attic = { d.attic with clearing := some (fieldNat b 0 4, false, d.foyer.cause) } := by
  have hx := d.writeAtticClear_eq b
  rw [h, if_pos rfl] at hx
  have hattic := d.freshNonce_attic
  generalize d.freshNonce = x at hx hattic
  refine ⟨_, hx, ?_, (x.setNum K.atticClearState 1).oct_setOct_self K.atticClear b, ?_⟩
  · exact (congrArg (fun v => v.int.toNat) (Device.val_setVal_ne (x.setNum K.atticClearState 1) (k := K.atticClear) (j := K.atticClearState) (.oct b) (by decide))).trans
      (congrArg Int.toNat (x.num_setNum_self K.atticClearState 1))
  · show { x.attic with clearing := some (fieldNat b 0 4, false, d.foyer.cause) } = _
    rw [hattic]

theorem Device.clearStatus_auth {b : Bytes} (h : ¬ d.clearSigned b) : d.clearStatus b = St.auth :=
  if_pos (not_not.1 fun hn => h ((d.clearSigned_iff b).1 hn))

section
variable {b : Bytes} (hs : d.clearSigned b)
include hs

theorem Device.clearStatus_range (h : ¬ (d.nat K.atticTail ≤ fieldNat b 0 4 ∧ fieldNat b 0 4 ≤ d.nat K.atticHead)) : d.clearStatus b = St.range := by
  refine (if_neg ((d.clearSigned_iff b).2 hs)).trans (if_pos ?_)
  rw [Bool.or_eq_true, decide_eq_true_eq, decide_eq_true_eq]
  omega

theorem Device.clearStatus_inRange (h : d.nat K.atticTail ≤ fieldNat b 0 4 ∧ fieldNat b 0 4 ≤ d.nat K.atticHead) : d.clearStatus b =
    if d.attic.clearing.isSome || d.nat K.atticFlashState = 2 || !d.entropyOk then St.state else St.ok := by
  refine (if_neg ((d.clearSigned_iff b).2 hs)).trans (if_neg ?_)
  rw [Bool.or_eq_true, decide_eq_true_eq, decide_eq_true_eq]
  omega

end

theorem Device.clearIdle_iff : ¬ (d.attic.clearing.isSome || d.nat K.atticFlashState = 2 || !d.entropyOk) = true ↔
    d.attic.clearing = none ∧ d.nat K.atticFlashState ≠ 2 ∧ d.nat K.khEntropyState = 1 := by
  simp [Device.entropyOk, and_assoc]

/-! ## ATTIC_CLEAR_COMPLETE (R518) -/

/-- Is a record left by a clear up to `upTo`. -/
def keptRecord (upTo : Nat) (r : Bytes) : Bool := decide (upTo < recSeq r)

theorem Device.clearComplete_none (h : d.attic.clearing = none) : d.clearComplete = d := by
  unfold Device.clearComplete
  rw [h]

theorem Device.clearComplete_some {upTo src : Nat} {cut : Bool} (h : d.attic.clearing = some (upTo, cut, src)) : let t := d.clearComplete
    let a := d.attic
    t.clock = d.clock ∧ t.nat K.atticClearState = 0 ∧ t.attic.clearing = none ∧ t.attic.flash = a.flash.filter (fun x => keptRecord upTo x.2) ∧
      t.attic.pending = a.pending.filter (keptRecord upTo) ∧ t.attic.retention = a.retention.filter (keptRecord upTo) ∧ t.attic.next = a.next ∧
      ∃ gone : Nat, t.entries = d.entries ++ (0x0E01, [(d.nat K.atticTail : Int), (upTo : Int), (gone : Int), if cut then 1 else 0]) ::
        fullReport a.full (a.pending.filter (keptRecord upTo)).length := by
  obtain ⟨gone, hgone⟩ : ∃ gone, gone = (((d.attic.flash.map (·.2) ++ d.attic.pending ++ d.attic.retention).filter
    (fun r => !keptRecord upTo r)).map recSeq).eraseDups.length := ⟨_, rfl⟩
  obtain ⟨y, hy⟩ : ∃ y, ((d.setAttic (fun a => { a with
      flash := d.attic.flash.filter (fun x => keptRecord upTo x.2), pending := d.attic.pending.filter (keptRecord upTo)
      retention := d.attic.retention.filter (keptRecord upTo)
      prevCrc := if d.attic.next ≤ upTo + 1 then 0 else d.attic.prevCrc, flashed := max d.attic.flashed (upTo + 1), clearing := none })).setNum K.atticClearState 0).causedBy src
        (·.report 0x0E01 [(d.nat K.atticTail : Int), (upTo : Int), (gone : Int), if cut then 1 else 0]) = y := ⟨_, rfl⟩
  have hx : d.clearComplete = y.noteFull.atticFollow := by
    unfold Device.clearComplete
    rw [h, ← hy, hgone]
    rfl
  obtain ⟨nclock, nobj, nentries, nflash, npend, -, -, nret, nnext, nclear⟩ := y.noteFull_frame
  obtain ⟨gclock, gattic, -, -, gval⟩ := y.noteFull.atticFollow_frame
  have hyattic : y.clock = d.clock ∧ y.attic.clearing = none ∧ y.attic.flash = d.attic.flash.filter (fun x => keptRecord upTo x.2) ∧
      y.attic.pending = d.attic.pending.filter (keptRecord upTo) ∧ y.attic.retention = d.attic.retention.filter (keptRecord upTo) ∧
      y.attic.next = d.attic.next ∧ y.attic.full = d.attic.full := hy ▸ ⟨rfl, rfl, rfl, rfl, rfl, rfl, rfl⟩
  obtain ⟨yclock, yclear, yflash, ypend, yret, ynext, yfull⟩ := hyattic
  have hent : y.entries = d.entries ++ [(0x0E01, [(d.nat K.atticTail : Int), (upTo : Int), (gone : Int), if cut then 1 else 0])] := by
    subst hy
    exact List.map_append (l₁ := d.attic.reports)
  have hnum : y.nat K.atticClearState = 0 := by
    subst hy
    exact congrArg Int.toNat (Device.num_setNum_self (d.setAttic _) K.atticClearState 0)
  simp only [hx, gattic]
  refine ⟨gclock.trans (nclock.trans yclock), ?_, nclear.trans yclear, nflash.trans yflash, npend.trans ypend, nret.trans yret, nnext.trans ynext, gone, ?_⟩
  · exact (congrArg (fun v => v.int.toNat) (gval K.atticClearState (by decide))).trans ((nat_of_obj nobj _).trans hnum)
  · rw [Device.atticFollow_entries, nentries, hent, yfull, ypend, List.append_assoc]
    rfl

end

section
variable (s : State) (h : HapHdr)

theorem State.atticSnap_written (hw : s.writes h K.atticSnap [1]) :
    exec (.atticSnap h [1]) s = .next (s.wrote h K.atticSnap [1] (answerOf (s.asWritten h K.atticSnap [1]).writeAtticSnap)) :=
  congrArg Host.Outcome.next (s.highCommand_written h hw atticSnap_row rfl (by decide) (by decide) (by decide) rfl (by decide)
    fun a _ _ _ _ _ => (Device.highAction_attic _ a _).1)

theorem State.atticClear_written {v : Bytes} (hv : v.length = 116) (hw : s.writes h K.atticClear v) (hl : (s.asWritten h K.atticClear v).lock = 3) :
    exec (.atticClear h v) s = .next (s.wrote h K.atticClear v (answerOf ((s.asWritten h K.atticClear v).writeAtticClear v))) :=
  congrArg Host.Outcome.next (s.sessionCommand_written h hw hl atticClear_row ⟨by decide, by decide⟩ (by decide) (by decide)
    (by simp [Ty.allows, hv]) (rangeBad_plain v (.inl ⟨116, rfl⟩) (by decide)) fun a _ _ _ _ _ => (Device.highAction_attic _ a v).2)

/-- R516, R517: a clear that is refused is recorded and answered with its status. -/
theorem State.atticClear_refused {v : Bytes} (hv : v.length = 116) (hw : s.writes h K.atticClear v) (hl : (s.asWritten h K.atticClear v).lock = 3)
    {st : Nat} (hst : (s.asWritten h K.atticClear v).clearStatus v = st) (hok : st ≠ St.ok) : let d := s.asWritten h K.atticClear v
    ∃ e : Device, exec (.atticClear h v) s = .next (s.wrote h K.atticClear v (e.answer st)) ∧
      newReports d e = [(0x0E05, [(st : Int), (fieldNat v 0 4 : Int)])] ∧ e.attic.clearing = d.attic.clearing ∧ e.attic.flash = d.attic.flash := by
  have hx := s.atticClear_written h hv hw hl
  obtain ⟨e, he, hrest⟩ := (s.asWritten h K.atticClear v).writeAtticClear_refused hst hok
  rw [he] at hx
  exact ⟨e, hx, hrest⟩

end

/-- Settles O56: the head of a record is laid out once, and the notice that goes with it is held apart from the Attic; the writer goes on from the erased
sector; a clear answers the first of its checks that fails. -/
theorem recordsAreFormedStoredAndCleared : Obligations.RecordsAreFormedStoredAndCleared := by
  refine ⟨fun s => ⟨fun h => ?_, fun r hr hlost => ?_⟩, fun s outcome => ⟨fun h => ?_, fun r rest hp hrun hawake hflash => ?_⟩, fun s h => ?_, fun s h v hv => ?_,
    fun s => ⟨fun h => ?_, fun upTo cut src h => ?_⟩⟩
  · rw [exec_recordForm, State.on, s.dev.formRecord_idle h]
  · have hlostUp : ((s.dev.reportTaken r).bump K.atticLost).nat K.atticLost = s.dev.nat K.atticLost + 1 :=
      (s.dev.reportTaken r).nat_bumpBy 4 _ 1 (Nat.add_lt_of_lt_sub hlost)
    refine ⟨_, exec_recordForm s, rfl, ?_, fun hspent => ?_, fun hn ha hf hfull => ?_, fun hn ha hf hroom => ?_⟩
    · exact s.dev.formRecord_clock
    · show s.dev.formRecord.nat _ = _ ∧ s.dev.formRecord.attic = _
      rw [s.dev.formRecord_spent hr hspent]
      exact ⟨hlostUp, rfl⟩
    · have hx := (s.dev.formRecord_awake hr hn ha hf).trans (if_pos hfull)
      show s.dev.formRecord.nat _ = _ ∧ s.dev.formRecord.attic.next = _ ∧ s.dev.formRecord.attic.retention = _ ∧ s.dev.formRecord.attic.full = _
      rw [hx]
      exact ⟨hlostUp, rfl, rfl, rfl⟩
    · obtain ⟨-, hpend, hret, hnext, hcrc, hflash, hlen, hhead⟩ := s.dev.formRecord_held hr hn ha hf hroom
      have hb := (s.dev.reportTaken r).makeRecord_eq r s.dev.attic.next
      rw [hb] at hpend hret
      rw [Device.makeRecord_crc] at hcrc
      obtain ⟨f1, f2, f3, f4, f5, f6⟩ := (s.dev.reportTaken r).recordHead_fields r s.dev.attic.next
      exact ⟨(s.dev.reportTaken r).recordHead r s.dev.attic.next, Device.length_recordHead _ _ _, f1, f2, f3, f4, f5, f6, hpend, hret, hnext, hcrc, hflash, hlen, hhead⟩
  · rw [exec_flashRecordWrite, State.on, s.dev.flashWrite_idle outcome h]
  · have hx := exec_flashRecordWrite s outcome
    by_cases h0 : outcome = 0
    · subst h0
      obtain ⟨hclock, w1, w2, w3, w4, w5, w6⟩ := s.dev.flashWrite_verified hp hrun hawake hflash
      exact ⟨_, hx, rfl, hclock, fun _ => ⟨w1, w2, w3, w4, w5, newReports_of_entries w6⟩, fun h => absurd h (by decide), fun h => absurd h (by decide)⟩
    by_cases h3 : outcome = 3
    · subst h3
      obtain ⟨hclock, w1, w2, w3, w4⟩ := s.dev.flashWrite_silent hp hrun hawake hflash
      refine ⟨_, hx, rfl, hclock, fun h => absurd h (by decide), fun h => absurd h (by decide), fun _ => ⟨w1, w2, w3, (newReports_of_entries w4).trans ?_⟩⟩
      simp [fullReport]
    · refine ⟨_, hx, rfl, s.dev.flashWrite_clock outcome, fun h => absurd h h0, fun h2 hb hs => ?_, fun h => absurd h h3⟩
      subst h2
      obtain ⟨-, w1, w2, w3, w4, w5⟩ := s.dev.flashWrite_differs hp hrun hawake hflash hs hb
      exact ⟨w1, w2, w3, w4, newReports_of_entries w5⟩
  · intro d hw
    have hx := s.atticSnap_written h hw
    obtain ⟨e, he, hrest⟩ := (s.asWritten h K.atticSnap [1]).writeAtticSnap_obeys
    rw [he] at hx
    exact ⟨e, hx, hrest⟩
  · intro d upTo digest signed inRange idle refuses hw hl
    refine ⟨fun hs => ?_, fun hs hr => ?_, fun hs hr hi => ?_, fun hs hr hi => ?_⟩
    · exact s.atticClear_refused h hv hw hl (Device.clearStatus_auth _ hs) (by decide)
    · exact s.atticClear_refused h hv hw hl (Device.clearStatus_range _ hs hr) (by decide)
    · have hst := (Device.clearStatus_inRange _ hs hr).trans (if_pos (not_not.1 fun hn => hi ((Device.clearIdle_iff _).1 hn)))
      exact s.atticClear_refused h hv hw hl hst (by decide)
    · have hst := (Device.clearStatus_inRange _ hs hr).trans (if_neg ((Device.clearIdle_iff _).2 hi))
      have hx := s.atticClear_written h hv hw hl
      obtain ⟨e, he, e1, e2, e3⟩ := (s.asWritten h K.atticClear v).writeAtticClear_begun hst
      rw [he] at hx
      exact ⟨e, _, hx, e1, e2, e3⟩
  · rw [exec_atticClearComplete, State.on, s.dev.clearComplete_none h]
  · obtain ⟨t1, t2, t3, t4, t5, t6, t7, gone, hent⟩ := s.dev.clearComplete_some h
    exact ⟨_, exec_atticClearComplete s, rfl, t1, t2, t3, t4, t5, t6, t7, gone, newReports_of_entries hent⟩

end Sys2Proof.Machine
end

section
/-! Chapter 16: jobs and lanes (R443, R452 to R459). -/

namespace Sys2Proof.Machine

section
variable (d : Device) {e : Device} {id l : Nat} {j : Job}

/-! ## The list of jobs -/

theorem Device.job_of_jobs (h : e.strong.jobs = d.strong.jobs) (id : Nat) : e.job id = d.job id := by rw [Device.job, h, Device.job]

variable {d}

theorem Device.job_id (h : d.job id = some j) : j.id = id := by simpa using List.find?_some h

theorem Device.job_mem (h : d.job id = some j) : j ∈ d.strong.jobs := List.mem_of_find?_eq_some h

variable (d)

theorem Device.job_eq_none_iff : d.job id = none ↔ id ∉ d.strong.jobs.map Job.id := by
  rw [Device.job, List.find?_eq_none, List.mem_map]
  simp

theorem Device.job_setJob_self {f : Job → Job} (hf : ∀ j, (f j).id = j.id) (h : d.job id = some j) : (d.setJob id f).job id = some (f j) := by
  show (d.strong.jobs.map _).find? _ = _
  rw [List.find?_map, show (fun x : Job => Decidable.decide (x.id = id)) ∘ (fun x => if x.id = id then f x else x) = fun x => Decidable.decide (x.id = id) from ?_]
  · rw [show d.strong.jobs.find? (fun x => Decidable.decide (x.id = id)) = some j from h, Option.map_some, if_pos (Device.job_id h)]
  · funext x
    by_cases hx : x.id = id
    · simp [hx, hf]
    · simp [hx]

theorem Device.job_setJob_ne {f : Job → Job} (hf : ∀ j, (f j).id = j.id) {i : Nat} (hi : i ≠ id) : (d.setJob id f).job i = d.job i := by
  show (d.strong.jobs.map _).find? _ = _
  rw [List.find?_map, show (fun x : Job => Decidable.decide (x.id = i)) ∘ (fun x => if x.id = id then f x else x) = fun x => Decidable.decide (x.id = i) from ?_]
  · cases hj : d.job i with
    | none => rw [show d.strong.jobs.find? (fun x => Decidable.decide (x.id = i)) = none from hj, Option.map_none]
    | some k => rw [show d.strong.jobs.find? (fun x => Decidable.decide (x.id = i)) = some k from hj, Option.map_some, if_neg (Device.job_id hj ▸ hi)]
  · funext x
    by_cases hx : x.id = id
    · simp [hx, hf]
    · simp [hx]

theorem Device.setJob_ids {f : Job → Job} (hf : ∀ j, (f j).id = j.id) : (d.setJob id f).strong.jobs.map Job.id = d.strong.jobs.map Job.id := by
  show List.map _ (d.strong.jobs.map _) = _
  rw [List.map_map]
  refine List.map_congr_left fun x _ => ?_
  show Job.id (if x.id = id then f x else x) = x.id
  split
  · exact hf x
  · rfl

/-! ## A job takes a state (R452) -/

theorem Device.jobTo_eq {st : Nat} (h : d.job id = some j) : d.jobTo id st =
    if j.who = .owner then (d.setJob id (fun j => { j with state := st })).setNum K.srJobState st else d.setJob id (fun j => { j with state := st }) := by
  unfold Device.jobTo
  rw [h]

theorem Device.jobTo_strong (st : Nat) : (d.jobTo id st).strong = (d.setJob id (fun j => { j with state := st })).strong := by
  unfold Device.jobTo
  split
  next h =>
    have hnone : ∀ x ∈ d.strong.jobs, x.id ≠ id := by simpa using List.find?_eq_none.1 h
    have hsame : d.strong.jobs.map (fun x => if x.id = id then { x with state := st } else x) = d.strong.jobs :=
      (List.map_congr_left fun x hx => if_neg (hnone x hx)).trans (List.map_id' _)
    exact congrArg (fun l => { d.strong with jobs := l }) hsame.symm
  · dsimp only
    split
    · rfl
    · rfl

theorem Device.jobTo_frame (st : Nat) : (d.jobTo id st).clock = d.clock ∧ (∀ k, k ≠ K.srJobState → (d.jobTo id st).val k = d.val k) := by
  unfold Device.jobTo
  split
  · exact ⟨rfl, fun _ _ => rfl⟩
  · dsimp only
    split
    · exact ⟨rfl, fun k hk => Device.val_setVal_ne _ _ hk⟩
    · exact ⟨rfl, fun _ _ => rfl⟩

theorem Device.jobTo_shown (st : Nat) (h : d.job id = some j) : (d.jobTo id st).nat K.srJobState = if j.who = .owner then st else d.nat K.srJobState := by
  rw [d.jobTo_eq h]
  split
  · exact congrArg Int.toNat (Device.num_setNum_self _ _ _)
  · rfl

theorem Device.job_jobTo_self (st : Nat) (h : d.job id = some j) : (d.jobTo id st).job id = some { j with state := st } :=
  (Device.job_of_jobs (d.setJob id (fun j => { j with state := st })) (congrArg Strong.jobs (d.jobTo_strong st)) id).trans (d.job_setJob_self (by intro _; rfl) h)

theorem Device.job_jobTo_ne (st : Nat) {i : Nat} (hi : i ≠ id) : (d.jobTo id st).job i = d.job i :=
  (Device.job_of_jobs (d.setJob id (fun j => { j with state := st })) (congrArg Strong.jobs (d.jobTo_strong st)) i).trans (d.job_setJob_ne (by intro _; rfl) hi)

/-! ## Lanes (R443) -/

theorem Device.lane_setLane {f : Lane → Lane} (h : l < d.strong.lanes.length) : (d.setLane l f).lane l = f (d.lane l) := getD_updAt f {} h

theorem Device.putLane_strong (st : Nat) : (d.putLane l st).strong.jobs = d.strong.jobs ∧ (d.putLane l st).strong.nextId = d.strong.nextId ∧
    (d.putLane l st).strong.lanes.length = d.strong.lanes.length := ⟨rfl, rfl, length_updAt _ _ _⟩

theorem Device.stack_putLane (st m : Nat) : ((d.putLane l st).lane m).stack = (d.lane m).stack := by
  show (List.getD (updAt d.strong.lanes l _) m {}).stack = _
  by_cases hm : m = l
  · subst hm
    by_cases hl : m < d.strong.lanes.length
    · rw [getD_updAt _ _ hl]
      show Lane.stack (match (d.lane m).busyFrom with | some t => _ | none => _) = (d.lane m).stack
      split
      · split
        · rfl
        · rfl
      · split
        · rfl
        · rfl
    · rw [List.getD_eq_default _ _ (by rw [length_updAt]; exact Nat.not_lt.1 hl)]
      exact congrArg Lane.stack (List.getD_eq_default _ _ (Nat.not_lt.1 hl)).symm
  · exact congrArg Lane.stack (getD_updAt_ne _ _ hm)

theorem Device.laneState_putLane {st : Nat} (hl : l < 4) (ho : (d.oct K.srLaneState).length = 4) (hs : st < 256) : (d.putLane l st).laneState l = st := by
  have hoct : (d.putLane l st).oct K.srLaneState = putBytes (d.oct K.srLaneState) l (toBE 1 st) := by
    refine Eq.trans ?_ (d.oct_setOct_self K.srLaneState _)
    exact congrArg Val.bytes (Device.val_setVal_ne (d.setOct K.srLaneState _) (k := K.srLanesInService) (j := K.srLaneState) (.num _) (by decide))
  rw [Device.laneState, hoct]
  exact (fieldNat_putBytes_self (n := 1) st (by rw [ho]; omega)).trans (Nat.mod_eq_of_lt hs)

theorem Device.laneState_putLane_ne {m : Nat} (st : Nat) (hl : l < 4) (ho : (d.oct K.srLaneState).length = 4) (hm : m ≠ l) :
    (d.putLane l st).laneState m = d.laneState m := by
  have hoct : (d.putLane l st).oct K.srLaneState = putBytes (d.oct K.srLaneState) l (toBE 1 st) := by
    refine Eq.trans ?_ (d.oct_setOct_self K.srLaneState _)
    exact congrArg Val.bytes (Device.val_setVal_ne (d.setOct K.srLaneState _) (k := K.srLanesInService) (j := K.srLaneState) (.num _) (by decide))
  rw [Device.laneState, hoct]
  exact congrArg beNat (field_putBytes_ne (by rw [length_toBE, ho]; omega) (by rw [length_toBE]; omega))

theorem Device.putLane_val (st : Nat) {k : Nat} (h1 : k ≠ K.srLaneState) (h2 : k ≠ K.srLanesInService) : (d.putLane l st).val k = d.val k :=
  (Device.val_setVal_ne (d.setOct K.srLaneState _) (.num _) h2).trans (d.val_setVal_ne _ h1)

theorem Device.laneFollow_stack (m : Nat) : ((d.laneFollow l).lane m).stack = (d.lane m).stack ∧ (d.laneFollow l).strong.jobs = d.strong.jobs := by
  unfold Device.laneFollow
  split
  · exact ⟨rfl, rfl⟩
  · exact ⟨d.stack_putLane _ m, rfl⟩

theorem Device.laneFollow_val {k : Nat} (h1 : k ≠ K.srLaneState) (h2 : k ≠ K.srLanesInService) : (d.laneFollow l).val k = d.val k := by
  unfold Device.laneFollow
  split
  · rfl
  · exact d.putLane_val _ h1 h2

/-! ## The next job of a lane runs again (R455) -/

theorem Device.resumeTop_ids : (d.resumeTop l).strong.jobs.map Job.id = d.strong.jobs.map Job.id := by
  unfold Device.resumeTop
  split
  · exact congrArg _ (d.laneFollow_stack 0).2
  · next id rest _ =>
    refine (congrArg _ (Device.laneFollow_stack _ 0).2).trans ?_
    split
    · split
      · refine (Device.setJob_ids _ (by intro _; rfl)).trans ?_
        rw [d.jobTo_strong]
        exact d.setJob_ids (by intro _; rfl)
      · rfl
    · rfl

/-- What the lane's next job leaves of every other job. -/
theorem Device.job_resumeTop (h : (d.lane l).stack.head? ≠ some id) : (d.resumeTop l).job id = d.job id := by
  unfold Device.resumeTop
  split
  · exact d.job_of_jobs (d.laneFollow_stack 0).2 id
  · next i rest hs =>
    have hi : id ≠ i := by
      rintro rfl
      rw [hs] at h
      exact h rfl
    refine (Device.job_of_jobs _ (Device.laneFollow_stack _ 0).2 id).trans ?_
    split
    · split
      · exact (Device.job_setJob_ne _ (by intro _; rfl) hi).trans (d.job_jobTo_ne 3 hi)
      · rfl
    · rfl

/-- A job in the queue, in its list's place, is none that a lane goes on with. -/
theorem Device.resumeTop_waiting {x : Job} (hx : x ∈ d.strong.jobs) (hu : ∀ y ∈ d.strong.jobs, y.id = x.id → y = x) (hs : x.state ≠ 4) :
    x ∈ (d.resumeTop l).strong.jobs := by
  unfold Device.resumeTop
  split
  · rw [(d.laneFollow_stack 0).2]
    exact hx
  · next i rest _ =>
    rw [(Device.laneFollow_stack _ 0).2]
    split
    · next j hj =>
      split
      · next h4 =>
        have hne : x.id ≠ i := fun hxi => hs (hu j (Device.job_mem hj) ((Device.job_id hj).trans hxi.symm) ▸ h4)
        refine List.mem_map.2 ⟨x, ?_, if_neg hne⟩
        rw [d.jobTo_strong]
        exact List.mem_map.2 ⟨x, hx, if_neg hne⟩
      · exact hx
    · exact hx

/-- The owner's job is shown as it was where it is not the one that goes on. -/
theorem Device.resumeTop_shown (h : ∀ i x, (d.lane l).stack.head? = some i → d.job i = some x → x.who ≠ .owner) :
    (d.resumeTop l).val K.srJobState = d.val K.srJobState := by
  unfold Device.resumeTop
  split
  · exact d.laneFollow_val (by decide) (by decide)
  · next i rest hs =>
    refine (Device.laneFollow_val _ (by decide) (by decide)).trans ?_
    split
    · next x hx =>
      split
      · show (d.jobTo i 3).val K.srJobState = _
        rw [d.jobTo_eq hx, if_neg (h i x (by rw [hs]; rfl) hx)]
        rfl
      · rfl
    · rfl

end

end Sys2Proof.Machine
end

section
/-! Chapter 16: jobs queued, dispatched, checked and run (R449 to R464). -/

namespace Sys2Proof.Machine

theorem exec_jobDispatch (s : State) : exec .jobDispatch s = .next (s.on (·.jobDispatch)) := rfl
theorem exec_jobCheckEnd (s : State) (l : Nat) (ecc : Option Nat) : exec (.jobCheckEnd l ecc) s = .next (s.on (·.jobCheckEnd l ecc)) := rfl
theorem exec_jobYield (s : State) (l wait : Nat) (mem : Bool) : exec (.jobYield l wait mem) s = .next (s.on (·.jobYield l wait mem)) := rfl
theorem exec_jobComplete (s : State) (l wait : Nat) (sound third : Bool) :
    exec (.jobComplete l wait sound third) s = .next (s.on (·.jobComplete l wait sound third)) := rfl
theorem exec_selfTestComplete (s : State) (l wait : Nat) (pass : Bool) :
    exec (.selfTestComplete l wait pass) s = .next (s.on (·.selfTestEnd l wait pass)) := rfl

section
variable (d : Device)

/-! ## SR_JOB_SUBMIT (R449 to R452) -/

/-- R452, R463: is the owner not to submit now. -/
def Device.jobBusy (d : Device) : Prop := ¬ (d.nat K.srJobState = 0 ∨ d.nat K.srJobState = 6) ∨ d.srStopped = true

theorem Device.jobBusy_iff : (!(Decidable.decide (d.nat K.srJobState = 0) || Decidable.decide (d.nat K.srJobState = 6)) || d.srStopped) = true ↔ d.jobBusy := by
  simp [Device.jobBusy]

/-- The job that a descriptor asks for. -/
def jobAsked (b : Bytes) : Job :=
  { id := 0, prio := 3, op := fieldNat b 0 1, msgLen := fieldNat b 2 2, slots := (List.range 8).map (fun i => fieldNat b (4 + i) 1), tag := fieldNat b 12 4,
    who := .owner }

theorem Device.writeJobSubmit_eq (b : Bytes) : d.writeJobSubmit b =
    if d.descriptorBad b then (St.range, d)
    else if !(Decidable.decide (d.nat K.srJobState = 0) || Decidable.decide (d.nat K.srJobState = 6)) || d.srStopped then (St.state, d)
    else if !d.queueRoom 3 then (St.full, d)
    else (St.ok, (d.queueJob (jobAsked b)).setNums [(K.srJobState, 1), (K.srJobTag, fieldNat b 12 4), (K.srJobLane, 0xFF)]) := rfl

section
variable {b : Bytes}

theorem Device.writeJobSubmit_range (h : d.descriptorBad b = true) : d.writeJobSubmit b = (St.range, d) := if_pos h

variable (h : d.descriptorBad b = false)
include h

theorem Device.writeJobSubmit_state (hb : d.jobBusy) : d.writeJobSubmit b = (St.state, d) := by
  rw [d.writeJobSubmit_eq, if_neg (Bool.eq_false_iff.1 h)]
  exact if_pos (d.jobBusy_iff.2 hb)

variable (hb : ¬ d.jobBusy)
include hb

theorem Device.writeJobSubmit_full (hq : 60 ≤ d.queueDepth) : d.writeJobSubmit b = (St.full, d) := by
  rw [d.writeJobSubmit_eq, if_neg (Bool.eq_false_iff.1 h), if_neg (mt d.jobBusy_iff.1 hb)]
  exact if_pos ((Device.queueRoom_low d (by decide)).2 hq)

theorem Device.writeJobSubmit_queued (hq : d.queueDepth < 60) : ∃ e, d.writeJobSubmit b = (St.ok, e) ∧
    e.strong.jobs = d.strong.jobs ++ [d.queued (jobAsked b)] ∧ e.nat K.srJobState = 1 ∧ e.nat K.srJobTag = fieldNat b 12 4 ∧ e.clock = d.clock := by
  have hx : d.writeJobSubmit b = (St.ok, (d.queueJob (jobAsked b)).setNums [(K.srJobState, 1), (K.srJobTag, fieldNat b 12 4), (K.srJobLane, 0xFF)]) := by
    rw [d.writeJobSubmit_eq, if_neg (Bool.eq_false_iff.1 h), if_neg (mt d.jobBusy_iff.1 hb)]
    exact if_neg (mt (Device.queueRoom_low d (by decide)).1 (Nat.not_le.2 hq))
  have hmem {k : Nat} {v : Int} (hk : (k, v) ∈ [(K.srJobState, (1 : Int)), (K.srJobTag, (fieldNat b 12 4 : Int)), (K.srJobLane, 0xFF)]) :
      ((d.queueJob (jobAsked b)).setNums _).num k = v :=
    Device.num_setNums_of_mem _ (by simp only [List.map_cons, List.map_nil]; decide) hk
  exact ⟨_, hx, d.queueJob_jobs _, congrArg Int.toNat (hmem (k := K.srJobState) (v := 1) (by simp)),
    congrArg Int.toNat (hmem (k := K.srJobTag) (v := (fieldNat b 12 4 : Int)) (by simp)), rfl⟩

end

/-- The slots of a descriptor, byte by byte. -/
theorem jobAsked_slots {b : Bytes} (h : b.length = 16) : (jobAsked b).slots = (field b 4 8).map (·.toNat) := by
  refine List.ext_getElem (by simp [jobAsked, field, h]) fun i h1 h2 => ?_
  have hi : i < 8 := by simpa [jobAsked] using h1
  have hbyte : field b (4 + i) 1 = [b[4 + i]'(by omega)] := by
    rw [field, List.drop_eq_getElem_cons (by omega)]
    rfl
  simp only [jobAsked, List.getElem_map, List.getElem_range, fieldNat, hbyte]
  simp [beNat, field]

/-! ## JOB_DISPATCH (R453, R454) -/

theorem Device.dispatch_idle (h : ∀ l, l < 4 → d.laneState l = 2 → d.nextJob l 4 = none) : d.dispatch = d := by
  have hnone : ((List.range 4).filter (fun l => d.laneState l = 2)).find? (fun l => (d.nextJob l 4).isSome) = none := by
    refine List.find?_eq_none.2 fun l hl => ?_
    obtain ⟨hr, hs⟩ := List.mem_filter.1 hl
    rw [h l (List.mem_range.1 hr) (of_decide_eq_true hs)]
    exact Bool.false_ne_true
  unfold Device.dispatch
  rw [hnone]

section
variable {l : Nat} {j : Job}

theorem Device.dispatch_first (hl : l < 4) (hs : d.laneState l = 2) (hj : d.nextJob l 4 = some j)
    (hfirst : ∀ m, m < l → d.laneState m = 2 → d.nextJob m 4 = none) : d.dispatch = d.startJob l j 0 := by
  have hfind : ((List.range 4).filter (fun l => d.laneState l = 2)).find? (fun l => (d.nextJob l 4).isSome) = some l := by
    rw [List.find?_filter, List.find?_range_eq_some]
    refine ⟨by simp [hs, hj], List.mem_range.2 hl, fun m hm => ?_⟩
    by_cases hms : d.laneState m = 2
    · simp [hfirst m hm hms]
    · simp [hms]
  unfold Device.dispatch
  rw [hfind]
  dsimp only
  rw [hj]

/-- R453: a lane takes a job of the first priority that waits, among those it may take. -/
theorem Device.nextJob_spec {below : Nat} (hj : d.nextJob l below = some j) : j ∈ d.strong.jobs ∧ j.state = 1 ∧ j.prio < below ∧
    ∀ i ∈ d.strong.jobs, i.state = 1 → i.only = none → i.who ≠ .owner → j.prio ≤ i.prio ∨ below ≤ i.prio := by
  unfold Device.nextJob at hj
  dsimp only at hj
  split at hj
  next p hp =>
    have hmem := List.mem_of_find?_eq_some hj
    have hprio : j.prio = p := by simpa using List.find?_some hj
    obtain ⟨hin, hok⟩ := List.mem_filter.1 hmem
    simp only [Bool.and_eq_true, decide_eq_true_eq] at hok
    refine ⟨hin, hok.1.1.1, hok.1.1.2, fun i hi hi1 hio hiw => ?_⟩
    rcases Nat.lt_or_ge i.prio below with hb | hb
    · left
      rw [hprio]
      refine (List.min?_eq_some_iff.1 hp).2 i.prio (List.mem_map_of_mem (List.mem_filter.2 ⟨hi, ?_⟩))
      simp [hi1, hb, hio, hiw]
    · exact .inr hb
  next => exact absurd hj (by simp)

variable (wait : Nat) (hl : l < 4) (hlanes : d.strong.lanes.length = 4)

theorem Device.startJob_eq : d.startJob l j wait =
    let t := d.clock.ticks + wait
    let d2 := (((d.setJob j.id (fun j => { j with lane := some l, start := t, due := t + checkTicks j.op })).jobTo j.id 2).setLane l
      (fun x => { x with stack := j.id :: x.stack })).putLane l 3
    let d3 := d2.setNum K.srQueueDepth d2.queueDepth
    if j.who = .owner then d3.setNum K.srJobLane l else d3 := rfl

include hl hlanes

/-- R453, R456: what a job's start leaves. -/
theorem Device.startJob_obeys (hj : d.job j.id = some j) : let t := d.startJob l j wait
    t.clock = d.clock ∧
      t.job j.id = some { j with lane := some l, start := d.clock.ticks + wait, due := d.clock.ticks + wait + checkTicks j.op, state := 2 } ∧
      ((d.oct K.srLaneState).length = 4 → t.laneState l = 3) ∧ (t.lane l).stack = j.id :: (d.lane l).stack ∧ (j.who = .owner → t.nat K.srJobState = 2 ∧ t.nat K.srJobLane = l) ∧
      ∀ i, i ≠ j.id → t.job i = d.job i := by
  obtain ⟨e, he⟩ : ∃ e, d.setJob j.id (fun j => { j with lane := some l, start := d.clock.ticks + wait, due := d.clock.ticks + wait + checkTicks j.op }) = e := ⟨_, rfl⟩
  have hej : e.job j.id = some { j with lane := some l, start := d.clock.ticks + wait, due := d.clock.ticks + wait + checkTicks j.op } :=
    he ▸ d.job_setJob_self (by intro _; rfl) hj
  have hej' (i : Nat) (hi : i ≠ j.id) : e.job i = d.job i := he ▸ d.job_setJob_ne (by intro _; rfl) hi
  have hec : e.clock = d.clock ∧ e.strong.lanes = d.strong.lanes ∧ e.obj = d.obj := he ▸ ⟨rfl, rfl, rfl⟩
  obtain ⟨ec, el, eo⟩ := hec
  have fj := e.job_jobTo_self 2 hej
  have fj' (i : Nat) (hi : i ≠ j.id) := e.job_jobTo_ne (id := j.id) 2 hi
  have fs := e.jobTo_shown 2 hej
  obtain ⟨fc, fv⟩ := e.jobTo_frame (id := j.id) 2
  have fl : (e.jobTo j.id 2).strong.lanes = d.strong.lanes := (congrArg Strong.lanes (e.jobTo_strong 2)).trans el
  have hx := d.startJob_eq (l := l) (j := j) wait
  dsimp only at hx
  rw [he] at hx
  generalize e.jobTo j.id 2 = f at fj fj' fs fc fv fl hx
  have fo : f.oct K.srLaneState = d.oct K.srLaneState := congrArg Val.bytes ((fv _ (by decide)).trans (val_of_obj eo _))
  obtain ⟨g, hg⟩ : ∃ g, f.setLane l (fun x => { x with stack := j.id :: x.stack }) = g := ⟨_, rfl⟩
  have hgl : (g.lane l).stack = j.id :: (d.lane l).stack := by
    rw [← hg, Device.lane_setLane _ (by rw [fl, hlanes]; exact hl)]
    exact congrArg (fun x : List Lane => j.id :: (x.getD l {}).stack) fl
  have hgj : g.strong.jobs = f.strong.jobs ∧ g.obj = f.obj ∧ g.clock = f.clock := hg ▸ ⟨rfl, rfl, rfl⟩
  obtain ⟨gj, go, gc⟩ := hgj
  have hgo : (d.oct K.srLaneState).length = 4 → (g.oct K.srLaneState).length = 4 := ((congrArg (fun x : Val => x.bytes.length) (val_of_obj go K.srLaneState)).trans (congrArg List.length fo)).trans
  rw [hg] at hx
  have p1 (ho : (d.oct K.srLaneState).length = 4) := g.laneState_putLane (st := 3) hl (hgo ho) (by decide)
  have p2 := (g.stack_putLane (l := l) 3 l).trans hgl
  have p3 := (g.putLane_strong (l := l) 3).1
  have p4 : (g.putLane l 3).clock = g.clock := rfl
  have p5 : (g.putLane l 3).nat K.srJobState = f.nat K.srJobState :=
    (congrArg (fun v => v.int.toNat) (g.putLane_val 3 (by decide) (by decide))).trans (nat_of_obj go _)
  generalize g.putLane l 3 = p at p1 p2 p3 p4 p5 hx
  obtain ⟨q, hq⟩ : ∃ q, p.setNum K.srQueueDepth p.queueDepth = q := ⟨_, rfl⟩
  have hqs : q.strong = p.strong ∧ q.clock = p.clock := hq ▸ ⟨rfl, rfl⟩
  have hqv {k : Nat} (hk : k ≠ K.srQueueDepth) : q.val k = p.val k := hq ▸ Device.val_setVal_ne p _ hk
  rw [hq] at hx
  have hfinal : (d.startJob l j wait).strong = p.strong ∧ (d.startJob l j wait).clock = p.clock ∧
      (∀ k, k ≠ K.srQueueDepth → k ≠ K.srJobLane → (d.startJob l j wait).val k = p.val k) ∧
      (j.who = .owner → (d.startJob l j wait).nat K.srJobLane = l) := by
    rw [hx]
    split
    · next hw => exact ⟨hqs.1, hqs.2, fun k h1 h2 => (q.val_setVal_ne _ h2).trans (hqv h1), fun _ => congrArg Int.toNat (q.num_setNum_self K.srJobLane l)⟩
    · next hw => exact ⟨hqs.1, hqs.2, fun k h1 _ => hqv h1, fun h => absurd h hw⟩
  obtain ⟨r1, r2, r3, r4⟩ := hfinal
  have rjobs : (d.startJob l j wait).strong.jobs = f.strong.jobs := (congrArg Strong.jobs r1).trans (p3.trans gj)
  refine ⟨r2.trans (p4.trans (gc.trans (fc.trans ec))), (Device.job_of_jobs f rjobs _).trans fj, fun ho => ?_, ?_, fun hw => ⟨?_, r4 hw⟩, fun i hi => ?_⟩
  · exact (congrArg (fun v : Val => fieldNat v.bytes l 1) (r3 K.srLaneState (by decide) (by decide))).trans (p1 ho)
  · exact (congrArg (fun x : Strong => (x.lanes.getD l {}).stack) r1).trans p2
  · exact (congrArg (fun v => v.int.toNat) (r3 K.srJobState (by decide) (by decide))).trans (p5.trans (fs.trans (if_pos hw)))
  · exact (Device.job_of_jobs f rjobs i).trans ((fj' i hi).trans (hej' i hi))

end

end

end Sys2Proof.Machine
end

section
/-! Chapter 16: the check time, yields and the end of a job (R455 to R461). -/

namespace Sys2Proof.Machine

section
variable (d : Device) {e : Device}

/-! ## What a job reads -/

section
variable (h : e.obj = d.obj)
include h

theorem Device.oct_of_obj (k : Nat) : e.oct k = d.oct k := congrArg Val.bytes (val_of_obj h k)

theorem Device.slotBytes_of_obj (i : Nat) : e.slotBytes i = d.slotBytes i := by
  simp only [Device.slotBytes, Device.slotWords, d.oct_of_obj h]

theorem Device.inputsBad_of_obj (j : Job) : e.inputsBad j = d.inputsBad j := by
  simp only [Device.inputsBad, Device.slotNat, d.slotBytes_of_obj h]
  rfl

theorem Device.worstTicks_of_obj (j : Job) : e.worstTicks j = d.worstTicks j := by
  simp only [Device.worstTicks, Device.slotNat, d.slotBytes_of_obj h, Device.slotWords, d.oct_of_obj h]
  rfl

theorem Device.laneState_of_obj (l : Nat) : e.laneState l = d.laneState l := by simp only [Device.laneState, d.oct_of_obj h]

theorem Device.lanesUp_of_obj : e.lanesUp = d.lanesUp := by
  have hin : e.inService = d.inService := funext fun l => by simp only [Device.inService, d.laneState_of_obj h]
  rw [Device.lanesUp, hin, Device.lanesUp]

end

variable {l id : Nat} {rest : List Nat} {j : Job} (hs : (d.lane l).stack = id :: rest) (hj : d.job id = some j)
include hs hj

theorem Device.topJob_of : d.topJob l = some j := by
  rw [Device.topJob, hs]
  exact hj

/-! ## JOB_CHECK_END (R457, R458) -/

theorem Device.jobCheckEnd_other (h : j.state ≠ 2) : d.jobCheckEnd l none = d := by
  unfold Device.jobCheckEnd
  rw [d.topJob_of hs hj]
  exact if_neg h

/-- The part at the end of a check time, once what blinds the operation is drawn. -/
def Device.checkDone (d : Device) (j : Job) : Device :=
  if opSecret j.op then ((d.runTo j.due).drawBytes (blindBytes j.op)).2 else d.runTo j.due

omit hs hj in
theorem Device.checkDone_frame (j : Job) : (d.checkDone j).obj = d.obj ∧ (d.checkDone j).strong = d.strong := by
  unfold Device.checkDone
  split
  · exact ⟨rfl, rfl⟩
  · exact ⟨rfl, rfl⟩

theorem Device.jobCheckEnd_owner (h2 : j.state = 2) (hb : d.bookedStart j.due = d) (hw : j.who = .owner)
    (hsec : opSecret j.op = true → d.nat K.khEntropyState = 1) (hsig : opSigns j.op = true → j.alone = false ∧ 2 ≤ d.lanesUp.length) :
    d.jobCheckEnd l none = if d.inputsBad j then (d.checkDone j).endJob id 3 else if 0x40 ≤ j.op then (d.checkDone j).endJob id 1
      else ((d.checkDone j).jobTo id 3).setJob id (fun k => { k with due := k.start + d.worstTicks k }) := by
  obtain ⟨cobj, -⟩ := d.checkDone_frame j
  have hbad := d.inputsBad_of_obj cobj j
  have hworst := d.worstTicks_of_obj cobj
  have hup := d.lanesUp_of_obj cobj
  have hstart : (if d.bookedOn l then d.bookedStart j.due none else d) = d := by
    split
    · exact hb
    · rfl
  have htop : d.jobCheckEnd l none = d.checkEnd l none := by
    unfold Device.jobCheckEnd
    rw [d.topJob_of hs hj]
    exact (if_pos h2).trans (congrArg (fun x : Device => x.checkEnd l none) hstart)
  have hent : ¬ (opSecret j.op && Decidable.decide ((d.runTo j.due).nat K.khEntropyState ≠ 1)) = true := by
    rw [Device.runTo_nat, Bool.and_eq_true, decide_eq_true_eq]
    exact fun h => h.2 (hsec h.1)
  have hlone : ¬ (opSigns j.op && (j.alone || Decidable.decide ((d.checkDone j).lanesUp.length < 2))) = true := by
    rw [Bool.and_eq_true, Bool.or_eq_true, decide_eq_true_eq, hup]
    rintro ⟨h1, h3⟩
    obtain ⟨ha, hl⟩ := hsig h1
    exact h3.elim (fun h => Bool.false_ne_true (ha.symm.trans h)) (fun h => Nat.not_lt.2 hl h)
  rw [htop]
  unfold Device.checkEnd
  rw [hs]
  dsimp only
  rw [hj]
  refine (if_neg (not_not.2 h2)).trans ((if_neg hent).trans ?_)
  change (if (opSigns j.op && (j.alone || Decidable.decide ((d.checkDone j).lanesUp.length < 2))) = true then _ else
    if (Decidable.decide (j.who = .owner) && (d.checkDone j).inputsBad j) = true then (d.checkDone j).endJob id 3 else if 0x40 ≤ j.op then (d.checkDone j).endJob id 1
      else ((d.checkDone j).jobTo id 3).setJob id (fun k => { k with due := k.start + (d.checkDone j).worstTicks k })) = _
  rw [if_neg hlone, hbad, hw, funext hworst]
  simp only [decide_true, Bool.true_and]

/-! ## JOB_YIELD (R455) -/

theorem Device.jobYield_none (h : d.nextJob l j.prio = none) : d.jobYield l wait false = d := by
  unfold Device.jobYield
  rw [if_neg (by decide), d.topJob_of hs hj]
  exact if_pos (by simp [h])

theorem Device.jobYield_some {wait : Nat} {k : Job} (h3 : j.state = 3) (hy : d.yields j = true) (hb : (d.lane l).booked = false)
    (hstart : d.bookedStart (d.clock.ticks + min wait 2125) = d) (hk : d.nextJob l j.prio = some k) :
    d.jobYield l wait false = ((d.elapse (min wait 2125)).yieldTop l).startJob l k 375 := by
  have hgo : ¬ (Decidable.decide (j.state ≠ 3) || !d.yields j || (d.lane l).booked || (d.nextJob l j.prio).isNone) = true := by
    simp [h3, hy, hb, hk]
  have hsame : (if d.bookedOn l then d.bookedStart (d.clock.ticks + min wait 2125) else d) = d := by
    split
    · exact hstart
    · rfl
  unfold Device.jobYield
  rw [if_neg (by decide), d.topJob_of hs hj]
  refine (if_neg hgo).trans ?_
  dsimp only
  rw [hsame]
  refine (if_neg (by rw [hb]; decide)).trans ?_
  rw [hk]

/-- R455: what a yield leaves: the running job saved, the higher one dispatched. -/
theorem Device.jobYield_obeys {wait : Nat} {k : Job} (hl : l < 4) (hlanes : d.strong.lanes.length = 4) (h3 : j.state = 3)
    (hk1 : k.state = 1) (hk : d.job k.id = some k) : let e := d.elapse (min wait 2125)
    let t := (e.yieldTop l).startJob l k 375
    t.clock = e.clock ∧ t.job id = some { j with state := 4, left := j.due - e.clock.ticks } ∧
      t.job k.id = some { k with lane := some l, start := e.clock.ticks + 375, due := e.clock.ticks + 375 + checkTicks k.op, state := 2 } ∧
      (t.lane l).stack = k.id :: id :: rest := by
  have hne : id ≠ k.id := by
    intro he
    rw [he, hk] at hj
    rw [← Option.some.inj hj, hk1] at h3
    exact absurd h3 (by decide)
  obtain ⟨e, he⟩ : ∃ e, d.elapse (min wait 2125) = e := ⟨_, rfl⟩
  have es : e.strong = d.strong := he ▸ rfl
  have hstack : (e.lane l).stack = id :: rest := (congrArg (fun s : Strong => (s.lanes.getD l {}).stack) es).trans hs
  have hej : ∀ i, e.job i = d.job i := Device.job_of_jobs d (congrArg Strong.jobs es)
  obtain ⟨y, hy⟩ : ∃ y, e.yieldTop l = y := ⟨_, rfl⟩
  have hyeq : y = (e.jobTo id 4).setJob id (fun j => { j with left := j.due - e.clock.ticks }) := by
    rw [← hy, Device.yieldTop, hstack]
  obtain ⟨fc, -⟩ := e.jobTo_frame (id := id) 4
  have fj := e.job_jobTo_self 4 ((hej id).trans hj)
  have yj : y.job id = some { j with state := 4, left := j.due - e.clock.ticks } := hyeq ▸ Device.job_setJob_self _ (by intro _; rfl) fj
  have yk : y.job k.id = some k := by
    rw [hyeq]
    exact (Device.job_setJob_ne _ (by intro _; rfl) (Ne.symm hne)).trans ((e.job_jobTo_ne 4 (Ne.symm hne)).trans ((hej _).trans hk))
  have yclock : y.clock = e.clock := hyeq ▸ fc
  have ylanes : y.strong.lanes = d.strong.lanes := by
    rw [hyeq]
    have hl := congrArg Strong.lanes (e.jobTo_strong (id := id) 4)
    have hlanes : e.strong.lanes = d.strong.lanes := congrArg Strong.lanes es
    exact hl.trans hlanes
  obtain ⟨t1, t2, -, t4, -, t6⟩ := y.startJob_obeys 375 hl (by rw [ylanes, hlanes]) yk
  simp only [he, hy]
  rw [yclock] at t1 t2
  refine ⟨t1, (t6 id hne).trans yj, t2, t4.trans ?_⟩
  exact congrArg (k.id :: ·) ((congrArg (fun x : List Lane => (x.getD l {}).stack) ylanes).trans hs)

/-! ## JOB_COMPLETE (R460, R461, R464) -/

theorem Device.jobComplete_idle (wait : Nat) (sound third : Bool) (h : j.state ≠ 3 ∨ (d.lane l).booked = true) : d.jobComplete l wait sound third = d := by
  unfold Device.jobComplete
  rw [d.topJob_of hs hj]
  exact if_pos (by simpa using h)

/-- The tick at which a job that `wait` ticks are left to completes. -/
def Device.jobStop (d : Device) (j : Job) (wait : Nat) : Nat := if j.op < 0x10 then j.due else min (d.clock.ticks + wait) j.due

theorem Device.jobComplete_owner {wait : Nat} {sound third : Bool} (h3 : j.state = 3) (hb : (d.lane l).booked = false)
    (hstart : d.bookedStart (d.jobStop j wait) = d) (hw : j.who = .owner) {r : Nat} {w : List (Nat × Bytes)} {e : Device}
    (hc : (d.runTo (d.jobStop j wait)).compute j = (r, w, e)) : d.jobComplete l wait sound third =
      if opSigns j.op then (e.setJob id (fun k => { k with buffer := w })).sendToVerify j l else (w.foldl (fun d x => d.putSlot x.1 x.2) e).endJob id r := by
  have hstop : (if opModular j.op = true then j.due else min (d.clock.ticks + wait) j.due) = d.jobStop j wait := by
    simp [opModular, Device.jobStop]
  have hsame : (if d.bookedOn l then d.bookedStart (d.jobStop j wait) else d) = d := by
    split
    · exact hstart
    · rfl
  unfold Device.jobComplete
  rw [d.topJob_of hs hj]
  refine (if_neg (by simp [h3, hb])).trans ?_
  dsimp only
  rw [hstop, hsame]
  refine (if_neg (by rw [hb]; decide)).trans ?_
  rw [hw, hc, Device.job_id hj]

end

section
variable (d : Device)

/-- A signature leaves the objects and the time alone: its nonce comes from the DRBG. -/
theorem Device.compute_signs {j : Job} (h : opSigns j.op = true) : let e := (d.compute j).2.2
    e.clock = d.clock ∧ e.obj = d.obj ∧ e.strong = d.strong := by
  have hop : j.op = 0x10 ∨ j.op = 0x18 ∨ j.op = 0x20 := by simpa [opSigns, or_assoc] using h
  unfold Device.compute
  obtain h | h | h := hop
  · rw [h]
    exact ⟨rfl, rfl, rfl⟩
  · rw [h]
    exact ⟨rfl, rfl, rfl⟩
  · rw [h]
    exact ⟨rfl, rfl, rfl⟩

/-- R460: what it leaves that a signature waits for its verification. -/
theorem Device.sendToVerify_obeys {l id z : Nat} {rest : List Nat} {j : Job} (hs : (d.lane l).stack = id :: rest) (hj : d.job id = some j) (hw : j.who = .owner)
    (hz : d.lanesUp.find? (fun z => z ≠ l) = some z) (hk : ∀ k ∈ d.strong.jobs, k.id < d.strong.nextId ∧ (k.who = .owner → k.id = id)) :
    let t := d.sendToVerify j l
    t.clock = d.clock ∧ t.job id = some { j with state := 5 } ∧
      (∃ b ∈ t.strong.jobs, b.who = .check id ∧ b.only = some z ∧ b.state = 1 ∧ b.prio = j.prio) ∧ t.nat K.srJobState = 5 := by
  have hid := Device.job_id hj
  have hlane : l < d.strong.lanes.length := by
    by_contra hn
    rw [Device.lane, List.getD_eq_default _ _ (Nat.not_lt.1 hn)] at hs
    exact absurd hs (by simp)
  obtain ⟨fc, -⟩ := d.jobTo_frame (id := id) 5
  have fs := d.jobTo_strong (id := id) 5
  have fj := d.job_jobTo_self 5 hj
  have fshown := (d.jobTo_shown 5 hj).trans (if_pos hw)
  have hx : d.sendToVerify j l = (((d.jobTo id 5).setLane l (fun x => { x with stack := x.stack.filter (· ≠ id) })).queueJob
      { id := 0, prio := j.prio, op := j.op + 1, msgLen := j.msgLen, who := .check id, only := some z }).resumeTop l := by
    unfold Device.sendToVerify
    rw [hz, hid]
  generalize d.jobTo id 5 = f at fc fs fj fshown hx
  obtain ⟨g, hg⟩ : ∃ g, f.setLane l (fun x => { x with stack := x.stack.filter (· ≠ id) }) = g := ⟨_, rfl⟩
  have hgf : g.clock = f.clock ∧ g.strong.jobs = f.strong.jobs ∧ g.obj = f.obj ∧ g.strong.nextId = f.strong.nextId := hg ▸ ⟨rfl, rfl, rfl, rfl⟩
  obtain ⟨gc, gj, go, gn⟩ := hgf
  have hgl : (g.lane l).stack = rest.filter (· ≠ id) := by
    rw [← hg, Device.lane_setLane _ (by rw [fs]; exact hlane)]
    show List.filter _ (f.lane l).stack = _
    rw [show (f.lane l).stack = id :: rest from (congrArg (fun s : Strong => (s.lanes.getD l {}).stack) fs).trans hs]
    simp
  rw [hg] at hx
  have hids : ∀ x ∈ g.strong.jobs, x.id < d.strong.nextId ∧ (x.who = .owner → x.id = id) := by
    rw [gj, fs]
    intro x hxm
    obtain ⟨y, hy, rfl⟩ := List.mem_map.1 hxm
    split
    · exact hk y hy
    · exact hk y hy
  have hnext : g.strong.nextId = d.strong.nextId := by
    rw [gn, fs]
    rfl
  obtain ⟨b, hb⟩ : ∃ b, g.queued { id := 0, prio := j.prio, op := j.op + 1, msgLen := j.msgLen, who := .check id, only := some z } = b := ⟨_, rfl⟩
  have hbf : b.id = d.strong.nextId ∧ b.who = .check id ∧ b.only = some z ∧ b.state = 1 ∧ b.prio = j.prio := hb ▸ ⟨hnext, rfl, rfl, rfl, rfl⟩
  obtain ⟨b1, b2, b3, b4, b5⟩ := hbf
  have qjobs := g.queueJob_jobs { id := 0, prio := j.prio, op := j.op + 1, msgLen := j.msgLen, who := .check id, only := some z }
  have qclock := (g.queueJob_frame { id := 0, prio := j.prio, op := j.op + 1, msgLen := j.msgLen, who := .check id, only := some z }).1
  have qshown := g.queueJob_nat { id := 0, prio := j.prio, op := j.op + 1, msgLen := j.msgLen, who := .check id, only := some z } (k := K.srJobState)
    (by decide) (by decide)
  have qlane : ((g.queueJob { id := 0, prio := j.prio, op := j.op + 1, msgLen := j.msgLen, who := .check id, only := some z }).lane l).stack = (g.lane l).stack := rfl
  rw [hb] at qjobs
  generalize g.queueJob { id := 0, prio := j.prio, op := j.op + 1, msgLen := j.msgLen, who := .check id, only := some z } = q at qjobs qclock qshown qlane hx
  have hhead : (q.lane l).stack.head? ≠ some id := by
    rw [qlane, hgl]
    intro hc
    have := List.mem_of_mem_head? hc
    simp at this
  have hgid : g.job id = some { j with state := 5 } := (Device.job_of_jobs f gj id).trans fj
  have hqid : q.job id = some { j with state := 5 } := by
    rw [Device.job, qjobs, List.find?_append, show g.strong.jobs.find? (fun x => Decidable.decide (x.id = id)) = _ from hgid]
    rfl
  rw [hx]
  refine ⟨(q.follows_resumeTop l).clock.trans (qclock.trans (gc.trans fc)), (q.job_resumeTop hhead).trans hqid, ⟨b, ?_, b2, b3, b4, b5⟩, ?_⟩
  · refine q.resumeTop_waiting (by rw [qjobs]; simp) (fun y hy hyb => ?_) (by rw [b4]; decide)
    rw [qjobs, List.mem_append, List.mem_singleton] at hy
    obtain hy | hy := hy
    · exact absurd (hyb.trans b1) (Nat.ne_of_lt (hids y hy).1)
    · exact hy
  · refine (congrArg (fun v => v.int.toNat) (q.resumeTop_shown fun i x hi hxi hown => ?_)).trans (qshown.trans ((nat_of_obj go _).trans fshown))
    have hmem := Device.job_mem hxi
    rw [qjobs, List.mem_append, List.mem_singleton] at hmem
    obtain hm | hm := hmem
    · exact hhead (hi.trans (congrArg some ((Device.job_id hxi).symm.trans ((hids x hm).2 hown))))
    · rw [hm, b2] at hown
      exact absurd hown (by simp)

end

end Sys2Proof.Machine
end

section
/-! Chapter 16: the end of a job, lane tests, and the slots (R443 to R446, R456, R459, R466). -/

namespace Sys2Proof.Machine

section
variable (d : Device) {e : Device}

/-! ## The end of an owner's job (R456) -/

section
variable {id : Nat} {j : Job} (r : Nat) (hj : d.job id = some j) (hw : j.who = .owner) (hown : ∀ k ∈ d.strong.jobs, k.who = .owner → k.id = id)

omit hw hown hj in
theorem Device.foldl_putSlot_strong {α : Type} (l : List α) (s : α → Nat) (b : α → Bytes) : (l.foldl (fun d x => d.putSlot (s x) (b x)) d).strong = d.strong ∧
    (l.foldl (fun d x => d.putSlot (s x) (b x)) d).clock = d.clock := by
  induction l generalizing d with
  | nil => exact ⟨rfl, rfl⟩
  | cons x l ih =>
    obtain ⟨h1, h2⟩ := ih (d.putSlot (s x) (b x))
    exact ⟨h1, h2⟩

omit hw hown hj in
theorem Device.endRecorded_same : (d.endRecorded j r).obj = d.obj ∧ (d.endRecorded j r).strong = d.strong := by
  unfold Device.endRecorded
  split
  · exact ⟨rfl, rfl⟩
  · exact ⟨rfl, rfl⟩

omit hw hown hj in
theorem Device.endWiped_strong : (d.endWiped j r).strong = d.strong := by
  unfold Device.endWiped Device.zeroOuts
  split
  · split
    · exact (d.foldl_putSlot_strong j.writes (fun s => s) (fun _ => [])).1
    · rfl
  · rfl

omit hw hown hj in
theorem Device.endCounted_strong : (d.endCounted r).strong = d.strong := by
  unfold Device.endCounted
  repeat' split
  all_goals rfl

/-- What the objects of the owner's job show is left by the lane's next one, where no owner's job is left. -/
theorem Device.endFreed_shown (h : ∀ k ∈ d.strong.jobs, k.who ≠ .owner) (id : Nat) (j : Job) {k : Nat}
    (hk : k = K.srJobState ∨ laneKey k = false) : (d.endFreed id j).val k = d.val k := by
  unfold Device.endFreed
  split
  · split
    · rfl
    · obtain hk | hk := hk
      · rw [hk]
        exact Device.resumeTop_shown _ fun i x _ hx => h x (Device.job_mem hx)
      · exact (Device.follows_resumeTop _ _).val hk
  · rfl

theorem Device.endFreed_ids (id : Nat) (j : Job) : (d.endFreed id j).strong.jobs.map Job.id = d.strong.jobs.map Job.id := by
  unfold Device.endFreed
  split
  · split
    · rfl
    · exact Device.resumeTop_ids _
  · rfl

include hj hw hown

theorem Device.endJob_shows : let t := d.endJob id r
    t.nat K.srJobState = 6 ∧ t.nat K.srJobResult = r ∧ t.job id = none ∧ t.clock = d.clock ∧
      (j.state ≠ 1 → t.nat K.srJobTime = min ((d.clock.ticks - j.start) * 4 / 5) 0xFFFFFFFF) := by
  have hclock : (d.endJob id r).clock = d.clock := congrArg (fun x => x.1.clock) (d.jobs_endJob id r).rest
  have hx := d.endJob_some r hj
  obtain ⟨c, hc⟩ : ∃ c, (d.endWiped j r).endCounted r = c := ⟨_, rfl⟩
  have hcs : c.strong = d.strong := hc ▸ ((d.endWiped j r).endCounted_strong r).trans (d.endWiped_strong r)
  rw [hc] at hx
  have hshow : c.endShown j r (d.jobTime j) = c.setNums [(K.srJobState, 6), (K.srJobResult, r), (K.srJobLane, j.lane.getD 0xFF),
      (K.srJobTime, (min (d.jobTime j) 0xFFFFFFFF : Nat))] := if_pos hw
  have hmem {k : Nat} {v : Int} (h : (k, v) ∈ [(K.srJobState, (6 : Int)), (K.srJobResult, (r : Int)), (K.srJobLane, (j.lane.getD 0xFF : Int)),
      (K.srJobTime, ((min (d.jobTime j) 0xFFFFFFFF : Nat) : Int))]) : (c.setNums _).num k = v :=
    Device.num_setNums_of_mem _ (by simp only [List.map_cons, List.map_nil]; decide) h
  have sstrong : (c.setNums [(K.srJobState, 6), (K.srJobResult, r), (K.srJobLane, j.lane.getD 0xFF),
      (K.srJobTime, (min (d.jobTime j) 0xFFFFFFFF : Nat))]).strong = c.strong := rfl
  have s6 := hmem (k := K.srJobState) (v := 6) (by simp)
  have sr := hmem (k := K.srJobResult) (v := r) (by simp)
  have st := hmem (k := K.srJobTime) (v := (min (d.jobTime j) 0xFFFFFFFF : Nat)) (by simp)
  rw [hshow] at hx
  clear hmem hshow hc
  generalize c.setNums [(K.srJobState, 6), (K.srJobResult, (r : Int)), (K.srJobLane, (j.lane.getD 0xFF : Int)),
      (K.srJobTime, ((min (d.jobTime j) 0xFFFFFFFF : Nat) : Int))] = s at *
  obtain ⟨ro, rs⟩ := s.endRecorded_same (j := j) r
  generalize s.endRecorded j r = f at ro rs hx
  obtain ⟨g, hg⟩ : ∃ g, f.endListed id j r = g := ⟨_, rfl⟩
  have hwaits : j.who.waits = false := by rw [hw]; rfl
  have hgj : g.strong.jobs = d.strong.jobs.filter (fun x => x.id ≠ id) := by
    rw [← hg, Device.endListed, hwaits, ← hcs, ← sstrong, ← rs]
    rfl
  have hgv {k : Nat} (hk : k ≠ K.srQueueDepth) : g.val k = f.val k := by
    rw [← hg]
    exact Device.val_setVal_ne _ _ hk
  have hnone : ∀ x ∈ g.strong.jobs, x.who ≠ .owner := by
    rw [hgj]
    intro x hxm ho
    obtain ⟨hm, hn⟩ := List.mem_filter.1 hxm
    exact absurd (hown x hm ho) (by simpa using hn)
  have hval {k : Nat} (h1 : k ≠ K.srQueueDepth) (h2 : k = K.srJobState ∨ laneKey k = false) : (d.endJob id r).val k = s.val k := by
    rw [hx, hg]
    exact (g.endFreed_shown hnone id j h2).trans ((hgv h1).trans (val_of_obj ro k))
  have hids : (d.endJob id r).strong.jobs.map Job.id = g.strong.jobs.map Job.id := by
    rw [hx, hg]
    exact g.endFreed_ids id j
  refine ⟨?_, ?_, ?_, hclock, fun hs => ?_⟩
  · exact (congrArg (fun v => v.int.toNat) (hval (by decide) (.inl rfl))).trans (congrArg Int.toNat s6)
  · exact (congrArg (fun v => v.int.toNat) (hval (by decide) (.inr (by decide)))).trans (congrArg Int.toNat sr)
  · rw [Device.job_eq_none_iff, hids, hgj]
    simp
  · refine (congrArg (fun v => v.int.toNat) (hval (k := K.srJobTime) (by decide) (.inr (by decide)))).trans ((congrArg Int.toNat st).trans ?_)
    rw [Device.jobTime, if_neg hs]
    exact Int.toNat_natCast _

end

/-! ## Verifications given up, and jobs aborted (R459) -/

theorem Device.dropCheck_none {id : Nat} (h : ∀ x ∈ d.strong.jobs, x.who ≠ .check id) : d.dropCheck id = d := by
  unfold Device.dropCheck
  rw [List.find?_eq_none.2 (by simpa using h)]

theorem Device.dropCheck_some {id : Nat} {c : Job} (h : d.strong.jobs.find? (fun x => x.who = .check id) = some c) :
    (d.dropCheck id).clock = d.clock ∧ ∀ x ∈ (d.dropCheck id).strong.jobs, x.id ≠ c.id := by
  have hids : (d.dropCheck id).clock = d.clock ∧
      (d.dropCheck id).strong.jobs.map Job.id = (d.strong.jobs.filter (fun x => x.id ≠ c.id)).map Job.id := by
    unfold Device.dropCheck
    rw [h]
    dsimp only
    split
    · exact ⟨(Device.follows_resumeTop _ _).clock, Device.resumeTop_ids _⟩
    · exact ⟨rfl, rfl⟩
  refine ⟨hids.1, fun x hx => ?_⟩
  have hm := List.mem_map_of_mem (f := Job.id) hx
  rw [hids.2] at hm
  obtain ⟨y, hy, hyx⟩ := List.mem_map.1 hm
  exact hyx ▸ by simpa using (List.mem_filter.1 hy).2

theorem Device.dropCheck_clock (id : Nat) : (d.dropCheck id).clock = d.clock := by
  cases h : d.strong.jobs.find? (fun x => x.who = .check id) with
  | none => rw [d.dropCheck_none (by simpa using List.find?_eq_none.1 h)]
  | some c => exact (d.dropCheck_some h).1

theorem Device.writeJobAbort_none (h : d.strong.jobs.find? (fun j => j.who = .owner) = none) : d.writeJobAbort = (St.state, d) := by
  unfold Device.writeJobAbort
  rw [h]

theorem Device.writeJobAbort_some {j : Job} (h : d.strong.jobs.find? (fun j => j.who = .owner) = some j) :
    d.writeJobAbort = (St.ok, (d.dropCheck j.id).endJob j.id 4) := by
  unfold Device.writeJobAbort
  rw [h]

/-! ## Lane tests (R443) -/

section
variable {l st : Nat} (hl : l < 4) (ho : (d.oct K.srLaneState).length = 4) (hs : st < 256) (cause : Nat)
include hl ho hs

/-- What a lane's change of state leaves: its state, the count of lanes in service, its record and what it costs Parlour. -/
theorem Device.laneTo_obeys : let t := d.laneTo l st cause
    t.laneState l = st ∧ t.clock = d.clock ∧ newReports d t = (0x0B01, [(l : Int), (d.laneState l : Int), (st : Int), (cause : Int)]) :: d.lossReports t ∧
      t.nat K.srLanesInService = t.lanesUp.length ∧ (∀ k, k ≠ K.srLaneState → k ≠ K.srLanesInService → t.val k = d.val k) ∧
      ∀ m, m ≠ l → t.laneState m = d.laneState m := by
  have h1 := d.laneState_putLane (st := st) hl ho hs
  have h2 (m : Nat) (hm : m ≠ l) := d.laneState_putLane_ne (m := m) st hl ho hm
  have h3 {k : Nat} (a : k ≠ K.srLaneState) (b : k ≠ K.srLanesInService) := d.putLane_val (l := l) st a b
  have h4 : (d.putLane l st).nat K.srLanesInService = (d.setOct K.srLaneState (putBytes (d.oct K.srLaneState) l (toBE 1 st))).lanesUp.length := by
    have := congrArg Int.toNat ((d.setOct K.srLaneState (putBytes (d.oct K.srLaneState) l (toBE 1 st))).num_setNum_self K.srLanesInService
      ((d.setOct K.srLaneState (putBytes (d.oct K.srLaneState) l (toBE 1 st))).lanesUp.length : Nat))
    exact this
  have h5 : (d.putLane l st).clock = d.clock ∧ (d.putLane l st).entries = d.entries := ⟨rfl, rfl⟩
  obtain ⟨h5, h6⟩ := h5
  have hoct : (d.putLane l st).oct K.srLaneState = (d.setOct K.srLaneState (putBytes (d.oct K.srLaneState) l (toBE 1 st))).oct K.srLaneState :=
    congrArg Val.bytes (Device.val_setVal_ne (d.setOct K.srLaneState _) (k := K.srLanesInService) (j := K.srLaneState) (.num _) (by decide))
  have hup : (d.putLane l st).lanesUp = (d.setOct K.srLaneState (putBytes (d.oct K.srLaneState) l (toBE 1 st))).lanesUp := by
    have hin : (d.putLane l st).inService = (d.setOct K.srLaneState (putBytes (d.oct K.srLaneState) l (toBE 1 st))).inService :=
      funext fun m => by simp only [Device.inService, Device.laneState, hoct]; rfl
    rw [Device.lanesUp, hin, Device.lanesUp]
  rw [← hup] at h4
  unfold Device.laneTo
  generalize d.putLane l st = p at h1 h2 h3 h4 h5 h6 ⊢
  have hr := p.entries_report 0x0B01 [(l : Int), (d.laneState l : Int), (st : Int), (cause : Int)]
  have hro : (p.report 0x0B01 [(l : Int), (d.laneState l : Int), (st : Int), (cause : Int)]).obj = p.obj ∧
    (p.report 0x0B01 [(l : Int), (d.laneState l : Int), (st : Int), (cause : Int)]).clock = p.clock := ⟨rfl, rfl⟩
  obtain ⟨ro, rc⟩ := hro
  generalize p.report 0x0B01 [(l : Int), (d.laneState l : Int), (st : Int), (cause : Int)] = q at hr ro rc ⊢
  obtain ⟨no, nc, -, -⟩ := q.noteLoss_same d
  have hn := q.entries_noteLoss d
  generalize q.noteLoss d = t at no nc hn ⊢
  have hobj : t.obj = p.obj := no.trans ro
  have hloss : d.lossReports t = d.lossReports q := by
    have hprov : t.providerLost = q.providerLost := funext fun c => by
      simp only [Device.providerLost, Device.ledgerKeyOk, q.lanesUp_of_obj no, nat_of_obj no]
    rw [Device.lossReports, hprov, Device.lossReports]
  refine ⟨(p.laneState_of_obj hobj l).trans h1, nc.trans (rc.trans h5), ?_, ?_, fun k a b => (val_of_obj hobj k).trans (h3 a b), fun m hm =>
    (p.laneState_of_obj hobj m).trans (h2 m hm)⟩
  · rw [hloss]
    refine newReports_of_entries ?_
    rw [hn, hr, h6, List.append_assoc]
    rfl
  · rw [nat_of_obj hobj, p.lanesUp_of_obj hobj, h4]

/-- R443: neither QUARANTINED nor SELF_TEST is in service, so that Parlour loses no lane by a change between them. -/
theorem Device.laneTo_lossless (h1 : d.inService l = false) (h2 : st ≠ 2 ∧ st ≠ 3) : d.lossReports (d.laneTo l st cause) = [] := by
  obtain ⟨t1, -, -, -, t5, t6⟩ := d.laneTo_obeys hl ho hs cause
  generalize d.laneTo l st cause = t at *
  have hin : t.inService = d.inService := funext fun m => by
    by_cases hm : m = l
    · rw [hm, h1, Device.inService, t1]
      simp [h2]
    · rw [Device.inService, t6 m hm, Device.inService]
  have hn {k : Nat} (a : k ≠ K.srLaneState) (b : k ≠ K.srLanesInService) : t.nat k = d.nat k := congrArg (fun v => v.int.toNat) (t5 k a b)
  have hne : ∀ x, slotKey x (K.ksState x) = true := fun x => (slotKey_key x).1
  have hok (x g : Nat) : t.ledgerKeyOk x g = d.ledgerKeyOk x g := by
    obtain ⟨k1, k2, k3, -, -⟩ := slotKey_key x
    have hk {k : Nat} (hk : slotKey x k = true) : t.nat k = d.nat k :=
      hn (fun h => absurd (slotKey_low x (x := K.srLaneState) (by decide)) (by rw [← h, hk]; decide))
        (fun h => absurd (slotKey_low x (x := K.srLanesInService) (by decide)) (by rw [← h, hk]; decide))
    exact Device.ledgerKeyOk_congr (hk k1) (hk k3) (hk k2) g
  refine t.lossReports_nil fun c _ => ?_
  unfold Device.providerLost
  rw [Device.lanesUp, Device.lanesUp, hin, hn (k := K.ledgerKeySlot) (by decide) (by decide), hn (k := K.ledgerSig) (by decide) (by decide),
    hn (k := K.ksState 60) (by decide) (by decide), hok]

end

section
variable {l : Nat} (hl : l < 4) (ho : (d.oct K.srLaneState).length = 4)
include hl ho

omit hl ho in
theorem Device.selfTestEnd_other (wait : Nat) (pass : Bool) (h : d.laneState l ≠ 1) : d.selfTestEnd l wait pass = d := if_pos (by simp [h])

theorem Device.selfTestEnd_obeys (wait : Nat) (pass : Bool) (h : d.laneState l = 1) : let t := d.selfTestEnd l wait pass
    t.clock = (d.runTo (min (d.clock.ticks + wait) ((d.lane l).testing + 375000))).clock ∧ t.laneState l = (if pass then 2 else 4) ∧
      newReports d t = (0x0B01, if pass then [(l : Int), 1, 2, 1] else [(l : Int), 1, 4, 2]) :: d.lossReports t ∧
      t.nat K.srLanesInService = t.lanesUp.length := by
  have hx : d.selfTestEnd l wait pass = if pass then (d.runTo (min (d.clock.ticks + wait) ((d.lane l).testing + 375000))).laneTo l 2 1
      else (d.runTo (min (d.clock.ticks + wait) ((d.lane l).testing + 375000))).laneTo l 4 2 := by
    unfold Device.selfTestEnd
    exact if_neg (by simp [h, Nat.not_le.2 hl])
  obtain ⟨e, he⟩ : ∃ e, d.runTo (min (d.clock.ticks + wait) ((d.lane l).testing + 375000)) = e := ⟨_, rfl⟩
  have hes : e.obj = d.obj ∧ e.attic = d.attic := he ▸ ⟨rfl, rfl⟩
  obtain ⟨eo, ee⟩ := hes
  rw [he] at hx ⊢
  have hnew {t : Device} : newReports d t = newReports e t := by rw [newReports, newReports, ee]
  have hloss {t : Device} : d.lossReports t = e.lossReports t := by
    have hprov : e.providerLost = d.providerLost := funext fun c => by
      simp only [Device.providerLost, Device.ledgerKeyOk, d.lanesUp_of_obj eo, nat_of_obj eo]
    rw [Device.lossReports, ← hprov, Device.lossReports]
  have ho' : (e.oct K.srLaneState).length = 4 := by rw [d.oct_of_obj eo, ho]
  have h' : e.laneState l = 1 := by rw [d.laneState_of_obj eo, h]
  cases pass with
  | true =>
    obtain ⟨t1, t2, t3, t4, -⟩ := e.laneTo_obeys (st := 2) hl ho' (by decide) 1
    rw [if_pos rfl] at hx
    rw [h'] at t3
    dsimp only
    rw [hx, hnew, hloss]
    exact ⟨t2, t1, t3, t4⟩
  | false =>
    obtain ⟨t1, t2, t3, t4, -⟩ := e.laneTo_obeys (st := 4) hl ho' (by decide) 2
    rw [if_neg Bool.false_ne_true] at hx
    rw [h'] at t3
    dsimp only
    rw [hx, hnew, hloss]
    exact ⟨t2, t1, t3, t4⟩

omit hl ho in
theorem Device.writeLaneRestore_other (h : d.laneState l ≠ 4) : d.writeLaneRestore l = (St.state, d) := if_pos h

theorem Device.writeLaneRestore_obeys (h : d.laneState l = 4) : ∃ e, d.writeLaneRestore l = (St.ok, e) ∧ e.laneState l = 1 ∧
    newReports d e = [(0x0B01, [(l : Int), 4, 1, 6])] ∧ e.clock = d.clock ∧ ∀ k, k ≠ K.srLaneState → k ≠ K.srLanesInService → e.val k = d.val k := by
  obtain ⟨t1, t2, t3, -, t5, -⟩ := d.laneTo_obeys (st := 1) hl ho (by decide) 6
  have hl0 := d.laneTo_lossless (st := 1) hl ho (by decide) 6 (by simp [Device.inService, h]) ⟨by decide, by decide⟩
  have hx : d.writeLaneRestore l = (St.ok, (d.laneTo l 1 6).setLane l (fun x => { x with testing := d.clock.ticks })) := if_neg (not_not.2 h)
  generalize d.laneTo l 1 6 = t at *
  rw [hl0, h] at t3
  exact ⟨_, hx, t1, t3, t2, t5⟩

end

/-! ## Slots (R446, R466) -/

theorem Device.layoutBad_iff (v : Bytes) : layoutBad v = true ↔ (∃ x ∈ v, x.toNat < 4 ∨ 128 < x.toNat) ∨ 4096 < (v.map (·.toNat)).sum := by
  have hsum : v.foldl (fun s x => s + x.toNat) 0 = (v.map (·.toNat)).sum := by
    rw [List.sum_eq_foldl_nat, List.foldl_map]
  simp [layoutBad, hsum]

/-- A slot that is zeroed reads zeros, whatever else is zeroed after it. -/
theorem Device.slotBytes_putSlot (i m : Nat) (hz : i = m ∨ ∀ x ∈ d.slotBytes i, x = 0) : ∀ x ∈ (d.putSlot m []).slotBytes i, x = 0 := by
  have hw (n : Nat) : (d.putSlot m []).slotWords n = d.slotWords n := by
    refine congrArg (fun b => fieldNat b n 1) (congrArg Val.bytes (d.val_setVal_ne _ ?_))
    simp only [K.srSlotData, K.srSlotLayout]
    omega
  intro x hx
  by_cases him : i = m
  · subst him
    rw [Device.slotBytes, hw, show (d.putSlot i []).oct (K.srSlotData i) = _ from d.oct_setOct_self _ _] at hx
    simp only [padTo, lastBytes, List.append_nil] at hx
    have := List.mem_of_mem_take hx
    simp only [List.mem_append, List.mem_replicate, List.drop_replicate] at this
    exact this.elim (·.2) (·.2)
  · have hne : K.srSlotData i ≠ K.srSlotData m := by
      simp only [K.srSlotData]
      omega
    rw [Device.slotBytes, hw, show (d.putSlot m []).oct (K.srSlotData i) = d.oct (K.srSlotData i) from congrArg Val.bytes (d.val_setVal_ne _ hne)] at hx
    exact hz.resolve_left him x hx

theorem Device.slotBytes_zeroed (l : List Nat) (i : Nat) (hz : i ∈ l ∨ ∀ x ∈ d.slotBytes i, x = 0) :
    ∀ x ∈ (l.foldl (fun d s => d.putSlot s []) d).slotBytes i, x = 0 := by
  induction l generalizing d with
  | nil => exact hz.resolve_left (by simp)
  | cons m l ih =>
    refine ih (d.putSlot m []) ?_
    obtain h | h := hz
    · obtain h | h := List.mem_cons.1 h
      · exact .inr (d.slotBytes_putSlot i m (.inl h))
      · exact .inl h
    · exact .inr (d.slotBytes_putSlot i m (.inr h))

theorem Device.oct_zeroed (l : List Nat) : (l.foldl (fun d s => d.putSlot s []) d).oct K.srSlotLayout = d.oct K.srSlotLayout := by
  induction l generalizing d with
  | nil => rfl
  | cons m l ih =>
    refine (ih (d.putSlot m [])).trans (congrArg Val.bytes (d.val_setVal_ne _ ?_))
    simp only [K.srSlotData, K.srSlotLayout]
    omega

theorem Device.jobs_owner_iff : (d.strong.jobs.any fun j => j.who = .owner) = true ↔ ∃ j ∈ d.strong.jobs, j.who = .owner := by simp

theorem Device.writeSlotLayout_obeys {v : Bytes} (hb : layoutBad v = false) (hj : ¬ ∃ j ∈ d.strong.jobs, j.who = .owner) :
    ∃ e, d.writeSlotLayout v = (St.ok, e) ∧ e.oct K.srSlotLayout = v ∧ (∀ i, i < 64 → ∀ x ∈ e.slotBytes i, x = 0) ∧ e.strong = d.strong ∧ e.clock = d.clock := by
  refine ⟨(List.range 64).foldl (fun d s => d.putSlot s []) (d.setOct K.srSlotLayout v), ?_, ?_, fun i hi => ?_, ?_⟩
  · exact (if_neg (by rw [hb]; decide)).trans (if_neg (mt d.jobs_owner_iff.1 hj))
  · rw [Device.oct_zeroed, Device.oct_setOct_self]
  · exact Device.slotBytes_zeroed _ _ i (.inl (List.mem_range.2 hi))
  · obtain ⟨h1, h2⟩ := (d.setOct K.srSlotLayout v).foldl_putSlot_strong (List.range 64) (fun s => s) (fun _ => [])
    exact ⟨h1, h2⟩

end

end Sys2Proof.Machine
end

section
/-! Chapter 16: Strongroom's requests, and O51. -/

namespace Sys2Proof.Machine

theorem srJobSubmit_row : dictFind (K.srJobSubmit / 256) (K.srJobSubmit % 256)
    = some ⟨0x5010, 0x5010, 0x01, 0x01, .octets 16, .wo, .rep 16 0, .any, 0⟩ := rfl
theorem srJobAbort_row : dictFind (K.srJobAbort / 256) (K.srJobAbort % 256)
    = some ⟨0x5010, 0x5010, 0x07, 0x07, .uns 1, .wo, .num 0, .span 1 1, 0⟩ := rfl
theorem srLaneRestore_row : dictFind (K.srLaneRestore / 256) (K.srLaneRestore % 256)
    = some ⟨0x5000, 0x5000, 0x09, 0x09, .uns 1, .wo, .num 0, .span 0 3, 0⟩ := rfl
theorem srSlotLayout_row : dictFind (K.srSlotLayout / 256) (K.srSlotLayout % 256)
    = some ⟨0x5001, 0x5001, 0x01, 0x01, .octets 64, .rw, .rep 64 0x40, .any, 0⟩ := rfl
theorem srSlotData_row : ∀ i < 64, dictFind (K.srSlotData i / 256) (K.srSlotData i % 256)
    = some ⟨0x5040, 0x507F, 0x01, 0x01, .upTo 1024, .rw, .rep 1024 0, .any, 0⟩ := by decide +kernel

theorem srSlotData_split (i : Nat) : K.srSlotData i / 256 = 0x5040 + i ∧ K.srSlotData i % 256 = 1 := by
  rw [K.srSlotData]
  omega

section
variable (d : Device) (a : Asker) (b : Bytes)

theorem Device.highAction_lanes : d.highAction a K.srLaneRestore b = some (answerOf (d.writeLaneRestore (beNat b))) ∧
    d.highAction a K.srSlotLayout b = some (answerOf (d.writeSlotLayout b)) := by
  constructor
  · simp only [Device.highAction, show K.srLaneRestore / 256 = 0x5000 from rfl, show K.srLaneRestore % 256 = 0x09 from rfl,
      show K.srLaneRestore ≠ K.xphyMdio by decide, show K.srLaneRestore ≠ K.hallFdbFlush by decide, if_false, if_true]
    simp
  · simp only [Device.highAction, show K.srSlotLayout / 256 = 0x5001 from rfl, show K.srSlotLayout % 256 = 0x01 from rfl,
      show K.srSlotLayout ≠ K.xphyMdio by decide, show K.srSlotLayout ≠ K.hallFdbFlush by decide, show K.srSlotLayout ≠ K.srLaneRestore by decide,
      if_false, if_true]
    simp

theorem Device.highAction_jobs : d.highAction a K.srJobSubmit b = some (answerOf (d.writeJobSubmit b)) ∧
    d.highAction a K.srJobAbort b = some (answerOf d.writeJobAbort) := by
  constructor
  · simp only [Device.highAction, show K.srJobSubmit / 256 = 0x5010 from rfl, show K.srJobSubmit % 256 = 0x01 from rfl,
      show K.srJobSubmit ≠ K.xphyMdio by decide, show K.srJobSubmit ≠ K.hallFdbFlush by decide, show K.srJobSubmit ≠ K.srLaneRestore by decide,
      show K.srJobSubmit ≠ K.srSlotLayout by decide, if_false, if_true]
    simp
  · simp only [Device.highAction, show K.srJobAbort / 256 = 0x5010 from rfl, show K.srJobAbort % 256 = 0x07 from rfl,
      show K.srJobAbort ≠ K.xphyMdio by decide, show K.srJobAbort ≠ K.hallFdbFlush by decide, show K.srJobAbort ≠ K.srLaneRestore by decide,
      show K.srJobAbort ≠ K.srSlotLayout by decide, show K.srJobAbort ≠ K.srJobSubmit by decide, if_false, if_true]
    simp

theorem Device.highAction_slotData {i : Nat} (hi : i < 64) : d.highAction a (K.srSlotData i) b = some (answerOf (d.writeSlotData i b)) := by
  obtain ⟨h1, h2⟩ := srSlotData_split i
  have hk : K.srJobAbort < K.srSlotData i := by
    simp only [K.srSlotData, K.srJobAbort]
    omega
  have hne : ∀ k ≤ K.srJobAbort, K.srSlotData i ≠ k := fun k hle => Nat.ne_of_gt (Nat.lt_of_le_of_lt hle hk)
  unfold Device.highAction
  dsimp only
  rw [h1, h2, if_neg (by simp; omega), if_neg (hne _ (by decide)), if_neg (by simp; omega), if_neg (hne _ (by decide)), if_neg (by simp),
    if_neg (hne _ (by decide)), if_neg (hne _ (by decide)), if_neg (hne _ (by decide)), if_neg (hne _ (by decide)), if_pos (by simp; omega),
    Nat.add_sub_cancel_left]

/-- R466: a slot's data has the length that its layout gives it. -/
theorem Device.lengthBad_slotData {i : Nat} (hi : i < 64) {v : Bytes} (hv : v.length ≤ 1024) :
    d.lengthBad (K.srSlotData i / 256) (K.srSlotData i % 256) (.upTo 1024) v = true ↔ v.length ≠ 8 * d.slotWords i := by
  obtain ⟨h1, h2⟩ := srSlotData_split i
  have hk : (0x5040 + i) * 256 + 1 ≠ K.parClassifier ∧ (0x5040 + i) * 256 + 1 ≠ K.hallVlanTable ∧ (0x5040 + i) * 256 + 1 ≠ K.hallFdbStatic
      ∧ (0x5040 + i) * 256 + 1 ≠ K.skyOrbitLoad ∧ (0x5040 + i) * 256 + 1 ≠ K.studyFwImage := by
    simp only [K.parClassifier, K.hallVlanTable, K.hallFdbStatic, K.skyOrbitLoad, K.studyFwImage]
    omega
  obtain ⟨k1, k2, k3, k4, k5⟩ := hk
  rw [h1, h2, Device.lengthBad]
  simp [k1, k2, k3, k4, k5, Ty.allows, hv]
  omega

end

section
variable (s : State) (h : HapHdr)

theorem State.srJobSubmit_written {v : Bytes} (hv : v.length = 16) (hw : s.writes h K.srJobSubmit v) :
    exec (.srJobSubmit h v) s = .next (s.wrote h K.srJobSubmit v (answerOf ((s.asWritten h K.srJobSubmit v).writeJobSubmit v))) :=
  congrArg Host.Outcome.next (s.highCommand_written h hw srJobSubmit_row rfl (by decide) (by decide) (by decide) (by simp [Ty.allows, hv])
    (rangeBad_plain v (.inl ⟨16, rfl⟩) (by decide)) fun a _ _ _ _ _ => (Device.highAction_jobs _ a v).1)

theorem State.srJobAbort_written (hw : s.writes h K.srJobAbort [1]) :
    exec (.srJobAbort h [1]) s = .next (s.wrote h K.srJobAbort [1] (answerOf (s.asWritten h K.srJobAbort [1]).writeJobAbort)) :=
  congrArg Host.Outcome.next (s.highCommand_written h hw srJobAbort_row rfl (by decide) (by decide) (by decide) rfl (by decide)
    fun a _ _ _ _ _ => (Device.highAction_jobs _ a _).2)

theorem State.srLaneRestore_written {l : Nat} (hl : l < 4) (hw : s.writes h K.srLaneRestore [byte l]) :
    exec (.srLaneRestore h [byte l]) s = .next (s.wrote h K.srLaneRestore [byte l] (answerOf ((s.asWritten h K.srLaneRestore [byte l]).writeLaneRestore l))) := by
  have hrange : ∀ l < 4, beNat [byte l] = l ∧
      rangeBad K.srLaneRestore ⟨0x5000, 0x5000, 0x09, 0x09, .uns 1, .wo, .num 0, .span 0 3, 0⟩ [byte l] = false := by decide +kernel
  obtain ⟨hval, hok⟩ := hrange l hl
  refine congrArg Host.Outcome.next (s.highCommand_written h hw srLaneRestore_row rfl (by decide) (by decide) (by decide) rfl hok
    fun a _ _ _ _ _ => ?_)
  rw [(Device.highAction_lanes _ a _).1, hval]

theorem State.srSlotLayout_written {v : Bytes} (hv : v.length = 64) (hw : s.writes h K.srSlotLayout v) :
    exec (.srSlotLayout h v) s = .next (s.wrote h K.srSlotLayout v (answerOf ((s.asWritten h K.srSlotLayout v).writeSlotLayout v))) :=
  congrArg Host.Outcome.next (s.action_granted h K.srSlotLayout v _ _ hw srSlotLayout_row ⟨by decide, by decide⟩
    (Device.needsSession_rw _ rfl (by decide)) (Device.lengthBad_plain _ _ _ _ (by decide) (by simp [Ty.allows, hv]))
    (rangeBad_plain v (.inl ⟨64, rfl⟩) (by decide)) fun a _ _ _ _ _ => by
      rw [if_neg (by decide)]
      exact (Device.highAction_lanes _ a v).2)

section
variable {i : Nat} (hi : i < 64)
include hi

theorem exec_srSlotData (v : Bytes) : exec (.srSlotData h i v) s = .next (s.hapWrite h (K.srSlotData i) v) := by
  obtain ⟨h1, h2⟩ := srSlotData_split i
  rw [State.hapWrite, h1, h2]
  exact congrArg (fun i => Host.Outcome.next (s.hap h 2 (0x5040 + i) 0x01 v)) (Nat.mod_eq_of_lt hi)

variable {v : Bytes} (hv : v.length ≤ 1024) (hw : s.writes h (K.srSlotData i) v)
include hv hw

theorem State.srSlotData_refused (hb : v.length ≠ 8 * (s.asWritten h (K.srSlotData i) v).slotWords i) :
    exec (.srSlotData h i v) s = .next (s.wrote h (K.srSlotData i) v ((s.asWritten h (K.srSlotData i) v).answer St.length)) := by
  have hk : K.srSlotData i ≠ K.commitRequest ∧ K.srSlotData i ≠ K.atticClear ∧ K.srSlotData i ≠ K.khOwnerKeySet := by
    simp only [K.srSlotData, K.commitRequest, K.atticClear, K.khOwnerKeySet]
    omega
  exact (exec_srSlotData s h hi v).trans (congrArg _ (s.length_refused h hw (srSlotData_row i hi) (Device.needsSession_rw _ rfl hk.2.2) (by decide)
    ⟨hk.1, hk.2.1⟩ ((Device.lengthBad_slotData _ hi hv).2 hb)))

theorem State.srSlotData_written (hb : v.length = 8 * (s.asWritten h (K.srSlotData i) v).slotWords i) :
    exec (.srSlotData h i v) s = .next (s.wrote h (K.srSlotData i) v (answerOf ((s.asWritten h (K.srSlotData i) v).writeSlotData i v))) := by
  have hk : K.srSlotData i ≠ K.khOwnerKeySet ∧ ¬ K.srSlotData i < 0x3000 * 256 := by
    simp only [K.srSlotData, K.khOwnerKeySet]
    omega
  have hruled : ∀ i < 64, octetsRuled (K.srSlotData i) = false := by decide +kernel
  refine (exec_srSlotData s h hi v).trans (congrArg _ (s.action_granted h _ v _ _ hw (srSlotData_row i hi) ⟨by decide, by decide⟩
    (Device.needsSession_rw _ rfl hk.1) ?_ (rangeBad_plain v (.inr ⟨1024, rfl⟩) (hruled i hi)) fun a _ _ _ _ _ => ?_))
  · exact Bool.eq_false_iff.2 fun hbad => (Device.lengthBad_slotData _ hi hv).1 hbad hb
  · rw [if_neg hk.2, Device.highAction_slotData _ a v hi]

end

end

theorem Device.writeSlotData_used (d : Device) {i : Nat} {v : Bytes} (hl : v.length = 8 * d.slotWords i)
    (hu : ∃ j ∈ d.strong.jobs, j.who = .owner ∧ i ∈ j.uses) : d.writeSlotData i v = (St.state, d) :=
  (if_neg (not_not.2 hl)).trans (if_pos (by simpa using hu))

theorem Device.writeSlotData_free (d : Device) {i : Nat} {v : Bytes} (hl : v.length = 8 * d.slotWords i)
    (hu : ¬ ∃ j ∈ d.strong.jobs, j.who = .owner ∧ i ∈ j.uses) : d.writeSlotData i v = (St.ok, d.setOct (K.srSlotData i) v) :=
  (if_neg (not_not.2 hl)).trans (if_neg (by simpa using hu))

/-- Settles O51: what jobs read is in the objects alone, so that time that passes changes no verdict; a job's state is found by its number, and the lane's
next one is another; what a lane's change costs Parlour is read off the objects after it. -/
theorem jobsRunOnTheLanes : Obligations.JobsRunOnTheLanes := by
  refine ⟨fun s h v hv => ?_, fun s => ⟨fun hidle => ?_, fun l j hl hlanes ho hs hj hfirst hjob => ?_⟩, fun d hd t => ?_, fun s l id rest j hs hj => ?_,
    fun s l wait id rest j k hl hlanes hs hj h3 hy hb => ?_, fun s l wait id sound third rest j hs hj => ?_, fun d j hop => ?_,
    fun d id r j hj hw hown => d.endJob_shows r hj hw hown, fun s h => ?_, fun d id => ⟨d.dropCheck_clock id, d.dropCheck_none, fun c hc => (d.dropCheck_some hc).2⟩,
    fun s h l hl => ?_, fun s l wait pass hl ho => ⟨fun h1 => ?_, fun h1 => ?_⟩, fun s h v hv => ?_, fun s h i v hi hv => ?_⟩
  · intro d out busy hw
    have hx := s.srJobSubmit_written h hv hw
    change exec (.srJobSubmit h v) s = .next (s.wrote h K.srJobSubmit v (answerOf (d.writeJobSubmit v))) at hx
    refine ⟨fun hb => ?_, fun hb hy => ?_, fun hb hy hq => ?_, fun hb hy hq => ?_⟩
    · rw [d.writeJobSubmit_range hb] at hx
      exact hx
    · rw [d.writeJobSubmit_state hb hy] at hx
      exact hx
    · rw [d.writeJobSubmit_full hb hy hq] at hx
      exact hx
    · obtain ⟨e, he, h1, h2, h3, h4⟩ := d.writeJobSubmit_queued hb hy hq
      rw [he] at hx
      exact ⟨e, d.queued (jobAsked v), hx, h1, rfl, rfl, rfl, rfl, jobAsked_slots hv, h2, h3, h4⟩
  · rw [exec_jobDispatch, State.on]
    exact congrArg (fun x => Host.Outcome.next { s with dev := x }) (Device.dispatch_idle _ hidle)
  · obtain ⟨hjm, hj1, hjp, hbest⟩ := Device.nextJob_spec _ hj
    obtain ⟨t1, t2, t3, t4, t5, -⟩ := Device.startJob_obeys _ 0 hl hlanes hjob
    have hx : exec .jobDispatch s = .next { s with dev := (s.dev.bookedStart 0).startJob l j 0 } :=
      (exec_jobDispatch s).trans (congrArg (fun x => Host.Outcome.next { s with dev := x }) (Device.dispatch_first _ hl hs hj hfirst))
    exact ⟨_, _, hx, rfl, t1, t2, t3 ho, rfl, rfl, rfl, rfl, t4, t5, hbest⟩
  · unfold Device.bookedStart
    rw [hd]
  · refine ⟨fun h2 => ?_, fun h2 hb hw hsec hsig => ?_⟩
    · rw [exec_jobCheckEnd, State.on, s.dev.jobCheckEnd_other hs hj h2]
    · have hx := (exec_jobCheckEnd s l none).trans (congrArg (fun x => Host.Outcome.next { s with dev := x })
        (s.dev.jobCheckEnd_owner hs hj h2 hb hw hsec hsig))
      rw [hb]
      refine ⟨fun hbad => ?_, fun hbad hop => ?_, fun hbad hop => ?_⟩
      · rw [if_pos hbad] at hx
        exact hx
      · rw [if_neg (Bool.eq_false_iff.1 hbad), if_pos hop] at hx
        exact hx
      · rw [if_neg (Bool.eq_false_iff.1 hbad), if_neg (Nat.not_le.2 hop)] at hx
        have hcj : (s.dev.checkDone j).job id = some j := (Device.job_of_jobs s.dev (congrArg Strong.jobs (s.dev.checkDone_frame j).2) id).trans hj
        obtain ⟨fc, -⟩ := (s.dev.checkDone j).jobTo_frame (id := id) 3
        have fj := (s.dev.checkDone j).job_jobTo_self 3 hcj
        have fs := ((s.dev.checkDone j).jobTo_shown 3 hcj).trans (if_pos hw)
        exact ⟨_, _, hx, rfl, fc, Device.job_setJob_self _ (by intro _; rfl) fj, rfl, rfl, fs⟩
  · refine ⟨fun hn => ?_, fun hin => ?_, fun hstart hk hkj => ?_⟩
    · rw [exec_jobYield, State.on, s.dev.jobYield_none hs hj hn]
    · rw [exec_jobYield, State.on]
      exact congrArg (fun x => Host.Outcome.next { s with dev := x }) ((if_pos rfl).trans (if_pos hin))
    · obtain ⟨-, hk1, hkp, -⟩ := Device.nextJob_spec _ hk
      obtain ⟨t1, t2, t3, t4⟩ := s.dev.jobYield_obeys hs hj (wait := wait) hl hlanes h3 hk1 hkj
      have hx : exec (.jobYield l wait false) s = .next { s with dev := ((s.dev.elapse (min wait 2125)).yieldTop l).startJob l k 375 } :=
        (exec_jobYield s l wait false).trans (congrArg (fun x => Host.Outcome.next { s with dev := x }) (s.dev.jobYield_some hs hj h3 hy hb hstart hk))
      refine ⟨_, _, _, hx, rfl, t1, t2, rfl, ?_, t3, rfl, rfl, ?_, hkp, t4⟩
      · exact congrArg (fun c : Clock => j.due - c.ticks) t1.symm
      · exact congrArg (fun c : Clock => c.ticks + 375) t1.symm
  · refine ⟨fun hi => ?_, fun h3 hb hstart hw hsig r w e hc => ?_, fun h3 hb hstart hw hsig z hz hk => ?_⟩
    · rw [exec_jobComplete, State.on, s.dev.jobComplete_idle hs hj wait sound third hi]
    · have hx := (exec_jobComplete s l wait sound third).trans (congrArg (fun x => Host.Outcome.next { s with dev := x })
        (s.dev.jobComplete_owner hs hj h3 hb hstart hw hc))
      rw [if_neg (Bool.eq_false_iff.1 hsig)] at hx
      exact hx
    · obtain ⟨r, w, e, hc⟩ : ∃ r w e, (s.dev.runTo (s.dev.jobStop j wait)).compute j = (r, w, e) := ⟨_, _, _, rfl⟩
      have hx := (exec_jobComplete s l wait sound third).trans (congrArg (fun x => Host.Outcome.next { s with dev := x })
        (s.dev.jobComplete_owner hs hj h3 hb hstart hw hc))
      rw [if_pos hsig] at hx
      obtain ⟨ec, eo, es⟩ := (s.dev.runTo (s.dev.jobStop j wait)).compute_signs hsig
      rw [hc] at ec eo es
      have esl : e.strong.lanes = s.dev.strong.lanes := congrArg Strong.lanes es
      have esn : e.strong.nextId = s.dev.strong.nextId := congrArg Strong.nextId es
      obtain ⟨y, hy⟩ : ∃ y, e.setJob id (fun k => { k with buffer := w }) = y := ⟨_, rfl⟩
      have hys : y.clock = e.clock ∧ y.obj = s.dev.obj ∧ y.strong.lanes = s.dev.strong.lanes ∧ y.strong.nextId = s.dev.strong.nextId := by
        rw [← hy]
        exact ⟨rfl, eo, esl, esn⟩
      obtain ⟨yc, yo, yl, yn⟩ := hys
      have yj : y.job id = some { j with buffer := w } :=
        hy ▸ Device.job_setJob_self e (by intro _; rfl) ((Device.job_of_jobs s.dev (congrArg Strong.jobs es) id).trans hj)
      have yk : ∀ k ∈ y.strong.jobs, k.id < y.strong.nextId ∧ (k.who = .owner → k.id = id) := by
        rw [yn, ← hy]
        intro x hxm
        obtain ⟨x0, hx0, rfl⟩ := List.mem_map.1 hxm
        rw [show e.strong.jobs = s.dev.strong.jobs from congrArg Strong.jobs es] at hx0
        split
        · exact hk x0 hx0
        · exact hk x0 hx0
      rw [hy] at hx
      have hid := Device.job_id hj
      have hsend : y.sendToVerify j l = y.sendToVerify { j with buffer := w } l := rfl
      rw [hsend] at hx
      obtain ⟨t1, t2, ⟨b, hb1, hb2, hb3, hb4, hb5⟩, t3⟩ := y.sendToVerify_obeys (l := l) (id := id) (z := z) (rest := rest) (j := { j with buffer := w })
        ((congrArg (fun x : List Lane => (x.getD l {}).stack) yl).trans hs) yj hw (by rw [s.dev.lanesUp_of_obj yo]; exact hz) yk
      have hzl : z ≠ l := by simpa using List.find?_some hz
      exact ⟨_, _, b, hx, rfl, t1.trans (yc.trans ec), t2, rfl, hb1, hb2, hb3, hb4, hb5, hzl, t3⟩
  · unfold Device.compute
    rw [hop]
    rfl
  · intro d out hw
    have hx := s.srJobAbort_written h hw
    change exec (.srJobAbort h [1]) s = .next (s.wrote h K.srJobAbort [1] (answerOf d.writeJobAbort)) at hx
    refine ⟨fun hn => ?_, fun j hj => ?_⟩
    · rw [d.writeJobAbort_none hn] at hx
      exact hx
    · rw [d.writeJobAbort_some hj] at hx
      exact hx
  · intro v d out hw ho
    have hx := s.srLaneRestore_written h hl hw
    change exec (.srLaneRestore h v) s = .next (s.wrote h K.srLaneRestore v (answerOf (d.writeLaneRestore l))) at hx
    refine ⟨fun h4 => ?_, fun h4 => ?_⟩
    · rw [d.writeLaneRestore_other h4] at hx
      exact hx
    · obtain ⟨e, he, hrest⟩ := d.writeLaneRestore_obeys hl ho h4
      rw [he] at hx
      exact ⟨e, hx, hrest⟩
  · rw [exec_selfTestComplete, State.on, s.dev.selfTestEnd_other wait pass h1]
  · exact ⟨_, exec_selfTestComplete s l wait pass, rfl, s.dev.selfTestEnd_obeys hl ho wait pass h1⟩
  · intro d bad busy hw
    have hx := s.srSlotLayout_written h hv hw
    change exec (.srSlotLayout h v) s = .next (s.wrote h K.srSlotLayout v (answerOf (d.writeSlotLayout v))) at hx
    refine ⟨fun hb => ?_, fun hb hy => ?_, fun hb hy => ?_⟩
    · rw [show d.writeSlotLayout v = (St.range, d) from if_pos ((Device.layoutBad_iff v).2 hb)] at hx
      exact hx
    · rw [show d.writeSlotLayout v = (St.state, d) from (if_neg (mt (Device.layoutBad_iff v).1 hb)).trans (if_pos (d.jobs_owner_iff.2 hy))] at hx
      exact hx
    · obtain ⟨e, he, hrest⟩ := d.writeSlotLayout_obeys (Bool.eq_false_iff.2 (mt (Device.layoutBad_iff v).1 hb)) hy
      rw [he] at hx
      exact ⟨e, hx, hrest⟩
  · intro d used out hw
    refine ⟨fun hb => s.srSlotData_refused h hi hv hw hb, fun hb hu => ?_, fun hb hu => ?_⟩
    · have hx := s.srSlotData_written h hi hv hw hb
      rw [Device.writeSlotData_used _ hb hu] at hx
      exact hx
    · have hx := s.srSlotData_written h hi hv hw hb
      rw [Device.writeSlotData_free _ hb hu] at hx
      exact hx

end Sys2Proof.Machine
end

section
/-! Chapter 14: what PTP instances keep of their own and of their ports, and what their operations leave of it (R395, R405, R406, R410, R412). -/

namespace Sys2Proof.Machine

/-! ## The objects of instances and of their domains -/

/-- The objects of Thermostat's candidates. -/
def candObj (k : Nat) : Bool := 0x2200 * 256 ≤ k && k < 0x2300 * 256

theorem candObj_keys (n : Nat) (h : n < 16) : candObj (K.thermRefState n) = true ∧ candObj (K.thermRefReason n) = true ∧ candObj (K.thermRefQl n) = true := by
  have : ∀ n < 16, candObj (K.thermRefState n) = true ∧ candObj (K.thermRefReason n) = true ∧ candObj (K.thermRefQl n) = true := by decide
  exact this n h

theorem candObj_high {k : Nat} (h : 0x2300 * 256 ≤ k) : candObj k = false := by
  rw [candObj, Bool.and_eq_false_iff]
  exact .inr (decide_eq_false (Nat.not_lt.2 h))

theorem instKey_high (n sub : Nat) : 0x2300 * 256 ≤ (0x4200 + n) * 256 + sub := by omega

section
variable (d : Device) {n p : Nat}

/-! ## The instances' own state -/

section
variable (hn : n < d.ptp.length)
include hn

theorem Device.inst_setInst (f : PtpInst → PtpInst) : (d.setInst n f).inst n = f (d.inst n) := getD_updAt f {} hn

theorem Device.inst_setPtpPort (f : PtpPort → PtpPort) : (d.setPtpPort n p f).inst n = { d.inst n with ports := updAt (d.inst n).ports p f } :=
  d.inst_setInst hn _

theorem Device.ptpPort_setPtpPort (hp : p < (d.inst n).ports.length) (f : PtpPort → PtpPort) : (d.setPtpPort n p f).ptpPort n p = f (d.ptpPort n p) := by
  rw [Device.ptpPort, d.inst_setPtpPort hn]
  exact getD_updAt f {} hp

end

@[simp] theorem Device.length_setInst (m : Nat) (f : PtpInst → PtpInst) : (d.setInst m f).ptp.length = d.ptp.length := length_updAt _ _ _

@[simp] theorem Device.length_setPtpPort (m q : Nat) (f : PtpPort → PtpPort) : (d.setPtpPort m q f).ptp.length = d.ptp.length := length_updAt _ _ _

theorem Device.inst_of_ptp {e : Device} (h : e.ptp = d.ptp) (n : Nat) : e.inst n = d.inst n := by rw [Device.inst, h, Device.inst]

theorem Device.ptpPort_of_ptp {e : Device} (h : e.ptp = d.ptp) (n p : Nat) : e.ptpPort n p = d.ptpPort n p := by
  rw [Device.ptpPort, d.inst_of_ptp h, Device.ptpPort]

/-- What reads the objects alone. -/
theorem Device.ptpState_of_val {e : Device} (h : e.val (K.instPortState n) = d.val (K.instPortState n)) : e.ptpState n p = d.ptpState n p :=
  congrArg (fun v : Val => fieldNat v.bytes p 1) h

/-! ## A port's state (R395) -/

theorem Device.setPtpState_frame (st : Nat) : (d.setPtpState n p st).clock = d.clock ∧ (d.setPtpState n p st).ptp = d.ptp ∧
    (d.setPtpState n p st).parl = d.parl ∧ ∀ k, k ≠ K.instPortState n → (d.setPtpState n p st).val k = d.val k := by
  unfold Device.setPtpState
  dsimp only
  split
  · exact ⟨rfl, rfl, rfl, fun _ _ => rfl⟩
  · exact ⟨rfl, rfl, rfl, fun k hk => d.val_setVal_ne _ hk⟩

theorem Device.setPtpState_self {st : Nat} (hs : st < 256) (ho : p < (d.oct (K.instPortState n)).length) : (d.setPtpState n p st).ptpState n p = st := by
  unfold Device.setPtpState
  dsimp only
  split
  · next h => exact h
  · show fieldNat ((d.setOct _ _).oct (K.instPortState n)) p 1 = st
    rw [Device.oct_setOct_self]
    exact (fieldNat_putBytes_self (n := 1) st (by omega)).trans (Nat.mod_eq_of_lt hs)

theorem Device.setPtpState_entries (st : Nat) (h : d.ptpState n p ≠ st) :
    (d.setPtpState n p st).entries = d.entries ++ [(0x0A10, [(n : Int), (p : Int), (d.ptpState n p : Int), (st : Int)])] := by
  unfold Device.setPtpState
  rw [if_neg h]
  exact Device.entries_report _ _ _

/-! ## A candidate's source and quality -/

section
variable (hn : n < 16)
include hn

theorem Device.cand_setSource (b : Bool) : (d.setSource n b).beside thermBlank candObj = d.beside thermBlank candObj := by
  obtain ⟨hs, hr, -⟩ := candObj_keys n hn
  have hpresent (x : Device) : (x.activityPresent n).beside thermBlank candObj = x.beside thermBlank candObj := by
    unfold Device.activityPresent
    simp only [apply_ite (Device.beside thermBlank candObj), Device.therm_restartGate, Device.therm_disqualify _ _ _ hs hr, Device.therm_setRef _ _ hs,
      Device.therm_setCandU, ite_self]
  simp only [Device.setSource, Device.syncActivity, apply_ite (Device.beside thermBlank candObj), hpresent, Device.therm_activityAbsent _ hs hr,
    Device.therm_setCandU, ite_self]

theorem Device.cand_advertiseQl (q : Nat) : (d.advertiseQl n q).beside thermBlank candObj = d.beside thermBlank candObj := by
  obtain ⟨-, -, hq⟩ := candObj_keys n hn
  simp only [Device.advertiseQl, Device.refreshQl, apply_ite (Device.beside thermBlank candObj), Device.beside_setNum _ _ hq, Device.therm_report,
    Device.therm_setCandU, ite_self]

theorem Device.cand_parentJump : (d.parentJump n).beside thermBlank candObj = d.beside thermBlank candObj := by
  obtain ⟨hs, hr, -⟩ := candObj_keys n hn
  simp only [Device.parentJump, apply_ite (Device.beside thermBlank candObj), Device.therm_restartGate, Device.therm_disqualify _ _ _ hs hr,
    Device.therm_setRef _ _ hs, Device.therm_setCandU, ite_self]

end

theorem Device.cand_receiverUp : (d.receiverUp n p).beside thermBlank candObj = d.beside thermBlank candObj := by
  unfold Device.receiverUp
  split
  · rfl
  · rw [Device.cand_setSource _ (by omega), Device.cand_advertiseQl _ (by omega)]

theorem Device.cand_receiverBack : (d.receiverBack n p).beside thermBlank candObj = d.beside thermBlank candObj := by
  unfold Device.receiverBack
  dsimp only
  split
  · exact d.cand_receiverUp
  · rfl

/-- R405: a port is no receiver's again where its candidate is active, or the port is not the receiver. -/
theorem Device.receiverBack_same (h : 4 ≤ n ∨ d.ptpState n p ≠ 9 ∨ (d.cand (5 + n)).src = true) : d.receiverBack n p = d := by
  refine if_neg ?_
  simp only [Bool.and_eq_true, decide_eq_true_eq, Bool.not_eq_true']
  rintro ⟨⟨⟨⟨h9, -⟩, -⟩, h4⟩, hsrc⟩
  obtain h | h | h := h
  · omega
  · exact h h9
  · exact Bool.false_ne_true (hsrc.symm.trans h)

/-! ## A free domain's state and bound (R410, R412) -/

theorem Device.refreshBound_eq : ∃ v : Int, d.refreshBound n = d.setNum (K.instFreeBound n) v := ⟨_, rfl⟩

theorem Device.refreshBound_frame : (d.refreshBound n).clock = d.clock ∧ (d.refreshBound n).ptp = d.ptp ∧ (d.refreshBound n).attic = d.attic ∧
    ∀ k, k ≠ K.instFreeBound n → (d.refreshBound n).val k = d.val k := by
  obtain ⟨v, hv⟩ := d.refreshBound_eq (n := n)
  rw [hv]
  exact ⟨rfl, rfl, rfl, fun k hk => d.val_setVal_ne _ hk⟩

/-- What instances keep but for what their domains' state brings. -/
def PtpInst.steady (i : PtpInst) : PtpInst := { i with boundBase := 0, boundSince := 0, boundAt := 0, streak := 0 }

/-- What is set of a free domain's bound and of its streak. -/
def Device.domSet (d : Device) (n st : Nat) : Device :=
  let base := if d.nat (K.domState n) = 3 then d.t3Bound n else d.nat (K.instFreeBound n)
  let d1 := if st = 4 then d.setInst n (fun i => { i with boundBase := base, boundSince := d.clock.ticks, boundAt := d.clock.ticks }) else d
  (d1.setNum (K.domState n) st).setInst n (fun i => { i with streak := 0 })

theorem Device.setDomState_eq (st : Nat) : d.setDomState n st = if d.nat (K.domState n) = st then d else
    ((d.domSet n st).refreshBound n).report 0x0A13 [(n : Int), (d.nat (K.domState n) : Int), (st : Int), ((d.domSet n st).refreshBound n).num (K.instFreeBound n)] := rfl

theorem Device.domSet_frame (st : Nat) : (d.domSet n st).clock = d.clock ∧ (d.domSet n st).attic = d.attic ∧ (d.domSet n st).nat (K.domState n) = st ∧
    (∀ k, k ≠ K.domState n → (d.domSet n st).val k = d.val k) ∧ (d.domSet n st).ptp.length = d.ptp.length := by
  obtain ⟨x, hx⟩ : ∃ x, x = (if st = 4 then d.setInst n (fun i => { i with
      boundBase := if d.nat (K.domState n) = 3 then d.t3Bound n else d.nat (K.instFreeBound n), boundSince := d.clock.ticks, boundAt := d.clock.ticks }) else d) := ⟨_, rfl⟩
  have hxd : x.clock = d.clock ∧ x.attic = d.attic ∧ x.obj = d.obj ∧ x.ptp.length = d.ptp.length := by
    rw [hx]
    split
    · exact ⟨rfl, rfl, rfl, length_updAt _ _ _⟩
    · exact ⟨rfl, rfl, rfl, rfl⟩
  obtain ⟨hc, ha, ho, hl⟩ := hxd
  have hd : d.domSet n st = (x.setNum (K.domState n) st).setInst n (fun i => { i with streak := 0 }) := by rw [hx]; rfl
  rw [hd]
  refine ⟨hc, ha, congrArg Int.toNat (x.num_setNum_self (K.domState n) st), fun k hk => (x.val_setVal_ne _ hk).trans (val_of_obj ho k), ?_⟩
  exact (Device.length_setInst _ _ _).trans hl

/-- What a change of instances leaves as it was. -/
theorem Device.read_setInst {α : Type} (g : PtpInst → α) {f : PtpInst → PtpInst} (hf : ∀ i, g (f i) = g i) : g ((d.setInst n f).inst n) = g (d.inst n) := by
  by_cases hn : n < d.ptp.length
  · rw [d.inst_setInst hn, hf]
  · rw [Device.inst, List.getD_eq_default _ _ (by rw [Device.length_setInst]; exact Nat.not_lt.1 hn), Device.inst, List.getD_eq_default _ _ (Nat.not_lt.1 hn)]

theorem Device.domSet_inst (st : Nat) : ((d.domSet n st).inst n).steady = (d.inst n).steady := by
  unfold Device.domSet
  dsimp only
  refine (Device.read_setInst _ PtpInst.steady (by intro _; rfl)).trans ?_
  show ((if st = 4 then _ else d : Device).inst n).steady = _
  split
  · exact d.read_setInst PtpInst.steady (by intro _; rfl)
  · rfl

/-- What a free domain's change of state leaves. -/
theorem Device.setDomState_frame (st : Nat) : (d.setDomState n st).clock = d.clock ∧ (d.setDomState n st).nat (K.domState n) = st ∧
    (∀ k, k ≠ K.domState n → k ≠ K.instFreeBound n → (d.setDomState n st).val k = d.val k) ∧ (d.setDomState n st).ptp.length = d.ptp.length := by
  rw [d.setDomState_eq]
  by_cases h : d.nat (K.domState n) = st
  · rw [if_pos h]
    exact ⟨rfl, h, fun _ _ _ => rfl, rfl⟩
  · rw [if_neg h]
    obtain ⟨s1, -, s3, s4, s5⟩ := d.domSet_frame (n := n) st
    generalize d.domSet n st = x at *
    obtain ⟨r1, r2, -, r4⟩ := x.refreshBound_frame (n := n)
    have hkey : K.domState n ≠ K.instFreeBound n := by
      simp only [K.domState, K.instFreeBound]
      omega
    refine ⟨r1.trans s1, ?_, fun k h1 h2 => (r4 k h2).trans (s4 k h1), (congrArg List.length r2).trans s5⟩
    exact (congrArg (fun v : Val => v.int.toNat) (r4 _ hkey)).trans s3

theorem Device.setDomState_inst (st : Nat) : ((d.setDomState n st).inst n).steady = (d.inst n).steady := by
  rw [d.setDomState_eq]
  split
  · rfl
  · have hs := d.domSet_inst (n := n) st
    generalize d.domSet n st = x at *
    obtain ⟨-, r2, -, -⟩ := x.refreshBound_frame (n := n)
    exact (congrArg PtpInst.steady (x.inst_of_ptp r2 n)).trans hs

end

end Sys2Proof.Machine
end

section
/-! Chapter 14: what received messages measure (R396, R400 to R406, R410). -/

namespace Sys2Proof.Machine

theorem exec_ptpSyncRx (s : State) : exec (.ptpSyncRx ()) s = .next (s.on (·.syncRx)) := rfl
theorem exec_ptpFollowUpRx (s : State) : exec (.ptpFollowUpRx ()) s = .next (s.on (·.followUpRx)) := rfl
theorem exec_ptpAnnounceRx (s : State) : exec .ptpAnnounceRx s = .next (s.on (·.announceRx)) := rfl
theorem exec_ptpDelayRespRx (s : State) : exec .ptpDelayRespRx s = .next (s.on (·.delayRespRx)) := rfl
theorem exec_ptpPdelayRespRx (s : State) : exec .ptpPdelayRespRx s = .next (s.on (·.pdelayRespRx)) := rfl
theorem exec_ptpSignalingRx (s : State) : exec .ptpSignalingRx s = .next (s.on (·.signalingRx)) := rfl

/-! ## The keys of instances and of their domains -/

theorem instKeys_apart (n : Nat) : K.domState n ≠ K.instStepThresh n ∧ K.instFreeBound n ≠ K.instStepThresh n ∧ K.domState n ≠ K.instOffset n ∧
    K.instFreeBound n ≠ K.instOffset n ∧ K.domState n ≠ K.instPortState n ∧ K.instFreeBound n ≠ K.instPortState n ∧ K.instOffset n ≠ K.instPortState n ∧
    K.instOffset n ≠ K.instStepThresh n ∧ K.instPortState n ≠ K.instStepThresh n ∧ K.domState n ≠ K.instFreeBound n := by
  simp only [K.domState, K.instStepThresh, K.instFreeBound, K.instOffset, K.instPortState]
  omega

section
variable (d : Device) {n p : Nat}

/-! ## An offset on a free domain (R410, R411) -/

/-- The domain's state as an offset finds it: in T0 or T1, T4 or T5 it is T2 again. -/
def Device.driven (d : Device) (n : Nat) : Device :=
  if Decidable.decide (d.nat (K.domState n) = 3) || Decidable.decide (d.nat (K.domState n) = 2) then d else d.setDomState n 2

theorem Device.driven_frame : (d.driven n).clock = d.clock ∧ ((d.driven n).nat (K.domState n) = 2 ∨ (d.driven n).nat (K.domState n) = 3) ∧
    (∀ k, k ≠ K.domState n → k ≠ K.instFreeBound n → (d.driven n).val k = d.val k) ∧ (d.driven n).ptp.length = d.ptp.length ∧
    ((d.driven n).inst n).steady = (d.inst n).steady := by
  unfold Device.driven
  split
  · next h =>
    rw [Bool.or_eq_true, decide_eq_true_eq, decide_eq_true_eq] at h
    exact ⟨rfl, h.symm, fun _ _ _ => rfl, rfl, rfl⟩
  · obtain ⟨h1, h2, h3, h4⟩ := d.setDomState_frame (n := n) 2
    exact ⟨h1, .inl h2, h3, h4, d.setDomState_inst 2⟩

/-- An offset beyond the step threshold of Dn. -/
def Device.bigOffset (d : Device) (n : Nat) (off : Int) : Prop := d.nat (K.instStepThresh n) * 65536 < off.natAbs

/-- The domain's servo takes an integral, a rate, and a count of offsets in a row within the lock threshold. -/
def Device.servoSet (d : Device) (n : Nat) (integ rate : Int) (run : Nat) : Device :=
  { d.setInst n (fun i => { i with integ := integ, streak := run }) with clock := { d.clock with servo := updAt d.clock.servo n (fun _ => rate) } }

theorem Device.driven_thresh : (d.driven n).nat (K.instStepThresh n) = d.nat (K.instStepThresh n) := by
  obtain ⟨kt, kb, -⟩ := instKeys_apart n
  obtain ⟨-, -, e3, -⟩ := d.driven_frame (n := n)
  exact congrArg (fun v => v.int.toNat) (e3 _ kt.symm kb.symm)

theorem Device.driveFree_big {off : Int} (h : d.bigOffset n off) :
    d.driveFree n off = ((d.driven n).setInst n (fun i => { i with stepDue := some (-off), streak := 0 })).refreshBound n := by
  have hb : (d.driven n).nat (K.instStepThresh n) * 65536 < off.natAbs := by rw [d.driven_thresh]; exact h
  unfold Device.driveFree
  dsimp only
  rw [← Device.driven, if_pos hb]
  exact if_neg (by simp [hb])

theorem Device.driveFree_small {off : Int} (h : ¬ d.bigOffset n off) : ∃ integ rate run,
    d.driveFree n off = ((d.driven n).servoSet n integ rate run).setDomState n 3 ∨ d.driveFree n off = ((d.driven n).servoSet n integ rate run).refreshBound n := by
  have hb : ¬ (d.driven n).nat (K.instStepThresh n) * 65536 < off.natAbs := by rw [d.driven_thresh]; exact h
  unfold Device.driveFree
  dsimp only
  rw [← Device.driven, if_neg hb]
  generalize (if off.natAbs ≤ (d.driven n).nat (K.instLockThresh n) * 65536 then ((d.driven n).inst n).streak + 1 else 0) = run
  split
  · exact ⟨_, _, _, .inl rfl⟩
  · exact ⟨_, _, _, .inr rfl⟩

/-- What an offset leaves of a free domain: its state, the step that waits, or the servo's rate. -/
theorem Device.driveFree_obeys (off : Int) (hn : n < d.ptp.length) : let t := d.driveFree n off
    (∀ k, k ≠ K.domState n → k ≠ K.instFreeBound n → t.val k = d.val k) ∧ (t.nat (K.domState n) = 2 ∨ t.nat (K.domState n) = 3) ∧
      (d.bigOffset n off → (t.inst n).stepDue = some (-off) ∧ t.clock = d.clock) ∧
      (¬ d.bigOffset n off → (t.inst n).stepDue = (d.inst n).stepDue ∧ t.clock.mt = d.clock.mt ∧ t.clock.dom = d.clock.dom) := by
  obtain ⟨-, -, -, -, -, -, -, -, -, kd⟩ := instKeys_apart n
  obtain ⟨e1, e2, e3, e4, e5⟩ := d.driven_frame (n := n)
  have hbig := d.driveFree_big (n := n) (off := off)
  have hsmall := d.driveFree_small (n := n) (off := off)
  generalize d.driven n = x at *
  have hxn : n < x.ptp.length := e4.symm ▸ hn
  have hbound (y : Device) (hyo : y.obj = x.obj) : (∀ k, k ≠ K.domState n → k ≠ K.instFreeBound n → (y.refreshBound n).val k = d.val k) ∧
      ((y.refreshBound n).nat (K.domState n) = 2 ∨ (y.refreshBound n).nat (K.domState n) = 3) ∧ (y.refreshBound n).inst n = y.inst n ∧
      (y.refreshBound n).clock = y.clock := by
    obtain ⟨r1, r2, -, r4⟩ := y.refreshBound_frame (n := n)
    refine ⟨fun k h1 h2 => (r4 k h2).trans ((val_of_obj hyo k).trans (e3 k h1 h2)), ?_, y.inst_of_ptp r2 n, r1⟩
    rw [show (y.refreshBound n).nat (K.domState n) = x.nat (K.domState n) from congrArg (fun v => v.int.toNat) ((r4 _ kd).trans (val_of_obj hyo _))]
    exact e2
  by_cases hb : d.bigOffset n off
  · obtain ⟨b1, b2, b3, b4⟩ := hbound (x.setInst n (fun i => { i with stepDue := some (-off), streak := 0 })) rfl
    rw [← hbig hb] at b1 b2 b3 b4
    refine ⟨b1, b2, fun _ => ⟨?_, b4.trans e1⟩, fun h => absurd hb h⟩
    rw [b3, x.inst_setInst hxn]
  · obtain ⟨integ, rate, run, ht⟩ := hsmall hb
    obtain ⟨y, hy⟩ : ∃ y, x.servoSet n integ rate run = y := ⟨_, rfl⟩
    have hyi : y.inst n = { x.inst n with integ := integ, streak := run } := hy ▸ x.inst_setInst hxn _
    have hyf : y.obj = x.obj ∧ y.clock.mt = x.clock.mt ∧ y.clock.dom = x.clock.dom := hy ▸ ⟨rfl, rfl, rfl⟩
    obtain ⟨hyo, hym, hyd⟩ := hyf
    have hstep : (y.inst n).stepDue = (d.inst n).stepDue := by
      have hkept := congrArg PtpInst.stepDue e5
      rw [hyi]
      exact hkept
    rw [hy] at ht
    obtain ht | ht := ht
    · obtain ⟨s1, s2, s3, -⟩ := y.setDomState_frame (n := n) 3
      have s4 := y.setDomState_inst (n := n) 3
      rw [← ht] at s1 s2 s3 s4
      exact ⟨fun k h1 h2 => (s3 k h1 h2).trans ((val_of_obj hyo k).trans (e3 k h1 h2)), .inr s2, fun h => absurd h hb,
        fun _ => ⟨(congrArg PtpInst.stepDue s4).trans hstep, by rw [s1, hym, e1], by rw [s1, hyd, e1]⟩⟩
    · obtain ⟨b1, b2, b3, b4⟩ := hbound y hyo
      rw [← ht] at b1 b2 b3 b4
      exact ⟨b1, b2, fun h => absurd h hb, fun _ => ⟨(congrArg PtpInst.stepDue b3).trans hstep, by rw [b4, hym, e1], by rw [b4, hyd, e1]⟩⟩

/-- R395: where the owner of a port is no candidate the port becomes its receiver. -/
theorem Device.movePort_receiver (hn : n < d.ptp.length) (h4 : 4 ≤ n) (ho : p < (d.oct (K.instPortState n)).length) : let t := d.movePort n p 9
    t.clock = d.clock ∧ (∀ k, k ≠ K.instPortState n → t.val k = d.val k) ∧ t.ptpState n p = 9 ∧ (t.inst n).stepDue = (d.inst n).stepDue ∧
      t.ptp.length = d.ptp.length := by
  unfold Device.movePort
  dsimp only
  by_cases h9 : d.ptpState n p = 9
  · rw [if_pos h9]
    exact ⟨rfl, fun _ _ => rfl, h9, rfl, rfl⟩
  · rw [if_neg h9, if_neg h9, if_pos rfl]
    obtain ⟨s1, s2, -, s4⟩ := d.setPtpState_frame (n := n) (p := p) 9
    have s5 := d.setPtpState_self (n := n) (p := p) (st := 9) (by decide) ho
    generalize d.setPtpState n p 9 = x at *
    have hxn : n < x.ptp.length := by rw [s2]; exact hn
    have hup (y : Device) : y.receiverUp n p = y := if_pos h4
    rw [hup]
    refine ⟨s1, s4, s5, ?_, ?_⟩
    · rw [Device.inst_setPtpPort _ (by simpa using hxn), Device.inst_setPtpPort _ hxn, x.inst_of_ptp rfl, d.inst_of_ptp s2]
    · rw [Device.length_setPtpPort, Device.length_setPtpPort, s2]

theorem Device.offsetOf_free (w : SyncIn) (t1c : Int) (hg : w.good = true) (h4 : 4 ≤ n) (hs : (d.inst n).samples ≠ []) (hf : d.freeFollows n = true)
    (hn : n < d.ptp.length) : d.offsetOf n p w t1c =
      (((d.setInst n (fun i => { i with lastSync := some (w.dom16, t1c) })).setNum (K.instOffset n) (w.dom16 - t1c - (d.num (K.instMeanDelay n) + d.asymmetry n p))).movePort
        n p 9).driveFree n (w.dom16 - t1c - (d.num (K.instMeanDelay n) + d.asymmetry n p)) := by
  have hs' : ¬ (!w.good || Decidable.decide (((d.setInst n (fun i => { i with lastSync := some (w.dom16, t1c) })).inst n).samples = [])) = true := by
    rw [d.inst_setInst hn]
    simp [hg, hs]
  unfold Device.offsetOf
  rw [hf]
  exact (if_neg hs').trans ((if_pos rfl).trans (congrArg (fun x : Device => x.driveFree n _) (if_neg (Nat.not_lt.2 h4))))

/-- What a complete Sync leaves of a free domain that follows the instances. -/
theorem Device.offsetOf_obeys (w : SyncIn) (t1c : Int) (hg : w.good = true) (h4 : 4 ≤ n) (hs : (d.inst n).samples ≠ []) (hf : d.freeFollows n = true)
    (hn : n < d.ptp.length) (ho : p < (d.oct (K.instPortState n)).length) :
    let off := w.dom16 - t1c - (d.num (K.instMeanDelay n) + d.asymmetry n p)
    let t := d.offsetOf n p w t1c
    t.num (K.instOffset n) = off ∧ t.ptpState n p = 9 ∧ (d.bigOffset n off → (t.inst n).stepDue = some (-off) ∧ t.clock = d.clock) ∧
      (¬ d.bigOffset n off → (t.inst n).stepDue = (d.inst n).stepDue ∧ t.clock.mt = d.clock.mt ∧ t.clock.dom = d.clock.dom) ∧
      (t.nat (K.domState n) = 2 ∨ t.nat (K.domState n) = 3) := by
  obtain ⟨-, -, ko, kbo, kp, kbp, kop, kot, kpt, -⟩ := instKeys_apart n
  have hx := d.offsetOf_free (p := p) w t1c hg h4 hs hf hn
  obtain ⟨off, hoff⟩ : ∃ off, off = w.dom16 - t1c - (d.num (K.instMeanDelay n) + d.asymmetry n p) := ⟨_, rfl⟩
  rw [← hoff] at hx ⊢
  have hyi := d.inst_setInst hn (fun i => { i with lastSync := some (w.dom16, t1c) })
  have hyf : (d.setInst n (fun i => { i with lastSync := some (w.dom16, t1c) })).obj = d.obj ∧
    (d.setInst n (fun i => { i with lastSync := some (w.dom16, t1c) })).clock = d.clock ∧
    (d.setInst n (fun i => { i with lastSync := some (w.dom16, t1c) })).ptp.length = d.ptp.length := ⟨rfl, rfl, d.length_setInst _ _⟩
  obtain ⟨yo, yc, yl⟩ := hyf
  generalize d.setInst n (fun i => { i with lastSync := some (w.dom16, t1c) }) = y at *
  have hzf : (y.setNum (K.instOffset n) off).clock = y.clock ∧ (y.setNum (K.instOffset n) off).ptp = y.ptp := ⟨rfl, rfl⟩
  obtain ⟨zc, zp⟩ := hzf
  have zoff := y.num_setNum_self (K.instOffset n) off
  have zv {k : Nat} (hk : k ≠ K.instOffset n) : (y.setNum (K.instOffset n) off).val k = d.val k := (y.val_setVal_ne _ hk).trans (val_of_obj yo k)
  generalize y.setNum (K.instOffset n) off = z at *
  have zl : n < z.ptp.length := by rw [zp, yl]; exact hn
  have zo : p < (z.oct (K.instPortState n)).length := by
    rw [show z.oct (K.instPortState n) = d.oct (K.instPortState n) from congrArg Val.bytes (zv kop.symm)]
    exact ho
  obtain ⟨m1, m2, m3, m4, m5⟩ := z.movePort_receiver zl h4 zo
  generalize z.movePort n p 9 = m at *
  obtain ⟨t1, t2, t3, t4⟩ := m.driveFree_obeys off (n := n) (by rw [m5]; exact zl)
  rw [← hx] at t1 t2 t3 t4
  generalize d.offsetOf n p w t1c = t at *
  have hbig : m.bigOffset n off ↔ d.bigOffset n off := by
    rw [Device.bigOffset, Device.bigOffset, show m.nat (K.instStepThresh n) = d.nat (K.instStepThresh n) from
      congrArg (fun v => v.int.toNat) ((m2 _ kpt.symm).trans (zv kot.symm))]
  have hstep : (m.inst n).stepDue = (d.inst n).stepDue := by
    rw [m4, y.inst_of_ptp zp, hyi]
  have hclock : m.clock = d.clock := m1.trans (zc.trans yc)
  refine ⟨?_, ?_, fun hb => ?_, fun hb => ?_, t2⟩
  · exact (congrArg Val.int ((t1 _ ko.symm kbo.symm).trans (m2 _ kop))).trans zoff
  · exact (m.ptpState_of_val (t1 _ kp.symm kbp.symm)).trans m3
  · obtain ⟨u1, u2⟩ := t3 (hbig.2 hb)
    exact ⟨u1, u2.trans hclock⟩
  · obtain ⟨u1, u2, u3⟩ := t4 (mt hbig.1 hb)
    exact ⟨u1.trans hstep, by rw [u2, hclock], by rw [u3, hclock]⟩

end

end Sys2Proof.Machine
end

section
/-! Chapter 14: the receipts themselves, and O49. -/

namespace Sys2Proof.Machine

/-! ## Bits of a mask -/

/-- The bits of a number but one do not see that one set. -/
theorem bit_add_ne {v p j : Nat} (h : bit v p = false) (hj : j ≠ p) : bit (v + 2 ^ p) j = bit v j := by
  have hb (x i : Nat) : bit x i = Nat.testBit x i := by
    rw [bit, Nat.testBit_eq_decide_div_mod_eq]
  have hp : v % 2 ^ (p + 1) < 2 ^ p := by
    have h1 : v / 2 ^ p % 2 ≠ 1 := by simpa [bit] using h
    have h2 : v % 2 ^ (p + 1) = v % 2 ^ p + 2 ^ p * (v / 2 ^ p % 2) := by rw [Nat.pow_succ, Nat.mod_mul]
    rw [h2, show v / 2 ^ p % 2 = 0 by omega]
    exact Nat.mod_lt _ (Nat.two_pow_pos p)
  obtain hj | hj := Nat.lt_or_gt_of_ne hj
  · rw [hb, hb, Nat.add_comm, Nat.testBit_two_pow_add_gt hj]
  · have hdiv : (v + 2 ^ p) / 2 ^ (p + 1) = v / 2 ^ (p + 1) := by
      have hv := Nat.div_add_mod v (2 ^ (p + 1))
      rw [Nat.div_eq_iff (Nat.two_pow_pos _)]
      have : 2 ^ (p + 1) = 2 ^ p + 2 ^ p := by rw [Nat.pow_succ]; omega
      constructor
      · rw [Nat.mul_comm]
        omega
      · rw [Nat.mul_comm]
        omega
    obtain ⟨k, rfl⟩ := Nat.exists_eq_add_of_lt hj
    rw [bit, bit, show p + k + 1 = (p + 1) + k by omega, Nat.pow_add, ← Nat.div_div_eq_div_mul, ← Nat.div_div_eq_div_mul, hdiv]

theorem bit_setBit (v p j : Nat) (b : Bool) : bit (setBit v p b) j = if j = p then b else bit v j := by
  unfold setBit
  by_cases hv : bit v p = b
  · rw [if_pos hv]
    split
    · next h => rw [h, hv]
    · rfl
  · rw [if_neg hv]
    cases b with
    | true =>
      have h0 : bit v p = false := by simpa using hv
      rw [if_pos rfl]
      split
      · next h => rw [h, bit_add_self h0]
      · next h => exact bit_add_ne h0 h
    | false =>
      have h1 : bit v p = true := by simpa using hv
      rw [if_neg (by decide)]
      have hle : 2 ^ p ≤ v := by
        by_contra hlt
        have : v / 2 ^ p = 0 := Nat.div_eq_of_lt (Nat.not_le.1 hlt)
        simp [bit, this] at h1
      obtain ⟨w, rfl⟩ : ∃ w, v = w + 2 ^ p := ⟨v - 2 ^ p, (Nat.sub_add_cancel hle).symm⟩
      have h0 : bit w p = false := by
        cases hw : bit w p with
        | false => rfl
        | true =>
          simp only [bit, decide_eq_true_eq] at h1 hw
          rw [Nat.add_div_right _ (Nat.two_pow_pos p)] at h1
          omega
      rw [Nat.add_sub_cancel]
      split
      · next h => rw [h, h0]
      · next h => exact (bit_add_ne h0 h).symm

section
variable (d : Device) {n p : Nat}

/-! ## Path delays (R402) -/

theorem Device.addDelay_bad {v : Int} (h : v < 0 ∨ 1000000 * 65536 < v) : d.addDelay n v = d := if_pos (by simpa using h)

theorem Device.addDelay_good {v : Int} (h0 : 0 ≤ v) (h1 : v ≤ 1000000 * 65536) (hk : 0 < d.nat (K.instDelayFilter n)) (hn : n < d.ptp.length) :
    let ss := (v :: (d.inst n).samples).take (d.nat (K.instDelayFilter n))
    ((d.addDelay n v).inst n).samples = ss ∧ ss.length * (d.addDelay n v).num (K.instMeanDelay n) ≤ ss.sum ∧
      ss.sum < ss.length * ((d.addDelay n v).num (K.instMeanDelay n) + 1) ∧ ∀ k, k ≠ K.instMeanDelay n → (d.addDelay n v).val k = d.val k := by
  intro ss
  have hx : d.addDelay n v = (d.setInst n (fun i => { i with samples := ss, delaySteps := d.nat K.mtStepCount })).setNum (K.instMeanDelay n)
      (ss.foldl (· + ·) 0 / ss.length) := if_neg (by
        rw [Bool.or_eq_true, decide_eq_true_eq, decide_eq_true_eq]
        omega)
  have hlen : 0 < (ss.length : Int) := by
    have : 0 < ss.length := by
      rw [List.length_take]
      exact Nat.lt_min.2 ⟨hk, Nat.succ_pos _⟩
    exact_mod_cast this
  have hsum : ss.foldl (· + ·) 0 = ss.sum := (List.sum_eq_foldl).symm
  have hmean : (d.addDelay n v).num (K.instMeanDelay n) = ss.sum / ss.length := by
    rw [hx, hsum]
    exact Device.num_setNum_self _ _ _
  refine ⟨?_, ?_, ?_, fun k hk => ?_⟩
  · rw [hx]
    exact congrArg PtpInst.samples (d.inst_setInst hn _)
  · rw [hmean]
    exact Int.mul_ediv_self_le (ne_of_gt hlen)
  · rw [hmean, mul_add, mul_one]
    exact Int.lt_mul_ediv_self_add hlen
  · rw [hx]
    exact Device.val_setVal_ne _ _ hk

/-! ## Syncs (R403, R404) -/

/-- A message that is taken belongs to one of the part's instances. -/
theorem Device.takePtp_lt {d00 d : Device} {ks : List Nat} {q : RxFrame} {n : Nat} {m : PtpMsg} (h : d00.takePtp ks = some (q, n, m, d)) : n < 8 := by
  unfold Device.takePtp at h
  dsimp only at h
  split at h
  · exact absurd h (by simp)
  · split at h
    · exact absurd h (by simp)
    · split at h
      · exact absurd h (by simp)
      · next hi =>
        obtain ⟨-, rfl, -⟩ := Option.some.inj h
        exact List.mem_range.1 (List.mem_of_find?_eq_some hi)

/-- The part with a good Sync's receipt kept at its port. -/
def Device.syncSeen (d : Device) (n p : Nat) (log : Int) : Device :=
  d.setPtpPort n p (fun u => { u with syncSince := d.clock.ticks, syncLog := log, syncRun := false })

/-- A Sync's rate ratio as its TLV gives it. -/
def PtpMsg.rate (m : PtpMsg) : Int := if m.body.length < 24 then 0 else toSigned 4 (fieldNat m.body 20 4) * 128

theorem Device.takePtp_none {d : Device} : (d.takePtp [0] = none → d.syncRx = d) ∧ (d.takePtp [8] = none → d.followUpRx = d) ∧
    (d.takePtp [11] = none → d.announceRx = d) ∧ (d.takePtp [9] = none → d.delayRespRx = d) ∧ (d.takePtp [3, 10] = none → d.pdelayRespRx = d) ∧
    (d.takePtp [12] = none → d.signalingRx = d) := by
  refine ⟨fun h => ?_, fun h => ?_, fun h => ?_, fun h => ?_, fun h => ?_, fun h => ?_⟩
  · rw [Device.syncRx, h]
  · rw [Device.followUpRx, h]
  · rw [Device.announceRx, h]
  · rw [Device.delayRespRx, h]
  · rw [Device.pdelayRespRx, h]
  · rw [Device.signalingRx, h]

section
variable {d00 : Device} {q : RxFrame} {m : PtpMsg}

theorem Device.syncRx_some {w : SyncIn} (ht : d00.takePtp [0] = some (q, n, m, d)) (hst : d.ptpState n q.port = 8 ∨ d.ptpState n q.port = 9)
    (hg : d.gptp n = false) (hr : d.nat (K.instRole n) = 1) (hdue : (d.inst n).stepDue = none) (hbit : bit (fieldNat q.stamp 7 1) 4 = false)
    (hsteps : (d.inst n).delaySteps = d.nat K.mtStepCount) (hback : 4 ≤ n ∨ d.ptpState n q.port = 8 ∨ (d.cand (5 + n)).src = true)
    (hw : w = { sender := m.source, seq := m.seq, corr := m.corr, word := q.stamp, rx16 := q.rx16, mt16 := q.rx16 + d.num (K.domOffset n) * 65536
                dom16 := d.scaleAt16 (3 + n) (q.rx16 * fracU), good := true, tick := q.tick, moved := q.moved, dco := q.dco }) :
    d00.syncRx = if bit m.flags 9 then (d.syncSeen n q.port m.logInt).setInst n (fun i => { i with sync := some w })
      else (((d.syncSeen n q.port m.logInt).setInst n (fun i => { i with sync := none, upRatio := m.rate })).offsetOf n q.port w
        (ptpTime m.body + m.corr)).relaySync n q q.stamp (padTo 10 m.body) m.corr q.rx16 := by
  have hgood : (!bit (fieldNat q.stamp 7 1) 4 && (Decidable.decide ((d.inst n).samples = []) || Decidable.decide ((d.inst n).delaySteps = d.nat K.mtStepCount))) = true := by
    simp [hbit, hsteps]
  have hseen : (d.syncSeen n q.port m.logInt).receiverBack n q.port = d.syncSeen n q.port m.logInt := by
    refine Device.receiverBack_same _ ?_
    obtain h | h | h := hback
    · exact .inl h
    · refine .inr (.inl ?_)
      rw [show (d.syncSeen n q.port m.logInt).ptpState n q.port = d.ptpState n q.port from rfl, h]
      decide
    · exact .inr (.inr h)
  have hgo : ¬ (!(Decidable.decide (d.ptpState n q.port = 8) || Decidable.decide (d.ptpState n q.port = 9)) || (d.gptp n && !d.asCapable n q.port)
      || (Decidable.decide (d.nat (K.instRole n) = 2) && (d.inst n).parent.all (fun a => a.sender ≠ m.source)) || Decidable.decide (d.nat (K.instRole n) = 0)) = true := by
    simpa [hg, hr] using fun h => hst.resolve_left h
  unfold Device.syncRx
  rw [ht]
  dsimp only
  refine (if_neg hgo).trans ?_
  rw [hdue]
  dsimp only
  rw [hgood, if_pos rfl, ← Device.syncSeen, hseen, ← hw]
  rfl

theorem Device.followUpRx_other {w : SyncIn} (ht : d00.takePtp [8] = some (q, n, m, d)) (hs : (d.inst n).sync = some w) (h : w.sender ≠ m.source ∨ w.seq ≠ m.seq) :
    d00.followUpRx = d := by
  unfold Device.followUpRx
  rw [ht]
  dsimp only
  rw [hs]
  refine if_pos ?_
  rw [Bool.or_eq_true, Bool.or_eq_true, decide_eq_true_eq, decide_eq_true_eq]
  exact .inl h

theorem Device.followUpRx_some {w : SyncIn} (ht : d00.takePtp [8] = some (q, n, m, d)) (hs : (d.inst n).sync = some w) (h1 : w.sender = m.source)
    (h2 : w.seq = m.seq) (hst : d.ptpState n q.port = 8 ∨ d.ptpState n q.port = 9) :
    d00.followUpRx = ((d.setInst n (fun i => { i with sync := none, upRatio := m.rate })).offsetOf n q.port w
      (ptpTime m.body + (w.corr + m.corr))).relaySync n q w.word (padTo 10 m.body) (w.corr + m.corr) w.rx16 := by
  unfold Device.followUpRx
  rw [ht]
  dsimp only
  rw [hs]
  refine if_neg ?_
  rw [Bool.or_eq_true, Bool.or_eq_true, decide_eq_true_eq, decide_eq_true_eq]
  simpa [h1, h2] using fun h => hst.resolve_left h

/-! ## Delay responses (R396, R402) -/

theorem Device.delayRespRx_some {t3 t2 t1c : Int} {steps : Nat} (ht : d00.takePtp [9] = some (q, n, m, d))
    (hout : (d.ptpPort n q.port).delayOut = some (m.seq, some (t3, steps))) (hlast : (d.inst n).lastSync = some (t2, t1c))
    (hid : field m.body 10 10 = portIdentity n q.port) (hpeer : d.peerDelay n = false) (hsteps : steps = d.nat K.mtStepCount) :
    d00.delayRespRx = (d.setPtpPort n q.port (fun u => { u with delayOut := none })).addDelay n ((t2 - t1c + (ptpTime m.body - t3 - m.corr)) / 2) := by
  unfold Device.delayRespRx
  rw [ht]
  dsimp only
  rw [hout, hlast]
  dsimp only
  exact (if_neg (by simp [hid, hpeer])).trans (if_neg (not_not.2 hsteps))

/-- A completed Pdelay exchange: its port is asCapable in the profiles of IEEE 802.1AS. -/
def Device.pdelayOk (d : Device) (n p : Nat) : Device :=
  if d.gptp n then (d.setPtpPort n p (fun u => { u with delayOut := none, pdelayTwo := none, lost := 0 })).setNum (K.instAscapable n)
      (setBit (d.nat (K.instAscapable n)) p true : Nat)
  else d.setPtpPort n p (fun u => { u with delayOut := none, pdelayTwo := none, lost := 0 })

theorem Device.pdelayOk_obeys (hn : n < d.ptp.length) (hp : p < (d.inst n).ports.length) : let e := d.pdelayOk n p
    (e.ptpPort n p).delayOut = none ∧ (e.ptpPort n p).lost = 0 ∧ (∀ j, e.asCapable n j = if j = p ∧ d.gptp n = true then true else d.asCapable n j) ∧
      ∀ k, k ≠ K.instAscapable n → e.val k = d.val k := by
  have hx := d.ptpPort_setPtpPort hn hp (fun u => { u with delayOut := none, pdelayTwo := none, lost := 0 })
  have hxo : (d.setPtpPort n p (fun u => { u with delayOut := none, pdelayTwo := none, lost := 0 })).obj = d.obj := rfl
  unfold Device.pdelayOk
  generalize d.setPtpPort n p (fun u => { u with delayOut := none, pdelayTwo := none, lost := 0 }) = x at *
  cases hg : d.gptp n with
  | false =>
    rw [if_neg Bool.false_ne_true]
    refine ⟨by rw [hx], by rw [hx], fun j => ?_, fun k _ => val_of_obj hxo k⟩
    rw [if_neg (fun h => Bool.false_ne_true h.2), Device.asCapable, nat_of_obj hxo, Device.asCapable]
  | true =>
    rw [if_pos rfl]
    have hport : (x.setNum (K.instAscapable n) (setBit (d.nat (K.instAscapable n)) p true : Nat)).ptpPort n p = x.ptpPort n p := rfl
    refine ⟨by rw [hport, hx], by rw [hport, hx], fun j => ?_, fun k hk => (x.val_setVal_ne _ hk).trans (val_of_obj hxo k)⟩
    rw [Device.asCapable, Device.nat, Device.num_setNum_self, Int.toNat_natCast, bit_setBit, Device.asCapable]
    exact if_congr (by simp) rfl rfl

section
variable {t1 : Int} {steps : Nat} (ht : d00.takePtp [3, 10] = some (q, n, m, d))
  (hout : (d.ptpPort n q.port).delayOut = some (m.seq, some (t1, steps))) (hid : field m.body 10 10 = portIdentity n q.port) (hk : m.kind = 3)
include ht hout hid hk

theorem Device.pdelayRespRx_two (hb : bit m.flags 9 = true) :
    d00.pdelayRespRx = d.setPtpPort n q.port (fun u => { u with pdelayTwo := some (m.seq, ptpTime m.body - m.corr, q.rx16) }) := by
  unfold Device.pdelayRespRx
  rw [ht]
  dsimp only
  rw [hout]
  exact (if_neg (not_not.2 hid)).trans ((if_neg (not_not.2 rfl)).trans ((if_pos hk).trans (if_pos hb)))

theorem Device.pdelayRespRx_one (hb : bit m.flags 9 = false) (hs : steps = d.nat K.mtStepCount) :
    d00.pdelayRespRx = if d.measuresPath n q.port then (d.pdelayOk n q.port).addDelay n
        ((q.rx16 - t1 - (m.corr + (if d.gptp n then d.num (K.instRateRatio n) else 0) * m.corr / 2 ^ 48)) / 2) else d.pdelayOk n q.port := by
  have hdone : d00.pdelayRespRx = d.pdelayDone n q.port t1 q.rx16 m.corr steps := by
    unfold Device.pdelayRespRx
    rw [ht]
    dsimp only
    rw [hout]
    exact (if_neg (not_not.2 hid)).trans ((if_neg (not_not.2 rfl)).trans ((if_pos hk).trans (if_neg (Bool.eq_false_iff.1 hb))))
  have hok : d.pdelayDone n q.port t1 q.rx16 m.corr steps = if (Decidable.decide (steps ≠ d.nat K.mtStepCount) || !d.measuresPath n q.port) = true then d.pdelayOk n q.port
      else (d.pdelayOk n q.port).addDelay n ((q.rx16 - t1 - (m.corr + (if d.gptp n then d.num (K.instRateRatio n) else 0) * m.corr / 2 ^ 48)) / 2) := rfl
  rw [hdone, hok, decide_eq_false (not_not.2 hs), Bool.false_or]
  cases d.measuresPath n q.port with
  | true => rfl
  | false => rfl

end

/-! ## Announces (R400, R406) -/

theorem Device.showParent_frame (a : Announce) : let t := d.showParent n (some a)
    t.clock = d.clock ∧ t.ptp = d.ptp ∧ t.oct (K.instGmId n) = a.gm ∧ t.nat (K.instGmClass n) = a.cls ∧ t.nat (K.instGmAccuracy n) = a.acc := by
  have hk : K.instGmId n ≠ K.instGmClass n ∧ K.instGmId n ≠ K.instGmAccuracy n ∧ K.instGmClass n ≠ K.instGmAccuracy n := by
    simp only [K.instGmId, K.instGmClass, K.instGmAccuracy]
    omega
  obtain ⟨h1, h2, h3⟩ := hk
  refine ⟨rfl, rfl, ?_, ?_, ?_⟩
  · refine (congrArg Val.bytes ((Device.val_setVal_ne _ _ h2).trans (Device.val_setVal_ne _ _ h1))).trans ?_
    exact d.oct_setOct_self _ _
  · refine (congrArg (fun v => v.int.toNat) (Device.val_setVal_ne _ _ h3)).trans ?_
    exact congrArg Int.toNat ((d.setOct (K.instGmId n) a.gm).num_setNum_self (K.instGmClass n) a.cls)
  · exact congrArg Int.toNat (((d.setOct (K.instGmId n) a.gm).setNum (K.instGmClass n) a.cls).num_setNum_self (K.instGmAccuracy n) a.acc)

/-- R406: instances that take no part in the BMCA show their parents, with nothing else to follow. -/
theorem Device.setParent_fixed (h : d.nat (K.instRole n) ≠ 2) (a : Option Announce) :
    d.setParent n a = (d.setInst n (fun i => { i with parent := a, lastSender := (a.map (·.sender)).or i.lastSender })).showParent n a :=
  if_pos (by simp [h])

/-- What follows of a parent's Announce: the candidate's activity and quality, and the free domain's bound. -/
def Device.announced (d : Device) (n p : Nat) (st : Nat) (a : Announce) : Device :=
  let d2 := d.receiverBack n p
  let d3 := if n < 4 && st = 9 then d2.advertiseQl (5 + n) (ptcQl a.cls a.acc) else d2
  if d3.freeFollows n && d3.nat (K.domState n) = 3 then d3.refreshBound n else d3

theorem Device.announced_frame (st : Nat) (a : Announce) : (d.announced n p st a).clock = d.clock ∧ (d.announced n p st a).ptp = d.ptp ∧
    ∀ k, candObj k = false → k ≠ K.instFreeBound n → (d.announced n p st a).val k = d.val k := by
  have h2 := d.cand_receiverBack (n := n) (p := p)
  obtain ⟨x, hx⟩ : ∃ x, x = (if n < 4 && st = 9 then (d.receiverBack n p).advertiseQl (5 + n) (ptcQl a.cls a.acc) else d.receiverBack n p) := ⟨_, rfl⟩
  have h3 : x.beside thermBlank candObj = d.beside thermBlank candObj := by
    rw [hx]
    split
    · next h =>
      rw [Bool.and_eq_true, decide_eq_true_eq] at h
      rw [Device.cand_advertiseQl _ (by omega), h2]
    · exact h2
  have hd : d.announced n p st a = if x.freeFollows n && x.nat (K.domState n) = 3 then x.refreshBound n else x := by rw [hx]; rfl
  have hclock := therm_clock h3
  have hptp : x.ptp = d.ptp := congrArg (fun x => x.1.ptp) h3
  rw [hd]
  split
  · obtain ⟨r1, r2, -, r4⟩ := x.refreshBound_frame (n := n)
    exact ⟨r1.trans hclock, r2.trans hptp, fun k hc hk => (r4 k hk).trans (val_of_beside h3 hc)⟩
  · exact ⟨hclock, hptp, fun k hc _ => val_of_beside h3 hc⟩

/-- The part with an Announce entered at its port. -/
def Device.announceSeen (d : Device) (n p : Nat) (m : PtpMsg) (seen : Nat) : Device :=
  d.setPtpPort n p (fun u => { u with
    foreign := (announceOf m, d.clock.ticks, seen) :: u.foreign.filter (fun e => e.1.sender ≠ (announceOf m).sender)
    annSince := d.clock.ticks, annLog := m.logInt, annRun := false })

theorem Device.announceRx_parent (ht : d00.takePtp [11] = some (q, n, m, d)) (hr : d.nat (K.instRole n) = 1) (hp : q.port = d.nat (K.instRxPort n))
    (hst : 4 ≤ d.ptpState n q.port) (ha : (announceOf m).steps < 255) :
    ∃ seen, d00.announceRx = ((d.announceSeen n q.port m seen).setParent n (some (announceOf m))).announced n q.port (d.ptpState n q.port) (announceOf m) := by
  unfold Device.announceRx
  rw [ht]
  dsimp only
  rw [if_neg (by simp [Nat.not_le.2 ha, Nat.not_lt.2 hst]), if_neg (by simp [hr, ← hp])]
  exact ⟨_, rfl⟩

/-! ## Signaling (R390) -/

/-- An interval that a Signaling message asks for, in place of the one asked for before. -/
def intervalTaken (b : Bytes) (i : Nat) (lo hi : Int) (old : Option Int) : Option Int :=
  if toSigned 1 (fieldNat b i 1) = 127 then none
  else if lo ≤ toSigned 1 (fieldNat b i 1) && toSigned 1 (fieldNat b i 1) ≤ hi then some (toSigned 1 (fieldNat b i 1)) else old

theorem Device.signalingRx_some {b : Bytes} (ht : d00.takePtp [12] = some (q, n, m, d)) (hb : m.intervalRequest = some b) :
    d00.signalingRx = d.setPtpPort n q.port (fun u => { u with
      asked := (intervalTaken b 6 (-7) 5 u.asked.1, intervalTaken b 7 (-7) 4 u.asked.2.1, intervalTaken b 8 (-3) 4 u.asked.2.2) }) := by
  unfold Device.signalingRx
  rw [ht]
  dsimp only
  rw [hb]
  rfl

end

end

/-- Settles O49: a good Sync's receipt makes no candidate active again that is so already, so that the offset is the part's own; a free domain's offset
is followed through its state, its port's, and its servo; a parent's Announce touches Thermostat and the bound alone beside what it shows. -/
theorem receivedMessagesMeasureTheTransmitter : Obligations.ReceivedMessagesMeasureTheTransmitter := by
  refine ⟨fun s => ?_, fun s q n m d ht hp hlen hports hst hg hr hdue hbit hsam hsteps hback => ?_, fun d n p w t1c hg h4 h8 hp hlen ho hs hf => ?_,
    fun s q n m d w ht hlen hs => ⟨fun h => ?_, fun h1 h2 hst => ?_⟩, fun d n v hn hlen => ⟨d.addDelay_bad, fun h0 h1 hk => ?_⟩,
    fun s q n m d t3 t2 t1c steps ht hp hlen hports hout hlast hid hpeer hsteps => ?_,
    fun s q n m d t1 steps ht hp hlen hports hout hid hk => ⟨fun hb => ?_, fun hb hsteps => ?_⟩,
    fun s q n m d ht hp hlen hports hr hrx hst ha => ?_, fun s q n m d i ht hp hlen hports b hb hi => ?_⟩
  · obtain ⟨h1, h2, h3, h4, h5, h6⟩ := Device.takePtp_none (d := s.dev)
    refine ⟨fun h => ?_, fun h => ?_, fun h => ?_, fun h => ?_, fun h => ?_, fun h => ?_⟩
    · rw [exec_ptpSyncRx, State.on, h1 h]
    · rw [exec_ptpFollowUpRx, State.on, h2 h]
    · rw [exec_ptpAnnounceRx, State.on, h3 h]
    · rw [exec_ptpDelayRespRx, State.on, h4 h]
    · rw [exec_ptpPdelayRespRx, State.on, h5 h]
    · rw [exec_ptpSignalingRx, State.on, h6 h]
  · have hn : n < d.ptp.length := hlen.symm ▸ Device.takePtp_lt ht
    have hx := d.syncRx_some ht hst hg hr hdue hbit hsteps hback rfl
    have hport := d.ptpPort_setPtpPort hn (by rw [hports]; exact hp) (fun u => { u with syncSince := d.clock.ticks, syncLog := m.logInt, syncRun := false })
    have hinst := d.inst_setPtpPort (p := q.port) hn (fun u => { u with syncSince := d.clock.ticks, syncLog := m.logInt, syncRun := false })
    have hseen : (d.syncSeen n q.port m.logInt).obj = d.obj ∧ (d.syncSeen n q.port m.logInt).clock = d.clock ∧
      (d.syncSeen n q.port m.logInt).ptp.length = d.ptp.length := ⟨rfl, rfl, Device.length_setPtpPort _ _ _ _⟩
    obtain ⟨so, sc, sl⟩ := hseen
    rw [← Device.syncSeen] at hport hinst
    intro w
    change s.dev.syncRx = (if bit m.flags 9 = true then (d.syncSeen n q.port m.logInt).setInst n (fun i => { i with sync := some w })
      else (((d.syncSeen n q.port m.logInt).setInst n (fun i => { i with sync := none, upRatio := m.rate })).offsetOf n q.port w
        (ptpTime m.body + m.corr)).relaySync n q q.stamp (padTo 10 m.body) m.corr q.rx16) at hx
    generalize d.syncSeen n q.port m.logInt = e at *
    have he : n < e.ptp.length := by rw [sl]; exact hn
    refine ⟨fun hb => ?_, fun hb => ?_⟩
    · have hei := e.inst_setInst he (fun i => { i with sync := none, upRatio := m.rate })
      rw [if_neg (Bool.eq_false_iff.1 hb)] at hx
      refine ⟨e.setInst n (fun i => { i with sync := none, upRatio := m.rate }), s.dev.syncRx, exec_ptpSyncRx s, hx, so, sc, ?_, ?_⟩
      · have hkept := congrArg (fun i : PtpInst => (i.ports.getD q.port {}).syncSince) hei
        exact hkept.trans (congrArg PtpPort.syncSince hport)
      · rw [hei, hinst]
    · rw [if_pos hb] at hx
      refine ⟨_, exec_ptpSyncRx s, rfl, ?_, ?_, ?_⟩
      · show ((s.dev.syncRx).inst n).sync = _
        rw [hx, e.inst_setInst he]
      · show (s.dev.syncRx).obj = _
        rw [hx]
        exact so
      · show (s.dev.syncRx).clock = _
        rw [hx]
        exact sc
  · exact d.offsetOf_obeys w t1c hg h4 hs hf (by rw [hlen]; exact h8) (by rw [ho]; exact hp)
  · rw [exec_ptpFollowUpRx, State.on, d.followUpRx_other ht hs h]
  · have hn : n < d.ptp.length := hlen.symm ▸ Device.takePtp_lt ht
    have hi := d.inst_setInst hn (fun i => { i with sync := none, upRatio := m.rate })
    exact ⟨_, s.dev.followUpRx, exec_ptpFollowUpRx s, d.followUpRx_some ht hs h1 h2 hst, rfl, rfl, by rw [hi], by rw [hi]⟩
  · exact d.addDelay_good h0 h1 hk (by rw [hlen]; exact hn)
  · have hn : n < d.ptp.length := hlen.symm ▸ Device.takePtp_lt ht
    have hi := d.inst_setPtpPort (p := q.port) hn (fun u => { u with delayOut := none })
    have hport := d.ptpPort_setPtpPort hn (by rw [hports]; exact hp) (fun u => { u with delayOut := none })
    refine ⟨d.setPtpPort n q.port (fun u => { u with delayOut := none }), ?_, rfl, rfl, by rw [hport], by rw [hi]⟩
    rw [exec_ptpDelayRespRx, State.on, d.delayRespRx_some ht hout hlast hid hpeer hsteps]
  · have hn : n < d.ptp.length := hlen.symm ▸ Device.takePtp_lt ht
    have hport := d.ptpPort_setPtpPort hn (by rw [hports]; exact hp) (fun u => { u with pdelayTwo := some (m.seq, ptpTime m.body - m.corr, q.rx16) })
    have hx := d.pdelayRespRx_two ht hout hid hk hb
    refine ⟨_, exec_ptpPdelayRespRx s, rfl, ?_, ?_⟩
    · show (s.dev.pdelayRespRx).obj = _
      rw [hx]
      rfl
    · show ((s.dev.pdelayRespRx).ptpPort n q.port).pdelayTwo = _
      rw [hx, hport]
  · have hn : n < d.ptp.length := hlen.symm ▸ Device.takePtp_lt ht
    have hok := d.pdelayOk_obeys hn (p := q.port) (by rw [hports]; exact hp)
    have hx := d.pdelayRespRx_one ht hout hid hk hb hsteps
    exact ⟨_, _, (exec_ptpPdelayRespRx s).trans (congrArg (fun x => Host.Outcome.next { s with dev := x }) hx), rfl, hok⟩
  · have hn : n < d.ptp.length := hlen.symm ▸ Device.takePtp_lt ht
    obtain ⟨seen, hx⟩ := d.announceRx_parent ht hr hrx hst ha
    have hport := d.ptpPort_setPtpPort hn (by rw [hports]; exact hp) (fun u => { u with
      foreign := (announceOf m, d.clock.ticks, seen) :: u.foreign.filter (fun e => e.1.sender ≠ (announceOf m).sender)
      annSince := d.clock.ticks, annLog := m.logInt, annRun := false })
    rw [← Device.announceSeen] at hport
    have hseen : (d.announceSeen n q.port m seen).obj = d.obj ∧ (d.announceSeen n q.port m seen).clock = d.clock ∧
      (d.announceSeen n q.port m seen).ptp.length = d.ptp.length := ⟨rfl, rfl, Device.length_setPtpPort _ _ _ _⟩
    obtain ⟨so, sc, sl⟩ := hseen
    rw [Device.setParent_fixed _ (by rw [nat_of_obj so, hr]; decide)] at hx
    generalize d.announceSeen n q.port m seen = e at *
    have hei := e.inst_setInst (sl.symm ▸ hn) (fun i => { i with parent := some (announceOf m), lastSender := ((some (announceOf m)).map (·.sender)).or i.lastSender })
    have hxc : (e.setInst n (fun i => { i with parent := some (announceOf m), lastSender := ((some (announceOf m)).map (·.sender)).or i.lastSender })).clock = e.clock := rfl
    generalize e.setInst n (fun i => { i with parent := some (announceOf m), lastSender := ((some (announceOf m)).map (·.sender)).or i.lastSender }) = x at *
    obtain ⟨p1, p2, p3, p4, p5⟩ := x.showParent_frame (n := n) (announceOf m)
    generalize x.showParent n (some (announceOf m)) = y at *
    obtain ⟨a1, a2, a3⟩ := y.announced_frame (n := n) (p := q.port) (d.ptpState n q.port) (announceOf m)
    rw [← hx] at a1 a2 a3
    have hinst : s.dev.announceRx.inst n = _ := (y.inst_of_ptp a2 n).trans ((x.inst_of_ptp p2 n).trans hei)
    have hptp : s.dev.announceRx.ptpPort n q.port = _ := (congrArg (fun i : PtpInst => i.ports.getD q.port {}) hinst).trans hport
    have hk : K.instGmId n ≠ K.instFreeBound n ∧ K.instGmClass n ≠ K.instFreeBound n ∧ K.instGmAccuracy n ≠ K.instFreeBound n := by
      simp only [K.instGmId, K.instGmClass, K.instGmAccuracy, K.instFreeBound]
      omega
    obtain ⟨k1, k2, k3⟩ := hk
    refine ⟨_, exec_ptpAnnounceRx s, rfl, a1.trans (p1.trans (hxc.trans sc)), congrArg PtpInst.parent hinst, ?_, ?_, ?_, congrArg PtpPort.annSince hptp,
      congrArg PtpPort.annLog hptp⟩
    · exact (congrArg Val.bytes (a3 _ (candObj_high (instKey_high n _)) k1)).trans p3
    · exact (congrArg (fun v => v.int.toNat) (a3 _ (candObj_high (instKey_high n _)) k2)).trans p4
    · exact (congrArg (fun v => v.int.toNat) (a3 _ (candObj_high (instKey_high n _)) k3)).trans p5
  · have hn : n < d.ptp.length := hlen.symm ▸ Device.takePtp_lt ht
    have hx := d.signalingRx_some ht hb
    have hport := d.ptpPort_setPtpPort hn (by rw [hports]; exact hp) (fun u => { u with
      asked := (intervalTaken b 6 (-7) 5 u.asked.1, intervalTaken b 7 (-7) 4 u.asked.2.1, intervalTaken b 8 (-3) 4 u.asked.2.2) })
    have htake : intervalTaken b 7 (-7) 4 (d.ptpPort n q.port).asked.2.1 =
        if i = 127 then none else if -7 ≤ i ∧ i ≤ 4 then some i else (d.ptpPort n q.port).asked.2.1 := by
      rw [intervalTaken, ← hi]
      simp only [Bool.and_eq_true, decide_eq_true_eq]
    refine ⟨_, exec_ptpSignalingRx s, rfl, ?_, ?_, ?_⟩
    · show (s.dev.signalingRx).obj = _
      rw [hx]
      rfl
    · show (s.dev.signalingRx).clock = _
      rw [hx]
      rfl
    · show ((s.dev.signalingRx).ptpPort n q.port).asked.2.1 = _
      rw [hx, hport]
      exact htake

end Sys2Proof.Machine
end

section
/-! Chapter 14: what instances send, and when (R397, R398, R400). -/

namespace Sys2Proof.Machine

theorem exec_syncSchedule (s : State) (n p : Nat) : exec (.syncSchedule n p) s = .next (s.on (·.syncSchedule n p)) := rfl
theorem exec_announceSchedule (s : State) (n p : Nat) : exec (.announceSchedule n p) s = .next (s.on (·.announceSchedule n p)) := rfl
theorem exec_delayReqSchedule (s : State) (n p : Nat) : exec (.delayReqSchedule n p) s = .next (s.on (·.delaySchedule n p)) := rfl

theorem beNat_lt (bs : Bytes) : beNat bs < 256 ^ bs.length := by
  induction bs using List.reverseRecOn with
  | nil => decide
  | append_singleton bs b ih =>
    have hb : b.toNat < 256 := b.isLt
    rw [beNat_append_one, List.length_append, List.length_singleton, Nat.pow_succ]
    omega

section
variable (d : Device) {n p : Nat}

/-- Without MT the instances schedule nothing. -/
theorem Device.schedules_stopped (h : d.clock.mtRun = false) : d.syncSchedule n p = d ∧ d.announceSchedule n p = d ∧ d.delaySchedule n p = d := by
  have hstop : (Decidable.decide (8 ≤ n) || Decidable.decide (44 ≤ p) || !d.clock.mtRun) = true := by rw [h]; simp
  exact ⟨if_pos hstop, if_pos hstop, if_pos hstop⟩

theorem Device.elapse_mtRun (k : Nat) : (d.elapse k).clock.mtRun = d.clock.mtRun := by
  unfold Device.elapse
  dsimp only
  split
  · rfl
  · rfl

theorem Device.originating_of {e : Device} (ho : e.obj = d.obj) (hp : e.power = d.power) (hr : e.clock.mtRun = d.clock.mtRun) :
    e.originating = d.originating := by
  simp only [Device.originating, nat_of_obj ho, hp, hr]

/-! ## The grid of instants (R397) -/

/-- R397: an instant of a port's schedule: on its grid, past this tick's start and past the last one unless MT has stepped back behind that. -/
def Device.onGrid (d : Device) (p : Nat) (L : Int) (last t : Nat) : Prop :=
  d.clock.mt < t + d.mtGain 1 ∧ (last ≤ d.clock.mt → last < t) ∧ ∃ k, t = p * 2000 * nsU + k * (secU * 2 ^ (L + 7).toNat / 128)

theorem Device.nextInstant_onGrid (L : Int) (last : Nat) : d.onGrid p L last (d.nextInstant p L last) := by
  have hiv : 0 < secU * 2 ^ (L + 7).toNat / 128 := by
    refine Nat.div_pos (Nat.le_trans ?_ (Nat.le_mul_of_pos_right _ (Nat.two_pow_pos _))) (by decide)
    exact (by decide +kernel : 128 ≤ secU)
  have hle (lo : Nat) := le_ceilDiv_mul (a := lo - p * 2000 * nsU) hiv
  unfold Device.nextInstant
  dsimp only
  unfold Device.onGrid
  generalize secU * 2 ^ (L + 7).toNat / 128 = iv at hiv hle ⊢
  refine ⟨?_, fun h => ?_, ⟨_, rfl⟩⟩
  · split
    · have := hle (d.clock.mt + 1 - d.mtGain 1)
      omega
    · have := hle (max (last + 1) (d.clock.mt + 1 - d.mtGain 1))
      omega
  · rw [if_neg (Nat.not_lt.2 h)]
    have := hle (max (last + 1) (d.clock.mt + 1 - d.mtGain 1))
    omega

/-- R400: an Announce of port p of PTn with a sequence number. -/
def Device.announceFrame (d : Device) (n p : Nat) (L : Int) (seq : Nat) : Frame :=
  { body := (d.ptpFrame n p (d.buildPtp n p 11 (d.advertised n).flags 0 seq L (announceBody (d.advertised n)))).1, src := 0x100 }

/-! ## A message sent (R368) -/

/-- What a message that is sent leaves: a reservation where a slot was free, and nothing else. -/
theorem Device.ptpSend_frame (len : Nat) (f : Frame) : let t := d.ptpSend p len (fun _ => f)
    t.clock = d.clock ∧ t.obj = d.obj ∧ t.ptp = d.ptp ∧
      (t.parl = d.parl ∨ ∃ r, t.parl = { d.parl with resv := d.parl.resv ++ [r] } ∧ r.port = p ∧ r.frame = f) := by
  unfold Device.ptpSend
  dsimp only
  split
  · exact ⟨rfl, rfl, rfl, .inr ⟨_, rfl, rfl, rfl⟩⟩
  · exact ⟨rfl, rfl, rfl, .inl rfl⟩

/-- R397: a schedule of a port of one of the part's instances, with MT running. -/
theorem schedule_goes {c : Clock} (hn : n < 8) (hp : p < 44) (hr : c.mtRun = true) :
    ¬ (Decidable.decide (8 ≤ n) || Decidable.decide (44 ≤ p) || !c.mtRun) = true := by
  simp [hr, Nat.not_le.2 hn, Nat.not_le.2 hp]

variable (hn : n < 8) (hp : p < 44) (hl : d.ptp.length = 8) (hports : (d.inst n).ports.length = 44) (hrun : d.clock.mtRun = true)
include hn hp hl hports hrun

section
variable {L : Int} {t0 : Nat} (hL : L = ((d.ptpPort n p).asked.2.1).getD (d.num (K.instLogSync n))) (ht : t0 = d.nextInstant p L (d.ptpPort n p).syncAt)
include hL ht

theorem Device.syncSchedule_obeys : let t := d.syncSchedule n p
    t.clock = (d.runToMt t0).clock ∧ (t.ptpPort n p).syncAt = t0 ∧ t.obj = d.obj ∧
      (d.ptpState n p ≠ 6 → t.parl = d.parl ∧ (t.ptpPort n p).syncSeq = (d.ptpPort n p).syncSeq) ∧
      (d.ptpState n p = 6 → d.instOn n = true → d.originating = true → d.num (K.instRelay n) = 0 → d.gptp n = false →
        (t.ptpPort n p).syncSeq = (d.ptpPort n p).syncSeq + 1 ∧
        (t.parl = d.parl ∨ ∃ r, t.parl = { d.parl with resv := d.parl.resv ++ [r] } ∧ r.port = p ∧ r.frame.insOp = 1 ∧ r.frame.insScale = 3 + n ∧
          r.frame.tag = .ptp n 0 (p * 65536 + (d.ptpPort n p).syncSeq % 65536))) := by
  have hdue : d.syncDue n p = t0 := by rw [ht, hL]; rfl
  obtain ⟨e, he⟩ : ∃ e, (d.runToMt t0).setPtpPort n p (fun u => { u with syncAt := t0 }) = e := ⟨_, rfl⟩
  have hef : e.clock = (d.runToMt t0).clock ∧ e.obj = d.obj ∧ e.parl = d.parl ∧ e.ptp.length = d.ptp.length ∧ e.originating = d.originating := by
    rw [← he]
    exact ⟨rfl, rfl, rfl, length_updAt _ _ _, d.originating_of rfl rfl (d.elapse_mtRun _)⟩
  obtain ⟨ec, eo, ep, el, eor⟩ := hef
  have heu : e.ptpPort n p = { d.ptpPort n p with syncAt := t0 } := by
    rw [← he]
    exact (d.runToMt t0).ptpPort_setPtpPort (n := n) (p := p) (by show n < d.ptp.length; rw [hl]; exact hn) (by show p < (d.inst n).ports.length; rw [hports]; exact hp) _
  have hei : (e.inst n).ports.length = 44 := by
    rw [← he]
    refine (congrArg (fun i : PtpInst => i.ports.length) ((d.runToMt t0).inst_setPtpPort (n := n) (p := p)
      (by show n < d.ptp.length; rw [hl]; exact hn) _)).trans ?_
    exact (length_updAt _ _ _).trans hports
  have hst : e.ptpState n p = d.ptpState n p := d.ptpState_of_val (val_of_obj eo _)
  have hx : d.syncSchedule n p = if (!e.originating || !e.instOn n || Decidable.decide (e.ptpState n p ≠ 6)
      || (Decidable.decide (e.num (K.instRelay n) = 1) && !(e.inst n).rxTimedOut) || (e.gptp n && !e.asCapable n p)) = true then e else e.sendSync n p := by
    unfold Device.syncSchedule
    rw [if_neg (schedule_goes hn hp hrun)]
    dsimp only
    rw [hdue, he]
  obtain ⟨f, hf⟩ : ∃ f, f = e.syncFrame n p 1 0 (List.replicate 10 0) [] (e.rateTlv n 0) := ⟨_, rfl⟩
  have hff : f.insOp = 1 ∧ f.insScale = 3 + n ∧ f.tag = .ptp n 0 (p * 65536 + (d.ptpPort n p).syncSeq % 65536) := by
    have htag : (e.ptpPort n p).syncSeq = (d.ptpPort n p).syncSeq := by rw [heu]
    rw [hf, ← htag]
    exact ⟨rfl, rfl, rfl⟩
  have hsend : e.sendSync n p = (e.ptpSend p f.body.length (fun _ => f)).setPtpPort n p (fun u => { u with syncSeq := u.syncSeq + 1 }) := by rw [hf]; rfl
  obtain ⟨x1, x2, x3, x4⟩ := e.ptpSend_frame (p := p) f.body.length f
  have hport := (e.ptpSend p f.body.length (fun _ => f)).ptpPort_setPtpPort (n := n) (p := p) (by rw [x3, el, hl]; exact hn)
    (by rw [e.inst_of_ptp x3, hei]; exact hp) (fun u => { u with syncSeq := u.syncSeq + 1 })
  rw [← hsend, e.ptpPort_of_ptp x3, heu] at hport
  have hsf : (e.sendSync n p).clock = e.clock ∧ (e.sendSync n p).obj = e.obj ∧ (e.sendSync n p).parl = (e.ptpSend p f.body.length (fun _ => f)).parl := by
    rw [hsend]
    exact ⟨x1, x2, rfl⟩
  obtain ⟨y1, y2, y3⟩ := hsf
  intro t
  rw [show t = d.syncSchedule n p from rfl, hx]
  clear hx hsend he hf
  refine ⟨?_, ?_, ?_, fun h6 => ?_, fun h6 hon hor hrel hg => ?_⟩
  · split
    · exact ec
    · exact y1.trans ec
  · split
    · rw [heu]
    · rw [hport]
  · split
    · exact eo
    · exact y2.trans eo
  · rw [if_pos (by simp [hst, h6]), heu]
    exact ⟨ep, rfl⟩
  · have hgo : ¬ (!e.originating || !e.instOn n || Decidable.decide (e.ptpState n p ≠ 6)
        || (Decidable.decide (e.num (K.instRelay n) = 1) && !(e.inst n).rxTimedOut) || (e.gptp n && !e.asCapable n p)) = true := by
      have h1 : e.instOn n = true := by rw [Device.instOn, num_of_obj eo]; exact hon
      have h2 : e.gptp n = false := by rw [Device.gptp, Device.profile, nat_of_obj eo]; exact hg
      have h3 : e.num (K.instRelay n) = 0 := by rw [num_of_obj eo]; exact hrel
      simp [eor, hor, h1, hst, h6, h2, h3]
    rw [if_neg hgo, hport, y3]
    refine ⟨rfl, ?_⟩
    rw [ep] at x4
    obtain h | ⟨r, hr, hrp, hrf⟩ := x4
    · exact .inl h
    · refine .inr ⟨r, hr, hrp, ?_⟩
      rw [hrf]
      exact hff

end

section
variable {L : Int} {t0 : Nat} (hL : L = ((d.ptpPort n p).asked.2.2).getD (d.num (K.instLogAnnounce n))) (ht : t0 = d.nextInstant p L (d.ptpPort n p).annAt)
include hL ht

theorem Device.announceSchedule_obeys : let t := d.announceSchedule n p
    t.clock = (d.runToMt t0).clock ∧ (t.ptpPort n p).annAt = t0 ∧
      (d.ptpState n p ≠ 6 ∨ d.profile n = 3 → t.parl = d.parl ∧ (t.ptpPort n p).annSeq = (d.ptpPort n p).annSeq) ∧
      (d.ptpState n p = 6 → d.instOn n = true → d.originating = true → d.profile n ≠ 3 →
        (t.ptpPort n p).annSeq = (d.ptpPort n p).annSeq + 1 ∧
        (t.parl = d.parl ∨ ∃ r, t.parl = { d.parl with resv := d.parl.resv ++ [r] } ∧ r.port = p ∧ r.frame.insOp = 0)) := by
  have hdue : d.announceDue n p = t0 := by rw [ht, hL]; rfl
  obtain ⟨e, he⟩ : ∃ e, (d.runToMt t0).setPtpPort n p (fun u => { u with annAt := t0 }) = e := ⟨_, rfl⟩
  have hef : e.clock = (d.runToMt t0).clock ∧ e.obj = d.obj ∧ e.parl = d.parl ∧ e.ptp.length = d.ptp.length ∧ e.originating = d.originating := by
    rw [← he]
    exact ⟨rfl, rfl, rfl, length_updAt _ _ _, d.originating_of rfl rfl (d.elapse_mtRun _)⟩
  obtain ⟨ec, eo, ep, el, eor⟩ := hef
  have heu : e.ptpPort n p = { d.ptpPort n p with annAt := t0 } := by
    rw [← he]
    exact (d.runToMt t0).ptpPort_setPtpPort (n := n) (p := p) (by show n < d.ptp.length; rw [hl]; exact hn) (by show p < (d.inst n).ports.length; rw [hports]; exact hp) _
  have hei : (e.inst n).ports.length = 44 := by
    rw [← he]
    refine (congrArg (fun i : PtpInst => i.ports.length) ((d.runToMt t0).inst_setPtpPort (n := n) (p := p)
      (by show n < d.ptp.length; rw [hl]; exact hn) _)).trans ?_
    exact (length_updAt _ _ _).trans hports
  have hst : e.ptpState n p = d.ptpState n p := d.ptpState_of_val (val_of_obj eo _)
  have hprof : e.profile n = d.profile n := nat_of_obj eo _
  obtain ⟨f, hf⟩ : ∃ f, f = e.announceFrame n p L ((d.ptpPort n p).annSeq % 65536) := ⟨_, rfl⟩
  have hins : f.insOp = 0 := by rw [hf]; rfl
  obtain ⟨v, hv⟩ : ∃ v : Int, v = (e.advertised n).steps := ⟨_, rfl⟩
  have hx : d.announceSchedule n p =
      if (!e.originating || !e.instOn n || Decidable.decide (e.ptpState n p ≠ 6) || Decidable.decide (e.profile n = 3)) = true then e
      else ((e.setNum (K.instStepsRemoved n) v).ptpSend p f.body.length (fun _ => f)).setPtpPort n p (fun u => { u with annSeq := u.annSeq + 1 }) := by
    unfold Device.announceSchedule
    rw [if_neg (schedule_goes hn hp hrun)]
    dsimp only
    rw [hdue, he, ← hL, hf, hv]
    rfl
  have hgf : (e.setNum (K.instStepsRemoved n) v).clock = e.clock ∧ (e.setNum (K.instStepsRemoved n) v).ptp = e.ptp ∧
    (e.setNum (K.instStepsRemoved n) v).parl = e.parl := ⟨rfl, rfl, rfl⟩
  generalize e.setNum (K.instStepsRemoved n) v = g at *
  obtain ⟨gc, gp, gl⟩ := hgf
  obtain ⟨x1, -, x3, x4⟩ := g.ptpSend_frame (p := p) f.body.length f
  have hptp : (g.ptpSend p f.body.length (fun _ => f)).ptp = e.ptp := x3.trans gp
  have hport := (g.ptpSend p f.body.length (fun _ => f)).ptpPort_setPtpPort (n := n) (p := p) (by rw [hptp, el, hl]; exact hn)
    (by rw [e.inst_of_ptp hptp, hei]; exact hp) (fun u => { u with annSeq := u.annSeq + 1 })
  rw [e.ptpPort_of_ptp hptp, heu] at hport
  intro t
  rw [show t = d.announceSchedule n p from rfl, hx]
  clear hx he hf hv
  refine ⟨?_, ?_, fun h => ?_, fun h6 hon hor hpr => ?_⟩
  · split
    · exact ec
    · exact x1.trans (gc.trans ec)
  · split
    · rw [heu]
    · rw [hport]
  · rw [if_pos (by rw [hst, hprof]; simpa [or_assoc] using .inr (.inr h)), heu]
    exact ⟨ep, rfl⟩
  · have h1 : e.instOn n = true := by rw [Device.instOn, num_of_obj eo]; exact hon
    rw [if_neg (by simp [eor, hor, h1, hst, h6, hprof, hpr]), hport]
    refine ⟨rfl, ?_⟩
    rw [gl, ep] at x4
    obtain h | ⟨r, hr, hrp, hrf⟩ := x4
    · exact .inl h
    · refine .inr ⟨r, hr, hrp, ?_⟩
      rw [hrf]
      exact hins

end

/-- R397, R398: a port that receives end to end has its Delay_Req out, and draws its next one. -/
theorem Device.delaySchedule_obeys (hpeer : d.peerDelay n = false) (hon : d.instOn n = true) (hor : d.originating = true)
    (hst : d.ptpState n p = 8 ∨ d.ptpState n p = 9) : let u := d.ptpPort n p
    let t := d.delaySchedule n p
    t.clock = (d.runTo u.delayDue).clock ∧ (t.ptpPort n p).delayOut = some (u.delaySeq % 65536, none) ∧ (t.ptpPort n p).delaySeq = u.delaySeq + 1 ∧
      t.obj = d.obj ∧ (t.ptpPort n p).delayDue < t.clock.ticks + max 1 (2 * sTicks * 2 ^ ((u.asked.1).getD (d.num (K.instLogDelay n)) + 7).toNat / 128) := by
  obtain ⟨X, hX⟩ : ∃ X, X = 2 * sTicks * 2 ^ (((d.ptpPort n p).asked.1).getD (d.num (K.instLogDelay n)) + 7).toNat / 128 := ⟨_, rfl⟩
  obtain ⟨c, hc⟩ : ∃ c, (d.drawBytes 4).2.runTo (d.ptpPort n p).delayDue = c := ⟨_, rfl⟩
  obtain ⟨r, hr⟩ : ∃ r, r = beNat (d.drawBytes 4).1 := ⟨_, rfl⟩
  have hrlt : r < 2 ^ 32 := by
    rw [hr]
    have hlen : (d.drawBytes 4).1.length = 4 := by rw [Device.drawBytes, List.length_map, List.length_range]
    have := beNat_lt (d.drawBytes 4).1
    rw [hlen] at this
    exact this
  have hcf : c.clock = (d.runTo (d.ptpPort n p).delayDue).clock ∧ c.obj = d.obj ∧ c.ptp = d.ptp ∧ c.originating = d.originating := hc ▸ ⟨rfl, rfl, rfl, d.originating_of rfl rfl (Device.elapse_mtRun (d.drawBytes 4).2 _)⟩
  obtain ⟨cc, co, cp, cor⟩ := hcf
  obtain ⟨e, he⟩ : ∃ e, c.setPtpPort n p (fun u => { u with delayDue := c.clock.ticks + X * r / 2 ^ 32 }) = e := ⟨_, rfl⟩
  have heu : e.ptpPort n p = { d.ptpPort n p with delayDue := c.clock.ticks + X * r / 2 ^ 32 } := by
    rw [← he, c.ptpPort_setPtpPort (by rw [cp, hl]; exact hn) (by rw [d.inst_of_ptp cp, hports]; exact hp), d.ptpPort_of_ptp cp]
  have hei : (e.inst n).ports.length = 44 := by
    rw [← he, c.inst_setPtpPort (by rw [cp, hl]; exact hn), d.inst_of_ptp cp]
    exact (length_updAt _ _ _).trans hports
  have hef : e.clock = c.clock ∧ e.obj = d.obj ∧ e.ptp.length = d.ptp.length ∧ e.originating = d.originating := by
    rw [← he, ← cor]
    exact ⟨rfl, co, (Device.length_setPtpPort _ _ _ _).trans (congrArg List.length cp), c.originating_of rfl rfl rfl⟩
  obtain ⟨ec, eo, el, eor⟩ := hef
  have hes : e.ptpState n p = d.ptpState n p := d.ptpState_of_val (val_of_obj eo _)
  have hep : e.peerDelay n = false := by rw [Device.peerDelay, Device.profile, nat_of_obj eo]; exact hpeer
  have hon' : e.instOn n = true := by rw [Device.instOn, num_of_obj eo]; exact hon
  have hx : ∃ (f : Frame) (len : Nat), d.delaySchedule n p = (e.ptpSend p len (fun _ => f)).setPtpPort n p (fun v => { v with
      delaySeq := v.delaySeq + 1, delayOut := some (v.delaySeq % 65536, none), pdelayTwo := none
      lost := if (1 : Nat) = 2 && v.delayOut.isSome then v.lost + 1 else v.lost }) := by
    unfold Device.delaySchedule
    rw [if_neg (schedule_goes hn hp hrun)]
    dsimp only
    rw [if_pos (show d.drawsDelay n = true by rw [Device.drawsDelay, hpeer]; rfl), hc, ← hX, ← hr, he, if_neg (by rw [eor, hor, hon', hes, hep]; simpa using fun h => hst.resolve_left h), hep]
    exact ⟨_, _, rfl⟩
  obtain ⟨f, len, hx⟩ := hx
  obtain ⟨x1, x2, x3, -⟩ := e.ptpSend_frame (p := p) len f
  have hport := (e.ptpSend p len (fun _ => f)).ptpPort_setPtpPort (n := n) (p := p) (by rw [x3, el, hl]; exact hn)
    (by rw [e.inst_of_ptp x3, hei]; exact hp) (fun v => { v with
      delaySeq := v.delaySeq + 1, delayOut := some (v.delaySeq % 65536, none), pdelayTwo := none
      lost := if (1 : Nat) = 2 && v.delayOut.isSome then v.lost + 1 else v.lost })
  rw [← hx, e.ptpPort_of_ptp x3, heu] at hport
  have htf : (d.delaySchedule n p).clock = c.clock ∧ (d.delaySchedule n p).obj = d.obj := by
    rw [hx]
    exact ⟨x1.trans ec, x2.trans eo⟩
  dsimp only
  rw [← hX, htf.1, htf.2, hport]
  refine ⟨cc, rfl, rfl, rfl, Nat.add_lt_add_left ?_ _⟩
  obtain h0 | h0 := Nat.eq_zero_or_pos X
  · rw [h0, Nat.zero_mul, Nat.zero_div]
    decide
  · refine Nat.lt_of_lt_of_le ?_ (Nat.le_max_right _ _)
    rw [Nat.div_lt_iff_lt_mul (by decide)]
    exact Nat.mul_lt_mul_of_pos_left hrlt h0

end

end Sys2Proof.Machine
end

section
/-! Chapter 14: roles and timeouts (R395, R406, R412, R413), and O48. -/

namespace Sys2Proof.Machine

theorem exec_bmcaDecision (s : State) (n : Nat) : exec (.bmcaDecision n) s = .next (s.on (·.bmca n)) := rfl
theorem exec_qualificationTimeout (s : State) (n p : Nat) : exec (.qualificationTimeout n p) s = .next (s.on (·.qualified n p)) := rfl
theorem exec_announceReceiptTimeout (s : State) (n p : Nat) : exec (.announceReceiptTimeout n p) s = .next (s.on (·.announceTimeout n p)) := rfl
theorem exec_syncReceiptTimeout (s : State) (n p : Nat) : exec (.syncReceiptTimeout n p) s = .next (s.on (·.syncTimeout n p)) := rfl
theorem exec_pdelayLostResponses (s : State) (n p : Nat) : exec (.pdelayLostResponses n p) s = .next (s.on (·.lostResponses n p)) := rfl
theorem exec_freeBoundUpdate (s : State) (n : Nat) : exec (.freeBoundUpdate n) s = .next (s.on (·.freeBoundUpdate n)) := rfl

/-! ## What roles change (Table 14-3) -/

/-- The objects that a port's change of role may touch: its state, its domain's state and bound, its candidate's, and the parent shown. -/
def roleObj (n k : Nat) : Bool := candObj k || k = K.domState n || k = K.instFreeBound n || k = K.instPortState n

theorem roleObj_core (n : Nat) : roleObj n K.studyCoreState = false := by
  have hk : K.studyCoreState ≠ K.domState n ∧ K.studyCoreState ≠ K.instFreeBound n ∧ K.studyCoreState ≠ K.instPortState n := by
    simp only [K.studyCoreState, K.domState, K.instFreeBound, K.instPortState]
    omega
  obtain ⟨h1, h2, h3⟩ := hk
  simp [roleObj, candObj_high (k := K.studyCoreState) (by decide), h1, h2, h3]

section
variable (d : Device) {n p : Nat}

/-- What an operation of roles leaves: every object but those of roles, the ports' states, and the parent. -/
structure Device.RoleKeeps (d e : Device) (n : Nat) : Prop where
  val : ∀ k, roleObj n k = false → e.val k = d.val k
  states : e.val (K.instPortState n) = d.val (K.instPortState n)
  parent : (e.inst n).parent = (d.inst n).parent
  count : e.ptp.length = d.ptp.length

theorem Device.RoleKeeps.refl : d.RoleKeeps d n := ⟨fun _ _ => rfl, rfl, rfl, rfl⟩

variable {d} in
theorem Device.RoleKeeps.trans {e f : Device} (h : d.RoleKeeps e n) (h' : e.RoleKeeps f n) : d.RoleKeeps f n :=
  ⟨fun k hk => (h'.val k hk).trans (h.val k hk), h'.states.trans h.states, h'.parent.trans h.parent, h'.count.trans h.count⟩

variable {d} in
theorem Device.RoleKeeps.ite {e f : Device} {c : Prop} [Decidable c] (h : d.RoleKeeps e n) (h' : d.RoleKeeps f n) : d.RoleKeeps (if c then e else f) n := by
  split <;> assumption

theorem roleObj_parts {k : Nat} (h : roleObj n k = false) : candObj k = false ∧ k ≠ K.domState n ∧ k ≠ K.instFreeBound n ∧ k ≠ K.instPortState n := by
  simpa [roleObj, and_assoc] using h

theorem Device.roleKeeps_cand {e : Device} (h : e.beside thermBlank candObj = d.beside thermBlank candObj) : d.RoleKeeps e n :=
  ⟨fun _ hk => val_of_beside h (roleObj_parts hk).1, val_of_beside h (candObj_high (instKey_high n _)),
    congrArg PtpInst.parent (d.inst_of_ptp (congrArg (fun x => x.1.ptp) h) n), congrArg (fun x => x.1.ptp.length) h⟩

theorem Device.roleKeeps_setPtpPort (f : PtpPort → PtpPort) : d.RoleKeeps (d.setPtpPort n p f) n :=
  ⟨fun _ _ => rfl, rfl, d.read_setInst PtpInst.parent (by intro _; rfl), d.length_setPtpPort _ _ _⟩

theorem Device.roleKeeps_setInst {f : PtpInst → PtpInst} (hf : ∀ i, (f i).parent = i.parent) : d.RoleKeeps (d.setInst n f) n :=
  ⟨fun _ _ => rfl, rfl, d.read_setInst PtpInst.parent hf, d.length_setInst _ _⟩

theorem Device.roleKeeps_report (code : Nat) (q : List Int) : d.RoleKeeps (d.report code q) n := ⟨fun _ _ => rfl, rfl, rfl, rfl⟩

theorem Device.roleKeeps_setDomState (st : Nat) : d.RoleKeeps (d.setDomState n st) n := by
  obtain ⟨-, -, -, -, kp, kbp, -⟩ := instKeys_apart n
  obtain ⟨-, -, h3, h4⟩ := d.setDomState_frame (n := n) st
  have hi := congrArg PtpInst.parent (d.setDomState_inst (n := n) st)
  refine ⟨fun k hk => ?_, h3 _ kp.symm kbp.symm, hi, h4⟩
  obtain ⟨-, k1, k2, -⟩ := roleObj_parts hk
  exact h3 k k1 k2

theorem Device.roleKeeps_freeLost : d.RoleKeeps (d.freeLost n) n := .ite (d.roleKeeps_setDomState 4) (.refl d)

theorem Device.roleKeeps_receiverDown (hn : n < 8) : d.RoleKeeps (d.receiverDown n) n := by
  have h1 : d.RoleKeeps (if d.nat K.fbState < 2 && d.power.waking.isNone then d.freeLost n else d) n := .ite d.roleKeeps_freeLost (.refl d)
  unfold Device.receiverDown
  dsimp only
  generalize (if d.nat K.fbState < 2 && d.power.waking.isNone then d.freeLost n else d) = x at h1 ⊢
  exact .ite (h1.trans (x.roleKeeps_cand (x.cand_setSource (by omega) false))) h1

/-- A port that takes another role: its state, and what no object but those of roles shows. -/
theorem Device.movePort_keeps (st : Nat) (hn : n < 8) : (d.setPtpState n p st).RoleKeeps (d.movePort n p st) n := by
  unfold Device.movePort
  dsimp only
  by_cases h : d.ptpState n p = st
  · rw [if_pos h, Device.setPtpState, if_pos h]
    exact .refl d
  · rw [if_neg h]
    have h1 := (d.setPtpState n p st).roleKeeps_setPtpPort (n := n) (p := p) (fun u => { u with qualDue := none })
    generalize (d.setPtpState n p st).setPtpPort n p (fun u => { u with qualDue := none }) = x at h1 ⊢
    have h2 := x.roleKeeps_setPtpPort (n := n) (p := p) (fun u => { u with syncSince := d.clock.ticks, syncRun := false })
    generalize x.setPtpPort n p (fun u => { u with syncSince := d.clock.ticks, syncRun := false }) = y at h2 ⊢
    exact .ite (h1.trans (x.roleKeeps_receiverDown hn)) (.ite (h1.trans (h2.trans (y.roleKeeps_cand y.cand_receiverUp))) h1)

theorem Device.movePort_val (st : Nat) (hn : n < 8) {k : Nat} (hk : roleObj n k = false) : (d.movePort n p st).val k = d.val k := by
  obtain ⟨-, -, -, h4⟩ := d.setPtpState_frame (n := n) (p := p) st
  exact ((d.movePort_keeps st hn).val k hk).trans (h4 k (roleObj_parts hk).2.2.2)

theorem Device.movePort_parent (st : Nat) (hn : n < 8) : ((d.movePort n p st).inst n).parent = (d.inst n).parent := by
  obtain ⟨-, h2, -, -⟩ := d.setPtpState_frame (n := n) (p := p) st
  exact (d.movePort_keeps st hn).parent.trans (congrArg PtpInst.parent (d.inst_of_ptp h2 n))

theorem Device.movePort_state {st : Nat} (hn : n < 8) (hs : st < 256) (ho : p < (d.oct (K.instPortState n)).length) : (d.movePort n p st).ptpState n p = st :=
  ((d.setPtpState n p st).ptpState_of_val (d.movePort_keeps st hn).states).trans (d.setPtpState_self hs ho)

theorem Device.length_movePort (st : Nat) (hn : n < 8) : (d.movePort n p st).ptp.length = d.ptp.length := by
  obtain ⟨-, h2, -, -⟩ := d.setPtpState_frame (n := n) (p := p) st
  exact (d.movePort_keeps st hn).count.trans (congrArg List.length h2)

/-- R406: a parent that is dropped. -/
theorem Device.setParent_none (hn : n < 8) (hl : n < d.ptp.length) : (d.setParent n none).val (K.instPortState n) = d.val (K.instPortState n) ∧
    ((d.setParent n none).inst n).parent = none := by
  have hk : K.instPortState n ≠ K.instGmId n ∧ K.instPortState n ≠ K.instGmClass n ∧ K.instPortState n ≠ K.instGmAccuracy n := by
    simp only [K.instPortState, K.instGmId, K.instGmClass, K.instGmAccuracy]
    omega
  obtain ⟨k1, k2, k3⟩ := hk
  obtain ⟨x, hx⟩ : ∃ x, (d.setInst n (fun i => { i with parent := none, lastSender := ((none : Option Announce).map (·.sender)).or i.lastSender })).showParent n none = x :=
    ⟨_, rfl⟩
  have hxv : x.val (K.instPortState n) = d.val (K.instPortState n) := by
    rw [← hx]
    exact ((Device.val_setVal_ne _ _ k3).trans (Device.val_setVal_ne _ _ k2)).trans (Device.val_setVal_ne _ _ k1)
  have hxp : (x.inst n).parent = none := by
    rw [← hx]
    exact congrArg PtpInst.parent (d.inst_setInst hl _)
  unfold Device.setParent
  dsimp only
  rw [hx]
  have hr := x.roleKeeps_report (n := n) 0x0A11 [(n : Int), fieldNat (x.oct (K.instGmId n)) 0 4, fieldNat (x.oct (K.instGmId n)) 4 4]
  generalize x.report 0x0A11 [(n : Int), fieldNat (x.oct (K.instGmId n)) 0 4, fieldNat (x.oct (K.instGmId n)) 4 4] = y at hr ⊢
  split
  · exact ⟨hxv, hxp⟩
  · split
    · exact ⟨hr.states.trans hxv, hr.parent.trans hxp⟩
    · have hj := hr.trans (y.roleKeeps_cand (n := n) (y.cand_parentJump (n := 5 + n) (by omega)))
      exact ⟨hj.states.trans hxv, hj.parent.trans hxp⟩

end

/-! ## BMCA (R406) -/

section
variable (d : Device) {n p : Nat}

theorem Device.bmca_idle (h : d.nat (K.instRole n) ≠ 2 ∨ fieldNat (d.oct K.studyCoreState) 2 1 ≠ 0) : d.bmca n = d := by
  unfold Device.bmca
  refine if_pos ?_
  obtain h | h := h
  · simp [h]
  · simp [h]

/-- With one port, the best of the ports is that port's. -/
theorem Device.ebest_single (h : (List.range 44).filter (fun p => d.inMask n p && 4 ≤ d.ptpState n p) = [p]) : d.ebest n = d.erbest n p := by
  unfold Device.ebest
  rw [h, List.foldl_cons, List.foldl_nil]
  cases d.erbest n p with
  | none => rfl
  | some x => rfl

section
variable (hn : n < 8) (hr : d.nat (K.instRole n) = 2) (hon : d.instOn n = true) (hor : d.originating = true)
  (hcore : fieldNat (d.oct K.studyCoreState) 2 1 = 0) (hports : (List.range 44).filter (fun p => d.inMask n p && 4 ≤ d.ptpState n p) = [p])
  (hcls : 128 ≤ (d.ownData n).cls)
include hn hr hon hor hcore hports hcls

theorem Device.bmca_goes : ¬ (Decidable.decide (8 ≤ n) || !d.instOn n || Decidable.decide (d.nat (K.instRole n) ≠ 2) || !d.originating
    || Decidable.decide (fieldNat (d.oct K.studyCoreState) 2 1 ≠ 0)) = true := by
  simp [hr, hon, hor, hcore, Nat.not_le.2 hn]

theorem Device.bmca_follows {a : Announce} (he : d.ebest n = some (a, p)) (hb : d.better n a (d.ownData n) = true)
    (hp : (d.inst n).parent.map (·.sender) ≠ some a.sender) : let f := d.setParent n (some a)
    d.bmca n = (if f.measuresPath n p then f else f.setInst n (fun i => { i with samples := [] })).movePort n p 8 := by
  have her : d.erbest n p = some (a, p) := (d.ebest_single hports).symm.trans he
  have hf : Option.filter (fun e : Announce × Nat => d.better n e.1 (d.ownData n)) (some (a, p)) = some (a, p) := by simp [hb]
  unfold Device.bmca
  rw [if_neg (d.bmca_goes hn hr hon hor hcore hports hcls)]
  dsimp only
  rw [hports, he, decide_eq_false (Nat.not_lt.2 hcls), Bool.false_and, if_neg Bool.false_ne_true, hf]
  simp only [List.foldl_cons, List.foldl_nil, her, Option.isNone_some, Bool.false_and, if_false, Bool.false_eq_true, if_true, decide_eq_false hp]

theorem Device.bmca_transmits (he : d.ebest n = none) (hw : d.ptpState n p ≠ 4 ∨ (d.ptpPort n p).annRun = true) (hp : (d.inst n).parent = none) :
    d.bmca n = d.preTransmit n p 0 := by
  have her : d.erbest n p = none := (d.ebest_single hports).symm.trans he
  have hkeep : ((d.preTransmit n p 0).inst n).parent = none := by
    unfold Device.preTransmit
    split
    · exact hp
    · exact (Device.roleKeeps_setPtpPort _ _).parent.trans ((d.movePort_parent 5 hn).trans hp)
  have hgo : ¬ (Decidable.decide (d.ptpState n p = 4) && !(d.ptpPort n p).annRun) = true := by
    rw [Bool.and_eq_true, decide_eq_true_eq, Bool.not_eq_true']
    rintro ⟨h1, h2⟩
    exact hw.elim (fun h => h h1) (fun h => Bool.false_ne_true (h2.symm.trans h))
  unfold Device.bmca
  rw [if_neg (d.bmca_goes hn hr hon hor hcore hports hcls)]
  dsimp only
  rw [hports, he, decide_eq_false (Nat.not_lt.2 hcls), Bool.false_and, if_neg Bool.false_ne_true]
  simp only [Option.filter_none, List.foldl_cons, List.foldl_nil, her, Option.isNone_none, Bool.true_and, if_false, Bool.false_eq_true, hgo, hkeep,
    Option.isSome_none]

end

/-! ## Timeouts (R395, R413) -/

theorem Device.qualified_other (h : d.ptpState n p ≠ 5) : d.qualified n p = d := by
  unfold Device.qualified
  split
  · exact if_pos (by simp [h])
  · rfl

theorem Device.qualified_obeys {due : Nat} (hn : n < 8) (hp : p < 44) (ho : (d.oct (K.instPortState n)).length = 44) (hd : (d.ptpPort n p).qualDue = some due)
    (h5 : d.ptpState n p = 5) : let t := d.qualified n p
    t.clock = (d.runTo due).clock ∧ t.ptpState n p = 6 ∧ newReports d t = [(0x0A10, [(n : Int), (p : Int), 5, 6])] ∧
      ∀ k, k ≠ K.instPortState n → t.val k = d.val k := by
  have hx : d.qualified n p = (d.runTo due).movePort n p 6 := by
    unfold Device.qualified
    rw [hd]
    exact if_neg (by simp [h5, Nat.not_le.2 hn, Nat.not_le.2 hp])
  obtain ⟨e, he⟩ : ∃ e, d.runTo due = e := ⟨_, rfl⟩
  have hef : e.obj = d.obj ∧ e.entries = d.entries := he ▸ ⟨rfl, rfl⟩
  obtain ⟨eo, ee⟩ := hef
  have h5' : e.ptpState n p = 5 := (d.ptpState_of_val (val_of_obj eo _)).trans h5
  have hm : e.movePort n p 6 = (e.setPtpState n p 6).setPtpPort n p (fun u => { u with qualDue := none }) := by
    unfold Device.movePort
    rw [h5']
    rfl
  obtain ⟨s1, -, -, s4⟩ := e.setPtpState_frame (n := n) (p := p) 6
  have s5 := e.setPtpState_self (n := n) (p := p) (st := 6) (by decide) (by rw [d.oct_of_obj eo, ho]; exact hp)
  have s6 := e.setPtpState_entries (n := n) (p := p) 6 (by rw [h5']; decide)
  rw [h5'] at s6
  rw [he] at hx
  dsimp only
  rw [hx, hm, he]
  refine ⟨s1, s5, newReports_of_entries (s6.trans ?_), fun k hk => (s4 k hk).trans (val_of_obj eo k)⟩
  rw [ee]
  rfl

/-- A receipt timeout as it is counted and recorded. -/
def Device.receiptCounted (d : Device) (n p : Nat) (key kind : Nat) : Device := (d.bump key).report 0x0A12 [(n : Int), (p : Int), (kind : Int)]

theorem Device.receiptCounted_obeys {key : Nat} (kind : Nat) {e : Device} (ho : e.obj = d.obj) (he : e.entries = d.entries) (hc : d.nat key < 2 ^ 32 - 1) :
    let x := e.receiptCounted n p key kind
    x.clock = e.clock ∧ x.nat key = d.nat key + 1 ∧ newReports d x = [(0x0A12, [(n : Int), (p : Int), (kind : Int)])] ∧ ∀ k, k ≠ key → x.val k = d.val k := by
  have hb := e.nat_bumpBy 4 key 1 (by rw [nat_of_obj ho]; exact Nat.add_lt_of_lt_sub hc)
  refine ⟨rfl, (hb.trans (congrArg (· + 1) (nat_of_obj ho key))), newReports_of_entries ?_, fun k hk => ?_⟩
  · rw [Device.receiptCounted, Device.entries_report, ← he]
    rfl
  · exact (e.val_setVal_ne _ hk).trans (val_of_obj ho k)

theorem Device.announceTimeout_some (hn : n < 8) (hp : p < 44) (hon : d.instOn n = true) (h3 : d.profile n ≠ 3) (hrun : (d.ptpPort n p).annRun = false)
    (hst : d.ptpState n p = 4 ∨ d.ptpState n p = 8 ∨ d.ptpState n p = 9) : d.announceTimeout n p =
      (((d.runTo ((d.ptpPort n p).annSince + d.nat (K.instAnnTimeout n) * intervalTicks (d.ptpPort n p).annLog (d.num (K.instLogAnnounce n)))).setPtpPort n p
        (fun u => { u with annRun := true })).receiptCounted n p (K.instAnnTimeouts n) 1).receiptLost n p := by
  unfold Device.announceTimeout
  refine if_neg ?_
  simpa [hn, hp, hon, h3, hrun] using fun h4 h8 => (hst.resolve_left h4).resolve_left h8

theorem Device.syncTimeout_other (h : d.ptpState n p ≠ 9 ∨ (d.ptpPort n p).syncRun = true) : d.syncTimeout n p = d := by
  unfold Device.syncTimeout
  refine if_pos ?_
  obtain h | h := h
  · simp [h]
  · simp [h]

theorem Device.syncTimeout_some (hn : n < 8) (hp : p < 44) (hon : d.instOn n = true) (h9 : d.ptpState n p = 9) (hrun : (d.ptpPort n p).syncRun = false) :
    d.syncTimeout n p =
      (((d.runTo ((d.ptpPort n p).syncSince + d.nat (K.instSyncTimeout n) * intervalTicks (d.ptpPort n p).syncLog (d.num (K.instLogSync n)))).setPtpPort n p
        (fun u => { u with syncRun := true })).receiptCounted n p (K.instSyncTimeouts n) 2).receiptLost n p := by
  unfold Device.syncTimeout
  exact if_neg (by simp [Nat.not_le.2 hn, Nat.not_le.2 hp, hon, h9, hrun])

/-! ## What a timeout does to its port (Table 14-6) -/

section
variable (hn : n < 8) (hp : p < 44) (ho : (d.oct (K.instPortState n)).length = 44)
include hn hp ho

theorem Device.receiptLost_fixed (h : d.nat (K.instRole n) = 1) : (d.receiptLost n p).ptpState n p = 8 := by
  have h1 := d.movePort_state (n := n) (p := p) (st := 8) hn (by decide) (by rw [ho]; exact hp)
  have h2 := ((d.movePort n p 8).ptpState_of_val (p := p) (d.movePort n p 8).roleKeeps_freeLost.states).trans h1
  unfold Device.receiptLost
  rw [if_neg (by rw [h]; decide)]
  dsimp only
  split
  · exact h2
  · exact h2

omit hp ho in
theorem Device.receiptLost_held (h : d.nat (K.instRole n) = 2) (hcore : fieldNat (d.oct K.studyCoreState) 2 1 ≠ 0) :
    (d.receiptLost n p).ptpState n p = d.ptpState n p := by
  obtain ⟨x, hx⟩ : ∃ x, (if d.ptpState n p = 9 then (d.setPtpPort n p (fun u => { u with foreign := [], annSince := d.clock.ticks })).receiverDown n
      else d.setPtpPort n p (fun u => { u with foreign := [], annSince := d.clock.ticks })) = x := ⟨_, rfl⟩
  have h1 : d.RoleKeeps x n := by
    rw [← hx]
    have hs := d.roleKeeps_setPtpPort (n := n) (p := p) (fun u => { u with foreign := [], annSince := d.clock.ticks })
    exact .ite (hs.trans (Device.roleKeeps_receiverDown _ hn)) hs
  obtain ⟨y, hy⟩ : ∃ y, (if (d.hasReceiver n && Decidable.decide (d.ptpState n p ≠ 9)) = true then x else x.freeLost n) = y := ⟨_, rfl⟩
  have h2 : d.RoleKeeps y n := by
    rw [← hy]
    exact .ite h1 (h1.trans x.roleKeeps_freeLost)
  have hb : y.bmca n = y := by
    refine y.bmca_idle (.inr ?_)
    rw [show y.oct K.studyCoreState = d.oct K.studyCoreState from congrArg Val.bytes (h2.val _ (roleObj_core n))]
    exact hcore
  have hl : d.receiptLost n p = y.bmca n := by
    unfold Device.receiptLost
    rw [if_pos h]
    dsimp only
    rw [if_neg (show ¬ (Decidable.decide (fieldNat (d.oct K.studyCoreState) 2 1 = 0) && _) = true by rw [decide_eq_false hcore]; simp), hx, hy]
  rw [hl, hb]
  exact d.ptpState_of_val h2.states

theorem Device.receiptLost_listens (hl : d.ptp.length = 8) (h : d.nat (K.instRole n) = 2) (hcore : fieldNat (d.oct K.studyCoreState) 2 1 = 0)
    (hst : d.ptpState n p = 8 ∨ d.ptpState n p = 9) : ∃ e : Device, d.receiptLost n p = e.bmca n ∧ e.ptpState n p = 4 ∧ (e.inst n).parent = none := by
  obtain ⟨x, hx⟩ : ∃ x, d.setPtpPort n p (fun u => { u with foreign := [], annSince := d.clock.ticks }) = x := ⟨_, rfl⟩
  have hxf : x.obj = d.obj ∧ x.ptp.length = d.ptp.length := hx ▸ ⟨rfl, Device.length_setPtpPort _ _ _ _⟩
  obtain ⟨xo, xl⟩ := hxf
  have m1 := x.movePort_state (n := n) (p := p) (st := 4) hn (by decide) (by rw [d.oct_of_obj xo, ho]; exact hp)
  have ml := x.length_movePort (n := n) (p := p) 4 hn
  obtain ⟨p1, p2⟩ := (x.movePort n p 4).setParent_none hn (by rw [ml, xl, hl]; exact hn)
  obtain ⟨y, hy⟩ : ∃ y, (x.movePort n p 4).setParent n none = y := ⟨_, rfl⟩
  rw [hy] at p1 p2
  have hys := ((x.movePort n p 4).ptpState_of_val (p := p) p1).trans m1
  have hfree := y.roleKeeps_freeLost (n := n)
  refine ⟨if (d.hasReceiver n && Decidable.decide (d.ptpState n p ≠ 9)) = true then y else y.freeLost n, ?_, ?_, ?_⟩
  · unfold Device.receiptLost
    rw [if_pos h]
    dsimp only
    rw [hx, if_pos (show (Decidable.decide (fieldNat (d.oct K.studyCoreState) 2 1 = 0) && _) = true by simpa [hcore] using hst), hy]
  · split
    · exact hys
    · exact (y.ptpState_of_val hfree.states).trans hys
  · split
    · exact p2
    · exact hfree.parent.trans p2

end

/-! ## Lost responses (R396, R413) -/

theorem Device.lostResponses_few (h : (d.ptpPort n p).lost < d.nat (K.instLostResp n)) : d.lostResponses n p = d := if_pos (by simp [h])

theorem Device.lostResponses_obeys (hn : n < 8) (hp : p < 44) (hl : d.ptp.length = 8) (hports : (d.inst n).ports.length = 44)
    (h : d.nat (K.instLostResp n) ≤ (d.ptpPort n p).lost) (hpeer : d.peerDelay n = true) : let t := d.lostResponses n p
    t.clock = d.clock ∧ (∀ j, t.asCapable n j = (if j = p then false else d.asCapable n j)) ∧ (t.ptpPort n p).lost = 0 ∧
      newReports d t = [(0x0A12, [(n : Int), (p : Int), 3])] ∧ ∀ k, k ≠ K.instAscapable n → t.val k = d.val k := by
  obtain ⟨e, he⟩ : ∃ e, d.setPtpPort n p (fun u => { u with lost := 0 }) = e := ⟨_, rfl⟩
  have hef : e.clock = d.clock ∧ e.obj = d.obj ∧ e.entries = d.entries := he ▸ ⟨rfl, rfl, rfl⟩
  obtain ⟨ec, eo, ee⟩ := hef
  have heu : (e.ptpPort n p).lost = 0 := by
    rw [← he, d.ptpPort_setPtpPort (by rw [hl]; exact hn) (by rw [hports]; exact hp)]
  have hx : d.lostResponses n p = (e.setNum (K.instAscapable n) (setBit (e.nat (K.instAscapable n)) p false : Nat)).report 0x0A12 [(n : Int), (p : Int), 3] := by
    rw [← he]
    exact if_neg (by simp [Nat.not_le.2 hn, Nat.not_le.2 hp, hpeer, Nat.not_lt.2 h])
  dsimp only
  rw [hx]
  refine ⟨ec, fun j => ?_, heu, newReports_of_entries ?_, fun k hk => (e.val_setVal_ne _ hk).trans (val_of_obj eo k)⟩
  · show bit ((e.setNum (K.instAscapable n) _).num (K.instAscapable n)).toNat j = _
    rw [Device.num_setNum_self, Int.toNat_natCast, bit_setBit, nat_of_obj eo]
    rfl
  · rw [Device.entries_report, ← ee]
    rfl

/-! ## The bound of a free domain in holdover (R412) -/

theorem Device.freeBoundUpdate_idle (h : d.freeFollows n = false ∨ (d.nat (K.domState n) ≠ 4 ∧ d.nat (K.domState n) ≠ 5)) : d.freeBoundUpdate n = d := by
  refine if_pos ?_
  obtain h | ⟨h1, h2⟩ := h
  · simp [h]
  · simp [h1, h2]

theorem Device.domSet_ne {st : Nat} (h : st ≠ 4) : d.domSet n st = (d.setNum (K.domState n) st).setInst n (fun i => { i with streak := 0 }) := by
  unfold Device.domSet
  dsimp only
  rw [if_neg h]

/-- R412: the bound of a free domain in T4 or T5 at this tick. -/
def Device.slowBound (d : Device) (n : Nat) : Nat :=
  min 0xFFFFFFFF ((d.inst n).boundBase + d.nat (K.instFreeHoRate n) * (d.clock.ticks - (d.inst n).boundSince) / sTicks)

theorem Device.refreshBound_slow (hf : d.freeFollows n = true) (hst : d.nat (K.domState n) = 4 ∨ d.nat (K.domState n) = 5) :
    d.refreshBound n = d.setNum (K.instFreeBound n) (d.slowBound n) := by
  have h3 : d.nat (K.domState n) ≠ 3 := by
    obtain h | h := hst
    · rw [h]; decide
    · rw [h]; decide
  have h45 : (Decidable.decide (d.nat (K.domState n) = 4) || Decidable.decide (d.nat (K.domState n) = 5)) = true := by simpa using hst
  unfold Device.refreshBound
  dsimp only
  rw [hf, if_neg (by decide), if_neg h3, if_pos h45]
  rfl

theorem Device.freeFollows_of_val {e : Device} (h1 : e.val (K.domMode n) = d.val (K.domMode n)) (h2 : e.val (K.instRole n) = d.val (K.instRole n)) :
    e.freeFollows n = d.freeFollows n := by
  simp only [Device.freeFollows, Device.bound, Device.num, Device.nat, h1, h2]
  rfl

theorem Device.freeBoundUpdate_obeys {b : Nat} (hn : n < 8) (hl : d.ptp.length = 8) (hf : d.freeFollows n = true)
    (hst : d.nat (K.domState n) = 4 ∨ d.nat (K.domState n) = 5)
    (hb : b = min 0xFFFFFFFF ((d.inst n).boundBase + d.nat (K.instFreeHoRate n) *
      ((d.runTo ((d.inst n).boundAt + msTicks)).clock.ticks - (d.inst n).boundSince) / sTicks)) : let t := d.freeBoundUpdate n
    t.clock = (d.runTo ((d.inst n).boundAt + msTicks)).clock ∧ t.nat (K.instFreeBound n) = b ∧
      (d.nat (K.domState n) = 5 ∨ b ≤ d.nat (K.instFreeHoLimit n) → t.nat (K.domState n) = d.nat (K.domState n) ∧ newReports d t = []) ∧
      (d.nat (K.domState n) = 4 → d.nat (K.instFreeHoLimit n) < b →
        t.nat (K.domState n) = 5 ∧ newReports d t = [(0x0A13, [(n : Int), 4, 5, (b : Int)])]) ∧
      ∀ k, k ≠ K.instFreeBound n → k ≠ K.domState n → t.val k = d.val k := by
  have keys : K.instFreeHoLimit n ≠ K.instFreeBound n ∧ K.domState n ≠ K.instFreeBound n ∧ K.domMode n ≠ K.instFreeBound n ∧ K.instRole n ≠ K.instFreeBound n ∧
      K.instFreeHoRate n ≠ K.instFreeBound n ∧ K.domMode n ≠ K.domState n ∧ K.instRole n ≠ K.domState n ∧ K.instFreeHoRate n ≠ K.domState n := by
    simp only [K.instFreeHoLimit, K.instFreeBound, K.domState, K.domMode, K.instRole, K.instFreeHoRate]
    omega
  obtain ⟨k1, k2, k3, k4, k5, k6, k7, k8⟩ := keys
  obtain ⟨c, hc⟩ : ∃ c, d.runTo ((d.inst n).boundAt + msTicks) = c := ⟨_, rfl⟩
  have hcf : c.obj = d.obj ∧ c.entries = d.entries ∧ c.ptp = d.ptp := hc ▸ ⟨d.runTo_obj _, d.entries_runTo _, d.runTo_ptp _⟩
  obtain ⟨co, ce, cp⟩ := hcf
  obtain ⟨e, he⟩ : ∃ e, c.setInst n (fun i => { i with boundAt := c.clock.ticks }) = e := ⟨_, rfl⟩
  have hei : e.inst n = { d.inst n with boundAt := c.clock.ticks } := by
    rw [← he, c.inst_setInst (by rw [cp, hl]; exact hn), d.inst_of_ptp cp]
  have hef : e.obj = d.obj ∧ e.entries = d.entries ∧ e.clock = c.clock := by
    rw [← he]
    exact ⟨co, ce, rfl⟩
  obtain ⟨eo, ee, ec⟩ := hef
  have hebound : e.slowBound n = b := by
    rw [Device.slowBound, hei, nat_of_obj eo, ec, hb, hc]
  have hestate : e.nat (K.domState n) = d.nat (K.domState n) := nat_of_obj eo _
  have hr : e.refreshBound n = e.setNum (K.instFreeBound n) b := by
    rw [e.refreshBound_slow ((d.freeFollows_of_val (val_of_obj eo _) (val_of_obj eo _)).trans hf) (by rw [hestate]; exact hst), hebound]
  obtain ⟨x, hx⟩ : ∃ x, e.setNum (K.instFreeBound n) b = x := ⟨_, rfl⟩
  have hxv {k : Nat} (hk : k ≠ K.instFreeBound n) : x.val k = d.val k := by
    rw [← hx]
    exact (e.val_setVal_ne _ hk).trans (val_of_obj eo k)
  have hxb : x.num (K.instFreeBound n) = b := hx ▸ e.num_setNum_self _ _
  have hxf : x.clock = c.clock ∧ x.entries = d.entries ∧ x.ptp = e.ptp := by
    rw [← hx]
    exact ⟨ec, ee, rfl⟩
  obtain ⟨xc, xe, xp⟩ := hxf
  have hlim : x.nat (K.instFreeHoLimit n) = d.nat (K.instFreeHoLimit n) := congrArg (fun v => v.int.toNat) (hxv k1)
  have hxs : x.nat (K.domState n) = d.nat (K.domState n) := congrArg (fun v => v.int.toNat) (hxv k2)
  have ht : d.freeBoundUpdate n = if d.nat (K.domState n) = 4 ∧ d.nat (K.instFreeHoLimit n) < b then x.setDomState n 5 else x := by
    have hgo : ¬ (Decidable.decide (8 ≤ n) || !d.freeFollows n || !(Decidable.decide (d.nat (K.domState n) = 4) || Decidable.decide (d.nat (K.domState n) = 5))) = true := by
      simpa [Nat.not_le.2 hn, hf] using fun h => hst.resolve_left h
    have hbn : x.nat (K.instFreeBound n) = b := congrArg Int.toNat hxb
    unfold Device.freeBoundUpdate
    dsimp only
    rw [if_neg hgo, hc, he, hr, hx, hlim, hbn]
    refine if_congr ?_ rfl rfl
    rw [Bool.and_eq_true, decide_eq_true_eq, decide_eq_true_eq]
  dsimp only
  rw [ht, hc]
  by_cases hg : d.nat (K.domState n) = 4 ∧ d.nat (K.instFreeHoLimit n) < b
  · rw [if_pos hg]
    obtain ⟨s1, s2, s3, -⟩ := x.setDomState_frame (n := n) 5
    obtain ⟨y, hy⟩ : ∃ y, x.domSet n 5 = y := ⟨_, rfl⟩
    have hyd : y.clock = x.clock ∧ y.attic = x.attic ∧ y.nat (K.domState n) = 5 ∧ (∀ k, k ≠ K.domState n → y.val k = x.val k) ∧ y.ptp.length = x.ptp.length :=
      hy ▸ x.domSet_frame (n := n) 5
    obtain ⟨yc, ya, ys, yv, -⟩ := hyd
    have hyi : (y.inst n).boundBase = (d.inst n).boundBase ∧ (y.inst n).boundSince = (d.inst n).boundSince := by
      have hxi : x.inst n = { d.inst n with boundAt := c.clock.ticks } := (e.inst_of_ptp xp n).trans hei
      have hyx : y.inst n = { x.inst n with streak := 0 } := by
        have hxn : n < x.ptp.length := by rw [xp, ← he, Device.length_setInst, cp, hl]; exact hn
        rw [← hy, x.domSet_ne (by decide)]
        exact (x.setNum (K.domState n) (5 : Nat)).inst_setInst hxn (fun i => { i with streak := 0 })
      rw [hyx, hxi]
      exact ⟨rfl, rfl⟩
    obtain ⟨yb, ysi⟩ := hyi
    have hyf : y.freeFollows n = true :=
      (d.freeFollows_of_val ((yv _ k6).trans (hxv k3)) ((yv _ k7).trans (hxv k4))).trans hf
    have hyb : y.slowBound n = b := by
      rw [Device.slowBound, yb, ysi, yc, xc, hb, hc, show y.nat (K.instFreeHoRate n) = d.nat (K.instFreeHoRate n) from
        congrArg (fun v => v.int.toNat) ((yv _ k8).trans (hxv k5))]
    have hz : x.setDomState n 5 = (y.setNum (K.instFreeBound n) b).report 0x0A13 [(n : Int), 4, 5, (b : Int)] := by
      rw [x.setDomState_eq, if_neg (by rw [hxs, hg.1]; decide), hy, y.refreshBound_slow hyf (.inr ys), hyb, hxs, hg.1, Device.num_setNum_self]
      rfl
    refine ⟨s1.trans xc, ?_, fun h => ?_, fun _ _ => ⟨s2, newReports_of_entries ?_⟩, fun k h1 h2 => (s3 k h2 h1).trans (hxv h1)⟩
    · rw [hz]
      exact congrArg Int.toNat (y.num_setNum_self (K.instFreeBound n) b)
    · obtain h | h := h
      · rw [hg.1] at h
        exact absurd h (by decide)
      · exact absurd hg.2 (Nat.not_lt.2 h)
    · rw [hz, Device.entries_report, show (y.setNum (K.instFreeBound n) b).entries = d.entries from (Device.entries_of_attic ya).trans xe]
  · rw [if_neg hg]
    refine ⟨xc, congrArg Int.toNat hxb, fun _ => ⟨hxs, newReports_of_entries ?_⟩, fun h1 h2 => absurd ⟨h1, h2⟩ hg, fun k h1 _ => hxv h1⟩
    rw [xe, List.append_nil]

end

/-- Settles O48: a schedule's instant is found on the grid before time runs to it; a message sent touches the reservations alone; roles move within their own
objects and leave the parent, so that the BMCA's choice over one port is the port's own; a bound in holdover is the same before and after T5 is entered. -/
theorem instancesScheduleAndTimeOut : Obligations.InstancesScheduleAndTimeOut := by
  refine ⟨fun s n p h => ?_, fun s n p hn hp hl hports hrun => ⟨fun L t0 hL ht => ⟨?_, ?_⟩, fun L t0 hL ht => ⟨?_, ?_⟩, fun hpeer hon hor hst => ?_⟩,
    fun s n p hn hp => ⟨fun hr => ?_, fun hr hon hor hcore hports hcls => ⟨fun a he hb hpar => ?_, fun he hw hpar => ?_⟩⟩,
    fun s n p due hn hp ho hd => ⟨fun h5 => ?_, fun h5 => ?_⟩, fun s n p hn hp hon => ⟨fun h3 hrun hst hc => ?_, fun h => ?_, fun h9 hrun hc => ?_⟩,
    fun d n p hn hp ho hl hports => ⟨fun hr => d.receiptLost_fixed hn hp ho hr, fun hr hcore => d.receiptLost_held hn hr hcore,
      fun hr hcore hst => d.receiptLost_listens hn hp ho hl hr hcore hst⟩,
    fun s n p hn hp hl hports => ⟨fun h => ?_, fun h hpeer => ?_⟩, fun s n hn hl => ⟨fun h => ?_, fun b hf hst hb => ?_⟩⟩
  · obtain ⟨h1, h2, h3⟩ := s.dev.schedules_stopped (n := n) (p := p) h
    rw [exec_syncSchedule, exec_announceSchedule, exec_delayReqSchedule, State.on, State.on, State.on, h1, h2, h3]
    exact ⟨rfl, rfl, rfl⟩
  · rw [ht]
    exact s.dev.nextInstant_onGrid _ _
  · exact ⟨_, exec_syncSchedule s n p, rfl, s.dev.syncSchedule_obeys hn hp hl hports hrun hL ht⟩
  · rw [ht]
    exact s.dev.nextInstant_onGrid _ _
  · exact ⟨_, exec_announceSchedule s n p, rfl, s.dev.announceSchedule_obeys hn hp hl hports hrun hL ht⟩
  · exact ⟨_, exec_delayReqSchedule s n p, rfl, s.dev.delaySchedule_obeys hn hp hl hports hrun hpeer hon hor hst⟩
  · rw [exec_bmcaDecision, State.on, s.dev.bmca_idle (.inl hr)]
  · rw [exec_bmcaDecision, State.on, s.dev.bmca_follows hn hr hon hor hcore hports hcls he hb hpar]
  · rw [exec_bmcaDecision, State.on, s.dev.bmca_transmits hn hr hon hor hcore hports hcls he hw hpar]
  · rw [exec_qualificationTimeout, State.on, s.dev.qualified_other h5]
  · exact ⟨_, exec_qualificationTimeout s n p, rfl, s.dev.qualified_obeys hn hp ho hd h5⟩
  · refine ⟨_, ?_, Device.receiptCounted_obeys s.dev 1 (n := n) (p := p) (e := (s.dev.runTo ((s.dev.ptpPort n p).annSince + s.dev.nat (K.instAnnTimeout n) *
      intervalTicks (s.dev.ptpPort n p).annLog (s.dev.num (K.instLogAnnounce n)))).setPtpPort n p (fun u => { u with annRun := true })) rfl rfl hc⟩
    rw [exec_announceReceiptTimeout, State.on, s.dev.announceTimeout_some hn hp hon h3 hrun hst]
  · rw [exec_syncReceiptTimeout, State.on, s.dev.syncTimeout_other h]
  · refine ⟨_, ?_, Device.receiptCounted_obeys s.dev 2 (n := n) (p := p) (e := (s.dev.runTo ((s.dev.ptpPort n p).syncSince + s.dev.nat (K.instSyncTimeout n) *
      intervalTicks (s.dev.ptpPort n p).syncLog (s.dev.num (K.instLogSync n)))).setPtpPort n p (fun u => { u with syncRun := true })) rfl rfl hc⟩
    rw [exec_syncReceiptTimeout, State.on, s.dev.syncTimeout_some hn hp hon h9 hrun]
  · rw [exec_pdelayLostResponses, State.on, s.dev.lostResponses_few h]
  · exact ⟨_, exec_pdelayLostResponses s n p, rfl, s.dev.lostResponses_obeys hn hp hl hports h hpeer⟩
  · rw [exec_freeBoundUpdate, State.on, s.dev.freeBoundUpdate_idle h]
  · exact ⟨_, exec_freeBoundUpdate s n, rfl, s.dev.freeBoundUpdate_obeys hn hl hf hst hb⟩

end Sys2Proof.Machine
end

section
/-! Chapter 2: what a response and the end of a commit can change, in a session too (R41, R50, R54, R55). -/

namespace Sys2Proof.Machine

/-! ## Reports of frames that leave -/

section
variable {d e : Device} (h : d.Adds e)
include h

theorem Device.Adds.reportOnce (key code : Nat) (p : List Int) : d.Adds (e.reportOnce key code p) := by
  unfold Device.reportOnce
  dsimp only
  have h1 : d.Adds { e with attic := { e.attic with lastSeen := (key, e.clock.ticks) :: e.attic.lastSeen.filter (fun x => x.1 ≠ key) } } := h
  split
  · exact Device.adds_ite (h1.report _ _) h1
  · exact h1.report _ _

theorem Device.Adds.setCan (n st : Nat) : d.Adds (e.setCan n st) := by
  unfold Device.setCan
  exact Device.adds_ite h (Device.adds_ite (((h.setNum _ _).report _ _).bump _) ((h.setNum _ _).report _ _))

theorem Device.Adds.reportAt (tick code : Nat) (p : List Int) : d.Adds (e.reportAt tick code p) :=
  h.trans ⟨[(code, p)], by simp only [Device.entries, Device.reportAt, List.map_append, List.map_cons, List.map_nil]⟩

theorem Device.Adds.causedBy_report (src code : Nat) (p : List Int) : d.Adds (e.causedBy src (·.report code p)) :=
  h.trans ⟨[(code, p)], (Device.entries_report { e with foyer := { e.foyer with cause := src } } code p).symm⟩

theorem Device.Adds.cellCheckAt (ps : Nat) : d.Adds (e.cellCheckAt ps) := by
  unfold Device.cellCheckAt
  dsimp only
  have h1 (x : Hall) : d.Adds { e with hall := x } := h
  split
  · exact (h1 _).reportAt _ _ _
  · split
    · exact (h1 _).reportAt _ _ _
    · exact h1 _

theorem Device.Adds.freeEnded : d.Adds e.freeEnded := h.trans (Device.adds_foldl _ _ fun x t => x.adds_refl.cellCheckAt t)

theorem Device.Adds.egressDrop (p kind q k : Nat) : d.Adds (e.egressDrop p kind q k) := (h.bump k).reportOnce _ _ _
theorem Device.Adds.rootDropped : d.Adds e.rootDropped := (h.bump _).reportOnce _ _ _

theorem Device.Adds.enqueue (p q : Nat) (f : Frame) : d.Adds (e.enqueue p q f) := by
  unfold Device.enqueue
  refine Device.adds_ite (h.egressDrop _ _ _ _) (Device.adds_ite ?_ (Device.adds_ite (h.egressDrop _ _ _ _) ?_))
  · exact (Device.adds_ite h.rootDropped h).egressDrop _ _ _ _
  · exact Device.Adds.cellCheckAt (e := (e.bringCredits p).setQueue p q (· ++ [f])) h _

theorem Device.Adds.ipSend (p q : Nat) (f : Frame) : d.Adds (e.ipSend p q f) := by
  unfold Device.ipSend
  dsimp only
  have h1 := h.freeEnded
  generalize e.freeEnded = x at h1
  exact Device.adds_ite (Device.Adds.enqueue (e := { x with hall := { x.hall with nextId := x.hall.nextId + 1 } }) h1 _ _ _) h1

theorem Device.Adds.emitHap (dst : Partner) (xl : Bool) (p : HapPdu) : d.Adds (e.emitHap dst xl p) := by
  unfold Device.emitHap
  exact Device.adds_ite (Device.Adds.setCan ((h.bump _).setNum _ _) _ _) (h.ipSend _ _ _)

end

/-! ## A response -/

/-- The objects that a response may change: those of its way out, and the lock's state where it ends a session. -/
def answerKey (k : Nat) : Bool := k = K.lockState || (0x3110 * 256 ≤ k && k ≠ K.commitLastStatus)

/-- `t` is `d` but for what a response can change. -/
structure Device.Answered (d t : Device) : Prop where
  val : ∀ k, answerKey k = false → t.val k = d.val k
  staged : t.staged = d.staged
  clock : t.clock = d.clock
  commit : t.commit = d.commit
  power : t.power = d.power
  adds : d.Adds t

theorem Device.Answered.refl (d : Device) : d.Answered d := ⟨fun _ _ => rfl, rfl, rfl, rfl, rfl, d.adds_refl⟩

theorem Device.Answered.trans {a b c : Device} (h : a.Answered b) (g : b.Answered c) : a.Answered c :=
  ⟨fun k hk => (g.val k hk).trans (h.val k hk), g.staged.trans h.staged, g.clock.trans h.clock, g.commit.trans h.commit, g.power.trans h.power,
    h.adds.trans g.adds⟩

section
variable (d : Device)

theorem Device.emitHap_lastStatus (dst : Partner) (xl : Bool) (p : HapPdu) :
    (d.emitHap dst xl p).watch lastStatusKey = d.watch lastStatusKey := by
  have hoff {k : Nat} (hk : k ≠ K.commitLastStatus) : lastStatusKey k = false := decide_eq_false hk
  unfold Device.emitHap
  split
  · rename_i ht
    refine Eq.trans (b := (d.canSent dst.transport).watch lastStatusKey) rfl ?_
    rw [Device.canSent, Device.canGrade, Device.watch_setCan, Device.watch_setNum, Device.watch_bump] <;>
      exact hoff (by simp only [K.canTxFrames, K.canTec, K.canState, K.canBusoffCount, K.commitLastStatus]; omega)
  · refine d.watch_ipSend _ _ _ ?_ ?_ ?_ ?_ <;>
      exact hoff (by simp only [K.gateNeverDrop, K.qTaildrop, K.launchFarDrop, K.ledgerRootDrop, K.commitLastStatus]; omega)

theorem Device.emitHap_answered (dst : Partner) (xl : Bool) (p : HapPdu) : d.Answered (d.emitHap dst xl p) := by
  have hsame := d.sameBut_emitHap dst xl p
  refine ⟨fun k hk => ?_, hsame.staged, hsame.clock, hsame.commit, hsame.power, d.adds_refl.emitHap dst xl p⟩
  by_cases hlast : k = K.commitLastStatus
  · exact val_of_watch (d.emitHap_lastStatus dst xl p) (decide_eq_true hlast)
  · refine hsame.val k (Nat.lt_of_not_le fun hge => ?_)
    simp only [answerKey, Bool.or_eq_false_iff, Bool.and_eq_false_iff, decide_eq_false_iff_not] at hk
    tauto

theorem Device.seqExhausted_answered : d.Answered d.seqExhausted := by
  refine ⟨fun k hk => ?_, rfl, rfl, rfl, rfl, ?_⟩
  · have hne : k ≠ K.lockState := by
      rintro rfl
      exact absurd hk (by decide)
    exact Device.val_setVal_ne _ _ hne
  · have hkey (st : Nat) : (((d.lockTo st).setFoyer (fun f => { f with hostNonce := [], devNonce := [] }))).attic = d.attic := rfl
    exact Device.Adds.causedBy_report (Device.adds_of_attic (hkey _)) _ _ _

/-- R54, R55: a PDU that leaves toward a partner, also as the last of its session. -/
theorem Device.sendPdu_answered (dst : Partner) (xl : Bool) (p : HapPdu) (plain : Bool) : d.Answered (d.sendPdu dst xl p plain) := by
  have hseq (q : Nat) (h : HapPdu) : d.Answered ((d.setFoyer (fun f => { f with seqOut := q })).emitHap dst xl h) := by
    have hx : d.Answered (d.setFoyer (fun f => { f with seqOut := q })) := ⟨fun _ _ => rfl, rfl, rfl, rfl, rfl, d.adds_refl⟩
    exact hx.trans (Device.emitHap_answered _ dst xl h)
  unfold Device.sendPdu
  dsimp only
  split
  · exact .refl d
  · split
    · exact d.emitHap_answered dst xl p
    · split
      · exact (hseq _ _).trans (Device.seqExhausted_answered _)
      · exact hseq _ _

theorem Device.respond_answered (src : Partner) (xl : Bool) (opcode index sub txn status : Nat) (pay : Bytes) :
    d.Answered (d.respond src xl opcode index sub txn status pay) := d.sendPdu_answered _ _ _ _

/-! ## The end of a commit -/

/-- R50: with no revert that waits, freeing groups does nothing. -/
theorem Device.freeGroups_none (mask : Nat) (h : d.commit.reverts = []) : d.freeGroups mask = d := by
  simp only [Device.freeGroups, h, List.contains_nil, Bool.false_and, List.filter_false, List.foldl_nil, List.filter_nil]
  rw [← h]

/-- R50, R91: the end of a commit of no slot, with no revert that waits, with its answer. -/
theorem Device.commitEnds_frame {groups slot status : Nat} (imm : Option ImmCommit) (hs : 16 ≤ slot) (hr : d.commit.reverts = []) :
    let t := d.commitEnds groups slot status imm
    (d.setNum K.commitLastStatus status).Answered t ∧ (newReports d t).head? = some (0x0F04, [((groups % 2 ^ 32 : Nat) : Int), (slot : Int), (status : Int)]) ∧
      ((∀ c, imm = some c → c.opcode = 0) → ∀ k, k ≠ K.commitLastStatus → t.val k = d.val k) := by
  obtain ⟨e, he⟩ : ∃ e, (d.setNum K.commitLastStatus status).report 0x0F04 [((groups % 2 ^ 32 : Nat) : Int), (slot : Int), (status : Int)] = e := ⟨_, rfl⟩
  have hfree : e.freeGroups groups = e := e.freeGroups_none groups (by rw [← he]; exact hr)
  have hent : e.entries = d.entries ++ [(0x0F04, [((groups % 2 ^ 32 : Nat) : Int), (slot : Int), (status : Int)])] := by
    rw [← he, Device.entries_report, Device.entries_setNum]
  have hbase : (d.setNum K.commitLastStatus status).Answered e := by
    rw [← he]
    exact ⟨fun _ _ => rfl, rfl, rfl, rfl, rfl, Device.adds_report _ _ _⟩
  have hval (k : Nat) (hk : k ≠ K.commitLastStatus) : e.val k = d.val k := by
    rw [← he]
    exact Device.val_setVal_ne d _ hk
  have hnone : d.commitEnds groups slot status none = e := by
    simp only [Device.commitEnds, if_neg (Nat.not_lt.mpr hs), he, hfree]
  have hsome (c : ImmCommit) : d.commitEnds groups slot status (some c) =
      if c.opcode = 0 then e else e.respond c.src c.xl c.opcode 0x7010 1 c.txn status [] := by
    simp only [Device.commitEnds, if_neg (Nat.not_lt.mpr hs), he, hfree]
  cases imm with
  | none =>
    rw [hnone]
    exact ⟨hbase, head_of_adds hent e.adds_refl, fun _ => hval⟩
  | some c =>
    rw [hsome]
    dsimp only
    split
    · exact ⟨hbase, head_of_adds hent e.adds_refl, fun _ => hval⟩
    · rename_i hc
      have hr := e.respond_answered c.src c.xl c.opcode 0x7010 1 c.txn status []
      exact ⟨hbase.trans hr, head_of_adds hent hr.adds, fun h => absurd (h c rfl) hc⟩

end

end Sys2Proof.Machine
end

section
/-! Chapters 10 and 20: the sequencer's steps and the power-ups that wait for them (R282, R533, R552). -/

namespace Sys2Proof.Machine

theorem exec_sequencerStepStart (s : State) : exec .sequencerStepStart s = .next (s.on (·.sequencerStep)) := rfl
theorem exec_powerUpGrantTimeout (s : State) : exec .powerUpGrantTimeout s = .next (s.on (·.grantTimeout)) := rfl
theorem exec_portPowerRecommit (s : State) : exec .portPowerRecommit s = .next (s.on (·.portRecommit)) := rfl

/-! ## What a port's power-up leaves alone -/

/-- What a switch of group 0x08 may touch: all but the clocks, Fusebox's own state and the commit engine. -/
def switchBlank : Blank := { clear := fun d => { clock := d.clock, power := d.power, commit := d.commit }, clear_setVal := fun _ _ _ => rfl }

/-- What a granted power-up may touch: all but the clocks and Fusebox's own state. -/
def grantBlank : Blank := { clear := fun d => { clock := d.clock, power := d.power }, clear_setVal := fun _ _ _ => rfl }

/-- The sequencer's objects. -/
def seqKeys : List Nat := [K.fbSeqQueue, K.fbSeqMaxwait]

/-- Is an object none of the sequencer's. -/
def awayKey (k : Nat) : Bool := !decide (k ∈ seqKeys)

theorem awayKey_of {C : Nat → Bool} (h : ∀ k ∈ seqKeys, C k = false) (k : Nat) (hk : C k = true) : awayKey k = true := by
  refine Bool.not_eq_true' _ |>.mpr (decide_eq_false fun hmem => ?_)
  exact Bool.false_ne_true ((h k hmem).symm.trans hk)

section
variable {d e : Device}

theorem switch_clock {C : Nat → Bool} (h : e.beside switchBlank C = d.beside switchBlank C) : e.clock = d.clock := congrArg (fun x => x.1.clock) h
theorem switch_power {C : Nat → Bool} (h : e.beside switchBlank C = d.beside switchBlank C) : e.power = d.power := congrArg (fun x => x.1.power) h
theorem switch_commit {C : Nat → Bool} (h : e.beside switchBlank C = d.beside switchBlank C) : e.commit = d.commit := congrArg (fun x => x.1.commit) h
theorem grant_clock {C : Nat → Bool} (h : e.beside grantBlank C = d.beside grantBlank C) : e.clock = d.clock := congrArg (fun x => x.1.clock) h
theorem grant_power {C : Nat → Bool} (h : e.beside grantBlank C = d.beside grantBlank C) : e.power = d.power := congrArg (fun x => x.1.power) h

/-- A link's loss and what follows touch nothing of these. -/
theorem switch_of_link {C : Nat → Bool} (hC : ∀ k ∈ seqKeys, C k = false) (h : e.beside linkBlank C = d.beside linkBlank C) :
    e.beside switchBlank awayKey = d.beside switchBlank awayKey :=
  beside_mono h (fun hc => by have := congrArg switchBlank.clear hc; exact this) (awayKey_of hC)

theorem grant_of_switch (h : e.beside switchBlank awayKey = d.beside switchBlank awayKey) : e.beside grantBlank awayKey = d.beside grantBlank awayKey :=
  beside_mono h (fun hc => by have := congrArg grantBlank.clear hc; exact this) fun _ hk => hk

theorem grant_of_answered (h : d.Answered e) : e.beside grantBlank awayKey = d.beside grantBlank awayKey := by
  refine Prod.ext ?_ (funext fun k => ?_)
  · show ({ clock := e.clock, power := e.power } : Device) = { clock := d.clock, power := d.power }
    rw [h.clock, h.power]
  · show (if awayKey k then none else some (e.val k)) = if awayKey k then none else some (d.val k)
    split
    · rfl
    · rename_i hk
      have hmem : k ∈ seqKeys := by simpa [awayKey] using hk
      have hoff : ∀ k ∈ seqKeys, answerKey k = false := by decide
      rw [h.val k (hoff k hmem)]

variable (d)

theorem Device.switch_applyUnit (u : Nat) : (d.applyUnit 8 u).beside switchBlank awayKey = d.beside switchBlank awayKey := by
  have hgrp : ∀ k ∈ seqKeys, groupOf k ≠ 8 := by decide
  refine ((Device.beside_foldl { d with staged := _ } _ fun x e he => x.beside_setVal e.2 ?_).trans rfl)
  obtain ⟨-, hg⟩ := List.mem_filter.mp he
  refine Bool.not_eq_true' _ |>.mpr (decide_eq_false fun hmem => hgrp e.1 hmem ?_)
  exact of_decide_eq_true (Bool.and_eq_true_iff.mp hg).1

theorem linkKey_seq (p : Nat) : ∀ k ∈ seqKeys, linkKey p k = false := by
  have hlow : ∀ k ∈ seqKeys, k < 0x3000 * 256 := by decide
  intro k hk
  have := hlow k hk
  refine Bool.or_eq_false_iff.mpr ⟨decide_eq_false ?_, decide_eq_false ?_⟩ <;> simp only [K.portLinkState, K.plcaStatus] <;> omega

theorem Device.switch_applyPower (p : Nat) : (d.applyPower p).beside switchBlank awayKey = d.beside switchBlank awayKey := by
  have hlink (st c : Nat) := switch_of_link (linkKey_seq p) (d.link_setLink p st c)
  unfold Device.applyPower Device.dropPlace
  split
  · split
    · exact hlink 1 0
    · rfl
  · exact (Eq.trans rfl (hlink 0 0))

theorem Device.switch_portFollow (d0 : Device) (p : Nat) : (d.portFollow d0 p).beside switchBlank awayKey = d.beside switchBlank awayKey :=
  switch_of_link (by decide) (d.link_portFollow d0 p)

theorem Device.switch_setUnitMask (g : Nat) (us : List Nat) : (d.setUnitMask g us).beside switchBlank awayKey = d.beside switchBlank awayKey :=
  d.beside_setNum _ (awayKey_of (C := fun k => 0x7000 * 256 ≤ k) (by decide) _ (decide_eq_true (by simp only [K.commitUnitMask]; omega)))

/-- R282: a switch of group 0x08 alone. -/
theorem Device.switch_switchGroups (slot : Nat) (stuck : List (Nat × Nat)) :
    (d.switchGroups (2 ^ 8) slot stuck).1.beside switchBlank awayKey = d.beside switchBlank awayKey := by
  have htimed : [7, 6, 11, 13, 5].filter (fun g => bit (2 ^ 8) g) = [] := by decide
  have hcredit : bit (2 ^ 8) 11 = false := by decide
  have hper : (groupsOf (2 ^ 8)).filter (fun g => !groupTimed g) = [8] := by decide
  have hbits : bit (2 ^ 8) 13 = false ∧ bit (2 ^ 8) 5 = false ∧ bit (2 ^ 8) 7 = false ∧ bit (2 ^ 8) 6 = false := by decide
  obtain ⟨b1, b2, b3, b4⟩ := hbits
  have hhook (x y : Device) (us : List Nat) : (us.foldl (fun d u => (d.applyPower u).portFollow d u) x).beside switchBlank awayKey =
      x.beside switchBlank awayKey :=
    x.beside_foldl us fun z u _ => (Device.switch_portFollow _ z u).trans (z.switch_applyPower u)
  have hunits (x : Device) (us : List Nat) : (us.foldl (fun d u => d.applyUnit 8 u) x).beside switchBlank awayKey = x.beside switchBlank awayKey :=
    x.beside_foldl us fun z u _ => z.switch_applyUnit u
  simp only [Device.switchGroups, htimed, hcredit, hper, List.foldl_nil, List.foldl_cons, b1, b2, b3, b4, Bool.false_eq_true, if_false]
  rw [Device.switch_setUnitMask]
  exact (hhook _ d _).trans (hunits _ _)

end

end Sys2Proof.Machine
end

section
/-! Chapters 10 and 20: a sequencer's step and its grant (R282, R533). -/

namespace Sys2Proof.Machine

/-! ## The step that is next -/

/-- R533: of an exit's steps the one first in the order of domains. -/
theorem Power.nextStep_first {p : Power} {x : SeqStep} (h : p.nextStep = some x) : ∀ y ∈ p.steps, y.exit = true → x.exit = true ∧ x.kind ≤ y.kind := by
  intro y hy hexit
  have hmem : y.kind ∈ (p.steps.filter (·.exit)).map (·.kind) := List.mem_map_of_mem (List.mem_filter.mpr ⟨hy, hexit⟩)
  unfold Power.nextStep at h
  split at h
  · rename_i k hk
    have hx := List.find?_some h
    simp only [Bool.and_eq_true, decide_eq_true_eq] at hx
    exact ⟨hx.1, hx.2 ▸ (List.min?_eq_some_iff.mp hk).2 _ hmem⟩
  · rename_i hk
    rw [List.min?_eq_none_iff.mp hk] at hmem
    exact absurd hmem List.not_mem_nil

/-- R533: while steps wait one is next. -/
theorem Power.nextStep_isSome {p : Power} (h : p.steps ≠ []) : p.nextStep.isSome = true := by
  unfold Power.nextStep
  split
  · rename_i k hk
    obtain ⟨x, hx, hkind⟩ := List.mem_map.mp (List.min?_eq_some_iff.mp hk).1
    obtain ⟨hx, hexit⟩ := List.mem_filter.mp hx
    exact List.find?_isSome.mpr ⟨x, hx, by simp [hexit, hkind]⟩
  · exact (List.isSome_head?).mpr h

theorem Power.nextStep_nil {p : Power} (h : p.steps = []) : p.nextStep = none := by
  simp only [Power.nextStep, h, List.filter_nil, List.map_nil, List.min?_nil, List.head?_nil]

theorem Power.ne_nil_of_nextStep {p : Power} {x : SeqStep} (h : p.nextStep = some x) : p.steps ≠ [] := fun hn => by
  rw [Power.nextStep_nil hn] at h
  cases h

section
variable (d : Device)

/-- R533: a step keeps the gap to the last one and waits for the end of its ramp. -/
theorem Device.stepStart_spaced {start ramp : Nat} (h : d.power.lastStep = some (start, ramp)) :
    start + d.nat K.fbStepGap * usTicks ≤ d.stepStart ∧ ramp ≤ d.stepStart := by
  simp only [Device.stepStart, h]
  generalize d.nat K.fbStepGap * usTicks = gap
  generalize d.burstStart = b
  generalize sTicks = w
  split
  · split
    · omega
    · split
      · rename_i hnear
        simp only [Bool.and_eq_true, decide_eq_true_eq] at hnear
        omega
      · omega
  · omega

/-- The part as step x starts, Crypto's lanes apart. -/
def Device.stepRun (d : Device) (x : SeqStep) : Device :=
  let d1 := d.setPower (fun p => { p with
    steps := p.steps.erase x, lastStep := some (d.clock.ticks, d.clock.ticks + ceilDiv (rampNs (d.nat K.fbSlope) x.kind * 5) 4) })
  (d1.setNum K.fbSeqQueue (d.power.steps.erase x).length).setNum K.fbSeqMaxwait
    (max (d.num K.fbSeqMaxwait) (((d.clock.ticks - x.since) / usTicks : Nat) : Int))

theorem Device.stepRun_frame (x : SeqStep) : let t := d.stepRun x
    t.power.steps = d.power.steps.erase x ∧ t.clock = d.clock ∧ t.nat K.fbSeqQueue = (d.power.steps.erase x).length ∧
      t.num K.fbSeqMaxwait = max (d.num K.fbSeqMaxwait) (((d.clock.ticks - x.since) / usTicks : Nat) : Int) ∧ t.commit = d.commit ∧
      ∀ k, k ∉ seqKeys → t.val k = d.val k := by
  refine ⟨rfl, rfl, ?_, Device.num_setNum_self _ _ _, rfl, fun k hk => ?_⟩
  · have h := congrArg (fun v => v.int.toNat) (Device.val_setVal_ne ((d.setPower (fun p => { p with
      steps := p.steps.erase x, lastStep := some (d.clock.ticks, d.clock.ticks + ceilDiv (rampNs (d.nat K.fbSlope) x.kind * 5) 4) })).setNum K.fbSeqQueue
      (d.power.steps.erase x).length) (k := K.fbSeqMaxwait) (j := K.fbSeqQueue)
      (.num (max (d.num K.fbSeqMaxwait) (((d.clock.ticks - x.since) / usTicks : Nat) : Int))) (by decide))
    exact h.trans ((Device.nat_setNum_self _ _ _).trans (Int.toNat_natCast _))
  · simp only [seqKeys, List.mem_cons, List.not_mem_nil, or_false, not_or] at hk
    exact (Device.val_setVal_ne _ _ hk.2).trans (Device.val_setVal_ne _ _ hk.1)

theorem Device.grant_lanesOn : d.lanesOn.beside grantBlank awayKey = d.beside grantBlank awayKey := by
  have hlane (x : Device) (l : Nat) : ((x.laneTo l 1 0).setLane l (fun y => { y with testing := x.clock.ticks })).beside grantBlank awayKey =
      x.beside grantBlank awayKey := by
    have h : (x.laneTo l 1 0).beside laneBlank laneKey = x.beside laneBlank laneKey :=
      (Device.follows_noteLoss ((x.putLane l 1).report 0x0B01 [l, x.laneState l, (1 : Nat), (0 : Nat)]) x).rest.trans
        (Eq.trans rfl (x.follows_putLane l 1).rest)
    refine Eq.trans (b := (x.laneTo l 1 0).beside grantBlank awayKey) rfl ?_
    exact beside_mono h (fun hc => by have := congrArg grantBlank.clear hc; exact this) (awayKey_of (by decide))
  have hslot (x : Device) (i : Nat) : (x.putSlot i []).beside grantBlank awayKey = x.beside grantBlank awayKey :=
    x.beside_setOct _ (awayKey_of (C := fun k => 0x5000 * 256 ≤ k) (by decide) _ (decide_eq_true (by simp only [K.srSlotData]; omega)))
  refine (Device.beside_foldl _ _ fun x i _ => hslot x i).trans (Device.beside_foldl _ _ fun x l _ => ?_)
  split
  · exact hlane x l
  · rfl

/-- SEQUENCER_STEP_START: the next step starts at its tick. -/
theorem Device.startStep_run {x : SeqStep} (h : d.power.nextStep = some x) :
    ∃ e, d.startStep = some (x, e) ∧ e.beside grantBlank awayKey = ((d.runTo d.stepStart).stepRun x).beside grantBlank awayKey ∧
      (16 ≤ x.kind → e = (d.runTo d.stepStart).stepRun x) := by
  have hstart : d.startStep = some (x, if (x.kind = 3 && x.exit && !((d.runTo d.stepStart).stepRun x).power.steps.any (fun x => x.exit && x.kind = 3)
      && ((d.runTo d.stepStart).stepRun x).clock.mtRun) then ((d.runTo d.stepStart).stepRun x).lanesOn else (d.runTo d.stepStart).stepRun x) := by
    rw [Device.startStep, h]
    rfl
  rw [hstart]
  generalize (d.runTo d.stepStart).stepRun x = y
  refine ⟨_, rfl, ?_, fun hk => if_neg (by simp [show ¬ x.kind = 3 by omega])⟩
  split
  · exact y.grant_lanesOn
  · rfl

/-! ## The grant of a power-up -/

/-- R50, R91: whatever its slot, the end of a commit touches neither clocks nor the sequencer. -/
theorem Device.grant_commitEnds (groups slot status : Nat) (imm : Option ImmCommit) :
    (d.commitEnds groups slot status imm).beside grantBlank awayKey = d.beside grantBlank awayKey := by
  have hset (x : Device) {k : Nat} (v : Int) (hk : 0x2530 * 256 ≤ k) : (x.setNum k v).beside grantBlank awayKey = x.beside grantBlank awayKey :=
    x.beside_setNum v (awayKey_of (C := fun k => 0x2530 * 256 ≤ k) (by decide) _ (decide_eq_true hk))
  have hlast (x : Device) : (x.setNum K.commitLastStatus status).beside grantBlank awayKey = x.beside grantBlank awayKey := hset x _ (by decide)
  have hslot (x : Device) : (x.endSlot slot status).beside grantBlank awayKey = x.beside grantBlank awayKey := by
    have h1 := ((x.setNum (K.slotState slot) 0).beside_setNum (B := grantBlank) (C := awayKey) (k := K.slotResult slot) status
      (awayKey_of (C := fun k => 0x2530 * 256 ≤ k) (by decide) _ (decide_eq_true (by simp only [K.slotResult]; omega)))).trans
      (hset x 0 (by simp only [K.slotState]; omega))
    unfold Device.endSlot
    dsimp only
    split
    · exact (hlast _).trans h1
    · exact h1
  have hfree (x : Device) : (x.freeGroups groups).beside grantBlank awayKey = x.beside grantBlank awayKey := by
    refine beside_of_clear ?_ (x.freeGroups_val groups)
    unfold Device.freeGroups
    dsimp only
    generalize (groupsOf groups).filter _ = l
    show grantBlank.clear (l.foldl (fun d g => d.revertGroup g) x) = grantBlank.clear x
    induction l generalizing x with
    | nil => rfl
    | cons g l ih => exact (ih (x.revertGroup g)).trans rfl
  have hbase : (((if slot < 16 then d.endSlot slot status else d.setNum K.commitLastStatus status).report 0x0F04
      [(groups % 2 ^ 32 : Nat), slot, status]).freeGroups groups).beside grantBlank awayKey = d.beside grantBlank awayKey := by
    refine (hfree _).trans (Eq.trans (b := Device.beside grantBlank awayKey
      (if slot < 16 then d.endSlot slot status else d.setNum K.commitLastStatus status)) rfl ?_)
    split
    · exact hslot d
    · exact hlast d
  unfold Device.commitEnds
  dsimp only
  generalize Device.freeGroups _ groups = e at hbase ⊢
  split
  · split
    · exact hbase
    · exact (grant_of_answered (e.respond_answered ..)).trans hbase
  · exact hbase

/-- R282: the grant of port p's step. -/
theorem Device.grant_grantPort (p : Nat) : (d.grantPort p).beside grantBlank awayKey = d.beside grantBlank awayKey := by
  have hpower (x y : Device) : ((x.applyPower p).portFollow y p).beside grantBlank awayKey = x.beside grantBlank awayKey :=
    grant_of_switch ((Device.switch_portFollow _ y p).trans (x.switch_applyPower p))
  unfold Device.grantPort
  split
  · split
    · exact hpower d d
    · rfl
  · rename_i g _
    dsimp only
    have h2 := (hpower (d.applyUnit 8 p) (d.applyUnit 8 p)).trans (grant_of_switch (d.switch_applyUnit p))
    generalize ((d.applyUnit 8 p).applyPower p).portFollow (d.applyUnit 8 p) p = x at h2 ⊢
    have h3 : (x.setNum (K.commitUnitMask 7) (setBit (x.nat (K.commitUnitMask 7)) p true : Nat)).beside grantBlank awayKey = x.beside grantBlank awayKey :=
      x.beside_setNum _ (by decide)
    generalize x.setNum (K.commitUnitMask 7) (setBit (x.nat (K.commitUnitMask 7)) p true : Nat) = y at h3 ⊢
    split
    · refine Eq.trans (b := Device.beside grantBlank awayKey (Device.commitEnds
        { y with commit := { y.commit with grants := y.commit.grants.erase g }, foyer := { y.foyer with cause := g.src } } g.groups g.slot
        (if g.bad then St.state else St.ok) g.imm)) rfl ?_
      exact (Device.grant_commitEnds _ _ _ _ _).trans (Eq.trans rfl (h3.trans h2))
    · exact Eq.trans rfl (h3.trans h2)

/-- R282, R552: with no commit that waits the port follows its live setting. -/
theorem Device.grantPort_up {p : Nat} (hp : p < 44) (hg : d.commit.grants = []) (hpow : d.nat (K.portPower p) = 1) (hl : d.link p = 0) :
    (d.grantPort p).link p = 1 := by
  have heq : d.grantPort p = (d.setLink p 1 0).portFollow d p := by
    simp only [Device.grantPort, hg, List.find?_nil, hpow, hl, decide_true, Bool.and_true, if_true, Device.applyPower]
  have hkey : ∀ p < 44, followKey (K.portLinkState p) = false := by decide
  rw [heq]
  exact (nat_of_beside (Device.link_portFollow _ d p) (hkey p hp)).trans (d.setLink_link p 1 0)

/-! ## A step start and the commits that come late -/

/-- R282, R533: no commit's 1 ms would be over. -/
theorem Device.lateGrants_none (h : ∀ g ∈ d.commit.grants.head?, max d.clock.ticks d.stepStart ≤ g.since + msTicks) : d.lateGrants = d := by
  have hno : ¬ (d.power.nextStep.isSome && d.commit.grants.head?.any (fun g => g.since + msTicks < max d.clock.ticks d.stepStart)) = true := by
    rw [Bool.and_eq_true, Option.any_eq_true]
    rintro ⟨-, g, hg, hlate⟩
    exact absurd (of_decide_eq_true hlate) (Nat.not_lt.mpr (h g hg))
  have hfold (l : List Grant) : l.foldl (fun d _ => if d.power.nextStep.isSome && d.commit.grants.head?.any (fun g =>
      g.since + msTicks < max d.clock.ticks d.stepStart) then d.grantTimeout else d) d = d := by
    induction l with
    | nil => rfl
    | cons g l ih => rw [List.foldl_cons, if_neg hno, ih]
  exact hfold d.commit.grants

/-- SEQUENCER_STEP_START of a step that no commit's end precedes. -/
theorem Device.sequencerStep_obeys {x : SeqStep} (hx : d.power.nextStep = some x)
    (h : ∀ g ∈ d.commit.grants.head?, max d.clock.ticks d.stepStart ≤ g.since + msTicks) : let t := d.sequencerStep
    t.power.steps = d.power.steps.erase x ∧ t.nat K.fbSeqQueue = (d.power.steps.erase x).length ∧ t.clock.ticks = max d.clock.ticks d.stepStart ∧
      t.num K.fbSeqMaxwait = max (d.num K.fbSeqMaxwait) (((t.clock.ticks - x.since) / usTicks : Nat) : Int) ∧
      (∀ p, x.kind = 16 + p → p < 44 → d.commit.grants = [] → d.nat (K.portPower p) = 1 → d.link p = 0 → t.link p = 1) := by
  obtain ⟨e, he, hframe, hport⟩ := d.startStep_run hx
  have hseq : d.sequencerStep = if 16 ≤ x.kind then e.grantPort (x.kind - 16) else e := by
    rw [Device.sequencerStep, d.lateGrants_none h]
    simp only [he]
  obtain ⟨r, hr⟩ : ∃ r, d.runTo d.stepStart = r := ⟨_, rfl⟩
  have hticks : r.clock.ticks = max d.clock.ticks d.stepStart := by rw [← hr, Device.runTo_ticks]
  have hsteps : r.power.steps = d.power.steps := by rw [← hr, Device.runTo_power]
  have hobj : r.obj = d.obj := by rw [← hr, Device.runTo_obj]
  have hgr : r.commit = d.commit := by rw [← hr, Device.runTo_commit]
  rw [hr] at hframe hport
  obtain ⟨s1, s2, s3, s4, s5, s6⟩ := r.stepRun_frame x
  generalize r.stepRun x = y at hframe hport s1 s2 s3 s4 s5 s6
  intro t
  have ht : t.beside grantBlank awayKey = y.beside grantBlank awayKey := by
    refine Eq.trans ?_ hframe
    rw [show t = _ from hseq]
    split
    · exact e.grant_grantPort _
    · rfl
  refine ⟨?_, ?_, ?_, ?_, fun p hk hp hg hpow hl => ?_⟩
  · rw [congrArg Power.steps (grant_power ht), s1, hsteps]
  · rw [nat_of_beside ht (by decide), s3, hsteps]
  · rw [congrArg Clock.ticks (grant_clock ht), s2, hticks]
  · rw [num_of_beside ht (by decide), s4, congrArg Clock.ticks (grant_clock ht), s2, num_of_obj hobj]
  · have hey := hport (by omega)
    have hoff : ∀ p < 44, K.portPower p ∉ seqKeys ∧ K.portLinkState p ∉ seqKeys := by decide
    obtain ⟨ho1, ho2⟩ := hoff p hp
    have hval {k : Nat} (hk : k ∉ seqKeys) : y.nat k = d.nat k :=
      (congrArg (fun v => v.int.toNat) (s6 k hk)).trans (nat_of_obj hobj k)
    rw [show t = _ from hseq, if_pos (by omega), hey, show x.kind - 16 = p by omega]
    exact y.grantPort_up hp (by rw [s5, hgr, hg]) ((hval ho1).trans hpow) ((hval ho2).trans hl)

end

end Sys2Proof.Machine
end

section
/-! Chapter 10: commits whose power-ups come too late, and the commit of what stayed staged (R282, R552). -/

namespace Sys2Proof.Machine

section
variable (d : Device)

/-- The part with a commit's power-ups withdrawn at its last tick. -/
def Device.grantDropped (d : Device) (g : Grant) (rest : List Grant) : Device :=
  let d1 := (d.runTo (g.since + msTicks)).setPower (fun p => { p with
    steps := p.steps.filter (fun s => !(16 ≤ s.kind && g.waiting.contains (s.kind - 16))) })
  (d1.setNum K.fbSeqQueue d1.power.steps.length).setCommit (fun e => { e with grants := rest })

theorem Device.grantTimeout_eq {g : Grant} {rest : List Grant} (h : d.commit.grants = g :: rest) :
    d.grantTimeout = (d.grantDropped g rest).causedBy g.src (·.commitEnds g.groups g.slot St.state g.imm) := by
  rw [Device.grantTimeout, h]
  rfl

theorem Device.grantTimeout_idle (h : d.commit.grants = []) : d.grantTimeout = d := by
  rw [Device.grantTimeout, h]

theorem Device.grantDropped_frame (g : Grant) (rest : List Grant) : let t := d.grantDropped g rest
    t.clock = (d.runTo (g.since + msTicks)).clock ∧ t.commit = { d.commit with grants := rest } ∧ t.staged = d.staged ∧ t.entries = d.entries ∧
      (∀ x ∈ t.power.steps, x ∈ d.power.steps ∧ ¬ (16 ≤ x.kind ∧ x.kind - 16 ∈ g.waiting)) ∧ ∀ k, k ≠ K.fbSeqQueue → t.val k = d.val k := by
  unfold Device.grantDropped
  obtain ⟨r, hr⟩ : ∃ r, d.runTo (g.since + msTicks) = r := ⟨_, rfl⟩
  have hobj : r.obj = d.obj := by rw [← hr, Device.runTo_obj]
  have hent : r.entries = d.entries := by rw [← hr, Device.entries_runTo]
  have hcommit : r.commit = d.commit := by rw [← hr, Device.runTo_commit]
  have hstaged : r.staged = d.staged := by rw [← hr, Device.runTo_staged]
  have hpower : r.power = d.power := by rw [← hr, Device.runTo_power]
  rw [hr]
  refine ⟨rfl, ?_, hstaged, hent, fun x hx => ?_, fun k hk => (Device.val_setVal_ne _ _ hk).trans (val_of_obj hobj k)⟩
  · show ({ r.commit with grants := rest } : CommitEngine) = _
    rw [hcommit]
  · have hx : x ∈ r.power.steps.filter (fun s => !(16 ≤ s.kind && g.waiting.contains (s.kind - 16))) := hx
    rw [hpower] at hx
    obtain ⟨hm, hno⟩ := List.mem_filter.mp hx
    refine ⟨hm, fun hc => ?_⟩
    simp [hc.1, hc.2] at hno

/-- POWER_UP_GRANT_TIMEOUT of the oldest commit that waits, of no slot. -/
theorem Device.grantTimeout_obeys {g : Grant} {rest : List Grant} (h : d.commit.grants = g :: rest) (hs : 16 ≤ g.slot) (hr : d.commit.reverts = []) :
    let t := d.grantTimeout
    t.clock = (d.runTo (g.since + msTicks)).clock ∧ t.commit = { d.commit with grants := rest } ∧ t.staged = d.staged ∧
      t.nat K.commitLastStatus = 0x100A ∧
      (newReports d t).head? = some (0x0F04, [((g.groups % 2 ^ 32 : Nat) : Int), (g.slot : Int), 0x100A]) ∧
      (∀ x ∈ t.power.steps, x ∈ d.power.steps ∧ ¬ (16 ≤ x.kind ∧ x.kind - 16 ∈ g.waiting)) ∧
      ((∀ c, g.imm = some c → c.opcode = 0) → ∀ k, k ≠ K.commitLastStatus → k ≠ K.fbSeqQueue → t.val k = d.val k) := by
  rw [d.grantTimeout_eq h]
  obtain ⟨f1, f2, f3, f4, f5, f6⟩ := d.grantDropped_frame g rest
  generalize d.grantDropped g rest = y at *
  obtain ⟨e, he⟩ : ∃ e, ({ y with foyer := { y.foyer with cause := g.src } } : Device) = e := ⟨_, rfl⟩
  have hclock : e.clock = y.clock := by rw [← he]
  have hcommit : e.commit = y.commit := by rw [← he]
  have hstaged : e.staged = y.staged := by rw [← he]
  have hpower : e.power = y.power := by rw [← he]
  have hobj : e.obj = y.obj := by rw [← he]
  have hent : e.entries = y.entries := Device.entries_of_attic (by rw [← he])
  have hrev : e.commit.reverts = [] := by rw [hcommit, f2]; exact hr
  obtain ⟨hans, hhead, hval⟩ := e.commitEnds_frame (groups := g.groups) (slot := g.slot) (status := 0x100A) g.imm hs hrev
  have hfin : y.causedBy g.src (·.commitEnds g.groups g.slot St.state g.imm) =
      { e.commitEnds g.groups g.slot 0x100A g.imm with foyer := { (e.commitEnds g.groups g.slot 0x100A g.imm).foyer with cause := y.foyer.cause } } := by
    rw [← he]
    rfl
  rw [hfin]
  generalize e.commitEnds g.groups g.slot 0x100A g.imm = t at hans hhead hval
  have hshow (k : Nat) : ({ t with foyer := { t.foyer with cause := y.foyer.cause } } : Device).nat k = t.nat k := rfl
  refine ⟨hans.clock.trans (hclock.trans f1), hans.commit.trans (hcommit.trans f2), hans.staged.trans (hstaged.trans f3), ?_, ?_, fun x hx => ?_,
    fun hi k h1 h2 => (hval hi k h1).trans ((val_of_obj hobj k).trans (f6 k h2))⟩
  · have hlast : t.nat K.commitLastStatus = (e.setNum K.commitLastStatus (0x100A : Nat)).nat K.commitLastStatus :=
      congrArg (fun v => v.int.toNat) (hans.val K.commitLastStatus (by decide))
    rw [hshow, hlast, Device.nat_setNum_self, Int.toNat_natCast]
  · exact (congrArg List.head? (newReports_of_same (f4.symm.trans hent.symm) t)).trans hhead
  · have hp : t.power = y.power := hans.power.trans hpower
    exact f5 x (hp ▸ hx)

/-- R282, R533: a commit that would wait beyond its 1 ms ends before the step starts. -/
theorem Device.sequencerStep_late {g : Grant} {rest : List Grant} (h : d.commit.grants = g :: rest) (hne : d.power.steps ≠ [])
    (hlate : g.since + msTicks < max d.clock.ticks d.stepStart) (hs : 16 ≤ g.slot) (hr : d.commit.reverts = []) :
    d.sequencerStep = d.grantTimeout.sequencerStep := by
  obtain ⟨-, hcommit, -⟩ := d.grantTimeout_obeys h hs hr
  have hfirst : d.lateGrants = d.grantTimeout.lateGrants := by
    have hcond : (d.power.nextStep.isSome && d.commit.grants.head?.any (fun g => g.since + msTicks < max d.clock.ticks d.stepStart)) = true := by
      rw [Power.nextStep_isSome hne, h, Bool.true_and, List.head?_cons, Option.any_some]
      exact decide_eq_true hlate
    have hg : d.grantTimeout.commit.grants = rest := congrArg CommitEngine.grants hcommit
    rw [Device.lateGrants, Device.lateGrants, hg]
    conv_lhs => rw [h]
    rw [List.foldl_cons, if_pos hcond]
  unfold Device.sequencerStep
  rw [hfirst]

/-- SEQUENCER_STEP_START with no step that waits. -/
theorem Device.sequencerStep_idle (h : d.power.steps = []) : d.sequencerStep = d := by
  have hn : d.power.nextStep = none := Power.nextStep_nil h
  have hlate : d.lateGrants = d := by
    have hfold (l : List Grant) : l.foldl (fun d _ => if d.power.nextStep.isSome && d.commit.grants.head?.any (fun g =>
        g.since + msTicks < max d.clock.ticks d.stepStart) then d.grantTimeout else d) d = d := by
      induction l with
      | nil => rfl
      | cons g l ih => rw [List.foldl_cons, if_neg (by simp [hn]), ih]
    exact hfold d.commit.grants
  rw [Device.sequencerStep, hlate]
  simp only [Device.startStep, hn]

/-! ## PORT_POWER_RECOMMIT -/

/-- R552: a port whose power-up stays staged. -/
def Device.leftStaged (d : Device) (p : Nat) : Prop := p < 44 ∧ d.powersUp p = true ∧ Store.find (K.portPower p) d.staged ≠ none

theorem Device.leftStaged_iff : (List.range 44).any (fun p => d.powersUp p && (Store.find (K.portPower p) d.staged).isSome) = true ↔ ∃ p, d.leftStaged p := by
  simp only [List.any_eq_true, List.mem_range, Bool.and_eq_true, Device.leftStaged, Option.isSome_iff_ne_none]

theorem Device.portRecommit_idle (h : d.power.configDone = false ∨ d.commit.grants ≠ [] ∨ d.frozen 8 = true ∨ ¬ ∃ p, d.leftStaged p) :
    d.portRecommit = d := by
  have hany : (¬ ∃ p, d.leftStaged p) → (List.range 44).any (fun p => d.powersUp p && (Store.find (K.portPower p) d.staged).isSome) = false :=
    fun hn => Bool.eq_false_iff.mpr (mt d.leftStaged_iff.mp hn)
  unfold Device.portRecommit
  refine if_pos ?_
  simp only [Bool.or_eq_true, Bool.not_eq_true', decide_eq_true_eq]
  tauto

/-- R282: port p's step joins the queue, unless one waits. -/
def Device.askStep (d : Device) (p : Nat) : Device := if d.power.steps.any (fun s => s.kind = 16 + p) then d else d.queueStep (16 + p) false

theorem Device.queueStep_frame (kind : Nat) (exit : Bool) : let t := d.queueStep kind exit
    t.power.steps = d.power.steps ++ [{ kind := kind, since := d.clock.ticks, exit := exit }] ∧ t.commit = d.commit ∧ t.clock = d.clock := by
  unfold Device.queueStep
  dsimp only
  split <;> exact ⟨rfl, rfl, rfl⟩

theorem Device.askStep_obeys (p : Nat) : let t := d.askStep p
    t.commit = d.commit ∧ t.clock = d.clock ∧ (∀ y ∈ d.power.steps, y ∈ t.power.steps) ∧ ∃ y ∈ t.power.steps, y.kind = 16 + p := by
  unfold Device.askStep
  split
  · rename_i h
    obtain ⟨y, hy, hk⟩ := List.any_eq_true.mp h
    exact ⟨rfl, rfl, fun _ => id, y, hy, of_decide_eq_true hk⟩
  · obtain ⟨q1, q2, q3⟩ := d.queueStep_frame (16 + p) false
    refine ⟨q2, q3, fun y hy => ?_, { kind := 16 + p, since := d.clock.ticks, exit := false }, ?_, rfl⟩
    · rw [q1]
      exact List.mem_append_left _ hy
    · rw [q1]
      exact List.mem_append_right _ List.mem_cons_self

/-- R282: each port that waits has a step in the queue. -/
theorem Device.askSteps_obeys (l : List Nat) : let t := l.foldl Device.askStep d
    t.commit = d.commit ∧ t.clock = d.clock ∧ (∀ y ∈ d.power.steps, y ∈ t.power.steps) ∧ ∀ p ∈ l, ∃ y ∈ t.power.steps, y.kind = 16 + p := by
  induction l generalizing d with
  | nil => exact ⟨rfl, rfl, fun _ => id, fun _ hp => absurd hp List.not_mem_nil⟩
  | cons p l ih =>
    obtain ⟨a1, a2, a3, y, hy, hk⟩ := d.askStep_obeys p
    obtain ⟨i1, i2, i3, i4⟩ := ih (d.askStep p)
    refine ⟨i1.trans a1, i2.trans a2, fun z hz => i3 z (a3 z hz), fun q hq => ?_⟩
    rcases List.mem_cons.mp hq with rfl | hq
    · exact ⟨y, i3 y hy, hk⟩
    · exact i4 q hq

/-- R282: what a commit of group 0x08 leaves that waits for ports. -/
def waitingGrant (src slot since : Nat) (imm : Option ImmCommit) (waiting : List Nat) (bad : Bool) : Grant :=
  { src := src, waiting := waiting, since := since, groups := 2 ^ 8, slot := slot, bad := bad, imm := imm }

/-- R282: a commit of group 0x08 waits for the ports that it powers up. -/
theorem Device.runCommit_waits (slot since : Nat) (imm : Option ImmCommit) {p : Nat} (hp : p < 44) (hu : d.powersUp p = true)
    (hg : d.commit.grants = []) : let t := d.runCommit (2 ^ 8) slot since imm []
    t.clock = d.clock ∧ ∃ g, t.commit.grants = [g] ∧ g.groups = 2 ^ 8 ∧ g.since = since ∧
      ∀ q, q < 44 → d.powersUp q = true → q ∈ g.waiting ∧ ∃ x ∈ t.power.steps, x.kind = 16 + q := by
  have hwait : (d.switchGroups (2 ^ 8) slot []).2.1 = (List.range 44).filter (fun u => d.powersUp u && !([] : List (Nat × Nat)).contains (8, u)) :=
    by
      have hbit : bit (2 ^ 8) 8 = true := by decide
      simp only [Device.switchGroups, hbit, if_true]
  have hmem (q : Nat) : q ∈ (d.switchGroups (2 ^ 8) slot []).2.1 ↔ q < 44 ∧ d.powersUp q = true := by
    rw [hwait, List.mem_filter, List.mem_range]
    simp
  have hframe := d.switch_switchGroups slot []
  have hclock := switch_clock hframe
  have hcommit := switch_commit hframe
  have hrun : d.runCommit (2 ^ 8) slot since imm [] =
      if (d.switchGroups (2 ^ 8) slot []).2.1 = [] then (d.switchGroups (2 ^ 8) slot []).1.commitEnds (2 ^ 8) slot
        (if (d.switchGroups (2 ^ 8) slot []).2.2 then St.state else St.ok) imm
      else ((d.switchGroups (2 ^ 8) slot []).2.1.foldl Device.askStep (d.switchGroups (2 ^ 8) slot []).1).setCommit (fun e => { e with
        grants := e.grants ++ [waitingGrant d.foyer.cause slot since imm (d.switchGroups (2 ^ 8) slot []).2.1 (d.switchGroups (2 ^ 8) slot []).2.2] }) :=
    rfl
  generalize d.switchGroups (2 ^ 8) slot [] = w at *
  obtain ⟨d1, wait, bad⟩ := w
  have hne : wait ≠ [] := List.ne_nil_of_mem ((hmem p).mpr ⟨hp, hu⟩)
  intro t
  obtain ⟨a1, a2, -, a4⟩ := d1.askSteps_obeys wait
  rw [show t = _ from hrun, if_neg hne]
  generalize wait.foldl Device.askStep d1 = y at a1 a2 a4
  refine ⟨a2.trans hclock, waitingGrant d.foyer.cause slot since imm wait bad, ?_, rfl, rfl, fun q hq hup => ⟨(hmem q).mpr ⟨hq, hup⟩, a4 q ((hmem q).mpr ⟨hq, hup⟩)⟩⟩
  show y.commit.grants ++ [waitingGrant d.foyer.cause slot since imm wait bad] = _
  rw [a1, hcommit, hg, List.nil_append]

/-- The commit that firmware makes of group 0x08. -/
def firmwareCommit (since : Nat) : ImmCommit :=
  { groups := 2 ^ 8, since := since, src := { transport := 0xFE, addr := [], port := 0 }, xl := false, opcode := 0, txn := 0 }

/-- R552: a power-up that stayed staged is committed again, 1 ms later. -/
theorem Device.portRecommit_obeys (hc : d.power.configDone = true) (hg : d.commit.grants = []) (hf : d.frozen 8 = false) (hl : ∃ p, d.leftStaged p)
    (hr : (d.elapse msTicks).commitRefused { groups := 2 ^ 8, mode := 0, slot := 0, rsv := 0, inst := 0, nsBad := false } [] = none) :
    let t := d.portRecommit
    t.clock.ticks = d.clock.ticks + msTicks ∧ ∃ g, t.commit.grants = [g] ∧ g.groups = 2 ^ 8 ∧ g.since = t.clock.ticks ∧
      ∀ p, d.leftStaged p → p ∈ g.waiting ∧ ∃ x ∈ t.power.steps, x.kind = 16 + p := by
  have hrun : d.portRecommit =
      (d.elapse msTicks).runCommit (2 ^ 8) 0xFF (d.elapse msTicks).clock.ticks (some (firmwareCommit (d.elapse msTicks).clock.ticks)) [] := by
    unfold Device.portRecommit
    refine (if_neg ?_).trans ?_
    · simp only [hc, hg, hf, d.leftStaged_iff.mpr hl, Bool.not_true, ne_eq, not_true_eq_false, decide_false, Bool.or_self, Bool.false_eq_true,
        not_false_eq_true]
    · dsimp only
      rw [hr]
      rfl
  have hticks : (d.elapse msTicks).clock.ticks = d.clock.ticks + msTicks := d.elapse_ticks msTicks
  have hup (p : Nat) (h : d.leftStaged p) : p < 44 ∧ (d.elapse msTicks).powersUp p = true := ⟨h.1, h.2.1⟩
  have hgr : (d.elapse msTicks).commit.grants = [] := hg
  rw [hrun]
  generalize d.elapse msTicks = e at *
  obtain ⟨p, hp⟩ := hl
  obtain ⟨r1, g, r2, r3, r4, r5⟩ := e.runCommit_waits 0xFF e.clock.ticks (some (firmwareCommit e.clock.ticks)) (hup p hp).1 (hup p hp).2 hgr
  generalize e.runCommit (2 ^ 8) 0xFF e.clock.ticks (some (firmwareCommit e.clock.ticks)) [] = t at *
  exact ⟨by rw [r1, hticks], g, r2, r3, by rw [r4, r1], fun q hq => r5 q (hup q hq).1 (hup q hq).2⟩

end

end Sys2Proof.Machine
end

section
/-! Chapter 20: supplies, the AVS set point and the margin plan (R539 to R543, R564). -/

namespace Sys2Proof.Machine

theorem exec_marginReplan (s : State) (m : List Int) (acked : Bool) : exec (.marginReplan m acked) s = .next (s.on (·.marginReplan m acked)) := rfl
theorem exec_avsWriteRetry (s : State) (acked : Bool) : exec (.avsWriteRetry acked) s = .next (s.on (·.avsWriteRetry acked)) := rfl
theorem exec_vbatLow (s : State) (mv : Nat) : exec (.vbatLow mv) s = .next (s.on (·.vbatLevel mv)) := rfl
theorem exec_railFault (s : State) (rail mv : Nat) : exec (.railFault rail mv) s = .next (s.on (·.railFault rail mv)) := rfl

/-! ## The AVS set point (R564) -/

section
variable (d : Device)

/-- What a move of the set point touches: its object, Fusebox's own state and the clocks. -/
def avsBlank : Blank := { clear := fun d => { d with obj := [], lost := [], power := {}, clock := {} }, clear_setVal := fun _ _ _ => rfl }

def avsKey (k : Nat) : Bool := k = K.ageAvsNow

theorem Device.avs_avsRun (acked : Bool) (fuel : Nat) : (d.avsRun acked fuel).beside avsBlank avsKey = d.beside avsBlank avsKey := by
  induction fuel generalizing d with
  | zero => rfl
  | succ fuel ih =>
    have hset (v : Int) : (d.setNum K.ageAvsNow v).beside avsBlank avsKey = d.beside avsBlank avsKey := d.beside_setNum v (by decide)
    unfold Device.avsRun
    dsimp only
    split
    · rfl
    · split
      · exact (ih _).trans (Eq.trans rfl (hset _))
      · exact Eq.trans rfl (hset _)

theorem Device.avsRun_attic (acked : Bool) (fuel : Nat) : (d.avsRun acked fuel).attic = d.attic := by
  have := clear_of_beside (d.avs_avsRun acked fuel)
  have := congrArg Device.attic this
  exact this

/-- The next set point on the way to the one wanted. -/
def avsNext (want now : Nat) : Nat := if now < want then min want (now + 10) else max want (now - 10)

/-- R564: acknowledged, the set point comes to the one wanted in steps of at most 10 mV, 100 us apart. -/
theorem Device.avsRun_reaches {fuel now want : Nat} (hn : d.nat K.ageAvsNow = now) (hw : d.avsWanted = want)
    (hf : ceilDiv ((want : Int) - now).natAbs 10 ≤ fuel) (hs : d.power.avsSet = now) (hr : d.power.avsRetry = none) :
    let t := d.avsRun true fuel
    t.nat K.ageAvsNow = want ∧ t.power.avsSet = want ∧ t.power.avsRetry = none ∧
      t.clock.ticks = d.clock.ticks + 100 * usTicks * ceilDiv ((want : Int) - now).natAbs 10 := by
  induction fuel generalizing d now with
  | zero =>
    have hzero : want = now := by
      simp only [ceilDiv] at hf
      omega
    subst hzero
    refine ⟨hn, hs, hr, ?_⟩
    have : ceilDiv ((want : Int) - want).natAbs 10 = 0 := by simp [ceilDiv]
    rw [this, Nat.mul_zero]
    rfl
  | succ fuel ih =>
    by_cases hsame : now = want
    · subst hsame
      have hstay : d.avsRun true (fuel + 1) = d := if_pos (by rw [hn, hw])
      have hz : ceilDiv ((now : Int) - now).natAbs 10 = 0 := by simp [ceilDiv]
      rw [hstay, hz]
      exact ⟨hn, hs, hr, rfl⟩
    · let e := ((d.setNum K.ageAvsNow (avsNext want now : Nat)).setPower (fun p => { p with avsSet := avsNext want now, avsRetry := none })).elapse
        (100 * usTicks)
      have hstep : d.avsRun true (fuel + 1) = e.avsRun true fuel := by
        refine (if_neg (by rw [hn, hw]; exact hsame)).trans ?_
        rw [hn, hw]
        rfl
      have hnow : e.nat K.ageAvsNow = avsNext want now := by
        have h : e.nat K.ageAvsNow = (d.setNum K.ageAvsNow (avsNext want now : Nat)).nat K.ageAvsNow := Device.elapse_nat _ _ _
        rw [h, Device.nat_setNum_self, Int.toNat_natCast]
      have hwant : e.avsWanted = want := by
        rw [← hw]
        have hfloor : e.num K.ageAvsFloor = d.num K.ageAvsFloor :=
          (Device.elapse_num _ _ _).trans (congrArg Val.int (Device.val_setVal_ne d (k := K.ageAvsNow) (j := K.ageAvsFloor) _ (by decide)))
        have hreplans : e.power.replans = d.power.replans := rfl
        rw [Device.avsWanted, hfloor, hreplans, Device.avsWanted]
      have hticks : e.clock.ticks = d.clock.ticks + 100 * usTicks := Device.elapse_ticks _ _
      have hset : e.power.avsSet = avsNext want now ∧ e.power.avsRetry = none := ⟨rfl, rfl⟩
      have hdist : ceilDiv ((want : Int) - now).natAbs 10 = ceilDiv ((want : Int) - avsNext want now).natAbs 10 + 1 := by
        simp only [ceilDiv, avsNext]
        split <;> omega
      obtain ⟨t1, t2, t3, t4⟩ := ih e hnow hwant (by omega) hset.1 hset.2
      rw [hstep]
      refine ⟨t1, t2, t3, ?_⟩
      rw [t4, hticks, hdist]
      ring

theorem Device.avsWanted_range (h : 650 ≤ d.nat K.ageAvsFloor) (h' : d.nat K.ageAvsFloor ≤ 850) : 650 ≤ d.avsWanted ∧ d.avsWanted ≤ 850 := by
  have hnum : (d.num K.ageAvsFloor).toNat = d.nat K.ageAvsFloor := rfl
  unfold Device.avsWanted clamp
  generalize Config.avsWanted d.power.replans.length = v
  split
  · omega
  · split <;> omega

theorem Device.avsWriteRetry_idle (acked : Bool) (hr : d.power.avsRetry = none) : d.avsWriteRetry acked = d := by
  rw [Device.avsWriteRetry, hr]

/-- AVS_WRITE_RETRY, once more unacknowledged. -/
theorem Device.avsWriteRetry_unacked {t0 : Nat} (hr : d.power.avsRetry = some t0) :
    d.avsWriteRetry false = (d.runTo (t0 + msTicks)).setPower (fun p => { p with avsRetry := some (d.runTo (t0 + msTicks)).clock.ticks }) := by
  rw [Device.avsWriteRetry, hr]
  exact if_neg Bool.false_ne_true

/-- AVS_WRITE_RETRY, acknowledged. -/
theorem Device.avsWriteRetry_acked {t0 : Nat} (hr : d.power.avsRetry = some t0) (h1 : 650 ≤ d.nat K.ageAvsNow) (h2 : d.nat K.ageAvsNow ≤ 850)
    (h3 : 650 ≤ d.nat K.ageAvsFloor) (h4 : d.nat K.ageAvsFloor ≤ 850) : let t := d.avsWriteRetry true
    t.nat K.ageAvsNow = d.avsWanted ∧ t.power.avsSet = d.avsWanted ∧ t.power.avsRetry = none ∧
      t.clock.ticks = (d.runTo (t0 + msTicks)).clock.ticks + 100 * usTicks * (1 + ceilDiv ((d.avsWanted : Int) - d.nat K.ageAvsNow).natAbs 10) ∧
      ∀ k, k ≠ K.ageAvsNow → t.val k = d.val k := by
  obtain ⟨r, hrun⟩ : ∃ r, d.runTo (t0 + msTicks) = r := ⟨_, rfl⟩
  have hobj : r.obj = d.obj := by rw [← hrun, Device.runTo_obj]
  have hpower : r.power = d.power := by rw [← hrun, Device.runTo_power]
  have heq : d.avsWriteRetry true =
      ((r.setPower (fun p => { p with avsRetry := none, avsSet := r.nat K.ageAvsNow })).elapse (100 * usTicks)).avsRun true 64 := by
    rw [Device.avsWriteRetry, hr]
    simp only [hrun, if_true]
  obtain ⟨e, he⟩ : ∃ e, (r.setPower (fun p => { p with avsRetry := none, avsSet := r.nat K.ageAvsNow })).elapse (100 * usTicks) = e := ⟨_, rfl⟩
  have heo : e.obj = d.obj := by
    rw [← he, Device.elapse_obj]
    exact hobj
  have het : e.clock.ticks = r.clock.ticks + 100 * usTicks := by rw [← he]; exact Device.elapse_ticks _ _
  have hep : e.power = { d.power with avsRetry := none, avsSet := r.nat K.ageAvsNow } := by
    rw [← he, Device.elapse_power, ← hpower]
    rfl
  have hnow : e.nat K.ageAvsNow = d.nat K.ageAvsNow := nat_of_obj heo _
  have hwant : e.avsWanted = d.avsWanted := by rw [Device.avsWanted, num_of_obj heo, hep, Device.avsWanted]
  obtain ⟨w1, w2⟩ := d.avsWanted_range h3 h4
  obtain ⟨t1, t2, t3, t4⟩ := e.avsRun_reaches (fuel := 64) hnow hwant (by simp only [ceilDiv]; omega)
    (by rw [hep]; exact nat_of_obj hobj _) (by rw [hep])
  rw [heq, he, hrun]
  refine ⟨t1, t2, t3, ?_, fun k hk => (val_of_beside (e.avs_avsRun true 64) (decide_eq_false hk)).trans (val_of_obj heo k)⟩
  rw [t4, het]
  ring

/-! ## VBAT and the rails (R539) -/

/-- VBAT_LOW outside an entry. -/
theorem Device.vbatLevel_obeys (mv : Nat) (he : d.power.entry = none) : let t := d.vbatLevel mv
    t.clock = d.clock ∧ t.nat K.fbVbatMv = mv ∧
      t.power.vbatLow = (if mv < 2500 then true else if 2600 < mv then false else d.power.vbatLow) ∧
      newReports d t = (if mv < 2500 ∧ d.power.vbatLow = false then [(0x0102, [1, (mv : Int)])]
        else if 2600 < mv ∧ d.power.vbatLow = true then [(0x0102, [0, (mv : Int)])] else []) ∧
      ∀ k, k ≠ K.fbVbatMv → t.val k = d.val k := by
  have hmv : (d.setNum K.fbVbatMv mv).nat K.fbVbatMv = mv := by rw [Device.nat_setNum_self, Int.toNat_natCast]
  have hval (k : Nat) (hk : k ≠ K.fbVbatMv) : (d.setNum K.fbVbatMv mv).val k = d.val k := d.val_setVal_ne _ hk
  have hsame : (d.setNum K.fbVbatMv mv).clock = d.clock ∧ (d.setNum K.fbVbatMv mv).entries = d.entries ∧ (d.setNum K.fbVbatMv mv).power = d.power :=
    ⟨rfl, rfl, rfl⟩
  obtain ⟨hclock, hent, hpower⟩ := hsame
  unfold Device.vbatLevel
  dsimp only
  generalize d.setNum K.fbVbatMv mv = x at *
  have hshow (b : Bool) (p : List Int) : ((x.setPower (fun p => { p with vbatLow := b })).report 0x0102 p).nat K.fbVbatMv = x.nat K.fbVbatMv := rfl
  have hnew (b : Bool) (p : List Int) : newReports d ((x.setPower (fun p => { p with vbatLow := b })).report 0x0102 p) = [(0x0102, p)] :=
    newReports_of_entries (by
      have := (x.setPower (fun p => { p with vbatLow := b })).entries_report 0x0102 p
      rw [this]
      exact congrArg (· ++ _) hent)
  have hcheck (b : Bool) (p : List Int) : ((x.setPower (fun p => { p with vbatLow := b })).report 0x0102 p).holdCheck =
      (x.setPower (fun p => { p with vbatLow := b })).report 0x0102 p := by
    have : ((x.setPower (fun p => { p with vbatLow := b })).report 0x0102 p).power.entry = none := (congrArg Power.entry hpower).trans he
    rw [Device.holdCheck, this]
  by_cases h1 : mv < 2500
  · have hnot : ¬ 2600 < mv := by omega
    cases hl : d.power.vbatLow
    · simp only [h1, hcheck, decide_true, Bool.not_false, Bool.and_self, if_true, true_and]
      exact ⟨hclock, (hshow _ _).trans hmv, rfl, hnew _ _, hval⟩
    · simp only [h1, hnot, decide_true, decide_false, Bool.not_true, Bool.and_false, Bool.false_eq_true, if_false, if_true, false_and, Bool.false_and,
        Bool.true_eq_false, and_false]
      exact ⟨hclock, hmv, by rw [hpower, hl], newReports_of_entries (by rw [hent, List.append_nil]), hval⟩
  · by_cases h2 : 2600 < mv
    · cases hl : d.power.vbatLow
      · simp only [h1, h2, decide_true, decide_false, Bool.false_and, Bool.and_false, Bool.false_eq_true, if_false, if_true, false_and, and_false]
        exact ⟨hclock, hmv, by rw [hpower, hl], newReports_of_entries (by rw [hent, List.append_nil]), hval⟩
      · simp only [h1, h2, decide_true, decide_false, Bool.false_and, Bool.and_self, Bool.false_eq_true, if_false, if_true, false_and, and_self]
        exact ⟨hclock, (hshow _ _).trans hmv, rfl, hnew _ _, hval⟩
    · simp only [h1, h2, decide_false, Bool.false_and, Bool.false_eq_true, if_false, false_and]
      exact ⟨hclock, hmv, by rw [hpower], newReports_of_entries (by rw [hent, List.append_nil]), hval⟩

/-- RAIL_FAULT beyond the operating range. -/
theorem Device.railFault_obeys {rail mv : Nat} (h1 : 1 ≤ rail) (h7 : rail ≤ 7) (hw : ¬ ((d.railRange rail).1 ≤ mv ∧ mv ≤ (d.railRange rail).2))
    (hc : d.nat K.fbRailFaults < 2 ^ 32 - 1) : let t := d.railFault rail mv
    t.clock = d.clock ∧ t.nat K.fbRailFaults = d.nat K.fbRailFaults + 1 ∧ newReports d t = [(0x0207, [(rail : Int), (mv : Int)])] ∧
      ∀ k, k ≠ K.fbRailFaults → t.val k = d.val k := by
  have heq : d.railFault rail mv = (d.bump K.fbRailFaults).report 0x0207 [rail, mv] := by
    have hr : ¬ rail = 0 ∧ ¬ 7 < rail := by omega
    refine if_neg ?_
    simp only [Bool.or_eq_true, Bool.and_eq_true, decide_eq_true_eq]
    exact fun h => h.elim (fun h => h.elim hr.1 hr.2) hw
  have hcount : ((d.bump K.fbRailFaults).report 0x0207 [rail, mv]).nat K.fbRailFaults = d.nat K.fbRailFaults + 1 :=
    (Device.report_nat _ _ _ _).trans (d.nat_bumpBy 4 _ 1 (Nat.add_lt_of_lt_sub hc))
  rw [heq]
  refine ⟨rfl, hcount, newReports_of_entries ?_, fun k hk => d.val_setVal_ne _ hk⟩
  rw [Device.entries_report, Device.entries_bump]

theorem Device.railFault_idle {rail mv : Nat} (h : rail = 0 ∨ 7 < rail ∨ ((d.railRange rail).1 ≤ mv ∧ mv ≤ (d.railRange rail).2)) :
    d.railFault rail mv = d := by
  refine if_pos ?_
  simp only [Bool.or_eq_true, Bool.and_eq_true, decide_eq_true_eq]
  tauto

end

end Sys2Proof.Machine
end

section
/-! Chapter 20: the margin plan (R540 to R543). -/

namespace Sys2Proof.Machine

/-! ## The worst site -/

/-- R540: the ratio of site w is no smaller than that of site s. -/
def worseThan (deg : List Int) (w s : Nat) : Prop := deg.getD s 0 * Config.siteLimit w ≤ deg.getD w 0 * Config.siteLimit s

/-- The site that a list of sites leaves as the worst so far. -/
def worstAmong (deg : List Int) (w : Nat) (l : List Nat) : Nat :=
  l.foldl (fun w s => if ratioLt (deg.getD w 0, Config.siteLimit w) (deg.getD s 0, Config.siteLimit s) then s else w) w

theorem worstAmong_mem (deg : List Int) (w : Nat) (l : List Nat) : worstAmong deg w l = w ∨ worstAmong deg w l ∈ l := by
  induction l generalizing w with
  | nil => exact .inl rfl
  | cons s l ih =>
    rcases ih (if ratioLt (deg.getD w 0, Config.siteLimit w) (deg.getD s 0, Config.siteLimit s) then s else w) with h | h
    · rw [worstAmong, List.foldl_cons, ← worstAmong, h]
      split
      · exact .inr List.mem_cons_self
      · exact .inl rfl
    · exact .inr (List.mem_cons_of_mem s h)

theorem worseThan_trans {deg : List Int} {a b c : Nat} (hb : 0 < Config.siteLimit b) (ha : 0 < Config.siteLimit a) (hc : 0 < Config.siteLimit c)
    (h : worseThan deg a b) (h' : worseThan deg b c) : worseThan deg a c := by
  unfold worseThan at *
  refine le_of_mul_le_mul_right ?_ hb
  nlinarith

theorem worstAmong_worse {deg : List Int} {w : Nat} {l : List Nat} (hpos : ∀ s, s = w ∨ s ∈ l → 0 < Config.siteLimit s) :
    ∀ s, s = w ∨ s ∈ l → worseThan deg (worstAmong deg w l) s := by
  induction l generalizing w with
  | nil =>
    rintro s (rfl | h)
    · exact le_refl _
    · exact absurd h List.not_mem_nil
  | cons x l ih =>
    have hstep : worseThan deg (if ratioLt (deg.getD w 0, Config.siteLimit w) (deg.getD x 0, Config.siteLimit x) then x else w) w ∧
        worseThan deg (if ratioLt (deg.getD w 0, Config.siteLimit w) (deg.getD x 0, Config.siteLimit x) then x else w) x := by
      unfold worseThan
      split
      · rename_i h
        exact ⟨le_of_lt (of_decide_eq_true h), le_refl _⟩
      · rename_i h
        exact ⟨le_refl _, not_lt.mp fun hlt => h (decide_eq_true hlt)⟩
    have hnew : (if ratioLt (deg.getD w 0, Config.siteLimit w) (deg.getD x 0, Config.siteLimit x) then x else w) = w ∨
        (if ratioLt (deg.getD w 0, Config.siteLimit w) (deg.getD x 0, Config.siteLimit x) then x else w) = x := by
      split
      · exact .inr rfl
      · exact .inl rfl
    have heq : worstAmong deg w (x :: l) =
        worstAmong deg (if ratioLt (deg.getD w 0, Config.siteLimit w) (deg.getD x 0, Config.siteLimit x) then x else w) l := rfl
    rw [heq]
    generalize (if ratioLt (deg.getD w 0, Config.siteLimit w) (deg.getD x 0, Config.siteLimit x) then x else w) = y at *
    have hy : 0 < Config.siteLimit y := hnew.elim (fun h => h ▸ hpos w (.inl rfl)) (fun h => h ▸ hpos x (.inr List.mem_cons_self))
    have hl : ∀ s, s = y ∨ s ∈ l → 0 < Config.siteLimit s := fun s hs => hs.elim (fun h => h ▸ hy) fun h => hpos s (.inr (List.mem_cons_of_mem x h))
    have htop := ih hl y (.inl rfl)
    have hz : 0 < Config.siteLimit (worstAmong deg y l) := hl _ (worstAmong_mem deg y l)
    intro s hs
    have hps := hpos s hs
    rcases hs with rfl | hs
    · exact worseThan_trans hy hz hps htop hstep.1
    · rcases List.mem_cons.mp hs with rfl | hs
      · exact worseThan_trans hy hz hps htop hstep.2
      · exact ih hl s (.inr hs)

theorem worstSite_lt (deg : List Int) {n : Nat} (hn : n < 32) : worstSite deg n < 32 := by
  rcases worstAmong_mem deg n ((List.range 32).filter (fun s => n ≤ s)) with h | h
  · exact lt_of_eq_of_lt h hn
  · exact List.mem_range.mp (List.mem_filter.mp h).1

theorem worstSite_worse {deg : List Int} {n : Nat} (hn : n < 32) (hpos : ∀ i, i < 32 → 0 < Config.siteLimit i) {i : Nat} (h1 : n ≤ i) (h2 : i < 32) :
    worseThan deg (worstSite deg n) i := by
  refine worstAmong_worse (l := (List.range 32).filter (fun s => n ≤ s)) (fun s hs => ?_) i
    (.inr (List.mem_filter.mpr ⟨List.mem_range.mpr h2, decide_eq_true h1⟩))
  rcases hs with rfl | hs
  · exact hpos _ hn
  · exact hpos s (List.mem_range.mp (List.mem_filter.mp hs).1)

/-- R542: the floor asked for covers the margin and the ratio of the site that it is asked for. -/
theorem avsFloor_covers (margin : Nat) (deg lim : Int) (h : 0 < lim) : (650 + margin) * lim + 150 * deg ≤ avsFloor margin deg lim * lim := by
  have hl : 0 < 5 * lim.toNat := by omega
  have hceil := le_ceilDiv_mul (a := (650 + margin) * lim.toNat + 150 * deg.toNat) hl
  have hcast : ((lim.toNat : Nat) : Int) = lim := Int.toNat_of_nonneg (le_of_lt h)
  have hdeg : deg ≤ ((deg.toNat : Nat) : Int) := Int.self_le_toNat deg
  have hz : (((650 + margin) * lim.toNat + 150 * deg.toNat : Nat) : Int) ≤
      ((ceilDiv ((650 + margin) * lim.toNat + 150 * deg.toNat) (5 * lim.toNat) * (5 * lim.toNat) : Nat) : Int) := by exact_mod_cast hceil
  unfold avsFloor
  push_cast at hz ⊢
  rw [hcast] at hz
  nlinarith

/-! ## The plan -/

section
variable (d : Device)

/-- R540: the degradations that a re-plan goes by; the first finds none. -/
def Device.planDegs (d : Device) (m : List Int) : List Int := (List.range 32).map (fun s => if d.power.replans = [] then 0 else m.getD s 0)

theorem Device.planDegs_getD (m : List Int) {i : Nat} (h : i < 32) : (d.planDegs m).getD i 0 = if d.power.replans = [] then 0 else m.getD i 0 := by
  rw [Device.planDegs, List.getD_eq_getElem?_getD, List.getElem?_map, List.getElem?_range h]
  rfl

/-- The AVS floor that a re-plan asks for. -/
def Device.planFloor (d : Device) (m : List Int) : Nat :=
  max (d.nat K.ageAvsFloor) (avsFloor (d.nat K.ageAvsMargin) ((d.planDegs m).getD (worstSite (d.planDegs m) 24) 0)
    (Config.siteLimit (worstSite (d.planDegs m) 24)))

/-- The degradations as the sites show them. -/
def Device.planSites (d : Device) (m : List Int) : Device :=
  (List.range 32).foldl (fun x s => x.setNum (K.siteDegrade s) ((d.planDegs m).getD s 0)) d

theorem siteDegrade_inj {i j : Nat} (h : K.siteDegrade i = K.siteDegrade j) : i = j := by
  simp only [K.siteDegrade] at h
  omega

theorem setSites_num (f : Nat → Int) (l : List Nat) (x : Device) (i : Nat) :
    (l.foldl (fun x s => x.setNum (K.siteDegrade s) (f s)) x).num (K.siteDegrade i) = if i ∈ l then f i else x.num (K.siteDegrade i) := by
  induction l generalizing x with
  | nil => simp
  | cons s l ih =>
    rw [List.foldl_cons, ih, Device.num_setNum]
    by_cases hs : i = s
    · subst hs
      simp
    · have : K.siteDegrade i ≠ K.siteDegrade s := fun h => hs (siteDegrade_inj h)
      simp only [List.mem_cons, hs, false_or, this, if_false]

def siteKey (k : Nat) : Bool := 0x2040 * 256 ≤ k && k < 0x2060 * 256

theorem Device.planSites_frame (m : List Int) : (d.planSites m).beside objBlank siteKey = d.beside objBlank siteKey := by
  refine d.beside_foldl _ fun x s hs => x.beside_setNum _ ?_
  have := List.mem_range.mp hs
  rw [siteKey, Bool.and_eq_true, decide_eq_true_eq, decide_eq_true_eq]
  simp only [K.siteDegrade]
  omega

/-- What a re-plan publishes of its results. -/
def planShown (asked trim used remain w t : Nat) : List (Nat × Int) :=
  [(K.ageAvsFloor, min 850 asked), (K.tdcTrim, trim), (K.ageLifeUsed, used), (K.ageLifeRemain, remain), (K.ageWorstSite, w), (K.ageLastReplan, t)]

/-- The part with a re-plan's results published, before its records. -/
def Device.planSet (d : Device) (m : List Int) (trim used remain : Nat) (fit : List (Nat × Nat)) : Device :=
  let d2 := (d.planSites m).setNums (planShown (d.planFloor m) trim used remain (worstSite (d.planDegs m) 0) (d.nat K.cellarOpMinutes))
  let d3 := if d.hold.rates = [] then d2 else d2.setNum K.hoAgeingPrior (d.hold.rates.sum / d.hold.rates.length)
  (d3.setHold (fun h => { h with rates := [] })).setPower (fun p => { p with replans := fit })

/-- The records of a re-plan. -/
def Device.planTold (d : Device) (old asked trim used remain w : Nat) : Device :=
  let d5 := d.report 0x0205 [min 850 asked, trim, used, w]
  let d6 := if old < 80 && 80 ≤ used then d5.report 0x0206 [1, remain] else d5
  let d7 := if 850 ≤ asked then d6.report 0x0206 [2, remain] else d6
  if old < 100 && used = 100 then d7.report 0x0206 [3, remain] else d7

theorem Device.planTold_frame (old asked trim used remain w : Nat) : let t := d.planTold old asked trim used remain w
    t.obj = d.obj ∧ t.clock = d.clock ∧ ∃ l, t.entries = d.entries ++ (0x0205, [min 850 (asked : Int), trim, used, w]) :: l := by
  have h5 : (d.report 0x0205 [min 850 (asked : Int), trim, used, w]).Adds (d.planTold old asked trim used remain w) := by
    unfold Device.planTold
    dsimp only
    have hrep {x y : Device} {c : Prop} [Decidable c] (n : Int) (h : x.Adds y) : x.Adds (if c then y.report 0x0206 [n, remain] else y) :=
      Device.adds_ite (h.report _ _) h
    exact hrep 3 (hrep 2 (hrep 1 (Device.adds_refl _)))
  obtain ⟨l, hl⟩ := h5
  refine ⟨?_, ?_, l, ?_⟩
  · simp only [Device.planTold, apply_ite Device.obj, Device.report_obj, ite_self]
  · simp only [Device.planTold, apply_ite Device.clock, Device.report_clock, ite_self]
  · rw [← hl, Device.entries_report, List.append_assoc]
    rfl

/-- The ratios and minutes of the re-plans, with this one. -/
def Device.planFit (d : Device) (m : List Int) : List (Nat × Nat) :=
  d.power.replans ++ [(((d.planDegs m).getD (worstSite (d.planDegs m) 0) 0 * 1000000 / Config.siteLimit (worstSite (d.planDegs m) 0)).toNat,
    d.nat K.cellarOpMinutes)]

/-- R543: the part of its life that the worst site has used. -/
def Device.planUsed (d : Device) (m : List Int) : Nat :=
  if 3 ≤ (d.planFit m).length then Config.lifeFit (d.planFit m) 0 % 101
  else lifeUsed ((d.planDegs m).getD (worstSite (d.planDegs m) 0) 0) (Config.siteLimit (worstSite (d.planDegs m) 0))

/-- R543: the days of life that remain. -/
def Device.planRemain (d : Device) (m : List Int) : Nat :=
  if 3 ≤ (d.planFit m).length || (d.planDegs m).getD (worstSite (d.planDegs m) 0) 0 ≤ 0 then Config.lifeFit (d.planFit m) 1 % 2 ^ 32
  else lifeRemain (d.nat K.cellarOpMinutes) ((d.planDegs m).getD (worstSite (d.planDegs m) 0) 0) (Config.siteLimit (worstSite (d.planDegs m) 0))

/-- The trim of the interpolators that the canary's degradation asks for. -/
def Device.planTrim (d : Device) (m : List Int) : Nat := Config.tdcTrim ((d.planDegs m).getD 24 0) % 65536

/-- The part with a re-plan's results published and recorded. -/
def Device.planned (d : Device) (m : List Int) : Device :=
  (d.planSet m (d.planTrim m) (d.planUsed m) (d.planRemain m) (d.planFit m)).planTold ((d.planSites m).nat K.ageLifeUsed) (d.planFloor m) (d.planTrim m)
    (d.planUsed m) (d.planRemain m) (worstSite (d.planDegs m) 0)

theorem Device.replan_eq (m : List Int) (acked : Bool) :
    d.replan m acked = if (d.planned m).clock.mtRun then (d.planned m).avsRun acked 64 else d.planned m := rfl

end

end Sys2Proof.Machine
end

section
/-! Chapter 20: what a re-plan publishes, and O58. -/

namespace Sys2Proof.Machine

section
variable {d e : Device} {C : Nat → Bool} (h : e.beside objBlank C = d.beside objBlank C)
include h

theorem clock_of_objects : e.clock = d.clock := congrArg (fun x => x.1.clock) h
theorem attic_of_objects : e.attic = d.attic := congrArg (fun x => x.1.attic) h

end

section
variable (d : Device)

/-- The objects of a re-plan's results beside the sites. -/
def planKeys : List Nat := [K.ageAvsFloor, K.tdcTrim, K.ageLifeUsed, K.ageLifeRemain, K.ageWorstSite, K.ageLastReplan]

theorem Device.planSet_frame (m : List Int) (trim used remain : Nat) (fit : List (Nat × Nat)) : let t := d.planSet m trim used remain fit
    (∀ i < 32, t.num (K.siteDegrade i) = if d.power.replans = [] then 0 else m.getD i 0) ∧
      t.num K.ageAvsFloor = min 850 (d.planFloor m : Int) ∧ t.num K.ageWorstSite = worstSite (d.planDegs m) 0 ∧
      t.num K.ageLastReplan = d.nat K.cellarOpMinutes ∧ t.clock = d.clock ∧ t.entries = d.entries := by
  have hsites (i : Nat) (hi : i < 32) : (d.planSites m).num (K.siteDegrade i) = if d.power.replans = [] then 0 else m.getD i 0 := by
    have h := setSites_num (fun s => (d.planDegs m).getD s 0) (List.range 32) d i
    rw [if_pos (List.mem_range.mpr hi), d.planDegs_getD m hi] at h
    exact h
  have hclock : (d.planSites m).clock = d.clock := clock_of_objects (d.planSites_frame m)
  have hattic : (d.planSites m).attic = d.attic := attic_of_objects (d.planSites_frame m)
  unfold Device.planSet
  dsimp only
  generalize d.planSites m = x at *
  generalize hl : planShown (d.planFloor m) trim used remain (worstSite (d.planDegs m) 0) (d.nat K.cellarOpMinutes) = l
  have hkeys : l.map Prod.fst = planKeys := by rw [← hl]; rfl
  have hdup : (l.map Prod.fst).Nodup := by rw [hkeys]; decide
  have hmem : (K.ageAvsFloor, min 850 (d.planFloor m : Int)) ∈ l ∧ (K.ageWorstSite, (worstSite (d.planDegs m) 0 : Int)) ∈ l ∧
      (K.ageLastReplan, (d.nat K.cellarOpMinutes : Int)) ∈ l := by
    rw [← hl]
    simp [planShown]
  obtain ⟨m1, m2, m3⟩ := hmem
  have n1 := x.num_setNums_of_mem hdup m1
  have n2 := x.num_setNums_of_mem hdup m2
  have n3 := x.num_setNums_of_mem hdup m3
  have hoff : ∀ i < 32, K.siteDegrade i ∉ planKeys ∧ K.siteDegrade i ≠ K.hoAgeingPrior := by decide
  have hkeep (i : Nat) (hi : i < 32) : (x.setNums l).num (K.siteDegrade i) = x.num (K.siteDegrade i) :=
    congrArg Val.int (x.setNums_val_ne l fun e he hk => (hoff i hi).1 (hkeys ▸ hk ▸ List.mem_map_of_mem he))
  have hc : (x.setNums l).clock = x.clock ∧ (x.setNums l).attic = x.attic := by
    have := x.beside_setNums (B := objBlank) (C := fun _ => true) l fun _ _ => rfl
    exact ⟨clock_of_objects this, attic_of_objects this⟩
  generalize x.setNums l = y at *
  obtain ⟨z, hz⟩ : ∃ z, (if d.hold.rates = [] then y else y.setNum K.hoAgeingPrior (d.hold.rates.sum / d.hold.rates.length)) = z := ⟨_, rfl⟩
  have hprior (k : Nat) (hk : k ≠ K.hoAgeingPrior) : z.num k = y.num k := by
    rw [← hz]
    split
    · rfl
    · exact congrArg Val.int (y.val_setVal_ne _ hk)
  have hzc : z.clock = y.clock ∧ z.attic = y.attic := by
    rw [← hz]
    split <;> exact ⟨rfl, rfl⟩
  rw [hz]
  have hlast : ∃ t : Device, (z.setHold (fun h => { h with rates := [] })).setPower (fun p => { p with replans := fit }) = t ∧
      (∀ k, t.num k = z.num k) ∧ t.clock = z.clock ∧ t.attic = z.attic := ⟨_, rfl, fun _ => rfl, rfl, rfl⟩
  obtain ⟨t, ht, htn, htc, hta⟩ := hlast
  rw [ht]
  refine ⟨fun i hi => ?_, ?_, ?_, ?_, htc.trans (hzc.1.trans (hc.1.trans hclock)),
    Device.entries_of_attic (hta.trans (hzc.2.trans (hc.2.trans hattic)))⟩
  · rw [htn, hprior _ (hoff i hi).2, hkeep i hi, hsites i hi]
  · rw [htn, hprior _ (by decide), n1]
  · rw [htn, hprior _ (by decide), n2]
  · rw [htn, hprior _ (by decide), n3]

/-- R541 to R543: a re-plan. -/
theorem Device.replan_obeys (m : List Int) (acked : Bool) : let t := d.replan m acked
    (∀ i < 32, t.num (K.siteDegrade i) = if d.power.replans = [] then 0 else m.getD i 0) ∧
      t.num K.ageAvsFloor = min 850 (d.planFloor m : Int) ∧ t.num K.ageWorstSite = worstSite (d.planDegs m) 0 ∧
      t.num K.ageLastReplan = d.nat K.cellarOpMinutes ∧ (d.clock.mtRun = false → t.clock = d.clock) ∧
      ∃ r ∈ newReports d t, r.1 = 0x0205 ∧ r.2.take 1 = [t.num K.ageAvsFloor] ∧ r.2.drop 3 = [t.num K.ageWorstSite] := by
  obtain ⟨s1, s2, s3, s4, s5, s6⟩ := d.planSet_frame m (d.planTrim m) (d.planUsed m) (d.planRemain m) (d.planFit m)
  have htold := (d.planSet m (d.planTrim m) (d.planUsed m) (d.planRemain m) (d.planFit m)).planTold_frame ((d.planSites m).nat K.ageLifeUsed) (d.planFloor m)
    (d.planTrim m) (d.planUsed m) (d.planRemain m) (worstSite (d.planDegs m) 0)
  obtain ⟨t1, t2, l, t3⟩ := htold
  rw [d.replan_eq m acked]
  rw [← Device.planned] at t1 t2 t3
  generalize d.planSet m (d.planTrim m) (d.planUsed m) (d.planRemain m) (d.planFit m) = x at s1 s2 s3 s4 s5 s6 t1 t2 t3
  generalize d.planned m = y at t1 t2 t3 ⊢
  obtain ⟨t, ht⟩ : ∃ t, (if y.clock.mtRun then y.avsRun acked 64 else y) = t := ⟨_, rfl⟩
  have hbeside : t.beside avsBlank avsKey = y.beside avsBlank avsKey := by
    rw [← ht]
    split
    · exact y.avs_avsRun acked 64
    · rfl
  have hattic : t.attic = y.attic := by
    rw [← ht]
    split
    · exact y.avsRun_attic acked 64
    · rfl
  have hnum {k : Nat} (hk : avsKey k = false) : t.num k = x.num k := (num_of_beside hbeside hk).trans (num_of_obj t1 k)
  have hsite : ∀ i < 32, avsKey (K.siteDegrade i) = false := by decide
  rw [ht]
  have hf : t.num K.ageAvsFloor = min 850 (d.planFloor m : Int) := (hnum (by decide)).trans s2
  have hw : t.num K.ageWorstSite = worstSite (d.planDegs m) 0 := (hnum (by decide)).trans s3
  refine ⟨fun i hi => (hnum (hsite i hi)).trans (s1 i hi), hf, hw, (hnum (by decide)).trans s4, fun hrun => ?_,
    (0x0205, [min 850 (d.planFloor m : Int), (d.planTrim m : Int), (d.planUsed m : Int), (worstSite (d.planDegs m) 0 : Int)]), ?_, rfl, ?_, ?_⟩
  · have hy : ¬ y.clock.mtRun = true := by rw [t2, s5, hrun]; exact Bool.false_ne_true
    rw [← ht, if_neg hy, t2, s5]
  · rw [newReports_of_entries ((Device.entries_of_attic hattic).trans (t3.trans (congrArg (· ++ _) s6)))]
    exact List.mem_cons_self
  · rw [hf]
    rfl
  · rw [hw]
    rfl

/-- R540 to R542: the worst site and the floor that a re-plan publishes. -/
theorem Device.replan_bounds (m : List Int) (acked : Bool) (h : ∀ i, i < 32 → 0 < Config.siteLimit i) : let t := d.replan m acked
    let deg := fun i => if d.power.replans = [] then (0 : Int) else m.getD i 0
    (∀ i < 32, deg i * Config.siteLimit (t.nat K.ageWorstSite) ≤ deg (t.nat K.ageWorstSite) * Config.siteLimit i) ∧
      ∀ i, 24 ≤ i → i < 32 → t.nat K.ageAvsFloor < 850 →
        (650 + (d.nat K.ageAvsMargin : Int)) * Config.siteLimit i + 150 * deg i ≤ (t.nat K.ageAvsFloor : Int) * Config.siteLimit i := by
  obtain ⟨-, r2, r3, -⟩ := d.replan_obeys m acked
  intro t deg
  have hworst : t.nat K.ageWorstSite = worstSite (d.planDegs m) 0 := (congrArg Int.toNat r3).trans (Int.toNat_natCast _)
  have hfloor : t.nat K.ageAvsFloor = min 850 (d.planFloor m) := (congrArg Int.toNat r2).trans (by omega)
  have hget (i : Nat) (hi : i < 32) : deg i = (d.planDegs m).getD i 0 := (d.planDegs_getD m hi).symm
  have hw : worstSite (d.planDegs m) 0 < 32 := worstSite_lt _ (by decide)
  have hc : worstSite (d.planDegs m) 24 < 32 := worstSite_lt _ (by decide)
  refine ⟨fun i hi => ?_, fun i h1 h2 hlt => ?_⟩
  · rw [hworst, hget i hi, hget _ hw]
    exact worstSite_worse (by decide) h (Nat.zero_le i) hi
  · have hcov := avsFloor_covers (d.nat K.ageAvsMargin) ((d.planDegs m).getD (worstSite (d.planDegs m) 24) 0) _ (h _ hc)
    have hle : avsFloor (d.nat K.ageAvsMargin) ((d.planDegs m).getD (worstSite (d.planDegs m) 24) 0) (Config.siteLimit (worstSite (d.planDegs m) 24)) ≤
        t.nat K.ageAvsFloor := by
      have hasked : d.planFloor m = max (d.nat K.ageAvsFloor) (avsFloor (d.nat K.ageAvsMargin) ((d.planDegs m).getD (worstSite (d.planDegs m) 24) 0)
        (Config.siteLimit (worstSite (d.planDegs m) 24))) := rfl
      omega
    have hmore : worseThan (d.planDegs m) (worstSite (d.planDegs m) 24) i := worstSite_worse (by decide) h h1 h2
    have hpc := h _ hc
    have hpi := h i h2
    rw [hget i h2]
    unfold worseThan at hmore
    generalize worstSite (d.planDegs m) 24 = c at *
    generalize avsFloor (d.nat K.ageAvsMargin) ((d.planDegs m).getD c 0) (Config.siteLimit c) = a at *
    generalize (d.planDegs m).getD c 0 = gc at *
    generalize (d.planDegs m).getD i 0 = gi at *
    generalize Config.siteLimit c = lc at *
    generalize Config.siteLimit i = li at *
    generalize t.nat K.ageAvsFloor = f at *
    generalize d.nat K.ageAvsMargin = g at *
    have hfa : (a : Int) ≤ f := by exact_mod_cast hle
    refine le_of_mul_le_mul_right ?_ hpc
    calc ((650 + (g : Int)) * li + 150 * gi) * lc = (650 + (g : Int)) * lc * li + 150 * (gi * lc) := by ring
      _ ≤ (650 + (g : Int)) * lc * li + 150 * (gc * li) := by linarith
      _ = ((650 + (g : Int)) * lc + 150 * gc) * li := by ring
      _ ≤ (a * lc) * li := mul_le_mul_of_nonneg_right hcov hpi.le
      _ = a * (lc * li) := by ring
      _ ≤ f * (lc * li) := mul_le_mul_of_nonneg_right hfa (mul_nonneg hpc.le hpi.le)
      _ = f * li * lc := by ring

end

theorem ageReplanNow_row : dictFind (K.ageReplanNow / 256) (K.ageReplanNow % 256)
    = some ⟨0x2020, 0x2020, 0x02, 0x02, .uns 1, .wo, .num 0, .span 1 1, 0⟩ := rfl

/-- AGE_REPLAN_NOW. -/
theorem State.ageReplanNow_written (s : State) (h : HapHdr) (hw : s.writes h K.ageReplanNow [1]) :
    exec (.ageReplanNow h [1]) s = .next (s.wrote h K.ageReplanNow [1] ((s.asWritten h K.ageReplanNow [1]).replan h.env.degrade h.env.acked).done) :=
  congrArg Host.Outcome.next (s.lowCommand_written h hw ageReplanNow_row rfl (by decide) (by decide) rfl (by decide)
    fun a _ he => by rw [← he]; rfl)

end Sys2Proof.Machine
end

section
/-! Chapter 20: O58. -/

namespace Sys2Proof.Machine

/-- Settles O58: `Power.nextStep_first` gives the order of the steps, `Device.stepStart_spaced` their distance; a grant and the end of a commit leave
the sequencer alone (`Device.grant_grantPort`); the worst site is the top of a fold (`worstAmong_worse`); the set point's way is an induction over the
writes that remain (`Device.avsRun_reaches`). -/
theorem stepsSuppliesAndMargins : Obligations.StepsSuppliesAndMargins := by
  refine ⟨fun s => ⟨fun h => ?_, fun g rest h hne hlate hs hr => ?_, fun x hx hg => ⟨Power.nextStep_first hx, ?_⟩⟩,
    fun s => ⟨fun h => ?_, fun g rest h hs hr => ?_⟩, fun s => ?_, fun d m acked => ?_,
    fun s m acked => ⟨fun h => ?_, fun hup hawake hdue => ?_⟩, fun s h hw => s.ageReplanNow_written h hw,
    fun s => ⟨fun h acked => ?_, fun t0 h => ⟨?_, fun h1 h2 h3 h4 => ?_⟩⟩, fun s mv he => ?_, fun s rail mv => ?_⟩
  · rw [exec_sequencerStepStart]
    exact congrArg (fun d => Host.Outcome.next { s with dev := d }) (s.dev.sequencerStep_idle h)
  · rw [exec_sequencerStepStart, exec_sequencerStepStart]
    exact congrArg (fun d => Host.Outcome.next { s with dev := d }) (s.dev.sequencerStep_late h hne hlate hs hr)
  · obtain ⟨t1, t2, t3, t4, t5⟩ := s.dev.sequencerStep_obeys hx hg
    have hexec : exec .sequencerStepStart s = .next { s with dev := s.dev.sequencerStep } := rfl
    generalize s.dev.sequencerStep = t at *
    refine ⟨_, hexec, rfl, t1, t2, t3, fun start ramp hl => ?_, t4, t5⟩
    obtain ⟨h1, h2⟩ := s.dev.stepStart_spaced hl
    rw [t3]
    exact ⟨le_max_of_le_right h1, le_max_of_le_right h2⟩
  · rw [exec_powerUpGrantTimeout]
    exact congrArg (fun d => Host.Outcome.next { s with dev := d }) (s.dev.grantTimeout_idle h)
  · have hobeys := s.dev.grantTimeout_obeys h hs hr
    have hexec : exec .powerUpGrantTimeout s = .next { s with dev := s.dev.grantTimeout } := rfl
    generalize s.dev.grantTimeout = t at *
    obtain ⟨t1, t2, t3, t4, t5, t6, t7⟩ := hobeys
    exact ⟨_, hexec, rfl, t1, t2, t3, t4, t5, t6, t7⟩
  · refine ⟨fun h => ?_, fun hc hg hf hl hr => ?_⟩
    · rw [exec_portPowerRecommit]
      exact congrArg (fun d => Host.Outcome.next { s with dev := d }) (s.dev.portRecommit_idle h)
    · obtain ⟨t1, t2⟩ := s.dev.portRecommit_obeys hc hg hf hl hr
      have hexec : exec .portPowerRecommit s = .next { s with dev := s.dev.portRecommit } := rfl
      generalize s.dev.portRecommit = t at *
      obtain ⟨g, t2, t3, t4, t5⟩ := t2
      exact ⟨_, g, hexec, rfl, t1, t2, t3, t4, t5⟩
  · intro first deg t
    obtain ⟨r1, r2, r3, r4, r5, r6⟩ := d.replan_obeys m acked
    have hb := d.replan_bounds m acked
    have hworst : t.nat K.ageWorstSite = worstSite (d.planDegs m) 0 := (congrArg Int.toNat r3).trans (Int.toNat_natCast _)
    have hfloor : t.nat K.ageAvsFloor = min 850 (d.planFloor m) := (congrArg Int.toNat r2).trans (by omega)
    have hasked : d.nat K.ageAvsFloor ≤ d.planFloor m := le_max_left _ _
    refine ⟨r1, (congrArg Int.toNat r4).trans (Int.toNat_natCast _), r5, hworst ▸ worstSite_lt _ (by decide), fun hpos => (hb hpos).1,
      fun hle => ⟨?_, ?_, fun hpos i h1 h2 _ hlt => (hb hpos).2 i h1 h2 hlt⟩, r6⟩ <;> omega
  · rw [exec_marginReplan]
    refine congrArg (fun d => Host.Outcome.next { s with dev := d }) (if_pos ?_)
    simp only [Bool.or_eq_true, Bool.not_eq_true', decide_eq_true_eq]
    tauto
  · rw [exec_marginReplan]
    refine congrArg (fun d => Host.Outcome.next { s with dev := d }) (if_neg ?_)
    simp only [hup, hawake, Bool.not_true, Bool.false_or, decide_eq_true_eq]
    omega
  · rw [exec_avsWriteRetry]
    exact congrArg (fun d => Host.Outcome.next { s with dev := d }) (s.dev.avsWriteRetry_idle acked h)
  · rw [exec_avsWriteRetry]
    exact congrArg (fun d => Host.Outcome.next { s with dev := d }) (s.dev.avsWriteRetry_unacked h)
  · have hobeys := s.dev.avsWriteRetry_acked h h1 h2 h3 h4
    have hexec : exec (.avsWriteRetry true) s = .next { s with dev := s.dev.avsWriteRetry true } := rfl
    generalize s.dev.avsWriteRetry true = t at *
    obtain ⟨t1, t2, t3, t4, t5⟩ := hobeys
    exact ⟨_, hexec, rfl, t1, t2, t3, t4, t5⟩
  · have hobeys := s.dev.vbatLevel_obeys mv he
    have hexec : exec (.vbatLow mv) s = .next { s with dev := s.dev.vbatLevel mv } := rfl
    generalize s.dev.vbatLevel mv = t at *
    obtain ⟨t1, t2, t3, t4, t5⟩ := hobeys
    exact ⟨_, hexec, rfl, t1, t2, t3, t4, t5⟩
  · refine ⟨fun h => ?_, fun h1 h7 hw hc => ?_⟩
    · rw [exec_railFault]
      exact congrArg (fun d => Host.Outcome.next { s with dev := d }) (s.dev.railFault_idle h)
    · have hobeys := s.dev.railFault_obeys h1 h7 hw hc
      have hexec : exec (.railFault rail mv) s = .next { s with dev := s.dev.railFault rail mv } := rfl
      generalize s.dev.railFault rail mv = t at *
      obtain ⟨t1, t2, t3, t4⟩ := hobeys
      exact ⟨_, hexec, rfl, t1, t2, t3, t4⟩

end Sys2Proof.Machine
end

section
/-! Chapter 20: wakes and aborted entries (R529 to R531, R538). -/

namespace Sys2Proof.Machine

theorem exec_wake (s : State) (src port : Nat) : exec (.wake src port) s = .next (s.on (·.wake src port)) := rfl
theorem exec_wakeInPin (s : State) (pin : Nat) (level : Bool) : exec (.wakeInPin pin level) s = .next (s.on (·.wakeIn pin level)) := rfl
theorem exec_cellarAlarm (s : State) : exec .cellarAlarm s = .next (s.on (·.cellarAlarm)) := rfl

section
variable (d : Device)

theorem Device.setFbState_self (st : Nat) : (d.setFbState st).nat K.fbState = st := by
  unfold Device.setFbState
  split
  · assumption
  · exact (Device.nat_setNum_self _ _ _).trans (Int.toNat_natCast _)

theorem Device.setFbState_val (st : Nat) {k : Nat} (hk : k ≠ K.fbState) : (d.setFbState st).val k = d.val k := by
  unfold Device.setFbState
  split
  · rfl
  · exact Device.val_setVal_ne _ _ hk

theorem Device.setFbState_same (st : Nat) : (d.setFbState st).clock = d.clock ∧ (d.setFbState st).power = d.power ∧ (d.setFbState st).foyer = d.foyer ∧
    (d.setFbState st).cellar = d.cellar ∧ (d.setFbState st).ports = d.ports := by
  unfold Device.setFbState
  split <;> exact ⟨rfl, rfl, rfl, rfl, rfl⟩

/-! ## A wake that begins (R531) -/

/-- The objects of a sequencer's step that waits. -/
def queueKeys : List Nat := [K.fbSeqQueue, K.fbSeqPeak]

/-- What a step that joins the sequencer's queue leaves. -/
structure Device.Queued (d t : Device) (kinds : List Nat) : Prop where
  steps : t.power.steps.map (·.kind) = d.power.steps.map (·.kind) ++ kinds
  power : { t.power with steps := [] } = { d.power with steps := [] }
  clock : t.clock = d.clock
  cellar : t.cellar = d.cellar
  val : ∀ k, k ∉ queueKeys → t.val k = d.val k

theorem Device.queued_queueStep (kind : Nat) (exit : Bool) : d.Queued (d.queueStep kind exit) [kind] := by
  have hval (k : Nat) (hk : k ∉ queueKeys) (x y : Int) : ((d.setNum K.fbSeqQueue x).setNum K.fbSeqPeak y).val k = d.val k := by
    simp only [queueKeys, List.mem_cons, List.not_mem_nil, or_false, not_or] at hk
    exact (Device.val_setVal_ne _ _ hk.2).trans (Device.val_setVal_ne _ _ hk.1)
  unfold Device.queueStep
  dsimp only
  split <;> exact ⟨List.map_append, rfl, rfl, rfl, fun k hk => hval k hk _ _⟩

theorem Device.queued_steps (l : List Nat) (exit : Bool) : d.Queued (l.foldl (fun x k => x.queueStep k exit) d) l := by
  induction l generalizing d with
  | nil => exact ⟨(List.append_nil _).symm, rfl, rfl, rfl, fun _ _ => rfl⟩
  | cons k l ih =>
    have h1 := d.queued_queueStep k exit
    have h2 := ih (d.queueStep k exit)
    refine ⟨?_, h2.power.trans h1.power, h2.clock.trans h1.clock, h2.cellar.trans h1.cellar, fun j hj => (h2.val j hj).trans (h1.val j hj)⟩
    rw [List.foldl_cons, h2.steps, h1.steps, List.append_assoc]
    rfl

/-- R530, R531: the part as a wake begins with its cause noted, before its steps. -/
def Device.wakeNoted (d : Device) (cause port : Nat) : Device :=
  let d1 := ((d.setNum K.fbWakeCause cause).setNum K.fbWakePort port).bump K.fbWakes
  let d2 := d1.setPower (fun p => { p with waking := some d.clock.ticks, held := if p.held = 4 then 5 else p.held })
  d2.setCellar (fun c => { c with alarmFrom := none })

theorem Device.wakeNoted_frame (cause port : Nat) : let t := d.wakeNoted cause port
    t.nat K.fbWakeCause = cause ∧ t.nat K.fbWakePort = port ∧ (d.nat K.fbWakes < 2 ^ 32 - 1 → t.nat K.fbWakes = d.nat K.fbWakes + 1) ∧
      t.clock = d.clock ∧ t.cellar.alarmFrom = none ∧
      t.power = { d.power with waking := some d.clock.ticks, held := if d.power.held = 4 then 5 else d.power.held } ∧
      ∀ k, k ≠ K.fbWakeCause → k ≠ K.fbWakePort → k ≠ K.fbWakes → t.val k = d.val k := by
  have hshow (k : Nat) : (d.wakeNoted cause port).val k = (((d.setNum K.fbWakeCause cause).setNum K.fbWakePort port).bump K.fbWakes).val k := rfl
  have hsame : (d.wakeNoted cause port).clock = d.clock ∧ (d.wakeNoted cause port).cellar.alarmFrom = none ∧ (d.wakeNoted cause port).power =
      { d.power with waking := some d.clock.ticks, held := if d.power.held = 4 then 5 else d.power.held } := ⟨rfl, rfl, rfl⟩
  obtain ⟨hc, ha, hp⟩ := hsame
  generalize d.wakeNoted cause port = t at *
  have h1 (k : Nat) (hk : k ≠ K.fbWakeCause) : (d.setNum K.fbWakeCause cause).val k = d.val k := d.val_setVal_ne _ hk
  have n1 : (d.setNum K.fbWakeCause cause).nat K.fbWakeCause = cause := (Device.nat_setNum_self _ _ _).trans (Int.toNat_natCast _)
  generalize d.setNum K.fbWakeCause cause = x at *
  have h2 (k : Nat) (hk : k ≠ K.fbWakePort) : (x.setNum K.fbWakePort port).val k = x.val k := x.val_setVal_ne _ hk
  have n2 : (x.setNum K.fbWakePort port).nat K.fbWakePort = port := (Device.nat_setNum_self _ _ _).trans (Int.toNat_natCast _)
  generalize x.setNum K.fbWakePort port = y at *
  have h3 (k : Nat) (hk : k ≠ K.fbWakes) : (y.bump K.fbWakes).val k = y.val k := y.val_setVal_ne _ hk
  have n3 (h : y.nat K.fbWakes < 2 ^ 32 - 1) : (y.bump K.fbWakes).nat K.fbWakes = y.nat K.fbWakes + 1 := y.nat_bumpBy 4 _ 1 (Nat.add_lt_of_lt_sub h)
  generalize y.bump K.fbWakes = z at *
  have hn {a b : Device} {k : Nat} (h : a.val k = b.val k) : a.nat k = b.nat k := congrArg (fun v => v.int.toNat) h
  have hw : y.nat K.fbWakes = d.nat K.fbWakes := hn ((h2 _ (by decide)).trans (h1 _ (by decide)))
  refine ⟨?_, ?_, fun h => ?_, hc, ha, hp, fun k k1 k2 k3 => (hshow k).trans ((h3 k k3).trans ((h2 k k2).trans (h1 k k1)))⟩
  · exact (hn ((hshow _).trans ((h3 _ (by decide)).trans (h2 _ (by decide))))).trans n1
  · exact (hn ((hshow _).trans (h3 _ (by decide)))).trans n2
  · exact (hn (hshow _)).trans ((n3 (hw ▸ h)).trans (congrArg (· + 1) hw))

theorem Device.wakeBegin_eq {src port : Nat} (h : d.power.waking = none) : d.wakeBegin (some src) port =
    if d.nat K.fbState = 4 then d.wakeNoted (setBit 0 src true) port
    else (exitSteps (d.nat K.fbState)).foldl (fun x k => x.queueStep k true) (d.wakeNoted (setBit 0 src true) port) := by
  unfold Device.wakeBegin
  dsimp only
  rw [h]
  exact if_neg Bool.false_ne_true

/-- R530, R531: a wake begins with its cause, its port and the steps of the exit. -/
theorem Device.wakeBegin_obeys {src port : Nat} (h : d.power.waking = none) : let t := d.wakeBegin (some src) port
    t.nat K.fbWakeCause = setBit 0 src true ∧ t.nat K.fbWakePort = port ∧ (d.nat K.fbWakes < 2 ^ 32 - 1 → t.nat K.fbWakes = d.nat K.fbWakes + 1) ∧
      t.clock = d.clock ∧ t.cellar.alarmFrom = none ∧ t.nat K.fbState = d.nat K.fbState ∧ t.power.waking = some d.clock.ticks ∧
      t.power.held = (if d.power.held = 4 then 5 else d.power.held) ∧
      t.power.steps.map (·.kind) = d.power.steps.map (·.kind) ++ (if d.nat K.fbState = 4 then [] else exitSteps (d.nat K.fbState)) := by
  rw [d.wakeBegin_eq h]
  obtain ⟨w1, w2, w3, w4, w5, w6, w7⟩ := d.wakeNoted_frame (setBit 0 src true) port
  generalize d.wakeNoted (setBit 0 src true) port = x at *
  have hstate : x.nat K.fbState = d.nat K.fbState := congrArg (fun v => v.int.toNat) (w7 _ (by decide) (by decide) (by decide))
  have hsteps : x.power.steps = d.power.steps := by rw [w6]
  split
  · exact ⟨w1, w2, w3, w4, w5, hstate, by rw [w6], by rw [w6], by rw [hsteps, List.append_nil]⟩
  · have hq := x.queued_steps (exitSteps (d.nat K.fbState)) true
    generalize (exitSteps (d.nat K.fbState)).foldl (fun x k => x.queueStep k true) x = t at hq ⊢
    have hn {k : Nat} (hk : k ∉ queueKeys) : t.nat k = x.nat k := congrArg (fun v => v.int.toNat) (hq.val k hk)
    have hwaking := congrArg Power.waking hq.power
    have hheld := congrArg Power.held hq.power
    refine ⟨(hn (by decide)).trans w1, (hn (by decide)).trans w2, fun h => (hn (by decide)).trans (w3 h), hq.clock.trans w4,
      (congrArg Cellar.alarmFrom hq.cellar).trans w5, (hn (by decide)).trans hstate, ?_, ?_, ?_⟩
    · exact hwaking.trans (by rw [w6])
    · exact hheld.trans (by rw [w6])
    · rw [hq.steps, hsteps]

/-! ## An entry that is aborted (R529) -/

/-- The objects of the batch that opens. -/
def openKeys : List Nat := [K.ledgerKeyId, K.ledgerReleaseDelay, K.ledgerPubkey]

def openKey (k : Nat) : Bool := k ∈ openKeys

theorem Device.openBatch_frame : d.openBatch.beside laneBlank openKey = d.beside laneBlank openKey := by
  have hset (x : Device) (a b : Int) : (x.setNums [(K.ledgerKeyId, a), (K.ledgerReleaseDelay, b)]).beside laneBlank openKey = x.beside laneBlank openKey :=
    x.beside_setNums _ (by simp only [List.forall_mem_cons]; exact ⟨by decide, by decide, by simp⟩)
  have hoct (x : Device) (b : Bytes) : (x.setOct K.ledgerPubkey b).beside laneBlank openKey = x.beside laneBlank openKey := x.beside_setOct b (by decide)
  have hled (x : Device) (g : Ledger → Ledger) : (x.setLedger g).beside laneBlank openKey = x.beside laneBlank openKey := rfl
  have hrep (x : Device) (code : Nat) (p : List Int) : (x.report code p).beside laneBlank openKey = x.beside laneBlank openKey := rfl
  rw [Device.openBatch]
  simp only [hled, hoct, hset, apply_ite (Device.beside laneBlank openKey), hrep, ite_self]

theorem power_of_lanes {d e : Device} {C : Nat → Bool} (h : e.beside laneBlank C = d.beside laneBlank C) : e.power = d.power :=
  congrArg (fun x => x.1.power) h

theorem clock_of_lanes {d e : Device} {C : Nat → Bool} (h : e.beside laneBlank C = d.beside laneBlank C) : e.clock = d.clock :=
  congrArg (fun x => x.1.clock) h

/-- The part with an entry's steps reversed, before its record. -/
def Device.entryUndone (d : Device) (cause : Nat) : Device :=
  let d1 := (d.setNum K.parAdmitStopped 0).report 0x0A03 [0, d.num K.fbState]
  ((d1.setPower (fun p => { p with entry := none, idleFrom := if cause = 3 then p.idleFrom else d.clock.ticks })).setFbState 0).bump K.fbEntryAborts

theorem Device.entryUndone_obeys (cause : Nat) (hc : cause ≠ 3) (hn : d.nat K.fbEntryAborts < 2 ^ 32 - 1) : let t := d.entryUndone cause
    t.power.entry = none ∧ t.nat K.fbState = 0 ∧ t.nat K.parAdmitStopped = 0 ∧ t.nat K.fbEntryAborts = d.nat K.fbEntryAborts + 1 ∧
      t.power.idleFrom = d.clock.ticks ∧ d.Adds t := by
  obtain ⟨x, hx⟩ : ∃ x, ((d.setNum K.parAdmitStopped 0).report 0x0A03 [0, d.num K.fbState]).setPower
    (fun p => { p with entry := none, idleFrom := if cause = 3 then p.idleFrom else d.clock.ticks }) = x := ⟨_, rfl⟩
  have hval (k : Nat) : x.val k = (d.setNum K.parAdmitStopped 0).val k := by rw [← hx]; rfl
  have hpower : x.power.entry = none ∧ x.power.idleFrom = d.clock.ticks := by
    rw [← hx]
    exact ⟨rfl, if_neg hc⟩
  have hadds : d.Adds x := by
    rw [← hx]
    exact (Device.adds_of_attic (Device.setNum_attic _ _ _)).trans ((Device.adds_report _ _ _).trans (Device.adds_of_attic (Device.setPower_attic _ _)))
  have hadm : x.nat K.parAdmitStopped = 0 := (congrArg (fun v => v.int.toNat) (hval _)).trans (Device.nat_setNum_self _ _ _)
  have hcount : x.nat K.fbEntryAborts = d.nat K.fbEntryAborts :=
    congrArg (fun v => v.int.toNat) ((hval _).trans (d.val_setVal_ne (k := K.parAdmitStopped) (j := K.fbEntryAborts) _ (by decide)))
  have heq : d.entryUndone cause = (x.setFbState 0).bump K.fbEntryAborts := by rw [← hx]; rfl
  rw [heq]
  have f1 := x.setFbState_self 0
  have f2 (k : Nat) (hk : k ≠ K.fbState) := x.setFbState_val 0 hk
  obtain ⟨-, f3, -⟩ := x.setFbState_same 0
  have f4 := hadds.trans (x.adds_setFbState 0)
  generalize x.setFbState 0 = y at *
  have hn2 {a b : Device} {k : Nat} (h : a.val k = b.val k) : a.nat k = b.nat k := congrArg (fun v => v.int.toNat) h
  have hb (k : Nat) (hk : k ≠ K.fbEntryAborts) : (y.bump K.fbEntryAborts).val k = y.val k := y.val_setVal_ne _ hk
  have hy : y.nat K.fbEntryAborts = d.nat K.fbEntryAborts := (hn2 (f2 _ (by decide))).trans hcount
  have hb1 : (y.bump K.fbEntryAborts).nat K.fbEntryAborts = y.nat K.fbEntryAborts + 1 := y.nat_bumpBy 4 _ 1 (Nat.add_lt_of_lt_sub (hy ▸ hn))
  have hp : (y.bump K.fbEntryAborts).power = x.power := (Device.bump_power _ _).trans f3
  refine ⟨by rw [hp]; exact hpower.1, (hn2 (hb _ (by decide))).trans f1, ?_, by rw [hb1, hy], by rw [hp]; exact hpower.2,
    f4.trans (Device.adds_of_attic (Device.bump_attic _ _))⟩
  exact (hn2 ((hb _ (by decide)).trans (f2 _ (by decide)))).trans hadm

theorem Device.abortEntry_obeys (cause : Nat) {target step : Nat} (he : d.power.entry = some (target, step)) (hc : cause ≠ 3)
    (hn : d.nat K.fbEntryAborts < 2 ^ 32 - 1) : let t := d.abortEntry cause
    t.power.entry = none ∧ t.nat K.fbState = 0 ∧ t.nat K.parAdmitStopped = 0 ∧ t.nat K.fbEntryAborts = d.nat K.fbEntryAborts + 1 ∧
      t.power.idleFrom = d.clock.ticks ∧ (0x0203, [(target : Int), (step : Int), (cause : Int)]) ∈ newReports d t := by
  obtain ⟨x, hx⟩ : ∃ x, (d.entryUndone cause).report 0x0203 [target, step, cause] = x := ⟨_, rfl⟩
  have heq : d.abortEntry cause = if x.ledger.begun && !x.ledger.batches.any (fun b => b.state = 0) then x.openBatch else x := by
    rw [Device.abortEntry, he, ← hx]
    rfl
  obtain ⟨u1, u2, u3, u4, u5, l, u6⟩ := d.entryUndone_obeys cause hc hn
  have hval (k : Nat) : x.nat k = (d.entryUndone cause).nat k := by rw [← hx]; rfl
  have hpow : x.power = (d.entryUndone cause).power := by rw [← hx]; rfl
  have hent : x.entries = d.entries ++ (l ++ [(0x0203, [(target : Int), (step : Int), (cause : Int)])]) := by
    rw [← hx, Device.entries_report, ← u6, List.append_assoc]
  generalize d.entryUndone cause = y at *
  obtain ⟨t, ht⟩ : ∃ t, d.abortEntry cause = t := ⟨_, rfl⟩
  have hframe : t.beside laneBlank openKey = x.beside laneBlank openKey ∧ x.Adds t := by
    rw [← ht, heq]
    split
    · exact ⟨x.openBatch_frame, x.adds_openBatch⟩
    · exact ⟨rfl, x.adds_refl⟩
  obtain ⟨hb, m, hm⟩ := hframe
  have hp : t.power = y.power := (power_of_lanes hb).trans hpow
  rw [ht]
  refine ⟨by rw [hp, u1], ?_, ?_, ?_, by rw [hp, u5], ?_⟩
  · exact (nat_of_beside hb (by decide)).trans ((hval _).trans u2)
  · exact (nat_of_beside hb (by decide)).trans ((hval _).trans u3)
  · exact (nat_of_beside hb (by decide)).trans ((hval _).trans u4)
  · rw [newReports_of_entries (l := (l ++ [(0x0203, [(target : Int), (step : Int), (cause : Int)])]) ++ m) (by rw [← hm, hent, List.append_assoc])]
    simp

/-! ## The sources (R530, R531, R538) -/

/-- Which source the wake mask lets wake the part. -/
def maskBit (src : Nat) : Nat := if src = 4 then 2 else if src = 5 then 3 else src

/-- What a source of WAKE takes to fire. -/
def Device.wakeFires (d : Device) (src port : Nat) : Prop :=
  (src = 0 ∧ 4 ≤ port ∧ port < 48 ∧ d.link (port - 4) = 4) ∨ (src = 1 ∧ d.canHap port = true) ∨ (src = 4 ∧ d.nat K.mtState = 5) ∨
    (src = 5 ∧ d.nat K.khTamper ≠ 0)

/-- A source that fires is one of four. -/
theorem Device.wakeFires_src {src port : Nat} (h : d.wakeFires src port) : src = 0 ∨ src = 1 ∨ src = 4 ∨ src = 5 := by
  unfold Device.wakeFires at h
  tauto

theorem Device.wake_of_fires {src port : Nat} (h : d.wakeFires src port) : d.wake src port = d.fbWake src (if src < 2 then port else 0xFF) := by
  unfold Device.wake
  refine (if_neg ?_).trans (if_neg ?_)
  · simp only [Bool.or_eq_true, Bool.and_eq_true, decide_eq_true_eq]
    unfold Device.wakeFires at h
    rintro (((⟨rfl, hno⟩ | ⟨rfl, hno⟩) | rfl) | rfl) <;> simp_all
  · simp only [Bool.or_eq_true, Bool.and_eq_true, decide_eq_true_eq, Bool.not_eq_true']
    unfold Device.wakeFires at h
    rintro (⟨rfl, hno⟩ | ⟨rfl, hno⟩)
    · obtain ⟨-, h1, h2, h3⟩ := h.resolve_right (by simp)
      rcases hno with (hno | hno) | hno
      · omega
      · omega
      · exact hno h3
    · rcases h with ⟨hc, -⟩ | ⟨-, hc⟩ | ⟨hc, -⟩ | ⟨hc, -⟩
      · omega
      · exact Bool.false_ne_true (hno.symm.trans hc)
      · omega
      · omega

/-- A source that is not allowed in the state wakes nothing. -/
theorem Device.fbWake_idle {src port : Nat} (h : ∀ st, d.wakeAllowed src st = false) : d.fbWake src port = d := by
  unfold Device.fbWake
  split
  · rw [if_neg (by rw [h]; exact Bool.false_ne_true)]
  · simp only [h, Bool.and_false, Bool.or_self, Bool.false_eq_true, if_false]

theorem Device.wake_idle {src port : Nat} (h : ¬ d.wakeFires src port ∨ bit (d.nat K.fbWakeMask) (maskBit src) = false) : d.wake src port = d := by
  by_cases hf : d.wakeFires src port
  · have hb := h.resolve_left (not_not.mpr hf)
    rw [d.wake_of_fires hf]
    refine d.fbWake_idle fun st => ?_
    rcases d.wakeFires_src hf with rfl | rfl | rfl | rfl <;> simp only [Device.wakeAllowed, maskBit] at hb ⊢ <;> simp_all
  · unfold Device.wake
    by_cases h1 : ((src = 4 && d.nat K.mtState ≠ 5) || (src = 5 && d.nat K.khTamper = 0) || src = 3 || src = 2) = true
    · exact if_pos h1
    · refine (if_neg h1).trans ?_
      by_cases h2 : ((src = 0 && (port < 4 || 48 ≤ port || d.link (port - 4) ≠ 4)) || (src = 1 && !d.canHap port)) = true
      · exact if_pos h2
      · refine (if_neg h2).trans (d.fbWake_idle fun st => ?_)
        have hbig : 6 ≤ src := by
          refine Nat.le_of_not_lt fun hlt => hf ?_
          simp only [Bool.or_eq_true, Bool.and_eq_true, decide_eq_true_eq, Bool.not_eq_true', not_or, not_and, Bool.not_eq_false] at h1 h2
          unfold Device.wakeFires
          interval_cases src
          · have := h2.1 rfl
            refine .inl ⟨rfl, by omega, by omega, ?_⟩
            exact not_not.mp this.2
          · exact .inr (.inl ⟨rfl, h2.2 rfl⟩)
          · exact absurd rfl h1.2
          · exact absurd rfl h1.1.2
          · exact .inr (.inr (.inl ⟨rfl, not_not.mp (h1.1.1.1 rfl)⟩))
          · exact .inr (.inr (.inr ⟨rfl, h1.1.1.2 rfl⟩))
        obtain ⟨k, rfl⟩ := Nat.exists_eq_add_of_le' hbig
        rfl

end

end Sys2Proof.Machine
end

section
/-! Chapter 20: the tolerance, the sources' commands and the idle time (R525 to R531, R538). -/

namespace Sys2Proof.Machine

theorem exec_idleTimeExpiry (s : State) : exec .idleTimeExpiry s = .next (s.on (·.idleExpiry)) := rfl

section
variable (d : Device)

/-! ## Sources -/

theorem exitSteps_two : exitSteps 2 = [3, 3] := rfl
theorem exitSteps_three : exitSteps 3 = [1, 2, 2, 2, 2, 3, 3] := rfl

theorem Device.fbWake_asleep {src port : Nat} (he : d.power.entry = none) (ha : d.asleep = true) (hw : d.wakeAllowed src (d.nat K.fbState) = true) :
    d.fbWake src port = d.wakeBegin (some src) port := by
  unfold Device.fbWake
  rw [he]
  exact if_pos (by rw [ha, hw]; rfl)

theorem Device.fbWake_entering {src port target step : Nat} (he : d.power.entry = some (target, step)) (hw : d.wakeAllowed src target = true) :
    d.fbWake src port = d.abortEntry 1 := by
  unfold Device.fbWake
  rw [he]
  exact if_pos hw

/-- An enabled source is allowed to wake from Doze and Park. -/
theorem Device.wakeAllowed_light {src port st : Nat} (hf : d.wakeFires src port) (hb : bit (d.nat K.fbWakeMask) (maskBit src) = true)
    (hst : st = 2 ∨ st = 3) : d.wakeAllowed src st = true := by
  have hlight : (st = 2 || st = 3) = true := by simpa using hst
  rcases d.wakeFires_src hf with rfl | rfl | rfl | rfl <;> simp only [Device.wakeAllowed, maskBit] at hb ⊢ <;> simp_all

theorem Device.asleep_of {st : Nat} (h : d.nat K.fbState = st) (h2 : 2 ≤ st) : d.asleep = true := decide_eq_true (h ▸ h2)

/-- WAKE from Doze or Park. -/
theorem Device.wake_begins {src port : Nat} (hf : d.wakeFires src port) (hb : bit (d.nat K.fbWakeMask) (maskBit src) = true) (he : d.power.entry = none)
    (hst : d.nat K.fbState = 2 ∨ d.nat K.fbState = 3) (hw : d.power.waking = none) (hn : d.nat K.fbWakes < 2 ^ 32 - 1) : let t := d.wake src port
    t.clock = d.clock ∧ t.nat K.fbWakeCause = 2 ^ src ∧ t.nat K.fbWakePort = (if src < 2 then port else 0xFF) ∧ t.nat K.fbWakes = d.nat K.fbWakes + 1 ∧
      t.nat K.fbState = d.nat K.fbState ∧ t.power.waking = some d.clock.ticks ∧
      t.power.steps.map (·.kind) = d.power.steps.map (·.kind) ++ (if d.nat K.fbState = 2 then [3, 3] else [1, 2, 2, 2, 2, 3, 3]) := by
  have hsleep : d.asleep = true := hst.elim (fun h => d.asleep_of h (by decide)) fun h => d.asleep_of h (by decide)
  have hcause : setBit 0 src true = 2 ^ src := by
    rcases d.wakeFires_src hf with rfl | rfl | rfl | rfl <;> decide
  rw [d.wake_of_fires hf, d.fbWake_asleep he hsleep (d.wakeAllowed_light hf hb hst)]
  obtain ⟨w1, w2, w3, w4, -, w6, w7, -, w9⟩ := d.wakeBegin_obeys (src := src) (port := if src < 2 then port else 0xFF) hw
  refine ⟨w4, w1.trans hcause, w2, w3 hn, w6, w7, w9.trans (congrArg (d.power.steps.map (·.kind) ++ ·) ?_)⟩
  rcases hst with h | h <;> rw [h] <;> rfl

/-- WAKE_IN_PIN on a sleeping part. -/
theorem Device.wakeIn_obeys {pin : Nat} {level : Bool} (hp : pin < 4) (h1 : bit (d.nat K.fbWakeInCfg) pin = true)
    (h2 : bit (d.nat K.fbWakeInCfg) (4 + pin) = level) (he : d.power.entry = none) (ha : d.asleep = true) (hw : d.power.waking = none) :
    let t := d.wakeIn pin level
    t.clock = (d.elapse (d.ticksToCount (d.cellarCount + 2))).clock ∧ t.nat K.fbWakeCause = 4 ∧ t.nat K.fbWakePort = 0xFF ∧
      t.power.waking = some t.clock.ticks ∧ t.power.held = (if d.power.held = 4 then 5 else d.power.held) ∧ t.nat K.fbState = d.nat K.fbState := by
  have heq : d.wakeIn pin level = (d.elapse (d.ticksToCount (d.cellarCount + 2))).fbWake 2 0xFF := by
    refine if_neg ?_
    simp only [h1, h2, Bool.or_eq_true, decide_eq_true_eq, Bool.not_true, Bool.false_eq_true, or_false, ne_eq, not_true_eq_false]
    omega
  rw [heq]
  generalize d.ticksToCount (d.cellarCount + 2) = n
  have hpow : (d.elapse n).power = d.power := d.elapse_power n
  have hobj : (d.elapse n).obj = d.obj := d.elapse_obj n
  generalize d.elapse n = x at *
  have hsleep : x.asleep = true := by rw [Device.asleep, nat_of_obj hobj]; exact ha
  rw [x.fbWake_asleep (by rw [hpow]; exact he) hsleep rfl]
  obtain ⟨w1, w2, -, w4, -, w6, w7, w8, -⟩ := x.wakeBegin_obeys (src := 2) (port := 0xFF) (by rw [hpow]; exact hw)
  exact ⟨w4, w1.trans (by decide), w2, by rw [w7, w4], by rw [w8, hpow], w6.trans (nat_of_obj hobj _)⟩

theorem Device.wakeIn_idle {pin : Nat} {level : Bool} (h : 4 ≤ pin ∨ bit (d.nat K.fbWakeInCfg) pin = false ∨ bit (d.nat K.fbWakeInCfg) (4 + pin) ≠ level) :
    d.wakeIn pin level = d := by
  refine if_pos ?_
  simp only [Bool.or_eq_true, decide_eq_true_eq, Bool.not_eq_true']
  tauto

/-- R538: the count is reached. -/
theorem Device.cellarCount_reached (n : Nat) (h : 0 < xtalTick) : n ≤ (d.elapse (d.ticksToCount n)).cellarCount := by
  have hx : (d.elapse (d.ticksToCount n)).clock.xtal = d.clock.xtal + d.ticksToCount n * xtalTick := by
    rfl
  have hceil := le_ceilDiv_mul (a := n * xtalU - d.clock.xtal) h
  have hpos : 0 < xtalU := by decide
  rw [Device.cellarCount, hx, Nat.le_div_iff_mul_le hpos, Device.ticksToCount]
  generalize n * xtalU = a at *
  omega

/-- CELLAR_ALARM from Park or Deep Off. -/
theorem Device.cellarAlarm_obeys {n : Nat} (hn : d.cellar.alarmFrom = some n) (hz : d.nat K.cellarWakeAfter ≠ 0) (he : d.power.entry = none)
    (hst : d.nat K.fbState = 3 ∨ d.nat K.fbState = 4) (hw : d.power.waking = none) : let t := d.cellarAlarm
    t.nat K.fbWakeCause = 8 ∧ t.nat K.fbWakePort = 0xFF ∧ t.power.waking = some t.clock.ticks ∧ t.cellar.alarmFrom = none ∧
      (0 < xtalTick → n + 32768 * d.nat K.cellarWakeAfter ≤ t.cellarCount) := by
  have heq : d.cellarAlarm = (d.elapse (d.ticksToCount (n + 32768 * d.nat K.cellarWakeAfter))).fbWake 3 0xFF := by
    rw [Device.cellarAlarm, hn]
    exact if_neg hz
  have hcount := d.cellarCount_reached (n + 32768 * d.nat K.cellarWakeAfter)
  rw [heq]
  generalize d.ticksToCount (n + 32768 * d.nat K.cellarWakeAfter) = m at *
  have hpow : (d.elapse m).power = d.power := d.elapse_power m
  have hobj : (d.elapse m).obj = d.obj := d.elapse_obj m
  generalize d.elapse m = x at *
  have hxst : x.nat K.fbState = d.nat K.fbState := nat_of_obj hobj _
  have hsleep : x.asleep = true := hst.elim (fun h => x.asleep_of (hxst.trans h) (by decide)) fun h => x.asleep_of (hxst.trans h) (by decide)
  have hallow : x.wakeAllowed 3 (x.nat K.fbState) = true := by
    simp only [Device.wakeAllowed, nat_of_obj hobj, Bool.and_eq_true, decide_eq_true_eq]
    exact ⟨by omega, hz⟩
  rw [x.fbWake_asleep (by rw [hpow]; exact he) hsleep hallow]
  obtain ⟨w1, w2, -, w4, w5, -, w7, -, -⟩ := x.wakeBegin_obeys (src := 3) (port := 0xFF) (by rw [hpow]; exact hw)
  refine ⟨w1.trans (by decide), w2, by rw [w7, w4], w5, fun hx => ?_⟩
  rw [Device.cellarCount, w4]
  exact hcount hx

theorem Device.cellarAlarm_idle (h : d.cellar.alarmFrom = none ∨ d.nat K.cellarWakeAfter = 0) : d.cellarAlarm = d := by
  unfold Device.cellarAlarm
  split
  · rename_i n hn
    exact if_pos (h.resolve_left fun hc => by rw [hc] at hn; cases hn)
  · rfl

/-! ## The tolerance (R525) -/

/-- R525: a tolerance taken up in Run or Trim. -/
theorem Device.writeLatencyTol_obeys (n : Nat) (hw : d.power.waking = none) (he : d.power.entry = none) (ha : d.asleep = false) :
    let t := d.writeLatencyTol n
    t.nat K.latencyTol = n ∧ t.nat K.fbTarget = (if n < 2 then 0 else if n < 150 then 1 else if n < 40000 then 2 else if n < 350000 then 3 else 4) ∧
      (t.nat K.fbState = if n < 2 then 0 else 1) ∧ t.power = d.power ∧ t.clock = d.clock ∧
      ∀ k, k ≠ K.latencyTol → k ≠ K.fbTarget → k ≠ K.fbState → t.val k = d.val k := by
  obtain ⟨x, hx⟩ : ∃ x, (d.setNum K.latencyTol n).setNum K.fbTarget (targetOf n) = x := ⟨_, rfl⟩
  have hpow : x.power = d.power := by rw [← hx]; rfl
  have hclock : x.clock = d.clock := by rw [← hx]; rfl
  have hval (k : Nat) (h1 : k ≠ K.latencyTol) (h2 : k ≠ K.fbTarget) : x.val k = d.val k := by
    rw [← hx]
    exact (Device.val_setVal_ne _ _ h2).trans (d.val_setVal_ne _ h1)
  have htol : x.nat K.latencyTol = n := by
    rw [← hx]
    refine (congrArg (fun v => v.int.toNat) (Device.val_setVal_ne (d.setNum K.latencyTol n) (k := K.fbTarget) (j := K.latencyTol) _ (by decide))).trans ?_
    exact (Device.nat_setNum_self _ _ _).trans (Int.toNat_natCast n)
  have htarget : x.nat K.fbTarget = targetOf n := by
    rw [← hx]
    exact (Device.nat_setNum_self _ _ _).trans (Int.toNat_natCast _)
  have hstate : x.nat K.fbState = d.nat K.fbState := congrArg (fun v => v.int.toNat) (hval _ (by decide) (by decide))
  have hawake : ¬ 2 ≤ x.nat K.fbState := by rw [hstate]; exact of_decide_eq_false ha
  have hzero : targetOf n = 0 ↔ n < 2 := by
    unfold targetOf
    split
    · omega
    · split
      · omega
      · split
        · omega
        · split <;> omega
  have heq : d.writeLatencyTol n = x.setFbState (if n < 2 then 0 else 1) := by
    have hab : x.abortEntry 4 = x := by rw [Device.abortEntry, hpow, he]
    unfold Device.writeLatencyTol
    dsimp only
    rw [hx, hab, if_neg hawake]
    by_cases h : n < 2
    · rw [if_pos (hzero.mpr h), if_pos h]
    · rw [if_neg (mt hzero.mp h), if_neg h, hpow, hw]
      rfl
  rw [heq]
  generalize hst : (if n < 2 then 0 else 1) = st
  obtain ⟨f1, f2, -⟩ := x.setFbState_same st
  refine ⟨?_, ?_, x.setFbState_self st, f2.trans hpow, f1.trans hclock, fun k h1 h2 h3 => (x.setFbState_val st h3).trans (hval k h1 h2)⟩
  · exact (congrArg (fun v => v.int.toNat) (x.setFbState_val st (k := K.latencyTol) (by decide))).trans htol
  · refine ((congrArg (fun v => v.int.toNat) (x.setFbState_val st (k := K.fbTarget) (by decide))).trans htarget).trans ?_
    have hone : (n ≤ 1) = (n < 2) := propext Nat.lt_succ_iff.symm
    simp only [targetOf, hone]

end

theorem latencyTol_row : dictFind (K.latencyTol / 256) (K.latencyTol % 256)
    = some ⟨0x2001, 0x2001, 0x00, 0x00, .uns 4, .rw, .num 0, .span 0 4294967295, 0⟩ := rfl

/-- LATENCY_TOL. -/
theorem State.latencyTol_written (s : State) (h : HapHdr) {n : Nat} (hn : n < 2 ^ 32) (hw : s.writes h K.latencyTol (toBE 4 n)) :
    exec (.latencyTol h (toBE 4 n)) s = .next (s.wrote h K.latencyTol (toBE 4 n)
      { status := some 0, pay := [], dev := s.asWritten h K.latencyTol (toBE 4 n), after := fun x => x.writeLatencyTol n }) := by
  have hbe : beNat (toBE 4 n) = n := (beNat_toBE 4 n).trans (Nat.mod_eq_of_lt hn)
  have hrange : rangeBad K.latencyTol ⟨0x2001, 0x2001, 0x00, 0x00, .uns 4, .rw, .num 0, .span 0 4294967295, 0⟩ (toBE 4 n) = false := by
    have hspan : (Rng.span 0 4294967295).has ((beNat (toBE 4 n) : Nat) : Int) = true := by
      rw [hbe]
      simp only [Rng.has, Bool.and_eq_true, decide_eq_true_eq]
      omega
    have hoff : (0x3440 * 256 ≤ K.latencyTol && K.latencyTol < 0x346C * 256) = false := by decide
    simp only [rangeBad, hspan, hoff, Bool.not_true, Bool.false_and, Bool.or_self]
  refine congrArg Host.Outcome.next (s.action_granted h _ (toBE 4 n) _ _ hw latencyTol_row ⟨by decide, by decide⟩ (Device.needsSession_rw _ rfl (by decide))
    (Device.lengthBad_plain _ _ _ _ (by decide) (by simp [Ty.allows])) hrange fun a _ _ _ _ _ => ?_)
  rw [if_pos (by decide)]
  have : ∀ d : Device, d.lowAction a K.latencyTol (toBE 4 n) =
      some { status := some 0, pay := [], dev := d, after := fun x => x.writeLatencyTol (beNat (toBE 4 n)) } := fun _ => rfl
  rw [this, hbe]

end Sys2Proof.Machine
end

section
/-! Chapter 20: the idle time and the start of an entry (R525 to R528). -/

namespace Sys2Proof.Machine

section
variable (d : Device)

/-! ## The final heartbeat -/

theorem Device.sendHeartbeat_answered (fb : Nat) : d.Answered (d.sendHeartbeat fb) := by
  have hfold (l : List Partner) (p : HapPdu) (x : Device) : x.Answered (l.foldl (fun d o => d.sendPdu o false p false) x) := by
    induction l generalizing x with
    | nil => exact .refl x
    | cons o l ih => exact (x.sendPdu_answered o false p false).trans (ih _)
  have hfoyer (x : Device) (f : Foyer → Foyer) : x.Answered (x.setFoyer f) := ⟨fun _ _ => rfl, rfl, rfl, rfl, rfl, x.adds_refl⟩
  unfold Device.sendHeartbeat
  dsimp only
  exact (hfold _ _ d).trans (hfoyer _ _)

/-! ## The holds (R526) -/

/-- The holds that keep the part out of Doze. -/
def Device.busy (d : Device) : Prop :=
  (∃ i, i < 16 ∧ d.slotState i ≠ 0) ∨ d.nat K.studyStageState ≠ 0 ∨ d.nat K.atticClearState = 1 ∨ d.nat K.hearthLock ≠ 1 ∨ d.nat K.tdcCalState ≠ 2

theorem Device.hold_slot : d.hold? 0 = (List.range 16).any (fun i => d.slotState i ≠ 0) := (rfl)
theorem Device.hold_stage : d.hold? 1 = Decidable.decide (d.nat K.studyStageState ≠ 0) := (rfl)
theorem Device.hold_clear : d.hold? 2 = Decidable.decide (d.nat K.atticClearState = 1) := (rfl)
theorem Device.hold_root : d.hold? 3 = (Decidable.decide (d.nat K.hearthLock ≠ 1) || Decidable.decide (d.nat K.tdcCalState ≠ 2)) := (rfl)
theorem Device.hold_vbat : d.hold? 4 = d.power.vbatLow := (rfl)
theorem Device.hold_source : d.hold? 5 = !d.deepSource := (rfl)

theorem Device.busy_iff : (d.hold? 0 || d.hold? 1 || d.hold? 2 || d.hold? 3) = true ↔ d.busy := by
  have hslot : (List.range 16).any (fun i => d.slotState i ≠ 0) = true ↔ ∃ i, i < 16 ∧ d.slotState i ≠ 0 := by
    generalize d.slotState = f
    generalize (16 : Nat) = n
    simp
  rw [Device.hold_slot, Device.hold_stage, Device.hold_clear, Device.hold_root, Device.busy, Bool.or_eq_true, Bool.or_eq_true, Bool.or_eq_true, hslot,
    Bool.or_eq_true, decide_eq_true_eq, decide_eq_true_eq, decide_eq_true_eq, decide_eq_true_eq, or_assoc, or_assoc]

theorem Device.holdLimit_busy (h : d.busy) : d.holdLimit = 1 := by
  rw [Device.holdLimit, if_pos (d.busy_iff.mpr h)]

theorem Device.holdLimit_free (h : ¬ d.busy) : d.holdLimit = if d.power.vbatLow = true ∨ d.deepSource = false then 3 else 4 := by
  rw [Device.holdLimit, if_neg (mt d.busy_iff.mp h), Device.hold_vbat, Device.hold_source]
  simp only [Bool.or_eq_true, Bool.not_eq_true']

/-! ## The start of an entry -/

/-- R528: steps 1 and 2 of an entry. -/
theorem Device.beginEntry_obeys (target : Nat) : let t := d.beginEntry target
    t.clock = d.clock ∧ t.power.entry = some (target, 2) ∧ t.nat K.fbState = d.nat K.fbState ∧ t.nat K.parAdmitStopped = 1 := by
  obtain ⟨x, hx⟩ : ∃ x, (if d.nat K.hapHbPeriod = 0 then d else d.sendHeartbeat target) = x := ⟨_, rfl⟩
  have hans : d.Answered x := by
    rw [← hx]
    split
    · exact .refl d
    · exact d.sendHeartbeat_answered target
  have h2 : ((x.setNum K.parAdmitStopped 1).report 0x0A03 [1, target]).nat K.parAdmitStopped = 1 :=
    (Device.report_nat _ _ _ _).trans (Device.nat_setNum_self _ _ _)
  have h3 : ((x.setNum K.parAdmitStopped 1).report 0x0A03 [1, target]).nat K.fbState = x.nat K.fbState :=
    (Device.report_nat _ _ _ _).trans (congrArg (fun v => v.int.toNat) (x.val_setVal_ne (k := K.parAdmitStopped) (j := K.fbState) _ (by decide)))
  have h4 : ((x.setNum K.parAdmitStopped 1).report 0x0A03 [1, target]).clock = x.clock := rfl
  unfold Device.beginEntry
  dsimp only
  rw [hx]
  generalize (x.setNum K.parAdmitStopped 1).report 0x0A03 [1, target] = y at *
  obtain ⟨z, hz⟩ : ∃ z, (if y.study.saving.isSome then (y.setStudy (fun s => { s with saving := none })).setNum K.cfgState 0 else y) = z := ⟨_, rfl⟩
  have hzn (k : Nat) (hk : k ≠ K.cfgState) : z.nat k = y.nat k := by
    rw [← hz]
    split
    · exact congrArg (fun v => v.int.toNat) (Device.val_setVal_ne (y.setStudy (fun s => { s with saving := none })) (k := K.cfgState) _ hk)
    · rfl
  have hzc : z.clock = y.clock := by
    rw [← hz]
    split <;> rfl
  rw [hz]
  have hshow (k : Nat) : (z.setPower (fun p => { p with entry := some (target, 2) })).nat k = z.nat k := rfl
  refine ⟨(Device.setPower_clock _ _).trans (hzc.trans (h4.trans hans.clock)), rfl, ?_, ?_⟩
  · rw [hshow, hzn _ (by decide), h3]
    exact congrArg (fun v => v.int.toNat) (hans.val K.fbState (by decide))
  · rw [hshow, hzn _ (by decide), h2]

/-! ## IDLE_TIME_EXPIRY -/

theorem Device.idleExpiry_idle (h : d.power.held ≠ 0 ∨ d.asleep = true ∨ d.power.entry ≠ none ∨ d.power.waking ≠ none) : d.idleExpiry = d := by
  refine if_pos ?_
  simp only [Bool.or_eq_true, Bool.not_eq_true', Device.up, decide_eq_false_iff_not, Option.isSome_iff_ne_none]
  tauto

theorem Device.idleExpiry_eq (h1 : d.power.held = 0) (h2 : d.asleep = false) (h3 : d.power.entry = none) (h4 : d.power.waking = none) :
    d.idleExpiry =
      let x := d.runTo (d.power.idleFrom + d.nat K.fbIdleTime * msTicks)
      let st := min (x.nat K.fbTarget) x.holdLimit
      if 2 ≤ st then x.beginEntry st else x.setFbState st := by
  refine if_neg ?_
  simp [Device.up, h1, h2, h3, h4]

/-- IDLE_TIME_EXPIRY of a part in Run or Trim. -/
theorem Device.idleExpiry_obeys {x : Device} (h3 : x.power.entry = none)
    {t : Device} (ht : t = let st := min (x.nat K.fbTarget) x.holdLimit
      if 2 ≤ st then x.beginEntry st else x.setFbState st) : t.clock = x.clock ∧
      (x.busy ∨ x.nat K.fbTarget < 2 → t.power.entry = none ∧ t.nat K.fbState = min 1 (x.nat K.fbTarget) ∧ ∀ k, k ≠ K.fbState → t.val k = x.val k) ∧
      (¬ x.busy → 2 ≤ x.nat K.fbTarget → x.nat K.fbTarget ≤ 4 →
        t.power.entry = some (if x.power.vbatLow = true ∨ x.deepSource = false then min 3 (x.nat K.fbTarget) else x.nat K.fbTarget, 2) ∧
        t.nat K.fbState = x.nat K.fbState ∧ t.nat K.parAdmitStopped = 1) := by
  have hset (st : Nat) : (x.setFbState st).clock = x.clock ∧ (x.setFbState st).power.entry = none := by
    obtain ⟨f1, f2, -⟩ := x.setFbState_same st
    exact ⟨f1, by rw [f2]; exact h3⟩
  refine ⟨?_, fun h => ?_, fun hb h2 h4 => ?_⟩
  · rw [ht]
    dsimp only
    split
    · exact (x.beginEntry_obeys _).1
    · exact (hset _).1
  · have hst : min (x.nat K.fbTarget) x.holdLimit = min 1 (x.nat K.fbTarget) := by
      rcases h with h | h
      · rw [x.holdLimit_busy h, Nat.min_comm]
      · by_cases hb : x.busy
        · rw [x.holdLimit_busy hb, Nat.min_comm]
        · rw [x.holdLimit_free hb]
          split <;> omega
    have heq : t = x.setFbState (min 1 (x.nat K.fbTarget)) := by
      rw [ht]
      dsimp only
      rw [hst]
      exact if_neg (by omega)
    rw [heq]
    exact ⟨(hset _).2, x.setFbState_self _, fun k hk => x.setFbState_val _ hk⟩
  · have hst : min (x.nat K.fbTarget) x.holdLimit =
        if x.power.vbatLow = true ∨ x.deepSource = false then min 3 (x.nat K.fbTarget) else x.nat K.fbTarget := by
      rw [x.holdLimit_free hb]
      split <;> omega
    have heq : t = x.beginEntry (if x.power.vbatLow = true ∨ x.deepSource = false then min 3 (x.nat K.fbTarget) else x.nat K.fbTarget) := by
      rw [ht]
      dsimp only
      rw [hst]
      exact if_pos (by split <;> omega)
    rw [heq]
    exact (x.beginEntry_obeys _).2

end

end Sys2Proof.Machine
end

section
/-! Chapter 20: the steps of an entry (R528, R529). -/

namespace Sys2Proof.Machine

theorem exec_powerEntryComplete (s : State) : exec .powerEntryComplete s = .next (s.on (·.entryComplete)) := rfl

/-! ## What leaves a port's face alone -/

/-- Is an object a port's supply, link state or wake pattern. -/
def faceKey (k : Nat) : Bool :=
  0x3000 * 256 ≤ k && k < 0x302C * 256 && (k % 256 = 0x01 || k % 256 = 0x0C || (0x20 ≤ k % 256 && k % 256 < 0x28))

/-- Is an object none of these. -/
def restKey (k : Nat) : Bool := !faceKey k

theorem faceKey_range {k : Nat} (h : faceKey k = true) : 0x3000 * 256 ≤ k ∧ k < 0x302C * 256 := by
  simp only [faceKey, Bool.and_eq_true, decide_eq_true_eq] at h
  exact h.1

theorem restKey_of {C : Nat → Bool} (h : ∀ k, faceKey k = true → C k = false) (k : Nat) (hk : C k = true) : restKey k = true := by
  refine (Bool.not_eq_true' _).mpr (Bool.eq_false_iff.mpr fun hf => ?_)
  exact Bool.false_ne_true ((h k hf).symm.trans hk)

theorem restKey_high {k : Nat} (h : 0x302C * 256 ≤ k) : restKey k = true := by
  refine (Bool.not_eq_true' _).mpr (Bool.eq_false_iff.mpr fun hf => ?_)
  have := (faceKey_range hf).2
  omega

theorem restKey_low {k : Nat} (h : k < 0x3000 * 256) : restKey k = true := by
  refine (Bool.not_eq_true' _).mpr (Bool.eq_false_iff.mpr fun hf => ?_)
  have := (faceKey_range hf).1
  omega

theorem face_link {p : Nat} (hp : p < 44) : restKey (K.portLinkState p) = false := by
  have : ∀ p < 44, restKey (K.portLinkState p) = false := by decide
  exact this p hp

section
variable {d e : Device}

theorem rest_of_lanes {C : Nat → Bool} (hC : ∀ k, C k = true → 0x302C * 256 ≤ k) (h : e.beside laneBlank C = d.beside laneBlank C) :
    e.beside grantBlank restKey = d.beside grantBlank restKey :=
  beside_mono h (fun hc => by have := congrArg grantBlank.clear hc; exact this) fun k hk => restKey_high (hC k hk)

theorem jobKey_high {k : Nat} (h : jobKey k = true) : 0x302C * 256 ≤ k := by
  have hlane : ∀ k ∈ laneKeys, 0x302C * 256 ≤ k := by decide
  simp only [jobKey, laneKey, Bool.or_eq_true, Bool.and_eq_true, decide_eq_true_eq] at h
  rcases h with (h | h) | h
  · exact hlane k h
  · omega
  · omega

variable (d)

/-! ## Steps 3 to 6 -/

theorem Device.rest_dropCheck (id : Nat) : (d.dropCheck id).beside grantBlank restKey = d.beside grantBlank restKey := by
  unfold Device.dropCheck
  split
  · rfl
  · dsimp only
    split
    · refine (rest_of_lanes (fun k hk => jobKey_high (Bool.or_eq_true_iff.mpr (.inl (Bool.or_eq_true_iff.mpr (.inl hk))))) (Device.follows_resumeTop _ _).rest).trans ?_
      rfl
    · rfl

theorem Device.rest_abortLow : d.abortLow.beside grantBlank restKey = d.beside grantBlank restKey :=
  d.beside_foldl _ fun x j _ => (rest_of_lanes (fun _ => jobKey_high) (Device.jobs_endJob _ _ _).rest).trans (x.rest_dropCheck j.id)

theorem Device.rest_handToHardware (t : Nat) : (d.handToHardware t).beside grantBlank restKey = d.beside grantBlank restKey := by
  have hsky {x y : Device} {C : Nat → Bool} (hC : ∀ k, C k = true → k < 0x3000 * 256) (h : y.beside skyBlank C = x.beside skyBlank C) :
      y.beside grantBlank restKey = x.beside grantBlank restKey :=
    beside_mono h (fun hc => by have := congrArg grantBlank.clear hc; exact this) fun k hk => restKey_low (hC k hk)
  have hchan (x : Device) (c : Nat) (hc : c < 128) : (x.setSkyState c 0).beside grantBlank restKey = x.beside grantBlank restKey :=
    hsky (fun k hk => by
      have hle : k ≤ K.chAzim c := of_decide_eq_true (Bool.and_eq_true_iff.mp hk).2
      unfold K.chAzim at hle
      omega) (x.setSkyState_frame 0)
  have htrack (x : Device) : (x.setTracker t).beside grantBlank restKey = x.beside grantBlank restKey :=
    hsky (C := fun k => k = K.skyTracker) (fun k hk => by rw [of_decide_eq_true hk]; decide) (x.sky_setTracker t (by decide))
  unfold Device.handToHardware
  dsimp only
  have hset (x : Device) (f : Sky → Sky) : (x.setSky f).beside grantBlank restKey = x.beside grantBlank restKey := rfl
  refine (hset _ _).trans ((htrack _).trans (d.beside_foldl _ fun x c hc => ?_))
  split
  · exact hchan x c (List.mem_range.mp hc)
  · rfl

theorem Device.rest_reportOnce (key code : Nat) (p : List Int) : (d.reportOnce key code p).beside grantBlank restKey = d.beside grantBlank restKey := by
  unfold Device.reportOnce
  dsimp only
  split
  · split <;> rfl
  · rfl

theorem Device.rest_cellCheckAt (ps : Nat) : (d.cellCheckAt ps).beside grantBlank restKey = d.beside grantBlank restKey := by
  unfold Device.cellCheckAt
  dsimp only
  split
  · rfl
  · split <;> rfl

theorem Device.rest_halls (h : Hall) (pl : Parl) : ({ d with hall := h, parl := pl } : Device).beside grantBlank restKey = d.beside grantBlank restKey := rfl

theorem Device.rest_hallSleep : d.hallSleep.beside grantBlank restKey = d.beside grantBlank restKey := by
  have hdrop (x : Device) (p q : Nat) : (x.egressDrop p 5 q (K.sleepDiscard p)).beside grantBlank restKey = x.beside grantBlank restKey :=
    (Device.rest_reportOnce _ _ _ _).trans (x.beside_bump (restKey_high (by simp only [K.sleepDiscard]; omega)))
  have hqueue (z : Device) (p q : Nat) : (z.setQueue p q (·.drop 1)).beside grantBlank restKey = z.beside grantBlank restKey := rfl
  have hfold : ((List.range 44).foldl (fun d p => (List.range 8).foldl (fun d q =>
      (d.queue p q).foldl (fun d _ => (d.setQueue p q (·.drop 1)).egressDrop p 5 q (K.sleepDiscard p)) d) d) d).beside grantBlank restKey =
        d.beside grantBlank restKey :=
    d.beside_foldl _ fun x p _ => x.beside_foldl _ fun y q _ => y.beside_foldl _ fun z _ _ => (hdrop _ p q).trans (hqueue z p q)
  unfold Device.hallSleep
  generalize (List.range 44).foldl _ d = x at hfold
  exact (Device.rest_cellCheckAt _ _).trans ((x.rest_halls _ _).trans hfold)

/-- Steps 3 to 6 of an entry, before the step reached is noted. -/
def Device.entryQuiet (d : Device) (target : Nat) : Device :=
  let d1 := d.ntskeClose
  let d2 := if target = 4 then d1.abortLow else d1.abortLow.handToHardware (if target = 2 then 1 else 2)
  let d3 := if 3 ≤ target then d2.hallSleep else d2
  if target = 4 && d3.nat K.hoModelState = 2 then d3.saveModel else d3

theorem Device.entryRest_eq (target : Nat) :
    d.entryRest target = (d.entryQuiet target).setPower (fun p => { p with entry := some (target, if target = 4 then 7 else 5) }) := rfl

theorem Device.rest_entryQuiet (target : Nat) : (d.entryQuiet target).beside grantBlank restKey = d.beside grantBlank restKey := by
  have h1 : d.ntskeClose.beside grantBlank restKey = d.beside grantBlank restKey := rfl
  unfold Device.entryQuiet
  dsimp only
  generalize d.ntskeClose = x at h1
  have h2 : (if target = 4 then x.abortLow else x.abortLow.handToHardware (if target = 2 then 1 else 2)).beside grantBlank restKey =
      x.beside grantBlank restKey := by
    split
    · exact x.rest_abortLow
    · exact (Device.rest_handToHardware _ _).trans x.rest_abortLow
  generalize (if target = 4 then x.abortLow else x.abortLow.handToHardware (if target = 2 then 1 else 2)) = y at h2
  have h3 : (if 3 ≤ target then y.hallSleep else y).beside grantBlank restKey = y.beside grantBlank restKey := by
    split
    · exact y.rest_hallSleep
    · rfl
  generalize (if 3 ≤ target then y.hallSleep else y) = z at h3
  refine Eq.trans ?_ (h3.trans (h2.trans h1))
  split <;> rfl

/-! ## Folds over the ports -/

/-- Operations on the ports, one after the other: what each leaves of its own link and of all else. -/
theorem links_fold {f : Device → Nat → Device} {g : Nat → Bool → Nat} {aux : Device → Nat → Bool}
    (hf : ∀ x p, (f x p).beside grantBlank (linkKey p) = x.beside grantBlank (linkKey p))
    (haux : ∀ x p q, aux (f x p) q = aux x q) (hl : ∀ x p, (f x p).link p = g (x.link p) (aux x p)) (l : List Nat) (hn : l.Nodup) :
    let t := l.foldl f d
    t.clock = d.clock ∧ t.power = d.power ∧ (∀ p ∈ l, t.link p = g (d.link p) (aux d p)) ∧ ∀ p, p ∉ l → t.link p = d.link p := by
  induction l generalizing d with
  | nil => exact ⟨rfl, rfl, fun _ h => absurd h List.not_mem_nil, fun _ _ => rfl⟩
  | cons p l ih =>
    obtain ⟨hp, hn⟩ := List.nodup_cons.mp hn
    obtain ⟨i1, i2, i3, i4⟩ := ih (f d p) hn
    have hother (q : Nat) (hq : q ≠ p) : (f d p).link q = d.link q := by
      refine nat_of_beside (hf d p) (Bool.or_eq_false_iff.mpr ⟨decide_eq_false ?_, decide_eq_false ?_⟩) <;> simp only [K.portLinkState, K.plcaStatus] <;>
        omega
    refine ⟨i1.trans (grant_clock (hf d p)), i2.trans (grant_power (hf d p)), fun q hq => ?_, fun q hq => ?_⟩
    · rcases List.mem_cons.mp hq with rfl | hq
      · exact (i4 q hp).trans (hl d q)
      · have hne : q ≠ p := fun h => hp (h ▸ hq)
        exact (i3 q hq).trans (by rw [hother q hne, haux])
    · obtain ⟨hne, hq⟩ := not_or.mp (mt List.mem_cons.mpr hq)
      exact (i4 q hq).trans (hother q hne)

omit d in
theorem grant_of_link {d e : Device} {p : Nat} (h : e.beside linkBlank (linkKey p) = d.beside linkBlank (linkKey p)) :
    e.beside grantBlank (linkKey p) = d.beside grantBlank (linkKey p) :=
  beside_mono h (fun hc => by have := congrArg grantBlank.clear hc; exact this) fun _ => id

omit d in
/-- A port is armed by its wake patterns alone. -/
theorem wakeArmed_of_oct {d e : Device} {q : Nat} (h : ∀ k < 8, e.oct (K.wakePat q k) = d.oct (K.wakePat q k)) : e.wakeArmed q = d.wakeArmed q := by
  unfold Device.wakeArmed
  generalize hl : List.range 8 = l
  have hlt : ∀ k ∈ l, k < 8 := by rw [← hl]; exact fun k hk => List.mem_range.mp hk
  clear hl
  induction l with
  | nil => rfl
  | cons k l ih =>
    rw [List.any_cons, List.any_cons, h k (hlt k List.mem_cons_self), ih fun j hj => hlt j (List.mem_cons_of_mem k hj)]

/-- Table 10-4: the link state that a port sleeps in. -/
def sleepLink (target st : Nat) (armed : Bool) : Nat := if st = 3 && (target = 2 || (target = 3 && armed)) then 4 else 5

theorem Device.portSleep_frame (target p : Nat) : (d.portSleep p target).beside grantBlank (linkKey p) = d.beside grantBlank (linkKey p) := by
  have hset (x : Device) (st c : Nat) : (x.setLink p st c).beside grantBlank (linkKey p) = x.beside grantBlank (linkKey p) :=
    grant_of_link (x.link_setLink p st c)
  have hdrop (x : Device) : (x.dropPlace p).beside grantBlank (linkKey p) = x.beside grantBlank (linkKey p) := rfl
  unfold Device.portSleep
  dsimp only
  have hbase : (if target = 2 then d else d.dropPlace p).beside grantBlank (linkKey p) = d.beside grantBlank (linkKey p) := by
    split
    · rfl
    · exact hdrop d
  generalize (if target = 2 then d else d.dropPlace p) = x at *
  split
  · exact (hset x 4 3).trans hbase
  · exact (hdrop _).trans ((hset x 5 3).trans hbase)

theorem Device.portSleep_link (target p : Nat) : (d.portSleep p target).link p = sleepLink target (d.link p) (d.wakeArmed p) := by
  have hdrop (x : Device) : (x.dropPlace p).link p = x.link p ∧ (x.dropPlace p).wakeArmed p = x.wakeArmed p := ⟨rfl, rfl⟩
  unfold Device.portSleep sleepLink
  dsimp only
  have hbase : (if target = 2 then d else d.dropPlace p).link p = d.link p ∧ (if target = 2 then d else d.dropPlace p).wakeArmed p = d.wakeArmed p := by
    split
    · exact ⟨rfl, rfl⟩
    · exact hdrop d
  generalize (if target = 2 then d else d.dropPlace p) = x at *
  rw [hbase.1, hbase.2]
  split
  · exact x.setLink_link p 4 3
  · exact (hdrop _).1.trans (x.setLink_link p 5 3)

theorem Device.portSleep_armed (target p q : Nat) : (d.portSleep p target).wakeArmed q = d.wakeArmed q := by
  have hoct (k : Nat) (hk : k < 8) : (d.portSleep p target).oct (K.wakePat q k) = d.oct (K.wakePat q k) := by
    refine congrArg Val.bytes (val_of_beside (d.portSleep_frame target p) (Bool.or_eq_false_iff.mpr ⟨decide_eq_false ?_, decide_eq_false ?_⟩)) <;>
      simp only [K.portLinkState, K.plcaStatus, K.wakePat] <;> omega
  exact wakeArmed_of_oct hoct

end

end Sys2Proof.Machine
end

section
/-! Chapter 20: the end of an entry (R528, R529). -/

namespace Sys2Proof.Machine

section
variable (d : Device)

/-- Steps 1 to 7, with the outputs silent and MT's snapshot kept where the part goes to Deep Off. -/
def Device.entryStill (d : Device) (target step : Nat) : Device :=
  let d1 := if step = 2 then d.entryRest target else d
  if target = 4 then (((List.range 16).foldl (fun d n => d.outTrailing n) d1.takeSnapshot).setAnt 0).flushFdb else d1

/-- The ports asleep, the lanes off and the cores halted. -/
def Device.entryDark (d : Device) (target : Nat) : Device :=
  (List.range 4).foldl (fun d c => if d.coreRuns c then d.setCore c 1 else d) ((List.range 44).foldl (fun d p => d.portSleep p target) d).lanesOff

/-- The state entered. -/
def Device.entryMade (d : Device) (target : Nat) : Device :=
  let d6 := (d.rotatePause.setFbState target).setPower (fun p => { p with entry := none, held := if target = 4 then 4 else p.held })
  d6.setCellar (fun c => { c with alarmFrom := if 3 ≤ target then some d6.cellarCount else none })

/-- MT and the controllers off, in Deep Off. -/
def Device.entryOff (d : Device) : Device := (List.range 4).foldl (fun d c => d.setCan c 0) { d with clock := { d.clock with mtRun := false }, tdc := {} }

theorem Device.entryComplete_eq {target step : Nat} (he : d.power.entry = some (target, step)) (hf : d.flying = []) (hb : d.ledger.batches = [])
    (h4 : target = 4 → step = 7 ∧ d.attic.pending = [] ∧ d.attic.reports = []) : d.entryComplete =
      if target = 4 then (((d.entryStill target step).entryDark target).entryMade target).entryOff
      else ((d.entryStill target step).entryDark target).entryMade target := by
  have hgo : ¬ ((target = 4 && ((if step = 2 then d.entryRest target else d).attic.pending ≠ [] ||
      (if step = 2 then d.entryRest target else d).attic.reports ≠ [])) = true) := by
    by_cases ht : target = 4
    · obtain ⟨h7, hp, hr⟩ := h4 ht
      have hd : (if step = 2 then d.entryRest target else d) = d := if_neg (by omega)
      simp [hd, hp, hr]
    · simp [ht]
  unfold Device.entryComplete
  rw [he]
  change (if _ then _ else _) = _
  rw [if_neg (by simp [hf, hb])]
  extract_lets d1 d2 d3 d4 d5 d6 d7 c
  have h7 : d7 = ((d.entryStill target step).entryDark target).entryMade target := rfl
  rw [if_neg hgo]
  rw [← h7]
  clear_value d7
  rfl

theorem Device.entryComplete_idle (h : d.power.entry = none ∨ d.flying ≠ [] ∨ d.ledger.batches ≠ []) : d.entryComplete = d := by
  unfold Device.entryComplete
  split
  · rfl
  · rename_i hs
    refine if_pos ?_
    have hne : ¬ d.power.entry = none := by rw [hs]; exact Option.some_ne_none _
    simp only [Bool.or_eq_true, decide_eq_true_eq]
    exact h.resolve_left hne

/-! ## What each stage leaves -/

/-- R528: entering Doze or Park takes no time and leaves the ports' faces as they were. -/
theorem Device.entryStill_light {target : Nat} (step : Nat) (ht : target ≠ 4) : let t := d.entryStill target step
    t.clock = d.clock ∧ t.power.held = d.power.held ∧ ∀ p < 44, t.link p = d.link p ∧ t.wakeArmed p = d.wakeArmed p := by
  have heq : d.entryStill target step = if step = 2 then d.entryRest target else d := if_neg ht
  rw [heq]
  split
  · rw [d.entryRest_eq]
    have hq := d.rest_entryQuiet target
    generalize d.entryQuiet target = x at hq
    have hpower := grant_power hq
    have hshow : ∀ s, (x.setPower (fun p => { p with entry := some s })).clock = x.clock ∧
        (x.setPower (fun p => { p with entry := some s })).power.held = x.power.held ∧
        ∀ p, (x.setPower (fun p => { p with entry := some s })).link p = x.link p ∧
          (x.setPower (fun p => { p with entry := some s })).wakeArmed p = x.wakeArmed p := fun _ => ⟨rfl, rfl, fun _ => ⟨rfl, rfl⟩⟩
    obtain ⟨s1, s2, s3⟩ := hshow (target, if target = 4 then 7 else 5)
    refine ⟨s1.trans (grant_clock hq), s2.trans (congrArg Power.held hpower), fun p hp => ⟨(s3 p).1.trans (nat_of_beside hq (face_link hp)),
      (s3 p).2.trans (wakeArmed_of_oct fun k hk => congrArg Val.bytes (val_of_beside hq ?_))⟩⟩
    have : ∀ p < 44, ∀ k < 8, restKey (K.wakePat p k) = false := by decide +kernel
    exact this p hp k hk
  · exact ⟨rfl, rfl, fun _ _ => ⟨rfl, rfl⟩⟩

theorem Device.takeSnapshot_frame : d.takeSnapshot.clock = d.clock ∧ d.takeSnapshot.outs = d.outs := by
  unfold Device.takeSnapshot
  dsimp only
  split <;> exact ⟨rfl, rfl⟩

/-- R528: with no pulse active the entry to Deep Off takes no time. -/
theorem Device.entryStill_off (hout : ∀ n, n < 16 → (d.out n).active = false) : (d.entryStill 4 7).clock = d.clock := by
  have hfold (l : List Nat) (x : Device) (h : ∀ n ∈ l, (x.out n).active = false) : l.foldl (fun d n => d.outTrailing n) x = x := by
    induction l generalizing x with
    | nil => rfl
    | cons n l ih =>
      have hn : x.outTrailing n = x := if_pos (by rw [h n List.mem_cons_self]; rfl)
      rw [List.foldl_cons, hn]
      exact ih x fun m hm => h m (List.mem_cons_of_mem n hm)
  obtain ⟨s1, s2⟩ := d.takeSnapshot_frame
  have hx : (List.range 16).foldl (fun d n => d.outTrailing n) d.takeSnapshot = d.takeSnapshot :=
    hfold _ _ fun n hn => by
      have hsame : d.takeSnapshot.out n = d.out n := by rw [Device.out, s2, Device.out]
      rw [hsame]
      exact hout n (List.mem_range.mp hn)
  have hant (x : Device) : ((x.setAnt 0).flushFdb).clock = x.clock := by
    unfold Device.setAnt Device.flushFdb
    split <;> rfl
  have heq : d.entryStill 4 7 = (((List.range 16).foldl (fun d n => d.outTrailing n) d.takeSnapshot).setAnt 0).flushFdb := rfl
  rw [heq, hx, hant, s1]

theorem Device.rest_setCore (c st : Nat) : (d.setCore c st).beside grantBlank restKey = d.beside grantBlank restKey :=
  d.beside_setOct _ (by decide)

theorem Device.rest_lanesOff : d.lanesOff.beside grantBlank restKey = d.beside grantBlank restKey := by
  have hlane (x : Device) (l : Nat) : (x.laneTo l 0 0).beside grantBlank restKey = x.beside grantBlank restKey := by
    have h : (x.laneTo l 0 0).beside laneBlank laneKey = x.beside laneBlank laneKey :=
      (Device.follows_noteLoss ((x.putLane l 0).report 0x0B01 [l, x.laneState l, (0 : Nat), (0 : Nat)]) x).rest.trans
        (Eq.trans rfl (x.follows_putLane l 0).rest)
    exact rest_of_lanes (fun k hk => jobKey_high (Bool.or_eq_true_iff.mpr (.inl (Bool.or_eq_true_iff.mpr (.inl hk))))) h
  have hfold : ((List.range 4).foldl (fun d l => if d.laneState l = 0 then d else d.laneTo l 0 0) d).beside grantBlank restKey =
      d.beside grantBlank restKey := d.beside_foldl _ fun x l _ => by
    split
    · rfl
    · exact hlane x l
  have hstrong (x : Device) (f : Strong → Strong) : (x.setStrong f).beside grantBlank restKey = x.beside grantBlank restKey := rfl
  exact (Device.beside_setNum _ _ (by decide)).trans ((hstrong _ _).trans hfold)

/-- R528, R529: the ports sleep as Table 10-4 says. -/
theorem Device.entryDark_obeys (target : Nat) : let t := d.entryDark target
    t.clock = d.clock ∧ t.power = d.power ∧ ∀ p < 44, t.link p = sleepLink target (d.link p) (d.wakeArmed p) := by
  obtain ⟨l1, l2, l3, -⟩ := links_fold d (f := fun d p => d.portSleep p target) (g := sleepLink target) (aux := Device.wakeArmed)
    (fun x p => x.portSleep_frame target p) (fun x p q => x.portSleep_armed target p q) (fun x p => x.portSleep_link target p) (List.range 44)
    List.nodup_range
  unfold Device.entryDark
  generalize (List.range 44).foldl (fun d p => d.portSleep p target) d = x at l1 l2 l3 ⊢
  have hcores : ((List.range 4).foldl (fun d c => if d.coreRuns c then d.setCore c 1 else d) x.lanesOff).beside grantBlank restKey =
      x.beside grantBlank restKey := by
    refine (Device.beside_foldl _ _ fun y c _ => ?_).trans x.rest_lanesOff
    split
    · exact y.rest_setCore c 1
    · rfl
  generalize (List.range 4).foldl (fun d c => if d.coreRuns c then d.setCore c 1 else d) x.lanesOff = y at hcores ⊢
  exact ⟨(grant_clock hcores).trans l1, (grant_power hcores).trans l2,
    fun p hp => (nat_of_beside hcores (face_link hp)).trans (l3 p (List.mem_range.mpr hp))⟩

theorem Device.entryMade_obeys (target : Nat) : let t := d.entryMade target
    t.clock = d.clock ∧ t.nat K.fbState = target ∧ t.power.entry = none ∧ t.power.held = (if target = 4 then 4 else d.power.held) ∧
      t.cellar.alarmFrom = (if 3 ≤ target then some t.cellarCount else none) ∧ ∀ p, t.link p = d.link p := by
  have hrot : d.rotatePause.clock = d.clock ∧ d.rotatePause.power = d.power ∧ ∀ p, d.rotatePause.link p = d.link p := ⟨rfl, rfl, fun _ => rfl⟩
  obtain ⟨r1, r2, r3⟩ := hrot
  unfold Device.entryMade
  generalize d.rotatePause = x at *
  have f1 := x.setFbState_self target
  obtain ⟨f2, f3, -⟩ := x.setFbState_same target
  have f4 (p : Nat) : (x.setFbState target).link p = x.link p :=
    congrArg (fun v => v.int.toNat) (x.setFbState_val target (by simp only [K.portLinkState, K.fbState]; omega))
  generalize x.setFbState target = y at *
  have hshow (c : Option Nat) (k : Nat) : ((y.setPower (fun p => { p with entry := none, held := if target = 4 then 4 else p.held })).setCellar
    (fun x => { x with alarmFrom := c })).nat k = y.nat k := rfl
  refine ⟨f2.trans r1, (hshow _ _).trans f1, rfl, ?_, rfl, fun p => (hshow _ _).trans ((f4 p).trans (r3 p))⟩
  show (if target = 4 then 4 else y.power.held) = _
  rw [f3, r2]

theorem Device.entryOff_obeys : let t := d.entryOff
    t.clock = { d.clock with mtRun := false } ∧ t.nat K.fbState = d.nat K.fbState ∧ t.power = d.power ∧ t.cellar = d.cellar ∧
      ∀ p < 44, t.link p = d.link p := by
  have hcan (l : List Nat) (x : Device) : x.SameBut (l.foldl (fun d c => d.setCan c 0) x) ∧ (l.foldl (fun d c => d.setCan c 0) x).cellar = x.cellar := by
    induction l generalizing x with
    | nil => exact ⟨.refl x, rfl⟩
    | cons c l ih =>
      obtain ⟨i1, i2⟩ := ih (x.setCan c 0)
      have hc : (x.setCan c 0).cellar = x.cellar := by
        unfold Device.setCan
        dsimp only
        split
        · rfl
        · split <;> rfl
      exact ⟨(x.sameBut_setCan c 0).trans i1, i2.trans hc⟩
  obtain ⟨x, hx⟩ : ∃ x : Device, { d with clock := { d.clock with mtRun := false }, tdc := {} } = x := ⟨_, rfl⟩
  have hsame : x.clock = { d.clock with mtRun := false } ∧ x.power = d.power ∧ x.cellar = d.cellar ∧ x.obj = d.obj := by
    rw [← hx]
    exact ⟨rfl, rfl, rfl, rfl⟩
  obtain ⟨x1, x2, x3, x4⟩ := hsame
  obtain ⟨c1, c2⟩ := hcan (List.range 4) x
  unfold Device.entryOff
  rw [hx]
  generalize (List.range 4).foldl (fun d c => d.setCan c 0) x = t at *
  refine ⟨c1.clock.trans x1, (c1.nat (by decide)).trans (nat_of_obj x4 _), c1.power.trans x2, c2.trans x3, fun p hp => ?_⟩
  exact (c1.nat (by simp only [K.portLinkState]; omega)).trans (nat_of_obj x4 _)

/-! ## POWER_ENTRY_COMPLETE -/

theorem Device.entryComplete_obeys {target step : Nat} (he : d.power.entry = some (target, step)) (hlo : 2 ≤ target) (hhi : target ≤ 4) (hf : d.flying = [])
    (hb : d.ledger.batches = []) (h4 : target = 4 → step = 7 ∧ d.attic.pending = [] ∧ d.attic.reports = []) : let t := d.entryComplete
    t.nat K.fbState = target ∧ t.power.entry = none ∧ t.power.held = (if target = 4 then 4 else d.power.held) ∧ (target < 4 → t.clock = d.clock) ∧
      (target = 4 → t.clock.mtRun = false ∧ ((∀ n, n < 16 → (d.out n).active = false) → t.clock.ticks = d.clock.ticks)) ∧
      t.cellar.alarmFrom = (if target = 2 then none else some t.cellarCount) ∧
      ∀ p, p < 44 → t.link p = if d.link p = 3 ∧ (target = 2 ∨ (target = 3 ∧ d.wakeArmed p = true)) then 4 else 5 := by
  have hsleep (st : Nat) (armed : Bool) : sleepLink target st armed = if st = 3 ∧ (target = 2 ∨ (target = 3 ∧ armed = true)) then 4 else 5 := by
    simp only [sleepLink, Bool.and_eq_true, Bool.or_eq_true, decide_eq_true_eq]
  rw [d.entryComplete_eq he hf hb h4]
  by_cases ht : target = 4
  · obtain ⟨rfl, -, -⟩ := h4 ht
    subst ht
    have hstill := d.entryStill_off
    rw [if_pos rfl]
    generalize d.entryStill 4 7 = a at *
    obtain ⟨k1, k2, k3⟩ := a.entryDark_obeys 4
    generalize a.entryDark 4 = b at *
    obtain ⟨m1, m2, m3, m4, m5, m6⟩ := b.entryMade_obeys 4
    generalize b.entryMade 4 = c at *
    obtain ⟨o1, o2, o3, o4, o5⟩ := c.entryOff_obeys
    generalize c.entryOff = t at *
    refine ⟨o2.trans m2, by rw [o3, m3], by rw [o3, m4, if_pos rfl, if_pos rfl], fun h => absurd h (by decide), fun _ => ⟨by rw [o1], fun hout => ?_⟩, ?_, fun p hp => ?_⟩
    · rw [o1]
      show c.clock.ticks = _
      rw [m1, k1, hstill hout]
    · have hcount : t.cellarCount = c.cellarCount := by rw [Device.cellarCount, o1, Device.cellarCount]
      rw [o4, m5, hcount]
      rfl
    · rw [o5 p hp, m6, k3 p hp, sleepLink]
      simp
  · obtain ⟨e1, e2, e3⟩ := d.entryStill_light step ht
    rw [if_neg ht]
    generalize d.entryStill target step = a at *
    obtain ⟨k1, k2, k3⟩ := a.entryDark_obeys target
    generalize a.entryDark target = b at *
    obtain ⟨m1, m2, m3, m4, m5, m6⟩ := b.entryMade_obeys target
    generalize b.entryMade target = t at *
    refine ⟨m2, m3, ?_, fun _ => m1.trans (k1.trans e1), fun h => absurd h ht, ?_, fun p hp => ?_⟩
    · rw [m4, k2, e2]
    · rw [m5]
      by_cases h2 : target = 2
      · rw [if_pos h2, if_neg (by omega)]
      · rw [if_neg h2, if_pos (by omega)]
    · rw [m6, k3 p hp, (e3 p hp).1, (e3 p hp).2, hsleep]

end

end Sys2Proof.Machine
end

section
/-! Chapter 20: the end of an exit (R535). -/

namespace Sys2Proof.Machine

theorem exec_exitComplete (env : HapEnv) (s : State) : exec (.exitComplete env) s = .next (s.on (·.exitComplete env)) := rfl

/-! ## What an exit leaves alone -/

/-- The objects that the end of an exit is asked about: the ports' faces, the state and the admission. -/
def exitKey (k : Nat) : Bool := faceKey k || k = K.fbState || k = K.parAdmitStopped

/-- `t` is `d` in the clock, Foyer, the power state, the frames that wait and these objects. -/
structure Device.ExitKeeps (d t : Device) : Prop where
  clock : t.clock = d.clock
  foyer : t.foyer = d.foyer
  power : t.power = d.power
  retained : ∀ p, (t.port p).retained = (d.port p).retained
  val : ∀ k, exitKey k = true → t.val k = d.val k

theorem roleObj_exit {n k : Nat} (hn : n < 8) (hk : exitKey k = true) : roleObj n k = false := by
  have hface (h : faceKey k = true) : roleObj n k = false := by
    obtain ⟨hlo, hhi⟩ := faceKey_range h
    have hcand : candObj k = false := Bool.and_eq_false_iff.mpr (.inr (decide_eq_false (by omega)))
    have hother : k ≠ K.domState n ∧ k ≠ K.instFreeBound n ∧ k ≠ K.instPortState n := by
      simp only [K.domState, K.instFreeBound, K.instPortState]
      omega
    obtain ⟨h1, h2, h3⟩ := hother
    simp only [roleObj, hcand, h1, h2, h3, decide_false, Bool.or_self]
  have hpower : ∀ n < 8, roleObj n K.fbState = false ∧ roleObj n K.parAdmitStopped = false := by decide
  simp only [exitKey, Bool.or_eq_true, decide_eq_true_eq] at hk
  obtain (h | rfl) | rfl := hk
  · exact hface h
  · exact (hpower n hn).1
  · exact (hpower n hn).2

theorem port_of_ports {d e : Device} (h : e.ports = d.ports) (p : Nat) : e.port p = d.port p := by rw [Device.port, h, Device.port]

section
variable {d e f : Device}

theorem link_foyer {C : Nat → Bool} (h : e.beside linkBlank C = d.beside linkBlank C) : e.foyer = d.foyer := congrArg (fun x => x.1.foyer) h
theorem link_power {C : Nat → Bool} (h : e.beside linkBlank C = d.beside linkBlank C) : e.power = d.power := congrArg (fun x => x.1.power) h

theorem Device.ExitKeeps.refl (d : Device) : d.ExitKeeps d := ⟨rfl, rfl, rfl, fun _ => rfl, fun _ _ => rfl⟩

theorem Device.ExitKeeps.trans (h : d.ExitKeeps e) (h' : e.ExitKeeps f) : d.ExitKeeps f :=
  ⟨h'.clock.trans h.clock, h'.foyer.trans h.foyer, h'.power.trans h.power, fun p => (h'.retained p).trans (h.retained p),
    fun k hk => (h'.val k hk).trans (h.val k hk)⟩

theorem Device.ExitKeeps.ite {c : Prop} [Decidable c] (h : d.ExitKeeps e) (h' : d.ExitKeeps f) : d.ExitKeeps (if c then e else f) := by
  split
  · exact h
  · exact h'

theorem Device.ExitKeeps.nat (h : d.ExitKeeps e) {k : Nat} (hk : exitKey k = true) : e.nat k = d.nat k := congrArg (fun v => v.int.toNat) (h.val k hk)

theorem Device.exitKeeps_foldl {α : Type} {g : Device → α → Device} (l : List α) (h : ∀ (x : Device), ∀ a ∈ l, x.ExitKeeps (g x a)) (d : Device) :
    d.ExitKeeps (l.foldl g d) := by
  induction l generalizing d with
  | nil => exact .refl d
  | cons a l ih => exact (h d a List.mem_cons_self).trans (ih (fun x b hb => h x b (List.mem_cons_of_mem a hb)) _)

variable (d)

/-! ## PTP and the Ledger start again -/

theorem Device.receiverUp_ports (n p : Nat) : (d.receiverUp n p).ports = d.ports := congrArg (fun x => x.1.ports) d.cand_receiverUp

theorem Device.setDomState_ports (n st : Nat) : (d.setDomState n st).ports = d.ports := by
  unfold Device.setDomState
  dsimp only
  split
  · rfl
  · split <;> rfl

theorem Device.receiverDown_ports {n : Nat} (hn : n < 8) : (d.receiverDown n).ports = d.ports := by
  have hlost : (if d.nat K.fbState < 2 && d.power.waking.isNone then d.freeLost n else d).ports = d.ports := by
    split
    · unfold Device.freeLost
      split
      · exact d.setDomState_ports n 4
      · rfl
    · rfl
  unfold Device.receiverDown
  dsimp only
  generalize (if d.nat K.fbState < 2 && d.power.waking.isNone then d.freeLost n else d) = x at hlost ⊢
  split
  · exact (congrArg (fun y => y.1.ports) (x.cand_setSource (n := 5 + n) (by omega) false)).trans hlost
  · exact hlost

theorem Device.setPtpState_ports (n p st : Nat) : (d.setPtpState n p st).ports = d.ports := by
  unfold Device.setPtpState
  dsimp only
  split <;> rfl

theorem Device.movePort_ports {n : Nat} (p st : Nat) (hn : n < 8) : (d.movePort n p st).ports = d.ports := by
  have hset (x : Device) (g : PtpPort → PtpPort) : (x.setPtpPort n p g).ports = x.ports := rfl
  unfold Device.movePort
  dsimp only
  split
  · rfl
  · split
    · rw [Device.receiverDown_ports _ hn, hset, Device.setPtpState_ports]
    · split
      · rw [Device.receiverUp_ports, hset, hset, Device.setPtpState_ports]
      · rw [hset, Device.setPtpState_ports]

theorem Device.exitKeeps_movePort {n : Nat} (p st : Nat) (hn : n < 8) : d.ExitKeeps (d.movePort n p st) := by
  have hlink := d.link_movePort hn p st
  exact ⟨link_clock hlink, link_foyer hlink, link_power hlink,
    fun q => congrArg PortUnit.retained (port_of_ports (d.movePort_ports p st hn) q), fun k hk => d.movePort_val st hn (roleObj_exit hn hk)⟩

theorem Device.exitKeeps_setPtpPort (n p : Nat) (g : PtpPort → PtpPort) : d.ExitKeeps (d.setPtpPort n p g) := ⟨rfl, rfl, rfl, fun _ => rfl, fun _ _ => rfl⟩

theorem Device.exitKeeps_ptpInit {n : Nat} (p : Nat) (hn : n < 8) : d.ExitKeeps (d.ptpInit n p) := by
  have hset := d.exitKeeps_setPtpPort n p (fun u => { u with annSince := d.clock.ticks, annRun := false, lost := 0 })
  unfold Device.ptpInit
  dsimp only
  generalize d.setPtpPort n p (fun u => { u with annSince := d.clock.ticks, annRun := false, lost := 0 }) = x at hset ⊢
  exact .ite (hset.trans (x.exitKeeps_movePort p 2 hn)) (.ite (hset.trans (x.exitKeeps_movePort p 4 hn))
    (.ite (hset.trans (x.exitKeeps_movePort p _ hn)) (hset.trans (x.exitKeeps_movePort p 6 hn))))

theorem Device.exitKeeps_ptpWake : d.ExitKeeps d.ptpWake := by
  refine Device.exitKeeps_foldl _ (fun x n hn => ?_) d
  have hn := List.mem_range.mp hn
  refine .ite (Device.exitKeeps_foldl _ (fun y p _ => ?_) x) (.refl x)
  exact .ite (y.exitKeeps_movePort p 0 hn) (.ite (y.exitKeeps_movePort p 3 hn) ((y.exitKeeps_movePort p 1 hn).trans (Device.exitKeeps_ptpInit _ p hn)))

theorem Device.exitKeeps_openBatch : d.ExitKeeps d.openBatch := by
  have hb := d.openBatch_frame
  have hkeys : ∀ k ∈ openKeys, exitKey k = false := by decide
  refine ⟨clock_of_lanes hb, congrArg (fun x => x.1.foyer) hb, power_of_lanes hb,
    fun p => congrArg PortUnit.retained (port_of_ports (congrArg (fun x => x.1.ports) hb) p), fun k hk => val_of_beside hb (decide_eq_false fun hm => ?_)⟩
  exact Bool.false_ne_true ((hkeys k hm).symm.trans hk)

theorem Device.exitKeeps_setCore (c st : Nat) : d.ExitKeeps (d.setCore c st) :=
  ⟨rfl, rfl, rfl, fun _ => rfl, fun k hk => d.val_setVal_ne _ fun h => by subst h; exact Bool.false_ne_true ((by decide : exitKey K.studyCoreState = false).symm.trans hk)⟩

theorem Device.exitKeeps_report (code : Nat) (q : List Int) : d.ExitKeeps (d.report code q) := ⟨rfl, rfl, rfl, fun _ => rfl, fun _ _ => rfl⟩

theorem Device.exitKeeps_setAttic (g : Attic → Attic) : d.ExitKeeps (d.setAttic g) := ⟨rfl, rfl, rfl, fun _ => rfl, fun _ _ => rfl⟩

theorem Device.exitKeeps_atticFollow : d.ExitKeeps d.atticFollow := by
  refine ⟨rfl, rfl, rfl, fun _ => rfl, fun k hk => Device.setNums_val_ne _ _ ?_⟩
  have hkeys : ∀ j ∈ [K.atticHead, K.atticTail, K.atticPending, K.cellarRetUsed], exitKey j = false := by decide
  rintro x hx rfl
  exact Bool.false_ne_true ((hkeys x.1 (List.mem_map_of_mem (f := Prod.fst) hx)).symm.trans hk)

theorem Device.exitKeeps_atticWake : d.ExitKeeps d.atticWake := by
  unfold Device.atticWake
  dsimp only
  have h1 : d.ExitKeeps (if d.nat K.atticFlashState = 2 then d else d.setAttic (fun a => { a with pending := a.pending ++
      (d.attic.retention.filter (fun r => d.attic.flashed ≤ recSeq r && !(d.attic.pending.map recSeq).contains (recSeq r))) })) :=
    .ite (.refl d) (d.exitKeeps_setAttic _)
  generalize (if d.nat K.atticFlashState = 2 then d else _) = x at h1 ⊢
  exact (h1.trans (.ite (.refl x) ((x.exitKeeps_report _ _).trans (Device.exitKeeps_setAttic _ _)))).trans (Device.exitKeeps_atticFollow _)

/-! ## The ports wake -/

/-- Table 10-4: the link state that a port wakes to. -/
def wakeLink (st : Nat) (powered : Bool) : Nat := if st = 4 then 3 else if st = 5 then (if powered then 1 else 0) else st

theorem Device.portWake_frame (p : Nat) : (d.portWake p).beside linkBlank (linkKey p) = d.beside linkBlank (linkKey p) := by
  unfold Device.portWake
  split
  · exact d.link_setLink p 3 4
  · split
    · exact d.link_setLink p _ 4
    · rfl

theorem Device.portWake_link (p : Nat) : (d.portWake p).link p = wakeLink (d.link p) (d.nat (K.portPower p) = 1) := by
  unfold Device.portWake wakeLink
  split
  · exact d.setLink_link p 3 4
  · split
    · simp only [d.setLink_link, decide_eq_true_eq]
    · rfl

theorem linkKey_power (p q : Nat) : linkKey p (K.portPower q) = false := by
  refine Bool.or_eq_false_iff.mpr ⟨decide_eq_false ?_, decide_eq_false ?_⟩ <;> simp only [K.portLinkState, K.plcaStatus, K.portPower] <;> omega

theorem Device.setPort_retained (p q : Nat) (g : PortUnit → PortUnit) (hg : ∀ u, (g u).retained = u.retained) :
    ((d.setPort p g).port q).retained = (d.port q).retained := by
  show ((updAt d.ports p g).getD q {}).retained = _
  by_cases hq : q = p
  · subst hq
    by_cases hl : q < d.ports.length
    · rw [getD_updAt g {} hl, hg, Device.port]
    · rw [List.getD_eq_default _ _ (by rw [length_updAt]; omega), Device.port, List.getD_eq_default _ _ (by omega)]
  · rw [getD_updAt_ne g {} hq, Device.port]

theorem Device.setLink_retained (p st cause q : Nat) : ((d.setLink p st cause).port q).retained = (d.port q).retained := by
  have hplca (x : Device) : ((x.setPlca p 0).port q).retained = (x.port q).retained := by
    unfold Device.setPlca
    split <;> rfl
  unfold Device.setLink
  dsimp only
  split
  · rfl
  · have h1 := ((d.setNum (K.portLinkState p) st).report 0x0801 [p, d.link p, st, cause]).setPort_retained p q (fun u => { u with cause := cause })
      fun _ => rfl
    split
    · exact (Device.setPort_retained _ p q (fun u => { u with beaconAt := none }) fun _ => rfl).trans ((hplca _).trans h1)
    · exact h1

theorem Device.portWake_retained (p q : Nat) : ((d.portWake p).port q).retained = (d.port q).retained := by
  unfold Device.portWake
  split
  · exact d.setLink_retained p 3 4 q
  · split
    · exact d.setLink_retained p _ 4 q
    · rfl

/-- Is an object one of the ports' own. -/
def portsKey (k : Nat) : Bool := 0x3000 * 256 ≤ k && k < 0x302C * 256

theorem linkKey_ports {p k : Nat} (hp : p < 44) (hk : linkKey p k = true) : portsKey k = true := by
  simp only [linkKey, Bool.or_eq_true, decide_eq_true_eq] at hk
  simp only [portsKey, Bool.and_eq_true, decide_eq_true_eq]
  simp only [K.portLinkState, K.plcaStatus] at hk
  omega

/-- R535: the ports wake. -/
def Device.portsAwake (d : Device) : Device := (List.range 44).foldl (fun d p => d.portWake p) d

theorem Device.portsAwake_obeys : let t := d.portsAwake
    t.clock = d.clock ∧ t.foyer = d.foyer ∧ t.power = d.power ∧ (∀ p, (t.port p).retained = (d.port p).retained) ∧
      t.nat K.fbState = d.nat K.fbState ∧ t.nat K.parAdmitStopped = d.nat K.parAdmitStopped ∧
      ∀ p < 44, t.link p = wakeLink (d.link p) (d.nat (K.portPower p) = 1) := by
  have haux (x : Device) (p q : Nat) : Decidable.decide ((x.portWake p).nat (K.portPower q) = 1) = Decidable.decide (x.nat (K.portPower q) = 1) := by
    rw [nat_of_beside (x.portWake_frame p) (linkKey_power p q)]
  obtain ⟨-, -, l3, -⟩ := links_fold d (f := fun d p => d.portWake p) (g := wakeLink) (aux := fun x p => Decidable.decide (x.nat (K.portPower p) = 1))
    (fun x p => grant_of_link (x.portWake_frame p)) haux (fun x p => x.portWake_link p) (List.range 44) List.nodup_range
  have hframe : d.portsAwake.beside linkBlank portsKey = d.beside linkBlank portsKey := d.beside_foldl _ fun x p hp =>
    beside_mono (x.portWake_frame p) id fun k hk => linkKey_ports (List.mem_range.mp hp) hk
  have hret : ∀ (l : List Nat) (x : Device) (q : Nat), ((l.foldl (fun d p => d.portWake p) x).port q).retained = (x.port q).retained := by
    intro l
    induction l with
    | nil => exact fun _ _ => rfl
    | cons p l ih => exact fun x q => (ih _ q).trans (x.portWake_retained p q)
  exact ⟨link_clock hframe, link_foyer hframe, link_power hframe, hret _ d,
    nat_of_beside hframe (by decide), nat_of_beside hframe (by decide), fun p hp => l3 p (List.mem_range.mpr hp)⟩

/-! ## EXIT_COMPLETE -/

/-- The part in Run, with its cores, before its ports wake. -/
def Device.exitRun (d : Device) : Device :=
  let d1 := (d.setFbState 0).setNum K.parAdmitStopped 0
  let d2 := (d1.report 0x0A03 [0, 0]).setKeyhole (fun k => { k with rotateFrom := d.clock.ticks })
  (List.range 4).foldl (fun d c => if fieldNat (d.oct K.studyCoreState) c 1 = 1 then d.setCore c 0 else d) d2

/-- The instances, the Ledger and Attic as they go on after the ports woke. -/
def Device.exitServe (d : Device) : Device :=
  let d4 := d.ptpWake
  (if d4.ledger.begun then d4.openBatch else d4).atticWake

/-- The tick at which the ramp of the last sequencer step ends. -/
def Device.rampEnd (d : Device) : Nat := (d.power.lastStep.map Prod.snd).getD 0

/-- The part once the exit from Doze or Park has ended. -/
def Device.exitEnded (x : Device) : Device :=
  ((x.exitRun.portsAwake.exitServe.report 0x0202 [x.num K.fbWakeCause, x.num K.fbWakePort, x.addedExit (x.nat K.fbState)]).setPower
    (fun p => { p with waking := none, idleFrom := x.clock.ticks, xtalAt := x.clock.ticks })).setFoyer (fun f => { f with hbLast := x.clock.ticks })

theorem Device.exitDone_idle (h : d.power.waking = none ∨ (∃ x ∈ d.power.steps, x.exit = true) ∨ d.power.held ≠ 0) : d.exitDone = d := by
  refine if_pos ?_
  obtain h | ⟨x, hx, he⟩ | h := h
  · rw [h]
    rfl
  · have hany : d.power.steps.any (·.exit) = true := List.any_eq_true.mpr ⟨x, hx, he⟩
    rw [hany, Bool.or_true, Bool.true_or]
  · have hup : d.up = false := decide_eq_false h
    rw [hup, Bool.not_false, Bool.or_true]

theorem Device.exitDone_eq (hw : d.power.waking ≠ none) (hs : ∀ x ∈ d.power.steps, x.exit = false) (hh : d.power.held = 0) (hst : 2 ≤ d.nat K.fbState) :
    d.exitDone = (d.runTo d.rampEnd).exitEnded := by
  have hgo : ¬ ((d.power.waking.isNone || d.power.steps.any (·.exit) || !d.up) = true) := by
    have hup : d.up = true := decide_eq_true hh
    rw [hup]
    simp only [Bool.or_eq_true, Option.isNone_iff_eq_none, List.any_eq_true, Bool.not_true, Bool.false_eq_true, or_false, not_or, not_exists, not_and]
    exact ⟨hw, fun x hx => Bool.eq_false_iff.mp (hs x hx)⟩
  unfold Device.exitDone
  rw [if_neg hgo]
  extract_lets x st now d1 d2 d3 d4 d5 d6
  have hx : x = d.runTo d.rampEnd := by
    refine congrArg d.runTo ?_
    unfold Device.rampEnd
    cases d.power.lastStep <;> rfl
  have hnot : ¬ st < 2 := by
    have hkept : st = d.nat K.fbState := by
      show x.nat K.fbState = _
      rw [hx, Device.runTo_nat]
    omega
  rw [if_neg hnot, ← hx]
  clear_value x
  show (((if d4.ledger.begun then d4.openBatch else d4).atticWake.report 0x0202 _).setPower _).setFoyer _ = _
  have h3 : d3 = x.exitRun := rfl
  have h4 : d4 = x.exitRun.portsAwake.ptpWake := by rw [← h3]; rfl
  rw [h4]
  rfl

theorem Device.exitRun_obeys : let t := d.exitRun
    t.clock = d.clock ∧ t.foyer = d.foyer ∧ t.power = d.power ∧ (∀ p, (t.port p).retained = (d.port p).retained) ∧
      t.nat K.fbState = 0 ∧ t.nat K.parAdmitStopped = 0 ∧ ∀ k, faceKey k = true → t.val k = d.val k := by
  have f1 := d.setFbState_self 0
  obtain ⟨f2, f3, f4, -, f5⟩ := d.setFbState_same 0
  have f6 (k : Nat) (hk : k ≠ K.fbState) := d.setFbState_val 0 hk
  unfold Device.exitRun
  dsimp only
  generalize d.setFbState 0 = x at *
  obtain ⟨y, hy⟩ : ∃ y, ((x.setNum K.parAdmitStopped 0).report 0x0A03 [0, 0]).setKeyhole (fun k => { k with rotateFrom := d.clock.ticks }) = y := ⟨_, rfl⟩
  have hsame : y.clock = x.clock ∧ y.foyer = x.foyer ∧ y.power = x.power ∧ y.ports = x.ports ∧ ∀ k, y.val k = (x.setNum K.parAdmitStopped 0).val k := by
    subst hy
    exact ⟨rfl, rfl, rfl, rfl, fun _ => rfl⟩
  obtain ⟨y1, y2, y3, y4, y5⟩ := hsame
  rw [hy]
  have hcores := Device.exitKeeps_foldl (g := fun d c => if fieldNat (d.oct K.studyCoreState) c 1 = 1 then d.setCore c 0 else d) (List.range 4)
    (fun z c _ => .ite (z.exitKeeps_setCore c 0) (.refl z)) y
  generalize (List.range 4).foldl (fun d c => if fieldNat (d.oct K.studyCoreState) c 1 = 1 then d.setCore c 0 else d) y = t at hcores ⊢
  have hne (k : Nat) (hk : k ≠ K.parAdmitStopped) : y.val k = x.val k := (y5 k).trans (x.val_setVal_ne _ hk)
  have hface (k : Nat) (hk : faceKey k = true) : k ≠ K.parAdmitStopped ∧ k ≠ K.fbState := by
    have := faceKey_range hk
    simp only [K.parAdmitStopped, K.fbState]
    omega
  refine ⟨hcores.clock.trans (y1.trans f2), hcores.foyer.trans (y2.trans f4), hcores.power.trans (y3.trans f3), fun p => (hcores.retained p).trans ?_,
    (hcores.nat (by decide)).trans ?_, (hcores.nat (by decide)).trans ?_, fun k hk => ?_⟩
  · exact congrArg PortUnit.retained (port_of_ports (y4.trans f5) p)
  · exact (congrArg (fun v => v.int.toNat) (hne K.fbState (by decide))).trans f1
  · exact (congrArg (fun v => v.int.toNat) (y5 K.parAdmitStopped)).trans (x.nat_setNum_self _ _)
  · exact (hcores.val k (Bool.or_eq_true_iff.mpr (.inl (Bool.or_eq_true_iff.mpr (.inl hk))))).trans ((hne k (hface k hk).1).trans (f6 k (hface k hk).2))

theorem Device.exitServe_keeps : d.ExitKeeps d.exitServe := by
  unfold Device.exitServe
  dsimp only
  have h1 := d.exitKeeps_ptpWake
  generalize d.ptpWake = x at h1 ⊢
  exact (h1.trans (.ite x.exitKeeps_openBatch (.refl x))).trans (Device.exitKeeps_atticWake _)

/-- R535: from Doze or Park, with no frame and no request that waits. -/
theorem Device.exitEnded_obeys : let t := d.exitEnded
    t.clock = d.clock ∧ t.power.waking = none ∧ t.power.idleFrom = d.clock.ticks ∧ t.foyer = { d.foyer with hbLast := d.clock.ticks } ∧
      (∀ p, (t.port p).retained = (d.port p).retained) ∧ t.nat K.fbState = 0 ∧ t.nat K.parAdmitStopped = 0 ∧
      ∀ p < 44, t.link p = wakeLink (d.link p) (d.nat (K.portPower p) = 1) := by
  have hlink : ∀ p < 44, faceKey (K.portLinkState p) = true ∧ faceKey (K.portPower p) = true := by decide
  obtain ⟨a1, a2, a3, a4, a5, a6, a7⟩ := d.exitRun_obeys
  unfold Device.exitEnded
  generalize d.exitRun = a at *
  obtain ⟨b1, b2, b3, b4, b5, b6, b7⟩ := a.portsAwake_obeys
  generalize a.portsAwake = b at *
  have hc := b.exitServe_keeps
  generalize b.exitServe = c at *
  have hshow (q : List Int) (g : Power → Power) (u : Foyer → Foyer) (k : Nat) : (((c.report 0x0202 q).setPower g).setFoyer u).nat k = c.nat k := rfl
  have hface (k : Nat) (hk : faceKey k = true) : exitKey k = true := Bool.or_eq_true_iff.mpr (.inl (Bool.or_eq_true_iff.mpr (.inl hk)))
  have hnat (k : Nat) (hk : faceKey k = true) : a.nat k = d.nat k := congrArg (fun v => v.int.toNat) (a7 k hk)
  refine ⟨hc.clock.trans (b1.trans a1), rfl, rfl, ?_, fun p => (hc.retained p).trans ((b4 p).trans (a4 p)), ?_, ?_, fun p hp => ?_⟩
  · show { c.foyer with hbLast := d.clock.ticks } = _
    rw [hc.foyer, b2, a2]
  · exact (hshow _ _ _ _).trans ((hc.nat (by decide)).trans (b5.trans a5))
  · exact (hshow _ _ _ _).trans ((hc.nat (by decide)).trans (b6.trans a6))
  · obtain ⟨h1, h2⟩ := hlink p hp
    have hl : a.link p = d.link p := hnat _ h1
    exact (hshow _ _ _ _).trans ((hc.nat (hface _ h1)).trans ((b7 p hp).trans (by rw [hl, hnat _ h2])))

theorem Device.exitComplete_idle (env : HapEnv) (h : d.power.waking = none ∨ (∃ x ∈ d.power.steps, x.exit = true) ∨ d.power.held ≠ 0) :
    d.exitComplete env = d := by
  unfold Device.exitComplete
  rw [d.exitDone_idle h]
  refine if_pos ?_
  cases d.power.waking <;> rfl

/-- With no frame and no request that waits, the exit's end serves none. -/
theorem Device.exitComplete_eq (env : HapEnv) (hw : d.power.waking ≠ none) (hd : d.exitDone.power.waking = none) (hf : d.exitDone.foyer.held = [])
    (hr : ∀ p < 44, (d.exitDone.port p).retained = none) : d.exitComplete env = d.exitDone := by
  unfold Device.exitComplete
  generalize d.exitDone = x at *
  have hgo : ¬ ((x.power.waking.isSome || d.power.waking.isNone) = true) := by
    simp [hd, hw]
  have hx : x.setFoyer (fun f => { f with held := [] }) = x := by
    show { x with foyer := { x.foyer with held := [] } } = x
    rw [← hf]
  have hserve : ∀ l : List Nat, (∀ p ∈ l, p < 44) → l.foldl (fun d p => d.serveRetained p env) x = x := by
    intro l
    induction l with
    | nil => exact fun _ => rfl
    | cons p l ih =>
      intro hl
      have h1 : x.serveRetained p env = x := by
        unfold Device.serveRetained
        rw [hr p (hl p List.mem_cons_self)]
      rw [List.foldl_cons, h1]
      exact ih fun q hq => hl q (List.mem_cons_of_mem p hq)
  dsimp only
  rw [if_neg hgo, hf, hx]
  exact hserve _ fun p hp => List.mem_range.mp hp

end

end Sys2Proof.Machine
end

section
/-! O57: the power states. -/

namespace Sys2Proof.Machine

/-- IDLE_TIME_EXPIRY of a part in Run or Trim, from the part at the end of the idle time. -/
theorem Device.idleExpiry_runs {d x : Device} (h1 : d.power.held = 0) (h2 : d.asleep = false) (h3 : d.power.entry = none) (h4 : d.power.waking = none)
    (hx : d.runTo (d.power.idleFrom + d.nat K.fbIdleTime * msTicks) = x) : let t := d.idleExpiry
    t.clock = x.clock ∧
      (x.busy ∨ x.nat K.fbTarget < 2 → t.power.entry = none ∧ t.nat K.fbState = min 1 (x.nat K.fbTarget) ∧ ∀ k, k ≠ K.fbState → t.val k = x.val k) ∧
      (¬ x.busy → 2 ≤ x.nat K.fbTarget → x.nat K.fbTarget ≤ 4 →
        t.power.entry = some (if x.power.vbatLow = true ∨ x.deepSource = false then min 3 (x.nat K.fbTarget) else x.nat K.fbTarget, 2) ∧
        t.nat K.fbState = x.nat K.fbState ∧ t.nat K.parAdmitStopped = 1) := by
  have heq := d.idleExpiry_eq h1 h2 h3 h4
  have hentry : x.power.entry = none := by
    rw [← hx, Device.runTo_power]
    exact h3
  rw [hx] at heq
  generalize d.idleExpiry = t at heq ⊢
  exact Device.idleExpiry_obeys hentry heq

/-- Settles O57, command by command: the tolerance, the idle time, the end of an entry, the sources of a wake and the end of an exit. -/
theorem powerStatesFollowTheTolerance : Obligations.PowerStatesFollowTheTolerance := by
  unfold Obligations.PowerStatesFollowTheTolerance
  refine ⟨fun s h n hn => ?_, fun s => ⟨fun hi => ?_, fun h1 h2 h3 h4 => ?_⟩, fun s => ⟨fun hi => ?_, fun target x he hlo hhi ha hf hb h4 => ?_⟩,
    fun s src port => ?_, fun s pin level => ⟨fun hi => ?_, fun hp h1 h2 he ha hw => ?_⟩, fun s => ⟨fun hi => ?_, fun n hn hz he hst hw => ?_⟩,
    fun s env => ⟨fun hi => ?_, fun w hw hs hh hst hf hr => ?_⟩⟩
  · intro v d hw
    exact ⟨_, s.latencyTol_written h hn hw, fun x h1 h2 h3 => x.writeLatencyTol_obeys n h1 h2 h3⟩
  · rw [exec_idleTimeExpiry, State.on, s.dev.idleExpiry_idle hi]
  · intro d busy
    have hd : s.dev.runTo (s.dev.power.idleFrom + s.dev.nat K.fbIdleTime * msTicks) = d := rfl
    have hobeys := s.dev.idleExpiry_runs h1 h2 h3 h4 hd
    have hval (k : Nat) : d.val k = s.dev.val k := s.dev.runTo_val _ _
    have hstate : d.nat K.fbState = s.dev.nat K.fbState := s.dev.runTo_nat _ _
    have hexec : exec .idleTimeExpiry s = .next { s with dev := s.dev.idleExpiry } := rfl
    clear_value d
    generalize s.dev.idleExpiry = t at *
    obtain ⟨i1, i2, i3⟩ := hobeys
    refine ⟨_, hexec, rfl, congrArg Clock.ticks i1, congrArg Clock.mt i1, fun hb => ?_, fun hb ht1 ht2 => ?_⟩
    · obtain ⟨j1, j2, j3⟩ := i2 hb
      exact ⟨j1, j2, fun k hk => (j3 k hk).trans (hval k)⟩
    · obtain ⟨j1, j2, j3⟩ := i3 hb ht1 ht2
      exact ⟨j1, j2.trans hstate, j3⟩
  · rw [exec_powerEntryComplete, State.on, s.dev.entryComplete_idle hi]
  · have hobeys := s.dev.entryComplete_obeys he hlo hhi hf hb h4
    have hexec : exec .powerEntryComplete s = .next { s with dev := s.dev.entryComplete } := rfl
    generalize s.dev.entryComplete = t at *
    exact ⟨_, hexec, rfl, hobeys⟩
  · intro fires enabled
    have hexec : exec (.wake src port) s = .next { s with dev := s.dev.wake src port } := rfl
    refine ⟨fun hi => ?_, fun hf hb he hst hw hn => ?_, fun hf hb target x he ht hn => ?_⟩
    · rw [exec_wake, State.on, s.dev.wake_idle hi]
    · have hobeys := s.dev.wake_begins hf hb he hst hw hn
      generalize s.dev.wake src port = t at *
      exact ⟨_, hexec, rfl, hobeys⟩
    · rw [s.dev.wake_of_fires hf, s.dev.fbWake_entering he (s.dev.wakeAllowed_light hf hb ht)] at hexec
      have hobeys := s.dev.abortEntry_obeys 1 he (by decide) hn
      generalize s.dev.abortEntry 1 = t at *
      exact ⟨_, hexec, rfl, hobeys⟩
  · rw [exec_wakeInPin, State.on, s.dev.wakeIn_idle hi]
  · have hobeys := s.dev.wakeIn_obeys hp h1 h2 he ha hw
    have hexec : exec (.wakeInPin pin level) s = .next { s with dev := s.dev.wakeIn pin level } := rfl
    generalize s.dev.wakeIn pin level = t at *
    exact ⟨_, hexec, rfl, hobeys⟩
  · rw [exec_cellarAlarm, State.on, s.dev.cellarAlarm_idle hi]
  · have hobeys := s.dev.cellarAlarm_obeys hn hz he hst hw
    have hexec : exec .cellarAlarm s = .next { s with dev := s.dev.cellarAlarm } := rfl
    generalize s.dev.cellarAlarm = t at *
    exact ⟨_, hexec, rfl, hobeys⟩
  · rw [exec_exitComplete, State.on, s.dev.exitComplete_idle env hi]
  · have hne : s.dev.power.waking ≠ none := by rw [hw]; exact Option.some_ne_none w
    have heq := s.dev.exitDone_eq hne hs hh (by omega)
    obtain ⟨e1, e2, e3, e4, e5, e6, e7, e8⟩ := (s.dev.runTo s.dev.rampEnd).exitEnded_obeys
    rw [← heq] at e1 e2 e3 e4 e5 e6 e7 e8
    have hserved := s.dev.exitComplete_eq env hne e2 (by rw [e4]; exact hf) fun p hp => (e5 p).trans (hr p hp)
    have hexec : exec (.exitComplete env) s = .next { s with dev := s.dev.exitComplete env } := rfl
    rw [hserved] at hexec
    clear heq hserved
    generalize s.dev.exitDone = t at *
    refine ⟨_, hexec, rfl, e6, e7, e2, by rw [e3, e1], by rw [e4, e1], fun start ramp hlast => ?_, fun p hp => (e8 p hp).trans ?_⟩
    · rw [e1, Device.runTo_ticks, Device.rampEnd, hlast]
      rfl
    · simp only [wakeLink, decide_eq_true_eq]
      rfl

end Sys2Proof.Machine
end

section
/-! Chapter 21: resets (R547 to R549, R556). -/

namespace Sys2Proof.Machine

theorem exec_rstNAssert (s : State) : exec .rstNAssert s = .next (s.on (·.assertReset 2 false)) := rfl
theorem exec_testEnHigh (s : State) : exec .testEnHigh s = .next (s.on (·.assertReset 2 false)) := rfl
theorem exec_overtempReset (s : State) : exec .overtempReset s = .next (s.on (·.assertReset 1 false)) := rfl
theorem exec_supplyReset (vbat torn : Bool) (s : State) : exec (.supplyReset vbat torn) s = .next (s.on (·.supplyReset vbat torn)) := rfl
theorem exec_deviceWatchdog (s : State) : exec .deviceWatchdog s = .next (s.on (·.deviceWatchdog)) := rfl

/-! ## What a reset keeps -/

/-- Table 21-2: what every reset keeps, and what it ends. -/
def Device.ResetKeeps (d t : Device) : Prop :=
  t.clock.mtRun = false ∧ t.clock.ticks = d.clock.ticks ∧ t.lock = 0 ∧ t.staged = [] ∧ t.attic.pending = [] ∧ t.attic.flash = d.attic.flash ∧
    t.attic.next = d.attic.next ∧ t.models = d.models ∧ t.study.images = d.study.images ∧ t.study.cfg = d.study.cfg ∧ t.study.flag = d.study.flag ∧
    t.keyhole.copies = d.keyhole.copies ∧ t.keyhole.provisioned = d.keyhole.provisioned ∧ t.keyhole.cosign = d.keyhole.cosign ∧
    t.keyhole.rollback = d.keyhole.rollback

/-- Table 21-2: what a reset for a cause keeps with VBAT. -/
def Device.WarmReset (d t : Device) (cause : Nat) : Prop :=
  d.ResetKeeps t ∧ t.power.held = cause ∧ t.power.cause = cause ∧ t.clock.xtal = d.clock.xtal ∧ t.attic.retention = d.attic.retention ∧
    t.keyhole.cellarGen = d.keyhole.cellarGen ∧ t.cellar = { d.cellar with alarmFrom := none } ∧
    ∀ k, t.val k = if k ∈ keptKeys then d.val k else dictDefault k

section
variable (d : Device)

/-- Objects carried over one by one. -/
theorem Device.val_carried (l : List Nat) (f : Device) (k : Nat) :
    (l.foldl (fun f k => f.setVal k (d.val k)) f).val k = if k ∈ l then d.val k else f.val k := by
  induction l generalizing f with
  | nil => simp
  | cons j l ih =>
    rw [List.foldl_cons, ih, Device.val_setVal]
    by_cases hk : k = j
    · simp [hk]
    · simp [hk]

/-- What a list of objects carried over leaves. -/
def carryBlank : Blank := { clear := fun d => { d with obj := [], lost := [] }, clear_setVal := fun _ _ _ => rfl }

theorem Device.clear_carried (l : List Nat) (f : Device) : carryBlank.clear (l.foldl (fun f k => f.setVal k (d.val k)) f) = carryBlank.clear f := by
  induction l generalizing f with
  | nil => rfl
  | cons j l ih => exact (ih _).trans rfl

/-- The part as a restart begins, before the objects that it keeps are carried over. -/
def Device.blank (d : Device) (cause : Nat) (cold : Bool) : Device :=
  { draws := d.draws, outbox := d.outbox, models := d.models
    clock := { ticks := d.clock.ticks, xtal := if cold then 0 else d.clock.xtal }
    attic := { d.attic with pending := [], reports := [], lastSeen := [] }
    cellar := if cold then {} else { d.cellar with alarmFrom := none }
    keyhole := { helper := d.keyhole.helper, provisioned := d.keyhole.provisioned, cosign := d.keyhole.cosign, rollback := d.keyhole.rollback,
                 copies := d.keyhole.copies, cellarGen := if cold then none else d.keyhole.cellarGen }
    study := { images := d.study.images, passed := d.study.passed, flag := d.study.flag, cfg := d.study.cfg }
    power := { held := cause, cause := cause, replans := if cold then [] else d.power.replans, vbatLow := d.power.vbatLow } }

theorem Device.blank_val (cause : Nat) (cold : Bool) (k : Nat) : (d.blank cause cold).val k = dictDefault k := rfl

theorem Device.restart_cold (cause : Nat) : d.restart cause true = d.blank cause true := rfl

theorem Device.restart_warm (cause : Nat) : d.restart cause false = keptKeys.foldl (fun f k => f.setVal k (d.val k)) (d.blank cause false) := rfl

theorem Device.lock_of_val {t : Device} (h : t.val K.lockState = dictDefault K.lockState) : t.lock = 0 := by
  rw [Device.lock, Device.nat, Device.num, h]
  rfl

/-- R549: a restart with VBAT. -/
theorem Device.restart_obeys (cause : Nat) : d.WarmReset (d.restart cause false) cause := by
  have hval (k : Nat) : (d.restart cause false).val k = if k ∈ keptKeys then d.val k else dictDefault k := by
    rw [d.restart_warm, d.val_carried, d.blank_val]
  have hclear := d.clear_carried keptKeys (d.blank cause false)
  rw [← d.restart_warm] at hclear
  have hlock : K.lockState ∉ keptKeys := by decide
  generalize d.restart cause false = t at *
  have hclock : t.clock = (d.blank cause false).clock := congrArg (fun x => x.clock) hclear
  have hattic : t.attic = (d.blank cause false).attic := congrArg (fun x => x.attic) hclear
  have hstudy : t.study = (d.blank cause false).study := congrArg (fun x => x.study) hclear
  have hkeyhole : t.keyhole = (d.blank cause false).keyhole := congrArg (fun x => x.keyhole) hclear
  have hpower : t.power = (d.blank cause false).power := congrArg (fun x => x.power) hclear
  have hcellar : t.cellar = (d.blank cause false).cellar := congrArg (fun x => x.cellar) hclear
  have hstaged : t.staged = (d.blank cause false).staged := congrArg (fun x => x.staged) hclear
  have hmodels : t.models = (d.blank cause false).models := congrArg (fun x => x.models) hclear
  refine ⟨⟨by rw [hclock]; rfl, by rw [hclock]; rfl, Device.lock_of_val ((hval _).trans (if_neg hlock)), hstaged, by rw [hattic]; rfl, by rw [hattic]; rfl,
    by rw [hattic]; rfl, hmodels, by rw [hstudy]; rfl, by rw [hstudy]; rfl, by rw [hstudy]; rfl, by rw [hkeyhole]; rfl, by rw [hkeyhole]; rfl,
    by rw [hkeyhole]; rfl, by rw [hkeyhole]; rfl⟩, by rw [hpower]; rfl, by rw [hpower]; rfl, by rw [hclock]; rfl, by rw [hattic]; rfl, by rw [hkeyhole]; rfl, hcellar, hval⟩

/-- R549: a restart without VBAT. -/
theorem Device.restart_cold_obeys (cause : Nat) : let t := d.restart cause true
    d.ResetKeeps t ∧ t.cellar = {} ∧ t.clock.xtal = 0 ∧ t.keyhole.cellarGen = none ∧ ∀ k, t.val k = dictDefault k :=
  ⟨⟨rfl, rfl, Device.lock_of_val rfl, rfl, rfl, rfl, rfl, rfl, rfl, rfl, rfl, rfl, rfl, rfl, rfl⟩, rfl, rfl, rfl, fun _ => rfl⟩

/-- R547, R548: a reset asserted in service or in Deep Off. -/
theorem Device.assertReset_obeys (cause : Nat) (h : d.power.held = 0 ∨ 4 ≤ d.power.held) :
    d.WarmReset (d.assertReset cause false) (if d.power.held = 0 ∨ d.power.cause = 0 then cause else min cause d.power.cause) := by
  have heq : d.assertReset cause false = d.restart (if d.power.held = 0 || d.power.cause = 0 then cause else min cause d.power.cause) false := by
    refine if_pos ?_
    simpa using h
  rw [heq]
  simp only [Bool.or_eq_true, decide_eq_true_eq]
  exact d.restart_obeys _

/-- R511: what a supply's fall does to a record that is being written stays in the Attic. -/
theorem Device.supplyReset_warm (torn : Bool) (h : d.power.held = 0) : d.WarmReset (d.supplyReset false torn) 1 := by
  have hgo : ¬ ((d.power.held = 4 && !false) = true) := by
    rw [h]
    decide
  have heq : d.supplyReset false torn = (if torn && d.coreRuns 3 && !d.asleep && d.attic.pending ≠ [] then
      d.setAttic (fun a => { a with torn := some a.pos }) else d).assertReset 1 false := if_neg hgo
  rw [heq]
  split
  · have := (d.setAttic (fun a => { a with torn := some a.pos })).assertReset_obeys 1 (.inl h)
    rw [if_pos (.inl h)] at this
    exact this
  · have := d.assertReset_obeys 1 (.inl h)
    rwa [if_pos (.inl h)] at this

theorem Device.supplyReset_cold (torn : Bool) : let t := d.supplyReset true torn
    d.ResetKeeps t ∧ t.cellar = {} ∧ t.clock.xtal = 0 ∧ t.keyhole.cellarGen = none ∧ ∀ k, t.val k = dictDefault k := by
  have hgo : ¬ ((d.power.held = 4 && !true) = true) := by simp
  have hcold (x : Device) : ∃ c, x.assertReset 1 true = x.restart c true := ⟨_, if_pos (by simp)⟩
  have heq : d.supplyReset true torn = (if torn && d.coreRuns 3 && !d.asleep && d.attic.pending ≠ [] then
      d.setAttic (fun a => { a with torn := some a.pos }) else d).assertReset 1 true := if_neg hgo
  rw [heq]
  split
  · obtain ⟨c, hc⟩ := hcold (d.setAttic (fun a => { a with torn := some a.pos }))
    rw [hc]
    exact (d.setAttic (fun a => { a with torn := some a.pos })).restart_cold_obeys c
  · obtain ⟨c, hc⟩ := hcold d
    rw [hc]
    exact d.restart_cold_obeys c

theorem Device.supplyReset_deep (torn : Bool) (h : d.power.held = 4) : d.supplyReset false torn = d.setPower (fun p => { p with cause := 1 }) :=
  if_pos (by rw [h]; rfl)

/-! ## The watchdog -/

/-- R556: the instants at which the watchdog falls due. -/
def Device.watchdogDue (d : Device) : List Nat :=
  let halted := (List.range 4).filterMap (fun c => d.study.haltedAt.getD c none)
  let second := halted.min?.bind (fun t => (halted.erase t).min?)
  (second.map (· + d.nat K.fbDevWdtDelay * sTicks)).toList ++ ((d.study.haltedAt.getD 3 none).map (· + d.nat K.fbDevWdtDelay * sTicks)).toList
    ++ (if d.power.configDone then [] else (d.power.imageAt.map (· + 2 * sTicks)).toList)

theorem Device.watchdog_idle (h : d.power.held ≠ 0 ∨ d.keyhole.recovery = true ∨ d.watchdogDue = []) : d.deviceWatchdog = d := by
  unfold Device.deviceWatchdog
  dsimp only
  split
  · rename_i t ht
    refine if_neg ?_
    rcases h with h | h | h
    · have hup : d.up = false := decide_eq_false h
      simp [hup]
    · simp [h]
    · have hnone : d.watchdogDue.min? = some t := ht
      rw [h] at hnone
      cases hnone
  · rfl

theorem Device.watchdog_resets {t : Nat} (h1 : d.power.held = 0) (h2 : d.keyhole.recovery = false) (h3 : d.watchdogDue = [t]) :
    (d.runTo t).WarmReset d.deviceWatchdog 3 := by
  have heq : d.deviceWatchdog = (d.runTo t).assertReset 3 false := by
    have hmin : d.watchdogDue.min? = some t := by rw [h3]; rfl
    unfold Device.deviceWatchdog
    dsimp only
    split
    · rename_i u hu
      have hut : some u = some t := Eq.trans hu.symm hmin
      rw [if_pos (by simp [Device.up, h1, h2]), Option.some.inj hut]
    · rename_i hu
      exact absurd (Eq.trans hu.symm hmin) (by simp)
  rw [heq]
  have hheld : (d.runTo t).power.held = 0 := by rw [Device.runTo_power, h1]
  have := (d.runTo t).assertReset_obeys 3 (.inl hheld)
  rwa [if_pos (.inl hheld)] at this

theorem Device.watchdogDue_none (h : d.study.haltedAt = [none, none, none, none]) (hc : d.power.configDone = true ∨ d.power.imageAt = none) :
    d.watchdogDue = [] := by
  unfold Device.watchdogDue
  rw [h]
  rcases hc with hc | hc <;> rw [hc]
  · rfl
  · cases d.power.configDone <;> rfl

theorem Device.watchdogDue_three {c : Nat} (h : d.study.haltedAt = [none, none, none, some c]) (hc : d.power.configDone = true) :
    d.watchdogDue = [c + d.nat K.fbDevWdtDelay * sTicks] := by
  unfold Device.watchdogDue
  rw [h, hc]
  have hhalt : (List.range 4).filterMap (fun i => ([none, none, none, some c] : List (Option Nat)).getD i none) = [c] := rfl
  rw [hhalt]
  simp

theorem Device.watchdogDue_two {a b : Nat} (h : d.study.haltedAt = [some a, some b, none, none]) (hc : d.power.configDone = true) :
    d.watchdogDue = [max a b + d.nat K.fbDevWdtDelay * sTicks] := by
  unfold Device.watchdogDue
  rw [h, hc]
  have hhalt : (List.range 4).filterMap (fun i => ([some a, some b, none, none] : List (Option Nat)).getD i none) = [a, b] := rfl
  have hmin : [a, b].min? = some (min a b) := rfl
  have hrest : ([a, b].erase (min a b)).min? = some (max a b) := by
    rcases Nat.le_total a b with hab | hab
    · rw [Nat.min_eq_left hab, Nat.max_eq_right hab, List.erase_cons_head]
      rfl
    · rw [Nat.min_eq_right hab, Nat.max_eq_left hab]
      by_cases heq : a = b
      · subst heq
        rw [List.erase_cons_head]
        rfl
      · rw [List.erase_cons_tail (by simpa using heq), List.erase_cons_head]
        rfl
  rw [hhalt]
  dsimp only
  rw [hmin, Option.bind_some, hrest]
  simp

theorem Device.watchdogDue_late {i : Nat} (h : d.study.haltedAt = [none, none, none, none]) (hc : d.power.configDone = false) (hi : d.power.imageAt = some i) :
    d.watchdogDue = [i + 2 * sTicks] := by
  unfold Device.watchdogDue
  rw [h, hc, hi]
  rfl

end

end Sys2Proof.Machine
end

section
/-! Chapter 21: the release of the internal reset (R476, R482, R506, R551, R553). -/

namespace Sys2Proof.Machine

theorem exec_resetRelease (straps : Straps) (entropy puf : Bool) (found : StoreFaults) (shipped : List (Nat × Bytes)) (vendor : List Bool) (s : State) :
    exec (.resetRelease straps entropy puf found shipped vendor) s = .next (s.on (·.release straps entropy puf found shipped vendor)) := rfl

/-! ## What the Attic finds at a start -/

/-- What the Attic may touch beside live values: its own state. -/
def atticBlank : Blank := { clear := fun d => { d with obj := [], lost := [], attic := {} }, clear_setVal := fun _ _ _ => rfl }

/-- The Attic's objects. -/
def atticKeys : List Nat := [K.atticHead, K.atticTail, K.atticPending, K.cellarRetUsed, K.atticBadSectors, K.atticFlashState, K.atticClearState]

def atticKey (k : Nat) : Bool := k ∈ atticKeys

section
variable (d : Device)

theorem Device.rec_report (code : Nat) (p : List Int) : (d.report code p).beside atticBlank atticKey = d.beside atticBlank atticKey := rfl
theorem Device.rec_setAttic (f : Attic → Attic) : (d.setAttic f).beside atticBlank atticKey = d.beside atticBlank atticKey := rfl

theorem Device.rec_atticFollow : d.atticFollow.beside atticBlank atticKey = d.beside atticBlank atticKey :=
  d.beside_setNums _ (by simp only [List.forall_mem_cons]; exact ⟨by decide, by decide, by decide, by decide, by simp⟩)

theorem Device.rec_noteFull : d.noteFull.beside atticBlank atticKey = d.beside atticBlank atticKey := by
  unfold Device.noteFull
  split
  · rfl
  · rfl

theorem Device.rec_setFlashState (st : Nat) : (d.setFlashState st).beside atticBlank atticKey = d.beside atticBlank atticKey := by
  have hset : (d.setNum K.atticFlashState st).beside atticBlank atticKey = d.beside atticBlank atticKey := d.beside_setNum _ (by decide)
  unfold Device.setFlashState
  dsimp only
  split
  · rfl
  · generalize d.setNum K.atticFlashState st = x at hset ⊢
    split
    · exact hset
    · rw [Device.rec_atticFollow, Device.rec_noteFull, ← hset]
      split <;> rfl

theorem Device.rec_scanBad : d.scanBad.beside atticBlank atticKey = d.beside atticBlank atticKey := by
  unfold Device.scanBad
  dsimp only
  split
  · rfl
  · exact (Device.rec_setFlashState _ _).trans (d.beside_setNum _ (by decide))

/-- What the Attic finds at a start that VBAT outlived. -/
theorem Device.rec_atticStart : (d.atticStart false).beside atticBlank atticKey = d.beside atticBlank atticKey := by
  unfold Device.atticStart
  extract_lets best cleared d1 a flashed kept missing d2 d3 lost d4 d5
  have h3 : d3.beside atticBlank atticKey = d2.beside atticBlank atticKey := by
    simp only [d3]
    split <;> rfl
  have h4 : d4.beside atticBlank atticKey = d3.beside atticBlank atticKey := by
    simp only [d4]
    split <;> rfl
  have h5 : d5.beside atticBlank atticKey = d4.beside atticBlank atticKey := by
    simp only [d5]
    split <;> rfl
  have h2 : d5.beside atticBlank atticKey = d.beside atticBlank atticKey := h5.trans (h4.trans h3)
  rw [Device.rec_atticFollow, Device.rec_scanBad, ← h2]
  split
  · exact d5.beside_setNum _ (by decide)
  · rfl

end

/-! ## What the rest of a start leaves -/

/-- The objects that a start shows, and those that the check of an image reads. -/
def bootKeys : List Nat := [K.fbLastReset, K.cellarPowerCycles, K.hearthLoSel, K.khOwnerPub]

/-- `t` is `d` in the clock, the flash's stores and what a start shows, and no report is lost. -/
structure Device.BootKeeps (d t : Device) : Prop where
  clock : t.clock = d.clock
  models : t.models = d.models
  images : t.study.images = d.study.images
  cfg : t.study.cfg = d.study.cfg
  flag : t.study.flag = d.study.flag
  rollback : t.keyhole.rollback = d.keyhole.rollback
  provisioned : t.keyhole.provisioned = d.keyhole.provisioned
  held : t.power.held = d.power.held
  vddio : t.power.vddio33 = d.power.vddio33
  val : ∀ k ∈ bootKeys, t.val k = d.val k
  adds : d.Adds t

/-- `t` is moreover `d` in the image that runs and in the recovery. -/
structure Device.BootIdle (d t : Device) : Prop extends d.BootKeeps t where
  power : t.power = d.power
  recovery : t.keyhole.recovery = d.keyhole.recovery

section
variable {d e f : Device}

theorem Device.BootKeeps.trans (h : d.BootKeeps e) (h' : e.BootKeeps f) : d.BootKeeps f :=
  ⟨h'.clock.trans h.clock, h'.models.trans h.models, h'.images.trans h.images, h'.cfg.trans h.cfg, h'.flag.trans h.flag, h'.rollback.trans h.rollback,
    h'.provisioned.trans h.provisioned, h'.held.trans h.held, h'.vddio.trans h.vddio, fun k hk => (h'.val k hk).trans (h.val k hk), h.adds.trans h'.adds⟩

theorem Device.BootKeeps.refl (d : Device) : d.BootKeeps d := ⟨rfl, rfl, rfl, rfl, rfl, rfl, rfl, rfl, rfl, fun _ _ => rfl, d.adds_refl⟩

theorem Device.BootIdle.trans (h : d.BootIdle e) (h' : e.BootIdle f) : d.BootIdle f :=
  ⟨h.toBootKeeps.trans h'.toBootKeeps, h'.power.trans h.power, h'.recovery.trans h.recovery⟩

theorem Device.BootIdle.refl (d : Device) : d.BootIdle d := ⟨.refl d, rfl, rfl⟩

theorem Device.BootIdle.ite {c : Prop} [Decidable c] (h : d.BootIdle e) (h' : d.BootIdle f) : d.BootIdle (if c then e else f) := by
  split
  · exact h
  · exact h'

theorem Device.BootKeeps.nat (h : d.BootKeeps e) {k : Nat} (hk : k ∈ bootKeys) : e.nat k = d.nat k := congrArg (fun v => v.int.toNat) (h.val k hk)

variable (d)

theorem Device.bootIdle_setVal {k : Nat} (v : Val) (hk : k ∉ bootKeys) : d.BootIdle (d.setVal k v) :=
  ⟨⟨rfl, rfl, rfl, rfl, rfl, rfl, rfl, rfl, rfl, fun j hj => d.val_setVal_ne v fun h => hk (h ▸ hj), Device.adds_of_attic rfl⟩, rfl, rfl⟩

theorem Device.bootIdle_report (code : Nat) (p : List Int) : d.BootIdle (d.report code p) :=
  ⟨⟨rfl, rfl, rfl, rfl, rfl, rfl, rfl, rfl, rfl, fun _ _ => rfl, d.adds_report code p⟩, rfl, rfl⟩

/-! ## The causes and the entropy source -/

theorem Device.bootIdle_countStart : d.BootIdle d.countStart := by
  have hcellar (g : Cellar → Cellar) : d.BootIdle (d.setCellar g) :=
    ⟨⟨rfl, rfl, rfl, rfl, rfl, rfl, rfl, rfl, rfl, fun _ _ => rfl, Device.adds_of_attic rfl⟩, rfl, rfl⟩
  unfold Device.countStart
  dsimp only
  exact .ite (((hcellar _).trans (Device.bootIdle_setVal _ _ (by decide))).trans (Device.bootIdle_setVal _ _ (by decide)))
    ((hcellar _).trans (Device.bootIdle_setVal _ _ (by decide)))

theorem Device.bootIdle_reportOnce (key code : Nat) (p : List Int) : d.BootIdle (d.reportOnce key code p) := by
  have hadds := d.adds_refl.reportOnce key code p
  have h1 := d.reportOnce_study key code p
  have h2 := d.reportOnce_keyhole key code p
  have h3 := d.reportOnce_power key code p
  have h4 := d.reportOnce_clock key code p
  have h5 := d.reportOnce_models key code p
  have h6 := d.reportOnce_obj key code p
  generalize d.reportOnce key code p = t at *
  exact ⟨⟨h4, h5, by rw [h1], by rw [h1], by rw [h1], by rw [h2], by rw [h2], by rw [h3], by rw [h3], fun k _ => val_of_obj h6 k, hadds⟩, h3, by rw [h2]⟩

/-- The part with its entropy source up. -/
def Device.entropyStarts (d : Device) (now : Nat) : Device := (d.setNum K.khEntropyState 1).setKeyhole (fun k => { k with reseedAt := now })

/-- R468, R469: the entropy source passes its start-up tests, or fails them. -/
theorem Device.bootIdle_entropy (entropy : Bool) (now : Nat) :
    d.BootIdle (if entropy then (d.entropyStarts now).freshNonce else d.entropyFailed 3) ∧
      (if entropy then (d.entropyStarts now).freshNonce else d.entropyFailed 3).nat K.khEntropyState = if entropy then 1 else 2 := by
  cases entropy
  · have hkeyhole (x : Device) : x.BootIdle (x.setKeyhole (fun k => { k with failedAt := some d.clock.ticks })) :=
      ⟨⟨rfl, rfl, rfl, rfl, rfl, rfl, rfl, rfl, rfl, fun _ _ => rfl, Device.adds_of_attic rfl⟩, rfl, rfl⟩
    have h1 : d.BootIdle (((d.bump K.khEntropyFails).setNum K.khEntropyState 2).setKeyhole (fun k => { k with failedAt := some d.clock.ticks })) :=
      ((d.bootIdle_setVal _ (by decide)).trans (Device.bootIdle_setVal _ _ (by decide))).trans (hkeyhole _)
    have h2 : (((d.bump K.khEntropyFails).setNum K.khEntropyState 2).setKeyhole (fun k => { k with failedAt := some d.clock.ticks })).nat K.khEntropyState = 2 :=
      (Device.nat_setNum_self (d.bump K.khEntropyFails) K.khEntropyState 2).trans rfl
    rw [if_neg Bool.false_ne_true, if_neg Bool.false_ne_true, Device.entropyFailed]
    generalize ((d.bump K.khEntropyFails).setNum K.khEntropyState 2).setKeyhole (fun k => { k with failedAt := some d.clock.ticks }) = x at *
    exact ⟨h1.trans (Device.bootIdle_reportOnce _ _ _ _), (nat_of_obj (Device.reportOnce_obj _ _ _ _) _).trans h2⟩
  · have h1 : d.BootIdle (d.entropyStarts now) :=
      (d.bootIdle_setVal (.num 1) (k := K.khEntropyState) (by decide)).trans
        ⟨⟨rfl, rfl, rfl, rfl, rfl, rfl, rfl, rfl, rfl, fun _ _ => rfl, Device.adds_of_attic rfl⟩, rfl, rfl⟩
    have h2 : (d.entropyStarts now).nat K.khEntropyState = 1 := (d.nat_setNum_self K.khEntropyState 1).trans rfl
    rw [if_pos rfl, if_pos rfl]
    generalize d.entropyStarts now = x at *
    have hnonce : x.freshNonce = (x.drawBytes 16).2.setOct K.atticClearNonce (x.drawBytes 16).1 := if_neg (by simp [Device.entropyOk, h2])
    have hdraw : x.BootIdle (x.drawBytes 16).2 := ⟨⟨rfl, rfl, rfl, rfl, rfl, rfl, rfl, rfl, rfl, fun _ _ => rfl, Device.adds_of_attic rfl⟩, rfl, rfl⟩
    have hval : (x.drawBytes 16).2.nat K.khEntropyState = x.nat K.khEntropyState := rfl
    rw [hnonce]
    generalize x.drawBytes 16 = y at *
    refine ⟨h1.trans (hdraw.trans (Device.bootIdle_setVal _ _ (by decide))), ?_⟩
    exact (congrArg (fun v => v.int.toNat) (Device.val_setVal_ne y.2 (k := K.atticClearNonce) (j := K.khEntropyState) _ (by decide))).trans (hval.trans h2)

/-! ## The images (R482, R493) -/

theorem imageCheck_congr {d e : Device} (h1 : e.val K.khOwnerPub = d.val K.khOwnerPub) (h2 : e.val K.khOwnerCosign = d.val K.khOwnerCosign)
    (h3 : e.keyhole.rollback = d.keyhole.rollback) (img : Bytes) (vendor : Bool) : e.imageCheck img vendor = d.imageCheck img vendor := by
  have ho : e.oct K.khOwnerPub = d.oct K.khOwnerPub := congrArg Val.bytes h1
  have hn : e.num K.khOwnerCosign = d.num K.khOwnerCosign := congrArg Val.int h2
  unfold Device.imageCheck
  rw [ho, hn, h3]

/-- What the try of a location notes of its check. -/
def Device.imageNoted (d : Device) (loc code sec : Nat) : Device :=
  (d.report 0x0C05 [loc, code, sec]).setStudy (fun s => { s with passed := s.passed.set loc (code = 0) })

theorem Device.bootIdle_imageNoted (loc code sec : Nat) : d.BootIdle (d.imageNoted loc code sec) :=
  ⟨⟨rfl, rfl, rfl, rfl, rfl, rfl, rfl, rfl, rfl, fun _ _ => rfl, d.adds_report _ _⟩, rfl, rfl⟩

/-- The part with an accepted image. -/
def Device.imageTaken (d : Device) (loc sec now : Nat) (status hash : Bytes) : Device :=
  ((((d.setOct K.khBootStatus status).setOct K.khFwHash hash).setNum K.studyActiveLoc loc).setKeyhole (fun k => { k with secVersion := sec })).setPower
    (fun p => { p with imageAt := some now })

theorem Device.imageTaken_obeys (loc sec now : Nat) (status hash : Bytes) : let t := d.imageTaken loc sec now status hash
    d.BootKeeps t ∧ t.keyhole.recovery = d.keyhole.recovery ∧ t.power.imageAt = some now ∧ t.nat K.studyActiveLoc = loc ∧
      t.val K.khOwnerCosign = d.val K.khOwnerCosign := by
  obtain ⟨x, hx⟩ : ∃ x, (d.setOct K.khBootStatus status).setOct K.khFwHash hash = x := ⟨_, rfl⟩
  have h1 : d.BootIdle x := hx ▸ (d.bootIdle_setVal _ (by decide)).trans (Device.bootIdle_setVal _ _ (by decide))
  have h2 : x.val K.khOwnerCosign = d.val K.khOwnerCosign := hx ▸ (Device.val_setVal_ne _ _ (by decide)).trans (d.val_setVal_ne _ (by decide))
  have h3 := x.bootIdle_setVal (.num loc) (k := K.studyActiveLoc) (by decide)
  have h4 : (x.setNum K.studyActiveLoc loc).nat K.studyActiveLoc = loc := (Device.nat_setNum_self _ _ _).trans (Int.toNat_natCast loc)
  have h5 : (x.setNum K.studyActiveLoc loc).val K.khOwnerCosign = x.val K.khOwnerCosign := x.val_setVal_ne _ (by decide)
  unfold Device.imageTaken
  rw [hx]
  obtain ⟨y, hy⟩ : ∃ y, x.setNum K.studyActiveLoc loc = y := ⟨_, rfl⟩
  have hxy : d.BootIdle y := h1.trans (hy ▸ h3)
  rw [hy] at h4 h5 ⊢
  have hlast : y.BootKeeps ((y.setKeyhole (fun k => { k with secVersion := sec })).setPower (fun p => { p with imageAt := some now })) :=
    ⟨rfl, rfl, rfl, rfl, rfl, rfl, rfl, rfl, rfl, fun _ _ => rfl, Device.adds_of_attic rfl⟩
  exact ⟨hxy.toBootKeeps.trans hlast, hxy.recovery, rfl, h4, h5.trans h2⟩

theorem Device.tryImage_taken (loc : Nat) (second vendor : Bool) {n : Nat} (h : d.power.imageAt = some n) : d.tryImage loc second vendor = d :=
  if_pos (by rw [h]; rfl)

/-- R482: a location whose image fails a check. -/
theorem Device.tryImage_fails {loc : Nat} {second vendor : Bool} (h : d.power.imageAt = none)
    (hc : d.imageCheck (d.study.images.getD loc []) vendor ≠ 0) : d.BootIdle (d.tryImage loc second vendor) ∧
      (d.tryImage loc second vendor).val K.khOwnerCosign = d.val K.khOwnerCosign := by
  have heq : d.tryImage loc second vendor = d.imageNoted loc (d.imageCheck (d.study.images.getD loc []) vendor) (fieldNat (d.study.images.getD loc []) 8 1) := by
    unfold Device.tryImage
    rw [if_neg (by rw [h]; exact Bool.false_ne_true)]
    exact if_pos hc
  rw [heq]
  exact ⟨d.bootIdle_imageNoted _ _ _, rfl⟩

/-- R482: a location whose image passes every check starts the cores. -/
theorem Device.tryImage_passes {loc : Nat} {second vendor : Bool} (h : d.power.imageAt = none)
    (hc : d.imageCheck (d.study.images.getD loc []) vendor = 0) : let t := d.tryImage loc second vendor
    d.BootKeeps t ∧ t.keyhole.recovery = d.keyhole.recovery ∧ t.power.imageAt = some d.clock.ticks ∧ t.nat K.studyActiveLoc = loc ∧
      t.val K.khOwnerCosign = d.val K.khOwnerCosign := by
  have heq : ∃ status hash, d.tryImage loc second vendor =
      (d.imageNoted loc 0 (fieldNat (d.study.images.getD loc []) 8 1)).imageTaken loc (fieldNat (d.study.images.getD loc []) 8 1) d.clock.ticks status hash := by
    unfold Device.tryImage
    rw [if_neg (by rw [h]; exact Bool.false_ne_true)]
    dsimp only
    rw [hc]
    exact ⟨_, _, rfl⟩
  obtain ⟨status, hash, heq⟩ := heq
  rw [heq]
  have hn := d.bootIdle_imageNoted loc 0 (fieldNat (d.study.images.getD loc []) 8 1)
  have hv : (d.imageNoted loc 0 (fieldNat (d.study.images.getD loc []) 8 1)).val K.khOwnerCosign = d.val K.khOwnerCosign := rfl
  generalize d.imageNoted loc 0 (fieldNat (d.study.images.getD loc []) 8 1) = x at hn hv ⊢
  obtain ⟨i1, i2, i3, i4, i5⟩ := x.imageTaken_obeys loc (fieldNat (d.study.images.getD loc []) 8 1) d.clock.ticks status hash
  exact ⟨hn.toBootKeeps.trans i1, i2.trans hn.recovery, i3, i4, i5.trans hv⟩

end

end Sys2Proof.Machine
end

section
/-! Chapter 21: RESET_RELEASE (R476, R482, R493, R551, R553). -/

namespace Sys2Proof.Machine

section
variable (d : Device)

/-! ## IMAGE_VERIFY -/

theorem Device.followLocs_idle : d.BootIdle d.followLocs ∧ d.followLocs.val K.khOwnerCosign = d.val K.khOwnerCosign ∧
    d.followLocs.nat K.studyActiveLoc = d.nat K.studyActiveLoc := by
  have hset (x y : Bytes) : d.BootIdle ((d.setOct K.studyLocInfo x).setOct K.studyFwImage y) ∧
      ∀ k, k ≠ K.studyLocInfo → k ≠ K.studyFwImage → ((d.setOct K.studyLocInfo x).setOct K.studyFwImage y).val k = d.val k :=
    ⟨(d.bootIdle_setVal _ (by decide)).trans (Device.bootIdle_setVal _ _ (by decide)), fun k h1 h2 =>
      (Device.val_setVal_ne _ _ h2).trans (d.val_setVal_ne _ h1)⟩
  unfold Device.followLocs
  obtain ⟨h1, h2⟩ := hset _ _
  exact ⟨h1, h2 _ (by decide) (by decide), congrArg (fun v => v.int.toNat) (h2 _ (by decide) (by decide))⟩

/-- Does the image of a location pass. -/
def Device.passes (d : Device) (vendor : List Bool) (l : Nat) : Prop := d.imageCheck (d.study.images.getD l []) (vendor.getD l false) = 0

variable {d}

/-- What a try of location `loc` makes of a part with no image: it takes it, or goes on without one. -/
structure Device.Tried (d t : Device) (loc : Nat) (ok : Prop) : Prop where
  keeps : d.BootKeeps t
  recovery : t.keyhole.recovery = d.keyhole.recovery
  cosign : t.val K.khOwnerCosign = d.val K.khOwnerCosign
  took : ok → t.power.imageAt = some d.clock.ticks ∧ t.nat K.studyActiveLoc = loc
  left : ¬ ok → t.power.imageAt = none

theorem Device.tryImage_tried {vendor : List Bool} (loc : Nat) (second : Bool) (h : d.power.imageAt = none) :
    d.Tried (d.tryImage loc second (vendor.getD loc false)) loc (d.passes vendor loc) := by
  by_cases hp : d.passes vendor loc
  · obtain ⟨h1, h2, h3, h4, h5⟩ := d.tryImage_passes (second := second) h hp
    exact ⟨h1, h2, h5, fun _ => ⟨h3, h4⟩, fun hn => absurd hp hn⟩
  · obtain ⟨h1, h2⟩ := d.tryImage_fails (second := second) h hp
    exact ⟨h1.toBootKeeps, h1.recovery, h2, fun hn => absurd hn hp, fun _ => by rw [h1.power, h]⟩

theorem Device.passes_congr {e : Device} {vendor : List Bool} (h : d.BootKeeps e) (hc : e.val K.khOwnerCosign = d.val K.khOwnerCosign) (l : Nat) :
    e.passes vendor l ↔ d.passes vendor l := by
  unfold Device.passes
  rw [imageCheck_congr (h.val _ (by decide)) hc h.rollback, h.images]

variable (d)

/-- The part once the location that the boot record names has been tried, and then the other. -/
def Device.imagesTried (d : Device) (vendor : List Bool) : Device :=
  ((d.setNum K.studyNextLoc d.study.flag).tryImage d.study.flag false (vendor.getD d.study.flag false)).tryImage (1 - d.study.flag) true
    (vendor.getD (1 - d.study.flag) false)

theorem Device.verifyImages_eq (vendor : List Bool) : d.verifyImages vendor =
    (if (d.imagesTried vendor).power.imageAt.isSome then d.imagesTried vendor
      else (d.imagesTried vendor).setKeyhole (fun k => { k with recovery := true })).followLocs := rfl

theorem Device.imagesTried_obeys (vendor : List Bool) (h : d.power.imageAt = none) : let t := d.imagesTried vendor
    d.BootKeeps t ∧ t.keyhole.recovery = d.keyhole.recovery ∧ t.val K.khOwnerCosign = d.val K.khOwnerCosign ∧
      (d.passes vendor d.study.flag → t.power.imageAt = some d.clock.ticks ∧ t.nat K.studyActiveLoc = d.study.flag) ∧
      (¬ d.passes vendor d.study.flag → d.passes vendor (1 - d.study.flag) →
        t.power.imageAt = some d.clock.ticks ∧ t.nat K.studyActiveLoc = 1 - d.study.flag) ∧
      (¬ d.passes vendor d.study.flag → ¬ d.passes vendor (1 - d.study.flag) → t.power.imageAt = none) := by
  have h1 := d.bootIdle_setVal (.num d.study.flag) (k := K.studyNextLoc) (by decide)
  have hc1 : (d.setNum K.studyNextLoc d.study.flag).val K.khOwnerCosign = d.val K.khOwnerCosign := d.val_setVal_ne _ (by decide)
  unfold Device.imagesTried
  obtain ⟨x, hx⟩ : ∃ x, d.setNum K.studyNextLoc d.study.flag = x := ⟨_, rfl⟩
  rw [hx] at hc1 ⊢
  replace h1 : d.BootIdle x := hx ▸ h1
  have hnone : x.power.imageAt = none := by rw [h1.power, h]
  have h2 := Device.tryImage_tried (vendor := vendor) d.study.flag false hnone
  have hp (l : Nat) := Device.passes_congr (vendor := vendor) h1.toBootKeeps hc1 l
  rw [propext (hp _)] at h2
  generalize x.tryImage d.study.flag false (vendor.getD d.study.flag false) = y at h2 ⊢
  by_cases hf : d.passes vendor d.study.flag
  · obtain ⟨t1, t2⟩ := h2.took hf
    rw [y.tryImage_taken _ _ _ t1]
    refine ⟨h1.toBootKeeps.trans h2.keeps, h2.recovery.trans h1.recovery, h2.cosign.trans hc1, fun _ => ⟨t1.trans (by rw [h1.clock]), t2⟩, fun hn => absurd hf hn,
      fun hn => absurd hf hn⟩
  · have h3 := Device.tryImage_tried (vendor := vendor) (1 - d.study.flag) true (h2.left hf)
    have hxy := h1.toBootKeeps.trans h2.keeps
    rw [propext (Device.passes_congr (vendor := vendor) hxy (h2.cosign.trans hc1) _)] at h3
    generalize y.tryImage (1 - d.study.flag) true (vendor.getD (1 - d.study.flag) false) = z at h3 ⊢
    refine ⟨hxy.trans h3.keeps, h3.recovery.trans (h2.recovery.trans h1.recovery), h3.cosign.trans (h2.cosign.trans hc1), fun hn => absurd hn hf, fun _ hq => ?_,
      fun _ hq => h3.left hq⟩
    obtain ⟨t1, t2⟩ := h3.took hq
    exact ⟨t1.trans (by rw [hxy.clock]), t2⟩

/-- R482, R493. -/
theorem Device.verifyImages_obeys (vendor : List Bool) (h : d.power.imageAt = none) (hr : d.keyhole.recovery = false) : let t := d.verifyImages vendor
    d.BootKeeps t ∧ t.val K.khOwnerCosign = d.val K.khOwnerCosign ∧
      (d.passes vendor d.study.flag → t.nat K.studyActiveLoc = d.study.flag ∧ t.power.imageAt = some d.clock.ticks ∧ t.keyhole.recovery = false) ∧
      (¬ d.passes vendor d.study.flag → d.passes vendor (1 - d.study.flag) →
        t.nat K.studyActiveLoc = 1 - d.study.flag ∧ t.power.imageAt = some d.clock.ticks ∧ t.keyhole.recovery = false) ∧
      (¬ d.passes vendor d.study.flag → ¬ d.passes vendor (1 - d.study.flag) → t.power.imageAt = none ∧ t.keyhole.recovery = true) := by
  obtain ⟨i1, i2, i3, i4, i5, i6⟩ := d.imagesTried_obeys vendor h
  rw [d.verifyImages_eq]
  generalize d.imagesTried vendor = x at *
  have hrec : x.BootKeeps (x.setKeyhole (fun k => { k with recovery := true })) :=
    ⟨rfl, rfl, rfl, rfl, rfl, rfl, rfl, rfl, rfl, fun _ _ => rfl, Device.adds_of_attic rfl⟩
  obtain hn | ⟨n, hn⟩ := Option.eq_none_or_eq_some x.power.imageAt
  · have hif : (if x.power.imageAt.isSome then x else x.setKeyhole (fun k => { k with recovery := true })) = x.setKeyhole (fun k => { k with recovery := true }) :=
      if_neg (by rw [hn]; exact Bool.false_ne_true)
    obtain ⟨l1, l2, -⟩ := (x.setKeyhole (fun k => { k with recovery := true })).followLocs_idle
    rw [hif]
    refine ⟨i1.trans (hrec.trans l1.toBootKeeps), l2.trans i3, fun hp => ?_, fun hp hq => ?_, fun hp hq => ⟨by rw [l1.power]; exact hn, l1.recovery⟩⟩
    · have := (i4 hp).1
      rw [hn] at this
      cases this
    · have := (i5 hp hq).1
      rw [hn] at this
      cases this
  · have hif : (if x.power.imageAt.isSome then x else x.setKeyhole (fun k => { k with recovery := true })) = x := if_pos (by rw [hn]; rfl)
    obtain ⟨l1, l2, l3⟩ := x.followLocs_idle
    rw [hif]
    refine ⟨i1.trans l1.toBootKeeps, l2.trans i3, fun hp => ?_, fun hp hq => ?_, fun hp hq => ?_⟩
    · obtain ⟨h1, h2⟩ := i4 hp
      exact ⟨l3.trans h2, by rw [l1.power, h1], by rw [l1.recovery, i2, hr]⟩
    · obtain ⟨h1, h2⟩ := i5 hp hq
      exact ⟨l3.trans h2, by rw [l1.power, h1], by rw [l1.recovery, i2, hr]⟩
    · have := i6 hp hq
      rw [hn] at this
      cases this

/-- The objects that IMAGE_VERIFY sets. -/
def imageKeys : List Nat := [K.studyNextLoc, K.khBootStatus, K.khFwHash, K.studyActiveLoc, K.studyLocInfo, K.studyFwImage]

theorem ne_of_imageKey {k j : Nat} (hk : k ∉ imageKeys) (hj : j ∈ imageKeys) : k ≠ j := fun h => hk (h ▸ hj)

theorem Device.tryImage_val (loc : Nat) (second vendor : Bool) {k : Nat} (hk : k ∉ imageKeys) : (d.tryImage loc second vendor).val k = d.val k := by
  have htaken (x : Device) (l sec now : Nat) (a b : Bytes) : (x.imageTaken l sec now a b).val k = x.val k :=
    (Device.val_setVal_ne ((x.setOct K.khBootStatus a).setOct K.khFwHash b) _ (ne_of_imageKey hk (by decide))).trans
      ((Device.val_setVal_ne _ _ (ne_of_imageKey hk (by decide))).trans (x.val_setVal_ne _ (ne_of_imageKey hk (by decide))))
  unfold Device.tryImage
  split
  · rfl
  · dsimp only
    split
    · rfl
    · exact htaken (d.imageNoted loc _ _) loc _ _ _ _

theorem Device.verifyImages_val (vendor : List Bool) {k : Nat} (hk : k ∉ imageKeys) : (d.verifyImages vendor).val k = d.val k := by
  have hfollow (x : Device) : x.followLocs.val k = x.val k :=
    (Device.val_setVal_ne _ _ (ne_of_imageKey hk (by decide))).trans (x.val_setVal_ne _ (ne_of_imageKey hk (by decide)))
  have htried : (d.imagesTried vendor).val k = d.val k :=
    (Device.tryImage_val _ _ _ _ hk).trans ((Device.tryImage_val _ _ _ _ hk).trans (d.val_setVal_ne _ (ne_of_imageKey hk (by decide))))
  rw [d.verifyImages_eq, hfollow]
  generalize d.imagesTried vendor = x at htried ⊢
  split
  · exact htried
  · exact htried

/-! ## The stores -/

/-- What a start finds spoiled is not good. -/
theorem spoiled_bad {α : Type} {good : α → Bool} {g : α → α} (hg : ∀ a, good (g a) = false) {l : List (Option α)} {bad : List Nat} {i : Nat} {a : α}
    (ha : (l.mapIdx (fun i m => if bad.contains i then m.map g else m)).getD i none = some a) (hgood : good a = true) : i ∉ bad := by
  intro hmem
  have hin : bad.contains i = true := List.contains_iff_mem.mpr hmem
  rw [List.getD_eq_getElem?_getD, List.getElem?_mapIdx] at ha
  cases hi : l[i]? with
  | none => rw [hi] at ha; cases ha
  | some o =>
    rw [hi] at ha
    simp only [Option.map_some, Option.getD_some, hin, if_true] at ha
    obtain ⟨b, -, hb⟩ := Option.map_eq_some_iff.mp ha
    rw [← hb, hg] at hgood
    cases hgood

theorem Device.spoilStores_frame (found : StoreFaults) : let x := d.spoilStores found
    x.clock = d.clock ∧ x.study.images = d.study.images ∧ x.study.flag = (if found.boot = true then 0 else d.study.flag) ∧ x.power = d.power ∧
      x.keyhole.recovery = d.keyhole.recovery ∧ x.keyhole.provisioned = d.keyhole.provisioned ∧ x.obj = d.obj ∧ x.attic = d.attic := by
  unfold Device.spoilStores Device.spoilModels Device.spoilConfigs
  exact ⟨rfl, rfl, rfl, rfl, rfl, rfl, rfl, rfl⟩

theorem Device.spoilStores_models (found : StoreFaults) {i : Nat} {m : ModelCopy} (h : (d.spoilStores found).models.getD i none = some m)
    (hg : m.good = true) : i ∉ found.models := by
  unfold Device.spoilStores Device.spoilModels Device.spoilConfigs at h
  exact spoiled_bad (good := ModelCopy.good) (fun _ => rfl) h hg

theorem Device.spoilStores_cfg (found : StoreFaults) {i : Nat} {c : CfgCopy} (h : (d.spoilStores found).study.cfg.getD i none = some c)
    (hg : c.good = true) : i ∉ found.configs := by
  unfold Device.spoilStores Device.spoilModels Device.spoilConfigs at h
  exact spoiled_bad (good := CfgCopy.good) (fun _ => rfl) h hg

/-- R476: the key store of a part that is not provisioned. -/
theorem Device.recoverStore_blank (puf : Bool) (bad : List Nat) (hp : d.keyhole.provisioned = false) : let t := d.recoverStore puf bad
    t.clock = d.clock ∧ t.study = d.study ∧ t.power = d.power ∧ t.models = d.models ∧ t.keyhole.recovery = d.keyhole.recovery ∧ d.Adds t ∧
      ∀ k, k ≠ K.khOwnerCosign → k ≠ K.khKeystoreGen → t.val k = d.val k := by
  have heq : ∃ a g : Int, d.recoverStore puf bad = ((d.setNum K.khOwnerCosign a).setNum K.khKeystoreGen g).setKeyhole
      (fun k => { k with cellarGen := some (k.cellarGen.getD 0) }) := by
    have hgo : (!(d.setNum K.khOwnerCosign (if d.keyhole.cosign then 1 else 0)).keyhole.provisioned) = true := by
      show (!d.keyhole.provisioned) = true
      rw [hp]
      rfl
    exact ⟨_, _, if_pos hgo⟩
  obtain ⟨a, g, heq⟩ := heq
  rw [heq]
  have hframe : ((d.setNum K.khOwnerCosign a).setNum K.khKeystoreGen g).clock = d.clock ∧
      ((d.setNum K.khOwnerCosign a).setNum K.khKeystoreGen g).study = d.study ∧ ((d.setNum K.khOwnerCosign a).setNum K.khKeystoreGen g).power = d.power ∧
      ((d.setNum K.khOwnerCosign a).setNum K.khKeystoreGen g).models = d.models ∧ ((d.setNum K.khOwnerCosign a).setNum K.khKeystoreGen g).keyhole = d.keyhole ∧
      ((d.setNum K.khOwnerCosign a).setNum K.khKeystoreGen g).attic = d.attic := ⟨rfl, rfl, rfl, rfl, rfl, rfl⟩
  have hval (k : Nat) (h1 : k ≠ K.khOwnerCosign) (h2 : k ≠ K.khKeystoreGen) : ((d.setNum K.khOwnerCosign a).setNum K.khKeystoreGen g).val k = d.val k :=
    (Device.val_setVal_ne _ _ h2).trans (d.val_setVal_ne _ h1)
  generalize (d.setNum K.khOwnerCosign a).setNum K.khKeystoreGen g = y at *
  obtain ⟨f1, f2, f3, f4, f5, f6⟩ := hframe
  have hrec : y.keyhole.recovery = d.keyhole.recovery := by rw [f5]
  exact ⟨f1, f2, f3, f4, hrec, Device.adds_of_attic f6, hval⟩

/-- A part without provisioning, its stores checked. -/
theorem Device.spoiled_obeys (found : StoreFaults) (puf : Bool) (hp : d.keyhole.provisioned = false) :
    let t := (d.spoilStores found).recoverStore puf found.slots
    t.clock = d.clock ∧ t.study.images = d.study.images ∧ t.study.flag = (if found.boot = true then 0 else d.study.flag) ∧
      t.power = d.power ∧ t.keyhole.recovery = d.keyhole.recovery ∧ (∀ k ∈ bootKeys, t.val k = d.val k) ∧
      t.nat K.khEntropyState = d.nat K.khEntropyState ∧ d.Adds t ∧
      (∀ (i : Nat) (m : ModelCopy), t.models.getD i none = some m → m.good = true → i ∉ found.models) ∧
      ∀ (i : Nat) (x : CfgCopy), t.study.cfg.getD i none = some x → x.good = true → i ∉ found.configs := by
  obtain ⟨x1, x2, x3, x4, x5, x6, x7, x8⟩ := d.spoilStores_frame found
  have hm (i : Nat) (m : ModelCopy) := d.spoilStores_models found (i := i) (m := m)
  have hc (i : Nat) (c : CfgCopy) := d.spoilStores_cfg found (i := i) (c := c)
  generalize d.spoilStores found = x at *
  obtain ⟨y1, y2, y3, y4, y5, y6, y7⟩ := x.recoverStore_blank puf found.slots (x6.trans hp)
  generalize x.recoverStore puf found.slots = y at *
  have hkeys : ∀ k ∈ bootKeys, k ≠ K.khOwnerCosign ∧ k ≠ K.khKeystoreGen := by decide
  refine ⟨y1.trans x1, (congrArg Study.images y2).trans x2, (congrArg Study.flag y2).trans x3, y3.trans x4, y5.trans x5, fun k hk => ?_, ?_,
    (Device.adds_of_attic x8).trans y6, fun i m h => hm i m (y4 ▸ h), fun i c h => hc i c (y2 ▸ h)⟩
  · exact (y7 k (hkeys k hk).1 (hkeys k hk).2).trans (val_of_obj x7 k)
  · exact (congrArg (fun v => v.int.toNat) (y7 K.khEntropyState (by decide) (by decide))).trans (nat_of_obj x7 _)

/-! ## RESET_RELEASE -/

section
variable {d e : Device}
theorem rec_power (h : e.beside atticBlank atticKey = d.beside atticBlank atticKey) : e.power = d.power := congrArg (fun x => x.1.power) h
theorem rec_clock (h : e.beside atticBlank atticKey = d.beside atticBlank atticKey) : e.clock = d.clock := congrArg (fun x => x.1.clock) h
theorem rec_study (h : e.beside atticBlank atticKey = d.beside atticBlank atticKey) : e.study = d.study := congrArg (fun x => x.1.study) h
theorem rec_keyhole (h : e.beside atticBlank atticKey = d.beside atticBlank atticKey) : e.keyhole = d.keyhole := congrArg (fun x => x.1.keyhole) h
end

/-- The start of a part whose Cellar kept VBAT, at tick `now`, with its Attic recovered. -/
def Device.bootBegun (d : Device) (now vddio : Nat) : Device :=
  (d.atticStart false).setPower (fun p => { p with
    held := 0, cause := 0, released := now, minuteAt := now, xtalAt := now, waking := none, vddio33 := 2500 < vddio, flash8d := true })

/-- The same with the start counted and shown, and its record. -/
def Device.bootNoted (d : Device) (cause loSel : Nat) : Device :=
  let x := (d.bump K.cellarPowerCycles).setNums [(K.fbLastReset, cause), (K.hearthLoSel, loSel)]
  x.report 0x0101 [cause, x.num K.cellarPowerCycles]

theorem Device.bootBegun_obeys (now vddio : Nat) : let t := d.bootBegun now vddio
    t.clock = d.clock ∧ t.study = d.study ∧ t.keyhole = d.keyhole ∧ t.power.held = 0 ∧ t.power.vddio33 = Decidable.decide (2500 < vddio) ∧
      t.power.imageAt = d.power.imageAt ∧ t.nat K.cellarPowerCycles = d.nat K.cellarPowerCycles := by
  have hrec := d.rec_atticStart
  have hpower := rec_power hrec
  have hclock := rec_clock hrec
  have hstudy := rec_study hrec
  have hkeyhole := rec_keyhole hrec
  have hnat : (d.atticStart false).nat K.cellarPowerCycles = d.nat K.cellarPowerCycles := nat_of_beside hrec (by decide)
  unfold Device.bootBegun
  generalize d.atticStart false = x at *
  have himg : x.power.imageAt = d.power.imageAt := by rw [hpower]
  exact ⟨hclock, hstudy, hkeyhole, rfl, rfl, himg, hnat⟩

theorem Device.bootNoted_obeys (cause loSel : Nat) (hn : d.nat K.cellarPowerCycles < 2 ^ 32 - 1) : let t := d.bootNoted cause loSel
    t.clock = d.clock ∧ t.study = d.study ∧ t.keyhole = d.keyhole ∧ t.power = d.power ∧ t.nat K.fbLastReset = cause ∧
      t.nat K.cellarPowerCycles = d.nat K.cellarPowerCycles + 1 ∧ t.nat K.hearthLoSel = loSel ∧
      (0x0101, [(cause : Int), (d.nat K.cellarPowerCycles : Int) + 1]) ∈ t.entries := by
  have hbump : (d.bump K.cellarPowerCycles).num K.cellarPowerCycles = (d.nat K.cellarPowerCycles : Int) + 1 := by
    refine (d.num_setNum_self _ _).trans ?_
    rw [if_pos (by omega)]
    rfl
  obtain ⟨x, hx⟩ : ∃ x, d.bump K.cellarPowerCycles = x := ⟨_, rfl⟩
  have hframe : x.clock = d.clock ∧ x.study = d.study ∧ x.keyhole = d.keyhole ∧ x.power = d.power := by
    rw [← hx]
    exact ⟨rfl, rfl, rfl, rfl⟩
  obtain ⟨f1, f2, f3, f4⟩ := hframe
  obtain ⟨y, hy⟩ : ∃ y, (x.setNum K.fbLastReset cause).setNum K.hearthLoSel loSel = y := ⟨_, rfl⟩
  have hframe : y.clock = x.clock ∧ y.study = x.study ∧ y.keyhole = x.keyhole ∧ y.power = x.power := by
    rw [← hy]
    exact ⟨rfl, rfl, rfl, rfl⟩
  obtain ⟨g1, g2, g3, g4⟩ := hframe
  have h1 : y.num K.cellarPowerCycles = (d.nat K.cellarPowerCycles : Int) + 1 := by
    rw [← hy]
    refine (congrArg Val.int ((Device.val_setVal_ne (x.setNum K.fbLastReset cause) (k := K.hearthLoSel) (j := K.cellarPowerCycles) _ (by decide)).trans
      (x.val_setVal_ne (k := K.fbLastReset) _ (by decide)))).trans ?_
    exact (congrArg (fun z => z.num K.cellarPowerCycles) hx).symm.trans hbump
  have h2 : y.nat K.fbLastReset = cause := by
    rw [← hy]
    exact (congrArg (fun v => v.int.toNat) (Device.val_setVal_ne (x.setNum K.fbLastReset cause) (k := K.hearthLoSel) (j := K.fbLastReset) _ (by decide))).trans
      ((x.nat_setNum_self _ _).trans (Int.toNat_natCast cause))
  have h3 : y.nat K.hearthLoSel = loSel := by
    rw [← hy]
    exact (Device.nat_setNum_self _ _ _).trans (Int.toNat_natCast loSel)
  have h4 : y.nat K.cellarPowerCycles = d.nat K.cellarPowerCycles + 1 := by
    rw [Device.nat, h1]
    omega
  have heq : d.bootNoted cause loSel = y.report 0x0101 [cause, y.num K.cellarPowerCycles] := by rw [← hy, ← hx]; rfl
  rw [heq, h1]
  refine ⟨g1.trans f1, g2.trans f2, g3.trans f3, g4.trans f4, (y.report_nat _ _ _).trans h2, (y.report_nat _ _ _).trans h4, (y.report_nat _ _ _).trans h3, ?_⟩
  rw [Device.entries_report]
  simp

/-- The rest of a start: its cause, the entropy source, the stores and the images. -/
def Device.bootEnds (d : Device) (cause now : Nat) (entropy puf : Bool) (found : StoreFaults) (vendor : List Bool) : Device :=
  let x := if cause = 3 then d.countStart else d
  let y := if entropy then (x.entropyStarts now).freshNonce else x.entropyFailed 3
  ((y.spoilStores found).recoverStore puf found.slots).verifyImages vendor

theorem Device.bootEnds_obeys (cause now : Nat) (entropy puf : Bool) (found : StoreFaults) (vendor : List Bool) (hp : d.keyhole.provisioned = false)
    (hr : d.keyhole.recovery = false) (himg : d.power.imageAt = none) : let t := d.bootEnds cause now entropy puf found vendor
    t.clock = d.clock ∧ t.power.held = d.power.held ∧ t.power.vddio33 = d.power.vddio33 ∧ (∀ k ∈ bootKeys, t.val k = d.val k) ∧
      t.nat K.khEntropyState = (if entropy then 1 else 2) ∧ d.Adds t ∧
      (∀ (i : Nat) (m : ModelCopy), t.models.getD i none = some m → m.good = true → i ∉ found.models) ∧
      (∀ (i : Nat) (x : CfgCopy), t.study.cfg.getD i none = some x → x.good = true → i ∉ found.configs) ∧
      (let f := if found.boot = true then 0 else d.study.flag
        let passes (l : Nat) : Prop := t.imageCheck (d.study.images.getD l []) (vendor.getD l false) = 0
        (passes f → t.nat K.studyActiveLoc = f ∧ t.power.imageAt = some t.clock.ticks ∧ t.keyhole.recovery = false) ∧
        (¬ passes f → passes (1 - f) → t.nat K.studyActiveLoc = 1 - f ∧ t.power.imageAt = some t.clock.ticks ∧ t.keyhole.recovery = false) ∧
        (¬ passes f → ¬ passes (1 - f) → t.power.imageAt = none ∧ t.keyhole.recovery = true)) := by
  have h1 : d.BootIdle (if cause = 3 then d.countStart else d) := .ite d.bootIdle_countStart (.refl d)
  unfold Device.bootEnds
  dsimp only
  generalize (if cause = 3 then d.countStart else d) = x at h1 ⊢
  obtain ⟨h2, h3⟩ := x.bootIdle_entropy entropy now
  generalize (if entropy = true then (x.entropyStarts now).freshNonce else x.entropyFailed 3) = y at h2 h3 ⊢
  have hy := h1.trans h2
  obtain ⟨s1, s2, s3, s4, s5, s6, s7, s8, s9, s10⟩ := y.spoiled_obeys found puf (hy.provisioned.trans hp)
  generalize (y.spoilStores found).recoverStore puf found.slots = z at *
  obtain ⟨v1, v2, v3, v4, v5⟩ := z.verifyImages_obeys vendor (by rw [s4, hy.power, himg]) (by rw [s5, hy.recovery, hr])
  have hstate : (z.verifyImages vendor).nat K.khEntropyState = z.nat K.khEntropyState :=
    congrArg (fun v => v.int.toNat) (z.verifyImages_val vendor (k := K.khEntropyState) (by decide))
  generalize z.verifyImages vendor = t at *
  have hflag : z.study.flag = if found.boot = true then 0 else d.study.flag := by rw [s3, hy.flag]
  have hpass (l : Nat) : z.passes vendor l ↔ t.imageCheck (d.study.images.getD l []) (vendor.getD l false) = 0 := by
    have himages : z.study.images = d.study.images := s2.trans hy.images
    rw [Device.passes, himages, imageCheck_congr (v1.val _ (by decide)) v2 v1.rollback]
  refine ⟨v1.clock.trans (s1.trans hy.clock), v1.held.trans ((congrArg Power.held s4).trans hy.held), v1.vddio.trans ((congrArg Power.vddio33 s4).trans hy.vddio),
    fun k hk => (v1.val k hk).trans ((s6 k hk).trans (hy.val k hk)), hstate.trans (s7.trans h3), hy.adds.trans (s8.trans v1.adds),
    fun i m h => s9 i m (v1.models ▸ h), fun i c h => s10 i c (v1.cfg ▸ h), ?_⟩
  simp only [← hflag, ← hpass, v1.clock]
  exact ⟨v3, v4, v5⟩

theorem Device.release_idle {straps : Straps} (entropy puf : Bool) (found : StoreFaults) (shipped : List (Nat × Bytes)) (vendor : List Bool)
    (h : d.power.held = 0 ∨ d.power.held = 4 ∨ straps.vddio < 1550) : d.release straps entropy puf found shipped vendor = d :=
  if_pos (by simpa [or_assoc] using h)

theorem Device.release_eq {straps : Straps} (entropy puf : Bool) (found : StoreFaults) (vendor : List Bool) (hv : 1550 ≤ straps.vddio)
    (hlo : 1 ≤ d.power.held) (hhi : d.power.held ≤ 3) (hg : d.keyhole.cellarGen ≠ none) : d.release straps entropy puf found [] vendor =
      (((d.elapse msTicks).bootBegun (d.clock.ticks + msTicks) straps.vddio).bootNoted d.power.cause (straps.loSel % 4)).bootEnds d.power.cause
        (d.clock.ticks + msTicks) entropy puf found vendor := by
  have hrun : ¬ (d.power.held = 0 ∨ d.power.held = 4 ∨ straps.vddio < 1550) := by omega
  have hdeep : ¬ d.power.held = 5 := by omega
  unfold Device.release
  rw [if_neg (by simpa [or_assoc] using hrun)]
  extract_lets deep cause r now e cold e1 e2 e3 e4 e5 e6 e7
  have hnd : deep = False := eq_false hdeep
  have hr : r = d := if_neg hdeep
  have hc : cause = d.power.cause := if_neg hdeep
  have hcold : cold = false := by simpa [cold, e, hr] using Option.isSome_iff_ne_none.mpr hg
  have hnow : now = d.clock.ticks + msTicks := by simp only [now, hr]
  have he : e = d.elapse msTicks := by simp only [e, hr]
  have h2 : e2 = (d.elapse msTicks).bootBegun (d.clock.ticks + msTicks) straps.vddio := by
    have h1 : e2 = e1 := if_neg hdeep
    rw [h1, ← he, ← hnow]
    simp only [e1, hcold, hnd, if_false, Bool.false_eq_true, Device.bootBegun]
  have h4 : e4 = e2.bootNoted cause (straps.loSel % 4) := rfl
  have h7 : e7 = e6 := rfl
  have h6 : e6 = if entropy then (e5.entropyStarts now).freshNonce else e5.entropyFailed 3 := rfl
  have h5 : e5 = if cause = 3 then e4.countStart else e4 := rfl
  clear_value e7 e6 e5 e4 e2
  rw [h7, h6, h5, h4, h2, hc, hnow]
  rfl

/-- R553: a start of a part that is not provisioned, its Cellar kept. -/
theorem Device.release_obeys {straps : Straps} (entropy puf : Bool) (found : StoreFaults) (vendor : List Bool) (hv : 1550 ≤ straps.vddio)
    (hlo : 1 ≤ d.power.held) (hhi : d.power.held ≤ 3) (hg : d.keyhole.cellarGen ≠ none) (hp : d.keyhole.provisioned = false)
    (hr : d.keyhole.recovery = false) (himg : d.power.imageAt = none) (hrep : d.attic.reports = [])
    (hn : d.nat K.cellarPowerCycles < 2 ^ 32 - 1) : let t := d.release straps entropy puf found [] vendor
    t.clock = (d.elapse msTicks).clock ∧ t.power.held = 0 ∧ t.nat K.fbLastReset = d.power.cause ∧
      t.nat K.cellarPowerCycles = d.nat K.cellarPowerCycles + 1 ∧ t.nat K.hearthLoSel = straps.loSel % 4 ∧
      t.nat K.khEntropyState = (if entropy then 1 else 2) ∧ t.power.vddio33 = Decidable.decide (2500 < straps.vddio) ∧
      (∀ (i : Nat) (m : ModelCopy), t.models.getD i none = some m → m.good = true → i ∉ found.models) ∧
      (∀ (i : Nat) (x : CfgCopy), t.study.cfg.getD i none = some x → x.good = true → i ∉ found.configs) ∧
      (∃ r ∈ newReports d t, r = (0x0101, [(d.power.cause : Int), (d.nat K.cellarPowerCycles : Int) + 1])) ∧
      (let f := if found.boot = true then 0 else d.study.flag
        let passes (l : Nat) : Prop := t.imageCheck (d.study.images.getD l []) (vendor.getD l false) = 0
        (passes f → t.nat K.studyActiveLoc = f ∧ t.power.imageAt = some t.clock.ticks ∧ t.keyhole.recovery = false) ∧
        (¬ passes f → passes (1 - f) → t.nat K.studyActiveLoc = 1 - f ∧ t.power.imageAt = some t.clock.ticks ∧ t.keyhole.recovery = false) ∧
        (¬ passes f → ¬ passes (1 - f) → t.power.imageAt = none ∧ t.keyhole.recovery = true)) := by
  rw [d.release_eq entropy puf found vendor hv hlo hhi hg]
  have e1 : (d.elapse msTicks).keyhole = d.keyhole := Device.elapse_keyhole _ _
  have e2 : (d.elapse msTicks).study = d.study := Device.elapse_study _ _
  have e3 : (d.elapse msTicks).power = d.power := Device.elapse_power _ _
  have e4 : (d.elapse msTicks).obj = d.obj := Device.elapse_obj _ _
  generalize d.elapse msTicks = x at *
  obtain ⟨b1, b2, b3, b4, b5, b6, b7⟩ := x.bootBegun_obeys (d.clock.ticks + msTicks) straps.vddio
  generalize x.bootBegun (d.clock.ticks + msTicks) straps.vddio = y at *
  have hcount : y.nat K.cellarPowerCycles = d.nat K.cellarPowerCycles := b7.trans (nat_of_obj e4 _)
  obtain ⟨n1, n2, n3, n4, n5, n6, n7, n8⟩ := y.bootNoted_obeys d.power.cause (straps.loSel % 4) (hcount ▸ hn)
  generalize y.bootNoted d.power.cause (straps.loSel % 4) = z at *
  have hz : z.keyhole = d.keyhole := n3.trans (b3.trans e1)
  obtain ⟨t1, t2, t3, t4, t5, t6, t7, t8, t9⟩ := z.bootEnds_obeys d.power.cause (d.clock.ticks + msTicks) entropy puf found vendor (by rw [hz, hp]) (by rw [hz, hr])
    (by rw [n4, b6, e3, himg])
  have hstudy : z.study = d.study := n2.trans (b2.trans e2)
  rw [hstudy] at t9
  generalize z.bootEnds d.power.cause (d.clock.ticks + msTicks) entropy puf found vendor = t at *
  have hnat {k : Nat} (hk : k ∈ bootKeys) : t.nat k = z.nat k := congrArg (fun v => v.int.toNat) (t4 k hk)
  refine ⟨t1.trans (n1.trans b1), t2.trans (by rw [n4, b4]), (hnat (by decide)).trans n5, (hnat (by decide)).trans (n6.trans (by rw [hcount])),
    (hnat (by decide)).trans n7, t5, t3.trans (by rw [n4, b5]), t7, t8, ⟨_, ?_, rfl⟩, t9⟩
  have hnew : newReports d t = t.entries := by
    rw [newReports, hrep]
    rfl
  rw [hnew, ← hcount]
  exact t6.subset n8

end

end Sys2Proof.Machine
end

section
/-! Chapters 17, 21: the Cellar and the configuration store (R484, R538, R550 to R552). -/

namespace Sys2Proof.Machine

theorem exec_cellarMinute (s : State) : exec .cellarMinute s = .next (s.on (·.cellarMinute)) := rfl
theorem exec_xtalOffsetMeasure (s : State) : exec .xtalOffsetMeasure s = .next (s.on (·.xtalMeasure)) := rfl
theorem exec_cellarSnapshot (s : State) : exec .cellarSnapshot s = .next (s.on (·.cellarSnapshot)) := rfl
theorem exec_crystalStopped (s : State) : exec .crystalStopped s = .next (s.on (·.crystalStopped)) := rfl
theorem exec_cfgSaveComplete (wait : Nat) (s : State) : exec (.cfgSaveComplete wait) s = .next (s.on (·.cfgSaved wait)) := rfl

section
variable (d : Device)

/-! ## The Cellar (R538, R550) -/

theorem Device.cellarMinute_idle (h : d.up = false) : d.cellarMinute = d := if_pos (by rw [h]; rfl)

theorem Device.cellarMinute_obeys (h : d.up = true) (hn : d.nat K.cellarOpMinutes < 2 ^ 32 - 1) : let t := d.cellarMinute
    t.clock = (d.runTo (d.power.minuteAt + 60 * sTicks)).clock ∧ t.nat K.cellarOpMinutes = d.nat K.cellarOpMinutes + 1 ∧
      t.power.minuteAt = d.power.minuteAt + 60 * sTicks ∧ ∀ k, k ≠ K.cellarOpMinutes → t.val k = d.val k := by
  have heq {m : Nat} (hm : d.power.minuteAt + 60 * sTicks = m) : d.cellarMinute = ((d.runTo m).bump K.cellarOpMinutes).setPower
      (fun p => { p with minuteAt := m }) := by
    rw [← hm, Device.cellarMinute, if_neg (by rw [h]; exact Bool.false_ne_true)]
  generalize hm : d.power.minuteAt + 60 * sTicks = m
  rw [heq hm]
  have hobj : (d.runTo m).obj = d.obj := Device.runTo_obj _ _
  generalize d.runTo m = x at *
  have hnat : x.nat K.cellarOpMinutes = d.nat K.cellarOpMinutes := nat_of_obj hobj _
  refine ⟨rfl, ?_, rfl, fun k hk => (Device.setPower_val _ _ _).trans ((x.val_setVal_ne _ hk).trans (val_of_obj hobj _))⟩
  exact (congrArg (fun v => v.int.toNat) (Device.setPower_val _ _ _)).trans ((x.nat_bumpBy 4 _ 1 (Nat.add_lt_of_lt_sub (hnat ▸ hn))).trans (congrArg (· + 1) hnat))

theorem Device.xtalMeasure_idle (h : d.up = false) : d.xtalMeasure = d := if_pos (by rw [h]; rfl)

theorem Device.xtalMeasure_obeys (h : d.up = true) (ha : d.asleep = false) (hl : d.nat K.hearthLock = 1) : let t := d.xtalMeasure
    t.clock = (d.runTo (d.power.xtalAt + 100 * sTicks)).clock ∧ t.num K.cellarXtalPpb = Config.xtalPpb ∧
      ∀ k, k ≠ K.cellarXtalPpb → t.val k = d.val k := by
  have heq {m : Nat} (hm : d.power.xtalAt + 100 * sTicks = m) : d.xtalMeasure = ((d.runTo m).setNum K.cellarXtalPpb Config.xtalPpb).setPower
      (fun p => { p with xtalAt := max m d.clock.ticks }) := by
    rw [← hm, Device.xtalMeasure, if_neg (by simp [h, ha, hl])]
  generalize hm : d.power.xtalAt + 100 * sTicks = m
  rw [heq hm]
  have hobj : (d.runTo m).obj = d.obj := Device.runTo_obj _ _
  generalize d.runTo m = x at *
  exact ⟨rfl, (congrArg Val.int (Device.setPower_val _ _ _)).trans (x.num_setNum_self _ _), fun k hk => (Device.setPower_val _ _ _).trans ((x.val_setVal_ne _ hk).trans (val_of_obj hobj _))⟩

theorem Device.cellarSnapshot_idle (h : d.clock.mtRun = false ∨ (d.nat K.mtState ≠ 3 ∧ d.nat K.mtState ≠ 4)) : d.cellarSnapshot = d := by
  refine if_pos ?_
  simpa using h

/-- R550: the snapshot of a part in T3 or T4. -/
theorem Device.takeSnapshot_obeys (h : d.nat K.mtState = 3 ∨ d.nat K.mtState = 4) : let t := d.takeSnapshot
    t.cellar.snapHeld = true ∧ t.cellar.tamperSince = false ∧ t.cellar.snapCount = d.cellarCount ∧ t.cellar.snapPpb = d.num K.cellarXtalPpb ∧
      t.clock = d.clock ∧ t.nat K.cellarSnapTime = d.mt16 ∧ (d.nat K.mtState = 3 → t.num K.cellarSnapUnc = d.num K.thermLockThresh) ∧
      ∀ k, k ≠ K.cellarSnapTime → k ≠ K.cellarSnapUnc → t.val k = d.val k := by
  obtain ⟨x, hx⟩ : ∃ x, d.setCellar (fun c => { c with
    snapHeld := true, snapCount := d.cellarCount, snapPpb := d.num K.cellarXtalPpb, tamperSince := false }) = x := ⟨_, rfl⟩
  have hsame : x.cellar.snapHeld = true ∧ x.cellar.tamperSince = false ∧ x.cellar.snapCount = d.cellarCount ∧ x.cellar.snapPpb = d.num K.cellarXtalPpb ∧
      x.clock = d.clock ∧ ∀ k, x.val k = d.val k := by
    rw [← hx]
    exact ⟨rfl, rfl, rfl, rfl, rfl, fun _ => rfl⟩
  obtain ⟨x1, x2, x3, x4, x5, x6⟩ := hsame
  have heq : d.takeSnapshot = (x.setNum K.cellarSnapTime d.mt16).setNum K.cellarSnapUnc
      (if d.nat K.mtState = 3 then d.num K.thermLockThresh else d.hoBound) := by
    rw [← hx]
    refine if_neg ?_
    simp only [Bool.and_eq_true, decide_eq_true_eq, not_and_or, not_not, ne_eq]
    exact h
  rw [heq]
  refine ⟨x1, x2, x3, x4, x5, ?_, fun h3 => (Device.num_setNum_self _ _ _).trans (if_pos h3), fun k h1 h2 => ?_⟩
  · exact (congrArg (fun v => v.int.toNat) (Device.val_setVal_ne (x.setNum K.cellarSnapTime d.mt16) (k := K.cellarSnapUnc) (j := K.cellarSnapTime) _
      (by decide))).trans ((x.nat_setNum_self _ _).trans (Int.toNat_natCast _))
  · exact (Device.val_setVal_ne _ _ h2).trans ((x.val_setVal_ne _ h1).trans (x6 k))

theorem mt16_of_clock {d e : Device} (h : e.clock = d.clock) : e.mt16 = d.mt16 := by rw [Device.mt16, h, Device.mt16]

theorem Device.cellarSnapshot_obeys (h : d.clock.mtRun = true) (hs : d.nat K.mtState = 3 ∨ d.nat K.mtState = 4) : let t := d.cellarSnapshot
    t.cellar.snapHeld = true ∧ t.cellar.tamperSince = false ∧ t.cellar.snapCount = t.cellarCount ∧ t.cellar.snapPpb = d.num K.cellarXtalPpb ∧
      t.nat K.cellarSnapTime = t.mt16 ∧ (d.nat K.mtState = 3 → t.num K.cellarSnapUnc = d.num K.thermLockThresh) ∧
      ∀ k, k ≠ K.cellarSnapTime → k ≠ K.cellarSnapUnc → t.val k = d.val k := by
  have heq : ∃ n m, d.cellarSnapshot = ((d.elapse n).elapse m).takeSnapshot := by
    refine ⟨_, _, if_neg ?_⟩
    simp only [Bool.or_eq_true, Bool.not_eq_true', Bool.and_eq_true, decide_eq_true_eq, h, Bool.true_eq_false, false_or]
    omega
  obtain ⟨n, m, heq⟩ := heq
  have hobj : ((d.elapse n).elapse m).obj = d.obj := (Device.elapse_obj _ _).trans (Device.elapse_obj _ _)
  rw [heq]
  generalize (d.elapse n).elapse m = x at *
  have hstate : x.nat K.mtState = d.nat K.mtState := nat_of_obj hobj _
  obtain ⟨t1, t2, t3, t4, t5, t6, t7, t8⟩ := x.takeSnapshot_obeys (hstate ▸ hs)
  exact ⟨t1, t2, t3.trans (cellarCount_of_clock t5).symm, t4.trans (num_of_obj hobj _), t6.trans (mt16_of_clock t5).symm,
    fun h3 => (t7 (hstate.trans h3)).trans (num_of_obj hobj _), fun k h1 h2 => (t8 k h1 h2).trans (val_of_obj hobj k)⟩

/-! ## The crystal's stop (R484, R530) -/

/-- A wake that joins one in progress, or that no sleep and no entry stands for, leaves all but its cause and port. -/
theorem Device.fbWake_awake (src port : Nat) (ha : d.asleep = false) (he : d.power.entry = none) : let t := d.fbWake src port
    t.clock = d.clock ∧ t.cellar = d.cellar ∧ d.Adds t ∧ t.nat K.khTamper = d.nat K.khTamper ∧ t.num K.khTamper = d.num K.khTamper := by
  have hset (x : Device) (a b : Int) : (x.setNum K.fbWakeCause a).num K.khTamper = x.num K.khTamper ∧
      ((x.setNum K.fbWakeCause a).setNum K.fbWakePort b).num K.khTamper = x.num K.khTamper :=
    ⟨congrArg Val.int (x.val_setVal_ne (k := K.fbWakeCause) (j := K.khTamper) _ (by decide)),
      congrArg Val.int ((Device.val_setVal_ne (x.setNum K.fbWakeCause a) (k := K.fbWakePort) (j := K.khTamper) _ (by decide)).trans
        (x.val_setVal_ne (k := K.fbWakeCause) _ (by decide)))⟩
  have hkeep : ∃ t, d.fbWake src port = t ∧ t.clock = d.clock ∧ t.cellar = d.cellar ∧ t.attic = d.attic ∧ t.num K.khTamper = d.num K.khTamper := by
    unfold Device.fbWake
    rw [he]
    dsimp only
    rw [ha]
    split
    · rename_i hgo
      have hw : d.power.waking.isSome = true := by
        simp only [Bool.false_and, Bool.not_false, Bool.true_and, Bool.false_or, Bool.and_eq_true] at hgo
        exact hgo.1
      unfold Device.wakeBegin
      dsimp only
      rw [if_pos hw]
      split
      · exact ⟨_, rfl, rfl, rfl, rfl, (hset d _ _).2⟩
      · exact ⟨_, rfl, rfl, rfl, rfl, (hset d _ 0).1⟩
    · exact ⟨_, rfl, rfl, rfl, rfl, rfl⟩
  obtain ⟨t, ht, h1, h2, h3, h4⟩ := hkeep
  rw [ht]
  exact ⟨h1, h2, Device.adds_of_attic h3, congrArg Int.toNat h4, h4⟩

theorem Device.crystalStopped_idle (h : bit (d.nat K.khTamper) 3 = true) : d.crystalStopped = d := by
  have hset : d.setTamper 3 = d := if_pos h
  unfold Device.crystalStopped Device.wakeOnTamper
  rw [hset]
  exact if_neg (by simp)

/-- The objects that follow the tamper lock. -/
def lockedKey (k : Nat) : Bool := lockKey k || laneKey k

theorem Device.followLock_beside : d.followLock.beside laneBlank lockedKey = d.beside laneBlank lockedKey := by
  have hfold : ((List.range 62).foldl Device.lockStep d).beside laneBlank lockKey = d.beside laneBlank lockKey :=
    d.beside_foldl _ fun x k _ => x.lockStep_beside laneBlank k
  rw [d.followLock_eq]
  exact (beside_mono (Device.follows_keysFollow _ d).rest id fun k hk => Bool.or_eq_true_iff.mpr (.inr hk)).trans
    (beside_mono hfold id fun k hk => Bool.or_eq_true_iff.mpr (.inl hk))

theorem cellar_of_lanes {d e : Device} {C : Nat → Bool} (h : e.beside laneBlank C = d.beside laneBlank C) : e.cellar = d.cellar :=
  congrArg (fun x => x.1.cellar) h

/-- The part with the crystal's tamper flag set, before the slots follow. -/
def Device.crystalSet (d : Device) : Device := (d.tamperSet 3).setCellar (fun c => { c with tamperSince := true })

theorem Device.crystalSet_obeys (h : bit (d.nat K.khTamper) 3 = false) : let t := d.crystalSet.followLock
    t.clock = d.clock ∧ t.num K.khTamper = (d.nat K.khTamper + 2 ^ 3 : Nat) ∧ t.cellar = { d.cellar with tamperSince := true } ∧
      (newReports d t).head? = some (0x0C0B, [((d.nat K.khTamper + 2 ^ 3 : Nat) : Int), 3]) ∧ t.power = d.power ∧ t.nat K.fbState = d.nat K.fbState ∧ d.Adds t := by
  have h0 : d.crystalSet.clock = d.clock ∧ d.crystalSet.entries = d.entries ++ [(0x0C0B, [((d.nat K.khTamper + 2 ^ 3 : Nat) : Int), (3 : Int)])] ∧
    d.crystalSet.obj = (d.setNum K.khTamper (d.nat K.khTamper + 2 ^ 3 : Nat)).obj ∧ d.crystalSet.cellar = { d.cellar with tamperSince := true } ∧
    d.crystalSet.power = d.power := ⟨rfl, Device.entries_report _ _ _, rfl, rfl, rfl⟩
  obtain ⟨h1, hent, h3, hcel, hpow⟩ := h0
  have ht : d.crystalSet.num K.khTamper = (d.nat K.khTamper + 2 ^ 3 : Nat) := by rw [num_of_obj h3, Device.num_setNum_self]
  have hst : d.crystalSet.nat K.fbState = d.nat K.fbState := by rw [nat_of_obj h3, Device.nat_setNum, if_neg (by decide)]
  generalize d.crystalSet = e at *
  have hb := e.followLock_beside
  obtain ⟨-, -, -, f4⟩ := e.followLock_frame
  exact ⟨(clock_of_lanes hb).trans h1, (num_of_beside hb (by decide)).trans ht, (cellar_of_lanes hb).trans hcel, head_of_adds hent f4,
    (power_of_lanes hb).trans hpow, (nat_of_beside hb (by decide)).trans hst, Device.Adds.trans ⟨_, hent.symm⟩ f4⟩

theorem Device.crystalStopped_obeys (h : bit (d.nat K.khTamper) 3 = false) (ha : d.asleep = false) (he : d.power.entry = none) : let t := d.crystalStopped
    t.clock = d.clock ∧ bit (t.nat K.khTamper) 3 = true ∧ t.cellar = { d.cellar with tamperSince := true } ∧
      (newReports d t).head? = some (0x0C0B, [t.num K.khTamper, 3]) := by
  have hset : d.setTamper 3 = d.crystalSet.followLock := by
    unfold Device.setTamper
    dsimp only
    rw [if_neg (by rw [h]; exact Bool.false_ne_true), bit_setBit_self h]
    rfl
  obtain ⟨c1, c2, c3, c4, c5, c6, c7⟩ := d.crystalSet_obeys h
  unfold Device.crystalStopped Device.wakeOnTamper
  rw [hset]
  generalize d.crystalSet.followLock = x at *
  have hasleep : x.asleep = false := by rw [Device.asleep, c6]; exact ha
  have hbit (y : Device) (hy : y.num K.khTamper = x.num K.khTamper) : bit (y.nat K.khTamper) 3 = true := by
    rw [Device.nat, hy, c2, Int.toNat_natCast]
    exact bit_add_self h
  split
  · obtain ⟨w1, w2, w3, -, w5⟩ := x.fbWake_awake 5 0xFF hasleep (by rw [c5, he])
    exact ⟨w1.trans c1, hbit _ w5, w2.trans c3, by rw [w5, c2]; exact head_of_newReports c7 c4 w3⟩
  · exact ⟨c1, hbit x rfl, c3, by rw [c2]; exact c4⟩

/-! ## The configuration store (R551) -/

/-- R551: the copy that a save replaces. -/
def olderCopy (cfg : List (Option CfgCopy)) : Nat :=
  let best := ((cfg.filterMap id).filter (·.good)).foldl (fun b c => max b c.gen) 0
  if cfg.findIdx (fun c => c.any (fun x => x.good && x.gen = best)) = 0 then 1 else 0

/-- R551: the generation that a save takes. -/
def nextGen (cfg : List (Option CfgCopy)) : Nat := ((cfg.filterMap id).map (·.gen)).foldl max 0 + 1

theorem gen_lt_nextGen {cfg : List (Option CfgCopy)} {x : CfgCopy} (h : some x ∈ cfg) : x.gen < nextGen cfg :=
  Nat.lt_succ_of_le ((le_foldl_max _ 0).2 _ (List.mem_map_of_mem (List.mem_filterMap.mpr ⟨some x, h, rfl⟩)))

theorem olderCopy_lt (cfg : List (Option CfgCopy)) : olderCopy cfg < 2 := by
  unfold olderCopy
  dsimp only
  split <;> decide

/-- Of two good copies the older is replaced. -/
theorem olderCopy_of_good {x y : CfgCopy} (hx : x.good = true) (hy : y.good = true) :
    olderCopy [some x, some y] = 0 ↔ x.gen < y.gen := by
  have hbest : (([some x, some y].filterMap id).filter (·.good)).foldl (fun b (c : CfgCopy) => max b c.gen) 0 = max x.gen y.gen := by
    simp [hx, hy]
  unfold olderCopy
  rw [hbest]
  dsimp only
  rw [List.findIdx_cons, Option.any_some, hx, Bool.true_and]
  by_cases h : x.gen < y.gen
  · rw [decide_eq_false (by omega)]
    simp [h]
  · rw [decide_eq_true (by omega)]
    simp [h]

theorem Device.cfgSaved_idle (wait : Nat) (h : d.study.saving = none ∨ d.coreRuns 3 = false) : d.cfgSaved wait = d := by
  unfold Device.cfgSaved
  split
  · rfl
  · rename_i t ht
    refine if_pos ?_
    rw [h.resolve_left fun hn => by rw [hn] at ht; cases ht]
    rfl

/-- The copy that a save writes. -/
def Device.savedCopy (d : Device) : CfgCopy := { gen := nextGen d.study.cfg, good := true, vals := d.obj.filter (fun e => savedKey e.1) }

/-- CFG_SAVE_COMPLETE. -/
theorem Device.cfgSaved_obeys (wait : Nat) {t0 : Nat} (hs : d.study.saving = some t0) (hc : d.coreRuns 3 = true) : let t := d.cfgSaved wait
    t.clock = (d.runTo (min (d.clock.ticks + wait) (t0 + 2 * sTicks))).clock ∧ t.study.saving = none ∧
      t.study.cfg = d.study.cfg.set (olderCopy d.study.cfg) (some d.savedCopy) ∧ t.nat K.cfgGen = d.savedCopy.gen ∧ t.nat K.cfgState = 0 ∧
      t.nat K.cfgSavedAt = t.mt16 := by
  have heq {m : Nat} (hm : min (d.clock.ticks + wait) (t0 + 2 * sTicks) = m) : d.cfgSaved wait =
      ((d.runTo m).setStudy (fun s => { s with saving := none, cfg := s.cfg.set (olderCopy s.cfg) (some (d.runTo m).savedCopy) })).setNums
        [(K.cfgState, 0), (K.cfgGen, ((d.runTo m).savedCopy.gen : Nat)), (K.cfgSavedAt, (d.runTo m).mt16)] := by
    unfold Device.cfgSaved
    rw [hs]
    dsimp only
    rw [if_neg (by rw [hc]; exact Bool.false_ne_true), hm]
    rfl
  generalize hm : min (d.clock.ticks + wait) (t0 + 2 * sTicks) = m
  rw [heq hm]
  have hstudy : (d.runTo m).study = d.study := Device.runTo_study _ _
  have hobj : (d.runTo m).obj = d.obj := Device.runTo_obj _ _
  have hcopy : (d.runTo m).savedCopy = d.savedCopy := by rw [Device.savedCopy, hstudy, hobj, Device.savedCopy]
  generalize d.runTo m = x at *
  rw [hcopy]
  obtain ⟨y, hy⟩ : ∃ y, x.setStudy (fun s => { s with saving := none, cfg := s.cfg.set (olderCopy s.cfg) (some d.savedCopy) }) = y := ⟨_, rfl⟩
  have hsame : y.clock = x.clock ∧ y.study.saving = none ∧ y.study.cfg = x.study.cfg.set (olderCopy x.study.cfg) (some d.savedCopy) ∧ y.mt16 = x.mt16 := by
    rw [← hy]
    exact ⟨rfl, rfl, rfl, rfl⟩
  obtain ⟨y1, y2, y3, y4⟩ := hsame
  rw [hy, ← y4]
  have hmem {k : Nat} {v : Int} (h : (k, v) ∈ [(K.cfgState, 0), (K.cfgGen, (d.savedCopy.gen : Int)), (K.cfgSavedAt, (y.mt16 : Int))]) :
      (y.setNums [(K.cfgState, 0), (K.cfgGen, (d.savedCopy.gen : Int)), (K.cfgSavedAt, (y.mt16 : Int))]).num k = v :=
    Device.num_setNums_of_mem _ (by simp only [List.map_cons, List.map_nil]; decide) h
  have h1 := hmem (k := K.cfgGen) (v := d.savedCopy.gen) (by simp)
  have h2 := hmem (k := K.cfgState) (v := 0) (by simp)
  have h3 := hmem (k := K.cfgSavedAt) (v := y.mt16) (by simp)
  have hframe : (y.setNums [(K.cfgState, 0), (K.cfgGen, (d.savedCopy.gen : Int)), (K.cfgSavedAt, (y.mt16 : Int))]).clock = y.clock ∧
      (y.setNums [(K.cfgState, 0), (K.cfgGen, (d.savedCopy.gen : Int)), (K.cfgSavedAt, (y.mt16 : Int))]).study = y.study := ⟨rfl, rfl⟩
  obtain ⟨g1, g2⟩ := hframe
  generalize y.setNums [(K.cfgState, 0), (K.cfgGen, (d.savedCopy.gen : Int)), (K.cfgSavedAt, (y.mt16 : Int))] = t at *
  refine ⟨g1.trans y1, by rw [g2, y2], by rw [g2, y3, hstudy], (congrArg Int.toNat h1).trans (Int.toNat_natCast _), congrArg Int.toNat h2, ?_⟩
  exact (congrArg Int.toNat h3).trans ((Int.toNat_natCast _).trans (mt16_of_clock g1).symm)

end

theorem cfgSave_row : dictFind (K.cfgSave / 256) (K.cfgSave % 256) = some ⟨0x7020, 0x7020, 0x01, 0x01, .uns 1, .rws, .num 0, .span 1 1, 0⟩ := rfl
theorem cfgErase_row : dictFind (K.cfgErase / 256) (K.cfgErase % 256) = some ⟨0x7020, 0x7020, 0x02, 0x02, .uns 1, .rws, .num 0, .span 1 1, 0⟩ := rfl

section
variable (s : State) (h : HapHdr)

theorem State.cfgSave_written (hw : s.writes h K.cfgSave [1]) (hl : (s.asWritten h K.cfgSave [1]).lock = 3) :
    exec (.cfgSave h [1]) s = .next (s.wrote h K.cfgSave [1] (answerOf (s.asWritten h K.cfgSave [1]).writeCfgSave)) :=
  congrArg Host.Outcome.next (s.sessionCommand_written h hw hl cfgSave_row ⟨by decide, by decide⟩ (by decide) (by decide)
    rfl (by decide) fun _ _ _ _ _ _ => rfl)

theorem State.cfgErase_written (hw : s.writes h K.cfgErase [1]) (hl : (s.asWritten h K.cfgErase [1]).lock = 3) :
    exec (.cfgErase h [1]) s = .next (s.wrote h K.cfgErase [1] (answerOf (s.asWritten h K.cfgErase [1]).writeCfgErase)) :=
  congrArg Host.Outcome.next (s.sessionCommand_written h hw hl cfgErase_row ⟨by decide, by decide⟩ (by decide) (by decide)
    rfl (by decide) fun _ _ _ _ _ _ => rfl)

end

end Sys2Proof.Machine
end

section
/-! Chapters 4 to 7: what Thermostat and Skylight follow of settings and of the root. -/

namespace Sys2Proof.Machine

/-- Is an object one of Thermostat's candidates or of the time state. -/
def candTimeKey (k : Nat) : Bool := candObj k || timeKey k

theorem candTime_of_cand {k : Nat} (h : candObj k = true) : candTimeKey k = true := Bool.or_eq_true_iff.mpr (.inl h)

theorem picksTime_candTime : picksTime candTimeKey := ⟨by decide, by decide, by decide⟩

section
variable (d : Device) {n : Nat}

/-! ## Settings of group 0x02 (R159) -/

section
variable (hn : n < 16)
include hn

theorem Device.cand_syncActivity : (d.syncActivity n).beside thermBlank candObj = d.beside thermBlank candObj := by
  obtain ⟨hs, hr, -⟩ := candObj_keys n hn
  have hpresent (x : Device) : (x.activityPresent n).beside thermBlank candObj = x.beside thermBlank candObj := by
    unfold Device.activityPresent
    simp only [apply_ite (Device.beside thermBlank candObj), Device.therm_restartGate, Device.therm_disqualify _ _ _ hs hr, Device.therm_setRef _ _ hs,
      Device.therm_setCandU, ite_self]
  simp only [Device.syncActivity, apply_ite (Device.beside thermBlank candObj), hpresent, Device.therm_activityAbsent _ hs hr, ite_self]

theorem Device.cand_setRef (st : Nat) : (d.setRef n st).beside thermBlank candObj = d.beside thermBlank candObj :=
  d.therm_setRef st (candObj_keys n hn).1

theorem Device.cand_qualify : (d.qualify n).beside thermBlank candObj = d.beside thermBlank candObj :=
  d.therm_qualify (candObj_keys n hn).1 (candObj_keys n hn).2.1

theorem Device.cand_refreshEnable : (d.refreshEnable n).beside thermBlank candObj = d.beside thermBlank candObj := by
  simp only [Device.refreshEnable, apply_ite (Device.beside thermBlank candObj), Device.cand_syncActivity _ hn, Device.cand_setRef _ hn,
    Device.therm_setCandU, ite_self]

theorem Device.cand_refreshQl : (d.refreshQl n).beside thermBlank candObj = d.beside thermBlank candObj := by
  simp only [Device.refreshQl, apply_ite (Device.beside thermBlank candObj), Device.beside_setNum _ _ (candObj_keys n hn).2.2, Device.therm_report, ite_self]

theorem Device.cand_clearPhase : (d.clearPhase n).beside thermBlank candObj = d.beside thermBlank candObj := by
  have hphase : ∀ n < 16, candObj (K.thermRefPhase n) = true := by decide
  have herr : candObj K.thermPhaseErr = true := by decide
  simp only [Device.clearPhase, apply_ite (Device.beside thermBlank candObj), Device.beside_setNum _ _ (hphase n hn), Device.beside_setNum _ _ herr, ite_self]

end

/-- R159: candidate n takes up its settings; `old` reads the values they had. -/
def Device.candApplied (d : Device) (n : Nat) (changed : Nat → Bool) : Device :=
  let src := if 1 ≤ n && n ≤ 4 then d.refinOn (n - 1) else (d.cand n).src
  let d := (((d.setCandU n (fun c => { c with src := src })).refreshEnable n).refreshQl n).clearPhase n
  if candTouched changed (fun i => d.num (K.refinPair i) = 1) n && 2 ≤ d.refState n then
    (((d.setRef n (if (d.cand n).active then 2 else 1)).restartGate n).setCandU n (fun c => { c with lastPhase := none })).syncActivity n
  else
    let e := if changed K.thermFreqGate then d.restartGate n else d
    if e.rootLocked then e.qualify n else e

theorem Device.cand_candApplied (changed : Nat → Bool) (hn : n < 16) : (d.candApplied n changed).beside thermBlank candObj = d.beside thermBlank candObj := by
  unfold Device.candApplied
  dsimp only
  have hbase : ((((d.setCandU n (fun c => { c with src := if 1 ≤ n && n ≤ 4 then d.refinOn (n - 1) else (d.cand n).src })).refreshEnable n).refreshQl
      n).clearPhase n).beside thermBlank candObj = d.beside thermBlank candObj := by
    rw [Device.cand_clearPhase _ hn, Device.cand_refreshQl _ hn, Device.cand_refreshEnable _ hn, Device.therm_setCandU]
  generalize (((d.setCandU n _).refreshEnable n).refreshQl n).clearPhase n = x at hbase ⊢
  rw [← hbase]
  simp only [apply_ite (Device.beside thermBlank candObj), Device.cand_syncActivity _ hn, Device.cand_setRef _ hn, Device.cand_qualify _ hn,
    Device.therm_restartGate, Device.therm_setCandU, ite_self]

/-- R159: the candidates have taken up their settings. -/
def Device.candsApplied (d : Device) (old : Nat → Val) : Device :=
  let d1 := (List.range 9).foldl (fun x n => x.candApplied n (fun k => old k ≠ d.val k)) d
  if d1.selected < 9 && d1.refState d1.selected = 0 then
    ((d1.report 0x0402 [d1.num K.thermSelected, 0xFF, 0]).setNum K.thermSelected 0xFF) else d1

theorem Device.cand_candsApplied (old : Nat → Val) : (d.candsApplied old).beside thermBlank candObj = d.beside thermBlank candObj := by
  have hfold : ((List.range 9).foldl (fun x n => x.candApplied n (fun k => old k ≠ d.val k)) d).beside thermBlank candObj = d.beside thermBlank candObj :=
    d.beside_foldl _ fun x n hn => x.cand_candApplied _ (by have := List.mem_range.mp hn; omega)
  have hsel : candObj K.thermSelected = true := by decide
  unfold Device.candsApplied
  dsimp only
  generalize (List.range 9).foldl (fun x n => x.candApplied n (fun k => old k ≠ d.val k)) d = x at hfold ⊢
  rw [← hfold]
  simp only [apply_ite (Device.beside thermBlank candObj), Device.beside_setNum _ _ hsel, Device.therm_report, ite_self]

theorem Device.thermCommitted_eq (old : Nat → Val) : d.thermCommitted old =
    (if (d.candsApplied old).num K.hoLimit < (old K.hoLimit).int then (d.candsApplied old).boundTest else d.candsApplied old).followPull := rfl

/-- R159, R172: a switch of group 0x02 touches Thermostat's candidates and the time state alone. -/
theorem Device.therm_thermCommitted (old : Nat → Val) : (d.thermCommitted old).beside thermBlank candTimeKey = d.beside thermBlank candTimeKey := by
  have hc := beside_mono (C' := candTimeKey) (d.cand_candsApplied old) id fun _ => candTime_of_cand
  rw [d.thermCommitted_eq]
  generalize d.candsApplied old = x at hc ⊢
  rw [← hc, Device.therm_followPull _ picksTime_candTime]
  simp only [Device.boundTest, apply_ite (Device.beside thermBlank candTimeKey), Device.therm_enterT5 _ _ picksTime_candTime, ite_self]

/-- Before a first lock a switch of group 0x02 leaves the time state too. -/
theorem Device.cand_thermCommitted (old : Nat → Val) (h : d.nat K.mtState < 4) : (d.thermCommitted old).beside thermBlank candObj = d.beside thermBlank candObj := by
  have hc := d.cand_candsApplied old
  have hst : (d.candsApplied old).nat K.mtState = d.nat K.mtState := nat_of_beside hc (by decide)
  rw [d.thermCommitted_eq]
  generalize d.candsApplied old = x at hc hst ⊢
  have h4 : ¬ x.nat K.mtState = 4 ∧ ¬ x.nat K.mtState = 5 := by omega
  have hbound : x.boundTest = x := if_neg (by simp [h4.1])
  rw [hbound, ite_self, Device.followPull, if_pos (by simp [h4.1, h4.2])]
  exact hc

/-! ## The root's lock again (R147) -/

theorem Device.cand_thermResume : d.thermResume.beside thermBlank candObj = d.beside thermBlank candObj := by
  unfold Device.thermResume
  dsimp only
  refine (Device.beside_foldl _ _ fun x n hn => ?_).trans (d.therm_setTherm _)
  have hn : n < 16 := by
    have := List.mem_range.mp hn
    omega
  rw [Device.cand_syncActivity _ hn, apply_ite (Device.beside thermBlank candObj), Device.cand_parentJump _ hn, ite_self]

/-- What the resumed clock outputs touch beside live values. -/
def ckoBlank : Blank :=
  { clear := fun d => { d with obj := [], lost := [], clock := { d.clock with cko := [] } }, clear_setVal := fun _ _ _ => rfl }

theorem Device.cko_ckoStart (C : Nat → Bool) (n : Nat) (h : C (K.ckoStatus n) = true) : (d.ckoStart n).beside ckoBlank C = d.beside ckoBlank C := by
  have hset (f : CkoUnit → CkoUnit) : (d.setCko n f).beside ckoBlank C = d.beside ckoBlank C := rfl
  unfold Device.ckoStart
  exact (Device.beside_setNum _ _ h).trans (hset _)

theorem Device.cko_ckoResume (C : Nat → Bool) (n : Nat) (h : C (K.ckoStatus n) = true) : (d.ckoResume n).beside ckoBlank C = d.beside ckoBlank C := by
  unfold Device.ckoResume
  split
  · exact d.cko_ckoStart C n h
  · rfl

/-! ## Settings of group 0x03 -/

/-- Is an object one of Skylight's. -/
def skyObj (k : Nat) : Bool := 0x2300 * 256 ≤ k && k < 0x2400 * 256

theorem Device.sky_setAnt (st : Nat) : (d.setAnt st).beside skyBlank skyObj = d.beside skyBlank skyObj := by
  have h : skyObj K.skyAntState = true := by decide
  simp only [Device.setAnt, apply_ite (Device.beside skyBlank skyObj), Device.beside_setNum _ _ h, Device.sky_report, ite_self]

theorem Device.sky_skyCommitted : d.skyCommitted.beside skyBlank skyObj = d.beside skyBlank skyObj := by
  have hchan (x : Device) (c : Nat) (hc : c < 128) : (x.setSkyState c 0).beside skyBlank skyObj = x.beside skyBlank skyObj := by
    refine beside_mono (x.setSkyState_frame 0) id fun k hk => ?_
    obtain ⟨hlo, hhi⟩ := Bool.and_eq_true_iff.mp hk
    have h1 := of_decide_eq_true hlo
    have h2 := of_decide_eq_true hhi
    unfold K.chState at h1
    unfold K.chAzim at h2
    exact Bool.and_eq_true_iff.mpr ⟨decide_eq_true (by omega), decide_eq_true (by omega)⟩
  have hfold : ((List.range 128).foldl (fun d c =>
      if d.skyCh c ≠ 0 && !sigEnabled d.num (d.nat (K.chSignal c)) then d.setSkyState c 0 else d) d).beside skyBlank skyObj = d.beside skyBlank skyObj :=
    d.beside_foldl _ fun x c hc => by rw [apply_ite (Device.beside skyBlank skyObj), hchan x c (List.mem_range.mp hc), ite_self]
  unfold Device.skyCommitted
  dsimp only
  generalize (List.range 128).foldl (fun d c => if d.skyCh c ≠ 0 && !sigEnabled d.num (d.nat (K.chSignal c)) then d.setSkyState c 0 else d) d = x at hfold ⊢
  have hant : (if x.num K.skyAntEnable = 0 then x.setAnt 0 else x).beside skyBlank skyObj = x.beside skyBlank skyObj := by
    rw [apply_ite (Device.beside skyBlank skyObj), Device.sky_setAnt, ite_self]
  generalize (if x.num K.skyAntEnable = 0 then x.setAnt 0 else x) = y at hant ⊢
  have hsettle : y.skySettle.beside skyBlank skyObj = y.beside skyBlank skyObj := rfl
  exact (Device.sky_setSky _ _).trans (hsettle.trans (hant.trans hfold))

/-! ## The oscillator model (R168) -/

/-- The objects of the oscillator model that a restore sets. -/
def restoredKey (k : Nat) : Bool := k ∈ modelKeys || windowKey k || k = K.hoModelState

theorem Device.therm_restoreModel : d.restoreModel.beside thermBlank restoredKey = d.beside thermBlank restoredKey := by
  have hmodel (x : Device) (st : Nat) (c : Int) : (x.setModel st c).beside thermBlank restoredKey = x.beside thermBlank restoredKey := by
    have h : restoredKey K.hoModelState = true := by decide
    simp only [Device.setModel, apply_ite (Device.beside thermBlank restoredKey), Device.beside_setNum _ _ h, Device.therm_report, ite_self]
  have hwindow (x : Device) : x.noteWindow.beside thermBlank restoredKey = x.beside thermBlank restoredKey :=
    beside_mono x.noteWindow_beside id fun k hk => Bool.or_eq_true_iff.mpr (.inl (Bool.or_eq_true_iff.mpr (.inr hk)))
  have hfold (l : List Int) : ((modelKeys.zip l).foldl (fun d e => d.setNum e.1 e.2) d).beside thermBlank restoredKey = d.beside thermBlank restoredKey :=
    d.beside_foldl _ fun x e he => x.beside_setNum _ (Bool.or_eq_true_iff.mpr (.inl (Bool.or_eq_true_iff.mpr (.inl (decide_eq_true (List.of_mem_zip he).1)))))
  unfold Device.restoreModel
  dsimp only
  split
  · rw [hmodel, hwindow, Device.therm_setHold, hfold]
  · rfl

end

end Sys2Proof.Machine
end

section
/-! Chapter 21: the first lock of the root and a later one (R114, R116, R122, R553). -/

namespace Sys2Proof.Machine

theorem exec_rootLock (s : State) : exec .rootLock s = .next (s.on (·.rootLock)) := rfl

/-! ## What a lock leaves -/

/-- All but the clocks and the number of re-plans. -/
def lockBlank : Blank := { clear := fun d => { clock := d.clock, power := { replans := d.power.replans } }, clear_setVal := fun _ _ _ => rfl }

/-- The objects that a first lock settles. -/
def lockKeys : List Nat := [K.hearthLock, K.mtState, K.tdcCalState, K.cellarSeedUnc, K.ageAvsNow, K.ageAvsFloor]

/-- Is an object none of those in `keep`. -/
def freeOf (keep : List Nat) (k : Nat) : Bool := k ∉ keep

theorem free_of_none {C : Nat → Bool} {keep : List Nat} (h : ∀ j ∈ keep, C j = false) (k : Nat) (hk : C k = true) : freeOf keep k = true :=
  decide_eq_true fun hmem => Bool.false_ne_true ((h k hmem).symm.trans hk)

theorem kept_of_mem {keep : List Nat} {k : Nat} (h : k ∈ keep) : freeOf keep k = false := decide_eq_false (not_not.mpr h)

/-- What leaves more alone leaves less alone, where the blanks are nested. -/
theorem beside_of_covers {B B' : Blank} {C C' : Nat → Bool} {d e : Device} (hB : ∀ x, B'.clear (B.clear x) = B'.clear x)
    (h : e.beside B C = d.beside B C) (hC : ∀ k, C k = true → C' k = true) : e.beside B' C' = d.beside B' C' :=
  beside_mono h (fun hc => (hB e).symm.trans ((congrArg B'.clear hc).trans (hB d))) hC

section
variable (d : Device)

/-! ## The part begins to serve -/

/-- The objects of what begins with the service are none of `keep`. -/
def startsFree (keep : List Nat) : Prop :=
  (∀ n < 4, freeOf keep (K.canState n) = true ∧ freeOf keep (K.canBusoffCount n) = true) ∧ freeOf keep K.fbSeqQueue = true ∧ freeOf keep K.fbSeqPeak = true

theorem Device.lock_queueStep {keep : List Nat} (h : startsFree keep) (kind : Nat) (exit : Bool) :
    (d.queueStep kind exit).beside lockBlank (freeOf keep) = d.beside lockBlank (freeOf keep) := by
  obtain ⟨-, hq, hp⟩ := h
  have hset (x : Device) (f : Power → Power) (hf : (f x.power).replans = x.power.replans) :
      (x.setPower f).beside lockBlank (freeOf keep) = x.beside lockBlank (freeOf keep) :=
    beside_of_clear (congrArg (fun r => ({ clock := x.clock, power := { replans := r } } : Device)) hf) fun _ => rfl
  have hrep (x : Device) (c : Nat) (p : List Int) : (x.report c p).beside lockBlank (freeOf keep) = x.beside lockBlank (freeOf keep) := rfl
  unfold Device.queueStep
  dsimp only
  simp only [apply_ite (Device.beside lockBlank (freeOf keep)), hrep, Device.beside_setNum _ _ hp, Device.beside_setNum _ _ hq, ite_self]
  exact hset _ _ rfl

theorem Device.lock_canStart {keep : List Nat} (h : startsFree keep) {n : Nat} (hn : n < 4) :
    (d.canStart n).beside lockBlank (freeOf keep) = d.beside lockBlank (freeOf keep) := by
  obtain ⟨hs, hc⟩ := h.1 n hn
  have hrep (x : Device) (c : Nat) (p : List Int) : (x.report c p).beside lockBlank (freeOf keep) = x.beside lockBlank (freeOf keep) := rfl
  simp only [Device.canStart, Device.setCan, apply_ite (Device.beside lockBlank (freeOf keep)), Device.beside_bump _ hc, hrep, Device.beside_setNum _ _ hs,
    ite_self]

theorem Device.lock_startServing {keep : List Nat} (h : startsFree keep) : d.startServing.beside lockBlank (freeOf keep) = d.beside lockBlank (freeOf keep) := by
  have hends (x : Device) (f : Foyer → Foyer) (now : Nat) :
      ((x.setPower (fun p => { p with configDone := true, serving := true, idleFrom := now })).setFoyer f).beside lockBlank (freeOf keep) =
        x.beside lockBlank (freeOf keep) := rfl
  unfold Device.startServing
  dsimp only
  refine (hends _ _ _).trans ((Device.beside_foldl _ _ fun x p _ => ?_).trans (d.beside_foldl _ fun x c hc => x.lock_canStart h (List.mem_range.mp hc)))
  rw [apply_ite (Device.beside lockBlank (freeOf keep)), x.lock_queueStep h, ite_self]

theorem startsFree_lock : startsFree lockKeys := ⟨by decide, by decide, by decide⟩

/-! ## MT starts (R78, R550) -/

/-- What the Cellar's seed gives depends on the Cellar and on its objects. -/
theorem seed_congr {d e : Device} (hc : e.clock.xtal = d.clock.xtal) (hl : e.cellar = d.cellar) (hu : e.nat K.cellarSnapUnc = d.nat K.cellarSnapUnc)
    (hp : e.nat K.cellarSeedPpm = d.nat K.cellarSeedPpm) (hm : e.nat K.cellarSeedMax = d.nat K.cellarSeedMax) :
    e.sinceSnap = d.sinceSnap ∧ e.seedUnc = d.seedUnc ∧ e.seedValid = d.seedValid := by
  have hs : e.sinceSnap = d.sinceSnap := by rw [Device.sinceSnap, Device.cellarCount, hc, hl, Device.sinceSnap, Device.cellarCount]
  have hun : e.seedUnc = d.seedUnc := by rw [Device.seedUnc, hu, hs, hp, Device.seedUnc]
  exact ⟨hs, hun, by rw [Device.seedValid, hl, hun, hm, Device.seedValid]⟩

/-- The MT instant of the Cellar's seed, 0 if it is not valid. -/
def Device.seedMt (d : Device) : Nat := if d.seedValid then (d.nat K.cellarSnapTime + d.sinceSnap) * fracU else 0

/-- The objects of the start of MT. -/
def mtStartKeys : List Nat := [K.cellarSeedUnc, K.mtState, K.mtStateSince, K.mtEverLocked]

theorem Device.mtStart_eq : ∃ (x : Device) (v : Int), d.mtStart = (if d.seedValid then x.setTimeState 1 else x).setNum K.mtStateSince v ∧
    x.clock.ticks = d.clock.ticks ∧ x.clock.mtRun = true ∧ x.clock.mt = d.seedMt ∧ x.power = d.power ∧
      ∀ k, x.val k = (d.setNum K.cellarSeedUnc (if d.seedValid then (d.seedUnc : Nat) else 0xFFFFFFFF)).val k :=
  ⟨_, _, rfl, rfl, rfl, rfl, rfl, fun _ => rfl⟩

theorem Device.mtStart_obeys (h0 : d.nat K.mtState = 0) : let t := d.mtStart
    t.clock.ticks = d.clock.ticks ∧ t.clock.mtRun = true ∧ t.clock.mt = d.seedMt ∧ t.power = d.power ∧
      t.nat K.mtState = (if d.seedValid then 1 else 0) ∧ t.nat K.cellarSeedUnc = (if d.seedValid then d.seedUnc else 0xFFFFFFFF) ∧
      ∀ k, k ∉ mtStartKeys → t.val k = d.val k := by
  obtain ⟨x, v, heq, hticks, hrun, hmt, hpower, hval⟩ := d.mtStart_eq
  obtain ⟨y, hy⟩ : ∃ y, (if d.seedValid then x.setTimeState 1 else x) = y := ⟨_, rfl⟩
  have hyc : y.clock = x.clock := by rw [← hy, apply_ite Device.clock, Device.setTimeState_clock, ite_self]
  have hyp : y.power = x.power := by rw [← hy, apply_ite Device.power, Device.setTimeState_power, ite_self]
  have hyv (k : Nat) (hk : timeKey k = false) : y.val k = x.val k := by
    refine val_of_beside (B := thermBlank) (C := timeKey) ?_ hk
    rw [← hy, apply_ite (Device.beside thermBlank timeKey), Device.therm_setTimeState _ _ picksTime_timeKey, ite_self]
  have hyn {k : Nat} (hk : timeKey k = false) : y.nat k = x.nat k := congrArg (fun v => v.int.toNat) (hyv k hk)
  have hx0 : x.nat K.mtState = 0 := by
    have h : x.val K.mtState = d.val K.mtState := (hval _).trans (d.val_setVal_ne _ (by decide))
    exact (congrArg (fun v => v.int.toNat) h).trans h0
  have hys : y.nat K.mtState = if d.seedValid then 1 else 0 := by
    rw [← hy]
    split
    · exact x.nat_setTimeState 1
    · exact hx0
  have hxu : x.nat K.cellarSeedUnc = if d.seedValid then d.seedUnc else 0xFFFFFFFF := by
    refine (congrArg (fun v => v.int.toNat) (hval _)).trans ((d.nat_setNum_self _ _).trans ?_)
    split <;> rfl
  have hset {k : Nat} (hk : k ≠ K.mtStateSince) : (y.setNum K.mtStateSince v).val k = y.val k := y.val_setVal_ne _ hk
  have hsetn {k : Nat} (hk : k ≠ K.mtStateSince) : (y.setNum K.mtStateSince v).nat k = y.nat k := congrArg (fun v => v.int.toNat) (hset hk)
  have hsetc : (y.setNum K.mtStateSince v).clock = y.clock := rfl
  have hsetp : (y.setNum K.mtStateSince v).power = y.power := rfl
  rw [heq, hy]
  dsimp only
  rw [hsetc, hsetp, hyc, hyp, hsetn (by decide), hsetn (by decide), hys, hyn (by decide), hxu]
  refine ⟨hticks, hrun, hmt, hpower, rfl, rfl, fun k hk => ?_⟩
  simp only [mtStartKeys, List.mem_cons, List.not_mem_nil, or_false, not_or] at hk
  obtain ⟨h1, h2, h3, h4⟩ := hk
  have hk : timeKey k = false := by simp [timeKey, h2, h3, h4]
  exact (hset h3).trans ((hyv k hk).trans ((hval k).trans (d.val_setVal_ne _ h1)))

/-! ## The set point of a first lock (R564) -/

theorem Device.elapse_mt_le (n : Nat) : d.clock.mt ≤ (d.elapse n).clock.mt := by
  cases h : d.clock.mtRun
  · rw [Device.elapse_mt_of_stopped n h]
  · rw [Device.elapse_mt_of_run n h]
    omega

theorem Device.avsRun_clock (fuel : Nat) : (d.avsRun true fuel).clock.mtRun = d.clock.mtRun ∧ d.clock.mt ≤ (d.avsRun true fuel).clock.mt := by
  induction fuel generalizing d with
  | zero => exact ⟨rfl, le_rfl⟩
  | succ fuel ih =>
    unfold Device.avsRun
    dsimp only
    split
    · exact ⟨rfl, le_rfl⟩
    · rw [if_pos rfl]
      generalize hv : (if d.nat K.ageAvsNow < d.avsWanted then min d.avsWanted (d.nat K.ageAvsNow + 10) else max d.avsWanted (d.nat K.ageAvsNow - 10)) = v
      have hclock : ((d.setNum K.ageAvsNow v).setPower (fun p => { p with avsSet := v, avsRetry := none })).clock = d.clock := rfl
      generalize (d.setNum K.ageAvsNow v).setPower (fun p => { p with avsSet := v, avsRetry := none }) = x at hclock ⊢
      obtain ⟨h1, h2⟩ := ih (x.elapse (100 * usTicks))
      have h3 := x.elapse_mt_le (100 * usTicks)
      rw [Device.elapse_mtRun, hclock] at h1
      rw [hclock] at h3
      exact ⟨h1, h3.trans h2⟩

/-- What R564 waits for depends on the floor and on the number of re-plans. -/
theorem avsWanted_congr {d e : Device} (hf : e.num K.ageAvsFloor = d.num K.ageAvsFloor) (hr : e.power.replans = d.power.replans) :
    e.avsWanted = d.avsWanted := by rw [Device.avsWanted, hf, hr, Device.avsWanted]

/-- R564: the time that the set point takes to come to the one wanted, whatever write stood before. -/
theorem Device.avsRun_ticks {fuel now want : Nat} (hn : d.nat K.ageAvsNow = now) (hw : d.avsWanted = want)
    (hf : ceilDiv ((want : Int) - now).natAbs 10 ≤ fuel + 1) :
    (d.avsRun true (fuel + 1)).clock.ticks = d.clock.ticks + 100 * usTicks * ceilDiv ((want : Int) - now).natAbs 10 := by
  by_cases hsame : now = want
  · have hstay : d.avsRun true (fuel + 1) = d := if_pos (by rw [hn, hw, hsame])
    have hz : ceilDiv ((want : Int) - now).natAbs 10 = 0 := by simp [ceilDiv, hsame]
    rw [hstay, hz, Nat.mul_zero, Nat.add_zero]
  · obtain ⟨x, hx, hxn, hxc, hxs, hxr, hxf, hxp⟩ : ∃ x, (d.setNum K.ageAvsNow (avsNext want now : Nat)).setPower
        (fun p => { p with avsSet := avsNext want now, avsRetry := none }) = x ∧ x.nat K.ageAvsNow = avsNext want now ∧ x.clock = d.clock ∧
        x.power.avsSet = avsNext want now ∧ x.power.avsRetry = none ∧ x.num K.ageAvsFloor = d.num K.ageAvsFloor ∧ x.power.replans = d.power.replans :=
      ⟨_, rfl, (congrArg (fun v => v.int.toNat) (Device.setPower_val _ _ _)).trans ((d.nat_setNum_self _ _).trans (Int.toNat_natCast _)), rfl, rfl, rfl,
        (congrArg Val.int (Device.setPower_val _ _ _)).trans (congrArg Val.int (d.val_setVal_ne _ (by decide))), rfl⟩
    have hstep : d.avsRun true (fuel + 1) = (x.elapse (100 * usTicks)).avsRun true fuel := by
      refine (if_neg (by rw [hn, hw]; exact hsame)).trans ?_
      rw [hn, hw, ← hx]
      rfl
    have hdist : ceilDiv ((want : Int) - now).natAbs 10 = ceilDiv ((want : Int) - avsNext want now).natAbs 10 + 1 := by
      simp only [ceilDiv, avsNext]
      split <;> omega
    have hwant : (x.elapse (100 * usTicks)).avsWanted = want := (avsWanted_congr ((Device.elapse_num _ _ _).trans hxf) hxp).trans hw
    obtain ⟨-, -, -, hticks⟩ := (x.elapse (100 * usTicks)).avsRun_reaches (fuel := fuel) ((Device.elapse_nat _ _ _).trans hxn) hwant (by omega) hxs hxr
    rw [hstep, hticks, Device.elapse_ticks, hxc, hdist]
    ring

/-! ## The first lock -/

/-- The time of the hand-over, the reports and the start of MT. -/
def Device.lockBegun (d : Device) : Device :=
  ((({ d with clock := { d.clock with handover := some d.clock.ticks } } : Device).setNum K.hearthLock 1).report 0x0301
    [0, d.num K.hearthLoMeas]).report 0x0305 [((d.clock.ticks - d.power.released) / usTicks : Nat)]

/-- Calibration starts, at the set point of a reset, and the ledger's numbers have a new base. -/
def Device.lockCalibrates (d : Device) : Device :=
  (({ d with tdc := { d.tdc with calFrom := d.clock.ticks } } : Device).setNums [(K.tdcCalState, 1), (K.ageAvsNow, 750)]).newSeqBase 0

/-- The domains' steps wait, and the model, the key's rotation and the crystal's measurement go on from here. -/
def Device.lockRestores (d : Device) (now : Nat) : Device :=
  ((((exitSteps 0).foldl (fun d k => d.queueStep k true) d).restoreModel.setKeyhole (fun k => { k with rotateFrom := now })).setPower
    (fun p => { p with xtalAt := now }))

theorem Device.rootLock_first {d e : Device} (hup : d.power.held = 0) (h1 : d.nat K.hearthLock = 0) (h4 : d.nat K.fbState ≠ 4)
    (he : d.elapse (2 * msTicks) = e) : ∃ x : Device, x = e.lockBegun.mtStart.lockCalibrates.lockRestores e.clock.ticks ∧
      d.rootLock = (let t := (x.thermCommitted x.val).skyCommitted.avsRun true 64; if t.keyhole.recovery then t.startServing else t) := by
  subst he
  have hidle : ¬ (!d.up || d.nat K.hearthLock = 1 || d.nat K.fbState = 4) = true := by simp [Device.up, hup, h1, h4]
  have h0 : ¬ (d.elapse (2 * msTicks)).nat K.hearthLock ≠ 0 := by
    rw [Device.elapse_nat]
    exact not_not.mpr h1
  refine ⟨_, rfl, ?_⟩
  unfold Device.rootLock
  rw [if_neg hidle]
  generalize d.elapse (2 * msTicks) = e at h0 ⊢
  extract_lets y c y1 y2 y3 tdc y4 y5 now y6 y7 t
  have h3 : e.lockBegun.mtStart = y3 := rfl
  have hnow : e.clock.ticks = now := rfl
  clear_value y3 now
  have h4 : y3.lockCalibrates = y4 := rfl
  clear_value y4
  have h6 : y4.lockRestores now = y6 := rfl
  clear_value y6
  have h7 : t = y7 := by
    simp only [t, y7]
    rw [h3, hnow, h4, h6]
  rw [if_neg h0, h7]

theorem Device.lockBegun_obeys : let t := d.lockBegun
    t.nat K.hearthLock = 1 ∧ t.clock.ticks = d.clock.ticks ∧ t.clock.xtal = d.clock.xtal ∧ t.cellar = d.cellar ∧ t.power = d.power ∧
      ∀ k, k ≠ K.hearthLock → t.val k = d.val k := by
  obtain ⟨x, hx, hxt, hxx, hxl, hxp, hxv⟩ : ∃ x, ({ d with clock := { d.clock with handover := some d.clock.ticks } } : Device) = x ∧
      x.clock.ticks = d.clock.ticks ∧ x.clock.xtal = d.clock.xtal ∧ x.cellar = d.cellar ∧ x.power = d.power ∧ ∀ k, x.val k = d.val k :=
    ⟨_, rfl, rfl, rfl, rfl, rfl, fun _ => rfl⟩
  have heq : d.lockBegun = ((x.setNum K.hearthLock 1).report 0x0301 [0, d.num K.hearthLoMeas]).report 0x0305
      [((d.clock.ticks - d.power.released) / usTicks : Nat)] := by
    rw [← hx]
    rfl
  dsimp only
  rw [heq, Device.report_nat, Device.report_nat, Device.nat_setNum_self]
  exact ⟨rfl, hxt, hxx, hxl, hxp, fun k hk => (Device.report_val _ _ _ _).trans ((Device.report_val _ _ _ _).trans ((x.val_setVal_ne _ hk).trans (hxv k)))⟩

theorem Device.lockCalibrates_obeys : let t := d.lockCalibrates
    t.nat K.tdcCalState = 1 ∧ t.nat K.ageAvsNow = 750 ∧ t.clock = d.clock ∧ t.power = d.power ∧
      ∀ k, k ≠ K.tdcCalState → k ≠ K.ageAvsNow → t.val k = d.val k := by
  obtain ⟨x, hx, hxc, hxp, hxv⟩ : ∃ x, ({ d with tdc := { d.tdc with calFrom := d.clock.ticks } } : Device) = x ∧ x.clock = d.clock ∧ x.power = d.power ∧
      ∀ k, x.val k = d.val k := ⟨_, rfl, rfl, rfl, fun _ => rfl⟩
  obtain ⟨y, hy, hyc, hyp, hyv⟩ : ∃ y, (x.setNum K.tdcCalState 1).setNum K.ageAvsNow 750 = y ∧ y.clock = x.clock ∧ y.power = x.power ∧
      ∀ k, k ≠ K.tdcCalState → k ≠ K.ageAvsNow → y.val k = x.val k :=
    ⟨_, rfl, rfl, rfl, fun k h1 h2 => (Device.val_setVal_ne _ _ h2).trans (x.val_setVal_ne _ h1)⟩
  have heq : d.lockCalibrates = y.newSeqBase 0 := by
    rw [← hy, ← hx]
    rfl
  have hcal : y.nat K.tdcCalState = 1 := by
    rw [← hy]
    exact (congrArg (fun v => v.int.toNat) ((x.setNum K.tdcCalState 1).val_setVal_ne (k := K.ageAvsNow) (j := K.tdcCalState) _ (by decide))).trans
      (x.nat_setNum_self _ _)
  have havs : y.nat K.ageAvsNow = 750 := by
    rw [← hy]
    exact Device.nat_setNum_self _ _ _
  have hbase (k : Nat) : (y.newSeqBase 0).val k = y.val k := rfl
  have hbasen (k : Nat) : (y.newSeqBase 0).nat k = y.nat k := rfl
  have hbasec : (y.newSeqBase 0).clock = y.clock := rfl
  have hbasep : (y.newSeqBase 0).power = y.power := rfl
  dsimp only
  rw [heq, hbasen, hbasen, hbasec, hbasep]
  exact ⟨hcal, havs, hyc.trans hxc, hyp.trans hxp, fun k h1 h2 => (hbase k).trans ((hyv k h1 h2).trans (hxv k))⟩

theorem Device.lock_lockRestores (now : Nat) : (d.lockRestores now).beside lockBlank (freeOf lockKeys) = d.beside lockBlank (freeOf lockKeys) := by
  have hends (x : Device) (f : Keyhole → Keyhole) : ((x.setKeyhole f).setPower (fun p => { p with xtalAt := now })).beside lockBlank (freeOf lockKeys) =
      x.beside lockBlank (freeOf lockKeys) := rfl
  unfold Device.lockRestores
  refine (hends _ _).trans ((beside_of_covers (fun _ => rfl) (Device.therm_restoreModel _) (free_of_none (by decide))).trans ?_)
  exact d.beside_foldl _ fun x k _ => x.lock_queueStep startsFree_lock k true

/-- R159, R186: before the time state moves, the settings that a first lock takes up leave what it settles. -/
theorem Device.lock_committed (h : d.nat K.mtState < 4) : (d.thermCommitted d.val).skyCommitted.beside lockBlank (freeOf lockKeys) =
    d.beside lockBlank (freeOf lockKeys) :=
  (beside_of_covers (fun _ => rfl) (Device.sky_skyCommitted _) (free_of_none (by decide))).trans
    (beside_of_covers (fun _ => rfl) (d.cand_thermCommitted _ h) (free_of_none (by decide)))

theorem lock_clock {d e : Device} {C : Nat → Bool} (h : e.beside lockBlank C = d.beside lockBlank C) : e.clock = d.clock :=
  congrArg (fun x => x.1.clock) h
theorem lock_replans {d e : Device} {C : Nat → Bool} (h : e.beside lockBlank C = d.beside lockBlank C) : e.power.replans = d.power.replans :=
  congrArg (fun x => x.1.power.replans) h

/-- The device that a first lock makes before the set point moves. -/
theorem Device.lockReached {now : Nat} (h0 : d.nat K.mtState = 0) (x : Device) (hx : x = d.lockBegun.mtStart.lockCalibrates.lockRestores now) :
    let t := (x.thermCommitted x.val).skyCommitted
    t.nat K.hearthLock = 1 ∧ t.nat K.tdcCalState = 1 ∧ t.nat K.ageAvsNow = 750 ∧ t.num K.ageAvsFloor = d.num K.ageAvsFloor ∧
      t.power.replans = d.power.replans ∧ t.clock.mtRun = true ∧ t.clock.ticks = d.clock.ticks ∧ t.clock.mt = d.seedMt ∧
      t.nat K.mtState = (if d.seedValid then 1 else 0) ∧ t.nat K.cellarSeedUnc = (if d.seedValid then d.seedUnc else 0xFFFFFFFF) := by
  obtain ⟨b1, bticks, bxtal, bcellar, bpower, bval⟩ := d.lockBegun_obeys
  generalize d.lockBegun = b at *
  have bn {k : Nat} (hk : k ≠ K.hearthLock) : b.nat k = d.nat k := congrArg (fun v => v.int.toNat) (bval k hk)
  obtain ⟨ssince, sunc, svalid⟩ := seed_congr bxtal bcellar (bn (by decide)) (bn (by decide)) (bn (by decide))
  have smt : b.seedMt = d.seedMt := by rw [Device.seedMt, svalid, ssince, bn (by decide), Device.seedMt]
  obtain ⟨mticks, mrun, mmt, mpower, mstate, munc, mval⟩ := b.mtStart_obeys ((bn (by decide)).trans h0)
  generalize b.mtStart = m at *
  have mn {k : Nat} (hk : k ∉ mtStartKeys) : m.nat k = b.nat k := congrArg (fun v => v.int.toNat) (mval k hk)
  obtain ⟨c1, c750, cclock, cpower, cval⟩ := m.lockCalibrates_obeys
  generalize m.lockCalibrates = c at *
  have cn {k : Nat} (h1 : k ≠ K.tdcCalState) (h2 : k ≠ K.ageAvsNow) : c.nat k = m.nat k := congrArg (fun v => v.int.toNat) (cval k h1 h2)
  have hr := c.lock_lockRestores now
  rw [← hx] at hr
  clear hx
  have hstate : x.nat K.mtState = if d.seedValid then 1 else 0 :=
    (nat_of_beside hr (by decide)).trans ((cn (by decide) (by decide)).trans (mstate.trans (by rw [svalid])))
  have hall := (x.lock_committed (by rw [hstate]; split <;> omega)).trans hr
  dsimp only
  generalize (x.thermCommitted x.val).skyCommitted = t at hall ⊢
  have tn {k : Nat} (hk : k ∈ lockKeys) : t.nat k = c.nat k := nat_of_beside hall (kept_of_mem hk)
  have hclock := (lock_clock hall).trans cclock
  refine ⟨?_, (tn (by decide)).trans c1, (tn (by decide)).trans c750, ?_, ?_, ?_, ?_, ?_, ?_, ?_⟩
  · exact (tn (by decide)).trans ((cn (by decide) (by decide)).trans ((mn (by decide)).trans b1))
  · exact (num_of_beside hall (kept_of_mem (by decide))).trans (congrArg Val.int ((cval _ (by decide) (by decide)).trans ((mval _ (by decide)).trans (bval _ (by decide)))))
  · rw [lock_replans hall, cpower, mpower, bpower]
  · rw [hclock, mrun]
  · rw [hclock, mticks, bticks]
  · rw [hclock, mmt, smt]
  · exact (tn (by decide)).trans ((cn (by decide) (by decide)).trans (mstate.trans (by rw [svalid])))
  · exact (tn (by decide)).trans ((cn (by decide) (by decide)).trans (munc.trans (by rw [svalid, sunc])))

/-- ROOT_LOCK, the first. -/
theorem Device.rootLock_starts (hup : d.power.held = 0) (h1 : d.nat K.hearthLock = 0) (h4 : d.nat K.fbState ≠ 4) (h0 : d.nat K.mtState = 0)
    (hf : 650 ≤ d.nat K.ageAvsFloor) (hf' : d.nat K.ageAvsFloor ≤ 850) : let e := d.elapse (2 * msTicks)
    let t := d.rootLock
    t.nat K.hearthLock = 1 ∧ t.clock.mtRun = true ∧ t.nat K.tdcCalState = 1 ∧
      t.clock.ticks = d.clock.ticks + 2 * msTicks + 100 * usTicks * ceilDiv ((d.avsWanted : Int) - 750).natAbs 10 ∧
      (e.seedValid = true → t.nat K.mtState = 1 ∧ (e.nat K.cellarSnapTime + e.sinceSnap) * fracU ≤ t.clock.mt ∧ t.nat K.cellarSeedUnc = e.seedUnc) ∧
      (e.seedValid = false → t.nat K.mtState = 0 ∧ t.nat K.cellarSeedUnc = 0xFFFFFFFF) := by
  obtain ⟨w1, w2⟩ := d.avsWanted_range hf hf'
  have ewant : (d.elapse (2 * msTicks)).avsWanted = d.avsWanted := avsWanted_congr (Device.elapse_num _ _ _) (congrArg Power.replans (d.elapse_power _))
  have eticks := d.elapse_ticks (2 * msTicks)
  have estate : (d.elapse (2 * msTicks)).nat K.mtState = 0 := (Device.elapse_nat _ _ _).trans h0
  obtain ⟨x, hx, heq⟩ := Device.rootLock_first hup h1 h4 rfl
  generalize d.elapse (2 * msTicks) = e at *
  obtain ⟨r1, rcal, r750, rfloor, rreplans, rrun, rticks, rmt, rstate, runc⟩ := e.lockReached estate x hx
  clear hx
  dsimp only
  rw [heq]
  dsimp only
  generalize (x.thermCommitted x.val).skyCommitted = r at *
  have hw : r.avsWanted = d.avsWanted := (avsWanted_congr rfloor rreplans).trans ewant
  have hticks := r.avsRun_ticks (fuel := 63) r750 hw (by simp only [ceilDiv]; omega)
  have hclock := r.avsRun_clock 64
  have hfree := r.avs_avsRun true 64
  generalize r.avsRun true 64 = a at *
  have hserve : (if a.keyhole.recovery then a.startServing else a).beside lockBlank (freeOf lockKeys) = a.beside lockBlank (freeOf lockKeys) := by
    rw [apply_ite (Device.beside lockBlank (freeOf lockKeys)), a.lock_startServing startsFree_lock, ite_self]
  generalize (if a.keyhole.recovery then a.startServing else a) = t at hserve ⊢
  have tn {k : Nat} (hk : k ∈ lockKeys) (ha : avsKey k = false) : t.nat k = r.nat k :=
    (nat_of_beside hserve (kept_of_mem hk)).trans (nat_of_beside hfree ha)
  have tclock := lock_clock hserve
  have tstate := (tn (k := K.mtState) (by decide) (by decide)).trans rstate
  have tunc := (tn (k := K.cellarSeedUnc) (by decide) (by decide)).trans runc
  refine ⟨(tn (by decide) (by decide)).trans r1, ?_, (tn (by decide) (by decide)).trans rcal, ?_, fun hs => ⟨?_, ?_, ?_⟩, fun hs => ⟨?_, ?_⟩⟩
  · rw [tclock, hclock.1, rrun]
  · rw [tclock, hticks, rticks, eticks]
    rfl
  · rw [tstate, if_pos hs]
  · have hmt : e.seedMt = (e.nat K.cellarSnapTime + e.sinceSnap) * fracU := if_pos hs
    rw [tclock, ← hmt, ← rmt]
    exact hclock.2
  · rw [tunc, if_pos hs]
  · rw [tstate, if_neg (by rw [hs]; exact Bool.false_ne_true)]
  · rw [tunc, if_neg (by rw [hs]; exact Bool.false_ne_true)]

/-! ## A later lock -/

theorem Device.rootLock_idle (h : d.power.held ≠ 0 ∨ d.nat K.hearthLock = 1 ∨ d.nat K.fbState = 4) : d.rootLock = d := by
  refine if_pos ?_
  rcases h with h | h | h <;> simp [Device.up, h]

/-- All but the ticks. -/
def tickBlank : Blank := { clear := fun d => { clock := { ticks := d.clock.ticks } }, clear_setVal := fun _ _ _ => rfl }

theorem tick_ticks {d e : Device} {C : Nat → Bool} (h : e.beside tickBlank C = d.beside tickBlank C) : e.clock.ticks = d.clock.ticks :=
  congrArg (fun x => x.1.clock.ticks) h

theorem Device.relocks : (d.rootRelock).nat K.hearthLock = 1 ∧ d.rootRelock.clock.ticks = d.clock.ticks := by
  obtain ⟨x, hx, hxt⟩ : ∃ x, (if d.nat K.hearthLock = 3 then d.report 0x0303 [0, d.num K.hearthRootDev] else d) = x ∧ x.clock.ticks = d.clock.ticks := by
    refine ⟨_, rfl, ?_⟩
    split <;> rfl
  obtain ⟨y, hy, hy1, hyt⟩ : ∃ y, (x.setNum K.hearthLock 1).report 0x0301 [1, d.num K.hearthLoMeas] = y ∧ y.nat K.hearthLock = 1 ∧ y.clock.ticks = x.clock.ticks :=
    ⟨_, rfl, (Device.report_nat _ _ _ _).trans (x.nat_setNum_self _ _), rfl⟩
  have heq : d.rootRelock = (List.range 4).foldl (fun d n => d.ckoResume n) y.thermResume.followPull := by
    rw [← hy, ← hx]
    rfl
  have hfree : d.rootRelock.beside tickBlank (freeOf [K.hearthLock]) = y.beside tickBlank (freeOf [K.hearthLock]) := by
    rw [heq]
    refine (Device.beside_foldl _ _ fun z n hn => ?_).trans ((beside_of_covers (fun _ => rfl) (Device.therm_followPull (C := timeKey) _ picksTime_timeKey)
      (free_of_none (by decide))).trans (beside_of_covers (fun _ => rfl) y.cand_thermResume (free_of_none (by decide))))
    have hkey : ∀ n < 4, freeOf [K.hearthLock] (K.ckoStatus n) = true := by decide
    exact beside_of_covers (fun _ => rfl) (z.cko_ckoResume _ n (hkey n (List.mem_range.mp hn))) fun _ h => h
  refine ⟨(nat_of_beside hfree (by decide)).trans hy1, ?_⟩
  rw [tick_ticks hfree, hyt, hxt]

theorem Device.rootLock_again (hup : d.power.held = 0) (h1 : 2 ≤ d.nat K.hearthLock) (h4 : d.nat K.fbState ≠ 4) :
    d.rootLock.nat K.hearthLock = 1 ∧ d.rootLock.clock.ticks = d.clock.ticks + 2 * msTicks := by
  have hidle : ¬ (!d.up || d.nat K.hearthLock = 1 || d.nat K.fbState = 4) = true := by
    have : d.nat K.hearthLock ≠ 1 := by omega
    simp [Device.up, hup, this, h4]
  have hagain : (d.elapse (2 * msTicks)).nat K.hearthLock ≠ 0 := by
    rw [Device.elapse_nat]
    omega
  have heq : d.rootLock = (d.elapse (2 * msTicks)).rootRelock.tdcRelocked.setPower
      (fun p => { p with xtalAt := (d.elapse (2 * msTicks)).clock.ticks }) := (if_neg hidle).trans (if_pos hagain)
  have eticks := d.elapse_ticks (2 * msTicks)
  rw [heq]
  generalize d.elapse (2 * msTicks) = e at *
  obtain ⟨r1, rt⟩ := e.relocks
  generalize e.rootRelock = r at *
  have hn : (r.tdcRelocked.setPower (fun p => { p with xtalAt := e.clock.ticks })).nat K.hearthLock = r.nat K.hearthLock := rfl
  have ht : (r.tdcRelocked.setPower (fun p => { p with xtalAt := e.clock.ticks })).clock = r.clock := rfl
  rw [hn, ht]
  exact ⟨r1, rt.trans eticks⟩

end

end Sys2Proof.Machine
end

section
/-! Chapter 21: what a switch of groups leaves of the configuration's own objects (R551, R552). -/

namespace Sys2Proof.Machine

/-- The objects of the configuration store that a load sets before its switch. -/
def cfgKeys : List Nat := [K.cfgState, K.cfgGen]

/-- CFG_STATE and CFG_GEN. -/
def Device.cfgs (d : Device) : Val × Val := (d.val K.cfgState, d.val K.cfgGen)

theorem cfgs_of_val {d e : Device} (h : ∀ k ∈ cfgKeys, e.val k = d.val k) : e.cfgs = d.cfgs :=
  Prod.ext (h _ (by decide)) (h _ (by decide))

theorem cfgs_of_beside {B : Blank} {C : Nat → Bool} {d e : Device} (h : e.beside B C = d.beside B C) (hC : ∀ k ∈ cfgKeys, C k = false) : e.cfgs = d.cfgs :=
  cfgs_of_val fun k hk => val_of_beside h (hC k hk)

theorem cfgs_of_obj {d e : Device} (h : e.obj = d.obj) : e.cfgs = d.cfgs := cfgs_of_val fun k _ => val_of_obj h k

/-- The units below the configuration's: no object there is one of its. -/
theorem cfgs_apart {k : Nat} (h : k < 0x7020 * 256) : ∀ j ∈ cfgKeys, j ≠ k := by
  have hlow : ∀ j ∈ cfgKeys, 0x7020 * 256 ≤ j := by decide
  intro j hj
  have := hlow j hj
  omega

section
variable (d : Device) {k : Nat}

theorem Device.cfgs_setVal (v : Val) (h : ∀ j ∈ cfgKeys, j ≠ k) : (d.setVal k v).cfgs = d.cfgs := cfgs_of_val fun j hj => d.val_setVal_ne v (h j hj)

theorem Device.cfgs_setNum (v : Int) (h : k < 0x7020 * 256) : (d.setNum k v).cfgs = d.cfgs := d.cfgs_setVal _ (cfgs_apart h)
theorem Device.cfgs_setOct (v : Bytes) (h : k < 0x7020 * 256) : (d.setOct k v).cfgs = d.cfgs := d.cfgs_setVal _ (cfgs_apart h)
theorem Device.cfgs_bumpBy (w m : Nat) (h : k < 0x7020 * 256) : (d.bumpBy w k m).cfgs = d.cfgs := d.cfgs_setVal _ (cfgs_apart h)
theorem Device.cfgs_bump (h : k < 0x7020 * 256) : (d.bump k).cfgs = d.cfgs := d.cfgs_setVal _ (cfgs_apart h)
theorem Device.cfgs_bump64 (h : k < 0x7020 * 256) : (d.bump64 k).cfgs = d.cfgs := d.cfgs_setVal _ (cfgs_apart h)

/-- A discard of a ring's response counts in an object of the ring, whatever the ring's number. -/
theorem Device.cfgs_ringLinkDiscard (g : Nat) : (d.bump (K.ringLinkDiscard g)).cfgs = d.cfgs := by
  have hlow : ∀ j ∈ cfgKeys, j % 256 ≠ 0x20 := by decide
  refine d.cfgs_setVal _ fun j hj h => hlow j hj ?_
  rw [h]
  simp only [K.ringLinkDiscard]
  omega

theorem Device.cfgs_foldl {α : Type} {f : Device → α → Device} (l : List α) (h : ∀ e, ∀ a ∈ l, (f e a).cfgs = e.cfgs) : (l.foldl f d).cfgs = d.cfgs := by
  induction l generalizing d with
  | nil => rfl
  | cons a l ih => exact (ih _ fun e b hb => h e b (List.mem_cons_of_mem a hb)).trans (h d a List.mem_cons_self)

theorem Device.cfgs_report (code : Nat) (p : List Int) : (d.report code p).cfgs = d.cfgs := rfl
theorem Device.cfgs_setCh (n : Nat) (f : TdcChannel → TdcChannel) : (d.setCh n f).cfgs = d.cfgs := rfl
theorem Device.cfgs_setOut (n : Nat) (f : OutUnit → OutUnit) : (d.setOut n f).cfgs = d.cfgs := rfl
theorem Device.cfgs_setPort (n : Nat) (f : PortUnit → PortUnit) : (d.setPort n f).cfgs = d.cfgs := rfl
theorem Device.cfgs_setParl (f : Parl → Parl) : (d.setParl f).cfgs = d.cfgs := rfl
theorem Device.cfgs_setInst (n : Nat) (f : PtpInst → PtpInst) : (d.setInst n f).cfgs = d.cfgs := rfl
theorem Device.cfgs_setPtpPort (n p : Nat) (f : PtpPort → PtpPort) : (d.setPtpPort n p f).cfgs = d.cfgs := rfl
theorem Device.cfgs_setLedger (f : Ledger → Ledger) : (d.setLedger f).cfgs = d.cfgs := rfl
theorem Device.cfgs_setBatch (id : Nat) (f : Batch → Batch) : (d.setBatch id f).cfgs = d.cfgs := rfl
theorem Device.cfgs_setEgress (p : Nat) (f : Egress → Egress) : (d.setEgress p f).cfgs = d.cfgs := rfl
theorem Device.cfgs_setQueue (p q : Nat) (f : List Frame → List Frame) : (d.setQueue p q f).cfgs = d.cfgs := rfl
theorem Device.cfgs_reportOnce (key code : Nat) (p : List Int) : (d.reportOnce key code p).cfgs = d.cfgs := cfgs_of_obj (by simp)

theorem cfgs_ite {c : Prop} [Decidable c] {d a b : Device} (ha : c → a.cfgs = d.cfgs) (hb : ¬ c → b.cfgs = d.cfgs) : (if c then a else b).cfgs = d.cfgs := by
  split
  · exact ha ‹_›
  · exact hb ‹_›

/-! ## Channels, the UTC offset and domains (groups 0x02, 0x04, 0x05) -/

theorem Device.cfgs_useChanged (d0 : Device) : (d.useChanged d0).cfgs = d.cfgs :=
  d.cfgs_foldl _ fun e n _ => by rw [apply_ite Device.cfgs, Device.cfgs_setCh, ite_self]

theorem Device.cfgs_chApplied {n : Nat} (hn : n < 24) : (d.chApplied n).cfgs = d.cfgs := by
  have hrestart (x : Device) : (x.restartReg n).cfgs = x.cfgs := rfl
  have hmiss (x : Device) : (x.setMismatch n false).cfgs = x.cfgs := by
    rw [Device.setMismatch, apply_ite Device.cfgs, Device.cfgs_setCh, Device.cfgs_report, ite_self]
  have hset (x : Device) : (x.setNums [(K.regStatus n, 0), (K.regSeq n, 0)]).cfgs = x.cfgs :=
    ((x.setNum _ 0).cfgs_setNum 0 (by simp only [K.regSeq]; omega)).trans (x.cfgs_setNum 0 (by simp only [K.regStatus]; omega))
  rw [Device.chApplied, hrestart, hmiss, hset, Device.cfgs_setCh]

theorem Device.cfgs_syncUtc (cause : Int) : (d.syncUtc cause).cfgs = d.cfgs := by
  have hcheck (x : Device) : x.skyUtcCheck.cfgs = x.cfgs := by
    unfold Device.skyUtcCheck
    dsimp only
    split <;> rfl
  unfold Device.syncUtc
  dsimp only
  split
  · rfl
  · exact (hcheck _).trans rfl

theorem cfgs_of_besideOuts {d e : Device} (h : e.besideOuts = d.besideOuts) : e.cfgs = d.cfgs :=
  cfgs_of_val fun k hk => val_of_besideOuts h ((by decide : ∀ k ∈ cfgKeys, outKey k = false) k hk)

theorem Device.cfgs_domStep16 {n : Nat} (hn : n < 8) (a : Int) : (d.domStep16 n a).cfgs = d.cfgs := by
  have hsteps (x : Device) (code : Nat) (p : List Int) : ((x.bump (K.domStepCount n)).report code p).cfgs = x.cfgs :=
    x.cfgs_bump (by simp only [K.domStepCount]; omega)
  unfold Device.domStep16
  dsimp only
  exact (cfgs_of_besideOuts (Device.besideOuts_outsStepped _ _ _)).trans ((hsteps _ _ _).trans rfl)

theorem Device.cfgs_domOffsetChange {n : Nat} (hn : n < 8) (ns : Int) : (d.domOffsetChange n ns).cfgs = d.cfgs := by
  unfold Device.domOffsetChange Device.domStep
  split
  · rfl
  · split
    · exact d.cfgs_domStep16 hn _
    · rfl

/-! ## Outputs (group 0x06) -/

theorem Device.cfgs_outSwitch {n : Nat} (hn : n < 16) (old : OutRec) (was : Pin) : (d.outSwitch n old was).cfgs = d.cfgs := by
  have hpad (x : Device) (ps : Nat) : (x.padMoved n ps was).cfgs = x.cfgs := by
    rw [Device.padMoved, apply_ite Device.cfgs, cfgs_of_besideOuts (x.besideOuts_padEdge ..), ite_self]
  have hstatus (x : Device) (st : Nat) : (x.setOutStatus n st).cfgs = x.cfgs := cfgs_of_besideOuts (x.besideOuts_setOutStatus st hn)
  have hp : K.outPulses n < 0x7020 * 256 := by simp only [K.outPulses]; omega
  have hm : K.outMissed n < 0x7020 * 256 := by simp only [K.outMissed]; omega
  unfold Device.outSwitch
  dsimp only
  simp only [apply_ite Device.cfgs, hpad, hstatus, Device.cfgs_setOut, Device.cfgs_setNum _ _ hm, Device.cfgs_setNum _ _ hp, ite_self]

/-! ## Links (groups 0x08, 0x09) -/

section
variable {n : Nat} (hn : n < 8)
include hn

theorem Device.cfgs_setDomState (st : Nat) : (d.setDomState n st).cfgs = d.cfgs := by
  have h1 : K.domState n < 0x7020 * 256 := by simp only [K.domState]; omega
  have h2 : K.instFreeBound n < 0x7020 * 256 := by simp only [K.instFreeBound]; omega
  simp only [Device.setDomState, Device.refreshBound, apply_ite Device.cfgs, Device.cfgs_report, Device.cfgs_setNum _ _ h2, Device.cfgs_setNum _ _ h1,
    Device.cfgs_setInst, ite_self]

theorem Device.cfgs_movePort (p st : Nat) : (d.movePort n p st).cfgs = d.cfgs := by
  have h1 : ∀ k ∈ cfgKeys, roleObj n k = false := by
    have : ∀ n < 8, ∀ k ∈ cfgKeys, roleObj n k = false := by decide
    exact this n hn
  exact cfgs_of_val fun k hk => d.movePort_val st hn (h1 k hk)

theorem Device.cfgs_ptpInit (p : Nat) : (d.ptpInit n p).cfgs = d.cfgs := by
  simp only [Device.ptpInit, apply_ite Device.cfgs, Device.cfgs_movePort _ hn, Device.cfgs_setPtpPort, ite_self]

theorem Device.cfgs_showParent (a : Option Announce) : (d.showParent n a).cfgs = d.cfgs := by
  have h1 : K.instGmId n < 0x7020 * 256 := by simp only [K.instGmId]; omega
  have h2 : K.instGmClass n < 0x7020 * 256 := by simp only [K.instGmClass]; omega
  have h3 : K.instGmAccuracy n < 0x7020 * 256 := by simp only [K.instGmAccuracy]; omega
  cases a <;> simp only [Device.showParent, Device.cfgs_setNum _ _ h3, Device.cfgs_setNum _ _ h2, Device.cfgs_setOct _ _ h1]

theorem Device.cfgs_setParent (a : Option Announce) : (d.setParent n a).cfgs = d.cfgs := by
  have hjump (x : Device) : (x.parentJump (5 + n)).cfgs = x.cfgs := cfgs_of_beside (x.cand_parentJump (by omega)) (by decide)
  simp only [Device.setParent, apply_ite Device.cfgs, hjump, Device.cfgs_report, Device.cfgs_showParent _ hn, Device.cfgs_setInst, ite_self]

end

theorem Device.cfgs_ptpLink (p : Nat) : (d.ptpLink p).cfgs = d.cfgs :=
  d.cfgs_foldl _ fun x n hn => by
    have hn := List.mem_range.mp hn
    simp only [apply_ite Device.cfgs, Device.cfgs_ptpInit _ hn, Device.cfgs_movePort _ hn, Device.cfgs_setParent _ hn, ite_self]

theorem Device.cfgs_leafGone (id idx : Nat) : (d.leafGone id idx).cfgs = d.cfgs := by
  have hdone (x : Device) : (x.batchDone id).cfgs = x.cfgs := by
    unfold Device.batchDone
    split
    · rfl
    · simp only [apply_ite Device.cfgs, Device.cfgs_bumpBy _ _ _ (by decide : K.ledgerLeaves < 0x7020 * 256),
        Device.cfgs_bump64 _ (by decide : K.ledgerBatches < 0x7020 * 256), Device.cfgs_setLedger, ite_self]
  rw [Device.leafGone, hdone, Device.cfgs_setBatch]

theorem Device.cfgs_portFollow (d0 : Device) (p : Nat) : (d.portFollow d0 p).cfgs = d.cfgs := by
  have hparl (x : Device) : (x.parlLinkLost p).cfgs = x.cfgs := by
    rw [Device.parlLinkLost, Device.cfgs_setParl]
    exact x.cfgs_foldl _ fun y f _ => y.cfgs_ringLinkDiscard _
  have hledger (x : Device) : (x.ledgerLinkLost p).cfgs = x.cfgs := by
    rw [Device.ledgerLinkLost, Device.cfgs_setLedger]
    refine (Device.cfgs_foldl _ _ fun y l _ => ?_).trans (x.cfgs_foldl _ fun y b _ => y.cfgs_foldl _ fun z l _ => ?_)
    · rw [apply_ite Device.cfgs, Device.cfgs_ringLinkDiscard, ite_self]
    · rw [apply_ite Device.cfgs, Device.cfgs_leafGone, Device.cfgs_ringLinkDiscard, ite_self]
  rw [Device.portFollow, Device.cfgs_ptpLink, apply_ite Device.cfgs, hledger, hparl, ite_self]

theorem linkKey_cfg {p : Nat} (hp : p < 44) : ∀ k ∈ cfgKeys, linkKey p k = false := by
  have : ∀ p < 44, ∀ k ∈ cfgKeys, linkKey p k = false := by decide
  exact this p hp

theorem Device.cfgs_setLink {p : Nat} (hp : p < 44) (st cause : Nat) : (d.setLink p st cause).cfgs = d.cfgs :=
  cfgs_of_beside (d.link_setLink p st cause) (linkKey_cfg hp)

theorem Device.cfgs_dropPlace (p : Nat) : (d.dropPlace p).cfgs = d.cfgs := rfl

theorem Device.cfgs_applyPower {p : Nat} (hp : p < 44) : (d.applyPower p).cfgs = d.cfgs := by
  simp only [Device.applyPower, apply_ite Device.cfgs, Device.cfgs_dropPlace, Device.cfgs_setLink _ hp, ite_self]

theorem Device.cfgs_applyPortCfg {p : Nat} (hp : p < 44) (old : Nat → Val) : (d.applyPortCfg p old).cfgs = d.cfgs := by
  simp only [Device.applyPortCfg, apply_ite Device.cfgs, Device.cfgs_dropPlace, Device.cfgs_setLink _ hp, ite_self]

/-! ## Forwarding, gates, rings and instances (groups 0x0A to 0x0E) -/

/-- Is an object one of the configuration's. -/
def cfgKey (k : Nat) : Bool := k ∈ cfgKeys

theorem cfgs_of_watch {d e : Device} (h : e.watch cfgKey = d.watch cfgKey) : e.cfgs = d.cfgs := cfgs_of_val fun _ hk => val_of_watch h (decide_eq_true hk)

theorem Device.cfgs_cellCheck : d.cellCheck.cfgs = d.cfgs := by
  rw [Device.cellCheck]
  exact cfgs_of_watch (d.watch_cellCheckAt _)

theorem Device.cfgs_egressDrop (p kind q : Nat) {k : Nat} (h : k < 0x7020 * 256) : (d.egressDrop p kind q k).cfgs = d.cfgs := by
  rw [Device.egressDrop, Device.cfgs_reportOnce, Device.cfgs_bump _ h]

theorem Device.cfgs_fwdSwitched : d.fwdSwitched.cfgs = d.cfgs := by
  have hhall (x : Device) (h : Hall) : ({ x with hall := h } : Device).cfgs = x.cfgs := rfl
  have hfit (x : Device) : x.fdbFit.cfgs = x.cfgs := hhall x _
  rw [Device.fwdSwitched, Device.cfgs_cellCheck, hfit, cfgs_of_watch d.watch_freeEnded]

theorem Device.cfgs_gatesSwitched (old : Nat → Val) (slot : Nat) : (d.gatesSwitched old slot).cfgs = d.cfgs := by
  unfold Device.gatesSwitched
  dsimp only
  rw [Device.cfgs_cellCheck, Device.cfgs_report]
  refine d.cfgs_foldl _ fun x p hp => ?_
  have hp := List.mem_range.mp hp
  have hc : K.gateCount p < 0x7020 * 256 := by simp only [K.gateCount]; omega
  have hd : K.gateNeverDrop p < 0x7020 * 256 := by simp only [K.gateNeverDrop]; omega
  refine (Device.cfgs_foldl _ _ fun y q _ => y.cfgs_foldl _ fun z f _ => ?_).trans ((Device.cfgs_setEgress _ _ _).trans (x.cfgs_setNum _ hc))
  rw [Device.cfgs_egressDrop _ _ _ _ hd, Device.cfgs_setQueue]

theorem Device.cfgs_ringApplied (g : Nat) (old : Nat → Val) : (d.ringApplied g old).cfgs = d.cfgs := by
  have hring (x : Device) (f : Ring → Ring) : (x.setRing g f).cfgs = x.cfgs := rfl
  unfold Device.ringApplied
  dsimp only
  simp only [apply_ite Device.cfgs, Device.cfgs_setParl, hring, ite_self]

theorem Device.cfgs_noteLoss (d0 : Device) : (d.noteLoss d0).cfgs = d.cfgs := cfgs_of_obj (d.noteLoss_same d0).1

section
variable {n : Nat} (hn : n < 8)
include hn

theorem Device.cfgs_followSwitched (followed : Bool) : (d.followSwitched n followed).cfgs = d.cfgs := by
  have h1 : K.domState n < 0x7020 * 256 := by simp only [K.domState]; omega
  have h2 : K.instFreeBound n < 0x7020 * 256 := by simp only [K.instFreeBound]; omega
  have hbound (x : Device) : (x.refreshBound n).cfgs = x.cfgs := x.cfgs_setNum _ h2
  unfold Device.followSwitched
  split
  · rw [apply_ite Device.cfgs, Device.cfgs_setDomState _ hn, Device.cfgs_setNum _ _ h1, ite_self]
  · exact (hbound _).trans rfl

theorem Device.cfgs_ptpRestart : (d.ptpRestart n).cfgs = d.cfgs :=
  d.cfgs_foldl _ fun x p _ => by
    simp only [apply_ite Device.cfgs, Device.cfgs_ptpInit _ hn, Device.cfgs_movePort _ hn, ite_self]

theorem Device.cfgs_refreshEnable : (d.refreshEnable (5 + n)).cfgs = d.cfgs := cfgs_of_beside (d.cand_refreshEnable (by omega)) (by decide)

theorem Device.cfgs_instSwitched (old : Nat → Val) (changed : Bool) : (d.instSwitched n old changed).cfgs = d.cfgs := by
  have h1 : K.domMode n < 0x7020 * 256 := by simp only [K.domMode]; omega
  have h2 : K.instAscapable n < 0x7020 * 256 := by simp only [K.instAscapable]; omega
  have hfresh (y : Device) (f : PtpInst → PtpInst) :
      ((((y.setInst n f).showParent n none).setNum (K.instAscapable n) 0).ptpRestart n).cfgs = y.cfgs := by
    rw [Device.cfgs_ptpRestart _ hn, Device.cfgs_setNum _ _ h2, Device.cfgs_showParent _ hn, Device.cfgs_setInst]
  unfold Device.instSwitched
  extract_lets mode was d1 c gap e c' d2 fresh d3 d4
  have hd1 : d1.cfgs = d.cfgs := (Device.cfgs_followSwitched _ hn _).trans (d.cfgs_setNum _ h1)
  have he : e.cfgs = d1.cfgs := rfl
  have hd2 : d2.cfgs = d1.cfgs := cfgs_ite (fun _ => rfl) fun _ => cfgs_ite (fun _ => rfl) fun _ => cfgs_ite (fun _ => he) fun _ =>
    (e.cfgs_domStep16 hn _).trans he
  clear_value d2
  have hd4 : d4.cfgs = d2.cfgs := hfresh d2 _
  clear_value d4
  refine cfgs_ite (fun _ => hd2.trans hd1) fun _ => cfgs_ite (fun _ => ?_) fun _ => hd4.trans (hd2.trans hd1)
  exact (d4.cfgs_refreshEnable hn).trans (hd4.trans (hd2.trans hd1))

end

/-! ## A switch -/

theorem Device.cfgs_applyUnit {g : Nat} (hg : g ≠ 0) (u : Nat) : (d.applyUnit g u).cfgs = d.cfgs := by
  have hgrp : ∀ k ∈ cfgKeys, groupOf k = 0 := by decide
  refine (Device.cfgs_foldl { d with staged := _ } _ fun x e he => x.cfgs_setVal e.2 fun j hj h => hg ?_).trans rfl
  have hmine := of_decide_eq_true (Bool.and_eq_true_iff.mp (List.mem_filter.mp he).2).1
  rw [← hmine, ← h, hgrp j hj]

/-- The units of a group lie below its number of units. -/
def unitsIn (g : Nat) (us : List Nat) : Prop := ∀ u ∈ us, u < groupUnits g

/-- Is an object none of the configuration's. -/
def cfgFree (k : Nat) : Bool := k ∉ cfgKeys

theorem Device.cfgs_groupHook (d0 : Device) (slot : Nat) {g : Nat} {us : List Nat} (hus : unitsIn g us) : (d.groupHook d0 slot g us).cfgs = d.cfgs := by
  have hfold {f : Device → Nat → Device} (h : ∀ x, ∀ u < groupUnits g, (f x u).cfgs = x.cfgs) : (us.foldl f d).cfgs = d.cfgs :=
    d.cfgs_foldl us fun x u hu => h x u (hus u hu)
  have hkeep {e : Device} (h : e.cfgs = d.cfgs) : (if us = [] then d else e).cfgs = d.cfgs := by
    split
    · rfl
    · exact h
  unfold Device.groupHook
  refine cfgs_ite (fun h => ?_) fun _ => cfgs_ite (fun h => hkeep ?_) fun _ => cfgs_ite (fun h => hkeep ?_) fun _ => cfgs_ite (fun h => ?_) fun _ =>
    cfgs_ite (fun h => ?_) fun _ => cfgs_ite (fun h => ?_) fun _ => cfgs_ite (fun h => ?_) fun _ => cfgs_ite (fun h => ?_) fun _ =>
    cfgs_ite (fun h => hkeep ?_) fun _ => cfgs_ite (fun h => ?_) fun _ => cfgs_ite (fun h => hkeep ?_) fun _ => cfgs_ite (fun h => ?_) fun _ =>
    cfgs_ite (fun h => ?_) fun _ => rfl
  case _ =>
    refine hfold fun x u hu => ?_
    have hkey : ∀ n < 4, cfgFree (K.ckoStatus n) = true := by decide
    rw [h] at hu
    exact cfgs_of_beside (x.cko_ckoStart cfgFree u (hkey u hu)) (by decide)
  case _ => exact (Device.cfgs_useChanged _ d0).trans (cfgs_of_beside (d.therm_thermCommitted d0.val) (by decide))
  case _ => exact cfgs_of_beside d.sky_skyCommitted (by decide)
  case _ =>
    rw [h] at hfold
    exact hfold fun x u hu => x.cfgs_chApplied hu
  case _ =>
    refine (Device.cfgs_foldl _ _ fun x n hn => ?_).trans ((cfgs_of_besideOuts (Device.besideOuts_outsStepped _ _ _)).trans (d.cfgs_syncUtc 1))
    exact cfgs_ite (fun _ => rfl) fun _ => x.cfgs_domOffsetChange (List.mem_range.mp hn) _
  case _ =>
    rw [h] at hfold
    exact hfold fun x u hu => x.cfgs_outSwitch hu _ _
  case _ =>
    rw [h] at hfold
    exact hfold fun x u hu => (Device.cfgs_portFollow _ x u).trans (x.cfgs_applyPower hu)
  case _ =>
    rw [h] at hfold
    exact hfold fun x u hu => (Device.cfgs_portFollow _ x u).trans (x.cfgs_applyPortCfg hu _)
  case _ => exact d.cfgs_fwdSwitched
  case _ => exact d.cfgs_gatesSwitched _ _
  case _ => exact d.cfgs_foldl _ fun x r _ => x.cfgs_ringApplied r _
  case _ =>
    rw [h] at hfold
    exact hfold fun x u hu => x.cfgs_instSwitched hu _ _
  case _ => exact d.cfgs_noteLoss d0

theorem Device.cfgs_setUnitMask {g : Nat} (hg : g ≤ 32) (us : List Nat) : (d.setUnitMask g us).cfgs = d.cfgs :=
  d.cfgs_setNum _ (by simp only [K.commitUnitMask]; omega)

theorem Device.cfgs_queueStep (kind : Nat) (exit : Bool) : (d.queueStep kind exit).cfgs = d.cfgs :=
  cfgs_of_val fun k hk => (d.queued_queueStep kind exit).val k ((by decide : ∀ k ∈ cfgKeys, k ∉ queueKeys) k hk)

/-- R67: a switch leaves the configuration's objects. -/
theorem Device.cfgs_switchGroups {groups : Nat} (h0 : bit groups 0 = false) (slot : Nat) (stuck : List (Nat × Nat)) : (d.switchGroups groups slot stuck).1.cfgs = d.cfgs := by
  have hunits (x : Device) {g : Nat} (hg : g ≠ 0) (us : List Nat) : (us.foldl (fun d u => d.applyUnit g u) x).cfgs = x.cfgs :=
    x.cfgs_foldl us fun y u _ => y.cfgs_applyUnit hg u
  have hall (g : Nat) : unitsIn g (List.range (groupUnits g)) := fun u hu => List.mem_range.mp hu
  have hready (g : Nat) (p : Nat → Bool) : unitsIn g ((List.range (groupUnits g)).filter p) := fun u hu => List.mem_range.mp (List.mem_filter.mp hu).1
  have hcredits : (if bit groups 11 then d.bringAllCredits else d).cfgs = d.cfgs :=
    cfgs_ite (fun _ => d.cfgs_foldl _ fun x p _ => x.cfgs_setEgress p _) fun _ => rfl
  unfold Device.switchGroups
  extract_lets timed d0' d1 d2 per wait ready d3 bad
  have h1 : d1.cfgs = d.cfgs := by
    refine (Device.cfgs_foldl _ _ fun x g hg => hunits x ?_ _).trans hcredits
    have : ∀ g ∈ [7, 6, 11, 13, 5], g ≠ 0 := by decide
    exact this g (List.mem_filter.mp hg).1
  have h2 : d2.cfgs = d1.cfgs := by
    refine d1.cfgs_foldl _ fun x g hg => cfgs_ite (fun _ => ?_) fun _ => rfl
    have : ∀ g ∈ [13, 5, 7, 6, 11], g ≤ 32 := by decide
    exact (Device.cfgs_setUnitMask _ (this g hg) _).trans (x.cfgs_groupHook _ _ (hall g))
  have h3 : d3.cfgs = d2.cfgs := by
    refine d2.cfgs_foldl _ fun x g hg => ?_
    obtain ⟨h17, hbit⟩ := mem_groupsOf.mp (List.mem_filter.mp hg).1
    have hg0 : g ≠ 0 := fun h => Bool.false_ne_true ((h0 ▸ h ▸ rfl : false = bit groups g).trans hbit)
    exact (Device.cfgs_setUnitMask _ (by omega) _).trans ((Device.cfgs_groupHook _ _ _ (hready g _)).trans (hunits x hg0 _))
  exact h3.trans (h2.trans h1)

theorem Device.cfgs_commitEnds (groups slot status : Nat) {imm : Option ImmCommit} (h : ∀ c, imm = some c → c.opcode = 0) :
    (d.commitEnds groups slot status imm).cfgs = d.cfgs := by
  have hfree (x : Device) : (x.freeGroups groups).cfgs = x.cfgs := cfgs_of_val fun k _ => x.freeGroups_val groups k
  have hlast : K.commitLastStatus < 0x7020 * 256 := by decide
  have hslot (x : Device) (hs : slot < 16) : (x.endSlot slot status).cfgs = x.cfgs := by
    have h1 : K.slotState slot < 0x7020 * 256 := by simp only [K.slotState]; omega
    have h2 : K.slotResult slot < 0x7020 * 256 := by simp only [K.slotResult]; omega
    simp only [Device.endSlot, apply_ite Device.cfgs, Device.cfgs_setNum _ _ hlast, Device.cfgs_setNum _ _ h2, Device.cfgs_setNum _ _ h1, ite_self]
  have hmain : (((if slot < 16 then d.endSlot slot status else d.setNum K.commitLastStatus status).report 0x0F04
      [(groups % 2 ^ 32 : Nat), slot, status]).freeGroups groups).cfgs = d.cfgs := by
    rw [hfree, Device.cfgs_report]
    exact cfgs_ite (hslot d) fun _ => d.cfgs_setNum _ hlast
  unfold Device.commitEnds
  dsimp only
  cases imm with
  | none => exact hmain
  | some c =>
    dsimp only
    rw [if_pos (h c rfl)]
    exact hmain

/-- R551: what a load's switch leaves. -/
theorem Device.cfgs_runCommit {groups : Nat} (h0 : bit groups 0 = false) (slot since : Nat) {imm : Option ImmCommit} (stuck : List (Nat × Nat)) (h : ∀ c, imm = some c → c.opcode = 0) :
    (d.runCommit groups slot since imm stuck).cfgs = d.cfgs := by
  have hswitch := d.cfgs_switchGroups h0 slot stuck
  unfold Device.runCommit
  obtain ⟨⟨x, wait, bad⟩, hx⟩ : ∃ r, d.switchGroups groups slot stuck = r := ⟨_, rfl⟩
  rw [hx] at hswitch ⊢
  dsimp only at hswitch ⊢
  refine cfgs_ite (fun _ => (x.cfgs_commitEnds groups slot _ h).trans hswitch) fun _ => ?_
  have hwait : (wait.foldl (fun d p => if d.power.steps.any (fun s => s.kind = 16 + p) then d else d.queueStep (16 + p) false) x).cfgs = x.cfgs :=
    x.cfgs_foldl wait fun y p _ => cfgs_ite (fun _ => rfl) fun _ => y.cfgs_queueStep _ _
  exact Eq.trans rfl (hwait.trans hswitch)

end

end Sys2Proof.Machine
end

section
/-! Chapter 21: what CONFIG_LOAD loads (R551, R552). -/

namespace Sys2Proof.Machine

section
variable (d : Device)

theorem Device.configLoad_idle (stuck : List (Nat × Nat)) (h : d.power.held ≠ 0 ∨ d.power.imageAt = none ∨ d.clock.mtRun = false ∨ d.power.configDone = true) :
    d.configLoad stuck = d := by
  refine if_pos ?_
  rcases h with h | h | h | h <;> simp [Device.up, h]

theorem Device.startServing_serving : d.startServing.power.serving = true := rfl

/-- The state of the configuration store that a load shows as it begins to serve, with every setting as it was. -/
theorem Device.servesWith (x : Device) (v : Int) (hx : ∀ k, groupOf k ≠ 0 → x.val k = d.val k) : let t := (x.setNum K.cfgState v).startServing
    t.clock = x.clock ∧ t.nat K.cfgState = v.toNat ∧ t.power.serving = true ∧ t.power.configDone = true ∧ ∀ k, groupOf k ≠ 0 → t.val k = d.val k := by
  have hw := Device.startServing_keepsSafe (x.setNum K.cfgState v)
  refine ⟨(clock_of_watch hw).trans (Device.setNum_clock ..), (nat_of_watch hw (by decide)).trans (x.nat_setNum_self _ _), Device.startServing_serving _,
    Device.startServing_configDone _, fun k hk => ?_⟩
  have hne : k ≠ K.cfgState := fun h => hk (h ▸ by decide)
  exact (val_of_watch hw (by simp [safeKey, hk])).trans ((x.val_setVal_ne _ hne).trans (hx k hk))

/-- A group's setting is none of the objects that a part shows. -/
theorem grouped_ne {k j : Nat} (hk : groupOf k ≠ 0) (hj : groupOf j = 0) : k ≠ j := fun h => hk (h ▸ hj)

/-- The commit of every group, as a load asks for it. -/
def loadAll : CommitReq := { groups := 0x1FFFE, mode := 0, slot := 0, rsv := 0, inst := 0, nsBad := false }

/-- The part with the values of copy c live or staged. -/
def Device.loadStaged (d : Device) (c : CfgCopy) : Device :=
  (c.vals.filter (fun e => groupOf e.1 ≠ 0)).foldl (fun d e => d.setStaged e.1 e.2)
    ((c.vals.filter (fun e => groupOf e.1 = 0)).foldl (fun d e => d.setVal e.1 e.2) d)

/-- The load of a refused copy. -/
def Device.loadRefused (d : Device) (st obj : Nat) : Device :=
  let x := if st = St.conflict then d.setNum K.commitConflictObj obj else d
  x.report 0x0F05 [0x1FFFE, st, x.num K.commitConflictObj]

theorem num_of_cfgs {d e : Device} (h : e.cfgs = d.cfgs) : e.num K.cfgState = d.num K.cfgState ∧ e.num K.cfgGen = d.num K.cfgGen :=
  ⟨congrArg (fun v => v.1.int) h, congrArg (fun v => v.2.int) h⟩

/-- The load of a copy that is switched. -/
def Device.loadSwitched (d : Device) (c : CfgCopy) (since : Nat) (stuck : List (Nat × Nat)) : Device :=
  (d.setNums [(K.cfgState, 2), (K.cfgGen, c.gen), (K.fbTarget, targetOf (d.nat K.latencyTol))]).runCommit 0x1FFFE 0xFF since
    (some { groups := 0x1FFFE, since := since, src := { transport := 0xFE, addr := [], port := 0 }, xl := false, opcode := 0, txn := 0 }) stuck

section
variable (stuck : List (Nat × Nat)) (hup : d.power.held = 0) (himg : d.power.imageAt ≠ none) (hmt : d.clock.mtRun = true)
  (hcfg : d.power.configDone = false) (hsafe : d.num K.fbSafeStart ≠ 1)
include hup himg hmt hcfg hsafe

theorem Device.configLoad_none (hc : d.newestCfg = none) :
    d.configLoad stuck = (d.setNum K.cfgState (if d.study.cfg.all (·.isNone) then 3 else 4)).startServing := by
  simp [Device.configLoad, Device.up, hup, himg, hmt, hcfg, hsafe, hc]

theorem Device.configLoad_some {c : CfgCopy} (hc : d.newestCfg = some c) :
    (∃ st obj, d.configLoad stuck = ((d.loadRefused st obj).setNum K.cfgState 5).startServing) ∨
    d.configLoad stuck = (((d.runTo (d.clock.ticks + msTicks)).commitEnds 0x1FFFE 0xFF St.state none).setNum K.cfgState 5).startServing ∨
    d.configLoad stuck = ((d.loadStaged c).loadSwitched c d.clock.ticks stuck).startServing := by
  have hidle : ¬ (!d.up || d.power.imageAt.isNone || !d.clock.mtRun || d.power.configDone) = true := by simp [Device.up, hup, himg, hmt, hcfg]
  unfold Device.configLoad
  rw [if_neg hidle, if_neg hsafe, hc]
  dsimp only
  cases hr : (d.loadStaged c).commitRefused loadAll [] with
  | some r =>
    left
    refine ⟨r.1, r.2, ?_⟩
    have : (((c.vals.filter (fun e => groupOf e.1 ≠ 0)).foldl (fun d e => d.setStaged e.1 e.2)
        ((c.vals.filter (fun e => groupOf e.1 = 0)).foldl (fun d e => d.setVal e.1 e.2) d)).commitRefused loadAll []) = some r := hr
    unfold loadAll at this
    rw [this]
    rfl
  | none =>
    right
    have : (((c.vals.filter (fun e => groupOf e.1 ≠ 0)).foldl (fun d e => d.setStaged e.1 e.2)
        ((c.vals.filter (fun e => groupOf e.1 = 0)).foldl (fun d e => d.setVal e.1 e.2) d)).commitRefused loadAll []) = none := hr
    unfold loadAll at this
    rw [this]
    dsimp only
    by_cases hs : timedStuck 0x1FFFE stuck = true
    · left
      rw [if_pos hs]
    · right
      rw [if_neg hs]
      rfl

/-- CONFIG_LOAD with no good copy. -/
theorem Device.configLoad_empty (hc : d.newestCfg = none) : let t := d.configLoad stuck
    t.clock = d.clock ∧ t.nat K.cfgState = (if d.study.cfg.all (·.isNone) then 3 else 4) ∧ t.power.serving = true ∧ t.power.configDone = true ∧
      ∀ k, groupOf k ≠ 0 → t.val k = d.val k := by
  rw [d.configLoad_none stuck hup himg hmt hcfg hsafe hc]
  obtain ⟨h1, h2, h3, h4, h5⟩ := d.servesWith d (if d.study.cfg.all (·.isNone) then 3 else 4) fun _ _ => rfl
  refine ⟨h1, h2.trans ?_, h3, h4, h5⟩
  split <;> rfl

/-- CONFIG_LOAD with a good copy. -/
theorem Device.configLoad_obeys {c : CfgCopy} (hc : d.newestCfg = some c) : let t := d.configLoad stuck
    t.power.serving = true ∧ t.power.configDone = true ∧ (t.nat K.cfgState = 5 ∨ (t.nat K.cfgState = 2 ∧ t.nat K.cfgGen = c.gen)) ∧
      (t.nat K.cfgState = 5 → ∀ k, groupOf k ≠ 0 → t.val k = d.val k) := by
  rcases d.configLoad_some stuck hup himg hmt hcfg hsafe hc with ⟨st, obj, heq⟩ | heq | heq
  · have hx (k : Nat) (hk : groupOf k ≠ 0) : (d.loadRefused st obj).val k = d.val k := by
      have hset : (d.setNum K.commitConflictObj obj).val k = d.val k := d.val_setVal_ne _ (grouped_ne hk (by decide))
      unfold Device.loadRefused
      dsimp only
      rw [Device.report_val]
      split
      · exact hset
      · rfl
    obtain ⟨-, h2, h3, h4, h5⟩ := d.servesWith _ 5 hx
    rw [heq]
    exact ⟨h3, h4, .inl h2, fun _ => h5⟩
  · have hx (k : Nat) (hk : groupOf k ≠ 0) : ((d.runTo (d.clock.ticks + msTicks)).commitEnds 0x1FFFE 0xFF St.state none).val k = d.val k := by
      have hobj : (d.runTo (d.clock.ticks + msTicks)).obj = d.obj := Device.runTo_obj _ _
      generalize d.runTo (d.clock.ticks + msTicks) = r at hobj ⊢
      have hset : (r.setNum K.commitLastStatus St.state).val k = r.val k := r.val_setVal_ne _ (grouped_ne hk (by decide))
      exact (Device.freeGroups_val _ _ k).trans ((Device.report_val _ _ _ _).trans (hset.trans (val_of_obj hobj k)))
    obtain ⟨-, h2, h3, h4, h5⟩ := d.servesWith _ 5 hx
    rw [heq]
    exact ⟨h3, h4, .inl h2, fun _ => h5⟩
  · rw [heq]
    generalize d.loadStaged c = x
    have hrun : (x.loadSwitched c d.clock.ticks stuck).cfgs = (x.setNums [(K.cfgState, 2), (K.cfgGen, c.gen), (K.fbTarget, targetOf (x.nat K.latencyTol))]).cfgs :=
      Device.cfgs_runCommit _ (by decide) 0xFF _ stuck (by rintro c ⟨⟩; rfl)
    generalize x.loadSwitched c d.clock.ticks stuck = r at hrun ⊢
    have hserve : r.startServing.cfgs = r.cfgs := cfgs_of_beside (r.lock_startServing (keep := cfgKeys) ⟨by decide, by decide, by decide⟩) (by decide)
    have hall := hserve.trans hrun
    obtain ⟨hs, hg⟩ := num_of_cfgs hall
    have hnodup : ([(K.cfgState, 2), (K.cfgGen, (c.gen : Int)), (K.fbTarget, (targetOf (x.nat K.latencyTol) : Int))].map Prod.fst).Nodup := by
      show [K.cfgState, K.cfgGen, K.fbTarget].Nodup
      decide
    have hstate : r.startServing.nat K.cfgState = 2 := congrArg Int.toNat (hs.trans (x.num_setNums_of_mem hnodup List.mem_cons_self))
    have hgen : r.startServing.nat K.cfgGen = c.gen :=
      (congrArg Int.toNat (hg.trans (x.num_setNums_of_mem hnodup (List.mem_cons_of_mem _ List.mem_cons_self)))).trans (Int.toNat_natCast _)
    exact ⟨Device.startServing_serving _, Device.startServing_configDone _, .inr ⟨hstate, hgen⟩, fun h => by omega⟩

end
end

end Sys2Proof.Machine
end

section
/-! Chapters 17, 20, 21: the settled obligation about resets, starts, the Cellar and the store. -/

namespace Sys2Proof.Machine

/-! ## The commands in the machine's frame -/

section
variable (s : State)

/-- RST_N_ASSERT, TEST_EN_HIGH, OVERTEMP_RESET in service or Deep Off. -/
theorem State.assertReset_runs (h : s.dev.power.held = 0 ∨ 4 ≤ s.dev.power.held) :
    let two := if s.dev.power.held = 0 ∨ s.dev.power.cause = 0 then 2 else min 2 s.dev.power.cause
    (∃ t, exec .rstNAssert s = .next t ∧ t.pending = s.pending ∧ s.dev.WarmReset t.dev two) ∧
    (∃ t, exec .testEnHigh s = .next t ∧ t.pending = s.pending ∧ s.dev.WarmReset t.dev two) ∧
    (∃ t, exec .overtempReset s = .next t ∧ t.pending = s.pending ∧ s.dev.WarmReset t.dev 1) := by
  have h1 := s.dev.assertReset_obeys 1 h
  have hone : (if s.dev.power.held = 0 ∨ s.dev.power.cause = 0 then 1 else min 1 s.dev.power.cause) = 1 := by
    split
    · rfl
    · rename_i hn
      have := (not_or.mp hn).2
      omega
  rw [hone] at h1
  exact ⟨⟨_, exec_rstNAssert s, rfl, s.dev.assertReset_obeys 2 h⟩, ⟨_, exec_testEnHigh s, rfl, s.dev.assertReset_obeys 2 h⟩,
    ⟨_, exec_overtempReset s, rfl, h1⟩⟩

theorem State.deviceWatchdog_runs : let p := s.dev.power
    let delay := s.dev.nat K.fbDevWdtDelay * sTicks
    let resetAt (at_ : Nat) : Prop := ∃ t, exec .deviceWatchdog s = .next t ∧ t.pending = s.pending ∧ (s.dev.runTo at_).WarmReset t.dev 3
    (p.held ≠ 0 ∨ s.dev.keyhole.recovery = true ∨ (s.dev.study.haltedAt = [none, none, none, none] ∧ (p.configDone = true ∨ p.imageAt = none)) →
      exec .deviceWatchdog s = .next s) ∧
    (p.held = 0 → s.dev.keyhole.recovery = false →
      (∀ c, p.configDone = true → s.dev.study.haltedAt = [none, none, none, some c] → resetAt (c + delay)) ∧
      (∀ a b, p.configDone = true → s.dev.study.haltedAt = [some a, some b, none, none] → resetAt (max a b + delay)) ∧
      (∀ i, p.configDone = false → p.imageAt = some i → s.dev.study.haltedAt = [none, none, none, none] → resetAt (i + 2 * sTicks))) := by
  refine ⟨fun h => ?_, fun h1 h2 => ⟨fun c hc hh => ?_, fun a b hc hh => ?_, fun i hc hi hh => ?_⟩⟩
  · rw [exec_deviceWatchdog, State.on, s.dev.watchdog_idle (h.imp id fun h => h.imp id fun h => s.dev.watchdogDue_none h.1 h.2)]
  · exact ⟨_, exec_deviceWatchdog s, rfl, s.dev.watchdog_resets h1 h2 (s.dev.watchdogDue_three hh hc)⟩
  · exact ⟨_, exec_deviceWatchdog s, rfl, s.dev.watchdog_resets h1 h2 (s.dev.watchdogDue_two hh hc)⟩
  · exact ⟨_, exec_deviceWatchdog s, rfl, s.dev.watchdog_resets h1 h2 (s.dev.watchdogDue_late hh hc hi)⟩

/-- CELLAR_MINUTE, XTAL_OFFSET_MEASURE, CELLAR_SNAPSHOT and CRYSTAL_STOPPED. -/
theorem State.cellar_runs : (s.dev.up = false → exec .cellarMinute s = .next s ∧ exec .xtalOffsetMeasure s = .next s) ∧
    (s.dev.up = true → s.dev.nat K.cellarOpMinutes < 2 ^ 32 - 1 →
      ∃ t, exec .cellarMinute s = .next t ∧ t.pending = s.pending ∧ t.dev.clock = (s.dev.runTo (s.dev.power.minuteAt + 60 * sTicks)).clock
        ∧ t.dev.nat K.cellarOpMinutes = s.dev.nat K.cellarOpMinutes + 1 ∧ t.dev.power.minuteAt = s.dev.power.minuteAt + 60 * sTicks
        ∧ ∀ k, k ≠ K.cellarOpMinutes → t.dev.val k = s.dev.val k) ∧
    (s.dev.up = true → s.dev.asleep = false → s.dev.nat K.hearthLock = 1 →
      ∃ t, exec .xtalOffsetMeasure s = .next t ∧ t.pending = s.pending
        ∧ t.dev.clock = (s.dev.runTo (s.dev.power.xtalAt + 100 * sTicks)).clock ∧ t.dev.num K.cellarXtalPpb = Config.xtalPpb
        ∧ ∀ k, k ≠ K.cellarXtalPpb → t.dev.val k = s.dev.val k) ∧
    (s.dev.clock.mtRun = false ∨ (s.dev.nat K.mtState ≠ 3 ∧ s.dev.nat K.mtState ≠ 4) → exec .cellarSnapshot s = .next s) ∧
    (s.dev.clock.mtRun = true → (s.dev.nat K.mtState = 3 ∨ s.dev.nat K.mtState = 4) →
      ∃ t, exec .cellarSnapshot s = .next t ∧ t.pending = s.pending ∧ t.dev.cellar.snapHeld = true ∧ t.dev.cellar.tamperSince = false
        ∧ t.dev.cellar.snapCount = t.dev.cellarCount ∧ t.dev.cellar.snapPpb = s.dev.num K.cellarXtalPpb
        ∧ t.dev.nat K.cellarSnapTime = t.dev.mt16
        ∧ (s.dev.nat K.mtState = 3 → t.dev.num K.cellarSnapUnc = s.dev.num K.thermLockThresh)
        ∧ ∀ k, k ≠ K.cellarSnapTime → k ≠ K.cellarSnapUnc → t.dev.val k = s.dev.val k) ∧
    (bit (s.dev.nat K.khTamper) 3 = true → exec .crystalStopped s = .next s) ∧
    (bit (s.dev.nat K.khTamper) 3 = false → s.dev.asleep = false → s.dev.power.entry = none →
      ∃ t, exec .crystalStopped s = .next t ∧ t.pending = s.pending ∧ t.dev.clock = s.dev.clock ∧ bit (t.dev.nat K.khTamper) 3 = true
        ∧ t.dev.cellar = { s.dev.cellar with tamperSince := true }
        ∧ (newReports s.dev t.dev).head? = some (0x0C0B, [t.dev.num K.khTamper, 3])) := by
  refine ⟨fun h => ⟨?_, ?_⟩, fun h hn => ?_, fun h ha hl => ?_, fun h => ?_, fun h hs => ?_, fun h => ?_, fun h ha he => ?_⟩
  · rw [exec_cellarMinute, State.on, s.dev.cellarMinute_idle h]
  · rw [exec_xtalOffsetMeasure, State.on, s.dev.xtalMeasure_idle h]
  · exact ⟨_, exec_cellarMinute s, rfl, s.dev.cellarMinute_obeys h hn⟩
  · exact ⟨_, exec_xtalOffsetMeasure s, rfl, s.dev.xtalMeasure_obeys h ha hl⟩
  · rw [exec_cellarSnapshot, State.on, s.dev.cellarSnapshot_idle h]
  · exact ⟨_, exec_cellarSnapshot s, rfl, s.dev.cellarSnapshot_obeys h hs⟩
  · rw [exec_crystalStopped, State.on, s.dev.crystalStopped_idle h]
  · exact ⟨_, exec_crystalStopped s, rfl, s.dev.crystalStopped_obeys h ha he⟩

/-- CFG_SAVE and CFG_ERASE. -/
theorem State.cfgWrites_run (h : HapHdr) :
    let d := s.asWritten h K.cfgSave [1]
    let e := s.asWritten h K.cfgErase [1]
    (s.writes h K.cfgSave [1] → d.lock = 3 →
      (d.study.saving ≠ none ∨ d.nat K.khLifecycle ≠ 1 → exec (.cfgSave h [1]) s = .next (s.wrote h K.cfgSave [1] (d.answer 0x100A))) ∧
      (d.study.saving = none → d.nat K.khLifecycle = 1 → exec (.cfgSave h [1]) s = .next (s.wrote h K.cfgSave [1]
        ((d.setNum K.cfgState 1).setStudy (fun x => { x with saving := some d.clock.ticks })).done))) ∧
    (s.writes h K.cfgErase [1] → e.lock = 3 → exec (.cfgErase h [1]) s = .next (s.wrote h K.cfgErase [1]
      (e.setStudy (fun x => { x with cfg := [none, none] })).done)) := by
  refine ⟨fun hw hl => ⟨fun hno => ?_, fun hs hc => ?_⟩, fun hw hl => s.cfgErase_written h hw hl⟩
  · rw [s.cfgSave_written h hw hl]
    generalize s.asWritten h K.cfgSave [1] = d at *
    have hrefused : d.writeCfgSave = (St.state, d) := by
      refine if_pos ?_
      simpa [Option.isSome_iff_ne_none] using hno
    rw [hrefused]
    rfl
  · rw [s.cfgSave_written h hw hl]
    generalize s.asWritten h K.cfgSave [1] = d at *
    have hstarts : d.writeCfgSave = (St.ok, (d.setNum K.cfgState 1).setStudy (fun x => { x with saving := some d.clock.ticks })) := by
      refine if_neg ?_
      simp [hs, hc]
    rw [hstarts]
    rfl

/-- CFG_SAVE_COMPLETE. -/
theorem State.cfgSaved_runs (wait : Nat) : (s.dev.study.saving = none ∨ s.dev.coreRuns 3 = false → exec (.cfgSaveComplete wait) s = .next s) ∧
    (∀ t0, s.dev.study.saving = some t0 → s.dev.coreRuns 3 = true → s.dev.study.cfg.length = 2 →
      ∃ (t : State) (i : Nat) (c : CfgCopy), exec (.cfgSaveComplete wait) s = .next t ∧ t.pending = s.pending ∧ i < 2
        ∧ t.dev.clock = (s.dev.runTo (min (s.dev.clock.ticks + wait) (t0 + 2 * sTicks))).clock
        ∧ t.dev.study.saving = none ∧ t.dev.study.cfg = s.dev.study.cfg.set i (some c) ∧ c.good = true
        ∧ c.vals = s.dev.obj.filter (fun x => savedKey x.1) ∧ t.dev.nat K.cfgGen = c.gen ∧ t.dev.nat K.cfgState = 0
        ∧ (∀ x : CfgCopy, some x ∈ s.dev.study.cfg → x.gen < c.gen) ∧ t.dev.nat K.cfgSavedAt = t.dev.mt16
        ∧ (∀ x y : CfgCopy, s.dev.study.cfg = [some x, some y] → x.good = true → y.good = true → x.gen ≠ y.gen →
            (i = 0 ↔ x.gen < y.gen))) := by
  refine ⟨fun h => ?_, fun t0 hs hc _ => ?_⟩
  · rw [exec_cfgSaveComplete, State.on, s.dev.cfgSaved_idle wait h]
  · obtain ⟨h1, h2, h3, h4, h5, h6⟩ := s.dev.cfgSaved_obeys wait hs hc
    exact ⟨_, olderCopy s.dev.study.cfg, s.dev.savedCopy, exec_cfgSaveComplete wait s, rfl, olderCopy_lt _, h1, h2, h3, rfl, rfl, h4, h5,
      fun x hx => gen_lt_nextGen hx, h6, fun x y hxy hx hy _ => hxy ▸ olderCopy_of_good hx hy⟩

end

/-- Settles O60: Table 21-2 clause by clause; the switch of a load is shown to leave CFG_STATE and CFG_GEN alone. -/
theorem resetsStartsCellarAndStore : Obligations.ResetsStartsCellarAndStore := by
  refine ⟨fun s => ⟨s.assertReset_runs, fun torn h => ⟨_, exec_supplyReset false torn s, rfl, s.dev.supplyReset_warm torn h⟩, fun torn h => ?deep,
      fun torn => ⟨_, exec_supplyReset true torn s, rfl, s.dev.supplyReset_cold torn⟩⟩,
    State.deviceWatchdog_runs, fun s straps entropy puf found vendor => ⟨fun h shipped => ?norelease, fun hv hlo hhi hg hp hr himg _ hrep hn => ?release⟩,
    fun s => ⟨fun h => ?locked, fun hup h1 h4 h0 hf hf' => ?lock, fun hup h2 h4 => ?relock⟩, State.cellar_runs, State.cfgWrites_run, State.cfgSaved_runs,
    fun s stuck => ⟨fun h => ?noload, fun hup himg hmt hcfg hsafe => ⟨fun hc => ?nocopy, fun c hc => ?copy⟩⟩⟩
  case deep => rw [exec_supplyReset, State.on, s.dev.supplyReset_deep torn h, State.on]
  case norelease => rw [exec_resetRelease, State.on, s.dev.release_idle entropy puf found shipped vendor h]
  case release => exact ⟨_, exec_resetRelease .., rfl, s.dev.release_obeys entropy puf found vendor hv hlo hhi hg hp hr himg hrep hn⟩
  case locked => rw [exec_rootLock, State.on, s.dev.rootLock_idle h]
  case lock => exact ⟨_, exec_rootLock s, rfl, s.dev.rootLock_starts hup h1 h4 h0 hf hf'⟩
  case relock => exact ⟨_, exec_rootLock s, rfl, s.dev.rootLock_again hup h2 h4⟩
  case noload => rw [exec_configLoad_dev, State.on, s.dev.configLoad_idle stuck h]
  case nocopy => exact ⟨_, exec_configLoad_dev stuck s, rfl, s.dev.configLoad_empty stuck hup himg hmt hcfg hsafe hc⟩
  case copy => exact ⟨_, exec_configLoad_dev stuck s, rfl, s.dev.configLoad_obeys stuck hup himg hmt hcfg hsafe hc⟩

end Sys2Proof.Machine
end

section
/-! Chapters 2 and 23: what an operation keeps of the form of the stores, said once for each of the model's operations. -/

namespace Sys2Proof.Machine

/-! ## Stores -/

theorem Store.Canonical.rising {st : Store} (h : st.Canonical) : st.Rising := by
  induction st with
  | nil => trivial
  | cons e t ih =>
    obtain ⟨-, hlt, ht⟩ := h
    exact ⟨hlt, ih ht⟩

/-- A store whose keys rise is canonical where no key is listed at its default. -/
theorem Store.canonical_iff {st : Store} : st.Canonical ↔ st.Rising ∧ ∀ e ∈ st, e.2 ≠ dictDefault e.1 := by
  induction st with
  | nil => exact ⟨fun _ => ⟨trivial, fun e he => absurd he List.not_mem_nil⟩, fun _ => trivial⟩
  | cons e t ih =>
    constructor
    · rintro ⟨hv, hlt, ht⟩
      obtain ⟨hr, hall⟩ := ih.mp ht
      exact ⟨⟨hlt, hr⟩, fun x hx => (List.mem_cons.mp hx).elim (fun h => h ▸ hv) (hall x)⟩
    · rintro ⟨⟨hlt, hr⟩, hall⟩
      exact ⟨hall e List.mem_cons_self, hlt, ih.mpr ⟨hr, fun x hx => hall x (List.mem_cons_of_mem _ hx)⟩⟩

theorem Store.mem_put {k : Nat} {v : Val} {st : Store} {e : Nat × Val} (h : e ∈ st.put k v) : e = (k, v) ∨ e ∈ st := by
  induction st with
  | nil => exact .inl (List.mem_singleton.mp h)
  | cons x t ih =>
    unfold Store.put at h
    split at h
    · exact (List.mem_cons.mp h).imp id id
    · split at h
      · exact (List.mem_cons.mp h).imp id (List.mem_cons_of_mem _)
      · rcases List.mem_cons.mp h with h | h
        · exact .inr (h ▸ List.mem_cons_self)
        · exact (ih h).imp id (List.mem_cons_of_mem _)

theorem Store.Rising.put {st : Store} (h : st.Rising) (k : Nat) (v : Val) : Store.Rising (st.put k v) := by
  induction st with
  | nil => exact ⟨fun e he => absurd he List.not_mem_nil, trivial⟩
  | cons x t ih =>
    obtain ⟨hlt, ht⟩ := h
    unfold Store.put
    split
    next hk => exact ⟨fun e he => (List.mem_cons.mp he).elim (fun h => h ▸ hk) fun h => hk.trans (hlt e h), hlt, ht⟩
    next hk =>
      split
      next heq => exact ⟨fun e he => heq ▸ hlt e he, ht⟩
      next hne =>
        refine ⟨fun e he => (Store.mem_put he).elim (fun h => ?_) (hlt e), ih ht⟩
        rw [h]
        omega

theorem Store.Rising.set {st : Store} (h : st.Rising) (base : Val) (k : Nat) (v : Val) : Store.Rising (st.set base k v) := by
  unfold Store.set
  split
  · exact h.filter _
  · exact h.put k v

theorem Store.Canonical.filter {st : Store} (h : st.Canonical) (p : Nat × Val → Bool) : Store.Canonical (st.filter p) := by
  obtain ⟨hr, hall⟩ := Store.canonical_iff.mp h
  exact Store.canonical_iff.mpr ⟨hr.filter p, fun e he => hall e (List.mem_filter.mp he).1⟩

/-- An object set to a value is listed at it unless that is its default. -/
theorem Store.Canonical.set {st : Store} (h : st.Canonical) (k : Nat) (v : Val) : Store.Canonical (st.set (dictDefault k) k v) := by
  unfold Store.set
  split
  · exact h.filter _
  · rename_i hv
    obtain ⟨hr, hall⟩ := Store.canonical_iff.mp h
    refine Store.canonical_iff.mpr ⟨hr.put k v, fun e he => (Store.mem_put he).elim (fun h => ?_) (hall e)⟩
    rw [h]
    exact hv

/-! ## Writes of the stores -/

section
variable {d : Device}

theorem Device.Stored.setVal {k v} (h : d.Stored) : (d.setVal k v).Stored := ⟨h.1.set k v, h.2⟩

theorem Device.Stored.setStaged {k v} (h : d.Stored) : (d.setStaged k v).Stored := ⟨h.1, h.2.set _ k v⟩

/-- What touches neither store keeps both. -/
theorem Device.Stored.frame {lost draws clock foyer commit attic cellar therm hold tdc sky ports hall parl ptp ledger strong keyhole study power
    models outs outbox} (h : d.Stored) :
    Device.Stored ⟨d.obj, d.staged, lost, draws, clock, foyer, commit, attic, cellar, therm, hold, tdc, sky, ports, hall, parl, ptp, ledger,
      strong, keyhole, study, power, models, outs, outbox⟩ := h

theorem Device.Stored.revertGroup {g} (h : d.Stored) : (d.revertGroup g).Stored := ⟨h.1, h.2.filter _⟩

/-! ## How operations are put together -/

theorem Device.Stored.ite {c : Prop} {inst : Decidable c} {a b : Device} (ha : a.Stored) (hb : b.Stored) : (if c then a else b).Stored := by
  split
  · exact ha
  · exact hb

theorem Device.Stored.ite_snd {α : Type} {c : Prop} {inst : Decidable c} {a b : α × Device} (ha : a.2.Stored) (hb : b.2.Stored) :
    (if c then a else b).2.Stored := by
  split
  · exact ha
  · exact hb

theorem Device.Stored.ite_fst {α : Type} {c : Prop} {inst : Decidable c} {a b : Device × α} (ha : a.1.Stored) (hb : b.1.Stored) :
    (if c then a else b).1.Stored := by
  split
  · exact ha
  · exact hb

theorem Device.Stored.ite_trd {α β : Type} {c : Prop} {inst : Decidable c} {a b : α × β × Device} (ha : a.2.2.Stored) (hb : b.2.2.Stored) :
    (if c then a else b).2.2.Stored := by
  split
  · exact ha
  · exact hb

theorem Device.Stored.foldl {α : Type} {f : Device → α → Device} {l : List α} (h : d.Stored) (hf : ∀ e a, e.Stored → (f e a).Stored) :
    (l.foldl f d).Stored := by
  induction l generalizing d with
  | nil => exact h
  | cons a l ih => exact ih (hf d a h)

theorem Device.Stored.foldl_fst {α β : Type} {f : Device × β → α → Device × β} {l : List α} {p : Device × β} (h : p.1.Stored)
    (hf : ∀ e a, e.1.Stored → (f e a).1.Stored) : (l.foldl f p).1.Stored := by
  induction l generalizing p with
  | nil => exact h
  | cons a l ih => exact ih (hf p a h)

theorem Device.Stored.of_snd {α : Type} {a : α} {p : α × Device} (h : p.2.Stored) (he : p = (a, d)) : d.Stored := by
  rw [he] at h
  exact h

/-- A reply that keeps the form of the stores, as does what follows of its leaving. -/
def Reply.Stored (r : Reply) : Prop := r.dev.Stored ∧ ∀ d, d.Stored → (r.after d).Stored

/-- So does the reply that an object's write gives, if it gives one. -/
def Replies (o : Option Reply) : Prop := ∀ r, o = some r → r.Stored

theorem Reply.Stored.dev {r : Reply} (h : r.Stored) : r.dev.Stored := h.1
theorem Device.Stored.of_reply {r : Reply} (h : r.Stored) : r.dev.Stored := h.1
theorem Reply.Stored.after {r : Reply} (h : r.Stored) (hd : d.Stored) : (r.after d).Stored := h.2 d hd
theorem Device.Stored.after {r : Reply} (h : r.Stored) (hd : d.Stored) : (r.after d).Stored := h.2 d hd

theorem Reply.Stored.ite {c : Prop} {inst : Decidable c} {a b : Reply} (ha : a.Stored) (hb : b.Stored) : (if c then a else b).Stored := by
  split
  · exact ha
  · exact hb

theorem Replies.ite {c : Prop} {inst : Decidable c} {a b : Option Reply} (ha : Replies a) (hb : Replies b) : Replies (if c then a else b) := by
  split
  · exact ha
  · exact hb

theorem Replies.some {r : Reply} (h : r.Stored) : Replies (some r) := by
  rintro x ⟨⟩
  exact h

theorem Replies.none : Replies none := by
  rintro x ⟨⟩

end

end Sys2Proof.Machine
end

section
/-! What each operation keeps of the form of the stores: the stores and what every chapter uses. -/

namespace Sys2Proof.Machine

section
variable {d : Device}

/-! ## Shared operations -/

theorem Device.Stored.setNum {k v} (h : d.Stored) : (d.setNum k v).Stored := h.setVal

theorem Device.Stored.setOct {k b} (h : d.Stored) : (d.setOct k b).Stored := h.setVal

theorem Device.Stored.setNums {l} (h : d.Stored) : (d.setNums l).Stored := by
  induction l generalizing d with
  | nil => exact h
  | cons x l ih => exact ih h.setNum

theorem Device.Stored.bumpBy {w k n} (h : d.Stored) : (d.bumpBy w k n).Stored := h.setNum

theorem Device.Stored.bump {k} (h : d.Stored) : (d.bump k).Stored := h.bumpBy

theorem Device.Stored.bump64 {k} (h : d.Stored) : (d.bump64 k).Stored := h.bumpBy

theorem Device.Stored.elapse {n} (h : d.Stored) : (d.elapse n).Stored := .frame h

theorem Device.Stored.runTo {t} (h : d.Stored) : (d.runTo t).Stored := h.elapse

theorem Device.Stored.runToMt {target} (h : d.Stored) : (d.runToMt target).Stored := h.elapse

theorem Device.Stored.report {code p} (h : d.Stored) : (d.report code p).Stored := .frame h

theorem Device.Stored.reportAt {tick code p} (h : d.Stored) : (d.reportAt tick code p).Stored := .frame h

theorem Device.Stored.causedBy {src f} (h : d.Stored) (hf : ∀ x0, x0.Stored → (f x0).Stored) : (d.causedBy src f).Stored := by
  unfold Device.causedBy
  have h1 := hf { d with foyer := { d.foyer with cause := src } } h.frame
  exact h1.frame

theorem Device.Stored.reportOnce {key code p} (h : d.Stored) : (d.reportOnce key code p).Stored := by
  unfold Device.reportOnce
  dsimp only
  split
  · exact .ite (.report (.frame h)) (.frame h)
  · exact .report (.frame h)

theorem Device.Stored.memError {e} (h : d.Stored) : (d.memError e).Stored := .reportOnce (.frame h)

theorem Device.Stored.meetError {e} (h : d.Stored) : (d.meetError e).Stored := by
  cases e with
  | none => exact h
  | some e => exact h.memError

theorem Device.Stored.emit {o} (h : d.Stored) : (d.emit o).Stored := .frame h

theorem Device.Stored.drawBytes {n} (h : d.Stored) : (d.drawBytes n).2.Stored := .frame h

theorem Device.Stored.setTimeState {t} (h : d.Stored) : (d.setTimeState t).Stored :=
  .ite h (have h1 := h.setNum.setNum.report; .ite h1.setNum h1)

end

end Sys2Proof.Machine
end

section
/-! What each operation keeps of the form of the stores: outputs, slots, the time model, holdover and selection. -/

namespace Sys2Proof.Machine

section
variable {d : Device}

/-! ## Outputs -/

theorem Device.Stored.setOut {n f} (h : d.Stored) : (d.setOut n f).Stored := .frame h

theorem Device.Stored.toPin {pin} (h : d.Stored) : (d.toPin pin).1.Stored := .ite_fst h.elapse.elapse h.elapse

theorem Device.Stored.setOutStatus {n st} (h : d.Stored) : (d.setOutStatus n st).Stored := .ite h (.setNum (.ite h.report h))

theorem Device.Stored.setCh {n f} (h : d.Stored) : (d.setCh n f).Stored := .frame h

theorem Device.Stored.padEdge {n ps falling sched} (h : d.Stored) : (d.padEdge n ps falling sched).Stored :=
  h.foldl fun _ _ h1 => .ite h1.setCh h1

theorem Device.Stored.padMoved {n ps was} (h : d.Stored) : (d.padMoved n ps was).Stored := .ite h h.padEdge

theorem Device.Stored.produceEdge {n ps mt16} (h : d.Stored) : (d.produceEdge n ps mt16).Stored := h.setOut.setNum.bump64.padEdge.emit

theorem Device.Stored.dueEdge {n k ps mt16} (h : d.Stored) : (d.dueEdge n k ps mt16).Stored :=
  have h1 := Device.Stored.ite h.setOut.setOutStatus.bump (.ite h.setOut.setOutStatus.bump h.setOut.setOutStatus.produceEdge)
  .ite h1.setOutStatus h1

theorem Device.Stored.passRepeats {n count} (h : d.Stored) : (d.passRepeats n count).Stored := .setOut (.ite h.bumpBy h)

theorem Device.Stored.outForward {n k'} (h : d.Stored) : (d.outForward n k').Stored :=
  .ite h (.ite h.setOut.bumpBy (have h1 := Device.Stored.ite h.dueEdge h.dueEdge.report; .ite h1.bumpBy.setOut.setOutStatus h1.bumpBy.setOut))

theorem Device.Stored.outBackward {n} (h : d.Stored) : (d.outBackward n).Stored := .ite h.setOut h

theorem Device.Stored.outsStepped {sel amount} (h : d.Stored) : (d.outsStepped sel amount).Stored :=
  h.foldl fun _ _ h1 => .ite (.passRepeats (.ite h1.outForward (.ite h1.outBackward h1))) h1

theorem Device.Stored.skipDeleted {n} (h : d.Stored) : (d.skipDeleted n).Stored := h.outForward

theorem Device.Stored.outsDeleted (h : d.Stored) : (d.outsDeleted).Stored := h.foldl fun _ _ h1 => .ite h1.skipDeleted h1

theorem Device.Stored.outSkipped {n e} (h : d.Stored) : (d.outSkipped n e).Stored := .ite h.toPin.setOut.bump h.runToMt.skipDeleted

theorem Device.Stored.outFires {d1 : Device} {n e fine} (h : d1.Stored) : (d1.outFires n e fine).Stored := by
  unfold Device.outFires
  dsimp only
  split
  · exact h.dueEdge.setOut
  · exact h.dueEdge

theorem Device.Stored.outEdge {n} (h : d.Stored) : (d.outEdge n).Stored := by
  unfold Device.outEdge
  dsimp only
  refine .ite h ?_
  split
  · exact h
  · exact .ite h.outSkipped h.toPin.outFires

theorem Device.Stored.outTrailing {n} (h : d.Stored) : (d.outTrailing n).Stored := .ite h h.runTo.setOut.padEdge.emit.padMoved

theorem Device.Stored.writeOutRearm {n} (h : d.Stored) : (d.writeOutRearm n).2.Stored := .ite_snd h.setOut h

theorem Device.Stored.outSwitch {n old was} (h : d.Stored) : (d.outSwitch n old was).Stored :=
  .ite h (have h1 := h.setNum.setNum.setOut; .padMoved (.ite h1.setOutStatus (.ite h1.setOutStatus h1.setOutStatus)))

theorem Device.Stored.placement {n stamp16 sched delay} (h : d.Stored) : (d.placement n stamp16 sched delay).Stored :=
  .setOut (.ite h.setNum.report h.setNum)

/-! ## Gates -/

theorem Device.Stored.setEgress {p f} (h : d.Stored) : (d.setEgress p f).Stored := .frame h

theorem Device.Stored.setQueue {p q f} (h : d.Stored) : (d.setQueue p q f).Stored := h.setEgress

theorem Device.Stored.bringCredits {p} (h : d.Stored) : (d.bringCredits p).Stored := h.setEgress

theorem Device.Stored.bringAllCredits (h : d.Stored) : (d.bringAllCredits).Stored := h.foldl fun _ _ h1 => h1.bringCredits

theorem Device.Stored.creditsStepped (h : d.Stored) : (d.creditsStepped).Stored := .frame h

/-! ## Clock outputs -/

theorem Device.Stored.setCko {n f} (h : d.Stored) : (d.setCko n f).Stored := .frame h

theorem Device.Stored.ckoStart {n} (h : d.Stored) : (d.ckoStart n).Stored := h.setCko.setNum

theorem Device.Stored.ckoSquelch {fault n} (h : d.Stored) : (d.ckoSquelch fault n).Stored := .ite h.setCko.setNum h

theorem Device.Stored.ckoResume {n} (h : d.Stored) : (d.ckoResume n).Stored := .ite h.ckoStart h

theorem Device.Stored.ckoAligned {n} (h : d.Stored) : (d.ckoAligned n).Stored := .ite (.setNum (.setCko (.ite h h.runToMt))) h

theorem Device.Stored.ckosStepped {du old} (h : d.Stored) : (d.ckosStepped du old).Stored := .frame h

/-! ## Slots -/

theorem Device.Stored.revertLater {g} (h : d.Stored) : (d.revertLater g).Stored := .frame h

theorem Device.Stored.freeGroups {mask} (h : d.Stored) : (d.freeGroups mask).Stored := .frame (h.foldl fun _ _ h1 => h1.revertGroup)

theorem Device.Stored.endSlot {n result} (h : d.Stored) : (d.endSlot n result).Stored := .ite h.setNum.setNum.setNum h.setNum.setNum

theorem Device.Stored.abandonSlot {n st} (h : d.Stored) : (d.abandonSlot n st).Stored := h.endSlot.report.freeGroups

theorem Device.Stored.setUnitMask {g us} (h : d.Stored) : (d.setUnitMask g us).Stored := h.setNum

theorem Device.Stored.noneApplied {mask} (h : d.Stored) : (d.noneApplied mask).Stored := h.foldl fun _ _ h1 => h1.setUnitMask

theorem Device.Stored.latchSlot {stuck n} (h : d.Stored) : (d.latchSlot stuck n).Stored :=
  .ite (.ite h.setNum h.abandonSlot) (.ite (.freeGroups (h.endSlot.noneApplied.causedBy fun _ h1 => h1.report)) h.setNum)

theorem Device.Stored.slotsStepped {old top stuck} (h : d.Stored) : (d.slotsStepped old top stuck).Stored :=
  h.foldl fun _ _ h1 => .ite h1 (.ite h1.abandonSlot (.ite h1.latchSlot h1))

theorem Device.Stored.fillSlot {n kind inst16 sl} (h : d.Stored) : (d.fillSlot n kind inst16 sl).Stored := .frame h.setNums

theorem Device.Stored.slotLatch {n stuck} (h : d.Stored) : (d.slotLatch n stuck).Stored := .ite h.runToMt.latchSlot h

theorem Device.Stored.cancelSlot {n} (h : d.Stored) : (d.cancelSlot n).2.Stored := .ite_snd h.setNum.setNum.report.freeGroups h

/-! ## Mantel -/

theorem Device.Stored.skyUtcCheck (h : d.Stored) : (d.skyUtcCheck).Stored := .ite h (.report (.frame h))

theorem Device.Stored.skySettle (h : d.Stored) : (d.skySettle).Stored := .frame h

theorem Device.Stored.skyFollows {du} (h : d.Stored) : (d.skyFollows du).Stored := .ite (.setOct (.frame h)) (.frame h)

theorem Device.Stored.syncUtc {cause} (h : d.Stored) : (d.syncUtc cause).Stored := .ite h (.skyUtcCheck (.frame h.report))

theorem Device.Stored.phasesStepped {a16} (h : d.Stored) : (d.phasesStepped a16).Stored := h.foldl fun _ _ h1 => .ite h1.setNum h1

theorem Device.Stored.shiftMt {du} (h : d.Stored) : (d.shiftMt du).Stored :=
  .phasesStepped (.foldl (.setNum (.bump (.creditsStepped (.frame h.bringAllCredits)))) fun _ _ h1 => .ite h1.bump h1)

theorem Device.Stored.moveMt {d0 : Device} {du code p} (h : d0.Stored) : (d0.moveMt du code p).Stored :=
  h.skySettle.shiftMt.ckosStepped.report.outsStepped.outsStepped.skyFollows.syncUtc

theorem Device.Stored.stepNow {d1 : Device} {du stuck code p} (h : d1.Stored) : (d1.stepNow du stuck code p).Stored := h.moveMt.slotsStepped

theorem Device.Stored.stepTick {du stuck code p} (h : d.Stored) : (d.stepTick du stuck code p).Stored := h.elapse.stepNow

theorem Device.Stored.autoStep {amount stuck} (h : d.Stored) : (d.autoStep amount stuck).Stored := .frame h.stepTick

theorem Device.Stored.commandedStep {amount slot stuck} (h : d.Stored) : (d.commandedStep amount slot stuck).Stored := h.stepTick

theorem Device.Stored.writeMtSet {v16} (h : d.Stored) : (d.writeMtSet v16).2.Stored := .ite_snd h (.frame h.setNum)

theorem Device.Stored.commandedNow {amount slot} (h : d.Stored) : (d.commandedNow amount slot).Stored := h.moveMt

theorem Device.Stored.writeMtStep {b} (h : d.Stored) : (d.writeMtStep b).2.Stored := by
  unfold Device.writeMtStep
  dsimp only
  refine .ite_snd h ?_
  refine .ite_snd h ?_
  refine .ite_snd (.frame h.setOct) ?_
  split
  · exact h
  · exact .ite_snd h h.setOct.fillSlot

theorem Device.Stored.stepApply {delay stuck} (h : d.Stored) : (d.stepApply delay stuck).Stored := by
  unfold Device.stepApply
  dsimp only
  split
  · exact h
  · exact .frame (h.runTo.causedBy fun _ h1 => .ite h1.commandedStep h1.report)

theorem Device.Stored.domPullComplete {n} (h : d.Stored) : (d.domPullComplete n).Stored := .ite h h.elapse

theorem Device.Stored.leapPendingBegin (h : d.Stored) : (d.leapPendingBegin).Stored := by
  unfold Device.leapPendingBegin
  split
  · exact .ite h.runToMt h
  · exact h

theorem Device.Stored.leapInstant (h : d.Stored) : (d.leapInstant).Stored := by
  unfold Device.leapInstant
  dsimp only
  split
  · exact .ite h (.ite h.runToMt.syncUtc.outsDeleted h.runToMt.syncUtc)
  · exact h

theorem Device.Stored.domStep16 {n a16} (h : d.Stored) : (d.domStep16 n a16).Stored := by
  unfold Device.domStep16
  dsimp only
  generalize updAt d.clock.dom n (fun x => x + a16 * fracU * 2 ^ 48) = doms
  exact .outsStepped (.report (.bump (.frame h)))

theorem Device.Stored.domStep {n ns} (h : d.Stored) : (d.domStep n ns).Stored := h.domStep16

theorem Device.Stored.domOffsetChange {n ns} (h : d.Stored) : (d.domOffsetChange n ns).Stored := .ite h (.ite h.domStep (.frame h))

theorem Device.Stored.replicaFault {u} (h : d.Stored) : (d.replicaFault u).Stored := .ite (.frame h.report) h

/-! ## Holdover -/

theorem Device.Stored.setCandU {n f} (h : d.Stored) : (d.setCandU n f).Stored := .frame h

theorem Device.Stored.setTherm {f} (h : d.Stored) : (d.setTherm f).Stored := .frame h

theorem Device.Stored.setHold {f} (h : d.Stored) : (d.setHold f).Stored := .frame h

theorem Device.Stored.requestD {v} (h : d.Stored) : (d.requestD v).Stored := .setTherm (.ite h h.report)

theorem Device.Stored.slewD (h : d.Stored) : (d.slewD).Stored := h.setNum

theorem Device.Stored.setModel {st cause} (h : d.Stored) : (d.setModel st cause).Stored := .ite h h.report.setNum

theorem Device.Stored.emptyModel {cause} (h : d.Stored) : (d.emptyModel cause).Stored :=
  .setModel (.setHold (.setNum (.setNum (h.foldl fun _ _ h1 => h1.setNum))))

theorem Device.Stored.writeModelClear (h : d.Stored) : (d.writeModelClear).2.Stored := .ite_snd h h.emptyModel.setNum

theorem Device.Stored.noteWindow (h : d.Stored) : (d.noteWindow).Stored := h.setNums

theorem Device.Stored.learningSample {d0 : Device} (h : d0.Stored) : (d0.learningSample).Stored :=
  .ite h.runTo.setHold (have h1 := h.runTo.setHold.setHold.noteWindow; .ite h1.setModel h1)

theorem Device.Stored.fitModel {ss} (h : d.Stored) : (d.fitModel ss).Stored :=
  have h1 := Device.Stored.ite h.setNums.setNum h.setNums
  .ite (.setHold (.ite h1.setNum h1)) (.ite h1.setNum h1)

theorem Device.Stored.modelRefit {d0 : Device} (h : d0.Stored) : (d0.modelRefit).Stored :=
  have h1 := h.runTo.setHold.noteWindow
  .ite h1 (.ite h1.fitModel.setModel (.ite h1.fitModel.setModel h1.fitModel))

theorem Device.Stored.saveModel (h : d.Stored) : (d.saveModel).Stored := .frame h

theorem Device.Stored.modelSave {d0 : Device} (h : d0.Stored) : (d0.modelSave).Stored := .ite h.runTo.setHold.saveModel h.runTo.setHold

theorem Device.Stored.spoilModels {torn} (h : d.Stored) : (d.spoilModels torn).Stored := .frame h

theorem Device.Stored.restoreModel (h : d.Stored) : (d.restoreModel).Stored := by
  unfold Device.restoreModel
  dsimp only
  split
  · exact .setModel (.noteWindow (.setHold (h.foldl fun _ _ h1 => h1.setNum)))
  · exact h

theorem Device.Stored.setTempFault {b} (h : d.Stored) : (d.setTempFault b).Stored := .ite h h.setHold.report

theorem Device.Stored.accrueTemp (h : d.Stored) : (d.accrueTemp).Stored := .ite h h.setHold

theorem Device.Stored.tempSample {d0 : Device} {die dieOk ohms} (h : d0.Stored) : (d0.tempSample die dieOk ohms).Stored :=
  have h1 := h.runTo.setTempFault
  .accrueTemp (.setHold (.ite h1 h1.setNum))

theorem Device.Stored.tempHostTimeout (h : d.Stored) : (d.tempHostTimeout).Stored := .ite h.runTo.setTempFault h

theorem Device.Stored.enterT5 {cause} (h : d.Stored) : (d.enterT5 cause).Stored := .ite h h.setTimeState.report

theorem Device.Stored.computeBound (h : d.Stored) : (d.computeBound).Stored := h.setNum

theorem Device.Stored.boundTest (h : d.Stored) : (d.boundTest).Stored := .ite h.enterT5 h

theorem Device.Stored.boundUpdate {d0 : Device} (h : d0.Stored) : (d0.boundUpdate).Stored :=
  .ite h (.boundTest (.computeBound (.ite h.runTo.setHold.requestD h.runTo.setHold)))

theorem Device.Stored.enterHoldover {freeze b0 p0} (h : d.Stored) : (d.enterHoldover freeze b0 p0).Stored :=
  .report (.setNum (.ite h.setHold.setTimeState h.setHold))

theorem Device.Stored.holdSegment {freqOnly n} (h : d.Stored) : (d.holdSegment freqOnly n).Stored := h.setHold

theorem Device.Stored.endHoldover {d0 : Device} {phase} (h : d0.Stored) : (d0.endHoldover phase).Stored :=
  .ite h (have h1 := Device.Stored.ite h h.computeBound; .ite h1.report.setHold (have h2 := h1.report.setHold.bump; .ite h2.setNum.report h2))

theorem Device.Stored.compatExpiry (h : d.Stored) : (d.compatExpiry).Stored := .ite h (.ite h.runToMt.enterT5 h.runToMt)

/-! ## Thermostat -/

theorem Device.Stored.leaveState {n} (h : d.Stored) : (d.leaveState n).Stored := h.setCandU

theorem Device.Stored.setRef {n st} (h : d.Stored) : (d.setRef n st).Stored := .ite h (.ite h.report.setNum.leaveState h.report.setNum)

theorem Device.Stored.restartGate {n} (h : d.Stored) : (d.restartGate n).Stored := h.setCandU

theorem Device.Stored.disqualify {n reason p2} (h : d.Stored) : (d.disqualify n reason p2).Stored := h.setNum.report.setRef.setCandU

theorem Device.Stored.refusePhase {n} (h : d.Stored) : (d.refusePhase n).Stored := .ite h h.setNum.report.setCandU

theorem Device.Stored.qualify {d0 : Device} {n} (h : d0.Stored) : (d0.qualify n).Stored := by
  unfold Device.qualify
  refine .ite ?_ ?_
  · refine .ite ?_ (.ite (.refusePhase (.ite h.setCandU h)) (.ite h.setCandU h))
    exact .ite (.setCandU (.setRef (.ite h.setCandU h))) (.setRef (.ite h.setCandU h))
  · refine .ite ?_ (.ite h.setCandU h)
    exact .ite (.setRef (.refusePhase (.ite h.setCandU h))) (.ite (.setRef (.ite h.setCandU h)) (.ite h.setCandU h))

theorem Device.Stored.activityPresent {n} (h : d.Stored) : (d.activityPresent n).Stored := by
  unfold Device.activityPresent
  refine .ite h ?_
  refine .ite ?_ ?_
  · exact have h1 := h.setCandU.setCandU; .ite h1.disqualify.restartGate h1.setRef
  · exact .ite h.setCandU.setRef.restartGate.setRef (.ite h.setCandU.restartGate.setRef h.setCandU)

theorem Device.Stored.activityAbsent {n} (h : d.Stored) : (d.activityAbsent n).Stored :=
  .ite h (.ite h.setNum.setCandU.setRef h.setNum.setCandU.setRef)

theorem Device.Stored.syncActivity {n} (h : d.Stored) : (d.syncActivity n).Stored := .ite h.activityPresent h.activityAbsent

theorem Device.Stored.setSource {n b} (h : d.Stored) : (d.setSource n b).Stored := h.setCandU.syncActivity

theorem Device.Stored.refinSource {i} (h : d.Stored) : (d.refinSource i).Stored := h.setSource

theorem Device.Stored.activityTimeout {i} (h : d.Stored) : (d.activityTimeout i).Stored := .ite h h.runTo.setNum.refinSource

theorem Device.Stored.refinEdge {i ps} (h : d.Stored) : (d.refinEdge i ps).Stored := .ite h h.setNum.setCandU.refinSource

theorem Device.Stored.refreshEnable {n} (h : d.Stored) : (d.refreshEnable n).Stored :=
  .ite (.ite h.setRef.syncActivity h) (.ite h h.setRef.setCandU)

theorem Device.Stored.refreshQl {n} (h : d.Stored) : (d.refreshQl n).Stored := .ite h h.report.setNum

theorem Device.Stored.advertiseQl {n q} (h : d.Stored) : (d.advertiseQl n q).Stored := h.setCandU.refreshQl

theorem Device.Stored.trackLock (h : d.Stored) : (d.trackLock).Stored := .ite h.setTherm (.ite h.setTherm h)

theorem Device.Stored.lockDwell (h : d.Stored) : (d.lockDwell).Stored := by
  unfold Device.lockDwell
  dsimp only
  split
  · exact .ite h.runTo.setTherm.report.setTimeState h.runTo
  · exact h

theorem Device.Stored.followPull (h : d.Stored) : (d.followPull).Stored := .ite h (.ite h.setTimeState (.ite h.setTimeState h.enterT5))

theorem Device.Stored.pullComplete (h : d.Stored) : (d.pullComplete).Stored := .ite h h.elapse.followPull

theorem Device.Stored.mtSetApply {delay stuck} (h : d.Stored) : (d.mtSetApply delay stuck).Stored := by
  unfold Device.mtSetApply
  dsimp only
  split
  · exact h
  · refine .ite (.causedBy (.frame h.runTo) fun _ h1 => h1.report) ?_
    exact
      have h2 := Device.Stored.causedBy (.frame h.runTo) fun _ h3 => h3.stepTick
      .ite (.causedBy (.frame h2) fun _ h4 => h4.setTimeState) (.ite (.setNum (.setTherm (.frame h2))) (.frame h2))

theorem Device.Stored.pullWithin (h : d.Stored) : (d.pullWithin).Stored := .ite h h.elapse.followPull

theorem Device.Stored.addPull {p} (h : d.Stored) : (d.addPull p).Stored := .frame h

theorem Device.Stored.deselect (h : d.Stored) : (d.deselect).Stored := .ite h (.ite h.setRef h.setCandU)

theorem Device.Stored.select {d0 : Device} {n stuck} (h : d0.Stored) : (d0.select n stuck).Stored :=
  have h1 := h.deselect.setRef.report.setNum.bump.setTherm
  have h2 := Device.Stored.ite h1.autoStep h1.addPull
  .ite h2.setNum.setTimeState (.ite (have h3 := h2.setNum.setTimeState; .ite h3.autoStep h3.setNum) (.ite
    (.ite h2.setNum.setHold.endHoldover.followPull (.ite h2.setNum.setHold.holdSegment h2.setNum.setHold.enterHoldover.holdSegment)) h2.setNum))

theorem Device.Stored.selectNone (h : d.Stored) : (d.selectNone).Stored :=
  have h1 := Device.Stored.ite h.deselect.report.setNum.setTherm h
  .ite h1.setTimeState (.ite (.ite h1.enterHoldover (.ite h1.holdSegment h1)) h1)

theorem Device.Stored.trackRestore (h : d.Stored) : (d.trackRestore).Stored := .ite h.setHold (.ite h.setHold h)

theorem Device.Stored.evaluate {d0 : Device} {stuck} (h : d0.Stored) : (d0.evaluate stuck).Stored := by
  unfold Device.evaluate
  dsimp only
  refine .ite h.runTo.setTherm ?_
  refine .trackRestore ?_
  refine .trackLock ?_
  split
  · exact h.runTo.setTherm.selectNone
  · exact .ite h.runTo.setTherm.followPull h.runTo.setTherm.select

theorem Device.Stored.addPoint {n count free} (h : d.Stored) : (d.addPoint n count free).Stored := h.setCandU

theorem Device.Stored.offerPhase {m} (h : d.Stored) : (d.offerPhase m).Stored := .ite h h.setTherm

theorem Device.Stored.phaseMeasured {m stuck} (h : d.Stored) : (d.phaseMeasured m stuck).Stored := by
  unfold Device.phaseMeasured
  refine .ite h ?_
  exact
    have h1 := Device.Stored.ite h.setNum.setCandU.setCandU (.restartGate (.ite h.setNum.setCandU.disqualify
      (.ite h.setNum.setCandU.setRef h.setNum.setCandU)))
    have h2 := Device.Stored.qualify (.ite h1 h1.addPoint)
    .ite h2 (have h3 := h2.setNum.trackLock; .ite h3.autoStep.setNum.trackLock h3)

theorem Device.Stored.phaseArrives {n stuck} (h : d.Stored) : (d.phaseArrives n stuck).Stored := by
  unfold Device.phaseArrives
  split
  · exact h.setTherm.phaseMeasured
  · exact h

theorem Device.Stored.refinStamp {i c} (h : d.Stored) : (d.refinStamp i c).Stored :=
  .ite h (.ite (.offerPhase (.ite h h.addPoint)) (.ite h h.addPoint))

theorem Device.Stored.freqReading {n} (h : d.Stored) : (d.freqReading n).Stored := by
  unfold Device.freqReading
  dsimp only
  refine .ite h ?_
  split
  · exact h
  · exact .ite h.setNum.setCandU.disqualify h.setNum.setCandU.qualify

theorem Device.Stored.checkRestored (h : d.Stored) : (d.checkRestored).Stored := by
  unfold Device.checkRestored
  dsimp only
  split
  · exact h
  · exact .ite h (.ite h.setHold.setModel (.ite h.setHold.emptyModel h.setHold))

theorem Device.Stored.freqMonitor {d0 : Device} (h : d0.Stored) : (d0.freqMonitor).Stored :=
  .ite h.runTo.setTherm (.trackLock (.checkRestored (.trackRestore (h.runTo.setTherm.foldl fun _ _ h1 => h1.freqReading))))

theorem Device.Stored.holdoffExpiry {n} (h : d.Stored) : (d.holdoffExpiry n).Stored := .ite h h.runTo.setRef

theorem Device.Stored.wtrExpiry {n} (h : d.Stored) : (d.wtrExpiry n).Stored := .ite h h.runTo.setRef

theorem Device.Stored.moveIntegral {step} (h : d.Stored) : (d.moveIntegral step).Stored := h.setTherm.requestD

theorem Device.Stored.dpllUpdate {d0 : Device} (h : d0.Stored) : (d0.dpllUpdate).Stored := by
  unfold Device.dpllUpdate
  refine .ite h.runTo.setTherm ?_
  refine .ite (.ite h.runTo.setTherm h.runTo.setTherm.slewD) ?_
  exact have h1 := h.runTo.setTherm.moveIntegral.slewD.addPull.setNum; .followPull (.ite h1.setHold.disqualify h1.setHold)

theorem Device.Stored.thermFreeze (h : d.Stored) : (d.thermFreeze).Stored := h.setTherm.setHold

theorem Device.Stored.parentJump {n} (h : d.Stored) : (d.parentJump n).Stored :=
  .ite h.setCandU (.restartGate (.ite h.setCandU.disqualify (.ite h.setCandU.setRef h.setCandU)))

theorem Device.Stored.thermResume (h : d.Stored) : (d.thermResume).Stored :=
  h.setTherm.foldl fun _ _ h1 => .syncActivity (.ite h1.parentJump h1)

theorem Device.Stored.clearPhase {n} (h : d.Stored) : (d.clearPhase n).Stored := .ite h (.ite h.setNum.setNum h.setNum)

theorem Device.Stored.thermCommitted {d0 : Device} {old} (h : d0.Stored) : (d0.thermCommitted old).Stored :=
  have h1 := h.foldl
    fun _ _ h2 => have h3 := h2.setCandU.refreshEnable.refreshQl.clearPhase; .ite h3.setRef.restartGate.setCandU.syncActivity
      (have h4 := Device.Stored.ite h3.restartGate h3; .ite h4.qualify h4)
  have h5 := Device.Stored.ite h1.report.setNum h1
  .followPull (.ite h5.boundTest h5)

end

end Sys2Proof.Machine
end

section
/-! What each operation keeps of the form of the stores: the clock root, edges, ports and the switch. -/

namespace Sys2Proof.Machine

section
variable {d : Device}

/-! ## Hearth -/

theorem Device.Stored.loMeasure {hz} (h : d.Stored) : (d.loMeasure hz).Stored := h.setNum

theorem Device.Stored.rootLeaves {d1 : Device} (h : d1.Stored) : (d1.rootLeaves).Stored :=
  have h1 := h.thermFreeze.setHold
  .foldl (.ite h1.enterT5 h1) fun _ _ h2 => h2.ckoSquelch

theorem Device.Stored.rootLost {cause} (h : d.Stored) : (d.rootLost cause).Stored := .ite h h.setNum.bump.report.rootLeaves

theorem Device.Stored.rootRelock (h : d.Stored) : (d.rootRelock).Stored :=
  .foldl (.followPull (.thermResume (.report (.setNum (.ite h.report h))))) fun _ _ h1 => h1.ckoResume

theorem Device.Stored.rootFaulted {dev rail} (h : d.Stored) : (d.rootFaulted dev rail).Stored :=
  .ite (have h1 := h.setNum.setNum.report; .foldl (.ite h1.rootLeaves h1) fun _ _ h2 => h2.ckoSquelch) h.setNum

/-! ## Threshold -/

theorem Device.Stored.pushRecord {n c interval extra} (h : d.Stored) : (d.pushRecord n c interval extra).Stored :=
  .ite h (.ite (.setCh (.ite h.bump h.bump.report)) h.setCh)

theorem Device.Stored.drainFifo {n k} (h : d.Stored) : (d.drainFifo n k).Stored := h.setCh

theorem Device.Stored.closeInterval {m st ps} (h : d.Stored) : (d.closeInterval m st ps).Stored := h.pushRecord.setCh

theorem Device.Stored.offerStop {src ps m} (h : d.Stored) : (d.offerStop src ps m).Stored := by
  unfold Device.offerStop
  split
  · exact h
  · exact .ite h.closeInterval h

theorem Device.Stored.missEdge {n} (h : d.Stored) : (d.missEdge n).Stored := h.bump.reportOnce

theorem Device.Stored.openInterval {n cap} (h : d.Stored) : (d.openInterval n cap).Stored := by
  unfold Device.openInterval
  dsimp only
  split
  · exact .ite h.setCh.closeInterval h.setCh
  · exact h.setCh

theorem Device.Stored.takeEdge {n e} (h : d.Stored) : (d.takeEdge n e).Stored :=
  have h1 := h.bump64.setCh.foldl fun _ _ h2 => h2.offerStop
  .ite h1 (.ite (.bump (.frame h1)) (.ite (.missEdge (.frame h1)) (.ite (.openInterval (.setCh (.frame h1))) (.setCh (.frame h1)))))

theorem Device.Stored.watchEdge {n e} (h : d.Stored) : (d.watchEdge n e).Stored := .ite h.refinEdge h

theorem Device.Stored.edgeInput {d0 : Device} {n falling wait fine} (h : d0.Stored) : (d0.edgeInput n falling wait fine).Stored := by
  unfold Device.edgeInput
  dsimp only
  refine .ite h.elapse ?_
  refine .ite ?_ (.ite h.elapse.watchEdge.takeEdge h.elapse)
  split
  · exact h
  · exact .ite h.runTo.setCh.takeEdge h.runTo.setCh

theorem Device.Stored.ppsStamp {tU sched} (h : d.Stored) : (d.ppsStamp tU sched).Stored :=
  .ite (.frame h.setNum) (.report (.frame h.setNum))

theorem Device.Stored.deliverStamp {n c} (h : d.Stored) : (d.deliverStamp n c).Stored := by
  unfold Device.deliverStamp
  dsimp only
  split
  · refine .ite ?_ ?_
    · refine .ppsStamp ?_
      refine .ite ?_ (.ite (.setCh (.ite h.pushRecord h)) (.ite h.pushRecord h))
      exact .refinStamp (.ite (.setCh (.ite h.pushRecord h)) (.ite h.pushRecord h))
    · refine .ite ?_ ?_
      · refine .placement ?_
        refine .ite ?_ (.ite (.setCh (.ite h.pushRecord h)) (.ite h.pushRecord h))
        exact .refinStamp (.ite (.setCh (.ite h.pushRecord h)) (.ite h.pushRecord h))
      · refine .ite ?_ (.ite (.setCh (.ite h.pushRecord h)) (.ite h.pushRecord h))
        exact .refinStamp (.ite (.setCh (.ite h.pushRecord h)) (.ite h.pushRecord h))
  · refine .ite ?_ (.ite (.setCh (.ite h.pushRecord h)) (.ite h.pushRecord h))
    exact .refinStamp (.ite (.setCh (.ite h.pushRecord h)) (.ite h.pushRecord h))

theorem Device.Stored.convertOf {d0 : Device} {n} (h : d0.Stored) : (d0.convertOf n).Stored := by
  unfold Device.convertOf
  dsimp only
  split
  · exact h
  · exact .deliverStamp (.frame h.runTo.bump64.setCh)

theorem Device.Stored.convert {n} (h : d.Stored) : (d.convert n).Stored := .ite h.convertOf h

theorem Device.Stored.serveAll {n fuel} (h : d.Stored) : (d.serveAll n fuel).Stored := by
  induction fuel generalizing d with
  | zero => exact h
  | succ fuel ih =>
    unfold Device.serveAll
    refine .ite h ?_
    split
    · exact ih h.convertOf
    · exact h

theorem Device.Stored.intervalTimeout {n} (h : d.Stored) : (d.intervalTimeout n).Stored := by
  unfold Device.intervalTimeout
  dsimp only
  split
  · exact .ite h h.runTo.pushRecord.setCh
  · exact h

theorem Device.Stored.mark {at_ v} (h : d.Stored) : (d.mark at_ v).Stored := .frame h

theorem Device.Stored.restartReg {n} (h : d.Stored) : (d.restartReg n).Stored := h.setCh.mark

theorem Device.Stored.setMismatch {n b} (h : d.Stored) : (d.setMismatch n b).Stored := .ite h h.report.setCh

theorem Device.Stored.chApplied {n} (h : d.Stored) : (d.chApplied n).Stored := h.setCh.setNums.setMismatch.restartReg

theorem Device.Stored.useChanged {d0 : Device} (h : d.Stored) : (d.useChanged d0).Stored := h.foldl fun _ _ h1 => .ite h1 h1.setCh

theorem Device.Stored.regGateEnd {d0 : Device} {n} (h : d0.Stored) : (d0.regGateEnd n).Stored :=
  .ite h (have h1 := h.runToMt.serveAll.setNums; .mark (.setCh (.setMismatch (.ite h1.bump.setNums h1.bump))))

theorem Device.Stored.tdcRootLost (h : d.Stored) : (d.tdcRootLost).Stored := .frame h

theorem Device.Stored.tdcRelocked (h : d.Stored) : (d.tdcRelocked).Stored := .frame h

theorem Device.Stored.calSwap {d0 : Device} {n bins} (h : d0.Stored) : (d0.calSwap n bins).Stored :=
  .ite h (.ite h.runTo.bump.setCh.report h.runTo.bump.setCh)

theorem Device.Stored.firstTable {n i} (h : d.Stored) : (d.firstTable n i).Stored := .ite h.setCh.report h.setCh

theorem Device.Stored.calComplete {d0 : Device} (h : d0.Stored) : (d0.calComplete).Stored :=
  .ite h (.foldl (.frame h.runTo.setNum) fun _ _ h1 => h1.firstTable.firstTable)

theorem Device.Stored.stampDemand {d0 : Device} (h : d0.Stored) : (d0.stampDemand).Stored :=
  .ite h (.frame (.ite h.runToMt.setNums.report h.runToMt.setNums))

/-! ## Porch -/

theorem Device.Stored.wrapBy {k n} (h : d.Stored) : (d.wrapBy k n).Stored := h.setNum

theorem Device.Stored.wrap {k} (h : d.Stored) : (d.wrap k).Stored := h.wrapBy

theorem Device.Stored.setPort {p f} (h : d.Stored) : (d.setPort p f).Stored := .frame h

theorem Device.Stored.setPlca {p v} (h : d.Stored) : (d.setPlca p v).Stored := .ite h h.setNum.report

theorem Device.Stored.setLink {p st cause} (h : d.Stored) : (d.setLink p st cause).Stored :=
  .ite h (have h1 := h.setNum.report.setPort; .ite h1.setPlca.setPort h1)

theorem Device.Stored.dropPlace {p} (h : d.Stored) : (d.dropPlace p).Stored := h.setPort

theorem Device.Stored.clearPlace {p} (h : d.Stored) : (d.clearPlace p).Stored := h.setPort

theorem Device.Stored.linkLost {p cause} (h : d.Stored) : (d.linkLost p cause).Stored :=
  .ite (.dropPlace (.setLink (.ite h.wrap h))) (.ite (.setLink (.ite h.wrap h)) (.ite h.setLink h))

theorem Device.Stored.linkUp {p} (h : d.Stored) : (d.linkUp p).Stored :=
  .ite h (.ite (.ite h.setLink h) (.ite h.setLink.setLink (.ite h.setLink h)))

theorem Device.Stored.trainingRetry {p} (h : d.Stored) : (d.trainingRetry p).Stored :=
  .ite h (.ite h.setLink (.ite h.setLink.elapse.setLink h))

theorem Device.Stored.applyPower {p} (h : d.Stored) : (d.applyPower p).Stored := .ite (.ite h.setLink h) h.setLink.dropPlace

theorem Device.Stored.applyPortCfg {p old} (h : d.Stored) : (d.applyPortCfg p old).Stored := .ite h.setLink.dropPlace h

theorem Device.Stored.plcaBeacon {d0 : Device} {p wait} (h : d0.Stored) : (d0.plcaBeacon p wait).Stored := by
  unfold Device.plcaBeacon
  dsimp only
  refine .ite h.elapse ?_
  split
  · exact have h1 := Device.Stored.setNum (.setPort (.setPlca (.ite h.elapse.emit h.elapse))); .ite h1.reportOnce h1
  · exact .setPort (.setPlca (.ite h.elapse.emit h.elapse))

theorem Device.Stored.plcaTimeout {p} (h : d.Stored) : (d.plcaTimeout p).Stored := by
  unfold Device.plcaTimeout
  split
  · exact .ite h.runTo.setPlca.setPort h
  · exact h

theorem Device.Stored.portDrop {p kind c q} (h : d.Stored) : (d.portDrop p kind c q).Stored := h.reportOnce

theorem Device.Stored.writeXphyMdio {b answer} (h : d.Stored) : (d.writeXphyMdio b answer).2.Stored := .ite_snd h h.emit.setOct

theorem Device.Stored.setCan {n st} (h : d.Stored) : (d.setCan n st).Stored := .ite h (.ite h.setNum.report.bump h.setNum.report)

theorem Device.Stored.writeCanCfg {n b owner} (h : d.Stored) : (d.writeCanCfg n b owner).2.Stored :=
  .ite_snd h (.ite_snd h (.ite h.setOct h.setOct.setCan))

theorem Device.Stored.canGrade {n} (h : d.Stored) : (d.canGrade n).Stored := h.setCan

theorem Device.Stored.canIntegrated {n} (h : d.Stored) : (d.canIntegrated n).Stored := .ite h.setCan.canGrade h

theorem Device.Stored.canError {n tec rec} (h : d.Stored) : (d.canError n tec rec).Stored :=
  .ite h (have h1 := h.bump.setNum.setNum; .ite h1.setCan h1.canGrade)

theorem Device.Stored.canRecover {n} (h : d.Stored) : (d.canRecover n).Stored := .ite h.setNums.setCan h

theorem Device.Stored.canStart {n} (h : d.Stored) : (d.canStart n).Stored := .ite h.setCan h

theorem Device.Stored.canReceived {n ident cc} (h : d.Stored) : (d.canReceived n ident cc).2.Stored :=
  have h1 := h.bump.setNum.canGrade
  .ite_snd h1 h1.bump

theorem Device.Stored.canSent {n} (h : d.Stored) : (d.canSent n).Stored := h.bump.setNum.canGrade

theorem Device.Stored.rxStamp {p fine invalid} (h : d.Stored) : (d.rxStamp p fine invalid).2.2.Stored := .setPort (.ite h h.wrap)

theorem Device.Stored.returnStamp {p tag word t16} (h : d.Stored) : (d.returnStamp p tag word t16).Stored := by
  unfold Device.returnStamp
  dsimp only
  split
  · exact h
  · exact h
  · exact h
  · exact .ite h h.setNum
  · exact .frame h

theorem Device.Stored.dropCollided {p k kind f} (h : d.Stored) : (d.dropCollided p k kind f).Stored :=
  h.wrap.portDrop.clearPlace.returnStamp

theorem Device.Stored.collision {p late} (h : d.Stored) : (d.collision p late).Stored := by
  unfold Device.collision
  dsimp only
  split
  · exact h
  · exact .ite h (.ite h.wrap.dropCollided (.ite h.wrap.dropCollided h.wrap.setPort))

theorem Device.Stored.backoffExpiry {p} (h : d.Stored) : (d.backoffExpiry p).Stored := by
  unfold Device.backoffExpiry
  split
  · exact h.runTo.setPort
  · exact h

theorem Device.Stored.commitTick {p wait} (h : d.Stored) : (d.commitTick p wait).Stored := .ite h.elapse.runTo h.runTo

theorem Device.Stored.commitFrame {d0 : Device} {p wait fine} (h : d0.Stored) : (d0.commitFrame p wait fine).Stored := by
  unfold Device.commitFrame
  dsimp only
  split
  · exact h
  · refine .ite h ?_
    refine .ite ?_ ?_
    · exact .returnStamp (.portDrop (.wrap (.clearPlace (.ite h.commitTick h.commitTick.elapse))))
    · refine .ite ?_ ?_
      · exact .returnStamp (.reportOnce (.wrap (.clearPlace (.ite h.commitTick h.commitTick.elapse))))
      · refine .emit ?_
        refine .returnStamp ?_
        refine .setPort ?_
        refine .ite ?_ ?_
        · split
          · exact .bump64 (.bumpBy (.bump64 (.clearPlace (.ite h.commitTick h.commitTick.elapse))))
          · exact .bumpBy (.bump64 (.clearPlace (.ite h.commitTick h.commitTick.elapse)))
        · refine .bump64 ?_
          split
          · exact .bump64 (.bumpBy (.bump64 (.clearPlace (.ite h.commitTick h.commitTick.elapse))))
          · exact .bumpBy (.bump64 (.clearPlace (.ite h.commitTick h.commitTick.elapse)))

theorem Device.Stored.sendOwn {p b} (h : d.Stored) : (d.sendOwn p b).Stored := h.setPort

theorem Device.Stored.clearCounters {p} (h : d.Stored) : (d.clearCounters p).Stored := h.setNums.report

/-! ## Hallway -/

theorem Device.Stored.cellCheckAt {ps} (h : d.Stored) : (d.cellCheckAt ps).Stored :=
  .ite (.reportAt (.frame (.frame h))) (.ite (.reportAt (.frame (.frame h))) (.frame h))

theorem Device.Stored.cellCheck (h : d.Stored) : (d.cellCheck).Stored := h.cellCheckAt

theorem Device.Stored.freeEnded (h : d.Stored) : (d.freeEnded).Stored := .frame (h.foldl fun _ _ h1 => h1.cellCheckAt)

theorem Device.Stored.egressDrop {p kind q k} (h : d.Stored) : (d.egressDrop p kind q k).Stored := h.bump.reportOnce

theorem Device.Stored.rootDropped (h : d.Stored) : (d.rootDropped).Stored := h.bump.reportOnce

theorem Device.Stored.enqueue {p q f} (h : d.Stored) : (d.enqueue p q f).Stored :=
  .ite h.egressDrop (.ite (.egressDrop (.ite h.rootDropped h)) (.ite h.egressDrop h.bringCredits.setQueue.cellCheck))

theorem Device.Stored.ipSend {d0 : Device} {p q f} (h : d0.Stored) : (d0.ipSend p q f).Stored :=
  .ite (.enqueue (.frame h.freeEnded)) (.frame h.freeEnded)

theorem Device.Stored.ipDrain (h : d.Stored) : (d.ipDrain).Stored := .cellCheck (.foldl (.frame h) fun _ _ h1 => h1.ipSend)

theorem Device.Stored.dropLate {p fuel} (h : d.Stored) : (d.dropLate p fuel).Stored := by
  induction fuel generalizing d with
  | zero => exact h
  | succ fuel ih =>
    unfold Device.dropLate
    split
    · exact ih h.setQueue.egressDrop
    · exact h

theorem Device.Stored.takePlace {p q f} (h : d.Stored) : (d.takePlace p q f).Stored := h.setPort

theorem Device.Stored.nextRelease {p fuel} (h : d.Stored) : (d.nextRelease p fuel).2.Stored := by
  induction fuel generalizing d with
  | zero => exact h
  | succ fuel ih =>
    have h1 : ((d.freeEnded.bringCredits p).dropLate p (d.copies.length + 1)).Stored := h.freeEnded.bringCredits.dropLate
    unfold Device.nextRelease
    dsimp only
    split
    · exact h1.setPort
    · exact h1.setQueue
    · split
      · exact ih h1.elapse
      · exact h1

theorem Device.Stored.gateBoundary {p} (h : d.Stored) : (d.gateBoundary p).Stored := .ite h h.bringCredits.runToMt

theorem Device.Stored.learn {p mac vid} (h : d.Stored) : (d.learn p mac vid).Stored :=
  .ite h (.ite (.frame h) (.ite h.bump (.report (.frame h.bump))))

theorem Device.Stored.fdbAge (h : d.Stored) : (d.fdbAge).Stored := by
  unfold Device.fdbAge
  dsimp only
  split
  · exact .ite h (.frame h.runTo)
  · exact h

theorem Device.Stored.fdbFit (h : d.Stored) : (d.fdbFit).Stored := .frame h

theorem Device.Stored.fwdSwitched (h : d.Stored) : (d.fwdSwitched).Stored := h.freeEnded.fdbFit.cellCheck

theorem Device.Stored.mirror {d0 : Device} {f} (h : d0.Stored) : (d0.mirror f).Stored :=
  .ite h.freeEnded.egressDrop (.ite h.freeEnded.bump h.freeEnded.bringCredits.setQueue.cellCheck)

theorem Device.Stored.forward {p f} (h : d.Stored) : (d.forward p f).Stored := by
  unfold Device.forward
  dsimp only
  split
  · exact h
  · exact h.learn.foldl fun _ _ h1 => .ite h1.enqueue h1

theorem Device.Stored.gatesSwitched {d0 : Device} {old slot} (h : d0.Stored) : (d0.gatesSwitched old slot).Stored :=
  .cellCheck (.report (h.foldl fun _ _ h1 => h1.setNum.setEgress.foldl fun _ _ h2 => h2.foldl fun _ _ h3 => h3.setQueue.egressDrop))

theorem Device.Stored.hallSleep {d0 : Device} (h : d0.Stored) : (d0.hallSleep).Stored :=
  .cellCheck (.frame (h.foldl fun _ _ h1 => h1.foldl fun _ _ h2 => h2.foldl fun _ _ h3 => h3.setQueue.egressDrop))

theorem Device.Stored.flushFdb (h : d.Stored) : (d.flushFdb).Stored := .frame h

/-! ## PTP: what both halves use -/

theorem Device.Stored.setInst {n f} (h : d.Stored) : (d.setInst n f).Stored := .frame h

theorem Device.Stored.setPtpPort {n p f} (h : d.Stored) : (d.setPtpPort n p f).Stored := h.setInst

theorem Device.Stored.setPtpState {n p st} (h : d.Stored) : (d.setPtpState n p st).Stored := .ite h h.setOct.report

end

end Sys2Proof.Machine
end

section
/-! What each operation keeps of the form of the stores: time service, bignum engine, ledger, keys and recorder. -/

namespace Sys2Proof.Machine

section
variable {d : Device}

/-! ## Parlour -/

theorem Device.Stored.setParl {f} (h : d.Stored) : (d.setParl f).Stored := .frame h

theorem Device.Stored.toIp0 {q} (h : d.Stored) : (d.toIp0 q).Stored := by
  unfold Device.toIp0
  dsimp only
  split
  · refine .ite h.wrap ?_
    split
    · split
      · exact .ite h.bump h.setParl
      · exact h.bump
    · exact h.setParl
  · exact .ite h.bump (.ite h.wrap h.setParl)
  · exact h.bump

theorem Device.Stored.setRing {g f} (h : d.Stored) : (d.setRing g f).Stored := h.setParl

theorem Device.Stored.touchClient {g p a} (h : d.Stored) : (d.touchClient g p a).2.Stored := by
  unfold Device.touchClient
  dsimp only
  split
  · exact h.setParl
  · refine .ite_snd h.setParl ?_
    split
    · exact .ite_snd h.setParl h
    · exact h

theorem Device.Stored.noteUntracked (h : d.Stored) : (d.noteUntracked).Stored := .ite h h.setParl.report

theorem Device.Stored.ringApplied {g old} (h : d.Stored) : (d.ringApplied g old).Stored := .ite h.setRing.setParl h.setRing

theorem Device.Stored.rollSecond (h : d.Stored) : (d.rollSecond).Stored := h.setParl

theorem Device.Stored.reserve {p s f} (h : d.Stored) : (d.reserve p s f).Stored := h.setParl

theorem Device.Stored.cookie {c2s s2c} (h : d.Stored) : (d.cookie c2s s2c).2.Stored := h.drawBytes

theorem Device.Stored.cookies {c2s s2c n} (h : d.Stored) : (d.cookies c2s s2c n).2.Stored := by
  induction n generalizing d with
  | zero => exact h
  | succ n ih =>
    have h1 : (d.cookie c2s s2c).2.Stored := h.cookie
    exact ih h1

theorem Device.Stored.ntsExt {hdr uid c2s s2c n} (h : d.Stored) : (d.ntsExt hdr uid c2s s2c n).2.Stored := h.cookies.drawBytes

theorem Device.Stored.takeTokens {a} (h : d.Stored) : (d.takeTokens a).Stored := by
  unfold Device.takeTokens
  dsimp only
  refine .ite h.setRing ?_
  split
  · exact h.setRing.setParl
  · exact h.setRing.setRing

theorem Device.Stored.countAdmit {g} (h : d.Stored) : (d.countAdmit g).Stored := h.bump64.rollSecond.setParl.setNum

theorem Device.Stored.refuse {q cls g reason} (h : d.Stored) : (d.refuse q cls g reason).Stored :=
  have h1 := h.bump64.bump.rollSecond.setParl
  .ite h1.reportOnce (.ite h1.reportOnce.bump h1.reportOnce.setRing.ipSend)

theorem Device.Stored.ntsFrame {q id s} (h : d.Stored) : (d.ntsFrame q id s).2.Stored := by
  unfold Device.ntsFrame
  dsimp only
  split
  · dsimp only
    exact h.ntsExt
  · exact h.bump.reportOnce.ipSend
  · exact h.bump

theorem Device.Stored.admitPlain {q a} (h : d.Stored) : (d.admitPlain q a).Stored := by
  unfold Device.admitPlain
  dsimp only
  refine .ite h.refuse ?_
  split
  · exact h.refuse
  · refine .ite h.refuse ?_
    refine .ite ?_ h.takeTokens.setParl.countAdmit.reserve
    split
    · rename_i he
      have h1 := Device.Stored.of_snd h.takeTokens.setParl.countAdmit.ntsFrame he
      exact h1.reserve
    · rename_i he
      have h2 := Device.Stored.of_snd h.takeTokens.setParl.countAdmit.ntsFrame he
      exact h2.setParl

theorem Device.Stored.parlLinkLost {p} (h : d.Stored) : (d.parlLinkLost p).Stored := .setParl (h.foldl fun _ _ h1 => h1.bump)

theorem Device.Stored.entryLost {id} (h : d.Stored) : (d.entryLost id).Stored := by
  unfold Device.entryLost
  dsimp only
  split
  · exact h
  · exact h.bump.setParl.report

theorem Device.Stored.flightDone {f word t16 steps} (h : d.Stored) : (d.flightDone f word t16 steps).Stored :=
  .ite h.setParl.bump (.ite h.setParl (have h1 := h.setParl.setNum.setNum; .ite h1.bumpBy.bump64.bump.report h1.bumpBy.bump64.setOct))

theorem Device.Stored.clearRing {g} (h : d.Stored) : (d.clearRing g).Stored := h.setNums.setOct

theorem Device.Stored.ntskeFail {alert} (h : d.Stored) : (d.ntskeFail alert).Stored := h.bump.reportOnce

theorem Device.Stored.keAnswer {c} (h : d.Stored) : (d.keAnswer c).2.2.Stored := by
  unfold Device.keAnswer
  dsimp only
  split
  · exact h
  · exact .ite_trd h (.ite_trd h (.ite_trd h (.ite_trd h h.cookies)))

theorem Device.Stored.ntskeRun {c open_} (h : d.Stored) : (d.ntskeRun c open_).Stored := by
  unfold Device.ntskeRun
  dsimp only
  refine .ite h ?_
  refine .ite h.ntskeFail ?_
  refine .ite h.setParl ?_
  split
  · exact h.emit.ntskeFail
  · exact .ite h.keAnswer.emit.bump h.keAnswer.emit.ntskeFail

theorem Device.Stored.ntskeClose (h : d.Stored) : (d.ntskeClose).Stored := .frame h

theorem Device.Stored.ntskeExpire (h : d.Stored) : (d.ntskeExpire).Stored := by
  unfold Device.ntskeExpire
  dsimp only
  split
  · exact h
  · exact .ntskeFail (.frame h.runTo)

/-! ## Strongroom -/

theorem Device.Stored.setStrong {f} (h : d.Stored) : (d.setStrong f).Stored := .frame h

theorem Device.Stored.putSlot {i b} (h : d.Stored) : (d.putSlot i b).Stored := h.setOct

theorem Device.Stored.drawNonce {c} (h : d.Stored) : (d.drawNonce c).2.Stored := h.drawBytes

theorem Device.Stored.compute {j} (h : d.Stored) : (d.compute j).2.2.Stored := by
  unfold Device.compute
  refine .ite_trd h ?_
  refine .ite_trd h ?_
  refine .ite_trd h ?_
  exact .ite_trd h.drawNonce (.ite_trd h (.ite_trd h (.ite_trd h (.ite_trd h (.ite_trd h (.ite_trd h (.ite_trd h h)))))))

theorem Device.Stored.setLane {l f} (h : d.Stored) : (d.setLane l f).Stored := h.setStrong

theorem Device.Stored.putLane {l st} (h : d.Stored) : (d.putLane l st).Stored := h.setOct.setNum.setLane

theorem Device.Stored.noteLoss {d0 : Device} (h : d.Stored) : (d.noteLoss d0).Stored := h.foldl fun _ _ h1 => h1.report

theorem Device.Stored.laneTo {l st cause} (h : d.Stored) : (d.laneTo l st cause).Stored := h.putLane.report.noteLoss

theorem Device.Stored.laneFollow {l} (h : d.Stored) : (d.laneFollow l).Stored := .ite h h.putLane

theorem Device.Stored.setJob {id f} (h : d.Stored) : (d.setJob id f).Stored := h.setStrong

theorem Device.Stored.jobTo {id st} (h : d.Stored) : (d.jobTo id st).Stored := by
  unfold Device.jobTo
  dsimp only
  split
  · exact h
  · exact .ite h.setJob.setNum h.setJob

theorem Device.Stored.queueJob {j} (h : d.Stored) : (d.queueJob j).Stored := h.setStrong.setNum.setNum

theorem Device.Stored.writeJobSubmit {b} (h : d.Stored) : (d.writeJobSubmit b).2.Stored :=
  .ite_snd h (.ite_snd h (.ite_snd h h.queueJob.setNums))

theorem Device.Stored.zeroOuts {j} (h : d.Stored) : (d.zeroOuts j).Stored := .ite (h.foldl fun _ _ h1 => h1.putSlot) h

theorem Device.Stored.resumeTop {l} (h : d.Stored) : (d.resumeTop l).Stored := by
  unfold Device.resumeTop
  split
  · exact h.laneFollow
  · refine .laneFollow ?_
    split
    · exact .ite h.jobTo.setJob h
    · exact h

theorem Device.Stored.endJob {id result} (h : d.Stored) : (d.endJob id result).Stored := by
  unfold Device.endJob
  dsimp only
  split
  · exact h
  · split
    · refine .ite ?_ ?_
      · refine .setNum ?_
        refine .setStrong ?_
        refine .ite ?_ ?_
        · refine .report ?_
          refine .ite ?_ ?_
          · refine .setNums ?_
            refine .ite (.bump64 (.ite h.zeroOuts h)) ?_
            exact .ite (.bump (.ite h.zeroOuts h)) (.ite (.bump (.ite h.zeroOuts h)) (.ite h.zeroOuts h))
          · refine .ite (.bump64 (.ite h.zeroOuts h)) ?_
            exact .ite (.bump (.ite h.zeroOuts h)) (.ite (.bump (.ite h.zeroOuts h)) (.ite h.zeroOuts h))
        · refine .ite ?_ ?_
          · refine .setNums ?_
            refine .ite (.bump64 (.ite h.zeroOuts h)) ?_
            exact .ite (.bump (.ite h.zeroOuts h)) (.ite (.bump (.ite h.zeroOuts h)) (.ite h.zeroOuts h))
          · refine .ite (.bump64 (.ite h.zeroOuts h)) ?_
            exact .ite (.bump (.ite h.zeroOuts h)) (.ite (.bump (.ite h.zeroOuts h)) (.ite h.zeroOuts h))
      · refine .resumeTop ?_
        refine .setLane ?_
        refine .setNum ?_
        refine .setStrong ?_
        refine .ite ?_ ?_
        · refine .report ?_
          refine .ite ?_ ?_
          · refine .setNums ?_
            refine .ite (.bump64 (.ite h.zeroOuts h)) ?_
            exact .ite (.bump (.ite h.zeroOuts h)) (.ite (.bump (.ite h.zeroOuts h)) (.ite h.zeroOuts h))
          · refine .ite (.bump64 (.ite h.zeroOuts h)) ?_
            exact .ite (.bump (.ite h.zeroOuts h)) (.ite (.bump (.ite h.zeroOuts h)) (.ite h.zeroOuts h))
        · refine .ite ?_ ?_
          · refine .setNums ?_
            refine .ite (.bump64 (.ite h.zeroOuts h)) ?_
            exact .ite (.bump (.ite h.zeroOuts h)) (.ite (.bump (.ite h.zeroOuts h)) (.ite h.zeroOuts h))
          · refine .ite (.bump64 (.ite h.zeroOuts h)) ?_
            exact .ite (.bump (.ite h.zeroOuts h)) (.ite (.bump (.ite h.zeroOuts h)) (.ite h.zeroOuts h))
    · refine .setNum ?_
      refine .setStrong ?_
      refine .ite ?_ ?_
      · refine .report ?_
        refine .ite ?_ ?_
        · refine .setNums ?_
          refine .ite (.bump64 (.ite h.zeroOuts h)) ?_
          exact .ite (.bump (.ite h.zeroOuts h)) (.ite (.bump (.ite h.zeroOuts h)) (.ite h.zeroOuts h))
        · refine .ite (.bump64 (.ite h.zeroOuts h)) ?_
          exact .ite (.bump (.ite h.zeroOuts h)) (.ite (.bump (.ite h.zeroOuts h)) (.ite h.zeroOuts h))
      · refine .ite ?_ ?_
        · refine .setNums ?_
          refine .ite (.bump64 (.ite h.zeroOuts h)) ?_
          exact .ite (.bump (.ite h.zeroOuts h)) (.ite (.bump (.ite h.zeroOuts h)) (.ite h.zeroOuts h))
        · refine .ite (.bump64 (.ite h.zeroOuts h)) ?_
          exact .ite (.bump (.ite h.zeroOuts h)) (.ite (.bump (.ite h.zeroOuts h)) (.ite h.zeroOuts h))

theorem Device.Stored.dropCheck {id} (h : d.Stored) : (d.dropCheck id).Stored := by
  unfold Device.dropCheck
  dsimp only
  split
  · exact h
  · split
    · exact h.setStrong.setLane.resumeTop
    · exact h.setStrong

theorem Device.Stored.writeJobAbort (h : d.Stored) : (d.writeJobAbort).2.Stored := by
  unfold Device.writeJobAbort
  split
  · exact h
  · exact h.dropCheck.endJob

theorem Device.Stored.startJob {l j wait} (h : d.Stored) : (d.startJob l j wait).Stored :=
  have h1 := h.setJob.jobTo.setLane.putLane
  .ite h1.setNum.setNum h1.setNum

theorem Device.Stored.dispatch (h : d.Stored) : (d.dispatch).Stored := by
  unfold Device.dispatch
  split
  · exact h
  · split
    · exact h.startJob
    · exact h

theorem Device.Stored.yieldTop {l} (h : d.Stored) : (d.yieldTop l).Stored := by
  unfold Device.yieldTop
  split
  · exact h.jobTo.setJob
  · exact h

theorem Device.Stored.checkEnd {d0 : Device} {l ecc} (h : d0.Stored) : (d0.checkEnd l ecc).Stored := by
  unfold Device.checkEnd
  dsimp only
  split
  · exact h
  · split
    · exact h
    · refine .ite h ?_
      split
      · exact .endJob (.report (.ite h.runTo.putSlot h.runTo))
      · refine .ite h.runTo.setStrong.reportOnce.endJob ?_
        exact
          have h1 := Device.Stored.ite h.runTo.drawBytes h.runTo
          .ite h1.endJob (.ite h1.endJob (.ite h1.endJob h1.jobTo.setJob))

theorem Device.Stored.setLedger {f} (h : d.Stored) : (d.setLedger f).Stored := .frame h

theorem Device.Stored.setBatch {id f} (h : d.Stored) : (d.setBatch id f).Stored := h.setLedger

theorem Device.Stored.makeWay {d0 : Device} {l ecc} (h : d0.Stored) : (d0.makeWay l ecc).Stored := by
  unfold Device.makeWay
  dsimp only
  split
  · exact .ite h.checkEnd h
  · split
    · exact .elapse (.yieldTop (.elapse (.ite h.checkEnd h)))
    · exact .endJob (.foldl (.compute (.runTo (.ite h.checkEnd h))) fun _ _ h1 => h1.putSlot)

theorem Device.Stored.startBooked {l ecc} (h : d.Stored) : (d.startBooked l ecc).Stored := h.makeWay.setLane.putLane

theorem Device.Stored.bookedStart {t ecc} (h : d.Stored) : (d.bookedStart t ecc).Stored := by
  unfold Device.bookedStart
  split
  · exact h
  · split
    · exact h
    · exact .ite h.runTo.startBooked.setBatch h

theorem Device.Stored.lanesOn (h : d.Stored) : (d.lanesOn).Stored :=
  .foldl (h.foldl fun _ _ h1 => .ite h1.laneTo.setLane h1) fun _ _ h2 => h2.putSlot

theorem Device.Stored.lanesOff (h : d.Stored) : (d.lanesOff).Stored := .setNum (.setStrong (h.foldl fun _ _ h1 => .ite h1 h1.laneTo))

theorem Device.Stored.abortLow (h : d.Stored) : (d.abortLow).Stored := h.foldl fun _ _ h1 => h1.dropCheck.endJob

theorem Device.Stored.writeLaneRestore {l} (h : d.Stored) : (d.writeLaneRestore l).2.Stored := .ite_snd h h.laneTo.setLane

theorem Device.Stored.writeSlotLayout {b} (h : d.Stored) : (d.writeSlotLayout b).2.Stored :=
  .ite_snd h (.ite_snd h (h.setOct.foldl fun _ _ h1 => h1.putSlot))

theorem Device.Stored.writeSlotData {s b} (h : d.Stored) : (d.writeSlotData s b).2.Stored := .ite_snd h (.ite_snd h h.setOct)

theorem Device.Stored.jobDispatch (h : d.Stored) : (d.jobDispatch).Stored := h.bookedStart.dispatch

theorem Device.Stored.jobCheckEnd {l ecc} (h : d.Stored) : (d.jobCheckEnd l ecc).Stored := by
  unfold Device.jobCheckEnd
  split
  · exact .ite (.checkEnd (.ite h.bookedStart h)) h
  · exact h

/-! ## Recorder -/

theorem Device.Stored.setAttic {f} (h : d.Stored) : (d.setAttic f).Stored := .frame h

theorem Device.Stored.setStudy {f} (h : d.Stored) : (d.setStudy f).Stored := .frame h

theorem Device.Stored.setMail {n f} (h : d.Stored) : (d.setMail n f).Stored := h.setStudy.setNums.setNum

theorem Device.Stored.mailRefused {n} (h : d.Stored) : (d.mailRefused n).Stored := h.bump.reportOnce

theorem Device.Stored.sendOwner {n kind pay} (h : d.Stored) : (d.sendOwner n kind pay).2.Stored := .ite_snd h.mailRefused h.setMail

theorem Device.Stored.writeMbSend {n b} (h : d.Stored) : (d.writeMbSend n b).2.Stored := .ite_snd h (.ite_snd h.mailRefused h.setMail)

theorem Device.Stored.readMbRecv {n} (h : d.Stored) : (d.readMbRecv n).2.Stored := by
  unfold Device.readMbRecv
  split
  · exact h
  · exact h.setMail

theorem Device.Stored.mb8Service (h : d.Stored) : (d.mb8Service).Stored := by
  unfold Device.mb8Service
  dsimp only
  refine .ite h ?_
  split
  · exact .ite h.sendOwner.setStudy h
  · split
    · exact h
    · exact .ite h.setMail.sendOwner h.setMail.sendOwner.setStudy

theorem Device.Stored.notice {code seq} (h : d.Stored) : (d.notice code seq).Stored := .ite h (.ite h.sendOwner h.sendOwner.bump)

theorem Device.Stored.atticFollow (h : d.Stored) : (d.atticFollow).Stored := h.setNums

theorem Device.Stored.noteFull (h : d.Stored) : (d.noteFull).Stored := .ite h h.report.setAttic

theorem Device.Stored.holdRecord {b} (h : d.Stored) : (d.holdRecord b).Stored := h.setAttic

theorem Device.Stored.formRecord (h : d.Stored) : (d.formRecord).Stored := by
  unfold Device.formRecord
  dsimp only
  split
  · exact h
  · refine .ite h.setAttic.bump ?_
    refine .ite h.setAttic.bump.setAttic ?_
    exact .ite h.setAttic.bump.setAttic (have h1 := h.setAttic.holdRecord.atticFollow; .notice (.ite (.frame h1) h1))

theorem Device.Stored.formBase (h : d.Stored) : (d.formBase).Stored := h.foldl fun _ _ h1 => .ite h1.formRecord h1

/-! ## Ledger -/

theorem Device.Stored.newSeqBase {cause} (h : d.Stored) : (d.newSeqBase cause).Stored := h.report.setLedger

theorem Device.Stored.openBatch (h : d.Stored) : (d.openBatch).Stored := .setLedger (.setOct (.setNums (.ite h h.report)))

theorem Device.Stored.firstBatch {d0 : Device} (h : d0.Stored) : (d0.firstBatch).Stored := .ite h h.runToMt.setLedger.openBatch

theorem Device.Stored.batchEnd {d0 : Device} (h : d0.Stored) : (d0.batchEnd).Stored := by
  unfold Device.batchEnd
  dsimp only
  split
  · exact h
  · exact have h1 := Device.Stored.ite h.runTo.setLedger h.runTo.setBatch.setNum; .ite h1 h1.openBatch

theorem Device.Stored.ledgerRefuse {q g cause} (h : d.Stored) : (d.ledgerRefuse q g cause).Stored := h.bump.reportOnce.refuse

theorem Device.Stored.admitLedger {d00 : Device} {q a} (h : d00.Stored) : (d00.admitLedger q a).Stored := by
  unfold Device.admitLedger
  dsimp only
  split
  · exact h.setLedger.ledgerRefuse
  · refine .ite (.ledgerRefuse (.ite h.setLedger h.setLedger.setBatch)) ?_
    refine .ite (.refuse (.ite h.setLedger h.setLedger.setBatch)) ?_
    split
    · exact .refuse (.ite h.setLedger h.setLedger.setBatch)
    · refine .ite (.refuse (.ite h.setLedger h.setLedger.setBatch)) ?_
      exact
        have h1 := Device.Stored.setParl (.setLedger (.takeTokens (.ite h.setLedger h.setLedger.setBatch)))
        .countAdmit (.ite h1.setLedger h1.setBatch)

theorem Device.Stored.batchDone {id} (h : d.Stored) : (d.batchDone id).Stored := by
  unfold Device.batchDone
  dsimp only
  split
  · exact h
  · exact .ite h (.ite h.setLedger h.setLedger.bump64.bumpBy)

theorem Device.Stored.leafGone {id idx} (h : d.Stored) : (d.leafGone id idx).Stored := h.setBatch.batchDone

theorem Device.Stored.unbook {l} (h : d.Stored) : (d.unbook l).Stored := h.setLane.resumeTop

theorem Device.Stored.failBatch {b cause} (h : d.Stored) : (d.failBatch b cause).Stored :=
  .batchDone (.report (.bump (.ite (.ite h.setBatch.setNum.unbook h.setBatch.setNum.unbook) h.setBatch.setNum)))

theorem Device.Stored.ledgerLaneLost {l} (h : d.Stored) : (d.ledgerLaneLost l).Stored := by
  unfold Device.ledgerLaneLost
  dsimp only
  refine h.foldl fun _ _ h1 => ?_
  split
  · exact h1
  · refine .ite h1 ?_
    refine .ite h1.failBatch ?_
    split
    · exact .ite h1.setBatch (.ite h1.setBatch h1.failBatch)
    · exact .ite h1.setBatch h1.failBatch

theorem Device.Stored.quarantine {d0 : Device} {l cause} (h : d0.Stored) : (d0.quarantine l cause).Stored := by
  unfold Device.quarantine
  dsimp only
  refine .ite h ?_
  refine .ledgerLaneLost ?_
  refine .setLane ?_
  refine h.bookedStart.laneTo.setLane.foldl fun _ _ h1 => ?_
  split
  · exact h1.setStrong.endJob
  · exact h1.dropCheck.endJob

theorem Device.Stored.blame {signer v prio third} (h : d.Stored) : (d.blame signer v prio third).Stored := by
  unfold Device.blame
  dsimp only
  split
  · exact .ite h.bump.report.quarantine h.bump.report.quarantine
  · exact h.bump.report.quarantine.quarantine

theorem Device.Stored.rootComplete {d0 : Device} {wait} (h : d0.Stored) : (d0.rootComplete wait).Stored := by
  unfold Device.rootComplete
  dsimp only
  split
  · exact h
  · refine .ite h ?_
    exact
      have h1 := Device.Stored.setBatch (.setLedger (.formBase (.ite h.runTo h.runTo.newSeqBase)))
      .ite h1.failBatch h1.setNum

theorem Device.Stored.ledgerSign {b} (h : d.Stored) : (d.ledgerSign b).2.Stored := .ite_snd h h.drawNonce

theorem Device.Stored.signComplete {d00 : Device} {wait} (h : d00.Stored) : (d00.signComplete wait).Stored := by
  unfold Device.signComplete
  dsimp only
  split
  · exact h
  · split
    · refine .ite h.runTo.failBatch ?_
      refine .ite h.runTo.failBatch ?_
      exact
        have h1 := h.runTo.bookedStart
        .ite h1.runTo.failBatch (.ite h1.runTo.failBatch h1.runTo.ledgerSign.unbook.setBatch.startBooked.bump64.setNum)
    · exact h

theorem Device.Stored.rootNotice {b} (h : d.Stored) : (d.rootNotice b).Stored := .ite h h.ipSend

theorem Device.Stored.verifyComplete {d0 : Device} {wait sound third} (h : d0.Stored) : (d0.verifyComplete wait sound third).Stored := by
  unfold Device.verifyComplete
  dsimp only
  split
  · exact h
  · split
    · refine .ite h.runTo.failBatch ?_
      refine .ite h.runTo.unbook.setBatch.failBatch.blame ?_
      exact h.runTo.unbook.setBatch.setNums.setOct.setOct.bump64.rootNotice.batchDone
    · exact h

theorem Device.Stored.bookedTimeout (h : d.Stored) : (d.bookedTimeout).Stored := by
  unfold Device.bookedTimeout
  split
  · exact h
  · exact .ite h h.runTo.failBatch

theorem Device.Stored.ledgerLinkLost {p} (h : d.Stored) : (d.ledgerLinkLost p).Stored :=
  .setLedger (.foldl (h.foldl fun _ _ h1 => h1.foldl fun _ _ h2 => .ite h2.bump.leafGone h2) fun _ _ h3 => .ite h3.bump h3)

theorem Device.Stored.leafDone {id idx word t16 steps} (h : d.Stored) : (d.leafDone id idx word t16 steps).Stored := by
  unfold Device.leafDone
  dsimp only
  split
  · exact h
  · exact h.flightDone.leafGone

theorem Device.Stored.noticeSent {id} (h : d.Stored) : (d.noticeSent id).Stored := .ite h.bump64 h

theorem Device.Stored.sendToVerify {j l} (h : d.Stored) : (d.sendToVerify j l).Stored := by
  unfold Device.sendToVerify
  dsimp only
  split
  · exact h.endJob
  · exact h.jobTo.setLane.queueJob.resumeTop

theorem Device.Stored.jobComplete {d00 : Device} {l wait sound third} (h : d00.Stored) : (d00.jobComplete l wait sound third).Stored := by
  unfold Device.jobComplete
  dsimp only
  split
  · exact h
  · refine .ite h ?_
    refine .ite (.ite h.bookedStart h) ?_
    split
    · split
      · exact .resumeTop (.setLane (.setStrong (.runTo (.ite h.bookedStart h))))
      · refine .ite ?_ ?_
        · refine .endJob ?_
          exact .foldl (.resumeTop (.setLane (.setStrong (.runTo (.ite h.bookedStart h))))) fun _ _ h1 => h1.putSlot
        · exact .blame (.endJob (.resumeTop (.setLane (.setStrong (.runTo (.ite h.bookedStart h))))))
    · refine .ite ?_ ?_
      · exact .sendToVerify (.setJob (.compute (.runTo (.ite h.bookedStart h))))
      · exact .endJob (.foldl (.compute (.runTo (.ite h.bookedStart h))) fun _ _ h2 => h2.putSlot)
    · exact .endJob (.runTo (.ite h.bookedStart h))
    · exact .sendToVerify (.runTo (.ite h.bookedStart h))

theorem Device.Stored.jobYield {d0 : Device} {l wait mem} (h : d0.Stored) : (d0.jobYield l wait mem).Stored := by
  unfold Device.jobYield
  dsimp only
  refine .ite (.ite h.quarantine h) ?_
  split
  · exact h
  · refine .ite h ?_
    refine .ite (.ite h.bookedStart h) ?_
    split
    · exact .ite h.bookedStart h
    · exact .startJob (.yieldTop (.elapse (.ite h.bookedStart h)))

theorem Device.Stored.selfTestEnd {d0 : Device} {l wait pass} (h : d0.Stored) : (d0.selfTestEnd l wait pass).Stored :=
  .ite h (.ite h.runTo.laneTo h.runTo.laneTo)

/-! ## Keyhole -/

theorem Device.Stored.setKeyhole {f} (h : d.Stored) : (d.setKeyhole f).Stored := .frame h

theorem Device.Stored.entropyFailed {kind} (h : d.Stored) : (d.entropyFailed kind).Stored := h.bump.setNum.setKeyhole.reportOnce

theorem Device.Stored.freshNonce (h : d.Stored) : (d.freshNonce).Stored := .ite h h.drawBytes.setOct

theorem Device.Stored.entropyRetest {d0 : Device} {pass} (h : d0.Stored) : (d0.entropyRetest pass).Stored := by
  unfold Device.entropyRetest
  dsimp only
  split
  · exact h
  · exact .ite h.runTo.entropyFailed (have h1 := h.runTo.setNum.setKeyhole; .ite h1.freshNonce h1)

theorem Device.Stored.reseed (h : d.Stored) : (d.reseed).Stored := h.bump.setKeyhole

theorem Device.Stored.reseedDue (h : d.Stored) : (d.reseedDue).Stored := .ite h (.ite h.reseed h.runTo.reseed)

theorem Device.Stored.keysFollow {d0 : Device} (h : d.Stored) : (d.keysFollow d0).Stored := .noteLoss (h.foldl fun _ _ h1 => h1.failBatch)

theorem Device.Stored.setSlot {k st typ use id pub} (h : d.Stored) : (d.setSlot k st typ use id pub).Stored := h.setNums.setOct.keysFollow

theorem Device.Stored.setKey {k b} (h : d.Stored) : (d.setKey k b).Stored := h.setKeyhole

theorem Device.Stored.writeStore (h : d.Stored) : (d.writeStore).Stored := h.setNum.setKeyhole

theorem Device.Stored.takeKeyId (h : d.Stored) : (d.takeKeyId).2.Stored := h.setKeyhole

theorem Device.Stored.followLock {d0 : Device} (h : d0.Stored) : (d0.followLock).Stored :=
  .keysFollow (h.foldl fun _ _ h1 => .ite (.ite h1.setNum h1) (.ite h1.setNum h1))

theorem Device.Stored.drawScalar {c} (h : d.Stored) : (d.drawScalar c).2.Stored := h.drawNonce

theorem Device.Stored.drawKey {typ} (h : d.Stored) : (d.drawKey typ).2.Stored :=
  .ite_snd h.drawScalar (.ite_snd h.drawScalar (.ite_snd h.drawBytes h.drawBytes))

theorem Device.Stored.writeProvision (h : d.Stored) : (d.writeProvision).2.Stored :=
  .ite_snd h h.setKeyhole.reseed.drawScalar.reseed.drawBytes.setKey.setKey.setSlot.setSlot.queueJob

theorem Device.Stored.provisioned {src} (h : d.Stored) : (d.provisioned src).Stored :=
  .writeStore (h.takeKeyId.takeKeyId.setSlot.setSlot.setOct.causedBy fun _ h1 => h1.report.report)

theorem Device.Stored.writeOwnerPub {b} (h : d.Stored) : (d.writeOwnerPub b).2.Stored := .ite_snd h (.ite_snd h h.setOct.setKeyhole)

theorem Device.Stored.writeOwnerKey {b session} (h : d.Stored) : (d.writeOwnerKey b session).2.Stored := by
  unfold Device.writeOwnerKey
  dsimp only
  refine .ite_snd h ?_
  refine .ite_snd h ?_
  split
  · exact h
  · split
    · exact h.bump.report
    · exact have h1 := h.takeKeyId.setKey.setSlot.setKeyhole; .writeStore (.ite h1.report h1)

theorem Device.Stored.writeProvCommit (h : d.Stored) : (d.writeProvCommit).2.Stored :=
  .ite_snd h (have h1 := h.setKeyhole.setNum.report; .ite h1 h1.writeStore)

theorem Device.Stored.writeOwnerXfer {b} (h : d.Stored) : (d.writeOwnerXfer b).2.Stored :=
  .ite_snd h (.ite_snd h h.setOct.setOct.report.writeStore)

theorem Device.Stored.writeKeygen {b} (h : d.Stored) : (d.writeKeygen b).2.Stored :=
  .ite_snd h (.ite_snd h h.reseed.drawKey.setKey.setSlot.setOct.queueJob)

theorem Device.Stored.keygenComplete {slot} (h : d.Stored) : (d.keygenComplete slot).Stored := by
  unfold Device.keygenComplete
  dsimp only
  split
  · exact h
  · refine .ite ?_ ?_
    · exact have h1 := h.setStrong.setKey.setSlot; .ite h1.setKey.setSlot h1
    · exact .ite h.setStrong.provisioned (.writeStore (h.setStrong.takeKeyId.setSlot.causedBy fun _ h2 => h2.report))

theorem Device.Stored.dropKeygen {slot} (h : d.Stored) : (d.dropKeygen slot).Stored := .setStrong (h.foldl fun _ _ h1 => h1.endJob)

theorem Device.Stored.writeKeyDestroy {slot} (h : d.Stored) : (d.writeKeyDestroy slot).2.Stored :=
  .ite_snd h (.ite_snd h.setNum h.setNum.dropKeygen.setKey.setSlot.report.writeStore)

theorem Device.Stored.rotateNts (h : d.Stored) : (d.rotateNts).Stored := by
  unfold Device.rotateNts
  dsimp only
  exact h.reseed.drawBytes.takeKeyId.setKey.setSlot.setKey.setSlot.setKeyhole.report.writeStore

theorem Device.Stored.writeRotate (h : d.Stored) : (d.writeRotate).2.Stored := .ite_snd h.rotateNts h

theorem Device.Stored.rotateDue {d0 : Device} (h : d0.Stored) : (d0.rotateDue).Stored := .ite h h.runTo.rotateNts

theorem Device.Stored.fuseCount (h : d.Stored) : (d.fuseCount).Stored := h.setOct

theorem Device.Stored.writeRollback (h : d.Stored) : (d.writeRollback).2.Stored := .ite_snd h h.setKeyhole.fuseCount.report

theorem Device.Stored.writeCosign (h : d.Stored) : (d.writeCosign).2.Stored := h.setKeyhole

theorem Device.Stored.setTamper {i} (h : d.Stored) : (d.setTamper i).Stored :=
  .ite h (.followLock (.ite (.frame h.setNum.report) h.setNum.report))

theorem Device.Stored.tamperInput {d0 : Device} {i} (h : d0.Stored) : (d0.tamperInput i).Stored := .ite h.elapse.setTamper h.elapse

theorem Device.Stored.writeTamperClear (h : d.Stored) : (d.writeTamperClear).2.Stored := h.report.setNum.followLock

theorem Device.Stored.writeAttestReq {b} (h : d.Stored) : (d.writeAttestReq b).2.Stored :=
  .ite_snd h (.ite_snd h (.ite_snd h.setNum.report (.ite_snd h.setNum.report.setOct h.setOct.setNum.setKeyhole.queueJob)))

theorem Device.Stored.attestComplete (h : d.Stored) : (d.attestComplete).Stored := by
  unfold Device.attestComplete
  dsimp only
  split
  · exact
      have h1 := h.setStrong.setKeyhole
      .ite (h1.setNum.causedBy fun _ h2 => h2.report) (h1.drawNonce.setOct.setNum.causedBy fun _ h3 => h3.report)
  · exact h

/-! ## Attic -/

theorem Device.Stored.setFlashState {st} (h : d.Stored) : (d.setFlashState st).Stored := by
  unfold Device.setFlashState
  dsimp only
  refine .ite h ?_
  refine .ite h.setNum.report ?_
  refine .atticFollow ?_
  refine .noteFull ?_
  split
  · exact h.setNum.report.setAttic.report
  · exact h.setNum.report.setAttic

theorem Device.Stored.badSector {s how} (h : d.Stored) : (d.badSector s how).Stored := h.setAttic.setNum.report.setFlashState

theorem Device.Stored.eraseAfter {s} (h : d.Stored) : (d.eraseAfter s).Stored := h.setAttic

theorem Device.Stored.flashWrite {d0 : Device} {outcome} (h : d0.Stored) : (d0.flashWrite outcome).Stored := by
  unfold Device.flashWrite
  dsimp only
  split
  · exact h
  · refine .ite h ?_
    refine .ite h.setFlashState ?_
    exact
      have h1 := Device.Stored.ite (.eraseAfter (.ite h.badSector h)) (.ite h.badSector h)
      .ite h1 (.ite h1.badSector.setAttic.atticFollow h1.setAttic.noteFull.atticFollow)

theorem Device.Stored.atticWake (h : d.Stored) : (d.atticWake).Stored :=
  .atticFollow (.ite (.ite h h.setAttic) (.setAttic (.report (.ite h h.setAttic))))

theorem Device.Stored.writeAtticSnap (h : d.Stored) : (d.writeAtticSnap).2.Stored := h.setNums

theorem Device.Stored.clearTried {k st b} (h : d.Stored) : (d.clearTried k st b).Stored := .ite h.freshNonce.report h

theorem Device.Stored.writeAtticClear {b} (h : d.Stored) : (d.writeAtticClear b).2.Stored :=
  .ite_snd h.freshNonce.setNum.setOct.setAttic h.freshNonce.report

theorem Device.Stored.clearComplete (h : d.Stored) : (d.clearComplete).Stored := by
  unfold Device.clearComplete
  dsimp only
  split
  · exact h
  · exact .atticFollow (.noteFull (h.setAttic.setNum.causedBy fun _ h1 => h1.report))

theorem Device.Stored.scanBad (h : d.Stored) : (d.scanBad).Stored := .ite h h.setNum.setFlashState

theorem Device.Stored.atticStart {cold} (h : d.Stored) : (d.atticStart cold).Stored := by
  unfold Device.atticStart
  dsimp only
  refine .atticFollow ?_
  refine .scanBad ?_
  refine .ite ?_ ?_
  · refine .setNum ?_
    split
    · refine .setAttic ?_
      refine .report ?_
      refine .ite ?_ ?_
      · split
        · refine .report ?_
          refine .setAttic ?_
          refine .ite h ?_
          split
          · exact h.setAttic.setNums
          · exact h.setAttic
        · refine .setAttic ?_
          refine .ite h ?_
          split
          · exact h.setAttic.setNums
          · exact h.setAttic
      · refine .report ?_
        split
        · refine .report ?_
          refine .setAttic ?_
          refine .ite h ?_
          split
          · exact h.setAttic.setNums
          · exact h.setAttic
        · refine .setAttic ?_
          refine .ite h ?_
          split
          · exact h.setAttic.setNums
          · exact h.setAttic
    · refine .ite ?_ ?_
      · split
        · refine .report ?_
          refine .setAttic ?_
          refine .ite h ?_
          split
          · exact h.setAttic.setNums
          · exact h.setAttic
        · refine .setAttic ?_
          refine .ite h ?_
          split
          · exact h.setAttic.setNums
          · exact h.setAttic
      · refine .report ?_
        split
        · refine .report ?_
          refine .setAttic ?_
          refine .ite h ?_
          split
          · exact h.setAttic.setNums
          · exact h.setAttic
        · refine .setAttic ?_
          refine .ite h ?_
          split
          · exact h.setAttic.setNums
          · exact h.setAttic
  · split
    · refine .setAttic ?_
      refine .report ?_
      refine .ite ?_ ?_
      · split
        · refine .report ?_
          refine .setAttic ?_
          refine .ite h ?_
          split
          · exact h.setAttic.setNums
          · exact h.setAttic
        · refine .setAttic ?_
          refine .ite h ?_
          split
          · exact h.setAttic.setNums
          · exact h.setAttic
      · refine .report ?_
        split
        · refine .report ?_
          refine .setAttic ?_
          refine .ite h ?_
          split
          · exact h.setAttic.setNums
          · exact h.setAttic
        · refine .setAttic ?_
          refine .ite h ?_
          split
          · exact h.setAttic.setNums
          · exact h.setAttic
    · refine .ite ?_ ?_
      · split
        · refine .report ?_
          refine .setAttic ?_
          refine .ite h ?_
          split
          · exact h.setAttic.setNums
          · exact h.setAttic
        · refine .setAttic ?_
          refine .ite h ?_
          split
          · exact h.setAttic.setNums
          · exact h.setAttic
      · refine .report ?_
        split
        · refine .report ?_
          refine .setAttic ?_
          refine .ite h ?_
          split
          · exact h.setAttic.setNums
          · exact h.setAttic
        · refine .setAttic ?_
          refine .ite h ?_
          split
          · exact h.setAttic.setNums
          · exact h.setAttic

theorem Device.Stored.setCore {c st} (h : d.Stored) : (d.setCore c st).Stored := h.setOct

theorem Device.Stored.coreWatchdog {c} (h : d.Stored) : (d.coreWatchdog c).Stored :=
  .ite h (have h1 := h.setStudy.setOct.report.report; .ite h1.setCore h1.setCore.setStudy.report)

theorem Device.Stored.coreReload {d0 : Device} {c wait} (h : d0.Stored) : (d0.coreReload c wait).Stored := .ite h h.runTo.setCore.report

end

end Sys2Proof.Machine
end

section
/-! What each operation keeps of the form of the stores: the lock and its timers, precision time, the satellite baseband. -/

namespace Sys2Proof.Machine

section
variable {d : Device}

/-! ## Foyer -/

theorem Device.Stored.setFoyer {f} (h : d.Stored) : (d.setFoyer f).Stored := .frame h

theorem Device.Stored.lockTo {st} (h : d.Stored) : (d.lockTo st).Stored := h.setFoyer.setNum

theorem Device.Stored.seqExhausted (h : d.Stored) : (d.seqExhausted).Stored := h.lockTo.setFoyer.causedBy fun _ h1 => h1.report

theorem Device.Stored.dropXfer (h : d.Stored) : (d.dropXfer).Stored := .setFoyer (.ite h.setNum h)

theorem Device.Stored.releaseLock {cause} (h : d.Stored) : (d.releaseLock cause).Stored := by
  unfold Device.releaseLock
  dsimp only
  refine .causedBy ?_ fun _ h2 => h2.report
  exact h.dropXfer.setFoyer.setNums.foldl fun _ _ h1 => .ite h1.revertLater h1.revertGroup

theorem Device.Stored.handshakeFailed (h : d.Stored) : (d.handshakeFailed).Stored := .ite h.lockTo h.releaseLock

theorem Device.Stored.emitHap {dst xl p} (h : d.Stored) : (d.emitHap dst xl p).Stored := .ite h.canSent.emit h.ipSend

theorem Device.Stored.sendPdu {dst xl p plain} (h : d.Stored) : (d.sendPdu dst xl p plain).Stored :=
  .ite h (.ite h.emitHap (.ite h.setFoyer.emitHap.seqExhausted h.setFoyer.emitHap))

theorem Device.Stored.respond {src xl opcode index sub txn status pay} (h : d.Stored) : (d.respond src xl opcode index sub txn status pay).Stored :=
  h.sendPdu

theorem Device.Stored.sendHeartbeat {fb} (h : d.Stored) : (d.sendHeartbeat fb).Stored := .setFoyer (h.foldl fun _ _ h1 => h1.sendPdu)

theorem Device.Stored.heartbeat (h : d.Stored) : (d.heartbeat).Stored := .ite h h.runTo.sendHeartbeat

theorem Device.Stored.lockIdle (h : d.Stored) : (d.lockIdle).Stored := .ite h h.runTo.releaseLock

theorem Device.Stored.handshakeTimeout (h : d.Stored) : (d.handshakeTimeout).Stored := .ite h h.runTo.handshakeFailed

theorem Device.Stored.xferTimeout (h : d.Stored) : (d.xferTimeout).Stored := by
  unfold Device.xferTimeout
  dsimp only
  split
  · exact h
  · exact h.runTo.dropXfer.causedBy fun _ h1 => h1.report

/-! ## Precision time -/

theorem Device.Stored.refreshBound {n} (h : d.Stored) : (d.refreshBound n).Stored := h.setNum

theorem Device.Stored.setDomState {n st} (h : d.Stored) : (d.setDomState n st).Stored :=
  .ite h (.report (.refreshBound (.setInst (.setNum (.ite h.setInst h)))))

theorem Device.Stored.freeBoundUpdate {d0 : Device} {n} (h : d0.Stored) : (d0.freeBoundUpdate n).Stored :=
  .ite h (have h1 := h.runTo.setInst.refreshBound; .ite h1.setDomState h1)

theorem Device.Stored.receiverUp {n p} (h : d.Stored) : (d.receiverUp n p).Stored := .ite h h.advertiseQl.setSource

theorem Device.Stored.freeLost {n} (h : d.Stored) : (d.freeLost n).Stored := .ite h.setDomState h

theorem Device.Stored.receiverDown {n} (h : d.Stored) : (d.receiverDown n).Stored :=
  .ite (.setSource (.ite h.freeLost h)) (.ite h.freeLost h)

theorem Device.Stored.receiverBack {n p} (h : d.Stored) : (d.receiverBack n p).Stored := .ite h.receiverUp h

theorem Device.Stored.movePort {n p st} (h : d.Stored) : (d.movePort n p st).Stored :=
  have h1 := h.setPtpState.setPtpPort
  .ite h (.ite h1.receiverDown (.ite h1.setPtpPort.receiverUp h1))

theorem Device.Stored.ptpInit {n p} (h : d.Stored) : (d.ptpInit n p).Stored :=
  .ite h.setPtpPort.movePort (.ite h.setPtpPort.movePort (.ite h.setPtpPort.movePort h.setPtpPort.movePort))

theorem Device.Stored.ptpRestart {n} (h : d.Stored) : (d.ptpRestart n).Stored :=
  h.foldl fun _ _ h1 => .ite h1.movePort (.ite h1.movePort h1.movePort.ptpInit)

theorem Device.Stored.showParent {n a} (h : d.Stored) : (d.showParent n a).Stored := by
  unfold Device.showParent
  split <;> exact h.setOct.setNum.setNum

theorem Device.Stored.setParent {n a} (h : d.Stored) : (d.setParent n a).Stored :=
  have h1 := h.setInst.showParent
  .ite h1 (.ite h1.report h1.report.parentJump)

theorem Device.Stored.ptpLink {p} (h : d.Stored) : (d.ptpLink p).Stored :=
  h.foldl fun _ _ h1 => .ite h1 (.ite (.ite h1.movePort.ptpInit h1) (.ite h1 (.ite h1.movePort.setParent h1.movePort)))

theorem Device.Stored.ptpSend {p len fill} (h : d.Stored) : (d.ptpSend p len fill).Stored := by
  unfold Device.ptpSend
  split
  · exact h.reserve
  · exact h

theorem Device.Stored.sendSync {n p} (h : d.Stored) : (d.sendSync n p).Stored := h.ptpSend.setPtpPort

theorem Device.Stored.syncSchedule {d0 : Device} {n p} (h : d0.Stored) : (d0.syncSchedule n p).Stored :=
  .ite h (have h1 := h.runToMt.setPtpPort; .ite h1 h1.sendSync)

theorem Device.Stored.announceSchedule {d0 : Device} {n p} (h : d0.Stored) : (d0.announceSchedule n p).Stored :=
  .ite h (have h1 := h.runToMt.setPtpPort; .ite h1 h1.setNum.ptpSend.setPtpPort)

theorem Device.Stored.delaySchedule {d0 : Device} {n p} (h : d0.Stored) : (d0.delaySchedule n p).Stored :=
  .ite h (have h1 := Device.Stored.ite h.drawBytes.runTo.setPtpPort h.runToMt.setPtpPort; .ite h1 h1.ptpSend.setPtpPort)

theorem Device.Stored.portMessages {d0 : Device} {n p} (h : d0.Stored) : (d0.portMessages n p).Stored :=
  have h1 := Device.Stored.ite h.syncSchedule h
  have h2 := Device.Stored.ite h1.announceSchedule h1
  .ite h2.delaySchedule h2

theorem Device.Stored.dueMessages (h : d.Stored) : (d.dueMessages).Stored :=
  .ite h (h.foldl fun _ _ h1 => .ite (h1.foldl fun _ _ h2 => h2.portMessages) h1)

theorem Device.Stored.delayStamped {n kind code word t16 steps} (h : d.Stored) : (d.delayStamped n kind code word t16 steps).Stored :=
  h.setPtpPort

theorem Device.Stored.takePtp {kinds q n m} {x : Device} (h : d.Stored) (he : d.takePtp kinds = some (q, n, m, x)) : x.Stored := by
  unfold Device.takePtp at he
  dsimp only at he
  split at he
  · cases he
  · split at he
    · cases he
    · split at he
      · cases he
      · cases he
        exact h.setParl

theorem Device.Stored.addDelay {n v} (h : d.Stored) : (d.addDelay n v).Stored := .ite h h.setInst.setNum

theorem Device.Stored.relaySync {n q word origin corr rx16} (h : d.Stored) : (d.relaySync n q word origin corr rx16).Stored :=
  .ite h (.foldl (.ite h.setInst.report h) fun _ _ h1 => .ite h1 h1.ptpSend.setPtpPort)

theorem Device.Stored.driveFree {n off} (h : d.Stored) : (d.driveFree n off).Stored :=
  have h1 := Device.Stored.ite h h.setDomState
  have h2 := Device.Stored.ite h1.setInst (.frame h1.setInst)
  .ite h2.setDomState h2.refreshBound

theorem Device.Stored.offsetOf {n p s t1c} (h : d.Stored) : (d.offsetOf n p s t1c).Stored :=
  .ite h.setInst (have h1 := h.setInst.setNum.movePort; have h2 := Device.Stored.ite h1.offerPhase h1; .ite h2.driveFree h2)

theorem Device.Stored.syncRx {d00 : Device} (h : d00.Stored) : (d00.syncRx).Stored := by
  unfold Device.syncRx
  dsimp only
  split
  · exact h
  · rename_i he
    have h1 := h.takePtp he
    refine .ite h1 ?_
    refine .ite ?_ ?_
    · refine .setInst ?_
      refine .ite ?_ ?_
      · refine .receiverBack ?_
        refine .setPtpPort ?_
        split
        · exact h1.domStep16.setInst
        · exact h1
      · split
        · exact h1.domStep16.setInst
        · exact h1
    · refine .relaySync ?_
      refine .offsetOf ?_
      refine .setInst ?_
      refine .ite ?_ ?_
      · refine .receiverBack ?_
        refine .setPtpPort ?_
        split
        · exact h1.domStep16.setInst
        · exact h1
      · split
        · exact h1.domStep16.setInst
        · exact h1

theorem Device.Stored.followUpRx {d0 : Device} (h : d0.Stored) : (d0.followUpRx).Stored := by
  unfold Device.followUpRx
  dsimp only
  split
  · exact h
  · rename_i he
    have h1 := h.takePtp he
    split
    · exact h1
    · exact .ite h1 h1.setInst.offsetOf.relaySync

theorem Device.Stored.delayRespRx {d0 : Device} (h : d0.Stored) : (d0.delayRespRx).Stored := by
  unfold Device.delayRespRx
  dsimp only
  split
  · exact h
  · rename_i he
    have h1 := h.takePtp he
    split
    · exact .ite h1 (.ite h1.setPtpPort h1.setPtpPort.addDelay)
    · exact h1

theorem Device.Stored.pdelayDone {n p t1 t4 turn steps} (h : d.Stored) : (d.pdelayDone n p t1 t4 turn steps).Stored :=
  have h1 := Device.Stored.ite h.setPtpPort.setNum h.setPtpPort
  .ite h1 h1.addDelay

theorem Device.Stored.pdelayRespRx {d0 : Device} (h : d0.Stored) : (d0.pdelayRespRx).Stored := by
  unfold Device.pdelayRespRx
  dsimp only
  split
  · exact h
  · rename_i he
    have h1 := h.takePtp he
    refine .ite h1 ?_
    split
    · refine .ite h1 ?_
      refine .ite (.ite h1.setPtpPort h1.pdelayDone) ?_
      split
      · refine .setPtpPort ?_
        refine .pdelayDone ?_
        split
        · exact .ite h1 h1.setNum
        · exact h1
      · exact h1
    · exact h1

theorem Device.Stored.announceRx {d0 : Device} (h : d0.Stored) : (d0.announceRx).Stored := by
  unfold Device.announceRx
  dsimp only
  split
  · exact h
  · rename_i he
    have h1 := h.takePtp he
    refine .ite h1 ?_
    refine .ite h1.setPtpPort ?_
    exact
      have h2 := h1.setPtpPort.setParent.receiverBack
      have h3 := Device.Stored.ite h2.advertiseQl h2
      .ite h3.refreshBound h3

theorem Device.Stored.signalingRx {d0 : Device} (h : d0.Stored) : (d0.signalingRx).Stored := by
  unfold Device.signalingRx
  dsimp only
  split
  · exact h
  · rename_i he
    have h1 := h.takePtp he
    split
    · exact h1
    · exact h1.setPtpPort

theorem Device.Stored.preTransmit {n p k} (h : d.Stored) : (d.preTransmit n p k).Stored := .ite h h.movePort.setPtpPort

theorem Device.Stored.bmca {d0 : Device} {n} (h : d0.Stored) : (d0.bmca n).Stored := by
  unfold Device.bmca
  dsimp only
  refine .ite h ?_
  refine .ite ?_ ?_
  · refine .setParent ?_
    refine .foldl ?_ fun _ _ h1 => ?_
    · split
      · exact h.setParent
      · exact h
    · refine .ite h1 ?_
      refine .ite (.ite h1.preTransmit h1.movePort) ?_
      split
      · exact h1.preTransmit
      · exact .ite (.ite h1 (.movePort (.ite h1 h1.setInst))) (.ite h1.movePort h1.preTransmit)
  · refine .foldl ?_ fun _ _ h2 => ?_
    · split
      · exact h.setParent
      · exact h
    · refine .ite h2 ?_
      refine .ite (.ite h2.preTransmit h2.movePort) ?_
      split
      · exact h2.preTransmit
      · exact .ite (.ite h2 (.movePort (.ite h2 h2.setInst))) (.ite h2.movePort h2.preTransmit)

theorem Device.Stored.qualified {n p} (h : d.Stored) : (d.qualified n p).Stored := by
  unfold Device.qualified
  split
  · exact .ite h h.runTo.movePort
  · exact h

theorem Device.Stored.receiptLost {n p} (h : d.Stored) : (d.receiptLost n p).Stored := by
  unfold Device.receiptLost
  refine .ite ?_ (have h2 := h.movePort.freeLost; .ite h2.setInst.report h2)
  exact
    have h1 := Device.Stored.ite h.setPtpPort.movePort.setParent (.ite h.setPtpPort.receiverDown h.setPtpPort)
    .bmca (.ite h1 h1.freeLost)

theorem Device.Stored.announceTimeout {d0 : Device} {n p} (h : d0.Stored) : (d0.announceTimeout n p).Stored :=
  .ite h h.runTo.setPtpPort.bump.report.receiptLost

theorem Device.Stored.syncTimeout {d0 : Device} {n p} (h : d0.Stored) : (d0.syncTimeout n p).Stored :=
  .ite h h.runTo.setPtpPort.bump.report.receiptLost

theorem Device.Stored.lostResponses {n p} (h : d.Stored) : (d.lostResponses n p).Stored := .ite h h.setPtpPort.setNum.report

theorem Device.Stored.followSwitched {n followed} (h : d.Stored) : (d.followSwitched n followed).Stored :=
  .ite (.ite h h.setNum.setDomState) (.refreshBound (.frame h))

theorem Device.Stored.instSwitched {n old changed} (h : d.Stored) : (d.instSwitched n old changed).Stored :=
  have h1 := h.setNum.followSwitched
  have h2 := Device.Stored.ite h1 (.ite (.frame h1) (.ite (.frame (.frame h1)) (.domStep16 (.frame h1))))
  .ite h2 (have h3 := h2.setInst.showParent.setNum.ptpRestart; .ite h3.refreshEnable h3)

theorem Device.Stored.ptpWake (h : d.Stored) : (d.ptpWake).Stored := h.foldl fun _ _ h1 => .ite h1.ptpRestart h1

/-! ## Skylight -/

theorem Device.Stored.setSky {f} (h : d.Stored) : (d.setSky f).Stored := .frame h

theorem Device.Stored.setSkyCh {c f} (h : d.Stored) : (d.setSkyCh c f).Stored := h.setSky

theorem Device.Stored.setAnt {st} (h : d.Stored) : (d.setAnt st).Stored := .ite h h.report.setNum

theorem Device.Stored.antMeasure {d0 : Device} {i} (h : d0.Stored) : (d0.antMeasure i).Stored := by
  unfold Device.antMeasure
  refine .ite h ?_
  refine .ite h.setNum.setSky.setAnt.setSky ?_
  exact .ite h.setNum.setSky.setAnt (.ite h.setNum.setSky.setAnt (.ite h.setNum.setSky.setAnt h.setNum.setSky))

theorem Device.Stored.antRetry {d0 : Device} {i} (h : d0.Stored) : (d0.antRetry i).Stored :=
  .ite h (have h1 := h.runTo.setNum.setSky; .ite h1 h1.setAnt)

theorem Device.Stored.agc {l5 gain} (h : d.Stored) : (d.agc l5 gain).Stored := .ite h (.ite h.setNum.setSky h.setNum.setSky.report)

theorem Device.Stored.skyNav {utc leap} (h : d.Stored) : (d.skyNav utc leap).Stored :=
  have h1 := Device.Stored.ite h.setNum.setOct h.setNum
  .skyUtcCheck (.ite h1.report h1)

theorem Device.Stored.orbitLoad {b} (h : d.Stored) : (d.orbitLoad b).Stored := by
  unfold Device.orbitLoad
  dsimp only
  refine .ite ?_ ?_
  · split
    · exact .ite h.setSky.skyNav h.setSky
    · exact h.setSky
  · refine .report ?_
    refine .bumpBy ?_
    split
    · exact .ite h.setSky.skyNav h.setSky
    · exact h.setSky

theorem Device.Stored.writeOrbitLoad {b} (h : d.Stored) : (d.writeOrbitLoad b).2.Stored := .ite_snd h h.orbitLoad

theorem Device.Stored.writeAidPos {b} (h : d.Stored) : (d.writeAidPos b).2.Stored := .ite_snd h (.ite_snd h h.setOct.setSky)

theorem Device.Stored.setSkyState {c st} (h : d.Stored) : (d.setSkyState c st).Stored :=
  .ite h.setNum.setSkyCh (.ite h.setNum.setNums h.setNum)

theorem Device.Stored.setTracker {t} (h : d.Stored) : (d.setTracker t).Stored := .ite h h.report.setNum.setSky

theorem Device.Stored.acqDwell {d0 : Device} {slot c code sv orbit k detected elev azim} (h : d0.Stored) :
    (d0.acqDwell slot c code sv orbit k detected elev azim).Stored := by
  unfold Device.acqDwell
  refine .ite h ?_
  exact
    have h1 := Device.Stored.ite (.setTracker (.ite h h.runTo)) (.ite h h.runTo)
    .ite (.setSkyCh (.setNums (.ite h1 h1.setSky))) (.ite h1 h1.setSky)

theorem Device.Stored.pullInTimeout {c} (h : d.Stored) : (d.pullInTimeout c).Stored := .ite h.runTo.setSkyState h

theorem Device.Stored.coastTimeout {c} (h : d.Stored) : (d.coastTimeout c).Stored := .ite h.runTo.setSkyState h

theorem Device.Stored.skyLost {cause} (h : d.Stored) : (d.skyLost cause).Stored :=
  .setSource (.setSky (.ite h.report h.report.report.setNum))

theorem Device.Stored.loopTimeout (h : d.Stored) : (d.loopTimeout).Stored := .ite h.runTo.setSky.skyLost h

theorem Device.Stored.takeDump {c acc updated} (h : d.Stored) : (d.takeDump c acc updated).Stored :=
  .ite h.setSkyCh h.setSkyCh.setSkyCh.setSky

theorem Device.Stored.dump {d0 : Device} {c cn0 acc locked updated nav} (h : d0.Stored) : (d0.dump c cn0 acc locked updated nav).Stored := by
  unfold Device.dump
  dsimp only
  refine .ite h ?_
  split
  · exact h
  · split
    · refine .ite ?_ ?_
      · refine .skyNav ?_
        refine .ite ?_ ?_
        · exact .setSkyState (.setNum (.takeDump (.ite h.runTo.setTracker h.runTo)))
        · refine .ite ?_ (.setNum (.takeDump (.ite h.runTo.setTracker h.runTo)))
          exact .setSkyState (.setNum (.takeDump (.ite h.runTo.setTracker h.runTo)))
      · refine .ite ?_ ?_
        · exact .setSkyState (.setNum (.takeDump (.ite h.runTo.setTracker h.runTo)))
        · refine .ite ?_ (.setNum (.takeDump (.ite h.runTo.setTracker h.runTo)))
          exact .setSkyState (.setNum (.takeDump (.ite h.runTo.setTracker h.runTo)))
    · refine .ite ?_ ?_
      · exact .setSkyState (.setNum (.takeDump (.ite h.runTo.setTracker h.runTo)))
      · refine .ite ?_ (.setNum (.takeDump (.ite h.runTo.setTracker h.runTo)))
        exact .setSkyState (.setNum (.takeDump (.ite h.runTo.setTracker h.runTo)))

theorem Device.Stored.aidCheck {fix} (h : d.Stored) : (d.aidCheck fix).Stored := .ite h (.ite h.setSky.report h)

theorem Device.Stored.noteExcluded {ms w} (h : d.Stored) : (d.noteExcluded ms w).Stored := .ite h h.setSky.report

theorem Device.Stored.skySolved {kind nsat t16 flags off fix fastEnd} (h : d.Stored) : (d.skySolved kind nsat t16 flags off fix fastEnd).Stored :=
  have h1 := Device.Stored.setSky (.bump (.setOct (.setOct (.setNums (.ite h h.report)))))
  .ite h1.setSource.advertiseQl.offerPhase h1.setSource

theorem Device.Stored.skyMissed (h : d.Stored) : (d.skyMissed).Stored := .ite h.bump.skyLost h.bump

theorem Device.Stored.latch {fast ms0 fix refit} (h : d.Stored) : (d.latch fast ms0 fix refit).Stored := by
  unfold Device.latch
  dsimp only
  split
  · refine .skySolved ?_
    refine .ite ?_ ?_
    · refine .aidCheck ?_
      refine .foldl ?_ fun _ _ h1 => h1.setNums
      refine .bump ?_
      refine .setOct ?_
      split
      · exact h.noteExcluded
      · exact h
    · refine .foldl ?_ fun _ _ h2 => h2.setNums
      refine .bump ?_
      refine .setOct ?_
      split
      · exact h.noteExcluded
      · exact h
  · refine .skyMissed ?_
    refine .foldl ?_ fun _ _ h3 => h3.setNums
    refine .bump ?_
    refine .setOct ?_
    split
    · exact h.noteExcluded
    · exact h

theorem Device.Stored.toFabEdge {t} (h : d.Stored) : (d.toFabEdge t).Stored := .ite h.runToMt.elapse h.runToMt

theorem Device.Stored.measLatch {d0 : Device} {ms fix refit} (h : d0.Stored) : (d0.measLatch ms fix refit).Stored :=
  .ite h h.skySettle.toFabEdge.skySettle.latch

theorem Device.Stored.parkBurst {ms fix refit} (h : d.Stored) : (d.parkBurst ms fix refit).Stored :=
  .ite h (.foldl (.latch (h.toFabEdge.foldl fun _ _ h1 => .ite h1.setSkyState h1)) fun _ _ h2 => .ite h2.setSkyState h2)

theorem Device.Stored.predictionExpiry (h : d.Stored) : (d.predictionExpiry).Stored := .ite h h.runTo.skyLost.setSky

theorem Device.Stored.handToHardware {t} (h : d.Stored) : (d.handToHardware t).Stored := by
  unfold Device.handToHardware
  dsimp only
  exact .setSky (.setTracker (h.foldl fun _ _ h1 => .ite h1.setSkyState h1))

theorem Device.Stored.skyPps (h : d.Stored) : (d.skyPps).Stored := .ite h h.toPin.setCh

theorem Device.Stored.skyCommitted {d0 : Device} (h : d0.Stored) : (d0.skyCommitted).Stored := by
  unfold Device.skyCommitted
  dsimp only
  exact have h1 := h.foldl fun _ _ h2 => .ite h2.setSkyState h2; .setSky (.skySettle (.ite h1.setAnt h1))

end

end Sys2Proof.Machine
end

section
/-! What each operation keeps of the form of the stores: power, commits, start and reset. -/

namespace Sys2Proof.Machine

section
variable {d : Device}

/-! ## Power -/

theorem Device.Stored.setPower {f} (h : d.Stored) : (d.setPower f).Stored := .frame h

theorem Device.Stored.setCellar {f} (h : d.Stored) : (d.setCellar f).Stored := .frame h

theorem Device.Stored.setFbState {st} (h : d.Stored) : (d.setFbState st).Stored := .ite h h.report.setNum

theorem Device.Stored.abortEntry {cause} (h : d.Stored) : (d.abortEntry cause).Stored := by
  unfold Device.abortEntry
  dsimp only
  split
  · exact h
  · exact have h1 := h.setNum.report.setPower.setFbState; .ite h1.bump.report.openBatch h1.bump.report

theorem Device.Stored.holdCheck (h : d.Stored) : (d.holdCheck).Stored := by
  unfold Device.holdCheck
  split
  · exact .ite h.abortEntry h
  · exact h

theorem Device.Stored.beginEntry {target} (h : d.Stored) : (d.beginEntry target).Stored :=
  have h1 := Device.Stored.ite h h.sendHeartbeat
  .setPower (.ite h1.setNum.report.setStudy.setNum h1.setNum.report)

theorem Device.Stored.entryRest {target} (h : d.Stored) : (d.entryRest target).Stored :=
  have h1 := Device.Stored.ite h.ntskeClose.abortLow h.ntskeClose.abortLow.handToHardware
  have h2 := Device.Stored.ite h1.hallSleep h1
  .setPower (.ite h2.saveModel h2)

theorem Device.Stored.idleExpiry {d0 : Device} (h : d0.Stored) : (d0.idleExpiry).Stored :=
  .ite h (.ite h.runTo.beginEntry h.runTo.setFbState)

theorem Device.Stored.portSleep {d0 : Device} {p target} (h : d0.Stored) : (d0.portSleep p target).Stored :=
  .ite (.setLink (.ite h h.dropPlace)) (.dropPlace (.setLink (.ite h h.dropPlace)))

theorem Device.Stored.takeSnapshot (h : d.Stored) : (d.takeSnapshot).Stored := .ite h h.setCellar.setNum.setNum

theorem Device.Stored.rotatePause (h : d.Stored) : (d.rotatePause).Stored := h.setKeyhole

theorem Device.Stored.entryComplete (h : d.Stored) : (d.entryComplete).Stored := by
  unfold Device.entryComplete
  dsimp only
  split
  · exact h
  · refine .ite h ?_
    refine .ite (.ite h.entryRest h) ?_
    exact
      have h1 := Device.Stored.setPower (.setFbState (.rotatePause (.foldl (.lanesOff (.foldl (.ite (.flushFdb (.setAnt (.foldl
        (.takeSnapshot (.ite h.entryRest h)) fun _ _ h2 => h2.outTrailing))) (.ite h.entryRest h)) fun _ _ h3 => h3.portSleep))
          fun _ _ h4 => .ite h4.setCore h4)))
      .ite (.foldl (.frame h1.setCellar) fun _ _ h5 => h5.setCan) h1.setCellar

theorem Device.Stored.queueStep {kind exit} (h : d.Stored) : (d.queueStep kind exit).Stored :=
  have h1 := h.setPower.setNum.setNum
  .ite h1.report h1

theorem Device.Stored.startStep {s} {x : Device} (h : d.Stored) (he : d.startStep = some (s, x)) : x.Stored := by
  unfold Device.startStep at he
  split at he
  · cases he
  · cases he
    exact
      have h1 := h.runTo.setPower.setNum.setNum
      .ite h1.lanesOn h1

theorem Device.Stored.wakeBegin {src port} (h : d.Stored) : (d.wakeBegin src port).Stored := by
  unfold Device.wakeBegin
  refine .ite (.ite h.setNum.setNum h.setNum) ?_
  exact have h1 := h.setNum.setNum.bump.setPower; .ite h1.setCellar (h1.setCellar.foldl fun _ _ h2 => h2.queueStep)

theorem Device.Stored.fbWake {src port} (h : d.Stored) : (d.fbWake src port).Stored := by
  unfold Device.fbWake
  split
  · exact .ite h.abortEntry h
  · exact .ite h.wakeBegin h

theorem Device.Stored.wake {src port} (h : d.Stored) : (d.wake src port).Stored := .ite h (.ite h h.fbWake)

theorem Device.Stored.wakeIn {d0 : Device} {pin level} (h : d0.Stored) : (d0.wakeIn pin level).Stored := .ite h h.elapse.fbWake

theorem Device.Stored.cellarAlarm (h : d.Stored) : (d.cellarAlarm).Stored := by
  unfold Device.cellarAlarm
  split
  · exact .ite h h.elapse.fbWake
  · exact h

theorem Device.Stored.wakeOnT5 {d0 : Device} (h : d.Stored) : (d.wakeOnT5 d0).Stored := .ite h.fbWake h

theorem Device.Stored.wakeOnTamper {d0 : Device} (h : d.Stored) : (d.wakeOnTamper d0).Stored := .ite h.fbWake h

theorem Device.Stored.portWake {p} (h : d.Stored) : (d.portWake p).Stored := .ite h.setLink (.ite h.setLink h)

theorem Device.Stored.exitDone {d0 : Device} (h : d0.Stored) : (d0.exitDone).Stored := by
  unfold Device.exitDone
  refine .ite h ?_
  refine .ite (.ite h.runTo.report.setPower h.runTo) ?_
  exact
    have h1 := Device.Stored.ptpWake (.foldl (h.runTo.setFbState.setNum.report.setKeyhole.foldl fun _ _ h2 => .ite h2.setCore h2)
      fun _ _ h3 => h3.portWake)
    .setFoyer (.setPower (.report (.atticWake (.ite h1.openBatch h1))))

theorem Device.Stored.writeLatencyTol {v} (h : d.Stored) : (d.writeLatencyTol v).Stored :=
  have h1 := h.setNum.setNum.abortEntry
  .ite (.ite h1.wakeBegin h1) (.ite h1.setFbState (.ite h1.setFbState h1))

theorem Device.Stored.ownerActive (h : d.Stored) : (d.ownerActive).Stored := h.abortEntry.setPower

theorem Device.Stored.cellarMinute (h : d.Stored) : (d.cellarMinute).Stored := .ite h h.runTo.bump.setPower

theorem Device.Stored.xtalMeasure (h : d.Stored) : (d.xtalMeasure).Stored := .ite h h.runTo.setNum.setPower

theorem Device.Stored.cellarSnapshot (h : d.Stored) : (d.cellarSnapshot).Stored := .ite h h.runToMt.elapse.takeSnapshot

theorem Device.Stored.wdtClear (h : d.Stored) : (d.wdtClear).Stored := by
  unfold Device.wdtClear
  split
  · exact h
  · exact h.elapse.setCellar.setNum

theorem Device.Stored.crystalStopped (h : d.Stored) : (d.crystalStopped).Stored := h.setTamper.wakeOnTamper

theorem Device.Stored.vbatLevel {mv} (h : d.Stored) : (d.vbatLevel mv).Stored :=
  .ite h.setNum.setPower.report.holdCheck (.ite h.setNum.setPower.report h.setNum)

theorem Device.Stored.railFault {rail mv} (h : d.Stored) : (d.railFault rail mv).Stored := .ite h h.bump.report

theorem Device.Stored.avsRun {acked fuel} (h : d.Stored) : (d.avsRun acked fuel).Stored := by
  induction fuel generalizing d with
  | zero => exact h
  | succ fuel ih =>
    unfold Device.avsRun
    exact .ite h (.ite (ih h.setNum.setPower.elapse) h.setNum.setPower)

theorem Device.Stored.avsWriteRetry {acked} (h : d.Stored) : (d.avsWriteRetry acked).Stored := by
  unfold Device.avsWriteRetry
  dsimp only
  split
  · exact h
  · exact .ite h.runTo.setPower.elapse.avsRun h.runTo.setPower

theorem Device.Stored.replan {measured acked} (h : d.Stored) : (d.replan measured acked).Stored :=
  have h1 := h.foldl fun _ _ h2 => h2.setNum
  have h3 := Device.Stored.setPower (.setHold (.ite h1.setNums h1.setNums.setNum))
  have h4 := Device.Stored.ite h3.report.report h3.report
  have h5 := Device.Stored.ite (.report (.ite h4.report h4)) (.ite h4.report h4)
  .ite h5.avsRun h5

theorem Device.Stored.marginReplan {measured acked} (h : d.Stored) : (d.marginReplan measured acked).Stored := .ite h h.replan

/-! ## Commit -/

theorem Device.Stored.setCommit {f} (h : d.Stored) : (d.setCommit f).Stored := .frame h

theorem Device.Stored.writeCommit {d0 : Device} {b mem src xl opcode txn} (h : d0.Stored) : (d0.writeCommit b mem src xl opcode txn).2.Stored := by
  unfold Device.writeCommit
  dsimp only
  split
  · exact .report (.ite (.setNum (h.foldl fun _ _ h1 => h1.memError)) (h.foldl fun _ _ h2 => h2.memError))
  · refine .ite_snd ?_ (.setCommit (h.foldl fun _ _ h5 => h5.memError))
    split
    · exact .fillSlot (h.foldl fun _ _ h3 => h3.memError)
    · exact h.foldl fun _ _ h4 => h4.memError

theorem Device.Stored.writeDiscard {mask} (h : d.Stored) : (d.writeDiscard mask).2.Stored :=
  .ite_snd h (.ite_snd h (h.foldl fun _ _ h1 => h1.revertGroup))

theorem Device.Stored.applyUnit {g u} (h : d.Stored) : (d.applyUnit g u).Stored :=
  Device.Stored.foldl (d := { d with staged := d.staged.filter _ }) ⟨h.1, h.2.filter _⟩ fun _ _ h1 => h1.setVal

theorem Device.Stored.portFollow {d0 : Device} {p} (h : d.Stored) : (d.portFollow d0 p).Stored :=
  .ptpLink (.ite h.parlLinkLost.ledgerLinkLost h)

theorem Device.Stored.groupHook {d0 : Device} {slot g us} (h : d.Stored) : (d.groupHook d0 slot g us).Stored := by
  unfold Device.groupHook
  refine .ite (h.foldl fun _ _ h1 => h1.ckoStart) ?_
  refine .ite (.ite h h.thermCommitted.useChanged) ?_
  refine .ite (.ite h h.skyCommitted) ?_
  refine .ite (h.foldl fun _ _ h2 => h2.chApplied) ?_
  refine .ite ?_ ?_
  · exact h.syncUtc.outsStepped.foldl fun _ _ h3 => .ite h3 h3.domOffsetChange
  · refine .ite (h.foldl fun _ _ h4 => h4.outSwitch) ?_
    refine .ite (h.foldl fun _ _ h5 => h5.applyPower.portFollow) ?_
    refine .ite (h.foldl fun _ _ h6 => h6.applyPortCfg.portFollow) ?_
    refine .ite (.ite h h.fwdSwitched) ?_
    refine .ite h.gatesSwitched ?_
    refine .ite (.ite h (h.foldl fun _ _ h7 => h7.ringApplied)) ?_
    exact .ite (h.foldl fun _ _ h8 => h8.instSwitched) (.ite h.noteLoss h)

theorem Device.Stored.switchGroups {d0 : Device} {groups slot stuck} (h : d0.Stored) : (d0.switchGroups groups slot stuck).1.Stored := by
  unfold Device.switchGroups
  refine .foldl ?_ fun _ _ h4 => .setUnitMask (.groupHook (h4.foldl fun _ _ h5 => h5.applyUnit))
  refine .foldl ?_ fun _ _ h3 => .ite h3.groupHook.setUnitMask h3
  exact .foldl (.ite h.bringAllCredits h) fun _ _ h1 => h1.foldl fun _ _ h2 => h2.applyUnit

theorem Device.Stored.commitEnds {groups slot status imm} (h : d.Stored) : (d.commitEnds groups slot status imm).Stored := by
  unfold Device.commitEnds
  dsimp only
  split
  · refine .ite (.freeGroups (.report (.ite h.endSlot h.setNum))) ?_
    exact .respond (.freeGroups (.report (.ite h.endSlot h.setNum)))
  · exact .freeGroups (.report (.ite h.endSlot h.setNum))

theorem Device.Stored.runCommit {groups slot since imm stuck} (h : d.Stored) : (d.runCommit groups slot since imm stuck).Stored :=
  .ite h.switchGroups.commitEnds (.setCommit (h.switchGroups.foldl fun _ _ h1 => .ite h1 h1.queueStep))

theorem Device.Stored.commitSwitch {groups stuck} (h : d.Stored) : (d.commitSwitch groups stuck).Stored := by
  unfold Device.commitSwitch
  split
  · exact h
  · exact .ite h (h.setCommit.causedBy fun _ h1 => h1.runCommit)

theorem Device.Stored.commitTimeout {d0 : Device} {groups} (h : d0.Stored) : (d0.commitTimeout groups).Stored := by
  unfold Device.commitTimeout
  dsimp only
  split
  · exact h
  · exact .ite h (h.runTo.setCommit.noneApplied.causedBy fun _ h1 => h1.commitEnds)

theorem Device.Stored.executeSlot {stuck n} (h : d.Stored) : (d.executeSlot stuck n).Stored :=
  h.causedBy fun _ h1 => .ite (.ite h1.endSlot.commandedNow h1.abandonSlot) h1.runCommit

theorem Device.Stored.slotExecute {d0 : Device} {stuck} (h : d0.Stored) : (d0.slotExecute stuck).Stored := by
  unfold Device.slotExecute
  dsimp only
  split
  · exact h
  · exact .ite h (.slotsStepped (.foldl_fst h.runToMt fun _ _ h1 => h1.executeSlot))

theorem Device.Stored.grantPort {p} (h : d.Stored) : (d.grantPort p).Stored := by
  unfold Device.grantPort
  dsimp only
  split
  · exact .ite h.applyPower.portFollow h
  · exact
      have h1 := h.applyUnit.applyPower.portFollow
      .ite (h1.setNum.setCommit.causedBy fun _ h2 => h2.commitEnds) h1.setNum.setCommit

theorem Device.Stored.grantTimeout {d0 : Device} (h : d0.Stored) : (d0.grantTimeout).Stored := by
  unfold Device.grantTimeout
  dsimp only
  split
  · exact h
  · exact h.runTo.setPower.setNum.setCommit.causedBy fun _ h1 => h1.commitEnds

theorem Device.Stored.lateGrants (h : d.Stored) : (d.lateGrants).Stored := h.foldl fun _ _ h1 => .ite h1.grantTimeout h1

theorem Device.Stored.sequencerStep {d0 : Device} (h : d0.Stored) : (d0.sequencerStep).Stored := by
  unfold Device.sequencerStep
  dsimp only
  split
  · exact h.lateGrants
  · rename_i he
    have h1 := h.lateGrants.startStep he
    exact .ite h1.grantPort h1

theorem Device.Stored.portRecommit {d0 : Device} (h : d0.Stored) : (d0.portRecommit).Stored := by
  unfold Device.portRecommit
  dsimp only
  refine .ite h ?_
  split
  · exact .report (.ite h.elapse.setNum h.elapse)
  · exact h.elapse.runCommit

/-! ## Startup -/

theorem Device.Stored.restart {cause cold} (_ : d.Stored) : (d.restart cause cold).Stored := by
  have hblank : (d.blank cause cold).Stored := ⟨trivial, trivial⟩
  exact .ite hblank (hblank.foldl fun _ _ h1 => h1.setVal)

theorem Device.Stored.assertReset {cause cold} (h : d.Stored) : (d.assertReset cause cold).Stored := .ite h.restart h.setPower

theorem Device.Stored.supplyReset {vbat torn} (h : d.Stored) : (d.supplyReset vbat torn).Stored :=
  .ite h.setPower (.assertReset (.ite h.setAttic h))

theorem Device.Stored.deviceWatchdog (h : d.Stored) : (d.deviceWatchdog).Stored := by
  unfold Device.deviceWatchdog
  dsimp only
  split
  · exact .ite h.runTo.assertReset h
  · exact h

theorem Device.Stored.lifeFault (h : d.Stored) : (d.lifeFault).Stored := .report (.setNum (.keysFollow (h.foldl fun _ _ h1 => h1.setNum)))

theorem Device.Stored.loadStore {c bad} (h : d.Stored) : (d.loadStore c bad).Stored :=
  .followLock (.setKeyhole (.setNums (.setOct (.setOct (h.foldl fun _ _ h1 => .ite h1 (.ite h1.setSlot.report h1.setSlot.setKey))))))

theorem Device.Stored.recoverStore {puf bad} (h : d.Stored) : (d.recoverStore puf bad).Stored := by
  unfold Device.recoverStore
  dsimp only
  refine .ite h.setNum.setNum.setKeyhole ?_
  refine .ite h.setNum.lifeFault ?_
  split
  · exact h.setNum.setTamper.lifeFault
  · refine .ite h.setNum.report.setTamper.lifeFault ?_
    split
    · exact h.setNum.loadStore
    · exact h.setNum

theorem Device.Stored.followLocs (h : d.Stored) : (d.followLocs).Stored := h.setOct.setOct

theorem Device.Stored.tryImage {loc second vendor} (h : d.Stored) : (d.tryImage loc second vendor).Stored :=
  .ite h (.ite h.report.setStudy h.report.setStudy.setOct.setOct.setNum.setKeyhole.setPower)

theorem Device.Stored.verifyImages {vendor} (h : d.Stored) : (d.verifyImages vendor).Stored :=
  have h1 := h.setNum.tryImage.tryImage
  .followLocs (.ite h1 h1.setKeyhole)

theorem Device.Stored.writeFwImage {img vendor} (h : d.Stored) : (d.writeFwImage img vendor).2.Stored :=
  .ite_snd h.setNum.report.setNum.setStudy h.setNum.report.setNum

theorem Device.Stored.fwCopied (h : d.Stored) : (d.fwCopied).Stored := .ite h h.setStudy.setNum.followLocs

theorem Device.Stored.writeNextLoc {loc} (h : d.Stored) : (d.writeNextLoc loc).2.Stored := .ite_snd h h.setNum.setStudy.report

theorem Device.Stored.countStart (h : d.Stored) : (d.countStart).Stored := .ite h.setCellar.setNum.setNum h.setCellar.setNum

theorem Device.Stored.spoilConfigs {torn} (h : d.Stored) : (d.spoilConfigs torn).Stored := h.setStudy

theorem Device.Stored.spoilStores {f} (h : d.Stored) : (d.spoilStores f).Stored := h.spoilModels.spoilConfigs.setStudy.setKeyhole

theorem Device.Stored.release {d0 : Device} {straps entropy puf found shipped vendor} (h : d0.Stored) :
    (d0.release straps entropy puf found shipped vendor).Stored := by
  unfold Device.release
  refine .ite h ?_
  exact
    have h1 := Device.Stored.elapse (.ite h.restart h)
    have h2 := Device.Stored.setPower (.ite h1.atticStart.setTamper h1.atticStart)
    have h3 := Device.Stored.setNums (.bump (.ite h2.setNums h2))
    have h4 := Device.Stored.ite h3.report.countStart h3.report
    .verifyImages (.recoverStore (.spoilStores (.setStudy (.ite h4.setNum.setKeyhole.freshNonce h4.entropyFailed))))

theorem Device.Stored.startServing (h : d.Stored) : (d.startServing).Stored := by
  unfold Device.startServing
  dsimp only
  exact .setFoyer (.setPower (.foldl (h.foldl fun _ _ h1 => h1.canStart) fun _ _ h2 => .ite h2.queueStep h2))

theorem Device.Stored.configLoad {stuck} (h : d.Stored) : (d.configLoad stuck).Stored := by
  unfold Device.configLoad
  dsimp only
  refine .ite h ?_
  refine .ite h.setNum.startServing ?_
  split
  · exact h.setNum.startServing
  · split
    · exact .startServing (.setNum (.report (.ite h.setNum h)))
    · refine .ite h.runTo.commitEnds.setNum.startServing ?_
      exact .startServing (.runCommit (.setNums (.foldl (h.foldl fun _ _ h1 => h1.setVal) fun _ _ h2 => h2.setStaged)))

theorem Device.Stored.writeCfgSave (h : d.Stored) : (d.writeCfgSave).2.Stored := .ite_snd h h.setNum.setStudy

theorem Device.Stored.cfgSaved {d0 : Device} {wait} (h : d0.Stored) : (d0.cfgSaved wait).Stored := by
  unfold Device.cfgSaved
  dsimp only
  split
  · exact h
  · exact .ite h h.runTo.setStudy.setNums

theorem Device.Stored.writeCfgErase (h : d.Stored) : (d.writeCfgErase).2.Stored := h.setStudy

theorem Device.Stored.mtStart (h : d.Stored) : (d.mtStart).Stored := .setNum (.ite (.setTimeState (.frame h.setNum)) (.frame h.setNum))

theorem Device.Stored.rootLock {d0 : Device} (h : d0.Stored) : (d0.rootLock).Stored := by
  unfold Device.rootLock
  refine .ite h ?_
  refine .ite h.elapse.rootRelock.tdcRelocked.setPower ?_
  exact
    have h1 := Device.Stored.avsRun (.skyCommitted (.thermCommitted (.setPower (.setKeyhole (.restoreModel (.foldl (.newSeqBase
      (.setNums (.frame (.mtStart (.report (.report (.setNum (.frame h.elapse)))))))) fun _ _ h2 => h2.queueStep))))))
    .ite h1.startServing h1

theorem Device.Stored.rootLockLost {cause} (h : d.Stored) : (d.rootLockLost cause).Stored :=
  .ite h h.rootLost.tdcRootLost.wakeOnT5.holdCheck

theorem Device.Stored.rootFault {dev rail} (h : d.Stored) : (d.rootFault dev rail).Stored :=
  .ite h.rootFaulted (have h1 := h.rootFaulted.foldl fun _ _ h2 => h2.linkLost.portFollow; .ite h1.tdcRootLost.wakeOnT5.holdCheck h1)

end

end Sys2Proof.Machine
end

section
/-! What each operation keeps of the form of the stores: requests and arriving frames. -/

namespace Sys2Proof.Machine

section
variable {d : Device}

/-! ## Requests -/

theorem Device.Stored.readDone {idx sub v base} (h : d.Stored) : (d.readDone idx sub v base).Stored :=
  .ite h.drainFifo (.ite h.readMbRecv h)

theorem Device.Stored.answer {st} (h : d.Stored) : (d.answer st).Stored := by unfold Device.answer; exact ⟨h, fun _ h1 => h1⟩

theorem Device.Stored.answerOf {r} (h : r.2.Stored) : (answerOf r).Stored := h.answer

theorem Device.Stored.done (h : d.Stored) : (d.done).Stored := h.answer

theorem Device.Stored.lockAcquire {src xl} (h : d.Stored) : (d.lockAcquire src xl).Stored := by
  unfold Device.lockAcquire
  exact .ite (.ite (⟨h, fun _ h1 => h1⟩) h.answer) (.ite h.answer (⟨h.drawBytes.setFoyer.setCommit.setNums.report, fun _ h2 => h2⟩))

theorem Device.Stored.hostNonce {b} (h : d.Stored) : (d.hostNonce b).Stored := by
  unfold Device.hostNonce
  refine .ite h.answer ?_
  exact
    have h1 := h.drawBytes.setFoyer.setOct
    .ite h1.done (.ite h1.lockTo.done (⟨h1, fun _ h2 => h2.setFoyer.lockTo.report⟩))

theorem Device.Stored.proof {b} (h : d.Stored) : (d.proof b).Stored := by
  unfold Device.proof
  exact .ite h.answer (.ite h.setFoyer.setNum.report.done (⟨h.bump.report, fun _ h1 => h1.handshakeFailed⟩))

theorem Device.Stored.canCfg {n b} (h : d.Stored) : (d.canCfg n b).Stored := by
  unfold Device.canCfg
  exact ⟨h, fun _ h1 => .ite h1.writeCanCfg h1⟩

theorem Device.Stored.sendProbe {p dst} (h : d.Stored) : (d.sendProbe p dst).2.Stored := .ite_snd h h.setNum.ipSend

theorem Device.Stored.portAction {p sub b} (h : d.Stored) : Replies (d.portAction p sub b) :=
  .ite (.some h.clearCounters.done) (.ite (.some h.sendProbe.answerOf) .none)

theorem Device.Stored.khAction {sub b} (h : d.Stored) : Replies (d.khAction sub b) := by
  unfold Device.khAction
  refine .ite (.some h.writeProvision.answerOf) ?_
  refine .ite (.some h.writeProvCommit.answerOf) ?_
  refine .ite (.some h.writeOwnerPub.answerOf) ?_
  refine .ite (.some h.writeOwnerKey.answerOf) ?_
  refine .ite (.some h.writeOwnerXfer.answerOf) ?_
  refine .ite (.some h.writeKeygen.answerOf) ?_
  refine .ite (.some h.writeKeyDestroy.answerOf) ?_
  refine .ite (.some h.writeRotate.answerOf) ?_
  refine .ite (.some h.writeCosign.answerOf) ?_
  refine .ite (.some h.writeRollback.answerOf) ?_
  refine .ite (.some h.writeAttestReq.answerOf) ?_
  exact .ite (.some h.setNum.followLock.done) (.ite (.some h.writeTamperClear.answerOf) .none)

theorem Device.Stored.lowAction {a k b} (h : d.Stored) : Replies (d.lowAction a k b) := by
  unfold Device.lowAction
  refine .ite (.some (.ite h.lockAcquire (⟨h, fun _ h1 => h1.releaseLock⟩))) ?_
  refine .ite (.some h.hostNonce) ?_
  refine .ite (.some h.proof) ?_
  refine .ite (.some (⟨h, fun _ h2 => h2.writeLatencyTol⟩)) ?_
  refine .ite (.some h.replan.done) ?_
  refine .ite (.some h.setNum.setHold.done) ?_
  refine .ite (.some h.writeModelClear.answerOf) ?_
  refine .ite (.some h.writeAidPos.answerOf) ?_
  refine .ite (.some h.writeOrbitLoad.answerOf) ?_
  refine .ite (.some h.writeMtSet.answerOf) ?_
  exact .ite (.some h.writeMtStep.answerOf) (.ite (.some h.writeOutRearm.answerOf) .none)

theorem Device.Stored.highAction {a k b} (h : d.Stored) : Replies (d.highAction a k b) := by
  unfold Device.highAction
  refine .ite h.portAction ?_
  refine .ite (.some h.writeXphyMdio.answerOf) ?_
  refine .ite (.some h.canCfg) ?_
  refine .ite (.some h.flushFdb.done) ?_
  refine .ite (.some h.clearRing.done) ?_
  refine .ite (.some h.writeLaneRestore.answerOf) ?_
  refine .ite (.some h.writeSlotLayout.answerOf) ?_
  refine .ite (.some h.writeJobSubmit.answerOf) ?_
  refine .ite (.some h.writeJobAbort.answerOf) ?_
  refine .ite (.some h.writeSlotData.answerOf) ?_
  refine .ite h.khAction ?_
  refine .ite (.some h.writeAtticSnap.answerOf) ?_
  refine .ite (.some h.writeAtticClear.answerOf) ?_
  refine .ite (.some h.writeMbSend.answerOf) ?_
  refine .ite (.some h.writeNextLoc.answerOf) ?_
  refine .ite (.some (.ite h.answer h.writeFwImage.answerOf)) ?_
  refine .ite (.some (⟨h.writeCommit, fun _ h1 => h1⟩)) ?_
  refine .ite (.some h.writeDiscard.answerOf) ?_
  refine .ite (.some h.cancelSlot.answerOf) ?_
  exact .ite (.some h.writeCfgSave.answerOf) (.ite (.some h.writeCfgErase.answerOf) .none)

theorem Device.Stored.writeObj {a k r b} (h : d.Stored) : (d.writeObj a k r b).Stored := by
  unfold Device.writeObj
  refine .ite (.ite h.answer h.setStaged.done) ?_
  split
  · rename_i he
    exact Replies.ite h.lowAction h.highAction _ he
  · exact h.setVal.done

theorem Device.Stored.doRead {idx sub flags cap} (h : d.Stored) : (d.doRead idx sub flags cap).Stored := by
  unfold Device.doRead
  dsimp only
  split
  · exact h.answer
  · split
    · exact h.answer
    · exact ⟨h.readDone, fun _ h1 => h1⟩

theorem Device.Stored.refuseWrite {idx sub b st} (h : d.Stored) : (d.refuseWrite idx sub b st).Stored :=
  Device.Stored.answer (.ite h.report h)

theorem Device.Stored.refuseReq {r st} (h : d.Stored) : (d.refuseReq r st).Stored := .ite h.refuseWrite h.answer

theorem Device.Stored.doWrite {a idx sub flags b} (h : d.Stored) : (d.doWrite a idx sub flags b).Stored := by
  unfold Device.doWrite
  dsimp only
  split
  · exact h.refuseWrite
  · exact h.answer
  · split
    · exact h.clearTried.refuseWrite
    · exact h.writeObj

theorem Device.Stored.doReadInit {a idx sub flags} (h : d.Stored) : (d.doReadInit a idx sub flags).Stored := by
  unfold Device.doReadInit
  dsimp only
  split
  · exact h.answer
  · split
    · exact h.answer
    · exact ⟨h.setFoyer, fun _ h1 => h1⟩

theorem Device.Stored.doWriteInit {idx sub flags b} (h : d.Stored) : (d.doWriteInit idx sub flags b).Stored := by
  unfold Device.doWriteInit
  dsimp only
  split
  · exact h.answer
  · exact h.answer
  · split
    · exact h.answer
    · exact Device.Stored.done (.ite h.setFoyer.setNum h.setFoyer)

theorem Device.Stored.doReadSeg {idx sub flags b} (h : d.Stored) : (d.doReadSeg idx sub flags b).Stored := by
  unfold Device.doReadSeg
  dsimp only
  split
  · exact h.answer
  · refine .ite h.answer ?_
    split
    · exact h.answer
    · split
      · exact h.answer
      · exact .ite (⟨h.setFoyer, fun _ h1 => h1.readDone⟩) (⟨h.setFoyer, fun _ h2 => h2⟩)

theorem Device.Stored.doWriteSeg {a idx sub flags b} (h : d.Stored) : (d.doWriteSeg a idx sub flags b).Stored := by
  unfold Device.doWriteSeg
  dsimp only
  split
  · exact h.answer
  · exact h.answer
  · refine .ite h.answer ?_
    split
    · exact h.answer
    · refine .ite h.answer ?_
      refine .ite h.dropXfer.answer ?_
      refine .ite h.dropXfer.answer ?_
      refine .ite (.ite h.answer h.setFoyer.done) ?_
      split
      · exact h.dropXfer.clearTried.refuseWrite
      · exact h.setFoyer.writeObj

theorem Device.Stored.doAbort {idx sub flags} (h : d.Stored) : (d.doAbort idx sub flags).Stored := by
  unfold Device.doAbort
  refine .ite h.answer ?_
  refine .ite h.answer ?_
  split
  · exact h.done
  · exact .ite h.dropXfer.done h.answer

theorem Device.Stored.touchXfer {idx sub write} (h : d.Stored) : (d.touchXfer idx sub write).Stored := by
  unfold Device.touchXfer
  split
  · exact .ite h.setFoyer h
  · exact h

theorem Device.Stored.doRequest {a idx sub flags cap b} (h : d.Stored) : (d.doRequest a idx sub flags cap b).Stored := by
  unfold Device.doRequest
  refine .ite h.doRead ?_
  refine .ite h.doWrite ?_
  refine .ite h.doReadInit ?_
  refine .ite h.touchXfer.doReadSeg ?_
  exact .ite h.doWriteInit (.ite h.touchXfer.doWriteSeg (.ite h.doAbort (.ite h.answer h.answer)))

theorem Device.Stored.recoveryReply {r} (h : d.Stored) : (d.recoveryReply r).Stored := by
  unfold Device.recoveryReply
  exact .ite (⟨h, fun _ h1 => h1⟩) h.refuseReq

theorem Device.Stored.authFailed {r} (h : d.Stored) : (d.authFailed r).Stored := by
  unfold Device.authFailed
  exact ⟨h.bump.setFoyer.report.refuseReq.dev, fun _ h1 => .ite h1.releaseLock h1⟩

theorem Device.Stored.ownerFrame (h : d.Stored) : (d.ownerFrame).Stored := h.setFoyer.ownerActive

theorem Device.Stored.loseObject {k b} (h : d.Stored) : (d.loseObject k b).Stored := .ite (.frame h) h

theorem Device.Stored.replyTo {r} (h : d.Stored) : (d.replyTo r).Stored := by
  unfold Device.replyTo
  refine .ite h.recoveryReply ?_
  refine .ite h.answer ?_
  refine .ite h.refuseReq ?_
  refine .ite h.refuseReq ?_
  refine .ite h.authFailed ?_
  exact
    have h1 := Device.Stored.loseObject (.meetError (.ite (.ownerFrame (.ite h.setFoyer h)) (.ite h.setFoyer h)))
    .ite h1.refuseReq h1.doRequest

theorem Reply.Stored.finish {r sess} {x : Reply} (h : x.Stored) : (Device.finish r sess x).Stored := by
  unfold Device.finish
  cases x.status with
  | none => exact .ite (h.after h.dev).seqExhausted (h.after h.dev)
  | some st => exact .ite (h.after h.dev.respond).seqExhausted (h.after h.dev.respond)

theorem Device.Stored.serveNow {r} (h : d.Stored) : (d.serveNow r).Stored := Reply.Stored.finish h.replyTo

theorem Device.Stored.takeHap {r} (h : d.Stored) : (d.takeHap r).Stored := .ite h.bump (h.causedBy fun _ h1 => h1.serveNow)

theorem Device.Stored.holdHap {r source port} (h : d.Stored) : (d.holdHap r source port).Stored := .ite h.fbWake.setFoyer h.fbWake

/-! ## Arriving frames -/

theorem Device.Stored.ipTakes {k f} (h : d.Stored) : (d.ipTakes k f).Stored := .frame h

theorem Device.Stored.hallTake {p fine f t16 req} (h : d.Stored) : (d.hallTake p fine f t16 req).Stored := by
  unfold Device.hallTake
  dsimp only
  refine .ite (.bump (.ite h.ipTakes.mirror h)) ?_
  split
  · exact .cellCheck (.toIp0 (.ipTakes (.ite h.ipTakes.mirror h)))
  · exact .ite (.takeHap (.ipTakes (.ite h.ipTakes.mirror h))) (.ite h.ipTakes.mirror h)
  · exact .ipTakes (.ite h.ipTakes.mirror h)
  · exact .bump (.ite h.ipTakes.mirror h)
  · exact .forward (.ite h.ipTakes.mirror h)

theorem Device.Stored.countRx {p body} (h : d.Stored) : (d.countRx p body).Stored := h.bump64.bumpBy

theorem Device.Stored.numberFrame (h : d.Stored) : (d.numberFrame).Stored := .frame h

theorem Device.Stored.deliver {d0 : Device} {p fine body word t16 mem req} (h : d0.Stored) : (d0.deliver p fine body word t16 mem req).Stored := by
  unfold Device.deliver
  dsimp only
  refine .ite h.freeEnded.bump64.portDrop ?_
  refine .ite h.freeEnded.countRx.setNum.setNum ?_
  split
  · exact h.freeEnded.countRx.sendOwn
  · exact have h1 := h.freeEnded.countRx.meetError; .ite h1 h1.numberFrame.hallTake

theorem Device.Stored.wakeFrame {p pat f} (h : d.Stored) : (d.wakeFrame p pat f).Stored := h.setNum.report.setPort.fbWake

theorem Device.Stored.ingress {d00 : Device} {p fine body err mem req loop} (h : d00.Stored) : (d00.ingress p fine body err mem req loop).Stored := by
  unfold Device.ingress
  dsimp only
  refine .ite ?_ ?_
  · exact .portDrop (.wrap (.ite_trd (.rxStamp (.ite h.wrap h)) (.ite h.wrap h)))
  · refine .ite ?_ ?_
    · exact .portDrop (.wrap (.ite_trd (.rxStamp (.ite h.wrap h)) (.ite h.wrap h)))
    · refine .ite ?_ ?_
      · exact .portDrop (.wrap (.ite_trd (.rxStamp (.ite h.wrap h)) (.ite h.wrap h)))
      · refine .ite ?_ ?_
        · refine .wrap ?_
          split
          · exact .fbWake (.report (.setNum (.ite_trd (.rxStamp (.ite h.wrap h)) (.ite h.wrap h))))
          · exact .ite_trd (.rxStamp (.ite h.wrap h)) (.ite h.wrap h)
        · refine .ite ?_ ?_
          · split
            · refine .ite ?_ ?_
              · exact .wakeFrame (.ite_trd (.rxStamp (.ite h.wrap h)) (.ite h.wrap h))
              · exact .wrap (.wakeFrame (.ite_trd (.rxStamp (.ite h.wrap h)) (.ite h.wrap h)))
            · exact .wrap (.ite_trd (.rxStamp (.ite h.wrap h)) (.ite h.wrap h))
          · exact .deliver (.ite_trd (.rxStamp (.ite h.wrap h)) (.ite h.wrap h))

theorem Device.Stored.receive {p fine body err mem req} (h : d.Stored) : (d.receive p fine body err mem req).Stored :=
  .ite h (.ite h.bump h.ingress)

theorem Device.Stored.frameReceive {d0 : Device} {p wait fine body err mem env} (h : d0.Stored) :
    (d0.frameReceive p wait fine body err mem env).Stored :=
  h.elapse.receive

theorem Device.Stored.hapServe {r} (h : d.Stored) : (d.hapServe r).Stored :=
  .ite h (.ite (.ite h (.ite h.canReceived.holdHap h.canReceived.takeHap)) h.receive)

theorem Device.Stored.serveRetained {p env} (h : d.Stored) : (d.serveRetained p env).Stored := by
  unfold Device.serveRetained
  dsimp only
  split
  · exact h
  · exact .ite h.setPort.deliver h.setPort.wrap

/-! ## Commands that cross chapters -/

theorem Device.Stored.loopBack {p f} (h : d.Stored) : (d.loopBack p f).Stored := h.returnStamp.ingress

theorem Device.Stored.releaseTo {p q f} (h : d.Stored) : (d.releaseTo p q f).Stored := .ite h.loopBack h.takePlace

theorem Device.Stored.frameRelease {p} (h : d.Stored) : (d.frameRelease p).Stored := by
  unfold Device.frameRelease
  refine .ite h ?_
  split
  · rename_i he
    have h1 := Device.Stored.of_snd h.nextRelease he
    exact h1.releaseTo.ipDrain
  · rename_i he
    have h2 := Device.Stored.of_snd h.nextRelease he
    exact h2.ipDrain

theorem Device.Stored.sendCredit {p q} (h : d.Stored) : (d.sendCredit p q).Stored := by
  unfold Device.sendCredit
  split
  · exact h
  · exact h.bringCredits.setEgress

theorem Device.Stored.frameTransmit {p wait fine} (h : d.Stored) : (d.frameTransmit p wait fine).Stored := by
  unfold Device.frameTransmit
  dsimp only
  split
  · exact h
  · exact
      have h1 := h.freeEnded.commitFrame
      .ite h1 (.ite h1.ipDrain (have h2 := h1.setPort.sendCredit; .ipDrain (.ite h2.mirror h2)))

theorem Device.Stored.linkRises {p} (h : d.Stored) : (d.linkRises p).Stored := h.linkUp.portFollow

theorem Device.Stored.linkFalls {p} (h : d.Stored) : (d.linkFalls p).Stored := .ite h h.linkLost.portFollow.cellCheck

theorem Device.Stored.decide {d0 : Device} {q cls g} (h : d0.Stored) : (d0.decide q cls g).Stored :=
  have h1 := Device.Stored.ite h.setRing.touchClient.noteUntracked h.setRing.touchClient
  .ite h1.refuse (.ite h1.admitLedger h1.admitPlain)

theorem Device.Stored.resetClient {g q} (h : d.Stored) : (d.resetClient g q).Stored := h.setParl

theorem Device.Stored.admission {d0 : Device} {wait mem} (h : d0.Stored) : (d0.admission wait mem).Stored := by
  unfold Device.admission
  dsimp only
  split
  · exact h
  · split
    · split
      · exact h.runTo.dueMessages.setParl.meetError.bump
      · exact .decide (.ite h.runTo.dueMessages.setParl.meetError.resetClient h.runTo.dueMessages.setParl.meetError)
    · exact h.runTo.dueMessages.setParl.meetError

theorem Device.Stored.handFrame {d0 : Device} {r f} (h : d0.Stored) : (d0.handFrame r f).Stored :=
  have h1 := h.freeEnded.numberFrame
  .ite (.frame h.freeEnded) (.ite h1.releaseTo.cellCheck (.ite h1.egressDrop h1.bringCredits.setQueue.cellCheck))

theorem Device.Stored.handover {d0 : Device} {mem} (h : d0.Stored) : (d0.handover mem).Stored := by
  unfold Device.handover
  dsimp only
  split
  · exact h
  · split
    · exact h
    · split
      · exact h.runToMt.setParl.meetError.entryLost
      · exact h.runToMt.setParl.meetError.noticeSent.handFrame
      · exact h.runToMt.setParl.meetError.handFrame

theorem Device.Stored.stampBack {d0 : Device} (h : d0.Stored) : (d0.stampBack).Stored := by
  unfold Device.stampBack
  dsimp only
  split
  · exact h
  · split
    · split
      · exact h.setParl.flightDone
      · exact h.setParl
    · exact h.setParl.delayStamped
    · exact h.setParl.leafDone
    · exact h.setParl

theorem Device.Stored.canFrame {n ident fmt data env} (h : d.Stored) : (d.canFrame n ident fmt data env).Stored := by
  unfold Device.canFrame
  dsimp only
  refine .ite h ?_
  split
  · rename_i he
    have h1 := Device.Stored.of_snd h.canReceived he
    exact h1
  · rename_i he
    have h2 := Device.Stored.of_snd h.canReceived he
    exact .ite h2.holdHap (.ite h2.takeHap h2)

theorem Device.Stored.exitComplete {d0 : Device} {env} (h : d0.Stored) : (d0.exitComplete env).Stored :=
  .ite h.exitDone (.foldl (h.exitDone.setFoyer.foldl fun _ _ h1 => h1.takeHap) fun _ _ h2 => h2.serveRetained)

end

end Sys2Proof.Machine
end

section
/-! Chapters 2, 23 and 95: every command keeps the form of the stores, and so does every step. -/

namespace Sys2Proof.Machine

/-- A command's outcome, if it is a state, has its stores in their form. -/
def KeepsStores (o : Host.Outcome State Fault Refusal) : Prop := ∀ t, o = .next t → t.dev.Stored

theorem KeepsStores.on {s : State} {f : Device → Device} (h : (f s.dev).Stored) : KeepsStores (.next (s.on f)) := by
  rintro t ⟨⟩
  exact h

theorem State.hap_stored {s : State} (h : s.dev.Stored) (hdr : HapHdr) (opcode index sub : Nat) (payload : Bytes) :
    (s.hap hdr opcode index sub payload).dev.Stored := h.hapServe

theorem KeepsStores.hap {s : State} (h : s.dev.Stored) {hdr : HapHdr} {opcode index sub : Nat} {payload : Bytes} :
    KeepsStores (.next (s.hap hdr opcode index sub payload)) := by
  rintro t ⟨⟩
  exact s.hap_stored h ..

theorem KeepsStores.hapWrite {s : State} (h : s.dev.Stored) {hdr : HapHdr} {key : Nat} {payload : Bytes} :
    KeepsStores (.next (s.hapWrite hdr key payload)) := .hap h

/-- One arbitration cycle's requests are served one after the other. -/
theorem KeepsStores.lockAcquire {s : State} (h : s.dev.Stored) (hs : List HapHdr) : KeepsStores (execLockAcquire hs s) := by
  rintro t ⟨⟩
  induction byTransport hs generalizing s with
  | nil => exact h
  | cons hdr rest ih => exact ih (s.hap_stored h ..)

theorem exec_keepsStores {s : State} (h : s.dev.Stored) (i : Instr) : KeepsStores (exec i s) :=
  match i with
  | .read _ _ _ _ _ => .hap h
  | .write _ _ _ _ => .hap h
  | .readInit _ _ _ _ => .hap h
  | .readSeg _ _ _ _ => .hap h
  | .writeInit _ _ _ _ => .hap h
  | .writeSeg _ _ _ _ => .hap h
  | .abort _ _ _ _ => .hap h
  | .xferTimeout => .on h.xferTimeout
  | .lockAcquire _ => .lockAcquire h _
  | .lockRelease _ => .hapWrite h
  | .lockIdleTimeout => .on h.lockIdle
  | .sessionHostNonce _ _ => .hapWrite h
  | .sessionProof _ _ => .hapWrite h
  | .handshakeTimeout => .on h.handshakeTimeout
  | .heartbeat => .on h.heartbeat
  | .commitImmediate _ _ _ _ _ _ => .hapWrite h
  | .commitSwitch _ _ => .on h.commitSwitch
  | .commitReadyTimeout _ => .on h.commitTimeout
  | .commitScheduled _ _ _ _ _ _ => .hapWrite h
  | .commitDiscard _ _ => .hapWrite h
  | .commitCancel _ _ => .hapWrite h
  | .slotLatch _ _ => .on h.slotLatch
  | .slotExecute _ => .on h.slotExecute
  | .mtSet _ _ => .hapWrite h
  | .mtSetApply _ => .on h.mtSetApply
  | .mtStepImmediate _ _ _ _ _ _ => .hapWrite h
  | .mtStepScheduled _ _ _ _ _ _ => .hapWrite h
  | .stepApply _ _ => .on h.stepApply
  | .pullComplete => .on h.pullComplete
  | .domPullComplete _ => .on h.domPullComplete
  | .leapPendingBegin => .on h.leapPendingBegin
  | .leapInstant => .on h.leapInstant
  | .mtReplicaFault _ => .on h.replicaFault
  | .resetRelease _ _ _ _ _ _ => .on h.release
  | .supplyReset _ _ => .on h.supplyReset
  | .rstNAssert => .on h.assertReset
  | .overtempReset => .on h.assertReset
  | .deviceWatchdog => .on h.deviceWatchdog
  | .configLoad _ => .on h.configLoad
  | .rootLock => .on h.rootLock
  | .rootLockLost _ => .on h.rootLockLost
  | .rootFault _ _ => .on h.rootFault
  | .loMeasure _ => .on h.loMeasure
  | .ckoAlign _ => .on h.ckoAligned
  | .dpllUpdate => .on h.dpllUpdate
  | .candidatePhaseMeasurement _ _ _ => .on h.phaseArrives
  | .freqMonitor _ => .on h.freqMonitor
  | .activityTimeout _ => .on h.activityTimeout
  | .holdoffExpiry _ => .on h.holdoffExpiry
  | .wtrExpiry _ => .on h.wtrExpiry
  | .selectionEvaluation _ => .on h.evaluate.wakeOnT5
  | .lockDwellExpiry => .on h.lockDwell
  | .learningSample => .on h.learningSample
  | .modelRefit => .on h.modelRefit
  | .modelSave => .on h.modelSave
  | .tempSample _ _ _ => .on (.ite h.tempSample.setNum h.tempSample)
  | .tempHostTimeout => .on h.tempHostTimeout
  | .boundUpdate => .on h.boundUpdate.wakeOnT5
  | .compatTimerExpiry => .on h.compatExpiry.wakeOnT5
  | .hoModelClear _ _ => .hapWrite h
  | .acqDwell _ _ _ _ _ _ _ => .on h.acqDwell
  | .pullInTimeout _ => .on h.pullInTimeout
  | .correlatorDump _ _ _ _ _ => .on h.dump
  | .coastTimeout _ => .on h.coastTimeout
  | .loopUpdateTimeout => .on h.loopTimeout
  | .measLatch _ _ _ => .on h.measLatch
  | .antCurrentMeasure _ => .on h.antMeasure
  | .antShortRetry _ => .on h.antRetry
  | .agcInterference _ _ _ => .on h.agc
  | .skyOrbitLoad _ _ => .hapWrite h
  | .skyAidPos _ _ => .hapWrite h
  | .skyPps _ => .on h.skyPps
  | .parkBurst _ _ => .on h.parkBurst
  | .predictionExpiry => .on h.predictionExpiry
  | .edgeInput _ _ _ _ => .on h.edgeInput
  | .stampConversion _ => .on h.convert
  | .intervalTimeout _ => .on h.intervalTimeout
  | .regGateEnd _ => .on h.regGateEnd
  | .tdcCalSwap _ _ _ => .on h.calSwap
  | .tdcCalComplete => .on h.calComplete
  | .chFifoRead _ _ => .hap h
  | .outEdge _ => .on h.outEdge
  | .outTrailingEdge _ => .on h.outTrailing
  | .outRearm _ _ _ => .hap h
  | .frameReceive _ _ _ _ _ _ _ => .on h.frameReceive
  | .frameRelease _ => .on h.frameRelease
  | .frameTransmit _ _ _ => .on h.frameTransmit
  | .collision _ _ => .on h.collision
  | .backoffExpiry _ => .on h.backoffExpiry
  | .plcaBeaconTimeout _ => .on h.plcaTimeout
  | .linkUp _ => .on h.linkRises
  | .linkLoss _ => .on h.linkFalls
  | .trainingRetry _ => .on h.trainingRetry
  | .gateBoundary _ => .on h.gateBoundary
  | .fdbAgeingExpiry => .on h.fdbAge
  | .hallFdbFlush _ _ => .hapWrite h
  | .xphyMdio _ _ => .hapWrite h
  | .portCntClear _ _ _ => .hap h
  | .stampProbeSend _ _ _ => .hap h
  | .canCfg _ _ _ => .hap h
  | .canIntegrated _ => .on h.canIntegrated
  | .canFrameReceive _ _ _ _ _ => .on h.canFrame
  | .canError _ _ _ => .on h.canError
  | .canBusoffRecovery _ => .on h.canRecover
  | .requestAdmission _ _ => .on h.admission
  | .responseHandover _ => .on h.handover
  | .txStampReturn => .on h.stampBack
  | .ringObsClear _ _ _ => .hap h
  | .ntskeConnection _ _ => .on h.ntskeRun
  | .ntskeTimeout => .on h.ntskeExpire
  | .syncSchedule _ _ => .on h.syncSchedule
  | .announceSchedule _ _ => .on h.announceSchedule
  | .delayReqSchedule _ _ => .on h.delaySchedule
  | .ptpSyncRx _ => .on h.syncRx
  | .ptpFollowUpRx _ => .on h.followUpRx
  | .ptpAnnounceRx => .on h.announceRx
  | .ptpDelayRespRx => .on h.delayRespRx
  | .ptpPdelayRespRx => .on h.pdelayRespRx
  | .ptpSignalingRx => .on h.signalingRx
  | .bmcaDecision _ => .on h.bmca
  | .qualificationTimeout _ _ => .on h.qualified
  | .announceReceiptTimeout _ _ => .on h.announceTimeout
  | .syncReceiptTimeout _ _ => .on h.syncTimeout
  | .pdelayLostResponses _ _ => .on h.lostResponses
  | .freeBoundUpdate _ => .on h.freeBoundUpdate
  | .batchEnd => .on h.batchEnd
  | .rootComplete _ => .on h.rootComplete
  | .signComplete _ => .on h.signComplete
  | .verifyComplete _ _ _ => .on h.verifyComplete
  | .bookedJobTimeout => .on h.bookedTimeout
  | .srJobSubmit _ _ => .hapWrite h
  | .jobDispatch => .on h.jobDispatch
  | .jobCheckEnd _ _ => .on h.jobCheckEnd
  | .jobYield _ _ _ => .on h.jobYield
  | .jobComplete _ _ _ _ => .on h.jobComplete
  | .srJobAbort _ _ => .hapWrite h
  | .srLaneRestore _ _ => .hapWrite h
  | .selfTestComplete _ _ _ => .on h.selfTestEnd
  | .srSlotLayout _ _ => .hapWrite h
  | .srSlotData _ _ _ => .hap h
  | .entropyHealthFailure _ => .on h.entropyFailed
  | .entropyRetest _ => .on h.entropyRetest
  | .drbgReseed => .on h.reseedDue
  | .khProvision _ _ => .hapWrite h
  | .khOwnerPubSet _ _ => .hapWrite h
  | .khOwnerKeySet _ _ => .hapWrite h
  | .khProvCommit _ _ => .hapWrite h
  | .khOwnerXfer _ _ => .hapWrite h
  | .khKeygen _ _ => .hapWrite h
  | .keygenComplete _ => .on h.keygenComplete
  | .khKeyDestroy _ _ => .hapWrite h
  | .khNtsRotate _ _ => .hapWrite h
  | .ntsRotatePeriodExpiry => .on h.rotateDue
  | .khCosignEnable _ _ => .hapWrite h
  | .khRollbackCommit _ _ => .hapWrite h
  | .tamperInput _ => .on h.tamperInput.wakeOnTamper
  | .khTamperClear _ _ => .hapWrite h
  | .khAttestReq _ _ => .hapWrite h
  | .attestComplete => .on h.attestComplete
  | .coreWatchdogExpiry _ => .on h.coreWatchdog
  | .coreReloadComplete _ _ => .on h.coreReload
  | .studyFwImage _ _ _ => .hap h
  | .fwCopyComplete => .on h.fwCopied
  | .studyNextLoc _ _ => .hapWrite h
  | .mbSend _ _ _ => .hap h
  | .mbRecv _ _ => .hap h
  | .dbIrqMask _ _ => .hapWrite h
  | .mb8Service => .on h.mb8Service
  | .recordForm => .on h.formRecord
  | .flashRecordWrite _ => .on h.flashWrite
  | .atticSnap _ _ => .hapWrite h
  | .atticClear _ _ => .hapWrite h
  | .atticClearComplete => .on h.clearComplete
  | .latencyTol _ _ => .hapWrite h
  | .idleTimeExpiry => .on h.idleExpiry
  | .powerEntryComplete => .on h.entryComplete
  | .wake _ _ => .on h.wake
  | .wakeInPin _ _ => .on h.wakeIn
  | .cellarAlarm => .on h.cellarAlarm
  | .sequencerStepStart => .on h.sequencerStep
  | .exitComplete _ => .on h.exitComplete
  | .marginReplan _ _ => .on h.marginReplan
  | .ageReplanNow _ _ => .hapWrite h
  | .avsWriteRetry _ => .on h.avsWriteRetry
  | .cellarMinute => .on h.cellarMinute
  | .xtalOffsetMeasure => .on h.xtalMeasure
  | .cellarSnapshot => .on h.cellarSnapshot
  | .vbatLow _ => .on h.vbatLevel
  | .railFault _ _ => .on h.railFault
  | .cfgSave _ _ => .hapWrite h
  | .cfgSaveComplete _ => .on h.cfgSaved
  | .cfgErase _ _ => .hapWrite h
  | .pullWithinLockThresh => .on h.pullWithin
  | .plcaBeacon _ _ => .on h.plcaBeacon
  | .firstBatchOpen => .on h.firstBatch
  | .crystalStopped => .on h.crystalStopped
  | .testEnHigh => .on h.assertReset
  | .wdtStartsClear => .on h.wdtClear
  | .powerUpGrantTimeout => .on h.grantTimeout
  | .portPowerRecommit => .on h.portRecommit
  | .aggregateStampDemand => .on h.stampDemand

/-- Settles O3: every operation writes the stores through `setVal`, `setStaged` or a filter, which keep their form. -/
theorem storesStayCanonical : Obligations.StoresStayCanonical := by
  intro s t h hstep
  cases hq : s.pending with
  | nil =>
    rw [step_of_pending_nil hq] at hstep
    cases hstep
    exact h.elapse
  | cons c rest =>
    unfold step at hstep
    rw [hq] at hstep
    exact exec_keepsStores (s := { s with pending := rest }) h c t hstep

end Sys2Proof.Machine
end
